-- ==== Sys2Proof/Word.lean ====
section
/-! DEFINITION. The word types of the PX12 and their plainest arithmetic (R8). -/

namespace Sys2Proof

/-- A register word of BAR0, 32 bits. -/
abbrev Word := BitVec 32

/-- A byte. -/
abbrev Byte := BitVec 8

end Sys2Proof
end

