-- ==== Sys2Proof/Image.lean ====
section
/-! DEFINITION. The mortar image (R24, R25) as it is decoded: header, directory and the content of the sections.
The byte layout of the section bodies is supplied with Clorno and not in the spec, except the 84 bytes of SAFETY
(R482); header and directory are read from bytes (log entry 5). Quantities: per unit in LSB 2^-28 (R8), gains and
rates in the same fixed point, times in the unit the spec's table names. -/

namespace Sys2Proof

/-- A per-unit quantity, gain or rate with 28 fractional bits (R8). -/
abbrev Pu := Int

/-- 1.0 pu. -/
def one : Pu := 0x10000000

/-- `pu n d` is the per-unit quantity n / d, nearest. -/
def pu (n : Int) (d : Nat) : Pu := (2 * n * 0x10000000 + d) / (2 * d)

/-- Tile types of R11. -/
inductive TileType where
  | idle | ac | chopper
  deriving DecidableEq, Repr

/-- The six stages of R67. -/
inductive Stage where
  | condition | grid | arm | rank | schedule | emit
  deriving DecidableEq, Repr

/-- The twelve modes of R86. -/
inductive Mode where
  | isolated | charge | blocked | reactive | follow | dcSlack | form | harvest | acRide | dcRide | discharge | lineTest
  deriving DecidableEq, Repr

/-- Structure of one tile (R11 to R14, R167, R168). `phase` 0 a, 1 b, 2 c, 3 chopper or idle; `lower` the arm position. -/
structure TileCfg where
  type : TileType
  group : Nat
  stages : List Stage
  courses : List Nat
  phase : Nat
  lower : Bool
  deriving DecidableEq, Repr

/-- Cycle parameters of a group (R59), in the units of PL_TIMING and PL_OUTER: L, P and lead in 0.5 µs, D_R and D_E
in 0.25 µs; `watchdog` is the brick watchdog count of R60. -/
structure GroupCfg where
  cycle : Nat
  phase : Nat
  lead : Nat
  dr : Nat
  de : Nat
  div : Nat
  missLimit : Nat
  watchdog : Nat
  deriving DecidableEq, Repr

/-- Expected brick count of a course (R281); `spareUnknown` for a spare course with N_c 0. -/
structure CourseCfg where
  nc : Nat
  minRevision : Nat
  deriving DecidableEq, Repr

/-- STRUCTURE section: twelve tiles, four groups, and N_c of each course. -/
structure Structure where
  tiles : List TileCfg
  groups : List (Option GroupCfg)
  courses : List (Nat × CourseCfg)
  deriving DecidableEq, Repr

/-- Mode parameters of a group (R94). LT_RAMP in pu/s, LT_HOLD in ms, DIS_TIMEOUT in s. -/
structure ModeCfg where
  chgCtrl : Pu
  chgDone : Pu
  chgSpread : Pu
  minBricks : Option Nat
  deadBus : Pu
  dcBand : Pu
  ltResidual : Pu
  ltTarget : Pu
  ltRamp : Pu
  ltHold : Nat
  ltIlim : Pu
  disDone : Pu
  disTimeout : Nat
  fadeLen : Nat
  interlock : List (Nat × Nat)
  transEn : List Nat
  transAuto : List Nat
  deriving DecidableEq, Repr

/-- Synchronisation parameters of R133. F_NOM in Hz. -/
structure SyncCfg where
  fNom : Nat
  seqK : Pu
  pllKp : Pu
  pllKi : Pu
  freqRange : Pu
  lockErr : Pu
  lockN : Nat
  unlockErr : Pu
  vminSync : Pu
  deriving DecidableEq, Repr

/-- The Default column of R133, synchronisation. -/
def SyncCfg.standard : SyncCfg :=
  { fNom := 50, seqK := pu 71 100, pllKp := pu 5 10, pllKi := pu 50 1, freqRange := pu 10 100, lockErr := pu 2 100, lockN := 100,
    unlockErr := pu 10 100, vminSync := pu 15 100 }

/-- Current control parameters of R133; `priorityP` is PRIORITY = P. -/
structure CurCfg where
  xEq : Pu
  ccKp : Pu
  ccKi : Pu
  ciLim : Pu
  iMax : Pu
  iMaxNeg : Pu
  iMaxDeg : Pu
  priorityP : Bool
  vOutMax : Pu
  fbHold : Nat
  substDiff : Pu
  deriving DecidableEq, Repr

/-- The Default column of R133, current control. -/
def CurCfg.standard : CurCfg :=
  { xEq := pu 15 100, ccKp := pu 5 10, ccKi := pu 100 1, ciLim := pu 30 100, iMax := pu 110 100, iMaxNeg := pu 30 100,
    iMaxDeg := pu 80 100, priorityP := false, vOutMax := pu 125 100, fbHold := 4, substDiff := pu 5 100 }

/-- Outer-loop gains, droop, limits and ramps of R133. -/
structure LoopCfg where
  kpP : Pu
  kiP : Pu
  kpQ : Pu
  kiQ : Pu
  kpVac : Pu
  kiVac : Pu
  kpDc : Pu
  kiDc : Pu
  dcDroop : Pu
  pLim : Pu
  qLim : Pu
  rampP : Pu
  rampQ : Pu
  rampVac : Pu
  rampF : Pu
  rampVdc : Pu
  deriving DecidableEq, Repr

/-- The Default column of R133, outer loops, limits and ramps. -/
def LoopCfg.standard : LoopCfg :=
  { kpP := pu 2 10, kiP := pu 20 1, kpQ := pu 2 10, kiQ := pu 20 1, kpVac := pu 2 1, kiVac := pu 40 1, kpDc := pu 5 1, kiDc := pu 200 1,
    dcDroop := 0, pLim := pu 1 1, qLim := pu 50 100, rampP := pu 1 1, rampQ := pu 1 1, rampVac := pu 5 10, rampF := pu 1 10,
    rampVdc := pu 5 10 }

/-- Forming parameters of R133. -/
structure FormCfg where
  kp : Pu
  ki : Pu
  vmin : Pu
  vmax : Pu
  fDroop : Pu
  iLim : Pu
  rv : Pu
  xvImp : Pu
  deriving DecidableEq, Repr

/-- The Default column of R133, forming. -/
def FormCfg.standard : FormCfg :=
  { kp := pu 5 10, ki := pu 20 1, vmin := pu 90 100, vmax := pu 110 100, fDroop := pu 2 100, iLim := pu 1 1, rv := pu 2 100,
    xvImp := pu 30 100 }

/-- A ride-through curve (R151): points are (time in µs, threshold). -/
structure Curve where
  linear : Bool
  curveN : Nat
  tMax : Nat
  points : List (Nat × Pu)
  deriving DecidableEq, Repr

/-- A curve an image does not give: no points, so that it never trips (R151). -/
def Curve.none : Curve := ⟨false, 1, 1000, []⟩

/-- Ride-through parameters of R157. REPEAT_WIN in units of 0.1 s; angles in rad. -/
structure RideCfg where
  detN : Nat
  acMeas : Nat
  acUvEnter : Pu
  acUvExit : Pu
  acOvEnter : Pu
  acOvExit : Pu
  negEnter : Pu
  negExit : Pu
  dcUvEnter : Pu
  dcUvExit : Pu
  dcOvEnter : Pu
  dcOvExit : Pu
  enterN : Nat
  dcEnterN : Nat
  exitN : Nat
  deriving DecidableEq, Repr

/-- The Default column of R157, detection, entry and exit. -/
def RideCfg.standard : RideCfg :=
  { detN := 10, acMeas := 1, acUvEnter := pu 85 100, acUvExit := pu 90 100, acOvEnter := pu 110 100, acOvExit := pu 108 100,
    negEnter := pu 10 100, negExit := pu 5 100, dcUvEnter := pu 75 100, dcUvExit := pu 85 100, dcOvEnter := pu 110 100,
    dcOvExit := pu 105 100, enterN := 2, dcEnterN := 2, exitN := 5 }

/-- Injection, recovery, repeat and jump parameters of R157. -/
structure RecovCfg where
  kPos : Pu
  kNeg : Pu
  db : Pu
  actMode : Nat
  dcRideRef : Pu
  recovRampP : Pu
  recovRampQ : Pu
  rideRepeat : Nat
  repeatWin : Nat
  jumpDet : Pu
  jumpN : Nat
  jumpTrip : Pu
  deriving DecidableEq, Repr

/-- The Default column of R157, injection, recovery, repeat and jump. -/
def RecovCfg.standard : RecovCfg :=
  { kPos := pu 2 1, kNeg := pu 2 1, db := pu 10 100, actMode := 1, dcRideRef := pu 1 1, recovRampP := pu 10 1, recovRampQ := pu 20 1,
    rideRepeat := 3, repeatWin := 100, jumpDet := pu 17 100, jumpN := 2, jumpTrip := 0 }

/-- Islanding parameters of R161; times in ms, ROCOF_TH in pu/s. -/
structure IslCfg where
  action : Nat
  blank : Nat
  fLo : Pu
  fHi : Pu
  fTime : Nat
  rocofTh : Pu
  rocofWin : Nat
  vsTh : Pu
  aiEn : Bool
  aiAmp : Pu
  aiPeriod : Nat
  aiLen : Nat
  zTh : Pu
  aiConf : Nat
  deriving DecidableEq, Repr

/-- The Default column of R161. -/
def IslCfg.standard : IslCfg :=
  { action := 0, blank := 500, fLo := pu 960 1000, fHi := pu 1040 1000, fTime := 200, rocofTh := pu 20 1000, rocofWin := 100,
    vsTh := pu 20 100, aiEn := false, aiAmp := pu 3 100, aiPeriod := 100, aiLen := 5, zTh := pu 50 100, aiConf := 3 }

/-- Harvest parameters of R166. SCAN_PERIOD in min, SCAN_RATE in pu/s. -/
structure HarvCfg where
  perBrick : Bool
  winLo : Pu
  winHi : Pu
  trkDiv : Nat
  trkStep : Pu
  trkDb : Pu
  trkHoldN : Nat
  kpPv : Pu
  kiPv : Pu
  scanPeriod : Nat
  scanLo : Pu
  scanHi : Pu
  scanRate : Pu
  deriving DecidableEq, Repr

/-- The Default column of R166. -/
def HarvCfg.standard : HarvCfg :=
  { perBrick := false, winLo := pu 60 100, winHi := pu 105 100, trkDiv := 50, trkStep := pu 5 1000, trkDb := pu 1 1000, trkHoldN := 4,
    kpPv := pu 2 1, kiPv := pu 20 1, scanPeriod := 15, scanLo := pu 60 100, scanHi := pu 105 100, scanRate := pu 20 100 }

/-- CURVES of a group: the four curves AC_UV, AC_OV, DC_UV, DC_OV and the parameters. -/
structure Curves where
  curves : List Curve
  ride : RideCfg
  recov : RecovCfg
  isl : IslCfg
  harv : HarvCfg
  deriving DecidableEq, Repr

/-- CURVES as it stands where an image gives none of it: no curve, the Default columns of R157, R161 and R166. -/
def Curves.standard : Curves := ⟨List.replicate 4 .none, .standard, .standard, .standard, .standard⟩

/-- One compensation table (R138); `modes` the 12-bit mask, `entries` up to 1,024 values (absent ones read 0). -/
structure CompTable where
  modes : Nat
  offset : Nat
  scaleSrc : Nat
  gain : Pu
  compMax : Pu
  entries : List Pu
  deriving DecidableEq, Repr

/-- A set-point binding (R135). `lm`, `entry` name the sequence entry of an analogue source, `evt` the line of a pulse source. -/
structure SpBind where
  word : Nat
  pulse : Bool
  lm : Nat
  entry : Nat
  evt : Nat
  rawLo : Int
  rawHi : Int
  spLo : Pu
  spHi : Pu
  lossLo : Int
  lossHi : Int
  lossTime : Nat
  useFallback : Bool
  fallback : Pu
  lossFault : Nat
  returnN : Nat
  deriving DecidableEq, Repr

/-- Energy balancing and circulating-current parameters of R187. -/
structure BalCfg where
  eRef : Pu
  kpE : Pu
  kiE : Pu
  pDemMax : Pu
  kpH : Pu
  kiH : Pu
  iHMax : Pu
  kpV : Pu
  kiV : Pu
  iVMax : Pu
  iZMax : Pu
  kzP : Pu
  kzI : Pu
  kzR1 : Pu
  kzR2 : Pu
  vzMax : Pu
  deriving DecidableEq, Repr

/-- The Default column of R187, balancing and circulating current. -/
def BalCfg.standard : BalCfg :=
  { eRef := pu 1 1, kpE := pu 5 10, kiE := pu 5 1, pDemMax := pu 10 100, kpH := pu 5 10, kiH := pu 5 1, iHMax := pu 10 100,
    kpV := pu 5 10, kiV := pu 5 1, iVMax := pu 15 100, iZMax := pu 60 100, kzP := pu 3 10, kzI := pu 50 1, kzR1 := pu 100 1,
    kzR2 := pu 200 1, vzMax := pu 5 100 }

/-- Arm limits, supervision, charge and discharge parameters of R187. DIS_F in Hz. -/
structure ArmCfg where
  isignHyst : Pu
  iArmLim : Pu
  iArmLimDeg : Pu
  iArmTrip : Pu
  ovmN : Nat
  vbarHi : Pu
  vbarLo : Pu
  vbarN : Nat
  chgTgt : Pu
  chgRate : Pu
  disIz : Pu
  disF : Nat
  disIch : Pu
  deriving DecidableEq, Repr

/-- The Default column of R187, arms, charge and discharge. -/
def ArmCfg.standard : ArmCfg :=
  { isignHyst := pu 1 100, iArmLim := pu 120 100, iArmLimDeg := pu 90 100, iArmTrip := pu 160 100, ovmN := 50, vbarHi := pu 120 100,
    vbarLo := pu 75 100, vbarN := 10, chgTgt := pu 1 1, chgRate := pu 10 100, disIz := pu 10 100, disF := 5, disIch := pu 5 100 }

/-- Chopper parameters of R187. -/
structure ChopCfg where
  chOn : Pu
  chOff : Pu
  kpDis : Pu
  chPmax : Pu
  chImax : Pu
  chRideRef : Pu
  kpCh : Pu
  kiCh : Pu
  deriving DecidableEq, Repr

/-- The Default column of R187, chopper. -/
def ChopCfg.standard : ChopCfg :=
  { chOn := pu 108 100, chOff := pu 104 100, kpDis := pu 10 1, chPmax := pu 1 1, chImax := pu 110 100, chRideRef := pu 105 100,
    kpCh := pu 5 10, kiCh := pu 100 1 }

/-- Rank and dwell parameters of a tile (R216), in the units of PL_RANK_CFG and PL_DWELL_CFG. -/
structure RankCfg where
  band : Nat
  swapMax : Nat
  reportHold : Nat
  echoN : Nat
  tDwell : Nat
  tDead : Nat
  dtComp : Bool
  tMinp : Nat
  pulseMode : Nat
  deriving DecidableEq, Repr

/-- The Default column of R216, for a tile to which CONTROL gives no values. -/
def RankCfg.standard : RankCfg :=
  { band := 164, swapMax := 8, reportHold := 2, echoN := 4, tDwell := 40, tDead := 100, dtComp := true, tMinp := 200, pulseMode := 0 }

/-- CONTROL of a group (R133, R187). -/
structure GroupControl where
  sync : SyncCfg
  cur : CurCfg
  loops : LoopCfg
  form : FormCfg
  bal : BalCfg
  arm : ArmCfg
  chop : ChopCfg
  deriving DecidableEq, Repr

/-- CONTROL as it stands where an image gives none of it. -/
def GroupControl.standard : GroupControl := ⟨.standard, .standard, .standard, .standard, .standard, .standard, .standard⟩

/-- Where a feedback or chopper signal comes from (FORMATS; R114, R140, R184): values `idx` and the two after it of a
sampled-value subscription, entries of a local converter, the arm currents of the group, or the brick sum. -/
inductive SigSrc where
  | none
  | sv (sub idx : Nat)
  | lm (unit entry : Nat)
  | arms
  | brickSum
  deriving DecidableEq, Repr

/-- Scaling, sources and plausibility limits of one feedback signal (FORMATS; R114, R140, R141). The scale is per unit
per raw LSB; a value outside lo..hi is implausible. -/
structure SigCfg where
  primary : SigSrc
  alternate : SigSrc
  scaleP : Pu
  scaleA : Pu
  lo : Pu
  hi : Pu
  deriving DecidableEq, Repr

/-- FORMATS of a group: bases (R113), ratios (R178, R184), the four feedback signals (AC voltage, AC current, DC pole
voltage, DC pole current), the arm current and chopper current entries (converter, entry) per tile with their scale, the
set-point bindings (R135). -/
structure Formats where
  vAcBase : Nat
  sBase : Nat
  vDcBase : Nat
  brickRatio : Pu
  chRatio : Pu
  signals : List SigCfg
  armSrc : List (Nat × Nat × Nat)
  armScale : Pu
  binds : List SpBind
  deriving DecidableEq, Repr

/-- FORMATS of a group to which an image gives none: no source, no binding, bases and ratios 0 (log entry 3). -/
def Formats.none : Formats :=
  { vAcBase := 0, sBase := 0, vDcBase := 0, brickRatio := 0, chRatio := 0, signals := [], armSrc := [], armScale := 0, binds := [] }

/-- Class L tables in force for a group (R25, R34): CONTROL with the tile parameters of its tiles, CURVES, COMP by table
number, FORMATS. -/
structure GroupTables where
  control : GroupControl
  rank : List (Nat × RankCfg)
  curves : Curves
  comp : List (Nat × CompTable)
  formats : Formats
  deriving DecidableEq, Repr

/-- The tables of a group to which an image gives none: the Default columns (log entry 3). -/
def GroupTables.standard : GroupTables := ⟨.standard, [], .standard, [], .none⟩

/-- The class L tables an image or a packet gives a group (R25, R33): each table of a section given or not; the values of a tile
and a compensation table by number; the curves as the bytes of R151's format. -/
structure TableSet where
  sync : Option SyncCfg
  cur : Option CurCfg
  loops : Option LoopCfg
  form : Option FormCfg
  bal : Option BalCfg
  arm : Option ArmCfg
  chop : Option ChopCfg
  rank : List (Nat × RankCfg)
  curves : List (List (BitVec 8))
  ride : Option RideCfg
  recov : Option RecovCfg
  isl : Option IslCfg
  harv : Option HarvCfg
  comp : List (Nat × CompTable)
  formats : Option Formats
  deriving DecidableEq, Repr

def TableSet.empty : TableSet :=
  { sync := none, cur := none, loops := none, form := none, bal := none, arm := none, chop := none, rank := [], curves := [],
    ride := none, recov := none, isl := none, harv := none, comp := [], formats := none }

/-- One entry of the FAULTS section (R377). -/
structure ReactEntry where
  reaction : Nat
  err : Bool
  groups : Nat
  deriving DecidableEq, Repr

/-- FAULTS: the 512 entries, and per source range (first, last) the register offsets of the SNAPSHOT words (R390). -/
structure FaultsCfg where
  entries : List ReactEntry
  snaps : List (Nat × Nat × List Nat)
  deriving DecidableEq, Repr, Inhabited

/-- The safety parameter block in the units of R482. -/
structure SafetyCfg where
  salt : Nat
  sbcFilter : Nat
  tripFilter : List Nat
  tripCourses : List Nat
  tripBrake : Nat
  ovEn : Bool
  ovLm : Nat
  ovAin : Nat
  ovDecim : Nat
  ovN : Nat
  ovOn : Nat
  ovOff : Nat
  ovLoss : Nat
  ovLossBrake : Bool
  ssBrake : Bool
  ssSafeBlock : Bool
  relN : Nat
  restoreT : Nat
  opLen : Nat
  opPeriod : Nat
  fbRise : Nat
  fbDisc : Nat
  loadIgnore : Nat
  degLimit : Nat
  sbRepeat : Nat
  sealWord : Nat
  deriving DecidableEq, Repr

/-- A parameter block of zeros, in force before any image is built; SAFETY is then not ready and nothing reads it. -/
def SafetyCfg.zero : SafetyCfg :=
  { salt := 0, sbcFilter := 0, tripFilter := [], tripCourses := [], tripBrake := 0, ovEn := false, ovLm := 0, ovAin := 0,
    ovDecim := 0, ovN := 0, ovOn := 0, ovOff := 0, ovLoss := 0, ovLossBrake := false, ssBrake := false,
    ssSafeBlock := false, relN := 0, restoreT := 0, opLen := 0, opPeriod := 0, fbRise := 0, fbDisc := 0,
    loadIgnore := 0, degLimit := 0, sbRepeat := 0, sealWord := 0 }

/-- LANES of a course that is enabled: RATE code of R219; and the spread of a lane PLL (mode and depth of R237). -/
structure LanesCfg where
  rates : List (Nat × Nat)
  spreads : List (Nat × Nat)
  deriving DecidableEq, Repr, Inhabited

/-- Device-wide part of FORMATS (R277, R283, R293, R294): the nominal brick voltage in 0.1 V, AUX_SEL, the chopper
points, the mirrored indices per KIND and the mirror period in ms. -/
structure PointCfg where
  vnom : Nat
  auxSel : Nat
  resOn : Nat
  resOff : Nat
  disFloor : Nat
  mirrors : List (Nat × List Nat)
  mirrorPeriod : Nat
  deriving DecidableEq, Repr, Inhabited

/-- No point configuration and no lanes: what holds before an image is built. -/
def PointCfg.empty : PointCfg := ⟨0, 0, 0xFFFF, 0xFFFF, 0, [], 0⟩
def LanesCfg.empty : LanesCfg := ⟨[], []⟩

/-- One value of a sampled-value subscription (R304). -/
structure SvValCfg where
  frozenN : Nat
  subst : Nat
  qOk : Bool
  testOk : Bool
  substOk : Bool
  deriving DecidableEq, Repr

/-- A sampled-value subscription (R304). Times in µs, LOST_TIME in ms; `svId` stands for the svID string. -/
structure SvSub where
  mac : Nat
  appid : Nat
  svId : Nat
  confRev : Nat
  vlan : Option Nat
  ports : Nat
  rate : Nat
  nval : Nat
  groups : Nat
  vals : List SvValCfg
  extrapMax : Nat
  syncReq : Bool
  fixedDelay : Nat
  lostTime : Nat
  deriving DecidableEq, Repr

/-- A mapped member of a GOOSE subscription (R313): `dflt` 0, 1 or 2 for HOLD. -/
structure GoMember where
  index : Nat
  dbpos : Bool
  bitNo : Nat
  dflt : Nat
  trip : Bool
  deriving DecidableEq, Repr

/-- A GOOSE subscription (R313); `ident` stands for gocbRef, datSet and goID. -/
structure GoSub where
  mac : Nat
  appid : Nat
  ident : Nat
  confRev : Nat
  ports : Nat
  talCap : Nat
  testOk : Bool
  members : List GoMember
  deriving DecidableEq, Repr

/-- A member of a publication: the item of R317, its argument, and whether a quality member follows. -/
structure PubItem where
  item : Nat
  arg : Nat
  quality : Bool
  deriving DecidableEq, Repr

/-- A GOOSE publication (R317): the header its messages carry (`ident` stands for gocbRef, datSet and goID), its ports, MIN_TIME and
MAX_TIME in µs, and its dataset. -/
structure GoPub where
  mac : Nat
  appid : Nat
  vlan : Nat
  priority : Nat
  ident : Nat
  confRev : Nat
  ports : Nat
  minTime : Nat
  maxTime : Nat
  items : List PubItem
  deriving DecidableEq, Repr

/-- An entry of a converter sequence (R320, R324): GAIN as its code, AVG as the number of conversions. -/
structure LmEntry where
  input : Nat
  gain : Nat
  acq : Nat
  avg : Nat
  frozenN : Nat
  deriving DecidableEq, Repr

/-- A local converter (R319, R325): `trig` 0 CYCLE, 1 EVENT, 2 HOST, 3 CONTINUOUS; the capture ring in the working store. -/
structure LmCfg where
  trig : Nat
  group : Nat
  evt : Nat
  delay : Nat
  entries : List LmEntry
  ringBase : Nat
  ringSize : Nat
  deriving DecidableEq, Repr

/-- A converter STREAMS gives no sequence. -/
def LmCfg.idle : LmCfg := ⟨2, 0, 0, 0, [], 0, 0⟩

/-- STREAMS. -/
structure StreamsCfg where
  svs : List (Nat × SvSub)
  gos : List (Nat × GoSub)
  pubs : List (Nat × GoPub)
  lms : List LmCfg
  deriving DecidableEq, Repr, Inhabited

/-- A timed output (R349): mode, group, START, PERIOD, WIDTH, OFFSET in ticks. -/
structure TioCfg where
  mode : Nat
  group : Nat
  start : Nat
  period : Nat
  width : Nat
  offset : Nat
  deriving DecidableEq, Repr

/-- TIME (R302, R335, R343, R347, R349, R351): thresholds in ns, times in s, KI_F in 0.001 ppb/ns, asymmetry in 1/16 ns,
intervals as powers of two of a second. -/
structure TimeCfg where
  tenGig : List Bool
  host : Bool
  boundary : Bool
  profile : Nat
  slaveOnly : Bool
  domain : Nat
  priority1 : Nat
  priority2 : Nat
  clockClass : Nat
  ptpPorts : Nat
  syncLog : Int
  announceLog : Int
  receiptTimeout : Nat
  asym : List Int
  stepThresh : Nat
  slewMax : Nat
  kiF : Nat
  lockThresh : Nat
  unlockThresh : Nat
  lockCount : Nat
  syncLoss : Nat
  pdAvg : Nat
  holdAvg : Nat
  holdSv : Nat
  holdMax : Nat
  svTol : Nat
  offsetFault : Nat
  evts : List (Nat × Nat)
  tios : List TioCfg
  ppsWidth : Nat
  deriving DecidableEq, Repr, Inhabited

def StreamsCfg.empty : StreamsCfg := ⟨[], [], [], []⟩

/-- The defaults of R343 and R351, in force while no image gives TIME. -/
def TimeCfg.default : TimeCfg :=
  { tenGig := [false, false, false, false], host := false, boundary := false, profile := 0, slaveOnly := false, domain := 0, priority1 := 128, priority2 := 128,
    clockClass := 248, ptpPorts := 0, syncLog := 0, announceLog := 1, receiptTimeout := 3, asym := [0, 0, 0, 0],
    stepThresh := 1000000, slewMax := 1000, kiF := 50, lockThresh := 250, unlockThresh := 2000, lockCount := 8, syncLoss := 5,
    pdAvg := 16, holdAvg := 60, holdSv := 600, holdMax := 3600, svTol := 20000, offsetFault := 100000,
    evts := [], tios := [], ppsWidth := 100 }

/-- Parameters of zeros, before an image gives them. -/
def GroupCfg.zero : GroupCfg := ⟨0, 0, 0, 0, 0, 0, 0, 0⟩
def ModeCfg.zero : ModeCfg :=
  { chgCtrl := 0, chgDone := 0, chgSpread := 0, minBricks := none, deadBus := 0, dcBand := 0, ltResidual := 0, ltTarget := 0,
    ltRamp := 0, ltHold := 0, ltIlim := 0, disDone := 0, disTimeout := 0, fadeLen := 0, interlock := [], transEn := [], transAuto := [] }

/-- What the sections of an image hold, as their bytes say it (log entry 5). -/
structure ImageBody where
  structure' : Option Structure
  modes : List ModeCfg
  tables : List TableSet
  points : PointCfg
  faults : FaultsCfg
  lanes : LanesCfg
  streams : StreamsCfg
  time : TimeCfg
  deriving DecidableEq, Repr, Inhabited

def ImageBody.empty : ImageBody :=
  ⟨none, [], [], .empty, ⟨[], []⟩, .empty, .empty, .default⟩

/-- What a table packet holds (R33): whether it replaces its whole section or only the tables it gives, the tables for each group,
the device-wide part of FORMATS. -/
structure PacketBody where
  whole : Bool
  tables : List TableSet
  points : Option PointCfg
  deriving DecidableEq, Repr, Inhabited

/-- What a key record says (R27, R58): whether its format is right, the ring entry that signed it, the bytes signed, the two
halves of the signature, the entry it changes, whether it revokes, and the key it adds. -/
structure KeyRecord where
  formatOk : Bool
  signedBy : Nat
  signed : List (BitVec 8)
  sigR : Nat
  sigS : Nat
  entry : Nat
  revoke : Bool
  key : Nat
  deriving DecidableEq, Repr, Inhabited

end Sys2Proof
end

