-- ==== Sys2Proof/Machine/Operands.lean ====
section
/-! DEFINITION. The kinds of operand a command carries besides numbers: what arrives at a lane, at a station port, in an
image, and what the outside answers. -/

namespace Sys2Proof

/-- A frame as a lane receiver delivers it: its bytes and whether a violation of R229 occurred in it (R247). -/
structure RxFrame where
  bytes : List (BitVec 8)
  violation : Bool
  deriving DecidableEq, Repr

/-- One value of an ASDU with its quality (R305, R308): the 32-bit quality word and what IEC 61850-7-3 reads from it. -/
structure SvValue where
  value : Int
  quality : Nat
  good : Bool
  questionable : Bool
  test : Bool
  substituted : Bool
  deriving DecidableEq, Repr

/-- An ASDU (R305); `svId` stands for the svID string. -/
structure SvAsdu where
  svId : Nat
  smpCnt : Nat
  confRev : Nat
  smpSynch : Nat
  data : List SvValue
  deriving DecidableEq, Repr

/-- A sampled-value frame as a station port delivers it (R302, R304, R305). -/
structure SvFrame where
  badFcs : Bool
  secLen : Nat
  mac : Nat
  appid : Nat
  vlan : Option Nat
  asdus : List SvAsdu
  deriving DecidableEq, Repr

/-- A member of a GOOSE dataset as it decodes (R313, R314). -/
inductive GoValue where
  | boolean (b : Bool)
  | dbpos (v : Nat)
  | other
  deriving DecidableEq, Repr

/-- A GOOSE message as a station port delivers it (R302, R313, R314); `ident` stands for gocbRef, datSet and goID; `tal`
in ms. -/
structure GooseMsg where
  badFcs : Bool
  secLen : Nat
  mac : Nat
  appid : Nat
  ident : Nat
  confRev : Nat
  ndsCom : Bool
  test : Bool
  stNum : Nat
  sqNum : Nat
  tal : Nat
  members : List GoValue
  deriving DecidableEq, Repr

end Sys2Proof
end

