-- ==== Sys2Proof/Config.lean ====
section
/-! DEFINITION. What an implementation fixes and the spec does not: free values as opaque constants (log entry 1), and
the rounding constants of R70. -/

namespace Sys2Proof.Config

/-- The n-th free value: what the spec leaves open; nothing in Lean can evaluate it (log entry 1). -/
opaque freeValue : Nat → Nat

/-- Cosine of an angle given as a 32-bit fraction of a turn, LSB 2^-30 (R70: a fixed algorithm the spec does not give,
log entry 2). -/
opaque cosTurn : Nat → Int

/-- Sine of an angle given as a 32-bit fraction of a turn, LSB 2^-30 (R70, log entry 2). -/
opaque sinTurn : Nat → Int

/-- Square root: of a number with 56 fractional bits, the root with 28 (R70, log entry 2). -/
opaque sqrt56 : Nat → Int

/-- Angle of a vector as a signed fraction of a turn, LSB 2^-32; arguments q, then d (R155, R70, log entry 2). -/
opaque atan2Turn : Int → Int → Int

/-- The phase of a lane PLL's spread modulation against the ticks since power was applied, of which the spec states none (R237): free, by lane
PLL; a number of ticks, taken modulo the 16,000 of a period. -/
opaque spreadPhase : Nat → Nat

/-- How far after a multiple of 1,800 ticks the first UI boundary of a lane with spread lies, in 0.2 ns, taken modulo its UI (R237, R259):
free, by lane PLL and course time. -/
opaque markDelay : Nat → Nat → Nat

/-- The voltage of a HELD brick that never had a FRESH or FRESH_ECHO_BAD cycle, of which R192 states none: free (brick number, opening
tick). -/
opaque heldVolt : Nat → Nat → Nat

/-- What a read of a directory point returns while the hub has not yet learnt its value, by brick and index (R293; log entry 176). -/
opaque unreadPoint : Nat → Nat → BitVec 32

/-- What the section bytes of an image say: their layout is supplied with Clorno (R24, R25, log entry 5). The same bytes always
say the same. -/
opaque imageBody : List Host.Cell → ImageBody

/-- What the section bytes of a table packet say (R33, log entry 5). -/
opaque packetBody : List Host.Cell → PacketBody

/-- What a key record says: its format is supplied with Clorno (R27, log entry 5). -/
opaque keyRecord : List Host.Cell → KeyRecord

/-- The integrator-provisioning key of ring entry 0, which the spec does not give (R27). -/
opaque provisioningKey : Nat

/-- The 64-bit device UID of the factory records, shown as the Device Serial Number of every function (R419); the spec gives no value. -/
opaque deviceUid : Nat

/-- The words of a tile's state in a channel that an injection can name (R393); the spec gives no number (log entry 64). -/
opaque tileStateWords : Nat

/-- The vendor code of GL_KILN (R55), which the spec does not give. -/
opaque kilnCode : Nat

/-- 2 pi with 60 fractional bits. -/
def twoPi60 : Int := 7244019458077122842

/-- Square root of three with 60 fractional bits. -/
def sqrt3q60 : Int := 1996918623117814388

end Sys2Proof.Config
end

