-- ==== Sys2Proof/Machine/Regs.lean ====
section
/-! DEFINITION. The register fields of BAR0, one constant each, read off the register tables of the spec's chapters:
the register's BAR0 offset, the field's lowest bit, its width and the value it holds at power-up (R4 to R7, R432).
Where a table says restored, the constant holds the factory value the table's Meaning states, else 0 (log entry 3). -/

namespace Sys2Proof.Machine

/-- A field of a BAR0 register: offset of the register (of its first copy), lowest bit, width, power-up value. -/
structure Fld where
  base : Nat
  lo : Nat
  width : Nat
  reset : Nat
  deriving DecidableEq, Repr

/-- Access codes of R5. -/
inductive Acc where
  | ro | rw | w1c | wo | rc
  deriving DecidableEq, Repr

/-- A field as it stands in one register word: where its lowest bit lies, its access code, whether it is Kept (R7),
and, where several copies share the word (GP_FEEDBACK), which copy this is. -/
structure FieldDesc where
  fld : Fld
  pos : Nat
  acc : Acc
  kept : Bool
  copy : Option Nat
  deriving DecidableEq, Repr

/-- A register: name, BAR0 offset of the first copy, count and stride of each index, the roles that may read and
write it (bit 0 Owner, bit 1 Operator, bit 2 Observer; R4, R422) and its fields. -/
structure RegDesc where
  name : String
  base : Nat
  dims : List (Nat × Nat)
  rd : Nat
  wr : Nat
  fields : List FieldDesc
  deriving DecidableEq, Repr

namespace F


-- 00_scope.md
abbrev GL_ID_PART : Fld := ⟨0x0, 16, 16, 0xc12⟩
abbrev GL_ID_REV : Fld := ⟨0x0, 8, 8, 0xb0⟩
abbrev GL_ID_GRADE : Fld := ⟨0x0, 6, 2, 0⟩
abbrev GL_ID_DEVID : Fld := ⟨0x0, 0, 6, 0⟩

-- 02_mortar_and_restore.md
abbrev GL_READY_GROUP : Fld := ⟨0x4, 28, 4, 0⟩
abbrev GL_READY_RESTORE_DEGRADED : Fld := ⟨0x4, 15, 1, 0⟩
abbrev GL_READY_LANE_L1 : Fld := ⟨0x4, 14, 1, 0⟩
abbrev GL_READY_LANE_L0 : Fld := ⟨0x4, 13, 1, 0⟩
abbrev GL_READY_DMA : Fld := ⟨0x4, 12, 1, 0⟩
abbrev GL_READY_LOCALMEAS : Fld := ⟨0x4, 11, 1, 0⟩
abbrev GL_READY_INTAKE : Fld := ⟨0x4, 10, 1, 0⟩
abbrev GL_READY_TRIPLEX : Fld := ⟨0x4, 9, 1, 0⟩
abbrev GL_READY_SAFETY : Fld := ⟨0x4, 8, 1, 0⟩
abbrev GL_READY_FAULTS : Fld := ⟨0x4, 7, 1, 0⟩
abbrev GL_READY_PTP : Fld := ⟨0x4, 6, 1, 0⟩
abbrev GL_READY_TIMEBASE : Fld := ⟨0x4, 5, 1, 0⟩
abbrev GL_READY_JOURNAL : Fld := ⟨0x4, 4, 1, 0⟩
abbrev GL_READY_MORTAR : Fld := ⟨0x4, 3, 1, 0⟩
abbrev GL_READY_STORE : Fld := ⟨0x4, 2, 1, 0⟩
abbrev GL_READY_HOST_B : Fld := ⟨0x4, 1, 1, 0⟩
abbrev GL_READY_HOST_A : Fld := ⟨0x4, 0, 1, 0⟩
abbrev GL_START_STARTS : Fld := ⟨0x8, 16, 16, 0⟩
abbrev GL_START_PIN_RESETS : Fld := ⟨0x8, 8, 8, 0⟩
abbrev GL_START_KILN : Fld := ⟨0x8, 6, 2, 0⟩
abbrev GL_START_CAUSE : Fld := ⟨0x8, 0, 2, 0⟩
abbrev GL_KILN_CODE : Fld := ⟨0xC, 0, 32, 0⟩
abbrev MO_STATUS_FLOOR : Fld := ⟨0x20000, 24, 8, 0⟩
abbrev MO_STATUS_STORE_ERR : Fld := ⟨0x20000, 16, 1, 0⟩
abbrev MO_STATUS_ACTIVE_DAMAGED : Fld := ⟨0x20000, 17, 1, 0⟩
abbrev MO_STATUS_KEYS : Fld := ⟨0x20000, 12, 4, 0⟩
abbrev MO_STATUS_ACTIVE : Fld := ⟨0x20000, 8, 1, 0⟩
abbrev MO_STATUS_SINGLE_ERRS : Fld := ⟨0x20000, 0, 8, 0⟩
abbrev MO_SLOT_STATE : Fld := ⟨0x20004, 28, 4, 0⟩
abbrev MO_SLOT_REASON : Fld := ⟨0x20004, 16, 8, 0⟩
abbrev MO_SLOT_SECVER : Fld := ⟨0x20004, 0, 16, 0⟩
abbrev MO_CMD_RESULT : Fld := ⟨0x20010, 24, 8, 0⟩
abbrev MO_CMD_BUSY : Fld := ⟨0x20010, 23, 1, 0⟩
abbrev MO_CMD_ARG : Fld := ⟨0x20010, 8, 8, 0⟩
abbrev MO_CMD_CODE : Fld := ⟨0x20010, 0, 8, 0⟩
abbrev MO_LIVE_STATE : Fld := ⟨0x20020, 28, 4, 0⟩
abbrev MO_LIVE_GROUPS : Fld := ⟨0x20020, 24, 4, 0⟩
abbrev MO_LIVE_RESULT : Fld := ⟨0x20020, 16, 8, 0⟩
abbrev MO_LIVE_SECTION : Fld := ⟨0x20020, 0, 16, 0⟩
abbrev MO_LIVE_AT_LO_AT_LO : Fld := ⟨0x20024, 0, 32, 0⟩
abbrev MO_LIVE_AT_HI_AT_HI : Fld := ⟨0x20028, 0, 16, 0⟩
abbrev MO_JOURNAL_PENDING : Fld := ⟨0x20030, 31, 1, 0⟩
abbrev MO_JOURNAL_HALF : Fld := ⟨0x20030, 30, 1, 0⟩
abbrev MO_JOURNAL_FILL : Fld := ⟨0x20030, 0, 15, 0⟩
abbrev MO_SCRUB_PERIOD : Fld := ⟨0x20040, 24, 8, 0x18⟩
abbrev MO_SCRUB_PASS_PCT : Fld := ⟨0x20040, 16, 8, 0⟩
abbrev MO_SCRUB_UNCORR : Fld := ⟨0x20040, 8, 8, 0⟩
abbrev MO_SCRUB_CORR : Fld := ⟨0x20040, 0, 8, 0⟩

-- 03_cycle_and_stages.md
abbrev PL_CFG_TYPE : Fld := ⟨0x100000, 30, 2, 0⟩
abbrev PL_CFG_GROUP : Fld := ⟨0x100000, 28, 2, 0⟩
abbrev PL_CFG_STAGES : Fld := ⟨0x100000, 22, 6, 0⟩
abbrev PL_CFG_NCOURSES : Fld := ⟨0x100000, 12, 5, 0⟩
abbrev PL_TIMING_CYCLE : Fld := ⟨0x100004, 24, 8, 0⟩
abbrev PL_TIMING_LEAD : Fld := ⟨0x100004, 16, 8, 0⟩
abbrev PL_TIMING_EMIT_DL : Fld := ⟨0x100004, 8, 8, 0⟩
abbrev PL_TIMING_REPORT_DL : Fld := ⟨0x100004, 0, 8, 0⟩
abbrev PL_OUTER_DIV : Fld := ⟨0x100008, 16, 7, 0⟩
abbrev PL_OUTER_MISS_LIMIT : Fld := ⟨0x100008, 8, 4, 0⟩
abbrev PL_OUTER_PHASE : Fld := ⟨0x100008, 0, 8, 0⟩
abbrev PL_STATUS_RUNNING : Fld := ⟨0x100010, 31, 1, 0⟩
abbrev PL_STATUS_LEAD_SHORT : Fld := ⟨0x100010, 30, 1, 0⟩
abbrev PL_STATUS_OVERFLOW : Fld := ⟨0x100010, 29, 1, 0⟩
abbrev PL_STATUS_MISSED : Fld := ⟨0x100010, 28, 1, 0⟩
abbrev PL_STATUS_CONSEC : Fld := ⟨0x100010, 24, 4, 0⟩
abbrev PL_MISSES_COUNT : Fld := ⟨0x100014, 0, 32, 0⟩
abbrev PL_CYCLE_NUMBER : Fld := ⟨0x100018, 0, 32, 0⟩
abbrev PL_OPEN_LO_OPEN_LO : Fld := ⟨0x100020, 0, 32, 0⟩
abbrev PL_OPEN_HI_OPEN_HI : Fld := ⟨0x100024, 0, 16, 0⟩
abbrev PL_SLACK_WMIN : Fld := ⟨0x100030, 16, 16, 0x8000⟩
abbrev PL_SLACK_LAST : Fld := ⟨0x100030, 0, 16, 0x8000⟩
abbrev GP_SP_SHADOW_VALUE : Fld := ⟨0xA8000, 0, 32, 0⟩
abbrev GP_SP_ACTIVE_VALUE : Fld := ⟨0xA8100, 0, 32, 0⟩
abbrev GP_SP_COMMIT_TAG : Fld := ⟨0xA8200, 0, 16, 0⟩
abbrev GP_SP_STATUS_LATCHED_TAG : Fld := ⟨0xA8204, 16, 16, 0⟩
abbrev GP_SP_STATUS_PENDING : Fld := ⟨0xA8204, 15, 1, 0⟩
abbrev GP_SP_STATUS_CLAMPED : Fld := ⟨0xA8204, 14, 1, 0⟩
abbrev GP_SP_STATUS_RESULT : Fld := ⟨0xA8204, 12, 2, 0⟩
abbrev GP_SP_STATUS_BAD_WORD : Fld := ⟨0xA8204, 6, 6, 0⟩
abbrev GP_SP_STATUS_SUPERSEDED : Fld := ⟨0xA8204, 0, 6, 0⟩
abbrev GP_SP_LATCHED_CYCLE : Fld := ⟨0xA8208, 0, 32, 0⟩
abbrev GL_VADAPT_EN : Fld := ⟨0x80, 31, 1, 0⟩
abbrev GL_VADAPT_UP_BELOW : Fld := ⟨0x80, 16, 8, 0x32⟩
abbrev GL_VADAPT_DOWN_ABOVE : Fld := ⟨0x80, 8, 8, 0x96⟩
abbrev GL_VLIMITS_VMAX : Fld := ⟨0x84, 16, 10, 0x352⟩
abbrev GL_VLIMITS_VMIN : Fld := ⟨0x84, 0, 10, 0x2bc⟩
abbrev GL_PMBUS_ADDR_C : Fld := ⟨0x88, 16, 7, 0⟩
abbrev GL_PMBUS_ADDR_B : Fld := ⟨0x88, 8, 7, 0⟩
abbrev GL_PMBUS_ADDR_A : Fld := ⟨0x88, 0, 7, 0⟩
abbrev GL_VCORE_FAIL : Fld := ⟨0x90, 31, 1, 0⟩
abbrev GL_VCORE_HELD : Fld := ⟨0x90, 30, 1, 0⟩
abbrev GL_VCORE_CMD : Fld := ⟨0x90, 16, 10, 0⟩
abbrev GL_VCORE_UPS : Fld := ⟨0x90, 8, 8, 0⟩
abbrev GL_VCORE_DOWNS : Fld := ⟨0x90, 0, 8, 0⟩

-- 04_twelve_modes.md
abbrev GP_MODE_MODE : Fld := ⟨0xA0000, 28, 4, 0⟩
abbrev GP_MODE_RETURN : Fld := ⟨0xA0000, 24, 4, 0⟩
abbrev GP_MODE_PREV : Fld := ⟨0xA0000, 20, 4, 0⟩
abbrev GP_MODE_DEBLOCKED : Fld := ⟨0xA0000, 19, 1, 0⟩
abbrev GP_MODE_FADING : Fld := ⟨0xA0000, 18, 1, 0⟩
abbrev GP_MODE_DEGRADED : Fld := ⟨0xA0000, 17, 1, 0⟩
abbrev GP_MODE_SWITCHING : Fld := ⟨0xA0000, 16, 1, 0⟩
abbrev GP_MODE_CAUSE : Fld := ⟨0xA0000, 8, 8, 9⟩
abbrev GP_MODE_CMD_TARGET : Fld := ⟨0xA0004, 28, 4, 0⟩
abbrev GP_MODE_CMD_TAG : Fld := ⟨0xA0004, 0, 16, 0⟩
abbrev GP_MODE_STATUS_TAG : Fld := ⟨0xA0008, 16, 16, 0⟩
abbrev GP_MODE_STATUS_PENDING : Fld := ⟨0xA0008, 15, 1, 0⟩
abbrev GP_MODE_STATUS_SP_VALID : Fld := ⟨0xA0008, 14, 1, 0⟩
abbrev GP_MODE_STATUS_RESULT : Fld := ⟨0xA0008, 0, 8, 0⟩
abbrev GP_MODE_SINCE_CYCLE : Fld := ⟨0xA000C, 0, 32, 0⟩
abbrev GP_PRECOND_INTERLOCK_OK : Fld := ⟨0xA0010, 16, 12, 0⟩
abbrev GP_PRECOND_LINE_RESIDUAL_OK : Fld := ⟨0xA0010, 12, 1, 0⟩
abbrev GP_PRECOND_PV_WINDOW_OK : Fld := ⟨0xA0010, 11, 1, 0⟩
abbrev GP_PRECOND_DC_BAND_OK : Fld := ⟨0xA0010, 10, 1, 0⟩
abbrev GP_PRECOND_SPREAD_OK : Fld := ⟨0xA0010, 9, 1, 0⟩
abbrev GP_PRECOND_ENERGY_OK : Fld := ⟨0xA0010, 8, 1, 0⟩
abbrev GP_PRECOND_DEAD_BUS : Fld := ⟨0xA0010, 7, 1, 0⟩
abbrev GP_PRECOND_SYNC_LOCKED : Fld := ⟨0xA0010, 6, 1, 0⟩
abbrev GP_PRECOND_SP_VALID : Fld := ⟨0xA0010, 5, 1, 0⟩
abbrev GP_PRECOND_BRICKS_OK : Fld := ⟨0xA0010, 4, 1, 0⟩
abbrev GP_PRECOND_LEAD_OK : Fld := ⟨0xA0010, 3, 1, 0⟩
abbrev GP_PRECOND_TRIPLEX_OK : Fld := ⟨0xA0010, 2, 1, 0⟩
abbrev GP_PRECOND_SAFETY_OK : Fld := ⟨0xA0010, 1, 1, 0⟩
abbrev GP_PRECOND_FAULT_CLEAR : Fld := ⟨0xA0010, 0, 1, 0⟩
abbrev GP_HANDOVER_FADE_LEN : Fld := ⟨0xA0014, 24, 8, 0⟩
abbrev GP_HANDOVER_FADE_LEFT : Fld := ⟨0xA0014, 16, 8, 0⟩
abbrev GP_HANDOVER_DIFF : Fld := ⟨0xA0014, 0, 16, 0⟩
abbrev GP_REFUSALS_COUNT : Fld := ⟨0xA0018, 0, 16, 0⟩
abbrev GP_LINETEST_OUTCOME : Fld := ⟨0xA001C, 30, 2, 0⟩
abbrev GP_LINETEST_PEAK : Fld := ⟨0xA001C, 0, 16, 0⟩
abbrev GP_TRANS_EN_TO : Fld := ⟨0xA0040, 0, 12, 0⟩
abbrev GP_TRANS_AUTO_TO : Fld := ⟨0xA0080, 0, 12, 0⟩

-- 05_grid_sync_and_current.md
abbrev GP_SYNC_LOCKED : Fld := ⟨0xA4000, 31, 1, 0⟩
abbrev GP_SYNC_FLYWHEEL : Fld := ⟨0xA4000, 30, 1, 0⟩
abbrev GP_SYNC_FORMING : Fld := ⟨0xA4000, 29, 1, 0⟩
abbrev GP_SYNC_FREQ : Fld := ⟨0xA4000, 0, 16, 0⟩
abbrev GP_ANGLE_ANGLE : Fld := ⟨0xA4004, 0, 32, 0⟩
abbrev GP_VSEQ_VPOS : Fld := ⟨0xA4008, 16, 16, 0⟩
abbrev GP_VSEQ_VNEG : Fld := ⟨0xA4008, 0, 16, 0⟩
abbrev GP_PQ_P : Fld := ⟨0xA400C, 16, 16, 0⟩
abbrev GP_PQ_Q : Fld := ⟨0xA400C, 0, 16, 0⟩
abbrev GP_DCMEAS_VDC : Fld := ⟨0xA4010, 16, 16, 0⟩
abbrev GP_DCMEAS_IDC : Fld := ⟨0xA4010, 0, 16, 0⟩
abbrev GP_CURLIM_IMAX_ACTIVE : Fld := ⟨0xA4014, 31, 1, 0⟩
abbrev GP_CURLIM_VOUT_SAT : Fld := ⟨0xA4014, 30, 1, 0⟩
abbrev GP_CURLIM_FORM_VIRT : Fld := ⟨0xA4014, 29, 1, 0⟩
abbrev GP_CURLIM_LIMITED : Fld := ⟨0xA4014, 0, 16, 0⟩
abbrev GP_FEEDBACK_VALID : Fld := ⟨0xA4018, 7, 1, 0⟩
abbrev GP_FEEDBACK_ALT : Fld := ⟨0xA4018, 6, 1, 0⟩
abbrev GP_FEEDBACK_HOLD : Fld := ⟨0xA4018, 5, 1, 0⟩
abbrev GP_FEEDBACK_LOST_RAISED : Fld := ⟨0xA4018, 4, 1, 0⟩
abbrev GP_FEEDBACK_DISAGREE : Fld := ⟨0xA4018, 3, 1, 0⟩
abbrev GP_SPSRC_USED : Fld := ⟨0xA4020, 31, 1, 0⟩
abbrev GP_SPSRC_LOST : Fld := ⟨0xA4020, 30, 1, 0⟩
abbrev GP_SPSRC_FALLBACK : Fld := ⟨0xA4020, 29, 1, 0⟩
abbrev GP_SPSRC_RAISED : Fld := ⟨0xA4020, 28, 1, 0⟩
abbrev GP_SPSRC_WORD : Fld := ⟨0xA4020, 24, 4, 0⟩
abbrev GP_SPSRC_VALUE : Fld := ⟨0xA4020, 0, 16, 0⟩
abbrev GP_COMP_SAT : Fld := ⟨0xA4030, 8, 1, 0⟩
abbrev GP_COMP_ACTING : Fld := ⟨0xA4030, 0, 8, 0⟩

-- 06_ride_through_islanding_harvest.md
abbrev GP_RIDE_ENTRY_AC : Fld := ⟨0xA4040, 31, 1, 0⟩
abbrev GP_RIDE_ENTRY_DC : Fld := ⟨0xA4040, 30, 1, 0⟩
abbrev GP_RIDE_EXITING : Fld := ⟨0xA4040, 29, 1, 0⟩
abbrev GP_RIDE_REPEAT_BLOCK : Fld := ⟨0xA4040, 28, 1, 0⟩
abbrev GP_RIDE_TRIP_CURVE : Fld := ⟨0xA4040, 24, 4, 0xf⟩
abbrev GP_RIDE_COUNT : Fld := ⟨0xA4040, 16, 8, 0⟩
abbrev GP_RIDE_VPRE : Fld := ⟨0xA4040, 0, 16, 0⟩
abbrev GP_RIDE_TIME_ELAPSED : Fld := ⟨0xA4044, 0, 32, 0⟩
abbrev GP_JUMP_SEAT : Fld := ⟨0xA4048, 0, 32, 0⟩
abbrev GP_ISLAND_DETECTED : Fld := ⟨0xA404C, 31, 1, 0⟩
abbrev GP_ISLAND_BLANKED : Fld := ⟨0xA404C, 30, 1, 0⟩
abbrev GP_ISLAND_ACTION : Fld := ⟨0xA404C, 28, 2, 0⟩
abbrev GP_ISLAND_CRITERIA : Fld := ⟨0xA404C, 24, 4, 0⟩
abbrev GP_ISLAND_Z : Fld := ⟨0xA404C, 0, 16, 0⟩
abbrev GP_HARVEST_STATE : Fld := ⟨0xA4050, 30, 2, 0⟩
abbrev GP_HARVEST_DIR : Fld := ⟨0xA4050, 29, 1, 0⟩
abbrev GP_HARVEST_FROZEN : Fld := ⟨0xA4050, 28, 1, 0⟩
abbrev GP_HARVEST_PB_FAIL : Fld := ⟨0xA4050, 16, 12, 0⟩
abbrev GP_HARVEST_VTGT : Fld := ⟨0xA4050, 0, 16, 0⟩
abbrev GP_HARVEST_CMD_RESULT : Fld := ⟨0xA4054, 24, 8, 0⟩
abbrev GP_HARVEST_CMD_SCAN : Fld := ⟨0xA4054, 0, 1, 0⟩
abbrev GP_HARVEST_BEST_VBEST : Fld := ⟨0xA4058, 16, 16, 0⟩
abbrev GP_HARVEST_BEST_PBEST : Fld := ⟨0xA4058, 0, 16, 0⟩

-- 07_arm_energy_and_insertion.md
abbrev PL_ARM_CFG_PHASE : Fld := ⟨0x100100, 30, 2, 0⟩
abbrev PL_ARM_CFG_POSITION : Fld := ⟨0x100100, 29, 1, 0⟩
abbrev PL_ARM_COUNT_COUNT : Fld := ⟨0x100104, 16, 12, 0⟩
abbrev PL_ARM_COUNT_FRAC : Fld := ⟨0x100104, 0, 16, 0⟩
abbrev PL_ARM_ENERGY_EARM : Fld := ⟨0x100108, 16, 16, 0⟩
abbrev PL_ARM_ENERGY_VBAR : Fld := ⟨0x100108, 0, 16, 0⟩
abbrev PL_ARM_STATUS_SIGN : Fld := ⟨0x10010C, 31, 1, 1⟩
abbrev PL_ARM_STATUS_OVER : Fld := ⟨0x10010C, 30, 1, 0⟩
abbrev PL_ARM_STATUS_UNDER : Fld := ⟨0x10010C, 29, 1, 0⟩
abbrev PL_ARM_STATUS_ZREF_SAT : Fld := ⟨0x10010C, 28, 1, 0⟩
abbrev PL_ARM_STATUS_ILIM : Fld := ⟨0x10010C, 27, 1, 0⟩
abbrev PL_ARM_STATUS_ZHOLD : Fld := ⟨0x10010C, 26, 1, 0⟩
abbrev PL_ARM_STATUS_OVM_RAISED : Fld := ⟨0x10010C, 25, 1, 0⟩
abbrev PL_ARM_STATUS_TRIP_RAISED : Fld := ⟨0x10010C, 24, 1, 0⟩
abbrev PL_ARM_STATUS_ENERGY_RAISED : Fld := ⟨0x10010C, 23, 1, 0⟩
abbrev PL_ARM_STATUS_PRESENT : Fld := ⟨0x10010C, 0, 12, 0⟩
abbrev PL_ARM_CURRENT_IARM : Fld := ⟨0x100110, 16, 16, 0⟩
abbrev PL_ARM_CURRENT_UREF : Fld := ⟨0x100110, 0, 16, 0⟩
abbrev PL_CHOP_STATE : Fld := ⟨0x100120, 30, 2, 0⟩
abbrev PL_CHOP_PDIS : Fld := ⟨0x100120, 0, 16, 0⟩
abbrev GP_ENERGY_ETOT : Fld := ⟨0xA6000, 16, 16, 0⟩
abbrev GP_ENERGY_PDEM : Fld := ⟨0xA6000, 0, 16, 0⟩
abbrev GP_LEG_ELEG : Fld := ⟨0xA6004, 16, 16, 0⟩
abbrev GP_LEG_DIFF : Fld := ⟨0xA6004, 0, 16, 0⟩
abbrev GP_CIRC_IZREF : Fld := ⟨0xA6010, 16, 16, 0⟩
abbrev GP_CIRC_IZ : Fld := ⟨0xA6010, 0, 16, 0⟩

-- 08_rank_engine_and_dwell.md
abbrev PL_RANK_CFG_REPORT_HOLD : Fld := ⟨0x100200, 28, 4, 0⟩
abbrev PL_RANK_CFG_BAND : Fld := ⟨0x100200, 16, 12, 0⟩
abbrev PL_RANK_CFG_ECHO_N : Fld := ⟨0x100200, 12, 4, 0⟩
abbrev PL_RANK_CFG_SWAP_MAX : Fld := ⟨0x100200, 0, 7, 0⟩
abbrev PL_DWELL_CFG_PULSE_MODE : Fld := ⟨0x100204, 30, 2, 0⟩
abbrev PL_DWELL_CFG_DT_COMP : Fld := ⟨0x100204, 29, 1, 0⟩
abbrev PL_DWELL_CFG_T_DEAD : Fld := ⟨0x100204, 20, 9, 0⟩
abbrev PL_DWELL_CFG_T_MINP : Fld := ⟨0x100204, 10, 10, 0⟩
abbrev PL_DWELL_CFG_T_DWELL : Fld := ⟨0x100204, 0, 10, 0⟩
abbrev PL_RANK_STATUS_NRANK : Fld := ⟨0x100208, 20, 12, 0⟩
abbrev PL_RANK_STATUS_PARKED : Fld := ⟨0x100208, 8, 12, 0⟩
abbrev PL_RANK_STATUS_ECHO_RAISED : Fld := ⟨0x100208, 7, 1, 0⟩
abbrev PL_RANK_STATUS_DISPUTE_RAISED : Fld := ⟨0x100208, 6, 1, 0⟩
abbrev PL_RANK_STATUS_DROPPED : Fld := ⟨0x100208, 5, 1, 0⟩
abbrev PL_RANK_STATUS_STRETCHED : Fld := ⟨0x100208, 4, 1, 0⟩
abbrev PL_RANK_STATUS_HOLES : Fld := ⟨0x100208, 3, 1, 0⟩
abbrev PL_RANK_STATUS_SORTED : Fld := ⟨0x100208, 2, 1, 0⟩
abbrev PL_RANK_BOUND_BOUND : Fld := ⟨0x10020C, 20, 12, 0⟩
abbrev PL_RANK_BOUND_ON_LEN : Fld := ⟨0x10020C, 0, 16, 0⟩
abbrev PL_RANK_SWAPS_DEFERRED : Fld := ⟨0x100210, 16, 16, 0⟩
abbrev PL_RANK_SWAPS_APPLIED : Fld := ⟨0x100210, 0, 16, 0⟩
abbrev PL_RANK_FAULTS_DISPUTED : Fld := ⟨0x100214, 24, 8, 0⟩
abbrev PL_RANK_FAULTS_HELD : Fld := ⟨0x100214, 16, 8, 0⟩
abbrev PL_RANK_FAULTS_ECHO_BAD : Fld := ⟨0x100214, 8, 8, 0⟩
abbrev PL_RANK_FAULTS_DUPLICATE : Fld := ⟨0x100214, 4, 4, 0⟩
abbrev PL_RANK_FAULTS_PARKS : Fld := ⟨0x100214, 0, 4, 0⟩
abbrev PL_BRICK_LO_OUTCOME : Fld := ⟨0x108000, 28, 4, 0⟩
abbrev PL_BRICK_LO_KIND : Fld := ⟨0x108000, 26, 2, 3⟩
abbrev PL_BRICK_LO_MISSES : Fld := ⟨0x108000, 20, 4, 0⟩
abbrev PL_BRICK_LO_ECHO_MISS : Fld := ⟨0x108000, 16, 4, 0⟩
abbrev PL_BRICK_LO_SLOT : Fld := ⟨0x108000, 0, 12, 0⟩
abbrev PL_BRICK_HI_VOLT : Fld := ⟨0x108004, 16, 16, 0⟩
abbrev PL_BRICK_HI_TARGET : Fld := ⟨0x108004, 0, 12, 0xfff⟩

-- 09_decte_lanes.md
abbrev CM_LANE_CTL_RESULT : Fld := ⟨0x200800, 24, 8, 0⟩
abbrev CM_LANE_CTL_BUSY : Fld := ⟨0x200800, 23, 1, 0⟩
abbrev CM_LANE_CTL_HOPS : Fld := ⟨0x200800, 8, 7, 0⟩
abbrev CM_LANE_CTL_CMD : Fld := ⟨0x200800, 0, 3, 0⟩
abbrev CM_LANE_STAT_STATE : Fld := ⟨0x200804, 28, 4, 0⟩
abbrev CM_LANE_STAT_LOOP : Fld := ⟨0x200804, 25, 3, 0⟩
abbrev CM_LANE_STAT_RX_SIGNAL : Fld := ⟨0x200804, 24, 1, 0⟩
abbrev CM_LANE_STAT_CDR_LOCK : Fld := ⟨0x200804, 23, 1, 0⟩
abbrev CM_LANE_STAT_TX_IDLE : Fld := ⟨0x200804, 22, 1, 1⟩
abbrev CM_LANE_STAT_EIDLE_SEEN : Fld := ⟨0x200804, 21, 1, 0⟩
abbrev CM_LANE_STAT_LOOP_HOPS : Fld := ⟨0x200804, 8, 7, 0⟩
abbrev CM_LANE_ERR_RUN : Fld := ⟨0x200808, 24, 8, 0⟩
abbrev CM_LANE_ERR_COMMA : Fld := ⟨0x200808, 16, 8, 0⟩
abbrev CM_LANE_ERR_SPACING : Fld := ⟨0x200808, 8, 8, 0⟩
abbrev CM_LANE_ERR_ALIGN_LOSS : Fld := ⟨0x200808, 0, 8, 0⟩
abbrev CM_LANE_LOOP_RT : Fld := ⟨0x20080C, 16, 16, 0⟩
abbrev CM_LANE_LOOP_BITERR : Fld := ⟨0x20080C, 0, 16, 0⟩
abbrev CM_LANE_CFG_RATE : Fld := ⟨0x200880, 30, 2, 0⟩
abbrev CM_LANE_CFG_LPLL : Fld := ⟨0x200880, 27, 3, 0⟩
abbrev CM_LANE_CFG_SPREAD : Fld := ⟨0x200880, 26, 1, 0⟩
abbrev TB_LPLL_CFG_MODE : Fld := ⟨0x30800, 30, 2, 0⟩
abbrev TB_LPLL_CFG_DEPTH : Fld := ⟨0x30800, 20, 10, 0⟩
abbrev TB_LPLL_STAT_LOCKED : Fld := ⟨0x30804, 31, 1, 0⟩
abbrev TB_LPLL_STAT_LOST : Fld := ⟨0x30804, 30, 1, 0⟩
abbrev TB_LPLL_STAT_LOSSES : Fld := ⟨0x30804, 0, 16, 0⟩

-- 10_decte_frames_and_brick_contract.md
abbrev CM_FRM_ERR_CRC : Fld := ⟨0x200900, 24, 8, 0⟩
abbrev CM_FRM_ERR_CUT : Fld := ⟨0x200900, 16, 8, 0⟩
abbrev CM_FRM_ERR_TYPE : Fld := ⟨0x200900, 8, 8, 0⟩
abbrev CM_FRM_ERR_OWN_BAD : Fld := ⟨0x200900, 0, 8, 0⟩
abbrev CM_FRM_RING_TRANSIT : Fld := ⟨0x200904, 0, 32, 0⟩
abbrev CM_FRM_REP_LAST : Fld := ⟨0x200908, 16, 16, 0⟩
abbrev CM_FRM_REP_AFTER_DR : Fld := ⟨0x200908, 0, 16, 0⟩

-- 11_courses_and_points.md
abbrev CM_DIR_W0_STATE : Fld := ⟨0x200000, 28, 4, 0⟩
abbrev CM_DIR_W0_REASON : Fld := ⟨0x200000, 24, 4, 0⟩
abbrev CM_DIR_W0_KIND : Fld := ⟨0x200000, 16, 8, 0⟩
abbrev CM_DIR_W0_FROM_H : Fld := ⟨0x200000, 15, 1, 0⟩
abbrev CM_DIR_W0_FROM_F : Fld := ⟨0x200000, 14, 1, 0⟩
abbrev CM_DIR_W0_EVQ : Fld := ⟨0x200000, 13, 1, 0⟩
abbrev CM_DIR_W0_EVENTS : Fld := ⟨0x200000, 0, 8, 0⟩
abbrev CM_DIR_W1_UID_LO : Fld := ⟨0x200004, 0, 32, 0⟩
abbrev CM_DIR_W2_UID_HI : Fld := ⟨0x200008, 0, 32, 0⟩
abbrev CM_DIR_W3_LAT_H : Fld := ⟨0x20000C, 16, 16, 0⟩
abbrev CM_DIR_W3_LAT_F : Fld := ⟨0x20000C, 0, 16, 0⟩
abbrev CM_CRS_STAT_STATE : Fld := ⟨0x200A00, 28, 4, 0⟩
abbrev CM_CRS_STAT_H_WORKING : Fld := ⟨0x200A00, 27, 1, 0⟩
abbrev CM_CRS_STAT_F_WORKING : Fld := ⟨0x200A00, 26, 1, 0⟩
abbrev CM_CRS_STAT_FOUND : Fld := ⟨0x200A00, 8, 8, 0⟩
abbrev CM_CRS_STAT_IN_SERVICE : Fld := ⟨0x200A00, 0, 8, 0⟩
abbrev CM_CRS_CTL_AUTO : Fld := ⟨0x200A04, 31, 1, 1⟩
abbrev CM_CRS_CTL_NC : Fld := ⟨0x200A04, 24, 7, 0⟩
abbrev CM_CRS_CTL_SPARE_UNKNOWN : Fld := ⟨0x200A04, 23, 1, 0⟩
abbrev CM_CRS_CMD_RESULT : Fld := ⟨0x200A08, 24, 8, 0⟩
abbrev CM_CRS_CMD_BUSY : Fld := ⟨0x200A08, 23, 1, 0⟩
abbrev CM_CRS_CMD_POS : Fld := ⟨0x200A08, 8, 7, 0⟩
abbrev CM_CRS_CMD_OP : Fld := ⟨0x200A08, 0, 4, 0⟩
abbrev CM_CRS_DELIV_DELIV : Fld := ⟨0x200A0C, 16, 16, 0⟩
abbrev CM_CRS_DELIV_WORST : Fld := ⟨0x200A0C, 0, 7, 0⟩
abbrev CM_CRS_MEAS_PERIOD : Fld := ⟨0x200A10, 20, 12, 0x3c⟩
abbrev CM_CRS_MEAS_ROUNDS : Fld := ⟨0x200A10, 0, 16, 0⟩
abbrev CM_CRS_PT_DONE : Fld := ⟨0x200A14, 16, 16, 0⟩
abbrev CM_CRS_PT_FAILED : Fld := ⟨0x200A14, 8, 8, 0⟩
abbrev CM_CRS_PT_MIRROR_LATE : Fld := ⟨0x200A14, 0, 8, 0⟩
abbrev GL_PT_CFG_LIMIT : Fld := ⟨0x100, 16, 16, 0x190⟩
abbrev GL_PT_CFG_RETRY_N : Fld := ⟨0x100, 4, 4, 8⟩
abbrev GL_PT_ERR_W0_STATUS : Fld := ⟨0x110, 24, 8, 0⟩
abbrev GL_PT_ERR_W0_COUNT : Fld := ⟨0x110, 0, 16, 0⟩
abbrev GL_PT_ERR_W1_ADDRESS : Fld := ⟨0x114, 0, 25, 0⟩

-- 12_measurement_intake.md
abbrev SI_PORT_LINK : Fld := ⟨0x80000, 31, 1, 0⟩
abbrev SI_PORT_MODE : Fld := ⟨0x80000, 30, 1, 0⟩
abbrev SI_PORT_SEC_REJ : Fld := ⟨0x80000, 8, 8, 0⟩
abbrev SI_PORT_FCS_ERR : Fld := ⟨0x80000, 0, 8, 0⟩
abbrev SI_SV_STAT_W0_STATE : Fld := ⟨0x80100, 28, 4, 0⟩
abbrev SI_SV_STAT_W0_LOST_RAISED : Fld := ⟨0x80100, 27, 1, 0⟩
abbrev SI_SV_STAT_W0_CONFREV_BAD : Fld := ⟨0x80100, 26, 1, 0⟩
abbrev SI_SV_STAT_W0_PORT : Fld := ⟨0x80100, 24, 2, 0⟩
abbrev SI_SV_STAT_W0_AGE : Fld := ⟨0x80100, 0, 16, 0x8000⟩
abbrev SI_SV_STAT_W1_GAPS : Fld := ⟨0x80104, 24, 8, 0⟩
abbrev SI_SV_STAT_W1_REJECTED : Fld := ⟨0x80104, 16, 8, 0⟩
abbrev SI_SV_STAT_W1_DUPLICATE : Fld := ⟨0x80104, 8, 8, 0⟩
abbrev SI_SV_STAT_W1_DISAGREE : Fld := ⟨0x80104, 0, 8, 0⟩
abbrev SI_SV_VAL_W0_VALUE : Fld := ⟨0x81000, 0, 32, 0⟩
abbrev SI_SV_VAL_W1_ALIGN : Fld := ⟨0x81004, 30, 2, 0⟩
abbrev SI_SV_VAL_W1_VALID : Fld := ⟨0x81004, 29, 1, 0⟩
abbrev SI_SV_VAL_W1_FROZEN : Fld := ⟨0x81004, 28, 1, 0⟩
abbrev SI_SV_VAL_W1_QUAL_BAD : Fld := ⟨0x81004, 27, 1, 0⟩
abbrev SI_GO_SUB_USED : Fld := ⟨0x82000, 31, 1, 0⟩
abbrev SI_GO_SUB_LOST : Fld := ⟨0x82000, 30, 1, 1⟩
abbrev SI_GO_SUB_LOST_RAISED : Fld := ⟨0x82000, 29, 1, 0⟩
abbrev SI_GO_SUB_CONFREV_BAD : Fld := ⟨0x82000, 28, 1, 0⟩
abbrev SI_GO_SUB_STNUM : Fld := ⟨0x82000, 0, 16, 0⟩
abbrev SI_GO_IN_W0_VALUE_LO : Fld := ⟨0x82100, 0, 32, 0⟩
abbrev SI_GO_IN_W1_VALUE_HI : Fld := ⟨0x82104, 0, 32, 0⟩
abbrev SI_GO_IN_W2_VALID_LO : Fld := ⟨0x82108, 0, 32, 0⟩
abbrev SI_GO_IN_W3_VALID_HI : Fld := ⟨0x8210C, 0, 32, 0⟩
abbrev SI_GO_PUB_USED : Fld := ⟨0x82200, 31, 1, 0⟩
abbrev SI_GO_PUB_STNUM : Fld := ⟨0x82200, 0, 16, 1⟩
abbrev SI_GO_PUB_CTL_TEST : Fld := ⟨0x82240, 31, 1, 0⟩
abbrev LM_CFG_TRIG : Fld := ⟨0x70000, 30, 2, 0⟩
abbrev LM_CFG_GROUP : Fld := ⟨0x70000, 28, 2, 0⟩
abbrev LM_CFG_EVT : Fld := ⟨0x70000, 24, 4, 0⟩
abbrev LM_CFG_NENTRIES : Fld := ⟨0x70000, 20, 4, 0⟩
abbrev LM_CFG_DELAY : Fld := ⟨0x70000, 0, 11, 0⟩
abbrev LM_STAT_STATE : Fld := ⟨0x70004, 30, 2, 0⟩
abbrev LM_STAT_OVERRUN : Fld := ⟨0x70004, 8, 8, 0⟩
abbrev LM_STAT_RUNS : Fld := ⟨0x70004, 0, 8, 0⟩
abbrev LM_CMD_RUN : Fld := ⟨0x70008, 0, 1, 0⟩
abbrev LM_CONT_EN : Fld := ⟨0x7000C, 31, 1, 0⟩
abbrev LM_CONT_DECIM : Fld := ⟨0x7000C, 8, 4, 0⟩
abbrev LM_CONT_GAIN : Fld := ⟨0x7000C, 6, 2, 0⟩
abbrev LM_CONT_INPUT : Fld := ⟨0x7000C, 0, 4, 0⟩
abbrev LM_CONT_T0_T0 : Fld := ⟨0x70010, 0, 32, 0⟩
abbrev LM_CONT_N_N : Fld := ⟨0x70014, 0, 32, 0⟩
abbrev LM_RESULT_WORD : Fld := ⟨0x70040, 0, 32, 0x1000⟩
abbrev LM_CAL_CMD_RESULT : Fld := ⟨0x70800, 24, 8, 0⟩
abbrev LM_CAL_CMD_BUSY : Fld := ⟨0x70800, 23, 1, 0⟩
abbrev LM_CAL_CMD_STEP : Fld := ⟨0x70800, 20, 3, 0⟩
abbrev LM_CAL_CMD_LM : Fld := ⟨0x70800, 18, 2, 0⟩
abbrev LM_CAL_CMD_GAIN : Fld := ⟨0x70800, 16, 2, 0⟩
abbrev LM_CAL_CMD_EXPECT : Fld := ⟨0x70800, 0, 16, 0⟩
abbrev LM_CAL_MEAS_MEAN : Fld := ⟨0x70804, 0, 32, 0⟩
abbrev LM_CAL_OFS : Fld := ⟨0x70840, 16, 16, 0⟩
abbrev LM_CAL_GCORR : Fld := ⟨0x70840, 0, 16, 0x8000⟩

-- 13_time_base.md
abbrev TB_STATUS_PLL_LOCKED : Fld := ⟨0x30000, 31, 1, 0⟩
abbrev TB_STATUS_PLL_LOST : Fld := ⟨0x30000, 30, 1, 0⟩
abbrev TB_STATUS_TIME_SUSPECT : Fld := ⟨0x30000, 29, 1, 1⟩
abbrev TB_STATUS_SV_SUSPECT : Fld := ⟨0x30000, 28, 1, 1⟩
abbrev TB_STATUS_PPS_TRACE : Fld := ⟨0x30000, 27, 1, 0⟩
abbrev TB_STATUS_STEPS : Fld := ⟨0x30000, 22, 2, 0⟩
abbrev TB_PLL_REFSEL : Fld := ⟨0x30004, 31, 1, 0⟩
abbrev TB_PLL_DEV : Fld := ⟨0x30004, 0, 16, 0⟩
abbrev TB_FREQ_FREQ : Fld := ⟨0x30008, 0, 32, 0⟩
abbrev TB_NOW_NS_NS : Fld := ⟨0x30010, 0, 32, 0⟩
abbrev TB_NOW_SEC_LO_SEC_LO : Fld := ⟨0x30014, 0, 32, 0⟩
abbrev TB_NOW_SEC_HI_SEC_HI : Fld := ⟨0x30018, 0, 32, 0⟩
abbrev TB_CT_LO_CT_LO : Fld := ⟨0x30020, 0, 32, 0⟩
abbrev TB_CT_HI_CT_HI : Fld := ⟨0x30024, 0, 16, 0⟩
abbrev TB_SERVO_CFG_MODE : Fld := ⟨0x30040, 31, 1, 0⟩
abbrev TB_SERVO_CFG_CLOCK : Fld := ⟨0x30040, 30, 1, 0⟩
abbrev TB_SERVO_CFG_PROFILE : Fld := ⟨0x30040, 28, 2, 0⟩
abbrev TB_SERVO_CFG_SLAVE_ONLY : Fld := ⟨0x30040, 27, 1, 0⟩
abbrev TB_SERVO_CFG_DOMAIN : Fld := ⟨0x30040, 16, 8, 0⟩
abbrev TB_SERVO_CFG_SLEW_MAX : Fld := ⟨0x30040, 0, 14, 0⟩
abbrev TB_SERVO_STATE : Fld := ⟨0x30044, 28, 4, 0⟩
abbrev TB_SERVO_SLEWING : Fld := ⟨0x30044, 27, 1, 0⟩
abbrev TB_SERVO_DEFERRED : Fld := ⟨0x30044, 26, 1, 0⟩
abbrev TB_SERVO_FREQ_SAT : Fld := ⟨0x30044, 25, 1, 0⟩
abbrev TB_SERVO_OFFSET_RAISED : Fld := ⟨0x30044, 24, 1, 0⟩
abbrev TB_SERVO_HOLD_RAISED : Fld := ⟨0x30044, 23, 1, 0⟩
abbrev TB_SERVO_SLAVE_PORT : Fld := ⟨0x30044, 16, 2, 0⟩
abbrev TB_OFFSET_OFFSET : Fld := ⟨0x30048, 0, 32, 0⟩
abbrev TB_SLEW_LEFT_LEFT : Fld := ⟨0x3004C, 0, 32, 0⟩
abbrev TB_HOLD_SECONDS : Fld := ⟨0x30050, 0, 32, 0⟩
abbrev TB_ADJ_CMD_RESULT : Fld := ⟨0x30060, 24, 8, 0⟩
abbrev TB_ADJ_CMD_BUSY : Fld := ⟨0x30060, 23, 1, 0⟩
abbrev TB_ADJ_CMD_CODE : Fld := ⟨0x30060, 0, 8, 0⟩
abbrev TB_ADJ_SEC_SEC : Fld := ⟨0x30064, 0, 32, 0⟩
abbrev TB_ADJ_NS_NS : Fld := ⟨0x30068, 0, 32, 0⟩
abbrev TB_PTP_PORT_W0_STATE : Fld := ⟨0x30100, 28, 4, 1⟩
abbrev TB_PTP_PORT_W0_PEER_TWO_STEP : Fld := ⟨0x30100, 27, 1, 0⟩
abbrev TB_PTP_PORT_W0_QLOST : Fld := ⟨0x30100, 16, 8, 0⟩
abbrev TB_PTP_PORT_W0_PD_REJECT : Fld := ⟨0x30100, 8, 8, 0⟩
abbrev TB_PTP_PORT_W1_MPD : Fld := ⟨0x30104, 0, 32, 0⟩
abbrev TB_PTP_PORT_W2_ASYM : Fld := ⟨0x30108, 0, 32, 0⟩
abbrev TB_PTP_TSQ_W0_VALID : Fld := ⟨0x30200, 31, 1, 0⟩
abbrev TB_PTP_TSQ_W0_TX : Fld := ⟨0x30200, 30, 1, 0⟩
abbrev TB_PTP_TSQ_W0_MSGTYPE : Fld := ⟨0x30200, 24, 4, 0⟩
abbrev TB_PTP_TSQ_W0_SEQID : Fld := ⟨0x30200, 0, 16, 0⟩
abbrev TB_PTP_TSQ_W1_SEC_LO : Fld := ⟨0x30204, 0, 32, 0⟩
abbrev TB_PTP_TSQ_W2_NS : Fld := ⟨0x30208, 0, 32, 0⟩
abbrev TB_PTP_TSQ_W3_SEC_HI : Fld := ⟨0x3020C, 16, 16, 0⟩
abbrev TB_PTP_TSQ_W3_FRAC : Fld := ⟨0x3020C, 0, 16, 0⟩
abbrev TB_EVT_CFG_EDGE : Fld := ⟨0x30400, 30, 2, 0⟩
abbrev TB_EVT_CFG_FILTER : Fld := ⟨0x30400, 0, 9, 0⟩
abbrev TB_EVT_STAT_LEVEL : Fld := ⟨0x30404, 31, 1, 0⟩
abbrev TB_EVT_STAT_OVERFLOW : Fld := ⟨0x30404, 16, 8, 0⟩
abbrev TB_EVT_STAT_FILL : Fld := ⟨0x30404, 0, 5, 0⟩
abbrev TB_EVT_FIFO_W0_VALID : Fld := ⟨0x30500, 31, 1, 0⟩
abbrev TB_EVT_FIFO_W0_RISING : Fld := ⟨0x30500, 30, 1, 0⟩
abbrev TB_EVT_FIFO_W0_STEPS : Fld := ⟨0x30500, 28, 2, 0⟩
abbrev TB_EVT_FIFO_W0_SEC_HI : Fld := ⟨0x30500, 0, 16, 0⟩
abbrev TB_EVT_FIFO_W1_SEC_LO : Fld := ⟨0x30504, 0, 32, 0⟩
abbrev TB_EVT_FIFO_W2_NS : Fld := ⟨0x30508, 0, 32, 0⟩
abbrev TB_EVT_FIFO_W3_FRAC : Fld := ⟨0x3050C, 0, 16, 0⟩
abbrev TB_TIO_W0_MODE : Fld := ⟨0x30600, 30, 2, 0⟩
abbrev TB_TIO_W0_GROUP : Fld := ⟨0x30600, 28, 2, 0⟩
abbrev TB_TIO_W1_T_LO : Fld := ⟨0x30604, 0, 32, 0⟩
abbrev TB_TIO_W2_LEVEL : Fld := ⟨0x30608, 31, 1, 0⟩
abbrev TB_TIO_W2_SUB : Fld := ⟨0x30608, 24, 7, 0⟩
abbrev TB_TIO_W2_T_HI : Fld := ⟨0x30608, 0, 16, 0⟩
abbrev TB_TIO_W3_RESULT : Fld := ⟨0x3060C, 24, 8, 0⟩
abbrev TB_TIO_W3_PENDING : Fld := ⟨0x3060C, 23, 1, 0⟩
abbrev TB_TIO_W3_LEVEL_NOW : Fld := ⟨0x3060C, 22, 1, 0⟩
abbrev TB_TIO_W3_REPLACED : Fld := ⟨0x3060C, 16, 6, 0⟩
abbrev TB_TIO_W3_EDGES : Fld := ⟨0x3060C, 0, 16, 0⟩
abbrev TB_PPS_WIDTH : Fld := ⟨0x30700, 0, 9, 0⟩

-- 14_triplex_channels.md
abbrev TP_STATE_STATE : Fld := ⟨0x60000, 28, 4, 0⟩
abbrev TP_STATE_IN_SERVICE : Fld := ⟨0x60000, 25, 3, 0⟩
abbrev TP_STATE_FENCED : Fld := ⟨0x60000, 22, 3, 0⟩
abbrev TP_STATE_DONOR : Fld := ⟨0x60000, 20, 2, 3⟩
abbrev TP_STATE_RESYNC : Fld := ⟨0x60000, 18, 2, 3⟩
abbrev TP_STATE_SIMPLEX_MS : Fld := ⟨0x60000, 0, 16, 0⟩
abbrev TP_CFG_AUTO_RESYNC : Fld := ⟨0x60004, 31, 1, 1⟩
abbrev TP_CFG_SIMPLEX_LIMIT : Fld := ⟨0x60004, 24, 7, 0x14⟩
abbrev TP_CFG_LATE_N : Fld := ⟨0x60004, 20, 4, 4⟩
abbrev TP_CFG_FENCE_MAX : Fld := ⟨0x60004, 16, 4, 3⟩
abbrev TP_CFG_PROOF_PERIOD : Fld := ⟨0x60004, 8, 8, 0⟩
abbrev TP_CH_STATE : Fld := ⟨0x60010, 28, 4, 0⟩
abbrev TP_CH_CAUSE : Fld := ⟨0x60010, 24, 4, 0⟩
abbrev TP_CH_FENCES : Fld := ⟨0x60010, 20, 4, 0⟩
abbrev TP_CH_STRIKES : Fld := ⟨0x60010, 12, 8, 0⟩
abbrev TP_CH_SHADOW : Fld := ⟨0x60010, 0, 9, 0⟩
abbrev TP_CMD_RESULT : Fld := ⟨0x60020, 24, 8, 0⟩
abbrev TP_CMD_BUSY : Fld := ⟨0x60020, 23, 1, 0⟩
abbrev TP_CMD_CH : Fld := ⟨0x60020, 8, 2, 0⟩
abbrev TP_CMD_CODE : Fld := ⟨0x60020, 0, 8, 0⟩
abbrev TP_HB_PATH_FAULTS : Fld := ⟨0x60024, 16, 16, 0⟩
abbrev TP_HB_PIN_MISSING : Fld := ⟨0x60024, 8, 6, 0⟩
abbrev TP_HB_LINK_MISSING : Fld := ⟨0x60024, 0, 6, 0⟩
abbrev TP_VOTE_MINORITY : Fld := ⟨0x60030, 24, 8, 0⟩
abbrev TP_VOTE_LATE : Fld := ⟨0x60030, 16, 8, 0⟩
abbrev TP_VOTE_LATE_RUN : Fld := ⟨0x60030, 8, 8, 0⟩
abbrev TP_VOTE_DIGEST_BAD : Fld := ⟨0x60030, 0, 8, 0⟩
abbrev TP_VOTE_DEV_NO_MAJORITY : Fld := ⟨0x6003C, 16, 16, 0⟩
abbrev TP_VOTE_DEV_BRIDGED : Fld := ⟨0x6003C, 0, 16, 0⟩
abbrev TP_DIGEST_AGREE : Fld := ⟨0x60040, 29, 3, 0⟩
abbrev TP_DIGEST_CYCLE : Fld := ⟨0x60040, 0, 24, 0⟩
abbrev TP_PROOF_STATE : Fld := ⟨0x60050, 28, 4, 0⟩
abbrev TP_PROOF_RESULT : Fld := ⟨0x60050, 24, 4, 0⟩
abbrev TP_PROOF_FAILED : Fld := ⟨0x60050, 21, 3, 0⟩
abbrev TP_PROOF_STEP : Fld := ⟨0x60050, 0, 8, 0⟩

-- 15_fault_collection.md
abbrev FC_STATUS_SAFE_STATE : Fld := ⟨0x40000, 31, 1, 0⟩
abbrev FC_STATUS_DIRECT : Fld := ⟨0x40000, 30, 1, 0⟩
abbrev FC_STATUS_ERR_PIN : Fld := ⟨0x40000, 29, 1, 1⟩
abbrev FC_STATUS_CLEAR_REFUSED : Fld := ⟨0x40000, 8, 8, 0⟩
abbrev FC_FIRST_VALID : Fld := ⟨0x40004, 31, 1, 0⟩
abbrev FC_FIRST_SAME_TICK : Fld := ⟨0x40004, 16, 8, 0⟩
abbrev FC_FIRST_SOURCE : Fld := ⟨0x40004, 0, 9, 0⟩
abbrev FC_FIRST_SEQ_SEQ : Fld := ⟨0x40008, 0, 32, 0⟩
abbrev FC_CMD_RESULT : Fld := ⟨0x40010, 24, 8, 0⟩
abbrev FC_CMD_CODE : Fld := ⟨0x40010, 0, 8, 0⟩
abbrev FC_LOG_STAT_HEAD : Fld := ⟨0x40020, 20, 12, 0⟩
abbrev FC_LOG_STAT_QUEUE : Fld := ⟨0x40020, 0, 11, 0⟩
abbrev FC_LOG_IDX_INDEX : Fld := ⟨0x40024, 0, 12, 0⟩
abbrev FC_INJ_RESULT : Fld := ⟨0x40030, 24, 8, 0⟩
abbrev FC_INJ_ARMED : Fld := ⟨0x40030, 23, 1, 0⟩
abbrev FC_INJ_TILE : Fld := ⟨0x40030, 8, 4, 0⟩
abbrev FC_INJ_MODE : Fld := ⟨0x40030, 7, 1, 0⟩
abbrev FC_INJ_BITS : Fld := ⟨0x40030, 6, 1, 0⟩
abbrev FC_INJ_TARGET : Fld := ⟨0x40030, 0, 3, 0⟩
abbrev FC_INJ_ADDR_ADDR : Fld := ⟨0x40034, 0, 32, 0⟩
abbrev FC_IRQ_EN : Fld := ⟨0x40040, 31, 1, 0⟩
abbrev FC_IRQ_PENDING : Fld := ⟨0x40040, 30, 1, 0⟩
abbrev FC_SELF_CORR : Fld := ⟨0x40060, 0, 16, 0⟩
abbrev FC_LATCH_LATCH : Fld := ⟨0x40100, 0, 1, 0⟩
abbrev FC_COND_COND : Fld := ⟨0x40140, 0, 1, 0⟩
abbrev FC_LOG_WIN_DATA : Fld := ⟨0x40200, 0, 32, 0⟩
abbrev FC_REACT_FIXED : Fld := ⟨0x40400, 31, 1, 0⟩
abbrev FC_REACT_KIND : Fld := ⟨0x40400, 30, 1, 0⟩
abbrev FC_REACT_GROUPS : Fld := ⟨0x40400, 8, 4, 0⟩
abbrev FC_REACT_ERR : Fld := ⟨0x40400, 7, 1, 0⟩
abbrev FC_REACT_REACTION : Fld := ⟨0x40400, 0, 3, 0⟩
abbrev FC_COUNT_COUNT : Fld := ⟨0x40C00, 0, 32, 0⟩

-- 16_safe_brake_and_block.md
abbrev SB_STATUS_BRAKE : Fld := ⟨0x50000, 30, 2, 0⟩
abbrev SB_STATUS_DEGRADED : Fld := ⟨0x50000, 29, 1, 0⟩
abbrev SB_STATUS_TESTING : Fld := ⟨0x50000, 28, 1, 0⟩
abbrev SB_STATUS_HOLD_1 : Fld := ⟨0x50000, 27, 1, 0⟩
abbrev SB_STATUS_HOLD_2 : Fld := ⟨0x50000, 26, 1, 0⟩
abbrev SB_STATUS_FB_1 : Fld := ⟨0x50000, 25, 1, 0⟩
abbrev SB_STATUS_FB_2 : Fld := ⟨0x50000, 24, 1, 0⟩
abbrev SB_STATUS_TRIP : Fld := ⟨0x50000, 20, 4, 0⟩
abbrev SB_STATUS_SBC_REQ : Fld := ⟨0x50000, 19, 1, 0⟩
abbrev SB_STATUS_OSC_OK : Fld := ⟨0x50000, 18, 1, 0⟩
abbrev SB_DEMAND_COND : Fld := ⟨0x50004, 16, 10, 0⟩
abbrev SB_DEMAND_IN_FORCE : Fld := ⟨0x50004, 0, 10, 0⟩
abbrev SB_CHAN_FAIL_1 : Fld := ⟨0x50008, 31, 1, 0⟩
abbrev SB_CHAN_FAIL_2 : Fld := ⟨0x50008, 30, 1, 0⟩
abbrev SB_CHAN_LAST_1 : Fld := ⟨0x50008, 27, 3, 0⟩
abbrev SB_CHAN_LAST_2 : Fld := ⟨0x50008, 24, 3, 0⟩
abbrev SB_CHAN_TESTS_1 : Fld := ⟨0x50008, 8, 8, 0⟩
abbrev SB_CHAN_TESTS_2 : Fld := ⟨0x50008, 0, 8, 0⟩
abbrev SB_DEG_CHANNEL : Fld := ⟨0x5000C, 31, 1, 0⟩
abbrev SB_DEG_ELAPSED : Fld := ⟨0x5000C, 0, 16, 0⟩
abbrev SB_SEAL_MATCH : Fld := ⟨0x50010, 31, 1, 0⟩
abbrev SB_SEAL_CHANGED : Fld := ⟨0x50010, 30, 1, 0⟩
abbrev SB_SEAL_EXPECTED : Fld := ⟨0x50010, 16, 12, 0⟩
abbrev SB_SEAL_SWITCHES : Fld := ⟨0x50010, 0, 12, 0⟩
abbrev SB_CMD_RESULT : Fld := ⟨0x50020, 24, 8, 0⟩
abbrev SB_CMD_BUSY : Fld := ⟨0x50020, 23, 1, 0⟩
abbrev SB_CMD_CODE : Fld := ⟨0x50020, 0, 8, 0⟩
abbrev SB_CMD_MASK_LO_MASK_LO : Fld := ⟨0x50024, 0, 32, 0⟩
abbrev SB_CMD_MASK_HI_MASK_HI : Fld := ⟨0x50028, 0, 32, 0⟩
abbrev SB_COURSE_STATE : Fld := ⟨0x50100, 30, 2, 0⟩
abbrev SB_COURSE_CAUSE : Fld := ⟨0x50100, 24, 6, 0⟩
abbrev SB_COURSE_SENT : Fld := ⟨0x50100, 16, 8, 0⟩
abbrev SB_COURSE_SEQ : Fld := ⟨0x50100, 0, 16, 0⟩

-- 17_host_ports_and_contexts.md
abbrev HC_SELF_CTX : Fld := ⟨0x10000, 29, 3, 0⟩
abbrev HC_SELF_ROLE : Fld := ⟨0x10000, 27, 2, 0⟩
abbrev HC_SELF_STATE : Fld := ⟨0x10000, 25, 2, 0⟩
abbrev HC_SELF_PORT : Fld := ⟨0x10000, 24, 1, 0⟩
abbrev HC_CTX_CMD_RESULT : Fld := ⟨0x10004, 24, 8, 0⟩
abbrev HC_CTX_CMD_CODE : Fld := ⟨0x10004, 0, 8, 0⟩
abbrev HC_OWNER_RESULT : Fld := ⟨0x10008, 24, 8, 0⟩
abbrev HC_OWNER_OWNER : Fld := ⟨0x10008, 20, 3, 0⟩
abbrev HC_OWNER_TARGET : Fld := ⟨0x10008, 17, 3, 0⟩
abbrev HC_OWNER_CLAIM_WAIT : Fld := ⟨0x10008, 5, 12, 0⟩
abbrev HC_OWNER_CODE : Fld := ⟨0x10008, 0, 2, 0⟩
abbrev HC_CLAIM_RESULT : Fld := ⟨0x1000C, 24, 8, 0⟩
abbrev HC_CLAIM_CLAIM : Fld := ⟨0x1000C, 0, 1, 0⟩
abbrev HC_PORT_LINK_UP : Fld := ⟨0x10010, 31, 1, 0⟩
abbrev HC_PORT_SPEED : Fld := ⟨0x10010, 28, 3, 0⟩
abbrev HC_PORT_WIDTH : Fld := ⟨0x10010, 25, 3, 0⟩
abbrev HC_PORT_LINK_DOWNS : Fld := ⟨0x10010, 8, 8, 0⟩
abbrev HC_PORT_UNCORR : Fld := ⟨0x10010, 0, 8, 0⟩
abbrev HC_CTX_CFG_ROLE : Fld := ⟨0x10100, 30, 2, 0⟩
abbrev HC_CTX_STAT_STATE : Fld := ⟨0x10104, 30, 2, 0⟩
abbrev HC_CTX_STAT_CAUSE : Fld := ⟨0x10104, 27, 3, 0⟩
abbrev HC_CTX_STAT_REFUSED : Fld := ⟨0x10104, 8, 8, 0⟩
abbrev HC_CTX_STAT_HALF_LIVE : Fld := ⟨0x10104, 4, 4, 0⟩
abbrev HC_CTX_STAT_PARTIAL : Fld := ⟨0x10104, 0, 4, 0⟩
abbrev HC_CTX_REFADDR_BAR2 : Fld := ⟨0x10108, 31, 1, 0⟩
abbrev HC_CTX_REFADDR_WRITE : Fld := ⟨0x10108, 30, 1, 0⟩
abbrev HC_CTX_REFADDR_CAUSE : Fld := ⟨0x10108, 28, 2, 0⟩
abbrev HC_CTX_REFADDR_OFFSET : Fld := ⟨0x10108, 0, 27, 0⟩
abbrev HC_MMU_CTL_MODE : Fld := ⟨0x10110, 30, 2, 0⟩
abbrev HC_MMU_CTL_BUSY : Fld := ⟨0x10110, 29, 1, 0⟩
abbrev HC_MMU_CTL_INV : Fld := ⟨0x10110, 0, 2, 0⟩
abbrev HC_MMU_ROOT_LO_ROOT_LO : Fld := ⟨0x10114, 0, 32, 0⟩
abbrev HC_MMU_ROOT_HI_ROOT_HI : Fld := ⟨0x10118, 0, 32, 0⟩
abbrev HC_MMU_INV_LO_INV_LO : Fld := ⟨0x1011C, 0, 32, 0⟩
abbrev HC_MMU_INV_HI_INV_HI : Fld := ⟨0x10120, 0, 16, 0⟩
abbrev HC_MMU_FAULT_PENDING : Fld := ⟨0x10124, 31, 1, 0⟩
abbrev HC_MMU_FAULT_WRITE : Fld := ⟨0x10124, 30, 1, 0⟩
abbrev HC_MMU_FAULT_CAUSE : Fld := ⟨0x10124, 24, 3, 0⟩
abbrev HC_MMU_FAULT_COUNT : Fld := ⟨0x10124, 0, 16, 0⟩
abbrev HC_MMU_FADDR_LO_FADDR_LO : Fld := ⟨0x10128, 0, 32, 0⟩
abbrev HC_MMU_FADDR_HI_FADDR_HI : Fld := ⟨0x1012C, 0, 16, 0⟩
abbrev HC_IRQ_EN_EN : Fld := ⟨0x10130, 1, 12, 0⟩
abbrev HC_IRQ_STAT_STAT : Fld := ⟨0x10134, 1, 12, 0⟩

-- 18_transfer_engine.md
abbrev DM_CFG_HOP_LIMIT : Fld := ⟨0x90000, 16, 16, 0x1000⟩
abbrev DM_FREE_FREE : Fld := ⟨0x90004, 0, 32, 0xffffffff⟩
abbrev DM_CH_CMD_RESULT : Fld := ⟨0x90100, 24, 8, 0⟩
abbrev DM_CH_CMD_CODE : Fld := ⟨0x90100, 0, 8, 0⟩
abbrev DM_CH_STAT_OWNER : Fld := ⟨0x90104, 29, 3, 0⟩
abbrev DM_CH_STAT_STATE : Fld := ⟨0x90104, 25, 4, 0⟩
abbrev DM_CH_STAT_CAUSE : Fld := ⟨0x90104, 21, 4, 0⟩
abbrev DM_CH_STAT_ARMED : Fld := ⟨0x90104, 20, 1, 0⟩
abbrev DM_CH_STAT_HOPS : Fld := ⟨0x90104, 0, 16, 0⟩
abbrev DM_CH_CFG_PRIO : Fld := ⟨0x90108, 30, 2, 3⟩
abbrev DM_CH_IRQ_HALF : Fld := ⟨0x9010C, 31, 1, 0⟩
abbrev DM_CH_IRQ_FULL : Fld := ⟨0x9010C, 30, 1, 0⟩
abbrev DM_CH_IRQ_DONE : Fld := ⟨0x9010C, 29, 1, 0⟩
abbrev DM_CH_IRQ_STOP : Fld := ⟨0x9010C, 28, 1, 0⟩
abbrev DM_CH_IRQ_OVERRUN : Fld := ⟨0x9010C, 27, 1, 0⟩
abbrev DM_CH_IRQ_EN_HALF : Fld := ⟨0x90110, 31, 1, 0⟩
abbrev DM_CH_IRQ_EN_FULL : Fld := ⟨0x90110, 30, 1, 0⟩
abbrev DM_CH_IRQ_EN_DONE : Fld := ⟨0x90110, 29, 1, 0⟩
abbrev DM_CH_IRQ_EN_STOP : Fld := ⟨0x90110, 28, 1, 0⟩
abbrev DM_CH_IRQ_EN_OVERRUN : Fld := ⟨0x90110, 27, 1, 0⟩
abbrev DM_CH_DONE_DONE : Fld := ⟨0x90114, 0, 32, 0⟩
abbrev DM_CH_PASS_PASS : Fld := ⟨0x90118, 0, 32, 0⟩
abbrev DM_CH_LOST_LOST : Fld := ⟨0x9011C, 0, 32, 0⟩
abbrev DM_CH_RING0_RING0 : Fld := ⟨0x90120, 0, 32, 0⟩
abbrev DM_CH_DETAIL_RULE : Fld := ⟨0x90124, 24, 8, 0⟩
abbrev DM_CH_DETAIL_PTFAIL : Fld := ⟨0x90124, 0, 16, 0⟩
abbrev DM_CH_SH_SHADOW : Fld := ⟨0x90140, 0, 32, 0⟩
abbrev DM_CH_ACT_ACTIVE : Fld := ⟨0x90160, 0, 32, 0⟩

-- 19_balls_supplies_limits.md
abbrev GL_TEMP_PEAK : Fld := ⟨0x40, 16, 16, 0x8000⟩
abbrev GL_TEMP_NOW : Fld := ⟨0x40, 0, 16, 0x8000⟩
abbrev GL_SUPPLY_HIGH : Fld := ⟨0x60, 8, 7, 0⟩
abbrev GL_SUPPLY_LOW : Fld := ⟨0x60, 0, 7, 0⟩

end F

end Sys2Proof.Machine
end

