-- ==== Sys2Proof/Machine/RegMap.lean ====
section
/-! DEFINITION. The register map of BAR0 (R432): every register of the spec's tables with its offset, its copies, the
context roles that may access it and its fields. -/

namespace Sys2Proof.Machine

/-- Registers of spec/00_scope.md. -/
def regs00_0 : List RegDesc := [
  ⟨"GL_ID", 0x0, [], 7, 7,
    [⟨F.GL_ID_PART, 16, .ro, false, none⟩, ⟨F.GL_ID_REV, 8, .ro, false, none⟩, ⟨F.GL_ID_GRADE, 6, .ro, false, none⟩, ⟨F.GL_ID_DEVID, 0, .ro, false, none⟩]⟩]

/-- Registers of spec/02_mortar_and_restore.md. -/
def regs02_0 : List RegDesc := [
  ⟨"GL_READY", 0x4, [], 7, 7,
    [⟨F.GL_READY_GROUP, 28, .ro, false, none⟩, ⟨F.GL_READY_RESTORE_DEGRADED, 15, .ro, false, none⟩, ⟨F.GL_READY_LANE_L1, 14, .ro, false, none⟩, ⟨F.GL_READY_LANE_L0, 13, .ro, false, none⟩, ⟨F.GL_READY_DMA, 12, .ro, false, none⟩, ⟨F.GL_READY_LOCALMEAS, 11, .ro, false, none⟩, ⟨F.GL_READY_INTAKE, 10, .ro, false, none⟩, ⟨F.GL_READY_TRIPLEX, 9, .ro, false, none⟩, ⟨F.GL_READY_SAFETY, 8, .ro, false, none⟩, ⟨F.GL_READY_FAULTS, 7, .ro, false, none⟩, ⟨F.GL_READY_PTP, 6, .ro, false, none⟩, ⟨F.GL_READY_TIMEBASE, 5, .ro, false, none⟩, ⟨F.GL_READY_JOURNAL, 4, .ro, false, none⟩, ⟨F.GL_READY_MORTAR, 3, .ro, false, none⟩, ⟨F.GL_READY_STORE, 2, .ro, false, none⟩, ⟨F.GL_READY_HOST_B, 1, .ro, false, none⟩, ⟨F.GL_READY_HOST_A, 0, .ro, false, none⟩]⟩,
  ⟨"GL_START", 0x8, [], 7, 7,
    [⟨F.GL_START_STARTS, 16, .ro, true, none⟩, ⟨F.GL_START_PIN_RESETS, 8, .ro, true, none⟩, ⟨F.GL_START_KILN, 6, .ro, false, none⟩, ⟨F.GL_START_CAUSE, 0, .ro, false, none⟩]⟩,
  ⟨"GL_KILN", 0xC, [], 1, 1,
    [⟨F.GL_KILN_CODE, 0, .wo, false, none⟩]⟩,
  ⟨"MO_STATUS", 0x20000, [], 7, 7,
    [⟨F.MO_STATUS_FLOOR, 24, .ro, true, none⟩, ⟨F.MO_STATUS_STORE_ERR, 16, .ro, false, none⟩, ⟨F.MO_STATUS_ACTIVE_DAMAGED, 17, .ro, false, none⟩, ⟨F.MO_STATUS_KEYS, 12, .ro, true, none⟩, ⟨F.MO_STATUS_ACTIVE, 8, .ro, true, none⟩, ⟨F.MO_STATUS_SINGLE_ERRS, 0, .rc, false, none⟩]⟩,
  ⟨"MO_SLOT", 0x20004, [(2, 0x4)], 7, 7,
    [⟨F.MO_SLOT_STATE, 28, .ro, true, none⟩, ⟨F.MO_SLOT_REASON, 16, .ro, true, none⟩, ⟨F.MO_SLOT_SECVER, 0, .ro, true, none⟩]⟩,
  ⟨"MO_CMD", 0x20010, [], 1, 1,
    [⟨F.MO_CMD_RESULT, 24, .ro, false, none⟩, ⟨F.MO_CMD_BUSY, 23, .ro, false, none⟩, ⟨F.MO_CMD_ARG, 8, .wo, false, none⟩, ⟨F.MO_CMD_CODE, 0, .wo, false, none⟩]⟩,
  ⟨"MO_LIVE", 0x20020, [], 7, 7,
    [⟨F.MO_LIVE_STATE, 28, .ro, false, none⟩, ⟨F.MO_LIVE_GROUPS, 24, .ro, false, none⟩, ⟨F.MO_LIVE_RESULT, 16, .ro, false, none⟩, ⟨F.MO_LIVE_SECTION, 0, .ro, false, none⟩]⟩,
  ⟨"MO_LIVE_AT_LO", 0x20024, [], 7, 7,
    [⟨F.MO_LIVE_AT_LO_AT_LO, 0, .ro, false, none⟩]⟩,
  ⟨"MO_LIVE_AT_HI", 0x20028, [], 7, 7,
    [⟨F.MO_LIVE_AT_HI_AT_HI, 0, .ro, false, none⟩]⟩,
  ⟨"MO_JOURNAL", 0x20030, [], 7, 7,
    [⟨F.MO_JOURNAL_PENDING, 31, .ro, false, none⟩, ⟨F.MO_JOURNAL_HALF, 30, .ro, false, none⟩, ⟨F.MO_JOURNAL_FILL, 0, .ro, false, none⟩]⟩,
  ⟨"MO_SCRUB", 0x20040, [], 7, 1,
    [⟨F.MO_SCRUB_PERIOD, 24, .rw, true, none⟩, ⟨F.MO_SCRUB_PASS_PCT, 16, .ro, false, none⟩, ⟨F.MO_SCRUB_UNCORR, 8, .rc, false, none⟩, ⟨F.MO_SCRUB_CORR, 0, .rc, false, none⟩]⟩]

/-- Registers of spec/03_cycle_and_stages.md. -/
def regs03_0 : List RegDesc := [
  ⟨"PL_CFG", 0x100000, [(12, 0x10000)], 7, 7,
    [⟨F.PL_CFG_TYPE, 30, .ro, true, none⟩, ⟨F.PL_CFG_GROUP, 28, .ro, true, none⟩, ⟨F.PL_CFG_STAGES, 22, .ro, true, none⟩, ⟨F.PL_CFG_NCOURSES, 12, .ro, true, none⟩]⟩,
  ⟨"PL_TIMING", 0x100004, [(12, 0x10000)], 7, 7,
    [⟨F.PL_TIMING_CYCLE, 24, .ro, true, none⟩, ⟨F.PL_TIMING_LEAD, 16, .ro, true, none⟩, ⟨F.PL_TIMING_EMIT_DL, 8, .ro, true, none⟩, ⟨F.PL_TIMING_REPORT_DL, 0, .ro, true, none⟩]⟩,
  ⟨"PL_OUTER", 0x100008, [(12, 0x10000)], 7, 7,
    [⟨F.PL_OUTER_DIV, 16, .ro, true, none⟩, ⟨F.PL_OUTER_MISS_LIMIT, 8, .ro, true, none⟩, ⟨F.PL_OUTER_PHASE, 0, .ro, true, none⟩]⟩,
  ⟨"PL_STATUS", 0x100010, [(12, 0x10000)], 7, 3,
    [⟨F.PL_STATUS_RUNNING, 31, .ro, false, none⟩, ⟨F.PL_STATUS_LEAD_SHORT, 30, .ro, false, none⟩, ⟨F.PL_STATUS_OVERFLOW, 29, .w1c, false, none⟩, ⟨F.PL_STATUS_MISSED, 28, .w1c, false, none⟩, ⟨F.PL_STATUS_CONSEC, 24, .ro, false, none⟩]⟩,
  ⟨"PL_MISSES", 0x100014, [(12, 0x10000)], 7, 7,
    [⟨F.PL_MISSES_COUNT, 0, .rc, false, none⟩]⟩,
  ⟨"PL_CYCLE", 0x100018, [(12, 0x10000)], 7, 7,
    [⟨F.PL_CYCLE_NUMBER, 0, .ro, false, none⟩]⟩,
  ⟨"PL_OPEN_LO", 0x100020, [(12, 0x10000)], 7, 7,
    [⟨F.PL_OPEN_LO_OPEN_LO, 0, .ro, false, none⟩]⟩,
  ⟨"PL_OPEN_HI", 0x100024, [(12, 0x10000)], 7, 7,
    [⟨F.PL_OPEN_HI_OPEN_HI, 0, .ro, false, none⟩]⟩,
  ⟨"PL_SLACK", 0x100030, [(12, 0x10000), (3, 0x4)], 7, 7,
    [⟨F.PL_SLACK_WMIN, 16, .ro, false, none⟩, ⟨F.PL_SLACK_LAST, 0, .ro, false, none⟩]⟩,
  ⟨"GP_SP_SHADOW", 0xA8000, [(4, 0x400), (64, 0x4)], 7, 3,
    [⟨F.GP_SP_SHADOW_VALUE, 0, .rw, false, none⟩]⟩,
  ⟨"GP_SP_ACTIVE", 0xA8100, [(4, 0x400), (64, 0x4)], 7, 7,
    [⟨F.GP_SP_ACTIVE_VALUE, 0, .ro, false, none⟩]⟩,
  ⟨"GP_SP_COMMIT", 0xA8200, [(4, 0x400)], 3, 3,
    [⟨F.GP_SP_COMMIT_TAG, 0, .wo, false, none⟩]⟩]

/-- Registers of spec/03_cycle_and_stages.md. -/
def regs03_1 : List RegDesc := [
  ⟨"GP_SP_STATUS", 0xA8204, [(4, 0x400)], 7, 7,
    [⟨F.GP_SP_STATUS_LATCHED_TAG, 16, .ro, false, none⟩, ⟨F.GP_SP_STATUS_PENDING, 15, .ro, false, none⟩, ⟨F.GP_SP_STATUS_CLAMPED, 14, .w1c, false, none⟩, ⟨F.GP_SP_STATUS_RESULT, 12, .ro, false, none⟩, ⟨F.GP_SP_STATUS_BAD_WORD, 6, .ro, false, none⟩, ⟨F.GP_SP_STATUS_SUPERSEDED, 0, .rc, false, none⟩]⟩,
  ⟨"GP_SP_LATCHED", 0xA8208, [(4, 0x400)], 7, 7,
    [⟨F.GP_SP_LATCHED_CYCLE, 0, .ro, false, none⟩]⟩,
  ⟨"GL_VADAPT", 0x80, [], 7, 1,
    [⟨F.GL_VADAPT_EN, 31, .rw, true, none⟩, ⟨F.GL_VADAPT_UP_BELOW, 16, .rw, true, none⟩, ⟨F.GL_VADAPT_DOWN_ABOVE, 8, .rw, true, none⟩]⟩,
  ⟨"GL_VLIMITS", 0x84, [], 7, 1,
    [⟨F.GL_VLIMITS_VMAX, 16, .rw, true, none⟩, ⟨F.GL_VLIMITS_VMIN, 0, .rw, true, none⟩]⟩,
  ⟨"GL_PMBUS", 0x88, [], 7, 1,
    [⟨F.GL_PMBUS_ADDR_C, 16, .rw, true, none⟩, ⟨F.GL_PMBUS_ADDR_B, 8, .rw, true, none⟩, ⟨F.GL_PMBUS_ADDR_A, 0, .rw, true, none⟩]⟩,
  ⟨"GL_VCORE", 0x90, [(3, 0x4)], 7, 1,
    [⟨F.GL_VCORE_FAIL, 31, .w1c, false, none⟩, ⟨F.GL_VCORE_HELD, 30, .ro, false, none⟩, ⟨F.GL_VCORE_CMD, 16, .ro, false, none⟩, ⟨F.GL_VCORE_UPS, 8, .rc, false, none⟩, ⟨F.GL_VCORE_DOWNS, 0, .rc, false, none⟩]⟩]

/-- Registers of spec/04_twelve_modes.md. -/
def regs04_0 : List RegDesc := [
  ⟨"GP_MODE", 0xA0000, [(4, 0x100)], 7, 7,
    [⟨F.GP_MODE_MODE, 28, .ro, true, none⟩, ⟨F.GP_MODE_RETURN, 24, .ro, false, none⟩, ⟨F.GP_MODE_PREV, 20, .ro, false, none⟩, ⟨F.GP_MODE_DEBLOCKED, 19, .ro, false, none⟩, ⟨F.GP_MODE_FADING, 18, .ro, false, none⟩, ⟨F.GP_MODE_DEGRADED, 17, .ro, false, none⟩, ⟨F.GP_MODE_SWITCHING, 16, .ro, false, none⟩, ⟨F.GP_MODE_CAUSE, 8, .ro, false, none⟩]⟩,
  ⟨"GP_MODE_CMD", 0xA0004, [(4, 0x100)], 3, 3,
    [⟨F.GP_MODE_CMD_TARGET, 28, .wo, false, none⟩, ⟨F.GP_MODE_CMD_TAG, 0, .wo, false, none⟩]⟩,
  ⟨"GP_MODE_STATUS", 0xA0008, [(4, 0x100)], 7, 7,
    [⟨F.GP_MODE_STATUS_TAG, 16, .ro, false, none⟩, ⟨F.GP_MODE_STATUS_PENDING, 15, .ro, false, none⟩, ⟨F.GP_MODE_STATUS_SP_VALID, 14, .ro, false, none⟩, ⟨F.GP_MODE_STATUS_RESULT, 0, .ro, false, none⟩]⟩,
  ⟨"GP_MODE_SINCE", 0xA000C, [(4, 0x100)], 7, 7,
    [⟨F.GP_MODE_SINCE_CYCLE, 0, .ro, false, none⟩]⟩,
  ⟨"GP_PRECOND", 0xA0010, [(4, 0x100)], 7, 7,
    [⟨F.GP_PRECOND_INTERLOCK_OK, 16, .ro, false, none⟩, ⟨F.GP_PRECOND_LINE_RESIDUAL_OK, 12, .ro, false, none⟩, ⟨F.GP_PRECOND_PV_WINDOW_OK, 11, .ro, false, none⟩, ⟨F.GP_PRECOND_DC_BAND_OK, 10, .ro, false, none⟩, ⟨F.GP_PRECOND_SPREAD_OK, 9, .ro, false, none⟩, ⟨F.GP_PRECOND_ENERGY_OK, 8, .ro, false, none⟩, ⟨F.GP_PRECOND_DEAD_BUS, 7, .ro, false, none⟩, ⟨F.GP_PRECOND_SYNC_LOCKED, 6, .ro, false, none⟩, ⟨F.GP_PRECOND_SP_VALID, 5, .ro, false, none⟩, ⟨F.GP_PRECOND_BRICKS_OK, 4, .ro, false, none⟩, ⟨F.GP_PRECOND_LEAD_OK, 3, .ro, false, none⟩, ⟨F.GP_PRECOND_TRIPLEX_OK, 2, .ro, false, none⟩, ⟨F.GP_PRECOND_SAFETY_OK, 1, .ro, false, none⟩, ⟨F.GP_PRECOND_FAULT_CLEAR, 0, .ro, false, none⟩]⟩,
  ⟨"GP_HANDOVER", 0xA0014, [(4, 0x100)], 7, 7,
    [⟨F.GP_HANDOVER_FADE_LEN, 24, .ro, true, none⟩, ⟨F.GP_HANDOVER_FADE_LEFT, 16, .ro, false, none⟩, ⟨F.GP_HANDOVER_DIFF, 0, .ro, false, none⟩]⟩,
  ⟨"GP_REFUSALS", 0xA0018, [(4, 0x100)], 7, 7,
    [⟨F.GP_REFUSALS_COUNT, 0, .rc, false, none⟩]⟩,
  ⟨"GP_LINETEST", 0xA001C, [(4, 0x100)], 7, 7,
    [⟨F.GP_LINETEST_OUTCOME, 30, .ro, false, none⟩, ⟨F.GP_LINETEST_PEAK, 0, .ro, false, none⟩]⟩,
  ⟨"GP_TRANS_EN", 0xA0040, [(4, 0x100), (12, 0x4)], 7, 7,
    [⟨F.GP_TRANS_EN_TO, 0, .ro, true, none⟩]⟩,
  ⟨"GP_TRANS_AUTO", 0xA0080, [(4, 0x100), (12, 0x4)], 7, 7,
    [⟨F.GP_TRANS_AUTO_TO, 0, .ro, true, none⟩]⟩]

/-- Registers of spec/05_grid_sync_and_current.md. -/
def regs05_0 : List RegDesc := [
  ⟨"GP_SYNC", 0xA4000, [(4, 0x100)], 7, 7,
    [⟨F.GP_SYNC_LOCKED, 31, .ro, false, none⟩, ⟨F.GP_SYNC_FLYWHEEL, 30, .ro, false, none⟩, ⟨F.GP_SYNC_FORMING, 29, .ro, false, none⟩, ⟨F.GP_SYNC_FREQ, 0, .ro, false, none⟩]⟩,
  ⟨"GP_ANGLE", 0xA4004, [(4, 0x100)], 7, 7,
    [⟨F.GP_ANGLE_ANGLE, 0, .ro, false, none⟩]⟩,
  ⟨"GP_VSEQ", 0xA4008, [(4, 0x100)], 7, 7,
    [⟨F.GP_VSEQ_VPOS, 16, .ro, false, none⟩, ⟨F.GP_VSEQ_VNEG, 0, .ro, false, none⟩]⟩,
  ⟨"GP_PQ", 0xA400C, [(4, 0x100)], 7, 7,
    [⟨F.GP_PQ_P, 16, .ro, false, none⟩, ⟨F.GP_PQ_Q, 0, .ro, false, none⟩]⟩,
  ⟨"GP_DCMEAS", 0xA4010, [(4, 0x100)], 7, 7,
    [⟨F.GP_DCMEAS_VDC, 16, .ro, false, none⟩, ⟨F.GP_DCMEAS_IDC, 0, .ro, false, none⟩]⟩,
  ⟨"GP_CURLIM", 0xA4014, [(4, 0x100)], 7, 7,
    [⟨F.GP_CURLIM_IMAX_ACTIVE, 31, .ro, false, none⟩, ⟨F.GP_CURLIM_VOUT_SAT, 30, .ro, false, none⟩, ⟨F.GP_CURLIM_FORM_VIRT, 29, .ro, false, none⟩, ⟨F.GP_CURLIM_LIMITED, 0, .rc, false, none⟩]⟩,
  ⟨"GP_FEEDBACK", 0xA4018, [(4, 0x100)], 7, 7,
    [⟨F.GP_FEEDBACK_VALID, 7, .ro, false, some 0⟩, ⟨F.GP_FEEDBACK_ALT, 6, .ro, false, some 0⟩, ⟨F.GP_FEEDBACK_HOLD, 5, .ro, false, some 0⟩, ⟨F.GP_FEEDBACK_LOST_RAISED, 4, .w1c, false, some 0⟩, ⟨F.GP_FEEDBACK_DISAGREE, 3, .w1c, false, some 0⟩, ⟨F.GP_FEEDBACK_VALID, 15, .ro, false, some 1⟩, ⟨F.GP_FEEDBACK_ALT, 14, .ro, false, some 1⟩, ⟨F.GP_FEEDBACK_HOLD, 13, .ro, false, some 1⟩, ⟨F.GP_FEEDBACK_LOST_RAISED, 12, .w1c, false, some 1⟩, ⟨F.GP_FEEDBACK_DISAGREE, 11, .w1c, false, some 1⟩, ⟨F.GP_FEEDBACK_VALID, 23, .ro, false, some 2⟩, ⟨F.GP_FEEDBACK_ALT, 22, .ro, false, some 2⟩, ⟨F.GP_FEEDBACK_HOLD, 21, .ro, false, some 2⟩, ⟨F.GP_FEEDBACK_LOST_RAISED, 20, .w1c, false, some 2⟩, ⟨F.GP_FEEDBACK_DISAGREE, 19, .w1c, false, some 2⟩, ⟨F.GP_FEEDBACK_VALID, 31, .ro, false, some 3⟩, ⟨F.GP_FEEDBACK_ALT, 30, .ro, false, some 3⟩, ⟨F.GP_FEEDBACK_HOLD, 29, .ro, false, some 3⟩, ⟨F.GP_FEEDBACK_LOST_RAISED, 28, .w1c, false, some 3⟩, ⟨F.GP_FEEDBACK_DISAGREE, 27, .w1c, false, some 3⟩]⟩,
  ⟨"GP_SPSRC", 0xA4020, [(4, 0x100), (4, 0x4)], 7, 7,
    [⟨F.GP_SPSRC_USED, 31, .ro, true, none⟩, ⟨F.GP_SPSRC_LOST, 30, .ro, false, none⟩, ⟨F.GP_SPSRC_FALLBACK, 29, .ro, false, none⟩, ⟨F.GP_SPSRC_RAISED, 28, .w1c, false, none⟩, ⟨F.GP_SPSRC_WORD, 24, .ro, true, none⟩, ⟨F.GP_SPSRC_VALUE, 0, .ro, false, none⟩]⟩,
  ⟨"GP_COMP", 0xA4030, [(4, 0x100)], 7, 7,
    [⟨F.GP_COMP_SAT, 8, .w1c, false, none⟩, ⟨F.GP_COMP_ACTING, 0, .ro, false, none⟩]⟩]

/-- Registers of spec/06_ride_through_islanding_harvest.md. -/
def regs06_0 : List RegDesc := [
  ⟨"GP_RIDE", 0xA4040, [(4, 0x100)], 7, 7,
    [⟨F.GP_RIDE_ENTRY_AC, 31, .ro, false, none⟩, ⟨F.GP_RIDE_ENTRY_DC, 30, .ro, false, none⟩, ⟨F.GP_RIDE_EXITING, 29, .ro, false, none⟩, ⟨F.GP_RIDE_REPEAT_BLOCK, 28, .w1c, false, none⟩, ⟨F.GP_RIDE_TRIP_CURVE, 24, .ro, false, none⟩, ⟨F.GP_RIDE_COUNT, 16, .ro, false, none⟩, ⟨F.GP_RIDE_VPRE, 0, .ro, false, none⟩]⟩,
  ⟨"GP_RIDE_TIME", 0xA4044, [(4, 0x100)], 7, 7,
    [⟨F.GP_RIDE_TIME_ELAPSED, 0, .ro, false, none⟩]⟩,
  ⟨"GP_JUMP", 0xA4048, [(4, 0x100)], 7, 7,
    [⟨F.GP_JUMP_SEAT, 0, .ro, false, none⟩]⟩,
  ⟨"GP_ISLAND", 0xA404C, [(4, 0x100)], 7, 7,
    [⟨F.GP_ISLAND_DETECTED, 31, .w1c, false, none⟩, ⟨F.GP_ISLAND_BLANKED, 30, .ro, false, none⟩, ⟨F.GP_ISLAND_ACTION, 28, .ro, false, none⟩, ⟨F.GP_ISLAND_CRITERIA, 24, .ro, false, none⟩, ⟨F.GP_ISLAND_Z, 0, .ro, false, none⟩]⟩,
  ⟨"GP_HARVEST", 0xA4050, [(4, 0x100)], 7, 7,
    [⟨F.GP_HARVEST_STATE, 30, .ro, false, none⟩, ⟨F.GP_HARVEST_DIR, 29, .ro, false, none⟩, ⟨F.GP_HARVEST_FROZEN, 28, .ro, false, none⟩, ⟨F.GP_HARVEST_PB_FAIL, 16, .rc, false, none⟩, ⟨F.GP_HARVEST_VTGT, 0, .ro, false, none⟩]⟩,
  ⟨"GP_HARVEST_CMD", 0xA4054, [(4, 0x100)], 7, 3,
    [⟨F.GP_HARVEST_CMD_RESULT, 24, .ro, false, none⟩, ⟨F.GP_HARVEST_CMD_SCAN, 0, .wo, false, none⟩]⟩,
  ⟨"GP_HARVEST_BEST", 0xA4058, [(4, 0x100)], 7, 7,
    [⟨F.GP_HARVEST_BEST_VBEST, 16, .ro, false, none⟩, ⟨F.GP_HARVEST_BEST_PBEST, 0, .ro, false, none⟩]⟩]

/-- Registers of spec/07_arm_energy_and_insertion.md. -/
def regs07_0 : List RegDesc := [
  ⟨"PL_ARM_CFG", 0x100100, [(12, 0x10000)], 7, 7,
    [⟨F.PL_ARM_CFG_PHASE, 30, .ro, true, none⟩, ⟨F.PL_ARM_CFG_POSITION, 29, .ro, true, none⟩]⟩,
  ⟨"PL_ARM_COUNT", 0x100104, [(12, 0x10000)], 7, 7,
    [⟨F.PL_ARM_COUNT_COUNT, 16, .ro, false, none⟩, ⟨F.PL_ARM_COUNT_FRAC, 0, .ro, false, none⟩]⟩,
  ⟨"PL_ARM_ENERGY", 0x100108, [(12, 0x10000)], 7, 7,
    [⟨F.PL_ARM_ENERGY_EARM, 16, .ro, false, none⟩, ⟨F.PL_ARM_ENERGY_VBAR, 0, .ro, false, none⟩]⟩,
  ⟨"PL_ARM_STATUS", 0x10010C, [(12, 0x10000)], 7, 7,
    [⟨F.PL_ARM_STATUS_SIGN, 31, .ro, false, none⟩, ⟨F.PL_ARM_STATUS_OVER, 30, .ro, false, none⟩, ⟨F.PL_ARM_STATUS_UNDER, 29, .ro, false, none⟩, ⟨F.PL_ARM_STATUS_ZREF_SAT, 28, .ro, false, none⟩, ⟨F.PL_ARM_STATUS_ILIM, 27, .ro, false, none⟩, ⟨F.PL_ARM_STATUS_ZHOLD, 26, .ro, false, none⟩, ⟨F.PL_ARM_STATUS_OVM_RAISED, 25, .w1c, false, none⟩, ⟨F.PL_ARM_STATUS_TRIP_RAISED, 24, .w1c, false, none⟩, ⟨F.PL_ARM_STATUS_ENERGY_RAISED, 23, .w1c, false, none⟩, ⟨F.PL_ARM_STATUS_PRESENT, 0, .ro, false, none⟩]⟩,
  ⟨"PL_ARM_CURRENT", 0x100110, [(12, 0x10000)], 7, 7,
    [⟨F.PL_ARM_CURRENT_IARM, 16, .ro, false, none⟩, ⟨F.PL_ARM_CURRENT_UREF, 0, .ro, false, none⟩]⟩,
  ⟨"PL_CHOP", 0x100120, [(12, 0x10000)], 7, 7,
    [⟨F.PL_CHOP_STATE, 30, .ro, false, none⟩, ⟨F.PL_CHOP_PDIS, 0, .ro, false, none⟩]⟩,
  ⟨"GP_ENERGY", 0xA6000, [(4, 0x100)], 7, 7,
    [⟨F.GP_ENERGY_ETOT, 16, .ro, false, none⟩, ⟨F.GP_ENERGY_PDEM, 0, .ro, false, none⟩]⟩,
  ⟨"GP_LEG", 0xA6004, [(4, 0x100), (3, 0x4)], 7, 7,
    [⟨F.GP_LEG_ELEG, 16, .ro, false, none⟩, ⟨F.GP_LEG_DIFF, 0, .ro, false, none⟩]⟩,
  ⟨"GP_CIRC", 0xA6010, [(4, 0x100), (3, 0x4)], 7, 7,
    [⟨F.GP_CIRC_IZREF, 16, .ro, false, none⟩, ⟨F.GP_CIRC_IZ, 0, .ro, false, none⟩]⟩]

/-- Registers of spec/08_rank_engine_and_dwell.md. -/
def regs08_0 : List RegDesc := [
  ⟨"PL_RANK_CFG", 0x100200, [(12, 0x10000)], 7, 7,
    [⟨F.PL_RANK_CFG_REPORT_HOLD, 28, .ro, true, none⟩, ⟨F.PL_RANK_CFG_BAND, 16, .ro, true, none⟩, ⟨F.PL_RANK_CFG_ECHO_N, 12, .ro, true, none⟩, ⟨F.PL_RANK_CFG_SWAP_MAX, 0, .ro, true, none⟩]⟩,
  ⟨"PL_DWELL_CFG", 0x100204, [(12, 0x10000)], 7, 7,
    [⟨F.PL_DWELL_CFG_PULSE_MODE, 30, .ro, true, none⟩, ⟨F.PL_DWELL_CFG_DT_COMP, 29, .ro, true, none⟩, ⟨F.PL_DWELL_CFG_T_DEAD, 20, .ro, true, none⟩, ⟨F.PL_DWELL_CFG_T_MINP, 10, .ro, true, none⟩, ⟨F.PL_DWELL_CFG_T_DWELL, 0, .ro, true, none⟩]⟩,
  ⟨"PL_RANK_STATUS", 0x100208, [(12, 0x10000)], 7, 7,
    [⟨F.PL_RANK_STATUS_NRANK, 20, .ro, false, none⟩, ⟨F.PL_RANK_STATUS_PARKED, 8, .ro, false, none⟩, ⟨F.PL_RANK_STATUS_ECHO_RAISED, 7, .w1c, false, none⟩, ⟨F.PL_RANK_STATUS_DISPUTE_RAISED, 6, .w1c, false, none⟩, ⟨F.PL_RANK_STATUS_DROPPED, 5, .ro, false, none⟩, ⟨F.PL_RANK_STATUS_STRETCHED, 4, .ro, false, none⟩, ⟨F.PL_RANK_STATUS_HOLES, 3, .ro, false, none⟩, ⟨F.PL_RANK_STATUS_SORTED, 2, .ro, false, none⟩]⟩,
  ⟨"PL_RANK_BOUND", 0x10020C, [(12, 0x10000)], 7, 7,
    [⟨F.PL_RANK_BOUND_BOUND, 20, .ro, false, none⟩, ⟨F.PL_RANK_BOUND_ON_LEN, 0, .ro, false, none⟩]⟩,
  ⟨"PL_RANK_SWAPS", 0x100210, [(12, 0x10000)], 7, 7,
    [⟨F.PL_RANK_SWAPS_DEFERRED, 16, .rc, false, none⟩, ⟨F.PL_RANK_SWAPS_APPLIED, 0, .rc, false, none⟩]⟩,
  ⟨"PL_RANK_FAULTS", 0x100214, [(12, 0x10000)], 7, 7,
    [⟨F.PL_RANK_FAULTS_DISPUTED, 24, .rc, false, none⟩, ⟨F.PL_RANK_FAULTS_HELD, 16, .rc, false, none⟩, ⟨F.PL_RANK_FAULTS_ECHO_BAD, 8, .rc, false, none⟩, ⟨F.PL_RANK_FAULTS_DUPLICATE, 4, .rc, false, none⟩, ⟨F.PL_RANK_FAULTS_PARKS, 0, .rc, false, none⟩]⟩,
  ⟨"PL_BRICK_LO", 0x108000, [(12, 0x10000), (2048, 0x8)], 7, 7,
    [⟨F.PL_BRICK_LO_OUTCOME, 28, .ro, false, none⟩, ⟨F.PL_BRICK_LO_KIND, 26, .ro, false, none⟩, ⟨F.PL_BRICK_LO_MISSES, 20, .ro, false, none⟩, ⟨F.PL_BRICK_LO_ECHO_MISS, 16, .ro, false, none⟩, ⟨F.PL_BRICK_LO_SLOT, 0, .ro, false, none⟩]⟩,
  ⟨"PL_BRICK_HI", 0x108004, [(12, 0x10000), (2048, 0x8)], 7, 7,
    [⟨F.PL_BRICK_HI_VOLT, 16, .ro, false, none⟩, ⟨F.PL_BRICK_HI_TARGET, 0, .ro, false, none⟩]⟩]

/-- Registers of spec/09_decte_lanes.md. -/
def regs09_0 : List RegDesc := [
  ⟨"CM_LANE_CTL", 0x200800, [(64, 0x1000), (2, 0x40)], 7, 1,
    [⟨F.CM_LANE_CTL_RESULT, 24, .ro, false, none⟩, ⟨F.CM_LANE_CTL_BUSY, 23, .ro, false, none⟩, ⟨F.CM_LANE_CTL_HOPS, 8, .wo, false, none⟩, ⟨F.CM_LANE_CTL_CMD, 0, .wo, false, none⟩]⟩,
  ⟨"CM_LANE_STAT", 0x200804, [(64, 0x1000), (2, 0x40)], 7, 7,
    [⟨F.CM_LANE_STAT_STATE, 28, .ro, false, none⟩, ⟨F.CM_LANE_STAT_LOOP, 25, .ro, false, none⟩, ⟨F.CM_LANE_STAT_RX_SIGNAL, 24, .ro, false, none⟩, ⟨F.CM_LANE_STAT_CDR_LOCK, 23, .ro, false, none⟩, ⟨F.CM_LANE_STAT_TX_IDLE, 22, .ro, false, none⟩, ⟨F.CM_LANE_STAT_EIDLE_SEEN, 21, .ro, false, none⟩, ⟨F.CM_LANE_STAT_LOOP_HOPS, 8, .ro, false, none⟩]⟩,
  ⟨"CM_LANE_ERR", 0x200808, [(64, 0x1000), (2, 0x40)], 7, 7,
    [⟨F.CM_LANE_ERR_RUN, 24, .rc, false, none⟩, ⟨F.CM_LANE_ERR_COMMA, 16, .rc, false, none⟩, ⟨F.CM_LANE_ERR_SPACING, 8, .rc, false, none⟩, ⟨F.CM_LANE_ERR_ALIGN_LOSS, 0, .rc, false, none⟩]⟩,
  ⟨"CM_LANE_LOOP", 0x20080C, [(64, 0x1000), (2, 0x40)], 7, 7,
    [⟨F.CM_LANE_LOOP_RT, 16, .ro, false, none⟩, ⟨F.CM_LANE_LOOP_BITERR, 0, .rc, false, none⟩]⟩,
  ⟨"CM_LANE_CFG", 0x200880, [(64, 0x1000)], 7, 7,
    [⟨F.CM_LANE_CFG_RATE, 30, .ro, true, none⟩, ⟨F.CM_LANE_CFG_LPLL, 27, .ro, false, none⟩, ⟨F.CM_LANE_CFG_SPREAD, 26, .ro, true, none⟩]⟩,
  ⟨"TB_LPLL_CFG", 0x30800, [(8, 0x8)], 7, 7,
    [⟨F.TB_LPLL_CFG_MODE, 30, .ro, true, none⟩, ⟨F.TB_LPLL_CFG_DEPTH, 20, .ro, true, none⟩]⟩,
  ⟨"TB_LPLL_STAT", 0x30804, [(8, 0x8)], 7, 3,
    [⟨F.TB_LPLL_STAT_LOCKED, 31, .ro, false, none⟩, ⟨F.TB_LPLL_STAT_LOST, 30, .w1c, false, none⟩, ⟨F.TB_LPLL_STAT_LOSSES, 0, .rc, false, none⟩]⟩]

/-- Registers of spec/10_decte_frames_and_brick_contract.md. -/
def regs10_0 : List RegDesc := [
  ⟨"CM_FRM_ERR", 0x200900, [(64, 0x1000), (2, 0x40)], 7, 7,
    [⟨F.CM_FRM_ERR_CRC, 24, .rc, false, none⟩, ⟨F.CM_FRM_ERR_CUT, 16, .rc, false, none⟩, ⟨F.CM_FRM_ERR_TYPE, 8, .rc, false, none⟩, ⟨F.CM_FRM_ERR_OWN_BAD, 0, .rc, false, none⟩]⟩,
  ⟨"CM_FRM_RING", 0x200904, [(64, 0x1000), (2, 0x40)], 7, 7,
    [⟨F.CM_FRM_RING_TRANSIT, 0, .ro, false, none⟩]⟩,
  ⟨"CM_FRM_REP", 0x200908, [(64, 0x1000), (2, 0x40)], 7, 7,
    [⟨F.CM_FRM_REP_LAST, 16, .ro, false, none⟩, ⟨F.CM_FRM_REP_AFTER_DR, 0, .rc, false, none⟩]⟩]

/-- Registers of spec/11_courses_and_points.md. -/
def regs11_0 : List RegDesc := [
  ⟨"CM_DIR_W0", 0x200000, [(64, 0x1000), (128, 0x10)], 7, 7,
    [⟨F.CM_DIR_W0_STATE, 28, .ro, false, none⟩, ⟨F.CM_DIR_W0_REASON, 24, .ro, false, none⟩, ⟨F.CM_DIR_W0_KIND, 16, .ro, false, none⟩, ⟨F.CM_DIR_W0_FROM_H, 15, .ro, false, none⟩, ⟨F.CM_DIR_W0_FROM_F, 14, .ro, false, none⟩, ⟨F.CM_DIR_W0_EVQ, 13, .ro, false, none⟩, ⟨F.CM_DIR_W0_EVENTS, 0, .w1c, false, none⟩]⟩,
  ⟨"CM_DIR_W1", 0x200004, [(64, 0x1000), (128, 0x10)], 7, 7,
    [⟨F.CM_DIR_W1_UID_LO, 0, .ro, false, none⟩]⟩,
  ⟨"CM_DIR_W2", 0x200008, [(64, 0x1000), (128, 0x10)], 7, 7,
    [⟨F.CM_DIR_W2_UID_HI, 0, .ro, false, none⟩]⟩,
  ⟨"CM_DIR_W3", 0x20000C, [(64, 0x1000), (128, 0x10)], 7, 7,
    [⟨F.CM_DIR_W3_LAT_H, 16, .ro, false, none⟩, ⟨F.CM_DIR_W3_LAT_F, 0, .ro, false, none⟩]⟩,
  ⟨"CM_CRS_STAT", 0x200A00, [(64, 0x1000)], 7, 7,
    [⟨F.CM_CRS_STAT_STATE, 28, .ro, false, none⟩, ⟨F.CM_CRS_STAT_H_WORKING, 27, .ro, false, none⟩, ⟨F.CM_CRS_STAT_F_WORKING, 26, .ro, false, none⟩, ⟨F.CM_CRS_STAT_FOUND, 8, .ro, false, none⟩, ⟨F.CM_CRS_STAT_IN_SERVICE, 0, .ro, false, none⟩]⟩,
  ⟨"CM_CRS_CTL", 0x200A04, [(64, 0x1000)], 7, 1,
    [⟨F.CM_CRS_CTL_AUTO, 31, .rw, true, none⟩, ⟨F.CM_CRS_CTL_NC, 24, .ro, true, none⟩, ⟨F.CM_CRS_CTL_SPARE_UNKNOWN, 23, .ro, true, none⟩]⟩,
  ⟨"CM_CRS_CMD", 0x200A08, [(64, 0x1000)], 3, 3,
    [⟨F.CM_CRS_CMD_RESULT, 24, .ro, false, none⟩, ⟨F.CM_CRS_CMD_BUSY, 23, .ro, false, none⟩, ⟨F.CM_CRS_CMD_POS, 8, .wo, false, none⟩, ⟨F.CM_CRS_CMD_OP, 0, .wo, false, none⟩]⟩,
  ⟨"CM_CRS_DELIV", 0x200A0C, [(64, 0x1000)], 7, 7,
    [⟨F.CM_CRS_DELIV_DELIV, 16, .ro, false, none⟩, ⟨F.CM_CRS_DELIV_WORST, 0, .ro, false, none⟩]⟩,
  ⟨"CM_CRS_MEAS", 0x200A10, [(64, 0x1000)], 7, 1,
    [⟨F.CM_CRS_MEAS_PERIOD, 20, .rw, true, none⟩, ⟨F.CM_CRS_MEAS_ROUNDS, 0, .rc, false, none⟩]⟩,
  ⟨"CM_CRS_PT", 0x200A14, [(64, 0x1000)], 7, 7,
    [⟨F.CM_CRS_PT_DONE, 16, .rc, false, none⟩, ⟨F.CM_CRS_PT_FAILED, 8, .rc, false, none⟩, ⟨F.CM_CRS_PT_MIRROR_LATE, 0, .rc, false, none⟩]⟩,
  ⟨"GL_PT_CFG", 0x100, [], 7, 1,
    [⟨F.GL_PT_CFG_LIMIT, 16, .rw, true, none⟩, ⟨F.GL_PT_CFG_RETRY_N, 4, .rw, true, none⟩]⟩,
  ⟨"GL_PT_ERR_W0", 0x110, [(8, 0x8)], 7, 7,
    [⟨F.GL_PT_ERR_W0_STATUS, 24, .ro, false, none⟩, ⟨F.GL_PT_ERR_W0_COUNT, 0, .rc, false, none⟩]⟩]

/-- Registers of spec/11_courses_and_points.md. -/
def regs11_1 : List RegDesc := [
  ⟨"GL_PT_ERR_W1", 0x114, [(8, 0x8)], 7, 7,
    [⟨F.GL_PT_ERR_W1_ADDRESS, 0, .ro, false, none⟩]⟩]

/-- Registers of spec/12_measurement_intake.md. -/
def regs12_0 : List RegDesc := [
  ⟨"SI_PORT", 0x80000, [(4, 0x4)], 7, 7,
    [⟨F.SI_PORT_LINK, 31, .ro, false, none⟩, ⟨F.SI_PORT_MODE, 30, .ro, true, none⟩, ⟨F.SI_PORT_SEC_REJ, 8, .rc, false, none⟩, ⟨F.SI_PORT_FCS_ERR, 0, .rc, false, none⟩]⟩,
  ⟨"SI_SV_STAT_W0", 0x80100, [(32, 0x8)], 7, 7,
    [⟨F.SI_SV_STAT_W0_STATE, 28, .ro, false, none⟩, ⟨F.SI_SV_STAT_W0_LOST_RAISED, 27, .w1c, false, none⟩, ⟨F.SI_SV_STAT_W0_CONFREV_BAD, 26, .w1c, false, none⟩, ⟨F.SI_SV_STAT_W0_PORT, 24, .ro, false, none⟩, ⟨F.SI_SV_STAT_W0_AGE, 0, .ro, false, none⟩]⟩,
  ⟨"SI_SV_STAT_W1", 0x80104, [(32, 0x8)], 7, 7,
    [⟨F.SI_SV_STAT_W1_GAPS, 24, .rc, false, none⟩, ⟨F.SI_SV_STAT_W1_REJECTED, 16, .rc, false, none⟩, ⟨F.SI_SV_STAT_W1_DUPLICATE, 8, .rc, false, none⟩, ⟨F.SI_SV_STAT_W1_DISAGREE, 0, .rc, false, none⟩]⟩,
  ⟨"SI_SV_VAL_W0", 0x81000, [(32, 0x80), (16, 0x8)], 7, 7,
    [⟨F.SI_SV_VAL_W0_VALUE, 0, .ro, false, none⟩]⟩,
  ⟨"SI_SV_VAL_W1", 0x81004, [(32, 0x80), (16, 0x8)], 7, 7,
    [⟨F.SI_SV_VAL_W1_ALIGN, 30, .ro, false, none⟩, ⟨F.SI_SV_VAL_W1_VALID, 29, .ro, false, none⟩, ⟨F.SI_SV_VAL_W1_FROZEN, 28, .ro, false, none⟩, ⟨F.SI_SV_VAL_W1_QUAL_BAD, 27, .ro, false, none⟩]⟩,
  ⟨"SI_GO_SUB", 0x82000, [(64, 0x4)], 7, 7,
    [⟨F.SI_GO_SUB_USED, 31, .ro, true, none⟩, ⟨F.SI_GO_SUB_LOST, 30, .ro, false, none⟩, ⟨F.SI_GO_SUB_LOST_RAISED, 29, .w1c, false, none⟩, ⟨F.SI_GO_SUB_CONFREV_BAD, 28, .w1c, false, none⟩, ⟨F.SI_GO_SUB_STNUM, 0, .ro, false, none⟩]⟩,
  ⟨"SI_GO_IN_W0", 0x82100, [], 7, 7,
    [⟨F.SI_GO_IN_W0_VALUE_LO, 0, .ro, false, none⟩]⟩,
  ⟨"SI_GO_IN_W1", 0x82104, [], 7, 7,
    [⟨F.SI_GO_IN_W1_VALUE_HI, 0, .ro, false, none⟩]⟩,
  ⟨"SI_GO_IN_W2", 0x82108, [], 7, 7,
    [⟨F.SI_GO_IN_W2_VALID_LO, 0, .ro, false, none⟩]⟩,
  ⟨"SI_GO_IN_W3", 0x8210C, [], 7, 7,
    [⟨F.SI_GO_IN_W3_VALID_HI, 0, .ro, false, none⟩]⟩,
  ⟨"SI_GO_PUB", 0x82200, [(8, 0x4)], 7, 7,
    [⟨F.SI_GO_PUB_USED, 31, .ro, true, none⟩, ⟨F.SI_GO_PUB_STNUM, 0, .ro, false, none⟩]⟩,
  ⟨"SI_GO_PUB_CTL", 0x82240, [], 7, 1,
    [⟨F.SI_GO_PUB_CTL_TEST, 31, .rw, false, none⟩]⟩]

/-- Registers of spec/12_measurement_intake.md. -/
def regs12_1 : List RegDesc := [
  ⟨"LM_CFG", 0x70000, [(4, 0x100)], 7, 7,
    [⟨F.LM_CFG_TRIG, 30, .ro, true, none⟩, ⟨F.LM_CFG_GROUP, 28, .ro, true, none⟩, ⟨F.LM_CFG_EVT, 24, .ro, true, none⟩, ⟨F.LM_CFG_NENTRIES, 20, .ro, true, none⟩, ⟨F.LM_CFG_DELAY, 0, .ro, true, none⟩]⟩,
  ⟨"LM_STAT", 0x70004, [(4, 0x100)], 7, 7,
    [⟨F.LM_STAT_STATE, 30, .ro, false, none⟩, ⟨F.LM_STAT_OVERRUN, 8, .rc, false, none⟩, ⟨F.LM_STAT_RUNS, 0, .rc, false, none⟩]⟩,
  ⟨"LM_CMD", 0x70008, [(4, 0x100)], 3, 3,
    [⟨F.LM_CMD_RUN, 0, .wo, false, none⟩]⟩,
  ⟨"LM_CONT", 0x7000C, [(4, 0x100)], 7, 1,
    [⟨F.LM_CONT_EN, 31, .rw, true, none⟩, ⟨F.LM_CONT_DECIM, 8, .rw, true, none⟩, ⟨F.LM_CONT_GAIN, 6, .rw, true, none⟩, ⟨F.LM_CONT_INPUT, 0, .rw, true, none⟩]⟩,
  ⟨"LM_CONT_T0", 0x70010, [(4, 0x100)], 7, 7,
    [⟨F.LM_CONT_T0_T0, 0, .ro, false, none⟩]⟩,
  ⟨"LM_CONT_N", 0x70014, [(4, 0x100)], 7, 7,
    [⟨F.LM_CONT_N_N, 0, .ro, false, none⟩]⟩,
  ⟨"LM_RESULT", 0x70040, [(4, 0x100), (16, 0x4)], 7, 7,
    [⟨F.LM_RESULT_WORD, 0, .ro, false, none⟩]⟩,
  ⟨"LM_CAL_CMD", 0x70800, [], 1, 1,
    [⟨F.LM_CAL_CMD_RESULT, 24, .ro, false, none⟩, ⟨F.LM_CAL_CMD_BUSY, 23, .ro, false, none⟩, ⟨F.LM_CAL_CMD_STEP, 20, .wo, false, none⟩, ⟨F.LM_CAL_CMD_LM, 18, .wo, false, none⟩, ⟨F.LM_CAL_CMD_GAIN, 16, .wo, false, none⟩, ⟨F.LM_CAL_CMD_EXPECT, 0, .wo, false, none⟩]⟩,
  ⟨"LM_CAL_MEAS", 0x70804, [], 7, 7,
    [⟨F.LM_CAL_MEAS_MEAN, 0, .ro, false, none⟩]⟩,
  ⟨"LM_CAL", 0x70840, [(4, 0x10), (4, 0x4)], 7, 7,
    [⟨F.LM_CAL_OFS, 16, .ro, true, none⟩, ⟨F.LM_CAL_GCORR, 0, .ro, true, none⟩]⟩]

/-- Registers of spec/13_time_base.md. -/
def regs13_0 : List RegDesc := [
  ⟨"TB_STATUS", 0x30000, [], 7, 7,
    [⟨F.TB_STATUS_PLL_LOCKED, 31, .ro, false, none⟩, ⟨F.TB_STATUS_PLL_LOST, 30, .w1c, false, none⟩, ⟨F.TB_STATUS_TIME_SUSPECT, 29, .ro, false, none⟩, ⟨F.TB_STATUS_SV_SUSPECT, 28, .ro, false, none⟩, ⟨F.TB_STATUS_PPS_TRACE, 27, .ro, false, none⟩, ⟨F.TB_STATUS_STEPS, 22, .ro, false, none⟩]⟩,
  ⟨"TB_PLL", 0x30004, [], 7, 7,
    [⟨F.TB_PLL_REFSEL, 31, .ro, false, none⟩, ⟨F.TB_PLL_DEV, 0, .ro, false, none⟩]⟩,
  ⟨"TB_FREQ", 0x30008, [], 7, 7,
    [⟨F.TB_FREQ_FREQ, 0, .ro, false, none⟩]⟩,
  ⟨"TB_NOW_NS", 0x30010, [], 7, 7,
    [⟨F.TB_NOW_NS_NS, 0, .ro, false, none⟩]⟩,
  ⟨"TB_NOW_SEC_LO", 0x30014, [], 7, 7,
    [⟨F.TB_NOW_SEC_LO_SEC_LO, 0, .ro, false, none⟩]⟩,
  ⟨"TB_NOW_SEC_HI", 0x30018, [], 7, 7,
    [⟨F.TB_NOW_SEC_HI_SEC_HI, 0, .ro, false, none⟩]⟩,
  ⟨"TB_CT_LO", 0x30020, [], 7, 7,
    [⟨F.TB_CT_LO_CT_LO, 0, .ro, false, none⟩]⟩,
  ⟨"TB_CT_HI", 0x30024, [], 7, 7,
    [⟨F.TB_CT_HI_CT_HI, 0, .ro, false, none⟩]⟩,
  ⟨"TB_SERVO_CFG", 0x30040, [], 7, 7,
    [⟨F.TB_SERVO_CFG_MODE, 31, .ro, true, none⟩, ⟨F.TB_SERVO_CFG_CLOCK, 30, .ro, true, none⟩, ⟨F.TB_SERVO_CFG_PROFILE, 28, .ro, true, none⟩, ⟨F.TB_SERVO_CFG_SLAVE_ONLY, 27, .ro, true, none⟩, ⟨F.TB_SERVO_CFG_DOMAIN, 16, .ro, true, none⟩, ⟨F.TB_SERVO_CFG_SLEW_MAX, 0, .ro, true, none⟩]⟩,
  ⟨"TB_SERVO", 0x30044, [], 7, 7,
    [⟨F.TB_SERVO_STATE, 28, .ro, false, none⟩, ⟨F.TB_SERVO_SLEWING, 27, .ro, false, none⟩, ⟨F.TB_SERVO_DEFERRED, 26, .ro, false, none⟩, ⟨F.TB_SERVO_FREQ_SAT, 25, .w1c, false, none⟩, ⟨F.TB_SERVO_OFFSET_RAISED, 24, .w1c, false, none⟩, ⟨F.TB_SERVO_HOLD_RAISED, 23, .w1c, false, none⟩, ⟨F.TB_SERVO_SLAVE_PORT, 16, .ro, false, none⟩]⟩,
  ⟨"TB_OFFSET", 0x30048, [], 7, 7,
    [⟨F.TB_OFFSET_OFFSET, 0, .ro, false, none⟩]⟩,
  ⟨"TB_SLEW_LEFT", 0x3004C, [], 7, 7,
    [⟨F.TB_SLEW_LEFT_LEFT, 0, .ro, false, none⟩]⟩]

/-- Registers of spec/13_time_base.md. -/
def regs13_1 : List RegDesc := [
  ⟨"TB_HOLD", 0x30050, [], 7, 7,
    [⟨F.TB_HOLD_SECONDS, 0, .ro, false, none⟩]⟩,
  ⟨"TB_ADJ_CMD", 0x30060, [], 1, 1,
    [⟨F.TB_ADJ_CMD_RESULT, 24, .ro, false, none⟩, ⟨F.TB_ADJ_CMD_BUSY, 23, .ro, false, none⟩, ⟨F.TB_ADJ_CMD_CODE, 0, .wo, false, none⟩]⟩,
  ⟨"TB_ADJ_SEC", 0x30064, [], 1, 1,
    [⟨F.TB_ADJ_SEC_SEC, 0, .rw, false, none⟩]⟩,
  ⟨"TB_ADJ_NS", 0x30068, [], 1, 1,
    [⟨F.TB_ADJ_NS_NS, 0, .rw, false, none⟩]⟩,
  ⟨"TB_PTP_PORT_W0", 0x30100, [(4, 0x10)], 7, 7,
    [⟨F.TB_PTP_PORT_W0_STATE, 28, .ro, false, none⟩, ⟨F.TB_PTP_PORT_W0_PEER_TWO_STEP, 27, .ro, false, none⟩, ⟨F.TB_PTP_PORT_W0_QLOST, 16, .rc, false, none⟩, ⟨F.TB_PTP_PORT_W0_PD_REJECT, 8, .rc, false, none⟩]⟩,
  ⟨"TB_PTP_PORT_W1", 0x30104, [(4, 0x10)], 7, 7,
    [⟨F.TB_PTP_PORT_W1_MPD, 0, .ro, false, none⟩]⟩,
  ⟨"TB_PTP_PORT_W2", 0x30108, [(4, 0x10)], 7, 7,
    [⟨F.TB_PTP_PORT_W2_ASYM, 0, .ro, true, none⟩]⟩,
  ⟨"TB_PTP_PORT_W3", 0x3010C, [(4, 0x10)], 7, 7,
    []⟩,
  ⟨"TB_PTP_TSQ_W0", 0x30200, [(4, 0x10)], 7, 7,
    [⟨F.TB_PTP_TSQ_W0_VALID, 31, .rc, false, none⟩, ⟨F.TB_PTP_TSQ_W0_TX, 30, .rc, false, none⟩, ⟨F.TB_PTP_TSQ_W0_MSGTYPE, 24, .rc, false, none⟩, ⟨F.TB_PTP_TSQ_W0_SEQID, 0, .rc, false, none⟩]⟩,
  ⟨"TB_PTP_TSQ_W1", 0x30204, [(4, 0x10)], 7, 7,
    [⟨F.TB_PTP_TSQ_W1_SEC_LO, 0, .ro, false, none⟩]⟩,
  ⟨"TB_PTP_TSQ_W2", 0x30208, [(4, 0x10)], 7, 7,
    [⟨F.TB_PTP_TSQ_W2_NS, 0, .ro, false, none⟩]⟩,
  ⟨"TB_PTP_TSQ_W3", 0x3020C, [(4, 0x10)], 7, 7,
    [⟨F.TB_PTP_TSQ_W3_SEC_HI, 16, .ro, false, none⟩, ⟨F.TB_PTP_TSQ_W3_FRAC, 0, .ro, false, none⟩]⟩]

/-- Registers of spec/13_time_base.md. -/
def regs13_2 : List RegDesc := [
  ⟨"TB_EVT_CFG", 0x30400, [(16, 0x8)], 7, 7,
    [⟨F.TB_EVT_CFG_EDGE, 30, .ro, true, none⟩, ⟨F.TB_EVT_CFG_FILTER, 0, .ro, true, none⟩]⟩,
  ⟨"TB_EVT_STAT", 0x30404, [(16, 0x8)], 7, 7,
    [⟨F.TB_EVT_STAT_LEVEL, 31, .ro, false, none⟩, ⟨F.TB_EVT_STAT_OVERFLOW, 16, .rc, false, none⟩, ⟨F.TB_EVT_STAT_FILL, 0, .ro, false, none⟩]⟩,
  ⟨"TB_EVT_FIFO_W0", 0x30500, [(16, 0x10)], 7, 7,
    [⟨F.TB_EVT_FIFO_W0_VALID, 31, .rc, false, none⟩, ⟨F.TB_EVT_FIFO_W0_RISING, 30, .rc, false, none⟩, ⟨F.TB_EVT_FIFO_W0_STEPS, 28, .rc, false, none⟩, ⟨F.TB_EVT_FIFO_W0_SEC_HI, 0, .rc, false, none⟩]⟩,
  ⟨"TB_EVT_FIFO_W1", 0x30504, [(16, 0x10)], 7, 7,
    [⟨F.TB_EVT_FIFO_W1_SEC_LO, 0, .ro, false, none⟩]⟩,
  ⟨"TB_EVT_FIFO_W2", 0x30508, [(16, 0x10)], 7, 7,
    [⟨F.TB_EVT_FIFO_W2_NS, 0, .ro, false, none⟩]⟩,
  ⟨"TB_EVT_FIFO_W3", 0x3050C, [(16, 0x10)], 7, 7,
    [⟨F.TB_EVT_FIFO_W3_FRAC, 0, .ro, false, none⟩]⟩,
  ⟨"TB_TIO_W0", 0x30600, [(8, 0x10)], 7, 7,
    [⟨F.TB_TIO_W0_MODE, 30, .ro, true, none⟩, ⟨F.TB_TIO_W0_GROUP, 28, .ro, true, none⟩]⟩,
  ⟨"TB_TIO_W1", 0x30604, [(8, 0x10)], 1, 1,
    [⟨F.TB_TIO_W1_T_LO, 0, .wo, false, none⟩]⟩,
  ⟨"TB_TIO_W2", 0x30608, [(8, 0x10)], 1, 1,
    [⟨F.TB_TIO_W2_LEVEL, 31, .wo, false, none⟩, ⟨F.TB_TIO_W2_SUB, 24, .wo, false, none⟩, ⟨F.TB_TIO_W2_T_HI, 0, .wo, false, none⟩]⟩,
  ⟨"TB_TIO_W3", 0x3060C, [(8, 0x10)], 7, 7,
    [⟨F.TB_TIO_W3_RESULT, 24, .ro, false, none⟩, ⟨F.TB_TIO_W3_PENDING, 23, .ro, false, none⟩, ⟨F.TB_TIO_W3_LEVEL_NOW, 22, .ro, false, none⟩, ⟨F.TB_TIO_W3_REPLACED, 16, .rc, false, none⟩, ⟨F.TB_TIO_W3_EDGES, 0, .rc, false, none⟩]⟩,
  ⟨"TB_PPS", 0x30700, [], 7, 7,
    [⟨F.TB_PPS_WIDTH, 0, .ro, true, none⟩]⟩]

/-- Registers of spec/14_triplex_channels.md. -/
def regs14_0 : List RegDesc := [
  ⟨"TP_STATE", 0x60000, [], 7, 7,
    [⟨F.TP_STATE_STATE, 28, .ro, false, none⟩, ⟨F.TP_STATE_IN_SERVICE, 25, .ro, false, none⟩, ⟨F.TP_STATE_FENCED, 22, .ro, false, none⟩, ⟨F.TP_STATE_DONOR, 20, .ro, false, none⟩, ⟨F.TP_STATE_RESYNC, 18, .ro, false, none⟩, ⟨F.TP_STATE_SIMPLEX_MS, 0, .ro, false, none⟩]⟩,
  ⟨"TP_CFG", 0x60004, [], 7, 1,
    [⟨F.TP_CFG_AUTO_RESYNC, 31, .rw, true, none⟩, ⟨F.TP_CFG_SIMPLEX_LIMIT, 24, .rw, true, none⟩, ⟨F.TP_CFG_LATE_N, 20, .rw, true, none⟩, ⟨F.TP_CFG_FENCE_MAX, 16, .rw, true, none⟩, ⟨F.TP_CFG_PROOF_PERIOD, 8, .rw, true, none⟩]⟩,
  ⟨"TP_CH", 0x60010, [(3, 0x4)], 7, 7,
    [⟨F.TP_CH_STATE, 28, .ro, false, none⟩, ⟨F.TP_CH_CAUSE, 24, .ro, false, none⟩, ⟨F.TP_CH_FENCES, 20, .ro, true, none⟩, ⟨F.TP_CH_STRIKES, 12, .ro, false, none⟩, ⟨F.TP_CH_SHADOW, 0, .ro, false, none⟩]⟩,
  ⟨"TP_CMD", 0x60020, [], 1, 1,
    [⟨F.TP_CMD_RESULT, 24, .ro, false, none⟩, ⟨F.TP_CMD_BUSY, 23, .ro, false, none⟩, ⟨F.TP_CMD_CH, 8, .wo, false, none⟩, ⟨F.TP_CMD_CODE, 0, .wo, false, none⟩]⟩,
  ⟨"TP_HB", 0x60024, [], 7, 7,
    [⟨F.TP_HB_PATH_FAULTS, 16, .rc, false, none⟩, ⟨F.TP_HB_PIN_MISSING, 8, .ro, false, none⟩, ⟨F.TP_HB_LINK_MISSING, 0, .ro, false, none⟩]⟩,
  ⟨"TP_VOTE", 0x60030, [(3, 0x4)], 7, 7,
    [⟨F.TP_VOTE_MINORITY, 24, .rc, false, none⟩, ⟨F.TP_VOTE_LATE, 16, .rc, false, none⟩, ⟨F.TP_VOTE_LATE_RUN, 8, .ro, false, none⟩, ⟨F.TP_VOTE_DIGEST_BAD, 0, .rc, false, none⟩]⟩,
  ⟨"TP_VOTE_DEV", 0x6003C, [], 7, 7,
    [⟨F.TP_VOTE_DEV_NO_MAJORITY, 16, .rc, false, none⟩, ⟨F.TP_VOTE_DEV_BRIDGED, 0, .rc, false, none⟩]⟩,
  ⟨"TP_DIGEST", 0x60040, [(4, 0x4)], 7, 7,
    [⟨F.TP_DIGEST_AGREE, 29, .ro, false, none⟩, ⟨F.TP_DIGEST_CYCLE, 0, .ro, false, none⟩]⟩,
  ⟨"TP_PROOF", 0x60050, [], 7, 7,
    [⟨F.TP_PROOF_STATE, 28, .ro, false, none⟩, ⟨F.TP_PROOF_RESULT, 24, .ro, false, none⟩, ⟨F.TP_PROOF_FAILED, 21, .ro, false, none⟩, ⟨F.TP_PROOF_STEP, 0, .ro, false, none⟩]⟩]

/-- Registers of spec/15_fault_collection.md. -/
def regs15_0 : List RegDesc := [
  ⟨"FC_STATUS", 0x40000, [], 7, 7,
    [⟨F.FC_STATUS_SAFE_STATE, 31, .ro, false, none⟩, ⟨F.FC_STATUS_DIRECT, 30, .ro, false, none⟩, ⟨F.FC_STATUS_ERR_PIN, 29, .ro, false, none⟩, ⟨F.FC_STATUS_CLEAR_REFUSED, 8, .rc, false, none⟩]⟩,
  ⟨"FC_FIRST", 0x40004, [], 7, 7,
    [⟨F.FC_FIRST_VALID, 31, .ro, true, none⟩, ⟨F.FC_FIRST_SAME_TICK, 16, .ro, true, none⟩, ⟨F.FC_FIRST_SOURCE, 0, .ro, true, none⟩]⟩,
  ⟨"FC_FIRST_SEQ", 0x40008, [], 7, 7,
    [⟨F.FC_FIRST_SEQ_SEQ, 0, .ro, true, none⟩]⟩,
  ⟨"FC_CMD", 0x40010, [], 1, 1,
    [⟨F.FC_CMD_RESULT, 24, .ro, false, none⟩, ⟨F.FC_CMD_CODE, 0, .wo, false, none⟩]⟩,
  ⟨"FC_LOG_STAT", 0x40020, [], 7, 7,
    [⟨F.FC_LOG_STAT_HEAD, 20, .ro, true, none⟩, ⟨F.FC_LOG_STAT_QUEUE, 0, .ro, false, none⟩]⟩,
  ⟨"FC_LOG_IDX", 0x40024, [], 7, 7,
    [⟨F.FC_LOG_IDX_INDEX, 0, .rw, false, none⟩]⟩,
  ⟨"FC_INJ", 0x40030, [], 1, 1,
    [⟨F.FC_INJ_RESULT, 24, .ro, false, none⟩, ⟨F.FC_INJ_ARMED, 23, .ro, false, none⟩, ⟨F.FC_INJ_TILE, 8, .wo, false, none⟩, ⟨F.FC_INJ_MODE, 7, .wo, false, none⟩, ⟨F.FC_INJ_BITS, 6, .wo, false, none⟩, ⟨F.FC_INJ_TARGET, 0, .wo, false, none⟩]⟩,
  ⟨"FC_INJ_ADDR", 0x40034, [], 1, 1,
    [⟨F.FC_INJ_ADDR_ADDR, 0, .rw, false, none⟩]⟩,
  ⟨"FC_IRQ", 0x40040, [(8, 0x4)], 7, 3,
    [⟨F.FC_IRQ_EN, 31, .rw, false, none⟩, ⟨F.FC_IRQ_PENDING, 30, .w1c, false, none⟩]⟩,
  ⟨"FC_SELF", 0x40060, [], 7, 7,
    [⟨F.FC_SELF_CORR, 0, .rc, false, none⟩]⟩,
  ⟨"FC_LATCH", 0x40100, [(16, 0x4)], 7, 7,
    [⟨F.FC_LATCH_LATCH, 0, .w1c, false, none⟩]⟩,
  ⟨"FC_COND", 0x40140, [(16, 0x4)], 7, 7,
    [⟨F.FC_COND_COND, 0, .ro, false, none⟩]⟩]

/-- Registers of spec/15_fault_collection.md. -/
def regs15_1 : List RegDesc := [
  ⟨"FC_LOG_WIN", 0x40200, [(64, 0x4)], 7, 7,
    [⟨F.FC_LOG_WIN_DATA, 0, .ro, true, none⟩]⟩,
  ⟨"FC_REACT", 0x40400, [(512, 0x4)], 7, 7,
    [⟨F.FC_REACT_FIXED, 31, .ro, false, none⟩, ⟨F.FC_REACT_KIND, 30, .ro, false, none⟩, ⟨F.FC_REACT_GROUPS, 8, .ro, true, none⟩, ⟨F.FC_REACT_ERR, 7, .ro, true, none⟩, ⟨F.FC_REACT_REACTION, 0, .ro, true, none⟩]⟩,
  ⟨"FC_COUNT", 0x40C00, [(512, 0x4)], 7, 7,
    [⟨F.FC_COUNT_COUNT, 0, .rc, false, none⟩]⟩]

/-- Registers of spec/16_safe_brake_and_block.md. -/
def regs16_0 : List RegDesc := [
  ⟨"SB_STATUS", 0x50000, [], 7, 7,
    [⟨F.SB_STATUS_BRAKE, 30, .ro, false, none⟩, ⟨F.SB_STATUS_DEGRADED, 29, .ro, false, none⟩, ⟨F.SB_STATUS_TESTING, 28, .ro, false, none⟩, ⟨F.SB_STATUS_HOLD_1, 27, .ro, false, none⟩, ⟨F.SB_STATUS_HOLD_2, 26, .ro, false, none⟩, ⟨F.SB_STATUS_FB_1, 25, .ro, false, none⟩, ⟨F.SB_STATUS_FB_2, 24, .ro, false, none⟩, ⟨F.SB_STATUS_TRIP, 20, .ro, false, none⟩, ⟨F.SB_STATUS_SBC_REQ, 19, .ro, false, none⟩, ⟨F.SB_STATUS_OSC_OK, 18, .ro, false, none⟩]⟩,
  ⟨"SB_DEMAND", 0x50004, [], 7, 7,
    [⟨F.SB_DEMAND_COND, 16, .ro, false, none⟩, ⟨F.SB_DEMAND_IN_FORCE, 0, .ro, false, none⟩]⟩,
  ⟨"SB_CHAN", 0x50008, [], 7, 7,
    [⟨F.SB_CHAN_FAIL_1, 31, .ro, false, none⟩, ⟨F.SB_CHAN_FAIL_2, 30, .ro, false, none⟩, ⟨F.SB_CHAN_LAST_1, 27, .ro, false, none⟩, ⟨F.SB_CHAN_LAST_2, 24, .ro, false, none⟩, ⟨F.SB_CHAN_TESTS_1, 8, .rc, false, none⟩, ⟨F.SB_CHAN_TESTS_2, 0, .rc, false, none⟩]⟩,
  ⟨"SB_DEG", 0x5000C, [], 7, 7,
    [⟨F.SB_DEG_CHANNEL, 31, .ro, false, none⟩, ⟨F.SB_DEG_ELAPSED, 0, .ro, true, none⟩]⟩,
  ⟨"SB_SEAL", 0x50010, [], 7, 1,
    [⟨F.SB_SEAL_MATCH, 31, .ro, false, none⟩, ⟨F.SB_SEAL_CHANGED, 30, .w1c, false, none⟩, ⟨F.SB_SEAL_EXPECTED, 16, .ro, true, none⟩, ⟨F.SB_SEAL_SWITCHES, 0, .ro, false, none⟩]⟩,
  ⟨"SB_CMD", 0x50020, [], 3, 3,
    [⟨F.SB_CMD_RESULT, 24, .ro, false, none⟩, ⟨F.SB_CMD_BUSY, 23, .ro, false, none⟩, ⟨F.SB_CMD_CODE, 0, .wo, false, none⟩]⟩,
  ⟨"SB_CMD_MASK_LO", 0x50024, [], 3, 3,
    [⟨F.SB_CMD_MASK_LO_MASK_LO, 0, .rw, false, none⟩]⟩,
  ⟨"SB_CMD_MASK_HI", 0x50028, [], 3, 3,
    [⟨F.SB_CMD_MASK_HI_MASK_HI, 0, .rw, false, none⟩]⟩,
  ⟨"SB_COURSE", 0x50100, [(64, 0x4)], 7, 7,
    [⟨F.SB_COURSE_STATE, 30, .ro, false, none⟩, ⟨F.SB_COURSE_CAUSE, 24, .ro, false, none⟩, ⟨F.SB_COURSE_SENT, 16, .rc, false, none⟩, ⟨F.SB_COURSE_SEQ, 0, .ro, true, none⟩]⟩]

/-- Registers of spec/17_host_ports_and_contexts.md. -/
def regs17_0 : List RegDesc := [
  ⟨"HC_SELF", 0x10000, [], 7, 7,
    [⟨F.HC_SELF_CTX, 29, .ro, false, none⟩, ⟨F.HC_SELF_ROLE, 27, .ro, true, none⟩, ⟨F.HC_SELF_STATE, 25, .ro, false, none⟩, ⟨F.HC_SELF_PORT, 24, .ro, false, none⟩]⟩,
  ⟨"HC_CTX_CMD", 0x10004, [], 7, 7,
    [⟨F.HC_CTX_CMD_RESULT, 24, .ro, false, none⟩, ⟨F.HC_CTX_CMD_CODE, 0, .wo, false, none⟩]⟩,
  ⟨"HC_OWNER", 0x10008, [], 7, 1,
    [⟨F.HC_OWNER_RESULT, 24, .ro, false, none⟩, ⟨F.HC_OWNER_OWNER, 20, .ro, true, none⟩, ⟨F.HC_OWNER_TARGET, 17, .wo, false, none⟩, ⟨F.HC_OWNER_CLAIM_WAIT, 5, .rw, true, none⟩, ⟨F.HC_OWNER_CODE, 0, .wo, false, none⟩]⟩,
  ⟨"HC_CLAIM", 0x1000C, [], 7, 2,
    [⟨F.HC_CLAIM_RESULT, 24, .ro, false, none⟩, ⟨F.HC_CLAIM_CLAIM, 0, .wo, false, none⟩]⟩,
  ⟨"HC_PORT", 0x10010, [(2, 0x4)], 7, 7,
    [⟨F.HC_PORT_LINK_UP, 31, .ro, false, none⟩, ⟨F.HC_PORT_SPEED, 28, .ro, false, none⟩, ⟨F.HC_PORT_WIDTH, 25, .ro, false, none⟩, ⟨F.HC_PORT_LINK_DOWNS, 8, .rc, false, none⟩, ⟨F.HC_PORT_UNCORR, 0, .rc, false, none⟩]⟩,
  ⟨"HC_CTX_CFG", 0x10100, [(8, 0x40)], 7, 1,
    [⟨F.HC_CTX_CFG_ROLE, 30, .rw, true, none⟩]⟩,
  ⟨"HC_CTX_STAT", 0x10104, [(8, 0x40)], 7, 7,
    [⟨F.HC_CTX_STAT_STATE, 30, .ro, false, none⟩, ⟨F.HC_CTX_STAT_CAUSE, 27, .ro, false, none⟩, ⟨F.HC_CTX_STAT_REFUSED, 8, .rc, false, none⟩, ⟨F.HC_CTX_STAT_HALF_LIVE, 4, .rc, false, none⟩, ⟨F.HC_CTX_STAT_PARTIAL, 0, .rc, false, none⟩]⟩,
  ⟨"HC_CTX_REFADDR", 0x10108, [(8, 0x40)], 7, 7,
    [⟨F.HC_CTX_REFADDR_BAR2, 31, .ro, false, none⟩, ⟨F.HC_CTX_REFADDR_WRITE, 30, .ro, false, none⟩, ⟨F.HC_CTX_REFADDR_CAUSE, 28, .ro, false, none⟩, ⟨F.HC_CTX_REFADDR_OFFSET, 0, .ro, false, none⟩]⟩,
  ⟨"HC_MMU_CTL", 0x10110, [(8, 0x40)], 7, 7,
    [⟨F.HC_MMU_CTL_MODE, 30, .rw, false, none⟩, ⟨F.HC_MMU_CTL_BUSY, 29, .ro, false, none⟩, ⟨F.HC_MMU_CTL_INV, 0, .wo, false, none⟩]⟩,
  ⟨"HC_MMU_ROOT_LO", 0x10114, [(8, 0x40)], 7, 7,
    [⟨F.HC_MMU_ROOT_LO_ROOT_LO, 0, .rw, false, none⟩]⟩,
  ⟨"HC_MMU_ROOT_HI", 0x10118, [(8, 0x40)], 7, 7,
    [⟨F.HC_MMU_ROOT_HI_ROOT_HI, 0, .rw, false, none⟩]⟩,
  ⟨"HC_MMU_INV_LO", 0x1011C, [(8, 0x40)], 7, 7,
    [⟨F.HC_MMU_INV_LO_INV_LO, 0, .rw, false, none⟩]⟩]

/-- Registers of spec/17_host_ports_and_contexts.md. -/
def regs17_1 : List RegDesc := [
  ⟨"HC_MMU_INV_HI", 0x10120, [(8, 0x40)], 7, 7,
    [⟨F.HC_MMU_INV_HI_INV_HI, 0, .rw, false, none⟩]⟩,
  ⟨"HC_MMU_FAULT", 0x10124, [(8, 0x40)], 7, 7,
    [⟨F.HC_MMU_FAULT_PENDING, 31, .w1c, false, none⟩, ⟨F.HC_MMU_FAULT_WRITE, 30, .ro, false, none⟩, ⟨F.HC_MMU_FAULT_CAUSE, 24, .ro, false, none⟩, ⟨F.HC_MMU_FAULT_COUNT, 0, .rc, false, none⟩]⟩,
  ⟨"HC_MMU_FADDR_LO", 0x10128, [(8, 0x40)], 7, 7,
    [⟨F.HC_MMU_FADDR_LO_FADDR_LO, 0, .ro, false, none⟩]⟩,
  ⟨"HC_MMU_FADDR_HI", 0x1012C, [(8, 0x40)], 7, 7,
    [⟨F.HC_MMU_FADDR_HI_FADDR_HI, 0, .ro, false, none⟩]⟩,
  ⟨"HC_IRQ_EN", 0x10130, [(8, 0x40)], 7, 7,
    [⟨F.HC_IRQ_EN_EN, 1, .rw, false, none⟩]⟩,
  ⟨"HC_IRQ_STAT", 0x10134, [(8, 0x40)], 7, 7,
    [⟨F.HC_IRQ_STAT_STAT, 1, .w1c, false, none⟩]⟩]

/-- Registers of spec/18_transfer_engine.md. -/
def regs18_0 : List RegDesc := [
  ⟨"DM_CFG", 0x90000, [], 7, 1,
    [⟨F.DM_CFG_HOP_LIMIT, 16, .rw, true, none⟩]⟩,
  ⟨"DM_FREE", 0x90004, [], 7, 7,
    [⟨F.DM_FREE_FREE, 0, .ro, false, none⟩]⟩,
  ⟨"DM_CH_CMD", 0x90100, [(32, 0x80)], 7, 7,
    [⟨F.DM_CH_CMD_RESULT, 24, .ro, false, none⟩, ⟨F.DM_CH_CMD_CODE, 0, .wo, false, none⟩]⟩,
  ⟨"DM_CH_STAT", 0x90104, [(32, 0x80)], 7, 7,
    [⟨F.DM_CH_STAT_OWNER, 29, .ro, false, none⟩, ⟨F.DM_CH_STAT_STATE, 25, .ro, false, none⟩, ⟨F.DM_CH_STAT_CAUSE, 21, .ro, false, none⟩, ⟨F.DM_CH_STAT_ARMED, 20, .ro, false, none⟩, ⟨F.DM_CH_STAT_HOPS, 0, .ro, false, none⟩]⟩,
  ⟨"DM_CH_CFG", 0x90108, [(32, 0x80)], 7, 7,
    [⟨F.DM_CH_CFG_PRIO, 30, .rw, false, none⟩]⟩,
  ⟨"DM_CH_IRQ", 0x9010C, [(32, 0x80)], 7, 7,
    [⟨F.DM_CH_IRQ_HALF, 31, .w1c, false, none⟩, ⟨F.DM_CH_IRQ_FULL, 30, .w1c, false, none⟩, ⟨F.DM_CH_IRQ_DONE, 29, .w1c, false, none⟩, ⟨F.DM_CH_IRQ_STOP, 28, .w1c, false, none⟩, ⟨F.DM_CH_IRQ_OVERRUN, 27, .w1c, false, none⟩]⟩,
  ⟨"DM_CH_IRQ_EN", 0x90110, [(32, 0x80)], 7, 7,
    [⟨F.DM_CH_IRQ_EN_HALF, 31, .rw, false, none⟩, ⟨F.DM_CH_IRQ_EN_FULL, 30, .rw, false, none⟩, ⟨F.DM_CH_IRQ_EN_DONE, 29, .rw, false, none⟩, ⟨F.DM_CH_IRQ_EN_STOP, 28, .rw, false, none⟩, ⟨F.DM_CH_IRQ_EN_OVERRUN, 27, .rw, false, none⟩]⟩,
  ⟨"DM_CH_DONE", 0x90114, [(32, 0x80)], 7, 7,
    [⟨F.DM_CH_DONE_DONE, 0, .ro, false, none⟩]⟩,
  ⟨"DM_CH_PASS", 0x90118, [(32, 0x80)], 7, 7,
    [⟨F.DM_CH_PASS_PASS, 0, .ro, false, none⟩]⟩,
  ⟨"DM_CH_LOST", 0x9011C, [(32, 0x80)], 7, 7,
    [⟨F.DM_CH_LOST_LOST, 0, .rc, false, none⟩]⟩,
  ⟨"DM_CH_RING0", 0x90120, [(32, 0x80)], 7, 7,
    [⟨F.DM_CH_RING0_RING0, 0, .ro, false, none⟩]⟩,
  ⟨"DM_CH_DETAIL", 0x90124, [(32, 0x80)], 7, 7,
    [⟨F.DM_CH_DETAIL_RULE, 24, .ro, false, none⟩, ⟨F.DM_CH_DETAIL_PTFAIL, 0, .rc, false, none⟩]⟩]

/-- Registers of spec/18_transfer_engine.md. -/
def regs18_1 : List RegDesc := [
  ⟨"DM_CH_SH", 0x90140, [(32, 0x80), (8, 0x4)], 7, 7,
    [⟨F.DM_CH_SH_SHADOW, 0, .rw, false, none⟩]⟩,
  ⟨"DM_CH_ACT", 0x90160, [(32, 0x80), (8, 0x4)], 7, 7,
    [⟨F.DM_CH_ACT_ACTIVE, 0, .ro, false, none⟩]⟩]

/-- Registers of spec/19_balls_supplies_limits.md. -/
def regs19_0 : List RegDesc := [
  ⟨"GL_TEMP", 0x40, [(6, 0x4)], 7, 7,
    [⟨F.GL_TEMP_PEAK, 16, .rc, false, none⟩, ⟨F.GL_TEMP_NOW, 0, .ro, false, none⟩]⟩,
  ⟨"GL_SUPPLY", 0x60, [], 7, 7,
    [⟨F.GL_SUPPLY_HIGH, 8, .ro, false, none⟩, ⟨F.GL_SUPPLY_LOW, 0, .ro, false, none⟩]⟩]

/-- Every register of BAR0. -/
def regTable : List RegDesc :=
  regs00_0 ++
  regs02_0 ++
  regs03_0 ++
  regs03_1 ++
  regs04_0 ++
  regs05_0 ++
  regs06_0 ++
  regs07_0 ++
  regs08_0 ++
  regs09_0 ++
  regs10_0 ++
  regs11_0 ++
  regs11_1 ++
  regs12_0 ++
  regs12_1 ++
  regs13_0 ++
  regs13_1 ++
  regs13_2 ++
  regs14_0 ++
  regs15_0 ++
  regs15_1 ++
  regs16_0 ++
  regs17_0 ++
  regs17_1 ++
  regs18_0 ++
  regs18_1 ++
  regs19_0

end Sys2Proof.Machine
end

