-- ==== Sys2Proof/Machine/Bank.lean ====
section
/-! DEFINITION. The register bank: the value of every register field that differs from its power-up value (R5 to R7).
A field has up to two copies' indices; a field of one copy has indices 0 0. -/

namespace Sys2Proof.Machine

/-- A copy of a field. -/
structure FKey where
  fld : Fld
  i : Nat
  j : Nat
  deriving DecidableEq, Repr

/-- Values that differ from power-up, sorted, one entry per key. -/
abbrev Bank := List (FKey × Nat)

/-- Fixed reaction of a source (R379, R417), if it has one. -/
def fixedReaction (n : Nat) : Option Nat :=
  if n = 0 ∨ n = 1 ∨ n = 0x2A ∨ n = 0x2B ∨ n = 0x153 ∨ n = 0x158 then some 5
  else if 0x20 ≤ n ∧ n ≤ 0x27 then some 4
  else if 0x40 ≤ n ∧ n < 0xA0 ∧ n % 8 = 1 then some 4 else none

/-- Kind of a source (R376, R417, R442): whether it is a level source. -/
def isLevel (n : Nat) : Bool :=
  n == 0 || n == 1 || (4 ≤ n && n ≤ 6) || (0x29 ≤ n && n ≤ 0x2B) || (0x2D ≤ n && n ≤ 0x2F) ||
  (0x40 ≤ n && n < 0xA0 && (n % 8 == 2 || n % 8 == 3)) ||
  (0xA0 ≤ n && n < 0xC0 && 1 ≤ n % 8 && n % 8 ≤ 6) ||
  (0x140 ≤ n && n ≤ 0x149) || (0x14E ≤ n && n ≤ 0x154) || (0x156 ≤ n && n ≤ 0x159) ||
  n == 0x15B || n == 0x15C || (0x160 ≤ n && n < 0x1C0)

/-- Whether a number is a source at all (R376; 0x15B to 0x15F are those of R442 and R461). -/
def isSource (n : Nat) : Bool :=
  n ≤ 6 || (0x10 ≤ n && n ≤ 0x35 ) || (0x40 ≤ n && n ≤ 0x13F) || (0x140 ≤ n && n ≤ 0x1FF)

/-- Power-up value of a field's copy: the table's, with the per-source values of FC_REACT (R377) and the factory roles
of R425. -/
def fieldDefault (f : Fld) (i : Nat) : Nat :=
  if f = F.FC_REACT_FIXED then (if (fixedReaction i).isSome then 1 else 0)
  else if f = F.FC_REACT_KIND then (if isSource i && !isLevel i then 1 else 0)
  else if f = F.FC_REACT_ERR then (if isSource i then 1 else 0)
  else if f = F.FC_REACT_REACTION then (if isSource i then (fixedReaction i).getD 1 else 0)
  else if f = F.HC_CTX_CFG_ROLE then (if i = 0 then 0 else 2)
  else if f = F.CM_LANE_CFG_LPLL then i / 8 % 8
  else f.reset

/-- Order of keys: offset, bit, indices. -/
def FKey.lt (a b : FKey) : Bool :=
  decide (a.fld.base < b.fld.base) || (a.fld.base == b.fld.base &&
    (decide (a.fld.lo < b.fld.lo) || (a.fld.lo == b.fld.lo &&
      (decide (a.i < b.i) || (a.i == b.i && decide (a.j < b.j))))))

/-- Value listed for a key. -/
def Bank.find : Bank → FKey → Option Nat
  | [], _ => none
  | e :: b, k => if e.1 = k then some e.2 else Bank.find b k

/-- Without a key. -/
def Bank.erase : Bank → FKey → Bank
  | [], _ => []
  | e :: b, k => if e.1 = k then Bank.erase b k else e :: Bank.erase b k

/-- With an entry put before the first greater key. -/
def Bank.insert : Bank → FKey → Nat → Bank
  | [], k, v => [(k, v)]
  | e :: b, k, v => if FKey.lt k e.1 then (k, v) :: e :: b else e :: Bank.insert b k v

/-- Value of a field's copy. -/
def Bank.get (b : Bank) (f : Fld) (i j : Nat) : Nat := (b.find ⟨f, i, j⟩).getD (fieldDefault f i)

/-- Set a field's copy; the value is taken modulo the field's width. -/
def Bank.set (b : Bank) (f : Fld) (i j v : Nat) : Bank :=
  let b' := b.erase ⟨f, i, j⟩
  if v % 2 ^ f.width = fieldDefault f i then b' else b'.insert ⟨f, i, j⟩ (v % 2 ^ f.width)

/-- One copy of a register in the map: its descriptor and the copy's indices. -/
structure RegAt where
  reg : RegDesc
  i : Nat
  j : Nat
  deriving DecidableEq, Repr

/-- The copy of a register that lies at an offset, if it does. -/
def RegDesc.at? (r : RegDesc) (off : Nat) : Option RegAt :=
  if off < r.base then none else
    let d := off - r.base
    match r.dims with
    | [] => if d = 0 then some ⟨r, 0, 0⟩ else none
    | [(n, s)] => if d % s = 0 ∧ d / s < n then some ⟨r, d / s, 0⟩ else none
    | (n, s) :: (m, t) :: _ =>
      if d / s < n ∧ d % s % t = 0 ∧ d % s / t < m then some ⟨r, d / s, d % s / t⟩ else none

/-- First register of a list that lies at an offset. -/
def findReg : List RegDesc → Nat → Option RegAt
  | [], _ => none
  | r :: l, off => match r.at? off with | some x => some x | none => findReg l off

/-- Offset of a copy of a register whose first copy lies at a base. -/
def regOffset (base i j : Nat) : Nat :=
  match regTable.find? (fun r => r.base == base) with
  | none => base
  | some r => match r.dims with
    | [] => base
    | [(_, s)] => base + i * s
    | (_, s) :: (_, t) :: _ => base + i * s + j * t

/-- The bits a field occupies in its word. -/
def fieldMask (f : Fld) (pos : Nat) : Nat := (2 ^ f.width - 1) * 2 ^ pos

end Sys2Proof.Machine
end

