-- ==== Sys2Proof/Machine/Num.lean ====
section
/-! DEFINITION. The fixed-point arithmetic of the stages (R8, R9, R70) and small helpers on numbers and lists. -/

namespace Sys2Proof.Machine

/-- a / b rounded to nearest with ties to even (R70); 0 for b = 0. -/
def roundDiv (a : Int) (b : Nat) : Int :=
  if b = 0 then 0 else
    let q := a / (b : Int)
    let r := a % (b : Int)
    if 2 * r < b then q else if 2 * r > b then q + 1 else if q % 2 = 0 then q else q + 1

/-- Truncation toward zero of a / b. -/
def truncDiv (a : Int) (b : Nat) : Int := Int.tdiv a b

/-- Limit x to lo..hi; where hi lies below lo the upper limit wins (log entry 117). -/
def clampI (lo hi x : Int) : Int := if hi < x then hi else if x < lo then (if hi < lo then hi else lo) else x

/-- Limit x to at most hi. -/
def clampN (hi x : Nat) : Nat := if hi < x then hi else x

/-- Saturation to the per-unit format, signed 32 bits (R9). -/
def satPu (x : Int) : Pu := clampI (-0x80000000) 0x7FFFFFFF x

/-- Saturation to a signed 16-bit register field. -/
def sat16 (x : Int) : Int := clampI (-0x8000) 0x7FFF x

/-- Two's complement of x in w bits. -/
def toField (w : Nat) (x : Int) : Nat := (x % (2 ^ w : Int)).toNat

/-- The signed number a w-bit field holds. -/
def ofField (w : Nat) (n : Nat) : Int :=
  let m := n % 2 ^ w
  if 2 * m < 2 ^ w then (m : Int) else (m : Int) - 2 ^ w

/-- A set-point or other 32-bit word read as a per-unit quantity. -/
def puOfWord (n : Nat) : Pu := ofField 32 n

/-- Product of two per-unit quantities. -/
def mulPu (a b : Pu) : Pu := satPu (roundDiv (a * b) 0x10000000)

/-- Quotient of two per-unit quantities; 0 for a zero divisor. -/
def divPu (a b : Pu) : Pu :=
  if b = 0 then 0 else if 0 < b then satPu (roundDiv (a * 0x10000000) b.toNat) else satPu (roundDiv (-a * 0x10000000) (-b).toNat)

/-- Sum, saturated. -/
def addPu (a b : Pu) : Pu := satPu (a + b)

/-! Quantities carried beyond the per-unit format (R70): a difference or product of two has 56 fractional bits, a product of three
84. Sums of them are exact; a quotient or a time is carried with 84. Only what an expression of the spec assigns is narrowed. -/

/-- A per-unit quantity with 56 and with 84 fractional bits. -/
def at56 (x : Int) : Int := x * 0x10000000
def at84 (x : Int) : Int := x * 0x100000000000000

/-- Narrowing from 56 or 84 fractional bits to the per-unit format: nearest, ties to even, saturated (R70, R9). -/
def narrow56 (x : Int) : Pu := satPu (roundDiv x 0x10000000)
def narrow (x : Int) : Pu := satPu (roundDiv x 0x100000000000000)

/-- a / b of two per-unit quantities with 84 fractional bits, b positive; 0 for b = 0. -/
def quot84 (a b : Int) : Int := roundDiv (a * 0x1000000000000000000000) b.toNat

/-- gain × error × time with 84 fractional bits: the gain per second, the error with 56, the time in 2 ns ticks. -/
def overTime (gain err : Int) (ticks : Nat) : Int := roundDiv (gain * err * ticks) 500000000

/-- An integrator advanced: sat(x + gain × error × time, lo, hi). -/
def integrate (lo hi gain : Pu) (err : Int) (ticks : Nat) (x : Pu) : Pu := clampI lo hi (narrow (at84 x + overTime gain err ticks))

/-- The preload of R107: the integrator that makes rest + x the wanted output, limited to lo..hi. -/
def preload (lo hi wanted : Pu) (rest : Int) : Pu := clampI lo hi (narrow (at84 wanted - rest))

/-- rate × time, rate in pu/s, time in ticks. -/
def rateStep (rate : Pu) (ticks : Nat) : Pu := satPu (roundDiv (rate * ticks) 500000000)

/-- Move x toward target by at most step (R127). -/
def rampTo (x target step : Pu) : Pu :=
  if x < target then (if target - x < step then target else x + step)
  else if x - target < step then target else x - step

/-- A vector of two per-unit components. -/
structure V2 where
  d : Pu
  q : Pu
  deriving DecidableEq, Repr

/-- Three phase quantities. -/
structure V3 where
  a : Pu
  b : Pu
  c : Pu
  deriving DecidableEq, Repr

/-- The hand-over vector H of R106. -/
structure V4 where
  dp : Pu
  qp : Pu
  dn : Pu
  qn : Pu
  deriving DecidableEq, Repr

/-- The zero vectors. -/
def V2.zero : V2 := ⟨0, 0⟩
def V3.zero : V3 := ⟨0, 0, 0⟩
def V4.zero : V4 := ⟨0, 0, 0, 0⟩

/-- Length of a vector (R70: fixed algorithm, log entry 2). -/
def norm (v : V2) : Pu := satPu (Config.sqrt56 (v.d * v.d + v.q * v.q).toNat)

/-- Product with a cosine or sine of 30 fractional bits, unrounded. -/
def trig (x t : Int) : Int := x * t

/-- Angle sum modulo one turn (R9). -/
def addAngle (a : Nat) (b : Int) : Nat := toField 32 ((a : Int) + b)

/-- Rotation of a vector by an angle (R116), carried with 58 fractional bits; and narrowed. -/
def rot58 (v : V2) (th : Nat) : V2 :=
  let c := Config.cosTurn th
  let s := Config.sinTurn th
  ⟨v.d * c - v.q * s, v.d * s + v.q * c⟩
def rot (v : V2) (th : Nat) : V2 :=
  let r := rot58 v th
  ⟨satPu (roundDiv r.d 0x40000000), satPu (roundDiv r.q 0x40000000)⟩

/-- Clarke transform of R115, carried with 56 fractional bits; and narrowed. -/
def clarke56 (x : V3) : V2 :=
  ⟨roundDiv (at56 (2 * x.a - x.b - x.c)) 3, roundDiv (at56 (x.b - x.c) * 0x1000000000000000) Config.sqrt3q60.toNat⟩
def clarke (x : V3) : V2 := ⟨narrow56 (clarke56 x).d, narrow56 (clarke56 x).q⟩

/-- Park transform of R115 of stationary components with 56 fractional bits, to the frame at th: 86 fractional bits. -/
def park86 (x : V2) (th : Nat) : V2 :=
  let c := Config.cosTurn th
  let s := Config.sinTurn th
  ⟨x.d * c + x.q * s, x.q * c - x.d * s⟩

/-- A vector of 86 fractional bits less one of 58, narrowed. -/
def sub86 (a b : V2) : V2 :=
  ⟨satPu (roundDiv (a.d - at56 b.d) 0x400000000000000), satPu (roundDiv (a.q - at56 b.q) 0x400000000000000)⟩

/-- The negative of an angle. -/
def negAngle (th : Nat) : Nat := toField 32 (-(th : Int))

/-- Twice an angle. -/
def dblAngle (th : Nat) : Nat := (2 * th) % 0x100000000

/-- Components of two vectors, subtracted. -/
def V2.sub (a b : V2) : V2 := ⟨satPu (a.d - b.d), satPu (a.q - b.q)⟩
def V4.sub (a b : V4) : V4 := ⟨satPu (a.dp - b.dp), satPu (a.qp - b.qp), satPu (a.dn - b.dn), satPu (a.qn - b.qn)⟩

/-- A vector scaled by n / m. -/
def V2.scale (v : V2) (n : Int) (m : Nat) : V2 := ⟨satPu (roundDiv (v.d * n) m), satPu (roundDiv (v.q * n) m)⟩

/-- Largest absolute component (R109). -/
def V4.maxAbs (v : V4) : Nat := max (max v.dp.natAbs v.qp.natAbs) (max v.dn.natAbs v.qn.natAbs)

/-- Sum of a list of integers. -/
def sumI : List Int → Int
  | [] => 0
  | x :: r => x + sumI r

/-- Sum of a list of naturals. -/
def sumN : List Nat → Nat
  | [] => 0
  | x :: r => x + sumN r

/-- Rounded mean of a list; 0 if empty. -/
def meanI (l : List Int) : Int := roundDiv (sumI l) l.length

/-- Per-unit to the register unit 2^-12 pu, truncated toward zero. -/
def reg12 (x : Pu) : Int := truncDiv x 0x10000

/-- A magnitude in 2^-12 pu saturating at 0xFFFF. -/
def reg12u (x : Pu) : Nat := clampN 0xFFFF (x.toNat / 0x10000)

/-- A signed quantity as a 16-bit field in 2^-12 pu. -/
def reg12s (x : Pu) : Nat := toField 16 (sat16 (reg12 x))

/-- Truth of a Bool as a bit. -/
def bit (b : Bool) : Nat := if b then 1 else 0

/-- Bit n of a number. -/
def testBit (x n : Nat) : Bool := x.testBit n

/-- Set or clear bit n of a number. -/
def putBit (x n : Nat) (b : Bool) : Nat :=
  if x.testBit n then (if b then x else x - 2 ^ n) else (if b then x + 2 ^ n else x)

/-- Increment saturating at hi. -/
def satInc (hi x : Nat) : Nat := if x < hi then x + 1 else hi

/-- Entry n of a list, or d. -/
def nth {α : Type} (l : List α) (n : Nat) (d : α) : α := (l[n]?).getD d

/-- A list with entry n replaced. -/
def setNth {α : Type} : List α → Nat → α → List α
  | [], _, _ => []
  | _ :: r, 0, x => x :: r
  | y :: r, n + 1, x => y :: setNth r n x

/-- Ticks of n half-microseconds, of n quarter-microseconds, of n milliseconds (2 ns ticks, R8). -/
def halfUs (n : Nat) : Nat := 250 * n
def quarterUs (n : Nat) : Nat := 125 * n
def msTicks (n : Nat) : Nat := 500000 * n

/-- Code of a mode (R86). -/
def modeCode : Mode → Nat
  | .isolated => 0 | .charge => 1 | .blocked => 2 | .reactive => 3 | .follow => 4 | .dcSlack => 5
  | .form => 6 | .harvest => 7 | .acRide => 8 | .dcRide => 9 | .discharge => 10 | .lineTest => 11

/-- Mode of a code of R86, if there is one. -/
def modeOfCode : Nat → Option Mode
  | 0 => some .isolated | 1 => some .charge | 2 => some .blocked | 3 => some .reactive | 4 => some .follow
  | 5 => some .dcSlack | 6 => some .form | 7 => some .harvest | 8 => some .acRide | 9 => some .dcRide
  | 10 => some .discharge | 11 => some .lineTest | _ => none

/-- Entry n of a sparse table kept in rising order of its keys. -/
def tabGet {α : Type} : List (Nat × α) → Nat → Option α
  | [], _ => none
  | (k, x) :: r, n => if k = n then some x else tabGet r n

/-- Remove every entry with key n. -/
def tabErase {α : Type} : List (Nat × α) → Nat → List (Nat × α)
  | [], _ => []
  | (k, x) :: r, n => if k = n then tabErase r n else (k, x) :: tabErase r n

/-- Insert in rising order of keys. -/
def tabIns {α : Type} : List (Nat × α) → Nat → α → List (Nat × α)
  | [], n, y => [(n, y)]
  | (k, x) :: r, n, y => if n < k then (n, y) :: (k, x) :: r else (k, x) :: tabIns r n y

/-- Set entry n. -/
def tabSet {α : Type} (t : List (Nat × α)) (n : Nat) (y : α) : List (Nat × α) := tabIns (tabErase t n) n y

/-- Value of a table at a key, or a default. -/
def tabD {α : Type} (t : List (Nat × α)) (n : Nat) (d : α) : α := (tabGet t n).getD d

/-- A table with the value at a key replaced by a function of it. -/
def tabMod {α : Type} (t : List (Nat × α)) (n : Nat) (d : α) (f : α → α) : List (Nat × α) := tabSet t n (f (tabD t n d))

end Sys2Proof.Machine
end

