-- ==== Sys2Proof/Machine/CtlState.lean ====
section
/-! DEFINITION. The state of the control computation, one copy per channel (R16, R17): the Grid and Arm stages of a
group, the rank engine of a tile, and the latched inputs of a cycle. Filter and controller states start at 0 (R45). -/

namespace Sys2Proof.Machine

/-- Mode part of a group's control (R86 to R105). `phaseCtrl` is the controlled phase of CHARGE; `mode0` the mode of
the cycle before; `auto` that an automatic transition was taken this cycle (R101); `result` the outcome of a latched
command with its tag, shown at D_E (R96). -/
structure ModeSt where
  mode : Mode
  mode0 : Mode
  ret : Mode
  prev : Mode
  cause : Nat
  phaseCtrl : Bool
  auto : Bool
  changed : Bool
  entryK : Nat
  result : Option (Nat × Nat)
  ltOutcome : Nat
  ltPeak : Nat
  ltHeld : Nat
  raises : List Nat
  deriving DecidableEq, Repr

/-- Synchronisation (R115 to R121, R155). -/
structure SyncSt where
  posV : V2
  negV : V2
  posI : V2
  negI : V2
  posDc : V2
  negDc : V2
  acc : Nat
  xi : Pu
  w : Pu
  e : Pu
  locked : Bool
  fly : Bool
  lockRun : Nat
  unlockRun : Nat
  flyRun : Nat
  eFast : Int
  jumpRun : Nat
  seatDue : Bool
  seatSince : Nat
  lastSeat : Int
  jumpTrip : Bool
  deriving DecidableEq, Repr

/-- Detection quantities and their histories, newest first (R144). -/
structure DetSt where
  hist : List V3
  vdets : List Pu
  vDet : Pu
  vPos : Pu
  vNeg : Pu
  vdcDet : Pu
  deriving DecidableEq, Repr

/-- Ride-through (R145 to R154). -/
structure RideSt where
  acHold : Bool
  dcHold : Bool
  acRun : Nat
  dcRun : Nat
  vPre : Pu
  iDPre : Pu
  iQPre : Pu
  iqHeld : Pu
  entries : List Nat
  kAc : Nat
  kDc : Nat
  fromAc : Bool
  dcOver : Bool
  curveRuns : List Nat
  exitRun : Nat
  exiting : Bool
  tripCurve : Nat
  repeatBlock : Bool
  elapsed : Nat
  deriving DecidableEq, Repr

/-- What acted in the Grid stage of the cycle before (R107, R127): current control, the active power, reactive power, AC voltage
and DC voltage loops, the ramp of LINE_TEST, the source voltage loop of HARVEST, forming, and the five reference ramps. -/
structure Acts where
  cur : Bool
  p : Bool
  q : Bool
  vac : Bool
  dc : Bool
  lt : Bool
  pv : Bool
  form : Bool
  rampP : Bool
  rampQ : Bool
  rampVac : Bool
  rampF : Bool
  rampVdc : Bool
  deriving DecidableEq, Repr

/-- Current control (R123 to R125): the references before and after the limits, integrators, last output H before and after the
fade. -/
structure CurSt where
  want : V4
  ref : V4
  x : V4
  sat : Bool
  imaxActive : Bool
  voutSat : Bool
  formVirt : Bool
  n : V4
  out : V4
  deriving DecidableEq, Repr

/-- Outer loops and ramps (R126 to R130, R154). -/
structure LoopSt where
  p : Pu
  q : Pu
  vdc : Pu
  idc : Pu
  xp : Pu
  xq : Pu
  xvac : Pu
  xdc : Pu
  pR : Pu
  qR : Pu
  vacR : Pu
  fR : Pu
  vdcR : Pu
  idRef : Pu
  iqRef : Pu
  recovP : Bool
  recovQ : Bool
  recovV : Bool
  iDcRef : Pu
  vLt : Pu
  pFf : Pu
  deriving DecidableEq, Repr

/-- Forming oscillator and magnitude controller (R131, R132). -/
structure FormSt where
  acc : Nat
  w : Pu
  xv : Pu
  deriving DecidableEq, Repr

/-- Cross-fade (R109). -/
structure FadeSt where
  left : Nat
  k : Nat
  f : Nat
  oh : V4
  diff : Nat
  deriving DecidableEq, Repr

/-- Islanding detection (R158 to R160): runs and history, the pulse counter, whether the pulse is on, the samples of norm(pos_f)
before and during it, the Z of an ended pulse that is still to be judged (`zNext`, none for a pulse that gives no Z). -/
structure IslSt where
  fRun : Nat
  wHist : List Pu
  aiCount : Nat
  pulse : Bool
  preSum : List Pu
  pulseSum : List Pu
  pulseOk : Bool
  zDue : Bool
  zNext : Option Pu
  conf : Nat
  z : Pu
  criteria : Nat
  due : Bool
  action : Nat
  blanked : Bool
  detected : Bool
  deriving DecidableEq, Repr

/-- Best-point tracking (R162 to R166): the samples of v_dc × i_dc of the interval (56 fractional bits), the last completed scan
(`doneV`, `doneP`), the result of a request of this cycle, and a scan that goes to the bricks. -/
structure HarvSt where
  vTgt : Pu
  up : Bool
  holds : Nat
  pPrev : Pu
  pSum : List Int
  xpv : Pu
  curtailed : Bool
  scanning : Bool
  vBefore : Pu
  bestV : Pu
  bestP : Pu
  sincescan : Nat
  frozen : Bool
  skip : Bool
  aborted : Bool
  doneV : Pu
  doneP : Pu
  scanResult : Option Nat
  askBricks : Bool
  deriving DecidableEq, Repr

/-- One feedback signal (R140 to R142): the alternate in use, runs, and the value held. -/
structure FbSt where
  valid : Bool
  alt : Bool
  hold : Bool
  holdRun : Nat
  primRun : Nat
  diffRun : Nat
  raised : Bool
  disagreed : Bool
  was : Bool
  held : V3
  deriving DecidableEq, Repr

/-- Circulating-current controller of one leg (R174); whether it is held (R175) and whether it ran in the cycle before. -/
structure LegSt where
  xz : Pu
  r1a : Pu
  r1b : Pu
  r2a : Pu
  r2b : Pu
  vz : Pu
  izRef : Pu
  iz : Pu
  hold : Bool
  ran : Bool
  deriving DecidableEq, Repr

/-- Per-tile part of the Arm stage (R170, R178 to R185); `chOut` is a chopper's output below v_dc, `chRan` that its controller ran in
the cycle before. -/
structure ArmSt where
  sign : Bool
  ovr : Bool
  under : Bool
  zrefSat : Bool
  ilim : Bool
  zhold : Bool
  ovmRun : Nat
  ovmMark : Nat
  vbarRun : Nat
  energyHeld : Bool
  shortHeld : Bool
  tripHeld : Bool
  count : Nat
  frac : Nat
  nq : Nat
  u : Pu
  i : Pu
  vbar : Pu
  earm : Pu
  np : Nat
  vChg : Option Pu
  xch : Pu
  dissip : Bool
  pdis : Pu
  ichRef : Pu
  chOut : Pu
  chRan : Bool
  chopState : Nat
  deriving DecidableEq, Repr

/-- Group part of the Arm stage (R171 to R183); `ran` and `demRan` that the balancing controllers and the total one acted in the cycle
before. -/
structure BalSt where
  xe : Pu
  xh : List Pu
  xv : List Pu
  pDem : Pu
  ih : List Pu
  g : List Pu
  thDis : Nat
  eTot : Pu
  eLeg : List Pu
  d : List Pu
  ran : Bool
  demRan : Bool
  deriving DecidableEq, Repr

/-- All control state of one group in one channel. -/
structure GridSt where
  m : ModeSt
  sync : SyncSt
  det : DetSt
  ride : RideSt
  cur : CurSt
  loop : LoopSt
  form : FormSt
  fade : FadeSt
  isl : IslSt
  harv : HarvSt
  fb : List FbSt
  bal : BalSt
  legs : List LegSt
  acted : Acts
  deriving DecidableEq, Repr

/-- Defined initial values (R45): all zero, frequency 1.0 pu, group ISOLATED. -/
def ModeSt.init : ModeSt :=
  { mode := .isolated, mode0 := .isolated, ret := .isolated, prev := .isolated, cause := 9, phaseCtrl := false,
    auto := false, changed := false, entryK := 0, result := none, ltOutcome := 0, ltPeak := 0, ltHeld := 0, raises := [] }
def SyncSt.init : SyncSt :=
  { posV := .zero, negV := .zero, posI := .zero, negI := .zero, posDc := .zero, negDc := .zero, acc := 0, xi := 0,
    w := one, e := 0, locked := false, fly := false, lockRun := 0, unlockRun := 0, flyRun := 0, eFast := 0,
    jumpRun := 0, seatDue := false, seatSince := 0, lastSeat := 0, jumpTrip := false }
def DetSt.init : DetSt := ⟨[], [], 0, 0, 0, 0⟩
def RideSt.init : RideSt :=
  { acHold := false, dcHold := false, acRun := 0, dcRun := 0, vPre := 0, iDPre := 0, iQPre := 0, iqHeld := 0,
    entries := [], kAc := 0, kDc := 0, fromAc := false, dcOver := false, curveRuns := [0, 0, 0, 0], exitRun := 0,
    exiting := false, tripCurve := 15, repeatBlock := false, elapsed := 0 }
def Acts.init : Acts := ⟨false, false, false, false, false, false, false, false, false, false, false, false, false⟩
def CurSt.init : CurSt := ⟨.zero, .zero, .zero, false, false, false, false, .zero, .zero⟩
def LoopSt.init : LoopSt := ⟨0, 0, 0, 0, 0, 0, 0, 0, 0, 0, 0, 0, 0, 0, 0, false, false, false, 0, 0, 0⟩
def FormSt.init : FormSt := ⟨0, one, 0⟩
def FadeSt.init : FadeSt := ⟨0, 0, 0, .zero, 0⟩
def IslSt.init : IslSt := ⟨0, [], 0, false, [], [], true, false, none, 0, 0, 0, false, 0, false, false⟩
def HarvSt.init : HarvSt := ⟨0, true, 0, 0, [], 0, false, false, 0, 0, 0, 0, false, false, false, 0, 0, none, false⟩
def FbSt.init : FbSt := ⟨false, false, false, 0, 0, 0, false, false, false, .zero⟩
def LegSt.init : LegSt := ⟨0, 0, 0, 0, 0, 0, 0, 0, false, false⟩
def BalSt.init : BalSt := ⟨0, [0, 0, 0], [0, 0, 0], 0, [0, 0, 0], [0, 0, 0], 0, 0, [0, 0, 0], [0, 0, 0], false, false⟩
def ArmSt.init : ArmSt :=
  { sign := true, ovr := false, under := false, zrefSat := false, ilim := false, zhold := false, ovmRun := 0,
    ovmMark := 0, vbarRun := 0, energyHeld := false, shortHeld := false, tripHeld := false, count := 0, frac := 0, nq := 0, u := 0, i := 0, vbar := 0, earm := 0, np := 0,
    vChg := none, xch := 0, dissip := false, pdis := 0, ichRef := 0, chOut := 0, chRan := false, chopState := 0 }
def GridSt.init : GridSt :=
  { m := .init, sync := .init, det := .init, ride := .init, cur := .init, loop := .init, form := .init, fade := .init,
    isl := .init, harv := .init, fb := [.init, .init, .init, .init], bal := .init, legs := [.init, .init, .init], acted := .init }

/-- A latched command (R95, R96, R99): target mode and tag; `cancel` for a withdrawal. -/
structure ModeCmd where
  target : Nat
  tag : Nat
  cancel : Bool
  deriving DecidableEq, Repr

/-- The latched inputs of one cycle of a group (R64), byte-identical in every channel (R18). Signals: `none` marks an
invalid source (R140). The conditions of R98 that the hub holds are latched with them, and GI with its validity (R316); the live table in force counts by its number (R34). -/
structure GroupIn where
  k : Nat
  opening : Nat
  openTick : Nat
  outer : Bool
  degraded : Bool
  prim : List (Option V3)
  alt : List (Option V3)
  armI : List (Option Pu)
  sp : List Nat
  spValid : Bool
  goose : Nat
  gooseValid : Nat
  tables : Nat
  forced : Option Nat
  cmd : Option ModeCmd
  faultClear : Bool
  safetyOk : Bool
  triplexOk : Bool
  leadOk : Bool
  scan : Bool
  deriving DecidableEq, Repr

/-- A rank word (R189): 0 RANKED or 1 PARKED, and the slot, with the execution tick E of its emission (R190). -/
structure RankWord where
  e : Nat
  parked : Bool
  slot : Nat
  deriving DecidableEq, Repr

/-- The record of one brick in a tile's rank engine (R188 to R199, R204). `words` newest first; `ordered` 0 bypassed,
1 inserted, 2 fractional; `parkDue` why it is to be parked this cycle: 1 absent, 2 absent after a disputed cycle, 3 echo,
4 unavailable or unoccupied, 0 not. `volt` is the voltage used or last reported, `fresh` that of the last FRESH or FRESH_ECHO_BAD
cycle. A position of the directory without a slot has a record too: its outcome and its misses. -/
structure BrickSt where
  slot : Option Nat
  words : List RankWord
  admitting : Bool
  admitRun : Nat
  removed : Bool
  outcome : Nat
  miss : Nat
  disputed : Bool
  echoRun : Nat
  volt : Nat
  fresh : Option Nat
  ordered : Nat
  tLast : Nat
  resend : Bool
  parkDue : Nat
  deriving DecidableEq, Repr

/-- A brick that holds no slot. -/
def BrickSt.blank : BrickSt :=
  { slot := none, words := [], admitting := false, admitRun := 0, removed := false, outcome := 0, miss := 0,
    disputed := false, echoRun := 0, volt := 0, fresh := none, ordered := 0, tLast := 0, resend := false, parkDue := 0 }

/-- One valid copy of a brick's report, as far as the tile uses it (R191, R262): voltage, echo and the declaration of
unavailability, with the rest of the frame for the comparison of two copies (R192). -/
structure RepCopy where
  volt : Nat
  echo : Nat
  unavail : Bool
  other : Nat
  deriving DecidableEq, Repr

/-- One cycle's work of a tile in a channel: the stage that delivers next and the first whose effect is still to come,
numbered from Condition 0 to Emit 5 (6: Emit has assembled the frames; an effect may be taken before its stage is seen to
deliver, since results never depend on timing, R71); present bricks (index, voltage), the words to emit, the swap
candidates of the Rank stage, the broadcast the Schedule stage forms; the course time of the opening. -/
structure Job where
  k : Nat
  next : Nat
  did : Nat
  present : List (Nat × Nat)
  words : List (Nat × RankWord)
  cands : List (Nat × Nat)
  count : Nat
  frac : Nat
  bound : Nat
  nrank : Nat
  onLen : Nat
  sign : Bool
  blocked : Bool
  discharge : Bool
  e : Nat
  opening : Nat
  deriving DecidableEq, Repr

/-- Rank state of a tile in a channel, besides its bricks (R213, registers of R216); whether the last scheduled cycle orders every brick
blocked. -/
structure RankSt where
  bricks : List (Nat × BrickSt)
  nrank : Nat
  parked : Nat
  dropped : Bool
  stretched : Bool
  holes : Bool
  sorted : Bool
  bound : Nat
  onLen : Nat
  blocked : Bool
  deriving DecidableEq, Repr

/-- Result of the Grid and Arm stages of one cycle for the tiles of the group. -/
structure CycleOut where
  k : Nat
  m : ModeSt
  th : Nat
  thExec : Nat
  h : V4
  comp : V3
  compSat : Bool
  compMask : Nat
  deriving DecidableEq, Repr

/-- Presence sums of a tile at D_R (R169): number, sum and sum of squares of the reports, highest and lowest report. -/
structure TileSum where
  np : Nat
  sum : Nat
  sq : Nat
  hi : Nat
  lo : Nat
  deriving DecidableEq, Repr

/-- A cycle under computation in a channel: its inputs, the presence of each tile, how far the group part has run; the tiles whose
inputs were discarded (R77). -/
structure GCycle where
  inp : GroupIn
  sums : List (Nat × TileSum)
  condDone : Bool
  gridDone : Bool
  armDone : Bool
  arms : List (Nat × ArmSt)
  tables : GroupTables
  skip : List Nat
  deriving DecidableEq, Repr

/-- A group in a channel. -/
structure ChanGrp where
  ctl : GridSt
  cycles : List GCycle
  outs : List CycleOut
  arms : List (Nat × ArmSt)
  deriving DecidableEq, Repr

/-- A tile in a channel. -/
structure ChanTile where
  jobs : List Job
  rank : RankSt
  deriving DecidableEq, Repr

/-- The control state one channel die holds. -/
structure Chan where
  grps : List ChanGrp
  tiles : List ChanTile
  deriving DecidableEq, Repr

def RankSt.init : RankSt := ⟨[], 0, 0, false, false, false, false, 0, 0, true⟩
def ChanGrp.init : ChanGrp := ⟨.init, [], [], []⟩
def ChanTile.init : ChanTile := ⟨[], .init⟩
def Chan.init : Chan := ⟨List.replicate 4 .init, List.replicate 12 .init⟩

end Sys2Proof.Machine
end

