-- ==== Sys2Proof/Machine/Mem.lean ====
section
/-! DEFINITION. Byte memory as plain data: a list of cells in one canonical form, addresses strictly rising and no cell
equal to 0, which is what an address that is not listed reads as (log entry 6). Used for the working store (R431), the
image slots (R38) and nothing else. -/

namespace Sys2Proof.Machine

/-- A byte memory. -/
abbrev Mem := List Host.Cell

/-- The byte at an address; an unlisted address reads 0. -/
def Mem.read : Mem → Nat → BitVec 8
  | [], _ => 0#8
  | c :: m, a => if c.1 = a then c.2 else Mem.read m a

/-- Write one byte, keeping the canonical form. -/
def Mem.write : Mem → Nat → BitVec 8 → Mem
  | [], a, v => if v = 0#8 then [] else [(a, v)]
  | c :: m, a, v =>
    if a < c.1 then (if v = 0#8 then c :: m else (a, v) :: c :: m)
    else if a = c.1 then (if v = 0#8 then m else (a, v) :: m)
    else c :: Mem.write m a v

/-- Every cell lies above `lo` (a bound on the addresses), rising, none 0. -/
def Mem.above : Nat → Mem → Bool
  | _, [] => true
  | lo, c :: m => decide (lo ≤ c.1) && decide (c.2 ≠ 0#8) && Mem.above (c.1 + 1) m

/-- The canonical form. -/
def Mem.wf (m : Mem) : Bool := Mem.above 0 m

/-- Write consecutive bytes from an address. -/
def Mem.writeBytes : Mem → Nat → List (BitVec 8) → Mem
  | m, _, [] => m
  | m, a, b :: r => Mem.writeBytes (m.write a b) (a + 1) r

/-- Read n consecutive bytes. -/
def Mem.readBytes (m : Mem) (a : Nat) : Nat → List (BitVec 8)
  | 0 => []
  | n + 1 => m.read a :: Mem.readBytes m (a + 1) n

/-- Little-endian number of a byte list. -/
def leNat : List (BitVec 8) → Nat
  | [] => 0
  | b :: r => b.toNat + 256 * leNat r

/-- Little-endian number of n bytes at an address. -/
def Mem.readLe (m : Mem) (a n : Nat) : Nat := leNat (m.readBytes a n)

/-- The n little-endian bytes of a number. -/
def leBytes : Nat → Nat → List (BitVec 8)
  | 0, _ => []
  | n + 1, v => BitVec.ofNat 8 v :: leBytes n (v / 256)

/-- The cells of the first n bytes. -/
def Mem.take (m : Mem) (n : Nat) : Mem := m.filter fun c => decide (c.1 < n)

/-- One step of the reflected CRC-32C of R248, polynomial 0x1EDC6F41 (reflected 0x82F63B78). -/
def crcBit (c : Nat) : Nat := if c % 2 = 1 then (c / 2) ^^^ 0x82F63B78 else c / 2

/-- The CRC register after one byte. -/
def crcByte (c : Nat) (b : BitVec 8) : Nat :=
  let x := c ^^^ b.toNat
  crcBit (crcBit (crcBit (crcBit (crcBit (crcBit (crcBit (crcBit x)))))))

/-- The CRC register run over a byte list. -/
def crcRun : Nat → List (BitVec 8) → Nat
  | c, [] => c
  | c, b :: r => crcRun (crcByte c b) r

/-- CRC-32C of R248. -/
def crc32c (l : List (BitVec 8)) : Nat := (crcRun 0xFFFFFFFF l) ^^^ 0xFFFFFFFF

end Sys2Proof.Machine
end

