-- ==== Sys2Proof/Machine/Frame.lean ====
section
/-! DEFINITION. The decte frames a course carries (R247 to R267), their bytes, and the checks a receiver makes. Fields
are numbers taken modulo their width when bytes are formed. -/

namespace Sys2Proof.Machine

/-- A CYCLE broadcast (R252). -/
structure CycleFrame where
  group : Nat
  tile : Nat
  disch : Bool
  sign : Bool
  block : Bool
  e : Nat
  openNext : Nat
  tagNext : Nat
  cycleL : Nat
  bound : Nat
  nrank : Nat
  onLen : Nat
  deriving DecidableEq, Repr

/-- A frame, time mark or loop word that leaves the device. -/
inductive Frame where
  | cycle (f : CycleFrame)
  | rank (tile e : Nat) (entries : List (Nat × Nat))
  | block (tile : Nat)
  | safeBlock (seq course : Nat)
  | safeRelease (seq course : Nat)
  | pointReq (write : Bool) (tid brick index value : Nat)
  | discover (assign : Bool) (hops brick : Nat)
  | probe (tid brick : Nat)
  | timeMark (ct : Nat) (foot : Bool) (sub : Nat)
  | loopWord (exit : Bool) (hops : Nat)
  deriving DecidableEq, Repr

/-- Flag as a bit of given weight. -/
def wbit (b : Bool) (w : Nat) : Nat := if b then w else 0

/-- Append the CRC-32C, least significant byte first (R247). -/
def withCrc (l : List (BitVec 8)) : List (BitVec 8) := l ++ leBytes 4 (crc32c l)

/-- The bytes of a frame before its CRC. -/
def Frame.body : Frame → List (BitVec 8)
  | .cycle f =>
    [1, BitVec.ofNat 8 (f.group % 4 * 16 + f.tile % 16), BitVec.ofNat 8 (wbit f.disch 4 + wbit f.sign 2 + wbit f.block 1), 0] ++
    leBytes 3 f.e ++ [0] ++ leBytes 3 f.openNext ++ [0] ++ leBytes 2 f.tagNext ++ leBytes 2 f.cycleL ++
    leBytes 2 (f.bound % 0x1000) ++ leBytes 2 (f.nrank % 0x1000) ++ leBytes 2 f.onLen ++ [0, 0]
  | .rank tile e l =>
    [2, BitVec.ofNat 8 (tile % 16), BitVec.ofNat 8 l.length, 0] ++ leBytes 3 e ++ [0] ++
    l.flatMap fun p => leBytes 2 (p.1 % 0x2000) ++ leBytes 2 p.2
  | .block tile => [3, BitVec.ofNat 8 tile, 0, 0, 0, 0, 0, 0]
  | .safeBlock seq c => [0x11, 0] ++ leBytes 2 seq ++ [BitVec.ofNat 8 c, 0, 0, 0, 0, 0, 0, 0]
  | .safeRelease seq c => [0x12, 0] ++ leBytes 2 seq ++ [BitVec.ofNat 8 c, 0, 0, 0, 0, 0, 0, 0]
  | .pointReq w tid b i v =>
    [0x21, if w then 2 else 1, BitVec.ofNat 8 tid, 0] ++ leBytes 2 (b % 0x2000) ++ leBytes 2 (i % 0x1000) ++ leBytes 4 v
  | .discover a hops b => [0x22, if a then 2 else 1, BitVec.ofNat 8 hops, 0] ++ leBytes 2 b ++ [0, 0, 0, 0, 0, 0]
  | .probe tid b => [0x23, 0, BitVec.ofNat 8 tid, 0] ++ leBytes 2 b ++ [0, 0, 0, 0, 0, 0]
  | .timeMark ct foot sub => leBytes 6 ct ++ [BitVec.ofNat 8 (wbit foot 0x80 + sub % 10), 0, 0, 0, 0, 0]
  | .loopWord x h =>
    let v := 0x4C000000 + (if x then 0x800000 else 0x400000) + h % 0x80 * 0x100
    leBytes 4 v ++ leBytes 4 (0xFFFFFFFF - v)

/-- A frame the hub die originates, which is not voted and whose CRC the lane die checks before it sends it (R19). -/
def Frame.hub : Frame → Bool
  | .cycle _ | .rank _ _ _ | .block _ | .loopWord _ _ => false
  | .safeBlock _ _ | .safeRelease _ _ | .pointReq _ _ _ _ _ | .discover _ _ _ | .probe _ _ | .timeMark _ _ _ => true

/-- Place of a frame in the order of R250: 1 time marks, 2 safety frames, 3 BLOCK, 4 CYCLE, 5 RANK, 6 requests. -/
def Frame.cls : Frame → Nat
  | .timeMark _ _ _ | .loopWord _ _ => 1
  | .safeBlock _ _ | .safeRelease _ _ => 2
  | .block _ => 3
  | .cycle _ => 4
  | .rank _ _ _ => 5
  | .pointReq _ _ _ _ _ | .discover _ _ _ | .probe _ _ => 6

/-- A loop word as it arrives, least significant bit first (R241): its operation and HOPS, if its halves agree, the marker is right and OP is
ENTER or EXIT. -/
def loopCommand (w : Nat) : Option (Nat × Nat) :=
  let v := w % 0x100000000
  if w / 0x100000000 % 0x100000000 = 0xFFFFFFFF - v ∧ v / 0x1000000 = 0x4C ∧ (v / 0x400000 % 4 = 1 ∨ v / 0x400000 % 4 = 2) then
    some (v / 0x400000 % 4, v / 0x100 % 0x80)
  else none

/-- The bytes of a frame on the line, CRC included; a loop word carries its complement instead (R241). -/
def Frame.bytes (f : Frame) : List (BitVec 8) := match f with
  | .loopWord _ _ => f.body
  | _ => withCrc f.body

/-- Length a TYPE fixes, with the COUNT of a RANK frame (R247, R249); none for an unknown TYPE or a bad COUNT. -/
def frameLength (typ count : Nat) : Option Nat :=
  if typ = 1 then some 28 else if typ = 2 then (if 1 ≤ count ∧ count ≤ 125 then some (12 + 4 * count) else none)
  else if typ = 3 then some 12
  else if typ = 0x11 ∨ typ = 0x12 ∨ typ = 0x21 ∨ typ = 0x22 ∨ typ = 0x23 ∨ typ = 0x41 ∨ typ = 0x42 ∨ typ = 0x44 then some 16
  else if typ = 0x43 then some 24 else none

/-- What a receiver finds (R247, CM_FRM_x_ERR): a valid frame or the first way in which it is bad. -/
inductive Check where
  | ok | badType | cut | badCrc
  deriving DecidableEq, Repr

/-- Check a received frame; `violation` tells that a violation of R229 occurred in it. One that ends before its TYPE, or a RANK frame
before its COUNT, is cut short as well. -/
def checkFrame (l : List (BitVec 8)) (violation : Bool) : Check :=
  if l.isEmpty || (l.head? == some 2 && decide (l.length < 3)) then .cut else
  match frameLength ((l[0]?).getD 0).toNat ((l[2]?).getD 0).toNat with
  | none => .badType
  | some n =>
    if violation || decide (l.length < n) then .cut
    else if leNat ((l.take n).drop (n - 4)) = crc32c (l.take (n - 4)) then .ok else .badCrc

/-- n bytes of a received frame from offset a, as a little-endian number. -/
def fieldLe (l : List (BitVec 8)) (a n : Nat) : Nat := leNat ((l.drop a).take n)

/-- The reflected CRC-32C of a 16-byte time mark payload holds (R259). -/
def checkMark (l : List (BitVec 8)) : Bool := decide (l.length = 16) && decide (leNat (l.drop 12) = crc32c (l.take 12))

end Sys2Proof.Machine
end

