-- ==== Sys2Proof/Machine/UnitState.lean ====
section
/-! DEFINITION. The state of the units of the device besides their registers: the retained store, the mortar manager, the
fault collector, the safety block, the host contexts, the lanes and the courses. A register's fields stand in the bank;
what stands here is the state the rules give a unit that no register shows. Every tick is a tick of 2 ns since power. -/

namespace Sys2Proof.Machine

/-- Pins and supplies as the outside drives them: power, RESET_N with the tick it fell, the straps, PERST_A_N and
PERST_B_N, SEAL[11:0]; `errSince` the tick ERR_N was driven low (R388). -/
structure Pins where
  powered : Bool
  resetN : Bool
  fellAt : Nat
  kilnEn : Bool
  refSel : Bool
  devid : Nat
  grade : Nat
  perstA : Bool
  perstB : Bool
  sealPins : Nat
  vio33Low : Bool
  errSince : Nat
  deriving DecidableEq, Repr

/-- Time: ticks since power was first applied, device time in ticks, and the phase of the time base in 1/128 tick (R330). -/
structure Clock where
  ticks : Nat
  dev : Nat
  phase : Int
  deriving DecidableEq, Repr

/-- A key ring entry (R27): the public key, x times 2^384 plus y, and the revoked flag. -/
structure KeyEntry where
  key : Nat
  revoked : Bool
  deriving DecidableEq, Repr

/-- A settings record (R41): words 0 to 7; `bad` tells that a word of it has an uncorrectable error (R43). -/
structure JRec where
  typ : Nat
  seq : Nat
  off : Nat
  mask : Nat
  val : Nat
  img : Nat
  crc : Nat
  commit : Nat
  bad : Bool
  deriving DecidableEq, Repr

/-- Word 6 of a settings record: CRC-32C over words 0 to 5 (R41). -/
def JRec.crcOf (r : JRec) : Nat := crc32c ([r.typ, r.seq, r.off, r.mask, r.val, r.img].flatMap (leBytes 4))

/-- The commit word of a settings record (R41). -/
def commitWord : Nat := 0xC0A75E7D

/-- A record as it is started: words 0 to 6 written, the commit word not yet (R41). -/
def JRec.start (seq off mask val img : Nat) : JRec :=
  let r : JRec := { typ := 1, seq := seq % 0x100000000, off := off, mask := mask, val := val, img := img, crc := 0, commit := 0, bad := false }
  { r with crc := r.crcOf }

/-- Its commit word is written (R41). -/
def JRec.commits (r : JRec) : JRec := { r with commit := commitWord }

/-- Whether a record has a valid CRC and commit word (R43). -/
def JRec.committed (r : JRec) : Bool := r.crc == r.crcOf && r.commit == commitWord

/-- A journal half (R42). -/
structure JHalf where
  gen : Nat
  committed : Bool
  recs : List JRec
  deriving DecidableEq, Repr

/-- An image slot (R28): its bytes, whether a word of it is uncorrectable, whether the word of its IMAGE_ID is (R43), and, after a LOAD that
was cut off (R32), the free value that says what its verification finds (log entry 173).
STATE, REASON and SECVER are fields of MO_SLOT. -/
structure Slot where
  state : Nat
  reason : Nat
  secver : Nat
  bytes : Mem
  uncorr : Bool
  idBad : Bool
  cut : Option Nat
  deriving DecidableEq, Repr

def Slot.empty : Slot := ⟨0, 0, 0, [], false, false, none⟩

/-- What the slot's bytes say (log entry 5). -/
def Slot.body (s : Slot) : ImageBody := Config.imageBody s.bytes

/-- A table packet in the overlay (R34, R36): IMAGE_ID, section, groups addressed, those whose whole section it replaces (R33),
tables, length of the packet and of its section in bytes; `bad` tells that a word of it is uncorrectable. -/
structure Packet where
  imageId : Nat
  section_ : Nat
  groups : Nat
  whole : Nat
  tables : List TableSet
  points : Option PointCfg
  length : Nat
  secLen : Nat
  committed : Bool
  bad : Bool
  deriving DecidableEq, Repr

/-- An overlay half (R37). -/
structure OHalf where
  gen : Nat
  committed : Bool
  packets : List Packet
  deriving DecidableEq, Repr

/-- One copy of the device records (R38): key ring, security floor, active-slot pointer, start counters, lane and converter trim;
`bad` the records of this copy that hold an uncorrectable word (R39), 0 to 5 in that order. -/
structure DeviceRecords where
  keys : List (Option KeyEntry)
  floor : Nat
  active : Nat
  starts : Nat
  pinResets : Nat
  laneTrim : List (Nat × Nat)
  calTrim : List (Nat × Nat)
  bad : List Nat
  deriving DecidableEq, Repr

/-- A place of the retained store at which a read finds a wrong word (R38, R39): an image slot, the IMAGE_ID in the header of a
slot, a packet of an overlay half, a settings record of a journal half, a record of the log, a record of a copy of the device
records. -/
inductive StorePlace where
  | slot (n : Nat)
  | slotId (n : Nat)
  | packet (half i : Nat)
  | setting (half i : Nat)
  | log (i : Nat)
  | device (copy kind : Nat)
  deriving DecidableEq, Repr

/-- A wrong word that a read finds (R39): a single-bit error, which is corrected, or an uncorrectable one. -/
structure StoreErr where
  place : StorePlace
  uncorr : Bool
  deriving DecidableEq, Repr

/-- A record of the retained log (R390). `ok` tells that its CRC holds. -/
structure LogRec where
  seq : Nat
  source : Nat
  typ : Nat
  flags : Nat
  sec : Nat
  ns : Nat
  ct : Nat
  reaction : Nat
  triplex : Nat
  modes : Nat
  detail : Nat
  count : Nat
  imageId : Nat
  snapshot : List Nat
  ok : Bool
  deriving DecidableEq, Repr

/-- The first-fault record (R389). -/
structure FirstRec where
  valid : Bool
  sameTick : Nat
  source : Nat
  seq : Nat
  deriving DecidableEq, Repr

/-- What the retained store keeps over power loss and reset (R38, R45): slots, overlay, journal, log, and two copies of the
device records. -/
structure Store where
  slots : List Slot
  recs : List DeviceRecords
  overlay : List OHalf
  ohalf : Nat
  halves : List JHalf
  half : Nat
  jseq : Nat
  log : List (Nat × LogRec)
  head : Nat
  lseq : Nat
  first : FirstRec
  degMinutes : Nat
  deriving DecidableEq, Repr

def FirstRec.none' : FirstRec := ⟨false, 0, 0, 0⟩

/-- The device records as from manufacture: entry 0 of the ring holds the provisioning key (R27). -/
def DeviceRecords.new : DeviceRecords :=
  { keys := [some ⟨Config.provisioningKey, false⟩, none, none, none], floor := 0, active := 0, starts := 0, pinResets := 0,
    laneTrim := [], calTrim := [], bad := [] }

/-- A store as from manufacture: no image, nothing recorded. -/
def Store.new : Store :=
  { slots := [.empty, .empty], recs := [.new, .new],
    overlay := [⟨0, true, []⟩, ⟨0, false, []⟩], ohalf := 0, halves := [⟨0, true, []⟩, ⟨0, false, []⟩], half := 0, jseq := 0,
    log := [], head := 0, lseq := 0, first := .none', degMinutes := 0 }

/-- The copy of the device records a read of record kind k takes: the first that is not bad (R39). -/
def Store.copyOf (s : Store) (k : Nat) : DeviceRecords :=
  match s.recs.find? fun r => !r.bad.contains k with
  | some r => r
  | none => s.recs.headD .new

/-- The device records as they read (R39). -/
def Store.keys (s : Store) : List (Option KeyEntry) := (s.copyOf 0).keys
def Store.floor (s : Store) : Nat := (s.copyOf 1).floor
def Store.active (s : Store) : Nat := (s.copyOf 2).active
def Store.starts (s : Store) : Nat := (s.copyOf 3).starts
def Store.pinResets (s : Store) : Nat := (s.copyOf 3).pinResets
def Store.laneTrim (s : Store) : List (Nat × Nat) := (s.copyOf 4).laneTrim
def Store.calTrim (s : Store) : List (Nat × Nat) := (s.copyOf 5).calTrim

/-- A record of the device records is written, in both copies; it is good then. -/
def Store.write (k : Nat) (f : DeviceRecords → DeviceRecords) (s : Store) : Store :=
  { s with recs := s.recs.map fun r => { f r with bad := (f r).bad.filter (· != k) } }

/-- The log as it is restored (R391): the newest record is the valid one with the highest SEQ, where logging goes on. -/
def Store.relogged (s : Store) : Store :=
  match (s.log.filter (·.2.ok)).foldl (fun m r => if m.all fun x => decide (x.2.seq < r.2.seq) then some r else m) (none : Option (Nat × LogRec)) with
  | some r => { s with head := r.1, lseq := r.2.seq }
  | none => s

/-- The counters of starts after one more start (GL_START). -/
def Store.counted (pin : Bool) (s : Store) : Store :=
  s.write 3 fun r => { r with starts := satInc 0xFFFF s.starts, pinResets := if pin then satInc 0xFF s.pinResets else s.pinResets }

/-- A copy of a record with an uncorrectable word is rebuilt from the other copy (R39). -/
def Store.rebuilt (s : Store) : Store :=
  (List.range 6).foldl (fun s k =>
    if (s.recs.filter fun r => r.bad.contains k).length = 1 then
      s.write k fun r => match k with
        | 0 => { r with keys := s.keys }
        | 1 => { r with floor := s.floor }
        | 2 => { r with active := s.active }
        | 3 => { r with starts := s.starts, pinResets := s.pinResets }
        | 4 => { r with laneTrim := s.laneTrim }
        | _ => { r with calTrim := s.calTrim }
    else s) s

/-- Whether both copies of a record have failed (R39). -/
def Store.lost (s : Store) : Bool := (List.range 6).any fun k => s.recs.all fun r => r.bad.contains k

/-- An uncorrectable word stands at a place of the store (R39, R43). -/
def Store.spoil (s : Store) : StorePlace → Store
  | .slot n => { s with slots := s.slots.modify n fun x => { x with uncorr := true } }
  | .slotId n => { s with slots := s.slots.modify n fun x => { x with uncorr := true, idBad := true } }
  | .packet h i => { s with overlay := s.overlay.modify h fun o => { o with packets := o.packets.modify i fun p => { p with bad := true } } }
  | .setting h i => { s with halves := s.halves.modify h fun j => { j with recs := j.recs.modify i fun r => { r with bad := true } } }
  | .log i => { s with log := s.log.map fun e => if e.1 = i then (i, { e.2 with ok := false }) else e }
  | .device c k => { s with recs := s.recs.modify c fun r => { r with bad := k :: r.bad.filter (· != k) } }

/-- A command of the mortar manager in progress (R58): its code, slot, and the key record KEYREC reads. -/
structure MoRun where
  code : Nat
  slot : Nat
  key : Option KeyRecord
  deriving DecidableEq, Repr

/-- A live exchange in progress (R33 to R37): the packet, its bytes, and, per addressed group still waiting, the course time of
the opening that takes it. -/
structure MoLive where
  packet : Packet
  bytes : Mem
  waiting : List (Nat × Nat)
  deriving DecidableEq, Repr

/-- The mortar manager: command and exchange in progress, since when kiln waits for its code (R55), whether kiln is locked out,
whether the device started with KILN_EN high (R56), the image built with its IMAGE_ID, the outcome of the power-up check, and
the start of the scrubber's present pass (R40). -/
structure MoSt where
  run : Option MoRun
  live : Option MoLive
  kilnSince : Nat
  lockedOut : Bool
  kilnStart : Bool
  image : Option ImageBody
  imageId : Nat
  checkOk : Bool
  checkDone : Bool
  scrubAt : Nat
  deriving DecidableEq, Repr

def MoSt.init : MoSt := ⟨none, none, 0, false, false, none, 0, false, false, 0⟩

/-- A field injection (R393). -/
structure Inj where
  target : Nat
  addr : Nat
  tile : Nat
  real : Bool
  two : Bool
  since : Nat
  armed : Bool
  deriving DecidableEq, Repr

/-- A raise whose reaction is still to be taken in this tick (R380, R381): source, detail word, the override of 0x013
(R379), and, for an injected raise, whether its MODE is REAL (R394). -/
structure Due where
  n : Nat
  detail : Nat
  safe : Bool
  inj : Option Bool
  deriving DecidableEq, Repr

/-- The fault collector (R375 to R396): sources raised in this tick, queued records, injection, corrected injections of the targets 0 to 3,
which no register shows (R393; log entry 64), the tick of the first fault (R389), the sources whose latch only injected raises have set
(R394), per latched source the reaction it took (R377), snapshot lists, the record image of each context's window (R391), and ERR_N. -/
structure FcSt where
  due : List Due
  queue : List LogRec
  inj : Option Inj
  corrected : List Nat
  firstAt : Option Nat
  injected : List Nat
  taken : List (Nat × Nat)
  snaps : List (Nat × Nat × List Nat)
  win : List LogRec
  errLow : Bool
  deriving DecidableEq, Repr

def LogRec.blank : LogRec :=
  { seq := 0, source := 0, typ := 0, flags := 0, sec := 0, ns := 0, ct := 0, reaction := 0, triplex := 0, modes := 0,
    detail := 0, count := 0, imageId := 0, snapshot := [], ok := false }
def FcSt.init : FcSt := ⟨[], [], none, [0, 0, 0, 0], none, [], [], [], List.replicate 8 .blank, true⟩

/-- One off-pulse test of a hold output (R406): the output, the phase (0 pulse, 1 read-back) and its start. -/
structure HoldTest where
  output : Nat
  phase : Nat
  start : Nat
  deriving DecidableEq, Repr

/-- Safe block of a course besides SB_COURSE: next repetition, repetitions of SAFE_RELEASE left, tick of the last one,
further SEQs released, whether point STATE of its bricks is still to be read (R413), and the tick of the last trigger (R414). -/
structure SbCourseSt where
  nextAt : Nat
  left : Nat
  lastAt : Nat
  extra : List Nat
  ask : Bool
  trigAt : Option Nat
  deriving DecidableEq, Repr

def SbCourseSt.init : SbCourseSt := ⟨0, 0, 0, [], false, none⟩

/-- The safety block (R397 to R418). Levels of the pins after filtering stand in SB_STATUS; here the parameters in force,
since when automatic conditions are over, the overvoltage input, the tests and the repetitions; `checked` that the seal was
checked since the start (R400), `everReady` that the block has been ready since then (R47); the demands raised in the latest step that
raised one (R403). -/
structure SbSt where
  params : SafetyCfg
  ovEnd : Option Nat
  lossEnd : Option Nat
  ovRun : Nat
  ovInvalid : Option Nat
  test : Option HoldTest
  due : List Nat
  cmdTests : List Nat
  passed : List Bool
  degSince : Nat
  internal : Bool
  direct : Bool
  checked : Bool
  everReady : Bool
  stepAt : Nat
  stepMask : Nat
  courses : List (Nat × SbCourseSt)
  deriving DecidableEq, Repr

def SbSt.init : SbSt :=
  { params := .zero, ovEnd := none, lossEnd := none, ovRun := 0, ovInvalid := none, test := none, due := [0, 0],
    cmdTests := [], passed := [false, false], degSince := 0, internal := false, direct := false, checked := false, everReady := false, stepAt := 0,
    stepMask := 0, courses := [] }

/-- A base address register pair (R421): its first register, size in bytes, Prefetchable bit. -/
structure BarDesc where
  num : Nat
  size : Nat
  prefetch : Bool
  deriving DecidableEq, Repr

/-- Configuration space of a function (R419 to R421, R423): identification, Device Serial Number, BARs, and what the host sets of the
device's own requests: the Completion Timeout Value, Max Read Request Size and Max Payload Size as encoded. They begin at the values of the
PCI Express Base Specification (PRESUMED, log entry 147). -/
structure CfgSpace where
  vendor : Nat
  device : Nat
  revision : Nat
  classCode : Nat
  subVendor : Nat
  subsystem : Nat
  serial : Nat
  bars : List BarDesc
  timeout : Nat
  maxRead : Nat
  maxPayload : Nat
  deriving DecidableEq, Repr

/-- What function x presents (R420, R421): Subsystem ID 0xD000 + PORT × 0x40 + DEVID; one UID on all eight functions (R419). -/
def CfgSpace.init (x devid : Nat) : CfgSpace :=
  { vendor := 0x1F3A, device := 0x0C12, revision := 0xB0, classCode := 0x118000, subVendor := 0x1F3A,
    subsystem := 0xD000 + x / 4 * 0x40 + devid, serial := Config.deviceUid % 0x10000000000000000,
    bars := [⟨0, 0x2000000, true⟩, ⟨2, 0x8000000, true⟩, ⟨4, 0x4000, false⟩], timeout := 0, maxRead := 2, maxPayload := 0 }

/-- A host context besides its registers (R424 to R440): configuration space, with the bits the host sets (Memory Space Enable, Bus
Master Enable, D0), the uncorrectable errors AER has logged, the dwords of the MSI-X table that the host has written and the vectors whose
messages are held pending (R421), the latch of R433, the held low word of R434, latches of the other read rules. -/
structure CtxSt where
  cfg : CfgSpace
  mse : Bool
  bme : Bool
  d0 : Bool
  aer : Nat
  table : List (Nat × Nat)
  held : List Nat
  latch : Option (Nat × Nat)
  low : Option (Nat × Nat)
  nowLatch : List Nat
  tsqLatch : List (Nat × List Nat)
  evtLatch : List (Nat × List Nat)
  deriving DecidableEq, Repr

def CtxSt.init (x devid : Nat) : CtxSt := ⟨.init x devid, false, false, true, 0, [], [], none, none, [0, 0], [], []⟩

/-- Dword w of entry v of the MSI-X table (R421): message address, upper address, data, vector control, whose bit 0 masks the vector; every
vector is masked until the host writes it (log entry 10). -/
def CtxSt.entry (c : CtxSt) (v w : Nat) : Nat := tabD c.table (4 * v + w) (if w = 3 then 1 else 0)
def CtxSt.masked (c : CtxSt) (v : Nat) : Bool := testBit (c.entry v 3) 0

/-- A cached translation (R437): context, page number, bus address of the page, permissions, attributes (bit 0 No Snoop,
bit 1 Relaxed Ordering); `old` once an invalidation of it started. -/
structure TransEntry where
  ctx : Nat
  page : Nat
  bus : Nat
  rd : Bool
  wr : Bool
  attr : Nat
  old : Bool
  deriving DecidableEq, Repr

/-- A translation walk (R436): context, context address that needed it, direction, level (1 or 2), the tick of its read, the transfer
channels that began their translations with it, and whether the root or MODE was written since (R435). -/
structure PageWalk where
  ctx : Nat
  addr : Nat
  write : Bool
  level : Nat
  since : Nat
  waiters : List Nat
  old : Bool
  deriving DecidableEq, Repr

/-- The host side: contexts, translations, since when the Owner context is not OPEN, whether each port was ever in L0,
since when its link is away, and the transfer channel that has the port (R458). -/
structure HostSt where
  ctxs : List CtxSt
  cache : List TransEntry
  walks : List PageWalk
  ownerLost : Nat
  everUp : List Bool
  downAt : List (Option Nat)
  moving : List (Option Nat)
  deriving DecidableEq, Repr

def HostSt.init (devid : Nat) : HostSt := ⟨(List.range 8).map fun x => .init x devid, [], [], 0, [false, false], [none, none], [none, none]⟩

/-- A receiver on the bits of its line (R224, R226, R229): the value and length of the present run of line bits, the ones before a
run of zeros, the type field being taken (newest first), the type of the last comma, the line bits since its type field
(newest first), the run that stuffing counts and the data bits since, whether their number was already a violation. -/
structure LineRx where
  bit : Bool
  run : Nat
  ones : Nat
  typ : Option (List Bool)
  cur : Option Nat
  line : List Bool
  sbit : Bool
  srun : Nat
  data : Nat
  spaced : Bool
  deriving DecidableEq, Repr

def LineRx.init : LineRx := ⟨false, 0, 0, none, none, [], false, 0, 0, false⟩

/-- A frame that waits at a lane's transmitter, with its place in the order of R250 and the tick at which it came. -/
structure TxWait where
  cls : Nat
  since : Nat
  frame : Frame
  deriving DecidableEq, Repr

/-- A lane (course end) besides its registers (R228 to R242): good commas in CHECK, violations and clean commas of R229,
since when it is idle and whether it may leave by the fast exit (R235), end of a wake, start of a loop, whether it is confirmed, the
transmit stamps of the ENTER words that have not come back (R242), whether the end
is lost to the course manager, since when the receiver is ALIGNED, marks sent since one arrived from the other end, an EIDLE due, the
receiver's line, the frames that wait at the transmitter, when the frame, mark or comma in progress ends, in 0.2 ns (R250), and whether
that is a frame or mark after which nothing has left yet (R227). -/
structure LaneSt where
  rx : Nat
  good : Nat
  viol : Nat
  clean : Nat
  idleSince : Nat
  wasAligned : Bool
  wakeEnd : Option Nat
  loopAt : Nat
  confirmed : Bool
  loopSent : List Nat
  working : Bool
  alignedAt : Nat
  markMiss : Nat
  eidleDue : Bool
  line : LineRx
  txq : List TxWait
  txEnd : Nat
  ended : Bool
  deriving DecidableEq, Repr

def LaneSt.init : LaneSt :=
  { rx := 0, good := 0, viol := 0, clean := 0, idleSince := 0, wasAligned := false, wakeEnd := none, loopAt := 0, confirmed := false,
    loopSent := [], working := false, alignedAt := 0, markMiss := 0, eidleDue := false, line := .init, txq := [], txEnd := 0, ended := false }

/-- A directory entry besides CM_DIR: the contract points the hub holds (R293), two-way paths in 0.2 ns (R268), the
latencies last computed and written in 0.2 ns (R290) and those the brick is known to hold, the mirror (R294), consecutive admission failures (R287), the UIDs
read from the two ends, whether the present discovery confirmed it and whether ASSIGN is still to be sent, the phase of
its check (1 reads, 2 configuration, 3 measurement, 4 latency writes, 5 over) with the reason found, when it became
CHECKED, whether only ADMIT returns it (R286, R289), whether an ADMIT
ordered its admission, and whether a marked event came while its group was deblocked (R300). -/
structure DirSt where
  points : List (Nat × Nat)
  wH : Option Nat
  wF : Option Nat
  latH : Nat
  latF : Nat
  heldH : Option Nat
  heldF : Option Nat
  mirror : List (Nat × Nat)
  fails : Nat
  uidH : Option Nat
  uidF : Option Nat
  confirmed : Bool
  needAssign : Bool
  phase : Nat
  verdict : Nat
  checkedAt : Nat
  byAdmit : Bool
  ordered : Bool
  evDeb : Bool
  deriving DecidableEq, Repr

def DirSt.init : DirSt := ⟨[], none, none, 0, 0, none, none, [], 0, none, none, false, false, 0, 0, 0, false, false, false⟩

/-- Discovery of a course in progress (R281): phase 0 queries from the head end, 1 from the foot end, 2 and 3 the one
position queried once more from head and foot, 4 assignments, 5 all sent; the hop (in phase 4 the position) asked, the
round trip of the last reply, when the request left. -/
structure Disc where
  phase : Nat
  hop : Nat
  rtt : Nat
  sentAt : Nat
  deriving DecidableEq, Repr

/-- A PROBE in flight (R267, R268): end, position, TID, the tick it was handed to its lane, its transmit stamp at the ball in 0.2 ns of
course time. -/
structure Probe where
  e : Nat
  pos : Nat
  tid : Nat
  since : Nat
  stamp : Nat
  deriving DecidableEq, Repr

/-- A course besides its registers (R278 to R294): its discovery, whether changes of state are a fence's (R280), the
pending command and when it came, ring transits in 0.2 ns, the transaction window at either end with its end in time, which own CYCLE frames
crossed, E and TAG_NEXT of the CYCLE released, and when it was released or its deadline missed (R251), measurement under way with its probes waiting, as (end,
position), and in flight, ends probed in this window, start of the last mirror round, spare course held
idle (R233). -/
structure CrsSt where
  disc : Option Disc
  quiet : Bool
  cmd : Option (Nat × Nat)
  cmdAt : Nat
  tA : Option Nat
  tD : Option Nat
  windowH : Bool
  windowF : Bool
  windowEnd : Nat
  crossH : Bool
  crossF : Bool
  cycleSent : Option (Nat × Nat)
  cycleAt : Nat
  missed : Bool
  measAt : Nat
  measuring : Bool
  probes : List (Nat × Nat)
  probing : List Probe
  probed : List Nat
  mirrorAt : Nat
  spareIdle : Bool
  deriving DecidableEq, Repr

def CrsSt.init : CrsSt :=
  { disc := none, quiet := false, cmd := none, cmdAt := 0, tA := none, tD := none,
    windowH := false, windowF := false, windowEnd := 0, crossH := false, crossF := false, cycleSent := none, cycleAt := 0, missed := false, measAt := 0, measuring := false,
    probes := [], probing := [], probed := [], mirrorAt := 0, spareIdle := false }

/-- A point transaction (R295, R296): class 0 discovery and measurement, 1 EVENTS read, 2 host, 3 mirror; context 8 is the course manager;
`rd` and `slot` the host read and the dword it serves; when and from which end (true: foot) it was sent, the end a reissue avoids, and the
tick before which a retry waits. -/
structure PtReq where
  cls : Nat
  ctx : Nat
  rd : Nat
  slot : Nat
  write : Bool
  brick : Nat
  index : Nat
  value : Nat
  tid : Nat
  sent : Option (Bool × Nat)
  avoid : Option Bool
  notBefore : Nat
  tries : Nat
  retries : Nat
  since : Nat
  deriving DecidableEq, Repr

/-- A point-window read awaiting its dwords (R292, R297); `dma` the transfer channel it serves (R454). -/
structure PtRead where
  num : Nat
  ctx : Nat
  dma : Option Nat
  addr : Nat
  vals : List (Option Nat)
  since : Nat
  deriving DecidableEq, Repr

/-- Report copies of the present opening held for a brick position, head-end and foot-end (R299). -/
structure Copies where
  h : Option RepCopy
  f : Option RepCopy
  safe : Option Bool
  deriving DecidableEq, Repr

/-- The course manager: lanes by 2c + end, courses, directory by brick number, transactions, report copies, the changes
of the order that wait for a D_R (R288) as (tile, kind, brick index): 0 removal, 1 admission, 2 failed admission; per lane die whether it
failed, came up, and whether the next frame the hub gives it fails the check of R19. -/
structure CmSt where
  lanes : List (Nat × LaneSt)
  crs : List (Nat × CrsSt)
  dir : List (Nat × DirSt)
  reqs : List PtReq
  reads : List PtRead
  copies : List (Nat × Copies)
  ops : List (Nat × Nat × Nat)
  nextRead : Nat
  nextTid : Nat
  lastCtx : Nat
  dieBad : List Bool
  dieUp : List Bool
  hubBad : List Bool
  deriving DecidableEq, Repr

def CmSt.init : CmSt := ⟨[], [], [], [], [], [], [], 0, 0, 0, [false, false], [false, false], [false, false]⟩

/-- An accepted ASDU (R305 to R308, R310): acceptance and sample time in 2^-16 ns, smpCnt, port, whether it is usable (synchronised
where SYNC_REQ asks for it), the values with their usability, and the runs of equal usable values up to it. -/
structure SvSample where
  accepted : Nat
  time : Int
  cnt : Nat
  port : Nat
  usable : Bool
  vals : List (Int × Nat × Bool)
  runs : List Nat
  deriving DecidableEq, Repr

/-- A sampled-value subscription at work: the samples of the last second (newest first, the one before the newest in any case), from
which tick on it is SILENT unless a usable ASDU comes (R312), the run of equal values per value, the last valid aligned value per group and value (key 16 g + v), present ALIGN per group
and value (code, valid, delivered), the stream-lost source raised. -/
structure SvSt where
  samples : List SvSample
  silentAt : Nat
  runs : List Nat
  lastVal : List Int
  lastGood : List (Nat × Int)
  aligned : List (Nat × Nat × Bool × Int)
  lost : Bool
  deriving DecidableEq, Repr

def SvSt.init : SvSt := ⟨[], 0, [], [], [], [], false⟩

/-- A GOOSE subscription at work (R314, R315). -/
structure GoSt where
  stNum : Option Nat
  sqNum : Nat
  deadline : Nat
  lost : Bool
  deriving DecidableEq, Repr

def GoSt.init : GoSt := ⟨none, 0, 0, true⟩

/-- A publication at work (R318): values at the last evaluation, numbers, next transmission and interval in ticks. -/
structure PubSt where
  last : List Nat
  stNum : Nat
  sqNum : Nat
  nextAt : Nat
  interval : Nat
  deriving DecidableEq, Repr

def PubSt.init : PubSt := ⟨[], 1, 0, 0, 0⟩

/-- A local converter at work: whether a run goes on and its trigger's tick, the entries of it that have delivered (R320), end of a measuring step, runs of equal codes per entry, a calibration step (step,
gain, expected code), pending OFS and GCORR per gain, the pair that takes effect later, outputs of the ring, outputs
still to be marked, the LM_CONT value in force and the one awaiting its edge; the tick of the last change of LM_CONT and the outputs formed since (R325). -/
structure LmSt where
  running : Bool
  runAt : Nat
  done : Nat
  due : Option Nat
  eqRuns : List Nat
  lastCodes : List Int
  cal : Option (Nat × Nat × Int)
  pendOfs : Option (Nat × Int)
  pendGc : Option (Nat × Nat)
  inForce : List (Int × Nat)
  ringN : Nat
  mark : Nat
  contNow : Nat
  contNext : Option (Nat × Nat)
  trigAt : Nat
  contAt : Nat
  contK : Nat
  deriving DecidableEq, Repr

def LmSt.init : LmSt :=
  { running := false, runAt := 0, done := 0, due := none, eqRuns := [], lastCodes := [], cal := none, pendOfs := none, pendGc := none,
    inForce := [(0, 0x8000), (0, 0x8000), (0, 0x8000), (0, 0x8000)], ringN := 0, mark := 0, contNow := 0, contNext := none, trigAt := 0, contAt := 0,
    contK := 0 }

/-- The intake: subscriptions, GOOSE inputs GI and validity with what they were before the tick of their last change, publications,
converters. -/
structure SiSt where
  svs : List (Nat × SvSt)
  gos : List (Nat × GoSt)
  gi : Nat
  giValid : Nat
  giAt : Nat
  giWas : Nat × Nat
  pubs : List (Nat × PubSt)
  lms : List LmSt
  streams : StreamsCfg
  deriving DecidableEq, Repr

def SiSt.init : SiSt := ⟨[], [], 0, 0, 0, (0, 0), [], List.replicate 4 .init, .empty⟩

/-- A stamp queue entry or edge stamp: device time in 2^-16 ns, and its labels. -/
structure Stamp where
  time : Nat
  tx : Bool
  typ : Nat
  seqId : Nat
  deriving DecidableEq, Repr

/-- A PTP port at work (R334 to R337, R346): queue, last sequence number per messageType, path delays in 1/16 ns newest first; the requests
still to be answered (messageType of the answer, sequenceId, stamp of the request); per messageType the tick of its last message sent;
the ticks of the last Announce and of the last Sync from the master. -/
structure PtpSt where
  queue : List Stamp
  seqs : List (Nat × Nat)
  delays : List Int
  asked : List (Nat × Nat × Nat)
  sentAt : List (Nat × Nat)
  annAt : Nat
  syncAt : Nat
  deriving DecidableEq, Repr

def PtpSt.init : PtpSt := ⟨[], [], [], [], [], 0, 0⟩

/-- An event input at work (R347, R348): queue, last two rising stamps, filtered level. -/
structure EvtSt where
  queue : List Stamp
  rises : List Nat
  deriving DecidableEq, Repr

def EvtSt.init : EvtSt := ⟨[], []⟩

/-- A timed output at work (R350): the T_LO written, the pending command (course time, sub-tick, level). -/
structure TioSt where
  tlo : Nat
  pending : Option (Nat × Nat × Bool)
  level : Bool
  deriving DecidableEq, Repr

def TioSt.init : TioSt := ⟨0, none, false⟩

/-- The time base (R328 to R351): the frequency asked for and when the last frequency and phase steps were; the remainder of
a step and SLEW_LEFT, both in 1/64 ns, with the rate of the slew in ns/s; the servo's run of good offsets, whether it was
LOCKED since power-up, when it left LOCKED, since when it is in HOLDOVER; values of FREQ in LOCKED with the tick from which
each held, newest first; ports, event inputs, outputs; the spans of seconds that have had their PPS edge, the latest first, when it rose, PPS_OUT's level; the latest steps of device
time, newest first: tick, whole ticks, STEPS before (R345, R347). -/
structure TbSt where
  freqWant : Int
  freqAt : Nat
  phaseAt : Nat
  stepPhase : Int
  slew : Int
  slewRate : Nat
  lockRun : Nat
  everLocked : Bool
  everReady : Bool
  lockEnd : Nat
  holdAt : Nat
  freqHist : List (Nat × Int)
  ports : List PtpSt
  evts : List EvtSt
  tios : List TioSt
  ppsSeen : List (Nat × Nat)
  ppsAt : Nat
  ppsHigh : Bool
  steps : List (Nat × Int × Nat)
  cfg : TimeCfg
  deriving DecidableEq, Repr

def TbSt.init : TbSt :=
  { freqWant := 0, freqAt := 0, phaseAt := 0, stepPhase := 0, slew := 0, slewRate := 0, lockRun := 0, everLocked := false,
    everReady := false, lockEnd := 0, holdAt := 0, freqHist := [],
    ports := List.replicate 4 .init, evts := List.replicate 16 .init, tios := List.replicate 8 .init, ppsSeen := [],
    ppsAt := 0, ppsHigh := false, steps := [], cfg := .default }

/-- A frame set at the voters (R354): channel, cycle, input digest, frames, and when it completed. -/
structure FrameSet where
  ch : Nat
  k : Nat
  digest : Nat
  frames : List (Nat × Frame)
  deriving DecidableEq, Repr

/-- The voters of one tile: the cycle at vote, digests and frame sets present, the released set, whether digests bar a release
(R353), whether the cut-off is over; per channel the run of late cycles, whether it delivered in this heartbeat period
(R361), whether its next slack begins a window (R78). -/
structure VoteSt where
  k : Nat
  digests : List (Nat × Nat)
  sets : List FrameSet
  released : Option FrameSet
  barred : Bool
  closed : Bool
  lateRuns : List Nat
  delivered : List Bool
  fresh : List Bool
  deriving DecidableEq, Repr

def VoteSt.init : VoteSt := ⟨0, [], [], none, false, true, [0, 0, 0], [true, true, true], [true, true, true]⟩

/-- A resynchronisation (R366 to R370): channel, start, whether REPAIR is over, tiles still to copy, shadow runs of the
groups as (group, cycles, digests). -/
structure Resync where
  ch : Nat
  start : Nat
  selfTested : Bool
  donor : Option Nat
  left : List Nat
  copyAt : Nat
  shadow : List (Nat × Nat × Nat)
  deriving DecidableEq, Repr

/-- The triplex supervision (R352 to R374): votes per tile, heartbeats (the channels that sent one this period, arrived ones and
consecutive misses, per ordered pair and path; the levels of HB_A, HB_B and HB_C), resynchronisation, simplex timer, proof run, per channel
the fault that its last frame set showed (0: none). -/
structure TpSt where
  votes : List (Nat × VoteSt)
  hbSeen : List Bool
  hbMiss : List Nat
  hbSent : List Bool
  hbSeq : List Nat
  period : Nat
  resync : Option Resync
  simplexAt : Nat
  simplexDone : Bool
  proofAt : Nat
  proofStart : Option Nat
  everReady : Bool
  started : Bool
  delivered : List Bool
  upsets : List Nat
  hbPin : List Bool
  deriving DecidableEq, Repr

def TpSt.init : TpSt :=
  { votes := [], hbSeen := List.replicate 12 false, hbMiss := List.replicate 12 0, hbSent := [false, false, false], hbSeq := [0, 0, 0], period := 0, resync := none,
    simplexAt := 0, simplexDone := false, proofAt := 0, proofStart := none, everReady := false, started := false, delivered := [true, true, true], upsets := [0, 0, 0], hbPin := [false, false, false] }

/-- A read that no longer serves its channel and whose completion will be discarded (R429, R459): 0 of source data, 1 a flush, 2 a fetch;
its bytes, when it was issued, and its context. -/
structure Late where
  kind : Nat
  len : Nat
  since : Nat
  ctx : Nat
  deriving DecidableEq, Repr

/-- A transfer channel besides its registers (R443 to R461): bytes of the pass written, read data held in order, bytes
outstanding, the next element of a paced source (outputs since its start) or the next SEQ of a LOG source, whether a
flush or a fetch is awaited, whether the actions of the half point are done, how it stops (state, cause), whether `held` is what a
withdrawn source had delivered, the context address and direction whose walk is awaited, length and tick of each source read outstanding,
the reads that no longer serve it, bytes of the burst, the tick of the flush or fetch. -/
structure DmaSt where
  held : List (BitVec 8)
  asked : Nat
  pos : Nat
  next : Nat
  flush : Bool
  fetch : Bool
  halfDone : Bool
  stopping : Option (Nat × Nat)
  stopAt : Nat
  snap : Bool
  walking : Option (Nat × Bool)
  sent : List (Nat × Nat)
  late : List Late
  burst : Nat
  since : Nat
  lastBus : Nat
  deriving DecidableEq, Repr

def DmaSt.init : DmaSt :=
  { held := [], asked := 0, pos := 0, next := 0, flush := false, fetch := false, halfDone := false, stopping := none, stopAt := 0,
    snap := false, walking := none, sent := [], late := [], burst := 0, since := 0, lastBus := 0 }

/-- A bound set-point source (R136, R137): the raw value latched at the last D_R in 1/65536 (an analogue source's), lost,
since when, run of valid openings, the intake value, whether it comes from LOSS_ACTION, whether its fault is raised. -/
structure SpSt where
  raw : Option Int
  lost : Bool
  since : Nat
  run : Nat
  value : Pu
  fallback : Bool
  raised : Bool
  deriving DecidableEq, Repr

def SpSt.init : SpSt := ⟨none, false, 0, 0, 0, false, false⟩

/-- A group at the hub (R59 to R112): `spDue` and `cmdDue` hold what the opening now due takes when a later one has been accepted (R83,
R96), `span` the cycle that latched a command to a deblocked target and whose outcome is still to be shown (R87); built or not, its
parameters and tiles, the tick of the anchor, cycle k with its opening, set-points, commands, forced requests waiting and latched, GI and its
validity as latched, the cycles whose D_R, D_E and digest are over and whose outcome is shown, tables in force with the number of live tables taken, and coming; the state words of each channel at the D_E of the last cycle
that has a state digest (R357). -/
structure GroupHub where
  built : Bool
  cfg : GroupCfg
  mode : ModeCfg
  tiles : List (Nat × TileCfg)
  anchor : Nat
  k : Nat
  started : Bool
  opening : Nat
  openTick : Nat
  spPending : Option (Nat × Nat × List Nat)
  sp : List Nat
  spValid : Bool
  cmd : Option ModeCmd
  latched : Option ModeCmd
  forced : Option Nat
  forcedIn : Option Nat
  gi : Nat
  giValid : Nat
  lmK : Option Nat
  lmHeld : List (Nat × Nat × Bool)
  drK : Option Nat
  deK : Option Nat
  digK : Option Nat
  shownK : Option Nat
  scan : Bool
  switchEnd : Nat
  restored : Bool
  lastMode : Nat
  tables : GroupTables
  newTables : Option (Nat × Packet)
  tableNo : Nat
  digWords : List (List Nat)
  spSrc : List SpSt
  cmdTick : Nat
  spDue : Option (Nat × List Nat)
  cmdDue : Option ModeCmd
  span : Option Nat
  deriving DecidableEq, Repr

def GroupHub.init : GroupHub :=
  { built := false, cfg := .zero, mode := .zero, tiles := [], anchor := 0, k := 0, started := false, opening := 0, openTick := 0,
    spPending := none, sp := [], spValid := false, cmd := none, latched := none, forced := none, forcedIn := none, gi := 0, giValid := 0, lmK := none, lmHeld := [], drK := none, deK := none, digK := none, shownK := none,
    scan := false, switchEnd := 0, restored := false, lastMode := 0, tables := .standard, newTables := none, tableNo := 0, digWords := [], spSrc := [], cmdTick := 0,
    spDue := none, cmdDue := none, span := none }

/-- Adaptive supply (R79): per rail the consecutive windows above DOWN_ABOVE, whether the first command since EN rose is
still to come, the tick of the last command, VOUT_MODE as read (R471); and when a rail was last out of range (R469). -/
structure PmSt where
  windows : List Nat
  first : List Bool
  lastAt : List (Option Nat)
  mode : List (Option Nat)
  supplyAt : Nat
  deriving DecidableEq, Repr

def PmSt.init : PmSt := ⟨[0, 0, 0], [false, false, false], [none, none, none], [none, none, none], 0⟩

/-- A PTP message sent (R334 to R336): port, messageType, stamp at the balls, sequenceId, destination address, domain, what is added to
correctionField in 2^-16 ns, and the priorities and clockClass an Announce carries. -/
structure PtpMsg where
  port : Nat
  typ : Nat
  stamp : Nat
  seqId : Nat
  dst : Nat
  domain : Nat
  correction : Nat
  priority1 : Nat
  priority2 : Nat
  clockClass : Nat
  deriving DecidableEq, Repr

/-- What leaves the device during a command: completions of reads (value or values), MSI-X messages, frames that begin on a lane
(course, end), a number of IDLE commas each with its idle fill, other bus traffic of the device. `foot` is the lane's end. -/
inductive Out where
  | readData (ctx off value : Nat)
  | pointData (ctx addr : Nat) (values : List Nat)
  | msixData (ctx off value : Nat)
  | msix (ctx vector addr data : Nat)
  | frame (course : Nat) (foot : Bool) (f : Frame)
  | idle (course : Nat) (foot : Bool) (commas : Nat)
  | eidle (course : Nat) (foot : Bool)
  | train (course : Nat) (foot : Bool) (full : Bool)
  | heartbeat (channel seq flags : Nat)
  | edge (tio : Nat) (level : Bool) (sub : Nat)
  | goose (pub : Nat) (head : GoPub) (stNum sqNum tal : Nat) (test : Bool) (items : List Nat)
  | ptp (m : PtpMsg)
  | pmbus (rail command data : Nat)
  | hostWrite (ctx addr attr : Nat) (bytes : List (BitVec 8))
  | hostRead (ctx addr attr length : Nat)
  | pin (name level : Nat)
  deriving DecidableEq, Repr

end Sys2Proof.Machine
end

