-- ==== Sys2Proof/Syntax.lean ====
section
/-! DEFINITION. The commands: one constructor per row of spec/opcode_table.json, with its operands. -/

namespace Sys2Proof

open Sys2Proof.Machine

/-- The straps sampled with KILN_EN when RESET_N rises (R53, R328): REFCLK_SEL and DEVID. -/
structure Straps where
  refSel : Bool
  devid : BitVec 6
  deriving DecidableEq, Repr

/-- Header of a PTP message (R334): messageType and domain. -/
structure PtpHead where
  typ : BitVec 4
  domain : Byte
  deriving DecidableEq, Repr

/-- An index written to FC_LOG_IDX, and what the read of the record in the retained store finds (R39, R391). -/
structure LogIdx where
  index : BitVec 12
  errs : List StoreErr
  deriving DecidableEq, Repr

/-- What the reads of a segment find (R39, R459): whether its working store words are uncorrectable, and errors in the retained store. -/
structure SegReads where
  bad : Bool
  errs : List StoreErr
  deriving DecidableEq, Repr

/-- An access to BAR4 (R421, R422): dwords written at an offset, with whether every byte enable is set, or n dwords read. -/
inductive MsixAccess where
  | write (off : BitVec 14) (vals : List Word) (full : Bool)
  | read (off : BitVec 14) (n : Nat)
  deriving DecidableEq, Repr

/-- What the host has written into the control registers of a PCI function besides Memory Space Enable (R419, R423, R428): power state D0,
the Completion Timeout Value, the Max Read Request Size and the Max Payload Size. -/
structure FnControl where
  d0 : Bool
  timeout : BitVec 4
  maxRead : BitVec 3
  maxPayload : BitVec 3
  deriving DecidableEq, Repr

/-- A command. `dt` is the number of 2 ns ticks since the command before it; the commands of a cycle's fixed instants carry
none and act at their instant. Operands: x, y contexts; g group; t tile; ch channel; c course; e its end (0 head, 1 foot);
b brick number; m converter; n, k, p, port the index of the unit named; `ok` the outcome of what the command ends. -/
inductive Instr where
  /-- REGISTER_WRITE (R5): dwords at an offset of BAR0, with the byte enables of the first and the last. -/
  | registerWrite (dt : Nat) (x : Fin 8) (off : Nat) (vals : List Word) (first last : BitVec 4)
  /-- READ_CLEAR (R5): n dwords at an offset of BAR0. -/
  | readClear (dt : Nat) (x : Fin 8) (off n : Nat)
  /-- W1C_CLEAR (R6): ones at an offset; `again` are the bits an event sets in the same clock (R6). -/
  | w1cClear (dt : Nat) (x : Fin 8) (off : Nat) (mask again : Word)
  /-- SETTINGS_RECORD_COMMIT (R41). -/
  | settingsRecordCommit (dt : Nat)
  /-- JOURNAL_SNAPSHOT (R42). -/
  | journalSnapshot (dt : Nat)
  /-- POWER_UP (R45): straps and SEAL switches as sampled. -/
  | powerUp (dt : Nat) (kilnEn refSel : Bool) (devid : BitVec 6) (sealPins : BitVec 12)
  /-- POWER_LOSS (R44): whether VRET holds for the records under way. -/
  | powerLoss (dt : Nat) (held : Bool)
  /-- RESET_N_FALL (R51). -/
  | resetNFall (dt : Nat)
  /-- RESET_N_RISE (R53): straps and SEAL switches as sampled. -/
  | resetNRise (dt : Nat) (kilnEn : Bool) (straps : Straps) (sealPins : BitVec 12)
  /-- PERST_LOW (R50). -/
  | perstLow (dt : Nat) (p : Fin 2)
  /-- DEVICE_RECORDS_CHECKED (R39): what the reads of both copies find. -/
  | deviceRecordsChecked (dt : Nat) (errs : List StoreErr)
  /-- ACTIVE_SLOT_CHECK (R32): what the reads of the slots find. -/
  | activeSlotCheck (dt : Nat) (errs : List StoreErr)
  /-- STRUCTURE_BUILD (R61): what the reads of the overlay find. -/
  | structureBuild (dt : Nat) (errs : List StoreErr)
  /-- JOURNAL_REPLAY (R43): what the reads of the journal and of the header of the active slot find. -/
  | journalReplay (dt : Nat) (errs : List StoreErr)
  /-- FAULTS_READY (R377): what the reads of the log find. -/
  | faultsReady (dt : Nat) (errs : List StoreErr)
  /-- SAFETY_READY (R400). -/
  | safetyReady (dt : Nat)
  /-- GROUP_RESTORE (R46). -/
  | groupRestore (dt : Nat) (g : Fin 4)
  /-- KILN_CODE_WRITE (R57). -/
  | kilnCodeWrite (dt : Nat) (x : Fin 8) (code : Word)
  /-- KILN_TIMEOUT (R55). -/
  | kilnTimeout (dt : Nat)
  /-- LOAD (R29). -/
  | load (dt : Nat) (x : Fin 8) (slot : Byte)
  /-- LOAD_COMPLETE (R483): what the read-back finds. -/
  | loadComplete (dt : Nat) (errs : List StoreErr)
  /-- VERIFY (R28). -/
  | verify (dt : Nat) (x : Fin 8) (slot : Byte)
  /-- VERIFY_COMPLETE (R26): what the reads of the slot find. -/
  | verifyComplete (dt : Nat) (errs : List StoreErr)
  /-- ACTIVATE (R30). -/
  | activate (dt : Nat) (x : Fin 8) (slot : Byte)
  /-- ACTIVATE_COMPLETE (R30): what the reads of the slot find, and whether every write was read back well. -/
  | activateComplete (dt : Nat) (errs : List StoreErr) (ok : Bool)
  /-- ERASE (R28). -/
  | erase (dt : Nat) (x : Fin 8) (slot : Byte)
  /-- ERASE_COMPLETE (R483): what the read-back finds. -/
  | eraseComplete (dt : Nat) (errs : List StoreErr)
  /-- RAISE_FLOOR (R58). -/
  | raiseFloor (dt : Nat) (x : Fin 8)
  /-- RAISE_FLOOR_COMPLETE (R483): what the read-back finds. -/
  | raiseFloorComplete (dt : Nat) (errs : List StoreErr)
  /-- KEYREC (R27). -/
  | keyrec (dt : Nat) (x : Fin 8)
  /-- KEYREC_COMPLETE (R58): what the read-back finds. -/
  | keyrecComplete (dt : Nat) (errs : List StoreErr)
  /-- LIVE (R33): the group mask. -/
  | live (dt : Nat) (x : Fin 8) (mask : BitVec 4)
  /-- LIVE_VERIFY_COMPLETE (R34). -/
  | liveVerifyComplete (dt : Nat)
  /-- LIVE_OVERLAY_COMMIT (R34): what the read-back finds. -/
  | liveOverlayCommit (dt : Nat) (errs : List StoreErr)
  /-- SCRUB_PASS (R40): what the pass finds. -/
  | scrubPass (dt : Nat) (errs : List StoreErr)
  /-- CYCLE_OPENING (R61). -/
  | cycleOpening (g : Fin 4)
  /-- INTAKE_CUTOFF (R303). -/
  | intakeCutoff (g : Fin 4)
  /-- REPORT_DEADLINE (R64). -/
  | reportDeadline (g : Fin 4)
  /-- STAGE_COMPLETE (R67). -/
  | stageComplete (dt : Nat) (ch : Fin 3) (t : Fin 12) (stage : Fin 6)
  /-- FRAME_SET_COMPLETE (R73): `upset` distinguishes a set that differs from what the channel computed (0: none). -/
  | frameSetComplete (dt : Nat) (ch : Fin 3) (t : Fin 12) (upset : Nat)
  /-- VOTER_CUTOFF (R74). -/
  | voterCutoff (t : Fin 12)
  /-- EMISSION_DEADLINE (R97). -/
  | emissionDeadline (g : Fin 4)
  /-- SLACK_WINDOW_END (R79). -/
  | slackWindowEnd (dt : Nat) (g : Fin 4)
  /-- VADAPT_ENABLE (R79). -/
  | vadaptEnable (dt : Nat) (x : Fin 8) (up down : Byte)
  /-- PMBUS_WRITE_RESULT (R80, R471): the transaction on the rail of a channel ended with success or not; `mode` the byte a VOUT_MODE read
  returned. -/
  | pmbusWriteResult (dt : Nat) (ch : Fin 3) (ok : Bool) (mode : Option Byte)
  /-- SETPOINT_COMMIT (R82). -/
  | setpointCommit (dt : Nat) (x : Fin 8) (g : Fin 4) (tag : BitVec 16)
  /-- MODE_COMMAND (R95). -/
  | modeCommand (dt : Nat) (x : Fin 8) (g : Fin 4) (target : BitVec 4) (tag : BitVec 16)
  /-- DISCHARGE_TIMEOUT (R104). -/
  | dischargeTimeout (dt : Nat) (g : Fin 4)
  /-- LINE_TEST_HOLD_END (R105). -/
  | lineTestHoldEnd (dt : Nat) (g : Fin 4)
  /-- FADE_END (R109). -/
  | fadeEnd (dt : Nat) (g : Fin 4)
  /-- SYNC_LOCK (R119). -/
  | syncLock (dt : Nat) (g : Fin 4)
  /-- SYNC_UNLOCK (R119). -/
  | syncUnlock (dt : Nat) (g : Fin 4)
  /-- FLYWHEEL_CLEAR (R120). -/
  | flywheelClear (dt : Nat) (g : Fin 4)
  /-- FEEDBACK_HOLD_EXPIRY (R142). -/
  | feedbackHoldExpiry (dt : Nat) (g n : Fin 4)
  /-- FEEDBACK_PRIMARY_RETURN (R141). -/
  | feedbackPrimaryReturn (dt : Nat) (g n : Fin 4)
  /-- FEEDBACK_DISAGREEMENT (R141). -/
  | feedbackDisagreement (dt : Nat) (g n : Fin 4)
  /-- SETPOINT_SOURCE_LOSS (R137). -/
  | setpointSourceLoss (dt : Nat) (g : Fin 4)
  /-- SETPOINT_SOURCE_RETURN (R137). -/
  | setpointSourceReturn (dt : Nat) (g k : Fin 4)
  /-- RIDE_ENTRY (R145). -/
  | rideEntry (dt : Nat) (g : Fin 4)
  /-- RIDE_CURVE_TRIP (R152). -/
  | rideCurveTrip (dt : Nat) (g : Fin 4)
  /-- RIDE_TMAX (R152). -/
  | rideTmax (dt : Nat) (g : Fin 4)
  /-- RIDE_EXIT (R153). -/
  | rideExit (dt : Nat) (g : Fin 4)
  /-- ANGLE_SEAT (R155). -/
  | angleSeat (dt : Nat) (g : Fin 4)
  /-- ISLANDING_DETECTED (R160). -/
  | islandingDetected (dt : Nat) (g : Fin 4)
  /-- ISLANDING_PULSE (R159). -/
  | islandingPulse (dt : Nat) (g : Fin 4)
  /-- HARVEST_TRACK_STEP (R162). -/
  | harvestTrackStep (dt : Nat) (g : Fin 4)
  /-- HARVEST_SCAN (R164). -/
  | harvestScan (dt : Nat) (x : Fin 8) (g : Fin 4)
  /-- HARVEST_SCAN_PERIOD (R164). -/
  | harvestScanPeriod (dt : Nat) (g : Fin 4)
  /-- HARVEST_SCAN_END (R164). -/
  | harvestScanEnd (dt : Nat) (g : Fin 4)
  /-- ARM_ENERGY_FAULT (R170). -/
  | armEnergyFault (dt : Nat) (t : Fin 12)
  /-- OVERMODULATION_FAULT (R179). -/
  | overmodulationFault (dt : Nat) (t : Fin 12)
  /-- BRICK_ABSENT (R193). -/
  | brickAbsent (dt : Nat) (b : Fin 8192)
  /-- ECHO_PARK (R195). -/
  | echoPark (dt : Nat) (b : Fin 8192)
  /-- ADMISSION_FAIL (R198). -/
  | admissionFail (dt : Nat) (b : Fin 8192)
  /-- LPLL_LOCK (R220): the counts of the last four windows, oldest first. -/
  | lpllLock (dt : Nat) (p : Fin 8) (counts : List Nat)
  /-- LPLL_LOCK_LOSS (R221): the count of the window. -/
  | lpllLockLoss (dt : Nat) (p : Fin 8) (count : Nat)
  /-- SIGNAL_DETECTED (R233). -/
  | signalDetected (dt : Nat) (c : Fin 64) (e : Fin 2)
  /-- ELECTRICAL_IDLE_DETECTED (R233). -/
  | electricalIdleDetected (dt : Nat) (c : Fin 64) (e : Fin 2)
  /-- COMMA_RECEIVED (R228): the line bits since the receiver last took some, in order of arrival. -/
  | commaReceived (dt : Nat) (c : Fin 64) (e : Fin 2) (bits : List Bool)
  /-- TRANSMIT_EIDLE (R234). -/
  | transmitEidle (dt : Nat) (c : Fin 64) (e : Fin 2)
  /-- WAKE_SEQUENCE_END (R235). -/
  | wakeSequenceEnd (dt : Nat) (c : Fin 64) (e : Fin 2)
  /-- LOOP_NEAR_SERIAL (R238). -/
  | loopNearSerial (dt : Nat) (x : Fin 8) (c : Fin 64) (e : Fin 2)
  /-- LOOP_NEAR_PARALLEL (R238). -/
  | loopNearParallel (dt : Nat) (x : Fin 8) (c : Fin 64) (e : Fin 2)
  /-- LOOP_FAR_END (R238). -/
  | loopFarEnd (dt : Nat) (x : Fin 8) (c : Fin 64) (e : Fin 2) (hops : BitVec 7)
  /-- HOLD_IDLE (R238). -/
  | holdIdle (dt : Nat) (x : Fin 8) (c : Fin 64) (e : Fin 2)
  /-- LOOP_END (R240). -/
  | loopEnd (dt : Nat) (x : Fin 8) (c : Fin 64) (e : Fin 2)
  /-- LOOP_WORD_SEND (R239): the IDLE commas the lane sends before the word. -/
  | loopWordSend (dt : Nat) (c : Fin 64) (e : Fin 2) (commas : Nat)
  /-- LOOP_CONFIRM (R242): the loop word that arrives and the stamp the lane took, in 0.2 ns of course time. -/
  | loopConfirm (dt : Nat) (c : Fin 64) (e : Fin 2) (word : BitVec 64) (stamp : Nat)
  /-- LOOP_NO_ANSWER (R240). -/
  | loopNoAnswer (dt : Nat) (c : Fin 64) (e : Fin 2)
  /-- TIME_MARK_SEND (R259). -/
  | timeMarkSend (dt : Nat)
  /-- REPORT_RECEIVED (R191): the frame as the lane delivers it. -/
  | reportReceived (dt : Nat) (c : Fin 64) (e : Fin 2) (fr : RxFrame)
  /-- TIME_MARK_RECEIVED (R268): the frame and the stamp the lane took, in 0.2 ns of course time. -/
  | timeMarkReceived (dt : Nat) (c : Fin 64) (e : Fin 2) (fr : RxFrame) (stamp : Nat)
  /-- OWN_FRAME_RETURN (R249). -/
  | ownFrameReturn (dt : Nat) (c : Fin 64) (e : Fin 2) (fr : RxFrame)
  /-- POINT_REPLY_RECEIVED (R295). -/
  | pointReplyReceived (dt : Nat) (c : Fin 64) (e : Fin 2) (fr : RxFrame)
  /-- DISCOVER_REPLY_RECEIVED (R281). -/
  | discoverReplyReceived (dt : Nat) (c : Fin 64) (e : Fin 2) (fr : RxFrame)
  /-- DISCOVER_TIMEOUT (R281). -/
  | discoverTimeout (dt : Nat) (c : Fin 64)
  /-- PROBE_REPLY_RECEIVED (R268): the frame and the stamp the lane took, in 0.2 ns of course time. -/
  | probeReplyReceived (dt : Nat) (c : Fin 64) (e : Fin 2) (fr : RxFrame) (stamp : Nat)
  /-- TRANSACTION_WINDOW_OPEN (R251). -/
  | transactionWindowOpen (dt : Nat) (c : Fin 64)
  /-- COURSE_END_WORKING (R278). -/
  | courseEndWorking (dt : Nat) (c : Fin 64) (e : Fin 2)
  /-- COURSE_SPLIT (R278). -/
  | courseSplit (dt : Nat) (c : Fin 64)
  /-- DISCOVERY_COMPLETE (R279). -/
  | discoveryComplete (dt : Nat) (c : Fin 64)
  /-- BRICK_CHECK_COMPLETE (R283). -/
  | brickCheckComplete (dt : Nat) (b : Fin 8192)
  /-- ADMIT (R285). -/
  | admitCmd (dt : Nat) (x : Fin 8) (c : Fin 64) (pos : BitVec 7)
  /-- REMOVE (R286). -/
  | remove (dt : Nat) (x : Fin 8) (c : Fin 64) (pos : BitVec 7)
  /-- REDISCOVER (R289). -/
  | rediscover (dt : Nat) (x : Fin 8) (c : Fin 64)
  /-- MEASURE (R290). -/
  | measure (dt : Nat) (x : Fin 8) (c : Fin 64)
  /-- MEASURE_PERIOD (R290). -/
  | measurePeriod (dt : Nat) (c : Fin 64)
  /-- AUTOMATIC_ADMISSION (R285). -/
  | automaticAdmission (dt : Nat) (b : Fin 8192)
  /-- POINT_READ (R292): n points at a byte offset of BAR2. -/
  | pointRead (dt : Nat) (x : Fin 8) (addr n : Nat)
  /-- POINT_WRITE (R292): values at a byte offset of BAR2, and whether all byte enables are set. -/
  | pointWrite (dt : Nat) (x : Fin 8) (addr : Nat) (vals : List Word) (fullBytes : Bool)
  /-- POINT_TIMEOUT (R295). -/
  | pointTimeout (dt : Nat) (c : Fin 64) (tid : Byte)
  /-- POINT_LIMIT (R297). -/
  | pointLimit (dt : Nat)
  /-- MIRROR_REFRESH (R294). -/
  | mirrorRefresh (dt : Nat) (c : Fin 64)
  /-- SV_FRAME_RECEIVED (R304): `sub` is the stamp within the tick in 2^-16 ns. -/
  | svFrameReceived (dt : Nat) (port : Fin 4) (fr : SvFrame) (sub : Nat)
  /-- GOOSE_RECEIVED (R314). -/
  | gooseReceived (dt : Nat) (port : Fin 4) (m : GooseMsg)
  /-- PTP_MESSAGE_RECEIVED (R334): stamp in 2^-16 ns, and what IEEE 1588 makes of it (log entry 11). -/
  | ptpMessageReceived (dt : Nat) (p : Fin 4) (head : PtpHead) (seqId : BitVec 16) (stamp : Nat) (state : Option Nat) (twoStep : Bool) (delay : Option Int)
  /-- SV_SILENT (R312). -/
  | svSilent (dt : Nat) (k : Fin 32)
  /-- SV_LOST (R312). -/
  | svLost (dt : Nat) (k : Fin 32)
  /-- GOOSE_LOST (R315). -/
  | gooseLost (dt : Nat) (n : Fin 64)
  /-- GOOSE_PUB_EVALUATION (R318). -/
  | goosePubEvaluation (dt : Nat)
  /-- GOOSE_RETRANSMIT (R318). -/
  | gooseRetransmit (dt : Nat) (n : Fin 8)
  /-- LM_CYCLE_TRIGGER (R319). -/
  | lmCycleTrigger (dt : Nat) (m : Fin 4)
  /-- LM_RUN (R319). -/
  | lmRun (dt : Nat) (x : Fin 8) (m : Fin 4)
  /-- LM_RUN_COMPLETE (R320): raw conversions of each entry. -/
  | lmRunComplete (dt : Nat) (m : Fin 4) (raws : List (List Int))
  /-- LM_CONT_OUTPUT (R325): raw conversions of the window. -/
  | lmContOutput (dt : Nat) (m : Fin 4) (raws : List Int)
  /-- LM_CONT_WRITE (R325). -/
  | lmContWrite (dt : Nat) (x : Fin 8) (m : Fin 4) (v : Word)
  /-- LM_CAL_ZERO (R326). -/
  | lmCalZero (dt : Nat) (x : Fin 8) (m gain : Fin 4)
  /-- LM_CAL_FULL (R326): EXPECT is signed. -/
  | lmCalFull (dt : Nat) (x : Fin 8) (m gain : Fin 4) (expect : BitVec 16)
  /-- LM_CAL_STORE (R326). -/
  | lmCalStore (dt : Nat) (x : Fin 8) (m gain : Fin 4)
  /-- LM_CAL_FACTORY (R326). -/
  | lmCalFactory (dt : Nat) (x : Fin 8) (m gain : Fin 4)
  /-- LM_CAL_STEP_COMPLETE (R326): sum of the 4,096 raw codes. -/
  | lmCalStepComplete (dt : Nat) (m : Fin 4) (total : Int)
  /-- TB_PLL_LOCK (R328). -/
  | tbPllLock (dt : Nat) (counts : List Nat)
  /-- TB_PLL_LOCK_LOSS (R331). -/
  | tbPllLockLoss (dt : Nat) (count : Nat)
  /-- FREQ_STEP (R329). -/
  | freqStep (dt : Nat)
  /-- PHASE_STEP (R330). -/
  | phaseStep (dt : Nat)
  /-- PTP_OFFSET (R337): device minus master in 2^-16 ns. -/
  | ptpOffset (dt : Nat) (p : Fin 4) (theta : Int)
  /-- MASTER_LOST (R337). -/
  | masterLost (dt : Nat)
  /-- HOLDOVER_LIMIT (R340). -/
  | holdoverLimit (dt : Nat)
  /-- HOLDOVER_SV (R341). -/
  | holdoverSv (dt : Nat)
  /-- PTP_MESSAGE_SEND (R334): stamp in 2^-16 ns. -/
  | ptpMessageSend (dt : Nat) (p : Fin 4) (typ : BitVec 4) (stamp : Nat)
  /-- SET (R344). -/
  | setTime (dt : Nat) (x : Fin 8)
  /-- STEP (R344). -/
  | stepNs (dt : Nat) (x : Fin 8)
  /-- SLEW (R344). -/
  | slew (dt : Nat) (x : Fin 8)
  /-- FREQ (R344). -/
  | freq (dt : Nat) (x : Fin 8)
  /-- STAMP_QUEUE_READ (R346). -/
  | stampQueueRead (dt : Nat) (x : Fin 8) (p : Fin 4)
  /-- TIME_NOW_READ (R333). -/
  | timeNowRead (dt : Nat) (x : Fin 8)
  /-- EVT_EDGE (R347): age of the edge in 2^-16 ns when the filter accepts it. -/
  | evtEdge (dt : Nat) (n : Fin 16) (rising : Bool) (ago : Nat)
  /-- EVT_FIFO_READ (R347). -/
  | evtFifoRead (dt : Nat) (x : Fin 8) (n : Fin 16)
  /-- TIO_COMMAND (R350). -/
  | tioCommand (dt : Nat) (x n : Fin 8) (level : Bool) (sub : BitVec 7) (tHi : BitVec 16)
  /-- TIO_EDGE (R349). -/
  | tioEdge (dt : Nat) (n : Fin 8)
  /-- PPS_EDGE (R351). -/
  | ppsEdge (dt : Nat)
  /-- INPUT_DIGEST (R353): `upset` is a fault that shows in the digest, 0 none. -/
  | inputDigest (dt : Nat) (ch : Fin 3) (t : Fin 12) (upset : Nat)
  /-- STATE_DIGEST_COMPARE (R357): faults that show in the digests of A, B and C, 0 none. -/
  | stateDigestCompare (dt : Nat) (g : Fin 4) (uA uB uC : Nat)
  /-- HEARTBEAT_PERIOD (R358). -/
  | heartbeatPeriod (dt : Nat)
  /-- HEARTBEAT_RECEIVED (R358): receiver, sender, path (0 package link, 1 pin loop), sequence number. -/
  | heartbeatReceived (dt : Nat) (x y : Fin 3) (path : Fin 2) (seq : Nat)
  /-- HEARTBEAT_MISSING (R359): receiver, sender, path. -/
  | heartbeatMissing (dt : Nat) (x y : Fin 3) (path : Fin 2)
  /-- REPAIR_COMPLETE (R367). -/
  | repairComplete (dt : Nat) (pass : Bool)
  /-- TILE_COPY_COMPLETE (R368). -/
  | tileCopyComplete (dt : Nat)
  /-- TILE_COPY_TIMEOUT (R370). -/
  | tileCopyTimeout (dt : Nat)
  /-- SHADOW_COMPLETE (R369). -/
  | shadowComplete (dt : Nat)
  /-- RESYNC_TIMEOUT (R370). -/
  | resyncTimeout (dt : Nat)
  /-- SIMPLEX_LIMIT (R364). -/
  | simplexLimit (dt : Nat)
  /-- PROOF_PERIOD_EXPIRY (R372). -/
  | proofPeriodExpiry (dt : Nat)
  /-- PROOF_RUN_COMPLETE (R372): channels whose digests matched. -/
  | proofRunComplete (dt : Nat) (match' : BitVec 3)
  /-- RESYNC (R374). -/
  | resync (dt : Nat) (x : Fin 8) (ch : Fin 4)
  /-- FENCE (R374). -/
  | fence (dt : Nat) (x : Fin 8) (ch : Fin 4)
  /-- CLEAR (R366). -/
  | clear (dt : Nat) (x : Fin 8) (ch : Fin 4)
  /-- PROOF (R372). -/
  | proof (dt : Nat) (x : Fin 8) (ch : Fin 4)
  /-- TP_CFG_WRITE (R366). -/
  | tpCfgWrite (dt : Nat) (x : Fin 8) (v : Word)
  /-- FAULT_RAISE (R380): source, detail word, and whether a condition begins or has ended. -/
  | faultRaise (dt : Nat) (n : Fin 512) (detail : Word) (holds : Bool)
  /-- LOG_RECORD_COMMIT (R381). -/
  | logRecordCommit (dt : Nat)
  /-- FAULT_CLEAR (R385). -/
  | faultClear (dt : Nat) (x : Fin 8) (w : Fin 16) (mask : Word)
  /-- COLLECTOR_SELF_CHECK (R392). -/
  | collectorSelfCheck (dt corrected : Nat) (mismatch : Bool)
  /-- ERR_N_RELEASE (R388). -/
  | errNRelease (dt : Nat)
  /-- CLEAR_FIRST (R389). -/
  | clearFirst (dt : Nat) (x : Fin 8)
  /-- ERASE_LOG (R391). -/
  | eraseLog (dt : Nat) (x : Fin 8)
  /-- LOG_INDEX_WRITE (R391). -/
  | logIndexWrite (dt : Nat) (x : Fin 8) (idx : LogIdx)
  /-- INJECT (R393): target, tile, real, two bits. -/
  | inject (dt : Nat) (x : Fin 8) (target : BitVec 3) (tile : BitVec 4) (real : Bool) (two : Bool)
  /-- INJECTION_ARMED (R393). -/
  | injectionArmed (dt : Nat)
  /-- INJECTION_FIRE (R394): whether the syndrome equals the one set. -/
  | injectionFire (dt : Nat) (syndrome : Bool)
  /-- INJECTION_EXPIRED (R393). -/
  | injectionExpired (dt : Nat)
  /-- IRQ_PENDING_CLEAR (R440): FC_IRQ of context y or HC_IRQ_STAT, ones, bits an event sets in the same clock. -/
  | irqPendingClear (dt : Nat) (x y : Fin 8) (fault : Bool) (mask again : Word)
  /-- SBC_REQ_INPUT (R402). -/
  | sbcReqInput (dt : Nat) (low : Bool)
  /-- TRIP_INPUT (R410). -/
  | tripInput (dt : Nat) (n : Fin 4) (active : Bool)
  /-- SAFETY_OSCILLATOR_CHECK (R397): deviations in 0.1 %. -/
  | safetyOscillatorCheck (dt : Nat) (dev2 devTb : Int)
  /-- SEAL_CHECK (R400). -/
  | sealCheck (dt : Nat) (switches : BitVec 12)
  /-- OV_LOSS_TIMEOUT (R402). -/
  | ovLossTimeout (dt : Nat)
  /-- AUTOMATIC_DEMAND_END (R402). -/
  | automaticDemandEnd (dt : Nat)
  /-- APPLY (R402). -/
  | apply (dt : Nat) (x : Fin 8)
  /-- RESTORE (R403). -/
  | restore (dt : Nat) (x : Fin 8)
  /-- TEST (R406). -/
  | test (dt : Nat) (x : Fin 8)
  /-- SAFE_BLOCK (R411). -/
  | safeBlock (dt : Nat) (x : Fin 8)
  /-- RELEASE (R413). -/
  | release (dt : Nat) (x : Fin 8)
  /-- OFF_PULSE_TEST (R406): which output. -/
  | offPulseTest (dt : Nat) (second : Bool)
  /-- OFF_PULSE_END (R406). -/
  | offPulseEnd (dt : Nat) (low : Bool)
  /-- OFF_PULSE_VERIFY (R406). -/
  | offPulseVerify (dt : Nat) (high : Bool)
  /-- FEEDBACK_DISCREPANCY (R406): which output and its feedback level. -/
  | feedbackDiscrepancy (dt : Nat) (second level : Bool)
  /-- DEGRADED_MINUTE (R409). -/
  | degradedMinute (dt : Nat)
  /-- SAFE_BLOCK_REPEAT (R412). -/
  | safeBlockRepeat (dt : Nat) (c : Fin 64)
  /-- SAFE_RELEASE_REPEAT (R413): other SEQ values found latched. -/
  | safeReleaseRepeat (dt : Nat) (c : Fin 64)
  /-- RELEASE_TIMEOUT (R413). -/
  | releaseTimeout (dt : Nat) (c : Fin 64)
  /-- OPEN (R428): Memory Space Enable of the function, and what else its configuration space then holds. -/
  | open' (dt : Nat) (x : Fin 8) (mse : Bool) (ctl : FnControl)
  /-- CLOSE (R429). -/
  | close (dt : Nat) (x : Fin 8)
  /-- FUNCTION_LEVEL_RESET (R429). -/
  | functionLevelReset (dt : Nat) (x : Fin 8)
  /-- D3HOT_ENTRY (R429). -/
  | d3hotEntry (dt : Nat) (x : Fin 8)
  /-- LINK_LEAVES_L0 (R442). -/
  | linkLeavesL0 (dt : Nat) (p : Fin 2)
  /-- LINK_RECOVERY_TIMEOUT (R429). -/
  | linkRecoveryTimeout (dt : Nat) (p : Fin 2)
  /-- CONTEXT_CLOSED (R429). -/
  | contextClosed (dt : Nat) (x : Fin 8)
  /-- BUS_MASTER_DISABLE (R430). -/
  | busMasterDisable (dt : Nat) (x : Fin 8)
  /-- ROLE_WRITE (R426). -/
  | roleWrite (dt : Nat) (x y : Fin 8) (role : BitVec 2)
  /-- GIVE (R426). -/
  | give (dt : Nat) (x target : Fin 8)
  /-- CLAIM_OWNER (R426). -/
  | claimOwner (dt : Nat) (x : Fin 8)
  /-- MMU_CONFIG_WRITE (R435): MODE, or both words of the root. -/
  | mmuConfigWrite (dt : Nat) (x y : Fin 8) (root : Bool) (v : BitVec 64)
  /-- INV_ALL (R437). -/
  | invAll (dt : Nat) (x y : Fin 8)
  /-- INV_PAGE (R437). -/
  | invPage (dt : Nat) (x y : Fin 8)
  /-- INVALIDATION_COMPLETE (R437). -/
  | invalidationComplete (dt : Nat) (y : Fin 8)
  /-- TRANSLATION_WALK_COMPLETE (R436): table entry; status 0 value, 1 UR, CA or poison, 2 timed out. -/
  | translationWalkComplete (dt : Nat) (x : Fin 8) (entry : BitVec 64) (status : Nat)
  /-- PAIR_LOW_READ (R433). -/
  | pairLowRead (dt : Nat) (x : Fin 8) (off : Nat)
  /-- PAIR_HIGH_READ (R433). -/
  | pairHighRead (dt : Nat) (x : Fin 8) (off : Nat)
  /-- PAIR_LOW_WRITE (R434). -/
  | pairLowWrite (dt : Nat) (x : Fin 8) (off : Nat) (v : Word)
  /-- PAIR_HIGH_WRITE (R434). -/
  | pairHighWrite (dt : Nat) (x : Fin 8) (off : Nat) (v : Word)
  /-- CLAIM (R443). -/
  | claim (dt : Nat) (x : Fin 8) (n : Fin 32)
  /-- RELEASE_CHANNEL (R462). -/
  | releaseChannel (dt : Nat) (x : Fin 8) (n : Fin 32)
  /-- ARM (R449). -/
  | arm (dt : Nat) (x : Fin 8) (n : Fin 32)
  /-- PAUSE (R459). -/
  | pause (dt : Nat) (x : Fin 8) (n : Fin 32)
  /-- RESUME (R460). -/
  | resume (dt : Nat) (x : Fin 8) (n : Fin 32)
  /-- ABORT (R459). -/
  | abort (dt : Nat) (x : Fin 8) (n : Fin 32)
  /-- DISARM (R449). -/
  | disarm (dt : Nat) (x : Fin 8) (n : Fin 32)
  /-- DMA_SEGMENT_BOUNDARY (R458): what the reads of the segment find. -/
  | dmaSegmentBoundary (dt : Nat) (port : Fin 2) (reads : SegReads)
  /-- DMA_READ_COMPLETION (R458): data, or an error. -/
  | dmaReadCompletion (dt : Nat) (n : Fin 32) (bytes : List (BitVec 8)) (ok : Bool)
  /-- DMA_READ_TIMEOUT (R459). -/
  | dmaReadTimeout (dt : Nat) (n : Fin 32)
  /-- DMA_PASS_END (R450). -/
  | dmaPassEnd (dt : Nat) (n : Fin 32)
  /-- DMA_FLUSH_COMPLETE (R457): whether it completed without error. -/
  | dmaFlushComplete (dt : Nat) (n : Fin 32) (ok : Bool)
  /-- DMA_DESCRIPTOR_FETCH (R447): the 32 bytes, or an error. -/
  | dmaDescriptorFetch (dt : Nat) (n : Fin 32) (bytes : List (BitVec 8)) (ok : Bool)
  /-- DMA_CHANNEL_STOPPED (R459). -/
  | dmaChannelStopped (dt : Nat) (n : Fin 32)
  /-- DMA_ACKNOWLEDGE (R456). -/
  | dmaAcknowledge (dt : Nat) (x : Fin 8) (n : Fin 32) (half full : Bool) (again : Word)
  /-- SUPPLY_OUT_OF_RANGE (R469): the voltages of the seven monitored rails in µV, in the order of GL_SUPPLY, and for how many ticks of 2 ns
  they have stood so. -/
  | supplyOutOfRange (dt : Nat) (volts : List Nat) (held : Nat)
  /-- SUPPLY_RECOVERED (R469). -/
  | supplyRecovered (dt : Nat)
  /-- TEMPERATURE_READING (R478): sensor and reading in 1/16 °C. -/
  | temperatureReading (dt : Nat) (k : Fin 6) (v : BitVec 16)
  /-- CHANNEL_SELF_TEST_COMPLETE (R371): channels that passed. -/
  | channelSelfTestComplete (dt : Nat) (pass : BitVec 3)
  /-- INTAKE_LOCALMEAS_DMA_READY (R49). -/
  | intakeLocalmeasDmaReady (dt : Nat)
  /-- PCIE_PORT_CONFIGURABLE (R49). -/
  | pciePortConfigurable (dt : Nat) (p : Fin 2)
  /-- LINK_ENTERS_L0 (R442): speed code and lanes. -/
  | linkEntersL0 (dt : Nat) (p : Fin 2) (speed width : Nat)
  /-- PERST_RISE (R50). -/
  | perstRise (dt : Nat) (p : Fin 2)
  /-- BUS_MASTER_ENABLE (R430). -/
  | busMasterEnable (dt : Nat) (x : Fin 8)
  /-- MSIX_VECTOR_UNMASK (R421, R422, R440): the access to BAR4 that writes a vector's control word, or any other. -/
  | msixVectorUnmask (dt : Nat) (x : Fin 8) (access : MsixAccess)
  /-- STATION_PORT_LINK_CHANGE (R302). -/
  | stationPortLinkChange (dt : Nat) (port : Fin 4) (up : Bool)
  deriving DecidableEq, Repr

end Sys2Proof
end

