-- ==== Sys2Proof/Machine/Grid.lean ====
section
/-! DEFINITION. Grid synchronisation (spec/05): feedback selection, frames and sequence decomposition, angle tracking,
lock and flywheel, detection quantities. Pure functions on the control state of one group in one channel. -/

namespace Sys2Proof.Machine

/-- What the stages of a group read besides their state: the tables in force, the cycle parameters and the latched inputs. -/
structure GCtx where
  gc : GroupControl
  cv : Curves
  fm : Formats
  md : ModeCfg
  cfg : GroupCfg
  comp : List (Nat × CompTable)
  inp : GroupIn
  group : Nat
  tiles : List (Nat × TileCfg)
  sums : List TileSum
  bound : List Nat
  deriving DecidableEq, Repr

/-- L and L × DIV in ticks (R59, R126); D_E + lead in ticks (R65). -/
def GCtx.l (c : GCtx) : Nat := halfUs c.cfg.cycle
def GCtx.ld (c : GCtx) : Nat := c.l * c.cfg.div
def GCtx.ahead (c : GCtx) : Nat := quarterUs c.cfg.de + halfUs c.cfg.lead

/-- Active set-point word n as a per-unit quantity (R134). -/
def GCtx.sp (c : GCtx) (n : Nat) : Pu := puOfWord (nth c.inp.sp n 0)

/-- True for a group all of whose tiles are choppers (R90). -/
def GCtx.chopperOnly (c : GCtx) : Bool := c.tiles.all (fun t => t.2.type = .chopper)

/-- Largest difference between two three-component values. -/
def V3.maxDiff (x y : V3) : Nat := max (x.a - y.a).natAbs (max (x.b - y.b).natAbs (x.c - y.c).natAbs)

/-- R140 to R142: which source a signal takes this cycle and how its runs advance. -/
def selectSignal (substDiff : Pu) (prim alt : Option V3) (f : FbSt) : FbSt :=
  let primRun := if prim.isSome then satInc 1000000 f.primRun else 0
  let diffRun := match prim, alt with
    | some p, some a => if substDiff < (p.maxDiff a : Int) then satInc 1000000 f.diffRun else 0
    | _, _ => 0
  let useAlt := alt.isSome && (prim.isNone || f.alt)
  match (if useAlt then alt else prim) with
  | some v => { f with valid := true, alt := useAlt, hold := false, holdRun := 0, primRun := primRun, diffRun := diffRun,
                       was := f.hold, raised := false, held := v, disagreed := f.disagreed && diffRun != 0 }
  | none => { f with valid := false, alt := false, hold := true, holdRun := satInc 1000000 f.holdRun, primRun := primRun,
                     was := f.hold, diffRun := 0, disagreed := false }

/-- The configuration of signal n. Where FORMATS names no source for the AC current it comes from the arm currents (R114); a signal
FORMATS does not hold has no plausibility limits. -/
def Formats.sig (fm : Formats) (n : Nat) : SigCfg :=
  let s := nth fm.signals n ⟨.none, .none, 0, 0, -0x80000000, 0x7FFFFFFF⟩
  if n = 1 ∧ s.primary = .none then { s with primary := .arms } else s

/-- The four signals of R114: 0 AC voltage, 1 AC current, 2 DC pole voltage, 3 DC pole current. -/
def GridSt.fbAt (s : GridSt) (n : Nat) : FbSt := nth s.fb n .init

/-- A valid source of signal n is back after a hold (R142). -/
def GridSt.returned (s : GridSt) (n : Nat) : Bool := (s.fbAt n).was && !(s.fbAt n).hold

/-- Feedback part of the Condition stage: all four signals. -/
def selectSignals (c : GCtx) (s : GridSt) : GridSt :=
  { s with fb := (List.range 4).map fun n =>
      selectSignal c.gc.cur.substDiff (nth c.inp.prim n none) (nth c.inp.alt n none) (s.fbAt n) }

/-- R142: signal n is invalid beyond FB_HOLD and its fault is not yet raised. -/
def holdExpired (c : GCtx) (s : GridSt) (n : Nat) : Bool :=
  (s.fbAt n).hold && decide (c.gc.cur.fbHold < (s.fbAt n).holdRun) && !(s.fbAt n).raised

/-- Replace signal n. -/
def GridSt.setFb (s : GridSt) (n : Nat) (f : FbSt) : GridSt := { s with fb := setNth s.fb n f }

/-- FEEDBACK_HOLD_EXPIRY (R142): raise the feedback-lost source of the signal. -/
def feedbackHoldExpiry (c : GCtx) (n : Nat) (s : GridSt) : GridSt :=
  if holdExpired c s n then
    let s := s.setFb n { s.fbAt n with raised := true }
    { s with m := { s.m with raises := s.m.raises ++ [0x0A0 + 8 * c.group + 2 + n] } }
  else s

/-- FEEDBACK_PRIMARY_RETURN (R141): after 64 valid cycles of the primary the loops return to it. -/
def feedbackPrimaryReturn (n : Nat) (s : GridSt) : GridSt :=
  let f := s.fbAt n
  if f.alt ∧ 64 ≤ f.primRun then s.setFb n { f with alt := false } else s

/-- FEEDBACK_DISAGREEMENT (R141): both sources valid and apart for 16 cycles. -/
def feedbackDisagreement (c : GCtx) (n : Nat) (s : GridSt) : GridSt :=
  let f := s.fbAt n
  if 16 ≤ f.diffRun ∧ f.disagreed = false then
    let s := s.setFb n { f with disagreed := true }
    { s with m := { s.m with raises := s.m.raises ++ [0x0A0 + 8 * c.group + 6] } }
  else s

/-- Forming replaces the tracked angle (R86, R131): FORM, and DC_RIDE entered from FORM (R150). -/
def ModeSt.forming (m : ModeSt) : Bool := m.mode == .form || (m.mode == .dcRide && m.ret == .form)

/-- The angle of R115 at the opening. -/
def GridSt.th (s : GridSt) : Nat := (if s.m.forming then s.form.acc else s.sync.acc) / 0x100000000 % 0x100000000

/-- The tracked angle. -/
def SyncSt.trackTh (y : SyncSt) : Nat := y.acc / 0x100000000 % 0x100000000

/-- One component of a sequence filter advanced (R116): f + SEQ_K × w_nom × L × (x − f), narrowed once. -/
def filterStep (c : GCtx) (f x : Pu) : Pu :=
  let den : Nat := 0x10000000 * 500000000 * 0x1000000000000000
  satPu (roundDiv (f * den + c.gc.sync.seqK * Config.twoPi60 * c.gc.sync.fNom * c.l * (x - f)) den)

/-- One step of a sequence filter. -/
def filterTo (c : GCtx) (f dc : V2) : V2 := ⟨filterStep c f.d dc.d, filterStep c f.q dc.q⟩

/-- R116: decoupled vectors and filters of a three-phase quantity at angle th: (pos_dc, neg_dc, pos_f, neg_f). -/
def decompose (c : GCtx) (th : Nat) (x : V3) (posF negF : V2) : V2 × V2 × V2 × V2 :=
  let ab := clarke56 x
  let posDc := sub86 (park86 ab th) (rot58 negF (negAngle (dblAngle th)))
  let negDc := sub86 (park86 ab (negAngle th)) (rot58 posF (dblAngle th))
  (posDc, negDc, filterTo c posF posDc, filterTo c negF negDc)

/-- Advance of a 64-bit phase accumulator over one cycle at frequency w (R118). -/
def advance (c : GCtx) (acc : Nat) (w : Pu) : Nat :=
  toField 64 ((acc : Int) + roundDiv (w * c.gc.sync.fNom * c.l * 0x10000000000000000) (0x10000000 * 500000000))

/-- A positive-sequence vector in the tracked frame: in FORM it is turned from the forming frame (log entry 20). -/
def inTrackFrame (s : GridSt) (v : V2) : V2 :=
  if s.m.forming then rot v (addAngle s.th (-(s.sync.trackTh : Int))) else v

/-- R118 and the runs of R119, R120: error, integrator and frequency of angle tracking. The accumulators advance at
the end of the cycle (`advanceAngles`), so that the angle read in a cycle is the one at its opening (R115). A cycle with FLYWHEEL
set, whose e is only taken as 0, does not count toward LOCK_N (log entry 118). -/
def track (c : GCtx) (s : GridSt) : GridSt :=
  let y := s.sync
  let p := c.gc.sync
  let pf := inTrackFrame s y.posV
  let len := norm y.posV
  let mag := if len < p.vminSync then p.vminSync else len
  let low := decide (len < p.vminSync) || (s.fbAt 0).hold
  let fly := y.fly || low
  let flyRun := if y.fly && decide (p.vminSync + pu 1 20 ≤ len) && !(s.fbAt 0).hold then y.flyRun + 1 else 0
  let e := if fly then 0 else divPu pf.q mag
  let xi := if fly then y.xi else integrate (-p.freqRange) p.freqRange p.pllKi (at56 e) c.l y.xi
  let w := if fly then y.w else satPu (one + clampI (-p.freqRange) p.freqRange (narrow56 (p.pllKp * e + at56 xi)))
  let lockRun := if fly = false ∧ (e.natAbs : Int) ≤ p.lockErr ∧ p.vminSync ≤ len then satInc 1000000 y.lockRun else 0
  let unlockRun := if p.unlockErr < (e.natAbs : Int) then satInc 1000000 y.unlockRun else 0
  { s with sync := { y with e := e, xi := xi, w := w, fly := fly, flyRun := flyRun,
                            locked := y.locked && !fly, lockRun := lockRun, unlockRun := unlockRun } }

/-- The advance of both accumulators to the next opening (R118, R131). -/
def advanceAngles (c : GCtx) (s : GridSt) : GridSt :=
  { s with sync := { s.sync with acc := advance c s.sync.acc s.sync.w },
           form := if s.m.forming then { s.form with acc := advance c s.form.acc s.form.w } else s.form }

/-- SYNC_LOCK (R119). -/
def syncLock (c : GCtx) (s : GridSt) : GridSt :=
  if c.gc.sync.lockN ≤ s.sync.lockRun ∧ s.sync.fly = false then { s with sync := { s.sync with locked := true } } else s

/-- SYNC_UNLOCK (R119). -/
def syncUnlock (s : GridSt) : GridSt :=
  if 16 ≤ s.sync.unlockRun then { s with sync := { s.sync with locked := false } } else s

/-- FLYWHEEL_CLEAR (R120); JUMP_N counts afresh from the next cycle (R155). -/
def flywheelClear (s : GridSt) : GridSt :=
  if s.sync.fly = true ∧ 2 ≤ s.sync.flyRun then { s with sync := { s.sync with fly := false, flyRun := 0, jumpRun := 0 } } else s

/-- Keep the first n entries of a history. -/
def keep {α : Type} (n : Nat) (l : List α) : List α := l.take n

/-- R144: detection quantities over the last DET_N cycles. -/
def detect (c : GCtx) (s : GridSt) : GridSt :=
  let n := c.cv.ride.detN
  let np := norm s.sync.posDc
  let nn := norm s.sync.negDc
  let h := keep n (⟨np, nn, (s.fbAt 2).held.a⟩ :: s.det.hist)
  let vPos := meanI (h.map (·.a))
  let vNeg := meanI (h.map (·.b))
  let vDet := if c.cv.ride.acMeas = 0 then vPos else satPu (meanI (h.map fun x => x.a - x.b))
  { s with det := { hist := h, vdets := keep 80 (vDet :: s.det.vdets), vDet := vDet, vPos := vPos, vNeg := vNeg,
                    vdcDet := meanI (h.map (·.c)) } }

/-- The voltage part of the Grid stage: R115, R116 on the AC voltage, the fast angle error of R155 and its run, R144.
While the AC voltage is held, pos_f and neg_f are held (R140). A run of JUMP_N lies outside FLYWHEEL, the cycle that sets it
included. A seat that falls due waits for `angleSeat`. -/
def measureVoltage (c : GCtx) (s : GridSt) : GridSt :=
  let y := s.sync
  let s := if (s.fbAt 0).hold then { s with sync := { y with jumpRun := 0, seatDue := false } } else
    let r := decompose c s.th (s.fbAt 0).held y.posV y.negV
    let dc := inTrackFrame s r.1
    let eF := Config.atan2Turn dc.q dc.d
    let eRad := roundDiv (eF * Config.twoPi60) (16 * 0x1000000000000000)
    let fly := y.fly || decide (norm r.2.2.1 < c.gc.sync.vminSync)
    let run := if fly then 0 else if c.cv.recov.jumpDet < (eRad.natAbs : Int) then y.jumpRun + 1 else 0
    { s with sync := { y with posDc := r.1, negDc := r.2.1, posV := r.2.2.1, negV := r.2.2.2, eFast := eF,
                              jumpRun := run, seatDue := decide (c.cv.recov.jumpN ≤ run) } }
  let s := if s.sync.seatDue then s else track c s
  detect c s

/-- The current part of the Grid stage: R116 on the AC current, whose filters are held with it, and R117 in every cycle. -/
def measureCurrent (c : GCtx) (s : GridSt) : GridSt :=
  let s := if (s.fbAt 1).hold then s else
    let r := decompose c s.th (s.fbAt 1).held s.sync.posI s.sync.negI
    { s with sync := { s.sync with posI := r.2.2.1, negI := r.2.2.2 } }
  let v := s.sync.posV
  let i := s.sync.posI
  { s with loop := { s.loop with p := satPu (roundDiv (v.d * i.d + v.q * i.q) 0x10000000),
                                 q := satPu (roundDiv (v.q * i.d - v.d * i.q) 0x10000000) } }

/-- DC quantities in use (R140). -/
def measureDc (s : GridSt) : GridSt :=
  { s with loop := { s.loop with vdc := (s.fbAt 2).held.a, idc := (s.fbAt 3).held.a } }

/-- The angle at the execution time (R121). -/
def thExec (c : GCtx) (s : GridSt) : Nat :=
  let w := if s.m.forming then s.form.w else s.sync.w
  addAngle s.th (roundDiv (w * c.gc.sync.fNom * c.ahead * 0x100000000) (0x10000000 * 500000000))

end Sys2Proof.Machine
end

