-- ==== Sys2Proof/Machine/Transitions.lean ====
section
/-! DEFINITION. The transition table of R91 and the masks of MODES over it (R92, R94). -/

namespace Sys2Proof.Machine

/-- The commanded transitions of R91; a chopper-only group has the modes of R90. -/
def commandedTo (chopperOnly : Bool) : Mode → List Mode
  | .isolated => [.charge, .discharge]
  | .charge => [.blocked, .isolated, .discharge]
  | .blocked => if chopperOnly then [.isolated, .discharge, .dcRide]
      else [.isolated, .reactive, .follow, .dcSlack, .form, .harvest, .discharge, .lineTest]
  | .reactive => [.blocked, .follow, .dcSlack, .form, .harvest]
  | .follow => [.blocked, .reactive, .dcSlack, .form]
  | .dcSlack => [.blocked, .reactive, .follow, .form]
  | .form => [.blocked, .reactive, .follow, .dcSlack]
  | .harvest => [.blocked, .reactive]
  | .acRide => [.blocked]
  | .dcRide => [.blocked]
  | .discharge => [.isolated]
  | .lineTest => [.blocked]

/-- The automatic transitions of R91 (bits of GP_TRANS_AUTO). -/
def automaticTo : Mode → List Mode
  | .reactive | .dcSlack => [.acRide, .dcRide, .blocked]
  | .follow | .harvest => [.acRide, .dcRide, .form, .blocked]
  | .form => [.dcRide, .blocked]
  | .acRide => [.reactive, .follow, .dcSlack, .harvest, .dcRide, .blocked]
  | .dcRide => [.reactive, .follow, .dcSlack, .form, .harvest, .blocked]
  | .discharge => [.isolated, .blocked]
  | .lineTest => [.blocked]
  | _ => []

/-- Automatic transitions to BLOCKED that MODES cannot disable (R92): all but the islanding trip of FOLLOW and HARVEST. -/
def fixedAuto (frm dst : Mode) : Bool :=
  dst == .blocked && (frm != .follow && frm != .harvest) && (automaticTo frm).contains .blocked

/-- The mask of a list of modes. -/
def maskOf (l : List Mode) : Nat := sumN ((l.eraseDups).map fun m => 2 ^ modeCode m)

/-- Bit `dst` of a transition mask list at `frm` (R92). -/
def transBit (masks : List Nat) (frm dst : Mode) : Bool := testBit (nth masks (modeCode frm) 0) (modeCode dst)

/-- Whether masks, one per source mode, name transitions of R91 only (R94). -/
def subsetOf (l : Mode → List Mode) (masks : List Nat) : Bool :=
  decide (masks.length ≤ 12) && (List.range masks.length).all fun n =>
    match modeOfCode n with
    | some m => nth masks n 0 &&& (0xFFFF ^^^ maskOf (l m)) == 0 && decide (nth masks n 0 < 0x10000)
    | none => false

/-- Every commanded transition of R91, DC_RIDE of a chopper-only group among them. -/
def everyCommand (m : Mode) : List Mode := commandedTo false m ++ commandedTo true m

/-- TRANS_EN and the automatic enables as R94's Default column has them: all of R91. -/
def allOf (l : Mode → List Mode) : List Nat := (List.range 12).map fun n => maskOf (l ((modeOfCode n).getD .isolated))

end Sys2Proof.Machine

namespace Sys2Proof

open Sys2Proof.Machine

/-- The Default column of R94. -/
def ModeCfg.standard : ModeCfg :=
  { chgCtrl := pu 55 100, chgDone := pu 90 100, chgSpread := pu 10 100, minBricks := none, deadBus := pu 10 100, dcBand := pu 5 100,
    ltResidual := pu 5 100, ltTarget := pu 1 1, ltRamp := pu 10 1, ltHold := 500, ltIlim := pu 5 100, disDone := pu 5 100, disTimeout := 600,
    fadeLen := 16, interlock := [], transEn := allOf everyCommand, transAuto := allOf automaticTo }

end Sys2Proof
end

