-- ==== Sys2Proof/Machine/Ride.lean ====
section
/-! DEFINITION. Ride-through, angle seat, islanding and harvest (spec/06). Each decision is one guarded function: it
acts if its condition stands in the state and leaves the state as it is otherwise, so a decision taken by its own
command is not taken again when the Grid stage completes. -/

namespace Sys2Proof.Machine

/-- A mode of R93 that is a ride-through. -/
def isRide (m : Mode) : Bool := m == .acRide || m == .dcRide

/-- R91 to R93, R101, R108: the group goes to `target` in this cycle with the cause. RETURN takes the mode left on entry to a
ride-through; outside one the tracker is not frozen (R166). -/
def GridSt.goto (k : Nat) (target : Mode) (cause : Nat) (s : GridSt) : GridSt :=
  let was := s.m.forming
  let m := { s.m with mode := target, prev := s.m.mode, cause := cause, changed := true, entryK := k, phaseCtrl := false,
                      ret := if isRide target && !isRide s.m.mode then s.m.mode else s.m.ret }
  let s := { s with m := m, harv := { s.harv with frozen := s.harv.frozen && isRide target } }
  if was && !m.forming then
    { s with sync := { s.sync with acc := s.form.acc, w := s.form.w, xi := satPu (s.form.w - one) } }
  else if !was && m.forming then { s with form := { s.form with acc := s.sync.acc, w := s.sync.w } }
  else s

/-- An automatic transition (R101): at most one per cycle. -/
def GridSt.autoGoto (k : Nat) (target : Mode) (cause : Nat) (s : GridSt) : GridSt :=
  let t := s.goto k target cause
  { t with m := { t.m with auto := true } }

/-- The automatic transition is enabled by MODES (R92). -/
def autoEnabled (c : GCtx) (frm dst : Mode) : Bool := transBit c.md.transAuto frm dst

/-- Modes in which the AC entry condition is evaluated (R145). -/
def acWatched : Mode → Bool
  | .reactive | .follow | .dcSlack | .harvest => true
  | _ => false

/-- Modes in which the DC entry condition is evaluated (R145). -/
def dcWatched : Mode → Bool
  | .reactive | .follow | .dcSlack | .form | .harvest | .acRide => true
  | _ => false

/-- The AC entry condition of R145 as it stands. -/
def acEntry (c : GCtx) (s : GridSt) : Bool :=
  decide (s.det.vDet < c.cv.ride.acUvEnter) || decide (c.cv.ride.acOvEnter < s.det.vPos) || decide (c.cv.ride.negEnter < s.det.vNeg)

/-- The DC entry condition of R145 as it stands. -/
def dcEntry (c : GCtx) (s : GridSt) : Bool :=
  decide (s.det.vdcDet < c.cv.ride.dcUvEnter) || decide (c.cv.ride.dcOvEnter < s.det.vdcDet)

/-- Threshold of a curve, whose points have times in µs, at a time in half µs (R151). -/
def curveAt (linear : Bool) (t : Nat) : List (Nat × Pu) → Pu
  | [] => 0
  | [(_, v)] => v
  | (t0, v0) :: (t1, v1) :: rest =>
    if 2 * t1 ≤ t then curveAt linear t ((t1, v1) :: rest)
    else if linear then satPu (v0 + roundDiv ((v1 - v0) * (t - 2 * t0 : Nat)) (2 * (t1 - t0))) else v0

/-- Elapsed time since cycle k0 (R152), in half µs: L is a number of half µs (R59), so it is exact. -/
def elapsedHalfUs (c : GCtx) (k0 : Nat) : Nat := (c.inp.k - k0) * c.cfg.cycle

/-- The curves evaluated in the mode, each with its elapsed time (R152): number and elapsed half µs. -/
def curvesIn (c : GCtx) (s : GridSt) : List (Nat × Nat) :=
  match s.m.mode with
  | .acRide => [(0, elapsedHalfUs c s.ride.kAc), (1, elapsedHalfUs c s.ride.kAc)]
  | .dcRide => (if s.ride.fromAc then [(0, elapsedHalfUs c s.ride.kAc), (1, elapsedHalfUs c s.ride.kAc)] else [])
      ++ [(2, elapsedHalfUs c s.ride.kDc), (3, elapsedHalfUs c s.ride.kDc)]
  | _ => []

/-- Curve n of the group, if it can trip (R151: one with no points never does). -/
def curveOf (c : GCtx) (n : Nat) : Option Curve :=
  match c.cv.curves[n]? with
  | some cu => if cu.points.isEmpty then none else some cu
  | none => none

/-- The quantity of curve n lies beyond its threshold (R152). -/
def beyondCurve (c : GCtx) (s : GridSt) (n t : Nat) : Bool :=
  match curveOf c n with
  | none => false
  | some cu =>
    let th := curveAt cu.linear t cu.points
    match n with
    | 0 => decide (s.det.vDet < th)
    | 1 => decide (th < s.det.vPos)
    | 2 => decide (s.det.vdcDet < th)
    | _ => decide (th < s.det.vdcDet)

/-- Runs of cycles beyond each curve; `counted` tells which have been counted in this cycle. The run of a curve that is not evaluated
is held (R88). -/
def curveRuns (c : GCtx) (counted : Nat → Bool) (s : GridSt) : List Nat :=
  (List.range 4).map fun n =>
    let run := nth s.ride.curveRuns n 0
    match (curvesIn c s).find? (fun e => e.1 = n) with
    | some (_, t) => if counted n then run else if beyondCurve c s n t then run + 1 else 0
    | none => run

/-- The exit conditions of R153. -/
def exitOk (c : GCtx) (s : GridSt) : Bool :=
  let ac := decide (c.cv.ride.acUvExit ≤ s.det.vDet) && decide (s.det.vPos ≤ c.cv.ride.acOvExit)
    && decide (s.det.vNeg ≤ c.cv.ride.negExit) && !s.sync.fly
  let dc := decide (c.cv.ride.dcUvExit ≤ s.det.vdcDet) && decide (s.det.vdcDet ≤ c.cv.ride.dcOvExit)
  match s.m.mode with
  | .acRide => ac
  | .dcRide => dc && (!s.ride.fromAc || ac)
  | _ => false

/-- Entries within REPEAT_WIN (R148), REPEAT_WIN in units of 0.1 s. -/
def recentEntries (c : GCtx) (s : GridSt) : List Nat :=
  s.ride.entries.filter fun k => (c.inp.k - k) * c.l < 50000000 * c.cv.recov.repeatWin

/-- Once per cycle after the detection quantities: the runs of R145, R152 and R153, each held in the modes that do not evaluate it
(R88). GP_RIDE_TIME shows whole µs, a half one dropped, and counts from the AC entry in a DC_RIDE entered from AC_RIDE: the spec names
the register's unit and neither of the two (log entry 165). -/
def rideWatch (c : GCtx) (s : GridSt) : GridSt :=
  if c.chopperOnly then s else
    let r := s.ride
    let ac := acWatched s.m.mode && acEntry c s
    let dc := dcWatched s.m.mode && dcEntry c s
    let ex := exitOk c s
    let el := match s.m.mode with
      | .acRide => elapsedHalfUs c r.kAc / 2
      | .dcRide => elapsedHalfUs c (if r.fromAc then r.kAc else r.kDc) / 2
      | _ => r.elapsed
    let run (acts holds : Bool) (n : Nat) : Nat := if acts then (if holds then n + 1 else 0) else n
    { s with ride := { r with acHold := ac, dcHold := dc, acRun := run (acWatched s.m.mode) ac r.acRun,
                              dcRun := run (dcWatched s.m.mode) dc r.dcRun, curveRuns := curveRuns c (fun _ => false) s,
                              exiting := ex, exitRun := run (isRide s.m.mode) ex r.exitRun, elapsed := el } }

/-- The entry conditions that are met (R145): AC and DC. -/
def acMet (c : GCtx) (s : GridSt) : Bool := acWatched s.m.mode && decide (c.cv.ride.enterN ≤ s.ride.acRun) && decide (0 < s.ride.acRun)
def dcMet (c : GCtx) (s : GridSt) : Bool := dcWatched s.m.mode && decide (c.cv.ride.dcEnterN ≤ s.ride.dcRun) && decide (0 < s.ride.dcRun)

/-- An entry to a ride-through is due. -/
def entryDue (c : GCtx) (s : GridSt) : Bool := !s.m.auto && !c.chopperOnly && (acMet c s || dcMet c s)

/-- Ride trip (R92): to BLOCKED with cause RIDE_TRIP. -/
def rideTrip (c : GCtx) (s : GridSt) : GridSt := s.autoGoto c.inp.k .blocked 5

/-- A scan ends as ABORTED on any transition out of HARVEST, with v_tgt as before it (R164). -/
def abortScan (h : HarvSt) : HarvSt := if h.scanning then { h with scanning := false, vTgt := h.vBefore, aborted := true } else h

/-- The tracker freezes during a ride-through entered from HARVEST (R166). -/
def freezeHarvest (s : GridSt) : GridSt := { s with harv := { abortScan s.harv with frozen := true } }

/-- The curves are evaluated in the cycle of entry too, with elapsed time 0 (R152); from AC_RIDE the AC curves have been. A curve whose
evaluation begins has no run yet. -/
def startCurves (c : GCtx) (fromAc : Bool) (s : GridSt) : GridSt :=
  let was := s.ride.curveRuns
  let s := { s with ride := { s.ride with curveRuns := if fromAc then [nth was 0 0, nth was 1 0, 0, 0] else [0, 0, 0, 0] } }
  { s with ride := { s.ride with curveRuns := curveRuns c (fun n => fromAc && decide (n < 2)) s } }

/-- The runs that have met an entry condition are used up by what it leads to (log entry 165). -/
def useRuns (c : GCtx) (s : GridSt) : GridSt :=
  { s with ride := { s.ride with acRun := if acMet c s then 0 else s.ride.acRun, dcRun := if dcMet c s then 0 else s.ride.dcRun } }

/-- RIDE_ENTRY (R145 to R148). The pre-fault references are those of the last cycle before the limits of R123 (log entry 119); R147
takes the pre-fault values at entry to AC_RIDE, and the model takes them at a direct entry to DC_RIDE too, where R149's i_q+ may be
asked for by R150 (the model's choice, log entry 165). The run of the DC condition goes on in AC_RIDE. -/
def rideEntry (c : GCtx) (s0 : GridSt) : GridSt :=
  if entryDue c s0 = false then s0 else
    let target := if dcMet c s0 then Mode.dcRide else Mode.acRide
    let acRun := s0.ride.acRun
    let s := useRuns c s0
    let recent := recentEntries c s
    if autoEnabled c s.m.mode target = false then rideTrip c s
    else if c.cv.recov.rideRepeat ≤ recent.length then
      rideTrip c { s with ride := { s.ride with repeatBlock := true } }
    else
      let k := c.inp.k
      let r := s.ride
      let vPre := clampI c.cv.ride.acUvExit c.cv.ride.acOvExit (nth s.det.vdets (acRun - 1 + c.cv.ride.detN) 0)
      let fromAc := s.m.mode == .acRide
      let r := if fromAc then { r with fromAc := true, kDc := k }
        else { r with vPre := vPre, iDPre := s.cur.want.dp, iQPre := s.cur.want.qp, iqHeld := s.loop.iqRef,
                      kAc := k, kDc := k, fromAc := false }
      let r := { r with entries := k :: recent, dcOver := decide (c.cv.ride.dcOvEnter < s.det.vdcDet), exitRun := 0,
                        elapsed := if fromAc then r.elapsed else 0 }
      let s := if s.m.mode == .harvest then freezeHarvest s else s
      startCurves c fromAc (({ s with ride := r } : GridSt).autoGoto k target 1)

/-- The curve, if any, beyond which the quantity has stayed for CURVE_N cycles (R152). -/
def curveTripped (c : GCtx) (s : GridSt) : Option Nat :=
  ((curvesIn c s).map (·.1)).find? fun n =>
    match curveOf c n with
    | some cu => decide (cu.curveN ≤ nth s.ride.curveRuns n 0) && decide (0 < nth s.ride.curveRuns n 0)
    | none => false

/-- RIDE_CURVE_TRIP (R152). -/
def rideCurveTrip (c : GCtx) (s : GridSt) : GridSt :=
  if s.m.auto then s else
    match curveTripped c s with
    | some n => rideTrip c { s with ride := { s.ride with tripCurve := n } }
    | none => s

/-- The elapsed time of a curve in force has reached its T_MAX (R152). -/
def tmaxReached (c : GCtx) (s : GridSt) : Bool :=
  (curvesIn c s).any fun e => match curveOf c e.1 with
    | some cu => decide (2 * cu.tMax ≤ e.2)
    | none => false

/-- RIDE_TMAX (R152). -/
def rideTmax (c : GCtx) (s : GridSt) : GridSt :=
  if s.m.auto then s else
    if tmaxReached c s then rideTrip c { s with ride := { s.ride with tripCurve := 4 } } else s

/-- RIDE_EXIT (R153, R154): a trip of the same cycle prevails; a return that is disabled trips. -/
def rideExit (c : GCtx) (s : GridSt) : GridSt :=
  if s.m.auto || (curveTripped c s).isSome || tmaxReached c s || c.chopperOnly then s
  else if (s.m.mode == .acRide || s.m.mode == .dcRide) && decide (c.cv.ride.exitN ≤ s.ride.exitRun) then
    if autoEnabled c s.m.mode s.m.ret then
      let s := if s.m.ret == .harvest then { s with harv := { s.harv with skip := true } } else s
      let s := s.autoGoto c.inp.k s.m.ret 2
      { s with loop := { s.loop with recovP := true, recovQ := true, recovV := true } }
    else rideTrip c s
  else s

/-- Magnitude of an angle error given in 2^-32 turn, in rad (R155). -/
def radOf (turn : Int) : Pu := ((roundDiv (turn * Config.twoPi60) (16 * 0x1000000000000000)).natAbs : Int)

/-- Islanding detection, once per outer-loop cycle after tracking (R158). Outside FOLLOW and HARVEST its states are held (R88); a
blanked cycle breaks the run of the frequency criterion. Detection is declared by any criterion, and GP_ISLAND keeps those that
held (R160). -/
def islWatch (c : GCtx) (s : GridSt) : GridSt :=
  if c.inp.outer = false then s else
    let i := s.isl
    let p := c.cv.isl
    let hist := keep 100001 (s.sync.w :: i.wHist)
    let active := s.m.mode == .follow || s.m.mode == .harvest
    let blank := decide ((c.inp.k - s.m.entryK) * c.l < msTicks p.blank) || s.sync.fly || (s.fbAt 0).hold || (s.fbAt 1).hold
    if active = false then
      { s with isl := { i with wHist := hist, blanked := true }, sync := { s.sync with seatSince := 0 } }
    else if blank then
      { s with isl := { i with wHist := hist, fRun := 0, blanked := true, pulseOk := i.pulseOk && !i.pulse },
               sync := { s.sync with seatSince := 0 } }
    else
      let fRun := if s.sync.w < p.fLo ∨ p.fHi < s.sync.w then i.fRun + 1 else 0
      let mOuter := max 1 (roundDiv (msTicks p.rocofWin) c.ld).toNat
      let rocof := match hist[mOuter]? with
        | some w0 => decide (p.rocofTh * (mOuter * c.ld : Nat) < ((s.sync.w - w0).natAbs : Int) * 500000000)
        | none => false
      let vs := decide (p.vsTh < (s.sync.seatSince : Int))
      let imp := p.aiEn && decide (p.aiConf ≤ i.conf)
      let crit := bit (decide (0 < fRun) && decide (msTicks p.fTime ≤ fRun * c.ld)) + 2 * bit rocof + 4 * bit vs + 8 * bit imp
      { s with isl := { i with wHist := hist, fRun := fRun, blanked := false, due := decide (crit ≠ 0), detected := decide (crit ≠ 0),
                               criteria := if crit = 0 then i.criteria else crit },
               sync := { s.sync with seatSince := 0 } }

/-- ANGLE_SEAT (R155, R156): the tracked angle and the filters step by e_fast; then the tracking of the cycle runs. -/
def angleSeat (c : GCtx) (s : GridSt) : GridSt :=
  if s.sync.seatDue = false then s else
    let y := s.sync
    let back := toField 32 (-y.eFast)
    let fwd := toField 32 y.eFast
    let y := { y with acc := toField 64 ((y.acc : Int) + y.eFast * 0x100000000), seatDue := false, jumpRun := 0,
                      lastSeat := y.eFast, seatSince := max y.seatSince (radOf y.eFast).toNat,
                      jumpTrip := decide (c.cv.recov.jumpTrip ≠ 0) && decide (c.cv.recov.jumpTrip < radOf y.eFast) }
    let y := if s.m.forming then y else
      { y with posV := rot y.posV back, negV := rot y.negV fwd, posI := rot y.posI back, negI := rot y.negI fwd }
    let s := islWatch c (track c { s with sync := y })
    let trips := match s.m.mode with
      | .reactive | .follow | .dcSlack | .form | .harvest | .acRide | .dcRide => true
      | _ => false
    if s.sync.jumpTrip && trips && !s.m.auto then
      let s := if s.m.mode == .acRide then { s with ride := { s.ride with tripCurve := 5 } } else s
      rideTrip c { s with sync := { s.sync with jumpTrip := false } }
    else { s with sync := { s.sync with jumpTrip := false } }

/-- ISLANDING_DETECTED (R160): trip or transfer, the other if the chosen one is disabled, else the fault source. It acts in the cycle
of the detection, in FOLLOW and HARVEST, behind a met entry condition (R146). -/
def islandingDetected (c : GCtx) (s : GridSt) : GridSt :=
  if s.m.auto || !s.isl.due || entryDue c s || s.sync.seatDue || !(s.m.mode == .follow || s.m.mode == .harvest) then s else
    let canTrip := autoEnabled c s.m.mode .blocked
    let canForm := autoEnabled c s.m.mode .form
    let i := { s.isl with due := false }
    if (c.cv.isl.action = 0 ∧ canTrip = true) ∨ (canForm = false ∧ canTrip = true) then
      ({ s with isl := { i with action := 1 } }).autoGoto c.inp.k .blocked 4
    else if canForm then ({ s with isl := { i with action := 2 } }).autoGoto c.inp.k .form 3
    else { s with isl := { i with action := 3 }, m := { s.m with raises := s.m.raises ++ [0x0A0 + 8 * c.group + 7] } }

/-- The pulse of R159 adds AI_AMP: the last AI_LEN of every AI_PERIOD outer-loop cycles, each with the cycles up to the next one
(log entry 21). -/
def pulseOn (c : GCtx) (s : GridSt) : Bool := c.cv.isl.aiEn && (s.m.mode == .follow || s.m.mode == .harvest) && s.isl.pulse

/-- Z of a pulse: |mean over the pulse − mean before it| / AI_AMP (R159). -/
def pulseZ (c : GCtx) (i : IslSt) : Pu :=
  let n := i.pulseSum.length
  let m := i.preSum.length
  satPu (roundDiv ((sumI i.pulseSum * m - sumI i.preSum * n).natAbs * 0x10000000 : Nat) (n * m * c.cv.isl.aiAmp.toNat))

/-- One outer-loop cycle of the pulse counter: a pulse that has ended leaves its Z to be judged; norm(pos_f) is sampled. `preSum` holds
the AI_LEN outer-loop cycles before the next pulse, those of the pulse before among them where AI_PERIOD is below twice AI_LEN. Outside
FOLLOW and HARVEST the states are held (R88). -/
def pulseSample (c : GCtx) (s : GridSt) : GridSt :=
  let p := c.cv.isl
  if p.aiEn = false then { s with isl := { s.isl with aiCount := 0, pulse := false, preSum := [], pulseSum := [] } }
  else if !(s.m.mode == .follow || s.m.mode == .harvest) then s
  else
    let i := s.isl
    let v := norm s.sync.posV
    let i := if p.aiPeriod ≤ i.aiCount then
        { i with aiCount := 0, pulse := false, zDue := true,
                 zNext := if i.pulseOk && decide (i.preSum.length = p.aiLen) then some (pulseZ c i) else none, pulseSum := [],
                 preSum := keep p.aiLen (i.pulseSum ++ i.preSum) }
      else i
    let on := decide (p.aiPeriod ≤ i.aiCount + p.aiLen)
    let i := { i with aiCount := i.aiCount + 1, pulse := on, pulseOk := if on && i.pulse then i.pulseOk else !i.blanked }
    { s with isl := if on then { i with pulseSum := v :: i.pulseSum } else { i with preSum := keep p.aiLen (v :: i.preSum) } }

/-- A pulse that a limit of R123 cuts gives no Z (R159): the limit acts on i_q+, which carries it. -/
def pulseCut (c : GCtx) (s : GridSt) : GridSt :=
  if pulseOn c s && decide (s.cur.ref.qp ≠ s.cur.want.qp) then { s with isl := { s.isl with pulseOk := false } } else s

/-- ISLANDING_PULSE (R159): the pulse that has ended is judged, or the consecutive count is broken. -/
def islandingPulse (c : GCtx) (s : GridSt) : GridSt :=
  let i := s.isl
  if i.zDue then
    match i.zNext with
    | some z => { s with isl := { i with zDue := false, z := z, conf := if c.cv.isl.zTh < z then i.conf + 1 else 0 } }
    | none => { s with isl := { i with zDue := false, conf := 0 } }
  else s

/-- p_mean of an interval: the mean of v_dc × i_dc (R162). -/
def meanPower (l : List Int) : Pu := satPu (roundDiv (sumI l) (0x10000000 * l.length))

/-- HARVEST_TRACK_STEP (R162): after TRK_DIV outer-loop cycles the tracker takes p_mean and steps as the pseudocode says; in a scan
v_tgt is left to the scan, which records the best interval (R164). The spec leaves three points open (log entry 166): the v_tgt
recorded for an interval is the one at its end; an interval that began before the scan counts; the interval in progress at a fault goes
on after the return with its earlier samples (R166). -/
def harvestTrackStep (c : GCtx) (s : GridSt) : GridSt :=
  let h := s.harv
  let p := c.cv.harv
  if s.m.mode ≠ .harvest ∨ p.perBrick = true ∨ h.frozen = true ∨ h.pSum.length < p.trkDiv ∨ p.trkDiv = 0 then s else
    let mean := meanPower h.pSum
    let dp := mean - h.pPrev
    let h := { h with pSum := [], pPrev := mean }
    let h := if h.scanning && decide (h.bestP < mean) then { h with bestP := mean, bestV := h.vTgt } else h
    if h.skip then { s with harv := { h with skip := false } }
    else
      let back := dp < -p.trkDb
      let on := p.trkDb < dp
      let up := if back then !h.up else h.up
      let step := decide back || decide on || decide (p.trkHoldN ≤ h.holds + 1)
      let holds := if step then 0 else h.holds + 1
      let v := if step && !h.curtailed && !h.scanning then clampI p.winLo p.winHi (if up then h.vTgt + p.trkStep else h.vTgt - p.trkStep)
        else h.vTgt
      { s with harv := { h with up := up, holds := holds, vTgt := v } }

/-- Why a scan request is refused (R164, GP_HARVEST_CMD), 0 if it is not. FROZEN comes first: it can only hold outside HARVEST, in a
ride-through (log entry 120). -/
def scanRefusal (s : GridSt) : Nat :=
  if s.harv.frozen then 5 else if s.m.mode ≠ .harvest then 1 else if s.harv.curtailed then 2 else if s.harv.scanning then 3 else 0

/-- A scan request (R164, R165): refused with its code; else v_tgt goes to SCAN_HI and the best interval is sought, or in per-brick
tracking the request goes to the bricks. -/
def startScan (c : GCtx) (s : GridSt) : GridSt :=
  let code := scanRefusal s
  let h := { s.harv with scanResult := some code }
  if code ≠ 0 then { s with harv := h }
  else if c.cv.harv.perBrick then { s with harv := { h with askBricks := true, sincescan := 0 } }
  else { s with harv := { h with scanning := true, vBefore := h.vTgt, vTgt := c.cv.harv.scanHi, bestP := -0x80000000, bestV := h.vTgt,
                                 sincescan := 0 } }

/-- HARVEST_SCAN_PERIOD (R164): SCAN_PERIOD in minutes expires and requests a scan. It is counted from the entry to HARVEST or the last
request, in HARVEST only: the model's choice (log entry 166). -/
def harvestScanPeriod (c : GCtx) (s : GridSt) : GridSt :=
  let p := c.cv.harv.scanPeriod
  if s.m.mode = .harvest ∧ p ≠ 0 ∧ 60 * 500000000 * p ≤ s.harv.sincescan * c.ld then
    startScan c { s with harv := { s.harv with sincescan := 0 } }
  else s

/-- HARVEST_SCAN_END (R164): at SCAN_LO v_tgt takes the recorded value and tracking resumes upward. -/
def harvestScanEnd (c : GCtx) (s : GridSt) : GridSt :=
  let h := s.harv
  if h.scanning = true ∧ h.vTgt ≤ c.cv.harv.scanLo then
    { s with harv := { h with scanning := false, vTgt := h.bestV, up := true, doneV := h.bestV, doneP := h.bestP } }
  else s

/-- Automatic decisions of a cycle in the order of precedence: seat, trips, entry, exit, islanding. -/
def rideDecisions (c : GCtx) (s : GridSt) : GridSt :=
  islandingDetected c (rideExit c (rideEntry c (rideTmax c (rideCurveTrip c (angleSeat c s)))))

end Sys2Proof.Machine
end

