-- ==== Sys2Proof/Machine/Control.lean ====
section
/-! DEFINITION. Current control, outer loops, grid forming, hand-over and compensation (spec/05 R106 to R110, R122 to
R139, spec/06 R149, R150, R154, R159, R163). -/

namespace Sys2Proof.Machine

/-- Current control acts (R122, R149, R150). -/
def curActs (m : ModeSt) : Bool :=
  match m.mode with
  | .reactive | .follow | .dcSlack | .harvest | .acRide => true
  | .dcRide => m.ret != .form
  | _ => false

/-- The functions of the Grid stage that act in this cycle (R122, R127, R150, R163): the mode decides, with Q_MODE for the reactive
side and, in DC_RIDE, the condition that was met. -/
def acts (c : GCtx) (s : GridSt) : Acts :=
  let m := s.m.mode
  let qVac := decide (nth c.inp.sp 5 0 = 1)
  let qLoop := m == .reactive || m == .follow || m == .dcSlack || m == .harvest
  let central := m == .harvest && !c.cv.harv.perBrick
  let ovr := m == .dcRide && s.m.ret != .form && s.ride.dcOver
  let form := s.m.forming
  { cur := curActs s.m, p := m == .follow || m == .dcSlack || central || ovr, q := qLoop && !qVac, vac := qLoop && qVac,
    dc := m == .dcSlack || ovr, lt := m == .lineTest, pv := central, form := form,
    rampP := m == .follow || form, rampQ := qLoop && !qVac, rampVac := (qLoop && qVac) || form, rampF := form, rampVdc := m == .dcSlack }

/-- The group's current limit (R123). -/
def iMax (c : GCtx) : Pu := if c.inp.degraded then c.gc.cur.iMaxDeg else c.gc.cur.iMax

/-- max(x, 0.1) as the loops divide by it. -/
def atLeastTenth (x : Pu) : Pu := if x < pu 1 10 then pu 1 10 else x

/-- A vector limited to a length (R123 step 1). -/
def limitLen (lim : Pu) (v : V2) : V2 :=
  let n := norm v
  if lim < n then v.scale lim n.toNat else v

/-- sqrt(a² − b²), 0 where b exceeds a. -/
def legOf (a b : Pu) : Pu := satPu (Config.sqrt56 (a * a - b * b).toNat)

/-- R123: the four references limited, and whether any limit acted. Where |i−_ref| exceeds I_MAX nothing is left for the positive
sequence: I_AVAIL is then taken as 0 (log entry 117). -/
def limitRefs (c : GCtx) (r : V4) : V4 × Bool :=
  let n := limitLen c.gc.cur.iMaxNeg ⟨r.dn, r.qn⟩
  let avail : Pu := max 0 (iMax c - norm n)
  let first := clampI (-avail) avail
  let out : V4 := if c.gc.cur.priorityP then
      let d := first r.dp
      let lim := legOf avail d
      ⟨d, clampI (-lim) lim r.qp, n.d, n.q⟩
    else
      let q := first r.qp
      let lim := legOf avail q
      ⟨clampI (-lim) lim r.dp, q, n.d, n.q⟩
  (out, decide (out ≠ r))

/-- i_q+ in AC_RIDE (R149): I_Q_PRE less the injection, narrowed once. -/
def rideIq (c : GCtx) (s : GridSt) : Pu :=
  let p := c.cv.recov
  let dv := s.ride.vPre - s.det.vDet
  let inj : Int := if p.db < dv then p.kPos * (dv - p.db) else if dv < -p.db then p.kPos * (dv + p.db) else 0
  narrow56 (at56 s.ride.iQPre - inj)

/-- The references of the ride-through modes (R149, R150), before limits. R150 names no negative-sequence references for DC_RIDE: the
model takes those of AC_RIDE (log entry 165). -/
def rideRefs (c : GCtx) (s : GridSt) : V4 :=
  let p := c.cv.recov
  let r := s.ride
  let dn := mulPu p.kNeg s.sync.negV.q
  let qn := mulPu (-p.kNeg) s.sync.negV.d
  match s.m.mode with
  | .acRide =>
    let id := if p.actMode = 0 then r.iDPre else if p.actMode = 1 then satPu (roundDiv (r.iDPre * s.det.vDet) r.vPre.toNat) else 0
    ⟨id, rideIq c s, dn, qn⟩
  | _ => ⟨if r.dcOver then s.loop.idRef else 0, if acEntry c s then rideIq c s else r.iqHeld, dn, qn⟩

/-- R126, R127: a ramped reference, starting at the measured value in the first cycle its loop acts. -/
def rampRef (c : GCtx) (starts : Bool) (measured x target rate : Pu) : Pu :=
  if starts then measured else if c.inp.outer then rampTo x target (rateStep rate c.ld) else x

/-- R127, R154: the five ramped references of the group; a recovery rate holds until its ramp first reaches its word. Q_MODE
changed within a mode starts the newly acting loop's ramp like a new mode (log entry 121). On the return from DC_RIDE to FORM, whose
ramps acted in DC_RIDE, they go on and do not start at the measured values: the model's choice (log entry 165). -/
def ramps (c : GCtx) (a : Acts) (s : GridSt) : LoopSt :=
  let l := s.loop
  let p := c.gc.loops
  let o := s.acted
  let rp := if l.recovP then c.cv.recov.recovRampP else p.rampP
  let rq := if l.recovQ then c.cv.recov.recovRampQ else p.rampQ
  let rv := if l.recovV then c.cv.recov.recovRampQ else p.rampVac
  let pR := if a.rampP then rampRef c (!o.rampP) l.p l.pR (c.sp 0) rp else l.pR
  let qR := if a.rampQ then rampRef c (!o.rampQ) l.q l.qR (c.sp 1) rq else l.qR
  let vacR := if a.rampVac then rampRef c (!o.rampVac) (norm s.sync.posV) l.vacR (c.sp 2) rv else l.vacR
  let fR := if a.rampF then rampRef c (!o.rampF) s.sync.w l.fR (c.sp 3) p.rampF else l.fR
  let vdcR := if a.rampVdc then rampRef c (!o.rampVdc) l.vdc l.vdcR (c.sp 4) p.rampVdc else l.vdcR
  { l with pR := pR, qR := qR, vacR := vacR, fR := fR, vdcR := vdcR, recovP := l.recovP && a.rampP && pR != c.sp 0,
           recovQ := l.recovQ && a.rampQ && qR != c.sp 1, recovV := l.recovV && a.rampVac && vacR != c.sp 2 }

/-- How a controller of the outer loop runs in a cycle: it starts (its integrator is preloaded, R107, R142), its integrator is held
(R140), or it runs. -/
structure LoopRun where
  starts : Bool
  held : Bool
  deriving DecidableEq, Repr

/-- One outer-loop controller (R126, R107): integrator and output. `rest` is the output without the integrator (84 fractional
bits), `err` its error (56), `wanted` what the output was before; at a start the output follows from the saturated load. -/
def runLoop (c : GCtx) (r : LoopRun) (lim ki : Pu) (rest err : Int) (wanted x out : Pu) : Pu × Pu :=
  if r.starts then
    let x := preload (-lim) lim wanted rest
    (x, narrow (rest + at84 x))
  else if c.inp.outer then
    let x := if r.held then x else integrate (-lim) lim ki err c.ld x
    (x, narrow (rest + at84 x))
  else (x, out)

/-- A loop that acted in the cycle before, or not: it starts also when the AC current is back after a hold (R142). -/
def GridSt.loopRun (s : GridSt) (acted : Bool) : LoopRun := ⟨!acted || s.returned 1, (s.fbAt 1).hold⟩

/-- The value p_ref_r had in the cycle before (R107): the reference of the loop that set it; none did: the measured power (log
entry 119). -/
def GridSt.pRefWas (s : GridSt) : Pu :=
  if s.acted.rampP || s.acted.dc || s.acted.pv then s.loop.pR else s.loop.p

/-- The DC voltage loop of R129: p_ref_r for the reference `ref`, `was` its value in the cycle before; held with the DC pole
voltage, and p_ff with the DC pole current (R140). -/
def dcLoop (c : GCtx) (s : GridSt) (l : LoopSt) (was ref : Pu) : LoopSt :=
  let p := c.gc.loops
  let r := s.loopRun s.acted.dc
  if (s.fbAt 2).hold then { l with pR := if s.acted.dc then l.pR else was }
  else
    let e := at56 (l.vdc - ref) + p.dcDroop * l.p
    let pff := if (s.fbAt 3).hold then l.pFf else mulPu l.vdc l.idc
    let ff : Int := if (s.fbAt 3).hold then at84 pff else at56 (l.vdc * l.idc)
    let o := runLoop c { r with starts := r.starts || s.returned 2 } (iMax c) p.kiDc (ff + p.kpDc * e) e was l.xdc l.pR
    { l with xdc := o.1, pFf := pff, pR := clampI (-p.pLim) p.pLim o.2 }

/-- The active power loop of R128. -/
def pLoop (c : GCtx) (s : GridSt) (l : LoopSt) : LoopSt :=
  let p := c.gc.loops
  let e := at56 (l.pR - l.p)
  let o := runLoop c (s.loopRun s.acted.p) (iMax c) p.kiP (quot84 l.pR (atLeastTenth s.sync.posV.d) + p.kpP * e) e l.idRef l.xp l.idRef
  { l with xp := o.1, idRef := o.2 }

/-- The reactive power or AC voltage loop of R128, whose output is −i_q+. -/
def qLoop (c : GCtx) (a : Acts) (s : GridSt) (l : LoopSt) : LoopSt :=
  let p := c.gc.loops
  if a.vac then
    let e := at56 (l.vacR - norm s.sync.posV)
    let o := runLoop c (s.loopRun s.acted.vac) (iMax c) p.kiVac (p.kpVac * e) e (-l.iqRef) l.xvac (-l.iqRef)
    { l with xvac := o.1, iqRef := satPu (-o.2) }
  else if a.q then
    let e := at56 (l.qR - l.q)
    let o := runLoop c (s.loopRun s.acted.q) (iMax c) p.kiQ (quot84 l.qR (atLeastTenth s.sync.posV.d) + p.kpQ * e) e (-l.iqRef) l.xq (-l.iqRef)
    { l with xq := o.1, iqRef := satPu (-o.2) }
  else l

/-- The state best-point tracking enters HARVEST with (R162). -/
def HarvSt.enter (vdc : Pu) (h : HarvSt) : HarvSt :=
  { h with vTgt := vdc, up := true, holds := 0, pSum := [], curtailed := false, scanning := false, skip := false, sincescan := 0 }

/-- R163: the source voltage loop of central tracking sets p_ref_r, its integrator held while the output is saturated; sampling of
p_mean (R162) and the sweep of a scan (R164). `was` is p_ref_r of the cycle before. -/
def harvestLoop (c : GCtx) (was : Pu) (s : GridSt) : GridSt :=
  let p := c.cv.harv
  let l := s.loop
  let r := s.loopRun s.acted.pv
  let h := if !s.acted.pv && !isRide s.m.mode0 then s.harv.enter l.vdc else s.harv
  let lim := c.sp 0
  let e := at56 (l.vdc - h.vTgt)
  let base := at56 (l.vdc * l.idc) + p.kpPv * e
  let load := preload (-iMax c) (iMax c) was base
  let x := if r.starts then load else if c.inp.outer && !r.held then integrate (-iMax c) (iMax c) p.kiPv e c.ld h.xpv else h.xpv
  let raw := narrow (base + at84 x)
  let out := clampI 0 lim raw
  let h := if r.starts || c.inp.outer then { h with xpv := if r.starts || raw = out then x else h.xpv, curtailed := decide (lim ≤ raw) } else h
  let h := if c.inp.outer then
      { h with pSum := l.vdc * l.idc :: h.pSum,
               vTgt := if h.scanning then max p.scanLo (h.vTgt - rateStep p.scanRate c.ld) else h.vTgt } else h
  { s with harv := h, loop := { l with pR := if r.starts || c.inp.outer then out else l.pR } }

/-- R122: i_d+ from the total-energy demand of the Arm stage, with the present v_d+. -/
def demandRef (s : GridSt) : Pu := divPu s.bal.pDem (atLeastTenth s.sync.posV.d)

/-- R130: the ramp and the DC current reference of LINE_TEST; the reference is held with the DC pole voltage, the integrator with the
AC current (R140). -/
def lineTestLoop (c : GCtx) (s : GridSt) (l : LoopSt) : LoopSt :=
  let p := c.gc.loops
  let r := s.loopRun s.acted.lt
  let v := rampRef c (!s.acted.lt) l.vdc l.vLt c.md.ltTarget c.md.ltRamp
  let was := if s.acted.lt then l.iDcRef else 0
  if (s.fbAt 2).hold then { l with vLt := v, iDcRef := was }
  else
    let e := at56 (v - l.vdc)
    let o := runLoop c { r with starts := r.starts || s.returned 2 } (iMax c) p.kiDc (p.kpDc * e) e was l.xdc l.iDcRef
    { l with vLt := v, xdc := o.1, iDcRef := clampI (-iMax c) (iMax c) o.2 }

/-- The outer loops of the mode (R126 to R130, R149, R150, R163): ramps, then the loops in the order in which one sets another's
reference. A mode entered from one without current control starts its current references at the measured current (log entry 119). In
per-brick HARVEST R165's limit to the active P_REF word is taken as i_d+ clamped to plus or minus P_REF (log entry 166). -/
def outerLoops (c : GCtx) (a : Acts) (s : GridSt) : GridSt :=
  let was := s.pRefWas
  let l0 := s.loop
  let l0 := if a.cur && !s.acted.cur then { l0 with idRef := s.sync.posI.d, iqRef := s.sync.posI.q } else l0
  let s := { s with loop := l0 }
  let s := { s with loop := ramps c a s }
  let s := if a.dc then { s with loop := dcLoop c s s.loop was (if s.m.mode == .dcRide then c.cv.recov.dcRideRef else s.loop.vdcR) } else s
  let s := if a.pv then harvestLoop c was s else s
  let l := s.loop
  let l := if a.p then pLoop c s l else l
  let l := qLoop c a s l
  let l := if a.lt then lineTestLoop c s l else l
  let s := { s with loop := l }
  match s.m.mode with
  | .reactive => { s with loop := { l with idRef := demandRef s } }
  | .harvest =>
    if c.cv.harv.perBrick then { s with loop := { l with idRef := clampI (-(c.sp 0)) (c.sp 0) (demandRef s) } } else s
  | .acRide | .dcRide =>
    if s.m.ret == .form then s
    else { s with loop := { l with idRef := (rideRefs c s).dp, iqRef := (rideRefs c s).qp } }
  | _ => s

/-- The four references before limits (R122, R149, R150, R159). -/
def wantedRefs (c : GCtx) (s : GridSt) : V4 :=
  match s.m.mode with
  | .acRide | .dcRide => rideRefs c s
  | _ => ⟨s.loop.idRef, addPu s.loop.iqRef (if pulseOn c s then c.cv.isl.aiAmp else 0), 0, 0⟩

/-- R125 scaled the output in the cycle before, N_k of that cycle, and the error would drive it further. -/
def furtherOut (satd : Bool) (err : Int) (out : Pu) : Bool := satd && ((0 < err && 0 < out) || (err < 0 && out < 0))

/-- One axis of R124: integrator and output, narrowed once; `cross` has 84 fractional bits. -/
def axis (c : GCtx) (first held : Bool) (ff err x : Pu) (cross : Int) (wanted : Pu) : Pu × Pu :=
  let p := c.gc.cur
  let e := at56 err
  let rest := at84 ff + p.ccKp * e + cross
  let x := if first then preload (-p.ciLim) p.ciLim wanted rest
    else if held then x else integrate (-p.ciLim) p.ciLim p.ccKi e c.l x
  (x, narrow (rest + at84 x))

/-- R124: both sequences; `first` preloads the integrators to the last output (R107): the faded one at hand-over (R108), the held N_k
where the controller acted in the cycle before and the AC current is back (R142). -/
def currentControl (c : GCtx) (first : Bool) (s : GridSt) : V4 × V4 :=
  let y := s.sync
  let r := s.cur.ref
  let o := if s.acted.cur then s.cur.n else s.cur.out
  let z := s.cur.n
  let x := s.cur.x
  let wx := y.w * c.gc.cur.xEq
  let k := s.cur.sat
  let ed := r.dp - y.posI.d
  let eq := r.qp - y.posI.q
  let nd := r.dn - y.negI.d
  let nq := r.qn - y.negI.q
  let a := axis c first (furtherOut k ed z.dp) y.posV.d ed x.dp (-(wx * y.posI.q)) o.dp
  let b := axis c first (furtherOut k eq z.qp) y.posV.q eq x.qp (wx * y.posI.d) o.qp
  let e := axis c first (furtherOut k nd z.dn) y.negV.d nd x.dn (wx * y.negI.q) o.dn
  let f := axis c first (furtherOut k nq z.qn) y.negV.q nq x.qn (-(wx * y.negI.d)) o.qn
  (⟨a.1, b.1, e.1, f.1⟩, ⟨a.2, b.2, e.2, f.2⟩)

/-- R125: both vectors scaled by one factor so that the sum of their lengths is V_OUT_MAX. -/
def limitOut (c : GCtx) (h : V4) : V4 × Bool :=
  let n := norm ⟨h.dp, h.qp⟩ + norm ⟨h.dn, h.qn⟩
  if c.gc.cur.vOutMax < n then
    let a := V2.scale ⟨h.dp, h.qp⟩ c.gc.cur.vOutMax n.toNat
    let b := V2.scale ⟨h.dn, h.qn⟩ c.gc.cur.vOutMax n.toNat
    (⟨a.d, a.q, b.d, b.q⟩, true)
  else (h, false)

/-- R131: the frequency of the forming oscillator, an outer-loop function. -/
def formDroop (c : GCtx) (s : GridSt) : GridSt :=
  if c.inp.outer then
    let fr := c.gc.sync.freqRange
    let w := clampI (one - fr) (one + fr) (narrow56 (at56 s.loop.fR - c.gc.form.fDroop * (s.loop.p - s.loop.pR)))
    { s with form := { s.form with w := w } }
  else s

/-- R132: the magnitude controller and the virtual impedance; its integrator is held with the AC voltage and preloaded to the last
v_d+ when it starts (R107, R140, R142). -/
def formControl (c : GCtx) (s : GridSt) : GridSt × V4 :=
  let p := c.gc.form
  let y := s.sync
  let ev := at56 (s.loop.vacR - norm y.posV)
  let n := norm y.posI
  let k : Pu := if p.iLim < n then narrow (at84 one - quot84 p.iLim n) else 0
  let imp (a b : Pu) (sgn : Int) : Int := k * (p.rv * a + sgn * (p.xvImp * b))
  let rest := p.kp * ev - imp y.posI.d y.posI.q (-1)
  let starts := !s.acted.form || s.returned 0 || s.returned 1
  let xv := if starts then preload p.vmin p.vmax (if s.acted.form then s.cur.n.dp else s.cur.out.dp) rest
    else if (s.fbAt 0).hold then s.form.xv else integrate p.vmin p.vmax p.ki ev c.l s.form.xv
  let h : V4 := ⟨narrow (rest + at84 xv), narrow (-imp y.posI.q y.posI.d 1), narrow (-imp y.negI.d y.negI.q 1),
                 narrow (-imp y.negI.q y.negI.d (-1))⟩
  ({ s with form := { s.form with xv := xv }, cur := { s.cur with formVirt := decide (0 < k) } }, h)

/-- Transitions that take no cross-fade (R110, R154). -/
def noFade (m : ModeSt) : Bool :=
  match m.mode with
  | .blocked | .isolated | .charge | .acRide | .dcRide => true
  | _ => m.cause == 2

/-- R109, R110: the output passed to the Arm stage. -/
def fade (c : GCtx) (s : GridSt) (n : V4) : GridSt :=
  let oh := s.cur.out
  let f0 := if s.m.changed then
      if noFade s.m then { s.fade with left := 0, k := 0, f := 0 }
      else
        let d := n.sub oh
        let diff := clampN 0xFFFF (d.maxAbs / 0x10000)
        if d = V4.zero then { s.fade with left := 0, k := 0, f := 0, diff := diff }
        else ⟨c.md.fadeLen, 0, c.md.fadeLen, oh, diff⟩
    else s.fade
  if f0.left = 0 then { s with fade := f0, cur := { s.cur with n := n, out := n } }
  else
    let k := f0.k + 1
    let mix (o x : Pu) : Pu := satPu (roundDiv (o * f0.f + k * (x - o)) f0.f)
    let out : V4 := ⟨mix f0.oh.dp n.dp, mix f0.oh.qp n.qp, mix f0.oh.dn n.dn, mix f0.oh.qn n.qn⟩
    { s with fade := { f0 with k := k, left := f0.left - 1 }, cur := { s.cur with n := n, out := out } }

/-- FADE_END (R109): F cycles have been counted, FADING clears. -/
def fadeEnd (s : GridSt) : GridSt :=
  if s.fade.f ≠ 0 ∧ s.fade.left = 0 ∧ s.fade.f ≤ s.fade.k then { s with fade := { s.fade with k := 0, f := 0 } } else s

/-- H of the cycle (R106, R122 to R132, R140, R143): held while the AC current is held in a mode that controls it, N_k then being
the held H; from current control; from the forming controller; else the measured terminal voltage. -/
def output (c : GCtx) (s : GridSt) : GridSt :=
  let quiet (s : GridSt) : GridSt :=
    { s with cur := { s.cur with sat := false, voutSat := false, imaxActive := false, formVirt := false } }
  if (s.fbAt 1).hold && (curActs s.m || s.m.forming) then fade c (quiet s) (if s.m.changed then s.cur.out else s.cur.n)
  else if curActs s.m then
    let want := wantedRefs c s
    let lim := limitRefs c want
    let s := pulseCut c { s with cur := { s.cur with want := want, ref := lim.1, imaxActive := lim.2 } }
    let xo := currentControl c (!s.acted.cur || s.returned 1) s
    let out := limitOut c xo.2
    fade c { s with cur := { s.cur with x := xo.1, sat := out.2, voutSat := out.2, formVirt := false } } out.1
  else if s.m.forming then
    let fh := formControl c s
    let out := limitOut c fh.2
    fade c { fh.1 with cur := { fh.1.cur with sat := out.2, voutSat := out.2, imaxActive := false } } out.1
  else fade c (quiet s) ⟨s.sync.posV.d, s.sync.posV.q, s.sync.negV.d, s.sync.negV.q⟩

/-- The Grid stage after its decisions: measurement, outer loops, then H; it remembers what acted (R106 to R132). -/
def gridControl (c : GCtx) (s : GridSt) : GridSt :=
  let s := measureDc (measureCurrent c s)
  let a := acts c s
  let s := outerLoops c a s
  let s := if s.m.forming then formDroop c s else s
  let s := if c.inp.outer then pulseSample c s else s
  let s := if s.m.mode == .harvest && c.inp.outer then { s with harv := { s.harv with sincescan := s.harv.sincescan + 1 } } else s
  let s := if s.m.mode ≠ .harvest ∧ s.harv.frozen = false then { s with harv := abortScan s.harv } else s
  let s := output c s
  { s with acted := a }

/-- The tables of R138 that act in a mode, with their numbers. -/
def actingTables (c : GCtx) (m : Mode) : List (Nat × CompTable) :=
  c.comp.filter fun t => testBit t.2.modes (modeCode m)

/-- The scale of a compensation table (R138). -/
def compScale (s : GridSt) (src : Nat) : Pu :=
  match src with
  | 1 => norm s.sync.posI
  | 2 => norm ⟨s.cur.ref.dp, s.cur.ref.qp⟩
  | 3 => s.loop.p
  | 4 => norm s.sync.posV
  | _ => one

/-- One table's term for phase ph (R139), before narrowing: 84 fractional bits. -/
def compTerm (s : GridSt) (th ph : Nat) (t : CompTable) : Int :=
  let a := addAngle th ((t.offset : Int) - ph * 0x55555555)
  let i := a / 0x400000
  let f := a / 0x40 % 0x10000
  let v := nth t.entries i 0 + (nth t.entries ((i + 1) % 1024) 0 - nth t.entries i 0) * f / 0x10000
  t.gain * compScale s t.scaleSrc * v

/-- The least COMP_MAX among the acting tables (R138). -/
def compLimit : List (Nat × CompTable) → Pu
  | [] => 0
  | [t] => t.2.compMax
  | t :: r => let m := compLimit r; if t.2.compMax < m then t.2.compMax else m

/-- R139: the three sums, whether one was saturated, and the mask of the tables that act. -/
def compensation (c : GCtx) (s : GridSt) (th : Nat) : V3 × Bool × Nat :=
  let ts := actingTables c s.m.mode
  let lim := compLimit ts
  let raw (ph : Nat) : Pu := narrow (sumI (ts.map fun t => compTerm s th ph t.2))
  let sat (x : Int) : Pu := clampI (-lim) lim x
  (⟨sat (raw 0), sat (raw 1), sat (raw 2)⟩,
   decide (sat (raw 0) ≠ raw 0) || decide (sat (raw 1) ≠ raw 1) || decide (sat (raw 2) ≠ raw 2),
   sumN (ts.map fun t => 2 ^ t.1))

end Sys2Proof.Machine
end

