-- ==== Sys2Proof/Machine/Arm.lean ====
section
/-! DEFINITION. The Arm stage (spec/07): presence means, energy balancing, circulating current, arm voltage references,
insertion counts, limits, charging, discharging and chopper tiles. -/

namespace Sys2Proof.Machine

/-- vbar and e_arm of R169 from exact integer sums of reports. -/
def TileSum.vbar (t : TileSum) : Pu := if t.np = 0 then 0 else satPu (roundDiv (t.sum * 0x4000) t.np)
def TileSum.earm (t : TileSum) : Pu := if t.np = 0 then 0 else satPu (roundDiv t.sq t.np)

/-- The presence sums of an empty tile. -/
def TileSum.zero : TileSum := ⟨0, 0, 0, 0, 0xFFFF⟩

/-- Sums over the present reports of a tile (R169). -/
def tileSum (ps : List (Nat × Nat)) : TileSum :=
  ps.foldl (fun t p => ⟨t.np + 1, t.sum + p.2, t.sq + p.2 * p.2, max t.hi p.2, min t.lo p.2⟩) .zero

/-- AC arm tiles of a blocked mode are blocked (R86); chopper tiles also throughout CHARGE. -/
def acBlocked (m : ModeSt) : Bool :=
  match m.mode with
  | .isolated | .blocked => true
  | .charge => !m.phaseCtrl
  | _ => false
def chopBlocked (m : ModeSt) : Bool :=
  match m.mode with
  | .isolated | .blocked | .charge => true
  | _ => false

/-- The tile's broadcast orders every brick blocked (R86). -/
def tileBlocked (t : TileType) (m : ModeSt) : Bool := if t = .ac then acBlocked m else chopBlocked m

/-- Modes in which the balancing controllers act (R172). -/
def balActs : Mode → Bool
  | .isolated | .blocked | .charge => false
  | _ => true

/-- Route of the total-energy demand exists (R172). -/
def demActs : Mode → Bool
  | .isolated | .blocked | .charge | .lineTest | .discharge => false
  | _ => true

/-- KV = V_AC_BASE / V_DC_BASE (R168). -/
def kv (c : GCtx) : Pu := satPu (roundDiv (c.fm.vAcBase * 0x10000000) c.fm.vDcBase)

/-- Position in `c.tiles` of the arm of phase x, upper or lower (R167). -/
def armIndex (c : GCtx) (x : Nat) (lower : Bool) : Nat :=
  (c.tiles.findIdx? fun t => t.2.type = .ac && t.2.phase = x && t.2.lower = lower).getD 12

/-- Sums of the arm, its measured current. -/
def armSum (c : GCtx) (x : Nat) (lower : Bool) : TileSum := nth c.sums (armIndex c x lower) .zero
def armCur (c : GCtx) (x : Nat) (lower : Bool) : Option Pu := nth c.inp.armI (armIndex c x lower) none

/-- Half of a sum. -/
def half (x : Int) : Pu := satPu (roundDiv x 2)

/-- Energies of the legs, their differences and the total (R169). -/
def energies (c : GCtx) : List Pu × List Pu × Pu :=
  let u (x : Nat) := (armSum c x false).earm
  let l (x : Nat) := (armSum c x true).earm
  let leg := (List.range 3).map fun x => half (u x + l x)
  (leg, (List.range 3).map (fun x => satPu (u x - l x)), meanI leg)

/-- One balancing controller (R171): its integrator and its output sat(kp × error + x), the error with 56 fractional bits; at a start
it is preloaded to a driven quantity of 0 (R107). -/
def balancer (c : GCtx) (starts : Bool) (lim kp ki : Pu) (err : Int) (x : Pu) : Pu × Pu :=
  let rest := kp * err
  let x := if starts then preload (-lim) lim 0 rest else integrate (-lim) lim ki err c.ld x
  (x, clampI (-lim) lim (narrow (rest + at84 x)))

/-- R171: the balancing controllers. Where they do not act they hold their integrators, and what they drive is 0. -/
def balance (c : GCtx) (s : GridSt) : GridSt :=
  let en := energies c
  let act := balActs s.m.mode
  let dem := demActs s.m.mode
  let b := { s.bal with eLeg := en.1, d := en.2.1, eTot := en.2.2, ran := act, demRan := dem, pDem := if dem then s.bal.pDem else 0,
                        ih := if act then s.bal.ih else [0, 0, 0], g := if act then s.bal.g else [0, 0, 0] }
  let p := c.gc.bal
  if act = false || (!c.inp.outer && s.bal.ran && (s.bal.demRan || !dem)) then { s with bal := b } else
    let first := !s.bal.ran
    let e := if dem then balancer c (!s.bal.demRan) p.pDemMax p.kpE p.kiE (at56 (b.eTot - p.eRef)) b.xe else (b.xe, 0)
    let h := (List.range 3).map fun x => balancer c first p.iHMax p.kpH p.kiH (at56 (nth b.eLeg x 0 - b.eTot)) (nth b.xh x 0)
    let sum := sumI (h.map fun r => -r.2)
    let v := (List.range 3).map fun x => balancer c first p.iVMax p.kpV p.kiV (at56 (nth b.d x 0)) (nth b.xv x 0)
    { s with bal := { b with xe := e.1, pDem := e.2, xh := h.map (·.1), ih := h.map fun r => satPu (roundDiv (-(3 * r.2) - sum) 3),
                             xv := v.map (·.1), g := v.map (·.2) } }

/-- Chopper tiles of the group. -/
def chopCount (c : GCtx) : Nat := (c.tiles.filter fun t => t.2.type = .chopper).length

/-- i_ch_ref of a chopper tile in DISCHARGE (R186). -/
def disChopRef (c : GCtx) (vdc : Pu) : Pu := if c.md.disDone < vdc then c.gc.arm.disIch else 0

/-- i_dc_ref of R172. -/
def idcRef (c : GCtx) (s : GridSt) : Pu :=
  match s.m.mode with
  | .reactive => s.loop.idc
  | .harvest => if c.cv.harv.perBrick then s.loop.idc else divPu (s.loop.p - s.bal.pDem) (atLeastTenth s.loop.vdc)
  | .follow | .dcSlack | .form | .acRide | .dcRide => divPu (s.loop.p - s.bal.pDem) (atLeastTenth s.loop.vdc)
  | .lineTest => s.loop.iDcRef
  | .discharge => satPu (-(chopCount c * disChopRef c s.loop.vdc))
  | _ => 0

/-- R176: the three phase references from H at th_exec, per unit of V_AC_BASE, before compensation. -/
def phaseRefs (h : V4) (th : Nat) : V3 :=
  let cs := Config.cosTurn th
  let sn := Config.sinTurn th
  let al := h.dp * cs - h.qp * sn + h.dn * cs + h.qn * sn
  let be := h.dp * sn + h.qp * cs - h.dn * sn + h.qn * cs
  let b3 := roundDiv (be * Config.sqrt3q60) 0x1000000000000000
  ⟨satPu (roundDiv al 0x40000000), satPu (roundDiv (b3 - al) 0x80000000), satPu (roundDiv (-b3 - al) 0x80000000)⟩

/-- Component x of a three-phase quantity. -/
def V3.at (v : V3) : Nat → Pu
  | 0 => v.a | 1 => v.b | _ => v.c

/-- The AC current feedback is not taken from the arm currents of leg x (R175). -/
def legHeld (c : GCtx) (s : GridSt) (x : Nat) : Bool :=
  (s.fbAt 1).hold || (s.fbAt 1).alt || (Formats.sig c.fm 1).primary != .arms
    || (armCur c x false).isNone || (armCur c x true).isNone

/-- The arm current limit in force (R181). -/
def armLimit (c : GCtx) : Pu := if c.inp.degraded then c.gc.arm.iArmLimDeg else c.gc.arm.iArmLim

/-- L × w_n × x (R174): the cross term of a resonator at harmonic n, of a state x and in its fractional bits. -/
def resStep (c : GCtx) (w : Pu) (x : Int) (n : Nat) : Int :=
  roundDiv (w * Config.twoPi60 * (n * c.gc.sync.fNom) * c.l * x) (0x10000000 * 500000000 * 0x1000000000000000)

/-- One step of the resonant pair at harmonic n (R174): the second state follows the first before it is saturated. -/
def resonator (c : GCtx) (w kr : Pu) (ez : Int) (ra rb : Pu) (n : Nat) : Pu × Pu :=
  let lim := c.gc.bal.vzMax
  let a := at84 ra + overTime kr (at56 ez) c.l - resStep c w (at84 rb) n
  (clampI (-lim) lim (narrow a), narrow (at84 rb + resStep c w a n))

/-- The arms of leg x run as above a limit (R181). -/
def legOver (c : GCtx) (x : Nat) : Bool :=
  let ovr (lower : Bool) : Bool := match armCur c x lower with
    | some i => decide (armLimit c < (i.natAbs : Int))
    | none => false
  ovr false || ovr true

/-- i_dis of R183 with 58 fractional bits: the discharge circulation of phase x. -/
def disCirculation (c : GCtx) (s : GridSt) (x : Nat) : Int :=
  if s.m.mode = .discharge then c.gc.arm.disIz * Config.cosTurn (addAngle s.bal.thDis (-(x * 0x55555555 : Nat))) else 0

/-- R173, R181: the leg current reference, and whether the saturation and the limit acted. In the controlled phase of CHARGE the
reference is 0 and the limit is tested too. -/
def legRef (c : GCtx) (s : GridSt) (h : V4) (e : V3) (x : Nat) : Pu × Bool × Bool :=
  let p := c.gc.bal
  let lim := fun (y : Pu) => clampI (-p.iZMax) p.iZMax y
  let act := balActs s.m.mode
  let idc : Int := if act then roundDiv (at84 (idcRef c s)) 3 else 0
  if !acBlocked s.m && legOver c x then
    let iu := (armCur c x false).getD 0
    let il := (armCur c x true).getD 0
    let base := narrow idc
    let r := lim base
    let room := max 0 (armLimit c - ((half (iu - il)).natAbs : Int))
    (clampI (-room) room r, decide (base ≠ r), true)
  else if act then
    let eHat := divPu (e.at x) (atLeastTenth (norm ⟨h.dp, h.qp⟩))
    let raw := narrow (idc + at84 (nth s.bal.ih x 0) + at56 (nth s.bal.g x 0 * eHat) + disCirculation c s x * 0x4000000)
    let r := lim raw
    (r, decide (raw ≠ r), false)
  else (0, false, false)

/-- R174, R175: one cycle of the circulating-current controller of leg x. `ovr` and `under` say that an arm of the leg was held at
that count limit in the cycle before: a negative error drives the arms further over, a positive one further under. It acts in the
modes of R172 and is held with the arm currents. -/
def legControl (c : GCtx) (s : GridSt) (ref : Pu) (x : Nat) (ovr under : Bool) (g : LegSt) : LegSt :=
  let p := c.gc.bal
  let hold := legHeld c s x
  let iz := half ((armCur c x false).getD 0 + (armCur c x true).getD 0)
  let g1 := { g with izRef := ref, iz := if (armCur c x false).isNone || (armCur c x true).isNone then g.iz else iz, hold := hold, ran := false }
  if hold || !balActs s.m.mode then g1
  else
    let ez := ref - iz
    let w := if s.m.forming then s.form.w else s.sync.w
    let r1 := resonator c w p.kzR1 ez g.r1a g.r1b 1
    let r2 := resonator c w p.kzR2 ez g.r2a g.r2b 2
    let rest := p.kzP * at56 ez + at84 (r1.1 + r2.1)
    let further := (under && decide (0 < ez)) || (ovr && decide (ez < 0))
    let xz := if !g.ran then preload (-p.vzMax) p.vzMax g.vz rest
      else if further then g.xz else integrate (-p.vzMax) p.vzMax p.kzI (at56 ez) c.l g.xz
    { g1 with xz := xz, r1a := r1.1, r1b := r1.2, r2a := r2.1, r2b := r2.2, ran := true,
              vz := clampI (-p.vzMax) p.vzMax (narrow (rest + at84 xz)) }

/-- R178: count and fraction for a reference u: (n_q, under, over). -/
def insertion (u ratio vbar : Pu) (np : Nat) : Nat × Bool × Bool :=
  let vb := if vbar < pu 1 20 then pu 1 20 else vbar
  let n := roundDiv (u * ratio * 0x10000) (vb.toNat * 0x10000000)
  if n < 0 then (0, true, false) else if (np * 0x10000 : Nat) < n then (np * 0x10000, false, true) else (n.toNat, false, false)

/-- R180: the current sign from the measured current of the cycle. -/
def currentSign (hyst : Pu) (i : Option Pu) (old : Bool) : Bool :=
  match i with
  | none => true
  | some i => if hyst ≤ i then true else if i ≤ -hyst then false else old

/-- Modes in which the arm supervision of R170 is evaluated. -/
def supervised : Mode → Bool
  | .reactive | .follow | .dcSlack | .form | .harvest | .acRide | .dcRide | .lineTest => true
  | _ => false

/-- MIN_BRICKS of tile n of the group (R94). -/
def minBricks (c : GCtx) (n : Nat) : Nat := c.md.minBricks.getD (nth c.bound n 0)

/-- R170, R179, R181: supervision runs of an arm; those of R170 are held in the modes that do not evaluate them (R88). -/
def supervise (c : GCtx) (s : GridSt) (n : Nat) (a : ArmSt) : ArmSt :=
  let p := c.gc.arm
  let blocked := tileBlocked (nth c.tiles n (0, ⟨.idle, 0, [], [], 3, false⟩)).2.type s.m
  let sup := supervised s.m.mode
  let out := decide (p.vbarHi < a.vbar) || decide (a.vbar < p.vbarLo)
  let ovm := if a.ovr && !blocked then a.ovmRun + 1 else 0
  { a with vbarRun := if !sup then a.vbarRun else if out then satInc 1000000 a.vbarRun else 0, energyHeld := a.energyHeld && (!sup || out),
           ovmRun := ovm, ovmMark := if ovm = 0 then 0 else a.ovmMark }

/-- v_chg of R182 and the vbar that R178 uses. Where vbar of the first controlled cycle lies above CHG_TGT, which R182 does not provide
for, it falls to CHG_TGT at CHG_RATE: the model's choice (log entry 167). -/
def chargeTarget (c : GCtx) (s : GridSt) (a : ArmSt) (vbar : Pu) : Option Pu :=
  if s.m.mode = .charge ∧ s.m.phaseCtrl = true then
    match a.vChg with
    | none => some vbar
    | some v => some (rampTo v c.gc.arm.chgTgt (rateStep c.gc.arm.chgRate c.l))
  else none

/-- An AC arm tile in one cycle (R177 to R182). -/
def acArm (c : GCtx) (s : GridSt) (e : V3) (leg : LegSt) (zs il : Bool) (n : Nat) (t : TileCfg) (a : ArmSt) : ArmSt :=
  let sum := nth c.sums n .zero
  let i := nth c.inp.armI n none
  let vchg := chargeTarget c s a sum.vbar
  let vz := if s.m.mode = .charge ∧ s.m.phaseCtrl = true then 0 else leg.vz
  let ke := kv c * e.at t.phase
  let u := narrow56 (s.loop.vdc * 0x8000000 + (if t.lower then ke else -ke) - at56 vz)
  let q := insertion u c.fm.brickRatio (vchg.getD sum.vbar) sum.np
  supervise c s n { a with np := sum.np, vbar := sum.vbar, earm := sum.earm, u := u, nq := q.1, count := q.1 / 0x10000,
                           frac := q.1 % 0x10000, under := q.2.1, ovr := q.2.2, vChg := vchg, zrefSat := zs, ilim := il,
                           zhold := leg.hold, i := i.getD a.i, sign := currentSign c.gc.arm.isignHyst i a.sign, chopState := 0 }

/-- A chopper tile in one cycle (R184 to R186). In a chopper-only group DC_RIDE arms it (R90). While it is blocked its controller and
the state of its dissipation are held (R88). In a cycle whose string current is not valid i_ch is the last valid one: the model's choice,
where R184 is silent (log entry 167). -/
def chopArm (c : GCtx) (s : GridSt) (n : Nat) (a : ArmSt) : ArmSt :=
  let p := c.gc.chop
  let sum := nth c.sums n .zero
  let i := nth c.inp.armI n none
  let vdc := s.loop.vdc
  let blocked := chopBlocked s.m
  let riding := s.m.mode = .dcRide ∧ c.chopperOnly = false
  let dissip := if blocked then a.dissip else if a.dissip then decide (¬ vdc < p.chOff) else decide (p.chOn < vdc)
  let demand (ref : Pu) : Pu := clampI 0 p.chPmax (mulPu p.kpDis (vdc - ref))
  let pdis := if blocked then 0 else if riding then demand p.chRideRef else if s.m.mode = .discharge then 0
    else if dissip then demand p.chOff else 0
  let ref := if blocked then 0 else if s.m.mode = .discharge then disChopRef c vdc
    else clampI 0 p.chImax (divPu pdis (atLeastTenth vdc))
  let ech := at56 (ref - i.getD a.i)
  let rest := p.kpCh * ech
  let lim := c.gc.bal.vzMax
  let x := if blocked then a.xch else if !a.chRan then preload (-lim) lim a.chOut rest else integrate (-lim) lim p.kiCh ech c.l a.xch
  let out := if blocked then a.chOut else clampI (-lim) lim (narrow (rest + at84 x))
  let u := satPu (vdc - out)
  let q := insertion u c.fm.chRatio sum.vbar sum.np
  let st := if blocked then 0 else if riding ∨ s.m.mode = .discharge then 3 else if dissip then 2 else 1
  supervise c s n { a with np := sum.np, vbar := sum.vbar, earm := sum.earm, u := u, nq := q.1, count := q.1 / 0x10000,
                           frac := q.1 % 0x10000, under := q.2.1, ovr := q.2.2, i := i.getD a.i, xch := x, dissip := dissip,
                           pdis := pdis, ichRef := ref, chOut := out, chRan := !blocked,
                           sign := currentSign c.gc.arm.isignHyst i a.sign, chopState := st }

/-- What a tile that has no Grid stage takes from the group: the mode and the measurements, and no result of a Grid stage (R67), so that
H is 0, the frequency 1.0 pu and every Grid state at its initial value (log entry 168). -/
def GridSt.gridless (s : GridSt) : GridSt :=
  measureDc { s with sync := .init, cur := .init, loop := .init, form := .init }

/-- An AC arm tile without a Grid stage (R11). -/
def gridlessTile (t : TileCfg) : Bool := t.type = .ac && !t.stages.contains .grid

/-- The phase references of a cycle, without and with compensation, and the leg in the numbering of the leg controllers: 0 to 2 for the
tiles with a Grid stage, 3 to 5 for those without. -/
structure ArmRefs where
  s : GridSt
  e0 : V3
  e : V3
  deriving DecidableEq, Repr

/-- References from the Grid results of `s` at th_exec. -/
def armRefs (s : GridSt) (th : Nat) (comp : V3) : ArmRefs :=
  let e0 := phaseRefs s.cur.out th
  ⟨s, e0, ⟨addPu e0.a comp.a, addPu e0.b comp.b, addPu e0.c comp.c⟩⟩

/-- The Arm stage of a group in one cycle: balancing, legs and all its tiles. `olds` holds the tiles' states of the
cycle before, in the order of `c.tiles`. -/
def armStage (c : GCtx) (th : Nat) (comp : V3) (olds : List ArmSt) (s : GridSt) : GridSt × List ArmSt :=
  let s := measureDc s
  let s := balance c s
  let own := armRefs s th comp
  let s0 := s.gridless
  let th0 := thExec c s0
  let bare := armRefs s0 th0 (compensation c s0 th0).1
  let old (n : Nat) : ArmSt := nth olds n .init
  let legs := (List.range (if c.tiles.any fun t => gridlessTile t.2 then 6 else 3)).map fun y =>
    let x := y % 3
    let f := if y < 3 then own else bare
    let r := legRef c f.s f.s.cur.out f.e0 x
    let u := old (armIndex c x false)
    let l := old (armIndex c x true)
    (legControl c f.s r.1 x (u.ovr || l.ovr) (u.under || l.under) (nth s.legs y .init), r.2.1, r.2.2)
  let arms := (List.range c.tiles.length).map fun n =>
    let t := (nth c.tiles n (0, ⟨.idle, 0, [], [], 3, false⟩)).2
    if !t.stages.contains .arm then old n
    else if t.type = .ac then
      let g := nth legs (if gridlessTile t then t.phase + 3 else t.phase) (.init, false, false)
      let f := if gridlessTile t then bare else own
      acArm c f.s f.e g.1 g.2.1 g.2.2 n t (old n)
    else chopArm c s n (old n)
  let thDis := if s.m.mode = .discharge then
      addAngle s.bal.thDis (roundDiv (c.gc.arm.disF * c.l * 0x100000000) 500000000) else 0
  ({ s with legs := legs.map (·.1), bal := { s.bal with thDis := thDis } }, arms)

/-- Source numbers of the tile sources (R376). -/
def tileSource (t n : Nat) : Nat := 0x040 + 8 * t + n

/-- ARM_ENERGY_FAULT (R170): vbar out of its window for VBAR_N cycles; the raised source, if it is due. -/
def armEnergyFault (vbarN : Nat) (t : Nat) (a : ArmSt) : ArmSt × List Nat :=
  if 0 < a.vbarRun ∧ vbarN ≤ a.vbarRun ∧ a.energyHeld = false then ({ a with energyHeld := true }, [tileSource t 2]) else (a, [])

/-- OVERMODULATION_FAULT (R179): at every multiple of OVM_N consecutive switching cycles in OVER. -/
def overmodulationFault (ovmN : Nat) (t : Nat) (a : ArmSt) : ArmSt × List Nat :=
  if ovmN ≠ 0 ∧ a.ovmRun ≠ a.ovmMark ∧ 0 < a.ovmRun ∧ a.ovmRun % ovmN = 0 then
    ({ a with ovmMark := a.ovmRun }, [tileSource t 4]) else (a, [])

/-- Brick shortfall (R170) and arm overcurrent (R181), which no command of their own decides; a tile without an Arm stage has neither
(R67). -/
def armLevels (c : GCtx) (s : GridSt) (n t : Nat) (a : ArmSt) : ArmSt × List Nat :=
  if !(nth c.tiles n (0, ⟨.idle, 0, [], [], 3, false⟩)).2.stages.contains .arm then (a, []) else
  let short := supervised s.m.mode && decide (a.np < minBricks c n)
  let switching := !tileBlocked (nth c.tiles n (0, ⟨.idle, 0, [], [], 3, false⟩)).2.type s.m
  let trip := switching && decide (c.gc.arm.iArmTrip < (a.i.natAbs : Int)) && (nth c.inp.armI n none).isSome
  ({ a with shortHeld := short, tripHeld := trip },
   (if short && !a.shortHeld then [tileSource t 3] else []) ++ (if trip then [tileSource t 5] else []))

end Sys2Proof.Machine
end

