-- ==== Sys2Proof/Machine/Modes.lean ====
section
/-! DEFINITION. Operating modes (spec/04): the transition table, the checks of a command, the preconditions, the
Condition stage of a cycle, and the automatic ends of CHARGE phases, DISCHARGE and LINE_TEST. -/

namespace Sys2Proof.Machine

/-- The masks GP_TRANS_EN and GP_TRANS_AUTO show for source mode m. -/
def shownEn (chopperOnly : Bool) (md : ModeCfg) (m : Mode) : Nat :=
  maskOf ((commandedTo chopperOnly m).filter fun t => transBit md.transEn m t)
def shownAuto (md : ModeCfg) (m : Mode) : Nat :=
  maskOf ((automaticTo m).filter fun t => transBit md.transAuto m t || fixedAuto m t)

/-- Result codes of R112. -/
def rDone : Nat := 0x00
def rBusy : Nat := 0x01
def rBadMode : Nat := 0x02
def rNoTransition : Nat := 0x03
def rDisabled : Nat := 0x04
def rNotReady : Nat := 0x05
def rSuperseded : Nat := 0x06
def rPreempted : Nat := 0x11

/-- Checks 3 to 5 of R95 for a target code from a mode. -/
def transitionCheck (chopperOnly : Bool) (md : ModeCfg) (mode : Mode) (target : Nat) : Option Nat :=
  match modeOfCode target with
  | none => some rBadMode
  | some t =>
    if t = .acRide ∨ (t = .dcRide ∧ chopperOnly = false) then some rBadMode
    else if (commandedTo chopperOnly mode).contains t = false then some rNoTransition
    else if transBit md.transEn mode t = false then some rDisabled
    else none

/-- The deblocked targets of R98. -/
def deblockedTarget : Mode → Bool
  | .reactive | .follow | .dcSlack | .form | .harvest | .lineTest | .dcRide => true
  | _ => false

/-- Mean brick voltage tests over every tile (R94, R98). -/
def allTiles (c : GCtx) (f : TileSum → Nat → Bool) : Bool :=
  (List.range c.tiles.length).all fun n => f (nth c.sums n .zero) n

/-- INTERLOCK[m] passes on the values GI (R98, R316). -/
def interlockPasses (md : ModeCfg) (gi m : Nat) : Bool :=
  let e := nth md.interlock m (0, 0)
  decide (gi &&& e.1 = e.2 &&& e.1)
def interlockOk (c : GCtx) (m : Nat) : Bool := interlockPasses c.md c.inp.goose m

def energyOk (c : GCtx) : Bool := allTiles c fun t _ => decide (c.md.chgDone ≤ t.vbar)
def spreadOk (c : GCtx) : Bool := allTiles c fun t _ => t.np = 0 || decide (((t.hi - t.lo) * 0x4000 : Nat) ≤ c.md.chgSpread)
def bricksOk (c : GCtx) : Bool := allTiles c fun t n => decide (minBricks c n ≤ t.np)
def deadBus (c : GCtx) (s : GridSt) : Bool := decide (norm (clarke (s.fbAt 0).held) < c.md.deadBus)
def dcBandOk (c : GCtx) (s : GridSt) : Bool := decide ((((s.fbAt 2).held.a - one).natAbs : Int) ≤ c.md.dcBand)
def pvOk (c : GCtx) (s : GridSt) : Bool :=
  c.cv.harv.perBrick || (decide (c.cv.harv.winLo ≤ (s.fbAt 2).held.a) && decide ((s.fbAt 2).held.a ≤ c.cv.harv.winHi))
def residualOk (c : GCtx) (s : GridSt) : Bool := decide ((((s.fbAt 2).held.a).natAbs : Int) ≤ c.md.ltResidual)
def syncOk (c : GCtx) (s : GridSt) (t : Mode) : Bool :=
  (s.sync.locked && !s.sync.fly) || (t == .form && deadBus c s && !(s.fbAt 0).hold)

/-- The preconditions of R98 for target t from the mode in force, in code order: (code, evaluated, passes). -/
def preconditions (c : GCtx) (s : GridSt) (t : Mode) : List (Nat × Bool × Bool) :=
  let deb := deblockedTarget t
  [ (0x07, t == .charge || deb, c.inp.faultClear),
    (0x08, t == .charge || t == .discharge || deb, c.inp.safetyOk),
    (0x09, t == .discharge || deb, c.inp.triplexOk),
    (0x0A, t == .discharge || deb, c.inp.leadOk),
    (0x0B, true, interlockOk c (modeCode t)),
    (0x0C, deb, bricksOk c),
    (0x0D, deb, c.inp.spValid),
    (0x0E, t == .reactive || t == .follow || t == .dcSlack || t == .form || t == .harvest, syncOk c s t),
    (0x0F, (t == .blocked && s.m.mode == .charge) || (deb && s.m.mode == .blocked),
      energyOk c && (!(t == .blocked) || spreadOk c)),
    (0x10, t == .follow || t == .harvest || t == .lineTest,
      if t == .follow then dcBandOk c s else if t == .harvest then pvOk c s else residualOk c s) ]

/-- The first failing precondition (R97). -/
def firstFailing : List (Nat × Bool × Bool) → Option Nat
  | [] => none
  | (code, ev, ok) :: r => if ev && !ok then some code else firstFailing r

/-- GP_PRECOND: the conditions of R98 on the inputs of `c` (log entry 122). -/
def precondBits (c : GCtx) (s : GridSt) : Nat :=
  bit c.inp.faultClear + 2 * bit c.inp.safetyOk + 4 * bit c.inp.triplexOk + 8 * bit c.inp.leadOk + 0x10 * bit (bricksOk c)
    + 0x20 * bit c.inp.spValid + 0x40 * bit s.sync.locked + 0x80 * bit (deadBus c s) + 0x100 * bit (energyOk c)
    + 0x200 * bit (spreadOk c) + 0x400 * bit (dcBandOk c s) + 0x800 * bit (pvOk c s) + 0x1000 * bit (residualOk c s)
    + 0x10000 * sumN ((List.range 12).map fun m => 2 ^ m * bit (interlockOk c m))

/-- A line test that a BLOCKED ends has OUTCOME ABORTED (R105). -/
def abortLineTest (s : GridSt) : GridSt :=
  if s.m.mode = .lineTest then { s with m := { s.m with ltOutcome := 3 } } else s

/-- The forced request of R102, R103: BLOCKED unless the group is ISOLATED or BLOCKED. -/
def applyForced (c : GCtx) (s : GridSt) : GridSt :=
  match c.inp.forced with
  | none => s
  | some cause =>
    if s.m.mode = .isolated ∨ s.m.mode = .blocked then s else (abortLineTest s).goto c.inp.k .blocked cause

/-- The latched command of R96 to R99: repeated checks, preconditions, transition; its outcome waits for D_E. -/
def applyCommand (c : GCtx) (forcedChange : Bool) (s : GridSt) : GridSt :=
  match c.inp.cmd with
  | none => s
  | some cmd =>
    let done (code : Nat) (s : GridSt) : GridSt := { s with m := { s.m with result := some (code, cmd.tag) } }
    if forcedChange then done rPreempted s
    else if cmd.cancel then done rDone s
    else match transitionCheck c.chopperOnly c.md s.m.mode cmd.target with
      | some code => done code s
      | none =>
        let t := (modeOfCode cmd.target).getD .blocked
        match firstFailing (preconditions c s t) with
        | some code => done code s
        | none => done rDone ((if t = .blocked then abortLineTest s else s).goto c.inp.k t 0)

/-- CHARGE moves between its phases (R89). -/
def chargePhase (c : GCtx) (s : GridSt) : GridSt :=
  if s.m.mode = .charge then
    let ctrl := allTiles c (fun t _ => decide (c.md.chgCtrl ≤ t.vbar)) && c.inp.faultClear && c.inp.safetyOk && c.inp.triplexOk && c.inp.leadOk
    { s with m := { s.m with phaseCtrl := ctrl } }
  else s

/-- DISCHARGE is complete: every tile's mean voltage is at most DIS_DONE (R104); MODES may disable the transition (R92). -/
def dischargeDone (c : GCtx) (s : GridSt) : GridSt :=
  if s.m.mode = .discharge ∧ s.m.auto = false ∧ autoEnabled c .discharge .isolated = true ∧ allTiles c (fun t _ => decide (t.vbar ≤ c.md.disDone)) = true then
    s.autoGoto c.inp.k .isolated 6 else s

/-- DISCHARGE_TIMEOUT (R104): DIS_TIMEOUT seconds without completion. -/
def dischargeTimeout (c : GCtx) (s : GridSt) : GridSt :=
  if s.m.mode = .discharge ∧ s.m.auto = false ∧ 500000000 * c.md.disTimeout ≤ (c.inp.k - s.m.entryK) * c.l then
    let s := s.autoGoto c.inp.k .blocked 7
    { s with m := { s.m with raises := s.m.raises ++ [0x0A0 + 8 * c.group] } }
  else s

/-- The line test each cycle (R105): peak current, failure by current or by loss of the DC pole current (R140). -/
def lineTestWatch (c : GCtx) (s : GridSt) : GridSt :=
  if s.m.mode = .lineTest then
    let i := (s.fbAt 3).held.a.natAbs
    let start := s.m.mode0 != .lineTest
    let peak := max (if start then 0 else s.m.ltPeak) i
    let atTarget := decide (s.loop.vLt = c.md.ltTarget) && !start
    let s := { s with m := { s.m with ltPeak := peak, ltHeld := if atTarget then s.m.ltHeld + 1 else 0 } }
    if (c.md.ltIlim < (i : Int) ∨ (s.fbAt 3).hold = true) ∧ s.m.auto = false then
      ({ s with m := { s.m with ltOutcome := 2 } }).autoGoto c.inp.k .blocked 8
    else s
  else s

/-- LINE_TEST_HOLD_END (R105): LT_HOLD at LT_TARGET has run. -/
def lineTestHoldEnd (c : GCtx) (s : GridSt) : GridSt :=
  if s.m.mode = .lineTest ∧ s.m.auto = false ∧ msTicks c.md.ltHold ≤ s.m.ltHeld * c.l ∧ 0 < s.m.ltHeld then
    ({ s with m := { s.m with ltOutcome := 1 } }).autoGoto c.inp.k .blocked 8
  else s

/-- A new cycle of the group begins in a channel. -/
def beginCycle (s : GridSt) : GridSt :=
  { s with m := { s.m with mode0 := s.m.mode, auto := false, changed := false, result := none, raises := [] },
           ride := { s.ride with repeatBlock := false }, isl := { s.isl with detected := false, due := false },
           harv := { s.harv with aborted := false, scanResult := none } }

/-- Decisions the Condition stage's measurements call for and no command took: lock, unlock, flywheel, feedback. -/
def settleGrid (c : GCtx) (s : GridSt) : GridSt :=
  let s := flywheelClear (syncUnlock (syncLock c s))
  (List.range 4).foldl (fun s n => feedbackDisagreement c n (feedbackPrimaryReturn n s)) s

/-- Decisions the Grid stage of the cycle before called for and no command took: fade, tracker, pulse. -/
def settleLast (c : GCtx) (s : GridSt) : GridSt :=
  harvestScanEnd c (harvestScanPeriod c (harvestTrackStep c (islandingPulse c (fadeEnd s))))

/-- The Condition stage of a group's cycle (R97, R101, R102), and the measurements the Grid stage begins with. -/
def conditionStage (c : GCtx) (s : GridSt) : GridSt :=
  let s := settleLast c (beginCycle s)
  let s := selectSignals c s
  let f := applyForced c s
  let s := applyCommand c f.m.changed f
  let s := dischargeDone c (chargePhase c s)
  let s := if c.inp.scan then startScan c s else s
  let s := lineTestWatch c (measureVoltage c s)
  let s := rideWatch c s
  if s.sync.seatDue then s else islWatch c s

/-- The Grid stage of a group's cycle: the decisions still due, then control. -/
def gridStage (c : GCtx) (s : GridSt) : GridSt :=
  let s := (List.range 4).foldl (fun s n => feedbackHoldExpiry c n s) s
  let s := lineTestHoldEnd c (dischargeTimeout c (rideDecisions c s))
  gridControl c (settleGrid c s)

end Sys2Proof.Machine
end

