-- ==== Sys2Proof/Machine/Rank.lean ====
section
/-! DEFINITION. The rank engine and the Schedule stage (spec/08): report outcomes, parking and admission, target order
and swap candidates, boundary, swaps under dwell, fractional on-time, blocked cycles. Pure functions on one tile. -/

namespace Sys2Proof.Machine

/-- Insertion sort by a comparison. -/
def insertBy {α : Type} (lt : α → α → Bool) (x : α) : List α → List α
  | [] => [x]
  | y :: r => if lt x y then x :: y :: r else y :: insertBy lt x r
def sortBy {α : Type} (lt : α → α → Bool) : List α → List α
  | [] => []
  | x :: r => insertBy lt x (sortBy lt r)

/-- A rank word as its 16 bits (R189). -/
def RankWord.bits (w : RankWord) : Nat := (if w.parked then 0x4000 else 0) + w.slot % 0x1000

/-- The latest word emitted to a brick (R192). -/
def BrickSt.word (b : BrickSt) : Option RankWord := b.words.head?
def BrickSt.isRanked (b : BrickSt) : Bool := match b.word with | some w => !w.parked | none => false
def BrickSt.isParked (b : BrickSt) : Bool := match b.word with | some w => w.parked | none => false

/-- The expected echo at an opening tick (R194): the word with the latest E not later than it. -/
def expectedEcho (b : BrickSt) (openTick : Nat) : Option Nat :=
  ((b.words.filter fun w => w.e ≤ openTick).head?).map (·.bits)

/-- The usable copy (R192): one copy, or two identical ones. -/
def usable : List RepCopy → Option RepCopy
  | [x] => some x
  | [x, y] => if x = y then some x else none
  | _ => none

/-- Two valid copies that differ (R192). -/
def differing : List RepCopy → Bool
  | [x, y] => x ≠ y
  | _ => false

/-- What one D_R decides for a brick besides its record: present with a voltage, and the counts of PL_RANK_FAULTS. -/
structure Decided where
  brick : BrickSt
  present : Option Nat
  disputed : Bool
  held : Bool
  echoBad : Bool
  deriving DecidableEq, Repr

/-- BRICK_OUTCOME (R192 to R197): the outcome of one position at D_R. `held` says whether the directory holds a brick there for
the tile, `disc` whether its course is DISCOVERING (R279); `free` is the voltage of a HELD brick that never was FRESH. An
admitted brick that has not confirmed its word is ADMITTING whichever row would otherwise apply. -/
def brickOutcome (hold echoN openTick free : Nat) (held disc : Bool) (copies : List RepCopy) (b : BrickSt) : Decided :=
  let disp := differing copies
  let u := usable copies
  let miss := if u.isSome then 0 else satInc 15 b.miss
  let b := { b with resend := false, parkDue := 0 }
  let plain (o : Nat) (b : BrickSt) : Decided := ⟨{ b with outcome := o, echoRun := 0 }, none, disp, false, false⟩
  let due (b : BrickSt) : Nat := if b.isRanked then 4 else 0
  let unavailable := copies.any (·.unavail)
  let confirm := match u, b.word with
    | some r, some w => decide (r.echo = w.bits) && w.parked && !disc
    | _, _ => false
  if held && b.slot.isSome && b.admitting && !confirm then plain 5 { b with admitRun := satInc 255 b.admitRun, miss := miss }
  else if !held || disc then plain 0 { b with parkDue := due b, miss := miss }
  else if b.slot.isNone then plain (if unavailable then 7 else 6) { b with miss := miss }
  else
    let disputedRun := if u.isSome then false else b.disputed || disp
    let b := { b with admitting := false }
    if unavailable then plain 7 { b with miss := miss, parkDue := due b }
    else if b.isRanked then
      match u with
      | some r =>
        if some r.echo = expectedEcho b openTick then
          ⟨{ b with outcome := 1, miss := 0, disputed := false, echoRun := 0, volt := r.volt, fresh := some r.volt },
            some r.volt, disp, false, false⟩
        else if echoN ≤ b.echoRun + 1 then
          ⟨{ b with outcome := 6, miss := 0, disputed := false, echoRun := 0, parkDue := 3 }, none, disp, false, false⟩
        else
          ⟨{ b with outcome := 2, miss := 0, disputed := false, echoRun := b.echoRun + 1, volt := r.volt, fresh := some r.volt,
                    resend := true }, some r.volt, disp, false, true⟩
      | none =>
        if miss ≤ hold then
          let v := b.fresh.getD free
          ⟨{ b with outcome := 3, miss := miss, disputed := disputedRun, volt := v }, some v, disp, true, false⟩
        else plain 6 { b with miss := miss, disputed := false, parkDue := if disputedRun then 2 else 1 }
    else
      match u with
      | some r =>
        if confirm then
          ⟨{ b with outcome := 4, miss := 0, disputed := false, echoRun := 0, volt := r.volt }, some r.volt, disp, false, false⟩
        else plain 6 { b with miss := 0, disputed := false, volt := r.volt, resend := true }
      | none => plain 6 { b with miss := miss, disputed := disputedRun }

/-- Emit a word to a brick: it becomes the latest, in place of one with the same E (R190). Of the words emitted in one cycle the last
stands. The record keeps the last sixteen, which reach back past any lead and deadline that ECHO_N admits (R216). -/
def BrickSt.emit (b : BrickSt) (w : RankWord) : BrickSt := { b with words := (w :: b.words.filter fun x => x.e ≠ w.e).take 16 }

/-- Park a ranked brick whose parking is due (R196): the PARKED word at its slot with this cycle's E. -/
def parkBrick (e : Nat) (b : BrickSt) : BrickSt :=
  match b.slot with
  | some s => if b.parkDue = 0 then b else BrickSt.emit { b with parkDue := 0 } ⟨e, true, s⟩
  | none => b

/-- NRANK (R188). -/
def nrankOf : List (Nat × BrickSt) → Nat
  | [] => 0
  | (_, b) :: r => match b.slot with | some s => max (s + 1) (nrankOf r) | none => nrankOf r

/-- Slots held. -/
def heldSlots (l : List (Nat × BrickSt)) : List Nat := l.filterMap fun p => p.2.slot

/-- Is slot s held? -/
def slotHeld (l : List (Nat × BrickSt)) (s : Nat) : Bool := (heldSlots l).contains s

/-- The lowest free slot, which is NRANK if there is no hole (R198). -/
def lowestFree (l : List (Nat × BrickSt)) : Nat :=
  ((List.range (nrankOf l)).find? fun s => !slotHeld l s).getD (nrankOf l)

/-- Admission of brick index i at a D_R (R198): lowest free slot, ADMITTING, a PARKED word with E. -/
def admitBrick (e i : Nat) (r : RankSt) : RankSt :=
  let old := (tabGet r.bricks i).getD BrickSt.blank
  if old.slot.isSome then r
  else
    let s := lowestFree r.bricks
    if s < 2048 then
      let b := { BrickSt.blank with slot := some s, admitting := true, outcome := 5, miss := old.miss }
      { r with bricks := tabSet r.bricks i (b.emit ⟨e, true, s⟩) }
    else r

/-- No confirming echo has come within 64 cycles (R198). -/
def admissionOver (i : Nat) (r : RankSt) : Bool :=
  match tabGet r.bricks i with
  | some b => b.admitting && decide (64 ≤ b.admitRun)
  | none => false

/-- A failed admission is handed back: the slot becomes free (R198). -/
def eraseBrick (i : Nat) (r : RankSt) : RankSt := { r with bricks := tabErase r.bricks i }

/-- Removal at a D_R (R199): the brick leaves the order; its slot is held for this cycle yet and free from the next (`dropRemoved`). -/
def removeBrick (i : Nat) (r : RankSt) : RankSt :=
  match tabGet r.bricks i with
  | some b => if b.slot.isSome then { r with bricks := tabSet r.bricks i { b with removed := true } } else r
  | none => r

/-- The slots of the bricks removed at the D_R before become free (R199). -/
def dropRemoved (r : RankSt) : RankSt := { r with bricks := r.bricks.filter fun p => !p.2.removed }

/-- Without the bricks removed at this D_R, which leave N_p at once (R199, R288), and those handed back at it, which hold no slot
(R198). -/
def keepPresent (r : RankSt) (ps : List (Nat × Nat)) : List (Nat × Nat) :=
  ps.filter fun p => (tabGet r.bricks p.1).any fun b => !b.removed && b.slot.isSome

/-- Number of the brick at index i of a tile whose courses are listed (R14, R217). -/
def brickNumber (courses : List Nat) (i : Nat) : Nat := nth courses (i / 128) 0 * 128 + i % 128

/-- Key order of R200: voltage, then brick number. -/
def keyLt (courses : List Nat) (a b : Nat × Nat) : Bool :=
  a.2 < b.2 || (a.2 = b.2 && brickNumber courses a.1 < brickNumber courses b.1)

/-- Target order of the present bricks (R200). -/
def targetOrder (courses : List Nat) (ps : List (Nat × Nat)) : List (Nat × Nat) := sortBy (keyLt courses) ps

/-- Slot of brick index i. -/
def slotOf (l : List (Nat × BrickSt)) (i : Nat) : Nat := ((tabGet l i).bind (·.slot)).getD 0

/-- Present bricks in ascending emitted slot. -/
def emittedOrder (l : List (Nat × BrickSt)) (ps : List (Nat × Nat)) : List (Nat × Nat) :=
  sortBy (fun a b => slotOf l a.1 < slotOf l b.1) ps

/-- The scan of R201: for each brick the one of greatest key in lower slots; (a, b, difference). -/
def scanCands (courses : List Nat) (band : Nat) : Option (Nat × Nat) → List (Nat × Nat) → List (Nat × Nat × Nat)
  | _, [] => []
  | none, b :: r => scanCands courses band (some b) r
  | some a, b :: r =>
    let m := if keyLt courses a b then b else a
    if keyLt courses b a && decide (band ≤ a.2 - b.2) then (a.1, b.1, a.2 - b.2) :: scanCands courses band (some m) r
    else scanCands courses band (some m) r

/-- RANK stage (R200, R201): the 64 highest candidates as pairs of brick indices. -/
def rankStage (courses : List Nat) (band : Nat) (l : List (Nat × BrickSt)) (ps : List (Nat × Nat)) : List (Nat × Nat) :=
  let cs := scanCands courses band none (emittedOrder l ps)
  let lt (x y : Nat × Nat × Nat) : Bool :=
    y.2.2 < x.2.2 || (x.2.2 = y.2.2 && slotOf l x.2.1 < slotOf l y.2.1)
  ((sortBy lt cs).take 64).map fun x => (x.1, x.2.1)

/-- Position of a slot (R206). -/
def position (nrank : Nat) (sign : Bool) (s : Nat) : Nat := if sign then s else nrank - 1 - s

/-- Positions of the present bricks, ascending. -/
def presentPositions (nrank : Nat) (sign : Bool) (l : List (Nat × BrickSt)) (ps : List (Nat × Nat)) : List Nat :=
  sortBy (fun a b => a < b) (ps.map fun p => position nrank sign (slotOf l p.1))

/-- BOUND of R206: the position of the (count + 1)-th present brick, or NRANK. -/
def boundOf (nrank : Nat) (poss : List Nat) (count : Nat) : Nat := nth poss count nrank

/-- R208: the wanted on-time in ticks. -/
def tWant (frac l : Nat) : Nat := (roundDiv (frac * l : Nat) 65536).toNat

/-- R209 to R211: (on-length or none for full, dropped, stretched). T_DEAD and T_MINP in ticks. The effective time of a commanded one is
that of R209 whether or not DT_COMP is set; DROP has the effective time 0 or L. -/
def onTime (dtComp : Bool) (tDead tMinp pulseMode l want : Nat) (sign : Bool) : Option Nat × Bool × Bool :=
  if want = 0 then (some 0, false, false) else if l ≤ want then (none, false, false) else
    let cmd : Int := if dtComp then (if sign then (want : Int) - 2 * tDead else want + 2 * tDead) else want
    let hi : Int := (l : Int) - 2 * tMinp
    let eff (c : Int) : Int := if sign then c + 2 * tDead else c - 2 * tDead
    if (tMinp : Int) ≤ cmd ∧ cmd ≤ hi then (some cmd.toNat, false, false)
    else if cmd < tMinp then
      let dropErr := (want : Int).natAbs
      let strErr := (eff tMinp - want).natAbs
      if pulseMode = 0 ∨ (pulseMode ≠ 1 ∧ dropErr ≤ strErr) then (some 0, true, false) else (some tMinp, false, true)
    else
      let dropErr := ((l : Int) - want).natAbs
      let strErr := (eff hi - want).natAbs
      if pulseMode = 0 ∨ (pulseMode ≠ 1 ∧ dropErr < strErr) then (none, true, false) else (some hi.toNat, false, true)

/-- Ordered state of a position (R204): 1 inserted, 2 fractional, 0 bypassed. -/
def orderedAt (bound onLen p : Nat) : Nat := if p < bound then 1 else if p = bound ∧ 0 < onLen then 2 else 0

/-- Exchange the slots of two bricks and emit RANKED words (R203). -/
def swapSlots (e : Nat) (l : List (Nat × BrickSt)) (a b : Nat) : List (Nat × BrickSt) :=
  match tabGet l a, tabGet l b with
  | some x, some y =>
    match x.slot, y.slot with
    | some sa, some sb =>
      tabSet (tabSet l a (BrickSt.emit { x with slot := some sb } ⟨e, false, sb⟩)) b (BrickSt.emit { y with slot := some sa } ⟨e, false, sa⟩)
    | _, _ => l
  | _, _ => l

/-- Result of walking the candidates (R203): bricks, bricks that took part, applied, deferred. -/
structure Walk where
  bricks : List (Nat × BrickSt)
  used : List Nat
  applied : Nat
  deferred : Nat
  deriving DecidableEq, Repr

/-- R203, R204: apply the candidates in order; `st` gives the ordered state of a slot. -/
def walkCands (e dwell limit : Nat) (st : Nat → Nat) : List (Nat × Nat) → Walk → Walk
  | [], w => w
  | (a, b) :: r, w =>
    if w.used.contains a || w.used.contains b then walkCands e dwell limit st r w
    else if limit ≤ w.applied then walkCands e dwell limit st r w
    else
      let ta := ((tabGet w.bricks a).map (·.tLast)).getD 0
      let tb := ((tabGet w.bricks b).map (·.tLast)).getD 0
      let changes := st (slotOf w.bricks a) ≠ st (slotOf w.bricks b)
      if changes ∧ (e - ta < dwell ∨ e - tb < dwell) then
        walkCands e dwell limit st r { w with deferred := w.deferred + 1 }
      else walkCands e dwell limit st r
        { w with bricks := swapSlots e w.bricks a b, used := a :: b :: w.used, applied := w.applied + 1 }

/-- The present brick in the highest slot: (index, slot). -/
def highestPresent (l : List (Nat × BrickSt)) : List (Nat × Nat) → Option (Nat × Nat)
  | [] => none
  | p :: r => match highestPresent l r with
    | some (i, s) => if s < slotOf l p.1 then some (p.1, slotOf l p.1) else some (i, s)
    | none => some (p.1, slotOf l p.1)

/-- Compaction moves of a blocked cycle (R213), at most n. -/
def compact (e : Nat) (ps : List (Nat × Nat)) : Nat → List (Nat × BrickSt) → List (Nat × BrickSt) × Nat
  | 0, l => (l, 0)
  | n + 1, l =>
    match highestPresent l ps with
    | none => (l, 0)
    | some (i, s) =>
      let h := lowestFree l
      if h < s then
        match tabGet l i with
        | some b =>
          let r := compact e ps n (tabSet l i (BrickSt.emit { b with slot := some h } ⟨e, false, h⟩))
          (r.1, r.2 + 1)
        | none => (l, 0)
      else (l, 0)

/-- R213: the emitted order of the present bricks equals the target order and no hole lies below them. -/
def isSorted (courses : List Nat) (l : List (Nat × BrickSt)) (ps : List (Nat × Nat)) : Bool :=
  let eo := emittedOrder l ps
  decide (eo.map (·.1) = (targetOrder courses ps).map (·.1)) &&
    (match highestPresent l ps with | some (_, s) => decide (s ≤ lowestFree l) | none => true)

/-- Step 1 of R202 on one brick: removal (a PARKED word if it was ranked, R199), parking, return, resend. -/
def scheduleBrick (e : Nat) (b : BrickSt) : BrickSt :=
  match b.slot with
  | none => b
  | some s =>
    if b.removed then (if b.isRanked then BrickSt.emit { b with parkDue := 0 } ⟨e, true, s⟩ else { b with parkDue := 0 })
    else if b.parkDue ≠ 0 then parkBrick e b
    else if b.outcome = 4 then b.emit ⟨e, false, s⟩
    else match b.resend, b.word with
      | true, some w => b.emit ⟨e, w.parked, w.slot⟩
      | _, _ => b

/-- What the Schedule stage leaves: the tile's rank state, the job, swaps applied and deferred, bricks parked. -/
structure Scheduled where
  rank : RankSt
  job : Job
  applied : Nat
  deferred : Nat
  parks : Nat
  deriving DecidableEq, Repr

/-- The words of this cycle (those whose E is this cycle's), by brick index. -/
def wordsOf (e : Nat) (l : List (Nat × BrickSt)) : List (Nat × RankWord) :=
  l.filterMap fun p => match p.2.word with
    | some w => if w.e = e then some (p.1, w) else none
    | none => none

/-- The ordered state of a cycle and T_last (R204). -/
def stamp (e l o : Nat) (b : BrickSt) : BrickSt :=
  let t := if o = b.ordered then b.tLast else e
  { b with ordered := o, tLast := if o = 2 then max t (e + l) else t }

/-- SCHEDULE stage (R202 to R213). `l` is the cycle length in ticks. The ordered state is that of R204 in blocked cycles too, where only
dwell does not apply (R213). -/
def scheduleStage (cfg : RankCfg) (courses : List Nat) (l : Nat) (j : Job) (r : RankSt) : Scheduled :=
  let e := j.e
  let parks := (r.bricks.filter fun p => decide (p.2.parkDue ≠ 0) && !p.2.removed).length
  let bricks := r.bricks.map fun p => (p.1, scheduleBrick e p.2)
  let ps := j.present.filter fun p => (tabGet bricks p.1).any fun b => b.slot.isSome && !b.removed
  let nrank := nrankOf bricks
  let poss := presentPositions nrank j.sign bricks ps
  let count := min j.count ps.length
  let b0 := boundOf nrank poss count
  let ot := onTime cfg.dtComp (5 * cfg.tDead) (5 * cfg.tMinp) cfg.pulseMode l (tWant j.frac l) j.sign
  let bound := match ot.1 with | none => boundOf nrank poss (count + 1) | some _ => b0
  let onLen := ot.1.getD 0
  let st (s : Nat) : Nat := orderedAt bound onLen (position nrank j.sign s)
  let w := walkCands e (if j.blocked then 0 else 500 * cfg.tDwell) (if j.blocked then 64 else cfg.swapMax) st j.cands
    ⟨bricks, [], 0, 0⟩
  let cm := if j.blocked then compact e ps (64 - w.applied) w.bricks else (w.bricks, 0)
  let final := cm.1.map fun p =>
    (p.1, stamp e l (match p.2.slot with
      | some s => if (ps.map (·.1)).contains p.1 then st s else 0
      | none => 0) p.2)
  let nr := nrankOf final
  let out := wordsOf e final
  { rank := { bricks := final, nrank := nr, parked := (final.filter fun p => p.2.isParked).length, dropped := ot.2.1,
              stretched := ot.2.2, holes := decide (lowestFree final < nr), sorted := isSorted courses final ps,
              bound := bound, onLen := onLen, blocked := j.blocked },
    job := { j with words := out, bound := bound, nrank := nr, onLen := onLen },
    applied := w.applied + cm.2, deferred := w.deferred, parks := parks }

end Sys2Proof.Machine
end

