-- ==== Sys2Proof/Machine/Line.lean ====
section
/-! DEFINITION. The line code of a lane (R222 to R227): bit order, scrambler, stuffing and commas, what an output of the device puts on the
lane, and how a receiver that is aligned reads it back. -/

namespace Sys2Proof.Machine

/-- Frame content on its way to the line: byte by byte, each bit 0 first (R222). -/
def byteBits (b : BitVec 8) : List Bool := (List.range 8).map fun i => testBit b.toNat i
def dataBits (l : List (BitVec 8)) : List Bool := l.flatMap byteBits

/-- The type field of a comma, bit 7 first (R222). -/
def typeBits (t : BitVec 8) : List Bool := (byteBits t).reverse

/-- The register of the scrambler after a type field, its key bit and its next value (R223). -/
def lfsrLoad : Nat := 0x2B3C4D5E
def lfsrKey (r : Nat) : Bool := testBit r 30 != testBit r 27
def lfsrNext (r : Nat) : Nat := (2 * r + bit (lfsrKey r)) % 0x80000000

/-- Scrambling, and descrambling: the same code with line bit and data bit changing places (R223). -/
def scramble : Nat → List Bool → List Bool
  | _, [] => []
  | r, d :: l => (d != lfsrKey r) :: scramble (lfsrNext r) l

/-- The run of equal bits that ends with bit x, after a run of n bits b; no run before the first bit of a type field (R224). -/
def runOn (b : Bool) (n : Nat) (x : Bool) : Nat := if n ≠ 0 ∧ x = b then n + 1 else 1

/-- Stuffing: after every run of 9 equal bits one bit of the opposite value, which starts a new run (R224). -/
def stuff : Bool → Nat → List Bool → List Bool
  | _, _, [] => []
  | b, n, x :: l => if runOn b n x = 9 then x :: (!x) :: stuff (!x) 1 l else x :: stuff x (runOn b n x) l

/-- Unstuffing: the bit after every run of 9 equal bits is removed (R224). -/
def unstuff : Bool → Nat → List Bool → List Bool
  | _, _, [] => []
  | _, _, [x] => [x]
  | b, n, x :: y :: l => if runOn b n x = 9 then x :: unstuff y 1 l else x :: unstuff x (runOn b n x) (y :: l)

/-- The longest run of equal bits, after a run of n bits b (R225). -/
def longestRun : Bool → Nat → List Bool → Nat
  | _, n, [] => n
  | b, n, x :: l => max n (longestRun x (runOn b n x) l)

/-- A comma of a type with the data that follows it up to the next comma (R222 to R226). -/
def lineOf (typ : BitVec 8) (data : List Bool) : List Bool :=
  List.replicate 12 true ++ List.replicate 12 false ++ stuff false 0 (typeBits typ ++ scramble lfsrLoad data)

/-- What a receiver takes from the bits after a comma's 24: the bits of the type field and the data (R223, R224, R226). -/
def received (l : List Bool) : List Bool × List Bool := ((unstuff false 0 l).take 8, scramble lfsrLoad ((unstuff false 0 l).drop 8))

/-- The comma before a frame, a time mark and a loop word (R226, R241, R259). -/
def Frame.comma : Frame → BitVec 8
  | .timeMark _ _ _ => 0xE7
  | .loopWord _ _ => 0xDD
  | _ => 0x96

/-- The data bits that may lie between a type field and the next comma (R227). -/
def spacingMax : Nat := 4096

/-- A transmitter with nothing to send: IDLE commas, each with as much idle fill as may follow it (R222, R227). -/
def idleLine (commas : Nat) : List Bool := (List.replicate commas (lineOf 0xA9 (List.replicate spacingMax false))).flatten

/-- What an output puts on a lane: a frame after its comma, IDLE commas with fill, an EIDLE comma with 64 bits of fill (R234), one training
burst (R235); nothing where it is no output of a lane. Idle goes on by further IDLE commas with fill until the lane's next output, which
may cut the fill short (R227). -/
def Out.line : Out → List Bool
  | .frame _ _ f => lineOf f.comma (dataBits f.bytes)
  | .idle _ _ n => idleLine n
  | .eidle _ _ => lineOf 0xF0 (List.replicate 64 false)
  | .train _ _ _ => (List.replicate 64 (lineOf 0xCA (List.replicate 40 false))).flatten
  | _ => []

/-! A receiver -/

/-- What a receiver recognises in the bits of its line (R226, R229, R239): a comma with its type, one of the violations, the fill before a
comma with its bits in error. -/
inductive LaneEvent where
  | comma (type : Nat)
  | fill (errs : Nat)
  | runOfOnes
  | runOfZeros
  | zeroRunLength
  | spacing
  deriving DecidableEq, Repr

/-- Bits of a type field, bit 7 first, as a number. -/
def typeValue (l : List Bool) : Nat := l.foldl (fun n b => 2 * n + bit b) 0

/-- The data bits between a type field and the comma pattern that ends them. -/
def LineRx.payload (r : LineRx) (typ : Nat) : List Bool :=
  (received (typeBits (BitVec.ofNat 8 typ) ++ (r.line.drop 24).reverse)).2

/-- What a comma that is recognised ends: fill after an IDLE comma with its bits in error (R239), a spacing violation (R229). -/
def LineRx.ended (r : LineRx) : List LaneEvent :=
  match r.cur with
  | none => []
  | some t =>
    let p := r.payload t
    (if t = 0xA9 then [.fill (p.filter id).length] else []) ++ (if !r.spaced && decide (spacingMax < p.length) then [.spacing] else [])

/-- The next bit after a run: the new run of line bits. -/
def LineRx.onRun (r : LineRx) (b : Bool) : LineRx :=
  { r with run := runOn r.bit r.run b, bit := b, ones := if r.bit && !b then r.run else if b && !r.bit then 0 else r.ones }

/-- What a bit shows outside a type field (R226, R229): a run of 10 or 11 ones has ended, a run of zeros reaches 10 where no comma's
ones came before it, a comma's zeros are not exactly 12. -/
def LineRx.runEvents (r : LineRx) (b : Bool) : List LaneEvent :=
  let n := (r.onRun b).run
  if r.run = 0 then []
  else if r.bit && !b then (if r.run = 10 ∨ r.run = 11 then [.runOfOnes] else [])
  else if !b then
    if 12 ≤ r.ones then (if n = 13 then [.zeroRunLength] else []) else (if n = 10 then [.runOfZeros] else [])
  else if !r.bit && decide (12 ≤ r.ones) && decide (r.run < 12) then [.zeroRunLength] else []

/-- Whether a bit is the first of a type field: a 1 after exactly 12 zeros after at least 12 ones (R226). -/
def LineRx.comma (r : LineRx) (b : Bool) : Bool := b && !r.bit && r.run == 12 && decide (12 ≤ r.ones)

/-- A bit among data: the count of data bits goes on; more than may lie before a comma, beyond the 24 bits of a pattern that may have
begun, are a violation, counted once (R224, R229). -/
def LineRx.onData (r : LineRx) (b : Bool) : LineRx × List LaneEvent :=
  let stuffed := r.srun == 9
  let r := { r with srun := if stuffed then 1 else runOn r.sbit r.srun b, sbit := b, data := if stuffed then r.data else r.data + 1,
                    line := if r.spaced then r.line else b :: r.line }
  if !r.spaced && decide (spacingMax + 24 < r.data) then ({ r with spaced := true }, [.spacing]) else (r, [])

/-- One bit of the line at a receiver (R226 to R229). -/
def LineRx.next (r : LineRx) (b : Bool) : LineRx × List LaneEvent :=
  match r.typ with
  | some l =>
    let r := r.onRun b
    if l.length < 7 then ({ r with typ := some (b :: l) }, [])
    else
      let bits := (b :: l).reverse
      let t := typeValue bits
      let s := bits.foldl (fun (s : Bool × Nat) x => (x, runOn s.1 s.2 x)) (false, 0)
      ({ r with typ := none, cur := some t, line := [], sbit := s.1, srun := s.2, data := 0, spaced := false }, [.comma t])
  | none =>
    if r.comma b then ({ r.onRun b with typ := some [true] }, r.ended)
    else
      let ev := r.runEvents b
      let x := (r.onRun b).onData b
      (x.1, ev ++ x.2)

/-- A piece of the line at a receiver. -/
def LineRx.scan (r : LineRx) : List Bool → LineRx × List LaneEvent
  | [] => (r, [])
  | b :: l =>
    let x := r.next b
    let y := x.1.scan l
    (y.1, x.2 ++ y.2)

end Sys2Proof.Machine
end

