-- ==== Sys2Proof/Machine/Dev.lean ====
section
/-! DEFINITION. The device: everything State holds but the queue of waiting commands; its value right after reset; and
the clock, register and output operations every command is built from. -/

namespace Sys2Proof.Machine

/-- The device. `free` counts the free values taken (log entry 1). -/
structure Dev where
  out : List Out
  free : Nat
  clk : Clock
  pins : Pins
  bank : Bank
  work : Mem
  store : Store
  mo : MoSt
  grps : List GroupHub
  chans : List Chan
  tp : TpSt
  cm : CmSt
  si : SiSt
  tb : TbSt
  fc : FcSt
  sb : SbSt
  host : HostSt
  dma : List DmaSt
  pm : PmSt
  deriving DecidableEq, Repr

/-- The device as power-up leaves it (R45 to R48): everything that is not kept at its defined initial value; `st`,
`pins`, `clk` and `work` come from outside. -/
def Dev.fresh (st : Store) (pins : Pins) (clk : Clock) (work : Mem) (free : Nat) : Dev :=
  { out := [], free := free, clk := clk, pins := pins, bank := [], work := work, store := st, mo := .init,
    grps := List.replicate 4 .init, chans := List.replicate 3 .init, tp := .init, cm := .init, si := .init, tb := .init,
    fc := .init, sb := .init, host := .init pins.devid, dma := List.replicate 32 .init, pm := .init }

/-- Pins of a powered device whose straps are 0 and whose RESET_N is high; of the two grades of R2, it is a PX12-CA, GL_ID.GRADE
0b00 (DESIGN CHOICE, log entry 7). -/
def Pins.reset : Pins :=
  { powered := true, resetN := true, fellAt := 0, kilnEn := false, refSel := false, devid := 0, grade := 0, perstA := true, perstB := true, sealPins := 0, vio33Low := false, errSince := 0 }

/-- The device right after its first reset: as from manufacture, powered, RESET_N high (log entry 7). -/
def Dev.reset : Dev := Dev.fresh (Store.new.counted false) .reset ⟨0, 0, 0⟩ [] 0

/-- Whether the device works: powered and not held in reset. A low of RESET_N acts from 1 µs on (R50). -/
def Dev.live (d : Dev) : Bool :=
  d.pins.powered && (d.pins.resetN || decide (d.clk.ticks < d.pins.fellAt + 500))

/-- Time passes (R332): dt ticks. -/
def Dev.elapse (dt : Nat) (d : Dev) : Dev :=
  { d with clk := { d.clk with ticks := d.clk.ticks + dt, dev := d.clk.dev + dt } }

/-- Course time: device time in ticks modulo 2^48 (R333). -/
def Dev.ct (d : Dev) : Nat := d.clk.dev % 0x1000000000000

/-- Ticks since power was applied. -/
def Dev.now (d : Dev) : Nat := d.clk.ticks

/-- Seconds and nanoseconds of device time (R332). -/
def Dev.sec (d : Dev) : Nat := d.clk.dev / 500000000
def Dev.ns (d : Dev) : Nat := d.clk.dev % 500000000 * 2

/-- Value of a register field's copy. -/
def Dev.get (d : Dev) (f : Fld) (i : Nat := 0) (j : Nat := 0) : Nat := d.bank.get f i j

/-- Set a register field's copy. -/
def Dev.set (d : Dev) (f : Fld) (v : Nat) (i : Nat := 0) (j : Nat := 0) : Dev := { d with bank := d.bank.set f i j v }

/-- Set a one-bit field. -/
def Dev.flag (d : Dev) (f : Fld) (b : Bool) (i : Nat := 0) (j : Nat := 0) : Dev := d.set f (bit b) i j

/-- Whether a one-bit field is set. -/
def Dev.on (d : Dev) (f : Fld) (i : Nat := 0) (j : Nat := 0) : Bool := d.get f i j == 1

/-- Increment a counter field, saturating at its largest value. -/
def Dev.count (d : Dev) (f : Fld) (i : Nat := 0) (j : Nat := 0) : Dev := d.set f (satInc (2 ^ f.width - 1) (d.get f i j)) i j

/-- Add to a counter field, saturating. -/
def Dev.addTo (d : Dev) (f : Fld) (n : Nat) (i : Nat := 0) (j : Nat := 0) : Dev :=
  d.set f (clampN (2 ^ f.width - 1) (d.get f i j + n)) i j

/-- Set a signed field. -/
def Dev.setI (d : Dev) (f : Fld) (v : Int) (i : Nat := 0) (j : Nat := 0) : Dev := d.set f (toField f.width v) i j

/-- A field read as signed. -/
def Dev.getI (d : Dev) (f : Fld) (i : Nat := 0) (j : Nat := 0) : Int := ofField f.width (d.get f i j)

/-- Set or clear bit n of a field. -/
def Dev.setBit (d : Dev) (f : Fld) (n : Nat) (b : Bool) (i : Nat := 0) (j : Nat := 0) : Dev :=
  d.set f (putBit (d.get f i j) n b) i j

/-- Something leaves the device. -/
def Dev.emit (d : Dev) (o : Out) : Dev := { d with out := d.out ++ [o] }

/-- Take the next free value (log entry 1). -/
def Dev.freeVal (d : Dev) : Nat := Config.freeValue d.free
def Dev.tookFree (d : Dev) : Dev := { d with free := d.free + 1 }

/-- Fold an operation over a list of numbers. -/
def Dev.each (l : List Nat) (f : Nat → Dev → Dev) (d : Dev) : Dev := l.foldl (fun d n => f n d) d

/-- An operation if a condition holds. -/
def Dev.when (b : Bool) (f : Dev → Dev) (d : Dev) : Dev := if b then f d else d

/-- Update a group at the hub, a channel, a converter, and other list entries. -/
def Dev.grp (d : Dev) (g : Nat) : GroupHub := nth d.grps g .init
def Dev.modGrp (d : Dev) (g : Nat) (f : GroupHub → GroupHub) : Dev := { d with grps := setNth d.grps g (f (d.grp g)) }
def Dev.chan (d : Dev) (c : Nat) : Chan := nth d.chans c .init
def Dev.modChan (d : Dev) (c : Nat) (f : Chan → Chan) : Dev := { d with chans := setNth d.chans c (f (d.chan c)) }
def Dev.lane (d : Dev) (c e : Nat) : LaneSt := tabD d.cm.lanes (2 * c + e) .init
def Dev.modLane (d : Dev) (c e : Nat) (f : LaneSt → LaneSt) : Dev :=
  { d with cm := { d.cm with lanes := tabMod d.cm.lanes (2 * c + e) .init f } }
def Dev.crs (d : Dev) (c : Nat) : CrsSt := tabD d.cm.crs c .init
def Dev.modCrs (d : Dev) (c : Nat) (f : CrsSt → CrsSt) : Dev := { d with cm := { d.cm with crs := tabMod d.cm.crs c .init f } }
def Dev.dir (d : Dev) (b : Nat) : DirSt := tabD d.cm.dir b .init
def Dev.modDir (d : Dev) (b : Nat) (f : DirSt → DirSt) : Dev := { d with cm := { d.cm with dir := tabMod d.cm.dir b .init f } }
def Dev.ctx (d : Dev) (x : Nat) : CtxSt := nth d.host.ctxs x (.init x 0)
def Dev.modCtx (d : Dev) (x : Nat) (f : CtxSt → CtxSt) : Dev :=
  { d with host := { d.host with ctxs := setNth d.host.ctxs x (f (d.ctx x)) } }
def Dev.sv (d : Dev) (s : Nat) : SvSt := tabD d.si.svs s .init
def Dev.modSv (d : Dev) (s : Nat) (f : SvSt → SvSt) : Dev := { d with si := { d.si with svs := tabMod d.si.svs s .init f } }
def Dev.goose (d : Dev) (s : Nat) : GoSt := tabD d.si.gos s .init
def Dev.modGoose (d : Dev) (s : Nat) (f : GoSt → GoSt) : Dev := { d with si := { d.si with gos := tabMod d.si.gos s .init f } }
def Dev.lm (d : Dev) (m : Nat) : LmSt := nth d.si.lms m .init
def Dev.modLm (d : Dev) (m : Nat) (f : LmSt → LmSt) : Dev := { d with si := { d.si with lms := setNth d.si.lms m (f (d.lm m)) } }
def Dev.dmaCh (d : Dev) (n : Nat) : DmaSt := nth d.dma n .init
def Dev.modDma (d : Dev) (n : Nat) (f : DmaSt → DmaSt) : Dev := { d with dma := setNth d.dma n (f (d.dmaCh n)) }

/-- The configuration of the group, tile and course structure in force, read off the hub's groups and the image. -/
def Dev.structure' (d : Dev) : Option Structure := d.mo.image.bind (·.structure')
def TileCfg.idle : TileCfg := ⟨.idle, 0, [], [], 3, false⟩

/-- Non-idle tiles of the structure in force, with their configuration. -/
def Dev.busyTiles (d : Dev) : List (Nat × TileCfg) :=
  match d.structure' with
  | none => []
  | some s => ((List.range 12).filterMap fun t => (s.tiles[t]?).map fun c => (t, c)).filter fun p => p.2.type ≠ .idle

/-- The tile a course is bound to (R13), its group, and whether it is bound, spare (enabled and not bound) or unused. -/
def Dev.tileOf (d : Dev) (c : Nat) : Option (Nat × TileCfg) := d.busyTiles.find? fun p => p.2.courses.contains c
def Dev.groupOf (d : Dev) (c : Nat) : Option Nat := (d.tileOf c).map (·.2.group)
def Dev.bound (d : Dev) (c : Nat) : Bool := (d.tileOf c).isSome
def Dev.laneRate (d : Dev) (c : Nat) : Option Nat := d.mo.image.bind fun b => tabGet b.lanes.rates c
def Dev.enabled (d : Dev) (c : Nat) : Bool := (d.laneRate c).isSome
def Dev.boundCourses (d : Dev) : List Nat := (List.range 64).filter d.bound

/-- Position of a course's first brick in its tile's index of bricks: course place times 128. -/
def Dev.brickIndex (d : Dev) (b : Nat) : Option (Nat × Nat) :=
  (d.tileOf (b / 128)).map fun p => (p.1, (p.2.courses.idxOf (b / 128)) * 128 + b % 128)

/-- Readiness bits of GL_READY (R47, R49). -/
def Dev.ready (d : Dev) (f : Fld) : Bool := d.on f

/-- GP_MODE.MODE of a group; whether it is deblocked in the wider sense of R87 that the other rules use (GP_MODE.SWITCHING):
from the opening that latches a command to a deblocked target until E of the first released blocked cycle. -/
def Dev.gpMode (d : Dev) (g : Nat) : Nat := d.get F.GP_MODE_MODE g
def Dev.deblocked (d : Dev) (g : Nat) : Bool :=
  (d.grp g).span.isSome ||
  (d.on F.GP_MODE_SWITCHING g && ((d.grp g).switchEnd == 0 || decide (d.now < (d.grp g).switchEnd)))
def Dev.anyDeblocked (d : Dev) : Bool := (List.range 4).any d.deblocked
def Dev.allIsolated (d : Dev) : Bool := (List.range 4).all fun g => d.gpMode g == 0

end Sys2Proof.Machine
end

