-- ==== Sys2Proof/Machine/Ops.lean ====
section
/-! DEFINITION. The operations every command uses: reading and writing registers as words, the checks on a host access
(R422 to R427), settings records (R41), events and messages (R439, R440). -/

namespace Sys2Proof.Machine

/-- The 256 bytes of a log record (R390). -/
def LogRec.body (r : LogRec) : List (BitVec 8) :=
  leBytes 4 r.seq ++ leBytes 2 r.source ++ leBytes 1 r.typ ++ leBytes 1 r.flags ++ leBytes 8 r.sec ++ leBytes 4 r.ns ++
  leBytes 6 r.ct ++ leBytes 1 r.reaction ++ leBytes 1 r.triplex ++ leBytes 4 r.modes ++ leBytes 4 r.detail ++ leBytes 4 r.count ++
  leBytes 8 r.imageId ++ leBytes 16 0 ++ (List.range 47).flatMap fun i => leBytes 4 (nth r.snapshot i 0)
def LogRec.bytes (r : LogRec) : List (BitVec 8) := withCrc r.body

/-- Word i of a context's log window (R391); a window never written shows zeros. -/
def LogRec.word (r : LogRec) (i : Nat) : Nat := if r.ok then leNat ((r.bytes.drop (4 * i)).take 4) else 0

/-- Delivery latency of a tile: the largest over its courses, in ticks (R291). -/
def Dev.tileDeliv (d : Dev) (t : TileCfg) : Nat := t.courses.foldl (fun m c => max m (d.get F.CM_CRS_DELIV_DELIV c)) 0

/-- PL_STATUS.LEAD_SHORT (R66): the delivery latency of the tile reaches the lead. -/
def Dev.leadShort (d : Dev) (t : Nat) : Bool :=
  match d.busyTiles.find? (·.1 == t) with
  | some p => decide (halfUs (d.grp p.2.group).cfg.lead ≤ d.tileDeliv p.2)
  | none => false

/-- A rail that is held while GL_VADAPT.EN is 1 (R79): that of a fenced channel or of one with no computing tile. -/
def Dev.railHeld (d : Dev) (ch : Nat) : Bool :=
  let st := d.get F.TP_CH_STATE ch
  d.busyTiles.isEmpty || !(st == 1 || st == 4 || st == 5)

/-- Proof steps completed (R372): one per cycle of the slowest group with a busy tile, while a run is on. -/
def Dev.proofSteps (d : Dev) : Nat :=
  match d.tp.proofStart with
  | none => d.get F.TP_PROOF_STEP
  | some t => d.busyTiles.foldl (fun m p => min m ((d.now - t) / max 1 (halfUs (d.grp p.2.group).cfg.cycle))) 128

/-- Progress of the scrubber's pass in percent (R40): one pass is spread evenly over the period (log entry 111). -/
def Dev.scrubPct (d : Dev) : Nat :=
  if d.ready F.GL_READY_STORE then clampN 100 ((d.now - d.mo.scrubAt) * 100 / (1800000000000 * max 1 (d.get F.MO_SCRUB_PERIOD))) else 0

/-- Tick of the change of LM_CONT in force (R325), and the outputs formed since. -/
def LmSt.changeAt (s : LmSt) (now : Nat) : Nat × Nat :=
  match s.contNext with
  | some (_, e) => if e ≤ now then (e, 0) else (s.contAt, s.contK)
  | none => (s.contAt, s.contK)

/-- The LM_CONT value in force: one written before takes effect at its edge (R325). -/
def LmSt.contIn (s : LmSt) (now : Nat) : Nat :=
  match s.contNext with
  | some (w, e) => if e ≤ now then w else s.contNow
  | none => s.contNow

/-- Whether a change of LM_CONT has come to its edge (R325). -/
def LmSt.contCame (s : LmSt) (now : Nat) : Bool :=
  match s.contNext with
  | some (_, e) => decide (e ≤ now)
  | none => false

/-- Course time of a change at tick e, low word, and the ring index of the first output after it (R325). -/
def Dev.contT0 (d : Dev) (e : Nat) : Nat := (d.ct + e - d.now) % 0x100000000
def Dev.contN (d : Dev) (m : Nat) : Nat :=
  let size := (nth d.si.streams.lms m .idle).ringSize / 4
  if size = 0 then 0 else (d.lm m).ringN % size

/-- Fields of the safety block that follow pins and sources: they read as at power-up until the block has been ready (R47). -/
def safetyLive : List Fld := [F.SB_STATUS_FB_1, F.SB_STATUS_FB_2, F.SB_STATUS_TRIP, F.SB_STATUS_SBC_REQ, F.SB_STATUS_OSC_OK, F.SB_DEMAND_COND]

/-- Value of a field as a context reads it: the views first (HC_SELF, time, straps, log window), else the bank. -/
def Dev.field (d : Dev) (x : Nat) (f : Fld) (i j : Nat) : Nat :=
  if f = F.HC_SELF_CTX then x
  else if f = F.HC_SELF_ROLE then d.get F.HC_CTX_CFG_ROLE x
  else if f = F.HC_SELF_STATE then d.get F.HC_CTX_STAT_STATE x
  else if f = F.HC_SELF_PORT then x / 4
  else if f = F.GL_ID_DEVID then d.pins.devid
  else if f = F.GL_ID_GRADE then d.pins.grade
  else if f = F.TB_PLL_REFSEL then bit d.pins.refSel
  else if f = F.GL_VCORE_HELD then bit (d.on F.GL_VADAPT_EN && d.railHeld i)
  else if f = F.TB_NOW_NS_NS then d.ns
  else if f = F.TB_NOW_SEC_LO_SEC_LO then nth (d.ctx x).nowLatch 0 0
  else if f = F.TB_NOW_SEC_HI_SEC_HI then nth (d.ctx x).nowLatch 1 0
  else if f = F.TB_CT_LO_CT_LO then d.ct % 0x100000000
  else if f = F.TB_CT_HI_CT_HI then d.ct / 0x100000000
  else if f = F.GP_MODE_SWITCHING then bit (d.deblocked i)
  else if f = F.TP_STATE_SIMPLEX_MS ∧ d.get F.TP_STATE_STATE = 3 then clampN 0xFFFF ((d.now - d.tp.simplexAt) / 500000)
  else if f = F.MO_SCRUB_PASS_PCT then d.scrubPct
  else if f = F.TP_PROOF_STEP then d.proofSteps
  else if f = F.PL_STATUS_LEAD_SHORT then bit (d.leadShort i)
  else if !d.sb.everReady && safetyLive.contains f then 0
  else if f = F.SB_SEAL_SWITCHES then d.pins.sealPins
  else if f = F.TB_HOLD_SECONDS ∧ d.get F.TB_SERVO_STATE = 3 then (d.now - d.tb.holdAt) / 500000000
  else if f = F.LM_CONT_T0_T0 ∧ (d.lm i).contCame d.now then d.contT0 ((d.lm i).changeAt d.now).1
  else if f = F.LM_CONT_N_N ∧ (d.lm i).contCame d.now then d.contN i
  else if f = F.LM_STAT_STATE ∧ (nth d.si.streams.lms i .idle).trig = 3 ∧ d.get f i ≠ 2 then
    bit (d.ready F.GL_READY_LOCALMEAS && decide ((d.lm i).contIn d.now / 0x10000 ≠ 0))
  else if f = F.FC_LOG_IDX_INDEX then d.get f x
  else if f = F.FC_LOG_WIN_DATA then (nth d.fc.win x .blank).word i
  else d.get f i j

/-- Value of one field of a register word; a WO field returns 0 (R5). -/
def Dev.fieldIn (d : Dev) (x : Nat) (r : RegAt) (fd : FieldDesc) : Nat :=
  if fd.acc = .wo then 0
  else if fd.fld = F.FC_LATCH_LATCH ∨ fd.fld = F.FC_COND_COND then
    sumN ((List.range 32).map fun b => d.get fd.fld (32 * r.i + b) * 2 ^ b)
  else d.field x fd.fld r.i (fd.copy.getD r.j) % 2 ^ fd.fld.width * 2 ^ fd.pos

/-- A register word as context x reads it; a reserved offset reads 0 (R425). The stamp
queues show what the context latched (R346, R347). -/
def Dev.word (d : Dev) (x off : Nat) : Nat :=
  if 0x30200 ≤ off ∧ off < 0x30240 then nth (tabD (d.ctx x).tsqLatch ((off - 0x30200) / 16) []) (off % 16 / 4) 0
  else if 0x30500 ≤ off ∧ off < 0x30600 then nth (tabD (d.ctx x).evtLatch ((off - 0x30500) / 16) []) (off % 16 / 4) 0
  else match findReg regTable off with
  | none => 0
  | some r =>
    if (r.reg.base == 0x108000 || r.reg.base == 0x108004) && decide (128 * d.get F.PL_CFG_NCOURSES r.i ≤ r.j) then 0
    else sumN (r.reg.fields.map (d.fieldIn x r))

/-- Role of a context (R425) and whether it is OPEN (R424). -/
def Dev.role (d : Dev) (x : Nat) : Nat := d.get F.HC_CTX_CFG_ROLE x
def Dev.isOpen (d : Dev) (x : Nat) : Bool := d.get F.HC_CTX_STAT_STATE x == 1
def Dev.isOwner (d : Dev) (x : Nat) : Bool := d.role x == 0

/-- Record a refused access (R422, R425): causes 0 ROLE, 1 CLOSED, 2 PARTIAL. -/
def Dev.refuse (d : Dev) (x : Nat) (bar2 write : Bool) (cause off : Nat) : Dev :=
  let d : Dev := if cause = 2 then d.count F.HC_CTX_STAT_PARTIAL x else d.count F.HC_CTX_STAT_REFUSED x
  let d : Dev := d.flag F.HC_CTX_REFADDR_BAR2 bar2 x
  let d : Dev := d.flag F.HC_CTX_REFADDR_WRITE write x
  let d : Dev := d.set F.HC_CTX_REFADDR_CAUSE cause x
  d.set F.HC_CTX_REFADDR_OFFSET off x

/-- Offsets a CLOSED or CLOSING context may read (R424): GL_ID, GL_READY, GL_START and the HC_ block. -/
def readableClosed (off : Nat) : Bool := off == 0 || off == 4 || off == 8 || (decide (0x10000 ≤ off) && decide (off < 0x20000))

/-- Why an access to a register is refused, if it is: CLOSED before ROLE. -/
def Dev.refusal (d : Dev) (x : Nat) (write : Bool) (off : Nat) : Option Nat :=
  if !d.isOpen x && !(if write then off == 0x10004 else readableClosed off) then some 1
  else match findReg regTable off with
    | none => none
    | some r => if testBit (if write then r.reg.wr else r.reg.rd) (d.role x) then none else some 0

/-- A host write to a register: refused with its record, or done. -/
def Dev.hostWrite (x off : Nat) (f : Dev → Dev) (d : Dev) : Dev :=
  match d.refusal x true off with
  | some cause => d.refuse x false true cause off
  | none => f d

/-- A host read of a register: refused, it reads 0 (R425); else f answers the value and the state. -/
def Dev.hostRead (x off : Nat) (f : Dev → Dev × Nat) (d : Dev) : Dev :=
  match d.refusal x false off with
  | some cause => (d.refuse x false false cause off).emit (.readData x off 0)
  | none => let (d, v) := f d; d.emit (.readData x off v)

/-- Append a settings record (R41): words 0 to 6 written, the commit word not yet. -/
def Dev.journal (d : Dev) (off mask val : Nat) : Dev :=
  let h := nth d.store.halves d.store.half ⟨0, false, []⟩
  let r := JRec.start d.store.jseq off mask val (d.mo.imageId % 0x100000000)
  let d : Dev := { d with store := { d.store with jseq := d.store.jseq + 1, halves := setNth d.store.halves d.store.half { h with recs := h.recs ++ [r] } } }
  (d.flag F.MO_JOURNAL_PENDING true).set F.MO_JOURNAL_FILL (h.recs.length + 1)

/-- Set a Kept field by the device and append its record (R7, R41). -/
def Dev.setKept (d : Dev) (f : Fld) (v : Nat) (i : Nat := 0) (j : Nat := 0) : Dev :=
  let pos := ((regTable.find? (fun r => r.base == f.base)).bind fun r => (r.fields.find? (·.fld == f)).map (·.pos)).getD f.lo
  (d.set f v i j).journal (regOffset f.base i j) (fieldMask f pos) (v % 2 ^ f.width * 2 ^ pos)

/-- The message of a vector, with address and data of its entry (R421). -/
def CtxSt.message (c : CtxSt) (x v : Nat) : Out := .msix x v (c.entry v 0 + 0x100000000 * c.entry v 1) (c.entry v 2)

/-- Send the message of a vector, or hold it while the vector is masked or Bus Master Enable is clear (R430, R440). -/
def Dev.sendMsi (d : Dev) (x v : Nat) : Dev :=
  let c := d.ctx x
  if c.bme && !c.masked v then d.emit (c.message x v)
  else if c.held.contains v then d else d.modCtx x fun c => { c with held := c.held ++ [v] }

/-- Event e of R439 occurs for context x: the status bit is set, and a message goes if it was clear and is enabled. -/
def Dev.event (x e : Nat) (d : Dev) : Dev :=
  let was := testBit (d.get F.HC_IRQ_STAT_STAT x) (e - 1)
  let d : Dev := d.setBit F.HC_IRQ_STAT_STAT (e - 1) true x
  if !was && testBit (d.get F.HC_IRQ_EN_EN x) (e - 1) then d.sendMsi x e else d

/-- Event e for every context. -/
def Dev.eventAll (e : Nat) (d : Dev) : Dev := d.each (List.range 8) (fun x d => d.event x e)

/-- The interrupt of R396: PENDING in every context whose EN is set, one message to each without one outstanding. -/
def Dev.interrupt (d : Dev) : Dev :=
  d.each (List.range 8) fun x d =>
    if d.on F.FC_IRQ_EN x then
      (if d.on F.FC_IRQ_PENDING x then d else (d.flag F.FC_IRQ_PENDING true x).sendMsi x 0)
    else d

/-- LM_CONT as one number: enable, decimation, gain, input. -/
def Dev.contWord (d : Dev) (m : Nat) : Nat :=
  d.get F.LM_CONT_EN m * 0x10000 + d.get F.LM_CONT_DECIM m * 0x100 + d.get F.LM_CONT_GAIN m * 0x10 + d.get F.LM_CONT_INPUT m

/-- The edge on a multiple of 250 ticks that a write of LM_CONT waits for (R325). -/
def Dev.nextEdge (d : Dev) : Nat := d.now + (250 - d.ct % 250)

/-- Whether a converter serves the overvoltage demand (R405). -/
def Dev.ovOwns (d : Dev) (m : Nat) : Bool := d.sb.params.ovEn && d.sb.params.ovLm == m

/-- Put a GI bit with its validity; what GI held before the first change of this tick is kept for an opening at the same tick (R316). -/
def Dev.setGi (n : Nat) (v valid : Bool) (d : Dev) : Dev :=
  { d with si := { d.si with
      gi := putBit d.si.gi n v, giValid := putBit d.si.giValid n valid,
      giAt := d.now, giWas := if d.si.giAt = d.now then d.si.giWas else (d.si.gi, d.si.giValid) } }

/-- A bit takes its DEFAULT (R313, R315): HOLD (2) keeps the value. -/
def Dev.giDefault (m : GoMember) (d : Dev) : Dev := d.setGi m.bitNo (if m.dflt = 2 then testBit d.si.gi m.bitNo else m.dflt == 1) false

/-- The value an RW field takes for a written one, where a table says "taken as" (R6). -/
def takenAs (f : Fld) (v : Nat) : Nat :=
  if f = F.MO_SCRUB_PERIOD then (if v = 0 ∨ 168 < v then 24 else v)
  else if f = F.HC_OWNER_CLAIM_WAIT then clampN 3600 v
  else if f = F.CM_CRS_MEAS_PERIOD then (if v = 0 ∨ 3600 < v then 60 else v)
  else if f = F.DM_CFG_HOP_LIMIT then (if v = 0 then 4096 else v)
  else if f = F.TP_CFG_SIMPLEX_LIMIT then (if v = 0 ∨ 100 < v then 20 else v)
  else if f = F.TP_CFG_LATE_N then (if v = 0 then 4 else v)
  else if f = F.TP_CFG_FENCE_MAX then (if v = 0 then 3 else v)
  else if f = F.TP_CFG_PROOF_PERIOD then clampN 168 v
  else if f = F.LM_CONT_DECIM then clampN 8 v
  else if f = F.HC_MMU_ROOT_LO_ROOT_LO then v / 0x1000 * 0x1000
  else v

/-- One field of a written word: an RW field takes its value; other fields ignore the write (R5). -/
def Dev.writeField (v : Nat) (r : RegAt) (d : Dev) (fd : FieldDesc) : Dev :=
  if fd.acc = .rw then d.set fd.fld (takenAs fd.fld (v / 2 ^ fd.pos % 2 ^ fd.fld.width)) r.i (fd.copy.getD r.j) else d

/-- Whether a descriptor's field is a setting (Kept and writable). -/
def settingField (fd : FieldDesc) : Bool := fd.kept && decide (fd.acc = .rw)

/-- Mask of a register's settings. -/
def settingMask (r : RegDesc) : Nat := sumN ((r.fields.filter settingField).map fun fd => fieldMask fd.fld fd.pos)

/-- The settings of a register as they stand, in place. -/
def Dev.settings (d : Dev) (r : RegAt) : Nat := sumN ((r.reg.fields.filter settingField).map (d.fieldIn 0 r))

/-- Whether the registers at an offset can be written (R47): those of a function that has not become ready since the start read as
their power-up values, and settings do until the journal has been replayed (log entry 114). -/
def Dev.blockReady (d : Dev) (r : RegDesc) : Bool :=
  (settingMask r == 0 || d.ready F.GL_READY_JOURNAL) &&
  match r.base / 0x10000 with
  | 2 => d.ready F.GL_READY_STORE
  | 3 => d.tb.everReady
  | 4 => d.ready F.GL_READY_FAULTS
  | 5 => d.sb.everReady
  | 6 => d.tp.everReady
  | 7 => d.ready F.GL_READY_LOCALMEAS
  | 8 => d.ready F.GL_READY_INTAKE
  | 9 => d.ready F.GL_READY_DMA
  | _ => true

/-- Write a word to the RW fields of a register; a settings write appends its record (R41). -/
def Dev.writeReg (v : Nat) (r : RegAt) (off : Nat) (d : Dev) : Dev :=
  if !d.blockReady r.reg then d
  else
    let d : Dev := r.reg.fields.foldl (Dev.writeField v r) d
    if settingMask r.reg = 0 then d else d.journal off (settingMask r.reg) (d.settings r)

/-- Clear the RC fields of a register (R5). -/
def Dev.clearRc (r : RegAt) (d : Dev) : Dev :=
  r.reg.fields.foldl (fun d fd => if fd.acc = .rc then d.set fd.fld 0 r.i (fd.copy.getD r.j) else d) d

/-- Store one byte of the working store. -/
def Dev.pokeBytes (d : Dev) (a : Nat) (l : List (BitVec 8)) : Dev := { d with work := d.work.writeBytes a l }

/-- Size of the working store (R431). -/
def workSize : Nat := 0x1000000

end Sys2Proof.Machine
end

