-- ==== Sys2Proof/Machine/Transmit.lean ====
section
/-! DEFINITION. The transmitters of the lanes (R19, R232, R250, R251, R259): which frame a lane starts and when, in 0.2 ns; its time stamps; and
the frame of every command, in which time passes and the lanes send what waits. -/

namespace Sys2Proof.Machine

/-- One unit interval, and the latencies of a lane's transmit and receive path, in 0.2 ns, by RATE code (R219, R232). -/
def uiUnits (rate : Nat) : Nat := if rate = 0 then 4 else if rate = 1 then 2 else 1
def txLatency (rate : Nat) : Nat := if rate = 0 then 200 else if rate = 1 then 120 else 80
def rxLatency (rate : Nat) : Nat := if rate = 0 then 220 else if rate = 1 then 140 else 100

/-- Rate of a course's lanes. -/
def Dev.rate (d : Dev) (c : Nat) : Nat := (d.laneRate c).getD 0

/-- Course time wraps at 2^48 ticks; in 0.2 ns that is this number. -/
def stampSpan : Nat := 2814749767106560

/-- A receive stamp as the lane takes it, brought to the ball (R232). -/
def Dev.rxStamp (d : Dev) (c stamp : Nat) : Nat := (stamp % stampSpan + stampSpan - rxLatency (d.rate c)) % stampSpan

/-- The transmit stamp at the ball of a comma whose first bit is released at a course time: of the last bit of its type field, 32 unit
intervals on (R232, R268; log entry 126). -/
def Dev.txStamp (d : Dev) (c released : Nat) : Nat := (released + txLatency (d.rate c) + 32 * uiUnits (d.rate c)) % stampSpan

/-- Course time in 0.2 ns at a point of the line's time, which counts 0.2 ns since power was applied. -/
def Dev.lineCt (d : Dev) (t : Nat) : Nat := (10 * d.ct + stampSpan + t - 10 * d.now) % stampSpan

/-- Time a frame takes on the line with its comma and stuffed bits, in 0.2 ns. -/
def frameUnits (rate : Nat) (f : Frame) : Nat := (lineOf f.comma (dataBits f.bytes)).length * uiUnits rate

/-- The release of the mark of a course time that is a multiple of 1,800 ticks, as far before it as the comma takes to leave the ball,
and the end of the mark on the line (R232, R259). -/
def markBegin (rate m : Nat) : Nat := 18000 * m - (txLatency rate + 32 * uiUnits rate)
def markEnd (rate m : Nat) : Nat := markBegin rate m + frameUnits rate (.timeMark (1800 * m) false 0)

/-- Whether a frame of some length, begun at a course time, ends before the next scheduled mark begins (R250). -/
def clearOfMarks (rate ct len : Nat) : Bool :=
  let m := (ct + txLatency rate + 32 * uiUnits rate) / 18000
  decide (markEnd rate m ≤ ct) && decide (ct + len ≤ markBegin rate (m + 1))

/-- The end of the mark at a course time or of the next one. -/
def afterMark (rate ct : Nat) : Nat :=
  let m := (ct + txLatency rate + 32 * uiUnits rate) / 18000
  if ct < markEnd rate m then markEnd rate m else markEnd rate (m + 1)

/-- Whether a lane sends: not idle and not in a wake sequence or a loop. -/
def Dev.sending (d : Dev) (c e : Nat) : Bool :=
  d.enabled c && !d.on F.CM_LANE_STAT_TX_IDLE c e && !(d.lane c e).eidleDue && (d.lane c e).wakeEnd.isNone && d.get F.CM_LANE_STAT_LOOP c e == 0

/-- Line time of a 16-byte frame with its comma, in ticks, rounded up: at most 176 line bits (R263). -/
def frameTicks (rate : Nat) : Nat := if rate = 0 then 71 else if rate = 1 then 36 else 18

/-- Whether a course carries the traffic of a spare course (R250, R279): its window is always open. -/
def Dev.alwaysOpen (d : Dev) (c : Nat) : Bool := !d.bound c || d.get F.CM_CRS_STAT_STATE c == 1

/-- Two-way path to a position from an end (R268). -/
def Dev.way (d : Dev) (c p e : Nat) : Option Nat := if e = 0 then (d.dir (128 * c + p)).wH else (d.dir (128 * c + p)).wF

/-- The transaction window of an end (R251). -/
def CrsSt.window (r : CrsSt) (e : Nat) : Bool := if e = 0 then r.windowH else r.windowF

/-- Whether a request to a position may start at a tick from an end (R251). The path to a brick that was never measured from that end counts 0
(log entry 177). -/
def Dev.fitsAt (d : Dev) (c p e t : Nat) : Bool :=
  d.alwaysOpen c || ((d.crs c).window e &&
    decide (t + ((d.way c p e).getD 0) / 10 + 1000 + 2 * frameTicks (d.rate c) < (d.crs c).windowEnd))
def Dev.fits (d : Dev) (c p e : Nat) : Bool := d.fitsAt c p e d.now

/-- The position a request names. -/
def Frame.position : Frame → Nat
  | .pointReq _ _ b _ _ | .probe _ b => b % 128
  | .discover _ h _ => h
  | _ => 0

/-- Whether a lane may start a frame at a point of its time by the content of R250: from an opening to D_R neither CYCLE, RANK nor
requests; requests only in their window; nothing but what a spare course sends while DISCOVERING. -/
def Dev.mayStart (d : Dev) (c e t : Nat) (f : Frame) : Bool :=
  if f.cls ≤ 3 then true
  else if f.cls = 6 then d.fitsAt c f.position e (t / 10)
  else match d.groupOf c with
    | none => false
    | some g =>
      let h := d.grp g
      !(decide (10 * h.openTick ≤ t) && decide (t < 10 * (h.openTick + quarterUs h.cfg.dr)))

/-- The first of the waiting frames in the order of R250 among those that had come by a point of time. -/
def firstWaiting (t : Nat) : List TxWait → Option TxWait
  | [] => none
  | w :: r => match firstWaiting t r with
    | some v => if 10 * w.since ≤ t ∧ w.cls ≤ v.cls then some w else some v
    | none => if 10 * w.since ≤ t then some w else none

/-- Whether the frame that is first at a point of time may start then. -/
def Dev.startsAt (d : Dev) (c e t : Nat) : Option (TxWait × Nat) :=
  match firstWaiting t (d.lane c e).txq with
  | some w =>
    if decide (t ≤ 10 * d.now) && d.mayStart c e t w.frame && clearOfMarks (d.rate c) (d.lineCt t) (frameUnits (d.rate c) w.frame) then some (w, t)
    else none
  | none => none

/-- The next frame a lane starts, up to the present tick: as soon as the frame in progress ends, else after the mark that is in its way, else
now (R250; log entry 125). -/
def Dev.nextStart (d : Dev) (c e : Nat) : Option (TxWait × Nat) :=
  let l := d.lane c e
  match l.txq with
  | [] => none
  | w :: r =>
    if !d.sending c e then none
    else
      let t := max l.txEnd (10 * (r.foldl (fun m x => min m x.since) w.since))
      let u := t + (afterMark (d.rate c) (d.lineCt t) + stampSpan - d.lineCt t) % stampSpan
      [t, u, max t (10 * d.now)].findSome? (d.startsAt c e)

/-- What the start of a request fixes: when it left, and the transmit stamp of a PROBE (R267, R268, R281, R295). -/
def Dev.started (c e t : Nat) (f : Frame) (d : Dev) : Dev :=
  match f with
  | .pointReq _ tid b _ _ =>
    { d with cm := { d.cm with reqs := d.cm.reqs.map fun q =>
      if q.brick = b ∧ q.tid = tid ∧ (q.sent.map (·.1)) = some (e == 1) then { q with sent := some (e == 1, t / 10) } else q } }
  | .probe tid _ => d.modCrs c fun r => { r with probing := r.probing.map fun x =>
      if x.e = e ∧ x.tid = tid then { x with since := t / 10, stamp := d.txStamp c (d.lineCt t) } else x }
  | .discover _ _ _ => d.modCrs c fun r => { r with disc := r.disc.map fun q => { q with sentAt := t / 10 } }
  | _ => d

/-- Where no frame follows the one that has ended, or a mark, directly, the transmitter has nothing to send: an IDLE comma leaves, unless it
would run into the next mark, before which fill without a comma stands; idle fill follows (R227, R230). -/
def Dev.goIdle (c e : Nat) (d : Dev) : Dev :=
  let l := d.lane c e
  let n := 32 * uiUnits (d.rate c)
  if !l.ended || !d.sending c e || decide (10 * d.now ≤ l.txEnd) || (d.startsAt c e l.txEnd).isSome then d
  else if clearOfMarks (d.rate c) (d.lineCt l.txEnd) n then
    (d.modLane c e fun l => { l with ended := false, txEnd := l.txEnd + n }).emit (.idle c (e == 1) 1)
  else d.modLane c e fun l => { l with ended := false }

/-- A frame begins on a lane. -/
def Dev.beginFrame (c e : Nat) (w : TxWait) (t : Nat) (d : Dev) : Dev :=
  let len := frameUnits (d.rate c) w.frame
  let d : Dev := d.modLane c e fun l => { l with txq := l.txq.erase w, txEnd := t + len, ended := true }
  (d.started c e t w.frame).emit (.frame c (e == 1) w.frame)

/-- A lane starts what it can, at most n frames, and sends idle where nothing follows. -/
def Dev.runLane (c e : Nat) : Nat → Dev → Dev
  | 0, d => d.goIdle c e
  | n + 1, d =>
    let d := d.goIdle c e
    match d.nextStart c e with
    | some (w, t) => Dev.runLane c e n (d.beginFrame c e w t)
    | none => d

/-- Every lane where frames wait or one has ended goes on. -/
def Dev.runLanes (d : Dev) : Dev :=
  (d.cm.lanes.filter fun p => !p.2.txq.isEmpty || p.2.ended).foldl (fun d p => d.runLane (p.1 / 2) (p.1 % 2) p.2.txq.length) d

/-- The lane die's check of a frame the hub die gives it (R19): a frame that fails it is not sent. -/
def Dev.hubFails (d : Dev) (c : Nat) (f : Frame) : Bool := f.hub && nth d.cm.hubBad (c / 32) false

/-- Hand a frame to the transmitter of one end of a course, if that end works (R19, R250). -/
def Dev.send (c e : Nat) (f : Frame) (d : Dev) : Dev :=
  if !(d.lane c e).working then d
  else if d.hubFails c f then { d with cm := { d.cm with hubBad := setNth d.cm.hubBad (c / 32) false } }
  else
    let d : Dev := d.modLane c e fun l => { l with txq := l.txq ++ [⟨f.cls, d.now, f⟩] }
    d.runLane c e (d.lane c e).txq.length

/-- Send a frame from both ends (R249). -/
def Dev.sendBoth (c : Nat) (f : Frame) (d : Dev) : Dev := (d.send c 0 f).send c 1 f

/-- The frame of a command: what left before is gone, dt ticks pass, the lanes send what waits, and the effect takes place if the device
works. -/
def Dev.run (dt : Nat) (f : Dev → Dev) (d : Dev) : Dev :=
  let d' := Dev.elapse dt { d with out := [] }
  if d'.live then f d'.runLanes else d'

end Sys2Proof.Machine
end

