-- ==== Sys2Proof/Machine/CourseOps.lean ====
section
/-! DEFINITION. Raising a fault source, and the operations on lanes, course ends, courses and directory entries that
several commands share (R20, R221, R233 to R235, R278 to R291). -/

namespace Sys2Proof.Machine

/-- Raise a source with a detail word; its latch and reaction follow in the same tick (R380). -/
def Dev.raise (n : Nat) (detail : Nat := 0) (d : Dev) : Dev :=
  { d with fc := { d.fc with due := d.fc.due ++ [⟨n, detail, false, none⟩] } }

/-- The no-majority raise of 0x013, which takes SAFE_STATE (R379). -/
def Dev.raiseSafe (n : Nat) (d : Dev) : Dev := { d with fc := { d.fc with due := d.fc.due ++ [⟨n, 0, true, none⟩] } }

/-- The condition of a level source begins or ends (R375, R386). -/
def Dev.cond (n : Nat) (holds : Bool) (detail : Nat := 0) (d : Dev) : Dev :=
  if holds then (if d.on F.FC_COND_COND n then d else (d.flag F.FC_COND_COND true n).raise n detail)
  else d.flag F.FC_COND_COND false n

/-- Whether a source's FENCE is in force (R387): it took the reaction FENCE and is still latched. -/
def Dev.isFenced (d : Dev) (n : Nat) : Bool := d.on F.FC_LATCH_LATCH n && (tabD d.fc.taken n 0) % 16 == 2

/-- Lane die of a course (R218), and whether it is ready in the sense of R278. -/
def dieOf (c : Nat) : Nat := c / 32
def Dev.dieReady (d : Dev) (c : Nat) : Bool := nth d.cm.dieUp (dieOf c) false && !nth d.cm.dieBad (dieOf c) false
def Dev.lpllLocked (d : Dev) (c : Nat) : Bool := d.on F.TB_LPLL_STAT_LOCKED (c / 8)

/-- STATE of a lane as CM_LANE_x_STAT shows it: LOOP, WAKE, else the receiver's state (R228). -/
def Dev.showLane (c e : Nat) (d : Dev) : Dev :=
  let l := d.lane c e
  let lp := d.get F.CM_LANE_STAT_LOOP c e
  let st := if 1 ≤ lp ∧ lp ≤ 3 then 5 else if l.wakeEnd.isSome then 1 else l.rx
  (d.set F.CM_LANE_STAT_STATE st c e).flag F.CM_LANE_STAT_CDR_LOCK (decide (2 ≤ l.rx)) c e

/-- The receiver takes a state. -/
def Dev.setRx (c e st : Nat) (d : Dev) : Dev := (d.modLane c e fun l => { l with rx := st }).showLane c e

/-- The transmitter is to enter electrical idle: at once when forced, else through EIDLE (R234). What waits at it is lost. -/
def Dev.laneIdle (c e : Nat) (forced : Bool) (d : Dev) : Dev :=
  if d.on F.CM_LANE_STAT_TX_IDLE c e then d
  else if forced then
    let d : Dev := d.modLane c e fun l =>
      { l with idleSince := d.now, wasAligned := l.rx == 4, wakeEnd := none, eidleDue := false, txq := [], txEnd := 0, ended := false }
    (d.flag F.CM_LANE_STAT_TX_IDLE true c e).showLane c e
  else (d.modLane c e fun l => { l with wakeEnd := none, eidleDue := true, txq := [] }).showLane c e

/-- TRANSMIT_EIDLE (R234): a transmitter that is to go idle sends EIDLE and fill, and goes idle. -/
def transmitEidle (c e : Nat) (d : Dev) : Dev :=
  if (d.lane c e).eidleDue then (d.emit (.eidle c (e == 1))).laneIdle c e true else d

/-- Line bits of a training burst in ticks, rounded up (R235): 4,608 line bits at 2.5, 5 or 10 per tick. -/
def burstTicks (rate : Nat) : Nat := if rate = 0 then 1844 else if rate = 1 then 922 else 461

/-- Whether the lane must stay in electrical idle (R233, R238, R387). -/
def Dev.mustIdle (d : Dev) (c : Nat) : Bool :=
  !d.enabled c || !d.dieReady c || !d.lpllLocked c || d.isFenced (0x140 + c / 8) || d.isFenced (0xC0 + 2 * c) ||
  (d.crs c).spareIdle || decide (d.get F.GL_START_KILN ≠ 0)

/-- A lane wakes (R235): by a wake sequence where `full` says so (power-up, R221, the end of a loop or hold under R238, a new rate), else
by the fast exit if its receiver was ALIGNED before the idle began and the idle lasted less than 100 µs. -/
def Dev.wakeLane (c e : Nat) (full : Bool) (d : Dev) : Dev :=
  if d.mustIdle c || d.get F.CM_LANE_STAT_LOOP c e != 0 then d
  else
    let l := d.lane c e
    let fast := !full && l.wasAligned && decide (d.now < l.idleSince + 50000)
    let len := if fast then burstTicks ((d.laneRate c).getD 0) else 1000000
    let d : Dev := (d.emit (.train c (e == 1) (!fast))).modLane c e fun l => { l with wakeEnd := some (d.now + len), eidleDue := false }
    (d.flag F.CM_LANE_STAT_TX_IDLE false c e).showLane c e

/-- Number of bricks of a course (R281): N_c, 0 for an unknown spare course. -/
def Dev.nc (d : Dev) (c : Nat) : Nat := ((d.structure'.bind fun s => tabGet s.courses c).map (·.nc)).getD 0

/-- Entry state of a position, and its change; the counts of CM_CRS_STAT follow. -/
def Dev.entry (d : Dev) (c p : Nat) : Nat := d.get F.CM_DIR_W0_STATE c p
def Dev.countEntries (c : Nat) (d : Dev) : Dev :=
  let found := ((List.range 128).filter fun p => decide (0 < d.entry c p)).length
  let serving := ((List.range 128).filter fun p => d.entry c p == 5).length
  (d.set F.CM_CRS_STAT_FOUND found c).set F.CM_CRS_STAT_IN_SERVICE serving c
def Dev.setEntry (c p st : Nat) (d : Dev) : Dev := (d.set F.CM_DIR_W0_STATE st c p).countEntries c

/-- 0.2 ns units of the line time of 6,144 UI (R291). -/
def lineTime (rate : Nat) : Nat := if rate = 0 then 24576 else if rate = 1 then 12288 else 6144

/-- Smallest latency to a brick over the working ends that reach it, in 0.2 ns (R291). -/
def Dev.latency (d : Dev) (c p : Nat) : Option Nat :=
  let e := d.dir (128 * c + p)
  let h := d.on F.CM_CRS_STAT_H_WORKING c && d.on F.CM_DIR_W0_FROM_H c p
  let f := d.on F.CM_CRS_STAT_F_WORKING c && d.on F.CM_DIR_W0_FROM_F c p
  if h && f then some (min e.latH e.latF) else if h then some e.latH else if f then some e.latF else none

/-- Recompute the delivery latency of a course (R291). -/
def Dev.updateDeliv (c : Nat) (d : Dev) : Dev :=
  let l := (List.range 128).filterMap fun p =>
    if d.entry c p = 4 ∨ d.entry c p = 5 then (d.latency c p).map fun x => (p, x) else none
  match l with
  | [] => (d.set F.CM_CRS_DELIV_DELIV 0 c).set F.CM_CRS_DELIV_WORST 0 c
  | a :: r =>
    let w := r.foldl (fun (b : Nat × Nat) x => if b.2 < x.2 then x else b) a
    (d.set F.CM_CRS_DELIV_DELIV (clampN 0xFFFF ((w.2 + lineTime ((d.laneRate c).getD 0)) / 10)) c).set F.CM_CRS_DELIV_WORST w.1 c

/-- A change of a tile's order waits for its next D_R, where it reaches every channel alike (R199, R288). -/
def Dev.orderOp (t kind i : Nat) (d : Dev) : Dev := { d with cm := { d.cm with ops := d.cm.ops ++ [(t, kind, i)] } }

/-- A failed admission (R287): the entry returns to CHECKED, or after three failures becomes REFUSED with NO_ECHO. -/
def Dev.failAdmission (c p : Nat) (d : Dev) : Dev :=
  let b := 128 * c + p
  let n := (d.dir b).fails + 1
  let d : Dev := d.modDir b fun e => { e with fails := n, checkedAt := d.now }
  if n < 3 then d.setEntry c p 3
  else (d.setEntry c p 7).set F.CM_DIR_W0_REASON 0xB c p

/-- A brick leaves its tile by command (R199, R286): PARKED at its slot, the entry OUT. -/
def Dev.takeOut (c p : Nat) (d : Dev) : Dev :=
  let d : Dev := match d.brickIndex (128 * c + p) with
    | some (t, i) => d.orderOp t 0 i
    | none => d
  ((d.modDir (128 * c + p) fun e => { e with byAdmit := true }).setEntry c p 6).updateDeliv c

/-- A point transaction fails: the status is recorded for its context (R297, R427). -/
def Dev.pointFail (x status addr : Nat) (d : Dev) : Dev :=
  let d : Dev := (d.set F.GL_PT_ERR_W0_STATUS status x).count F.GL_PT_ERR_W0_COUNT x
  let d : Dev := (d.set F.GL_PT_ERR_W1_ADDRESS addr x).event x 12
  if addr / 4096 / 128 < 64 then d.count F.CM_CRS_PT_FAILED (addr / 4096 / 128) else d

/-- Deliver one dword of a point-window read; when all are there, the read completes. -/
def Dev.readValue (num slot v : Nat) (d : Dev) : Dev :=
  match d.cm.reads.find? (·.num == num) with
  | none => d
  | some r =>
    let r := { r with vals := setNth r.vals slot (some v) }
    let rest := d.cm.reads.filter (·.num ≠ num)
    if r.vals.all (·.isSome) then
      let vals := r.vals.map fun (v : Option Nat) => v.getD 0
      let d : Dev := { d with cm := { d.cm with reads := rest } }
      match r.dma with
      | some n => d.modDma n fun c => { c with held := c.held ++ vals.flatMap (leBytes 4), asked := 0 }
      | none => d.emit (.pointData r.ctx r.addr vals)
    else { d with cm := { d.cm with reads := rest ++ [r] } }

/-- Queue a request; its TID is given when it is sent. -/
def Dev.ask (cls ctx rd slot : Nat) (write : Bool) (brick index value : Nat) (d : Dev) : Dev :=
  { d with cm := { d.cm with reqs := d.cm.reqs ++ [⟨cls, ctx, rd, slot, write, brick, index, value, 0, none, none, 0, 0, 0, d.now⟩] } }

/-- What a brick is known to hold of the latency point a request names (R290). -/
def Dev.holdsLat (q : PtReq) (v : Option Nat) (d : Dev) : Dev :=
  if q.index = 0x10 then d.modDir q.brick fun s => { s with heldH := v }
  else if q.index = 0x11 then d.modDir q.brick fun s => { s with heldF := v } else d

/-- A transaction ends without success: a read returns 0xFFFFFFFF (R295, R297), a write of R165 counts in PB_FAIL; an EVENTS read leaves its
brick unmarked, so that its next report marks it again (R300). What a course-manager write that was sent left in the brick is unknown; other
course-manager reads and mirror reads just end. -/
def Dev.endReq (q : PtReq) (status : Nat) (d : Dev) : Dev :=
  let d : Dev := { d with cm := { d.cm with reqs := d.cm.reqs.filter fun r => r ≠ q } }
  if q.cls = 2 ∧ q.ctx < 8 then
    let d : Dev := d.pointFail q.ctx status (q.brick * 4096 + q.index)
    let d : Dev := match (d.cm.reads.find? (·.num == q.rd)).bind (·.dma) with
      | some n => if q.write then d else d.count F.DM_CH_DETAIL_PTFAIL n
      | none => d
    if q.write then d else d.readValue q.rd q.slot 0xFFFFFFFF
  else if q.cls = 2 ∧ q.write then
    (match d.groupOf (q.brick / 128) with | some g => d.count F.GP_HARVEST_PB_FAIL g | none => d)
  else if q.cls = 1 then d.flag F.CM_DIR_W0_EVQ false (q.brick / 128) (q.brick % 128)
  else if q.cls = 0 ∧ q.write ∧ q.sent.isSome then d.holdsLat q none
  else d

/-- End every transaction of a course (R288). -/
def Dev.dropReqs (c status : Nat) (d : Dev) : Dev :=
  (d.cm.reqs.filter fun q => q.brick / 128 == c).foldl (fun d q => d.endReq q status) d

/-- Begin or begin again the discovery of a course (R279, R281): from the head end if it works, else from the foot end where N_c is known;
where it is not, nothing is asked and DISCOVER_TIMEOUT ends the queries (R284). CYCLE and RANK frames that wait for the line are discarded
(R250). -/
def Dev.startDiscovery (c : Nat) (d : Dev) : Dev :=
  let d : Dev := d.each (List.range 128) (fun p d =>
    if d.entry c p = 0 then d else d.modDir (128 * c + p) fun e => { e with confirmed := false, uidH := none, uidF := none, needAssign := false })
  let foot := !(d.lane c 0).working && d.nc c != 0
  let d : Dev := d.modCrs c fun r => { r with disc := some ⟨bit foot, 0, 0, d.now⟩, measuring := false, probes := [], probing := [] }
  let d : Dev := d.each [0, 1] fun e d => d.modLane c e fun l => { l with txq := l.txq.filter fun w => decide (w.cls ≤ 3) || w.cls == 6 }
  d.send c (bit foot) (.discover false 0 0)

/-- Begin a measurement of the whole course (R290): a PROBE to every brick from every working end, as windows allow. -/
def Dev.startMeasure (c : Nat) (d : Dev) : Dev :=
  let ps := (List.range 128).filter fun p => decide (0 < d.entry c p)
  let ends := [0, 1].filter fun e => (d.lane c e).working
  d.modCrs c fun r => { r with measAt := d.now, measuring := true, probes := ends.flatMap fun e => ps.map fun p => (e, p), probing := [] }

/-- What a change to DOWN does to the work of a course (R288). -/
def Dev.courseDown (c : Nat) (d : Dev) : Dev :=
  let d : Dev := (d.dropReqs c 0x13).modCrs c fun r => { r with disc := none, windowH := false, windowF := false }
  d.each (List.range 128) fun p d =>
    if d.entry c p = 4 then
      let d : Dev := match d.brickIndex (128 * c + p) with | some (t, i) => d.orderOp t 0 i | none => d
      d.failAdmission c p
    else d

/-- The course takes a state (R278): the course-state source is raised unless a fence or its return causes the change
(R280), measurement falls due (R290), the delivery latency follows (R291). -/
def Dev.setCourse (c st : Nat) (d : Dev) : Dev :=
  if d.get F.CM_CRS_STAT_STATE c = st then d
  else
    let quiet := (d.crs c).quiet || d.isFenced (0xC0 + 2 * c)
    let d : Dev := (d.set F.CM_CRS_STAT_STATE st c).modCrs c fun r => { r with quiet := r.quiet && (st == 0 || st == 1) }
    let d : Dev := if quiet || !d.enabled c then d else d.raise (0xC0 + 2 * c) c
    let d : Dev := if st = 0 then d.courseDown c else if st = 1 then d.startDiscovery c else d.startMeasure c
    d.updateDeliv c

/-- State of a course whose discovery is over, from its ends (R278). -/
def Dev.settledState (d : Dev) (c : Nat) : Nat :=
  match (d.lane c 0).working, (d.lane c 1).working with
  | false, false => 0
  | true, false => 3
  | false, true => 4
  | true, true => if 3 ≤ (d.lane c 0).markMiss ∧ 3 ≤ (d.lane c 1).markMiss then 5 else 2

/-- Recompute the state of a course after a change at its ends. -/
def Dev.refreshCourse (c : Nat) (d : Dev) : Dev :=
  let d : Dev := (d.flag F.CM_CRS_STAT_H_WORKING (d.lane c 0).working c).flag F.CM_CRS_STAT_F_WORKING (d.lane c 1).working c
  let st := d.settledState c
  let old := d.get F.CM_CRS_STAT_STATE c
  if st = 0 then d.setCourse c 0
  else if old = 0 then d.setCourse c 1
  else if old = 1 then d
  else d.setCourse c st

/-- A course end is lost (R278). -/
def Dev.loseEnd (c e : Nat) (d : Dev) : Dev :=
  if (d.lane c e).working then (d.modLane c e fun l => { l with working := false }).refreshCourse c else d

/-- A lane that goes idle: its end is lost (R221, R233). Its receiver moves by the events of R228 alone. -/
def Dev.killLane (forced : Bool) (c e : Nat) (d : Dev) : Dev := (d.laneIdle c e forced).loseEnd c e

/-- Both lanes of every course of a list forced idle at the loss of their LPLL; they leave it by a wake sequence (R221, R234, R235). -/
def Dev.killCourses (l : List Nat) (d : Dev) : Dev :=
  d.each l fun c d => d.each [0, 1] fun e d => (d.killLane true c e).modLane c e fun l => { l with wasAligned := false }

/-- Both lanes of every course of a list go idle through EIDLE (R20, R234, R387). -/
def Dev.idleCourses (l : List Nat) (d : Dev) : Dev := d.each l fun c d => d.each [0, 1] fun e d => transmitEidle c e (d.killLane false c e)

/-- Both lanes of a course wake. -/
def Dev.wakeCourse (c : Nat) (full : Bool) (d : Dev) : Dev := (d.wakeLane c 0 full).wakeLane c 1 full

/-- Courses of a lane PLL (R218). -/
def coursesOf (p : Nat) : List Nat := (List.range 8).map (8 * p + ·)

/-- A loop or hold of a lane ends (R240): the STAT fields return to none, RESULT as given, the lane wakes by a wake sequence (R238); a
receiver in LOOP goes to IDLE (R228). A far-end loop is ended at its brick by an EXIT word (R242; log entry 127). -/
def Dev.endLoop (c e : Nat) (result : Option Nat) (d : Dev) : Dev :=
  if d.get F.CM_LANE_STAT_LOOP c e = 0 then d
  else
    let loop := d.get F.CM_LANE_STAT_LOOP c e
    let exit := loop == 3 && !d.on F.CM_LANE_STAT_TX_IDLE c e && d.lpllLocked c
    let d : Dev := if exit then d.emit (.frame c (e == 1) (.loopWord true (d.get F.CM_LANE_STAT_LOOP_HOPS c e))) else d
    let d : Dev := ((d.set F.CM_LANE_STAT_LOOP 0 c e).set F.CM_LANE_STAT_LOOP_HOPS 0 c e).flag F.CM_LANE_CTL_BUSY false c e
    let d : Dev := match result with | some r => d.set F.CM_LANE_CTL_RESULT r c e | none => d
    (if loop = 4 then d.showLane c e else d.setRx c e 0).wakeLane c e true

end Sys2Proof.Machine
end

