-- ==== Sys2Proof/Machine/TriplexOps.lean ====
section
/-! DEFINITION. The states of the channels and of the triplex, fencing, and the start of a resynchronisation (R352, R362 to
R366). -/

namespace Sys2Proof.Machine

/-- State of a channel (R352): 0 STARTING, 1 IN_SERVICE, 2 FENCED, 3 REPAIR, 4 COPY, 5 SHADOW, 6 RETIRED. -/
def Dev.chState (d : Dev) (ch : Nat) : Nat := d.get F.TP_CH_STATE ch
def Dev.inService (d : Dev) (ch : Nat) : Bool := d.chState ch == 1

/-- Channels in service, lowest first. -/
def Dev.serving (d : Dev) : List Nat := (List.range 3).filter d.inService

/-- Triplex state code (R363): 0 NOT_READY, 1 TRIPLEX, 2 DUPLEX, 3 SIMPLEX, 4 NONE. -/
def Dev.triplex (d : Dev) : Nat := d.get F.TP_STATE_STATE

/-- The channel whose results the hub publishes: the lowest in service. -/
def Dev.reporting (d : Dev) : Option Nat := d.serving.head?

/-- The proof run ends at the entry to NONE, in which no channel runs it (R365, R372). -/
def Dev.abandonProof (d : Dev) : Dev :=
  if d.tp.proofStart.isNone then d
  else
    let steps := d.proofSteps
    let d : Dev := { d with tp := { d.tp with proofStart := none, proofAt := d.now } }
    ((d.set F.TP_PROOF_STATE 2).set F.TP_PROOF_STEP steps).set F.TP_PROOF_RESULT 3

/-- Recompute TP_STATE after a change of a channel's state: entries to SIMPLEX and NONE raise their sources (R364, R365). NONE is not
left again (R365). -/
def Dev.refreshTriplex (d : Dev) : Dev :=
  let n := d.serving.length
  let ready := d.tp.everReady || decide (2 ≤ n)
  let old := d.triplex
  let st := if !ready then 0 else if old = 4 then 4 else if n = 3 then 1 else if n = 2 then 2 else if n = 1 then 3 else 4
  let d : Dev := if st = 4 then d.abandonProof else d
  let d : Dev := { d with tp := { d.tp with everReady := ready } }
  let d : Dev := d.set F.TP_STATE_STATE st
  let d : Dev := d.set F.TP_STATE_IN_SERVICE (sumN (d.serving.map (2 ^ ·)))
  let d : Dev := d.set F.TP_STATE_FENCED (sumN ((List.range 3).map fun c => 2 ^ c * bit (d.chState c == 2 || d.chState c == 6)))
  let d : Dev := d.set F.TP_STATE_RESYNC (((d.tp.resync.map (·.ch)).getD 3))
  let d : Dev := d.set F.TP_STATE_DONOR ((((d.tp.resync.bind (·.donor)))).getD 3)
  let d : Dev := if st = 1 ∨ st = 2 then d.flag F.GL_READY_TRIPLEX true else if st = 4 then d.flag F.GL_READY_TRIPLEX false else d
  let d : Dev := if st = 3 ∧ old ≠ 3 then { d with tp := { d.tp with simplexAt := d.now, simplexDone := false } } else d
  let d : Dev := d.cond 0x29 (st == 3)
  let d : Dev := if st ≠ 3 then (d.cond 0x2A false).set F.TP_STATE_SIMPLEX_MS 0 else d
  d.cond 0x2B (st == 4)

/-- TP_CMD.BUSY (R374): a resynchronisation or proof run is in progress. -/
def Dev.refreshBusy (d : Dev) : Dev := d.flag F.TP_CMD_BUSY (d.tp.resync.isSome || d.tp.proofStart.isSome)

/-- The channel takes a state. -/
def Dev.setCh (ch st : Nat) (d : Dev) : Dev := (d.set F.TP_CH_STATE st ch).refreshTriplex.refreshBusy

/-- Index of the ordered pair (x sees y) in the heartbeat fields (TP_HB): A-B, A-C, B-A, B-C, C-A, C-B. -/
def hbPair (x y : Nat) : Nat := 2 * x + (if x < y then y - 1 else y)

/-- Whether x sees y missing on a path (R359): 0 package link, 1 pin loop. -/
def Dev.missesOn (d : Dev) (x y path : Nat) : Bool :=
  testBit (if path = 0 then d.get F.TP_HB_LINK_MISSING else d.get F.TP_HB_PIN_MISSING) (hbPair x y)

/-- Whether x sees y missing on both paths. -/
def Dev.sees (d : Dev) (x y : Nat) : Bool := d.missesOn x y 0 && d.missesOn x y 1

/-- Place of a heartbeat from y at x on a path in the heartbeat fields of R359. -/
def hbAt (x y path : Nat) : Nat := 2 * hbPair x y + path

/-- A channel that judges the heartbeats of the others (R359): in service, or the receiving one in COPY or SHADOW. -/
def Dev.observes (d : Dev) (x : Nat) : Bool := d.inService x || d.chState x == 4 || d.chState x == 5

/-- A channel y whose heartbeat is present on both paths (R367, R374): as every other channel in service sees it; where there is none, as
the channel r that is to be brought back receives it. -/
def Dev.heardOnBoth (d : Dev) (r y : Nat) : Bool :=
  match d.serving.filter (· != y) with
  | [] => decide (nth d.tp.hbMiss (hbAt r y 0) 0 < 3) && decide (nth d.tp.hbMiss (hbAt r y 1) 0 < 3)
  | l => l.all fun x => !d.missesOn x y 0 && !d.missesOn x y 1

/-- Whether a resynchronisation of a channel may start (R366). -/
def Dev.mayResync (d : Dev) (ch : Nat) : Bool :=
  d.chState ch == 2 && !d.serving.isEmpty && d.tp.resync.isNone && decide (d.get F.TP_CH_FENCES ch < d.get F.TP_CFG_FENCE_MAX)

/-- Start a resynchronisation: REPAIR (R367). -/
def Dev.startResync (ch : Nat) (d : Dev) : Dev :=
  let d : Dev := { d with tp := { d.tp with resync := some { ch := ch, start := d.now, selfTested := false, donor := none, left := [], copyAt := 0, shadow := [] } } }
  ((d.modChan ch fun _ => .init).set F.TP_CH_SHADOW 0 ch).setCh ch 3

/-- With AUTO_RESYNC, the FENCED channel with the lower letter starts as soon as it may (R366). -/
def Dev.autoResync (d : Dev) : Dev :=
  if d.on F.TP_CFG_AUTO_RESYNC then
    match (List.range 3).find? d.mayResync with
    | some ch => d.startResync ch
    | none => d
  else d

/-- The receiving channel returns to REPAIR (R370). -/
def Dev.backToRepair (d : Dev) : Dev :=
  match d.tp.resync with
  | none => d
  | some r =>
    let d : Dev := { d with tp := { d.tp with resync := some { r with selfTested := false, donor := none, left := [], shadow := [] } } }
    ((d.modChan r.ch fun _ => .init).set F.TP_CH_SHADOW 0 r.ch).setCh r.ch 3

/-- Take a channel's contributions out of the votes in progress (R362). -/
def VoteSt.without (ch : Nat) (v : VoteSt) : VoteSt :=
  { v with digests := v.digests.filter (·.1 ≠ ch), sets := v.sets.filter (·.ch ≠ ch), lateRuns := setNth v.lateRuns ch 0 }

/-- What a fence does to a channel (R362, R366): its count, but for cause INPUT (R353), and cause; its contributions to the votes, its
slack and its run of late cycles; its source; its state. -/
def Dev.cutChannel (cause ch : Nat) (d : Dev) : Dev :=
  let fences := satInc 15 (d.get F.TP_CH_FENCES ch)
  let d : Dev := if cause = 5 then d else d.setKept F.TP_CH_FENCES fences ch
  let d : Dev := (d.set F.TP_CH_CAUSE cause ch).set F.TP_VOTE_LATE_RUN 0 ch
  let d : Dev := { d with tp := { d.tp with votes := d.tp.votes.map fun p => (p.1, p.2.without ch), upsets := setNth d.tp.upsets ch 0 } }
  let d : Dev := d.each (List.range 12) fun t d => (d.set F.PL_SLACK_WMIN 0x8000 t ch).set F.PL_SLACK_LAST 0x8000 t ch
  (d.raise (0x10 + ch) cause).set F.TP_CH_STATE (if d.get F.TP_CFG_FENCE_MAX ≤ d.get F.TP_CH_FENCES ch then 6 else 2) ch

/-- Fence channels with a cause at once (R361, R362, R366, R370): the triplex passes through no state between. -/
def Dev.fenceAll (l : List Nat) (cause : Nat) (d : Dev) : Dev :=
  match l.filter fun ch => d.chState ch != 2 && d.chState ch != 6 with
  | [] => d
  | l =>
    let wasDonor := (d.tp.resync.map fun r => (r.donor.map l.contains).getD false && d.chState r.ch == 4).getD false
    let d : Dev := l.foldl (fun d ch => d.cutChannel cause ch) d
    let d : Dev := if ((d.tp.resync.map fun r => l.contains r.ch).getD false) then { d with tp := { d.tp with resync := none } } else d
    let d : Dev := d.refreshTriplex.refreshBusy
    let d : Dev := if wasDonor then d.backToRepair else d
    d.autoResync

/-- Fence one channel. -/
def Dev.fenceChannel (ch cause : Nat) (d : Dev) : Dev := d.fenceAll [ch] cause

/-- A channel enters service (R369, R371), unless the state is NONE (R365). -/
def Dev.enterService (ch : Nat) (d : Dev) : Dev :=
  if d.triplex = 4 then d else
  let d : Dev := if (d.tp.resync.map (·.ch)) = some ch then { d with tp := { d.tp with resync := none } } else d
  let d : Dev := d.setCh ch 1
  d.autoResync

/-- The BLOCK frame of a tile as a channel in service forms it at the collector's signal (R17, R383): spoiled by the fault that the channel's
last frame set showed; none from a channel that every other one in service sees missing (log entry 170). -/
def Dev.blockFrame (d : Dev) (t ch : Nat) : Option Frame :=
  let others := d.serving.filter (· != ch)
  if !d.inService ch || (!others.isEmpty && others.all fun x => d.sees x ch) then none
  else some (.block (t ^^^ nth d.tp.upsets ch 0))

/-- The first frame that is there twice. -/
def twice : List Frame → Option Frame
  | [] => none
  | a :: r => if r.contains a then some a else twice r

/-- The BLOCK frame of a tile that the voters release (R383): one that two channels in service deliver equal, or in SIMPLEX that of the
one. -/
def Dev.blockVote (d : Dev) (t : Nat) : Option Frame :=
  let l := d.serving.filterMap (d.blockFrame t)
  if d.triplex = 1 ∨ d.triplex = 2 then twice l else if d.triplex = 3 then l.head? else none

/-- BLOCK frames leave at once, outside the cycle, on every course of every non-idle tile (R383). -/
def Dev.blockAll (d : Dev) : Dev :=
  d.busyTiles.foldl (fun d p => match d.blockVote p.1 with
    | some f => d.each p.2.courses fun c d => d.sendBoth c f
    | none => d) d

/-- A forced BLOCKED request to a group (R102, R103): SAFE_STATE (0x0B) prevails over BLOCK_GROUP (0x0A). -/
def Dev.force (cause g : Nat) (d : Dev) : Dev :=
  d.modGrp g fun h => if !h.built then h else { h with forced := some (max cause (h.forced.getD 0)) }

/-! Votes -/

/-- The vote of a tile. -/
def Dev.vote (d : Dev) (t : Nat) : VoteSt := tabD d.tp.votes t .init
def Dev.modVote (d : Dev) (t : Nat) (f : VoteSt → VoteSt) : Dev := { d with tp := { d.tp with votes := tabMod d.tp.votes t .init f } }

/-- Two frame sets are equal when they agree in every bit (R354). -/
def FrameSet.same (a b : FrameSet) : Bool := a.digest == b.digest && decide (a.frames = b.frames)

/-- Frame sets of channels in service. -/
def Dev.setsOf (d : Dev) (t : Nat) : List FrameSet := (d.vote t).sets.filter fun s => d.inService s.ch

/-- The first set that equals another one. -/
def twoEqual : List FrameSet → Option FrameSet
  | [] => none
  | a :: r => if r.any a.same then some a else twoEqual r

/-- The set to release by the rule of the triplex state (R354), if there is one. -/
def Dev.releasable (d : Dev) (t : Nat) : Option FrameSet :=
  let l := d.setsOf t
  if d.triplex = 1 ∨ d.triplex = 2 then twoEqual l else if d.triplex = 3 then l.head? else none

/-- Release a set (R73, R250): its frames leave on the courses of the tile, CYCLE and RANK not on one that is DISCOVERING; the
deadline is met. -/
def Dev.release (t : Nat) (s : FrameSet) (d : Dev) : Dev :=
  let d : Dev := (d.modVote t fun v => { v with released := some s }).set F.PL_STATUS_CONSEC 0 t
  let d : Dev := s.frames.foldl (fun d p => if d.get F.CM_CRS_STAT_STATE p.1 = 1 then d else d.sendBoth p.1 p.2) d
  let d : Dev := s.frames.foldl (fun d p => match p.2 with
    | .cycle f => d.modCrs p.1 fun r => { r with cycleSent := some (f.e % 0x1000000, f.tagNext % 0x10000) }
    | _ => d) d
  d.each ((s.frames.map (·.1)).eraseDups) fun c d => d.modCrs c fun r => { r with cycleAt := max 1 d.now }

/-- A minority frame set (R355): the channel is fenced. -/
def Dev.minority (ch : Nat) (d : Dev) : Dev :=
  ((d.count F.TP_VOTE_MINORITY ch).count F.TP_CH_STRIKES ch).fenceChannel ch 1

/-- No two digests equal, or the two of DUPLEX differ (R353): nothing of the tile is released, device safe state. -/
def Dev.noAgreement (t : Nat) (d : Dev) : Dev :=
  if (d.vote t).barred then d else (d.modVote t fun v => { v with barred := true }).raiseSafe 0x13

/-- What the digests present determine (R353); `final` at the cut-off. -/
def Dev.judgeDigests (t : Nat) (final : Bool) (d : Dev) : Dev :=
  let l := (d.vote t).digests.filter fun x => d.inService x.1
  let same (x : Nat × Nat) : Nat := (l.filter fun y => y.2 == x.2).length
  if (d.vote t).closed then d
  else if d.triplex = 1 then
    match l.find? fun x => decide (2 ≤ same x) with
    | some m => (l.filter fun x => x.2 ≠ m.2).foldl (fun d x => (d.fenceChannel x.1 5).raise 0x13 x.1) d
    | none => if l.length = 3 ∨ (final = true ∧ l.length = 2) then d.noAgreement t else d
  else if d.triplex = 2 then
    match l with
    | [a, b] => if a.2 ≠ b.2 then d.noAgreement t else d
    | _ => d
  else d

/-- One look at the sets of a tile (R354, R355, R369): a release that is due; then every set that differs from the released
one. -/
def Dev.voteTile (t : Nat) (d : Dev) : Dev :=
  let v := d.vote t
  let d : Dev := if v.released.isNone && !v.barred && !v.closed then
      (match d.releasable t with | some s => d.release t s | none => d) else d
  match (d.vote t).released with
  | none => d
  | some s =>
    let odd := ((d.vote t).sets.filter fun x => !x.same s).map (·.ch)
    d.each odd fun ch d => if d.inService ch then d.minority ch else if d.chState ch = 5 then d.fenceChannel ch 6 else d

/-- Look at the digests (R353) and sets of every tile until fences change nothing more: three channels allow at most three fences. -/
def Dev.voteAll (d : Dev) : Dev :=
  (List.range 4).foldl (fun d _ => d.busyTiles.foldl (fun d p => (d.judgeDigests p.1 false).voteTile p.1) d) d

end Sys2Proof.Machine
end

