-- ==== Sys2Proof/Machine/SafetyOps.lean ====
section
/-! DEFINITION. The brake and the safe block: what a demand and a trigger do (R401 to R414). Times of the safety block are
realised at 98.5 % of their set value (R397). -/

namespace Sys2Proof.Machine

/-- A time of n µs on the safety oscillator, in ticks: 98.5 % of 500 ticks a µs. -/
def safeUs (n : Nat) : Nat := n * 4925 / 10

/-- Brake state: 0 NOT_READY, 1 HELD, 2 APPLIED. -/
def Dev.brake (d : Dev) : Nat := d.get F.SB_STATUS_BRAKE

/-- Drive the hold outputs (R401, R406): high in HELD, but low on the output under test in its pulse. -/
def Dev.driveHold (d : Dev) : Dev :=
  let pulse (x : Nat) : Bool := match d.sb.test with | some t => t.output == x && t.phase == 0 | none => false
  let held := d.brake == 1
  (d.flag F.SB_STATUS_HOLD_1 (held && !pulse 1)).flag F.SB_STATUS_HOLD_2 (held && !pulse 2)

/-- The brake takes the state its demands give (R402): a change sets event 10 (R439); an entry to APPLIED other than by
RESTART raises 0x155 (R417). A demand during a test ends the test without a verdict (R407). -/
def Dev.refreshBrake (d : Dev) : Dev :=
  if d.brake = 0 then d
  else
    let force := d.get F.SB_DEMAND_IN_FORCE
    let st := if force = 0 then 1 else 2
    let old := d.brake
    let d : Dev := d.set F.SB_STATUS_BRAKE st
    let d : Dev := if st = 2 then
        ({ d with sb := { d.sb with test := none, cmdTests := [] } }.flag F.SB_STATUS_TESTING false).flag F.SB_CMD_BUSY false else d
    let d : Dev := if st = 2 ∧ old ≠ 2 then (if force = 0x200 then d else d.raise 0x155 force) else d
    let d : Dev := if st = 1 ∧ old ≠ 1 then { d with sb := { d.sb with due := [d.now, d.now + safeUs 500000] } } else d
    let d : Dev := d.driveHold
    if st ≠ old then d.eventAll 10 else d

/-- Demands of a mask are raised in this step (R403). -/
def Dev.raised (m : Nat) (d : Dev) : Dev :=
  { d with sb := { d.sb with stepAt := d.now, stepMask := if d.sb.stepAt = d.now then d.sb.stepMask ||| m else m } }

/-- The demands raised in the present step (R403). -/
def Dev.raisedNow (d : Dev) : Nat := if d.sb.stepAt = d.now then d.sb.stepMask else 0

/-- Put a demand in force (R402). -/
def Dev.demand (b : Nat) (d : Dev) : Dev := ((d.raised (2 ^ b)).setBit F.SB_DEMAND_IN_FORCE b true).refreshBrake

/-- The condition of a demand begins (with the demand) or ends. -/
def Dev.demandCond (b : Nat) (holds : Bool) (d : Dev) : Dev :=
  let d : Dev := d.setBit F.SB_DEMAND_COND b holds
  if holds then d.demand b else d

/-- Send a safety frame of a course from both working ends; SENT counts the frames (R412). -/
def Dev.sendSafety (c : Nat) (f : Frame) (d : Dev) : Dev :=
  d.each [0, 1] (fun e d => if (d.lane c e).working then (d.send c e f).count F.SB_COURSE_SENT c else d)

/-- Safe block is triggered on a course (R411): cause bit 0 TRIP, 1 HOST, 2 SAFE_STATE, 3 DIRECT, 4 INTERNAL, 5 BRICK. One on
a course already ACTIVE changes nothing. Until the block has been ready there is none; those that hold are taken then (R47, `Dev.retrigger`). -/
def Dev.trigger (cause c : Nat) (d : Dev) : Dev :=
  if !d.bound c || !d.sb.everReady then d
  else
    let d : Dev := { d with sb := { d.sb with courses := tabMod d.sb.courses c .init fun s => { s with trigAt := some d.now } } }
    if d.get F.SB_COURSE_STATE c = 1 then d else
    let q := (d.get F.SB_COURSE_SEQ c + 1) % 0x10000
    let q := if q = 0 then 1 else q
    let d : Dev := (d.set F.SB_COURSE_STATE 1 c).set F.SB_COURSE_CAUSE (2 ^ cause) c
    let d : Dev := d.setKept F.SB_COURSE_SEQ q c
    let d : Dev := { d with sb := { d.sb with courses := tabMod d.sb.courses c .init fun s => { s with nextAt := d.now + safeUs d.sb.params.sbRepeat, left := 0, extra := [], ask := false } } }
    ((d.sendSafety c (.safeBlock q c)).raise 0x15A c).eventAll 10

/-- Trigger on every bound course. -/
def Dev.triggerAll (cause : Nat) (d : Dev) : Dev := d.each d.boundCourses (Dev.trigger cause)

/-- A course becomes UNRELEASED (R413): the source carries the brick number. -/
def Dev.unrelease (c brick : Nat) (d : Dev) : Dev := ((d.set F.SB_COURSE_STATE 3 c).raise 0x15A brick).eventAll 10

/-- Whether a course is under safe block (R411). -/
def Dev.underSafeBlock (d : Dev) (c : Nat) : Bool := decide (d.get F.SB_COURSE_STATE c ≠ 0)

/-- The condition of the safety internal source (R397, R402, R411). -/
def Dev.safetyInternal (holds : Bool) (d : Dev) : Dev :=
  let was := d.sb.internal
  let d : Dev := { d with sb := { d.sb with internal := holds } }
  let d : Dev := d.cond 0x153 holds
  let d : Dev := if d.ready F.GL_READY_SAFETY then d.demandCond 7 holds else d
  if holds && !was then d.triggerAll 4 else d

/-- The device safe state reaches the safety block (R383, R402, R411). -/
def Dev.safetySafeState (d : Dev) : Dev :=
  let d : Dev := if d.sb.params.ssBrake && d.ready F.GL_READY_SAFETY then d.demandCond 5 true else d
  if d.sb.params.ssSafeBlock then d.triggerAll 2 else d

/-- The direct safe state reaches the safety block (R392, R402, R411), with every action of the device safe state, which it sets too. -/
def Dev.safetyDirect (d : Dev) : Dev :=
  let d : Dev := d.safetySafeState
  let d : Dev := { d with sb := { d.sb with direct := true } }
  let d : Dev := if d.sb.params.ssBrake && d.ready F.GL_READY_SAFETY then d.demandCond 6 true else d
  d.triggerAll 3

end Sys2Proof.Machine
end

