-- ==== Sys2Proof/Machine/FaultOps.lean ====
section
/-! DEFINITION. The fault collector at work (R377 to R388): latching the sources raised in a tick, their records, their
reactions in descending order, ERR_N; and the frame in which every command of the device runs. -/

namespace Sys2Proof.Machine

/-- Reaction, groups and ERR of a source by the table in force (R377). -/
def Dev.reaction (d : Dev) (n : Nat) : Nat := d.get F.FC_REACT_REACTION n
def Dev.reactGroups (d : Dev) (n : Nat) : Nat := d.get F.FC_REACT_GROUPS n

/-- Whether a source is latched. -/
def Dev.latched (d : Dev) (n : Nat) : Bool := d.on F.FC_LATCH_LATCH n

/-- Snapshot words for a source (R390): up to 47 register words its range lists. -/
def Dev.snapshot (d : Dev) (n : Nat) : List Nat :=
  match d.fc.snaps.find? (fun s => decide (s.1 ≤ n) && decide (n ≤ s.2.1)) with
  | some s => (s.2.2.take 47).map (d.word 0)
  | none => []

/-- A record of this tick (R390); SEQ is given at its commit. -/
def Dev.mkRec (d : Dev) (typ n detail reaction flags : Nat) (snap : List Nat) : LogRec :=
  { seq := 0, source := n, typ := typ, flags := flags, sec := d.sec, ns := d.ns, ct := d.ct, reaction := reaction, triplex := d.triplex,
    modes := sumN ((List.range 4).map fun g => d.gpMode g * 256 ^ g), detail := detail, count := d.get F.FC_COUNT_COUNT n,
    imageId := d.mo.imageId, snapshot := snap, ok := true }

/-- Queue a record (R381). -/
def Dev.queueRec (r : LogRec) (d : Dev) : Dev :=
  let d : Dev := { d with fc := { d.fc with queue := d.fc.queue ++ [r] } }
  d.set F.FC_LOG_STAT_QUEUE d.fc.queue.length

/-- The records of this tick marked FIRST where they are of source n (R390). -/
def Dev.markFirst (n : Nat) (d : Dev) : Dev :=
  { d with fc := { d.fc with queue := d.fc.queue.map fun r =>
      if (r.typ == 1 || r.typ == 3) && r.sec == d.sec && r.ns == d.ns then { r with flags := putBit r.flags 1 (r.source == n) } else r } }

/-- The first-fault record for sources newly raised in this tick (R389): the lowest-numbered source of the tick of the first raise; the others
of that tick are counted. A record of an earlier tick stays. -/
def Dev.firstFault (ns : List Nat) (d : Dev) : Dev :=
  let f := d.store.first
  if ns.isEmpty || (f.valid && d.fc.firstAt != some d.now) then d
  else
    let low := ns.foldl min 511
    let n := if f.valid then min f.source low else low
    let same := clampN 255 (if f.valid then f.sameTick + ns.length else ns.length - 1)
    let seq := if f.valid && f.source == n then f.seq else 0
    let d : Dev := { d with store := { d.store with first := ⟨true, same, n, seq⟩ }, fc := { d.fc with firstAt := some d.now } }
    let d : Dev := ((d.flag F.FC_FIRST_VALID true).set F.FC_FIRST_SAME_TICK same).set F.FC_FIRST_SOURCE n
    (d.set F.FC_FIRST_SEQ_SEQ seq).markFirst n

/-- Code of the reaction a raise takes (R377, R379, R394): 15 waits for FAULTS to be ready. -/
def Dev.reactionOf (d : Dev) (u : Due) : Nat :=
  if u.safe then 5
  else match u.inj with
    | some false => 1
    | _ => if d.ready F.GL_READY_FAULTS then d.reaction u.n else (fixedReaction u.n).getD 15

/-- Whether a raise is taken in full (R380, R394): its latch is not set, or only injected raises have set it and this one is real. -/
def Dev.isFresh (d : Dev) (u : Due) : Bool := !d.latched u.n || (u.inj.isNone && d.fc.injected.contains u.n)

/-- Whether a real raise of the same source was recorded in this tick (R394). -/
def Dev.recordedNow (d : Dev) (n : Nat) : Bool := d.fc.queue.any fun r => r.source == n && r.typ == 1 && r.sec == d.sec && r.ns == d.ns && !testBit r.flags 0

/-- The record of a raise (R390). -/
def Dev.raiseRec (d : Dev) (u : Due) (code : Nat) : LogRec :=
  d.mkRec 1 u.n u.detail (if code = 15 then d.reaction u.n else code) (bit u.inj.isSome + 4 * bit u.safe) (d.snapshot u.n)

/-- Latch one raise (R380, R394): the count always; latch and record when it is fresh; the record alone of an injected raise that falls in one
tick with a real one; the override of 0x013 whatever was latched (R379). -/
def Dev.latchOne (u : Due) (d : Dev) : Dev :=
  let d : Dev := d.count F.FC_COUNT_COUNT u.n
  let code := d.reactionOf u
  if d.isFresh u then
    let d : Dev := d.flag F.FC_LATCH_LATCH true u.n
    let d : Dev := { d with fc := { d.fc with
      taken := tabSet d.fc.taken u.n (code + 16 * d.reactGroups u.n)
      injected := if u.inj.isSome then u.n :: d.fc.injected else d.fc.injected.filter (· ≠ u.n) } }
    d.queueRec (d.raiseRec u code)
  else
    let d : Dev := if u.inj.isSome && d.recordedNow u.n then d.queueRec (d.raiseRec u code) else d
    if u.safe then { d with fc := { d.fc with taken := tabSet d.fc.taken u.n (5 + 16 * (tabD d.fc.taken u.n 0 / 16)) } } else d

/-- The device safe state (R383, R103): ERR_N, BLOCK frames, forced BLOCKED of every group, the safety block informed. -/
def Dev.safeState (d : Dev) : Dev :=
  let d : Dev := d.flag F.FC_STATUS_SAFE_STATE true
  let d : Dev := d.blockAll
  let d : Dev := d.each (List.range 4) (Dev.force 0x0B)
  d.safetySafeState

/-- Fence the unit of a source (R387): a channel, the two ends of a course or the lanes of an LPLL (through EIDLE, R234), a PTP port, a stream
or a GOOSE subscription; while the latch stands the units consult it themselves. -/
def Dev.fenceUnit (n : Nat) (d : Dev) : Dev :=
  if 0x30 ≤ n ∧ n ≤ 0x35 then (d.fenceChannel ((n - 0x30) % 3) 7).voteAll
  else if 0xC0 ≤ n ∧ n < 0x140 ∧ n % 2 = 0 then
    let c := (n - 0xC0) / 2
    (d.modCrs c fun r => { r with quiet := true }).idleCourses [c]
  else if 0x140 ≤ n ∧ n < 0x148 then d.idleCourses (coursesOf (n - 0x140))
  else if 0x14F ≤ n ∧ n ≤ 0x152 then (d.set F.TB_PTP_PORT_W0_STATE 0 (n - 0x14F))
  else if 0x160 ≤ n ∧ n < 0x180 then d.modSv (n - 0x160) fun v => { v with samples := [] }
  else if 0x180 ≤ n ∧ n < 0x1C0 then
    let d : Dev := d.modGoose (n - 0x180) fun g => { g with stNum := none }
    match tabGet d.si.streams.gos (n - 0x180) with
    | some c => c.members.foldl (fun d m => d.giDefault m) d
    | none => d
  else d

/-- Take the reaction of one raise: its code and groups as taken (R378). -/
def Dev.react (code groups n : Nat) (d : Dev) : Dev :=
  let d : Dev := if code = 5 then d.safeState
    else if code = 4 then d.each ((List.range 4).filter (testBit groups)) (Dev.force 0x0A)
    else if code = 2 then d.fenceUnit n
    else d
  d

/-- Reaction of a raise whose latch was set before: a group reaction is renewed, the override of 0x013 taken (R379, R380). -/
def Dev.renew (u : Due) (d : Dev) : Dev :=
  let t := tabD d.fc.taken u.n 0
  if u.safe then d.react 5 0 u.n
  else if t % 16 = 4 then d.react 4 (t / 16) u.n else d

/-- Raises in rising order of their source. -/
def dueSorted (l : List Due) : List Due := sortBy (fun a b => decide (a.n < b.n)) l

/-- One round: latch all sources raised, then take their reactions in descending order of code (R381). -/
def Dev.settleRound (d : Dev) : Dev :=
  let batch := dueSorted d.fc.due
  let d : Dev := { d with fc := { d.fc with due := [] } }
  let olds := batch.filter fun u => !d.isFresh u
  let fresh := (batch.filter d.isFresh).map (·.n)
  let unlatched := (fresh.eraseDups).filter fun n => !d.latched n
  let d : Dev := batch.foldl (fun d u => d.latchOne u) d
  let d : Dev := d.firstFault unlatched
  let order := sortBy (fun (a b : Nat × Nat) => decide (b.1 < a.1)) (fresh.eraseDups.map fun n => (tabD d.fc.taken n 0 % 16, n))
  let d : Dev := order.foldl (fun d p => if p.1 = 15 then d else d.react p.1 (tabD d.fc.taken p.2 0 / 16) p.2) d
  let d : Dev := olds.foldl (fun d u => d.renew u) d
  if order.any (fun p => decide (1 ≤ p.1) && decide (p.1 < 15)) then d.interrupt else d

/-- Rounds until nothing is raised: a reaction may raise further sources (a fence, a safe block). -/
def Dev.settleN : Nat → Dev → Dev
  | 0, d => d
  | n + 1, d => if d.fc.due.isEmpty then d else (d.settleRound).settleN n

/-- ERR_N (R388): low as soon as a case holds; its release is a command of its own. -/
def Dev.errCase (d : Dev) : Bool :=
  d.fc.taken.any (fun p => d.on F.FC_REACT_ERR p.1) || d.on F.FC_STATUS_SAFE_STATE || d.on F.FC_STATUS_DIRECT || !d.ready F.GL_READY_FAULTS
def Dev.errUpdate (d : Dev) : Dev :=
  if d.errCase && !d.fc.errLow then
    ({ d with fc := { d.fc with errLow := true }, pins := { d.pins with errSince := d.now } } : Dev).flag F.FC_STATUS_ERR_PIN true
  else d

/-- The frame of every command: time passes, the effect, the faults of the tick, ERR_N. -/
def Dev.cmd (dt : Nat) (f : Dev → Dev) (d : Dev) : Dev := d.run dt fun d => ((f d).settleN 12).errUpdate

/-- Whether a latched source with a BLOCK or SAFE_STATE reaction fails the FAULT precondition of a group (R98, R384). -/
def Dev.faultClear (d : Dev) (g : Nat) : Bool :=
  !d.fc.taken.any fun p => p.2 % 16 == 5 || (p.2 % 16 == 4 && testBit (p.2 / 16) g)

/-- Whether a latched source with DEGRADE names a group (R103). -/
def Dev.degradeOf (d : Dev) (g : Nat) : Bool := d.fc.taken.any fun p => p.2 % 16 == 3 && testBit (p.2 / 16) g

/-- What a read of the store finds (R39): single-bit errors are corrected, written back and counted; a copy of a device record with
an uncorrectable word is rebuilt from the other one; with both copies lost, STORE is not ready and STORE_ERR is set. -/
def Dev.readStore (l : List StoreErr) (d : Dev) : Dev :=
  let d : Dev := d.addTo F.MO_STATUS_SINGLE_ERRS (l.filter fun e => !e.uncorr).length
  let d : Dev := { d with store := (((l.filter (·.uncorr)).map (·.place)).foldl Store.spoil d.store).rebuilt }
  if d.store.lost then ((d.flag F.GL_READY_STORE false).flag F.MO_STATUS_STORE_ERR true).cond 0x004 true else d

end Sys2Proof.Machine
end

