-- ==== Sys2Proof/Machine/State.lean ====
section
/-! DEFINITION. The state of the block: the device and the queue of waiting commands; and why a step can stop. -/

namespace Sys2Proof.Machine

/-- The block: the device (Machine/Dev.lean) and the commands that wait, first in, first out. -/
structure State where
  dev : Dev
  pending : List Instr
  deriving DecidableEq, Repr

/-- The block right after its first reset, with nothing commanded (log entry 7). -/
def State.reset : State := { dev := Dev.reset, pending := [] }

/-- Why a step faults. -/
inductive Fault where
  /-- Raised by RESET_N_RISE after a low of RESET_N of 1 µs to 10 µs, whose effect R50 leaves undefined. Safe: the model stops
  where the device does something the spec does not say. -/
  | resetPulseUndefined
  deriving DecidableEq, Repr

/-- Why a step is refused. -/
inductive Refusal where
  /-- Raised by no arm: every command has its meaning. Safe. -/
  | notModelled (mnemonic : String)
  deriving DecidableEq, Repr

end Sys2Proof.Machine
end

