-- ==== Sys2Proof/Machine/Cmd.lean ====
section
/-! DEFINITION. How a meaning acts on State: the frame of a command and of a change at the power and reset pins. -/

namespace Sys2Proof.Machine

/-- A command: dt ticks pass, the effect takes place if the device works, the reactions of the tick follow. -/
def State.cmd (s : State) (dt : Nat) (f : Dev → Dev) : State := { s with dev := Dev.cmd dt f s.dev }

/-- A change at the power or reset pins: dt ticks pass and it takes place, whether the device works or not. -/
def State.pin (s : State) (dt : Nat) (f : Dev → Dev) : State := { s with dev := f (Dev.elapse dt { s.dev with out := [] }) }

end Sys2Proof.Machine
end

