-- ==== Sys2Proof/Machine/HostOps.lean ====
section
/-! DEFINITION. Translation of context addresses (R435 to R438) and the pieces of a context that several commands touch. -/

namespace Sys2Proof.Machine

/-- What a translation answers: the bus address and attributes, a walk that must be awaited, or a fault (R438). -/
inductive Trans where
  | ok (bus attr : Nat)
  | walk
  | fault (cause : Nat)
  deriving DecidableEq, Repr

/-- MODE of R435 in force. The spec gives code 3 no meaning: which of the three it acts as is a free value. -/
def Dev.mmuMode (d : Dev) (x : Nat) : Nat :=
  let m := d.get F.HC_MMU_CTL_MODE x
  if m = 3 then Config.freeValue (0x100000000 + x) % 3 else m

/-- Root of the level-1 table: bits 11:0 taken as 0 (R436). -/
def Dev.mmuRoot (d : Dev) (x : Nat) : Nat :=
  d.get F.HC_MMU_ROOT_LO_ROOT_LO x / 0x1000 * 0x1000 + 0x100000000 * d.get F.HC_MMU_ROOT_HI_ROOT_HI x

/-- Translate a context address for a read, a write, or a flush read, which needs no permission (R435, R436, R457). -/
def Dev.translate (d : Dev) (x addr : Nat) (write flush : Bool) : Trans :=
  if d.mmuMode x = 0 then .fault 1
  else if d.mmuMode x = 2 then .ok addr 0
  else match d.host.cache.find? fun e => e.ctx == x && e.page == addr / 0x10000 with
    | none => .walk
    | some e =>
      if flush || (if write then e.wr else e.rd) then .ok (e.bus + addr % 0x10000) (if flush then 0 else e.attr) else .fault 4

/-- A translation faults (R438). -/
def Dev.memFault (x cause addr : Nat) (write : Bool) (d : Dev) : Dev :=
  let d : Dev := d.count F.HC_MMU_FAULT_COUNT x
  let d : Dev := if d.on F.HC_MMU_FAULT_PENDING x then d else
    let d : Dev := ((d.flag F.HC_MMU_FAULT_PENDING true x).flag F.HC_MMU_FAULT_WRITE write x).set F.HC_MMU_FAULT_CAUSE cause x
    (d.set F.HC_MMU_FADDR_LO_FADDR_LO (addr % 0x100000000) x).set F.HC_MMU_FADDR_HI_FADDR_HI (addr / 0x100000000) x
  (d.raise 0x15D x).event x 11

/-- How long the device waits for a read it issued, in ticks, under a Completion Timeout Value (R423). Of the other encodings, whose
ranges the device does not support (R419), the spec states no time: free. -/
def completionTimeout (code : Nat) : Nat :=
  match code with
  | 0 => 25000000
  | 1 => 50000
  | 2 => 5000000
  | 5 => 27500000
  | 6 => 105000000
  | 9 => 450000000
  | 10 => 1750000000
  | c => Config.freeValue (0x100000010 + c)

/-- Whether a read of context x that was issued at a tick has timed out (R423). -/
def Dev.timedOut (d : Dev) (x since : Nat) : Bool := decide (since + completionTimeout (d.ctx x).cfg.timeout ≤ d.now)

/-- Walks under way on a port. -/
def Dev.portWalks (d : Dev) (port : Nat) : Nat := (d.host.walks.filter fun w => w.ctx / 4 == port).length

/-- Channel n begins a translation by a walk (R436): it joins the page's walk, unless that began before a write of the root or MODE (R435),
or the level-1 entry is read. A port has at most 32 walks under way (R419; DESIGN CHOICE, log entry 150); beyond them the channel waits. -/
def Dev.startWalk (n x addr : Nat) (write : Bool) (d : Dev) : Dev :=
  let same (w : PageWalk) : Bool := w.ctx == x && w.addr / 0x10000 == addr / 0x10000 && !w.old
  if d.host.walks.any same then
    { d with host := { d.host with walks := d.host.walks.map fun w => if same w then { w with waiters := n :: w.waiters.filter (· ≠ n) } else w } }
  else if 32 ≤ d.portWalks (x / 4) then d
  else
    let d : Dev := { d with host := { d.host with walks := d.host.walks ++ [⟨x, addr, write, 1, d.now, [n], false⟩] } }
    d.emit (.hostRead x (d.mmuRoot x + 8 * (addr / 0x100000000 % 0x10000)) 0 8)

/-- Cache a translation; a full cache loses its oldest entry (R437; log entry 8). -/
def Dev.cacheAdd (e : TransEntry) (d : Dev) : Dev :=
  let l := d.host.cache
  { d with host := { d.host with cache := (if 4096 ≤ l.length then l.drop 1 else l) ++ [e] } }

/-- Invalidate a context's cache entries at once (R429, R435). -/
def Dev.dropCache (x : Nat) (d : Dev) : Dev := { d with host := { d.host with cache := d.host.cache.filter (·.ctx ≠ x) } }

/-- The root or MODE of a context was written: its cache entries go, and translations that start from now on join no walk that began before
(R435). -/
def Dev.rerooted (x : Nat) (d : Dev) : Dev :=
  let d : Dev := d.dropCache x
  { d with host := { d.host with walks := d.host.walks.map fun w => if w.ctx = x then { w with old := true } else w } }

/-- Abandon a context's walks without a fault (R429). -/
def Dev.dropWalks (x : Nat) (d : Dev) : Dev := { d with host := { d.host with walks := d.host.walks.filter (·.ctx ≠ x) } }

/-- Events of a transfer channel (R455): a bit of DM_CH_IRQ is set, and the channel's vector is messaged if that brings its
event into force. -/
def Dev.dmaInForce (d : Dev) (n : Nat) : Bool :=
  (d.on F.DM_CH_IRQ_HALF n && d.on F.DM_CH_IRQ_EN_HALF n) || (d.on F.DM_CH_IRQ_FULL n && d.on F.DM_CH_IRQ_EN_FULL n) ||
  (d.on F.DM_CH_IRQ_DONE n && d.on F.DM_CH_IRQ_EN_DONE n) || (d.on F.DM_CH_IRQ_STOP n && d.on F.DM_CH_IRQ_EN_STOP n) ||
  (d.on F.DM_CH_IRQ_OVERRUN n && d.on F.DM_CH_IRQ_EN_OVERRUN n)
def Dev.dmaOwner (d : Dev) (n : Nat) : Nat := d.get F.DM_CH_STAT_OWNER n
def Dev.dmaState (d : Dev) (n : Nat) : Nat := d.get F.DM_CH_STAT_STATE n
def Dev.dmaIrq (f : Fld) (n : Nat) (d : Dev) : Dev :=
  let was := d.dmaInForce n
  let d : Dev := d.flag f true n
  if !was && d.dmaInForce n then d.sendMsi (d.dmaOwner n) (16 + n) else d

/-- Bits of DM_CH_IRQ have been cleared by a write (R440, R455): with its event no longer in force the outstanding message of the channel ends;
with a bit kept by R6 (`kept`) that holds it in force a new one is sent. -/
def Dev.dmaIrqEnd (n : Nat) (kept : Bool) (d : Dev) : Dev :=
  let x := d.dmaOwner n
  if d.dmaInForce n && !kept then d
  else
    let d : Dev := d.modCtx x fun c => { c with held := c.held.filter (· ≠ 16 + n) }
    if d.dmaInForce n then d.sendMsi x (16 + n) else d

/-- The channel takes a state; DM_FREE follows. -/
def Dev.dmaSet (st : Nat) (n : Nat) (d : Dev) : Dev := (d.set F.DM_CH_STAT_STATE st n).setBit F.DM_FREE_FREE n (st == 0)

/-- A descriptor (R445, R446) as its eight words. -/
abbrev Desc := List Nat

def Desc.at' (w : Desc) (i : Nat) : Nat := nth w i 0
def Desc.src (w : Desc) : Nat := w.at' 0 + 0x100000000 * w.at' 1
def Desc.dst (w : Desc) : Nat := w.at' 2 + 0x100000000 * w.at' 3
def Desc.length' (w : Desc) : Nat := w.at' 4
def Desc.ctrl (w : Desc) : Nat := w.at' 5
def Desc.next (w : Desc) : Nat := w.at' 6 + 0x100000000 * w.at' 7
def Desc.srcKind (w : Desc) : Nat := w.ctrl / 0x40000000
def Desc.toStore (w : Desc) : Bool := testBit w.ctrl 29
def Desc.swap (w : Desc) : Nat := w.ctrl / 0x8000000 % 4
def Desc.barrier (w : Desc) : Bool := testBit w.ctrl 26
def Desc.repeat' (w : Desc) : Bool := testBit w.ctrl 25
def Desc.chain (w : Desc) : Bool := testBit w.ctrl 24
def Desc.irqHalf (w : Desc) : Bool := testBit w.ctrl 23
def Desc.irqFull (w : Desc) : Bool := testBit w.ctrl 22
def Desc.holdAck (w : Desc) : Bool := testBit w.ctrl 21
def Desc.pace (w : Desc) : Nat := w.ctrl / 0x20000 % 16

/-- First byte of the second half of a pass, on an element boundary (R455). -/
def Desc.half (w : Desc) : Nat := (w.length' / 2 + 3) / 4 * 4

/-- The active and the shadow descriptor of a channel. -/
def Dev.active (d : Dev) (n : Nat) : Desc := (List.range 8).map fun j => d.get F.DM_CH_ACT_ACTIVE n j
def Dev.shadow (d : Dev) (n : Nat) : Desc := (List.range 8).map fun j => d.get F.DM_CH_SH_SHADOW n j

/-- Configuration of the converter a PACE code names. -/
def Dev.ringOf (d : Dev) (pace : Nat) : Option LmCfg := if pace = 0 then none else d.si.streams.lms[pace - 1]?

/-- Elements of a capture ring: outputs it holds, and the address of output k. -/
def ringCap (c : LmCfg) : Nat := c.ringSize / 4
def ringAddr (c : LmCfg) (k : Nat) : Nat := c.ringBase + 4 * (k % max 1 (ringCap c))

/-- The transform of one element (R448). -/
def swapWord (s : Nat) (l : List (BitVec 8)) : List (BitVec 8) :=
  match s, l with
  | 1, [a, b, c, e] => [b, a, e, c]
  | 2, [a, b, c, e] => [e, c, b, a]
  | 3, [a, b, c, e] => [c, e, a, b]
  | _, _ => l

/-- The transform of whole elements, at most n of them. -/
def swapBytes (s : Nat) : Nat → List (BitVec 8) → List (BitVec 8)
  | 0, l => l
  | n + 1, l => if l.isEmpty then [] else swapWord s (l.take 4) ++ swapBytes s n (l.drop 4)

/-- Where the segment being moved ends (R458, R459): the next 64-byte boundary, the end of the pass, the point of a stop. -/
def Dev.segEnd (d : Dev) (n : Nat) : Nat :=
  let c := d.dmaCh n
  let e := min (d.active n).length' ((c.pos / 64 + 1) * 64)
  if d.dmaState n = 6 then min e (max c.pos c.stopAt) else e

/-- Bytes of the next piece of a segment: the half of the pass (R455) and a page of the destination (R459) divide it. -/
def Dev.segLen (d : Dev) (n : Nat) : Nat :=
  let w := d.active n
  let p := (d.dmaCh n).pos
  let upto := d.segEnd n - p
  let upto := if p < w.half then min upto (w.half - p) else upto
  if w.toStore then upto else min upto (0x10000 - (w.dst + p) % 0x10000)

/-- The elements a paced source has delivered that the channel has not moved, at most k of them (R452). -/
def Dev.ringData (d : Dev) (n : Nat) (r : LmCfg) (k : Nat) : List (BitVec 8) :=
  (List.range k).flatMap fun j => d.work.readBytes (ringAddr r ((d.dmaCh n).next + j)) 4

/-- The source data of the next piece, once all of its segment is there. A paced element counts once it is written, a log record once
it is committed (R452, R453). The rest of a record of which a part has been moved when it goes has no stated value: free. -/
def Dev.segData (d : Dev) (n : Nat) : Option (List (BitVec 8)) :=
  let w := d.active n
  let c := d.dmaCh n
  let len := d.segLen n
  let seg := d.segEnd n - c.pos
  if c.snap ∨ w.srcKind = 0 ∨ w.srcKind = 2 then (if seg ≤ c.held.length then some (c.held.take len) else none)
  else if w.srcKind = 3 then
    match d.store.log.find? fun p => p.2.seq == c.next with
    | some p => some ((p.2.bytes.drop (c.pos % 256)).take len)
    | none =>
      if c.pos % 256 = 0 then none
      else some ((List.range len).map fun i => BitVec.ofNat 8 (Config.freeValue (0x200000000 + 256 * c.next + c.pos % 256 + i)))
  else if w.pace = 0 then some (d.work.readBytes (w.src + c.pos) len)
  else match d.ringOf w.pace with
    | some r => if seg / 4 ≤ (d.lm (w.pace - 1)).ringN - c.next then some (d.ringData n r (len / 4)) else none
    | none => none

/-- A channel stops awaiting point reads (R459): those of its requests that have not been sent are withdrawn. -/
def Dev.dropChanReads (n : Nat) (d : Dev) : Dev :=
  let nums := (d.cm.reads.filter fun r => r.dma == some n).map (·.num)
  { d with cm := { d.cm with
      reads := d.cm.reads.filter fun r => r.dma ≠ some n
      reqs := d.cm.reqs.filter fun q => !(q.cls == 2 && !q.write && q.sent.isNone && nums.contains q.rd) } }

/-- Whether HOLD_ACK keeps the channel waiting (R456). -/
def Dev.heldBack (d : Dev) (n : Nat) : Bool :=
  let w := d.active n
  w.holdAck && (if (d.dmaCh n).pos < w.half then d.on F.DM_CH_IRQ_HALF n else d.on F.DM_CH_IRQ_FULL n)

/-- The half point (R455, R456). -/
def Dev.atHalf (n : Nat) (d : Dev) : Dev :=
  let w := d.active n
  let d : Dev := (d.set F.DM_CH_DONE_DONE (d.dmaCh n).pos n).modDma n fun c => { c with halfDone := true }
  let d : Dev := if w.irqHalf then d.dmaIrq F.DM_CH_IRQ_HALF n else d
  if !w.holdAck && d.on F.DM_CH_IRQ_FULL n then d.dmaIrq F.DM_CH_IRQ_OVERRUN n else d

/-- A piece of a segment goes to the destination, transformed (R448). -/
def Dev.dmaPut (n : Nat) (l : List (BitVec 8)) (bus attr : Nat) (d : Dev) : Dev :=
  let w := d.active n
  let p := (d.dmaCh n).pos
  let l := swapBytes w.swap 16 l
  let d : Dev := if w.toStore then d.pokeBytes (w.dst + p) l else d.emit (.hostWrite (d.dmaOwner n) bus attr l)
  let len := l.length
  d.modDma n fun c => { c with
    pos := p + len, burst := c.burst + len, held := c.held.drop len, lastBus := bus + len - 4
    next := if c.snap then c.next else if w.srcKind = 3 then (if (p + len) % 256 = 0 then c.next + 1 else c.next)
      else if w.pace ≠ 0 then c.next + len / 4 else c.next }

/-- Whether the half point, or the end of the pass, has been reached, and whether a flush is due there (R455, R457). -/
def Dev.halfDue (d : Dev) (n : Nat) : Bool :=
  let c := d.dmaCh n
  c.pos == (d.active n).half && decide (c.pos < (d.active n).length') && !c.halfDone
def Dev.flushDue (d : Dev) (n : Nat) : Bool :=
  let w := d.active n
  w.barrier && !w.toStore && ((d.halfDue n && w.irqHalf) || (d.dmaCh n).pos == w.length')

/-- A channel that is to stop off a boundary writes the rest of its segment where all of it is there and can go (R429, R459): `k` pieces at
most. -/
def Dev.finishSeg (n : Nat) : Nat → Dev → Dev
  | 0, d => d
  | k + 1, d =>
    let w := d.active n
    let c := d.dmaCh n
    let x := d.dmaOwner n
    if c.pos % 64 = 0 ∨ c.pos = w.length' ∨ c.flush ∨ c.fetch ∨ d.heldBack n then d
    else
      let after (d : Dev) : Dev :=
        Dev.finishSeg n k (if d.flushDue n then d.modDma n fun c => { c with flush := true, walking := some (w.dst + c.pos - 4, false) } else if d.halfDue n then d.atHalf n else d)
      match d.segData n with
      | none => d
      | some l =>
        if w.toStore then after (d.dmaPut n l 0 0)
        else if !(d.ctx x).bme || !d.on F.HC_PORT_LINK_UP (x / 4) then d
        else match d.translate x (w.dst + c.pos) true false with
          | .ok bus attr => after (d.dmaPut n l bus attr)
          | _ => d

/-- The point P of R459 for a stop that the host or a closure orders: PAUSE (cause 0xB) writes the segments held in full, as far as HOLD_ACK
lets it; every other stop ends where the channel stands. -/
def Dev.stopPoint (d : Dev) (cause n : Nat) : Nat :=
  let w := d.active n
  let c := d.dmaCh n
  let e := c.pos + c.held.length
  let e := if e = w.length' then e else max c.pos (e / 64 * 64)
  if c.flush || c.fetch || cause ≠ 0xB || !(w.srcKind == 0 || w.srcKind == 2) || d.heldBack n then c.pos
  else if w.holdAck && decide (c.pos < w.half) && d.on F.DM_CH_IRQ_FULL n then min e w.half else e

/-- The reads of a channel that no longer serve it: all but the first n bytes of those outstanding. -/
def lateReads (ctx : Nat) : Nat → List (Nat × Nat) → List Late
  | _, [] => []
  | n, r :: l => if r.1 ≤ n then lateReads ctx (n - r.1) l else ⟨0, r.1 - n, r.2, ctx⟩ :: lateReads ctx 0 l

/-- The first n bytes of the reads outstanding. -/
def keptReads : Nat → List (Nat × Nat) → List (Nat × Nat)
  | _, [] => []
  | n, r :: l => if n = 0 then [] else (min n r.1, r.2) :: keptReads (n - r.1) l

/-- A flush or fetch of a channel that is outstanding on its port. -/
def Dev.ownRead (d : Dev) (n : Nat) : List Late :=
  let c := d.dmaCh n
  if c.walking.isSome then []
  else if c.flush then [⟨1, 4, c.since, d.dmaOwner n⟩]
  else if c.fetch && !testBit ((d.active n).at' 7) 31 then [⟨2, 32, c.since, d.dmaOwner n⟩] else []

/-- Of the reads outstanding only the first n source bytes go on serving a channel; completions of the others are discarded. -/
def Dev.cutReads (n k : Nat) (d : Dev) : Dev :=
  d.modDma n fun c => { c with asked := min k c.asked, sent := keptReads k c.sent, late := c.late ++ lateReads (d.dmaOwner n) k c.sent }

/-- No read outstanding goes on serving a channel. -/
def Dev.dropRequests (n : Nat) (d : Dev) : Dev :=
  ((d.modDma n fun c => { c with late := c.late ++ d.ownRead n }).cutReads n 0).modDma n fun c => { c with walking := none }

/-- The channel begins to stop: it is STOPPING until its point P (R459); `st` and `cause` are what it will enter. What it holds
before P is still written; reads outstanding and data at or after P are discarded. A stop under way gives way only to an end as
IDLE or FREE. -/
def Dev.dmaStop (st cause n : Nat) (d : Dev) : Dev :=
  let s := d.dmaState n
  let under := match (d.dmaCh n).stopping with | some (t, _) => decide (t ≤ st) | none => false
  if s = 0 then d
  else if s == 6 && under then d
  else
    let d : Dev := d.finishSeg n 4
    let p := d.stopPoint cause n
    (((d.dropRequests n).modDma n fun c =>
      { c with stopping := some (st, cause), held := c.held.take (p - c.pos), stopAt := p }).dropChanReads n).dmaSet 6 n

/-- Transfer channels a context owns. -/
def Dev.dmaOf (d : Dev) (x : Nat) : List Nat := (List.range 32).filter fun n => d.dmaState n ≠ 0 && d.dmaOwner n == x

/-- PACE and kind of a channel's active descriptor. -/
def Dev.dmaCtrl (d : Dev) (n : Nat) : Nat := d.get F.DM_CH_ACT_ACTIVE n 5
def Dev.dmaActive (d : Dev) (n : Nat) : Bool := d.dmaState n == 2 || d.dmaState n == 3

/-- Records from a SEQ on that the log still holds, at most k of them. -/
def logFrom (l : List (Nat × LogRec)) : Nat → Nat → List LogRec
  | _, 0 => []
  | seq, k + 1 => match l.find? fun p => p.2.seq == seq with
    | some p => p.2 :: logFrom l (seq + 1) k
    | none => []

/-- What the paced or LOG source of a channel had delivered and the channel has not moved: the data, and the element or SEQ that comes next. -/
def Dev.delivered (d : Dev) (n : Nat) : List (BitVec 8) × Nat :=
  let w := d.active n
  let c := d.dmaCh n
  let left := w.length' - c.pos
  if c.flush || c.fetch then ([], c.next)
  else if w.srcKind = 3 then
    let l := logFrom d.store.log c.next ((left + 255) / 256)
    ((l.flatMap LogRec.bytes).drop (c.pos % 256), c.next + l.length)
  else match d.ringOf w.pace with
    | some r =>
      let k := min (left / 4) ((d.lm (w.pace - 1)).ringN - c.next)
      (d.ringData n r k, c.next + k)
    | none => ([], c.next)

/-- A paced or LOG source is withdrawn (R459): pace m names LM(m − 1), 0 the log. The channels that move it stop, PAUSED, at the end of what
it had delivered. -/
def Dev.withdraw (m : Nat) (d : Dev) : Dev :=
  d.each (List.range 32) fun n d =>
    let c := d.dmaCtrl n
    let hit := if m = 0 then c / 0x40000000 == 3 else c / 0x20000 % 16 == m
    if d.dmaActive n && hit then
      let x := d.delivered n
      ((d.dropRequests n).modDma n fun c => { c with
        stopping := some (4, 0xA), held := x.1, next := x.2, snap := true, stopAt := c.pos + x.1.length }).dmaSet 6 n
    else d

/-- Move a paced or LOG source past what has been overwritten, while elements of the pass are still to be read (R452, R453). -/
def Dev.dmaSkip (n : Nat) (d : Dev) : Dev :=
  let w := d.active n
  let c := d.dmaCh n
  let skip (k idx bytes : Nat) (d : Dev) : Dev :=
    let d : Dev := ((d.addTo F.DM_CH_LOST_LOST bytes n).dmaIrq F.DM_CH_IRQ_OVERRUN n).modDma n fun c => { c with next := k }
    if c.pos = 0 then d.set F.DM_CH_RING0_RING0 idx n else d
  if !d.dmaActive n || decide (w.length' ≤ c.pos) then d
  else if w.srcKind = 3 ∧ c.pos % 256 = 0 then
    let oldest := d.store.log.foldl (fun m p => min m p.2.seq) (d.store.lseq + 1)
    if c.next < oldest then skip oldest oldest (256 * (oldest - c.next)) d else d
  else match d.ringOf w.pace with
    | some r =>
      let written := (d.lm (w.pace - 1)).ringN
      if c.next + ringCap r < written then skip (written - ringCap r) ((written - ringCap r) % max 1 (ringCap r)) (4 * (written - ringCap r - c.next)) d else d
    | none => d

/-- Whether a channel can move its next segment now (R458, R430). -/
def Dev.dmaReady (d : Dev) (n : Nat) : Bool :=
  let c := d.dmaCh n
  let stopMore := d.dmaState n == 6 && decide (c.pos < c.stopAt)
  (d.dmaActive n || stopMore) && !c.flush && !c.fetch && decide (c.pos < (d.active n).length') && !d.heldBack n &&
  ((d.active n).toStore || (c.walking.isNone && (d.ctx (d.dmaOwner n)).bme && d.on F.HC_PORT_LINK_UP (d.dmaOwner n / 4))) && (d.segData n).isSome

/-- Channels of a port. -/
def Dev.portChannels (d : Dev) (port : Nat) : List Nat := (List.range 32).filter fun n => d.dmaState n ≠ 0 && d.dmaOwner n / 4 == port

/-- RUNNING or WAITING as a channel can move or not (R454, R456). -/
def Dev.dmaShow (port : Nat) (d : Dev) : Dev :=
  d.each (d.portChannels port) fun n d => if d.dmaActive n then d.dmaSet (if d.dmaReady n then 2 else 3) n else d

/-- A paced or LOG source has grown: the channels on it move past what was overwritten, and may move again (R452 to R454). -/
def Dev.sourceGrew (m : Nat) (d : Dev) : Dev :=
  let l := (List.range 32).filter fun n => if m = 0 then (d.active n).srcKind == 3 else (d.active n).pace == m
  ((d.each l Dev.dmaSkip).dmaShow 0).dmaShow 1

end Sys2Proof.Machine
end

