-- ==== Sys2Proof/Machine/Tables.lean ====
section
/-! DEFINITION. The class L tables of a group (R25, R33): those in force, what an image or a packet gives, and how the one
replaces the other. -/

namespace Sys2Proof

open Sys2Proof.Machine

/-- The tables of a group. -/
def GroupTables.ctl (t : GroupTables) : GroupControl := t.control
def GroupTables.cv (t : GroupTables) : Curves := t.curves
def GroupTables.fm (t : GroupTables) : Formats := t.formats

/-- The rank and dwell parameters of a tile: those CONTROL gives it, else the Default column of R216. -/
def GroupTables.rankOf (t : GroupTables) (n : Nat) : RankCfg := tabD t.rank n .standard

/-- Whether a word takes its value from a source (R135). -/
def GroupTables.isBound (t : GroupTables) (w : Nat) : Bool := t.fm.binds.any fun b => b.word == w

/-- Number of n bytes at an offset of a byte list, little-endian. -/
def at' (l : List (BitVec 8)) (o n : Nat) : Nat := leNat ((l.drop o).take n)

/-- Point n of a curve's bytes (R151): time in µs, threshold. -/
def curvePoint (l : List (BitVec 8)) (n : Nat) : Nat × Pu := (at' l (12 + 8 * n) 4, puOfWord (at' l (16 + 8 * n) 4))

/-- CURVE_ID of a curve's bytes, and the curve they give (R151). -/
def curveId (l : List (BitVec 8)) : Nat := at' l 0 2
def Curve.read (l : List (BitVec 8)) : Curve :=
  ⟨at' l 3 1 == 1, at' l 4 2, at' l 8 4, (List.range (at' l 2 1)).map (curvePoint l)⟩

/-- The bytes have the format of R151: CURVE_ID, NPOINTS and INTERP in range, the reserved field 0, the length that NPOINTS gives. -/
def curveFormatOk (l : List (BitVec 8)) : Bool :=
  decide (curveId l ≤ 3) && decide (at' l 2 1 ≤ 16) && decide (at' l 3 1 ≤ 1) && at' l 6 2 == 0 && l.length == 12 + 8 * at' l 2 1

/-- Curves b with those of a whose CURVE_ID b does not give. -/
def curvesOver (b a : List (List (BitVec 8))) : List (List (BitVec 8)) := (a.filter fun x => !b.any fun y => curveId y == curveId x) ++ b

/-- What tables b gives over what tables a gives. -/
def TableSet.over (b a : TableSet) : TableSet :=
  { sync := b.sync <|> a.sync, cur := b.cur <|> a.cur, loops := b.loops <|> a.loops, form := b.form <|> a.form, bal := b.bal <|> a.bal,
    arm := b.arm <|> a.arm, chop := b.chop <|> a.chop, rank := b.rank.foldl (fun l e => tabSet l e.1 e.2) a.rank,
    curves := curvesOver b.curves a.curves, ride := b.ride <|> a.ride, recov := b.recov <|> a.recov,
    isl := b.isl <|> a.isl, harv := b.harv <|> a.harv, comp := b.comp.foldl (fun l e => tabSet l e.1 e.2) a.comp, formats := b.formats <|> a.formats }

/-- The tables of one class L section only (R33). -/
def TableSet.only (s : Nat) (b : TableSet) : TableSet :=
  if s = 3 then { TableSet.empty with sync := b.sync, cur := b.cur, loops := b.loops, form := b.form, bal := b.bal, arm := b.arm, chop := b.chop, rank := b.rank }
  else if s = 4 then { TableSet.empty with curves := b.curves, ride := b.ride, recov := b.recov, isl := b.isl, harv := b.harv }
  else if s = 5 then { TableSet.empty with comp := b.comp }
  else if s = 6 then { TableSet.empty with formats := b.formats } else .empty

/-- Tables given replace those in force; a table not given stays (R33). -/
def TableSet.onto (b : TableSet) (t : GroupTables) : GroupTables :=
  { control := ⟨b.sync.getD t.control.sync, b.cur.getD t.control.cur, b.loops.getD t.control.loops, b.form.getD t.control.form,
                b.bal.getD t.control.bal, b.arm.getD t.control.arm, b.chop.getD t.control.chop⟩
    rank := b.rank.foldl (fun l e => tabSet l e.1 e.2) t.rank
    curves := ⟨b.curves.foldl (fun l e => setNth l (curveId e) (Curve.read e)) t.curves.curves, b.ride.getD t.curves.ride, b.recov.getD t.curves.recov,
               b.isl.getD t.curves.isl, b.harv.getD t.curves.harv⟩
    comp := b.comp.foldl (fun l e => tabSet l e.1 e.2) t.comp
    formats := b.formats.getD t.formats }

/-- A section goes back to what holds where an image gives none of it. -/
def GroupTables.cleared (s : Nat) (t : GroupTables) : GroupTables :=
  if s = 3 then { t with control := .standard, rank := [] }
  else if s = 4 then { t with curves := .standard }
  else if s = 5 then { t with comp := [] }
  else if s = 6 then { t with formats := .none } else t

/-- Parameters of group g. -/
def ImageBody.mode (b : ImageBody) (g : Nat) : ModeCfg := nth b.modes g .standard
def ImageBody.table (b : ImageBody) (g : Nat) : GroupTables := (nth b.tables g .empty).onto .standard

end Sys2Proof

namespace Sys2Proof.Machine

/-- The tables a packet gives a group. -/
def Packet.table (p : Packet) (g : Nat) : TableSet := if testBit p.groups g then (nth p.tables g .empty).only p.section_ else .empty

/-- A packet takes effect on the tables of a group (R33). -/
def Packet.apply (p : Packet) (g : Nat) (t : GroupTables) : GroupTables :=
  (p.table g).onto (if testBit p.groups g && testBit p.whole g then t.cleared p.section_ else t)

end Sys2Proof.Machine
end

