-- ==== Sys2Proof/Machine/PointOps.lean ====
section
/-! DEFINITION. Point transactions, measurement and brick checks as the course manager runs them (R251, R268, R269, R282
to R300). Latencies and paths are in units of 0.2 ns. -/

namespace Sys2Proof.Machine

/-- The end a request is sent from (R295): the working end with the smaller two-way path; a reissue takes the other one if
there is one. -/
def Dev.endFor (d : Dev) (c p : Nat) (avoid : Option Bool) : Option Nat :=
  let ok := [0, 1].filter fun e => (d.lane c e).working &&
    ((d.way c p e).isSome || (if e = 0 then d.on F.CM_DIR_W0_FROM_H c p else d.on F.CM_DIR_W0_FROM_F c p))
  let pick := match avoid with
    | some b => let l := ok.filter fun e => e ≠ bit b; if l.isEmpty then ok else l
    | none => ok
  match pick with
  | [0, 1] => if ((d.way c p 1).getD 0) < ((d.way c p 0).getD 0) then some 1 else some 0
  | e :: _ => some e
  | [] => none

/-- A directory point as the hub holds it; what it returns before the hub has learnt it is not stated (log entry 176). -/
def Dev.directoryPoint (d : Dev) (brick i : Nat) : Nat := (tabGet (d.dir brick).points i).getD (Config.unreadPoint brick i).toNat

/-- Whether a point of a brick does not exist: the chopper points of another KIND (R277). -/
def Dev.noPoint (d : Dev) (brick i : Nat) : Bool := decide (0x30 ≤ i) && decide (i ≤ 0x32) && d.get F.CM_DIR_W0_KIND (brick / 128) (brick % 128) != 2

/-- How a point is served from the hub, if it is (R293): a directory or mirrored value. -/
def Dev.heldPoint (d : Dev) (brick i : Nat) : Option Nat :=
  let c := brick / 128
  let p := brick % 128
  let s := d.dir brick
  if i = 2 then some (d.get F.CM_DIR_W1_UID_LO c p)
  else if i = 3 then some (d.get F.CM_DIR_W2_UID_HI c p)
  else if i = 0x10 then some s.latH
  else if i = 0x11 then some s.latF
  else if i ≤ 8 ∨ i = 0x12 ∨ i = 0x13 ∨ (0x30 ≤ i ∧ i ≤ 0x32) then some (d.directoryPoint brick i)
  else match d.mo.image with
    | none => none
    | some b => if (tabD b.points.mirrors (d.get F.CM_DIR_W0_KIND c p) []).contains i then tabGet s.mirror i else none

/-- An earlier write of the same context to the same brick has not ended (R296). -/
def waitsFor (l : List PtReq) (q : PtReq) : Bool :=
  (l.takeWhile fun r => r ≠ q).any fun r => r.cls == 2 && r.write && r.ctx == q.ctx && r.brick == q.brick

/-- Remove a request. -/
def Dev.dropReq (q : PtReq) (d : Dev) : Dev := { d with cm := { d.cm with reqs := d.cm.reqs.filter fun r => r ≠ q } }

/-- A host read served from the directory or the mirror, once the writes before it have ended. -/
def Dev.servedHere (d : Dev) : Option (PtReq × Nat) :=
  d.cm.reqs.findSome? fun q =>
    if q.cls == 2 && !q.write && q.sent.isNone && !waitsFor d.cm.reqs q then (d.heldPoint q.brick q.index).map fun v => (q, v) else none

/-- Serve every such read. -/
def Dev.serveLocal : Nat → Dev → Dev
  | 0, d => d
  | n + 1, d => match d.servedHere with
    | some (q, v) => Dev.serveLocal n ((d.dropReq q).readValue q.rd q.slot v)
    | none => d

/-- Requests of an end in flight. -/
def Dev.flying (d : Dev) (c e : Nat) : List PtReq := d.cm.reqs.filter fun q => q.brick / 128 == c && (q.sent.map (·.1)) == some (e == 1)

/-- Whether a request may be started from an end now: its end, its window, and the order of R296, in which the course manager's own
requests are those of one more context (R298). -/
def Dev.startable (d : Dev) (c e : Nat) (q : PtReq) : Bool :=
  q.brick / 128 == c && q.sent.isNone && decide (q.notBefore ≤ d.now) && d.endFor c (q.brick % 128) q.avoid == some e && d.fits c (q.brick % 128) e &&
  (if q.cls = 1 then (d.flying c e).all fun r => r.cls ≠ 1
   else if q.cls = 3 then true
   else !(d.cm.reqs.takeWhile fun r => r ≠ q).any fun r => (r.cls == 2 || r.cls == 0) && r.ctx == q.ctx && r.brick == q.brick)

/-- The event read in the lowest position (R300). -/
def lowestBrick : List PtReq → Option PtReq
  | [] => none
  | q :: r => match lowestBrick r with
    | some p => if p.brick < q.brick then some p else some q
    | none => some q

/-- The next request of an end (R296): by class; host requests round-robin across contexts, the course manager being
one; events in ascending position (R300). -/
def Dev.nextReq (d : Dev) (c e : Nat) : Option PtReq :=
  let l := d.cm.reqs.filter fun q => d.startable c e q
  let host := (List.range 9).findSome? fun k => l.find? fun q => q.cls == 2 && q.ctx == (d.cm.lastCtx + 1 + k) % 9
  match l.find? (·.cls == 0) with
  | some q => some q
  | none => match lowestBrick (l.filter (·.cls == 1)) with
    | some q => some q
    | none => match host with
      | some q => some q
      | none => l.find? (·.cls == 3)

/-- Send a request from an end (R264). -/
def Dev.sendReq (c e : Nat) (q : PtReq) (d : Dev) : Dev :=
  let q' := { q with tid := d.cm.nextTid % 256, sent := some (e == 1, d.now) }
  let d : Dev := { d with cm := { d.cm with
    nextTid := (d.cm.nextTid + 1) % 256, lastCtx := if q.cls = 2 then q.ctx else d.cm.lastCtx,
    reqs := d.cm.reqs.map fun r => if r = q then q' else r } }
  d.send c e (.pointReq q.write q'.tid q.brick q.index q.value)

/-- Start requests of an end while at most two are in flight (R295). -/
def Dev.startReqs (c e : Nat) : Nat → Dev → Dev
  | 0, d => d
  | n + 1, d =>
    if 2 ≤ (d.flying c e).length then d
    else match d.nextReq c e with
      | some q => Dev.startReqs c e n (d.sendReq c e q)
      | none => d

/-- Send one PROBE per end and window, where it fits as every request does (R250, R251, R290). -/
def Dev.startProbe (c e : Nat) (d : Dev) : Dev :=
  let r := d.crs c
  if r.probed.contains e || (r.probing.any fun x => x.e == e) then d
  else match r.probes.find? (·.1 == e) with
    | none => d
    | some (_, p) =>
      if !d.fits c p e then d
      else
        let tid := d.cm.nextTid % 256
        let d : Dev := { d with cm := { d.cm with nextTid := (d.cm.nextTid + 1) % 256 } }
        let d : Dev := d.modCrs c fun r =>
          { r with probed := r.probed ++ [e], probes := r.probes.filter (· ≠ (e, p)), probing := r.probing ++ [⟨e, p, tid, d.now, 0⟩] }
        d.send c e (.probe tid (128 * c + p))

/-- Give every request of a course that may start its start. -/
def Dev.pump (c : Nat) (d : Dev) : Dev :=
  let d : Dev := d.serveLocal d.cm.reqs.length
  if d.get F.CM_CRS_STAT_STATE c = 0 then d
  else d.each [0, 1] fun e d => if (d.lane c e).working then (d.startProbe c e).startReqs c e 2 else d

/-- R269: s[i] from w_h, fwd_a, fwd_d of the bricks in order, `prev` the brick before. -/
def segs (prev : Option (Nat × Nat × Nat)) : List (Nat × Nat × Nat) → List Int
  | [] => []
  | b :: r => (match prev with
    | none => (b.1 : Int)
    | some a => (b.1 : Int) - a.1 - a.2.1 - a.2.2) :: segs (some b) r

/-- R269: (lat_h, lat_f) of every position from (w_h, fwd_a, fwd_d) per brick and the ring transits. The shares of the segments stay
exact; the sum of an end's shares is rounded once, to the nearest unit (DESIGN CHOICE, log entry 128). -/
def latencies (l : List (Nat × Nat × Nat)) (tA tD : Nat) : List (Int × Int) :=
  let n := l.length
  let fa := l.map fun b => (b.2.1 : Int)
  let fd := l.map fun b => (b.2.2 : Int)
  let s0 := segs none l
  let s := s0 ++ [(tA : Int) + tD - sumI fa - sumI fd - sumI s0]
  let q := ((tA : Int) - sumI fa) - (tD - sumI fd)
  let tot := sumI s
  let up (l : List Int) : Int := roundDiv (sumI l * (tot + q)) (2 * tot.toNat)
  let dn (l : List Int) : Int := roundDiv (sumI l * (tot - q)) (2 * tot.toNat)
  (List.range n).map fun p => (up (s.take (p + 1)) + sumI (fa.take p), dn (s.drop (p + 1)) + sumI (fd.drop (p + 1)))

/-- R269: the foot-end path the same arithmetic predicts for each position. -/
def predictF (l : List (Nat × Nat × Nat)) (tA tD : Nat) : List Int :=
  let s0 := segs none l
  let s := s0 ++ [(tA : Int) + tD - sumI (l.map fun b => (b.2.1 : Int)) - sumI (l.map fun b => (b.2.2 : Int)) - sumI s0]
  (List.range l.length).map fun p => sumI (s.drop (p + 1)) + sumI ((l.drop (p + 1)).map fun b => (b.2.1 : Int) + b.2.2)

/-- Measured data of a course in order of position, if they are complete: positions found from 0 on without a gap. -/
def Dev.measured (d : Dev) (c : Nat) : Option (List (Nat × Nat × Nat)) :=
  let n := d.get F.CM_CRS_STAT_FOUND c
  let l := (List.range n).filterMap fun p =>
    let s := d.dir (128 * c + p)
    match s.wH, tabGet s.points 4 with
    | some w, some f => if d.entry c p = 0 then none else some (w, f / 0x10000, f % 0x10000)
    | _, _ => none
  if l.length = n then some l else none

/-- Whether a latency point is to be written (R290): the new value lies 2 units or more from the one the brick holds, or will hold by the
last write under way; so it is where what the brick holds is unknown. -/
def Dev.latMoved (d : Dev) (b i new : Nat) (held : Option Nat) : Bool :=
  let under := (d.cm.reqs.filter fun q => q.cls == 0 && q.write && q.brick == b && q.index == i).getLast?
  match (under.map (·.value)).or held with
  | some v => decide (2 ≤ ((new : Int) - v).natAbs)
  | none => true

/-- Write the latency points of a brick that moved (R290); they are the hub's copies at once. -/
def Dev.writeLat (c p : Nat) (h f : Int) (d : Dev) : Dev :=
  let b := 128 * c + p
  let s := d.dir b
  let hN := h.toNat
  let fN := f.toNat
  let mh := d.latMoved b 0x10 hN s.heldH
  let mf := d.latMoved b 0x11 fN s.heldF
  let d : Dev := if mh then d.ask 0 8 0 0 true b 0x10 hN else d
  let d : Dev := if mf then d.ask 0 8 0 0 true b 0x11 fN else d
  let d : Dev := d.modDir b fun s => { s with latH := if mh then hN else s.latH, latF := if mf then fN else s.latF }
  (d.set F.CM_DIR_W3_LAT_H (clampN 0xFFFF ((d.dir b).latH / 5)) c p).set F.CM_DIR_W3_LAT_F (clampN 0xFFFF ((d.dir b).latF / 5)) c p

/-- A measurement is complete (R268, R269, R280): with both ends working the latencies are computed and written, unless the
foot-end paths contradict them by more than 2 ns, which repeats the measurement; else the values last computed stand. -/
def Dev.finishMeasure (c : Nat) (d : Dev) : Dev :=
  let st := d.get F.CM_CRS_STAT_STATE c
  let both := (d.lane c 0).working && (d.lane c 1).working && st != 5
  let done (d : Dev) : Dev := ((d.modCrs c fun r => { r with measuring := false }).count F.CM_CRS_MEAS_ROUNDS c).updateDeliv c
  match (d.crs c).tA, (d.crs c).tD, d.measured c with
  | some a, some t, some l =>
    if !both then done d
    else
      let bad := (List.range l.length).any fun p => match (d.dir (128 * c + p)).wF with
        | some w => decide (10 < ((w : Int) - nth (predictF l a t) p 0).natAbs)
        | none => false
      if bad then d.startMeasure c
      else
        let ls := latencies l a t
        done (d.each (List.range l.length) fun p d => let x := nth ls p (0, 0); d.writeLat c p x.1 x.2)
  | _, _, _ => done d

/-- The first failing row of R282 for a brick whose points have been read; 0 if it passes. -/
def Dev.checkBrick (d : Dev) (b : Nat) : Nat :=
  let c := b / 128
  let p := b % 128
  let s := d.dir b
  let pt (i : Nat) : Option Nat := tabGet s.points i
  let uid := d.get F.CM_DIR_W1_UID_LO c p + 0x100000000 * d.get F.CM_DIR_W2_UID_HI c p
  let tile := d.tileOf c
  let cfg := tile.map fun t => (d.grp t.2.group).tables.rankOf t.1
  let vnom := (d.mo.image.map (·.points.vnom)).getD 0
  let nc := d.nc c
  let others := (List.range 8192).any fun o =>
    o ≠ b && d.entry (o / 128) (o % 128) ≠ 0 &&
    d.get F.CM_DIR_W1_UID_LO (o / 128) (o % 128) + 0x100000000 * d.get F.CM_DIR_W2_UID_HI (o / 128) (o % 128) == uid
  match pt 0 with
  | none => 0xA
  | some v0 =>
    if v0 / 0x10000 ≠ 1 then 1 else match pt 1 with
    | none => 0xA
    | some v1 =>
      let k := v1 / 0x1000000
      let okKind := match tile with
        | some t => (t.2.type == .ac && k == 1) || (t.2.type == .chopper && k == 2)
        | none => k == 1 || k == 2
      if !okKind then 2 else match pt 4 with
      | none => 0xA
      | some v4 =>
        if 200 < v4 / 0x10000 ∨ 200 < v4 % 0x10000 then 3 else match pt 5 with
        | none => 0xA
        | some v5 =>
          if 1000 < v5 / 0x10000 then 4 else match pt 6 with
          | none => 0xA
          | some v6 =>
            if cfg.any fun r => v6 % 0x200 ≠ r.tDead then 5
            else if cfg.any fun r => r.tMinp < v5 % 0x10000 then 6
            else match pt 7 with
            | none => 0xA
            | some v7 =>
              if vnom < 200 * ((v7 : Int) - vnom).natAbs then 7
              else if nc ≠ 0 ∧ nc ≤ p then 8
              else if others then 9
              else if (pt 0x10).isNone || (pt 0x11).isNone || (d.get F.CM_DIR_W0_KIND c p == 2 && (pt 0x30).isNone) then 0xA else 0

/-- Configuration writes of R283; RES_OFF first when it lies below the RES_ON the brick holds, which its check has read. -/
def Dev.configBrick (b : Nat) (d : Dev) : Dev :=
  let w (i v : Nat) (d : Dev) : Dev := (d.ask 0 8 0 0 true b i v).modDir b fun s => { s with points := tabSet s.points i v }
  let pc := (d.mo.image.map (·.points)).getD .empty
  let wd := ((d.tileOf (b / 128)).map fun t => (d.grp t.2.group).cfg.watchdog).getD 3
  let on := tabD (d.dir b).points 0x30 0xFFFF
  let d : Dev := w 0x13 pc.auxSel (w 0x12 ((wd - 1) * 0x100) d)
  if d.get F.CM_DIR_W0_KIND (b / 128) (b % 128) = 2 then
    let d : Dev := if pc.resOff < on then w 0x30 pc.resOn (w 0x31 pc.resOff d) else w 0x31 pc.resOff (w 0x30 pc.resOn d)
    w 0x32 pc.disFloor d
  else d

/-- The check of a brick goes on when nothing of it is outstanding (R282, R283): verdict after the reads, measurement after
the configuration, end after the latency writes. -/
def Dev.checkOn (b : Nat) (d : Dev) : Dev :=
  let s := d.dir b
  let c := b / 128
  if d.cm.reqs.any fun q => q.cls == 0 && q.brick == b then d
  else if s.phase = 1 then
    let v := d.checkBrick b
    if v ≠ 0 then d.modDir b fun s => { s with verdict := v, phase := 5 }
    else (d.configBrick b).modDir b fun s => { s with phase := 2 }
  else if s.phase = 2 then
    let d : Dev := d.modDir b fun s => { s with phase := 3 }
    if (d.crs c).measuring then d else d.startMeasure c
  else if s.phase = 3 then (if (d.crs c).measuring then d else d.modDir b fun s => { s with phase := 5 })
  else d

/-- Every check of a course goes on. -/
def Dev.checksOn (c : Nat) (d : Dev) : Dev :=
  d.each (List.range 128) fun p d => if 1 ≤ (d.dir (128 * c + p)).phase ∧ (d.dir (128 * c + p)).phase ≤ 3 then d.checkOn (128 * c + p) else d

/-- Begin the check of a brick (R282): its contract points are read, with the values it holds of the points that the course manager
writes only on a change or in an order that depends on them (R283, R290). -/
def Dev.beginCheck (b : Nat) (d : Dev) : Dev :=
  let d : Dev := d.modDir b fun s => { s with phase := 1, verdict := 0, points := s.points.filter fun x => decide (x.1 = 8 ∨ (0x12 ≤ x.1 ∧ x.1 ≠ 0x30)) }
  let own := if d.get F.CM_DIR_W0_KIND (b / 128) (b % 128) = 2 then [0x30] else []
  let d : Dev := ([0, 1, 4, 5, 6, 7, 0x10, 0x11] ++ own).foldl (fun d i => d.ask 0 8 0 0 false b i 0) d
  d.setEntry (b / 128) (b % 128) 2

/-- A transaction has ended without an answer (R282, R295 to R297). -/
def Dev.lostReq (q : PtReq) (status : Nat) (d : Dev) : Dev := ((d.endReq q status).checkOn q.brick).pump (q.brick / 128)

end Sys2Proof.Machine
end

