-- ==== Sys2Proof/Machine/Lanes.lean ====
section
/-! DEFINITION. The commands of the decte lanes (R218 to R242, R259, R278). An end e of a course is 0 head, 1 foot. -/

namespace Sys2Proof.Machine

/-- Twice the depth of the triangular modulation at the middle of tick i of its period, in units of 1/16,000 of the full depth (R237). -/
def spreadAt (i : Nat) : Nat := if i % 16000 < 8000 then 2 * (i % 16000) + 1 else 31999 - 2 * (i % 16000)

/-- The count expected of a window of 1,024 ticks that ends at a tick, times 1,600,000,000: 1,024, less or about it by the mean of the
modulation profile over the window, DEPTH in units of 0.001 % (R220, R237). -/
def Dev.lpllExpected (d : Dev) (p endTick : Nat) : Int :=
  let first := endTick + 15000 * 1024 - 1024 + Config.spreadPhase p
  let sum : Int := sumN ((List.range 1024).map fun i => spreadAt (first + i))
  let depth : Int := d.get F.TB_LPLL_CFG_DEPTH p
  let mid : Int := 1024 * 1600000000
  if d.get F.TB_LPLL_CFG_MODE p = 1 then mid - depth * sum
  else if d.get F.TB_LPLL_CFG_MODE p = 2 then mid + depth * (2 * sum - 16384000)
  else mid

/-- Whether the count of a window that ends at a tick lies within n of the expected one (R220). -/
def Dev.lpllWithin (d : Dev) (p endTick count n : Nat) : Bool :=
  decide (((count : Int) * 1600000000 - d.lpllExpected p endTick).natAbs ≤ n * 1600000000)

/-- LPLL_LOCK (R220): the counts of the 4 consecutive windows that end now, oldest first, all within ±2 of the expected ones; the lanes
wake by a wake sequence (R221). The first lock on a lane die makes the die ready (log entry 9). -/
def lpllLock (p : Nat) (counts : List Nat) (d : Dev) : Dev :=
  let ok := (List.range 4).all fun i => d.lpllWithin p (d.now - 1024 * (3 - i)) (nth counts i 0) 2
  if counts.length = 4 ∧ ok ∧ d.on F.TB_STATUS_PLL_LOCKED ∧ !d.on F.TB_LPLL_STAT_LOCKED p then
    let d : Dev := { d with cm := { d.cm with dieUp := setNth d.cm.dieUp (p / 4) true } }
    ((d.flag F.TB_LPLL_STAT_LOCKED true p).cond (0x140 + p) false).each (coursesOf p) fun c d => d.wakeCourse c true
  else d

/-- A lane PLL loses lock (R221, R331): its lanes go idle at once, their loops end, LOST and the source. -/
def Dev.loseLpll (p : Nat) (d : Dev) : Dev :=
  if !d.on F.TB_LPLL_STAT_LOCKED p then d
  else
    let d : Dev := ((d.flag F.TB_LPLL_STAT_LOCKED false p).flag F.TB_LPLL_STAT_LOST true p).count F.TB_LPLL_STAT_LOSSES p
    let d : Dev := d.each (coursesOf p) fun c d => (d.endLoop c 0 (some 6)).endLoop c 1 (some 6)
    (d.killCourses (coursesOf p)).cond (0x140 + p) true p

/-- LPLL_LOCK_LOSS (R220): the count of the window that ends now lies beyond ±16 of the expected one. -/
def lpllLockLoss (p count : Nat) (d : Dev) : Dev := if d.lpllWithin p d.now count 16 then d else d.loseLpll p

/-- Whether a near-end loop ignores the lane's input (R238). -/
def Dev.nearLoop (d : Dev) (c e : Nat) : Bool := d.get F.CM_LANE_STAT_LOOP c e == 1 || d.get F.CM_LANE_STAT_LOOP c e == 2

/-- SIGNAL_DETECTED (R228, R233). -/
def signalDetected (c e : Nat) (d : Dev) : Dev :=
  if d.nearLoop c e then d
  else
    let d : Dev := d.flag F.CM_LANE_STAT_RX_SIGNAL true c e
    if (d.lane c e).rx = 0 ∧ d.get F.CM_LANE_STAT_LOOP c e ≠ 3 then d.setRx c e 2 else d

/-- ELECTRICAL_IDLE_DETECTED (R228, R233): the receiver goes to IDLE and the end is lost (R278). -/
def electricalIdleDetected (c e : Nat) (d : Dev) : Dev :=
  if d.nearLoop c e then d
  else (((d.flag F.CM_LANE_STAT_RX_SIGNAL false c e).modLane c e fun l => { l with line := .init }).setRx c e 0).loseEnd c e

/-- Comma types of R226. -/
def knownComma (t : Nat) : Bool := t == 0x96 || t == 0xA9 || t == 0xCA || t == 0xF0 || t == 0xE7 || t == 0xDD

/-- A violation at a receiver (R229): CHECK falls back to HUNT; the fourth without 16 clean commas between two loses
alignment. -/
def Dev.violation (c e : Nat) (d : Dev) : Dev :=
  let l := d.lane c e
  if l.rx = 3 then (d.modLane c e fun l => { l with good := 0 }).setRx c e 2
  else if l.rx = 4 then
    let v := if 16 ≤ l.clean then 1 else l.viol + 1
    let d : Dev := d.modLane c e fun l => { l with viol := v, clean := 0 }
    if 4 ≤ v then
      (((d.modLane c e fun l => { l with viol := 0 }).count F.CM_LANE_ERR_ALIGN_LOSS c e).setRx c e 2).loseEnd c e
    else d
  else d

/-- A comma of known type (R228): HUNT to CHECK, CHECK to ALIGNED after three more, in ALIGNED one clean comma. -/
def Dev.goodComma (c e : Nat) (d : Dev) : Dev :=
  let l := d.lane c e
  if l.rx = 2 then (d.modLane c e fun l => { l with good := 0 }).setRx c e 3
  else if l.rx = 3 then
    if 2 ≤ l.good then (d.modLane c e fun l => { l with good := 0, viol := 0, clean := 0, alignedAt := d.now }).setRx c e 4
    else d.modLane c e fun l => { l with good := l.good + 1 }
  else if l.rx = 4 then d.modLane c e fun l => { l with clean := satInc 16 l.clean }
  else d

/-- Whether a lane is in a loop of R238, in which its receiver is in the state LOOP. -/
def Dev.looping (d : Dev) (c e : Nat) : Bool := decide (1 ≤ d.get F.CM_LANE_STAT_LOOP c e) && decide (d.get F.CM_LANE_STAT_LOOP c e ≤ 3)

/-- What a receiver does with one thing it recognises (R228, R229, R239): commas and violations move the alignment, which a receiver in LOOP
does not have; violations are counted in every state; fill in error is counted in a loop. -/
def Dev.lineEvent (c e : Nat) (d : Dev) (ev : LaneEvent) : Dev :=
  let lp := d.looping c e
  let viol (d : Dev) : Dev := if lp then d else d.violation c e
  match ev with
  | .comma t =>
    let d : Dev := d.flag F.CM_LANE_STAT_EIDLE_SEEN (t == 0xF0) c e
    if knownComma t then (if lp then d else d.goodComma c e) else viol (d.count F.CM_LANE_ERR_COMMA c e)
  | .fill n => if lp then d.addTo F.CM_LANE_LOOP_BITERR n c e else d
  | .runOfOnes | .runOfZeros | .zeroRunLength => viol (d.count F.CM_LANE_ERR_RUN c e)
  | .spacing => viol (d.count F.CM_LANE_ERR_SPACING c e)

/-- COMMA_RECEIVED (R224, R226 to R229, R239): the next bits of a lane's line, in which its receiver recognises commas and violations; in a
near-end loop they are those of the lane's own transmitter (R238). -/
def commaReceived (c e : Nat) (bits : List Bool) (d : Dev) : Dev :=
  let x := (d.lane c e).line.scan bits
  x.2.foldl (Dev.lineEvent c e) (d.modLane c e fun l => { l with line := x.1 })

/-- WAKE_SEQUENCE_END (R227, R235, R278): frames may follow, until one comes an IDLE comma with idle fill; the end's millisecond in
ALIGNED counts from here. -/
def wakeSequenceEnd (c e : Nat) (d : Dev) : Dev :=
  match (d.lane c e).wakeEnd with
  | some t =>
    if t ≤ d.now then ((d.modLane c e fun l => { l with wakeEnd := none, alignedAt := d.now }).showLane c e).emit (.idle c (e == 1) 1) else d
  | none => d

/-- Offset of CM_LANE_x_CTL. -/
def laneCtl (c e : Nat) : Nat := 0x200800 + 0x1000 * c + 0x40 * e

/-- The checks of R238 in the order of its list; 0 if none fails. -/
def Dev.loopCheck (d : Dev) (c e cmd hops : Nat) : Nat :=
  if (d.groupOf c).any fun g => d.gpMode g ≠ 0 then 1
  else if !d.dieReady c then 2
  else if cmd ≠ 0 ∧ d.get F.CM_LANE_STAT_LOOP c e ≠ 0 then 3
  else if cmd = 3 ∧ d.get F.CM_CRS_STAT_FOUND c ≤ hops then 4 else 0

/-- A command of CM_LANE_x_CTL: refused, or RESULT DONE and its effect. -/
def Dev.laneCmd (x c e cmd hops : Nat) (f : Dev → Dev) (d : Dev) : Dev :=
  d.hostWrite x (laneCtl c e) fun d =>
    let r := d.loopCheck c e cmd hops
    if r ≠ 0 then d.set F.CM_LANE_CTL_RESULT r c e else f (d.set F.CM_LANE_CTL_RESULT 0 c e)

/-- A loop or hold takes effect: the end counts as lost, and what waits at the transmitter is lost (R238). -/
def Dev.enterLoop (c e cmd : Nat) (d : Dev) : Dev :=
  let d : Dev := ((d.set F.CM_LANE_STAT_LOOP cmd c e).modLane c e fun l => { l with txq := [] }).loseEnd c e
  if cmd = 3 then d.setRx c e 0 else if cmd = 4 then d.laneIdle c e false else (d.laneIdle c e false).setRx c e 0

/-- LOOP_NEAR_SERIAL, LOOP_NEAR_PARALLEL and HOLD_IDLE (R238). -/
def loopNearSerial (x c e : Nat) (d : Dev) : Dev := d.laneCmd x c e 1 0 (Dev.enterLoop c e 1)
def loopNearParallel (x c e : Nat) (d : Dev) : Dev := d.laneCmd x c e 2 0 (Dev.enterLoop c e 2)
def holdIdle (x c e : Nat) (d : Dev) : Dev := d.laneCmd x c e 4 0 (Dev.enterLoop c e 4)

/-- Send an ENTER loop word on a lane, unless the lane is one that R233 keeps idle (R239, R241); its transmit stamp is kept (R242). -/
def Dev.loopWord (c e : Nat) (d : Dev) : Dev :=
  if d.on F.CM_LANE_STAT_TX_IDLE c e then d
  else (d.modLane c e fun l => { l with loopSent := l.loopSent ++ [d.txStamp c (10 * d.ct)] }).emit
    (.frame c (e == 1) (.loopWord false (d.get F.CM_LANE_STAT_LOOP_HOPS c e)))

/-- LOOP_FAR_END (R238, R241): the first ENTER word leaves and confirmation is awaited. -/
def loopFarEnd (x c e hops : Nat) (d : Dev) : Dev :=
  d.laneCmd x c e 3 hops fun d =>
    let d : Dev := (d.enterLoop c e 3).set F.CM_LANE_STAT_LOOP_HOPS hops c e
    ((d.flag F.CM_LANE_CTL_BUSY true c e).modLane c e fun l => { l with loopAt := d.now, confirmed := false, loopSent := [] }).loopWord c e

/-- LOOP_END (R240). -/
def loopEnd (x c e : Nat) (d : Dev) : Dev := d.laneCmd x c e 0 0 fun d => d.endLoop c e none

/-- IDLE commas with idle fill leave a lane in a loop (R239), unless R233 keeps it idle. -/
def Dev.loopIdle (c e n : Nat) (d : Dev) : Dev := if d.on F.CM_LANE_STAT_TX_IDLE c e || n == 0 then d else d.emit (.idle c (e == 1) n)

/-- LOOP_WORD_SEND (R239): after a number of IDLE commas with fill a loop word; never more than 1,024 commas without one. -/
def loopWordSend (c e commas : Nat) (d : Dev) : Dev :=
  if d.get F.CM_LANE_STAT_LOOP c e = 3 then
    let d : Dev := d.each (List.range (commas / 1024)) fun _ d => (d.loopIdle c e 1024).loopWord c e
    if commas % 1024 = 0 ∧ commas ≠ 0 then d else (d.loopIdle c e (commas % 1024)).loopWord c e
  else d

/-- LOOP_CONFIRM (R232, R241, R242): a loop word arrives with its receive stamp. The oldest of the own ENTER words has come back; if it is
intact, HOPS apart, which the bricks count down, the loop is confirmed and the round trip from its transmit stamp at the ball is
recorded in whole ticks (log entry 127). -/
def loopConfirm (c e word stamp : Nat) (d : Dev) : Dev :=
  match (d.lane c e).loopSent with
  | [] => d
  | sent :: rest =>
    if d.get F.CM_LANE_STAT_LOOP c e ≠ 3 then d
    else
      let d : Dev := d.modLane c e fun l => { l with loopSent := rest }
      match loopCommand word with
      | some (1, _) =>
        let rt := (d.rxStamp c stamp + stampSpan - sent) % stampSpan / 10
        ((d.modLane c e fun l => { l with confirmed := true }).flag F.CM_LANE_CTL_BUSY false c e).set F.CM_LANE_LOOP_RT (clampN 0xFFFF rt) c e
      | _ => d

/-- LOOP_NO_ANSWER (R240): not confirmed within 1 ms. -/
def loopNoAnswer (c e : Nat) (d : Dev) : Dev :=
  if d.get F.CM_LANE_STAT_LOOP c e = 3 ∧ !(d.lane c e).confirmed ∧ (d.lane c e).loopAt + 500000 ≤ d.now then d.endLoop c e (some 5) else d

/-- Tenths of a tick by which the mark of a lane follows its course time: none where every line bit is locked to course time, else up to a UI,
where the first UI boundary happens to lie (R220, R259). -/
def Dev.markSub (d : Dev) (c : Nat) : Nat :=
  if d.get F.TB_LPLL_CFG_MODE (c / 8) = 0 then 0 else Config.markDelay (c / 8) d.ct % uiUnits (d.rate c)

/-- One mark of one lane (R19, R227, R259): the other end has one more mark to miss (R278). A mark that fails the lane die's check is not sent. -/
def Dev.markOne (c e : Nat) (d : Dev) : Dev :=
  let f := Frame.timeMark d.ct (e == 1) (d.markSub c)
  if !d.sending c e then d
  else if d.hubFails c f then { d with cm := { d.cm with hubBad := setNth d.cm.hubBad (c / 32) false } }
  else
    let d : Dev := d.modLane c e fun l => { l with txEnd := 10 * d.now + markEnd (d.rate c) 1 - 18000, ended := true }
    (d.emit (.frame c (e == 1) f)).modLane c (1 - e) fun l => { l with markMiss := satInc 3 l.markMiss }

/-- TIME_MARK_SEND (R259): at a course time that is a multiple of 1,800 ticks every lane that sends places a mark. -/
def timeMarkSend (d : Dev) : Dev :=
  if d.ct % 1800 ≠ 0 then d else d.each (List.range 64) fun c d => (d.markOne c 0).markOne c 1

/-- COURSE_END_WORKING (R278): ALIGNED for 1 ms after a wake, counted from the end of the wake or, if later, from the alignment (log entry
129). -/
def courseEndWorking (c e : Nat) (d : Dev) : Dev :=
  let l := d.lane c e
  if !l.working && l.rx == 4 && decide (l.alignedAt + 500000 ≤ d.now) && l.wakeEnd.isNone && !d.mustIdle c &&
    !d.on F.CM_LANE_STAT_TX_IDLE c e && d.get F.CM_LANE_STAT_LOOP c e == 0
  then (d.modLane c e fun l => { l with working := true, markMiss := 0 }).refreshCourse c else d

/-- COURSE_SPLIT (R278): both ends work, but for three marks nothing of either arrived at the other. -/
def courseSplit (c : Nat) (d : Dev) : Dev :=
  let a := d.lane c 0
  let b := d.lane c 1
  if a.working && b.working && decide (3 ≤ a.markMiss) && decide (3 ≤ b.markMiss) && 2 ≤ d.get F.CM_CRS_STAT_STATE c then d.setCourse c 5 else d

end Sys2Proof.Machine
end

