-- ==== Sys2Proof/Machine/Safe.lean ====
section
/-! DEFINITION. The commands of the safety block (R397 to R418). -/

namespace Sys2Proof.Machine

/-- Recompute DEGRADED and the demand DEG_LIMIT from the hold sources (R409): its condition holds while either source's condition holds, and
both together make the demand at once. -/
def Dev.refreshDegraded (d : Dev) : Dev :=
  let f1 := d.on F.SB_CHAN_FAIL_1
  let f2 := d.on F.SB_CHAN_FAIL_2
  let deg := (f1 && !f2 && nth d.sb.passed 1 false) || (f2 && !f1 && nth d.sb.passed 0 false)
  let was := d.on F.SB_STATUS_DEGRADED
  let d : Dev := (d.flag F.SB_STATUS_DEGRADED deg).flag F.SB_DEG_CHANNEL (deg && f2)
  let d : Dev := if deg && !was then { d with sb := { d.sb with degSince := d.now } } else d
  let d : Dev := d.setBit F.SB_DEMAND_COND 8 (f1 || f2)
  if f1 && f2 then (d.cond 0x158 true).demand 8
  else if !f1 && !f2 then d.cond 0x158 false
  else d

/-- Fields of a hold output. -/
def failFld (x : Nat) : Fld := if x = 1 then F.SB_CHAN_FAIL_1 else F.SB_CHAN_FAIL_2
def lastFld (x : Nat) : Fld := if x = 1 then F.SB_CHAN_LAST_1 else F.SB_CHAN_LAST_2
def testsFld (x : Nat) : Fld := if x = 1 then F.SB_CHAN_TESTS_1 else F.SB_CHAN_TESTS_2
def fbFld (x : Nat) : Fld := if x = 1 then F.SB_STATUS_FB_1 else F.SB_STATUS_FB_2

/-- A verdict on a hold output (R406): 1 PASS, 2 NOT_LOW, 3 NOT_HIGH, 4 DISCREPANCY. A pass ends the condition of its
source; if the brake was DEGRADED by this output the timer returns to 0 (R409). -/
def Dev.verdict (x v : Nat) (d : Dev) : Dev :=
  let ok := v == 1
  let failed := d.on (failFld x)
  let d : Dev := (d.set (lastFld x) v).flag (failFld x) (!ok)
  let d : Dev := d.cond (0x155 + x) (!ok)
  let d : Dev := { d with sb := { d.sb with passed := setNth d.sb.passed (x - 1) ok } }
  let d : Dev := if ok && failed then ({ d with store := { d.store with degMinutes := 0 } } : Dev).set F.SB_DEG_ELAPSED 0 else d
  d.refreshDegraded

/-- When the next test of output x falls due after one that starts now (R406): OP_PERIOD later, that of output 2 half an OP_PERIOD after
the next one of output 1 where output 1 is tested. -/
def Dev.nextTest (d : Dev) (x : Nat) : Nat :=
  let half := safeUs (500000 * d.sb.params.opPeriod)
  let other := nth d.sb.due 0 0
  if x = 2 ∧ d.now < other then other + half else d.now + 2 * half

/-- Begin the test of output x (R406). -/
def Dev.startTest (x : Nat) (d : Dev) : Dev :=
  let d : Dev := { d with sb := { d.sb with test := some ⟨x, 0, d.now⟩, due := setNth d.sb.due (x - 1) (d.nextTest x) } }
  (d.flag F.SB_STATUS_TESTING true).driveHold

/-- A test ends with a verdict; a commanded test of the other output follows (SB_CMD TEST). -/
def Dev.endTest (x v : Nat) (d : Dev) : Dev :=
  let d : Dev := ({ d with sb := { d.sb with test := none } } : Dev).flag F.SB_STATUS_TESTING false
  let d : Dev := (d.count (testsFld x)).driveHold.verdict x v
  match d.sb.cmdTests with
  | y :: r => ({ d with sb := { d.sb with cmdTests := r } } : Dev).startTest y
  | [] => d.flag F.SB_CMD_BUSY false

/-- SBC_REQ_INPUT (R402): SBC_REQ_N has held a new level for SBC_FILTER. -/
def sbcReqInput (low : Bool) (d : Dev) : Dev :=
  let d : Dev := d.flag F.SB_STATUS_SBC_REQ low
  if d.ready F.GL_READY_SAFETY then d.demandCond 0 low else d.setBit F.SB_DEMAND_COND 0 low

/-- Whether some active trip input demands the brake (R402, R410). -/
def Dev.tripBrakes (d : Dev) : Bool :=
  (List.range 4).any fun n => testBit (d.get F.SB_STATUS_TRIP) n && testBit d.sb.params.tripBrake n

/-- Courses of a 64-bit mask. -/
def maskCourses (m : Nat) : List Nat := (List.range 64).filter (testBit m)

/-- TRIP_INPUT (R410): TRIP_N[n] has held a new level for its filter; while active it triggers safe block on its courses
and with TRIP_BRAKE demands the brake. -/
def tripInput (n : Nat) (active : Bool) (d : Dev) : Dev :=
  let d : Dev := d.setBit F.SB_STATUS_TRIP n active
  let d : Dev := if active then d.each (maskCourses (nth d.sb.params.tripCourses n 0)) (Dev.trigger 0) else d
  if d.ready F.GL_READY_SAFETY then d.demandCond 3 d.tripBrakes else d.setBit F.SB_DEMAND_COND 3 d.tripBrakes

/-- SAFETY_OSCILLATOR_CHECK (R397): deviations from the second oscillator and from the time base, in units of 0.1 %; the
second counts only while TIMEBASE is ready. -/
def safetyOscillatorCheck (dev2 devTb : Int) (d : Dev) : Dev :=
  let bad := decide (15 < dev2.natAbs) || (d.ready F.GL_READY_TIMEBASE && decide (15 < devTb.natAbs))
  (d.flag F.SB_STATUS_OSC_OK (!bad)).safetyInternal bad

/-- SEAL_CHECK (R400): the switches as they stand now against the seal code, once that is known; a change to other switches than the code's
while ready sets CHANGED, and the seal source's condition is the mismatch. -/
def sealCheck (switches : Nat) (d : Dev) : Dev :=
  let changed := d.pins.sealPins != switches % 0x1000
  let d : Dev := { d with pins := { d.pins with sealPins := switches % 0x1000 } }
  if d.ready F.GL_READY_SAFETY || d.sb.checked then
    let ok := d.pins.sealPins == d.get F.SB_SEAL_EXPECTED
    let d : Dev := if d.ready F.GL_READY_SAFETY && !ok && changed then d.flag F.SB_SEAL_CHANGED true else d
    (d.flag F.SB_SEAL_MATCH ok).cond 0x154 (!ok)
  else d

/-- The trigger conditions that hold when parameters come into force (R411): active trip inputs, the safe states, the safety internal
source. -/
def Dev.retrigger (d : Dev) : Dev :=
  let d : Dev := d.each ((List.range 4).filter (testBit (d.get F.SB_STATUS_TRIP))) fun n d => d.each (maskCourses (nth d.sb.params.tripCourses n 0)) (Dev.trigger 0)
  let d : Dev := if d.on F.FC_STATUS_SAFE_STATE && d.sb.params.ssSafeBlock then d.triggerAll 2 else d
  let d : Dev := if d.sb.direct then d.triggerAll 3 else d
  if d.sb.internal then d.triggerAll 4 else d

/-- With OV_EN converter OV_LM runs on OV_AIN at gain 1 and D = 2^OV_DECIM from its next edge on; until it has an output its input is invalid
(R405). Without OV_EN no condition of the input holds, and its demands end RESTORE_T later (R402). -/
def Dev.takeOv (p : SafetyCfg) (d : Dev) : Dev :=
  if !p.ovEn then
    let c := d.get F.SB_DEMAND_COND
    let d : Dev := { d with sb := { d.sb with
        ovEnd := if testBit c 1 then some d.now else d.sb.ovEnd, lossEnd := if testBit c 2 then some d.now else d.sb.lossEnd
        ovInvalid := none, ovRun := 0 } }
    ((d.cond 0x159 false).setBit F.SB_DEMAND_COND 1 false).setBit F.SB_DEMAND_COND 2 false
  else
    let m := p.ovLm
    let d : Dev := ((d.flag F.LM_CONT_EN true m).set F.LM_CONT_DECIM p.ovDecim m).set F.LM_CONT_GAIN 0 m
    let d : Dev := d.set F.LM_CONT_INPUT p.ovAin m
    let d : Dev := d.modLm m fun s => if s.contNow = d.contWord m then s else { s with contNext := some (d.contWord m, d.nextEdge) }
    { d with sb := { d.sb with ovInvalid := some (d.sb.ovInvalid.getD d.now) } }

/-- The seal check at step 9 of R49 and at ACTIVATE (R400): on a match the parameters are in force and SAFETY is ready; on a
mismatch SAFETY is not ready, the brake is NOT_READY and the seal source is raised. Demands in force stay so; those whose condition holds and RESTART
join them (R401, R402). -/
def Dev.sealAndReady (p : SafetyCfg) (d : Dev) : Dev :=
  let code := p.sealWord % 0x1000
  let d : Dev := ({ d with sb := { d.sb with checked := true } } : Dev).set F.SB_SEAL_EXPECTED code
  let ok := d.pins.sealPins == code
  let d : Dev := (d.flag F.SB_SEAL_MATCH ok).cond 0x154 (!ok)
  if !ok then
    let was := d.brake
    let d : Dev := ((d.flag F.GL_READY_SAFETY false).set F.SB_STATUS_BRAKE 0).driveHold
    if was = 0 then d else d.eventAll 10
  else
    let first := !d.ready F.GL_READY_SAFETY
    let d : Dev := (({ d with sb := { d.sb with params := p, everReady := true } } : Dev).flag F.GL_READY_SAFETY true).takeOv p
    let d : Dev := d.setBit F.SB_DEMAND_COND 3 d.tripBrakes
    let d : Dev := d.setBit F.SB_DEMAND_COND 7 d.sb.internal
    let d : Dev := d.setBit F.SB_DEMAND_COND 5 (d.on F.FC_STATUS_SAFE_STATE && p.ssBrake)
    let d : Dev := d.setBit F.SB_DEMAND_COND 6 (d.on F.FC_STATUS_DIRECT && p.ssBrake)
    let new := (if d.on F.FC_COND_COND 0x158 then d.get F.SB_DEMAND_COND else d.get F.SB_DEMAND_COND &&& 0x2FF) ||| (if first then 0x200 else 0)
    let d : Dev := (d.raised new).set F.SB_DEMAND_IN_FORCE (d.get F.SB_DEMAND_IN_FORCE ||| new)
    let d : Dev := if first then ((d.set F.SB_STATUS_BRAKE 2).driveHold).eventAll 10 else d.refreshBrake
    d.retrigger

/-- One output word of the converter OV_LM (R405): clip, valid, code. -/
def Dev.ovOutput (clip valid : Bool) (code : Int) (d : Dev) : Dev :=
  let p := d.sb.params
  if !(p.ovEn && d.ready F.GL_READY_SAFETY) then d
  else
    let high := (clip && decide (0 < code)) || (valid && decide ((p.ovOn : Int) ≤ code))
    if !high && !valid then
      { d with sb := { d.sb with ovRun := 0, ovInvalid := some (d.sb.ovInvalid.getD d.now) } }
    else
      let lossWas := testBit (d.get F.SB_DEMAND_COND) 2
      let d : Dev := { d with sb := { d.sb with ovInvalid := none, lossEnd := if lossWas then some d.now else d.sb.lossEnd } }
      let d : Dev := (d.cond 0x159 false).setBit F.SB_DEMAND_COND 2 false
      let run := if high then d.sb.ovRun + 1 else 0
      let d : Dev := { d with sb := { d.sb with ovRun := run } }
      if high && decide (p.ovN ≤ run) then ({ d with sb := { d.sb with ovEnd := none } } : Dev).demandCond 1 true
      else if decide (code < (p.ovOff : Int)) && testBit (d.get F.SB_DEMAND_COND) 1 then
        ({ d with sb := { d.sb with ovEnd := some d.now } } : Dev).setBit F.SB_DEMAND_COND 1 false
      else d

/-- OV_LOSS_TIMEOUT (R402, R405): the input has been invalid without a break for OV_LOSS. -/
def ovLossTimeout (d : Dev) : Dev :=
  match d.sb.ovInvalid with
  | none => d
  | some t =>
    if d.sb.params.ovEn && decide (t + safeUs d.sb.params.ovLoss ≤ d.now) then
      let d : Dev := d.cond 0x159 true
      if d.sb.params.ovLossBrake then ({ d with sb := { d.sb with lossEnd := none } } : Dev).demandCond 2 true else d
    else d

/-- AUTOMATIC_DEMAND_END (R402): OV or OV_LOSS has not held for RESTORE_T. -/
def automaticDemandEnd (d : Dev) : Dev :=
  let ovr (e : Option Nat) : Bool := match e with
    | some t => decide (t + safeUs (1000 * d.sb.params.restoreT) ≤ d.now) | none => false
  let c := d.get F.SB_DEMAND_COND
  let d : Dev := if ovr d.sb.ovEnd && !testBit c 1 then d.setBit F.SB_DEMAND_IN_FORCE 1 false else d
  let d : Dev := if ovr d.sb.lossEnd && !testBit c 2 then d.setBit F.SB_DEMAND_IN_FORCE 2 false else d
  d.refreshBrake

/-- The mask of SB_CMD_MASK. -/
def Dev.sbMask (d : Dev) : Nat := d.get F.SB_CMD_MASK_LO_MASK_LO + 0x100000000 * d.get F.SB_CMD_MASK_HI_MASK_HI

/-- Whether a course has a trigger condition that still holds, or one of this step (R411, R413, R414). -/
def Dev.triggerHolds (d : Dev) (c : Nat) : Bool :=
  (List.range 4).any (fun n => testBit (d.get F.SB_STATUS_TRIP) n && testBit (nth d.sb.params.tripCourses n 0) c) ||
  (d.on F.FC_STATUS_SAFE_STATE && d.sb.params.ssSafeBlock) || d.sb.direct || d.sb.internal || (tabD d.sb.courses c .init).trigAt == some d.now

/-- The checks of R418 in order, for a code 1 to 5 of SB_CMD; 0 if none fails. -/
def Dev.sbCheck (d : Dev) (x code : Nat) : Nat :=
  let masked := code == 4 || code == 5
  if d.on F.SB_CMD_BUSY ∧ code = 3 then 1
  else if !d.ready F.GL_READY_SAFETY then 3
  else if (code = 2 ∨ code = 5) ∧ !d.isOwner x then 4
  else if masked && (d.sbMask == 0 || (maskCourses d.sbMask).any fun c => !d.bound c) then 5
  else if code = 2 ∧ d.get F.SB_DEMAND_COND &&& 0x1A9 ≠ 0 then 6
  else if code = 5 ∧ (maskCourses d.sbMask).any d.triggerHolds then 6
  else if code = 3 ∧ d.brake ≠ 1 then 7 else 0

/-- A command of SB_CMD: the checks, then its effect with RESULT DONE. -/
def Dev.sbCmd (x code : Nat) (f : Dev → Dev) (d : Dev) : Dev :=
  d.hostWrite x 0x50020 fun d =>
    let r := d.sbCheck x code
    if r = 0 then (f d).set F.SB_CMD_RESULT 0 else d.set F.SB_CMD_RESULT r

/-- APPLY (R402). -/
def apply (x : Nat) (d : Dev) : Dev := d.sbCmd x 1 (Dev.demand 4)

/-- RESTORE (R403): every manual demand ends but one raised in this step; OV, OV_LOSS and DIRECT stay. -/
def restore (x : Nat) (d : Dev) : Dev :=
  d.sbCmd x 2 fun d => (d.set F.SB_DEMAND_IN_FORCE (d.get F.SB_DEMAND_IN_FORCE &&& (0x46 ||| d.raisedNow))).refreshBrake

/-- TEST (R406): the tests of both outputs, in turn; one in progress is let end first. -/
def test (x : Nat) (d : Dev) : Dev :=
  d.sbCmd x 3 fun d =>
    let d : Dev := d.flag F.SB_CMD_BUSY true
    if d.sb.test.isSome then { d with sb := { d.sb with cmdTests := [1, 2] } }
    else ({ d with sb := { d.sb with cmdTests := [2] } } : Dev).startTest 1

/-- SAFE_BLOCK (R411). -/
def safeBlock (x : Nat) (d : Dev) : Dev := d.sbCmd x 4 fun d => d.each (maskCourses d.sbMask) (Dev.trigger 1)

/-- RELEASE (R413): ACTIVE and UNRELEASED courses of the mask become RELEASING and the first SAFE_RELEASE leaves. -/
def release (x : Nat) (d : Dev) : Dev :=
  d.sbCmd x 5 fun d => d.each (maskCourses d.sbMask) fun c d =>
    let st := d.get F.SB_COURSE_STATE c
    if st = 1 ∨ st = 3 then
      let d : Dev := { d with sb := { d.sb with courses := tabMod d.sb.courses c .init fun s =>
        { s with left := d.sb.params.relN - 1, nextAt := d.now + safeUs d.sb.params.sbRepeat, lastAt := d.now, extra := [], ask := st == 3 } } }
      ((d.set F.SB_COURSE_STATE 2 c).sendSafety c (.safeRelease (d.get F.SB_COURSE_SEQ c) c)).eventAll 10
    else d

/-- OFF_PULSE_TEST (R406, R407): the test of an output falls due; it runs in HELD with no test running, not on the failed
output while DEGRADED, and is postponed otherwise. -/
def offPulseTest (second : Bool) (d : Dev) : Dev :=
  let x := if second then 2 else 1
  if d.brake = 1 ∧ d.sb.test.isNone ∧ nth d.sb.due (x - 1) 0 ≤ d.now ∧ !(d.on F.SB_STATUS_DEGRADED && d.on (failFld x)) then d.startTest x else d

/-- OFF_PULSE_END (R406): OP_LEN is over; the read-back must have been low in its last 10 µs. -/
def offPulseEnd (low : Bool) (d : Dev) : Dev :=
  match d.sb.test with
  | some t =>
    if t.phase = 0 ∧ t.start + safeUs d.sb.params.opLen ≤ d.now then
      let d : Dev := d.flag (fbFld t.output) (!low)
      if low then ({ d with sb := { d.sb with test := some { t with phase := 1 } } } : Dev).driveHold else d.endTest t.output 2
    else d
  | none => d

/-- OFF_PULSE_VERIFY (R406): FB_RISE after the pulse the read-back must be high. -/
def offPulseVerify (high : Bool) (d : Dev) : Dev :=
  match d.sb.test with
  | some t =>
    if t.phase = 1 ∧ t.start + safeUs (d.sb.params.opLen + d.sb.params.fbRise) ≤ d.now then
      (d.flag (fbFld t.output) high).endTest t.output (if high then 1 else 3)
    else d
  | none => d

/-- FEEDBACK_DISCREPANCY (R406): outside a test BRK_FB_x has differed from BRK_HOLD_x for FB_DISC. -/
def feedbackDiscrepancy (second level : Bool) (d : Dev) : Dev :=
  let x := if second then 2 else 1
  let driven := d.on (if second then F.SB_STATUS_HOLD_2 else F.SB_STATUS_HOLD_1)
  let d : Dev := d.flag (fbFld x) level
  if d.ready F.GL_READY_SAFETY && (d.sb.test.map (·.output)) != some x && driven != level then d.verdict x 4 else d

/-- DEGRADED_MINUTE (R409): a whole minute of DEGRADED; at DEG_LIMIT (units of 6 minutes) the source and the demand. -/
def degradedMinute (d : Dev) : Dev :=
  if d.on F.SB_STATUS_DEGRADED ∧ d.sb.degSince + safeUs 60000000 ≤ d.now then
    let n := satInc 0xFFFF d.store.degMinutes
    let d : Dev := { d with store := { d.store with degMinutes := n }, sb := { d.sb with degSince := d.now } }
    let d : Dev := d.set F.SB_DEG_ELAPSED n
    if 6 * d.sb.params.degLimit ≤ n then (d.cond 0x158 true).demand 8 else d
  else d

/-- SAFE_BLOCK_REPEAT (R412). -/
def safeBlockRepeat (c : Nat) (d : Dev) : Dev :=
  let s := tabD d.sb.courses c .init
  if d.get F.SB_COURSE_STATE c = 1 ∧ s.nextAt ≤ d.now then
    let d : Dev := { d with sb := { d.sb with courses := tabSet d.sb.courses c { s with nextAt := s.nextAt + safeUs d.sb.params.sbRepeat } } }
    d.sendSafety c (.safeBlock (d.get F.SB_COURSE_SEQ c) c)
  else d

/-- SAFE_RELEASE_REPEAT (R413): a further SAFE_RELEASE. -/
def safeReleaseRepeat (c : Nat) (d : Dev) : Dev :=
  let s := tabD d.sb.courses c .init
  if d.get F.SB_COURSE_STATE c = 2 ∧ 0 < s.left ∧ s.nextAt ≤ d.now then
    let s' := { s with left := s.left - 1, nextAt := s.nextAt + safeUs d.sb.params.sbRepeat, lastAt := d.now }
    let d : Dev := { d with sb := { d.sb with courses := tabSet d.sb.courses c s' } }
    d.sendSafety c (.safeRelease (d.get F.SB_COURSE_SEQ c) c)
  else d

/-- A value of point STATE that the course manager has read from a brick of a RELEASING course (R413): one SAFE_RELEASE for each distinct
SEQ it finds latched. -/
def Dev.foundSeq (b v : Nat) (d : Dev) : Dev :=
  let c := b / 128
  let q := v / 0x10000 % 0x10000
  let s := tabD d.sb.courses c .init
  if d.get F.SB_COURSE_STATE c = 2 ∧ q ≠ 0 ∧ !s.extra.contains q then
    let d : Dev := { d with sb := { d.sb with courses := tabSet d.sb.courses c { s with extra := s.extra ++ [q] } } }
    d.sendSafety c (.safeRelease q c)
  else d

/-- Whether every entry of a course from FOUND to IN_SERVICE has a valid report with SAFE 0 at this D_R, else the first brick
that has not (R413). -/
def Dev.stillSafe (d : Dev) (c : Nat) : Option Nat :=
  (List.range 128).find? fun p =>
    decide (1 ≤ d.entry c p) && decide (d.entry c p ≤ 5) && (tabGet d.cm.copies (128 * c + p)).bind (·.safe) != some false

/-- Point STATE of each brick that still reports SAFE is asked for (R413), at the first D_R of the release of a course that was UNRELEASED. -/
def Dev.askStates (c : Nat) (d : Dev) : Dev :=
  let s := tabD d.sb.courses c .init
  if d.get F.SB_COURSE_STATE c = 2 ∧ s.ask then
    let d : Dev := { d with sb := { d.sb with courses := tabSet d.sb.courses c { s with ask := false } } }
    d.each ((List.range 128).filter fun p => (tabGet d.cm.copies (128 * c + p)).bind (·.safe) == some true) fun p d => d.ask 0 8 0 0 false (128 * c + p) 0x1A 0
  else d

/-- At a D_R after the last repetition a RELEASING course whose bricks all report SAFE 0 becomes IDLE (R413). -/
def Dev.releaseAtDr (c : Nat) (d : Dev) : Dev :=
  let d : Dev := d.askStates c
  let s := tabD d.sb.courses c .init
  if d.get F.SB_COURSE_STATE c = 2 ∧ s.left = 0 ∧ (d.stillSafe c).isNone then ((d.set F.SB_COURSE_STATE 0 c).set F.SB_COURSE_CAUSE 0 c).eventAll 10 else d

/-- RELEASE_TIMEOUT (R413): 1 ms after the last SAFE_RELEASE the course is still not IDLE. -/
def releaseTimeout (c : Nat) (d : Dev) : Dev :=
  let s := tabD d.sb.courses c .init
  if d.get F.SB_COURSE_STATE c = 2 ∧ s.left = 0 ∧ s.lastAt + safeUs 1000 ≤ d.now then
    d.unrelease c (128 * c + (d.stillSafe c).getD 0)
  else d

/-- A report with SAFE 1 from a brick of an IDLE course makes the course UNRELEASED (R413). -/
def Dev.safeReported (c brick : Nat) (d : Dev) : Dev :=
  if d.bound c && d.sb.everReady && d.get F.SB_COURSE_STATE c == 0 then (d.setBit F.SB_COURSE_CAUSE 5 true c).unrelease c brick else d

end Sys2Proof.Machine
end

