-- ==== Sys2Proof/Machine/Frames.lean ====
section
/-! DEFINITION. What arrives at a lane (R191, R247, R249, R259 to R269, R281, R295, R299, R300) and the transaction window
(R251). -/

namespace Sys2Proof.Machine

/-- A frame that fails its checks is counted (R247). -/
def Dev.badFrame (c e : Nat) (k : Check) (d : Dev) : Dev :=
  match k with
  | .ok => d
  | .badType => d.count F.CM_FRM_ERR_TYPE c e
  | .cut => d.count F.CM_FRM_ERR_CUT c e
  | .badCrc => d.count F.CM_FRM_ERR_CRC c e

/-- Whether frame bits are passed on from a receiver: only in ALIGNED (R228, R230), which a lane in a loop is not. -/
def Dev.passes (d : Dev) (c e : Nat) : Bool := (d.lane c e).rx == 4 && !d.looping c e

/-- A brick's frame: nothing of it comes from a receiver that is not ALIGNED (R230); counted if bad, else handled if it has the type. -/
def Dev.onFrame (c e typ : Nat) (fr : RxFrame) (f : List (BitVec 8) → Dev → Dev) (d : Dev) : Dev :=
  if !d.passes c e then d
  else match checkFrame fr.bytes fr.violation with
  | .ok => if fieldLe fr.bytes 0 1 = typ then f fr.bytes d else d
  | k => d.badFrame c e k

/-- Mark a brick in the event queue (R300). -/
def Dev.markEvent (b : Nat) (d : Dev) : Dev :=
  if d.on F.CM_DIR_W0_EVQ (b / 128) (b % 128) || d.entry (b / 128) (b % 128) == 0 then d
  else
    let deb := (d.groupOf (b / 128)).any d.deblocked
    let d : Dev := (d.flag F.CM_DIR_W0_EVQ true (b / 128) (b % 128)).modDir b fun s => { s with evDeb := deb }
    (d.ask 1 8 0 0 false b 0x18 0).pump (b / 128)

/-- A valid copy of a brick's report of the present opening (R191, R299): stored by D_R, counted after it. -/
def Dev.storeCopy (c e b g : Nat) (safe : Bool) (r : RepCopy) (d : Dev) : Dev :=
  let h := d.grp g
  let t := d.now - h.openTick
  let d : Dev := d.set F.CM_FRM_REP_LAST (clampN 0xFFFF t) c e
  if quarterUs h.cfg.dr < t then d.count F.CM_FRM_REP_AFTER_DR c e
  else
    let k := tabD d.cm.copies b ⟨none, none, none⟩
    if (if e = 0 then k.h else k.f).isSome then d.count F.PL_RANK_FAULTS_DUPLICATE ((d.tileOf c).map (·.1) |>.getD 0)
    else
      let k := { k with h := if e = 0 then some r else k.h, f := if e = 0 then k.f else some r, safe := some (safe || k.safe == some true) }
      { d with cm := { d.cm with copies := tabSet d.cm.copies b k } }

/-- REPORT_RECEIVED (R191, R262, R299, R300, R413). Of the copy every field is kept, and no reserved bit (R247). -/
def reportReceived (c e : Nat) (fr : RxFrame) (d : Dev) : Dev :=
  d.onFrame c e 0x41 fr fun l d =>
    let fl := fieldLe l 1 1
    let b := fieldLe l 2 2 % 0x2000
    if b / 128 ≠ c then d
    else
      let d : Dev := if testBit fl 2 then d.markEvent b else d
      let d : Dev := if testBit fl 4 then d.safeReported c b else d
      match d.groupOf c with
      | none => d
      | some g =>
        if !(d.grp g).started || fieldLe l 4 2 ≠ (d.grp g).k % 0x10000 then d
        else d.storeCopy c e b g (testBit fl 4) ⟨fieldLe l 6 2, fieldLe l 8 2, testBit fl 7, fl / 4 + 64 * fieldLe l 10 2⟩

/-- TIME_MARK_RECEIVED (R230, R232, R259, R268): a valid mark from the other end gives the ring transit. `stamp` is the course time in 0.2
ns at which the lane stamped it, brought to the ball here. -/
def timeMarkReceived (c e : Nat) (fr : RxFrame) (stamp : Nat) (d : Dev) : Dev :=
  let l := fr.bytes
  if !d.passes c e || fr.violation || !checkMark l || testBit (fieldLe l 6 1) 7 == (e == 1) then d
  else
    let sent := 10 * fieldLe l 0 6 + fieldLe l 6 1 % 16 + fieldLe l 8 2
    let t := (d.rxStamp c stamp + stampSpan - sent % stampSpan) % stampSpan
    let d : Dev := d.set F.CM_FRM_RING_TRANSIT (clampN 0xFFFFFFFF t) c e
    let d : Dev := d.modCrs c fun r => { r with tA := if e = 1 then some t else r.tA, tD := if e = 1 then r.tD else some t }
    (d.modLane c e fun l => { l with markMiss := 0 }).refreshCourse c

/-- OWN_FRAME_RETURN (R247, R249): a frame the device sent from the other end arrives, is checked, counted and discarded; the
CYCLE of the present cycle, which its E and TAG_NEXT tell, has crossed the ring (R251). -/
def ownFrameReturn (c e : Nat) (fr : RxFrame) (d : Dev) : Dev :=
  let k := checkFrame fr.bytes fr.violation
  let typ := fieldLe fr.bytes 0 1
  if !d.passes c e then d
  else if k = .ok then
    let d : Dev := (d.modLane c e fun l => { l with markMiss := 0 }).refreshCourse c
    if typ = 1 ∧ (d.crs c).cycleSent = some (fieldLe fr.bytes 4 3, fieldLe fr.bytes 12 2) then d.modCrs c fun r => { r with crossH := r.crossH || e == 1, crossF := r.crossF || e == 0 } else d
  else if k = .badType ∧ typ = 2 then d.count F.CM_FRM_ERR_OWN_BAD c e
  else if k = .badType then d.badFrame c e k
  else (d.badFrame c e k).count F.CM_FRM_ERR_OWN_BAD c e

/-- Clear a directory entry (R289). -/
def Dev.emptyEntry (c p : Nat) (d : Dev) : Dev :=
  let d : Dev := d.modDir (128 * c + p) fun _ => .init
  let d : Dev := ((d.set F.CM_DIR_W0_REASON 0 c p).set F.CM_DIR_W0_KIND 0 c p).set F.CM_DIR_W0_EVENTS 0 c p
  let d : Dev := ((d.flag F.CM_DIR_W0_FROM_H false c p).flag F.CM_DIR_W0_FROM_F false c p).flag F.CM_DIR_W0_EVQ false c p
  let d : Dev := ((d.set F.CM_DIR_W1_UID_LO 0 c p).set F.CM_DIR_W2_UID_HI 0 c p).set F.CM_DIR_W3_LAT_H 0 c p
  (d.set F.CM_DIR_W3_LAT_F 0 c p).setEntry c p 0

/-- Send a DISCOVER QUERY (R281). -/
def Dev.query (c phase hop rtt : Nat) (d : Dev) : Dev :=
  (d.modCrs c fun r => { r with disc := some ⟨phase, hop, rtt, d.now⟩ }).send c (phase % 2) (.discover false hop 0)

/-- Every position has answered or not (R282, R289): entries that no longer answer go, the bricks found are checked. -/
def Dev.settleFound (c : Nat) (d : Dev) : Dev :=
  let d : Dev := d.modCrs c fun r => { r with disc := some ⟨5, 0, 0, d.now⟩ }
  let d : Dev := d.each (List.range 128) fun p d =>
    if d.entry c p = 0 ∨ (d.dir (128 * c + p)).confirmed then d
    else if d.entry c p = 4 ∨ d.entry c p = 5 then d.takeOut c p else d.emptyEntry c p
  (d.each (List.range 128) fun p d => if d.entry c p = 1 then d.beginCheck (128 * c + p) else d).pump c

/-- Step 4 of R281: the next ASSIGN, or the end of the queries. -/
def Dev.assignNext (c : Nat) (d : Dev) : Dev :=
  match (List.range 128).find? fun p => (d.dir (128 * c + p)).needAssign && d.entry c p ≠ 7 with
  | none => d.settleFound c
  | some p =>
    let b := 128 * c + p
    let e := bit (d.dir b).uidH.isNone
    let d : Dev := (d.modDir b fun s => { s with needAssign := false }).modCrs c fun r => { r with disc := some ⟨4, p, 0, d.now⟩ }
    d.send c e (.discover true (if e = 0 then p else d.nc c - 1 - p) b)

/-- Step 2 of R281: the foot end, if it works and N_c is known. -/
def Dev.footQueries (c : Nat) (d : Dev) : Dev :=
  if (d.lane c 1).working ∧ d.nc c ≠ 0 then d.query c 1 0 0 else d.assignNext c

/-- A brick leaves its tile because its position is settled afresh (R199, R289). -/
def Dev.leaveTile (c p : Nat) (d : Dev) : Dev :=
  match d.brickIndex (128 * c + p) with
  | some (t, i) => d.orderOp t 0 i
  | none => d

/-- A brick answered at a position (R281, R288, R289): an IN_SERVICE entry whose number and UID match stays; any other is
settled afresh, the entry becoming FOUND. An OUT brick still waits for ADMIT (R286). A brick that does not hold its number has
been reset, and its points are those of R277 again. -/
def Dev.foundAt (c p e num kind uid rtt : Nat) (d : Dev) : Dev :=
  let b := 128 * c + p
  let st := d.entry c p
  let same := st ≠ 0 && d.get F.CM_DIR_W1_UID_LO c p + 0x100000000 * d.get F.CM_DIR_W2_UID_HI c p == uid
  let seen (d : Dev) : Dev :=
    let d : Dev := d.modDir b fun s => { s with
      confirmed := true, uidH := if e = 0 then some uid else s.uidH, uidF := if e = 0 then s.uidF else some uid,
      wH := if e = 0 && s.wH.isNone then some (10 * rtt) else s.wH, wF := if e = 1 && s.wF.isNone then some (10 * rtt) else s.wF }
    if e = 0 then d.flag F.CM_DIR_W0_FROM_H true c p else d.flag F.CM_DIR_W0_FROM_F true c p
  if st = 5 && same && num == b then seen d
  else
    let back := same && (d.dir b).byAdmit
    let d : Dev := if st = 4 ∨ st = 5 then d.leaveTile c p else d
    let d : Dev := if same then d else d.emptyEntry c p
    let d : Dev := d.modDir b fun s => { s with needAssign := !(same && num == b), byAdmit := back, fails := 0 }
    let d : Dev := if num = b then d else d.modDir b fun s => { s with 
      points := [(0x12, 0x200), (0x13, 0), (0x30, 0xFFFF), (0x31, 0xFFFF), (0x32, 0)], latH := 0, latF := 0, heldH := some 0, heldF := some 0 }
    let d : Dev := d.modDir b fun s => { s with points := tabSet s.points 8 num }
    let d : Dev := ((d.set F.CM_DIR_W0_KIND kind c p).set F.CM_DIR_W1_UID_LO (uid % 0x100000000) c p).set F.CM_DIR_W2_UID_HI (uid / 0x100000000) c p
    seen ((d.set F.CM_DIR_W0_REASON 0 c p).setEntry c p 1)

/-- A reply to QUERY (R281). -/
def Dev.queryReply (c e num kind uid : Nat) (q : Disc) (d : Dev) : Dev :=
  let n := d.nc c
  let p := if q.phase % 2 = 0 then q.hop else n - 1 - q.hop
  let b := 128 * c + p
  let rtt := d.now - q.sentAt
  if q.phase = 0 then
    let d : Dev := d.foundAt c p e num kind uid rtt
    if q.hop + 1 < (if n = 0 then 128 else n) then d.query c 0 (q.hop + 1) rtt else d.footQueries c
  else if q.phase = 1 then
    match (d.dir b).uidH with
    | some u =>
      if u = uid then (((d.flag F.CM_DIR_W0_FROM_F true c p).modDir b fun s => { s with uidF := some uid }).assignNext c)
      else d.query c 2 p 0
    | none =>
      let d : Dev := d.foundAt c p e num kind uid rtt
      if q.hop + 1 < n then d.query c 1 (q.hop + 1) rtt else d.assignNext c
  else if q.phase = 2 then (d.foundAt c p e num kind uid rtt).query c 3 (n - 1 - p) 0
  else if (d.dir b).uidH = some uid then (d.flag F.CM_DIR_W0_FROM_F true c p).assignNext c
  else (((d.modDir b fun s => { s with needAssign := false }).set F.CM_DIR_W0_REASON 9 c p).setEntry c p 7).assignNext c

/-- DISCOVER_REPLY_RECEIVED (R266, R281). -/
def discoverReplyReceived (c e : Nat) (fr : RxFrame) (d : Dev) : Dev :=
  d.onFrame c e 0x43 fr fun l d =>
    match (d.crs c).disc with
    | none => d
    | some q =>
      let num := fieldLe l 4 2
      if fieldLe l 1 1 = 1 ∧ q.phase ≤ 3 ∧ e = q.phase % 2 then d.queryReply c e num (fieldLe l 7 1) (fieldLe l 8 8) q
      else if fieldLe l 1 1 = 2 ∧ q.phase = 4 then
        (d.modDir (128 * c + q.hop) fun s => { s with points := tabSet s.points 8 num }).assignNext c
      else d

/-- Whether a DISCOVER still waits for the line. -/
def Dev.asks (d : Dev) (c : Nat) : Bool := [0, 1].any fun e => (d.lane c e).txq.any fun w => match w.frame with
  | .discover _ _ _ => true
  | _ => false

/-- DISCOVER_TIMEOUT (R281): no reply within the previous round trip plus 4.0 µs. -/
def discoverTimeout (c : Nat) (d : Dev) : Dev :=
  match (d.crs c).disc with
  | none => d
  | some q =>
    if q.phase = 5 ∨ d.asks c ∨ d.now < q.sentAt + q.rtt + 2000 then d
    else if q.phase = 0 then d.footQueries c else d.assignNext c

/-- PROBE_REPLY_RECEIVED (R232, R267 to R269): the two-way path is receive stamp minus transmit stamp, both at the ball, minus HOLD, in
0.2 ns; `stamp` is the course time at which the lane stamped the reply. The last reply completes the measurement. -/
def probeReplyReceived (c e : Nat) (fr : RxFrame) (stamp : Nat) (d : Dev) : Dev :=
  d.onFrame c e 0x44 fr fun l d =>
    match (d.crs c).probing.find? fun x => x.e == e && x.tid == fieldLe l 2 1 && 128 * c + x.pos == fieldLe l 4 2 % 0x2000 with
    | none => d
    | some x =>
      let p := x.pos
      let w := some ((d.rxStamp c stamp + stampSpan - x.stamp) % stampSpan - fieldLe l 8 4)
      let d : Dev := d.modDir (128 * c + p) fun s => { s with wH := if e = 0 then w else s.wH, wF := if e = 0 then s.wF else w }
      let d : Dev := if e = 0 then d.flag F.CM_DIR_W0_FROM_H true c p else d.flag F.CM_DIR_W0_FROM_F true c p
      let open' := d.alwaysOpen c
      let d : Dev := d.modCrs c fun r =>
        { r with probing := r.probing.filter (· ≠ x), probed := if open' then r.probed.filter (· ≠ e) else r.probed }
      let r := d.crs c
      let d : Dev := if r.measuring && r.probes.isEmpty && r.probing.isEmpty then (d.finishMeasure c).checksOn c else d
      d.pump c

/-- The result of an EVENTS read (R300). -/
def Dev.tookEvents (b v : Nat) (d : Dev) : Dev :=
  let c := b / 128
  let p := b % 128
  let d : Dev := (d.set F.CM_DIR_W0_EVENTS (d.get F.CM_DIR_W0_EVENTS c p ||| v % 256) c p).flag F.CM_DIR_W0_EVQ false c p
  if v % 8 ≠ 0 ∧ (d.dir b).evDeb then d.raise (0xC1 + 2 * c) b else d

/-- What a replied value changes at the hub (R290, R293): what the brick holds of its latency points, the directory's AUX_SEL, a mirrored
point once a refresh has brought it; STATE tells what is to be released (R413). -/
def Dev.replied (q : PtReq) (v : Nat) (d : Dev) : Dev :=
  let mir := match d.mo.image with
    | some b => (tabD b.points.mirrors (d.get F.CM_DIR_W0_KIND (q.brick / 128) (q.brick % 128)) []).contains q.index
    | none => false
  if q.cls = 0 ∧ !q.write then
    let d : Dev := d.modDir q.brick fun s => { s with
      points := tabSet s.points q.index v, latH := if q.index = 0x10 then v else s.latH, latF := if q.index = 0x11 then v else s.latF }
    let d : Dev := d.holdsLat q (some v)
    if q.index = 0x1A then d.foundSeq q.brick v else d
  else if q.cls = 0 then d.holdsLat q (some v)
  else if q.cls = 1 then d.tookEvents q.brick v
  else if q.cls = 3 then d.modDir q.brick fun s => { s with mirror := tabSet s.mirror q.index v }
  else if q.cls = 2 ∧ q.write then
    let d : Dev := if q.index = 0x13 then d.modDir q.brick fun s => { s with points := tabSet s.points 0x13 v } else d
    if mir && (tabGet (d.dir q.brick).mirror q.index).isSome then d.modDir q.brick fun s => { s with mirror := tabSet s.mirror q.index v } else d
  else d

/-- POINT_REPLY_RECEIVED (R264, R295). A contract point a brick does not give reads 0 in the check. -/
def pointReplyReceived (c e : Nat) (fr : RxFrame) (d : Dev) : Dev :=
  d.onFrame c e 0x42 fr fun l d =>
    match (d.flying c e).find? fun q => q.tid == fieldLe l 2 1 && q.brick == fieldLe l 4 2 % 0x2000 && q.index == fieldLe l 6 2 % 0x1000 with
    | none => d
    | some q =>
      let st := fieldLe l 1 1
      let v := fieldLe l 8 4
      let d : Dev :=
        if st = 0 then
          let d : Dev := ((d.count F.CM_CRS_PT_DONE c).dropReq q).replied q v
          if q.cls = 2 ∧ !q.write then d.readValue q.rd q.slot v else d
        else if st = 4 ∧ q.retries < d.get F.GL_PT_CFG_RETRY_N then
          let later := if d.alwaysOpen c then d.now else (d.crs c).windowEnd
          let q' := { q with sent := none, retries := q.retries + 1, notBefore := later }
          { d with cm := { d.cm with reqs := d.cm.reqs.map fun r => if r = q then q' else r } }
        else if q.cls = 0 then (if q.write then d.dropReq q else ((d.dropReq q).replied q 0).holdsLat q none)
        else d.endReq q st
      (d.checkOn q.brick).pump c

/-- The two-way path from an end to the farthest brick that answers from it, in ticks (R251, R280). -/
def Dev.farthest (d : Dev) (c e : Nat) : Nat :=
  (List.range 128).foldl (fun m p => max m (((d.way c p e).getD 0) / 10)) 0

/-- Whether the transaction window of a working end opens now (R251, R280): with both ends working and the ring whole the own CYCLE of
each has arrived at the other; else, or when none was sent, the round trip to the farthest brick has passed. -/
def Dev.windowDue (d : Dev) (c e : Nat) : Bool :=
  let r := d.crs c
  let late := decide (0 < r.cycleAt) && decide (r.cycleAt + d.farthest c e ≤ d.now)
  (d.lane c e).working && !r.window e &&
    (if (d.lane c 0).working && (d.lane c 1).working && d.get F.CM_CRS_STAT_STATE c != 5 && !r.missed then r.crossH && r.crossF else late)

/-- Probes whose reply did not come are given up (R290); on a SPLIT course their bricks are not reached from that end (R280). -/
def Dev.dropProbes (c : Nat) (d : Dev) : Dev :=
  let lost := (d.crs c).probing.filter fun x => decide (x.since + (((d.way c x.pos x.e).getD 0) / 10) + 1500 ≤ d.now)
  let d : Dev := if d.get F.CM_CRS_STAT_STATE c ≠ 5 then d else lost.foldl (fun d x =>
    let d : Dev := d.modDir (128 * c + x.pos) fun s => { s with wH := if x.e = 0 then none else s.wH, wF := if x.e = 0 then s.wF else none }
    if x.e = 0 then d.flag F.CM_DIR_W0_FROM_H false c x.pos else d.flag F.CM_DIR_W0_FROM_F false c x.pos) d
  let d : Dev := d.modCrs c fun r => { r with probed := [], probing := r.probing.filter fun x => !lost.contains x }
  let r := d.crs c
  if r.measuring && r.probes.isEmpty && r.probing.isEmpty then (d.finishMeasure c).checksOn c else d

/-- TRANSACTION_WINDOW_OPEN (R251, R296): at every end where it is due. -/
def transactionWindowOpen (c : Nat) (d : Dev) : Dev :=
  if d.alwaysOpen c then (d.dropProbes c).pump c
  else
    let h := d.windowDue c 0
    let f := d.windowDue c 1
    if !h && !f then d
    else
      let x := d.grp ((d.groupOf c).getD 0)
      ((d.dropProbes c).modCrs c fun r => { r with
        windowH := r.windowH || h, windowF := r.windowF || f, windowEnd := x.openTick + halfUs x.cfg.cycle }).pump c

end Sys2Proof.Machine
end

