-- ==== Sys2Proof/Machine/Courses.lean ====
section
/-! DEFINITION. The commands of the course manager (R278 to R291, R301). -/

namespace Sys2Proof.Machine

/-- GL_READY.LANE_L0 and LANE_L1 (GL_READY): every enabled course of the die trained and discovered. -/
def Dev.refreshLanes (d : Dev) : Dev :=
  let ok (die : Nat) : Bool := d.ready F.GL_READY_MORTAR && (List.range 32).all fun i =>
    !d.enabled (32 * die + i) || decide (2 ≤ d.get F.CM_CRS_STAT_STATE (32 * die + i)) || (d.crs (32 * die + i)).spareIdle
  let d : Dev := if ok 0 then d.flag F.GL_READY_LANE_L0 true else d
  if ok 1 then d.flag F.GL_READY_LANE_L1 true else d

/-- DISCOVERY_COMPLETE (R233, R279): every position is settled; a spare course without a brick goes idle. -/
def discoveryComplete (c : Nat) (d : Dev) : Dev :=
  match (d.crs c).disc with
  | some q =>
    if q.phase = 5 ∧ d.get F.CM_CRS_STAT_STATE c = 1 ∧ (List.range 128).all fun p => decide (d.entry c p ≠ 1) && decide (d.entry c p ≠ 2) then
      let d : Dev := d.modCrs c fun r => { r with disc := none }
      let empty := !d.bound c && d.get F.CM_CRS_STAT_FOUND c == 0
      let d : Dev := if empty then ((d.modCrs c fun r => { r with spareIdle := true }).laneIdle c 0 false).laneIdle c 1 false else d
      (d.setCourse c (d.settledState c)).refreshLanes
    else d
  | none => d

/-- BRICK_CHECK_COMPLETE (R282, R283): the entry becomes CHECKED or REFUSED. -/
def brickCheckComplete (b : Nat) (d : Dev) : Dev :=
  let s := d.dir b
  let c := b / 128
  let p := b % 128
  if s.phase = 5 ∧ d.entry c p = 2 then
    let d : Dev := d.modDir b fun s => { s with phase := 0, checkedAt := d.now }
    if s.verdict ≠ 0 then (d.set F.CM_DIR_W0_REASON s.verdict c p).setEntry c p 7 else d.setEntry c p 3
  else d

/-- The checks of R301 in their order; 0 if none fails. -/
def Dev.crsCheck (d : Dev) (c op pos : Nat) : Nat :=
  let st := d.entry c pos
  if (d.crs c).cmd.isSome then 1
  else if !d.dieReady c || d.get F.CM_CRS_STAT_STATE c == 1 then 2
  else if !d.enabled c then 7
  else if !d.bound c ∧ (op = 1 ∨ op = 2) then 4
  else if (op = 1 ∧ st ≠ 3 ∧ st ≠ 6) ∨ (op = 2 ∧ st ≠ 4 ∧ st ≠ 5) then 5
  else if op = 3 ∧ (d.groupOf c).any d.deblocked then 6 else 0

/-- A brick enters its tile (R198, R285): the lowest free slot in every channel, the entry ADMITTING. -/
def Dev.admitAt (b : Nat) (d : Dev) : Dev :=
  match d.brickIndex b, d.tileOf (b / 128) with
  | some (t, i), some _ =>
    let d : Dev := d.orderOp t 1 i
    ((d.modDir b fun s => { s with ordered := false, byAdmit := false }).setEntry (b / 128) (b % 128) 4).updateDeliv (b / 128)
  | _, _ => d

/-- What a command of CM_CRS_CMD does (R285, R286, R289, R290): ADMIT of an OUT brick goes through the check. -/
def Dev.crsAct (c op pos : Nat) (d : Dev) : Dev :=
  let st := d.entry c pos
  let b := 128 * c + pos
  if op = 1 then
    if st = 3 then d.admitAt b
    else if st = 6 then ((d.modDir b fun s => { s with ordered := true, byAdmit := false, fails := 0 }).beginCheck b).pump c else d
  else if op = 2 then (if st = 4 ∨ st = 5 then d.takeOut c pos else d)
  else if op = 3 then
    let d : Dev := if (d.crs c).spareIdle then (d.modCrs c fun r => { r with spareIdle := false }).wakeCourse c false else d
    if 2 ≤ d.get F.CM_CRS_STAT_STATE c then d.setCourse c 1 else d
  else (d.startMeasure c).pump c

/-- A D_R of the course's tile (R288): a command accepted before its tick acts. -/
def Dev.crsAtDr (tick c : Nat) (d : Dev) : Dev :=
  match (d.crs c).cmd with
  | some (op, pos) =>
    if (d.crs c).cmdAt < tick then
      ((d.modCrs c fun r => { r with cmd := none }).flag F.CM_CRS_CMD_BUSY false c).crsAct c op pos
    else d
  | none => d

/-- Offset of CM_CRS_CMD. -/
def crsCmd (c : Nat) : Nat := 0x200A08 + 0x1000 * c

/-- A command of CM_CRS_CMD: checked, then pending until a D_R of the tile, at once on a spare course (R288, R301). -/
def Dev.crsOrder (x c op pos : Nat) (d : Dev) : Dev :=
  d.hostWrite x (crsCmd c) fun d =>
    let r := d.crsCheck c op pos
    let d : Dev := d.set F.CM_CRS_CMD_RESULT r c
    if r ≠ 0 then d
    else if d.bound c then (d.modCrs c fun r => { r with cmd := some (op, pos), cmdAt := d.now }).flag F.CM_CRS_CMD_BUSY true c
    else d.crsAct c op pos

/-- ADMIT, REMOVE, REDISCOVER, MEASURE (R285, R286, R289, R290). -/
def admitCmd (x c pos : Nat) (d : Dev) : Dev := d.crsOrder x c 1 pos
def remove (x c pos : Nat) (d : Dev) : Dev := d.crsOrder x c 2 pos
def rediscover (x c : Nat) (d : Dev) : Dev := d.crsOrder x c 3 0
def measure (x c : Nat) (d : Dev) : Dev := d.crsOrder x c 4 0

/-- MEASURE_PERIOD (R290): PERIOD seconds after the last measurement began. -/
def measurePeriod (c : Nat) (d : Dev) : Dev :=
  if 2 ≤ d.get F.CM_CRS_STAT_STATE c ∧ (d.crs c).measAt + 500000000 * d.get F.CM_CRS_MEAS_PERIOD c ≤ d.now then (d.startMeasure c).pump c else d

/-- AUTOMATIC_ADMISSION (R285, R287): at a D_R of the tile after its check a CHECKED brick is admitted when AUTO is set, its
group is not deblocked, an ADMIT ordered it, or an admission of it failed before; a brick taken out by command waits for
ADMIT (R286, R289). -/
def automaticAdmission (b : Nat) (d : Dev) : Dev :=
  let c := b / 128
  let s := d.dir b
  match d.groupOf c with
  | none => d
  | some g =>
    let h := d.grp g
    let dr := h.openTick + quarterUs h.cfg.dr
    let allowed := s.ordered || (!s.byAdmit && (d.on F.CM_CRS_CTL_AUTO c || !d.deblocked g || decide (0 < s.fails)))
    if h.started && decide (dr ≤ d.now) && decide (s.checkedAt < dr) && d.entry c (b % 128) == 3 && decide (2 ≤ d.get F.CM_CRS_STAT_STATE c) && allowed
    then d.admitAt b else d

end Sys2Proof.Machine
end

