-- ==== Sys2Proof/Machine/Faults.lean ====
section
/-! DEFINITION. The commands of the fault collector (R380 to R396). -/

namespace Sys2Proof.Machine

/-- The direct safe state (R392): by its own paths everything the device safe state does, and the DIRECT record; `inj` where an injection
gives it (R394). It stands until RESET_N; a real raise after an injected one is counted and has its own record. -/
def Dev.directSafe (detail : Nat) (inj : Bool) (d : Dev) : Dev :=
  let rec' (d : Dev) : Dev := d.queueRec (d.mkRec 3 0 detail 5 (bit inj) (d.snapshot 0))
  let only := d.fc.injected.contains 0
  if d.on F.FC_STATUS_DIRECT && (inj || !only) then d.count F.FC_COUNT_COUNT 0
  else if d.on F.FC_STATUS_DIRECT then
    rec' { d.count F.FC_COUNT_COUNT 0 with fc := { d.fc with injected := d.fc.injected.filter (· ≠ 0) } }
  else
    let d : Dev := (d.flag F.FC_STATUS_DIRECT true).flag F.FC_STATUS_SAFE_STATE true
    let d : Dev := rec' ((d.count F.FC_COUNT_COUNT 0).flag F.FC_COND_COND true 0)
    let fresh := !d.latched 0
    let d : Dev := if fresh then d.firstFault [0] else d
    let d : Dev := d.flag F.FC_LATCH_LATCH true 0
    let d : Dev := { d with fc := { d.fc with
      taken := tabSet d.fc.taken 0 5
      injected := if inj && (fresh || only) then 0 :: d.fc.injected.filter (· ≠ 0) else d.fc.injected.filter (· ≠ 0) } }
    let d : Dev := d.blockAll.each (List.range 4) (Dev.force 0x0B)
    d.safetyDirect.interrupt

/-- FAULT_RAISE (R380): a detector raises source n with its detail word; for a level source its condition begins, or with
`holds` false has ended (R386). A lane die failure takes its courses down (R20, R234, R280); a Transmit
check source tells that the next frame the hub gives the die fails the die's check (R19; log entry 130); a FAULTY PTP port shows its
state unless it is fenced (R387); an uncorrectable PCIe error, whose detail names function and status bit, is logged by AER and counted
(R442; log entry 178). Source 0 takes the direct safe state (R379, R392). -/
def faultRaise (n detail : Nat) (holds : Bool) (d : Dev) : Dev :=
  if !isSource n then d
  else
    let d : Dev := if n = 0x148 ∨ n = 0x149 then
        { d with cm := { d.cm with dieBad := setNth d.cm.dieBad (n - 0x148) holds } } else d
    let d : Dev := if (n = 0x14A ∨ n = 0x14B) ∧ holds then
        { d with cm := { d.cm with hubBad := setNth d.cm.hubBad (n - 0x14A) true } } else d
    let d : Dev := if (n = 0x148 ∨ n = 0x149) ∧ holds then d.idleCourses ((List.range 32).map (32 * (n - 0x148) + ·)) else d
    let d : Dev := if 0x14F ≤ n ∧ n ≤ 0x152 ∧ holds ∧ !d.isFenced n then d.set F.TB_PTP_PORT_W0_STATE 2 (n - 0x14F) else d
    let d : Dev := if n = 0x15E ∧ holds then
        (d.modCtx (detail % 8) fun c => { c with aer := c.aer ||| 2 ^ (detail / 0x100 % 32) }).count F.HC_PORT_UNCORR (detail % 8 / 4) else d
    if n = 0 ∧ holds then d.directSafe detail false
    else if n = 0x153 then d.safetyInternal holds
    else if isLevel n then d.cond n holds detail
    else if holds then d.raise n detail else d

/-- LOG_RECORD_COMMIT (R381, R390): the next queued record gets SEQ and its place in the ring; the first-fault record
learns its SEQ (FC_FIRST_SEQ). -/
def logRecordCommit (d : Dev) : Dev :=
  match d.fc.queue with
  | [] => d
  | r :: rest =>
    let seq := d.store.lseq + 1
    let head := if d.store.log.isEmpty then d.store.head else (d.store.head + 1) % 4096
    let r := { r with seq := seq }
    let isFirst := testBit r.flags 1 && d.store.first.valid && d.store.first.source == r.source && d.store.first.seq == 0
    let d : Dev := { d with
      fc := { d.fc with queue := rest }
      store := { d.store with lseq := seq, head := head, log := tabSet d.store.log head r,
                              first := if isFirst then { d.store.first with seq := seq } else d.store.first } }
    let d : Dev := (d.set F.FC_LOG_STAT_QUEUE rest.length).set F.FC_LOG_STAT_HEAD head
    let d : Dev := if isFirst then d.set F.FC_FIRST_SEQ_SEQ seq else d
    d.sourceGrew 0

/-- The device safe state ends when no source that gave it remains latched (R384); the direct one does not end (R392). -/
def Dev.endSafeState (d : Dev) : Dev :=
  if d.fc.taken.any (fun p => p.2 % 16 == 5) || d.on F.FC_STATUS_DIRECT then d
  else (d.flag F.FC_STATUS_SAFE_STATE false).setBit F.SB_DEMAND_COND 5 false

/-- A fenced unit returns at the clear of its source (R387). -/
def Dev.unfence (n : Nat) (d : Dev) : Dev :=
  if 0xC0 ≤ n ∧ n < 0x140 ∧ n % 2 = 0 then
    let c := (n - 0xC0) / 2
    (d.modCrs c fun r => { r with quiet := true }).wakeCourse c false
  else if 0x140 ≤ n ∧ n < 0x148 then d.each (coursesOf (n - 0x140)) fun c d => d.wakeCourse c false
  else if 0x14F ≤ n ∧ n ≤ 0x152 then d.set F.TB_PTP_PORT_W0_STATE 1 (n - 0x14F)
  else d

/-- Clear one latch (R385): ignored for a role that may not, refused and counted while a record is queued or a level
condition holds, else done with a CLEAR record and the end of its reactions. -/
def clearOne (x n : Nat) (d : Dev) : Dev :=
  let t := tabD d.fc.taken n 0
  if !d.latched n || d.role x == 2 || (t % 16 == 5 && !d.isOwner x) then d
  else if d.fc.queue.any (fun r => r.source == n) || n == 0 || (isLevel n && d.on F.FC_COND_COND n) || (n == 0x2B && d.triplex == 4) then
    d.count F.FC_STATUS_CLEAR_REFUSED
  else
    let d : Dev := d.queueRec (d.mkRec 2 n 0 (if t % 16 = 15 then d.reaction n else t % 16) 0 [])
    let d : Dev := { d.flag F.FC_LATCH_LATCH false n with fc := { d.fc with
      taken := tabErase d.fc.taken n, injected := d.fc.injected.filter (· ≠ n) } }
    let d : Dev := if t % 16 = 2 then d.unfence n else d
    d.endSafeState

/-- FAULT_CLEAR (R385): a write of ones to word w of FC_LATCH. -/
def faultClear (x w mask : Nat) (d : Dev) : Dev :=
  d.hostWrite x (0x40100 + 4 * w) fun d => d.each ((List.range 32).filter (testBit mask)) fun b d => clearOne x (32 * w + b) d

/-- COLLECTOR_SELF_CHECK (R392): corrected errors are counted; a mismatch or an uncorrectable error starts the direct
safe state. -/
def collectorSelfCheck (corrected : Nat) (mismatch : Bool) (d : Dev) : Dev :=
  let d : Dev := d.addTo F.FC_SELF_CORR corrected
  if mismatch then d.directSafe 0 false else d

/-- ERR_N_RELEASE (R388): released once it has been low for 100 µs and no case holds. -/
def errNRelease (d : Dev) : Dev :=
  if d.fc.errLow && !d.errCase && decide (d.pins.errSince + 50000 ≤ d.now) then
    ({ d with fc := { d.fc with errLow := false } } : Dev).flag F.FC_STATUS_ERR_PIN false
  else d

/-- CLEAR_FIRST (R389): FC_CMD, refused with NOT_READY while FAULTS is not ready (R47). -/
def clearFirst (x : Nat) (d : Dev) : Dev :=
  d.hostWrite x 0x40010 fun d =>
    if !d.ready F.GL_READY_FAULTS then d.set F.FC_CMD_RESULT 3
    else
      let d : Dev := { d with store := { d.store with first := .none' } }
      let d : Dev := ((d.flag F.FC_FIRST_VALID false).set F.FC_FIRST_SAME_TICK 0).set F.FC_FIRST_SOURCE 0
      (d.set F.FC_FIRST_SEQ_SEQ 0).set F.FC_CMD_RESULT 0

/-- LOG_INDEX_WRITE (R39, R47, R391): the writing context's window shows the record as it stands now; `errs` is what its read in the
retained store found. Until FAULTS is ready the write is ignored. -/
def logIndexWrite (x idx : Nat) (errs : List StoreErr) (d : Dev) : Dev :=
  d.hostWrite x 0x40024 fun d =>
    if !d.ready F.GL_READY_FAULTS then d else
    let d : Dev := d.readStore errs
    let d : Dev := d.set F.FC_LOG_IDX_INDEX idx x
    { d with fc := { d.fc with win := setNth d.fc.win x (tabD d.store.log (idx % 4096) .blank) } }

/-- INJECT (R393): checked in the order of its table, then armed at the next write of the word or after 1.0 µs. While FAULTS is not
ready it changes nothing (R47); its table has no code for that (log entry 115). -/
def inject (x target tile : Nat) (real two : Bool) (d : Dev) : Dev :=
  d.hostWrite x 0x40030 fun d => if !d.ready F.GL_READY_FAULTS then d else
    let addr := d.get F.FC_INJ_ADDR_ADDR
    let chan := decide (1 ≤ target) && decide (target ≤ 3)
    let idle := !(d.busyTiles.any fun p => p.1 == tile)
    let bad := decide (4 < target) || (target == 0 && decide (workSize ≤ addr)) || (target == 4 && decide (512 ≤ addr)) ||
      (chan && (idle || decide (Config.tileStateWords ≤ addr)))
    let code := if d.fc.inj.isSome then 1 else if bad then 2
      else if (!chan && d.anyDeblocked) || (chan && d.triplex != 1) then 3
      else if target == 4 && !d.allIsolated then 4 else 0
    if code ≠ 0 then d.set F.FC_INJ_RESULT code
    else { d with fc := { d.fc with inj := some ⟨target, addr, tile, real, two, d.now, false⟩ } }

/-- INJECTION_ARMED (R393): the word was written, or 1.0 µs has passed; an injection that is armed stays as it is. -/
def injectionArmed (d : Dev) : Dev :=
  match d.fc.inj with
  | none => d
  | some j =>
    if j.armed then d
    else ({ d with fc := { d.fc with inj := some { j with armed := true, since := d.now } } } : Dev).flag F.FC_INJ_ARMED true

/-- The injection is over with a result. -/
def Dev.endInjection (code : Nat) (d : Dev) : Dev :=
  (({ d with fc := { d.fc with inj := none } } : Dev).flag F.FC_INJ_ARMED false).set F.FC_INJ_RESULT code

/-- INJECTION_FIRE (R393, R394): the armed word is read. `syndrome` tells that the syndrome equals the one set; then one bit is corrected
and counted, and a raise by two is injected; any other raise is real. -/
def injectionFire (syndrome : Bool) (d : Dev) : Dev :=
  match d.fc.inj with
  | none => d
  | some j =>
    if !j.armed then d
    else
      let d : Dev := d.endInjection 0
      if syndrome && !j.two then
        if j.target = 4 then d.count F.FC_SELF_CORR
        else { d with fc := { d.fc with corrected := setNth d.fc.corrected j.target (nth d.fc.corrected j.target 0 + 1) } }
      else if j.target = 4 then
        if j.real || !syndrome then d.directSafe j.addr syndrome
        else { d with fc := { d.fc with due := d.fc.due ++ [⟨0, j.addr, false, some false⟩] } }
      else
        let n := if j.target = 0 then 0x002 else 0x02F + j.target
        { d with fc := { d.fc with due := d.fc.due ++ [⟨n, j.addr, false, if syndrome then some j.real else none⟩] } }

/-- INJECTION_EXPIRED (R393): armed for 1 s without firing. -/
def injectionExpired (d : Dev) : Dev :=
  match d.fc.inj with
  | none => d
  | some j => if j.armed && decide (j.since + 500000000 ≤ d.now) then d.endInjection 5 else d

/-- IRQ_PENDING_CLEAR (R440): ones written to FC_IRQ.PENDING of context y (`fault`) or to HC_IRQ_STAT of the own context
end the outstanding messages; a bit that an event sets in the same clock (`again`) stays set and sends a new message (R6). -/
def irqPendingClear (x y : Nat) (fault : Bool) (mask again : Nat) (d : Dev) : Dev :=
  if fault then
    d.hostWrite x (0x40040 + 4 * y) fun d =>
      let d : Dev := (d.modCtx y fun c => { c with held := c.held.filter (· ≠ 0) }).flag F.FC_IRQ_PENDING false y
      if testBit again 0 && d.on F.FC_IRQ_EN y then (d.flag F.FC_IRQ_PENDING true y).sendMsi y 0 else d
  else
    d.hostWrite x (0x10134 + 0x40 * y) fun d =>
      if x ≠ y then d.refuse x false true 0 (0x10134 + 0x40 * y) else
      d.each ((List.range 12).filter fun b => testBit mask (b + 1)) fun b d =>
        let d : Dev := (d.modCtx x fun c => { c with held := c.held.filter (· ≠ b + 1) }).setBit F.HC_IRQ_STAT_STAT b false x
        if testBit again (b + 1) then d.event x (b + 1) else d

end Sys2Proof.Machine
end

