-- ==== Sys2Proof/Machine/Points.lean ====
section
/-! DEFINITION. The commands of the point window (R292 to R298). -/

namespace Sys2Proof.Machine

/-- Why a BAR2 access is refused, if it is (R424, R425): only an OPEN context, and no write by an Observer (R293). -/
def Dev.bar2Refusal (d : Dev) (x : Nat) (write : Bool) : Option Nat :=
  if !d.isOpen x then some 1 else if write && d.role x == 2 then some 0 else none

/-- Whether a point request keeps R292: aligned, 1 to 16 points of one brick, within the window. -/
def pointFormOk (addr n : Nat) : Bool :=
  addr % 4 == 0 && decide (1 ≤ n) && decide (n ≤ 16) && (addr / 4 / 4096 == (addr / 4 + n - 1) / 4096) && decide (addr / 4 / 4096 < 8192)

/-- Queue the dwords of a read (R292, R293): an absent brick, a chopper point of another KIND, which the directory answers, and a course
that is DOWN end at once. -/
def Dev.askRead (x num brick i slot : Nat) (d : Dev) : Dev :=
  let c := brick / 128
  let q : PtReq := ⟨2, x, num, slot, false, brick, i, 0, 0, none, none, 0, 0, 0, d.now⟩
  if d.entry c (brick % 128) = 0 then d.endReq q 0x10
  else if d.noPoint brick i then d.endReq q 1
  else if d.get F.CM_CRS_STAT_STATE c = 0 ∧ (d.heldPoint brick i).isNone then d.endReq q 0x13
  else d.ask 2 x num slot false brick i 0

/-- Begin a point-window read of n points at point address a for a context or a transfer channel. -/
def Dev.pointRead (x : Nat) (dma : Option Nat) (a n : Nat) (d : Dev) : Dev :=
  let num := d.cm.nextRead
  let d : Dev := { d with cm := { d.cm with
    nextRead := num + 1, reads := d.cm.reads ++ [⟨num, x, dma, 4 * a, List.replicate n none, d.now⟩] } }
  (d.each (List.range n) fun j d => d.askRead x num ((a + j) / 4096) ((a + j) % 4096) j).pump (a / 4096 / 128)

/-- POINT_READ (R292, R293, R422): a BAR2 read of n dwords at a byte offset. -/
def pointRead (x addr n : Nat) (d : Dev) : Dev :=
  match d.bar2Refusal x false with
  | some cause => (d.refuse x true false cause addr).emit (.pointData x addr (List.replicate n 0))
  | none =>
    if !pointFormOk addr n then
      ((d.refuse x true false 2 addr).pointFail x 0x15 (addr / 4)).emit (.pointData x addr (List.replicate n 0xFFFFFFFF))
    else d.pointRead x none (addr / 4) n

/-- One point of a write (R293). -/
def Dev.askWrite (x brick i v : Nat) (d : Dev) : Dev :=
  let c := brick / 128
  if d.entry c (brick % 128) = 0 then d.pointFail x 0x10 (brick * 4096 + i)
  else if (0x10 ≤ i ∧ i ≤ 0x12) ∨ (0x30 ≤ i ∧ i ≤ 0x32) then d.pointFail x 0x11 (brick * 4096 + i)
  else if d.get F.CM_CRS_STAT_STATE c = 0 then d.pointFail x 0x13 (brick * 4096 + i)
  else d.ask 2 x 0 0 true brick i v

/-- POINT_WRITE (R292, R293, R422): a BAR2 write of the values at a byte offset. -/
def pointWrite (x addr : Nat) (vals : List Nat) (fullBytes : Bool) (d : Dev) : Dev :=
  match d.bar2Refusal x true with
  | some cause => d.refuse x true true cause addr
  | none =>
    if !pointFormOk addr vals.length || !fullBytes then (d.refuse x true true 2 addr).pointFail x 0x15 (addr / 4)
    else
      let a := addr / 4
      (d.each (List.range vals.length) fun j d =>
        d.askWrite x ((a + j) / 4096) ((a + j) % 4096) (nth vals j 0 % 0x100000000)).pump (a / 4096 / 128)

/-- Tick at which a reply is due (R295): W + 3.0 µs after the request. -/
def Dev.replyDue (d : Dev) (q : PtReq) (foot : Bool) (at' : Nat) : Nat :=
  at' + ((d.way (q.brick / 128) (q.brick % 128) (bit foot)).getD 0) / 10 + 1500

/-- POINT_TIMEOUT (R282, R295): the reply to transaction tid of a course is not in time. A read is reissued once, from the
other end if it works; a write or a second timeout ends with TIMEOUT. -/
def pointTimeout (c tid : Nat) (d : Dev) : Dev :=
  match d.cm.reqs.find? fun q => q.brick / 128 == c && q.tid == tid && q.sent.isSome with
  | none => d
  | some q => match q.sent with
    | none => d
    | some (foot, at') =>
      if d.now < d.replyDue q foot at' then d
      else if !q.write ∧ q.tries = 0 then
        let q' := { q with sent := none, tries := 1, avoid := some foot }
        ({ d with cm := { d.cm with reqs := d.cm.reqs.map fun r => if r = q then q' else r } } : Dev).pump c
      else d.lostReq q 0x12

/-- POINT_LIMIT (R297): window requests that have not ended by LIMIT end: reads with 0xFFFFFFFF, writes that are still
queued dropped. -/
def pointLimit (d : Dev) : Dev :=
  let old := d.cm.reqs.filter fun q => q.cls == 2 && q.ctx < 8 && (!q.write || q.sent.isNone) &&
    decide (q.since + 5000 * d.get F.GL_PT_CFG_LIMIT ≤ d.now)
  old.foldl (fun d q => (d.endReq q 0x14).pump (q.brick / 128)) d

/-- Mirrored points of a brick (R293). -/
def Dev.mirrorsOf (d : Dev) (b : Nat) : List Nat :=
  match d.mo.image with
  | some i => tabD i.points.mirrors (d.get F.CM_DIR_W0_KIND (b / 128) (b % 128)) []
  | none => []

/-- MIRROR_REFRESH (R294): a round of a course; a round still unfinished counts MIRROR_LATE. -/
def mirrorRefresh (c : Nat) (d : Dev) : Dev :=
  let per := (d.mo.image.map (·.points.mirrorPeriod)).getD 0
  if per = 0 ∨ d.now < (d.crs c).mirrorAt + msTicks per then d
  else
    let rest := d.cm.reqs.filter fun q => q.cls == 3 && q.brick / 128 == c
    let d : Dev := if rest.isEmpty then d else d.count F.CM_CRS_PT_MIRROR_LATE c
    let d : Dev := { d with cm := { d.cm with reqs := d.cm.reqs.filter fun q => !(q.cls == 3 && q.brick / 128 == c && q.sent.isNone) } }
    let d : Dev := d.modCrs c fun r => { r with mirrorAt := d.now }
    (d.each (List.range 128) fun p d =>
      if d.entry c p = 0 then d
      else (d.mirrorsOf (128 * c + p)).foldl (fun d i => d.ask 3 8 0 0 false (128 * c + p) i 0) d).pump c

end Sys2Proof.Machine
end

