-- ==== Sys2Proof/Machine/Dma.lean ====
section
/-! DEFINITION. The transfer engine (R443 to R462) and ERASE_LOG (R391), which withdraws its LOG sources. -/

namespace Sys2Proof.Machine

/-- The first failing rule of R447 for a descriptor of context x; 0 if it is valid. A converter is CONTINUOUS when its
trigger mode is (R319, R325). -/
def Dev.descRule (d : Dev) (x : Nat) (w : Desc) : Nat :=
  let k := w.srcKind
  let kinds := if w.toStore then k == 0 else k != 0
  let ring := match d.ringOf w.pace with
    | some c => decide (w.pace ≤ 4) && c.trig == 3 && k == 1 && w.src == c.ringBase
    | none => false
  let srcRoom := if k = 0 then 0x1000000000000 else if k = 1 then 0x1000000 else if k = 2 then 0x8000000 else 0x100000000
  if !kinds then 1
  else if w.src % 4 ≠ 0 ∨ w.dst % 4 ≠ 0 ∨ w.length' % 4 ≠ 0 ∨ w.at' 6 % 32 ≠ 0 then 2
  else if w.length' < 4 ∨ 16777216 < w.length' ∨ (k = 3 ∧ w.length' % 256 ≠ 0) ∨ (w.irqHalf ∧ w.length' % 8 ≠ 0) then 3
  else if (w.pace = 0 ∧ ((k = 1 ∧ 0x1000000 < w.src + w.length') ∨ (w.toStore ∧ 0x1000000 < w.dst + w.length'))) ∨
      (k = 2 ∧ 0x8000000 < w.src + w.length') then 4
  else if w.pace ≠ 0 ∧ !ring then 5
  else if w.ctrl % 0x20000 ≠ 0 ∨ srcRoom ≤ w.src ∨ 0x1000000000000 ≤ w.dst ∨ w.at' 7 % 0x80000000 / 0x10000 ≠ 0 then 6
  else if w.toStore ∧ d.role x = 2 then 7
  else if w.repeat' ∧ k = 3 then 8 else 0

/-- CLAIM and RELEASE clear DM_CH_IRQ and DM_CH_IRQ_EN; no message of the channel stays outstanding. -/
def Dev.clearIrq (n : Nat) (d : Dev) : Dev :=
  let d : Dev := [F.DM_CH_IRQ_HALF, F.DM_CH_IRQ_FULL, F.DM_CH_IRQ_DONE, F.DM_CH_IRQ_STOP, F.DM_CH_IRQ_OVERRUN, F.DM_CH_IRQ_EN_HALF, F.DM_CH_IRQ_EN_FULL,
    F.DM_CH_IRQ_EN_DONE, F.DM_CH_IRQ_EN_STOP, F.DM_CH_IRQ_EN_OVERRUN].foldl (fun d f => d.flag f false n) d
  d.dmaIrqEnd n false

/-- The channel ends in a state with a cause (R459, R461): DONE shows P, STOP is set on entry to PAUSED or FAULTED, source
0x15F is raised on FAULTED other than by a translation. -/
def Dev.dmaEnter (st cause n : Nat) (d : Dev) : Dev :=
  let d : Dev := (d.set F.DM_CH_DONE_DONE (d.dmaCh n).pos n).modDma n fun c => { c with stopping := none, held := [], asked := 0, sent := [], snap := false, walking := none, burst := 0 }
  let d : Dev := (d.dmaSet st n).set F.DM_CH_STAT_CAUSE cause n
  let d : Dev := if st = 4 ∨ st = 5 then d.dmaIrq F.DM_CH_IRQ_STOP n else d
  let d : Dev := if st = 0 ∨ st = 1 then d.modDma n fun c => { c with flush := false, fetch := false } else d
  if st = 5 ∧ cause ≠ 4 then d.raise 0x15F n else d

/-- The channel is to end in a state: a moving one stops first, another ends at once; an IDLE one has nothing to stop. -/
def Dev.dmaEnd (st cause n : Nat) (d : Dev) : Dev :=
  if d.dmaState n = 0 ∨ (d.dmaState n = 1 ∧ st = 1) then d else if d.dmaActive n || d.dmaState n == 6 then d.dmaStop st cause n else d.dmaEnter st cause n

/-- A channel stops as FAULTED at P = `at'` (R459): what it holds or awaits before P is still moved. -/
def Dev.dmaFault (cause at' n : Nat) (d : Dev) : Dev :=
  let d : Dev := (d.cutReads n (at' - (d.dmaCh n).pos - (d.dmaCh n).held.length)).modDma n fun c =>
    { c with stopping := some (5, cause), stopAt := at', walking := none, held := c.held.take (at' - c.pos) }
  let d : Dev := if (d.dmaCh n).asked = 0 then d.dropChanReads n else d
  d.dmaSet 6 n

/-- Translate for a channel: some bus address and attributes, or the walk is awaited, or the channel faults at offset P. -/
def Dev.dmaTranslate (n addr at' : Nat) (write flush : Bool) (d : Dev) : Dev × Option (Nat × Nat) :=
  let x := d.dmaOwner n
  match d.translate x addr write flush with
  | .ok bus attr => (d.modDma n fun c => { c with walking := none }, some (bus, attr))
  | .walk => ((d.startWalk n x addr write).modDma n fun c => { c with walking := some (addr, write) }, none)
  | .fault cause => ((d.memFault x cause addr write).dmaFault 4 at' n, none)

/-- Source reads of a port outstanding, and flush reads and fetches; those that no longer serve a channel count until they end (R419). -/
def Dev.portReads (d : Dev) (port : Nat) : Nat :=
  sumN ((List.range 32).map fun n =>
    (if d.dmaOwner n / 4 = port then (d.dmaCh n).sent.length else 0) + ((d.dmaCh n).late.filter fun r => r.kind == 0 && r.ctx / 4 == port).length)
def Dev.portChecks (d : Dev) (port : Nat) : Nat :=
  sumN ((List.range 32).map fun n =>
    (if d.dmaOwner n / 4 = port then (d.ownRead n).length else 0) + ((d.dmaCh n).late.filter fun r => r.kind != 0 && r.ctx / 4 == port).length)

/-- Ask for source data (R419, R454, R458): at most 512 bytes of a host source held or outstanding, no request across a page or beyond
Max Read Request Size; of the 256 requests of a port source reads take at most 192, walks 32, flush reads and fetches 32 (DESIGN CHOICE,
log entry 150); of a point source up to 16 points of one brick at a time. -/
def Dev.dmaAsk (n : Nat) (d : Dev) : Dev :=
  let w := d.active n
  let c := d.dmaCh n
  let from' := c.pos + c.held.length + c.asked
  let left := w.length' - from'
  if !d.dmaActive n || c.walking.isSome || left == 0 then d
  else if w.srcKind = 0 then
    let a := w.src + from'
    let x := d.dmaOwner n
    let len := min (min left (512 - c.held.length - c.asked)) (min (0x10000 - a % 0x10000) (128 * 2 ^ (d.ctx x).cfg.maxRead))
    if len = 0 ∨ !(d.ctx x).bme ∨ 192 ≤ d.portReads (x / 4) then d
    else match d.dmaTranslate n a from' false false with
      | (d, some (bus, attr)) => (d.modDma n fun c => { c with asked := c.asked + len, sent := c.sent ++ [(len, d.now)] }).emit (.hostRead x bus attr len)
      | (d, none) => d
  else if w.srcKind = 2 then
    let a := (w.src + from') / 4
    let k := min (min 16 (left / 4)) (4096 - a % 4096)
    if c.asked ≠ 0 ∨ 64 ≤ c.held.length ∨ k = 0 then d
    else (d.modDma n fun c => { c with asked := 4 * k }).pointRead (d.dmaOwner n) (some n) a k
  else d

/-- Whether the moving channel may go on before it gives way to others of its priority (R458): its burst stays within 512 bytes and has not
reached the end of a page of its host addresses. -/
def Dev.goesOn (d : Dev) (n : Nat) : Bool :=
  let w := d.active n
  let c := d.dmaCh n
  let a := (if w.toStore then w.src else w.dst) + c.pos
  decide (c.burst + (d.segEnd n - c.pos) ≤ 512) && a / 0x10000 == (a - min c.pos c.burst) / 0x10000

/-- The arbiter's choice at a boundary (R458): the highest priority that is ready; among equals the moving channel while its burst goes on,
then round-robin. -/
def Dev.arbiter (d : Dev) (port : Nat) : Option Nat :=
  let l := (d.portChannels port).filter d.dmaReady
  let best := l.foldl (fun m n => min m (d.get F.DM_CH_CFG_PRIO n)) 3
  let l := l.filter fun n => d.get F.DM_CH_CFG_PRIO n == best
  match nth d.host.moving port none with
  | some n => if l.contains n && d.goesOn n then some n else match l.find? fun m => decide (n < m) with
    | some m => some m
    | none => l.head?
  | none => l.head?

/-- Issue the flush read of a barrier (R457): 4 bytes, the last dword written, no attributes. -/
def Dev.dmaFlush (n : Nat) (d : Dev) : Dev :=
  let d : Dev := d.modDma n fun c => { c with flush := false }
  let c := d.dmaCh n
  let a := (d.active n).dst + c.pos - 4
  if 32 ≤ d.portChecks (d.dmaOwner n / 4) then d.modDma n fun c => { c with flush := true, walking := some (a, false) }
  else match d.dmaTranslate n a c.pos false true with
    | (d, some (bus, _)) => (d.modDma n fun c => { c with flush := true, since := d.now }).emit (.hostRead (d.dmaOwner n) bus 0 4)
    | (d, none) => d.modDma n fun c => { c with flush := true }

/-- A piece of a segment is written, with what its half point or end brings (R455, R457). -/
def Dev.dmaWrite (n : Nat) (l : List (BitVec 8)) (bus attr : Nat) (d : Dev) : Dev :=
  let d : Dev := d.dmaPut n l bus attr
  let d : Dev := if d.flushDue n then d.dmaFlush n else if d.halfDue n then d.atHalf n else d.set F.DM_CH_DONE_DONE (d.dmaCh n).pos n
  d.dmaAsk n

/-- Move the next piece of a channel's segment; `bad`: its working store words are uncorrectable (R459). -/
def Dev.dmaMove (n : Nat) (bad : Bool) (d : Dev) : Dev :=
  let w := d.active n
  let p := (d.dmaCh n).pos
  match d.segData n with
  | none => d
  | some l =>
    if w.srcKind = 1 ∧ bad then (d.dmaFault 7 p n).raise 2 (w.src + p)
    else if w.toStore then d.dmaWrite n l 0 0
    else match d.dmaTranslate n (w.dst + p) p true false with
      | (d, some (bus, attr)) => d.dmaWrite n l bus attr
      | (d, none) => d

/-- Move a segment up to its boundary, in at most k pieces, unless a half point, a flush or a walk keeps the channel waiting. -/
def Dev.dmaSegment (n : Nat) (bad : Bool) : Nat → Dev → Dev
  | 0, d => d
  | k + 1, d =>
    let d : Dev := d.dmaMove n bad
    if (d.dmaCh n).pos % 64 = 0 ∨ !d.dmaReady n then d else Dev.dmaSegment n bad k d

/-- Fetch NEXT (R450, R451): within the hop limit, from host memory through translation or from the working store. -/
def Dev.fetchNext (n : Nat) (d : Dev) : Dev :=
  let w := d.active n
  let a := w.next % 0x1000000000000
  if d.get F.DM_CFG_HOP_LIMIT < d.get F.DM_CH_STAT_HOPS n + 1 then d.dmaFault 9 (d.dmaCh n).pos n
  else
    let d : Dev := d.modDma n fun c => { c with fetch := false }
    if testBit (w.at' 7) 31 then d.modDma n fun c => { c with fetch := true }
    else if 32 ≤ d.portChecks (d.dmaOwner n / 4) then d.modDma n fun c => { c with fetch := true, walking := some (a, false) }
    else match d.dmaTranslate n a (d.dmaCh n).pos false false with
      | (d, some (bus, attr)) => (d.modDma n fun c => { c with fetch := true, since := d.now }).emit (.hostRead (d.dmaOwner n) bus attr 32)
      | (d, none) => d.modDma n fun c => { c with fetch := true }

/-- A channel tries again what waited for a translation or for its share of the port. -/
def Dev.dmaRetry (n : Nat) (d : Dev) : Dev :=
  let d : Dev := d.modDma n fun c => { c with walking := none }
  let c := d.dmaCh n
  if !d.dmaActive n then d else if c.flush then d.dmaFlush n else if c.fetch then d.fetchNext n else d.dmaAsk n

/-- Channels of a port that wait without a walk try again. -/
def Dev.retryWaiting (port : Nat) (d : Dev) : Dev :=
  d.each (d.portChannels port) fun n d =>
    if (d.dmaCh n).walking.isSome && !(d.host.walks.any fun w => w.waiters.contains n) then d.dmaRetry n else d

/-- DMA_SEGMENT_BOUNDARY (R458): the arbiter of a port chooses at a boundary, and the chosen channel moves its segment; `errs` is what the reads
of a LOG source in the retained store find (R39). -/
def dmaSegmentBoundary (port : Nat) (bad : Bool) (errs : List StoreErr) (d : Dev) : Dev :=
  let d : Dev := d.each (d.portChannels port) Dev.dmaSkip
  let d : Dev := (d.each (d.portChannels port) Dev.dmaAsk).retryWaiting port
  match d.arbiter port with
  | none => ({ d with host := { d.host with moving := setNth d.host.moving port none } } : Dev).dmaShow port
  | some n =>
    let d : Dev := if nth d.host.moving port none = some n ∧ d.goesOn n then d else d.modDma n fun c => { c with burst := 0 }
    let d : Dev := { d with host := { d.host with moving := setNth d.host.moving port (some n) } }
    let d : Dev := if (d.active n).srcKind = 3 then d.readStore errs else d
    (d.dmaSegment n bad 4).dmaShow port

/-- Begin a pass (R450, R452, R453, R456): `fresh` after a load; a repeated paced source continues where it was. -/
def Dev.beginPass (n : Nat) (fresh : Bool) (d : Dev) : Dev :=
  let w := d.active n
  let start := if w.pace ≠ 0 then (d.lm (w.pace - 1)).ringN else w.src
  let d : Dev := d.modDma n fun c =>
    { c with pos := 0, held := [], asked := 0, sent := [], snap := false, halfDone := false, flush := false, fetch := false, walking := none,
             next := if fresh then start else c.next }
  let idx := match d.ringOf w.pace with
    | some r => (d.dmaCh n).next % max 1 (ringCap r)
    | none => if w.srcKind = 3 then (d.dmaCh n).next else 0
  let d : Dev := (d.set F.DM_CH_RING0_RING0 idx n).set F.DM_CH_DONE_DONE 0 n
  let d : Dev := if !w.holdAck && d.on F.DM_CH_IRQ_HALF n then d.dmaIrq F.DM_CH_IRQ_OVERRUN n else d
  (((d.dmaSet 3 n).dmaSkip n).dmaAsk n).dmaShow (d.dmaOwner n / 4)

/-- Load a descriptor into the active set and begin its first pass. -/
def Dev.loadDesc (n : Nat) (w : Desc) (d : Dev) : Dev :=
  let d : Dev := d.each (List.range 8) fun j d => d.set F.DM_CH_ACT_ACTIVE (w.at' j) n j
  (d.set F.DM_CH_PASS_PASS 0 n).beginPass n true

/-- Load the shadow set (R449). -/
def Dev.loadShadow (n : Nat) (d : Dev) : Dev :=
  ((d.flag F.DM_CH_STAT_ARMED false n).set F.DM_CH_STAT_HOPS 0 n).loadDesc n (d.shadow n)

/-- The end of a pass (R450, R455). -/
def Dev.passEnd (n : Nat) (d : Dev) : Dev :=
  let w := d.active n
  let d : Dev := d.set F.DM_CH_DONE_DONE w.length' n
  let d : Dev := if w.irqFull then d.dmaIrq F.DM_CH_IRQ_FULL n else d
  let d : Dev := d.count F.DM_CH_PASS_PASS n
  if d.on F.DM_CH_STAT_ARMED n then d.loadShadow n
  else if w.repeat' then d.beginPass n false
  else if w.chain then d.fetchNext n
  else (d.dmaEnter 1 1 n).dmaIrq F.DM_CH_IRQ_DONE n

/-- DMA_PASS_END (R450): every byte of the pass has been written and no flush is awaited. -/
def dmaPassEnd (n : Nat) (d : Dev) : Dev :=
  let c := d.dmaCh n
  if d.dmaActive n && !c.flush && !c.fetch && c.pos == (d.active n).length' && c.pos != 0 then d.passEnd n else d

/-- The completion of a read that no longer serves a channel is discarded, if one of its kind is outstanding. -/
def Dev.endLate (n kind : Nat) (d : Dev) : Option Dev :=
  match (d.dmaCh n).late.find? (·.kind == kind) with
  | some r => some (d.modDma n fun c => { c with late := c.late.erase r })
  | none => none

/-- DMA_FLUSH_COMPLETE (R457): the completion actions of the section, or the channel faults with only the flush left. -/
def dmaFlushComplete (n : Nat) (ok : Bool) (d : Dev) : Dev :=
  let c := d.dmaCh n
  match d.endLate n 1 with
  | some d => d
  | none =>
    if !(d.dmaActive n && c.flush) then d
    else if !ok then d.dmaFault 6 c.pos n
    else
      let d : Dev := d.modDma n fun c => { c with flush := false }
      if c.pos = (d.active n).length' then d.passEnd n else (d.atHalf n).dmaAsk n

/-- DMA_DESCRIPTOR_FETCH (R447, R450): the 32 bytes of a chained descriptor arrive (from the working store they are its
bytes), or the fetch fails; an invalid one stops the channel with DESC. -/
def dmaDescriptorFetch (n : Nat) (bytes : List (BitVec 8)) (ok : Bool) (d : Dev) : Dev :=
  let c := d.dmaCh n
  let inStore := testBit ((d.active n).at' 7) 31
  match (if inStore && c.fetch then none else d.endLate n 2) with
  | some d => d
  | none =>
    if !(d.dmaActive n && c.fetch) then d
    else
      let w := d.active n
      let bytes := if inStore then d.work.readBytes (w.next % 0x1000000000000) 32 else bytes
      if !ok ∨ bytes.length ≠ 32 then d.dmaFault 6 c.pos n
      else
        let nw : Desc := (List.range 8).map fun j => leNat ((bytes.drop (4 * j)).take 4)
        let rule := d.descRule (d.dmaOwner n) nw
        if rule ≠ 0 then (d.set F.DM_CH_DETAIL_RULE rule n).dmaFault 8 c.pos n
        else (d.set F.DM_CH_STAT_HOPS (d.get F.DM_CH_STAT_HOPS n + 1) n).loadDesc n nw

/-- Source reads in the order of their requests: with n bytes arrived, what is left of them. -/
def arrived (n : Nat) : List (Nat × Nat) → List (Nat × Nat)
  | [] => []
  | k :: l => if k.1 ≤ n then arrived (n - k.1) l else (k.1 - n, k.2) :: l

/-- Whether the oldest source read outstanding is one that no longer serves the channel: those of a stop under way came after the ones it still
awaits. -/
def DmaSt.lateFirst (c : DmaSt) : Option Late :=
  match c.late.find? (·.kind == 0), c.sent with
  | some r, [] => some r
  | some r, s :: _ => if r.since < s.2 ∨ (r.since = s.2 ∧ c.stopping.isNone) then some r else none
  | none, _ => none

/-- Source data that arrives first ends the reads that no longer serve the channel, and is discarded so far; what is left of it. -/
def Dev.discard (n : Nat) : Nat → List (BitVec 8) → Dev → Dev × List (BitVec 8)
  | 0, l, d => (d, l)
  | k + 1, l, d => match (d.dmaCh n).lateFirst with
    | none => (d, l)
    | some r =>
      if l.length < r.len then (d.modDma n fun c => { c with late := c.late.map fun q => if q = r then { q with len := q.len - l.length } else q }, [])
      else Dev.discard n k (l.drop r.len) (d.modDma n fun c => { c with late := c.late.erase r })

/-- DMA_READ_COMPLETION (R458, R459): data of the oldest outstanding read, or an error at its first segment; data of a read that no longer
serves the channel is discarded. -/
def dmaReadCompletion (n : Nat) (bytes : List (BitVec 8)) (ok : Bool) (d : Dev) : Dev :=
  match ok, (d.dmaCh n).lateFirst with
  | false, some r => d.modDma n fun c => { c with late := c.late.erase r }
  | _, _ =>
    let x := d.discard n (d.dmaCh n).late.length bytes
    let d := x.1
    let c := d.dmaCh n
    if !(d.dmaActive n || d.dmaState n == 6) || c.asked == 0 || (d.active n).srcKind != 0 then d
    else if !ok then d.dmaFault 6 (max c.pos ((c.pos + c.held.length) / 64 * 64)) n
    else
      let l := x.2.take c.asked
      let d : Dev := d.modDma n fun c => { c with held := c.held ++ l, asked := c.asked - l.length, sent := arrived l.length c.sent }
      (d.dmaAsk n).dmaShow (d.dmaOwner n / 4)

/-- DMA_READ_TIMEOUT (R423, R459): a read of the channel (source, flush or fetch) has timed out, or the link of its port is lost while its
context stays OPEN. A channel that waits for a walk is told by the walk (R438). One that is stopping at a fault and awaits reads before P
stops at the first of them missing. A read that no longer serves it just ends. -/
def dmaReadTimeout (n : Nat) (d : Dev) : Dev :=
  let d : Dev := d.modDma n fun c => { c with late := c.late.filter fun r => !d.timedOut r.ctx r.since }
  let c := d.dmaCh n
  let x := d.dmaOwner n
  let lost := d.dmaActive n && d.isOpen x && !d.on F.HC_PORT_LINK_UP (x / 4)
  let own := d.dmaActive n && !(d.ownRead n).isEmpty && d.timedOut x c.since
  let source := (d.dmaActive n || d.dmaState n == 6) && c.sent.any fun r => d.timedOut x r.2
  if (lost && (c.flush || c.fetch)) || own then d.dmaFault 5 c.pos n
  else if lost || source then
    d.dmaFault 5 (if (d.active n).srcKind = 0 ∨ (d.active n).srcKind = 2 then max c.pos ((c.pos + c.held.length) / 64 * 64) else c.pos) n
  else d

/-- DMA_CHANNEL_STOPPED (R459): a STOPPING channel has reached P. -/
def dmaChannelStopped (n : Nat) (d : Dev) : Dev :=
  match (d.dmaCh n).stopping with
  | some (st, cause) => if d.dmaState n = 6 ∧ (d.dmaCh n).stopAt ≤ (d.dmaCh n).pos then d.dmaEnter st cause n else d
  | none => d

/-- DMA_ACKNOWLEDGE (R456): ones written to HALF (bit 31) or FULL (bit 30) by the owning context; a bit an event sets in the
same clock (`again`) stays (R6). -/
def dmaAcknowledge (x n : Nat) (half full : Bool) (again : Nat) (d : Dev) : Dev :=
  let off := 0x9010C + 0x80 * n
  d.hostWrite x off fun d =>
    if d.dmaState n = 0 ∨ d.dmaOwner n ≠ x then d.refuse x false true 0 off
    else
      let d : Dev := if half && !testBit again 1 then d.flag F.DM_CH_IRQ_HALF false n else d
      let d : Dev := if full && !testBit again 0 then d.flag F.DM_CH_IRQ_FULL false n else d
      let kept := (half && testBit again 1 && d.on F.DM_CH_IRQ_EN_HALF n) || (full && testBit again 0 && d.on F.DM_CH_IRQ_EN_FULL n)
      (d.dmaIrqEnd n kept).dmaShow (x / 4)

/-- The checks of R462 in their order, for codes 1 to 7. -/
def Dev.dmaCheck (d : Dev) (x n code : Nat) : Nat :=
  let st := d.dmaState n
  let mine := st ≠ 0 && d.dmaOwner n == x
  if !d.ready F.GL_READY_DMA then 1
  else if code = 1 ∧ st ≠ 0 then 3
  else if code ≠ 1 ∧ !mine ∧ !((code = 2 ∨ code = 6) ∧ d.isOwner x) then 4
  else if (code = 3 ∧ d.on F.DM_CH_STAT_ARMED n) ∨ st = 6 then 5
  else if (code = 4 ∧ st ≠ 2 ∧ st ≠ 3) ∨ (code = 5 ∧ st ≠ 4 ∧ st ≠ 5) ∨ (code = 7 ∧ !d.on F.DM_CH_STAT_ARMED n) then 6
  else if code = 3 ∧ d.descRule x (d.shadow n) ≠ 0 then 7 else 0

/-- A command of DM_CH_CMD; a refused ARM shows the rule (R447). -/
def Dev.dmaCmd (x n code : Nat) (f : Dev → Dev) (d : Dev) : Dev :=
  d.hostWrite x (0x90100 + 0x80 * n) fun d =>
    let r := d.dmaCheck x n code
    let d : Dev := if r = 7 then d.set F.DM_CH_DETAIL_RULE (d.descRule x (d.shadow n)) n else d
    let d : Dev := d.set F.DM_CH_CMD_RESULT r n
    if r = 0 then f d else d

/-- CLAIM (R443). -/
def claim (x n : Nat) (d : Dev) : Dev :=
  d.dmaCmd x n 1 fun d => ((d.dmaSet 1 n).set F.DM_CH_STAT_OWNER x n).set F.DM_CH_CFG_PRIO 3 n |>.clearIrq n

/-- RELEASE_CHANNEL (R462): of a channel that is not IDLE first as ABORT; what the stop sets in DM_CH_IRQ is cleared. -/
def releaseChannel (x n : Nat) (d : Dev) : Dev :=
  d.dmaCmd x n 2 fun d => if d.dmaState n = 1 then (d.clearIrq n).dmaSet 0 n else (d.dmaEnd 0 2 n).clearIrq n

/-- ARM (R449). -/
def arm (x n : Nat) (d : Dev) : Dev :=
  d.dmaCmd x n 3 fun d => if d.dmaState n = 1 then d.loadShadow n else d.flag F.DM_CH_STAT_ARMED true n

/-- PAUSE (R459). -/
def pause (x n : Nat) (d : Dev) : Dev := d.dmaCmd x n 4 (Dev.dmaEnd 4 0xB n)

/-- RESUME (R451, R460): HOPS returns to 0; what failed is repeated; a withdrawn converter source continues at the present
write position, which DM_CH_RING0 shows at the start of a pass, with the bytes missed counted. -/
def resume (x n : Nat) (d : Dev) : Dev :=
  d.dmaCmd x n 5 fun d =>
    let w := d.active n
    let c := d.dmaCh n
    let cause := d.get F.DM_CH_STAT_CAUSE n
    let d : Dev := (d.set F.DM_CH_STAT_HOPS 0 n).dmaSet 3 n
    let now := (d.lm (w.pace - 1)).ringN
    let d : Dev := if cause = 0xA ∧ w.pace ≠ 0 then
        let d : Dev := (d.addTo F.DM_CH_LOST_LOST (4 * (now - c.next)) n).modDma n fun c => { c with next := now }
        match c.pos, d.ringOf w.pace with
        | 0, some r => d.set F.DM_CH_RING0_RING0 (now % max 1 (ringCap r)) n
        | _, _ => d
      else d
    let d : Dev := if c.flush then d.dmaFlush n
      else if c.fetch || cause == 9 then d.fetchNext n
      else d.dmaAsk n
    d.dmaShow (x / 4)

/-- ABORT (R459). -/
def abort (x n : Nat) (d : Dev) : Dev := d.dmaCmd x n 6 (Dev.dmaEnd 1 2 n)

/-- DISARM (R449). -/
def disarm (x n : Nat) (d : Dev) : Dev := d.dmaCmd x n 7 fun d => d.flag F.DM_CH_STAT_ARMED false n

/-- ERASE_LOG (R391): the ring is emptied, LOG sources are withdrawn, the ERASED record comes first; SEQ goes on. -/
def eraseLog (x : Nat) (d : Dev) : Dev :=
  d.hostWrite x 0x40010 fun d =>
    if !d.ready F.GL_READY_FAULTS then d.set F.FC_CMD_RESULT 3
    else
      let d : Dev := d.withdraw 0
      let d : Dev := { d with store := { d.store with log := [] } }
      let old := d.fc.queue
      let d : Dev := ({ d with fc := { d.fc with queue := [] } } : Dev).queueRec (d.mkRec 5 0xFFFF 0 0 0 [])
      let d : Dev := { d with fc := { d.fc with queue := d.fc.queue ++ old } }
      (d.set F.FC_LOG_STAT_QUEUE d.fc.queue.length).set F.FC_CMD_RESULT 0

end Sys2Proof.Machine
end

