-- ==== Sys2Proof/Machine/Host.lean ====
section
/-! DEFINITION. The commands of the host ports and contexts (R419 to R442), but for the register accesses themselves. -/

namespace Sys2Proof.Machine

/-- Since when the Owner context is not OPEN (R426). -/
def Dev.ownerCheck (d : Dev) : Dev :=
  if d.isOpen (d.get F.HC_OWNER_OWNER) then d else { d with host := { d.host with ownerLost := d.now } }

/-- BAR2 reads of a closing context (R429): completed while the link is up, else dropped. -/
def Dev.dropReads (x : Nat) (d : Dev) : Dev :=
  let mine := d.cm.reads.filter fun r => r.ctx == x
  let d : Dev := { d with cm := { d.cm with reqs := d.cm.reqs.filter fun q => !(q.cls == 2 && q.ctx == x), reads := d.cm.reads.filter fun r => r.ctx ≠ x } }
  if d.on F.HC_PORT_LINK_UP (x / 4) then
    mine.foldl (fun d r => if r.dma.isSome then d else d.emit (.pointData x r.addr (r.vals.map fun (v : Option Nat) => v.getD 0xFFFFFFFF))) d
  else d

/-- A context becomes CLOSING (R429): cause 1 CLOSE, 2 Function Level Reset, 3 PERST, 4 link lost, 5 D3hot. Its reads outstanding are awaited
after CLOSE and abandoned for every other cause. -/
def Dev.closeCtx (cause x : Nat) (d : Dev) : Dev :=
  let wasOwner := d.isOpen x && d.get F.HC_OWNER_OWNER == x
  let d : Dev := (d.set F.HC_CTX_STAT_STATE 2 x).set F.HC_CTX_STAT_CAUSE cause x
  let d : Dev := if wasOwner then d.ownerCheck else d
  let d : Dev := d.each (d.dmaOf x) (Dev.dmaEnd 0 3)
  let d : Dev := ((d.dropWalks x).dropCache x).dropReads x
  let d : Dev := if cause = 1 then d else
    let d : Dev := d.each (List.range 32) fun n d => d.modDma n fun c => { c with late := c.late.filter (·.ctx ≠ x) }
    let d : Dev := ((d.set F.HC_MMU_CTL_MODE 0 x).set F.HC_MMU_ROOT_LO_ROOT_LO 0 x).set F.HC_MMU_ROOT_HI_ROOT_HI 0 x
    (d.set F.HC_MMU_INV_LO_INV_LO 0 x).set F.HC_MMU_INV_HI_INV_HI 0 x
  let d : Dev := ((d.set F.HC_IRQ_EN_EN 0 x).set F.HC_IRQ_STAT_STAT 0 x).flag F.FC_IRQ_EN false x |>.flag F.FC_IRQ_PENDING false x
  d.modCtx x fun c => { c with held := [], latch := none, low := none }

/-- The contexts of a port. -/
def portCtxs (p : Nat) : List Nat := (List.range 4).map (4 * p + ·)

/-- OPEN (R428): `mse` and `d0` are Memory Space Enable and power state D0, `timeout`, `maxRead` and `maxPayload` the Completion Timeout
Value, Max Read Request Size and Max Payload Size (R419, R422, R423) that the function's configuration space then holds. BUSY comes before ALREADY, ALREADY before
NOT_ENABLED (DESIGN CHOICE, log entry 147). -/
def open' (x : Nat) (mse d0 : Bool) (timeout maxRead maxPayload : Nat) (d : Dev) : Dev :=
  d.hostWrite x 0x10004 fun d =>
    let d : Dev := d.modCtx x fun c => { c with mse := mse, d0 := d0, cfg := { c.cfg with timeout := timeout, maxRead := maxRead, maxPayload := maxPayload } }
    let st := d.get F.HC_CTX_STAT_STATE x
    if st = 2 then d.set F.HC_CTX_CMD_RESULT 1
    else if st = 1 then d.set F.HC_CTX_CMD_RESULT 4
    else if !(mse && d0) then d.set F.HC_CTX_CMD_RESULT 3
    else (d.set F.HC_CTX_STAT_STATE 1 x).set F.HC_CTX_CMD_RESULT 0

/-- CLOSE (R429). -/
def close (x : Nat) (d : Dev) : Dev :=
  d.hostWrite x 0x10004 fun d =>
    let st := d.get F.HC_CTX_STAT_STATE x
    if st = 2 then d.set F.HC_CTX_CMD_RESULT 1
    else if st = 0 then d.set F.HC_CTX_CMD_RESULT 4
    else (d.closeCtx 1 x).set F.HC_CTX_CMD_RESULT 0

/-- Configuration space of a function at its reset values. -/
def Dev.resetConfig (x : Nat) (d : Dev) : Dev := d.modCtx x fun c => { c with cfg := .init x d.pins.devid, mse := false, bme := false, d0 := true, table := [] }

/-- FUNCTION_LEVEL_RESET (R429). -/
def functionLevelReset (x : Nat) (d : Dev) : Dev := (d.closeCtx 2 x).resetConfig x

/-- D3HOT_ENTRY (R429). -/
def d3hotEntry (x : Nat) (d : Dev) : Dev := (d.closeCtx 5 x).modCtx x fun c => { c with d0 := false }

/-- The condition of 0x15B or 0x15C (R442). -/
def Dev.refreshLink (p : Nat) (d : Dev) : Dev :=
  d.cond (0x15B + p) (nth d.host.everUp p false && (if p = 0 then d.pins.perstA else d.pins.perstB) && !d.on F.HC_PORT_LINK_UP p)

/-- A port is no longer in L0. -/
def Dev.linkDown (p : Nat) (d : Dev) : Dev :=
  if d.on F.HC_PORT_LINK_UP p then
    let d : Dev := (d.flag F.HC_PORT_LINK_UP false p).count F.HC_PORT_LINK_DOWNS p
    let d : Dev := { d with host := { d.host with downAt := setNth d.host.downAt p (some d.now) } }
    d.refreshLink p
  else d

/-- LINK_LEAVES_L0 (R442). -/
def linkLeavesL0 (p : Nat) (d : Dev) : Dev := d.linkDown p

/-- LINK_RECOVERY_TIMEOUT (R429): 2 ms without recovery. -/
def linkRecoveryTimeout (p : Nat) (d : Dev) : Dev :=
  match nth d.host.downAt p none with
  | some t =>
    if t + 1000000 ≤ d.now ∧ !d.on F.HC_PORT_LINK_UP p then
      ({ d with host := { d.host with downAt := setNth d.host.downAt p none } } : Dev).each (portCtxs p) (Dev.closeCtx 4)
    else d
  | none => d

/-- LINK_ENTERS_L0 (R429, R442, HC_PORT): speed code 1 to 4, width 1, 2 or 4. A recovery within 2 ms keeps the contexts OPEN. -/
def linkEntersL0 (p speed width : Nat) (d : Dev) : Dev :=
  let d : Dev := linkRecoveryTimeout p d
  if (if p = 0 then d.pins.perstA else d.pins.perstB) then
    let d : Dev := { d with host := { d.host with everUp := setNth d.host.everUp p true, downAt := setNth d.host.downAt p none } }
    (((d.flag F.HC_PORT_LINK_UP true p).set F.HC_PORT_SPEED speed p).set F.HC_PORT_WIDTH width p).refreshLink p
  else d

/-- PERST_LOW (R50, R429): the port and its contexts are reset. -/
def perstLow (p : Nat) (d : Dev) : Dev :=
  let d : Dev := { d with pins := if p = 0 then { d.pins with perstA := false } else { d.pins with perstB := false } }
  let d : Dev := d.linkDown p
  let d : Dev := { d with host := { d.host with downAt := setNth d.host.downAt p none } }
  let d : Dev := ((d.set F.HC_PORT_SPEED 0 p).set F.HC_PORT_WIDTH 0 p).refreshLink p
  d.each (portCtxs p) fun x d => ((d.closeCtx 3 x).resetConfig x).modCtx x fun c => { c with aer := 0 }

/-- PERST_RISE (R50): the port may train again. -/
def perstRise (p : Nat) (d : Dev) : Dev :=
  ({ d with pins := if p = 0 then { d.pins with perstA := true } else { d.pins with perstB := true } } : Dev).refreshLink p

/-- Whether a read of a context is still awaited, up to the completion timeout (R423, R429). -/
def Dev.awaits (d : Dev) (x : Nat) : Bool :=
  (List.range 32).any fun n => (d.dmaCh n).late.any fun r => r.ctx == x && !d.timedOut x r.since

/-- CONTEXT_CLOSED (R429): the last outstanding request has ended, timed out or been abandoned; no transfer channel of the context is still
stopping. -/
def contextClosed (x : Nat) (d : Dev) : Dev :=
  if d.get F.HC_CTX_STAT_STATE x = 2 ∧ (d.dmaOf x).isEmpty ∧ !d.awaits x then d.set F.HC_CTX_STAT_STATE 0 x else d

/-- BUS_MASTER_DISABLE (R430): walks end, the context's channels end IDLE with ABORTED and stay its own; they stop before the enable goes. -/
def busMasterDisable (x : Nat) (d : Dev) : Dev :=
  let d : Dev := (d.each (d.dmaOf x) (Dev.dmaEnd 1 2)).modCtx x fun c => { c with bme := false }
  (d.dropWalks x).dropCache x

/-- Send what a context may send now (R430, R440). -/
def Dev.sendHeld (x : Nat) (d : Dev) : Dev :=
  let c := d.ctx x
  if !c.bme then d
  else
    let go := c.held.filter fun v => !c.masked v
    (d.modCtx x fun c => { c with held := c.held.filter c.masked }).each go fun v d => d.emit (c.message x v)

/-- BUS_MASTER_ENABLE (R430). -/
def busMasterEnable (x : Nat) (d : Dev) : Dev := (d.modCtx x fun c => { c with bme := true }).sendHeld x

/-- Whether an access to BAR4 has the form the MSI-X capability requires (R422): one or two dwords, naturally aligned, whole (log entry 178). -/
def msixForm (off n : Nat) (full : Bool) : Bool := full && (n == 1 || n == 2) && off % (4 * n) == 0

/-- What a dword of the MSI-X table takes of a written value: an address is a multiple of 4, the vector control has the mask bit (log entry 178). -/
def msixWord (w v : Nat) : Nat := if w = 0 then v % 0x100000000 / 4 * 4 else if w = 3 then v % 2 else v % 0x100000000

/-- A write of dwords to BAR4 (R421, R422, R440): to the MSI-X table; a vector that it unmasks sends what it holds. The pending bit array
is read only. -/
def msixWrite (x off : Nat) (vals : List Nat) (full : Bool) (d : Dev) : Dev :=
  let n := vals.length
  if !msixForm off n full then d.refuse x false true 2 off
  else
    let put (t : List (Nat × Nat)) (i : Nat) : List (Nat × Nat) :=
      let k := off / 4 + i
      if k < 256 then tabSet t k (msixWord (k % 4) (nth vals i 0)) else t
    (d.modCtx x fun c => { c with table := (List.range n).foldl put c.table }).sendHeld x

/-- Dword k of BAR4 (R421): the table of 64 entries, the pending bit array at 0x2000, else 0. -/
def CtxSt.bar4 (c : CtxSt) (k : Nat) : Nat :=
  if k < 256 then c.entry (k / 4) (k % 4)
  else if k = 0x800 ∨ k = 0x801 then sumN ((List.range 32).map fun b => if c.held.contains (32 * (k - 0x800) + b) then 2 ^ b else 0)
  else 0

/-- A read of n dwords of BAR4 (R421, R422). -/
def msixRead (x off n : Nat) (d : Dev) : Dev :=
  if !msixForm off n true then
    (d.refuse x false false 2 off).each (List.range n) fun i d => d.emit (.msixData x (off + 4 * i) 0xFFFFFFFF)
  else d.each (List.range n) fun i d => d.emit (.msixData x (off + 4 * i) ((d.ctx x).bar4 (off / 4 + i)))

/-- PCIE_PORT_CONFIGURABLE (R49). -/
def pciePortConfigurable (p : Nat) (d : Dev) : Dev := d.flag (if p = 0 then F.GL_READY_HOST_A else F.GL_READY_HOST_B) true

/-- ROLE_WRITE (R426): the Owner gives another context Operator or Observer; everything else is refused with cause ROLE. -/
def roleWrite (x y role : Nat) (d : Dev) : Dev :=
  let off := 0x10100 + 0x40 * y
  d.hostWrite x off fun d =>
    if x = y ∨ (role ≠ 1 ∧ role ≠ 2) then d.refuse x false true 0 off else d.setKept F.HC_CTX_CFG_ROLE role y

/-- The Owner role moves (R426): three settings records. -/
def Dev.moveOwner (old new : Nat) (d : Dev) : Dev :=
  (((d.setKept F.HC_CTX_CFG_ROLE 0 new).setKept F.HC_CTX_CFG_ROLE 1 old).setKept F.HC_OWNER_OWNER new).ownerCheck

/-- GIVE (R426). -/
def give (x target : Nat) (d : Dev) : Dev :=
  d.hostWrite x 0x10008 fun d =>
    if !d.isOpen target then d.set F.HC_OWNER_RESULT 1
    else if target = x then d.set F.HC_OWNER_RESULT 2
    else (d.moveOwner x target).set F.HC_OWNER_RESULT 0

/-- CLAIM_OWNER (R426): by an Operator, after the Owner context has not been OPEN for CLAIM_WAIT seconds. -/
def claimOwner (x : Nat) (d : Dev) : Dev :=
  d.hostWrite x 0x1000C fun d =>
    let owner := d.get F.HC_OWNER_OWNER
    let wait := d.get F.HC_OWNER_CLAIM_WAIT
    if wait = 0 then d.set F.HC_CLAIM_RESULT 1
    else if d.isOpen owner || decide (d.now < d.host.ownerLost + 500000000 * wait) then d.set F.HC_CLAIM_RESULT 2
    else (d.moveOwner owner x).set F.HC_CLAIM_RESULT 0

/-- A write to a register of a context's own entry (R425). -/
def Dev.ownWrite (x y off : Nat) (f : Dev → Dev) (d : Dev) : Dev :=
  d.hostWrite x off fun d => if x = y then f d else d.refuse x false true 0 off

/-- MODE of a context takes a value; a change invalidates (R435). -/
def Dev.setMmuMode (y v : Nat) (d : Dev) : Dev :=
  if d.get F.HC_MMU_CTL_MODE y = v % 4 then d else (d.set F.HC_MMU_CTL_MODE v y).rerooted y

/-- MMU_CONFIG_WRITE (R434, R435): MODE, of which a change invalidates, or both words of the root. -/
def mmuConfigWrite (x y : Nat) (root : Bool) (v : Nat) (d : Dev) : Dev :=
  d.ownWrite x y (if root then 0x10114 + 0x40 * y else 0x10110 + 0x40 * y) fun d =>
    if root then
      ((d.set F.HC_MMU_ROOT_LO_ROOT_LO (v % 0x100000000 / 0x1000 * 0x1000) y).set F.HC_MMU_ROOT_HI_ROOT_HI (v / 0x100000000) y).rerooted y
    else d.setMmuMode y v

/-- Start an invalidation (R437): entries cached so far are old. -/
def Dev.startInv (y : Nat) (page : Option Nat) (d : Dev) : Dev :=
  if d.on F.HC_MMU_CTL_BUSY y then d
  else
    let hit (e : TransEntry) : Bool := e.ctx == y && (match page with | some p => e.page == p | none => true)
    ({ d with host := { d.host with cache := d.host.cache.map fun e => if hit e then { e with old := true } else e } } : Dev).flag F.HC_MMU_CTL_BUSY true y

/-- The page that HC_MMU_INV of a context names. -/
def Dev.invPageNo (d : Dev) (y : Nat) : Nat := d.get F.HC_MMU_INV_LO_INV_LO y / 0x10000 + 0x10000 * d.get F.HC_MMU_INV_HI_INV_HI y

/-- INV_ALL and INV_PAGE (R437). -/
def invAll (x y : Nat) (d : Dev) : Dev := d.ownWrite x y (0x10110 + 0x40 * y) (Dev.startInv y none)
def invPage (x y : Nat) (d : Dev) : Dev := d.ownWrite x y (0x10110 + 0x40 * y) fun d => d.startInv y (some (d.invPageNo y))

/-- Whether a burst of a context's channel is still issuing requests under an entry that an invalidation is to discard (R437). -/
def Dev.oldBurst (d : Dev) (y : Nat) : Bool :=
  match nth d.host.moving (y / 4) none with
  | none => false
  | some n =>
    let c := d.dmaCh n
    let page := ((d.active n).dst + c.pos) / 0x10000
    d.dmaOwner n == y && !(d.active n).toStore && d.dmaActive n && decide (0 < c.burst) && d.goesOn n &&
    d.host.cache.any fun e => e.ctx == y && e.page == page && e.old

/-- INVALIDATION_COMPLETE (R437): every entry cached before is discarded, once no burst that started with one issues requests. -/
def invalidationComplete (y : Nat) (d : Dev) : Dev :=
  if d.on F.HC_MMU_CTL_BUSY y && !d.oldBurst y then
    ({ d with host := { d.host with cache := d.host.cache.filter fun e => !(e.ctx == y && e.old) } } : Dev).flag F.HC_MMU_CTL_BUSY false y
  else d

/-- Channels that still wait for a walk. -/
def Dev.walkers (d : Dev) (w : PageWalk) : List Nat :=
  w.waiters.filter fun n => d.dmaOwner n == w.ctx && (d.dmaCh n).walking.any fun a => a.1 / 0x10000 == w.addr / 0x10000

/-- A walk ended with a translation (R435, R437): it is cached and the channels that waited try again. What a walk found that began before a
write of the root or MODE serves those channels' reads in this step alone. -/
def Dev.walkDone (w : PageWalk) (e : TransEntry) (d : Dev) : Dev :=
  let d : Dev := if w.old then { d with host := { d.host with cache := e :: d.host.cache } } else d.cacheAdd e
  let d : Dev := d.each (d.walkers w) Dev.dmaRetry
  let d : Dev := if w.old then { d with host := { d.host with cache := d.host.cache.erase e } } else d
  (d.retryWaiting (w.ctx / 4)).dmaShow (w.ctx / 4)

/-- A walk ended with a fault (R438, R459): the translation of every channel that waited faults, and the channel stops; a walk for which
no channel waits any more faults for the one that began it. -/
def Dev.walkFault (w : PageWalk) (cause : Nat) (d : Dev) : Dev :=
  let l := d.walkers w
  let d : Dev := if l.isEmpty then d.memFault w.ctx cause w.addr w.write else d
  d.each l fun n d =>
    let c := d.dmaCh n
    let a := c.walking.getD (w.addr, w.write)
    (d.memFault w.ctx cause a.1 a.2).dmaFault 4 (if c.flush || c.fetch || a.2 then c.pos else c.pos + c.held.length + c.asked) n

/-- TRANSLATION_WALK_COMPLETE (R436, R438): the table entry of the context's oldest walk is read; `status` 0 a value, 1 UR, CA
or poisoned, 2 timed out under R423. -/
def translationWalkComplete (x entry status : Nat) (d : Dev) : Dev :=
  match d.host.walks.find? (·.ctx == x) with
  | none => d
  | some w =>
    let gone : Dev := { d with host := { d.host with walks := d.host.walks.filter (· ≠ w) } }
    if status = 1 then gone.walkFault w 6
    else if status ≠ 0 then (if d.timedOut x w.since then gone.walkFault w 7 else d)
    else if w.level = 1 then
      if entry % 2 = 0 then gone.walkFault w 2
      else if entry / 2 % 0x800 ≠ 0 then gone.walkFault w 5
      else
        let d : Dev := { d with host := { d.host with walks := d.host.walks.map fun v => if v = w then { v with level := 2, since := d.now } else v } }
        d.emit (.hostRead x (entry / 0x1000 * 0x1000 + 8 * (w.addr / 0x10000 % 0x10000)) 0 8)
    else if entry % 2 = 0 then gone.walkFault w 3
    else if entry / 0x20 % 0x800 ≠ 0 then gone.walkFault w 5
    else
      gone.walkDone w { ctx := x, page := w.addr / 0x10000, bus := entry / 0x10000 * 0x10000, rd := testBit entry 1, wr := testBit entry 2,
                        attr := entry / 8 % 4, old := false }

end Sys2Proof.Machine
end

