-- ==== Sys2Proof/Machine/TimeBase.lean ====
section
/-! DEFINITION. The commands of the time base (R328 to R351). Offsets are in 1/64 ns, the size of a phase step (R330). -/

namespace Sys2Proof.Machine

/-- PPS_TRACE (R351). -/
def Dev.refreshTrace (d : Dev) : Dev := d.flag F.TB_STATUS_PPS_TRACE (!d.on F.TB_STATUS_TIME_SUSPECT && !d.on F.TB_STATUS_SV_SUSPECT)

/-- The servo takes a state (R337, R341, R439): PTP is ready in LOCKED only, SV_SUSPECT is set in FREERUN. -/
def Dev.setServo (st : Nat) (d : Dev) : Dev :=
  let old := d.get F.TB_SERVO_STATE
  let d : Dev := if old = 3 ∧ st ≠ 3 then (d.set F.TB_HOLD_SECONDS ((d.now - d.tb.holdAt) / 500000000)).cond 0x14E false else d
  let d : Dev := if old = 2 ∧ st ≠ 2 then { d with tb := { d.tb with lockEnd := d.now } } else d
  let d : Dev := if st = 2 ∧ old ≠ 2 then { d with tb := { d.tb with everLocked := true, freqHist := [(d.now, d.getI F.TB_FREQ_FREQ)] } } else d
  let d : Dev := (d.set F.TB_SERVO_STATE st).flag F.GL_READY_PTP (st == 2)
  let d : Dev := if st = 0 then d.flag F.TB_STATUS_SV_SUSPECT true else d
  let d : Dev := if st = 1 then d else d.flag F.TB_SERVO_DEFERRED false
  if st = old then d.refreshTrace else (d.eventAll 9).refreshTrace

/-- SLEW_LEFT takes a value (R338): TB_SLEW_LEFT, SLEWING and the uniform rate, in 1/64 ns per second, follow. -/
def Dev.setSlew (v : Int) (d : Dev) : Dev :=
  let d : Dev := { d with tb := { d.tb with slew := v, slewRate := min (64 * d.tb.cfg.slewMax) (v.natAbs + 64) } }
  (d.setI F.TB_SLEW_LEFT_LEFT (truncDiv v 64)).flag F.TB_SERVO_SLEWING (v != 0)

/-- The count expected of a window of 1,024 REFCLK cycles, times 10^12 (R328): 51,200 at 10 MHz and 20,480 at 25 MHz, by the
REFCLK_SEL strap, times 1 + FREQ. -/
def Dev.pllExpected (d : Dev) : Int := (if d.pins.refSel then 20480 else 51200) * (1000000000000 + d.getI F.TB_FREQ_FREQ)

/-- Whether a window's count lies within n of the expected one, and its deviation as TB_PLL.DEV shows it, rounded (R328). -/
def Dev.pllWithin (d : Dev) (count n : Nat) : Bool := decide (((count : Int) * 1000000000000 - d.pllExpected).natAbs ≤ n * 1000000000000)
def Dev.pllDev (d : Dev) (count : Nat) : Int := sat16 (roundDiv ((count : Int) * 1000000000000 - d.pllExpected) 1000000000000)

/-- TB_PLL_LOCK (R328, R331, R332): the counts of four consecutive windows lie within ±2 of the expected one. The first lock since reset
sets device time to 0. -/
def tbPllLock (counts : List Nat) (d : Dev) : Dev :=
  if counts.length = 4 ∧ counts.all (d.pllWithin · 2) ∧ !d.on F.TB_STATUS_PLL_LOCKED then
    let first := !d.tb.everReady
    let d : Dev := if first then { d with clk := { d.clk with dev := 0 }, tb := { d.tb with everReady := true } } else d
    let d : Dev := d.setI F.TB_PLL_DEV (d.pllDev (nth counts 3 0))
    let d : Dev := ((d.flag F.TB_STATUS_PLL_LOCKED true).flag F.GL_READY_TIMEBASE true).cond 1 false
    let d : Dev := (d.flag F.TB_STATUS_TIME_SUSPECT true).flag F.TB_STATUS_SV_SUSPECT true
    d.setServo 0
  else d

/-- TB_PLL_LOCK_LOSS (R331): the count of one window, beyond ±16 of the expected one. -/
def tbPllLockLoss (count : Nat) (d : Dev) : Dev :=
  let dev := d.pllDev count
  let lost := !d.pllWithin count 16
  let d : Dev := d.setI F.TB_PLL_DEV dev
  if lost ∧ d.on F.TB_STATUS_PLL_LOCKED then
    let d : Dev := ((d.flag F.TB_STATUS_PLL_LOCKED false).flag F.TB_STATUS_PLL_LOST true).flag F.GL_READY_TIMEBASE false
    let d : Dev := (d.flag F.TB_STATUS_TIME_SUSPECT true).refreshTrace
    let d : Dev := if d.sb.params.ovEn then { d with sb := { d.sb with ovInvalid := some (d.sb.ovInvalid.getD d.now), ovRun := 0 } } else d
    (d.each (List.range 8) Dev.loseLpll).cond 1 true (dev.natAbs)
  else d

/-- A frequency is asked for (R329), saturated at ±100 ppm. -/
def Dev.askFreq (v : Int) (d : Dev) : Dev :=
  let w := clampI (-100000000) 100000000 v
  let d : Dev := if w = v then d else d.flag F.TB_SERVO_FREQ_SAT true
  { d with tb := { d.tb with freqWant := w } }

/-- The values of FREQ, newest first, that were in force at a tick or later. -/
def recentFreq (start : Nat) : List (Nat × Int) → List (Nat × Int)
  | [] => []
  | x :: r => x :: (if x.1 ≤ start then [] else recentFreq start r)

/-- FREQ_STEP (R329): at most ±200 ppb, at least 10 µs after the last. -/
def freqStep (d : Dev) : Dev :=
  let f := d.getI F.TB_FREQ_FREQ
  if f = d.tb.freqWant ∨ d.now < d.tb.freqAt + 5000 then d
  else
    let f' := f + clampI (-200000) 200000 (d.tb.freqWant - f)
    let hist := if d.get F.TB_SERVO_STATE = 2 then (d.now, f') :: recentFreq (d.now - 500000000 * d.tb.cfg.holdAvg) d.tb.freqHist else d.tb.freqHist
    ({ d with tb := { d.tb with freqAt := d.now, freqHist := hist } } : Dev).setI F.TB_FREQ_FREQ f'

/-- Ticks between the phase steps of a slew at a rate in 1/64 ns per second (R338): a uniform spacing, never below 64 (R330). -/
def slewSpacing (rate : Nat) : Nat := if rate = 0 then 64 else max 64 (500000000 / rate)

/-- PHASE_STEP (R330, R338): one step of 1/128 tick for a step's remainder first, else for SLEW_LEFT. -/
def phaseStep (d : Dev) : Dev :=
  let sign (x : Int) : Int := if 0 < x then 1 else -1
  if d.tb.stepPhase ≠ 0 then
    if d.now < d.tb.phaseAt + 64 then d
    else
      let s := sign d.tb.stepPhase
      let d : Dev := { d with clk := { d.clk with phase := d.clk.phase + s }, tb := { d.tb with stepPhase := d.tb.stepPhase - s, phaseAt := d.now } }
      d.flag F.TB_ADJ_CMD_BUSY (d.tb.stepPhase != 0)
  else if d.tb.slew ≠ 0 then
    if d.now < d.tb.phaseAt + slewSpacing d.tb.slewRate then d
    else
      let s := sign d.tb.slew
      let rate := d.tb.slewRate
      let d : Dev := { d with clk := { d.clk with phase := d.clk.phase + s }, tb := { d.tb with phaseAt := d.now } }
      let d : Dev := d.setSlew (d.tb.slew - s)
      { d with tb := { d.tb with slewRate := rate } }
  else d

/-- A timed output takes a level (R349): an edge is counted and leaves, `sub` 1/128 ticks after the tick. -/
def Dev.setTio (n : Nat) (level : Bool) (sub : Nat) (d : Dev) : Dev :=
  let t := nth d.tb.tios n .init
  if t.level = level then d
  else
    let d : Dev := { d with tb := { d.tb with tios := setNth d.tb.tios n { t with level := level } } }
    ((d.flag F.TB_TIO_W3_LEVEL_NOW level n).count F.TB_TIO_W3_EDGES n).emit (.edge n level sub)

/-- A pending command of a HOST output is carried out, at its sub-tick unless a step has passed over it (R350). -/
def Dev.firePending (n : Nat) (stepped : Bool) (d : Dev) : Dev :=
  let t := nth d.tb.tios n .init
  match t.pending with
  | some (_, sub, level) =>
    let d : Dev := { d with tb := { d.tb with tios := setNth d.tb.tios n { t with pending := none } } }
    (d.flag F.TB_TIO_W3_PENDING false n).setTio n level (if stepped then 0 else sub)
  | none => d

/-- A step of device time by `delta` in 1/64 ns (R337, R345): whole ticks at once, the rest as phase steps; the values of
openings move with it, their ticks do not (R63); pending edges passed over are made now (R350). -/
def Dev.stepTime (delta : Int) (d : Dev) : Dev :=
  let span : Int := 9223372036854775808000000000
  let ticks := delta / 128
  let old := d.ct
  let d : Dev := { d with clk := { d.clk with dev := (((d.clk.dev : Int) + ticks) % span).toNat } }
  let move (a : Nat) : Nat := (((a : Int) + ticks) % 0x1000000000000).toNat
  let d : Dev := { d with
    grps := d.grps.map fun h => { h with opening := move h.opening }
    tb := { d.tb with stepPhase := delta % 128, steps := ((d.now, ticks, d.get F.TB_STATUS_STEPS) :: d.tb.steps).take 4 } }
  let d : Dev := d.flag F.TB_ADJ_CMD_BUSY (delta % 128 != 0)
  let d : Dev := (d.set F.TB_STATUS_STEPS ((d.get F.TB_STATUS_STEPS + 1) % 4)).flag F.TB_STATUS_TIME_SUSPECT false
  let d : Dev := (d.setSlew 0).refreshTrace
  if 0 < ticks then
    d.each (List.range 8) fun n d => match (nth d.tb.tios n .init).pending with
      | some (t, _, _) => if ((t : Int) - old) % 0x1000000000000 ≤ ticks then d.firePending n true else d
      | none => d
  else d

/-- A port's state changes. -/
def Dev.modPtp (p : Nat) (f : PtpSt → PtpSt) (d : Dev) : Dev :=
  { d with tb := { d.tb with ports := setNth d.tb.ports p (f (nth d.tb.ports p .init)) } }

/-- PTP_OFFSET (R336 to R342): a valid offset from port p in SLAVE with a mean path delay. `theta` is device minus master over a symmetric
path, in 1/64 ns; the port's delayAsymmetry (1/16 ns) is taken off it, as IEEE 1588 defines it. -/
def ptpOffset (p : Nat) (theta : Int) (d : Dev) : Dev :=
  let cfg := d.tb.cfg
  let theta := theta - 4 * nth cfg.asym p 0
  if d.get F.TB_PTP_PORT_W0_STATE p ≠ 9 ∨ (nth d.tb.ports p .init).delays.isEmpty ∨ !d.ready F.GL_READY_TIMEBASE then d
  else
    let beyond (ns : Nat) : Bool := decide (64 * ns < theta.natAbs)
    let d : Dev := d.modPtp p fun q => { q with syncAt := d.now }
    let d : Dev := (d.setI F.TB_OFFSET_OFFSET (clampI (-0x80000000) 0x7FFFFFFF (truncDiv theta 64))).set F.TB_SERVO_SLAVE_PORT p
    let d : Dev := if beyond cfg.offsetFault then (d.raise 0x14C (toField 32 (truncDiv theta 64))).flag F.TB_SERVO_OFFSET_RAISED true else d
    if cfg.host then d
    else
      let st := d.get F.TB_SERVO_STATE
      let st := if st = 0 ∨ st = 3 then 1 else if st = 2 ∧ beyond cfg.unlockThresh then 1 else st
      let run := if st ≠ 1 ∨ beyond cfg.lockThresh then 0 else if d.get F.TB_SERVO_STATE = 1 then d.tb.lockRun + 1 else 1
      let d : Dev := d.setServo st
      let d : Dev := { d with tb := { d.tb with lockRun := run } }
      let d : Dev := if !beyond cfg.svTol then d.flag F.TB_STATUS_SV_SUSPECT false
        else if st = 1 then d.flag F.TB_STATUS_SV_SUSPECT true else d
      let d : Dev := d.refreshTrace
      let wants := st == 1 && beyond cfg.stepThresh
      let d : Dev := d.flag F.TB_SERVO_DEFERRED (wants && d.anyDeblocked)
      let d : Dev :=
        if wants && !d.anyDeblocked then d.stepTime (-theta)
        else (d.setSlew (-theta)).askFreq (d.tb.freqWant + clampI (-200000) 200000 (roundDiv (-(cfg.kiF : Int) * theta) 64))
      if st = 1 ∧ cfg.lockCount ≤ run then ({ d with tb := { d.tb with lockRun := 0 } } : Dev).setServo 2 else d

/-- Mean of FREQ over the last HOLD_AVG seconds of LOCKED (R340), each value weighted by the ticks it held. -/
def meanFreq (start : Nat) : Nat → List (Nat × Int) → Int × Nat
  | _, [] => (0, 0)
  | till, (t, v) :: r =>
    if till ≤ start then (0, 0)
    else
      let from' := max t start
      let rest := meanFreq start from' r
      (rest.1 + v * (till - from' : Nat), rest.2 + (till - from'))

/-- A log2 interval of a profile in ticks (R335): seconds for an Announce, 1/16 s for a Sync. -/
def announceTicks (c : TimeCfg) : Nat := 500000000 * 2 ^ c.announceLog.toNat
def syncTicks (c : TimeCfg) : Nat := 31250000 * 2 ^ (c.syncLog + 4).toNat

/-- Whether the master is lost (R337): the announce receipt timeout of the slave port has expired, or no Sync has come for SYNC_LOSS. -/
def Dev.masterGone (d : Dev) : Bool :=
  let q := nth d.tb.ports (d.get F.TB_SERVO_SLAVE_PORT) .init
  decide (q.annAt + d.tb.cfg.receiptTimeout * announceTicks d.tb.cfg ≤ d.now) || decide (q.syncAt + 500000000 * d.tb.cfg.syncLoss ≤ d.now)

/-- MASTER_LOST (R337, R340, R342). FREQ goes to the mean under R329: at once where one step reaches it. No phase step follows, neither of
SLEW_LEFT nor of a step's remainder. -/
def masterLost (d : Dev) : Dev :=
  let st := d.get F.TB_SERVO_STATE
  if (st ≠ 1 ∧ st ≠ 2) ∨ d.masterGone = false then d
  else if st = 1 ∧ !d.tb.everLocked then ({ d with tb := { d.tb with lockRun := 0 } } : Dev).setServo 0
  else
    let till := if st = 2 then d.now else d.tb.lockEnd
    let m := meanFreq (till - 500000000 * d.tb.cfg.holdAvg) till d.tb.freqHist
    let d : Dev := if st = 2 then (d.raise 0x14D).flag F.TB_SERVO_HOLD_RAISED true else d
    let f := if m.2 = 0 then d.getI F.TB_FREQ_FREQ else roundDiv m.1 m.2
    let d : Dev := ({ d with tb := { d.tb with freqWant := f, lockRun := 0, holdAt := d.now, stepPhase := 0 } } : Dev).setSlew 0
    let d : Dev := d.flag F.TB_ADJ_CMD_BUSY false
    freqStep ((d.set F.TB_HOLD_SECONDS 0).setServo 3)

/-- HOLDOVER_LIMIT (R340, R342). -/
def holdoverLimit (d : Dev) : Dev :=
  if d.get F.TB_SERVO_STATE = 3 ∧ d.tb.holdAt + 500000000 * d.tb.cfg.holdMax ≤ d.now then (d.cond 0x14E true).flag F.TB_SERVO_HOLD_RAISED true else d

/-- HOLDOVER_SV (R341). -/
def holdoverSv (d : Dev) : Dev :=
  if d.get F.TB_SERVO_STATE = 3 ∧ d.tb.holdAt + 500000000 * d.tb.cfg.holdSv ≤ d.now then (d.flag F.TB_STATUS_SV_SUSPECT true).refreshTrace else d

/-- An event message enters a port's stamp queue (R346). -/
def Dev.stampPtp (p : Nat) (s : Stamp) (d : Dev) : Dev :=
  let q := nth d.tb.ports p .init
  if 4 ≤ s.typ then d
  else if 64 ≤ q.queue.length then d.count F.TB_PTP_PORT_W0_QLOST p
  else { d with tb := { d.tb with ports := setNth d.tb.ports p { q with queue := q.queue ++ [s] } } }

/-- Whether the profile measures delays peer to peer (R335). -/
def peerDelay (c : TimeCfg) : Bool := c.profile != 0

/-- Whether a port in a portState of IEEE 1588 sends a messageType (R334): Sync 0, Announce 11 and, with E2E, Delay_Resp 9 as MASTER;
Delay_Req 1 with E2E as UNCALIBRATED or SLAVE; with P2P Pdelay_Req 2 and Pdelay_Resp 3 in every working state. Follow_Up,
Pdelay_Resp_Follow_Up, signaling and management messages are never sent. -/
def portSends (c : TimeCfg) (state typ : Nat) : Bool :=
  if typ = 0 ∨ typ = 11 then state == 6
  else if typ = 9 then !peerDelay c && state == 6
  else if typ = 1 then !peerDelay c && (state == 8 || state == 9)
  else if typ = 2 ∨ typ = 3 then peerDelay c && decide (4 ≤ state) else false

/-- Ticks between two messages of a type that a port sends on its own (R335): 0 where the profile gives none. -/
def sendInterval (c : TimeCfg) (typ : Nat) : Nat :=
  if typ = 0 then syncTicks c else if typ = 11 then announceTicks c else if typ = 2 ∧ c.profile = 2 then 500000000 else 0

/-- Destination address of a messageType (R335). -/
def ptpDst (typ : Nat) : Nat := if typ = 2 ∨ typ = 3 then 0x0180C200000E else 0x011B19000000

/-- clockClass of the device (R335). -/
def ptpClass (c : TimeCfg) : Nat := if c.slaveOnly then 255 else c.clockClass

/-- A message leaves a port: its stamp is queued (R346), and for a Pdelay_Resp the residence time since its request is added to
correctionField (R336). -/
def Dev.sendPtp (p typ stamp seqId residence : Nat) (d : Dev) : Dev :=
  let c := d.tb.cfg
  let d : Dev := d.modPtp p fun q => { q with sentAt := tabSet q.sentAt typ d.now }
  (d.stampPtp p ⟨stamp, true, typ, seqId⟩).emit (.ptp ⟨p, typ, stamp, seqId, ptpDst typ, c.domain, residence, c.priority1, c.priority2, ptpClass c⟩)

/-- PTP_MESSAGE_SEND (R334 to R336, R346): with its stamp at the balls in 2^-16 ns, one-step where the message carries it. An answer goes
to the oldest request of its kind; a message before the profile's interval is over is not sent (log entry 175). -/
def ptpMessageSend (p typ stamp : Nat) (d : Dev) : Dev :=
  let q := nth d.tb.ports p .init
  let due := match tabGet q.sentAt typ with
    | some t => decide (t + sendInterval d.tb.cfg typ ≤ d.now)
    | none => true
  if !portSends d.tb.cfg (d.get F.TB_PTP_PORT_W0_STATE p) typ || !d.on F.SI_PORT_LINK p || !due then d
  else if typ = 3 ∨ typ = 9 then
    match q.asked.find? (·.1 == typ) with
    | none => d
    | some a => (d.modPtp p fun q => { q with asked := q.asked.erase a }).sendPtp p typ stamp a.2.1 (if typ = 3 then stamp - a.2.2 else 0)
  else
    let s := (tabD q.seqs typ 0xFFFF + 1) % 0x10000
    (d.modPtp p fun q => { q with seqs := tabSet q.seqs typ s }).sendPtp p typ stamp s 0

/-- A path delay measurement (R336): in 1/16 ns; one above three times the running mean is rejected and counted. -/
def Dev.pathDelay (p : Nat) (v : Int) (d : Dev) : Dev :=
  let q := nth d.tb.ports p .init
  if !q.delays.isEmpty ∧ 3 * meanI q.delays < v then d.count F.TB_PTP_PORT_W0_PD_REJECT p
  else
    let l := (v :: q.delays).take d.tb.cfg.pdAvg
    ({ d with tb := { d.tb with ports := setNth d.tb.ports p { q with delays := l } } } : Dev).setI F.TB_PTP_PORT_W1_MPD (meanI l) p

/-- PTP_MESSAGE_RECEIVED (R334, R336, R346, R387): a message with its stamp in 2^-16 ns; what the PTP engine makes of it under
IEEE 1588 comes with it: the portState the best master clock algorithm gives, whether the sender is two-step, a path delay
measured (log entry 11). Discarded on a port that is no PTP port or fenced, and on a FAULTY one; a signaling or management message, one of
another domain and one of the other delay mechanism without reply (R334). The stamp is that at the balls, the port's own latency taken off
it (R336). With SLAVE_ONLY no port becomes MASTER. -/
def ptpMessageReceived (p typ domain seqId stamp : Nat) (state : Option Nat) (twoStep : Bool) (delay : Option Int) (d : Dev) : Dev :=
  let st := d.get F.TB_PTP_PORT_W0_STATE p
  if st = 0 ∨ st = 2 ∨ !d.on F.SI_PORT_LINK p then d
  else
    let d : Dev := d.stampPtp p ⟨stamp, false, typ, seqId⟩
    let c := d.tb.cfg
    if typ = 12 ∨ typ = 13 ∨ domain ≠ c.domain ∨ (typ = 1 ∨ typ = 9) ∧ peerDelay c ∨ (typ = 2 ∨ typ = 3 ∨ typ = 10) ∧ peerDelay c = false then d
    else
      let d : Dev := d.flag F.TB_PTP_PORT_W0_PEER_TWO_STEP twoStep p
      let state := state.filter fun s => !(c.slaveOnly && (s == 5 || s == 6))
      let now := state.getD st
      let d : Dev := d.set F.TB_PTP_PORT_W0_STATE now p
      let d : Dev := if state = some 2 then d.cond (0x14F + p) true else d
      let d : Dev := d.modPtp p fun q => { q with
        annAt := if typ = 11 ∨ (now = 9 ∧ st ≠ 9) then d.now else q.annAt
        syncAt := if (typ = 0 ∧ now = 9) ∨ (now = 9 ∧ st ≠ 9) then d.now else q.syncAt
        asked := if typ = 1 ∧ now = 6 then q.asked ++ [(9, seqId, stamp)] else if typ = 2 then q.asked ++ [(3, seqId, stamp)] else q.asked }
      match delay with | some v => d.pathDelay p v | none => d

/-- The checks of R344 in the order of its table. -/
def Dev.adjCheck (d : Dev) (code : Nat) : Nat :=
  let ns := d.getI F.TB_ADJ_NS_NS
  let st := d.get F.TB_SERVO_STATE
  if d.on F.TB_ADJ_CMD_BUSY then 1
  else if (code = 1 ∨ code = 2) ∧ d.anyDeblocked then 3
  else if !d.tb.cfg.host ∧ (st = 1 ∨ st = 2) then 4
  else if (code = 1 ∧ 999999999 < d.get F.TB_ADJ_NS_NS) ∨ (code = 2 ∧ 0x7FFFFFFF < ns.natAbs) ∨ (code = 4 ∧ 100000000 < ns.natAbs) then 5
  else if !d.ready F.GL_READY_TIMEBASE then 6 else 0

/-- A command of TB_ADJ_CMD. -/
def Dev.adjCmd (x code : Nat) (f : Dev → Dev) (d : Dev) : Dev :=
  d.hostWrite x 0x30060 fun d =>
    let r := d.adjCheck code
    if r = 0 then f (d.set F.TB_ADJ_CMD_RESULT 0) else d.set F.TB_ADJ_CMD_RESULT r

/-- SET (R344, R345). -/
def setTime (x : Nat) (d : Dev) : Dev :=
  d.adjCmd x 1 fun d =>
    let target := 500000000 * d.get F.TB_ADJ_SEC_SEC + d.get F.TB_ADJ_NS_NS / 2
    d.stepTime (128 * ((target : Int) - d.clk.dev))

/-- STEP (R344, R345). -/
def stepNs (x : Nat) (d : Dev) : Dev := d.adjCmd x 2 fun d => d.stepTime (64 * d.getI F.TB_ADJ_NS_NS)

/-- SLEW (R344). -/
def slew (x : Nat) (d : Dev) : Dev := d.adjCmd x 3 fun d => d.setSlew (d.tb.slew + 64 * d.getI F.TB_ADJ_NS_NS)

/-- FREQ (R344). -/
def freq (x : Nat) (d : Dev) : Dev := d.adjCmd x 4 fun d => d.askFreq (d.getI F.TB_ADJ_NS_NS)

/-- Seconds, nanoseconds and fraction of a stamp in 2^-16 ns. -/
def stampSec (t : Nat) : Nat := t / 65536000000000
def stampNs (t : Nat) : Nat := t / 65536 % 1000000000

/-- The four words of TB_PTP_TSQ and of TB_EVT_FIFO. -/
def Stamp.tsq (s : Stamp) : List Nat :=
  [0x80000000 + 0x40000000 * bit s.tx + 0x1000000 * (s.typ % 16) + s.seqId % 0x10000, stampSec s.time % 0x100000000, stampNs s.time,
   stampSec s.time / 0x100000000 % 0x10000 * 0x10000 + s.time % 0x10000]
def Stamp.evt (s : Stamp) : List Nat :=
  [0x80000000 + 0x40000000 * bit s.tx + 0x10000000 * (s.typ % 4) + stampSec s.time / 0x100000000 % 0x10000,
   stampSec s.time % 0x100000000, stampNs s.time, s.time % 0x10000]

/-- STAMP_QUEUE_READ (R346). -/
def stampQueueRead (x p : Nat) (d : Dev) : Dev :=
  d.hostRead x (0x30200 + 0x10 * p) fun d =>
    let q := nth d.tb.ports p .init
    match q.queue with
    | [] => (d.modCtx x fun c => { c with tsqLatch := tabSet c.tsqLatch p [0, 0, 0, 0] }, 0)
    | s :: r =>
      let d : Dev := { d with tb := { d.tb with ports := setNth d.tb.ports p { q with queue := r } } }
      (d.modCtx x fun c => { c with tsqLatch := tabSet c.tsqLatch p s.tsq }, nth s.tsq 0 0)

/-- TIME_NOW_READ: TB_NOW_NS latches both seconds words for the reading context. -/
def timeNowRead (x : Nat) (d : Dev) : Dev :=
  d.hostRead x 0x30010 fun d =>
    (d.modCtx x fun c => { c with nowLatch := [d.sec % 0x100000000, d.sec / 0x100000000 % 0x100000000] }, d.ns)

/-- EVT_FIFO_READ (R347). -/
def evtFifoRead (x n : Nat) (d : Dev) : Dev :=
  d.hostRead x (0x30500 + 0x10 * n) fun d =>
    let q := nth d.tb.evts n .init
    match q.queue with
    | [] => (d.modCtx x fun c => { c with evtLatch := tabSet c.evtLatch n [0, 0, 0, 0] }, 0)
    | s :: r =>
      let d : Dev := { d with tb := { d.tb with evts := setNth d.tb.evts n { q with queue := r } } }
      ((d.set F.TB_EVT_STAT_FILL r.length n).modCtx x fun c => { c with evtLatch := tabSet c.evtLatch n s.evt }, nth s.evt 0 0)

/-- A time in 2^-16 ns at the 0.25 ns to which event inputs are interpolated (R347). -/
def quarterNs (t : Nat) : Nat := t / 16384 * 16384

/-- The steps of device time taken since an instant `ago` (in 2^-16 ns) before now, newest first. -/
def Dev.stepsSince (d : Dev) (ago : Nat) : List (Nat × Int × Nat) := d.tb.steps.filter fun s => decide (d.now * 131072 < s.1 * 131072 + ago)

/-- Device time `ago` before now, in 2^-16 ns, as it stood then; and STEPS then (R347). -/
def Dev.devBefore (d : Dev) (ago : Nat) : Nat := ((d.clk.dev * 131072 - ago : Int) - 131072 * sumI ((d.stepsSince ago).map (·.2.1))).toNat
def Dev.stepsBefore (d : Dev) (ago : Nat) : Nat := (((d.stepsSince ago).getLast?).map (·.2.2)).getD (d.get F.TB_STATUS_STEPS)

/-- An accepted edge is queued with STEPS as they stood at the edge (R347) and, when it rises, kept for the pulse source (R348). -/
def Dev.acceptEdge (n : Nat) (rising : Bool) (stamp steps : Nat) (d : Dev) : Dev :=
  let q := nth d.tb.evts n .init
  let q := { q with rises := if rising then (stamp :: q.rises).take 2 else q.rises }
  if 16 ≤ q.queue.length then
    ({ d with tb := { d.tb with evts := setNth d.tb.evts n q } } : Dev).count F.TB_EVT_STAT_OVERFLOW n
  else
    let q := { q with queue := q.queue ++ [⟨stamp, rising, steps, 0⟩] }
    ({ d with tb := { d.tb with evts := setNth d.tb.evts n q } } : Dev).set F.TB_EVT_STAT_FILL q.queue.length n

/-- Configuration of a timed output. -/
def Dev.tioCfg (d : Dev) (n : Nat) : TioCfg := nth d.tb.cfg.tios n ⟨0, 0, 0, 0, 0, 0⟩

/-- TIO_COMMAND (R350): a write of word 2. -/
def tioCommand (x n : Nat) (level : Bool) (sub tHi : Nat) (d : Dev) : Dev :=
  d.hostWrite x (0x30608 + 0x10 * n) fun d =>
    let s := nth d.tb.tios n .init
    let t := tHi * 0x100000000 + s.tlo
    let ahead := (((t : Int) - d.ct) % 0x1000000000000).toNat
    if (d.tioCfg n).mode ≠ 1 then d.set F.TB_TIO_W3_RESULT 2 n
    else if ahead = 0 ∨ 0x800000000000 ≤ ahead then d.set F.TB_TIO_W3_RESULT 1 n
    else
      let d : Dev := if s.pending.isSome then d.count F.TB_TIO_W3_REPLACED n else d
      let d : Dev := { d with tb := { d.tb with tios := setNth d.tb.tios n { s with pending := some (t, sub, level) } } }
      (d.flag F.TB_TIO_W3_PENDING true n).set F.TB_TIO_W3_RESULT 0 n

/-- TIO_EDGE (R349, R350): the level an output has at this course time. After a step a PERIODIC output goes on with the first pulse that begins
at the step or later, and is low until then (log entry 175). -/
def tioEdge (n : Nat) (d : Dev) : Dev :=
  let c := d.tioCfg n
  if c.mode = 1 then
    match (nth d.tb.tios n .init).pending with
    | some (t, _, _) => if ((d.ct : Int) - t) % 0x1000000000000 < 0x800000000000 then d.firePending n false else d
    | none => d
  else if c.mode = 2 ∧ c.period ≠ 0 then
    let into := ((d.ct : Int) - c.start) % c.period
    d.setTio n (decide (into < c.width) && decide (c.start ≤ d.ct) && decide (((d.tb.steps.headD (0, 0, 0)).1 : Int) + into ≤ d.now)) 0
  else if c.mode = 3 then
    let h := d.grp c.group
    let l := halfUs h.cfg.cycle
    let since := d.now - h.openTick
    if h.started ∧ l ≠ 0 then d.setTio n (decide ((since + l - c.offset) % l < c.width) && (decide (c.offset ≤ since) || decide (h.k ≠ 0))) 0 else d
  else d.setTio n false 0

/-- Whether a second has had its edge, and the spans with one second more (R351). -/
def ppsHad (l : List (Nat × Nat)) (s : Nat) : Bool := l.any fun r => decide (r.1 ≤ s) && decide (s ≤ r.2)
def ppsMark (s : Nat) : List (Nat × Nat) → List (Nat × Nat)
  | (a, b) :: r => if s = b + 1 then (a, s) :: r else (s, s) :: (a, b) :: r
  | [] => [(s, s)]

/-- PPS_EDGE (R351): PPS_OUT (pin 8) rises once for each whole second of device time, never twice for one second, and falls PPS_WIDTH
later. -/
def ppsEdge (d : Dev) : Dev :=
  if !d.tb.everReady then d
  else if ppsHad d.tb.ppsSeen d.sec = false then
    ({ d with tb := { d.tb with ppsSeen := ppsMark d.sec d.tb.ppsSeen, ppsAt := d.now, ppsHigh := true } } : Dev).emit (.pin 8 1)
  else if d.tb.ppsHigh ∧ d.tb.ppsAt + msTicks d.tb.cfg.ppsWidth ≤ d.now then
    ({ d with tb := { d.tb with ppsHigh := false } } : Dev).emit (.pin 8 0)
  else d

end Sys2Proof.Machine
end

