-- ==== Sys2Proof/Machine/Intake.lean ====
section
/-! DEFINITION. The measurement intake (spec/12): sampled values, GOOSE in and out, local converters, calibration; and the
edges of EVT_IN (R347, R348), which start EVENT converters. Device time inside the intake is in 2^-16 ns (R8). -/

namespace Sys2Proof.Machine

/-- One tick and one microsecond in 2^-16 ns. -/
def tick16 : Nat := 131072
def us16 : Nat := 65536000

/-- The instant of a command in 2^-16 ns of device time: `sub` within the tick. -/
def Dev.stamp16 (d : Dev) (sub : Nat) : Nat := d.clk.dev * tick16 + sub % tick16

/-! Sampled values -/

/-- A value is usable (R308). -/
def valueOk (c : SvValCfg) (v : SvValue) : Bool :=
  (v.good || (v.questionable && c.qOk)) && (!v.test || c.testOk) && (!v.substituted || c.substOk)

/-- Ticks without a usable ASDU that make a subscription SILENT (R312): 1 ms or 4 / RATE. -/
def silence (c : SvSub) : Nat := max 500000 (if c.rate = 0 then 0 else (2000000000 + c.rate - 1) / c.rate)

/-- Whether an ASDU is synchronised: smpSynch 1 or 2 (R307), unless SV_SUSPECT makes it count as 0 (R341). -/
def Dev.synced (d : Dev) (u : SvAsdu) : Bool := (u.smpSynch == 1 || u.smpSynch == 2) && !d.on F.TB_STATUS_SV_SUSPECT

/-- Sample time of an ASDU accepted at `a` (R307). -/
def sampleTime (c : SvSub) (synced : Bool) (u : SvAsdu) (a : Nat) : Int :=
  if synced then
    let second : Nat := 65536000000000
    let s : Nat := a / second * second
    let t : Int := s + roundDiv (u.smpCnt * second : Nat) c.rate
    if (a : Int) < t then t - second else t
  else (a : Int) - (c.fixedDelay * us16 : Nat)

/-- Runs of equal usable values (R310). -/
def runsOf (cfg : List SvValCfg) (vals : List SvValue) (runs : List Nat) (last : List Int) : List Nat :=
  (List.range cfg.length).map fun n =>
    match vals[n]?, cfg[n]? with
    | some v, some c => if valueOk c v then (if v.value = nth last n 0 ∧ nth runs n 0 ≠ 0 then satInc 65535 (nth runs n 0) else 1) else nth runs n 0
    | _, _ => nth runs n 0
def lastOf (cfg : List SvValCfg) (vals : List SvValue) (last : List Int) : List Int :=
  (List.range cfg.length).map fun n =>
    match vals[n]?, cfg[n]? with
    | some v, some c => if valueOk c v then v.value else nth last n 0
    | _, _ => nth last n 0

/-- smpCnt values skipped between two ASDUs in turn (GAPS); an older one skips none. -/
def svGap (rate last cnt : Nat) : Nat :=
  let g := (cnt + rate - last - 1) % rate
  if 2 * g < rate then g else 0

/-- An ASDU of subscription s accepted at stamp a on a port (R305 to R308, R310, R312). -/
def Dev.asdu (s : Nat) (c : SvSub) (port a : Nat) (u : SvAsdu) (d : Dev) : Dev :=
  if c.rate ≤ u.smpCnt ∨ u.data.length < c.nval then d.count F.SI_SV_STAT_W1_REJECTED s
  else
    let data := u.data.take c.nval
    let v := d.sv s
    match v.samples.find? fun x => x.cnt == u.smpCnt && decide (a < x.accepted + 65536000000000) with
    | some x =>
      let d : Dev := d.count F.SI_SV_STAT_W1_DUPLICATE s
      if (x.vals.map fun y => (y.1, y.2.1)) = data.map (fun y => (y.value, y.quality)) then d else d.count F.SI_SV_STAT_W1_DISAGREE s
    | none =>
      let unsync := !d.synced u && c.syncReq
      let vals := (List.range c.nval).map fun n =>
          match data[n]? with
          | some y => (y.value, y.quality, !unsync && valueOk (nth c.vals n ⟨0, 0, false, false, false⟩) y)
          | none => (0, 0, false)
      let runs := if unsync then v.runs else runsOf c.vals data v.runs v.lastVal
      let smp : SvSample := ⟨a, sampleTime c (d.synced u) u a, u.smpCnt, port, !unsync, vals, runs⟩
      let gap := match v.samples.head? with
        | some x => svGap c.rate x.cnt u.smpCnt
        | none => 0
      let d : Dev := d.addTo F.SI_SV_STAT_W1_GAPS gap s
      let d : Dev := d.modSv s fun v => { v with
        samples := smp :: (v.samples.take 1 ++ (v.samples.drop 1).filter fun x => decide (a < x.accepted + 65536000000000)),
        silentAt := if unsync then v.silentAt else d.now + silence c, runs := runs,
        lastVal := if unsync then v.lastVal else lastOf c.vals data v.lastVal, lost := v.lost && unsync }
      if unsync then (if d.get F.SI_SV_STAT_W0_STATE s = 1 then d else d.set F.SI_SV_STAT_W0_STATE 3 s)
      else ((d.set F.SI_SV_STAT_W0_STATE 2 s).set F.SI_SV_STAT_W0_PORT port s).cond (0x160 + s) false

/-- ASDUs for a fenced subscription are discarded; a usable one ends the condition of its source all the same (R312, R387). -/
def Dev.svFenced (s : Nat) (c : SvSub) (mine : List SvAsdu) (d : Dev) : Dev :=
  if mine.any fun u => decide (u.smpCnt < c.rate) && decide (c.nval ≤ u.data.length) && (d.synced u || !c.syncReq) then
    (d.modSv s fun v => { v with silentAt := d.now + silence c, lost := false }).cond (0x160 + s) false
  else d

/-- A frame for one subscription: rejected whole where an ASDU's confRev differs (R304). -/
def Dev.svFor (port a : Nat) (fr : SvFrame) (d : Dev) (sc : Nat × SvSub) : Dev :=
  let c := sc.2
  let mine := fr.asdus.filter fun u => u.svId == c.svId
  if fr.mac ≠ c.mac ∨ fr.appid ≠ c.appid ∨ (c.vlan.isSome ∧ fr.vlan ≠ c.vlan) ∨ testBit c.ports port = false ∨ mine = [] then d
  else if mine.any (fun u => u.confRev != c.confRev) then d.flag F.SI_SV_STAT_W0_CONFREV_BAD true sc.1
  else if d.isFenced (0x160 + sc.1) then d.svFenced sc.1 c mine
  else mine.foldl (fun d u => d.asdu sc.1 c port a u) d

/-- Whether a frame may be taken from a station port (R302); otherwise it is counted or ignored. -/
def Dev.portTakes (port secLen : Nat) (badFcs : Bool) (f : Dev → Dev) (d : Dev) : Dev :=
  if !d.on F.SI_PORT_LINK port || !d.ready F.GL_READY_INTAKE then d
  else if badFcs then d.count F.SI_PORT_FCS_ERR port
  else if secLen ≠ 0 then d.count F.SI_PORT_SEC_REJ port
  else f d

/-- SV_FRAME_RECEIVED (R302 to R308); `sub` is the stamp within the tick, in 2^-16 ns. -/
def svFrameReceived (port : Nat) (fr : SvFrame) (sub : Nat) (d : Dev) : Dev :=
  d.portTakes port fr.secLen fr.badFcs fun d =>
    if fr.asdus = [] ∨ 8 < fr.asdus.length then d
    else d.si.streams.svs.foldl (fun d sc => d.svFor port (d.stamp16 sub) fr sc) d

/-- SV_SILENT (R312). -/
def svSilent (s : Nat) (d : Dev) : Dev :=
  match tabGet d.si.streams.svs s with
  | none => d
  | some _ => if (d.sv s).silentAt ≤ d.now then d.set F.SI_SV_STAT_W0_STATE 1 s else d

/-- SV_LOST (R312): SILENT without a break for LOST_TIME. -/
def svLost (s : Nat) (d : Dev) : Dev :=
  match tabGet d.si.streams.svs s with
  | none => d
  | some c =>
    if d.get F.SI_SV_STAT_W0_STATE s = 1 ∧ (d.sv s).lost = false ∧ (d.sv s).silentAt + msTicks c.lostTime ≤ d.now then
      (((d.modSv s fun v => { v with lost := true }).flag F.SI_SV_STAT_W0_LOST_RAISED true s).cond (0x160 + s) true)
    else d

/-- A line through two samples at O (R309), saturated to 32 bits. -/
def lineAt (o : Int) (p q : Int × Int) : Int :=
  if q.1 = p.1 then q.2 else satPu (roundDiv (p.2 * (q.1 - p.1) + (q.2 - p.2) * (o - p.1)) (q.1 - p.1).toNat)

/-- The latest of a list of (time, value), and the earliest. -/
def latest : List (Int × Int) → Option (Int × Int)
  | [] => none
  | x :: r => match latest r with | some y => if x.1 < y.1 then some y else some x | none => some x
def earliest : List (Int × Int) → Option (Int × Int)
  | [] => none
  | x :: r => match earliest r with | some y => if y.1 < x.1 then some y else some x | none => some x

/-- 3 / RATE in 2^-16 ns, up to the next whole one, since the two sample times are themselves held rounded (R307, R309). -/
def sampleGap (rate : Nat) : Int := if rate = 0 then 0 else ((3 * 65536000000000 + rate - 1) / rate : Nat)

/-- ALIGN of R309 for the usable samples of one value at O: code and value; `gap` is 3 / RATE, `extrap` EXTRAP_MAX. -/
def align (o gap extrap : Int) (l : List (Int × Int)) : Nat × Int :=
  let before := l.filter fun x => decide (x.1 ≤ o)
  let after := l.filter fun x => decide (o < x.1)
  let extrapolated :=
    match latest l with
    | none => (3, 0)
    | some q =>
      match latest (l.filter fun x => decide (x.1 < q.1)) with
      | none => (3, 0)
      | some p => if q.1 - p.1 ≤ gap ∧ o - q.1 ≤ extrap then (2, lineAt o p q) else (3, 0)
  match latest before, earliest after with
  | some p, some q => if q.1 - p.1 ≤ gap then (1, lineAt o p q) else extrapolated
  | _, _ => extrapolated

/-- The values of one subscription aligned for a group from the samples accepted before C (R303, R309 to R311); the registers show the lowest group of the mask. -/
def Dev.alignSub (g : Nat) (o : Int) (cut : Nat) (d : Dev) (sc : Nat × SvSub) : Dev :=
  let s := sc.1
  let c := sc.2
  let shown := ((List.range 4).find? (testBit c.groups)) == some g
  let smps := (d.sv s).samples.filter fun x => decide (x.accepted < cut)
  let newest := smps.head?
  let d : Dev := d.each (List.range c.nval) fun n d =>
    let cfg := nth c.vals n ⟨0, 0, false, false, false⟩
    let usable := smps.filterMap fun x => match x.vals[n]? with | some (y, _, true) => some (x.time, y) | _ => none
    let r := align o (sampleGap c.rate) (c.extrapMax * us16 : Nat) usable
    let v := d.sv s
    let frozen := decide (cfg.frozenN ≠ 0) && decide (cfg.frozenN ≤ nth ((newest.map (·.runs)).getD []) n 0)
    let valid := decide (r.1 ≠ 3) && !frozen && newest.any (·.usable) && !d.isFenced (0x160 + s)
    let key := 16 * g + n
    let out := if valid then r.2 else if cfg.subst = 0 then tabD v.lastGood key 0 else 0
    let d : Dev := d.modSv s fun v => { v with aligned := tabSet v.aligned key (r.1, valid, out), lastGood := if valid then tabSet v.lastGood key out else v.lastGood }
    if shown then
      let bad := match newest with | some x => !(nth x.vals n (0, 0, false)).2.2 | none => false
      let j := n
      (((((d.setI F.SI_SV_VAL_W0_VALUE out s j).set F.SI_SV_VAL_W1_ALIGN r.1 s j).flag F.SI_SV_VAL_W1_VALID valid s j).flag
        F.SI_SV_VAL_W1_FROZEN frozen s j).flag F.SI_SV_VAL_W1_QUAL_BAD bad s j)
    else d
  let age := match latest ((smps.filter (·.usable)).map fun x => (x.time, (0 : Int))) with
    | some q => toField 16 (clampI (-0x7FFF) 0x7FFF (truncDiv (o - q.1) 6553600))
    | none => 0x8000
  if shown then d.set F.SI_SV_STAT_W0_AGE age s else d

/-! GOOSE -/

/-- A mapped member takes effect (R314, R316): a TRIP member that becomes 1 and valid raises its source. -/
def Dev.giMember (vals : List GoValue) (d : Dev) (m : GoMember) : Dev :=
  let v := match vals[m.index]?, m.dbpos with
    | some (.boolean b), false => some b
    | some (.dbpos 2), true => some true
    | some (.dbpos 1), true => some false
    | _, _ => none
  match v with
  | none => d.giDefault m
  | some b =>
    let was := testBit d.si.gi m.bitNo && testBit d.si.giValid m.bitNo
    let d : Dev := d.setGi m.bitNo b true
    if m.trip && b && !was then d.raise (0x1C0 + m.bitNo) else d

/-- A message for one subscription (R313 to R315). One for a fenced subscription is discarded, but ends the loss (R387). -/
def Dev.gooseFor (port : Nat) (m : GooseMsg) (d : Dev) (sc : Nat × GoSub) : Dev :=
  let n := sc.1
  let c := sc.2
  if m.mac ≠ c.mac ∨ m.appid ≠ c.appid ∨ m.ident ≠ c.ident ∨ testBit c.ports port = false then d
  else if m.confRev ≠ c.confRev then d.flag F.SI_GO_SUB_CONFREV_BAD true n
  else if m.ndsCom || (m.test && !c.testOk) then d
  else if d.isFenced (0x180 + n) then
    ((d.modGoose n fun g => { g with deadline := d.now + msTicks (min m.tal c.talCap), lost := false }).flag F.SI_GO_SUB_LOST false n).cond (0x180 + n) false
  else
    let g := d.goose n
    let new := g.stNum ≠ some m.stNum
    let again := decide (g.sqNum < m.sqNum) || (g.sqNum == 0xFFFFFFFF && decide (m.sqNum ≤ 1))
    if !new && !again then d
    else
      let d : Dev := d.modGoose n fun _ => ⟨some m.stNum, m.sqNum, d.now + msTicks (min m.tal c.talCap), false⟩
      let d : Dev := ((d.set F.SI_GO_SUB_STNUM m.stNum n).flag F.SI_GO_SUB_LOST false n).cond (0x180 + n) false
      if new || g.lost then c.members.foldl (fun d x => d.giMember m.members x) d else d

/-- GOOSE_RECEIVED (R302, R313 to R316). -/
def gooseReceived (port : Nat) (m : GooseMsg) (d : Dev) : Dev :=
  d.portTakes port m.secLen m.badFcs fun d => d.si.streams.gos.foldl (fun d sc => d.gooseFor port m sc) d

/-- GOOSE_LOST (R315): the TAL of a subscription has expired. -/
def gooseLost (n : Nat) (d : Dev) : Dev :=
  match tabGet d.si.streams.gos n with
  | none => d
  | some c =>
    let g := d.goose n
    if g.lost = false ∧ g.deadline ≤ d.now then
      let d : Dev := c.members.foldl (fun d m => d.giDefault m) (d.modGoose n fun g => { g with lost := true })
      ((d.flag F.SI_GO_SUB_LOST true n).flag F.SI_GO_SUB_LOST_RAISED true n).cond (0x180 + n) true
    else d

/-- Value of a published item, and whether its function is ready (R317). -/
def Dev.pubValue (d : Dev) (it : PubItem) : Nat × Bool :=
  let grp := testBit (d.get F.GL_READY_GROUP) it.arg
  match it.item with
  | 1 => (d.gpMode it.arg, grp)
  | 2 => (d.get F.GP_MODE_DEBLOCKED it.arg, grp)
  | 3 => (d.get F.GP_MODE_DEGRADED it.arg, grp)
  | 4 => (bit d.fc.errLow, d.ready F.GL_READY_FAULTS)
  | 5 => (d.get F.FC_STATUS_SAFE_STATE, d.ready F.GL_READY_FAULTS)
  | 6 => (bit ((List.range 64).any fun c => d.groupOf c == some it.arg && d.underSafeBlock c), d.ready F.GL_READY_SAFETY)
  | 7 => (bit (d.on F.SB_STATUS_HOLD_1 && d.on F.SB_STATUS_HOLD_2), d.ready F.GL_READY_SAFETY)
  | 8 => (d.triplex, d.ready F.GL_READY_TRIPLEX)
  | 9 => (bit (testBit d.si.gi it.arg), true)
  | _ => (0, true)

/-- The dataset of a publication: each value, followed by its quality where one is published (0 good, 1 invalid, 2 test). -/
def Dev.dataset (d : Dev) (p : GoPub) : List Nat :=
  p.items.flatMap fun it =>
    let v := d.pubValue it
    if it.quality then [v.1, bit (!v.2) + 2 * d.get F.SI_GO_PUB_CTL_TEST] else [v.1]

/-- A message of publication n leaves (R318): its next transmission is an interval away, TAL is twice that. -/
def Dev.publish (n : Nat) (p : GoPub) (st sq interval : Nat) (items : List Nat) (d : Dev) : Dev :=
  let d : Dev := { d with si := { d.si with pubs := tabSet d.si.pubs n ⟨items, st, sq, d.now + interval, interval⟩ } }
  (d.emit (.goose n p st sq (2 * interval) (d.on F.SI_GO_PUB_CTL_TEST) items)).set F.SI_GO_PUB_STNUM st n

/-- GOOSE_PUB_EVALUATION (R318), at a course time that is a multiple of 2,500 ticks. -/
def goosePubEvaluation (d : Dev) : Dev :=
  if !d.ready F.GL_READY_INTAKE || d.ct % 2500 != 0 then d
  else d.si.streams.pubs.foldl (fun d np =>
    let s := tabD d.si.pubs np.1 .init
    let now := d.dataset np.2
    if s.last = [] then d.publish np.1 np.2 s.stNum s.sqNum (500 * np.2.minTime) now
    else if now = s.last then d
    else d.publish np.1 np.2 ((s.stNum + 1) % 0x100000000) 0 (500 * np.2.minTime) now) d

/-- GOOSE_RETRANSMIT (R318): intervals double up to MAX_TIME. -/
def gooseRetransmit (n : Nat) (d : Dev) : Dev :=
  match tabGet d.si.streams.pubs n with
  | none => d
  | some p =>
    let s := tabD d.si.pubs n .init
    if s.last = [] ∨ d.now < s.nextAt then d
    else d.publish n p s.stNum ((s.sqNum + 1) % 0x100000000) (min (2 * s.interval) (500 * p.maxTime)) s.last

/-- STATION_PORT_LINK_CHANGE (R302). -/
def stationPortLinkChange (port : Nat) (up : Bool) (d : Dev) : Dev := d.flag F.SI_PORT_LINK up port

/-! Local converters -/

/-- Configuration of a converter. -/
def Dev.lmCfg (d : Dev) (m : Nat) : LmCfg := nth d.si.streams.lms m .idle

/-- The pairs shown in LM_CAL take effect (R326). -/
def Dev.takeCal (m : Nat) (d : Dev) : Dev :=
  d.modLm m fun s => { s with inForce := (List.range 4).map fun g => (d.getI F.LM_CAL_OFS m g, d.get F.LM_CAL_GCORR m g) }

/-- Corrected code of a conversion and whether it clips (R322, R323). -/
def corrected (p : Int × Nat) (raw : Int) : Int × Bool :=
  let x := roundDiv ((16 * raw - p.1) * p.2) 524288
  (sat16 x, decide (sat16 x ≠ x) || decide (0x7FFF ≤ raw) || decide (raw ≤ -0x8000))

/-- The result word of R323; `marks` are bits 14 to 12. -/
def resultWord (code : Int) (marks entry gain m input : Nat) : Nat :=
  toField 16 code * 0x10000 + bit (marks == 0) * 0x8000 + marks % 8 * 0x1000 + entry % 16 * 0x100 + gain % 4 * 0x40 + m % 4 * 0x10 + input % 16

/-- The words of a converter's entries from `first` on become STALE (R323): the previous CODE with VALID 0. -/
def Dev.markStale (m : Nat) (d : Dev) (first : Nat := 0) : Dev :=
  d.each ((List.range 16).drop first) fun e d => d.set F.LM_RESULT_WORD (putBit (putBit (d.get F.LM_RESULT_WORD m e) 12 true) 15 false) m e

/-- Clocks after the trigger at which the result of entry e is ready: 10 after its last conversion (R320). -/
def readyClock (c : LmCfg) (e : Nat) : Nat := sumN ((c.entries.take (e + 1)).map fun x => x.acq + x.avg) + 9

/-- The intake cut-off C of a group's present cycle (R303). -/
def GroupHub.cutTick (h : GroupHub) : Nat := h.openTick + quarterUs h.cfg.dr - 250

/-- A converter entry as it stands: its word, and whether it is frozen (R323, R324). -/
def Dev.lmEntryNow (d : Dev) (m e : Nat) : Nat × Bool :=
  let n := (((d.lmCfg m).entries[e]?).map (·.frozenN)).getD 0
  (d.get F.LM_RESULT_WORD m e, n != 0 && decide (n ≤ nth (d.lm m).eqRuns e 0))

/-- From C on a group holds the converter results of its cycle (R303): those delivered before the tick of C; an entry of a CYCLE converter
of the group whose result for this opening has not come shows STALE (R323). -/
def Dev.latchLm (g : Nat) (d : Dev) : Dev :=
  let h := d.grp g
  if h.started && h.lmK != some h.k && decide (h.cutTick ≤ d.now) then
    let d : Dev := d.each ((List.range 4).filter fun m => (d.lmCfg m).trig == 0 && (d.lmCfg m).group == g && !(d.lmCfg m).entries.isEmpty) fun m d =>
      if (d.lm m).runAt < h.openTick then d.markStale m else if (d.lm m).running then d.markStale m (d.lm m).done else d
    d.modGrp g fun h => { h with lmK := some h.k, lmHeld := (List.range 64).map fun n => (n, d.lmEntryNow (n / 16) (n % 16)) }
  else d

/-- Every group past its C holds its results before they change. -/
def Dev.latchLms (d : Dev) : Dev := d.each (List.range 4) Dev.latchLm

/-- Start a run at a tick, or count an OVERRUN (R319). Where the converter calibrates or is not ready its results turn STALE. A converter
with no sequence runs none. -/
def Dev.startRun (m at' : Nat) (d : Dev) : Dev :=
  let d : Dev := d.latchLms
  let s := d.lm m
  if (d.lmCfg m).entries.isEmpty then d
  else if !d.ready F.GL_READY_LOCALMEAS || s.cal.isSome then d.markStale m
  else if s.running then d.count F.LM_STAT_OVERRUN m
  else
    let d : Dev := if (d.lmCfg m).trig = 0 then d else d.takeCal m
    (d.modLm m fun s => { s with running := true, runAt := at', done := 0 }).set F.LM_STAT_STATE 1 m

/-- LM_CYCLE_TRIGGER (R319): DELAY of 25 ns clocks after the opening, once for each opening. -/
def lmCycleTrigger (m : Nat) (d : Dev) : Dev :=
  let c := d.lmCfg m
  let h := d.grp c.group
  if c.trig = 0 ∧ h.started ∧ 25 * c.delay ≤ 2 * (d.now - h.openTick) ∧ (d.lm m).trigAt < h.openTick + 1 then
    (d.modLm m fun s => { s with trigAt := h.openTick + 1 }).startRun m d.now
  else d

/-- LM_RUN (R319): a write of 1 to LM_CMD.RUN. -/
def lmRun (x m : Nat) (d : Dev) : Dev :=
  d.hostWrite x (0x70008 + 0x100 * m) fun d => if (d.lmCfg m).trig = 2 ∧ d.ready F.GL_READY_LOCALMEAS then d.startRun m d.now else d

/-- The result of one entry from its raw conversions (R320, R322 to R324). -/
def Dev.lmEntry (m : Nat) (raws : List (List Int)) (d : Dev) (ie : Nat × LmEntry) : Dev :=
  let e := ie.2
  let s := d.lm m
  let cs := (nth raws ie.1 []).map (corrected (nth s.inForce e.gain (0, 0x8000)))
  if cs = [] then d
  else
    let code := meanI (cs.map (·.1))
    let same := decide (code = nth s.lastCodes ie.1 0) && decide (nth s.eqRuns ie.1 0 ≠ 0)
    let d : Dev := d.modLm m fun s => { s with
      lastCodes := (List.range 16).map (fun n => if n = ie.1 then code else nth s.lastCodes n 0),
      eqRuns := (List.range 16).map (fun n => if n = ie.1 then (if same then satInc 65535 (nth s.eqRuns n 0) else 1) else nth s.eqRuns n 0) }
    d.set F.LM_RESULT_WORD (resultWord code (2 * bit (cs.any (·.2))) ie.1 e.gain m e.input) m ie.1

/-- The entries of a run whose results are ready by now and not yet delivered (R320). -/
def Dev.readyEntries (d : Dev) (m : Nat) : List (Nat × LmEntry) :=
  let c := d.lmCfg m
  ((List.range c.entries.length).zip c.entries).filter fun ie =>
    decide ((d.lm m).done ≤ ie.1) && decide (25 * readyClock c ie.1 ≤ 2 * (d.now - (d.lm m).runAt))

/-- LM_RUN_COMPLETE (R320, R323): `raws` holds the run's raw conversions, entry by entry from entry 0. Every entry whose ready clock has come
delivers the rounded mean of its AVG conversions, and with the last entry the run ends. With another number of conversions than AVG for
one of them nothing is delivered (log entry 172). -/
def lmRunComplete (m : Nat) (raws : List (List Int)) (d : Dev) : Dev :=
  let d : Dev := d.latchLms
  let l := d.readyEntries m
  if (d.lm m).running && !l.isEmpty && l.all (fun ie => (nth raws ie.1 []).length == ie.2.avg) then
    let d : Dev := l.foldl (fun d ie => d.lmEntry m raws ie) d
    let n := (d.lm m).done + l.length
    if n < (d.lmCfg m).entries.length then d.modLm m fun s => { s with done := n }
    else ((d.modLm m fun s => { s with running := false, done := n }).set F.LM_STAT_STATE 0 m).count F.LM_STAT_RUNS m
  else d

/-- The tick of the first conversion-clock edge at least 100 ns after a stamp `ago` (in 2^-16 ns) before now, and not before now: clocks
of 25 ns on the multiples of 250 ticks of course time (R348). -/
def Dev.clockAfter (d : Dev) (ago : Nat) : Nat :=
  let wait := (100 * 65536 - ago + 65535) / 65536
  d.now + (((2 * d.ct + wait + 24) / 25 * 25 - 2 * d.ct) + 1) / 2

/-- EVT_EDGE (R319, R347, R348): the new level of EVT_IN n has held for `ago` (in 2^-16 ns), at least FILTER. The edge is stamped with its own
device time, and a rising one starts the EVENT converters of the line. -/
def evtEdge (n : Nat) (rising : Bool) (ago : Nat) (d : Dev) : Dev :=
  if ago < 131072 * d.get F.TB_EVT_CFG_FILTER n then d else
  let d : Dev := d.flag F.TB_EVT_STAT_LEVEL rising n
  if !testBit (d.get F.TB_EVT_CFG_EDGE n) (if rising then 0 else 1) then d
  else
    let edge := d.devBefore ago
    let stamp := quarterNs edge
    let d : Dev := d.acceptEdge n rising stamp (d.stepsBefore ago)
    if rising then d.each ((List.range 4).filter fun m => (d.lmCfg m).trig == 1 && (d.lmCfg m).evt == n) (fun m d => d.startRun m (d.clockAfter (ago + (edge - stamp)))) else d

/-- Outputs whose window holds a conversion before a change or among the S conversions from it on (R325), D = 2^decim. -/
def markedOutputs (s dd : Nat) : Nat := if s = 0 then 1 else (s + 2 * dd - 2) / dd

/-- The value of LM_CONT awaiting its edge takes effect at the edge (R325, R326). -/
def Dev.contApply (m w : Nat) (edge : Nat) (d : Dev) : Dev :=
  let s := d.lm m
  let dd := 2 ^ (w / 0x100 % 16)
  let settle := if w % 16 ≠ s.contNow % 16 then 16 else if w / 16 % 4 ≠ s.contNow / 16 % 4 then 8 else 0
  let d : Dev := d.takeCal m
  let d : Dev := d.modLm m fun s => { s with contNow := w, contNext := none, mark := markedOutputs settle dd, contAt := edge, contK := 0 }
  (d.set F.LM_CONT_T0_T0 (d.contT0 edge) m).set F.LM_CONT_N_N (d.contN m) m

/-- A change whose edge has come takes effect. -/
def Dev.contDue (m : Nat) (d : Dev) : Dev :=
  match (d.lm m).contNext with
  | some (w, e) => if e ≤ d.now then d.contApply m w e else d
  | none => d

/-- The RW fields of LM_CONT written with a word. -/
def Dev.putCont (m v : Nat) (d : Dev) : Dev :=
  match findReg regTable (0x7000C + 0x100 * m) with
  | some r => d.writeReg v r (0x7000C + 0x100 * m)
  | none => d

/-- LM_CONT_WRITE (R325), ignored on the converter of the overvoltage demand (R405). EN 0 withdraws the ring's source from the transfer engine
(R459). -/
def lmContWrite (x m v : Nat) (d : Dev) : Dev :=
  d.hostWrite x (0x7000C + 0x100 * m) fun d =>
    let d : Dev := d.contDue m
    if d.ovOwns m then d else
    let d : Dev := d.putCont m v
    if (d.lmCfg m).trig ≠ 3 then d
    else
      let d : Dev := d.modLm m fun s => { s with contNext := some (d.contWord m, d.nextEdge) }
      if d.on F.LM_CONT_EN m then d else d.withdraw (m + 1)

/-- The second-order decimation of 2D − 1 corrected conversions: weights 1 to D and back, over D² (R325). -/
def decimate (dd : Nat) (l : List Int) : Int :=
  roundDiv (sumI ((List.range l.length).map fun n => (min (n + 1) (2 * dd - 1 - n) : Nat) * nth l n 0)) (dd * dd)

/-- Clocks from the change of LM_CONT in force to output k after it: the 2D − 1 conversions of its window, D apart from output to output, and
the 9 clocks of conversion latency (R320, R325, R405). -/
def outputClock (k dd : Nat) : Nat := k * dd + (2 * dd - 1) + 9

/-- LM_CONT_OUTPUT (R325, R405): an output formed of the last 2D − 1 raw conversions goes to the ring and to the safety
overvoltage input. Before its window has been converted, or from another number of conversions, none is formed (log entry 172). -/
def lmContOutput (m : Nat) (raws : List Int) (d : Dev) : Dev :=
  let d : Dev := d.contDue m
  let c := d.lmCfg m
  let s := d.lm m
  let dd := 2 ^ (s.contNow / 0x100 % 16)
  if d.ovOwns m ∧ (s.cal.isSome ∨ !d.ready F.GL_READY_TIMEBASE) then d.ovOutput false false 0
  else if c.trig ≠ 3 ∨ !d.ready F.GL_READY_LOCALMEAS ∨ s.contNow / 0x10000 = 0 ∨ s.cal.isSome then d
  else if raws.length ≠ 2 * dd - 1 ∨ 2 * (d.now - s.contAt) < 25 * outputClock s.contK dd then d
  else
    let gain := s.contNow / 16 % 4
    let cs := raws.map (corrected (nth s.inForce gain (0, 0x8000)))
    let code := sat16 (decimate dd (cs.map (·.1)))
    let clip := cs.any (·.2)
    let marks := 2 * bit clip + 4 * bit (decide (0 < s.mark))
    let w := resultWord code marks 0 gain m (s.contNow % 16)
    let size := c.ringSize / 4
    let d : Dev := (d.set F.LM_RESULT_WORD w m 0).modLm m fun s => { s with ringN := s.ringN + 1, mark := s.mark - 1, contK := s.contK + 1 }
    let d : Dev := if size = 0 then d else d.pokeBytes (c.ringBase + 4 * (s.ringN % size)) (leBytes 4 w)
    let d : Dev := d.sourceGrew (m + 1)
    if d.sb.params.ovLm = m ∧ d.sb.params.ovAin = s.contNow % 16 then d.ovOutput clip (marks == 0) code else d

/-! Calibration -/

/-- The refusals of R327 in their order, with that of R405; 0 if none. `range` and `order` are the command's own. -/
def Dev.calCheck (d : Dev) (m : Nat) (range order : Bool) : Nat :=
  if d.on F.LM_CAL_CMD_BUSY then 1
  else if ((d.lmCfg m).trig = 0 ∧ d.gpMode (d.lmCfg m).group ≠ 0) ∨ (d.ovOwns m ∧ !d.allIsolated) then 2
  else if range then 3 else if order then 4
  else if !d.ready F.GL_READY_LOCALMEAS then 5 else 0

/-- A calibration command: refused with its code, or done. -/
def Dev.calCmd (x m : Nat) (range order : Bool) (f : Dev → Dev) (d : Dev) : Dev :=
  d.hostWrite x 0x70800 fun d =>
    let r := d.calCheck m range order
    let d : Dev := d.set F.LM_CAL_CMD_RESULT r
    if r ≠ 0 then d else f d

/-- A measuring step begins (R326): no sequence runs, results are STALE, the ring's source is withdrawn (R459), the overvoltage input is
invalid (R405). -/
def Dev.calStart (m step gain : Nat) (expect : Int) (d : Dev) : Dev :=
  let d : Dev := (d.latchLms.contDue m).modLm m fun s => { s with running := false, cal := some (step, gain, expect), due := some (d.now + 52000) }
  let d : Dev := if d.ovOwns m then { d with sb := { d.sb with ovInvalid := some (d.sb.ovInvalid.getD d.now), ovRun := 0 } } else d
  (((d.flag F.LM_CAL_CMD_BUSY true).set F.LM_STAT_STATE 2 m).markStale m).withdraw (m + 1)

/-- LM_CAL_ZERO and LM_CAL_FULL (R326, R327). -/
def lmCalZero (x m gain : Nat) (d : Dev) : Dev := d.calCmd x m false false (Dev.calStart m 1 gain 0)
def lmCalFull (x m gain : Nat) (expect : Int) (d : Dev) : Dev :=
  d.calCmd x m (decide (expect.natAbs < 8192)) false (Dev.calStart m 2 gain expect)

/-- A pair goes to LM_CAL with its settings record, and takes effect: at the next opening for CYCLE, at the next edge of
R325 for CONTINUOUS, with the next run else. -/
def Dev.storeCal (m g : Nat) (ofs : Int) (gc : Nat) (d : Dev) : Dev :=
  let d : Dev := ((d.contDue m).setI F.LM_CAL_OFS ofs m g).set F.LM_CAL_GCORR gc m g
  let d : Dev := d.journal (0x70840 + 16 * m + 4 * g) 0xFFFFFFFF (toField 16 ofs * 0x10000 + gc % 0x10000)
  if (d.lmCfg m).trig = 3 then d.modLm m fun s => { s with contNext := some (d.contWord m, d.nextEdge) } else d

/-- LM_CAL_STORE (R326): the pending values of the named gain. -/
def lmCalStore (x m gain : Nat) (d : Dev) : Dev :=
  let s := d.lm m
  let o := s.pendOfs.filter (·.1 == gain)
  let c := s.pendGc.filter (·.1 == gain)
  d.calCmd x m false (o.isNone && c.isNone) fun d =>
    let ofs := (o.map (·.2)).getD (d.getI F.LM_CAL_OFS m gain)
    let gc := (c.map (·.2)).getD (d.get F.LM_CAL_GCORR m gain)
    (d.modLm m fun s => { s with pendOfs := none, pendGc := none }).storeCal m gain ofs gc

/-- LM_CAL_FACTORY (R326): the factory trim of the device records. -/
def lmCalFactory (x m gain : Nat) (d : Dev) : Dev :=
  d.calCmd x m false false fun d =>
    let t := tabD d.store.calTrim (4 * m + gain) 0x8000
    d.storeCal m gain (ofField 16 (t / 0x10000)) (t % 0x10000)

/-- LM_CAL_STEP_COMPLETE (R326, R327): `total` is the sum of the 4,096 raw codes. A CONTINUOUS converter goes on from the next edge of R325 with
its filter cleared (log entry 172). -/
def lmCalStepComplete (m : Nat) (total : Int) (d : Dev) : Dev :=
  let s := d.lm m
  match s.cal, s.due with
  | some (step, gain, expect), some at' =>
    if d.now < at' then d
    else
      let mean := roundDiv total 256
      let d : Dev := (d.setI F.LM_CAL_MEAS_MEAN mean).modLm m fun s => { s with cal := none, due := none }
      let d : Dev := (d.flag F.LM_CAL_CMD_BUSY false).set F.LM_STAT_STATE 0 m
      let d : Dev := if (d.lmCfg m).trig = 3 then d.modLm m fun s => { s with contNext := some (d.contWord m, d.nextEdge) } else d
      if step = 1 then
        if 0x7FFF < mean.natAbs then d.set F.LM_CAL_CMD_RESULT 3
        else d.modLm m fun s => { s with pendOfs := some (gain, mean) }
      else
        let ofs := ((s.pendOfs.filter (·.1 == gain)).map (·.2)).getD (d.getI F.LM_CAL_OFS m gain)
        let den := total - 256 * ofs
        let num := expect * 134217728
        let gc := if den = 0 then 0 else if 0 < den then roundDiv num den.toNat else roundDiv (-num) (-den).toNat
        if gc < 29492 ∨ 36044 < gc then d.set F.LM_CAL_CMD_RESULT 3
        else d.modLm m fun s => { s with pendGc := some (gain, gc.toNat) }
  | _, _ => d

/-! Cut-off and start-up -/

/-- INTAKE_CUTOFF (R303, R309, R323): at C the streams of the group are aligned to the opening, and the converter results are held for D_R. -/
def intakeCutoff (g : Nat) (d : Dev) : Dev :=
  let h := d.grp g
  if !h.started then d
  else
    let c := h.cutTick
    let d : Dev := if d.now < c then d.elapse (c - d.now) else d
    let off : Int := (d.clk.dev : Int) - (d.now : Int)
    let o : Int := (off + h.openTick) * tick16
    let cut := ((off + c) * tick16).toNat
    ((d.si.streams.svs.filter fun sc => testBit sc.2.groups g).foldl (fun d sc => d.alignSub g o cut sc) d).latchLm g

/-- INTAKE_LOCALMEAS_DMA_READY (R49): the three bits are set; converters take the restored calibration and LM_CONT. -/
def intakeLocalmeasDmaReady (d : Dev) : Dev :=
  if d.get F.GL_START_KILN ≠ 0 then d
  else
    let d : Dev := ((d.flag F.GL_READY_INTAKE true).flag F.GL_READY_LOCALMEAS true).flag F.GL_READY_DMA true
    d.each (List.range 4) fun m d =>
      let d : Dev := d.takeCal m
      if (d.lmCfg m).trig = 3 then d.contApply m (d.contWord m) d.now else d

end Sys2Proof.Machine
end

