-- ==== Sys2Proof/Machine/Hub.lean ====
section
/-! DEFINITION. The hub's side of a group's cycle (spec/03, spec/04): tables in force, set-points and their sources, mode
commands, the cycle opening and the inputs of a cycle. -/

namespace Sys2Proof.Machine

def GroupHub.chopperOnly (h : GroupHub) : Bool := h.tiles.all fun t => t.2.type = .chopper

/-- The registers that show class L tables (PL_RANK_CFG, PL_DWELL_CFG, GP_SPSRC). -/
def Dev.showRank (t : Nat) (c : RankCfg) (d : Dev) : Dev :=
  let d : Dev := (d.set F.PL_RANK_CFG_REPORT_HOLD c.reportHold t).set F.PL_RANK_CFG_BAND c.band t
  let d : Dev := (d.set F.PL_RANK_CFG_ECHO_N c.echoN t).set F.PL_RANK_CFG_SWAP_MAX c.swapMax t
  let d : Dev := (d.set F.PL_DWELL_CFG_PULSE_MODE c.pulseMode t).flag F.PL_DWELL_CFG_DT_COMP c.dtComp t
  ((d.set F.PL_DWELL_CFG_T_DEAD c.tDead t).set F.PL_DWELL_CFG_T_MINP c.tMinp t).set F.PL_DWELL_CFG_T_DWELL c.tDwell t
def Dev.showBind (g : Nat) (binds : List SpBind) (d : Dev) (s : Nat) : Dev :=
  (d.flag F.GP_SPSRC_USED (decide (s < binds.length)) g s).set F.GP_SPSRC_WORD (((binds[s]?).map (·.word)).getD 0) g s
def Dev.showTables (g : Nat) (d : Dev) : Dev :=
  let h := d.grp g
  let d : Dev := h.tiles.foldl (fun d t => d.showRank t.1 (h.tables.rankOf t.1)) d
  (List.range 4).foldl (Dev.showBind g h.tables.fm.binds) d

/-! Per-brick tracking (R165) -/

/-- Present bricks of a group by number: those in service. -/
def Dev.groupBricks (d : Dev) (g : Nat) : List Nat :=
  (d.grp g).tiles.flatMap fun t => t.2.courses.flatMap fun c => ((List.range 128).filter fun p => d.entry c p == 5).map (128 * c + ·)

/-- Write one contract point of every present brick of a group, through the course manager. -/
def Dev.writeBricks (g index value : Nat) (d : Dev) : Dev :=
  d.each (d.groupBricks g) fun b d => (d.ask 2 8 0 0 true b index value).pump (b / 128)

/-- The tracking parameters in the brick's units: report LSB 2^-14 pu, the interval in ms. -/
def Dev.writeTracking (g : Nat) (d : Dev) : Dev :=
  let h := d.grp g
  let p := h.tables.cv.harv
  let lsb (x : Pu) : Nat := clampN 0xFFFF (roundDiv x 0x4000).toNat
  let ms := max 1 (roundDiv (p.trkDiv * h.cfg.div * halfUs h.cfg.cycle : Nat) 500000).toNat
  ((d.writeBricks g 0x41 (lsb p.trkStep)).writeBricks g 0x42 (lsb p.winHi * 0x10000 + lsb p.winLo)).writeBricks g 0x43 ms

/-! Set-points -/

/-- Range of a set-point word (R134); none for a word without one. -/
def spRange (c : GroupControl) : Nat → Option (Int × Int)
  | 0 => some (-c.loops.pLim, c.loops.pLim)
  | 1 => some (-c.loops.qLim, c.loops.qLim)
  | 2 => some (pu 4 5, pu 6 5)
  | 3 => some (one - c.sync.freqRange, one + c.sync.freqRange)
  | 4 => some (pu 4 5, pu 11 10)
  | 5 => some (0, 1)
  | 6 => some (0, 0)
  | 7 => some (0, 0)
  | _ => none

/-- A word lies within its range. -/
def spOk (c : GroupControl) (w v : Nat) : Bool :=
  match spRange c w with
  | some (lo, hi) => decide (lo ≤ puOfWord v) && decide (puOfWord v ≤ hi)
  | none => true

/-- A word saturated to its range (R84). -/
def spSat (c : GroupControl) (w v : Nat) : Nat :=
  match spRange c w with
  | some (lo, hi) => toField 32 (clampI lo hi (puOfWord v))
  | none => v

/-- The shadow set of a group (R81). -/
def Dev.spShadow (d : Dev) (g : Nat) : List Nat := (List.range 64).map fun w => d.get F.GP_SP_SHADOW_VALUE g w

/-- Lowest word outside its limits (R82); a bound word is not checked. -/
def Dev.badWord (d : Dev) (g : Nat) : Option Nat :=
  let t := (d.grp g).tables
  (List.range 64).find? fun w => !t.isBound w && !spOk t.ctl w (nth (d.spShadow g) w 0)

/-- Tick of the next opening of a built group (R61). -/
def GroupHub.nextOpen (h : GroupHub) : Nat := if h.started then h.openTick + halfUs h.cfg.cycle else h.anchor + halfUs h.cfg.phase
def GroupHub.nextK (h : GroupHub) : Nat := if h.started then h.k + 1 else 0

/-- From the tick of an opening on, a set and a command accepted at an earlier tick belong to it and are replaced no more (R83, R96). -/
def GroupHub.settleDue (now : Nat) (h : GroupHub) : GroupHub :=
  if now < h.nextOpen then h
  else
    let h := match h.spPending with
      | some (acc, tag, words) => if acc < h.nextOpen then { h with spPending := none, spDue := some (tag, words) } else h
      | none => h
    if h.cmd.isSome && decide (h.cmdTick < h.nextOpen) then { h with cmd := none, cmdDue := h.cmd } else h

/-- SETPOINT_COMMIT (R82): a write of a tag to GP_SP_COMMIT. -/
def setpointCommit (x g tag : Nat) (d : Dev) : Dev :=
  d.hostWrite x (0xA8200 + 0x400 * g) fun d =>
    let d : Dev := d.modGrp g (GroupHub.settleDue d.now)
    let h := d.grp g
    if !h.built then d.set F.GP_SP_STATUS_RESULT 2 g
    else match d.badWord g with
      | some w => (d.set F.GP_SP_STATUS_RESULT 1 g).set F.GP_SP_STATUS_BAD_WORD w g
      | none =>
        let d : Dev := if h.spPending.isSome then d.count F.GP_SP_STATUS_SUPERSEDED g else d
        let d : Dev := (d.modGrp g fun h => { h with spPending := some (d.now, tag, d.spShadow g) }).flag F.GP_SP_STATUS_PENDING true g
        d.set F.GP_SP_STATUS_RESULT 0 g

/-- The raw value of a source at an opening in 1/65536, none if it has none or no edge came within LOSS_TIME (R136, R137).
`openDev` is the opening in device time, in 2^-16 ns. -/
def Dev.rawOf (d : Dev) (b : SpBind) (s : SpSt) (openDev : Nat) : Option Int :=
  if !b.pulse then s.raw
  else match (nth d.tb.evts b.evt .init).rises.filter (· < openDev) with
    | last :: before :: _ =>
      if last + b.lossTime * 1000000 * 65536 < openDev ∨ last ≤ before then none
      else some (roundDiv (1000000000 * 65536 * 65536) (last - before))
    | _ => none

/-- The raw value is valid (R137). -/
def rawValid (b : SpBind) : Option Int → Bool
  | some r => decide (b.lossLo * 65536 ≤ r) && decide (r ≤ b.lossHi * 65536)
  | none => false

/-- A value saturated to the range of R134 of a word and the limits of R133 (R136). -/
def inRange (c : GroupControl) (w : Nat) (v : Pu) : Pu :=
  match spRange c w with
  | some (lo, hi) => clampI lo hi v
  | none => v

/-- The value of R136 for a raw one. -/
def intakeValue (b : SpBind) (raw : Int) : Pu :=
  satPu (b.spLo + roundDiv ((raw - b.rawLo * 65536) * (b.spHi - b.spLo)) (65536 * (b.rawHi - b.rawLo).toNat))

/-- A lost source has had RETURN_N valid openings: it is used again (R137). -/
def SpSt.back (b : SpBind) (s : SpSt) : SpSt :=
  if s.lost && decide (b.returnN ≤ s.run) then { s with lost := false, raised := false, fallback := false } else s

/-- One source at an opening (R136, R137): the intake value, that of LOSS_ACTION too, is saturated to the word's range. -/
def spAtOpening (c : GroupControl) (b : SpBind) (raw : Option Int) (now : Nat) (s : SpSt) : SpSt :=
  let s := s.back b
  let ok := rawValid b raw
  let run := if ok then satInc 255 s.run else 0
  if ok && !s.lost then { s with run := run, value := inRange c b.word (intakeValue b (raw.getD 0)) }
  else
    let since := if s.lost then s.since else now
    { s with lost := true, since := since, run := run, fallback := b.useFallback, value := inRange c b.word (if b.useFallback then b.fallback else s.value) }

/-- Whether LOSS_FAULT has run (R137). -/
def SpSt.faultDue (b : SpBind) (now : Nat) (s : SpSt) : Bool :=
  s.lost && !s.raised && decide (b.lossFault ≠ 0) && decide (s.since + msTicks b.lossFault ≤ now)

/-- Show a group's sources and their fault condition (GP_SPSRC). -/
def Dev.showSources (g : Nat) (d : Dev) : Dev :=
  let h := d.grp g
  let d : Dev := ((List.range h.spSrc.length).zip h.spSrc).foldl (fun d (p : Nat × SpSt) =>
    ((d.flag F.GP_SPSRC_LOST p.2.lost g p.1).flag F.GP_SPSRC_FALLBACK p.2.fallback g p.1).set F.GP_SPSRC_VALUE (reg12s p.2.value) g p.1) d
  d.cond (0xA1 + 8 * g) (h.spSrc.any (·.raised))

/-- Raise the faults of sources whose LOSS_FAULT has run. -/
def Dev.sourceFaults (g : Nat) (d : Dev) : Dev :=
  let h := d.grp g
  let due := (List.range h.spSrc.length).filter fun s => match h.tables.fm.binds[s]? with
    | some b => (nth h.spSrc s .init).faultDue b d.now
    | none => false
  let d : Dev := d.each due fun s d =>
    (d.modGrp g fun h => { h with spSrc := setNth h.spSrc s { nth h.spSrc s .init with raised := true } }).flag F.GP_SPSRC_RAISED true g s
  d.showSources g

/-- SETPOINT_SOURCE_LOSS (R137). -/
def setpointSourceLoss (g : Nat) (d : Dev) : Dev := if (d.grp g).built then d.sourceFaults g else d

/-- SETPOINT_SOURCE_RETURN (R137). -/
def setpointSourceReturn (g s : Nat) (d : Dev) : Dev :=
  let h := d.grp g
  match h.built, h.tables.fm.binds[s]? with
  | true, some b => (d.modGrp g fun h => { h with spSrc := setNth h.spSrc s ((nth h.spSrc s .init).back b) }).showSources g
  | _, _ => d

/-- The sources at an opening. -/
def Dev.sourcesAt (g : Nat) (openDev : Nat) (d : Dev) : Dev :=
  let h := d.grp g
  let binds := h.tables.fm.binds
  let l := (List.range (min 4 binds.length)).map fun i =>
    let b := nth binds i ⟨0, false, 0, 0, 0, 0, 0, 0, 0, 0, 0, 0, false, 0, 0, 0⟩
    let s := nth h.spSrc i .init
    spAtOpening h.tables.ctl b (d.rawOf b s openDev) d.now s
  (d.modGrp g fun h => { h with spSrc := l }).sourceFaults g

/-- The latch of the set-points at opening k (R83, R84, R135, R439). -/
def Dev.latchSp (g k : Nat) (d : Dev) : Dev :=
  let h := d.grp g
  let d : Dev := match h.spDue with
    | some (tag, words) =>
      let ws := (List.range 64).map fun w => if h.tables.isBound w then nth h.sp w 0 else spSat h.tables.ctl w (nth words w 0)
      let clamped := (List.range 64).any fun w => !h.tables.isBound w && nth ws w 0 != nth words w 0
      let d : Dev := d.modGrp g fun h => { h with spDue := none, sp := ws, spValid := true }
      let d : Dev := if clamped then d.flag F.GP_SP_STATUS_CLAMPED true g else d
      let d : Dev := (d.flag F.GP_SP_STATUS_PENDING h.spPending.isSome g).set F.GP_SP_STATUS_LATCHED_TAG tag g
      ((d.set F.GP_SP_LATCHED_CYCLE k g).flag F.GP_MODE_STATUS_SP_VALID true g).eventAll (5 + g)
    | none => d
  let d : Dev := d.modGrp g fun h =>
    { h with sp := (List.range 64).map fun w => match h.tables.fm.binds.findIdx? (·.word == w) with
        | some i => toField 32 (nth h.spSrc i .init).value
        | none => nth h.sp w 0 }
  d.each (List.range 64) fun w d => d.set F.GP_SP_ACTIVE_VALUE (nth (d.grp g).sp w 0) g w

/-! Mode commands -/

/-- A refused mode command (R100). -/
def Dev.refuseMode (g code tag : Nat) (d : Dev) : Dev :=
  ((d.set F.GP_MODE_STATUS_RESULT code g).set F.GP_MODE_STATUS_TAG tag g).count F.GP_REFUSALS_COUNT g

/-- An accepted mode command replaces a pending one, which is reported SUPERSEDED (R95, R99). -/
def Dev.takeMode (g : Nat) (c : ModeCmd) (d : Dev) : Dev :=
  let d : Dev := match (d.grp g).cmd with
    | some old => (d.set F.GP_MODE_STATUS_RESULT rSuperseded g).set F.GP_MODE_STATUS_TAG old.tag g
    | none => d
  (d.modGrp g fun h => { h with cmd := some c, cmdTick := d.now }).flag F.GP_MODE_STATUS_PENDING true g

/-- The mode GP_MODE shows. -/
def Dev.shownMode (d : Dev) (g : Nat) : Mode := (modeOfCode (d.gpMode g)).getD .isolated

/-- An ACTIVATE is being carried out: it leaves every group ISOLATED (R30), so that a group takes no mode command until it ends (log
entry 123). -/
def Dev.activating (d : Dev) : Bool := d.mo.run.any fun r => r.code == 3

/-- The outcome of the checks of R95 and R99 at the write: a refusal code, or whether the command is a cancel. The present mode as
TARGET with nothing pending is NO_TRANSITION, also while a fade runs (R99). -/
def Dev.modeChecks (d : Dev) (g target : Nat) : Except Nat Bool :=
  let h := d.grp g
  let mode := d.shownMode g
  let pending := h.cmd.isSome
  if !h.built || !testBit (d.get F.GL_READY_GROUP) g || d.activating then .error rNotReady
  else if target == modeCode mode then (if pending then .ok true else .error rNoTransition)
  else if (pending || d.on F.GP_MODE_FADING g) && target != 2 then .error rBusy
  else match transitionCheck h.chopperOnly h.mode mode target with
    | some code => .error code
    | none => .ok false

/-- MODE_COMMAND (R95, R99, R100): a write to GP_MODE_CMD. -/
def modeCommand (x g target tag : Nat) (d : Dev) : Dev :=
  d.hostWrite x (0xA0004 + 0x100 * g) fun d =>
    let d : Dev := d.modGrp g (GroupHub.settleDue d.now)
    match d.modeChecks g target with
    | .error code => d.refuseMode g code tag
    | .ok cancel => d.takeMode g ⟨target, tag, cancel⟩

/-- The control state of the group that the registers show: that of the reporting channel. -/
def Dev.shownCtl (d : Dev) (g : Nat) : GridSt := (nth (d.chan ((d.reporting).getD 0)).grps g .init).ctl

/-- HARVEST_SCAN (R164, R165): a write of 1 to GP_HARVEST_CMD.SCAN. -/
def harvestScan (x g : Nat) (d : Dev) : Dev :=
  d.hostWrite x (0xA4054 + 0x100 * g) fun d =>
    let h := d.grp g
    let s := d.shownCtl g
    let code := if s.harv.frozen = false ∧ d.gpMode g ≠ 7 then 1 else scanRefusal s
    let d : Dev := d.set F.GP_HARVEST_CMD_RESULT code g
    if code ≠ 0 then d
    else if h.tables.cv.harv.perBrick then d.writeBricks g 0x40 1
    else d.modGrp g fun h => { h with scan := true }

/-! The opening -/

/-- Course time at a tick, and device time in 2^-16 ns. -/
def Dev.ctAt (d : Dev) (t : Nat) : Nat := (((d.clk.dev : Int) - d.now + t) % 0x1000000000000).toNat
def Dev.devAt (d : Dev) (t : Nat) : Nat := ((d.clk.dev : Int) - d.now + t).toNat * tick16

/-- Time passes to a tick, if it lies ahead. -/
def Dev.until' (t : Nat) (d : Dev) : Dev := if d.now < t then d.elapse (t - d.now) else d

/-- A live table takes effect at an opening (R34): the exchange is DONE with its last group. The device-wide part of FORMATS
is taken with the first. -/
def Dev.takeTables (g t : Nat) (d : Dev) : Dev :=
  match (d.grp g).newTables with
  | some (at', p) =>
    if at' ≤ t then
      let d : Dev := (d.modGrp g fun h => { h with tables := p.apply g h.tables, newTables := none, tableNo := h.tableNo + 1 }).showTables g
      let d : Dev := if p.section_ == 4 && (d.grp g).tables.cv.harv.perBrick then d.writeTracking g else d
      match d.mo.live with
      | some l =>
        let d : Dev := match l.packet.points, d.mo.image with
          | some p, some b => { d with mo := { d.mo with image := some { b with points := p } } }
          | _, _ => d
        let rest := l.waiting.filter (·.1 ≠ g)
        if rest.isEmpty then (({ d with mo := { d.mo with live := none } } : Dev).set F.MO_LIVE_STATE 4).flag F.MO_CMD_BUSY false
        else
          let first := rest.foldl (fun m p => min m p.2) (rest.headD (0, 0)).2
          let at2 := d.ctAt first
          let d : Dev := { d with mo := { d.mo with live := some { l with waiting := rest } } }
          (d.set F.MO_LIVE_AT_LO_AT_LO (at2 % 0x100000000)).set F.MO_LIVE_AT_HI_AT_HI (at2 / 0x100000000)
      | none => d
    else d
  | none => d

/-- A command to a deblocked target of R87. -/
def ModeCmd.deblocks (c : ModeCmd) : Bool := !c.cancel && decide (3 ≤ c.target) && decide (c.target ≤ 11)

/-- The latch of a pending mode command (R96): the one due at opening k. While ACTIVATE is carried out it ends with NOT_READY. A
command out of ISOLATED ends the loops and holds of the group's lanes (R240). While no channel is in service no Condition stage
evaluates the command: what becomes of it is said at `Dev.forceShown` (log entry 169). -/
def Dev.latchCmd (g k : Nat) (d : Dev) : Dev :=
  let h := d.grp g
  match h.cmdDue with
  | none => d.modGrp g fun h => { h with latched := none }
  | some c =>
    let d : Dev := (d.modGrp g fun h => { h with latched := none, cmdDue := none }).flag F.GP_MODE_STATUS_PENDING h.cmd.isSome g
    if d.activating then (d.set F.GP_MODE_STATUS_RESULT rNotReady g).set F.GP_MODE_STATUS_TAG c.tag g
    else
      let d : Dev := d.modGrp g fun h => { h with latched := some c, span := if c.deblocks then some k else h.span }
      if d.gpMode g = 0 ∧ c.cancel = false ∧ c.target ≠ 0 then
        d.each (h.tiles.flatMap (·.2.courses)) fun c d => (d.endLoop c 0 (some 6)).endLoop c 1 (some 6)
      else d

/-- GI and its validity as held at the opening (R316, SI_GO_IN). -/
def Dev.showGi (x : Nat × Nat) (d : Dev) : Dev :=
  let d : Dev := (d.set F.SI_GO_IN_W0_VALUE_LO (x.1 % 0x100000000)).set F.SI_GO_IN_W1_VALUE_HI (x.1 / 0x100000000)
  (d.set F.SI_GO_IN_W2_VALID_LO (x.2 % 0x100000000)).set F.SI_GO_IN_W3_VALID_HI (x.2 / 0x100000000)

/-- GI and validity as an opening at tick t holds them: a change at that tick or later is seen at the next (R316). -/
def Dev.heldGi (t : Nat) (d : Dev) : Nat × Nat := if d.si.giAt < t then (d.si.gi, d.si.giValid) else d.si.giWas

/-- What an opening starts afresh for a tile: its opening registers and the vote of the cycle. -/
def Dev.openTile (k ct t : Nat) (d : Dev) : Dev :=
  let d : Dev := (d.set F.PL_CYCLE_NUMBER k t).set F.PL_OPEN_LO_OPEN_LO (ct % 0x100000000) t
  let d : Dev := (d.set F.PL_OPEN_HI_OPEN_HI (ct / 0x100000000) t).flag F.PL_STATUS_RUNNING true t
  { d with tp := { d.tp with votes := tabMod d.tp.votes t .init fun v =>
      { v with k := k, digests := [], sets := [], released := none, barred := false, closed := false } } }

/-- What an opening starts afresh for a course: report copies and the transaction window (R191, R251). -/
def Dev.openCourse (c : Nat) (d : Dev) : Dev :=
  let d : Dev := { d with cm := { d.cm with copies := d.cm.copies.filter fun p => p.1 / 128 ≠ c } }
  d.modCrs c fun r => { r with windowH := false, windowF := false, crossH := false, crossF := false, cycleSent := none, cycleAt := 0, missed := false }

/-- SHADOW starts at the first opening of each built group after the last copy (R369). -/
def Dev.startShadow (g : Nat) (d : Dev) : Dev :=
  match d.tp.resync with
  | some r =>
    if r.donor.isSome && r.left.isEmpty && (d.chState r.ch == 4 || d.chState r.ch == 5) && !(r.shadow.any (·.1 == g)) then
      let d : Dev := { d with tp := { d.tp with resync := some { r with shadow := r.shadow ++ [(g, 0, 0)] } } }
      if d.chState r.ch = 4 then d.setCh r.ch 5 else d
    else d
  | none => d

/-- CYCLE_OPENING (R61, R62, R64, R83, R96, R102, R103): at the group's next opening. -/
def cycleOpening (g : Nat) (d : Dev) : Dev :=
  if !(d.grp g).built then d
  else
    let t := (d.grp g).nextOpen
    let k := (d.grp g).nextK
    let d : Dev := d.until' t
    let ct := d.ctAt t
    let d : Dev := d.modGrp g fun h => { h.settleDue t with
      started := true, k := k, opening := ct, openTick := t, forced := none, forcedIn := h.forced, gi := (d.heldGi t).1, giValid := (d.heldGi t).2 }
    let d : Dev := d.takeTables g t
    let d : Dev := d.sourcesAt g (d.devAt t)
    let d : Dev := (d.latchSp g k).latchCmd g k
    let d : Dev := (d.flag F.GP_MODE_DEGRADED (d.degradeOf g) g).showGi (d.heldGi t)
    let tiles := (d.grp g).tiles
    let d : Dev := tiles.foldl (fun d x => d.openTile k ct x.1) d
    let d : Dev := d.each (tiles.flatMap (·.2.courses)) Dev.openCourse
    let d : Dev := d.each ((List.range 4).filter fun m => (d.lmCfg m).trig == 0 && (d.lmCfg m).group == g) Dev.takeCal
    d.startShadow g

end Sys2Proof.Machine
end

