-- ==== Sys2Proof/Machine/Pipeline.lean ====
section
/-! DEFINITION. The stage pipeline at work (spec/03): the inputs latched at D_R, the effects of the stages in each channel,
what the hub shows of them, and the decisions that have a command of their own (spec/04 to spec/08). -/

namespace Sys2Proof.Machine

/-! Context and places -/

/-- What the stages of a cycle read. -/
def Dev.gctx (d : Dev) (g : Nat) (cy : GCycle) : GCtx :=
  let h := d.grp g
  { gc := cy.tables.ctl, cv := cy.tables.cv, fm := cy.tables.fm, md := h.mode, cfg := h.cfg, comp := cy.tables.comp, inp := cy.inp,
    group := g, tiles := h.tiles, sums := h.tiles.map fun x => tabD cy.sums x.1 .zero,
    bound := h.tiles.map fun x => sumN (x.2.courses.map d.nc) }

/-- Group and tile of a channel. -/
def Dev.cg (d : Dev) (ch g : Nat) : ChanGrp := nth (d.chan ch).grps g .init
def Dev.modCg (d : Dev) (ch g : Nat) (f : ChanGrp → ChanGrp) : Dev :=
  d.modChan ch fun c => { c with grps := setNth c.grps g (f (nth c.grps g .init)) }
def Dev.ctile (d : Dev) (ch t : Nat) : ChanTile := nth (d.chan ch).tiles t .init
def Dev.modCt (d : Dev) (ch t : Nat) (f : ChanTile → ChanTile) : Dev :=
  d.modChan ch fun c => { c with tiles := setNth c.tiles t (f (nth c.tiles t .init)) }

/-- Whether a channel computes a tile (R352, R362, R368): in service, in SHADOW, or in COPY once the tile is copied. -/
def Dev.computes (d : Dev) (ch t : Nat) : Bool :=
  d.inService ch || d.chState ch == 5 ||
    (d.chState ch == 4 && (match d.tp.resync with | some r => r.donor.isSome && !r.left.contains t | none => false))
def Dev.computesAny (d : Dev) (ch : Nat) : Bool := d.inService ch || d.chState ch == 5 || d.chState ch == 4

/-- Tile configuration in a group. -/
def GroupHub.tile (h : GroupHub) (t : Nat) : TileCfg := ((h.tiles.find? (·.1 == t)).map (·.2)).getD TileCfg.idle

/-- Group of a tile in the structure in force. -/
def Dev.tileGroup (d : Dev) (t : Nat) : Option Nat := (d.busyTiles.find? (·.1 == t)).map (·.2.group)

/-! Inputs of a cycle -/

/-- CODE of a converter entry as held at C (R137, R303, R323), whatever its marks. -/
def GroupHub.lmCode (h : GroupHub) (m e : Nat) : Option Int := (tabGet h.lmHeld (16 * m + e)).map fun x => ofField 16 (x.1 / 0x10000)

/-- Valid result of a converter entry (R140, R303, R323, R324): as held at C, marked VALID and not frozen. -/
def GroupHub.lmVal (h : GroupHub) (m e : Nat) : Option Int :=
  match tabGet h.lmHeld (16 * m + e) with
  | some (w, frozen) => if testBit w 15 && !frozen then some (ofField 16 (w / 0x10000)) else none
  | none => none

/-- Valid aligned value v of a sampled-value subscription for group g (R309, R312). -/
def Dev.svVal (d : Dev) (g s v : Nat) : Option Int :=
  match tabGet (d.sv s).aligned (16 * g + v) with
  | some (_, true, x) => some x
  | _ => none

/-- Three components, or one for a DC signal, if all are there. -/
def three (dc : Bool) (f : Nat → Option Int) (scale : Pu) : Option V3 :=
  let at' (n : Nat) : Option Pu := (f n).map fun x => satPu (x * scale)
  if dc then (at' 0).map fun a => ⟨a, 0, 0⟩
  else match at' 0, at' 1, at' 2 with
    | some a, some b, some c => some ⟨a, b, c⟩
    | _, _, _ => none

/-- The arm of phase x among tiles. -/
def armAt (tiles : List (Nat × TileCfg)) (armI : List (Option Pu)) (x : Nat) (lower : Bool) : Option Pu :=
  (tiles.findIdx? fun t => t.2.type = .ac && t.2.phase = x && t.2.lower = lower).bind fun i => nth armI i none

/-- Phase currents from the arm currents (R114, R168). -/
def armsCurrent (fm : Formats) (tiles : List (Nat × TileCfg)) (armI : List (Option Pu)) : Option V3 :=
  let ph (x : Nat) : Option Int := match armAt tiles armI x false, armAt tiles armI x true with
    | some u, some l => some (roundDiv ((u - l) * 3 * fm.vAcBase) (2 * fm.vDcBase))
    | _, _ => none
  three false ph 1

/-- One source of signal n (0 AC voltage, 1 AC current, 2 DC pole voltage, 3 DC pole current); the brick sum is formed in the
channels. -/
def Dev.fromSource (d : Dev) (g n : Nat) (fm : Formats) (armI : List (Option Pu)) (scale : Pu) : SigSrc → Option V3
  | .none => none
  | .sv s i => three (decide (2 ≤ n)) (fun j => d.svVal g s (i + j)) scale
  | .lm m e => three (decide (2 ≤ n)) (fun j => (d.grp g).lmVal m (e + j)) scale
  | .arms => armsCurrent fm (d.grp g).tiles armI
  | .brickSum => none

/-- Plausibility (R140). -/
def plausible (c : SigCfg) (v : V3) : Bool :=
  decide (c.lo ≤ v.a) && decide (v.a ≤ c.hi) && decide (c.lo ≤ v.b) && decide (v.b ≤ c.hi) && decide (c.lo ≤ v.c) && decide (v.c ≤ c.hi)
def plausible1 (c : SigCfg) (v : V3) : Bool := decide (c.lo ≤ v.a) && decide (v.a ≤ c.hi)
def plausibleAt (n : Nat) (c : SigCfg) (v : V3) : Bool := if 2 ≤ n then plausible1 c v else plausible c v

/-- The safety side of R98. -/
def Dev.safetyOk (d : Dev) (g : Nat) : Bool :=
  d.ready F.GL_READY_SAFETY && d.get F.SB_STATUS_TRIP == 0 && (d.grp g).tiles.all fun t => t.2.courses.all fun c => !d.underSafeBlock c

/-- The inputs of the present cycle (R64), the brick reports apart. -/
def Dev.groupIn (d : Dev) (g : Nat) : GroupIn :=
  let h := d.grp g
  let fm := h.tables.fm
  let armI := h.tiles.map fun t => ((fm.armSrc.find? (·.1 == t.1)).bind fun a => h.lmVal a.2.1 a.2.2).map fun x => satPu (x * fm.armScale)
  let src (alt : Bool) (n : Nat) : Option V3 :=
    let c := Formats.sig fm n
    (d.fromSource g n fm armI (if alt then c.scaleA else c.scaleP) (if alt then c.alternate else c.primary)).filter (plausibleAt n c)
  { k := h.k, opening := h.opening, openTick := h.openTick, outer := h.k % max 1 h.cfg.div == 0, degraded := d.on F.GP_MODE_DEGRADED g,
    prim := (List.range 4).map (src false), alt := (List.range 4).map (src true), armI := armI, sp := h.sp, spValid := h.spValid,
    goose := h.gi, gooseValid := h.giValid, tables := h.tableNo, forced := h.forcedIn, cmd := h.latched, faultClear := d.faultClear g, safetyOk := d.safetyOk g,
    triplexOk := d.triplex == 1 || d.triplex == 2, leadOk := h.tiles.all (fun t => !d.leadShort t.1), scan := h.scan }

/-- The brick sum (R140): the mean over the three legs of the reported voltages of the bricks inserted in both arms; a blocked arm
inserts none. -/
def brickSum (ratio : Pu) (l : List (RankSt × List (Nat × Nat))) : Pu :=
  let one' (p : RankSt × List (Nat × Nat)) : Nat :=
    if p.1.blocked then 0 else sumN (p.2.map fun b => if ((tabGet p.1.bricks b.1).map (·.ordered)) = some 1 then b.2 else 0)
  if ratio ≤ 0 then 0 else satPu (roundDiv ((sumN (l.map one') : Nat) * 0x40000000000) (3 * ratio.toNat))

/-- Signal 2 with the brick sum where FORMATS names it. -/
def withBrickSum (fm : Formats) (v : Pu) (i : GroupIn) : GroupIn :=
  let c := Formats.sig fm 2
  let x : Option V3 := if plausible1 c ⟨v, 0, 0⟩ then some ⟨v, 0, 0⟩ else none
  { i with prim := if c.primary = .brickSum then setNth i.prim 2 x else i.prim,
           alt := if c.alternate = .brickSum then setNth i.alt 2 x else i.alt }

/-! What the hub shows (registers of spec/05 to spec/08), from the reporting channel -/

/-- Whether a channel is the one the hub reports. -/
def Dev.reports (d : Dev) (ch : Nat) : Bool := d.reporting == some ch

/-- What a scan request and the end of a scan show, and a request that goes to the bricks (R164, R165). -/
def Dev.takeHarvest (g : Nat) (v : HarvSt) (d : Dev) : Dev :=
  let d : Dev := match v.scanResult with
    | some code => d.set F.GP_HARVEST_CMD_RESULT code g
    | none => d
  let d : Dev := if v.aborted then d.set F.GP_HARVEST_CMD_RESULT 4 g else d
  let d : Dev := (d.set F.GP_HARVEST_BEST_VBEST (reg12u v.doneV) g).set F.GP_HARVEST_BEST_PBEST (reg12u v.doneP) g
  if v.askBricks then d.writeBricks g 0x40 1 else d

/-- The grid registers of a group after a cycle. -/
def Dev.showGrid (g : Nat) (c : GCtx) (s : GridSt) (d : Dev) : Dev :=
  let y := s.sync
  let d : Dev := ((d.flag F.GP_SYNC_LOCKED y.locked g).flag F.GP_SYNC_FLYWHEEL y.fly g).flag F.GP_SYNC_FORMING s.m.forming g
  let d : Dev := d.set F.GP_SYNC_FREQ (toField 16 (sat16 (roundDiv ((y.w - one) * c.gc.sync.fNom * 1000) 0x10000000))) g
  let d : Dev := (d.set F.GP_VSEQ_VPOS (reg12u (norm y.posV)) g).set F.GP_VSEQ_VNEG (reg12u (norm y.negV)) g
  let d : Dev := (d.set F.GP_PQ_P (reg12s s.loop.p) g).set F.GP_PQ_Q (reg12s s.loop.q) g
  let d : Dev := (d.set F.GP_DCMEAS_VDC (reg12u s.loop.vdc) g).set F.GP_DCMEAS_IDC (reg12s s.loop.idc) g
  let u := s.cur
  let d : Dev := ((d.flag F.GP_CURLIM_IMAX_ACTIVE u.imaxActive g).flag F.GP_CURLIM_VOUT_SAT u.voutSat g).flag F.GP_CURLIM_FORM_VIRT u.formVirt g
  let d : Dev := if u.imaxActive || u.voutSat || u.formVirt then d.count F.GP_CURLIM_LIMITED g else d
  let d : Dev := d.each (List.range 4) fun n d =>
    let f := s.fbAt n
    ((d.flag F.GP_FEEDBACK_VALID f.valid g n).flag F.GP_FEEDBACK_ALT f.alt g n).flag F.GP_FEEDBACK_HOLD f.hold g n
  let r := s.ride
  let d : Dev := ((d.flag F.GP_RIDE_ENTRY_AC r.acHold g).flag F.GP_RIDE_ENTRY_DC r.dcHold g).flag F.GP_RIDE_EXITING r.exiting g
  let d : Dev := if r.repeatBlock then d.flag F.GP_RIDE_REPEAT_BLOCK true g else d
  let d : Dev := (d.set F.GP_RIDE_TRIP_CURVE r.tripCurve g).set F.GP_RIDE_COUNT (clampN 255 (recentEntries c s).length) g
  let d : Dev := (d.set F.GP_RIDE_VPRE (reg12u r.vPre) g).set F.GP_RIDE_TIME_ELAPSED (clampN 0xFFFFFFFF r.elapsed) g
  let d : Dev := d.setI F.GP_JUMP_SEAT y.lastSeat g
  let i := s.isl
  let d : Dev := if i.detected then d.flag F.GP_ISLAND_DETECTED true g else d
  let d : Dev := (d.flag F.GP_ISLAND_BLANKED i.blanked g).set F.GP_ISLAND_ACTION i.action g
  let d : Dev := (d.set F.GP_ISLAND_CRITERIA i.criteria g).set F.GP_ISLAND_Z (reg12u i.z) g
  let v := s.harv
  let st := if s.m.mode ≠ .harvest then 0 else if v.scanning then 2 else if v.curtailed then 3 else 1
  let d : Dev := ((d.set F.GP_HARVEST_STATE st g).flag F.GP_HARVEST_DIR (!v.up) g).flag F.GP_HARVEST_FROZEN v.frozen g
  d.set F.GP_HARVEST_VTGT (reg12u v.vTgt) g

/-- The compensation and energy registers of a group after the Arm stage. -/
def Dev.showArmGroup (g : Nat) (o : CycleOut) (s : GridSt) (d : Dev) : Dev :=
  let d : Dev := (d.set F.GP_ANGLE_ANGLE o.th g).set F.GP_COMP_ACTING o.compMask g
  let d : Dev := if o.compSat then d.flag F.GP_COMP_SAT true g else d
  let d : Dev := (d.set F.GP_ENERGY_ETOT (reg12u s.bal.eTot) g).set F.GP_ENERGY_PDEM (reg12s s.bal.pDem) g
  d.each (List.range 3) fun x d =>
    let l := nth s.legs x .init
    let d : Dev := (d.set F.GP_LEG_ELEG (reg12u (nth s.bal.eLeg x 0)) g x).set F.GP_LEG_DIFF (reg12s (nth s.bal.d x 0)) g x
    (d.set F.GP_CIRC_IZREF (reg12s l.izRef) g x).set F.GP_CIRC_IZ (reg12s l.iz) g x

/-- The registers of an arm after the Arm stage. -/
def Dev.showArm (t : Nat) (chopper : Bool) (a : ArmSt) (d : Dev) : Dev :=
  let d : Dev := (d.set F.PL_ARM_COUNT_COUNT a.count t).set F.PL_ARM_COUNT_FRAC a.frac t
  let d : Dev := (d.set F.PL_ARM_ENERGY_EARM (reg12u a.earm) t).set F.PL_ARM_ENERGY_VBAR (clampN 0xFFFF (a.vbar.toNat / 0x4000)) t
  let d : Dev := ((d.flag F.PL_ARM_STATUS_SIGN a.sign t).flag F.PL_ARM_STATUS_OVER a.ovr t).flag F.PL_ARM_STATUS_UNDER a.under t
  let d : Dev := ((d.flag F.PL_ARM_STATUS_ZREF_SAT a.zrefSat t).flag F.PL_ARM_STATUS_ILIM a.ilim t).flag F.PL_ARM_STATUS_ZHOLD a.zhold t
  let d : Dev := (d.set F.PL_ARM_STATUS_PRESENT (a.np % 0x1000) t).set F.PL_ARM_CURRENT_IARM (reg12s a.i) t
  let d : Dev := d.set F.PL_ARM_CURRENT_UREF (reg12s a.u) t
  if chopper then (d.set F.PL_CHOP_STATE a.chopState t).set F.PL_CHOP_PDIS (reg12u a.pdis) t else d

/-- One source the stages raise, with the bit that records it. -/
def Dev.stageRaise (g : Nat) (d : Dev) (n : Nat) : Dev :=
  if n < 0xA0 then
    let t := (n - 0x40) / 8
    let s := (n - 0x40) % 8
    if s = 4 then (d.raise n t).flag F.PL_ARM_STATUS_OVM_RAISED true t
    else if s = 5 then (d.raise n t).flag F.PL_ARM_STATUS_TRIP_RAISED true t
    else d.flag F.PL_ARM_STATUS_ENERGY_RAISED true t
  else
    let s := (n - 0xA0) % 8
    if s = 0 ∨ s = 7 then d.raise n
    else if 2 ≤ s ∧ s ≤ 5 ∧ !(d.grp g).chopperOnly then d.flag F.GP_FEEDBACK_LOST_RAISED true g (s - 2) else d

/-- Faults the stages of the reporting channel raised, and the conditions of the level sources (R142, R170). -/
def Dev.stageFaults (g : Nat) (old : GridSt) (x : ChanGrp) (d : Dev) : Dev :=
  let s := x.ctl
  let d : Dev := s.m.raises.foldl (Dev.stageRaise g) d
  let d : Dev := d.each (List.range 4) fun n d =>
    let d : Dev := d.cond (0xA2 + 8 * g + n) (s.fbAt n).raised
    if (s.fbAt n).disagreed && !(old.fbAt n).disagreed && !(d.grp g).chopperOnly then d.flag F.GP_FEEDBACK_DISAGREE true g n else d
  let d : Dev := d.cond (0xA6 + 8 * g) (s.fb.any (·.disagreed))
  x.arms.foldl (fun d a => (d.cond (tileSource a.1 2) (a.2.energyHeld && supervised s.m.mode) a.1).cond (tileSource a.1 3) a.2.shortHeld a.1) d

/-- After a part of a cycle has run in a channel: raises and requests are taken once, by the channel that reports. -/
def Dev.afterPart (ch g : Nat) (old : GridSt) (d : Dev) : Dev :=
  let x := d.cg ch g
  let d : Dev := if d.reports ch then (d.stageFaults g old x).takeHarvest g x.ctl.harv else d
  d.modCg ch g fun x => { x with ctl := { x.ctl with
    m := { x.ctl.m with raises := [] }, harv := { x.ctl.harv with scanResult := none, aborted := false, askBricks := false } } }

/-! Group parts of a cycle -/

/-- Replace a cycle of a group. -/
def ChanGrp.put (cy : GCycle) (x : ChanGrp) : ChanGrp :=
  { x with cycles := x.cycles.map fun y => if y.inp.k = cy.inp.k then cy else y }

/-- Condition, with the measurements the Grid stage begins with. -/
def condPart (c : GCtx) (cy : GCycle) (x : ChanGrp) : ChanGrp :=
  ({ x with ctl := conditionStage c x.ctl } : ChanGrp).put { cy with condDone := true }

/-- Grid. A chopper-only group has no Grid stage: only its DC voltage signal and DISCHARGE are watched (R90, R104, R142). -/
def gridPart (c : GCtx) (cy : GCycle) (x : ChanGrp) : ChanGrp :=
  let s := if c.chopperOnly then dischargeTimeout c (feedbackDisagreement c 2 (feedbackPrimaryReturn 2 (feedbackHoldExpiry c 2 x.ctl)))
    else gridStage c x.ctl
  ({ x with ctl := s } : ChanGrp).put { cy with gridDone := true }

/-- A list of arm decisions on (tile, arm) pairs, with the sources raised. -/
def onArms (f : Nat → ArmSt → ArmSt × List Nat) (l : List (Nat × ArmSt)) : List (Nat × ArmSt) × List Nat :=
  let r := l.map fun a => (a.1, f a.1 a.2)
  (r.map fun p => (p.1, p.2.1), r.flatMap (·.2.2))

/-- ARM_ENERGY_FAULT and OVERMODULATION_FAULT still due from the cycle before (R170, R179). -/
def settleArms (c : GCtx) (x : ChanGrp) : ChanGrp :=
  let a := onArms (armEnergyFault c.gc.arm.vbarN) x.arms
  let b := onArms (overmodulationFault c.gc.arm.ovmN) a.1
  { x with arms := b.1, ctl := { x.ctl with m := { x.ctl.m with raises := x.ctl.m.raises ++ a.2 ++ b.2 } } }

/-- Arm: balancing, legs and all tiles; the outcome of the cycle is kept and the angles advance (R118). -/
def armPart (c : GCtx) (cy : GCycle) (x0 : ChanGrp) : ChanGrp :=
  let x := settleArms c x0
  let th := x.ctl.th
  let thx := thExec c x.ctl
  let comp := if c.chopperOnly then (V3.zero, false, 0) else compensation c x.ctl thx
  let r := armStage c thx comp.1 (c.tiles.map fun t => tabD x.arms t.1 .init) x.ctl
  let arms := (List.range c.tiles.length).map fun n =>
    let t := (nth c.tiles n (0, TileCfg.idle)).1
    if cy.skip.contains t then (t, tabD x.arms t .init, []) else (t, armLevels c r.1 n t (nth r.2 n .init))
  let kept := arms.map fun a => (a.1, a.2.1)
  let o : CycleOut := ⟨cy.inp.k, r.1.m, th, thx, r.1.cur.out, comp.1, comp.2.1, comp.2.2⟩
  let s := advanceAngles c r.1
  let s := { s with m := { s.m with raises := s.m.raises ++ arms.flatMap (·.2.2) } }
  ({ x with ctl := s, arms := kept, outs := (o :: x.outs).take 4 } : ChanGrp).put { cy with armDone := true, arms := kept }

/-- Present stages of a tile: the first at or after a number (R67), 6 if none. -/
def stageNo : Stage → Nat
  | .condition => 0 | .grid => 1 | .arm => 2 | .rank => 3 | .schedule => 4 | .emit => 5
def hasStage (tc : TileCfg) (n : Nat) : Bool := tc.stages.any fun s => stageNo s == n
def nextStage (tc : TileCfg) (n : Nat) : Nat := ((List.range 6).find? fun j => decide (n ≤ j) && hasStage tc j).getD 6

/-- A stage of a group's cycle is present in some tile of the group; one that is absent from all passes its input through (R67). The
watch of DISCHARGE and of the DC voltage signal in a chopper-only group has no stage of its own. -/
def GroupHub.hasStage (h : GroupHub) (part : Nat) : Bool := h.tiles.any (fun t => Sys2Proof.Machine.hasStage t.2 part) || (part == 1 && h.chopperOnly)

/-- One part (0 Condition, 1 Grid, 2 Arm) of a cycle in a channel, if it is still to run. -/
def Dev.runPart (ch g part : Nat) (d : Dev) (cy : GCycle) : Dev :=
  let done := if part = 0 then cy.condDone else if part = 1 then cy.gridDone else cy.armDone
  if done then d
  else if !(d.grp g).hasStage part then
    d.modCg ch g (ChanGrp.put { cy with condDone := cy.condDone || part == 0, gridDone := cy.gridDone || part == 1,
                                        armDone := cy.armDone || part == 2 })
  else
    let c := d.gctx g cy
    let old := (d.cg ch g).ctl
    let d : Dev := d.modCg ch g fun x => if part = 0 then condPart c cy x else if part = 1 then gridPart c cy x else armPart c cy x
    let d : Dev := d.afterPart ch g old
    let x := d.cg ch g
    if !d.reports ch || part != 2 then d
    else
      let d : Dev := x.arms.foldl (fun d a => d.showArm a.1 ((d.grp g).tile a.1 |>.type |> (· = .chopper)) a.2) d
      if c.chopperOnly then d
      else match x.outs.head? with
        | some o => (d.showGrid g c x.ctl).showArmGroup g o x.ctl
        | none => d

/-- The parts of cycle k up to one, and every earlier cycle whole: in each channel the order is that of R67. -/
def Dev.groupTo (ch g k part : Nat) (d : Dev) : Dev :=
  let ks := ((d.cg ch g).cycles.filter fun y => decide (y.inp.k ≤ k)).map (·.inp.k)
  (sortBy (fun a b => decide (a < b)) ks).foldl (fun d k' =>
    (List.range (if k' = k then part + 1 else 3)).foldl (fun d p =>
      match (d.cg ch g).cycles.find? (·.inp.k == k') with
      | some cy => d.runPart ch g p cy
      | none => d) d) d

/-! Tile parts -/

/-- Parameters of a tile's rank engine in a cycle. -/
def Dev.rankCfg (d : Dev) (ch g t k : Nat) : RankCfg :=
  match (d.cg ch g).cycles.find? (·.inp.k == k) with
  | some cy => cy.tables.rankOf t
  | none => (d.grp g).tables.rankOf t

/-- The counts of the Arm stage pass to a tile's job. -/
def Dev.fromArm (ch g t : Nat) (d : Dev) (j : Job) : Job :=
  let x := d.cg ch g
  let tc := (d.grp g).tile t
  let a := tabD (((x.cycles.find? (·.inp.k == j.k)).map (·.arms)).getD []) t .init
  match x.outs.find? (·.k == j.k) with
  | some o => { j with count := a.count, frac := a.frac, sign := a.sign, blocked := tileBlocked tc.type o.m,
                       discharge := o.m.mode == .discharge && decide (tc.type = .chopper) }
  | none => { j with blocked := true }

/-- What the Schedule stage of the reporting channel shows, counts and raises (R193, R195, R196). -/
def Dev.showSchedule (t : Nat) (before : RankSt) (r : Scheduled) (d : Dev) : Dev :=
  let k := r.rank
  let d : Dev := (d.set F.PL_RANK_STATUS_NRANK (k.nrank % 0x1000) t).set F.PL_RANK_STATUS_PARKED (clampN 0xFFF k.parked) t
  let d : Dev := (d.flag F.PL_RANK_STATUS_DROPPED k.dropped t).flag F.PL_RANK_STATUS_STRETCHED k.stretched t
  let d : Dev := (d.flag F.PL_RANK_STATUS_HOLES k.holes t).flag F.PL_RANK_STATUS_SORTED k.sorted t
  let d : Dev := (d.set F.PL_RANK_BOUND_BOUND (k.bound % 0x1000) t).set F.PL_RANK_BOUND_ON_LEN k.onLen t
  let d : Dev := (d.addTo F.PL_RANK_SWAPS_APPLIED r.applied t).addTo F.PL_RANK_SWAPS_DEFERRED r.deferred t
  let d : Dev := d.addTo F.PL_RANK_FAULTS_PARKS r.parks t
  let why (n : Nat) : Bool := before.bricks.any fun p => p.2.parkDue == n
  let d : Dev := if why 2 then (d.raise (tileSource t 6) t).flag F.PL_RANK_STATUS_DISPUTE_RAISED true t else d
  if why 3 then (d.raise (tileSource t 7) t).flag F.PL_RANK_STATUS_ECHO_RAISED true t else d

/-- The Schedule stage of a tile. -/
def Dev.schedule (ch g t : Nat) (j : Job) (d : Dev) : Dev × Job :=
  let tc := (d.grp g).tile t
  let before := (d.ctile ch t).rank
  let r := scheduleStage (d.rankCfg ch g t j.k) tc.courses (halfUs (d.grp g).cfg.cycle) j before
  let d : Dev := d.modCt ch t fun x => { x with rank := r.rank }
  (if d.reports ch then d.showSchedule t before r else d, r.job)

/-- Put back a job of a tile. -/
def ChanTile.put (j : Job) (x : ChanTile) : ChanTile := { x with jobs := x.jobs.map fun y => if y.k = j.k then j else y }

/-- The next effect of a job: the stage numbered `did`; a stage the tile does not have passes its input through (R67). -/
def Dev.effect (ch g t : Nat) (d : Dev) (j : Job) : Dev :=
  let tc := (d.grp g).tile t
  let d : Dev := if j.did < 3 && hasStage tc j.did then d.groupTo ch g j.k j.did else d
  let r : Dev × Job :=
    if !hasStage tc j.did then (d, j)
    else if j.did = 2 then (d, d.fromArm ch g t j)
    else if j.did = 3 then (d, { j with cands := rankStage tc.courses (if j.blocked then 0 else (d.rankCfg ch g t j.k).band)
                                          (d.ctile ch t).rank.bricks j.present })
    else if j.did = 4 then d.schedule ch g t j
    else (d, j)
  r.1.modCt ch t (ChanTile.put { r.2 with did := j.did + 1 })

/-- Effects of the job of cycle k, up to stage n. -/
def Dev.effectsTo (ch g t k n : Nat) (d : Dev) : Dev :=
  (List.range 6).foldl (fun d _ => match (d.ctile ch t).jobs.find? (·.k == k) with
    | some j => if j.did ≤ n then d.effect ch g t j else d
    | none => d) d

/-- The first job whose frames are not yet assembled. -/
def ChanTile.current (x : ChanTile) : Option Job := x.jobs.find? fun j => decide (j.next < 6)

/-- STAGE_COMPLETE (R67): the stage delivers, and the next one starts. -/
def stageComplete (ch t stage : Nat) (d : Dev) : Dev :=
  match d.tileGroup t, (d.ctile ch t).current with
  | some g, some j =>
    if d.computes ch t && j.next == stage then
      let d : Dev := d.effectsTo ch g t j.k stage
      d.modCt ch t fun x => { x with jobs := x.jobs.map fun y => if y.k = j.k then { y with next := nextStage ((d.grp g).tile t) (stage + 1) } else y }
    else d
  | _, _ => d

/-! D_R -/

/-- Valid copies of the present opening for a brick. -/
def Dev.copiesOf (d : Dev) (b : Nat) : List RepCopy :=
  match tabGet d.cm.copies b with | some k => k.h.toList ++ k.f.toList | none => []

/-- Whether the directory holds a brick at a position for its tile (R192): an entry from FOUND to IN_SERVICE; an OUT or REFUSED one is
UNOCCUPIED (R282, R286). -/
def Dev.occupied (d : Dev) (b : Nat) : Bool :=
  decide (1 ≤ d.entry (b / 128) (b % 128)) && decide (d.entry (b / 128) (b % 128) ≤ 5)

/-- The positions of a tile that need a decision: with a record, a brick in the directory, or a report; every other is UNOCCUPIED, with
nothing to count. -/
def Dev.positions (d : Dev) (tc : TileCfg) (r : RankSt) : List Nat :=
  (List.range (128 * tc.courses.length)).filter fun i =>
    let b := brickNumber tc.courses i
    (tabGet r.bricks i).isSome || decide (d.entry (b / 128) (b % 128) ≠ 0) || !(d.copiesOf b).isEmpty

/-- BRICK_OUTCOME for every position of a tile's bound courses (R192). -/
def Dev.decide' (d : Dev) (tc : TileCfg) (c : RankCfg) (openTick : Nat) (r : RankSt) : List (Nat × Decided) :=
  (d.positions tc r).map fun i =>
    let b := brickNumber tc.courses i
    (i, brickOutcome c.reportHold c.echoN openTick (Config.heldVolt b openTick % 0x10000) (d.occupied b)
      (d.get F.CM_CRS_STAT_STATE (b / 128) == 1) (d.copiesOf b) ((tabGet r.bricks i).getD BrickSt.blank))

/-- The records a decision leaves: of the positions that hold a slot or a brick. -/
def recordsOf (l : List (Nat × Decided)) : List (Nat × BrickSt) :=
  (l.map fun p => (p.1, p.2.brick)).filter fun p => p.2.slot.isSome || p.2.outcome ≠ 0

/-- The present bricks of a decision. -/
def presentOf (l : List (Nat × Decided)) : List (Nat × Nat) := l.filterMap fun p => p.2.present.map fun v => (p.1, v)

/-- One change of the order at a D_R (R198, R199); an admission waits while the brick's old slot is being freed. -/
def orderOne (e : Nat) (r : RankSt) (o : Nat × Nat) : RankSt :=
  if o.1 = 0 then removeBrick o.2 r else if o.1 = 1 then admitBrick e o.2 r else eraseBrick o.2 r
def waitsSlot (r : RankSt) (o : Nat × Nat) : Bool := o.1 == 1 && (match tabGet r.bricks o.2 with | some b => b.removed | none => false)
def orderRun (e : Nat) : List (Nat × Nat) → RankSt → RankSt × List (Nat × Nat)
  | [], r => (r, [])
  | o :: ops, r =>
    if waitsSlot r o then let x := orderRun e ops r; (x.1, o :: x.2) else orderRun e ops (orderOne e r o)
def orderOps (e : Nat) (ops : List (Nat × Nat)) (r : RankSt) : RankSt := (orderRun e ops r).1
def waitingOps (ops : List (Nat × Nat)) (r : RankSt) : List (Nat × Nat) := (orderRun 0 ops r).2

/-- What the reporting channel's outcomes change at the hub: counts, and admissions confirmed (R198, R285). -/
def Dev.outcomesSeen (t : Nat) (tc : TileCfg) (before : RankSt) (l : List (Nat × Decided)) (d : Dev) : Dev :=
  let n (f : Decided → Bool) : Nat := (l.filter fun p => f p.2).length
  let d : Dev := (d.addTo F.PL_RANK_FAULTS_DISPUTED (n (·.disputed)) t).addTo F.PL_RANK_FAULTS_HELD (n (·.held)) t
  let d : Dev := d.addTo F.PL_RANK_FAULTS_ECHO_BAD (n (·.echoBad)) t
  l.foldl (fun d p =>
    let b := brickNumber tc.courses p.1
    if ((tabGet before.bricks p.1).map (·.admitting)) = some true ∧ p.2.brick.admitting = false ∧ d.entry (b / 128) (b % 128) = 4 then
      ((d.modDir b fun s => { s with fails := 0 }).setEntry (b / 128) (b % 128) 5).updateDeliv (b / 128)
    else d) d

/-- PL_BRICK of a tile (R217): the state at this D_R, of every brick the tile's record holds. -/
def Dev.showBricks (t : Nat) (courses : List Nat) (present : List (Nat × Nat)) (l : List (Nat × BrickSt)) (d : Dev) : Dev :=
  let d : Dev := { d with bank := d.bank.filter fun e => !(e.1.i == t && (e.1.fld.base == 0x108000 || e.1.fld.base == 0x108004)) }
  let order := (targetOrder courses present).map (·.1)
  l.foldl (fun d p =>
    let b := p.2
    let kind := if b.slot.isNone then 3 else bit b.isParked
    let d : Dev := ((d.set F.PL_BRICK_LO_OUTCOME b.outcome t p.1).set F.PL_BRICK_LO_KIND kind t p.1).set F.PL_BRICK_LO_MISSES (clampN 15 b.miss) t p.1
    let d : Dev := (d.set F.PL_BRICK_LO_ECHO_MISS (clampN 15 b.echoRun) t p.1).set F.PL_BRICK_LO_SLOT (b.slot.getD 0) t p.1
    let target := if order.contains p.1 then order.idxOf p.1 else 0xFFF
    (d.set F.PL_BRICK_HI_VOLT b.volt t p.1).set F.PL_BRICK_HI_TARGET target t p.1) d

/-- A tile at D_R in one channel: its outcomes, the changes of order, the new job (R77: not if the backlog overflows). -/
def Dev.tileAtDr (ch g t : Nat) (tc : TileCfg) (ops : List (Nat × Nat)) (d : Dev) : Dev :=
  let h := d.grp g
  let e := h.openTick + quarterUs h.cfg.de + halfUs h.cfg.lead
  let r := dropRemoved (d.ctile ch t).rank
  let l := d.decide' tc (h.tables.rankOf t) h.openTick r
  let d : Dev := if d.reports ch then d.outcomesSeen t tc r l else d
  let new := orderOps e ops { r with bricks := recordsOf l }
  let ps := keepPresent new (presentOf l)
  let j : Job := { k := h.k, next := nextStage tc 0, did := 0, present := ps, words := [], cands := [], count := 0, frac := 0,
                   bound := 0, nrank := 0, onLen := 0, sign := true, blocked := true, discharge := false, e := e, opening := h.opening }
  let d : Dev := if d.reports ch then d.showBricks t tc.courses ps new.bricks else d
  d.modCt ch t fun x => { x with rank := new, jobs := x.jobs ++ [j] }

/-- Hand back an admission that gave no echo (R198, R287). -/
def Dev.handBack (g t i : Nat) (d : Dev) : Dev :=
  let b := brickNumber ((d.grp g).tile t).courses i
  if d.entry (b / 128) (b % 128) = 4 then (d.orderOp t 2 i).failAdmission (b / 128) (b % 128) else d.orderOp t 2 i

/-- Rank state of a tile as the hub sees it. -/
def Dev.shownRank (d : Dev) (t : Nat) : RankSt := (d.ctile ((d.reporting).getD 0) t).rank

/-- The effects of every earlier job of a tile are taken before the outcomes of a new cycle are decided: the record of
emitted words then stands as R194 and R214 ask, in every channel alike. -/
def Dev.settleJobs (ch g t : Nat) (d : Dev) : Dev :=
  ((d.ctile ch t).jobs.map (·.k)).foldl (fun d k => d.effectsTo ch g t k 5) d

/-- REPORT_DEADLINE (R64, R77, R191, R192, R198, R288): at D_R of the group's cycle. A tile whose backlog is full discards its inputs in
every channel; the reports of the tile still reach the group's other tiles (log entry 124). -/
def reportDeadline (g : Nat) (d : Dev) : Dev :=
  let h := d.grp g
  if !h.started ∨ h.drK = some h.k then d
  else
    let d : Dev := ((d.until' (h.openTick + quarterUs h.cfg.dr)).latchLm g).modGrp g fun h => { h with drK := some h.k }
    let chans := (List.range 3).filter d.computesAny
    let d : Dev := d.each chans fun ch d => h.tiles.foldl (fun d x => d.settleJobs ch g x.1) d
    let d : Dev := h.tiles.foldl (fun d x =>
      d.each (((d.shownRank x.1).bricks.map (·.1)).filter fun i => admissionOver i (d.shownRank x.1)) fun i d => d.handBack g x.1 i) d
    let courses := h.tiles.flatMap (·.2.courses)
    let d : Dev := (d.each courses (Dev.crsAtDr (h.openTick + quarterUs h.cfg.dr))).each courses Dev.releaseAtDr
    let d : Dev := d.modGrp g fun h => { h with spSrc := (List.range (min 4 h.tables.fm.binds.length)).map fun i =>
      match h.tables.fm.binds[i]? with
      | some b => { nth h.spSrc i .init with raw := (h.lmCode b.lm b.entry).map (· * 65536) }
      | none => .init }
    let inp := d.groupIn g
    let full (t : Nat) : Bool := chans.any fun ch => d.computes ch t && decide (2 ≤ ((d.ctile ch t).jobs.filter fun j => decide (j.next < 6)).length)
    let skip := (h.tiles.map (·.1)).filter full
    let lost (ch t : Nat) (tc : TileCfg) : List (Nat × Nat) :=
      presentOf (d.decide' tc (h.tables.rankOf t) h.openTick (dropRemoved (d.ctile ch t).rank))
    let gone := chans.map fun ch => (ch, h.tiles.filterMap fun x => if skip.contains x.1 then some (x.1, lost ch x.1 x.2) else none)
    let d : Dev := h.tiles.foldl (fun (d : Dev) (x : Nat × TileCfg) =>
      let t := x.1
      if skip.contains t then (d.flag F.PL_STATUS_OVERFLOW true t).raise (tileSource t 1) t
      else
        let ops := (d.cm.ops.filter (·.1 == t)).map (·.2)
        let rest := waitingOps ops (d.shownRank t)
        let d : Dev := d.each (chans.filter fun ch => d.computes ch t) fun ch d => d.tileAtDr ch g t x.2 ops
        if chans.any fun ch => d.computes ch t then
          { d with cm := { d.cm with ops := d.cm.ops.filter (fun o => o.1 != t || rest.contains o.2) } }
        else d) d
    let d : Dev := if h.tiles.all fun x => skip.contains x.1 then d else d.each chans fun ch d =>
      let job (t : Nat) : List (Nat × Nat) := match (d.ctile ch t).jobs.find? (·.k == h.k) with
        | some j => j.present
        | none => tabD (tabD gone ch []) t []
      let v := brickSum h.tables.fm.brickRatio ((h.tiles.filter fun x => x.2.type = .ac).map fun x => ((d.ctile ch x.1).rank, job x.1))
      let cy : GCycle := { inp := withBrickSum h.tables.fm v inp, sums := h.tiles.map fun x => (x.1, tileSum (job x.1)), condDone := false,
                           gridDone := false, armDone := false, arms := [], tables := h.tables, skip := skip }
      d.modCg ch g fun x => { x with cycles := (x.cycles ++ [cy]).drop (x.cycles.length + 1 - 4) }
    d.modGrp g fun h => { h with scan := false }

/-! Decisions with a command of their own -/

/-- Apply a decision of the Grid stage in every computing channel: `late` false before control has run in the newest cycle,
true after it has. -/
def Dev.decision (g : Nat) (late : Bool) (f : GCtx → GridSt → GridSt) (d : Dev) : Dev :=
  d.each ((List.range 3).filter d.computesAny) fun ch d =>
    match ((d.cg ch g).cycles.filter (·.condDone)).getLast? with
    | some cy =>
      if cy.gridDone = late then
        let old := (d.cg ch g).ctl
        (d.modCg ch g fun x => { x with ctl := f (d.gctx g cy) x.ctl }).afterPart ch g old
      else d
    | none => d

/-- DISCHARGE_TIMEOUT, LINE_TEST_HOLD_END, FADE_END (R104, R105, R109). -/
def dischargeTimeoutCmd (g : Nat) (d : Dev) : Dev := d.decision g false dischargeTimeout
def lineTestHoldEndCmd (g : Nat) (d : Dev) : Dev := d.decision g false lineTestHoldEnd
def fadeEndCmd (g : Nat) (d : Dev) : Dev :=
  let d : Dev := d.decision g true fun _ s => fadeEnd s
  if (d.shownCtl g).fade.f = 0 ∧ (d.grp g).built = true then d.flag F.GP_MODE_FADING false g else d

/-- SYNC_LOCK, SYNC_UNLOCK, FLYWHEEL_CLEAR (R119, R120). -/
def syncLockCmd (g : Nat) (d : Dev) : Dev := d.decision g false syncLock
def syncUnlockCmd (g : Nat) (d : Dev) : Dev := d.decision g false fun _ s => syncUnlock s
def flywheelClearCmd (g : Nat) (d : Dev) : Dev := d.decision g false fun _ s => flywheelClear s

/-- FEEDBACK_HOLD_EXPIRY, FEEDBACK_PRIMARY_RETURN, FEEDBACK_DISAGREEMENT (R141, R142). -/
def feedbackHoldExpiryCmd (g n : Nat) (d : Dev) : Dev := d.decision g false fun c => feedbackHoldExpiry c n
def feedbackPrimaryReturnCmd (g n : Nat) (d : Dev) : Dev := d.decision g false fun _ => feedbackPrimaryReturn n
def feedbackDisagreementCmd (g n : Nat) (d : Dev) : Dev := d.decision g false fun c => feedbackDisagreement c n

/-- RIDE_ENTRY, RIDE_CURVE_TRIP, RIDE_TMAX, RIDE_EXIT, ANGLE_SEAT (R145, R152, R153, R155); not in a chopper-only group. -/
def Dev.rideDecision (g : Nat) (f : GCtx → GridSt → GridSt) (d : Dev) : Dev :=
  d.decision g false fun c s => if c.chopperOnly then s else f c s
def rideEntryCmd (g : Nat) (d : Dev) : Dev := d.rideDecision g rideEntry
def rideCurveTripCmd (g : Nat) (d : Dev) : Dev := d.rideDecision g rideCurveTrip
def rideTmaxCmd (g : Nat) (d : Dev) : Dev := d.rideDecision g rideTmax
def rideExitCmd (g : Nat) (d : Dev) : Dev := d.rideDecision g rideExit
def angleSeatCmd (g : Nat) (d : Dev) : Dev := d.rideDecision g angleSeat

/-- ISLANDING_DETECTED, ISLANDING_PULSE (R159, R160). -/
def islandingDetectedCmd (g : Nat) (d : Dev) : Dev := d.rideDecision g islandingDetected
def islandingPulseCmd (g : Nat) (d : Dev) : Dev := d.decision g true islandingPulse

/-- HARVEST_TRACK_STEP, HARVEST_SCAN_PERIOD, HARVEST_SCAN_END (R162, R164). -/
def harvestTrackStepCmd (g : Nat) (d : Dev) : Dev := d.decision g true harvestTrackStep
def harvestScanPeriodCmd (g : Nat) (d : Dev) : Dev := d.decision g true harvestScanPeriod
def harvestScanEndCmd (g : Nat) (d : Dev) : Dev := d.decision g true harvestScanEnd

/-- A decision on one arm in every computing channel. -/
def Dev.armDecision (t : Nat) (f : GCtx → ArmSt → ArmSt × List Nat) (d : Dev) : Dev :=
  match d.tileGroup t with
  | none => d
  | some g => d.each ((List.range 3).filter fun ch => d.computes ch t) fun ch d =>
    match ((d.cg ch g).cycles.filter (·.armDone)).getLast?, tabGet (d.cg ch g).arms t with
    | some cy, some a =>
      let old := (d.cg ch g).ctl
      let r := f (d.gctx g cy) a
      let d : Dev := d.modCg ch g fun x =>
        { x with arms := tabSet x.arms t r.1, ctl := { x.ctl with m := { x.ctl.m with raises := x.ctl.m.raises ++ r.2 } } }
      d.afterPart ch g old
    | _, _ => d

/-- ARM_ENERGY_FAULT (R170), OVERMODULATION_FAULT (R179). -/
def armEnergyFaultCmd (t : Nat) (d : Dev) : Dev := d.armDecision t fun c => armEnergyFault c.gc.arm.vbarN t
def overmodulationFaultCmd (t : Nat) (d : Dev) : Dev := d.armDecision t fun c => overmodulationFault c.gc.arm.ovmN t

/-- A brick whose parking is due for one of some reasons is parked at once, with this cycle's E (R193, R195, R196). -/
def Dev.parkNow (b : Nat) (why : List Nat) (f : Nat → Nat → Dev → Dev) (d : Dev) : Dev :=
  match d.brickIndex b, d.groupOf (b / 128) with
  | some (t, i), some g =>
    let h := d.grp g
    let e := h.openTick + quarterUs h.cfg.de + halfUs h.cfg.lead
    let due (ch : Nat) (d : Dev) : Nat := ((tabGet (d.ctile ch t).rank.bricks i).map (·.parkDue)).getD 0
    let n := due (d.reporting.getD 0) d
    let d : Dev := d.each ((List.range 3).filter fun ch => d.computes ch t && why.contains (due ch d)) fun ch d =>
      d.modCt ch t fun x => match tabGet x.rank.bricks i with
        | some k => { x with rank := { x.rank with bricks := tabSet x.rank.bricks i (parkBrick e k) } }
        | none => x
    if why.contains n then (d.count F.PL_RANK_FAULTS_PARKS t |> f t n) else d
  | _, _ => d

/-- BRICK_ABSENT (R193): after a run with a disputed cycle the report disagreement source is raised. -/
def brickAbsent (b : Nat) (d : Dev) : Dev :=
  d.parkNow b [1, 2] fun t n d => if n = 2 then (d.raise (tileSource t 6) b).flag F.PL_RANK_STATUS_DISPUTE_RAISED true t else d

/-- ECHO_PARK (R195). -/
def echoPark (b : Nat) (d : Dev) : Dev :=
  d.parkNow b [3] fun t _ d => (d.raise (tileSource t 7) b).flag F.PL_RANK_STATUS_ECHO_RAISED true t

/-- Admissions, and slots handed back, that come at the D_R of the present cycle, where no channel has scheduled it yet, reach every
channel's order of this cycle; else, and for a brick whose removal is waiting, they wait for the next D_R (R288). -/
def Dev.orderNow (g t : Nat) (d : Dev) : Dev :=
  let h := d.grp g
  let chans := (List.range 3).filter fun ch => d.computes ch t
  let fresh := chans.all fun ch => (d.ctile ch t).jobs.any fun j => j.k == h.k && decide (j.did ≤ 4)
  if fresh && !chans.isEmpty && h.drK == some h.k then
    let e := h.openTick + quarterUs h.cfg.de + halfUs h.cfg.lead
    let mine := (d.cm.ops.filter (·.1 == t)).map (·.2)
    let ops := mine.filter fun o => !mine.contains (0, o.2)
    let rest := waitingOps ops (d.shownRank t)
    let d : Dev := d.each chans fun ch d => d.modCt ch t fun x => { x with rank := orderOps e ops x.rank }
    { d with cm := { d.cm with ops := d.cm.ops.filter (fun o => o.1 != t || !ops.contains o.2 || rest.contains o.2) } }
  else d

/-- ADMISSION_FAIL (R198, R287): the brick is handed back and its slot is freed. -/
def admissionFail (b : Nat) (d : Dev) : Dev :=
  match d.brickIndex b, d.groupOf (b / 128) with
  | some (t, i), some g => if admissionOver i (d.shownRank t) then (d.handBack g t i).orderNow g t else d
  | _, _ => d

/-- AUTOMATIC_ADMISSION (R285, R288) at the D_R of the present cycle. -/
def automaticAdmissionCmd (b : Nat) (d : Dev) : Dev :=
  match d.brickIndex b, d.groupOf (b / 128) with
  | some (t, _), some g => (automaticAdmission b d).orderNow g t
  | _, _ => d

end Sys2Proof.Machine
end

