-- ==== Sys2Proof/Machine/ExecCourses.lean ====
section
/-! DEFINITION. Meanings of the commands: courses, bricks and points. -/

namespace Sys2Proof.Machine

/-- COURSE_END_WORKING (R278). -/
def execCourseEndWorking (dt : Nat) (c : Fin 64) (e : Fin 2) (s : State) : Host.Outcome State Fault Refusal :=
  .next (s.cmd dt (courseEndWorking c.val e.val))

/-- COURSE_SPLIT (R278). -/
def execCourseSplit (dt : Nat) (c : Fin 64) (s : State) : Host.Outcome State Fault Refusal :=
  .next (s.cmd dt (courseSplit c.val))

/-- DISCOVERY_COMPLETE (R279). -/
def execDiscoveryComplete (dt : Nat) (c : Fin 64) (s : State) : Host.Outcome State Fault Refusal :=
  .next (s.cmd dt (discoveryComplete c.val))

/-- BRICK_CHECK_COMPLETE (R283). -/
def execBrickCheckComplete (dt : Nat) (b : Fin 8192) (s : State) : Host.Outcome State Fault Refusal :=
  .next (s.cmd dt (brickCheckComplete b.val))

/-- ADMIT (R285). -/
def execAdmitCmd (dt : Nat) (x : Fin 8) (c : Fin 64) (pos : BitVec 7) (s : State) : Host.Outcome State Fault Refusal :=
  .next (s.cmd dt (admitCmd x.val c.val pos.toNat))

/-- REMOVE (R286). -/
def execRemove (dt : Nat) (x : Fin 8) (c : Fin 64) (pos : BitVec 7) (s : State) : Host.Outcome State Fault Refusal :=
  .next (s.cmd dt (remove x.val c.val pos.toNat))

/-- REDISCOVER (R289). -/
def execRediscover (dt : Nat) (x : Fin 8) (c : Fin 64) (s : State) : Host.Outcome State Fault Refusal :=
  .next (s.cmd dt (rediscover x.val c.val))

/-- MEASURE (R290). -/
def execMeasure (dt : Nat) (x : Fin 8) (c : Fin 64) (s : State) : Host.Outcome State Fault Refusal :=
  .next (s.cmd dt (measure x.val c.val))

/-- MEASURE_PERIOD (R290). -/
def execMeasurePeriod (dt : Nat) (c : Fin 64) (s : State) : Host.Outcome State Fault Refusal :=
  .next (s.cmd dt (measurePeriod c.val))

/-- AUTOMATIC_ADMISSION (R285). -/
def execAutomaticAdmission (dt : Nat) (b : Fin 8192) (s : State) : Host.Outcome State Fault Refusal :=
  .next (s.cmd dt (automaticAdmissionCmd b.val))

/-- POINT_READ (R292). -/
def execPointRead (dt : Nat) (x : Fin 8) (addr n : Nat) (s : State) : Host.Outcome State Fault Refusal :=
  .next (s.cmd dt (pointRead x.val addr n))

/-- POINT_WRITE (R292). -/
def execPointWrite (dt : Nat) (x : Fin 8) (addr : Nat) (vals : List Word) (fullBytes : Bool) (s : State) : Host.Outcome State Fault Refusal :=
  .next (s.cmd dt (pointWrite x.val addr (vals.map BitVec.toNat) fullBytes))

/-- POINT_TIMEOUT (R295). -/
def execPointTimeout (dt : Nat) (c : Fin 64) (tid : Byte) (s : State) : Host.Outcome State Fault Refusal :=
  .next (s.cmd dt (pointTimeout c.val tid.toNat))

/-- POINT_LIMIT (R297). -/
def execPointLimit (dt : Nat) (s : State) : Host.Outcome State Fault Refusal :=
  .next (s.cmd dt pointLimit)

/-- MIRROR_REFRESH (R294). -/
def execMirrorRefresh (dt : Nat) (c : Fin 64) (s : State) : Host.Outcome State Fault Refusal :=
  .next (s.cmd dt (mirrorRefresh c.val))

end Sys2Proof.Machine
end

