-- ==== Sys2Proof/Machine/Digest.lean ====
section
/-! DEFINITION. The digests the channels form (R353, R357): the words of a cycle's latched inputs and of a group's state, and their
CRC-32C. The spec gives the order of the inputs and the kinds of state; the word that holds each value is the model's choice (log entry
139). -/

namespace Sys2Proof.Machine

/-! Words -/

def wB (b : Bool) : Nat := if b then 1 else 0
def wI (x : Int) : Nat := toField 32 x
def wN (n : Nat) : List Nat := [n % 0x100000000, n / 0x100000000 % 0x100000000]
def wO (x : Option Int) : List Nat := match x with | some v => [1, wI v] | none => [0, 0]
def wV2 (v : V2) : List Nat := [wI v.d, wI v.q]
def wV3 (v : V3) : List Nat := [wI v.a, wI v.b, wI v.c]
def wV4 (v : V4) : List Nat := [wI v.dp, wI v.qp, wI v.dn, wI v.qn]
def wL (l : List Int) : List Nat := l.length :: l.map wI

/-- CRC-32C over words, each as four little-endian bytes. -/
def crcWords (l : List Nat) : Nat := crc32c (l.flatMap (leBytes 4))

/-! The input digest -/

/-- The inputs latched for a tile (R64, R353) in the order of R64's table: brick reports, sampled values and converter results as the
signals carry them, GI with its validity, set-points, the live table in force by its number, the course time of the opening. -/
def inputWords (i : GroupIn) (present : List (Nat × Nat)) : List Nat :=
  let sig (x : Option V3) : List Nat := match x with | some v => 1 :: wV3 v | none => [0]
  present.flatMap (fun p => [p.1, p.2]) ++ i.prim.flatMap sig ++ i.alt.flatMap sig ++ i.armI.flatMap wO ++ wN i.goose ++ wN i.gooseValid ++
    i.sp ++ [i.tables] ++ wN i.opening

/-! The state digest -/

/-- Words of the controllers, filters, integrators, ramps and counters of a group. -/
def ctlWords (s : GridSt) : List Nat :=
  let m := s.m; let y := s.sync; let r := s.ride; let u := s.cur; let l := s.loop; let f := s.fade; let i := s.isl; let h := s.harv
  let b := s.bal
  [modeCode m.mode, modeCode m.mode0, modeCode m.ret, wB m.phaseCtrl, m.ltHeld] ++ wN m.entryK ++
  wV2 y.posV ++ wV2 y.negV ++ wV2 y.posI ++ wV2 y.negI ++ wN y.acc ++ [wI y.xi, wI y.w, wB y.locked, wB y.fly, y.lockRun, y.unlockRun, y.flyRun,
    y.jumpRun, wB y.seatDue, y.seatSince, wB y.jumpTrip] ++
  s.det.hist.flatMap wV3 ++ wL s.det.vdets ++
  [r.acRun, r.dcRun, wI r.vPre, wI r.iDPre, wI r.iQPre, wI r.iqHeld, wB r.fromAc, wB r.dcOver, r.exitRun] ++ r.entries.flatMap wN ++ wN r.kAc ++
    wN r.kDc ++ r.curveRuns ++
  wV4 u.want ++ wV4 u.ref ++ wV4 u.x ++ wV4 u.n ++ wV4 u.out ++ [wB u.sat] ++
  [wI l.xp, wI l.xq, wI l.xvac, wI l.xdc, wI l.pR, wI l.qR, wI l.vacR, wI l.fR, wI l.vdcR, wI l.idRef, wI l.iqRef, wB l.recovP, wB l.recovQ,
    wB l.recovV, wI l.iDcRef, wI l.vLt, wI l.pFf] ++
  wN s.form.acc ++ [wI s.form.w, wI s.form.xv] ++ [f.left, f.k, f.f] ++ wV4 f.oh ++
  [i.fRun, i.aiCount, wB i.pulse, wB i.pulseOk, wB i.zDue, i.conf] ++ wL i.wHist ++ wL i.preSum ++ wL i.pulseSum ++ wO i.zNext ++
  [wI h.vTgt, wB h.up, h.holds, wI h.pPrev, wI h.xpv, wB h.curtailed, wB h.scanning, wI h.vBefore, wI h.bestV, wI h.bestP, wB h.frozen, wB h.skip] ++
    wN h.sincescan ++ wL h.pSum ++
  s.fb.flatMap (fun x => [wB x.alt, wB x.hold, x.holdRun, x.primRun, x.diffRun, wB x.raised, wB x.disagreed] ++ wV3 x.held) ++
  [wI b.xe, wI b.pDem, b.thDis, wB b.ran, wB b.demRan] ++ wL b.xh ++ wL b.xv ++ wL b.ih ++ wL b.g ++
  s.legs.flatMap (fun g => [wI g.xz, wI g.r1a, wI g.r1b, wI g.r2a, wI g.r2b, wI g.vz, wB g.hold, wB g.ran])

/-- Words of the Arm stage of a tile. -/
def armWords (a : ArmSt) : List Nat :=
  [wB a.sign, wB a.ovr, wB a.under, a.ovmRun, a.vbarRun, wB a.energyHeld, wI a.i, wI a.xch, wB a.dissip, wI a.chOut, wB a.chRan] ++ wO a.vChg

/-- Words of a tile's rank records: emitted words, ordered states, T_last, runs (R357). -/
def rankWords (r : RankSt) : List Nat :=
  r.bricks.flatMap fun p =>
    let b := p.2
    [p.1, (b.slot.map (· + 1)).getD 0, wB b.admitting, b.admitRun, wB b.removed, b.outcome, b.miss, wB b.disputed, b.echoRun, b.volt, b.ordered,
      wB b.resend, b.parkDue] ++ wN b.tLast ++ wO (b.fresh.map (Int.ofNat ·)) ++ b.words.flatMap fun w => [wB w.parked, w.slot] ++ wN w.e

/-- The words of a group's state in a channel (R357), `tiles` its tiles. -/
def stateWords (c : Chan) (g : Nat) (tiles : List Nat) : List Nat :=
  let x := nth c.grps g .init
  ctlWords x.ctl ++ x.arms.flatMap (fun a => a.1 :: armWords a.2) ++ tiles.flatMap fun t => t :: rankWords (nth c.tiles t .init).rank

/-- Every other word from the first. -/
def alternate : List Nat → List Nat
  | [] => []
  | [a] => [a]
  | a :: _ :: r => a :: alternate r

/-- The 64-bit state digest (R357): CRC-32C of the even-numbered words in its low half, of the odd-numbered in its high one. -/
def stateDigest (l : List Nat) : Nat := crcWords (alternate l) + 0x100000000 * crcWords (alternate (l.drop 1))

end Sys2Proof.Machine
end

