-- ==== Sys2Proof/Machine/Voters.lean ====
section
/-! DEFINITION. The voters, the deadline monitor and the emission deadline (R73 to R78, R96 to R111, R252 to R254, R353 to
R357). -/

namespace Sys2Proof.Machine

/-! Frame sets -/

/-- Entries in runs of at most n. -/
def chunks {α : Type} (n : Nat) : Nat → List α → List (List α)
  | 0, _ => []
  | k + 1, l => if l.isEmpty then [] else l.take n :: chunks n k (l.drop n)

/-- The frames Emit assembles for a tile's courses (R252, R254): per course its CYCLE frame and the RANK frames with the
words of its bricks. `upset` is a fault of the channel's logic: it spoils ON_LEN. -/
def Dev.jobFrames (d : Dev) (g t : Nat) (j : Job) (upset : Nat) : List (Nat × Frame) :=
  let h := d.grp g
  let tc := h.tile t
  if !hasStage tc 5 then [] else
  let e24 := (j.opening + quarterUs h.cfg.de + halfUs h.cfg.lead) % 0x1000000
  let l := halfUs h.cfg.cycle
  let cyc : CycleFrame := { group := g, tile := t, disch := j.discharge, sign := j.sign, block := j.blocked, e := e24,
                            openNext := (j.opening + l) % 0x1000000, tagNext := (j.k + 1) % 0x10000, cycleL := l, bound := j.bound,
                            nrank := j.nrank, onLen := j.onLen ^^^ upset }
  ((List.range tc.courses.length).zip tc.courses).flatMap fun ic =>
    let ws := (j.words.filter fun w => w.1 / 128 == ic.1).map fun w => (brickNumber tc.courses w.1, w.2.bits)
    (ic.2, Frame.cycle cyc) :: (chunks 125 17 ws).map fun es => (ic.2, Frame.rank t e24 es)

/-- A run of late cycles of a channel on a tile, and the longest over its tiles (TP_VOTE). -/
def Dev.setLate (ch t n : Nat) (d : Dev) : Dev :=
  let d : Dev := d.modVote t fun v => { v with lateRuns := setNth v.lateRuns ch n }
  d.set F.TP_VOTE_LATE_RUN (clampN 255 (d.tp.votes.foldl (fun m p => max m (nth p.2.lateRuns ch 0)) 0)) ch

/-- A channel whose frame sets and digests of a group count for nothing yet (R368): in COPY, or in SHADOW before the group's own first
opening. -/
def Dev.exempt (d : Dev) (ch g : Nat) : Bool :=
  d.chState ch == 4 || (d.chState ch == 5 && !((d.tp.resync.map fun r => r.shadow.any (·.1 == g)).getD false))

/-- The input digest a channel forms for a tile's cycle (R353). -/
def Dev.tileDigest (d : Dev) (ch g : Nat) (j : Job) : Nat :=
  match (d.cg ch g).cycles.find? (·.inp.k == j.k) with
  | some cy => crcWords (inputWords cy.inp j.present)
  | none => 0

/-- A channel's input digest reaches the voters (R353). -/
def Dev.takeDigest (ch t digest : Nat) (d : Dev) : Dev :=
  d.modVote t fun v => { v with digests := v.digests.filter (·.1 ≠ ch) ++ [(ch, digest)] }

/-- A late frame set (R355, R369): counted, its frames discarded; LATE_N in a row fence; a shadow run starts again. -/
def Dev.lateSet (ch g t : Nat) (d : Dev) : Dev :=
  let n := nth (d.vote t).lateRuns ch 0 + 1
  let d : Dev := (d.count F.TP_VOTE_LATE ch).setLate ch t n
  let d : Dev := if d.chState ch = 5 then
      { d with tp := { d.tp with resync := d.tp.resync.map fun r => { r with shadow := r.shadow.map fun x => if x.1 = g then (g, 0, 0) else x } } } else d
  if d.get F.TP_CFG_LATE_N ≤ n then (d.fenceChannel ch 4).voteAll else d

/-- Slack of a channel's set (R78). -/
def Dev.slack (ch t : Nat) (x : Int) (d : Dev) : Dev :=
  let s := clampI (-32767) 32767 x
  let fresh := nth (d.vote t).fresh ch true
  let m := if fresh ∨ d.get F.PL_SLACK_WMIN t ch = 0x8000 then s else min s (d.getI F.PL_SLACK_WMIN t ch)
  ((d.setI F.PL_SLACK_LAST s t ch).setI F.PL_SLACK_WMIN m t ch).modVote t fun v => { v with fresh := setNth v.fresh ch false }

/-- FRAME_SET_COMPLETE (R73, R78, R354, R355, R369): the oldest assembled set of a channel's tile reaches the lane dies, with the digest
it passed ahead of it, or the one it forms where no INPUT_DIGEST has brought it. -/
def frameSetComplete (ch t upset : Nat) (d : Dev) : Dev :=
  match d.tileGroup t, (d.ctile ch t).jobs.head? with
  | some g, some j =>
    if !d.computes ch t || j.next < 6 then d
    else
      let h := d.grp g
      let d : Dev := d.effectsTo ch g t j.k 5
      let j := ((d.ctile ch t).jobs.head?).getD j
      let dig := (tabGet (d.vote t).digests ch).getD (d.tileDigest ch g j)
      let fs : FrameSet := ⟨ch, j.k, dig, d.jobFrames g t j upset⟩
      let d : Dev := d.modCt ch t fun x => { x with jobs := x.jobs.drop 1 }
      let d : Dev := { d with tp := { d.tp with upsets := setNth d.tp.upsets ch upset } }
      if d.exempt ch g then d
      else
        let cut : Int := ((j.e : Int) - halfUs h.cfg.lead) - 150
        let d : Dev := d.slack ch t (cut - d.now)
        let v := d.vote t
        if v.closed || v.k != j.k then d.lateSet ch g t
        else (((d.setLate ch t 0).takeDigest ch t dig).modVote t fun v => { v with sets := v.sets ++ [fs] }).voteAll
  | _, _ => d

/-! Input and state digests -/

/-- INPUT_DIGEST (R353): the digest a channel forms over its latched inputs of the cycle at vote reaches the voters; `upset` is a fault of
the fan-out or of the channel (0: none). -/
def inputDigest (ch t upset : Nat) (d : Dev) : Dev :=
  let v := d.vote t
  match d.tileGroup t, (d.ctile ch t).jobs.find? (·.k == v.k) with
  | some g, some j =>
    if !d.computes ch t || v.closed || d.exempt ch g then d
    else (d.takeDigest ch t (d.tileDigest ch g j ^^^ upset)).voteAll
  | _, _ => d

/-- A channel's state digest differs from the majority (R357). -/
def Dev.digestBad (ch : Nat) (d : Dev) : Dev :=
  ((d.count F.TP_VOTE_DIGEST_BAD ch).count F.TP_CH_STRIKES ch).fenceChannel ch 2

/-- STATE_DIGEST_COMPARE (R357, R369): the digests of channels A, B and C, formed at the D_E of a cycle with k mod 64 = 0; the operands
are faults of their logic (0: none). -/
def stateDigestCompare (g uA uB uC : Nat) (d : Dev) : Dev :=
  let h := d.grp g
  if h.k % 64 ≠ 0 ∨ h.deK ≠ some h.k ∨ h.digK = some h.k then d
  else
    let dig (ch : Nat) : Nat := stateDigest (nth h.digWords ch []) ^^^ (if ch = 0 then uA else if ch = 1 then uB else uC)
    let d : Dev := d.modGrp g fun h => { h with digK := some h.k }
    let d : Dev := d.set F.TP_DIGEST_CYCLE (h.k % 0x1000000) g
    let l := d.serving
    let n (ch : Nat) : Nat := (l.filter fun y => dig y == dig ch).length
    let major := l.find? fun ch => decide (2 ≤ n ch) || l.length == 1
    let agree := match major with
      | some m => sumN ((l.filter fun ch => dig ch == dig m).map (2 ^ ·))
      | none => 0
    let d : Dev := d.set F.TP_DIGEST_AGREE agree g
    let d : Dev := match major with
      | some m => (l.filter fun ch => dig ch ≠ dig m).foldl (fun d ch => d.digestBad ch) d
      | none => if l.length = 3 then d.raise (0x24 + g) g else if l.length = 2 then d.raise (0x20 + g) g else d
    let d : Dev := match d.tp.resync with
      | some r =>
        if d.chState r.ch = 5 ∧ (r.shadow.any fun x => x.1 == g) then
          if l.all fun ch => dig ch == dig r.ch then
            { d with tp := { d.tp with resync := some { r with shadow := r.shadow.map fun x => if x.1 = g then (g, x.2.1, x.2.2 + 1) else x } } }
          else d.fenceChannel r.ch 6
        else d
      | none => d
    d.voteAll

/-! The cut-off -/

/-- The one complete channel of a bridging release (R356): in DUPLEX the other's set is absent and its heartbeat of this
period has come on neither path. -/
def Dev.bridging (d : Dev) (t : Nat) : Option FrameSet :=
  if d.triplex ≠ 2 ∨ (d.vote t).barred = true then none
  else match d.setsOf t with
    | [s] => match d.serving.find? (· ≠ s.ch) with
      | some y => if nth d.tp.hbSeen (hbAt s.ch y 0) false || nth d.tp.hbSeen (hbAt s.ch y 1) false then none else some s
      | none => none
    | _ => none

/-- A missed cycle of a tile (R74, R76). -/
def Dev.missCycle (t : Nat) (tc : TileCfg) (deTick limit : Nat) (d : Dev) : Dev :=
  let n := satInc 15 (d.get F.PL_STATUS_CONSEC t)
  let d : Dev := ((d.flag F.PL_STATUS_MISSED true t).count F.PL_MISSES_COUNT t).set F.PL_STATUS_CONSEC n t
  let d : Dev := d.each tc.courses fun c d => d.modCrs c fun r => { r with missed := true, cycleAt := deTick }
  if n = limit then d.raise (tileSource t 0) t else d

/-- A cycle without a release at the cut-off (R354, R74): complete sets that differ, by their digests too, raise the source. -/
def Dev.unreleased (g t : Nat) (tc : TileCfg) (deTick limit : Nat) (d : Dev) : Dev :=
  let l := d.setsOf t
  let differ := (twoEqual l).isNone && ((d.triplex == 1 && l.length == 3) || (d.triplex == 2 && l.length == 2))
  let d : Dev := if differ || (d.vote t).barred then d.count F.TP_VOTE_DEV_NO_MAJORITY else d
  let d : Dev := if differ then (if d.triplex = 1 then d.raise (0x14 + t) t else d.raise (0x20 + g) t) else d
  if d.triplex = 1 ∨ d.triplex = 2 ∨ d.triplex = 3 then d.missCycle t tc deTick limit else d

/-- A channel in SHADOW against every channel in service where nothing was released (R369). -/
def Dev.shadowUnreleased (t : Nat) (d : Dev) : Dev :=
  let v := d.vote t
  if v.released.isSome then d
  else (v.sets.filter fun s => d.chState s.ch == 5).foldl (fun d s => if (d.setsOf t).all s.same then d else d.fenceChannel s.ch 6) d

/-- VOTER_CUTOFF (R73, R74, R353 to R356): D_E − 0.30 µs of a tile's cycle. -/
def voterCutoff (t : Nat) (d : Dev) : Dev :=
  match d.tileGroup t with
  | none => d
  | some g =>
    let h := d.grp g
    let v := d.vote t
    if !h.started || v.closed || v.k != h.k then d
    else
      let de := h.openTick + quarterUs h.cfg.de
      let d : Dev := (d.until' (de - 150)).judgeDigests t true
      let d : Dev := d.voteAll
      let d : Dev := if (d.vote t).released.isSome then d
        else match d.bridging t with
          | some s => (d.count F.TP_VOTE_DEV_BRIDGED).release t s
          | none => d.unreleased g t (h.tile t) de h.cfg.missLimit
      let d : Dev := d.shadowUnreleased t
      d.modVote t fun v => { v with closed := true, delivered := (List.range 3).map fun ch => nth v.delivered ch true && v.sets.any fun s => s.ch == ch }

/-! D_E -/

/-- The outcome of one cycle shown at a D_E (R96, R97, R101, R104, R105, R111). A cycle that is late shows at the next D_E (log entry
88). -/
def Dev.showOutcome (g : Nat) (d : Dev) (o : CycleOut) : Dev :=
  let m := o.m
  let code := modeCode m.mode
  let d : Dev := if code ≠ d.gpMode g then ((d.setKept F.GP_MODE_MODE code g).eventAll (1 + g)).modGrp g fun h => { h with lastMode := code } else d
  let d : Dev := (d.set F.GP_MODE_PREV (modeCode m.prev) g).set F.GP_MODE_CAUSE m.cause g
  let d : Dev := (d.set F.GP_MODE_RETURN (modeCode m.ret) g).set F.GP_MODE_SINCE_CYCLE (m.entryK % 0x100000000) g
  let deb := decide (3 ≤ code) || (m.mode == .charge && m.phaseCtrl)
  let d : Dev := (d.flag F.GP_MODE_DEBLOCKED deb g).set F.GP_LINETEST_OUTCOME m.ltOutcome g
  let d : Dev := d.set F.GP_LINETEST_PEAK (clampN 0xFFFF (m.ltPeak / 0x10000)) g
  match m.result with
  | some (code, tag) => (d.set F.GP_MODE_STATUS_RESULT code g).set F.GP_MODE_STATUS_TAG tag g
  | none => d

/-- The conditions of R98 that the hub holds, in GP_PRECOND at a D_E at which no channel reports; those that a channel evaluates keep
what the last one found (log entry 122). -/
def Dev.hubPrecond (g : Nat) (d : Dev) : Dev :=
  let h := d.grp g
  let d : Dev := ((d.flag F.GP_PRECOND_FAULT_CLEAR (d.faultClear g) g).flag F.GP_PRECOND_SAFETY_OK (d.safetyOk g) g).flag
    F.GP_PRECOND_TRIPLEX_OK (d.triplex == 1 || d.triplex == 2) g
  let d : Dev := (d.flag F.GP_PRECOND_LEAD_OK (h.tiles.all fun t => !d.leadShort t.1) g).flag F.GP_PRECOND_SP_VALID h.spValid g
  d.set F.GP_PRECOND_INTERLOCK_OK (sumN ((List.range 12).map fun m => 2 ^ m * bit (interlockPasses h.mode d.si.gi m))) g

/-- GP_PRECOND at a D_E (R98): the conditions the hub holds as they stand now, the others on the inputs of the newest cycle of the
reporting channel (log entry 122). -/
def Dev.showPrecond (g : Nat) (d : Dev) : Dev :=
  match d.reporting.bind fun ch => (((d.cg ch g).cycles.filter (·.condDone)).getLast?).map fun cy => (ch, cy) with
  | none => d.hubPrecond g
  | some (ch, cy) =>
  let h := d.grp g
  let inp := { cy.inp with faultClear := d.faultClear g, safetyOk := d.safetyOk g, triplexOk := d.triplex == 1 || d.triplex == 2,
                           leadOk := h.tiles.all fun t => !d.leadShort t.1, spValid := h.spValid, goose := d.si.gi }
  let p := precondBits (d.gctx g { cy with inp := inp }) (d.cg ch g).ctl
  let on (n : Nat) : Bool := testBit p n
  let d : Dev := ((d.flag F.GP_PRECOND_FAULT_CLEAR (on 0) g).flag F.GP_PRECOND_SAFETY_OK (on 1) g).flag F.GP_PRECOND_TRIPLEX_OK (on 2) g
  let d : Dev := ((d.flag F.GP_PRECOND_LEAD_OK (on 3) g).flag F.GP_PRECOND_BRICKS_OK (on 4) g).flag F.GP_PRECOND_SP_VALID (on 5) g
  let d : Dev := ((d.flag F.GP_PRECOND_SYNC_LOCKED (on 6) g).flag F.GP_PRECOND_DEAD_BUS (on 7) g).flag F.GP_PRECOND_ENERGY_OK (on 8) g
  let d : Dev := ((d.flag F.GP_PRECOND_SPREAD_OK (on 9) g).flag F.GP_PRECOND_DC_BAND_OK (on 10) g).flag F.GP_PRECOND_PV_WINDOW_OK (on 11) g
  (d.flag F.GP_PRECOND_LINE_RESIDUAL_OK (on 12) g).set F.GP_PRECOND_INTERLOCK_OK (p / 0x10000) g

/-- The end of a command latched while no channel is in service: PREEMPTED where a forced request changes the mode (R102), DONE for a
cancel (R99); for any other, which no Condition stage evaluates, the spec is silent, and the model shows no RESULT (log entry 169). -/
def Dev.endLatched (g : Nat) (forced : Bool) (d : Dev) : Dev :=
  match (d.grp g).latched with
  | none => d
  | some c =>
    if forced then (d.set F.GP_MODE_STATUS_RESULT rPreempted g).set F.GP_MODE_STATUS_TAG c.tag g
    else if c.cancel then (d.set F.GP_MODE_STATUS_RESULT rDone g).set F.GP_MODE_STATUS_TAG c.tag g
    else d

/-- A D_E while no channel computes (R103, R365): the hub itself holds the mode, shows BLOCKED for a forced request, with a running fade
ended (R110), and ends the command latched at the opening. -/
def Dev.forceShown (g : Nat) (d : Dev) : Dev :=
  let h := d.grp g
  let mode := d.gpMode g
  match h.forcedIn with
  | none => d.endLatched g false
  | some cause =>
    if mode = 0 ∨ mode = 2 then d.endLatched g false
    else
      let d : Dev := ((d.setKept F.GP_MODE_MODE 2 g).eventAll (1 + g)).modGrp g fun h => { h with lastMode := 2, span := none }
      let d : Dev := ((d.set F.GP_MODE_PREV mode g).set F.GP_MODE_CAUSE cause g).set F.GP_MODE_SINCE_CYCLE (h.k % 0x100000000) g
      let d : Dev := ((d.flag F.GP_MODE_DEBLOCKED false g).flag F.GP_MODE_FADING false g).set F.GP_HANDOVER_FADE_LEFT 0 g
      let d : Dev := d.endLatched g true
      if mode = 11 then d.set F.GP_LINETEST_OUTCOME 3 g else d

/-- The hand-over registers (R109). -/
def Dev.showFade (g : Nat) (d : Dev) : Dev :=
  let f := (d.shownCtl g).fade
  ((d.flag F.GP_MODE_FADING (decide (f.f ≠ 0)) g).set F.GP_HANDOVER_FADE_LEFT f.left g).set F.GP_HANDOVER_DIFF f.diff g

/-- A released set orders every brick blocked. -/
def FrameSet.blocked (s : FrameSet) : Bool := s.frames.all fun p => match p.2 with | .cycle f => f.block | _ => true

/-- The wider deblocked span at a D_E (R87). -/
def Dev.spanAtDe (g : Nat) (d : Dev) : Dev :=
  let h := d.grp g
  let mode := d.gpMode g
  if mode = 1 ∨ 3 ≤ mode then (d.flag F.GP_MODE_SWITCHING true g).modGrp g fun h => { h with switchEnd := 0 }
  else if d.on F.GP_MODE_SWITCHING g && h.switchEnd == 0 then
    let all := h.tiles.all fun x => match (d.vote x.1).released with | some s => s.blocked | none => false
    if all then d.modGrp g fun h => { h with switchEnd := h.openTick + quarterUs h.cfg.de + halfUs h.cfg.lead } else d
  else d

/-- Least run of a shadow over the built groups (TP_CH_x.SHADOW). -/
def Dev.showShadow (d : Dev) : Dev :=
  match d.tp.resync with
  | none => d
  | some r =>
    let runs := ((List.range 4).filter fun g => (d.grp g).built).map fun g => ((r.shadow.find? (·.1 == g)).map (·.2.1)).getD 0
    d.set F.TP_CH_SHADOW (clampN 256 (match runs with | [] => 0 | a :: l => l.foldl min a)) r.ch

/-- At the D_E of a cycle with k mod 64 = 0 each channel forms the words of its state digest (R357): its state as the cycle leaves it, the
effects of the cycle taken. -/
def Dev.digestAtDe (g : Nat) (d : Dev) : Dev :=
  let h := d.grp g
  if h.k % 64 ≠ 0 then d
  else
    let tiles := h.tiles.map (·.1)
    let d : Dev := d.each ((List.range 3).filter d.computesAny) fun ch d => tiles.foldl (fun d t => d.settleJobs ch g t) d
    d.modGrp g fun h => { h with digWords := (List.range 3).map fun ch => stateWords (d.chan ch) g tiles }

/-- The shadow run and the copy at a D_E of the group (R368, R369). -/
def Dev.resyncAtDe (g : Nat) (d : Dev) : Dev :=
  match d.tp.resync with
  | none => d
  | some r =>
    let h := d.grp g
    if d.chState r.ch = 5 ∧ (r.shadow.any fun x => x.1 == g) then
      let ok := h.tiles.all fun x => (d.vote x.1).sets.any fun s => s.ch == r.ch
      let next (x : Nat × Nat × Nat) : Nat × Nat × Nat := if x.1 = g then (if ok then (g, satInc 256 x.2.1, x.2.2) else (g, 0, 0)) else x
      ({ d with tp := { d.tp with resync := some { r with shadow := r.shadow.map next } } } : Dev).showShadow
    else if d.chState r.ch = 4 ∧ r.donor.isSome ∧ r.copyAt = 0 ∧ ((r.left.head?).map fun t => (d.tileGroup t == some g)) = some true then
      { d with tp := { d.tp with resync := some { r with copyAt := max 1 d.now } } }
    else d

/-- EMISSION_DEADLINE (R87, R96 to R98, R101, R103, R111): D_E of the group's cycle. -/
def emissionDeadline (g : Nat) (d : Dev) : Dev :=
  let h := d.grp g
  if !h.started ∨ h.deK = some h.k then d
  else
    let d : Dev := (d.until' (h.openTick + quarterUs h.cfg.de)).modGrp g fun h => { h with deK := some h.k }
    let outs : List CycleOut := match d.reporting with
      | some ch => ((d.cg ch g).outs.filter fun (o : CycleOut) => decide (o.k ≤ h.k) && (match h.shownK with | some s => decide (s < o.k) | none => true)).reverse
      | none => []
    let was := d.gpMode g
    let d : Dev := outs.foldl (Dev.showOutcome g) d
    let d : Dev := if outs.isEmpty then d else d.showFade g
    let d : Dev := (if d.reporting.isNone then d.forceShown g else d).showPrecond g
    let d : Dev := match outs.getLast? with
      | some o => d.modGrp g fun h => { h with shownK := some o.k, span := h.span.filter fun k => decide (o.k < k) }
      | none => d
    let d : Dev := d.spanAtDe g
    let d : Dev := if d.gpMode g = 7 ∧ was ≠ 7 ∧ (d.grp g).tables.cv.harv.perBrick = true then d.writeTracking g else d
    (d.digestAtDe g).resyncAtDe g

end Sys2Proof.Machine
end

