-- ==== Sys2Proof/Machine/ExecCycle.lean ====
section
/-! DEFINITION. Meanings of the commands: the control cycle, set-points and mode commands. -/

namespace Sys2Proof.Machine

/-- CYCLE_OPENING (R61). -/
def execCycleOpening (g : Fin 4) (s : State) : Host.Outcome State Fault Refusal :=
  .next (s.cmd 0 (cycleOpening g.val))

/-- INTAKE_CUTOFF (R303). -/
def execIntakeCutoff (g : Fin 4) (s : State) : Host.Outcome State Fault Refusal :=
  .next (s.cmd 0 (intakeCutoff g.val))

/-- REPORT_DEADLINE (R64). -/
def execReportDeadline (g : Fin 4) (s : State) : Host.Outcome State Fault Refusal :=
  .next (s.cmd 0 (reportDeadline g.val))

/-- STAGE_COMPLETE (R67). -/
def execStageComplete (dt : Nat) (ch : Fin 3) (t : Fin 12) (stage : Fin 6) (s : State) : Host.Outcome State Fault Refusal :=
  .next (s.cmd dt (stageComplete ch.val t.val stage.val))

/-- FRAME_SET_COMPLETE (R73). -/
def execFrameSetComplete (dt : Nat) (ch : Fin 3) (t : Fin 12) (upset : Nat) (s : State) : Host.Outcome State Fault Refusal :=
  .next (s.cmd dt (frameSetComplete ch.val t.val upset))

/-- VOTER_CUTOFF (R74). -/
def execVoterCutoff (t : Fin 12) (s : State) : Host.Outcome State Fault Refusal :=
  .next (s.cmd 0 (voterCutoff t.val))

/-- EMISSION_DEADLINE (R97). -/
def execEmissionDeadline (g : Fin 4) (s : State) : Host.Outcome State Fault Refusal :=
  .next (s.cmd 0 (emissionDeadline g.val))

/-- SETPOINT_COMMIT (R82). -/
def execSetpointCommit (dt : Nat) (x : Fin 8) (g : Fin 4) (tag : BitVec 16) (s : State) : Host.Outcome State Fault Refusal :=
  .next (s.cmd dt (setpointCommit x.val g.val tag.toNat))

/-- MODE_COMMAND (R95). -/
def execModeCommand (dt : Nat) (x : Fin 8) (g : Fin 4) (target : BitVec 4) (tag : BitVec 16) (s : State) : Host.Outcome State Fault Refusal :=
  .next (s.cmd dt (modeCommand x.val g.val target.toNat tag.toNat))

end Sys2Proof.Machine
end

