-- ==== Sys2Proof/Machine/ExecDma.lean ====
section
/-! DEFINITION. Meanings of the commands: the transfer engine. -/

namespace Sys2Proof.Machine

/-- CLAIM (R443). -/
def execClaim (dt : Nat) (x : Fin 8) (n : Fin 32) (s : State) : Host.Outcome State Fault Refusal :=
  .next (s.cmd dt (claim x.val n.val))

/-- RELEASE_CHANNEL (R462). -/
def execReleaseChannel (dt : Nat) (x : Fin 8) (n : Fin 32) (s : State) : Host.Outcome State Fault Refusal :=
  .next (s.cmd dt (releaseChannel x.val n.val))

/-- ARM (R449). -/
def execArm (dt : Nat) (x : Fin 8) (n : Fin 32) (s : State) : Host.Outcome State Fault Refusal :=
  .next (s.cmd dt (arm x.val n.val))

/-- PAUSE (R459). -/
def execPause (dt : Nat) (x : Fin 8) (n : Fin 32) (s : State) : Host.Outcome State Fault Refusal :=
  .next (s.cmd dt (pause x.val n.val))

/-- RESUME (R460). -/
def execResume (dt : Nat) (x : Fin 8) (n : Fin 32) (s : State) : Host.Outcome State Fault Refusal :=
  .next (s.cmd dt (resume x.val n.val))

/-- ABORT (R459). -/
def execAbort (dt : Nat) (x : Fin 8) (n : Fin 32) (s : State) : Host.Outcome State Fault Refusal :=
  .next (s.cmd dt (abort x.val n.val))

/-- DISARM (R449). -/
def execDisarm (dt : Nat) (x : Fin 8) (n : Fin 32) (s : State) : Host.Outcome State Fault Refusal :=
  .next (s.cmd dt (disarm x.val n.val))

/-- DMA_SEGMENT_BOUNDARY (R458). -/
def execDmaSegmentBoundary (dt : Nat) (port : Fin 2) (reads : SegReads) (s : State) : Host.Outcome State Fault Refusal :=
  .next (s.cmd dt (dmaSegmentBoundary port.val reads.bad reads.errs))

/-- DMA_READ_COMPLETION (R458). -/
def execDmaReadCompletion (dt : Nat) (n : Fin 32) (bytes : List (BitVec 8)) (ok : Bool) (s : State) : Host.Outcome State Fault Refusal :=
  .next (s.cmd dt (dmaReadCompletion n.val bytes ok))

/-- DMA_READ_TIMEOUT (R459). -/
def execDmaReadTimeout (dt : Nat) (n : Fin 32) (s : State) : Host.Outcome State Fault Refusal :=
  .next (s.cmd dt (dmaReadTimeout n.val))

/-- DMA_PASS_END (R450). -/
def execDmaPassEnd (dt : Nat) (n : Fin 32) (s : State) : Host.Outcome State Fault Refusal :=
  .next (s.cmd dt (dmaPassEnd n.val))

/-- DMA_FLUSH_COMPLETE (R457). -/
def execDmaFlushComplete (dt : Nat) (n : Fin 32) (ok : Bool) (s : State) : Host.Outcome State Fault Refusal :=
  .next (s.cmd dt (dmaFlushComplete n.val ok))

/-- DMA_DESCRIPTOR_FETCH (R447). -/
def execDmaDescriptorFetch (dt : Nat) (n : Fin 32) (bytes : List (BitVec 8)) (ok : Bool) (s : State) : Host.Outcome State Fault Refusal :=
  .next (s.cmd dt (dmaDescriptorFetch n.val bytes ok))

/-- DMA_CHANNEL_STOPPED (R459). -/
def execDmaChannelStopped (dt : Nat) (n : Fin 32) (s : State) : Host.Outcome State Fault Refusal :=
  .next (s.cmd dt (dmaChannelStopped n.val))

/-- DMA_ACKNOWLEDGE (R456). -/
def execDmaAcknowledge (dt : Nat) (x : Fin 8) (n : Fin 32) (half full : Bool) (again : Word) (s : State) : Host.Outcome State Fault Refusal :=
  .next (s.cmd dt (dmaAcknowledge x.val n.val half full again.toNat))

end Sys2Proof.Machine
end

