-- ==== Sys2Proof/Machine/ExecFaults.lean ====
section
/-! DEFINITION. Meanings of the commands: the fault collector. -/

namespace Sys2Proof.Machine

/-- FAULT_RAISE (R380). -/
def execFaultRaise (dt : Nat) (n : Fin 512) (detail : Word) (holds : Bool) (s : State) : Host.Outcome State Fault Refusal :=
  .next (s.cmd dt (faultRaise n.val detail.toNat holds))

/-- LOG_RECORD_COMMIT (R381). -/
def execLogRecordCommit (dt : Nat) (s : State) : Host.Outcome State Fault Refusal :=
  .next (s.cmd dt logRecordCommit)

/-- FAULT_CLEAR (R385). -/
def execFaultClear (dt : Nat) (x : Fin 8) (w : Fin 16) (mask : Word) (s : State) : Host.Outcome State Fault Refusal :=
  .next (s.cmd dt (faultClear x.val w.val mask.toNat))

/-- COLLECTOR_SELF_CHECK (R392). -/
def execCollectorSelfCheck (dt corrected : Nat) (mismatch : Bool) (s : State) : Host.Outcome State Fault Refusal :=
  .next (s.cmd dt (collectorSelfCheck corrected mismatch))

/-- ERR_N_RELEASE (R388). -/
def execErrNRelease (dt : Nat) (s : State) : Host.Outcome State Fault Refusal :=
  .next (s.cmd dt errNRelease)

/-- CLEAR_FIRST (R389). -/
def execClearFirst (dt : Nat) (x : Fin 8) (s : State) : Host.Outcome State Fault Refusal :=
  .next (s.cmd dt (clearFirst x.val))

/-- ERASE_LOG (R391). -/
def execEraseLog (dt : Nat) (x : Fin 8) (s : State) : Host.Outcome State Fault Refusal :=
  .next (s.cmd dt (eraseLog x.val))

/-- LOG_INDEX_WRITE (R391). -/
def execLogIndexWrite (dt : Nat) (x : Fin 8) (idx : LogIdx) (s : State) : Host.Outcome State Fault Refusal :=
  .next (s.cmd dt (logIndexWrite x.val idx.index.toNat idx.errs))

/-- INJECT (R393). -/
def execInject (dt : Nat) (x : Fin 8) (target : BitVec 3) (tile : BitVec 4) (real : Bool) (two : Bool) (s : State) : Host.Outcome State Fault Refusal :=
  .next (s.cmd dt (inject x.val target.toNat tile.toNat real two))

/-- INJECTION_ARMED (R393). -/
def execInjectionArmed (dt : Nat) (s : State) : Host.Outcome State Fault Refusal :=
  .next (s.cmd dt injectionArmed)

/-- INJECTION_FIRE (R394). -/
def execInjectionFire (dt : Nat) (syndrome : Bool) (s : State) : Host.Outcome State Fault Refusal :=
  .next (s.cmd dt (injectionFire syndrome))

/-- INJECTION_EXPIRED (R393). -/
def execInjectionExpired (dt : Nat) (s : State) : Host.Outcome State Fault Refusal :=
  .next (s.cmd dt injectionExpired)

/-- IRQ_PENDING_CLEAR (R440). -/
def execIrqPendingClear (dt : Nat) (x y : Fin 8) (fault : Bool) (mask again : Word) (s : State) : Host.Outcome State Fault Refusal :=
  .next (s.cmd dt (irqPendingClear x.val y.val fault mask.toNat again.toNat))

end Sys2Proof.Machine
end

