-- ==== Sys2Proof/Machine/ExecGrid.lean ====
section
/-! DEFINITION. Meanings of the commands: what the stages decide. -/

namespace Sys2Proof.Machine

/-- DISCHARGE_TIMEOUT (R104). -/
def execDischargeTimeout (dt : Nat) (g : Fin 4) (s : State) : Host.Outcome State Fault Refusal :=
  .next (s.cmd dt (dischargeTimeoutCmd g.val))

/-- LINE_TEST_HOLD_END (R105). -/
def execLineTestHoldEnd (dt : Nat) (g : Fin 4) (s : State) : Host.Outcome State Fault Refusal :=
  .next (s.cmd dt (lineTestHoldEndCmd g.val))

/-- FADE_END (R109). -/
def execFadeEnd (dt : Nat) (g : Fin 4) (s : State) : Host.Outcome State Fault Refusal :=
  .next (s.cmd dt (fadeEndCmd g.val))

/-- SYNC_LOCK (R119). -/
def execSyncLock (dt : Nat) (g : Fin 4) (s : State) : Host.Outcome State Fault Refusal :=
  .next (s.cmd dt (syncLockCmd g.val))

/-- SYNC_UNLOCK (R119). -/
def execSyncUnlock (dt : Nat) (g : Fin 4) (s : State) : Host.Outcome State Fault Refusal :=
  .next (s.cmd dt (syncUnlockCmd g.val))

/-- FLYWHEEL_CLEAR (R120). -/
def execFlywheelClear (dt : Nat) (g : Fin 4) (s : State) : Host.Outcome State Fault Refusal :=
  .next (s.cmd dt (flywheelClearCmd g.val))

/-- FEEDBACK_HOLD_EXPIRY (R142). -/
def execFeedbackHoldExpiry (dt : Nat) (g n : Fin 4) (s : State) : Host.Outcome State Fault Refusal :=
  .next (s.cmd dt (feedbackHoldExpiryCmd g.val n.val))

/-- FEEDBACK_PRIMARY_RETURN (R141). -/
def execFeedbackPrimaryReturn (dt : Nat) (g n : Fin 4) (s : State) : Host.Outcome State Fault Refusal :=
  .next (s.cmd dt (feedbackPrimaryReturnCmd g.val n.val))

/-- FEEDBACK_DISAGREEMENT (R141). -/
def execFeedbackDisagreement (dt : Nat) (g n : Fin 4) (s : State) : Host.Outcome State Fault Refusal :=
  .next (s.cmd dt (feedbackDisagreementCmd g.val n.val))

/-- SETPOINT_SOURCE_LOSS (R137). -/
def execSetpointSourceLoss (dt : Nat) (g : Fin 4) (s : State) : Host.Outcome State Fault Refusal :=
  .next (s.cmd dt (setpointSourceLoss g.val))

/-- SETPOINT_SOURCE_RETURN (R137). -/
def execSetpointSourceReturn (dt : Nat) (g k : Fin 4) (s : State) : Host.Outcome State Fault Refusal :=
  .next (s.cmd dt (setpointSourceReturn g.val k.val))

/-- RIDE_ENTRY (R145). -/
def execRideEntry (dt : Nat) (g : Fin 4) (s : State) : Host.Outcome State Fault Refusal :=
  .next (s.cmd dt (rideEntryCmd g.val))

/-- RIDE_CURVE_TRIP (R152). -/
def execRideCurveTrip (dt : Nat) (g : Fin 4) (s : State) : Host.Outcome State Fault Refusal :=
  .next (s.cmd dt (rideCurveTripCmd g.val))

/-- RIDE_TMAX (R152). -/
def execRideTmax (dt : Nat) (g : Fin 4) (s : State) : Host.Outcome State Fault Refusal :=
  .next (s.cmd dt (rideTmaxCmd g.val))

/-- RIDE_EXIT (R153). -/
def execRideExit (dt : Nat) (g : Fin 4) (s : State) : Host.Outcome State Fault Refusal :=
  .next (s.cmd dt (rideExitCmd g.val))

/-- ANGLE_SEAT (R155). -/
def execAngleSeat (dt : Nat) (g : Fin 4) (s : State) : Host.Outcome State Fault Refusal :=
  .next (s.cmd dt (angleSeatCmd g.val))

/-- ISLANDING_DETECTED (R160). -/
def execIslandingDetected (dt : Nat) (g : Fin 4) (s : State) : Host.Outcome State Fault Refusal :=
  .next (s.cmd dt (islandingDetectedCmd g.val))

/-- ISLANDING_PULSE (R159). -/
def execIslandingPulse (dt : Nat) (g : Fin 4) (s : State) : Host.Outcome State Fault Refusal :=
  .next (s.cmd dt (islandingPulseCmd g.val))

/-- HARVEST_TRACK_STEP (R162). -/
def execHarvestTrackStep (dt : Nat) (g : Fin 4) (s : State) : Host.Outcome State Fault Refusal :=
  .next (s.cmd dt (harvestTrackStepCmd g.val))

/-- HARVEST_SCAN (R164). -/
def execHarvestScan (dt : Nat) (x : Fin 8) (g : Fin 4) (s : State) : Host.Outcome State Fault Refusal :=
  .next (s.cmd dt (harvestScan x.val g.val))

/-- HARVEST_SCAN_PERIOD (R164). -/
def execHarvestScanPeriod (dt : Nat) (g : Fin 4) (s : State) : Host.Outcome State Fault Refusal :=
  .next (s.cmd dt (harvestScanPeriodCmd g.val))

/-- HARVEST_SCAN_END (R164). -/
def execHarvestScanEnd (dt : Nat) (g : Fin 4) (s : State) : Host.Outcome State Fault Refusal :=
  .next (s.cmd dt (harvestScanEndCmd g.val))

/-- ARM_ENERGY_FAULT (R170). -/
def execArmEnergyFault (dt : Nat) (t : Fin 12) (s : State) : Host.Outcome State Fault Refusal :=
  .next (s.cmd dt (armEnergyFaultCmd t.val))

/-- OVERMODULATION_FAULT (R179). -/
def execOvermodulationFault (dt : Nat) (t : Fin 12) (s : State) : Host.Outcome State Fault Refusal :=
  .next (s.cmd dt (overmodulationFaultCmd t.val))

/-- BRICK_ABSENT (R193). -/
def execBrickAbsent (dt : Nat) (b : Fin 8192) (s : State) : Host.Outcome State Fault Refusal :=
  .next (s.cmd dt (brickAbsent b.val))

/-- ECHO_PARK (R195). -/
def execEchoPark (dt : Nat) (b : Fin 8192) (s : State) : Host.Outcome State Fault Refusal :=
  .next (s.cmd dt (echoPark b.val))

/-- ADMISSION_FAIL (R198). -/
def execAdmissionFail (dt : Nat) (b : Fin 8192) (s : State) : Host.Outcome State Fault Refusal :=
  .next (s.cmd dt (admissionFail b.val))

end Sys2Proof.Machine
end

