-- ==== Sys2Proof/Machine/ExecHost.lean ====
section
/-! DEFINITION. Meanings of the commands: ports, contexts and translation. -/

namespace Sys2Proof.Machine

/-- OPEN (R428). -/
def execOpen' (dt : Nat) (x : Fin 8) (mse : Bool) (ctl : FnControl) (s : State) : Host.Outcome State Fault Refusal :=
  .next (s.cmd dt (open' x.val mse ctl.d0 ctl.timeout.toNat ctl.maxRead.toNat ctl.maxPayload.toNat))

/-- CLOSE (R429). -/
def execClose (dt : Nat) (x : Fin 8) (s : State) : Host.Outcome State Fault Refusal :=
  .next (s.cmd dt (close x.val))

/-- FUNCTION_LEVEL_RESET (R429). -/
def execFunctionLevelReset (dt : Nat) (x : Fin 8) (s : State) : Host.Outcome State Fault Refusal :=
  .next (s.cmd dt (functionLevelReset x.val))

/-- D3HOT_ENTRY (R429). -/
def execD3hotEntry (dt : Nat) (x : Fin 8) (s : State) : Host.Outcome State Fault Refusal :=
  .next (s.cmd dt (d3hotEntry x.val))

/-- LINK_LEAVES_L0 (R442). -/
def execLinkLeavesL0 (dt : Nat) (p : Fin 2) (s : State) : Host.Outcome State Fault Refusal :=
  .next (s.cmd dt (linkLeavesL0 p.val))

/-- LINK_RECOVERY_TIMEOUT (R429). -/
def execLinkRecoveryTimeout (dt : Nat) (p : Fin 2) (s : State) : Host.Outcome State Fault Refusal :=
  .next (s.cmd dt (linkRecoveryTimeout p.val))

/-- CONTEXT_CLOSED (R429). -/
def execContextClosed (dt : Nat) (x : Fin 8) (s : State) : Host.Outcome State Fault Refusal :=
  .next (s.cmd dt (contextClosed x.val))

/-- BUS_MASTER_DISABLE (R430). -/
def execBusMasterDisable (dt : Nat) (x : Fin 8) (s : State) : Host.Outcome State Fault Refusal :=
  .next (s.cmd dt (busMasterDisable x.val))

/-- ROLE_WRITE (R426). -/
def execRoleWrite (dt : Nat) (x y : Fin 8) (role : BitVec 2) (s : State) : Host.Outcome State Fault Refusal :=
  .next (s.cmd dt (roleWrite x.val y.val role.toNat))

/-- GIVE (R426). -/
def execGive (dt : Nat) (x target : Fin 8) (s : State) : Host.Outcome State Fault Refusal :=
  .next (s.cmd dt (give x.val target.val))

/-- CLAIM_OWNER (R426). -/
def execClaimOwner (dt : Nat) (x : Fin 8) (s : State) : Host.Outcome State Fault Refusal :=
  .next (s.cmd dt (claimOwner x.val))

/-- MMU_CONFIG_WRITE (R435). -/
def execMmuConfigWrite (dt : Nat) (x y : Fin 8) (root : Bool) (v : BitVec 64) (s : State) : Host.Outcome State Fault Refusal :=
  .next (s.cmd dt (mmuConfigWrite x.val y.val root v.toNat))

/-- INV_ALL (R437). -/
def execInvAll (dt : Nat) (x y : Fin 8) (s : State) : Host.Outcome State Fault Refusal :=
  .next (s.cmd dt (invAll x.val y.val))

/-- INV_PAGE (R437). -/
def execInvPage (dt : Nat) (x y : Fin 8) (s : State) : Host.Outcome State Fault Refusal :=
  .next (s.cmd dt (invPage x.val y.val))

/-- INVALIDATION_COMPLETE (R437). -/
def execInvalidationComplete (dt : Nat) (y : Fin 8) (s : State) : Host.Outcome State Fault Refusal :=
  .next (s.cmd dt (invalidationComplete y.val))

/-- TRANSLATION_WALK_COMPLETE (R436). -/
def execTranslationWalkComplete (dt : Nat) (x : Fin 8) (entry : BitVec 64) (status : Nat) (s : State) : Host.Outcome State Fault Refusal :=
  .next (s.cmd dt (translationWalkComplete x.val entry.toNat status))

/-- PCIE_PORT_CONFIGURABLE (R49). -/
def execPciePortConfigurable (dt : Nat) (p : Fin 2) (s : State) : Host.Outcome State Fault Refusal :=
  .next (s.cmd dt (pciePortConfigurable p.val))

/-- LINK_ENTERS_L0 (R442). -/
def execLinkEntersL0 (dt : Nat) (p : Fin 2) (speed width : Nat) (s : State) : Host.Outcome State Fault Refusal :=
  .next (s.cmd dt (linkEntersL0 p.val speed width))

/-- PERST_RISE (R50). -/
def execPerstRise (dt : Nat) (p : Fin 2) (s : State) : Host.Outcome State Fault Refusal :=
  .next (s.cmd dt (perstRise p.val))

/-- BUS_MASTER_ENABLE (R430). -/
def execBusMasterEnable (dt : Nat) (x : Fin 8) (s : State) : Host.Outcome State Fault Refusal :=
  .next (s.cmd dt (busMasterEnable x.val))

/-- MSIX_VECTOR_UNMASK (R421, R422, R440). -/
def execMsixVectorUnmask (dt : Nat) (x : Fin 8) (access : MsixAccess) (s : State) : Host.Outcome State Fault Refusal :=
  .next (s.cmd dt (match access with
    | .write off vals full => msixWrite x.val off.toNat (vals.map BitVec.toNat) full
    | .read off n => msixRead x.val off.toNat n))

end Sys2Proof.Machine
end

