-- ==== Sys2Proof/Machine/ExecIntake.lean ====
section
/-! DEFINITION. Meanings of the commands: station intake and local converters. -/

namespace Sys2Proof.Machine

/-- SV_FRAME_RECEIVED (R304). -/
def execSvFrameReceived (dt : Nat) (port : Fin 4) (fr : SvFrame) (sub : Nat) (s : State) : Host.Outcome State Fault Refusal :=
  .next (s.cmd dt (svFrameReceived port.val fr sub))

/-- GOOSE_RECEIVED (R314). -/
def execGooseReceived (dt : Nat) (port : Fin 4) (m : GooseMsg) (s : State) : Host.Outcome State Fault Refusal :=
  .next (s.cmd dt (gooseReceived port.val m))

/-- PTP_MESSAGE_RECEIVED (R334). -/
def execPtpMessageReceived (dt : Nat) (p : Fin 4) (head : PtpHead) (seqId : BitVec 16) (stamp : Nat) (state : Option Nat) (twoStep : Bool) (delay : Option Int) (s : State) : Host.Outcome State Fault Refusal :=
  .next (s.cmd dt (ptpMessageReceived p.val head.typ.toNat head.domain.toNat seqId.toNat stamp state twoStep delay))

/-- SV_SILENT (R312). -/
def execSvSilent (dt : Nat) (k : Fin 32) (s : State) : Host.Outcome State Fault Refusal :=
  .next (s.cmd dt (svSilent k.val))

/-- SV_LOST (R312). -/
def execSvLost (dt : Nat) (k : Fin 32) (s : State) : Host.Outcome State Fault Refusal :=
  .next (s.cmd dt (svLost k.val))

/-- GOOSE_LOST (R315). -/
def execGooseLost (dt : Nat) (n : Fin 64) (s : State) : Host.Outcome State Fault Refusal :=
  .next (s.cmd dt (gooseLost n.val))

/-- GOOSE_PUB_EVALUATION (R318). -/
def execGoosePubEvaluation (dt : Nat) (s : State) : Host.Outcome State Fault Refusal :=
  .next (s.cmd dt goosePubEvaluation)

/-- GOOSE_RETRANSMIT (R318). -/
def execGooseRetransmit (dt : Nat) (n : Fin 8) (s : State) : Host.Outcome State Fault Refusal :=
  .next (s.cmd dt (gooseRetransmit n.val))

/-- LM_CYCLE_TRIGGER (R319). -/
def execLmCycleTrigger (dt : Nat) (m : Fin 4) (s : State) : Host.Outcome State Fault Refusal :=
  .next (s.cmd dt (lmCycleTrigger m.val))

/-- LM_RUN (R319). -/
def execLmRun (dt : Nat) (x : Fin 8) (m : Fin 4) (s : State) : Host.Outcome State Fault Refusal :=
  .next (s.cmd dt (lmRun x.val m.val))

/-- LM_RUN_COMPLETE (R320). -/
def execLmRunComplete (dt : Nat) (m : Fin 4) (raws : List (List Int)) (s : State) : Host.Outcome State Fault Refusal :=
  .next (s.cmd dt (lmRunComplete m.val raws))

/-- LM_CONT_OUTPUT (R325). -/
def execLmContOutput (dt : Nat) (m : Fin 4) (raws : List Int) (s : State) : Host.Outcome State Fault Refusal :=
  .next (s.cmd dt (lmContOutput m.val raws))

/-- LM_CONT_WRITE (R325). -/
def execLmContWrite (dt : Nat) (x : Fin 8) (m : Fin 4) (v : Word) (s : State) : Host.Outcome State Fault Refusal :=
  .next (s.cmd dt (lmContWrite x.val m.val v.toNat))

/-- LM_CAL_ZERO (R326). -/
def execLmCalZero (dt : Nat) (x : Fin 8) (m gain : Fin 4) (s : State) : Host.Outcome State Fault Refusal :=
  .next (s.cmd dt (lmCalZero x.val m.val gain.val))

/-- LM_CAL_FULL (R326). -/
def execLmCalFull (dt : Nat) (x : Fin 8) (m gain : Fin 4) (expect : BitVec 16) (s : State) : Host.Outcome State Fault Refusal :=
  .next (s.cmd dt (lmCalFull x.val m.val gain.val expect.toInt))

/-- LM_CAL_STORE (R326). -/
def execLmCalStore (dt : Nat) (x : Fin 8) (m gain : Fin 4) (s : State) : Host.Outcome State Fault Refusal :=
  .next (s.cmd dt (lmCalStore x.val m.val gain.val))

/-- LM_CAL_FACTORY (R326). -/
def execLmCalFactory (dt : Nat) (x : Fin 8) (m gain : Fin 4) (s : State) : Host.Outcome State Fault Refusal :=
  .next (s.cmd dt (lmCalFactory x.val m.val gain.val))

/-- LM_CAL_STEP_COMPLETE (R326). -/
def execLmCalStepComplete (dt : Nat) (m : Fin 4) (total : Int) (s : State) : Host.Outcome State Fault Refusal :=
  .next (s.cmd dt (lmCalStepComplete m.val total))

/-- INTAKE_LOCALMEAS_DMA_READY (R49). -/
def execIntakeLocalmeasDmaReady (dt : Nat) (s : State) : Host.Outcome State Fault Refusal :=
  .next (s.cmd dt intakeLocalmeasDmaReady)

/-- STATION_PORT_LINK_CHANGE (R302). -/
def execStationPortLinkChange (dt : Nat) (port : Fin 4) (up : Bool) (s : State) : Host.Outcome State Fault Refusal :=
  .next (s.cmd dt (stationPortLinkChange port.val up))

end Sys2Proof.Machine
end

