-- ==== Sys2Proof/Machine/ExecLanes.lean ====
section
/-! DEFINITION. Meanings of the commands: lane dies, lanes and frames. -/

namespace Sys2Proof.Machine

/-- LPLL_LOCK (R220). -/
def execLpllLock (dt : Nat) (p : Fin 8) (counts : List Nat) (s : State) : Host.Outcome State Fault Refusal :=
  .next (s.cmd dt (lpllLock p.val counts))

/-- LPLL_LOCK_LOSS (R221). -/
def execLpllLockLoss (dt : Nat) (p : Fin 8) (count : Nat) (s : State) : Host.Outcome State Fault Refusal :=
  .next (s.cmd dt (lpllLockLoss p.val count))

/-- SIGNAL_DETECTED (R233). -/
def execSignalDetected (dt : Nat) (c : Fin 64) (e : Fin 2) (s : State) : Host.Outcome State Fault Refusal :=
  .next (s.cmd dt (signalDetected c.val e.val))

/-- ELECTRICAL_IDLE_DETECTED (R233). -/
def execElectricalIdleDetected (dt : Nat) (c : Fin 64) (e : Fin 2) (s : State) : Host.Outcome State Fault Refusal :=
  .next (s.cmd dt (electricalIdleDetected c.val e.val))

/-- COMMA_RECEIVED (R228). -/
def execCommaReceived (dt : Nat) (c : Fin 64) (e : Fin 2) (bits : List Bool) (s : State) : Host.Outcome State Fault Refusal :=
  .next (s.cmd dt (commaReceived c.val e.val bits))

/-- TRANSMIT_EIDLE (R234). -/
def execTransmitEidle (dt : Nat) (c : Fin 64) (e : Fin 2) (s : State) : Host.Outcome State Fault Refusal :=
  .next (s.cmd dt (transmitEidle c.val e.val))

/-- WAKE_SEQUENCE_END (R235). -/
def execWakeSequenceEnd (dt : Nat) (c : Fin 64) (e : Fin 2) (s : State) : Host.Outcome State Fault Refusal :=
  .next (s.cmd dt (wakeSequenceEnd c.val e.val))

/-- LOOP_NEAR_SERIAL (R238). -/
def execLoopNearSerial (dt : Nat) (x : Fin 8) (c : Fin 64) (e : Fin 2) (s : State) : Host.Outcome State Fault Refusal :=
  .next (s.cmd dt (loopNearSerial x.val c.val e.val))

/-- LOOP_NEAR_PARALLEL (R238). -/
def execLoopNearParallel (dt : Nat) (x : Fin 8) (c : Fin 64) (e : Fin 2) (s : State) : Host.Outcome State Fault Refusal :=
  .next (s.cmd dt (loopNearParallel x.val c.val e.val))

/-- LOOP_FAR_END (R238). -/
def execLoopFarEnd (dt : Nat) (x : Fin 8) (c : Fin 64) (e : Fin 2) (hops : BitVec 7) (s : State) : Host.Outcome State Fault Refusal :=
  .next (s.cmd dt (loopFarEnd x.val c.val e.val hops.toNat))

/-- HOLD_IDLE (R238). -/
def execHoldIdle (dt : Nat) (x : Fin 8) (c : Fin 64) (e : Fin 2) (s : State) : Host.Outcome State Fault Refusal :=
  .next (s.cmd dt (holdIdle x.val c.val e.val))

/-- LOOP_END (R240). -/
def execLoopEnd (dt : Nat) (x : Fin 8) (c : Fin 64) (e : Fin 2) (s : State) : Host.Outcome State Fault Refusal :=
  .next (s.cmd dt (loopEnd x.val c.val e.val))

/-- LOOP_WORD_SEND (R239). -/
def execLoopWordSend (dt : Nat) (c : Fin 64) (e : Fin 2) (commas : Nat) (s : State) : Host.Outcome State Fault Refusal :=
  .next (s.cmd dt (loopWordSend c.val e.val commas))

/-- LOOP_CONFIRM (R242). -/
def execLoopConfirm (dt : Nat) (c : Fin 64) (e : Fin 2) (word : BitVec 64) (stamp : Nat) (s : State) : Host.Outcome State Fault Refusal :=
  .next (s.cmd dt (loopConfirm c.val e.val word.toNat stamp))

/-- LOOP_NO_ANSWER (R240). -/
def execLoopNoAnswer (dt : Nat) (c : Fin 64) (e : Fin 2) (s : State) : Host.Outcome State Fault Refusal :=
  .next (s.cmd dt (loopNoAnswer c.val e.val))

/-- TIME_MARK_SEND (R259). -/
def execTimeMarkSend (dt : Nat) (s : State) : Host.Outcome State Fault Refusal :=
  .next (s.cmd dt timeMarkSend)

/-- REPORT_RECEIVED (R191). -/
def execReportReceived (dt : Nat) (c : Fin 64) (e : Fin 2) (fr : RxFrame) (s : State) : Host.Outcome State Fault Refusal :=
  .next (s.cmd dt (reportReceived c.val e.val fr))

/-- TIME_MARK_RECEIVED (R268). -/
def execTimeMarkReceived (dt : Nat) (c : Fin 64) (e : Fin 2) (fr : RxFrame) (stamp : Nat) (s : State) : Host.Outcome State Fault Refusal :=
  .next (s.cmd dt (timeMarkReceived c.val e.val fr stamp))

/-- OWN_FRAME_RETURN (R249). -/
def execOwnFrameReturn (dt : Nat) (c : Fin 64) (e : Fin 2) (fr : RxFrame) (s : State) : Host.Outcome State Fault Refusal :=
  .next (s.cmd dt (ownFrameReturn c.val e.val fr))

/-- POINT_REPLY_RECEIVED (R295). -/
def execPointReplyReceived (dt : Nat) (c : Fin 64) (e : Fin 2) (fr : RxFrame) (s : State) : Host.Outcome State Fault Refusal :=
  .next (s.cmd dt (pointReplyReceived c.val e.val fr))

/-- DISCOVER_REPLY_RECEIVED (R281). -/
def execDiscoverReplyReceived (dt : Nat) (c : Fin 64) (e : Fin 2) (fr : RxFrame) (s : State) : Host.Outcome State Fault Refusal :=
  .next (s.cmd dt (discoverReplyReceived c.val e.val fr))

/-- DISCOVER_TIMEOUT (R281). -/
def execDiscoverTimeout (dt : Nat) (c : Fin 64) (s : State) : Host.Outcome State Fault Refusal :=
  .next (s.cmd dt (discoverTimeout c.val))

/-- PROBE_REPLY_RECEIVED (R268). -/
def execProbeReplyReceived (dt : Nat) (c : Fin 64) (e : Fin 2) (fr : RxFrame) (stamp : Nat) (s : State) : Host.Outcome State Fault Refusal :=
  .next (s.cmd dt (probeReplyReceived c.val e.val fr stamp))

/-- TRANSACTION_WINDOW_OPEN (R251). -/
def execTransactionWindowOpen (dt : Nat) (c : Fin 64) (s : State) : Host.Outcome State Fault Refusal :=
  .next (s.cmd dt (transactionWindowOpen c.val))

end Sys2Proof.Machine
end

