-- ==== Sys2Proof/Machine/Limits.lean ====
section
/-! DEFINITION. Check 8 of R26: the capacity limits of R23 and the ranges each chapter gives the content of a section; an
image or a packet that breaks one is refused with LIMITS. Ranges and formats a table of the spec states without naming the
code are checked here as well (log entry 12). -/

namespace Sys2Proof.Machine

/-- lo / den ≤ v ≤ hi / den for a quantity in the fixed point of R8. -/
def within (lo hi : Int) (den : Nat) (v : Pu) : Bool := decide (pu lo den ≤ v) && decide (v ≤ pu hi den)

/-- lo ≤ n ≤ hi. -/
def among (lo hi n : Nat) : Bool := decide (lo ≤ n) && decide (n ≤ hi)

/-! STRUCTURE -/

/-- R59, R60: the parameters of a group. The compute budget is 6.50 µs with an AC arm tile, 5.20 µs without. -/
def groupOk (c : GroupCfg) (hasAc : Bool) : Bool :=
  among 20 100 c.cycle && decide (c.phase < c.cycle) && among 4 196 c.dr && among 4 200 c.de && among 8 80 c.lead &&
  among 1 64 c.div && among 1 8 c.missLimit && decide (c.dr < c.de) && decide (c.de ≤ 2 * c.cycle) &&
  decide (c.dr * 25 + (if hasAc then 650 else 520) ≤ c.de * 25) && decide (c.missLimit < c.watchdog) && among 3 16 c.watchdog

/-- R11, R13: one tile. -/
def tileOk (groups : List (Option GroupCfg)) (t : TileCfg) : Bool :=
  match t.type with
  | .idle => t.courses.isEmpty && t.stages.isEmpty
  | .ac => among 1 16 t.courses.length && (groups[t.group]?.bind id).isSome && t.courses.all (fun c => decide (c < 64)) && decide (t.phase < 3) &&
      t.stages.isSublist [.condition, .grid, .arm, .rank, .schedule, .emit]
  | .chopper => among 1 16 t.courses.length && (groups[t.group]?.bind id).isSome && t.courses.all (fun c => decide (c < 64)) &&
      decide (t.stages = [.condition, .arm, .rank, .schedule, .emit])

/-- R167: the AC arms of a group number none, or one for each pair of phase and position. -/
def armsOk (l : List TileCfg) : Bool :=
  let ac := l.filter (fun t => decide (t.type = .ac))
  ac.isEmpty || (ac.length == 6 && (List.range 3).all fun p => [true, false].all fun b => ac.any fun t => t.phase == p && t.lower == b)

/-- Tiles of a group. -/
def Structure.tilesOf (s : Structure) (g : Nat) : List TileCfg := s.tiles.filter fun t => decide (t.type ≠ .idle) && t.group == g

/-- Their numbers. -/
def Structure.tileNos (s : Structure) (g : Nat) : List Nat :=
  (List.range 12).filter fun t => (s.tiles[t]?).any fun c => decide (c.type ≠ .idle) && c.group == g

/-- No value occurs twice. -/
def distinct (l : List Nat) : Bool := l.eraseDups.length == l.length

/-- STRUCTURE: R11 to R14, R23, R59, R60, R167, R281. -/
def structureOk (s : Structure) : Bool :=
  let bound := s.tiles.flatMap (·.courses)
  s.tiles.length == 12 && s.groups.length == 4 && s.tiles.all (tileOk s.groups) && distinct bound &&
  (List.range 4).all (fun g => match s.groups[g]?.bind id with
    | some c => !(Structure.tilesOf s g).isEmpty && armsOk (Structure.tilesOf s g) &&
        groupOk c ((Structure.tilesOf s g).any fun t => decide (t.type = .ac))
    | none => true) &&
  s.courses.all (fun p => decide (p.1 < 64) && decide (p.2.nc ≤ 128)) &&
  bound.all (fun c => match tabGet s.courses c with | some x => decide (1 ≤ x.nc) | none => false)

/-! MODES -/

/-- R94. -/
def modeOk (m : ModeCfg) : Bool :=
  within 30 95 100 m.chgCtrl && within 50 100 100 m.chgDone && within 1 30 100 m.chgSpread &&
  (match m.minBricks with | some n => among 1 2048 n | none => true) && within 2 30 100 m.deadBus && within 1 20 100 m.dcBand &&
  within 1 30 100 m.ltResidual && within 10 110 100 m.ltTarget && within 5 500 10 m.ltRamp && among 1 10000 m.ltHold &&
  within 1 50 100 m.ltIlim && within 1 20 100 m.disDone && among 1 3600 m.disTimeout && among 1 255 m.fadeLen &&
  subsetOf everyCommand m.transEn && subsetOf automaticTo m.transAuto

/-! CONTROL -/

/-- R133, synchronisation. -/
def syncInRange (c : SyncCfg) : Bool :=
  (c.fNom == 50 || c.fNom == 60) && within 25 150 100 c.seqK && within 1 1000 100 c.pllKp && within 0 1000 1 c.pllKi &&
  within 2 20 100 c.freqRange && within 1 100 1000 c.lockErr && among 1 1024 c.lockN && within 1 50 100 c.unlockErr && within 5 50 100 c.vminSync

/-- R133, current control. -/
def curOk (c : CurCfg) : Bool :=
  within 2 50 100 c.xEq && within 5 500 100 c.ccKp && within 0 2000 1 c.ccKi && within 5 100 100 c.ciLim && within 10 200 100 c.iMax &&
  within 0 100 100 c.iMaxNeg && within 10 200 100 c.iMaxDeg && within 80 150 100 c.vOutMax && among 1 64 c.fbHold && within 1 50 100 c.substDiff

/-- R133, outer loops. -/
def loopsOk (c : LoopCfg) : Bool :=
  within 0 10 1 c.kpP && within 0 500 1 c.kiP && within 0 10 1 c.kpQ && within 0 500 1 c.kiQ && within 0 20 1 c.kpVac && within 0 500 1 c.kiVac &&
  within 0 50 1 c.kpDc && within 0 2000 1 c.kiDc && within 0 20 100 c.dcDroop && within 0 150 100 c.pLim && within 0 150 100 c.qLim &&
  [c.rampP, c.rampQ, c.rampVac, c.rampF, c.rampVdc].all (within 1 10000 100)

/-- R133, forming. -/
def formOk (c : FormCfg) : Bool :=
  within 0 5 1 c.kp && within 0 500 1 c.ki && within 50 130 100 c.vmin && within 50 130 100 c.vmax && within 0 10 100 c.fDroop &&
  within 50 200 100 c.iLim && within 0 50 100 c.rv && within 0 100 100 c.xvImp

/-- R187, balancing and circulating current. -/
def balOk (c : BalCfg) : Bool :=
  within 80 120 100 c.eRef && within 0 10 1 c.kpE && within 0 500 1 c.kiE && within 1 50 100 c.pDemMax && within 0 10 1 c.kpH &&
  within 0 500 1 c.kiH && within 0 30 100 c.iHMax && within 0 10 1 c.kpV && within 0 500 1 c.kiV && within 0 30 100 c.iVMax &&
  within 10 200 100 c.iZMax && within 0 5 1 c.kzP && within 0 2000 1 c.kzI && within 0 2000 1 c.kzR1 && within 0 2000 1 c.kzR2 && within 1 20 100 c.vzMax

/-- R187, arms: I_ARM_LIM_DEG ≤ I_ARM_LIM < I_ARM_TRIP, and CHG_TGT not below CHG_DONE (R182). -/
def armOk (m : ModeCfg) (c : ArmCfg) : Bool :=
  within 0 10 100 c.isignHyst && [c.iArmLim, c.iArmLimDeg, c.iArmTrip].all (within 20 300 100) && decide (c.iArmLimDeg ≤ c.iArmLim) &&
  decide (c.iArmLim < c.iArmTrip) && among 1 1000 c.ovmN && within 100 140 100 c.vbarHi && within 50 100 100 c.vbarLo && among 1 1000 c.vbarN &&
  within 90 110 100 c.chgTgt && within 1 100 100 c.chgRate && within 0 30 100 c.disIz && among 1 20 c.disF && within 0 30 100 c.disIch &&
  decide (m.chgDone ≤ c.chgTgt)

/-- R187, chopper. -/
def chopOk (c : ChopCfg) : Bool :=
  within 102 130 100 c.chOn && within 100 129 100 c.chOff && decide (c.chOff < c.chOn) && within 0 50 1 c.kpDis && within 5 150 100 c.chPmax &&
  within 5 200 100 c.chImax && within 100 120 100 c.chRideRef && within 0 5 1 c.kpCh && within 0 2000 1 c.kiCh

/-- R216: the parameters of a tile against the timing of its group. -/
def rankOk (g : GroupCfg) (c : RankCfg) : Bool :=
  decide (c.band ≤ 4095) && decide (c.swapMax ≤ 64) && decide (c.reportHold ≤ 4) && among 2 15 c.echoN && decide (c.tDwell ≤ 1000) &&
  decide (c.tDead ≤ 500) && decide (c.tMinp ≤ 1000) && decide (c.pulseMode ≤ 2) && decide (3 * c.tMinp + 4 * c.tDead ≤ 50 * g.cycle) &&
  decide ((g.de + 2 * g.lead + 2 * g.cycle - 1) / (2 * g.cycle) + 1 ≤ c.echoN)

/-- CONTROL of a group and its tiles. -/
def controlOk (g : GroupCfg) (m : ModeCfg) (tiles : List Nat) (t : GroupTables) : Bool :=
  let c := t.control
  syncInRange c.sync && curOk c.cur && loopsOk c.loops && formOk c.form && balOk c.bal && armOk m c.arm && chopOk c.chop &&
  t.rank.all (fun r => rankOk g r.2) && tiles.all fun n => rankOk g (tabD t.rank n .standard)

/-! CURVES -/

/-- Times rise strictly. -/
def rising : List Nat → Bool
  | a :: b :: l => decide (a < b) && rising (b :: l)
  | _ => true

/-- R151: a curve as decoded; the format of its bytes is `curveFormatOk`. -/
def curveOk (c : Curve) : Bool :=
  let ts := c.points.map (·.1)
  decide (ts.length ≤ 16) && among 1 16 c.curveN && among 1000 60000000 c.tMax && ts.head?.getD 0 == 0 && rising ts && decide (ts.getLastD 0 ≤ c.tMax)

/-- R157. -/
def rideOk (vminSync : Pu) (c : RideCfg) : Bool :=
  among 1 50 c.detN && decide (c.acMeas ≤ 1) && within 50 95 100 c.acUvEnter && within 51 100 100 c.acUvExit && within 105 140 100 c.acOvEnter &&
  within 100 139 100 c.acOvExit && within 2 50 100 c.negEnter && within 1 49 100 c.negExit && within 30 95 100 c.dcUvEnter &&
  within 31 100 100 c.dcUvExit && within 102 140 100 c.dcOvEnter && within 100 139 100 c.dcOvExit && among 1 16 c.enterN && among 1 16 c.dcEnterN &&
  among 1 255 c.exitN && decide (vminSync + pu 5 100 < c.acUvEnter) && decide (c.acUvEnter < c.acUvExit) && decide (c.acOvExit < c.acOvEnter) &&
  decide (c.negExit < c.negEnter) && decide (c.dcUvEnter < c.dcUvExit) && decide (c.dcOvExit < c.dcOvEnter)

/-- R157, injection and recovery. -/
def recovOk (c : RecovCfg) : Bool :=
  within 0 10 1 c.kPos && within 0 10 1 c.kNeg && within 0 20 100 c.db && decide (c.actMode ≤ 2) && within 90 110 100 c.dcRideRef &&
  within 1 1000 10 c.recovRampP && within 1 1000 10 c.recovRampQ && among 1 16 c.rideRepeat && among 1 600 c.repeatWin &&
  within 2 100 100 c.jumpDet && among 1 8 c.jumpN && (decide (c.jumpTrip = 0) || within 10 314 100 c.jumpTrip)

/-- R161. -/
def islOk (jumpDet : Pu) (c : IslCfg) : Bool :=
  decide (c.action ≤ 1) && decide (c.blank ≤ 10000) && within 900 999 1000 c.fLo && within 1001 1100 1000 c.fHi && among 1 10000 c.fTime &&
  within 2 200 1000 c.rocofTh && among 10 1000 c.rocofWin && within 2 100 100 c.vsTh && within 1 10 100 c.aiAmp && among 10 1000 c.aiPeriod &&
  among 1 20 c.aiLen && within 5 200 100 c.zTh && among 1 8 c.aiConf && decide (jumpDet ≤ c.vsTh)

/-- R166. -/
def harvOk (c : HarvCfg) : Bool :=
  within 30 110 100 c.winLo && within 30 110 100 c.winHi && among 1 255 c.trkDiv && within 5 500 10000 c.trkStep && within 0 1 100 c.trkDb &&
  among 1 16 c.trkHoldN && within 0 20 1 c.kpPv && within 0 500 1 c.kiPv && decide (c.scanPeriod ≤ 1440) && decide (c.winLo ≤ c.scanLo) &&
  decide (c.scanLo ≤ c.winHi) && decide (c.winLo ≤ c.scanHi) && decide (c.scanHi ≤ c.winHi) && within 1 100 100 c.scanRate

/-- CURVES of a group. -/
def curvesOk (vminSync : Pu) (c : Curves) : Bool :=
  c.curves.length == 4 && c.curves.all curveOk && rideOk vminSync c.ride && recovOk c.recov && islOk c.recov.jumpDet c.isl && harvOk c.harv

/-! COMP and FORMATS -/

/-- R138. -/
def compOk (l : List (Nat × CompTable)) : Bool :=
  decide (l.length ≤ 8) && l.all fun e => let c := e.2; decide (e.1 < 8) && decide (c.modes < 4096) && decide (c.scaleSrc ≤ 4) && within 0 20 100 c.compMax && decide (c.entries.length ≤ 1024)

/-- R319: an entry that serves the Condition stage or a set-point source belongs to a CYCLE converter. -/
def cycleEntry (s : StreamsCfg) (m e : Nat) : Bool :=
  match s.lms[m]? with | some c => c.trig == 0 && decide (e < c.entries.length) | none => false
def srcOk (s : StreamsCfg) : SigSrc → Bool
  | .lm m e => cycleEntry s m e
  | _ => true

/-- R135. -/
def bindOk (s : StreamsCfg) (b : SpBind) : Bool :=
  decide (b.word ≤ 4) && decide (b.rawLo < b.rawHi) && decide (b.lossFault ≤ 10000) && among 1 255 b.returnN &&
  (if b.pulse then decide (b.evt ≤ 15) && decide (10 ≤ b.rawLo) && decide (b.rawHi ≤ 100000) && among 1 1000 b.lossTime
   else cycleEntry s b.lm b.entry && decide (-32768 ≤ b.rawLo) && decide (b.rawHi ≤ 32767))

/-- FORMATS of a group: R135, R187, R319. -/
def formatsOk (s : StreamsCfg) (f : Formats) : Bool :=
  within 1 4096 1 f.brickRatio && within 1 4096 1 f.chRatio && decide (f.binds.length ≤ 4) && distinct (f.binds.map (·.word)) && f.binds.all (bindOk s) &&
  f.signals.all (fun c => srcOk s c.primary && srcOk s c.alternate) && f.armSrc.all (fun a => cycleEntry s a.2.1 a.2.2)

/-- The class L tables of a group, as they would stand. -/
def tablesOk (g : GroupCfg) (m : ModeCfg) (s : StreamsCfg) (tiles : List Nat) (t : GroupTables) : Bool :=
  controlOk g m tiles t && compOk t.comp && curvesOk t.control.sync.vminSync t.curves && (decide (t.formats = .none) || formatsOk s t.formats)

/-- Device-wide FORMATS: R277, R293, R294. -/
def pointsOk (p : PointCfg) : Bool :=
  decide (p.auxSel < 4096) && decide (p.resOn ≤ 0xFFFF) && decide (p.resOff ≤ 0xFFFF) && decide (p.disFloor ≤ 0xFFFF) &&
  p.mirrors.all (fun m => decide (m.2.length ≤ 16) && m.2.all fun i => among 0x100 0xFFF i) && (p.mirrors.isEmpty || among 1 10000 p.mirrorPeriod)

/-! STREAMS -/

/-- R310, R311: FROZEN_N and SUBST of one value. -/
def svValOk (v : SvValCfg) : Bool := (v.frozenN == 0 || among 16 65535 v.frozenN) && decide (v.subst ≤ 1)

/-- R304, R307, R309 to R312. -/
def svOk (c : SvSub) : Bool :=
  c.vals.all svValOk && decide (c.groups < 16) && decide (c.extrapMax ≤ 2000) && decide (c.fixedDelay ≤ 2000) && among 1 10000 c.lostTime &&
  among 4000 96000 c.rate && among 1 16 c.nval && c.vals.length == c.nval && decide (c.ports < 16) &&
  among 1 2 ((List.range 4).filter (testBit c.ports)).length

/-- R313. -/
def goOk (c : GoSub) : Bool := among 4 60000 c.talCap && decide (c.ports < 16) && c.members.all fun m => decide (m.bitNo < 64) && decide (m.dflt ≤ 2)

/-- R317: the argument of an item is a group, or a bit of GI. -/
def pubItemOk (i : PubItem) : Bool := among 1 9 i.item && decide (i.arg < (if i.item = 9 then 64 else 4))
def pubOk (c : GoPub) : Bool :=
  among 500 100000 c.minTime && among 100000 60000000 c.maxTime && among 1 32 c.items.length && decide (c.ports < 16) && c.items.all pubItemOk

/-- R320, R321, R324: one entry after another. -/
def entryOk (e : LmEntry) : Bool :=
  decide (e.input ≤ 15) && decide (e.gain ≤ 3) && among 1 64 e.acq && [1, 2, 4, 8, 16].contains e.avg && (e.frozenN == 0 || among 16 65535 e.frozenN)
def acqOk : LmEntry → List LmEntry → Bool
  | _, [] => true
  | p, e :: l => (if e.input ≠ p.input then decide (16 ≤ e.acq) else if e.gain ≠ p.gain then decide (8 ≤ e.acq) else true) && acqOk e l

/-- R319 to R321, R325. C of a group lies D_R less 0.50 µs after its opening (R303); a clock is 25 ns. -/
def lmOk (groups : List (Option GroupCfg)) (c : LmCfg) : Bool :=
  decide (c.trig ≤ 3) && decide (c.group < 4) && decide (c.evt < 16) && decide (c.delay ≤ 2000) && c.entries.all entryOk &&
  decide (c.entries.length ≤ 16) && (c == .idle || c.trig == 3 || !c.entries.isEmpty) &&
  (match c.entries with | e :: l => acqOk e (e :: l) | [] => true) &&
  (if c.trig = 0 then (match groups[c.group]?.bind id with
      | some g => decide (c.delay + sumN (c.entries.map fun e => e.acq + e.avg) + 10 + 20 ≤ 10 * g.dr)
      | none => false) else true) &&
  (if c.trig = 3 then c.ringBase % 0x10000 == 0 && among 0x10000 0x400000 c.ringSize && decide (c.ringBase + c.ringSize ≤ 0x1000000) else true)

/-- STREAMS. -/
def streamsOk (groups : List (Option GroupCfg)) (s : StreamsCfg) : Bool :=
  decide (s.svs.length ≤ 32) && s.svs.all (fun p => decide (p.1 < 32) && svOk p.2) && decide (s.gos.length ≤ 64) &&
  s.gos.all (fun p => decide (p.1 < 64) && goOk p.2) && distinct (s.gos.flatMap fun p => p.2.members.map (·.bitNo)) &&
  decide (s.pubs.length ≤ 8) && s.pubs.all (fun p => decide (p.1 < 8) && pubOk p.2) && decide (s.lms.length ≤ 4) && s.lms.all (lmOk groups)

/-! FAULTS -/

/-- The group a source belongs to (R377): that of its tile, its group or its bound course. -/
def sourceGroup (s : Structure) (n : Nat) : Option Nat :=
  let tile (t : Nat) : Option Nat := (s.tiles[t]?).bind fun c => if c.type = .idle then none else some c.group
  if 0x14 ≤ n ∧ n ≤ 0x1F then tile (n - 0x14)
  else if 0x20 ≤ n ∧ n ≤ 0x27 then some ((n - 0x20) % 4)
  else if 0x40 ≤ n ∧ n < 0xA0 then tile ((n - 0x40) / 8)
  else if 0xA0 ≤ n ∧ n < 0xC0 then some ((n - 0xA0) / 8)
  else if 0xC0 ≤ n ∧ n < 0x140 then (s.tiles.find? (·.courses.contains ((n - 0xC0) / 2))).map (·.group)
  else none

/-- Sources that have a fence (R387). -/
def hasFence (n : Nat) : Bool :=
  among 0x30 0x35 n || (among 0xC0 0x13F n && n % 2 == 0) || among 0x140 0x147 n || among 0x14F 0x152 n || among 0x160 0x1BF n

/-- One entry of the reaction table (R377). -/
def reactOk (s : Structure) (n : Nat) (e : ReactEntry) : Bool :=
  decide (e.reaction ≤ 5) && decide (e.groups < 16) && !(e.reaction == 2 && !hasFence n) &&
  !((e.reaction == 3 || e.reaction == 4) && e.groups == 0) &&
  (match sourceGroup s n with | some g => e.groups == 2 ^ g | none => true) &&
  (match fixedReaction n with | some r => e.reaction == r | none => true)

/-- FAULTS: every source's entry. -/
def faultsOk (s : Structure) (f : FaultsCfg) : Bool :=
  f.entries.length == 512 && ((List.range 512).zip f.entries).all (fun p => !isSource p.1 || reactOk s p.1 p.2) &&
  f.snaps.all fun r => decide (r.2.2.length ≤ 47)

/-! LANES and TIME -/

/-- R219, R237. -/
def lanesOk (l : LanesCfg) : Bool :=
  l.rates.all (fun p => decide (p.1 < 64) && decide (p.2 ≤ 2)) && l.spreads.length ≤ 8 &&
  l.spreads.all fun p => decide (p.1 ≤ 2) && decide (p.2 ≤ if p.1 = 1 then 500 else 250)

/-- R349. -/
def tioOk (groups : List (Option GroupCfg)) (t : TioCfg) : Bool :=
  if t.mode = 2 then among 100 0xFFFFFFFF t.period && among 1 (t.period - 1) t.width
  else if t.mode = 3 then (match groups[t.group]?.bind id with
    | some g => decide (t.offset ≤ 250 * g.cycle) && among 1 (250 * g.cycle - 1) t.width
    | none => false)
  else decide (t.mode ≤ 1)

/-- PTP ports of an ordinary clock (one, or none where the image runs no PTP) and of a boundary clock (R334). -/
def ptpPortsOk (boundary : Bool) (n : Nat) : Bool := if boundary then among 2 4 n else decide (n ≤ 1)

/-- R335, R336, R343, R347, R349, R351. -/
def timeOk (groups : List (Option GroupCfg)) (t : TimeCfg) : Bool :=
  decide (t.profile ≤ 2) && decide (t.domain ≤ 255) && decide (t.priority1 ≤ 255) && decide (t.priority2 ≤ 255) && decide (t.clockClass ≤ 255) &&
  decide (t.ptpPorts < 16) && ptpPortsOk t.boundary ((List.range 4).filter (testBit t.ptpPorts)).length && t.asym.all (fun x => decide (x.natAbs ≤ 16000000)) &&
  (if t.profile = 2 then decide (t.syncLog = 0) && decide (t.announceLog = 0) && t.receiptTimeout == 3 && t.domain == 0
   else decide (-4 ≤ t.syncLog) && decide (t.syncLog ≤ 1) && decide (0 ≤ t.announceLog) && decide (t.announceLog ≤ 4) && among 2 10 t.receiptTimeout) &&
  among 1000 1000000000 t.stepThresh && among 1 10000 t.slewMax && among 1 1000 t.kiF && among 10 100000 t.lockThresh &&
  among 10 100000 t.unlockThresh && decide (t.lockThresh < t.unlockThresh) && among 1 255 t.lockCount && among 1 60 t.syncLoss && among 1 64 t.pdAvg &&
  among 1 3600 t.holdAvg && decide (t.holdSv ≤ 86400) && among 1 604800 t.holdMax && among 1000 1000000 t.svTol &&
  among 1000 1000000000 t.offsetFault && decide (t.evts.length ≤ 16) && t.evts.all (fun e => decide (e.1 ≤ 3) && decide (e.2 ≤ 500)) &&
  decide (t.tios.length ≤ 8) && t.tios.all (tioOk groups) && among 1 500 t.ppsWidth

/-! SAFETY -/

/-- The safety parameter block (R482). -/
def decodeSafety (l : List (BitVec 8)) : SafetyCfg :=
  { salt := at' l 0 4, sbcFilter := at' l 4 2, tripFilter := (List.range 4).map fun n => at' l (6 + 2 * n) 2,
    tripCourses := (List.range 4).map fun n => at' l (0x10 + 8 * n) 8, tripBrake := at' l 0x30 1, ovEn := at' l 0x31 1 == 1,
    ovLm := at' l 0x32 1, ovAin := at' l 0x33 1, ovDecim := at' l 0x34 1, ovN := at' l 0x35 1, ovOn := at' l 0x36 2, ovOff := at' l 0x38 2,
    ovLoss := at' l 0x3A 2, ovLossBrake := at' l 0x3C 1 == 1, ssBrake := at' l 0x3D 1 == 1, ssSafeBlock := at' l 0x3E 1 == 1,
    relN := at' l 0x3F 1, restoreT := at' l 0x40 2, opLen := at' l 0x42 2, opPeriod := at' l 0x44 2, fbRise := at' l 0x46 2,
    fbDisc := at' l 0x48 2, loadIgnore := at' l 0x4A 2, degLimit := at' l 0x4C 2, sbRepeat := at' l 0x4E 2, sealWord := at' l 0x50 4 }

/-- The seal code (R399). -/
def sealCode (l : List (BitVec 8)) : Nat := crc32c (l.take 0x50) % 0x1000

/-- Courses a mask names. -/
def maskBits (m : Nat) : List Nat := (List.range 64).filter (testBit m)

/-- R398, R482. -/
def safetyOk (s : Structure) (st : StreamsCfg) (l : List (BitVec 8)) : Bool :=
  let p := decodeSafety l
  let bound := s.tiles.flatMap (·.courses)
  l.length == 84 && at' l 0x0E 2 == 0 && p.sealWord == sealCode l && among 2 256 p.sbcFilter && p.tripFilter.all (among 1 256) &&
  p.tripCourses.all (fun m => (maskBits m).all bound.contains) && decide (p.tripBrake < 16) &&
  [at' l 0x31 1, at' l 0x3C 1, at' l 0x3D 1, at' l 0x3E 1].all (fun b => decide (b ≤ 1)) && decide (p.ovLm ≤ 3) && decide (p.ovAin ≤ 15) &&
  decide (p.ovDecim ≤ 3) && among 1 8 p.ovN && among 1 32767 p.ovOn && among 1 32767 p.ovOff && decide (p.ovOff < p.ovOn) && among 1 1000 p.ovLoss &&
  among 1 16 p.relN && decide (p.restoreT ≤ 1000) && among 50 400 p.opLen && among 1 60 p.opPeriod && among 10 200 p.fbRise && among 10 1000 p.fbDisc &&
  among 100 2000 p.loadIgnore && decide (p.opLen + 50 ≤ p.loadIgnore) && among 1 240 p.degLimit && among 5 50 p.sbRepeat &&
  (!p.ovEn || (st.lms[p.ovLm]?.map (·.trig)) == some 3)


/-- Check 8 over the content of an image: its decoded sections and the bytes of SAFETY. -/
def contentOk (b : ImageBody) (safety : List (BitVec 8)) : Bool :=
  match b.structure' with
  | none => false
  | some s =>
    structureOk s && streamsOk s.groups b.streams && pointsOk b.points && faultsOk s b.faults && lanesOk b.lanes && timeOk s.groups b.time &&
    safetyOk s b.streams safety && (List.range 4).all fun g => match s.groups[g]?.bind id with
      | some c => modeOk (b.mode g) && (nth b.tables g .empty).curves.all curveFormatOk && tablesOk c (b.mode g) b.streams (Structure.tileNos s g) (b.table g)
      | none => true

end Sys2Proof.Machine
end

