-- ==== Sys2Proof/Machine/Triplex.lean ====
section
/-! DEFINITION. Heartbeats, repair and resynchronisation, the proof run, TP_CMD and the start of the channels (R358 to
R374). -/

namespace Sys2Proof.Machine

/-! Heartbeats -/

/-- The lowest-numbered built group (R358). -/
def Dev.firstBuilt (d : Dev) : Option Nat := (List.range 4).find? fun g => (d.grp g).built

/-- Start of the present heartbeat period: the last opening of that group, or the last multiple of 10,000 ticks. -/
def Dev.periodStart (d : Dev) : Nat :=
  match d.firstBuilt with
  | some g => (d.grp g).openTick
  | none => d.now - d.ct % 10000

/-- Channels that send heartbeats: not FENCED or RETIRED (R358). -/
def Dev.sends (d : Dev) (y : Nat) : Bool := d.chState y != 2 && d.chState y != 6

/-- The channel whose heartbeats the i-th place of the flags of R359 is about. -/
def hbSender (i : Nat) : Nat := let r := i / 2 % 2; if r < i / 4 then r else r + 1

/-- The missing flag of a path (TP_HB). -/
def Dev.setMissing (x y path : Nat) (b : Bool) (d : Dev) : Dev :=
  if path = 0 then d.setBit F.TP_HB_LINK_MISSING (hbPair x y) b else d.setBit F.TP_HB_PIN_MISSING (hbPair x y) b

/-- The heartbeat-path source, with its count. -/
def Dev.pathFault (x y : Nat) (d : Dev) : Dev := (d.raise 0x28 (hbPair x y)).count F.TP_HB_PATH_FAULTS

/-- The donor choice at the end of REPAIR of channel r (R367). -/
def Dev.bestDonor (d : Dev) (r : Nat) : Option Nat :=
  (d.serving.filter (d.heardOnBoth r)).foldl (fun b ch => match b with
    | some a => if d.get F.TP_CH_STRIKES ch < d.get F.TP_CH_STRIKES a then some ch else some a
    | none => some ch) none

/-- Non-idle tiles of built groups, ascending. -/
def Dev.builtTiles (d : Dev) : List Nat := (d.busyTiles.filter fun p => (d.grp p.2.group).built).map (·.1)

/-- A channel whose self-test passed takes a donor, if one qualifies, and COPY begins (R367, R368). -/
def Dev.takeDonor (d : Dev) : Dev :=
  match d.tp.resync with
  | some r =>
    if d.chState r.ch = 3 ∧ r.selfTested = true then
      match d.bestDonor r.ch with
      | some a =>
        let d : Dev := { d with tp := { d.tp with resync := some { r with donor := some a, left := d.builtTiles, copyAt := 0, shadow := [] } } }
        d.setCh r.ch 4
      | none => d
    else d
  | none => d

/-- The donor's heartbeat is missing on a path during COPY (R370). -/
def Dev.donorLost (d : Dev) : Bool :=
  match d.tp.resync with
  | some r => match r.donor with
    | some a => d.chState r.ch == 4 && (List.range 3).any fun x =>
        x != a && d.observes x && (d.missesOn x a 0 || d.missesOn x a 1)
    | none => false
  | none => false

/-- The fence logic on missing heartbeats (R361, R370). -/
def Dev.judgeBeats (d : Dev) : Dev :=
  let l := d.serving
  let d : Dev := match l with
    | [_, _, _] =>
      let gone := l.filter fun y => l.all fun x => x == y || d.sees x y
      if !gone.isEmpty then gone.foldl (fun d y => if d.triplex = 1 then d.fenceChannel y 3 else d) d
      else if d.sees 0 1 && d.sees 1 0 && !d.sees 2 0 && !d.sees 2 1 then d.pathFault 0 1
      else if d.sees 0 2 && d.sees 2 0 && !d.sees 1 0 && !d.sees 1 2 then d.pathFault 0 2
      else if d.sees 1 2 && d.sees 2 1 && !d.sees 0 1 && !d.sees 0 2 then d.pathFault 1 2
      else d
    | [x, y] =>
      if d.sees x y || d.sees y x then
        match nth d.tp.delivered x true, nth d.tp.delivered y true with
        | true, false => d.fenceChannel y 0xB
        | false, true => d.fenceChannel x 0xB
        | true, true => d.pathFault x y
        | false, false => d.fenceAll [x, y] 0xB
      else d
    | _ => d
  let d : Dev := match d.tp.resync with
    | some r =>
      let l := d.serving
      if (d.chState r.ch = 4 ∨ d.chState r.ch = 5) ∧ l.isEmpty = false ∧ (l.all fun x => d.sees x r.ch) = true then d.fenceChannel r.ch 3 else d
    | none => d
  let d : Dev := if d.donorLost then d.backToRepair else d
  d.voteAll

/-- Whether Y is missing at X on a path, or becomes so in this period: two periods without a heartbeat before it, and none in the 2.0 µs
of this one, which are over (R359). -/
def Dev.goneOn (d : Dev) (x y path : Nat) : Bool :=
  let i := hbAt x y path
  d.missesOn x y path || decide (3 ≤ nth d.tp.hbMiss i 0) ||
    (decide (2 ≤ nth d.tp.hbMiss i 0) && !nth d.tp.hbSeen i false && decide (d.tp.period - 1 + 1000 ≤ d.now))

/-- Y becomes missing at X on a path (R359): alone on that path it raises the heartbeat-path source. -/
def Dev.becomesMissing (x y path : Nat) (d : Dev) : Dev :=
  if d.missesOn x y path then d
  else
    let d : Dev := d.setMissing x y path true
    if d.goneOn x y (1 - path) then d else d.pathFault x y

/-- The self-check flags of a heartbeat's link word (R358): the channel's memory and handshake checks as the fault collector holds them; the
spec names the flags and gives no layout (log entry 171). -/
def Dev.hbFlags (d : Dev) (y : Nat) : Nat := bit (d.latched (0x30 + y)) + 2 * bit (d.latched (0x33 + y))

/-- A channel sends its heartbeat (R358): the word on the package link, and one change of the level of HB_A, HB_B or HB_C (pins 9 to 11
of the model's numbering). -/
def Dev.sendBeat (y : Nat) (d : Dev) : Dev :=
  let level := !nth d.tp.hbPin y false
  let d : Dev := { d with tp := { d.tp with hbPin := setNth d.tp.hbPin y level } }
  (d.emit (.heartbeat y (nth d.tp.hbSeq y 0) (d.hbFlags y))).emit (.pin (9 + y) (bit level))

/-- HEARTBEAT_PERIOD (R358, R359, R361, R367): a period starts; the last one is counted, every channel sends on both paths. -/
def heartbeatPeriod (d : Dev) : Dev :=
  let start := d.periodStart
  let ok := match d.firstBuilt with | some g => (d.grp g).started | none => true
  if !ok || d.tp.period == start + 1 then d
  else
    let first := d.tp.period == 0
    let misses := (List.range 12).map fun i =>
      if first ∨ nth d.tp.hbSeen i false = true ∨ nth d.tp.hbSent (hbSender i) false = false then 0 else satInc 255 (nth d.tp.hbMiss i 0)
    let deliv := (List.range 3).map fun ch => d.tp.votes.all fun v => nth v.2.delivered ch true
    let d : Dev := { d with tp := { d.tp with
      hbMiss := misses, hbSeen := List.replicate 12 false, hbSent := (List.range 3).map d.sends, period := start + 1, delivered := deliv
      votes := d.tp.votes.map fun v => (v.1, { v.2 with delivered := [true, true, true] })
      hbSeq := (List.range 3).map fun y => if d.sends y then (nth d.tp.hbSeq y 0 + 1) % 0x1000 else nth d.tp.hbSeq y 0 } }
    let d : Dev := d.each ((List.range 3).filter d.sends) Dev.sendBeat
    let d : Dev := d.each (List.range 3) fun x d => d.each ((List.range 3).filter (· ≠ x)) fun y d => d.each [0, 1] fun p d =>
      if d.sends y && d.observes x && decide (3 ≤ nth d.tp.hbMiss (hbAt x y p) 0) then d.becomesMissing x y p else d
    let d : Dev := d.judgeBeats.takeDonor
    match d.tp.resync, d.firstBuilt with
    | some r, none =>
      if d.chState r.ch = 4 then
        (if r.copyAt = 0 then { d with tp := { d.tp with resync := some { r with copyAt := max 1 d.now } } } else d.enterService r.ch)
      else d
    | _, _ => d

/-- HEARTBEAT_RECEIVED (R358, R359): present within 2.0 µs of the period's start, on the package link with the next sequence
number; that path's missing state clears, which leaves a Y missing on both paths missing on one only. -/
def heartbeatReceived (x y path seq : Nat) (d : Dev) : Dev :=
  let present := x != y && d.sends y && decide (d.now ≤ d.tp.period - 1 + 1000) && d.tp.period != 0 && (path == 1 || seq == nth d.tp.hbSeq y 0)
  if !present then d
  else
    let i := hbAt x y path
    let d : Dev := { d with tp := { d.tp with hbSeen := setNth d.tp.hbSeen i true, hbMiss := setNth d.tp.hbMiss i 0 } }
    let one := d.missesOn x y path && d.missesOn x y (1 - path)
    let d : Dev := d.setMissing x y path false
    if one then d.pathFault x y else d

/-- HEARTBEAT_MISSING (R359, R361): the third period in a row passes its 2.0 µs without a present heartbeat. -/
def heartbeatMissing (x y path : Nat) (d : Dev) : Dev :=
  let i := hbAt x y path
  if x ≠ y ∧ d.observes x = true ∧ d.sends y = true ∧ d.tp.period ≠ 0 ∧ nth d.tp.hbSeen i false = false ∧ 2 ≤ nth d.tp.hbMiss i 0 ∧
      d.tp.period - 1 + 1000 ≤ d.now ∧ d.missesOn x y path = false then
    (d.becomesMissing x y path).judgeBeats
  else d

/-! Resynchronisation -/

/-- REPAIR_COMPLETE (R367): the self-test ends. -/
def repairComplete (pass : Bool) (d : Dev) : Dev :=
  match d.tp.resync with
  | some r =>
    if d.chState r.ch = 3 ∧ r.selfTested = false then
      if pass then ({ d with tp := { d.tp with resync := some { r with selfTested := true } } } : Dev).takeDonor
      else d.fenceChannel r.ch 7
    else d
  | none => d

/-- The donor's state of a tile and of its group becomes the receiving channel's (R368), with the cycle the donor has begun since, which it
computes alike from the same inputs; what the donor has delivered to the
voters already is not computed again. -/
def Dev.copyTile (a ch g t : Nat) (d : Dev) : Dev :=
  let x := d.ctile a t
  (d.modCg ch g fun _ => d.cg a g).modCt ch t fun _ => { x with jobs := x.jobs.filter fun j => decide (j.next < 6) }

/-- TILE_COPY_COMPLETE (R368): within 3.5 µs; the next tile follows at a D_E of its group. -/
def tileCopyComplete (d : Dev) : Dev :=
  match d.tp.resync with
  | some r => match r.donor, r.left with
    | some a, t :: rest =>
      match d.tileGroup t with
      | some g =>
        if d.chState r.ch ≠ 4 ∨ r.copyAt = 0 then d
        else if r.copyAt + 1750 < d.now then d.backToRepair
        else
          let d : Dev := d.copyTile a r.ch g t
          { d with tp := { d.tp with resync := some { r with left := rest, copyAt := 0 } } }
      | none => d
    | _, _ => d
  | none => d

/-- TILE_COPY_TIMEOUT (R370): 3.5 µs have passed. -/
def tileCopyTimeout (d : Dev) : Dev :=
  match d.tp.resync with
  | some r => if d.chState r.ch = 4 ∧ r.copyAt ≠ 0 ∧ r.copyAt + 1750 ≤ d.now then d.backToRepair else d
  | none => d

/-- SHADOW_COMPLETE (R369): every built group has its 256 cycles with at least 4 digests. -/
def shadowComplete (d : Dev) : Dev :=
  match d.tp.resync with
  | some r =>
    let groups := (List.range 4).filter fun g => (d.grp g).built
    if d.chState r.ch = 5 ∧ (groups.all fun g => r.shadow.any fun x => x.1 == g && decide (256 ≤ x.2.1) && decide (4 ≤ x.2.2)) = true then
      d.enterService r.ch
    else d
  | none => d

/-- RESYNC_TIMEOUT (R370). -/
def resyncTimeout (d : Dev) : Dev :=
  match d.tp.resync with
  | some r => if r.start + 500000000 ≤ d.now then (d.fenceChannel r.ch 0xA).voteAll else d
  | none => d

/-! The simplex timer -/

/-- The limit is reached (R364). -/
def Dev.simplexCheck (d : Dev) : Dev :=
  if d.triplex = 3 ∧ d.tp.simplexDone = false ∧ d.tp.simplexAt + 50000000 * d.get F.TP_CFG_SIMPLEX_LIMIT ≤ d.now then
    ({ d with tp := { d.tp with simplexDone := true } } : Dev).cond 0x2A true
  else d

/-- SIMPLEX_LIMIT (R364). -/
def simplexLimit (d : Dev) : Dev := d.simplexCheck

/-! The proof run -/

/-- Every non-idle tile's group leaves a gap of 2.5 µs (R372). -/
def Dev.proofGap (d : Dev) : Bool :=
  d.busyTiles.all fun p =>
    let c := (d.grp p.2.group).cfg
    decide (quarterUs c.de + 1250 ≤ halfUs c.cycle + quarterUs c.dr)

/-- A proof run starts. -/
def Dev.startProof (d : Dev) : Dev :=
  let d : Dev := { d with tp := { d.tp with proofStart := some d.now, proofAt := d.now } }
  (((d.set F.TP_PROOF_STATE 1).set F.TP_PROOF_STEP 0).set F.TP_PROOF_FAILED 0).refreshBusy

/-- PROOF_PERIOD_EXPIRY (R372); a run that could not be held in the gap does not start. -/
def proofPeriodExpiry (d : Dev) : Dev :=
  let h := d.get F.TP_CFG_PROOF_PERIOD
  if h ≠ 0 ∧ d.tp.proofAt + 1800000000000 * h ≤ d.now ∧ d.tp.proofStart = none ∧ d.serving ≠ [] ∧ d.proofGap = true then d.startProof else d

/-- PROOF_RUN_COMPLETE (R372): bit ch of `match'` tells that the channel's proof digests matched on every tile. -/
def proofRunComplete (match' : Nat) (d : Dev) : Dev :=
  if d.tp.proofStart.isNone || d.proofSteps < 128 then d
  else
    let d : Dev := { d with tp := { d.tp with proofStart := none, proofAt := d.now } }
    let d : Dev := (d.set F.TP_PROOF_STATE 2).refreshBusy
    let ran := (List.range 3).filter fun ch => d.inService ch || d.chState ch == 5
    let bad := ran.filter fun ch => !testBit match' ch
    let d : Dev := (d.set F.TP_PROOF_STEP 128).set F.TP_PROOF_FAILED (sumN (bad.map (2 ^ ·)))
    if bad.isEmpty then d.set F.TP_PROOF_RESULT 0
    else if bad.length = ran.length then (d.set F.TP_PROOF_RESULT 2).raise 0x2C
    else ((d.set F.TP_PROOF_RESULT 1).each bad fun ch d => d.fenceChannel ch 8).voteAll

/-! TP_CMD and TP_CFG -/

/-- The checks of R374 in their order for code 1 RESYNC, 2 FENCE, 3 CLEAR, 4 PROOF. -/
def Dev.tpCheck (d : Dev) (code ch : Nat) : Nat :=
  if (code = 1 ∨ code = 4) ∧ (d.tp.resync.isSome || d.tp.proofStart.isSome) = true then 1
  else if 3 ≤ ch then 2
  else if d.triplex = 0 ∨ d.triplex = 4 then 3
  else if (code = 1 ∧ d.chState ch ≠ 2) ∨ (code = 3 ∧ d.chState ch ≠ 6) then 4
  else if code = 1 ∧ d.bestDonor ch = none then 5
  else if code = 2 ∧ d.triplex ≠ 1 then 6
  else if code = 4 ∧ d.proofGap = false then 7
  else 0

/-- A command of TP_CMD. -/
def Dev.tpCmd (x code ch : Nat) (f : Dev → Dev) (d : Dev) : Dev :=
  d.hostWrite x 0x60020 fun d =>
    let r := d.tpCheck code ch
    let d : Dev := d.set F.TP_CMD_RESULT r
    if r = 0 then f d else d

/-- RESYNC (R366, R374). -/
def resync (x ch : Nat) (d : Dev) : Dev := d.tpCmd x 1 ch (Dev.startResync ch)

/-- FENCE (R362, R374). -/
def fence (x ch : Nat) (d : Dev) : Dev := d.tpCmd x 2 ch fun d => (d.fenceChannel ch 9).voteAll

/-- CLEAR (R366, R374). -/
def clear (x ch : Nat) (d : Dev) : Dev :=
  d.tpCmd x 3 ch fun d => ((d.setKept F.TP_CH_FENCES 0 ch).setCh ch 2).autoResync

/-- PROOF (R372, R374). -/
def proof (x ch : Nat) (d : Dev) : Dev := d.tpCmd x 4 ch Dev.startProof

/-- TP_CFG_WRITE (R364, R366). -/
def tpCfgWrite (x v : Nat) (d : Dev) : Dev :=
  d.hostWrite x 0x60004 fun d =>
    match findReg regTable 0x60004 with
    | none => d
    | some r =>
      let d : Dev := d.writeReg v r 0x60004
      let d : Dev := d.each (List.range 3) fun ch d =>
        if d.chState ch = 2 ∧ d.get F.TP_CFG_FENCE_MAX ≤ d.get F.TP_CH_FENCES ch then d.setCh ch 6 else d
      d.simplexCheck.autoResync

/-! Power-up -/

/-- CHANNEL_SELF_TEST_COMPLETE (R371): bit ch of `pass` tells that the channel passed; the channels that pass enter service
together, the others are FENCED or RETIRED. -/
def channelSelfTestComplete (pass : Nat) (d : Dev) : Dev :=
  if d.tp.started || !d.ready F.GL_READY_JOURNAL || d.get F.GL_START_KILN != 0 then d
  else
    let d : Dev := { d with tp := { d.tp with started := true, proofAt := d.now } }
    let retired := (List.range 3).filter fun ch => decide (d.get F.TP_CFG_FENCE_MAX ≤ d.get F.TP_CH_FENCES ch)
    let good := (List.range 3).filter fun ch => testBit pass ch && !retired.contains ch
    let bad := (List.range 3).filter fun ch => !testBit pass ch && !retired.contains ch
    let d : Dev := d.each retired fun ch d => d.setCh ch 6
    let d : Dev := d.each good fun ch d => (d.modChan ch fun _ => .init).setCh ch 1
    let d : Dev := d.each bad fun ch d => d.fenceChannel ch 7
    d.autoResync

end Sys2Proof.Machine
end

