-- ==== Sys2Proof/Machine/Build.lean ====
section
/-! DEFINITION. Building the structure of an image (R61): the groups at the hub and in the channels, the registers that
show what the image sets, and the units it configures. -/

namespace Sys2Proof.Machine

/-- Code of a tile type in PL_CFG.TYPE. -/
def typeCode : TileType → Nat
  | .idle => 0
  | .ac => 1
  | .chopper => 2

/-- Bit of PL_CFG.STAGES. -/
def stageBit : Stage → Nat
  | .condition => 5
  | .grid => 4
  | .arm => 3
  | .rank => 2
  | .schedule => 1
  | .emit => 0

/-- The non-idle tiles of group g in a structure. -/
def members (s : Structure) (g : Nat) : List (Nat × TileCfg) :=
  ((List.range 12).filterMap fun t => (s.tiles[t]?).map fun c => (t, c)).filter fun p => decide (p.2.type ≠ .idle) && p.2.group == g

/-- Tick of the anchor (R61): the course time of the build, rounded up to a multiple of 250 ticks. -/
def Dev.anchorTick (d : Dev) : Nat := d.now + (250 - d.ct % 250) % 250

/-- Group g as the build leaves it (R30, R61, R85): no set pending, no set-points, the tables in force. -/
def Dev.buildGroup (s : Structure) (b : ImageBody) (l : List Packet) (g : Nat) (d : Dev) : Dev :=
  match s.groups[g]?.bind id with
  | none => d.modGrp g fun _ => .init
  | some c =>
    let t := l.foldl (fun t p => p.apply g t) (b.table g)
    let n := t.formats.binds.length
    d.modGrp g fun h => { GroupHub.init with
      built := true, cfg := c, mode := b.mode g, tiles := members s g, anchor := d.anchorTick, tables := t,
      spSrc := List.replicate (min 4 n) .init, lastMode := h.lastMode }

/-- The structure registers of a tile (PL_CFG, PL_TIMING, PL_OUTER, PL_ARM_CFG); an idle tile shows its type and PHASE
0b11; only an arm has a PHASE and a POSITION (R167). -/
def Dev.showTile (s : Structure) (t : Nat) (d : Dev) : Dev :=
  match s.tiles[t]? with
  | none => d
  | some c =>
    if c.type = .idle then d.set F.PL_ARM_CFG_PHASE 3 t
    else
      let g := (s.groups[c.group]?.bind id).getD .zero
      let d : Dev := (d.set F.PL_CFG_TYPE (typeCode c.type) t).set F.PL_CFG_GROUP c.group t
      let d : Dev := (d.set F.PL_CFG_STAGES (sumN (c.stages.eraseDups.map fun x => 2 ^ stageBit x)) t).set F.PL_CFG_NCOURSES c.courses.length t
      let d : Dev := (d.set F.PL_TIMING_CYCLE g.cycle t).set F.PL_TIMING_LEAD g.lead t
      let d : Dev := (d.set F.PL_TIMING_EMIT_DL g.de t).set F.PL_TIMING_REPORT_DL g.dr t
      let d : Dev := ((d.set F.PL_OUTER_DIV g.div t).set F.PL_OUTER_MISS_LIMIT g.missLimit t).set F.PL_OUTER_PHASE g.phase t
      (d.set F.PL_ARM_CFG_PHASE (if c.type = .ac then c.phase else 3) t).flag F.PL_ARM_CFG_POSITION (decide (c.type = .ac) && c.lower) t

/-- The registers of a group that MODES sets (GP_TRANS_EN, GP_TRANS_AUTO, GP_HANDOVER.FADE_LEN) and its tables. -/
def Dev.showGroup (g : Nat) (d : Dev) : Dev :=
  let h := d.grp g
  if !h.built then d
  else
    let d : Dev := d.each (List.range 12) fun m d =>
      let mode := (modeOfCode m).getD .isolated
      (d.set F.GP_TRANS_EN_TO (shownEn h.chopperOnly h.mode mode) g m).set F.GP_TRANS_AUTO_TO (shownAuto h.mode mode) g m
    (d.set F.GP_HANDOVER_FADE_LEN h.mode.fadeLen g).showTables g

/-- The registers of courses, lanes and lane PLLs that STRUCTURE and LANES set. -/
def Dev.showCourse (s : Structure) (l : LanesCfg) (c : Nat) (d : Dev) : Dev :=
  let d : Dev := d.set F.CM_LANE_CFG_RATE ((tabGet l.rates c).getD 0) c
  let d : Dev := d.flag F.CM_LANE_CFG_SPREAD (decide ((nth l.spreads (c / 8) (0, 0)).1 ≠ 0)) c
  match tabGet s.courses c with
  | some k => (d.set F.CM_CRS_CTL_NC (if k.nc = 0 then 0x7F else k.nc - 1) c).flag F.CM_CRS_CTL_SPARE_UNKNOWN (k.nc == 0) c
  | none => (d.set F.CM_CRS_CTL_NC 0 c).flag F.CM_CRS_CTL_SPARE_UNKNOWN false c
def Dev.showLpll (l : LanesCfg) (p : Nat) (d : Dev) : Dev :=
  let x := nth l.spreads p (0, 0)
  (d.set F.TB_LPLL_CFG_MODE x.1 p).set F.TB_LPLL_CFG_DEPTH x.2 p

/-- The intake takes STREAMS: subscriptions are SILENT from now on, GOOSE bits stand at their DEFAULT and invalid, converters
idle with the calibration shown, and channels paced by a converter count its outputs anew (R304, R312, R313, R319, R460). -/
def Dev.buildIntake (s : StreamsCfg) (d : Dev) : Dev :=
  let svs := s.svs.map fun p => (p.1, { SvSt.init with silentAt := d.now })
  let d : Dev := { d with si := { SiSt.init with streams := s, svs := svs } }
  let d : Dev := d.each (List.range 32) fun n d => if (d.active n).pace = 0 then d else d.modDma n fun c => { c with next := 0 }
  let d : Dev := s.gos.foldl (fun d p => p.2.members.foldl (fun d m => d.giDefault m) d) d
  let d : Dev := { d with si := { d.si with giWas := (d.si.gi, 0) } }
  let d : Dev := d.showGi d.si.giWas
  let d : Dev := d.each (List.range 32) fun n d => d.set F.SI_SV_STAT_W0_STATE (bit (tabGet s.svs n).isSome) n
  let d : Dev := d.each (List.range 64) fun n d => d.flag F.SI_GO_SUB_USED (tabGet s.gos n).isSome n
  let d : Dev := d.each (List.range 8) fun n d => d.flag F.SI_GO_PUB_USED (tabGet s.pubs n).isSome n
  d.each (List.range 4) fun m d =>
    let c := d.lmCfg m
    let d : Dev := ((d.set F.LM_CFG_TRIG c.trig m).set F.LM_CFG_GROUP c.group m).set F.LM_CFG_EVT c.evt m
    let d : Dev := ((d.set F.LM_CFG_NENTRIES (c.entries.length - 1) m).set F.LM_CFG_DELAY c.delay m).takeCal m
    if d.ready F.GL_READY_LOCALMEAS && c.trig == 3 then d.contApply m (d.contWord m) d.now else d

/-- The time base takes TIME (R302, R334, R337, R343, R347, R349, R351): a port that is no PTP port, or is fenced (R387), shows state 0; MODE HOST is FREERUN. -/
def Dev.buildTime (t : TimeCfg) (d : Dev) : Dev :=
  let d : Dev := { d with tb := { d.tb with cfg := t, tios := d.tb.tios.map fun x => { x with pending := none } } }
  let d : Dev := ((d.flag F.TB_SERVO_CFG_MODE t.host).flag F.TB_SERVO_CFG_CLOCK t.boundary).set F.TB_SERVO_CFG_PROFILE t.profile
  let d : Dev := ((d.flag F.TB_SERVO_CFG_SLAVE_ONLY t.slaveOnly).set F.TB_SERVO_CFG_DOMAIN t.domain).set F.TB_SERVO_CFG_SLEW_MAX t.slewMax
  let d : Dev := d.each (List.range 4) fun p d =>
    let d : Dev := (d.flag F.SI_PORT_MODE (nth t.tenGig p false) p).setI F.TB_PTP_PORT_W2_ASYM (nth t.asym p 0) p
    d.set F.TB_PTP_PORT_W0_STATE (if testBit t.ptpPorts p && !d.isFenced (0x14F + p) then (if d.get F.TB_PTP_PORT_W0_STATE p = 0 then 1 else d.get F.TB_PTP_PORT_W0_STATE p) else 0) p
  let d : Dev := d.each (List.range 16) fun n d =>
    let e := nth t.evts n (0, 0)
    (d.set F.TB_EVT_CFG_EDGE e.1 n).set F.TB_EVT_CFG_FILTER e.2 n
  let d : Dev := d.each (List.range 8) fun n d =>
    ((d.set F.TB_TIO_W0_MODE (d.tioCfg n).mode n).set F.TB_TIO_W0_GROUP (d.tioCfg n).group n).flag F.TB_TIO_W3_PENDING false n
  let d : Dev := d.set F.TB_PPS_WIDTH t.ppsWidth
  if t.host ∧ d.get F.TB_SERVO_STATE ≠ 0 then d.setServo 0 else d

/-- The reaction table and snapshot lists of an image (R377, R390). Fixed sources keep their reaction and source 0 its ERR (R379), FIXED
and KIND are the hardware's. -/
def Dev.loadReact (f : FaultsCfg) (d : Dev) : Dev :=
  let d : Dev := { d with fc := { d.fc with snaps := f.snaps } }
  ((List.range 512).zip f.entries).foldl (fun d (p : Nat × ReactEntry) =>
    if isSource p.1 then
      ((d.set F.FC_REACT_REACTION ((fixedReaction p.1).getD p.2.reaction) p.1).flag F.FC_REACT_ERR (p.2.err || p.1 == 0) p.1).set F.FC_REACT_GROUPS p.2.groups p.1
    else d) d

/-- Build the structure of an image with the packets of its overlay (R36, R61): every group of it starts as after power-up and
MORTAR is ready. -/
def Dev.build (id' : Nat) (b : ImageBody) (l : List Packet) (d : Dev) : Dev :=
  match b.structure' with
  | none => d
  | some s =>
    let d : Dev := { d with
      mo := { d.mo with image := some { b with points := l.foldl (fun c p => p.points.getD c) b.points }, imageId := id' }
      chans := List.replicate 3 .init
      tp := { d.tp with votes := [] } }
    let d : Dev := d.each (List.range 4) (Dev.buildGroup s b l)
    let d : Dev := d.each (List.range 12) (Dev.showTile s)
    let d : Dev := d.each (List.range 4) Dev.showGroup
    let d : Dev := d.each (List.range 64) (Dev.showCourse s b.lanes)
    let d : Dev := d.each (List.range 8) (Dev.showLpll b.lanes)
    let d : Dev := (d.buildIntake b.streams).buildTime b.time
    let d : Dev := if d.ready F.GL_READY_FAULTS then d.loadReact b.faults else d
    d.flag F.GL_READY_MORTAR true

/-! The settings journal as a whole (R30, R42, R43) -/

/-- Registers whose Kept fields the journal restores: those that neither the image nor the device records hold. -/
def journalBases : List Nat :=
  [0x20040, 0x80, 0x84, 0x88, 0xA0000, 0x200A04, 0x200A10, 0x100, 0x7000C, 0x70840, 0x60004, 0x60010, 0x50100, 0x10008, 0x10100, 0x90000]

/-- Registers whose Kept fields an image sets: those of the structure and of the tables (R30). -/
def imageBases : List Nat :=
  [0x100000, 0x100004, 0x100008, 0xA0014, 0xA0040, 0xA0080, 0xA4020, 0x100100, 0x100200, 0x100204, 0x200880, 0x30800, 0x80000, 0x82000,
   0x82200, 0x70000, 0x30040, 0x30108, 0x30400, 0x30600, 0x30700, 0x40400, 0x50010]

/-- Whether a field is carried into a new image (R30): Kept, and not set by the image. Of CM_CRS_CTL only AUTO. -/
def carried (fd : FieldDesc) : Bool := fd.kept && !imageBases.contains fd.fld.base && (fd.fld.base != 0x200A04 || decide (fd.acc = .rw))

/-- Whether a field is restored from the journal: of CM_CRS_CTL only AUTO (NC comes from the image). -/
def journalled (fd : FieldDesc) : Bool := fd.kept && journalBases.contains fd.fld.base && (fd.fld.base != 0x200A04 || decide (fd.acc = .rw))

/-- The copies of a register. -/
def RegDesc.copies (r : RegDesc) : List RegAt :=
  match r.dims with
  | [] => [⟨r, 0, 0⟩]
  | [(n, _)] => (List.range n).map fun i => ⟨r, i, 0⟩
  | (n, _) :: (m, _) :: _ => (List.range n).flatMap fun i => (List.range m).map fun j => ⟨r, i, j⟩

/-- One record for every register copy with journalled fields, carrying their present values; `p` chooses the fields. -/
def Dev.recordsOf (d : Dev) (p : FieldDesc → Bool) (img seq : Nat) : List JRec :=
  let regs := regTable.filter fun r => r.fields.any p
  let copies := regs.flatMap RegDesc.copies
  (List.range copies.length).zip copies |>.map fun (n, r) =>
    let fs := r.reg.fields.filter p
    (JRec.start (seq + n) (regOffset r.reg.base r.i r.j) (sumN (fs.map fun fd => fieldMask fd.fld fd.pos)) (sumN (fs.map (d.fieldIn 0 r))) img).commits

/-- Show the journal (MO_JOURNAL). -/
def Dev.showJournal (d : Dev) : Dev :=
  let h := nth d.store.halves d.store.half ⟨0, false, []⟩
  ((d.set F.MO_JOURNAL_HALF d.store.half).set F.MO_JOURNAL_FILL h.recs.length).flag F.MO_JOURNAL_PENDING (h.recs.any fun r => !r.committed)

/-- Go on in the other half with a snapshot of every Kept field under a generation one higher (R42). -/
def Dev.nextHalf (d : Dev) : Dev :=
  let h := nth d.store.halves d.store.half ⟨0, false, []⟩
  let l := d.recordsOf (·.kept) (d.mo.imageId % 0x100000000) d.store.jseq
  let o := 1 - d.store.half
  ({ d with store := { d.store with
      jseq := d.store.jseq + l.length
      halves := setNth d.store.halves o ⟨h.gen + 1, true, l⟩
      half := o } } : Dev).showJournal

/-- The records ACTIVATE carries forward under the new image (R30); where they fill the half, the snapshot that follows holds every
one of them (R42). -/
def Dev.carryJournal (d : Dev) : Dev :=
  let l := d.recordsOf carried (d.mo.imageId % 0x100000000) d.store.jseq
  let h := nth d.store.halves d.store.half ⟨0, false, []⟩
  if 28672 ≤ h.recs.length + l.length then d.nextHalf
  else
  ({ d with store := { d.store with jseq := d.store.jseq + l.length, halves := setNth d.store.halves d.store.half { h with recs := h.recs ++ l } } } : Dev).showJournal

end Sys2Proof.Machine
end

