-- ==== Sys2Proof/Machine/Signature.lean ====
section
/-! DEFINITION. The signature of R24: ECDSA on the curve P-384 over the SHA-384 digest. The spec names both and gives neither;
their arithmetic and constants are those of FIPS 180-4 and FIPS 186-4 (PRESUMED, log entry 107). -/

namespace Sys2Proof.Machine

/-! SHA-384 -/

/-- The constants of the eighty rounds. -/
def shaK : List Nat :=
  [ 0x428A2F98D728AE22, 0x7137449123EF65CD, 0xB5C0FBCFEC4D3B2F, 0xE9B5DBA58189DBBC,
    0x3956C25BF348B538, 0x59F111F1B605D019, 0x923F82A4AF194F9B, 0xAB1C5ED5DA6D8118,
    0xD807AA98A3030242, 0x12835B0145706FBE, 0x243185BE4EE4B28C, 0x550C7DC3D5FFB4E2,
    0x72BE5D74F27B896F, 0x80DEB1FE3B1696B1, 0x9BDC06A725C71235, 0xC19BF174CF692694,
    0xE49B69C19EF14AD2, 0xEFBE4786384F25E3, 0x0FC19DC68B8CD5B5, 0x240CA1CC77AC9C65,
    0x2DE92C6F592B0275, 0x4A7484AA6EA6E483, 0x5CB0A9DCBD41FBD4, 0x76F988DA831153B5,
    0x983E5152EE66DFAB, 0xA831C66D2DB43210, 0xB00327C898FB213F, 0xBF597FC7BEEF0EE4,
    0xC6E00BF33DA88FC2, 0xD5A79147930AA725, 0x06CA6351E003826F, 0x142929670A0E6E70,
    0x27B70A8546D22FFC, 0x2E1B21385C26C926, 0x4D2C6DFC5AC42AED, 0x53380D139D95B3DF,
    0x650A73548BAF63DE, 0x766A0ABB3C77B2A8, 0x81C2C92E47EDAEE6, 0x92722C851482353B ] ++
  [ 0xA2BFE8A14CF10364, 0xA81A664BBC423001, 0xC24B8B70D0F89791, 0xC76C51A30654BE30,
    0xD192E819D6EF5218, 0xD69906245565A910, 0xF40E35855771202A, 0x106AA07032BBD1B8,
    0x19A4C116B8D2D0C8, 0x1E376C085141AB53, 0x2748774CDF8EEB99, 0x34B0BCB5E19B48A8,
    0x391C0CB3C5C95A63, 0x4ED8AA4AE3418ACB, 0x5B9CCA4F7763E373, 0x682E6FF3D6B2B8A3,
    0x748F82EE5DEFB2FC, 0x78A5636F43172F60, 0x84C87814A1F0AB72, 0x8CC702081A6439EC,
    0x90BEFFFA23631E28, 0xA4506CEBDE82BDE9, 0xBEF9A3F7B2C67915, 0xC67178F2E372532B,
    0xCA273ECEEA26619C, 0xD186B8C721C0C207, 0xEADA7DD6CDE0EB1E, 0xF57D4F7FEE6ED178,
    0x06F067AA72176FBA, 0x0A637DC5A2C898A6, 0x113F9804BEF90DAE, 0x1B710B35131C471B,
    0x28DB77F523047D84, 0x32CAAB7B40C72493, 0x3C9EBE0A15C9BEBC, 0x431D67C49C100D4C,
    0x4CC5D4BECB3E42B6, 0x597F299CFC657E2A, 0x5FCB6FAB3AD6FAEC, 0x6C44198C4A475817 ]

/-- The value the digest starts from. -/
def shaStart : List Nat :=
  [ 0xCBBB9D5DC1059ED8, 0x629A292A367CD507, 0x9159015A3070DD17, 0x152FECD8F70E5939,
    0x67332667FFC00B31, 0x8EB44A8768581511, 0xDB0C2E0D64F98FA7, 0x47B5481DBEFA4FA4 ]

/-- Rotation of a 64-bit word to the right. -/
def rotr64 (n x : Nat) : Nat := (x / 2 ^ n + x * 2 ^ (64 - n)) % 0x10000000000000000

/-- The big-endian number of bytes. -/
def beNat (l : List (BitVec 8)) : Nat := l.foldl (fun n b => 256 * n + b.toNat) 0

/-- A message with its padding: a one bit, zeros, and its length in bits as 128 bits. -/
def shaPad (l : List (BitVec 8)) : List (BitVec 8) :=
  l ++ [0x80#8] ++ List.replicate ((111 + 128 - l.length % 128) % 128) 0#8 ++ (leBytes 16 (8 * l.length)).reverse

/-- The message schedule, newest word first, after n further words. -/
def shaSchedule : Nat → List Nat → List Nat
  | 0, w => w
  | n + 1, w =>
    let a := (w[14]?).getD 0
    let b := (w[1]?).getD 0
    let s0 := rotr64 1 a ^^^ rotr64 8 a ^^^ (a / 2 ^ 7)
    let s1 := rotr64 19 b ^^^ rotr64 61 b ^^^ (b / 2 ^ 6)
    shaSchedule n ((((w[15]?).getD 0 + s0 + (w[6]?).getD 0 + s1) % 0x10000000000000000) :: w)

/-- One round on the eight working words, with its schedule word plus constant. -/
def shaRound (v : List Nat) (kw : Nat) : List Nat :=
  match v with
  | [a, b, c, d, e, f, g, h] =>
    let t1 := h + (rotr64 14 e ^^^ rotr64 18 e ^^^ rotr64 41 e) + ((e &&& f) ^^^ ((e ^^^ 0xFFFFFFFFFFFFFFFF) &&& g)) + kw
    let t2 := (rotr64 28 a ^^^ rotr64 34 a ^^^ rotr64 39 a) + ((a &&& b) ^^^ (a &&& c) ^^^ (b &&& c))
    [(t1 + t2) % 0x10000000000000000, a, b, c, (d + t1) % 0x10000000000000000, e, f, g]
  | _ => v

/-- One block of 128 bytes. -/
def shaBlock (v : List Nat) (block : List (BitVec 8)) : List Nat :=
  let w := (shaSchedule 64 ((List.range 16).map fun i => beNat ((block.drop (8 * i)).take 8)).reverse).reverse
  let r := ((shaK.zip w).map fun p => p.1 + p.2).foldl shaRound v
  (v.zip r).map fun p => (p.1 + p.2) % 0x10000000000000000

/-- The SHA-384 digest of a message, as a number. -/
def sha384 (l : List (BitVec 8)) : Nat :=
  let m := shaPad l
  let v := (List.range (m.length / 128)).foldl (fun v i => shaBlock v ((m.drop (128 * i)).take 128)) shaStart
  (v.take 6).foldl (fun n w => n * 0x10000000000000000 + w) 0

/-! P-384 -/

/-- The field's prime, the order of the base point, the constant b (a is -3) and the base point of P-384. -/
def ecP : Nat := 2 ^ 384 - 2 ^ 128 - 2 ^ 96 + 2 ^ 32 - 1
def ecN : Nat := 0xffffffffffffffffffffffffffffffffffffffffffffffffc7634d81f4372ddf581a0db248b0a77aecec196accc52973
def ecB : Nat := 0xb3312fa7e23ee7e4988e056be3f82d19181d9c6efe8141120314088f5013875ac656398d8a2ed19d2a85c8edd3ec2aef
def ecG : Nat × Nat :=
  (0xaa87ca22be8b05378eb1c71ef320ad746e1d3b628ba79b9859f741e082542a385502f25dbf55296c3a545e3872760ab7,
   0x3617de4a96262c6f5d9e98bf9292dc29f8f41dbd289a147ce9da3113b5f0b8c00a60b1ce1d7e819d7a431d7c90ea0e5f)

/-- x to the power of the low n bits of e, modulo m. -/
def powMod (m x : Nat) : Nat → Nat → Nat
  | 0, _ => 1
  | n + 1, e =>
    let h := powMod m (x * x % m) n (e / 2)
    if e % 2 = 1 then h * x % m else h

/-- The inverse modulo a prime below 2^384. -/
def invMod (m x : Nat) : Nat := powMod m (x % m) 384 (m - 2)

/-- x minus y modulo the field's prime. -/
def ecSub (x y : Nat) : Nat := (x + ecP - y % ecP) % ecP

/-- Sum of two points; none is the point at infinity. -/
def ecAdd : Option (Nat × Nat) → Option (Nat × Nat) → Option (Nat × Nat)
  | none, q => q
  | p, none => p
  | some (x, y), some (u, v) =>
    if x = u ∧ (y + v) % ecP = 0 then none
    else
      let l := if x = u then (3 * x * x + ecP - 3) % ecP * invMod ecP (2 * y) % ecP else ecSub v y * invMod ecP (ecSub u x) % ecP
      let r := ecSub (l * l) (x + u)
      some (r, ecSub (l * ecSub x r) y)

/-- The low n bits of k times a point. -/
def ecMul (p : Option (Nat × Nat)) : Nat → Nat → Option (Nat × Nat)
  | 0, _ => none
  | n + 1, k =>
    let h := ecMul (ecAdd p p) n (k / 2)
    if k % 2 = 1 then ecAdd h p else h

/-- Whether the signature (r, s) of a message verifies under a public key: x times 2^384 plus y (R24, R26). -/
def signatureOk (key : Nat) (msg : List (BitVec 8)) (r s : Nat) : Bool :=
  let x := key / 2 ^ 384
  let y := key % 2 ^ 384
  decide (x < ecP) && decide (y < ecP) && y * y % ecP == (x * x * x + ecB + 3 * (ecP - x)) % ecP &&
  decide (0 < r) && decide (r < ecN) && decide (0 < s) && decide (s < ecN) &&
  (let w := invMod ecN s
   match ecAdd (ecMul (some ecG) 384 (sha384 msg * w % ecN)) (ecMul (some (x, y)) 384 (r * w % ecN)) with
   | some q => q.1 % ecN == r
   | none => false)

end Sys2Proof.Machine
end

