-- ==== Sys2Proof/Machine/Mortar.lean ====
section
/-! DEFINITION. The mortar manager (R24 to R40, R58, R483): verification of images and table packets, the MO_CMD commands
with their completions, live table exchange, and the scrubber. -/

namespace Sys2Proof.Machine

/-! Header and directory (R24) -/

/-- A directory entry: ID, offset, length, CRC-32C. -/
structure DirEntry where
  id : Nat
  off : Nat
  len : Nat
  crc : Nat
  deriving DecidableEq, Repr

/-- SECTIONS, LENGTH, IMAGE_ID, SECVER and KEYIDX of an image or packet, and its directory. -/
def imgSections (m : Mem) : Nat := m.readLe 6 2
def imgLength (m : Mem) : Nat := m.readLe 8 4
def imgId (m : Mem) : Nat := m.readLe 0x10 8
def imgSecver (m : Mem) : Nat := m.readLe 0x18 4
def imgKeyidx (m : Mem) : Nat := m.readLe 0x1C 4
def imgEntry (m : Mem) (i : Nat) : DirEntry :=
  let a := 0x100 + 16 * i
  { id := m.readLe a 2, off := m.readLe (a + 4) 4, len := m.readLe (a + 8) 4, crc := m.readLe (a + 12) 4 }
def imgDir (m : Mem) : List DirEntry := (List.range (imgSections m)).map (imgEntry m)

/-- Bytes of the section with an ID; none of it if it is absent. -/
def imgSection (m : Mem) (id' : Nat) : List (BitVec 8) :=
  match (imgDir m).find? (·.id == id') with
  | some e => m.readBytes e.off e.len
  | none => []

/-- Check 1 of R26: the header fields; the code of R58, 0 if it passes. A packet is a table packet. -/
def headerCheck (m : Mem) (packet : Bool) : Nat :=
  let part := m.readLe 0xC 4
  let n := imgSections m
  let len := imgLength m
  if m.readLe 0 4 ≠ 0x4D4F5254 ∨ m.readLe 4 2 ≠ 3 then 0x12
  else if part / 0x10000 ≠ 0x0C12 ∨ 0xB0 < part % 0x10000 then 0x07
  else if n < 1 ∨ (if packet then 1 else 32) < n then 0x12
  else if (if packet then 0x200000 else 0xC00000) < len ∨ len % 4 ≠ 0 ∨ len < 0x100 + 16 * n + 96 then 0x0B
  else 0

/-- Check 2 of R26: the key ring entry that KEYIDX names, present and not revoked. -/
def Dev.ringKey (d : Dev) (i : Nat) : Option KeyEntry := ((d.store.keys[i]?).bind id).filter fun k => !k.revoked

/-- Checks 5 and 6 of R26, and R25: CRCs, every section inside the image, none overlapping another, no ID twice. -/
def sectionsOk (m : Mem) : Bool :=
  let l := imgDir m
  let n := l.length
  l.all (fun e => decide (e.off + e.len ≤ imgLength m) && crc32c (m.readBytes e.off e.len) == e.crc) &&
  distinct (l.map (·.id)) &&
  (List.range n).all fun i => (List.range n).all fun j =>
    let a := imgEntry m i
    let b := imgEntry m j
    i == j || a.len == 0 || b.len == 0 || decide (a.off + a.len ≤ b.off) || decide (b.off + b.len ≤ a.off)

/-- Check 7 of R26: STRUCTURE, MODES, FAULTS and SAFETY are present. -/
def mandatoryOk (m : Mem) : Bool := [1, 2, 8, 9].all fun s => (imgDir m).any (·.id == s)

/-- Total length of the class L sections of an image (R37). -/
def classL (m : Mem) : Nat := sumN (((imgDir m).filter fun e => among 3 6 e.id).map (·.len))

/-- Check 3 of R26: the last 96 bytes, r then s, each 48 bytes big-endian, sign the bytes before them under a key (R24). -/
def imgSigned (m : Mem) (key : Nat) : Bool :=
  let n := imgLength m - 96
  signatureOk key (m.readBytes 0 n) (beNat (m.readBytes n 48)) (beNat (m.readBytes (n + 48) 48))

/-- Verification under R26: the code of the first failing check, 0 if it passes. `uncorr` tells that a word of the store could not
be corrected, `content` is the outcome of check 8. -/
def Dev.verify (d : Dev) (m : Mem) (uncorr packet content : Bool) : Nat :=
  let h := headerCheck m packet
  if h ≠ 0 then h
  else match d.ringKey (imgKeyidx m) with
    | none => 0x0A
    | some k =>
      if !imgSigned m k.key then 0x05
      else if imgSecver m < d.store.floor then 0x08
      else if uncorr || !sectionsOk m || !(packet || mandatoryOk m) then 0x11
      else if !content then 0x06 else 0

/-! Reads of the retained store (R39) -/

/-- A read-back after a write to the store (R39, R58): single-bit errors are corrected and counted; what the command wrote with an
uncorrectable error is undone by its STORE_ERROR. -/
def Dev.readBack (l : List StoreErr) (d : Dev) : Dev := d.readStore (l.filter fun e => !e.uncorr)

/-- Whether a read-back found an uncorrectable error. -/
def readBackBad (l : List StoreErr) : Bool := l.any (·.uncorr)

/-! Slots -/

/-- A slot of the store, and its change with MO_SLOT following. -/
def Dev.slot (d : Dev) (n : Nat) : Slot := nth d.store.slots n .empty
def Dev.showSlot (n : Nat) (d : Dev) : Dev :=
  let s := d.slot n
  ((d.set F.MO_SLOT_STATE s.state n).set F.MO_SLOT_REASON s.reason n).set F.MO_SLOT_SECVER (s.secver % 0x10000) n
def Dev.modSlot (n : Nat) (f : Slot → Slot) (d : Dev) : Dev :=
  ({ d with store := { d.store with slots := setNth d.store.slots n (f (d.slot n)) } } : Dev).showSlot n

/-- Verify a slot as an image: the code of R58. What a LOAD that was cut off left of an image is not known (log entry 173). -/
def Dev.verifySlot (n : Nat) (d : Dev) : Nat :=
  let s := d.slot n
  match s.cut with
  | some n => nth [0, 0x12, 0x07, 0x0B, 0x0A, 0x05, 0x08, 0x11, 0x06] (Config.freeValue n % 9) 0
  | none => d.verify s.bytes s.uncorr false (contentOk s.body (imgSection s.bytes 9) && decide (classL s.bytes ≤ 0x200000))

/-- A verification of a slot ends with a code (R26, R28): REJECTED with it, or the state a good image takes. A slot that scrubbing
has meanwhile made DAMAGED stays so: only ERASE and LOAD lead out of it (log entry 108); one that the examination of R32 has meanwhile
found EMPTY stays EMPTY (log entry 112). -/
def Dev.slotVerified (n code good : Nat) (d : Dev) : Dev :=
  d.modSlot n fun s => if s.state = 0 then s else { s with state := if s.state = 6 then 6 else if code = 0 then good else 5, reason := code }

/-- The slot that is ACTIVE. -/
def Dev.activeSlot (d : Dev) : Option Nat := [0, 1].find? fun n => (d.slot n).state == 4

/-- KEYS and FLOOR of MO_STATUS. -/
def Dev.showRing (d : Dev) : Dev :=
  (d.set F.MO_STATUS_KEYS (sumN ((List.range 4).map fun i => 2 ^ i * bit (d.ringKey i).isSome))).set F.MO_STATUS_FLOOR (d.store.floor % 0x100)

/-! MO_CMD -/

/-- The checks of R58 in their order: `bad` is BAD_CODE, `own` the command's own check. -/
def Dev.moCheck (d : Dev) (bad : Bool) (own : Nat) : Nat :=
  if d.get F.GL_START_KILN ≠ 0 then 0x10
  else if !d.ready F.GL_READY_STORE then 0x0F
  else if d.on F.MO_CMD_BUSY then 0x01
  else if bad then 0x02 else own

/-- A write to MO_CMD: refused with its code, or accepted. -/
def Dev.moCmd (x : Nat) (bad : Bool) (own : Nat) (f : Dev → Dev) (d : Dev) : Dev :=
  d.hostWrite x 0x20010 fun d =>
    let r := d.moCheck bad own
    if r ≠ 0 then d.set F.MO_CMD_RESULT r else f (d.flag F.MO_CMD_BUSY true)

/-- A command in progress: its code and slot. -/
def Dev.moStart (r : MoRun) (d : Dev) : Dev := { d with mo := { d.mo with run := some r } }
def MoRun.of (code slot : Nat) : MoRun := ⟨code, slot, none⟩

/-- The command in progress ends with its result. -/
def Dev.moEnd (code : Nat) (d : Dev) : Dev :=
  (({ d with mo := { d.mo with run := none } } : Dev).set F.MO_CMD_RESULT code).flag F.MO_CMD_BUSY false

/-- The completion of a command with a code, if that command is in progress. -/
def Dev.moDone (code : Nat) (f : MoRun → Dev → Dev) (d : Dev) : Dev :=
  match d.mo.run with
  | some r => if r.code = code then f r d else d
  | none => d

/-- Bytes of an image or packet in the working store: its LENGTH, at least a header, at most `most`. -/
def Dev.staged (d : Dev) (most : Nat) : Mem := d.work.take (min (max (d.work.readLe 8 4) 0x100) most)

/-- LOAD (R28, R29): the image of the working store as it stands goes to the slot. -/
def load (x slot : Nat) (d : Dev) : Dev :=
  d.moCmd x (decide (1 < slot)) (if (d.slot slot).state = 4 then 3 else 0) fun d =>
    (d.moStart (.of 1 slot)).modSlot slot fun s => { s with state := 1, bytes := d.staged 0xC00000, uncorr := false, idBad := false, cut := none }

/-- LOAD_COMPLETE (R28, R58, R483): `errs` is what the read-back found. A slot that scrubbing has meanwhile made DAMAGED stays so
(log entry 108). -/
def loadComplete (errs : List StoreErr) (d : Dev) : Dev :=
  d.moDone 1 (fun r d =>
    let d : Dev := d.readStore errs
    if (d.slot r.slot).uncorr then
      (d.modSlot r.slot fun s => { s with state := if s.state = 6 then 6 else 5, reason := 0x0E }).moEnd 0x0E
    else (d.modSlot r.slot fun s => { s with state := 2, reason := 0, secver := imgSecver s.bytes }).moEnd 0)

/-- VERIFY (R28). -/
def verify (x slot : Nat) (d : Dev) : Dev :=
  let st := (d.slot slot).state
  d.moCmd x (decide (1 < slot)) (if st = 4 then 3 else if st = 0 ∨ st = 6 then 0x13 else 0) (Dev.moStart (.of 2 slot))

/-- VERIFY_COMPLETE (R26, R28, R58): `errs` is what the reads of the slot found. -/
def verifyComplete (errs : List StoreErr) (d : Dev) : Dev :=
  d.moDone 2 (fun r d =>
    let d : Dev := d.readStore errs
    let code := d.verifySlot r.slot
    (d.slotVerified r.slot code 3).moEnd code)

/-- ERASE (R28, R29) and its completion, with what the read-back found. -/
def erase (x slot : Nat) (d : Dev) : Dev :=
  d.moCmd x (decide (1 < slot)) (if (d.slot slot).state = 4 then 3 else 0) (Dev.moStart (.of 4 slot))
def eraseComplete (errs : List StoreErr) (d : Dev) : Dev :=
  d.moDone 4 (fun r d =>
    let d : Dev := d.readBack errs
    if readBackBad errs then d.moEnd 0x0E else (d.modSlot r.slot fun _ => .empty).moEnd 0)

/-- RAISE_FLOOR (R58) and its completion: the floor becomes the active image's SECVER. -/
def raiseFloor (x : Nat) (d : Dev) : Dev :=
  d.moCmd x false (if d.activeSlot.isNone || !d.ready F.GL_READY_MORTAR then 0x13 else 0) (Dev.moStart (.of 6 0))
def raiseFloorComplete (errs : List StoreErr) (d : Dev) : Dev :=
  d.moDone 6 (fun _ d =>
    let d : Dev := d.readBack errs
    match readBackBad errs, d.activeSlot with
    | false, some n => ({ d with store := d.store.write 1 fun r => { r with floor := imgSecver (d.slot n).bytes } } : Dev).showRing.moEnd 0
    | _, _ => d.moEnd 0x0E)

/-- KEYREC (R27, R58): the key record of the working store. -/
def keyrec (x : Nat) (d : Dev) : Dev :=
  d.moCmd x false 0 fun d => d.moStart ⟨7, 0, some (Config.keyRecord d.work)⟩

/-- Whether a key record would break R27. -/
def Dev.keyRule (d : Dev) (r : KeyRecord) : Bool :=
  if r.revoke then (d.ringKey r.entry).isNone || ((List.range 4).filter fun i => (d.ringKey i).isSome).length ≤ 1
  else decide (4 ≤ r.entry) || (nth d.store.keys r.entry none).isSome

/-- The code a key record ends with (R27, R58): format, key, signature, then R27; 0 if it is good. -/
def Dev.keyCheck (d : Dev) (r : KeyRecord) : Nat :=
  if !r.formatOk then 0x12
  else match d.ringKey r.signedBy with
    | none => 0x0A
    | some k => if !signatureOk k.key r.signed r.sigR r.sigS then 0x05 else if d.keyRule r then 0x14 else 0

/-- The ring entry a key record leaves. -/
def Dev.newKey (d : Dev) (r : KeyRecord) : KeyEntry :=
  if r.revoke then { (nth d.store.keys r.entry none).getD ⟨0, false⟩ with revoked := true } else ⟨r.key, false⟩

/-- KEYREC_COMPLETE (R27, R58): `errs` is what the read-back of both copies of the ring found. -/
def keyrecComplete (errs : List StoreErr) (d : Dev) : Dev :=
  d.moDone 7 (fun run d =>
    match run.key with
    | none => d.moEnd 0x12
    | some r =>
      let code := d.keyCheck r
      if code ≠ 0 then d.moEnd code
      else
      let d : Dev := d.readBack errs
      if readBackBad errs then d.moEnd 0x0E
      else ({ d with store := d.store.write 0 fun c => { c with keys := setNth d.store.keys r.entry (some (d.newKey r)) } } : Dev).showRing.moEnd 0)

/-! ACTIVATE -/

/-- Every group is ISOLATED, in what it shows and in every channel whose Condition stage has run for the next D_E (R30, R87). -/
def Dev.allAtRest (d : Dev) : Bool :=
  d.allIsolated && (List.range 3).all fun ch => (List.range 4).all fun g =>
    !(d.grp g).built || !d.computesAny ch || decide ((d.cg ch g).ctl.m.mode = .isolated)

/-- A mode command of a group that the Condition stage has not evaluated when ACTIVATE is accepted ends with NOT_READY (R30, R96; log entry
173). -/
def Dev.dropMode (g : Nat) (d : Dev) : Dev :=
  let d : Dev := match (d.grp g).latched with
    | some c => if (d.grp g).drK == some (d.grp g).k && (List.range 3).all fun ch => !d.computesAny ch || (d.cg ch g).cycles.all (·.condDone) then d
      else (d.set F.GP_MODE_STATUS_RESULT rNotReady g).set F.GP_MODE_STATUS_TAG c.tag g
    | none => d
  let d : Dev := d.modGrp g fun h => { h with latched := none }
  d.each [0, 1, 2] fun ch d => d.modCg ch g fun x => { x with cycles := x.cycles.map fun y => if y.condDone then y else { y with inp := { y.inp with cmd := none } } }

/-- ACTIVATE (R30). -/
def activate (x slot : Nat) (d : Dev) : Dev :=
  d.moCmd x (decide (1 < slot)) (if !d.allAtRest then 4 else if (d.slot slot).state ≠ 3 then 9 else 0) fun d =>
    (d.moStart (.of 3 slot)).each (List.range 4) Dev.dropMode

/-- Registers of a range go back to their power-up values: the groups to ISOLATED. -/
def Dev.clearRange (lo hi : Nat) (d : Dev) : Dev :=
  { d with bank := d.bank.filter fun e => !(decide (lo ≤ e.1.fld.base) && decide (e.1.fld.base < hi)) }

/-- What the former structure leaves: converters, exchanges with bricks, groups and their registers start afresh (R30). -/
def Dev.clearStructure (d : Dev) : Dev :=
  let d : Dev := d.each [1, 2, 3, 4] Dev.withdraw
  let d : Dev := d.each (List.range 64) fun c d => ((d.dropReqs c 0x13).endLoop c 0 (some 6)).endLoop c 1 (some 6)
  let conds := (List.range 0x80).map (0x40 + ·) ++ (List.range 0x60).map (0x160 + ·)
  let d : Dev := d.each conds fun n d => d.cond n false
  let d : Dev := { d with
    grps := List.replicate 4 .init
    cm := { d.cm with crs := [], dir := [], copies := [], ops := [] } }
  let d : Dev := ((d.clearRange 0xA0000 0xB0000).clearRange 0x100000 0x1C0000).clearRange 0x80100 0x82240
  let d : Dev := (d.clearRange 0x200000 0x200010).each (List.range 64) fun c d => (d.set F.CM_CRS_STAT_FOUND 0 c).set F.CM_CRS_STAT_IN_SERVICE 0 c
  let d : Dev := (d.flag F.LM_CAL_CMD_BUSY false).set F.GL_READY_GROUP 0
  (d.each (List.range 4) fun m d => d.set F.LM_STAT_STATE 0 m).backToRepair

/-- Both lanes of a course go idle through EIDLE and, where the course is enabled, wake for their new rate by a wake sequence (R30, R219,
R234, R235). -/
def Dev.restartCourse (c : Nat) (d : Dev) : Dev :=
  (d.idleCourses [c]).wakeCourse c true

/-- The courses under a new structure (R233, R278): a course whose lanes keep their rate is discovered again, which wakes a spare one that was
held idle; every other goes idle and wakes if it is enabled. -/
def Dev.recourse (old : List (Option Nat)) (held : List Nat) (d : Dev) : Dev :=
  d.each (List.range 64) fun c d =>
    if d.laneRate c ≠ nth old c none then d.restartCourse c
    else
      let d : Dev := if held.contains c then d.wakeCourse c false else d
      if d.get F.CM_CRS_STAT_STATE c = 0 then d
      else if d.get F.CM_CRS_STAT_STATE c = 1 then d.startDiscovery c else d.setCourse c 1

/-- The new image takes over (R30): slots, structure, journal, pointer, overlay, in this order, then the seal (R400) and the
reaction table (R377). -/
def Dev.takeOver (slot : Nat) (d : Dev) : Dev :=
  let b := (d.slot slot).body
  let bytes := (d.slot slot).bytes
  let damaged := d.on F.MO_STATUS_ACTIVE_DAMAGED
  let old := (List.range 64).map d.laneRate
  let held := (List.range 64).filter fun c => (d.crs c).spareIdle
  let d : Dev := match d.activeSlot with
    | some n => d.modSlot n fun s => { s with state := if damaged then 6 else 3 }
    | none => d
  let d : Dev := (d.clearStructure.build (imgId bytes) b []).carryJournal
  let d : Dev := { d with store := { d.store.write 2 fun r => { r with active := slot } with overlay := [⟨0, true, []⟩, ⟨0, false, []⟩], ohalf := 0 } }
  let d : Dev := ((d.set F.MO_STATUS_ACTIVE slot).flag F.MO_STATUS_ACTIVE_DAMAGED false).modSlot slot fun s => { s with state := 4, reason := 0 }
  let d : Dev := ((d.recourse old held).flag F.GL_READY_LANE_L0 false).flag F.GL_READY_LANE_L1 false
  d.refreshLanes.sealAndReady (decodeSafety (imgSection bytes 9))

/-- ACTIVATE_COMPLETE (R30, R58): re-verified with what the reads of the slot found; `ok` tells that every write to the store was
read back well. -/
def activateComplete (errs : List StoreErr) (ok : Bool) (d : Dev) : Dev :=
  d.moDone 3 (fun r d =>
    let d : Dev := d.readStore errs
    let code := d.verifySlot r.slot
    if code ≠ 0 then (d.slotVerified r.slot code 3).moEnd code
    else if !ok then d.moEnd 0x0E
    else (d.takeOver r.slot).moEnd 0)

/-! Live table exchange -/

/-- Groups of a mask. -/
def maskGroups (m : Nat) : List Nat := (List.range 4).filter (testBit m)

/-- The packets of class L section s in force (R32, R37, R432): those of the active image, without the one whose openings have all still to come; where
the compaction for that one dropped what it replaces, those of the other half. -/
def Dev.packetsOf (d : Dev) (s : Nat) : List Packet :=
  let own (h : Nat) : List Packet :=
    (nth d.store.overlay h ⟨0, false, []⟩).packets.filter fun p => p.section_ == s && p.imageId == d.mo.imageId
  let all := own d.store.ohalf
  match d.mo.live with
  | some l =>
    if d.get F.MO_LIVE_STATE = 3 ∧ l.packet.section_ = s ∧ l.waiting.length = (maskGroups l.packet.groups).length then
      (match all.dropLast with | [] => own (1 - d.store.ohalf) | k => k)
    else all
  | none => all

/-- Length of class L section s in force (R37): that of the last packet of the overlay that holds it, else the image's. -/
def Dev.inForceLen (d : Dev) (s : Nat) : Nat :=
  let l := d.packetsOf s
  match l.getLast?, d.activeSlot with
  | some p, _ => p.secLen
  | none, some n => ((imgDir (d.slot n).bytes).find? (·.id == s)).elim 0 (·.len)
  | none, none => 0

/-- The packet that bytes of the working store hold, for a group mask. One that replaces a table within its section leaves the
section at least as long as it is (log entry 109). -/
def Dev.packetOf (d : Dev) (m : Mem) (mask : Nat) : Packet :=
  let e := imgEntry m 0
  let b := Config.packetBody m
  { imageId := imgId m, section_ := e.id, groups := mask, whole := if b.whole then mask else 0, tables := b.tables, points := b.points,
    length := imgLength m, secLen := if b.whole then e.len else max (d.inForceLen e.id) e.len, committed := false, bad := false }

/-- LIVE (R33, R58): the packet of the working store. -/
def live (x mask : Nat) (d : Dev) : Dev :=
  let mask := mask % 16
  d.moCmd x (mask == 0) (if (maskGroups mask).any fun g => !(d.grp g).built then 0x0F else 0) fun d =>
    let m := d.staged 0x200000
    let p := d.packetOf m mask
    let d : Dev := { d with mo := { d.mo with live := some ⟨p, m, []⟩ } }
    let d : Dev := ((d.set F.MO_LIVE_STATE 1).set F.MO_LIVE_GROUPS mask).set F.MO_LIVE_SECTION p.section_
    (d.set F.MO_LIVE_RESULT 0).set F.MO_CMD_RESULT 0

/-- Check 8 for a packet: the tables of every addressed group as they would stand. -/
def Dev.packetOk (d : Dev) (p : Packet) : Bool :=
  (match p.points with | some c => pointsOk c | none => true) &&
  (maskGroups p.groups).all fun g => (p.table g).curves.all curveFormatOk && tablesOk (d.grp g).cfg (d.grp g).mode d.si.streams ((d.grp g).tiles.map (·.1)) (p.apply g (d.grp g).tables)

/-- The exchange ends as REFUSED with a code. -/
def Dev.refuseLive (code : Nat) (d : Dev) : Dev :=
  ((({ d with mo := { d.mo with live := none } } : Dev).set F.MO_LIVE_STATE 5).set F.MO_LIVE_RESULT code).flag F.MO_CMD_BUSY false

/-- The further tests of R33 on a verified packet, in their order; 0 if none fails. A packet whose section is none of R25's table is
refused like one of class I (log entry 110). -/
def Dev.liveCheck (d : Dev) (p : Packet) : Nat :=
  if p.imageId ≠ d.mo.imageId then 0x0D
  else if !among 3 6 p.section_ then 0x0C
  else if 0x200000 < sumN ([3, 4, 5, 6].map fun s => if s = p.section_ then p.secLen else d.inForceLen s) then 0x0B
  else 0

/-- LIVE_VERIFY_COMPLETE (R33, R34). -/
def liveVerifyComplete (d : Dev) : Dev :=
  match d.mo.live with
  | none => d
  | some l =>
    if d.get F.MO_LIVE_STATE ≠ 1 then d
    else
      let v := d.verify l.bytes false true (d.packetOk l.packet)
      let code := if v ≠ 0 then v else d.liveCheck l.packet
      if code ≠ 0 then d.refuseLive code else d.set F.MO_LIVE_STATE 2

/-- Two packets of one section as one, the later over the earlier: the content in force of the section (R37). -/
def Packet.merge (a b : Packet) : Packet :=
  { b with
    groups := a.groups ||| b.groups
    whole := a.whole ||| b.whole
    tables := (List.range 4).map fun g =>
      if testBit b.groups g && testBit b.whole g then b.table g else (b.table g).over (a.table g)
    points := b.points <|> a.points
    length := 0x100 + 16 + b.secLen + 96 }

/-- The content in force of each section that packets of the active image changed (R37). -/
def inForce (id' : Nat) (l : List Packet) : List Packet :=
  [3, 4, 5, 6].filterMap fun s =>
    match l.filter fun p => p.imageId == id' && p.section_ == s && !p.bad with
    | [] => none
    | p :: r => some (r.foldl Packet.merge p)

/-- Append a packet to the overlay, with compaction into the other half where it does not fit (R37): the content in force of every
changed section, except the one the packet replaces whole, then the packet. -/
def Dev.appendPacket (p : Packet) (d : Dev) : Dev :=
  let h := nth d.store.overlay d.store.ohalf ⟨0, false, []⟩
  if sumN (h.packets.map (·.length)) + p.length ≤ 0x200000 then
    { d with store := { d.store with overlay := setNth d.store.overlay d.store.ohalf { h with packets := h.packets ++ [p] } } }
  else
    let o := 1 - d.store.ohalf
    let kept := (inForce p.imageId h.packets).filter fun q => !(q.section_ == p.section_ && q.groups &&& (15 ^^^ p.whole) == 0)
    let new : OHalf := ⟨h.gen + 1, true, kept ++ [p]⟩
    { d with store := { d.store with overlay := setNth d.store.overlay o new, ohalf := o } }

/-- Tick of the first opening of a group at or after a tick. -/
def Dev.openingAfter (d : Dev) (g t : Nat) : Nat :=
  let h := d.grp g
  let l := halfUs h.cfg.cycle
  let n := h.nextOpen
  if t ≤ n ∨ l = 0 then n else n + (t - n + l - 1) / l * l

/-- LIVE_OVERLAY_COMMIT (R34, R58): the commit word is written; every addressed group takes the table at its first opening at
least one cycle length from now. `errs` is what the read-back found. -/
def liveOverlayCommit (errs : List StoreErr) (d : Dev) : Dev :=
  match d.mo.live with
  | none => d
  | some l =>
    if d.get F.MO_LIVE_STATE ≠ 2 then d
    else
      let d : Dev := d.readBack errs
      if readBackBad errs then d.refuseLive 0x0E
      else
      let p := { l.packet with committed := true }
      let d : Dev := d.appendPacket p
      let gs := maskGroups p.groups
      let due (g : Nat) : Nat := d.now + halfUs (d.grp g).cfg.cycle
      let waiting := gs.map fun g => (g, d.openingAfter g (due g))
      let d : Dev := gs.foldl (fun e g => e.modGrp g fun h => { h with newTables := some (due g, p) }) d
      let first := waiting.foldl (fun m w => min m w.2) (waiting.headD (0, 0)).2
      let d : Dev := { d with mo := { d.mo with live := some { l with packet := p, waiting := waiting } } }
      let d : Dev := (d.set F.MO_LIVE_AT_LO_AT_LO (d.ctAt first % 0x100000000)).set F.MO_LIVE_AT_HI_AT_HI (d.ctAt first / 0x100000000)
      d.set F.MO_LIVE_STATE 3

/-- A slot has an uncorrectable word (R40). -/
def Dev.damageSlot (n : Nat) (d : Dev) : Dev :=
  let d : Dev := if (d.slot n).state = 4 then (d.modSlot n fun s => { s with uncorr := true }).flag F.MO_STATUS_ACTIVE_DAMAGED true
    else d.modSlot n fun s => { s with state := 6, uncorr := true }
  d.raise 0x003 n

/-- Ticks of the scrub period (R40). -/
def Dev.scrubTicks (d : Dev) : Nat := 1800000000000 * takenAs F.MO_SCRUB_PERIOD (d.get F.MO_SCRUB_PERIOD)

/-- SCRUB_PASS (R39, R40, R43): the scrub period has run out and the whole store has been read; `errs` is what the pass found. -/
def scrubPass (errs : List StoreErr) (d : Dev) : Dev :=
  if !d.ready F.GL_READY_STORE || decide (d.now < d.mo.scrubAt + d.scrubTicks) then d
  else
    let d : Dev := (d.addTo F.MO_SCRUB_CORR (errs.filter fun e => !e.uncorr).length).addTo F.MO_SCRUB_UNCORR (errs.filter (·.uncorr)).length
    let d : Dev := { d with mo := { d.mo with scrubAt := d.now } }
    let d : Dev := d.readStore errs
    let bad (n : Nat) : Bool := errs.any fun e => e.uncorr && (e.place == .slot n || e.place == .slotId n)
    let d : Dev := if bad 0 then d.damageSlot 0 else d
    if bad 1 then d.damageSlot 1 else d

end Sys2Proof.Machine
end

