-- ==== Sys2Proof/Machine/ExecMortar.lean ====
section
/-! DEFINITION. Meanings of the commands: the mortar manager. -/

namespace Sys2Proof.Machine

/-- LOAD (R29). -/
def execLoad (dt : Nat) (x : Fin 8) (slot : Byte) (s : State) : Host.Outcome State Fault Refusal :=
  .next (s.cmd dt (load x.val slot.toNat))

/-- LOAD_COMPLETE (R483). -/
def execLoadComplete (dt : Nat) (errs : List StoreErr) (s : State) : Host.Outcome State Fault Refusal :=
  .next (s.cmd dt (loadComplete errs))

/-- VERIFY (R28). -/
def execVerify (dt : Nat) (x : Fin 8) (slot : Byte) (s : State) : Host.Outcome State Fault Refusal :=
  .next (s.cmd dt (verify x.val slot.toNat))

/-- VERIFY_COMPLETE (R26). -/
def execVerifyComplete (dt : Nat) (errs : List StoreErr) (s : State) : Host.Outcome State Fault Refusal :=
  .next (s.cmd dt (verifyComplete errs))

/-- ACTIVATE (R30). -/
def execActivate (dt : Nat) (x : Fin 8) (slot : Byte) (s : State) : Host.Outcome State Fault Refusal :=
  .next (s.cmd dt (activate x.val slot.toNat))

/-- ACTIVATE_COMPLETE (R30). -/
def execActivateComplete (dt : Nat) (errs : List StoreErr) (ok : Bool) (s : State) : Host.Outcome State Fault Refusal :=
  .next (s.cmd dt (activateComplete errs ok))

/-- ERASE (R28). -/
def execErase (dt : Nat) (x : Fin 8) (slot : Byte) (s : State) : Host.Outcome State Fault Refusal :=
  .next (s.cmd dt (erase x.val slot.toNat))

/-- ERASE_COMPLETE (R483). -/
def execEraseComplete (dt : Nat) (errs : List StoreErr) (s : State) : Host.Outcome State Fault Refusal :=
  .next (s.cmd dt (eraseComplete errs))

/-- RAISE_FLOOR (R58). -/
def execRaiseFloor (dt : Nat) (x : Fin 8) (s : State) : Host.Outcome State Fault Refusal :=
  .next (s.cmd dt (raiseFloor x.val))

/-- RAISE_FLOOR_COMPLETE (R483). -/
def execRaiseFloorComplete (dt : Nat) (errs : List StoreErr) (s : State) : Host.Outcome State Fault Refusal :=
  .next (s.cmd dt (raiseFloorComplete errs))

/-- KEYREC (R27). -/
def execKeyrec (dt : Nat) (x : Fin 8) (s : State) : Host.Outcome State Fault Refusal :=
  .next (s.cmd dt (keyrec x.val))

/-- KEYREC_COMPLETE (R58). -/
def execKeyrecComplete (dt : Nat) (errs : List StoreErr) (s : State) : Host.Outcome State Fault Refusal :=
  .next (s.cmd dt (keyrecComplete errs))

/-- LIVE (R33). -/
def execLive (dt : Nat) (x : Fin 8) (mask : BitVec 4) (s : State) : Host.Outcome State Fault Refusal :=
  .next (s.cmd dt (live x.val mask.toNat))

/-- LIVE_VERIFY_COMPLETE (R34). -/
def execLiveVerifyComplete (dt : Nat) (s : State) : Host.Outcome State Fault Refusal :=
  .next (s.cmd dt liveVerifyComplete)

/-- LIVE_OVERLAY_COMMIT (R34). -/
def execLiveOverlayCommit (dt : Nat) (errs : List StoreErr) (s : State) : Host.Outcome State Fault Refusal :=
  .next (s.cmd dt (liveOverlayCommit errs))

/-- SCRUB_PASS (R40). -/
def execScrubPass (dt : Nat) (errs : List StoreErr) (s : State) : Host.Outcome State Fault Refusal :=
  .next (s.cmd dt (scrubPass errs))

end Sys2Proof.Machine
end

