-- ==== Sys2Proof/Machine/Supply.lean ====
section
/-! DEFINITION. The adaptive core supply (R79, R80), the supply monitor (R469) and the temperature sensors (R478). -/

namespace Sys2Proof.Machine

/-- PMBus commands VOUT_MODE and VOUT_COMMAND (log entry 17). -/
def voutMode : Nat := 0x20
def voutCommand : Nat := 0x21

/-- PMBus address of a rail. -/
def Dev.pmAddr (d : Dev) (ch : Nat) : Nat :=
  if ch = 0 then d.get F.GL_PMBUS_ADDR_A else if ch = 1 then d.get F.GL_PMBUS_ADDR_B else d.get F.GL_PMBUS_ADDR_C

/-- ULINEAR16 word of a voltage in mV under a VOUT_MODE (R471): its bits 4:0 are the exponent of the LSB in V, two's complement (PRESUMED,
log entry 17). -/
def ulinear16 (mode mv : Nat) : Nat :=
  let n := mode % 32
  if n < 16 then (mv + 500 * 2 ^ n) / (1000 * 2 ^ n) else (mv * 2 ^ (32 - n) + 500) / 1000

/-- Command a rail (R79, R471): a VOUT_COMMAND write of mv within VMIN and VMAX. -/
def Dev.commandRail (ch mv : Nat) (d : Dev) : Dev :=
  let v := min (max mv (d.get F.GL_VLIMITS_VMIN)) (d.get F.GL_VLIMITS_VMAX)
  let d : Dev := { d with pm := { d.pm with lastAt := setNth d.pm.lastAt ch (some d.now), first := setNth d.pm.first ch false } }
  (d.set F.GL_VCORE_CMD v ch).emit (.pmbus (d.pmAddr ch) voutCommand (ulinear16 ((nth d.pm.mode ch none).getD 0) v))

/-- Whether a rail may be commanded now: 1 ms after its last command (R79). -/
def Dev.railFree (d : Dev) (ch : Nat) : Bool :=
  match nth d.pm.lastAt ch none with
  | some t => decide (t + 500000 ≤ d.now)
  | none => true

/-- Whether a rail adapts: enabled, not held, not failed (R79, R80). -/
def Dev.railAdapts (d : Dev) (ch : Nat) : Bool := d.on F.GL_VADAPT_EN && !d.railHeld ch && !d.on F.GL_VCORE_FAIL ch

/-- EN changes from 0 to 1 (R79, R471): VOUT_MODE of each rail is read; the first command to each is VMAX. -/
def Dev.startAdapt (d : Dev) : Dev :=
  let d : Dev := { d with pm := { d.pm with windows := [0, 0, 0], first := [true, true, true], mode := [none, none, none] } }
  d.each [0, 1, 2] fun ch d => d.emit (.pmbus (d.pmAddr ch) voutMode 0)

/-- The first command to a rail (R79), once it is known to take ULINEAR16 (R471). -/
def Dev.firstCommand (ch : Nat) (d : Dev) : Dev :=
  if nth d.pm.first ch false && d.railAdapts ch && d.railFree ch then d.commandRail ch (d.get F.GL_VLIMITS_VMAX) else d

/-- A write of GL_VADAPT taken (GL_VADAPT): thresholds out of order are taken as the factory values; EN from 0 to 1 starts. -/
def Dev.takeVadapt (v : Nat) (d : Dev) : Dev :=
  match findReg regTable 0x80 with
  | none => d
  | some r =>
    let was := d.on F.GL_VADAPT_EN
    let up := v / 0x10000 % 0x100
    let down := v / 0x100 % 0x100
    let v := if down ≤ up then v / 0x80000000 % 2 * 0x80000000 + 50 * 0x10000 + 150 * 0x100 else v
    let d : Dev := d.writeReg v r 0x80
    if !was && d.on F.GL_VADAPT_EN then d.startAdapt else d

/-- VADAPT_ENABLE (R79): a write of GL_VADAPT with EN 1 and the two thresholds. -/
def vadaptEnable (x up down : Nat) (d : Dev) : Dev :=
  d.hostWrite x 0x80 (Dev.takeVadapt (0x80000000 + up % 0x100 * 0x10000 + down % 0x100 * 0x100))

/-- Lowest WMIN of a channel over the tiles of a group, in ticks; none where no set has been delivered. -/
def Dev.leastSlack (d : Dev) (ch : Nat) (tiles : List Nat) : Option Int :=
  let l := (tiles.filter fun t => d.get F.PL_SLACK_WMIN t ch ≠ 0x8000).map fun t => d.getI F.PL_SLACK_WMIN t ch
  match l with
  | [] => none
  | a :: r => some (r.foldl min a)

/-- One rail at the end of a window (R79); before its VOUT_MODE is known there is no command (R471). A window at whose end the rail does
not adapt breaks the run of 64. At VMAX or VMIN the step is still sent, at the limit, and counted (log entry 116). -/
def Dev.windowOf (tiles : List Nat) (ch : Nat) (d : Dev) : Dev :=
  match d.railAdapts ch, d.leastSlack ch tiles with
  | true, some s =>
    let up := decide (s < 5 * (d.get F.GL_VADAPT_UP_BELOW : Int))
    let n := if decide (5 * (d.get F.GL_VADAPT_DOWN_ABOVE : Int) < s) then nth d.pm.windows ch 0 + 1 else 0
    let d : Dev := { d with pm := { d.pm with windows := setNth d.pm.windows ch n } }
    let mv := d.get F.GL_VCORE_CMD ch
    if !d.railFree ch || (nth d.pm.mode ch none).isNone then d
    else if nth d.pm.first ch false then d.commandRail ch (d.get F.GL_VLIMITS_VMAX)
    else if up then (d.commandRail ch (mv + 10)).count F.GL_VCORE_UPS ch
    else if 64 ≤ n then
      (({ d with pm := { d.pm with windows := setNth d.pm.windows ch 0 } } : Dev).commandRail ch (mv - 5)).count F.GL_VCORE_DOWNS ch
    else d
  | _, _ => { d with pm := { d.pm with windows := setNth d.pm.windows ch 0 } }

/-- SLACK_WINDOW_END (R78, R79): a window of 1,024 cycles of the group is over; each rail takes the lowest WMIN among all the
channel's tiles, and the group's tiles begin new windows. Each group's window end counts as a window end of every rail (log entry
116). -/
def slackWindowEnd (g : Nat) (d : Dev) : Dev :=
  let h := d.grp g
  let mine := h.tiles.map (·.1)
  let ovr := mine.all (fun t => (d.vote t).closed) && mine.any (fun t => (d.vote t).fresh.any (fun b => !b))
  if h.started && h.k % 1024 == 1023 && ovr then
    let all := d.busyTiles.map (·.1)
    let d : Dev := d.each [0, 1, 2] (Dev.windowOf all)
    mine.foldl (fun d t => d.modVote t fun v => { v with fresh := [true, true, true] }) d
  else d

/-- PMBUS_WRITE_RESULT (R80, R471): the transaction on a rail ended; a missing acknowledge or a reported fault is a failure, and so is a
VOUT_MODE read (`mode` its byte) that declares another format than ULINEAR16, whose bits 7:5 are 0 (PRESUMED, log entry 17). -/
def pmbusWriteResult (ch : Nat) (ok : Bool) (mode : Option Nat) (d : Dev) : Dev :=
  if !ok || mode.any (fun m => m / 32 % 8 != 0) then (d.flag F.GL_VCORE_FAIL true ch).cond (0x2D + ch) true ch
  else match mode with
    | none => d
    | some m => Dev.firstCommand ch { d with pm := { d.pm with mode := setNth d.pm.mode ch (some m) } }

/-- FAIL of a rail is cleared: adaptation resumes and the condition ends (R80). -/
def Dev.clearFail (ch : Nat) (d : Dev) : Dev := (d.flag F.GL_VCORE_FAIL false ch).cond (0x2D + ch) false

/-- Min and Max of the monitored rails in µV (R465), in the order of GL_SUPPLY: VHUB, VLANE, VLANE_H, VIO18, VIO33, VANA, VRET. -/
def railRange : List (Nat × Nat) :=
  [(700000, 850000), (870000, 930000), (1160000, 1240000), (1710000, 1890000), (3135000, 3465000), (1750000, 1850000), (1710000, 1890000)]

/-- Rails more than 2 % below, and above, their range (R469), as the bits of GL_SUPPLY; `volts` in µV. -/
def railsLow (volts : List Nat) : Nat := sumN ((railRange.zip volts).zipIdx.map fun p => bit (decide (100 * p.1.2 < 98 * p.1.1.1)) * 2 ^ p.2)
def railsHigh (volts : List Nat) : Nat := sumN ((railRange.zip volts).zipIdx.map fun p => bit (decide (102 * p.1.1.2 < 100 * p.1.2)) * 2 ^ p.2)

/-- SUPPLY_OUT_OF_RANGE (R469): the rails have stood at these voltages for `held` ticks; one that is out of range for at least 1 µs
(500 ticks) raises source 0x006. With VIO33 below 2.0 V the brake outputs are high-impedance at once (R468). -/
def supplyOutOfRange (volts : List Nat) (held : Nat) (d : Dev) : Dev :=
  let low := railsLow volts
  let high := railsHigh volts
  let d : Dev := { d with pins := { d.pins with vio33Low := decide (nth volts 4 3300000 < 2000000) } }
  if held < 500 ∨ (low = 0 ∧ high = 0) then d
  else
    let d : Dev := { d with pm := { d.pm with supplyAt := d.now } }
    ((d.set F.GL_SUPPLY_LOW low).set F.GL_SUPPLY_HIGH high).cond 0x006 true (high * 0x100 + low)

/-- SUPPLY_RECOVERED (R468, R469): every rail is back in range, and has been for 100 µs. -/
def supplyRecovered (d : Dev) : Dev :=
  let d : Dev := { d with pins := { d.pins with vio33Low := false } }
  if d.pm.supplyAt + 50000 ≤ d.now then ((d.set F.GL_SUPPLY_LOW 0).set F.GL_SUPPLY_HIGH 0).cond 0x006 false else d

/-- TEMPERATURE_READING (R478, GL_TEMP): sensor s reads v, in units of 1/16 °C. -/
def temperatureReading (s : Nat) (v : Int) (d : Dev) : Dev :=
  let old := d.get F.GL_TEMP_PEAK s
  let d : Dev := d.setI F.GL_TEMP_NOW v s
  let d : Dev := d.setI F.GL_TEMP_PEAK (if old = 0x8000 then v else max v (ofField 16 old)) s
  let reads (n : Nat) : Option Int := if d.get F.GL_TEMP_NOW n = 0x8000 then none else some (d.getI F.GL_TEMP_NOW n)
  if 1760 < v then d.cond 0x005 true s
  else if (List.range 6).all fun n => (match reads n with | some x => decide (x < 1680) | none => true) then d.cond 0x005 false else d

end Sys2Proof.Machine
end

