-- ==== Sys2Proof/Machine/Boot.lean ====
section
/-! DEFINITION. Power, reset and restore (R44 to R57): the power and reset pins, the steps of R49, kiln mode, and what the
pins of the device show. -/

namespace Sys2Proof.Machine

/-! Power and reset -/

/-- The first settings record not yet committed is committed (R41). -/
def commitFirst : List JRec → List JRec
  | [] => []
  | r :: l => if r.committed then r :: commitFirst l else r.commits :: l

/-- The retained store completes the records it has started (R44): every settings record and a record of the log. -/
def Dev.finishRecords (d : Dev) : Dev :=
  let h := nth d.store.halves d.store.half ⟨0, false, []⟩
  logRecordCommit { d with store := { d.store with halves := setNth d.store.halves d.store.half { h with recs := h.recs.map JRec.commits } } }

/-- GL_START.KILN as sampled (R54, R55): once locked out, or started with KILN_EN high, no converter runs before power is removed
(R56). -/
def kilnSampled (kilnEn lockedOut kilnStart : Bool) : Nat :=
  if lockedOut || (kilnStart && !kilnEn) then 3 else bit kilnEn

/-- A start (R45, R53): everything that is not retained begins at its initial value; device time begins at its lock. -/
def Dev.start (cause : Nat) (pins : Pins) (lockedOut kilnStart : Bool) (d : Dev) : Dev :=
  let st := (d.store.counted (cause == 1)).relogged
  let k := kilnSampled pins.kilnEn lockedOut kilnStart
  let n := d.now
  let d : Dev := Dev.fresh st { pins with errSince := n } ⟨n, 0, 0⟩ [] d.free
  let d : Dev := { d with
    mo := { d.mo with kilnSince := n, lockedOut := lockedOut, kilnStart := kilnStart || pins.kilnEn }
    host := { d.host with ownerLost := n } }
  let d : Dev := (d.set F.GL_START_CAUSE cause).set F.GL_START_KILN k
  if k ≠ 0 then d.set F.HC_CTX_STAT_STATE 1 0 else d

/-- POWER_UP (R45 to R49, R54): power is applied and RESET_N released with these straps and SEAL switches. -/
def powerUp (kilnEn refSel : Bool) (devid sealPins : Nat) (d : Dev) : Dev :=
  if d.pins.powered then d
  else
    d.start 0 { d.pins with powered := true, resetN := true, kilnEn := kilnEn, refSel := refSel, devid := devid % 64, sealPins := sealPins % 0x1000, vio33Low := false } false false

/-- POWER_LOSS (R44): supply is lost; `held` tells that VRET stays within its range for the records under way. -/
def powerLoss (held : Bool) (d : Dev) : Dev :=
  if !d.pins.powered then d
  else
    let d : Dev := if held then d.finishRecords else d
    { d with pins := { d.pins with powered := false } }

/-- RESET_N_FALL (R50, R51). -/
def resetNFall (d : Dev) : Dev := if d.pins.resetN then { d with pins := { d.pins with resetN := false, fellAt := d.now } } else d

/-- Whether the low of RESET_N now ending is one whose effect the spec leaves undefined (R50): between 1 and 10 µs. -/
def Dev.resetUndefined (d : Dev) : Bool :=
  d.pins.powered && !d.pins.resetN && decide (d.pins.fellAt + 500 ≤ d.now) && decide (d.now < d.pins.fellAt + 5000)

/-- RESET_N_RISE (R50, R53, R328): a low of 10 µs or more resets the device; one below 1 µs is ignored. -/
def resetNRise (kilnEn refSel : Bool) (devid sealPins : Nat) (d : Dev) : Dev :=
  if d.pins.resetN then d
  else
    let pins := { d.pins with resetN := true }
    if d.pins.powered ∧ d.pins.fellAt + 5000 ≤ d.now then
      d.finishRecords.start 1 { pins with kilnEn := kilnEn, refSel := refSel, devid := devid % 64, sealPins := sealPins % 0x1000 } d.mo.lockedOut d.mo.kilnStart
    else { d with pins := pins }

/-- Whether kiln keeps the device from its work (R55). -/
def Dev.kiln (d : Dev) : Bool := d.get F.GL_START_KILN != 0

/-- Kiln is locked out until power is removed (R55). -/
def Dev.lockKiln (d : Dev) : Dev := ({ d with mo := { d.mo with lockedOut := true } } : Dev).set F.GL_START_KILN 3

/-- Whether the 10 s in which the code must arrive are over (R55). -/
def Dev.kilnLate (d : Dev) : Bool := decide (d.mo.kilnSince + 5000000000 ≤ d.now)

/-- KILN_CODE_WRITE (R55, R57): the right code within 10 s enters kiln mode; a wrong one, or one that comes later, locks it out. -/
def kilnCodeWrite (x code : Nat) (d : Dev) : Dev :=
  d.hostWrite x 0xC fun d =>
    if d.get F.GL_START_KILN ≠ 1 then d
    else if code % 0x100000000 = Config.kilnCode % 0x100000000 ∧ d.kilnLate = false then d.set F.GL_START_KILN 2
    else d.lockKiln

/-- KILN_TIMEOUT (R55): 10 s without a code. -/
def kilnTimeout (d : Dev) : Dev := if d.get F.GL_START_KILN = 1 ∧ d.kilnLate = true then d.lockKiln else d

/-! Restore -/

/-- What the device records and the slots show in registers (R27, R28, R45). -/
def Dev.showStore (d : Dev) : Dev :=
  let d : Dev := (d.showRing.set F.MO_STATUS_ACTIVE d.store.active).set F.SB_DEG_ELAPSED d.store.degMinutes
  (((d.set F.GL_START_STARTS d.store.starts).set F.GL_START_PIN_RESETS d.store.pinResets).showSlot 0).showSlot 1

/-- A slot restored as WRITING: its LOAD was interrupted (R28, R32). It is REJECTED before STORE takes a command, so that none meets a
WRITING slot; what it holds is not known (log entry 173). -/
def Slot.interrupted (free : Nat) (s : Slot) : Slot :=
  if s.state = 1 then { s with state := 5, reason := 0x0E, cut := some free } else s

/-- DEVICE_RECORDS_CHECKED (R39, R45, R49): both copies are read; STORE is ready unless both copies of a record fail. The scrubber
begins its first pass (R40). -/
def deviceRecordsChecked (errs : List StoreErr) (d : Dev) : Dev :=
  if d.ready F.GL_READY_STORE then d
  else
    let d : Dev := d.readStore errs
    if d.store.lost then d
    else
      let d : Dev := { d with free := d.free + 1, store := { d.store with slots := d.store.slots.map (Slot.interrupted d.free) } }
      ({ d with mo := { d.mo with scrubAt := d.now } } : Dev).showStore.flag F.GL_READY_STORE true

/-- What becomes of the other slot at power-up (R32), from the state it has when it is examined: a command that STORE, ready before
the check, has taken may have changed the state restored, and a LOAD begun since goes on (log entry 112). -/
def Slot.examined (s : Slot) : Slot :=
  if s.state = 1 then s
  else if s.state ≤ 3 ∧ headerCheck s.bytes false ≠ 0 then { s with state := 0, reason := 0 }
  else s

/-- ACTIVE_SLOT_CHECK (R32): the slot the pointer names is verified, the other one examined; `errs` is what the reads found. A
slot whose LOAD was cut off stays REJECTED (R28); one that a LOAD begun since is writing stays WRITING and holds no image (log entry
112). -/
def activeSlotCheck (errs : List StoreErr) (d : Dev) : Dev :=
  if !d.ready F.GL_READY_STORE || d.kiln || d.mo.checkDone then d
  else
    let d : Dev := d.readStore errs
    let n := d.store.active
    let code := if (d.slot n).state = 1 ∨ (d.slot n).cut.isSome then 0x0E else d.verifySlot n
    let d : Dev := d.modSlot n fun s => if s.state = 1 then s else { s with state := if code = 0 then 4 else 5, reason := code }
    let d : Dev := d.modSlot (1 - n) Slot.examined
    { d with mo := { d.mo with checkDone := true, checkOk := code == 0, imageId := imgId (d.slot n).bytes } }

/-- The half whose header is committed and whose generation is higher (R37, R42). -/
def bestHalf (l : List (Nat × Bool)) : Nat :=
  let a := nth l 0 (0, false)
  let b := nth l 1 (0, false)
  if b.2 && (!a.2 || decide (a.1 < b.1)) then 1 else 0

/-- The packets of an overlay half that are applied at power-up (R36): committed, of the active image; one with an uncorrectable
word is left out (log entry 113). -/
def applicable (id' : Nat) (l : List Packet) : List Packet := l.filter fun p => p.committed && p.imageId == id' && !p.bad

/-- STRUCTURE_BUILD (R36, R37, R49, R61): the structure with its overlay, in whose reads `errs` were found; the lanes of its
enabled courses wake. -/
def structureBuild (errs : List StoreErr) (d : Dev) : Dev :=
  if !d.mo.checkOk || d.ready F.GL_READY_MORTAR || d.kiln then d
  else
    let d : Dev := d.readStore errs
    let half := bestHalf (d.store.overlay.map fun h => (h.gen, h.committed))
    let d : Dev := { d with store := { d.store with ohalf := half } }
    let l := applicable d.mo.imageId (nth d.store.overlay half ⟨0, false, []⟩).packets
    let d : Dev := d.build d.mo.imageId (d.slot d.store.active).body l
    (d.each ((List.range 64).filter d.enabled) fun c d => d.wakeCourse c true).refreshLanes

/-- One record of the journal is applied (R43): the journalled fields its mask names; the mode a group last had is kept aside
(R46). -/
def Dev.applyRecord (d : Dev) (r : JRec) : Dev :=
  match findReg regTable r.off with
  | none => d
  | some a =>
    a.reg.fields.foldl (fun d fd =>
      if !(journalled fd) || (r.mask / 2 ^ fd.pos) % 2 = 0 then d
      else
        let v := r.val / 2 ^ fd.pos % 2 ^ fd.fld.width
        if fd.fld = F.GP_MODE_MODE then d.modGrp a.i fun h => { h with lastMode := v } else d.set fd.fld v a.i (fd.copy.getD a.j)) d

/-- The roles after a restore (R426): the context HC_OWNER names is Owner, any other whose record says so Operator. -/
def Dev.fixRoles (d : Dev) : Dev :=
  let owner := d.get F.HC_OWNER_OWNER
  d.each (List.range 8) fun x d =>
    if x = owner then d.set F.HC_CTX_CFG_ROLE 0 x else if d.role x = 0 then d.set F.HC_CTX_CFG_ROLE 1 x else d

/-- The records a replay reads (R43): up to the first that lacks a valid CRC or commit word; one with an uncorrectable word is
passed over. -/
def replayed (l : List JRec) : List JRec := l.takeWhile fun r => r.committed || r.bad

/-- JOURNAL_REPLAY (R42, R43), in whose reads `errs` were found. With the IMAGE_ID of the active slot's header unreadable, every
record is skipped. The journal goes on after its last valid record. -/
def journalReplay (errs : List StoreErr) (d : Dev) : Dev :=
  if !d.ready F.GL_READY_STORE || d.ready F.GL_READY_JOURNAL then d
  else
    let d : Dev := d.readStore errs
    let half := bestHalf (d.store.halves.map fun h => (h.gen, h.committed))
    let h := nth d.store.halves half ⟨0, false, []⟩
    let l := replayed h.recs
    let id' := imgId (d.slot d.store.active).bytes % 0x100000000
    let mine := l.filter fun r => !(d.slot d.store.active).idBad && r.img == id' && !r.bad
    let d : Dev := { d with store := { d.store with half := half, halves := setNth d.store.halves half { h with recs := l } } }
    let d : Dev := mine.foldl Dev.applyRecord d
    let d : Dev := d.flag F.GL_READY_RESTORE_DEGRADED (l.any (·.bad))
    let d : Dev := d.fixRoles.showJournal
    let d : Dev := if d.on F.GL_VADAPT_EN then d.startAdapt else d
    d.flag F.GL_READY_JOURNAL true

/-- The reactions that waited for the table (R377): each source still latched takes its reaction now, highest code first; so does one whose
fixed group reaction acted on the groups of the factory table, which are none. Its queued record carries the reaction taken (R390). -/
def Dev.lateReactions (d : Dev) : Dev :=
  let waiting := d.fc.taken.filter fun p => p.2 % 16 == 15 || p.2 == 4
  let d : Dev := { d with fc := { d.fc with queue := d.fc.queue.map fun r =>
    if r.typ == 1 && (waiting.map (·.1)).contains r.source then { r with reaction := d.reaction r.source } else r } }
  let due := sortBy (fun (a b : Nat × Nat) => decide (b.2 < a.2)) (waiting.map fun p => (p.1, d.reaction p.1))
  let d : Dev := due.foldl (fun d p =>
    let gs := d.reactGroups p.1
    ({ d with fc := { d.fc with taken := tabSet d.fc.taken p.1 (p.2 + 16 * gs) } } : Dev).react p.2 gs p.1) d
  if due.any (fun p => decide (1 ≤ p.2)) then d.interrupt else d

/-- FAULTS_READY (R377, R389, R391): the log and the first-fault record are restored, every window shows the record its index names,
the table is loaded, the log goes on with a POWER_UP record. -/
def faultsReady (errs : List StoreErr) (d : Dev) : Dev :=
  if !d.ready F.GL_READY_STORE || d.ready F.GL_READY_FAULTS then d
  else
    let d : Dev := d.readStore errs
    let d : Dev := { d with store := d.store.relogged }
    let f := d.store.first
    let d : Dev := ((d.flag F.FC_FIRST_VALID f.valid).set F.FC_FIRST_SAME_TICK f.sameTick).set F.FC_FIRST_SOURCE f.source
    let d : Dev := (d.set F.FC_FIRST_SEQ_SEQ f.seq).set F.FC_LOG_STAT_HEAD d.store.head
    let d : Dev := match d.ready F.GL_READY_MORTAR, d.mo.image with
      | true, some b => d.loadReact b.faults
      | _, _ => d
    let d : Dev := { d with fc := { d.fc with win := List.replicate 8 (tabD d.store.log 0 .blank) } }
    let d : Dev := d.queueRec (d.mkRec 4 0xFFFF 0 0 0 [])
    (d.flag F.GL_READY_FAULTS true).lateReactions

/-- SAFETY_READY (R400): the safety parameter block of the active image is checked against its seal, once after a start. -/
def safetyReady (d : Dev) : Dev :=
  if !d.ready F.GL_READY_MORTAR || d.kiln || d.sb.checked then d
  else
    let d : Dev := { d with sb := { d.sb with checked := true } }
    d.sealAndReady (decodeSafety (imgSection (d.slot d.store.active).bytes 9))

/-- Whether a group may enter its restored mode (R46). -/
def Dev.mayRestore (d : Dev) (g : Nat) : Bool :=
  let h := d.grp g
  h.built && !d.activating && !testBit (d.get F.GL_READY_GROUP) g && d.ready F.GL_READY_JOURNAL && d.ready F.GL_READY_TRIPLEX && d.ready F.GL_READY_SAFETY &&
  h.tiles.all fun t => t.2.courses.all fun c => decide (2 ≤ d.get F.CM_CRS_STAT_STATE c)

/-- GROUP_RESTORE (R46): ISOLATED after ISOLATED or CHARGE, else BLOCKED. -/
def groupRestore (g : Nat) (d : Dev) : Dev :=
  if !d.mayRestore g then d
  else
    let m : Mode := if (d.grp g).lastMode ≤ 1 then .isolated else .blocked
    let d : Dev := if modeCode m = d.gpMode g then d else (d.setKept F.GP_MODE_MODE (modeCode m) g).eventAll (1 + g)
    let d : Dev := d.set F.GP_MODE_CAUSE 9 g
    let d : Dev := d.each [0, 1, 2] fun ch d => d.modCg ch g fun x =>
      { x with ctl := { x.ctl with m := { x.ctl.m with mode := m, mode0 := m, cause := 9 } } }
    d.setBit F.GL_READY_GROUP g true

/-! What the pins show (R48, R51) -/

/-- ERR_N is low. -/
def Dev.errN (d : Dev) : Bool := !d.live || d.fc.errLow

/-- BRK_HOLD_1 (x = 1) and BRK_HOLD_2 are high (R48, R401); below 2.0 V on VIO33 the pull-downs hold them low (R468). -/
def Dev.brkHold (d : Dev) (x : Nat) : Bool := d.live && !d.pins.vio33Low && d.on (if x = 1 then F.SB_STATUS_HOLD_1 else F.SB_STATUS_HOLD_2)

/-- TIO[n] and PPS_OUT are high. -/
def Dev.tioHigh (d : Dev) (n : Nat) : Bool := d.live && (nth d.tb.tios n .init).level
def Dev.ppsOut (d : Dev) : Bool := d.live && d.tb.ppsHigh

/-- SP_TXDIS[p] is high (R474): while RESET_N is low and while the station intake that has the port is not ready. -/
def Dev.txDis (d : Dev) (_p : Nat) : Bool := !d.live || !d.ready F.GL_READY_INTAKE

/-- The transmitter of a lane is in electrical idle. -/
def Dev.laneIdleOut (d : Dev) (c e : Nat) : Bool := !d.live || d.on F.CM_LANE_STAT_TX_IDLE c e

end Sys2Proof.Machine
end

