-- ==== Sys2Proof/Machine/ExecPower.lean ====
section
/-! DEFINITION. Meanings of the commands: power, reset, restore and kiln. -/

namespace Sys2Proof.Machine

/-- POWER_UP (R45). -/
def execPowerUp (dt : Nat) (kilnEn refSel : Bool) (devid : BitVec 6) (sealPins : BitVec 12) (s : State) : Host.Outcome State Fault Refusal :=
  .next (s.pin dt (powerUp kilnEn refSel devid.toNat sealPins.toNat))

/-- POWER_LOSS (R44). -/
def execPowerLoss (dt : Nat) (held : Bool) (s : State) : Host.Outcome State Fault Refusal :=
  .next (s.pin dt (powerLoss held))

/-- RESET_N_FALL (R51). -/
def execResetNFall (dt : Nat) (s : State) : Host.Outcome State Fault Refusal :=
  .next (s.pin dt resetNFall)

/-- RESET_N_RISE (R53). -/
def execResetNRise (dt : Nat) (kilnEn : Bool) (straps : Straps) (sealPins : BitVec 12) (s : State) : Host.Outcome State Fault Refusal :=
  if (Dev.elapse dt s.dev).resetUndefined then .fault .resetPulseUndefined
  else .next (s.pin dt (resetNRise kilnEn straps.refSel straps.devid.toNat sealPins.toNat))

/-- PERST_LOW (R50). -/
def execPerstLow (dt : Nat) (p : Fin 2) (s : State) : Host.Outcome State Fault Refusal :=
  .next (s.cmd dt (perstLow p.val))

/-- DEVICE_RECORDS_CHECKED (R39). -/
def execDeviceRecordsChecked (dt : Nat) (errs : List StoreErr) (s : State) : Host.Outcome State Fault Refusal :=
  .next (s.cmd dt (deviceRecordsChecked errs))

/-- ACTIVE_SLOT_CHECK (R32). -/
def execActiveSlotCheck (dt : Nat) (errs : List StoreErr) (s : State) : Host.Outcome State Fault Refusal :=
  .next (s.cmd dt (activeSlotCheck errs))

/-- STRUCTURE_BUILD (R61). -/
def execStructureBuild (dt : Nat) (errs : List StoreErr) (s : State) : Host.Outcome State Fault Refusal :=
  .next (s.cmd dt (structureBuild errs))

/-- JOURNAL_REPLAY (R43). -/
def execJournalReplay (dt : Nat) (errs : List StoreErr) (s : State) : Host.Outcome State Fault Refusal :=
  .next (s.cmd dt (journalReplay errs))

/-- FAULTS_READY (R377). -/
def execFaultsReady (dt : Nat) (errs : List StoreErr) (s : State) : Host.Outcome State Fault Refusal :=
  .next (s.cmd dt (faultsReady errs))

/-- SAFETY_READY (R400). -/
def execSafetyReady (dt : Nat) (s : State) : Host.Outcome State Fault Refusal :=
  .next (s.cmd dt safetyReady)

/-- GROUP_RESTORE (R46). -/
def execGroupRestore (dt : Nat) (g : Fin 4) (s : State) : Host.Outcome State Fault Refusal :=
  .next (s.cmd dt (groupRestore g.val))

/-- KILN_CODE_WRITE (R57). -/
def execKilnCodeWrite (dt : Nat) (x : Fin 8) (code : Word) (s : State) : Host.Outcome State Fault Refusal :=
  .next (s.cmd dt (kilnCodeWrite x.val code.toNat))

/-- KILN_TIMEOUT (R55). -/
def execKilnTimeout (dt : Nat) (s : State) : Host.Outcome State Fault Refusal :=
  .next (s.cmd dt kilnTimeout)

end Sys2Proof.Machine
end

