-- ==== Sys2Proof/Machine/Registers.lean ====
section
/-! DEFINITION. Host accesses to BAR0 (R5, R6, R422 to R434): writes and reads of registers, of the working store and of the
live table readback, the half accesses of 64-bit values, and the commit of settings records (R41, R42). A write to a
register whose effect another command states is that command. -/

namespace Sys2Proof.Machine

/-! 64-bit values (R433, R434) -/

/-- Bases of the low words of register pairs, and of the entries read as two halves. -/
def pairBases : List Nat :=
  [0x20024, 0x100020, 0x108000, 0x30020, 0x50024, 0x10114, 0x1011C, 0x10128, 0x82100, 0x82108]

/-- Whether an offset is the low word of a pair: of a named register, or words 0, 2 and 6 of an active descriptor. -/
def pairLow (off : Nat) : Bool :=
  match findReg regTable off with
  | none => false
  | some r => pairBases.contains r.reg.base || (r.reg.base == 0x90160 && (r.j == 0 || r.j == 2 || r.j == 6))
def pairHigh (off : Nat) : Bool := decide (4 ≤ off) && pairLow (off - 4)

/-- Why a write is refused beyond the title of its register (R385, R425, R443): the own entry of HC_CTX; channels only by
their owner, a shadow set not while ARMED; W1C bits not by an Observer. Cause 0, ROLE. -/
def Dev.writeRefusal (d : Dev) (x off : Nat) : Option Nat :=
  match d.refusal x true off, findReg regTable off with
  | some c, _ => some c
  | none, none => none
  | none, some r =>
    let b := r.reg.base
    let own := [0x10110, 0x10114, 0x10118, 0x1011C, 0x10120, 0x10124, 0x10128, 0x1012C, 0x10130, 0x10134].contains b && r.i != x
    let chan := decide (0x90104 ≤ b) && decide (b ≤ 0x90160) && (d.dmaState r.i == 0 || d.dmaOwner r.i != x)
    let armed := b == 0x90140 && d.on F.DM_CH_STAT_ARMED r.i
    if own || chan || armed then some 0 else none

/-- A write with those checks. -/
def Dev.checkedWrite (x off : Nat) (f : Dev → Dev) (d : Dev) : Dev :=
  match d.writeRefusal x off with
  | some c => d.refuse x false true c off
  | none => f d

/-- The RW fields of a register take a written word (R5). -/
def Dev.putWord (off v : Nat) (d : Dev) : Dev :=
  match findReg regTable off with
  | some r => d.writeReg v r off
  | none => d

/-- Both words of a writable pair are applied in one tick. -/
def Dev.pairApply (x lo low high : Nat) (d : Dev) : Dev :=
  d.checkedWrite x lo fun d =>
    match findReg regTable lo with
    | some r =>
      if r.reg.base = 0x10114 then mmuConfigWrite x r.i true (low + 0x100000000 * high) d
      else (d.putWord lo low).putWord (lo + 4) high
    | none => d

/-- PAIR_LOW_WRITE (R434): held for the context. -/
def pairLowWrite (x off v : Nat) (d : Dev) : Dev :=
  d.checkedWrite x off fun d => d.modCtx x fun c => { c with low := some (off, v % 0x100000000) }

/-- PAIR_HIGH_WRITE (R434): both words, the low one as held or as it stands. -/
def pairHighWrite (x off v : Nat) (d : Dev) : Dev :=
  d.checkedWrite x off fun d =>
    match (d.ctx x).low with
    | some (o, low) =>
      if o + 4 = off then (d.modCtx x fun c => { c with low := none }).pairApply x o low (v % 0x100000000)
      else d.pairApply x (off - 4) (d.word x (off - 4)) (v % 0x100000000)
    | none => d.pairApply x (off - 4) (d.word x (off - 4)) (v % 0x100000000)

/-- A register word as a read returns it: RC fields are cleared in the same access; PEAK of GL_TEMP begins again at the
present reading (R478). -/
def Dev.readReg (x off : Nat) (d : Dev) : Dev × Nat :=
  let v := d.word x off
  match findReg regTable off with
  | none => (d, v)
  | some r =>
    if r.reg.base = 0x40 then (d.set F.GL_TEMP_PEAK (d.get F.GL_TEMP_NOW r.i) r.i, v) else (d.clearRc r, v)

/-- PAIR_LOW_READ (R433): the latch takes the high word of the same tick. -/
def pairLowRead (x off : Nat) (d : Dev) : Dev :=
  d.hostRead x off fun d =>
    let high := d.word x (off + 4)
    (d.modCtx x fun c => { c with latch := some (off, high) }).readReg x off

/-- PAIR_HIGH_READ (R433): the latched word, or the live one with HALF_LIVE counted. -/
def pairHighRead (x off : Nat) (d : Dev) : Dev :=
  d.hostRead x off fun d =>
    match (d.ctx x).latch with
    | some (o, high) => if o + 4 = off then (d, high) else (d.count F.HC_CTX_STAT_HALF_LIVE x).readReg x off
    | none => (d.count F.HC_CTX_STAT_HALF_LIVE x).readReg x off

/-! W1C fields -/

/-- Whether ones of a word fall on W1C bits of a register. -/
def hitsW1c (mask : Nat) (r : RegAt) : Bool :=
  r.reg.fields.any fun fd => decide (fd.acc = .w1c) && mask / 2 ^ fd.pos % 2 ^ fd.fld.width != 0

/-- Clear the W1C bits of a register under ones; the bits an event sets in the same clock (`again`) stay (R6). -/
def Dev.clearW1c (mask again : Nat) (r : RegAt) (d : Dev) : Dev :=
  r.reg.fields.foldl (fun d fd =>
    if fd.acc = .w1c then
      let j := fd.copy.getD r.j
      let go := (mask / 2 ^ fd.pos % 2 ^ fd.fld.width) &&& ((again / 2 ^ fd.pos % 2 ^ fd.fld.width) ^^^ (2 ^ fd.fld.width - 1))
      let old := d.get fd.fld r.i j
      d.set fd.fld (old &&& (go ^^^ (2 ^ fd.fld.width - 1))) r.i j
    else d) d

/-- W1C_CLEAR (R5, R6, R427): ones written to the W1C fields at an offset. Only Owner and Operator clear the fields of the
blocks, but for GP_SP_STATUS, whose title keeps no role from it; those of HC_ are cleared in the own entry, those of DM_ by the
owning context. -/
def w1cClear (x off mask again : Nat) (d : Dev) : Dev :=
  match findReg regTable off with
  | none => d
  | some r =>
    let b := r.reg.base
    if b = 0x40100 then faultClear x r.i (mask &&& (again ^^^ 0xFFFFFFFF)) d
    else if b = 0x40040 then (if testBit mask 30 then irqPendingClear x r.i true 1 (again / 2 ^ 30) d else d.checkedWrite x off id)
    else if b = 0x10134 then irqPendingClear x r.i false mask again d
    else
      d.checkedWrite x off fun d =>
        if hitsW1c mask r && d.role x == 2 && b != 0x10124 && b != 0x9010C && b != 0xA8204 then d.refuse x false true 0 off
        else if b = 0x90 then (if testBit mask 31 && !testBit again 31 then d.clearFail r.i else d)
        else if b = 0x9010C then
          let kept := mask &&& again &&& (d.word x (0x90110 + 0x80 * r.i))
          ((d.clearW1c mask again r).dmaIrqEnd r.i (kept / 0x8000000 != 0)).dmaShow (x / 4)
        else d.clearW1c mask again r

/-! Writes -/

/-- A write to HC_OWNER (R426): CLAIM_WAIT, then the command; code 0 orders nothing. -/
def Dev.writeOwner (x v : Nat) (d : Dev) : Dev :=
  d.hostWrite x 0x10008 fun d =>
    let d : Dev := d.putWord 0x10008 v
    if v % 4 = 0 then d else if v % 4 = 1 then give x (v / 0x20000 % 8) d else d.set F.HC_OWNER_RESULT 3

/-- A write to HC_CTX_CMD (R428, R429). -/
def Dev.writeCtxCmd (x v : Nat) (d : Dev) : Dev :=
  let code := v % 0x100
  if code = 1 then open' x (d.ctx x).mse (d.ctx x).d0 (d.ctx x).cfg.timeout (d.ctx x).cfg.maxRead (d.ctx x).cfg.maxPayload d
  else if code = 2 then close x d
  else d.hostWrite x 0x10004 fun d => d.set F.HC_CTX_CMD_RESULT (if d.get F.HC_CTX_STAT_STATE x = 2 then 1 else 2)

/-- A write to HC_MMU_CTL (R435, R437): MODE, then the invalidation. -/
def Dev.writeMmu (x y v : Nat) (d : Dev) : Dev :=
  d.ownWrite x y (0x10110 + 0x40 * y) fun d =>
    let d : Dev := d.setMmuMode y (v / 0x40000000)
    if v % 4 = 1 then d.startInv y none else if v % 4 = 2 then d.startInv y (some (d.invPageNo y)) else d

/-- A write to MO_CMD (R58): CODE with the slot, or the group mask, of ARG. -/
def Dev.writeMoCmd (x v : Nat) (d : Dev) : Dev :=
  let slot := v / 0x100 % 0x100
  match v % 0x100 with
  | 1 => load x slot d
  | 2 => Machine.verify x slot d
  | 3 => activate x slot d
  | 4 => erase x slot d
  | 5 => Machine.live x (v / 0x100 % 16) d
  | 6 => raiseFloor x d
  | 7 => keyrec x d
  | _ => d.moCmd x true 0 id

/-- A write to TB_ADJ_CMD (R344). -/
def Dev.writeAdj (x v : Nat) (d : Dev) : Dev :=
  match v % 0x100 with
  | 1 => setTime x d
  | 2 => stepNs x d
  | 3 => slew x d
  | 4 => freq x d
  | _ => d.hostWrite x 0x30060 fun d => d.set F.TB_ADJ_CMD_RESULT (if d.on F.TB_ADJ_CMD_BUSY then 1 else 2)

/-- A write to TP_CMD (R374). -/
def Dev.writeTpCmd (x v : Nat) (d : Dev) : Dev :=
  let ch := v / 0x100 % 4
  match v % 0x100 with
  | 1 => resync x ch d
  | 2 => fence x ch d
  | 3 => clear x ch d
  | 4 => proof x ch d
  | _ => d.hostWrite x 0x60020 fun d => d.set F.TP_CMD_RESULT 2

/-- A write to SB_CMD (R418). -/
def Dev.writeSbCmd (x v : Nat) (d : Dev) : Dev :=
  match v % 0x100 with
  | 1 => apply x d
  | 2 => restore x d
  | 3 => test x d
  | 4 => safeBlock x d
  | 5 => Machine.release x d
  | _ => d.hostWrite x 0x50020 fun d => d.set F.SB_CMD_RESULT 2

/-- A write to FC_CMD. -/
def Dev.writeFcCmd (x v : Nat) (d : Dev) : Dev :=
  match v % 0x100 with
  | 1 => clearFirst x d
  | 2 => eraseLog x d
  | _ => d.hostWrite x 0x40010 fun d => d.set F.FC_CMD_RESULT 2

/-- A write to DM_CH_CMD (R462). -/
def Dev.writeDmaCmd (x n v : Nat) (d : Dev) : Dev :=
  match v % 0x100 with
  | 1 => claim x n d
  | 2 => releaseChannel x n d
  | 3 => arm x n d
  | 4 => pause x n d
  | 5 => resume x n d
  | 6 => abort x n d
  | 7 => disarm x n d
  | _ => d.hostWrite x (0x90100 + 0x80 * n) fun d => d.set F.DM_CH_CMD_RESULT (if d.ready F.GL_READY_DMA then 2 else 1) n

/-- A write to CM_LANE_x_CTL (R238). -/
def Dev.writeLane (x c e v : Nat) (d : Dev) : Dev :=
  let hops := v / 0x100 % 0x80
  match v % 8 with
  | 0 => loopEnd x c e d
  | 1 => loopNearSerial x c e d
  | 2 => loopNearParallel x c e d
  | 3 => loopFarEnd x c e hops d
  | 4 => holdIdle x c e d
  | cmd => d.hostWrite x (laneCtl c e) fun d =>
      let r := d.loopCheck c e cmd 0
      d.set F.CM_LANE_CTL_RESULT (if r ≠ 0 then r else 4) c e

/-- A write to CM_CRS_CMD (R301). -/
def Dev.writeCrs (x c v : Nat) (d : Dev) : Dev :=
  let pos := v / 0x100 % 0x80
  match v % 16 with
  | 1 => admitCmd x c pos d
  | 2 => remove x c pos d
  | 3 => rediscover x c d
  | 4 => measure x c d
  | op => d.hostWrite x (crsCmd c) fun d =>
      let r := d.crsCheck c op 0
      d.set F.CM_CRS_CMD_RESULT (if r = 1 ∨ r = 2 then r else 3) c

/-- A write to LM_CAL_CMD (R327). The spec gives a reserved STEP no effect. -/
def Dev.writeCal (x v : Nat) (d : Dev) : Dev :=
  let m := v / 0x40000 % 4
  let gain := v / 0x10000 % 4
  match v / 0x100000 % 8 with
  | 1 => lmCalZero x m gain d
  | 2 => lmCalFull x m gain (ofField 16 v) d
  | 3 => lmCalStore x m gain d
  | 4 => lmCalFactory x m gain d
  | _ => d.hostWrite x 0x70800 fun d => if d.on F.LM_CAL_CMD_BUSY then d.set F.LM_CAL_CMD_RESULT 1 else d

/-- A write to a register that has a command of its own; none where it has not. -/
def Dev.writeRow (x v : Nat) (r : RegAt) (d : Dev) : Option Dev :=
  match r.reg.base with
  | 0xC => some (kilnCodeWrite x v d)
  | 0x80 => some (d.hostWrite x 0x80 (Dev.takeVadapt v))
  | 0x10004 => some (d.writeCtxCmd x v)
  | 0x10008 => some (d.writeOwner x v)
  | 0x1000C => some (if v % 2 = 1 then claimOwner x d else d.hostWrite x 0x1000C id)
  | 0x10100 => some (roleWrite x r.i (v / 0x40000000 % 4) d)
  | 0x10110 => some (d.writeMmu x r.i v)
  | 0x20010 => some (d.writeMoCmd x v)
  | 0x30060 => some (d.writeAdj x v)
  | 0x30604 => some (d.hostWrite x (0x30604 + 0x10 * r.i) fun d =>
      { d with tb := { d.tb with tios := setNth d.tb.tios r.i { nth d.tb.tios r.i .init with tlo := v } } })
  | 0x30608 => some (tioCommand x r.i (testBit v 31) (v / 0x1000000 % 0x80) (v % 0x10000) d)
  | 0x40010 => some (d.writeFcCmd x v)
  | 0x40024 => some (logIndexWrite x (v % 2 ^ F.FC_LOG_IDX_INDEX.width) [] d)
  | 0x40030 => some (inject x (v % 8) (v / 0x100 % 16) (testBit v 7) (testBit v 6) d)
  | 0x50020 => some (d.writeSbCmd x v)
  | 0x60004 => some (tpCfgWrite x v d)
  | 0x60020 => some (d.writeTpCmd x v)
  | 0x70008 => some (if v % 2 = 1 then lmRun x r.i d else d.hostWrite x (0x70008 + 0x100 * r.i) id)
  | 0x7000C => some (lmContWrite x r.i v d)
  | 0x70800 => some (d.writeCal x v)
  | 0x90100 => some (d.writeDmaCmd x r.i v)
  | 0xA0004 => some (modeCommand x r.i (v / 0x10000000) (v % 0x10000) d)
  | 0xA4054 => some (if v % 2 = 1 then harvestScan x r.i d else d.hostWrite x (0xA4054 + 0x100 * r.i) id)
  | 0xA8200 => some (setpointCommit x r.i (v % 2 ^ F.GP_SP_COMMIT_TAG.width) d)
  | 0x200800 => some (d.writeLane x r.i r.j v)
  | 0x200A08 => some (d.writeCrs x r.i v)
  | _ => none

/-- A write of one dword to a register or a reserved offset. -/
def Dev.writeWord (x off v : Nat) (d : Dev) : Dev :=
  match findReg regTable off with
  | none => if d.isOpen x then d else d.refuse x false true 1 off
  | some r =>
    match d.writeRow x v r with
    | some d => d
    | none =>
      let w1c := r.reg.fields.any fun fd => decide (fd.acc = .w1c)
      let rw := r.reg.fields.any fun fd => decide (fd.acc = .rw)
      if w1c && !rw then w1cClear x off v 0 d
      else d.checkedWrite x off fun d =>
        let d : Dev := d.writeReg v r off
        if w1c then w1cClear x off v 0 d else d

/-- Bytes of a dword under its byte enables go to the working store. -/
def Dev.pokeWord (a v be : Nat) (d : Dev) : Dev :=
  ((List.range 4).zip (leBytes 4 v)).foldl (fun d p => if testBit be p.1 then d.pokeBytes (a + p.1) [p.2] else d) d

/-- The dwords of a write to the working store: the first and the last with their own byte enables. -/
def Dev.pokeWords (a : Nat) (vals : List Nat) (first last : Nat) (d : Dev) : Dev :=
  let n := vals.length
  ((List.range n).zip vals).foldl (fun d p =>
    if workSize ≤ a + 4 * p.1 then d
    else d.pokeWord (a + 4 * p.1) p.2 (if p.1 = 0 then first else if p.1 + 1 = n then last else 15)) d

/-- Where an offset lies (R431, R432): the working store, the live table readback, or registers. -/
def inWork (off : Nat) : Bool := decide (0x1000000 ≤ off) && decide (off < 0x2000000)
def inReadback (off : Nat) : Bool := decide (0x400000 ≤ off) && decide (off < 0xC00000)

/-- Bytes of one write to the working store (R422): Max Payload Size, at most 512; of one read, 512 (DESIGN CHOICE, log entry 178). -/
def Dev.writeLimit (d : Dev) (x : Nat) : Nat := min 512 (128 * 2 ^ (d.ctx x).cfg.maxPayload)

/-- Whether an offset is a word of a pair that the host writes (R434). -/
def rwPair (isHalf : Nat → Bool) (off : Nat) : Bool :=
  isHalf off && (findReg regTable off).any fun r => r.reg.fields.any fun fd => decide (fd.acc = .rw)

/-- A write of one dword: the half of a pair (R434), or a register or a reserved offset. -/
def Dev.writeOne (x off v : Nat) (d : Dev) : Dev :=
  if rwPair pairLow off then pairLowWrite x off v d
  else if rwPair pairHigh off then pairHighWrite x off v d
  else d.writeWord x off v

/-- Whether a request to the registers keeps R422: one or two dwords within one 64 KiB block. -/
def registerForm (off n : Nat) : Bool := (n == 1 || n == 2) && decide (off % 0x10000 + 4 * n ≤ 0x10000)

/-- REGISTER_WRITE (R5, R422, R424, R425, R434): a BAR0 write of dwords at an offset with the byte enables of its first and
last dword. A request whose two dwords are both refused is one refused access; its form is judged before the state of its context;
offsets of which R422 names no region are judged as registers (DESIGN CHOICE, log entry 147). -/
def registerWrite (x off : Nat) (vals : List Nat) (first last : Nat) (d : Dev) : Dev :=
  let off := off / 4 * 4
  let n := vals.length
  let v (i : Nat) : Nat := nth vals i 0 % 0x100000000
  if inWork off then
    if d.writeLimit x < 4 * n then d.refuse x false true 2 off
    else if !d.isOpen x then d.refuse x false true 1 off
    else if d.role x = 2 then d.refuse x false true 0 off
    else d.pokeWords (off - 0x1000000) vals first last
  else if !registerForm off n || first != 15 || (n == 2 && last != 15) then d.refuse x false true 2 off
  else if inReadback off then d.refuse x false true (if d.isOpen x then 0 else 1) off
  else if n = 2 then
    if rwPair pairLow off then d.pairApply x off (v 0) (v 1)
    else match d.writeRefusal x off, d.writeRefusal x (off + 4) with
      | some c, some _ => d.refuse x false true c off
      | _, _ => (d.writeOne x off (v 0)).writeOne x (off + 4) (v 1)
  else d.writeOne x off (v 0)

/-! Reads -/

/-- The low bytes of a word of a section's content that lie within its length; those beyond it read 0 (R432). -/
def withinLen (len at' w : Nat) : Nat := w % 256 ^ min 4 (len - at')

/-- Word at an offset of a section's slot of the live table readback (R432): the directory entry with OFFSET 16, then the
section, as it is in force for cycles that open now. The bytes that overlay packets give a section are not laid out by the spec: free values. A
section the image does not hold and no packet gave shows no entry, all zeros (DESIGN CHOICE, log entry 147). -/
def Dev.tableWord (off : Nat) (d : Dev) : Dev × Nat :=
  let s := 3 + (off - 0x400000) / 0x200000
  let a := off % 0x200000
  let free (d : Dev) (len at' : Nat) : Dev × Nat := if len ≤ at' then (d, 0) else (d.tookFree, withinLen len at' d.freeVal)
  let changed (d : Dev) : Dev × Nat :=
    if a = 0 then (d, s) else if a = 4 then (d, 16) else if a = 8 then (d, d.inForceLen s)
    else if a = 12 then free d 4 0 else free d (d.inForceLen s) (a - 16)
  let replaced := !(d.packetsOf s).isEmpty
  match d.activeSlot, d.ready F.GL_READY_MORTAR with
  | some n, true =>
    let m := (d.slot n).bytes
    match (List.range (imgSections m)).find? (fun i => (imgEntry m i).id == s) with
    | some i =>
      let e := imgEntry m i
      if replaced then changed d
      else if a = 0 then (d, s)
      else if a = 4 then (d, 16)
      else if a < 16 then (d, m.readLe (0x100 + 16 * i + a) 4)
      else (d, leNat ((List.range 4).map fun k => if a - 16 + k < e.len then m.read (e.off + (a - 16) + k) else 0))
    | none => if replaced then changed d else (d, 0)
  | _, _ => (d, 0)

/-- A read of one dword of a register; `half` tells that it is read alone, so that the latch of R433 serves. -/
def Dev.readWord (x off : Nat) (half : Bool) (d : Dev) : Dev :=
  if off = 0x30010 then timeNowRead x d
  else if 0x30200 ≤ off ∧ off < 0x30240 ∧ off % 16 = 0 then stampQueueRead x ((off - 0x30200) / 16) d
  else if 0x30500 ≤ off ∧ off < 0x30600 ∧ off % 16 = 0 then evtFifoRead x ((off - 0x30500) / 16) d
  else if half && pairLow off then pairLowRead x off d
  else if half && pairHigh off then pairHighRead x off d
  else d.hostRead x off (Dev.readReg x off)

/-- Read data of several dwords leaves, one after another. -/
def Dev.emitWords (x off : Nat) (vals : List Nat) (d : Dev) : Dev :=
  ((List.range vals.length).zip vals).foldl (fun d p => d.emit (.readData x (off + 4 * p.1) p.2)) d

/-- READ_CLEAR (R5, R422, R424, R425, R431 to R433): a BAR0 read of n dwords at an offset; RC fields are cleared. -/
def readClear (x off n : Nat) (d : Dev) : Dev :=
  let off := off / 4 * 4
  if inWork off then
    if 128 < n ∨ n = 0 then (d.refuse x false false 2 off).emitWords x off (List.replicate n 0xFFFFFFFF)
    else if !d.isOpen x then (d.refuse x false false 1 off).emitWords x off (List.replicate n 0)
    else d.emitWords x off ((List.range n).map fun i => d.work.readLe (off - 0x1000000 + 4 * i) 4)
  else if !registerForm off n then (d.refuse x false false 2 off).emitWords x off (List.replicate n 0xFFFFFFFF)
  else if inReadback off then
    if !d.isOpen x then (d.refuse x false false 1 off).emitWords x off (List.replicate n 0)
    else d.each (List.range n) fun i d =>
      let r := d.tableWord (off + 4 * i)
      r.1.emit (.readData x (off + 4 * i) r.2)
  else if n = 1 then d.readWord x off true
  else match d.refusal x false off, d.refusal x false (off + 4) with
    | some c, some _ => (d.refuse x false false c off).emitWords x off [0, 0]
    | _, _ => (d.readWord x off (!pairLow off)).readWord x (off + 4) (!pairLow off)

/-! Settings records (R41, R42) -/

/-- SETTINGS_RECORD_COMMIT (R41): the commit word of the oldest record under way is written. -/
def settingsRecordCommit (d : Dev) : Dev :=
  let h := nth d.store.halves d.store.half ⟨0, false, []⟩
  ({ d with store := { d.store with halves := setNth d.store.halves d.store.half { h with recs := commitFirst h.recs } } } : Dev).showJournal

/-- JOURNAL_SNAPSHOT (R42), once the journal has been replayed: a full half is followed by a snapshot of every Kept field in the other, whose header then has a
higher generation. -/
def journalSnapshot (d : Dev) : Dev :=
  let h := nth d.store.halves d.store.half ⟨0, false, []⟩
  if h.recs.length < 28672 ∨ !d.ready F.GL_READY_JOURNAL then d
  else d.nextHalf

end Sys2Proof.Machine
end

