-- ==== Sys2Proof/Machine/ExecRegisters.lean ====
section
/-! DEFINITION. Meanings of the commands: host accesses to BAR0 and the settings journal. -/

namespace Sys2Proof.Machine

/-- REGISTER_WRITE (R5). -/
def execRegisterWrite (dt : Nat) (x : Fin 8) (off : Nat) (vals : List Word) (first last : BitVec 4) (s : State) : Host.Outcome State Fault Refusal :=
  .next (s.cmd dt (registerWrite x.val off (vals.map BitVec.toNat) first.toNat last.toNat))

/-- READ_CLEAR (R5). -/
def execReadClear (dt : Nat) (x : Fin 8) (off n : Nat) (s : State) : Host.Outcome State Fault Refusal :=
  .next (s.cmd dt (readClear x.val off n))

/-- W1C_CLEAR (R6). -/
def execW1cClear (dt : Nat) (x : Fin 8) (off : Nat) (mask again : Word) (s : State) : Host.Outcome State Fault Refusal :=
  .next (s.cmd dt (w1cClear x.val off mask.toNat again.toNat))

/-- SETTINGS_RECORD_COMMIT (R41). -/
def execSettingsRecordCommit (dt : Nat) (s : State) : Host.Outcome State Fault Refusal :=
  .next (s.cmd dt settingsRecordCommit)

/-- JOURNAL_SNAPSHOT (R42). -/
def execJournalSnapshot (dt : Nat) (s : State) : Host.Outcome State Fault Refusal :=
  .next (s.cmd dt journalSnapshot)

/-- PAIR_LOW_READ (R433). -/
def execPairLowRead (dt : Nat) (x : Fin 8) (off : Nat) (s : State) : Host.Outcome State Fault Refusal :=
  .next (s.cmd dt (pairLowRead x.val off))

/-- PAIR_HIGH_READ (R433). -/
def execPairHighRead (dt : Nat) (x : Fin 8) (off : Nat) (s : State) : Host.Outcome State Fault Refusal :=
  .next (s.cmd dt (pairHighRead x.val off))

/-- PAIR_LOW_WRITE (R434). -/
def execPairLowWrite (dt : Nat) (x : Fin 8) (off : Nat) (v : Word) (s : State) : Host.Outcome State Fault Refusal :=
  .next (s.cmd dt (pairLowWrite x.val off v.toNat))

/-- PAIR_HIGH_WRITE (R434). -/
def execPairHighWrite (dt : Nat) (x : Fin 8) (off : Nat) (v : Word) (s : State) : Host.Outcome State Fault Refusal :=
  .next (s.cmd dt (pairHighWrite x.val off v.toNat))

end Sys2Proof.Machine
end

