-- ==== Sys2Proof/Machine/ExecSafety.lean ====
section
/-! DEFINITION. Meanings of the commands: safe brake and safe block. -/

namespace Sys2Proof.Machine

/-- SBC_REQ_INPUT (R402). -/
def execSbcReqInput (dt : Nat) (low : Bool) (s : State) : Host.Outcome State Fault Refusal :=
  .next (s.cmd dt (sbcReqInput low))

/-- TRIP_INPUT (R410). -/
def execTripInput (dt : Nat) (n : Fin 4) (active : Bool) (s : State) : Host.Outcome State Fault Refusal :=
  .next (s.cmd dt (tripInput n.val active))

/-- SAFETY_OSCILLATOR_CHECK (R397). -/
def execSafetyOscillatorCheck (dt : Nat) (dev2 devTb : Int) (s : State) : Host.Outcome State Fault Refusal :=
  .next (s.cmd dt (safetyOscillatorCheck dev2 devTb))

/-- SEAL_CHECK (R400). -/
def execSealCheck (dt : Nat) (switches : BitVec 12) (s : State) : Host.Outcome State Fault Refusal :=
  .next (s.cmd dt (sealCheck switches.toNat))

/-- OV_LOSS_TIMEOUT (R402). -/
def execOvLossTimeout (dt : Nat) (s : State) : Host.Outcome State Fault Refusal :=
  .next (s.cmd dt ovLossTimeout)

/-- AUTOMATIC_DEMAND_END (R402). -/
def execAutomaticDemandEnd (dt : Nat) (s : State) : Host.Outcome State Fault Refusal :=
  .next (s.cmd dt automaticDemandEnd)

/-- APPLY (R402). -/
def execApply (dt : Nat) (x : Fin 8) (s : State) : Host.Outcome State Fault Refusal :=
  .next (s.cmd dt (apply x.val))

/-- RESTORE (R403). -/
def execRestore (dt : Nat) (x : Fin 8) (s : State) : Host.Outcome State Fault Refusal :=
  .next (s.cmd dt (restore x.val))

/-- TEST (R406). -/
def execTest (dt : Nat) (x : Fin 8) (s : State) : Host.Outcome State Fault Refusal :=
  .next (s.cmd dt (test x.val))

/-- SAFE_BLOCK (R411). -/
def execSafeBlock (dt : Nat) (x : Fin 8) (s : State) : Host.Outcome State Fault Refusal :=
  .next (s.cmd dt (safeBlock x.val))

/-- RELEASE (R413). -/
def execRelease (dt : Nat) (x : Fin 8) (s : State) : Host.Outcome State Fault Refusal :=
  .next (s.cmd dt (release x.val))

/-- OFF_PULSE_TEST (R406). -/
def execOffPulseTest (dt : Nat) (second : Bool) (s : State) : Host.Outcome State Fault Refusal :=
  .next (s.cmd dt (offPulseTest second))

/-- OFF_PULSE_END (R406). -/
def execOffPulseEnd (dt : Nat) (low : Bool) (s : State) : Host.Outcome State Fault Refusal :=
  .next (s.cmd dt (offPulseEnd low))

/-- OFF_PULSE_VERIFY (R406). -/
def execOffPulseVerify (dt : Nat) (high : Bool) (s : State) : Host.Outcome State Fault Refusal :=
  .next (s.cmd dt (offPulseVerify high))

/-- FEEDBACK_DISCREPANCY (R406). -/
def execFeedbackDiscrepancy (dt : Nat) (second level : Bool) (s : State) : Host.Outcome State Fault Refusal :=
  .next (s.cmd dt (feedbackDiscrepancy second level))

/-- DEGRADED_MINUTE (R409). -/
def execDegradedMinute (dt : Nat) (s : State) : Host.Outcome State Fault Refusal :=
  .next (s.cmd dt degradedMinute)

/-- SAFE_BLOCK_REPEAT (R412). -/
def execSafeBlockRepeat (dt : Nat) (c : Fin 64) (s : State) : Host.Outcome State Fault Refusal :=
  .next (s.cmd dt (safeBlockRepeat c.val))

/-- SAFE_RELEASE_REPEAT (R413). -/
def execSafeReleaseRepeat (dt : Nat) (c : Fin 64) (s : State) : Host.Outcome State Fault Refusal :=
  .next (s.cmd dt (safeReleaseRepeat c.val))

/-- RELEASE_TIMEOUT (R413). -/
def execReleaseTimeout (dt : Nat) (c : Fin 64) (s : State) : Host.Outcome State Fault Refusal :=
  .next (s.cmd dt (releaseTimeout c.val))

end Sys2Proof.Machine
end

