-- ==== Sys2Proof/Machine/ExecSupply.lean ====
section
/-! DEFINITION. Meanings of the commands: core rails, supplies and temperature. -/

namespace Sys2Proof.Machine

/-- SLACK_WINDOW_END (R79). -/
def execSlackWindowEnd (dt : Nat) (g : Fin 4) (s : State) : Host.Outcome State Fault Refusal :=
  .next (s.cmd dt (slackWindowEnd g.val))

/-- VADAPT_ENABLE (R79). -/
def execVadaptEnable (dt : Nat) (x : Fin 8) (up down : Byte) (s : State) : Host.Outcome State Fault Refusal :=
  .next (s.cmd dt (vadaptEnable x.val up.toNat down.toNat))

/-- PMBUS_WRITE_RESULT (R80). -/
def execPmbusWriteResult (dt : Nat) (ch : Fin 3) (ok : Bool) (mode : Option Byte) (s : State) : Host.Outcome State Fault Refusal :=
  .next (s.cmd dt (pmbusWriteResult ch.val ok (mode.map fun (m : Byte) => m.toNat)))

/-- SUPPLY_OUT_OF_RANGE (R469). -/
def execSupplyOutOfRange (dt : Nat) (volts : List Nat) (held : Nat) (s : State) : Host.Outcome State Fault Refusal :=
  .next (s.cmd dt (supplyOutOfRange volts held))

/-- SUPPLY_RECOVERED (R469). -/
def execSupplyRecovered (dt : Nat) (s : State) : Host.Outcome State Fault Refusal :=
  .next (s.cmd dt supplyRecovered)

/-- TEMPERATURE_READING (R478). -/
def execTemperatureReading (dt : Nat) (k : Fin 6) (v : BitVec 16) (s : State) : Host.Outcome State Fault Refusal :=
  .next (s.cmd dt (temperatureReading k.val v.toInt))

end Sys2Proof.Machine
end

