-- ==== Sys2Proof/Machine/ExecTime.lean ====
section
/-! DEFINITION. Meanings of the commands: the time base. -/

namespace Sys2Proof.Machine

/-- TB_PLL_LOCK (R328). -/
def execTbPllLock (dt : Nat) (counts : List Nat) (s : State) : Host.Outcome State Fault Refusal :=
  .next (s.cmd dt (tbPllLock counts))

/-- TB_PLL_LOCK_LOSS (R331). -/
def execTbPllLockLoss (dt : Nat) (count : Nat) (s : State) : Host.Outcome State Fault Refusal :=
  .next (s.cmd dt (tbPllLockLoss count))

/-- FREQ_STEP (R329). -/
def execFreqStep (dt : Nat) (s : State) : Host.Outcome State Fault Refusal :=
  .next (s.cmd dt freqStep)

/-- PHASE_STEP (R330). -/
def execPhaseStep (dt : Nat) (s : State) : Host.Outcome State Fault Refusal :=
  .next (s.cmd dt phaseStep)

/-- PTP_OFFSET (R337). -/
def execPtpOffset (dt : Nat) (p : Fin 4) (theta : Int) (s : State) : Host.Outcome State Fault Refusal :=
  .next (s.cmd dt (ptpOffset p.val theta))

/-- MASTER_LOST (R337). -/
def execMasterLost (dt : Nat) (s : State) : Host.Outcome State Fault Refusal :=
  .next (s.cmd dt masterLost)

/-- HOLDOVER_LIMIT (R340). -/
def execHoldoverLimit (dt : Nat) (s : State) : Host.Outcome State Fault Refusal :=
  .next (s.cmd dt holdoverLimit)

/-- HOLDOVER_SV (R341). -/
def execHoldoverSv (dt : Nat) (s : State) : Host.Outcome State Fault Refusal :=
  .next (s.cmd dt holdoverSv)

/-- PTP_MESSAGE_SEND (R334). -/
def execPtpMessageSend (dt : Nat) (p : Fin 4) (typ : BitVec 4) (stamp : Nat) (s : State) : Host.Outcome State Fault Refusal :=
  .next (s.cmd dt (ptpMessageSend p.val typ.toNat stamp))

/-- SET (R344). -/
def execSetTime (dt : Nat) (x : Fin 8) (s : State) : Host.Outcome State Fault Refusal :=
  .next (s.cmd dt (setTime x.val))

/-- STEP (R344). -/
def execStepNs (dt : Nat) (x : Fin 8) (s : State) : Host.Outcome State Fault Refusal :=
  .next (s.cmd dt (stepNs x.val))

/-- SLEW (R344). -/
def execSlew (dt : Nat) (x : Fin 8) (s : State) : Host.Outcome State Fault Refusal :=
  .next (s.cmd dt (slew x.val))

/-- FREQ (R344). -/
def execFreq (dt : Nat) (x : Fin 8) (s : State) : Host.Outcome State Fault Refusal :=
  .next (s.cmd dt (freq x.val))

/-- STAMP_QUEUE_READ (R346). -/
def execStampQueueRead (dt : Nat) (x : Fin 8) (p : Fin 4) (s : State) : Host.Outcome State Fault Refusal :=
  .next (s.cmd dt (stampQueueRead x.val p.val))

/-- TIME_NOW_READ (R333). -/
def execTimeNowRead (dt : Nat) (x : Fin 8) (s : State) : Host.Outcome State Fault Refusal :=
  .next (s.cmd dt (timeNowRead x.val))

/-- EVT_EDGE (R347). -/
def execEvtEdge (dt : Nat) (n : Fin 16) (rising : Bool) (ago : Nat) (s : State) : Host.Outcome State Fault Refusal :=
  .next (s.cmd dt (evtEdge n.val rising ago))

/-- EVT_FIFO_READ (R347). -/
def execEvtFifoRead (dt : Nat) (x : Fin 8) (n : Fin 16) (s : State) : Host.Outcome State Fault Refusal :=
  .next (s.cmd dt (evtFifoRead x.val n.val))

/-- TIO_COMMAND (R350). -/
def execTioCommand (dt : Nat) (x n : Fin 8) (level : Bool) (sub : BitVec 7) (tHi : BitVec 16) (s : State) : Host.Outcome State Fault Refusal :=
  .next (s.cmd dt (tioCommand x.val n.val level sub.toNat tHi.toNat))

/-- TIO_EDGE (R349). -/
def execTioEdge (dt : Nat) (n : Fin 8) (s : State) : Host.Outcome State Fault Refusal :=
  .next (s.cmd dt (tioEdge n.val))

/-- PPS_EDGE (R351). -/
def execPpsEdge (dt : Nat) (s : State) : Host.Outcome State Fault Refusal :=
  .next (s.cmd dt ppsEdge)

end Sys2Proof.Machine
end

