-- ==== Sys2Proof/Machine/ExecTriplex.lean ====
section
/-! DEFINITION. Meanings of the commands: channels, heartbeats and proof. -/

namespace Sys2Proof.Machine

/-- INPUT_DIGEST (R353). -/
def execInputDigest (dt : Nat) (ch : Fin 3) (t : Fin 12) (digest : Nat) (s : State) : Host.Outcome State Fault Refusal :=
  .next (s.cmd dt (inputDigest ch.val t.val digest))

/-- STATE_DIGEST_COMPARE (R357). -/
def execStateDigestCompare (dt : Nat) (g : Fin 4) (dA dB dC : Nat) (s : State) : Host.Outcome State Fault Refusal :=
  .next (s.cmd dt (stateDigestCompare g.val dA dB dC))

/-- HEARTBEAT_PERIOD (R358). -/
def execHeartbeatPeriod (dt : Nat) (s : State) : Host.Outcome State Fault Refusal :=
  .next (s.cmd dt heartbeatPeriod)

/-- HEARTBEAT_RECEIVED (R358). -/
def execHeartbeatReceived (dt : Nat) (x y : Fin 3) (path : Fin 2) (seq : Nat) (s : State) : Host.Outcome State Fault Refusal :=
  .next (s.cmd dt (heartbeatReceived x.val y.val path.val seq))

/-- HEARTBEAT_MISSING (R359). -/
def execHeartbeatMissing (dt : Nat) (x y : Fin 3) (path : Fin 2) (s : State) : Host.Outcome State Fault Refusal :=
  .next (s.cmd dt (heartbeatMissing x.val y.val path.val))

/-- REPAIR_COMPLETE (R367). -/
def execRepairComplete (dt : Nat) (pass : Bool) (s : State) : Host.Outcome State Fault Refusal :=
  .next (s.cmd dt (repairComplete pass))

/-- TILE_COPY_COMPLETE (R368). -/
def execTileCopyComplete (dt : Nat) (s : State) : Host.Outcome State Fault Refusal :=
  .next (s.cmd dt tileCopyComplete)

/-- TILE_COPY_TIMEOUT (R370). -/
def execTileCopyTimeout (dt : Nat) (s : State) : Host.Outcome State Fault Refusal :=
  .next (s.cmd dt tileCopyTimeout)

/-- SHADOW_COMPLETE (R369). -/
def execShadowComplete (dt : Nat) (s : State) : Host.Outcome State Fault Refusal :=
  .next (s.cmd dt shadowComplete)

/-- RESYNC_TIMEOUT (R370). -/
def execResyncTimeout (dt : Nat) (s : State) : Host.Outcome State Fault Refusal :=
  .next (s.cmd dt resyncTimeout)

/-- SIMPLEX_LIMIT (R364). -/
def execSimplexLimit (dt : Nat) (s : State) : Host.Outcome State Fault Refusal :=
  .next (s.cmd dt simplexLimit)

/-- PROOF_PERIOD_EXPIRY (R372). -/
def execProofPeriodExpiry (dt : Nat) (s : State) : Host.Outcome State Fault Refusal :=
  .next (s.cmd dt proofPeriodExpiry)

/-- PROOF_RUN_COMPLETE (R372). -/
def execProofRunComplete (dt : Nat) (match' : BitVec 3) (s : State) : Host.Outcome State Fault Refusal :=
  .next (s.cmd dt (proofRunComplete match'.toNat))

/-- RESYNC (R374). -/
def execResync (dt : Nat) (x : Fin 8) (ch : Fin 4) (s : State) : Host.Outcome State Fault Refusal :=
  .next (s.cmd dt (resync x.val ch.val))

/-- FENCE (R374). -/
def execFence (dt : Nat) (x : Fin 8) (ch : Fin 4) (s : State) : Host.Outcome State Fault Refusal :=
  .next (s.cmd dt (fence x.val ch.val))

/-- CLEAR (R366). -/
def execClear (dt : Nat) (x : Fin 8) (ch : Fin 4) (s : State) : Host.Outcome State Fault Refusal :=
  .next (s.cmd dt (clear x.val ch.val))

/-- PROOF (R372). -/
def execProof (dt : Nat) (x : Fin 8) (ch : Fin 4) (s : State) : Host.Outcome State Fault Refusal :=
  .next (s.cmd dt (proof x.val ch.val))

/-- TP_CFG_WRITE (R366). -/
def execTpCfgWrite (dt : Nat) (x : Fin 8) (v : Word) (s : State) : Host.Outcome State Fault Refusal :=
  .next (s.cmd dt (tpCfgWrite x.val v.toNat))

/-- CHANNEL_SELF_TEST_COMPLETE (R371). -/
def execChannelSelfTestComplete (dt : Nat) (pass : BitVec 3) (s : State) : Host.Outcome State Fault Refusal :=
  .next (s.cmd dt (channelSelfTestComplete pass.toNat))

end Sys2Proof.Machine
end

