-- ==== Sys2Proof/Machine/Dispatch.lean ====
section
/-! DEFINITION. The dispatch: one arm per command. -/

namespace Sys2Proof.Machine

/-- The effect of a command on everything but the queue. -/
def exec (i : Instr) (s : State) : Host.Outcome State Fault Refusal :=
  match i with
  | .registerWrite dt x off vals first last => Sys2Proof.Machine.execRegisterWrite dt x off vals first last s
  | .readClear dt x off n => Sys2Proof.Machine.execReadClear dt x off n s
  | .w1cClear dt x off mask again => Sys2Proof.Machine.execW1cClear dt x off mask again s
  | .settingsRecordCommit dt => Sys2Proof.Machine.execSettingsRecordCommit dt s
  | .journalSnapshot dt => Sys2Proof.Machine.execJournalSnapshot dt s
  | .powerUp dt kilnEn refSel devid sealPins => Sys2Proof.Machine.execPowerUp dt kilnEn refSel devid sealPins s
  | .powerLoss dt held => Sys2Proof.Machine.execPowerLoss dt held s
  | .resetNFall dt => Sys2Proof.Machine.execResetNFall dt s
  | .resetNRise dt kilnEn straps sealPins => Sys2Proof.Machine.execResetNRise dt kilnEn straps sealPins s
  | .perstLow dt p => Sys2Proof.Machine.execPerstLow dt p s
  | .deviceRecordsChecked dt errs => Sys2Proof.Machine.execDeviceRecordsChecked dt errs s
  | .activeSlotCheck dt errs => Sys2Proof.Machine.execActiveSlotCheck dt errs s
  | .structureBuild dt errs => Sys2Proof.Machine.execStructureBuild dt errs s
  | .journalReplay dt errs => Sys2Proof.Machine.execJournalReplay dt errs s
  | .faultsReady dt errs => Sys2Proof.Machine.execFaultsReady dt errs s
  | .safetyReady dt => Sys2Proof.Machine.execSafetyReady dt s
  | .groupRestore dt g => Sys2Proof.Machine.execGroupRestore dt g s
  | .kilnCodeWrite dt x code => Sys2Proof.Machine.execKilnCodeWrite dt x code s
  | .kilnTimeout dt => Sys2Proof.Machine.execKilnTimeout dt s
  | .load dt x slot => Sys2Proof.Machine.execLoad dt x slot s
  | .loadComplete dt errs => Sys2Proof.Machine.execLoadComplete dt errs s
  | .verify dt x slot => Sys2Proof.Machine.execVerify dt x slot s
  | .verifyComplete dt errs => Sys2Proof.Machine.execVerifyComplete dt errs s
  | .activate dt x slot => Sys2Proof.Machine.execActivate dt x slot s
  | .activateComplete dt errs ok => Sys2Proof.Machine.execActivateComplete dt errs ok s
  | .erase dt x slot => Sys2Proof.Machine.execErase dt x slot s
  | .eraseComplete dt errs => Sys2Proof.Machine.execEraseComplete dt errs s
  | .raiseFloor dt x => Sys2Proof.Machine.execRaiseFloor dt x s
  | .raiseFloorComplete dt errs => Sys2Proof.Machine.execRaiseFloorComplete dt errs s
  | .keyrec dt x => Sys2Proof.Machine.execKeyrec dt x s
  | .keyrecComplete dt errs => Sys2Proof.Machine.execKeyrecComplete dt errs s
  | .live dt x mask => Sys2Proof.Machine.execLive dt x mask s
  | .liveVerifyComplete dt => Sys2Proof.Machine.execLiveVerifyComplete dt s
  | .liveOverlayCommit dt errs => Sys2Proof.Machine.execLiveOverlayCommit dt errs s
  | .scrubPass dt errs => Sys2Proof.Machine.execScrubPass dt errs s
  | .cycleOpening g => Sys2Proof.Machine.execCycleOpening g s
  | .intakeCutoff g => Sys2Proof.Machine.execIntakeCutoff g s
  | .reportDeadline g => Sys2Proof.Machine.execReportDeadline g s
  | .stageComplete dt ch t stage => Sys2Proof.Machine.execStageComplete dt ch t stage s
  | .frameSetComplete dt ch t upset => Sys2Proof.Machine.execFrameSetComplete dt ch t upset s
  | .voterCutoff t => Sys2Proof.Machine.execVoterCutoff t s
  | .emissionDeadline g => Sys2Proof.Machine.execEmissionDeadline g s
  | .slackWindowEnd dt g => Sys2Proof.Machine.execSlackWindowEnd dt g s
  | .vadaptEnable dt x up down => Sys2Proof.Machine.execVadaptEnable dt x up down s
  | .pmbusWriteResult dt ch ok mode => Sys2Proof.Machine.execPmbusWriteResult dt ch ok mode s
  | .setpointCommit dt x g tag => Sys2Proof.Machine.execSetpointCommit dt x g tag s
  | .modeCommand dt x g target tag => Sys2Proof.Machine.execModeCommand dt x g target tag s
  | .dischargeTimeout dt g => Sys2Proof.Machine.execDischargeTimeout dt g s
  | .lineTestHoldEnd dt g => Sys2Proof.Machine.execLineTestHoldEnd dt g s
  | .fadeEnd dt g => Sys2Proof.Machine.execFadeEnd dt g s
  | .syncLock dt g => Sys2Proof.Machine.execSyncLock dt g s
  | .syncUnlock dt g => Sys2Proof.Machine.execSyncUnlock dt g s
  | .flywheelClear dt g => Sys2Proof.Machine.execFlywheelClear dt g s
  | .feedbackHoldExpiry dt g n => Sys2Proof.Machine.execFeedbackHoldExpiry dt g n s
  | .feedbackPrimaryReturn dt g n => Sys2Proof.Machine.execFeedbackPrimaryReturn dt g n s
  | .feedbackDisagreement dt g n => Sys2Proof.Machine.execFeedbackDisagreement dt g n s
  | .setpointSourceLoss dt g => Sys2Proof.Machine.execSetpointSourceLoss dt g s
  | .setpointSourceReturn dt g k => Sys2Proof.Machine.execSetpointSourceReturn dt g k s
  | .rideEntry dt g => Sys2Proof.Machine.execRideEntry dt g s
  | .rideCurveTrip dt g => Sys2Proof.Machine.execRideCurveTrip dt g s
  | .rideTmax dt g => Sys2Proof.Machine.execRideTmax dt g s
  | .rideExit dt g => Sys2Proof.Machine.execRideExit dt g s
  | .angleSeat dt g => Sys2Proof.Machine.execAngleSeat dt g s
  | .islandingDetected dt g => Sys2Proof.Machine.execIslandingDetected dt g s
  | .islandingPulse dt g => Sys2Proof.Machine.execIslandingPulse dt g s
  | .harvestTrackStep dt g => Sys2Proof.Machine.execHarvestTrackStep dt g s
  | .harvestScan dt x g => Sys2Proof.Machine.execHarvestScan dt x g s
  | .harvestScanPeriod dt g => Sys2Proof.Machine.execHarvestScanPeriod dt g s
  | .harvestScanEnd dt g => Sys2Proof.Machine.execHarvestScanEnd dt g s
  | .armEnergyFault dt t => Sys2Proof.Machine.execArmEnergyFault dt t s
  | .overmodulationFault dt t => Sys2Proof.Machine.execOvermodulationFault dt t s
  | .brickAbsent dt b => Sys2Proof.Machine.execBrickAbsent dt b s
  | .echoPark dt b => Sys2Proof.Machine.execEchoPark dt b s
  | .admissionFail dt b => Sys2Proof.Machine.execAdmissionFail dt b s
  | .lpllLock dt p counts => Sys2Proof.Machine.execLpllLock dt p counts s
  | .lpllLockLoss dt p count => Sys2Proof.Machine.execLpllLockLoss dt p count s
  | .signalDetected dt c e => Sys2Proof.Machine.execSignalDetected dt c e s
  | .electricalIdleDetected dt c e => Sys2Proof.Machine.execElectricalIdleDetected dt c e s
  | .commaReceived dt c e bits => Sys2Proof.Machine.execCommaReceived dt c e bits s
  | .transmitEidle dt c e => Sys2Proof.Machine.execTransmitEidle dt c e s
  | .wakeSequenceEnd dt c e => Sys2Proof.Machine.execWakeSequenceEnd dt c e s
  | .loopNearSerial dt x c e => Sys2Proof.Machine.execLoopNearSerial dt x c e s
  | .loopNearParallel dt x c e => Sys2Proof.Machine.execLoopNearParallel dt x c e s
  | .loopFarEnd dt x c e hops => Sys2Proof.Machine.execLoopFarEnd dt x c e hops s
  | .holdIdle dt x c e => Sys2Proof.Machine.execHoldIdle dt x c e s
  | .loopEnd dt x c e => Sys2Proof.Machine.execLoopEnd dt x c e s
  | .loopWordSend dt c e commas => Sys2Proof.Machine.execLoopWordSend dt c e commas s
  | .loopConfirm dt c e word stamp => Sys2Proof.Machine.execLoopConfirm dt c e word stamp s
  | .loopNoAnswer dt c e => Sys2Proof.Machine.execLoopNoAnswer dt c e s
  | .timeMarkSend dt => Sys2Proof.Machine.execTimeMarkSend dt s
  | .reportReceived dt c e fr => Sys2Proof.Machine.execReportReceived dt c e fr s
  | .timeMarkReceived dt c e fr stamp => Sys2Proof.Machine.execTimeMarkReceived dt c e fr stamp s
  | .ownFrameReturn dt c e fr => Sys2Proof.Machine.execOwnFrameReturn dt c e fr s
  | .pointReplyReceived dt c e fr => Sys2Proof.Machine.execPointReplyReceived dt c e fr s
  | .discoverReplyReceived dt c e fr => Sys2Proof.Machine.execDiscoverReplyReceived dt c e fr s
  | .discoverTimeout dt c => Sys2Proof.Machine.execDiscoverTimeout dt c s
  | .probeReplyReceived dt c e fr stamp => Sys2Proof.Machine.execProbeReplyReceived dt c e fr stamp s
  | .transactionWindowOpen dt c => Sys2Proof.Machine.execTransactionWindowOpen dt c s
  | .courseEndWorking dt c e => Sys2Proof.Machine.execCourseEndWorking dt c e s
  | .courseSplit dt c => Sys2Proof.Machine.execCourseSplit dt c s
  | .discoveryComplete dt c => Sys2Proof.Machine.execDiscoveryComplete dt c s
  | .brickCheckComplete dt b => Sys2Proof.Machine.execBrickCheckComplete dt b s
  | .admitCmd dt x c pos => Sys2Proof.Machine.execAdmitCmd dt x c pos s
  | .remove dt x c pos => Sys2Proof.Machine.execRemove dt x c pos s
  | .rediscover dt x c => Sys2Proof.Machine.execRediscover dt x c s
  | .measure dt x c => Sys2Proof.Machine.execMeasure dt x c s
  | .measurePeriod dt c => Sys2Proof.Machine.execMeasurePeriod dt c s
  | .automaticAdmission dt b => Sys2Proof.Machine.execAutomaticAdmission dt b s
  | .pointRead dt x addr n => Sys2Proof.Machine.execPointRead dt x addr n s
  | .pointWrite dt x addr vals fullBytes => Sys2Proof.Machine.execPointWrite dt x addr vals fullBytes s
  | .pointTimeout dt c tid => Sys2Proof.Machine.execPointTimeout dt c tid s
  | .pointLimit dt => Sys2Proof.Machine.execPointLimit dt s
  | .mirrorRefresh dt c => Sys2Proof.Machine.execMirrorRefresh dt c s
  | .svFrameReceived dt port fr sub => Sys2Proof.Machine.execSvFrameReceived dt port fr sub s
  | .gooseReceived dt port m => Sys2Proof.Machine.execGooseReceived dt port m s
  | .ptpMessageReceived dt p head seqId stamp state twoStep delay => Sys2Proof.Machine.execPtpMessageReceived dt p head seqId stamp state twoStep delay s
  | .svSilent dt k => Sys2Proof.Machine.execSvSilent dt k s
  | .svLost dt k => Sys2Proof.Machine.execSvLost dt k s
  | .gooseLost dt n => Sys2Proof.Machine.execGooseLost dt n s
  | .goosePubEvaluation dt => Sys2Proof.Machine.execGoosePubEvaluation dt s
  | .gooseRetransmit dt n => Sys2Proof.Machine.execGooseRetransmit dt n s
  | .lmCycleTrigger dt m => Sys2Proof.Machine.execLmCycleTrigger dt m s
  | .lmRun dt x m => Sys2Proof.Machine.execLmRun dt x m s
  | .lmRunComplete dt m raws => Sys2Proof.Machine.execLmRunComplete dt m raws s
  | .lmContOutput dt m raws => Sys2Proof.Machine.execLmContOutput dt m raws s
  | .lmContWrite dt x m v => Sys2Proof.Machine.execLmContWrite dt x m v s
  | .lmCalZero dt x m gain => Sys2Proof.Machine.execLmCalZero dt x m gain s
  | .lmCalFull dt x m gain expect => Sys2Proof.Machine.execLmCalFull dt x m gain expect s
  | .lmCalStore dt x m gain => Sys2Proof.Machine.execLmCalStore dt x m gain s
  | .lmCalFactory dt x m gain => Sys2Proof.Machine.execLmCalFactory dt x m gain s
  | .lmCalStepComplete dt m total => Sys2Proof.Machine.execLmCalStepComplete dt m total s
  | .tbPllLock dt counts => Sys2Proof.Machine.execTbPllLock dt counts s
  | .tbPllLockLoss dt count => Sys2Proof.Machine.execTbPllLockLoss dt count s
  | .freqStep dt => Sys2Proof.Machine.execFreqStep dt s
  | .phaseStep dt => Sys2Proof.Machine.execPhaseStep dt s
  | .ptpOffset dt p theta => Sys2Proof.Machine.execPtpOffset dt p theta s
  | .masterLost dt => Sys2Proof.Machine.execMasterLost dt s
  | .holdoverLimit dt => Sys2Proof.Machine.execHoldoverLimit dt s
  | .holdoverSv dt => Sys2Proof.Machine.execHoldoverSv dt s
  | .ptpMessageSend dt p typ stamp => Sys2Proof.Machine.execPtpMessageSend dt p typ stamp s
  | .setTime dt x => Sys2Proof.Machine.execSetTime dt x s
  | .stepNs dt x => Sys2Proof.Machine.execStepNs dt x s
  | .slew dt x => Sys2Proof.Machine.execSlew dt x s
  | .freq dt x => Sys2Proof.Machine.execFreq dt x s
  | .stampQueueRead dt x p => Sys2Proof.Machine.execStampQueueRead dt x p s
  | .timeNowRead dt x => Sys2Proof.Machine.execTimeNowRead dt x s
  | .evtEdge dt n rising ago => Sys2Proof.Machine.execEvtEdge dt n rising ago s
  | .evtFifoRead dt x n => Sys2Proof.Machine.execEvtFifoRead dt x n s
  | .tioCommand dt x n level sub tHi => Sys2Proof.Machine.execTioCommand dt x n level sub tHi s
  | .tioEdge dt n => Sys2Proof.Machine.execTioEdge dt n s
  | .ppsEdge dt => Sys2Proof.Machine.execPpsEdge dt s
  | .inputDigest dt ch t digest => Sys2Proof.Machine.execInputDigest dt ch t digest s
  | .stateDigestCompare dt g dA dB dC => Sys2Proof.Machine.execStateDigestCompare dt g dA dB dC s
  | .heartbeatPeriod dt => Sys2Proof.Machine.execHeartbeatPeriod dt s
  | .heartbeatReceived dt x y path seq => Sys2Proof.Machine.execHeartbeatReceived dt x y path seq s
  | .heartbeatMissing dt x y path => Sys2Proof.Machine.execHeartbeatMissing dt x y path s
  | .repairComplete dt pass => Sys2Proof.Machine.execRepairComplete dt pass s
  | .tileCopyComplete dt => Sys2Proof.Machine.execTileCopyComplete dt s
  | .tileCopyTimeout dt => Sys2Proof.Machine.execTileCopyTimeout dt s
  | .shadowComplete dt => Sys2Proof.Machine.execShadowComplete dt s
  | .resyncTimeout dt => Sys2Proof.Machine.execResyncTimeout dt s
  | .simplexLimit dt => Sys2Proof.Machine.execSimplexLimit dt s
  | .proofPeriodExpiry dt => Sys2Proof.Machine.execProofPeriodExpiry dt s
  | .proofRunComplete dt match' => Sys2Proof.Machine.execProofRunComplete dt match' s
  | .resync dt x ch => Sys2Proof.Machine.execResync dt x ch s
  | .fence dt x ch => Sys2Proof.Machine.execFence dt x ch s
  | .clear dt x ch => Sys2Proof.Machine.execClear dt x ch s
  | .proof dt x ch => Sys2Proof.Machine.execProof dt x ch s
  | .tpCfgWrite dt x v => Sys2Proof.Machine.execTpCfgWrite dt x v s
  | .faultRaise dt n detail holds => Sys2Proof.Machine.execFaultRaise dt n detail holds s
  | .logRecordCommit dt => Sys2Proof.Machine.execLogRecordCommit dt s
  | .faultClear dt x w mask => Sys2Proof.Machine.execFaultClear dt x w mask s
  | .collectorSelfCheck dt corrected mismatch => Sys2Proof.Machine.execCollectorSelfCheck dt corrected mismatch s
  | .errNRelease dt => Sys2Proof.Machine.execErrNRelease dt s
  | .clearFirst dt x => Sys2Proof.Machine.execClearFirst dt x s
  | .eraseLog dt x => Sys2Proof.Machine.execEraseLog dt x s
  | .logIndexWrite dt x idx => Sys2Proof.Machine.execLogIndexWrite dt x idx s
  | .inject dt x target tile real two => Sys2Proof.Machine.execInject dt x target tile real two s
  | .injectionArmed dt => Sys2Proof.Machine.execInjectionArmed dt s
  | .injectionFire dt syndrome => Sys2Proof.Machine.execInjectionFire dt syndrome s
  | .injectionExpired dt => Sys2Proof.Machine.execInjectionExpired dt s
  | .irqPendingClear dt x y fault mask again => Sys2Proof.Machine.execIrqPendingClear dt x y fault mask again s
  | .sbcReqInput dt low => Sys2Proof.Machine.execSbcReqInput dt low s
  | .tripInput dt n active => Sys2Proof.Machine.execTripInput dt n active s
  | .safetyOscillatorCheck dt dev2 devTb => Sys2Proof.Machine.execSafetyOscillatorCheck dt dev2 devTb s
  | .sealCheck dt switches => Sys2Proof.Machine.execSealCheck dt switches s
  | .ovLossTimeout dt => Sys2Proof.Machine.execOvLossTimeout dt s
  | .automaticDemandEnd dt => Sys2Proof.Machine.execAutomaticDemandEnd dt s
  | .apply dt x => Sys2Proof.Machine.execApply dt x s
  | .restore dt x => Sys2Proof.Machine.execRestore dt x s
  | .test dt x => Sys2Proof.Machine.execTest dt x s
  | .safeBlock dt x => Sys2Proof.Machine.execSafeBlock dt x s
  | .release dt x => Sys2Proof.Machine.execRelease dt x s
  | .offPulseTest dt second => Sys2Proof.Machine.execOffPulseTest dt second s
  | .offPulseEnd dt low => Sys2Proof.Machine.execOffPulseEnd dt low s
  | .offPulseVerify dt high => Sys2Proof.Machine.execOffPulseVerify dt high s
  | .feedbackDiscrepancy dt second level => Sys2Proof.Machine.execFeedbackDiscrepancy dt second level s
  | .degradedMinute dt => Sys2Proof.Machine.execDegradedMinute dt s
  | .safeBlockRepeat dt c => Sys2Proof.Machine.execSafeBlockRepeat dt c s
  | .safeReleaseRepeat dt c => Sys2Proof.Machine.execSafeReleaseRepeat dt c s
  | .releaseTimeout dt c => Sys2Proof.Machine.execReleaseTimeout dt c s
  | .open' dt x mse ctl => Sys2Proof.Machine.execOpen' dt x mse ctl s
  | .close dt x => Sys2Proof.Machine.execClose dt x s
  | .functionLevelReset dt x => Sys2Proof.Machine.execFunctionLevelReset dt x s
  | .d3hotEntry dt x => Sys2Proof.Machine.execD3hotEntry dt x s
  | .linkLeavesL0 dt p => Sys2Proof.Machine.execLinkLeavesL0 dt p s
  | .linkRecoveryTimeout dt p => Sys2Proof.Machine.execLinkRecoveryTimeout dt p s
  | .contextClosed dt x => Sys2Proof.Machine.execContextClosed dt x s
  | .busMasterDisable dt x => Sys2Proof.Machine.execBusMasterDisable dt x s
  | .roleWrite dt x y role => Sys2Proof.Machine.execRoleWrite dt x y role s
  | .give dt x target => Sys2Proof.Machine.execGive dt x target s
  | .claimOwner dt x => Sys2Proof.Machine.execClaimOwner dt x s
  | .mmuConfigWrite dt x y root v => Sys2Proof.Machine.execMmuConfigWrite dt x y root v s
  | .invAll dt x y => Sys2Proof.Machine.execInvAll dt x y s
  | .invPage dt x y => Sys2Proof.Machine.execInvPage dt x y s
  | .invalidationComplete dt y => Sys2Proof.Machine.execInvalidationComplete dt y s
  | .translationWalkComplete dt x entry status => Sys2Proof.Machine.execTranslationWalkComplete dt x entry status s
  | .pairLowRead dt x off => Sys2Proof.Machine.execPairLowRead dt x off s
  | .pairHighRead dt x off => Sys2Proof.Machine.execPairHighRead dt x off s
  | .pairLowWrite dt x off v => Sys2Proof.Machine.execPairLowWrite dt x off v s
  | .pairHighWrite dt x off v => Sys2Proof.Machine.execPairHighWrite dt x off v s
  | .claim dt x n => Sys2Proof.Machine.execClaim dt x n s
  | .releaseChannel dt x n => Sys2Proof.Machine.execReleaseChannel dt x n s
  | .arm dt x n => Sys2Proof.Machine.execArm dt x n s
  | .pause dt x n => Sys2Proof.Machine.execPause dt x n s
  | .resume dt x n => Sys2Proof.Machine.execResume dt x n s
  | .abort dt x n => Sys2Proof.Machine.execAbort dt x n s
  | .disarm dt x n => Sys2Proof.Machine.execDisarm dt x n s
  | .dmaSegmentBoundary dt port reads => Sys2Proof.Machine.execDmaSegmentBoundary dt port reads s
  | .dmaReadCompletion dt n bytes ok => Sys2Proof.Machine.execDmaReadCompletion dt n bytes ok s
  | .dmaReadTimeout dt n => Sys2Proof.Machine.execDmaReadTimeout dt n s
  | .dmaPassEnd dt n => Sys2Proof.Machine.execDmaPassEnd dt n s
  | .dmaFlushComplete dt n ok => Sys2Proof.Machine.execDmaFlushComplete dt n ok s
  | .dmaDescriptorFetch dt n bytes ok => Sys2Proof.Machine.execDmaDescriptorFetch dt n bytes ok s
  | .dmaChannelStopped dt n => Sys2Proof.Machine.execDmaChannelStopped dt n s
  | .dmaAcknowledge dt x n half full again => Sys2Proof.Machine.execDmaAcknowledge dt x n half full again s
  | .supplyOutOfRange dt volts held => Sys2Proof.Machine.execSupplyOutOfRange dt volts held s
  | .supplyRecovered dt => Sys2Proof.Machine.execSupplyRecovered dt s
  | .temperatureReading dt k v => Sys2Proof.Machine.execTemperatureReading dt k v s
  | .channelSelfTestComplete dt pass => Sys2Proof.Machine.execChannelSelfTestComplete dt pass s
  | .intakeLocalmeasDmaReady dt => Sys2Proof.Machine.execIntakeLocalmeasDmaReady dt s
  | .pciePortConfigurable dt p => Sys2Proof.Machine.execPciePortConfigurable dt p s
  | .linkEntersL0 dt p speed width => Sys2Proof.Machine.execLinkEntersL0 dt p speed width s
  | .perstRise dt p => Sys2Proof.Machine.execPerstRise dt p s
  | .busMasterEnable dt x => Sys2Proof.Machine.execBusMasterEnable dt x s
  | .msixVectorUnmask dt x access => Sys2Proof.Machine.execMsixVectorUnmask dt x access s
  | .stationPortLinkChange dt port up => Sys2Proof.Machine.execStationPortLinkChange dt port up s

end Sys2Proof.Machine
end

