-- ==== Sys2Proof/Safety.lean ====
section
/-! DEFINITION. What the statements speak of: the device as a command finds it, the state a command leaves, a host write the
register access rules let through, and the invariant of ERR_N that every step keeps. -/

namespace Sys2Proof.Machine

/-- The device dt ticks later: the clock has moved, and what left the device in the command before is gone. -/
def State.later (s : State) (dt : Nat) : Dev := Dev.elapse dt { s.dev with out := [] }

/-- The device as a command that comes dt ticks later finds it: while it works, its lanes have begun the frames that could begin by then
(R250). -/
def State.seen (s : State) (dt : Nat) : Dev := if (s.later dt).live then (s.later dt).runLanes else s.later dt

/-- The state a command leaves when its own effect on the device is e: the faults raised in the tick take their reactions (R381),
then ERR_N goes low if a case of R388 holds. The queue is not touched. -/
def State.settled (s : State) (e : Dev) : State := { s with dev := (e.settleN 12).errUpdate }

/-- The device works, and a write of context x to the register at an offset of BAR0 is not refused (R424, R425). -/
abbrev Dev.accepts (d : Dev) (x off : Nat) : Prop := d.live = true ∧ d.refusal x true off = none

/-- The same for a read. -/
abbrev Dev.acceptsRead (d : Dev) (x off : Nat) : Prop := d.live = true ∧ d.refusal x false off = none

/-- Every register field outside a list of fields reads the same in both devices. -/
def Dev.sameRegs (d e : Dev) (fs : List Fld) : Prop := ∀ (f : Fld) (i j : Nat), f ∉ fs → e.get f i j = d.get f i j

/-- ERR_N shows: whenever a case of R388 holds, the pin is low. -/
def State.errShown (s : State) : Prop := s.dev.errCase = true → s.dev.errN = true

/-- Channel ch runs the control of group g: cy is its newest cycle whose inputs are conditioned, and control has (late) or has not yet
run in it. -/
abbrev Dev.deciding (d : Dev) (g ch : Nat) (late : Bool) (cy : GCycle) : Prop :=
  ch < 3 ∧ g < 4 ∧ d.chans.length = 3 ∧ (d.chan ch).grps.length = 4 ∧ d.computesAny ch = true ∧
  ((d.cg ch g).cycles.filter (·.condDone)).getLast? = some cy ∧ cy.gridDone = late

/-- The control state of group g in channel ch. -/
def Dev.ctl (d : Dev) (ch g : Nat) : GridSt := (d.cg ch g).ctl

/-- Channel ch holds brick i of tile t, a tile it computes, with record k. -/
abbrev Dev.brickOf (d : Dev) (ch t i : Nat) (k : BrickSt) : Prop :=
  ch < 3 ∧ t < 12 ∧ d.chans.length = 3 ∧ (d.chan ch).tiles.length = 12 ∧ d.computes ch t = true ∧ tabGet (d.ctile ch t).rank.bricks i = some k

/-- The commands that are a host write of one register's command or settings word: the context that writes and the offset in BAR0. -/
def writesTo : Instr → Option (Nat × Nat)
  | .load _ x _ | .verify _ x _ | .activate _ x _ | .erase _ x _ | .raiseFloor _ x | .keyrec _ x | .live _ x _ => some (x.val, 0x20010)
  | .setTime _ x | .stepNs _ x | .slew _ x | .freq _ x => some (x.val, 0x30060)
  | .tioCommand _ x n _ _ _ => some (x.val, 0x30608 + 0x10 * n.val)
  | .apply _ x | .restore _ x | .test _ x | .safeBlock _ x | .release _ x => some (x.val, 0x50020)
  | .resync _ x _ | .fence _ x _ | .clear _ x _ | .proof _ x _ => some (x.val, 0x60020)
  | .tpCfgWrite _ x _ => some (x.val, 0x60004)
  | .lmRun _ x m => some (x.val, 0x70008 + 0x100 * m.val)
  | .lmContWrite _ x m _ => some (x.val, 0x7000C + 0x100 * m.val)
  | .lmCalZero _ x _ _ | .lmCalFull _ x _ _ _ | .lmCalStore _ x _ _ | .lmCalFactory _ x _ _ => some (x.val, 0x70800)
  | .clearFirst _ x | .eraseLog _ x => some (x.val, 0x40010)
  | .logIndexWrite _ x _ => some (x.val, 0x40024)
  | .inject _ x _ _ _ _ => some (x.val, 0x40030)
  | .faultClear _ x w _ => some (x.val, 0x40100 + 4 * w.val)
  | .irqPendingClear _ x y fault _ _ => some (x.val, if fault then 0x40040 + 4 * y.val else 0x10134 + 0x40 * y.val)
  | .admitCmd _ x c _ | .remove _ x c _ | .rediscover _ x c | .measure _ x c => some (x.val, crsCmd c.val)
  | .loopNearSerial _ x c e | .loopNearParallel _ x c e | .loopFarEnd _ x c e _ | .holdIdle _ x c e
  | .loopEnd _ x c e => some (x.val, laneCtl c.val e.val)
  | .open' _ x _ _ | .close _ x => some (x.val, 0x10004)
  | .roleWrite _ x y _ => some (x.val, 0x10100 + 0x40 * y.val)
  | .give _ x _ => some (x.val, 0x10008)
  | .claimOwner _ x => some (x.val, 0x1000C)
  | .mmuConfigWrite _ x y root _ => some (x.val, if root then 0x10114 + 0x40 * y.val else 0x10110 + 0x40 * y.val)
  | .invAll _ x y | .invPage _ x y => some (x.val, 0x10110 + 0x40 * y.val)
  | .kilnCodeWrite _ x _ => some (x.val, 0xC)
  | .vadaptEnable _ x _ _ => some (x.val, 0x80)
  | .setpointCommit _ x g _ => some (x.val, 0xA8200 + 0x400 * g.val)
  | .modeCommand _ x g _ _ => some (x.val, 0xA0004 + 0x100 * g.val)
  | .harvestScan _ x g => some (x.val, 0xA4054 + 0x100 * g.val)
  | .claim _ x n | .releaseChannel _ x n | .arm _ x n | .pause _ x n | .resume _ x n | .abort _ x n
  | .disarm _ x n => some (x.val, 0x90100 + 0x80 * n.val)
  | .dmaAcknowledge _ x n _ _ _ => some (x.val, 0x9010C + 0x80 * n.val)
  | _ => none

end Sys2Proof.Machine
end

