-- ==== Sys2Proof/Scope.lean ====
section
/-! DEFINITION. What a command may change. A Scope lists parts of the device and register fields; Dev.keeps says that everything
outside a scope is as before; touches gives the scope of every command's own effect, and Scope.reactions that of the
reactions of a tick. The statement Obligations.CommandsKeep speaks of them. -/

namespace Sys2Proof.Machine

/-- The parts of the device that are not register fields. -/
inductive Part where
  | out | free | clk | pins | work | store | mo | grps | chans | tp | cm | si | tb | fc | sb | host | dma | pm
  deriving DecidableEq, Repr

/-- A part is the same in both devices. -/
def Part.same : Part → Dev → Dev → Prop
  | .out, d, e => e.out = d.out
  | .free, d, e => e.free = d.free
  | .clk, d, e => e.clk = d.clk
  | .pins, d, e => e.pins = d.pins
  | .work, d, e => e.work = d.work
  | .store, d, e => e.store = d.store
  | .mo, d, e => e.mo = d.mo
  | .grps, d, e => e.grps = d.grps
  | .chans, d, e => e.chans = d.chans
  | .tp, d, e => e.tp = d.tp
  | .cm, d, e => e.cm = d.cm
  | .si, d, e => e.si = d.si
  | .tb, d, e => e.tb = d.tb
  | .fc, d, e => e.fc = d.fc
  | .sb, d, e => e.sb = d.sb
  | .host, d, e => e.host = d.host
  | .dma, d, e => e.dma = d.dma
  | .pm, d, e => e.pm = d.pm

/-- What may change: parts of the device, register fields in every copy, and ranges of register offsets (first copy) all of whose
fields may change. -/
structure Scope where
  parts : List Part
  flds : List Fld
  ranges : List (Nat × Nat)
  deriving DecidableEq, Repr

/-- A register field lies in a scope. -/
def Scope.covers (S : Scope) (f : Fld) : Bool :=
  S.flds.contains f || S.ranges.any fun r => decide (r.1 ≤ f.base) && decide (f.base < r.2)

/-- Everything outside a scope is in e as it is in d. -/
def Dev.keeps (S : Scope) (d e : Dev) : Prop :=
  (∀ p, p ∉ S.parts → p.same d e) ∧ ∀ (f : Fld) (i j : Nat), S.covers f = false → e.get f i j = d.get f i j

/-- A scope lies within another. -/
def Scope.le (a b : Scope) : Bool :=
  a.parts.all (b.parts.contains ·) && (a.flds.all b.covers && a.ranges.all fun r => b.ranges.any fun q => decide (q.1 ≤ r.1) && decide (r.2 ≤ q.2))

/-- The fields a refused access writes (R424, R425). -/
def refusalFlds : List Fld :=
[F.HC_CTX_REFADDR_BAR2, F.HC_CTX_REFADDR_CAUSE, F.HC_CTX_REFADDR_OFFSET, F.HC_CTX_REFADDR_WRITE, F.HC_CTX_STAT_PARTIAL,
    F.HC_CTX_STAT_REFUSED]

/-- The fields the settings journal holds (R7, R41). -/
def settingFlds : List Fld := regTable.flatMap fun r => (r.fields.filter journalled).map (·.fld)

/-- What the reactions of a tick and ERR_N may change (R381 to R388): the safe state, forced blocking, fences, records. -/
def Scope.reactions : Scope :=
  ⟨[.out, .pins, .store, .grps, .chans, .tp, .cm, .si, .fc, .sb, .host, .dma], [F.CM_CRS_DELIV_DELIV, F.CM_CRS_DELIV_WORST,
    F.CM_CRS_PT_FAILED, F.CM_CRS_STAT_FOUND, F.CM_CRS_STAT_F_WORKING, F.CM_CRS_STAT_H_WORKING, F.CM_CRS_STAT_IN_SERVICE,
    F.CM_CRS_STAT_STATE, F.CM_DIR_W0_EVQ, F.CM_DIR_W0_REASON, F.CM_DIR_W0_STATE, F.CM_LANE_STAT_CDR_LOCK, F.CM_LANE_STAT_STATE,
    F.CM_LANE_STAT_TX_IDLE, F.DM_CH_DETAIL_PTFAIL, F.FC_COND_COND, F.FC_COUNT_COUNT, F.FC_FIRST_SAME_TICK, F.FC_FIRST_SEQ_SEQ,
    F.FC_FIRST_SOURCE, F.FC_FIRST_VALID, F.FC_IRQ_PENDING, F.FC_LATCH_LATCH, F.FC_LOG_STAT_QUEUE, F.FC_STATUS_ERR_PIN,
    F.FC_STATUS_SAFE_STATE, F.GL_PT_ERR_W0_COUNT, F.GL_PT_ERR_W0_STATUS, F.GL_PT_ERR_W1_ADDRESS, F.GL_READY_TRIPLEX, F.GP_HARVEST_PB_FAIL,
    F.HC_IRQ_STAT_STAT, F.MO_JOURNAL_FILL, F.MO_JOURNAL_PENDING, F.PL_SLACK_LAST, F.PL_SLACK_WMIN, F.PL_STATUS_CONSEC, F.SB_CMD_BUSY,
    F.SB_COURSE_CAUSE, F.SB_COURSE_SENT, F.SB_COURSE_SEQ, F.SB_COURSE_STATE, F.SB_DEMAND_COND, F.SB_DEMAND_IN_FORCE, F.SB_STATUS_BRAKE,
    F.SB_STATUS_HOLD_1, F.SB_STATUS_HOLD_2, F.SB_STATUS_TESTING, F.TB_PTP_PORT_W0_STATE, F.TP_CH_CAUSE, F.TP_CH_FENCES, F.TP_CH_SHADOW,
    F.TP_CH_STATE, F.TP_CH_STRIKES, F.TP_CMD_BUSY, F.TP_PROOF_RESULT, F.TP_PROOF_STATE, F.TP_PROOF_STEP, F.TP_STATE_DONOR,
    F.TP_STATE_FENCED, F.TP_STATE_IN_SERVICE, F.TP_STATE_RESYNC, F.TP_STATE_SIMPLEX_MS, F.TP_STATE_STATE, F.TP_VOTE_LATE_RUN,
    F.TP_VOTE_MINORITY], []⟩

/-- The ticks a command brings; those of the points of a cycle go to their own tick instead (R62 to R64). -/
def ticksOf (c : Instr) : Nat :=
  match c with
  | .registerWrite dt .. | .readClear dt .. | .w1cClear dt .. | .settingsRecordCommit dt .. | .journalSnapshot dt .. | .powerUp dt ..
  | .powerLoss dt .. | .resetNFall dt .. | .resetNRise dt .. | .perstLow dt .. | .deviceRecordsChecked dt .. | .activeSlotCheck dt ..
  | .structureBuild dt .. | .journalReplay dt .. | .faultsReady dt .. | .safetyReady dt .. | .groupRestore dt .. | .kilnCodeWrite dt ..
  | .kilnTimeout dt .. | .load dt .. | .loadComplete dt .. | .verify dt .. | .verifyComplete dt .. | .activate dt ..
  | .activateComplete dt .. | .erase dt .. | .eraseComplete dt .. | .raiseFloor dt .. | .raiseFloorComplete dt .. | .keyrec dt ..
  | .keyrecComplete dt .. | .live dt .. | .liveVerifyComplete dt .. | .liveOverlayCommit dt .. | .scrubPass dt .. | .stageComplete dt ..
  | .frameSetComplete dt .. | .slackWindowEnd dt .. | .vadaptEnable dt .. | .pmbusWriteResult dt .. | .setpointCommit dt ..
  | .modeCommand dt .. | .dischargeTimeout dt .. | .lineTestHoldEnd dt .. | .fadeEnd dt .. | .syncLock dt .. | .syncUnlock dt ..
  | .flywheelClear dt .. | .feedbackHoldExpiry dt .. | .feedbackPrimaryReturn dt .. | .feedbackDisagreement dt ..
  | .setpointSourceLoss dt .. | .setpointSourceReturn dt .. | .rideEntry dt .. | .rideCurveTrip dt .. | .rideTmax dt .. | .rideExit dt ..
  | .angleSeat dt .. | .islandingDetected dt .. | .islandingPulse dt .. | .harvestTrackStep dt .. | .harvestScan dt ..
  | .harvestScanPeriod dt .. | .harvestScanEnd dt .. | .armEnergyFault dt .. | .overmodulationFault dt .. | .brickAbsent dt ..
  | .echoPark dt .. | .admissionFail dt .. | .lpllLock dt .. | .lpllLockLoss dt .. | .signalDetected dt ..
  | .electricalIdleDetected dt .. | .commaReceived dt .. | .transmitEidle dt .. | .wakeSequenceEnd dt .. | .loopNearSerial dt ..
  | .loopNearParallel dt .. | .loopFarEnd dt .. | .holdIdle dt .. | .loopEnd dt .. | .loopWordSend dt .. | .loopConfirm dt ..
  | .loopNoAnswer dt .. | .timeMarkSend dt .. | .reportReceived dt .. | .timeMarkReceived dt .. | .ownFrameReturn dt ..
  | .pointReplyReceived dt .. | .discoverReplyReceived dt .. | .discoverTimeout dt .. | .probeReplyReceived dt ..
  | .transactionWindowOpen dt .. | .courseEndWorking dt .. | .courseSplit dt .. | .discoveryComplete dt .. | .brickCheckComplete dt ..
  | .admitCmd dt .. | .remove dt .. | .rediscover dt .. | .measure dt .. | .measurePeriod dt .. | .automaticAdmission dt ..
  | .pointRead dt .. | .pointWrite dt .. | .pointTimeout dt .. | .pointLimit dt .. | .mirrorRefresh dt .. | .svFrameReceived dt ..
  | .gooseReceived dt .. | .ptpMessageReceived dt .. | .svSilent dt .. | .svLost dt .. | .gooseLost dt .. | .goosePubEvaluation dt ..
  | .gooseRetransmit dt .. | .lmCycleTrigger dt .. | .lmRun dt .. | .lmRunComplete dt .. | .lmContOutput dt .. | .lmContWrite dt ..
  | .lmCalZero dt .. | .lmCalFull dt .. | .lmCalStore dt .. | .lmCalFactory dt .. | .lmCalStepComplete dt .. | .tbPllLock dt ..
  | .tbPllLockLoss dt .. | .freqStep dt .. | .phaseStep dt .. | .ptpOffset dt .. | .masterLost dt .. | .holdoverLimit dt ..
  | .holdoverSv dt .. | .ptpMessageSend dt .. | .setTime dt .. | .stepNs dt .. | .slew dt .. | .freq dt .. | .stampQueueRead dt ..
  | .timeNowRead dt .. | .evtEdge dt .. | .evtFifoRead dt .. | .tioCommand dt .. | .tioEdge dt .. | .ppsEdge dt .. | .inputDigest dt ..
  | .stateDigestCompare dt .. | .heartbeatPeriod dt .. | .heartbeatReceived dt .. | .heartbeatMissing dt .. | .repairComplete dt ..
  | .tileCopyComplete dt .. | .tileCopyTimeout dt .. | .shadowComplete dt .. | .resyncTimeout dt .. | .simplexLimit dt ..
  | .proofPeriodExpiry dt .. | .proofRunComplete dt .. | .resync dt .. | .fence dt .. | .clear dt .. | .proof dt .. | .tpCfgWrite dt ..
  | .faultRaise dt .. | .logRecordCommit dt .. | .faultClear dt .. | .collectorSelfCheck dt .. | .errNRelease dt .. | .clearFirst dt ..
  | .eraseLog dt .. | .logIndexWrite dt .. | .inject dt .. | .injectionArmed dt .. | .injectionFire dt .. | .injectionExpired dt ..
  | .irqPendingClear dt .. | .sbcReqInput dt .. | .tripInput dt .. | .safetyOscillatorCheck dt .. | .sealCheck dt ..
  | .ovLossTimeout dt .. | .automaticDemandEnd dt .. | .apply dt .. | .restore dt .. | .test dt .. | .safeBlock dt .. | .release dt ..
  | .offPulseTest dt .. | .offPulseEnd dt .. | .offPulseVerify dt .. | .feedbackDiscrepancy dt .. | .degradedMinute dt ..
  | .safeBlockRepeat dt .. | .safeReleaseRepeat dt .. | .releaseTimeout dt .. | .open' dt .. | .close dt .. | .functionLevelReset dt ..
  | .d3hotEntry dt .. | .linkLeavesL0 dt .. | .linkRecoveryTimeout dt .. | .contextClosed dt .. | .busMasterDisable dt ..
  | .roleWrite dt .. | .give dt .. | .claimOwner dt .. | .mmuConfigWrite dt .. | .invAll dt .. | .invPage dt ..
  | .invalidationComplete dt .. | .translationWalkComplete dt .. | .pairLowRead dt .. | .pairHighRead dt .. | .pairLowWrite dt ..
  | .pairHighWrite dt .. | .claim dt .. | .releaseChannel dt .. | .arm dt .. | .pause dt .. | .resume dt .. | .abort dt ..
  | .disarm dt .. | .dmaSegmentBoundary dt .. | .dmaReadCompletion dt .. | .dmaReadTimeout dt .. | .dmaPassEnd dt ..
  | .dmaFlushComplete dt .. | .dmaDescriptorFetch dt .. | .dmaChannelStopped dt .. | .dmaAcknowledge dt .. | .supplyOutOfRange dt ..
  | .supplyRecovered dt .. | .temperatureReading dt .. | .channelSelfTestComplete dt .. | .intakeLocalmeasDmaReady dt ..
  | .pciePortConfigurable dt .. | .linkEntersL0 dt .. | .perstRise dt .. | .busMasterEnable dt .. | .msixVectorUnmask dt ..
  | .stationPortLinkChange dt .. => dt
  | .cycleOpening .. | .intakeCutoff .. | .reportDeadline .. | .voterCutoff .. | .emissionDeadline .. => 0

/-- The scope of a command's own effect; none for the four commands of the power and reset pins, which take the whole device, and for the
seven that reach a register of the host's choice, whose statements give the state they leave whole. -/
def touches (c : Instr) : Option Scope :=
  match c with
  | .registerWrite .. | .readClear .. | .w1cClear .. | .powerUp .. | .powerLoss .. | .resetNFall .. | .resetNRise .. | .pairLowRead ..
  | .pairHighRead .. | .pairLowWrite .. | .pairHighWrite .. => none
  | .settingsRecordCommit .. | .journalSnapshot .. => some ⟨[.store], [F.MO_JOURNAL_FILL, F.MO_JOURNAL_HALF, F.MO_JOURNAL_PENDING], []⟩
  | .perstLow .. => some ⟨[.out, .pins, .work, .cm, .fc, .host, .dma], [F.DM_CH_DONE_DONE, F.DM_CH_IRQ_DONE, F.DM_CH_IRQ_FULL,
      F.DM_CH_IRQ_HALF, F.DM_CH_IRQ_OVERRUN, F.DM_CH_IRQ_STOP, F.DM_CH_STAT_CAUSE, F.DM_CH_STAT_STATE, F.DM_FREE_FREE, F.FC_COND_COND,
      F.FC_IRQ_EN, F.FC_IRQ_PENDING, F.HC_CTX_STAT_CAUSE, F.HC_CTX_STAT_STATE, F.HC_IRQ_EN_EN, F.HC_IRQ_STAT_STAT, F.HC_MMU_CTL_MODE,
      F.HC_MMU_INV_HI_INV_HI, F.HC_MMU_INV_LO_INV_LO, F.HC_MMU_ROOT_HI_ROOT_HI, F.HC_MMU_ROOT_LO_ROOT_LO, F.HC_PORT_LINK_DOWNS,
      F.HC_PORT_LINK_UP, F.HC_PORT_SPEED, F.HC_PORT_WIDTH], []⟩
  | .deviceRecordsChecked .. => some ⟨[.free, .store, .mo, .fc], [F.FC_COND_COND, F.GL_READY_STORE, F.GL_START_PIN_RESETS,
      F.GL_START_STARTS, F.MO_SLOT_REASON, F.MO_SLOT_SECVER, F.MO_SLOT_STATE, F.MO_STATUS_ACTIVE, F.MO_STATUS_FLOOR, F.MO_STATUS_KEYS,
      F.MO_STATUS_SINGLE_ERRS, F.MO_STATUS_STORE_ERR, F.SB_DEG_ELAPSED], []⟩
  | .activeSlotCheck .. => some ⟨[.store, .mo, .fc], [F.FC_COND_COND, F.GL_READY_STORE, F.MO_SLOT_REASON, F.MO_SLOT_SECVER,
      F.MO_SLOT_STATE, F.MO_STATUS_SINGLE_ERRS, F.MO_STATUS_STORE_ERR], []⟩
  | .structureBuild .. => some ⟨[.out, .store, .mo, .grps, .chans, .tp, .cm, .si, .tb, .fc, .host, .dma], [F.CM_CRS_CTL_NC,
      F.CM_CRS_CTL_SPARE_UNKNOWN, F.CM_LANE_CFG_RATE, F.CM_LANE_CFG_SPREAD, F.CM_LANE_STAT_CDR_LOCK, F.CM_LANE_STAT_STATE,
      F.CM_LANE_STAT_TX_IDLE, F.FC_COND_COND, F.FC_REACT_ERR, F.FC_REACT_GROUPS, F.FC_REACT_REACTION, F.GL_READY_LANE_L0,
      F.GL_READY_LANE_L1, F.GL_READY_MORTAR, F.GL_READY_PTP, F.GL_READY_STORE, F.GP_HANDOVER_FADE_LEN, F.GP_SPSRC_USED, F.GP_SPSRC_WORD,
      F.GP_TRANS_AUTO_TO, F.GP_TRANS_EN_TO, F.HC_IRQ_STAT_STAT, F.LM_CFG_DELAY, F.LM_CFG_EVT, F.LM_CFG_GROUP, F.LM_CFG_NENTRIES,
      F.LM_CFG_TRIG, F.LM_CONT_N_N, F.LM_CONT_T0_T0, F.MO_STATUS_SINGLE_ERRS, F.MO_STATUS_STORE_ERR, F.PL_ARM_CFG_PHASE,
      F.PL_ARM_CFG_POSITION, F.PL_CFG_GROUP, F.PL_CFG_NCOURSES, F.PL_CFG_STAGES, F.PL_CFG_TYPE, F.PL_DWELL_CFG_DT_COMP,
      F.PL_DWELL_CFG_PULSE_MODE, F.PL_DWELL_CFG_T_DEAD, F.PL_DWELL_CFG_T_DWELL, F.PL_DWELL_CFG_T_MINP, F.PL_OUTER_DIV,
      F.PL_OUTER_MISS_LIMIT, F.PL_OUTER_PHASE, F.PL_RANK_CFG_BAND, F.PL_RANK_CFG_ECHO_N, F.PL_RANK_CFG_REPORT_HOLD,
      F.PL_RANK_CFG_SWAP_MAX, F.PL_TIMING_CYCLE, F.PL_TIMING_EMIT_DL, F.PL_TIMING_LEAD, F.PL_TIMING_REPORT_DL, F.SI_GO_IN_W0_VALUE_LO,
      F.SI_GO_IN_W1_VALUE_HI, F.SI_GO_IN_W2_VALID_LO, F.SI_GO_IN_W3_VALID_HI, F.SI_GO_PUB_USED, F.SI_GO_SUB_USED, F.SI_PORT_MODE,
      F.SI_SV_STAT_W0_STATE, F.TB_EVT_CFG_EDGE, F.TB_EVT_CFG_FILTER, F.TB_HOLD_SECONDS, F.TB_LPLL_CFG_DEPTH, F.TB_LPLL_CFG_MODE,
      F.TB_PPS_WIDTH, F.TB_PTP_PORT_W0_STATE, F.TB_PTP_PORT_W2_ASYM, F.TB_SERVO_CFG_CLOCK, F.TB_SERVO_CFG_DOMAIN, F.TB_SERVO_CFG_MODE,
      F.TB_SERVO_CFG_PROFILE, F.TB_SERVO_CFG_SLAVE_ONLY, F.TB_SERVO_CFG_SLEW_MAX, F.TB_SERVO_DEFERRED, F.TB_SERVO_STATE,
      F.TB_STATUS_PPS_TRACE, F.TB_STATUS_SV_SUSPECT, F.TB_TIO_W0_GROUP, F.TB_TIO_W0_MODE, F.TB_TIO_W3_PENDING], []⟩
  | .journalReplay .. => some ⟨[.out, .store, .grps, .fc, .pm], settingFlds ++ [F.FC_COND_COND, F.GL_READY_JOURNAL,
      F.GL_READY_RESTORE_DEGRADED, F.GL_READY_STORE, F.HC_CTX_CFG_ROLE, F.MO_JOURNAL_FILL, F.MO_JOURNAL_HALF, F.MO_JOURNAL_PENDING,
      F.MO_STATUS_SINGLE_ERRS, F.MO_STATUS_STORE_ERR], []⟩
  | .faultsReady .. => some ⟨[.out, .store, .grps, .chans, .tp, .cm, .si, .fc, .sb, .host, .dma], [F.CM_CRS_DELIV_DELIV,
      F.CM_CRS_DELIV_WORST, F.CM_CRS_PT_FAILED, F.CM_CRS_STAT_FOUND, F.CM_CRS_STAT_F_WORKING, F.CM_CRS_STAT_H_WORKING,
      F.CM_CRS_STAT_IN_SERVICE, F.CM_CRS_STAT_STATE, F.CM_DIR_W0_EVQ, F.CM_DIR_W0_REASON, F.CM_DIR_W0_STATE, F.CM_LANE_STAT_CDR_LOCK,
      F.CM_LANE_STAT_STATE, F.CM_LANE_STAT_TX_IDLE, F.DM_CH_DETAIL_PTFAIL, F.FC_COND_COND, F.FC_FIRST_SAME_TICK, F.FC_FIRST_SEQ_SEQ,
      F.FC_FIRST_SOURCE, F.FC_FIRST_VALID, F.FC_IRQ_PENDING, F.FC_LOG_STAT_HEAD, F.FC_LOG_STAT_QUEUE, F.FC_REACT_ERR, F.FC_REACT_GROUPS,
      F.FC_REACT_REACTION, F.FC_STATUS_SAFE_STATE, F.GL_PT_ERR_W0_COUNT, F.GL_PT_ERR_W0_STATUS, F.GL_PT_ERR_W1_ADDRESS,
      F.GL_READY_FAULTS, F.GL_READY_STORE, F.GL_READY_TRIPLEX, F.GP_HARVEST_PB_FAIL, F.HC_IRQ_STAT_STAT, F.MO_JOURNAL_FILL,
      F.MO_JOURNAL_PENDING, F.MO_STATUS_SINGLE_ERRS, F.MO_STATUS_STORE_ERR, F.PL_SLACK_LAST, F.PL_SLACK_WMIN, F.PL_STATUS_CONSEC,
      F.SB_CMD_BUSY, F.SB_COURSE_CAUSE, F.SB_COURSE_SENT, F.SB_COURSE_SEQ, F.SB_COURSE_STATE, F.SB_DEMAND_COND, F.SB_DEMAND_IN_FORCE,
      F.SB_STATUS_BRAKE, F.SB_STATUS_HOLD_1, F.SB_STATUS_HOLD_2, F.SB_STATUS_TESTING, F.TB_PTP_PORT_W0_STATE, F.TP_CH_CAUSE,
      F.TP_CH_FENCES, F.TP_CH_SHADOW, F.TP_CH_STATE, F.TP_CH_STRIKES, F.TP_CMD_BUSY, F.TP_PROOF_RESULT, F.TP_PROOF_STATE,
      F.TP_PROOF_STEP, F.TP_STATE_DONOR, F.TP_STATE_FENCED, F.TP_STATE_IN_SERVICE, F.TP_STATE_RESYNC, F.TP_STATE_SIMPLEX_MS,
      F.TP_STATE_STATE, F.TP_VOTE_LATE_RUN, F.TP_VOTE_MINORITY], []⟩
  | .safetyReady .. => some ⟨[.out, .store, .cm, .si, .fc, .sb, .host], [F.FC_COND_COND, F.GL_READY_SAFETY, F.HC_IRQ_STAT_STAT,
      F.LM_CONT_DECIM, F.LM_CONT_EN, F.LM_CONT_GAIN, F.LM_CONT_INPUT, F.MO_JOURNAL_FILL, F.MO_JOURNAL_PENDING, F.SB_CMD_BUSY,
      F.SB_COURSE_CAUSE, F.SB_COURSE_SENT, F.SB_COURSE_SEQ, F.SB_COURSE_STATE, F.SB_DEMAND_COND, F.SB_DEMAND_IN_FORCE,
      F.SB_SEAL_EXPECTED, F.SB_SEAL_MATCH, F.SB_STATUS_BRAKE, F.SB_STATUS_HOLD_1, F.SB_STATUS_HOLD_2, F.SB_STATUS_TESTING], []⟩
  | .groupRestore .. => some ⟨[.out, .store, .chans, .host], [F.GL_READY_GROUP, F.GP_MODE_CAUSE, F.GP_MODE_MODE, F.HC_IRQ_STAT_STAT,
      F.MO_JOURNAL_FILL, F.MO_JOURNAL_PENDING], []⟩
  | .kilnCodeWrite .. => some ⟨[.mo], refusalFlds ++ [F.GL_START_KILN], []⟩
  | .kilnTimeout .. => some ⟨[.mo], [F.GL_START_KILN], []⟩
  | .load .. => some ⟨[.store, .mo], refusalFlds ++ [F.MO_CMD_BUSY, F.MO_CMD_RESULT, F.MO_SLOT_REASON, F.MO_SLOT_SECVER,
      F.MO_SLOT_STATE], []⟩
  | .loadComplete .. | .verifyComplete .. | .eraseComplete .. => some ⟨[.store, .mo, .fc], [F.FC_COND_COND, F.GL_READY_STORE,
      F.MO_CMD_BUSY, F.MO_CMD_RESULT, F.MO_SLOT_REASON, F.MO_SLOT_SECVER, F.MO_SLOT_STATE, F.MO_STATUS_SINGLE_ERRS,
      F.MO_STATUS_STORE_ERR], []⟩
  | .verify .. | .erase .. | .raiseFloor .. | .keyrec .. => some ⟨[.mo], refusalFlds ++ [F.MO_CMD_BUSY, F.MO_CMD_RESULT], []⟩
  | .activate .. => some ⟨[.mo, .grps, .chans], refusalFlds ++ [F.GP_MODE_STATUS_RESULT, F.GP_MODE_STATUS_TAG, F.MO_CMD_BUSY,
      F.MO_CMD_RESULT], []⟩
  | .activateComplete .. => some ⟨[.out, .store, .mo, .grps, .chans, .tp, .cm, .si, .tb, .fc, .sb, .host, .dma], [F.CM_CRS_CTL_NC,
      F.CM_CRS_CTL_SPARE_UNKNOWN, F.CM_CRS_DELIV_DELIV, F.CM_CRS_DELIV_WORST, F.CM_CRS_PT_FAILED, F.CM_CRS_STAT_FOUND,
      F.CM_CRS_STAT_F_WORKING, F.CM_CRS_STAT_H_WORKING, F.CM_CRS_STAT_IN_SERVICE, F.CM_CRS_STAT_STATE, F.CM_LANE_CFG_RATE,
      F.CM_LANE_CFG_SPREAD, F.CM_LANE_CTL_BUSY, F.CM_LANE_CTL_RESULT, F.CM_LANE_STAT_CDR_LOCK, F.CM_LANE_STAT_LOOP,
      F.CM_LANE_STAT_LOOP_HOPS, F.CM_LANE_STAT_STATE, F.CM_LANE_STAT_TX_IDLE, F.DM_CH_DETAIL_PTFAIL, F.DM_CH_STAT_STATE, F.DM_FREE_FREE,
      F.FC_COND_COND, F.FC_REACT_ERR, F.FC_REACT_GROUPS, F.FC_REACT_REACTION, F.GL_PT_ERR_W0_COUNT, F.GL_PT_ERR_W0_STATUS,
      F.GL_PT_ERR_W1_ADDRESS, F.GL_READY_GROUP, F.GL_READY_LANE_L0, F.GL_READY_LANE_L1, F.GL_READY_MORTAR, F.GL_READY_PTP,
      F.GL_READY_SAFETY, F.GL_READY_STORE, F.GL_READY_TRIPLEX, F.HC_IRQ_STAT_STAT, F.LM_CAL_CMD_BUSY, F.LM_CFG_DELAY, F.LM_CFG_EVT,
      F.LM_CFG_GROUP, F.LM_CFG_NENTRIES, F.LM_CFG_TRIG, F.LM_CONT_DECIM, F.LM_CONT_EN, F.LM_CONT_GAIN, F.LM_CONT_INPUT, F.LM_CONT_N_N,
      F.LM_CONT_T0_T0, F.LM_STAT_STATE, F.MO_CMD_BUSY, F.MO_CMD_RESULT, F.MO_JOURNAL_FILL, F.MO_JOURNAL_HALF, F.MO_JOURNAL_PENDING,
      F.MO_SLOT_REASON, F.MO_SLOT_SECVER, F.MO_SLOT_STATE, F.MO_STATUS_ACTIVE, F.MO_STATUS_ACTIVE_DAMAGED, F.MO_STATUS_SINGLE_ERRS,
      F.MO_STATUS_STORE_ERR, F.SB_CMD_BUSY, F.SB_COURSE_CAUSE, F.SB_COURSE_SENT, F.SB_COURSE_SEQ, F.SB_COURSE_STATE, F.SB_DEMAND_COND,
      F.SB_DEMAND_IN_FORCE, F.SB_SEAL_EXPECTED, F.SB_SEAL_MATCH, F.SB_STATUS_BRAKE, F.SB_STATUS_HOLD_1, F.SB_STATUS_HOLD_2,
      F.SB_STATUS_TESTING, F.SI_PORT_MODE, F.TB_EVT_CFG_EDGE, F.TB_EVT_CFG_FILTER, F.TB_HOLD_SECONDS, F.TB_LPLL_CFG_DEPTH,
      F.TB_LPLL_CFG_MODE, F.TB_PPS_WIDTH, F.TB_PTP_PORT_W0_STATE, F.TB_PTP_PORT_W2_ASYM, F.TB_SERVO_CFG_CLOCK, F.TB_SERVO_CFG_DOMAIN,
      F.TB_SERVO_CFG_MODE, F.TB_SERVO_CFG_PROFILE, F.TB_SERVO_CFG_SLAVE_ONLY, F.TB_SERVO_CFG_SLEW_MAX, F.TB_SERVO_DEFERRED,
      F.TB_SERVO_STATE, F.TB_STATUS_PPS_TRACE, F.TB_STATUS_SV_SUSPECT, F.TB_TIO_W0_GROUP, F.TB_TIO_W0_MODE, F.TB_TIO_W3_PENDING,
      F.TP_CH_SHADOW, F.TP_CH_STATE, F.TP_CMD_BUSY, F.TP_PROOF_RESULT, F.TP_PROOF_STATE, F.TP_PROOF_STEP, F.TP_STATE_DONOR,
      F.TP_STATE_FENCED, F.TP_STATE_IN_SERVICE, F.TP_STATE_RESYNC, F.TP_STATE_SIMPLEX_MS, F.TP_STATE_STATE], [(0x80100, 0x82240),
      (0xA0000, 0xB0000), (0x100000, 0x1C0000), (0x200000, 0x200010)]⟩
  | .raiseFloorComplete .. | .keyrecComplete .. => some ⟨[.store, .mo, .fc], [F.FC_COND_COND, F.GL_READY_STORE, F.MO_CMD_BUSY,
      F.MO_CMD_RESULT, F.MO_STATUS_FLOOR, F.MO_STATUS_KEYS, F.MO_STATUS_SINGLE_ERRS, F.MO_STATUS_STORE_ERR], []⟩
  | .live .. => some ⟨[.mo], refusalFlds ++ [F.MO_CMD_BUSY, F.MO_CMD_RESULT, F.MO_LIVE_GROUPS, F.MO_LIVE_RESULT, F.MO_LIVE_SECTION,
      F.MO_LIVE_STATE], []⟩
  | .liveVerifyComplete .. => some ⟨[.mo], [F.MO_CMD_BUSY, F.MO_LIVE_RESULT, F.MO_LIVE_STATE], []⟩
  | .liveOverlayCommit .. => some ⟨[.store, .mo, .grps, .fc], [F.FC_COND_COND, F.GL_READY_STORE, F.MO_CMD_BUSY, F.MO_LIVE_AT_HI_AT_HI,
      F.MO_LIVE_AT_LO_AT_LO, F.MO_LIVE_RESULT, F.MO_LIVE_STATE, F.MO_STATUS_SINGLE_ERRS, F.MO_STATUS_STORE_ERR], []⟩
  | .scrubPass .. => some ⟨[.store, .mo, .fc], [F.FC_COND_COND, F.GL_READY_STORE, F.MO_SCRUB_CORR, F.MO_SCRUB_UNCORR, F.MO_SLOT_REASON,
      F.MO_SLOT_SECVER, F.MO_SLOT_STATE, F.MO_STATUS_ACTIVE_DAMAGED, F.MO_STATUS_SINGLE_ERRS, F.MO_STATUS_STORE_ERR], []⟩
  | .cycleOpening .. => some ⟨[.out, .clk, .mo, .grps, .tp, .cm, .si, .fc, .host, .dma], [F.CM_LANE_CTL_BUSY, F.CM_LANE_CTL_RESULT,
      F.CM_LANE_STAT_CDR_LOCK, F.CM_LANE_STAT_LOOP, F.CM_LANE_STAT_LOOP_HOPS, F.CM_LANE_STAT_STATE, F.CM_LANE_STAT_TX_IDLE,
      F.FC_COND_COND, F.GL_READY_TRIPLEX, F.GP_MODE_DEGRADED, F.GP_MODE_STATUS_PENDING, F.GP_MODE_STATUS_RESULT,
      F.GP_MODE_STATUS_SP_VALID, F.GP_MODE_STATUS_TAG, F.GP_SPSRC_FALLBACK, F.GP_SPSRC_LOST, F.GP_SPSRC_RAISED, F.GP_SPSRC_USED,
      F.GP_SPSRC_VALUE, F.GP_SPSRC_WORD, F.GP_SP_ACTIVE_VALUE, F.GP_SP_LATCHED_CYCLE, F.GP_SP_STATUS_CLAMPED, F.GP_SP_STATUS_LATCHED_TAG,
      F.GP_SP_STATUS_PENDING, F.HC_IRQ_STAT_STAT, F.MO_CMD_BUSY, F.MO_LIVE_AT_HI_AT_HI, F.MO_LIVE_AT_LO_AT_LO, F.MO_LIVE_STATE,
      F.PL_CYCLE_NUMBER, F.PL_DWELL_CFG_DT_COMP, F.PL_DWELL_CFG_PULSE_MODE, F.PL_DWELL_CFG_T_DEAD, F.PL_DWELL_CFG_T_DWELL,
      F.PL_DWELL_CFG_T_MINP, F.PL_OPEN_HI_OPEN_HI, F.PL_OPEN_LO_OPEN_LO, F.PL_RANK_CFG_BAND, F.PL_RANK_CFG_ECHO_N,
      F.PL_RANK_CFG_REPORT_HOLD, F.PL_RANK_CFG_SWAP_MAX, F.PL_STATUS_RUNNING, F.SI_GO_IN_W0_VALUE_LO, F.SI_GO_IN_W1_VALUE_HI,
      F.SI_GO_IN_W2_VALID_LO, F.SI_GO_IN_W3_VALID_HI, F.TP_CH_STATE, F.TP_CMD_BUSY, F.TP_PROOF_RESULT, F.TP_PROOF_STATE, F.TP_PROOF_STEP,
      F.TP_STATE_DONOR, F.TP_STATE_FENCED, F.TP_STATE_IN_SERVICE, F.TP_STATE_RESYNC, F.TP_STATE_SIMPLEX_MS, F.TP_STATE_STATE], []⟩
  | .intakeCutoff .. => some ⟨[.clk, .grps, .si], [F.LM_RESULT_WORD, F.SI_SV_STAT_W0_AGE, F.SI_SV_VAL_W0_VALUE, F.SI_SV_VAL_W1_ALIGN,
      F.SI_SV_VAL_W1_FROZEN, F.SI_SV_VAL_W1_QUAL_BAD, F.SI_SV_VAL_W1_VALID], []⟩
  | .reportDeadline .. => some ⟨[.out, .clk, .grps, .chans, .cm, .fc, .sb, .host, .dma], [F.CM_CRS_CMD_BUSY, F.CM_CRS_DELIV_DELIV,
      F.CM_CRS_DELIV_WORST, F.CM_CRS_PT_FAILED, F.CM_CRS_STAT_FOUND, F.CM_CRS_STAT_IN_SERVICE, F.CM_CRS_STAT_STATE, F.CM_DIR_W0_EVQ,
      F.CM_DIR_W0_REASON, F.CM_DIR_W0_STATE, F.CM_LANE_STAT_CDR_LOCK, F.CM_LANE_STAT_STATE, F.CM_LANE_STAT_TX_IDLE,
      F.DM_CH_DETAIL_PTFAIL, F.FC_COND_COND, F.GL_PT_ERR_W0_COUNT, F.GL_PT_ERR_W0_STATUS, F.GL_PT_ERR_W1_ADDRESS, F.GP_ANGLE_ANGLE,
      F.GP_CIRC_IZ, F.GP_CIRC_IZREF, F.GP_COMP_ACTING, F.GP_COMP_SAT, F.GP_CURLIM_FORM_VIRT, F.GP_CURLIM_IMAX_ACTIVE,
      F.GP_CURLIM_LIMITED, F.GP_CURLIM_VOUT_SAT, F.GP_DCMEAS_IDC, F.GP_DCMEAS_VDC, F.GP_ENERGY_ETOT, F.GP_ENERGY_PDEM, F.GP_FEEDBACK_ALT,
      F.GP_FEEDBACK_DISAGREE, F.GP_FEEDBACK_HOLD, F.GP_FEEDBACK_LOST_RAISED, F.GP_FEEDBACK_VALID, F.GP_HARVEST_BEST_PBEST,
      F.GP_HARVEST_BEST_VBEST, F.GP_HARVEST_CMD_RESULT, F.GP_HARVEST_DIR, F.GP_HARVEST_FROZEN, F.GP_HARVEST_PB_FAIL, F.GP_HARVEST_STATE,
      F.GP_HARVEST_VTGT, F.GP_ISLAND_ACTION, F.GP_ISLAND_BLANKED, F.GP_ISLAND_CRITERIA, F.GP_ISLAND_DETECTED, F.GP_ISLAND_Z,
      F.GP_JUMP_SEAT, F.GP_LEG_DIFF, F.GP_LEG_ELEG, F.GP_PQ_P, F.GP_PQ_Q, F.GP_RIDE_COUNT, F.GP_RIDE_ENTRY_AC, F.GP_RIDE_ENTRY_DC,
      F.GP_RIDE_EXITING, F.GP_RIDE_REPEAT_BLOCK, F.GP_RIDE_TIME_ELAPSED, F.GP_RIDE_TRIP_CURVE, F.GP_RIDE_VPRE, F.GP_SYNC_FLYWHEEL,
      F.GP_SYNC_FORMING, F.GP_SYNC_FREQ, F.GP_SYNC_LOCKED, F.GP_VSEQ_VNEG, F.GP_VSEQ_VPOS, F.HC_IRQ_STAT_STAT, F.LM_RESULT_WORD,
      F.PL_ARM_COUNT_COUNT, F.PL_ARM_COUNT_FRAC, F.PL_ARM_CURRENT_IARM, F.PL_ARM_CURRENT_UREF, F.PL_ARM_ENERGY_EARM,
      F.PL_ARM_ENERGY_VBAR, F.PL_ARM_STATUS_ENERGY_RAISED, F.PL_ARM_STATUS_ILIM, F.PL_ARM_STATUS_OVER, F.PL_ARM_STATUS_OVM_RAISED,
      F.PL_ARM_STATUS_PRESENT, F.PL_ARM_STATUS_SIGN, F.PL_ARM_STATUS_TRIP_RAISED, F.PL_ARM_STATUS_UNDER, F.PL_ARM_STATUS_ZHOLD,
      F.PL_ARM_STATUS_ZREF_SAT, F.PL_CHOP_PDIS, F.PL_CHOP_STATE, F.PL_RANK_BOUND_BOUND, F.PL_RANK_BOUND_ON_LEN,
      F.PL_RANK_FAULTS_DISPUTED, F.PL_RANK_FAULTS_ECHO_BAD, F.PL_RANK_FAULTS_HELD, F.PL_RANK_FAULTS_PARKS,
      F.PL_RANK_STATUS_DISPUTE_RAISED, F.PL_RANK_STATUS_DROPPED, F.PL_RANK_STATUS_ECHO_RAISED, F.PL_RANK_STATUS_HOLES,
      F.PL_RANK_STATUS_NRANK, F.PL_RANK_STATUS_PARKED, F.PL_RANK_STATUS_SORTED, F.PL_RANK_STATUS_STRETCHED, F.PL_RANK_SWAPS_APPLIED,
      F.PL_RANK_SWAPS_DEFERRED, F.PL_STATUS_OVERFLOW, F.SB_COURSE_CAUSE, F.SB_COURSE_STATE], [(0x108000, 0x108008)]⟩
  | .stageComplete .. => some ⟨[.out, .chans, .cm, .fc, .dma], [F.FC_COND_COND, F.GP_ANGLE_ANGLE, F.GP_CIRC_IZ, F.GP_CIRC_IZREF,
      F.GP_COMP_ACTING, F.GP_COMP_SAT, F.GP_CURLIM_FORM_VIRT, F.GP_CURLIM_IMAX_ACTIVE, F.GP_CURLIM_LIMITED, F.GP_CURLIM_VOUT_SAT,
      F.GP_DCMEAS_IDC, F.GP_DCMEAS_VDC, F.GP_ENERGY_ETOT, F.GP_ENERGY_PDEM, F.GP_FEEDBACK_ALT, F.GP_FEEDBACK_DISAGREE,
      F.GP_FEEDBACK_HOLD, F.GP_FEEDBACK_LOST_RAISED, F.GP_FEEDBACK_VALID, F.GP_HARVEST_BEST_PBEST, F.GP_HARVEST_BEST_VBEST,
      F.GP_HARVEST_CMD_RESULT, F.GP_HARVEST_DIR, F.GP_HARVEST_FROZEN, F.GP_HARVEST_STATE, F.GP_HARVEST_VTGT, F.GP_ISLAND_ACTION,
      F.GP_ISLAND_BLANKED, F.GP_ISLAND_CRITERIA, F.GP_ISLAND_DETECTED, F.GP_ISLAND_Z, F.GP_JUMP_SEAT, F.GP_LEG_DIFF, F.GP_LEG_ELEG,
      F.GP_PQ_P, F.GP_PQ_Q, F.GP_RIDE_COUNT, F.GP_RIDE_ENTRY_AC, F.GP_RIDE_ENTRY_DC, F.GP_RIDE_EXITING, F.GP_RIDE_REPEAT_BLOCK,
      F.GP_RIDE_TIME_ELAPSED, F.GP_RIDE_TRIP_CURVE, F.GP_RIDE_VPRE, F.GP_SYNC_FLYWHEEL, F.GP_SYNC_FORMING, F.GP_SYNC_FREQ,
      F.GP_SYNC_LOCKED, F.GP_VSEQ_VNEG, F.GP_VSEQ_VPOS, F.PL_ARM_COUNT_COUNT, F.PL_ARM_COUNT_FRAC, F.PL_ARM_CURRENT_IARM,
      F.PL_ARM_CURRENT_UREF, F.PL_ARM_ENERGY_EARM, F.PL_ARM_ENERGY_VBAR, F.PL_ARM_STATUS_ENERGY_RAISED, F.PL_ARM_STATUS_ILIM,
      F.PL_ARM_STATUS_OVER, F.PL_ARM_STATUS_OVM_RAISED, F.PL_ARM_STATUS_PRESENT, F.PL_ARM_STATUS_SIGN, F.PL_ARM_STATUS_TRIP_RAISED,
      F.PL_ARM_STATUS_UNDER, F.PL_ARM_STATUS_ZHOLD, F.PL_ARM_STATUS_ZREF_SAT, F.PL_CHOP_PDIS, F.PL_CHOP_STATE, F.PL_RANK_BOUND_BOUND,
      F.PL_RANK_BOUND_ON_LEN, F.PL_RANK_FAULTS_PARKS, F.PL_RANK_STATUS_DISPUTE_RAISED, F.PL_RANK_STATUS_DROPPED,
      F.PL_RANK_STATUS_ECHO_RAISED, F.PL_RANK_STATUS_HOLES, F.PL_RANK_STATUS_NRANK, F.PL_RANK_STATUS_PARKED, F.PL_RANK_STATUS_SORTED,
      F.PL_RANK_STATUS_STRETCHED, F.PL_RANK_SWAPS_APPLIED, F.PL_RANK_SWAPS_DEFERRED], []⟩
  | .frameSetComplete .. => some ⟨[.out, .store, .chans, .tp, .cm, .fc, .dma], [F.FC_COND_COND, F.GL_READY_TRIPLEX, F.GP_ANGLE_ANGLE,
      F.GP_CIRC_IZ, F.GP_CIRC_IZREF, F.GP_COMP_ACTING, F.GP_COMP_SAT, F.GP_CURLIM_FORM_VIRT, F.GP_CURLIM_IMAX_ACTIVE,
      F.GP_CURLIM_LIMITED, F.GP_CURLIM_VOUT_SAT, F.GP_DCMEAS_IDC, F.GP_DCMEAS_VDC, F.GP_ENERGY_ETOT, F.GP_ENERGY_PDEM, F.GP_FEEDBACK_ALT,
      F.GP_FEEDBACK_DISAGREE, F.GP_FEEDBACK_HOLD, F.GP_FEEDBACK_LOST_RAISED, F.GP_FEEDBACK_VALID, F.GP_HARVEST_BEST_PBEST,
      F.GP_HARVEST_BEST_VBEST, F.GP_HARVEST_CMD_RESULT, F.GP_HARVEST_DIR, F.GP_HARVEST_FROZEN, F.GP_HARVEST_STATE, F.GP_HARVEST_VTGT,
      F.GP_ISLAND_ACTION, F.GP_ISLAND_BLANKED, F.GP_ISLAND_CRITERIA, F.GP_ISLAND_DETECTED, F.GP_ISLAND_Z, F.GP_JUMP_SEAT, F.GP_LEG_DIFF,
      F.GP_LEG_ELEG, F.GP_PQ_P, F.GP_PQ_Q, F.GP_RIDE_COUNT, F.GP_RIDE_ENTRY_AC, F.GP_RIDE_ENTRY_DC, F.GP_RIDE_EXITING,
      F.GP_RIDE_REPEAT_BLOCK, F.GP_RIDE_TIME_ELAPSED, F.GP_RIDE_TRIP_CURVE, F.GP_RIDE_VPRE, F.GP_SYNC_FLYWHEEL, F.GP_SYNC_FORMING,
      F.GP_SYNC_FREQ, F.GP_SYNC_LOCKED, F.GP_VSEQ_VNEG, F.GP_VSEQ_VPOS, F.MO_JOURNAL_FILL, F.MO_JOURNAL_PENDING, F.PL_ARM_COUNT_COUNT,
      F.PL_ARM_COUNT_FRAC, F.PL_ARM_CURRENT_IARM, F.PL_ARM_CURRENT_UREF, F.PL_ARM_ENERGY_EARM, F.PL_ARM_ENERGY_VBAR,
      F.PL_ARM_STATUS_ENERGY_RAISED, F.PL_ARM_STATUS_ILIM, F.PL_ARM_STATUS_OVER, F.PL_ARM_STATUS_OVM_RAISED, F.PL_ARM_STATUS_PRESENT,
      F.PL_ARM_STATUS_SIGN, F.PL_ARM_STATUS_TRIP_RAISED, F.PL_ARM_STATUS_UNDER, F.PL_ARM_STATUS_ZHOLD, F.PL_ARM_STATUS_ZREF_SAT,
      F.PL_CHOP_PDIS, F.PL_CHOP_STATE, F.PL_RANK_BOUND_BOUND, F.PL_RANK_BOUND_ON_LEN, F.PL_RANK_FAULTS_PARKS,
      F.PL_RANK_STATUS_DISPUTE_RAISED, F.PL_RANK_STATUS_DROPPED, F.PL_RANK_STATUS_ECHO_RAISED, F.PL_RANK_STATUS_HOLES,
      F.PL_RANK_STATUS_NRANK, F.PL_RANK_STATUS_PARKED, F.PL_RANK_STATUS_SORTED, F.PL_RANK_STATUS_STRETCHED, F.PL_RANK_SWAPS_APPLIED,
      F.PL_RANK_SWAPS_DEFERRED, F.PL_SLACK_LAST, F.PL_SLACK_WMIN, F.PL_STATUS_CONSEC, F.TP_CH_CAUSE, F.TP_CH_FENCES, F.TP_CH_SHADOW,
      F.TP_CH_STATE, F.TP_CH_STRIKES, F.TP_CMD_BUSY, F.TP_PROOF_RESULT, F.TP_PROOF_STATE, F.TP_PROOF_STEP, F.TP_STATE_DONOR,
      F.TP_STATE_FENCED, F.TP_STATE_IN_SERVICE, F.TP_STATE_RESYNC, F.TP_STATE_SIMPLEX_MS, F.TP_STATE_STATE, F.TP_VOTE_LATE,
      F.TP_VOTE_LATE_RUN, F.TP_VOTE_MINORITY], []⟩
  | .voterCutoff .. => some ⟨[.out, .clk, .store, .chans, .tp, .cm, .fc], [F.FC_COND_COND, F.GL_READY_TRIPLEX, F.MO_JOURNAL_FILL,
      F.MO_JOURNAL_PENDING, F.PL_MISSES_COUNT, F.PL_SLACK_LAST, F.PL_SLACK_WMIN, F.PL_STATUS_CONSEC, F.PL_STATUS_MISSED, F.TP_CH_CAUSE,
      F.TP_CH_FENCES, F.TP_CH_SHADOW, F.TP_CH_STATE, F.TP_CH_STRIKES, F.TP_CMD_BUSY, F.TP_PROOF_RESULT, F.TP_PROOF_STATE,
      F.TP_PROOF_STEP, F.TP_STATE_DONOR, F.TP_STATE_FENCED, F.TP_STATE_IN_SERVICE, F.TP_STATE_RESYNC, F.TP_STATE_SIMPLEX_MS,
      F.TP_STATE_STATE, F.TP_VOTE_DEV_BRIDGED, F.TP_VOTE_DEV_NO_MAJORITY, F.TP_VOTE_LATE_RUN, F.TP_VOTE_MINORITY], []⟩
  | .emissionDeadline .. => some ⟨[.out, .clk, .store, .grps, .chans, .tp, .cm, .fc, .host, .dma], [F.FC_COND_COND, F.GP_ANGLE_ANGLE,
      F.GP_CIRC_IZ, F.GP_CIRC_IZREF, F.GP_COMP_ACTING, F.GP_COMP_SAT, F.GP_CURLIM_FORM_VIRT, F.GP_CURLIM_IMAX_ACTIVE,
      F.GP_CURLIM_LIMITED, F.GP_CURLIM_VOUT_SAT, F.GP_DCMEAS_IDC, F.GP_DCMEAS_VDC, F.GP_ENERGY_ETOT, F.GP_ENERGY_PDEM, F.GP_FEEDBACK_ALT,
      F.GP_FEEDBACK_DISAGREE, F.GP_FEEDBACK_HOLD, F.GP_FEEDBACK_LOST_RAISED, F.GP_FEEDBACK_VALID, F.GP_HANDOVER_DIFF,
      F.GP_HANDOVER_FADE_LEFT, F.GP_HARVEST_BEST_PBEST, F.GP_HARVEST_BEST_VBEST, F.GP_HARVEST_CMD_RESULT, F.GP_HARVEST_DIR,
      F.GP_HARVEST_FROZEN, F.GP_HARVEST_STATE, F.GP_HARVEST_VTGT, F.GP_ISLAND_ACTION, F.GP_ISLAND_BLANKED, F.GP_ISLAND_CRITERIA,
      F.GP_ISLAND_DETECTED, F.GP_ISLAND_Z, F.GP_JUMP_SEAT, F.GP_LEG_DIFF, F.GP_LEG_ELEG, F.GP_LINETEST_OUTCOME, F.GP_LINETEST_PEAK,
      F.GP_MODE_CAUSE, F.GP_MODE_DEBLOCKED, F.GP_MODE_FADING, F.GP_MODE_MODE, F.GP_MODE_PREV, F.GP_MODE_RETURN, F.GP_MODE_SINCE_CYCLE,
      F.GP_MODE_STATUS_RESULT, F.GP_MODE_STATUS_TAG, F.GP_MODE_SWITCHING, F.GP_PQ_P, F.GP_PQ_Q, F.GP_PRECOND_BRICKS_OK,
      F.GP_PRECOND_DC_BAND_OK, F.GP_PRECOND_DEAD_BUS, F.GP_PRECOND_ENERGY_OK, F.GP_PRECOND_FAULT_CLEAR, F.GP_PRECOND_INTERLOCK_OK,
      F.GP_PRECOND_LEAD_OK, F.GP_PRECOND_LINE_RESIDUAL_OK, F.GP_PRECOND_PV_WINDOW_OK, F.GP_PRECOND_SAFETY_OK, F.GP_PRECOND_SPREAD_OK,
      F.GP_PRECOND_SP_VALID, F.GP_PRECOND_SYNC_LOCKED, F.GP_PRECOND_TRIPLEX_OK, F.GP_RIDE_COUNT, F.GP_RIDE_ENTRY_AC, F.GP_RIDE_ENTRY_DC,
      F.GP_RIDE_EXITING, F.GP_RIDE_REPEAT_BLOCK, F.GP_RIDE_TIME_ELAPSED, F.GP_RIDE_TRIP_CURVE, F.GP_RIDE_VPRE, F.GP_SYNC_FLYWHEEL,
      F.GP_SYNC_FORMING, F.GP_SYNC_FREQ, F.GP_SYNC_LOCKED, F.GP_VSEQ_VNEG, F.GP_VSEQ_VPOS, F.HC_IRQ_STAT_STAT, F.MO_JOURNAL_FILL,
      F.MO_JOURNAL_PENDING, F.PL_ARM_COUNT_COUNT, F.PL_ARM_COUNT_FRAC, F.PL_ARM_CURRENT_IARM, F.PL_ARM_CURRENT_UREF,
      F.PL_ARM_ENERGY_EARM, F.PL_ARM_ENERGY_VBAR, F.PL_ARM_STATUS_ENERGY_RAISED, F.PL_ARM_STATUS_ILIM, F.PL_ARM_STATUS_OVER,
      F.PL_ARM_STATUS_OVM_RAISED, F.PL_ARM_STATUS_PRESENT, F.PL_ARM_STATUS_SIGN, F.PL_ARM_STATUS_TRIP_RAISED, F.PL_ARM_STATUS_UNDER,
      F.PL_ARM_STATUS_ZHOLD, F.PL_ARM_STATUS_ZREF_SAT, F.PL_CHOP_PDIS, F.PL_CHOP_STATE, F.PL_RANK_BOUND_BOUND, F.PL_RANK_BOUND_ON_LEN,
      F.PL_RANK_FAULTS_PARKS, F.PL_RANK_STATUS_DISPUTE_RAISED, F.PL_RANK_STATUS_DROPPED, F.PL_RANK_STATUS_ECHO_RAISED,
      F.PL_RANK_STATUS_HOLES, F.PL_RANK_STATUS_NRANK, F.PL_RANK_STATUS_PARKED, F.PL_RANK_STATUS_SORTED, F.PL_RANK_STATUS_STRETCHED,
      F.PL_RANK_SWAPS_APPLIED, F.PL_RANK_SWAPS_DEFERRED, F.TP_CH_SHADOW], []⟩
  | .slackWindowEnd .. => some ⟨[.out, .tp, .pm], [F.GL_VCORE_CMD, F.GL_VCORE_DOWNS, F.GL_VCORE_UPS], []⟩
  | .vadaptEnable .. => some ⟨[.out, .store, .pm], refusalFlds ++ [F.GL_VADAPT_DOWN_ABOVE, F.GL_VADAPT_EN, F.GL_VADAPT_UP_BELOW,
      F.MO_JOURNAL_FILL, F.MO_JOURNAL_PENDING], []⟩
  | .pmbusWriteResult .. => some ⟨[.out, .fc, .pm], [F.FC_COND_COND, F.GL_VCORE_CMD, F.GL_VCORE_FAIL], []⟩
  | .setpointCommit .. => some ⟨[.grps], refusalFlds ++ [F.GP_SP_STATUS_BAD_WORD, F.GP_SP_STATUS_PENDING, F.GP_SP_STATUS_RESULT,
      F.GP_SP_STATUS_SUPERSEDED], []⟩
  | .modeCommand .. => some ⟨[.grps], refusalFlds ++ [F.GP_MODE_STATUS_PENDING, F.GP_MODE_STATUS_RESULT, F.GP_MODE_STATUS_TAG,
      F.GP_REFUSALS_COUNT], []⟩
  | .dischargeTimeout .. | .lineTestHoldEnd .. | .syncLock .. | .syncUnlock .. | .flywheelClear .. | .feedbackHoldExpiry ..
  | .feedbackPrimaryReturn .. | .feedbackDisagreement .. | .rideEntry .. | .rideCurveTrip .. | .rideTmax .. | .rideExit ..
  | .angleSeat .. | .islandingDetected .. | .islandingPulse .. | .harvestTrackStep .. | .harvestScanPeriod .. | .harvestScanEnd ..
  | .armEnergyFault .. | .overmodulationFault .. => some ⟨[.out, .chans, .cm, .fc, .dma], [F.FC_COND_COND, F.GP_FEEDBACK_DISAGREE,
      F.GP_FEEDBACK_LOST_RAISED, F.GP_HARVEST_BEST_PBEST, F.GP_HARVEST_BEST_VBEST, F.GP_HARVEST_CMD_RESULT,
      F.PL_ARM_STATUS_ENERGY_RAISED, F.PL_ARM_STATUS_OVM_RAISED, F.PL_ARM_STATUS_TRIP_RAISED], []⟩
  | .fadeEnd .. => some ⟨[.out, .chans, .cm, .fc, .dma], [F.FC_COND_COND, F.GP_FEEDBACK_DISAGREE, F.GP_FEEDBACK_LOST_RAISED,
      F.GP_HARVEST_BEST_PBEST, F.GP_HARVEST_BEST_VBEST, F.GP_HARVEST_CMD_RESULT, F.GP_MODE_FADING, F.PL_ARM_STATUS_ENERGY_RAISED,
      F.PL_ARM_STATUS_OVM_RAISED, F.PL_ARM_STATUS_TRIP_RAISED], []⟩
  | .setpointSourceLoss .. => some ⟨[.grps, .fc], [F.FC_COND_COND, F.GP_SPSRC_FALLBACK, F.GP_SPSRC_LOST, F.GP_SPSRC_RAISED,
      F.GP_SPSRC_VALUE], []⟩
  | .setpointSourceReturn .. => some ⟨[.grps, .fc], [F.FC_COND_COND, F.GP_SPSRC_FALLBACK, F.GP_SPSRC_LOST, F.GP_SPSRC_VALUE], []⟩
  | .harvestScan .. => some ⟨[.out, .grps, .cm, .dma], refusalFlds ++ [F.GP_HARVEST_CMD_RESULT], []⟩
  | .brickAbsent .. => some ⟨[.chans, .fc], [F.PL_RANK_FAULTS_PARKS, F.PL_RANK_STATUS_DISPUTE_RAISED], []⟩
  | .echoPark .. => some ⟨[.chans, .fc], [F.PL_RANK_FAULTS_PARKS, F.PL_RANK_STATUS_ECHO_RAISED], []⟩
  | .admissionFail .. => some ⟨[.chans, .cm], [F.CM_CRS_STAT_FOUND, F.CM_CRS_STAT_IN_SERVICE, F.CM_DIR_W0_REASON, F.CM_DIR_W0_STATE], []⟩
  | .lpllLock .. => some ⟨[.out, .cm, .fc], [F.CM_LANE_STAT_CDR_LOCK, F.CM_LANE_STAT_STATE, F.CM_LANE_STAT_TX_IDLE, F.FC_COND_COND,
      F.TB_LPLL_STAT_LOCKED], []⟩
  | .lpllLockLoss .. => some ⟨[.out, .cm, .fc, .host, .dma], [F.CM_CRS_DELIV_DELIV, F.CM_CRS_DELIV_WORST, F.CM_CRS_PT_FAILED,
      F.CM_CRS_STAT_FOUND, F.CM_CRS_STAT_F_WORKING, F.CM_CRS_STAT_H_WORKING, F.CM_CRS_STAT_IN_SERVICE, F.CM_CRS_STAT_STATE,
      F.CM_DIR_W0_EVQ, F.CM_DIR_W0_REASON, F.CM_DIR_W0_STATE, F.CM_LANE_CTL_BUSY, F.CM_LANE_CTL_RESULT, F.CM_LANE_STAT_CDR_LOCK,
      F.CM_LANE_STAT_LOOP, F.CM_LANE_STAT_LOOP_HOPS, F.CM_LANE_STAT_STATE, F.CM_LANE_STAT_TX_IDLE, F.DM_CH_DETAIL_PTFAIL, F.FC_COND_COND,
      F.GL_PT_ERR_W0_COUNT, F.GL_PT_ERR_W0_STATUS, F.GL_PT_ERR_W1_ADDRESS, F.GP_HARVEST_PB_FAIL, F.HC_IRQ_STAT_STAT,
      F.TB_LPLL_STAT_LOCKED, F.TB_LPLL_STAT_LOSSES, F.TB_LPLL_STAT_LOST], []⟩
  | .signalDetected .. => some ⟨[.cm], [F.CM_LANE_STAT_CDR_LOCK, F.CM_LANE_STAT_RX_SIGNAL, F.CM_LANE_STAT_STATE], []⟩
  | .electricalIdleDetected .. => some ⟨[.out, .cm, .fc, .host, .dma], [F.CM_CRS_DELIV_DELIV, F.CM_CRS_DELIV_WORST, F.CM_CRS_PT_FAILED,
      F.CM_CRS_STAT_FOUND, F.CM_CRS_STAT_F_WORKING, F.CM_CRS_STAT_H_WORKING, F.CM_CRS_STAT_IN_SERVICE, F.CM_CRS_STAT_STATE,
      F.CM_DIR_W0_EVQ, F.CM_DIR_W0_REASON, F.CM_DIR_W0_STATE, F.CM_LANE_STAT_CDR_LOCK, F.CM_LANE_STAT_RX_SIGNAL, F.CM_LANE_STAT_STATE,
      F.DM_CH_DETAIL_PTFAIL, F.GL_PT_ERR_W0_COUNT, F.GL_PT_ERR_W0_STATUS, F.GL_PT_ERR_W1_ADDRESS, F.GP_HARVEST_PB_FAIL,
      F.HC_IRQ_STAT_STAT], []⟩
  | .commaReceived .. => some ⟨[.out, .cm, .fc, .host, .dma], [F.CM_CRS_DELIV_DELIV, F.CM_CRS_DELIV_WORST, F.CM_CRS_PT_FAILED,
      F.CM_CRS_STAT_FOUND, F.CM_CRS_STAT_F_WORKING, F.CM_CRS_STAT_H_WORKING, F.CM_CRS_STAT_IN_SERVICE, F.CM_CRS_STAT_STATE,
      F.CM_DIR_W0_EVQ, F.CM_DIR_W0_REASON, F.CM_DIR_W0_STATE, F.CM_LANE_ERR_ALIGN_LOSS, F.CM_LANE_ERR_COMMA, F.CM_LANE_ERR_RUN,
      F.CM_LANE_ERR_SPACING, F.CM_LANE_LOOP_BITERR, F.CM_LANE_STAT_CDR_LOCK, F.CM_LANE_STAT_EIDLE_SEEN, F.CM_LANE_STAT_STATE,
      F.DM_CH_DETAIL_PTFAIL, F.GL_PT_ERR_W0_COUNT, F.GL_PT_ERR_W0_STATUS, F.GL_PT_ERR_W1_ADDRESS, F.GP_HARVEST_PB_FAIL,
      F.HC_IRQ_STAT_STAT], []⟩
  | .transmitEidle .. => some ⟨[.out, .cm], [F.CM_LANE_STAT_CDR_LOCK, F.CM_LANE_STAT_STATE, F.CM_LANE_STAT_TX_IDLE], []⟩
  | .wakeSequenceEnd .. => some ⟨[.out, .cm], [F.CM_LANE_STAT_CDR_LOCK, F.CM_LANE_STAT_STATE], []⟩
  | .loopNearSerial .. | .loopNearParallel .. | .holdIdle .. => some ⟨[.out, .cm, .fc, .host, .dma], refusalFlds ++
      [F.CM_CRS_DELIV_DELIV, F.CM_CRS_DELIV_WORST, F.CM_CRS_PT_FAILED, F.CM_CRS_STAT_FOUND, F.CM_CRS_STAT_F_WORKING,
      F.CM_CRS_STAT_H_WORKING, F.CM_CRS_STAT_IN_SERVICE, F.CM_CRS_STAT_STATE, F.CM_DIR_W0_EVQ, F.CM_DIR_W0_REASON, F.CM_DIR_W0_STATE,
      F.CM_LANE_CTL_RESULT, F.CM_LANE_STAT_CDR_LOCK, F.CM_LANE_STAT_LOOP, F.CM_LANE_STAT_STATE, F.CM_LANE_STAT_TX_IDLE,
      F.DM_CH_DETAIL_PTFAIL, F.GL_PT_ERR_W0_COUNT, F.GL_PT_ERR_W0_STATUS, F.GL_PT_ERR_W1_ADDRESS, F.GP_HARVEST_PB_FAIL,
      F.HC_IRQ_STAT_STAT], []⟩
  | .loopFarEnd .. => some ⟨[.out, .cm, .fc, .host, .dma], refusalFlds ++ [F.CM_CRS_DELIV_DELIV, F.CM_CRS_DELIV_WORST,
      F.CM_CRS_PT_FAILED, F.CM_CRS_STAT_FOUND, F.CM_CRS_STAT_F_WORKING, F.CM_CRS_STAT_H_WORKING, F.CM_CRS_STAT_IN_SERVICE,
      F.CM_CRS_STAT_STATE, F.CM_DIR_W0_EVQ, F.CM_DIR_W0_REASON, F.CM_DIR_W0_STATE, F.CM_LANE_CTL_BUSY, F.CM_LANE_CTL_RESULT,
      F.CM_LANE_STAT_CDR_LOCK, F.CM_LANE_STAT_LOOP, F.CM_LANE_STAT_LOOP_HOPS, F.CM_LANE_STAT_STATE, F.CM_LANE_STAT_TX_IDLE,
      F.DM_CH_DETAIL_PTFAIL, F.GL_PT_ERR_W0_COUNT, F.GL_PT_ERR_W0_STATUS, F.GL_PT_ERR_W1_ADDRESS, F.GP_HARVEST_PB_FAIL,
      F.HC_IRQ_STAT_STAT], []⟩
  | .loopEnd .. => some ⟨[.out, .cm], refusalFlds ++ [F.CM_LANE_CTL_BUSY, F.CM_LANE_CTL_RESULT, F.CM_LANE_STAT_CDR_LOCK,
      F.CM_LANE_STAT_LOOP, F.CM_LANE_STAT_LOOP_HOPS, F.CM_LANE_STAT_STATE, F.CM_LANE_STAT_TX_IDLE], []⟩
  | .loopWordSend .. | .timeMarkSend .. => some ⟨[.out, .cm], [], []⟩
  | .loopConfirm .. => some ⟨[.cm], [F.CM_LANE_CTL_BUSY, F.CM_LANE_LOOP_RT], []⟩
  | .loopNoAnswer .. => some ⟨[.out, .cm], [F.CM_LANE_CTL_BUSY, F.CM_LANE_CTL_RESULT, F.CM_LANE_STAT_CDR_LOCK, F.CM_LANE_STAT_LOOP,
      F.CM_LANE_STAT_LOOP_HOPS, F.CM_LANE_STAT_STATE, F.CM_LANE_STAT_TX_IDLE], []⟩
  | .reportReceived .. => some ⟨[.out, .cm, .fc, .host, .dma], [F.CM_DIR_W0_EVQ, F.CM_FRM_ERR_CRC, F.CM_FRM_ERR_CUT, F.CM_FRM_ERR_TYPE,
      F.CM_FRM_REP_AFTER_DR, F.CM_FRM_REP_LAST, F.HC_IRQ_STAT_STAT, F.PL_RANK_FAULTS_DUPLICATE, F.SB_COURSE_CAUSE, F.SB_COURSE_STATE],
      []⟩
  | .timeMarkReceived .. => some ⟨[.out, .cm, .fc, .host, .dma], [F.CM_CRS_DELIV_DELIV, F.CM_CRS_DELIV_WORST, F.CM_CRS_PT_FAILED,
      F.CM_CRS_STAT_FOUND, F.CM_CRS_STAT_F_WORKING, F.CM_CRS_STAT_H_WORKING, F.CM_CRS_STAT_IN_SERVICE, F.CM_CRS_STAT_STATE,
      F.CM_DIR_W0_EVQ, F.CM_DIR_W0_REASON, F.CM_DIR_W0_STATE, F.CM_FRM_RING_TRANSIT, F.DM_CH_DETAIL_PTFAIL, F.GL_PT_ERR_W0_COUNT,
      F.GL_PT_ERR_W0_STATUS, F.GL_PT_ERR_W1_ADDRESS, F.GP_HARVEST_PB_FAIL, F.HC_IRQ_STAT_STAT], []⟩
  | .ownFrameReturn .. => some ⟨[.out, .cm, .fc, .host, .dma], [F.CM_CRS_DELIV_DELIV, F.CM_CRS_DELIV_WORST, F.CM_CRS_PT_FAILED,
      F.CM_CRS_STAT_FOUND, F.CM_CRS_STAT_F_WORKING, F.CM_CRS_STAT_H_WORKING, F.CM_CRS_STAT_IN_SERVICE, F.CM_CRS_STAT_STATE,
      F.CM_DIR_W0_EVQ, F.CM_DIR_W0_REASON, F.CM_DIR_W0_STATE, F.CM_FRM_ERR_CRC, F.CM_FRM_ERR_CUT, F.CM_FRM_ERR_OWN_BAD,
      F.CM_FRM_ERR_TYPE, F.DM_CH_DETAIL_PTFAIL, F.GL_PT_ERR_W0_COUNT, F.GL_PT_ERR_W0_STATUS, F.GL_PT_ERR_W1_ADDRESS,
      F.GP_HARVEST_PB_FAIL, F.HC_IRQ_STAT_STAT], []⟩
  | .pointReplyReceived .. => some ⟨[.out, .cm, .fc, .sb, .host, .dma], [F.CM_CRS_PT_DONE, F.CM_CRS_PT_FAILED, F.CM_DIR_W0_EVENTS,
      F.CM_DIR_W0_EVQ, F.CM_FRM_ERR_CRC, F.CM_FRM_ERR_CUT, F.CM_FRM_ERR_TYPE, F.DM_CH_DETAIL_PTFAIL, F.GL_PT_ERR_W0_COUNT,
      F.GL_PT_ERR_W0_STATUS, F.GL_PT_ERR_W1_ADDRESS, F.GP_HARVEST_PB_FAIL, F.HC_IRQ_STAT_STAT, F.SB_COURSE_SENT], []⟩
  | .discoverReplyReceived .. => some ⟨[.out, .cm, .dma], [F.CM_CRS_DELIV_DELIV, F.CM_CRS_DELIV_WORST, F.CM_CRS_STAT_FOUND,
      F.CM_CRS_STAT_IN_SERVICE, F.CM_DIR_W0_EVENTS, F.CM_DIR_W0_EVQ, F.CM_DIR_W0_FROM_F, F.CM_DIR_W0_FROM_H, F.CM_DIR_W0_KIND,
      F.CM_DIR_W0_REASON, F.CM_DIR_W0_STATE, F.CM_DIR_W1_UID_LO, F.CM_DIR_W2_UID_HI, F.CM_DIR_W3_LAT_F, F.CM_DIR_W3_LAT_H,
      F.CM_FRM_ERR_CRC, F.CM_FRM_ERR_CUT, F.CM_FRM_ERR_TYPE], []⟩
  | .discoverTimeout .. => some ⟨[.out, .cm, .dma], [F.CM_CRS_DELIV_DELIV, F.CM_CRS_DELIV_WORST, F.CM_CRS_STAT_FOUND,
      F.CM_CRS_STAT_IN_SERVICE, F.CM_DIR_W0_EVENTS, F.CM_DIR_W0_EVQ, F.CM_DIR_W0_FROM_F, F.CM_DIR_W0_FROM_H, F.CM_DIR_W0_KIND,
      F.CM_DIR_W0_REASON, F.CM_DIR_W0_STATE, F.CM_DIR_W1_UID_LO, F.CM_DIR_W2_UID_HI, F.CM_DIR_W3_LAT_F, F.CM_DIR_W3_LAT_H], []⟩
  | .probeReplyReceived .. => some ⟨[.out, .cm, .dma], [F.CM_CRS_DELIV_DELIV, F.CM_CRS_DELIV_WORST, F.CM_CRS_MEAS_ROUNDS,
      F.CM_DIR_W0_FROM_F, F.CM_DIR_W0_FROM_H, F.CM_DIR_W3_LAT_F, F.CM_DIR_W3_LAT_H, F.CM_FRM_ERR_CRC, F.CM_FRM_ERR_CUT,
      F.CM_FRM_ERR_TYPE], []⟩
  | .transactionWindowOpen .. => some ⟨[.out, .cm, .dma], [F.CM_CRS_DELIV_DELIV, F.CM_CRS_DELIV_WORST, F.CM_CRS_MEAS_ROUNDS,
      F.CM_DIR_W0_FROM_F, F.CM_DIR_W0_FROM_H, F.CM_DIR_W3_LAT_F, F.CM_DIR_W3_LAT_H], []⟩
  | .courseEndWorking .. => some ⟨[.out, .cm, .fc, .host, .dma], [F.CM_CRS_DELIV_DELIV, F.CM_CRS_DELIV_WORST, F.CM_CRS_PT_FAILED,
      F.CM_CRS_STAT_FOUND, F.CM_CRS_STAT_F_WORKING, F.CM_CRS_STAT_H_WORKING, F.CM_CRS_STAT_IN_SERVICE, F.CM_CRS_STAT_STATE,
      F.CM_DIR_W0_EVQ, F.CM_DIR_W0_REASON, F.CM_DIR_W0_STATE, F.DM_CH_DETAIL_PTFAIL, F.GL_PT_ERR_W0_COUNT, F.GL_PT_ERR_W0_STATUS,
      F.GL_PT_ERR_W1_ADDRESS, F.GP_HARVEST_PB_FAIL, F.HC_IRQ_STAT_STAT], []⟩
  | .courseSplit .. => some ⟨[.out, .cm, .fc, .host, .dma], [F.CM_CRS_DELIV_DELIV, F.CM_CRS_DELIV_WORST, F.CM_CRS_PT_FAILED,
      F.CM_CRS_STAT_FOUND, F.CM_CRS_STAT_IN_SERVICE, F.CM_CRS_STAT_STATE, F.CM_DIR_W0_EVQ, F.CM_DIR_W0_REASON, F.CM_DIR_W0_STATE,
      F.DM_CH_DETAIL_PTFAIL, F.GL_PT_ERR_W0_COUNT, F.GL_PT_ERR_W0_STATUS, F.GL_PT_ERR_W1_ADDRESS, F.GP_HARVEST_PB_FAIL,
      F.HC_IRQ_STAT_STAT], []⟩
  | .discoveryComplete .. => some ⟨[.out, .cm, .fc, .host, .dma], [F.CM_CRS_DELIV_DELIV, F.CM_CRS_DELIV_WORST, F.CM_CRS_PT_FAILED,
      F.CM_CRS_STAT_FOUND, F.CM_CRS_STAT_IN_SERVICE, F.CM_CRS_STAT_STATE, F.CM_DIR_W0_EVQ, F.CM_DIR_W0_REASON, F.CM_DIR_W0_STATE,
      F.CM_LANE_STAT_CDR_LOCK, F.CM_LANE_STAT_STATE, F.CM_LANE_STAT_TX_IDLE, F.DM_CH_DETAIL_PTFAIL, F.GL_PT_ERR_W0_COUNT,
      F.GL_PT_ERR_W0_STATUS, F.GL_PT_ERR_W1_ADDRESS, F.GL_READY_LANE_L0, F.GL_READY_LANE_L1, F.GP_HARVEST_PB_FAIL, F.HC_IRQ_STAT_STAT],
      []⟩
  | .brickCheckComplete .. => some ⟨[.cm], [F.CM_CRS_STAT_FOUND, F.CM_CRS_STAT_IN_SERVICE, F.CM_DIR_W0_REASON, F.CM_DIR_W0_STATE], []⟩
  | .admitCmd .. | .remove .. | .rediscover .. | .measure .. => some ⟨[.out, .cm, .fc, .host, .dma], refusalFlds ++ [F.CM_CRS_CMD_BUSY,
      F.CM_CRS_CMD_RESULT, F.CM_CRS_DELIV_DELIV, F.CM_CRS_DELIV_WORST, F.CM_CRS_PT_FAILED, F.CM_CRS_STAT_FOUND, F.CM_CRS_STAT_IN_SERVICE,
      F.CM_CRS_STAT_STATE, F.CM_DIR_W0_EVQ, F.CM_DIR_W0_REASON, F.CM_DIR_W0_STATE, F.CM_LANE_STAT_CDR_LOCK, F.CM_LANE_STAT_STATE,
      F.CM_LANE_STAT_TX_IDLE, F.DM_CH_DETAIL_PTFAIL, F.GL_PT_ERR_W0_COUNT, F.GL_PT_ERR_W0_STATUS, F.GL_PT_ERR_W1_ADDRESS,
      F.GP_HARVEST_PB_FAIL, F.HC_IRQ_STAT_STAT], []⟩
  | .measurePeriod .. => some ⟨[.out, .cm, .dma], [], []⟩
  | .automaticAdmission .. => some ⟨[.chans, .cm], [F.CM_CRS_DELIV_DELIV, F.CM_CRS_DELIV_WORST, F.CM_CRS_STAT_FOUND,
      F.CM_CRS_STAT_IN_SERVICE, F.CM_DIR_W0_STATE], []⟩
  | .pointRead .. => some ⟨[.out, .cm, .host, .dma], refusalFlds ++ [F.CM_CRS_PT_FAILED, F.CM_DIR_W0_EVQ, F.DM_CH_DETAIL_PTFAIL,
      F.GL_PT_ERR_W0_COUNT, F.GL_PT_ERR_W0_STATUS, F.GL_PT_ERR_W1_ADDRESS, F.GP_HARVEST_PB_FAIL, F.HC_IRQ_STAT_STAT], []⟩
  | .pointWrite .. => some ⟨[.out, .cm, .host, .dma], refusalFlds ++ [F.CM_CRS_PT_FAILED, F.GL_PT_ERR_W0_COUNT, F.GL_PT_ERR_W0_STATUS,
      F.GL_PT_ERR_W1_ADDRESS, F.HC_IRQ_STAT_STAT], []⟩
  | .pointTimeout .. | .pointLimit .. => some ⟨[.out, .cm, .host, .dma], [F.CM_CRS_PT_FAILED, F.CM_DIR_W0_EVQ, F.DM_CH_DETAIL_PTFAIL,
      F.GL_PT_ERR_W0_COUNT, F.GL_PT_ERR_W0_STATUS, F.GL_PT_ERR_W1_ADDRESS, F.GP_HARVEST_PB_FAIL, F.HC_IRQ_STAT_STAT], []⟩
  | .mirrorRefresh .. => some ⟨[.out, .cm, .dma], [F.CM_CRS_PT_MIRROR_LATE], []⟩
  | .svFrameReceived .. => some ⟨[.si, .fc], [F.FC_COND_COND, F.SI_PORT_FCS_ERR, F.SI_PORT_SEC_REJ, F.SI_SV_STAT_W0_CONFREV_BAD,
      F.SI_SV_STAT_W0_PORT, F.SI_SV_STAT_W0_STATE, F.SI_SV_STAT_W1_DISAGREE, F.SI_SV_STAT_W1_DUPLICATE, F.SI_SV_STAT_W1_GAPS,
      F.SI_SV_STAT_W1_REJECTED], []⟩
  | .gooseReceived .. => some ⟨[.si, .fc], [F.FC_COND_COND, F.SI_GO_SUB_CONFREV_BAD, F.SI_GO_SUB_LOST, F.SI_GO_SUB_STNUM,
      F.SI_PORT_FCS_ERR, F.SI_PORT_SEC_REJ], []⟩
  | .ptpMessageReceived .. => some ⟨[.tb, .fc], [F.FC_COND_COND, F.TB_PTP_PORT_W0_PD_REJECT, F.TB_PTP_PORT_W0_PEER_TWO_STEP,
      F.TB_PTP_PORT_W0_QLOST, F.TB_PTP_PORT_W0_STATE, F.TB_PTP_PORT_W1_MPD], []⟩
  | .svSilent .. => some ⟨[], [F.SI_SV_STAT_W0_STATE], []⟩
  | .svLost .. => some ⟨[.si, .fc], [F.FC_COND_COND, F.SI_SV_STAT_W0_LOST_RAISED], []⟩
  | .gooseLost .. => some ⟨[.si, .fc], [F.FC_COND_COND, F.SI_GO_SUB_LOST, F.SI_GO_SUB_LOST_RAISED], []⟩
  | .goosePubEvaluation .. | .gooseRetransmit .. => some ⟨[.out, .si], [F.SI_GO_PUB_STNUM], []⟩
  | .lmCycleTrigger .. => some ⟨[.grps, .si], [F.LM_RESULT_WORD, F.LM_STAT_OVERRUN, F.LM_STAT_STATE], []⟩
  | .lmRun .. => some ⟨[.grps, .si], refusalFlds ++ [F.LM_RESULT_WORD, F.LM_STAT_OVERRUN, F.LM_STAT_STATE], []⟩
  | .lmRunComplete .. => some ⟨[.grps, .si], [F.LM_RESULT_WORD, F.LM_STAT_RUNS, F.LM_STAT_STATE], []⟩
  | .lmContOutput .. => some ⟨[.out, .work, .si, .fc, .sb, .host, .dma], [F.DM_CH_IRQ_DONE, F.DM_CH_IRQ_FULL, F.DM_CH_IRQ_HALF,
      F.DM_CH_IRQ_OVERRUN, F.DM_CH_IRQ_STOP, F.DM_CH_LOST_LOST, F.DM_CH_RING0_RING0, F.DM_CH_STAT_STATE, F.DM_FREE_FREE, F.FC_COND_COND,
      F.HC_IRQ_STAT_STAT, F.LM_CONT_N_N, F.LM_CONT_T0_T0, F.LM_RESULT_WORD, F.SB_CMD_BUSY, F.SB_DEMAND_COND, F.SB_DEMAND_IN_FORCE,
      F.SB_STATUS_BRAKE, F.SB_STATUS_HOLD_1, F.SB_STATUS_HOLD_2, F.SB_STATUS_TESTING], []⟩
  | .lmContWrite .. => some ⟨[.store, .si, .dma], refusalFlds ++ [F.DM_CH_STAT_STATE, F.DM_FREE_FREE, F.LM_CONT_DECIM, F.LM_CONT_EN,
      F.LM_CONT_GAIN, F.LM_CONT_INPUT, F.LM_CONT_N_N, F.LM_CONT_T0_T0, F.MO_JOURNAL_FILL, F.MO_JOURNAL_PENDING], []⟩
  | .lmCalZero .. | .lmCalFull .. => some ⟨[.grps, .si, .sb, .dma], refusalFlds ++ [F.DM_CH_STAT_STATE, F.DM_FREE_FREE,
      F.LM_CAL_CMD_BUSY, F.LM_CAL_CMD_RESULT, F.LM_CONT_N_N, F.LM_CONT_T0_T0, F.LM_RESULT_WORD, F.LM_STAT_STATE], []⟩
  | .lmCalStore .. | .lmCalFactory .. => some ⟨[.store, .si], refusalFlds ++ [F.LM_CAL_CMD_RESULT, F.LM_CAL_GCORR, F.LM_CAL_OFS,
      F.LM_CONT_N_N, F.LM_CONT_T0_T0, F.MO_JOURNAL_FILL, F.MO_JOURNAL_PENDING], []⟩
  | .lmCalStepComplete .. => some ⟨[.si], [F.LM_CAL_CMD_BUSY, F.LM_CAL_CMD_RESULT, F.LM_CAL_MEAS_MEAN, F.LM_STAT_STATE], []⟩
  | .tbPllLock .. => some ⟨[.out, .clk, .tb, .fc, .host], [F.FC_COND_COND, F.GL_READY_PTP, F.GL_READY_TIMEBASE, F.HC_IRQ_STAT_STAT,
      F.TB_HOLD_SECONDS, F.TB_PLL_DEV, F.TB_SERVO_DEFERRED, F.TB_SERVO_STATE, F.TB_STATUS_PLL_LOCKED, F.TB_STATUS_PPS_TRACE,
      F.TB_STATUS_SV_SUSPECT, F.TB_STATUS_TIME_SUSPECT], []⟩
  | .tbPllLockLoss .. => some ⟨[.out, .cm, .fc, .sb, .host, .dma], [F.CM_CRS_DELIV_DELIV, F.CM_CRS_DELIV_WORST, F.CM_CRS_PT_FAILED,
      F.CM_CRS_STAT_FOUND, F.CM_CRS_STAT_F_WORKING, F.CM_CRS_STAT_H_WORKING, F.CM_CRS_STAT_IN_SERVICE, F.CM_CRS_STAT_STATE,
      F.CM_DIR_W0_EVQ, F.CM_DIR_W0_REASON, F.CM_DIR_W0_STATE, F.CM_LANE_CTL_BUSY, F.CM_LANE_CTL_RESULT, F.CM_LANE_STAT_CDR_LOCK,
      F.CM_LANE_STAT_LOOP, F.CM_LANE_STAT_LOOP_HOPS, F.CM_LANE_STAT_STATE, F.CM_LANE_STAT_TX_IDLE, F.DM_CH_DETAIL_PTFAIL, F.FC_COND_COND,
      F.GL_PT_ERR_W0_COUNT, F.GL_PT_ERR_W0_STATUS, F.GL_PT_ERR_W1_ADDRESS, F.GL_READY_TIMEBASE, F.GP_HARVEST_PB_FAIL, F.HC_IRQ_STAT_STAT,
      F.TB_LPLL_STAT_LOCKED, F.TB_LPLL_STAT_LOSSES, F.TB_LPLL_STAT_LOST, F.TB_PLL_DEV, F.TB_STATUS_PLL_LOCKED, F.TB_STATUS_PLL_LOST,
      F.TB_STATUS_PPS_TRACE, F.TB_STATUS_TIME_SUSPECT], []⟩
  | .freqStep .. => some ⟨[.tb], [F.TB_FREQ_FREQ], []⟩
  | .phaseStep .. => some ⟨[.clk, .tb], [F.TB_ADJ_CMD_BUSY, F.TB_SERVO_SLEWING, F.TB_SLEW_LEFT_LEFT], []⟩
  | .ptpOffset .. => some ⟨[.out, .clk, .grps, .tb, .fc, .host], [F.FC_COND_COND, F.GL_READY_PTP, F.HC_IRQ_STAT_STAT, F.TB_ADJ_CMD_BUSY,
      F.TB_HOLD_SECONDS, F.TB_OFFSET_OFFSET, F.TB_SERVO_DEFERRED, F.TB_SERVO_FREQ_SAT, F.TB_SERVO_OFFSET_RAISED, F.TB_SERVO_SLAVE_PORT,
      F.TB_SERVO_SLEWING, F.TB_SERVO_STATE, F.TB_SLEW_LEFT_LEFT, F.TB_STATUS_PPS_TRACE, F.TB_STATUS_STEPS, F.TB_STATUS_SV_SUSPECT,
      F.TB_STATUS_TIME_SUSPECT, F.TB_TIO_W3_EDGES, F.TB_TIO_W3_LEVEL_NOW, F.TB_TIO_W3_PENDING], []⟩
  | .masterLost .. => some ⟨[.out, .tb, .fc, .host], [F.FC_COND_COND, F.GL_READY_PTP, F.HC_IRQ_STAT_STAT, F.TB_ADJ_CMD_BUSY,
      F.TB_FREQ_FREQ, F.TB_HOLD_SECONDS, F.TB_SERVO_DEFERRED, F.TB_SERVO_HOLD_RAISED, F.TB_SERVO_SLEWING, F.TB_SERVO_STATE,
      F.TB_SLEW_LEFT_LEFT, F.TB_STATUS_PPS_TRACE, F.TB_STATUS_SV_SUSPECT], []⟩
  | .holdoverLimit .. => some ⟨[.fc], [F.FC_COND_COND, F.TB_SERVO_HOLD_RAISED], []⟩
  | .holdoverSv .. => some ⟨[], [F.TB_STATUS_PPS_TRACE, F.TB_STATUS_SV_SUSPECT], []⟩
  | .ptpMessageSend .. => some ⟨[.out, .tb], [F.TB_PTP_PORT_W0_QLOST], []⟩
  | .setTime .. | .stepNs .. => some ⟨[.out, .clk, .grps, .tb], refusalFlds ++ [F.TB_ADJ_CMD_BUSY, F.TB_ADJ_CMD_RESULT,
      F.TB_SERVO_SLEWING, F.TB_SLEW_LEFT_LEFT, F.TB_STATUS_PPS_TRACE, F.TB_STATUS_STEPS, F.TB_STATUS_TIME_SUSPECT, F.TB_TIO_W3_EDGES,
      F.TB_TIO_W3_LEVEL_NOW, F.TB_TIO_W3_PENDING], []⟩
  | .slew .. => some ⟨[.tb], refusalFlds ++ [F.TB_ADJ_CMD_RESULT, F.TB_SERVO_SLEWING, F.TB_SLEW_LEFT_LEFT], []⟩
  | .freq .. => some ⟨[.tb], refusalFlds ++ [F.TB_ADJ_CMD_RESULT, F.TB_SERVO_FREQ_SAT], []⟩
  | .stampQueueRead .. => some ⟨[.out, .tb, .host], refusalFlds, []⟩
  | .timeNowRead .. | .msixVectorUnmask .. => some ⟨[.out, .host], refusalFlds, []⟩
  | .evtEdge .. => some ⟨[.grps, .si, .tb], [F.LM_RESULT_WORD, F.LM_STAT_OVERRUN, F.LM_STAT_STATE, F.TB_EVT_STAT_FILL,
      F.TB_EVT_STAT_LEVEL, F.TB_EVT_STAT_OVERFLOW], []⟩
  | .evtFifoRead .. => some ⟨[.out, .tb, .host], refusalFlds ++ [F.TB_EVT_STAT_FILL], []⟩
  | .tioCommand .. => some ⟨[.tb], refusalFlds ++ [F.TB_TIO_W3_PENDING, F.TB_TIO_W3_REPLACED, F.TB_TIO_W3_RESULT], []⟩
  | .tioEdge .. => some ⟨[.out, .tb], [F.TB_TIO_W3_EDGES, F.TB_TIO_W3_LEVEL_NOW, F.TB_TIO_W3_PENDING], []⟩
  | .ppsEdge .. => some ⟨[.out, .tb], [], []⟩
  | .inputDigest .. | .resyncTimeout .. => some ⟨[.out, .store, .chans, .tp, .cm, .fc], [F.FC_COND_COND, F.GL_READY_TRIPLEX,
      F.MO_JOURNAL_FILL, F.MO_JOURNAL_PENDING, F.PL_SLACK_LAST, F.PL_SLACK_WMIN, F.PL_STATUS_CONSEC, F.TP_CH_CAUSE, F.TP_CH_FENCES,
      F.TP_CH_SHADOW, F.TP_CH_STATE, F.TP_CH_STRIKES, F.TP_CMD_BUSY, F.TP_PROOF_RESULT, F.TP_PROOF_STATE, F.TP_PROOF_STEP,
      F.TP_STATE_DONOR, F.TP_STATE_FENCED, F.TP_STATE_IN_SERVICE, F.TP_STATE_RESYNC, F.TP_STATE_SIMPLEX_MS, F.TP_STATE_STATE,
      F.TP_VOTE_LATE_RUN, F.TP_VOTE_MINORITY], []⟩
  | .stateDigestCompare .. => some ⟨[.out, .store, .grps, .chans, .tp, .cm, .fc], [F.FC_COND_COND, F.GL_READY_TRIPLEX, F.MO_JOURNAL_FILL,
      F.MO_JOURNAL_PENDING, F.PL_SLACK_LAST, F.PL_SLACK_WMIN, F.PL_STATUS_CONSEC, F.TP_CH_CAUSE, F.TP_CH_FENCES, F.TP_CH_SHADOW,
      F.TP_CH_STATE, F.TP_CH_STRIKES, F.TP_CMD_BUSY, F.TP_DIGEST_AGREE, F.TP_DIGEST_CYCLE, F.TP_PROOF_RESULT, F.TP_PROOF_STATE,
      F.TP_PROOF_STEP, F.TP_STATE_DONOR, F.TP_STATE_FENCED, F.TP_STATE_IN_SERVICE, F.TP_STATE_RESYNC, F.TP_STATE_SIMPLEX_MS,
      F.TP_STATE_STATE, F.TP_VOTE_DIGEST_BAD, F.TP_VOTE_LATE_RUN, F.TP_VOTE_MINORITY], []⟩
  | .heartbeatPeriod .. | .heartbeatMissing .. => some ⟨[.out, .store, .chans, .tp, .cm, .fc], [F.FC_COND_COND, F.GL_READY_TRIPLEX,
      F.MO_JOURNAL_FILL, F.MO_JOURNAL_PENDING, F.PL_SLACK_LAST, F.PL_SLACK_WMIN, F.PL_STATUS_CONSEC, F.TP_CH_CAUSE, F.TP_CH_FENCES,
      F.TP_CH_SHADOW, F.TP_CH_STATE, F.TP_CH_STRIKES, F.TP_CMD_BUSY, F.TP_HB_LINK_MISSING, F.TP_HB_PATH_FAULTS, F.TP_HB_PIN_MISSING,
      F.TP_PROOF_RESULT, F.TP_PROOF_STATE, F.TP_PROOF_STEP, F.TP_STATE_DONOR, F.TP_STATE_FENCED, F.TP_STATE_IN_SERVICE,
      F.TP_STATE_RESYNC, F.TP_STATE_SIMPLEX_MS, F.TP_STATE_STATE, F.TP_VOTE_LATE_RUN, F.TP_VOTE_MINORITY], []⟩
  | .heartbeatReceived .. => some ⟨[.tp, .fc], [F.TP_HB_LINK_MISSING, F.TP_HB_PATH_FAULTS, F.TP_HB_PIN_MISSING], []⟩
  | .repairComplete .. | .channelSelfTestComplete .. => some ⟨[.store, .chans, .tp, .fc], [F.FC_COND_COND, F.GL_READY_TRIPLEX,
      F.MO_JOURNAL_FILL, F.MO_JOURNAL_PENDING, F.PL_SLACK_LAST, F.PL_SLACK_WMIN, F.TP_CH_CAUSE, F.TP_CH_FENCES, F.TP_CH_SHADOW,
      F.TP_CH_STATE, F.TP_CMD_BUSY, F.TP_PROOF_RESULT, F.TP_PROOF_STATE, F.TP_PROOF_STEP, F.TP_STATE_DONOR, F.TP_STATE_FENCED,
      F.TP_STATE_IN_SERVICE, F.TP_STATE_RESYNC, F.TP_STATE_SIMPLEX_MS, F.TP_STATE_STATE, F.TP_VOTE_LATE_RUN], []⟩
  | .tileCopyComplete .. | .tileCopyTimeout .. | .shadowComplete .. => some ⟨[.chans, .tp, .fc], [F.FC_COND_COND, F.GL_READY_TRIPLEX,
      F.TP_CH_SHADOW, F.TP_CH_STATE, F.TP_CMD_BUSY, F.TP_PROOF_RESULT, F.TP_PROOF_STATE, F.TP_PROOF_STEP, F.TP_STATE_DONOR,
      F.TP_STATE_FENCED, F.TP_STATE_IN_SERVICE, F.TP_STATE_RESYNC, F.TP_STATE_SIMPLEX_MS, F.TP_STATE_STATE], []⟩
  | .simplexLimit .. => some ⟨[.tp, .fc], [F.FC_COND_COND], []⟩
  | .proofPeriodExpiry .. => some ⟨[.tp], [F.TP_CMD_BUSY, F.TP_PROOF_FAILED, F.TP_PROOF_STATE, F.TP_PROOF_STEP], []⟩
  | .proofRunComplete .. => some ⟨[.out, .store, .chans, .tp, .cm, .fc], [F.FC_COND_COND, F.GL_READY_TRIPLEX, F.MO_JOURNAL_FILL,
      F.MO_JOURNAL_PENDING, F.PL_SLACK_LAST, F.PL_SLACK_WMIN, F.PL_STATUS_CONSEC, F.TP_CH_CAUSE, F.TP_CH_FENCES, F.TP_CH_SHADOW,
      F.TP_CH_STATE, F.TP_CH_STRIKES, F.TP_CMD_BUSY, F.TP_PROOF_FAILED, F.TP_PROOF_RESULT, F.TP_PROOF_STATE, F.TP_PROOF_STEP,
      F.TP_STATE_DONOR, F.TP_STATE_FENCED, F.TP_STATE_IN_SERVICE, F.TP_STATE_RESYNC, F.TP_STATE_SIMPLEX_MS, F.TP_STATE_STATE,
      F.TP_VOTE_LATE_RUN, F.TP_VOTE_MINORITY], []⟩
  | .resync .. => some ⟨[.chans, .tp, .fc], refusalFlds ++ [F.FC_COND_COND, F.GL_READY_TRIPLEX, F.TP_CH_SHADOW, F.TP_CH_STATE,
      F.TP_CMD_BUSY, F.TP_CMD_RESULT, F.TP_PROOF_RESULT, F.TP_PROOF_STATE, F.TP_PROOF_STEP, F.TP_STATE_DONOR, F.TP_STATE_FENCED,
      F.TP_STATE_IN_SERVICE, F.TP_STATE_RESYNC, F.TP_STATE_SIMPLEX_MS, F.TP_STATE_STATE], []⟩
  | .fence .. => some ⟨[.out, .store, .chans, .tp, .cm, .fc], refusalFlds ++ [F.FC_COND_COND, F.GL_READY_TRIPLEX, F.MO_JOURNAL_FILL,
      F.MO_JOURNAL_PENDING, F.PL_SLACK_LAST, F.PL_SLACK_WMIN, F.PL_STATUS_CONSEC, F.TP_CH_CAUSE, F.TP_CH_FENCES, F.TP_CH_SHADOW,
      F.TP_CH_STATE, F.TP_CH_STRIKES, F.TP_CMD_BUSY, F.TP_CMD_RESULT, F.TP_PROOF_RESULT, F.TP_PROOF_STATE, F.TP_PROOF_STEP,
      F.TP_STATE_DONOR, F.TP_STATE_FENCED, F.TP_STATE_IN_SERVICE, F.TP_STATE_RESYNC, F.TP_STATE_SIMPLEX_MS, F.TP_STATE_STATE,
      F.TP_VOTE_LATE_RUN, F.TP_VOTE_MINORITY], []⟩
  | .clear .. => some ⟨[.store, .chans, .tp, .fc], refusalFlds ++ [F.FC_COND_COND, F.GL_READY_TRIPLEX, F.MO_JOURNAL_FILL,
      F.MO_JOURNAL_PENDING, F.TP_CH_FENCES, F.TP_CH_SHADOW, F.TP_CH_STATE, F.TP_CMD_BUSY, F.TP_CMD_RESULT, F.TP_PROOF_RESULT,
      F.TP_PROOF_STATE, F.TP_PROOF_STEP, F.TP_STATE_DONOR, F.TP_STATE_FENCED, F.TP_STATE_IN_SERVICE, F.TP_STATE_RESYNC,
      F.TP_STATE_SIMPLEX_MS, F.TP_STATE_STATE], []⟩
  | .proof .. => some ⟨[.tp], refusalFlds ++ [F.TP_CMD_BUSY, F.TP_CMD_RESULT, F.TP_PROOF_FAILED, F.TP_PROOF_STATE, F.TP_PROOF_STEP], []⟩
  | .tpCfgWrite .. => some ⟨[.store, .chans, .tp, .fc], refusalFlds ++ [F.FC_COND_COND, F.GL_READY_TRIPLEX, F.MO_JOURNAL_FILL,
      F.MO_JOURNAL_PENDING, F.TP_CFG_AUTO_RESYNC, F.TP_CFG_FENCE_MAX, F.TP_CFG_LATE_N, F.TP_CFG_PROOF_PERIOD, F.TP_CFG_SIMPLEX_LIMIT,
      F.TP_CH_SHADOW, F.TP_CH_STATE, F.TP_CMD_BUSY, F.TP_PROOF_RESULT, F.TP_PROOF_STATE, F.TP_PROOF_STEP, F.TP_STATE_DONOR,
      F.TP_STATE_FENCED, F.TP_STATE_IN_SERVICE, F.TP_STATE_RESYNC, F.TP_STATE_SIMPLEX_MS, F.TP_STATE_STATE], []⟩
  | .faultRaise .. => some ⟨[.out, .store, .grps, .cm, .fc, .sb, .host, .dma], [F.CM_CRS_DELIV_DELIV, F.CM_CRS_DELIV_WORST,
      F.CM_CRS_PT_FAILED, F.CM_CRS_STAT_FOUND, F.CM_CRS_STAT_F_WORKING, F.CM_CRS_STAT_H_WORKING, F.CM_CRS_STAT_IN_SERVICE,
      F.CM_CRS_STAT_STATE, F.CM_DIR_W0_EVQ, F.CM_DIR_W0_REASON, F.CM_DIR_W0_STATE, F.CM_LANE_STAT_CDR_LOCK, F.CM_LANE_STAT_STATE,
      F.CM_LANE_STAT_TX_IDLE, F.DM_CH_DETAIL_PTFAIL, F.FC_COND_COND, F.FC_COUNT_COUNT, F.FC_FIRST_SAME_TICK, F.FC_FIRST_SEQ_SEQ,
      F.FC_FIRST_SOURCE, F.FC_FIRST_VALID, F.FC_IRQ_PENDING, F.FC_LATCH_LATCH, F.FC_LOG_STAT_QUEUE, F.FC_STATUS_DIRECT,
      F.FC_STATUS_SAFE_STATE, F.GL_PT_ERR_W0_COUNT, F.GL_PT_ERR_W0_STATUS, F.GL_PT_ERR_W1_ADDRESS, F.GP_HARVEST_PB_FAIL,
      F.HC_IRQ_STAT_STAT, F.HC_PORT_UNCORR, F.MO_JOURNAL_FILL, F.MO_JOURNAL_PENDING, F.SB_CMD_BUSY, F.SB_COURSE_CAUSE, F.SB_COURSE_SENT,
      F.SB_COURSE_SEQ, F.SB_COURSE_STATE, F.SB_DEMAND_COND, F.SB_DEMAND_IN_FORCE, F.SB_STATUS_BRAKE, F.SB_STATUS_HOLD_1,
      F.SB_STATUS_HOLD_2, F.SB_STATUS_TESTING, F.TB_PTP_PORT_W0_STATE], []⟩
  | .logRecordCommit .. => some ⟨[.out, .store, .fc, .host, .dma], [F.DM_CH_IRQ_DONE, F.DM_CH_IRQ_FULL, F.DM_CH_IRQ_HALF,
      F.DM_CH_IRQ_OVERRUN, F.DM_CH_IRQ_STOP, F.DM_CH_LOST_LOST, F.DM_CH_RING0_RING0, F.DM_CH_STAT_STATE, F.DM_FREE_FREE,
      F.FC_FIRST_SEQ_SEQ, F.FC_LOG_STAT_HEAD, F.FC_LOG_STAT_QUEUE], []⟩
  | .faultClear .. => some ⟨[.out, .cm, .fc], refusalFlds ++ [F.CM_LANE_STAT_CDR_LOCK, F.CM_LANE_STAT_STATE, F.CM_LANE_STAT_TX_IDLE,
      F.FC_LATCH_LATCH, F.FC_LOG_STAT_QUEUE, F.FC_STATUS_CLEAR_REFUSED, F.FC_STATUS_SAFE_STATE, F.SB_DEMAND_COND,
      F.TB_PTP_PORT_W0_STATE], []⟩
  | .collectorSelfCheck .. => some ⟨[.out, .store, .grps, .cm, .fc, .sb, .host], [F.FC_COND_COND, F.FC_COUNT_COUNT, F.FC_FIRST_SAME_TICK,
      F.FC_FIRST_SEQ_SEQ, F.FC_FIRST_SOURCE, F.FC_FIRST_VALID, F.FC_IRQ_PENDING, F.FC_LATCH_LATCH, F.FC_LOG_STAT_QUEUE, F.FC_SELF_CORR,
      F.FC_STATUS_DIRECT, F.FC_STATUS_SAFE_STATE, F.HC_IRQ_STAT_STAT, F.MO_JOURNAL_FILL, F.MO_JOURNAL_PENDING, F.SB_CMD_BUSY,
      F.SB_COURSE_CAUSE, F.SB_COURSE_SENT, F.SB_COURSE_SEQ, F.SB_COURSE_STATE, F.SB_DEMAND_COND, F.SB_DEMAND_IN_FORCE, F.SB_STATUS_BRAKE,
      F.SB_STATUS_HOLD_1, F.SB_STATUS_HOLD_2, F.SB_STATUS_TESTING], []⟩
  | .errNRelease .. => some ⟨[.fc], [F.FC_STATUS_ERR_PIN], []⟩
  | .clearFirst .. => some ⟨[.store], refusalFlds ++ [F.FC_CMD_RESULT, F.FC_FIRST_SAME_TICK, F.FC_FIRST_SEQ_SEQ, F.FC_FIRST_SOURCE,
      F.FC_FIRST_VALID], []⟩
  | .eraseLog .. => some ⟨[.store, .fc, .dma], refusalFlds ++ [F.DM_CH_STAT_STATE, F.DM_FREE_FREE, F.FC_CMD_RESULT, F.FC_LOG_STAT_QUEUE],
      []⟩
  | .logIndexWrite .. => some ⟨[.store, .fc], refusalFlds ++ [F.FC_COND_COND, F.FC_LOG_IDX_INDEX, F.GL_READY_STORE,
      F.MO_STATUS_SINGLE_ERRS, F.MO_STATUS_STORE_ERR], []⟩
  | .inject .. => some ⟨[.fc], refusalFlds ++ [F.FC_INJ_RESULT], []⟩
  | .injectionArmed .. => some ⟨[.fc], [F.FC_INJ_ARMED], []⟩
  | .injectionFire .. => some ⟨[.out, .store, .grps, .cm, .fc, .sb, .host], [F.FC_COND_COND, F.FC_COUNT_COUNT, F.FC_FIRST_SAME_TICK,
      F.FC_FIRST_SEQ_SEQ, F.FC_FIRST_SOURCE, F.FC_FIRST_VALID, F.FC_INJ_ARMED, F.FC_INJ_RESULT, F.FC_IRQ_PENDING, F.FC_LATCH_LATCH,
      F.FC_LOG_STAT_QUEUE, F.FC_SELF_CORR, F.FC_STATUS_DIRECT, F.FC_STATUS_SAFE_STATE, F.HC_IRQ_STAT_STAT, F.MO_JOURNAL_FILL,
      F.MO_JOURNAL_PENDING, F.SB_CMD_BUSY, F.SB_COURSE_CAUSE, F.SB_COURSE_SENT, F.SB_COURSE_SEQ, F.SB_COURSE_STATE, F.SB_DEMAND_COND,
      F.SB_DEMAND_IN_FORCE, F.SB_STATUS_BRAKE, F.SB_STATUS_HOLD_1, F.SB_STATUS_HOLD_2, F.SB_STATUS_TESTING], []⟩
  | .injectionExpired .. => some ⟨[.fc], [F.FC_INJ_ARMED, F.FC_INJ_RESULT], []⟩
  | .irqPendingClear .. => some ⟨[.out, .host], refusalFlds ++ [F.FC_IRQ_PENDING, F.HC_IRQ_STAT_STAT], []⟩
  | .sbcReqInput .. => some ⟨[.out, .fc, .sb, .host], [F.HC_IRQ_STAT_STAT, F.SB_CMD_BUSY, F.SB_DEMAND_COND, F.SB_DEMAND_IN_FORCE,
      F.SB_STATUS_BRAKE, F.SB_STATUS_HOLD_1, F.SB_STATUS_HOLD_2, F.SB_STATUS_SBC_REQ, F.SB_STATUS_TESTING], []⟩
  | .tripInput .. => some ⟨[.out, .store, .cm, .fc, .sb, .host], [F.HC_IRQ_STAT_STAT, F.MO_JOURNAL_FILL, F.MO_JOURNAL_PENDING,
      F.SB_CMD_BUSY, F.SB_COURSE_CAUSE, F.SB_COURSE_SENT, F.SB_COURSE_SEQ, F.SB_COURSE_STATE, F.SB_DEMAND_COND, F.SB_DEMAND_IN_FORCE,
      F.SB_STATUS_BRAKE, F.SB_STATUS_HOLD_1, F.SB_STATUS_HOLD_2, F.SB_STATUS_TESTING, F.SB_STATUS_TRIP], []⟩
  | .safetyOscillatorCheck .. => some ⟨[.out, .store, .cm, .fc, .sb, .host], [F.FC_COND_COND, F.HC_IRQ_STAT_STAT, F.MO_JOURNAL_FILL,
      F.MO_JOURNAL_PENDING, F.SB_CMD_BUSY, F.SB_COURSE_CAUSE, F.SB_COURSE_SENT, F.SB_COURSE_SEQ, F.SB_COURSE_STATE, F.SB_DEMAND_COND,
      F.SB_DEMAND_IN_FORCE, F.SB_STATUS_BRAKE, F.SB_STATUS_HOLD_1, F.SB_STATUS_HOLD_2, F.SB_STATUS_OSC_OK, F.SB_STATUS_TESTING], []⟩
  | .sealCheck .. => some ⟨[.pins, .fc], [F.FC_COND_COND, F.SB_SEAL_CHANGED, F.SB_SEAL_MATCH], []⟩
  | .ovLossTimeout .. => some ⟨[.out, .fc, .sb, .host], [F.FC_COND_COND, F.HC_IRQ_STAT_STAT, F.SB_CMD_BUSY, F.SB_DEMAND_COND,
      F.SB_DEMAND_IN_FORCE, F.SB_STATUS_BRAKE, F.SB_STATUS_HOLD_1, F.SB_STATUS_HOLD_2, F.SB_STATUS_TESTING], []⟩
  | .automaticDemandEnd .. => some ⟨[.out, .fc, .sb, .host], [F.HC_IRQ_STAT_STAT, F.SB_CMD_BUSY, F.SB_DEMAND_IN_FORCE, F.SB_STATUS_BRAKE,
      F.SB_STATUS_HOLD_1, F.SB_STATUS_HOLD_2, F.SB_STATUS_TESTING], []⟩
  | .apply .. | .restore .. => some ⟨[.out, .fc, .sb, .host], refusalFlds ++ [F.HC_IRQ_STAT_STAT, F.SB_CMD_BUSY, F.SB_CMD_RESULT,
      F.SB_DEMAND_IN_FORCE, F.SB_STATUS_BRAKE, F.SB_STATUS_HOLD_1, F.SB_STATUS_HOLD_2, F.SB_STATUS_TESTING], []⟩
  | .test .. => some ⟨[.sb], refusalFlds ++ [F.SB_CMD_BUSY, F.SB_CMD_RESULT, F.SB_STATUS_HOLD_1, F.SB_STATUS_HOLD_2,
      F.SB_STATUS_TESTING], []⟩
  | .safeBlock .. => some ⟨[.out, .store, .cm, .fc, .sb, .host], refusalFlds ++ [F.HC_IRQ_STAT_STAT, F.MO_JOURNAL_FILL,
      F.MO_JOURNAL_PENDING, F.SB_CMD_RESULT, F.SB_COURSE_CAUSE, F.SB_COURSE_SENT, F.SB_COURSE_SEQ, F.SB_COURSE_STATE], []⟩
  | .release .. => some ⟨[.out, .cm, .sb, .host], refusalFlds ++ [F.HC_IRQ_STAT_STAT, F.SB_CMD_RESULT, F.SB_COURSE_SENT,
      F.SB_COURSE_STATE], []⟩
  | .offPulseTest .. => some ⟨[.sb], [F.SB_STATUS_HOLD_1, F.SB_STATUS_HOLD_2, F.SB_STATUS_TESTING], []⟩
  | .offPulseEnd .. | .offPulseVerify .. => some ⟨[.out, .store, .fc, .sb, .host], [F.FC_COND_COND, F.HC_IRQ_STAT_STAT, F.SB_CHAN_FAIL_1,
      F.SB_CHAN_FAIL_2, F.SB_CHAN_LAST_1, F.SB_CHAN_LAST_2, F.SB_CHAN_TESTS_1, F.SB_CHAN_TESTS_2, F.SB_CMD_BUSY, F.SB_DEG_CHANNEL,
      F.SB_DEG_ELAPSED, F.SB_DEMAND_COND, F.SB_DEMAND_IN_FORCE, F.SB_STATUS_BRAKE, F.SB_STATUS_DEGRADED, F.SB_STATUS_FB_1,
      F.SB_STATUS_FB_2, F.SB_STATUS_HOLD_1, F.SB_STATUS_HOLD_2, F.SB_STATUS_TESTING], []⟩
  | .feedbackDiscrepancy .. => some ⟨[.out, .store, .fc, .sb, .host], [F.FC_COND_COND, F.HC_IRQ_STAT_STAT, F.SB_CHAN_FAIL_1,
      F.SB_CHAN_FAIL_2, F.SB_CHAN_LAST_1, F.SB_CHAN_LAST_2, F.SB_CMD_BUSY, F.SB_DEG_CHANNEL, F.SB_DEG_ELAPSED, F.SB_DEMAND_COND,
      F.SB_DEMAND_IN_FORCE, F.SB_STATUS_BRAKE, F.SB_STATUS_DEGRADED, F.SB_STATUS_FB_1, F.SB_STATUS_FB_2, F.SB_STATUS_HOLD_1,
      F.SB_STATUS_HOLD_2, F.SB_STATUS_TESTING], []⟩
  | .degradedMinute .. => some ⟨[.out, .store, .fc, .sb, .host], [F.FC_COND_COND, F.HC_IRQ_STAT_STAT, F.SB_CMD_BUSY, F.SB_DEG_ELAPSED,
      F.SB_DEMAND_IN_FORCE, F.SB_STATUS_BRAKE, F.SB_STATUS_HOLD_1, F.SB_STATUS_HOLD_2, F.SB_STATUS_TESTING], []⟩
  | .safeBlockRepeat .. | .safeReleaseRepeat .. => some ⟨[.out, .cm, .sb], [F.SB_COURSE_SENT], []⟩
  | .releaseTimeout .. => some ⟨[.out, .fc, .host], [F.HC_IRQ_STAT_STAT, F.SB_COURSE_STATE], []⟩
  | .open' .. => some ⟨[.host], refusalFlds ++ [F.HC_CTX_CMD_RESULT, F.HC_CTX_STAT_STATE], []⟩
  | .close .. => some ⟨[.out, .work, .cm, .fc, .host, .dma], refusalFlds ++ [F.DM_CH_DONE_DONE, F.DM_CH_IRQ_DONE, F.DM_CH_IRQ_FULL,
      F.DM_CH_IRQ_HALF, F.DM_CH_IRQ_OVERRUN, F.DM_CH_IRQ_STOP, F.DM_CH_STAT_CAUSE, F.DM_CH_STAT_STATE, F.DM_FREE_FREE, F.FC_IRQ_EN,
      F.FC_IRQ_PENDING, F.HC_CTX_CMD_RESULT, F.HC_CTX_STAT_CAUSE, F.HC_CTX_STAT_STATE, F.HC_IRQ_EN_EN, F.HC_IRQ_STAT_STAT,
      F.HC_MMU_CTL_MODE, F.HC_MMU_INV_HI_INV_HI, F.HC_MMU_INV_LO_INV_LO, F.HC_MMU_ROOT_HI_ROOT_HI, F.HC_MMU_ROOT_LO_ROOT_LO], []⟩
  | .functionLevelReset .. | .d3hotEntry .. | .linkRecoveryTimeout .. => some ⟨[.out, .work, .cm, .fc, .host, .dma], [F.DM_CH_DONE_DONE,
      F.DM_CH_IRQ_DONE, F.DM_CH_IRQ_FULL, F.DM_CH_IRQ_HALF, F.DM_CH_IRQ_OVERRUN, F.DM_CH_IRQ_STOP, F.DM_CH_STAT_CAUSE,
      F.DM_CH_STAT_STATE, F.DM_FREE_FREE, F.FC_IRQ_EN, F.FC_IRQ_PENDING, F.HC_CTX_STAT_CAUSE, F.HC_CTX_STAT_STATE, F.HC_IRQ_EN_EN,
      F.HC_IRQ_STAT_STAT, F.HC_MMU_CTL_MODE, F.HC_MMU_INV_HI_INV_HI, F.HC_MMU_INV_LO_INV_LO, F.HC_MMU_ROOT_HI_ROOT_HI,
      F.HC_MMU_ROOT_LO_ROOT_LO], []⟩
  | .linkLeavesL0 .. => some ⟨[.fc, .host], [F.FC_COND_COND, F.HC_PORT_LINK_DOWNS, F.HC_PORT_LINK_UP], []⟩
  | .contextClosed .. => some ⟨[], [F.HC_CTX_STAT_STATE], []⟩
  | .busMasterDisable .. => some ⟨[.out, .work, .cm, .fc, .host, .dma], [F.DM_CH_DONE_DONE, F.DM_CH_IRQ_DONE, F.DM_CH_IRQ_FULL,
      F.DM_CH_IRQ_HALF, F.DM_CH_IRQ_OVERRUN, F.DM_CH_IRQ_STOP, F.DM_CH_STAT_CAUSE, F.DM_CH_STAT_STATE, F.DM_FREE_FREE], []⟩
  | .roleWrite .. => some ⟨[.store], refusalFlds ++ [F.HC_CTX_CFG_ROLE, F.MO_JOURNAL_FILL, F.MO_JOURNAL_PENDING], []⟩
  | .give .. => some ⟨[.store, .host], refusalFlds ++ [F.HC_CTX_CFG_ROLE, F.HC_OWNER_OWNER, F.HC_OWNER_RESULT, F.MO_JOURNAL_FILL,
      F.MO_JOURNAL_PENDING], []⟩
  | .claimOwner .. => some ⟨[.store, .host], refusalFlds ++ [F.HC_CLAIM_RESULT, F.HC_CTX_CFG_ROLE, F.HC_OWNER_OWNER, F.MO_JOURNAL_FILL,
      F.MO_JOURNAL_PENDING], []⟩
  | .mmuConfigWrite .. => some ⟨[.host], refusalFlds ++ [F.HC_MMU_CTL_MODE, F.HC_MMU_ROOT_HI_ROOT_HI, F.HC_MMU_ROOT_LO_ROOT_LO], []⟩
  | .invAll .. | .invPage .. => some ⟨[.host], refusalFlds ++ [F.HC_MMU_CTL_BUSY], []⟩
  | .invalidationComplete .. => some ⟨[.host], [F.HC_MMU_CTL_BUSY], []⟩
  | .translationWalkComplete .. | .dmaReadCompletion .. => some ⟨[.out, .cm, .fc, .host, .dma], [F.CM_CRS_PT_FAILED, F.CM_DIR_W0_EVQ,
      F.DM_CH_DETAIL_PTFAIL, F.DM_CH_STAT_STATE, F.DM_FREE_FREE, F.GL_PT_ERR_W0_COUNT, F.GL_PT_ERR_W0_STATUS, F.GL_PT_ERR_W1_ADDRESS,
      F.GP_HARVEST_PB_FAIL, F.HC_IRQ_STAT_STAT, F.HC_MMU_FADDR_HI_FADDR_HI, F.HC_MMU_FADDR_LO_FADDR_LO, F.HC_MMU_FAULT_CAUSE,
      F.HC_MMU_FAULT_COUNT, F.HC_MMU_FAULT_PENDING, F.HC_MMU_FAULT_WRITE], []⟩
  | .claim .. => some ⟨[.out, .host], refusalFlds ++ [F.DM_CH_CFG_PRIO, F.DM_CH_CMD_RESULT, F.DM_CH_DETAIL_RULE, F.DM_CH_IRQ_DONE,
      F.DM_CH_IRQ_EN_DONE, F.DM_CH_IRQ_EN_FULL, F.DM_CH_IRQ_EN_HALF, F.DM_CH_IRQ_EN_OVERRUN, F.DM_CH_IRQ_EN_STOP, F.DM_CH_IRQ_FULL,
      F.DM_CH_IRQ_HALF, F.DM_CH_IRQ_OVERRUN, F.DM_CH_IRQ_STOP, F.DM_CH_STAT_OWNER, F.DM_CH_STAT_STATE, F.DM_FREE_FREE], []⟩
  | .releaseChannel .. => some ⟨[.out, .work, .cm, .fc, .host, .dma], refusalFlds ++ [F.DM_CH_CMD_RESULT, F.DM_CH_DETAIL_RULE,
      F.DM_CH_DONE_DONE, F.DM_CH_IRQ_DONE, F.DM_CH_IRQ_EN_DONE, F.DM_CH_IRQ_EN_FULL, F.DM_CH_IRQ_EN_HALF, F.DM_CH_IRQ_EN_OVERRUN,
      F.DM_CH_IRQ_EN_STOP, F.DM_CH_IRQ_FULL, F.DM_CH_IRQ_HALF, F.DM_CH_IRQ_OVERRUN, F.DM_CH_IRQ_STOP, F.DM_CH_STAT_CAUSE,
      F.DM_CH_STAT_STATE, F.DM_FREE_FREE], []⟩
  | .arm .. => some ⟨[.out, .cm, .fc, .host, .dma], refusalFlds ++ [F.CM_CRS_PT_FAILED, F.CM_DIR_W0_EVQ, F.DM_CH_ACT_ACTIVE,
      F.DM_CH_CMD_RESULT, F.DM_CH_DETAIL_PTFAIL, F.DM_CH_DETAIL_RULE, F.DM_CH_DONE_DONE, F.DM_CH_IRQ_DONE, F.DM_CH_IRQ_FULL,
      F.DM_CH_IRQ_HALF, F.DM_CH_IRQ_OVERRUN, F.DM_CH_IRQ_STOP, F.DM_CH_LOST_LOST, F.DM_CH_PASS_PASS, F.DM_CH_RING0_RING0,
      F.DM_CH_STAT_ARMED, F.DM_CH_STAT_HOPS, F.DM_CH_STAT_STATE, F.DM_FREE_FREE, F.GL_PT_ERR_W0_COUNT, F.GL_PT_ERR_W0_STATUS,
      F.GL_PT_ERR_W1_ADDRESS, F.GP_HARVEST_PB_FAIL, F.HC_IRQ_STAT_STAT, F.HC_MMU_FADDR_HI_FADDR_HI, F.HC_MMU_FADDR_LO_FADDR_LO,
      F.HC_MMU_FAULT_CAUSE, F.HC_MMU_FAULT_COUNT, F.HC_MMU_FAULT_PENDING, F.HC_MMU_FAULT_WRITE], []⟩
  | .pause .. | .abort .. => some ⟨[.out, .work, .cm, .fc, .host, .dma], refusalFlds ++ [F.DM_CH_CMD_RESULT, F.DM_CH_DETAIL_RULE,
      F.DM_CH_DONE_DONE, F.DM_CH_IRQ_DONE, F.DM_CH_IRQ_FULL, F.DM_CH_IRQ_HALF, F.DM_CH_IRQ_OVERRUN, F.DM_CH_IRQ_STOP, F.DM_CH_STAT_CAUSE,
      F.DM_CH_STAT_STATE, F.DM_FREE_FREE], []⟩
  | .resume .. => some ⟨[.out, .cm, .fc, .host, .dma], refusalFlds ++ [F.CM_CRS_PT_FAILED, F.CM_DIR_W0_EVQ, F.DM_CH_CMD_RESULT,
      F.DM_CH_DETAIL_PTFAIL, F.DM_CH_DETAIL_RULE, F.DM_CH_LOST_LOST, F.DM_CH_RING0_RING0, F.DM_CH_STAT_HOPS, F.DM_CH_STAT_STATE,
      F.DM_FREE_FREE, F.GL_PT_ERR_W0_COUNT, F.GL_PT_ERR_W0_STATUS, F.GL_PT_ERR_W1_ADDRESS, F.GP_HARVEST_PB_FAIL, F.HC_IRQ_STAT_STAT,
      F.HC_MMU_FADDR_HI_FADDR_HI, F.HC_MMU_FADDR_LO_FADDR_LO, F.HC_MMU_FAULT_CAUSE, F.HC_MMU_FAULT_COUNT, F.HC_MMU_FAULT_PENDING,
      F.HC_MMU_FAULT_WRITE], []⟩
  | .disarm .. => some ⟨[], refusalFlds ++ [F.DM_CH_CMD_RESULT, F.DM_CH_DETAIL_RULE, F.DM_CH_STAT_ARMED], []⟩
  | .dmaSegmentBoundary .. => some ⟨[.out, .work, .store, .cm, .fc, .host, .dma], [F.CM_CRS_PT_FAILED, F.CM_DIR_W0_EVQ,
      F.DM_CH_DETAIL_PTFAIL, F.DM_CH_DONE_DONE, F.DM_CH_IRQ_DONE, F.DM_CH_IRQ_FULL, F.DM_CH_IRQ_HALF, F.DM_CH_IRQ_OVERRUN,
      F.DM_CH_IRQ_STOP, F.DM_CH_LOST_LOST, F.DM_CH_RING0_RING0, F.DM_CH_STAT_STATE, F.DM_FREE_FREE, F.FC_COND_COND, F.GL_PT_ERR_W0_COUNT,
      F.GL_PT_ERR_W0_STATUS, F.GL_PT_ERR_W1_ADDRESS, F.GL_READY_STORE, F.GP_HARVEST_PB_FAIL, F.HC_IRQ_STAT_STAT,
      F.HC_MMU_FADDR_HI_FADDR_HI, F.HC_MMU_FADDR_LO_FADDR_LO, F.HC_MMU_FAULT_CAUSE, F.HC_MMU_FAULT_COUNT, F.HC_MMU_FAULT_PENDING,
      F.HC_MMU_FAULT_WRITE, F.MO_STATUS_SINGLE_ERRS, F.MO_STATUS_STORE_ERR], []⟩
  | .dmaReadTimeout .. => some ⟨[.cm, .dma], [F.DM_CH_STAT_STATE, F.DM_FREE_FREE], []⟩
  | .dmaPassEnd .. | .dmaFlushComplete .. => some ⟨[.out, .cm, .fc, .host, .dma], [F.CM_CRS_PT_FAILED, F.CM_DIR_W0_EVQ,
      F.DM_CH_ACT_ACTIVE, F.DM_CH_DETAIL_PTFAIL, F.DM_CH_DONE_DONE, F.DM_CH_IRQ_DONE, F.DM_CH_IRQ_FULL, F.DM_CH_IRQ_HALF,
      F.DM_CH_IRQ_OVERRUN, F.DM_CH_IRQ_STOP, F.DM_CH_LOST_LOST, F.DM_CH_PASS_PASS, F.DM_CH_RING0_RING0, F.DM_CH_STAT_ARMED,
      F.DM_CH_STAT_CAUSE, F.DM_CH_STAT_HOPS, F.DM_CH_STAT_STATE, F.DM_FREE_FREE, F.GL_PT_ERR_W0_COUNT, F.GL_PT_ERR_W0_STATUS,
      F.GL_PT_ERR_W1_ADDRESS, F.GP_HARVEST_PB_FAIL, F.HC_IRQ_STAT_STAT, F.HC_MMU_FADDR_HI_FADDR_HI, F.HC_MMU_FADDR_LO_FADDR_LO,
      F.HC_MMU_FAULT_CAUSE, F.HC_MMU_FAULT_COUNT, F.HC_MMU_FAULT_PENDING, F.HC_MMU_FAULT_WRITE], []⟩
  | .dmaDescriptorFetch .. => some ⟨[.out, .cm, .fc, .host, .dma], [F.CM_CRS_PT_FAILED, F.CM_DIR_W0_EVQ, F.DM_CH_ACT_ACTIVE,
      F.DM_CH_DETAIL_PTFAIL, F.DM_CH_DETAIL_RULE, F.DM_CH_DONE_DONE, F.DM_CH_IRQ_DONE, F.DM_CH_IRQ_FULL, F.DM_CH_IRQ_HALF,
      F.DM_CH_IRQ_OVERRUN, F.DM_CH_IRQ_STOP, F.DM_CH_LOST_LOST, F.DM_CH_PASS_PASS, F.DM_CH_RING0_RING0, F.DM_CH_STAT_HOPS,
      F.DM_CH_STAT_STATE, F.DM_FREE_FREE, F.GL_PT_ERR_W0_COUNT, F.GL_PT_ERR_W0_STATUS, F.GL_PT_ERR_W1_ADDRESS, F.GP_HARVEST_PB_FAIL,
      F.HC_IRQ_STAT_STAT, F.HC_MMU_FADDR_HI_FADDR_HI, F.HC_MMU_FADDR_LO_FADDR_LO, F.HC_MMU_FAULT_CAUSE, F.HC_MMU_FAULT_COUNT,
      F.HC_MMU_FAULT_PENDING, F.HC_MMU_FAULT_WRITE], []⟩
  | .dmaChannelStopped .. => some ⟨[.out, .fc, .host, .dma], [F.DM_CH_DONE_DONE, F.DM_CH_IRQ_DONE, F.DM_CH_IRQ_FULL, F.DM_CH_IRQ_HALF,
      F.DM_CH_IRQ_OVERRUN, F.DM_CH_IRQ_STOP, F.DM_CH_STAT_CAUSE, F.DM_CH_STAT_STATE, F.DM_FREE_FREE], []⟩
  | .dmaAcknowledge .. => some ⟨[.out, .host], refusalFlds ++ [F.DM_CH_IRQ_FULL, F.DM_CH_IRQ_HALF, F.DM_CH_STAT_STATE, F.DM_FREE_FREE],
      []⟩
  | .supplyOutOfRange .. => some ⟨[.pins, .fc, .pm], [F.FC_COND_COND, F.GL_SUPPLY_HIGH, F.GL_SUPPLY_LOW], []⟩
  | .supplyRecovered .. => some ⟨[.pins, .fc], [F.FC_COND_COND, F.GL_SUPPLY_HIGH, F.GL_SUPPLY_LOW], []⟩
  | .temperatureReading .. => some ⟨[.fc], [F.FC_COND_COND, F.GL_TEMP_NOW, F.GL_TEMP_PEAK], []⟩
  | .intakeLocalmeasDmaReady .. => some ⟨[.si], [F.GL_READY_DMA, F.GL_READY_INTAKE, F.GL_READY_LOCALMEAS, F.LM_CONT_N_N,
      F.LM_CONT_T0_T0], []⟩
  | .pciePortConfigurable .. => some ⟨[], [F.GL_READY_HOST_A, F.GL_READY_HOST_B], []⟩
  | .linkEntersL0 .. => some ⟨[.out, .work, .cm, .fc, .host, .dma], [F.DM_CH_DONE_DONE, F.DM_CH_IRQ_DONE, F.DM_CH_IRQ_FULL,
      F.DM_CH_IRQ_HALF, F.DM_CH_IRQ_OVERRUN, F.DM_CH_IRQ_STOP, F.DM_CH_STAT_CAUSE, F.DM_CH_STAT_STATE, F.DM_FREE_FREE, F.FC_COND_COND,
      F.FC_IRQ_EN, F.FC_IRQ_PENDING, F.HC_CTX_STAT_CAUSE, F.HC_CTX_STAT_STATE, F.HC_IRQ_EN_EN, F.HC_IRQ_STAT_STAT, F.HC_MMU_CTL_MODE,
      F.HC_MMU_INV_HI_INV_HI, F.HC_MMU_INV_LO_INV_LO, F.HC_MMU_ROOT_HI_ROOT_HI, F.HC_MMU_ROOT_LO_ROOT_LO, F.HC_PORT_LINK_UP,
      F.HC_PORT_SPEED, F.HC_PORT_WIDTH], []⟩
  | .perstRise .. => some ⟨[.pins, .fc], [F.FC_COND_COND], []⟩
  | .busMasterEnable .. => some ⟨[.out, .host], [], []⟩
  | .stationPortLinkChange .. => some ⟨[], [F.SI_PORT_LINK], []⟩

end Sys2Proof.Machine
end

