-- ==== Sys2Proof/Certificates/Slice0/Obligations.lean ====
section
/-! DEFINITION. The statements for the provers. In every one, s is the state before, dt the ticks since the command before,
and d the device the command finds (Safety.lean); "the command leaves e" means that its own effect on the device is e, after
which the faults of the tick and ERR_N follow (State.settled). A statement says what a command does where it takes effect;
Obligations.RefusedWrite says what a refused host write does, Obligations.DeadDevice what a device without power or in reset does. -/

open Sys2Proof Sys2Proof.Machine

/-! The machine -/

/-- A step runs the command at the front of the queue on the device with the queue's rest. -/
def Obligations.StepRunsFront : Prop :=
  ∀ (c : Instr) (rest : List Instr) (s : State), s.pending = c :: rest → step s = exec c { s with pending := rest }

/-- After reset: no command waits, every register field stands at the power-up value of its table, device time is 0, nothing is ready, ERR_N
and both hold outputs are low, every group is ISOLATED, no lane transmits. The power-up values that no table states are the model's (log
entries 3 and 7). -/
def Obligations.ResetState : Prop :=
  State.reset.pending = [] ∧ (∀ (f : Fld) (i j : Nat), State.reset.dev.get f i j = fieldDefault f i) ∧
  State.reset.dev.clk.dev = 0 ∧ State.reset.dev.errN = true ∧ State.reset.dev.brkHold 1 = false ∧ State.reset.dev.brkHold 2 = false ∧
  State.reset.dev.allIsolated = true ∧ State.reset.dev.ready F.GL_READY_FAULTS = false ∧ State.reset.dev.ready F.GL_READY_SAFETY = false ∧
  (∀ c e : Nat, State.reset.dev.laneIdleOut c e = true)

/-- The invariant of ERR_N (R388, R48, R51): while a case of R388 holds the pin is low; kept by every step from every state. -/
def Obligations.ErrShownKept : Prop := ∀ s t : State, s.errShown → step s = .next t → t.errShown

/-- ERR_N shows in the state after reset. -/
def Obligations.ErrShownAtReset : Prop := State.reset.errShown

/-- A device without power or held in reset does nothing at any command but the four of its power and reset pins: only the clock moves, and
nothing leaves it (R51). R51: while RESET_N has been low for a microsecond or more, the pins show the held state. -/
def Obligations.DeadDevice : Prop :=
  (∀ (c : Instr) (s t : State),
      (∀ dt k r v p, c ≠ .powerUp dt k r v p) → (∀ dt h, c ≠ .powerLoss dt h) → (∀ dt, c ≠ .resetNFall dt) →
      (∀ dt k v p, c ≠ .resetNRise dt k v p) → (∀ dt, (s.later dt).live = false) → exec c s = .next t →
      ∃ dt, t = { s with dev := s.later dt }) ∧
  (∀ d : Dev, d.pins.resetN = false → d.pins.fellAt + 500 ≤ d.now →
      d.errN = true ∧ d.brkHold 1 = false ∧ d.brkHold 2 = false ∧ (∀ n, d.tioHigh n = false) ∧ d.ppsOut = false ∧
      ∀ c e, d.laneIdleOut c e = true)

/-- R50: RESET_N_FALL starts a low level; one below 1 µs is ignored, one of 10 µs or longer resets the device, and a length in between,
which R50 leaves undefined, stops the model. A reset samples the straps (R53, R328). -/
def Obligations.ResetPulse : Prop :=
  (∀ (s : State) (dt : Nat), s.dev.pins.resetN = true →
    exec (.resetNFall dt) s =
      .next { s with dev := { s.later dt with pins := { s.dev.pins with resetN := false, fellAt := s.dev.clk.ticks + dt } } }) ∧
  (∀ (s : State) (dt : Nat) (k : Bool) (v : Straps) (p : BitVec 12), s.dev.pins.resetN = false → s.dev.pins.powered = true →
    s.dev.clk.ticks + dt < s.dev.pins.fellAt + 500 →
    exec (.resetNRise dt k v p) s = .next { s with dev := { s.later dt with pins := { s.dev.pins with resetN := true } } }) ∧
  (∀ (s : State) (dt : Nat) (k : Bool) (v : Straps) (p : BitVec 12), s.dev.pins.resetN = false → s.dev.pins.powered = true →
    s.dev.pins.fellAt + 500 ≤ s.dev.clk.ticks + dt → s.dev.clk.ticks + dt < s.dev.pins.fellAt + 5000 →
    exec (.resetNRise dt k v p) s = .fault .resetPulseUndefined) ∧
  (∀ (s : State) (dt : Nat) (k : Bool) (v : Straps) (p : BitVec 12), s.dev.pins.resetN = false → s.dev.pins.powered = true →
    s.dev.pins.fellAt + 5000 ≤ s.dev.clk.ticks + dt → s.dev.store.recs.length = 2 →
    ∃ e : Dev, exec (.resetNRise dt k v p) s = .next { s with dev := e } ∧ e.live = true ∧ e.clk.dev = 0 ∧
      e.get F.GL_START_CAUSE = 1 ∧ e.store.pinResets = satInc 0xFF s.dev.store.pinResets ∧ e.store.starts = satInc 0xFFFF s.dev.store.starts ∧
      e.pins.kilnEn = k ∧ e.pins.refSel = v.refSel ∧ e.pins.devid = v.devid.toNat ∧ e.pins.sealPins = p.toNat ∧ e.allIsolated = true ∧ e.errN = true)

/-- A start by power and its loss (R44, R45, R46, R53, R54). At a start what is not retained stands at its initial value, every register
field but the three that tell of the start at its power-up value, and the retained store is untouched but for its count of starts and the
place where its log goes on (R391); KILN_EN is sampled. POWER_LOSS takes the power away: with VRET within its range the records the retained store has started are completed first, without
it nothing is, and the pins show a dead device.
That the working store is cleared at a start, and which values the restored fields have then, is the model's (log entries 3 and 6). -/
def Obligations.PowerCycle : Prop :=
  (∀ (s : State) (dt : Nat) (k r : Bool) (v : BitVec 6) (p : BitVec 12), s.dev.pins.powered = false →
      ∃ e : Dev, exec (.powerUp dt k r v p) s = .next { s with dev := e } ∧ e.live = true ∧ e.clk.dev = 0 ∧ e.work = [] ∧ e.cm = .init ∧
        e.tp = .init ∧ e.fc = .init ∧ e.sb = .init ∧ e.dma = List.replicate 32 .init ∧ e.host.cache = [] ∧ e.host.walks = [] ∧
        e.store = (s.dev.store.counted false).relogged ∧ (s.dev.store.recs.length = 2 → e.store.starts = satInc 0xFFFF s.dev.store.starts) ∧
        e.get F.GL_START_CAUSE = 0 ∧ e.get F.GL_START_KILN = bit k ∧
        (∀ (f : Fld) (i j : Nat), f ≠ F.GL_START_CAUSE → f ≠ F.GL_START_KILN → f ≠ F.HC_CTX_STAT_STATE → e.get f i j = fieldDefault f i)) ∧
  (∀ (s : State) (dt : Nat), s.dev.pins.powered = true →
      exec (.powerLoss dt false) s = .next { s with dev := { s.later dt with pins := { s.dev.pins with powered := false } } } ∧
      ∃ e : Dev, exec (.powerLoss dt true) s = .next { s with dev := e } ∧ e.live = false ∧ e.errN = true ∧
        e.store = (s.later dt).finishRecords.store)

/-- Retained memory and working store keep their canonical form under every write of bytes, and reading after a write gives the byte written
where it was written and what was there elsewhere (R38, R431); a register field set holds the value modulo its width, and no other field
changes (R5 to R7). -/
def Obligations.StoresReadBack : Prop :=
  ((∀ (m : Mem) (a : Nat) (v : BitVec 8), m.wf = true → (m.write a v).wf = true) ∧
    (∀ (m : Mem) (a : Nat) (v : BitVec 8), m.wf = true → (m.write a v).read a = v ∧ ∀ b, b ≠ a → (m.write a v).read b = m.read b) ∧
    (∀ (m : Mem) (a : Nat) (l : List (BitVec 8)), m.wf = true → (m.writeBytes a l).wf = true ∧
      (∀ b, (b < a ∨ a + l.length ≤ b) → (m.writeBytes a l).read b = m.read b) ∧
      (m.writeBytes a l).readBytes a l.length = l)) ∧
  (∀ (d : Dev) (f : Fld) (v i j : Nat),
      (d.set f v i j).get f i j = v % 2 ^ f.width ∧
      ∀ (g : Fld) (k l : Nat), (g, k, l) ≠ (f, i, j) → (d.set f v i j).get g k l = d.get g k l)

/-- What a command changes at most. Every command that `touches` lists (all but eleven) answers a next state from every state in which the
device works, whatever its operands; the queue stays; and its own effect leaves every part of the device and every register field outside
its scope as it was. The reactions of the tick and ERR_N that follow change nothing outside Scope.reactions (R381 to R388). The eleven are
the commands of the power and reset pins and those that reach a register of the host's choice (R433, R434): ResetPulse, PowerCycle,
RegisterWriteLands, WrittenWordReads, RegisterReadsAndClears and PairedHalves say what they leave. -/
def Obligations.CommandsKeep : Prop :=
  (∀ (c : Instr) (s : State) (S : Scope), touches c = some S → (s.seen (ticksOf c)).live = true →
      ∃ e : Dev, exec c s = .next (s.settled e) ∧ Dev.keeps S (s.seen (ticksOf c)) e) ∧
  (∀ (s : State) (e : Dev), Dev.keeps .reactions e (s.settled e).dev ∧ (s.settled e).pending = s.pending)

/-! Registers and the settings journal -/

/-- A BAR0 write (R5, R422, R424, R425, R431): one dword to a register that has no command of its own goes to the register's RW fields,
and one to a register that has is that command; dwords to the working store go there under their byte enables; a request of the wrong form,
one to the live table readback, and one its context or role may not make, is refused with its cause and changes nothing else. A write to the
working store holds at most Max Payload Size. That the form of a write is judged before the state and role of its context, so that one of the
wrong form is refused with cause 2 whatever these are, is the model's order (log entries 42 and 147), no rule of the spec. Registers with W1C
fields are the subject of RegisterReadsAndClears. -/
def Obligations.RegisterWriteLands : Prop :=
  ∀ (s : State) (dt : Nat) (d : Dev), d = s.seen dt → d.live = true →
    (∀ (x : Fin 8) (off : Nat) (v : Word) (last : BitVec 4) (r : RegAt), off % 4 = 0 → off < 0x400000 → findReg regTable off = some r →
      d.writeRow x.val v.toNat r = none → (r.reg.fields.any fun fd => decide (fd.acc = .w1c)) = false → pairLow off = false →
      pairHigh off = false → d.writeRefusal x.val off = none →
      exec (.registerWrite dt x off [v] 15 last) s = .next (s.settled (d.writeReg v.toNat r off))) ∧
    (∀ (x : Fin 8) (off : Nat) (v : Word) (last : BitVec 4) (r : RegAt), off % 4 = 0 → off < 0x400000 → findReg regTable off = some r →
      pairLow off = false → pairHigh off = false →
      (∀ e : Dev, d.writeRow x.val v.toNat r = some e → exec (.registerWrite dt x off [v] 15 last) s = .next (s.settled e)) ∧
      (∀ c : Nat, d.writeRow x.val v.toNat r = none → (r.reg.fields.any fun fd => decide (fd.acc = .w1c)) = false → d.writeRefusal x.val off = some c →
        exec (.registerWrite dt x off [v] 15 last) s = .next (s.settled (d.refuse x.val false true c off)))) ∧
    (∀ (x : Fin 8) (off : Nat) (vals : List Word) (first last : BitVec 4), off % 4 = 0 → off < 0x1000000 →
      (registerForm off vals.length = false ∨ first ≠ 15 ∨ (vals.length = 2 ∧ last ≠ 15) →
        exec (.registerWrite dt x off vals first last) s = .next (s.settled (d.refuse x.val false true 2 off))) ∧
      (registerForm off vals.length = true → first = 15 → (vals.length = 2 → last = 15) → inReadback off = true →
        exec (.registerWrite dt x off vals first last) s = .next (s.settled (d.refuse x.val false true (if d.isOpen x.val then 0 else 1) off)))) ∧
    (∀ (x : Fin 8) (off : Nat) (vals : List Word) (first last : BitVec 4), off % 4 = 0 → 0x1000000 ≤ off → off < 0x2000000 →
      (d.writeLimit x.val < 4 * vals.length → exec (.registerWrite dt x off vals first last) s = .next (s.settled (d.refuse x.val false true 2 off))) ∧
      (4 * vals.length ≤ d.writeLimit x.val → d.isOpen x.val = false →
        exec (.registerWrite dt x off vals first last) s = .next (s.settled (d.refuse x.val false true 1 off))) ∧
      (4 * vals.length ≤ d.writeLimit x.val → d.isOpen x.val = true → d.role x.val = 2 →
        exec (.registerWrite dt x off vals first last) s = .next (s.settled (d.refuse x.val false true 0 off)))) ∧
    (∀ (x : Fin 8) (off : Nat) (vals : List Word) (first last : BitVec 4), off % 4 = 0 → 0x1000000 ≤ off → off < 0x2000000 →
      vals ≠ [] → 4 * vals.length ≤ d.writeLimit x.val → d.isOpen x.val = true → d.role x.val ≠ 2 →
      exec (.registerWrite dt x off vals first last) s =
        .next (s.settled (d.pokeWords (off - 0x1000000) (vals.map BitVec.toNat) first.toNat last.toNat)))

/-- What a write of a word does to a register (R5, R6): each RW field of a register of a ready function holds the value taken for its
bits, and no field but the register's RW fields and the journal's display changes; a function that is not ready takes nothing (R47; log
entry 114). -/
def Obligations.WrittenWordReads : Prop :=
  ∀ (d : Dev) (v off : Nat) (r : RegAt),
    (d.blockReady r.reg = true → ∀ fd ∈ r.reg.fields, fd.acc = .rw → fd.fld ≠ F.MO_JOURNAL_PENDING → fd.fld ≠ F.MO_JOURNAL_FILL →
      (r.reg.fields.map fun fd => (fd.fld, fd.copy.getD r.j)).Nodup →
      (d.writeReg v r off).get fd.fld r.i (fd.copy.getD r.j) = takenAs fd.fld (v / 2 ^ fd.pos % 2 ^ fd.fld.width) % 2 ^ fd.fld.width) ∧
    (d.blockReady r.reg = false → d.writeReg v r off = d) ∧
    (∀ (f : Fld) (i j : Nat), (∀ fd ∈ r.reg.fields, fd.acc = .rw → fd.fld ≠ f) → f ≠ F.MO_JOURNAL_PENDING → f ≠ F.MO_JOURNAL_FILL →
      (d.writeReg v r off).get f i j = d.get f i j) ∧
    (d.writeReg v r off).work = d.work ∧ (d.writeReg v r off).grps = d.grps ∧ (d.writeReg v r off).cm = d.cm

/-- Reads (R5, R422, R424, R425, R431, R433) and ones written to W1C bits (R5, R6). A read of one dword of a register answers the word and
clears the register's RC fields; one its context or role may not make answers 0 and is recorded; dwords of the working store are its
bytes; a request of the wrong form answers all ones. Ones written to W1C bits clear them, for every register that has some: those of the
fault table go to their latches (R385), those of the interrupt registers to their pending bits (R396, R439), the failure bit of a core
rail ends its condition (R80), and a transfer channel's event bits cleared end its outstanding message or send it anew (R455); the write of a
role that may not is refused. What clearing leaves: bits an event sets in the same clock stay, bits not written a one stay, and no other field
changes. The model's choices, no rules of the spec: which W1C fields an Observer may clear (log entry 50), and that a read of the wrong form
answers all ones whatever the state of its context (log entries 42 and 147). -/
def Obligations.RegisterReadsAndClears : Prop :=
  (∀ (s : State) (dt : Nat) (d : Dev) (x : Fin 8), d = s.seen dt → d.live = true →
    (∀ off : Nat, off % 4 = 0 → off < 0x400000 → off ≠ 0x30010 →
      (off % 16 = 0 → (off < 0x30200 ∨ 0x30240 ≤ off) ∧ (off < 0x30500 ∨ 0x30600 ≤ off)) → pairLow off = false → pairHigh off = false →
      (d.refusal x.val false off = none →
        exec (.readClear dt x off 1) s = .next (s.settled ((d.readReg x.val off).1.emit (.readData x.val off (d.word x.val off))))) ∧
      (∀ c : Nat, d.refusal x.val false off = some c →
        exec (.readClear dt x off 1) s = .next (s.settled ((d.refuse x.val false false c off).emit (.readData x.val off 0))))) ∧
    (∀ off n : Nat, off % 4 = 0 → off < 0x1000000 → registerForm off n = false →
      exec (.readClear dt x off n) s = .next (s.settled ((d.refuse x.val false false 2 off).emitWords x.val off (List.replicate n 0xFFFFFFFF)))) ∧
    (∀ off n : Nat, off % 4 = 0 → 0x1000000 ≤ off → off < 0x2000000 → 1 ≤ n → n ≤ 128 →
      (d.isOpen x.val = true → exec (.readClear dt x off n) s = .next (s.settled
        (d.emitWords x.val off ((List.range n).map fun i => d.work.readLe (off - 0x1000000 + 4 * i) 4)))) ∧
      (d.isOpen x.val = false → exec (.readClear dt x off n) s = .next (s.settled
        ((d.refuse x.val false false 1 off).emitWords x.val off (List.replicate n 0))))) ∧
    (∀ (off : Nat) (mask again : Word) (r : RegAt), findReg regTable off = some r →
      (r.reg.base = 0x40100 →
        exec (.w1cClear dt x off mask again) s =
          .next (s.settled (faultClear x.val r.i (mask.toNat &&& (again.toNat ^^^ 0xFFFFFFFF)) d))) ∧
      (r.reg.base = 0x10134 →
        exec (.w1cClear dt x off mask again) s = .next (s.settled (irqPendingClear x.val r.i false mask.toNat again.toNat d))) ∧
      (r.reg.base = 0x40040 → testBit mask.toNat 30 = true →
        exec (.w1cClear dt x off mask again) s = .next (s.settled (irqPendingClear x.val r.i true 1 (again.toNat / 2 ^ 30) d))) ∧
      (r.reg.base = 0x40040 → testBit mask.toNat 30 = false → d.writeRefusal x.val off = none →
        exec (.w1cClear dt x off mask again) s = .next (s.settled d)) ∧
      (r.reg.base ∉ [0x40100, 0x40040, 0x10134] →
        (∀ c : Nat, d.writeRefusal x.val off = some c →
          exec (.w1cClear dt x off mask again) s = .next (s.settled (d.refuse x.val false true c off))) ∧
        (d.writeRefusal x.val off = none →
          (hitsW1c mask.toNat r = true → d.role x.val = 2 → r.reg.base ∉ [0x10124, 0x9010C, 0xA8204] →
            exec (.w1cClear dt x off mask again) s = .next (s.settled (d.refuse x.val false true 0 off))) ∧
          (hitsW1c mask.toNat r = false ∨ d.role x.val ≠ 2 ∨ r.reg.base ∈ [0x10124, 0x9010C, 0xA8204] →
            (r.reg.base ≠ 0x90 → r.reg.base ≠ 0x9010C →
              exec (.w1cClear dt x off mask again) s = .next (s.settled (d.clearW1c mask.toNat again.toNat r))) ∧
            (r.reg.base = 0x9010C →
              exec (.w1cClear dt x off mask again) s = .next (s.settled (((d.clearW1c mask.toNat again.toNat r).dmaIrqEnd r.i
                ((mask.toNat &&& again.toNat &&& d.word x.val (0x90110 + 0x80 * r.i)) / 0x8000000 != 0)).dmaShow (x.val / 4)))) ∧
            (r.reg.base = 0x90 → exec (.w1cClear dt x off mask again) s =
              .next (s.settled (if testBit mask.toNat 31 && !testBit again.toNat 31 then d.clearFail r.i else d)))))))) ∧
  (∀ (d : Dev) (mask again : Nat) (r : RegAt),
    (∀ fd ∈ r.reg.fields, fd.acc = .w1c → (r.reg.fields.map fun fd => (fd.fld, fd.copy.getD r.j)).Nodup → ∀ n : Nat, n < fd.fld.width →
      testBit ((d.clearW1c mask again r).get fd.fld r.i (fd.copy.getD r.j)) n =
        (testBit (d.get fd.fld r.i (fd.copy.getD r.j)) n && !(testBit mask (fd.pos + n) && !testBit again (fd.pos + n)))) ∧
    (∀ (f : Fld) (i j : Nat), (∀ fd ∈ r.reg.fields, fd.acc = .w1c → fd.fld ≠ f) → (d.clearW1c mask again r).get f i j = d.get f i j) ∧
    d.clearW1c mask again r = { d with bank := (d.clearW1c mask again r).bank })

/-- Half accesses of a 64-bit value. R433: the read of the low word loads the context's latch with the high word of the same tick; the high
word is the latched one, as often as it is read, or, where the latch does not hold the pair, the live one with HALF_LIVE counted; a read of
both words at once gives both and leaves the latch. R434: the low word written is held for the context; the high word applies both in one
tick, with the held low word if there is one for this pair and the present one otherwise; a write of both words at once applies both.
HC_MMU_ROOT takes a pair as a write of the MMU's configuration. -/
def Obligations.PairedHalves : Prop :=
  (∀ (s : State) (dt : Nat) (d : Dev) (x : Fin 8) (off : Nat), d = s.seen dt → d.acceptsRead x.val off →
      exec (.pairLowRead dt x off) s = .next (s.settled
        (((d.modCtx x.val fun c => { c with latch := some (off, d.word x.val (off + 4)) }).readReg x.val off).1.emit
          (.readData x.val off ((d.modCtx x.val fun c => { c with latch := some (off, d.word x.val (off + 4)) }).word x.val off)))) ∧
      (∀ high : Nat, 4 ≤ off → (d.ctx x.val).latch = some (off - 4, high) →
        exec (.pairHighRead dt x off) s = .next (s.settled (d.emit (.readData x.val off high)))) ∧
      ((∀ o high : Nat, (d.ctx x.val).latch = some (o, high) → o + 4 ≠ off) →
        exec (.pairHighRead dt x off) s = .next (s.settled
          (((d.count F.HC_CTX_STAT_HALF_LIVE x.val).readReg x.val off).1.emit
            (.readData x.val off ((d.count F.HC_CTX_STAT_HALF_LIVE x.val).word x.val off))))) ∧
      (∀ (d1 d2 : Dev), off % 4 = 0 → registerForm off 2 = true → inReadback off = false → inWork off = false → pairLow off = true →
        d1 = (d.readReg x.val off).1.emit (.readData x.val off (d.word x.val off)) → d1.refusal x.val false (off + 4) = none →
        d2 = (d1.readReg x.val (off + 4)).1.emit (.readData x.val (off + 4) (d1.word x.val (off + 4))) →
        exec (.readClear dt x off 2) s = .next (s.settled d2) ∧ (d2.ctx x.val).latch = (d.ctx x.val).latch)) ∧
  (∀ (s : State) (dt : Nat) (d : Dev) (x : Fin 8) (off : Nat) (v : Word), d = s.seen dt → d.live = true → d.writeRefusal x.val off = none →
      exec (.pairLowWrite dt x off v) s = .next (s.settled (d.modCtx x.val fun c => { c with low := some (off, v.toNat) })) ∧
      (∀ (lo : Nat) (r : RegAt), lo + 4 = off → d.writeRefusal x.val lo = none → findReg regTable lo = some r →
        (∀ low : Nat, (d.ctx x.val).low = some (lo, low) →
          exec (.pairHighWrite dt x off v) s = .next (s.settled
            (if r.reg.base = 0x10114 then mmuConfigWrite x.val r.i true (low + 0x100000000 * v.toNat) (d.modCtx x.val fun c => { c with low := none })
              else ((d.modCtx x.val fun c => { c with low := none }).putWord lo low).putWord off v.toNat))) ∧
        ((∀ o low : Nat, (d.ctx x.val).low = some (o, low) → o ≠ lo) →
          exec (.pairHighWrite dt x off v) s = .next (s.settled
            (if r.reg.base = 0x10114 then mmuConfigWrite x.val r.i true (d.word x.val lo + 0x100000000 * v.toNat) d
              else (d.putWord lo (d.word x.val lo)).putWord off v.toNat))) ∧
        (∀ w : Word, lo % 4 = 0 → registerForm lo 2 = true → inReadback lo = false → inWork lo = false → pairLow lo = true →
          (r.reg.fields.any fun fd => decide (fd.acc = .rw)) = true →
          exec (.registerWrite dt x lo [w, v] 15 15) s = .next (s.settled
            (if r.reg.base = 0x10114 then mmuConfigWrite x.val r.i true (w.toNat + 0x100000000 * v.toNat) d
              else (d.putWord lo w.toNat).putWord off v.toNat)))))

/-- The settings journal (R41, R42): a commit completes the oldest record under way of the current half; a snapshot, once the half holds
28,672 records and the journal has been replayed, puts a record of every Kept field in the other half, whose generation is one higher.
That a snapshot holds every Kept field and is not made before the replay is the model's reading (log entries 38 and 114). -/
def Obligations.JournalCommits : Prop :=
  ∀ (s : State) (dt : Nat) (d : Dev) (h : JHalf), d = s.seen dt → d.live = true → h = nth d.store.halves d.store.half ⟨0, false, []⟩ →
    exec (.settingsRecordCommit dt) s = .next (s.settled
      ({ d with store := { d.store with halves := setNth d.store.halves d.store.half { h with recs := commitFirst h.recs } } } : Dev).showJournal) ∧
    (28672 ≤ h.recs.length → d.ready F.GL_READY_JOURNAL = true → ∃ e : Dev, exec (.journalSnapshot dt) s = .next (s.settled e.showJournal) ∧ e.bank = d.bank ∧
      e.store.half = 1 - d.store.half ∧
      e.store.halves = setNth d.store.halves (1 - d.store.half)
        ⟨h.gen + 1, true, d.recordsOf (·.kept) (d.mo.imageId % 0x100000000) d.store.jseq⟩) ∧
    (h.recs.length < 28672 ∨ d.ready F.GL_READY_JOURNAL = false → exec (.journalSnapshot dt) s = .next (s.settled d))

/-- A refused host write (R424, R425): a command that is a host write of a command or settings register (`writesTo`, every such command of
every block) has no effect but the refusal's record where that write is refused to its context. -/
def Obligations.RefusedWrite : Prop :=
  ∀ (i : Instr) (s : State) (d : Dev) (x off c : Nat), d = s.seen (ticksOf i) → d.live = true → writesTo i = some (x, off) →
    d.refusal x true off = some c → exec i s = .next (s.settled (d.refuse x false true c off))

/-- What a refusal records (R422, R425): REFUSED, or PARTIAL for cause 2, counts, HC_CTX_REFADDR of the context holds the access, and no
other field, byte, group, course or message of the device changes. -/
def Obligations.RefusalRecord : Prop :=
  ∀ (d : Dev) (x : Nat) (bar2 write : Bool) (cause off : Nat), cause < 3 →
    (d.refuse x bar2 write cause off).get F.HC_CTX_REFADDR_CAUSE x = cause ∧
    (d.refuse x bar2 write cause off).get F.HC_CTX_REFADDR_OFFSET x = off % 2 ^ F.HC_CTX_REFADDR_OFFSET.width ∧
    (d.refuse x bar2 write cause off).on F.HC_CTX_REFADDR_WRITE x = write ∧ (d.refuse x bar2 write cause off).on F.HC_CTX_REFADDR_BAR2 x = bar2 ∧
    d.sameRegs (d.refuse x bar2 write cause off)
      [F.HC_CTX_STAT_REFUSED, F.HC_CTX_STAT_PARTIAL, F.HC_CTX_REFADDR_BAR2, F.HC_CTX_REFADDR_WRITE, F.HC_CTX_REFADDR_CAUSE, F.HC_CTX_REFADDR_OFFSET] ∧
    d.refuse x bar2 write cause off = { d with bank := (d.refuse x bar2 write cause off).bank }

/-! Power-up steps and kiln -/

/-- The steps of a start up to the structure (R32, R39, R49, R61): the device records are read and shown, the slot the pointer names is
verified and the other one examined, and of a good image the structure with its overlay is built and its lanes wake. A slot whose LOAD was cut
off is REJECTED with STORE_ERROR (R28) and is no active image. A failed record check raises its source instead. The steps of a start that restore (R43, R49, R377, R389, R391, R400): the journal's records are applied and the
roles settled, the fault log, which goes on after its newest valid record, and the first-fault record return and the reactions that waited are taken, the safety parameters meet their
seal. R46: a group that is ready to be restored enters ISOLATED after ISOLATED or CHARGE and BLOCKED after any other mode, with cause 9, and
its bit of GL_READY is set; the other groups keep their modes.
The model's readings in it: how the other slot is examined and what a cut-off LOAD leaves (log entries 112 and 173), which overlay packets and
records are applied (38 and 113), GL_VADAPT at a restore (37), the seal code shown (46) and when a group may be restored (159). -/
def Obligations.BootAndRestore : Prop :=
  (∀ (s : State) (dt : Nat) (d : Dev) (errs : List StoreErr) (r : Dev), d = s.seen dt → d.live = true → r = d.readStore errs →
      (r.store.lost = true → r.ready F.GL_READY_STORE = false ∧ r.on F.MO_STATUS_STORE_ERR = true) ∧
      (d.ready F.GL_READY_STORE = false →
        (r.store.lost = true → exec (.deviceRecordsChecked dt errs) s = .next (s.settled r)) ∧
        (r.store.lost = false →
          ∃ e : Dev, exec (.deviceRecordsChecked dt errs) s = .next (s.settled e) ∧ e.get F.MO_STATUS_ACTIVE = r.store.active % 2 ^ F.MO_STATUS_ACTIVE.width ∧
            e.get F.GL_START_STARTS = r.store.starts % 0x10000 ∧ e.get F.GL_START_PIN_RESETS = r.store.pinResets % 0x100 ∧
            e.get F.SB_DEG_ELAPSED = r.store.degMinutes % 2 ^ F.SB_DEG_ELAPSED.width ∧
            (∀ n < 2, e.get F.MO_SLOT_STATE n = (e.slot n).state % 2 ^ F.MO_SLOT_STATE.width ∧
              e.get F.MO_SLOT_REASON n = (e.slot n).reason % 2 ^ F.MO_SLOT_REASON.width) ∧
            e.ready F.GL_READY_STORE = true ∧ e.store = { r.store with slots := r.store.slots.map (Slot.interrupted r.free) } ∧
            e.mo.scrubAt = d.now)) ∧
      (d.ready F.GL_READY_STORE = true → exec (.deviceRecordsChecked dt errs) s = .next (s.settled d)) ∧
      (∀ n code : Nat, n = r.store.active → code = (if (r.slot n).state = 1 ∨ (r.slot n).cut.isSome = true then 0x0E else r.verifySlot n) →
        d.ready F.GL_READY_STORE = true → d.kiln = false → d.mo.checkDone = false → n < 2 → r.store.slots.length = 2 →
        ∃ e : Dev, exec (.activeSlotCheck dt errs) s = .next (s.settled e) ∧ e.mo.checkDone = true ∧ e.mo.checkOk = (code == 0) ∧
          e.mo.imageId = imgId (r.slot n).bytes ∧ ((r.slot n).state = 1 → e.slot n = r.slot n) ∧
          ((r.slot n).state ≠ 1 → (e.slot n).state = (if code = 0 then 4 else 5) ∧ (e.slot n).reason = code) ∧
          e.get F.MO_SLOT_STATE n = (e.slot n).state % 2 ^ F.MO_SLOT_STATE.width ∧ (e.slot n).bytes = (r.slot n).bytes ∧
          e.slot (1 - n) = (r.slot (1 - n)).examined) ∧
      (d.mo.checkOk = true → d.ready F.GL_READY_MORTAR = false → d.kiln = false →
        ∃ (half : Nat) (b : Dev), half = bestHalf (r.store.overlay.map fun h => (h.gen, h.committed)) ∧
          b = ({ r with store := { r.store with ohalf := half } } : Dev).build r.mo.imageId (r.slot r.store.active).body
            (applicable r.mo.imageId (nth r.store.overlay half ⟨0, false, []⟩).packets) ∧
          exec (.structureBuild dt errs) s =
            .next (s.settled (b.each ((List.range 64).filter b.enabled) fun c d => d.wakeCourse c true).refreshLanes))) ∧
  (∀ (s : State) (dt : Nat) (d : Dev), d = s.seen dt → d.live = true →
      (∀ (errs : List StoreErr) (r : Dev) (half : Nat) (l : List JRec), r = d.readStore errs →
        half = bestHalf (r.store.halves.map fun h => (h.gen, h.committed)) → l = replayed (nth r.store.halves half ⟨0, false, []⟩).recs →
        d.ready F.GL_READY_STORE = true → d.ready F.GL_READY_JOURNAL = false →
        ∃ a b : Dev,
          a = (l.filter fun x => !(r.slot r.store.active).idBad && x.img == imgId (r.slot r.store.active).bytes % 0x100000000 && !x.bad).foldl Dev.applyRecord
            { r with store := { r.store with
                half := half, halves := setNth r.store.halves half { nth r.store.halves half ⟨0, false, []⟩ with recs := l } } } ∧
          b = (a.flag F.GL_READY_RESTORE_DEGRADED (l.any (·.bad))).fixRoles.showJournal ∧
          exec (.journalReplay dt errs) s =
            .next (s.settled ((if b.on F.GL_VADAPT_EN then b.startAdapt else b).flag F.GL_READY_JOURNAL true)) ∧
          b.on F.GL_READY_RESTORE_DEGRADED = l.any (·.bad) ∧
          (∀ x : Nat, x < 8 → b.role x = if x = b.get F.HC_OWNER_OWNER then 0 else if a.role x = 0 then 1 else a.role x)) ∧
      (d.ready F.GL_READY_STORE = true → d.ready F.GL_READY_FAULTS = false → ∀ (errs : List StoreErr) (r : Dev), r = d.readStore errs →
        ∃ e : Dev, exec (.faultsReady dt errs) s = .next (s.settled ((e.queueRec (e.mkRec 4 0xFFFF 0 0 0 [])).flag F.GL_READY_FAULTS true).lateReactions) ∧
          e.on F.FC_FIRST_VALID = r.store.first.valid ∧ e.get F.FC_FIRST_SOURCE = r.store.first.source % 2 ^ F.FC_FIRST_SOURCE.width ∧
          e.get F.FC_FIRST_SEQ_SEQ = r.store.first.seq % 0x100000000 ∧ e.get F.FC_LOG_STAT_HEAD = r.store.relogged.head % 2 ^ F.FC_LOG_STAT_HEAD.width ∧
          e.fc.win = List.replicate 8 (tabD r.store.log 0 .blank) ∧ e.store = r.store.relogged) ∧
      (d.ready F.GL_READY_MORTAR = true → d.kiln = false → d.sb.checked = false →
        exec (.safetyReady dt) s = .next (s.settled
          (({ d with sb := { d.sb with checked := true } } : Dev).sealAndReady (decodeSafety (imgSection (d.slot d.store.active).bytes 9)))))) ∧
  (∀ (s : State) (dt : Nat) (d : Dev) (g : Fin 4), d = s.seen dt → d.live = true →
      (d.mayRestore g.val = false → exec (.groupRestore dt g) s = .next (s.settled d)) ∧
      (d.mayRestore g.val = true →
        ∃ e : Dev, exec (.groupRestore dt g) s = .next (s.settled e) ∧
          e.gpMode g.val = (if (d.grp g.val).lastMode ≤ 1 then 0 else 2) ∧ e.get F.GP_MODE_CAUSE g.val = 9 ∧
          testBit (e.get F.GL_READY_GROUP) g.val = true ∧ (∀ k : Fin 4, k ≠ g → e.gpMode k.val = d.gpMode k.val) ∧ e.work = d.work ∧ e.cm = d.cm))

/-- Kiln (R57, and the code and the ten seconds of R55): a write to GL_KILN is taken only while GL_START.KILN reads 1: the right code in
time lets the device start, a wrong one, one that comes later or ten seconds without a code locks it out until power is removed. In every
other state the write changes nothing, and a read of GL_KILN gives 0.
The code itself is left open (log entry 22). -/
def Obligations.Kiln : Prop :=
  ∀ (s : State) (dt : Nat) (d : Dev), d = s.seen dt → d.live = true →
    (∀ (x : Fin 8) (code : Word), d.refusal x.val true 0xC = none →
      (d.get F.GL_START_KILN = 1 → code.toNat = Config.kilnCode % 0x100000000 → d.now < d.mo.kilnSince + 5000000000 →
        exec (.kilnCodeWrite dt x code) s = .next (s.settled (d.set F.GL_START_KILN 2))) ∧
      (d.get F.GL_START_KILN = 1 → (code.toNat ≠ Config.kilnCode % 0x100000000 ∨ d.mo.kilnSince + 5000000000 ≤ d.now) → exec (.kilnCodeWrite dt x code) s =
        .next (s.settled (({ d with mo := { d.mo with lockedOut := true } } : Dev).set F.GL_START_KILN 3))) ∧
      (d.get F.GL_START_KILN ≠ 1 → exec (.kilnCodeWrite dt x code) s = .next (s.settled d))) ∧
    (∀ x : Fin 8, d.refusal x.val false 0xC = none → exec (.readClear dt x 0xC 1) s = .next (s.settled (d.emit (.readData x.val 0xC 0)))) ∧
    (d.get F.GL_START_KILN = 1 → d.mo.kilnSince + 5000000000 ≤ d.now →
      exec (.kilnTimeout dt) s = .next (s.settled (({ d with mo := { d.mo with lockedOut := true } } : Dev).set F.GL_START_KILN 3)))

/-! Host ports and contexts -/

/-- OPEN (R428): it opens a CLOSED context whose function has Memory Space Enable set and is in D0; otherwise the write is refused as the
table of HC_CTX_CMD sets out; what the configuration space holds then (R419, R422, R423) goes with the command. -/
def Obligations.OpenContext : Prop :=
  ∀ (s : State) (dt : Nat) (d o : Dev) (x : Fin 8) (mse : Bool) (ctl : FnControl), d = s.seen dt → d.accepts x.val 0x10004 →
    o = (d.modCtx x.val fun c => { c with mse := mse, d0 := ctl.d0, cfg := { c.cfg with timeout := ctl.timeout.toNat, maxRead := ctl.maxRead.toNat, maxPayload := ctl.maxPayload.toNat } }) →
    (d.get F.HC_CTX_STAT_STATE x.val = 0 → mse = true → ctl.d0 = true →
      exec (.open' dt x mse ctl) s = .next (s.settled ((o.set F.HC_CTX_STAT_STATE 1 x.val).set F.HC_CTX_CMD_RESULT 0))) ∧
    (d.get F.HC_CTX_STAT_STATE x.val = 0 → (mse && ctl.d0) = false →
      exec (.open' dt x mse ctl) s = .next (s.settled (o.set F.HC_CTX_CMD_RESULT 3))) ∧
    (d.get F.HC_CTX_STAT_STATE x.val = 1 → exec (.open' dt x mse ctl) s = .next (s.settled (o.set F.HC_CTX_CMD_RESULT 4))) ∧
    (d.get F.HC_CTX_STAT_STATE x.val = 2 → exec (.open' dt x mse ctl) s = .next (s.settled (o.set F.HC_CTX_CMD_RESULT 1)))

/-- A context closes (R424, R429): by CLOSE, a Function Level Reset, D3hot, PERST or a lost link; CONTEXT_CLOSED ends CLOSING once no
channel of the context is left and none of its reads is awaited any more. What closing leaves in the context itself (R429, R437, R440): its cached translations and walks are gone,
and so are its pending messages, its latch and its held word.
That a context already CLOSED goes through CLOSING as well is the model's reading (log entry 76). -/
def Obligations.ContextCloses : Prop :=
  (∀ (s : State) (dt : Nat) (d : Dev) (x : Fin 8), d = s.seen dt → d.live = true →
      (d.refusal x.val true 0x10004 = none → d.get F.HC_CTX_STAT_STATE x.val = 1 →
        exec (.close dt x) s = .next (s.settled ((d.closeCtx 1 x.val).set F.HC_CTX_CMD_RESULT 0))) ∧
      exec (.functionLevelReset dt x) s = .next (s.settled ((d.closeCtx 2 x.val).resetConfig x.val)) ∧
      exec (.d3hotEntry dt x) s = .next (s.settled ((d.closeCtx 5 x.val).modCtx x.val fun c => { c with d0 := false })) ∧
      (d.get F.HC_CTX_STAT_STATE x.val = 2 → d.dmaOf x.val = [] → d.awaits x.val = false →
        exec (.contextClosed dt x) s = .next (s.settled (d.set F.HC_CTX_STAT_STATE 0 x.val))) ∧
      (d.get F.HC_CTX_STAT_STATE x.val ≠ 2 ∨ d.dmaOf x.val ≠ [] ∨ d.awaits x.val = true →
        exec (.contextClosed dt x) s = .next (s.settled d)) ∧
      (∀ (p : Fin 2) (t : Nat), nth d.host.downAt p.val none = some t → t + 1000000 ≤ d.now → d.on F.HC_PORT_LINK_UP p.val = false →
        exec (.linkRecoveryTimeout dt p) s = .next (s.settled
          (({ d with host := { d.host with downAt := setNth d.host.downAt p.val none } } : Dev).each
            [4 * p.val, 4 * p.val + 1, 4 * p.val + 2, 4 * p.val + 3] (Dev.closeCtx 4))))) ∧
  (∀ (d : Dev) (cause x : Nat), x < 8 → d.host.ctxs.length = 8 →
      (∀ t ∈ (d.closeCtx cause x).host.cache, t.ctx ≠ x) ∧ (∀ w ∈ (d.closeCtx cause x).host.walks, w.ctx ≠ x) ∧
      ((d.closeCtx cause x).ctx x).held = [] ∧ ((d.closeCtx cause x).ctx x).latch = none ∧ ((d.closeCtx cause x).ctx x).low = none)

/-- The ports (R49, R50, R429, R442): links that come up and go down, PERST inputs, and the port that becomes configurable. Bus mastering
and messages (R430, R440): clearing the enable stops the context's channels with ABORTED and ends its walks, while setting it, or unmasking
a vector, sends what may now be sent. BAR4 (R421, R422): the vector control of an entry masks and unmasks it, an access of the wrong form is
refused with PARTIAL, a dword reads as the table or the pending bit array holds it.
The form of a BAR4 access and what an entry keeps of it (log entry 178) and that a context already CLOSED goes through CLOSING (log entry 76) are
the model's. -/
def Obligations.PortsAndMessages : Prop :=
  (∀ (s : State) (dt : Nat) (d : Dev) (p : Fin 2), d = s.seen dt → d.live = true →
      (∀ speed width : Nat, (if p = 0 then d.pins.perstA else d.pins.perstB) = true →
        ∃ e : Dev, exec (.linkEntersL0 dt p speed width) s = .next (s.settled (e.refreshLink p.val)) ∧ e.on F.HC_PORT_LINK_UP p.val = true ∧
          e.get F.HC_PORT_SPEED p.val = speed % 2 ^ F.HC_PORT_SPEED.width ∧ e.get F.HC_PORT_WIDTH p.val = width % 2 ^ F.HC_PORT_WIDTH.width ∧
          (linkRecoveryTimeout p.val d).sameRegs e [F.HC_PORT_LINK_UP, F.HC_PORT_SPEED, F.HC_PORT_WIDTH]) ∧
      (d.on F.HC_PORT_LINK_UP p.val = true →
        ∃ e : Dev, exec (.linkLeavesL0 dt p) s = .next (s.settled (e.refreshLink p.val)) ∧ e.on F.HC_PORT_LINK_UP p.val = false ∧
          e.get F.HC_PORT_LINK_DOWNS p.val = satInc (2 ^ F.HC_PORT_LINK_DOWNS.width - 1) (d.get F.HC_PORT_LINK_DOWNS p.val) % 2 ^ F.HC_PORT_LINK_DOWNS.width ∧
          e.host.downAt = setNth d.host.downAt p.val (some d.now) ∧ d.sameRegs e [F.HC_PORT_LINK_UP, F.HC_PORT_LINK_DOWNS]) ∧
      (∃ e : Dev, exec (.perstLow dt p) s = .next (s.settled
          (e.each [4 * p.val, 4 * p.val + 1, 4 * p.val + 2, 4 * p.val + 3] fun x d =>
            ((d.closeCtx 3 x).resetConfig x).modCtx x fun c => { c with aer := 0 })) ∧
        (if p = 0 then e.pins.perstA else e.pins.perstB) = false ∧ e.on F.HC_PORT_LINK_UP p.val = false ∧ e.get F.HC_PORT_SPEED p.val = 0 ∧
        e.get F.HC_PORT_WIDTH p.val = 0 ∧ e.grps = d.grps ∧ e.cm = d.cm) ∧
      (∃ e : Dev, exec (.perstRise dt p) s = .next (s.settled (e.refreshLink p.val)) ∧ (if p = 0 then e.pins.perstA else e.pins.perstB) = true ∧
        e.bank = d.bank) ∧
      exec (.pciePortConfigurable dt p) s = .next (s.settled (d.flag (if p = 0 then F.GL_READY_HOST_A else F.GL_READY_HOST_B) true))) ∧
  (∀ (s : State) (dt : Nat) (d : Dev) (x : Fin 8), d = s.seen dt → d.live = true → d.host.ctxs.length = 8 →
      (∃ a e : Dev, a = d.each (d.dmaOf x.val) (Dev.dmaEnd 1 2) ∧ e = ((a.modCtx x.val fun c => { c with bme := false }).dropWalks x.val).dropCache x.val ∧
        exec (.busMasterDisable dt x) s = .next (s.settled e) ∧
        (∀ w ∈ e.host.walks, w.ctx ≠ x.val) ∧ (∀ t ∈ e.host.cache, t.ctx ≠ x.val) ∧ e.bank = a.bank ∧ e.dma = a.dma) ∧
      (∃ e : Dev, exec (.busMasterEnable dt x) s = .next (s.settled e) ∧ (e.ctx x.val).bme = true ∧
        e.out = d.out ++ (((d.ctx x.val).held.filter fun v => !(d.ctx x.val).masked v).map ((d.ctx x.val).message x.val)) ∧ e.bank = d.bank) ∧
      (∀ (v : Fin 64) (w : Word), ∃ e : Dev,
        exec (.msixVectorUnmask dt x (.write (BitVec.ofNat 14 (16 * v.val + 12)) [w] true)) s = .next (s.settled e) ∧
        (e.ctx x.val).masked v.val = testBit w.toNat 0 ∧
        (testBit w.toNat 0 = false → (d.ctx x.val).bme = true → v.val ∉ (e.ctx x.val).held) ∧ e.bank = d.bank) ∧
      (∀ (off : BitVec 14) (vals : List Word) (full : Bool), msixForm off.toNat vals.length full = false →
        exec (.msixVectorUnmask dt x (.write off vals full)) s = .next (s.settled (d.refuse x.val false true 2 off.toNat))) ∧
      (∀ off : BitVec 14, off.toNat % 4 = 0 →
        exec (.msixVectorUnmask dt x (.read off 1)) s =
          .next (s.settled (d.emit (.msixData x.val off.toNat ((d.ctx x.val).bar4 (off.toNat / 4)))))))

/-- Roles (R426): the Owner writes another context's role and gives its own away; an Operator claims it once the Owner context has not been
OPEN for CLAIM_WAIT seconds. A role the Owner may not write is refused with cause ROLE. The Owner role moves as a whole (R426): afterwards
the new context is Owner, the old one Operator, HC_OWNER names the new one, no other role changes, and three settings records follow in this
order. -/
def Obligations.Roles : Prop :=
  (∀ (s : State) (dt : Nat) (d : Dev) (x : Fin 8), d = s.seen dt → d.live = true →
      (∀ (y : Fin 8) (role : BitVec 2), d.refusal x.val true (0x10100 + 0x40 * y.val) = none →
        (x ≠ y → (role = 1 ∨ role = 2) →
          exec (.roleWrite dt x y role) s = .next (s.settled (d.setKept F.HC_CTX_CFG_ROLE role.toNat y.val))) ∧
        ((x = y ∨ role = 0 ∨ role = 3) → exec (.roleWrite dt x y role) s =
          .next (s.settled (d.refuse x.val false true 0 (0x10100 + 0x40 * y.val))))) ∧
      (∀ y : Fin 8, d.refusal x.val true 0x10008 = none → d.isOpen y.val = true → y ≠ x →
        exec (.give dt x y) s = .next (s.settled ((d.moveOwner x.val y.val).set F.HC_OWNER_RESULT 0))) ∧
      (d.refusal x.val true 0x1000C = none → d.get F.HC_OWNER_CLAIM_WAIT ≠ 0 → d.isOpen (d.get F.HC_OWNER_OWNER) = false →
        d.host.ownerLost + 500000000 * d.get F.HC_OWNER_CLAIM_WAIT ≤ d.now →
        exec (.claimOwner dt x) s = .next (s.settled ((d.moveOwner (d.get F.HC_OWNER_OWNER) x.val).set F.HC_CLAIM_RESULT 0)))) ∧
  (∀ (d : Dev) (old new : Nat), old < 8 → new < 8 → old ≠ new →
      (d.moveOwner old new).role new = 0 ∧ (d.moveOwner old new).role old = 1 ∧ (d.moveOwner old new).get F.HC_OWNER_OWNER = new ∧
      (∀ y : Nat, y ≠ old → y ≠ new → (d.moveOwner old new).role y = d.role y) ∧
      (d.store.half < d.store.halves.length →
        ((nth (d.moveOwner old new).store.halves d.store.half ⟨0, false, []⟩).recs.map fun r => (r.off, r.committed)) =
          ((nth d.store.halves d.store.half ⟨0, false, []⟩).recs.map fun r => (r.off, r.committed)) ++
            [(0x10100 + 0x40 * new, false), (0x10100 + 0x40 * old, false), (0x10008, false)]))

/-- Translation (R434 to R438): the mode or the root of the own context, after whose write no entry cached before serves and no translation
joins a walk begun before, invalidation, the two levels of a walk, and a walk whose read is refused.
What a full cache drops (log entry 8) and the walk that begins again (log entry 178) are the model's. -/
def Obligations.Translation : Prop :=
  ∀ (s : State) (dt : Nat) (d : Dev) (x : Fin 8), d = s.seen dt → d.live = true →
    (∀ v : BitVec 64, d.refusal x.val true (0x10110 + 0x40 * x.val) = none →
      exec (.mmuConfigWrite dt x x false v) s = .next (s.settled
        (if d.get F.HC_MMU_CTL_MODE x.val = v.toNat % 4 then d else (d.set F.HC_MMU_CTL_MODE v.toNat x.val).rerooted x.val))) ∧
    (∀ v : BitVec 64, d.refusal x.val true (0x10114 + 0x40 * x.val) = none →
      exec (.mmuConfigWrite dt x x true v) s = .next (s.settled
        (((d.set F.HC_MMU_ROOT_LO_ROOT_LO (v.toNat % 0x100000000 / 0x1000 * 0x1000) x.val).set F.HC_MMU_ROOT_HI_ROOT_HI (v.toNat / 0x100000000) x.val).rerooted x.val))) ∧
    (∀ y : Nat, (∀ t ∈ (d.rerooted y).host.cache, t.ctx ≠ y) ∧ ∀ w ∈ (d.rerooted y).host.walks, w.ctx = y → w.old = true) ∧
    (d.refusal x.val true (0x10110 + 0x40 * x.val) = none → d.on F.HC_MMU_CTL_BUSY x.val = false →
      (∃ e : Dev, exec (.invAll dt x x) s = .next (s.settled (e.flag F.HC_MMU_CTL_BUSY true x.val)) ∧ e.bank = d.bank ∧
        e.host.cache = d.host.cache.map fun t => if t.ctx == x.val then { t with old := true } else t) ∧
      (∃ e : Dev, exec (.invPage dt x x) s = .next (s.settled (e.flag F.HC_MMU_CTL_BUSY true x.val)) ∧ e.bank = d.bank ∧
        e.host.cache = d.host.cache.map fun t =>
          if t.ctx == x.val && t.page == d.get F.HC_MMU_INV_LO_INV_LO x.val / 0x10000 + 0x10000 * d.get F.HC_MMU_INV_HI_INV_HI x.val then { t with old := true } else t)) ∧
    (d.on F.HC_MMU_CTL_BUSY x.val = true → d.oldBurst x.val = false →
      ∃ e : Dev, exec (.invalidationComplete dt x) s = .next (s.settled e) ∧ e.on F.HC_MMU_CTL_BUSY x.val = false ∧
        ∀ t ∈ e.host.cache, t.ctx = x.val → t.old = false) ∧
    (∀ (w : PageWalk) (entry : BitVec 64), d.host.walks.find? (·.ctx == x.val) = some w →
      (w.level = 1 → entry.toNat % 2 = 1 → entry.toNat / 2 % 0x800 = 0 →
        exec (.translationWalkComplete dt x entry 0) s = .next (s.settled
          (({ d with host := { d.host with walks := d.host.walks.map fun v => if v = w then { v with level := 2, since := d.now } else v } } : Dev).emit
            (.hostRead x.val (entry.toNat / 0x1000 * 0x1000 + 8 * (w.addr / 0x10000 % 0x10000)) 0 8)))) ∧
      (w.level = 2 → entry.toNat % 2 = 1 → entry.toNat / 0x20 % 0x800 = 0 →
        exec (.translationWalkComplete dt x entry 0) s = .next (s.settled
          (({ d with host := { d.host with walks := d.host.walks.filter (· ≠ w) } } : Dev).walkDone w
            ⟨w.ctx, w.addr / 0x10000, entry.toNat / 0x10000 * 0x10000, testBit entry.toNat 1, testBit entry.toNat 2, entry.toNat / 8 % 4, false⟩)) ∧
        w.ctx = x.val) ∧
      exec (.translationWalkComplete dt x entry 1) s =
        .next (s.settled (({ d with host := { d.host with walks := d.host.walks.filter (· ≠ w) } } : Dev).walkFault w 6))) ∧
    (∀ (w : PageWalk) (t : TransEntry),
      (w.old = false → d.walkDone w t =
        ((((d.cacheAdd t).each ((d.cacheAdd t).walkers w) Dev.dmaRetry).retryWaiting (w.ctx / 4)).dmaShow (w.ctx / 4))))

/-! The mortar manager -/

/-- MO_CMD (R28, R29, R33, R58): a command that passes the checks sets BUSY and is in progress; LOAD fills its slot with the image of the
working store and LIVE takes the packet of it. The checks of R58 in their order: kiln, not ready, busy, a bad code, then the command's own;
a command that fails leaves its code in MO_CMD.RESULT and nothing else.
The model's readings in it: which slot counts as the active one (log entry 25), when LOAD takes its bytes (26) and that a waiting mode command ends
at ACTIVATE (173). -/
def Obligations.MortarStarts : Prop :=
  (∀ (s : State) (dt : Nat) (d : Dev) (x : Fin 8) (slot : Byte), d = s.seen dt → d.accepts x.val 0x20010 → d.moCheck false 0 = 0 → slot.toNat < 2 →
      ((d.slot slot.toNat).state ≠ 4 →
        exec (.load dt x slot) s = .next (s.settled
          (((d.flag F.MO_CMD_BUSY true).moStart (.of 1 slot.toNat)).modSlot slot.toNat fun t =>
            { t with state := 1, bytes := d.staged 0xC00000, uncorr := false, idBad := false, cut := none }))) ∧
      ((d.slot slot.toNat).state ≠ 4 → (d.slot slot.toNat).state ≠ 0 → (d.slot slot.toNat).state ≠ 6 →
        exec (.verify dt x slot) s = .next (s.settled ((d.flag F.MO_CMD_BUSY true).moStart (.of 2 slot.toNat)))) ∧
      ((d.slot slot.toNat).state = 3 → d.allAtRest = true →
        exec (.activate dt x slot) s = .next (s.settled (((d.flag F.MO_CMD_BUSY true).moStart (.of 3 slot.toNat)).each (List.range 4) Dev.dropMode))) ∧
      (d.allAtRest = false → exec (.activate dt x slot) s = .next (s.settled (d.set F.MO_CMD_RESULT 4))) ∧
      (d.allAtRest = true → (d.slot slot.toNat).state ≠ 3 → exec (.activate dt x slot) s = .next (s.settled (d.set F.MO_CMD_RESULT 9))) ∧
      ((d.slot slot.toNat).state ≠ 4 →
        exec (.erase dt x slot) s = .next (s.settled ((d.flag F.MO_CMD_BUSY true).moStart (.of 4 slot.toNat)))) ∧
      (d.activeSlot.isSome = true → d.ready F.GL_READY_MORTAR = true →
        exec (.raiseFloor dt x) s = .next (s.settled ((d.flag F.MO_CMD_BUSY true).moStart (.of 6 0)))) ∧
      exec (.keyrec dt x) s = .next (s.settled ((d.flag F.MO_CMD_BUSY true).moStart ⟨7, 0, some (Config.keyRecord d.work)⟩)) ∧
      (∀ mask : BitVec 4, mask ≠ 0 → (∀ g : Fin 4, testBit mask.toNat g.val = true → (d.grp g.val).built = true) →
        ∃ e : Dev, exec (.live dt x mask) s = .next (s.settled e) ∧ e.get F.MO_LIVE_STATE = 1 ∧
          e.get F.MO_LIVE_GROUPS = mask.toNat ∧ e.on F.MO_CMD_BUSY = true ∧
          e.mo.live = some ⟨d.packetOf (d.staged 0x200000) mask.toNat, d.staged 0x200000, []⟩ ∧ e.store = d.store ∧ e.grps = d.grps)) ∧
  (∀ (s : State) (dt : Nat) (d : Dev) (x : Fin 8) (slot : Byte), d = s.seen dt → d.accepts x.val 0x20010 →
      (d.get F.GL_START_KILN ≠ 0 → exec (.erase dt x slot) s = .next (s.settled (d.set F.MO_CMD_RESULT 0x10))) ∧
      (d.get F.GL_START_KILN = 0 → d.ready F.GL_READY_STORE = false →
        exec (.erase dt x slot) s = .next (s.settled (d.set F.MO_CMD_RESULT 0x0F))) ∧
      (d.get F.GL_START_KILN = 0 → d.ready F.GL_READY_STORE = true → d.on F.MO_CMD_BUSY = true →
        exec (.erase dt x slot) s = .next (s.settled (d.set F.MO_CMD_RESULT 1))) ∧
      (d.get F.GL_START_KILN = 0 → d.ready F.GL_READY_STORE = true → d.on F.MO_CMD_BUSY = false → 2 ≤ slot.toNat →
        exec (.erase dt x slot) s = .next (s.settled (d.set F.MO_CMD_RESULT 2))) ∧
      (d.get F.GL_START_KILN = 0 → d.ready F.GL_READY_STORE = true → d.on F.MO_CMD_BUSY = false → slot.toNat < 2 →
        (d.slot slot.toNat).state = 4 → exec (.erase dt x slot) s = .next (s.settled (d.set F.MO_CMD_RESULT 3))) ∧
      (∀ (i : Instr) (bad : Bool) (own : Nat),
        ((i = .load dt x slot ∧ bad = decide (1 < slot.toNat) ∧ own = (if (d.slot slot.toNat).state = 4 then 3 else 0)) ∨
          (i = .verify dt x slot ∧ bad = decide (1 < slot.toNat) ∧ own = (if (d.slot slot.toNat).state = 4 then 3 else
            if (d.slot slot.toNat).state = 0 ∨ (d.slot slot.toNat).state = 6 then 0x13 else 0)) ∨
          (i = .activate dt x slot ∧ bad = decide (1 < slot.toNat) ∧ own = (if d.allAtRest = false then 4 else
            if (d.slot slot.toNat).state ≠ 3 then 9 else 0)) ∨
          (i = .erase dt x slot ∧ bad = decide (1 < slot.toNat) ∧ own = (if (d.slot slot.toNat).state = 4 then 3 else 0)) ∨
          (i = .raiseFloor dt x ∧ bad = false ∧ own = (if d.activeSlot = none ∨ d.ready F.GL_READY_MORTAR = false then 0x13 else 0)) ∨
          (i = .keyrec dt x ∧ bad = false ∧ own = 0) ∨
          (∃ mask : BitVec 4, i = .live dt x mask ∧ bad = (mask == 0) ∧
            own = (if ∃ g : Fin 4, testBit mask.toNat g.val = true ∧ (d.grp g.val).built = false then 0x0F else 0))) →
        d.moCheck bad own ≠ 0 → exec i s = .next (s.settled (d.set F.MO_CMD_RESULT (d.moCheck bad own)))))

/-- Completions of LOAD, VERIFY, ERASE, RAISE_FLOOR and KEYREC (R26 to R28, R39, R58, R483): the slot's new state with its reason, the
floor, the key ring; and RESULT, with BUSY cleared. A key record's checks come in their order: format, key, signature, then R27. ACTIVATE
completes (R30, R58): re-verified, the new image takes over, or the slot becomes REJECTED with the failing check; writes that could not be
read back change no slot. A slot that scrubbing has made DAMAGED meanwhile stays so (log entry 108).
The model's readings in it: a slot with an uncorrectable word (log entry 24), the constants of the signature (107), a slot whose LOAD was cut off
(173) and a seal mismatch at ACTIVATE (164). -/
def Obligations.MortarCompletes : Prop :=
  (∀ (s : State) (dt : Nat) (d : Dev) (r : MoRun), d = s.seen dt → d.live = true → d.mo.run = some r →
      (r.code = 1 → ∀ (errs : List StoreErr) (f : Dev), f = d.readStore errs →
        ((f.slot r.slot).uncorr = false → exec (.loadComplete dt errs) s = .next (s.settled
          ((f.modSlot r.slot fun t => { t with state := 2, reason := 0, secver := imgSecver t.bytes }).moEnd 0))) ∧
        ((f.slot r.slot).uncorr = true → exec (.loadComplete dt errs) s = .next (s.settled
          ((f.modSlot r.slot fun t => { t with state := if t.state = 6 then 6 else 5, reason := 0x0E }).moEnd 0x0E)))) ∧
      (r.code = 2 → ∀ (errs : List StoreErr) (f : Dev) (code : Nat), f = d.readStore errs → code = f.verifySlot r.slot →
        exec (.verifyComplete dt errs) s = .next (s.settled
          ((f.modSlot r.slot fun t => if t.state = 0 then t else { t with state := if t.state = 6 then 6 else if code = 0 then 3 else 5, reason := code }).moEnd code))) ∧
      (∀ (errs : List StoreErr) (f : Dev), f = d.readBack errs →
      (r.code = 4 → (readBackBad errs = false → exec (.eraseComplete dt errs) s = .next (s.settled ((f.modSlot r.slot fun _ => .empty).moEnd 0))) ∧
        (readBackBad errs = true → exec (.eraseComplete dt errs) s = .next (s.settled (f.moEnd 0x0E)))) ∧
      (r.code = 6 → ∀ n : Nat, f.activeSlot = some n →
        (readBackBad errs = false → exec (.raiseFloorComplete dt errs) s = .next (s.settled
          (({ f with store := f.store.write 1 fun c => { c with floor := imgSecver (f.slot n).bytes } } : Dev).showRing.moEnd 0))) ∧
        (readBackBad errs = true → exec (.raiseFloorComplete dt errs) s = .next (s.settled (f.moEnd 0x0E)))) ∧
      (r.code = 7 → ∀ k : KeyRecord, r.key = some k →
        (k.formatOk = false → exec (.keyrecComplete dt errs) s = .next (s.settled (d.moEnd 0x12))) ∧
        (k.formatOk = true → d.ringKey k.signedBy = none → exec (.keyrecComplete dt errs) s = .next (s.settled (d.moEnd 0x0A))) ∧
        (k.formatOk = true → ∀ q : KeyEntry, d.ringKey k.signedBy = some q →
          (signatureOk q.key k.signed k.sigR k.sigS = false → exec (.keyrecComplete dt errs) s = .next (s.settled (d.moEnd 0x05))) ∧
          (signatureOk q.key k.signed k.sigR k.sigS = true → d.keyRule k = true →
            exec (.keyrecComplete dt errs) s = .next (s.settled (d.moEnd 0x14))) ∧
          (signatureOk q.key k.signed k.sigR k.sigS = true → d.keyRule k = false →
            (readBackBad errs = true → exec (.keyrecComplete dt errs) s = .next (s.settled (f.moEnd 0x0E))) ∧
            (readBackBad errs = false → exec (.keyrecComplete dt errs) s = .next (s.settled
              (({ f with store := f.store.write 0 fun c => { c with keys := setNth f.store.keys k.entry (some (f.newKey k)) } } : Dev).showRing.moEnd 0)))))))) ∧
  (∀ (s : State) (dt : Nat) (d f : Dev) (r : MoRun) (errs : List StoreErr) (code : Nat), d = s.seen dt → d.live = true → d.mo.run = some r →
      r.code = 3 → f = d.readStore errs → code = f.verifySlot r.slot →
      (code = 0 → exec (.activateComplete dt errs true) s = .next (s.settled ((f.takeOver r.slot).moEnd 0))) ∧
      (code = 0 → exec (.activateComplete dt errs false) s = .next (s.settled (f.moEnd 0x0E))) ∧
      (code ≠ 0 → ∀ ok : Bool, exec (.activateComplete dt errs ok) s = .next (s.settled
        ((f.modSlot r.slot fun t => if t.state = 0 then t else { t with state := if t.state = 6 then 6 else 5, reason := code }).moEnd code))))

/-- Live exchange and scrubbing (R33, R34, R37, R40, R43, R58): a verified packet is STAGED or REFUSED with the failing check; its commit
enters the overlay and every addressed group awaits its opening; a scrub pass, which comes once in its period, counts what it corrected and
what it could not, a record with an uncorrectable word is marked, and a slot with one is DAMAGED, or, if it is ACTIVE, ACTIVE_DAMAGED is
set.
What a packet leaves of a section (log entry 31), a section ID outside the table (110) and PASS_PCT (111) are the model's readings. -/
def Obligations.LiveAndScrub : Prop :=
  ∀ (s : State) (dt : Nat) (d : Dev), d = s.seen dt → d.live = true →
    (∀ l : MoLive, d.mo.live = some l → d.get F.MO_LIVE_STATE = 1 →
      (d.verify l.bytes false true (d.packetOk l.packet) = 0 → d.liveCheck l.packet = 0 →
        exec (.liveVerifyComplete dt) s = .next (s.settled (d.set F.MO_LIVE_STATE 2))) ∧
      (d.verify l.bytes false true (d.packetOk l.packet) = 0 → d.liveCheck l.packet ≠ 0 →
        exec (.liveVerifyComplete dt) s = .next (s.settled (d.refuseLive (d.liveCheck l.packet)))) ∧
      (d.verify l.bytes false true (d.packetOk l.packet) ≠ 0 →
        exec (.liveVerifyComplete dt) s = .next (s.settled (d.refuseLive (d.verify l.bytes false true (d.packetOk l.packet)))))) ∧
    (∀ l : MoLive, d.mo.live = some l → d.get F.MO_LIVE_STATE = 2 → d.grps.length = 4 →
      ∀ errs : List StoreErr,
      (readBackBad errs = true → exec (.liveOverlayCommit dt errs) s = .next (s.settled ((d.readBack errs).refuseLive 0x0E))) ∧
      (readBackBad errs = false → ∃ e : Dev, exec (.liveOverlayCommit dt errs) s = .next (s.settled e) ∧ e.get F.MO_LIVE_STATE = 3 ∧
        e.store = ((d.readBack errs).appendPacket { l.packet with committed := true }).store ∧
        ∀ g : Fin 4, (e.grp g.val).newTables =
          if testBit l.packet.groups g.val then some (d.now + halfUs (d.grp g.val).cfg.cycle, { l.packet with committed := true })
          else (d.grp g.val).newTables)) ∧
    (∀ errs : List StoreErr, d.ready F.GL_READY_STORE = true →
      (d.now < d.mo.scrubAt + d.scrubTicks → exec (.scrubPass dt errs) s = .next (s.settled d)) ∧
      (d.mo.scrubAt + d.scrubTicks ≤ d.now → d.store.slots.length = 2 →
        ∃ e : Dev, exec (.scrubPass dt errs) s = .next (s.settled e) ∧ e.mo.scrubAt = d.now ∧
        e.get F.MO_SCRUB_CORR = clampN (2 ^ F.MO_SCRUB_CORR.width - 1) (d.get F.MO_SCRUB_CORR + (errs.filter fun e => !e.uncorr).length) % 2 ^ F.MO_SCRUB_CORR.width ∧
        e.get F.MO_SCRUB_UNCORR = clampN (2 ^ F.MO_SCRUB_UNCORR.width - 1) (d.get F.MO_SCRUB_UNCORR + (errs.filter (·.uncorr)).length) % 2 ^ F.MO_SCRUB_UNCORR.width ∧
        e.store.halves = (d.readStore errs).store.halves ∧ e.store.overlay = (d.readStore errs).store.overlay ∧
        ∀ n : Nat, n < 2 →
          ((errs.any fun e => e.uncorr && (e.place == .slot n || e.place == .slotId n)) = true →
            (e.slot n).uncorr = true ∧ (e.slot n).state = (if (d.slot n).state = 4 then 4 else 6) ∧ (e.slot n).bytes = (d.slot n).bytes ∧
            ((d.slot n).state = 4 → e.on F.MO_STATUS_ACTIVE_DAMAGED = true)) ∧
          ((errs.any fun e => e.uncorr && (e.place == .slot n || e.place == .slotId n)) = false → e.slot n = d.slot n)))

/-! The control of a group -/

/-- A decision of the control of a group reaches every channel that computes it, acts on the control state there and nowhere else: other
groups' control stays, and so do channels that do not compute. The sources it raises and its requests are taken from the channel that the hub
reports: its group sources await their reactions, and with one channel computing the device is the one that stageFaults and takeHarvest
leave.
That the hub reports the lowest channel in service is the model's reading (log entry 98). -/
def Obligations.DecisionReachesChannels : Prop :=
  ∀ (d : Dev) (g ch : Nat) (late : Bool) (cy : GCycle) (f : GCtx → GridSt → GridSt), d.deciding g ch late cy →
    (d.decision g late f).ctl ch g = { f (d.gctx g cy) (d.ctl ch g) with
      m := { (f (d.gctx g cy) (d.ctl ch g)).m with raises := [] }
      harv := { (f (d.gctx g cy) (d.ctl ch g)).harv with scanResult := none, aborted := false, askBricks := false } } ∧
    (∀ h : Nat, h ≠ g → (d.decision g late f).ctl ch h = d.ctl ch h) ∧
    (∀ c : Nat, d.computesAny c = false → (d.decision g late f).chan c = d.chan c) ∧
    (d.reports ch = true → ∀ n ∈ (f (d.gctx g cy) (d.ctl ch g)).m.raises, 0xA0 ≤ n → (n - 0xA0) % 8 = 0 ∨ (n - 0xA0) % 8 = 7 →
      ∃ r ∈ (d.decision g late f).fc.due, r.n = n) ∧
    (∀ e : Dev, d.reports ch = true → (∀ c : Nat, d.computesAny c = true → c = ch) →
      e = d.modCg ch g (fun x => { x with ctl := f (d.gctx g cy) x.ctl }) →
      d.decision g late f = ((e.stageFaults g (d.ctl ch g) (e.cg ch g)).takeHarvest g (e.ctl ch g).harv).modCg ch g fun x => { x with ctl := { x.ctl with
        m := { x.ctl.m with raises := [] }
        harv := { x.ctl.harv with scanResult := none, aborted := false, askBricks := false } } }) ∧
    (d.decision g late f).grps = d.grps ∧ (d.decision g late f).work = d.work ∧ (d.decision g late f).store = d.store

/-- Synchronisation and feedback (R119, R120, R141, R142): lock, unlock, the end of the flywheel, a hold that expires, the return to the
primary, a disagreement. -/
def Obligations.SyncAndFeedback : Prop :=
  ∀ (s : State) (dt : Nat) (d : Dev) (g : Fin 4) (ch : Nat) (cy : GCycle), d = s.seen dt → d.live = true → d.deciding g.val ch false cy →
    ((d.gctx g.val cy).gc.sync.lockN ≤ (d.ctl ch g.val).sync.lockRun → (d.ctl ch g.val).sync.fly = false →
      ∃ e : Dev, exec (.syncLock dt g) s = .next (s.settled e) ∧ (e.ctl ch g.val).sync.locked = true) ∧
    (16 ≤ (d.ctl ch g.val).sync.unlockRun →
      ∃ e : Dev, exec (.syncUnlock dt g) s = .next (s.settled e) ∧ (e.ctl ch g.val).sync.locked = false) ∧
    ((d.ctl ch g.val).sync.fly = true → 2 ≤ (d.ctl ch g.val).sync.flyRun →
      ∃ e : Dev, exec (.flywheelClear dt g) s = .next (s.settled e) ∧ (e.ctl ch g.val).sync.fly = false ∧ (e.ctl ch g.val).sync.jumpRun = 0) ∧
    (∀ n : Fin 4, (d.ctl ch g.val).fb.length = 4 →
      (holdExpired (d.gctx g.val cy) (d.ctl ch g.val) n.val = true →
        ∃ e : Dev, exec (.feedbackHoldExpiry dt g n) s = .next (s.settled e) ∧ ((e.ctl ch g.val).fbAt n.val).raised = true) ∧
      (((d.ctl ch g.val).fbAt n.val).alt = true → 64 ≤ ((d.ctl ch g.val).fbAt n.val).primRun →
        ∃ e : Dev, exec (.feedbackPrimaryReturn dt g n) s = .next (s.settled e) ∧ ((e.ctl ch g.val).fbAt n.val).alt = false) ∧
      (16 ≤ ((d.ctl ch g.val).fbAt n.val).diffRun → ((d.ctl ch g.val).fbAt n.val).disagreed = false →
        ∃ e : Dev, exec (.feedbackDisagreement dt g n) s = .next (s.settled e) ∧ ((e.ctl ch g.val).fbAt n.val).disagreed = true))

/-- Ride-through (R145, R146, R148, R152, R153): entry to the ride mode MODES permits, a curve trip, T_MAX, and the return.
The model's readings in it: which entries the repeat window counts (log entry 57), the values before the fault (58, 119 and 165) and GP_RIDE_TIME
(165). -/
def Obligations.RideThrough : Prop :=
  ∀ (s : State) (dt : Nat) (d : Dev) (g : Fin 4) (ch : Nat) (cy : GCycle), d = s.seen dt → d.live = true → d.deciding g.val ch false cy →
    (d.gctx g.val cy).chopperOnly = false → (d.ctl ch g.val).m.auto = false →
    (∀ t : Mode, t = (if dcMet (d.gctx g.val cy) (d.ctl ch g.val) then .dcRide else .acRide) →
      entryDue (d.gctx g.val cy) (d.ctl ch g.val) = true → autoEnabled (d.gctx g.val cy) (d.ctl ch g.val).m.mode t = true →
      (recentEntries (d.gctx g.val cy) (d.ctl ch g.val)).length < (d.gctx g.val cy).cv.recov.rideRepeat →
      ∃ e : Dev, exec (.rideEntry dt g) s = .next (s.settled e) ∧ (e.ctl ch g.val).m.mode = t ∧ (e.ctl ch g.val).m.cause = 1 ∧
        (e.ctl ch g.val).m.prev = (d.ctl ch g.val).m.mode ∧
        (e.ctl ch g.val).m.ret = (if (d.ctl ch g.val).m.mode == .acRide then (d.ctl ch g.val).m.ret else (d.ctl ch g.val).m.mode)) ∧
    (∀ n : Nat, curveTripped (d.gctx g.val cy) (d.ctl ch g.val) = some n →
      ∃ e : Dev, exec (.rideCurveTrip dt g) s = .next (s.settled e) ∧ (e.ctl ch g.val).m.mode = .blocked ∧ (e.ctl ch g.val).m.cause = 5 ∧
        (e.ctl ch g.val).ride.tripCurve = n) ∧
    (tmaxReached (d.gctx g.val cy) (d.ctl ch g.val) = true →
      ∃ e : Dev, exec (.rideTmax dt g) s = .next (s.settled e) ∧ (e.ctl ch g.val).m.mode = .blocked ∧ (e.ctl ch g.val).m.cause = 5 ∧
        (e.ctl ch g.val).ride.tripCurve = 4) ∧
    (curveTripped (d.gctx g.val cy) (d.ctl ch g.val) = none → tmaxReached (d.gctx g.val cy) (d.ctl ch g.val) = false →
      ((d.ctl ch g.val).m.mode = .acRide ∨ (d.ctl ch g.val).m.mode = .dcRide) →
      (d.gctx g.val cy).cv.ride.exitN ≤ (d.ctl ch g.val).ride.exitRun →
      autoEnabled (d.gctx g.val cy) (d.ctl ch g.val).m.mode (d.ctl ch g.val).m.ret = true →
      ∃ e : Dev, exec (.rideExit dt g) s = .next (s.settled e) ∧ (e.ctl ch g.val).m.mode = (d.ctl ch g.val).m.ret ∧
        (e.ctl ch g.val).m.cause = 2 ∧ (e.ctl ch g.val).loop.recovP = true)

/-- The angle seat and islanding detection (R155, R159, R160): the angle error is recorded and the seat is over, islanding trips or
transfers as its action and MODES say, and a pulse that has ended gives the impedance and its confirmation count. Ends the modes time for
themselves, and the harvest tracker (R104, R105, R109, R162, R164).
The model's readings in it: where the pulse lies in its period (log entry 21), when FADING clears (59), the order of a scan's refusals (120), the
instants of the tracker and of SCAN_PERIOD (166). -/
def Obligations.SeatIslandingAndTimedEnds : Prop :=
  (∀ (s : State) (dt : Nat) (d : Dev) (g : Fin 4) (ch : Nat) (cy : GCycle), d = s.seen dt → d.live = true →
      (d.deciding g.val ch false cy → (d.gctx g.val cy).chopperOnly = false → (d.ctl ch g.val).sync.seatDue = true →
        ∃ e : Dev, exec (.angleSeat dt g) s = .next (s.settled e) ∧ (e.ctl ch g.val).sync.seatDue = false ∧
          (e.ctl ch g.val).sync.lastSeat = (d.ctl ch g.val).sync.eFast) ∧
      (d.deciding g.val ch false cy → (d.gctx g.val cy).chopperOnly = false → (d.ctl ch g.val).m.auto = false →
        (d.ctl ch g.val).isl.due = true → entryDue (d.gctx g.val cy) (d.ctl ch g.val) = false → (d.ctl ch g.val).sync.seatDue = false →
        ((d.ctl ch g.val).m.mode = .follow ∨ (d.ctl ch g.val).m.mode = .harvest) →
        ∃ e : Dev, exec (.islandingDetected dt g) s = .next (s.settled e) ∧ (e.ctl ch g.val).isl.due = false ∧
          (((d.gctx g.val cy).cv.isl.action = 0 ∨ autoEnabled (d.gctx g.val cy) (d.ctl ch g.val).m.mode .form = false) →
            autoEnabled (d.gctx g.val cy) (d.ctl ch g.val).m.mode .blocked = true →
            (e.ctl ch g.val).m.mode = .blocked ∧ (e.ctl ch g.val).m.cause = 4 ∧ (e.ctl ch g.val).isl.action = 1) ∧
          (((d.gctx g.val cy).cv.isl.action ≠ 0 ∨ autoEnabled (d.gctx g.val cy) (d.ctl ch g.val).m.mode .blocked = false) →
            autoEnabled (d.gctx g.val cy) (d.ctl ch g.val).m.mode .form = true →
            (e.ctl ch g.val).m.mode = .form ∧ (e.ctl ch g.val).m.cause = 3 ∧ (e.ctl ch g.val).isl.action = 2) ∧
          (autoEnabled (d.gctx g.val cy) (d.ctl ch g.val).m.mode .blocked = false →
            autoEnabled (d.gctx g.val cy) (d.ctl ch g.val).m.mode .form = false →
            (e.ctl ch g.val).m.mode = (d.ctl ch g.val).m.mode ∧ (e.ctl ch g.val).isl.action = 3)) ∧
      (d.deciding g.val ch true cy → (d.ctl ch g.val).isl.zDue = true →
        ∃ e : Dev, exec (.islandingPulse dt g) s = .next (s.settled e) ∧ (e.ctl ch g.val).isl.zDue = false ∧
          (∀ z : Pu, (d.ctl ch g.val).isl.zNext = some z → (e.ctl ch g.val).isl.z = z ∧
            (e.ctl ch g.val).isl.conf = (if (d.gctx g.val cy).cv.isl.zTh < z then (d.ctl ch g.val).isl.conf + 1 else 0)) ∧
          ((d.ctl ch g.val).isl.zNext = none → (e.ctl ch g.val).isl.conf = 0 ∧ (e.ctl ch g.val).isl.z = (d.ctl ch g.val).isl.z))) ∧
  (∀ (s : State) (dt : Nat) (d : Dev) (g : Fin 4) (ch : Nat) (cy : GCycle), d = s.seen dt → d.live = true →
      (d.deciding g.val ch false cy → (d.ctl ch g.val).m.auto = false →
        ((d.ctl ch g.val).m.mode = .discharge →
          500000000 * (d.gctx g.val cy).md.disTimeout ≤ ((d.gctx g.val cy).inp.k - (d.ctl ch g.val).m.entryK) * (d.gctx g.val cy).l →
          ∃ e : Dev, exec (.dischargeTimeout dt g) s = .next (s.settled e) ∧ (e.ctl ch g.val).m.mode = .blocked ∧ (e.ctl ch g.val).m.cause = 7) ∧
        ((d.ctl ch g.val).m.mode = .lineTest → 0 < (d.ctl ch g.val).m.ltHeld →
          msTicks (d.gctx g.val cy).md.ltHold ≤ (d.ctl ch g.val).m.ltHeld * (d.gctx g.val cy).l →
          ∃ e : Dev, exec (.lineTestHoldEnd dt g) s = .next (s.settled e) ∧ (e.ctl ch g.val).m.mode = .blocked ∧ (e.ctl ch g.val).m.cause = 8 ∧
            (e.ctl ch g.val).m.ltOutcome = 1)) ∧
      (d.deciding g.val ch true cy →
        ((d.ctl ch g.val).fade.f ≠ 0 → (d.ctl ch g.val).fade.left = 0 → (d.ctl ch g.val).fade.f ≤ (d.ctl ch g.val).fade.k →
          ∃ e : Dev, exec (.fadeEnd dt g) s = .next (s.settled e) ∧ (e.ctl ch g.val).fade.f = 0) ∧
        ((d.ctl ch g.val).m.mode = .harvest → (d.gctx g.val cy).cv.harv.perBrick = false → (d.ctl ch g.val).harv.frozen = false →
          0 < (d.gctx g.val cy).cv.harv.trkDiv → (d.gctx g.val cy).cv.harv.trkDiv ≤ (d.ctl ch g.val).harv.pSum.length →
          ∃ e : Dev, exec (.harvestTrackStep dt g) s = .next (s.settled e) ∧ (e.ctl ch g.val).harv.pSum = [] ∧
            (e.ctl ch g.val).harv.pPrev = meanPower (d.ctl ch g.val).harv.pSum) ∧
        ((d.ctl ch g.val).m.mode = .harvest → (d.gctx g.val cy).cv.harv.perBrick = false → scanRefusal (d.ctl ch g.val) = 0 →
          (d.gctx g.val cy).cv.harv.scanPeriod ≠ 0 →
          60 * 500000000 * (d.gctx g.val cy).cv.harv.scanPeriod ≤ (d.ctl ch g.val).harv.sincescan * (d.gctx g.val cy).ld →
          ∃ e : Dev, exec (.harvestScanPeriod dt g) s = .next (s.settled e) ∧ (e.ctl ch g.val).harv.scanning = true ∧
            (e.ctl ch g.val).harv.vTgt = (d.gctx g.val cy).cv.harv.scanHi ∧ (e.ctl ch g.val).harv.sincescan = 0) ∧
        ((d.ctl ch g.val).harv.scanning = true → (d.ctl ch g.val).harv.vTgt ≤ (d.gctx g.val cy).cv.harv.scanLo →
          ∃ e : Dev, exec (.harvestScanEnd dt g) s = .next (s.settled e) ∧ (e.ctl ch g.val).harv.scanning = false ∧
            (e.ctl ch g.val).harv.vTgt = (d.ctl ch g.val).harv.bestV)))

/-- Host orders to a group (R82, R95, R99, R137, R164): a set of set-points is pending with its tag, and one that waited for the same
opening is superseded; a set with a word outside its limits names the word; a mode command is pending and a pending one superseded, or is
refused with its code; a scan is asked for, of the group or of its bricks; and a set-point source that is back is used again.
The order of a scan's refusals (log entry 120), the scale of the per-brick values (99) and a mode command during ACTIVATE (123) are the model's. -/
def Obligations.GroupOrders : Prop :=
  ∀ (s : State) (dt : Nat) (d o : Dev) (g : Fin 4), d = s.seen dt → d.live = true → d.grps.length = 4 →
    o = d.modGrp g.val (GroupHub.settleDue d.now) →
    (∀ (x : Fin 8) (tag : BitVec 16), d.refusal x.val true (0xA8200 + 0x400 * g.val) = none → (o.grp g.val).built = true →
      (∀ w : Nat, o.badWord g.val = some w →
        exec (.setpointCommit dt x g tag) s =
          .next (s.settled ((o.set F.GP_SP_STATUS_RESULT 1 g.val).set F.GP_SP_STATUS_BAD_WORD w g.val))) ∧
      (o.badWord g.val = none →
        ∃ e : Dev, exec (.setpointCommit dt x g tag) s = .next (s.settled e) ∧
          (e.grp g.val).spPending = some (d.now, tag.toNat, d.spShadow g.val) ∧ e.on F.GP_SP_STATUS_PENDING g.val = true ∧
          e.get F.GP_SP_STATUS_RESULT g.val = 0 ∧
          ((o.grp g.val).spPending = none → e.get F.GP_SP_STATUS_SUPERSEDED g.val = d.get F.GP_SP_STATUS_SUPERSEDED g.val) ∧
          ((o.grp g.val).spPending.isSome = true → e.get F.GP_SP_STATUS_SUPERSEDED g.val =
            (d.count F.GP_SP_STATUS_SUPERSEDED g.val).get F.GP_SP_STATUS_SUPERSEDED g.val))) ∧
    (∀ (x : Fin 8) (target : BitVec 4) (tag : BitVec 16) (cancel : Bool), d.refusal x.val true (0xA0004 + 0x100 * g.val) = none →
      o.modeChecks g.val target.toNat = .ok cancel →
      ∃ e : Dev, exec (.modeCommand dt x g target tag) s = .next (s.settled e) ∧ (e.grp g.val).cmd = some ⟨target.toNat, tag.toNat, cancel⟩ ∧
        (e.grp g.val).cmdTick = d.now ∧
        e.on F.GP_MODE_STATUS_PENDING g.val = true ∧ e.get F.GP_MODE_MODE g.val = d.get F.GP_MODE_MODE g.val ∧
        (∀ old : ModeCmd, (o.grp g.val).cmd = some old → e.get F.GP_MODE_STATUS_RESULT g.val = rSuperseded ∧
          e.get F.GP_MODE_STATUS_TAG g.val = old.tag % 2 ^ F.GP_MODE_STATUS_TAG.width)) ∧
    (∀ (x : Fin 8) (target : BitVec 4) (tag : BitVec 16) (code : Nat), d.refusal x.val true (0xA0004 + 0x100 * g.val) = none →
      o.modeChecks g.val target.toNat = .error code →
      exec (.modeCommand dt x g target tag) s = .next (s.settled
        (((o.set F.GP_MODE_STATUS_RESULT code g.val).set F.GP_MODE_STATUS_TAG tag.toNat g.val).count F.GP_REFUSALS_COUNT g.val))) ∧
    (∀ x : Fin 8, d.refusal x.val true (0xA4054 + 0x100 * g.val) = none → d.gpMode g.val = 7 →
      (scanRefusal (d.shownCtl g.val) ≠ 0 →
        exec (.harvestScan dt x g) s = .next (s.settled (d.set F.GP_HARVEST_CMD_RESULT (scanRefusal (d.shownCtl g.val)) g.val))) ∧
      (scanRefusal (d.shownCtl g.val) = 0 → (d.grp g.val).tables.cv.harv.perBrick = true →
        exec (.harvestScan dt x g) s = .next (s.settled ((d.set F.GP_HARVEST_CMD_RESULT 0 g.val).writeBricks g.val 0x40 1))) ∧
      (scanRefusal (d.shownCtl g.val) = 0 → (d.grp g.val).tables.cv.harv.perBrick = false →
        exec (.harvestScan dt x g) s = .next (s.settled ((d.set F.GP_HARVEST_CMD_RESULT 0 g.val).modGrp g.val fun h => { h with scan := true })))) ∧
    ((d.grp g.val).built = true → exec (.setpointSourceLoss dt g) s = .next (s.settled (d.sourceFaults g.val))) ∧
    (∀ (k : Fin 4) (b : SpBind), (d.grp g.val).built = true → (d.grp g.val).tables.fm.binds[k.val]? = some b →
      exec (.setpointSourceReturn dt g k) s = .next (s.settled
        ((d.modGrp g.val fun h => { h with spSrc := setNth h.spSrc k.val ((nth h.spSrc k.val .init).back b) }).showSources g.val)))

/-- Faults of arms and bricks (R170, R179, R193, R195, R198): a run of energy or of overmodulation is marked as raised in the channel that
found it; a brick whose parking is due is parked; an admission without its echo is handed back. -/
def Obligations.ArmsAndBricks : Prop :=
  ∀ (s : State) (dt : Nat) (d : Dev), d = s.seen dt → d.live = true →
    (∀ (t : Fin 12) (g ch : Nat) (cy : GCycle) (a : ArmSt), d.tileGroup t.val = some g → g < 4 → ch < 3 → d.chans.length = 3 →
      (d.chan ch).grps.length = 4 → d.computes ch t.val = true → ((d.cg ch g).cycles.filter (·.armDone)).getLast? = some cy →
      tabGet (d.cg ch g).arms t.val = some a →
      (0 < a.vbarRun → (d.gctx g cy).gc.arm.vbarN ≤ a.vbarRun → a.energyHeld = false →
        ∃ e : Dev, exec (.armEnergyFault dt t) s = .next (s.settled e) ∧ tabGet (e.cg ch g).arms t.val = some { a with energyHeld := true }) ∧
      ((d.gctx g cy).gc.arm.ovmN ≠ 0 → a.ovmRun ≠ a.ovmMark → 0 < a.ovmRun → a.ovmRun % (d.gctx g cy).gc.arm.ovmN = 0 →
        ∃ e : Dev, exec (.overmodulationFault dt t) s = .next (s.settled e) ∧ tabGet (e.cg ch g).arms t.val = some { a with ovmMark := a.ovmRun })) ∧
    (∀ (b : Fin 8192) (t i g ch : Nat) (k : BrickSt), d.brickIndex b.val = some (t, i) → d.groupOf (b.val / 128) = some g →
      d.brickOf ch t i k →
      ((k.parkDue = 1 ∨ k.parkDue = 2) →
        ∃ e : Dev, exec (.brickAbsent dt b) s = .next (s.settled e) ∧ tabGet (e.ctile ch t).rank.bricks i =
          some (parkBrick ((d.grp g).openTick + quarterUs (d.grp g).cfg.de + halfUs (d.grp g).cfg.lead) k)) ∧
      (k.parkDue = 3 →
        ∃ e : Dev, exec (.echoPark dt b) s = .next (s.settled e) ∧ tabGet (e.ctile ch t).rank.bricks i =
          some (parkBrick ((d.grp g).openTick + quarterUs (d.grp g).cfg.de + halfUs (d.grp g).cfg.lead) k)) ∧
      (admissionOver i (d.shownRank t) = true →
        exec (.admissionFail dt b) s = .next (s.settled ((d.handBack g t i).orderNow g t))))

/-! The control cycle -/

/-- CYCLE_OPENING (R61, R62, R96): the group's next opening stands at its tick with its cycle number, and the pending mode command
accepted before that tick is latched, unless an ACTIVATE is being carried out. The deadlines of a cycle (R64, R97, R303): INTAKE_CUTOFF at
D_R − 0.5 µs, REPORT_DEADLINE at D_R and EMISSION_DEADLINE at D_E come once in a cycle, a second one doing nothing, and not before their tick;
at the cut-off the group holds the converter results for its D_R; D_R gives every
computing channel the inputs of the cycle where no tile's backlog is full; D_E shows the mode of the one outcome that is due, its cause
and the result of its command.
The model's readings in it: a command that comes later than its instant acts as at it (log entry 103), one whose condition does not hold changes
nothing (104), a mode command during ACTIVATE (123), and inputs discarded for a full backlog (124). -/
def Obligations.CyclePoints : Prop :=
  (∀ (s : State) (d : Dev) (g : Fin 4), d = s.seen 0 → d.live = true → d.grps.length = 4 → (d.grp g.val).built = true →
      ∃ e : Dev, exec (.cycleOpening g) s = .next (s.settled e) ∧ (e.grp g.val).started = true ∧ (e.grp g.val).k = (d.grp g.val).nextK ∧
        (e.grp g.val).openTick = (d.grp g.val).nextOpen ∧ e.now = max d.now (d.grp g.val).nextOpen ∧ (e.grp g.val).forced = none ∧
        (∀ c : ModeCmd, (d.grp g.val).cmd = some c → (d.grp g.val).cmdTick < (d.grp g.val).nextOpen →
          (e.grp g.val).cmd = none ∧ (d.activating = false → (e.grp g.val).latched = some c)) ∧
        (∀ c : ModeCmd, (d.grp g.val).cmdDue = some c → (d.grp g.val).cmd = none ∨ (d.grp g.val).nextOpen ≤ (d.grp g.val).cmdTick →
          (e.grp g.val).cmd = (d.grp g.val).cmd ∧ (d.activating = false → (e.grp g.val).latched = some c)) ∧
        ((d.activating = true ∨ ((d.grp g.val).cmdDue = none ∧ ((d.grp g.val).cmd = none ∨ (d.grp g.val).nextOpen ≤ (d.grp g.val).cmdTick))) →
          (e.grp g.val).latched = none)) ∧
  (∀ (s : State) (d : Dev) (g : Fin 4), d = s.seen 0 → d.live = true → d.grps.length = 4 → (d.grp g.val).started = true →
      (∃ e : Dev, exec (.intakeCutoff g) s = .next (s.settled e) ∧
        e.now = max d.now ((d.grp g.val).openTick + quarterUs (d.grp g.val).cfg.dr - 250) ∧
        (∀ h : Nat, h ≠ g.val → e.grp h = d.grp h) ∧ (e.grp g.val).lmK = some (d.grp g.val).k ∧
        ((d.grp g.val).lmK = some (d.grp g.val).k → e.grp g.val = d.grp g.val)) ∧
      ((d.grp g.val).drK = some (d.grp g.val).k → exec (.reportDeadline g) s = .next (s.settled d)) ∧
      ((d.grp g.val).deK = some (d.grp g.val).k → exec (.emissionDeadline g) s = .next (s.settled d)) ∧
      ((d.grp g.val).drK ≠ some (d.grp g.val).k →
        ∃ e : Dev, exec (.reportDeadline g) s = .next (s.settled e) ∧ (e.grp g.val).drK = some (d.grp g.val).k ∧
          e.now = max d.now ((d.grp g.val).openTick + quarterUs (d.grp g.val).cfg.dr) ∧ (e.grp g.val).scan = false ∧
          ∀ ch : Nat, ch < 3 → d.chans.length = 3 → (d.chan ch).grps.length = 4 → d.computesAny ch = true → (d.grp g.val).tiles ≠ [] →
            (∀ p ∈ (d.grp g.val).tiles, ∀ c : Nat, ((d.ctile c p.1).jobs.filter fun j => decide (j.next < 6)).length < 2) →
            ((e.cg ch g.val).cycles.getLast?.map fun y => (y.inp.k, y.condDone, y.gridDone, y.armDone)) = some ((d.grp g.val).k, false, false, false)) ∧
      ((d.grp g.val).deK ≠ some (d.grp g.val).k →
        ∃ e : Dev, exec (.emissionDeadline g) s = .next (s.settled e) ∧ (e.grp g.val).deK = some (d.grp g.val).k ∧
          e.now = max d.now ((d.grp g.val).openTick + quarterUs (d.grp g.val).cfg.de) ∧
          ∀ (ch : Nat) (o : CycleOut), d.reporting = some ch →
            ((d.cg ch g.val).outs.filter fun (o : CycleOut) => decide (o.k ≤ (d.grp g.val).k) &&
              (match (d.grp g.val).shownK with | some s => decide (s < o.k) | none => true)) = [o] →
            e.gpMode g.val = modeCode o.m.mode ∧ e.get F.GP_MODE_CAUSE g.val = o.m.cause % 2 ^ F.GP_MODE_CAUSE.width ∧
            ∀ code tag : Nat, o.m.result = some (code, tag) →
              e.get F.GP_MODE_STATUS_RESULT g.val = code % 2 ^ F.GP_MODE_STATUS_RESULT.width ∧
              e.get F.GP_MODE_STATUS_TAG g.val = tag % 2 ^ F.GP_MODE_STATUS_TAG.width))

/-- The stages and the vote (R67, R73, R74, R78, R354, R355, R362, R368): a stage that is next is done and the next one of the tile follows. A
frame set that completes in time joins its tile's vote with its slack and its channel's digest, and the votes are looked at; one that comes too
late counts, with its slack; one of a channel in COPY, or in SHADOW before the group's own first opening, counts for nothing. Released is one of
two equal sets in TRIPLEX and DUPLEX, the present one in SIMPLEX, none else; its frames go to the courses that are not DISCOVERING and the run
of misses ends; a set of a channel in service that differs from the released one fences that channel. The cut-off closes the vote of the cycle
and keeps what was released; without a release the cycle is missed: MISSED, its count, the run and, at the limit, the deadline source.
The model's readings in it: a channel's fault is an operand (log entry 96), a cut-off that comes late acts as at its instant (103), what counts in
NO_MAJORITY (95), a frame set that is never completed (163) and the count of a tile without an Arm stage (157). -/
def Obligations.StagesAndVote : Prop :=
  ∀ (s : State) (dt : Nat) (ch : Fin 3) (t : Fin 12) (g : Nat),
    (∀ (d : Dev) (j : Job) (stage : Fin 6), d = s.seen dt → d.live = true → d.chans.length = 3 → (d.chan ch.val).tiles.length = 12 →
      d.tileGroup t.val = some g → (d.ctile ch.val t.val).current = some j → d.computes ch.val t.val = true → j.next = stage.val →
      ∃ e : Dev, exec (.stageComplete dt ch t stage) s = .next (s.settled e) ∧
        (e.ctile ch.val t.val).jobs.map (·.k) = (d.ctile ch.val t.val).jobs.map (·.k) ∧
        ∀ y ∈ (e.ctile ch.val t.val).jobs, y.k = j.k → y.next = nextStage ((d.grp g).tile t.val) (stage.val + 1)) ∧
    (∀ (d d1 : Dev) (j j1 : Job) (upset : Nat), d = s.seen dt → d.live = true → d.tileGroup t.val = some g →
      (d.ctile ch.val t.val).jobs.head? = some j → d.computes ch.val t.val = true → 6 ≤ j.next →
      d1 = d.effectsTo ch.val g t.val j.k 5 → (d1.ctile ch.val t.val).jobs.head? = some j1 → d1.exempt ch.val g = false →
      ((d1.vote t.val).closed = true ∨ (d1.vote t.val).k ≠ j1.k) → nth (d1.vote t.val).lateRuns ch.val 0 + 1 < d1.get F.TP_CFG_LATE_N →
      ∃ e : Dev, exec (.frameSetComplete dt ch t upset) s = .next (s.settled e) ∧
        e.get F.TP_VOTE_LATE ch.val = satInc (2 ^ F.TP_VOTE_LATE.width - 1) (d1.get F.TP_VOTE_LATE ch.val) % 2 ^ F.TP_VOTE_LATE.width ∧
        e.getI F.PL_SLACK_LAST t.val ch.val = clampI (-32767) 32767 ((j1.e : Int) - halfUs (d.grp g).cfg.lead - 150 - d1.now) ∧
        e.out = d1.out ∧ (e.vote t.val).released = (d1.vote t.val).released) ∧
    (∀ (d d1 d2 : Dev) (j j1 : Job) (upset : Nat), d = s.seen dt → d.live = true → d.tileGroup t.val = some g →
      (d.ctile ch.val t.val).jobs.head? = some j → d.computes ch.val t.val = true → 6 ≤ j.next →
      d1 = d.effectsTo ch.val g t.val j.k 5 → (d1.ctile ch.val t.val).jobs.head? = some j1 →
      d2 = (let e := d1.modCt ch.val t.val fun x => { x with jobs := x.jobs.drop 1 }
        { e with tp := { e.tp with upsets := setNth e.tp.upsets ch.val upset } }) →
      (d1.exempt ch.val g = true → exec (.frameSetComplete dt ch t upset) s = .next (s.settled d2)) ∧
      (∀ dig : Nat, d1.exempt ch.val g = false → (d1.vote t.val).closed = false → (d1.vote t.val).k = j1.k →
        dig = (tabGet (d1.vote t.val).digests ch.val).getD (d1.tileDigest ch.val g j1) →
        exec (.frameSetComplete dt ch t upset) s = .next (s.settled
          ((((d2.slack ch.val t.val ((j1.e : Int) - halfUs (d.grp g).cfg.lead - 150 - d1.now)).setLate ch.val t.val 0).takeDigest ch.val t.val dig).modVote t.val
            fun v => { v with sets := v.sets ++ [⟨ch.val, j1.k, dig, d1.jobFrames g t.val j1 upset⟩] }).voteAll))) ∧
    (∀ d : Dev, (d.vote t.val).released = none → (d.vote t.val).barred = false → (d.vote t.val).closed = false →
      (d.triplex = 1 ∨ d.triplex = 2 → ((d.releasable t.val).isSome = true ↔ ∃ (m n : Nat) (a b : FrameSet), m < n ∧
        (d.setsOf t.val)[m]? = some a ∧ (d.setsOf t.val)[n]? = some b ∧ a.same b = true)) ∧
      (d.triplex = 3 → d.releasable t.val = (d.setsOf t.val).head?) ∧
      (d.triplex ≠ 1 → d.triplex ≠ 2 → d.triplex ≠ 3 → d.releasable t.val = none) ∧
      (d.releasable t.val = none → d.voteTile t.val = d) ∧
      (∀ f : FrameSet, d.releasable t.val = some f → f ∈ d.setsOf t.val ∧ ((d.release t.val f).vote t.val).released = some f ∧
        (d.release t.val f).get F.PL_STATUS_CONSEC t.val = 0 ∧
        ((∀ x ∈ (d.vote t.val).sets, x.same f = true) → d.voteTile t.val = d.release t.val f) ∧
        (∀ c : Nat, ((d.vote t.val).sets.filter fun x => !x.same f).map (·.ch) = [c] → d.inService c = true →
          d.voteTile t.val = (d.release t.val f).minority c))) ∧
    (∀ (d : Dev) (c : Fin 3), d.chState c.val = 1 → d.on F.TP_CFG_AUTO_RESYNC = false →
      (d.minority c.val).get F.TP_VOTE_MINORITY c.val = satInc 255 (d.get F.TP_VOTE_MINORITY c.val) % 256 ∧
      (d.minority c.val).get F.TP_CH_STRIKES c.val = satInc 255 (d.get F.TP_CH_STRIKES c.val) % 256 ∧
      (d.minority c.val).get F.TP_CH_CAUSE c.val = 1 ∧
      (d.minority c.val).get F.TP_CH_FENCES c.val = satInc 15 (d.get F.TP_CH_FENCES c.val) % 16 ∧
      (d.minority c.val).chState c.val = (if d.get F.TP_CFG_FENCE_MAX ≤ satInc 15 (d.get F.TP_CH_FENCES c.val) % 16 then 6 else 2) ∧
      (∃ r ∈ (d.minority c.val).fc.due, r.n = 0x10 + c.val) ∧
      ∀ p ∈ (d.minority c.val).tp.votes, ∀ x ∈ p.2.sets, x.ch ≠ c.val) ∧
    (∀ d b : Dev, d = s.seen 0 → d.live = true → d.tileGroup t.val = some g → (d.grp g).started = true → (d.vote t.val).closed = false →
      (d.vote t.val).k = (d.grp g).k →
      b = ((d.until' ((d.grp g).openTick + quarterUs (d.grp g).cfg.de - 150)).judgeDigests t.val true).voteAll →
      (b.vote t.val).released = none → b.bridging t.val = none →
      ∃ e : Dev, exec (.voterCutoff t) s = .next (s.settled e) ∧ (e.vote t.val).closed = true ∧
        (b.triplex = 1 ∨ b.triplex = 2 ∨ b.triplex = 3 → e.on F.PL_STATUS_MISSED t.val = true ∧
          e.get F.PL_MISSES_COUNT t.val = satInc (2 ^ F.PL_MISSES_COUNT.width - 1) (b.get F.PL_MISSES_COUNT t.val) % 2 ^ F.PL_MISSES_COUNT.width ∧
          e.get F.PL_STATUS_CONSEC t.val = satInc 15 (b.get F.PL_STATUS_CONSEC t.val) % 2 ^ F.PL_STATUS_CONSEC.width ∧
          (satInc 15 (b.get F.PL_STATUS_CONSEC t.val) = (d.grp g).cfg.missLimit → ∃ r ∈ e.fc.due, r.n = tileSource t.val 0))) ∧
    (∀ d : Dev, d = s.seen 0 → d.live = true → d.tileGroup t.val = some g → (d.grp g).started = true → (d.vote t.val).closed = false →
      (d.vote t.val).k = (d.grp g).k →
      ∃ e : Dev, exec (.voterCutoff t) s = .next (s.settled e) ∧ (e.vote t.val).closed = true ∧
        e.now = max d.now ((d.grp g).openTick + quarterUs (d.grp g).cfg.de - 150) ∧
        ∀ f : FrameSet, (d.vote t.val).released = some f →
          (e.vote t.val).released = some f ∧ e.get F.PL_MISSES_COUNT t.val = d.get F.PL_MISSES_COUNT t.val)

/-! Supplies -/

/-- Core rails, supply monitor, brake outputs below 2.0 V on VIO33 and temperature sensors (R79, R80, R465, R468, R469, R471, R478). That a VOUT_MODE byte with a nonzero bit 7:5 is not
ULINEAR16 is the model's (log entry 17).
So are the step at a limit of the rail (116) and when a monitored rail is out of range (151). -/
def Obligations.Supplies : Prop :=
  ∀ (s : State) (dt : Nat) (d : Dev), d = s.seen dt → d.live = true →
    (∀ (volts : List Nat) (held : Nat) (b : Dev),
      b = { d with pins := { d.pins with vio33Low := decide (nth volts 4 3300000 < 2000000) } } →
      (500 ≤ held → railsLow volts ≠ 0 ∨ railsHigh volts ≠ 0 → exec (.supplyOutOfRange dt volts held) s = .next (s.settled
        (((({ b with pm := { d.pm with supplyAt := d.now } } : Dev).set F.GL_SUPPLY_LOW (railsLow volts)).set F.GL_SUPPLY_HIGH (railsHigh volts)).cond
          0x006 true (railsHigh volts * 0x100 + railsLow volts)))) ∧
      (held < 500 ∨ (railsLow volts = 0 ∧ railsHigh volts = 0) → exec (.supplyOutOfRange dt volts held) s = .next (s.settled b)) ∧
      (nth volts 4 3300000 < 2000000 → b.brkHold 1 = false ∧ b.brkHold 2 = false) ∧
      (volts.length = 7 → ∀ n < 7, testBit (railsLow volts) n = decide (100 * nth volts n 0 < 98 * (nth railRange n (0, 0)).1) ∧
        testBit (railsHigh volts) n = decide (102 * (nth railRange n (0, 0)).2 < 100 * nth volts n 0))) ∧
    (∀ b : Dev, b = { d with pins := { d.pins with vio33Low := false } } →
      (d.pm.supplyAt + 50000 ≤ d.now →
        exec (.supplyRecovered dt) s = .next (s.settled (((b.set F.GL_SUPPLY_LOW 0).set F.GL_SUPPLY_HIGH 0).cond 0x006 false))) ∧
      (d.now < d.pm.supplyAt + 50000 → exec (.supplyRecovered dt) s = .next (s.settled b))) ∧
    (∀ ch : Fin 3,
      (∀ m : Option Byte, exec (.pmbusWriteResult dt ch false m) s =
        .next (s.settled ((d.flag F.GL_VCORE_FAIL true ch.val).cond (0x2D + ch.val) true ch.val))) ∧
      exec (.pmbusWriteResult dt ch true none) s = .next (s.settled d) ∧
      (∀ m : Byte, 32 ≤ m.toNat → exec (.pmbusWriteResult dt ch true (some m)) s =
        .next (s.settled ((d.flag F.GL_VCORE_FAIL true ch.val).cond (0x2D + ch.val) true ch.val))) ∧
      (∀ m : Byte, m.toNat < 32 → exec (.pmbusWriteResult dt ch true (some m)) s =
        .next (s.settled (({ d with pm := { d.pm with mode := setNth d.pm.mode ch.val (some m.toNat) } } : Dev).firstCommand ch.val)))) ∧
    (∀ (k : Fin 6) (v : BitVec 16), ∃ e : Dev, exec (.temperatureReading dt k v) s = .next (s.settled e) ∧
      e.getI F.GL_TEMP_NOW k.val = v.toInt ∧
      e.getI F.GL_TEMP_PEAK k.val = (if d.get F.GL_TEMP_PEAK k.val = 0x8000 then v.toInt else max v.toInt (d.getI F.GL_TEMP_PEAK k.val)) ∧
      (1760 < v.toInt → e.on F.FC_COND_COND 0x005 = true)) ∧
    (∀ (x : Fin 8) (up down : Byte), d.refusal x.val true 0x80 = none → d.ready F.GL_READY_JOURNAL = true →
      ∃ e : Dev, exec (.vadaptEnable dt x up down) s = .next (s.settled e) ∧ e.on F.GL_VADAPT_EN = true ∧
        e.get F.GL_VADAPT_UP_BELOW = (if down.toNat ≤ up.toNat then 50 else up.toNat) ∧
        e.get F.GL_VADAPT_DOWN_ABOVE = (if down.toNat ≤ up.toNat then 150 else down.toNat)) ∧
    (∀ g : Fin 4, (d.grp g.val).started = true → (d.grp g.val).k % 1024 = 1023 →
      (∀ p ∈ (d.grp g.val).tiles, (d.vote p.1).closed = true) → (∃ p ∈ (d.grp g.val).tiles, false ∈ (d.vote p.1).fresh) →
      ∃ e : Dev, exec (.slackWindowEnd dt g) s = .next (s.settled e) ∧
        (∀ p ∈ (d.grp g.val).tiles, (e.vote p.1).fresh = [true, true, true]) ∧
        ∀ (ch : Fin 3) (x : Int), (d.railAdapts ch.val = false → e.get F.GL_VCORE_CMD ch.val = d.get F.GL_VCORE_CMD ch.val) ∧
          (d.railAdapts ch.val = true → d.leastSlack ch.val (d.busyTiles.map (·.1)) = some x → x < 5 * (d.get F.GL_VADAPT_UP_BELOW : Int) →
            d.railFree ch.val = true → nth d.pm.first ch.val false = false → (nth d.pm.mode ch.val none).isSome = true →
            e.get F.GL_VCORE_CMD ch.val = min (max (d.get F.GL_VCORE_CMD ch.val + 10) (d.get F.GL_VLIMITS_VMIN)) (d.get F.GL_VLIMITS_VMAX) %
              2 ^ F.GL_VCORE_CMD.width))

/-! Lanes, loops and frames: an end n of a course c is 0 head, 1 foot -/

/-- Lane PLLs, receivers and transmitters (R220, R221, R227 to R229, R233 to R235, R239). A transmitter whose frame has ended and that has nothing
to send goes on with an IDLE comma, unless a mark is in its way. What the bits of a line show a receiver is
LineRx.scan (LineCode); each thing it shows moves the receiver, one after another, except in a loop, in which fill in error is counted.
The model's readings in it: when a lane die is ready (log entry 9), the order in which frames start and the IDLE comma (125), the stamp of a comma
(126) and the millisecond of an end (129). -/
def Obligations.Lanes : Prop :=
  ∀ (s : State) (dt : Nat) (d : Dev), d = s.seen dt → d.live = true →
    (∀ (p : Fin 8) (counts : List Nat), counts.length = 4 → d.on F.TB_STATUS_PLL_LOCKED = true → d.on F.TB_LPLL_STAT_LOCKED p.val = false →
      ((∀ i : Nat, i < 4 → d.lpllWithin p.val (d.now - 1024 * (3 - i)) (nth counts i 0) 2 = true) →
        ∃ e : Dev, exec (.lpllLock dt p counts) s = .next (s.settled e) ∧ e.on F.TB_LPLL_STAT_LOCKED p.val = true ∧
          e.on F.FC_COND_COND (0x140 + p.val) = false ∧ e.cm.dieUp = setNth d.cm.dieUp (p.val / 4) true) ∧
      ((∃ i : Nat, i < 4 ∧ d.lpllWithin p.val (d.now - 1024 * (3 - i)) (nth counts i 0) 2 = false) →
        exec (.lpllLock dt p counts) s = .next (s.settled d))) ∧
    (∀ (p : Fin 8) (count : Nat),
      (d.lpllWithin p.val d.now count 16 = false → d.on F.TB_LPLL_STAT_LOCKED p.val = true →
        ∃ e : Dev, exec (.lpllLockLoss dt p count) s = .next (s.settled e) ∧ e.on F.TB_LPLL_STAT_LOCKED p.val = false ∧
          e.on F.TB_LPLL_STAT_LOST p.val = true ∧ e.get F.TB_LPLL_STAT_LOSSES p.val = satInc 0xFFFF (d.get F.TB_LPLL_STAT_LOSSES p.val) ∧
          e.on F.FC_COND_COND (0x140 + p.val) = true ∧
          ∀ i n : Nat, i < 8 → n < 2 → e.on F.CM_LANE_STAT_TX_IDLE (8 * p.val + i) n = true ∧ (e.lane (8 * p.val + i) n).working = false) ∧
      (d.lpllWithin p.val d.now count 16 = true → exec (.lpllLockLoss dt p count) s = .next (s.settled d))) ∧
    (∀ (c : Fin 64) (n : Fin 2), d.nearLoop c.val n.val = false →
      (∃ e : Dev, exec (.signalDetected dt c n) s = .next (s.settled e) ∧ e.on F.CM_LANE_STAT_RX_SIGNAL c.val n.val = true ∧
        ((d.lane c.val n.val).rx = 0 → d.get F.CM_LANE_STAT_LOOP c.val n.val ≠ 3 → (e.lane c.val n.val).rx = 2)) ∧
      ∃ e : Dev, exec (.electricalIdleDetected dt c n) s = .next (s.settled e) ∧ e.on F.CM_LANE_STAT_RX_SIGNAL c.val n.val = false ∧
        (e.lane c.val n.val).rx = 0 ∧ (e.lane c.val n.val).working = false) ∧
    (∀ (c : Fin 64) (n : Fin 2) (bits : List Bool) (r : LineRx) (evs : List LaneEvent), (d.lane c.val n.val).line.scan bits = (r, evs) →
      exec (.commaReceived dt c n bits) s =
        .next (s.settled (evs.foldl (Dev.lineEvent c.val n.val) (d.modLane c.val n.val fun l => { l with line := r }))) ∧
      (d.looping c.val n.val = true → ∀ k : Nat, evs = [.fill k] → ∃ e : Dev, exec (.commaReceived dt c n bits) s = .next (s.settled e) ∧
        e.bank = (d.addTo F.CM_LANE_LOOP_BITERR k c.val n.val).bank ∧ (e.lane c.val n.val).rx = (d.lane c.val n.val).rx) ∧
      (d.looping c.val n.val = false → ∀ k : Nat, knownComma k = true → evs = [.comma k] →
        ∃ e : Dev, exec (.commaReceived dt c n bits) s = .next (s.settled e) ∧ e.on F.CM_LANE_STAT_EIDLE_SEEN c.val n.val = (k == 0xF0) ∧
          ((d.lane c.val n.val).rx = 2 → (e.lane c.val n.val).rx = 3) ∧
          ((d.lane c.val n.val).rx = 3 → 2 ≤ (d.lane c.val n.val).good → (e.lane c.val n.val).rx = 4 ∧ (e.lane c.val n.val).alignedAt = d.now) ∧
          ((d.lane c.val n.val).rx = 4 → (e.lane c.val n.val).rx = 4 ∧ (e.lane c.val n.val).working = (d.lane c.val n.val).working)) ∧
      (d.looping c.val n.val = false → evs = [.spacing] → (d.lane c.val n.val).rx = 4 → (d.lane c.val n.val).viol = 3 →
        (d.lane c.val n.val).clean < 16 →
        ∃ e : Dev, exec (.commaReceived dt c n bits) s = .next (s.settled e) ∧ (e.lane c.val n.val).rx = 2 ∧
          (e.lane c.val n.val).working = false ∧ e.get F.CM_LANE_ERR_ALIGN_LOSS c.val n.val = satInc 0xFF (d.get F.CM_LANE_ERR_ALIGN_LOSS c.val n.val) ∧
          e.get F.CM_LANE_ERR_SPACING c.val n.val = satInc (2 ^ F.CM_LANE_ERR_SPACING.width - 1) (d.get F.CM_LANE_ERR_SPACING c.val n.val))) ∧
    (∀ (c : Fin 64) (n : Fin 2),
      ((d.lane c.val n.val).eidleDue = true →
        ∃ e : Dev, exec (.transmitEidle dt c n) s = .next (s.settled e) ∧ e.out = d.out ++ [.eidle c.val (n.val == 1)] ∧
          e.on F.CM_LANE_STAT_TX_IDLE c.val n.val = true) ∧
      (∀ t : Nat, (d.lane c.val n.val).wakeEnd = some t → t ≤ d.now →
        ∃ e : Dev, exec (.wakeSequenceEnd dt c n) s = .next (s.settled e) ∧ (e.lane c.val n.val).wakeEnd = none ∧
          (e.lane c.val n.val).alignedAt = d.now ∧ e.out = d.out ++ [.idle c.val (n.val == 1) 1])) ∧
    (∀ (c : Fin 64) (n : Fin 2), (d.lane c.val n.val).ended = true → d.sending c.val n.val = true → (d.lane c.val n.val).txEnd < 10 * d.now →
      d.startsAt c.val n.val (d.lane c.val n.val).txEnd = none →
      ((d.goIdle c.val n.val).lane c.val n.val).ended = false ∧
      (clearOfMarks (d.rate c.val) (d.lineCt (d.lane c.val n.val).txEnd) (32 * uiUnits (d.rate c.val)) = true →
        (d.goIdle c.val n.val).out = d.out ++ [.idle c.val (n.val == 1) 1] ∧
        ((d.goIdle c.val n.val).lane c.val n.val).txEnd = (d.lane c.val n.val).txEnd + 32 * uiUnits (d.rate c.val)))

/-- Loops and holds of a lane (R238 to R242): a command that passes the checks of R238 enters its loop or hold, a far-end loop with its
ENTER word, unless the lane is idle; one that fails leaves its code; IDLE commas and loop words while it runs; a confirmation with its round
trip, a word that confirms nothing, the end without an answer and the end by command.
The order of the checks is that of the table (log entry 72); what confirms a loop and when EXIT is sent is the model's reading (log entry 127). -/
def Obligations.Loops : Prop :=
  ∀ (s : State) (dt : Nat) (d : Dev) (c : Fin 64) (n : Fin 2), d = s.seen dt → d.live = true →
    (∀ x : Fin 8, d.refusal x.val true (laneCtl c.val n.val) = none →
      (d.loopCheck c.val n.val 1 0 = 0 →
        ∃ e : Dev, exec (.loopNearSerial dt x c n) s = .next (s.settled e) ∧ e.get F.CM_LANE_STAT_LOOP c.val n.val = 1 ∧
          e.get F.CM_LANE_CTL_RESULT c.val n.val = 0 ∧ (e.lane c.val n.val).working = false) ∧
      (d.loopCheck c.val n.val 2 0 = 0 →
        ∃ e : Dev, exec (.loopNearParallel dt x c n) s = .next (s.settled e) ∧ e.get F.CM_LANE_STAT_LOOP c.val n.val = 2 ∧
          e.get F.CM_LANE_CTL_RESULT c.val n.val = 0 ∧ (e.lane c.val n.val).working = false) ∧
      (∀ h : BitVec 7, d.loopCheck c.val n.val 3 h.toNat = 0 →
        ∃ e : Dev, exec (.loopFarEnd dt x c n h) s = .next (s.settled e) ∧ e.get F.CM_LANE_STAT_LOOP c.val n.val = 3 ∧
          e.get F.CM_LANE_STAT_LOOP_HOPS c.val n.val = h.toNat ∧ e.on F.CM_LANE_CTL_BUSY c.val n.val = true ∧
          (d.on F.CM_LANE_STAT_TX_IDLE c.val n.val = false → e.out.getLast? = some (.frame c.val (n.val == 1) (.loopWord false h.toNat)))) ∧
      (d.loopCheck c.val n.val 4 0 = 0 →
        ∃ e : Dev, exec (.holdIdle dt x c n) s = .next (s.settled e) ∧ e.get F.CM_LANE_STAT_LOOP c.val n.val = 4 ∧
          e.get F.CM_LANE_CTL_RESULT c.val n.val = 0 ∧ (e.lane c.val n.val).working = false) ∧
      (d.loopCheck c.val n.val 0 0 = 0 →
        ∃ e : Dev, exec (.loopEnd dt x c n) s = .next (s.settled e) ∧ e.get F.CM_LANE_STAT_LOOP c.val n.val = 0 ∧
          e.get F.CM_LANE_CTL_RESULT c.val n.val = 0) ∧
      (∀ (i : Instr) (cmd hops : Nat), ((i = .loopNearSerial dt x c n ∧ cmd = 1 ∧ hops = 0) ∨ (i = .loopNearParallel dt x c n ∧ cmd = 2 ∧ hops = 0) ∨
          (∃ h : BitVec 7, i = .loopFarEnd dt x c n h ∧ cmd = 3 ∧ hops = h.toNat) ∨ (i = .holdIdle dt x c n ∧ cmd = 4 ∧ hops = 0) ∨
          (i = .loopEnd dt x c n ∧ cmd = 0 ∧ hops = 0)) →
        d.loopCheck c.val n.val cmd hops ≠ 0 →
        exec i s = .next (s.settled (d.set F.CM_LANE_CTL_RESULT (d.loopCheck c.val n.val cmd hops) c.val n.val)))) ∧
    (d.get F.CM_LANE_STAT_LOOP c.val n.val = 3 →
      (∀ commas : Nat, commas ≤ 1024 → d.on F.CM_LANE_STAT_TX_IDLE c.val n.val = false →
        ∃ e : Dev, exec (.loopWordSend dt c n commas) s = .next (s.settled e) ∧ e.bank = d.bank ∧
          e.out = d.out ++ (if commas = 0 then [] else [.idle c.val (n.val == 1) commas]) ++
            [.frame c.val (n.val == 1) (.loopWord false (d.get F.CM_LANE_STAT_LOOP_HOPS c.val n.val))]) ∧
      (∀ commas : Nat, d.on F.CM_LANE_STAT_TX_IDLE c.val n.val = true →
        ∃ e : Dev, exec (.loopWordSend dt c n commas) s = .next (s.settled e) ∧ e.bank = d.bank ∧ e.out = d.out) ∧
      (∀ (word : BitVec 64) (stamp sent : Nat) (rest : List Nat), (d.lane c.val n.val).loopSent = sent :: rest →
        (∀ h : Nat, loopCommand word.toNat = some (1, h) →
          ∃ e : Dev, exec (.loopConfirm dt c n word stamp) s = .next (s.settled e) ∧ e.on F.CM_LANE_CTL_BUSY c.val n.val = false ∧
            e.get F.CM_LANE_LOOP_RT c.val n.val = clampN 0xFFFF ((d.rxStamp c.val stamp + stampSpan - sent) % stampSpan / 10) ∧
            (e.lane c.val n.val).confirmed = true ∧ (e.lane c.val n.val).loopSent = rest) ∧
        (loopCommand word.toNat = none → exec (.loopConfirm dt c n word stamp) s =
          .next (s.settled (d.modLane c.val n.val fun l => { l with loopSent := rest })))) ∧
      ((d.lane c.val n.val).confirmed = false → (d.lane c.val n.val).loopAt + 500000 ≤ d.now →
        ∃ e : Dev, exec (.loopNoAnswer dt c n) s = .next (s.settled e) ∧ e.get F.CM_LANE_STAT_LOOP c.val n.val = 0 ∧
          e.get F.CM_LANE_CTL_RESULT c.val n.val = 5))

/-- The line code (R222 to R226, R241, R247, R259): scrambling twice gives the data back; a stuffed stream has no run of more than 9 equal
bits and is unstuffed to what was stuffed; a receiver takes from the bits after a comma its type and its data, recognises in the line a
comma of that type and, up to the next comma, no violation (R229); and what the device sends after a comma is a valid frame, a mark whose
CRC matches, or a loop word whose halves are complements. -/
def Obligations.LineCode : Prop :=
  (∀ (r : Nat) (l : List Bool), scramble r (scramble r l) = l ∧ (scramble r l).length = l.length) ∧
  (∀ (b : Bool) (n : Nat) (l : List Bool), n < 9 → unstuff b n (stuff b n l) = l ∧ longestRun b n (stuff b n l) ≤ 9) ∧
  (∀ (typ : BitVec 8) (data : List Bool), (lineOf typ data).take 24 = List.replicate 12 true ++ List.replicate 12 false ∧
    received ((lineOf typ data).drop 24) = (typeBits typ, data)) ∧
  (∀ (c : Nat) (foot : Bool) (f : Frame), received ((Out.frame c foot f).line.drop 24) = (typeBits f.comma, dataBits f.bytes)) ∧
  (∀ f : Frame, f.comma = 0x96 → (∀ tile e l, f = .rank tile e l → 1 ≤ l.length ∧ l.length ≤ 125) → checkFrame f.bytes false = .ok) ∧
  (∀ (typ : BitVec 8) (data : List Bool), 128 ≤ typ.toNat → data.length ≤ spacingMax →
    (LineRx.init.scan (lineOf typ data)).2 = [.comma typ.toNat]) ∧
  (∀ (ct sub : Nat) (foot : Bool), checkMark (Frame.timeMark ct foot sub).bytes = true) ∧
  (∀ (out : Bool) (hops : Nat), (Frame.loopWord out hops).bytes.length = 8 ∧
    leNat ((Frame.loopWord out hops).bytes.take 4) + leNat ((Frame.loopWord out hops).bytes.drop 4) = 0xFFFFFFFF)

/-- Frames that arrive (R191, R230, R232, R247, R249, R259, R266, R268, R295, R299) and the marks the device sends (R19, R259).
Nothing is taken from a receiver that is not ALIGNED, and an own CYCLE frame has crossed the ring in a cycle only if it is the one released in it
(R251).
That E and TAG_NEXT tell the frame of a cycle is the model's reading (log entry 82). -/
def Obligations.FramesArrive : Prop :=
  ∀ (s : State) (dt : Nat) (d : Dev), d = s.seen dt → d.live = true →
    (d.ct % 1800 = 0 → ∃ e : Dev, exec (.timeMarkSend dt) s = .next (s.settled e) ∧
      ∀ c n : Nat, c < 64 → n < 2 → d.sending c n = true → nth d.cm.hubBad (c / 32) false = false →
        Out.frame c (n == 1) (.timeMark d.ct (n == 1) (d.markSub c)) ∈ e.out) ∧
    (∀ (c : Fin 64) (n : Fin 2) (fr : RxFrame),
      (d.passes c.val n.val = false →
        (∀ stamp : Nat, exec (.timeMarkReceived dt c n fr stamp) s = .next (s.settled d) ∧
          exec (.probeReplyReceived dt c n fr stamp) s = .next (s.settled d)) ∧
        exec (.reportReceived dt c n fr) s = .next (s.settled d) ∧ exec (.pointReplyReceived dt c n fr) s = .next (s.settled d) ∧
        exec (.discoverReplyReceived dt c n fr) s = .next (s.settled d) ∧ exec (.ownFrameReturn dt c n fr) s = .next (s.settled d)) ∧
      (d.passes c.val n.val = true →
      (checkFrame fr.bytes fr.violation = .badCrc →
        exec (.reportReceived dt c n fr) s = .next (s.settled (d.count F.CM_FRM_ERR_CRC c.val n.val)) ∧
        exec (.pointReplyReceived dt c n fr) s = .next (s.settled (d.count F.CM_FRM_ERR_CRC c.val n.val)) ∧
        exec (.discoverReplyReceived dt c n fr) s = .next (s.settled (d.count F.CM_FRM_ERR_CRC c.val n.val)) ∧
        (∀ stamp : Nat, exec (.probeReplyReceived dt c n fr stamp) s = .next (s.settled (d.count F.CM_FRM_ERR_CRC c.val n.val))) ∧
        exec (.ownFrameReturn dt c n fr) s = .next (s.settled ((d.count F.CM_FRM_ERR_CRC c.val n.val).count F.CM_FRM_ERR_OWN_BAD c.val n.val))) ∧
      (∀ stamp t : Nat, fr.violation = false → checkMark fr.bytes = true → testBit (fieldLe fr.bytes 6 1) 7 = (n.val == 0) →
        t = (d.rxStamp c.val stamp + stampSpan - (10 * fieldLe fr.bytes 0 6 + fieldLe fr.bytes 6 1 % 16 + fieldLe fr.bytes 8 2) % stampSpan) % stampSpan →
        ∃ e : Dev, exec (.timeMarkReceived dt c n fr stamp) s = .next (s.settled e) ∧
          e.get F.CM_FRM_RING_TRANSIT c.val n.val = clampN 0xFFFFFFFF t ∧ (if n.val = 1 then (e.crs c.val).tA else (e.crs c.val).tD) = some t ∧
          (e.lane c.val n.val).markMiss = 0) ∧
      (checkFrame fr.bytes fr.violation = .ok → fieldLe fr.bytes 0 1 = 1 → (d.crs c.val).cycleSent ≠ some (fieldLe fr.bytes 4 3, fieldLe fr.bytes 12 2) →
        exec (.ownFrameReturn dt c n fr) s =
          .next (s.settled ((d.modLane c.val n.val fun l => { l with markMiss := 0 }).refreshCourse c.val))) ∧
      (checkFrame fr.bytes fr.violation = .ok → fieldLe fr.bytes 0 1 = 1 → (d.crs c.val).cycleSent = some (fieldLe fr.bytes 4 3, fieldLe fr.bytes 12 2) →
        ∃ e : Dev, exec (.ownFrameReturn dt c n fr) s = .next (s.settled e) ∧ (e.lane c.val n.val).markMiss = 0 ∧
          (if n.val = 1 then (e.crs c.val).crossH else (e.crs c.val).crossF) = true) ∧
      (∀ g b : Nat, checkFrame fr.bytes fr.violation = .ok → fieldLe fr.bytes 0 1 = 0x41 → b = fieldLe fr.bytes 2 2 % 0x2000 → b / 128 = c.val →
        testBit (fieldLe fr.bytes 1 1) 2 = false → testBit (fieldLe fr.bytes 1 1) 4 = false → d.groupOf c.val = some g → (d.grp g).started = true →
        fieldLe fr.bytes 4 2 = (d.grp g).k % 0x10000 → d.now - (d.grp g).openTick ≤ quarterUs (d.grp g).cfg.dr → tabGet d.cm.copies b = none →
        ∃ e : Dev, exec (.reportReceived dt c n fr) s = .next (s.settled e) ∧
          e.copiesOf b = [⟨fieldLe fr.bytes 6 2, fieldLe fr.bytes 8 2, testBit (fieldLe fr.bytes 1 1) 7,
            fieldLe fr.bytes 1 1 / 4 + 64 * fieldLe fr.bytes 10 2⟩]) ∧
      (∀ q : PtReq, checkFrame fr.bytes fr.violation = .ok → fieldLe fr.bytes 0 1 = 0x42 → fieldLe fr.bytes 1 1 = 0 → q.cls = 2 → q.write = false →
        ((d.flying c.val n.val).find? fun q => q.tid == fieldLe fr.bytes 2 1 && q.brick == fieldLe fr.bytes 4 2 % 0x2000 &&
          q.index == fieldLe fr.bytes 6 2 % 0x1000) = some q →
        exec (.pointReplyReceived dt c n fr) s = .next (s.settled
          (((((d.count F.CM_CRS_PT_DONE c.val).dropReq q).readValue q.rd q.slot (fieldLe fr.bytes 8 4)).checkOn q.brick).pump c.val)))))

/-- Discovery, measurement and the transaction window (R251, R266 to R269, R281): a brick that answers the query at an empty position is
FOUND and the next hop is asked; without an answer the next phase follows; a probe's reply gives the two-way path; the window of an end
opens once it is due there, until the next opening.
The order of the queries from the two ends (log entry 69) and what tells the CYCLE frame of a cycle (log entry 82) are the model's readings. -/
def Obligations.DiscoveryAndWindow : Prop :=
  ∀ (s : State) (dt : Nat) (d : Dev) (c : Fin 64), d = s.seen dt → d.live = true →
    (∀ (fr : RxFrame) (q : Disc), d.passes c.val 0 = true → checkFrame fr.bytes fr.violation = .ok → fieldLe fr.bytes 0 1 = 0x43 →
      fieldLe fr.bytes 1 1 = 1 → (d.crs c.val).disc = some q → q.phase = 0 → q.hop + 1 < (if d.nc c.val = 0 then 128 else d.nc c.val) →
      q.hop < 128 → d.entry c.val q.hop = 0 →
      ∃ e : Dev, exec (.discoverReplyReceived dt c 0 fr) s = .next (s.settled e) ∧ e.entry c.val q.hop = 1 ∧
        (∃ at' : Nat, (e.crs c.val).disc = some ⟨0, q.hop + 1, d.now - q.sentAt, at'⟩) ∧
        e.get F.CM_DIR_W1_UID_LO c.val q.hop = fieldLe fr.bytes 8 8 % 0x100000000 ∧
        e.get F.CM_DIR_W2_UID_HI c.val q.hop = fieldLe fr.bytes 8 8 / 0x100000000 % 0x100000000) ∧
    (∀ q : Disc, (d.crs c.val).disc = some q → q.phase ≠ 5 → d.asks c.val = false → q.sentAt + q.rtt + 2000 ≤ d.now →
      exec (.discoverTimeout dt c) s = .next (s.settled (if q.phase = 0 then d.footQueries c.val else d.assignNext c.val))) ∧
    (∀ (n : Fin 2) (fr : RxFrame) (stamp : Nat) (x : Probe), d.passes c.val n.val = true → checkFrame fr.bytes fr.violation = .ok →
      fieldLe fr.bytes 0 1 = 0x44 →
      ((d.crs c.val).probing.find? fun y => y.e == n.val && y.tid == fieldLe fr.bytes 2 1 && 128 * c.val + y.pos == fieldLe fr.bytes 4 2 % 0x2000) =
        some x → x.pos < 128 →
      ∃ e : Dev, exec (.probeReplyReceived dt c n fr stamp) s = .next (s.settled e) ∧
        e.way c.val x.pos n.val = some ((d.rxStamp c.val stamp + stampSpan - x.stamp) % stampSpan - fieldLe fr.bytes 8 4) ∧
        (if n.val = 0 then e.on F.CM_DIR_W0_FROM_H c.val x.pos else e.on F.CM_DIR_W0_FROM_F c.val x.pos) = true) ∧
    (∀ g : Nat, d.groupOf c.val = some g → d.alwaysOpen c.val = false → (d.windowDue c.val 0 || d.windowDue c.val 1) = true →
      ∃ e : Dev, exec (.transactionWindowOpen dt c) s = .next (s.settled e) ∧
        (∀ n : Fin 2, (e.crs c.val).window n.val = ((d.crs c.val).window n.val || d.windowDue c.val n.val)) ∧
        (e.crs c.val).windowEnd = (d.grp g).openTick + halfUs (d.grp g).cfg.cycle) ∧
    (d.alwaysOpen c.val = false → d.windowDue c.val 0 = false → d.windowDue c.val 1 = false →
      exec (.transactionWindowOpen dt c) s = .next (s.settled d))

/-! Courses, bricks and points -/

/-- The life of a course (R278, R279, R282, R290): an end works after 1 ms aligned, a split course is SPLIT, discovery ends in the state the
ends give, a check ends CHECKED or REFUSED with its reason, and a measurement falls due after PERIOD. Commands of CM_CRS_CMD and the
automatic admission (R285 to R290, R301): a command that fails a check of R301 leaves its code; on a bound course it is pending until a D_R;
on a course without a tile it acts at once; and a CHECKED brick that may enter is ADMITTING. An OUT entry returns only by ADMIT, through the check
of R282: one that answers again is settled afresh and waits CHECKED for ADMIT, whether a REMOVE or a rediscovery took it out (R286, R289; log
entry 70), and ADMIT begins its check.
The order of the checks (log entry 51) and the millisecond of an end (log entry 129) are the model's readings. -/
def Obligations.Courses : Prop :=
  (∀ (s : State) (dt : Nat) (d : Dev), d = s.seen dt → d.live = true →
      (∀ (c : Fin 64) (n : Fin 2), (d.lane c.val n.val).working = false → (d.lane c.val n.val).rx = 4 →
        (d.lane c.val n.val).alignedAt + 500000 ≤ d.now → (d.lane c.val n.val).wakeEnd = none → d.mustIdle c.val = false →
        d.on F.CM_LANE_STAT_TX_IDLE c.val n.val = false → d.get F.CM_LANE_STAT_LOOP c.val n.val = 0 →
        ∃ e : Dev, exec (.courseEndWorking dt c n) s = .next (s.settled e) ∧ (e.lane c.val n.val).working = true ∧
          (if n.val = 0 then e.on F.CM_CRS_STAT_H_WORKING c.val else e.on F.CM_CRS_STAT_F_WORKING c.val) = true) ∧
      (∀ c : Fin 64, (∀ n : Nat, n < 2 → (d.lane c.val n).working = true ∧ 3 ≤ (d.lane c.val n).markMiss) → 2 ≤ d.get F.CM_CRS_STAT_STATE c.val →
        ∃ e : Dev, exec (.courseSplit dt c) s = .next (s.settled e) ∧ e.get F.CM_CRS_STAT_STATE c.val = 5) ∧
      (∀ (c : Fin 64) (q : Disc), (d.crs c.val).disc = some q → q.phase = 5 → d.get F.CM_CRS_STAT_STATE c.val = 1 → d.bound c.val = true →
        (∀ p : Nat, p < 128 → d.entry c.val p ≠ 1 ∧ d.entry c.val p ≠ 2) →
        ∃ e : Dev, exec (.discoveryComplete dt c) s = .next (s.settled e) ∧ (e.crs c.val).disc = none ∧
          e.get F.CM_CRS_STAT_STATE c.val = d.settledState c.val) ∧
      (∀ b : Fin 8192, (d.dir b.val).phase = 5 → d.entry (b.val / 128) (b.val % 128) = 2 →
        ∃ e : Dev, exec (.brickCheckComplete dt b) s = .next (s.settled e) ∧ (e.dir b.val).phase = 0 ∧
          ((d.dir b.val).verdict = 0 → e.entry (b.val / 128) (b.val % 128) = 3) ∧
          ((d.dir b.val).verdict ≠ 0 → e.entry (b.val / 128) (b.val % 128) = 7 ∧
            e.get F.CM_DIR_W0_REASON (b.val / 128) (b.val % 128) = (d.dir b.val).verdict % 16)) ∧
      (∀ c : Fin 64, 2 ≤ d.get F.CM_CRS_STAT_STATE c.val → (d.crs c.val).measAt + 500000000 * d.get F.CM_CRS_MEAS_PERIOD c.val ≤ d.now →
        ∃ e : Dev, exec (.measurePeriod dt c) s = .next (s.settled e) ∧ (e.crs c.val).measuring = true ∧ (e.crs c.val).measAt = d.now)) ∧
  (∀ (s : State) (dt : Nat) (d : Dev), d = s.seen dt → d.live = true →
      (∀ (x : Fin 8) (c : Fin 64) (pos : BitVec 7) (i : Instr) (op p : Nat), d.refusal x.val true (crsCmd c.val) = none →
        ((i = .admitCmd dt x c pos ∧ op = 1 ∧ p = pos.toNat) ∨ (i = .remove dt x c pos ∧ op = 2 ∧ p = pos.toNat) ∨
          (i = .rediscover dt x c ∧ op = 3 ∧ p = 0) ∨ (i = .measure dt x c ∧ op = 4 ∧ p = 0)) →
        (d.crsCheck c.val op p ≠ 0 → exec i s = .next (s.settled (d.set F.CM_CRS_CMD_RESULT (d.crsCheck c.val op p) c.val))) ∧
        (d.crsCheck c.val op p = 0 → d.bound c.val = true →
          ∃ e : Dev, exec i s = .next (s.settled e) ∧ (e.crs c.val).cmd = some (op, p) ∧ (e.crs c.val).cmdAt = d.now ∧
            e.on F.CM_CRS_CMD_BUSY c.val = true ∧ e.get F.CM_CRS_CMD_RESULT c.val = 0 ∧
            d.sameRegs e [F.CM_CRS_CMD_BUSY, F.CM_CRS_CMD_RESULT] ∧ e.out = d.out) ∧
        (d.crsCheck c.val op p = 0 → d.bound c.val = false →
          exec i s = .next (s.settled ((d.set F.CM_CRS_CMD_RESULT 0 c.val).crsAct c.val op p)))) ∧
      (∀ (b : Fin 8192) (t i g : Nat), d.brickIndex b.val = some (t, i) → d.groupOf (b.val / 128) = some g → (d.grp g).started = true →
        (d.grp g).openTick + quarterUs (d.grp g).cfg.dr ≤ d.now → (d.dir b.val).checkedAt < (d.grp g).openTick + quarterUs (d.grp g).cfg.dr →
        d.entry (b.val / 128) (b.val % 128) = 3 → 2 ≤ d.get F.CM_CRS_STAT_STATE (b.val / 128) →
        ((d.dir b.val).ordered = true ∨ ((d.dir b.val).byAdmit = false ∧
          (d.on F.CM_CRS_CTL_AUTO (b.val / 128) = true ∨ d.deblocked g = false ∨ 0 < (d.dir b.val).fails))) →
        ∃ e : Dev, exec (.automaticAdmission dt b) s = .next (s.settled e) ∧ e.entry (b.val / 128) (b.val % 128) = 4) ∧
      (∀ b : Fin 8192, d.entry (b.val / 128) (b.val % 128) ≠ 3 ∨ ((d.dir b.val).ordered = false ∧ (d.dir b.val).byAdmit = true) →
        exec (.automaticAdmission dt b) s = .next (s.settled d))) ∧
  (∀ (d : Dev) (c p : Nat), p < 128 →
      (d.takeOut c p).entry c p = 6 ∧ ((d.takeOut c p).dir (128 * c + p)).byAdmit = true ∧
      (d.entry c p = 4 ∨ d.entry c p = 5 → d.crsAct c 2 p = d.takeOut c p) ∧
      (∀ n num kind uid rtt : Nat, d.entry c p = 6 → d.get F.CM_DIR_W1_UID_LO c p + 0x100000000 * d.get F.CM_DIR_W2_UID_HI c p = uid →
        (d.foundAt c p n num kind uid rtt).entry c p = 1 ∧
        ((d.foundAt c p n num kind uid rtt).dir (128 * c + p)).byAdmit = (d.dir (128 * c + p)).byAdmit) ∧
      (d.entry c p = 6 → ∃ e : Dev, d.crsAct c 1 p = e.pump c ∧ e.entry c p = 2 ∧ (e.dir (128 * c + p)).ordered = true ∧
        (e.dir (128 * c + p)).byAdmit = false ∧ (e.dir (128 * c + p)).phase = 1))

/-- The point window (R292, R293, R295, R296, R297): a closed context and a request against R292 read zeros or ones and write nothing; a point of
an absent brick fails at once. A read of a point that the hub holds, of the directory or mirrored, is answered from the hub, once the writes of its
context to the brick have ended; any other is queued for the course and answered by its reply. A write to a point that the course manager owns
is refused with OWNED; one that may start is queued; a reply that does not come is asked for once more and then ends with
TIMEOUT; and a request ends at its limit.
That a contract point the hub does not hold is asked of the brick (log entry 81), and what a directory point not yet read returns (log entry 176),
is the model's. -/
def Obligations.PointWindow : Prop :=
  ∀ (s : State) (dt : Nat) (d : Dev), d = s.seen dt → d.live = true →
    (∀ (x : Fin 8) (addr n : Nat),
      (∀ cause : Nat, d.bar2Refusal x.val false = some cause →
        exec (.pointRead dt x addr n) s = .next (s.settled
          ((d.refuse x.val true false cause addr).emit (.pointData x.val addr (List.replicate n 0))))) ∧
      (d.bar2Refusal x.val false = none → pointFormOk addr n = false →
        exec (.pointRead dt x addr n) s = .next (s.settled
          (((d.refuse x.val true false 2 addr).pointFail x.val 0x15 (addr / 4)).emit (.pointData x.val addr (List.replicate n 0xFFFFFFFF))))) ∧
      (d.bar2Refusal x.val false = none → pointFormOk addr 1 = true → d.entry (addr / 4 / 4096 / 128) (addr / 4 / 4096 % 128) = 0 →
        (∀ r ∈ d.cm.reads, r.num ≠ d.cm.nextRead) →
        ∃ e : Dev, exec (.pointRead dt x addr 1) s = .next (s.settled e) ∧ Out.pointData x.val addr [0xFFFFFFFF] ∈ e.out ∧
          e.get F.GL_PT_ERR_W0_STATUS x.val = 0x10 ∧ e.cm.nextRead = d.cm.nextRead + 1) ∧
      (d.bar2Refusal x.val false = none → pointFormOk addr n = true →
        ∃ e : Dev, exec (.pointRead dt x addr n) s = .next (s.settled e) ∧ e.cm.nextRead = d.cm.nextRead + 1 ∧ e.grps = d.grps ∧ e.store = d.store) ∧
      (∀ b i : Nat, b = addr / 4 / 4096 → i = addr / 4 % 4096 → d.bar2Refusal x.val false = none → pointFormOk addr 1 = true →
        d.entry (b / 128) (b % 128) ≠ 0 → d.noPoint b i = false → (∀ r ∈ d.cm.reads, r.num ≠ d.cm.nextRead) →
        (∀ v : Nat, d.heldPoint b i = some v → (∀ q ∈ d.cm.reqs, q.cls = 2 → q.write = false → q.rd ≠ d.cm.nextRead) →
          (∀ q ∈ d.cm.reqs, ¬ (q.cls = 2 ∧ q.write = true ∧ q.ctx = x.val ∧ q.brick = b)) →
          ∃ e : Dev, exec (.pointRead dt x addr 1) s = .next (s.settled e) ∧ Out.pointData x.val addr [v] ∈ e.out) ∧
        (d.heldPoint b i = none → d.get F.CM_CRS_STAT_STATE (b / 128) ≠ 0 →
          exec (.pointRead dt x addr 1) s = .next (s.settled
            ((({ d with cm := { d.cm with nextRead := d.cm.nextRead + 1, reads := d.cm.reads ++ [⟨d.cm.nextRead, x.val, none, addr, [none], d.now⟩] } } : Dev).ask
              2 x.val d.cm.nextRead 0 false b i 0).pump (b / 128)))) ∧
        (d.heldPoint b i = none → d.get F.CM_CRS_STAT_STATE (b / 128) = 0 →
          ∃ e : Dev, exec (.pointRead dt x addr 1) s = .next (s.settled e) ∧ Out.pointData x.val addr [0xFFFFFFFF] ∈ e.out ∧
            e.get F.GL_PT_ERR_W0_STATUS x.val = 0x13))) ∧
    (∀ (r : PtRead) (num v : Nat), d.cm.reads.find? (·.num == num) = some r → r.vals = [none] → r.dma = none →
      (d.readValue num 0 v).out = d.out ++ [.pointData r.ctx r.addr [v]] ∧ (d.readValue num 0 v).cm.reads = d.cm.reads.filter (·.num ≠ num)) ∧
    (∀ b i : Nat, d.heldPoint b 2 = some (d.get F.CM_DIR_W1_UID_LO (b / 128) (b % 128)) ∧
      d.heldPoint b 3 = some (d.get F.CM_DIR_W2_UID_HI (b / 128) (b % 128)) ∧ d.heldPoint b 0x10 = some (d.dir b).latH ∧ d.heldPoint b 0x11 = some (d.dir b).latF ∧
      (∀ im : ImageBody, 0x14 ≤ i → (i < 0x30 ∨ 0x32 < i) → d.mo.image = some im →
        ((tabD im.points.mirrors (d.get F.CM_DIR_W0_KIND (b / 128) (b % 128)) []).contains i = true → d.heldPoint b i = tabGet (d.dir b).mirror i) ∧
        ((tabD im.points.mirrors (d.get F.CM_DIR_W0_KIND (b / 128) (b % 128)) []).contains i = false → d.heldPoint b i = none))) ∧
    (∀ (x : Fin 8) (addr : Nat) (v : Word),
      (∀ cause : Nat, d.bar2Refusal x.val true = some cause →
        exec (.pointWrite dt x addr [v] true) s = .next (s.settled (d.refuse x.val true true cause addr))) ∧
      (d.bar2Refusal x.val true = none → pointFormOk addr 1 = true → d.entry (addr / 4 / 4096 / 128) (addr / 4 / 4096 % 128) ≠ 0 →
        (addr / 4 % 4096 < 0x10 ∨ (0x12 < addr / 4 % 4096 ∧ addr / 4 % 4096 < 0x30) ∨ 0x32 < addr / 4 % 4096) →
        d.get F.CM_CRS_STAT_STATE (addr / 4 / 4096 / 128) ≠ 0 →
        exec (.pointWrite dt x addr [v] true) s = .next (s.settled
          ((d.ask 2 x.val 0 0 true (addr / 4 / 4096) (addr / 4 % 4096) v.toNat).pump (addr / 4 / 4096 / 128)))) ∧
      (d.bar2Refusal x.val true = none → pointFormOk addr 1 = true →
        (d.entry (addr / 4 / 4096 / 128) (addr / 4 / 4096 % 128) = 0 →
          exec (.pointWrite dt x addr [v] true) s = .next (s.settled ((d.pointFail x.val 0x10 (addr / 4)).pump (addr / 4 / 4096 / 128)))) ∧
        (d.entry (addr / 4 / 4096 / 128) (addr / 4 / 4096 % 128) ≠ 0 →
          ((0x10 ≤ addr / 4 % 4096 ∧ addr / 4 % 4096 ≤ 0x12) ∨ (0x30 ≤ addr / 4 % 4096 ∧ addr / 4 % 4096 ≤ 0x32) →
            exec (.pointWrite dt x addr [v] true) s = .next (s.settled ((d.pointFail x.val 0x11 (addr / 4)).pump (addr / 4 / 4096 / 128)))) ∧
          ((addr / 4 % 4096 < 0x10 ∨ (0x12 < addr / 4 % 4096 ∧ addr / 4 % 4096 < 0x30) ∨ 0x32 < addr / 4 % 4096) →
            d.get F.CM_CRS_STAT_STATE (addr / 4 / 4096 / 128) = 0 →
            exec (.pointWrite dt x addr [v] true) s = .next (s.settled ((d.pointFail x.val 0x13 (addr / 4)).pump (addr / 4 / 4096 / 128)))))) ∧
      (d.bar2Refusal x.val true = none → exec (.pointWrite dt x addr [v] false) s = .next (s.settled
        ((d.refuse x.val true true 2 addr).pointFail x.val 0x15 (addr / 4))))) ∧
    (∀ (c : Fin 64) (tid : Byte) (q : PtReq) (foot : Bool) (at' : Nat),
      (d.cm.reqs.find? fun q => q.brick / 128 == c.val && q.tid == tid.toNat && q.sent.isSome) = some q → q.sent = some (foot, at') →
      d.replyDue q foot at' ≤ d.now →
      (q.write = false → q.tries = 0 → exec (.pointTimeout dt c tid) s = .next (s.settled
        (({ d with cm := { d.cm with reqs := d.cm.reqs.map fun r => if r = q then { q with sent := none, tries := 1, avoid := some foot } else r } } : Dev).pump
          c.val))) ∧
      (q.write = true ∨ q.tries ≠ 0 → exec (.pointTimeout dt c tid) s = .next (s.settled (d.lostReq q 0x12)))) ∧
    (∀ q : PtReq, (d.cm.reqs.filter fun q => q.cls == 2 && q.ctx < 8 && (!q.write || q.sent.isNone) &&
        decide (q.since + 5000 * d.get F.GL_PT_CFG_LIMIT ≤ d.now)) = [q] →
      exec (.pointLimit dt) s = .next (s.settled ((d.endReq q 0x14).pump (q.brick / 128)))) ∧
    (∀ (c : Fin 64) (im : ImageBody), d.mo.image = some im → im.points.mirrorPeriod ≠ 0 →
      (d.crs c.val).mirrorAt + msTicks im.points.mirrorPeriod ≤ d.now →
      ∃ e : Dev, exec (.mirrorRefresh dt c) s = .next (s.settled e) ∧ (e.crs c.val).mirrorAt = d.now ∧
        e.get F.CM_CRS_PT_MIRROR_LATE c.val = (if (d.cm.reqs.any fun q => q.cls == 3 && q.brick / 128 == c.val) = true then
          satInc 0xFF (d.get F.CM_CRS_PT_MIRROR_LATE c.val) else d.get F.CM_CRS_PT_MIRROR_LATE c.val))

/-! The measurement intake -/

/-- Frames at a station port (R302, R304, R305, R307, R312 to R315): a bad check sequence and a security part are counted and the frame goes
no further; an ASDU of the one subscription that matches is taken, and a synchronised new sample makes it GOOD on that port; a new state of
a GOOSE subscription sets its number and its deadline.
That a frame serves every subscription it matches (log entry 83) and what a retransmission restores (log entry 84) is the model's. -/
def Obligations.StationFrames : Prop :=
  ∀ (s : State) (dt : Nat) (d : Dev) (port : Fin 4), d = s.seen dt → d.live = true →
    (∀ up : Bool, exec (.stationPortLinkChange dt port up) s = .next (s.settled (d.flag F.SI_PORT_LINK up port.val))) ∧
    (d.on F.SI_PORT_LINK port.val = true → d.ready F.GL_READY_INTAKE = true →
      (∀ (fr : SvFrame) (sub : Nat),
        (fr.badFcs = true → exec (.svFrameReceived dt port fr sub) s = .next (s.settled (d.count F.SI_PORT_FCS_ERR port.val))) ∧
        (fr.badFcs = false → fr.secLen ≠ 0 → exec (.svFrameReceived dt port fr sub) s = .next (s.settled (d.count F.SI_PORT_SEC_REJ port.val))) ∧
        (∀ (k : Nat) (c : SvSub) (u : SvAsdu), fr.badFcs = false → fr.secLen = 0 → d.si.streams.svs = [(k, c)] → fr.asdus = [u] →
          fr.mac = c.mac → fr.appid = c.appid → (c.vlan = none ∨ fr.vlan = c.vlan) → testBit c.ports port.val = true → u.svId = c.svId →
          u.confRev = c.confRev → d.isFenced (0x160 + k) = false → u.smpCnt < c.rate → c.nval ≤ u.data.length →
          (u.smpSynch = 1 ∨ u.smpSynch = 2) → d.on F.TB_STATUS_SV_SUSPECT = false →
          ((d.sv k).samples.find? fun x => x.cnt == u.smpCnt && decide (d.stamp16 sub < x.accepted + 65536000000000)) = none →
          ∃ e : Dev, exec (.svFrameReceived dt port fr sub) s = .next (s.settled e) ∧ e.get F.SI_SV_STAT_W0_STATE k = 2 ∧
            e.get F.SI_SV_STAT_W0_PORT k = port.val ∧ e.on F.FC_COND_COND (0x160 + k) = false ∧ (e.sv k).lost = false ∧ (e.sv k).silentAt = d.now + silence c ∧
            ((e.sv k).samples.head?.map fun x => (x.cnt, x.accepted, x.time)) = some (u.smpCnt, d.stamp16 sub, sampleTime c true u (d.stamp16 sub)))) ∧
      (∀ m : GooseMsg, (m.badFcs = true → exec (.gooseReceived dt port m) s = .next (s.settled (d.count F.SI_PORT_FCS_ERR port.val))) ∧
        (m.badFcs = false → m.secLen ≠ 0 → exec (.gooseReceived dt port m) s = .next (s.settled (d.count F.SI_PORT_SEC_REJ port.val)))) ∧
      (∀ (m : GooseMsg) (n : Nat) (c : GoSub), m.badFcs = false → m.secLen = 0 → d.si.streams.gos = [(n, c)] → m.mac = c.mac → m.appid = c.appid →
        m.ident = c.ident → testBit c.ports port.val = true → m.confRev = c.confRev → m.ndsCom = false → (m.test = false ∨ c.testOk = true) →
        d.isFenced (0x180 + n) = false → (d.goose n).stNum ≠ some m.stNum →
        ∃ e : Dev, exec (.gooseReceived dt port m) s = .next (s.settled e) ∧ e.get F.SI_GO_SUB_STNUM n = m.stNum % 0x10000 ∧
          e.on F.SI_GO_SUB_LOST n = false ∧ e.on F.FC_COND_COND (0x180 + n) = false ∧
          e.goose n = ⟨some m.stNum, m.sqNum, d.now + msTicks (min m.tal c.talCap), false⟩))

/-- Streams that fall silent and messages of the device (R312, R315, R318).
The wrap of the numbers (log entry 135), a stream that stays SILENT (131) and a subscription without a message (133) are the model's. -/
def Obligations.StreamsAndPublications : Prop :=
  ∀ (s : State) (dt : Nat) (d : Dev), d = s.seen dt → d.live = true →
    (∀ (k : Fin 32) (c : SvSub), tabGet d.si.streams.svs k.val = some c →
      ((d.sv k.val).silentAt ≤ d.now → exec (.svSilent dt k) s = .next (s.settled (d.set F.SI_SV_STAT_W0_STATE 1 k.val))) ∧
      (d.now < (d.sv k.val).silentAt → exec (.svSilent dt k) s = .next (s.settled d)) ∧
      (d.get F.SI_SV_STAT_W0_STATE k.val = 1 → (d.sv k.val).lost = false → (d.sv k.val).silentAt + msTicks c.lostTime ≤ d.now →
        ∃ e : Dev, exec (.svLost dt k) s = .next (s.settled e) ∧ (e.sv k.val).lost = true ∧ e.on F.SI_SV_STAT_W0_LOST_RAISED k.val = true ∧
          e.on F.FC_COND_COND (0x160 + k.val) = true)) ∧
    (∀ (n : Fin 64) (c : GoSub), tabGet d.si.streams.gos n.val = some c → (d.goose n.val).lost = false → (d.goose n.val).deadline ≤ d.now →
      ∃ e : Dev, exec (.gooseLost dt n) s = .next (s.settled e) ∧ (e.goose n.val).lost = true ∧ e.on F.SI_GO_SUB_LOST n.val = true ∧
        e.on F.FC_COND_COND (0x180 + n.val) = true ∧
        ∀ m : GoMember, c.members = [m] → testBit e.si.giValid m.bitNo = false ∧
          testBit e.si.gi m.bitNo = (if m.dflt = 2 then testBit d.si.gi m.bitNo else m.dflt == 1)) ∧
    (∀ (n : Nat) (p : GoPub) (u : PubSt), d.ready F.GL_READY_INTAKE = true → d.si.streams.pubs = [(n, p)] → tabD d.si.pubs n .init = u →
      (d.ct % 2500 ≠ 0 → exec (.goosePubEvaluation dt) s = .next (s.settled d)) ∧
      (d.ct % 2500 = 0 → u.last = [] → exec (.goosePubEvaluation dt) s = .next (s.settled
        (d.publish n p u.stNum u.sqNum (500 * p.minTime) (d.dataset p)))) ∧
      (u.last ≠ [] → d.dataset p = u.last → exec (.goosePubEvaluation dt) s = .next (s.settled d)) ∧
      (d.ct % 2500 = 0 → u.last ≠ [] → d.dataset p ≠ u.last →
        ∃ e : Dev, exec (.goosePubEvaluation dt) s = .next (s.settled e) ∧ tabGet e.si.pubs n = some ⟨d.dataset p, (u.stNum + 1) % 0x100000000, 0,
          d.now + 500 * p.minTime, 500 * p.minTime⟩ ∧ e.get F.SI_GO_PUB_STNUM n = (u.stNum + 1) % 0x100000000 % 0x10000 ∧
          e.out = d.out ++ [.goose n p ((u.stNum + 1) % 0x100000000) 0 (2 * (500 * p.minTime)) (d.on F.SI_GO_PUB_CTL_TEST) (d.dataset p)])) ∧
    (∀ (n : Fin 8) (p : GoPub) (u : PubSt), tabGet d.si.streams.pubs n.val = some p → tabD d.si.pubs n.val .init = u → u.last ≠ [] → u.nextAt ≤ d.now →
      ∃ e : Dev, exec (.gooseRetransmit dt n) s = .next (s.settled e) ∧ tabGet e.si.pubs n.val = some ⟨u.last, u.stNum, (u.sqNum + 1) % 0x100000000,
        d.now + min (2 * u.interval) (500 * p.maxTime), min (2 * u.interval) (500 * p.maxTime)⟩ ∧
        e.out = d.out ++ [.goose n.val p u.stNum ((u.sqNum + 1) % 0x100000000) (2 * min (2 * u.interval) (500 * p.maxTime))
          (d.on F.SI_GO_PUB_CTL_TEST) u.last])

/-- Local converters (R49, R319 to R325): a trigger starts a run, an entry's result is delivered once its ready clock has come, 10 clocks after
its last conversion, a continuous output, formed once its window is converted, goes to the ring in the working store and nowhere else, and a
write of LM_CONT waits for its edge.
The filter's window (log entry 85) and a run or output with another number of conversions (log entry 172) are the model's. -/
def Obligations.Converters : Prop :=
  ∀ (s : State) (dt : Nat) (d : Dev), d = s.seen dt → d.live = true → d.si.lms.length = 4 →
    (d.get F.GL_START_KILN = 0 → ∃ e : Dev, exec (.intakeLocalmeasDmaReady dt) s = .next (s.settled e) ∧ e.ready F.GL_READY_INTAKE = true ∧
      e.ready F.GL_READY_LOCALMEAS = true ∧ e.ready F.GL_READY_DMA = true) ∧
    (∀ m : Fin 4, d.ready F.GL_READY_LOCALMEAS = true → (d.lm m.val).cal = none → (d.lm m.val).running = false →
      (d.lmCfg m.val).entries ≠ [] →
      ((d.lmCfg m.val).trig = 0 → (d.grp (d.lmCfg m.val).group).started = true →
        25 * (d.lmCfg m.val).delay ≤ 2 * (d.now - (d.grp (d.lmCfg m.val).group).openTick) →
        (d.lm m.val).trigAt < (d.grp (d.lmCfg m.val).group).openTick + 1 →
        ∃ e : Dev, exec (.lmCycleTrigger dt m) s = .next (s.settled e) ∧ (e.lm m.val).running = true ∧ (e.lm m.val).runAt = d.now ∧
          e.get F.LM_STAT_STATE m.val = 1) ∧
      (∀ x : Fin 8, d.refusal x.val true (0x70008 + 0x100 * m.val) = none → (d.lmCfg m.val).trig = 2 →
        ∃ e : Dev, exec (.lmRun dt x m) s = .next (s.settled e) ∧ (e.lm m.val).running = true ∧ (e.lm m.val).runAt = d.now ∧
          e.get F.LM_STAT_STATE m.val = 1)) ∧
    (∀ (m : Fin 4) (en : LmEntry) (x : Int), (d.lm m.val).running = true → (d.lm m.val).done = 0 → (d.lmCfg m.val).entries = [en] → en.avg = 1 →
      (2 * (d.now - (d.lm m.val).runAt) < 25 * (en.acq + 10) → exec (.lmRunComplete dt m [[x]]) s = .next (s.settled d.latchLms)) ∧
      (25 * (en.acq + 10) ≤ 2 * (d.now - (d.lm m.val).runAt) → ∃ e : Dev, exec (.lmRunComplete dt m [[x]]) s = .next (s.settled e) ∧ (e.lm m.val).running = false ∧ e.get F.LM_STAT_STATE m.val = 0 ∧
        e.get F.LM_RESULT_WORD m.val 0 = resultWord (corrected (nth (d.lm m.val).inForce en.gain (0, 0x8000)) x).1
          (2 * bit (corrected (nth (d.lm m.val).inForce en.gain (0, 0x8000)) x).2) 0 en.gain m.val en.input % 0x100000000 ∧
        ∀ n : Nat, n ≠ 0 → e.get F.LM_RESULT_WORD m.val n = d.latchLms.get F.LM_RESULT_WORD m.val n)) ∧
    (∀ (m : Fin 4) (raws : List Int) (cs : List (Int × Bool)) (w base : Nat), (d.lmCfg m.val).trig = 3 → d.ready F.GL_READY_LOCALMEAS = true →
      (d.lm m.val).contNext = none → (d.lm m.val).contNow / 0x10000 ≠ 0 → (d.lm m.val).cal = none → d.sb.params.ovLm ≠ m.val → d.work.wf = true →
      4 ≤ (d.lmCfg m.val).ringSize → cs = raws.map (corrected (nth (d.lm m.val).inForce ((d.lm m.val).contNow / 16 % 4) (0, 0x8000))) →
      w = resultWord (sat16 (decimate (2 ^ ((d.lm m.val).contNow / 0x100 % 16)) (cs.map (·.1))))
        (2 * bit (cs.any (·.2)) + 4 * bit (decide (0 < (d.lm m.val).mark))) 0 ((d.lm m.val).contNow / 16 % 4) m.val ((d.lm m.val).contNow % 16) →
      base = (d.lmCfg m.val).ringBase + 4 * ((d.lm m.val).ringN % ((d.lmCfg m.val).ringSize / 4)) →
      raws.length = 2 * 2 ^ ((d.lm m.val).contNow / 0x100 % 16) - 1 →
      25 * outputClock (d.lm m.val).contK (2 ^ ((d.lm m.val).contNow / 0x100 % 16)) ≤ 2 * (d.now - (d.lm m.val).contAt) →
      ∃ e : Dev, exec (.lmContOutput dt m raws) s = .next (s.settled e) ∧ e.work.readBytes base 4 = leBytes 4 w ∧
        (∀ a : Nat, a < base ∨ base + 4 ≤ a → e.work.read a = d.work.read a) ∧ (e.lm m.val).ringN = (d.lm m.val).ringN + 1) ∧
    (∀ (m : Fin 4) (w at' : Nat), (d.lm m.val).contNext = some (w, at') → at' ≤ d.now →
      ((d.contDue m.val).lm m.val).contNow = w ∧ ((d.contDue m.val).lm m.val).contNext = none ∧ ((d.contDue m.val).lm m.val).contAt = at' ∧
      ((d.contDue m.val).lm m.val).contK = 0) ∧
    (∀ (x : Fin 8) (m : Fin 4) (v : Word), d.refusal x.val true (0x7000C + 0x100 * m.val) = none →
      (d.ovOwns m.val = true → exec (.lmContWrite dt x m v) s = .next (s.settled (d.contDue m.val))) ∧
      (d.ovOwns m.val = false → (d.lmCfg m.val).trig ≠ 3 →
        exec (.lmContWrite dt x m v) s = .next (s.settled ((d.contDue m.val).putCont m.val v.toNat))) ∧
      (d.ovOwns m.val = false → (d.lmCfg m.val).trig = 3 →
        ∃ e : Dev, exec (.lmContWrite dt x m v) s = .next (s.settled e) ∧
          (e.lm m.val).contNext = some (((d.contDue m.val).putCont m.val v.toNat).contWord m.val, d.nextEdge)))

/-- Calibration of a converter (R326, R327): a step measures for 4,096 conversions with the results STALE; its mean is pending; a pair goes
to LM_CAL from the pending values or from the factory trim; a command that fails a check of R327 leaves its code.
The model's in it: the order of the checks and which values are pending (log entries 72 and 134), and when a continuous converter goes on (172). -/
def Obligations.Calibration : Prop :=
  ∀ (s : State) (dt : Nat) (d : Dev) (m gain : Fin 4), d = s.seen dt → d.live = true → d.si.lms.length = 4 →
    (∀ x : Fin 8, d.refusal x.val true 0x70800 = none →
      (d.calCheck m.val false false = 0 →
        (∃ e : Dev, exec (.lmCalZero dt x m gain) s = .next (s.settled e) ∧ (e.lm m.val).cal = some (1, gain.val, 0) ∧
          (e.lm m.val).due = some (d.now + 52000) ∧ e.on F.LM_CAL_CMD_BUSY = true ∧ e.get F.LM_STAT_STATE m.val = 2 ∧
          ∀ n : Nat, n < 16 → testBit (e.get F.LM_RESULT_WORD m.val n) 15 = false) ∧
        (∀ ex : BitVec 16, 8192 ≤ ex.toInt.natAbs →
          ∃ e : Dev, exec (.lmCalFull dt x m gain ex) s = .next (s.settled e) ∧ (e.lm m.val).cal = some (2, gain.val, ex.toInt) ∧
            (e.lm m.val).due = some (d.now + 52000) ∧ e.on F.LM_CAL_CMD_BUSY = true) ∧
        (∀ o : Int, (d.lm m.val).pendOfs = some (gain.val, o) → (d.lm m.val).pendGc = none →
          ∃ e : Dev, exec (.lmCalStore dt x m gain) s = .next (s.settled e) ∧ e.get F.LM_CAL_OFS m.val gain.val = toField 16 o ∧
            e.get F.LM_CAL_CMD_RESULT = 0 ∧ (e.lm m.val).pendOfs = none) ∧
        (∀ t : Nat, tabD d.store.calTrim (4 * m.val + gain.val) 0x8000 = t →
          ∃ e : Dev, exec (.lmCalFactory dt x m gain) s = .next (s.settled e) ∧ e.get F.LM_CAL_OFS m.val gain.val = t / 0x10000 % 0x10000 ∧
            e.get F.LM_CAL_GCORR m.val gain.val = t % 0x10000)) ∧
      (∀ (i : Instr) (range order : Bool), ((i = .lmCalZero dt x m gain ∧ range = false ∧ order = false) ∨
          (∃ ex : BitVec 16, i = .lmCalFull dt x m gain ex ∧ range = decide (ex.toInt.natAbs < 8192) ∧ order = false) ∨
          (i = .lmCalStore dt x m gain ∧ range = false ∧ order = (((d.lm m.val).pendOfs.filter (·.1 == gain.val)).isNone &&
            ((d.lm m.val).pendGc.filter (·.1 == gain.val)).isNone)) ∨
          (i = .lmCalFactory dt x m gain ∧ range = false ∧ order = false)) →
        d.calCheck m.val range order ≠ 0 →
        exec i s = .next (s.settled (d.set F.LM_CAL_CMD_RESULT (d.calCheck m.val range order))))) ∧
    (∀ (total : Int) (at' : Nat), (d.lm m.val).cal = some (1, gain.val, 0) → (d.lm m.val).due = some at' → at' ≤ d.now →
      (roundDiv total 256).natAbs ≤ 0x7FFF →
      ∃ e : Dev, exec (.lmCalStepComplete dt m total) s = .next (s.settled e) ∧ (e.lm m.val).pendOfs = some (gain.val, roundDiv total 256) ∧
        (e.lm m.val).cal = none ∧ e.on F.LM_CAL_CMD_BUSY = false ∧ e.get F.LM_STAT_STATE m.val = 0 ∧
        e.get F.LM_CAL_MEAS_MEAN = toField 32 (roundDiv total 256))

/-! The time base -/

/-- The system PLL (R328, R331, R332): the first lock since reset sets device time to 0, the time base is ready and the servo is in FREERUN;
a loss takes the time base and every lane PLL with it. Steps of frequency and phase, and the commands of TB_ADJ_CMD (R329, R330, R338, R344,
R345): a frequency step of at most 200 ppb, a phase step of 1/128 tick toward what is left, a SET and a STEP in whole ticks at once with the
rest as phase steps, a SLEW and a FREQ; one that fails a check leaves its code.
The order of the checks of a TB_ADJ_CMD (log entry 72), device time at the first lock (78) and the steps toward a mean frequency (137) are the
model's readings. -/
def Obligations.TimeBase : Prop :=
  (∀ (s : State) (dt : Nat) (d : Dev), d = s.seen dt → d.live = true →
      (∀ counts : List Nat, counts.length = 4 → (∀ x ∈ counts, d.pllWithin x 2 = true) → d.on F.TB_STATUS_PLL_LOCKED = false →
        ∃ e : Dev, exec (.tbPllLock dt counts) s = .next (s.settled e) ∧ e.on F.TB_STATUS_PLL_LOCKED = true ∧ e.ready F.GL_READY_TIMEBASE = true ∧
          e.on F.TB_STATUS_TIME_SUSPECT = true ∧ e.get F.TB_SERVO_STATE = 0 ∧ e.on F.FC_COND_COND 1 = false ∧
          e.clk.dev = (if d.tb.everReady then d.clk.dev else 0) ∧ e.clk.ticks = d.clk.ticks) ∧
      (∀ count : Nat, d.pllWithin count 16 = true →
        exec (.tbPllLockLoss dt count) s = .next (s.settled (d.setI F.TB_PLL_DEV (d.pllDev count)))) ∧
      (∀ count : Nat, d.pllWithin count 16 = false → d.on F.TB_STATUS_PLL_LOCKED = true →
        ∃ e : Dev, exec (.tbPllLockLoss dt count) s = .next (s.settled e) ∧ e.get F.TB_PLL_DEV = toField 16 (d.pllDev count) ∧ e.on F.TB_STATUS_PLL_LOCKED = false ∧
          e.on F.TB_STATUS_PLL_LOST = true ∧ e.ready F.GL_READY_TIMEBASE = false ∧ e.on F.TB_STATUS_TIME_SUSPECT = true ∧
          e.on F.FC_COND_COND 1 = true ∧ ∀ p : Nat, p < 8 → e.on F.TB_LPLL_STAT_LOCKED p = false)) ∧
  (∀ (s : State) (dt : Nat) (d : Dev), d = s.seen dt → d.live = true →
      (d.getI F.TB_FREQ_FREQ ≠ d.tb.freqWant → d.tb.freqAt + 5000 ≤ d.now →
        ∃ e : Dev, exec (.freqStep dt) s = .next (s.settled e) ∧ e.tb.freqAt = d.now ∧
          e.get F.TB_FREQ_FREQ = toField 32 (d.getI F.TB_FREQ_FREQ + clampI (-200000) 200000 (d.tb.freqWant - d.getI F.TB_FREQ_FREQ)) ∧
          d.sameRegs e [F.TB_FREQ_FREQ]) ∧
      (d.tb.stepPhase = 0 → 0 < d.tb.slew → d.tb.phaseAt + slewSpacing d.tb.slewRate ≤ d.now →
        ∃ e : Dev, exec (.phaseStep dt) s = .next (s.settled e) ∧ e.clk.phase = d.clk.phase + 1 ∧ e.tb.slew = d.tb.slew - 1 ∧
          e.tb.phaseAt = d.now ∧ e.clk.dev = d.clk.dev) ∧
      (d.tb.stepPhase < 0 → d.tb.phaseAt + 64 ≤ d.now →
        ∃ e : Dev, exec (.phaseStep dt) s = .next (s.settled e) ∧ e.clk.phase = d.clk.phase - 1 ∧ e.tb.stepPhase = d.tb.stepPhase + 1 ∧
          e.on F.TB_ADJ_CMD_BUSY = decide (d.tb.stepPhase ≠ -1)) ∧
      (∀ x : Fin 8, d.refusal x.val true 0x30060 = none →
        (d.adjCheck 1 = 0 →
          ∃ e : Dev, exec (.setTime dt x) s = .next (s.settled e) ∧
            e.clk.dev = (500000000 * d.get F.TB_ADJ_SEC_SEC + d.get F.TB_ADJ_NS_NS / 2) % 9223372036854775808000000000 ∧
            e.tb.stepPhase = 0 ∧ e.tb.slew = 0 ∧ e.on F.TB_STATUS_TIME_SUSPECT = false ∧ e.get F.TB_ADJ_CMD_RESULT = 0 ∧
            e.get F.TB_STATUS_STEPS = (d.get F.TB_STATUS_STEPS + 1) % 4 ∧ e.clk.ticks = d.clk.ticks) ∧
        (d.adjCheck 2 = 0 →
          ∃ e : Dev, exec (.stepNs dt x) s = .next (s.settled e) ∧
            e.clk.dev = (((d.clk.dev : Int) + d.getI F.TB_ADJ_NS_NS / 2) % 9223372036854775808000000000).toNat ∧
            e.tb.stepPhase = 64 * (d.getI F.TB_ADJ_NS_NS % 2) ∧ e.tb.slew = 0) ∧
        (d.adjCheck 3 = 0 →
          ∃ e : Dev, exec (.slew dt x) s = .next (s.settled e) ∧ e.tb.slew = d.tb.slew + 64 * d.getI F.TB_ADJ_NS_NS ∧ e.clk = d.clk ∧
            e.on F.TB_SERVO_SLEWING = decide (d.tb.slew + 64 * d.getI F.TB_ADJ_NS_NS ≠ 0)) ∧
        (d.adjCheck 4 = 0 →
          ∃ e : Dev, exec (.freq dt x) s = .next (s.settled e) ∧ e.tb.freqWant = clampI (-100000000) 100000000 (d.getI F.TB_ADJ_NS_NS) ∧
            e.get F.TB_FREQ_FREQ = d.get F.TB_FREQ_FREQ ∧ e.clk = d.clk) ∧
        (∀ (i : Instr) (code : Nat), ((i = .setTime dt x ∧ code = 1) ∨ (i = .stepNs dt x ∧ code = 2) ∨ (i = .slew dt x ∧ code = 3) ∨
            (i = .freq dt x ∧ code = 4)) → d.adjCheck code ≠ 0 →
          exec i s = .next (s.settled (d.set F.TB_ADJ_CMD_RESULT (d.adjCheck code))))))

/-- PTP and the servo (R334 to R342, R346): a message received, one that the device does not take, one sent and an answer with its residence
time, each with its stamp, an offset with the port's asymmetry taken off, the loss of the master, once its time has run out, and the limits of
holdover. That a signaling or management message and one of another domain still leave their stamp is the model's (log entry 175).
So is how the master is chosen, which comes with the command (11), and the mean of holdover (79 and 137). -/
def Obligations.PtpAndServo : Prop :=
  ∀ (s : State) (dt : Nat) (d : Dev), d = s.seen dt → d.live = true →
    (∀ (p : Fin 4) (m : PtpHead) (q : BitVec 16) (stamp : Nat) (st : Option Nat) (two : Bool),
      d.get F.TB_PTP_PORT_W0_STATE p.val ≠ 0 → d.get F.TB_PTP_PORT_W0_STATE p.val ≠ 2 → d.on F.SI_PORT_LINK p.val = true →
      ((m.typ = 12 ∨ m.typ = 13 ∨ m.domain.toNat ≠ d.tb.cfg.domain) → ∀ v : Option Int,
        exec (.ptpMessageReceived dt p m q stamp st two v) s = .next (s.settled (d.stampPtp p.val ⟨stamp, false, m.typ.toNat, q.toNat⟩))) ∧
      (m.typ ≠ 12 → m.typ ≠ 13 → m.domain.toNat = d.tb.cfg.domain → (peerDelay d.tb.cfg = true → m.typ ≠ 1 ∧ m.typ ≠ 9) →
        (peerDelay d.tb.cfg = false → m.typ ≠ 2 ∧ m.typ ≠ 3 ∧ m.typ ≠ 10) → st ≠ some 2 →
        ∃ e : Dev, exec (.ptpMessageReceived dt p m q stamp st two none) s = .next (s.settled e) ∧ e.on F.TB_PTP_PORT_W0_PEER_TWO_STEP p.val = two ∧
          (d.tb.cfg.slaveOnly = false ∨ (st ≠ some 5 ∧ st ≠ some 6) →
            e.get F.TB_PTP_PORT_W0_STATE p.val = (st.map (· % 16)).getD (d.get F.TB_PTP_PORT_W0_STATE p.val)) ∧
          (d.tb.cfg.slaveOnly = true → st = some 6 → e.get F.TB_PTP_PORT_W0_STATE p.val = d.get F.TB_PTP_PORT_W0_STATE p.val) ∧
          (m.typ.toNat < 4 → d.tb.ports.length = 4 → (nth d.tb.ports p.val .init).queue.length < 64 →
            (nth e.tb.ports p.val .init).queue = (nth d.tb.ports p.val .init).queue ++ [⟨stamp, false, m.typ.toNat, q.toNat⟩]))) ∧
    (∀ (p : Fin 4) (typ : BitVec 4) (stamp : Nat), d.on F.SI_PORT_LINK p.val = true →
      portSends d.tb.cfg (d.get F.TB_PTP_PORT_W0_STATE p.val) typ.toNat = true →
      (∀ t : Nat, tabGet (nth d.tb.ports p.val .init).sentAt typ.toNat = some t → t + sendInterval d.tb.cfg typ.toNat ≤ d.now) →
      (typ ≠ 3 → typ ≠ 9 → ∃ (e : Dev) (m : PtpMsg), exec (.ptpMessageSend dt p typ stamp) s = .next (s.settled e) ∧ e.out = d.out ++ [.ptp m] ∧
        m.port = p.val ∧ m.typ = typ.toNat ∧ m.stamp = stamp ∧ m.correction = 0 ∧ m.domain = d.tb.cfg.domain ∧ m.clockClass = ptpClass d.tb.cfg ∧
        m.dst = ptpDst typ.toNat ∧ m.seqId = (tabD (nth d.tb.ports p.val .init).seqs typ.toNat 0xFFFF + 1) % 0x10000) ∧
      (∀ a : Nat × Nat × Nat, (nth d.tb.ports p.val .init).asked.find? (·.1 == typ.toNat) = some a → typ = 3 ∨ typ = 9 →
        ∃ (e : Dev) (m : PtpMsg), exec (.ptpMessageSend dt p typ stamp) s = .next (s.settled e) ∧ e.out = d.out ++ [.ptp m] ∧ m.typ = typ.toNat ∧
          m.seqId = a.2.1 ∧ m.correction = (if typ = 3 then stamp - a.2.2 else 0))) ∧
    (∀ (p : Fin 4) (th theta : Int), theta = th - 4 * nth d.tb.cfg.asym p.val 0 → d.get F.TB_PTP_PORT_W0_STATE p.val = 9 →
      (nth d.tb.ports p.val .init).delays ≠ [] →
      d.ready F.GL_READY_TIMEBASE = true → d.tb.cfg.host = false → d.get F.TB_SERVO_STATE = 2 → theta.natAbs ≤ 64 * d.tb.cfg.unlockThresh →
      ∃ e : Dev, exec (.ptpOffset dt p th) s = .next (s.settled e) ∧ e.get F.TB_SERVO_STATE = 2 ∧ e.tb.slew = -theta ∧
        e.get F.TB_OFFSET_OFFSET = toField 32 (clampI (-0x80000000) 0x7FFFFFFF (truncDiv theta 64)) ∧ e.get F.TB_SERVO_SLAVE_PORT = p.val ∧
        e.clk = d.clk) ∧
    (d.masterGone = false → exec (.masterLost dt) s = .next (s.settled d)) ∧
    (d.get F.TB_SERVO_STATE = 2 → d.masterGone = true →
      ∃ e : Dev, exec (.masterLost dt) s = .next (s.settled e) ∧ e.get F.TB_SERVO_STATE = 3 ∧ e.ready F.GL_READY_PTP = false ∧
        e.tb.holdAt = d.now ∧ e.tb.slew = 0 ∧ e.tb.stepPhase = 0 ∧ e.clk = d.clk ∧ e.on F.TB_SERVO_HOLD_RAISED = true) ∧
    (d.get F.TB_SERVO_STATE = 3 →
      (d.tb.holdAt + 500000000 * d.tb.cfg.holdMax ≤ d.now →
        exec (.holdoverLimit dt) s = .next (s.settled ((d.cond 0x14E true).flag F.TB_SERVO_HOLD_RAISED true))) ∧
      (d.tb.holdAt + 500000000 * d.tb.cfg.holdSv ≤ d.now →
        ∃ e : Dev, exec (.holdoverSv dt) s = .next (s.settled e) ∧ e.on F.TB_STATUS_SV_SUSPECT = true ∧ e.on F.TB_STATUS_PPS_TRACE = false))

/-- Stamps, events and timed outputs (R319, R346 to R351): a queue read gives the oldest stamp, a read of the time latches its seconds, an
edge that is enabled and has stood for FILTER enters its queue with the time and the steps of the edge, a timed edge is pending until its course
time, a periodic output pulses at the multiples of its schedule, after a step from the next one on, and PPS_OUT marks each second once. That a
periodic output is low from a step to its next pulse is the model's (log entry 175).
That the seconds marked are remembered is how the model keeps PPS_OUT from a second edge (log entry 138). -/
def Obligations.StampsAndOutputs : Prop :=
  ∀ (s : State) (dt : Nat) (d : Dev), d = s.seen dt → d.live = true →
    (∀ (x : Fin 8) (p : Fin 4) (a : Stamp) (r : List Stamp), d.refusal x.val false (0x30200 + 0x10 * p.val) = none → d.tb.ports.length = 4 →
      (nth d.tb.ports p.val .init).queue = a :: r →
      ∃ e : Dev, exec (.stampQueueRead dt x p) s = .next (s.settled e) ∧ e.out = d.out ++ [.readData x.val (0x30200 + 0x10 * p.val) (nth a.tsq 0 0)] ∧
        (nth e.tb.ports p.val .init).queue = r ∧ e.bank = d.bank ∧ (d.host.ctxs.length = 8 → tabGet (e.ctx x.val).tsqLatch p.val = some a.tsq)) ∧
    (∀ x : Fin 8, d.refusal x.val false 0x30010 = none →
      ∃ e : Dev, exec (.timeNowRead dt x) s = .next (s.settled e) ∧ e.out = d.out ++ [.readData x.val 0x30010 d.ns] ∧ e.bank = d.bank ∧
        (d.host.ctxs.length = 8 → (e.ctx x.val).nowLatch = [d.sec % 0x100000000, d.sec / 0x100000000 % 0x100000000])) ∧
    (∀ (x : Fin 8) (n : Fin 16) (a : Stamp) (r : List Stamp), d.refusal x.val false (0x30500 + 0x10 * n.val) = none → d.tb.evts.length = 16 →
      (nth d.tb.evts n.val .init).queue = a :: r →
      ∃ e : Dev, exec (.evtFifoRead dt x n) s = .next (s.settled e) ∧ e.out = d.out ++ [.readData x.val (0x30500 + 0x10 * n.val) (nth a.evt 0 0)] ∧
        (nth e.tb.evts n.val .init).queue = r ∧ (d.host.ctxs.length = 8 → tabGet (e.ctx x.val).evtLatch n.val = some a.evt) ∧ e.get F.TB_EVT_STAT_FILL n.val = r.length % 32) ∧
    (∀ (n : Fin 16) (rising : Bool) (ago : Nat), ago < 131072 * d.get F.TB_EVT_CFG_FILTER n.val →
      exec (.evtEdge dt n rising ago) s = .next (s.settled d)) ∧
    (∀ (n : Fin 16) (rising : Bool) (ago : Nat), testBit (d.get F.TB_EVT_CFG_EDGE n.val) (if rising then 0 else 1) = true → d.tb.evts.length = 16 →
      131072 * d.get F.TB_EVT_CFG_FILTER n.val ≤ ago →
      (nth d.tb.evts n.val .init).queue.length < 16 →
      ∃ e : Dev, exec (.evtEdge dt n rising ago) s = .next (s.settled e) ∧ e.on F.TB_EVT_STAT_LEVEL n.val = rising ∧
        (nth e.tb.evts n.val .init).queue = (nth d.tb.evts n.val .init).queue ++ [⟨quarterNs (d.devBefore ago), rising, d.stepsBefore ago, 0⟩] ∧
        e.get F.TB_EVT_STAT_FILL n.val = (nth d.tb.evts n.val .init).queue.length + 1) ∧
    (∀ (x n : Fin 8) (level : Bool) (sub : BitVec 7) (tHi : BitVec 16), d.refusal x.val true (0x30608 + 0x10 * n.val) = none →
      ((d.tioCfg n.val).mode ≠ 1 → exec (.tioCommand dt x n level sub tHi) s = .next (s.settled (d.set F.TB_TIO_W3_RESULT 2 n.val))) ∧
      (∀ t ahead : Nat, (d.tioCfg n.val).mode = 1 → t = tHi.toNat * 0x100000000 + (nth d.tb.tios n.val .init).tlo →
        ahead = (((t : Int) - d.ct) % 0x1000000000000).toNat → 0 < ahead → ahead < 0x800000000000 → d.tb.tios.length = 8 →
        ∃ e : Dev, exec (.tioCommand dt x n level sub tHi) s = .next (s.settled e) ∧ (nth e.tb.tios n.val .init).pending = some (t, sub.toNat, level) ∧
          e.on F.TB_TIO_W3_PENDING n.val = true ∧ e.get F.TB_TIO_W3_RESULT n.val = 0)) ∧
    (∀ (n : Fin 8) (t sub : Nat) (level : Bool), d.tb.tios.length = 8 → (d.tioCfg n.val).mode = 1 →
      (nth d.tb.tios n.val .init).pending = some (t, sub, level) → ((d.ct : Int) - t) % 0x1000000000000 < 0x800000000000 →
      ∃ e : Dev, exec (.tioEdge dt n) s = .next (s.settled e) ∧ (nth e.tb.tios n.val .init).pending = none ∧
        (nth e.tb.tios n.val .init).level = level ∧ e.on F.TB_TIO_W3_PENDING n.val = false ∧
        e.out = d.out ++ (if (nth d.tb.tios n.val .init).level = level then [] else [.edge n.val level sub])) ∧
    (∀ n : Fin 8, d.tb.tios.length = 8 → (d.tioCfg n.val).mode = 2 → (d.tioCfg n.val).period ≠ 0 →
      ∃ e : Dev, exec (.tioEdge dt n) s = .next (s.settled e) ∧
        ((nth e.tb.tios n.val .init).level = true ↔ ((d.ct : Int) - (d.tioCfg n.val).start) % (d.tioCfg n.val).period < (d.tioCfg n.val).width ∧
          (d.tioCfg n.val).start ≤ d.ct ∧
          ((d.tb.steps.headD (0, 0, 0)).1 : Int) + ((d.ct : Int) - (d.tioCfg n.val).start) % (d.tioCfg n.val).period ≤ d.now)) ∧
    (d.tb.everReady = true →
      (ppsHad d.tb.ppsSeen d.sec = false → ∃ e : Dev, exec (.ppsEdge dt) s = .next (s.settled e) ∧ e.out = d.out ++ [.pin 8 1] ∧
        (∀ n : Nat, ppsHad e.tb.ppsSeen n = (ppsHad d.tb.ppsSeen n || n == d.sec)) ∧ e.tb.ppsHigh = true) ∧
      (ppsHad d.tb.ppsSeen d.sec = true → d.tb.ppsHigh = true → d.tb.ppsAt + msTicks d.tb.cfg.ppsWidth ≤ d.now →
        ∃ e : Dev, exec (.ppsEdge dt) s = .next (s.settled e) ∧ e.out = d.out ++ [.pin 8 0] ∧ e.tb.ppsHigh = false))

/-! The triplex channels -/

/-- Input and state digests (R353, R357): the digest of the inputs a channel latched enters the open vote of its tile and is judged; in DUPLEX two
that differ bar the tile and take the device safe state, in TRIPLEX the odd one is fenced; the state digests are formed over each channel's state
of the group at the D_E of every 64th cycle, and their comparison shows its cycle and who agrees, and counts and fences the odd one. The words
and their order are the model's where R64 and R357 leave them (log entry 139). Heartbeats (R358, R359, R361): a period starts once and every
channel that sends gives its beat on both paths; one that is in time clears the missing
state of its path; the third that is not makes the sender missing there, and the fence logic judges.
A spoiled digest is an operand (log entry 96); the instants at which heartbeats are judged (89, 90 and 140) and the layout of the self-check flags
(171) are the model's. -/
def Obligations.DigestsAndHeartbeats : Prop :=
  (∀ (s : State) (dt : Nat) (d : Dev), d = s.seen dt → d.live = true →
      (∀ (ch : Fin 3) (t : Fin 12) (upset g : Nat) (j : Job), d.tileGroup t.val = some g →
        (d.ctile ch.val t.val).jobs.find? (·.k == (d.vote t.val).k) = some j → d.computes ch.val t.val = true → (d.vote t.val).closed = false →
        (d.exempt ch.val g = false → exec (.inputDigest dt ch t upset) s = .next (s.settled
          ((d.modVote t.val fun v => { v with digests := v.digests.filter (·.1 ≠ ch.val) ++ [(ch.val, d.tileDigest ch.val g j ^^^ upset)] }).voteAll))) ∧
        (d.exempt ch.val g = true → exec (.inputDigest dt ch t upset) s = .next (s.settled d)) ∧
        (∀ cy : GCycle, (d.cg ch.val g).cycles.find? (·.inp.k == j.k) = some cy → d.tileDigest ch.val g j = crcWords (inputWords cy.inp j.present))) ∧
      (∀ t : Fin 12, (d.vote t.val).closed = false →
        (∀ a b : Nat × Nat, d.triplex = 2 → (d.vote t.val).digests.filter (fun x => d.inService x.1) = [a, b] → a.2 ≠ b.2 → (d.vote t.val).barred = false →
          ((d.judgeDigests t.val false).vote t.val).barred = true ∧ (d.judgeDigests t.val false).fc.due = d.fc.due ++ [⟨0x13, 0, true, none⟩]) ∧
        (∀ a b c : Nat × Nat, d.triplex = 1 → (d.vote t.val).digests.filter (fun x => d.inService x.1) = [a, b, c] → a.2 = b.2 → c.2 ≠ a.2 →
          d.judgeDigests t.val false = (d.fenceChannel c.1 5).raise 0x13 c.1)) ∧
      (∀ g : Fin 4, (d.grp g.val).k % 64 = 0 → (∀ ch : Nat, d.computesAny ch = false) → d.grps.length = 4 →
        ((d.digestAtDe g.val).grp g.val).digWords = (List.range 3).map fun ch => stateWords (d.chan ch) g.val ((d.grp g.val).tiles.map (·.1))) ∧
      (∀ (g : Fin 4) (uA uB uC a b : Nat), d.grps.length = 4 → a = stateDigest (nth (d.grp g.val).digWords 0 []) ^^^ uA →
        a = stateDigest (nth (d.grp g.val).digWords 1 []) ^^^ uB → b = stateDigest (nth (d.grp g.val).digWords 2 []) ^^^ uC → (d.grp g.val).k % 64 = 0 → (d.grp g.val).deK = some (d.grp g.val).k →
        (d.grp g.val).digK ≠ some (d.grp g.val).k → d.serving = [0, 1, 2] →
        ∃ e : Dev, exec (.stateDigestCompare dt g uA uB uC) s = .next (s.settled e) ∧ e.get F.TP_DIGEST_CYCLE g.val = (d.grp g.val).k % 0x1000000 ∧
          e.get F.TP_DIGEST_AGREE g.val = (if b = a then 7 else 3) ∧ (e.grp g.val).digK = some (d.grp g.val).k ∧
          (b ≠ a → e.chState 2 ≠ 1 ∧ e.get F.TP_VOTE_DIGEST_BAD 2 = satInc 0xFF (d.get F.TP_VOTE_DIGEST_BAD 2)))) ∧
  (∀ (s : State) (dt : Nat) (d : Dev), d = s.seen dt → d.live = true →
      ((∀ g : Nat, d.firstBuilt = some g → (d.grp g).started = true) → d.tp.period ≠ d.periodStart + 1 →
        ∃ e : Dev, exec (.heartbeatPeriod dt) s = .next (s.settled e) ∧ e.tp.period = d.periodStart + 1 ∧
          ∀ y : Nat, y < 3 → d.sends y = true → Out.heartbeat y ((nth d.tp.hbSeq y 0 + 1) % 0x1000) (d.hbFlags y) ∈ e.out ∧
            (d.tp.hbPin.length = 3 → nth e.tp.hbPin y false = !nth d.tp.hbPin y false ∧ Out.pin (9 + y) (bit (!nth d.tp.hbPin y false)) ∈ e.out)) ∧
      (∀ (x y : Fin 3) (path : Fin 2) (seq : Nat), x ≠ y → d.sends y.val = true → d.tp.period ≠ 0 → d.now ≤ d.tp.period - 1 + 1000 →
        (path = 1 ∨ seq = nth d.tp.hbSeq y.val 0) →
        ∃ e : Dev, exec (.heartbeatReceived dt x y path seq) s = .next (s.settled e) ∧ e.missesOn x.val y.val path.val = false ∧
          e.tp.hbMiss = setNth d.tp.hbMiss (hbAt x.val y.val path.val) 0 ∧ e.tp.hbSeen = setNth d.tp.hbSeen (hbAt x.val y.val path.val) true) ∧
      (∀ (x y : Fin 3) (path : Fin 2), x ≠ y → d.observes x.val = true → d.sends y.val = true → d.tp.period ≠ 0 →
        nth d.tp.hbSeen (hbAt x.val y.val path.val) false = false → 2 ≤ nth d.tp.hbMiss (hbAt x.val y.val path.val) 0 →
        d.tp.period - 1 + 1000 ≤ d.now → d.missesOn x.val y.val path.val = false →
        exec (.heartbeatMissing dt x y path) s = .next (s.settled (d.becomesMissing x.val y.val path.val).judgeBeats) ∧
        (d.becomesMissing x.val y.val path.val).missesOn x.val y.val path.val = true))

/-- Resynchronisation (R366 to R371): the self-test of REPAIR ends in COPY with the donor, or in a fence; a tile copied is the donor's; a
copy that takes too long goes back to REPAIR; a shadow run that is whole enters service; a resynchronisation that takes too long is fenced;
and at the start the channels that pass enter service together.
The state in which a tile is copied and from when the second counts (log entry 140), and the cause of a failed self-test at a start (93), are the
model's readings. -/
def Obligations.Resynchronisation : Prop :=
  ∀ (s : State) (dt : Nat) (d : Dev), d = s.seen dt → d.live = true → d.chans.length = 3 →
    (∀ r : Resync, d.tp.resync = some r → r.ch < 3 →
      (d.chState r.ch = 3 → r.selfTested = false →
        exec (.repairComplete dt false) s = .next (s.settled (d.fenceChannel r.ch 7)) ∧
        (d.bestDonor r.ch = none → exec (.repairComplete dt true) s = .next (s.settled
          { d with tp := { d.tp with resync := some { r with selfTested := true } } })) ∧
        (∀ a : Nat, d.bestDonor r.ch = some a →
          ∃ e : Dev, exec (.repairComplete dt true) s = .next (s.settled e) ∧ e.chState r.ch = 4 ∧
            e.tp.resync = some { r with selfTested := true, donor := some a, left := d.builtTiles, copyAt := 0, shadow := [] })) ∧
      (∀ (a t g : Nat) (rest : List Nat), d.chState r.ch = 4 → r.donor = some a → r.left = t :: rest → d.tileGroup t = some g → r.copyAt ≠ 0 →
        d.now ≤ r.copyAt + 1750 → t < 12 → g < 4 → (d.chan r.ch).grps.length = 4 → (d.chan r.ch).tiles.length = 12 →
        ∃ e : Dev, exec (.tileCopyComplete dt) s = .next (s.settled e) ∧ e.cg r.ch g = d.cg a g ∧ (e.ctile r.ch t).rank = (d.ctile a t).rank ∧
          e.tp.resync = some { r with left := rest, copyAt := 0 } ∧ e.bank = d.bank) ∧
      (d.chState r.ch = 4 → r.copyAt ≠ 0 → r.copyAt + 1750 ≤ d.now →
        ∃ e : Dev, exec (.tileCopyTimeout dt) s = .next (s.settled e) ∧ e.chState r.ch = 3 ∧ e.get F.TP_CH_SHADOW r.ch = 0 ∧ e.chan r.ch = .init) ∧
      (d.chState r.ch = 5 → d.triplex ≠ 4 → (∀ g : Nat, g < 4 → (d.grp g).built = true → ∃ x ∈ r.shadow, x.1 = g ∧ 256 ≤ x.2.1 ∧ 4 ≤ x.2.2) →
        ∃ e : Dev, exec (.shadowComplete dt) s = .next (s.settled e) ∧ e.chState r.ch = 1) ∧
      (r.start + 500000000 ≤ d.now → exec (.resyncTimeout dt) s = .next (s.settled (d.fenceChannel r.ch 0xA).voteAll))) ∧
    (d.tp.started = false → d.ready F.GL_READY_JOURNAL = true → d.get F.GL_START_KILN = 0 → d.triplex ≠ 4 →
      (∀ ch : Nat, ch < 3 → d.get F.TP_CH_FENCES ch < d.get F.TP_CFG_FENCE_MAX) →
      ∃ e : Dev, exec (.channelSelfTestComplete dt 7) s = .next (s.settled e) ∧ (∀ ch : Nat, ch < 3 → e.chState ch = 1) ∧ e.triplex = 1 ∧
        e.ready F.GL_READY_TRIPLEX = true ∧ e.tp.started = true)

/-- The simplex timer, the proof run, TP_CMD and TP_CFG (R364, R366, R372, R374): the limit raises its condition; a proof run starts and
ends with its verdict; a command that passes the checks of R374 has its effect and one that fails leaves its code; settings are taken,
and ignored while the triplex machine or the journal has not become ready (R47).
The verdict of a proof run is an operand (log entry 139); when a run waits for its gap (91) and how STEP counts (92) are the model's readings. -/
def Obligations.ProofAndCommands : Prop :=
  ∀ (s : State) (dt : Nat) (d : Dev), d = s.seen dt → d.live = true →
    (d.triplex = 3 → d.tp.simplexDone = false → d.tp.simplexAt + 50000000 * d.get F.TP_CFG_SIMPLEX_LIMIT ≤ d.now →
      exec (.simplexLimit dt) s = .next (s.settled (({ d with tp := { d.tp with simplexDone := true } } : Dev).cond 0x2A true))) ∧
    (d.get F.TP_CFG_PROOF_PERIOD ≠ 0 → d.tp.proofAt + 1800000000000 * d.get F.TP_CFG_PROOF_PERIOD ≤ d.now → d.tp.proofStart = none →
      d.serving ≠ [] → d.proofGap = true →
      ∃ e : Dev, exec (.proofPeriodExpiry dt) s = .next (s.settled e) ∧ e.get F.TP_PROOF_STATE = 1 ∧ e.get F.TP_PROOF_FAILED = 0 ∧
        e.tp.proofStart = some d.now ∧ e.on F.TP_CMD_BUSY = true) ∧
    (∀ m : BitVec 3, d.tp.proofStart.isSome = true →
      (d.proofSteps < 128 → exec (.proofRunComplete dt m) s = .next (s.settled d)) ∧
      (d.tp.everReady = true → d.serving = [] → d.refreshTriplex.triplex = 4 ∧ d.refreshTriplex.get F.TP_PROOF_STATE = 2 ∧
        d.refreshTriplex.get F.TP_PROOF_RESULT = 3 ∧ d.refreshTriplex.tp.proofStart = none) ∧
      (128 ≤ d.proofSteps → ∃ e : Dev, exec (.proofRunComplete dt m) s = .next (s.settled e) ∧ e.get F.TP_PROOF_STATE = 2 ∧
        e.get F.TP_PROOF_STEP = 128 ∧ e.tp.proofStart = none ∧ e.tp.proofAt = d.now ∧
        (∀ ch : Nat, ch < 3 → testBit (e.get F.TP_PROOF_FAILED) ch = ((d.inService ch || d.chState ch == 5) && !testBit m.toNat ch)) ∧
        ((∀ ch : Nat, ch < 3 → (d.inService ch || d.chState ch == 5) = true → testBit m.toNat ch = true) → e.get F.TP_PROOF_RESULT = 0) ∧
        (∀ a b : Nat, a < 3 → b < 3 → (d.inService a || d.chState a == 5) = true → testBit m.toNat a = true →
          (d.inService b || d.chState b == 5) = true → testBit m.toNat b = false → e.get F.TP_PROOF_RESULT = 1 ∧ e.chState b ≠ 1) ∧
        ((∃ a : Nat, a < 3 ∧ (d.inService a || d.chState a == 5) = true) →
          (∀ a : Nat, a < 3 → (d.inService a || d.chState a == 5) = true → testBit m.toNat a = false) →
          e.get F.TP_PROOF_RESULT = 2 ∧ (⟨0x2C, 0, false, none⟩ : Due) ∈ e.fc.due))) ∧
    (∀ (x : Fin 8) (ch : Fin 4), d.refusal x.val true 0x60020 = none →
      (d.tpCheck 1 ch.val = 0 → ∃ e : Dev, exec (.resync dt x ch) s = .next (s.settled e) ∧ e.chState ch.val = 3 ∧ e.get F.TP_CMD_RESULT = 0 ∧
        e.tp.resync.map (·.ch) = some ch.val ∧ e.on F.TP_CMD_BUSY = true) ∧
      (d.tpCheck 2 ch.val = 0 → exec (.fence dt x ch) s = .next (s.settled (((d.set F.TP_CMD_RESULT 0).fenceChannel ch.val 9).voteAll))) ∧
      (d.tpCheck 3 ch.val = 0 → ∃ e : Dev, exec (.clear dt x ch) s = .next (s.settled e) ∧ e.get F.TP_CH_FENCES ch.val = 0 ∧
        e.get F.TP_CMD_RESULT = 0 ∧ (e.chState ch.val = 2 ∨ e.chState ch.val = 3)) ∧
      (d.tpCheck 4 ch.val = 0 → ∃ e : Dev, exec (.proof dt x ch) s = .next (s.settled e) ∧ e.get F.TP_PROOF_STATE = 1 ∧
        e.get F.TP_CMD_RESULT = 0 ∧ e.tp.proofStart = some d.now) ∧
      (∀ (i : Instr) (code : Nat), ((i = .resync dt x ch ∧ code = 1) ∨ (i = .fence dt x ch ∧ code = 2) ∨ (i = .clear dt x ch ∧ code = 3) ∨
          (i = .proof dt x ch ∧ code = 4)) → d.tpCheck code ch.val ≠ 0 →
        exec i s = .next (s.settled (d.set F.TP_CMD_RESULT (d.tpCheck code ch.val))))) ∧
    (∀ (x : Fin 8) (v : Word), d.refusal x.val true 0x60004 = none →
      (d.tp.everReady = true → d.ready F.GL_READY_JOURNAL = true →
        ∃ e : Dev, exec (.tpCfgWrite dt x v) s = .next (s.settled e) ∧ e.on F.TP_CFG_AUTO_RESYNC = testBit v.toNat 31 ∧
          e.get F.TP_CFG_FENCE_MAX = (if v.toNat / 0x10000 % 16 = 0 then 3 else v.toNat / 0x10000 % 16) ∧
          e.get F.TP_CFG_LATE_N = (if v.toNat / 0x100000 % 16 = 0 then 4 else v.toNat / 0x100000 % 16)) ∧
      ((d.tp.everReady = false ∨ d.ready F.GL_READY_JOURNAL = false) →
        ∃ e : Dev, exec (.tpCfgWrite dt x v) s = .next (s.settled e) ∧ e.get F.TP_CFG_AUTO_RESYNC = d.get F.TP_CFG_AUTO_RESYNC ∧
          e.get F.TP_CFG_FENCE_MAX = d.get F.TP_CFG_FENCE_MAX ∧ e.get F.TP_CFG_LATE_N = d.get F.TP_CFG_LATE_N ∧
          e.get F.TP_CFG_SIMPLEX_LIMIT = d.get F.TP_CFG_SIMPLEX_LIMIT ∧ e.get F.TP_CFG_PROOF_PERIOD = d.get F.TP_CFG_PROOF_PERIOD))

/-! The fault collector -/

/-- A raise of a source that is not latched (R377, R380, R381, R383, R387, R389, R390): of an event source the latch, the count, one record
with the reaction in force, the first-fault record if there is none, or, in the tick of the first raise, one more of its SAME_TICK; LOG and
INTERRUPT change nothing else that is controlled; DEGRADE degrades every named group; BLOCK_GROUP asks every named built group to be BLOCKED;
SAFE_STATE sets its bit, has the BLOCK frames voted and sent, asks every built group to be BLOCKED and tells the safety block. FENCE, of an
event source or of a level source whose condition begins, takes the unit of R387 out of service in the first round of reactions; the rounds
that follow take those of the sources the fence itself raised. The voters release the BLOCK frame that two channels deliver equal, in
SIMPLEX that of the one; none in NONE.
Which BLOCK frame a channel delivers (log entry 170) and how many rounds follow (log entry 105) are the model's. -/
def Obligations.FaultLatches : Prop :=
  (∀ (d : Dev) (t : Nat), ((d.triplex = 1 ∨ d.triplex = 2) → ∀ f : Frame, d.blockVote t = some f ↔
        ∃ a b : Nat, a < b ∧ b < 3 ∧ d.blockFrame t a = some f ∧ d.blockFrame t b = some f) ∧
      (∀ ch : Nat, d.triplex = 3 → d.serving = [ch] → d.blockVote t = d.blockFrame t ch) ∧ (d.triplex = 4 → d.blockVote t = none)) ∧
  (∀ (s : State) (dt : Nat) (d : Dev) (n : Fin 512) (detail : Word), d = s.seen dt → d.live = true → isSource n.val = true →
    (isLevel n.val = true → d.on F.FC_COND_COND n.val = false) → d.fc.due = [] → d.ready F.GL_READY_FAULTS = true → d.latched n.val = false →
    d.reaction n.val = 2 → n.val ∉ [0, 0x148, 0x149, 0x153] →
    ∃ e : Dev, exec (.faultRaise dt n detail true) s = .next { s with dev := (e.settleN 11).errUpdate } ∧ e.latched n.val = true ∧
      (0x30 ≤ n.val → n.val ≤ 0x35 → e.inService ((n.val - 0x30) % 3) = false) ∧
      (0xC0 ≤ n.val → n.val < 0x140 → n.val % 2 = 0 →
        ∀ k : Nat, k < 2 → e.on F.CM_LANE_STAT_TX_IDLE ((n.val - 0xC0) / 2) k = true) ∧
      (∀ c k : Nat, 0x140 ≤ n.val → n.val < 0x148 → c / 8 = n.val - 0x140 → k < 2 → e.on F.CM_LANE_STAT_TX_IDLE c k = true) ∧
      (0x14F ≤ n.val → n.val ≤ 0x152 → e.get F.TB_PTP_PORT_W0_STATE (n.val - 0x14F) = 0) ∧
      (0x160 ≤ n.val → n.val < 0x180 → (tabD e.si.svs (n.val - 0x160) .init).samples = []) ∧
      (0x180 ≤ n.val → n.val < 0x1C0 → (tabD e.si.gos (n.val - 0x180) .init).stNum = none)) ∧
  ∀ (s : State) (dt : Nat) (d : Dev) (n : Fin 512) (detail : Word), d = s.seen dt → d.live = true → isSource n.val = true → isLevel n.val = false →
    d.fc.due = [] → d.ready F.GL_READY_FAULTS = true → d.latched n.val = false →
    (d.reaction n.val = 3 → ∃ t : State, exec (.faultRaise dt n detail true) s = .next t ∧ t.dev.latched n.val = true ∧ t.dev.fc.due = [] ∧
      t.dev.grps = d.grps ∧ t.dev.chans = d.chans ∧ ∀ g : Nat, g < 4 → testBit (d.reactGroups n.val) g = true → t.dev.degradeOf g = true) ∧
    (d.reaction n.val = 5 → ∃ d1 e : Dev, exec (.faultRaise dt n detail true) s = .next { s with dev := (e.settleN 11).errUpdate } ∧
      e = d1.safeState.interrupt ∧ d1.latched n.val = true ∧ d1.grps = d.grps ∧ d1.tp = d.tp ∧ d1.sb = d.sb ∧
      (n.val ≠ 0x14A → n.val ≠ 0x14B → d1.cm = d.cm) ∧ e.on F.FC_STATUS_SAFE_STATE = true ∧
      (d.ready F.GL_READY_SAFETY = true → d.sb.params.ssBrake = true → testBit (e.get F.SB_DEMAND_COND) 5 = true ∧ (d.brake ≠ 0 → e.brake = 2)) ∧
      ∀ g : Nat, g < 4 → d.grps.length = 4 → (e.grp g).forced =
        (if (d.grp g).built = true then some (max 0x0B ((d.grp g).forced.getD 0)) else (d.grp g).forced)) ∧
    ((d.reaction n.val = 0 ∨ d.reaction n.val = 1) →
      ∃ (t : State) (r : LogRec), exec (.faultRaise dt n detail true) s = .next t ∧ t.dev.latched n.val = true ∧
        t.dev.get F.FC_COUNT_COUNT n.val = satInc (2 ^ F.FC_COUNT_COUNT.width - 1) (d.get F.FC_COUNT_COUNT n.val) ∧
        t.dev.fc.queue.getLast? = some r ∧ t.dev.fc.queue.length = d.fc.queue.length + 1 ∧ r.source = n.val ∧ r.detail = detail.toNat ∧
        r.typ = 1 ∧ r.reaction = d.reaction n.val ∧ r.sec = d.sec ∧ r.ns = d.ns ∧
        (d.store.first.valid = false → t.dev.store.first = ⟨true, 0, n.val, 0⟩ ∧ testBit r.flags 1 = true) ∧
        (d.store.first.valid = true → d.fc.firstAt ≠ some d.now → t.dev.store.first = d.store.first ∧ t.dev.fc.queue = d.fc.queue ++ [r] ∧
          testBit r.flags 1 = false) ∧
        (d.store.first.valid = true → d.fc.firstAt = some d.now → t.dev.store.first.valid = true ∧
          t.dev.store.first.sameTick = clampN 255 (d.store.first.sameTick + 1) ∧
          t.dev.store.first.source = min d.store.first.source n.val) ∧ t.dev.fc.due = [] ∧ t.dev.grps = d.grps ∧ t.dev.chans = d.chans) ∧
    (d.reaction n.val = 4 → ∃ t : State, exec (.faultRaise dt n detail true) s = .next t ∧ t.dev.latched n.val = true ∧ t.dev.fc.due = [] ∧
      ∀ g : Nat, g < 4 → d.grps.length = 4 → (t.dev.grp g).forced =
        (if testBit (d.reactGroups n.val) g = true ∧ (d.grp g).built = true then some (max 0x0A ((d.grp g).forced.getD 0)) else (d.grp g).forced))

/-- Conditions, records and clears (R380, R381, R385, R388, R389, R390, R391, R392): a level source's condition begins and ends; the
oldest queued record takes the next SEQ and its place; a clear by the Owner, or by an Operator of a latch that gave no SAFE_STATE, ends it
with a CLEAR record or is counted as refused; an Operator's of one that gave SAFE_STATE and any of an Observer is ignored; a mismatch of the
collector's own copies is the direct safe state; ERR_N goes back after 100 µs without a case; and the commands of FC_CMD and FC_LOG_IDX,
which shows the record as its read in the store leaves it. The detail of 0x15E, which names the function and the status bit that AER logs,
is the model's form (log entry 178).
So are which role's clear is ignored and which refused (log entry 50), the place of the ERASED record (63), the detail words (102) and a log index
before FAULTS is ready (114). -/
def Obligations.FaultRecords : Prop :=
  ∀ (s : State) (dt : Nat) (d : Dev), d = s.seen dt → d.live = true →
    (∀ (n : Fin 512) (detail : Word), isSource n.val = false ∨ isLevel n.val = false →
      exec (.faultRaise dt n detail false) s = .next (s.settled d)) ∧
    (∀ (n : Fin 512) (detail : Word), isSource n.val = true → isLevel n.val = true →
      (n.val ≠ 0x148 → n.val ≠ 0x149 → n.val ≠ 0x153 →
        ((n.val < 0x14F ∨ 0x152 < n.val) → exec (.faultRaise dt n detail true) s = .next (s.settled (d.cond n.val true detail.toNat))) ∧
        ((0x14F ≤ n.val ∧ n.val ≤ 0x152) → exec (.faultRaise dt n detail true) s = .next (s.settled
          ((if d.isFenced n.val = true then d else d.set F.TB_PTP_PORT_W0_STATE 2 (n.val - 0x14F)).cond n.val true detail.toNat))) ∧
        exec (.faultRaise dt n detail false) s = .next (s.settled (d.flag F.FC_COND_COND false n.val))) ∧
      ((n.val = 0x148 ∨ n.val = 0x149) → ∃ e : Dev, exec (.faultRaise dt n detail true) s = .next (s.settled e) ∧
        e.on F.FC_COND_COND n.val = true ∧ e.cm.dieBad = setNth d.cm.dieBad (n.val - 0x148) true ∧
        ∀ i k : Nat, i < 32 → k < 2 → e.on F.CM_LANE_STAT_TX_IDLE (32 * (n.val - 0x148) + i) k = true) ∧
      (n.val = 0x153 → ∀ holds : Bool, exec (.faultRaise dt n detail holds) s = .next (s.settled (d.safetyInternal holds)))) ∧
    (∀ (n : Fin 512) (detail : Word), n.val = 0x15E → exec (.faultRaise dt n detail true) s = .next (s.settled
      (((d.modCtx (detail.toNat % 8) fun c => { c with aer := c.aer ||| 2 ^ (detail.toNat / 0x100 % 32) }).count F.HC_PORT_UNCORR
        (detail.toNat % 8 / 4)).raise 0x15E detail.toNat))) ∧
    (∀ (r : LogRec) (rest : List LogRec), d.fc.queue = r :: rest →
      ∃ e : Dev, exec (.logRecordCommit dt) s = .next (s.settled e) ∧ e.fc.queue = rest ∧ e.store.lseq = d.store.lseq + 1 ∧
        e.store.head = (if d.store.log.isEmpty then d.store.head else (d.store.head + 1) % 4096) ∧
        tabGet e.store.log e.store.head = some { r with seq := d.store.lseq + 1 } ∧
        e.get F.FC_LOG_STAT_QUEUE = rest.length % 2 ^ F.FC_LOG_STAT_QUEUE.width) ∧
    (∀ (x : Fin 8) (w : Fin 16) (mask : Word) (b : Nat), d.refusal x.val true (0x40100 + 4 * w.val) = none →
      (d.role x.val = 0 ∨ (d.role x.val = 1 ∧ tabD d.fc.taken (32 * w.val + b) 0 % 16 ≠ 5)) →
      (List.range 32).filter (testBit mask.toNat) = [b] → d.latched (32 * w.val + b) = true → 32 * w.val + b ≠ 0 →
      ((∃ r ∈ d.fc.queue, r.source = 32 * w.val + b) →
        exec (.faultClear dt x w mask) s = .next (s.settled (d.count F.FC_STATUS_CLEAR_REFUSED))) ∧
      (isLevel (32 * w.val + b) = true → d.on F.FC_COND_COND (32 * w.val + b) = true →
        exec (.faultClear dt x w mask) s = .next (s.settled (d.count F.FC_STATUS_CLEAR_REFUSED))) ∧
      ((∀ r ∈ d.fc.queue, r.source ≠ 32 * w.val + b) → (isLevel (32 * w.val + b) = false ∨
          (d.on F.FC_COND_COND (32 * w.val + b) = false ∧ 32 * w.val + b ≠ 0x2B)) →
        ∃ (e : Dev) (r : LogRec), exec (.faultClear dt x w mask) s = .next (s.settled e) ∧ e.latched (32 * w.val + b) = false ∧
          e.fc.queue = d.fc.queue ++ [r] ∧ r.typ = 2 ∧ r.source = 32 * w.val + b)) ∧
    (∀ (x : Fin 8) (w : Fin 16) (mask : Word), d.refusal x.val true (0x40100 + 4 * w.val) = none →
      (d.role x.val = 2 ∨ (d.role x.val = 1 ∧ ∀ b : Nat, testBit mask.toNat b = true → tabD d.fc.taken (32 * w.val + b) 0 % 16 = 5)) →
      exec (.faultClear dt x w mask) s = .next (s.settled d)) ∧
    (∀ k : Nat, exec (.collectorSelfCheck dt k false) s = .next (s.settled (d.addTo F.FC_SELF_CORR k)) ∧
      (d.on F.FC_STATUS_DIRECT = false → ∃ e : Dev, exec (.collectorSelfCheck dt k true) s = .next (s.settled e) ∧ e.on F.FC_STATUS_DIRECT = true ∧
        e.on F.FC_STATUS_SAFE_STATE = true ∧ e.latched 0 = true)) ∧
    (d.fc.errLow = true → d.errCase = false → d.pins.errSince + 50000 ≤ d.now →
      ∃ e : Dev, exec (.errNRelease dt) s = .next (s.settled e) ∧ e.fc.errLow = false ∧ e.on F.FC_STATUS_ERR_PIN = false) ∧
    (∀ x : Fin 8, d.refusal x.val true 0x40010 = none → d.ready F.GL_READY_FAULTS = false →
      exec (.clearFirst dt x) s = .next (s.settled (d.set F.FC_CMD_RESULT 3)) ∧
      exec (.eraseLog dt x) s = .next (s.settled (d.set F.FC_CMD_RESULT 3))) ∧
    (∀ x : Fin 8, d.refusal x.val true 0x40010 = none → d.ready F.GL_READY_FAULTS = true →
      (∃ e : Dev, exec (.clearFirst dt x) s = .next (s.settled e) ∧ e.store.first.valid = false ∧ e.on F.FC_FIRST_VALID = false ∧
        e.get F.FC_CMD_RESULT = 0) ∧
      ∃ (e : Dev) (r : LogRec), exec (.eraseLog dt x) s = .next (s.settled e) ∧ e.store.log = [] ∧ e.store.lseq = d.store.lseq ∧
        e.fc.queue = r :: d.fc.queue ∧ r.typ = 5 ∧ e.get F.FC_CMD_RESULT = 0) ∧
    (∀ (x : Fin 8) (k : LogIdx), d.refusal x.val true 0x40024 = none →
      (d.ready F.GL_READY_FAULTS = false → exec (.logIndexWrite dt x k) s = .next (s.settled d)) ∧
      (d.ready F.GL_READY_FAULTS = true → d.fc.win.length = 8 →
        ∃ e : Dev, exec (.logIndexWrite dt x k) s = .next (s.settled e) ∧
          nth e.fc.win x.val .blank = tabD (d.readStore k.errs).store.log k.index.toNat .blank ∧
          (k.errs = [] → nth e.fc.win x.val .blank = tabD d.store.log k.index.toNat .blank) ∧
          e.get F.FC_LOG_IDX_INDEX x.val = k.index.toNat % 2 ^ F.FC_LOG_IDX_INDEX.width))

/-- Injection and interrupt acknowledgement (R393, R394, R440): INJECT is checked in the order of R393 (how many words the state of a channel
has is left open: log entry 64), armed once, fires as its MODE says or expires after 1 s: a read with the syndrome that was set corrects and
counts one bit, any other read of two bits, or with another syndrome, is a raise, real unless MODE says otherwise; ones written to an outstanding interrupt end it, except where the access is refused or the entry is another context's.
The model's readings in it: INJECT before FAULTS is ready (log entry 115), a record without a reaction (65), a real raise after an injected one
(146), the count of a corrected bit (64) and who may end an interrupt (50). -/
def Obligations.Injection : Prop :=
  ∀ (s : State) (dt : Nat) (d : Dev), d = s.seen dt → d.live = true →
    (∀ (x : Fin 8) (target : BitVec 3) (tile : BitVec 4) (real two : Bool), d.refusal x.val true 0x40030 = none →
      (d.ready F.GL_READY_FAULTS = false → exec (.inject dt x target tile real two) s = .next (s.settled d)) ∧
      (d.ready F.GL_READY_FAULTS = true →
        (∀ j : Inj, d.fc.inj = some j → exec (.inject dt x target tile real two) s = .next (s.settled (d.set F.FC_INJ_RESULT 1))) ∧
        (d.fc.inj = none →
          (4 < target.toNat ∨ (target = 0 ∧ workSize ≤ d.get F.FC_INJ_ADDR_ADDR) ∨ (target = 4 ∧ 512 ≤ d.get F.FC_INJ_ADDR_ADDR) ∨
              ((target = 1 ∨ target = 2 ∨ target = 3) ∧
                ((∀ p ∈ d.busyTiles, p.1 ≠ tile.toNat) ∨ Config.tileStateWords ≤ d.get F.FC_INJ_ADDR_ADDR)) →
            exec (.inject dt x target tile real two) s = .next (s.settled (d.set F.FC_INJ_RESULT 2))) ∧
          (((target = 0 ∧ d.get F.FC_INJ_ADDR_ADDR < workSize) ∨ (target = 4 ∧ d.get F.FC_INJ_ADDR_ADDR < 512)) → d.anyDeblocked = true →
            exec (.inject dt x target tile real two) s = .next (s.settled (d.set F.FC_INJ_RESULT 3))) ∧
          ((target = 1 ∨ target = 2 ∨ target = 3) → (∃ p ∈ d.busyTiles, p.1 = tile.toNat) → d.get F.FC_INJ_ADDR_ADDR < Config.tileStateWords →
            d.triplex ≠ 1 →
            exec (.inject dt x target tile real two) s = .next (s.settled (d.set F.FC_INJ_RESULT 3))) ∧
          (target = 4 → d.get F.FC_INJ_ADDR_ADDR < 512 → d.anyDeblocked = false → d.allIsolated = false →
            exec (.inject dt x target tile real two) s = .next (s.settled (d.set F.FC_INJ_RESULT 4))) ∧
          (((target = 0 ∧ d.get F.FC_INJ_ADDR_ADDR < workSize ∧ d.anyDeblocked = false) ∨
              ((target = 1 ∨ target = 2 ∨ target = 3) ∧ (∃ p ∈ d.busyTiles, p.1 = tile.toNat) ∧
                d.get F.FC_INJ_ADDR_ADDR < Config.tileStateWords ∧ d.triplex = 1) ∨
              (target = 4 ∧ d.get F.FC_INJ_ADDR_ADDR < 512 ∧ d.anyDeblocked = false ∧ d.allIsolated = true)) →
            exec (.inject dt x target tile real two) s = .next (s.settled
              { d with fc := { d.fc with inj := some ⟨target.toNat, d.get F.FC_INJ_ADDR_ADDR, tile.toNat, real, two, d.now, false⟩ } }))))) ∧
    (∀ j : Inj, d.fc.inj = some j →
      (j.armed = false → exec (.injectionArmed dt) s = .next (s.settled
        (({ d with fc := { d.fc with inj := some { j with armed := true, since := d.now } } } : Dev).flag F.FC_INJ_ARMED true))) ∧
      (j.armed = true → exec (.injectionArmed dt) s = .next (s.settled d)) ∧
      (j.armed = true → ∀ syn : Bool,
        (j.two = false → syn = true → (j.target = 4 → exec (.injectionFire dt syn) s = .next (s.settled ((d.endInjection 0).count F.FC_SELF_CORR))) ∧
          (j.target ≠ 4 → exec (.injectionFire dt syn) s = .next (s.settled { d.endInjection 0 with fc := { (d.endInjection 0).fc with
            corrected := setNth d.fc.corrected j.target (nth d.fc.corrected j.target 0 + 1) } }))) ∧
        ((j.two = true ∨ syn = false) → j.target = 4 → (j.real = true ∨ syn = false) →
          exec (.injectionFire dt syn) s = .next (s.settled ((d.endInjection 0).directSafe j.addr syn))) ∧
        (j.two = true → j.target = 4 → j.real = false → syn = true → exec (.injectionFire dt syn) s = .next (s.settled
          { d.endInjection 0 with fc := { (d.endInjection 0).fc with due := d.fc.due ++ [⟨0, j.addr, false, some false⟩] } })) ∧
        ((j.two = true ∨ syn = false) → j.target ≠ 4 → ∃ e : Dev, exec (.injectionFire dt syn) s = .next (s.settled e) ∧ e.fc.inj = none ∧
          e.fc.due = d.fc.due ++ [⟨if j.target = 0 then 2 else 0x2F + j.target, j.addr, false, if syn then some j.real else none⟩] ∧
          e.get F.FC_INJ_RESULT = 0)) ∧
      (j.armed = true → j.since + 500000000 ≤ d.now → exec (.injectionExpired dt) s = .next (s.settled (d.endInjection 5)))) ∧
    (∀ (x y : Fin 8) (mask : Word), d.refusal x.val true (0x40040 + 4 * y.val) = none →
      ∃ e : Dev, exec (.irqPendingClear dt x y true mask 0) s = .next (s.settled e) ∧ e.on F.FC_IRQ_PENDING y.val = false ∧
        (d.host.ctxs.length = 8 → 0 ∉ (e.ctx y.val).held)) ∧
    (∀ (x y : Fin 8) (mask again : Word) (c : Nat), d.refusal x.val true (0x40040 + 4 * y.val) = some c →
      exec (.irqPendingClear dt x y true mask again) s = .next (s.settled (d.refuse x.val false true c (0x40040 + 4 * y.val)))) ∧
    (∀ (x y : Fin 8) (mask again : Word), d.refusal x.val true (0x10134 + 0x40 * y.val) = none → x ≠ y →
      exec (.irqPendingClear dt x y false mask again) s = .next (s.settled (d.refuse x.val false true 0 (0x10134 + 0x40 * y.val)))) ∧
    (∀ (x : Fin 8) (mask : Word), d.refusal x.val true (0x10134 + 0x40 * x.val) = none →
      ∃ e : Dev, exec (.irqPendingClear dt x x false mask 0) s = .next (s.settled e) ∧
        ∀ b : Nat, b < 12 → testBit mask.toNat (b + 1) = true → testBit (e.get F.HC_IRQ_STAT_STAT x.val) b = false)

/-! The safety block -/

/-- Demands and the brake (R397, R400 to R403, R405, R406, R409, R410, R418): inputs and the oscillator make and end their conditions, a
change of the switches to others than the seal code's sets CHANGED and a mismatch is raised, APPLY and RESTORE act on the manual demands or
leave the code of the check that fails; a demand raised in the tick of RESTORE stays in force (that tick is the step of R403: log entry 174).
The clock of the safety block is taken as exact (log entry 144). -/
def Obligations.BrakeDemands : Prop :=
  ∀ (s : State) (dt : Nat) (d : Dev), d = s.seen dt → d.live = true →
    (∀ low : Bool, d.ready F.GL_READY_SAFETY = true →
      ∃ e : Dev, exec (.sbcReqInput dt low) s = .next (s.settled e) ∧ e.on F.SB_STATUS_SBC_REQ = low ∧
        testBit (e.get F.SB_DEMAND_COND) 0 = low ∧
        (low = true → d.brake ≠ 0 → testBit (e.get F.SB_DEMAND_IN_FORCE) 0 = true ∧ e.brake = 2 ∧ e.on F.SB_STATUS_HOLD_1 = false ∧
          e.on F.SB_STATUS_HOLD_2 = false)) ∧
    (∀ low : Bool, d.ready F.GL_READY_SAFETY = false →
      exec (.sbcReqInput dt low) s = .next (s.settled ((d.flag F.SB_STATUS_SBC_REQ low).setBit F.SB_DEMAND_COND 0 low))) ∧
    (∀ n : Fin 4, d.ready F.GL_READY_SAFETY = true → d.sb.everReady = true →
      (∃ e : Dev, exec (.tripInput dt n true) s = .next (s.settled e) ∧ testBit (e.get F.SB_STATUS_TRIP) n.val = true ∧
        ∀ c : Nat, c < 64 → testBit (nth d.sb.params.tripCourses n.val 0) c = true → d.bound c = true → e.get F.SB_COURSE_STATE c = 1) ∧
      ∃ e : Dev, exec (.tripInput dt n false) s = .next (s.settled e) ∧ testBit (e.get F.SB_STATUS_TRIP) n.val = false) ∧
    (∀ a b : Int, (15 < a.natAbs ∨ (d.ready F.GL_READY_TIMEBASE = true ∧ 15 < b.natAbs)) →
      exec (.safetyOscillatorCheck dt a b) s = .next (s.settled ((d.flag F.SB_STATUS_OSC_OK false).safetyInternal true))) ∧
    (∀ a b : Int, a.natAbs ≤ 15 → b.natAbs ≤ 15 →
      exec (.safetyOscillatorCheck dt a b) s = .next (s.settled ((d.flag F.SB_STATUS_OSC_OK true).safetyInternal false))) ∧
    (∀ sw : BitVec 12, d.ready F.GL_READY_SAFETY = true →
      (sw.toNat = d.get F.SB_SEAL_EXPECTED → ∃ e : Dev, exec (.sealCheck dt sw) s = .next (s.settled e) ∧ e.on F.SB_SEAL_MATCH = true ∧
        e.on F.FC_COND_COND 0x154 = false ∧ e.pins.sealPins = sw.toNat) ∧
      (sw.toNat ≠ d.get F.SB_SEAL_EXPECTED → ∃ e : Dev, exec (.sealCheck dt sw) s = .next (s.settled e) ∧ e.on F.SB_SEAL_MATCH = false ∧
        e.on F.SB_SEAL_CHANGED = (decide (d.pins.sealPins ≠ sw.toNat) || d.on F.SB_SEAL_CHANGED) ∧ e.on F.FC_COND_COND 0x154 = true ∧ e.ready F.GL_READY_SAFETY = true)) ∧
    (∀ t : Nat, d.sb.ovInvalid = some t → d.sb.params.ovEn = true → t + safeUs d.sb.params.ovLoss ≤ d.now → d.brake ≠ 0 →
      ∃ e : Dev, exec (.ovLossTimeout dt) s = .next (s.settled e) ∧ e.on F.FC_COND_COND 0x159 = true ∧
        (d.sb.params.ovLossBrake = true → testBit (e.get F.SB_DEMAND_IN_FORCE) 2 = true ∧ e.brake = 2)) ∧
    (∀ t : Nat, d.sb.ovEnd = some t → d.sb.lossEnd = none → t + safeUs (1000 * d.sb.params.restoreT) ≤ d.now →
      testBit (d.get F.SB_DEMAND_COND) 1 = false → d.get F.SB_DEMAND_IN_FORCE = 2 → d.brake = 2 →
      ∃ e : Dev, exec (.automaticDemandEnd dt) s = .next (s.settled e) ∧ e.get F.SB_DEMAND_IN_FORCE = 0 ∧ e.brake = 1) ∧
    (∀ x : Fin 8, d.refusal x.val true 0x50020 = none →
      (d.sbCheck x.val 1 = 0 → d.brake ≠ 0 → ∃ e : Dev, exec (.apply dt x) s = .next (s.settled e) ∧ testBit (e.get F.SB_DEMAND_IN_FORCE) 4 = true ∧
        e.brake = 2 ∧ e.get F.SB_CMD_RESULT = 0) ∧
      (d.sbCheck x.val 2 = 0 → d.brake ≠ 0 → ∃ e : Dev, exec (.restore dt x) s = .next (s.settled e) ∧
        e.get F.SB_DEMAND_IN_FORCE = d.get F.SB_DEMAND_IN_FORCE &&& (0x46 ||| (if d.sb.stepAt = d.now then d.sb.stepMask else 0)) ∧
        e.get F.SB_CMD_RESULT = 0 ∧ (d.sb.stepAt ≠ d.now → d.get F.SB_DEMAND_IN_FORCE &&& 0x46 = 0 → e.brake = 1)) ∧
      (d.sbCheck x.val 1 ≠ 0 → exec (.apply dt x) s = .next (s.settled (d.set F.SB_CMD_RESULT (d.sbCheck x.val 1)))) ∧
      (d.sbCheck x.val 2 ≠ 0 → exec (.restore dt x) s = .next (s.settled (d.set F.SB_CMD_RESULT (d.sbCheck x.val 2)))))

/-- Tests of the hold outputs and the degraded timer (R406, R407, R409, R418): a test pulls its output low, a read-back that is low goes on
to the rise, a verdict ends it with its result, a difference outside a test is a DISCREPANCY, and a whole minute of DEGRADED counts. Safe
block and its release (R411 to R413, R418): SAFE_BLOCK makes the masked courses ACTIVE, RELEASE makes ACTIVE and UNRELEASED ones RELEASING;
the frames repeat; a release that gives no answer is UNRELEASED. A trigger on a course already ACTIVE changes nothing (R411), and RELEASE
in the tick of a trigger is refused (R414; that tick is the step: log entry 174).
The model's in it besides: the clock of the safety block (log entry 144), the level FB shows (62), which outputs TEST tests and when (141 and 142). -/
def Obligations.SafetyBlock : Prop :=
  (∀ (s : State) (dt : Nat) (d : Dev), d = s.seen dt → d.live = true →
      (∀ x : Fin 8, d.refusal x.val true 0x50020 = none → d.sbCheck x.val 3 ≠ 0 →
        exec (.test dt x) s = .next (s.settled (d.set F.SB_CMD_RESULT (d.sbCheck x.val 3)))) ∧
      (∀ (x : Fin 8) (t : HoldTest), d.refusal x.val true 0x50020 = none → d.sbCheck x.val 3 = 0 → d.sb.test = some t →
        ∃ e : Dev, exec (.test dt x) s = .next (s.settled e) ∧ e.sb.test = some t ∧ e.sb.cmdTests = [1, 2] ∧ e.on F.SB_CMD_BUSY = true ∧
          e.get F.SB_CMD_RESULT = 0) ∧
      (∀ x : Fin 8, d.refusal x.val true 0x50020 = none → d.sbCheck x.val 3 = 0 → d.sb.test = none →
        ∃ e : Dev, exec (.test dt x) s = .next (s.settled e) ∧ e.sb.test = some ⟨1, 0, d.now⟩ ∧ e.sb.cmdTests = [2] ∧ e.on F.SB_CMD_BUSY = true ∧
          e.on F.SB_STATUS_TESTING = true ∧ e.on F.SB_STATUS_HOLD_1 = false ∧ e.on F.SB_STATUS_HOLD_2 = true ∧ e.get F.SB_CMD_RESULT = 0) ∧
      (∀ second : Bool, d.brake = 1 → d.sb.test = none → nth d.sb.due (if second then 1 else 0) 0 ≤ d.now →
        (d.on F.SB_STATUS_DEGRADED && d.on (failFld (if second then 2 else 1))) = false →
        ∃ e : Dev, exec (.offPulseTest dt second) s = .next (s.settled e) ∧ e.sb.test = some ⟨if second then 2 else 1, 0, d.now⟩ ∧
          e.on F.SB_STATUS_TESTING = true ∧ e.on (if second then F.SB_STATUS_HOLD_2 else F.SB_STATUS_HOLD_1) = false) ∧
      (∀ t : HoldTest, d.sb.test = some t → (t.output = 1 ∨ t.output = 2) →
        (t.phase = 0 → t.start + safeUs d.sb.params.opLen ≤ d.now →
          (∃ e : Dev, exec (.offPulseEnd dt true) s = .next (s.settled e) ∧ e.sb.test = some { t with phase := 1 }) ∧
          (d.sb.cmdTests = [] → ∃ e : Dev, exec (.offPulseEnd dt false) s = .next (s.settled e) ∧ e.sb.test = none ∧ e.get (lastFld t.output) = 2 ∧
            e.on (failFld t.output) = true ∧ e.on F.FC_COND_COND (0x155 + t.output) = true)) ∧
        (t.phase = 1 → t.start + safeUs (d.sb.params.opLen + d.sb.params.fbRise) ≤ d.now → d.sb.cmdTests = [] →
          ∀ high : Bool, ∃ e : Dev, exec (.offPulseVerify dt high) s = .next (s.settled e) ∧ e.sb.test = none ∧
            e.get (lastFld t.output) = (if high then 1 else 3) ∧ e.on (failFld t.output) = !high ∧
            e.on F.FC_COND_COND (0x155 + t.output) = !high)) ∧
      (∀ second level : Bool, d.ready F.GL_READY_SAFETY = true → d.sb.test = none →
        d.on (if second then F.SB_STATUS_HOLD_2 else F.SB_STATUS_HOLD_1) ≠ level →
        ∃ e : Dev, exec (.feedbackDiscrepancy dt second level) s = .next (s.settled e) ∧ e.get (lastFld (if second then 2 else 1)) = 4 ∧
          e.on (failFld (if second then 2 else 1)) = true ∧ e.on (fbFld (if second then 2 else 1)) = level ∧
          testBit (e.get F.SB_DEMAND_COND) 8 = true) ∧
      (d.on F.SB_STATUS_DEGRADED = true → d.sb.degSince + safeUs 60000000 ≤ d.now →
        ∃ e : Dev, exec (.degradedMinute dt) s = .next (s.settled e) ∧ e.store.degMinutes = satInc 0xFFFF d.store.degMinutes ∧
          e.get F.SB_DEG_ELAPSED = satInc 0xFFFF d.store.degMinutes ∧ e.sb.degSince = d.now ∧
          (6 * d.sb.params.degLimit ≤ satInc 0xFFFF d.store.degMinutes → e.on F.FC_COND_COND 0x158 = true ∧
            testBit (e.get F.SB_DEMAND_IN_FORCE) 8 = true ∧ (d.brake ≠ 0 → e.brake = 2)))) ∧
  (∀ (s : State) (dt : Nat) (d : Dev), d = s.seen dt → d.live = true →
      (∀ x : Fin 8, d.refusal x.val true 0x50020 = none →
        (d.sbCheck x.val 4 = 0 → d.sb.everReady = true →
          ∃ e : Dev, exec (.safeBlock dt x) s = .next (s.settled e) ∧ e.get F.SB_CMD_RESULT = 0 ∧
          ∀ c : Nat, c < 64 → testBit d.sbMask c = true → e.get F.SB_COURSE_STATE c = 1 ∧
            (d.get F.SB_COURSE_STATE c = 1 → e.get F.SB_COURSE_CAUSE c = d.get F.SB_COURSE_CAUSE c ∧
              e.get F.SB_COURSE_SEQ c = d.get F.SB_COURSE_SEQ c ∧ e.get F.SB_COURSE_SENT c = d.get F.SB_COURSE_SENT c) ∧
            (d.get F.SB_COURSE_STATE c ≠ 1 → e.get F.SB_COURSE_CAUSE c = 2)) ∧
        (d.sbCheck x.val 5 ≠ 0 → exec (.release dt x) s = .next (s.settled (d.set F.SB_CMD_RESULT (d.sbCheck x.val 5)))) ∧
        (∀ c : Nat, c < 64 → testBit d.sbMask c = true → (tabD d.sb.courses c .init).trigAt = some d.now → d.ready F.GL_READY_SAFETY = true →
          d.isOwner x.val = true → (∀ b : Nat, b < 64 → testBit d.sbMask b = true → d.bound b = true) → d.sbCheck x.val 5 = 6) ∧
        (d.sbCheck x.val 5 = 0 → ∃ e : Dev, exec (.release dt x) s = .next (s.settled e) ∧ e.get F.SB_CMD_RESULT = 0 ∧
          ∀ c : Nat, c < 64 → testBit d.sbMask c = true → (d.get F.SB_COURSE_STATE c = 1 ∨ d.get F.SB_COURSE_STATE c = 3) →
            e.get F.SB_COURSE_STATE c = 2) ∧
        (d.sbCheck x.val 4 ≠ 0 → exec (.safeBlock dt x) s = .next (s.settled (d.set F.SB_CMD_RESULT (d.sbCheck x.val 4))))) ∧
      (∀ (c : Fin 64) (q : SbCourseSt), q = tabD d.sb.courses c.val .init →
        (d.get F.SB_COURSE_STATE c.val = 1 → q.nextAt ≤ d.now → exec (.safeBlockRepeat dt c) s = .next (s.settled
          (({ d with sb := { d.sb with courses := tabSet d.sb.courses c.val { q with nextAt := q.nextAt + safeUs d.sb.params.sbRepeat } } } :
            Dev).sendSafety c.val (.safeBlock (d.get F.SB_COURSE_SEQ c.val) c.val)))) ∧
        (d.get F.SB_COURSE_STATE c.val = 2 → 0 < q.left → q.nextAt ≤ d.now → exec (.safeReleaseRepeat dt c) s = .next (s.settled
          (({ d with sb := { d.sb with courses := tabSet d.sb.courses c.val { q with
                left := q.left - 1, nextAt := q.nextAt + safeUs d.sb.params.sbRepeat, lastAt := d.now } } } :
            Dev).sendSafety c.val (.safeRelease (d.get F.SB_COURSE_SEQ c.val) c.val)))) ∧
        (d.get F.SB_COURSE_STATE c.val = 2 → q.left = 0 → q.lastAt + safeUs 1000 ≤ d.now →
          exec (.releaseTimeout dt c) s = .next (s.settled (d.unrelease c.val (128 * c.val + (d.stillSafe c.val).getD 0))))))

/-! The transfer engine -/

/-- Commands of a transfer channel (R443, R449, R451, R456, R459, R460, R462): CLAIM makes a FREE channel IDLE and its context's own, ARM
loads the shadow set or waits for the end of the pass, PAUSE and ABORT stop a moving channel, RESUME clears its hops, DISARM and RELEASE
undo, ones written to HALF and FULL clear them, and a command that fails a check of R462 leaves its code.
The model's readings in it: the order of NOT_OWNER and what ALIGN covers (log entries 74 and 152), and who may acknowledge (50). -/
def Obligations.DmaCommands : Prop :=
  ∀ (s : State) (dt : Nat) (d : Dev) (x : Fin 8) (n : Fin 32), d = s.seen dt → d.live = true → d.dma.length = 32 →
    (d.refusal x.val true (0x90100 + 0x80 * n.val) = none →
      (d.dmaCheck x.val n.val 1 = 0 → ∃ e : Dev, exec (.claim dt x n) s = .next (s.settled e) ∧ e.dmaState n.val = 1 ∧ e.dmaOwner n.val = x.val ∧
        e.get F.DM_CH_CFG_PRIO n.val = 3 ∧ e.get F.DM_CH_CMD_RESULT n.val = 0 ∧ testBit (e.get F.DM_FREE_FREE) n.val = false ∧
        e.on F.DM_CH_IRQ_HALF n.val = false ∧ e.on F.DM_CH_IRQ_EN_STOP n.val = false) ∧
      (d.dmaCheck x.val n.val 2 = 0 → d.dmaState n.val = 1 → ∃ e : Dev, exec (.releaseChannel dt x n) s = .next (s.settled e) ∧
        e.dmaState n.val = 0 ∧ testBit (e.get F.DM_FREE_FREE) n.val = true) ∧
      (d.dmaCheck x.val n.val 2 = 0 → d.dmaActive n.val = true → ∃ e : Dev, exec (.releaseChannel dt x n) s = .next (s.settled e) ∧
        e.dmaState n.val = 6 ∧ (e.dmaCh n.val).stopping = some (0, 2)) ∧
      (d.dmaCheck x.val n.val 3 = 0 →
        (d.dmaState n.val = 1 → ∃ e : Dev, exec (.arm dt x n) s = .next (s.settled e) ∧ e.active n.val = d.shadow n.val ∧
          e.on F.DM_CH_STAT_ARMED n.val = false ∧ e.get F.DM_CH_STAT_HOPS n.val = 0 ∧ e.get F.DM_CH_PASS_PASS n.val = 0) ∧
        (d.dmaState n.val ≠ 1 → exec (.arm dt x n) s = .next (s.settled
          ((d.set F.DM_CH_CMD_RESULT 0 n.val).flag F.DM_CH_STAT_ARMED true n.val)))) ∧
      (d.dmaCheck x.val n.val 4 = 0 → ∃ e : Dev, exec (.pause dt x n) s = .next (s.settled e) ∧ e.dmaState n.val = 6 ∧
        (e.dmaCh n.val).stopping = some (4, 0xB)) ∧
      (d.dmaCheck x.val n.val 5 = 0 → ∃ e : Dev, exec (.resume dt x n) s = .next (s.settled e) ∧ e.get F.DM_CH_CMD_RESULT n.val = 0 ∧
        e.get F.DM_CH_STAT_HOPS n.val = 0 ∧ (e.dmaState n.val = 2 ∨ e.dmaState n.val = 3 ∨ e.dmaState n.val = 6)) ∧
      (d.dmaCheck x.val n.val 6 = 0 →
        (d.dmaActive n.val = true → ∃ e : Dev, exec (.abort dt x n) s = .next (s.settled e) ∧ e.dmaState n.val = 6 ∧
          (e.dmaCh n.val).stopping = some (1, 2)) ∧
        (d.dmaState n.val = 4 ∨ d.dmaState n.val = 5 → ∃ e : Dev, exec (.abort dt x n) s = .next (s.settled e) ∧ e.dmaState n.val = 1 ∧
          e.get F.DM_CH_STAT_CAUSE n.val = 2) ∧
        (d.dmaState n.val = 1 → exec (.abort dt x n) s = .next (s.settled (d.set F.DM_CH_CMD_RESULT 0 n.val)))) ∧
      (d.dmaCheck x.val n.val 7 = 0 → exec (.disarm dt x n) s = .next (s.settled
        ((d.set F.DM_CH_CMD_RESULT 0 n.val).flag F.DM_CH_STAT_ARMED false n.val))) ∧
      (∀ (i : Instr) (op : Nat), ((i = .claim dt x n ∧ op = 1) ∨ (i = .releaseChannel dt x n ∧ op = 2) ∨ (i = .arm dt x n ∧ op = 3) ∨
          (i = .pause dt x n ∧ op = 4) ∨ (i = .resume dt x n ∧ op = 5) ∨ (i = .abort dt x n ∧ op = 6) ∨ (i = .disarm dt x n ∧ op = 7)) →
        d.dmaCheck x.val n.val op ≠ 0 → ∃ e : Dev, exec i s = .next (s.settled e) ∧
          e.get F.DM_CH_CMD_RESULT n.val = d.dmaCheck x.val n.val op ∧ d.sameRegs e [F.DM_CH_CMD_RESULT, F.DM_CH_DETAIL_RULE] ∧
          (d.dmaCheck x.val n.val op = 7 → e.get F.DM_CH_DETAIL_RULE n.val = d.descRule x.val (d.shadow n.val)))) ∧
    (d.refusal x.val true (0x9010C + 0x80 * n.val) = none → (d.dmaState n.val = 0 ∨ d.dmaOwner n.val ≠ x.val) → ∀ (h f : Bool) (a : Word),
      exec (.dmaAcknowledge dt x n h f a) s = .next (s.settled (d.refuse x.val false true 0 (0x9010C + 0x80 * n.val)))) ∧
    (d.refusal x.val true (0x9010C + 0x80 * n.val) = none → d.dmaState n.val ≠ 0 → d.dmaOwner n.val = x.val →
      ∃ e : Dev, exec (.dmaAcknowledge dt x n true false 0) s = .next (s.settled e) ∧ e.on F.DM_CH_IRQ_HALF n.val = false ∧
        e.get F.DM_CH_IRQ_FULL n.val = d.get F.DM_CH_IRQ_FULL n.val)

/-- How a transfer moves (R447, R450, R455, R457 to R459): at a boundary the arbiter's channel, one of the ready ones of the highest priority,
moves its segment, and its burst begins anew unless it goes on within 512 bytes and its page; data that arrives is held, or discarded where its
read no longer serves the channel; a pass that ends without repeat, chain or shadow is IDLE and DONE; a flush and a chained descriptor that
arrive let it go on; an error, a timeout, a lost link or an invalid descriptor stops it at P; and at P the channel takes the state it stops in.
The model's readings in it: the boundaries and how stops meet them (log entries 75 and 179), the shadow set after a stop (149) and how the requests
of a port are shared (150). -/
def Obligations.DmaMoves : Prop :=
  ∀ (s : State) (dt : Nat) (d : Dev), d = s.seen dt → d.live = true → d.dma.length = 32 →
    (∀ (port : Fin 2) (reads : SegReads) (d0 d1 : Dev), d0 = d.each (d.portChannels port.val) Dev.dmaSkip →
      d1 = (d0.each (d0.portChannels port.val) Dev.dmaAsk).retryWaiting port.val →
      (d1.arbiter port.val = none → exec (.dmaSegmentBoundary dt port reads) s = .next (s.settled
        (({ d1 with host := { d1.host with moving := setNth d1.host.moving port.val none } } : Dev).dmaShow port.val))) ∧
      (∀ (n : Nat) (goes : Prop) (d2 d3 : Dev), d1.arbiter port.val = some n →
        (goes ↔ nth d1.host.moving port.val none = some n ∧ (d1.dmaCh n).burst + (d1.segEnd n - (d1.dmaCh n).pos) ≤ 512 ∧
          ((if (d1.active n).toStore then (d1.active n).src else (d1.active n).dst) + (d1.dmaCh n).pos) / 0x10000 =
            ((if (d1.active n).toStore then (d1.active n).src else (d1.active n).dst) + (d1.dmaCh n).pos -
              min (d1.dmaCh n).pos (d1.dmaCh n).burst) / 0x10000) →
        (goes → d2 = d1) → (¬ goes → d2 = (d1.modDma n fun c => { c with burst := 0 })) →
        d3 = { d2 with host := { d2.host with moving := setNth d2.host.moving port.val (some n) } } →
        d1.dmaReady n = true ∧ n ∈ d1.portChannels port.val ∧
        (∀ m ∈ d1.portChannels port.val, d1.dmaReady m = true → d1.get F.DM_CH_CFG_PRIO n ≤ d1.get F.DM_CH_CFG_PRIO m) ∧
        ((d1.active n).srcKind ≠ 3 →
          exec (.dmaSegmentBoundary dt port reads) s = .next (s.settled ((d3.dmaSegment n reads.bad 4).dmaShow port.val))) ∧
        ((d1.active n).srcKind = 3 →
          exec (.dmaSegmentBoundary dt port reads) s = .next (s.settled (((d3.readStore reads.errs).dmaSegment n reads.bad 4).dmaShow port.val))))) ∧
    (∀ n : Fin 32, ((d.dmaActive n.val = true ∨ d.dmaState n.val = 6) → (d.dmaCh n.val).asked ≠ 0 → (d.active n.val).srcKind = 0 →
        (d.dmaCh n.val).late = [] →
        (∀ (l : List (BitVec 8)) (d1 : Dev), d1 = (d.modDma n.val fun c => { c with
              held := c.held ++ l.take c.asked, asked := c.asked - (l.take c.asked).length, sent := arrived (l.take c.asked).length c.sent }) →
          exec (.dmaReadCompletion dt n l true) s = .next (s.settled ((d1.dmaAsk n.val).dmaShow (d.dmaOwner n.val / 4)))) ∧
        ∀ l : List (BitVec 8), ∃ e : Dev, exec (.dmaReadCompletion dt n l false) s = .next (s.settled e) ∧ e.dmaState n.val = 6 ∧
          (e.dmaCh n.val).stopping = some (5, 6) ∧
          (e.dmaCh n.val).stopAt = max (d.dmaCh n.val).pos (((d.dmaCh n.val).pos + (d.dmaCh n.val).held.length) / 64 * 64)) ∧
      (∀ (r : Late) (l : List (BitVec 8)), (d.dmaCh n.val).lateFirst = some r →
        exec (.dmaReadCompletion dt n l false) s = .next (s.settled (d.modDma n.val fun c => { c with late := c.late.erase r })))) ∧
    (∀ (n : Fin 32) (lost own source : Bool),
      lost = (d.dmaActive n.val && d.isOpen (d.dmaOwner n.val) && !d.on F.HC_PORT_LINK_UP (d.dmaOwner n.val / 4)) →
      own = (d.dmaActive n.val && !(d.ownRead n.val).isEmpty && d.timedOut (d.dmaOwner n.val) (d.dmaCh n.val).since) →
      source = ((d.dmaActive n.val || d.dmaState n.val == 6) && (d.dmaCh n.val).sent.any fun r => d.timedOut (d.dmaOwner n.val) r.2) →
      (lost = false → own = false → source = false → exec (.dmaReadTimeout dt n) s = .next (s.settled
        (d.modDma n.val fun c => { c with late := c.late.filter fun r => !d.timedOut r.ctx r.since }))) ∧
      ((own = true ∨ (lost = true ∧ ((d.dmaCh n.val).flush = true ∨ (d.dmaCh n.val).fetch = true))) →
        ∃ e : Dev, exec (.dmaReadTimeout dt n) s = .next (s.settled e) ∧ e.dmaState n.val = 6 ∧ (e.dmaCh n.val).stopping = some (5, 5) ∧
          (e.dmaCh n.val).stopAt = (d.dmaCh n.val).pos) ∧
      (own = false → (d.dmaCh n.val).flush = false → (d.dmaCh n.val).fetch = false → (lost = true ∨ source = true) →
        ((d.active n.val).srcKind = 0 ∨ (d.active n.val).srcKind = 2) →
        ∃ e : Dev, exec (.dmaReadTimeout dt n) s = .next (s.settled e) ∧ e.dmaState n.val = 6 ∧ (e.dmaCh n.val).stopping = some (5, 5) ∧
          (e.dmaCh n.val).stopAt = max (d.dmaCh n.val).pos (((d.dmaCh n.val).pos + (d.dmaCh n.val).held.length) / 64 * 64))) ∧
    (∀ n : Fin 32, d.dmaActive n.val = true →
      ((d.dmaCh n.val).flush = true → (∀ r ∈ (d.dmaCh n.val).late, r.kind ≠ 1) →
        (∃ e : Dev, exec (.dmaFlushComplete dt n false) s = .next (s.settled e) ∧ e.dmaState n.val = 6 ∧ (e.dmaCh n.val).stopping = some (5, 6) ∧
          (e.dmaCh n.val).stopAt = (d.dmaCh n.val).pos) ∧
        ((d.dmaCh n.val).pos = (d.active n.val).length' → exec (.dmaFlushComplete dt n true) s = .next (s.settled
          ((d.modDma n.val fun c => { c with flush := false }).passEnd n.val))) ∧
        ((d.dmaCh n.val).pos ≠ (d.active n.val).length' → exec (.dmaFlushComplete dt n true) s = .next (s.settled
          (((d.modDma n.val fun c => { c with flush := false }).atHalf n.val).dmaAsk n.val)))) ∧
      ((d.dmaCh n.val).flush = false → (d.dmaCh n.val).fetch = false → (d.dmaCh n.val).pos = (d.active n.val).length' → (d.dmaCh n.val).pos ≠ 0 →
        exec (.dmaPassEnd dt n) s = .next (s.settled (d.passEnd n.val)) ∧
        (d.on F.DM_CH_STAT_ARMED n.val = false → (d.active n.val).repeat' = false → (d.active n.val).chain = false →
          ∃ e : Dev, exec (.dmaPassEnd dt n) s = .next (s.settled e) ∧ e.dmaState n.val = 1 ∧ e.get F.DM_CH_STAT_CAUSE n.val = 1 ∧
            e.get F.DM_CH_DONE_DONE n.val = (d.active n.val).length' % 2 ^ F.DM_CH_DONE_DONE.width ∧ e.on F.DM_CH_IRQ_DONE n.val = true ∧
            ((d.active n.val).irqFull = true → e.on F.DM_CH_IRQ_FULL n.val = true) ∧
            e.get F.DM_CH_PASS_PASS n.val = satInc 0xFFFFFFFF (d.get F.DM_CH_PASS_PASS n.val))) ∧
      ((d.dmaCh n.val).fetch = true → (testBit ((d.active n.val).at' 7) 31 = true ∨ ∀ r ∈ (d.dmaCh n.val).late, r.kind ≠ 2) →
        (∀ l : List (BitVec 8), ∃ e : Dev, exec (.dmaDescriptorFetch dt n l false) s = .next (s.settled e) ∧ e.dmaState n.val = 6 ∧
          (e.dmaCh n.val).stopping = some (5, 6)) ∧
        ∀ (l b : List (BitVec 8)) (w : Desc),
          b = (if testBit ((d.active n.val).at' 7) 31 = true then d.work.readBytes ((d.active n.val).next % 0x1000000000000) 32 else l) →
          b.length = 32 → w = (List.range 8).map (fun j => leNat ((b.drop (4 * j)).take 4)) →
          (d.descRule (d.dmaOwner n.val) w = 0 →
            ∃ e : Dev, exec (.dmaDescriptorFetch dt n l true) s = .next (s.settled e) ∧ e.active n.val = w ∧
              e.get F.DM_CH_STAT_HOPS n.val = (d.get F.DM_CH_STAT_HOPS n.val + 1) % 2 ^ F.DM_CH_STAT_HOPS.width ∧
              e.get F.DM_CH_PASS_PASS n.val = 0) ∧
          (d.descRule (d.dmaOwner n.val) w ≠ 0 → exec (.dmaDescriptorFetch dt n l true) s = .next (s.settled
            ((d.set F.DM_CH_DETAIL_RULE (d.descRule (d.dmaOwner n.val) w) n.val).dmaFault 8 (d.dmaCh n.val).pos n.val))))) ∧
    (∀ (n : Fin 32) (st cause : Nat), (d.dmaCh n.val).stopping = some (st, cause) → d.dmaState n.val = 6 →
      (d.dmaCh n.val).stopAt ≤ (d.dmaCh n.val).pos →
      ∃ e : Dev, exec (.dmaChannelStopped dt n) s = .next (s.settled e) ∧ e.dmaState n.val = st % 2 ^ F.DM_CH_STAT_STATE.width ∧
        e.get F.DM_CH_STAT_CAUSE n.val = cause % 2 ^ F.DM_CH_STAT_CAUSE.width ∧ (e.dmaCh n.val).stopping = none ∧
        e.get F.DM_CH_DONE_DONE n.val = (d.dmaCh n.val).pos % 2 ^ F.DM_CH_DONE_DONE.width)

/-- A write of dwords to the working store changes only bytes of the store, keeps its canonical form, and leaves every byte outside the
dwords (R425, R431). A segment written to the working store (R445, R446, R448): without a swap the bytes stand at DST plus the progress in the
order they came, every other byte of the store is as before, the store keeps its canonical form and the progress grows by their number. -/
def Obligations.WorkStoreWrites : Prop :=
  (∀ (d : Dev) (a : Nat) (vals : List Nat) (first last : Nat), d.work.wf = true →
      (d.pokeWords a vals first last).work.wf = true ∧
      d.pokeWords a vals first last = { d with work := (d.pokeWords a vals first last).work } ∧
      ∀ b : Nat, (b < a ∨ a + 4 * vals.length ≤ b) → (d.pokeWords a vals first last).work.read b = d.work.read b) ∧
  (∀ (d : Dev) (n bus attr : Nat) (l : List (BitVec 8)), n < 32 → d.dma.length = 32 → d.work.wf = true → (d.active n).toStore = true →
      (d.active n).swap = 0 → l.length ≤ 64 →
      (d.dmaWrite n l bus attr).work.wf = true ∧
      (d.dmaWrite n l bus attr).work.readBytes ((d.active n).dst + (d.dmaCh n).pos) l.length = l ∧
      (∀ a : Nat, a < (d.active n).dst + (d.dmaCh n).pos ∨ (d.active n).dst + (d.dmaCh n).pos + l.length ≤ a →
        (d.dmaWrite n l bus attr).work.read a = d.work.read a) ∧
      ((d.dmaWrite n l bus attr).dmaCh n).pos = (d.dmaCh n).pos + l.length ∧ (d.dmaWrite n l bus attr).store = d.store ∧
      (d.dmaWrite n l bus attr).grps = d.grps ∧ (d.dmaWrite n l bus attr).chans = d.chans)
end

