-- ==== Sys2Proof/Laws/Bank.lean ====
section
/-! SUPPORT. The register bank: a field set is read back, every other field keeps its value. -/

namespace Sys2Proof.Machine

theorem Bank.find_erase_self (b : Bank) (k : FKey) : (b.erase k).find k = none := by
  induction b with
  | nil => rfl
  | cons e b ih =>
    by_cases h : e.1 = k
    · simp [Bank.erase, h, ih]
    · simp [Bank.erase, h, Bank.find, ih]

theorem Bank.find_erase_ne (b : Bank) (k l : FKey) (h : l ≠ k) : (b.erase k).find l = b.find l := by
  induction b with
  | nil => rfl
  | cons e b ih =>
    by_cases hk : e.1 = k
    · simp only [Bank.erase, hk, if_true, ih, Bank.find, if_neg (Ne.symm h)]
    · simp [Bank.erase, hk, Bank.find, ih]

theorem Bank.find_insert_self (b : Bank) (k : FKey) (v : Nat) (h : Bank.find b k = none) : (b.insert k v).find k = some v := by
  induction b with
  | nil => simp [Bank.insert, Bank.find]
  | cons e b ih =>
    have he : e.1 ≠ k := by intro c; simp [Bank.find, c] at h
    have hb : Bank.find b k = none := by simpa [Bank.find, he] using h
    by_cases hl : FKey.lt k e.1
    · simp [Bank.insert, hl, Bank.find]
    · simp [Bank.insert, hl, Bank.find, he, ih hb]

theorem Bank.find_insert_ne (b : Bank) (k l : FKey) (v : Nat) (h : l ≠ k) : (b.insert k v).find l = b.find l := by
  induction b with
  | nil => simp [Bank.insert, Bank.find, Ne.symm h]
  | cons e b ih =>
    by_cases hl : FKey.lt k e.1
    · simp [Bank.insert, hl, Bank.find, Ne.symm h]
    · simp [Bank.insert, hl, Bank.find, ih]

/-- A field set is read back, modulo its width. -/
theorem Bank.get_set_self (b : Bank) (f : Fld) (i j v : Nat) : (b.set f i j v).get f i j = v % 2 ^ f.width := by
  unfold Bank.set Bank.get
  by_cases h : v % 2 ^ f.width = fieldDefault f i
  · simp [h, Bank.find_erase_self]
  · simp [h, Bank.find_insert_self _ _ _ (Bank.find_erase_self b _)]

/-- Every other field keeps its value. -/
theorem Bank.get_set_ne (b : Bank) (f g : Fld) (i j k l v : Nat) (h : (g, k, l) ≠ (f, i, j)) :
    (b.set f i j v).get g k l = b.get g k l := by
  have hk : (⟨g, k, l⟩ : FKey) ≠ ⟨f, i, j⟩ := by
    intro c; injection c with h1 h2 h3; exact h (by rw [h1, h2, h3])
  unfold Bank.set Bank.get
  by_cases hv : v % 2 ^ f.width = fieldDefault f i
  · simp [hv, Bank.find_erase_ne _ _ _ hk]
  · simp [hv, Bank.find_insert_ne _ _ _ _ hk, Bank.find_erase_ne _ _ _ hk]

theorem Dev.get_set_self (d : Dev) (f : Fld) (v i j : Nat) : (d.set f v i j).get f i j = v % 2 ^ f.width :=
  Bank.get_set_self d.bank f i j v

theorem Dev.get_set_ne (d : Dev) (f g : Fld) (v i j k l : Nat) (h : (g, k, l) ≠ (f, i, j)) :
    (d.set f v i j).get g k l = d.get g k l := Bank.get_set_ne d.bank f g i j k l v h

/-- A field other than the one set keeps its value in every copy. -/
theorem Dev.get_set_other (d : Dev) (f g : Fld) (v i j k l : Nat) (h : g ≠ f) : (d.set f v i j).get g k l = d.get g k l :=
  Dev.get_set_ne d f g v i j k l fun c => h (congrArg Prod.fst c)

theorem Dev.on_set_other (d : Dev) (f g : Fld) (v i j k l : Nat) (h : g ≠ f) : (d.set f v i j).on g k l = d.on g k l := by
  simp [Dev.on, Dev.get_set_other d f g v i j k l h]

end Sys2Proof.Machine
end

