-- ==== Sys2Proof/Laws/KeepsBase.lean ====
section
/-! SUPPORT. The algebra of Dev.keeps: reflexive, transitive, monotone in the scope; and one lemma per elementary update. The files
Keeps<Module> state for every shared operation of a module what it may change at most. -/

namespace Sys2Proof.Machine

theorem Part.same_refl (p : Part) (d : Dev) : p.same d d := by cases p <;> rfl
theorem Part.same_trans (p : Part) (d e f : Dev) (h : p.same d e) (k : p.same e f) : p.same d f := by
  cases p <;> exact Eq.trans k h

theorem Scope.le_parts {a b : Scope} (h : a.le b = true) (p : Part) (hp : p ∈ a.parts) : p ∈ b.parts := by
  simp only [Scope.le, Bool.and_eq_true, List.all_eq_true, List.contains_iff_mem] at h
  exact h.1 p hp
theorem Scope.le_covers {a b : Scope} (h : a.le b = true) (f : Fld) (hf : a.covers f = true) : b.covers f = true := by
  simp only [Scope.le, Bool.and_eq_true, List.all_eq_true, List.any_eq_true, decide_eq_true_eq] at h
  simp only [Scope.covers, Bool.or_eq_true, List.contains_iff_mem, List.any_eq_true, Bool.and_eq_true, decide_eq_true_eq] at hf
  rcases hf with hf | ⟨r, hr, h1, h2⟩
  · exact h.2.1 f hf
  · obtain ⟨q, hq, h3, h4⟩ := h.2.2 r hr
    simp only [Scope.covers, Bool.or_eq_true, List.any_eq_true, Bool.and_eq_true, decide_eq_true_eq]
    exact .inr ⟨q, hq, by omega, by omega⟩
theorem Scope.le_trans {a b c : Scope} (h : a.le b = true) (k : b.le c = true) : a.le c = true := by
  have h' := h
  simp only [Scope.le, Bool.and_eq_true, List.all_eq_true, List.contains_iff_mem, List.any_eq_true, decide_eq_true_eq] at h ⊢
  refine ⟨fun p hp => le_parts k p (h.1 p hp), fun f hf => le_covers k f (h.2.1 f hf), fun r hr => ?_⟩
  obtain ⟨q, hq, h3, h4⟩ := h.2.2 r hr
  simp only [Scope.le, Bool.and_eq_true, List.all_eq_true, List.contains_iff_mem, List.any_eq_true, decide_eq_true_eq] at k
  obtain ⟨q', hq', h5, h6⟩ := k.2.2 q hq
  exact ⟨q', hq', by omega, by omega⟩
theorem Scope.le_part {a b : Scope} {p : Part} (h : a.parts.contains p = true) (k : a.le b = true) : b.parts.contains p = true := by
  simp only [List.contains_iff_mem] at h ⊢; exact le_parts k p h
theorem Scope.le_fld {a b : Scope} {f : Fld} (h : a.covers f = true) (k : a.le b = true) : b.covers f = true := le_covers k f h

theorem Dev.keeps_refl (S : Scope) (d : Dev) : Dev.keeps S d d := ⟨fun p _ => p.same_refl d, fun _ _ _ _ => rfl⟩

theorem Dev.keeps_trans {S : Scope} {d e f : Dev} (k : Dev.keeps S e f) (g : Dev.keeps S d e) : Dev.keeps S d f :=
  ⟨fun p hp => p.same_trans d e f (g.1 p hp) (k.1 p hp), fun a i j ha => (k.2 a i j ha).trans (g.2 a i j ha)⟩

theorem Dev.keeps_mono {S T : Scope} {d e : Dev} (h : T.le S = true) (k : Dev.keeps T d e) : Dev.keeps S d e :=
  ⟨fun p hp => k.1 p fun m => hp (Scope.le_parts h p m), fun f i j hf => k.2 f i j (by
    cases hc : T.covers f with
    | false => rfl
    | true => rw [Scope.le_covers h f hc] at hf; exact hf)⟩

theorem Dev.keeps_step {S T : Scope} {d e f : Dev} (h : T.le S = true) (k : Dev.keeps T e f) (g : Dev.keeps S d e) : Dev.keeps S d f :=
  Dev.keeps_trans (Dev.keeps_mono h k) g

theorem Dev.keeps_ite {S : Scope} {d e f : Dev} {c : Prop} [Decidable c] (h : Dev.keeps S d e) (k : Dev.keeps S d f) :
    Dev.keeps S d (if c then e else f) := by split <;> assumption

theorem Dev.keeps_foldl {α : Type} {S : Scope} {d e : Dev} (f : Dev → α → Dev) (l : List α)
    (h : ∀ (e : Dev) (x : α), Dev.keeps S e (f e x)) (g : Dev.keeps S d e) : Dev.keeps S d (l.foldl f e) := by
  induction l generalizing e with
  | nil => exact g
  | cons x l ih => exact ih (Dev.keeps_trans (h e x) g)

theorem Dev.keeps_each {S : Scope} {d e : Dev} (f : Nat → Dev → Dev) (l : List Nat)
    (h : ∀ (n : Nat) (e : Dev), Dev.keeps S e (f n e)) (g : Dev.keeps S d e) : Dev.keeps S d (Dev.each l f e) :=
  Dev.keeps_foldl _ l (fun e x => h x e) g

theorem Dev.keeps_when {S : Scope} {d e : Dev} (b : Bool) (f : Dev → Dev) (h : ∀ e : Dev, Dev.keeps S e (f e)) (g : Dev.keeps S d e) :
    Dev.keeps S d (Dev.when b f e) := by
  cases b
  · exact g
  · exact Dev.keeps_trans (h e) g

theorem Dev.keeps_set {S : Scope} {d e : Dev} (f : Fld) (v i j : Nat) (h : S.covers f = true) (g : Dev.keeps S d e) :
    Dev.keeps S d (e.set f v i j) := by
  refine ⟨fun p hp => p.same_trans d e _ (g.1 p hp) (by cases p <;> rfl), fun a k l ha => ?_⟩
  rw [Dev.get_set_other]
  · exact g.2 a k l ha
  · intro c; subst c; rw [h] at ha; exact absurd ha (by decide)
theorem Dev.keeps_flag {S : Scope} {d e : Dev} (f : Fld) (b : Bool) (i j : Nat) (h : S.covers f = true) (g : Dev.keeps S d e) :
    Dev.keeps S d (e.flag f b i j) := Dev.keeps_set f _ i j h g
theorem Dev.keeps_count {S : Scope} {d e : Dev} (f : Fld) (i j : Nat) (h : S.covers f = true) (g : Dev.keeps S d e) :
    Dev.keeps S d (e.count f i j) := Dev.keeps_set f _ i j h g
theorem Dev.keeps_addTo {S : Scope} {d e : Dev} (f : Fld) (n i j : Nat) (h : S.covers f = true) (g : Dev.keeps S d e) :
    Dev.keeps S d (e.addTo f n i j) := Dev.keeps_set f _ i j h g
theorem Dev.keeps_setI {S : Scope} {d e : Dev} (f : Fld) (v : Int) (i j : Nat) (h : S.covers f = true) (g : Dev.keeps S d e) :
    Dev.keeps S d (e.setI f v i j) := Dev.keeps_set f _ i j h g
theorem Dev.keeps_setBit {S : Scope} {d e : Dev} (f : Fld) (n : Nat) (b : Bool) (i j : Nat) (h : S.covers f = true) (g : Dev.keeps S d e) :
    Dev.keeps S d (e.setBit f n b i j) := Dev.keeps_set f _ i j h g

/-- A device that differs in one part only. -/
theorem Dev.keeps_one {S : Scope} {d e f : Dev} (p : Part) (hb : f.bank = e.bank) (hp : ∀ q, q ≠ p → q.same e f)
    (h : S.parts.contains p = true) (g : Dev.keeps S d e) : Dev.keeps S d f := by
  refine ⟨fun q hq => q.same_trans d e f (g.1 q hq) (hp q fun c => ?_), fun a i j ha => ?_⟩
  · subst c; exact hq (by simpa using h)
  · rw [← g.2 a i j ha]; unfold Dev.get; rw [hb]
theorem Dev.keeps_out {S : Scope} {d e : Dev} (v : List Out) (h : S.parts.contains .out = true) (g : Dev.keeps S d e) :
    Dev.keeps S d { e with out := v } :=
  Dev.keeps_one (e := e) .out rfl (fun q hq => by cases q <;> first | rfl | exact absurd rfl hq) h g
theorem Dev.keeps_free {S : Scope} {d e : Dev} (v : Nat) (h : S.parts.contains .free = true) (g : Dev.keeps S d e) :
    Dev.keeps S d { e with free := v } :=
  Dev.keeps_one (e := e) .free rfl (fun q hq => by cases q <;> first | rfl | exact absurd rfl hq) h g
theorem Dev.keeps_clk {S : Scope} {d e : Dev} (v : Clock) (h : S.parts.contains .clk = true) (g : Dev.keeps S d e) :
    Dev.keeps S d { e with clk := v } :=
  Dev.keeps_one (e := e) .clk rfl (fun q hq => by cases q <;> first | rfl | exact absurd rfl hq) h g
theorem Dev.keeps_pins {S : Scope} {d e : Dev} (v : Pins) (h : S.parts.contains .pins = true) (g : Dev.keeps S d e) :
    Dev.keeps S d { e with pins := v } :=
  Dev.keeps_one (e := e) .pins rfl (fun q hq => by cases q <;> first | rfl | exact absurd rfl hq) h g
theorem Dev.keeps_work {S : Scope} {d e : Dev} (v : Mem) (h : S.parts.contains .work = true) (g : Dev.keeps S d e) :
    Dev.keeps S d { e with work := v } :=
  Dev.keeps_one (e := e) .work rfl (fun q hq => by cases q <;> first | rfl | exact absurd rfl hq) h g
theorem Dev.keeps_store {S : Scope} {d e : Dev} (v : Store) (h : S.parts.contains .store = true) (g : Dev.keeps S d e) :
    Dev.keeps S d { e with store := v } :=
  Dev.keeps_one (e := e) .store rfl (fun q hq => by cases q <;> first | rfl | exact absurd rfl hq) h g
theorem Dev.keeps_mo {S : Scope} {d e : Dev} (v : MoSt) (h : S.parts.contains .mo = true) (g : Dev.keeps S d e) :
    Dev.keeps S d { e with mo := v } :=
  Dev.keeps_one (e := e) .mo rfl (fun q hq => by cases q <;> first | rfl | exact absurd rfl hq) h g
theorem Dev.keeps_grps {S : Scope} {d e : Dev} (v : List GroupHub) (h : S.parts.contains .grps = true) (g : Dev.keeps S d e) :
    Dev.keeps S d { e with grps := v } :=
  Dev.keeps_one (e := e) .grps rfl (fun q hq => by cases q <;> first | rfl | exact absurd rfl hq) h g
theorem Dev.keeps_chans {S : Scope} {d e : Dev} (v : List Chan) (h : S.parts.contains .chans = true) (g : Dev.keeps S d e) :
    Dev.keeps S d { e with chans := v } :=
  Dev.keeps_one (e := e) .chans rfl (fun q hq => by cases q <;> first | rfl | exact absurd rfl hq) h g
theorem Dev.keeps_tp {S : Scope} {d e : Dev} (v : TpSt) (h : S.parts.contains .tp = true) (g : Dev.keeps S d e) :
    Dev.keeps S d { e with tp := v } :=
  Dev.keeps_one (e := e) .tp rfl (fun q hq => by cases q <;> first | rfl | exact absurd rfl hq) h g
theorem Dev.keeps_cm {S : Scope} {d e : Dev} (v : CmSt) (h : S.parts.contains .cm = true) (g : Dev.keeps S d e) :
    Dev.keeps S d { e with cm := v } :=
  Dev.keeps_one (e := e) .cm rfl (fun q hq => by cases q <;> first | rfl | exact absurd rfl hq) h g
theorem Dev.keeps_si {S : Scope} {d e : Dev} (v : SiSt) (h : S.parts.contains .si = true) (g : Dev.keeps S d e) :
    Dev.keeps S d { e with si := v } :=
  Dev.keeps_one (e := e) .si rfl (fun q hq => by cases q <;> first | rfl | exact absurd rfl hq) h g
theorem Dev.keeps_tb {S : Scope} {d e : Dev} (v : TbSt) (h : S.parts.contains .tb = true) (g : Dev.keeps S d e) :
    Dev.keeps S d { e with tb := v } :=
  Dev.keeps_one (e := e) .tb rfl (fun q hq => by cases q <;> first | rfl | exact absurd rfl hq) h g
theorem Dev.keeps_fc {S : Scope} {d e : Dev} (v : FcSt) (h : S.parts.contains .fc = true) (g : Dev.keeps S d e) :
    Dev.keeps S d { e with fc := v } :=
  Dev.keeps_one (e := e) .fc rfl (fun q hq => by cases q <;> first | rfl | exact absurd rfl hq) h g
theorem Dev.keeps_sb {S : Scope} {d e : Dev} (v : SbSt) (h : S.parts.contains .sb = true) (g : Dev.keeps S d e) :
    Dev.keeps S d { e with sb := v } :=
  Dev.keeps_one (e := e) .sb rfl (fun q hq => by cases q <;> first | rfl | exact absurd rfl hq) h g
theorem Dev.keeps_host {S : Scope} {d e : Dev} (v : HostSt) (h : S.parts.contains .host = true) (g : Dev.keeps S d e) :
    Dev.keeps S d { e with host := v } :=
  Dev.keeps_one (e := e) .host rfl (fun q hq => by cases q <;> first | rfl | exact absurd rfl hq) h g
theorem Dev.keeps_dma {S : Scope} {d e : Dev} (v : List DmaSt) (h : S.parts.contains .dma = true) (g : Dev.keeps S d e) :
    Dev.keeps S d { e with dma := v } :=
  Dev.keeps_one (e := e) .dma rfl (fun q hq => by cases q <;> first | rfl | exact absurd rfl hq) h g
theorem Dev.keeps_pm {S : Scope} {d e : Dev} (v : PmSt) (h : S.parts.contains .pm = true) (g : Dev.keeps S d e) :
    Dev.keeps S d { e with pm := v } :=
  Dev.keeps_one (e := e) .pm rfl (fun q hq => by cases q <;> first | rfl | exact absurd rfl hq) h g
/-- A device of which some parts are changed. -/
theorem Dev.keeps_mk {S : Scope} {d e : Dev} {out' : List Out} {free' : Nat} {clk' : Clock} {pins' : Pins} {work' : Mem} {store' : Store} {mo' : MoSt} {grps' : List GroupHub} {chans' : List Chan} {tp' : TpSt} {cm' : CmSt} {si' : SiSt} {tb' : TbSt} {fc' : FcSt} {sb' : SbSt} {host' : HostSt} {dma' : List DmaSt} {pm' : PmSt}
    (hout : S.parts.contains .out = true ∨ out' = e.out)
    (hfree : S.parts.contains .free = true ∨ free' = e.free)
    (hclk : S.parts.contains .clk = true ∨ clk' = e.clk)
    (hpins : S.parts.contains .pins = true ∨ pins' = e.pins)
    (hwork : S.parts.contains .work = true ∨ work' = e.work)
    (hstore : S.parts.contains .store = true ∨ store' = e.store)
    (hmo : S.parts.contains .mo = true ∨ mo' = e.mo)
    (hgrps : S.parts.contains .grps = true ∨ grps' = e.grps)
    (hchans : S.parts.contains .chans = true ∨ chans' = e.chans)
    (htp : S.parts.contains .tp = true ∨ tp' = e.tp)
    (hcm : S.parts.contains .cm = true ∨ cm' = e.cm)
    (hsi : S.parts.contains .si = true ∨ si' = e.si)
    (htb : S.parts.contains .tb = true ∨ tb' = e.tb)
    (hfc : S.parts.contains .fc = true ∨ fc' = e.fc)
    (hsb : S.parts.contains .sb = true ∨ sb' = e.sb)
    (hhost : S.parts.contains .host = true ∨ host' = e.host)
    (hdma : S.parts.contains .dma = true ∨ dma' = e.dma)
    (hpm : S.parts.contains .pm = true ∨ pm' = e.pm)
    (g : Dev.keeps S d e) : Dev.keeps S d ⟨out', free', clk', pins', e.bank, work', store', mo', grps', chans', tp', cm', si', tb', fc', sb', host', dma', pm'⟩ := by
  refine Dev.keeps_trans (e := e) ⟨fun p hp => ?_, fun _ _ _ _ => rfl⟩ g
  simp only [List.contains_iff_mem] at *
  cases p <;> first | exact hout.resolve_left hp | exact hfree.resolve_left hp | exact hclk.resolve_left hp | exact hpins.resolve_left hp | exact hwork.resolve_left hp | exact hstore.resolve_left hp | exact hmo.resolve_left hp | exact hgrps.resolve_left hp | exact hchans.resolve_left hp | exact htp.resolve_left hp | exact hcm.resolve_left hp | exact hsi.resolve_left hp | exact htb.resolve_left hp | exact hfc.resolve_left hp | exact hsb.resolve_left hp | exact hhost.resolve_left hp | exact hdma.resolve_left hp | exact hpm.resolve_left hp

theorem Dev.keeps_fst {α : Type} {S : Scope} {d e : Dev} {v : α} {p : Dev × α} (h : p = (e, v)) (k : Dev.keeps S d p.1) : Dev.keeps S d e := by
  subst h; exact k


theorem Bank.get_filter (b : Bank) (p : FKey × Nat → Bool) (f : Fld) (i j : Nat) (h : ∀ v, p (⟨f, i, j⟩, v) = true) :
    Bank.get (b.filter p) f i j = b.get f i j := by
  unfold Bank.get
  congr 1
  induction b with
  | nil => rfl
  | cons e b ih =>
    by_cases he : e.1 = ⟨f, i, j⟩
    · have hp : p e = true := by obtain ⟨k, v⟩ := e; cases he; exact h v
      simp [List.filter, hp, Bank.find, he]
    · cases hp : p e
      · simp [List.filter, hp, Bank.find, he, ih]
      · simp [List.filter, hp, Bank.find, he, ih]
/-- Register fields taken back to their power-up values. -/
theorem Dev.keeps_filter {S : Scope} {d e : Dev} (p : FKey × Nat → Bool)
    (h : ∀ (f : Fld) (i j v : Nat), S.covers f = false → p (⟨f, i, j⟩, v) = true) (g : Dev.keeps S d e) :
    Dev.keeps S d { e with bank := e.bank.filter p } :=
  ⟨fun q hq => q.same_trans d e _ (g.1 q hq) (by cases q <;> rfl),
    fun f i j hf => (Bank.get_filter _ _ f i j fun v => h f i j v hf).trans (g.2 f i j hf)⟩

end Sys2Proof.Machine
end

