-- ==== Sys2Proof/Laws/KeepsDev.lean ====
section
/-! SUPPORT. What the operations of Machine/Dev.lean may change at most, one lemma each. -/

namespace Sys2Proof.Machine

set_option Elab.async false

theorem Dev.modGrp_keeps (d : Dev) (g : Nat) (f : GroupHub → GroupHub) : Dev.keeps ⟨[.grps], [], []⟩ d (Dev.modGrp d g f) := by
  unfold Dev.modGrp
  refine Dev.keeps_grps _ (by decide +kernel) ?_
  exact Dev.keeps_refl _ _

theorem Dev.emit_keeps (d : Dev) (o : Out) : Dev.keeps ⟨[.out], [], []⟩ d (Dev.emit d o) := by
  unfold Dev.emit
  refine Dev.keeps_out _ (by decide +kernel) ?_
  exact Dev.keeps_refl _ _

theorem Dev.modCtx_keeps (d : Dev) (x : Nat) (f : CtxSt → CtxSt) : Dev.keeps ⟨[.host], [], []⟩ d (Dev.modCtx d x f) := by
  unfold Dev.modCtx
  dsimp -proj only
  refine Dev.keeps_host _ (by decide +kernel) ?_
  exact Dev.keeps_refl _ _

theorem Dev.modChan_keeps (d : Dev) (c : Nat) (f : Chan → Chan) : Dev.keeps ⟨[.chans], [], []⟩ d (Dev.modChan d c f) := by
  unfold Dev.modChan
  refine Dev.keeps_chans _ (by decide +kernel) ?_
  exact Dev.keeps_refl _ _

theorem Dev.modLane_keeps (d : Dev) (c : Nat) (e : Nat) (f : LaneSt → LaneSt) : Dev.keeps ⟨[.cm], [], []⟩ d (Dev.modLane d c e f) := by
  unfold Dev.modLane
  dsimp -proj only
  refine Dev.keeps_cm _ (by decide +kernel) ?_
  exact Dev.keeps_refl _ _

theorem Dev.modDir_keeps (d : Dev) (b : Nat) (f : DirSt → DirSt) : Dev.keeps ⟨[.cm], [], []⟩ d (Dev.modDir d b f) := by
  unfold Dev.modDir
  dsimp -proj only
  refine Dev.keeps_cm _ (by decide +kernel) ?_
  exact Dev.keeps_refl _ _

theorem Dev.modDma_keeps (d : Dev) (n : Nat) (f : DmaSt → DmaSt) : Dev.keeps ⟨[.dma], [], []⟩ d (Dev.modDma d n f) := by
  unfold Dev.modDma
  refine Dev.keeps_dma _ (by decide +kernel) ?_
  exact Dev.keeps_refl _ _

theorem Dev.modCrs_keeps (d : Dev) (c : Nat) (f : CrsSt → CrsSt) : Dev.keeps ⟨[.cm], [], []⟩ d (Dev.modCrs d c f) := by
  unfold Dev.modCrs
  dsimp -proj only
  refine Dev.keeps_cm _ (by decide +kernel) ?_
  exact Dev.keeps_refl _ _

theorem Dev.modGoose_keeps (d : Dev) (s : Nat) (f : GoSt → GoSt) : Dev.keeps ⟨[.si], [], []⟩ d (Dev.modGoose d s f) := by
  unfold Dev.modGoose
  dsimp -proj only
  refine Dev.keeps_si _ (by decide +kernel) ?_
  exact Dev.keeps_refl _ _

theorem Dev.modSv_keeps (d : Dev) (s : Nat) (f : SvSt → SvSt) : Dev.keeps ⟨[.si], [], []⟩ d (Dev.modSv d s f) := by
  unfold Dev.modSv
  dsimp -proj only
  refine Dev.keeps_si _ (by decide +kernel) ?_
  exact Dev.keeps_refl _ _

theorem Dev.modLm_keeps (d : Dev) (m : Nat) (f : LmSt → LmSt) : Dev.keeps ⟨[.si], [], []⟩ d (Dev.modLm d m f) := by
  unfold Dev.modLm
  dsimp -proj only
  refine Dev.keeps_si _ (by decide +kernel) ?_
  exact Dev.keeps_refl _ _

theorem Dev.elapse_keeps (dt : Nat) (d : Dev) : Dev.keeps ⟨[.clk], [], []⟩ d (Dev.elapse dt d) := by
  unfold Dev.elapse
  dsimp -proj only
  refine Dev.keeps_clk _ (by decide +kernel) ?_
  exact Dev.keeps_refl _ _

end Sys2Proof.Machine
end

