-- ==== Sys2Proof/Laws/KeepsOps.lean ====
section
/-! SUPPORT. What the operations of Machine/Ops.lean may change at most, one lemma each. -/

namespace Sys2Proof.Machine

set_option Elab.async false

theorem Dev.sendMsi_keeps (d : Dev) (x : Nat) (v : Nat) : Dev.keeps ⟨[.out, .host], [], []⟩ d (Dev.sendMsi d x v) := by
  unfold Dev.sendMsi
  dsimp -proj only
  refine Dev.keeps_ite ?_ ?_
  · refine Dev.keeps_step (by decide +kernel) (Dev.emit_keeps ..) ?_
    exact Dev.keeps_refl _ _
  · refine Dev.keeps_ite ?_ ?_
    · exact Dev.keeps_refl _ _
    · refine Dev.keeps_step (by decide +kernel) (Dev.modCtx_keeps ..) ?_
      exact Dev.keeps_refl _ _

theorem Dev.interrupt_keeps (d : Dev) : Dev.keeps ⟨[.out, .host], [F.FC_IRQ_PENDING], []⟩ d (Dev.interrupt d) := by
  unfold Dev.interrupt
  refine Dev.keeps_each _ _ ?_ ?_
  · intro _ _
    refine Dev.keeps_ite ?_ ?_
    · refine Dev.keeps_ite ?_ ?_
      · exact Dev.keeps_refl _ _
      · refine Dev.keeps_step (by decide +kernel) (Dev.sendMsi_keeps ..) ?_
        refine Dev.keeps_flag _ _ _ _ (by decide +kernel) ?_
        exact Dev.keeps_refl _ _
    · exact Dev.keeps_refl _ _
  · exact Dev.keeps_refl _ _

theorem Dev.journal_keeps (d : Dev) (off : Nat) (mask : Nat) (val : Nat) : Dev.keeps ⟨[.store], [F.MO_JOURNAL_FILL, F.MO_JOURNAL_PENDING],
    []⟩ d (Dev.journal d off mask val) := by
  unfold Dev.journal
  dsimp -proj only
  refine Dev.keeps_set _ _ _ _ (by decide +kernel) ?_
  refine Dev.keeps_flag _ _ _ _ (by decide +kernel) ?_
  refine Dev.keeps_store _ (by decide +kernel) ?_
  exact Dev.keeps_refl _ _

theorem Dev.setKept_keeps {S : Scope} {d e : Dev} (hS : Scope.le ⟨[.store], [F.MO_JOURNAL_FILL, F.MO_JOURNAL_PENDING], []⟩ S = true) (f : Fld) (v i j : Nat)
    (h : S.covers f = true) (g : Dev.keeps S d e) : Dev.keeps S d (e.setKept f v i j) :=
  Dev.keeps_step hS (Dev.journal_keeps ..) (Dev.keeps_set f v i j h g)

theorem Dev.setGi_keeps (n : Nat) (v : Bool) (valid : Bool) (d : Dev) : Dev.keeps ⟨[.si], [], []⟩ d (Dev.setGi n v valid d) := by
  unfold Dev.setGi
  dsimp -proj only
  refine Dev.keeps_si _ (by decide +kernel) ?_
  exact Dev.keeps_refl _ _

theorem Dev.giDefault_keeps (m : GoMember) (d : Dev) : Dev.keeps ⟨[.si], [], []⟩ d (Dev.giDefault m d) := by
  unfold Dev.giDefault
  refine Dev.keeps_step (by decide +kernel) (Dev.setGi_keeps ..) ?_
  exact Dev.keeps_refl _ _

theorem Dev.event_keeps (x : Nat) (e : Nat) (d : Dev) : Dev.keeps ⟨[.out, .host], [F.HC_IRQ_STAT_STAT], []⟩ d (Dev.event x e d) := by
  unfold Dev.event
  dsimp -proj only
  refine Dev.keeps_ite ?_ ?_
  · refine Dev.keeps_step (by decide +kernel) (Dev.sendMsi_keeps ..) ?_
    refine Dev.keeps_setBit _ _ _ _ _ (by decide +kernel) ?_
    exact Dev.keeps_refl _ _
  · refine Dev.keeps_setBit _ _ _ _ _ (by decide +kernel) ?_
    exact Dev.keeps_refl _ _

theorem Dev.eventAll_keeps (e : Nat) (d : Dev) : Dev.keeps ⟨[.out, .host], [F.HC_IRQ_STAT_STAT], []⟩ d (Dev.eventAll e d) := by
  unfold Dev.eventAll
  refine Dev.keeps_each _ _ ?_ ?_
  · intro _ _
    refine Dev.keeps_step (by decide +kernel) (Dev.event_keeps ..) ?_
    exact Dev.keeps_refl _ _
  · exact Dev.keeps_refl _ _

theorem Dev.refuse_keeps (d : Dev) (x : Nat) (bar2 : Bool) (write : Bool) (cause : Nat) (off : Nat) : Dev.keeps ⟨[],
    [F.HC_CTX_REFADDR_BAR2, F.HC_CTX_REFADDR_CAUSE, F.HC_CTX_REFADDR_OFFSET, F.HC_CTX_REFADDR_WRITE, F.HC_CTX_STAT_PARTIAL,
    F.HC_CTX_STAT_REFUSED], []⟩ d (Dev.refuse d x bar2 write cause off) := by
  unfold Dev.refuse
  dsimp -proj only
  refine Dev.keeps_set _ _ _ _ (by decide +kernel) ?_
  refine Dev.keeps_set _ _ _ _ (by decide +kernel) ?_
  refine Dev.keeps_flag _ _ _ _ (by decide +kernel) ?_
  refine Dev.keeps_flag _ _ _ _ (by decide +kernel) ?_
  refine Dev.keeps_ite ?_ ?_
  · refine Dev.keeps_count _ _ _ (by decide +kernel) ?_
    exact Dev.keeps_refl _ _
  · refine Dev.keeps_count _ _ _ (by decide +kernel) ?_
    exact Dev.keeps_refl _ _

theorem Dev.hostWrite_keeps {S : Scope} (hS : Scope.le ⟨[], [F.HC_CTX_REFADDR_BAR2, F.HC_CTX_REFADDR_CAUSE, F.HC_CTX_REFADDR_OFFSET,
    F.HC_CTX_REFADDR_WRITE, F.HC_CTX_STAT_PARTIAL, F.HC_CTX_STAT_REFUSED], []⟩ S = true) (x : Nat) (off : Nat) (f : Dev → Dev) (d : Dev)
    (hf : ∀ (x0 : Dev), Dev.keeps S x0 (f x0)) : Dev.keeps S d (Dev.hostWrite x off f d) := by
  unfold Dev.hostWrite
  split
  · refine Dev.keeps_step (Scope.le_trans (by decide +kernel) hS) (Dev.refuse_keeps ..) ?_
    exact Dev.keeps_refl _ _
  · refine Dev.keeps_trans (hf _) ?_
    exact Dev.keeps_refl _ _

theorem Dev.pokeBytes_keeps (d : Dev) (a : Nat) (l : List (BitVec 8)) : Dev.keeps ⟨[.work], [], []⟩ d (Dev.pokeBytes d a l) := by
  unfold Dev.pokeBytes
  refine Dev.keeps_work _ (by decide +kernel) ?_
  exact Dev.keeps_refl _ _

theorem Dev.writeReg_keeps {S : Scope} (hS : Scope.le ⟨[.store], [F.MO_JOURNAL_FILL, F.MO_JOURNAL_PENDING], []⟩ S = true) (v : Nat) (r : RegAt) (off : Nat) (d : Dev)
    (h : (r.reg.fields.all fun fd => decide (fd.acc ≠ .rw) || S.covers fd.fld) = true) : Dev.keeps S d (Dev.writeReg v r off d) := by
  have key : ∀ (l : List FieldDesc) (e : Dev), (l.all fun fd => decide (fd.acc ≠ .rw) || S.covers fd.fld) = true → Dev.keeps S d e →
      Dev.keeps S d (l.foldl (Dev.writeField v r) e) := by
    intro l
    induction l with
    | nil => intro e _ g; exact g
    | cons fd l ih =>
      intro e hl g
      simp only [List.all_cons, Bool.and_eq_true, Bool.or_eq_true, decide_eq_true_eq] at hl
      refine ih _ hl.2 ?_
      unfold Dev.writeField
      split
      · exact Dev.keeps_set _ _ _ _ (hl.1.resolve_left (by simp [*])) g
      · exact g
  unfold Dev.writeReg
  dsimp -proj only
  have := key r.reg.fields d h (Dev.keeps_refl _ _)
  split
  · exact Dev.keeps_refl _ _
  · split
    · exact this
    · exact Dev.keeps_step hS (Dev.journal_keeps ..) this

/-- The same for the register that lies at an offset. -/
theorem Dev.writeFound_keeps {S : Scope} (hS : Scope.le ⟨[.store], [F.MO_JOURNAL_FILL, F.MO_JOURNAL_PENDING], []⟩ S = true) (o : Nat)
    (h : ((findReg regTable o).all fun r => r.reg.fields.all fun fd => decide (fd.acc ≠ .rw) || S.covers fd.fld) = true) (r : RegAt)
    (hr : findReg regTable o = some r) (v off : Nat) (d : Dev) : Dev.keeps S d (Dev.writeReg v r off d) := by
  rw [hr] at h; exact Dev.writeReg_keeps hS v r off d h

theorem Dev.hostRead_keeps {S : Scope} (hS : Scope.le ⟨[.out], [F.HC_CTX_REFADDR_BAR2, F.HC_CTX_REFADDR_CAUSE, F.HC_CTX_REFADDR_OFFSET, F.HC_CTX_REFADDR_WRITE, F.HC_CTX_STAT_PARTIAL, F.HC_CTX_STAT_REFUSED], []⟩ S = true)
    (x off : Nat) (f : Dev → Dev × Nat) (d : Dev) (hf : ∀ e : Dev, Dev.keeps S e (f e).1) : Dev.keeps S d (Dev.hostRead x off f d) := by
  unfold Dev.hostRead
  split
  · refine Dev.keeps_step (Scope.le_trans (by decide +kernel) hS) (Dev.emit_keeps ..) ?_
    refine Dev.keeps_step (Scope.le_trans (by decide +kernel) hS) (Dev.refuse_keeps ..) ?_
    exact Dev.keeps_refl _ _
  · exact Dev.keeps_step (Scope.le_trans (by decide +kernel) hS) (Dev.emit_keeps ..) (hf d)

end Sys2Proof.Machine
end

