-- ==== Sys2Proof/Laws/KeepsTransmit.lean ====
section
/-! SUPPORT. What the operations of Machine/Transmit.lean may change at most, one lemma each. -/

namespace Sys2Proof.Machine

set_option Elab.async false

theorem Dev.started_keeps (c : Nat) (e : Nat) (t : Nat) (f : Frame) (d : Dev) : Dev.keeps ⟨[.cm], [], []⟩ d (Dev.started c e t f d) := by
  unfold Dev.started
  dsimp -proj only
  split
  · refine Dev.keeps_cm _ (by decide +kernel) ?_
    exact Dev.keeps_refl _ _
  · refine Dev.keeps_step (by decide +kernel) (Dev.modCrs_keeps ..) ?_
    exact Dev.keeps_refl _ _
  · refine Dev.keeps_step (by decide +kernel) (Dev.modCrs_keeps ..) ?_
    exact Dev.keeps_refl _ _
  · exact Dev.keeps_refl _ _

theorem Dev.beginFrame_keeps (c : Nat) (e : Nat) (w : TxWait) (t : Nat) (d : Dev) : Dev.keeps ⟨[.out, .cm], [], []⟩ d (Dev.beginFrame c e
    w t d) := by
  unfold Dev.beginFrame
  dsimp -proj only
  refine Dev.keeps_step (by decide +kernel) (Dev.emit_keeps ..) ?_
  refine Dev.keeps_step (by decide +kernel) (Dev.started_keeps ..) ?_
  refine Dev.keeps_step (by decide +kernel) (Dev.modLane_keeps ..) ?_
  exact Dev.keeps_refl _ _

theorem Dev.goIdle_keeps (c : Nat) (e : Nat) (d : Dev) : Dev.keeps ⟨[.out, .cm], [], []⟩ d (Dev.goIdle c e d) := by
  unfold Dev.goIdle
  dsimp -proj only
  refine Dev.keeps_ite ?_ ?_
  · exact Dev.keeps_refl _ _
  · refine Dev.keeps_ite ?_ ?_
    · refine Dev.keeps_step (by decide +kernel) (Dev.emit_keeps ..) ?_
      refine Dev.keeps_step (by decide +kernel) (Dev.modLane_keeps ..) ?_
      exact Dev.keeps_refl _ _
    · refine Dev.keeps_step (by decide +kernel) (Dev.modLane_keeps ..) ?_
      exact Dev.keeps_refl _ _

theorem Dev.runLane_keeps (c e n : Nat) (d : Dev) : Dev.keeps ⟨[.out, .cm], [], []⟩ d (Dev.runLane c e n d) := by
  have goes (d : Dev) : Dev.keeps ⟨[.out, .cm], [], []⟩ d (Dev.goIdle c e d) := Dev.keeps_mono (by decide +kernel) (Dev.goIdle_keeps ..)
  induction n generalizing d with
  | zero => exact goes d
  | succ n ih =>
    unfold Dev.runLane
    dsimp -proj only
    split
    · exact Dev.keeps_trans (ih _) (Dev.keeps_step (by decide +kernel) (Dev.beginFrame_keeps ..) (goes d))
    · exact goes d

theorem Dev.send_keeps (c : Nat) (e : Nat) (f : Frame) (d : Dev) : Dev.keeps ⟨[.out, .cm], [], []⟩ d (Dev.send c e f d) := by
  unfold Dev.send
  dsimp -proj only
  refine Dev.keeps_ite ?_ ?_
  · exact Dev.keeps_refl _ _
  · refine Dev.keeps_ite ?_ ?_
    · refine Dev.keeps_cm _ (by decide +kernel) ?_
      exact Dev.keeps_refl _ _
    · refine Dev.keeps_step (by decide +kernel) (Dev.runLane_keeps ..) ?_
      refine Dev.keeps_step (by decide +kernel) (Dev.modLane_keeps ..) ?_
      exact Dev.keeps_refl _ _

theorem Dev.sendBoth_keeps (c : Nat) (f : Frame) (d : Dev) : Dev.keeps ⟨[.out, .cm], [], []⟩ d (Dev.sendBoth c f d) := by
  unfold Dev.sendBoth
  refine Dev.keeps_step (by decide +kernel) (Dev.send_keeps ..) ?_
  refine Dev.keeps_step (by decide +kernel) (Dev.send_keeps ..) ?_
  exact Dev.keeps_refl _ _

end Sys2Proof.Machine
end

