-- ==== Sys2Proof/Laws/KeepsCourseOps.lean ====
section
/-! SUPPORT. What the operations of Machine/CourseOps.lean may change at most, one lemma each. -/

namespace Sys2Proof.Machine

set_option Elab.async false

theorem Dev.raise_keeps (n : Nat) (detail : Nat) (d : Dev) : Dev.keeps ⟨[.fc], [], []⟩ d (Dev.raise n detail d) := by
  unfold Dev.raise
  dsimp -proj only
  refine Dev.keeps_fc _ (by decide +kernel) ?_
  exact Dev.keeps_refl _ _

theorem Dev.cond_keeps (n : Nat) (holds : Bool) (detail : Nat) (d : Dev) : Dev.keeps ⟨[.fc], [F.FC_COND_COND], []⟩ d (Dev.cond n holds
    detail d) := by
  unfold Dev.cond
  refine Dev.keeps_ite ?_ ?_
  · refine Dev.keeps_ite ?_ ?_
    · exact Dev.keeps_refl _ _
    · refine Dev.keeps_step (by decide +kernel) (Dev.raise_keeps ..) ?_
      refine Dev.keeps_flag _ _ _ _ (by decide +kernel) ?_
      exact Dev.keeps_refl _ _
  · refine Dev.keeps_flag _ _ _ _ (by decide +kernel) ?_
    exact Dev.keeps_refl _ _

theorem Dev.showLane_keeps (c : Nat) (e : Nat) (d : Dev) : Dev.keeps ⟨[], [F.CM_LANE_STAT_CDR_LOCK, F.CM_LANE_STAT_STATE], []⟩ d
    (Dev.showLane c e d) := by
  unfold Dev.showLane
  dsimp -proj only
  refine Dev.keeps_flag _ _ _ _ (by decide +kernel) ?_
  refine Dev.keeps_set _ _ _ _ (by decide +kernel) ?_
  exact Dev.keeps_refl _ _

theorem Dev.laneIdle_keeps (c : Nat) (e : Nat) (forced : Bool) (d : Dev) : Dev.keeps ⟨[.cm], [F.CM_LANE_STAT_CDR_LOCK,
    F.CM_LANE_STAT_STATE, F.CM_LANE_STAT_TX_IDLE], []⟩ d (Dev.laneIdle c e forced d) := by
  unfold Dev.laneIdle
  dsimp -proj only
  refine Dev.keeps_ite ?_ ?_
  · exact Dev.keeps_refl _ _
  · refine Dev.keeps_ite ?_ ?_
    · refine Dev.keeps_step (by decide +kernel) (Dev.showLane_keeps ..) ?_
      refine Dev.keeps_flag _ _ _ _ (by decide +kernel) ?_
      refine Dev.keeps_step (by decide +kernel) (Dev.modLane_keeps ..) ?_
      exact Dev.keeps_refl _ _
    · refine Dev.keeps_step (by decide +kernel) (Dev.showLane_keeps ..) ?_
      refine Dev.keeps_step (by decide +kernel) (Dev.modLane_keeps ..) ?_
      exact Dev.keeps_refl _ _

theorem Dev.holdsLat_keeps (q : PtReq) (v : Option Nat) (d : Dev) : Dev.keeps ⟨[.cm], [], []⟩ d (Dev.holdsLat q v d) := by
  unfold Dev.holdsLat
  refine Dev.keeps_ite ?_ ?_
  · refine Dev.keeps_step (by decide +kernel) (Dev.modDir_keeps ..) ?_
    exact Dev.keeps_refl _ _
  · refine Dev.keeps_ite ?_ ?_
    · refine Dev.keeps_step (by decide +kernel) (Dev.modDir_keeps ..) ?_
      exact Dev.keeps_refl _ _
    · exact Dev.keeps_refl _ _

theorem Dev.pointFail_keeps (x : Nat) (status : Nat) (addr : Nat) (d : Dev) : Dev.keeps ⟨[.out, .host], [F.CM_CRS_PT_FAILED,
    F.GL_PT_ERR_W0_COUNT, F.GL_PT_ERR_W0_STATUS, F.GL_PT_ERR_W1_ADDRESS, F.HC_IRQ_STAT_STAT], []⟩ d (Dev.pointFail x status addr d) := by
  unfold Dev.pointFail
  dsimp -proj only
  refine Dev.keeps_ite ?_ ?_
  · refine Dev.keeps_count _ _ _ (by decide +kernel) ?_
    refine Dev.keeps_step (by decide +kernel) (Dev.event_keeps ..) ?_
    refine Dev.keeps_set _ _ _ _ (by decide +kernel) ?_
    refine Dev.keeps_count _ _ _ (by decide +kernel) ?_
    refine Dev.keeps_set _ _ _ _ (by decide +kernel) ?_
    exact Dev.keeps_refl _ _
  · refine Dev.keeps_step (by decide +kernel) (Dev.event_keeps ..) ?_
    refine Dev.keeps_set _ _ _ _ (by decide +kernel) ?_
    refine Dev.keeps_count _ _ _ (by decide +kernel) ?_
    refine Dev.keeps_set _ _ _ _ (by decide +kernel) ?_
    exact Dev.keeps_refl _ _

theorem Dev.readValue_keeps (num : Nat) (slot : Nat) (v : Nat) (d : Dev) : Dev.keeps ⟨[.out, .cm, .dma], [], []⟩ d (Dev.readValue num slot
    v d) := by
  unfold Dev.readValue
  dsimp -proj only
  split
  · exact Dev.keeps_refl _ _
  · refine Dev.keeps_ite ?_ ?_
    · split
      · refine Dev.keeps_step (by decide +kernel) (Dev.modDma_keeps ..) ?_
        refine Dev.keeps_cm _ (by decide +kernel) ?_
        exact Dev.keeps_refl _ _
      · refine Dev.keeps_step (by decide +kernel) (Dev.emit_keeps ..) ?_
        refine Dev.keeps_cm _ (by decide +kernel) ?_
        exact Dev.keeps_refl _ _
    · refine Dev.keeps_cm _ (by decide +kernel) ?_
      exact Dev.keeps_refl _ _

theorem Dev.endReq_keeps (q : PtReq) (status : Nat) (d : Dev) : Dev.keeps ⟨[.out, .cm, .host, .dma], [F.CM_CRS_PT_FAILED, F.CM_DIR_W0_EVQ,
    F.DM_CH_DETAIL_PTFAIL, F.GL_PT_ERR_W0_COUNT, F.GL_PT_ERR_W0_STATUS, F.GL_PT_ERR_W1_ADDRESS, F.GP_HARVEST_PB_FAIL, F.HC_IRQ_STAT_STAT],
    []⟩ d (Dev.endReq q status d) := by
  unfold Dev.endReq
  dsimp -proj only
  refine Dev.keeps_ite ?_ ?_
  · refine Dev.keeps_ite ?_ ?_
    · split
      · refine Dev.keeps_ite ?_ ?_
        · refine Dev.keeps_step (by decide +kernel) (Dev.pointFail_keeps ..) ?_
          refine Dev.keeps_cm _ (by decide +kernel) ?_
          exact Dev.keeps_refl _ _
        · refine Dev.keeps_count _ _ _ (by decide +kernel) ?_
          refine Dev.keeps_step (by decide +kernel) (Dev.pointFail_keeps ..) ?_
          refine Dev.keeps_cm _ (by decide +kernel) ?_
          exact Dev.keeps_refl _ _
      · refine Dev.keeps_step (by decide +kernel) (Dev.pointFail_keeps ..) ?_
        refine Dev.keeps_cm _ (by decide +kernel) ?_
        exact Dev.keeps_refl _ _
    · refine Dev.keeps_step (by decide +kernel) (Dev.readValue_keeps ..) ?_
      split
      · refine Dev.keeps_ite ?_ ?_
        · refine Dev.keeps_step (by decide +kernel) (Dev.pointFail_keeps ..) ?_
          refine Dev.keeps_cm _ (by decide +kernel) ?_
          exact Dev.keeps_refl _ _
        · refine Dev.keeps_count _ _ _ (by decide +kernel) ?_
          refine Dev.keeps_step (by decide +kernel) (Dev.pointFail_keeps ..) ?_
          refine Dev.keeps_cm _ (by decide +kernel) ?_
          exact Dev.keeps_refl _ _
      · refine Dev.keeps_step (by decide +kernel) (Dev.pointFail_keeps ..) ?_
        refine Dev.keeps_cm _ (by decide +kernel) ?_
        exact Dev.keeps_refl _ _
  · refine Dev.keeps_ite ?_ ?_
    · split
      · refine Dev.keeps_count _ _ _ (by decide +kernel) ?_
        refine Dev.keeps_cm _ (by decide +kernel) ?_
        exact Dev.keeps_refl _ _
      · refine Dev.keeps_cm _ (by decide +kernel) ?_
        exact Dev.keeps_refl _ _
    · refine Dev.keeps_ite ?_ ?_
      · refine Dev.keeps_flag _ _ _ _ (by decide +kernel) ?_
        refine Dev.keeps_cm _ (by decide +kernel) ?_
        exact Dev.keeps_refl _ _
      · refine Dev.keeps_ite ?_ ?_
        · refine Dev.keeps_step (by decide +kernel) (Dev.holdsLat_keeps ..) ?_
          refine Dev.keeps_cm _ (by decide +kernel) ?_
          exact Dev.keeps_refl _ _
        · refine Dev.keeps_cm _ (by decide +kernel) ?_
          exact Dev.keeps_refl _ _

theorem Dev.dropReqs_keeps (c : Nat) (status : Nat) (d : Dev) : Dev.keeps ⟨[.out, .cm, .host, .dma], [F.CM_CRS_PT_FAILED, F.CM_DIR_W0_EVQ,
    F.DM_CH_DETAIL_PTFAIL, F.GL_PT_ERR_W0_COUNT, F.GL_PT_ERR_W0_STATUS, F.GL_PT_ERR_W1_ADDRESS, F.GP_HARVEST_PB_FAIL, F.HC_IRQ_STAT_STAT],
    []⟩ d (Dev.dropReqs c status d) := by
  unfold Dev.dropReqs
  refine Dev.keeps_foldl _ _ ?_ ?_
  · intro _ _
    refine Dev.keeps_step (by decide +kernel) (Dev.endReq_keeps ..) ?_
    exact Dev.keeps_refl _ _
  · exact Dev.keeps_refl _ _

theorem Dev.countEntries_keeps (c : Nat) (d : Dev) : Dev.keeps ⟨[], [F.CM_CRS_STAT_FOUND, F.CM_CRS_STAT_IN_SERVICE], []⟩ d
    (Dev.countEntries c d) := by
  unfold Dev.countEntries
  dsimp -proj only
  refine Dev.keeps_set _ _ _ _ (by decide +kernel) ?_
  refine Dev.keeps_set _ _ _ _ (by decide +kernel) ?_
  exact Dev.keeps_refl _ _

theorem Dev.setEntry_keeps (c : Nat) (p : Nat) (st : Nat) (d : Dev) : Dev.keeps ⟨[], [F.CM_CRS_STAT_FOUND, F.CM_CRS_STAT_IN_SERVICE,
    F.CM_DIR_W0_STATE], []⟩ d (Dev.setEntry c p st d) := by
  unfold Dev.setEntry
  refine Dev.keeps_step (by decide +kernel) (Dev.countEntries_keeps ..) ?_
  refine Dev.keeps_set _ _ _ _ (by decide +kernel) ?_
  exact Dev.keeps_refl _ _

theorem Dev.failAdmission_keeps (c : Nat) (p : Nat) (d : Dev) : Dev.keeps ⟨[.cm], [F.CM_CRS_STAT_FOUND, F.CM_CRS_STAT_IN_SERVICE,
    F.CM_DIR_W0_REASON, F.CM_DIR_W0_STATE], []⟩ d (Dev.failAdmission c p d) := by
  unfold Dev.failAdmission
  dsimp -proj only
  refine Dev.keeps_ite ?_ ?_
  · refine Dev.keeps_step (by decide +kernel) (Dev.setEntry_keeps ..) ?_
    refine Dev.keeps_step (by decide +kernel) (Dev.modDir_keeps ..) ?_
    exact Dev.keeps_refl _ _
  · refine Dev.keeps_set _ _ _ _ (by decide +kernel) ?_
    refine Dev.keeps_step (by decide +kernel) (Dev.setEntry_keeps ..) ?_
    refine Dev.keeps_step (by decide +kernel) (Dev.modDir_keeps ..) ?_
    exact Dev.keeps_refl _ _

theorem Dev.orderOp_keeps (t : Nat) (kind : Nat) (i : Nat) (d : Dev) : Dev.keeps ⟨[.cm], [], []⟩ d (Dev.orderOp t kind i d) := by
  unfold Dev.orderOp
  dsimp -proj only
  refine Dev.keeps_cm _ (by decide +kernel) ?_
  exact Dev.keeps_refl _ _

theorem Dev.courseDown_keeps (c : Nat) (d : Dev) : Dev.keeps ⟨[.out, .cm, .host, .dma], [F.CM_CRS_PT_FAILED, F.CM_CRS_STAT_FOUND,
    F.CM_CRS_STAT_IN_SERVICE, F.CM_DIR_W0_EVQ, F.CM_DIR_W0_REASON, F.CM_DIR_W0_STATE, F.DM_CH_DETAIL_PTFAIL, F.GL_PT_ERR_W0_COUNT,
    F.GL_PT_ERR_W0_STATUS, F.GL_PT_ERR_W1_ADDRESS, F.GP_HARVEST_PB_FAIL, F.HC_IRQ_STAT_STAT], []⟩ d (Dev.courseDown c d) := by
  unfold Dev.courseDown
  dsimp -proj only
  refine Dev.keeps_each _ _ ?_ ?_
  · intro _ _
    refine Dev.keeps_ite ?_ ?_
    · refine Dev.keeps_step (by decide +kernel) (Dev.failAdmission_keeps ..) ?_
      split
      · refine Dev.keeps_step (by decide +kernel) (Dev.orderOp_keeps ..) ?_
        exact Dev.keeps_refl _ _
      · exact Dev.keeps_refl _ _
    · exact Dev.keeps_refl _ _
  · refine Dev.keeps_step (by decide +kernel) (Dev.modCrs_keeps ..) ?_
    refine Dev.keeps_step (by decide +kernel) (Dev.dropReqs_keeps ..) ?_
    exact Dev.keeps_refl _ _

theorem Dev.startDiscovery_keeps (c : Nat) (d : Dev) : Dev.keeps ⟨[.out, .cm], [], []⟩ d (Dev.startDiscovery c d) := by
  unfold Dev.startDiscovery
  dsimp -proj only
  refine Dev.keeps_step (by decide +kernel) (Dev.send_keeps ..) ?_
  refine Dev.keeps_each _ _ ?_ ?_
  · intro _ _
    refine Dev.keeps_step (by decide +kernel) (Dev.modLane_keeps ..) ?_
    exact Dev.keeps_refl _ _
  · refine Dev.keeps_step (by decide +kernel) (Dev.modCrs_keeps ..) ?_
    refine Dev.keeps_each _ _ ?_ ?_
    · intro _ _
      refine Dev.keeps_ite ?_ ?_
      · exact Dev.keeps_refl _ _
      · refine Dev.keeps_step (by decide +kernel) (Dev.modDir_keeps ..) ?_
        exact Dev.keeps_refl _ _
    · exact Dev.keeps_refl _ _

theorem Dev.startMeasure_keeps (c : Nat) (d : Dev) : Dev.keeps ⟨[.cm], [], []⟩ d (Dev.startMeasure c d) := by
  unfold Dev.startMeasure
  dsimp -proj only
  refine Dev.keeps_step (by decide +kernel) (Dev.modCrs_keeps ..) ?_
  exact Dev.keeps_refl _ _

theorem Dev.updateDeliv_keeps (c : Nat) (d : Dev) : Dev.keeps ⟨[], [F.CM_CRS_DELIV_DELIV, F.CM_CRS_DELIV_WORST], []⟩ d (Dev.updateDeliv c
    d) := by
  unfold Dev.updateDeliv
  dsimp -proj only
  split
  · refine Dev.keeps_set _ _ _ _ (by decide +kernel) ?_
    refine Dev.keeps_set _ _ _ _ (by decide +kernel) ?_
    exact Dev.keeps_refl _ _
  · refine Dev.keeps_set _ _ _ _ (by decide +kernel) ?_
    refine Dev.keeps_set _ _ _ _ (by decide +kernel) ?_
    exact Dev.keeps_refl _ _

theorem Dev.setCourse_keeps (c : Nat) (st : Nat) (d : Dev) : Dev.keeps ⟨[.out, .cm, .fc, .host, .dma], [F.CM_CRS_DELIV_DELIV,
    F.CM_CRS_DELIV_WORST, F.CM_CRS_PT_FAILED, F.CM_CRS_STAT_FOUND, F.CM_CRS_STAT_IN_SERVICE, F.CM_CRS_STAT_STATE, F.CM_DIR_W0_EVQ,
    F.CM_DIR_W0_REASON, F.CM_DIR_W0_STATE, F.DM_CH_DETAIL_PTFAIL, F.GL_PT_ERR_W0_COUNT, F.GL_PT_ERR_W0_STATUS, F.GL_PT_ERR_W1_ADDRESS,
    F.GP_HARVEST_PB_FAIL, F.HC_IRQ_STAT_STAT], []⟩ d (Dev.setCourse c st d) := by
  unfold Dev.setCourse
  dsimp -proj only
  refine Dev.keeps_ite ?_ ?_
  · exact Dev.keeps_refl _ _
  · refine Dev.keeps_step (by decide +kernel) (Dev.updateDeliv_keeps ..) ?_
    refine Dev.keeps_ite ?_ ?_
    · refine Dev.keeps_step (by decide +kernel) (Dev.courseDown_keeps ..) ?_
      refine Dev.keeps_ite ?_ ?_
      · refine Dev.keeps_step (by decide +kernel) (Dev.modCrs_keeps ..) ?_
        refine Dev.keeps_set _ _ _ _ (by decide +kernel) ?_
        exact Dev.keeps_refl _ _
      · refine Dev.keeps_step (by decide +kernel) (Dev.raise_keeps ..) ?_
        refine Dev.keeps_step (by decide +kernel) (Dev.modCrs_keeps ..) ?_
        refine Dev.keeps_set _ _ _ _ (by decide +kernel) ?_
        exact Dev.keeps_refl _ _
    · refine Dev.keeps_ite ?_ ?_
      · refine Dev.keeps_step (by decide +kernel) (Dev.startDiscovery_keeps ..) ?_
        refine Dev.keeps_ite ?_ ?_
        · refine Dev.keeps_step (by decide +kernel) (Dev.modCrs_keeps ..) ?_
          refine Dev.keeps_set _ _ _ _ (by decide +kernel) ?_
          exact Dev.keeps_refl _ _
        · refine Dev.keeps_step (by decide +kernel) (Dev.raise_keeps ..) ?_
          refine Dev.keeps_step (by decide +kernel) (Dev.modCrs_keeps ..) ?_
          refine Dev.keeps_set _ _ _ _ (by decide +kernel) ?_
          exact Dev.keeps_refl _ _
      · refine Dev.keeps_step (by decide +kernel) (Dev.startMeasure_keeps ..) ?_
        refine Dev.keeps_ite ?_ ?_
        · refine Dev.keeps_step (by decide +kernel) (Dev.modCrs_keeps ..) ?_
          refine Dev.keeps_set _ _ _ _ (by decide +kernel) ?_
          exact Dev.keeps_refl _ _
        · refine Dev.keeps_step (by decide +kernel) (Dev.raise_keeps ..) ?_
          refine Dev.keeps_step (by decide +kernel) (Dev.modCrs_keeps ..) ?_
          refine Dev.keeps_set _ _ _ _ (by decide +kernel) ?_
          exact Dev.keeps_refl _ _

theorem Dev.refreshCourse_keeps (c : Nat) (d : Dev) : Dev.keeps ⟨[.out, .cm, .fc, .host, .dma], [F.CM_CRS_DELIV_DELIV,
    F.CM_CRS_DELIV_WORST, F.CM_CRS_PT_FAILED, F.CM_CRS_STAT_FOUND, F.CM_CRS_STAT_F_WORKING, F.CM_CRS_STAT_H_WORKING,
    F.CM_CRS_STAT_IN_SERVICE, F.CM_CRS_STAT_STATE, F.CM_DIR_W0_EVQ, F.CM_DIR_W0_REASON, F.CM_DIR_W0_STATE, F.DM_CH_DETAIL_PTFAIL,
    F.GL_PT_ERR_W0_COUNT, F.GL_PT_ERR_W0_STATUS, F.GL_PT_ERR_W1_ADDRESS, F.GP_HARVEST_PB_FAIL, F.HC_IRQ_STAT_STAT], []⟩ d
    (Dev.refreshCourse c d) := by
  unfold Dev.refreshCourse
  dsimp -proj only
  refine Dev.keeps_ite ?_ ?_
  · refine Dev.keeps_step (by decide +kernel) (Dev.setCourse_keeps ..) ?_
    refine Dev.keeps_flag _ _ _ _ (by decide +kernel) ?_
    refine Dev.keeps_flag _ _ _ _ (by decide +kernel) ?_
    exact Dev.keeps_refl _ _
  · refine Dev.keeps_ite ?_ ?_
    · refine Dev.keeps_step (by decide +kernel) (Dev.setCourse_keeps ..) ?_
      refine Dev.keeps_flag _ _ _ _ (by decide +kernel) ?_
      refine Dev.keeps_flag _ _ _ _ (by decide +kernel) ?_
      exact Dev.keeps_refl _ _
    · refine Dev.keeps_ite ?_ ?_
      · refine Dev.keeps_flag _ _ _ _ (by decide +kernel) ?_
        refine Dev.keeps_flag _ _ _ _ (by decide +kernel) ?_
        exact Dev.keeps_refl _ _
      · refine Dev.keeps_step (by decide +kernel) (Dev.setCourse_keeps ..) ?_
        refine Dev.keeps_flag _ _ _ _ (by decide +kernel) ?_
        refine Dev.keeps_flag _ _ _ _ (by decide +kernel) ?_
        exact Dev.keeps_refl _ _

theorem Dev.loseEnd_keeps (c : Nat) (e : Nat) (d : Dev) : Dev.keeps ⟨[.out, .cm, .fc, .host, .dma], [F.CM_CRS_DELIV_DELIV,
    F.CM_CRS_DELIV_WORST, F.CM_CRS_PT_FAILED, F.CM_CRS_STAT_FOUND, F.CM_CRS_STAT_F_WORKING, F.CM_CRS_STAT_H_WORKING,
    F.CM_CRS_STAT_IN_SERVICE, F.CM_CRS_STAT_STATE, F.CM_DIR_W0_EVQ, F.CM_DIR_W0_REASON, F.CM_DIR_W0_STATE, F.DM_CH_DETAIL_PTFAIL,
    F.GL_PT_ERR_W0_COUNT, F.GL_PT_ERR_W0_STATUS, F.GL_PT_ERR_W1_ADDRESS, F.GP_HARVEST_PB_FAIL, F.HC_IRQ_STAT_STAT], []⟩ d (Dev.loseEnd c e
    d) := by
  unfold Dev.loseEnd
  refine Dev.keeps_ite ?_ ?_
  · refine Dev.keeps_step (by decide +kernel) (Dev.refreshCourse_keeps ..) ?_
    refine Dev.keeps_step (by decide +kernel) (Dev.modLane_keeps ..) ?_
    exact Dev.keeps_refl _ _
  · exact Dev.keeps_refl _ _

theorem Dev.killLane_keeps (forced : Bool) (c : Nat) (e : Nat) (d : Dev) : Dev.keeps ⟨[.out, .cm, .fc, .host, .dma],
    [F.CM_CRS_DELIV_DELIV, F.CM_CRS_DELIV_WORST, F.CM_CRS_PT_FAILED, F.CM_CRS_STAT_FOUND, F.CM_CRS_STAT_F_WORKING,
    F.CM_CRS_STAT_H_WORKING, F.CM_CRS_STAT_IN_SERVICE, F.CM_CRS_STAT_STATE, F.CM_DIR_W0_EVQ, F.CM_DIR_W0_REASON, F.CM_DIR_W0_STATE,
    F.CM_LANE_STAT_CDR_LOCK, F.CM_LANE_STAT_STATE, F.CM_LANE_STAT_TX_IDLE, F.DM_CH_DETAIL_PTFAIL, F.GL_PT_ERR_W0_COUNT,
    F.GL_PT_ERR_W0_STATUS, F.GL_PT_ERR_W1_ADDRESS, F.GP_HARVEST_PB_FAIL, F.HC_IRQ_STAT_STAT], []⟩ d (Dev.killLane forced c e d) := by
  unfold Dev.killLane
  refine Dev.keeps_step (by decide +kernel) (Dev.loseEnd_keeps ..) ?_
  refine Dev.keeps_step (by decide +kernel) (Dev.laneIdle_keeps ..) ?_
  exact Dev.keeps_refl _ _

theorem transmitEidle_keeps (c : Nat) (e : Nat) (d : Dev) : Dev.keeps ⟨[.out, .cm], [F.CM_LANE_STAT_CDR_LOCK, F.CM_LANE_STAT_STATE,
    F.CM_LANE_STAT_TX_IDLE], []⟩ d (transmitEidle c e d) := by
  unfold transmitEidle
  refine Dev.keeps_ite ?_ ?_
  · refine Dev.keeps_step (by decide +kernel) (Dev.laneIdle_keeps ..) ?_
    refine Dev.keeps_step (by decide +kernel) (Dev.emit_keeps ..) ?_
    exact Dev.keeps_refl _ _
  · exact Dev.keeps_refl _ _

theorem Dev.idleCourses_keeps (l : List Nat) (d : Dev) : Dev.keeps ⟨[.out, .cm, .fc, .host, .dma], [F.CM_CRS_DELIV_DELIV,
    F.CM_CRS_DELIV_WORST, F.CM_CRS_PT_FAILED, F.CM_CRS_STAT_FOUND, F.CM_CRS_STAT_F_WORKING, F.CM_CRS_STAT_H_WORKING,
    F.CM_CRS_STAT_IN_SERVICE, F.CM_CRS_STAT_STATE, F.CM_DIR_W0_EVQ, F.CM_DIR_W0_REASON, F.CM_DIR_W0_STATE, F.CM_LANE_STAT_CDR_LOCK,
    F.CM_LANE_STAT_STATE, F.CM_LANE_STAT_TX_IDLE, F.DM_CH_DETAIL_PTFAIL, F.GL_PT_ERR_W0_COUNT, F.GL_PT_ERR_W0_STATUS,
    F.GL_PT_ERR_W1_ADDRESS, F.GP_HARVEST_PB_FAIL, F.HC_IRQ_STAT_STAT], []⟩ d (Dev.idleCourses l d) := by
  unfold Dev.idleCourses
  refine Dev.keeps_each _ _ ?_ ?_
  · intro _ _
    refine Dev.keeps_each _ _ ?_ ?_
    · intro _ _
      refine Dev.keeps_step (by decide +kernel) (transmitEidle_keeps ..) ?_
      refine Dev.keeps_step (by decide +kernel) (Dev.killLane_keeps ..) ?_
      exact Dev.keeps_refl _ _
    · exact Dev.keeps_refl _ _
  · exact Dev.keeps_refl _ _

theorem Dev.raiseSafe_keeps (n : Nat) (d : Dev) : Dev.keeps ⟨[.fc], [], []⟩ d (Dev.raiseSafe n d) := by
  unfold Dev.raiseSafe
  dsimp -proj only
  refine Dev.keeps_fc _ (by decide +kernel) ?_
  exact Dev.keeps_refl _ _

theorem Dev.wakeLane_keeps (c : Nat) (e : Nat) (full : Bool) (d : Dev) : Dev.keeps ⟨[.out, .cm], [F.CM_LANE_STAT_CDR_LOCK,
    F.CM_LANE_STAT_STATE, F.CM_LANE_STAT_TX_IDLE], []⟩ d (Dev.wakeLane c e full d) := by
  unfold Dev.wakeLane
  dsimp -proj only
  refine Dev.keeps_ite ?_ ?_
  · exact Dev.keeps_refl _ _
  · refine Dev.keeps_step (by decide +kernel) (Dev.showLane_keeps ..) ?_
    refine Dev.keeps_flag _ _ _ _ (by decide +kernel) ?_
    refine Dev.keeps_step (by decide +kernel) (Dev.modLane_keeps ..) ?_
    refine Dev.keeps_step (by decide +kernel) (Dev.emit_keeps ..) ?_
    exact Dev.keeps_refl _ _

theorem Dev.wakeCourse_keeps (c : Nat) (full : Bool) (d : Dev) : Dev.keeps ⟨[.out, .cm], [F.CM_LANE_STAT_CDR_LOCK, F.CM_LANE_STAT_STATE,
    F.CM_LANE_STAT_TX_IDLE], []⟩ d (Dev.wakeCourse c full d) := by
  unfold Dev.wakeCourse
  refine Dev.keeps_step (by decide +kernel) (Dev.wakeLane_keeps ..) ?_
  refine Dev.keeps_step (by decide +kernel) (Dev.wakeLane_keeps ..) ?_
  exact Dev.keeps_refl _ _

theorem Dev.ask_keeps (cls : Nat) (ctx : Nat) (rd : Nat) (slot : Nat) (write : Bool) (brick : Nat) (index : Nat) (value : Nat) (d : Dev) :
    Dev.keeps ⟨[.cm], [], []⟩ d (Dev.ask cls ctx rd slot write brick index value d) := by
  unfold Dev.ask
  dsimp -proj only
  refine Dev.keeps_cm _ (by decide +kernel) ?_
  exact Dev.keeps_refl _ _

theorem Dev.setRx_keeps (c : Nat) (e : Nat) (st : Nat) (d : Dev) : Dev.keeps ⟨[.cm], [F.CM_LANE_STAT_CDR_LOCK, F.CM_LANE_STAT_STATE], []⟩
    d (Dev.setRx c e st d) := by
  unfold Dev.setRx
  refine Dev.keeps_step (by decide +kernel) (Dev.showLane_keeps ..) ?_
  refine Dev.keeps_step (by decide +kernel) (Dev.modLane_keeps ..) ?_
  exact Dev.keeps_refl _ _

theorem Dev.endLoop_keeps (c : Nat) (e : Nat) (result : Option Nat) (d : Dev) : Dev.keeps ⟨[.out, .cm], [F.CM_LANE_CTL_BUSY,
    F.CM_LANE_CTL_RESULT, F.CM_LANE_STAT_CDR_LOCK, F.CM_LANE_STAT_LOOP, F.CM_LANE_STAT_LOOP_HOPS, F.CM_LANE_STAT_STATE,
    F.CM_LANE_STAT_TX_IDLE], []⟩ d (Dev.endLoop c e result d) := by
  unfold Dev.endLoop
  dsimp -proj only
  refine Dev.keeps_ite ?_ ?_
  · exact Dev.keeps_refl _ _
  · refine Dev.keeps_step (by decide +kernel) (Dev.wakeLane_keeps ..) ?_
    refine Dev.keeps_ite ?_ ?_
    · refine Dev.keeps_step (by decide +kernel) (Dev.showLane_keeps ..) ?_
      split
      · refine Dev.keeps_set _ _ _ _ (by decide +kernel) ?_
        refine Dev.keeps_flag _ _ _ _ (by decide +kernel) ?_
        refine Dev.keeps_set _ _ _ _ (by decide +kernel) ?_
        refine Dev.keeps_set _ _ _ _ (by decide +kernel) ?_
        refine Dev.keeps_ite ?_ ?_
        · refine Dev.keeps_step (by decide +kernel) (Dev.emit_keeps ..) ?_
          exact Dev.keeps_refl _ _
        · exact Dev.keeps_refl _ _
      · refine Dev.keeps_flag _ _ _ _ (by decide +kernel) ?_
        refine Dev.keeps_set _ _ _ _ (by decide +kernel) ?_
        refine Dev.keeps_set _ _ _ _ (by decide +kernel) ?_
        refine Dev.keeps_ite ?_ ?_
        · refine Dev.keeps_step (by decide +kernel) (Dev.emit_keeps ..) ?_
          exact Dev.keeps_refl _ _
        · exact Dev.keeps_refl _ _
    · refine Dev.keeps_step (by decide +kernel) (Dev.setRx_keeps ..) ?_
      split
      · refine Dev.keeps_set _ _ _ _ (by decide +kernel) ?_
        refine Dev.keeps_flag _ _ _ _ (by decide +kernel) ?_
        refine Dev.keeps_set _ _ _ _ (by decide +kernel) ?_
        refine Dev.keeps_set _ _ _ _ (by decide +kernel) ?_
        refine Dev.keeps_ite ?_ ?_
        · refine Dev.keeps_step (by decide +kernel) (Dev.emit_keeps ..) ?_
          exact Dev.keeps_refl _ _
        · exact Dev.keeps_refl _ _
      · refine Dev.keeps_flag _ _ _ _ (by decide +kernel) ?_
        refine Dev.keeps_set _ _ _ _ (by decide +kernel) ?_
        refine Dev.keeps_set _ _ _ _ (by decide +kernel) ?_
        refine Dev.keeps_ite ?_ ?_
        · refine Dev.keeps_step (by decide +kernel) (Dev.emit_keeps ..) ?_
          exact Dev.keeps_refl _ _
        · exact Dev.keeps_refl _ _

theorem Dev.killCourses_keeps (l : List Nat) (d : Dev) : Dev.keeps ⟨[.out, .cm, .fc, .host, .dma], [F.CM_CRS_DELIV_DELIV,
    F.CM_CRS_DELIV_WORST, F.CM_CRS_PT_FAILED, F.CM_CRS_STAT_FOUND, F.CM_CRS_STAT_F_WORKING, F.CM_CRS_STAT_H_WORKING,
    F.CM_CRS_STAT_IN_SERVICE, F.CM_CRS_STAT_STATE, F.CM_DIR_W0_EVQ, F.CM_DIR_W0_REASON, F.CM_DIR_W0_STATE, F.CM_LANE_STAT_CDR_LOCK,
    F.CM_LANE_STAT_STATE, F.CM_LANE_STAT_TX_IDLE, F.DM_CH_DETAIL_PTFAIL, F.GL_PT_ERR_W0_COUNT, F.GL_PT_ERR_W0_STATUS,
    F.GL_PT_ERR_W1_ADDRESS, F.GP_HARVEST_PB_FAIL, F.HC_IRQ_STAT_STAT], []⟩ d (Dev.killCourses l d) := by
  unfold Dev.killCourses
  refine Dev.keeps_each _ _ ?_ ?_
  · intro _ _
    refine Dev.keeps_each _ _ ?_ ?_
    · intro _ _
      refine Dev.keeps_step (by decide +kernel) (Dev.modLane_keeps ..) ?_
      refine Dev.keeps_step (by decide +kernel) (Dev.killLane_keeps ..) ?_
      exact Dev.keeps_refl _ _
    · exact Dev.keeps_refl _ _
  · exact Dev.keeps_refl _ _

theorem Dev.takeOut_keeps (c : Nat) (p : Nat) (d : Dev) : Dev.keeps ⟨[.cm], [F.CM_CRS_DELIV_DELIV, F.CM_CRS_DELIV_WORST,
    F.CM_CRS_STAT_FOUND, F.CM_CRS_STAT_IN_SERVICE, F.CM_DIR_W0_STATE], []⟩ d (Dev.takeOut c p d) := by
  unfold Dev.takeOut
  dsimp -proj only
  refine Dev.keeps_step (by decide +kernel) (Dev.updateDeliv_keeps ..) ?_
  refine Dev.keeps_step (by decide +kernel) (Dev.setEntry_keeps ..) ?_
  refine Dev.keeps_step (by decide +kernel) (Dev.modDir_keeps ..) ?_
  split
  · refine Dev.keeps_step (by decide +kernel) (Dev.orderOp_keeps ..) ?_
    exact Dev.keeps_refl _ _
  · exact Dev.keeps_refl _ _

end Sys2Proof.Machine
end

