-- ==== Sys2Proof/Laws/KeepsHostOps.lean ====
section
/-! SUPPORT. What the operations of Machine/HostOps.lean may change at most, one lemma each. -/

namespace Sys2Proof.Machine

set_option Elab.async false

theorem Dev.cutReads_keeps (n : Nat) (k : Nat) (d : Dev) : Dev.keeps ⟨[.dma], [], []⟩ d (Dev.cutReads n k d) := by
  unfold Dev.cutReads
  refine Dev.keeps_step (by decide +kernel) (Dev.modDma_keeps ..) ?_
  exact Dev.keeps_refl _ _

theorem Dev.dmaSet_keeps (st : Nat) (n : Nat) (d : Dev) : Dev.keeps ⟨[], [F.DM_CH_STAT_STATE, F.DM_FREE_FREE], []⟩ d (Dev.dmaSet st n d)
    := by
  unfold Dev.dmaSet
  refine Dev.keeps_setBit _ _ _ _ _ (by decide +kernel) ?_
  refine Dev.keeps_set _ _ _ _ (by decide +kernel) ?_
  exact Dev.keeps_refl _ _

theorem Dev.dropChanReads_keeps (n : Nat) (d : Dev) : Dev.keeps ⟨[.cm], [], []⟩ d (Dev.dropChanReads n d) := by
  unfold Dev.dropChanReads
  dsimp -proj only
  refine Dev.keeps_cm _ (by decide +kernel) ?_
  exact Dev.keeps_refl _ _

theorem Dev.memFault_keeps (x : Nat) (cause : Nat) (addr : Nat) (write : Bool) (d : Dev) : Dev.keeps ⟨[.out, .fc, .host],
    [F.HC_IRQ_STAT_STAT, F.HC_MMU_FADDR_HI_FADDR_HI, F.HC_MMU_FADDR_LO_FADDR_LO, F.HC_MMU_FAULT_CAUSE, F.HC_MMU_FAULT_COUNT,
    F.HC_MMU_FAULT_PENDING, F.HC_MMU_FAULT_WRITE], []⟩ d (Dev.memFault x cause addr write d) := by
  unfold Dev.memFault
  dsimp -proj only
  refine Dev.keeps_step (by decide +kernel) (Dev.event_keeps ..) ?_
  refine Dev.keeps_step (by decide +kernel) (Dev.raise_keeps ..) ?_
  refine Dev.keeps_ite ?_ ?_
  · refine Dev.keeps_count _ _ _ (by decide +kernel) ?_
    exact Dev.keeps_refl _ _
  · refine Dev.keeps_set _ _ _ _ (by decide +kernel) ?_
    refine Dev.keeps_set _ _ _ _ (by decide +kernel) ?_
    refine Dev.keeps_set _ _ _ _ (by decide +kernel) ?_
    refine Dev.keeps_flag _ _ _ _ (by decide +kernel) ?_
    refine Dev.keeps_flag _ _ _ _ (by decide +kernel) ?_
    refine Dev.keeps_count _ _ _ (by decide +kernel) ?_
    exact Dev.keeps_refl _ _

theorem Dev.startWalk_keeps (n : Nat) (x : Nat) (addr : Nat) (write : Bool) (d : Dev) : Dev.keeps ⟨[.out, .host], [], []⟩ d (Dev.startWalk
    n x addr write d) := by
  unfold Dev.startWalk
  dsimp -proj only
  refine Dev.keeps_ite ?_ ?_
  · refine Dev.keeps_host _ (by decide +kernel) ?_
    exact Dev.keeps_refl _ _
  · refine Dev.keeps_ite ?_ ?_
    · exact Dev.keeps_refl _ _
    · refine Dev.keeps_step (by decide +kernel) (Dev.emit_keeps ..) ?_
      refine Dev.keeps_host _ (by decide +kernel) ?_
      exact Dev.keeps_refl _ _

theorem Dev.dmaIrq_keeps {S : Scope} {d e : Dev} (hS : Scope.le ⟨[.out, .host], [], []⟩ S = true) (f : Fld) (n : Nat)
    (h : S.covers f = true) (g : Dev.keeps S d e) : Dev.keeps S d (Dev.dmaIrq f n e) := by
  unfold Dev.dmaIrq
  dsimp -proj only
  have k := Dev.keeps_flag f true n 0 h g
  split
  · exact Dev.keeps_step hS (Dev.sendMsi_keeps ..) k
  · exact k

theorem Dev.dmaShow_keeps (port : Nat) (d : Dev) : Dev.keeps ⟨[], [F.DM_CH_STAT_STATE, F.DM_FREE_FREE], []⟩ d (Dev.dmaShow port d) := by
  unfold Dev.dmaShow
  refine Dev.keeps_each _ _ ?_ ?_
  · intro _ _
    refine Dev.keeps_ite ?_ ?_
    · refine Dev.keeps_step (by decide +kernel) (Dev.dmaSet_keeps ..) ?_
      exact Dev.keeps_refl _ _
    · exact Dev.keeps_refl _ _
  · exact Dev.keeps_refl _ _

theorem Dev.dmaSkip_keeps (n : Nat) (d : Dev) : Dev.keeps ⟨[.out, .host, .dma], [F.DM_CH_IRQ_DONE, F.DM_CH_IRQ_FULL, F.DM_CH_IRQ_HALF,
    F.DM_CH_IRQ_OVERRUN, F.DM_CH_IRQ_STOP, F.DM_CH_LOST_LOST, F.DM_CH_RING0_RING0], []⟩ d (Dev.dmaSkip n d) := by
  unfold Dev.dmaSkip
  dsimp -proj only
  refine Dev.keeps_ite ?_ ?_
  · exact Dev.keeps_refl _ _
  · refine Dev.keeps_ite ?_ ?_
    · refine Dev.keeps_ite ?_ ?_
      · refine Dev.keeps_ite ?_ ?_
        · refine Dev.keeps_set _ _ _ _ (by decide +kernel) ?_
          refine Dev.keeps_step (by decide +kernel) (Dev.modDma_keeps ..) ?_
          refine Dev.dmaIrq_keeps (by decide +kernel) _ _ (by decide +kernel) ?_
          refine Dev.keeps_addTo _ _ _ _ (by decide +kernel) ?_
          exact Dev.keeps_refl _ _
        · refine Dev.keeps_step (by decide +kernel) (Dev.modDma_keeps ..) ?_
          refine Dev.dmaIrq_keeps (by decide +kernel) _ _ (by decide +kernel) ?_
          refine Dev.keeps_addTo _ _ _ _ (by decide +kernel) ?_
          exact Dev.keeps_refl _ _
      · exact Dev.keeps_refl _ _
    · split
      · refine Dev.keeps_ite ?_ ?_
        · refine Dev.keeps_ite ?_ ?_
          · refine Dev.keeps_set _ _ _ _ (by decide +kernel) ?_
            refine Dev.keeps_step (by decide +kernel) (Dev.modDma_keeps ..) ?_
            refine Dev.dmaIrq_keeps (by decide +kernel) _ _ (by decide +kernel) ?_
            refine Dev.keeps_addTo _ _ _ _ (by decide +kernel) ?_
            exact Dev.keeps_refl _ _
          · refine Dev.keeps_step (by decide +kernel) (Dev.modDma_keeps ..) ?_
            refine Dev.dmaIrq_keeps (by decide +kernel) _ _ (by decide +kernel) ?_
            refine Dev.keeps_addTo _ _ _ _ (by decide +kernel) ?_
            exact Dev.keeps_refl _ _
        · exact Dev.keeps_refl _ _
      · exact Dev.keeps_refl _ _

theorem Dev.dmaIrqEnd_keeps (n : Nat) (kept : Bool) (d : Dev) : Dev.keeps ⟨[.out, .host], [], []⟩ d (Dev.dmaIrqEnd n kept d) := by
  unfold Dev.dmaIrqEnd
  dsimp -proj only
  refine Dev.keeps_ite ?_ ?_
  · exact Dev.keeps_refl _ _
  · refine Dev.keeps_ite ?_ ?_
    · refine Dev.keeps_step (by decide +kernel) (Dev.sendMsi_keeps ..) ?_
      refine Dev.keeps_step (by decide +kernel) (Dev.modCtx_keeps ..) ?_
      exact Dev.keeps_refl _ _
    · refine Dev.keeps_step (by decide +kernel) (Dev.modCtx_keeps ..) ?_
      exact Dev.keeps_refl _ _

theorem Dev.dropRequests_keeps (n : Nat) (d : Dev) : Dev.keeps ⟨[.dma], [], []⟩ d (Dev.dropRequests n d) := by
  unfold Dev.dropRequests
  refine Dev.keeps_step (by decide +kernel) (Dev.modDma_keeps ..) ?_
  refine Dev.keeps_step (by decide +kernel) (Dev.cutReads_keeps ..) ?_
  refine Dev.keeps_step (by decide +kernel) (Dev.modDma_keeps ..) ?_
  exact Dev.keeps_refl _ _

theorem Dev.atHalf_keeps (n : Nat) (d : Dev) : Dev.keeps ⟨[.out, .host, .dma], [F.DM_CH_DONE_DONE, F.DM_CH_IRQ_DONE, F.DM_CH_IRQ_FULL,
    F.DM_CH_IRQ_HALF, F.DM_CH_IRQ_OVERRUN, F.DM_CH_IRQ_STOP], []⟩ d (Dev.atHalf n d) := by
  unfold Dev.atHalf
  dsimp -proj only
  refine Dev.keeps_ite ?_ ?_
  · refine Dev.dmaIrq_keeps (by decide +kernel) _ _ (by decide +kernel) ?_
    refine Dev.keeps_ite ?_ ?_
    · refine Dev.dmaIrq_keeps (by decide +kernel) _ _ (by decide +kernel) ?_
      refine Dev.keeps_step (by decide +kernel) (Dev.modDma_keeps ..) ?_
      refine Dev.keeps_set _ _ _ _ (by decide +kernel) ?_
      exact Dev.keeps_refl _ _
    · refine Dev.keeps_step (by decide +kernel) (Dev.modDma_keeps ..) ?_
      refine Dev.keeps_set _ _ _ _ (by decide +kernel) ?_
      exact Dev.keeps_refl _ _
  · refine Dev.keeps_ite ?_ ?_
    · refine Dev.dmaIrq_keeps (by decide +kernel) _ _ (by decide +kernel) ?_
      refine Dev.keeps_step (by decide +kernel) (Dev.modDma_keeps ..) ?_
      refine Dev.keeps_set _ _ _ _ (by decide +kernel) ?_
      exact Dev.keeps_refl _ _
    · refine Dev.keeps_step (by decide +kernel) (Dev.modDma_keeps ..) ?_
      refine Dev.keeps_set _ _ _ _ (by decide +kernel) ?_
      exact Dev.keeps_refl _ _

theorem Dev.dmaPut_keeps (n : Nat) (l : List (BitVec 8)) (bus : Nat) (attr : Nat) (d : Dev) : Dev.keeps ⟨[.out, .work, .dma], [], []⟩ d
    (Dev.dmaPut n l bus attr d) := by
  unfold Dev.dmaPut
  dsimp -proj only
  refine Dev.keeps_step (by decide +kernel) (Dev.modDma_keeps ..) ?_
  refine Dev.keeps_ite ?_ ?_
  · refine Dev.keeps_step (by decide +kernel) (Dev.pokeBytes_keeps ..) ?_
    exact Dev.keeps_refl _ _
  · refine Dev.keeps_step (by decide +kernel) (Dev.emit_keeps ..) ?_
    exact Dev.keeps_refl _ _

theorem Dev.finishSeg_keeps (n k : Nat) (d : Dev) : Dev.keeps ⟨[.out, .work, .host, .dma], [F.DM_CH_DONE_DONE, F.DM_CH_IRQ_DONE, F.DM_CH_IRQ_FULL, F.DM_CH_IRQ_HALF, F.DM_CH_IRQ_OVERRUN, F.DM_CH_IRQ_STOP], []⟩ d (Dev.finishSeg n k d) := by
  have puts (l : List (BitVec 8)) (bus attr : Nat) (d : Dev) : Dev.keeps ⟨[.out, .work, .host, .dma], [F.DM_CH_DONE_DONE, F.DM_CH_IRQ_DONE, F.DM_CH_IRQ_FULL, F.DM_CH_IRQ_HALF, F.DM_CH_IRQ_OVERRUN, F.DM_CH_IRQ_STOP], []⟩ d (Dev.dmaPut n l bus attr d) :=
    Dev.keeps_mono (by decide +kernel) (Dev.dmaPut_keeps ..)
  have mods (f : DmaSt → DmaSt) (d : Dev) : Dev.keeps ⟨[.out, .work, .host, .dma], [F.DM_CH_DONE_DONE, F.DM_CH_IRQ_DONE, F.DM_CH_IRQ_FULL, F.DM_CH_IRQ_HALF, F.DM_CH_IRQ_OVERRUN, F.DM_CH_IRQ_STOP], []⟩ d (d.modDma n f) := Dev.keeps_mono (by decide +kernel) (Dev.modDma_keeps ..)
  have half (d : Dev) : Dev.keeps ⟨[.out, .work, .host, .dma], [F.DM_CH_DONE_DONE, F.DM_CH_IRQ_DONE, F.DM_CH_IRQ_FULL, F.DM_CH_IRQ_HALF, F.DM_CH_IRQ_OVERRUN, F.DM_CH_IRQ_STOP], []⟩ d (d.atHalf n) := Dev.keeps_mono (by decide +kernel) (Dev.atHalf_keeps ..)
  induction k generalizing d with
  | zero => exact Dev.keeps_refl _ _
  | succ k ih =>
    unfold Dev.finishSeg
    dsimp -proj only
    repeat' split
    all_goals first
      | with_reducible exact Dev.keeps_refl _ _
      | with_reducible exact Dev.keeps_trans (ih _) (Dev.keeps_trans (mods _ _) (puts _ _ _ _))
      | with_reducible exact Dev.keeps_trans (ih _) (Dev.keeps_trans (half _) (puts _ _ _ _))
      | with_reducible exact Dev.keeps_trans (ih _) (puts _ _ _ _)

theorem Dev.dmaStop_keeps (st : Nat) (cause : Nat) (n : Nat) (d : Dev) : Dev.keeps ⟨[.out, .work, .cm, .host, .dma], [F.DM_CH_DONE_DONE,
    F.DM_CH_IRQ_DONE, F.DM_CH_IRQ_FULL, F.DM_CH_IRQ_HALF, F.DM_CH_IRQ_OVERRUN, F.DM_CH_IRQ_STOP, F.DM_CH_STAT_STATE, F.DM_FREE_FREE], []⟩
    d (Dev.dmaStop st cause n d) := by
  unfold Dev.dmaStop
  dsimp -proj only
  refine Dev.keeps_ite ?_ ?_
  · exact Dev.keeps_refl _ _
  · refine Dev.keeps_ite ?_ ?_
    · exact Dev.keeps_refl _ _
    · refine Dev.keeps_step (by decide +kernel) (Dev.dmaSet_keeps ..) ?_
      refine Dev.keeps_step (by decide +kernel) (Dev.dropChanReads_keeps ..) ?_
      refine Dev.keeps_step (by decide +kernel) (Dev.modDma_keeps ..) ?_
      refine Dev.keeps_step (by decide +kernel) (Dev.dropRequests_keeps ..) ?_
      refine Dev.keeps_step (by decide +kernel) (Dev.finishSeg_keeps ..) ?_
      exact Dev.keeps_refl _ _

theorem Dev.withdraw_keeps (m : Nat) (d : Dev) : Dev.keeps ⟨[.dma], [F.DM_CH_STAT_STATE, F.DM_FREE_FREE], []⟩ d (Dev.withdraw m d) := by
  unfold Dev.withdraw
  dsimp -proj only
  refine Dev.keeps_each _ _ ?_ ?_
  · intro _ _
    refine Dev.keeps_ite ?_ ?_
    · refine Dev.keeps_step (by decide +kernel) (Dev.dmaSet_keeps ..) ?_
      refine Dev.keeps_step (by decide +kernel) (Dev.modDma_keeps ..) ?_
      refine Dev.keeps_step (by decide +kernel) (Dev.dropRequests_keeps ..) ?_
      exact Dev.keeps_refl _ _
    · exact Dev.keeps_refl _ _
  · exact Dev.keeps_refl _ _

theorem Dev.sourceGrew_keeps (m : Nat) (d : Dev) : Dev.keeps ⟨[.out, .host, .dma], [F.DM_CH_IRQ_DONE, F.DM_CH_IRQ_FULL, F.DM_CH_IRQ_HALF,
    F.DM_CH_IRQ_OVERRUN, F.DM_CH_IRQ_STOP, F.DM_CH_LOST_LOST, F.DM_CH_RING0_RING0, F.DM_CH_STAT_STATE, F.DM_FREE_FREE], []⟩ d
    (Dev.sourceGrew m d) := by
  unfold Dev.sourceGrew
  dsimp -proj only
  refine Dev.keeps_step (by decide +kernel) (Dev.dmaShow_keeps ..) ?_
  refine Dev.keeps_step (by decide +kernel) (Dev.dmaShow_keeps ..) ?_
  refine Dev.keeps_each _ _ ?_ ?_
  · intro _ _
    refine Dev.keeps_step (by decide +kernel) (Dev.dmaSkip_keeps ..) ?_
    exact Dev.keeps_refl _ _
  · exact Dev.keeps_refl _ _

theorem Dev.dropCache_keeps (x : Nat) (d : Dev) : Dev.keeps ⟨[.host], [], []⟩ d (Dev.dropCache x d) := by
  unfold Dev.dropCache
  dsimp -proj only
  refine Dev.keeps_host _ (by decide +kernel) ?_
  exact Dev.keeps_refl _ _

theorem Dev.dropWalks_keeps (x : Nat) (d : Dev) : Dev.keeps ⟨[.host], [], []⟩ d (Dev.dropWalks x d) := by
  unfold Dev.dropWalks
  dsimp -proj only
  refine Dev.keeps_host _ (by decide +kernel) ?_
  exact Dev.keeps_refl _ _

theorem Dev.rerooted_keeps (x : Nat) (d : Dev) : Dev.keeps ⟨[.host], [], []⟩ d (Dev.rerooted x d) := by
  unfold Dev.rerooted
  dsimp -proj only
  refine Dev.keeps_host _ (by decide +kernel) ?_
  refine Dev.keeps_step (by decide +kernel) (Dev.dropCache_keeps ..) ?_
  exact Dev.keeps_refl _ _

theorem Dev.cacheAdd_keeps (e : TransEntry) (d : Dev) : Dev.keeps ⟨[.host], [], []⟩ d (Dev.cacheAdd e d) := by
  unfold Dev.cacheAdd
  dsimp -proj only
  refine Dev.keeps_host _ (by decide +kernel) ?_
  exact Dev.keeps_refl _ _

end Sys2Proof.Machine
end

