-- ==== Sys2Proof/Laws/KeepsSafetyOps.lean ====
section
/-! SUPPORT. What the operations of Machine/SafetyOps.lean may change at most, one lemma each. -/

namespace Sys2Proof.Machine

set_option Elab.async false

theorem Dev.raised_keeps (m : Nat) (d : Dev) : Dev.keeps ⟨[.sb], [], []⟩ d (Dev.raised m d) := by
  unfold Dev.raised
  dsimp -proj only
  refine Dev.keeps_sb _ (by decide +kernel) ?_
  exact Dev.keeps_refl _ _

theorem Dev.driveHold_keeps (d : Dev) : Dev.keeps ⟨[], [F.SB_STATUS_HOLD_1, F.SB_STATUS_HOLD_2], []⟩ d (Dev.driveHold d) := by
  unfold Dev.driveHold
  dsimp -proj only
  refine Dev.keeps_flag _ _ _ _ (by decide +kernel) ?_
  refine Dev.keeps_flag _ _ _ _ (by decide +kernel) ?_
  exact Dev.keeps_refl _ _

theorem Dev.refreshBrake_keeps (d : Dev) : Dev.keeps ⟨[.out, .fc, .sb, .host], [F.HC_IRQ_STAT_STAT, F.SB_CMD_BUSY, F.SB_STATUS_BRAKE,
    F.SB_STATUS_HOLD_1, F.SB_STATUS_HOLD_2, F.SB_STATUS_TESTING], []⟩ d (Dev.refreshBrake d) := by
  unfold Dev.refreshBrake
  dsimp -proj only
  refine Dev.keeps_ite ?_ ?_
  · exact Dev.keeps_refl _ _
  · refine Dev.keeps_ite ?_ ?_
    · refine Dev.keeps_step (by decide +kernel) (Dev.eventAll_keeps ..) ?_
      refine Dev.keeps_step (by decide +kernel) (Dev.driveHold_keeps ..) ?_
      refine Dev.keeps_ite ?_ ?_
      · refine Dev.keeps_sb _ (by decide +kernel) ?_
        refine Dev.keeps_ite ?_ ?_
        · refine Dev.keeps_ite ?_ ?_
          · refine Dev.keeps_ite ?_ ?_
            · refine Dev.keeps_flag _ _ _ _ (by decide +kernel) ?_
              refine Dev.keeps_flag _ _ _ _ (by decide +kernel) ?_
              refine Dev.keeps_sb _ (by decide +kernel) ?_
              refine Dev.keeps_set _ _ _ _ (by decide +kernel) ?_
              exact Dev.keeps_refl _ _
            · refine Dev.keeps_set _ _ _ _ (by decide +kernel) ?_
              exact Dev.keeps_refl _ _
          · refine Dev.keeps_step (by decide +kernel) (Dev.raise_keeps ..) ?_
            refine Dev.keeps_ite ?_ ?_
            · refine Dev.keeps_flag _ _ _ _ (by decide +kernel) ?_
              refine Dev.keeps_flag _ _ _ _ (by decide +kernel) ?_
              refine Dev.keeps_sb _ (by decide +kernel) ?_
              refine Dev.keeps_set _ _ _ _ (by decide +kernel) ?_
              exact Dev.keeps_refl _ _
            · refine Dev.keeps_set _ _ _ _ (by decide +kernel) ?_
              exact Dev.keeps_refl _ _
        · refine Dev.keeps_ite ?_ ?_
          · refine Dev.keeps_flag _ _ _ _ (by decide +kernel) ?_
            refine Dev.keeps_flag _ _ _ _ (by decide +kernel) ?_
            refine Dev.keeps_sb _ (by decide +kernel) ?_
            refine Dev.keeps_set _ _ _ _ (by decide +kernel) ?_
            exact Dev.keeps_refl _ _
          · refine Dev.keeps_set _ _ _ _ (by decide +kernel) ?_
            exact Dev.keeps_refl _ _
      · refine Dev.keeps_ite ?_ ?_
        · refine Dev.keeps_ite ?_ ?_
          · refine Dev.keeps_ite ?_ ?_
            · refine Dev.keeps_flag _ _ _ _ (by decide +kernel) ?_
              refine Dev.keeps_flag _ _ _ _ (by decide +kernel) ?_
              refine Dev.keeps_sb _ (by decide +kernel) ?_
              refine Dev.keeps_set _ _ _ _ (by decide +kernel) ?_
              exact Dev.keeps_refl _ _
            · refine Dev.keeps_set _ _ _ _ (by decide +kernel) ?_
              exact Dev.keeps_refl _ _
          · refine Dev.keeps_step (by decide +kernel) (Dev.raise_keeps ..) ?_
            refine Dev.keeps_ite ?_ ?_
            · refine Dev.keeps_flag _ _ _ _ (by decide +kernel) ?_
              refine Dev.keeps_flag _ _ _ _ (by decide +kernel) ?_
              refine Dev.keeps_sb _ (by decide +kernel) ?_
              refine Dev.keeps_set _ _ _ _ (by decide +kernel) ?_
              exact Dev.keeps_refl _ _
            · refine Dev.keeps_set _ _ _ _ (by decide +kernel) ?_
              exact Dev.keeps_refl _ _
        · refine Dev.keeps_ite ?_ ?_
          · refine Dev.keeps_flag _ _ _ _ (by decide +kernel) ?_
            refine Dev.keeps_flag _ _ _ _ (by decide +kernel) ?_
            refine Dev.keeps_sb _ (by decide +kernel) ?_
            refine Dev.keeps_set _ _ _ _ (by decide +kernel) ?_
            exact Dev.keeps_refl _ _
          · refine Dev.keeps_set _ _ _ _ (by decide +kernel) ?_
            exact Dev.keeps_refl _ _
    · refine Dev.keeps_step (by decide +kernel) (Dev.driveHold_keeps ..) ?_
      refine Dev.keeps_ite ?_ ?_
      · refine Dev.keeps_sb _ (by decide +kernel) ?_
        refine Dev.keeps_ite ?_ ?_
        · refine Dev.keeps_ite ?_ ?_
          · refine Dev.keeps_ite ?_ ?_
            · refine Dev.keeps_flag _ _ _ _ (by decide +kernel) ?_
              refine Dev.keeps_flag _ _ _ _ (by decide +kernel) ?_
              refine Dev.keeps_sb _ (by decide +kernel) ?_
              refine Dev.keeps_set _ _ _ _ (by decide +kernel) ?_
              exact Dev.keeps_refl _ _
            · refine Dev.keeps_set _ _ _ _ (by decide +kernel) ?_
              exact Dev.keeps_refl _ _
          · refine Dev.keeps_step (by decide +kernel) (Dev.raise_keeps ..) ?_
            refine Dev.keeps_ite ?_ ?_
            · refine Dev.keeps_flag _ _ _ _ (by decide +kernel) ?_
              refine Dev.keeps_flag _ _ _ _ (by decide +kernel) ?_
              refine Dev.keeps_sb _ (by decide +kernel) ?_
              refine Dev.keeps_set _ _ _ _ (by decide +kernel) ?_
              exact Dev.keeps_refl _ _
            · refine Dev.keeps_set _ _ _ _ (by decide +kernel) ?_
              exact Dev.keeps_refl _ _
        · refine Dev.keeps_ite ?_ ?_
          · refine Dev.keeps_flag _ _ _ _ (by decide +kernel) ?_
            refine Dev.keeps_flag _ _ _ _ (by decide +kernel) ?_
            refine Dev.keeps_sb _ (by decide +kernel) ?_
            refine Dev.keeps_set _ _ _ _ (by decide +kernel) ?_
            exact Dev.keeps_refl _ _
          · refine Dev.keeps_set _ _ _ _ (by decide +kernel) ?_
            exact Dev.keeps_refl _ _
      · refine Dev.keeps_ite ?_ ?_
        · refine Dev.keeps_ite ?_ ?_
          · refine Dev.keeps_ite ?_ ?_
            · refine Dev.keeps_flag _ _ _ _ (by decide +kernel) ?_
              refine Dev.keeps_flag _ _ _ _ (by decide +kernel) ?_
              refine Dev.keeps_sb _ (by decide +kernel) ?_
              refine Dev.keeps_set _ _ _ _ (by decide +kernel) ?_
              exact Dev.keeps_refl _ _
            · refine Dev.keeps_set _ _ _ _ (by decide +kernel) ?_
              exact Dev.keeps_refl _ _
          · refine Dev.keeps_step (by decide +kernel) (Dev.raise_keeps ..) ?_
            refine Dev.keeps_ite ?_ ?_
            · refine Dev.keeps_flag _ _ _ _ (by decide +kernel) ?_
              refine Dev.keeps_flag _ _ _ _ (by decide +kernel) ?_
              refine Dev.keeps_sb _ (by decide +kernel) ?_
              refine Dev.keeps_set _ _ _ _ (by decide +kernel) ?_
              exact Dev.keeps_refl _ _
            · refine Dev.keeps_set _ _ _ _ (by decide +kernel) ?_
              exact Dev.keeps_refl _ _
        · refine Dev.keeps_ite ?_ ?_
          · refine Dev.keeps_flag _ _ _ _ (by decide +kernel) ?_
            refine Dev.keeps_flag _ _ _ _ (by decide +kernel) ?_
            refine Dev.keeps_sb _ (by decide +kernel) ?_
            refine Dev.keeps_set _ _ _ _ (by decide +kernel) ?_
            exact Dev.keeps_refl _ _
          · refine Dev.keeps_set _ _ _ _ (by decide +kernel) ?_
            exact Dev.keeps_refl _ _

theorem Dev.demand_keeps (b : Nat) (d : Dev) : Dev.keeps ⟨[.out, .fc, .sb, .host], [F.HC_IRQ_STAT_STAT, F.SB_CMD_BUSY,
    F.SB_DEMAND_IN_FORCE, F.SB_STATUS_BRAKE, F.SB_STATUS_HOLD_1, F.SB_STATUS_HOLD_2, F.SB_STATUS_TESTING], []⟩ d (Dev.demand b d) := by
  unfold Dev.demand
  refine Dev.keeps_step (by decide +kernel) (Dev.refreshBrake_keeps ..) ?_
  refine Dev.keeps_setBit _ _ _ _ _ (by decide +kernel) ?_
  refine Dev.keeps_step (by decide +kernel) (Dev.raised_keeps ..) ?_
  exact Dev.keeps_refl _ _

theorem Dev.demandCond_keeps (b : Nat) (holds : Bool) (d : Dev) : Dev.keeps ⟨[.out, .fc, .sb, .host], [F.HC_IRQ_STAT_STAT, F.SB_CMD_BUSY,
    F.SB_DEMAND_COND, F.SB_DEMAND_IN_FORCE, F.SB_STATUS_BRAKE, F.SB_STATUS_HOLD_1, F.SB_STATUS_HOLD_2, F.SB_STATUS_TESTING], []⟩ d
    (Dev.demandCond b holds d) := by
  unfold Dev.demandCond
  dsimp -proj only
  refine Dev.keeps_ite ?_ ?_
  · refine Dev.keeps_step (by decide +kernel) (Dev.demand_keeps ..) ?_
    refine Dev.keeps_setBit _ _ _ _ _ (by decide +kernel) ?_
    exact Dev.keeps_refl _ _
  · refine Dev.keeps_setBit _ _ _ _ _ (by decide +kernel) ?_
    exact Dev.keeps_refl _ _

theorem Dev.sendSafety_keeps (c : Nat) (f : Frame) (d : Dev) : Dev.keeps ⟨[.out, .cm], [F.SB_COURSE_SENT], []⟩ d (Dev.sendSafety c f d) :=
    by
  unfold Dev.sendSafety
  refine Dev.keeps_each _ _ ?_ ?_
  · intro _ _
    refine Dev.keeps_ite ?_ ?_
    · refine Dev.keeps_count _ _ _ (by decide +kernel) ?_
      refine Dev.keeps_step (by decide +kernel) (Dev.send_keeps ..) ?_
      exact Dev.keeps_refl _ _
    · exact Dev.keeps_refl _ _
  · exact Dev.keeps_refl _ _

theorem Dev.trigger_keeps (cause : Nat) (c : Nat) (d : Dev) : Dev.keeps ⟨[.out, .store, .cm, .fc, .sb, .host], [F.HC_IRQ_STAT_STAT,
    F.MO_JOURNAL_FILL, F.MO_JOURNAL_PENDING, F.SB_COURSE_CAUSE, F.SB_COURSE_SENT, F.SB_COURSE_SEQ, F.SB_COURSE_STATE], []⟩ d (Dev.trigger
    cause c d) := by
  unfold Dev.trigger
  dsimp -proj only
  refine Dev.keeps_ite ?_ ?_
  · exact Dev.keeps_refl _ _
  · refine Dev.keeps_ite ?_ ?_
    · refine Dev.keeps_sb _ (by decide +kernel) ?_
      exact Dev.keeps_refl _ _
    · refine Dev.keeps_step (by decide +kernel) (Dev.eventAll_keeps ..) ?_
      refine Dev.keeps_step (by decide +kernel) (Dev.raise_keeps ..) ?_
      refine Dev.keeps_step (by decide +kernel) (Dev.sendSafety_keeps ..) ?_
      refine Dev.keeps_sb _ (by decide +kernel) ?_
      refine Dev.setKept_keeps (by decide +kernel) _ _ _ _ (by decide +kernel) ?_
      refine Dev.keeps_set _ _ _ _ (by decide +kernel) ?_
      refine Dev.keeps_set _ _ _ _ (by decide +kernel) ?_
      refine Dev.keeps_sb _ (by decide +kernel) ?_
      exact Dev.keeps_refl _ _

theorem Dev.triggerAll_keeps (cause : Nat) (d : Dev) : Dev.keeps ⟨[.out, .store, .cm, .fc, .sb, .host], [F.HC_IRQ_STAT_STAT,
    F.MO_JOURNAL_FILL, F.MO_JOURNAL_PENDING, F.SB_COURSE_CAUSE, F.SB_COURSE_SENT, F.SB_COURSE_SEQ, F.SB_COURSE_STATE], []⟩ d
    (Dev.triggerAll cause d) := by
  unfold Dev.triggerAll
  refine Dev.keeps_each _ _ ?_ ?_
  · intro _ _
    refine Dev.keeps_step (by decide +kernel) (Dev.trigger_keeps ..) ?_
    exact Dev.keeps_refl _ _
  · exact Dev.keeps_refl _ _

theorem Dev.safetySafeState_keeps (d : Dev) : Dev.keeps ⟨[.out, .store, .cm, .fc, .sb, .host], [F.HC_IRQ_STAT_STAT, F.MO_JOURNAL_FILL,
    F.MO_JOURNAL_PENDING, F.SB_CMD_BUSY, F.SB_COURSE_CAUSE, F.SB_COURSE_SENT, F.SB_COURSE_SEQ, F.SB_COURSE_STATE, F.SB_DEMAND_COND,
    F.SB_DEMAND_IN_FORCE, F.SB_STATUS_BRAKE, F.SB_STATUS_HOLD_1, F.SB_STATUS_HOLD_2, F.SB_STATUS_TESTING], []⟩ d (Dev.safetySafeState d)
    := by
  unfold Dev.safetySafeState
  dsimp -proj only
  refine Dev.keeps_ite ?_ ?_
  · refine Dev.keeps_step (by decide +kernel) (Dev.triggerAll_keeps ..) ?_
    refine Dev.keeps_ite ?_ ?_
    · refine Dev.keeps_step (by decide +kernel) (Dev.demandCond_keeps ..) ?_
      exact Dev.keeps_refl _ _
    · exact Dev.keeps_refl _ _
  · refine Dev.keeps_ite ?_ ?_
    · refine Dev.keeps_step (by decide +kernel) (Dev.demandCond_keeps ..) ?_
      exact Dev.keeps_refl _ _
    · exact Dev.keeps_refl _ _

theorem Dev.safetyDirect_keeps (d : Dev) : Dev.keeps ⟨[.out, .store, .cm, .fc, .sb, .host], [F.HC_IRQ_STAT_STAT, F.MO_JOURNAL_FILL,
    F.MO_JOURNAL_PENDING, F.SB_CMD_BUSY, F.SB_COURSE_CAUSE, F.SB_COURSE_SENT, F.SB_COURSE_SEQ, F.SB_COURSE_STATE, F.SB_DEMAND_COND,
    F.SB_DEMAND_IN_FORCE, F.SB_STATUS_BRAKE, F.SB_STATUS_HOLD_1, F.SB_STATUS_HOLD_2, F.SB_STATUS_TESTING], []⟩ d (Dev.safetyDirect d) :=
    by
  unfold Dev.safetyDirect
  dsimp -proj only
  refine Dev.keeps_step (by decide +kernel) (Dev.triggerAll_keeps ..) ?_
  refine Dev.keeps_ite ?_ ?_
  · refine Dev.keeps_step (by decide +kernel) (Dev.demandCond_keeps ..) ?_
    refine Dev.keeps_sb _ (by decide +kernel) ?_
    refine Dev.keeps_step (by decide +kernel) (Dev.safetySafeState_keeps ..) ?_
    exact Dev.keeps_refl _ _
  · refine Dev.keeps_sb _ (by decide +kernel) ?_
    refine Dev.keeps_step (by decide +kernel) (Dev.safetySafeState_keeps ..) ?_
    exact Dev.keeps_refl _ _

theorem Dev.safetyInternal_keeps (holds : Bool) (d : Dev) : Dev.keeps ⟨[.out, .store, .cm, .fc, .sb, .host], [F.FC_COND_COND,
    F.HC_IRQ_STAT_STAT, F.MO_JOURNAL_FILL, F.MO_JOURNAL_PENDING, F.SB_CMD_BUSY, F.SB_COURSE_CAUSE, F.SB_COURSE_SENT, F.SB_COURSE_SEQ,
    F.SB_COURSE_STATE, F.SB_DEMAND_COND, F.SB_DEMAND_IN_FORCE, F.SB_STATUS_BRAKE, F.SB_STATUS_HOLD_1, F.SB_STATUS_HOLD_2,
    F.SB_STATUS_TESTING], []⟩ d (Dev.safetyInternal holds d) := by
  unfold Dev.safetyInternal
  dsimp -proj only
  refine Dev.keeps_ite ?_ ?_
  · refine Dev.keeps_step (by decide +kernel) (Dev.triggerAll_keeps ..) ?_
    refine Dev.keeps_ite ?_ ?_
    · refine Dev.keeps_step (by decide +kernel) (Dev.demandCond_keeps ..) ?_
      refine Dev.keeps_step (by decide +kernel) (Dev.cond_keeps ..) ?_
      refine Dev.keeps_sb _ (by decide +kernel) ?_
      exact Dev.keeps_refl _ _
    · refine Dev.keeps_step (by decide +kernel) (Dev.cond_keeps ..) ?_
      refine Dev.keeps_sb _ (by decide +kernel) ?_
      exact Dev.keeps_refl _ _
  · refine Dev.keeps_ite ?_ ?_
    · refine Dev.keeps_step (by decide +kernel) (Dev.demandCond_keeps ..) ?_
      refine Dev.keeps_step (by decide +kernel) (Dev.cond_keeps ..) ?_
      refine Dev.keeps_sb _ (by decide +kernel) ?_
      exact Dev.keeps_refl _ _
    · refine Dev.keeps_step (by decide +kernel) (Dev.cond_keeps ..) ?_
      refine Dev.keeps_sb _ (by decide +kernel) ?_
      exact Dev.keeps_refl _ _

theorem Dev.unrelease_keeps (c : Nat) (brick : Nat) (d : Dev) : Dev.keeps ⟨[.out, .fc, .host], [F.HC_IRQ_STAT_STAT, F.SB_COURSE_STATE],
    []⟩ d (Dev.unrelease c brick d) := by
  unfold Dev.unrelease
  refine Dev.keeps_step (by decide +kernel) (Dev.eventAll_keeps ..) ?_
  refine Dev.keeps_step (by decide +kernel) (Dev.raise_keeps ..) ?_
  refine Dev.keeps_set _ _ _ _ (by decide +kernel) ?_
  exact Dev.keeps_refl _ _

end Sys2Proof.Machine
end

