-- ==== Sys2Proof/Laws/KeepsSafe.lean ====
section
/-! SUPPORT. What the operations of Machine/Safe.lean may change at most, one lemma each. -/

namespace Sys2Proof.Machine

set_option Elab.async false

theorem Dev.retrigger_keeps (d : Dev) : Dev.keeps ⟨[.out, .store, .cm, .fc, .sb, .host], [F.HC_IRQ_STAT_STAT, F.MO_JOURNAL_FILL,
    F.MO_JOURNAL_PENDING, F.SB_COURSE_CAUSE, F.SB_COURSE_SENT, F.SB_COURSE_SEQ, F.SB_COURSE_STATE], []⟩ d (Dev.retrigger d) := by
  unfold Dev.retrigger
  dsimp -proj only
  refine Dev.keeps_ite ?_ ?_
  · refine Dev.keeps_step (by decide +kernel) (Dev.triggerAll_keeps ..) ?_
    refine Dev.keeps_ite ?_ ?_
    · refine Dev.keeps_step (by decide +kernel) (Dev.triggerAll_keeps ..) ?_
      refine Dev.keeps_ite ?_ ?_
      · refine Dev.keeps_step (by decide +kernel) (Dev.triggerAll_keeps ..) ?_
        refine Dev.keeps_each _ _ ?_ ?_
        · intro _ _
          refine Dev.keeps_each _ _ ?_ ?_
          · intro _ _
            refine Dev.keeps_step (by decide +kernel) (Dev.trigger_keeps ..) ?_
            exact Dev.keeps_refl _ _
          · exact Dev.keeps_refl _ _
        · exact Dev.keeps_refl _ _
      · refine Dev.keeps_each _ _ ?_ ?_
        · intro _ _
          refine Dev.keeps_each _ _ ?_ ?_
          · intro _ _
            refine Dev.keeps_step (by decide +kernel) (Dev.trigger_keeps ..) ?_
            exact Dev.keeps_refl _ _
          · exact Dev.keeps_refl _ _
        · exact Dev.keeps_refl _ _
    · refine Dev.keeps_ite ?_ ?_
      · refine Dev.keeps_step (by decide +kernel) (Dev.triggerAll_keeps ..) ?_
        refine Dev.keeps_each _ _ ?_ ?_
        · intro _ _
          refine Dev.keeps_each _ _ ?_ ?_
          · intro _ _
            refine Dev.keeps_step (by decide +kernel) (Dev.trigger_keeps ..) ?_
            exact Dev.keeps_refl _ _
          · exact Dev.keeps_refl _ _
        · exact Dev.keeps_refl _ _
      · refine Dev.keeps_each _ _ ?_ ?_
        · intro _ _
          refine Dev.keeps_each _ _ ?_ ?_
          · intro _ _
            refine Dev.keeps_step (by decide +kernel) (Dev.trigger_keeps ..) ?_
            exact Dev.keeps_refl _ _
          · exact Dev.keeps_refl _ _
        · exact Dev.keeps_refl _ _
  · refine Dev.keeps_ite ?_ ?_
    · refine Dev.keeps_step (by decide +kernel) (Dev.triggerAll_keeps ..) ?_
      refine Dev.keeps_ite ?_ ?_
      · refine Dev.keeps_step (by decide +kernel) (Dev.triggerAll_keeps ..) ?_
        refine Dev.keeps_each _ _ ?_ ?_
        · intro _ _
          refine Dev.keeps_each _ _ ?_ ?_
          · intro _ _
            refine Dev.keeps_step (by decide +kernel) (Dev.trigger_keeps ..) ?_
            exact Dev.keeps_refl _ _
          · exact Dev.keeps_refl _ _
        · exact Dev.keeps_refl _ _
      · refine Dev.keeps_each _ _ ?_ ?_
        · intro _ _
          refine Dev.keeps_each _ _ ?_ ?_
          · intro _ _
            refine Dev.keeps_step (by decide +kernel) (Dev.trigger_keeps ..) ?_
            exact Dev.keeps_refl _ _
          · exact Dev.keeps_refl _ _
        · exact Dev.keeps_refl _ _
    · refine Dev.keeps_ite ?_ ?_
      · refine Dev.keeps_step (by decide +kernel) (Dev.triggerAll_keeps ..) ?_
        refine Dev.keeps_each _ _ ?_ ?_
        · intro _ _
          refine Dev.keeps_each _ _ ?_ ?_
          · intro _ _
            refine Dev.keeps_step (by decide +kernel) (Dev.trigger_keeps ..) ?_
            exact Dev.keeps_refl _ _
          · exact Dev.keeps_refl _ _
        · exact Dev.keeps_refl _ _
      · refine Dev.keeps_each _ _ ?_ ?_
        · intro _ _
          refine Dev.keeps_each _ _ ?_ ?_
          · intro _ _
            refine Dev.keeps_step (by decide +kernel) (Dev.trigger_keeps ..) ?_
            exact Dev.keeps_refl _ _
          · exact Dev.keeps_refl _ _
        · exact Dev.keeps_refl _ _

theorem Dev.takeOv_keeps (p : SafetyCfg) (d : Dev) : Dev.keeps ⟨[.si, .fc, .sb], [F.FC_COND_COND, F.LM_CONT_DECIM, F.LM_CONT_EN,
    F.LM_CONT_GAIN, F.LM_CONT_INPUT, F.SB_DEMAND_COND], []⟩ d (Dev.takeOv p d) := by
  unfold Dev.takeOv
  dsimp -proj only
  refine Dev.keeps_ite ?_ ?_
  · refine Dev.keeps_setBit _ _ _ _ _ (by decide +kernel) ?_
    refine Dev.keeps_setBit _ _ _ _ _ (by decide +kernel) ?_
    refine Dev.keeps_step (by decide +kernel) (Dev.cond_keeps ..) ?_
    refine Dev.keeps_sb _ (by decide +kernel) ?_
    exact Dev.keeps_refl _ _
  · refine Dev.keeps_sb _ (by decide +kernel) ?_
    refine Dev.keeps_step (by decide +kernel) (Dev.modLm_keeps ..) ?_
    refine Dev.keeps_set _ _ _ _ (by decide +kernel) ?_
    refine Dev.keeps_set _ _ _ _ (by decide +kernel) ?_
    refine Dev.keeps_set _ _ _ _ (by decide +kernel) ?_
    refine Dev.keeps_flag _ _ _ _ (by decide +kernel) ?_
    exact Dev.keeps_refl _ _

theorem Dev.sealAndReady_keeps (p : SafetyCfg) (d : Dev) : Dev.keeps ⟨[.out, .store, .cm, .si, .fc, .sb, .host], [F.FC_COND_COND,
    F.GL_READY_SAFETY, F.HC_IRQ_STAT_STAT, F.LM_CONT_DECIM, F.LM_CONT_EN, F.LM_CONT_GAIN, F.LM_CONT_INPUT, F.MO_JOURNAL_FILL,
    F.MO_JOURNAL_PENDING, F.SB_CMD_BUSY, F.SB_COURSE_CAUSE, F.SB_COURSE_SENT, F.SB_COURSE_SEQ, F.SB_COURSE_STATE, F.SB_DEMAND_COND,
    F.SB_DEMAND_IN_FORCE, F.SB_SEAL_EXPECTED, F.SB_SEAL_MATCH, F.SB_STATUS_BRAKE, F.SB_STATUS_HOLD_1, F.SB_STATUS_HOLD_2,
    F.SB_STATUS_TESTING], []⟩ d (Dev.sealAndReady p d) := by
  unfold Dev.sealAndReady
  dsimp -proj only
  refine Dev.keeps_ite ?_ ?_
  · refine Dev.keeps_ite ?_ ?_
    · refine Dev.keeps_step (by decide +kernel) (Dev.driveHold_keeps ..) ?_
      refine Dev.keeps_set _ _ _ _ (by decide +kernel) ?_
      refine Dev.keeps_flag _ _ _ _ (by decide +kernel) ?_
      refine Dev.keeps_step (by decide +kernel) (Dev.cond_keeps ..) ?_
      refine Dev.keeps_flag _ _ _ _ (by decide +kernel) ?_
      refine Dev.keeps_set _ _ _ _ (by decide +kernel) ?_
      refine Dev.keeps_sb _ (by decide +kernel) ?_
      exact Dev.keeps_refl _ _
    · refine Dev.keeps_step (by decide +kernel) (Dev.eventAll_keeps ..) ?_
      refine Dev.keeps_step (by decide +kernel) (Dev.driveHold_keeps ..) ?_
      refine Dev.keeps_set _ _ _ _ (by decide +kernel) ?_
      refine Dev.keeps_flag _ _ _ _ (by decide +kernel) ?_
      refine Dev.keeps_step (by decide +kernel) (Dev.cond_keeps ..) ?_
      refine Dev.keeps_flag _ _ _ _ (by decide +kernel) ?_
      refine Dev.keeps_set _ _ _ _ (by decide +kernel) ?_
      refine Dev.keeps_sb _ (by decide +kernel) ?_
      exact Dev.keeps_refl _ _
  · refine Dev.keeps_step (by decide +kernel) (Dev.retrigger_keeps ..) ?_
    refine Dev.keeps_ite ?_ ?_
    · refine Dev.keeps_step (by decide +kernel) (Dev.eventAll_keeps ..) ?_
      refine Dev.keeps_step (by decide +kernel) (Dev.driveHold_keeps ..) ?_
      refine Dev.keeps_set _ _ _ _ (by decide +kernel) ?_
      refine Dev.keeps_set _ _ _ _ (by decide +kernel) ?_
      refine Dev.keeps_step (by decide +kernel) (Dev.raised_keeps ..) ?_
      refine Dev.keeps_setBit _ _ _ _ _ (by decide +kernel) ?_
      refine Dev.keeps_setBit _ _ _ _ _ (by decide +kernel) ?_
      refine Dev.keeps_setBit _ _ _ _ _ (by decide +kernel) ?_
      refine Dev.keeps_setBit _ _ _ _ _ (by decide +kernel) ?_
      refine Dev.keeps_step (by decide +kernel) (Dev.takeOv_keeps ..) ?_
      refine Dev.keeps_flag _ _ _ _ (by decide +kernel) ?_
      refine Dev.keeps_sb _ (by decide +kernel) ?_
      refine Dev.keeps_step (by decide +kernel) (Dev.cond_keeps ..) ?_
      refine Dev.keeps_flag _ _ _ _ (by decide +kernel) ?_
      refine Dev.keeps_set _ _ _ _ (by decide +kernel) ?_
      refine Dev.keeps_sb _ (by decide +kernel) ?_
      exact Dev.keeps_refl _ _
    · refine Dev.keeps_step (by decide +kernel) (Dev.refreshBrake_keeps ..) ?_
      refine Dev.keeps_set _ _ _ _ (by decide +kernel) ?_
      refine Dev.keeps_step (by decide +kernel) (Dev.raised_keeps ..) ?_
      refine Dev.keeps_setBit _ _ _ _ _ (by decide +kernel) ?_
      refine Dev.keeps_setBit _ _ _ _ _ (by decide +kernel) ?_
      refine Dev.keeps_setBit _ _ _ _ _ (by decide +kernel) ?_
      refine Dev.keeps_setBit _ _ _ _ _ (by decide +kernel) ?_
      refine Dev.keeps_step (by decide +kernel) (Dev.takeOv_keeps ..) ?_
      refine Dev.keeps_flag _ _ _ _ (by decide +kernel) ?_
      refine Dev.keeps_sb _ (by decide +kernel) ?_
      refine Dev.keeps_step (by decide +kernel) (Dev.cond_keeps ..) ?_
      refine Dev.keeps_flag _ _ _ _ (by decide +kernel) ?_
      refine Dev.keeps_set _ _ _ _ (by decide +kernel) ?_
      refine Dev.keeps_sb _ (by decide +kernel) ?_
      exact Dev.keeps_refl _ _

theorem Dev.foundSeq_keeps (b : Nat) (v : Nat) (d : Dev) : Dev.keeps ⟨[.out, .cm, .sb], [F.SB_COURSE_SENT], []⟩ d (Dev.foundSeq b v d) :=
    by
  unfold Dev.foundSeq
  dsimp -proj only
  refine Dev.keeps_ite ?_ ?_
  · refine Dev.keeps_step (by decide +kernel) (Dev.sendSafety_keeps ..) ?_
    refine Dev.keeps_sb _ (by decide +kernel) ?_
    exact Dev.keeps_refl _ _
  · exact Dev.keeps_refl _ _

theorem Dev.safeReported_keeps (c : Nat) (brick : Nat) (d : Dev) : Dev.keeps ⟨[.out, .fc, .host], [F.HC_IRQ_STAT_STAT, F.SB_COURSE_CAUSE,
    F.SB_COURSE_STATE], []⟩ d (Dev.safeReported c brick d) := by
  unfold Dev.safeReported
  refine Dev.keeps_ite ?_ ?_
  · refine Dev.keeps_step (by decide +kernel) (Dev.unrelease_keeps ..) ?_
    refine Dev.keeps_setBit _ _ _ _ _ (by decide +kernel) ?_
    exact Dev.keeps_refl _ _
  · exact Dev.keeps_refl _ _

theorem Dev.ovOutput_keeps (clip : Bool) (valid : Bool) (code : Int) (d : Dev) : Dev.keeps ⟨[.out, .fc, .sb, .host], [F.FC_COND_COND,
    F.HC_IRQ_STAT_STAT, F.SB_CMD_BUSY, F.SB_DEMAND_COND, F.SB_DEMAND_IN_FORCE, F.SB_STATUS_BRAKE, F.SB_STATUS_HOLD_1, F.SB_STATUS_HOLD_2,
    F.SB_STATUS_TESTING], []⟩ d (Dev.ovOutput clip valid code d) := by
  unfold Dev.ovOutput
  dsimp -proj only
  refine Dev.keeps_ite ?_ ?_
  · exact Dev.keeps_refl _ _
  · refine Dev.keeps_ite ?_ ?_
    · refine Dev.keeps_sb _ (by decide +kernel) ?_
      exact Dev.keeps_refl _ _
    · refine Dev.keeps_ite ?_ ?_
      · refine Dev.keeps_step (by decide +kernel) (Dev.demandCond_keeps ..) ?_
        refine Dev.keeps_sb _ (by decide +kernel) ?_
        refine Dev.keeps_sb _ (by decide +kernel) ?_
        refine Dev.keeps_setBit _ _ _ _ _ (by decide +kernel) ?_
        refine Dev.keeps_step (by decide +kernel) (Dev.cond_keeps ..) ?_
        refine Dev.keeps_sb _ (by decide +kernel) ?_
        exact Dev.keeps_refl _ _
      · refine Dev.keeps_ite ?_ ?_
        · refine Dev.keeps_setBit _ _ _ _ _ (by decide +kernel) ?_
          refine Dev.keeps_sb _ (by decide +kernel) ?_
          refine Dev.keeps_sb _ (by decide +kernel) ?_
          refine Dev.keeps_setBit _ _ _ _ _ (by decide +kernel) ?_
          refine Dev.keeps_step (by decide +kernel) (Dev.cond_keeps ..) ?_
          refine Dev.keeps_sb _ (by decide +kernel) ?_
          exact Dev.keeps_refl _ _
        · refine Dev.keeps_sb _ (by decide +kernel) ?_
          refine Dev.keeps_setBit _ _ _ _ _ (by decide +kernel) ?_
          refine Dev.keeps_step (by decide +kernel) (Dev.cond_keeps ..) ?_
          refine Dev.keeps_sb _ (by decide +kernel) ?_
          exact Dev.keeps_refl _ _

theorem Dev.askStates_keeps (c : Nat) (d : Dev) : Dev.keeps ⟨[.cm, .sb], [], []⟩ d (Dev.askStates c d) := by
  unfold Dev.askStates
  dsimp -proj only
  refine Dev.keeps_ite ?_ ?_
  · refine Dev.keeps_each _ _ ?_ ?_
    · intro _ _
      refine Dev.keeps_step (by decide +kernel) (Dev.ask_keeps ..) ?_
      exact Dev.keeps_refl _ _
    · refine Dev.keeps_sb _ (by decide +kernel) ?_
      exact Dev.keeps_refl _ _
  · exact Dev.keeps_refl _ _

theorem Dev.releaseAtDr_keeps (c : Nat) (d : Dev) : Dev.keeps ⟨[.out, .cm, .sb, .host], [F.HC_IRQ_STAT_STAT, F.SB_COURSE_CAUSE,
    F.SB_COURSE_STATE], []⟩ d (Dev.releaseAtDr c d) := by
  unfold Dev.releaseAtDr
  dsimp -proj only
  refine Dev.keeps_ite ?_ ?_
  · refine Dev.keeps_step (by decide +kernel) (Dev.eventAll_keeps ..) ?_
    refine Dev.keeps_set _ _ _ _ (by decide +kernel) ?_
    refine Dev.keeps_set _ _ _ _ (by decide +kernel) ?_
    refine Dev.keeps_step (by decide +kernel) (Dev.askStates_keeps ..) ?_
    exact Dev.keeps_refl _ _
  · refine Dev.keeps_step (by decide +kernel) (Dev.askStates_keeps ..) ?_
    exact Dev.keeps_refl _ _

theorem Dev.startTest_keeps (x : Nat) (d : Dev) : Dev.keeps ⟨[.sb], [F.SB_STATUS_HOLD_1, F.SB_STATUS_HOLD_2, F.SB_STATUS_TESTING], []⟩ d
    (Dev.startTest x d) := by
  unfold Dev.startTest
  dsimp -proj only
  refine Dev.keeps_step (by decide +kernel) (Dev.driveHold_keeps ..) ?_
  refine Dev.keeps_flag _ _ _ _ (by decide +kernel) ?_
  refine Dev.keeps_sb _ (by decide +kernel) ?_
  exact Dev.keeps_refl _ _

theorem Dev.refreshDegraded_keeps (d : Dev) : Dev.keeps ⟨[.out, .fc, .sb, .host], [F.FC_COND_COND, F.HC_IRQ_STAT_STAT, F.SB_CMD_BUSY,
    F.SB_DEG_CHANNEL, F.SB_DEMAND_COND, F.SB_DEMAND_IN_FORCE, F.SB_STATUS_BRAKE, F.SB_STATUS_DEGRADED, F.SB_STATUS_HOLD_1,
    F.SB_STATUS_HOLD_2, F.SB_STATUS_TESTING], []⟩ d (Dev.refreshDegraded d) := by
  unfold Dev.refreshDegraded
  dsimp -proj only
  refine Dev.keeps_ite ?_ ?_
  · refine Dev.keeps_step (by decide +kernel) (Dev.demand_keeps ..) ?_
    refine Dev.keeps_step (by decide +kernel) (Dev.cond_keeps ..) ?_
    refine Dev.keeps_setBit _ _ _ _ _ (by decide +kernel) ?_
    refine Dev.keeps_ite ?_ ?_
    · refine Dev.keeps_sb _ (by decide +kernel) ?_
      refine Dev.keeps_flag _ _ _ _ (by decide +kernel) ?_
      refine Dev.keeps_flag _ _ _ _ (by decide +kernel) ?_
      exact Dev.keeps_refl _ _
    · refine Dev.keeps_flag _ _ _ _ (by decide +kernel) ?_
      refine Dev.keeps_flag _ _ _ _ (by decide +kernel) ?_
      exact Dev.keeps_refl _ _
  · refine Dev.keeps_ite ?_ ?_
    · refine Dev.keeps_step (by decide +kernel) (Dev.cond_keeps ..) ?_
      refine Dev.keeps_setBit _ _ _ _ _ (by decide +kernel) ?_
      refine Dev.keeps_ite ?_ ?_
      · refine Dev.keeps_sb _ (by decide +kernel) ?_
        refine Dev.keeps_flag _ _ _ _ (by decide +kernel) ?_
        refine Dev.keeps_flag _ _ _ _ (by decide +kernel) ?_
        exact Dev.keeps_refl _ _
      · refine Dev.keeps_flag _ _ _ _ (by decide +kernel) ?_
        refine Dev.keeps_flag _ _ _ _ (by decide +kernel) ?_
        exact Dev.keeps_refl _ _
    · refine Dev.keeps_setBit _ _ _ _ _ (by decide +kernel) ?_
      refine Dev.keeps_ite ?_ ?_
      · refine Dev.keeps_sb _ (by decide +kernel) ?_
        refine Dev.keeps_flag _ _ _ _ (by decide +kernel) ?_
        refine Dev.keeps_flag _ _ _ _ (by decide +kernel) ?_
        exact Dev.keeps_refl _ _
      · refine Dev.keeps_flag _ _ _ _ (by decide +kernel) ?_
        refine Dev.keeps_flag _ _ _ _ (by decide +kernel) ?_
        exact Dev.keeps_refl _ _

theorem Dev.verdict_keeps (x : Nat) (v : Nat) (d : Dev) : Dev.keeps ⟨[.out, .store, .fc, .sb, .host], [F.FC_COND_COND, F.HC_IRQ_STAT_STAT,
    F.SB_CHAN_FAIL_1, F.SB_CHAN_FAIL_2, F.SB_CHAN_LAST_1, F.SB_CHAN_LAST_2, F.SB_CMD_BUSY, F.SB_DEG_CHANNEL, F.SB_DEG_ELAPSED,
    F.SB_DEMAND_COND, F.SB_DEMAND_IN_FORCE, F.SB_STATUS_BRAKE, F.SB_STATUS_DEGRADED, F.SB_STATUS_HOLD_1, F.SB_STATUS_HOLD_2,
    F.SB_STATUS_TESTING], []⟩ d (Dev.verdict x v d) := by
  unfold Dev.verdict
  dsimp -proj only
  refine Dev.keeps_step (by decide +kernel) (Dev.refreshDegraded_keeps ..) ?_
  refine Dev.keeps_ite ?_ ?_
  · refine Dev.keeps_set _ _ _ _ (by decide +kernel) ?_
    refine Dev.keeps_store _ (by decide +kernel) ?_
    refine Dev.keeps_sb _ (by decide +kernel) ?_
    refine Dev.keeps_step (by decide +kernel) (Dev.cond_keeps ..) ?_
    refine Dev.keeps_flag _ _ _ _ (by unfold failFld; split <;> decide +kernel) ?_
    refine Dev.keeps_set _ _ _ _ (by unfold lastFld; split <;> decide +kernel) ?_
    exact Dev.keeps_refl _ _
  · refine Dev.keeps_sb _ (by decide +kernel) ?_
    refine Dev.keeps_step (by decide +kernel) (Dev.cond_keeps ..) ?_
    refine Dev.keeps_flag _ _ _ _ (by unfold failFld; split <;> decide +kernel) ?_
    refine Dev.keeps_set _ _ _ _ (by unfold lastFld; split <;> decide +kernel) ?_
    exact Dev.keeps_refl _ _

theorem Dev.endTest_keeps (x : Nat) (v : Nat) (d : Dev) : Dev.keeps ⟨[.out, .store, .fc, .sb, .host], [F.FC_COND_COND, F.HC_IRQ_STAT_STAT,
    F.SB_CHAN_FAIL_1, F.SB_CHAN_FAIL_2, F.SB_CHAN_LAST_1, F.SB_CHAN_LAST_2, F.SB_CHAN_TESTS_1, F.SB_CHAN_TESTS_2, F.SB_CMD_BUSY,
    F.SB_DEG_CHANNEL, F.SB_DEG_ELAPSED, F.SB_DEMAND_COND, F.SB_DEMAND_IN_FORCE, F.SB_STATUS_BRAKE, F.SB_STATUS_DEGRADED,
    F.SB_STATUS_HOLD_1, F.SB_STATUS_HOLD_2, F.SB_STATUS_TESTING], []⟩ d (Dev.endTest x v d) := by
  unfold Dev.endTest
  dsimp -proj only
  split
  · refine Dev.keeps_step (by decide +kernel) (Dev.startTest_keeps ..) ?_
    refine Dev.keeps_sb _ (by decide +kernel) ?_
    refine Dev.keeps_step (by decide +kernel) (Dev.verdict_keeps ..) ?_
    refine Dev.keeps_step (by decide +kernel) (Dev.driveHold_keeps ..) ?_
    refine Dev.keeps_count _ _ _ (by unfold testsFld; split <;> decide +kernel) ?_
    refine Dev.keeps_flag _ _ _ _ (by decide +kernel) ?_
    refine Dev.keeps_sb _ (by decide +kernel) ?_
    exact Dev.keeps_refl _ _
  · refine Dev.keeps_flag _ _ _ _ (by decide +kernel) ?_
    refine Dev.keeps_step (by decide +kernel) (Dev.verdict_keeps ..) ?_
    refine Dev.keeps_step (by decide +kernel) (Dev.driveHold_keeps ..) ?_
    refine Dev.keeps_count _ _ _ (by unfold testsFld; split <;> decide +kernel) ?_
    refine Dev.keeps_flag _ _ _ _ (by decide +kernel) ?_
    refine Dev.keeps_sb _ (by decide +kernel) ?_
    exact Dev.keeps_refl _ _

theorem Dev.sbCmd_keeps {S : Scope} (hS : Scope.le ⟨[], [F.HC_CTX_REFADDR_BAR2, F.HC_CTX_REFADDR_CAUSE, F.HC_CTX_REFADDR_OFFSET,
    F.HC_CTX_REFADDR_WRITE, F.HC_CTX_STAT_PARTIAL, F.HC_CTX_STAT_REFUSED, F.SB_CMD_RESULT], []⟩ S = true) (x : Nat) (code : Nat) (f : Dev
    → Dev) (d : Dev) (hf : ∀ (x0 : Dev), Dev.keeps S x0 (f x0)) : Dev.keeps S d (Dev.sbCmd x code f d) := by
  unfold Dev.sbCmd
  dsimp -proj only
  refine Dev.keeps_trans (Dev.hostWrite_keeps (Scope.le_trans (by decide +kernel) hS) _ _ _ _ ?_) ?_
  · intro _
    refine Dev.keeps_ite ?_ ?_
    · refine Dev.keeps_set _ _ _ _ (Scope.le_fld (by decide +kernel) hS) ?_
      refine Dev.keeps_trans (hf _) ?_
      exact Dev.keeps_refl _ _
    · refine Dev.keeps_set _ _ _ _ (Scope.le_fld (by decide +kernel) hS) ?_
      exact Dev.keeps_refl _ _
  · exact Dev.keeps_refl _ _

theorem apply_keeps (x : Nat) (d : Dev) : Dev.keeps ⟨[.out, .fc, .sb, .host], [F.HC_CTX_REFADDR_BAR2, F.HC_CTX_REFADDR_CAUSE,
    F.HC_CTX_REFADDR_OFFSET, F.HC_CTX_REFADDR_WRITE, F.HC_CTX_STAT_PARTIAL, F.HC_CTX_STAT_REFUSED, F.HC_IRQ_STAT_STAT, F.SB_CMD_BUSY,
    F.SB_CMD_RESULT, F.SB_DEMAND_IN_FORCE, F.SB_STATUS_BRAKE, F.SB_STATUS_HOLD_1, F.SB_STATUS_HOLD_2, F.SB_STATUS_TESTING], []⟩ d (apply x
    d) := by
  unfold apply
  refine Dev.keeps_trans (Dev.sbCmd_keeps (by decide +kernel) _ _ _ _ ?_) ?_
  · intro _
    refine Dev.keeps_step (by decide +kernel) (Dev.demand_keeps ..) ?_
    exact Dev.keeps_refl _ _
  · exact Dev.keeps_refl _ _

theorem automaticDemandEnd_keeps (d : Dev) : Dev.keeps ⟨[.out, .fc, .sb, .host], [F.HC_IRQ_STAT_STAT, F.SB_CMD_BUSY, F.SB_DEMAND_IN_FORCE,
    F.SB_STATUS_BRAKE, F.SB_STATUS_HOLD_1, F.SB_STATUS_HOLD_2, F.SB_STATUS_TESTING], []⟩ d (automaticDemandEnd d) := by
  unfold automaticDemandEnd
  dsimp -proj only
  refine Dev.keeps_step (by decide +kernel) (Dev.refreshBrake_keeps ..) ?_
  refine Dev.keeps_ite ?_ ?_
  · refine Dev.keeps_setBit _ _ _ _ _ (by decide +kernel) ?_
    refine Dev.keeps_ite ?_ ?_
    · refine Dev.keeps_setBit _ _ _ _ _ (by decide +kernel) ?_
      exact Dev.keeps_refl _ _
    · exact Dev.keeps_refl _ _
  · refine Dev.keeps_ite ?_ ?_
    · refine Dev.keeps_setBit _ _ _ _ _ (by decide +kernel) ?_
      exact Dev.keeps_refl _ _
    · exact Dev.keeps_refl _ _

theorem degradedMinute_keeps (d : Dev) : Dev.keeps ⟨[.out, .store, .fc, .sb, .host], [F.FC_COND_COND, F.HC_IRQ_STAT_STAT, F.SB_CMD_BUSY,
    F.SB_DEG_ELAPSED, F.SB_DEMAND_IN_FORCE, F.SB_STATUS_BRAKE, F.SB_STATUS_HOLD_1, F.SB_STATUS_HOLD_2, F.SB_STATUS_TESTING], []⟩ d
    (degradedMinute d) := by
  unfold degradedMinute
  dsimp -proj only
  refine Dev.keeps_ite ?_ ?_
  · refine Dev.keeps_ite ?_ ?_
    · refine Dev.keeps_step (by decide +kernel) (Dev.demand_keeps ..) ?_
      refine Dev.keeps_step (by decide +kernel) (Dev.cond_keeps ..) ?_
      refine Dev.keeps_set _ _ _ _ (by decide +kernel) ?_
      refine Dev.keeps_mk (.inr rfl) (.inr rfl) (.inr rfl) (.inr rfl) (.inr rfl) (.inl (by decide +kernel)) (.inr rfl) (.inr rfl) (.inr rfl) (.inr rfl) (.inr rfl) (.inr rfl) (.inr rfl) (.inr rfl) (.inl (by decide +kernel)) (.inr rfl) (.inr rfl) (.inr rfl) ?_
      exact Dev.keeps_refl _ _
    · refine Dev.keeps_set _ _ _ _ (by decide +kernel) ?_
      refine Dev.keeps_mk (.inr rfl) (.inr rfl) (.inr rfl) (.inr rfl) (.inr rfl) (.inl (by decide +kernel)) (.inr rfl) (.inr rfl) (.inr rfl) (.inr rfl) (.inr rfl) (.inr rfl) (.inr rfl) (.inr rfl) (.inl (by decide +kernel)) (.inr rfl) (.inr rfl) (.inr rfl) ?_
      exact Dev.keeps_refl _ _
  · exact Dev.keeps_refl _ _

theorem feedbackDiscrepancy_keeps (second : Bool) (level : Bool) (d : Dev) : Dev.keeps ⟨[.out, .store, .fc, .sb, .host], [F.FC_COND_COND,
    F.HC_IRQ_STAT_STAT, F.SB_CHAN_FAIL_1, F.SB_CHAN_FAIL_2, F.SB_CHAN_LAST_1, F.SB_CHAN_LAST_2, F.SB_CMD_BUSY, F.SB_DEG_CHANNEL,
    F.SB_DEG_ELAPSED, F.SB_DEMAND_COND, F.SB_DEMAND_IN_FORCE, F.SB_STATUS_BRAKE, F.SB_STATUS_DEGRADED, F.SB_STATUS_FB_1, F.SB_STATUS_FB_2,
    F.SB_STATUS_HOLD_1, F.SB_STATUS_HOLD_2, F.SB_STATUS_TESTING], []⟩ d (feedbackDiscrepancy second level d) := by
  unfold feedbackDiscrepancy
  dsimp -proj only
  refine Dev.keeps_ite ?_ ?_
  · refine Dev.keeps_step (by decide +kernel) (Dev.verdict_keeps ..) ?_
    refine Dev.keeps_flag _ _ _ _ (by unfold fbFld; split <;> decide +kernel) ?_
    exact Dev.keeps_refl _ _
  · refine Dev.keeps_flag _ _ _ _ (by unfold fbFld; split <;> decide +kernel) ?_
    exact Dev.keeps_refl _ _

theorem offPulseEnd_keeps (low : Bool) (d : Dev) : Dev.keeps ⟨[.out, .store, .fc, .sb, .host], [F.FC_COND_COND, F.HC_IRQ_STAT_STAT,
    F.SB_CHAN_FAIL_1, F.SB_CHAN_FAIL_2, F.SB_CHAN_LAST_1, F.SB_CHAN_LAST_2, F.SB_CHAN_TESTS_1, F.SB_CHAN_TESTS_2, F.SB_CMD_BUSY,
    F.SB_DEG_CHANNEL, F.SB_DEG_ELAPSED, F.SB_DEMAND_COND, F.SB_DEMAND_IN_FORCE, F.SB_STATUS_BRAKE, F.SB_STATUS_DEGRADED, F.SB_STATUS_FB_1,
    F.SB_STATUS_FB_2, F.SB_STATUS_HOLD_1, F.SB_STATUS_HOLD_2, F.SB_STATUS_TESTING], []⟩ d (offPulseEnd low d) := by
  unfold offPulseEnd
  dsimp -proj only
  split
  · refine Dev.keeps_ite ?_ ?_
    · refine Dev.keeps_ite ?_ ?_
      · refine Dev.keeps_step (by decide +kernel) (Dev.driveHold_keeps ..) ?_
        refine Dev.keeps_sb _ (by decide +kernel) ?_
        refine Dev.keeps_flag _ _ _ _ (by unfold fbFld; split <;> decide +kernel) ?_
        exact Dev.keeps_refl _ _
      · refine Dev.keeps_step (by decide +kernel) (Dev.endTest_keeps ..) ?_
        refine Dev.keeps_flag _ _ _ _ (by unfold fbFld; split <;> decide +kernel) ?_
        exact Dev.keeps_refl _ _
    · exact Dev.keeps_refl _ _
  · exact Dev.keeps_refl _ _

theorem offPulseTest_keeps (second : Bool) (d : Dev) : Dev.keeps ⟨[.sb], [F.SB_STATUS_HOLD_1, F.SB_STATUS_HOLD_2, F.SB_STATUS_TESTING],
    []⟩ d (offPulseTest second d) := by
  unfold offPulseTest
  dsimp -proj only
  refine Dev.keeps_ite ?_ ?_
  · refine Dev.keeps_step (by decide +kernel) (Dev.startTest_keeps ..) ?_
    exact Dev.keeps_refl _ _
  · exact Dev.keeps_refl _ _

theorem offPulseVerify_keeps (high : Bool) (d : Dev) : Dev.keeps ⟨[.out, .store, .fc, .sb, .host], [F.FC_COND_COND, F.HC_IRQ_STAT_STAT,
    F.SB_CHAN_FAIL_1, F.SB_CHAN_FAIL_2, F.SB_CHAN_LAST_1, F.SB_CHAN_LAST_2, F.SB_CHAN_TESTS_1, F.SB_CHAN_TESTS_2, F.SB_CMD_BUSY,
    F.SB_DEG_CHANNEL, F.SB_DEG_ELAPSED, F.SB_DEMAND_COND, F.SB_DEMAND_IN_FORCE, F.SB_STATUS_BRAKE, F.SB_STATUS_DEGRADED, F.SB_STATUS_FB_1,
    F.SB_STATUS_FB_2, F.SB_STATUS_HOLD_1, F.SB_STATUS_HOLD_2, F.SB_STATUS_TESTING], []⟩ d (offPulseVerify high d) := by
  unfold offPulseVerify
  split
  · refine Dev.keeps_ite ?_ ?_
    · refine Dev.keeps_step (by decide +kernel) (Dev.endTest_keeps ..) ?_
      refine Dev.keeps_flag _ _ _ _ (by unfold fbFld; split <;> decide +kernel) ?_
      exact Dev.keeps_refl _ _
    · exact Dev.keeps_refl _ _
  · exact Dev.keeps_refl _ _

theorem ovLossTimeout_keeps (d : Dev) : Dev.keeps ⟨[.out, .fc, .sb, .host], [F.FC_COND_COND, F.HC_IRQ_STAT_STAT, F.SB_CMD_BUSY,
    F.SB_DEMAND_COND, F.SB_DEMAND_IN_FORCE, F.SB_STATUS_BRAKE, F.SB_STATUS_HOLD_1, F.SB_STATUS_HOLD_2, F.SB_STATUS_TESTING], []⟩ d
    (ovLossTimeout d) := by
  unfold ovLossTimeout
  dsimp -proj only
  split
  · exact Dev.keeps_refl _ _
  · refine Dev.keeps_ite ?_ ?_
    · refine Dev.keeps_ite ?_ ?_
      · refine Dev.keeps_step (by decide +kernel) (Dev.demandCond_keeps ..) ?_
        refine Dev.keeps_sb _ (by decide +kernel) ?_
        refine Dev.keeps_step (by decide +kernel) (Dev.cond_keeps ..) ?_
        exact Dev.keeps_refl _ _
      · refine Dev.keeps_step (by decide +kernel) (Dev.cond_keeps ..) ?_
        exact Dev.keeps_refl _ _
    · exact Dev.keeps_refl _ _

theorem release_keeps (x : Nat) (d : Dev) : Dev.keeps ⟨[.out, .cm, .sb, .host], [F.HC_CTX_REFADDR_BAR2, F.HC_CTX_REFADDR_CAUSE,
    F.HC_CTX_REFADDR_OFFSET, F.HC_CTX_REFADDR_WRITE, F.HC_CTX_STAT_PARTIAL, F.HC_CTX_STAT_REFUSED, F.HC_IRQ_STAT_STAT, F.SB_CMD_RESULT,
    F.SB_COURSE_SENT, F.SB_COURSE_STATE], []⟩ d (release x d) := by
  unfold release
  dsimp -proj only
  refine Dev.keeps_trans (Dev.sbCmd_keeps (by decide +kernel) _ _ _ _ ?_) ?_
  · intro _
    refine Dev.keeps_each _ _ ?_ ?_
    · intro _ _
      refine Dev.keeps_ite ?_ ?_
      · refine Dev.keeps_step (by decide +kernel) (Dev.eventAll_keeps ..) ?_
        refine Dev.keeps_step (by decide +kernel) (Dev.sendSafety_keeps ..) ?_
        refine Dev.keeps_set _ _ _ _ (by decide +kernel) ?_
        refine Dev.keeps_sb _ (by decide +kernel) ?_
        exact Dev.keeps_refl _ _
      · exact Dev.keeps_refl _ _
    · exact Dev.keeps_refl _ _
  · exact Dev.keeps_refl _ _

theorem releaseTimeout_keeps (c : Nat) (d : Dev) : Dev.keeps ⟨[.out, .fc, .host], [F.HC_IRQ_STAT_STAT, F.SB_COURSE_STATE], []⟩ d
    (releaseTimeout c d) := by
  unfold releaseTimeout
  dsimp -proj only
  refine Dev.keeps_ite ?_ ?_
  · refine Dev.keeps_step (by decide +kernel) (Dev.unrelease_keeps ..) ?_
    exact Dev.keeps_refl _ _
  · exact Dev.keeps_refl _ _

theorem restore_keeps (x : Nat) (d : Dev) : Dev.keeps ⟨[.out, .fc, .sb, .host], [F.HC_CTX_REFADDR_BAR2, F.HC_CTX_REFADDR_CAUSE,
    F.HC_CTX_REFADDR_OFFSET, F.HC_CTX_REFADDR_WRITE, F.HC_CTX_STAT_PARTIAL, F.HC_CTX_STAT_REFUSED, F.HC_IRQ_STAT_STAT, F.SB_CMD_BUSY,
    F.SB_CMD_RESULT, F.SB_DEMAND_IN_FORCE, F.SB_STATUS_BRAKE, F.SB_STATUS_HOLD_1, F.SB_STATUS_HOLD_2, F.SB_STATUS_TESTING], []⟩ d (restore
    x d) := by
  unfold restore
  refine Dev.keeps_trans (Dev.sbCmd_keeps (by decide +kernel) _ _ _ _ ?_) ?_
  · intro _
    refine Dev.keeps_step (by decide +kernel) (Dev.refreshBrake_keeps ..) ?_
    refine Dev.keeps_set _ _ _ _ (by decide +kernel) ?_
    exact Dev.keeps_refl _ _
  · exact Dev.keeps_refl _ _

theorem safeBlock_keeps (x : Nat) (d : Dev) : Dev.keeps ⟨[.out, .store, .cm, .fc, .sb, .host], [F.HC_CTX_REFADDR_BAR2,
    F.HC_CTX_REFADDR_CAUSE, F.HC_CTX_REFADDR_OFFSET, F.HC_CTX_REFADDR_WRITE, F.HC_CTX_STAT_PARTIAL, F.HC_CTX_STAT_REFUSED,
    F.HC_IRQ_STAT_STAT, F.MO_JOURNAL_FILL, F.MO_JOURNAL_PENDING, F.SB_CMD_RESULT, F.SB_COURSE_CAUSE, F.SB_COURSE_SENT, F.SB_COURSE_SEQ,
    F.SB_COURSE_STATE], []⟩ d (safeBlock x d) := by
  unfold safeBlock
  refine Dev.keeps_trans (Dev.sbCmd_keeps (by decide +kernel) _ _ _ _ ?_) ?_
  · intro _
    refine Dev.keeps_each _ _ ?_ ?_
    · intro _ _
      refine Dev.keeps_step (by decide +kernel) (Dev.trigger_keeps ..) ?_
      exact Dev.keeps_refl _ _
    · exact Dev.keeps_refl _ _
  · exact Dev.keeps_refl _ _

theorem safeBlockRepeat_keeps (c : Nat) (d : Dev) : Dev.keeps ⟨[.out, .cm, .sb], [F.SB_COURSE_SENT], []⟩ d (safeBlockRepeat c d) := by
  unfold safeBlockRepeat
  dsimp -proj only
  refine Dev.keeps_ite ?_ ?_
  · refine Dev.keeps_step (by decide +kernel) (Dev.sendSafety_keeps ..) ?_
    refine Dev.keeps_sb _ (by decide +kernel) ?_
    exact Dev.keeps_refl _ _
  · exact Dev.keeps_refl _ _

theorem safeReleaseRepeat_keeps (c : Nat) (d : Dev) : Dev.keeps ⟨[.out, .cm, .sb], [F.SB_COURSE_SENT], []⟩ d (safeReleaseRepeat c d) := by
  unfold safeReleaseRepeat
  dsimp -proj only
  refine Dev.keeps_ite ?_ ?_
  · refine Dev.keeps_step (by decide +kernel) (Dev.sendSafety_keeps ..) ?_
    refine Dev.keeps_sb _ (by decide +kernel) ?_
    exact Dev.keeps_refl _ _
  · exact Dev.keeps_refl _ _

theorem safetyOscillatorCheck_keeps (dev2 : Int) (devTb : Int) (d : Dev) : Dev.keeps ⟨[.out, .store, .cm, .fc, .sb, .host],
    [F.FC_COND_COND, F.HC_IRQ_STAT_STAT, F.MO_JOURNAL_FILL, F.MO_JOURNAL_PENDING, F.SB_CMD_BUSY, F.SB_COURSE_CAUSE, F.SB_COURSE_SENT,
    F.SB_COURSE_SEQ, F.SB_COURSE_STATE, F.SB_DEMAND_COND, F.SB_DEMAND_IN_FORCE, F.SB_STATUS_BRAKE, F.SB_STATUS_HOLD_1, F.SB_STATUS_HOLD_2,
    F.SB_STATUS_OSC_OK, F.SB_STATUS_TESTING], []⟩ d (safetyOscillatorCheck dev2 devTb d) := by
  unfold safetyOscillatorCheck
  dsimp -proj only
  refine Dev.keeps_step (by decide +kernel) (Dev.safetyInternal_keeps ..) ?_
  refine Dev.keeps_flag _ _ _ _ (by decide +kernel) ?_
  exact Dev.keeps_refl _ _

theorem sbcReqInput_keeps (low : Bool) (d : Dev) : Dev.keeps ⟨[.out, .fc, .sb, .host], [F.HC_IRQ_STAT_STAT, F.SB_CMD_BUSY,
    F.SB_DEMAND_COND, F.SB_DEMAND_IN_FORCE, F.SB_STATUS_BRAKE, F.SB_STATUS_HOLD_1, F.SB_STATUS_HOLD_2, F.SB_STATUS_SBC_REQ,
    F.SB_STATUS_TESTING], []⟩ d (sbcReqInput low d) := by
  unfold sbcReqInput
  dsimp -proj only
  refine Dev.keeps_ite ?_ ?_
  · refine Dev.keeps_step (by decide +kernel) (Dev.demandCond_keeps ..) ?_
    refine Dev.keeps_flag _ _ _ _ (by decide +kernel) ?_
    exact Dev.keeps_refl _ _
  · refine Dev.keeps_setBit _ _ _ _ _ (by decide +kernel) ?_
    refine Dev.keeps_flag _ _ _ _ (by decide +kernel) ?_
    exact Dev.keeps_refl _ _

theorem sealCheck_keeps (switches : Nat) (d : Dev) : Dev.keeps ⟨[.pins, .fc], [F.FC_COND_COND, F.SB_SEAL_CHANGED, F.SB_SEAL_MATCH], []⟩ d
    (sealCheck switches d) := by
  unfold sealCheck
  dsimp -proj only
  refine Dev.keeps_ite ?_ ?_
  · refine Dev.keeps_step (by decide +kernel) (Dev.cond_keeps ..) ?_
    refine Dev.keeps_flag _ _ _ _ (by decide +kernel) ?_
    refine Dev.keeps_ite ?_ ?_
    · refine Dev.keeps_flag _ _ _ _ (by decide +kernel) ?_
      refine Dev.keeps_pins _ (by decide +kernel) ?_
      exact Dev.keeps_refl _ _
    · refine Dev.keeps_pins _ (by decide +kernel) ?_
      exact Dev.keeps_refl _ _
  · refine Dev.keeps_pins _ (by decide +kernel) ?_
    exact Dev.keeps_refl _ _

theorem test_keeps (x : Nat) (d : Dev) : Dev.keeps ⟨[.sb], [F.HC_CTX_REFADDR_BAR2, F.HC_CTX_REFADDR_CAUSE, F.HC_CTX_REFADDR_OFFSET,
    F.HC_CTX_REFADDR_WRITE, F.HC_CTX_STAT_PARTIAL, F.HC_CTX_STAT_REFUSED, F.SB_CMD_BUSY, F.SB_CMD_RESULT, F.SB_STATUS_HOLD_1,
    F.SB_STATUS_HOLD_2, F.SB_STATUS_TESTING], []⟩ d (test x d) := by
  unfold test
  dsimp -proj only
  refine Dev.keeps_trans (Dev.sbCmd_keeps (by decide +kernel) _ _ _ _ ?_) ?_
  · intro _
    refine Dev.keeps_ite ?_ ?_
    · refine Dev.keeps_sb _ (by decide +kernel) ?_
      refine Dev.keeps_flag _ _ _ _ (by decide +kernel) ?_
      exact Dev.keeps_refl _ _
    · refine Dev.keeps_step (by decide +kernel) (Dev.startTest_keeps ..) ?_
      refine Dev.keeps_sb _ (by decide +kernel) ?_
      refine Dev.keeps_flag _ _ _ _ (by decide +kernel) ?_
      exact Dev.keeps_refl _ _
  · exact Dev.keeps_refl _ _

theorem tripInput_keeps (n : Nat) (active : Bool) (d : Dev) : Dev.keeps ⟨[.out, .store, .cm, .fc, .sb, .host], [F.HC_IRQ_STAT_STAT,
    F.MO_JOURNAL_FILL, F.MO_JOURNAL_PENDING, F.SB_CMD_BUSY, F.SB_COURSE_CAUSE, F.SB_COURSE_SENT, F.SB_COURSE_SEQ, F.SB_COURSE_STATE,
    F.SB_DEMAND_COND, F.SB_DEMAND_IN_FORCE, F.SB_STATUS_BRAKE, F.SB_STATUS_HOLD_1, F.SB_STATUS_HOLD_2, F.SB_STATUS_TESTING,
    F.SB_STATUS_TRIP], []⟩ d (tripInput n active d) := by
  unfold tripInput
  dsimp -proj only
  refine Dev.keeps_ite ?_ ?_
  · refine Dev.keeps_step (by decide +kernel) (Dev.demandCond_keeps ..) ?_
    refine Dev.keeps_ite ?_ ?_
    · refine Dev.keeps_each _ _ ?_ ?_
      · intro _ _
        refine Dev.keeps_step (by decide +kernel) (Dev.trigger_keeps ..) ?_
        exact Dev.keeps_refl _ _
      · refine Dev.keeps_setBit _ _ _ _ _ (by decide +kernel) ?_
        exact Dev.keeps_refl _ _
    · refine Dev.keeps_setBit _ _ _ _ _ (by decide +kernel) ?_
      exact Dev.keeps_refl _ _
  · refine Dev.keeps_setBit _ _ _ _ _ (by decide +kernel) ?_
    refine Dev.keeps_ite ?_ ?_
    · refine Dev.keeps_each _ _ ?_ ?_
      · intro _ _
        refine Dev.keeps_step (by decide +kernel) (Dev.trigger_keeps ..) ?_
        exact Dev.keeps_refl _ _
      · refine Dev.keeps_setBit _ _ _ _ _ (by decide +kernel) ?_
        exact Dev.keeps_refl _ _
    · refine Dev.keeps_setBit _ _ _ _ _ (by decide +kernel) ?_
      exact Dev.keeps_refl _ _

end Sys2Proof.Machine
end

