-- ==== Sys2Proof/Laws/KeepsLanes.lean ====
section
/-! SUPPORT. What the operations of Machine/Lanes.lean may change at most, one lemma each. -/

namespace Sys2Proof.Machine

set_option Elab.async false

theorem Dev.enterLoop_keeps (c : Nat) (e : Nat) (cmd : Nat) (d : Dev) : Dev.keeps ⟨[.out, .cm, .fc, .host, .dma], [F.CM_CRS_DELIV_DELIV,
    F.CM_CRS_DELIV_WORST, F.CM_CRS_PT_FAILED, F.CM_CRS_STAT_FOUND, F.CM_CRS_STAT_F_WORKING, F.CM_CRS_STAT_H_WORKING,
    F.CM_CRS_STAT_IN_SERVICE, F.CM_CRS_STAT_STATE, F.CM_DIR_W0_EVQ, F.CM_DIR_W0_REASON, F.CM_DIR_W0_STATE, F.CM_LANE_STAT_CDR_LOCK,
    F.CM_LANE_STAT_LOOP, F.CM_LANE_STAT_STATE, F.CM_LANE_STAT_TX_IDLE, F.DM_CH_DETAIL_PTFAIL, F.GL_PT_ERR_W0_COUNT, F.GL_PT_ERR_W0_STATUS,
    F.GL_PT_ERR_W1_ADDRESS, F.GP_HARVEST_PB_FAIL, F.HC_IRQ_STAT_STAT], []⟩ d (Dev.enterLoop c e cmd d) := by
  unfold Dev.enterLoop
  dsimp -proj only
  refine Dev.keeps_ite ?_ ?_
  · refine Dev.keeps_step (by decide +kernel) (Dev.setRx_keeps ..) ?_
    refine Dev.keeps_step (by decide +kernel) (Dev.loseEnd_keeps ..) ?_
    refine Dev.keeps_step (by decide +kernel) (Dev.modLane_keeps ..) ?_
    refine Dev.keeps_set _ _ _ _ (by decide +kernel) ?_
    exact Dev.keeps_refl _ _
  · refine Dev.keeps_ite ?_ ?_
    · refine Dev.keeps_step (by decide +kernel) (Dev.laneIdle_keeps ..) ?_
      refine Dev.keeps_step (by decide +kernel) (Dev.loseEnd_keeps ..) ?_
      refine Dev.keeps_step (by decide +kernel) (Dev.modLane_keeps ..) ?_
      refine Dev.keeps_set _ _ _ _ (by decide +kernel) ?_
      exact Dev.keeps_refl _ _
    · refine Dev.keeps_step (by decide +kernel) (Dev.setRx_keeps ..) ?_
      refine Dev.keeps_step (by decide +kernel) (Dev.laneIdle_keeps ..) ?_
      refine Dev.keeps_step (by decide +kernel) (Dev.loseEnd_keeps ..) ?_
      refine Dev.keeps_step (by decide +kernel) (Dev.modLane_keeps ..) ?_
      refine Dev.keeps_set _ _ _ _ (by decide +kernel) ?_
      exact Dev.keeps_refl _ _

theorem Dev.goodComma_keeps (c : Nat) (e : Nat) (d : Dev) : Dev.keeps ⟨[.cm], [F.CM_LANE_STAT_CDR_LOCK, F.CM_LANE_STAT_STATE], []⟩ d
    (Dev.goodComma c e d) := by
  unfold Dev.goodComma
  dsimp -proj only
  refine Dev.keeps_ite ?_ ?_
  · refine Dev.keeps_step (by decide +kernel) (Dev.setRx_keeps ..) ?_
    refine Dev.keeps_step (by decide +kernel) (Dev.modLane_keeps ..) ?_
    exact Dev.keeps_refl _ _
  · refine Dev.keeps_ite ?_ ?_
    · refine Dev.keeps_ite ?_ ?_
      · refine Dev.keeps_step (by decide +kernel) (Dev.setRx_keeps ..) ?_
        refine Dev.keeps_step (by decide +kernel) (Dev.modLane_keeps ..) ?_
        exact Dev.keeps_refl _ _
      · refine Dev.keeps_step (by decide +kernel) (Dev.modLane_keeps ..) ?_
        exact Dev.keeps_refl _ _
    · refine Dev.keeps_ite ?_ ?_
      · refine Dev.keeps_step (by decide +kernel) (Dev.modLane_keeps ..) ?_
        exact Dev.keeps_refl _ _
      · exact Dev.keeps_refl _ _

theorem Dev.laneCmd_keeps {S : Scope} (hS : Scope.le ⟨[], [F.CM_LANE_CTL_RESULT, F.HC_CTX_REFADDR_BAR2, F.HC_CTX_REFADDR_CAUSE,
    F.HC_CTX_REFADDR_OFFSET, F.HC_CTX_REFADDR_WRITE, F.HC_CTX_STAT_PARTIAL, F.HC_CTX_STAT_REFUSED], []⟩ S = true) (x : Nat) (c : Nat) (e :
    Nat) (cmd : Nat) (hops : Nat) (f : Dev → Dev) (d : Dev) (hf : ∀ (x0 : Dev), Dev.keeps S x0 (f x0)) : Dev.keeps S d (Dev.laneCmd x c e
    cmd hops f d) := by
  unfold Dev.laneCmd
  dsimp -proj only
  refine Dev.keeps_trans (Dev.hostWrite_keeps (Scope.le_trans (by decide +kernel) hS) _ _ _ _ ?_) ?_
  · intro _
    refine Dev.keeps_ite ?_ ?_
    · refine Dev.keeps_set _ _ _ _ (Scope.le_fld (by decide +kernel) hS) ?_
      exact Dev.keeps_refl _ _
    · refine Dev.keeps_trans (hf _) ?_
      refine Dev.keeps_set _ _ _ _ (Scope.le_fld (by decide +kernel) hS) ?_
      exact Dev.keeps_refl _ _
  · exact Dev.keeps_refl _ _

theorem Dev.violation_keeps (c : Nat) (e : Nat) (d : Dev) : Dev.keeps ⟨[.out, .cm, .fc, .host, .dma], [F.CM_CRS_DELIV_DELIV,
    F.CM_CRS_DELIV_WORST, F.CM_CRS_PT_FAILED, F.CM_CRS_STAT_FOUND, F.CM_CRS_STAT_F_WORKING, F.CM_CRS_STAT_H_WORKING,
    F.CM_CRS_STAT_IN_SERVICE, F.CM_CRS_STAT_STATE, F.CM_DIR_W0_EVQ, F.CM_DIR_W0_REASON, F.CM_DIR_W0_STATE, F.CM_LANE_ERR_ALIGN_LOSS,
    F.CM_LANE_STAT_CDR_LOCK, F.CM_LANE_STAT_STATE, F.DM_CH_DETAIL_PTFAIL, F.GL_PT_ERR_W0_COUNT, F.GL_PT_ERR_W0_STATUS,
    F.GL_PT_ERR_W1_ADDRESS, F.GP_HARVEST_PB_FAIL, F.HC_IRQ_STAT_STAT], []⟩ d (Dev.violation c e d) := by
  unfold Dev.violation
  dsimp -proj only
  refine Dev.keeps_ite ?_ ?_
  · refine Dev.keeps_step (by decide +kernel) (Dev.setRx_keeps ..) ?_
    refine Dev.keeps_step (by decide +kernel) (Dev.modLane_keeps ..) ?_
    exact Dev.keeps_refl _ _
  · refine Dev.keeps_ite ?_ ?_
    · refine Dev.keeps_ite ?_ ?_
      · refine Dev.keeps_step (by decide +kernel) (Dev.loseEnd_keeps ..) ?_
        refine Dev.keeps_step (by decide +kernel) (Dev.setRx_keeps ..) ?_
        refine Dev.keeps_count _ _ _ (by decide +kernel) ?_
        refine Dev.keeps_step (by decide +kernel) (Dev.modLane_keeps ..) ?_
        refine Dev.keeps_step (by decide +kernel) (Dev.modLane_keeps ..) ?_
        exact Dev.keeps_refl _ _
      · refine Dev.keeps_step (by decide +kernel) (Dev.modLane_keeps ..) ?_
        exact Dev.keeps_refl _ _
    · exact Dev.keeps_refl _ _

theorem Dev.lineEvent_keeps (c : Nat) (e : Nat) (d : Dev) (ev : LaneEvent) : Dev.keeps ⟨[.out, .cm, .fc, .host, .dma],
    [F.CM_CRS_DELIV_DELIV, F.CM_CRS_DELIV_WORST, F.CM_CRS_PT_FAILED, F.CM_CRS_STAT_FOUND, F.CM_CRS_STAT_F_WORKING,
    F.CM_CRS_STAT_H_WORKING, F.CM_CRS_STAT_IN_SERVICE, F.CM_CRS_STAT_STATE, F.CM_DIR_W0_EVQ, F.CM_DIR_W0_REASON, F.CM_DIR_W0_STATE,
    F.CM_LANE_ERR_ALIGN_LOSS, F.CM_LANE_ERR_COMMA, F.CM_LANE_ERR_RUN, F.CM_LANE_ERR_SPACING, F.CM_LANE_LOOP_BITERR,
    F.CM_LANE_STAT_CDR_LOCK, F.CM_LANE_STAT_EIDLE_SEEN, F.CM_LANE_STAT_STATE, F.DM_CH_DETAIL_PTFAIL, F.GL_PT_ERR_W0_COUNT,
    F.GL_PT_ERR_W0_STATUS, F.GL_PT_ERR_W1_ADDRESS, F.GP_HARVEST_PB_FAIL, F.HC_IRQ_STAT_STAT], []⟩ d (Dev.lineEvent c e d ev) := by
  unfold Dev.lineEvent
  dsimp -proj only
  split
  · refine Dev.keeps_ite ?_ ?_
    · refine Dev.keeps_ite ?_ ?_
      · refine Dev.keeps_flag _ _ _ _ (by decide +kernel) ?_
        exact Dev.keeps_refl _ _
      · refine Dev.keeps_step (by decide +kernel) (Dev.goodComma_keeps ..) ?_
        refine Dev.keeps_flag _ _ _ _ (by decide +kernel) ?_
        exact Dev.keeps_refl _ _
    · refine Dev.keeps_ite ?_ ?_
      · refine Dev.keeps_count _ _ _ (by decide +kernel) ?_
        refine Dev.keeps_flag _ _ _ _ (by decide +kernel) ?_
        exact Dev.keeps_refl _ _
      · refine Dev.keeps_step (by decide +kernel) (Dev.violation_keeps ..) ?_
        refine Dev.keeps_count _ _ _ (by decide +kernel) ?_
        refine Dev.keeps_flag _ _ _ _ (by decide +kernel) ?_
        exact Dev.keeps_refl _ _
  · refine Dev.keeps_ite ?_ ?_
    · refine Dev.keeps_addTo _ _ _ _ (by decide +kernel) ?_
      exact Dev.keeps_refl _ _
    · exact Dev.keeps_refl _ _
  · refine Dev.keeps_ite ?_ ?_
    · refine Dev.keeps_count _ _ _ (by decide +kernel) ?_
      exact Dev.keeps_refl _ _
    · refine Dev.keeps_step (by decide +kernel) (Dev.violation_keeps ..) ?_
      refine Dev.keeps_count _ _ _ (by decide +kernel) ?_
      exact Dev.keeps_refl _ _
  · refine Dev.keeps_ite ?_ ?_
    · refine Dev.keeps_count _ _ _ (by decide +kernel) ?_
      exact Dev.keeps_refl _ _
    · refine Dev.keeps_step (by decide +kernel) (Dev.violation_keeps ..) ?_
      refine Dev.keeps_count _ _ _ (by decide +kernel) ?_
      exact Dev.keeps_refl _ _
  · refine Dev.keeps_ite ?_ ?_
    · refine Dev.keeps_count _ _ _ (by decide +kernel) ?_
      exact Dev.keeps_refl _ _
    · refine Dev.keeps_step (by decide +kernel) (Dev.violation_keeps ..) ?_
      refine Dev.keeps_count _ _ _ (by decide +kernel) ?_
      exact Dev.keeps_refl _ _
  · refine Dev.keeps_ite ?_ ?_
    · refine Dev.keeps_count _ _ _ (by decide +kernel) ?_
      exact Dev.keeps_refl _ _
    · refine Dev.keeps_step (by decide +kernel) (Dev.violation_keeps ..) ?_
      refine Dev.keeps_count _ _ _ (by decide +kernel) ?_
      exact Dev.keeps_refl _ _

theorem Dev.loopIdle_keeps (c : Nat) (e : Nat) (n : Nat) (d : Dev) : Dev.keeps ⟨[.out], [], []⟩ d (Dev.loopIdle c e n d) := by
  unfold Dev.loopIdle
  refine Dev.keeps_ite ?_ ?_
  · exact Dev.keeps_refl _ _
  · refine Dev.keeps_step (by decide +kernel) (Dev.emit_keeps ..) ?_
    exact Dev.keeps_refl _ _

theorem Dev.loopWord_keeps (c : Nat) (e : Nat) (d : Dev) : Dev.keeps ⟨[.out, .cm], [], []⟩ d (Dev.loopWord c e d) := by
  unfold Dev.loopWord
  refine Dev.keeps_ite ?_ ?_
  · exact Dev.keeps_refl _ _
  · refine Dev.keeps_step (by decide +kernel) (Dev.emit_keeps ..) ?_
    refine Dev.keeps_step (by decide +kernel) (Dev.modLane_keeps ..) ?_
    exact Dev.keeps_refl _ _

theorem Dev.loseLpll_keeps (p : Nat) (d : Dev) : Dev.keeps ⟨[.out, .cm, .fc, .host, .dma], [F.CM_CRS_DELIV_DELIV, F.CM_CRS_DELIV_WORST,
    F.CM_CRS_PT_FAILED, F.CM_CRS_STAT_FOUND, F.CM_CRS_STAT_F_WORKING, F.CM_CRS_STAT_H_WORKING, F.CM_CRS_STAT_IN_SERVICE,
    F.CM_CRS_STAT_STATE, F.CM_DIR_W0_EVQ, F.CM_DIR_W0_REASON, F.CM_DIR_W0_STATE, F.CM_LANE_CTL_BUSY, F.CM_LANE_CTL_RESULT,
    F.CM_LANE_STAT_CDR_LOCK, F.CM_LANE_STAT_LOOP, F.CM_LANE_STAT_LOOP_HOPS, F.CM_LANE_STAT_STATE, F.CM_LANE_STAT_TX_IDLE,
    F.DM_CH_DETAIL_PTFAIL, F.FC_COND_COND, F.GL_PT_ERR_W0_COUNT, F.GL_PT_ERR_W0_STATUS, F.GL_PT_ERR_W1_ADDRESS, F.GP_HARVEST_PB_FAIL,
    F.HC_IRQ_STAT_STAT, F.TB_LPLL_STAT_LOCKED, F.TB_LPLL_STAT_LOSSES, F.TB_LPLL_STAT_LOST], []⟩ d (Dev.loseLpll p d) := by
  unfold Dev.loseLpll
  dsimp -proj only
  refine Dev.keeps_ite ?_ ?_
  · exact Dev.keeps_refl _ _
  · refine Dev.keeps_step (by decide +kernel) (Dev.cond_keeps ..) ?_
    refine Dev.keeps_step (by decide +kernel) (Dev.killCourses_keeps ..) ?_
    refine Dev.keeps_each _ _ ?_ ?_
    · intro _ _
      refine Dev.keeps_step (by decide +kernel) (Dev.endLoop_keeps ..) ?_
      refine Dev.keeps_step (by decide +kernel) (Dev.endLoop_keeps ..) ?_
      exact Dev.keeps_refl _ _
    · refine Dev.keeps_count _ _ _ (by decide +kernel) ?_
      refine Dev.keeps_flag _ _ _ _ (by decide +kernel) ?_
      refine Dev.keeps_flag _ _ _ _ (by decide +kernel) ?_
      exact Dev.keeps_refl _ _

theorem Dev.markOne_keeps (c : Nat) (e : Nat) (d : Dev) : Dev.keeps ⟨[.out, .cm], [], []⟩ d (Dev.markOne c e d) := by
  unfold Dev.markOne
  dsimp -proj only
  refine Dev.keeps_ite ?_ ?_
  · exact Dev.keeps_refl _ _
  · refine Dev.keeps_ite ?_ ?_
    · refine Dev.keeps_cm _ (by decide +kernel) ?_
      exact Dev.keeps_refl _ _
    · refine Dev.keeps_step (by decide +kernel) (Dev.modLane_keeps ..) ?_
      refine Dev.keeps_step (by decide +kernel) (Dev.emit_keeps ..) ?_
      refine Dev.keeps_step (by decide +kernel) (Dev.modLane_keeps ..) ?_
      exact Dev.keeps_refl _ _

theorem commaReceived_keeps (c : Nat) (e : Nat) (bits : List Bool) (d : Dev) : Dev.keeps ⟨[.out, .cm, .fc, .host, .dma],
    [F.CM_CRS_DELIV_DELIV, F.CM_CRS_DELIV_WORST, F.CM_CRS_PT_FAILED, F.CM_CRS_STAT_FOUND, F.CM_CRS_STAT_F_WORKING,
    F.CM_CRS_STAT_H_WORKING, F.CM_CRS_STAT_IN_SERVICE, F.CM_CRS_STAT_STATE, F.CM_DIR_W0_EVQ, F.CM_DIR_W0_REASON, F.CM_DIR_W0_STATE,
    F.CM_LANE_ERR_ALIGN_LOSS, F.CM_LANE_ERR_COMMA, F.CM_LANE_ERR_RUN, F.CM_LANE_ERR_SPACING, F.CM_LANE_LOOP_BITERR,
    F.CM_LANE_STAT_CDR_LOCK, F.CM_LANE_STAT_EIDLE_SEEN, F.CM_LANE_STAT_STATE, F.DM_CH_DETAIL_PTFAIL, F.GL_PT_ERR_W0_COUNT,
    F.GL_PT_ERR_W0_STATUS, F.GL_PT_ERR_W1_ADDRESS, F.GP_HARVEST_PB_FAIL, F.HC_IRQ_STAT_STAT], []⟩ d (commaReceived c e bits d) := by
  unfold commaReceived
  dsimp -proj only
  refine Dev.keeps_foldl _ _ ?_ ?_
  · intro _ _
    refine Dev.keeps_step (by decide +kernel) (Dev.lineEvent_keeps ..) ?_
    exact Dev.keeps_refl _ _
  · refine Dev.keeps_step (by decide +kernel) (Dev.modLane_keeps ..) ?_
    exact Dev.keeps_refl _ _

theorem courseEndWorking_keeps (c : Nat) (e : Nat) (d : Dev) : Dev.keeps ⟨[.out, .cm, .fc, .host, .dma], [F.CM_CRS_DELIV_DELIV,
    F.CM_CRS_DELIV_WORST, F.CM_CRS_PT_FAILED, F.CM_CRS_STAT_FOUND, F.CM_CRS_STAT_F_WORKING, F.CM_CRS_STAT_H_WORKING,
    F.CM_CRS_STAT_IN_SERVICE, F.CM_CRS_STAT_STATE, F.CM_DIR_W0_EVQ, F.CM_DIR_W0_REASON, F.CM_DIR_W0_STATE, F.DM_CH_DETAIL_PTFAIL,
    F.GL_PT_ERR_W0_COUNT, F.GL_PT_ERR_W0_STATUS, F.GL_PT_ERR_W1_ADDRESS, F.GP_HARVEST_PB_FAIL, F.HC_IRQ_STAT_STAT], []⟩ d
    (courseEndWorking c e d) := by
  unfold courseEndWorking
  dsimp -proj only
  refine Dev.keeps_ite ?_ ?_
  · refine Dev.keeps_step (by decide +kernel) (Dev.refreshCourse_keeps ..) ?_
    refine Dev.keeps_step (by decide +kernel) (Dev.modLane_keeps ..) ?_
    exact Dev.keeps_refl _ _
  · exact Dev.keeps_refl _ _

theorem courseSplit_keeps (c : Nat) (d : Dev) : Dev.keeps ⟨[.out, .cm, .fc, .host, .dma], [F.CM_CRS_DELIV_DELIV, F.CM_CRS_DELIV_WORST,
    F.CM_CRS_PT_FAILED, F.CM_CRS_STAT_FOUND, F.CM_CRS_STAT_IN_SERVICE, F.CM_CRS_STAT_STATE, F.CM_DIR_W0_EVQ, F.CM_DIR_W0_REASON,
    F.CM_DIR_W0_STATE, F.DM_CH_DETAIL_PTFAIL, F.GL_PT_ERR_W0_COUNT, F.GL_PT_ERR_W0_STATUS, F.GL_PT_ERR_W1_ADDRESS, F.GP_HARVEST_PB_FAIL,
    F.HC_IRQ_STAT_STAT], []⟩ d (courseSplit c d) := by
  unfold courseSplit
  dsimp -proj only
  refine Dev.keeps_ite ?_ ?_
  · refine Dev.keeps_step (by decide +kernel) (Dev.setCourse_keeps ..) ?_
    exact Dev.keeps_refl _ _
  · exact Dev.keeps_refl _ _

theorem electricalIdleDetected_keeps (c : Nat) (e : Nat) (d : Dev) : Dev.keeps ⟨[.out, .cm, .fc, .host, .dma], [F.CM_CRS_DELIV_DELIV,
    F.CM_CRS_DELIV_WORST, F.CM_CRS_PT_FAILED, F.CM_CRS_STAT_FOUND, F.CM_CRS_STAT_F_WORKING, F.CM_CRS_STAT_H_WORKING,
    F.CM_CRS_STAT_IN_SERVICE, F.CM_CRS_STAT_STATE, F.CM_DIR_W0_EVQ, F.CM_DIR_W0_REASON, F.CM_DIR_W0_STATE, F.CM_LANE_STAT_CDR_LOCK,
    F.CM_LANE_STAT_RX_SIGNAL, F.CM_LANE_STAT_STATE, F.DM_CH_DETAIL_PTFAIL, F.GL_PT_ERR_W0_COUNT, F.GL_PT_ERR_W0_STATUS,
    F.GL_PT_ERR_W1_ADDRESS, F.GP_HARVEST_PB_FAIL, F.HC_IRQ_STAT_STAT], []⟩ d (electricalIdleDetected c e d) := by
  unfold electricalIdleDetected
  refine Dev.keeps_ite ?_ ?_
  · exact Dev.keeps_refl _ _
  · refine Dev.keeps_step (by decide +kernel) (Dev.loseEnd_keeps ..) ?_
    refine Dev.keeps_step (by decide +kernel) (Dev.setRx_keeps ..) ?_
    refine Dev.keeps_step (by decide +kernel) (Dev.modLane_keeps ..) ?_
    refine Dev.keeps_flag _ _ _ _ (by decide +kernel) ?_
    exact Dev.keeps_refl _ _

theorem holdIdle_keeps (x : Nat) (c : Nat) (e : Nat) (d : Dev) : Dev.keeps ⟨[.out, .cm, .fc, .host, .dma], [F.CM_CRS_DELIV_DELIV,
    F.CM_CRS_DELIV_WORST, F.CM_CRS_PT_FAILED, F.CM_CRS_STAT_FOUND, F.CM_CRS_STAT_F_WORKING, F.CM_CRS_STAT_H_WORKING,
    F.CM_CRS_STAT_IN_SERVICE, F.CM_CRS_STAT_STATE, F.CM_DIR_W0_EVQ, F.CM_DIR_W0_REASON, F.CM_DIR_W0_STATE, F.CM_LANE_CTL_RESULT,
    F.CM_LANE_STAT_CDR_LOCK, F.CM_LANE_STAT_LOOP, F.CM_LANE_STAT_STATE, F.CM_LANE_STAT_TX_IDLE, F.DM_CH_DETAIL_PTFAIL,
    F.GL_PT_ERR_W0_COUNT, F.GL_PT_ERR_W0_STATUS, F.GL_PT_ERR_W1_ADDRESS, F.GP_HARVEST_PB_FAIL, F.HC_CTX_REFADDR_BAR2,
    F.HC_CTX_REFADDR_CAUSE, F.HC_CTX_REFADDR_OFFSET, F.HC_CTX_REFADDR_WRITE, F.HC_CTX_STAT_PARTIAL, F.HC_CTX_STAT_REFUSED,
    F.HC_IRQ_STAT_STAT], []⟩ d (holdIdle x c e d) := by
  unfold holdIdle
  refine Dev.keeps_trans (Dev.laneCmd_keeps (by decide +kernel) _ _ _ _ _ _ _ ?_) ?_
  · intro _
    refine Dev.keeps_step (by decide +kernel) (Dev.enterLoop_keeps ..) ?_
    exact Dev.keeps_refl _ _
  · exact Dev.keeps_refl _ _

theorem loopConfirm_keeps (c : Nat) (e : Nat) (word : Nat) (stamp : Nat) (d : Dev) : Dev.keeps ⟨[.cm], [F.CM_LANE_CTL_BUSY,
    F.CM_LANE_LOOP_RT], []⟩ d (loopConfirm c e word stamp d) := by
  unfold loopConfirm
  dsimp -proj only
  split
  · exact Dev.keeps_refl _ _
  · refine Dev.keeps_ite ?_ ?_
    · exact Dev.keeps_refl _ _
    · split
      · refine Dev.keeps_set _ _ _ _ (by decide +kernel) ?_
        refine Dev.keeps_flag _ _ _ _ (by decide +kernel) ?_
        refine Dev.keeps_step (by decide +kernel) (Dev.modLane_keeps ..) ?_
        refine Dev.keeps_step (by decide +kernel) (Dev.modLane_keeps ..) ?_
        exact Dev.keeps_refl _ _
      · refine Dev.keeps_step (by decide +kernel) (Dev.modLane_keeps ..) ?_
        exact Dev.keeps_refl _ _

theorem loopEnd_keeps (x : Nat) (c : Nat) (e : Nat) (d : Dev) : Dev.keeps ⟨[.out, .cm], [F.CM_LANE_CTL_BUSY, F.CM_LANE_CTL_RESULT,
    F.CM_LANE_STAT_CDR_LOCK, F.CM_LANE_STAT_LOOP, F.CM_LANE_STAT_LOOP_HOPS, F.CM_LANE_STAT_STATE, F.CM_LANE_STAT_TX_IDLE,
    F.HC_CTX_REFADDR_BAR2, F.HC_CTX_REFADDR_CAUSE, F.HC_CTX_REFADDR_OFFSET, F.HC_CTX_REFADDR_WRITE, F.HC_CTX_STAT_PARTIAL,
    F.HC_CTX_STAT_REFUSED], []⟩ d (loopEnd x c e d) := by
  unfold loopEnd
  refine Dev.keeps_trans (Dev.laneCmd_keeps (by decide +kernel) _ _ _ _ _ _ _ ?_) ?_
  · intro _
    refine Dev.keeps_step (by decide +kernel) (Dev.endLoop_keeps ..) ?_
    exact Dev.keeps_refl _ _
  · exact Dev.keeps_refl _ _

theorem loopFarEnd_keeps (x : Nat) (c : Nat) (e : Nat) (hops : Nat) (d : Dev) : Dev.keeps ⟨[.out, .cm, .fc, .host, .dma],
    [F.CM_CRS_DELIV_DELIV, F.CM_CRS_DELIV_WORST, F.CM_CRS_PT_FAILED, F.CM_CRS_STAT_FOUND, F.CM_CRS_STAT_F_WORKING,
    F.CM_CRS_STAT_H_WORKING, F.CM_CRS_STAT_IN_SERVICE, F.CM_CRS_STAT_STATE, F.CM_DIR_W0_EVQ, F.CM_DIR_W0_REASON, F.CM_DIR_W0_STATE,
    F.CM_LANE_CTL_BUSY, F.CM_LANE_CTL_RESULT, F.CM_LANE_STAT_CDR_LOCK, F.CM_LANE_STAT_LOOP, F.CM_LANE_STAT_LOOP_HOPS,
    F.CM_LANE_STAT_STATE, F.CM_LANE_STAT_TX_IDLE, F.DM_CH_DETAIL_PTFAIL, F.GL_PT_ERR_W0_COUNT, F.GL_PT_ERR_W0_STATUS,
    F.GL_PT_ERR_W1_ADDRESS, F.GP_HARVEST_PB_FAIL, F.HC_CTX_REFADDR_BAR2, F.HC_CTX_REFADDR_CAUSE, F.HC_CTX_REFADDR_OFFSET,
    F.HC_CTX_REFADDR_WRITE, F.HC_CTX_STAT_PARTIAL, F.HC_CTX_STAT_REFUSED, F.HC_IRQ_STAT_STAT], []⟩ d (loopFarEnd x c e hops d) := by
  unfold loopFarEnd
  dsimp -proj only
  refine Dev.keeps_trans (Dev.laneCmd_keeps (by decide +kernel) _ _ _ _ _ _ _ ?_) ?_
  · intro _
    refine Dev.keeps_step (by decide +kernel) (Dev.loopWord_keeps ..) ?_
    refine Dev.keeps_step (by decide +kernel) (Dev.modLane_keeps ..) ?_
    refine Dev.keeps_flag _ _ _ _ (by decide +kernel) ?_
    refine Dev.keeps_set _ _ _ _ (by decide +kernel) ?_
    refine Dev.keeps_step (by decide +kernel) (Dev.enterLoop_keeps ..) ?_
    exact Dev.keeps_refl _ _
  · exact Dev.keeps_refl _ _

theorem loopNearParallel_keeps (x : Nat) (c : Nat) (e : Nat) (d : Dev) : Dev.keeps ⟨[.out, .cm, .fc, .host, .dma], [F.CM_CRS_DELIV_DELIV,
    F.CM_CRS_DELIV_WORST, F.CM_CRS_PT_FAILED, F.CM_CRS_STAT_FOUND, F.CM_CRS_STAT_F_WORKING, F.CM_CRS_STAT_H_WORKING,
    F.CM_CRS_STAT_IN_SERVICE, F.CM_CRS_STAT_STATE, F.CM_DIR_W0_EVQ, F.CM_DIR_W0_REASON, F.CM_DIR_W0_STATE, F.CM_LANE_CTL_RESULT,
    F.CM_LANE_STAT_CDR_LOCK, F.CM_LANE_STAT_LOOP, F.CM_LANE_STAT_STATE, F.CM_LANE_STAT_TX_IDLE, F.DM_CH_DETAIL_PTFAIL,
    F.GL_PT_ERR_W0_COUNT, F.GL_PT_ERR_W0_STATUS, F.GL_PT_ERR_W1_ADDRESS, F.GP_HARVEST_PB_FAIL, F.HC_CTX_REFADDR_BAR2,
    F.HC_CTX_REFADDR_CAUSE, F.HC_CTX_REFADDR_OFFSET, F.HC_CTX_REFADDR_WRITE, F.HC_CTX_STAT_PARTIAL, F.HC_CTX_STAT_REFUSED,
    F.HC_IRQ_STAT_STAT], []⟩ d (loopNearParallel x c e d) := by
  unfold loopNearParallel
  refine Dev.keeps_trans (Dev.laneCmd_keeps (by decide +kernel) _ _ _ _ _ _ _ ?_) ?_
  · intro _
    refine Dev.keeps_step (by decide +kernel) (Dev.enterLoop_keeps ..) ?_
    exact Dev.keeps_refl _ _
  · exact Dev.keeps_refl _ _

theorem loopNearSerial_keeps (x : Nat) (c : Nat) (e : Nat) (d : Dev) : Dev.keeps ⟨[.out, .cm, .fc, .host, .dma], [F.CM_CRS_DELIV_DELIV,
    F.CM_CRS_DELIV_WORST, F.CM_CRS_PT_FAILED, F.CM_CRS_STAT_FOUND, F.CM_CRS_STAT_F_WORKING, F.CM_CRS_STAT_H_WORKING,
    F.CM_CRS_STAT_IN_SERVICE, F.CM_CRS_STAT_STATE, F.CM_DIR_W0_EVQ, F.CM_DIR_W0_REASON, F.CM_DIR_W0_STATE, F.CM_LANE_CTL_RESULT,
    F.CM_LANE_STAT_CDR_LOCK, F.CM_LANE_STAT_LOOP, F.CM_LANE_STAT_STATE, F.CM_LANE_STAT_TX_IDLE, F.DM_CH_DETAIL_PTFAIL,
    F.GL_PT_ERR_W0_COUNT, F.GL_PT_ERR_W0_STATUS, F.GL_PT_ERR_W1_ADDRESS, F.GP_HARVEST_PB_FAIL, F.HC_CTX_REFADDR_BAR2,
    F.HC_CTX_REFADDR_CAUSE, F.HC_CTX_REFADDR_OFFSET, F.HC_CTX_REFADDR_WRITE, F.HC_CTX_STAT_PARTIAL, F.HC_CTX_STAT_REFUSED,
    F.HC_IRQ_STAT_STAT], []⟩ d (loopNearSerial x c e d) := by
  unfold loopNearSerial
  refine Dev.keeps_trans (Dev.laneCmd_keeps (by decide +kernel) _ _ _ _ _ _ _ ?_) ?_
  · intro _
    refine Dev.keeps_step (by decide +kernel) (Dev.enterLoop_keeps ..) ?_
    exact Dev.keeps_refl _ _
  · exact Dev.keeps_refl _ _

theorem loopNoAnswer_keeps (c : Nat) (e : Nat) (d : Dev) : Dev.keeps ⟨[.out, .cm], [F.CM_LANE_CTL_BUSY, F.CM_LANE_CTL_RESULT,
    F.CM_LANE_STAT_CDR_LOCK, F.CM_LANE_STAT_LOOP, F.CM_LANE_STAT_LOOP_HOPS, F.CM_LANE_STAT_STATE, F.CM_LANE_STAT_TX_IDLE], []⟩ d
    (loopNoAnswer c e d) := by
  unfold loopNoAnswer
  refine Dev.keeps_ite ?_ ?_
  · refine Dev.keeps_step (by decide +kernel) (Dev.endLoop_keeps ..) ?_
    exact Dev.keeps_refl _ _
  · exact Dev.keeps_refl _ _

theorem loopWordSend_keeps (c : Nat) (e : Nat) (commas : Nat) (d : Dev) : Dev.keeps ⟨[.out, .cm], [], []⟩ d (loopWordSend c e commas d) :=
    by
  unfold loopWordSend
  dsimp -proj only
  refine Dev.keeps_ite ?_ ?_
  · refine Dev.keeps_ite ?_ ?_
    · refine Dev.keeps_each _ _ ?_ ?_
      · intro _ _
        refine Dev.keeps_step (by decide +kernel) (Dev.loopWord_keeps ..) ?_
        refine Dev.keeps_step (by decide +kernel) (Dev.loopIdle_keeps ..) ?_
        exact Dev.keeps_refl _ _
      · exact Dev.keeps_refl _ _
    · refine Dev.keeps_step (by decide +kernel) (Dev.loopWord_keeps ..) ?_
      refine Dev.keeps_step (by decide +kernel) (Dev.loopIdle_keeps ..) ?_
      refine Dev.keeps_each _ _ ?_ ?_
      · intro _ _
        refine Dev.keeps_step (by decide +kernel) (Dev.loopWord_keeps ..) ?_
        refine Dev.keeps_step (by decide +kernel) (Dev.loopIdle_keeps ..) ?_
        exact Dev.keeps_refl _ _
      · exact Dev.keeps_refl _ _
  · exact Dev.keeps_refl _ _

theorem lpllLock_keeps (p : Nat) (counts : List Nat) (d : Dev) : Dev.keeps ⟨[.out, .cm, .fc], [F.CM_LANE_STAT_CDR_LOCK,
    F.CM_LANE_STAT_STATE, F.CM_LANE_STAT_TX_IDLE, F.FC_COND_COND, F.TB_LPLL_STAT_LOCKED], []⟩ d (lpllLock p counts d) := by
  unfold lpllLock
  dsimp -proj only
  refine Dev.keeps_ite ?_ ?_
  · refine Dev.keeps_each _ _ ?_ ?_
    · intro _ _
      refine Dev.keeps_step (by decide +kernel) (Dev.wakeCourse_keeps ..) ?_
      exact Dev.keeps_refl _ _
    · refine Dev.keeps_step (by decide +kernel) (Dev.cond_keeps ..) ?_
      refine Dev.keeps_flag _ _ _ _ (by decide +kernel) ?_
      refine Dev.keeps_cm _ (by decide +kernel) ?_
      exact Dev.keeps_refl _ _
  · exact Dev.keeps_refl _ _

theorem lpllLockLoss_keeps (p : Nat) (count : Nat) (d : Dev) : Dev.keeps ⟨[.out, .cm, .fc, .host, .dma], [F.CM_CRS_DELIV_DELIV,
    F.CM_CRS_DELIV_WORST, F.CM_CRS_PT_FAILED, F.CM_CRS_STAT_FOUND, F.CM_CRS_STAT_F_WORKING, F.CM_CRS_STAT_H_WORKING,
    F.CM_CRS_STAT_IN_SERVICE, F.CM_CRS_STAT_STATE, F.CM_DIR_W0_EVQ, F.CM_DIR_W0_REASON, F.CM_DIR_W0_STATE, F.CM_LANE_CTL_BUSY,
    F.CM_LANE_CTL_RESULT, F.CM_LANE_STAT_CDR_LOCK, F.CM_LANE_STAT_LOOP, F.CM_LANE_STAT_LOOP_HOPS, F.CM_LANE_STAT_STATE,
    F.CM_LANE_STAT_TX_IDLE, F.DM_CH_DETAIL_PTFAIL, F.FC_COND_COND, F.GL_PT_ERR_W0_COUNT, F.GL_PT_ERR_W0_STATUS, F.GL_PT_ERR_W1_ADDRESS,
    F.GP_HARVEST_PB_FAIL, F.HC_IRQ_STAT_STAT, F.TB_LPLL_STAT_LOCKED, F.TB_LPLL_STAT_LOSSES, F.TB_LPLL_STAT_LOST], []⟩ d (lpllLockLoss p
    count d) := by
  unfold lpllLockLoss
  refine Dev.keeps_ite ?_ ?_
  · exact Dev.keeps_refl _ _
  · refine Dev.keeps_step (by decide +kernel) (Dev.loseLpll_keeps ..) ?_
    exact Dev.keeps_refl _ _

theorem signalDetected_keeps (c : Nat) (e : Nat) (d : Dev) : Dev.keeps ⟨[.cm], [F.CM_LANE_STAT_CDR_LOCK, F.CM_LANE_STAT_RX_SIGNAL,
    F.CM_LANE_STAT_STATE], []⟩ d (signalDetected c e d) := by
  unfold signalDetected
  dsimp -proj only
  refine Dev.keeps_ite ?_ ?_
  · exact Dev.keeps_refl _ _
  · refine Dev.keeps_ite ?_ ?_
    · refine Dev.keeps_step (by decide +kernel) (Dev.setRx_keeps ..) ?_
      refine Dev.keeps_flag _ _ _ _ (by decide +kernel) ?_
      exact Dev.keeps_refl _ _
    · refine Dev.keeps_flag _ _ _ _ (by decide +kernel) ?_
      exact Dev.keeps_refl _ _

theorem timeMarkSend_keeps (d : Dev) : Dev.keeps ⟨[.out, .cm], [], []⟩ d (timeMarkSend d) := by
  unfold timeMarkSend
  refine Dev.keeps_ite ?_ ?_
  · exact Dev.keeps_refl _ _
  · refine Dev.keeps_each _ _ ?_ ?_
    · intro _ _
      refine Dev.keeps_step (by decide +kernel) (Dev.markOne_keeps ..) ?_
      refine Dev.keeps_step (by decide +kernel) (Dev.markOne_keeps ..) ?_
      exact Dev.keeps_refl _ _
    · exact Dev.keeps_refl _ _

theorem wakeSequenceEnd_keeps (c : Nat) (e : Nat) (d : Dev) : Dev.keeps ⟨[.out, .cm], [F.CM_LANE_STAT_CDR_LOCK, F.CM_LANE_STAT_STATE], []⟩
    d (wakeSequenceEnd c e d) := by
  unfold wakeSequenceEnd
  split
  · refine Dev.keeps_ite ?_ ?_
    · refine Dev.keeps_step (by decide +kernel) (Dev.emit_keeps ..) ?_
      refine Dev.keeps_step (by decide +kernel) (Dev.showLane_keeps ..) ?_
      refine Dev.keeps_step (by decide +kernel) (Dev.modLane_keeps ..) ?_
      exact Dev.keeps_refl _ _
    · exact Dev.keeps_refl _ _
  · exact Dev.keeps_refl _ _

end Sys2Proof.Machine
end

