-- ==== Sys2Proof/Laws/KeepsTimeBase.lean ====
section
/-! SUPPORT. What the operations of Machine/TimeBase.lean may change at most, one lemma each. -/

namespace Sys2Proof.Machine

set_option Elab.async false

theorem Dev.refreshTrace_keeps (d : Dev) : Dev.keeps ⟨[], [F.TB_STATUS_PPS_TRACE], []⟩ d (Dev.refreshTrace d) := by
  unfold Dev.refreshTrace
  refine Dev.keeps_flag _ _ _ _ (by decide +kernel) ?_
  exact Dev.keeps_refl _ _

theorem Dev.setServo_keeps (st : Nat) (d : Dev) : Dev.keeps ⟨[.out, .tb, .fc, .host], [F.FC_COND_COND, F.GL_READY_PTP, F.HC_IRQ_STAT_STAT,
    F.TB_HOLD_SECONDS, F.TB_SERVO_DEFERRED, F.TB_SERVO_STATE, F.TB_STATUS_PPS_TRACE, F.TB_STATUS_SV_SUSPECT], []⟩ d (Dev.setServo st d) :=
    by
  unfold Dev.setServo
  dsimp -proj only
  refine Dev.keeps_ite ?_ ?_
  · refine Dev.keeps_step (by decide +kernel) (Dev.refreshTrace_keeps ..) ?_
    refine Dev.keeps_ite ?_ ?_
    · refine Dev.keeps_ite ?_ ?_
      · refine Dev.keeps_flag _ _ _ _ (by decide +kernel) ?_
        refine Dev.keeps_flag _ _ _ _ (by decide +kernel) ?_
        refine Dev.keeps_set _ _ _ _ (by decide +kernel) ?_
        refine Dev.keeps_ite ?_ ?_
        · refine Dev.keeps_tb _ (by decide +kernel) ?_
          refine Dev.keeps_ite ?_ ?_
          · refine Dev.keeps_tb _ (by decide +kernel) ?_
            refine Dev.keeps_ite ?_ ?_
            · refine Dev.keeps_step (by decide +kernel) (Dev.cond_keeps ..) ?_
              refine Dev.keeps_set _ _ _ _ (by decide +kernel) ?_
              exact Dev.keeps_refl _ _
            · exact Dev.keeps_refl _ _
          · refine Dev.keeps_ite ?_ ?_
            · refine Dev.keeps_step (by decide +kernel) (Dev.cond_keeps ..) ?_
              refine Dev.keeps_set _ _ _ _ (by decide +kernel) ?_
              exact Dev.keeps_refl _ _
            · exact Dev.keeps_refl _ _
        · refine Dev.keeps_ite ?_ ?_
          · refine Dev.keeps_tb _ (by decide +kernel) ?_
            refine Dev.keeps_ite ?_ ?_
            · refine Dev.keeps_step (by decide +kernel) (Dev.cond_keeps ..) ?_
              refine Dev.keeps_set _ _ _ _ (by decide +kernel) ?_
              exact Dev.keeps_refl _ _
            · exact Dev.keeps_refl _ _
          · refine Dev.keeps_ite ?_ ?_
            · refine Dev.keeps_step (by decide +kernel) (Dev.cond_keeps ..) ?_
              refine Dev.keeps_set _ _ _ _ (by decide +kernel) ?_
              exact Dev.keeps_refl _ _
            · exact Dev.keeps_refl _ _
      · refine Dev.keeps_flag _ _ _ _ (by decide +kernel) ?_
        refine Dev.keeps_set _ _ _ _ (by decide +kernel) ?_
        refine Dev.keeps_ite ?_ ?_
        · refine Dev.keeps_tb _ (by decide +kernel) ?_
          refine Dev.keeps_ite ?_ ?_
          · refine Dev.keeps_tb _ (by decide +kernel) ?_
            refine Dev.keeps_ite ?_ ?_
            · refine Dev.keeps_step (by decide +kernel) (Dev.cond_keeps ..) ?_
              refine Dev.keeps_set _ _ _ _ (by decide +kernel) ?_
              exact Dev.keeps_refl _ _
            · exact Dev.keeps_refl _ _
          · refine Dev.keeps_ite ?_ ?_
            · refine Dev.keeps_step (by decide +kernel) (Dev.cond_keeps ..) ?_
              refine Dev.keeps_set _ _ _ _ (by decide +kernel) ?_
              exact Dev.keeps_refl _ _
            · exact Dev.keeps_refl _ _
        · refine Dev.keeps_ite ?_ ?_
          · refine Dev.keeps_tb _ (by decide +kernel) ?_
            refine Dev.keeps_ite ?_ ?_
            · refine Dev.keeps_step (by decide +kernel) (Dev.cond_keeps ..) ?_
              refine Dev.keeps_set _ _ _ _ (by decide +kernel) ?_
              exact Dev.keeps_refl _ _
            · exact Dev.keeps_refl _ _
          · refine Dev.keeps_ite ?_ ?_
            · refine Dev.keeps_step (by decide +kernel) (Dev.cond_keeps ..) ?_
              refine Dev.keeps_set _ _ _ _ (by decide +kernel) ?_
              exact Dev.keeps_refl _ _
            · exact Dev.keeps_refl _ _
    · refine Dev.keeps_flag _ _ _ _ (by decide +kernel) ?_
      refine Dev.keeps_ite ?_ ?_
      · refine Dev.keeps_flag _ _ _ _ (by decide +kernel) ?_
        refine Dev.keeps_flag _ _ _ _ (by decide +kernel) ?_
        refine Dev.keeps_set _ _ _ _ (by decide +kernel) ?_
        refine Dev.keeps_ite ?_ ?_
        · refine Dev.keeps_tb _ (by decide +kernel) ?_
          refine Dev.keeps_ite ?_ ?_
          · refine Dev.keeps_tb _ (by decide +kernel) ?_
            refine Dev.keeps_ite ?_ ?_
            · refine Dev.keeps_step (by decide +kernel) (Dev.cond_keeps ..) ?_
              refine Dev.keeps_set _ _ _ _ (by decide +kernel) ?_
              exact Dev.keeps_refl _ _
            · exact Dev.keeps_refl _ _
          · refine Dev.keeps_ite ?_ ?_
            · refine Dev.keeps_step (by decide +kernel) (Dev.cond_keeps ..) ?_
              refine Dev.keeps_set _ _ _ _ (by decide +kernel) ?_
              exact Dev.keeps_refl _ _
            · exact Dev.keeps_refl _ _
        · refine Dev.keeps_ite ?_ ?_
          · refine Dev.keeps_tb _ (by decide +kernel) ?_
            refine Dev.keeps_ite ?_ ?_
            · refine Dev.keeps_step (by decide +kernel) (Dev.cond_keeps ..) ?_
              refine Dev.keeps_set _ _ _ _ (by decide +kernel) ?_
              exact Dev.keeps_refl _ _
            · exact Dev.keeps_refl _ _
          · refine Dev.keeps_ite ?_ ?_
            · refine Dev.keeps_step (by decide +kernel) (Dev.cond_keeps ..) ?_
              refine Dev.keeps_set _ _ _ _ (by decide +kernel) ?_
              exact Dev.keeps_refl _ _
            · exact Dev.keeps_refl _ _
      · refine Dev.keeps_flag _ _ _ _ (by decide +kernel) ?_
        refine Dev.keeps_set _ _ _ _ (by decide +kernel) ?_
        refine Dev.keeps_ite ?_ ?_
        · refine Dev.keeps_tb _ (by decide +kernel) ?_
          refine Dev.keeps_ite ?_ ?_
          · refine Dev.keeps_tb _ (by decide +kernel) ?_
            refine Dev.keeps_ite ?_ ?_
            · refine Dev.keeps_step (by decide +kernel) (Dev.cond_keeps ..) ?_
              refine Dev.keeps_set _ _ _ _ (by decide +kernel) ?_
              exact Dev.keeps_refl _ _
            · exact Dev.keeps_refl _ _
          · refine Dev.keeps_ite ?_ ?_
            · refine Dev.keeps_step (by decide +kernel) (Dev.cond_keeps ..) ?_
              refine Dev.keeps_set _ _ _ _ (by decide +kernel) ?_
              exact Dev.keeps_refl _ _
            · exact Dev.keeps_refl _ _
        · refine Dev.keeps_ite ?_ ?_
          · refine Dev.keeps_tb _ (by decide +kernel) ?_
            refine Dev.keeps_ite ?_ ?_
            · refine Dev.keeps_step (by decide +kernel) (Dev.cond_keeps ..) ?_
              refine Dev.keeps_set _ _ _ _ (by decide +kernel) ?_
              exact Dev.keeps_refl _ _
            · exact Dev.keeps_refl _ _
          · refine Dev.keeps_ite ?_ ?_
            · refine Dev.keeps_step (by decide +kernel) (Dev.cond_keeps ..) ?_
              refine Dev.keeps_set _ _ _ _ (by decide +kernel) ?_
              exact Dev.keeps_refl _ _
            · exact Dev.keeps_refl _ _
  · refine Dev.keeps_step (by decide +kernel) (Dev.refreshTrace_keeps ..) ?_
    refine Dev.keeps_step (by decide +kernel) (Dev.eventAll_keeps ..) ?_
    refine Dev.keeps_ite ?_ ?_
    · refine Dev.keeps_ite ?_ ?_
      · refine Dev.keeps_flag _ _ _ _ (by decide +kernel) ?_
        refine Dev.keeps_flag _ _ _ _ (by decide +kernel) ?_
        refine Dev.keeps_set _ _ _ _ (by decide +kernel) ?_
        refine Dev.keeps_ite ?_ ?_
        · refine Dev.keeps_tb _ (by decide +kernel) ?_
          refine Dev.keeps_ite ?_ ?_
          · refine Dev.keeps_tb _ (by decide +kernel) ?_
            refine Dev.keeps_ite ?_ ?_
            · refine Dev.keeps_step (by decide +kernel) (Dev.cond_keeps ..) ?_
              refine Dev.keeps_set _ _ _ _ (by decide +kernel) ?_
              exact Dev.keeps_refl _ _
            · exact Dev.keeps_refl _ _
          · refine Dev.keeps_ite ?_ ?_
            · refine Dev.keeps_step (by decide +kernel) (Dev.cond_keeps ..) ?_
              refine Dev.keeps_set _ _ _ _ (by decide +kernel) ?_
              exact Dev.keeps_refl _ _
            · exact Dev.keeps_refl _ _
        · refine Dev.keeps_ite ?_ ?_
          · refine Dev.keeps_tb _ (by decide +kernel) ?_
            refine Dev.keeps_ite ?_ ?_
            · refine Dev.keeps_step (by decide +kernel) (Dev.cond_keeps ..) ?_
              refine Dev.keeps_set _ _ _ _ (by decide +kernel) ?_
              exact Dev.keeps_refl _ _
            · exact Dev.keeps_refl _ _
          · refine Dev.keeps_ite ?_ ?_
            · refine Dev.keeps_step (by decide +kernel) (Dev.cond_keeps ..) ?_
              refine Dev.keeps_set _ _ _ _ (by decide +kernel) ?_
              exact Dev.keeps_refl _ _
            · exact Dev.keeps_refl _ _
      · refine Dev.keeps_flag _ _ _ _ (by decide +kernel) ?_
        refine Dev.keeps_set _ _ _ _ (by decide +kernel) ?_
        refine Dev.keeps_ite ?_ ?_
        · refine Dev.keeps_tb _ (by decide +kernel) ?_
          refine Dev.keeps_ite ?_ ?_
          · refine Dev.keeps_tb _ (by decide +kernel) ?_
            refine Dev.keeps_ite ?_ ?_
            · refine Dev.keeps_step (by decide +kernel) (Dev.cond_keeps ..) ?_
              refine Dev.keeps_set _ _ _ _ (by decide +kernel) ?_
              exact Dev.keeps_refl _ _
            · exact Dev.keeps_refl _ _
          · refine Dev.keeps_ite ?_ ?_
            · refine Dev.keeps_step (by decide +kernel) (Dev.cond_keeps ..) ?_
              refine Dev.keeps_set _ _ _ _ (by decide +kernel) ?_
              exact Dev.keeps_refl _ _
            · exact Dev.keeps_refl _ _
        · refine Dev.keeps_ite ?_ ?_
          · refine Dev.keeps_tb _ (by decide +kernel) ?_
            refine Dev.keeps_ite ?_ ?_
            · refine Dev.keeps_step (by decide +kernel) (Dev.cond_keeps ..) ?_
              refine Dev.keeps_set _ _ _ _ (by decide +kernel) ?_
              exact Dev.keeps_refl _ _
            · exact Dev.keeps_refl _ _
          · refine Dev.keeps_ite ?_ ?_
            · refine Dev.keeps_step (by decide +kernel) (Dev.cond_keeps ..) ?_
              refine Dev.keeps_set _ _ _ _ (by decide +kernel) ?_
              exact Dev.keeps_refl _ _
            · exact Dev.keeps_refl _ _
    · refine Dev.keeps_flag _ _ _ _ (by decide +kernel) ?_
      refine Dev.keeps_ite ?_ ?_
      · refine Dev.keeps_flag _ _ _ _ (by decide +kernel) ?_
        refine Dev.keeps_flag _ _ _ _ (by decide +kernel) ?_
        refine Dev.keeps_set _ _ _ _ (by decide +kernel) ?_
        refine Dev.keeps_ite ?_ ?_
        · refine Dev.keeps_tb _ (by decide +kernel) ?_
          refine Dev.keeps_ite ?_ ?_
          · refine Dev.keeps_tb _ (by decide +kernel) ?_
            refine Dev.keeps_ite ?_ ?_
            · refine Dev.keeps_step (by decide +kernel) (Dev.cond_keeps ..) ?_
              refine Dev.keeps_set _ _ _ _ (by decide +kernel) ?_
              exact Dev.keeps_refl _ _
            · exact Dev.keeps_refl _ _
          · refine Dev.keeps_ite ?_ ?_
            · refine Dev.keeps_step (by decide +kernel) (Dev.cond_keeps ..) ?_
              refine Dev.keeps_set _ _ _ _ (by decide +kernel) ?_
              exact Dev.keeps_refl _ _
            · exact Dev.keeps_refl _ _
        · refine Dev.keeps_ite ?_ ?_
          · refine Dev.keeps_tb _ (by decide +kernel) ?_
            refine Dev.keeps_ite ?_ ?_
            · refine Dev.keeps_step (by decide +kernel) (Dev.cond_keeps ..) ?_
              refine Dev.keeps_set _ _ _ _ (by decide +kernel) ?_
              exact Dev.keeps_refl _ _
            · exact Dev.keeps_refl _ _
          · refine Dev.keeps_ite ?_ ?_
            · refine Dev.keeps_step (by decide +kernel) (Dev.cond_keeps ..) ?_
              refine Dev.keeps_set _ _ _ _ (by decide +kernel) ?_
              exact Dev.keeps_refl _ _
            · exact Dev.keeps_refl _ _
      · refine Dev.keeps_flag _ _ _ _ (by decide +kernel) ?_
        refine Dev.keeps_set _ _ _ _ (by decide +kernel) ?_
        refine Dev.keeps_ite ?_ ?_
        · refine Dev.keeps_tb _ (by decide +kernel) ?_
          refine Dev.keeps_ite ?_ ?_
          · refine Dev.keeps_tb _ (by decide +kernel) ?_
            refine Dev.keeps_ite ?_ ?_
            · refine Dev.keeps_step (by decide +kernel) (Dev.cond_keeps ..) ?_
              refine Dev.keeps_set _ _ _ _ (by decide +kernel) ?_
              exact Dev.keeps_refl _ _
            · exact Dev.keeps_refl _ _
          · refine Dev.keeps_ite ?_ ?_
            · refine Dev.keeps_step (by decide +kernel) (Dev.cond_keeps ..) ?_
              refine Dev.keeps_set _ _ _ _ (by decide +kernel) ?_
              exact Dev.keeps_refl _ _
            · exact Dev.keeps_refl _ _
        · refine Dev.keeps_ite ?_ ?_
          · refine Dev.keeps_tb _ (by decide +kernel) ?_
            refine Dev.keeps_ite ?_ ?_
            · refine Dev.keeps_step (by decide +kernel) (Dev.cond_keeps ..) ?_
              refine Dev.keeps_set _ _ _ _ (by decide +kernel) ?_
              exact Dev.keeps_refl _ _
            · exact Dev.keeps_refl _ _
          · refine Dev.keeps_ite ?_ ?_
            · refine Dev.keeps_step (by decide +kernel) (Dev.cond_keeps ..) ?_
              refine Dev.keeps_set _ _ _ _ (by decide +kernel) ?_
              exact Dev.keeps_refl _ _
            · exact Dev.keeps_refl _ _

theorem Dev.acceptEdge_keeps (n : Nat) (rising : Bool) (stamp : Nat) (steps : Nat) (d : Dev) : Dev.keeps ⟨[.tb], [F.TB_EVT_STAT_FILL,
    F.TB_EVT_STAT_OVERFLOW], []⟩ d (Dev.acceptEdge n rising stamp steps d) := by
  unfold Dev.acceptEdge
  dsimp -proj only
  refine Dev.keeps_ite ?_ ?_
  · refine Dev.keeps_count _ _ _ (by decide +kernel) ?_
    refine Dev.keeps_tb _ (by decide +kernel) ?_
    exact Dev.keeps_refl _ _
  · refine Dev.keeps_set _ _ _ _ (by decide +kernel) ?_
    refine Dev.keeps_tb _ (by decide +kernel) ?_
    exact Dev.keeps_refl _ _

theorem Dev.adjCmd_keeps {S : Scope} (hS : Scope.le ⟨[], [F.HC_CTX_REFADDR_BAR2, F.HC_CTX_REFADDR_CAUSE, F.HC_CTX_REFADDR_OFFSET,
    F.HC_CTX_REFADDR_WRITE, F.HC_CTX_STAT_PARTIAL, F.HC_CTX_STAT_REFUSED, F.TB_ADJ_CMD_RESULT], []⟩ S = true) (x : Nat) (code : Nat) (f :
    Dev → Dev) (d : Dev) (hf : ∀ (x0 : Dev), Dev.keeps S x0 (f x0)) : Dev.keeps S d (Dev.adjCmd x code f d) := by
  unfold Dev.adjCmd
  dsimp -proj only
  refine Dev.keeps_trans (Dev.hostWrite_keeps (Scope.le_trans (by decide +kernel) hS) _ _ _ _ ?_) ?_
  · intro _
    refine Dev.keeps_ite ?_ ?_
    · refine Dev.keeps_trans (hf _) ?_
      refine Dev.keeps_set _ _ _ _ (Scope.le_fld (by decide +kernel) hS) ?_
      exact Dev.keeps_refl _ _
    · refine Dev.keeps_set _ _ _ _ (Scope.le_fld (by decide +kernel) hS) ?_
      exact Dev.keeps_refl _ _
  · exact Dev.keeps_refl _ _

theorem Dev.askFreq_keeps (v : Int) (d : Dev) : Dev.keeps ⟨[.tb], [F.TB_SERVO_FREQ_SAT], []⟩ d (Dev.askFreq v d) := by
  unfold Dev.askFreq
  dsimp -proj only
  refine Dev.keeps_tb _ (by decide +kernel) ?_
  refine Dev.keeps_ite ?_ ?_
  · exact Dev.keeps_refl _ _
  · refine Dev.keeps_flag _ _ _ _ (by decide +kernel) ?_
    exact Dev.keeps_refl _ _

theorem Dev.setTio_keeps (n : Nat) (level : Bool) (sub : Nat) (d : Dev) : Dev.keeps ⟨[.out, .tb], [F.TB_TIO_W3_EDGES,
    F.TB_TIO_W3_LEVEL_NOW], []⟩ d (Dev.setTio n level sub d) := by
  unfold Dev.setTio
  dsimp -proj only
  refine Dev.keeps_ite ?_ ?_
  · exact Dev.keeps_refl _ _
  · refine Dev.keeps_step (by decide +kernel) (Dev.emit_keeps ..) ?_
    refine Dev.keeps_count _ _ _ (by decide +kernel) ?_
    refine Dev.keeps_flag _ _ _ _ (by decide +kernel) ?_
    refine Dev.keeps_tb _ (by decide +kernel) ?_
    exact Dev.keeps_refl _ _

theorem Dev.firePending_keeps (n : Nat) (stepped : Bool) (d : Dev) : Dev.keeps ⟨[.out, .tb], [F.TB_TIO_W3_EDGES, F.TB_TIO_W3_LEVEL_NOW,
    F.TB_TIO_W3_PENDING], []⟩ d (Dev.firePending n stepped d) := by
  unfold Dev.firePending
  dsimp -proj only
  split
  · refine Dev.keeps_step (by decide +kernel) (Dev.setTio_keeps ..) ?_
    refine Dev.keeps_flag _ _ _ _ (by decide +kernel) ?_
    refine Dev.keeps_tb _ (by decide +kernel) ?_
    exact Dev.keeps_refl _ _
  · exact Dev.keeps_refl _ _

theorem Dev.modPtp_keeps (p : Nat) (f : PtpSt → PtpSt) (d : Dev) : Dev.keeps ⟨[.tb], [], []⟩ d (Dev.modPtp p f d) := by
  unfold Dev.modPtp
  dsimp -proj only
  refine Dev.keeps_tb _ (by decide +kernel) ?_
  exact Dev.keeps_refl _ _

theorem Dev.pathDelay_keeps (p : Nat) (v : Int) (d : Dev) : Dev.keeps ⟨[.tb], [F.TB_PTP_PORT_W0_PD_REJECT, F.TB_PTP_PORT_W1_MPD], []⟩ d
    (Dev.pathDelay p v d) := by
  unfold Dev.pathDelay
  dsimp -proj only
  refine Dev.keeps_ite ?_ ?_
  · refine Dev.keeps_count _ _ _ (by decide +kernel) ?_
    exact Dev.keeps_refl _ _
  · refine Dev.keeps_setI _ _ _ _ (by decide +kernel) ?_
    refine Dev.keeps_tb _ (by decide +kernel) ?_
    exact Dev.keeps_refl _ _

theorem Dev.stampPtp_keeps (p : Nat) (s : Stamp) (d : Dev) : Dev.keeps ⟨[.tb], [F.TB_PTP_PORT_W0_QLOST], []⟩ d (Dev.stampPtp p s d) := by
  unfold Dev.stampPtp
  dsimp -proj only
  refine Dev.keeps_ite ?_ ?_
  · exact Dev.keeps_refl _ _
  · refine Dev.keeps_ite ?_ ?_
    · refine Dev.keeps_count _ _ _ (by decide +kernel) ?_
      exact Dev.keeps_refl _ _
    · refine Dev.keeps_tb _ (by decide +kernel) ?_
      exact Dev.keeps_refl _ _

theorem Dev.sendPtp_keeps (p : Nat) (typ : Nat) (stamp : Nat) (seqId : Nat) (residence : Nat) (d : Dev) : Dev.keeps ⟨[.out, .tb],
    [F.TB_PTP_PORT_W0_QLOST], []⟩ d (Dev.sendPtp p typ stamp seqId residence d) := by
  unfold Dev.sendPtp
  dsimp -proj only
  refine Dev.keeps_step (by decide +kernel) (Dev.emit_keeps ..) ?_
  refine Dev.keeps_step (by decide +kernel) (Dev.stampPtp_keeps ..) ?_
  refine Dev.keeps_step (by decide +kernel) (Dev.modPtp_keeps ..) ?_
  exact Dev.keeps_refl _ _

theorem Dev.setSlew_keeps (v : Int) (d : Dev) : Dev.keeps ⟨[.tb], [F.TB_SERVO_SLEWING, F.TB_SLEW_LEFT_LEFT], []⟩ d (Dev.setSlew v d) := by
  unfold Dev.setSlew
  dsimp -proj only
  refine Dev.keeps_flag _ _ _ _ (by decide +kernel) ?_
  refine Dev.keeps_setI _ _ _ _ (by decide +kernel) ?_
  refine Dev.keeps_tb _ (by decide +kernel) ?_
  exact Dev.keeps_refl _ _

theorem Dev.stepTime_keeps (delta : Int) (d : Dev) : Dev.keeps ⟨[.out, .clk, .grps, .tb], [F.TB_ADJ_CMD_BUSY, F.TB_SERVO_SLEWING,
    F.TB_SLEW_LEFT_LEFT, F.TB_STATUS_PPS_TRACE, F.TB_STATUS_STEPS, F.TB_STATUS_TIME_SUSPECT, F.TB_TIO_W3_EDGES, F.TB_TIO_W3_LEVEL_NOW,
    F.TB_TIO_W3_PENDING], []⟩ d (Dev.stepTime delta d) := by
  unfold Dev.stepTime
  dsimp -proj only
  refine Dev.keeps_ite ?_ ?_
  · refine Dev.keeps_each _ _ ?_ ?_
    · intro _ _
      split
      · refine Dev.keeps_ite ?_ ?_
        · refine Dev.keeps_step (by decide +kernel) (Dev.firePending_keeps ..) ?_
          exact Dev.keeps_refl _ _
        · exact Dev.keeps_refl _ _
      · exact Dev.keeps_refl _ _
    · refine Dev.keeps_step (by decide +kernel) (Dev.refreshTrace_keeps ..) ?_
      refine Dev.keeps_step (by decide +kernel) (Dev.setSlew_keeps ..) ?_
      refine Dev.keeps_flag _ _ _ _ (by decide +kernel) ?_
      refine Dev.keeps_set _ _ _ _ (by decide +kernel) ?_
      refine Dev.keeps_flag _ _ _ _ (by decide +kernel) ?_
      refine Dev.keeps_mk (.inr rfl) (.inr rfl) (.inr rfl) (.inr rfl) (.inr rfl) (.inr rfl) (.inr rfl) (.inl (by decide +kernel)) (.inr rfl) (.inr rfl) (.inr rfl) (.inr rfl) (.inl (by decide +kernel)) (.inr rfl) (.inr rfl) (.inr rfl) (.inr rfl) (.inr rfl) ?_
      refine Dev.keeps_clk _ (by decide +kernel) ?_
      exact Dev.keeps_refl _ _
  · refine Dev.keeps_step (by decide +kernel) (Dev.refreshTrace_keeps ..) ?_
    refine Dev.keeps_step (by decide +kernel) (Dev.setSlew_keeps ..) ?_
    refine Dev.keeps_flag _ _ _ _ (by decide +kernel) ?_
    refine Dev.keeps_set _ _ _ _ (by decide +kernel) ?_
    refine Dev.keeps_flag _ _ _ _ (by decide +kernel) ?_
    refine Dev.keeps_mk (.inr rfl) (.inr rfl) (.inr rfl) (.inr rfl) (.inr rfl) (.inr rfl) (.inr rfl) (.inl (by decide +kernel)) (.inr rfl) (.inr rfl) (.inr rfl) (.inr rfl) (.inl (by decide +kernel)) (.inr rfl) (.inr rfl) (.inr rfl) (.inr rfl) (.inr rfl) ?_
    refine Dev.keeps_clk _ (by decide +kernel) ?_
    exact Dev.keeps_refl _ _

theorem evtFifoRead_keeps (x : Nat) (n : Nat) (d : Dev) : Dev.keeps ⟨[.out, .tb, .host], [F.HC_CTX_REFADDR_BAR2, F.HC_CTX_REFADDR_CAUSE,
    F.HC_CTX_REFADDR_OFFSET, F.HC_CTX_REFADDR_WRITE, F.HC_CTX_STAT_PARTIAL, F.HC_CTX_STAT_REFUSED, F.TB_EVT_STAT_FILL], []⟩ d (evtFifoRead
    x n d) := by
  unfold evtFifoRead
  refine Dev.keeps_trans (Dev.hostRead_keeps (by decide +kernel) _ _ _ _ ?_) ?_
  · intro _; dsimp -proj only
    split
    · dsimp only
      refine Dev.keeps_step (by decide +kernel) (Dev.modCtx_keeps ..) ?_
      exact Dev.keeps_refl _ _
    · dsimp only
      refine Dev.keeps_step (by decide +kernel) (Dev.modCtx_keeps ..) ?_
      refine Dev.keeps_set _ _ _ _ (by decide +kernel) ?_
      refine Dev.keeps_tb _ (by decide +kernel) ?_
      exact Dev.keeps_refl _ _
  · exact Dev.keeps_refl _ _

theorem freq_keeps (x : Nat) (d : Dev) : Dev.keeps ⟨[.tb], [F.HC_CTX_REFADDR_BAR2, F.HC_CTX_REFADDR_CAUSE, F.HC_CTX_REFADDR_OFFSET,
    F.HC_CTX_REFADDR_WRITE, F.HC_CTX_STAT_PARTIAL, F.HC_CTX_STAT_REFUSED, F.TB_ADJ_CMD_RESULT, F.TB_SERVO_FREQ_SAT], []⟩ d (freq x d) :=
    by
  unfold freq
  refine Dev.keeps_trans (Dev.adjCmd_keeps (by decide +kernel) _ _ _ _ ?_) ?_
  · intro _
    refine Dev.keeps_step (by decide +kernel) (Dev.askFreq_keeps ..) ?_
    exact Dev.keeps_refl _ _
  · exact Dev.keeps_refl _ _

theorem freqStep_keeps (d : Dev) : Dev.keeps ⟨[.tb], [F.TB_FREQ_FREQ], []⟩ d (freqStep d) := by
  unfold freqStep
  dsimp -proj only
  refine Dev.keeps_ite ?_ ?_
  · exact Dev.keeps_refl _ _
  · refine Dev.keeps_setI _ _ _ _ (by decide +kernel) ?_
    refine Dev.keeps_tb _ (by decide +kernel) ?_
    exact Dev.keeps_refl _ _

theorem holdoverLimit_keeps (d : Dev) : Dev.keeps ⟨[.fc], [F.FC_COND_COND, F.TB_SERVO_HOLD_RAISED], []⟩ d (holdoverLimit d) := by
  unfold holdoverLimit
  refine Dev.keeps_ite ?_ ?_
  · refine Dev.keeps_flag _ _ _ _ (by decide +kernel) ?_
    refine Dev.keeps_step (by decide +kernel) (Dev.cond_keeps ..) ?_
    exact Dev.keeps_refl _ _
  · exact Dev.keeps_refl _ _

theorem holdoverSv_keeps (d : Dev) : Dev.keeps ⟨[], [F.TB_STATUS_PPS_TRACE, F.TB_STATUS_SV_SUSPECT], []⟩ d (holdoverSv d) := by
  unfold holdoverSv
  refine Dev.keeps_ite ?_ ?_
  · refine Dev.keeps_step (by decide +kernel) (Dev.refreshTrace_keeps ..) ?_
    refine Dev.keeps_flag _ _ _ _ (by decide +kernel) ?_
    exact Dev.keeps_refl _ _
  · exact Dev.keeps_refl _ _

theorem masterLost_keeps (d : Dev) : Dev.keeps ⟨[.out, .tb, .fc, .host], [F.FC_COND_COND, F.GL_READY_PTP, F.HC_IRQ_STAT_STAT,
    F.TB_ADJ_CMD_BUSY, F.TB_FREQ_FREQ, F.TB_HOLD_SECONDS, F.TB_SERVO_DEFERRED, F.TB_SERVO_HOLD_RAISED, F.TB_SERVO_SLEWING,
    F.TB_SERVO_STATE, F.TB_SLEW_LEFT_LEFT, F.TB_STATUS_PPS_TRACE, F.TB_STATUS_SV_SUSPECT], []⟩ d (masterLost d) := by
  unfold masterLost
  dsimp -proj only
  refine Dev.keeps_ite ?_ ?_
  · exact Dev.keeps_refl _ _
  · refine Dev.keeps_ite ?_ ?_
    · refine Dev.keeps_step (by decide +kernel) (Dev.setServo_keeps ..) ?_
      refine Dev.keeps_tb _ (by decide +kernel) ?_
      exact Dev.keeps_refl _ _
    · refine Dev.keeps_step (by decide +kernel) (freqStep_keeps ..) ?_
      refine Dev.keeps_step (by decide +kernel) (Dev.setServo_keeps ..) ?_
      refine Dev.keeps_set _ _ _ _ (by decide +kernel) ?_
      refine Dev.keeps_flag _ _ _ _ (by decide +kernel) ?_
      refine Dev.keeps_step (by decide +kernel) (Dev.setSlew_keeps ..) ?_
      refine Dev.keeps_tb _ (by decide +kernel) ?_
      refine Dev.keeps_ite ?_ ?_
      · refine Dev.keeps_flag _ _ _ _ (by decide +kernel) ?_
        refine Dev.keeps_step (by decide +kernel) (Dev.raise_keeps ..) ?_
        exact Dev.keeps_refl _ _
      · exact Dev.keeps_refl _ _

theorem phaseStep_keeps (d : Dev) : Dev.keeps ⟨[.clk, .tb], [F.TB_ADJ_CMD_BUSY, F.TB_SERVO_SLEWING, F.TB_SLEW_LEFT_LEFT], []⟩ d (phaseStep
    d) := by
  unfold phaseStep
  dsimp -proj only
  refine Dev.keeps_ite ?_ ?_
  · refine Dev.keeps_ite ?_ ?_
    · exact Dev.keeps_refl _ _
    · refine Dev.keeps_flag _ _ _ _ (by decide +kernel) ?_
      refine Dev.keeps_mk (.inr rfl) (.inr rfl) (.inl (by decide +kernel)) (.inr rfl) (.inr rfl) (.inr rfl) (.inr rfl) (.inr rfl) (.inr rfl) (.inr rfl) (.inr rfl) (.inr rfl) (.inl (by decide +kernel)) (.inr rfl) (.inr rfl) (.inr rfl) (.inr rfl) (.inr rfl) ?_
      exact Dev.keeps_refl _ _
  · refine Dev.keeps_ite ?_ ?_
    · refine Dev.keeps_ite ?_ ?_
      · exact Dev.keeps_refl _ _
      · refine Dev.keeps_tb _ (by decide +kernel) ?_
        refine Dev.keeps_step (by decide +kernel) (Dev.setSlew_keeps ..) ?_
        refine Dev.keeps_mk (.inr rfl) (.inr rfl) (.inl (by decide +kernel)) (.inr rfl) (.inr rfl) (.inr rfl) (.inr rfl) (.inr rfl) (.inr rfl) (.inr rfl) (.inr rfl) (.inr rfl) (.inl (by decide +kernel)) (.inr rfl) (.inr rfl) (.inr rfl) (.inr rfl) (.inr rfl) ?_
        exact Dev.keeps_refl _ _
    · exact Dev.keeps_refl _ _

theorem ppsEdge_keeps (d : Dev) : Dev.keeps ⟨[.out, .tb], [], []⟩ d (ppsEdge d) := by
  unfold ppsEdge
  dsimp -proj only
  refine Dev.keeps_ite ?_ ?_
  · exact Dev.keeps_refl _ _
  · refine Dev.keeps_ite ?_ ?_
    · refine Dev.keeps_step (by decide +kernel) (Dev.emit_keeps ..) ?_
      refine Dev.keeps_tb _ (by decide +kernel) ?_
      exact Dev.keeps_refl _ _
    · refine Dev.keeps_ite ?_ ?_
      · refine Dev.keeps_step (by decide +kernel) (Dev.emit_keeps ..) ?_
        refine Dev.keeps_tb _ (by decide +kernel) ?_
        exact Dev.keeps_refl _ _
      · exact Dev.keeps_refl _ _

theorem ptpMessageReceived_keeps (p : Nat) (typ : Nat) (domain : Nat) (seqId : Nat) (stamp : Nat) (state : Option Nat) (twoStep : Bool)
    (delay : Option Int) (d : Dev) : Dev.keeps ⟨[.tb, .fc], [F.FC_COND_COND, F.TB_PTP_PORT_W0_PD_REJECT, F.TB_PTP_PORT_W0_PEER_TWO_STEP,
    F.TB_PTP_PORT_W0_QLOST, F.TB_PTP_PORT_W0_STATE, F.TB_PTP_PORT_W1_MPD], []⟩ d (ptpMessageReceived p typ domain seqId stamp state
    twoStep delay d) := by
  unfold ptpMessageReceived
  dsimp -proj only
  refine Dev.keeps_ite ?_ ?_
  · exact Dev.keeps_refl _ _
  · refine Dev.keeps_ite ?_ ?_
    · refine Dev.keeps_step (by decide +kernel) (Dev.stampPtp_keeps ..) ?_
      exact Dev.keeps_refl _ _
    · split
      · refine Dev.keeps_step (by decide +kernel) (Dev.pathDelay_keeps ..) ?_
        refine Dev.keeps_step (by decide +kernel) (Dev.modPtp_keeps ..) ?_
        refine Dev.keeps_ite ?_ ?_
        · refine Dev.keeps_step (by decide +kernel) (Dev.cond_keeps ..) ?_
          refine Dev.keeps_set _ _ _ _ (by decide +kernel) ?_
          refine Dev.keeps_flag _ _ _ _ (by decide +kernel) ?_
          refine Dev.keeps_step (by decide +kernel) (Dev.stampPtp_keeps ..) ?_
          exact Dev.keeps_refl _ _
        · refine Dev.keeps_set _ _ _ _ (by decide +kernel) ?_
          refine Dev.keeps_flag _ _ _ _ (by decide +kernel) ?_
          refine Dev.keeps_step (by decide +kernel) (Dev.stampPtp_keeps ..) ?_
          exact Dev.keeps_refl _ _
      · refine Dev.keeps_step (by decide +kernel) (Dev.modPtp_keeps ..) ?_
        refine Dev.keeps_ite ?_ ?_
        · refine Dev.keeps_step (by decide +kernel) (Dev.cond_keeps ..) ?_
          refine Dev.keeps_set _ _ _ _ (by decide +kernel) ?_
          refine Dev.keeps_flag _ _ _ _ (by decide +kernel) ?_
          refine Dev.keeps_step (by decide +kernel) (Dev.stampPtp_keeps ..) ?_
          exact Dev.keeps_refl _ _
        · refine Dev.keeps_set _ _ _ _ (by decide +kernel) ?_
          refine Dev.keeps_flag _ _ _ _ (by decide +kernel) ?_
          refine Dev.keeps_step (by decide +kernel) (Dev.stampPtp_keeps ..) ?_
          exact Dev.keeps_refl _ _

theorem ptpMessageSend_keeps (p : Nat) (typ : Nat) (stamp : Nat) (d : Dev) : Dev.keeps ⟨[.out, .tb], [F.TB_PTP_PORT_W0_QLOST], []⟩ d
    (ptpMessageSend p typ stamp d) := by
  unfold ptpMessageSend
  dsimp -proj only
  refine Dev.keeps_ite ?_ ?_
  · exact Dev.keeps_refl _ _
  · refine Dev.keeps_ite ?_ ?_
    · split
      · exact Dev.keeps_refl _ _
      · refine Dev.keeps_step (by decide +kernel) (Dev.sendPtp_keeps ..) ?_
        refine Dev.keeps_step (by decide +kernel) (Dev.modPtp_keeps ..) ?_
        exact Dev.keeps_refl _ _
    · refine Dev.keeps_step (by decide +kernel) (Dev.sendPtp_keeps ..) ?_
      refine Dev.keeps_step (by decide +kernel) (Dev.modPtp_keeps ..) ?_
      exact Dev.keeps_refl _ _

theorem ptpOffset_keeps (p : Nat) (theta : Int) (d : Dev) : Dev.keeps ⟨[.out, .clk, .grps, .tb, .fc, .host], [F.FC_COND_COND,
    F.GL_READY_PTP, F.HC_IRQ_STAT_STAT, F.TB_ADJ_CMD_BUSY, F.TB_HOLD_SECONDS, F.TB_OFFSET_OFFSET, F.TB_SERVO_DEFERRED,
    F.TB_SERVO_FREQ_SAT, F.TB_SERVO_OFFSET_RAISED, F.TB_SERVO_SLAVE_PORT, F.TB_SERVO_SLEWING, F.TB_SERVO_STATE, F.TB_SLEW_LEFT_LEFT,
    F.TB_STATUS_PPS_TRACE, F.TB_STATUS_STEPS, F.TB_STATUS_SV_SUSPECT, F.TB_STATUS_TIME_SUSPECT, F.TB_TIO_W3_EDGES, F.TB_TIO_W3_LEVEL_NOW,
    F.TB_TIO_W3_PENDING], []⟩ d (ptpOffset p theta d) := by
  unfold ptpOffset
  dsimp -proj only
  refine Dev.keeps_ite ?_ ?_
  · exact Dev.keeps_refl _ _
  · refine Dev.keeps_ite ?_ ?_
    · refine Dev.keeps_ite ?_ ?_
      · refine Dev.keeps_flag _ _ _ _ (by decide +kernel) ?_
        refine Dev.keeps_step (by decide +kernel) (Dev.raise_keeps ..) ?_
        refine Dev.keeps_set _ _ _ _ (by decide +kernel) ?_
        refine Dev.keeps_setI _ _ _ _ (by decide +kernel) ?_
        refine Dev.keeps_step (by decide +kernel) (Dev.modPtp_keeps ..) ?_
        exact Dev.keeps_refl _ _
      · refine Dev.keeps_set _ _ _ _ (by decide +kernel) ?_
        refine Dev.keeps_setI _ _ _ _ (by decide +kernel) ?_
        refine Dev.keeps_step (by decide +kernel) (Dev.modPtp_keeps ..) ?_
        exact Dev.keeps_refl _ _
    · refine Dev.keeps_ite ?_ ?_
      · refine Dev.keeps_step (by decide +kernel) (Dev.setServo_keeps ..) ?_
        refine Dev.keeps_tb _ (by decide +kernel) ?_
        refine Dev.keeps_ite ?_ ?_
        · refine Dev.keeps_step (by decide +kernel) (Dev.stepTime_keeps ..) ?_
          refine Dev.keeps_flag _ _ _ _ (by decide +kernel) ?_
          refine Dev.keeps_step (by decide +kernel) (Dev.refreshTrace_keeps ..) ?_
          refine Dev.keeps_ite ?_ ?_
          · refine Dev.keeps_flag _ _ _ _ (by decide +kernel) ?_
            refine Dev.keeps_tb _ (by decide +kernel) ?_
            refine Dev.keeps_step (by decide +kernel) (Dev.setServo_keeps ..) ?_
            refine Dev.keeps_ite ?_ ?_
            · refine Dev.keeps_flag _ _ _ _ (by decide +kernel) ?_
              refine Dev.keeps_step (by decide +kernel) (Dev.raise_keeps ..) ?_
              refine Dev.keeps_set _ _ _ _ (by decide +kernel) ?_
              refine Dev.keeps_setI _ _ _ _ (by decide +kernel) ?_
              refine Dev.keeps_step (by decide +kernel) (Dev.modPtp_keeps ..) ?_
              exact Dev.keeps_refl _ _
            · refine Dev.keeps_set _ _ _ _ (by decide +kernel) ?_
              refine Dev.keeps_setI _ _ _ _ (by decide +kernel) ?_
              refine Dev.keeps_step (by decide +kernel) (Dev.modPtp_keeps ..) ?_
              exact Dev.keeps_refl _ _
          · refine Dev.keeps_ite ?_ ?_
            · refine Dev.keeps_flag _ _ _ _ (by decide +kernel) ?_
              refine Dev.keeps_tb _ (by decide +kernel) ?_
              refine Dev.keeps_step (by decide +kernel) (Dev.setServo_keeps ..) ?_
              refine Dev.keeps_ite ?_ ?_
              · refine Dev.keeps_flag _ _ _ _ (by decide +kernel) ?_
                refine Dev.keeps_step (by decide +kernel) (Dev.raise_keeps ..) ?_
                refine Dev.keeps_set _ _ _ _ (by decide +kernel) ?_
                refine Dev.keeps_setI _ _ _ _ (by decide +kernel) ?_
                refine Dev.keeps_step (by decide +kernel) (Dev.modPtp_keeps ..) ?_
                exact Dev.keeps_refl _ _
              · refine Dev.keeps_set _ _ _ _ (by decide +kernel) ?_
                refine Dev.keeps_setI _ _ _ _ (by decide +kernel) ?_
                refine Dev.keeps_step (by decide +kernel) (Dev.modPtp_keeps ..) ?_
                exact Dev.keeps_refl _ _
            · refine Dev.keeps_tb _ (by decide +kernel) ?_
              refine Dev.keeps_step (by decide +kernel) (Dev.setServo_keeps ..) ?_
              refine Dev.keeps_ite ?_ ?_
              · refine Dev.keeps_flag _ _ _ _ (by decide +kernel) ?_
                refine Dev.keeps_step (by decide +kernel) (Dev.raise_keeps ..) ?_
                refine Dev.keeps_set _ _ _ _ (by decide +kernel) ?_
                refine Dev.keeps_setI _ _ _ _ (by decide +kernel) ?_
                refine Dev.keeps_step (by decide +kernel) (Dev.modPtp_keeps ..) ?_
                exact Dev.keeps_refl _ _
              · refine Dev.keeps_set _ _ _ _ (by decide +kernel) ?_
                refine Dev.keeps_setI _ _ _ _ (by decide +kernel) ?_
                refine Dev.keeps_step (by decide +kernel) (Dev.modPtp_keeps ..) ?_
                exact Dev.keeps_refl _ _
        · refine Dev.keeps_step (by decide +kernel) (Dev.askFreq_keeps ..) ?_
          refine Dev.keeps_step (by decide +kernel) (Dev.setSlew_keeps ..) ?_
          refine Dev.keeps_flag _ _ _ _ (by decide +kernel) ?_
          refine Dev.keeps_step (by decide +kernel) (Dev.refreshTrace_keeps ..) ?_
          refine Dev.keeps_ite ?_ ?_
          · refine Dev.keeps_flag _ _ _ _ (by decide +kernel) ?_
            refine Dev.keeps_tb _ (by decide +kernel) ?_
            refine Dev.keeps_step (by decide +kernel) (Dev.setServo_keeps ..) ?_
            refine Dev.keeps_ite ?_ ?_
            · refine Dev.keeps_flag _ _ _ _ (by decide +kernel) ?_
              refine Dev.keeps_step (by decide +kernel) (Dev.raise_keeps ..) ?_
              refine Dev.keeps_set _ _ _ _ (by decide +kernel) ?_
              refine Dev.keeps_setI _ _ _ _ (by decide +kernel) ?_
              refine Dev.keeps_step (by decide +kernel) (Dev.modPtp_keeps ..) ?_
              exact Dev.keeps_refl _ _
            · refine Dev.keeps_set _ _ _ _ (by decide +kernel) ?_
              refine Dev.keeps_setI _ _ _ _ (by decide +kernel) ?_
              refine Dev.keeps_step (by decide +kernel) (Dev.modPtp_keeps ..) ?_
              exact Dev.keeps_refl _ _
          · refine Dev.keeps_ite ?_ ?_
            · refine Dev.keeps_flag _ _ _ _ (by decide +kernel) ?_
              refine Dev.keeps_tb _ (by decide +kernel) ?_
              refine Dev.keeps_step (by decide +kernel) (Dev.setServo_keeps ..) ?_
              refine Dev.keeps_ite ?_ ?_
              · refine Dev.keeps_flag _ _ _ _ (by decide +kernel) ?_
                refine Dev.keeps_step (by decide +kernel) (Dev.raise_keeps ..) ?_
                refine Dev.keeps_set _ _ _ _ (by decide +kernel) ?_
                refine Dev.keeps_setI _ _ _ _ (by decide +kernel) ?_
                refine Dev.keeps_step (by decide +kernel) (Dev.modPtp_keeps ..) ?_
                exact Dev.keeps_refl _ _
              · refine Dev.keeps_set _ _ _ _ (by decide +kernel) ?_
                refine Dev.keeps_setI _ _ _ _ (by decide +kernel) ?_
                refine Dev.keeps_step (by decide +kernel) (Dev.modPtp_keeps ..) ?_
                exact Dev.keeps_refl _ _
            · refine Dev.keeps_tb _ (by decide +kernel) ?_
              refine Dev.keeps_step (by decide +kernel) (Dev.setServo_keeps ..) ?_
              refine Dev.keeps_ite ?_ ?_
              · refine Dev.keeps_flag _ _ _ _ (by decide +kernel) ?_
                refine Dev.keeps_step (by decide +kernel) (Dev.raise_keeps ..) ?_
                refine Dev.keeps_set _ _ _ _ (by decide +kernel) ?_
                refine Dev.keeps_setI _ _ _ _ (by decide +kernel) ?_
                refine Dev.keeps_step (by decide +kernel) (Dev.modPtp_keeps ..) ?_
                exact Dev.keeps_refl _ _
              · refine Dev.keeps_set _ _ _ _ (by decide +kernel) ?_
                refine Dev.keeps_setI _ _ _ _ (by decide +kernel) ?_
                refine Dev.keeps_step (by decide +kernel) (Dev.modPtp_keeps ..) ?_
                exact Dev.keeps_refl _ _
      · refine Dev.keeps_ite ?_ ?_
        · refine Dev.keeps_step (by decide +kernel) (Dev.stepTime_keeps ..) ?_
          refine Dev.keeps_flag _ _ _ _ (by decide +kernel) ?_
          refine Dev.keeps_step (by decide +kernel) (Dev.refreshTrace_keeps ..) ?_
          refine Dev.keeps_ite ?_ ?_
          · refine Dev.keeps_flag _ _ _ _ (by decide +kernel) ?_
            refine Dev.keeps_tb _ (by decide +kernel) ?_
            refine Dev.keeps_step (by decide +kernel) (Dev.setServo_keeps ..) ?_
            refine Dev.keeps_ite ?_ ?_
            · refine Dev.keeps_flag _ _ _ _ (by decide +kernel) ?_
              refine Dev.keeps_step (by decide +kernel) (Dev.raise_keeps ..) ?_
              refine Dev.keeps_set _ _ _ _ (by decide +kernel) ?_
              refine Dev.keeps_setI _ _ _ _ (by decide +kernel) ?_
              refine Dev.keeps_step (by decide +kernel) (Dev.modPtp_keeps ..) ?_
              exact Dev.keeps_refl _ _
            · refine Dev.keeps_set _ _ _ _ (by decide +kernel) ?_
              refine Dev.keeps_setI _ _ _ _ (by decide +kernel) ?_
              refine Dev.keeps_step (by decide +kernel) (Dev.modPtp_keeps ..) ?_
              exact Dev.keeps_refl _ _
          · refine Dev.keeps_ite ?_ ?_
            · refine Dev.keeps_flag _ _ _ _ (by decide +kernel) ?_
              refine Dev.keeps_tb _ (by decide +kernel) ?_
              refine Dev.keeps_step (by decide +kernel) (Dev.setServo_keeps ..) ?_
              refine Dev.keeps_ite ?_ ?_
              · refine Dev.keeps_flag _ _ _ _ (by decide +kernel) ?_
                refine Dev.keeps_step (by decide +kernel) (Dev.raise_keeps ..) ?_
                refine Dev.keeps_set _ _ _ _ (by decide +kernel) ?_
                refine Dev.keeps_setI _ _ _ _ (by decide +kernel) ?_
                refine Dev.keeps_step (by decide +kernel) (Dev.modPtp_keeps ..) ?_
                exact Dev.keeps_refl _ _
              · refine Dev.keeps_set _ _ _ _ (by decide +kernel) ?_
                refine Dev.keeps_setI _ _ _ _ (by decide +kernel) ?_
                refine Dev.keeps_step (by decide +kernel) (Dev.modPtp_keeps ..) ?_
                exact Dev.keeps_refl _ _
            · refine Dev.keeps_tb _ (by decide +kernel) ?_
              refine Dev.keeps_step (by decide +kernel) (Dev.setServo_keeps ..) ?_
              refine Dev.keeps_ite ?_ ?_
              · refine Dev.keeps_flag _ _ _ _ (by decide +kernel) ?_
                refine Dev.keeps_step (by decide +kernel) (Dev.raise_keeps ..) ?_
                refine Dev.keeps_set _ _ _ _ (by decide +kernel) ?_
                refine Dev.keeps_setI _ _ _ _ (by decide +kernel) ?_
                refine Dev.keeps_step (by decide +kernel) (Dev.modPtp_keeps ..) ?_
                exact Dev.keeps_refl _ _
              · refine Dev.keeps_set _ _ _ _ (by decide +kernel) ?_
                refine Dev.keeps_setI _ _ _ _ (by decide +kernel) ?_
                refine Dev.keeps_step (by decide +kernel) (Dev.modPtp_keeps ..) ?_
                exact Dev.keeps_refl _ _
        · refine Dev.keeps_step (by decide +kernel) (Dev.askFreq_keeps ..) ?_
          refine Dev.keeps_step (by decide +kernel) (Dev.setSlew_keeps ..) ?_
          refine Dev.keeps_flag _ _ _ _ (by decide +kernel) ?_
          refine Dev.keeps_step (by decide +kernel) (Dev.refreshTrace_keeps ..) ?_
          refine Dev.keeps_ite ?_ ?_
          · refine Dev.keeps_flag _ _ _ _ (by decide +kernel) ?_
            refine Dev.keeps_tb _ (by decide +kernel) ?_
            refine Dev.keeps_step (by decide +kernel) (Dev.setServo_keeps ..) ?_
            refine Dev.keeps_ite ?_ ?_
            · refine Dev.keeps_flag _ _ _ _ (by decide +kernel) ?_
              refine Dev.keeps_step (by decide +kernel) (Dev.raise_keeps ..) ?_
              refine Dev.keeps_set _ _ _ _ (by decide +kernel) ?_
              refine Dev.keeps_setI _ _ _ _ (by decide +kernel) ?_
              refine Dev.keeps_step (by decide +kernel) (Dev.modPtp_keeps ..) ?_
              exact Dev.keeps_refl _ _
            · refine Dev.keeps_set _ _ _ _ (by decide +kernel) ?_
              refine Dev.keeps_setI _ _ _ _ (by decide +kernel) ?_
              refine Dev.keeps_step (by decide +kernel) (Dev.modPtp_keeps ..) ?_
              exact Dev.keeps_refl _ _
          · refine Dev.keeps_ite ?_ ?_
            · refine Dev.keeps_flag _ _ _ _ (by decide +kernel) ?_
              refine Dev.keeps_tb _ (by decide +kernel) ?_
              refine Dev.keeps_step (by decide +kernel) (Dev.setServo_keeps ..) ?_
              refine Dev.keeps_ite ?_ ?_
              · refine Dev.keeps_flag _ _ _ _ (by decide +kernel) ?_
                refine Dev.keeps_step (by decide +kernel) (Dev.raise_keeps ..) ?_
                refine Dev.keeps_set _ _ _ _ (by decide +kernel) ?_
                refine Dev.keeps_setI _ _ _ _ (by decide +kernel) ?_
                refine Dev.keeps_step (by decide +kernel) (Dev.modPtp_keeps ..) ?_
                exact Dev.keeps_refl _ _
              · refine Dev.keeps_set _ _ _ _ (by decide +kernel) ?_
                refine Dev.keeps_setI _ _ _ _ (by decide +kernel) ?_
                refine Dev.keeps_step (by decide +kernel) (Dev.modPtp_keeps ..) ?_
                exact Dev.keeps_refl _ _
            · refine Dev.keeps_tb _ (by decide +kernel) ?_
              refine Dev.keeps_step (by decide +kernel) (Dev.setServo_keeps ..) ?_
              refine Dev.keeps_ite ?_ ?_
              · refine Dev.keeps_flag _ _ _ _ (by decide +kernel) ?_
                refine Dev.keeps_step (by decide +kernel) (Dev.raise_keeps ..) ?_
                refine Dev.keeps_set _ _ _ _ (by decide +kernel) ?_
                refine Dev.keeps_setI _ _ _ _ (by decide +kernel) ?_
                refine Dev.keeps_step (by decide +kernel) (Dev.modPtp_keeps ..) ?_
                exact Dev.keeps_refl _ _
              · refine Dev.keeps_set _ _ _ _ (by decide +kernel) ?_
                refine Dev.keeps_setI _ _ _ _ (by decide +kernel) ?_
                refine Dev.keeps_step (by decide +kernel) (Dev.modPtp_keeps ..) ?_
                exact Dev.keeps_refl _ _

theorem setTime_keeps (x : Nat) (d : Dev) : Dev.keeps ⟨[.out, .clk, .grps, .tb], [F.HC_CTX_REFADDR_BAR2, F.HC_CTX_REFADDR_CAUSE,
    F.HC_CTX_REFADDR_OFFSET, F.HC_CTX_REFADDR_WRITE, F.HC_CTX_STAT_PARTIAL, F.HC_CTX_STAT_REFUSED, F.TB_ADJ_CMD_BUSY, F.TB_ADJ_CMD_RESULT,
    F.TB_SERVO_SLEWING, F.TB_SLEW_LEFT_LEFT, F.TB_STATUS_PPS_TRACE, F.TB_STATUS_STEPS, F.TB_STATUS_TIME_SUSPECT, F.TB_TIO_W3_EDGES,
    F.TB_TIO_W3_LEVEL_NOW, F.TB_TIO_W3_PENDING], []⟩ d (setTime x d) := by
  unfold setTime
  dsimp -proj only
  refine Dev.keeps_trans (Dev.adjCmd_keeps (by decide +kernel) _ _ _ _ ?_) ?_
  · intro _
    refine Dev.keeps_step (by decide +kernel) (Dev.stepTime_keeps ..) ?_
    exact Dev.keeps_refl _ _
  · exact Dev.keeps_refl _ _

theorem slew_keeps (x : Nat) (d : Dev) : Dev.keeps ⟨[.tb], [F.HC_CTX_REFADDR_BAR2, F.HC_CTX_REFADDR_CAUSE, F.HC_CTX_REFADDR_OFFSET,
    F.HC_CTX_REFADDR_WRITE, F.HC_CTX_STAT_PARTIAL, F.HC_CTX_STAT_REFUSED, F.TB_ADJ_CMD_RESULT, F.TB_SERVO_SLEWING, F.TB_SLEW_LEFT_LEFT],
    []⟩ d (slew x d) := by
  unfold slew
  refine Dev.keeps_trans (Dev.adjCmd_keeps (by decide +kernel) _ _ _ _ ?_) ?_
  · intro _
    refine Dev.keeps_step (by decide +kernel) (Dev.setSlew_keeps ..) ?_
    exact Dev.keeps_refl _ _
  · exact Dev.keeps_refl _ _

theorem stampQueueRead_keeps (x : Nat) (p : Nat) (d : Dev) : Dev.keeps ⟨[.out, .tb, .host], [F.HC_CTX_REFADDR_BAR2,
    F.HC_CTX_REFADDR_CAUSE, F.HC_CTX_REFADDR_OFFSET, F.HC_CTX_REFADDR_WRITE, F.HC_CTX_STAT_PARTIAL, F.HC_CTX_STAT_REFUSED], []⟩ d
    (stampQueueRead x p d) := by
  unfold stampQueueRead
  refine Dev.keeps_trans (Dev.hostRead_keeps (by decide +kernel) _ _ _ _ ?_) ?_
  · intro _; dsimp -proj only
    split
    · dsimp only
      refine Dev.keeps_step (by decide +kernel) (Dev.modCtx_keeps ..) ?_
      exact Dev.keeps_refl _ _
    · dsimp only
      refine Dev.keeps_step (by decide +kernel) (Dev.modCtx_keeps ..) ?_
      refine Dev.keeps_tb _ (by decide +kernel) ?_
      exact Dev.keeps_refl _ _
  · exact Dev.keeps_refl _ _

theorem stepNs_keeps (x : Nat) (d : Dev) : Dev.keeps ⟨[.out, .clk, .grps, .tb], [F.HC_CTX_REFADDR_BAR2, F.HC_CTX_REFADDR_CAUSE,
    F.HC_CTX_REFADDR_OFFSET, F.HC_CTX_REFADDR_WRITE, F.HC_CTX_STAT_PARTIAL, F.HC_CTX_STAT_REFUSED, F.TB_ADJ_CMD_BUSY, F.TB_ADJ_CMD_RESULT,
    F.TB_SERVO_SLEWING, F.TB_SLEW_LEFT_LEFT, F.TB_STATUS_PPS_TRACE, F.TB_STATUS_STEPS, F.TB_STATUS_TIME_SUSPECT, F.TB_TIO_W3_EDGES,
    F.TB_TIO_W3_LEVEL_NOW, F.TB_TIO_W3_PENDING], []⟩ d (stepNs x d) := by
  unfold stepNs
  refine Dev.keeps_trans (Dev.adjCmd_keeps (by decide +kernel) _ _ _ _ ?_) ?_
  · intro _
    refine Dev.keeps_step (by decide +kernel) (Dev.stepTime_keeps ..) ?_
    exact Dev.keeps_refl _ _
  · exact Dev.keeps_refl _ _

theorem tbPllLock_keeps (counts : List Nat) (d : Dev) : Dev.keeps ⟨[.out, .clk, .tb, .fc, .host], [F.FC_COND_COND, F.GL_READY_PTP,
    F.GL_READY_TIMEBASE, F.HC_IRQ_STAT_STAT, F.TB_HOLD_SECONDS, F.TB_PLL_DEV, F.TB_SERVO_DEFERRED, F.TB_SERVO_STATE,
    F.TB_STATUS_PLL_LOCKED, F.TB_STATUS_PPS_TRACE, F.TB_STATUS_SV_SUSPECT, F.TB_STATUS_TIME_SUSPECT], []⟩ d (tbPllLock counts d) := by
  unfold tbPllLock
  dsimp -proj only
  refine Dev.keeps_ite ?_ ?_
  · refine Dev.keeps_step (by decide +kernel) (Dev.setServo_keeps ..) ?_
    refine Dev.keeps_flag _ _ _ _ (by decide +kernel) ?_
    refine Dev.keeps_flag _ _ _ _ (by decide +kernel) ?_
    refine Dev.keeps_step (by decide +kernel) (Dev.cond_keeps ..) ?_
    refine Dev.keeps_flag _ _ _ _ (by decide +kernel) ?_
    refine Dev.keeps_flag _ _ _ _ (by decide +kernel) ?_
    refine Dev.keeps_setI _ _ _ _ (by decide +kernel) ?_
    refine Dev.keeps_ite ?_ ?_
    · refine Dev.keeps_mk (.inr rfl) (.inr rfl) (.inl (by decide +kernel)) (.inr rfl) (.inr rfl) (.inr rfl) (.inr rfl) (.inr rfl) (.inr rfl) (.inr rfl) (.inr rfl) (.inr rfl) (.inl (by decide +kernel)) (.inr rfl) (.inr rfl) (.inr rfl) (.inr rfl) (.inr rfl) ?_
      exact Dev.keeps_refl _ _
    · exact Dev.keeps_refl _ _
  · exact Dev.keeps_refl _ _

theorem tbPllLockLoss_keeps (count : Nat) (d : Dev) : Dev.keeps ⟨[.out, .cm, .fc, .sb, .host, .dma], [F.CM_CRS_DELIV_DELIV,
    F.CM_CRS_DELIV_WORST, F.CM_CRS_PT_FAILED, F.CM_CRS_STAT_FOUND, F.CM_CRS_STAT_F_WORKING, F.CM_CRS_STAT_H_WORKING,
    F.CM_CRS_STAT_IN_SERVICE, F.CM_CRS_STAT_STATE, F.CM_DIR_W0_EVQ, F.CM_DIR_W0_REASON, F.CM_DIR_W0_STATE, F.CM_LANE_CTL_BUSY,
    F.CM_LANE_CTL_RESULT, F.CM_LANE_STAT_CDR_LOCK, F.CM_LANE_STAT_LOOP, F.CM_LANE_STAT_LOOP_HOPS, F.CM_LANE_STAT_STATE,
    F.CM_LANE_STAT_TX_IDLE, F.DM_CH_DETAIL_PTFAIL, F.FC_COND_COND, F.GL_PT_ERR_W0_COUNT, F.GL_PT_ERR_W0_STATUS, F.GL_PT_ERR_W1_ADDRESS,
    F.GL_READY_TIMEBASE, F.GP_HARVEST_PB_FAIL, F.HC_IRQ_STAT_STAT, F.TB_LPLL_STAT_LOCKED, F.TB_LPLL_STAT_LOSSES, F.TB_LPLL_STAT_LOST,
    F.TB_PLL_DEV, F.TB_STATUS_PLL_LOCKED, F.TB_STATUS_PLL_LOST, F.TB_STATUS_PPS_TRACE, F.TB_STATUS_TIME_SUSPECT], []⟩ d (tbPllLockLoss
    count d) := by
  unfold tbPllLockLoss
  dsimp -proj only
  refine Dev.keeps_ite ?_ ?_
  · refine Dev.keeps_step (by decide +kernel) (Dev.cond_keeps ..) ?_
    refine Dev.keeps_each _ _ ?_ ?_
    · intro _ _
      refine Dev.keeps_step (by decide +kernel) (Dev.loseLpll_keeps ..) ?_
      exact Dev.keeps_refl _ _
    · refine Dev.keeps_ite ?_ ?_
      · refine Dev.keeps_sb _ (by decide +kernel) ?_
        refine Dev.keeps_step (by decide +kernel) (Dev.refreshTrace_keeps ..) ?_
        refine Dev.keeps_flag _ _ _ _ (by decide +kernel) ?_
        refine Dev.keeps_flag _ _ _ _ (by decide +kernel) ?_
        refine Dev.keeps_flag _ _ _ _ (by decide +kernel) ?_
        refine Dev.keeps_flag _ _ _ _ (by decide +kernel) ?_
        refine Dev.keeps_setI _ _ _ _ (by decide +kernel) ?_
        exact Dev.keeps_refl _ _
      · refine Dev.keeps_step (by decide +kernel) (Dev.refreshTrace_keeps ..) ?_
        refine Dev.keeps_flag _ _ _ _ (by decide +kernel) ?_
        refine Dev.keeps_flag _ _ _ _ (by decide +kernel) ?_
        refine Dev.keeps_flag _ _ _ _ (by decide +kernel) ?_
        refine Dev.keeps_flag _ _ _ _ (by decide +kernel) ?_
        refine Dev.keeps_setI _ _ _ _ (by decide +kernel) ?_
        exact Dev.keeps_refl _ _
  · refine Dev.keeps_setI _ _ _ _ (by decide +kernel) ?_
    exact Dev.keeps_refl _ _

theorem timeNowRead_keeps (x : Nat) (d : Dev) : Dev.keeps ⟨[.out, .host], [F.HC_CTX_REFADDR_BAR2, F.HC_CTX_REFADDR_CAUSE,
    F.HC_CTX_REFADDR_OFFSET, F.HC_CTX_REFADDR_WRITE, F.HC_CTX_STAT_PARTIAL, F.HC_CTX_STAT_REFUSED], []⟩ d (timeNowRead x d) := by
  unfold timeNowRead
  refine Dev.keeps_trans (Dev.hostRead_keeps (by decide +kernel) _ _ _ _ ?_) ?_
  · intro _
    dsimp only
    refine Dev.keeps_step (by decide +kernel) (Dev.modCtx_keeps ..) ?_
    exact Dev.keeps_refl _ _
  · exact Dev.keeps_refl _ _

theorem tioCommand_keeps (x : Nat) (n : Nat) (level : Bool) (sub : Nat) (tHi : Nat) (d : Dev) : Dev.keeps ⟨[.tb], [F.HC_CTX_REFADDR_BAR2,
    F.HC_CTX_REFADDR_CAUSE, F.HC_CTX_REFADDR_OFFSET, F.HC_CTX_REFADDR_WRITE, F.HC_CTX_STAT_PARTIAL, F.HC_CTX_STAT_REFUSED,
    F.TB_TIO_W3_PENDING, F.TB_TIO_W3_REPLACED, F.TB_TIO_W3_RESULT], []⟩ d (tioCommand x n level sub tHi d) := by
  unfold tioCommand
  dsimp -proj only
  refine Dev.keeps_trans (Dev.hostWrite_keeps (by decide +kernel) _ _ _ _ ?_) ?_
  · intro _
    refine Dev.keeps_ite ?_ ?_
    · refine Dev.keeps_set _ _ _ _ (by decide +kernel) ?_
      exact Dev.keeps_refl _ _
    · refine Dev.keeps_ite ?_ ?_
      · refine Dev.keeps_set _ _ _ _ (by decide +kernel) ?_
        exact Dev.keeps_refl _ _
      · refine Dev.keeps_set _ _ _ _ (by decide +kernel) ?_
        refine Dev.keeps_flag _ _ _ _ (by decide +kernel) ?_
        refine Dev.keeps_tb _ (by decide +kernel) ?_
        refine Dev.keeps_ite ?_ ?_
        · refine Dev.keeps_count _ _ _ (by decide +kernel) ?_
          exact Dev.keeps_refl _ _
        · exact Dev.keeps_refl _ _
  · exact Dev.keeps_refl _ _

theorem tioEdge_keeps (n : Nat) (d : Dev) : Dev.keeps ⟨[.out, .tb], [F.TB_TIO_W3_EDGES, F.TB_TIO_W3_LEVEL_NOW, F.TB_TIO_W3_PENDING], []⟩ d
    (tioEdge n d) := by
  unfold tioEdge
  dsimp -proj only
  refine Dev.keeps_ite ?_ ?_
  · split
    · refine Dev.keeps_ite ?_ ?_
      · refine Dev.keeps_step (by decide +kernel) (Dev.firePending_keeps ..) ?_
        exact Dev.keeps_refl _ _
      · exact Dev.keeps_refl _ _
    · exact Dev.keeps_refl _ _
  · refine Dev.keeps_ite ?_ ?_
    · refine Dev.keeps_step (by decide +kernel) (Dev.setTio_keeps ..) ?_
      exact Dev.keeps_refl _ _
    · refine Dev.keeps_ite ?_ ?_
      · refine Dev.keeps_ite ?_ ?_
        · refine Dev.keeps_step (by decide +kernel) (Dev.setTio_keeps ..) ?_
          exact Dev.keeps_refl _ _
        · exact Dev.keeps_refl _ _
      · refine Dev.keeps_step (by decide +kernel) (Dev.setTio_keeps ..) ?_
        exact Dev.keeps_refl _ _

end Sys2Proof.Machine
end

