-- ==== Sys2Proof/Laws/KeepsIntake.lean ====
section
/-! SUPPORT. What the operations of Machine/Intake.lean may change at most, one lemma each. -/

namespace Sys2Proof.Machine

set_option Elab.async false

theorem Dev.takeCal_keeps (m : Nat) (d : Dev) : Dev.keeps ⟨[.si], [], []⟩ d (Dev.takeCal m d) := by
  unfold Dev.takeCal
  refine Dev.keeps_step (by decide +kernel) (Dev.modLm_keeps ..) ?_
  exact Dev.keeps_refl _ _

theorem Dev.contApply_keeps (m : Nat) (w : Nat) (edge : Nat) (d : Dev) : Dev.keeps ⟨[.si], [F.LM_CONT_N_N, F.LM_CONT_T0_T0], []⟩ d
    (Dev.contApply m w edge d) := by
  unfold Dev.contApply
  dsimp -proj only
  refine Dev.keeps_set _ _ _ _ (by decide +kernel) ?_
  refine Dev.keeps_set _ _ _ _ (by decide +kernel) ?_
  refine Dev.keeps_step (by decide +kernel) (Dev.modLm_keeps ..) ?_
  refine Dev.keeps_step (by decide +kernel) (Dev.takeCal_keeps ..) ?_
  exact Dev.keeps_refl _ _

theorem Dev.alignSub_keeps (g : Nat) (o : Int) (cut : Nat) (d : Dev) (sc : Nat × SvSub) : Dev.keeps ⟨[.si], [F.SI_SV_STAT_W0_AGE,
    F.SI_SV_VAL_W0_VALUE, F.SI_SV_VAL_W1_ALIGN, F.SI_SV_VAL_W1_FROZEN, F.SI_SV_VAL_W1_QUAL_BAD, F.SI_SV_VAL_W1_VALID], []⟩ d (Dev.alignSub
    g o cut d sc) := by
  unfold Dev.alignSub
  dsimp -proj only
  refine Dev.keeps_ite ?_ ?_
  · refine Dev.keeps_set _ _ _ _ (by decide +kernel) ?_
    refine Dev.keeps_each _ _ ?_ ?_
    · intro _ _
      refine Dev.keeps_ite ?_ ?_
      · refine Dev.keeps_flag _ _ _ _ (by decide +kernel) ?_
        refine Dev.keeps_flag _ _ _ _ (by decide +kernel) ?_
        refine Dev.keeps_flag _ _ _ _ (by decide +kernel) ?_
        refine Dev.keeps_set _ _ _ _ (by decide +kernel) ?_
        refine Dev.keeps_setI _ _ _ _ (by decide +kernel) ?_
        refine Dev.keeps_step (by decide +kernel) (Dev.modSv_keeps ..) ?_
        exact Dev.keeps_refl _ _
      · refine Dev.keeps_step (by decide +kernel) (Dev.modSv_keeps ..) ?_
        exact Dev.keeps_refl _ _
    · exact Dev.keeps_refl _ _
  · refine Dev.keeps_each _ _ ?_ ?_
    · intro _ _
      refine Dev.keeps_ite ?_ ?_
      · refine Dev.keeps_flag _ _ _ _ (by decide +kernel) ?_
        refine Dev.keeps_flag _ _ _ _ (by decide +kernel) ?_
        refine Dev.keeps_flag _ _ _ _ (by decide +kernel) ?_
        refine Dev.keeps_set _ _ _ _ (by decide +kernel) ?_
        refine Dev.keeps_setI _ _ _ _ (by decide +kernel) ?_
        refine Dev.keeps_step (by decide +kernel) (Dev.modSv_keeps ..) ?_
        exact Dev.keeps_refl _ _
      · refine Dev.keeps_step (by decide +kernel) (Dev.modSv_keeps ..) ?_
        exact Dev.keeps_refl _ _
    · exact Dev.keeps_refl _ _

theorem Dev.asdu_keeps (s : Nat) (c : SvSub) (port : Nat) (a : Nat) (u : SvAsdu) (d : Dev) : Dev.keeps ⟨[.si, .fc], [F.FC_COND_COND,
    F.SI_SV_STAT_W0_PORT, F.SI_SV_STAT_W0_STATE, F.SI_SV_STAT_W1_DISAGREE, F.SI_SV_STAT_W1_DUPLICATE, F.SI_SV_STAT_W1_GAPS,
    F.SI_SV_STAT_W1_REJECTED], []⟩ d (Dev.asdu s c port a u d) := by
  unfold Dev.asdu
  dsimp -proj only
  refine Dev.keeps_ite ?_ ?_
  · refine Dev.keeps_count _ _ _ (by decide +kernel) ?_
    exact Dev.keeps_refl _ _
  · split
    · refine Dev.keeps_ite ?_ ?_
      · refine Dev.keeps_count _ _ _ (by decide +kernel) ?_
        exact Dev.keeps_refl _ _
      · refine Dev.keeps_count _ _ _ (by decide +kernel) ?_
        refine Dev.keeps_count _ _ _ (by decide +kernel) ?_
        exact Dev.keeps_refl _ _
    · refine Dev.keeps_ite ?_ ?_
      · refine Dev.keeps_ite ?_ ?_
        · refine Dev.keeps_step (by decide +kernel) (Dev.modSv_keeps ..) ?_
          refine Dev.keeps_addTo _ _ _ _ (by decide +kernel) ?_
          exact Dev.keeps_refl _ _
        · refine Dev.keeps_set _ _ _ _ (by decide +kernel) ?_
          refine Dev.keeps_step (by decide +kernel) (Dev.modSv_keeps ..) ?_
          refine Dev.keeps_addTo _ _ _ _ (by decide +kernel) ?_
          exact Dev.keeps_refl _ _
      · refine Dev.keeps_step (by decide +kernel) (Dev.cond_keeps ..) ?_
        refine Dev.keeps_set _ _ _ _ (by decide +kernel) ?_
        refine Dev.keeps_set _ _ _ _ (by decide +kernel) ?_
        refine Dev.keeps_step (by decide +kernel) (Dev.modSv_keeps ..) ?_
        refine Dev.keeps_addTo _ _ _ _ (by decide +kernel) ?_
        exact Dev.keeps_refl _ _

theorem Dev.calCmd_keeps {S : Scope} (hS : Scope.le ⟨[], [F.HC_CTX_REFADDR_BAR2, F.HC_CTX_REFADDR_CAUSE, F.HC_CTX_REFADDR_OFFSET,
    F.HC_CTX_REFADDR_WRITE, F.HC_CTX_STAT_PARTIAL, F.HC_CTX_STAT_REFUSED, F.LM_CAL_CMD_RESULT], []⟩ S = true) (x : Nat) (m : Nat) (range :
    Bool) (order : Bool) (f : Dev → Dev) (d : Dev) (hf : ∀ (x0 : Dev), Dev.keeps S x0 (f x0)) : Dev.keeps S d (Dev.calCmd x m range order
    f d) := by
  unfold Dev.calCmd
  dsimp -proj only
  refine Dev.keeps_trans (Dev.hostWrite_keeps (Scope.le_trans (by decide +kernel) hS) _ _ _ _ ?_) ?_
  · intro _
    refine Dev.keeps_ite ?_ ?_
    · refine Dev.keeps_set _ _ _ _ (Scope.le_fld (by decide +kernel) hS) ?_
      exact Dev.keeps_refl _ _
    · refine Dev.keeps_trans (hf _) ?_
      refine Dev.keeps_set _ _ _ _ (Scope.le_fld (by decide +kernel) hS) ?_
      exact Dev.keeps_refl _ _
  · exact Dev.keeps_refl _ _

theorem Dev.contDue_keeps (m : Nat) (d : Dev) : Dev.keeps ⟨[.si], [F.LM_CONT_N_N, F.LM_CONT_T0_T0], []⟩ d (Dev.contDue m d) := by
  unfold Dev.contDue
  split
  · refine Dev.keeps_ite ?_ ?_
    · refine Dev.keeps_step (by decide +kernel) (Dev.contApply_keeps ..) ?_
      exact Dev.keeps_refl _ _
    · exact Dev.keeps_refl _ _
  · exact Dev.keeps_refl _ _

theorem Dev.markStale_keeps (m : Nat) (d : Dev) (first : Nat) : Dev.keeps ⟨[], [F.LM_RESULT_WORD], []⟩ d (Dev.markStale m d first) := by
  unfold Dev.markStale
  refine Dev.keeps_each _ _ ?_ ?_
  · intro _ _
    refine Dev.keeps_set _ _ _ _ (by decide +kernel) ?_
    exact Dev.keeps_refl _ _
  · exact Dev.keeps_refl _ _

theorem Dev.latchLm_keeps (g : Nat) (d : Dev) : Dev.keeps ⟨[.grps], [F.LM_RESULT_WORD], []⟩ d (Dev.latchLm g d) := by
  unfold Dev.latchLm
  dsimp -proj only
  refine Dev.keeps_ite ?_ ?_
  · refine Dev.keeps_step (by decide +kernel) (Dev.modGrp_keeps ..) ?_
    refine Dev.keeps_each _ _ ?_ ?_
    · intro _ _
      refine Dev.keeps_ite ?_ ?_
      · refine Dev.keeps_step (by decide +kernel) (Dev.markStale_keeps ..) ?_
        exact Dev.keeps_refl _ _
      · refine Dev.keeps_ite ?_ ?_
        · refine Dev.keeps_step (by decide +kernel) (Dev.markStale_keeps ..) ?_
          exact Dev.keeps_refl _ _
        · exact Dev.keeps_refl _ _
    · exact Dev.keeps_refl _ _
  · exact Dev.keeps_refl _ _

theorem Dev.latchLms_keeps (d : Dev) : Dev.keeps ⟨[.grps], [F.LM_RESULT_WORD], []⟩ d (Dev.latchLms d) := by
  unfold Dev.latchLms
  refine Dev.keeps_each _ _ ?_ ?_
  · intro _ _
    refine Dev.keeps_step (by decide +kernel) (Dev.latchLm_keeps ..) ?_
    exact Dev.keeps_refl _ _
  · exact Dev.keeps_refl _ _

theorem Dev.calStart_keeps (m : Nat) (step : Nat) (gain : Nat) (expect : Int) (d : Dev) : Dev.keeps ⟨[.grps, .si, .sb, .dma],
    [F.DM_CH_STAT_STATE, F.DM_FREE_FREE, F.LM_CAL_CMD_BUSY, F.LM_CONT_N_N, F.LM_CONT_T0_T0, F.LM_RESULT_WORD, F.LM_STAT_STATE], []⟩ d
    (Dev.calStart m step gain expect d) := by
  unfold Dev.calStart
  dsimp -proj only
  refine Dev.keeps_step (by decide +kernel) (Dev.withdraw_keeps ..) ?_
  refine Dev.keeps_step (by decide +kernel) (Dev.markStale_keeps ..) ?_
  refine Dev.keeps_set _ _ _ _ (by decide +kernel) ?_
  refine Dev.keeps_flag _ _ _ _ (by decide +kernel) ?_
  refine Dev.keeps_ite ?_ ?_
  · refine Dev.keeps_sb _ (by decide +kernel) ?_
    refine Dev.keeps_step (by decide +kernel) (Dev.modLm_keeps ..) ?_
    refine Dev.keeps_step (by decide +kernel) (Dev.contDue_keeps ..) ?_
    refine Dev.keeps_step (by decide +kernel) (Dev.latchLms_keeps ..) ?_
    exact Dev.keeps_refl _ _
  · refine Dev.keeps_step (by decide +kernel) (Dev.modLm_keeps ..) ?_
    refine Dev.keeps_step (by decide +kernel) (Dev.contDue_keeps ..) ?_
    refine Dev.keeps_step (by decide +kernel) (Dev.latchLms_keeps ..) ?_
    exact Dev.keeps_refl _ _

theorem Dev.giMember_keeps (vals : List GoValue) (d : Dev) (m : GoMember) : Dev.keeps ⟨[.si, .fc], [], []⟩ d (Dev.giMember vals d m) := by
  unfold Dev.giMember
  dsimp -proj only
  split
  · refine Dev.keeps_step (by decide +kernel) (Dev.giDefault_keeps ..) ?_
    exact Dev.keeps_refl _ _
  · refine Dev.keeps_ite ?_ ?_
    · refine Dev.keeps_step (by decide +kernel) (Dev.raise_keeps ..) ?_
      refine Dev.keeps_step (by decide +kernel) (Dev.setGi_keeps ..) ?_
      exact Dev.keeps_refl _ _
    · refine Dev.keeps_step (by decide +kernel) (Dev.setGi_keeps ..) ?_
      exact Dev.keeps_refl _ _

theorem Dev.gooseFor_keeps (port : Nat) (m : GooseMsg) (d : Dev) (sc : Nat × GoSub) : Dev.keeps ⟨[.si, .fc], [F.FC_COND_COND,
    F.SI_GO_SUB_CONFREV_BAD, F.SI_GO_SUB_LOST, F.SI_GO_SUB_STNUM], []⟩ d (Dev.gooseFor port m d sc) := by
  unfold Dev.gooseFor
  dsimp -proj only
  refine Dev.keeps_ite ?_ ?_
  · exact Dev.keeps_refl _ _
  · refine Dev.keeps_ite ?_ ?_
    · refine Dev.keeps_flag _ _ _ _ (by decide +kernel) ?_
      exact Dev.keeps_refl _ _
    · refine Dev.keeps_ite ?_ ?_
      · exact Dev.keeps_refl _ _
      · refine Dev.keeps_ite ?_ ?_
        · refine Dev.keeps_step (by decide +kernel) (Dev.cond_keeps ..) ?_
          refine Dev.keeps_flag _ _ _ _ (by decide +kernel) ?_
          refine Dev.keeps_step (by decide +kernel) (Dev.modGoose_keeps ..) ?_
          exact Dev.keeps_refl _ _
        · refine Dev.keeps_ite ?_ ?_
          · exact Dev.keeps_refl _ _
          · refine Dev.keeps_ite ?_ ?_
            · refine Dev.keeps_foldl _ _ ?_ ?_
              · intro _ _
                refine Dev.keeps_step (by decide +kernel) (Dev.giMember_keeps ..) ?_
                exact Dev.keeps_refl _ _
              · refine Dev.keeps_step (by decide +kernel) (Dev.cond_keeps ..) ?_
                refine Dev.keeps_flag _ _ _ _ (by decide +kernel) ?_
                refine Dev.keeps_set _ _ _ _ (by decide +kernel) ?_
                refine Dev.keeps_step (by decide +kernel) (Dev.modGoose_keeps ..) ?_
                exact Dev.keeps_refl _ _
            · refine Dev.keeps_step (by decide +kernel) (Dev.cond_keeps ..) ?_
              refine Dev.keeps_flag _ _ _ _ (by decide +kernel) ?_
              refine Dev.keeps_set _ _ _ _ (by decide +kernel) ?_
              refine Dev.keeps_step (by decide +kernel) (Dev.modGoose_keeps ..) ?_
              exact Dev.keeps_refl _ _

theorem Dev.lmEntry_keeps (m : Nat) (raws : List (List Int)) (d : Dev) (ie : Nat × LmEntry) : Dev.keeps ⟨[.si], [F.LM_RESULT_WORD], []⟩ d
    (Dev.lmEntry m raws d ie) := by
  unfold Dev.lmEntry
  dsimp -proj only
  refine Dev.keeps_ite ?_ ?_
  · exact Dev.keeps_refl _ _
  · refine Dev.keeps_set _ _ _ _ (by decide +kernel) ?_
    refine Dev.keeps_step (by decide +kernel) (Dev.modLm_keeps ..) ?_
    exact Dev.keeps_refl _ _

theorem Dev.portTakes_keeps {S : Scope} (hS : Scope.le ⟨[], [F.SI_PORT_FCS_ERR, F.SI_PORT_SEC_REJ], []⟩ S = true) (port : Nat) (secLen :
    Nat) (badFcs : Bool) (f : Dev → Dev) (d : Dev) (hf : ∀ (x0 : Dev), Dev.keeps S x0 (f x0)) : Dev.keeps S d (Dev.portTakes port secLen
    badFcs f d) := by
  unfold Dev.portTakes
  refine Dev.keeps_ite ?_ ?_
  · exact Dev.keeps_refl _ _
  · refine Dev.keeps_ite ?_ ?_
    · refine Dev.keeps_count _ _ _ (Scope.le_fld (by decide +kernel) hS) ?_
      exact Dev.keeps_refl _ _
    · refine Dev.keeps_ite ?_ ?_
      · refine Dev.keeps_count _ _ _ (Scope.le_fld (by decide +kernel) hS) ?_
        exact Dev.keeps_refl _ _
      · refine Dev.keeps_trans (hf _) ?_
        exact Dev.keeps_refl _ _

theorem Dev.publish_keeps (n : Nat) (p : GoPub) (st : Nat) (sq : Nat) (interval : Nat) (items : List Nat) (d : Dev) : Dev.keeps ⟨[.out,
    .si], [F.SI_GO_PUB_STNUM], []⟩ d (Dev.publish n p st sq interval items d) := by
  unfold Dev.publish
  dsimp -proj only
  refine Dev.keeps_set _ _ _ _ (by decide +kernel) ?_
  refine Dev.keeps_step (by decide +kernel) (Dev.emit_keeps ..) ?_
  refine Dev.keeps_si _ (by decide +kernel) ?_
  exact Dev.keeps_refl _ _

theorem Dev.putCont_keeps (m v : Nat) (hm : m < 4) (d : Dev) : Dev.keeps ⟨[.store], [F.LM_CONT_DECIM, F.LM_CONT_EN, F.LM_CONT_GAIN, F.LM_CONT_INPUT, F.MO_JOURNAL_FILL, F.MO_JOURNAL_PENDING], []⟩ d (Dev.putCont m v d) := by
  have h : ∀ m < 4, ((findReg regTable (0x7000C + 0x100 * m)).all fun r => r.reg.fields.all fun fd => decide (fd.acc ≠ .rw) ||
      Scope.covers ⟨[.store], [F.LM_CONT_DECIM, F.LM_CONT_EN, F.LM_CONT_GAIN, F.LM_CONT_INPUT, F.MO_JOURNAL_FILL, F.MO_JOURNAL_PENDING], []⟩ fd.fld) = true := by
    decide +kernel
  have h := h m hm
  unfold Dev.putCont
  split
  · next r hr => rw [hr] at h; exact Dev.writeReg_keeps (by decide +kernel) _ _ _ _ h
  · exact Dev.keeps_refl _ _

theorem Dev.startRun_keeps (m : Nat) (a1 : Nat) (d : Dev) : Dev.keeps ⟨[.grps, .si], [F.LM_RESULT_WORD, F.LM_STAT_OVERRUN,
    F.LM_STAT_STATE], []⟩ d (Dev.startRun m a1 d) := by
  unfold Dev.startRun
  dsimp -proj only
  refine Dev.keeps_ite ?_ ?_
  · refine Dev.keeps_step (by decide +kernel) (Dev.latchLms_keeps ..) ?_
    exact Dev.keeps_refl _ _
  · refine Dev.keeps_ite ?_ ?_
    · refine Dev.keeps_step (by decide +kernel) (Dev.markStale_keeps ..) ?_
      refine Dev.keeps_step (by decide +kernel) (Dev.latchLms_keeps ..) ?_
      exact Dev.keeps_refl _ _
    · refine Dev.keeps_ite ?_ ?_
      · refine Dev.keeps_count _ _ _ (by decide +kernel) ?_
        refine Dev.keeps_step (by decide +kernel) (Dev.latchLms_keeps ..) ?_
        exact Dev.keeps_refl _ _
      · refine Dev.keeps_set _ _ _ _ (by decide +kernel) ?_
        refine Dev.keeps_step (by decide +kernel) (Dev.modLm_keeps ..) ?_
        refine Dev.keeps_ite ?_ ?_
        · refine Dev.keeps_step (by decide +kernel) (Dev.latchLms_keeps ..) ?_
          exact Dev.keeps_refl _ _
        · refine Dev.keeps_step (by decide +kernel) (Dev.takeCal_keeps ..) ?_
          refine Dev.keeps_step (by decide +kernel) (Dev.latchLms_keeps ..) ?_
          exact Dev.keeps_refl _ _

theorem Dev.storeCal_keeps (m : Nat) (g : Nat) (ofs : Int) (gc : Nat) (d : Dev) : Dev.keeps ⟨[.store, .si], [F.LM_CAL_GCORR, F.LM_CAL_OFS,
    F.LM_CONT_N_N, F.LM_CONT_T0_T0, F.MO_JOURNAL_FILL, F.MO_JOURNAL_PENDING], []⟩ d (Dev.storeCal m g ofs gc d) := by
  unfold Dev.storeCal
  dsimp -proj only
  refine Dev.keeps_ite ?_ ?_
  · refine Dev.keeps_step (by decide +kernel) (Dev.modLm_keeps ..) ?_
    refine Dev.keeps_step (by decide +kernel) (Dev.journal_keeps ..) ?_
    refine Dev.keeps_set _ _ _ _ (by decide +kernel) ?_
    refine Dev.keeps_setI _ _ _ _ (by decide +kernel) ?_
    refine Dev.keeps_step (by decide +kernel) (Dev.contDue_keeps ..) ?_
    exact Dev.keeps_refl _ _
  · refine Dev.keeps_step (by decide +kernel) (Dev.journal_keeps ..) ?_
    refine Dev.keeps_set _ _ _ _ (by decide +kernel) ?_
    refine Dev.keeps_setI _ _ _ _ (by decide +kernel) ?_
    refine Dev.keeps_step (by decide +kernel) (Dev.contDue_keeps ..) ?_
    exact Dev.keeps_refl _ _

theorem Dev.svFenced_keeps (s : Nat) (c : SvSub) (mine : List SvAsdu) (d : Dev) : Dev.keeps ⟨[.si, .fc], [F.FC_COND_COND], []⟩ d
    (Dev.svFenced s c mine d) := by
  unfold Dev.svFenced
  refine Dev.keeps_ite ?_ ?_
  · refine Dev.keeps_step (by decide +kernel) (Dev.cond_keeps ..) ?_
    refine Dev.keeps_step (by decide +kernel) (Dev.modSv_keeps ..) ?_
    exact Dev.keeps_refl _ _
  · exact Dev.keeps_refl _ _

theorem Dev.svFor_keeps (port : Nat) (a : Nat) (fr : SvFrame) (d : Dev) (sc : Nat × SvSub) : Dev.keeps ⟨[.si, .fc], [F.FC_COND_COND,
    F.SI_SV_STAT_W0_CONFREV_BAD, F.SI_SV_STAT_W0_PORT, F.SI_SV_STAT_W0_STATE, F.SI_SV_STAT_W1_DISAGREE, F.SI_SV_STAT_W1_DUPLICATE,
    F.SI_SV_STAT_W1_GAPS, F.SI_SV_STAT_W1_REJECTED], []⟩ d (Dev.svFor port a fr d sc) := by
  unfold Dev.svFor
  dsimp -proj only
  refine Dev.keeps_ite ?_ ?_
  · exact Dev.keeps_refl _ _
  · refine Dev.keeps_ite ?_ ?_
    · refine Dev.keeps_flag _ _ _ _ (by decide +kernel) ?_
      exact Dev.keeps_refl _ _
    · refine Dev.keeps_ite ?_ ?_
      · refine Dev.keeps_step (by decide +kernel) (Dev.svFenced_keeps ..) ?_
        exact Dev.keeps_refl _ _
      · refine Dev.keeps_foldl _ _ ?_ ?_
        · intro _ _
          refine Dev.keeps_step (by decide +kernel) (Dev.asdu_keeps ..) ?_
          exact Dev.keeps_refl _ _
        · exact Dev.keeps_refl _ _

theorem evtEdge_keeps (n : Nat) (rising : Bool) (ago : Nat) (d : Dev) : Dev.keeps ⟨[.grps, .si, .tb], [F.LM_RESULT_WORD,
    F.LM_STAT_OVERRUN, F.LM_STAT_STATE, F.TB_EVT_STAT_FILL, F.TB_EVT_STAT_LEVEL, F.TB_EVT_STAT_OVERFLOW], []⟩ d (evtEdge n rising ago d)
    := by
  unfold evtEdge
  dsimp -proj only
  refine Dev.keeps_ite ?_ ?_
  · exact Dev.keeps_refl _ _
  · refine Dev.keeps_ite ?_ ?_
    · refine Dev.keeps_flag _ _ _ _ (by decide +kernel) ?_
      exact Dev.keeps_refl _ _
    · refine Dev.keeps_ite ?_ ?_
      · refine Dev.keeps_each _ _ ?_ ?_
        · intro _ _
          refine Dev.keeps_step (by decide +kernel) (Dev.startRun_keeps ..) ?_
          exact Dev.keeps_refl _ _
        · refine Dev.keeps_step (by decide +kernel) (Dev.acceptEdge_keeps ..) ?_
          refine Dev.keeps_flag _ _ _ _ (by decide +kernel) ?_
          exact Dev.keeps_refl _ _
      · refine Dev.keeps_step (by decide +kernel) (Dev.acceptEdge_keeps ..) ?_
        refine Dev.keeps_flag _ _ _ _ (by decide +kernel) ?_
        exact Dev.keeps_refl _ _

theorem gooseLost_keeps (n : Nat) (d : Dev) : Dev.keeps ⟨[.si, .fc], [F.FC_COND_COND, F.SI_GO_SUB_LOST, F.SI_GO_SUB_LOST_RAISED], []⟩ d
    (gooseLost n d) := by
  unfold gooseLost
  dsimp -proj only
  split
  · exact Dev.keeps_refl _ _
  · refine Dev.keeps_ite ?_ ?_
    · refine Dev.keeps_step (by decide +kernel) (Dev.cond_keeps ..) ?_
      refine Dev.keeps_flag _ _ _ _ (by decide +kernel) ?_
      refine Dev.keeps_flag _ _ _ _ (by decide +kernel) ?_
      refine Dev.keeps_foldl _ _ ?_ ?_
      · intro _ _
        refine Dev.keeps_step (by decide +kernel) (Dev.giDefault_keeps ..) ?_
        exact Dev.keeps_refl _ _
      · refine Dev.keeps_step (by decide +kernel) (Dev.modGoose_keeps ..) ?_
        exact Dev.keeps_refl _ _
    · exact Dev.keeps_refl _ _

theorem goosePubEvaluation_keeps (d : Dev) : Dev.keeps ⟨[.out, .si], [F.SI_GO_PUB_STNUM], []⟩ d (goosePubEvaluation d) := by
  unfold goosePubEvaluation
  dsimp -proj only
  refine Dev.keeps_ite ?_ ?_
  · exact Dev.keeps_refl _ _
  · refine Dev.keeps_foldl _ _ ?_ ?_
    · intro _ _
      refine Dev.keeps_ite ?_ ?_
      · refine Dev.keeps_step (by decide +kernel) (Dev.publish_keeps ..) ?_
        exact Dev.keeps_refl _ _
      · refine Dev.keeps_ite ?_ ?_
        · exact Dev.keeps_refl _ _
        · refine Dev.keeps_step (by decide +kernel) (Dev.publish_keeps ..) ?_
          exact Dev.keeps_refl _ _
    · exact Dev.keeps_refl _ _

theorem gooseReceived_keeps (port : Nat) (m : GooseMsg) (d : Dev) : Dev.keeps ⟨[.si, .fc], [F.FC_COND_COND, F.SI_GO_SUB_CONFREV_BAD,
    F.SI_GO_SUB_LOST, F.SI_GO_SUB_STNUM, F.SI_PORT_FCS_ERR, F.SI_PORT_SEC_REJ], []⟩ d (gooseReceived port m d) := by
  unfold gooseReceived
  refine Dev.keeps_trans (Dev.portTakes_keeps (by decide +kernel) _ _ _ _ _ ?_) ?_
  · intro _
    refine Dev.keeps_foldl _ _ ?_ ?_
    · intro _ _
      refine Dev.keeps_step (by decide +kernel) (Dev.gooseFor_keeps ..) ?_
      exact Dev.keeps_refl _ _
    · exact Dev.keeps_refl _ _
  · exact Dev.keeps_refl _ _

theorem gooseRetransmit_keeps (n : Nat) (d : Dev) : Dev.keeps ⟨[.out, .si], [F.SI_GO_PUB_STNUM], []⟩ d (gooseRetransmit n d) := by
  unfold gooseRetransmit
  dsimp -proj only
  split
  · exact Dev.keeps_refl _ _
  · refine Dev.keeps_ite ?_ ?_
    · exact Dev.keeps_refl _ _
    · refine Dev.keeps_step (by decide +kernel) (Dev.publish_keeps ..) ?_
      exact Dev.keeps_refl _ _

theorem intakeCutoff_keeps (g : Nat) (d : Dev) : Dev.keeps ⟨[.clk, .grps, .si], [F.LM_RESULT_WORD, F.SI_SV_STAT_W0_AGE,
    F.SI_SV_VAL_W0_VALUE, F.SI_SV_VAL_W1_ALIGN, F.SI_SV_VAL_W1_FROZEN, F.SI_SV_VAL_W1_QUAL_BAD, F.SI_SV_VAL_W1_VALID], []⟩ d (intakeCutoff
    g d) := by
  unfold intakeCutoff
  dsimp -proj only
  refine Dev.keeps_ite ?_ ?_
  · exact Dev.keeps_refl _ _
  · refine Dev.keeps_step (by decide +kernel) (Dev.latchLm_keeps ..) ?_
    refine Dev.keeps_foldl _ _ ?_ ?_
    · intro _ _
      refine Dev.keeps_step (by decide +kernel) (Dev.alignSub_keeps ..) ?_
      exact Dev.keeps_refl _ _
    · refine Dev.keeps_ite ?_ ?_
      · refine Dev.keeps_step (by decide +kernel) (Dev.elapse_keeps ..) ?_
        exact Dev.keeps_refl _ _
      · exact Dev.keeps_refl _ _

theorem intakeLocalmeasDmaReady_keeps (d : Dev) : Dev.keeps ⟨[.si], [F.GL_READY_DMA, F.GL_READY_INTAKE, F.GL_READY_LOCALMEAS,
    F.LM_CONT_N_N, F.LM_CONT_T0_T0], []⟩ d (intakeLocalmeasDmaReady d) := by
  unfold intakeLocalmeasDmaReady
  dsimp -proj only
  refine Dev.keeps_ite ?_ ?_
  · exact Dev.keeps_refl _ _
  · refine Dev.keeps_each _ _ ?_ ?_
    · intro _ _
      refine Dev.keeps_ite ?_ ?_
      · refine Dev.keeps_step (by decide +kernel) (Dev.contApply_keeps ..) ?_
        refine Dev.keeps_step (by decide +kernel) (Dev.takeCal_keeps ..) ?_
        exact Dev.keeps_refl _ _
      · refine Dev.keeps_step (by decide +kernel) (Dev.takeCal_keeps ..) ?_
        exact Dev.keeps_refl _ _
    · refine Dev.keeps_flag _ _ _ _ (by decide +kernel) ?_
      refine Dev.keeps_flag _ _ _ _ (by decide +kernel) ?_
      refine Dev.keeps_flag _ _ _ _ (by decide +kernel) ?_
      exact Dev.keeps_refl _ _

theorem lmCalFactory_keeps (x : Nat) (m : Nat) (gain : Nat) (d : Dev) : Dev.keeps ⟨[.store, .si], [F.HC_CTX_REFADDR_BAR2,
    F.HC_CTX_REFADDR_CAUSE, F.HC_CTX_REFADDR_OFFSET, F.HC_CTX_REFADDR_WRITE, F.HC_CTX_STAT_PARTIAL, F.HC_CTX_STAT_REFUSED,
    F.LM_CAL_CMD_RESULT, F.LM_CAL_GCORR, F.LM_CAL_OFS, F.LM_CONT_N_N, F.LM_CONT_T0_T0, F.MO_JOURNAL_FILL, F.MO_JOURNAL_PENDING], []⟩ d
    (lmCalFactory x m gain d) := by
  unfold lmCalFactory
  dsimp -proj only
  refine Dev.keeps_trans (Dev.calCmd_keeps (by decide +kernel) _ _ _ _ _ _ ?_) ?_
  · intro _
    refine Dev.keeps_step (by decide +kernel) (Dev.storeCal_keeps ..) ?_
    exact Dev.keeps_refl _ _
  · exact Dev.keeps_refl _ _

theorem lmCalFull_keeps (x : Nat) (m : Nat) (gain : Nat) (expect : Int) (d : Dev) : Dev.keeps ⟨[.grps, .si, .sb, .dma],
    [F.DM_CH_STAT_STATE, F.DM_FREE_FREE, F.HC_CTX_REFADDR_BAR2, F.HC_CTX_REFADDR_CAUSE, F.HC_CTX_REFADDR_OFFSET, F.HC_CTX_REFADDR_WRITE,
    F.HC_CTX_STAT_PARTIAL, F.HC_CTX_STAT_REFUSED, F.LM_CAL_CMD_BUSY, F.LM_CAL_CMD_RESULT, F.LM_CONT_N_N, F.LM_CONT_T0_T0,
    F.LM_RESULT_WORD, F.LM_STAT_STATE], []⟩ d (lmCalFull x m gain expect d) := by
  unfold lmCalFull
  refine Dev.keeps_trans (Dev.calCmd_keeps (by decide +kernel) _ _ _ _ _ _ ?_) ?_
  · intro _
    refine Dev.keeps_step (by decide +kernel) (Dev.calStart_keeps ..) ?_
    exact Dev.keeps_refl _ _
  · exact Dev.keeps_refl _ _

theorem lmCalStepComplete_keeps (m : Nat) (total : Int) (d : Dev) : Dev.keeps ⟨[.si], [F.LM_CAL_CMD_BUSY, F.LM_CAL_CMD_RESULT,
    F.LM_CAL_MEAS_MEAN, F.LM_STAT_STATE], []⟩ d (lmCalStepComplete m total d) := by
  unfold lmCalStepComplete
  dsimp -proj only
  split
  · refine Dev.keeps_ite ?_ ?_
    · exact Dev.keeps_refl _ _
    · refine Dev.keeps_ite ?_ ?_
      · refine Dev.keeps_ite ?_ ?_
        · refine Dev.keeps_set _ _ _ _ (by decide +kernel) ?_
          refine Dev.keeps_ite ?_ ?_
          · refine Dev.keeps_step (by decide +kernel) (Dev.modLm_keeps ..) ?_
            refine Dev.keeps_set _ _ _ _ (by decide +kernel) ?_
            refine Dev.keeps_flag _ _ _ _ (by decide +kernel) ?_
            refine Dev.keeps_step (by decide +kernel) (Dev.modLm_keeps ..) ?_
            refine Dev.keeps_setI _ _ _ _ (by decide +kernel) ?_
            exact Dev.keeps_refl _ _
          · refine Dev.keeps_set _ _ _ _ (by decide +kernel) ?_
            refine Dev.keeps_flag _ _ _ _ (by decide +kernel) ?_
            refine Dev.keeps_step (by decide +kernel) (Dev.modLm_keeps ..) ?_
            refine Dev.keeps_setI _ _ _ _ (by decide +kernel) ?_
            exact Dev.keeps_refl _ _
        · refine Dev.keeps_step (by decide +kernel) (Dev.modLm_keeps ..) ?_
          refine Dev.keeps_ite ?_ ?_
          · refine Dev.keeps_step (by decide +kernel) (Dev.modLm_keeps ..) ?_
            refine Dev.keeps_set _ _ _ _ (by decide +kernel) ?_
            refine Dev.keeps_flag _ _ _ _ (by decide +kernel) ?_
            refine Dev.keeps_step (by decide +kernel) (Dev.modLm_keeps ..) ?_
            refine Dev.keeps_setI _ _ _ _ (by decide +kernel) ?_
            exact Dev.keeps_refl _ _
          · refine Dev.keeps_set _ _ _ _ (by decide +kernel) ?_
            refine Dev.keeps_flag _ _ _ _ (by decide +kernel) ?_
            refine Dev.keeps_step (by decide +kernel) (Dev.modLm_keeps ..) ?_
            refine Dev.keeps_setI _ _ _ _ (by decide +kernel) ?_
            exact Dev.keeps_refl _ _
      · refine Dev.keeps_ite ?_ ?_
        · refine Dev.keeps_set _ _ _ _ (by decide +kernel) ?_
          refine Dev.keeps_ite ?_ ?_
          · refine Dev.keeps_step (by decide +kernel) (Dev.modLm_keeps ..) ?_
            refine Dev.keeps_set _ _ _ _ (by decide +kernel) ?_
            refine Dev.keeps_flag _ _ _ _ (by decide +kernel) ?_
            refine Dev.keeps_step (by decide +kernel) (Dev.modLm_keeps ..) ?_
            refine Dev.keeps_setI _ _ _ _ (by decide +kernel) ?_
            exact Dev.keeps_refl _ _
          · refine Dev.keeps_set _ _ _ _ (by decide +kernel) ?_
            refine Dev.keeps_flag _ _ _ _ (by decide +kernel) ?_
            refine Dev.keeps_step (by decide +kernel) (Dev.modLm_keeps ..) ?_
            refine Dev.keeps_setI _ _ _ _ (by decide +kernel) ?_
            exact Dev.keeps_refl _ _
        · refine Dev.keeps_step (by decide +kernel) (Dev.modLm_keeps ..) ?_
          refine Dev.keeps_ite ?_ ?_
          · refine Dev.keeps_step (by decide +kernel) (Dev.modLm_keeps ..) ?_
            refine Dev.keeps_set _ _ _ _ (by decide +kernel) ?_
            refine Dev.keeps_flag _ _ _ _ (by decide +kernel) ?_
            refine Dev.keeps_step (by decide +kernel) (Dev.modLm_keeps ..) ?_
            refine Dev.keeps_setI _ _ _ _ (by decide +kernel) ?_
            exact Dev.keeps_refl _ _
          · refine Dev.keeps_set _ _ _ _ (by decide +kernel) ?_
            refine Dev.keeps_flag _ _ _ _ (by decide +kernel) ?_
            refine Dev.keeps_step (by decide +kernel) (Dev.modLm_keeps ..) ?_
            refine Dev.keeps_setI _ _ _ _ (by decide +kernel) ?_
            exact Dev.keeps_refl _ _
  · exact Dev.keeps_refl _ _

theorem lmCalStore_keeps (x : Nat) (m : Nat) (gain : Nat) (d : Dev) : Dev.keeps ⟨[.store, .si], [F.HC_CTX_REFADDR_BAR2,
    F.HC_CTX_REFADDR_CAUSE, F.HC_CTX_REFADDR_OFFSET, F.HC_CTX_REFADDR_WRITE, F.HC_CTX_STAT_PARTIAL, F.HC_CTX_STAT_REFUSED,
    F.LM_CAL_CMD_RESULT, F.LM_CAL_GCORR, F.LM_CAL_OFS, F.LM_CONT_N_N, F.LM_CONT_T0_T0, F.MO_JOURNAL_FILL, F.MO_JOURNAL_PENDING], []⟩ d
    (lmCalStore x m gain d) := by
  unfold lmCalStore
  dsimp -proj only
  refine Dev.keeps_trans (Dev.calCmd_keeps (by decide +kernel) _ _ _ _ _ _ ?_) ?_
  · intro _
    refine Dev.keeps_step (by decide +kernel) (Dev.storeCal_keeps ..) ?_
    refine Dev.keeps_step (by decide +kernel) (Dev.modLm_keeps ..) ?_
    exact Dev.keeps_refl _ _
  · exact Dev.keeps_refl _ _

theorem lmCalZero_keeps (x : Nat) (m : Nat) (gain : Nat) (d : Dev) : Dev.keeps ⟨[.grps, .si, .sb, .dma], [F.DM_CH_STAT_STATE,
    F.DM_FREE_FREE, F.HC_CTX_REFADDR_BAR2, F.HC_CTX_REFADDR_CAUSE, F.HC_CTX_REFADDR_OFFSET, F.HC_CTX_REFADDR_WRITE, F.HC_CTX_STAT_PARTIAL,
    F.HC_CTX_STAT_REFUSED, F.LM_CAL_CMD_BUSY, F.LM_CAL_CMD_RESULT, F.LM_CONT_N_N, F.LM_CONT_T0_T0, F.LM_RESULT_WORD, F.LM_STAT_STATE], []⟩
    d (lmCalZero x m gain d) := by
  unfold lmCalZero
  refine Dev.keeps_trans (Dev.calCmd_keeps (by decide +kernel) _ _ _ _ _ _ ?_) ?_
  · intro _
    refine Dev.keeps_step (by decide +kernel) (Dev.calStart_keeps ..) ?_
    exact Dev.keeps_refl _ _
  · exact Dev.keeps_refl _ _

theorem lmContOutput_keeps (m : Nat) (raws : List Int) (d : Dev) : Dev.keeps ⟨[.out, .work, .si, .fc, .sb, .host, .dma],
    [F.DM_CH_IRQ_DONE, F.DM_CH_IRQ_FULL, F.DM_CH_IRQ_HALF, F.DM_CH_IRQ_OVERRUN, F.DM_CH_IRQ_STOP, F.DM_CH_LOST_LOST, F.DM_CH_RING0_RING0,
    F.DM_CH_STAT_STATE, F.DM_FREE_FREE, F.FC_COND_COND, F.HC_IRQ_STAT_STAT, F.LM_CONT_N_N, F.LM_CONT_T0_T0, F.LM_RESULT_WORD,
    F.SB_CMD_BUSY, F.SB_DEMAND_COND, F.SB_DEMAND_IN_FORCE, F.SB_STATUS_BRAKE, F.SB_STATUS_HOLD_1, F.SB_STATUS_HOLD_2,
    F.SB_STATUS_TESTING], []⟩ d (lmContOutput m raws d) := by
  unfold lmContOutput
  dsimp -proj only
  refine Dev.keeps_ite ?_ ?_
  · refine Dev.keeps_step (by decide +kernel) (Dev.ovOutput_keeps ..) ?_
    refine Dev.keeps_step (by decide +kernel) (Dev.contDue_keeps ..) ?_
    exact Dev.keeps_refl _ _
  · refine Dev.keeps_ite ?_ ?_
    · refine Dev.keeps_step (by decide +kernel) (Dev.contDue_keeps ..) ?_
      exact Dev.keeps_refl _ _
    · refine Dev.keeps_ite ?_ ?_
      · refine Dev.keeps_step (by decide +kernel) (Dev.contDue_keeps ..) ?_
        exact Dev.keeps_refl _ _
      · refine Dev.keeps_ite ?_ ?_
        · refine Dev.keeps_step (by decide +kernel) (Dev.ovOutput_keeps ..) ?_
          refine Dev.keeps_step (by decide +kernel) (Dev.sourceGrew_keeps ..) ?_
          refine Dev.keeps_ite ?_ ?_
          · refine Dev.keeps_step (by decide +kernel) (Dev.modLm_keeps ..) ?_
            refine Dev.keeps_set _ _ _ _ (by decide +kernel) ?_
            refine Dev.keeps_step (by decide +kernel) (Dev.contDue_keeps ..) ?_
            exact Dev.keeps_refl _ _
          · refine Dev.keeps_step (by decide +kernel) (Dev.pokeBytes_keeps ..) ?_
            refine Dev.keeps_step (by decide +kernel) (Dev.modLm_keeps ..) ?_
            refine Dev.keeps_set _ _ _ _ (by decide +kernel) ?_
            refine Dev.keeps_step (by decide +kernel) (Dev.contDue_keeps ..) ?_
            exact Dev.keeps_refl _ _
        · refine Dev.keeps_step (by decide +kernel) (Dev.sourceGrew_keeps ..) ?_
          refine Dev.keeps_ite ?_ ?_
          · refine Dev.keeps_step (by decide +kernel) (Dev.modLm_keeps ..) ?_
            refine Dev.keeps_set _ _ _ _ (by decide +kernel) ?_
            refine Dev.keeps_step (by decide +kernel) (Dev.contDue_keeps ..) ?_
            exact Dev.keeps_refl _ _
          · refine Dev.keeps_step (by decide +kernel) (Dev.pokeBytes_keeps ..) ?_
            refine Dev.keeps_step (by decide +kernel) (Dev.modLm_keeps ..) ?_
            refine Dev.keeps_set _ _ _ _ (by decide +kernel) ?_
            refine Dev.keeps_step (by decide +kernel) (Dev.contDue_keeps ..) ?_
            exact Dev.keeps_refl _ _

theorem lmContWrite_keeps (x : Nat) (m : Nat) (v : Nat) (d : Dev) (hm : m < 4) : Dev.keeps ⟨[.store, .si, .dma], [F.DM_CH_STAT_STATE,
    F.DM_FREE_FREE, F.HC_CTX_REFADDR_BAR2, F.HC_CTX_REFADDR_CAUSE, F.HC_CTX_REFADDR_OFFSET, F.HC_CTX_REFADDR_WRITE, F.HC_CTX_STAT_PARTIAL,
    F.HC_CTX_STAT_REFUSED, F.LM_CONT_DECIM, F.LM_CONT_EN, F.LM_CONT_GAIN, F.LM_CONT_INPUT, F.LM_CONT_N_N, F.LM_CONT_T0_T0,
    F.MO_JOURNAL_FILL, F.MO_JOURNAL_PENDING], []⟩ d (lmContWrite x m v d) := by
  unfold lmContWrite
  dsimp -proj only
  refine Dev.keeps_trans (Dev.hostWrite_keeps (by decide +kernel) _ _ _ _ ?_) ?_
  · intro _
    refine Dev.keeps_ite ?_ ?_
    · refine Dev.keeps_step (by decide +kernel) (Dev.contDue_keeps ..) ?_
      exact Dev.keeps_refl _ _
    · refine Dev.keeps_ite ?_ ?_
      · refine Dev.keeps_step (by decide +kernel) (Dev.putCont_keeps _ _ hm _) ?_
        refine Dev.keeps_step (by decide +kernel) (Dev.contDue_keeps ..) ?_
        exact Dev.keeps_refl _ _
      · refine Dev.keeps_ite ?_ ?_
        · refine Dev.keeps_step (by decide +kernel) (Dev.modLm_keeps ..) ?_
          refine Dev.keeps_step (by decide +kernel) (Dev.putCont_keeps _ _ hm _) ?_
          refine Dev.keeps_step (by decide +kernel) (Dev.contDue_keeps ..) ?_
          exact Dev.keeps_refl _ _
        · refine Dev.keeps_step (by decide +kernel) (Dev.withdraw_keeps ..) ?_
          refine Dev.keeps_step (by decide +kernel) (Dev.modLm_keeps ..) ?_
          refine Dev.keeps_step (by decide +kernel) (Dev.putCont_keeps _ _ hm _) ?_
          refine Dev.keeps_step (by decide +kernel) (Dev.contDue_keeps ..) ?_
          exact Dev.keeps_refl _ _
  · exact Dev.keeps_refl _ _

theorem lmCycleTrigger_keeps (m : Nat) (d : Dev) : Dev.keeps ⟨[.grps, .si], [F.LM_RESULT_WORD, F.LM_STAT_OVERRUN, F.LM_STAT_STATE], []⟩ d
    (lmCycleTrigger m d) := by
  unfold lmCycleTrigger
  dsimp -proj only
  refine Dev.keeps_ite ?_ ?_
  · refine Dev.keeps_step (by decide +kernel) (Dev.startRun_keeps ..) ?_
    refine Dev.keeps_step (by decide +kernel) (Dev.modLm_keeps ..) ?_
    exact Dev.keeps_refl _ _
  · exact Dev.keeps_refl _ _

theorem lmRun_keeps (x : Nat) (m : Nat) (d : Dev) : Dev.keeps ⟨[.grps, .si], [F.HC_CTX_REFADDR_BAR2, F.HC_CTX_REFADDR_CAUSE,
    F.HC_CTX_REFADDR_OFFSET, F.HC_CTX_REFADDR_WRITE, F.HC_CTX_STAT_PARTIAL, F.HC_CTX_STAT_REFUSED, F.LM_RESULT_WORD, F.LM_STAT_OVERRUN,
    F.LM_STAT_STATE], []⟩ d (lmRun x m d) := by
  unfold lmRun
  refine Dev.keeps_trans (Dev.hostWrite_keeps (by decide +kernel) _ _ _ _ ?_) ?_
  · intro _
    refine Dev.keeps_ite ?_ ?_
    · refine Dev.keeps_step (by decide +kernel) (Dev.startRun_keeps ..) ?_
      exact Dev.keeps_refl _ _
    · exact Dev.keeps_refl _ _
  · exact Dev.keeps_refl _ _

theorem lmRunComplete_keeps (m : Nat) (raws : List (List Int)) (d : Dev) : Dev.keeps ⟨[.grps, .si], [F.LM_RESULT_WORD, F.LM_STAT_RUNS,
    F.LM_STAT_STATE], []⟩ d (lmRunComplete m raws d) := by
  unfold lmRunComplete
  dsimp -proj only
  refine Dev.keeps_ite ?_ ?_
  · refine Dev.keeps_ite ?_ ?_
    · refine Dev.keeps_step (by decide +kernel) (Dev.modLm_keeps ..) ?_
      refine Dev.keeps_foldl _ _ ?_ ?_
      · intro _ _
        refine Dev.keeps_step (by decide +kernel) (Dev.lmEntry_keeps ..) ?_
        exact Dev.keeps_refl _ _
      · refine Dev.keeps_step (by decide +kernel) (Dev.latchLms_keeps ..) ?_
        exact Dev.keeps_refl _ _
    · refine Dev.keeps_count _ _ _ (by decide +kernel) ?_
      refine Dev.keeps_set _ _ _ _ (by decide +kernel) ?_
      refine Dev.keeps_step (by decide +kernel) (Dev.modLm_keeps ..) ?_
      refine Dev.keeps_foldl _ _ ?_ ?_
      · intro _ _
        refine Dev.keeps_step (by decide +kernel) (Dev.lmEntry_keeps ..) ?_
        exact Dev.keeps_refl _ _
      · refine Dev.keeps_step (by decide +kernel) (Dev.latchLms_keeps ..) ?_
        exact Dev.keeps_refl _ _
  · refine Dev.keeps_step (by decide +kernel) (Dev.latchLms_keeps ..) ?_
    exact Dev.keeps_refl _ _

theorem stationPortLinkChange_keeps (port : Nat) (up : Bool) (d : Dev) : Dev.keeps ⟨[], [F.SI_PORT_LINK], []⟩ d (stationPortLinkChange
    port up d) := by
  unfold stationPortLinkChange
  refine Dev.keeps_flag _ _ _ _ (by decide +kernel) ?_
  exact Dev.keeps_refl _ _

theorem svFrameReceived_keeps (port : Nat) (fr : SvFrame) (sub : Nat) (d : Dev) : Dev.keeps ⟨[.si, .fc], [F.FC_COND_COND,
    F.SI_PORT_FCS_ERR, F.SI_PORT_SEC_REJ, F.SI_SV_STAT_W0_CONFREV_BAD, F.SI_SV_STAT_W0_PORT, F.SI_SV_STAT_W0_STATE,
    F.SI_SV_STAT_W1_DISAGREE, F.SI_SV_STAT_W1_DUPLICATE, F.SI_SV_STAT_W1_GAPS, F.SI_SV_STAT_W1_REJECTED], []⟩ d (svFrameReceived port fr
    sub d) := by
  unfold svFrameReceived
  refine Dev.keeps_trans (Dev.portTakes_keeps (by decide +kernel) _ _ _ _ _ ?_) ?_
  · intro _
    refine Dev.keeps_ite ?_ ?_
    · exact Dev.keeps_refl _ _
    · refine Dev.keeps_foldl _ _ ?_ ?_
      · intro _ _
        refine Dev.keeps_step (by decide +kernel) (Dev.svFor_keeps ..) ?_
        exact Dev.keeps_refl _ _
      · exact Dev.keeps_refl _ _
  · exact Dev.keeps_refl _ _

theorem svLost_keeps (s : Nat) (d : Dev) : Dev.keeps ⟨[.si, .fc], [F.FC_COND_COND, F.SI_SV_STAT_W0_LOST_RAISED], []⟩ d (svLost s d) := by
  unfold svLost
  split
  · exact Dev.keeps_refl _ _
  · refine Dev.keeps_ite ?_ ?_
    · refine Dev.keeps_step (by decide +kernel) (Dev.cond_keeps ..) ?_
      refine Dev.keeps_flag _ _ _ _ (by decide +kernel) ?_
      refine Dev.keeps_step (by decide +kernel) (Dev.modSv_keeps ..) ?_
      exact Dev.keeps_refl _ _
    · exact Dev.keeps_refl _ _

theorem svSilent_keeps (s : Nat) (d : Dev) : Dev.keeps ⟨[], [F.SI_SV_STAT_W0_STATE], []⟩ d (svSilent s d) := by
  unfold svSilent
  split
  · exact Dev.keeps_refl _ _
  · refine Dev.keeps_ite ?_ ?_
    · refine Dev.keeps_set _ _ _ _ (by decide +kernel) ?_
      exact Dev.keeps_refl _ _
    · exact Dev.keeps_refl _ _

end Sys2Proof.Machine
end

