-- ==== Sys2Proof/Laws/KeepsPointOps.lean ====
section
/-! SUPPORT. What the operations of Machine/PointOps.lean may change at most, one lemma each. -/

namespace Sys2Proof.Machine

set_option Elab.async false

theorem Dev.beginCheck_keeps (b : Nat) (d : Dev) : Dev.keeps ⟨[.cm], [F.CM_CRS_STAT_FOUND, F.CM_CRS_STAT_IN_SERVICE, F.CM_DIR_W0_STATE],
    []⟩ d (Dev.beginCheck b d) := by
  unfold Dev.beginCheck
  dsimp -proj only
  refine Dev.keeps_step (by decide +kernel) (Dev.setEntry_keeps ..) ?_
  refine Dev.keeps_foldl _ _ ?_ ?_
  · intro _ _
    refine Dev.keeps_step (by decide +kernel) (Dev.ask_keeps ..) ?_
    exact Dev.keeps_refl _ _
  · refine Dev.keeps_step (by decide +kernel) (Dev.modDir_keeps ..) ?_
    exact Dev.keeps_refl _ _

theorem Dev.dropReq_keeps (q : PtReq) (d : Dev) : Dev.keeps ⟨[.cm], [], []⟩ d (Dev.dropReq q d) := by
  unfold Dev.dropReq
  dsimp -proj only
  refine Dev.keeps_cm _ (by decide +kernel) ?_
  exact Dev.keeps_refl _ _

theorem Dev.serveLocal_keeps (n : Nat) (d : Dev) : Dev.keeps ⟨[.out, .cm, .dma], [], []⟩ d (Dev.serveLocal n d) := by
  induction n generalizing d with
  | zero => exact Dev.keeps_refl _ _
  | succ n ih =>
    unfold Dev.serveLocal
    split
    · exact Dev.keeps_trans (ih _) (Dev.keeps_step (by decide +kernel) (Dev.readValue_keeps ..)
        (Dev.keeps_mono (by decide +kernel) (Dev.dropReq_keeps ..)))
    · exact Dev.keeps_refl _ _

theorem Dev.startProbe_keeps (c : Nat) (e : Nat) (d : Dev) : Dev.keeps ⟨[.out, .cm], [], []⟩ d (Dev.startProbe c e d) := by
  unfold Dev.startProbe
  dsimp -proj only
  refine Dev.keeps_ite ?_ ?_
  · exact Dev.keeps_refl _ _
  · split
    · exact Dev.keeps_refl _ _
    · refine Dev.keeps_ite ?_ ?_
      · exact Dev.keeps_refl _ _
      · refine Dev.keeps_step (by decide +kernel) (Dev.send_keeps ..) ?_
        refine Dev.keeps_step (by decide +kernel) (Dev.modCrs_keeps ..) ?_
        refine Dev.keeps_cm _ (by decide +kernel) ?_
        exact Dev.keeps_refl _ _

theorem Dev.sendReq_keeps (c : Nat) (e : Nat) (q : PtReq) (d : Dev) : Dev.keeps ⟨[.out, .cm], [], []⟩ d (Dev.sendReq c e q d) := by
  unfold Dev.sendReq
  dsimp -proj only
  refine Dev.keeps_step (by decide +kernel) (Dev.send_keeps ..) ?_
  refine Dev.keeps_cm _ (by decide +kernel) ?_
  exact Dev.keeps_refl _ _

theorem Dev.startReqs_keeps (c e n : Nat) (d : Dev) : Dev.keeps ⟨[.out, .cm], [], []⟩ d (Dev.startReqs c e n d) := by
  induction n generalizing d with
  | zero => exact Dev.keeps_refl _ _
  | succ n ih =>
    unfold Dev.startReqs
    split
    · exact Dev.keeps_refl _ _
    · split
      · exact Dev.keeps_trans (ih _) (Dev.keeps_mono (by decide +kernel) (Dev.sendReq_keeps ..))
      · exact Dev.keeps_refl _ _

theorem Dev.pump_keeps (c : Nat) (d : Dev) : Dev.keeps ⟨[.out, .cm, .dma], [], []⟩ d (Dev.pump c d) := by
  unfold Dev.pump
  dsimp -proj only
  refine Dev.keeps_ite ?_ ?_
  · refine Dev.keeps_step (by decide +kernel) (Dev.serveLocal_keeps ..) ?_
    exact Dev.keeps_refl _ _
  · refine Dev.keeps_each _ _ ?_ ?_
    · intro _ _
      refine Dev.keeps_ite ?_ ?_
      · refine Dev.keeps_step (by decide +kernel) (Dev.startReqs_keeps ..) ?_
        refine Dev.keeps_step (by decide +kernel) (Dev.startProbe_keeps ..) ?_
        exact Dev.keeps_refl _ _
      · exact Dev.keeps_refl _ _
    · refine Dev.keeps_step (by decide +kernel) (Dev.serveLocal_keeps ..) ?_
      exact Dev.keeps_refl _ _

theorem Dev.configBrick_keeps (b : Nat) (d : Dev) : Dev.keeps ⟨[.cm], [], []⟩ d (Dev.configBrick b d) := by
  unfold Dev.configBrick
  dsimp -proj only
  refine Dev.keeps_ite ?_ ?_
  · refine Dev.keeps_step (by decide +kernel) (Dev.modDir_keeps ..) ?_
    refine Dev.keeps_step (by decide +kernel) (Dev.ask_keeps ..) ?_
    refine Dev.keeps_ite ?_ ?_
    · refine Dev.keeps_step (by decide +kernel) (Dev.modDir_keeps ..) ?_
      refine Dev.keeps_step (by decide +kernel) (Dev.ask_keeps ..) ?_
      refine Dev.keeps_step (by decide +kernel) (Dev.modDir_keeps ..) ?_
      refine Dev.keeps_step (by decide +kernel) (Dev.ask_keeps ..) ?_
      refine Dev.keeps_step (by decide +kernel) (Dev.modDir_keeps ..) ?_
      refine Dev.keeps_step (by decide +kernel) (Dev.ask_keeps ..) ?_
      refine Dev.keeps_step (by decide +kernel) (Dev.modDir_keeps ..) ?_
      refine Dev.keeps_step (by decide +kernel) (Dev.ask_keeps ..) ?_
      exact Dev.keeps_refl _ _
    · refine Dev.keeps_step (by decide +kernel) (Dev.modDir_keeps ..) ?_
      refine Dev.keeps_step (by decide +kernel) (Dev.ask_keeps ..) ?_
      refine Dev.keeps_step (by decide +kernel) (Dev.modDir_keeps ..) ?_
      refine Dev.keeps_step (by decide +kernel) (Dev.ask_keeps ..) ?_
      refine Dev.keeps_step (by decide +kernel) (Dev.modDir_keeps ..) ?_
      refine Dev.keeps_step (by decide +kernel) (Dev.ask_keeps ..) ?_
      refine Dev.keeps_step (by decide +kernel) (Dev.modDir_keeps ..) ?_
      refine Dev.keeps_step (by decide +kernel) (Dev.ask_keeps ..) ?_
      exact Dev.keeps_refl _ _
  · refine Dev.keeps_step (by decide +kernel) (Dev.modDir_keeps ..) ?_
    refine Dev.keeps_step (by decide +kernel) (Dev.ask_keeps ..) ?_
    refine Dev.keeps_step (by decide +kernel) (Dev.modDir_keeps ..) ?_
    refine Dev.keeps_step (by decide +kernel) (Dev.ask_keeps ..) ?_
    exact Dev.keeps_refl _ _

theorem Dev.checkOn_keeps (b : Nat) (d : Dev) : Dev.keeps ⟨[.cm], [], []⟩ d (Dev.checkOn b d) := by
  unfold Dev.checkOn
  dsimp -proj only
  refine Dev.keeps_ite ?_ ?_
  · exact Dev.keeps_refl _ _
  · refine Dev.keeps_ite ?_ ?_
    · refine Dev.keeps_ite ?_ ?_
      · refine Dev.keeps_step (by decide +kernel) (Dev.modDir_keeps ..) ?_
        exact Dev.keeps_refl _ _
      · refine Dev.keeps_step (by decide +kernel) (Dev.modDir_keeps ..) ?_
        refine Dev.keeps_step (by decide +kernel) (Dev.configBrick_keeps ..) ?_
        exact Dev.keeps_refl _ _
    · refine Dev.keeps_ite ?_ ?_
      · refine Dev.keeps_ite ?_ ?_
        · refine Dev.keeps_step (by decide +kernel) (Dev.modDir_keeps ..) ?_
          exact Dev.keeps_refl _ _
        · refine Dev.keeps_step (by decide +kernel) (Dev.startMeasure_keeps ..) ?_
          refine Dev.keeps_step (by decide +kernel) (Dev.modDir_keeps ..) ?_
          exact Dev.keeps_refl _ _
      · refine Dev.keeps_ite ?_ ?_
        · refine Dev.keeps_ite ?_ ?_
          · exact Dev.keeps_refl _ _
          · refine Dev.keeps_step (by decide +kernel) (Dev.modDir_keeps ..) ?_
            exact Dev.keeps_refl _ _
        · exact Dev.keeps_refl _ _

theorem Dev.checksOn_keeps (c : Nat) (d : Dev) : Dev.keeps ⟨[.cm], [], []⟩ d (Dev.checksOn c d) := by
  unfold Dev.checksOn
  refine Dev.keeps_each _ _ ?_ ?_
  · intro _ _
    refine Dev.keeps_ite ?_ ?_
    · refine Dev.keeps_step (by decide +kernel) (Dev.checkOn_keeps ..) ?_
      exact Dev.keeps_refl _ _
    · exact Dev.keeps_refl _ _
  · exact Dev.keeps_refl _ _

theorem Dev.writeLat_keeps (c : Nat) (p : Nat) (h : Int) (f : Int) (d : Dev) : Dev.keeps ⟨[.cm], [F.CM_DIR_W3_LAT_F, F.CM_DIR_W3_LAT_H],
    []⟩ d (Dev.writeLat c p h f d) := by
  unfold Dev.writeLat
  dsimp -proj only
  refine Dev.keeps_set _ _ _ _ (by decide +kernel) ?_
  refine Dev.keeps_set _ _ _ _ (by decide +kernel) ?_
  refine Dev.keeps_step (by decide +kernel) (Dev.modDir_keeps ..) ?_
  refine Dev.keeps_ite ?_ ?_
  · refine Dev.keeps_step (by decide +kernel) (Dev.ask_keeps ..) ?_
    refine Dev.keeps_ite ?_ ?_
    · refine Dev.keeps_step (by decide +kernel) (Dev.ask_keeps ..) ?_
      exact Dev.keeps_refl _ _
    · exact Dev.keeps_refl _ _
  · refine Dev.keeps_ite ?_ ?_
    · refine Dev.keeps_step (by decide +kernel) (Dev.ask_keeps ..) ?_
      exact Dev.keeps_refl _ _
    · exact Dev.keeps_refl _ _

theorem Dev.finishMeasure_keeps (c : Nat) (d : Dev) : Dev.keeps ⟨[.cm], [F.CM_CRS_DELIV_DELIV, F.CM_CRS_DELIV_WORST, F.CM_CRS_MEAS_ROUNDS,
    F.CM_DIR_W3_LAT_F, F.CM_DIR_W3_LAT_H], []⟩ d (Dev.finishMeasure c d) := by
  unfold Dev.finishMeasure
  dsimp -proj only
  split
  · refine Dev.keeps_ite ?_ ?_
    · refine Dev.keeps_step (by decide +kernel) (Dev.updateDeliv_keeps ..) ?_
      refine Dev.keeps_count _ _ _ (by decide +kernel) ?_
      refine Dev.keeps_step (by decide +kernel) (Dev.modCrs_keeps ..) ?_
      exact Dev.keeps_refl _ _
    · refine Dev.keeps_ite ?_ ?_
      · refine Dev.keeps_step (by decide +kernel) (Dev.startMeasure_keeps ..) ?_
        exact Dev.keeps_refl _ _
      · refine Dev.keeps_step (by decide +kernel) (Dev.updateDeliv_keeps ..) ?_
        refine Dev.keeps_count _ _ _ (by decide +kernel) ?_
        refine Dev.keeps_step (by decide +kernel) (Dev.modCrs_keeps ..) ?_
        refine Dev.keeps_each _ _ ?_ ?_
        · intro _ _
          refine Dev.keeps_step (by decide +kernel) (Dev.writeLat_keeps ..) ?_
          exact Dev.keeps_refl _ _
        · exact Dev.keeps_refl _ _
  · refine Dev.keeps_step (by decide +kernel) (Dev.updateDeliv_keeps ..) ?_
    refine Dev.keeps_count _ _ _ (by decide +kernel) ?_
    refine Dev.keeps_step (by decide +kernel) (Dev.modCrs_keeps ..) ?_
    exact Dev.keeps_refl _ _

theorem Dev.lostReq_keeps (q : PtReq) (status : Nat) (d : Dev) : Dev.keeps ⟨[.out, .cm, .host, .dma], [F.CM_CRS_PT_FAILED,
    F.CM_DIR_W0_EVQ, F.DM_CH_DETAIL_PTFAIL, F.GL_PT_ERR_W0_COUNT, F.GL_PT_ERR_W0_STATUS, F.GL_PT_ERR_W1_ADDRESS, F.GP_HARVEST_PB_FAIL,
    F.HC_IRQ_STAT_STAT], []⟩ d (Dev.lostReq q status d) := by
  unfold Dev.lostReq
  refine Dev.keeps_step (by decide +kernel) (Dev.pump_keeps ..) ?_
  refine Dev.keeps_step (by decide +kernel) (Dev.checkOn_keeps ..) ?_
  refine Dev.keeps_step (by decide +kernel) (Dev.endReq_keeps ..) ?_
  exact Dev.keeps_refl _ _

end Sys2Proof.Machine
end

