-- ==== Sys2Proof/Laws/KeepsTriplexOps.lean ====
section
/-! SUPPORT. What the operations of Machine/TriplexOps.lean may change at most, one lemma each. -/

namespace Sys2Proof.Machine

set_option Elab.async false

theorem Dev.refreshBusy_keeps (d : Dev) : Dev.keeps ⟨[], [F.TP_CMD_BUSY], []⟩ d (Dev.refreshBusy d) := by
  unfold Dev.refreshBusy
  refine Dev.keeps_flag _ _ _ _ (by decide +kernel) ?_
  exact Dev.keeps_refl _ _

theorem Dev.abandonProof_keeps (d : Dev) : Dev.keeps ⟨[.tp], [F.TP_PROOF_RESULT, F.TP_PROOF_STATE, F.TP_PROOF_STEP], []⟩ d
    (Dev.abandonProof d) := by
  unfold Dev.abandonProof
  dsimp -proj only
  refine Dev.keeps_ite ?_ ?_
  · exact Dev.keeps_refl _ _
  · refine Dev.keeps_set _ _ _ _ (by decide +kernel) ?_
    refine Dev.keeps_set _ _ _ _ (by decide +kernel) ?_
    refine Dev.keeps_set _ _ _ _ (by decide +kernel) ?_
    refine Dev.keeps_tp _ (by decide +kernel) ?_
    exact Dev.keeps_refl _ _

theorem Dev.refreshTriplex_keeps (d : Dev) : Dev.keeps ⟨[.tp, .fc], [F.FC_COND_COND, F.GL_READY_TRIPLEX, F.TP_PROOF_RESULT,
    F.TP_PROOF_STATE, F.TP_PROOF_STEP, F.TP_STATE_DONOR, F.TP_STATE_FENCED, F.TP_STATE_IN_SERVICE, F.TP_STATE_RESYNC,
    F.TP_STATE_SIMPLEX_MS, F.TP_STATE_STATE], []⟩ d (Dev.refreshTriplex d) := by
  unfold Dev.refreshTriplex
  dsimp -proj only
  refine Dev.keeps_step (by decide +kernel) (Dev.cond_keeps ..) ?_
  refine Dev.keeps_ite ?_ ?_
  · refine Dev.keeps_set _ _ _ _ (by decide +kernel) ?_
    refine Dev.keeps_step (by decide +kernel) (Dev.cond_keeps ..) ?_
    refine Dev.keeps_step (by decide +kernel) (Dev.cond_keeps ..) ?_
    refine Dev.keeps_ite ?_ ?_
    · refine Dev.keeps_tp _ (by decide +kernel) ?_
      refine Dev.keeps_ite ?_ ?_
      · refine Dev.keeps_flag _ _ _ _ (by decide +kernel) ?_
        refine Dev.keeps_set _ _ _ _ (by decide +kernel) ?_
        refine Dev.keeps_set _ _ _ _ (by decide +kernel) ?_
        refine Dev.keeps_set _ _ _ _ (by decide +kernel) ?_
        refine Dev.keeps_set _ _ _ _ (by decide +kernel) ?_
        refine Dev.keeps_set _ _ _ _ (by decide +kernel) ?_
        refine Dev.keeps_tp _ (by decide +kernel) ?_
        refine Dev.keeps_ite ?_ ?_
        · refine Dev.keeps_step (by decide +kernel) (Dev.abandonProof_keeps ..) ?_
          exact Dev.keeps_refl _ _
        · exact Dev.keeps_refl _ _
      · refine Dev.keeps_ite ?_ ?_
        · refine Dev.keeps_flag _ _ _ _ (by decide +kernel) ?_
          refine Dev.keeps_set _ _ _ _ (by decide +kernel) ?_
          refine Dev.keeps_set _ _ _ _ (by decide +kernel) ?_
          refine Dev.keeps_set _ _ _ _ (by decide +kernel) ?_
          refine Dev.keeps_set _ _ _ _ (by decide +kernel) ?_
          refine Dev.keeps_set _ _ _ _ (by decide +kernel) ?_
          refine Dev.keeps_tp _ (by decide +kernel) ?_
          refine Dev.keeps_ite ?_ ?_
          · refine Dev.keeps_step (by decide +kernel) (Dev.abandonProof_keeps ..) ?_
            exact Dev.keeps_refl _ _
          · exact Dev.keeps_refl _ _
        · refine Dev.keeps_set _ _ _ _ (by decide +kernel) ?_
          refine Dev.keeps_set _ _ _ _ (by decide +kernel) ?_
          refine Dev.keeps_set _ _ _ _ (by decide +kernel) ?_
          refine Dev.keeps_set _ _ _ _ (by decide +kernel) ?_
          refine Dev.keeps_set _ _ _ _ (by decide +kernel) ?_
          refine Dev.keeps_tp _ (by decide +kernel) ?_
          refine Dev.keeps_ite ?_ ?_
          · refine Dev.keeps_step (by decide +kernel) (Dev.abandonProof_keeps ..) ?_
            exact Dev.keeps_refl _ _
          · exact Dev.keeps_refl _ _
    · refine Dev.keeps_ite ?_ ?_
      · refine Dev.keeps_flag _ _ _ _ (by decide +kernel) ?_
        refine Dev.keeps_set _ _ _ _ (by decide +kernel) ?_
        refine Dev.keeps_set _ _ _ _ (by decide +kernel) ?_
        refine Dev.keeps_set _ _ _ _ (by decide +kernel) ?_
        refine Dev.keeps_set _ _ _ _ (by decide +kernel) ?_
        refine Dev.keeps_set _ _ _ _ (by decide +kernel) ?_
        refine Dev.keeps_tp _ (by decide +kernel) ?_
        refine Dev.keeps_ite ?_ ?_
        · refine Dev.keeps_step (by decide +kernel) (Dev.abandonProof_keeps ..) ?_
          exact Dev.keeps_refl _ _
        · exact Dev.keeps_refl _ _
      · refine Dev.keeps_ite ?_ ?_
        · refine Dev.keeps_flag _ _ _ _ (by decide +kernel) ?_
          refine Dev.keeps_set _ _ _ _ (by decide +kernel) ?_
          refine Dev.keeps_set _ _ _ _ (by decide +kernel) ?_
          refine Dev.keeps_set _ _ _ _ (by decide +kernel) ?_
          refine Dev.keeps_set _ _ _ _ (by decide +kernel) ?_
          refine Dev.keeps_set _ _ _ _ (by decide +kernel) ?_
          refine Dev.keeps_tp _ (by decide +kernel) ?_
          refine Dev.keeps_ite ?_ ?_
          · refine Dev.keeps_step (by decide +kernel) (Dev.abandonProof_keeps ..) ?_
            exact Dev.keeps_refl _ _
          · exact Dev.keeps_refl _ _
        · refine Dev.keeps_set _ _ _ _ (by decide +kernel) ?_
          refine Dev.keeps_set _ _ _ _ (by decide +kernel) ?_
          refine Dev.keeps_set _ _ _ _ (by decide +kernel) ?_
          refine Dev.keeps_set _ _ _ _ (by decide +kernel) ?_
          refine Dev.keeps_set _ _ _ _ (by decide +kernel) ?_
          refine Dev.keeps_tp _ (by decide +kernel) ?_
          refine Dev.keeps_ite ?_ ?_
          · refine Dev.keeps_step (by decide +kernel) (Dev.abandonProof_keeps ..) ?_
            exact Dev.keeps_refl _ _
          · exact Dev.keeps_refl _ _
  · refine Dev.keeps_step (by decide +kernel) (Dev.cond_keeps ..) ?_
    refine Dev.keeps_ite ?_ ?_
    · refine Dev.keeps_tp _ (by decide +kernel) ?_
      refine Dev.keeps_ite ?_ ?_
      · refine Dev.keeps_flag _ _ _ _ (by decide +kernel) ?_
        refine Dev.keeps_set _ _ _ _ (by decide +kernel) ?_
        refine Dev.keeps_set _ _ _ _ (by decide +kernel) ?_
        refine Dev.keeps_set _ _ _ _ (by decide +kernel) ?_
        refine Dev.keeps_set _ _ _ _ (by decide +kernel) ?_
        refine Dev.keeps_set _ _ _ _ (by decide +kernel) ?_
        refine Dev.keeps_tp _ (by decide +kernel) ?_
        refine Dev.keeps_ite ?_ ?_
        · refine Dev.keeps_step (by decide +kernel) (Dev.abandonProof_keeps ..) ?_
          exact Dev.keeps_refl _ _
        · exact Dev.keeps_refl _ _
      · refine Dev.keeps_ite ?_ ?_
        · refine Dev.keeps_flag _ _ _ _ (by decide +kernel) ?_
          refine Dev.keeps_set _ _ _ _ (by decide +kernel) ?_
          refine Dev.keeps_set _ _ _ _ (by decide +kernel) ?_
          refine Dev.keeps_set _ _ _ _ (by decide +kernel) ?_
          refine Dev.keeps_set _ _ _ _ (by decide +kernel) ?_
          refine Dev.keeps_set _ _ _ _ (by decide +kernel) ?_
          refine Dev.keeps_tp _ (by decide +kernel) ?_
          refine Dev.keeps_ite ?_ ?_
          · refine Dev.keeps_step (by decide +kernel) (Dev.abandonProof_keeps ..) ?_
            exact Dev.keeps_refl _ _
          · exact Dev.keeps_refl _ _
        · refine Dev.keeps_set _ _ _ _ (by decide +kernel) ?_
          refine Dev.keeps_set _ _ _ _ (by decide +kernel) ?_
          refine Dev.keeps_set _ _ _ _ (by decide +kernel) ?_
          refine Dev.keeps_set _ _ _ _ (by decide +kernel) ?_
          refine Dev.keeps_set _ _ _ _ (by decide +kernel) ?_
          refine Dev.keeps_tp _ (by decide +kernel) ?_
          refine Dev.keeps_ite ?_ ?_
          · refine Dev.keeps_step (by decide +kernel) (Dev.abandonProof_keeps ..) ?_
            exact Dev.keeps_refl _ _
          · exact Dev.keeps_refl _ _
    · refine Dev.keeps_ite ?_ ?_
      · refine Dev.keeps_flag _ _ _ _ (by decide +kernel) ?_
        refine Dev.keeps_set _ _ _ _ (by decide +kernel) ?_
        refine Dev.keeps_set _ _ _ _ (by decide +kernel) ?_
        refine Dev.keeps_set _ _ _ _ (by decide +kernel) ?_
        refine Dev.keeps_set _ _ _ _ (by decide +kernel) ?_
        refine Dev.keeps_set _ _ _ _ (by decide +kernel) ?_
        refine Dev.keeps_tp _ (by decide +kernel) ?_
        refine Dev.keeps_ite ?_ ?_
        · refine Dev.keeps_step (by decide +kernel) (Dev.abandonProof_keeps ..) ?_
          exact Dev.keeps_refl _ _
        · exact Dev.keeps_refl _ _
      · refine Dev.keeps_ite ?_ ?_
        · refine Dev.keeps_flag _ _ _ _ (by decide +kernel) ?_
          refine Dev.keeps_set _ _ _ _ (by decide +kernel) ?_
          refine Dev.keeps_set _ _ _ _ (by decide +kernel) ?_
          refine Dev.keeps_set _ _ _ _ (by decide +kernel) ?_
          refine Dev.keeps_set _ _ _ _ (by decide +kernel) ?_
          refine Dev.keeps_set _ _ _ _ (by decide +kernel) ?_
          refine Dev.keeps_tp _ (by decide +kernel) ?_
          refine Dev.keeps_ite ?_ ?_
          · refine Dev.keeps_step (by decide +kernel) (Dev.abandonProof_keeps ..) ?_
            exact Dev.keeps_refl _ _
          · exact Dev.keeps_refl _ _
        · refine Dev.keeps_set _ _ _ _ (by decide +kernel) ?_
          refine Dev.keeps_set _ _ _ _ (by decide +kernel) ?_
          refine Dev.keeps_set _ _ _ _ (by decide +kernel) ?_
          refine Dev.keeps_set _ _ _ _ (by decide +kernel) ?_
          refine Dev.keeps_set _ _ _ _ (by decide +kernel) ?_
          refine Dev.keeps_tp _ (by decide +kernel) ?_
          refine Dev.keeps_ite ?_ ?_
          · refine Dev.keeps_step (by decide +kernel) (Dev.abandonProof_keeps ..) ?_
            exact Dev.keeps_refl _ _
          · exact Dev.keeps_refl _ _

theorem Dev.setCh_keeps (ch : Nat) (st : Nat) (d : Dev) : Dev.keeps ⟨[.tp, .fc], [F.FC_COND_COND, F.GL_READY_TRIPLEX, F.TP_CH_STATE,
    F.TP_CMD_BUSY, F.TP_PROOF_RESULT, F.TP_PROOF_STATE, F.TP_PROOF_STEP, F.TP_STATE_DONOR, F.TP_STATE_FENCED, F.TP_STATE_IN_SERVICE,
    F.TP_STATE_RESYNC, F.TP_STATE_SIMPLEX_MS, F.TP_STATE_STATE], []⟩ d (Dev.setCh ch st d) := by
  unfold Dev.setCh
  refine Dev.keeps_step (by decide +kernel) (Dev.refreshBusy_keeps ..) ?_
  refine Dev.keeps_step (by decide +kernel) (Dev.refreshTriplex_keeps ..) ?_
  refine Dev.keeps_set _ _ _ _ (by decide +kernel) ?_
  exact Dev.keeps_refl _ _

theorem Dev.startResync_keeps (ch : Nat) (d : Dev) : Dev.keeps ⟨[.chans, .tp, .fc], [F.FC_COND_COND, F.GL_READY_TRIPLEX, F.TP_CH_SHADOW,
    F.TP_CH_STATE, F.TP_CMD_BUSY, F.TP_PROOF_RESULT, F.TP_PROOF_STATE, F.TP_PROOF_STEP, F.TP_STATE_DONOR, F.TP_STATE_FENCED,
    F.TP_STATE_IN_SERVICE, F.TP_STATE_RESYNC, F.TP_STATE_SIMPLEX_MS, F.TP_STATE_STATE], []⟩ d (Dev.startResync ch d) := by
  unfold Dev.startResync
  dsimp -proj only
  refine Dev.keeps_step (by decide +kernel) (Dev.setCh_keeps ..) ?_
  refine Dev.keeps_set _ _ _ _ (by decide +kernel) ?_
  refine Dev.keeps_step (by decide +kernel) (Dev.modChan_keeps ..) ?_
  refine Dev.keeps_tp _ (by decide +kernel) ?_
  exact Dev.keeps_refl _ _

theorem Dev.autoResync_keeps (d : Dev) : Dev.keeps ⟨[.chans, .tp, .fc], [F.FC_COND_COND, F.GL_READY_TRIPLEX, F.TP_CH_SHADOW,
    F.TP_CH_STATE, F.TP_CMD_BUSY, F.TP_PROOF_RESULT, F.TP_PROOF_STATE, F.TP_PROOF_STEP, F.TP_STATE_DONOR, F.TP_STATE_FENCED,
    F.TP_STATE_IN_SERVICE, F.TP_STATE_RESYNC, F.TP_STATE_SIMPLEX_MS, F.TP_STATE_STATE], []⟩ d (Dev.autoResync d) := by
  unfold Dev.autoResync
  refine Dev.keeps_ite ?_ ?_
  · split
    · refine Dev.keeps_step (by decide +kernel) (Dev.startResync_keeps ..) ?_
      exact Dev.keeps_refl _ _
    · exact Dev.keeps_refl _ _
  · exact Dev.keeps_refl _ _

theorem Dev.backToRepair_keeps (d : Dev) : Dev.keeps ⟨[.chans, .tp, .fc], [F.FC_COND_COND, F.GL_READY_TRIPLEX, F.TP_CH_SHADOW,
    F.TP_CH_STATE, F.TP_CMD_BUSY, F.TP_PROOF_RESULT, F.TP_PROOF_STATE, F.TP_PROOF_STEP, F.TP_STATE_DONOR, F.TP_STATE_FENCED,
    F.TP_STATE_IN_SERVICE, F.TP_STATE_RESYNC, F.TP_STATE_SIMPLEX_MS, F.TP_STATE_STATE], []⟩ d (Dev.backToRepair d) := by
  unfold Dev.backToRepair
  dsimp -proj only
  split
  · exact Dev.keeps_refl _ _
  · refine Dev.keeps_step (by decide +kernel) (Dev.setCh_keeps ..) ?_
    refine Dev.keeps_set _ _ _ _ (by decide +kernel) ?_
    refine Dev.keeps_step (by decide +kernel) (Dev.modChan_keeps ..) ?_
    refine Dev.keeps_tp _ (by decide +kernel) ?_
    exact Dev.keeps_refl _ _

theorem Dev.cutChannel_keeps (cause : Nat) (ch : Nat) (d : Dev) : Dev.keeps ⟨[.store, .tp, .fc], [F.MO_JOURNAL_FILL, F.MO_JOURNAL_PENDING,
    F.PL_SLACK_LAST, F.PL_SLACK_WMIN, F.TP_CH_CAUSE, F.TP_CH_FENCES, F.TP_CH_STATE, F.TP_VOTE_LATE_RUN], []⟩ d (Dev.cutChannel cause ch d)
    := by
  unfold Dev.cutChannel
  dsimp -proj only
  refine Dev.keeps_set _ _ _ _ (by decide +kernel) ?_
  refine Dev.keeps_step (by decide +kernel) (Dev.raise_keeps ..) ?_
  refine Dev.keeps_each _ _ ?_ ?_
  · intro _ _
    refine Dev.keeps_set _ _ _ _ (by decide +kernel) ?_
    refine Dev.keeps_set _ _ _ _ (by decide +kernel) ?_
    exact Dev.keeps_refl _ _
  · refine Dev.keeps_tp _ (by decide +kernel) ?_
    refine Dev.keeps_set _ _ _ _ (by decide +kernel) ?_
    refine Dev.keeps_set _ _ _ _ (by decide +kernel) ?_
    refine Dev.keeps_ite ?_ ?_
    · exact Dev.keeps_refl _ _
    · refine Dev.setKept_keeps (by decide +kernel) _ _ _ _ (by decide +kernel) ?_
      exact Dev.keeps_refl _ _

theorem Dev.fenceAll_keeps (l : List Nat) (cause : Nat) (d : Dev) : Dev.keeps ⟨[.store, .chans, .tp, .fc], [F.FC_COND_COND,
    F.GL_READY_TRIPLEX, F.MO_JOURNAL_FILL, F.MO_JOURNAL_PENDING, F.PL_SLACK_LAST, F.PL_SLACK_WMIN, F.TP_CH_CAUSE, F.TP_CH_FENCES,
    F.TP_CH_SHADOW, F.TP_CH_STATE, F.TP_CMD_BUSY, F.TP_PROOF_RESULT, F.TP_PROOF_STATE, F.TP_PROOF_STEP, F.TP_STATE_DONOR,
    F.TP_STATE_FENCED, F.TP_STATE_IN_SERVICE, F.TP_STATE_RESYNC, F.TP_STATE_SIMPLEX_MS, F.TP_STATE_STATE, F.TP_VOTE_LATE_RUN], []⟩ d
    (Dev.fenceAll l cause d) := by
  unfold Dev.fenceAll
  dsimp -proj only
  split
  · exact Dev.keeps_refl _ _
  · refine Dev.keeps_step (by decide +kernel) (Dev.autoResync_keeps ..) ?_
    refine Dev.keeps_ite ?_ ?_
    · refine Dev.keeps_step (by decide +kernel) (Dev.backToRepair_keeps ..) ?_
      refine Dev.keeps_step (by decide +kernel) (Dev.refreshBusy_keeps ..) ?_
      refine Dev.keeps_step (by decide +kernel) (Dev.refreshTriplex_keeps ..) ?_
      refine Dev.keeps_ite ?_ ?_
      · refine Dev.keeps_tp _ (by decide +kernel) ?_
        refine Dev.keeps_foldl _ _ ?_ ?_
        · intro _ _
          refine Dev.keeps_step (by decide +kernel) (Dev.cutChannel_keeps ..) ?_
          exact Dev.keeps_refl _ _
        · exact Dev.keeps_refl _ _
      · refine Dev.keeps_foldl _ _ ?_ ?_
        · intro _ _
          refine Dev.keeps_step (by decide +kernel) (Dev.cutChannel_keeps ..) ?_
          exact Dev.keeps_refl _ _
        · exact Dev.keeps_refl _ _
    · refine Dev.keeps_step (by decide +kernel) (Dev.refreshBusy_keeps ..) ?_
      refine Dev.keeps_step (by decide +kernel) (Dev.refreshTriplex_keeps ..) ?_
      refine Dev.keeps_ite ?_ ?_
      · refine Dev.keeps_tp _ (by decide +kernel) ?_
        refine Dev.keeps_foldl _ _ ?_ ?_
        · intro _ _
          refine Dev.keeps_step (by decide +kernel) (Dev.cutChannel_keeps ..) ?_
          exact Dev.keeps_refl _ _
        · exact Dev.keeps_refl _ _
      · refine Dev.keeps_foldl _ _ ?_ ?_
        · intro _ _
          refine Dev.keeps_step (by decide +kernel) (Dev.cutChannel_keeps ..) ?_
          exact Dev.keeps_refl _ _
        · exact Dev.keeps_refl _ _

theorem Dev.fenceChannel_keeps (ch : Nat) (cause : Nat) (d : Dev) : Dev.keeps ⟨[.store, .chans, .tp, .fc], [F.FC_COND_COND,
    F.GL_READY_TRIPLEX, F.MO_JOURNAL_FILL, F.MO_JOURNAL_PENDING, F.PL_SLACK_LAST, F.PL_SLACK_WMIN, F.TP_CH_CAUSE, F.TP_CH_FENCES,
    F.TP_CH_SHADOW, F.TP_CH_STATE, F.TP_CMD_BUSY, F.TP_PROOF_RESULT, F.TP_PROOF_STATE, F.TP_PROOF_STEP, F.TP_STATE_DONOR,
    F.TP_STATE_FENCED, F.TP_STATE_IN_SERVICE, F.TP_STATE_RESYNC, F.TP_STATE_SIMPLEX_MS, F.TP_STATE_STATE, F.TP_VOTE_LATE_RUN], []⟩ d
    (Dev.fenceChannel ch cause d) := by
  unfold Dev.fenceChannel
  refine Dev.keeps_step (by decide +kernel) (Dev.fenceAll_keeps ..) ?_
  exact Dev.keeps_refl _ _

theorem Dev.modVote_keeps (d : Dev) (t : Nat) (f : VoteSt → VoteSt) : Dev.keeps ⟨[.tp], [], []⟩ d (Dev.modVote d t f) := by
  unfold Dev.modVote
  dsimp -proj only
  refine Dev.keeps_tp _ (by decide +kernel) ?_
  exact Dev.keeps_refl _ _

theorem Dev.noAgreement_keeps (t : Nat) (d : Dev) : Dev.keeps ⟨[.tp, .fc], [], []⟩ d (Dev.noAgreement t d) := by
  unfold Dev.noAgreement
  refine Dev.keeps_ite ?_ ?_
  · exact Dev.keeps_refl _ _
  · refine Dev.keeps_step (by decide +kernel) (Dev.raiseSafe_keeps ..) ?_
    refine Dev.keeps_step (by decide +kernel) (Dev.modVote_keeps ..) ?_
    exact Dev.keeps_refl _ _

theorem Dev.judgeDigests_keeps (t : Nat) (final : Bool) (d : Dev) : Dev.keeps ⟨[.store, .chans, .tp, .fc], [F.FC_COND_COND,
    F.GL_READY_TRIPLEX, F.MO_JOURNAL_FILL, F.MO_JOURNAL_PENDING, F.PL_SLACK_LAST, F.PL_SLACK_WMIN, F.TP_CH_CAUSE, F.TP_CH_FENCES,
    F.TP_CH_SHADOW, F.TP_CH_STATE, F.TP_CMD_BUSY, F.TP_PROOF_RESULT, F.TP_PROOF_STATE, F.TP_PROOF_STEP, F.TP_STATE_DONOR,
    F.TP_STATE_FENCED, F.TP_STATE_IN_SERVICE, F.TP_STATE_RESYNC, F.TP_STATE_SIMPLEX_MS, F.TP_STATE_STATE, F.TP_VOTE_LATE_RUN], []⟩ d
    (Dev.judgeDigests t final d) := by
  unfold Dev.judgeDigests
  dsimp -proj only
  refine Dev.keeps_ite ?_ ?_
  · exact Dev.keeps_refl _ _
  · refine Dev.keeps_ite ?_ ?_
    · split
      · refine Dev.keeps_foldl _ _ ?_ ?_
        · intro _ _
          refine Dev.keeps_step (by decide +kernel) (Dev.raise_keeps ..) ?_
          refine Dev.keeps_step (by decide +kernel) (Dev.fenceChannel_keeps ..) ?_
          exact Dev.keeps_refl _ _
        · exact Dev.keeps_refl _ _
      · refine Dev.keeps_ite ?_ ?_
        · refine Dev.keeps_step (by decide +kernel) (Dev.noAgreement_keeps ..) ?_
          exact Dev.keeps_refl _ _
        · exact Dev.keeps_refl _ _
    · refine Dev.keeps_ite ?_ ?_
      · split
        · refine Dev.keeps_ite ?_ ?_
          · refine Dev.keeps_step (by decide +kernel) (Dev.noAgreement_keeps ..) ?_
            exact Dev.keeps_refl _ _
          · exact Dev.keeps_refl _ _
        · exact Dev.keeps_refl _ _
      · exact Dev.keeps_refl _ _

theorem Dev.minority_keeps (ch : Nat) (d : Dev) : Dev.keeps ⟨[.store, .chans, .tp, .fc], [F.FC_COND_COND, F.GL_READY_TRIPLEX,
    F.MO_JOURNAL_FILL, F.MO_JOURNAL_PENDING, F.PL_SLACK_LAST, F.PL_SLACK_WMIN, F.TP_CH_CAUSE, F.TP_CH_FENCES, F.TP_CH_SHADOW,
    F.TP_CH_STATE, F.TP_CH_STRIKES, F.TP_CMD_BUSY, F.TP_PROOF_RESULT, F.TP_PROOF_STATE, F.TP_PROOF_STEP, F.TP_STATE_DONOR,
    F.TP_STATE_FENCED, F.TP_STATE_IN_SERVICE, F.TP_STATE_RESYNC, F.TP_STATE_SIMPLEX_MS, F.TP_STATE_STATE, F.TP_VOTE_LATE_RUN,
    F.TP_VOTE_MINORITY], []⟩ d (Dev.minority ch d) := by
  unfold Dev.minority
  refine Dev.keeps_step (by decide +kernel) (Dev.fenceChannel_keeps ..) ?_
  refine Dev.keeps_count _ _ _ (by decide +kernel) ?_
  refine Dev.keeps_count _ _ _ (by decide +kernel) ?_
  exact Dev.keeps_refl _ _

theorem Dev.release_keeps (t : Nat) (s : FrameSet) (d : Dev) : Dev.keeps ⟨[.out, .tp, .cm], [F.PL_STATUS_CONSEC], []⟩ d (Dev.release t s
    d) := by
  unfold Dev.release
  dsimp -proj only
  refine Dev.keeps_each _ _ ?_ ?_
  · intro _ _
    refine Dev.keeps_step (by decide +kernel) (Dev.modCrs_keeps ..) ?_
    exact Dev.keeps_refl _ _
  · refine Dev.keeps_foldl _ _ ?_ ?_
    · intro _ _
      split
      · refine Dev.keeps_step (by decide +kernel) (Dev.modCrs_keeps ..) ?_
        exact Dev.keeps_refl _ _
      · exact Dev.keeps_refl _ _
    · refine Dev.keeps_foldl _ _ ?_ ?_
      · intro _ _
        refine Dev.keeps_ite ?_ ?_
        · exact Dev.keeps_refl _ _
        · refine Dev.keeps_step (by decide +kernel) (Dev.sendBoth_keeps ..) ?_
          exact Dev.keeps_refl _ _
      · refine Dev.keeps_set _ _ _ _ (by decide +kernel) ?_
        refine Dev.keeps_step (by decide +kernel) (Dev.modVote_keeps ..) ?_
        exact Dev.keeps_refl _ _

theorem Dev.voteTile_keeps (t : Nat) (d : Dev) : Dev.keeps ⟨[.out, .store, .chans, .tp, .cm, .fc], [F.FC_COND_COND, F.GL_READY_TRIPLEX,
    F.MO_JOURNAL_FILL, F.MO_JOURNAL_PENDING, F.PL_SLACK_LAST, F.PL_SLACK_WMIN, F.PL_STATUS_CONSEC, F.TP_CH_CAUSE, F.TP_CH_FENCES,
    F.TP_CH_SHADOW, F.TP_CH_STATE, F.TP_CH_STRIKES, F.TP_CMD_BUSY, F.TP_PROOF_RESULT, F.TP_PROOF_STATE, F.TP_PROOF_STEP, F.TP_STATE_DONOR,
    F.TP_STATE_FENCED, F.TP_STATE_IN_SERVICE, F.TP_STATE_RESYNC, F.TP_STATE_SIMPLEX_MS, F.TP_STATE_STATE, F.TP_VOTE_LATE_RUN,
    F.TP_VOTE_MINORITY], []⟩ d (Dev.voteTile t d) := by
  unfold Dev.voteTile
  dsimp -proj only
  split
  · refine Dev.keeps_ite ?_ ?_
    · split
      · refine Dev.keeps_step (by decide +kernel) (Dev.release_keeps ..) ?_
        exact Dev.keeps_refl _ _
      · exact Dev.keeps_refl _ _
    · exact Dev.keeps_refl _ _
  · refine Dev.keeps_each _ _ ?_ ?_
    · intro _ _
      refine Dev.keeps_ite ?_ ?_
      · refine Dev.keeps_step (by decide +kernel) (Dev.minority_keeps ..) ?_
        exact Dev.keeps_refl _ _
      · refine Dev.keeps_ite ?_ ?_
        · refine Dev.keeps_step (by decide +kernel) (Dev.fenceChannel_keeps ..) ?_
          exact Dev.keeps_refl _ _
        · exact Dev.keeps_refl _ _
    · refine Dev.keeps_ite ?_ ?_
      · split
        · refine Dev.keeps_step (by decide +kernel) (Dev.release_keeps ..) ?_
          exact Dev.keeps_refl _ _
        · exact Dev.keeps_refl _ _
      · exact Dev.keeps_refl _ _

theorem Dev.voteAll_keeps (d : Dev) : Dev.keeps ⟨[.out, .store, .chans, .tp, .cm, .fc], [F.FC_COND_COND, F.GL_READY_TRIPLEX,
    F.MO_JOURNAL_FILL, F.MO_JOURNAL_PENDING, F.PL_SLACK_LAST, F.PL_SLACK_WMIN, F.PL_STATUS_CONSEC, F.TP_CH_CAUSE, F.TP_CH_FENCES,
    F.TP_CH_SHADOW, F.TP_CH_STATE, F.TP_CH_STRIKES, F.TP_CMD_BUSY, F.TP_PROOF_RESULT, F.TP_PROOF_STATE, F.TP_PROOF_STEP, F.TP_STATE_DONOR,
    F.TP_STATE_FENCED, F.TP_STATE_IN_SERVICE, F.TP_STATE_RESYNC, F.TP_STATE_SIMPLEX_MS, F.TP_STATE_STATE, F.TP_VOTE_LATE_RUN,
    F.TP_VOTE_MINORITY], []⟩ d (Dev.voteAll d) := by
  unfold Dev.voteAll
  refine Dev.keeps_foldl _ _ ?_ ?_
  · intro _ _
    refine Dev.keeps_foldl _ _ ?_ ?_
    · intro _ _
      refine Dev.keeps_step (by decide +kernel) (Dev.voteTile_keeps ..) ?_
      refine Dev.keeps_step (by decide +kernel) (Dev.judgeDigests_keeps ..) ?_
      exact Dev.keeps_refl _ _
    · exact Dev.keeps_refl _ _
  · exact Dev.keeps_refl _ _

theorem Dev.force_keeps (cause : Nat) (g : Nat) (d : Dev) : Dev.keeps ⟨[.grps], [], []⟩ d (Dev.force cause g d) := by
  unfold Dev.force
  refine Dev.keeps_step (by decide +kernel) (Dev.modGrp_keeps ..) ?_
  exact Dev.keeps_refl _ _

theorem Dev.blockAll_keeps (d : Dev) : Dev.keeps ⟨[.out, .cm], [], []⟩ d (Dev.blockAll d) := by
  unfold Dev.blockAll
  refine Dev.keeps_foldl _ _ ?_ ?_
  · intro _ _
    split
    · refine Dev.keeps_each _ _ ?_ ?_
      · intro _ _
        refine Dev.keeps_step (by decide +kernel) (Dev.sendBoth_keeps ..) ?_
        exact Dev.keeps_refl _ _
      · exact Dev.keeps_refl _ _
    · exact Dev.keeps_refl _ _
  · exact Dev.keeps_refl _ _

theorem Dev.enterService_keeps (ch : Nat) (d : Dev) : Dev.keeps ⟨[.chans, .tp, .fc], [F.FC_COND_COND, F.GL_READY_TRIPLEX, F.TP_CH_SHADOW,
    F.TP_CH_STATE, F.TP_CMD_BUSY, F.TP_PROOF_RESULT, F.TP_PROOF_STATE, F.TP_PROOF_STEP, F.TP_STATE_DONOR, F.TP_STATE_FENCED,
    F.TP_STATE_IN_SERVICE, F.TP_STATE_RESYNC, F.TP_STATE_SIMPLEX_MS, F.TP_STATE_STATE], []⟩ d (Dev.enterService ch d) := by
  unfold Dev.enterService
  dsimp -proj only
  refine Dev.keeps_ite ?_ ?_
  · exact Dev.keeps_refl _ _
  · refine Dev.keeps_step (by decide +kernel) (Dev.autoResync_keeps ..) ?_
    refine Dev.keeps_step (by decide +kernel) (Dev.setCh_keeps ..) ?_
    refine Dev.keeps_ite ?_ ?_
    · refine Dev.keeps_tp _ (by decide +kernel) ?_
      exact Dev.keeps_refl _ _
    · exact Dev.keeps_refl _ _

end Sys2Proof.Machine
end

