-- ==== Sys2Proof/Laws/KeepsHub.lean ====
section
/-! SUPPORT. What the operations of Machine/Hub.lean may change at most, one lemma each. -/

namespace Sys2Proof.Machine

set_option Elab.async false

theorem Dev.showGi_keeps (x : Nat × Nat) (d : Dev) : Dev.keeps ⟨[], [F.SI_GO_IN_W0_VALUE_LO, F.SI_GO_IN_W1_VALUE_HI,
    F.SI_GO_IN_W2_VALID_LO, F.SI_GO_IN_W3_VALID_HI], []⟩ d (Dev.showGi x d) := by
  unfold Dev.showGi
  dsimp -proj only
  refine Dev.keeps_set _ _ _ _ (by decide +kernel) ?_
  refine Dev.keeps_set _ _ _ _ (by decide +kernel) ?_
  refine Dev.keeps_set _ _ _ _ (by decide +kernel) ?_
  refine Dev.keeps_set _ _ _ _ (by decide +kernel) ?_
  exact Dev.keeps_refl _ _

theorem Dev.showBind_keeps (g : Nat) (binds : List SpBind) (d : Dev) (s : Nat) : Dev.keeps ⟨[], [F.GP_SPSRC_USED, F.GP_SPSRC_WORD], []⟩ d
    (Dev.showBind g binds d s) := by
  unfold Dev.showBind
  refine Dev.keeps_set _ _ _ _ (by decide +kernel) ?_
  refine Dev.keeps_flag _ _ _ _ (by decide +kernel) ?_
  exact Dev.keeps_refl _ _

theorem Dev.showRank_keeps (t : Nat) (c : RankCfg) (d : Dev) : Dev.keeps ⟨[], [F.PL_DWELL_CFG_DT_COMP, F.PL_DWELL_CFG_PULSE_MODE,
    F.PL_DWELL_CFG_T_DEAD, F.PL_DWELL_CFG_T_DWELL, F.PL_DWELL_CFG_T_MINP, F.PL_RANK_CFG_BAND, F.PL_RANK_CFG_ECHO_N,
    F.PL_RANK_CFG_REPORT_HOLD, F.PL_RANK_CFG_SWAP_MAX], []⟩ d (Dev.showRank t c d) := by
  unfold Dev.showRank
  dsimp -proj only
  refine Dev.keeps_set _ _ _ _ (by decide +kernel) ?_
  refine Dev.keeps_set _ _ _ _ (by decide +kernel) ?_
  refine Dev.keeps_set _ _ _ _ (by decide +kernel) ?_
  refine Dev.keeps_flag _ _ _ _ (by decide +kernel) ?_
  refine Dev.keeps_set _ _ _ _ (by decide +kernel) ?_
  refine Dev.keeps_set _ _ _ _ (by decide +kernel) ?_
  refine Dev.keeps_set _ _ _ _ (by decide +kernel) ?_
  refine Dev.keeps_set _ _ _ _ (by decide +kernel) ?_
  refine Dev.keeps_set _ _ _ _ (by decide +kernel) ?_
  exact Dev.keeps_refl _ _

theorem Dev.showTables_keeps (g : Nat) (d : Dev) : Dev.keeps ⟨[], [F.GP_SPSRC_USED, F.GP_SPSRC_WORD, F.PL_DWELL_CFG_DT_COMP,
    F.PL_DWELL_CFG_PULSE_MODE, F.PL_DWELL_CFG_T_DEAD, F.PL_DWELL_CFG_T_DWELL, F.PL_DWELL_CFG_T_MINP, F.PL_RANK_CFG_BAND,
    F.PL_RANK_CFG_ECHO_N, F.PL_RANK_CFG_REPORT_HOLD, F.PL_RANK_CFG_SWAP_MAX], []⟩ d (Dev.showTables g d) := by
  unfold Dev.showTables
  dsimp -proj only
  refine Dev.keeps_foldl _ _ ?_ ?_
  · intro _ _
    refine Dev.keeps_step (by decide +kernel) (Dev.showBind_keeps ..) ?_
    exact Dev.keeps_refl _ _
  · refine Dev.keeps_foldl _ _ ?_ ?_
    · intro _ _
      refine Dev.keeps_step (by decide +kernel) (Dev.showRank_keeps ..) ?_
      exact Dev.keeps_refl _ _
    · exact Dev.keeps_refl _ _

theorem Dev.latchCmd_keeps (g : Nat) (k : Nat) (d : Dev) : Dev.keeps ⟨[.out, .grps, .cm], [F.CM_LANE_CTL_BUSY, F.CM_LANE_CTL_RESULT,
    F.CM_LANE_STAT_CDR_LOCK, F.CM_LANE_STAT_LOOP, F.CM_LANE_STAT_LOOP_HOPS, F.CM_LANE_STAT_STATE, F.CM_LANE_STAT_TX_IDLE,
    F.GP_MODE_STATUS_PENDING, F.GP_MODE_STATUS_RESULT, F.GP_MODE_STATUS_TAG], []⟩ d (Dev.latchCmd g k d) := by
  unfold Dev.latchCmd
  dsimp -proj only
  split
  · refine Dev.keeps_step (by decide +kernel) (Dev.modGrp_keeps ..) ?_
    exact Dev.keeps_refl _ _
  · refine Dev.keeps_ite ?_ ?_
    · refine Dev.keeps_set _ _ _ _ (by decide +kernel) ?_
      refine Dev.keeps_set _ _ _ _ (by decide +kernel) ?_
      refine Dev.keeps_flag _ _ _ _ (by decide +kernel) ?_
      refine Dev.keeps_step (by decide +kernel) (Dev.modGrp_keeps ..) ?_
      exact Dev.keeps_refl _ _
    · refine Dev.keeps_ite ?_ ?_
      · refine Dev.keeps_each _ _ ?_ ?_
        · intro _ _
          refine Dev.keeps_step (by decide +kernel) (Dev.endLoop_keeps ..) ?_
          refine Dev.keeps_step (by decide +kernel) (Dev.endLoop_keeps ..) ?_
          exact Dev.keeps_refl _ _
        · refine Dev.keeps_step (by decide +kernel) (Dev.modGrp_keeps ..) ?_
          refine Dev.keeps_flag _ _ _ _ (by decide +kernel) ?_
          refine Dev.keeps_step (by decide +kernel) (Dev.modGrp_keeps ..) ?_
          exact Dev.keeps_refl _ _
      · refine Dev.keeps_step (by decide +kernel) (Dev.modGrp_keeps ..) ?_
        refine Dev.keeps_flag _ _ _ _ (by decide +kernel) ?_
        refine Dev.keeps_step (by decide +kernel) (Dev.modGrp_keeps ..) ?_
        exact Dev.keeps_refl _ _

theorem Dev.latchSp_keeps (g : Nat) (k : Nat) (d : Dev) : Dev.keeps ⟨[.out, .grps, .host], [F.GP_MODE_STATUS_SP_VALID,
    F.GP_SP_ACTIVE_VALUE, F.GP_SP_LATCHED_CYCLE, F.GP_SP_STATUS_CLAMPED, F.GP_SP_STATUS_LATCHED_TAG, F.GP_SP_STATUS_PENDING,
    F.HC_IRQ_STAT_STAT], []⟩ d (Dev.latchSp g k d) := by
  unfold Dev.latchSp
  dsimp -proj only
  refine Dev.keeps_each _ _ ?_ ?_
  · intro _ _
    refine Dev.keeps_set _ _ _ _ (by decide +kernel) ?_
    exact Dev.keeps_refl _ _
  · refine Dev.keeps_step (by decide +kernel) (Dev.modGrp_keeps ..) ?_
    split
    · refine Dev.keeps_step (by decide +kernel) (Dev.eventAll_keeps ..) ?_
      refine Dev.keeps_flag _ _ _ _ (by decide +kernel) ?_
      refine Dev.keeps_set _ _ _ _ (by decide +kernel) ?_
      refine Dev.keeps_set _ _ _ _ (by decide +kernel) ?_
      refine Dev.keeps_flag _ _ _ _ (by decide +kernel) ?_
      refine Dev.keeps_ite ?_ ?_
      · refine Dev.keeps_flag _ _ _ _ (by decide +kernel) ?_
        refine Dev.keeps_step (by decide +kernel) (Dev.modGrp_keeps ..) ?_
        exact Dev.keeps_refl _ _
      · refine Dev.keeps_step (by decide +kernel) (Dev.modGrp_keeps ..) ?_
        exact Dev.keeps_refl _ _
    · exact Dev.keeps_refl _ _

theorem Dev.openCourse_keeps (c : Nat) (d : Dev) : Dev.keeps ⟨[.cm], [], []⟩ d (Dev.openCourse c d) := by
  unfold Dev.openCourse
  dsimp -proj only
  refine Dev.keeps_step (by decide +kernel) (Dev.modCrs_keeps ..) ?_
  refine Dev.keeps_cm _ (by decide +kernel) ?_
  exact Dev.keeps_refl _ _

theorem Dev.openTile_keeps (k : Nat) (ct : Nat) (t : Nat) (d : Dev) : Dev.keeps ⟨[.tp], [F.PL_CYCLE_NUMBER, F.PL_OPEN_HI_OPEN_HI,
    F.PL_OPEN_LO_OPEN_LO, F.PL_STATUS_RUNNING], []⟩ d (Dev.openTile k ct t d) := by
  unfold Dev.openTile
  dsimp -proj only
  refine Dev.keeps_tp _ (by decide +kernel) ?_
  refine Dev.keeps_flag _ _ _ _ (by decide +kernel) ?_
  refine Dev.keeps_set _ _ _ _ (by decide +kernel) ?_
  refine Dev.keeps_set _ _ _ _ (by decide +kernel) ?_
  refine Dev.keeps_set _ _ _ _ (by decide +kernel) ?_
  exact Dev.keeps_refl _ _

theorem Dev.refuseMode_keeps (g : Nat) (code : Nat) (tag : Nat) (d : Dev) : Dev.keeps ⟨[], [F.GP_MODE_STATUS_RESULT, F.GP_MODE_STATUS_TAG,
    F.GP_REFUSALS_COUNT], []⟩ d (Dev.refuseMode g code tag d) := by
  unfold Dev.refuseMode
  refine Dev.keeps_count _ _ _ (by decide +kernel) ?_
  refine Dev.keeps_set _ _ _ _ (by decide +kernel) ?_
  refine Dev.keeps_set _ _ _ _ (by decide +kernel) ?_
  exact Dev.keeps_refl _ _

theorem Dev.showSources_keeps (g : Nat) (d : Dev) : Dev.keeps ⟨[.fc], [F.FC_COND_COND, F.GP_SPSRC_FALLBACK, F.GP_SPSRC_LOST,
    F.GP_SPSRC_VALUE], []⟩ d (Dev.showSources g d) := by
  unfold Dev.showSources
  dsimp -proj only
  refine Dev.keeps_step (by decide +kernel) (Dev.cond_keeps ..) ?_
  refine Dev.keeps_foldl _ _ ?_ ?_
  · intro _ _
    refine Dev.keeps_set _ _ _ _ (by decide +kernel) ?_
    refine Dev.keeps_flag _ _ _ _ (by decide +kernel) ?_
    refine Dev.keeps_flag _ _ _ _ (by decide +kernel) ?_
    exact Dev.keeps_refl _ _
  · exact Dev.keeps_refl _ _

theorem Dev.sourceFaults_keeps (g : Nat) (d : Dev) : Dev.keeps ⟨[.grps, .fc], [F.FC_COND_COND, F.GP_SPSRC_FALLBACK, F.GP_SPSRC_LOST,
    F.GP_SPSRC_RAISED, F.GP_SPSRC_VALUE], []⟩ d (Dev.sourceFaults g d) := by
  unfold Dev.sourceFaults
  dsimp -proj only
  refine Dev.keeps_step (by decide +kernel) (Dev.showSources_keeps ..) ?_
  refine Dev.keeps_each _ _ ?_ ?_
  · intro _ _
    refine Dev.keeps_flag _ _ _ _ (by decide +kernel) ?_
    refine Dev.keeps_step (by decide +kernel) (Dev.modGrp_keeps ..) ?_
    exact Dev.keeps_refl _ _
  · exact Dev.keeps_refl _ _

theorem Dev.sourcesAt_keeps (g : Nat) (openDev : Nat) (d : Dev) : Dev.keeps ⟨[.grps, .fc], [F.FC_COND_COND, F.GP_SPSRC_FALLBACK,
    F.GP_SPSRC_LOST, F.GP_SPSRC_RAISED, F.GP_SPSRC_VALUE], []⟩ d (Dev.sourcesAt g openDev d) := by
  unfold Dev.sourcesAt
  dsimp -proj only
  refine Dev.keeps_step (by decide +kernel) (Dev.sourceFaults_keeps ..) ?_
  refine Dev.keeps_step (by decide +kernel) (Dev.modGrp_keeps ..) ?_
  exact Dev.keeps_refl _ _

theorem Dev.startShadow_keeps (g : Nat) (d : Dev) : Dev.keeps ⟨[.tp, .fc], [F.FC_COND_COND, F.GL_READY_TRIPLEX, F.TP_CH_STATE,
    F.TP_CMD_BUSY, F.TP_PROOF_RESULT, F.TP_PROOF_STATE, F.TP_PROOF_STEP, F.TP_STATE_DONOR, F.TP_STATE_FENCED, F.TP_STATE_IN_SERVICE,
    F.TP_STATE_RESYNC, F.TP_STATE_SIMPLEX_MS, F.TP_STATE_STATE], []⟩ d (Dev.startShadow g d) := by
  unfold Dev.startShadow
  dsimp -proj only
  split
  · refine Dev.keeps_ite ?_ ?_
    · refine Dev.keeps_ite ?_ ?_
      · refine Dev.keeps_step (by decide +kernel) (Dev.setCh_keeps ..) ?_
        refine Dev.keeps_tp _ (by decide +kernel) ?_
        exact Dev.keeps_refl _ _
      · refine Dev.keeps_tp _ (by decide +kernel) ?_
        exact Dev.keeps_refl _ _
    · exact Dev.keeps_refl _ _
  · exact Dev.keeps_refl _ _

theorem Dev.takeMode_keeps (g : Nat) (c : ModeCmd) (d : Dev) : Dev.keeps ⟨[.grps], [F.GP_MODE_STATUS_PENDING, F.GP_MODE_STATUS_RESULT,
    F.GP_MODE_STATUS_TAG], []⟩ d (Dev.takeMode g c d) := by
  unfold Dev.takeMode
  dsimp -proj only
  refine Dev.keeps_flag _ _ _ _ (by decide +kernel) ?_
  refine Dev.keeps_step (by decide +kernel) (Dev.modGrp_keeps ..) ?_
  split
  · refine Dev.keeps_set _ _ _ _ (by decide +kernel) ?_
    refine Dev.keeps_set _ _ _ _ (by decide +kernel) ?_
    exact Dev.keeps_refl _ _
  · exact Dev.keeps_refl _ _

theorem Dev.writeBricks_keeps (g : Nat) (index : Nat) (value : Nat) (d : Dev) : Dev.keeps ⟨[.out, .cm, .dma], [], []⟩ d (Dev.writeBricks g
    index value d) := by
  unfold Dev.writeBricks
  refine Dev.keeps_each _ _ ?_ ?_
  · intro _ _
    refine Dev.keeps_step (by decide +kernel) (Dev.pump_keeps ..) ?_
    refine Dev.keeps_step (by decide +kernel) (Dev.ask_keeps ..) ?_
    exact Dev.keeps_refl _ _
  · exact Dev.keeps_refl _ _

theorem Dev.writeTracking_keeps (g : Nat) (d : Dev) : Dev.keeps ⟨[.out, .cm, .dma], [], []⟩ d (Dev.writeTracking g d) := by
  unfold Dev.writeTracking
  dsimp -proj only
  refine Dev.keeps_step (by decide +kernel) (Dev.writeBricks_keeps ..) ?_
  refine Dev.keeps_step (by decide +kernel) (Dev.writeBricks_keeps ..) ?_
  refine Dev.keeps_step (by decide +kernel) (Dev.writeBricks_keeps ..) ?_
  exact Dev.keeps_refl _ _

theorem Dev.takeTables_keeps (g : Nat) (t : Nat) (d : Dev) : Dev.keeps ⟨[.out, .mo, .grps, .cm, .dma], [F.GP_SPSRC_USED, F.GP_SPSRC_WORD,
    F.MO_CMD_BUSY, F.MO_LIVE_AT_HI_AT_HI, F.MO_LIVE_AT_LO_AT_LO, F.MO_LIVE_STATE, F.PL_DWELL_CFG_DT_COMP, F.PL_DWELL_CFG_PULSE_MODE,
    F.PL_DWELL_CFG_T_DEAD, F.PL_DWELL_CFG_T_DWELL, F.PL_DWELL_CFG_T_MINP, F.PL_RANK_CFG_BAND, F.PL_RANK_CFG_ECHO_N,
    F.PL_RANK_CFG_REPORT_HOLD, F.PL_RANK_CFG_SWAP_MAX], []⟩ d (Dev.takeTables g t d) := by
  unfold Dev.takeTables
  dsimp -proj only
  split
  · refine Dev.keeps_ite ?_ ?_
    · split
      · refine Dev.keeps_ite ?_ ?_
        · refine Dev.keeps_flag _ _ _ _ (by decide +kernel) ?_
          refine Dev.keeps_set _ _ _ _ (by decide +kernel) ?_
          refine Dev.keeps_mo _ (by decide +kernel) ?_
          split
          · refine Dev.keeps_mo _ (by decide +kernel) ?_
            refine Dev.keeps_ite ?_ ?_
            · refine Dev.keeps_step (by decide +kernel) (Dev.writeTracking_keeps ..) ?_
              refine Dev.keeps_step (by decide +kernel) (Dev.showTables_keeps ..) ?_
              refine Dev.keeps_step (by decide +kernel) (Dev.modGrp_keeps ..) ?_
              exact Dev.keeps_refl _ _
            · refine Dev.keeps_step (by decide +kernel) (Dev.showTables_keeps ..) ?_
              refine Dev.keeps_step (by decide +kernel) (Dev.modGrp_keeps ..) ?_
              exact Dev.keeps_refl _ _
          · refine Dev.keeps_ite ?_ ?_
            · refine Dev.keeps_step (by decide +kernel) (Dev.writeTracking_keeps ..) ?_
              refine Dev.keeps_step (by decide +kernel) (Dev.showTables_keeps ..) ?_
              refine Dev.keeps_step (by decide +kernel) (Dev.modGrp_keeps ..) ?_
              exact Dev.keeps_refl _ _
            · refine Dev.keeps_step (by decide +kernel) (Dev.showTables_keeps ..) ?_
              refine Dev.keeps_step (by decide +kernel) (Dev.modGrp_keeps ..) ?_
              exact Dev.keeps_refl _ _
        · refine Dev.keeps_set _ _ _ _ (by decide +kernel) ?_
          refine Dev.keeps_set _ _ _ _ (by decide +kernel) ?_
          refine Dev.keeps_mo _ (by decide +kernel) ?_
          split
          · refine Dev.keeps_mo _ (by decide +kernel) ?_
            refine Dev.keeps_ite ?_ ?_
            · refine Dev.keeps_step (by decide +kernel) (Dev.writeTracking_keeps ..) ?_
              refine Dev.keeps_step (by decide +kernel) (Dev.showTables_keeps ..) ?_
              refine Dev.keeps_step (by decide +kernel) (Dev.modGrp_keeps ..) ?_
              exact Dev.keeps_refl _ _
            · refine Dev.keeps_step (by decide +kernel) (Dev.showTables_keeps ..) ?_
              refine Dev.keeps_step (by decide +kernel) (Dev.modGrp_keeps ..) ?_
              exact Dev.keeps_refl _ _
          · refine Dev.keeps_ite ?_ ?_
            · refine Dev.keeps_step (by decide +kernel) (Dev.writeTracking_keeps ..) ?_
              refine Dev.keeps_step (by decide +kernel) (Dev.showTables_keeps ..) ?_
              refine Dev.keeps_step (by decide +kernel) (Dev.modGrp_keeps ..) ?_
              exact Dev.keeps_refl _ _
            · refine Dev.keeps_step (by decide +kernel) (Dev.showTables_keeps ..) ?_
              refine Dev.keeps_step (by decide +kernel) (Dev.modGrp_keeps ..) ?_
              exact Dev.keeps_refl _ _
      · refine Dev.keeps_ite ?_ ?_
        · refine Dev.keeps_step (by decide +kernel) (Dev.writeTracking_keeps ..) ?_
          refine Dev.keeps_step (by decide +kernel) (Dev.showTables_keeps ..) ?_
          refine Dev.keeps_step (by decide +kernel) (Dev.modGrp_keeps ..) ?_
          exact Dev.keeps_refl _ _
        · refine Dev.keeps_step (by decide +kernel) (Dev.showTables_keeps ..) ?_
          refine Dev.keeps_step (by decide +kernel) (Dev.modGrp_keeps ..) ?_
          exact Dev.keeps_refl _ _
    · exact Dev.keeps_refl _ _
  · exact Dev.keeps_refl _ _

theorem Dev.until'_keeps (t : Nat) (d : Dev) : Dev.keeps ⟨[.clk], [], []⟩ d (Dev.until' t d) := by
  unfold Dev.until'
  refine Dev.keeps_ite ?_ ?_
  · refine Dev.keeps_step (by decide +kernel) (Dev.elapse_keeps ..) ?_
    exact Dev.keeps_refl _ _
  · exact Dev.keeps_refl _ _

theorem cycleOpening_keeps (g : Nat) (d : Dev) : Dev.keeps ⟨[.out, .clk, .mo, .grps, .tp, .cm, .si, .fc, .host, .dma],
    [F.CM_LANE_CTL_BUSY, F.CM_LANE_CTL_RESULT, F.CM_LANE_STAT_CDR_LOCK, F.CM_LANE_STAT_LOOP, F.CM_LANE_STAT_LOOP_HOPS,
    F.CM_LANE_STAT_STATE, F.CM_LANE_STAT_TX_IDLE, F.FC_COND_COND, F.GL_READY_TRIPLEX, F.GP_MODE_DEGRADED, F.GP_MODE_STATUS_PENDING,
    F.GP_MODE_STATUS_RESULT, F.GP_MODE_STATUS_SP_VALID, F.GP_MODE_STATUS_TAG, F.GP_SPSRC_FALLBACK, F.GP_SPSRC_LOST, F.GP_SPSRC_RAISED,
    F.GP_SPSRC_USED, F.GP_SPSRC_VALUE, F.GP_SPSRC_WORD, F.GP_SP_ACTIVE_VALUE, F.GP_SP_LATCHED_CYCLE, F.GP_SP_STATUS_CLAMPED,
    F.GP_SP_STATUS_LATCHED_TAG, F.GP_SP_STATUS_PENDING, F.HC_IRQ_STAT_STAT, F.MO_CMD_BUSY, F.MO_LIVE_AT_HI_AT_HI, F.MO_LIVE_AT_LO_AT_LO,
    F.MO_LIVE_STATE, F.PL_CYCLE_NUMBER, F.PL_DWELL_CFG_DT_COMP, F.PL_DWELL_CFG_PULSE_MODE, F.PL_DWELL_CFG_T_DEAD, F.PL_DWELL_CFG_T_DWELL,
    F.PL_DWELL_CFG_T_MINP, F.PL_OPEN_HI_OPEN_HI, F.PL_OPEN_LO_OPEN_LO, F.PL_RANK_CFG_BAND, F.PL_RANK_CFG_ECHO_N,
    F.PL_RANK_CFG_REPORT_HOLD, F.PL_RANK_CFG_SWAP_MAX, F.PL_STATUS_RUNNING, F.SI_GO_IN_W0_VALUE_LO, F.SI_GO_IN_W1_VALUE_HI,
    F.SI_GO_IN_W2_VALID_LO, F.SI_GO_IN_W3_VALID_HI, F.TP_CH_STATE, F.TP_CMD_BUSY, F.TP_PROOF_RESULT, F.TP_PROOF_STATE, F.TP_PROOF_STEP,
    F.TP_STATE_DONOR, F.TP_STATE_FENCED, F.TP_STATE_IN_SERVICE, F.TP_STATE_RESYNC, F.TP_STATE_SIMPLEX_MS, F.TP_STATE_STATE], []⟩ d
    (cycleOpening g d) := by
  unfold cycleOpening
  dsimp -proj only
  refine Dev.keeps_ite ?_ ?_
  · exact Dev.keeps_refl _ _
  · refine Dev.keeps_step (by decide +kernel) (Dev.startShadow_keeps ..) ?_
    refine Dev.keeps_each _ _ ?_ ?_
    · intro _ _
      refine Dev.keeps_step (by decide +kernel) (Dev.takeCal_keeps ..) ?_
      exact Dev.keeps_refl _ _
    · refine Dev.keeps_each _ _ ?_ ?_
      · intro _ _
        refine Dev.keeps_step (by decide +kernel) (Dev.openCourse_keeps ..) ?_
        exact Dev.keeps_refl _ _
      · refine Dev.keeps_foldl _ _ ?_ ?_
        · intro _ _
          refine Dev.keeps_step (by decide +kernel) (Dev.openTile_keeps ..) ?_
          exact Dev.keeps_refl _ _
        · refine Dev.keeps_step (by decide +kernel) (Dev.showGi_keeps ..) ?_
          refine Dev.keeps_flag _ _ _ _ (by decide +kernel) ?_
          refine Dev.keeps_step (by decide +kernel) (Dev.latchCmd_keeps ..) ?_
          refine Dev.keeps_step (by decide +kernel) (Dev.latchSp_keeps ..) ?_
          refine Dev.keeps_step (by decide +kernel) (Dev.sourcesAt_keeps ..) ?_
          refine Dev.keeps_step (by decide +kernel) (Dev.takeTables_keeps ..) ?_
          refine Dev.keeps_step (by decide +kernel) (Dev.modGrp_keeps ..) ?_
          refine Dev.keeps_step (by decide +kernel) (Dev.until'_keeps ..) ?_
          exact Dev.keeps_refl _ _

theorem harvestScan_keeps (x : Nat) (g : Nat) (d : Dev) : Dev.keeps ⟨[.out, .grps, .cm, .dma], [F.GP_HARVEST_CMD_RESULT,
    F.HC_CTX_REFADDR_BAR2, F.HC_CTX_REFADDR_CAUSE, F.HC_CTX_REFADDR_OFFSET, F.HC_CTX_REFADDR_WRITE, F.HC_CTX_STAT_PARTIAL,
    F.HC_CTX_STAT_REFUSED], []⟩ d (harvestScan x g d) := by
  unfold harvestScan
  dsimp -proj only
  refine Dev.keeps_trans (Dev.hostWrite_keeps (by decide +kernel) _ _ _ _ ?_) ?_
  · intro _
    refine Dev.keeps_ite ?_ ?_
    · refine Dev.keeps_set _ _ _ _ (by decide +kernel) ?_
      exact Dev.keeps_refl _ _
    · refine Dev.keeps_ite ?_ ?_
      · refine Dev.keeps_step (by decide +kernel) (Dev.writeBricks_keeps ..) ?_
        refine Dev.keeps_set _ _ _ _ (by decide +kernel) ?_
        exact Dev.keeps_refl _ _
      · refine Dev.keeps_step (by decide +kernel) (Dev.modGrp_keeps ..) ?_
        refine Dev.keeps_set _ _ _ _ (by decide +kernel) ?_
        exact Dev.keeps_refl _ _
  · exact Dev.keeps_refl _ _

theorem modeCommand_keeps (x : Nat) (g : Nat) (target : Nat) (tag : Nat) (d : Dev) : Dev.keeps ⟨[.grps], [F.GP_MODE_STATUS_PENDING,
    F.GP_MODE_STATUS_RESULT, F.GP_MODE_STATUS_TAG, F.GP_REFUSALS_COUNT, F.HC_CTX_REFADDR_BAR2, F.HC_CTX_REFADDR_CAUSE,
    F.HC_CTX_REFADDR_OFFSET, F.HC_CTX_REFADDR_WRITE, F.HC_CTX_STAT_PARTIAL, F.HC_CTX_STAT_REFUSED], []⟩ d (modeCommand x g target tag d)
    := by
  unfold modeCommand
  dsimp -proj only
  refine Dev.keeps_trans (Dev.hostWrite_keeps (by decide +kernel) _ _ _ _ ?_) ?_
  · intro _
    split
    · refine Dev.keeps_step (by decide +kernel) (Dev.refuseMode_keeps ..) ?_
      refine Dev.keeps_step (by decide +kernel) (Dev.modGrp_keeps ..) ?_
      exact Dev.keeps_refl _ _
    · refine Dev.keeps_step (by decide +kernel) (Dev.takeMode_keeps ..) ?_
      refine Dev.keeps_step (by decide +kernel) (Dev.modGrp_keeps ..) ?_
      exact Dev.keeps_refl _ _
  · exact Dev.keeps_refl _ _

theorem setpointCommit_keeps (x : Nat) (g : Nat) (tag : Nat) (d : Dev) : Dev.keeps ⟨[.grps], [F.GP_SP_STATUS_BAD_WORD,
    F.GP_SP_STATUS_PENDING, F.GP_SP_STATUS_RESULT, F.GP_SP_STATUS_SUPERSEDED, F.HC_CTX_REFADDR_BAR2, F.HC_CTX_REFADDR_CAUSE,
    F.HC_CTX_REFADDR_OFFSET, F.HC_CTX_REFADDR_WRITE, F.HC_CTX_STAT_PARTIAL, F.HC_CTX_STAT_REFUSED], []⟩ d (setpointCommit x g tag d) := by
  unfold setpointCommit
  dsimp -proj only
  refine Dev.keeps_trans (Dev.hostWrite_keeps (by decide +kernel) _ _ _ _ ?_) ?_
  · intro _
    refine Dev.keeps_ite ?_ ?_
    · refine Dev.keeps_set _ _ _ _ (by decide +kernel) ?_
      refine Dev.keeps_step (by decide +kernel) (Dev.modGrp_keeps ..) ?_
      exact Dev.keeps_refl _ _
    · split
      · refine Dev.keeps_set _ _ _ _ (by decide +kernel) ?_
        refine Dev.keeps_set _ _ _ _ (by decide +kernel) ?_
        refine Dev.keeps_step (by decide +kernel) (Dev.modGrp_keeps ..) ?_
        exact Dev.keeps_refl _ _
      · refine Dev.keeps_set _ _ _ _ (by decide +kernel) ?_
        refine Dev.keeps_flag _ _ _ _ (by decide +kernel) ?_
        refine Dev.keeps_step (by decide +kernel) (Dev.modGrp_keeps ..) ?_
        refine Dev.keeps_ite ?_ ?_
        · refine Dev.keeps_count _ _ _ (by decide +kernel) ?_
          refine Dev.keeps_step (by decide +kernel) (Dev.modGrp_keeps ..) ?_
          exact Dev.keeps_refl _ _
        · refine Dev.keeps_step (by decide +kernel) (Dev.modGrp_keeps ..) ?_
          exact Dev.keeps_refl _ _
  · exact Dev.keeps_refl _ _

theorem setpointSourceLoss_keeps (g : Nat) (d : Dev) : Dev.keeps ⟨[.grps, .fc], [F.FC_COND_COND, F.GP_SPSRC_FALLBACK, F.GP_SPSRC_LOST,
    F.GP_SPSRC_RAISED, F.GP_SPSRC_VALUE], []⟩ d (setpointSourceLoss g d) := by
  unfold setpointSourceLoss
  refine Dev.keeps_ite ?_ ?_
  · refine Dev.keeps_step (by decide +kernel) (Dev.sourceFaults_keeps ..) ?_
    exact Dev.keeps_refl _ _
  · exact Dev.keeps_refl _ _

theorem setpointSourceReturn_keeps (g : Nat) (s : Nat) (d : Dev) : Dev.keeps ⟨[.grps, .fc], [F.FC_COND_COND, F.GP_SPSRC_FALLBACK,
    F.GP_SPSRC_LOST, F.GP_SPSRC_VALUE], []⟩ d (setpointSourceReturn g s d) := by
  unfold setpointSourceReturn
  dsimp -proj only
  split
  · refine Dev.keeps_step (by decide +kernel) (Dev.showSources_keeps ..) ?_
    refine Dev.keeps_step (by decide +kernel) (Dev.modGrp_keeps ..) ?_
    exact Dev.keeps_refl _ _
  · exact Dev.keeps_refl _ _

end Sys2Proof.Machine
end

