-- ==== Sys2Proof/Laws/KeepsBuild.lean ====
section
/-! SUPPORT. What the operations of Machine/Build.lean may change at most, one lemma each. -/

namespace Sys2Proof.Machine

set_option Elab.async false

theorem Dev.loadReact_keeps (f : FaultsCfg) (d : Dev) : Dev.keeps ⟨[.fc], [F.FC_REACT_ERR, F.FC_REACT_GROUPS, F.FC_REACT_REACTION], []⟩ d
    (Dev.loadReact f d) := by
  unfold Dev.loadReact
  dsimp -proj only
  refine Dev.keeps_foldl _ _ ?_ ?_
  · intro _ _
    refine Dev.keeps_ite ?_ ?_
    · refine Dev.keeps_set _ _ _ _ (by decide +kernel) ?_
      refine Dev.keeps_flag _ _ _ _ (by decide +kernel) ?_
      refine Dev.keeps_set _ _ _ _ (by decide +kernel) ?_
      exact Dev.keeps_refl _ _
    · exact Dev.keeps_refl _ _
  · refine Dev.keeps_fc _ (by decide +kernel) ?_
    exact Dev.keeps_refl _ _

theorem Dev.showJournal_keeps (d : Dev) : Dev.keeps ⟨[], [F.MO_JOURNAL_FILL, F.MO_JOURNAL_HALF, F.MO_JOURNAL_PENDING], []⟩ d
    (Dev.showJournal d) := by
  unfold Dev.showJournal
  dsimp -proj only
  refine Dev.keeps_flag _ _ _ _ (by decide +kernel) ?_
  refine Dev.keeps_set _ _ _ _ (by decide +kernel) ?_
  refine Dev.keeps_set _ _ _ _ (by decide +kernel) ?_
  exact Dev.keeps_refl _ _

theorem Dev.buildGroup_keeps (s : Structure) (b : ImageBody) (l : List Packet) (g : Nat) (d : Dev) : Dev.keeps ⟨[.grps], [], []⟩ d
    (Dev.buildGroup s b l g d) := by
  unfold Dev.buildGroup
  dsimp -proj only
  split
  · refine Dev.keeps_step (by decide +kernel) (Dev.modGrp_keeps ..) ?_
    exact Dev.keeps_refl _ _
  · refine Dev.keeps_step (by decide +kernel) (Dev.modGrp_keeps ..) ?_
    exact Dev.keeps_refl _ _

theorem Dev.buildIntake_keeps (s : StreamsCfg) (d : Dev) : Dev.keeps ⟨[.si, .dma], [F.LM_CFG_DELAY, F.LM_CFG_EVT, F.LM_CFG_GROUP,
    F.LM_CFG_NENTRIES, F.LM_CFG_TRIG, F.LM_CONT_N_N, F.LM_CONT_T0_T0, F.SI_GO_IN_W0_VALUE_LO, F.SI_GO_IN_W1_VALUE_HI,
    F.SI_GO_IN_W2_VALID_LO, F.SI_GO_IN_W3_VALID_HI, F.SI_GO_PUB_USED, F.SI_GO_SUB_USED, F.SI_SV_STAT_W0_STATE], []⟩ d (Dev.buildIntake s
    d) := by
  unfold Dev.buildIntake
  dsimp -proj only
  refine Dev.keeps_each _ _ ?_ ?_
  · intro _ _
    refine Dev.keeps_ite ?_ ?_
    · refine Dev.keeps_step (by decide +kernel) (Dev.contApply_keeps ..) ?_
      refine Dev.keeps_step (by decide +kernel) (Dev.takeCal_keeps ..) ?_
      refine Dev.keeps_set _ _ _ _ (by decide +kernel) ?_
      refine Dev.keeps_set _ _ _ _ (by decide +kernel) ?_
      refine Dev.keeps_set _ _ _ _ (by decide +kernel) ?_
      refine Dev.keeps_set _ _ _ _ (by decide +kernel) ?_
      refine Dev.keeps_set _ _ _ _ (by decide +kernel) ?_
      exact Dev.keeps_refl _ _
    · refine Dev.keeps_step (by decide +kernel) (Dev.takeCal_keeps ..) ?_
      refine Dev.keeps_set _ _ _ _ (by decide +kernel) ?_
      refine Dev.keeps_set _ _ _ _ (by decide +kernel) ?_
      refine Dev.keeps_set _ _ _ _ (by decide +kernel) ?_
      refine Dev.keeps_set _ _ _ _ (by decide +kernel) ?_
      refine Dev.keeps_set _ _ _ _ (by decide +kernel) ?_
      exact Dev.keeps_refl _ _
  · refine Dev.keeps_each _ _ ?_ ?_
    · intro _ _
      refine Dev.keeps_flag _ _ _ _ (by decide +kernel) ?_
      exact Dev.keeps_refl _ _
    · refine Dev.keeps_each _ _ ?_ ?_
      · intro _ _
        refine Dev.keeps_flag _ _ _ _ (by decide +kernel) ?_
        exact Dev.keeps_refl _ _
      · refine Dev.keeps_each _ _ ?_ ?_
        · intro _ _
          refine Dev.keeps_set _ _ _ _ (by decide +kernel) ?_
          exact Dev.keeps_refl _ _
        · refine Dev.keeps_step (by decide +kernel) (Dev.showGi_keeps ..) ?_
          refine Dev.keeps_si _ (by decide +kernel) ?_
          refine Dev.keeps_foldl _ _ ?_ ?_
          · intro _ _
            refine Dev.keeps_foldl _ _ ?_ ?_
            · intro _ _
              refine Dev.keeps_step (by decide +kernel) (Dev.giDefault_keeps ..) ?_
              exact Dev.keeps_refl _ _
            · exact Dev.keeps_refl _ _
          · refine Dev.keeps_each _ _ ?_ ?_
            · intro _ _
              refine Dev.keeps_ite ?_ ?_
              · exact Dev.keeps_refl _ _
              · refine Dev.keeps_step (by decide +kernel) (Dev.modDma_keeps ..) ?_
                exact Dev.keeps_refl _ _
            · refine Dev.keeps_si _ (by decide +kernel) ?_
              exact Dev.keeps_refl _ _

theorem Dev.buildTime_keeps (t : TimeCfg) (d : Dev) : Dev.keeps ⟨[.out, .tb, .fc, .host], [F.FC_COND_COND, F.GL_READY_PTP,
    F.HC_IRQ_STAT_STAT, F.SI_PORT_MODE, F.TB_EVT_CFG_EDGE, F.TB_EVT_CFG_FILTER, F.TB_HOLD_SECONDS, F.TB_PPS_WIDTH, F.TB_PTP_PORT_W0_STATE,
    F.TB_PTP_PORT_W2_ASYM, F.TB_SERVO_CFG_CLOCK, F.TB_SERVO_CFG_DOMAIN, F.TB_SERVO_CFG_MODE, F.TB_SERVO_CFG_PROFILE,
    F.TB_SERVO_CFG_SLAVE_ONLY, F.TB_SERVO_CFG_SLEW_MAX, F.TB_SERVO_DEFERRED, F.TB_SERVO_STATE, F.TB_STATUS_PPS_TRACE,
    F.TB_STATUS_SV_SUSPECT, F.TB_TIO_W0_GROUP, F.TB_TIO_W0_MODE, F.TB_TIO_W3_PENDING], []⟩ d (Dev.buildTime t d) := by
  unfold Dev.buildTime
  dsimp -proj only
  refine Dev.keeps_ite ?_ ?_
  · refine Dev.keeps_step (by decide +kernel) (Dev.setServo_keeps ..) ?_
    refine Dev.keeps_set _ _ _ _ (by decide +kernel) ?_
    refine Dev.keeps_each _ _ ?_ ?_
    · intro _ _
      refine Dev.keeps_flag _ _ _ _ (by decide +kernel) ?_
      refine Dev.keeps_set _ _ _ _ (by decide +kernel) ?_
      refine Dev.keeps_set _ _ _ _ (by decide +kernel) ?_
      exact Dev.keeps_refl _ _
    · refine Dev.keeps_each _ _ ?_ ?_
      · intro _ _
        refine Dev.keeps_set _ _ _ _ (by decide +kernel) ?_
        refine Dev.keeps_set _ _ _ _ (by decide +kernel) ?_
        exact Dev.keeps_refl _ _
      · refine Dev.keeps_each _ _ ?_ ?_
        · intro _ _
          refine Dev.keeps_set _ _ _ _ (by decide +kernel) ?_
          refine Dev.keeps_setI _ _ _ _ (by decide +kernel) ?_
          refine Dev.keeps_flag _ _ _ _ (by decide +kernel) ?_
          exact Dev.keeps_refl _ _
        · refine Dev.keeps_set _ _ _ _ (by decide +kernel) ?_
          refine Dev.keeps_set _ _ _ _ (by decide +kernel) ?_
          refine Dev.keeps_flag _ _ _ _ (by decide +kernel) ?_
          refine Dev.keeps_set _ _ _ _ (by decide +kernel) ?_
          refine Dev.keeps_flag _ _ _ _ (by decide +kernel) ?_
          refine Dev.keeps_flag _ _ _ _ (by decide +kernel) ?_
          refine Dev.keeps_tb _ (by decide +kernel) ?_
          exact Dev.keeps_refl _ _
  · refine Dev.keeps_set _ _ _ _ (by decide +kernel) ?_
    refine Dev.keeps_each _ _ ?_ ?_
    · intro _ _
      refine Dev.keeps_flag _ _ _ _ (by decide +kernel) ?_
      refine Dev.keeps_set _ _ _ _ (by decide +kernel) ?_
      refine Dev.keeps_set _ _ _ _ (by decide +kernel) ?_
      exact Dev.keeps_refl _ _
    · refine Dev.keeps_each _ _ ?_ ?_
      · intro _ _
        refine Dev.keeps_set _ _ _ _ (by decide +kernel) ?_
        refine Dev.keeps_set _ _ _ _ (by decide +kernel) ?_
        exact Dev.keeps_refl _ _
      · refine Dev.keeps_each _ _ ?_ ?_
        · intro _ _
          refine Dev.keeps_set _ _ _ _ (by decide +kernel) ?_
          refine Dev.keeps_setI _ _ _ _ (by decide +kernel) ?_
          refine Dev.keeps_flag _ _ _ _ (by decide +kernel) ?_
          exact Dev.keeps_refl _ _
        · refine Dev.keeps_set _ _ _ _ (by decide +kernel) ?_
          refine Dev.keeps_set _ _ _ _ (by decide +kernel) ?_
          refine Dev.keeps_flag _ _ _ _ (by decide +kernel) ?_
          refine Dev.keeps_set _ _ _ _ (by decide +kernel) ?_
          refine Dev.keeps_flag _ _ _ _ (by decide +kernel) ?_
          refine Dev.keeps_flag _ _ _ _ (by decide +kernel) ?_
          refine Dev.keeps_tb _ (by decide +kernel) ?_
          exact Dev.keeps_refl _ _

theorem Dev.showCourse_keeps (s : Structure) (l : LanesCfg) (c : Nat) (d : Dev) : Dev.keeps ⟨[], [F.CM_CRS_CTL_NC,
    F.CM_CRS_CTL_SPARE_UNKNOWN, F.CM_LANE_CFG_RATE, F.CM_LANE_CFG_SPREAD], []⟩ d (Dev.showCourse s l c d) := by
  unfold Dev.showCourse
  dsimp -proj only
  split
  · refine Dev.keeps_flag _ _ _ _ (by decide +kernel) ?_
    refine Dev.keeps_set _ _ _ _ (by decide +kernel) ?_
    refine Dev.keeps_flag _ _ _ _ (by decide +kernel) ?_
    refine Dev.keeps_set _ _ _ _ (by decide +kernel) ?_
    exact Dev.keeps_refl _ _
  · refine Dev.keeps_flag _ _ _ _ (by decide +kernel) ?_
    refine Dev.keeps_set _ _ _ _ (by decide +kernel) ?_
    refine Dev.keeps_flag _ _ _ _ (by decide +kernel) ?_
    refine Dev.keeps_set _ _ _ _ (by decide +kernel) ?_
    exact Dev.keeps_refl _ _

theorem Dev.showGroup_keeps (g : Nat) (d : Dev) : Dev.keeps ⟨[], [F.GP_HANDOVER_FADE_LEN, F.GP_SPSRC_USED, F.GP_SPSRC_WORD,
    F.GP_TRANS_AUTO_TO, F.GP_TRANS_EN_TO, F.PL_DWELL_CFG_DT_COMP, F.PL_DWELL_CFG_PULSE_MODE, F.PL_DWELL_CFG_T_DEAD,
    F.PL_DWELL_CFG_T_DWELL, F.PL_DWELL_CFG_T_MINP, F.PL_RANK_CFG_BAND, F.PL_RANK_CFG_ECHO_N, F.PL_RANK_CFG_REPORT_HOLD,
    F.PL_RANK_CFG_SWAP_MAX], []⟩ d (Dev.showGroup g d) := by
  unfold Dev.showGroup
  dsimp -proj only
  refine Dev.keeps_ite ?_ ?_
  · exact Dev.keeps_refl _ _
  · refine Dev.keeps_step (by decide +kernel) (Dev.showTables_keeps ..) ?_
    refine Dev.keeps_set _ _ _ _ (by decide +kernel) ?_
    refine Dev.keeps_each _ _ ?_ ?_
    · intro _ _
      refine Dev.keeps_set _ _ _ _ (by decide +kernel) ?_
      refine Dev.keeps_set _ _ _ _ (by decide +kernel) ?_
      exact Dev.keeps_refl _ _
    · exact Dev.keeps_refl _ _

theorem Dev.showLpll_keeps (l : LanesCfg) (p : Nat) (d : Dev) : Dev.keeps ⟨[], [F.TB_LPLL_CFG_DEPTH, F.TB_LPLL_CFG_MODE], []⟩ d
    (Dev.showLpll l p d) := by
  unfold Dev.showLpll
  dsimp -proj only
  refine Dev.keeps_set _ _ _ _ (by decide +kernel) ?_
  refine Dev.keeps_set _ _ _ _ (by decide +kernel) ?_
  exact Dev.keeps_refl _ _

theorem Dev.showTile_keeps (s : Structure) (t : Nat) (d : Dev) : Dev.keeps ⟨[], [F.PL_ARM_CFG_PHASE, F.PL_ARM_CFG_POSITION,
    F.PL_CFG_GROUP, F.PL_CFG_NCOURSES, F.PL_CFG_STAGES, F.PL_CFG_TYPE, F.PL_OUTER_DIV, F.PL_OUTER_MISS_LIMIT, F.PL_OUTER_PHASE,
    F.PL_TIMING_CYCLE, F.PL_TIMING_EMIT_DL, F.PL_TIMING_LEAD, F.PL_TIMING_REPORT_DL], []⟩ d (Dev.showTile s t d) := by
  unfold Dev.showTile
  dsimp -proj only
  split
  · exact Dev.keeps_refl _ _
  · refine Dev.keeps_ite ?_ ?_
    · refine Dev.keeps_set _ _ _ _ (by decide +kernel) ?_
      exact Dev.keeps_refl _ _
    · refine Dev.keeps_flag _ _ _ _ (by decide +kernel) ?_
      refine Dev.keeps_set _ _ _ _ (by decide +kernel) ?_
      refine Dev.keeps_set _ _ _ _ (by decide +kernel) ?_
      refine Dev.keeps_set _ _ _ _ (by decide +kernel) ?_
      refine Dev.keeps_set _ _ _ _ (by decide +kernel) ?_
      refine Dev.keeps_set _ _ _ _ (by decide +kernel) ?_
      refine Dev.keeps_set _ _ _ _ (by decide +kernel) ?_
      refine Dev.keeps_set _ _ _ _ (by decide +kernel) ?_
      refine Dev.keeps_set _ _ _ _ (by decide +kernel) ?_
      refine Dev.keeps_set _ _ _ _ (by decide +kernel) ?_
      refine Dev.keeps_set _ _ _ _ (by decide +kernel) ?_
      refine Dev.keeps_set _ _ _ _ (by decide +kernel) ?_
      refine Dev.keeps_set _ _ _ _ (by decide +kernel) ?_
      exact Dev.keeps_refl _ _

theorem Dev.build_keeps (a0 : Nat) (b : ImageBody) (l : List Packet) (d : Dev) : Dev.keeps ⟨[.out, .mo, .grps, .chans, .tp, .si, .tb, .fc,
    .host, .dma], [F.CM_CRS_CTL_NC, F.CM_CRS_CTL_SPARE_UNKNOWN, F.CM_LANE_CFG_RATE, F.CM_LANE_CFG_SPREAD, F.FC_COND_COND, F.FC_REACT_ERR,
    F.FC_REACT_GROUPS, F.FC_REACT_REACTION, F.GL_READY_MORTAR, F.GL_READY_PTP, F.GP_HANDOVER_FADE_LEN, F.GP_SPSRC_USED, F.GP_SPSRC_WORD,
    F.GP_TRANS_AUTO_TO, F.GP_TRANS_EN_TO, F.HC_IRQ_STAT_STAT, F.LM_CFG_DELAY, F.LM_CFG_EVT, F.LM_CFG_GROUP, F.LM_CFG_NENTRIES,
    F.LM_CFG_TRIG, F.LM_CONT_N_N, F.LM_CONT_T0_T0, F.PL_ARM_CFG_PHASE, F.PL_ARM_CFG_POSITION, F.PL_CFG_GROUP, F.PL_CFG_NCOURSES,
    F.PL_CFG_STAGES, F.PL_CFG_TYPE, F.PL_DWELL_CFG_DT_COMP, F.PL_DWELL_CFG_PULSE_MODE, F.PL_DWELL_CFG_T_DEAD, F.PL_DWELL_CFG_T_DWELL,
    F.PL_DWELL_CFG_T_MINP, F.PL_OUTER_DIV, F.PL_OUTER_MISS_LIMIT, F.PL_OUTER_PHASE, F.PL_RANK_CFG_BAND, F.PL_RANK_CFG_ECHO_N,
    F.PL_RANK_CFG_REPORT_HOLD, F.PL_RANK_CFG_SWAP_MAX, F.PL_TIMING_CYCLE, F.PL_TIMING_EMIT_DL, F.PL_TIMING_LEAD, F.PL_TIMING_REPORT_DL,
    F.SI_GO_IN_W0_VALUE_LO, F.SI_GO_IN_W1_VALUE_HI, F.SI_GO_IN_W2_VALID_LO, F.SI_GO_IN_W3_VALID_HI, F.SI_GO_PUB_USED, F.SI_GO_SUB_USED,
    F.SI_PORT_MODE, F.SI_SV_STAT_W0_STATE, F.TB_EVT_CFG_EDGE, F.TB_EVT_CFG_FILTER, F.TB_HOLD_SECONDS, F.TB_LPLL_CFG_DEPTH,
    F.TB_LPLL_CFG_MODE, F.TB_PPS_WIDTH, F.TB_PTP_PORT_W0_STATE, F.TB_PTP_PORT_W2_ASYM, F.TB_SERVO_CFG_CLOCK, F.TB_SERVO_CFG_DOMAIN,
    F.TB_SERVO_CFG_MODE, F.TB_SERVO_CFG_PROFILE, F.TB_SERVO_CFG_SLAVE_ONLY, F.TB_SERVO_CFG_SLEW_MAX, F.TB_SERVO_DEFERRED,
    F.TB_SERVO_STATE, F.TB_STATUS_PPS_TRACE, F.TB_STATUS_SV_SUSPECT, F.TB_TIO_W0_GROUP, F.TB_TIO_W0_MODE, F.TB_TIO_W3_PENDING], []⟩ d
    (Dev.build a0 b l d) := by
  unfold Dev.build
  dsimp -proj only
  split
  · exact Dev.keeps_refl _ _
  · refine Dev.keeps_flag _ _ _ _ (by decide +kernel) ?_
    refine Dev.keeps_ite ?_ ?_
    · refine Dev.keeps_step (by decide +kernel) (Dev.loadReact_keeps ..) ?_
      refine Dev.keeps_step (by decide +kernel) (Dev.buildTime_keeps ..) ?_
      refine Dev.keeps_step (by decide +kernel) (Dev.buildIntake_keeps ..) ?_
      refine Dev.keeps_each _ _ ?_ ?_
      · intro _ _
        refine Dev.keeps_step (by decide +kernel) (Dev.showLpll_keeps ..) ?_
        exact Dev.keeps_refl _ _
      · refine Dev.keeps_each _ _ ?_ ?_
        · intro _ _
          refine Dev.keeps_step (by decide +kernel) (Dev.showCourse_keeps ..) ?_
          exact Dev.keeps_refl _ _
        · refine Dev.keeps_each _ _ ?_ ?_
          · intro _ _
            refine Dev.keeps_step (by decide +kernel) (Dev.showGroup_keeps ..) ?_
            exact Dev.keeps_refl _ _
          · refine Dev.keeps_each _ _ ?_ ?_
            · intro _ _
              refine Dev.keeps_step (by decide +kernel) (Dev.showTile_keeps ..) ?_
              exact Dev.keeps_refl _ _
            · refine Dev.keeps_each _ _ ?_ ?_
              · intro _ _
                refine Dev.keeps_step (by decide +kernel) (Dev.buildGroup_keeps ..) ?_
                exact Dev.keeps_refl _ _
              · refine Dev.keeps_mk (.inr rfl) (.inr rfl) (.inr rfl) (.inr rfl) (.inr rfl) (.inr rfl) (.inl (by decide +kernel)) (.inr rfl) (.inl (by decide +kernel)) (.inl (by decide +kernel)) (.inr rfl) (.inr rfl) (.inr rfl) (.inr rfl) (.inr rfl) (.inr rfl) (.inr rfl) (.inr rfl) ?_
                exact Dev.keeps_refl _ _
    · refine Dev.keeps_step (by decide +kernel) (Dev.buildTime_keeps ..) ?_
      refine Dev.keeps_step (by decide +kernel) (Dev.buildIntake_keeps ..) ?_
      refine Dev.keeps_each _ _ ?_ ?_
      · intro _ _
        refine Dev.keeps_step (by decide +kernel) (Dev.showLpll_keeps ..) ?_
        exact Dev.keeps_refl _ _
      · refine Dev.keeps_each _ _ ?_ ?_
        · intro _ _
          refine Dev.keeps_step (by decide +kernel) (Dev.showCourse_keeps ..) ?_
          exact Dev.keeps_refl _ _
        · refine Dev.keeps_each _ _ ?_ ?_
          · intro _ _
            refine Dev.keeps_step (by decide +kernel) (Dev.showGroup_keeps ..) ?_
            exact Dev.keeps_refl _ _
          · refine Dev.keeps_each _ _ ?_ ?_
            · intro _ _
              refine Dev.keeps_step (by decide +kernel) (Dev.showTile_keeps ..) ?_
              exact Dev.keeps_refl _ _
            · refine Dev.keeps_each _ _ ?_ ?_
              · intro _ _
                refine Dev.keeps_step (by decide +kernel) (Dev.buildGroup_keeps ..) ?_
                exact Dev.keeps_refl _ _
              · refine Dev.keeps_mk (.inr rfl) (.inr rfl) (.inr rfl) (.inr rfl) (.inr rfl) (.inr rfl) (.inl (by decide +kernel)) (.inr rfl) (.inl (by decide +kernel)) (.inl (by decide +kernel)) (.inr rfl) (.inr rfl) (.inr rfl) (.inr rfl) (.inr rfl) (.inr rfl) (.inr rfl) (.inr rfl) ?_
                exact Dev.keeps_refl _ _

theorem Dev.nextHalf_keeps (d : Dev) : Dev.keeps ⟨[.store], [F.MO_JOURNAL_FILL, F.MO_JOURNAL_HALF, F.MO_JOURNAL_PENDING], []⟩ d
    (Dev.nextHalf d) := by
  unfold Dev.nextHalf
  dsimp -proj only
  refine Dev.keeps_step (by decide +kernel) (Dev.showJournal_keeps ..) ?_
  refine Dev.keeps_store _ (by decide +kernel) ?_
  exact Dev.keeps_refl _ _

theorem Dev.carryJournal_keeps (d : Dev) : Dev.keeps ⟨[.store], [F.MO_JOURNAL_FILL, F.MO_JOURNAL_HALF, F.MO_JOURNAL_PENDING], []⟩ d
    (Dev.carryJournal d) := by
  unfold Dev.carryJournal
  dsimp -proj only
  refine Dev.keeps_ite ?_ ?_
  · refine Dev.keeps_step (by decide +kernel) (Dev.nextHalf_keeps ..) ?_
    exact Dev.keeps_refl _ _
  · refine Dev.keeps_step (by decide +kernel) (Dev.showJournal_keeps ..) ?_
    refine Dev.keeps_store _ (by decide +kernel) ?_
    exact Dev.keeps_refl _ _

end Sys2Proof.Machine
end

