-- ==== Sys2Proof/Laws/KeepsCourses.lean ====
section
/-! SUPPORT. What the operations of Machine/Courses.lean may change at most, one lemma each. -/

namespace Sys2Proof.Machine

set_option Elab.async false

theorem Dev.refreshLanes_keeps (d : Dev) : Dev.keeps ⟨[], [F.GL_READY_LANE_L0, F.GL_READY_LANE_L1], []⟩ d (Dev.refreshLanes d) := by
  unfold Dev.refreshLanes
  dsimp -proj only
  refine Dev.keeps_ite ?_ ?_
  · refine Dev.keeps_flag _ _ _ _ (by decide +kernel) ?_
    refine Dev.keeps_ite ?_ ?_
    · refine Dev.keeps_flag _ _ _ _ (by decide +kernel) ?_
      exact Dev.keeps_refl _ _
    · exact Dev.keeps_refl _ _
  · refine Dev.keeps_ite ?_ ?_
    · refine Dev.keeps_flag _ _ _ _ (by decide +kernel) ?_
      exact Dev.keeps_refl _ _
    · exact Dev.keeps_refl _ _

theorem Dev.admitAt_keeps (b : Nat) (d : Dev) : Dev.keeps ⟨[.cm], [F.CM_CRS_DELIV_DELIV, F.CM_CRS_DELIV_WORST, F.CM_CRS_STAT_FOUND,
    F.CM_CRS_STAT_IN_SERVICE, F.CM_DIR_W0_STATE], []⟩ d (Dev.admitAt b d) := by
  unfold Dev.admitAt
  dsimp -proj only
  split
  · refine Dev.keeps_step (by decide +kernel) (Dev.updateDeliv_keeps ..) ?_
    refine Dev.keeps_step (by decide +kernel) (Dev.setEntry_keeps ..) ?_
    refine Dev.keeps_step (by decide +kernel) (Dev.modDir_keeps ..) ?_
    refine Dev.keeps_step (by decide +kernel) (Dev.orderOp_keeps ..) ?_
    exact Dev.keeps_refl _ _
  · exact Dev.keeps_refl _ _

theorem Dev.crsAct_keeps (c : Nat) (op : Nat) (pos : Nat) (d : Dev) : Dev.keeps ⟨[.out, .cm, .fc, .host, .dma], [F.CM_CRS_DELIV_DELIV,
    F.CM_CRS_DELIV_WORST, F.CM_CRS_PT_FAILED, F.CM_CRS_STAT_FOUND, F.CM_CRS_STAT_IN_SERVICE, F.CM_CRS_STAT_STATE, F.CM_DIR_W0_EVQ,
    F.CM_DIR_W0_REASON, F.CM_DIR_W0_STATE, F.CM_LANE_STAT_CDR_LOCK, F.CM_LANE_STAT_STATE, F.CM_LANE_STAT_TX_IDLE, F.DM_CH_DETAIL_PTFAIL,
    F.GL_PT_ERR_W0_COUNT, F.GL_PT_ERR_W0_STATUS, F.GL_PT_ERR_W1_ADDRESS, F.GP_HARVEST_PB_FAIL, F.HC_IRQ_STAT_STAT], []⟩ d (Dev.crsAct c op
    pos d) := by
  unfold Dev.crsAct
  dsimp -proj only
  refine Dev.keeps_ite ?_ ?_
  · refine Dev.keeps_ite ?_ ?_
    · refine Dev.keeps_step (by decide +kernel) (Dev.admitAt_keeps ..) ?_
      exact Dev.keeps_refl _ _
    · refine Dev.keeps_ite ?_ ?_
      · refine Dev.keeps_step (by decide +kernel) (Dev.pump_keeps ..) ?_
        refine Dev.keeps_step (by decide +kernel) (Dev.beginCheck_keeps ..) ?_
        refine Dev.keeps_step (by decide +kernel) (Dev.modDir_keeps ..) ?_
        exact Dev.keeps_refl _ _
      · exact Dev.keeps_refl _ _
  · refine Dev.keeps_ite ?_ ?_
    · refine Dev.keeps_ite ?_ ?_
      · refine Dev.keeps_step (by decide +kernel) (Dev.takeOut_keeps ..) ?_
        exact Dev.keeps_refl _ _
      · exact Dev.keeps_refl _ _
    · refine Dev.keeps_ite ?_ ?_
      · refine Dev.keeps_ite ?_ ?_
        · refine Dev.keeps_step (by decide +kernel) (Dev.setCourse_keeps ..) ?_
          refine Dev.keeps_ite ?_ ?_
          · refine Dev.keeps_step (by decide +kernel) (Dev.wakeCourse_keeps ..) ?_
            refine Dev.keeps_step (by decide +kernel) (Dev.modCrs_keeps ..) ?_
            exact Dev.keeps_refl _ _
          · exact Dev.keeps_refl _ _
        · refine Dev.keeps_ite ?_ ?_
          · refine Dev.keeps_step (by decide +kernel) (Dev.wakeCourse_keeps ..) ?_
            refine Dev.keeps_step (by decide +kernel) (Dev.modCrs_keeps ..) ?_
            exact Dev.keeps_refl _ _
          · exact Dev.keeps_refl _ _
      · refine Dev.keeps_step (by decide +kernel) (Dev.pump_keeps ..) ?_
        refine Dev.keeps_step (by decide +kernel) (Dev.startMeasure_keeps ..) ?_
        exact Dev.keeps_refl _ _

theorem Dev.crsAtDr_keeps (tick : Nat) (c : Nat) (d : Dev) : Dev.keeps ⟨[.out, .cm, .fc, .host, .dma], [F.CM_CRS_CMD_BUSY,
    F.CM_CRS_DELIV_DELIV, F.CM_CRS_DELIV_WORST, F.CM_CRS_PT_FAILED, F.CM_CRS_STAT_FOUND, F.CM_CRS_STAT_IN_SERVICE, F.CM_CRS_STAT_STATE,
    F.CM_DIR_W0_EVQ, F.CM_DIR_W0_REASON, F.CM_DIR_W0_STATE, F.CM_LANE_STAT_CDR_LOCK, F.CM_LANE_STAT_STATE, F.CM_LANE_STAT_TX_IDLE,
    F.DM_CH_DETAIL_PTFAIL, F.GL_PT_ERR_W0_COUNT, F.GL_PT_ERR_W0_STATUS, F.GL_PT_ERR_W1_ADDRESS, F.GP_HARVEST_PB_FAIL, F.HC_IRQ_STAT_STAT],
    []⟩ d (Dev.crsAtDr tick c d) := by
  unfold Dev.crsAtDr
  split
  · refine Dev.keeps_ite ?_ ?_
    · refine Dev.keeps_step (by decide +kernel) (Dev.crsAct_keeps ..) ?_
      refine Dev.keeps_flag _ _ _ _ (by decide +kernel) ?_
      refine Dev.keeps_step (by decide +kernel) (Dev.modCrs_keeps ..) ?_
      exact Dev.keeps_refl _ _
    · exact Dev.keeps_refl _ _
  · exact Dev.keeps_refl _ _

theorem Dev.crsOrder_keeps (x : Nat) (c : Nat) (op : Nat) (pos : Nat) (d : Dev) : Dev.keeps ⟨[.out, .cm, .fc, .host, .dma],
    [F.CM_CRS_CMD_BUSY, F.CM_CRS_CMD_RESULT, F.CM_CRS_DELIV_DELIV, F.CM_CRS_DELIV_WORST, F.CM_CRS_PT_FAILED, F.CM_CRS_STAT_FOUND,
    F.CM_CRS_STAT_IN_SERVICE, F.CM_CRS_STAT_STATE, F.CM_DIR_W0_EVQ, F.CM_DIR_W0_REASON, F.CM_DIR_W0_STATE, F.CM_LANE_STAT_CDR_LOCK,
    F.CM_LANE_STAT_STATE, F.CM_LANE_STAT_TX_IDLE, F.DM_CH_DETAIL_PTFAIL, F.GL_PT_ERR_W0_COUNT, F.GL_PT_ERR_W0_STATUS,
    F.GL_PT_ERR_W1_ADDRESS, F.GP_HARVEST_PB_FAIL, F.HC_CTX_REFADDR_BAR2, F.HC_CTX_REFADDR_CAUSE, F.HC_CTX_REFADDR_OFFSET,
    F.HC_CTX_REFADDR_WRITE, F.HC_CTX_STAT_PARTIAL, F.HC_CTX_STAT_REFUSED, F.HC_IRQ_STAT_STAT], []⟩ d (Dev.crsOrder x c op pos d) := by
  unfold Dev.crsOrder
  dsimp -proj only
  refine Dev.keeps_trans (Dev.hostWrite_keeps (by decide +kernel) _ _ _ _ ?_) ?_
  · intro _
    refine Dev.keeps_ite ?_ ?_
    · refine Dev.keeps_set _ _ _ _ (by decide +kernel) ?_
      exact Dev.keeps_refl _ _
    · refine Dev.keeps_ite ?_ ?_
      · refine Dev.keeps_flag _ _ _ _ (by decide +kernel) ?_
        refine Dev.keeps_step (by decide +kernel) (Dev.modCrs_keeps ..) ?_
        refine Dev.keeps_set _ _ _ _ (by decide +kernel) ?_
        exact Dev.keeps_refl _ _
      · refine Dev.keeps_step (by decide +kernel) (Dev.crsAct_keeps ..) ?_
        refine Dev.keeps_set _ _ _ _ (by decide +kernel) ?_
        exact Dev.keeps_refl _ _
  · exact Dev.keeps_refl _ _

theorem admitCmd_keeps (x : Nat) (c : Nat) (pos : Nat) (d : Dev) : Dev.keeps ⟨[.out, .cm, .fc, .host, .dma], [F.CM_CRS_CMD_BUSY,
    F.CM_CRS_CMD_RESULT, F.CM_CRS_DELIV_DELIV, F.CM_CRS_DELIV_WORST, F.CM_CRS_PT_FAILED, F.CM_CRS_STAT_FOUND, F.CM_CRS_STAT_IN_SERVICE,
    F.CM_CRS_STAT_STATE, F.CM_DIR_W0_EVQ, F.CM_DIR_W0_REASON, F.CM_DIR_W0_STATE, F.CM_LANE_STAT_CDR_LOCK, F.CM_LANE_STAT_STATE,
    F.CM_LANE_STAT_TX_IDLE, F.DM_CH_DETAIL_PTFAIL, F.GL_PT_ERR_W0_COUNT, F.GL_PT_ERR_W0_STATUS, F.GL_PT_ERR_W1_ADDRESS,
    F.GP_HARVEST_PB_FAIL, F.HC_CTX_REFADDR_BAR2, F.HC_CTX_REFADDR_CAUSE, F.HC_CTX_REFADDR_OFFSET, F.HC_CTX_REFADDR_WRITE,
    F.HC_CTX_STAT_PARTIAL, F.HC_CTX_STAT_REFUSED, F.HC_IRQ_STAT_STAT], []⟩ d (admitCmd x c pos d) := by
  unfold admitCmd
  refine Dev.keeps_step (by decide +kernel) (Dev.crsOrder_keeps ..) ?_
  exact Dev.keeps_refl _ _

theorem automaticAdmission_keeps (b : Nat) (d : Dev) : Dev.keeps ⟨[.cm], [F.CM_CRS_DELIV_DELIV, F.CM_CRS_DELIV_WORST, F.CM_CRS_STAT_FOUND,
    F.CM_CRS_STAT_IN_SERVICE, F.CM_DIR_W0_STATE], []⟩ d (automaticAdmission b d) := by
  unfold automaticAdmission
  dsimp -proj only
  split
  · exact Dev.keeps_refl _ _
  · refine Dev.keeps_ite ?_ ?_
    · refine Dev.keeps_step (by decide +kernel) (Dev.admitAt_keeps ..) ?_
      exact Dev.keeps_refl _ _
    · exact Dev.keeps_refl _ _

theorem brickCheckComplete_keeps (b : Nat) (d : Dev) : Dev.keeps ⟨[.cm], [F.CM_CRS_STAT_FOUND, F.CM_CRS_STAT_IN_SERVICE,
    F.CM_DIR_W0_REASON, F.CM_DIR_W0_STATE], []⟩ d (brickCheckComplete b d) := by
  unfold brickCheckComplete
  dsimp -proj only
  refine Dev.keeps_ite ?_ ?_
  · refine Dev.keeps_ite ?_ ?_
    · refine Dev.keeps_step (by decide +kernel) (Dev.setEntry_keeps ..) ?_
      refine Dev.keeps_set _ _ _ _ (by decide +kernel) ?_
      refine Dev.keeps_step (by decide +kernel) (Dev.modDir_keeps ..) ?_
      exact Dev.keeps_refl _ _
    · refine Dev.keeps_step (by decide +kernel) (Dev.setEntry_keeps ..) ?_
      refine Dev.keeps_step (by decide +kernel) (Dev.modDir_keeps ..) ?_
      exact Dev.keeps_refl _ _
  · exact Dev.keeps_refl _ _

theorem discoveryComplete_keeps (c : Nat) (d : Dev) : Dev.keeps ⟨[.out, .cm, .fc, .host, .dma], [F.CM_CRS_DELIV_DELIV,
    F.CM_CRS_DELIV_WORST, F.CM_CRS_PT_FAILED, F.CM_CRS_STAT_FOUND, F.CM_CRS_STAT_IN_SERVICE, F.CM_CRS_STAT_STATE, F.CM_DIR_W0_EVQ,
    F.CM_DIR_W0_REASON, F.CM_DIR_W0_STATE, F.CM_LANE_STAT_CDR_LOCK, F.CM_LANE_STAT_STATE, F.CM_LANE_STAT_TX_IDLE, F.DM_CH_DETAIL_PTFAIL,
    F.GL_PT_ERR_W0_COUNT, F.GL_PT_ERR_W0_STATUS, F.GL_PT_ERR_W1_ADDRESS, F.GL_READY_LANE_L0, F.GL_READY_LANE_L1, F.GP_HARVEST_PB_FAIL,
    F.HC_IRQ_STAT_STAT], []⟩ d (discoveryComplete c d) := by
  unfold discoveryComplete
  dsimp -proj only
  split
  · refine Dev.keeps_ite ?_ ?_
    · refine Dev.keeps_step (by decide +kernel) (Dev.refreshLanes_keeps ..) ?_
      refine Dev.keeps_step (by decide +kernel) (Dev.setCourse_keeps ..) ?_
      refine Dev.keeps_ite ?_ ?_
      · refine Dev.keeps_step (by decide +kernel) (Dev.laneIdle_keeps ..) ?_
        refine Dev.keeps_step (by decide +kernel) (Dev.laneIdle_keeps ..) ?_
        refine Dev.keeps_step (by decide +kernel) (Dev.modCrs_keeps ..) ?_
        refine Dev.keeps_step (by decide +kernel) (Dev.modCrs_keeps ..) ?_
        exact Dev.keeps_refl _ _
      · refine Dev.keeps_step (by decide +kernel) (Dev.modCrs_keeps ..) ?_
        exact Dev.keeps_refl _ _
    · exact Dev.keeps_refl _ _
  · exact Dev.keeps_refl _ _

theorem measure_keeps (x : Nat) (c : Nat) (d : Dev) : Dev.keeps ⟨[.out, .cm, .fc, .host, .dma], [F.CM_CRS_CMD_BUSY, F.CM_CRS_CMD_RESULT,
    F.CM_CRS_DELIV_DELIV, F.CM_CRS_DELIV_WORST, F.CM_CRS_PT_FAILED, F.CM_CRS_STAT_FOUND, F.CM_CRS_STAT_IN_SERVICE, F.CM_CRS_STAT_STATE,
    F.CM_DIR_W0_EVQ, F.CM_DIR_W0_REASON, F.CM_DIR_W0_STATE, F.CM_LANE_STAT_CDR_LOCK, F.CM_LANE_STAT_STATE, F.CM_LANE_STAT_TX_IDLE,
    F.DM_CH_DETAIL_PTFAIL, F.GL_PT_ERR_W0_COUNT, F.GL_PT_ERR_W0_STATUS, F.GL_PT_ERR_W1_ADDRESS, F.GP_HARVEST_PB_FAIL,
    F.HC_CTX_REFADDR_BAR2, F.HC_CTX_REFADDR_CAUSE, F.HC_CTX_REFADDR_OFFSET, F.HC_CTX_REFADDR_WRITE, F.HC_CTX_STAT_PARTIAL,
    F.HC_CTX_STAT_REFUSED, F.HC_IRQ_STAT_STAT], []⟩ d (measure x c d) := by
  unfold measure
  refine Dev.keeps_step (by decide +kernel) (Dev.crsOrder_keeps ..) ?_
  exact Dev.keeps_refl _ _

theorem measurePeriod_keeps (c : Nat) (d : Dev) : Dev.keeps ⟨[.out, .cm, .dma], [], []⟩ d (measurePeriod c d) := by
  unfold measurePeriod
  refine Dev.keeps_ite ?_ ?_
  · refine Dev.keeps_step (by decide +kernel) (Dev.pump_keeps ..) ?_
    refine Dev.keeps_step (by decide +kernel) (Dev.startMeasure_keeps ..) ?_
    exact Dev.keeps_refl _ _
  · exact Dev.keeps_refl _ _

theorem rediscover_keeps (x : Nat) (c : Nat) (d : Dev) : Dev.keeps ⟨[.out, .cm, .fc, .host, .dma], [F.CM_CRS_CMD_BUSY,
    F.CM_CRS_CMD_RESULT, F.CM_CRS_DELIV_DELIV, F.CM_CRS_DELIV_WORST, F.CM_CRS_PT_FAILED, F.CM_CRS_STAT_FOUND, F.CM_CRS_STAT_IN_SERVICE,
    F.CM_CRS_STAT_STATE, F.CM_DIR_W0_EVQ, F.CM_DIR_W0_REASON, F.CM_DIR_W0_STATE, F.CM_LANE_STAT_CDR_LOCK, F.CM_LANE_STAT_STATE,
    F.CM_LANE_STAT_TX_IDLE, F.DM_CH_DETAIL_PTFAIL, F.GL_PT_ERR_W0_COUNT, F.GL_PT_ERR_W0_STATUS, F.GL_PT_ERR_W1_ADDRESS,
    F.GP_HARVEST_PB_FAIL, F.HC_CTX_REFADDR_BAR2, F.HC_CTX_REFADDR_CAUSE, F.HC_CTX_REFADDR_OFFSET, F.HC_CTX_REFADDR_WRITE,
    F.HC_CTX_STAT_PARTIAL, F.HC_CTX_STAT_REFUSED, F.HC_IRQ_STAT_STAT], []⟩ d (rediscover x c d) := by
  unfold rediscover
  refine Dev.keeps_step (by decide +kernel) (Dev.crsOrder_keeps ..) ?_
  exact Dev.keeps_refl _ _

theorem remove_keeps (x : Nat) (c : Nat) (pos : Nat) (d : Dev) : Dev.keeps ⟨[.out, .cm, .fc, .host, .dma], [F.CM_CRS_CMD_BUSY,
    F.CM_CRS_CMD_RESULT, F.CM_CRS_DELIV_DELIV, F.CM_CRS_DELIV_WORST, F.CM_CRS_PT_FAILED, F.CM_CRS_STAT_FOUND, F.CM_CRS_STAT_IN_SERVICE,
    F.CM_CRS_STAT_STATE, F.CM_DIR_W0_EVQ, F.CM_DIR_W0_REASON, F.CM_DIR_W0_STATE, F.CM_LANE_STAT_CDR_LOCK, F.CM_LANE_STAT_STATE,
    F.CM_LANE_STAT_TX_IDLE, F.DM_CH_DETAIL_PTFAIL, F.GL_PT_ERR_W0_COUNT, F.GL_PT_ERR_W0_STATUS, F.GL_PT_ERR_W1_ADDRESS,
    F.GP_HARVEST_PB_FAIL, F.HC_CTX_REFADDR_BAR2, F.HC_CTX_REFADDR_CAUSE, F.HC_CTX_REFADDR_OFFSET, F.HC_CTX_REFADDR_WRITE,
    F.HC_CTX_STAT_PARTIAL, F.HC_CTX_STAT_REFUSED, F.HC_IRQ_STAT_STAT], []⟩ d (remove x c pos d) := by
  unfold remove
  refine Dev.keeps_step (by decide +kernel) (Dev.crsOrder_keeps ..) ?_
  exact Dev.keeps_refl _ _

end Sys2Proof.Machine
end

