-- ==== Sys2Proof/Laws/KeepsFaultOps.lean ====
section
/-! SUPPORT. What the operations of Machine/FaultOps.lean may change at most, one lemma each. -/

namespace Sys2Proof.Machine

set_option Elab.async false

theorem Dev.fenceUnit_keeps (n : Nat) (d : Dev) : Dev.keeps ⟨[.out, .store, .chans, .tp, .cm, .si, .fc, .host, .dma],
    [F.CM_CRS_DELIV_DELIV, F.CM_CRS_DELIV_WORST, F.CM_CRS_PT_FAILED, F.CM_CRS_STAT_FOUND, F.CM_CRS_STAT_F_WORKING,
    F.CM_CRS_STAT_H_WORKING, F.CM_CRS_STAT_IN_SERVICE, F.CM_CRS_STAT_STATE, F.CM_DIR_W0_EVQ, F.CM_DIR_W0_REASON, F.CM_DIR_W0_STATE,
    F.CM_LANE_STAT_CDR_LOCK, F.CM_LANE_STAT_STATE, F.CM_LANE_STAT_TX_IDLE, F.DM_CH_DETAIL_PTFAIL, F.FC_COND_COND, F.GL_PT_ERR_W0_COUNT,
    F.GL_PT_ERR_W0_STATUS, F.GL_PT_ERR_W1_ADDRESS, F.GL_READY_TRIPLEX, F.GP_HARVEST_PB_FAIL, F.HC_IRQ_STAT_STAT, F.MO_JOURNAL_FILL,
    F.MO_JOURNAL_PENDING, F.PL_SLACK_LAST, F.PL_SLACK_WMIN, F.PL_STATUS_CONSEC, F.TB_PTP_PORT_W0_STATE, F.TP_CH_CAUSE, F.TP_CH_FENCES,
    F.TP_CH_SHADOW, F.TP_CH_STATE, F.TP_CH_STRIKES, F.TP_CMD_BUSY, F.TP_PROOF_RESULT, F.TP_PROOF_STATE, F.TP_PROOF_STEP, F.TP_STATE_DONOR,
    F.TP_STATE_FENCED, F.TP_STATE_IN_SERVICE, F.TP_STATE_RESYNC, F.TP_STATE_SIMPLEX_MS, F.TP_STATE_STATE, F.TP_VOTE_LATE_RUN,
    F.TP_VOTE_MINORITY], []⟩ d (Dev.fenceUnit n d) := by
  unfold Dev.fenceUnit
  dsimp -proj only
  refine Dev.keeps_ite ?_ ?_
  · refine Dev.keeps_step (by decide +kernel) (Dev.voteAll_keeps ..) ?_
    refine Dev.keeps_step (by decide +kernel) (Dev.fenceChannel_keeps ..) ?_
    exact Dev.keeps_refl _ _
  · refine Dev.keeps_ite ?_ ?_
    · refine Dev.keeps_step (by decide +kernel) (Dev.idleCourses_keeps ..) ?_
      refine Dev.keeps_step (by decide +kernel) (Dev.modCrs_keeps ..) ?_
      exact Dev.keeps_refl _ _
    · refine Dev.keeps_ite ?_ ?_
      · refine Dev.keeps_step (by decide +kernel) (Dev.idleCourses_keeps ..) ?_
        exact Dev.keeps_refl _ _
      · refine Dev.keeps_ite ?_ ?_
        · refine Dev.keeps_set _ _ _ _ (by decide +kernel) ?_
          exact Dev.keeps_refl _ _
        · refine Dev.keeps_ite ?_ ?_
          · refine Dev.keeps_step (by decide +kernel) (Dev.modSv_keeps ..) ?_
            exact Dev.keeps_refl _ _
          · refine Dev.keeps_ite ?_ ?_
            · split
              · refine Dev.keeps_foldl _ _ ?_ ?_
                · intro _ _
                  refine Dev.keeps_step (by decide +kernel) (Dev.giDefault_keeps ..) ?_
                  exact Dev.keeps_refl _ _
                · refine Dev.keeps_step (by decide +kernel) (Dev.modGoose_keeps ..) ?_
                  exact Dev.keeps_refl _ _
              · refine Dev.keeps_step (by decide +kernel) (Dev.modGoose_keeps ..) ?_
                exact Dev.keeps_refl _ _
            · exact Dev.keeps_refl _ _

theorem Dev.safeState_keeps (d : Dev) : Dev.keeps ⟨[.out, .store, .grps, .cm, .fc, .sb, .host], [F.FC_STATUS_SAFE_STATE,
    F.HC_IRQ_STAT_STAT, F.MO_JOURNAL_FILL, F.MO_JOURNAL_PENDING, F.SB_CMD_BUSY, F.SB_COURSE_CAUSE, F.SB_COURSE_SENT, F.SB_COURSE_SEQ,
    F.SB_COURSE_STATE, F.SB_DEMAND_COND, F.SB_DEMAND_IN_FORCE, F.SB_STATUS_BRAKE, F.SB_STATUS_HOLD_1, F.SB_STATUS_HOLD_2,
    F.SB_STATUS_TESTING], []⟩ d (Dev.safeState d) := by
  unfold Dev.safeState
  dsimp -proj only
  refine Dev.keeps_step (by decide +kernel) (Dev.safetySafeState_keeps ..) ?_
  refine Dev.keeps_each _ _ ?_ ?_
  · intro _ _
    refine Dev.keeps_step (by decide +kernel) (Dev.force_keeps ..) ?_
    exact Dev.keeps_refl _ _
  · refine Dev.keeps_step (by decide +kernel) (Dev.blockAll_keeps ..) ?_
    refine Dev.keeps_flag _ _ _ _ (by decide +kernel) ?_
    exact Dev.keeps_refl _ _

theorem Dev.react_keeps (code : Nat) (groups : Nat) (n : Nat) (d : Dev) : Dev.keeps ⟨[.out, .store, .grps, .chans, .tp, .cm, .si, .fc,
    .sb, .host, .dma], [F.CM_CRS_DELIV_DELIV, F.CM_CRS_DELIV_WORST, F.CM_CRS_PT_FAILED, F.CM_CRS_STAT_FOUND, F.CM_CRS_STAT_F_WORKING,
    F.CM_CRS_STAT_H_WORKING, F.CM_CRS_STAT_IN_SERVICE, F.CM_CRS_STAT_STATE, F.CM_DIR_W0_EVQ, F.CM_DIR_W0_REASON, F.CM_DIR_W0_STATE,
    F.CM_LANE_STAT_CDR_LOCK, F.CM_LANE_STAT_STATE, F.CM_LANE_STAT_TX_IDLE, F.DM_CH_DETAIL_PTFAIL, F.FC_COND_COND, F.FC_STATUS_SAFE_STATE,
    F.GL_PT_ERR_W0_COUNT, F.GL_PT_ERR_W0_STATUS, F.GL_PT_ERR_W1_ADDRESS, F.GL_READY_TRIPLEX, F.GP_HARVEST_PB_FAIL, F.HC_IRQ_STAT_STAT,
    F.MO_JOURNAL_FILL, F.MO_JOURNAL_PENDING, F.PL_SLACK_LAST, F.PL_SLACK_WMIN, F.PL_STATUS_CONSEC, F.SB_CMD_BUSY, F.SB_COURSE_CAUSE,
    F.SB_COURSE_SENT, F.SB_COURSE_SEQ, F.SB_COURSE_STATE, F.SB_DEMAND_COND, F.SB_DEMAND_IN_FORCE, F.SB_STATUS_BRAKE, F.SB_STATUS_HOLD_1,
    F.SB_STATUS_HOLD_2, F.SB_STATUS_TESTING, F.TB_PTP_PORT_W0_STATE, F.TP_CH_CAUSE, F.TP_CH_FENCES, F.TP_CH_SHADOW, F.TP_CH_STATE,
    F.TP_CH_STRIKES, F.TP_CMD_BUSY, F.TP_PROOF_RESULT, F.TP_PROOF_STATE, F.TP_PROOF_STEP, F.TP_STATE_DONOR, F.TP_STATE_FENCED,
    F.TP_STATE_IN_SERVICE, F.TP_STATE_RESYNC, F.TP_STATE_SIMPLEX_MS, F.TP_STATE_STATE, F.TP_VOTE_LATE_RUN, F.TP_VOTE_MINORITY], []⟩ d
    (Dev.react code groups n d) := by
  unfold Dev.react
  dsimp -proj only
  refine Dev.keeps_ite ?_ ?_
  · refine Dev.keeps_step (by decide +kernel) (Dev.safeState_keeps ..) ?_
    exact Dev.keeps_refl _ _
  · refine Dev.keeps_ite ?_ ?_
    · refine Dev.keeps_each _ _ ?_ ?_
      · intro _ _
        refine Dev.keeps_step (by decide +kernel) (Dev.force_keeps ..) ?_
        exact Dev.keeps_refl _ _
      · exact Dev.keeps_refl _ _
    · refine Dev.keeps_ite ?_ ?_
      · refine Dev.keeps_step (by decide +kernel) (Dev.fenceUnit_keeps ..) ?_
        exact Dev.keeps_refl _ _
      · exact Dev.keeps_refl _ _

theorem Dev.readStore_keeps (l : List StoreErr) (d : Dev) : Dev.keeps ⟨[.store, .fc], [F.FC_COND_COND, F.GL_READY_STORE,
    F.MO_STATUS_SINGLE_ERRS, F.MO_STATUS_STORE_ERR], []⟩ d (Dev.readStore l d) := by
  unfold Dev.readStore
  dsimp -proj only
  refine Dev.keeps_ite ?_ ?_
  · refine Dev.keeps_step (by decide +kernel) (Dev.cond_keeps ..) ?_
    refine Dev.keeps_flag _ _ _ _ (by decide +kernel) ?_
    refine Dev.keeps_flag _ _ _ _ (by decide +kernel) ?_
    refine Dev.keeps_store _ (by decide +kernel) ?_
    refine Dev.keeps_addTo _ _ _ _ (by decide +kernel) ?_
    exact Dev.keeps_refl _ _
  · refine Dev.keeps_store _ (by decide +kernel) ?_
    refine Dev.keeps_addTo _ _ _ _ (by decide +kernel) ?_
    exact Dev.keeps_refl _ _

theorem Dev.queueRec_keeps (r : LogRec) (d : Dev) : Dev.keeps ⟨[.fc], [F.FC_LOG_STAT_QUEUE], []⟩ d (Dev.queueRec r d) := by
  unfold Dev.queueRec
  dsimp -proj only
  refine Dev.keeps_set _ _ _ _ (by decide +kernel) ?_
  refine Dev.keeps_fc _ (by decide +kernel) ?_
  exact Dev.keeps_refl _ _

theorem Dev.errUpdate_keeps (d : Dev) : Dev.keeps ⟨[.pins, .fc], [F.FC_STATUS_ERR_PIN], []⟩ d (Dev.errUpdate d) := by
  unfold Dev.errUpdate
  dsimp -proj only
  refine Dev.keeps_ite ?_ ?_
  · refine Dev.keeps_flag _ _ _ _ (by decide +kernel) ?_
    refine Dev.keeps_mk (.inr rfl) (.inr rfl) (.inr rfl) (.inl (by decide +kernel)) (.inr rfl) (.inr rfl) (.inr rfl) (.inr rfl) (.inr rfl) (.inr rfl) (.inr rfl) (.inr rfl) (.inr rfl) (.inl (by decide +kernel)) (.inr rfl) (.inr rfl) (.inr rfl) (.inr rfl) ?_
    exact Dev.keeps_refl _ _
  · exact Dev.keeps_refl _ _

theorem Dev.markFirst_keeps (n : Nat) (d : Dev) : Dev.keeps ⟨[.fc], [], []⟩ d (Dev.markFirst n d) := by
  unfold Dev.markFirst
  dsimp -proj only
  refine Dev.keeps_fc _ (by decide +kernel) ?_
  exact Dev.keeps_refl _ _

theorem Dev.firstFault_keeps (ns : List Nat) (d : Dev) : Dev.keeps ⟨[.store, .fc], [F.FC_FIRST_SAME_TICK, F.FC_FIRST_SEQ_SEQ,
    F.FC_FIRST_SOURCE, F.FC_FIRST_VALID], []⟩ d (Dev.firstFault ns d) := by
  unfold Dev.firstFault
  dsimp -proj only
  refine Dev.keeps_ite ?_ ?_
  · exact Dev.keeps_refl _ _
  · refine Dev.keeps_step (by decide +kernel) (Dev.markFirst_keeps ..) ?_
    refine Dev.keeps_set _ _ _ _ (by decide +kernel) ?_
    refine Dev.keeps_set _ _ _ _ (by decide +kernel) ?_
    refine Dev.keeps_set _ _ _ _ (by decide +kernel) ?_
    refine Dev.keeps_flag _ _ _ _ (by decide +kernel) ?_
    refine Dev.keeps_mk (.inr rfl) (.inr rfl) (.inr rfl) (.inr rfl) (.inr rfl) (.inl (by decide +kernel)) (.inr rfl) (.inr rfl) (.inr rfl) (.inr rfl) (.inr rfl) (.inr rfl) (.inr rfl) (.inl (by decide +kernel)) (.inr rfl) (.inr rfl) (.inr rfl) (.inr rfl) ?_
    exact Dev.keeps_refl _ _

theorem Dev.latchOne_keeps (u : Due) (d : Dev) : Dev.keeps ⟨[.fc], [F.FC_COUNT_COUNT, F.FC_LATCH_LATCH, F.FC_LOG_STAT_QUEUE], []⟩ d
    (Dev.latchOne u d) := by
  unfold Dev.latchOne
  dsimp -proj only
  refine Dev.keeps_ite ?_ ?_
  · refine Dev.keeps_step (by decide +kernel) (Dev.queueRec_keeps ..) ?_
    refine Dev.keeps_fc _ (by decide +kernel) ?_
    refine Dev.keeps_flag _ _ _ _ (by decide +kernel) ?_
    refine Dev.keeps_count _ _ _ (by decide +kernel) ?_
    exact Dev.keeps_refl _ _
  · refine Dev.keeps_ite ?_ ?_
    · refine Dev.keeps_fc _ (by decide +kernel) ?_
      refine Dev.keeps_ite ?_ ?_
      · refine Dev.keeps_step (by decide +kernel) (Dev.queueRec_keeps ..) ?_
        refine Dev.keeps_count _ _ _ (by decide +kernel) ?_
        exact Dev.keeps_refl _ _
      · refine Dev.keeps_count _ _ _ (by decide +kernel) ?_
        exact Dev.keeps_refl _ _
    · refine Dev.keeps_ite ?_ ?_
      · refine Dev.keeps_step (by decide +kernel) (Dev.queueRec_keeps ..) ?_
        refine Dev.keeps_count _ _ _ (by decide +kernel) ?_
        exact Dev.keeps_refl _ _
      · refine Dev.keeps_count _ _ _ (by decide +kernel) ?_
        exact Dev.keeps_refl _ _

theorem Dev.renew_keeps (u : Due) (d : Dev) : Dev.keeps ⟨[.out, .store, .grps, .chans, .tp, .cm, .si, .fc, .sb, .host, .dma],
    [F.CM_CRS_DELIV_DELIV, F.CM_CRS_DELIV_WORST, F.CM_CRS_PT_FAILED, F.CM_CRS_STAT_FOUND, F.CM_CRS_STAT_F_WORKING,
    F.CM_CRS_STAT_H_WORKING, F.CM_CRS_STAT_IN_SERVICE, F.CM_CRS_STAT_STATE, F.CM_DIR_W0_EVQ, F.CM_DIR_W0_REASON, F.CM_DIR_W0_STATE,
    F.CM_LANE_STAT_CDR_LOCK, F.CM_LANE_STAT_STATE, F.CM_LANE_STAT_TX_IDLE, F.DM_CH_DETAIL_PTFAIL, F.FC_COND_COND, F.FC_STATUS_SAFE_STATE,
    F.GL_PT_ERR_W0_COUNT, F.GL_PT_ERR_W0_STATUS, F.GL_PT_ERR_W1_ADDRESS, F.GL_READY_TRIPLEX, F.GP_HARVEST_PB_FAIL, F.HC_IRQ_STAT_STAT,
    F.MO_JOURNAL_FILL, F.MO_JOURNAL_PENDING, F.PL_SLACK_LAST, F.PL_SLACK_WMIN, F.PL_STATUS_CONSEC, F.SB_CMD_BUSY, F.SB_COURSE_CAUSE,
    F.SB_COURSE_SENT, F.SB_COURSE_SEQ, F.SB_COURSE_STATE, F.SB_DEMAND_COND, F.SB_DEMAND_IN_FORCE, F.SB_STATUS_BRAKE, F.SB_STATUS_HOLD_1,
    F.SB_STATUS_HOLD_2, F.SB_STATUS_TESTING, F.TB_PTP_PORT_W0_STATE, F.TP_CH_CAUSE, F.TP_CH_FENCES, F.TP_CH_SHADOW, F.TP_CH_STATE,
    F.TP_CH_STRIKES, F.TP_CMD_BUSY, F.TP_PROOF_RESULT, F.TP_PROOF_STATE, F.TP_PROOF_STEP, F.TP_STATE_DONOR, F.TP_STATE_FENCED,
    F.TP_STATE_IN_SERVICE, F.TP_STATE_RESYNC, F.TP_STATE_SIMPLEX_MS, F.TP_STATE_STATE, F.TP_VOTE_LATE_RUN, F.TP_VOTE_MINORITY], []⟩ d
    (Dev.renew u d) := by
  unfold Dev.renew
  dsimp -proj only
  refine Dev.keeps_ite ?_ ?_
  · refine Dev.keeps_step (by decide +kernel) (Dev.react_keeps ..) ?_
    exact Dev.keeps_refl _ _
  · refine Dev.keeps_ite ?_ ?_
    · refine Dev.keeps_step (by decide +kernel) (Dev.react_keeps ..) ?_
      exact Dev.keeps_refl _ _
    · exact Dev.keeps_refl _ _

theorem Dev.settleRound_keeps (d : Dev) : Dev.keeps ⟨[.out, .store, .grps, .chans, .tp, .cm, .si, .fc, .sb, .host, .dma],
    [F.CM_CRS_DELIV_DELIV, F.CM_CRS_DELIV_WORST, F.CM_CRS_PT_FAILED, F.CM_CRS_STAT_FOUND, F.CM_CRS_STAT_F_WORKING,
    F.CM_CRS_STAT_H_WORKING, F.CM_CRS_STAT_IN_SERVICE, F.CM_CRS_STAT_STATE, F.CM_DIR_W0_EVQ, F.CM_DIR_W0_REASON, F.CM_DIR_W0_STATE,
    F.CM_LANE_STAT_CDR_LOCK, F.CM_LANE_STAT_STATE, F.CM_LANE_STAT_TX_IDLE, F.DM_CH_DETAIL_PTFAIL, F.FC_COND_COND, F.FC_COUNT_COUNT,
    F.FC_FIRST_SAME_TICK, F.FC_FIRST_SEQ_SEQ, F.FC_FIRST_SOURCE, F.FC_FIRST_VALID, F.FC_IRQ_PENDING, F.FC_LATCH_LATCH,
    F.FC_LOG_STAT_QUEUE, F.FC_STATUS_SAFE_STATE, F.GL_PT_ERR_W0_COUNT, F.GL_PT_ERR_W0_STATUS, F.GL_PT_ERR_W1_ADDRESS, F.GL_READY_TRIPLEX,
    F.GP_HARVEST_PB_FAIL, F.HC_IRQ_STAT_STAT, F.MO_JOURNAL_FILL, F.MO_JOURNAL_PENDING, F.PL_SLACK_LAST, F.PL_SLACK_WMIN,
    F.PL_STATUS_CONSEC, F.SB_CMD_BUSY, F.SB_COURSE_CAUSE, F.SB_COURSE_SENT, F.SB_COURSE_SEQ, F.SB_COURSE_STATE, F.SB_DEMAND_COND,
    F.SB_DEMAND_IN_FORCE, F.SB_STATUS_BRAKE, F.SB_STATUS_HOLD_1, F.SB_STATUS_HOLD_2, F.SB_STATUS_TESTING, F.TB_PTP_PORT_W0_STATE,
    F.TP_CH_CAUSE, F.TP_CH_FENCES, F.TP_CH_SHADOW, F.TP_CH_STATE, F.TP_CH_STRIKES, F.TP_CMD_BUSY, F.TP_PROOF_RESULT, F.TP_PROOF_STATE,
    F.TP_PROOF_STEP, F.TP_STATE_DONOR, F.TP_STATE_FENCED, F.TP_STATE_IN_SERVICE, F.TP_STATE_RESYNC, F.TP_STATE_SIMPLEX_MS,
    F.TP_STATE_STATE, F.TP_VOTE_LATE_RUN, F.TP_VOTE_MINORITY], []⟩ d (Dev.settleRound d) := by
  unfold Dev.settleRound
  dsimp -proj only
  refine Dev.keeps_ite ?_ ?_
  · refine Dev.keeps_step (by decide +kernel) (Dev.interrupt_keeps ..) ?_
    refine Dev.keeps_foldl _ _ ?_ ?_
    · intro _ _
      refine Dev.keeps_step (by decide +kernel) (Dev.renew_keeps ..) ?_
      exact Dev.keeps_refl _ _
    · refine Dev.keeps_foldl _ _ ?_ ?_
      · intro _ _
        refine Dev.keeps_ite ?_ ?_
        · exact Dev.keeps_refl _ _
        · refine Dev.keeps_step (by decide +kernel) (Dev.react_keeps ..) ?_
          exact Dev.keeps_refl _ _
      · refine Dev.keeps_step (by decide +kernel) (Dev.firstFault_keeps ..) ?_
        refine Dev.keeps_foldl _ _ ?_ ?_
        · intro _ _
          refine Dev.keeps_step (by decide +kernel) (Dev.latchOne_keeps ..) ?_
          exact Dev.keeps_refl _ _
        · refine Dev.keeps_fc _ (by decide +kernel) ?_
          exact Dev.keeps_refl _ _
  · refine Dev.keeps_foldl _ _ ?_ ?_
    · intro _ _
      refine Dev.keeps_step (by decide +kernel) (Dev.renew_keeps ..) ?_
      exact Dev.keeps_refl _ _
    · refine Dev.keeps_foldl _ _ ?_ ?_
      · intro _ _
        refine Dev.keeps_ite ?_ ?_
        · exact Dev.keeps_refl _ _
        · refine Dev.keeps_step (by decide +kernel) (Dev.react_keeps ..) ?_
          exact Dev.keeps_refl _ _
      · refine Dev.keeps_step (by decide +kernel) (Dev.firstFault_keeps ..) ?_
        refine Dev.keeps_foldl _ _ ?_ ?_
        · intro _ _
          refine Dev.keeps_step (by decide +kernel) (Dev.latchOne_keeps ..) ?_
          exact Dev.keeps_refl _ _
        · refine Dev.keeps_fc _ (by decide +kernel) ?_
          exact Dev.keeps_refl _ _

theorem Dev.settleN_keeps (n : Nat) (d : Dev) : Dev.keeps ⟨[.out, .store, .grps, .chans, .tp, .cm, .si, .fc, .sb, .host, .dma], [F.CM_CRS_DELIV_DELIV, F.CM_CRS_DELIV_WORST, F.CM_CRS_PT_FAILED, F.CM_CRS_STAT_FOUND, F.CM_CRS_STAT_F_WORKING, F.CM_CRS_STAT_H_WORKING, F.CM_CRS_STAT_IN_SERVICE, F.CM_CRS_STAT_STATE, F.CM_DIR_W0_EVQ, F.CM_DIR_W0_REASON, F.CM_DIR_W0_STATE, F.CM_LANE_STAT_CDR_LOCK, F.CM_LANE_STAT_STATE, F.CM_LANE_STAT_TX_IDLE, F.DM_CH_DETAIL_PTFAIL, F.FC_COND_COND, F.FC_COUNT_COUNT, F.FC_FIRST_SAME_TICK, F.FC_FIRST_SEQ_SEQ, F.FC_FIRST_SOURCE, F.FC_FIRST_VALID, F.FC_IRQ_PENDING, F.FC_LATCH_LATCH, F.FC_LOG_STAT_QUEUE, F.FC_STATUS_SAFE_STATE, F.GL_PT_ERR_W0_COUNT, F.GL_PT_ERR_W0_STATUS, F.GL_PT_ERR_W1_ADDRESS, F.GL_READY_TRIPLEX, F.GP_HARVEST_PB_FAIL, F.HC_IRQ_STAT_STAT, F.MO_JOURNAL_FILL, F.MO_JOURNAL_PENDING, F.PL_SLACK_LAST, F.PL_SLACK_WMIN, F.PL_STATUS_CONSEC, F.SB_CMD_BUSY, F.SB_COURSE_CAUSE, F.SB_COURSE_SENT, F.SB_COURSE_SEQ, F.SB_COURSE_STATE, F.SB_DEMAND_COND, F.SB_DEMAND_IN_FORCE, F.SB_STATUS_BRAKE, F.SB_STATUS_HOLD_1, F.SB_STATUS_HOLD_2, F.SB_STATUS_TESTING, F.TB_PTP_PORT_W0_STATE, F.TP_CH_CAUSE, F.TP_CH_FENCES, F.TP_CH_SHADOW, F.TP_CH_STATE, F.TP_CH_STRIKES, F.TP_CMD_BUSY, F.TP_PROOF_RESULT, F.TP_PROOF_STATE, F.TP_PROOF_STEP, F.TP_STATE_DONOR, F.TP_STATE_FENCED, F.TP_STATE_IN_SERVICE, F.TP_STATE_RESYNC, F.TP_STATE_SIMPLEX_MS, F.TP_STATE_STATE, F.TP_VOTE_LATE_RUN, F.TP_VOTE_MINORITY], []⟩ d (Dev.settleN n d) := by
  induction n generalizing d with
  | zero => exact Dev.keeps_refl _ _
  | succ n ih =>
    unfold Dev.settleN
    refine Dev.keeps_ite (Dev.keeps_refl _ _) (Dev.keeps_trans (ih _) (Dev.settleRound_keeps ..))

end Sys2Proof.Machine
end

