-- ==== Sys2Proof/Laws/KeepsPipeline.lean ====
section
/-! SUPPORT. What the operations of Machine/Pipeline.lean may change at most, one lemma each. -/

namespace Sys2Proof.Machine

set_option Elab.async false

theorem Dev.modCg_keeps (d : Dev) (ch : Nat) (g : Nat) (f : ChanGrp → ChanGrp) : Dev.keeps ⟨[.chans], [], []⟩ d (Dev.modCg d ch g f) := by
  unfold Dev.modCg
  refine Dev.keeps_step (by decide +kernel) (Dev.modChan_keeps ..) ?_
  exact Dev.keeps_refl _ _

theorem Dev.stageRaise_keeps (g : Nat) (d : Dev) (n : Nat) : Dev.keeps ⟨[.fc], [F.GP_FEEDBACK_LOST_RAISED, F.PL_ARM_STATUS_ENERGY_RAISED,
    F.PL_ARM_STATUS_OVM_RAISED, F.PL_ARM_STATUS_TRIP_RAISED], []⟩ d (Dev.stageRaise g d n) := by
  unfold Dev.stageRaise
  dsimp -proj only
  refine Dev.keeps_ite ?_ ?_
  · refine Dev.keeps_ite ?_ ?_
    · refine Dev.keeps_flag _ _ _ _ (by decide +kernel) ?_
      refine Dev.keeps_step (by decide +kernel) (Dev.raise_keeps ..) ?_
      exact Dev.keeps_refl _ _
    · refine Dev.keeps_ite ?_ ?_
      · refine Dev.keeps_flag _ _ _ _ (by decide +kernel) ?_
        refine Dev.keeps_step (by decide +kernel) (Dev.raise_keeps ..) ?_
        exact Dev.keeps_refl _ _
      · refine Dev.keeps_flag _ _ _ _ (by decide +kernel) ?_
        exact Dev.keeps_refl _ _
  · refine Dev.keeps_ite ?_ ?_
    · refine Dev.keeps_step (by decide +kernel) (Dev.raise_keeps ..) ?_
      exact Dev.keeps_refl _ _
    · refine Dev.keeps_ite ?_ ?_
      · refine Dev.keeps_flag _ _ _ _ (by decide +kernel) ?_
        exact Dev.keeps_refl _ _
      · exact Dev.keeps_refl _ _

theorem Dev.stageFaults_keeps (g : Nat) (old : GridSt) (x : ChanGrp) (d : Dev) : Dev.keeps ⟨[.fc], [F.FC_COND_COND,
    F.GP_FEEDBACK_DISAGREE, F.GP_FEEDBACK_LOST_RAISED, F.PL_ARM_STATUS_ENERGY_RAISED, F.PL_ARM_STATUS_OVM_RAISED,
    F.PL_ARM_STATUS_TRIP_RAISED], []⟩ d (Dev.stageFaults g old x d) := by
  unfold Dev.stageFaults
  dsimp -proj only
  refine Dev.keeps_foldl _ _ ?_ ?_
  · intro _ _
    refine Dev.keeps_step (by decide +kernel) (Dev.cond_keeps ..) ?_
    refine Dev.keeps_step (by decide +kernel) (Dev.cond_keeps ..) ?_
    exact Dev.keeps_refl _ _
  · refine Dev.keeps_step (by decide +kernel) (Dev.cond_keeps ..) ?_
    refine Dev.keeps_each _ _ ?_ ?_
    · intro _ _
      refine Dev.keeps_ite ?_ ?_
      · refine Dev.keeps_flag _ _ _ _ (by decide +kernel) ?_
        refine Dev.keeps_step (by decide +kernel) (Dev.cond_keeps ..) ?_
        exact Dev.keeps_refl _ _
      · refine Dev.keeps_step (by decide +kernel) (Dev.cond_keeps ..) ?_
        exact Dev.keeps_refl _ _
    · refine Dev.keeps_foldl _ _ ?_ ?_
      · intro _ _
        refine Dev.keeps_step (by decide +kernel) (Dev.stageRaise_keeps ..) ?_
        exact Dev.keeps_refl _ _
      · exact Dev.keeps_refl _ _

theorem Dev.takeHarvest_keeps (g : Nat) (v : HarvSt) (d : Dev) : Dev.keeps ⟨[.out, .cm, .dma], [F.GP_HARVEST_BEST_PBEST,
    F.GP_HARVEST_BEST_VBEST, F.GP_HARVEST_CMD_RESULT], []⟩ d (Dev.takeHarvest g v d) := by
  unfold Dev.takeHarvest
  dsimp -proj only
  refine Dev.keeps_ite ?_ ?_
  · refine Dev.keeps_step (by decide +kernel) (Dev.writeBricks_keeps ..) ?_
    refine Dev.keeps_set _ _ _ _ (by decide +kernel) ?_
    refine Dev.keeps_set _ _ _ _ (by decide +kernel) ?_
    refine Dev.keeps_ite ?_ ?_
    · refine Dev.keeps_set _ _ _ _ (by decide +kernel) ?_
      split
      · refine Dev.keeps_set _ _ _ _ (by decide +kernel) ?_
        exact Dev.keeps_refl _ _
      · exact Dev.keeps_refl _ _
    · split
      · refine Dev.keeps_set _ _ _ _ (by decide +kernel) ?_
        exact Dev.keeps_refl _ _
      · exact Dev.keeps_refl _ _
  · refine Dev.keeps_set _ _ _ _ (by decide +kernel) ?_
    refine Dev.keeps_set _ _ _ _ (by decide +kernel) ?_
    refine Dev.keeps_ite ?_ ?_
    · refine Dev.keeps_set _ _ _ _ (by decide +kernel) ?_
      split
      · refine Dev.keeps_set _ _ _ _ (by decide +kernel) ?_
        exact Dev.keeps_refl _ _
      · exact Dev.keeps_refl _ _
    · split
      · refine Dev.keeps_set _ _ _ _ (by decide +kernel) ?_
        exact Dev.keeps_refl _ _
      · exact Dev.keeps_refl _ _

theorem Dev.afterPart_keeps (ch : Nat) (g : Nat) (old : GridSt) (d : Dev) : Dev.keeps ⟨[.out, .chans, .cm, .fc, .dma], [F.FC_COND_COND,
    F.GP_FEEDBACK_DISAGREE, F.GP_FEEDBACK_LOST_RAISED, F.GP_HARVEST_BEST_PBEST, F.GP_HARVEST_BEST_VBEST, F.GP_HARVEST_CMD_RESULT,
    F.PL_ARM_STATUS_ENERGY_RAISED, F.PL_ARM_STATUS_OVM_RAISED, F.PL_ARM_STATUS_TRIP_RAISED], []⟩ d (Dev.afterPart ch g old d) := by
  unfold Dev.afterPart
  dsimp -proj only
  refine Dev.keeps_step (by decide +kernel) (Dev.modCg_keeps ..) ?_
  refine Dev.keeps_ite ?_ ?_
  · refine Dev.keeps_step (by decide +kernel) (Dev.takeHarvest_keeps ..) ?_
    refine Dev.keeps_step (by decide +kernel) (Dev.stageFaults_keeps ..) ?_
    exact Dev.keeps_refl _ _
  · exact Dev.keeps_refl _ _

theorem Dev.armDecision_keeps (t : Nat) (f : GCtx → ArmSt → ArmSt × List Nat) (d : Dev) : Dev.keeps ⟨[.out, .chans, .cm, .fc, .dma],
    [F.FC_COND_COND, F.GP_FEEDBACK_DISAGREE, F.GP_FEEDBACK_LOST_RAISED, F.GP_HARVEST_BEST_PBEST, F.GP_HARVEST_BEST_VBEST,
    F.GP_HARVEST_CMD_RESULT, F.PL_ARM_STATUS_ENERGY_RAISED, F.PL_ARM_STATUS_OVM_RAISED, F.PL_ARM_STATUS_TRIP_RAISED], []⟩ d
    (Dev.armDecision t f d) := by
  unfold Dev.armDecision
  dsimp -proj only
  split
  · exact Dev.keeps_refl _ _
  · refine Dev.keeps_each _ _ ?_ ?_
    · intro _ _
      split
      · refine Dev.keeps_step (by decide +kernel) (Dev.afterPart_keeps ..) ?_
        refine Dev.keeps_step (by decide +kernel) (Dev.modCg_keeps ..) ?_
        exact Dev.keeps_refl _ _
      · exact Dev.keeps_refl _ _
    · exact Dev.keeps_refl _ _

theorem Dev.decision_keeps (g : Nat) (late : Bool) (f : GCtx → GridSt → GridSt) (d : Dev) : Dev.keeps ⟨[.out, .chans, .cm, .fc, .dma],
    [F.FC_COND_COND, F.GP_FEEDBACK_DISAGREE, F.GP_FEEDBACK_LOST_RAISED, F.GP_HARVEST_BEST_PBEST, F.GP_HARVEST_BEST_VBEST,
    F.GP_HARVEST_CMD_RESULT, F.PL_ARM_STATUS_ENERGY_RAISED, F.PL_ARM_STATUS_OVM_RAISED, F.PL_ARM_STATUS_TRIP_RAISED], []⟩ d (Dev.decision
    g late f d) := by
  unfold Dev.decision
  dsimp -proj only
  refine Dev.keeps_each _ _ ?_ ?_
  · intro _ _
    split
    · refine Dev.keeps_ite ?_ ?_
      · refine Dev.keeps_step (by decide +kernel) (Dev.afterPart_keeps ..) ?_
        refine Dev.keeps_step (by decide +kernel) (Dev.modCg_keeps ..) ?_
        exact Dev.keeps_refl _ _
      · exact Dev.keeps_refl _ _
    · exact Dev.keeps_refl _ _
  · exact Dev.keeps_refl _ _

theorem Dev.showArm_keeps (t : Nat) (chopper : Bool) (a : ArmSt) (d : Dev) : Dev.keeps ⟨[], [F.PL_ARM_COUNT_COUNT, F.PL_ARM_COUNT_FRAC,
    F.PL_ARM_CURRENT_IARM, F.PL_ARM_CURRENT_UREF, F.PL_ARM_ENERGY_EARM, F.PL_ARM_ENERGY_VBAR, F.PL_ARM_STATUS_ILIM, F.PL_ARM_STATUS_OVER,
    F.PL_ARM_STATUS_PRESENT, F.PL_ARM_STATUS_SIGN, F.PL_ARM_STATUS_UNDER, F.PL_ARM_STATUS_ZHOLD, F.PL_ARM_STATUS_ZREF_SAT, F.PL_CHOP_PDIS,
    F.PL_CHOP_STATE], []⟩ d (Dev.showArm t chopper a d) := by
  unfold Dev.showArm
  dsimp -proj only
  refine Dev.keeps_ite ?_ ?_
  · refine Dev.keeps_set _ _ _ _ (by decide +kernel) ?_
    refine Dev.keeps_set _ _ _ _ (by decide +kernel) ?_
    refine Dev.keeps_set _ _ _ _ (by decide +kernel) ?_
    refine Dev.keeps_set _ _ _ _ (by decide +kernel) ?_
    refine Dev.keeps_set _ _ _ _ (by decide +kernel) ?_
    refine Dev.keeps_flag _ _ _ _ (by decide +kernel) ?_
    refine Dev.keeps_flag _ _ _ _ (by decide +kernel) ?_
    refine Dev.keeps_flag _ _ _ _ (by decide +kernel) ?_
    refine Dev.keeps_flag _ _ _ _ (by decide +kernel) ?_
    refine Dev.keeps_flag _ _ _ _ (by decide +kernel) ?_
    refine Dev.keeps_flag _ _ _ _ (by decide +kernel) ?_
    refine Dev.keeps_set _ _ _ _ (by decide +kernel) ?_
    refine Dev.keeps_set _ _ _ _ (by decide +kernel) ?_
    refine Dev.keeps_set _ _ _ _ (by decide +kernel) ?_
    refine Dev.keeps_set _ _ _ _ (by decide +kernel) ?_
    exact Dev.keeps_refl _ _
  · refine Dev.keeps_set _ _ _ _ (by decide +kernel) ?_
    refine Dev.keeps_set _ _ _ _ (by decide +kernel) ?_
    refine Dev.keeps_set _ _ _ _ (by decide +kernel) ?_
    refine Dev.keeps_flag _ _ _ _ (by decide +kernel) ?_
    refine Dev.keeps_flag _ _ _ _ (by decide +kernel) ?_
    refine Dev.keeps_flag _ _ _ _ (by decide +kernel) ?_
    refine Dev.keeps_flag _ _ _ _ (by decide +kernel) ?_
    refine Dev.keeps_flag _ _ _ _ (by decide +kernel) ?_
    refine Dev.keeps_flag _ _ _ _ (by decide +kernel) ?_
    refine Dev.keeps_set _ _ _ _ (by decide +kernel) ?_
    refine Dev.keeps_set _ _ _ _ (by decide +kernel) ?_
    refine Dev.keeps_set _ _ _ _ (by decide +kernel) ?_
    refine Dev.keeps_set _ _ _ _ (by decide +kernel) ?_
    exact Dev.keeps_refl _ _

theorem Dev.showArmGroup_keeps (g : Nat) (o : CycleOut) (s : GridSt) (d : Dev) : Dev.keeps ⟨[], [F.GP_ANGLE_ANGLE, F.GP_CIRC_IZ,
    F.GP_CIRC_IZREF, F.GP_COMP_ACTING, F.GP_COMP_SAT, F.GP_ENERGY_ETOT, F.GP_ENERGY_PDEM, F.GP_LEG_DIFF, F.GP_LEG_ELEG], []⟩ d
    (Dev.showArmGroup g o s d) := by
  unfold Dev.showArmGroup
  dsimp -proj only
  refine Dev.keeps_each _ _ ?_ ?_
  · intro _ _
    refine Dev.keeps_set _ _ _ _ (by decide +kernel) ?_
    refine Dev.keeps_set _ _ _ _ (by decide +kernel) ?_
    refine Dev.keeps_set _ _ _ _ (by decide +kernel) ?_
    refine Dev.keeps_set _ _ _ _ (by decide +kernel) ?_
    exact Dev.keeps_refl _ _
  · refine Dev.keeps_set _ _ _ _ (by decide +kernel) ?_
    refine Dev.keeps_set _ _ _ _ (by decide +kernel) ?_
    refine Dev.keeps_ite ?_ ?_
    · refine Dev.keeps_flag _ _ _ _ (by decide +kernel) ?_
      refine Dev.keeps_set _ _ _ _ (by decide +kernel) ?_
      refine Dev.keeps_set _ _ _ _ (by decide +kernel) ?_
      exact Dev.keeps_refl _ _
    · refine Dev.keeps_set _ _ _ _ (by decide +kernel) ?_
      refine Dev.keeps_set _ _ _ _ (by decide +kernel) ?_
      exact Dev.keeps_refl _ _

theorem Dev.showGrid_keeps (g : Nat) (c : GCtx) (s : GridSt) (d : Dev) : Dev.keeps ⟨[], [F.GP_CURLIM_FORM_VIRT, F.GP_CURLIM_IMAX_ACTIVE,
    F.GP_CURLIM_LIMITED, F.GP_CURLIM_VOUT_SAT, F.GP_DCMEAS_IDC, F.GP_DCMEAS_VDC, F.GP_FEEDBACK_ALT, F.GP_FEEDBACK_HOLD,
    F.GP_FEEDBACK_VALID, F.GP_HARVEST_DIR, F.GP_HARVEST_FROZEN, F.GP_HARVEST_STATE, F.GP_HARVEST_VTGT, F.GP_ISLAND_ACTION,
    F.GP_ISLAND_BLANKED, F.GP_ISLAND_CRITERIA, F.GP_ISLAND_DETECTED, F.GP_ISLAND_Z, F.GP_JUMP_SEAT, F.GP_PQ_P, F.GP_PQ_Q, F.GP_RIDE_COUNT,
    F.GP_RIDE_ENTRY_AC, F.GP_RIDE_ENTRY_DC, F.GP_RIDE_EXITING, F.GP_RIDE_REPEAT_BLOCK, F.GP_RIDE_TIME_ELAPSED, F.GP_RIDE_TRIP_CURVE,
    F.GP_RIDE_VPRE, F.GP_SYNC_FLYWHEEL, F.GP_SYNC_FORMING, F.GP_SYNC_FREQ, F.GP_SYNC_LOCKED, F.GP_VSEQ_VNEG, F.GP_VSEQ_VPOS], []⟩ d
    (Dev.showGrid g c s d) := by
  unfold Dev.showGrid
  dsimp -proj only
  refine Dev.keeps_set _ _ _ _ (by decide +kernel) ?_
  refine Dev.keeps_flag _ _ _ _ (by decide +kernel) ?_
  refine Dev.keeps_flag _ _ _ _ (by decide +kernel) ?_
  refine Dev.keeps_set _ _ _ _ (by decide +kernel) ?_
  refine Dev.keeps_set _ _ _ _ (by decide +kernel) ?_
  refine Dev.keeps_set _ _ _ _ (by decide +kernel) ?_
  refine Dev.keeps_set _ _ _ _ (by decide +kernel) ?_
  refine Dev.keeps_flag _ _ _ _ (by decide +kernel) ?_
  refine Dev.keeps_ite ?_ ?_
  · refine Dev.keeps_flag _ _ _ _ (by decide +kernel) ?_
    refine Dev.keeps_setI _ _ _ _ (by decide +kernel) ?_
    refine Dev.keeps_set _ _ _ _ (by decide +kernel) ?_
    refine Dev.keeps_set _ _ _ _ (by decide +kernel) ?_
    refine Dev.keeps_set _ _ _ _ (by decide +kernel) ?_
    refine Dev.keeps_set _ _ _ _ (by decide +kernel) ?_
    refine Dev.keeps_ite ?_ ?_
    · refine Dev.keeps_flag _ _ _ _ (by decide +kernel) ?_
      refine Dev.keeps_flag _ _ _ _ (by decide +kernel) ?_
      refine Dev.keeps_flag _ _ _ _ (by decide +kernel) ?_
      refine Dev.keeps_flag _ _ _ _ (by decide +kernel) ?_
      refine Dev.keeps_each _ _ ?_ ?_
      · intro _ _
        refine Dev.keeps_flag _ _ _ _ (by decide +kernel) ?_
        refine Dev.keeps_flag _ _ _ _ (by decide +kernel) ?_
        refine Dev.keeps_flag _ _ _ _ (by decide +kernel) ?_
        exact Dev.keeps_refl _ _
      · refine Dev.keeps_ite ?_ ?_
        · refine Dev.keeps_count _ _ _ (by decide +kernel) ?_
          refine Dev.keeps_flag _ _ _ _ (by decide +kernel) ?_
          refine Dev.keeps_flag _ _ _ _ (by decide +kernel) ?_
          refine Dev.keeps_flag _ _ _ _ (by decide +kernel) ?_
          refine Dev.keeps_set _ _ _ _ (by decide +kernel) ?_
          refine Dev.keeps_set _ _ _ _ (by decide +kernel) ?_
          refine Dev.keeps_set _ _ _ _ (by decide +kernel) ?_
          refine Dev.keeps_set _ _ _ _ (by decide +kernel) ?_
          refine Dev.keeps_set _ _ _ _ (by decide +kernel) ?_
          refine Dev.keeps_set _ _ _ _ (by decide +kernel) ?_
          refine Dev.keeps_set _ _ _ _ (by decide +kernel) ?_
          refine Dev.keeps_flag _ _ _ _ (by decide +kernel) ?_
          refine Dev.keeps_flag _ _ _ _ (by decide +kernel) ?_
          refine Dev.keeps_flag _ _ _ _ (by decide +kernel) ?_
          exact Dev.keeps_refl _ _
        · refine Dev.keeps_flag _ _ _ _ (by decide +kernel) ?_
          refine Dev.keeps_flag _ _ _ _ (by decide +kernel) ?_
          refine Dev.keeps_flag _ _ _ _ (by decide +kernel) ?_
          refine Dev.keeps_set _ _ _ _ (by decide +kernel) ?_
          refine Dev.keeps_set _ _ _ _ (by decide +kernel) ?_
          refine Dev.keeps_set _ _ _ _ (by decide +kernel) ?_
          refine Dev.keeps_set _ _ _ _ (by decide +kernel) ?_
          refine Dev.keeps_set _ _ _ _ (by decide +kernel) ?_
          refine Dev.keeps_set _ _ _ _ (by decide +kernel) ?_
          refine Dev.keeps_set _ _ _ _ (by decide +kernel) ?_
          refine Dev.keeps_flag _ _ _ _ (by decide +kernel) ?_
          refine Dev.keeps_flag _ _ _ _ (by decide +kernel) ?_
          refine Dev.keeps_flag _ _ _ _ (by decide +kernel) ?_
          exact Dev.keeps_refl _ _
    · refine Dev.keeps_flag _ _ _ _ (by decide +kernel) ?_
      refine Dev.keeps_flag _ _ _ _ (by decide +kernel) ?_
      refine Dev.keeps_flag _ _ _ _ (by decide +kernel) ?_
      refine Dev.keeps_each _ _ ?_ ?_
      · intro _ _
        refine Dev.keeps_flag _ _ _ _ (by decide +kernel) ?_
        refine Dev.keeps_flag _ _ _ _ (by decide +kernel) ?_
        refine Dev.keeps_flag _ _ _ _ (by decide +kernel) ?_
        exact Dev.keeps_refl _ _
      · refine Dev.keeps_ite ?_ ?_
        · refine Dev.keeps_count _ _ _ (by decide +kernel) ?_
          refine Dev.keeps_flag _ _ _ _ (by decide +kernel) ?_
          refine Dev.keeps_flag _ _ _ _ (by decide +kernel) ?_
          refine Dev.keeps_flag _ _ _ _ (by decide +kernel) ?_
          refine Dev.keeps_set _ _ _ _ (by decide +kernel) ?_
          refine Dev.keeps_set _ _ _ _ (by decide +kernel) ?_
          refine Dev.keeps_set _ _ _ _ (by decide +kernel) ?_
          refine Dev.keeps_set _ _ _ _ (by decide +kernel) ?_
          refine Dev.keeps_set _ _ _ _ (by decide +kernel) ?_
          refine Dev.keeps_set _ _ _ _ (by decide +kernel) ?_
          refine Dev.keeps_set _ _ _ _ (by decide +kernel) ?_
          refine Dev.keeps_flag _ _ _ _ (by decide +kernel) ?_
          refine Dev.keeps_flag _ _ _ _ (by decide +kernel) ?_
          refine Dev.keeps_flag _ _ _ _ (by decide +kernel) ?_
          exact Dev.keeps_refl _ _
        · refine Dev.keeps_flag _ _ _ _ (by decide +kernel) ?_
          refine Dev.keeps_flag _ _ _ _ (by decide +kernel) ?_
          refine Dev.keeps_flag _ _ _ _ (by decide +kernel) ?_
          refine Dev.keeps_set _ _ _ _ (by decide +kernel) ?_
          refine Dev.keeps_set _ _ _ _ (by decide +kernel) ?_
          refine Dev.keeps_set _ _ _ _ (by decide +kernel) ?_
          refine Dev.keeps_set _ _ _ _ (by decide +kernel) ?_
          refine Dev.keeps_set _ _ _ _ (by decide +kernel) ?_
          refine Dev.keeps_set _ _ _ _ (by decide +kernel) ?_
          refine Dev.keeps_set _ _ _ _ (by decide +kernel) ?_
          refine Dev.keeps_flag _ _ _ _ (by decide +kernel) ?_
          refine Dev.keeps_flag _ _ _ _ (by decide +kernel) ?_
          refine Dev.keeps_flag _ _ _ _ (by decide +kernel) ?_
          exact Dev.keeps_refl _ _
  · refine Dev.keeps_setI _ _ _ _ (by decide +kernel) ?_
    refine Dev.keeps_set _ _ _ _ (by decide +kernel) ?_
    refine Dev.keeps_set _ _ _ _ (by decide +kernel) ?_
    refine Dev.keeps_set _ _ _ _ (by decide +kernel) ?_
    refine Dev.keeps_set _ _ _ _ (by decide +kernel) ?_
    refine Dev.keeps_ite ?_ ?_
    · refine Dev.keeps_flag _ _ _ _ (by decide +kernel) ?_
      refine Dev.keeps_flag _ _ _ _ (by decide +kernel) ?_
      refine Dev.keeps_flag _ _ _ _ (by decide +kernel) ?_
      refine Dev.keeps_flag _ _ _ _ (by decide +kernel) ?_
      refine Dev.keeps_each _ _ ?_ ?_
      · intro _ _
        refine Dev.keeps_flag _ _ _ _ (by decide +kernel) ?_
        refine Dev.keeps_flag _ _ _ _ (by decide +kernel) ?_
        refine Dev.keeps_flag _ _ _ _ (by decide +kernel) ?_
        exact Dev.keeps_refl _ _
      · refine Dev.keeps_ite ?_ ?_
        · refine Dev.keeps_count _ _ _ (by decide +kernel) ?_
          refine Dev.keeps_flag _ _ _ _ (by decide +kernel) ?_
          refine Dev.keeps_flag _ _ _ _ (by decide +kernel) ?_
          refine Dev.keeps_flag _ _ _ _ (by decide +kernel) ?_
          refine Dev.keeps_set _ _ _ _ (by decide +kernel) ?_
          refine Dev.keeps_set _ _ _ _ (by decide +kernel) ?_
          refine Dev.keeps_set _ _ _ _ (by decide +kernel) ?_
          refine Dev.keeps_set _ _ _ _ (by decide +kernel) ?_
          refine Dev.keeps_set _ _ _ _ (by decide +kernel) ?_
          refine Dev.keeps_set _ _ _ _ (by decide +kernel) ?_
          refine Dev.keeps_set _ _ _ _ (by decide +kernel) ?_
          refine Dev.keeps_flag _ _ _ _ (by decide +kernel) ?_
          refine Dev.keeps_flag _ _ _ _ (by decide +kernel) ?_
          refine Dev.keeps_flag _ _ _ _ (by decide +kernel) ?_
          exact Dev.keeps_refl _ _
        · refine Dev.keeps_flag _ _ _ _ (by decide +kernel) ?_
          refine Dev.keeps_flag _ _ _ _ (by decide +kernel) ?_
          refine Dev.keeps_flag _ _ _ _ (by decide +kernel) ?_
          refine Dev.keeps_set _ _ _ _ (by decide +kernel) ?_
          refine Dev.keeps_set _ _ _ _ (by decide +kernel) ?_
          refine Dev.keeps_set _ _ _ _ (by decide +kernel) ?_
          refine Dev.keeps_set _ _ _ _ (by decide +kernel) ?_
          refine Dev.keeps_set _ _ _ _ (by decide +kernel) ?_
          refine Dev.keeps_set _ _ _ _ (by decide +kernel) ?_
          refine Dev.keeps_set _ _ _ _ (by decide +kernel) ?_
          refine Dev.keeps_flag _ _ _ _ (by decide +kernel) ?_
          refine Dev.keeps_flag _ _ _ _ (by decide +kernel) ?_
          refine Dev.keeps_flag _ _ _ _ (by decide +kernel) ?_
          exact Dev.keeps_refl _ _
    · refine Dev.keeps_flag _ _ _ _ (by decide +kernel) ?_
      refine Dev.keeps_flag _ _ _ _ (by decide +kernel) ?_
      refine Dev.keeps_flag _ _ _ _ (by decide +kernel) ?_
      refine Dev.keeps_each _ _ ?_ ?_
      · intro _ _
        refine Dev.keeps_flag _ _ _ _ (by decide +kernel) ?_
        refine Dev.keeps_flag _ _ _ _ (by decide +kernel) ?_
        refine Dev.keeps_flag _ _ _ _ (by decide +kernel) ?_
        exact Dev.keeps_refl _ _
      · refine Dev.keeps_ite ?_ ?_
        · refine Dev.keeps_count _ _ _ (by decide +kernel) ?_
          refine Dev.keeps_flag _ _ _ _ (by decide +kernel) ?_
          refine Dev.keeps_flag _ _ _ _ (by decide +kernel) ?_
          refine Dev.keeps_flag _ _ _ _ (by decide +kernel) ?_
          refine Dev.keeps_set _ _ _ _ (by decide +kernel) ?_
          refine Dev.keeps_set _ _ _ _ (by decide +kernel) ?_
          refine Dev.keeps_set _ _ _ _ (by decide +kernel) ?_
          refine Dev.keeps_set _ _ _ _ (by decide +kernel) ?_
          refine Dev.keeps_set _ _ _ _ (by decide +kernel) ?_
          refine Dev.keeps_set _ _ _ _ (by decide +kernel) ?_
          refine Dev.keeps_set _ _ _ _ (by decide +kernel) ?_
          refine Dev.keeps_flag _ _ _ _ (by decide +kernel) ?_
          refine Dev.keeps_flag _ _ _ _ (by decide +kernel) ?_
          refine Dev.keeps_flag _ _ _ _ (by decide +kernel) ?_
          exact Dev.keeps_refl _ _
        · refine Dev.keeps_flag _ _ _ _ (by decide +kernel) ?_
          refine Dev.keeps_flag _ _ _ _ (by decide +kernel) ?_
          refine Dev.keeps_flag _ _ _ _ (by decide +kernel) ?_
          refine Dev.keeps_set _ _ _ _ (by decide +kernel) ?_
          refine Dev.keeps_set _ _ _ _ (by decide +kernel) ?_
          refine Dev.keeps_set _ _ _ _ (by decide +kernel) ?_
          refine Dev.keeps_set _ _ _ _ (by decide +kernel) ?_
          refine Dev.keeps_set _ _ _ _ (by decide +kernel) ?_
          refine Dev.keeps_set _ _ _ _ (by decide +kernel) ?_
          refine Dev.keeps_set _ _ _ _ (by decide +kernel) ?_
          refine Dev.keeps_flag _ _ _ _ (by decide +kernel) ?_
          refine Dev.keeps_flag _ _ _ _ (by decide +kernel) ?_
          refine Dev.keeps_flag _ _ _ _ (by decide +kernel) ?_
          exact Dev.keeps_refl _ _

theorem Dev.runPart_keeps (ch : Nat) (g : Nat) (part : Nat) (d : Dev) (cy : GCycle) : Dev.keeps ⟨[.out, .chans, .cm, .fc, .dma],
    [F.FC_COND_COND, F.GP_ANGLE_ANGLE, F.GP_CIRC_IZ, F.GP_CIRC_IZREF, F.GP_COMP_ACTING, F.GP_COMP_SAT, F.GP_CURLIM_FORM_VIRT,
    F.GP_CURLIM_IMAX_ACTIVE, F.GP_CURLIM_LIMITED, F.GP_CURLIM_VOUT_SAT, F.GP_DCMEAS_IDC, F.GP_DCMEAS_VDC, F.GP_ENERGY_ETOT,
    F.GP_ENERGY_PDEM, F.GP_FEEDBACK_ALT, F.GP_FEEDBACK_DISAGREE, F.GP_FEEDBACK_HOLD, F.GP_FEEDBACK_LOST_RAISED, F.GP_FEEDBACK_VALID,
    F.GP_HARVEST_BEST_PBEST, F.GP_HARVEST_BEST_VBEST, F.GP_HARVEST_CMD_RESULT, F.GP_HARVEST_DIR, F.GP_HARVEST_FROZEN, F.GP_HARVEST_STATE,
    F.GP_HARVEST_VTGT, F.GP_ISLAND_ACTION, F.GP_ISLAND_BLANKED, F.GP_ISLAND_CRITERIA, F.GP_ISLAND_DETECTED, F.GP_ISLAND_Z, F.GP_JUMP_SEAT,
    F.GP_LEG_DIFF, F.GP_LEG_ELEG, F.GP_PQ_P, F.GP_PQ_Q, F.GP_RIDE_COUNT, F.GP_RIDE_ENTRY_AC, F.GP_RIDE_ENTRY_DC, F.GP_RIDE_EXITING,
    F.GP_RIDE_REPEAT_BLOCK, F.GP_RIDE_TIME_ELAPSED, F.GP_RIDE_TRIP_CURVE, F.GP_RIDE_VPRE, F.GP_SYNC_FLYWHEEL, F.GP_SYNC_FORMING,
    F.GP_SYNC_FREQ, F.GP_SYNC_LOCKED, F.GP_VSEQ_VNEG, F.GP_VSEQ_VPOS, F.PL_ARM_COUNT_COUNT, F.PL_ARM_COUNT_FRAC, F.PL_ARM_CURRENT_IARM,
    F.PL_ARM_CURRENT_UREF, F.PL_ARM_ENERGY_EARM, F.PL_ARM_ENERGY_VBAR, F.PL_ARM_STATUS_ENERGY_RAISED, F.PL_ARM_STATUS_ILIM,
    F.PL_ARM_STATUS_OVER, F.PL_ARM_STATUS_OVM_RAISED, F.PL_ARM_STATUS_PRESENT, F.PL_ARM_STATUS_SIGN, F.PL_ARM_STATUS_TRIP_RAISED,
    F.PL_ARM_STATUS_UNDER, F.PL_ARM_STATUS_ZHOLD, F.PL_ARM_STATUS_ZREF_SAT, F.PL_CHOP_PDIS, F.PL_CHOP_STATE], []⟩ d (Dev.runPart ch g part
    d cy) := by
  unfold Dev.runPart
  dsimp -proj only
  refine Dev.keeps_ite ?_ ?_
  · exact Dev.keeps_refl _ _
  · refine Dev.keeps_ite ?_ ?_
    · refine Dev.keeps_step (by decide +kernel) (Dev.modCg_keeps ..) ?_
      exact Dev.keeps_refl _ _
    · refine Dev.keeps_ite ?_ ?_
      · refine Dev.keeps_step (by decide +kernel) (Dev.afterPart_keeps ..) ?_
        refine Dev.keeps_step (by decide +kernel) (Dev.modCg_keeps ..) ?_
        exact Dev.keeps_refl _ _
      · refine Dev.keeps_ite ?_ ?_
        · refine Dev.keeps_foldl _ _ ?_ ?_
          · intro _ _
            refine Dev.keeps_step (by decide +kernel) (Dev.showArm_keeps ..) ?_
            exact Dev.keeps_refl _ _
          · refine Dev.keeps_step (by decide +kernel) (Dev.afterPart_keeps ..) ?_
            refine Dev.keeps_step (by decide +kernel) (Dev.modCg_keeps ..) ?_
            exact Dev.keeps_refl _ _
        · split
          · refine Dev.keeps_step (by decide +kernel) (Dev.showArmGroup_keeps ..) ?_
            refine Dev.keeps_step (by decide +kernel) (Dev.showGrid_keeps ..) ?_
            refine Dev.keeps_foldl _ _ ?_ ?_
            · intro _ _
              refine Dev.keeps_step (by decide +kernel) (Dev.showArm_keeps ..) ?_
              exact Dev.keeps_refl _ _
            · refine Dev.keeps_step (by decide +kernel) (Dev.afterPart_keeps ..) ?_
              refine Dev.keeps_step (by decide +kernel) (Dev.modCg_keeps ..) ?_
              exact Dev.keeps_refl _ _
          · refine Dev.keeps_foldl _ _ ?_ ?_
            · intro _ _
              refine Dev.keeps_step (by decide +kernel) (Dev.showArm_keeps ..) ?_
              exact Dev.keeps_refl _ _
            · refine Dev.keeps_step (by decide +kernel) (Dev.afterPart_keeps ..) ?_
              refine Dev.keeps_step (by decide +kernel) (Dev.modCg_keeps ..) ?_
              exact Dev.keeps_refl _ _

theorem Dev.groupTo_keeps (ch : Nat) (g : Nat) (k : Nat) (part : Nat) (d : Dev) : Dev.keeps ⟨[.out, .chans, .cm, .fc, .dma],
    [F.FC_COND_COND, F.GP_ANGLE_ANGLE, F.GP_CIRC_IZ, F.GP_CIRC_IZREF, F.GP_COMP_ACTING, F.GP_COMP_SAT, F.GP_CURLIM_FORM_VIRT,
    F.GP_CURLIM_IMAX_ACTIVE, F.GP_CURLIM_LIMITED, F.GP_CURLIM_VOUT_SAT, F.GP_DCMEAS_IDC, F.GP_DCMEAS_VDC, F.GP_ENERGY_ETOT,
    F.GP_ENERGY_PDEM, F.GP_FEEDBACK_ALT, F.GP_FEEDBACK_DISAGREE, F.GP_FEEDBACK_HOLD, F.GP_FEEDBACK_LOST_RAISED, F.GP_FEEDBACK_VALID,
    F.GP_HARVEST_BEST_PBEST, F.GP_HARVEST_BEST_VBEST, F.GP_HARVEST_CMD_RESULT, F.GP_HARVEST_DIR, F.GP_HARVEST_FROZEN, F.GP_HARVEST_STATE,
    F.GP_HARVEST_VTGT, F.GP_ISLAND_ACTION, F.GP_ISLAND_BLANKED, F.GP_ISLAND_CRITERIA, F.GP_ISLAND_DETECTED, F.GP_ISLAND_Z, F.GP_JUMP_SEAT,
    F.GP_LEG_DIFF, F.GP_LEG_ELEG, F.GP_PQ_P, F.GP_PQ_Q, F.GP_RIDE_COUNT, F.GP_RIDE_ENTRY_AC, F.GP_RIDE_ENTRY_DC, F.GP_RIDE_EXITING,
    F.GP_RIDE_REPEAT_BLOCK, F.GP_RIDE_TIME_ELAPSED, F.GP_RIDE_TRIP_CURVE, F.GP_RIDE_VPRE, F.GP_SYNC_FLYWHEEL, F.GP_SYNC_FORMING,
    F.GP_SYNC_FREQ, F.GP_SYNC_LOCKED, F.GP_VSEQ_VNEG, F.GP_VSEQ_VPOS, F.PL_ARM_COUNT_COUNT, F.PL_ARM_COUNT_FRAC, F.PL_ARM_CURRENT_IARM,
    F.PL_ARM_CURRENT_UREF, F.PL_ARM_ENERGY_EARM, F.PL_ARM_ENERGY_VBAR, F.PL_ARM_STATUS_ENERGY_RAISED, F.PL_ARM_STATUS_ILIM,
    F.PL_ARM_STATUS_OVER, F.PL_ARM_STATUS_OVM_RAISED, F.PL_ARM_STATUS_PRESENT, F.PL_ARM_STATUS_SIGN, F.PL_ARM_STATUS_TRIP_RAISED,
    F.PL_ARM_STATUS_UNDER, F.PL_ARM_STATUS_ZHOLD, F.PL_ARM_STATUS_ZREF_SAT, F.PL_CHOP_PDIS, F.PL_CHOP_STATE], []⟩ d (Dev.groupTo ch g k
    part d) := by
  unfold Dev.groupTo
  dsimp -proj only
  refine Dev.keeps_foldl _ _ ?_ ?_
  · intro _ _
    refine Dev.keeps_foldl _ _ ?_ ?_
    · intro _ _
      split
      · refine Dev.keeps_step (by decide +kernel) (Dev.runPart_keeps ..) ?_
        exact Dev.keeps_refl _ _
      · exact Dev.keeps_refl _ _
    · exact Dev.keeps_refl _ _
  · exact Dev.keeps_refl _ _

theorem Dev.modCt_keeps (d : Dev) (ch : Nat) (t : Nat) (f : ChanTile → ChanTile) : Dev.keeps ⟨[.chans], [], []⟩ d (Dev.modCt d ch t f) :=
    by
  unfold Dev.modCt
  refine Dev.keeps_step (by decide +kernel) (Dev.modChan_keeps ..) ?_
  exact Dev.keeps_refl _ _

theorem Dev.showSchedule_keeps (t : Nat) (before : RankSt) (r : Scheduled) (d : Dev) : Dev.keeps ⟨[.fc], [F.PL_RANK_BOUND_BOUND,
    F.PL_RANK_BOUND_ON_LEN, F.PL_RANK_FAULTS_PARKS, F.PL_RANK_STATUS_DISPUTE_RAISED, F.PL_RANK_STATUS_DROPPED,
    F.PL_RANK_STATUS_ECHO_RAISED, F.PL_RANK_STATUS_HOLES, F.PL_RANK_STATUS_NRANK, F.PL_RANK_STATUS_PARKED, F.PL_RANK_STATUS_SORTED,
    F.PL_RANK_STATUS_STRETCHED, F.PL_RANK_SWAPS_APPLIED, F.PL_RANK_SWAPS_DEFERRED], []⟩ d (Dev.showSchedule t before r d) := by
  unfold Dev.showSchedule
  dsimp -proj only
  refine Dev.keeps_ite ?_ ?_
  · refine Dev.keeps_flag _ _ _ _ (by decide +kernel) ?_
    refine Dev.keeps_step (by decide +kernel) (Dev.raise_keeps ..) ?_
    refine Dev.keeps_ite ?_ ?_
    · refine Dev.keeps_flag _ _ _ _ (by decide +kernel) ?_
      refine Dev.keeps_step (by decide +kernel) (Dev.raise_keeps ..) ?_
      refine Dev.keeps_addTo _ _ _ _ (by decide +kernel) ?_
      refine Dev.keeps_addTo _ _ _ _ (by decide +kernel) ?_
      refine Dev.keeps_addTo _ _ _ _ (by decide +kernel) ?_
      refine Dev.keeps_set _ _ _ _ (by decide +kernel) ?_
      refine Dev.keeps_set _ _ _ _ (by decide +kernel) ?_
      refine Dev.keeps_flag _ _ _ _ (by decide +kernel) ?_
      refine Dev.keeps_flag _ _ _ _ (by decide +kernel) ?_
      refine Dev.keeps_flag _ _ _ _ (by decide +kernel) ?_
      refine Dev.keeps_flag _ _ _ _ (by decide +kernel) ?_
      refine Dev.keeps_set _ _ _ _ (by decide +kernel) ?_
      refine Dev.keeps_set _ _ _ _ (by decide +kernel) ?_
      exact Dev.keeps_refl _ _
    · refine Dev.keeps_addTo _ _ _ _ (by decide +kernel) ?_
      refine Dev.keeps_addTo _ _ _ _ (by decide +kernel) ?_
      refine Dev.keeps_addTo _ _ _ _ (by decide +kernel) ?_
      refine Dev.keeps_set _ _ _ _ (by decide +kernel) ?_
      refine Dev.keeps_set _ _ _ _ (by decide +kernel) ?_
      refine Dev.keeps_flag _ _ _ _ (by decide +kernel) ?_
      refine Dev.keeps_flag _ _ _ _ (by decide +kernel) ?_
      refine Dev.keeps_flag _ _ _ _ (by decide +kernel) ?_
      refine Dev.keeps_flag _ _ _ _ (by decide +kernel) ?_
      refine Dev.keeps_set _ _ _ _ (by decide +kernel) ?_
      refine Dev.keeps_set _ _ _ _ (by decide +kernel) ?_
      exact Dev.keeps_refl _ _
  · refine Dev.keeps_ite ?_ ?_
    · refine Dev.keeps_flag _ _ _ _ (by decide +kernel) ?_
      refine Dev.keeps_step (by decide +kernel) (Dev.raise_keeps ..) ?_
      refine Dev.keeps_addTo _ _ _ _ (by decide +kernel) ?_
      refine Dev.keeps_addTo _ _ _ _ (by decide +kernel) ?_
      refine Dev.keeps_addTo _ _ _ _ (by decide +kernel) ?_
      refine Dev.keeps_set _ _ _ _ (by decide +kernel) ?_
      refine Dev.keeps_set _ _ _ _ (by decide +kernel) ?_
      refine Dev.keeps_flag _ _ _ _ (by decide +kernel) ?_
      refine Dev.keeps_flag _ _ _ _ (by decide +kernel) ?_
      refine Dev.keeps_flag _ _ _ _ (by decide +kernel) ?_
      refine Dev.keeps_flag _ _ _ _ (by decide +kernel) ?_
      refine Dev.keeps_set _ _ _ _ (by decide +kernel) ?_
      refine Dev.keeps_set _ _ _ _ (by decide +kernel) ?_
      exact Dev.keeps_refl _ _
    · refine Dev.keeps_addTo _ _ _ _ (by decide +kernel) ?_
      refine Dev.keeps_addTo _ _ _ _ (by decide +kernel) ?_
      refine Dev.keeps_addTo _ _ _ _ (by decide +kernel) ?_
      refine Dev.keeps_set _ _ _ _ (by decide +kernel) ?_
      refine Dev.keeps_set _ _ _ _ (by decide +kernel) ?_
      refine Dev.keeps_flag _ _ _ _ (by decide +kernel) ?_
      refine Dev.keeps_flag _ _ _ _ (by decide +kernel) ?_
      refine Dev.keeps_flag _ _ _ _ (by decide +kernel) ?_
      refine Dev.keeps_flag _ _ _ _ (by decide +kernel) ?_
      refine Dev.keeps_set _ _ _ _ (by decide +kernel) ?_
      refine Dev.keeps_set _ _ _ _ (by decide +kernel) ?_
      exact Dev.keeps_refl _ _

theorem Dev.schedule_keeps (ch : Nat) (g : Nat) (t : Nat) (j : Job) (d : Dev) : Dev.keeps ⟨[.chans, .fc], [F.PL_RANK_BOUND_BOUND,
    F.PL_RANK_BOUND_ON_LEN, F.PL_RANK_FAULTS_PARKS, F.PL_RANK_STATUS_DISPUTE_RAISED, F.PL_RANK_STATUS_DROPPED,
    F.PL_RANK_STATUS_ECHO_RAISED, F.PL_RANK_STATUS_HOLES, F.PL_RANK_STATUS_NRANK, F.PL_RANK_STATUS_PARKED, F.PL_RANK_STATUS_SORTED,
    F.PL_RANK_STATUS_STRETCHED, F.PL_RANK_SWAPS_APPLIED, F.PL_RANK_SWAPS_DEFERRED], []⟩ d (Dev.schedule ch g t j d).1 := by
  unfold Dev.schedule
  dsimp -proj only
  dsimp only
  refine Dev.keeps_ite ?_ ?_
  · refine Dev.keeps_step (by decide +kernel) (Dev.showSchedule_keeps ..) ?_
    refine Dev.keeps_step (by decide +kernel) (Dev.modCt_keeps ..) ?_
    exact Dev.keeps_refl _ _
  · refine Dev.keeps_step (by decide +kernel) (Dev.modCt_keeps ..) ?_
    exact Dev.keeps_refl _ _

theorem Dev.effect_keeps (ch : Nat) (g : Nat) (t : Nat) (d : Dev) (j : Job) : Dev.keeps ⟨[.out, .chans, .cm, .fc, .dma], [F.FC_COND_COND,
    F.GP_ANGLE_ANGLE, F.GP_CIRC_IZ, F.GP_CIRC_IZREF, F.GP_COMP_ACTING, F.GP_COMP_SAT, F.GP_CURLIM_FORM_VIRT, F.GP_CURLIM_IMAX_ACTIVE,
    F.GP_CURLIM_LIMITED, F.GP_CURLIM_VOUT_SAT, F.GP_DCMEAS_IDC, F.GP_DCMEAS_VDC, F.GP_ENERGY_ETOT, F.GP_ENERGY_PDEM, F.GP_FEEDBACK_ALT,
    F.GP_FEEDBACK_DISAGREE, F.GP_FEEDBACK_HOLD, F.GP_FEEDBACK_LOST_RAISED, F.GP_FEEDBACK_VALID, F.GP_HARVEST_BEST_PBEST,
    F.GP_HARVEST_BEST_VBEST, F.GP_HARVEST_CMD_RESULT, F.GP_HARVEST_DIR, F.GP_HARVEST_FROZEN, F.GP_HARVEST_STATE, F.GP_HARVEST_VTGT,
    F.GP_ISLAND_ACTION, F.GP_ISLAND_BLANKED, F.GP_ISLAND_CRITERIA, F.GP_ISLAND_DETECTED, F.GP_ISLAND_Z, F.GP_JUMP_SEAT, F.GP_LEG_DIFF,
    F.GP_LEG_ELEG, F.GP_PQ_P, F.GP_PQ_Q, F.GP_RIDE_COUNT, F.GP_RIDE_ENTRY_AC, F.GP_RIDE_ENTRY_DC, F.GP_RIDE_EXITING,
    F.GP_RIDE_REPEAT_BLOCK, F.GP_RIDE_TIME_ELAPSED, F.GP_RIDE_TRIP_CURVE, F.GP_RIDE_VPRE, F.GP_SYNC_FLYWHEEL, F.GP_SYNC_FORMING,
    F.GP_SYNC_FREQ, F.GP_SYNC_LOCKED, F.GP_VSEQ_VNEG, F.GP_VSEQ_VPOS, F.PL_ARM_COUNT_COUNT, F.PL_ARM_COUNT_FRAC, F.PL_ARM_CURRENT_IARM,
    F.PL_ARM_CURRENT_UREF, F.PL_ARM_ENERGY_EARM, F.PL_ARM_ENERGY_VBAR, F.PL_ARM_STATUS_ENERGY_RAISED, F.PL_ARM_STATUS_ILIM,
    F.PL_ARM_STATUS_OVER, F.PL_ARM_STATUS_OVM_RAISED, F.PL_ARM_STATUS_PRESENT, F.PL_ARM_STATUS_SIGN, F.PL_ARM_STATUS_TRIP_RAISED,
    F.PL_ARM_STATUS_UNDER, F.PL_ARM_STATUS_ZHOLD, F.PL_ARM_STATUS_ZREF_SAT, F.PL_CHOP_PDIS, F.PL_CHOP_STATE, F.PL_RANK_BOUND_BOUND,
    F.PL_RANK_BOUND_ON_LEN, F.PL_RANK_FAULTS_PARKS, F.PL_RANK_STATUS_DISPUTE_RAISED, F.PL_RANK_STATUS_DROPPED,
    F.PL_RANK_STATUS_ECHO_RAISED, F.PL_RANK_STATUS_HOLES, F.PL_RANK_STATUS_NRANK, F.PL_RANK_STATUS_PARKED, F.PL_RANK_STATUS_SORTED,
    F.PL_RANK_STATUS_STRETCHED, F.PL_RANK_SWAPS_APPLIED, F.PL_RANK_SWAPS_DEFERRED], []⟩ d (Dev.effect ch g t d j) := by
  unfold Dev.effect
  dsimp -proj only
  refine Dev.keeps_step (by decide +kernel) (Dev.modCt_keeps ..) ?_
  split
  · dsimp only
    refine Dev.keeps_ite ?_ ?_
    · refine Dev.keeps_step (by decide +kernel) (Dev.groupTo_keeps ..) ?_
      exact Dev.keeps_refl _ _
    · exact Dev.keeps_refl _ _
  · split
    · dsimp only
      refine Dev.keeps_ite ?_ ?_
      · refine Dev.keeps_step (by decide +kernel) (Dev.groupTo_keeps ..) ?_
        exact Dev.keeps_refl _ _
      · exact Dev.keeps_refl _ _
    · split
      · dsimp only
        refine Dev.keeps_ite ?_ ?_
        · refine Dev.keeps_step (by decide +kernel) (Dev.groupTo_keeps ..) ?_
          exact Dev.keeps_refl _ _
        · exact Dev.keeps_refl _ _
      · split
        · refine Dev.keeps_step (by decide +kernel) (Dev.schedule_keeps ..) ?_
          refine Dev.keeps_ite ?_ ?_
          · refine Dev.keeps_step (by decide +kernel) (Dev.groupTo_keeps ..) ?_
            exact Dev.keeps_refl _ _
          · exact Dev.keeps_refl _ _
        · dsimp only
          refine Dev.keeps_ite ?_ ?_
          · refine Dev.keeps_step (by decide +kernel) (Dev.groupTo_keeps ..) ?_
            exact Dev.keeps_refl _ _
          · exact Dev.keeps_refl _ _

theorem Dev.effectsTo_keeps (ch : Nat) (g : Nat) (t : Nat) (k : Nat) (n : Nat) (d : Dev) : Dev.keeps ⟨[.out, .chans, .cm, .fc, .dma],
    [F.FC_COND_COND, F.GP_ANGLE_ANGLE, F.GP_CIRC_IZ, F.GP_CIRC_IZREF, F.GP_COMP_ACTING, F.GP_COMP_SAT, F.GP_CURLIM_FORM_VIRT,
    F.GP_CURLIM_IMAX_ACTIVE, F.GP_CURLIM_LIMITED, F.GP_CURLIM_VOUT_SAT, F.GP_DCMEAS_IDC, F.GP_DCMEAS_VDC, F.GP_ENERGY_ETOT,
    F.GP_ENERGY_PDEM, F.GP_FEEDBACK_ALT, F.GP_FEEDBACK_DISAGREE, F.GP_FEEDBACK_HOLD, F.GP_FEEDBACK_LOST_RAISED, F.GP_FEEDBACK_VALID,
    F.GP_HARVEST_BEST_PBEST, F.GP_HARVEST_BEST_VBEST, F.GP_HARVEST_CMD_RESULT, F.GP_HARVEST_DIR, F.GP_HARVEST_FROZEN, F.GP_HARVEST_STATE,
    F.GP_HARVEST_VTGT, F.GP_ISLAND_ACTION, F.GP_ISLAND_BLANKED, F.GP_ISLAND_CRITERIA, F.GP_ISLAND_DETECTED, F.GP_ISLAND_Z, F.GP_JUMP_SEAT,
    F.GP_LEG_DIFF, F.GP_LEG_ELEG, F.GP_PQ_P, F.GP_PQ_Q, F.GP_RIDE_COUNT, F.GP_RIDE_ENTRY_AC, F.GP_RIDE_ENTRY_DC, F.GP_RIDE_EXITING,
    F.GP_RIDE_REPEAT_BLOCK, F.GP_RIDE_TIME_ELAPSED, F.GP_RIDE_TRIP_CURVE, F.GP_RIDE_VPRE, F.GP_SYNC_FLYWHEEL, F.GP_SYNC_FORMING,
    F.GP_SYNC_FREQ, F.GP_SYNC_LOCKED, F.GP_VSEQ_VNEG, F.GP_VSEQ_VPOS, F.PL_ARM_COUNT_COUNT, F.PL_ARM_COUNT_FRAC, F.PL_ARM_CURRENT_IARM,
    F.PL_ARM_CURRENT_UREF, F.PL_ARM_ENERGY_EARM, F.PL_ARM_ENERGY_VBAR, F.PL_ARM_STATUS_ENERGY_RAISED, F.PL_ARM_STATUS_ILIM,
    F.PL_ARM_STATUS_OVER, F.PL_ARM_STATUS_OVM_RAISED, F.PL_ARM_STATUS_PRESENT, F.PL_ARM_STATUS_SIGN, F.PL_ARM_STATUS_TRIP_RAISED,
    F.PL_ARM_STATUS_UNDER, F.PL_ARM_STATUS_ZHOLD, F.PL_ARM_STATUS_ZREF_SAT, F.PL_CHOP_PDIS, F.PL_CHOP_STATE, F.PL_RANK_BOUND_BOUND,
    F.PL_RANK_BOUND_ON_LEN, F.PL_RANK_FAULTS_PARKS, F.PL_RANK_STATUS_DISPUTE_RAISED, F.PL_RANK_STATUS_DROPPED,
    F.PL_RANK_STATUS_ECHO_RAISED, F.PL_RANK_STATUS_HOLES, F.PL_RANK_STATUS_NRANK, F.PL_RANK_STATUS_PARKED, F.PL_RANK_STATUS_SORTED,
    F.PL_RANK_STATUS_STRETCHED, F.PL_RANK_SWAPS_APPLIED, F.PL_RANK_SWAPS_DEFERRED], []⟩ d (Dev.effectsTo ch g t k n d) := by
  unfold Dev.effectsTo
  refine Dev.keeps_foldl _ _ ?_ ?_
  · intro _ _
    split
    · refine Dev.keeps_ite ?_ ?_
      · refine Dev.keeps_step (by decide +kernel) (Dev.effect_keeps ..) ?_
        exact Dev.keeps_refl _ _
      · exact Dev.keeps_refl _ _
    · exact Dev.keeps_refl _ _
  · exact Dev.keeps_refl _ _

theorem Dev.handBack_keeps (g : Nat) (t : Nat) (i : Nat) (d : Dev) : Dev.keeps ⟨[.cm], [F.CM_CRS_STAT_FOUND, F.CM_CRS_STAT_IN_SERVICE,
    F.CM_DIR_W0_REASON, F.CM_DIR_W0_STATE], []⟩ d (Dev.handBack g t i d) := by
  unfold Dev.handBack
  dsimp -proj only
  refine Dev.keeps_ite ?_ ?_
  · refine Dev.keeps_step (by decide +kernel) (Dev.failAdmission_keeps ..) ?_
    refine Dev.keeps_step (by decide +kernel) (Dev.orderOp_keeps ..) ?_
    exact Dev.keeps_refl _ _
  · refine Dev.keeps_step (by decide +kernel) (Dev.orderOp_keeps ..) ?_
    exact Dev.keeps_refl _ _

theorem Dev.orderNow_keeps (g : Nat) (t : Nat) (d : Dev) : Dev.keeps ⟨[.chans, .cm], [], []⟩ d (Dev.orderNow g t d) := by
  unfold Dev.orderNow
  dsimp -proj only
  refine Dev.keeps_ite ?_ ?_
  · refine Dev.keeps_cm _ (by decide +kernel) ?_
    refine Dev.keeps_each _ _ ?_ ?_
    · intro _ _
      refine Dev.keeps_step (by decide +kernel) (Dev.modCt_keeps ..) ?_
      exact Dev.keeps_refl _ _
    · exact Dev.keeps_refl _ _
  · exact Dev.keeps_refl _ _

theorem Dev.outcomesSeen_keeps (t : Nat) (tc : TileCfg) (before : RankSt) (l : List (Nat × Decided)) (d : Dev) : Dev.keeps ⟨[.cm],
    [F.CM_CRS_DELIV_DELIV, F.CM_CRS_DELIV_WORST, F.CM_CRS_STAT_FOUND, F.CM_CRS_STAT_IN_SERVICE, F.CM_DIR_W0_STATE,
    F.PL_RANK_FAULTS_DISPUTED, F.PL_RANK_FAULTS_ECHO_BAD, F.PL_RANK_FAULTS_HELD], []⟩ d (Dev.outcomesSeen t tc before l d) := by
  unfold Dev.outcomesSeen
  dsimp -proj only
  refine Dev.keeps_foldl _ _ ?_ ?_
  · intro _ _
    refine Dev.keeps_ite ?_ ?_
    · refine Dev.keeps_step (by decide +kernel) (Dev.updateDeliv_keeps ..) ?_
      refine Dev.keeps_step (by decide +kernel) (Dev.setEntry_keeps ..) ?_
      refine Dev.keeps_step (by decide +kernel) (Dev.modDir_keeps ..) ?_
      exact Dev.keeps_refl _ _
    · exact Dev.keeps_refl _ _
  · refine Dev.keeps_addTo _ _ _ _ (by decide +kernel) ?_
    refine Dev.keeps_addTo _ _ _ _ (by decide +kernel) ?_
    refine Dev.keeps_addTo _ _ _ _ (by decide +kernel) ?_
    exact Dev.keeps_refl _ _

theorem Dev.parkNow_keeps {S : Scope} (hS : Scope.le ⟨[.chans], [F.PL_RANK_FAULTS_PARKS], []⟩ S = true) (b : Nat) (why : List Nat) (f :
    Nat → Nat → Dev → Dev) (d : Dev) (hf : ∀ (x0 : Nat) (x1 : Nat) (x2 : Dev), Dev.keeps S x2 (f x0 x1 x2)) : Dev.keeps S d (Dev.parkNow b
    why f d) := by
  unfold Dev.parkNow
  dsimp -proj only
  split
  · refine Dev.keeps_ite ?_ ?_
    · refine Dev.keeps_trans (hf _ _ _) ?_
      refine Dev.keeps_count _ _ _ (Scope.le_fld (by decide +kernel) hS) ?_
      refine Dev.keeps_each _ _ ?_ ?_
      · intro _ _
        refine Dev.keeps_step (Scope.le_trans (by decide +kernel) hS) (Dev.modCt_keeps ..) ?_
        exact Dev.keeps_refl _ _
      · exact Dev.keeps_refl _ _
    · refine Dev.keeps_each _ _ ?_ ?_
      · intro _ _
        refine Dev.keeps_step (Scope.le_trans (by decide +kernel) hS) (Dev.modCt_keeps ..) ?_
        exact Dev.keeps_refl _ _
      · exact Dev.keeps_refl _ _
  · exact Dev.keeps_refl _ _

theorem Dev.rideDecision_keeps (g : Nat) (f : GCtx → GridSt → GridSt) (d : Dev) : Dev.keeps ⟨[.out, .chans, .cm, .fc, .dma],
    [F.FC_COND_COND, F.GP_FEEDBACK_DISAGREE, F.GP_FEEDBACK_LOST_RAISED, F.GP_HARVEST_BEST_PBEST, F.GP_HARVEST_BEST_VBEST,
    F.GP_HARVEST_CMD_RESULT, F.PL_ARM_STATUS_ENERGY_RAISED, F.PL_ARM_STATUS_OVM_RAISED, F.PL_ARM_STATUS_TRIP_RAISED], []⟩ d
    (Dev.rideDecision g f d) := by
  unfold Dev.rideDecision
  refine Dev.keeps_step (by decide +kernel) (Dev.decision_keeps ..) ?_
  exact Dev.keeps_refl _ _

theorem Dev.settleJobs_keeps (ch : Nat) (g : Nat) (t : Nat) (d : Dev) : Dev.keeps ⟨[.out, .chans, .cm, .fc, .dma], [F.FC_COND_COND,
    F.GP_ANGLE_ANGLE, F.GP_CIRC_IZ, F.GP_CIRC_IZREF, F.GP_COMP_ACTING, F.GP_COMP_SAT, F.GP_CURLIM_FORM_VIRT, F.GP_CURLIM_IMAX_ACTIVE,
    F.GP_CURLIM_LIMITED, F.GP_CURLIM_VOUT_SAT, F.GP_DCMEAS_IDC, F.GP_DCMEAS_VDC, F.GP_ENERGY_ETOT, F.GP_ENERGY_PDEM, F.GP_FEEDBACK_ALT,
    F.GP_FEEDBACK_DISAGREE, F.GP_FEEDBACK_HOLD, F.GP_FEEDBACK_LOST_RAISED, F.GP_FEEDBACK_VALID, F.GP_HARVEST_BEST_PBEST,
    F.GP_HARVEST_BEST_VBEST, F.GP_HARVEST_CMD_RESULT, F.GP_HARVEST_DIR, F.GP_HARVEST_FROZEN, F.GP_HARVEST_STATE, F.GP_HARVEST_VTGT,
    F.GP_ISLAND_ACTION, F.GP_ISLAND_BLANKED, F.GP_ISLAND_CRITERIA, F.GP_ISLAND_DETECTED, F.GP_ISLAND_Z, F.GP_JUMP_SEAT, F.GP_LEG_DIFF,
    F.GP_LEG_ELEG, F.GP_PQ_P, F.GP_PQ_Q, F.GP_RIDE_COUNT, F.GP_RIDE_ENTRY_AC, F.GP_RIDE_ENTRY_DC, F.GP_RIDE_EXITING,
    F.GP_RIDE_REPEAT_BLOCK, F.GP_RIDE_TIME_ELAPSED, F.GP_RIDE_TRIP_CURVE, F.GP_RIDE_VPRE, F.GP_SYNC_FLYWHEEL, F.GP_SYNC_FORMING,
    F.GP_SYNC_FREQ, F.GP_SYNC_LOCKED, F.GP_VSEQ_VNEG, F.GP_VSEQ_VPOS, F.PL_ARM_COUNT_COUNT, F.PL_ARM_COUNT_FRAC, F.PL_ARM_CURRENT_IARM,
    F.PL_ARM_CURRENT_UREF, F.PL_ARM_ENERGY_EARM, F.PL_ARM_ENERGY_VBAR, F.PL_ARM_STATUS_ENERGY_RAISED, F.PL_ARM_STATUS_ILIM,
    F.PL_ARM_STATUS_OVER, F.PL_ARM_STATUS_OVM_RAISED, F.PL_ARM_STATUS_PRESENT, F.PL_ARM_STATUS_SIGN, F.PL_ARM_STATUS_TRIP_RAISED,
    F.PL_ARM_STATUS_UNDER, F.PL_ARM_STATUS_ZHOLD, F.PL_ARM_STATUS_ZREF_SAT, F.PL_CHOP_PDIS, F.PL_CHOP_STATE, F.PL_RANK_BOUND_BOUND,
    F.PL_RANK_BOUND_ON_LEN, F.PL_RANK_FAULTS_PARKS, F.PL_RANK_STATUS_DISPUTE_RAISED, F.PL_RANK_STATUS_DROPPED,
    F.PL_RANK_STATUS_ECHO_RAISED, F.PL_RANK_STATUS_HOLES, F.PL_RANK_STATUS_NRANK, F.PL_RANK_STATUS_PARKED, F.PL_RANK_STATUS_SORTED,
    F.PL_RANK_STATUS_STRETCHED, F.PL_RANK_SWAPS_APPLIED, F.PL_RANK_SWAPS_DEFERRED], []⟩ d (Dev.settleJobs ch g t d) := by
  unfold Dev.settleJobs
  refine Dev.keeps_foldl _ _ ?_ ?_
  · intro _ _
    refine Dev.keeps_step (by decide +kernel) (Dev.effectsTo_keeps ..) ?_
    exact Dev.keeps_refl _ _
  · exact Dev.keeps_refl _ _

theorem Dev.showBricks_keeps (t : Nat) (courses : List Nat) (present : List (Nat × Nat)) (l : List (Nat × BrickSt)) (d : Dev) : Dev.keeps
    ⟨[], [], [(0x108000, 0x108008)]⟩ d (Dev.showBricks t courses present l d) := by
  unfold Dev.showBricks
  dsimp -proj only
  refine Dev.keeps_foldl _ _ ?_ ?_
  · intro _ _
    refine Dev.keeps_set _ _ _ _ (by decide +kernel) ?_
    refine Dev.keeps_set _ _ _ _ (by decide +kernel) ?_
    refine Dev.keeps_set _ _ _ _ (by decide +kernel) ?_
    refine Dev.keeps_set _ _ _ _ (by decide +kernel) ?_
    refine Dev.keeps_set _ _ _ _ (by decide +kernel) ?_
    refine Dev.keeps_set _ _ _ _ (by decide +kernel) ?_
    refine Dev.keeps_set _ _ _ _ (by decide +kernel) ?_
    exact Dev.keeps_refl _ _
  · refine Dev.keeps_filter _ (fun f i j v hf => ?_) ?_
    · simp only [Scope.covers, Bool.or_eq_false_iff, List.any_eq_false, List.mem_singleton, forall_eq, Bool.and_eq_true, decide_eq_true_eq] at hf
      simp only [Bool.not_eq_true', Bool.and_eq_false_iff, Bool.or_eq_false_iff, beq_eq_false_iff_ne]
      omega
    exact Dev.keeps_refl _ _

theorem Dev.tileAtDr_keeps (ch : Nat) (g : Nat) (t : Nat) (tc : TileCfg) (ops : List (Nat × Nat)) (d : Dev) : Dev.keeps ⟨[.chans, .cm],
    [F.CM_CRS_DELIV_DELIV, F.CM_CRS_DELIV_WORST, F.CM_CRS_STAT_FOUND, F.CM_CRS_STAT_IN_SERVICE, F.CM_DIR_W0_STATE,
    F.PL_RANK_FAULTS_DISPUTED, F.PL_RANK_FAULTS_ECHO_BAD, F.PL_RANK_FAULTS_HELD], [(0x108000, 0x108008)]⟩ d (Dev.tileAtDr ch g t tc ops d)
    := by
  unfold Dev.tileAtDr
  dsimp -proj only
  refine Dev.keeps_step (by decide +kernel) (Dev.modCt_keeps ..) ?_
  refine Dev.keeps_ite ?_ ?_
  · refine Dev.keeps_step (by decide +kernel) (Dev.showBricks_keeps ..) ?_
    refine Dev.keeps_ite ?_ ?_
    · refine Dev.keeps_step (by decide +kernel) (Dev.outcomesSeen_keeps ..) ?_
      exact Dev.keeps_refl _ _
    · exact Dev.keeps_refl _ _
  · refine Dev.keeps_ite ?_ ?_
    · refine Dev.keeps_step (by decide +kernel) (Dev.outcomesSeen_keeps ..) ?_
      exact Dev.keeps_refl _ _
    · exact Dev.keeps_refl _ _

theorem admissionFail_keeps (b : Nat) (d : Dev) : Dev.keeps ⟨[.chans, .cm], [F.CM_CRS_STAT_FOUND, F.CM_CRS_STAT_IN_SERVICE,
    F.CM_DIR_W0_REASON, F.CM_DIR_W0_STATE], []⟩ d (admissionFail b d) := by
  unfold admissionFail
  split
  · refine Dev.keeps_ite ?_ ?_
    · refine Dev.keeps_step (by decide +kernel) (Dev.orderNow_keeps ..) ?_
      refine Dev.keeps_step (by decide +kernel) (Dev.handBack_keeps ..) ?_
      exact Dev.keeps_refl _ _
    · exact Dev.keeps_refl _ _
  · exact Dev.keeps_refl _ _

theorem angleSeatCmd_keeps (g : Nat) (d : Dev) : Dev.keeps ⟨[.out, .chans, .cm, .fc, .dma], [F.FC_COND_COND, F.GP_FEEDBACK_DISAGREE,
    F.GP_FEEDBACK_LOST_RAISED, F.GP_HARVEST_BEST_PBEST, F.GP_HARVEST_BEST_VBEST, F.GP_HARVEST_CMD_RESULT, F.PL_ARM_STATUS_ENERGY_RAISED,
    F.PL_ARM_STATUS_OVM_RAISED, F.PL_ARM_STATUS_TRIP_RAISED], []⟩ d (angleSeatCmd g d) := by
  unfold angleSeatCmd
  refine Dev.keeps_step (by decide +kernel) (Dev.rideDecision_keeps ..) ?_
  exact Dev.keeps_refl _ _

theorem armEnergyFaultCmd_keeps (t : Nat) (d : Dev) : Dev.keeps ⟨[.out, .chans, .cm, .fc, .dma], [F.FC_COND_COND, F.GP_FEEDBACK_DISAGREE,
    F.GP_FEEDBACK_LOST_RAISED, F.GP_HARVEST_BEST_PBEST, F.GP_HARVEST_BEST_VBEST, F.GP_HARVEST_CMD_RESULT, F.PL_ARM_STATUS_ENERGY_RAISED,
    F.PL_ARM_STATUS_OVM_RAISED, F.PL_ARM_STATUS_TRIP_RAISED], []⟩ d (armEnergyFaultCmd t d) := by
  unfold armEnergyFaultCmd
  refine Dev.keeps_step (by decide +kernel) (Dev.armDecision_keeps ..) ?_
  exact Dev.keeps_refl _ _

theorem automaticAdmissionCmd_keeps (b : Nat) (d : Dev) : Dev.keeps ⟨[.chans, .cm], [F.CM_CRS_DELIV_DELIV, F.CM_CRS_DELIV_WORST,
    F.CM_CRS_STAT_FOUND, F.CM_CRS_STAT_IN_SERVICE, F.CM_DIR_W0_STATE], []⟩ d (automaticAdmissionCmd b d) := by
  unfold automaticAdmissionCmd
  split
  · refine Dev.keeps_step (by decide +kernel) (Dev.orderNow_keeps ..) ?_
    refine Dev.keeps_step (by decide +kernel) (automaticAdmission_keeps ..) ?_
    exact Dev.keeps_refl _ _
  · exact Dev.keeps_refl _ _

theorem brickAbsent_keeps (b : Nat) (d : Dev) : Dev.keeps ⟨[.chans, .fc], [F.PL_RANK_FAULTS_PARKS, F.PL_RANK_STATUS_DISPUTE_RAISED], []⟩ d
    (brickAbsent b d) := by
  unfold brickAbsent
  refine Dev.keeps_trans (Dev.parkNow_keeps (by decide +kernel) _ _ _ _ ?_) ?_
  · intro _ _ _
    refine Dev.keeps_ite ?_ ?_
    · refine Dev.keeps_flag _ _ _ _ (by decide +kernel) ?_
      refine Dev.keeps_step (by decide +kernel) (Dev.raise_keeps ..) ?_
      exact Dev.keeps_refl _ _
    · exact Dev.keeps_refl _ _
  · exact Dev.keeps_refl _ _

theorem dischargeTimeoutCmd_keeps (g : Nat) (d : Dev) : Dev.keeps ⟨[.out, .chans, .cm, .fc, .dma], [F.FC_COND_COND,
    F.GP_FEEDBACK_DISAGREE, F.GP_FEEDBACK_LOST_RAISED, F.GP_HARVEST_BEST_PBEST, F.GP_HARVEST_BEST_VBEST, F.GP_HARVEST_CMD_RESULT,
    F.PL_ARM_STATUS_ENERGY_RAISED, F.PL_ARM_STATUS_OVM_RAISED, F.PL_ARM_STATUS_TRIP_RAISED], []⟩ d (dischargeTimeoutCmd g d) := by
  unfold dischargeTimeoutCmd
  refine Dev.keeps_step (by decide +kernel) (Dev.decision_keeps ..) ?_
  exact Dev.keeps_refl _ _

theorem echoPark_keeps (b : Nat) (d : Dev) : Dev.keeps ⟨[.chans, .fc], [F.PL_RANK_FAULTS_PARKS, F.PL_RANK_STATUS_ECHO_RAISED], []⟩ d
    (echoPark b d) := by
  unfold echoPark
  refine Dev.keeps_trans (Dev.parkNow_keeps (by decide +kernel) _ _ _ _ ?_) ?_
  · intro _ _ _
    refine Dev.keeps_flag _ _ _ _ (by decide +kernel) ?_
    refine Dev.keeps_step (by decide +kernel) (Dev.raise_keeps ..) ?_
    exact Dev.keeps_refl _ _
  · exact Dev.keeps_refl _ _

theorem fadeEndCmd_keeps (g : Nat) (d : Dev) : Dev.keeps ⟨[.out, .chans, .cm, .fc, .dma], [F.FC_COND_COND, F.GP_FEEDBACK_DISAGREE,
    F.GP_FEEDBACK_LOST_RAISED, F.GP_HARVEST_BEST_PBEST, F.GP_HARVEST_BEST_VBEST, F.GP_HARVEST_CMD_RESULT, F.GP_MODE_FADING,
    F.PL_ARM_STATUS_ENERGY_RAISED, F.PL_ARM_STATUS_OVM_RAISED, F.PL_ARM_STATUS_TRIP_RAISED], []⟩ d (fadeEndCmd g d) := by
  unfold fadeEndCmd
  dsimp -proj only
  refine Dev.keeps_ite ?_ ?_
  · refine Dev.keeps_flag _ _ _ _ (by decide +kernel) ?_
    refine Dev.keeps_step (by decide +kernel) (Dev.decision_keeps ..) ?_
    exact Dev.keeps_refl _ _
  · refine Dev.keeps_step (by decide +kernel) (Dev.decision_keeps ..) ?_
    exact Dev.keeps_refl _ _

theorem feedbackDisagreementCmd_keeps (g : Nat) (n : Nat) (d : Dev) : Dev.keeps ⟨[.out, .chans, .cm, .fc, .dma], [F.FC_COND_COND,
    F.GP_FEEDBACK_DISAGREE, F.GP_FEEDBACK_LOST_RAISED, F.GP_HARVEST_BEST_PBEST, F.GP_HARVEST_BEST_VBEST, F.GP_HARVEST_CMD_RESULT,
    F.PL_ARM_STATUS_ENERGY_RAISED, F.PL_ARM_STATUS_OVM_RAISED, F.PL_ARM_STATUS_TRIP_RAISED], []⟩ d (feedbackDisagreementCmd g n d) := by
  unfold feedbackDisagreementCmd
  refine Dev.keeps_step (by decide +kernel) (Dev.decision_keeps ..) ?_
  exact Dev.keeps_refl _ _

theorem feedbackHoldExpiryCmd_keeps (g : Nat) (n : Nat) (d : Dev) : Dev.keeps ⟨[.out, .chans, .cm, .fc, .dma], [F.FC_COND_COND,
    F.GP_FEEDBACK_DISAGREE, F.GP_FEEDBACK_LOST_RAISED, F.GP_HARVEST_BEST_PBEST, F.GP_HARVEST_BEST_VBEST, F.GP_HARVEST_CMD_RESULT,
    F.PL_ARM_STATUS_ENERGY_RAISED, F.PL_ARM_STATUS_OVM_RAISED, F.PL_ARM_STATUS_TRIP_RAISED], []⟩ d (feedbackHoldExpiryCmd g n d) := by
  unfold feedbackHoldExpiryCmd
  refine Dev.keeps_step (by decide +kernel) (Dev.decision_keeps ..) ?_
  exact Dev.keeps_refl _ _

theorem feedbackPrimaryReturnCmd_keeps (g : Nat) (n : Nat) (d : Dev) : Dev.keeps ⟨[.out, .chans, .cm, .fc, .dma], [F.FC_COND_COND,
    F.GP_FEEDBACK_DISAGREE, F.GP_FEEDBACK_LOST_RAISED, F.GP_HARVEST_BEST_PBEST, F.GP_HARVEST_BEST_VBEST, F.GP_HARVEST_CMD_RESULT,
    F.PL_ARM_STATUS_ENERGY_RAISED, F.PL_ARM_STATUS_OVM_RAISED, F.PL_ARM_STATUS_TRIP_RAISED], []⟩ d (feedbackPrimaryReturnCmd g n d) := by
  unfold feedbackPrimaryReturnCmd
  refine Dev.keeps_step (by decide +kernel) (Dev.decision_keeps ..) ?_
  exact Dev.keeps_refl _ _

theorem flywheelClearCmd_keeps (g : Nat) (d : Dev) : Dev.keeps ⟨[.out, .chans, .cm, .fc, .dma], [F.FC_COND_COND, F.GP_FEEDBACK_DISAGREE,
    F.GP_FEEDBACK_LOST_RAISED, F.GP_HARVEST_BEST_PBEST, F.GP_HARVEST_BEST_VBEST, F.GP_HARVEST_CMD_RESULT, F.PL_ARM_STATUS_ENERGY_RAISED,
    F.PL_ARM_STATUS_OVM_RAISED, F.PL_ARM_STATUS_TRIP_RAISED], []⟩ d (flywheelClearCmd g d) := by
  unfold flywheelClearCmd
  refine Dev.keeps_step (by decide +kernel) (Dev.decision_keeps ..) ?_
  exact Dev.keeps_refl _ _

theorem harvestScanEndCmd_keeps (g : Nat) (d : Dev) : Dev.keeps ⟨[.out, .chans, .cm, .fc, .dma], [F.FC_COND_COND, F.GP_FEEDBACK_DISAGREE,
    F.GP_FEEDBACK_LOST_RAISED, F.GP_HARVEST_BEST_PBEST, F.GP_HARVEST_BEST_VBEST, F.GP_HARVEST_CMD_RESULT, F.PL_ARM_STATUS_ENERGY_RAISED,
    F.PL_ARM_STATUS_OVM_RAISED, F.PL_ARM_STATUS_TRIP_RAISED], []⟩ d (harvestScanEndCmd g d) := by
  unfold harvestScanEndCmd
  refine Dev.keeps_step (by decide +kernel) (Dev.decision_keeps ..) ?_
  exact Dev.keeps_refl _ _

theorem harvestScanPeriodCmd_keeps (g : Nat) (d : Dev) : Dev.keeps ⟨[.out, .chans, .cm, .fc, .dma], [F.FC_COND_COND,
    F.GP_FEEDBACK_DISAGREE, F.GP_FEEDBACK_LOST_RAISED, F.GP_HARVEST_BEST_PBEST, F.GP_HARVEST_BEST_VBEST, F.GP_HARVEST_CMD_RESULT,
    F.PL_ARM_STATUS_ENERGY_RAISED, F.PL_ARM_STATUS_OVM_RAISED, F.PL_ARM_STATUS_TRIP_RAISED], []⟩ d (harvestScanPeriodCmd g d) := by
  unfold harvestScanPeriodCmd
  refine Dev.keeps_step (by decide +kernel) (Dev.decision_keeps ..) ?_
  exact Dev.keeps_refl _ _

theorem harvestTrackStepCmd_keeps (g : Nat) (d : Dev) : Dev.keeps ⟨[.out, .chans, .cm, .fc, .dma], [F.FC_COND_COND,
    F.GP_FEEDBACK_DISAGREE, F.GP_FEEDBACK_LOST_RAISED, F.GP_HARVEST_BEST_PBEST, F.GP_HARVEST_BEST_VBEST, F.GP_HARVEST_CMD_RESULT,
    F.PL_ARM_STATUS_ENERGY_RAISED, F.PL_ARM_STATUS_OVM_RAISED, F.PL_ARM_STATUS_TRIP_RAISED], []⟩ d (harvestTrackStepCmd g d) := by
  unfold harvestTrackStepCmd
  refine Dev.keeps_step (by decide +kernel) (Dev.decision_keeps ..) ?_
  exact Dev.keeps_refl _ _

theorem islandingDetectedCmd_keeps (g : Nat) (d : Dev) : Dev.keeps ⟨[.out, .chans, .cm, .fc, .dma], [F.FC_COND_COND,
    F.GP_FEEDBACK_DISAGREE, F.GP_FEEDBACK_LOST_RAISED, F.GP_HARVEST_BEST_PBEST, F.GP_HARVEST_BEST_VBEST, F.GP_HARVEST_CMD_RESULT,
    F.PL_ARM_STATUS_ENERGY_RAISED, F.PL_ARM_STATUS_OVM_RAISED, F.PL_ARM_STATUS_TRIP_RAISED], []⟩ d (islandingDetectedCmd g d) := by
  unfold islandingDetectedCmd
  refine Dev.keeps_step (by decide +kernel) (Dev.rideDecision_keeps ..) ?_
  exact Dev.keeps_refl _ _

theorem islandingPulseCmd_keeps (g : Nat) (d : Dev) : Dev.keeps ⟨[.out, .chans, .cm, .fc, .dma], [F.FC_COND_COND, F.GP_FEEDBACK_DISAGREE,
    F.GP_FEEDBACK_LOST_RAISED, F.GP_HARVEST_BEST_PBEST, F.GP_HARVEST_BEST_VBEST, F.GP_HARVEST_CMD_RESULT, F.PL_ARM_STATUS_ENERGY_RAISED,
    F.PL_ARM_STATUS_OVM_RAISED, F.PL_ARM_STATUS_TRIP_RAISED], []⟩ d (islandingPulseCmd g d) := by
  unfold islandingPulseCmd
  refine Dev.keeps_step (by decide +kernel) (Dev.decision_keeps ..) ?_
  exact Dev.keeps_refl _ _

theorem lineTestHoldEndCmd_keeps (g : Nat) (d : Dev) : Dev.keeps ⟨[.out, .chans, .cm, .fc, .dma], [F.FC_COND_COND, F.GP_FEEDBACK_DISAGREE,
    F.GP_FEEDBACK_LOST_RAISED, F.GP_HARVEST_BEST_PBEST, F.GP_HARVEST_BEST_VBEST, F.GP_HARVEST_CMD_RESULT, F.PL_ARM_STATUS_ENERGY_RAISED,
    F.PL_ARM_STATUS_OVM_RAISED, F.PL_ARM_STATUS_TRIP_RAISED], []⟩ d (lineTestHoldEndCmd g d) := by
  unfold lineTestHoldEndCmd
  refine Dev.keeps_step (by decide +kernel) (Dev.decision_keeps ..) ?_
  exact Dev.keeps_refl _ _

theorem overmodulationFaultCmd_keeps (t : Nat) (d : Dev) : Dev.keeps ⟨[.out, .chans, .cm, .fc, .dma], [F.FC_COND_COND,
    F.GP_FEEDBACK_DISAGREE, F.GP_FEEDBACK_LOST_RAISED, F.GP_HARVEST_BEST_PBEST, F.GP_HARVEST_BEST_VBEST, F.GP_HARVEST_CMD_RESULT,
    F.PL_ARM_STATUS_ENERGY_RAISED, F.PL_ARM_STATUS_OVM_RAISED, F.PL_ARM_STATUS_TRIP_RAISED], []⟩ d (overmodulationFaultCmd t d) := by
  unfold overmodulationFaultCmd
  refine Dev.keeps_step (by decide +kernel) (Dev.armDecision_keeps ..) ?_
  exact Dev.keeps_refl _ _

theorem reportDeadline_keeps (g : Nat) (d : Dev) : Dev.keeps ⟨[.out, .clk, .grps, .chans, .cm, .fc, .sb, .host, .dma], [F.CM_CRS_CMD_BUSY,
    F.CM_CRS_DELIV_DELIV, F.CM_CRS_DELIV_WORST, F.CM_CRS_PT_FAILED, F.CM_CRS_STAT_FOUND, F.CM_CRS_STAT_IN_SERVICE, F.CM_CRS_STAT_STATE,
    F.CM_DIR_W0_EVQ, F.CM_DIR_W0_REASON, F.CM_DIR_W0_STATE, F.CM_LANE_STAT_CDR_LOCK, F.CM_LANE_STAT_STATE, F.CM_LANE_STAT_TX_IDLE,
    F.DM_CH_DETAIL_PTFAIL, F.FC_COND_COND, F.GL_PT_ERR_W0_COUNT, F.GL_PT_ERR_W0_STATUS, F.GL_PT_ERR_W1_ADDRESS, F.GP_ANGLE_ANGLE,
    F.GP_CIRC_IZ, F.GP_CIRC_IZREF, F.GP_COMP_ACTING, F.GP_COMP_SAT, F.GP_CURLIM_FORM_VIRT, F.GP_CURLIM_IMAX_ACTIVE, F.GP_CURLIM_LIMITED,
    F.GP_CURLIM_VOUT_SAT, F.GP_DCMEAS_IDC, F.GP_DCMEAS_VDC, F.GP_ENERGY_ETOT, F.GP_ENERGY_PDEM, F.GP_FEEDBACK_ALT, F.GP_FEEDBACK_DISAGREE,
    F.GP_FEEDBACK_HOLD, F.GP_FEEDBACK_LOST_RAISED, F.GP_FEEDBACK_VALID, F.GP_HARVEST_BEST_PBEST, F.GP_HARVEST_BEST_VBEST,
    F.GP_HARVEST_CMD_RESULT, F.GP_HARVEST_DIR, F.GP_HARVEST_FROZEN, F.GP_HARVEST_PB_FAIL, F.GP_HARVEST_STATE, F.GP_HARVEST_VTGT,
    F.GP_ISLAND_ACTION, F.GP_ISLAND_BLANKED, F.GP_ISLAND_CRITERIA, F.GP_ISLAND_DETECTED, F.GP_ISLAND_Z, F.GP_JUMP_SEAT, F.GP_LEG_DIFF,
    F.GP_LEG_ELEG, F.GP_PQ_P, F.GP_PQ_Q, F.GP_RIDE_COUNT, F.GP_RIDE_ENTRY_AC, F.GP_RIDE_ENTRY_DC, F.GP_RIDE_EXITING,
    F.GP_RIDE_REPEAT_BLOCK, F.GP_RIDE_TIME_ELAPSED, F.GP_RIDE_TRIP_CURVE, F.GP_RIDE_VPRE, F.GP_SYNC_FLYWHEEL, F.GP_SYNC_FORMING,
    F.GP_SYNC_FREQ, F.GP_SYNC_LOCKED, F.GP_VSEQ_VNEG, F.GP_VSEQ_VPOS, F.HC_IRQ_STAT_STAT, F.LM_RESULT_WORD, F.PL_ARM_COUNT_COUNT,
    F.PL_ARM_COUNT_FRAC, F.PL_ARM_CURRENT_IARM, F.PL_ARM_CURRENT_UREF, F.PL_ARM_ENERGY_EARM, F.PL_ARM_ENERGY_VBAR,
    F.PL_ARM_STATUS_ENERGY_RAISED, F.PL_ARM_STATUS_ILIM, F.PL_ARM_STATUS_OVER, F.PL_ARM_STATUS_OVM_RAISED, F.PL_ARM_STATUS_PRESENT,
    F.PL_ARM_STATUS_SIGN, F.PL_ARM_STATUS_TRIP_RAISED, F.PL_ARM_STATUS_UNDER, F.PL_ARM_STATUS_ZHOLD, F.PL_ARM_STATUS_ZREF_SAT,
    F.PL_CHOP_PDIS, F.PL_CHOP_STATE, F.PL_RANK_BOUND_BOUND, F.PL_RANK_BOUND_ON_LEN, F.PL_RANK_FAULTS_DISPUTED, F.PL_RANK_FAULTS_ECHO_BAD,
    F.PL_RANK_FAULTS_HELD, F.PL_RANK_FAULTS_PARKS, F.PL_RANK_STATUS_DISPUTE_RAISED, F.PL_RANK_STATUS_DROPPED,
    F.PL_RANK_STATUS_ECHO_RAISED, F.PL_RANK_STATUS_HOLES, F.PL_RANK_STATUS_NRANK, F.PL_RANK_STATUS_PARKED, F.PL_RANK_STATUS_SORTED,
    F.PL_RANK_STATUS_STRETCHED, F.PL_RANK_SWAPS_APPLIED, F.PL_RANK_SWAPS_DEFERRED, F.PL_STATUS_OVERFLOW, F.SB_COURSE_CAUSE,
    F.SB_COURSE_STATE], [(0x108000, 0x108008)]⟩ d (reportDeadline g d) := by
  unfold reportDeadline
  dsimp -proj only
  refine Dev.keeps_ite ?_ ?_
  · exact Dev.keeps_refl _ _
  · refine Dev.keeps_step (by decide +kernel) (Dev.modGrp_keeps ..) ?_
    refine Dev.keeps_ite ?_ ?_
    · refine Dev.keeps_foldl _ _ ?_ ?_
      · intro _ _
        refine Dev.keeps_ite ?_ ?_
        · refine Dev.keeps_step (by decide +kernel) (Dev.raise_keeps ..) ?_
          refine Dev.keeps_flag _ _ _ _ (by decide +kernel) ?_
          exact Dev.keeps_refl _ _
        · refine Dev.keeps_ite ?_ ?_
          · refine Dev.keeps_cm _ (by decide +kernel) ?_
            refine Dev.keeps_each _ _ ?_ ?_
            · intro _ _
              refine Dev.keeps_step (by decide +kernel) (Dev.tileAtDr_keeps ..) ?_
              exact Dev.keeps_refl _ _
            · exact Dev.keeps_refl _ _
          · refine Dev.keeps_each _ _ ?_ ?_
            · intro _ _
              refine Dev.keeps_step (by decide +kernel) (Dev.tileAtDr_keeps ..) ?_
              exact Dev.keeps_refl _ _
            · exact Dev.keeps_refl _ _
      · refine Dev.keeps_step (by decide +kernel) (Dev.modGrp_keeps ..) ?_
        refine Dev.keeps_each _ _ ?_ ?_
        · intro _ _
          refine Dev.keeps_step (by decide +kernel) (Dev.releaseAtDr_keeps ..) ?_
          exact Dev.keeps_refl _ _
        · refine Dev.keeps_each _ _ ?_ ?_
          · intro _ _
            refine Dev.keeps_step (by decide +kernel) (Dev.crsAtDr_keeps ..) ?_
            exact Dev.keeps_refl _ _
          · refine Dev.keeps_foldl _ _ ?_ ?_
            · intro _ _
              refine Dev.keeps_each _ _ ?_ ?_
              · intro _ _
                refine Dev.keeps_step (by decide +kernel) (Dev.handBack_keeps ..) ?_
                exact Dev.keeps_refl _ _
              · exact Dev.keeps_refl _ _
            · refine Dev.keeps_each _ _ ?_ ?_
              · intro _ _
                refine Dev.keeps_foldl _ _ ?_ ?_
                · intro _ _
                  refine Dev.keeps_step (by decide +kernel) (Dev.settleJobs_keeps ..) ?_
                  exact Dev.keeps_refl _ _
                · exact Dev.keeps_refl _ _
              · refine Dev.keeps_step (by decide +kernel) (Dev.modGrp_keeps ..) ?_
                refine Dev.keeps_step (by decide +kernel) (Dev.latchLm_keeps ..) ?_
                refine Dev.keeps_step (by decide +kernel) (Dev.until'_keeps ..) ?_
                exact Dev.keeps_refl _ _
    · refine Dev.keeps_each _ _ ?_ ?_
      · intro _ _
        refine Dev.keeps_step (by decide +kernel) (Dev.modCg_keeps ..) ?_
        exact Dev.keeps_refl _ _
      · refine Dev.keeps_foldl _ _ ?_ ?_
        · intro _ _
          refine Dev.keeps_ite ?_ ?_
          · refine Dev.keeps_step (by decide +kernel) (Dev.raise_keeps ..) ?_
            refine Dev.keeps_flag _ _ _ _ (by decide +kernel) ?_
            exact Dev.keeps_refl _ _
          · refine Dev.keeps_ite ?_ ?_
            · refine Dev.keeps_cm _ (by decide +kernel) ?_
              refine Dev.keeps_each _ _ ?_ ?_
              · intro _ _
                refine Dev.keeps_step (by decide +kernel) (Dev.tileAtDr_keeps ..) ?_
                exact Dev.keeps_refl _ _
              · exact Dev.keeps_refl _ _
            · refine Dev.keeps_each _ _ ?_ ?_
              · intro _ _
                refine Dev.keeps_step (by decide +kernel) (Dev.tileAtDr_keeps ..) ?_
                exact Dev.keeps_refl _ _
              · exact Dev.keeps_refl _ _
        · refine Dev.keeps_step (by decide +kernel) (Dev.modGrp_keeps ..) ?_
          refine Dev.keeps_each _ _ ?_ ?_
          · intro _ _
            refine Dev.keeps_step (by decide +kernel) (Dev.releaseAtDr_keeps ..) ?_
            exact Dev.keeps_refl _ _
          · refine Dev.keeps_each _ _ ?_ ?_
            · intro _ _
              refine Dev.keeps_step (by decide +kernel) (Dev.crsAtDr_keeps ..) ?_
              exact Dev.keeps_refl _ _
            · refine Dev.keeps_foldl _ _ ?_ ?_
              · intro _ _
                refine Dev.keeps_each _ _ ?_ ?_
                · intro _ _
                  refine Dev.keeps_step (by decide +kernel) (Dev.handBack_keeps ..) ?_
                  exact Dev.keeps_refl _ _
                · exact Dev.keeps_refl _ _
              · refine Dev.keeps_each _ _ ?_ ?_
                · intro _ _
                  refine Dev.keeps_foldl _ _ ?_ ?_
                  · intro _ _
                    refine Dev.keeps_step (by decide +kernel) (Dev.settleJobs_keeps ..) ?_
                    exact Dev.keeps_refl _ _
                  · exact Dev.keeps_refl _ _
                · refine Dev.keeps_step (by decide +kernel) (Dev.modGrp_keeps ..) ?_
                  refine Dev.keeps_step (by decide +kernel) (Dev.latchLm_keeps ..) ?_
                  refine Dev.keeps_step (by decide +kernel) (Dev.until'_keeps ..) ?_
                  exact Dev.keeps_refl _ _

theorem rideCurveTripCmd_keeps (g : Nat) (d : Dev) : Dev.keeps ⟨[.out, .chans, .cm, .fc, .dma], [F.FC_COND_COND, F.GP_FEEDBACK_DISAGREE,
    F.GP_FEEDBACK_LOST_RAISED, F.GP_HARVEST_BEST_PBEST, F.GP_HARVEST_BEST_VBEST, F.GP_HARVEST_CMD_RESULT, F.PL_ARM_STATUS_ENERGY_RAISED,
    F.PL_ARM_STATUS_OVM_RAISED, F.PL_ARM_STATUS_TRIP_RAISED], []⟩ d (rideCurveTripCmd g d) := by
  unfold rideCurveTripCmd
  refine Dev.keeps_step (by decide +kernel) (Dev.rideDecision_keeps ..) ?_
  exact Dev.keeps_refl _ _

theorem rideEntryCmd_keeps (g : Nat) (d : Dev) : Dev.keeps ⟨[.out, .chans, .cm, .fc, .dma], [F.FC_COND_COND, F.GP_FEEDBACK_DISAGREE,
    F.GP_FEEDBACK_LOST_RAISED, F.GP_HARVEST_BEST_PBEST, F.GP_HARVEST_BEST_VBEST, F.GP_HARVEST_CMD_RESULT, F.PL_ARM_STATUS_ENERGY_RAISED,
    F.PL_ARM_STATUS_OVM_RAISED, F.PL_ARM_STATUS_TRIP_RAISED], []⟩ d (rideEntryCmd g d) := by
  unfold rideEntryCmd
  refine Dev.keeps_step (by decide +kernel) (Dev.rideDecision_keeps ..) ?_
  exact Dev.keeps_refl _ _

theorem rideExitCmd_keeps (g : Nat) (d : Dev) : Dev.keeps ⟨[.out, .chans, .cm, .fc, .dma], [F.FC_COND_COND, F.GP_FEEDBACK_DISAGREE,
    F.GP_FEEDBACK_LOST_RAISED, F.GP_HARVEST_BEST_PBEST, F.GP_HARVEST_BEST_VBEST, F.GP_HARVEST_CMD_RESULT, F.PL_ARM_STATUS_ENERGY_RAISED,
    F.PL_ARM_STATUS_OVM_RAISED, F.PL_ARM_STATUS_TRIP_RAISED], []⟩ d (rideExitCmd g d) := by
  unfold rideExitCmd
  refine Dev.keeps_step (by decide +kernel) (Dev.rideDecision_keeps ..) ?_
  exact Dev.keeps_refl _ _

theorem rideTmaxCmd_keeps (g : Nat) (d : Dev) : Dev.keeps ⟨[.out, .chans, .cm, .fc, .dma], [F.FC_COND_COND, F.GP_FEEDBACK_DISAGREE,
    F.GP_FEEDBACK_LOST_RAISED, F.GP_HARVEST_BEST_PBEST, F.GP_HARVEST_BEST_VBEST, F.GP_HARVEST_CMD_RESULT, F.PL_ARM_STATUS_ENERGY_RAISED,
    F.PL_ARM_STATUS_OVM_RAISED, F.PL_ARM_STATUS_TRIP_RAISED], []⟩ d (rideTmaxCmd g d) := by
  unfold rideTmaxCmd
  refine Dev.keeps_step (by decide +kernel) (Dev.rideDecision_keeps ..) ?_
  exact Dev.keeps_refl _ _

theorem stageComplete_keeps (ch : Nat) (t : Nat) (stage : Nat) (d : Dev) : Dev.keeps ⟨[.out, .chans, .cm, .fc, .dma], [F.FC_COND_COND,
    F.GP_ANGLE_ANGLE, F.GP_CIRC_IZ, F.GP_CIRC_IZREF, F.GP_COMP_ACTING, F.GP_COMP_SAT, F.GP_CURLIM_FORM_VIRT, F.GP_CURLIM_IMAX_ACTIVE,
    F.GP_CURLIM_LIMITED, F.GP_CURLIM_VOUT_SAT, F.GP_DCMEAS_IDC, F.GP_DCMEAS_VDC, F.GP_ENERGY_ETOT, F.GP_ENERGY_PDEM, F.GP_FEEDBACK_ALT,
    F.GP_FEEDBACK_DISAGREE, F.GP_FEEDBACK_HOLD, F.GP_FEEDBACK_LOST_RAISED, F.GP_FEEDBACK_VALID, F.GP_HARVEST_BEST_PBEST,
    F.GP_HARVEST_BEST_VBEST, F.GP_HARVEST_CMD_RESULT, F.GP_HARVEST_DIR, F.GP_HARVEST_FROZEN, F.GP_HARVEST_STATE, F.GP_HARVEST_VTGT,
    F.GP_ISLAND_ACTION, F.GP_ISLAND_BLANKED, F.GP_ISLAND_CRITERIA, F.GP_ISLAND_DETECTED, F.GP_ISLAND_Z, F.GP_JUMP_SEAT, F.GP_LEG_DIFF,
    F.GP_LEG_ELEG, F.GP_PQ_P, F.GP_PQ_Q, F.GP_RIDE_COUNT, F.GP_RIDE_ENTRY_AC, F.GP_RIDE_ENTRY_DC, F.GP_RIDE_EXITING,
    F.GP_RIDE_REPEAT_BLOCK, F.GP_RIDE_TIME_ELAPSED, F.GP_RIDE_TRIP_CURVE, F.GP_RIDE_VPRE, F.GP_SYNC_FLYWHEEL, F.GP_SYNC_FORMING,
    F.GP_SYNC_FREQ, F.GP_SYNC_LOCKED, F.GP_VSEQ_VNEG, F.GP_VSEQ_VPOS, F.PL_ARM_COUNT_COUNT, F.PL_ARM_COUNT_FRAC, F.PL_ARM_CURRENT_IARM,
    F.PL_ARM_CURRENT_UREF, F.PL_ARM_ENERGY_EARM, F.PL_ARM_ENERGY_VBAR, F.PL_ARM_STATUS_ENERGY_RAISED, F.PL_ARM_STATUS_ILIM,
    F.PL_ARM_STATUS_OVER, F.PL_ARM_STATUS_OVM_RAISED, F.PL_ARM_STATUS_PRESENT, F.PL_ARM_STATUS_SIGN, F.PL_ARM_STATUS_TRIP_RAISED,
    F.PL_ARM_STATUS_UNDER, F.PL_ARM_STATUS_ZHOLD, F.PL_ARM_STATUS_ZREF_SAT, F.PL_CHOP_PDIS, F.PL_CHOP_STATE, F.PL_RANK_BOUND_BOUND,
    F.PL_RANK_BOUND_ON_LEN, F.PL_RANK_FAULTS_PARKS, F.PL_RANK_STATUS_DISPUTE_RAISED, F.PL_RANK_STATUS_DROPPED,
    F.PL_RANK_STATUS_ECHO_RAISED, F.PL_RANK_STATUS_HOLES, F.PL_RANK_STATUS_NRANK, F.PL_RANK_STATUS_PARKED, F.PL_RANK_STATUS_SORTED,
    F.PL_RANK_STATUS_STRETCHED, F.PL_RANK_SWAPS_APPLIED, F.PL_RANK_SWAPS_DEFERRED], []⟩ d (stageComplete ch t stage d) := by
  unfold stageComplete
  dsimp -proj only
  split
  · refine Dev.keeps_ite ?_ ?_
    · refine Dev.keeps_step (by decide +kernel) (Dev.modCt_keeps ..) ?_
      refine Dev.keeps_step (by decide +kernel) (Dev.effectsTo_keeps ..) ?_
      exact Dev.keeps_refl _ _
    · exact Dev.keeps_refl _ _
  · exact Dev.keeps_refl _ _

theorem syncLockCmd_keeps (g : Nat) (d : Dev) : Dev.keeps ⟨[.out, .chans, .cm, .fc, .dma], [F.FC_COND_COND, F.GP_FEEDBACK_DISAGREE,
    F.GP_FEEDBACK_LOST_RAISED, F.GP_HARVEST_BEST_PBEST, F.GP_HARVEST_BEST_VBEST, F.GP_HARVEST_CMD_RESULT, F.PL_ARM_STATUS_ENERGY_RAISED,
    F.PL_ARM_STATUS_OVM_RAISED, F.PL_ARM_STATUS_TRIP_RAISED], []⟩ d (syncLockCmd g d) := by
  unfold syncLockCmd
  refine Dev.keeps_step (by decide +kernel) (Dev.decision_keeps ..) ?_
  exact Dev.keeps_refl _ _

theorem syncUnlockCmd_keeps (g : Nat) (d : Dev) : Dev.keeps ⟨[.out, .chans, .cm, .fc, .dma], [F.FC_COND_COND, F.GP_FEEDBACK_DISAGREE,
    F.GP_FEEDBACK_LOST_RAISED, F.GP_HARVEST_BEST_PBEST, F.GP_HARVEST_BEST_VBEST, F.GP_HARVEST_CMD_RESULT, F.PL_ARM_STATUS_ENERGY_RAISED,
    F.PL_ARM_STATUS_OVM_RAISED, F.PL_ARM_STATUS_TRIP_RAISED], []⟩ d (syncUnlockCmd g d) := by
  unfold syncUnlockCmd
  refine Dev.keeps_step (by decide +kernel) (Dev.decision_keeps ..) ?_
  exact Dev.keeps_refl _ _

end Sys2Proof.Machine
end

