-- ==== Sys2Proof/Laws/KeepsMortar.lean ====
section
/-! SUPPORT. What the operations of Machine/Mortar.lean may change at most, one lemma each. -/

namespace Sys2Proof.Machine

set_option Elab.async false

theorem Dev.showRing_keeps (d : Dev) : Dev.keeps ⟨[], [F.MO_STATUS_FLOOR, F.MO_STATUS_KEYS], []⟩ d (Dev.showRing d) := by
  unfold Dev.showRing
  refine Dev.keeps_set _ _ _ _ (by decide +kernel) ?_
  refine Dev.keeps_set _ _ _ _ (by decide +kernel) ?_
  exact Dev.keeps_refl _ _

theorem Dev.showSlot_keeps (n : Nat) (d : Dev) : Dev.keeps ⟨[], [F.MO_SLOT_REASON, F.MO_SLOT_SECVER, F.MO_SLOT_STATE], []⟩ d (Dev.showSlot
    n d) := by
  unfold Dev.showSlot
  dsimp -proj only
  refine Dev.keeps_set _ _ _ _ (by decide +kernel) ?_
  refine Dev.keeps_set _ _ _ _ (by decide +kernel) ?_
  refine Dev.keeps_set _ _ _ _ (by decide +kernel) ?_
  exact Dev.keeps_refl _ _

theorem Dev.modSlot_keeps (n : Nat) (f : Slot → Slot) (d : Dev) : Dev.keeps ⟨[.store], [F.MO_SLOT_REASON, F.MO_SLOT_SECVER,
    F.MO_SLOT_STATE], []⟩ d (Dev.modSlot n f d) := by
  unfold Dev.modSlot
  dsimp -proj only
  refine Dev.keeps_step (by decide +kernel) (Dev.showSlot_keeps ..) ?_
  refine Dev.keeps_store _ (by decide +kernel) ?_
  exact Dev.keeps_refl _ _

theorem Dev.appendPacket_keeps (p : Packet) (d : Dev) : Dev.keeps ⟨[.store], [], []⟩ d (Dev.appendPacket p d) := by
  unfold Dev.appendPacket
  dsimp -proj only
  refine Dev.keeps_ite ?_ ?_
  · refine Dev.keeps_store _ (by decide +kernel) ?_
    exact Dev.keeps_refl _ _
  · refine Dev.keeps_store _ (by decide +kernel) ?_
    exact Dev.keeps_refl _ _

theorem Dev.clearRange_keeps {S : Scope} {d e : Dev} (lo hi : Nat) (h : (S.ranges.any fun q => decide (q.1 ≤ lo) && decide (hi ≤ q.2)) = true)
    (g : Dev.keeps S d e) : Dev.keeps S d (Dev.clearRange lo hi e) := by
  refine ⟨fun p hp => p.same_trans d e _ (g.1 p hp) (by cases p <;> rfl), fun f i j hf => ?_⟩
  rw [← g.2 f i j hf]
  refine Bank.get_filter _ _ f i j fun v => ?_
  simp only [List.any_eq_true, Bool.and_eq_true, decide_eq_true_eq] at h
  obtain ⟨q, hq, h1, h2⟩ := h
  by_cases c : lo ≤ f.base ∧ f.base < hi
  · have : S.covers f = true := by
      simp only [Scope.covers, Bool.or_eq_true, List.any_eq_true, Bool.and_eq_true, decide_eq_true_eq]
      exact .inr ⟨q, hq, by omega, by omega⟩
    rw [this] at hf; exact absurd hf (by decide)
  · simp only [Bool.not_eq_true', Bool.and_eq_false_iff, decide_eq_false_iff_not]
    omega

theorem Dev.clearStructure_keeps (d : Dev) : Dev.keeps ⟨[.out, .grps, .chans, .tp, .cm, .fc, .host, .dma], [F.CM_CRS_PT_FAILED,
    F.CM_CRS_STAT_FOUND, F.CM_CRS_STAT_IN_SERVICE, F.CM_LANE_CTL_BUSY, F.CM_LANE_CTL_RESULT, F.CM_LANE_STAT_CDR_LOCK, F.CM_LANE_STAT_LOOP,
    F.CM_LANE_STAT_LOOP_HOPS, F.CM_LANE_STAT_STATE, F.CM_LANE_STAT_TX_IDLE, F.DM_CH_DETAIL_PTFAIL, F.DM_CH_STAT_STATE, F.DM_FREE_FREE,
    F.FC_COND_COND, F.GL_PT_ERR_W0_COUNT, F.GL_PT_ERR_W0_STATUS, F.GL_PT_ERR_W1_ADDRESS, F.GL_READY_GROUP, F.GL_READY_TRIPLEX,
    F.HC_IRQ_STAT_STAT, F.LM_CAL_CMD_BUSY, F.LM_STAT_STATE, F.TP_CH_SHADOW, F.TP_CH_STATE, F.TP_CMD_BUSY, F.TP_PROOF_RESULT,
    F.TP_PROOF_STATE, F.TP_PROOF_STEP, F.TP_STATE_DONOR, F.TP_STATE_FENCED, F.TP_STATE_IN_SERVICE, F.TP_STATE_RESYNC,
    F.TP_STATE_SIMPLEX_MS, F.TP_STATE_STATE], [(0x80100, 0x82240), (0xA0000, 0xB0000), (0x100000, 0x1C0000), (0x200000, 0x200010)]⟩ d
    (Dev.clearStructure d) := by
  unfold Dev.clearStructure
  dsimp -proj only
  refine Dev.keeps_step (by decide +kernel) (Dev.backToRepair_keeps ..) ?_
  refine Dev.keeps_each _ _ ?_ ?_
  · intro _ _
    refine Dev.keeps_set _ _ _ _ (by decide +kernel) ?_
    exact Dev.keeps_refl _ _
  · refine Dev.keeps_set _ _ _ _ (by decide +kernel) ?_
    refine Dev.keeps_flag _ _ _ _ (by decide +kernel) ?_
    refine Dev.keeps_each _ _ ?_ ?_
    · intro _ _
      refine Dev.keeps_set _ _ _ _ (by decide +kernel) ?_
      refine Dev.keeps_set _ _ _ _ (by decide +kernel) ?_
      exact Dev.keeps_refl _ _
    · refine Dev.clearRange_keeps _ _ (by decide +kernel) ?_
      refine Dev.clearRange_keeps _ _ (by decide +kernel) ?_
      refine Dev.clearRange_keeps _ _ (by decide +kernel) ?_
      refine Dev.clearRange_keeps _ _ (by decide +kernel) ?_
      refine Dev.keeps_mk (.inr rfl) (.inr rfl) (.inr rfl) (.inr rfl) (.inr rfl) (.inr rfl) (.inr rfl) (.inl (by decide +kernel)) (.inr rfl) (.inr rfl) (.inl (by decide +kernel)) (.inr rfl) (.inr rfl) (.inr rfl) (.inr rfl) (.inr rfl) (.inr rfl) (.inr rfl) ?_
      refine Dev.keeps_each _ _ ?_ ?_
      · intro _ _
        refine Dev.keeps_step (by decide +kernel) (Dev.cond_keeps ..) ?_
        exact Dev.keeps_refl _ _
      · refine Dev.keeps_each _ _ ?_ ?_
        · intro _ _
          refine Dev.keeps_step (by decide +kernel) (Dev.endLoop_keeps ..) ?_
          refine Dev.keeps_step (by decide +kernel) (Dev.endLoop_keeps ..) ?_
          refine Dev.keeps_step (by decide +kernel) (Dev.dropReqs_keeps ..) ?_
          exact Dev.keeps_refl _ _
        · refine Dev.keeps_each _ _ ?_ ?_
          · intro _ _
            refine Dev.keeps_step (by decide +kernel) (Dev.withdraw_keeps ..) ?_
            exact Dev.keeps_refl _ _
          · exact Dev.keeps_refl _ _

theorem Dev.damageSlot_keeps (n : Nat) (d : Dev) : Dev.keeps ⟨[.store, .fc], [F.MO_SLOT_REASON, F.MO_SLOT_SECVER, F.MO_SLOT_STATE,
    F.MO_STATUS_ACTIVE_DAMAGED], []⟩ d (Dev.damageSlot n d) := by
  unfold Dev.damageSlot
  dsimp -proj only
  refine Dev.keeps_step (by decide +kernel) (Dev.raise_keeps ..) ?_
  refine Dev.keeps_ite ?_ ?_
  · refine Dev.keeps_flag _ _ _ _ (by decide +kernel) ?_
    refine Dev.keeps_step (by decide +kernel) (Dev.modSlot_keeps ..) ?_
    exact Dev.keeps_refl _ _
  · refine Dev.keeps_step (by decide +kernel) (Dev.modSlot_keeps ..) ?_
    exact Dev.keeps_refl _ _

theorem Dev.dropMode_keeps (g : Nat) (d : Dev) : Dev.keeps ⟨[.grps, .chans], [F.GP_MODE_STATUS_RESULT, F.GP_MODE_STATUS_TAG], []⟩ d
    (Dev.dropMode g d) := by
  unfold Dev.dropMode
  dsimp -proj only
  refine Dev.keeps_each _ _ ?_ ?_
  · intro _ _
    refine Dev.keeps_step (by decide +kernel) (Dev.modCg_keeps ..) ?_
    exact Dev.keeps_refl _ _
  · refine Dev.keeps_step (by decide +kernel) (Dev.modGrp_keeps ..) ?_
    split
    · refine Dev.keeps_ite ?_ ?_
      · exact Dev.keeps_refl _ _
      · refine Dev.keeps_set _ _ _ _ (by decide +kernel) ?_
        refine Dev.keeps_set _ _ _ _ (by decide +kernel) ?_
        exact Dev.keeps_refl _ _
    · exact Dev.keeps_refl _ _

theorem Dev.moCmd_keeps {S : Scope} (hS : Scope.le ⟨[], [F.HC_CTX_REFADDR_BAR2, F.HC_CTX_REFADDR_CAUSE, F.HC_CTX_REFADDR_OFFSET,
    F.HC_CTX_REFADDR_WRITE, F.HC_CTX_STAT_PARTIAL, F.HC_CTX_STAT_REFUSED, F.MO_CMD_BUSY, F.MO_CMD_RESULT], []⟩ S = true) (x : Nat) (bad :
    Bool) (own : Nat) (f : Dev → Dev) (d : Dev) (hf : ∀ (x0 : Dev), Dev.keeps S x0 (f x0)) : Dev.keeps S d (Dev.moCmd x bad own f d) := by
  unfold Dev.moCmd
  dsimp -proj only
  refine Dev.keeps_trans (Dev.hostWrite_keeps (Scope.le_trans (by decide +kernel) hS) _ _ _ _ ?_) ?_
  · intro _
    refine Dev.keeps_ite ?_ ?_
    · refine Dev.keeps_set _ _ _ _ (Scope.le_fld (by decide +kernel) hS) ?_
      exact Dev.keeps_refl _ _
    · refine Dev.keeps_trans (hf _) ?_
      refine Dev.keeps_flag _ _ _ _ (Scope.le_fld (by decide +kernel) hS) ?_
      exact Dev.keeps_refl _ _
  · exact Dev.keeps_refl _ _

theorem Dev.moDone_keeps {S : Scope} (_ : Scope.le ⟨[], [], []⟩ S = true) (code : Nat) (f : MoRun → Dev → Dev) (d : Dev) (hf : ∀ (x0 :
    MoRun) (x1 : Dev), Dev.keeps S x1 (f x0 x1)) : Dev.keeps S d (Dev.moDone code f d) := by
  unfold Dev.moDone
  split
  · refine Dev.keeps_ite ?_ ?_
    · refine Dev.keeps_trans (hf _ _) ?_
      exact Dev.keeps_refl _ _
    · exact Dev.keeps_refl _ _
  · exact Dev.keeps_refl _ _

theorem Dev.moEnd_keeps (code : Nat) (d : Dev) : Dev.keeps ⟨[.mo], [F.MO_CMD_BUSY, F.MO_CMD_RESULT], []⟩ d (Dev.moEnd code d) := by
  unfold Dev.moEnd
  dsimp -proj only
  refine Dev.keeps_flag _ _ _ _ (by decide +kernel) ?_
  refine Dev.keeps_set _ _ _ _ (by decide +kernel) ?_
  refine Dev.keeps_mo _ (by decide +kernel) ?_
  exact Dev.keeps_refl _ _

theorem Dev.moStart_keeps (r : MoRun) (d : Dev) : Dev.keeps ⟨[.mo], [], []⟩ d (Dev.moStart r d) := by
  unfold Dev.moStart
  dsimp -proj only
  refine Dev.keeps_mo _ (by decide +kernel) ?_
  exact Dev.keeps_refl _ _

theorem Dev.readBack_keeps (l : List StoreErr) (d : Dev) : Dev.keeps ⟨[.store, .fc], [F.FC_COND_COND, F.GL_READY_STORE,
    F.MO_STATUS_SINGLE_ERRS, F.MO_STATUS_STORE_ERR], []⟩ d (Dev.readBack l d) := by
  unfold Dev.readBack
  refine Dev.keeps_step (by decide +kernel) (Dev.readStore_keeps ..) ?_
  exact Dev.keeps_refl _ _

theorem Dev.restartCourse_keeps (c : Nat) (d : Dev) : Dev.keeps ⟨[.out, .cm, .fc, .host, .dma], [F.CM_CRS_DELIV_DELIV,
    F.CM_CRS_DELIV_WORST, F.CM_CRS_PT_FAILED, F.CM_CRS_STAT_FOUND, F.CM_CRS_STAT_F_WORKING, F.CM_CRS_STAT_H_WORKING,
    F.CM_CRS_STAT_IN_SERVICE, F.CM_CRS_STAT_STATE, F.CM_DIR_W0_EVQ, F.CM_DIR_W0_REASON, F.CM_DIR_W0_STATE, F.CM_LANE_STAT_CDR_LOCK,
    F.CM_LANE_STAT_STATE, F.CM_LANE_STAT_TX_IDLE, F.DM_CH_DETAIL_PTFAIL, F.GL_PT_ERR_W0_COUNT, F.GL_PT_ERR_W0_STATUS,
    F.GL_PT_ERR_W1_ADDRESS, F.GP_HARVEST_PB_FAIL, F.HC_IRQ_STAT_STAT], []⟩ d (Dev.restartCourse c d) := by
  unfold Dev.restartCourse
  refine Dev.keeps_step (by decide +kernel) (Dev.wakeCourse_keeps ..) ?_
  refine Dev.keeps_step (by decide +kernel) (Dev.idleCourses_keeps ..) ?_
  exact Dev.keeps_refl _ _

theorem Dev.recourse_keeps (old : List (Option Nat)) (held : List Nat) (d : Dev) : Dev.keeps ⟨[.out, .cm, .fc, .host, .dma],
    [F.CM_CRS_DELIV_DELIV, F.CM_CRS_DELIV_WORST, F.CM_CRS_PT_FAILED, F.CM_CRS_STAT_FOUND, F.CM_CRS_STAT_F_WORKING,
    F.CM_CRS_STAT_H_WORKING, F.CM_CRS_STAT_IN_SERVICE, F.CM_CRS_STAT_STATE, F.CM_DIR_W0_EVQ, F.CM_DIR_W0_REASON, F.CM_DIR_W0_STATE,
    F.CM_LANE_STAT_CDR_LOCK, F.CM_LANE_STAT_STATE, F.CM_LANE_STAT_TX_IDLE, F.DM_CH_DETAIL_PTFAIL, F.GL_PT_ERR_W0_COUNT,
    F.GL_PT_ERR_W0_STATUS, F.GL_PT_ERR_W1_ADDRESS, F.GP_HARVEST_PB_FAIL, F.HC_IRQ_STAT_STAT], []⟩ d (Dev.recourse old held d) := by
  unfold Dev.recourse
  dsimp -proj only
  refine Dev.keeps_each _ _ ?_ ?_
  · intro _ _
    refine Dev.keeps_ite ?_ ?_
    · refine Dev.keeps_step (by decide +kernel) (Dev.restartCourse_keeps ..) ?_
      exact Dev.keeps_refl _ _
    · refine Dev.keeps_ite ?_ ?_
      · refine Dev.keeps_ite ?_ ?_
        · refine Dev.keeps_step (by decide +kernel) (Dev.wakeCourse_keeps ..) ?_
          exact Dev.keeps_refl _ _
        · exact Dev.keeps_refl _ _
      · refine Dev.keeps_ite ?_ ?_
        · refine Dev.keeps_step (by decide +kernel) (Dev.startDiscovery_keeps ..) ?_
          refine Dev.keeps_ite ?_ ?_
          · refine Dev.keeps_step (by decide +kernel) (Dev.wakeCourse_keeps ..) ?_
            exact Dev.keeps_refl _ _
          · exact Dev.keeps_refl _ _
        · refine Dev.keeps_step (by decide +kernel) (Dev.setCourse_keeps ..) ?_
          refine Dev.keeps_ite ?_ ?_
          · refine Dev.keeps_step (by decide +kernel) (Dev.wakeCourse_keeps ..) ?_
            exact Dev.keeps_refl _ _
          · exact Dev.keeps_refl _ _
  · exact Dev.keeps_refl _ _

theorem Dev.refuseLive_keeps (code : Nat) (d : Dev) : Dev.keeps ⟨[.mo], [F.MO_CMD_BUSY, F.MO_LIVE_RESULT, F.MO_LIVE_STATE], []⟩ d
    (Dev.refuseLive code d) := by
  unfold Dev.refuseLive
  dsimp -proj only
  refine Dev.keeps_flag _ _ _ _ (by decide +kernel) ?_
  refine Dev.keeps_set _ _ _ _ (by decide +kernel) ?_
  refine Dev.keeps_set _ _ _ _ (by decide +kernel) ?_
  refine Dev.keeps_mo _ (by decide +kernel) ?_
  exact Dev.keeps_refl _ _

theorem Dev.slotVerified_keeps (n : Nat) (code : Nat) (good : Nat) (d : Dev) : Dev.keeps ⟨[.store], [F.MO_SLOT_REASON, F.MO_SLOT_SECVER,
    F.MO_SLOT_STATE], []⟩ d (Dev.slotVerified n code good d) := by
  unfold Dev.slotVerified
  refine Dev.keeps_step (by decide +kernel) (Dev.modSlot_keeps ..) ?_
  exact Dev.keeps_refl _ _

theorem Dev.takeOver_keeps (slot : Nat) (d : Dev) : Dev.keeps ⟨[.out, .store, .mo, .grps, .chans, .tp, .cm, .si, .tb, .fc, .sb, .host,
    .dma], [F.CM_CRS_CTL_NC, F.CM_CRS_CTL_SPARE_UNKNOWN, F.CM_CRS_DELIV_DELIV, F.CM_CRS_DELIV_WORST, F.CM_CRS_PT_FAILED,
    F.CM_CRS_STAT_FOUND, F.CM_CRS_STAT_F_WORKING, F.CM_CRS_STAT_H_WORKING, F.CM_CRS_STAT_IN_SERVICE, F.CM_CRS_STAT_STATE,
    F.CM_LANE_CFG_RATE, F.CM_LANE_CFG_SPREAD, F.CM_LANE_CTL_BUSY, F.CM_LANE_CTL_RESULT, F.CM_LANE_STAT_CDR_LOCK, F.CM_LANE_STAT_LOOP,
    F.CM_LANE_STAT_LOOP_HOPS, F.CM_LANE_STAT_STATE, F.CM_LANE_STAT_TX_IDLE, F.DM_CH_DETAIL_PTFAIL, F.DM_CH_STAT_STATE, F.DM_FREE_FREE,
    F.FC_COND_COND, F.FC_REACT_ERR, F.FC_REACT_GROUPS, F.FC_REACT_REACTION, F.GL_PT_ERR_W0_COUNT, F.GL_PT_ERR_W0_STATUS,
    F.GL_PT_ERR_W1_ADDRESS, F.GL_READY_GROUP, F.GL_READY_LANE_L0, F.GL_READY_LANE_L1, F.GL_READY_MORTAR, F.GL_READY_PTP,
    F.GL_READY_SAFETY, F.GL_READY_TRIPLEX, F.HC_IRQ_STAT_STAT, F.LM_CAL_CMD_BUSY, F.LM_CFG_DELAY, F.LM_CFG_EVT, F.LM_CFG_GROUP,
    F.LM_CFG_NENTRIES, F.LM_CFG_TRIG, F.LM_CONT_DECIM, F.LM_CONT_EN, F.LM_CONT_GAIN, F.LM_CONT_INPUT, F.LM_CONT_N_N, F.LM_CONT_T0_T0,
    F.LM_STAT_STATE, F.MO_JOURNAL_FILL, F.MO_JOURNAL_HALF, F.MO_JOURNAL_PENDING, F.MO_SLOT_REASON, F.MO_SLOT_SECVER, F.MO_SLOT_STATE,
    F.MO_STATUS_ACTIVE, F.MO_STATUS_ACTIVE_DAMAGED, F.SB_CMD_BUSY, F.SB_COURSE_CAUSE, F.SB_COURSE_SENT, F.SB_COURSE_SEQ,
    F.SB_COURSE_STATE, F.SB_DEMAND_COND, F.SB_DEMAND_IN_FORCE, F.SB_SEAL_EXPECTED, F.SB_SEAL_MATCH, F.SB_STATUS_BRAKE, F.SB_STATUS_HOLD_1,
    F.SB_STATUS_HOLD_2, F.SB_STATUS_TESTING, F.SI_PORT_MODE, F.TB_EVT_CFG_EDGE, F.TB_EVT_CFG_FILTER, F.TB_HOLD_SECONDS,
    F.TB_LPLL_CFG_DEPTH, F.TB_LPLL_CFG_MODE, F.TB_PPS_WIDTH, F.TB_PTP_PORT_W0_STATE, F.TB_PTP_PORT_W2_ASYM, F.TB_SERVO_CFG_CLOCK,
    F.TB_SERVO_CFG_DOMAIN, F.TB_SERVO_CFG_MODE, F.TB_SERVO_CFG_PROFILE, F.TB_SERVO_CFG_SLAVE_ONLY, F.TB_SERVO_CFG_SLEW_MAX,
    F.TB_SERVO_DEFERRED, F.TB_SERVO_STATE, F.TB_STATUS_PPS_TRACE, F.TB_STATUS_SV_SUSPECT, F.TB_TIO_W0_GROUP, F.TB_TIO_W0_MODE,
    F.TB_TIO_W3_PENDING, F.TP_CH_SHADOW, F.TP_CH_STATE, F.TP_CMD_BUSY, F.TP_PROOF_RESULT, F.TP_PROOF_STATE, F.TP_PROOF_STEP,
    F.TP_STATE_DONOR, F.TP_STATE_FENCED, F.TP_STATE_IN_SERVICE, F.TP_STATE_RESYNC, F.TP_STATE_SIMPLEX_MS, F.TP_STATE_STATE], [(0x80100,
    0x82240), (0xA0000, 0xB0000), (0x100000, 0x1C0000), (0x200000, 0x200010)]⟩ d (Dev.takeOver slot d) := by
  unfold Dev.takeOver
  dsimp -proj only
  refine Dev.keeps_step (by decide +kernel) (Dev.sealAndReady_keeps ..) ?_
  refine Dev.keeps_step (by decide +kernel) (Dev.refreshLanes_keeps ..) ?_
  refine Dev.keeps_flag _ _ _ _ (by decide +kernel) ?_
  refine Dev.keeps_flag _ _ _ _ (by decide +kernel) ?_
  refine Dev.keeps_step (by decide +kernel) (Dev.recourse_keeps ..) ?_
  refine Dev.keeps_step (by decide +kernel) (Dev.modSlot_keeps ..) ?_
  refine Dev.keeps_flag _ _ _ _ (by decide +kernel) ?_
  refine Dev.keeps_set _ _ _ _ (by decide +kernel) ?_
  refine Dev.keeps_store _ (by decide +kernel) ?_
  refine Dev.keeps_step (by decide +kernel) (Dev.carryJournal_keeps ..) ?_
  refine Dev.keeps_step (by decide +kernel) (Dev.build_keeps ..) ?_
  refine Dev.keeps_step (by decide +kernel) (Dev.clearStructure_keeps ..) ?_
  split
  · refine Dev.keeps_step (by decide +kernel) (Dev.modSlot_keeps ..) ?_
    exact Dev.keeps_refl _ _
  · exact Dev.keeps_refl _ _

theorem activate_keeps (x : Nat) (slot : Nat) (d : Dev) : Dev.keeps ⟨[.mo, .grps, .chans], [F.GP_MODE_STATUS_RESULT, F.GP_MODE_STATUS_TAG,
    F.HC_CTX_REFADDR_BAR2, F.HC_CTX_REFADDR_CAUSE, F.HC_CTX_REFADDR_OFFSET, F.HC_CTX_REFADDR_WRITE, F.HC_CTX_STAT_PARTIAL,
    F.HC_CTX_STAT_REFUSED, F.MO_CMD_BUSY, F.MO_CMD_RESULT], []⟩ d (activate x slot d) := by
  unfold activate
  refine Dev.keeps_trans (Dev.moCmd_keeps (by decide +kernel) _ _ _ _ _ ?_) ?_
  · intro _
    refine Dev.keeps_each _ _ ?_ ?_
    · intro _ _
      refine Dev.keeps_step (by decide +kernel) (Dev.dropMode_keeps ..) ?_
      exact Dev.keeps_refl _ _
    · refine Dev.keeps_step (by decide +kernel) (Dev.moStart_keeps ..) ?_
      exact Dev.keeps_refl _ _
  · exact Dev.keeps_refl _ _

theorem activateComplete_keeps (errs : List StoreErr) (ok : Bool) (d : Dev) : Dev.keeps ⟨[.out, .store, .mo, .grps, .chans, .tp, .cm, .si,
    .tb, .fc, .sb, .host, .dma], [F.CM_CRS_CTL_NC, F.CM_CRS_CTL_SPARE_UNKNOWN, F.CM_CRS_DELIV_DELIV, F.CM_CRS_DELIV_WORST,
    F.CM_CRS_PT_FAILED, F.CM_CRS_STAT_FOUND, F.CM_CRS_STAT_F_WORKING, F.CM_CRS_STAT_H_WORKING, F.CM_CRS_STAT_IN_SERVICE,
    F.CM_CRS_STAT_STATE, F.CM_LANE_CFG_RATE, F.CM_LANE_CFG_SPREAD, F.CM_LANE_CTL_BUSY, F.CM_LANE_CTL_RESULT, F.CM_LANE_STAT_CDR_LOCK,
    F.CM_LANE_STAT_LOOP, F.CM_LANE_STAT_LOOP_HOPS, F.CM_LANE_STAT_STATE, F.CM_LANE_STAT_TX_IDLE, F.DM_CH_DETAIL_PTFAIL,
    F.DM_CH_STAT_STATE, F.DM_FREE_FREE, F.FC_COND_COND, F.FC_REACT_ERR, F.FC_REACT_GROUPS, F.FC_REACT_REACTION, F.GL_PT_ERR_W0_COUNT,
    F.GL_PT_ERR_W0_STATUS, F.GL_PT_ERR_W1_ADDRESS, F.GL_READY_GROUP, F.GL_READY_LANE_L0, F.GL_READY_LANE_L1, F.GL_READY_MORTAR,
    F.GL_READY_PTP, F.GL_READY_SAFETY, F.GL_READY_STORE, F.GL_READY_TRIPLEX, F.HC_IRQ_STAT_STAT, F.LM_CAL_CMD_BUSY, F.LM_CFG_DELAY,
    F.LM_CFG_EVT, F.LM_CFG_GROUP, F.LM_CFG_NENTRIES, F.LM_CFG_TRIG, F.LM_CONT_DECIM, F.LM_CONT_EN, F.LM_CONT_GAIN, F.LM_CONT_INPUT,
    F.LM_CONT_N_N, F.LM_CONT_T0_T0, F.LM_STAT_STATE, F.MO_CMD_BUSY, F.MO_CMD_RESULT, F.MO_JOURNAL_FILL, F.MO_JOURNAL_HALF,
    F.MO_JOURNAL_PENDING, F.MO_SLOT_REASON, F.MO_SLOT_SECVER, F.MO_SLOT_STATE, F.MO_STATUS_ACTIVE, F.MO_STATUS_ACTIVE_DAMAGED,
    F.MO_STATUS_SINGLE_ERRS, F.MO_STATUS_STORE_ERR, F.SB_CMD_BUSY, F.SB_COURSE_CAUSE, F.SB_COURSE_SENT, F.SB_COURSE_SEQ,
    F.SB_COURSE_STATE, F.SB_DEMAND_COND, F.SB_DEMAND_IN_FORCE, F.SB_SEAL_EXPECTED, F.SB_SEAL_MATCH, F.SB_STATUS_BRAKE, F.SB_STATUS_HOLD_1,
    F.SB_STATUS_HOLD_2, F.SB_STATUS_TESTING, F.SI_PORT_MODE, F.TB_EVT_CFG_EDGE, F.TB_EVT_CFG_FILTER, F.TB_HOLD_SECONDS,
    F.TB_LPLL_CFG_DEPTH, F.TB_LPLL_CFG_MODE, F.TB_PPS_WIDTH, F.TB_PTP_PORT_W0_STATE, F.TB_PTP_PORT_W2_ASYM, F.TB_SERVO_CFG_CLOCK,
    F.TB_SERVO_CFG_DOMAIN, F.TB_SERVO_CFG_MODE, F.TB_SERVO_CFG_PROFILE, F.TB_SERVO_CFG_SLAVE_ONLY, F.TB_SERVO_CFG_SLEW_MAX,
    F.TB_SERVO_DEFERRED, F.TB_SERVO_STATE, F.TB_STATUS_PPS_TRACE, F.TB_STATUS_SV_SUSPECT, F.TB_TIO_W0_GROUP, F.TB_TIO_W0_MODE,
    F.TB_TIO_W3_PENDING, F.TP_CH_SHADOW, F.TP_CH_STATE, F.TP_CMD_BUSY, F.TP_PROOF_RESULT, F.TP_PROOF_STATE, F.TP_PROOF_STEP,
    F.TP_STATE_DONOR, F.TP_STATE_FENCED, F.TP_STATE_IN_SERVICE, F.TP_STATE_RESYNC, F.TP_STATE_SIMPLEX_MS, F.TP_STATE_STATE], [(0x80100,
    0x82240), (0xA0000, 0xB0000), (0x100000, 0x1C0000), (0x200000, 0x200010)]⟩ d (activateComplete errs ok d) := by
  unfold activateComplete
  dsimp -proj only
  refine Dev.keeps_trans (Dev.moDone_keeps (by decide +kernel) _ _ _ ?_) ?_
  · intro _ _
    refine Dev.keeps_ite ?_ ?_
    · refine Dev.keeps_step (by decide +kernel) (Dev.moEnd_keeps ..) ?_
      refine Dev.keeps_step (by decide +kernel) (Dev.slotVerified_keeps ..) ?_
      refine Dev.keeps_step (by decide +kernel) (Dev.readStore_keeps ..) ?_
      exact Dev.keeps_refl _ _
    · refine Dev.keeps_ite ?_ ?_
      · refine Dev.keeps_step (by decide +kernel) (Dev.moEnd_keeps ..) ?_
        refine Dev.keeps_step (by decide +kernel) (Dev.readStore_keeps ..) ?_
        exact Dev.keeps_refl _ _
      · refine Dev.keeps_step (by decide +kernel) (Dev.moEnd_keeps ..) ?_
        refine Dev.keeps_step (by decide +kernel) (Dev.takeOver_keeps ..) ?_
        refine Dev.keeps_step (by decide +kernel) (Dev.readStore_keeps ..) ?_
        exact Dev.keeps_refl _ _
  · exact Dev.keeps_refl _ _

theorem erase_keeps (x : Nat) (slot : Nat) (d : Dev) : Dev.keeps ⟨[.mo], [F.HC_CTX_REFADDR_BAR2, F.HC_CTX_REFADDR_CAUSE,
    F.HC_CTX_REFADDR_OFFSET, F.HC_CTX_REFADDR_WRITE, F.HC_CTX_STAT_PARTIAL, F.HC_CTX_STAT_REFUSED, F.MO_CMD_BUSY, F.MO_CMD_RESULT], []⟩ d
    (erase x slot d) := by
  unfold erase
  refine Dev.keeps_trans (Dev.moCmd_keeps (by decide +kernel) _ _ _ _ _ ?_) ?_
  · intro _
    refine Dev.keeps_step (by decide +kernel) (Dev.moStart_keeps ..) ?_
    exact Dev.keeps_refl _ _
  · exact Dev.keeps_refl _ _

theorem eraseComplete_keeps (errs : List StoreErr) (d : Dev) : Dev.keeps ⟨[.store, .mo, .fc], [F.FC_COND_COND, F.GL_READY_STORE,
    F.MO_CMD_BUSY, F.MO_CMD_RESULT, F.MO_SLOT_REASON, F.MO_SLOT_SECVER, F.MO_SLOT_STATE, F.MO_STATUS_SINGLE_ERRS, F.MO_STATUS_STORE_ERR],
    []⟩ d (eraseComplete errs d) := by
  unfold eraseComplete
  dsimp -proj only
  refine Dev.keeps_trans (Dev.moDone_keeps (by decide +kernel) _ _ _ ?_) ?_
  · intro _ _
    refine Dev.keeps_ite ?_ ?_
    · refine Dev.keeps_step (by decide +kernel) (Dev.moEnd_keeps ..) ?_
      refine Dev.keeps_step (by decide +kernel) (Dev.readBack_keeps ..) ?_
      exact Dev.keeps_refl _ _
    · refine Dev.keeps_step (by decide +kernel) (Dev.moEnd_keeps ..) ?_
      refine Dev.keeps_step (by decide +kernel) (Dev.modSlot_keeps ..) ?_
      refine Dev.keeps_step (by decide +kernel) (Dev.readBack_keeps ..) ?_
      exact Dev.keeps_refl _ _
  · exact Dev.keeps_refl _ _

theorem keyrec_keeps (x : Nat) (d : Dev) : Dev.keeps ⟨[.mo], [F.HC_CTX_REFADDR_BAR2, F.HC_CTX_REFADDR_CAUSE, F.HC_CTX_REFADDR_OFFSET,
    F.HC_CTX_REFADDR_WRITE, F.HC_CTX_STAT_PARTIAL, F.HC_CTX_STAT_REFUSED, F.MO_CMD_BUSY, F.MO_CMD_RESULT], []⟩ d (keyrec x d) := by
  unfold keyrec
  refine Dev.keeps_trans (Dev.moCmd_keeps (by decide +kernel) _ _ _ _ _ ?_) ?_
  · intro _
    refine Dev.keeps_step (by decide +kernel) (Dev.moStart_keeps ..) ?_
    exact Dev.keeps_refl _ _
  · exact Dev.keeps_refl _ _

theorem keyrecComplete_keeps (errs : List StoreErr) (d : Dev) : Dev.keeps ⟨[.store, .mo, .fc], [F.FC_COND_COND, F.GL_READY_STORE,
    F.MO_CMD_BUSY, F.MO_CMD_RESULT, F.MO_STATUS_FLOOR, F.MO_STATUS_KEYS, F.MO_STATUS_SINGLE_ERRS, F.MO_STATUS_STORE_ERR], []⟩ d
    (keyrecComplete errs d) := by
  unfold keyrecComplete
  dsimp -proj only
  refine Dev.keeps_trans (Dev.moDone_keeps (by decide +kernel) _ _ _ ?_) ?_
  · intro _ _
    split
    · refine Dev.keeps_step (by decide +kernel) (Dev.moEnd_keeps ..) ?_
      exact Dev.keeps_refl _ _
    · refine Dev.keeps_ite ?_ ?_
      · refine Dev.keeps_step (by decide +kernel) (Dev.moEnd_keeps ..) ?_
        exact Dev.keeps_refl _ _
      · refine Dev.keeps_ite ?_ ?_
        · refine Dev.keeps_step (by decide +kernel) (Dev.moEnd_keeps ..) ?_
          refine Dev.keeps_step (by decide +kernel) (Dev.readBack_keeps ..) ?_
          exact Dev.keeps_refl _ _
        · refine Dev.keeps_step (by decide +kernel) (Dev.moEnd_keeps ..) ?_
          refine Dev.keeps_step (by decide +kernel) (Dev.showRing_keeps ..) ?_
          refine Dev.keeps_store _ (by decide +kernel) ?_
          refine Dev.keeps_step (by decide +kernel) (Dev.readBack_keeps ..) ?_
          exact Dev.keeps_refl _ _
  · exact Dev.keeps_refl _ _

theorem live_keeps (x : Nat) (mask : Nat) (d : Dev) : Dev.keeps ⟨[.mo], [F.HC_CTX_REFADDR_BAR2, F.HC_CTX_REFADDR_CAUSE,
    F.HC_CTX_REFADDR_OFFSET, F.HC_CTX_REFADDR_WRITE, F.HC_CTX_STAT_PARTIAL, F.HC_CTX_STAT_REFUSED, F.MO_CMD_BUSY, F.MO_CMD_RESULT,
    F.MO_LIVE_GROUPS, F.MO_LIVE_RESULT, F.MO_LIVE_SECTION, F.MO_LIVE_STATE], []⟩ d (live x mask d) := by
  unfold live
  dsimp -proj only
  refine Dev.keeps_trans (Dev.moCmd_keeps (by decide +kernel) _ _ _ _ _ ?_) ?_
  · intro _
    refine Dev.keeps_set _ _ _ _ (by decide +kernel) ?_
    refine Dev.keeps_set _ _ _ _ (by decide +kernel) ?_
    refine Dev.keeps_set _ _ _ _ (by decide +kernel) ?_
    refine Dev.keeps_set _ _ _ _ (by decide +kernel) ?_
    refine Dev.keeps_set _ _ _ _ (by decide +kernel) ?_
    refine Dev.keeps_mo _ (by decide +kernel) ?_
    exact Dev.keeps_refl _ _
  · exact Dev.keeps_refl _ _

theorem liveOverlayCommit_keeps (errs : List StoreErr) (d : Dev) : Dev.keeps ⟨[.store, .mo, .grps, .fc], [F.FC_COND_COND,
    F.GL_READY_STORE, F.MO_CMD_BUSY, F.MO_LIVE_AT_HI_AT_HI, F.MO_LIVE_AT_LO_AT_LO, F.MO_LIVE_RESULT, F.MO_LIVE_STATE,
    F.MO_STATUS_SINGLE_ERRS, F.MO_STATUS_STORE_ERR], []⟩ d (liveOverlayCommit errs d) := by
  unfold liveOverlayCommit
  dsimp -proj only
  split
  · exact Dev.keeps_refl _ _
  · refine Dev.keeps_ite ?_ ?_
    · exact Dev.keeps_refl _ _
    · refine Dev.keeps_ite ?_ ?_
      · refine Dev.keeps_step (by decide +kernel) (Dev.refuseLive_keeps ..) ?_
        refine Dev.keeps_step (by decide +kernel) (Dev.readBack_keeps ..) ?_
        exact Dev.keeps_refl _ _
      · refine Dev.keeps_set _ _ _ _ (by decide +kernel) ?_
        refine Dev.keeps_set _ _ _ _ (by decide +kernel) ?_
        refine Dev.keeps_set _ _ _ _ (by decide +kernel) ?_
        refine Dev.keeps_mo _ (by decide +kernel) ?_
        refine Dev.keeps_foldl _ _ ?_ ?_
        · intro _ _
          refine Dev.keeps_step (by decide +kernel) (Dev.modGrp_keeps ..) ?_
          exact Dev.keeps_refl _ _
        · refine Dev.keeps_step (by decide +kernel) (Dev.appendPacket_keeps ..) ?_
          refine Dev.keeps_step (by decide +kernel) (Dev.readBack_keeps ..) ?_
          exact Dev.keeps_refl _ _

theorem liveVerifyComplete_keeps (d : Dev) : Dev.keeps ⟨[.mo], [F.MO_CMD_BUSY, F.MO_LIVE_RESULT, F.MO_LIVE_STATE], []⟩ d
    (liveVerifyComplete d) := by
  unfold liveVerifyComplete
  dsimp -proj only
  split
  · exact Dev.keeps_refl _ _
  · refine Dev.keeps_ite ?_ ?_
    · exact Dev.keeps_refl _ _
    · refine Dev.keeps_ite ?_ ?_
      · refine Dev.keeps_step (by decide +kernel) (Dev.refuseLive_keeps ..) ?_
        exact Dev.keeps_refl _ _
      · refine Dev.keeps_set _ _ _ _ (by decide +kernel) ?_
        exact Dev.keeps_refl _ _

theorem load_keeps (x : Nat) (slot : Nat) (d : Dev) : Dev.keeps ⟨[.store, .mo], [F.HC_CTX_REFADDR_BAR2, F.HC_CTX_REFADDR_CAUSE,
    F.HC_CTX_REFADDR_OFFSET, F.HC_CTX_REFADDR_WRITE, F.HC_CTX_STAT_PARTIAL, F.HC_CTX_STAT_REFUSED, F.MO_CMD_BUSY, F.MO_CMD_RESULT,
    F.MO_SLOT_REASON, F.MO_SLOT_SECVER, F.MO_SLOT_STATE], []⟩ d (load x slot d) := by
  unfold load
  refine Dev.keeps_trans (Dev.moCmd_keeps (by decide +kernel) _ _ _ _ _ ?_) ?_
  · intro _
    refine Dev.keeps_step (by decide +kernel) (Dev.modSlot_keeps ..) ?_
    refine Dev.keeps_step (by decide +kernel) (Dev.moStart_keeps ..) ?_
    exact Dev.keeps_refl _ _
  · exact Dev.keeps_refl _ _

theorem loadComplete_keeps (errs : List StoreErr) (d : Dev) : Dev.keeps ⟨[.store, .mo, .fc], [F.FC_COND_COND, F.GL_READY_STORE,
    F.MO_CMD_BUSY, F.MO_CMD_RESULT, F.MO_SLOT_REASON, F.MO_SLOT_SECVER, F.MO_SLOT_STATE, F.MO_STATUS_SINGLE_ERRS, F.MO_STATUS_STORE_ERR],
    []⟩ d (loadComplete errs d) := by
  unfold loadComplete
  dsimp -proj only
  refine Dev.keeps_trans (Dev.moDone_keeps (by decide +kernel) _ _ _ ?_) ?_
  · intro _ _
    refine Dev.keeps_ite ?_ ?_
    · refine Dev.keeps_step (by decide +kernel) (Dev.moEnd_keeps ..) ?_
      refine Dev.keeps_step (by decide +kernel) (Dev.modSlot_keeps ..) ?_
      refine Dev.keeps_step (by decide +kernel) (Dev.readStore_keeps ..) ?_
      exact Dev.keeps_refl _ _
    · refine Dev.keeps_step (by decide +kernel) (Dev.moEnd_keeps ..) ?_
      refine Dev.keeps_step (by decide +kernel) (Dev.modSlot_keeps ..) ?_
      refine Dev.keeps_step (by decide +kernel) (Dev.readStore_keeps ..) ?_
      exact Dev.keeps_refl _ _
  · exact Dev.keeps_refl _ _

theorem raiseFloor_keeps (x : Nat) (d : Dev) : Dev.keeps ⟨[.mo], [F.HC_CTX_REFADDR_BAR2, F.HC_CTX_REFADDR_CAUSE, F.HC_CTX_REFADDR_OFFSET,
    F.HC_CTX_REFADDR_WRITE, F.HC_CTX_STAT_PARTIAL, F.HC_CTX_STAT_REFUSED, F.MO_CMD_BUSY, F.MO_CMD_RESULT], []⟩ d (raiseFloor x d) := by
  unfold raiseFloor
  refine Dev.keeps_trans (Dev.moCmd_keeps (by decide +kernel) _ _ _ _ _ ?_) ?_
  · intro _
    refine Dev.keeps_step (by decide +kernel) (Dev.moStart_keeps ..) ?_
    exact Dev.keeps_refl _ _
  · exact Dev.keeps_refl _ _

theorem raiseFloorComplete_keeps (errs : List StoreErr) (d : Dev) : Dev.keeps ⟨[.store, .mo, .fc], [F.FC_COND_COND, F.GL_READY_STORE,
    F.MO_CMD_BUSY, F.MO_CMD_RESULT, F.MO_STATUS_FLOOR, F.MO_STATUS_KEYS, F.MO_STATUS_SINGLE_ERRS, F.MO_STATUS_STORE_ERR], []⟩ d
    (raiseFloorComplete errs d) := by
  unfold raiseFloorComplete
  dsimp -proj only
  refine Dev.keeps_trans (Dev.moDone_keeps (by decide +kernel) _ _ _ ?_) ?_
  · intro _ _
    split
    · refine Dev.keeps_step (by decide +kernel) (Dev.moEnd_keeps ..) ?_
      refine Dev.keeps_step (by decide +kernel) (Dev.showRing_keeps ..) ?_
      refine Dev.keeps_store _ (by decide +kernel) ?_
      refine Dev.keeps_step (by decide +kernel) (Dev.readBack_keeps ..) ?_
      exact Dev.keeps_refl _ _
    · refine Dev.keeps_step (by decide +kernel) (Dev.moEnd_keeps ..) ?_
      refine Dev.keeps_step (by decide +kernel) (Dev.readBack_keeps ..) ?_
      exact Dev.keeps_refl _ _
  · exact Dev.keeps_refl _ _

theorem scrubPass_keeps (errs : List StoreErr) (d : Dev) : Dev.keeps ⟨[.store, .mo, .fc], [F.FC_COND_COND, F.GL_READY_STORE,
    F.MO_SCRUB_CORR, F.MO_SCRUB_UNCORR, F.MO_SLOT_REASON, F.MO_SLOT_SECVER, F.MO_SLOT_STATE, F.MO_STATUS_ACTIVE_DAMAGED,
    F.MO_STATUS_SINGLE_ERRS, F.MO_STATUS_STORE_ERR], []⟩ d (scrubPass errs d) := by
  unfold scrubPass
  dsimp -proj only
  refine Dev.keeps_ite ?_ ?_
  · exact Dev.keeps_refl _ _
  · refine Dev.keeps_ite ?_ ?_
    · refine Dev.keeps_step (by decide +kernel) (Dev.damageSlot_keeps ..) ?_
      refine Dev.keeps_ite ?_ ?_
      · refine Dev.keeps_step (by decide +kernel) (Dev.damageSlot_keeps ..) ?_
        refine Dev.keeps_step (by decide +kernel) (Dev.readStore_keeps ..) ?_
        refine Dev.keeps_mo _ (by decide +kernel) ?_
        refine Dev.keeps_addTo _ _ _ _ (by decide +kernel) ?_
        refine Dev.keeps_addTo _ _ _ _ (by decide +kernel) ?_
        exact Dev.keeps_refl _ _
      · refine Dev.keeps_step (by decide +kernel) (Dev.readStore_keeps ..) ?_
        refine Dev.keeps_mo _ (by decide +kernel) ?_
        refine Dev.keeps_addTo _ _ _ _ (by decide +kernel) ?_
        refine Dev.keeps_addTo _ _ _ _ (by decide +kernel) ?_
        exact Dev.keeps_refl _ _
    · refine Dev.keeps_ite ?_ ?_
      · refine Dev.keeps_step (by decide +kernel) (Dev.damageSlot_keeps ..) ?_
        refine Dev.keeps_step (by decide +kernel) (Dev.readStore_keeps ..) ?_
        refine Dev.keeps_mo _ (by decide +kernel) ?_
        refine Dev.keeps_addTo _ _ _ _ (by decide +kernel) ?_
        refine Dev.keeps_addTo _ _ _ _ (by decide +kernel) ?_
        exact Dev.keeps_refl _ _
      · refine Dev.keeps_step (by decide +kernel) (Dev.readStore_keeps ..) ?_
        refine Dev.keeps_mo _ (by decide +kernel) ?_
        refine Dev.keeps_addTo _ _ _ _ (by decide +kernel) ?_
        refine Dev.keeps_addTo _ _ _ _ (by decide +kernel) ?_
        exact Dev.keeps_refl _ _

theorem verify_keeps (x : Nat) (slot : Nat) (d : Dev) : Dev.keeps ⟨[.mo], [F.HC_CTX_REFADDR_BAR2, F.HC_CTX_REFADDR_CAUSE,
    F.HC_CTX_REFADDR_OFFSET, F.HC_CTX_REFADDR_WRITE, F.HC_CTX_STAT_PARTIAL, F.HC_CTX_STAT_REFUSED, F.MO_CMD_BUSY, F.MO_CMD_RESULT], []⟩ d
    (verify x slot d) := by
  unfold verify
  dsimp -proj only
  refine Dev.keeps_trans (Dev.moCmd_keeps (by decide +kernel) _ _ _ _ _ ?_) ?_
  · intro _
    refine Dev.keeps_step (by decide +kernel) (Dev.moStart_keeps ..) ?_
    exact Dev.keeps_refl _ _
  · exact Dev.keeps_refl _ _

theorem verifyComplete_keeps (errs : List StoreErr) (d : Dev) : Dev.keeps ⟨[.store, .mo, .fc], [F.FC_COND_COND, F.GL_READY_STORE,
    F.MO_CMD_BUSY, F.MO_CMD_RESULT, F.MO_SLOT_REASON, F.MO_SLOT_SECVER, F.MO_SLOT_STATE, F.MO_STATUS_SINGLE_ERRS, F.MO_STATUS_STORE_ERR],
    []⟩ d (verifyComplete errs d) := by
  unfold verifyComplete
  dsimp -proj only
  refine Dev.keeps_trans (Dev.moDone_keeps (by decide +kernel) _ _ _ ?_) ?_
  · intro _ _
    refine Dev.keeps_step (by decide +kernel) (Dev.moEnd_keeps ..) ?_
    refine Dev.keeps_step (by decide +kernel) (Dev.slotVerified_keeps ..) ?_
    refine Dev.keeps_step (by decide +kernel) (Dev.readStore_keeps ..) ?_
    exact Dev.keeps_refl _ _
  · exact Dev.keeps_refl _ _

end Sys2Proof.Machine
end

