-- ==== Sys2Proof/Laws/KeepsSupply.lean ====
section
/-! SUPPORT. What the operations of Machine/Supply.lean may change at most, one lemma each. -/

namespace Sys2Proof.Machine

set_option Elab.async false

theorem Dev.startAdapt_keeps (d : Dev) : Dev.keeps ⟨[.out, .pm], [], []⟩ d (Dev.startAdapt d) := by
  unfold Dev.startAdapt
  dsimp -proj only
  refine Dev.keeps_each _ _ ?_ ?_
  · intro _ _
    refine Dev.keeps_step (by decide +kernel) (Dev.emit_keeps ..) ?_
    exact Dev.keeps_refl _ _
  · refine Dev.keeps_pm _ (by decide +kernel) ?_
    exact Dev.keeps_refl _ _

theorem Dev.commandRail_keeps (ch : Nat) (mv : Nat) (d : Dev) : Dev.keeps ⟨[.out, .pm], [F.GL_VCORE_CMD], []⟩ d (Dev.commandRail ch mv d)
    := by
  unfold Dev.commandRail
  dsimp -proj only
  refine Dev.keeps_step (by decide +kernel) (Dev.emit_keeps ..) ?_
  refine Dev.keeps_set _ _ _ _ (by decide +kernel) ?_
  refine Dev.keeps_pm _ (by decide +kernel) ?_
  exact Dev.keeps_refl _ _

theorem Dev.firstCommand_keeps (ch : Nat) (d : Dev) : Dev.keeps ⟨[.out, .pm], [F.GL_VCORE_CMD], []⟩ d (Dev.firstCommand ch d) := by
  unfold Dev.firstCommand
  refine Dev.keeps_ite ?_ ?_
  · refine Dev.keeps_step (by decide +kernel) (Dev.commandRail_keeps ..) ?_
    exact Dev.keeps_refl _ _
  · exact Dev.keeps_refl _ _

theorem Dev.takeVadapt_keeps (v : Nat) (d : Dev) : Dev.keeps ⟨[.out, .store, .pm], [F.GL_VADAPT_DOWN_ABOVE, F.GL_VADAPT_EN,
    F.GL_VADAPT_UP_BELOW, F.MO_JOURNAL_FILL, F.MO_JOURNAL_PENDING], []⟩ d (Dev.takeVadapt v d) := by
  unfold Dev.takeVadapt
  dsimp -proj only
  split
  · exact Dev.keeps_refl _ _
  · refine Dev.keeps_ite ?_ ?_
    · refine Dev.keeps_step (by decide +kernel) (Dev.startAdapt_keeps ..) ?_
      refine Dev.keeps_trans (Dev.writeFound_keeps (by decide +kernel) 0x80 (by decide +kernel) _ (by assumption) _ _ _) ?_
      exact Dev.keeps_refl _ _
    · refine Dev.keeps_trans (Dev.writeFound_keeps (by decide +kernel) 0x80 (by decide +kernel) _ (by assumption) _ _ _) ?_
      exact Dev.keeps_refl _ _

theorem Dev.windowOf_keeps (tiles : List Nat) (ch : Nat) (d : Dev) : Dev.keeps ⟨[.out, .pm], [F.GL_VCORE_CMD, F.GL_VCORE_DOWNS,
    F.GL_VCORE_UPS], []⟩ d (Dev.windowOf tiles ch d) := by
  unfold Dev.windowOf
  dsimp -proj only
  split
  · refine Dev.keeps_ite ?_ ?_
    · refine Dev.keeps_pm _ (by decide +kernel) ?_
      exact Dev.keeps_refl _ _
    · refine Dev.keeps_ite ?_ ?_
      · refine Dev.keeps_step (by decide +kernel) (Dev.commandRail_keeps ..) ?_
        refine Dev.keeps_pm _ (by decide +kernel) ?_
        exact Dev.keeps_refl _ _
      · refine Dev.keeps_ite ?_ ?_
        · refine Dev.keeps_count _ _ _ (by decide +kernel) ?_
          refine Dev.keeps_step (by decide +kernel) (Dev.commandRail_keeps ..) ?_
          refine Dev.keeps_pm _ (by decide +kernel) ?_
          exact Dev.keeps_refl _ _
        · refine Dev.keeps_ite ?_ ?_
          · refine Dev.keeps_count _ _ _ (by decide +kernel) ?_
            refine Dev.keeps_step (by decide +kernel) (Dev.commandRail_keeps ..) ?_
            refine Dev.keeps_pm _ (by decide +kernel) ?_
            refine Dev.keeps_pm _ (by decide +kernel) ?_
            exact Dev.keeps_refl _ _
          · refine Dev.keeps_pm _ (by decide +kernel) ?_
            exact Dev.keeps_refl _ _
  · refine Dev.keeps_pm _ (by decide +kernel) ?_
    exact Dev.keeps_refl _ _

theorem pmbusWriteResult_keeps (ch : Nat) (ok : Bool) (mode : Option Nat) (d : Dev) : Dev.keeps ⟨[.out, .fc, .pm], [F.FC_COND_COND,
    F.GL_VCORE_CMD, F.GL_VCORE_FAIL], []⟩ d (pmbusWriteResult ch ok mode d) := by
  unfold pmbusWriteResult
  dsimp -proj only
  refine Dev.keeps_ite ?_ ?_
  · refine Dev.keeps_step (by decide +kernel) (Dev.cond_keeps ..) ?_
    refine Dev.keeps_flag _ _ _ _ (by decide +kernel) ?_
    exact Dev.keeps_refl _ _
  · split
    · exact Dev.keeps_refl _ _
    · refine Dev.keeps_step (by decide +kernel) (Dev.firstCommand_keeps ..) ?_
      refine Dev.keeps_pm _ (by decide +kernel) ?_
      exact Dev.keeps_refl _ _

theorem slackWindowEnd_keeps (g : Nat) (d : Dev) : Dev.keeps ⟨[.out, .tp, .pm], [F.GL_VCORE_CMD, F.GL_VCORE_DOWNS, F.GL_VCORE_UPS], []⟩ d
    (slackWindowEnd g d) := by
  unfold slackWindowEnd
  dsimp -proj only
  refine Dev.keeps_ite ?_ ?_
  · refine Dev.keeps_foldl _ _ ?_ ?_
    · intro _ _
      refine Dev.keeps_step (by decide +kernel) (Dev.modVote_keeps ..) ?_
      exact Dev.keeps_refl _ _
    · refine Dev.keeps_each _ _ ?_ ?_
      · intro _ _
        refine Dev.keeps_step (by decide +kernel) (Dev.windowOf_keeps ..) ?_
        exact Dev.keeps_refl _ _
      · exact Dev.keeps_refl _ _
  · exact Dev.keeps_refl _ _

theorem supplyOutOfRange_keeps (volts : List Nat) (held : Nat) (d : Dev) : Dev.keeps ⟨[.pins, .fc, .pm], [F.FC_COND_COND,
    F.GL_SUPPLY_HIGH, F.GL_SUPPLY_LOW], []⟩ d (supplyOutOfRange volts held d) := by
  unfold supplyOutOfRange
  dsimp -proj only
  refine Dev.keeps_ite ?_ ?_
  · refine Dev.keeps_pins _ (by decide +kernel) ?_
    exact Dev.keeps_refl _ _
  · refine Dev.keeps_step (by decide +kernel) (Dev.cond_keeps ..) ?_
    refine Dev.keeps_set _ _ _ _ (by decide +kernel) ?_
    refine Dev.keeps_set _ _ _ _ (by decide +kernel) ?_
    refine Dev.keeps_pm _ (by decide +kernel) ?_
    refine Dev.keeps_pins _ (by decide +kernel) ?_
    exact Dev.keeps_refl _ _

theorem supplyRecovered_keeps (d : Dev) : Dev.keeps ⟨[.pins, .fc], [F.FC_COND_COND, F.GL_SUPPLY_HIGH, F.GL_SUPPLY_LOW], []⟩ d
    (supplyRecovered d) := by
  unfold supplyRecovered
  dsimp -proj only
  refine Dev.keeps_ite ?_ ?_
  · refine Dev.keeps_step (by decide +kernel) (Dev.cond_keeps ..) ?_
    refine Dev.keeps_set _ _ _ _ (by decide +kernel) ?_
    refine Dev.keeps_set _ _ _ _ (by decide +kernel) ?_
    refine Dev.keeps_pins _ (by decide +kernel) ?_
    exact Dev.keeps_refl _ _
  · refine Dev.keeps_pins _ (by decide +kernel) ?_
    exact Dev.keeps_refl _ _

theorem temperatureReading_keeps (s : Nat) (v : Int) (d : Dev) : Dev.keeps ⟨[.fc], [F.FC_COND_COND, F.GL_TEMP_NOW, F.GL_TEMP_PEAK], []⟩ d
    (temperatureReading s v d) := by
  unfold temperatureReading
  dsimp -proj only
  refine Dev.keeps_ite ?_ ?_
  · refine Dev.keeps_step (by decide +kernel) (Dev.cond_keeps ..) ?_
    refine Dev.keeps_setI _ _ _ _ (by decide +kernel) ?_
    refine Dev.keeps_setI _ _ _ _ (by decide +kernel) ?_
    exact Dev.keeps_refl _ _
  · refine Dev.keeps_ite ?_ ?_
    · refine Dev.keeps_step (by decide +kernel) (Dev.cond_keeps ..) ?_
      refine Dev.keeps_setI _ _ _ _ (by decide +kernel) ?_
      refine Dev.keeps_setI _ _ _ _ (by decide +kernel) ?_
      exact Dev.keeps_refl _ _
    · refine Dev.keeps_setI _ _ _ _ (by decide +kernel) ?_
      refine Dev.keeps_setI _ _ _ _ (by decide +kernel) ?_
      exact Dev.keeps_refl _ _

theorem vadaptEnable_keeps (x : Nat) (up : Nat) (down : Nat) (d : Dev) : Dev.keeps ⟨[.out, .store, .pm], [F.GL_VADAPT_DOWN_ABOVE,
    F.GL_VADAPT_EN, F.GL_VADAPT_UP_BELOW, F.HC_CTX_REFADDR_BAR2, F.HC_CTX_REFADDR_CAUSE, F.HC_CTX_REFADDR_OFFSET, F.HC_CTX_REFADDR_WRITE,
    F.HC_CTX_STAT_PARTIAL, F.HC_CTX_STAT_REFUSED, F.MO_JOURNAL_FILL, F.MO_JOURNAL_PENDING], []⟩ d (vadaptEnable x up down d) := by
  unfold vadaptEnable
  refine Dev.keeps_trans (Dev.hostWrite_keeps (by decide +kernel) _ _ _ _ ?_) ?_
  · intro _
    refine Dev.keeps_step (by decide +kernel) (Dev.takeVadapt_keeps ..) ?_
    exact Dev.keeps_refl _ _
  · exact Dev.keeps_refl _ _

end Sys2Proof.Machine
end

