-- ==== Sys2Proof/Laws/KeepsBoot.lean ====
section
/-! SUPPORT. What the operations of Machine/Boot.lean may change at most, one lemma each. -/

namespace Sys2Proof.Machine

set_option Elab.async false

theorem findReg_mem (l : List RegDesc) (off : Nat) (r : RegAt) (h : findReg l off = some r) : r.reg ∈ l := by
  induction l with
  | nil => cases h
  | cons a l ih =>
    unfold findReg at h
    split at h
    · next x hx =>
      have e := Option.some.inj h
      rw [← e]
      have : x.reg = a := by
        unfold RegDesc.at? at hx
        dsimp only at hx
        repeat' split at hx
        all_goals first | (cases hx; rfl) | cases hx
      rw [this]; exact List.mem_cons_self
    · exact List.mem_cons_of_mem _ (ih h)

theorem Dev.applyRecord_keeps (d : Dev) (r : JRec) : Dev.keeps ⟨[.grps], settingFlds, []⟩ d (d.applyRecord r) := by
  unfold Dev.applyRecord
  split
  · exact Dev.keeps_refl _ _
  · next a ha =>
    have hm := findReg_mem _ _ _ ha
    have key : ∀ (l : List FieldDesc) (e : Dev), (∀ fd ∈ l, fd ∈ a.reg.fields) → Dev.keeps ⟨[.grps], settingFlds, []⟩ d e →
        Dev.keeps ⟨[.grps], settingFlds, []⟩ d (l.foldl (fun d fd =>
          if !(journalled fd) || (r.mask / 2 ^ fd.pos) % 2 = 0 then d
          else
            let v := r.val / 2 ^ fd.pos % 2 ^ fd.fld.width
            if fd.fld = F.GP_MODE_MODE then d.modGrp a.i fun h => { h with lastMode := v } else d.set fd.fld v a.i (fd.copy.getD a.j)) e) := by
      intro l
      induction l with
      | nil => intro e _ g; exact g
      | cons fd l ih =>
        intro e hl g
        refine ih _ (fun x hx => hl x (List.mem_cons_of_mem _ hx)) ?_
        dsimp only
        split
        · exact g
        · next hc =>
          split
          · exact Dev.keeps_step (by decide +kernel) (Dev.modGrp_keeps ..) g
          · refine Dev.keeps_set _ _ _ _ ?_ g
            have hj : journalled fd = true := by
              simp only [Bool.or_eq_true, not_or, Bool.not_eq_true'] at hc; simpa using hc.1
            simp only [Scope.covers, settingFlds, Bool.or_eq_true, List.contains_iff_mem]
            exact .inl (List.mem_flatMap.2 ⟨a.reg, hm, List.mem_map.2 ⟨fd, List.mem_filter.2 ⟨hl fd List.mem_cons_self, hj⟩, rfl⟩⟩)
    exact key _ _ (fun _ h => h) (Dev.keeps_refl _ _)

theorem Dev.fixRoles_keeps (d : Dev) : Dev.keeps ⟨[], [F.HC_CTX_CFG_ROLE], []⟩ d (Dev.fixRoles d) := by
  unfold Dev.fixRoles
  dsimp -proj only
  refine Dev.keeps_each _ _ ?_ ?_
  · intro _ _
    refine Dev.keeps_ite ?_ ?_
    · refine Dev.keeps_set _ _ _ _ (by decide +kernel) ?_
      exact Dev.keeps_refl _ _
    · refine Dev.keeps_ite ?_ ?_
      · refine Dev.keeps_set _ _ _ _ (by decide +kernel) ?_
        exact Dev.keeps_refl _ _
      · exact Dev.keeps_refl _ _
  · exact Dev.keeps_refl _ _

theorem Dev.lateReactions_keeps (d : Dev) : Dev.keeps ⟨[.out, .store, .grps, .chans, .tp, .cm, .si, .fc, .sb, .host, .dma],
    [F.CM_CRS_DELIV_DELIV, F.CM_CRS_DELIV_WORST, F.CM_CRS_PT_FAILED, F.CM_CRS_STAT_FOUND, F.CM_CRS_STAT_F_WORKING,
    F.CM_CRS_STAT_H_WORKING, F.CM_CRS_STAT_IN_SERVICE, F.CM_CRS_STAT_STATE, F.CM_DIR_W0_EVQ, F.CM_DIR_W0_REASON, F.CM_DIR_W0_STATE,
    F.CM_LANE_STAT_CDR_LOCK, F.CM_LANE_STAT_STATE, F.CM_LANE_STAT_TX_IDLE, F.DM_CH_DETAIL_PTFAIL, F.FC_COND_COND, F.FC_IRQ_PENDING,
    F.FC_STATUS_SAFE_STATE, F.GL_PT_ERR_W0_COUNT, F.GL_PT_ERR_W0_STATUS, F.GL_PT_ERR_W1_ADDRESS, F.GL_READY_TRIPLEX, F.GP_HARVEST_PB_FAIL,
    F.HC_IRQ_STAT_STAT, F.MO_JOURNAL_FILL, F.MO_JOURNAL_PENDING, F.PL_SLACK_LAST, F.PL_SLACK_WMIN, F.PL_STATUS_CONSEC, F.SB_CMD_BUSY,
    F.SB_COURSE_CAUSE, F.SB_COURSE_SENT, F.SB_COURSE_SEQ, F.SB_COURSE_STATE, F.SB_DEMAND_COND, F.SB_DEMAND_IN_FORCE, F.SB_STATUS_BRAKE,
    F.SB_STATUS_HOLD_1, F.SB_STATUS_HOLD_2, F.SB_STATUS_TESTING, F.TB_PTP_PORT_W0_STATE, F.TP_CH_CAUSE, F.TP_CH_FENCES, F.TP_CH_SHADOW,
    F.TP_CH_STATE, F.TP_CH_STRIKES, F.TP_CMD_BUSY, F.TP_PROOF_RESULT, F.TP_PROOF_STATE, F.TP_PROOF_STEP, F.TP_STATE_DONOR,
    F.TP_STATE_FENCED, F.TP_STATE_IN_SERVICE, F.TP_STATE_RESYNC, F.TP_STATE_SIMPLEX_MS, F.TP_STATE_STATE, F.TP_VOTE_LATE_RUN,
    F.TP_VOTE_MINORITY], []⟩ d (Dev.lateReactions d) := by
  unfold Dev.lateReactions
  dsimp -proj only
  refine Dev.keeps_ite ?_ ?_
  · refine Dev.keeps_step (by decide +kernel) (Dev.interrupt_keeps ..) ?_
    refine Dev.keeps_foldl _ _ ?_ ?_
    · intro _ _
      refine Dev.keeps_step (by decide +kernel) (Dev.react_keeps ..) ?_
      refine Dev.keeps_fc _ (by decide +kernel) ?_
      exact Dev.keeps_refl _ _
    · refine Dev.keeps_fc _ (by decide +kernel) ?_
      exact Dev.keeps_refl _ _
  · refine Dev.keeps_foldl _ _ ?_ ?_
    · intro _ _
      refine Dev.keeps_step (by decide +kernel) (Dev.react_keeps ..) ?_
      refine Dev.keeps_fc _ (by decide +kernel) ?_
      exact Dev.keeps_refl _ _
    · refine Dev.keeps_fc _ (by decide +kernel) ?_
      exact Dev.keeps_refl _ _

theorem Dev.lockKiln_keeps (d : Dev) : Dev.keeps ⟨[.mo], [F.GL_START_KILN], []⟩ d (Dev.lockKiln d) := by
  unfold Dev.lockKiln
  dsimp -proj only
  refine Dev.keeps_set _ _ _ _ (by decide +kernel) ?_
  refine Dev.keeps_mo _ (by decide +kernel) ?_
  exact Dev.keeps_refl _ _

theorem Dev.showStore_keeps (d : Dev) : Dev.keeps ⟨[], [F.GL_START_PIN_RESETS, F.GL_START_STARTS, F.MO_SLOT_REASON, F.MO_SLOT_SECVER,
    F.MO_SLOT_STATE, F.MO_STATUS_ACTIVE, F.MO_STATUS_FLOOR, F.MO_STATUS_KEYS, F.SB_DEG_ELAPSED], []⟩ d (Dev.showStore d) := by
  unfold Dev.showStore
  dsimp -proj only
  refine Dev.keeps_step (by decide +kernel) (Dev.showSlot_keeps ..) ?_
  refine Dev.keeps_step (by decide +kernel) (Dev.showSlot_keeps ..) ?_
  refine Dev.keeps_set _ _ _ _ (by decide +kernel) ?_
  refine Dev.keeps_set _ _ _ _ (by decide +kernel) ?_
  refine Dev.keeps_set _ _ _ _ (by decide +kernel) ?_
  refine Dev.keeps_set _ _ _ _ (by decide +kernel) ?_
  refine Dev.keeps_step (by decide +kernel) (Dev.showRing_keeps ..) ?_
  exact Dev.keeps_refl _ _

theorem activeSlotCheck_keeps (errs : List StoreErr) (d : Dev) : Dev.keeps ⟨[.store, .mo, .fc], [F.FC_COND_COND, F.GL_READY_STORE,
    F.MO_SLOT_REASON, F.MO_SLOT_SECVER, F.MO_SLOT_STATE, F.MO_STATUS_SINGLE_ERRS, F.MO_STATUS_STORE_ERR], []⟩ d (activeSlotCheck errs d)
    := by
  unfold activeSlotCheck
  dsimp -proj only
  refine Dev.keeps_ite ?_ ?_
  · exact Dev.keeps_refl _ _
  · refine Dev.keeps_mo _ (by decide +kernel) ?_
    refine Dev.keeps_step (by decide +kernel) (Dev.modSlot_keeps ..) ?_
    refine Dev.keeps_step (by decide +kernel) (Dev.modSlot_keeps ..) ?_
    refine Dev.keeps_step (by decide +kernel) (Dev.readStore_keeps ..) ?_
    exact Dev.keeps_refl _ _

theorem deviceRecordsChecked_keeps (errs : List StoreErr) (d : Dev) : Dev.keeps ⟨[.free, .store, .mo, .fc], [F.FC_COND_COND,
    F.GL_READY_STORE, F.GL_START_PIN_RESETS, F.GL_START_STARTS, F.MO_SLOT_REASON, F.MO_SLOT_SECVER, F.MO_SLOT_STATE, F.MO_STATUS_ACTIVE,
    F.MO_STATUS_FLOOR, F.MO_STATUS_KEYS, F.MO_STATUS_SINGLE_ERRS, F.MO_STATUS_STORE_ERR, F.SB_DEG_ELAPSED], []⟩ d (deviceRecordsChecked
    errs d) := by
  unfold deviceRecordsChecked
  dsimp -proj only
  refine Dev.keeps_ite ?_ ?_
  · exact Dev.keeps_refl _ _
  · refine Dev.keeps_ite ?_ ?_
    · refine Dev.keeps_step (by decide +kernel) (Dev.readStore_keeps ..) ?_
      exact Dev.keeps_refl _ _
    · refine Dev.keeps_flag _ _ _ _ (by decide +kernel) ?_
      refine Dev.keeps_step (by decide +kernel) (Dev.showStore_keeps ..) ?_
      refine Dev.keeps_mo _ (by decide +kernel) ?_
      refine Dev.keeps_mk (.inr rfl) (.inl (by decide +kernel)) (.inr rfl) (.inr rfl) (.inr rfl) (.inl (by decide +kernel)) (.inr rfl) (.inr rfl) (.inr rfl) (.inr rfl) (.inr rfl) (.inr rfl) (.inr rfl) (.inr rfl) (.inr rfl) (.inr rfl) (.inr rfl) (.inr rfl) ?_
      refine Dev.keeps_step (by decide +kernel) (Dev.readStore_keeps ..) ?_
      exact Dev.keeps_refl _ _

theorem faultsReady_keeps (errs : List StoreErr) (d : Dev) : Dev.keeps ⟨[.out, .store, .grps, .chans, .tp, .cm, .si, .fc, .sb, .host,
    .dma], [F.CM_CRS_DELIV_DELIV, F.CM_CRS_DELIV_WORST, F.CM_CRS_PT_FAILED, F.CM_CRS_STAT_FOUND, F.CM_CRS_STAT_F_WORKING,
    F.CM_CRS_STAT_H_WORKING, F.CM_CRS_STAT_IN_SERVICE, F.CM_CRS_STAT_STATE, F.CM_DIR_W0_EVQ, F.CM_DIR_W0_REASON, F.CM_DIR_W0_STATE,
    F.CM_LANE_STAT_CDR_LOCK, F.CM_LANE_STAT_STATE, F.CM_LANE_STAT_TX_IDLE, F.DM_CH_DETAIL_PTFAIL, F.FC_COND_COND, F.FC_FIRST_SAME_TICK,
    F.FC_FIRST_SEQ_SEQ, F.FC_FIRST_SOURCE, F.FC_FIRST_VALID, F.FC_IRQ_PENDING, F.FC_LOG_STAT_HEAD, F.FC_LOG_STAT_QUEUE, F.FC_REACT_ERR,
    F.FC_REACT_GROUPS, F.FC_REACT_REACTION, F.FC_STATUS_SAFE_STATE, F.GL_PT_ERR_W0_COUNT, F.GL_PT_ERR_W0_STATUS, F.GL_PT_ERR_W1_ADDRESS,
    F.GL_READY_FAULTS, F.GL_READY_STORE, F.GL_READY_TRIPLEX, F.GP_HARVEST_PB_FAIL, F.HC_IRQ_STAT_STAT, F.MO_JOURNAL_FILL,
    F.MO_JOURNAL_PENDING, F.MO_STATUS_SINGLE_ERRS, F.MO_STATUS_STORE_ERR, F.PL_SLACK_LAST, F.PL_SLACK_WMIN, F.PL_STATUS_CONSEC,
    F.SB_CMD_BUSY, F.SB_COURSE_CAUSE, F.SB_COURSE_SENT, F.SB_COURSE_SEQ, F.SB_COURSE_STATE, F.SB_DEMAND_COND, F.SB_DEMAND_IN_FORCE,
    F.SB_STATUS_BRAKE, F.SB_STATUS_HOLD_1, F.SB_STATUS_HOLD_2, F.SB_STATUS_TESTING, F.TB_PTP_PORT_W0_STATE, F.TP_CH_CAUSE, F.TP_CH_FENCES,
    F.TP_CH_SHADOW, F.TP_CH_STATE, F.TP_CH_STRIKES, F.TP_CMD_BUSY, F.TP_PROOF_RESULT, F.TP_PROOF_STATE, F.TP_PROOF_STEP, F.TP_STATE_DONOR,
    F.TP_STATE_FENCED, F.TP_STATE_IN_SERVICE, F.TP_STATE_RESYNC, F.TP_STATE_SIMPLEX_MS, F.TP_STATE_STATE, F.TP_VOTE_LATE_RUN,
    F.TP_VOTE_MINORITY], []⟩ d (faultsReady errs d) := by
  unfold faultsReady
  dsimp -proj only
  refine Dev.keeps_ite ?_ ?_
  · exact Dev.keeps_refl _ _
  · refine Dev.keeps_step (by decide +kernel) (Dev.lateReactions_keeps ..) ?_
    refine Dev.keeps_flag _ _ _ _ (by decide +kernel) ?_
    refine Dev.keeps_step (by decide +kernel) (Dev.queueRec_keeps ..) ?_
    refine Dev.keeps_fc _ (by decide +kernel) ?_
    split
    · refine Dev.keeps_step (by decide +kernel) (Dev.loadReact_keeps ..) ?_
      refine Dev.keeps_set _ _ _ _ (by decide +kernel) ?_
      refine Dev.keeps_set _ _ _ _ (by decide +kernel) ?_
      refine Dev.keeps_set _ _ _ _ (by decide +kernel) ?_
      refine Dev.keeps_set _ _ _ _ (by decide +kernel) ?_
      refine Dev.keeps_flag _ _ _ _ (by decide +kernel) ?_
      refine Dev.keeps_store _ (by decide +kernel) ?_
      refine Dev.keeps_step (by decide +kernel) (Dev.readStore_keeps ..) ?_
      exact Dev.keeps_refl _ _
    · refine Dev.keeps_set _ _ _ _ (by decide +kernel) ?_
      refine Dev.keeps_set _ _ _ _ (by decide +kernel) ?_
      refine Dev.keeps_set _ _ _ _ (by decide +kernel) ?_
      refine Dev.keeps_set _ _ _ _ (by decide +kernel) ?_
      refine Dev.keeps_flag _ _ _ _ (by decide +kernel) ?_
      refine Dev.keeps_store _ (by decide +kernel) ?_
      refine Dev.keeps_step (by decide +kernel) (Dev.readStore_keeps ..) ?_
      exact Dev.keeps_refl _ _

theorem groupRestore_keeps (g : Nat) (d : Dev) : Dev.keeps ⟨[.out, .store, .chans, .host], [F.GL_READY_GROUP, F.GP_MODE_CAUSE,
    F.GP_MODE_MODE, F.HC_IRQ_STAT_STAT, F.MO_JOURNAL_FILL, F.MO_JOURNAL_PENDING], []⟩ d (groupRestore g d) := by
  unfold groupRestore
  dsimp -proj only
  refine Dev.keeps_ite ?_ ?_
  · exact Dev.keeps_refl _ _
  · refine Dev.keeps_setBit _ _ _ _ _ (by decide +kernel) ?_
    refine Dev.keeps_each _ _ ?_ ?_
    · intro _ _
      refine Dev.keeps_step (by decide +kernel) (Dev.modCg_keeps ..) ?_
      exact Dev.keeps_refl _ _
    · refine Dev.keeps_set _ _ _ _ (by decide +kernel) ?_
      refine Dev.keeps_ite ?_ ?_
      · exact Dev.keeps_refl _ _
      · refine Dev.keeps_step (by decide +kernel) (Dev.eventAll_keeps ..) ?_
        refine Dev.setKept_keeps (by decide +kernel) _ _ _ _ (by decide +kernel) ?_
        exact Dev.keeps_refl _ _

theorem journalReplay_keeps (errs : List StoreErr) (d : Dev) : Dev.keeps ⟨[.out, .store, .grps, .fc, .pm], settingFlds ++ [F.FC_COND_COND,
    F.GL_READY_JOURNAL, F.GL_READY_RESTORE_DEGRADED, F.GL_READY_STORE, F.HC_CTX_CFG_ROLE, F.MO_JOURNAL_FILL, F.MO_JOURNAL_HALF,
    F.MO_JOURNAL_PENDING, F.MO_STATUS_SINGLE_ERRS, F.MO_STATUS_STORE_ERR], []⟩ d (journalReplay errs d) := by
  unfold journalReplay
  dsimp -proj only
  refine Dev.keeps_ite ?_ ?_
  · exact Dev.keeps_refl _ _
  · refine Dev.keeps_flag _ _ _ _ (by decide +kernel) ?_
    refine Dev.keeps_ite ?_ ?_
    · refine Dev.keeps_step (by decide +kernel) (Dev.startAdapt_keeps ..) ?_
      refine Dev.keeps_step (by decide +kernel) (Dev.showJournal_keeps ..) ?_
      refine Dev.keeps_step (by decide +kernel) (Dev.fixRoles_keeps ..) ?_
      refine Dev.keeps_flag _ _ _ _ (by decide +kernel) ?_
      refine Dev.keeps_foldl _ _ ?_ ?_
      · intro _ _
        refine Dev.keeps_step (by decide +kernel) (Dev.applyRecord_keeps ..) ?_
        exact Dev.keeps_refl _ _
      · refine Dev.keeps_store _ (by decide +kernel) ?_
        refine Dev.keeps_step (by decide +kernel) (Dev.readStore_keeps ..) ?_
        exact Dev.keeps_refl _ _
    · refine Dev.keeps_step (by decide +kernel) (Dev.showJournal_keeps ..) ?_
      refine Dev.keeps_step (by decide +kernel) (Dev.fixRoles_keeps ..) ?_
      refine Dev.keeps_flag _ _ _ _ (by decide +kernel) ?_
      refine Dev.keeps_foldl _ _ ?_ ?_
      · intro _ _
        refine Dev.keeps_step (by decide +kernel) (Dev.applyRecord_keeps ..) ?_
        exact Dev.keeps_refl _ _
      · refine Dev.keeps_store _ (by decide +kernel) ?_
        refine Dev.keeps_step (by decide +kernel) (Dev.readStore_keeps ..) ?_
        exact Dev.keeps_refl _ _

theorem kilnCodeWrite_keeps (x : Nat) (code : Nat) (d : Dev) : Dev.keeps ⟨[.mo], [F.GL_START_KILN, F.HC_CTX_REFADDR_BAR2,
    F.HC_CTX_REFADDR_CAUSE, F.HC_CTX_REFADDR_OFFSET, F.HC_CTX_REFADDR_WRITE, F.HC_CTX_STAT_PARTIAL, F.HC_CTX_STAT_REFUSED], []⟩ d
    (kilnCodeWrite x code d) := by
  unfold kilnCodeWrite
  refine Dev.keeps_trans (Dev.hostWrite_keeps (by decide +kernel) _ _ _ _ ?_) ?_
  · intro _
    refine Dev.keeps_ite ?_ ?_
    · exact Dev.keeps_refl _ _
    · refine Dev.keeps_ite ?_ ?_
      · refine Dev.keeps_set _ _ _ _ (by decide +kernel) ?_
        exact Dev.keeps_refl _ _
      · refine Dev.keeps_step (by decide +kernel) (Dev.lockKiln_keeps ..) ?_
        exact Dev.keeps_refl _ _
  · exact Dev.keeps_refl _ _

theorem kilnTimeout_keeps (d : Dev) : Dev.keeps ⟨[.mo], [F.GL_START_KILN], []⟩ d (kilnTimeout d) := by
  unfold kilnTimeout
  refine Dev.keeps_ite ?_ ?_
  · refine Dev.keeps_step (by decide +kernel) (Dev.lockKiln_keeps ..) ?_
    exact Dev.keeps_refl _ _
  · exact Dev.keeps_refl _ _

theorem safetyReady_keeps (d : Dev) : Dev.keeps ⟨[.out, .store, .cm, .si, .fc, .sb, .host], [F.FC_COND_COND, F.GL_READY_SAFETY,
    F.HC_IRQ_STAT_STAT, F.LM_CONT_DECIM, F.LM_CONT_EN, F.LM_CONT_GAIN, F.LM_CONT_INPUT, F.MO_JOURNAL_FILL, F.MO_JOURNAL_PENDING,
    F.SB_CMD_BUSY, F.SB_COURSE_CAUSE, F.SB_COURSE_SENT, F.SB_COURSE_SEQ, F.SB_COURSE_STATE, F.SB_DEMAND_COND, F.SB_DEMAND_IN_FORCE,
    F.SB_SEAL_EXPECTED, F.SB_SEAL_MATCH, F.SB_STATUS_BRAKE, F.SB_STATUS_HOLD_1, F.SB_STATUS_HOLD_2, F.SB_STATUS_TESTING], []⟩ d
    (safetyReady d) := by
  unfold safetyReady
  dsimp -proj only
  refine Dev.keeps_ite ?_ ?_
  · exact Dev.keeps_refl _ _
  · refine Dev.keeps_step (by decide +kernel) (Dev.sealAndReady_keeps ..) ?_
    refine Dev.keeps_sb _ (by decide +kernel) ?_
    exact Dev.keeps_refl _ _

theorem structureBuild_keeps (errs : List StoreErr) (d : Dev) : Dev.keeps ⟨[.out, .store, .mo, .grps, .chans, .tp, .cm, .si, .tb, .fc,
    .host, .dma], [F.CM_CRS_CTL_NC, F.CM_CRS_CTL_SPARE_UNKNOWN, F.CM_LANE_CFG_RATE, F.CM_LANE_CFG_SPREAD, F.CM_LANE_STAT_CDR_LOCK,
    F.CM_LANE_STAT_STATE, F.CM_LANE_STAT_TX_IDLE, F.FC_COND_COND, F.FC_REACT_ERR, F.FC_REACT_GROUPS, F.FC_REACT_REACTION,
    F.GL_READY_LANE_L0, F.GL_READY_LANE_L1, F.GL_READY_MORTAR, F.GL_READY_PTP, F.GL_READY_STORE, F.GP_HANDOVER_FADE_LEN, F.GP_SPSRC_USED,
    F.GP_SPSRC_WORD, F.GP_TRANS_AUTO_TO, F.GP_TRANS_EN_TO, F.HC_IRQ_STAT_STAT, F.LM_CFG_DELAY, F.LM_CFG_EVT, F.LM_CFG_GROUP,
    F.LM_CFG_NENTRIES, F.LM_CFG_TRIG, F.LM_CONT_N_N, F.LM_CONT_T0_T0, F.MO_STATUS_SINGLE_ERRS, F.MO_STATUS_STORE_ERR, F.PL_ARM_CFG_PHASE,
    F.PL_ARM_CFG_POSITION, F.PL_CFG_GROUP, F.PL_CFG_NCOURSES, F.PL_CFG_STAGES, F.PL_CFG_TYPE, F.PL_DWELL_CFG_DT_COMP,
    F.PL_DWELL_CFG_PULSE_MODE, F.PL_DWELL_CFG_T_DEAD, F.PL_DWELL_CFG_T_DWELL, F.PL_DWELL_CFG_T_MINP, F.PL_OUTER_DIV,
    F.PL_OUTER_MISS_LIMIT, F.PL_OUTER_PHASE, F.PL_RANK_CFG_BAND, F.PL_RANK_CFG_ECHO_N, F.PL_RANK_CFG_REPORT_HOLD, F.PL_RANK_CFG_SWAP_MAX,
    F.PL_TIMING_CYCLE, F.PL_TIMING_EMIT_DL, F.PL_TIMING_LEAD, F.PL_TIMING_REPORT_DL, F.SI_GO_IN_W0_VALUE_LO, F.SI_GO_IN_W1_VALUE_HI,
    F.SI_GO_IN_W2_VALID_LO, F.SI_GO_IN_W3_VALID_HI, F.SI_GO_PUB_USED, F.SI_GO_SUB_USED, F.SI_PORT_MODE, F.SI_SV_STAT_W0_STATE,
    F.TB_EVT_CFG_EDGE, F.TB_EVT_CFG_FILTER, F.TB_HOLD_SECONDS, F.TB_LPLL_CFG_DEPTH, F.TB_LPLL_CFG_MODE, F.TB_PPS_WIDTH,
    F.TB_PTP_PORT_W0_STATE, F.TB_PTP_PORT_W2_ASYM, F.TB_SERVO_CFG_CLOCK, F.TB_SERVO_CFG_DOMAIN, F.TB_SERVO_CFG_MODE,
    F.TB_SERVO_CFG_PROFILE, F.TB_SERVO_CFG_SLAVE_ONLY, F.TB_SERVO_CFG_SLEW_MAX, F.TB_SERVO_DEFERRED, F.TB_SERVO_STATE,
    F.TB_STATUS_PPS_TRACE, F.TB_STATUS_SV_SUSPECT, F.TB_TIO_W0_GROUP, F.TB_TIO_W0_MODE, F.TB_TIO_W3_PENDING], []⟩ d (structureBuild errs
    d) := by
  unfold structureBuild
  dsimp -proj only
  refine Dev.keeps_ite ?_ ?_
  · exact Dev.keeps_refl _ _
  · refine Dev.keeps_step (by decide +kernel) (Dev.refreshLanes_keeps ..) ?_
    refine Dev.keeps_each _ _ ?_ ?_
    · intro _ _
      refine Dev.keeps_step (by decide +kernel) (Dev.wakeCourse_keeps ..) ?_
      exact Dev.keeps_refl _ _
    · refine Dev.keeps_step (by decide +kernel) (Dev.build_keeps ..) ?_
      refine Dev.keeps_store _ (by decide +kernel) ?_
      refine Dev.keeps_step (by decide +kernel) (Dev.readStore_keeps ..) ?_
      exact Dev.keeps_refl _ _

end Sys2Proof.Machine
end

