-- ==== Sys2Proof/Laws/KeepsPoints.lean ====
section
/-! SUPPORT. What the operations of Machine/Points.lean may change at most, one lemma each. -/

namespace Sys2Proof.Machine

set_option Elab.async false

theorem Dev.askRead_keeps (x : Nat) (num : Nat) (brick : Nat) (i : Nat) (slot : Nat) (d : Dev) : Dev.keeps ⟨[.out, .cm, .host, .dma],
    [F.CM_CRS_PT_FAILED, F.CM_DIR_W0_EVQ, F.DM_CH_DETAIL_PTFAIL, F.GL_PT_ERR_W0_COUNT, F.GL_PT_ERR_W0_STATUS, F.GL_PT_ERR_W1_ADDRESS,
    F.GP_HARVEST_PB_FAIL, F.HC_IRQ_STAT_STAT], []⟩ d (Dev.askRead x num brick i slot d) := by
  unfold Dev.askRead
  dsimp -proj only
  refine Dev.keeps_ite ?_ ?_
  · refine Dev.keeps_step (by decide +kernel) (Dev.endReq_keeps ..) ?_
    exact Dev.keeps_refl _ _
  · refine Dev.keeps_ite ?_ ?_
    · refine Dev.keeps_step (by decide +kernel) (Dev.endReq_keeps ..) ?_
      exact Dev.keeps_refl _ _
    · refine Dev.keeps_ite ?_ ?_
      · refine Dev.keeps_step (by decide +kernel) (Dev.endReq_keeps ..) ?_
        exact Dev.keeps_refl _ _
      · refine Dev.keeps_step (by decide +kernel) (Dev.ask_keeps ..) ?_
        exact Dev.keeps_refl _ _

theorem Dev.pointRead_keeps (x : Nat) (dma : Option Nat) (a : Nat) (n : Nat) (d : Dev) : Dev.keeps ⟨[.out, .cm, .host, .dma],
    [F.CM_CRS_PT_FAILED, F.CM_DIR_W0_EVQ, F.DM_CH_DETAIL_PTFAIL, F.GL_PT_ERR_W0_COUNT, F.GL_PT_ERR_W0_STATUS, F.GL_PT_ERR_W1_ADDRESS,
    F.GP_HARVEST_PB_FAIL, F.HC_IRQ_STAT_STAT], []⟩ d (Dev.pointRead x dma a n d) := by
  unfold Dev.pointRead
  dsimp -proj only
  refine Dev.keeps_step (by decide +kernel) (Dev.pump_keeps ..) ?_
  refine Dev.keeps_each _ _ ?_ ?_
  · intro _ _
    refine Dev.keeps_step (by decide +kernel) (Dev.askRead_keeps ..) ?_
    exact Dev.keeps_refl _ _
  · refine Dev.keeps_cm _ (by decide +kernel) ?_
    exact Dev.keeps_refl _ _

theorem Dev.askWrite_keeps (x : Nat) (brick : Nat) (i : Nat) (v : Nat) (d : Dev) : Dev.keeps ⟨[.out, .cm, .host], [F.CM_CRS_PT_FAILED,
    F.GL_PT_ERR_W0_COUNT, F.GL_PT_ERR_W0_STATUS, F.GL_PT_ERR_W1_ADDRESS, F.HC_IRQ_STAT_STAT], []⟩ d (Dev.askWrite x brick i v d) := by
  unfold Dev.askWrite
  dsimp -proj only
  refine Dev.keeps_ite ?_ ?_
  · refine Dev.keeps_step (by decide +kernel) (Dev.pointFail_keeps ..) ?_
    exact Dev.keeps_refl _ _
  · refine Dev.keeps_ite ?_ ?_
    · refine Dev.keeps_step (by decide +kernel) (Dev.pointFail_keeps ..) ?_
      exact Dev.keeps_refl _ _
    · refine Dev.keeps_ite ?_ ?_
      · refine Dev.keeps_step (by decide +kernel) (Dev.pointFail_keeps ..) ?_
        exact Dev.keeps_refl _ _
      · refine Dev.keeps_step (by decide +kernel) (Dev.ask_keeps ..) ?_
        exact Dev.keeps_refl _ _

theorem mirrorRefresh_keeps (c : Nat) (d : Dev) : Dev.keeps ⟨[.out, .cm, .dma], [F.CM_CRS_PT_MIRROR_LATE], []⟩ d (mirrorRefresh c d) := by
  unfold mirrorRefresh
  dsimp -proj only
  refine Dev.keeps_ite ?_ ?_
  · exact Dev.keeps_refl _ _
  · refine Dev.keeps_step (by decide +kernel) (Dev.pump_keeps ..) ?_
    refine Dev.keeps_each _ _ ?_ ?_
    · intro _ _
      refine Dev.keeps_ite ?_ ?_
      · exact Dev.keeps_refl _ _
      · refine Dev.keeps_foldl _ _ ?_ ?_
        · intro _ _
          refine Dev.keeps_step (by decide +kernel) (Dev.ask_keeps ..) ?_
          exact Dev.keeps_refl _ _
        · exact Dev.keeps_refl _ _
    · refine Dev.keeps_step (by decide +kernel) (Dev.modCrs_keeps ..) ?_
      refine Dev.keeps_cm _ (by decide +kernel) ?_
      refine Dev.keeps_ite ?_ ?_
      · exact Dev.keeps_refl _ _
      · refine Dev.keeps_count _ _ _ (by decide +kernel) ?_
        exact Dev.keeps_refl _ _

theorem pointLimit_keeps (d : Dev) : Dev.keeps ⟨[.out, .cm, .host, .dma], [F.CM_CRS_PT_FAILED, F.CM_DIR_W0_EVQ, F.DM_CH_DETAIL_PTFAIL,
    F.GL_PT_ERR_W0_COUNT, F.GL_PT_ERR_W0_STATUS, F.GL_PT_ERR_W1_ADDRESS, F.GP_HARVEST_PB_FAIL, F.HC_IRQ_STAT_STAT], []⟩ d (pointLimit d)
    := by
  unfold pointLimit
  dsimp -proj only
  refine Dev.keeps_foldl _ _ ?_ ?_
  · intro _ _
    refine Dev.keeps_step (by decide +kernel) (Dev.pump_keeps ..) ?_
    refine Dev.keeps_step (by decide +kernel) (Dev.endReq_keeps ..) ?_
    exact Dev.keeps_refl _ _
  · exact Dev.keeps_refl _ _

theorem pointRead_keeps (x : Nat) (addr : Nat) (n : Nat) (d : Dev) : Dev.keeps ⟨[.out, .cm, .host, .dma], [F.CM_CRS_PT_FAILED,
    F.CM_DIR_W0_EVQ, F.DM_CH_DETAIL_PTFAIL, F.GL_PT_ERR_W0_COUNT, F.GL_PT_ERR_W0_STATUS, F.GL_PT_ERR_W1_ADDRESS, F.GP_HARVEST_PB_FAIL,
    F.HC_CTX_REFADDR_BAR2, F.HC_CTX_REFADDR_CAUSE, F.HC_CTX_REFADDR_OFFSET, F.HC_CTX_REFADDR_WRITE, F.HC_CTX_STAT_PARTIAL,
    F.HC_CTX_STAT_REFUSED, F.HC_IRQ_STAT_STAT], []⟩ d (pointRead x addr n d) := by
  unfold pointRead
  split
  · refine Dev.keeps_step (by decide +kernel) (Dev.emit_keeps ..) ?_
    refine Dev.keeps_step (by decide +kernel) (Dev.refuse_keeps ..) ?_
    exact Dev.keeps_refl _ _
  · refine Dev.keeps_ite ?_ ?_
    · refine Dev.keeps_step (by decide +kernel) (Dev.emit_keeps ..) ?_
      refine Dev.keeps_step (by decide +kernel) (Dev.pointFail_keeps ..) ?_
      refine Dev.keeps_step (by decide +kernel) (Dev.refuse_keeps ..) ?_
      exact Dev.keeps_refl _ _
    · refine Dev.keeps_step (by decide +kernel) (Dev.pointRead_keeps ..) ?_
      exact Dev.keeps_refl _ _

theorem pointTimeout_keeps (c : Nat) (tid : Nat) (d : Dev) : Dev.keeps ⟨[.out, .cm, .host, .dma], [F.CM_CRS_PT_FAILED, F.CM_DIR_W0_EVQ,
    F.DM_CH_DETAIL_PTFAIL, F.GL_PT_ERR_W0_COUNT, F.GL_PT_ERR_W0_STATUS, F.GL_PT_ERR_W1_ADDRESS, F.GP_HARVEST_PB_FAIL, F.HC_IRQ_STAT_STAT],
    []⟩ d (pointTimeout c tid d) := by
  unfold pointTimeout
  dsimp -proj only
  split
  · exact Dev.keeps_refl _ _
  · split
    · exact Dev.keeps_refl _ _
    · refine Dev.keeps_ite ?_ ?_
      · exact Dev.keeps_refl _ _
      · refine Dev.keeps_ite ?_ ?_
        · refine Dev.keeps_step (by decide +kernel) (Dev.pump_keeps ..) ?_
          refine Dev.keeps_cm _ (by decide +kernel) ?_
          exact Dev.keeps_refl _ _
        · refine Dev.keeps_step (by decide +kernel) (Dev.lostReq_keeps ..) ?_
          exact Dev.keeps_refl _ _

theorem pointWrite_keeps (x : Nat) (addr : Nat) (vals : List Nat) (fullBytes : Bool) (d : Dev) : Dev.keeps ⟨[.out, .cm, .host, .dma],
    [F.CM_CRS_PT_FAILED, F.GL_PT_ERR_W0_COUNT, F.GL_PT_ERR_W0_STATUS, F.GL_PT_ERR_W1_ADDRESS, F.HC_CTX_REFADDR_BAR2,
    F.HC_CTX_REFADDR_CAUSE, F.HC_CTX_REFADDR_OFFSET, F.HC_CTX_REFADDR_WRITE, F.HC_CTX_STAT_PARTIAL, F.HC_CTX_STAT_REFUSED,
    F.HC_IRQ_STAT_STAT], []⟩ d (pointWrite x addr vals fullBytes d) := by
  unfold pointWrite
  dsimp -proj only
  split
  · refine Dev.keeps_step (by decide +kernel) (Dev.refuse_keeps ..) ?_
    exact Dev.keeps_refl _ _
  · refine Dev.keeps_ite ?_ ?_
    · refine Dev.keeps_step (by decide +kernel) (Dev.pointFail_keeps ..) ?_
      refine Dev.keeps_step (by decide +kernel) (Dev.refuse_keeps ..) ?_
      exact Dev.keeps_refl _ _
    · refine Dev.keeps_step (by decide +kernel) (Dev.pump_keeps ..) ?_
      refine Dev.keeps_each _ _ ?_ ?_
      · intro _ _
        refine Dev.keeps_step (by decide +kernel) (Dev.askWrite_keeps ..) ?_
        exact Dev.keeps_refl _ _
      · exact Dev.keeps_refl _ _

end Sys2Proof.Machine
end

