-- ==== Sys2Proof/Laws/KeepsDma.lean ====
section
/-! SUPPORT. What the operations of Machine/Dma.lean may change at most, one lemma each. -/

namespace Sys2Proof.Machine

set_option Elab.async false

theorem Dev.dmaFault_keeps (cause : Nat) (a1 : Nat) (n : Nat) (d : Dev) : Dev.keeps ⟨[.cm, .dma], [F.DM_CH_STAT_STATE, F.DM_FREE_FREE],
    []⟩ d (Dev.dmaFault cause a1 n d) := by
  unfold Dev.dmaFault
  dsimp -proj only
  refine Dev.keeps_step (by decide +kernel) (Dev.dmaSet_keeps ..) ?_
  refine Dev.keeps_ite ?_ ?_
  · refine Dev.keeps_step (by decide +kernel) (Dev.dropChanReads_keeps ..) ?_
    refine Dev.keeps_step (by decide +kernel) (Dev.modDma_keeps ..) ?_
    refine Dev.keeps_step (by decide +kernel) (Dev.cutReads_keeps ..) ?_
    exact Dev.keeps_refl _ _
  · refine Dev.keeps_step (by decide +kernel) (Dev.modDma_keeps ..) ?_
    refine Dev.keeps_step (by decide +kernel) (Dev.cutReads_keeps ..) ?_
    exact Dev.keeps_refl _ _

theorem Dev.dmaTranslate_keeps (n : Nat) (addr : Nat) (a2 : Nat) (write : Bool) (flush : Bool) (d : Dev) : Dev.keeps ⟨[.out, .cm, .fc,
    .host, .dma], [F.DM_CH_STAT_STATE, F.DM_FREE_FREE, F.HC_IRQ_STAT_STAT, F.HC_MMU_FADDR_HI_FADDR_HI, F.HC_MMU_FADDR_LO_FADDR_LO,
    F.HC_MMU_FAULT_CAUSE, F.HC_MMU_FAULT_COUNT, F.HC_MMU_FAULT_PENDING, F.HC_MMU_FAULT_WRITE], []⟩ d (Dev.dmaTranslate n addr a2 write
    flush d).1 := by
  unfold Dev.dmaTranslate
  dsimp -proj only
  split
  · dsimp only
    refine Dev.keeps_step (by decide +kernel) (Dev.modDma_keeps ..) ?_
    exact Dev.keeps_refl _ _
  · dsimp only
    refine Dev.keeps_step (by decide +kernel) (Dev.modDma_keeps ..) ?_
    refine Dev.keeps_step (by decide +kernel) (Dev.startWalk_keeps ..) ?_
    exact Dev.keeps_refl _ _
  · dsimp only
    refine Dev.keeps_step (by decide +kernel) (Dev.dmaFault_keeps ..) ?_
    refine Dev.keeps_step (by decide +kernel) (Dev.memFault_keeps ..) ?_
    exact Dev.keeps_refl _ _

theorem Dev.dmaAsk_keeps (n : Nat) (d : Dev) : Dev.keeps ⟨[.out, .cm, .fc, .host, .dma], [F.CM_CRS_PT_FAILED, F.CM_DIR_W0_EVQ,
    F.DM_CH_DETAIL_PTFAIL, F.DM_CH_STAT_STATE, F.DM_FREE_FREE, F.GL_PT_ERR_W0_COUNT, F.GL_PT_ERR_W0_STATUS, F.GL_PT_ERR_W1_ADDRESS,
    F.GP_HARVEST_PB_FAIL, F.HC_IRQ_STAT_STAT, F.HC_MMU_FADDR_HI_FADDR_HI, F.HC_MMU_FADDR_LO_FADDR_LO, F.HC_MMU_FAULT_CAUSE,
    F.HC_MMU_FAULT_COUNT, F.HC_MMU_FAULT_PENDING, F.HC_MMU_FAULT_WRITE], []⟩ d (Dev.dmaAsk n d) := by
  unfold Dev.dmaAsk
  dsimp -proj only
  refine Dev.keeps_ite ?_ ?_
  · exact Dev.keeps_refl _ _
  · refine Dev.keeps_ite ?_ ?_
    · refine Dev.keeps_ite ?_ ?_
      · exact Dev.keeps_refl _ _
      · split
        · refine Dev.keeps_step (by decide +kernel) (Dev.emit_keeps ..) ?_
          refine Dev.keeps_step (by decide +kernel) (Dev.modDma_keeps ..) ?_
          refine Dev.keeps_step (by decide +kernel) (Dev.keeps_fst (by assumption) (Dev.dmaTranslate_keeps ..)) ?_
          exact Dev.keeps_refl _ _
        · refine Dev.keeps_step (by decide +kernel) (Dev.keeps_fst (by assumption) (Dev.dmaTranslate_keeps ..)) ?_
          exact Dev.keeps_refl _ _
    · refine Dev.keeps_ite ?_ ?_
      · refine Dev.keeps_ite ?_ ?_
        · exact Dev.keeps_refl _ _
        · refine Dev.keeps_step (by decide +kernel) (Dev.pointRead_keeps ..) ?_
          refine Dev.keeps_step (by decide +kernel) (Dev.modDma_keeps ..) ?_
          exact Dev.keeps_refl _ _
      · exact Dev.keeps_refl _ _

theorem Dev.beginPass_keeps (n : Nat) (fresh : Bool) (d : Dev) : Dev.keeps ⟨[.out, .cm, .fc, .host, .dma], [F.CM_CRS_PT_FAILED,
    F.CM_DIR_W0_EVQ, F.DM_CH_DETAIL_PTFAIL, F.DM_CH_DONE_DONE, F.DM_CH_IRQ_DONE, F.DM_CH_IRQ_FULL, F.DM_CH_IRQ_HALF, F.DM_CH_IRQ_OVERRUN,
    F.DM_CH_IRQ_STOP, F.DM_CH_LOST_LOST, F.DM_CH_RING0_RING0, F.DM_CH_STAT_STATE, F.DM_FREE_FREE, F.GL_PT_ERR_W0_COUNT,
    F.GL_PT_ERR_W0_STATUS, F.GL_PT_ERR_W1_ADDRESS, F.GP_HARVEST_PB_FAIL, F.HC_IRQ_STAT_STAT, F.HC_MMU_FADDR_HI_FADDR_HI,
    F.HC_MMU_FADDR_LO_FADDR_LO, F.HC_MMU_FAULT_CAUSE, F.HC_MMU_FAULT_COUNT, F.HC_MMU_FAULT_PENDING, F.HC_MMU_FAULT_WRITE], []⟩ d
    (Dev.beginPass n fresh d) := by
  unfold Dev.beginPass
  dsimp -proj only
  refine Dev.keeps_step (by decide +kernel) (Dev.dmaShow_keeps ..) ?_
  refine Dev.keeps_step (by decide +kernel) (Dev.dmaAsk_keeps ..) ?_
  refine Dev.keeps_step (by decide +kernel) (Dev.dmaSkip_keeps ..) ?_
  refine Dev.keeps_step (by decide +kernel) (Dev.dmaSet_keeps ..) ?_
  refine Dev.keeps_ite ?_ ?_
  · refine Dev.dmaIrq_keeps (by decide +kernel) _ _ (by decide +kernel) ?_
    refine Dev.keeps_set _ _ _ _ (by decide +kernel) ?_
    refine Dev.keeps_set _ _ _ _ (by decide +kernel) ?_
    refine Dev.keeps_step (by decide +kernel) (Dev.modDma_keeps ..) ?_
    exact Dev.keeps_refl _ _
  · refine Dev.keeps_set _ _ _ _ (by decide +kernel) ?_
    refine Dev.keeps_set _ _ _ _ (by decide +kernel) ?_
    refine Dev.keeps_step (by decide +kernel) (Dev.modDma_keeps ..) ?_
    exact Dev.keeps_refl _ _

theorem Dev.clearIrq_keeps (n : Nat) (d : Dev) : Dev.keeps ⟨[.out, .host], [F.DM_CH_IRQ_DONE, F.DM_CH_IRQ_EN_DONE, F.DM_CH_IRQ_EN_FULL, F.DM_CH_IRQ_EN_HALF, F.DM_CH_IRQ_EN_OVERRUN, F.DM_CH_IRQ_EN_STOP, F.DM_CH_IRQ_FULL, F.DM_CH_IRQ_HALF, F.DM_CH_IRQ_OVERRUN, F.DM_CH_IRQ_STOP], []⟩ d (Dev.clearIrq n d) := by
  unfold Dev.clearIrq
  simp only [List.foldl]
  refine Dev.keeps_step (by decide +kernel) (Dev.dmaIrqEnd_keeps ..) ?_
  repeat' first
    | with_reducible exact Dev.keeps_refl _ _
    | with_reducible refine Dev.keeps_flag _ _ _ _ ?_ ?_
    | decide +kernel

theorem Dev.discard_keeps (n k : Nat) (l : List (BitVec 8)) (d : Dev) : Dev.keeps ⟨[.dma], [], []⟩ d (Dev.discard n k l d).1 := by
  have mods (f : DmaSt → DmaSt) (d : Dev) : Dev.keeps ⟨[.dma], [], []⟩ d (d.modDma n f) := Dev.keeps_mono (by decide +kernel) (Dev.modDma_keeps ..)
  induction k generalizing d l with
  | zero => exact Dev.keeps_refl _ _
  | succ k ih =>
    unfold Dev.discard
    repeat' split
    · exact Dev.keeps_refl _ _
    · dsimp only; exact mods _ _
    · exact Dev.keeps_trans (ih _ _) (mods _ _)

theorem Dev.dmaCmd_keeps {S : Scope} (hS : Scope.le ⟨[], [F.DM_CH_CMD_RESULT, F.DM_CH_DETAIL_RULE, F.HC_CTX_REFADDR_BAR2,
    F.HC_CTX_REFADDR_CAUSE, F.HC_CTX_REFADDR_OFFSET, F.HC_CTX_REFADDR_WRITE, F.HC_CTX_STAT_PARTIAL, F.HC_CTX_STAT_REFUSED], []⟩ S = true)
    (x : Nat) (n : Nat) (code : Nat) (f : Dev → Dev) (d : Dev) (hf : ∀ (x0 : Dev), Dev.keeps S x0 (f x0)) : Dev.keeps S d (Dev.dmaCmd x n
    code f d) := by
  unfold Dev.dmaCmd
  dsimp -proj only
  refine Dev.keeps_trans (Dev.hostWrite_keeps (Scope.le_trans (by decide +kernel) hS) _ _ _ _ ?_) ?_
  · intro _
    refine Dev.keeps_ite ?_ ?_
    · refine Dev.keeps_trans (hf _) ?_
      refine Dev.keeps_set _ _ _ _ (Scope.le_fld (by decide +kernel) hS) ?_
      refine Dev.keeps_ite ?_ ?_
      · refine Dev.keeps_set _ _ _ _ (Scope.le_fld (by decide +kernel) hS) ?_
        exact Dev.keeps_refl _ _
      · exact Dev.keeps_refl _ _
    · refine Dev.keeps_set _ _ _ _ (Scope.le_fld (by decide +kernel) hS) ?_
      refine Dev.keeps_ite ?_ ?_
      · refine Dev.keeps_set _ _ _ _ (Scope.le_fld (by decide +kernel) hS) ?_
        exact Dev.keeps_refl _ _
      · exact Dev.keeps_refl _ _
  · exact Dev.keeps_refl _ _

theorem Dev.dmaEnter_keeps (st : Nat) (cause : Nat) (n : Nat) (d : Dev) : Dev.keeps ⟨[.out, .fc, .host, .dma], [F.DM_CH_DONE_DONE,
    F.DM_CH_IRQ_DONE, F.DM_CH_IRQ_FULL, F.DM_CH_IRQ_HALF, F.DM_CH_IRQ_OVERRUN, F.DM_CH_IRQ_STOP, F.DM_CH_STAT_CAUSE, F.DM_CH_STAT_STATE,
    F.DM_FREE_FREE], []⟩ d (Dev.dmaEnter st cause n d) := by
  unfold Dev.dmaEnter
  dsimp -proj only
  refine Dev.keeps_ite ?_ ?_
  · refine Dev.keeps_step (by decide +kernel) (Dev.raise_keeps ..) ?_
    refine Dev.keeps_ite ?_ ?_
    · refine Dev.keeps_step (by decide +kernel) (Dev.modDma_keeps ..) ?_
      refine Dev.keeps_ite ?_ ?_
      · refine Dev.dmaIrq_keeps (by decide +kernel) _ _ (by decide +kernel) ?_
        refine Dev.keeps_set _ _ _ _ (by decide +kernel) ?_
        refine Dev.keeps_step (by decide +kernel) (Dev.dmaSet_keeps ..) ?_
        refine Dev.keeps_step (by decide +kernel) (Dev.modDma_keeps ..) ?_
        refine Dev.keeps_set _ _ _ _ (by decide +kernel) ?_
        exact Dev.keeps_refl _ _
      · refine Dev.keeps_set _ _ _ _ (by decide +kernel) ?_
        refine Dev.keeps_step (by decide +kernel) (Dev.dmaSet_keeps ..) ?_
        refine Dev.keeps_step (by decide +kernel) (Dev.modDma_keeps ..) ?_
        refine Dev.keeps_set _ _ _ _ (by decide +kernel) ?_
        exact Dev.keeps_refl _ _
    · refine Dev.keeps_ite ?_ ?_
      · refine Dev.dmaIrq_keeps (by decide +kernel) _ _ (by decide +kernel) ?_
        refine Dev.keeps_set _ _ _ _ (by decide +kernel) ?_
        refine Dev.keeps_step (by decide +kernel) (Dev.dmaSet_keeps ..) ?_
        refine Dev.keeps_step (by decide +kernel) (Dev.modDma_keeps ..) ?_
        refine Dev.keeps_set _ _ _ _ (by decide +kernel) ?_
        exact Dev.keeps_refl _ _
      · refine Dev.keeps_set _ _ _ _ (by decide +kernel) ?_
        refine Dev.keeps_step (by decide +kernel) (Dev.dmaSet_keeps ..) ?_
        refine Dev.keeps_step (by decide +kernel) (Dev.modDma_keeps ..) ?_
        refine Dev.keeps_set _ _ _ _ (by decide +kernel) ?_
        exact Dev.keeps_refl _ _
  · refine Dev.keeps_ite ?_ ?_
    · refine Dev.keeps_step (by decide +kernel) (Dev.modDma_keeps ..) ?_
      refine Dev.keeps_ite ?_ ?_
      · refine Dev.dmaIrq_keeps (by decide +kernel) _ _ (by decide +kernel) ?_
        refine Dev.keeps_set _ _ _ _ (by decide +kernel) ?_
        refine Dev.keeps_step (by decide +kernel) (Dev.dmaSet_keeps ..) ?_
        refine Dev.keeps_step (by decide +kernel) (Dev.modDma_keeps ..) ?_
        refine Dev.keeps_set _ _ _ _ (by decide +kernel) ?_
        exact Dev.keeps_refl _ _
      · refine Dev.keeps_set _ _ _ _ (by decide +kernel) ?_
        refine Dev.keeps_step (by decide +kernel) (Dev.dmaSet_keeps ..) ?_
        refine Dev.keeps_step (by decide +kernel) (Dev.modDma_keeps ..) ?_
        refine Dev.keeps_set _ _ _ _ (by decide +kernel) ?_
        exact Dev.keeps_refl _ _
    · refine Dev.keeps_ite ?_ ?_
      · refine Dev.dmaIrq_keeps (by decide +kernel) _ _ (by decide +kernel) ?_
        refine Dev.keeps_set _ _ _ _ (by decide +kernel) ?_
        refine Dev.keeps_step (by decide +kernel) (Dev.dmaSet_keeps ..) ?_
        refine Dev.keeps_step (by decide +kernel) (Dev.modDma_keeps ..) ?_
        refine Dev.keeps_set _ _ _ _ (by decide +kernel) ?_
        exact Dev.keeps_refl _ _
      · refine Dev.keeps_set _ _ _ _ (by decide +kernel) ?_
        refine Dev.keeps_step (by decide +kernel) (Dev.dmaSet_keeps ..) ?_
        refine Dev.keeps_step (by decide +kernel) (Dev.modDma_keeps ..) ?_
        refine Dev.keeps_set _ _ _ _ (by decide +kernel) ?_
        exact Dev.keeps_refl _ _

theorem Dev.dmaEnd_keeps (st : Nat) (cause : Nat) (n : Nat) (d : Dev) : Dev.keeps ⟨[.out, .work, .cm, .fc, .host, .dma],
    [F.DM_CH_DONE_DONE, F.DM_CH_IRQ_DONE, F.DM_CH_IRQ_FULL, F.DM_CH_IRQ_HALF, F.DM_CH_IRQ_OVERRUN, F.DM_CH_IRQ_STOP, F.DM_CH_STAT_CAUSE,
    F.DM_CH_STAT_STATE, F.DM_FREE_FREE], []⟩ d (Dev.dmaEnd st cause n d) := by
  unfold Dev.dmaEnd
  refine Dev.keeps_ite ?_ ?_
  · exact Dev.keeps_refl _ _
  · refine Dev.keeps_ite ?_ ?_
    · refine Dev.keeps_step (by decide +kernel) (Dev.dmaStop_keeps ..) ?_
      exact Dev.keeps_refl _ _
    · refine Dev.keeps_step (by decide +kernel) (Dev.dmaEnter_keeps ..) ?_
      exact Dev.keeps_refl _ _

theorem Dev.dmaFlush_keeps (n : Nat) (d : Dev) : Dev.keeps ⟨[.out, .cm, .fc, .host, .dma], [F.DM_CH_STAT_STATE, F.DM_FREE_FREE,
    F.HC_IRQ_STAT_STAT, F.HC_MMU_FADDR_HI_FADDR_HI, F.HC_MMU_FADDR_LO_FADDR_LO, F.HC_MMU_FAULT_CAUSE, F.HC_MMU_FAULT_COUNT,
    F.HC_MMU_FAULT_PENDING, F.HC_MMU_FAULT_WRITE], []⟩ d (Dev.dmaFlush n d) := by
  unfold Dev.dmaFlush
  dsimp -proj only
  refine Dev.keeps_ite ?_ ?_
  · refine Dev.keeps_step (by decide +kernel) (Dev.modDma_keeps ..) ?_
    refine Dev.keeps_step (by decide +kernel) (Dev.modDma_keeps ..) ?_
    exact Dev.keeps_refl _ _
  · split
    · refine Dev.keeps_step (by decide +kernel) (Dev.emit_keeps ..) ?_
      refine Dev.keeps_step (by decide +kernel) (Dev.modDma_keeps ..) ?_
      refine Dev.keeps_step (by decide +kernel) (Dev.keeps_fst (by assumption) (Dev.dmaTranslate_keeps ..)) ?_
      refine Dev.keeps_step (by decide +kernel) (Dev.modDma_keeps ..) ?_
      exact Dev.keeps_refl _ _
    · refine Dev.keeps_step (by decide +kernel) (Dev.modDma_keeps ..) ?_
      refine Dev.keeps_step (by decide +kernel) (Dev.keeps_fst (by assumption) (Dev.dmaTranslate_keeps ..)) ?_
      refine Dev.keeps_step (by decide +kernel) (Dev.modDma_keeps ..) ?_
      exact Dev.keeps_refl _ _

theorem Dev.dmaWrite_keeps (n : Nat) (l : List (BitVec 8)) (bus : Nat) (attr : Nat) (d : Dev) : Dev.keeps ⟨[.out, .work, .cm, .fc, .host,
    .dma], [F.CM_CRS_PT_FAILED, F.CM_DIR_W0_EVQ, F.DM_CH_DETAIL_PTFAIL, F.DM_CH_DONE_DONE, F.DM_CH_IRQ_DONE, F.DM_CH_IRQ_FULL,
    F.DM_CH_IRQ_HALF, F.DM_CH_IRQ_OVERRUN, F.DM_CH_IRQ_STOP, F.DM_CH_STAT_STATE, F.DM_FREE_FREE, F.GL_PT_ERR_W0_COUNT,
    F.GL_PT_ERR_W0_STATUS, F.GL_PT_ERR_W1_ADDRESS, F.GP_HARVEST_PB_FAIL, F.HC_IRQ_STAT_STAT, F.HC_MMU_FADDR_HI_FADDR_HI,
    F.HC_MMU_FADDR_LO_FADDR_LO, F.HC_MMU_FAULT_CAUSE, F.HC_MMU_FAULT_COUNT, F.HC_MMU_FAULT_PENDING, F.HC_MMU_FAULT_WRITE], []⟩ d
    (Dev.dmaWrite n l bus attr d) := by
  unfold Dev.dmaWrite
  dsimp -proj only
  refine Dev.keeps_step (by decide +kernel) (Dev.dmaAsk_keeps ..) ?_
  refine Dev.keeps_ite ?_ ?_
  · refine Dev.keeps_step (by decide +kernel) (Dev.dmaFlush_keeps ..) ?_
    refine Dev.keeps_step (by decide +kernel) (Dev.dmaPut_keeps ..) ?_
    exact Dev.keeps_refl _ _
  · refine Dev.keeps_ite ?_ ?_
    · refine Dev.keeps_step (by decide +kernel) (Dev.atHalf_keeps ..) ?_
      refine Dev.keeps_step (by decide +kernel) (Dev.dmaPut_keeps ..) ?_
      exact Dev.keeps_refl _ _
    · refine Dev.keeps_set _ _ _ _ (by decide +kernel) ?_
      refine Dev.keeps_step (by decide +kernel) (Dev.dmaPut_keeps ..) ?_
      exact Dev.keeps_refl _ _

theorem Dev.dmaMove_keeps (n : Nat) (bad : Bool) (d : Dev) : Dev.keeps ⟨[.out, .work, .cm, .fc, .host, .dma], [F.CM_CRS_PT_FAILED,
    F.CM_DIR_W0_EVQ, F.DM_CH_DETAIL_PTFAIL, F.DM_CH_DONE_DONE, F.DM_CH_IRQ_DONE, F.DM_CH_IRQ_FULL, F.DM_CH_IRQ_HALF, F.DM_CH_IRQ_OVERRUN,
    F.DM_CH_IRQ_STOP, F.DM_CH_STAT_STATE, F.DM_FREE_FREE, F.GL_PT_ERR_W0_COUNT, F.GL_PT_ERR_W0_STATUS, F.GL_PT_ERR_W1_ADDRESS,
    F.GP_HARVEST_PB_FAIL, F.HC_IRQ_STAT_STAT, F.HC_MMU_FADDR_HI_FADDR_HI, F.HC_MMU_FADDR_LO_FADDR_LO, F.HC_MMU_FAULT_CAUSE,
    F.HC_MMU_FAULT_COUNT, F.HC_MMU_FAULT_PENDING, F.HC_MMU_FAULT_WRITE], []⟩ d (Dev.dmaMove n bad d) := by
  unfold Dev.dmaMove
  dsimp -proj only
  split
  · exact Dev.keeps_refl _ _
  · refine Dev.keeps_ite ?_ ?_
    · refine Dev.keeps_step (by decide +kernel) (Dev.raise_keeps ..) ?_
      refine Dev.keeps_step (by decide +kernel) (Dev.dmaFault_keeps ..) ?_
      exact Dev.keeps_refl _ _
    · refine Dev.keeps_ite ?_ ?_
      · refine Dev.keeps_step (by decide +kernel) (Dev.dmaWrite_keeps ..) ?_
        exact Dev.keeps_refl _ _
      · split
        · refine Dev.keeps_step (by decide +kernel) (Dev.dmaWrite_keeps ..) ?_
          refine Dev.keeps_step (by decide +kernel) (Dev.keeps_fst (by assumption) (Dev.dmaTranslate_keeps ..)) ?_
          exact Dev.keeps_refl _ _
        · refine Dev.keeps_step (by decide +kernel) (Dev.keeps_fst (by assumption) (Dev.dmaTranslate_keeps ..)) ?_
          exact Dev.keeps_refl _ _

theorem Dev.fetchNext_keeps (n : Nat) (d : Dev) : Dev.keeps ⟨[.out, .cm, .fc, .host, .dma], [F.DM_CH_STAT_STATE, F.DM_FREE_FREE,
    F.HC_IRQ_STAT_STAT, F.HC_MMU_FADDR_HI_FADDR_HI, F.HC_MMU_FADDR_LO_FADDR_LO, F.HC_MMU_FAULT_CAUSE, F.HC_MMU_FAULT_COUNT,
    F.HC_MMU_FAULT_PENDING, F.HC_MMU_FAULT_WRITE], []⟩ d (Dev.fetchNext n d) := by
  unfold Dev.fetchNext
  dsimp -proj only
  refine Dev.keeps_ite ?_ ?_
  · refine Dev.keeps_step (by decide +kernel) (Dev.dmaFault_keeps ..) ?_
    exact Dev.keeps_refl _ _
  · refine Dev.keeps_ite ?_ ?_
    · refine Dev.keeps_step (by decide +kernel) (Dev.modDma_keeps ..) ?_
      refine Dev.keeps_step (by decide +kernel) (Dev.modDma_keeps ..) ?_
      exact Dev.keeps_refl _ _
    · refine Dev.keeps_ite ?_ ?_
      · refine Dev.keeps_step (by decide +kernel) (Dev.modDma_keeps ..) ?_
        refine Dev.keeps_step (by decide +kernel) (Dev.modDma_keeps ..) ?_
        exact Dev.keeps_refl _ _
      · split
        · refine Dev.keeps_step (by decide +kernel) (Dev.emit_keeps ..) ?_
          refine Dev.keeps_step (by decide +kernel) (Dev.modDma_keeps ..) ?_
          refine Dev.keeps_step (by decide +kernel) (Dev.keeps_fst (by assumption) (Dev.dmaTranslate_keeps ..)) ?_
          refine Dev.keeps_step (by decide +kernel) (Dev.modDma_keeps ..) ?_
          exact Dev.keeps_refl _ _
        · refine Dev.keeps_step (by decide +kernel) (Dev.modDma_keeps ..) ?_
          refine Dev.keeps_step (by decide +kernel) (Dev.keeps_fst (by assumption) (Dev.dmaTranslate_keeps ..)) ?_
          refine Dev.keeps_step (by decide +kernel) (Dev.modDma_keeps ..) ?_
          exact Dev.keeps_refl _ _

theorem Dev.dmaRetry_keeps (n : Nat) (d : Dev) : Dev.keeps ⟨[.out, .cm, .fc, .host, .dma], [F.CM_CRS_PT_FAILED, F.CM_DIR_W0_EVQ,
    F.DM_CH_DETAIL_PTFAIL, F.DM_CH_STAT_STATE, F.DM_FREE_FREE, F.GL_PT_ERR_W0_COUNT, F.GL_PT_ERR_W0_STATUS, F.GL_PT_ERR_W1_ADDRESS,
    F.GP_HARVEST_PB_FAIL, F.HC_IRQ_STAT_STAT, F.HC_MMU_FADDR_HI_FADDR_HI, F.HC_MMU_FADDR_LO_FADDR_LO, F.HC_MMU_FAULT_CAUSE,
    F.HC_MMU_FAULT_COUNT, F.HC_MMU_FAULT_PENDING, F.HC_MMU_FAULT_WRITE], []⟩ d (Dev.dmaRetry n d) := by
  unfold Dev.dmaRetry
  dsimp -proj only
  refine Dev.keeps_ite ?_ ?_
  · refine Dev.keeps_step (by decide +kernel) (Dev.modDma_keeps ..) ?_
    exact Dev.keeps_refl _ _
  · refine Dev.keeps_ite ?_ ?_
    · refine Dev.keeps_step (by decide +kernel) (Dev.dmaFlush_keeps ..) ?_
      refine Dev.keeps_step (by decide +kernel) (Dev.modDma_keeps ..) ?_
      exact Dev.keeps_refl _ _
    · refine Dev.keeps_ite ?_ ?_
      · refine Dev.keeps_step (by decide +kernel) (Dev.fetchNext_keeps ..) ?_
        refine Dev.keeps_step (by decide +kernel) (Dev.modDma_keeps ..) ?_
        exact Dev.keeps_refl _ _
      · refine Dev.keeps_step (by decide +kernel) (Dev.dmaAsk_keeps ..) ?_
        refine Dev.keeps_step (by decide +kernel) (Dev.modDma_keeps ..) ?_
        exact Dev.keeps_refl _ _

theorem Dev.dmaSegment_keeps (n : Nat) (bad : Bool) (k : Nat) (d : Dev) : Dev.keeps ⟨[.out, .work, .cm, .fc, .host, .dma], [F.CM_CRS_PT_FAILED, F.CM_DIR_W0_EVQ, F.DM_CH_DETAIL_PTFAIL, F.DM_CH_DONE_DONE, F.DM_CH_IRQ_DONE, F.DM_CH_IRQ_FULL, F.DM_CH_IRQ_HALF, F.DM_CH_IRQ_OVERRUN, F.DM_CH_IRQ_STOP, F.DM_CH_STAT_STATE, F.DM_FREE_FREE, F.GL_PT_ERR_W0_COUNT, F.GL_PT_ERR_W0_STATUS, F.GL_PT_ERR_W1_ADDRESS, F.GP_HARVEST_PB_FAIL, F.HC_IRQ_STAT_STAT, F.HC_MMU_FADDR_HI_FADDR_HI, F.HC_MMU_FADDR_LO_FADDR_LO, F.HC_MMU_FAULT_CAUSE, F.HC_MMU_FAULT_COUNT, F.HC_MMU_FAULT_PENDING, F.HC_MMU_FAULT_WRITE], []⟩ d (Dev.dmaSegment n bad k d) := by
  have moves (d : Dev) : Dev.keeps ⟨[.out, .work, .cm, .fc, .host, .dma], [F.CM_CRS_PT_FAILED, F.CM_DIR_W0_EVQ, F.DM_CH_DETAIL_PTFAIL, F.DM_CH_DONE_DONE, F.DM_CH_IRQ_DONE, F.DM_CH_IRQ_FULL, F.DM_CH_IRQ_HALF, F.DM_CH_IRQ_OVERRUN, F.DM_CH_IRQ_STOP, F.DM_CH_STAT_STATE, F.DM_FREE_FREE, F.GL_PT_ERR_W0_COUNT, F.GL_PT_ERR_W0_STATUS, F.GL_PT_ERR_W1_ADDRESS, F.GP_HARVEST_PB_FAIL, F.HC_IRQ_STAT_STAT, F.HC_MMU_FADDR_HI_FADDR_HI, F.HC_MMU_FADDR_LO_FADDR_LO, F.HC_MMU_FAULT_CAUSE, F.HC_MMU_FAULT_COUNT, F.HC_MMU_FAULT_PENDING, F.HC_MMU_FAULT_WRITE], []⟩ d (Dev.dmaMove n bad d) := Dev.keeps_mono (by decide +kernel) (Dev.dmaMove_keeps ..)
  induction k generalizing d with
  | zero => exact Dev.keeps_refl _ _
  | succ k ih =>
    unfold Dev.dmaSegment
    exact Dev.keeps_ite (moves d) (Dev.keeps_trans (ih _) (moves d))

theorem Dev.endLate_keeps (n kind : Nat) (d e : Dev) (h : d.endLate n kind = some e) : Dev.keeps ⟨[.dma], [], []⟩ d e := by
  unfold Dev.endLate at h
  split at h
  · cases h; exact Dev.modDma_keeps ..
  · cases h

theorem Dev.loadDesc_keeps (n : Nat) (w : Desc) (d : Dev) : Dev.keeps ⟨[.out, .cm, .fc, .host, .dma], [F.CM_CRS_PT_FAILED,
    F.CM_DIR_W0_EVQ, F.DM_CH_ACT_ACTIVE, F.DM_CH_DETAIL_PTFAIL, F.DM_CH_DONE_DONE, F.DM_CH_IRQ_DONE, F.DM_CH_IRQ_FULL, F.DM_CH_IRQ_HALF,
    F.DM_CH_IRQ_OVERRUN, F.DM_CH_IRQ_STOP, F.DM_CH_LOST_LOST, F.DM_CH_PASS_PASS, F.DM_CH_RING0_RING0, F.DM_CH_STAT_STATE, F.DM_FREE_FREE,
    F.GL_PT_ERR_W0_COUNT, F.GL_PT_ERR_W0_STATUS, F.GL_PT_ERR_W1_ADDRESS, F.GP_HARVEST_PB_FAIL, F.HC_IRQ_STAT_STAT,
    F.HC_MMU_FADDR_HI_FADDR_HI, F.HC_MMU_FADDR_LO_FADDR_LO, F.HC_MMU_FAULT_CAUSE, F.HC_MMU_FAULT_COUNT, F.HC_MMU_FAULT_PENDING,
    F.HC_MMU_FAULT_WRITE], []⟩ d (Dev.loadDesc n w d) := by
  unfold Dev.loadDesc
  dsimp -proj only
  refine Dev.keeps_step (by decide +kernel) (Dev.beginPass_keeps ..) ?_
  refine Dev.keeps_set _ _ _ _ (by decide +kernel) ?_
  refine Dev.keeps_each _ _ ?_ ?_
  · intro _ _
    refine Dev.keeps_set _ _ _ _ (by decide +kernel) ?_
    exact Dev.keeps_refl _ _
  · exact Dev.keeps_refl _ _

theorem Dev.loadShadow_keeps (n : Nat) (d : Dev) : Dev.keeps ⟨[.out, .cm, .fc, .host, .dma], [F.CM_CRS_PT_FAILED, F.CM_DIR_W0_EVQ,
    F.DM_CH_ACT_ACTIVE, F.DM_CH_DETAIL_PTFAIL, F.DM_CH_DONE_DONE, F.DM_CH_IRQ_DONE, F.DM_CH_IRQ_FULL, F.DM_CH_IRQ_HALF,
    F.DM_CH_IRQ_OVERRUN, F.DM_CH_IRQ_STOP, F.DM_CH_LOST_LOST, F.DM_CH_PASS_PASS, F.DM_CH_RING0_RING0, F.DM_CH_STAT_ARMED,
    F.DM_CH_STAT_HOPS, F.DM_CH_STAT_STATE, F.DM_FREE_FREE, F.GL_PT_ERR_W0_COUNT, F.GL_PT_ERR_W0_STATUS, F.GL_PT_ERR_W1_ADDRESS,
    F.GP_HARVEST_PB_FAIL, F.HC_IRQ_STAT_STAT, F.HC_MMU_FADDR_HI_FADDR_HI, F.HC_MMU_FADDR_LO_FADDR_LO, F.HC_MMU_FAULT_CAUSE,
    F.HC_MMU_FAULT_COUNT, F.HC_MMU_FAULT_PENDING, F.HC_MMU_FAULT_WRITE], []⟩ d (Dev.loadShadow n d) := by
  unfold Dev.loadShadow
  refine Dev.keeps_step (by decide +kernel) (Dev.loadDesc_keeps ..) ?_
  refine Dev.keeps_set _ _ _ _ (by decide +kernel) ?_
  refine Dev.keeps_flag _ _ _ _ (by decide +kernel) ?_
  exact Dev.keeps_refl _ _

theorem Dev.passEnd_keeps (n : Nat) (d : Dev) : Dev.keeps ⟨[.out, .cm, .fc, .host, .dma], [F.CM_CRS_PT_FAILED, F.CM_DIR_W0_EVQ,
    F.DM_CH_ACT_ACTIVE, F.DM_CH_DETAIL_PTFAIL, F.DM_CH_DONE_DONE, F.DM_CH_IRQ_DONE, F.DM_CH_IRQ_FULL, F.DM_CH_IRQ_HALF,
    F.DM_CH_IRQ_OVERRUN, F.DM_CH_IRQ_STOP, F.DM_CH_LOST_LOST, F.DM_CH_PASS_PASS, F.DM_CH_RING0_RING0, F.DM_CH_STAT_ARMED,
    F.DM_CH_STAT_CAUSE, F.DM_CH_STAT_HOPS, F.DM_CH_STAT_STATE, F.DM_FREE_FREE, F.GL_PT_ERR_W0_COUNT, F.GL_PT_ERR_W0_STATUS,
    F.GL_PT_ERR_W1_ADDRESS, F.GP_HARVEST_PB_FAIL, F.HC_IRQ_STAT_STAT, F.HC_MMU_FADDR_HI_FADDR_HI, F.HC_MMU_FADDR_LO_FADDR_LO,
    F.HC_MMU_FAULT_CAUSE, F.HC_MMU_FAULT_COUNT, F.HC_MMU_FAULT_PENDING, F.HC_MMU_FAULT_WRITE], []⟩ d (Dev.passEnd n d) := by
  unfold Dev.passEnd
  dsimp -proj only
  refine Dev.keeps_ite ?_ ?_
  · refine Dev.keeps_step (by decide +kernel) (Dev.loadShadow_keeps ..) ?_
    refine Dev.keeps_count _ _ _ (by decide +kernel) ?_
    refine Dev.keeps_ite ?_ ?_
    · refine Dev.dmaIrq_keeps (by decide +kernel) _ _ (by decide +kernel) ?_
      refine Dev.keeps_set _ _ _ _ (by decide +kernel) ?_
      exact Dev.keeps_refl _ _
    · refine Dev.keeps_set _ _ _ _ (by decide +kernel) ?_
      exact Dev.keeps_refl _ _
  · refine Dev.keeps_ite ?_ ?_
    · refine Dev.keeps_step (by decide +kernel) (Dev.beginPass_keeps ..) ?_
      refine Dev.keeps_count _ _ _ (by decide +kernel) ?_
      refine Dev.keeps_ite ?_ ?_
      · refine Dev.dmaIrq_keeps (by decide +kernel) _ _ (by decide +kernel) ?_
        refine Dev.keeps_set _ _ _ _ (by decide +kernel) ?_
        exact Dev.keeps_refl _ _
      · refine Dev.keeps_set _ _ _ _ (by decide +kernel) ?_
        exact Dev.keeps_refl _ _
    · refine Dev.keeps_ite ?_ ?_
      · refine Dev.keeps_step (by decide +kernel) (Dev.fetchNext_keeps ..) ?_
        refine Dev.keeps_count _ _ _ (by decide +kernel) ?_
        refine Dev.keeps_ite ?_ ?_
        · refine Dev.dmaIrq_keeps (by decide +kernel) _ _ (by decide +kernel) ?_
          refine Dev.keeps_set _ _ _ _ (by decide +kernel) ?_
          exact Dev.keeps_refl _ _
        · refine Dev.keeps_set _ _ _ _ (by decide +kernel) ?_
          exact Dev.keeps_refl _ _
      · refine Dev.dmaIrq_keeps (by decide +kernel) _ _ (by decide +kernel) ?_
        refine Dev.keeps_step (by decide +kernel) (Dev.dmaEnter_keeps ..) ?_
        refine Dev.keeps_count _ _ _ (by decide +kernel) ?_
        refine Dev.keeps_ite ?_ ?_
        · refine Dev.dmaIrq_keeps (by decide +kernel) _ _ (by decide +kernel) ?_
          refine Dev.keeps_set _ _ _ _ (by decide +kernel) ?_
          exact Dev.keeps_refl _ _
        · refine Dev.keeps_set _ _ _ _ (by decide +kernel) ?_
          exact Dev.keeps_refl _ _

theorem Dev.retryWaiting_keeps (port : Nat) (d : Dev) : Dev.keeps ⟨[.out, .cm, .fc, .host, .dma], [F.CM_CRS_PT_FAILED, F.CM_DIR_W0_EVQ,
    F.DM_CH_DETAIL_PTFAIL, F.DM_CH_STAT_STATE, F.DM_FREE_FREE, F.GL_PT_ERR_W0_COUNT, F.GL_PT_ERR_W0_STATUS, F.GL_PT_ERR_W1_ADDRESS,
    F.GP_HARVEST_PB_FAIL, F.HC_IRQ_STAT_STAT, F.HC_MMU_FADDR_HI_FADDR_HI, F.HC_MMU_FADDR_LO_FADDR_LO, F.HC_MMU_FAULT_CAUSE,
    F.HC_MMU_FAULT_COUNT, F.HC_MMU_FAULT_PENDING, F.HC_MMU_FAULT_WRITE], []⟩ d (Dev.retryWaiting port d) := by
  unfold Dev.retryWaiting
  refine Dev.keeps_each _ _ ?_ ?_
  · intro _ _
    refine Dev.keeps_ite ?_ ?_
    · refine Dev.keeps_step (by decide +kernel) (Dev.dmaRetry_keeps ..) ?_
      exact Dev.keeps_refl _ _
    · exact Dev.keeps_refl _ _
  · exact Dev.keeps_refl _ _

theorem abort_keeps (x : Nat) (n : Nat) (d : Dev) : Dev.keeps ⟨[.out, .work, .cm, .fc, .host, .dma], [F.DM_CH_CMD_RESULT,
    F.DM_CH_DETAIL_RULE, F.DM_CH_DONE_DONE, F.DM_CH_IRQ_DONE, F.DM_CH_IRQ_FULL, F.DM_CH_IRQ_HALF, F.DM_CH_IRQ_OVERRUN, F.DM_CH_IRQ_STOP,
    F.DM_CH_STAT_CAUSE, F.DM_CH_STAT_STATE, F.DM_FREE_FREE, F.HC_CTX_REFADDR_BAR2, F.HC_CTX_REFADDR_CAUSE, F.HC_CTX_REFADDR_OFFSET,
    F.HC_CTX_REFADDR_WRITE, F.HC_CTX_STAT_PARTIAL, F.HC_CTX_STAT_REFUSED], []⟩ d (abort x n d) := by
  unfold abort
  refine Dev.keeps_trans (Dev.dmaCmd_keeps (by decide +kernel) _ _ _ _ _ ?_) ?_
  · intro _
    refine Dev.keeps_step (by decide +kernel) (Dev.dmaEnd_keeps ..) ?_
    exact Dev.keeps_refl _ _
  · exact Dev.keeps_refl _ _

theorem arm_keeps (x : Nat) (n : Nat) (d : Dev) : Dev.keeps ⟨[.out, .cm, .fc, .host, .dma], [F.CM_CRS_PT_FAILED, F.CM_DIR_W0_EVQ,
    F.DM_CH_ACT_ACTIVE, F.DM_CH_CMD_RESULT, F.DM_CH_DETAIL_PTFAIL, F.DM_CH_DETAIL_RULE, F.DM_CH_DONE_DONE, F.DM_CH_IRQ_DONE,
    F.DM_CH_IRQ_FULL, F.DM_CH_IRQ_HALF, F.DM_CH_IRQ_OVERRUN, F.DM_CH_IRQ_STOP, F.DM_CH_LOST_LOST, F.DM_CH_PASS_PASS, F.DM_CH_RING0_RING0,
    F.DM_CH_STAT_ARMED, F.DM_CH_STAT_HOPS, F.DM_CH_STAT_STATE, F.DM_FREE_FREE, F.GL_PT_ERR_W0_COUNT, F.GL_PT_ERR_W0_STATUS,
    F.GL_PT_ERR_W1_ADDRESS, F.GP_HARVEST_PB_FAIL, F.HC_CTX_REFADDR_BAR2, F.HC_CTX_REFADDR_CAUSE, F.HC_CTX_REFADDR_OFFSET,
    F.HC_CTX_REFADDR_WRITE, F.HC_CTX_STAT_PARTIAL, F.HC_CTX_STAT_REFUSED, F.HC_IRQ_STAT_STAT, F.HC_MMU_FADDR_HI_FADDR_HI,
    F.HC_MMU_FADDR_LO_FADDR_LO, F.HC_MMU_FAULT_CAUSE, F.HC_MMU_FAULT_COUNT, F.HC_MMU_FAULT_PENDING, F.HC_MMU_FAULT_WRITE], []⟩ d (arm x n
    d) := by
  unfold arm
  refine Dev.keeps_trans (Dev.dmaCmd_keeps (by decide +kernel) _ _ _ _ _ ?_) ?_
  · intro _
    refine Dev.keeps_ite ?_ ?_
    · refine Dev.keeps_step (by decide +kernel) (Dev.loadShadow_keeps ..) ?_
      exact Dev.keeps_refl _ _
    · refine Dev.keeps_flag _ _ _ _ (by decide +kernel) ?_
      exact Dev.keeps_refl _ _
  · exact Dev.keeps_refl _ _

theorem claim_keeps (x : Nat) (n : Nat) (d : Dev) : Dev.keeps ⟨[.out, .host], [F.DM_CH_CFG_PRIO, F.DM_CH_CMD_RESULT, F.DM_CH_DETAIL_RULE,
    F.DM_CH_IRQ_DONE, F.DM_CH_IRQ_EN_DONE, F.DM_CH_IRQ_EN_FULL, F.DM_CH_IRQ_EN_HALF, F.DM_CH_IRQ_EN_OVERRUN, F.DM_CH_IRQ_EN_STOP,
    F.DM_CH_IRQ_FULL, F.DM_CH_IRQ_HALF, F.DM_CH_IRQ_OVERRUN, F.DM_CH_IRQ_STOP, F.DM_CH_STAT_OWNER, F.DM_CH_STAT_STATE, F.DM_FREE_FREE,
    F.HC_CTX_REFADDR_BAR2, F.HC_CTX_REFADDR_CAUSE, F.HC_CTX_REFADDR_OFFSET, F.HC_CTX_REFADDR_WRITE, F.HC_CTX_STAT_PARTIAL,
    F.HC_CTX_STAT_REFUSED], []⟩ d (claim x n d) := by
  unfold claim
  refine Dev.keeps_trans (Dev.dmaCmd_keeps (by decide +kernel) _ _ _ _ _ ?_) ?_
  · intro _
    refine Dev.keeps_step (by decide +kernel) (Dev.clearIrq_keeps ..) ?_
    refine Dev.keeps_set _ _ _ _ (by decide +kernel) ?_
    refine Dev.keeps_set _ _ _ _ (by decide +kernel) ?_
    refine Dev.keeps_step (by decide +kernel) (Dev.dmaSet_keeps ..) ?_
    exact Dev.keeps_refl _ _
  · exact Dev.keeps_refl _ _

theorem disarm_keeps (x : Nat) (n : Nat) (d : Dev) : Dev.keeps ⟨[], [F.DM_CH_CMD_RESULT, F.DM_CH_DETAIL_RULE, F.DM_CH_STAT_ARMED,
    F.HC_CTX_REFADDR_BAR2, F.HC_CTX_REFADDR_CAUSE, F.HC_CTX_REFADDR_OFFSET, F.HC_CTX_REFADDR_WRITE, F.HC_CTX_STAT_PARTIAL,
    F.HC_CTX_STAT_REFUSED], []⟩ d (disarm x n d) := by
  unfold disarm
  refine Dev.keeps_trans (Dev.dmaCmd_keeps (by decide +kernel) _ _ _ _ _ ?_) ?_
  · intro _
    refine Dev.keeps_flag _ _ _ _ (by decide +kernel) ?_
    exact Dev.keeps_refl _ _
  · exact Dev.keeps_refl _ _

theorem dmaAcknowledge_keeps (x : Nat) (n : Nat) (half : Bool) (full : Bool) (again : Nat) (d : Dev) : Dev.keeps ⟨[.out, .host],
    [F.DM_CH_IRQ_FULL, F.DM_CH_IRQ_HALF, F.DM_CH_STAT_STATE, F.DM_FREE_FREE, F.HC_CTX_REFADDR_BAR2, F.HC_CTX_REFADDR_CAUSE,
    F.HC_CTX_REFADDR_OFFSET, F.HC_CTX_REFADDR_WRITE, F.HC_CTX_STAT_PARTIAL, F.HC_CTX_STAT_REFUSED], []⟩ d (dmaAcknowledge x n half full
    again d) := by
  unfold dmaAcknowledge
  dsimp -proj only
  refine Dev.keeps_trans (Dev.hostWrite_keeps (by decide +kernel) _ _ _ _ ?_) ?_
  · intro _
    refine Dev.keeps_ite ?_ ?_
    · refine Dev.keeps_step (by decide +kernel) (Dev.refuse_keeps ..) ?_
      exact Dev.keeps_refl _ _
    · refine Dev.keeps_step (by decide +kernel) (Dev.dmaShow_keeps ..) ?_
      refine Dev.keeps_step (by decide +kernel) (Dev.dmaIrqEnd_keeps ..) ?_
      refine Dev.keeps_ite ?_ ?_
      · refine Dev.keeps_flag _ _ _ _ (by decide +kernel) ?_
        refine Dev.keeps_ite ?_ ?_
        · refine Dev.keeps_flag _ _ _ _ (by decide +kernel) ?_
          exact Dev.keeps_refl _ _
        · exact Dev.keeps_refl _ _
      · refine Dev.keeps_ite ?_ ?_
        · refine Dev.keeps_flag _ _ _ _ (by decide +kernel) ?_
          exact Dev.keeps_refl _ _
        · exact Dev.keeps_refl _ _
  · exact Dev.keeps_refl _ _

theorem dmaChannelStopped_keeps (n : Nat) (d : Dev) : Dev.keeps ⟨[.out, .fc, .host, .dma], [F.DM_CH_DONE_DONE, F.DM_CH_IRQ_DONE,
    F.DM_CH_IRQ_FULL, F.DM_CH_IRQ_HALF, F.DM_CH_IRQ_OVERRUN, F.DM_CH_IRQ_STOP, F.DM_CH_STAT_CAUSE, F.DM_CH_STAT_STATE, F.DM_FREE_FREE],
    []⟩ d (dmaChannelStopped n d) := by
  unfold dmaChannelStopped
  split
  · refine Dev.keeps_ite ?_ ?_
    · refine Dev.keeps_step (by decide +kernel) (Dev.dmaEnter_keeps ..) ?_
      exact Dev.keeps_refl _ _
    · exact Dev.keeps_refl _ _
  · exact Dev.keeps_refl _ _

theorem dmaDescriptorFetch_keeps (n : Nat) (bytes : List (BitVec 8)) (ok : Bool) (d : Dev) : Dev.keeps ⟨[.out, .cm, .fc, .host, .dma],
    [F.CM_CRS_PT_FAILED, F.CM_DIR_W0_EVQ, F.DM_CH_ACT_ACTIVE, F.DM_CH_DETAIL_PTFAIL, F.DM_CH_DETAIL_RULE, F.DM_CH_DONE_DONE,
    F.DM_CH_IRQ_DONE, F.DM_CH_IRQ_FULL, F.DM_CH_IRQ_HALF, F.DM_CH_IRQ_OVERRUN, F.DM_CH_IRQ_STOP, F.DM_CH_LOST_LOST, F.DM_CH_PASS_PASS,
    F.DM_CH_RING0_RING0, F.DM_CH_STAT_HOPS, F.DM_CH_STAT_STATE, F.DM_FREE_FREE, F.GL_PT_ERR_W0_COUNT, F.GL_PT_ERR_W0_STATUS,
    F.GL_PT_ERR_W1_ADDRESS, F.GP_HARVEST_PB_FAIL, F.HC_IRQ_STAT_STAT, F.HC_MMU_FADDR_HI_FADDR_HI, F.HC_MMU_FADDR_LO_FADDR_LO,
    F.HC_MMU_FAULT_CAUSE, F.HC_MMU_FAULT_COUNT, F.HC_MMU_FAULT_PENDING, F.HC_MMU_FAULT_WRITE], []⟩ d (dmaDescriptorFetch n bytes ok d) :=
    by
  unfold dmaDescriptorFetch
  dsimp -proj only
  split
  · next h =>
    split at h
    · cases h
    · exact Dev.keeps_mono (by decide +kernel) (Dev.endLate_keeps _ _ _ _ h)
  · refine Dev.keeps_ite ?_ ?_
    · exact Dev.keeps_refl _ _
    · refine Dev.keeps_ite ?_ ?_
      · refine Dev.keeps_step (by decide +kernel) (Dev.dmaFault_keeps ..) ?_
        exact Dev.keeps_refl _ _
      · refine Dev.keeps_ite ?_ ?_
        · refine Dev.keeps_step (by decide +kernel) (Dev.dmaFault_keeps ..) ?_
          refine Dev.keeps_set _ _ _ _ (by decide +kernel) ?_
          exact Dev.keeps_refl _ _
        · refine Dev.keeps_step (by decide +kernel) (Dev.loadDesc_keeps ..) ?_
          refine Dev.keeps_set _ _ _ _ (by decide +kernel) ?_
          exact Dev.keeps_refl _ _

theorem dmaFlushComplete_keeps (n : Nat) (ok : Bool) (d : Dev) : Dev.keeps ⟨[.out, .cm, .fc, .host, .dma], [F.CM_CRS_PT_FAILED,
    F.CM_DIR_W0_EVQ, F.DM_CH_ACT_ACTIVE, F.DM_CH_DETAIL_PTFAIL, F.DM_CH_DONE_DONE, F.DM_CH_IRQ_DONE, F.DM_CH_IRQ_FULL, F.DM_CH_IRQ_HALF,
    F.DM_CH_IRQ_OVERRUN, F.DM_CH_IRQ_STOP, F.DM_CH_LOST_LOST, F.DM_CH_PASS_PASS, F.DM_CH_RING0_RING0, F.DM_CH_STAT_ARMED,
    F.DM_CH_STAT_CAUSE, F.DM_CH_STAT_HOPS, F.DM_CH_STAT_STATE, F.DM_FREE_FREE, F.GL_PT_ERR_W0_COUNT, F.GL_PT_ERR_W0_STATUS,
    F.GL_PT_ERR_W1_ADDRESS, F.GP_HARVEST_PB_FAIL, F.HC_IRQ_STAT_STAT, F.HC_MMU_FADDR_HI_FADDR_HI, F.HC_MMU_FADDR_LO_FADDR_LO,
    F.HC_MMU_FAULT_CAUSE, F.HC_MMU_FAULT_COUNT, F.HC_MMU_FAULT_PENDING, F.HC_MMU_FAULT_WRITE], []⟩ d (dmaFlushComplete n ok d) := by
  unfold dmaFlushComplete
  dsimp -proj only
  split
  · next h => exact Dev.keeps_mono (by decide +kernel) (Dev.endLate_keeps _ _ _ _ h)
  · refine Dev.keeps_ite ?_ ?_
    · exact Dev.keeps_refl _ _
    · refine Dev.keeps_ite ?_ ?_
      · refine Dev.keeps_step (by decide +kernel) (Dev.dmaFault_keeps ..) ?_
        exact Dev.keeps_refl _ _
      · refine Dev.keeps_ite ?_ ?_
        · refine Dev.keeps_step (by decide +kernel) (Dev.passEnd_keeps ..) ?_
          refine Dev.keeps_step (by decide +kernel) (Dev.modDma_keeps ..) ?_
          exact Dev.keeps_refl _ _
        · refine Dev.keeps_step (by decide +kernel) (Dev.dmaAsk_keeps ..) ?_
          refine Dev.keeps_step (by decide +kernel) (Dev.atHalf_keeps ..) ?_
          refine Dev.keeps_step (by decide +kernel) (Dev.modDma_keeps ..) ?_
          exact Dev.keeps_refl _ _

theorem dmaPassEnd_keeps (n : Nat) (d : Dev) : Dev.keeps ⟨[.out, .cm, .fc, .host, .dma], [F.CM_CRS_PT_FAILED, F.CM_DIR_W0_EVQ,
    F.DM_CH_ACT_ACTIVE, F.DM_CH_DETAIL_PTFAIL, F.DM_CH_DONE_DONE, F.DM_CH_IRQ_DONE, F.DM_CH_IRQ_FULL, F.DM_CH_IRQ_HALF,
    F.DM_CH_IRQ_OVERRUN, F.DM_CH_IRQ_STOP, F.DM_CH_LOST_LOST, F.DM_CH_PASS_PASS, F.DM_CH_RING0_RING0, F.DM_CH_STAT_ARMED,
    F.DM_CH_STAT_CAUSE, F.DM_CH_STAT_HOPS, F.DM_CH_STAT_STATE, F.DM_FREE_FREE, F.GL_PT_ERR_W0_COUNT, F.GL_PT_ERR_W0_STATUS,
    F.GL_PT_ERR_W1_ADDRESS, F.GP_HARVEST_PB_FAIL, F.HC_IRQ_STAT_STAT, F.HC_MMU_FADDR_HI_FADDR_HI, F.HC_MMU_FADDR_LO_FADDR_LO,
    F.HC_MMU_FAULT_CAUSE, F.HC_MMU_FAULT_COUNT, F.HC_MMU_FAULT_PENDING, F.HC_MMU_FAULT_WRITE], []⟩ d (dmaPassEnd n d) := by
  unfold dmaPassEnd
  dsimp -proj only
  refine Dev.keeps_ite ?_ ?_
  · refine Dev.keeps_step (by decide +kernel) (Dev.passEnd_keeps ..) ?_
    exact Dev.keeps_refl _ _
  · exact Dev.keeps_refl _ _

theorem dmaReadCompletion_keeps (n : Nat) (bytes : List (BitVec 8)) (ok : Bool) (d : Dev) : Dev.keeps ⟨[.out, .cm, .fc, .host, .dma],
    [F.CM_CRS_PT_FAILED, F.CM_DIR_W0_EVQ, F.DM_CH_DETAIL_PTFAIL, F.DM_CH_STAT_STATE, F.DM_FREE_FREE, F.GL_PT_ERR_W0_COUNT,
    F.GL_PT_ERR_W0_STATUS, F.GL_PT_ERR_W1_ADDRESS, F.GP_HARVEST_PB_FAIL, F.HC_IRQ_STAT_STAT, F.HC_MMU_FADDR_HI_FADDR_HI,
    F.HC_MMU_FADDR_LO_FADDR_LO, F.HC_MMU_FAULT_CAUSE, F.HC_MMU_FAULT_COUNT, F.HC_MMU_FAULT_PENDING, F.HC_MMU_FAULT_WRITE], []⟩ d
    (dmaReadCompletion n bytes ok d) := by
  unfold dmaReadCompletion
  dsimp -proj only
  split
  · refine Dev.keeps_step (by decide +kernel) (Dev.modDma_keeps ..) ?_
    exact Dev.keeps_refl _ _
  · refine Dev.keeps_ite ?_ ?_
    · refine Dev.keeps_step (by decide +kernel) (Dev.discard_keeps ..) ?_
      exact Dev.keeps_refl _ _
    · refine Dev.keeps_ite ?_ ?_
      · refine Dev.keeps_step (by decide +kernel) (Dev.dmaFault_keeps ..) ?_
        refine Dev.keeps_step (by decide +kernel) (Dev.discard_keeps ..) ?_
        exact Dev.keeps_refl _ _
      · refine Dev.keeps_step (by decide +kernel) (Dev.dmaShow_keeps ..) ?_
        refine Dev.keeps_step (by decide +kernel) (Dev.dmaAsk_keeps ..) ?_
        refine Dev.keeps_step (by decide +kernel) (Dev.modDma_keeps ..) ?_
        refine Dev.keeps_step (by decide +kernel) (Dev.discard_keeps ..) ?_
        exact Dev.keeps_refl _ _

theorem dmaReadTimeout_keeps (n : Nat) (d : Dev) : Dev.keeps ⟨[.cm, .dma], [F.DM_CH_STAT_STATE, F.DM_FREE_FREE], []⟩ d (dmaReadTimeout n
    d) := by
  unfold dmaReadTimeout
  dsimp -proj only
  refine Dev.keeps_ite ?_ ?_
  · refine Dev.keeps_step (by decide +kernel) (Dev.dmaFault_keeps ..) ?_
    refine Dev.keeps_step (by decide +kernel) (Dev.modDma_keeps ..) ?_
    exact Dev.keeps_refl _ _
  · refine Dev.keeps_ite ?_ ?_
    · refine Dev.keeps_step (by decide +kernel) (Dev.dmaFault_keeps ..) ?_
      refine Dev.keeps_step (by decide +kernel) (Dev.modDma_keeps ..) ?_
      exact Dev.keeps_refl _ _
    · refine Dev.keeps_step (by decide +kernel) (Dev.modDma_keeps ..) ?_
      exact Dev.keeps_refl _ _

theorem dmaSegmentBoundary_keeps (port : Nat) (bad : Bool) (errs : List StoreErr) (d : Dev) : Dev.keeps ⟨[.out, .work, .store, .cm, .fc,
    .host, .dma], [F.CM_CRS_PT_FAILED, F.CM_DIR_W0_EVQ, F.DM_CH_DETAIL_PTFAIL, F.DM_CH_DONE_DONE, F.DM_CH_IRQ_DONE, F.DM_CH_IRQ_FULL,
    F.DM_CH_IRQ_HALF, F.DM_CH_IRQ_OVERRUN, F.DM_CH_IRQ_STOP, F.DM_CH_LOST_LOST, F.DM_CH_RING0_RING0, F.DM_CH_STAT_STATE, F.DM_FREE_FREE,
    F.FC_COND_COND, F.GL_PT_ERR_W0_COUNT, F.GL_PT_ERR_W0_STATUS, F.GL_PT_ERR_W1_ADDRESS, F.GL_READY_STORE, F.GP_HARVEST_PB_FAIL,
    F.HC_IRQ_STAT_STAT, F.HC_MMU_FADDR_HI_FADDR_HI, F.HC_MMU_FADDR_LO_FADDR_LO, F.HC_MMU_FAULT_CAUSE, F.HC_MMU_FAULT_COUNT,
    F.HC_MMU_FAULT_PENDING, F.HC_MMU_FAULT_WRITE, F.MO_STATUS_SINGLE_ERRS, F.MO_STATUS_STORE_ERR], []⟩ d (dmaSegmentBoundary port bad errs
    d) := by
  unfold dmaSegmentBoundary
  dsimp -proj only
  split
  · refine Dev.keeps_step (by decide +kernel) (Dev.dmaShow_keeps ..) ?_
    refine Dev.keeps_host _ (by decide +kernel) ?_
    refine Dev.keeps_step (by decide +kernel) (Dev.retryWaiting_keeps ..) ?_
    refine Dev.keeps_each _ _ ?_ ?_
    · intro _ _
      refine Dev.keeps_step (by decide +kernel) (Dev.dmaAsk_keeps ..) ?_
      exact Dev.keeps_refl _ _
    · refine Dev.keeps_each _ _ ?_ ?_
      · intro _ _
        refine Dev.keeps_step (by decide +kernel) (Dev.dmaSkip_keeps ..) ?_
        exact Dev.keeps_refl _ _
      · exact Dev.keeps_refl _ _
  · refine Dev.keeps_step (by decide +kernel) (Dev.dmaShow_keeps ..) ?_
    refine Dev.keeps_step (by decide +kernel) (Dev.dmaSegment_keeps ..) ?_
    refine Dev.keeps_ite ?_ ?_
    · refine Dev.keeps_step (by decide +kernel) (Dev.readStore_keeps ..) ?_
      refine Dev.keeps_host _ (by decide +kernel) ?_
      refine Dev.keeps_ite ?_ ?_
      · refine Dev.keeps_step (by decide +kernel) (Dev.retryWaiting_keeps ..) ?_
        refine Dev.keeps_each _ _ ?_ ?_
        · intro _ _
          refine Dev.keeps_step (by decide +kernel) (Dev.dmaAsk_keeps ..) ?_
          exact Dev.keeps_refl _ _
        · refine Dev.keeps_each _ _ ?_ ?_
          · intro _ _
            refine Dev.keeps_step (by decide +kernel) (Dev.dmaSkip_keeps ..) ?_
            exact Dev.keeps_refl _ _
          · exact Dev.keeps_refl _ _
      · refine Dev.keeps_step (by decide +kernel) (Dev.modDma_keeps ..) ?_
        refine Dev.keeps_step (by decide +kernel) (Dev.retryWaiting_keeps ..) ?_
        refine Dev.keeps_each _ _ ?_ ?_
        · intro _ _
          refine Dev.keeps_step (by decide +kernel) (Dev.dmaAsk_keeps ..) ?_
          exact Dev.keeps_refl _ _
        · refine Dev.keeps_each _ _ ?_ ?_
          · intro _ _
            refine Dev.keeps_step (by decide +kernel) (Dev.dmaSkip_keeps ..) ?_
            exact Dev.keeps_refl _ _
          · exact Dev.keeps_refl _ _
    · refine Dev.keeps_host _ (by decide +kernel) ?_
      refine Dev.keeps_ite ?_ ?_
      · refine Dev.keeps_step (by decide +kernel) (Dev.retryWaiting_keeps ..) ?_
        refine Dev.keeps_each _ _ ?_ ?_
        · intro _ _
          refine Dev.keeps_step (by decide +kernel) (Dev.dmaAsk_keeps ..) ?_
          exact Dev.keeps_refl _ _
        · refine Dev.keeps_each _ _ ?_ ?_
          · intro _ _
            refine Dev.keeps_step (by decide +kernel) (Dev.dmaSkip_keeps ..) ?_
            exact Dev.keeps_refl _ _
          · exact Dev.keeps_refl _ _
      · refine Dev.keeps_step (by decide +kernel) (Dev.modDma_keeps ..) ?_
        refine Dev.keeps_step (by decide +kernel) (Dev.retryWaiting_keeps ..) ?_
        refine Dev.keeps_each _ _ ?_ ?_
        · intro _ _
          refine Dev.keeps_step (by decide +kernel) (Dev.dmaAsk_keeps ..) ?_
          exact Dev.keeps_refl _ _
        · refine Dev.keeps_each _ _ ?_ ?_
          · intro _ _
            refine Dev.keeps_step (by decide +kernel) (Dev.dmaSkip_keeps ..) ?_
            exact Dev.keeps_refl _ _
          · exact Dev.keeps_refl _ _

theorem eraseLog_keeps (x : Nat) (d : Dev) : Dev.keeps ⟨[.store, .fc, .dma], [F.DM_CH_STAT_STATE, F.DM_FREE_FREE, F.FC_CMD_RESULT,
    F.FC_LOG_STAT_QUEUE, F.HC_CTX_REFADDR_BAR2, F.HC_CTX_REFADDR_CAUSE, F.HC_CTX_REFADDR_OFFSET, F.HC_CTX_REFADDR_WRITE,
    F.HC_CTX_STAT_PARTIAL, F.HC_CTX_STAT_REFUSED], []⟩ d (eraseLog x d) := by
  unfold eraseLog
  dsimp -proj only
  refine Dev.keeps_trans (Dev.hostWrite_keeps (by decide +kernel) _ _ _ _ ?_) ?_
  · intro _
    refine Dev.keeps_ite ?_ ?_
    · refine Dev.keeps_set _ _ _ _ (by decide +kernel) ?_
      exact Dev.keeps_refl _ _
    · refine Dev.keeps_set _ _ _ _ (by decide +kernel) ?_
      refine Dev.keeps_set _ _ _ _ (by decide +kernel) ?_
      refine Dev.keeps_fc _ (by decide +kernel) ?_
      refine Dev.keeps_step (by decide +kernel) (Dev.queueRec_keeps ..) ?_
      refine Dev.keeps_fc _ (by decide +kernel) ?_
      refine Dev.keeps_store _ (by decide +kernel) ?_
      refine Dev.keeps_step (by decide +kernel) (Dev.withdraw_keeps ..) ?_
      exact Dev.keeps_refl _ _
  · exact Dev.keeps_refl _ _

theorem pause_keeps (x : Nat) (n : Nat) (d : Dev) : Dev.keeps ⟨[.out, .work, .cm, .fc, .host, .dma], [F.DM_CH_CMD_RESULT,
    F.DM_CH_DETAIL_RULE, F.DM_CH_DONE_DONE, F.DM_CH_IRQ_DONE, F.DM_CH_IRQ_FULL, F.DM_CH_IRQ_HALF, F.DM_CH_IRQ_OVERRUN, F.DM_CH_IRQ_STOP,
    F.DM_CH_STAT_CAUSE, F.DM_CH_STAT_STATE, F.DM_FREE_FREE, F.HC_CTX_REFADDR_BAR2, F.HC_CTX_REFADDR_CAUSE, F.HC_CTX_REFADDR_OFFSET,
    F.HC_CTX_REFADDR_WRITE, F.HC_CTX_STAT_PARTIAL, F.HC_CTX_STAT_REFUSED], []⟩ d (pause x n d) := by
  unfold pause
  refine Dev.keeps_trans (Dev.dmaCmd_keeps (by decide +kernel) _ _ _ _ _ ?_) ?_
  · intro _
    refine Dev.keeps_step (by decide +kernel) (Dev.dmaEnd_keeps ..) ?_
    exact Dev.keeps_refl _ _
  · exact Dev.keeps_refl _ _

theorem releaseChannel_keeps (x : Nat) (n : Nat) (d : Dev) : Dev.keeps ⟨[.out, .work, .cm, .fc, .host, .dma], [F.DM_CH_CMD_RESULT,
    F.DM_CH_DETAIL_RULE, F.DM_CH_DONE_DONE, F.DM_CH_IRQ_DONE, F.DM_CH_IRQ_EN_DONE, F.DM_CH_IRQ_EN_FULL, F.DM_CH_IRQ_EN_HALF,
    F.DM_CH_IRQ_EN_OVERRUN, F.DM_CH_IRQ_EN_STOP, F.DM_CH_IRQ_FULL, F.DM_CH_IRQ_HALF, F.DM_CH_IRQ_OVERRUN, F.DM_CH_IRQ_STOP,
    F.DM_CH_STAT_CAUSE, F.DM_CH_STAT_STATE, F.DM_FREE_FREE, F.HC_CTX_REFADDR_BAR2, F.HC_CTX_REFADDR_CAUSE, F.HC_CTX_REFADDR_OFFSET,
    F.HC_CTX_REFADDR_WRITE, F.HC_CTX_STAT_PARTIAL, F.HC_CTX_STAT_REFUSED], []⟩ d (releaseChannel x n d) := by
  unfold releaseChannel
  refine Dev.keeps_trans (Dev.dmaCmd_keeps (by decide +kernel) _ _ _ _ _ ?_) ?_
  · intro _
    refine Dev.keeps_ite ?_ ?_
    · refine Dev.keeps_step (by decide +kernel) (Dev.dmaSet_keeps ..) ?_
      refine Dev.keeps_step (by decide +kernel) (Dev.clearIrq_keeps ..) ?_
      exact Dev.keeps_refl _ _
    · refine Dev.keeps_step (by decide +kernel) (Dev.clearIrq_keeps ..) ?_
      refine Dev.keeps_step (by decide +kernel) (Dev.dmaEnd_keeps ..) ?_
      exact Dev.keeps_refl _ _
  · exact Dev.keeps_refl _ _

theorem resume_keeps (x : Nat) (n : Nat) (d : Dev) : Dev.keeps ⟨[.out, .cm, .fc, .host, .dma], [F.CM_CRS_PT_FAILED, F.CM_DIR_W0_EVQ,
    F.DM_CH_CMD_RESULT, F.DM_CH_DETAIL_PTFAIL, F.DM_CH_DETAIL_RULE, F.DM_CH_LOST_LOST, F.DM_CH_RING0_RING0, F.DM_CH_STAT_HOPS,
    F.DM_CH_STAT_STATE, F.DM_FREE_FREE, F.GL_PT_ERR_W0_COUNT, F.GL_PT_ERR_W0_STATUS, F.GL_PT_ERR_W1_ADDRESS, F.GP_HARVEST_PB_FAIL,
    F.HC_CTX_REFADDR_BAR2, F.HC_CTX_REFADDR_CAUSE, F.HC_CTX_REFADDR_OFFSET, F.HC_CTX_REFADDR_WRITE, F.HC_CTX_STAT_PARTIAL,
    F.HC_CTX_STAT_REFUSED, F.HC_IRQ_STAT_STAT, F.HC_MMU_FADDR_HI_FADDR_HI, F.HC_MMU_FADDR_LO_FADDR_LO, F.HC_MMU_FAULT_CAUSE,
    F.HC_MMU_FAULT_COUNT, F.HC_MMU_FAULT_PENDING, F.HC_MMU_FAULT_WRITE], []⟩ d (resume x n d) := by
  unfold resume
  dsimp -proj only
  refine Dev.keeps_trans (Dev.dmaCmd_keeps (by decide +kernel) _ _ _ _ _ ?_) ?_
  · intro _
    refine Dev.keeps_step (by decide +kernel) (Dev.dmaShow_keeps ..) ?_
    refine Dev.keeps_ite ?_ ?_
    · refine Dev.keeps_step (by decide +kernel) (Dev.dmaFlush_keeps ..) ?_
      refine Dev.keeps_ite ?_ ?_
      · split
        · refine Dev.keeps_set _ _ _ _ (by decide +kernel) ?_
          refine Dev.keeps_step (by decide +kernel) (Dev.modDma_keeps ..) ?_
          refine Dev.keeps_addTo _ _ _ _ (by decide +kernel) ?_
          refine Dev.keeps_step (by decide +kernel) (Dev.dmaSet_keeps ..) ?_
          refine Dev.keeps_set _ _ _ _ (by decide +kernel) ?_
          exact Dev.keeps_refl _ _
        · refine Dev.keeps_step (by decide +kernel) (Dev.modDma_keeps ..) ?_
          refine Dev.keeps_addTo _ _ _ _ (by decide +kernel) ?_
          refine Dev.keeps_step (by decide +kernel) (Dev.dmaSet_keeps ..) ?_
          refine Dev.keeps_set _ _ _ _ (by decide +kernel) ?_
          exact Dev.keeps_refl _ _
      · refine Dev.keeps_step (by decide +kernel) (Dev.dmaSet_keeps ..) ?_
        refine Dev.keeps_set _ _ _ _ (by decide +kernel) ?_
        exact Dev.keeps_refl _ _
    · refine Dev.keeps_ite ?_ ?_
      · refine Dev.keeps_step (by decide +kernel) (Dev.fetchNext_keeps ..) ?_
        refine Dev.keeps_ite ?_ ?_
        · split
          · refine Dev.keeps_set _ _ _ _ (by decide +kernel) ?_
            refine Dev.keeps_step (by decide +kernel) (Dev.modDma_keeps ..) ?_
            refine Dev.keeps_addTo _ _ _ _ (by decide +kernel) ?_
            refine Dev.keeps_step (by decide +kernel) (Dev.dmaSet_keeps ..) ?_
            refine Dev.keeps_set _ _ _ _ (by decide +kernel) ?_
            exact Dev.keeps_refl _ _
          · refine Dev.keeps_step (by decide +kernel) (Dev.modDma_keeps ..) ?_
            refine Dev.keeps_addTo _ _ _ _ (by decide +kernel) ?_
            refine Dev.keeps_step (by decide +kernel) (Dev.dmaSet_keeps ..) ?_
            refine Dev.keeps_set _ _ _ _ (by decide +kernel) ?_
            exact Dev.keeps_refl _ _
        · refine Dev.keeps_step (by decide +kernel) (Dev.dmaSet_keeps ..) ?_
          refine Dev.keeps_set _ _ _ _ (by decide +kernel) ?_
          exact Dev.keeps_refl _ _
      · refine Dev.keeps_step (by decide +kernel) (Dev.dmaAsk_keeps ..) ?_
        refine Dev.keeps_ite ?_ ?_
        · split
          · refine Dev.keeps_set _ _ _ _ (by decide +kernel) ?_
            refine Dev.keeps_step (by decide +kernel) (Dev.modDma_keeps ..) ?_
            refine Dev.keeps_addTo _ _ _ _ (by decide +kernel) ?_
            refine Dev.keeps_step (by decide +kernel) (Dev.dmaSet_keeps ..) ?_
            refine Dev.keeps_set _ _ _ _ (by decide +kernel) ?_
            exact Dev.keeps_refl _ _
          · refine Dev.keeps_step (by decide +kernel) (Dev.modDma_keeps ..) ?_
            refine Dev.keeps_addTo _ _ _ _ (by decide +kernel) ?_
            refine Dev.keeps_step (by decide +kernel) (Dev.dmaSet_keeps ..) ?_
            refine Dev.keeps_set _ _ _ _ (by decide +kernel) ?_
            exact Dev.keeps_refl _ _
        · refine Dev.keeps_step (by decide +kernel) (Dev.dmaSet_keeps ..) ?_
          refine Dev.keeps_set _ _ _ _ (by decide +kernel) ?_
          exact Dev.keeps_refl _ _
  · exact Dev.keeps_refl _ _

end Sys2Proof.Machine
end

