-- ==== Sys2Proof/Laws/KeepsFaults.lean ====
section
/-! SUPPORT. What the operations of Machine/Faults.lean may change at most, one lemma each. -/

namespace Sys2Proof.Machine

set_option Elab.async false

theorem Dev.directSafe_keeps (detail : Nat) (inj : Bool) (d : Dev) : Dev.keeps ⟨[.out, .store, .grps, .cm, .fc, .sb, .host],
    [F.FC_COND_COND, F.FC_COUNT_COUNT, F.FC_FIRST_SAME_TICK, F.FC_FIRST_SEQ_SEQ, F.FC_FIRST_SOURCE, F.FC_FIRST_VALID, F.FC_IRQ_PENDING,
    F.FC_LATCH_LATCH, F.FC_LOG_STAT_QUEUE, F.FC_STATUS_DIRECT, F.FC_STATUS_SAFE_STATE, F.HC_IRQ_STAT_STAT, F.MO_JOURNAL_FILL,
    F.MO_JOURNAL_PENDING, F.SB_CMD_BUSY, F.SB_COURSE_CAUSE, F.SB_COURSE_SENT, F.SB_COURSE_SEQ, F.SB_COURSE_STATE, F.SB_DEMAND_COND,
    F.SB_DEMAND_IN_FORCE, F.SB_STATUS_BRAKE, F.SB_STATUS_HOLD_1, F.SB_STATUS_HOLD_2, F.SB_STATUS_TESTING], []⟩ d (Dev.directSafe detail
    inj d) := by
  unfold Dev.directSafe
  dsimp -proj only
  refine Dev.keeps_ite ?_ ?_
  · refine Dev.keeps_count _ _ _ (by decide +kernel) ?_
    exact Dev.keeps_refl _ _
  · refine Dev.keeps_ite ?_ ?_
    · refine Dev.keeps_step (by decide +kernel) (Dev.queueRec_keeps ..) ?_
      refine Dev.keeps_fc _ (by decide +kernel) ?_
      refine Dev.keeps_count _ _ _ (by decide +kernel) ?_
      exact Dev.keeps_refl _ _
    · refine Dev.keeps_step (by decide +kernel) (Dev.interrupt_keeps ..) ?_
      refine Dev.keeps_step (by decide +kernel) (Dev.safetyDirect_keeps ..) ?_
      refine Dev.keeps_each _ _ ?_ ?_
      · intro _ _
        refine Dev.keeps_step (by decide +kernel) (Dev.force_keeps ..) ?_
        exact Dev.keeps_refl _ _
      · refine Dev.keeps_step (by decide +kernel) (Dev.blockAll_keeps ..) ?_
        refine Dev.keeps_fc _ (by decide +kernel) ?_
        refine Dev.keeps_flag _ _ _ _ (by decide +kernel) ?_
        refine Dev.keeps_ite ?_ ?_
        · refine Dev.keeps_step (by decide +kernel) (Dev.firstFault_keeps ..) ?_
          refine Dev.keeps_step (by decide +kernel) (Dev.queueRec_keeps ..) ?_
          refine Dev.keeps_flag _ _ _ _ (by decide +kernel) ?_
          refine Dev.keeps_count _ _ _ (by decide +kernel) ?_
          refine Dev.keeps_flag _ _ _ _ (by decide +kernel) ?_
          refine Dev.keeps_flag _ _ _ _ (by decide +kernel) ?_
          exact Dev.keeps_refl _ _
        · refine Dev.keeps_step (by decide +kernel) (Dev.queueRec_keeps ..) ?_
          refine Dev.keeps_flag _ _ _ _ (by decide +kernel) ?_
          refine Dev.keeps_count _ _ _ (by decide +kernel) ?_
          refine Dev.keeps_flag _ _ _ _ (by decide +kernel) ?_
          refine Dev.keeps_flag _ _ _ _ (by decide +kernel) ?_
          exact Dev.keeps_refl _ _

theorem Dev.endInjection_keeps (code : Nat) (d : Dev) : Dev.keeps ⟨[.fc], [F.FC_INJ_ARMED, F.FC_INJ_RESULT], []⟩ d (Dev.endInjection code
    d) := by
  unfold Dev.endInjection
  dsimp -proj only
  refine Dev.keeps_set _ _ _ _ (by decide +kernel) ?_
  refine Dev.keeps_flag _ _ _ _ (by decide +kernel) ?_
  refine Dev.keeps_fc _ (by decide +kernel) ?_
  exact Dev.keeps_refl _ _

theorem Dev.endSafeState_keeps (d : Dev) : Dev.keeps ⟨[], [F.FC_STATUS_SAFE_STATE, F.SB_DEMAND_COND], []⟩ d (Dev.endSafeState d) := by
  unfold Dev.endSafeState
  refine Dev.keeps_ite ?_ ?_
  · exact Dev.keeps_refl _ _
  · refine Dev.keeps_setBit _ _ _ _ _ (by decide +kernel) ?_
    refine Dev.keeps_flag _ _ _ _ (by decide +kernel) ?_
    exact Dev.keeps_refl _ _

theorem Dev.unfence_keeps (n : Nat) (d : Dev) : Dev.keeps ⟨[.out, .cm], [F.CM_LANE_STAT_CDR_LOCK, F.CM_LANE_STAT_STATE,
    F.CM_LANE_STAT_TX_IDLE, F.TB_PTP_PORT_W0_STATE], []⟩ d (Dev.unfence n d) := by
  unfold Dev.unfence
  dsimp -proj only
  refine Dev.keeps_ite ?_ ?_
  · refine Dev.keeps_step (by decide +kernel) (Dev.wakeCourse_keeps ..) ?_
    refine Dev.keeps_step (by decide +kernel) (Dev.modCrs_keeps ..) ?_
    exact Dev.keeps_refl _ _
  · refine Dev.keeps_ite ?_ ?_
    · refine Dev.keeps_each _ _ ?_ ?_
      · intro _ _
        refine Dev.keeps_step (by decide +kernel) (Dev.wakeCourse_keeps ..) ?_
        exact Dev.keeps_refl _ _
      · exact Dev.keeps_refl _ _
    · refine Dev.keeps_ite ?_ ?_
      · refine Dev.keeps_set _ _ _ _ (by decide +kernel) ?_
        exact Dev.keeps_refl _ _
      · exact Dev.keeps_refl _ _

theorem clearFirst_keeps (x : Nat) (d : Dev) : Dev.keeps ⟨[.store], [F.FC_CMD_RESULT, F.FC_FIRST_SAME_TICK, F.FC_FIRST_SEQ_SEQ,
    F.FC_FIRST_SOURCE, F.FC_FIRST_VALID, F.HC_CTX_REFADDR_BAR2, F.HC_CTX_REFADDR_CAUSE, F.HC_CTX_REFADDR_OFFSET, F.HC_CTX_REFADDR_WRITE,
    F.HC_CTX_STAT_PARTIAL, F.HC_CTX_STAT_REFUSED], []⟩ d (clearFirst x d) := by
  unfold clearFirst
  dsimp -proj only
  refine Dev.keeps_trans (Dev.hostWrite_keeps (by decide +kernel) _ _ _ _ ?_) ?_
  · intro _
    refine Dev.keeps_ite ?_ ?_
    · refine Dev.keeps_set _ _ _ _ (by decide +kernel) ?_
      exact Dev.keeps_refl _ _
    · refine Dev.keeps_set _ _ _ _ (by decide +kernel) ?_
      refine Dev.keeps_set _ _ _ _ (by decide +kernel) ?_
      refine Dev.keeps_set _ _ _ _ (by decide +kernel) ?_
      refine Dev.keeps_set _ _ _ _ (by decide +kernel) ?_
      refine Dev.keeps_flag _ _ _ _ (by decide +kernel) ?_
      refine Dev.keeps_store _ (by decide +kernel) ?_
      exact Dev.keeps_refl _ _
  · exact Dev.keeps_refl _ _

theorem clearOne_keeps (x : Nat) (n : Nat) (d : Dev) : Dev.keeps ⟨[.out, .cm, .fc], [F.CM_LANE_STAT_CDR_LOCK, F.CM_LANE_STAT_STATE,
    F.CM_LANE_STAT_TX_IDLE, F.FC_LATCH_LATCH, F.FC_LOG_STAT_QUEUE, F.FC_STATUS_CLEAR_REFUSED, F.FC_STATUS_SAFE_STATE, F.SB_DEMAND_COND,
    F.TB_PTP_PORT_W0_STATE], []⟩ d (clearOne x n d) := by
  unfold clearOne
  dsimp -proj only
  refine Dev.keeps_ite ?_ ?_
  · exact Dev.keeps_refl _ _
  · refine Dev.keeps_ite ?_ ?_
    · refine Dev.keeps_count _ _ _ (by decide +kernel) ?_
      exact Dev.keeps_refl _ _
    · refine Dev.keeps_step (by decide +kernel) (Dev.endSafeState_keeps ..) ?_
      refine Dev.keeps_ite ?_ ?_
      · refine Dev.keeps_step (by decide +kernel) (Dev.unfence_keeps ..) ?_
        refine Dev.keeps_fc _ (by decide +kernel) ?_
        refine Dev.keeps_flag _ _ _ _ (by decide +kernel) ?_
        refine Dev.keeps_step (by decide +kernel) (Dev.queueRec_keeps ..) ?_
        exact Dev.keeps_refl _ _
      · refine Dev.keeps_fc _ (by decide +kernel) ?_
        refine Dev.keeps_flag _ _ _ _ (by decide +kernel) ?_
        refine Dev.keeps_step (by decide +kernel) (Dev.queueRec_keeps ..) ?_
        exact Dev.keeps_refl _ _

theorem collectorSelfCheck_keeps (corrected : Nat) (mismatch : Bool) (d : Dev) : Dev.keeps ⟨[.out, .store, .grps, .cm, .fc, .sb, .host],
    [F.FC_COND_COND, F.FC_COUNT_COUNT, F.FC_FIRST_SAME_TICK, F.FC_FIRST_SEQ_SEQ, F.FC_FIRST_SOURCE, F.FC_FIRST_VALID, F.FC_IRQ_PENDING,
    F.FC_LATCH_LATCH, F.FC_LOG_STAT_QUEUE, F.FC_SELF_CORR, F.FC_STATUS_DIRECT, F.FC_STATUS_SAFE_STATE, F.HC_IRQ_STAT_STAT,
    F.MO_JOURNAL_FILL, F.MO_JOURNAL_PENDING, F.SB_CMD_BUSY, F.SB_COURSE_CAUSE, F.SB_COURSE_SENT, F.SB_COURSE_SEQ, F.SB_COURSE_STATE,
    F.SB_DEMAND_COND, F.SB_DEMAND_IN_FORCE, F.SB_STATUS_BRAKE, F.SB_STATUS_HOLD_1, F.SB_STATUS_HOLD_2, F.SB_STATUS_TESTING], []⟩ d
    (collectorSelfCheck corrected mismatch d) := by
  unfold collectorSelfCheck
  dsimp -proj only
  refine Dev.keeps_ite ?_ ?_
  · refine Dev.keeps_step (by decide +kernel) (Dev.directSafe_keeps ..) ?_
    refine Dev.keeps_addTo _ _ _ _ (by decide +kernel) ?_
    exact Dev.keeps_refl _ _
  · refine Dev.keeps_addTo _ _ _ _ (by decide +kernel) ?_
    exact Dev.keeps_refl _ _

theorem errNRelease_keeps (d : Dev) : Dev.keeps ⟨[.fc], [F.FC_STATUS_ERR_PIN], []⟩ d (errNRelease d) := by
  unfold errNRelease
  dsimp -proj only
  refine Dev.keeps_ite ?_ ?_
  · refine Dev.keeps_flag _ _ _ _ (by decide +kernel) ?_
    refine Dev.keeps_fc _ (by decide +kernel) ?_
    exact Dev.keeps_refl _ _
  · exact Dev.keeps_refl _ _

theorem faultClear_keeps (x : Nat) (w : Nat) (mask : Nat) (d : Dev) : Dev.keeps ⟨[.out, .cm, .fc], [F.CM_LANE_STAT_CDR_LOCK,
    F.CM_LANE_STAT_STATE, F.CM_LANE_STAT_TX_IDLE, F.FC_LATCH_LATCH, F.FC_LOG_STAT_QUEUE, F.FC_STATUS_CLEAR_REFUSED,
    F.FC_STATUS_SAFE_STATE, F.HC_CTX_REFADDR_BAR2, F.HC_CTX_REFADDR_CAUSE, F.HC_CTX_REFADDR_OFFSET, F.HC_CTX_REFADDR_WRITE,
    F.HC_CTX_STAT_PARTIAL, F.HC_CTX_STAT_REFUSED, F.SB_DEMAND_COND, F.TB_PTP_PORT_W0_STATE], []⟩ d (faultClear x w mask d) := by
  unfold faultClear
  refine Dev.keeps_trans (Dev.hostWrite_keeps (by decide +kernel) _ _ _ _ ?_) ?_
  · intro _
    refine Dev.keeps_each _ _ ?_ ?_
    · intro _ _
      refine Dev.keeps_step (by decide +kernel) (clearOne_keeps ..) ?_
      exact Dev.keeps_refl _ _
    · exact Dev.keeps_refl _ _
  · exact Dev.keeps_refl _ _

theorem faultRaise_keeps (n : Nat) (detail : Nat) (holds : Bool) (d : Dev) : Dev.keeps ⟨[.out, .store, .grps, .cm, .fc, .sb, .host, .dma],
    [F.CM_CRS_DELIV_DELIV, F.CM_CRS_DELIV_WORST, F.CM_CRS_PT_FAILED, F.CM_CRS_STAT_FOUND, F.CM_CRS_STAT_F_WORKING,
    F.CM_CRS_STAT_H_WORKING, F.CM_CRS_STAT_IN_SERVICE, F.CM_CRS_STAT_STATE, F.CM_DIR_W0_EVQ, F.CM_DIR_W0_REASON, F.CM_DIR_W0_STATE,
    F.CM_LANE_STAT_CDR_LOCK, F.CM_LANE_STAT_STATE, F.CM_LANE_STAT_TX_IDLE, F.DM_CH_DETAIL_PTFAIL, F.FC_COND_COND, F.FC_COUNT_COUNT,
    F.FC_FIRST_SAME_TICK, F.FC_FIRST_SEQ_SEQ, F.FC_FIRST_SOURCE, F.FC_FIRST_VALID, F.FC_IRQ_PENDING, F.FC_LATCH_LATCH,
    F.FC_LOG_STAT_QUEUE, F.FC_STATUS_DIRECT, F.FC_STATUS_SAFE_STATE, F.GL_PT_ERR_W0_COUNT, F.GL_PT_ERR_W0_STATUS, F.GL_PT_ERR_W1_ADDRESS,
    F.GP_HARVEST_PB_FAIL, F.HC_IRQ_STAT_STAT, F.HC_PORT_UNCORR, F.MO_JOURNAL_FILL, F.MO_JOURNAL_PENDING, F.SB_CMD_BUSY, F.SB_COURSE_CAUSE,
    F.SB_COURSE_SENT, F.SB_COURSE_SEQ, F.SB_COURSE_STATE, F.SB_DEMAND_COND, F.SB_DEMAND_IN_FORCE, F.SB_STATUS_BRAKE, F.SB_STATUS_HOLD_1,
    F.SB_STATUS_HOLD_2, F.SB_STATUS_TESTING, F.TB_PTP_PORT_W0_STATE], []⟩ d (faultRaise n detail holds d) := by
  unfold faultRaise
  dsimp -proj only
  refine Dev.keeps_ite ?_ ?_
  · exact Dev.keeps_refl _ _
  · refine Dev.keeps_ite ?_ ?_
    · refine Dev.keeps_step (by decide +kernel) (Dev.directSafe_keeps ..) ?_
      refine Dev.keeps_ite ?_ ?_
      · refine Dev.keeps_count _ _ _ (by decide +kernel) ?_
        refine Dev.keeps_step (by decide +kernel) (Dev.modCtx_keeps ..) ?_
        refine Dev.keeps_ite ?_ ?_
        · refine Dev.keeps_set _ _ _ _ (by decide +kernel) ?_
          refine Dev.keeps_ite ?_ ?_
          · refine Dev.keeps_step (by decide +kernel) (Dev.idleCourses_keeps ..) ?_
            refine Dev.keeps_ite ?_ ?_
            · refine Dev.keeps_cm _ (by decide +kernel) ?_
              refine Dev.keeps_ite ?_ ?_
              · refine Dev.keeps_cm _ (by decide +kernel) ?_
                exact Dev.keeps_refl _ _
              · exact Dev.keeps_refl _ _
            · refine Dev.keeps_ite ?_ ?_
              · refine Dev.keeps_cm _ (by decide +kernel) ?_
                exact Dev.keeps_refl _ _
              · exact Dev.keeps_refl _ _
          · refine Dev.keeps_ite ?_ ?_
            · refine Dev.keeps_cm _ (by decide +kernel) ?_
              refine Dev.keeps_ite ?_ ?_
              · refine Dev.keeps_cm _ (by decide +kernel) ?_
                exact Dev.keeps_refl _ _
              · exact Dev.keeps_refl _ _
            · refine Dev.keeps_ite ?_ ?_
              · refine Dev.keeps_cm _ (by decide +kernel) ?_
                exact Dev.keeps_refl _ _
              · exact Dev.keeps_refl _ _
        · refine Dev.keeps_ite ?_ ?_
          · refine Dev.keeps_step (by decide +kernel) (Dev.idleCourses_keeps ..) ?_
            refine Dev.keeps_ite ?_ ?_
            · refine Dev.keeps_cm _ (by decide +kernel) ?_
              refine Dev.keeps_ite ?_ ?_
              · refine Dev.keeps_cm _ (by decide +kernel) ?_
                exact Dev.keeps_refl _ _
              · exact Dev.keeps_refl _ _
            · refine Dev.keeps_ite ?_ ?_
              · refine Dev.keeps_cm _ (by decide +kernel) ?_
                exact Dev.keeps_refl _ _
              · exact Dev.keeps_refl _ _
          · refine Dev.keeps_ite ?_ ?_
            · refine Dev.keeps_cm _ (by decide +kernel) ?_
              refine Dev.keeps_ite ?_ ?_
              · refine Dev.keeps_cm _ (by decide +kernel) ?_
                exact Dev.keeps_refl _ _
              · exact Dev.keeps_refl _ _
            · refine Dev.keeps_ite ?_ ?_
              · refine Dev.keeps_cm _ (by decide +kernel) ?_
                exact Dev.keeps_refl _ _
              · exact Dev.keeps_refl _ _
      · refine Dev.keeps_ite ?_ ?_
        · refine Dev.keeps_set _ _ _ _ (by decide +kernel) ?_
          refine Dev.keeps_ite ?_ ?_
          · refine Dev.keeps_step (by decide +kernel) (Dev.idleCourses_keeps ..) ?_
            refine Dev.keeps_ite ?_ ?_
            · refine Dev.keeps_cm _ (by decide +kernel) ?_
              refine Dev.keeps_ite ?_ ?_
              · refine Dev.keeps_cm _ (by decide +kernel) ?_
                exact Dev.keeps_refl _ _
              · exact Dev.keeps_refl _ _
            · refine Dev.keeps_ite ?_ ?_
              · refine Dev.keeps_cm _ (by decide +kernel) ?_
                exact Dev.keeps_refl _ _
              · exact Dev.keeps_refl _ _
          · refine Dev.keeps_ite ?_ ?_
            · refine Dev.keeps_cm _ (by decide +kernel) ?_
              refine Dev.keeps_ite ?_ ?_
              · refine Dev.keeps_cm _ (by decide +kernel) ?_
                exact Dev.keeps_refl _ _
              · exact Dev.keeps_refl _ _
            · refine Dev.keeps_ite ?_ ?_
              · refine Dev.keeps_cm _ (by decide +kernel) ?_
                exact Dev.keeps_refl _ _
              · exact Dev.keeps_refl _ _
        · refine Dev.keeps_ite ?_ ?_
          · refine Dev.keeps_step (by decide +kernel) (Dev.idleCourses_keeps ..) ?_
            refine Dev.keeps_ite ?_ ?_
            · refine Dev.keeps_cm _ (by decide +kernel) ?_
              refine Dev.keeps_ite ?_ ?_
              · refine Dev.keeps_cm _ (by decide +kernel) ?_
                exact Dev.keeps_refl _ _
              · exact Dev.keeps_refl _ _
            · refine Dev.keeps_ite ?_ ?_
              · refine Dev.keeps_cm _ (by decide +kernel) ?_
                exact Dev.keeps_refl _ _
              · exact Dev.keeps_refl _ _
          · refine Dev.keeps_ite ?_ ?_
            · refine Dev.keeps_cm _ (by decide +kernel) ?_
              refine Dev.keeps_ite ?_ ?_
              · refine Dev.keeps_cm _ (by decide +kernel) ?_
                exact Dev.keeps_refl _ _
              · exact Dev.keeps_refl _ _
            · refine Dev.keeps_ite ?_ ?_
              · refine Dev.keeps_cm _ (by decide +kernel) ?_
                exact Dev.keeps_refl _ _
              · exact Dev.keeps_refl _ _
    · refine Dev.keeps_ite ?_ ?_
      · refine Dev.keeps_step (by decide +kernel) (Dev.safetyInternal_keeps ..) ?_
        refine Dev.keeps_ite ?_ ?_
        · refine Dev.keeps_count _ _ _ (by decide +kernel) ?_
          refine Dev.keeps_step (by decide +kernel) (Dev.modCtx_keeps ..) ?_
          refine Dev.keeps_ite ?_ ?_
          · refine Dev.keeps_set _ _ _ _ (by decide +kernel) ?_
            refine Dev.keeps_ite ?_ ?_
            · refine Dev.keeps_step (by decide +kernel) (Dev.idleCourses_keeps ..) ?_
              refine Dev.keeps_ite ?_ ?_
              · refine Dev.keeps_cm _ (by decide +kernel) ?_
                refine Dev.keeps_ite ?_ ?_
                · refine Dev.keeps_cm _ (by decide +kernel) ?_
                  exact Dev.keeps_refl _ _
                · exact Dev.keeps_refl _ _
              · refine Dev.keeps_ite ?_ ?_
                · refine Dev.keeps_cm _ (by decide +kernel) ?_
                  exact Dev.keeps_refl _ _
                · exact Dev.keeps_refl _ _
            · refine Dev.keeps_ite ?_ ?_
              · refine Dev.keeps_cm _ (by decide +kernel) ?_
                refine Dev.keeps_ite ?_ ?_
                · refine Dev.keeps_cm _ (by decide +kernel) ?_
                  exact Dev.keeps_refl _ _
                · exact Dev.keeps_refl _ _
              · refine Dev.keeps_ite ?_ ?_
                · refine Dev.keeps_cm _ (by decide +kernel) ?_
                  exact Dev.keeps_refl _ _
                · exact Dev.keeps_refl _ _
          · refine Dev.keeps_ite ?_ ?_
            · refine Dev.keeps_step (by decide +kernel) (Dev.idleCourses_keeps ..) ?_
              refine Dev.keeps_ite ?_ ?_
              · refine Dev.keeps_cm _ (by decide +kernel) ?_
                refine Dev.keeps_ite ?_ ?_
                · refine Dev.keeps_cm _ (by decide +kernel) ?_
                  exact Dev.keeps_refl _ _
                · exact Dev.keeps_refl _ _
              · refine Dev.keeps_ite ?_ ?_
                · refine Dev.keeps_cm _ (by decide +kernel) ?_
                  exact Dev.keeps_refl _ _
                · exact Dev.keeps_refl _ _
            · refine Dev.keeps_ite ?_ ?_
              · refine Dev.keeps_cm _ (by decide +kernel) ?_
                refine Dev.keeps_ite ?_ ?_
                · refine Dev.keeps_cm _ (by decide +kernel) ?_
                  exact Dev.keeps_refl _ _
                · exact Dev.keeps_refl _ _
              · refine Dev.keeps_ite ?_ ?_
                · refine Dev.keeps_cm _ (by decide +kernel) ?_
                  exact Dev.keeps_refl _ _
                · exact Dev.keeps_refl _ _
        · refine Dev.keeps_ite ?_ ?_
          · refine Dev.keeps_set _ _ _ _ (by decide +kernel) ?_
            refine Dev.keeps_ite ?_ ?_
            · refine Dev.keeps_step (by decide +kernel) (Dev.idleCourses_keeps ..) ?_
              refine Dev.keeps_ite ?_ ?_
              · refine Dev.keeps_cm _ (by decide +kernel) ?_
                refine Dev.keeps_ite ?_ ?_
                · refine Dev.keeps_cm _ (by decide +kernel) ?_
                  exact Dev.keeps_refl _ _
                · exact Dev.keeps_refl _ _
              · refine Dev.keeps_ite ?_ ?_
                · refine Dev.keeps_cm _ (by decide +kernel) ?_
                  exact Dev.keeps_refl _ _
                · exact Dev.keeps_refl _ _
            · refine Dev.keeps_ite ?_ ?_
              · refine Dev.keeps_cm _ (by decide +kernel) ?_
                refine Dev.keeps_ite ?_ ?_
                · refine Dev.keeps_cm _ (by decide +kernel) ?_
                  exact Dev.keeps_refl _ _
                · exact Dev.keeps_refl _ _
              · refine Dev.keeps_ite ?_ ?_
                · refine Dev.keeps_cm _ (by decide +kernel) ?_
                  exact Dev.keeps_refl _ _
                · exact Dev.keeps_refl _ _
          · refine Dev.keeps_ite ?_ ?_
            · refine Dev.keeps_step (by decide +kernel) (Dev.idleCourses_keeps ..) ?_
              refine Dev.keeps_ite ?_ ?_
              · refine Dev.keeps_cm _ (by decide +kernel) ?_
                refine Dev.keeps_ite ?_ ?_
                · refine Dev.keeps_cm _ (by decide +kernel) ?_
                  exact Dev.keeps_refl _ _
                · exact Dev.keeps_refl _ _
              · refine Dev.keeps_ite ?_ ?_
                · refine Dev.keeps_cm _ (by decide +kernel) ?_
                  exact Dev.keeps_refl _ _
                · exact Dev.keeps_refl _ _
            · refine Dev.keeps_ite ?_ ?_
              · refine Dev.keeps_cm _ (by decide +kernel) ?_
                refine Dev.keeps_ite ?_ ?_
                · refine Dev.keeps_cm _ (by decide +kernel) ?_
                  exact Dev.keeps_refl _ _
                · exact Dev.keeps_refl _ _
              · refine Dev.keeps_ite ?_ ?_
                · refine Dev.keeps_cm _ (by decide +kernel) ?_
                  exact Dev.keeps_refl _ _
                · exact Dev.keeps_refl _ _
      · refine Dev.keeps_ite ?_ ?_
        · refine Dev.keeps_step (by decide +kernel) (Dev.cond_keeps ..) ?_
          refine Dev.keeps_ite ?_ ?_
          · refine Dev.keeps_count _ _ _ (by decide +kernel) ?_
            refine Dev.keeps_step (by decide +kernel) (Dev.modCtx_keeps ..) ?_
            refine Dev.keeps_ite ?_ ?_
            · refine Dev.keeps_set _ _ _ _ (by decide +kernel) ?_
              refine Dev.keeps_ite ?_ ?_
              · refine Dev.keeps_step (by decide +kernel) (Dev.idleCourses_keeps ..) ?_
                refine Dev.keeps_ite ?_ ?_
                · refine Dev.keeps_cm _ (by decide +kernel) ?_
                  refine Dev.keeps_ite ?_ ?_
                  · refine Dev.keeps_cm _ (by decide +kernel) ?_
                    exact Dev.keeps_refl _ _
                  · exact Dev.keeps_refl _ _
                · refine Dev.keeps_ite ?_ ?_
                  · refine Dev.keeps_cm _ (by decide +kernel) ?_
                    exact Dev.keeps_refl _ _
                  · exact Dev.keeps_refl _ _
              · refine Dev.keeps_ite ?_ ?_
                · refine Dev.keeps_cm _ (by decide +kernel) ?_
                  refine Dev.keeps_ite ?_ ?_
                  · refine Dev.keeps_cm _ (by decide +kernel) ?_
                    exact Dev.keeps_refl _ _
                  · exact Dev.keeps_refl _ _
                · refine Dev.keeps_ite ?_ ?_
                  · refine Dev.keeps_cm _ (by decide +kernel) ?_
                    exact Dev.keeps_refl _ _
                  · exact Dev.keeps_refl _ _
            · refine Dev.keeps_ite ?_ ?_
              · refine Dev.keeps_step (by decide +kernel) (Dev.idleCourses_keeps ..) ?_
                refine Dev.keeps_ite ?_ ?_
                · refine Dev.keeps_cm _ (by decide +kernel) ?_
                  refine Dev.keeps_ite ?_ ?_
                  · refine Dev.keeps_cm _ (by decide +kernel) ?_
                    exact Dev.keeps_refl _ _
                  · exact Dev.keeps_refl _ _
                · refine Dev.keeps_ite ?_ ?_
                  · refine Dev.keeps_cm _ (by decide +kernel) ?_
                    exact Dev.keeps_refl _ _
                  · exact Dev.keeps_refl _ _
              · refine Dev.keeps_ite ?_ ?_
                · refine Dev.keeps_cm _ (by decide +kernel) ?_
                  refine Dev.keeps_ite ?_ ?_
                  · refine Dev.keeps_cm _ (by decide +kernel) ?_
                    exact Dev.keeps_refl _ _
                  · exact Dev.keeps_refl _ _
                · refine Dev.keeps_ite ?_ ?_
                  · refine Dev.keeps_cm _ (by decide +kernel) ?_
                    exact Dev.keeps_refl _ _
                  · exact Dev.keeps_refl _ _
          · refine Dev.keeps_ite ?_ ?_
            · refine Dev.keeps_set _ _ _ _ (by decide +kernel) ?_
              refine Dev.keeps_ite ?_ ?_
              · refine Dev.keeps_step (by decide +kernel) (Dev.idleCourses_keeps ..) ?_
                refine Dev.keeps_ite ?_ ?_
                · refine Dev.keeps_cm _ (by decide +kernel) ?_
                  refine Dev.keeps_ite ?_ ?_
                  · refine Dev.keeps_cm _ (by decide +kernel) ?_
                    exact Dev.keeps_refl _ _
                  · exact Dev.keeps_refl _ _
                · refine Dev.keeps_ite ?_ ?_
                  · refine Dev.keeps_cm _ (by decide +kernel) ?_
                    exact Dev.keeps_refl _ _
                  · exact Dev.keeps_refl _ _
              · refine Dev.keeps_ite ?_ ?_
                · refine Dev.keeps_cm _ (by decide +kernel) ?_
                  refine Dev.keeps_ite ?_ ?_
                  · refine Dev.keeps_cm _ (by decide +kernel) ?_
                    exact Dev.keeps_refl _ _
                  · exact Dev.keeps_refl _ _
                · refine Dev.keeps_ite ?_ ?_
                  · refine Dev.keeps_cm _ (by decide +kernel) ?_
                    exact Dev.keeps_refl _ _
                  · exact Dev.keeps_refl _ _
            · refine Dev.keeps_ite ?_ ?_
              · refine Dev.keeps_step (by decide +kernel) (Dev.idleCourses_keeps ..) ?_
                refine Dev.keeps_ite ?_ ?_
                · refine Dev.keeps_cm _ (by decide +kernel) ?_
                  refine Dev.keeps_ite ?_ ?_
                  · refine Dev.keeps_cm _ (by decide +kernel) ?_
                    exact Dev.keeps_refl _ _
                  · exact Dev.keeps_refl _ _
                · refine Dev.keeps_ite ?_ ?_
                  · refine Dev.keeps_cm _ (by decide +kernel) ?_
                    exact Dev.keeps_refl _ _
                  · exact Dev.keeps_refl _ _
              · refine Dev.keeps_ite ?_ ?_
                · refine Dev.keeps_cm _ (by decide +kernel) ?_
                  refine Dev.keeps_ite ?_ ?_
                  · refine Dev.keeps_cm _ (by decide +kernel) ?_
                    exact Dev.keeps_refl _ _
                  · exact Dev.keeps_refl _ _
                · refine Dev.keeps_ite ?_ ?_
                  · refine Dev.keeps_cm _ (by decide +kernel) ?_
                    exact Dev.keeps_refl _ _
                  · exact Dev.keeps_refl _ _
        · refine Dev.keeps_ite ?_ ?_
          · refine Dev.keeps_step (by decide +kernel) (Dev.raise_keeps ..) ?_
            refine Dev.keeps_ite ?_ ?_
            · refine Dev.keeps_count _ _ _ (by decide +kernel) ?_
              refine Dev.keeps_step (by decide +kernel) (Dev.modCtx_keeps ..) ?_
              refine Dev.keeps_ite ?_ ?_
              · refine Dev.keeps_set _ _ _ _ (by decide +kernel) ?_
                refine Dev.keeps_ite ?_ ?_
                · refine Dev.keeps_step (by decide +kernel) (Dev.idleCourses_keeps ..) ?_
                  refine Dev.keeps_ite ?_ ?_
                  · refine Dev.keeps_cm _ (by decide +kernel) ?_
                    refine Dev.keeps_ite ?_ ?_
                    · refine Dev.keeps_cm _ (by decide +kernel) ?_
                      exact Dev.keeps_refl _ _
                    · exact Dev.keeps_refl _ _
                  · refine Dev.keeps_ite ?_ ?_
                    · refine Dev.keeps_cm _ (by decide +kernel) ?_
                      exact Dev.keeps_refl _ _
                    · exact Dev.keeps_refl _ _
                · refine Dev.keeps_ite ?_ ?_
                  · refine Dev.keeps_cm _ (by decide +kernel) ?_
                    refine Dev.keeps_ite ?_ ?_
                    · refine Dev.keeps_cm _ (by decide +kernel) ?_
                      exact Dev.keeps_refl _ _
                    · exact Dev.keeps_refl _ _
                  · refine Dev.keeps_ite ?_ ?_
                    · refine Dev.keeps_cm _ (by decide +kernel) ?_
                      exact Dev.keeps_refl _ _
                    · exact Dev.keeps_refl _ _
              · refine Dev.keeps_ite ?_ ?_
                · refine Dev.keeps_step (by decide +kernel) (Dev.idleCourses_keeps ..) ?_
                  refine Dev.keeps_ite ?_ ?_
                  · refine Dev.keeps_cm _ (by decide +kernel) ?_
                    refine Dev.keeps_ite ?_ ?_
                    · refine Dev.keeps_cm _ (by decide +kernel) ?_
                      exact Dev.keeps_refl _ _
                    · exact Dev.keeps_refl _ _
                  · refine Dev.keeps_ite ?_ ?_
                    · refine Dev.keeps_cm _ (by decide +kernel) ?_
                      exact Dev.keeps_refl _ _
                    · exact Dev.keeps_refl _ _
                · refine Dev.keeps_ite ?_ ?_
                  · refine Dev.keeps_cm _ (by decide +kernel) ?_
                    refine Dev.keeps_ite ?_ ?_
                    · refine Dev.keeps_cm _ (by decide +kernel) ?_
                      exact Dev.keeps_refl _ _
                    · exact Dev.keeps_refl _ _
                  · refine Dev.keeps_ite ?_ ?_
                    · refine Dev.keeps_cm _ (by decide +kernel) ?_
                      exact Dev.keeps_refl _ _
                    · exact Dev.keeps_refl _ _
            · refine Dev.keeps_ite ?_ ?_
              · refine Dev.keeps_set _ _ _ _ (by decide +kernel) ?_
                refine Dev.keeps_ite ?_ ?_
                · refine Dev.keeps_step (by decide +kernel) (Dev.idleCourses_keeps ..) ?_
                  refine Dev.keeps_ite ?_ ?_
                  · refine Dev.keeps_cm _ (by decide +kernel) ?_
                    refine Dev.keeps_ite ?_ ?_
                    · refine Dev.keeps_cm _ (by decide +kernel) ?_
                      exact Dev.keeps_refl _ _
                    · exact Dev.keeps_refl _ _
                  · refine Dev.keeps_ite ?_ ?_
                    · refine Dev.keeps_cm _ (by decide +kernel) ?_
                      exact Dev.keeps_refl _ _
                    · exact Dev.keeps_refl _ _
                · refine Dev.keeps_ite ?_ ?_
                  · refine Dev.keeps_cm _ (by decide +kernel) ?_
                    refine Dev.keeps_ite ?_ ?_
                    · refine Dev.keeps_cm _ (by decide +kernel) ?_
                      exact Dev.keeps_refl _ _
                    · exact Dev.keeps_refl _ _
                  · refine Dev.keeps_ite ?_ ?_
                    · refine Dev.keeps_cm _ (by decide +kernel) ?_
                      exact Dev.keeps_refl _ _
                    · exact Dev.keeps_refl _ _
              · refine Dev.keeps_ite ?_ ?_
                · refine Dev.keeps_step (by decide +kernel) (Dev.idleCourses_keeps ..) ?_
                  refine Dev.keeps_ite ?_ ?_
                  · refine Dev.keeps_cm _ (by decide +kernel) ?_
                    refine Dev.keeps_ite ?_ ?_
                    · refine Dev.keeps_cm _ (by decide +kernel) ?_
                      exact Dev.keeps_refl _ _
                    · exact Dev.keeps_refl _ _
                  · refine Dev.keeps_ite ?_ ?_
                    · refine Dev.keeps_cm _ (by decide +kernel) ?_
                      exact Dev.keeps_refl _ _
                    · exact Dev.keeps_refl _ _
                · refine Dev.keeps_ite ?_ ?_
                  · refine Dev.keeps_cm _ (by decide +kernel) ?_
                    refine Dev.keeps_ite ?_ ?_
                    · refine Dev.keeps_cm _ (by decide +kernel) ?_
                      exact Dev.keeps_refl _ _
                    · exact Dev.keeps_refl _ _
                  · refine Dev.keeps_ite ?_ ?_
                    · refine Dev.keeps_cm _ (by decide +kernel) ?_
                      exact Dev.keeps_refl _ _
                    · exact Dev.keeps_refl _ _
          · refine Dev.keeps_ite ?_ ?_
            · refine Dev.keeps_count _ _ _ (by decide +kernel) ?_
              refine Dev.keeps_step (by decide +kernel) (Dev.modCtx_keeps ..) ?_
              refine Dev.keeps_ite ?_ ?_
              · refine Dev.keeps_set _ _ _ _ (by decide +kernel) ?_
                refine Dev.keeps_ite ?_ ?_
                · refine Dev.keeps_step (by decide +kernel) (Dev.idleCourses_keeps ..) ?_
                  refine Dev.keeps_ite ?_ ?_
                  · refine Dev.keeps_cm _ (by decide +kernel) ?_
                    refine Dev.keeps_ite ?_ ?_
                    · refine Dev.keeps_cm _ (by decide +kernel) ?_
                      exact Dev.keeps_refl _ _
                    · exact Dev.keeps_refl _ _
                  · refine Dev.keeps_ite ?_ ?_
                    · refine Dev.keeps_cm _ (by decide +kernel) ?_
                      exact Dev.keeps_refl _ _
                    · exact Dev.keeps_refl _ _
                · refine Dev.keeps_ite ?_ ?_
                  · refine Dev.keeps_cm _ (by decide +kernel) ?_
                    refine Dev.keeps_ite ?_ ?_
                    · refine Dev.keeps_cm _ (by decide +kernel) ?_
                      exact Dev.keeps_refl _ _
                    · exact Dev.keeps_refl _ _
                  · refine Dev.keeps_ite ?_ ?_
                    · refine Dev.keeps_cm _ (by decide +kernel) ?_
                      exact Dev.keeps_refl _ _
                    · exact Dev.keeps_refl _ _
              · refine Dev.keeps_ite ?_ ?_
                · refine Dev.keeps_step (by decide +kernel) (Dev.idleCourses_keeps ..) ?_
                  refine Dev.keeps_ite ?_ ?_
                  · refine Dev.keeps_cm _ (by decide +kernel) ?_
                    refine Dev.keeps_ite ?_ ?_
                    · refine Dev.keeps_cm _ (by decide +kernel) ?_
                      exact Dev.keeps_refl _ _
                    · exact Dev.keeps_refl _ _
                  · refine Dev.keeps_ite ?_ ?_
                    · refine Dev.keeps_cm _ (by decide +kernel) ?_
                      exact Dev.keeps_refl _ _
                    · exact Dev.keeps_refl _ _
                · refine Dev.keeps_ite ?_ ?_
                  · refine Dev.keeps_cm _ (by decide +kernel) ?_
                    refine Dev.keeps_ite ?_ ?_
                    · refine Dev.keeps_cm _ (by decide +kernel) ?_
                      exact Dev.keeps_refl _ _
                    · exact Dev.keeps_refl _ _
                  · refine Dev.keeps_ite ?_ ?_
                    · refine Dev.keeps_cm _ (by decide +kernel) ?_
                      exact Dev.keeps_refl _ _
                    · exact Dev.keeps_refl _ _
            · refine Dev.keeps_ite ?_ ?_
              · refine Dev.keeps_set _ _ _ _ (by decide +kernel) ?_
                refine Dev.keeps_ite ?_ ?_
                · refine Dev.keeps_step (by decide +kernel) (Dev.idleCourses_keeps ..) ?_
                  refine Dev.keeps_ite ?_ ?_
                  · refine Dev.keeps_cm _ (by decide +kernel) ?_
                    refine Dev.keeps_ite ?_ ?_
                    · refine Dev.keeps_cm _ (by decide +kernel) ?_
                      exact Dev.keeps_refl _ _
                    · exact Dev.keeps_refl _ _
                  · refine Dev.keeps_ite ?_ ?_
                    · refine Dev.keeps_cm _ (by decide +kernel) ?_
                      exact Dev.keeps_refl _ _
                    · exact Dev.keeps_refl _ _
                · refine Dev.keeps_ite ?_ ?_
                  · refine Dev.keeps_cm _ (by decide +kernel) ?_
                    refine Dev.keeps_ite ?_ ?_
                    · refine Dev.keeps_cm _ (by decide +kernel) ?_
                      exact Dev.keeps_refl _ _
                    · exact Dev.keeps_refl _ _
                  · refine Dev.keeps_ite ?_ ?_
                    · refine Dev.keeps_cm _ (by decide +kernel) ?_
                      exact Dev.keeps_refl _ _
                    · exact Dev.keeps_refl _ _
              · refine Dev.keeps_ite ?_ ?_
                · refine Dev.keeps_step (by decide +kernel) (Dev.idleCourses_keeps ..) ?_
                  refine Dev.keeps_ite ?_ ?_
                  · refine Dev.keeps_cm _ (by decide +kernel) ?_
                    refine Dev.keeps_ite ?_ ?_
                    · refine Dev.keeps_cm _ (by decide +kernel) ?_
                      exact Dev.keeps_refl _ _
                    · exact Dev.keeps_refl _ _
                  · refine Dev.keeps_ite ?_ ?_
                    · refine Dev.keeps_cm _ (by decide +kernel) ?_
                      exact Dev.keeps_refl _ _
                    · exact Dev.keeps_refl _ _
                · refine Dev.keeps_ite ?_ ?_
                  · refine Dev.keeps_cm _ (by decide +kernel) ?_
                    refine Dev.keeps_ite ?_ ?_
                    · refine Dev.keeps_cm _ (by decide +kernel) ?_
                      exact Dev.keeps_refl _ _
                    · exact Dev.keeps_refl _ _
                  · refine Dev.keeps_ite ?_ ?_
                    · refine Dev.keeps_cm _ (by decide +kernel) ?_
                      exact Dev.keeps_refl _ _
                    · exact Dev.keeps_refl _ _

theorem inject_keeps (x : Nat) (target : Nat) (tile : Nat) (real : Bool) (two : Bool) (d : Dev) : Dev.keeps ⟨[.fc], [F.FC_INJ_RESULT,
    F.HC_CTX_REFADDR_BAR2, F.HC_CTX_REFADDR_CAUSE, F.HC_CTX_REFADDR_OFFSET, F.HC_CTX_REFADDR_WRITE, F.HC_CTX_STAT_PARTIAL,
    F.HC_CTX_STAT_REFUSED], []⟩ d (inject x target tile real two d) := by
  unfold inject
  dsimp -proj only
  refine Dev.keeps_trans (Dev.hostWrite_keeps (by decide +kernel) _ _ _ _ ?_) ?_
  · intro _
    refine Dev.keeps_ite ?_ ?_
    · exact Dev.keeps_refl _ _
    · refine Dev.keeps_ite ?_ ?_
      · refine Dev.keeps_set _ _ _ _ (by decide +kernel) ?_
        exact Dev.keeps_refl _ _
      · refine Dev.keeps_fc _ (by decide +kernel) ?_
        exact Dev.keeps_refl _ _
  · exact Dev.keeps_refl _ _

theorem injectionArmed_keeps (d : Dev) : Dev.keeps ⟨[.fc], [F.FC_INJ_ARMED], []⟩ d (injectionArmed d) := by
  unfold injectionArmed
  dsimp -proj only
  split
  · exact Dev.keeps_refl _ _
  · refine Dev.keeps_ite ?_ ?_
    · exact Dev.keeps_refl _ _
    · refine Dev.keeps_flag _ _ _ _ (by decide +kernel) ?_
      refine Dev.keeps_fc _ (by decide +kernel) ?_
      exact Dev.keeps_refl _ _

theorem injectionExpired_keeps (d : Dev) : Dev.keeps ⟨[.fc], [F.FC_INJ_ARMED, F.FC_INJ_RESULT], []⟩ d (injectionExpired d) := by
  unfold injectionExpired
  split
  · exact Dev.keeps_refl _ _
  · refine Dev.keeps_ite ?_ ?_
    · refine Dev.keeps_step (by decide +kernel) (Dev.endInjection_keeps ..) ?_
      exact Dev.keeps_refl _ _
    · exact Dev.keeps_refl _ _

theorem injectionFire_keeps (syndrome : Bool) (d : Dev) : Dev.keeps ⟨[.out, .store, .grps, .cm, .fc, .sb, .host], [F.FC_COND_COND,
    F.FC_COUNT_COUNT, F.FC_FIRST_SAME_TICK, F.FC_FIRST_SEQ_SEQ, F.FC_FIRST_SOURCE, F.FC_FIRST_VALID, F.FC_INJ_ARMED, F.FC_INJ_RESULT,
    F.FC_IRQ_PENDING, F.FC_LATCH_LATCH, F.FC_LOG_STAT_QUEUE, F.FC_SELF_CORR, F.FC_STATUS_DIRECT, F.FC_STATUS_SAFE_STATE,
    F.HC_IRQ_STAT_STAT, F.MO_JOURNAL_FILL, F.MO_JOURNAL_PENDING, F.SB_CMD_BUSY, F.SB_COURSE_CAUSE, F.SB_COURSE_SENT, F.SB_COURSE_SEQ,
    F.SB_COURSE_STATE, F.SB_DEMAND_COND, F.SB_DEMAND_IN_FORCE, F.SB_STATUS_BRAKE, F.SB_STATUS_HOLD_1, F.SB_STATUS_HOLD_2,
    F.SB_STATUS_TESTING], []⟩ d (injectionFire syndrome d) := by
  unfold injectionFire
  dsimp -proj only
  split
  · exact Dev.keeps_refl _ _
  · refine Dev.keeps_ite ?_ ?_
    · exact Dev.keeps_refl _ _
    · refine Dev.keeps_ite ?_ ?_
      · refine Dev.keeps_ite ?_ ?_
        · refine Dev.keeps_count _ _ _ (by decide +kernel) ?_
          refine Dev.keeps_step (by decide +kernel) (Dev.endInjection_keeps ..) ?_
          exact Dev.keeps_refl _ _
        · refine Dev.keeps_fc _ (by decide +kernel) ?_
          refine Dev.keeps_step (by decide +kernel) (Dev.endInjection_keeps ..) ?_
          exact Dev.keeps_refl _ _
      · refine Dev.keeps_ite ?_ ?_
        · refine Dev.keeps_ite ?_ ?_
          · refine Dev.keeps_step (by decide +kernel) (Dev.directSafe_keeps ..) ?_
            refine Dev.keeps_step (by decide +kernel) (Dev.endInjection_keeps ..) ?_
            exact Dev.keeps_refl _ _
          · refine Dev.keeps_fc _ (by decide +kernel) ?_
            refine Dev.keeps_step (by decide +kernel) (Dev.endInjection_keeps ..) ?_
            exact Dev.keeps_refl _ _
        · refine Dev.keeps_fc _ (by decide +kernel) ?_
          refine Dev.keeps_step (by decide +kernel) (Dev.endInjection_keeps ..) ?_
          exact Dev.keeps_refl _ _

theorem irqPendingClear_keeps (x : Nat) (y : Nat) (fault : Bool) (mask : Nat) (again : Nat) (d : Dev) : Dev.keeps ⟨[.out, .host],
    [F.FC_IRQ_PENDING, F.HC_CTX_REFADDR_BAR2, F.HC_CTX_REFADDR_CAUSE, F.HC_CTX_REFADDR_OFFSET, F.HC_CTX_REFADDR_WRITE,
    F.HC_CTX_STAT_PARTIAL, F.HC_CTX_STAT_REFUSED, F.HC_IRQ_STAT_STAT], []⟩ d (irqPendingClear x y fault mask again d) := by
  unfold irqPendingClear
  dsimp -proj only
  refine Dev.keeps_ite ?_ ?_
  · refine Dev.keeps_trans (Dev.hostWrite_keeps (by decide +kernel) _ _ _ _ ?_) ?_
    · intro _
      refine Dev.keeps_ite ?_ ?_
      · refine Dev.keeps_step (by decide +kernel) (Dev.sendMsi_keeps ..) ?_
        refine Dev.keeps_flag _ _ _ _ (by decide +kernel) ?_
        refine Dev.keeps_flag _ _ _ _ (by decide +kernel) ?_
        refine Dev.keeps_step (by decide +kernel) (Dev.modCtx_keeps ..) ?_
        exact Dev.keeps_refl _ _
      · refine Dev.keeps_flag _ _ _ _ (by decide +kernel) ?_
        refine Dev.keeps_step (by decide +kernel) (Dev.modCtx_keeps ..) ?_
        exact Dev.keeps_refl _ _
    · exact Dev.keeps_refl _ _
  · refine Dev.keeps_trans (Dev.hostWrite_keeps (by decide +kernel) _ _ _ _ ?_) ?_
    · intro _
      refine Dev.keeps_ite ?_ ?_
      · refine Dev.keeps_step (by decide +kernel) (Dev.refuse_keeps ..) ?_
        exact Dev.keeps_refl _ _
      · refine Dev.keeps_each _ _ ?_ ?_
        · intro _ _
          refine Dev.keeps_ite ?_ ?_
          · refine Dev.keeps_step (by decide +kernel) (Dev.event_keeps ..) ?_
            refine Dev.keeps_setBit _ _ _ _ _ (by decide +kernel) ?_
            refine Dev.keeps_step (by decide +kernel) (Dev.modCtx_keeps ..) ?_
            exact Dev.keeps_refl _ _
          · refine Dev.keeps_setBit _ _ _ _ _ (by decide +kernel) ?_
            refine Dev.keeps_step (by decide +kernel) (Dev.modCtx_keeps ..) ?_
            exact Dev.keeps_refl _ _
        · exact Dev.keeps_refl _ _
    · exact Dev.keeps_refl _ _

theorem logIndexWrite_keeps (x : Nat) (idx : Nat) (errs : List StoreErr) (d : Dev) : Dev.keeps ⟨[.store, .fc], [F.FC_COND_COND,
    F.FC_LOG_IDX_INDEX, F.GL_READY_STORE, F.HC_CTX_REFADDR_BAR2, F.HC_CTX_REFADDR_CAUSE, F.HC_CTX_REFADDR_OFFSET, F.HC_CTX_REFADDR_WRITE,
    F.HC_CTX_STAT_PARTIAL, F.HC_CTX_STAT_REFUSED, F.MO_STATUS_SINGLE_ERRS, F.MO_STATUS_STORE_ERR], []⟩ d (logIndexWrite x idx errs d) :=
    by
  unfold logIndexWrite
  dsimp -proj only
  refine Dev.keeps_trans (Dev.hostWrite_keeps (by decide +kernel) _ _ _ _ ?_) ?_
  · intro _
    refine Dev.keeps_ite ?_ ?_
    · exact Dev.keeps_refl _ _
    · refine Dev.keeps_fc _ (by decide +kernel) ?_
      refine Dev.keeps_set _ _ _ _ (by decide +kernel) ?_
      refine Dev.keeps_step (by decide +kernel) (Dev.readStore_keeps ..) ?_
      exact Dev.keeps_refl _ _
  · exact Dev.keeps_refl _ _

theorem logRecordCommit_keeps (d : Dev) : Dev.keeps ⟨[.out, .store, .fc, .host, .dma], [F.DM_CH_IRQ_DONE, F.DM_CH_IRQ_FULL,
    F.DM_CH_IRQ_HALF, F.DM_CH_IRQ_OVERRUN, F.DM_CH_IRQ_STOP, F.DM_CH_LOST_LOST, F.DM_CH_RING0_RING0, F.DM_CH_STAT_STATE, F.DM_FREE_FREE,
    F.FC_FIRST_SEQ_SEQ, F.FC_LOG_STAT_HEAD, F.FC_LOG_STAT_QUEUE], []⟩ d (logRecordCommit d) := by
  unfold logRecordCommit
  dsimp -proj only
  split
  · exact Dev.keeps_refl _ _
  · refine Dev.keeps_step (by decide +kernel) (Dev.sourceGrew_keeps ..) ?_
    refine Dev.keeps_ite ?_ ?_
    · refine Dev.keeps_set _ _ _ _ (by decide +kernel) ?_
      refine Dev.keeps_set _ _ _ _ (by decide +kernel) ?_
      refine Dev.keeps_set _ _ _ _ (by decide +kernel) ?_
      refine Dev.keeps_mk (.inr rfl) (.inr rfl) (.inr rfl) (.inr rfl) (.inr rfl) (.inl (by decide +kernel)) (.inr rfl) (.inr rfl) (.inr rfl) (.inr rfl) (.inr rfl) (.inr rfl) (.inr rfl) (.inl (by decide +kernel)) (.inr rfl) (.inr rfl) (.inr rfl) (.inr rfl) ?_
      exact Dev.keeps_refl _ _
    · refine Dev.keeps_set _ _ _ _ (by decide +kernel) ?_
      refine Dev.keeps_set _ _ _ _ (by decide +kernel) ?_
      refine Dev.keeps_mk (.inr rfl) (.inr rfl) (.inr rfl) (.inr rfl) (.inr rfl) (.inl (by decide +kernel)) (.inr rfl) (.inr rfl) (.inr rfl) (.inr rfl) (.inr rfl) (.inr rfl) (.inr rfl) (.inl (by decide +kernel)) (.inr rfl) (.inr rfl) (.inr rfl) (.inr rfl) ?_
      exact Dev.keeps_refl _ _

end Sys2Proof.Machine
end

