-- ==== Sys2Proof/Laws/KeepsFrames.lean ====
section
/-! SUPPORT. What the operations of Machine/Frames.lean may change at most, one lemma each. -/

namespace Sys2Proof.Machine

set_option Elab.async false

theorem Dev.emptyEntry_keeps (c : Nat) (p : Nat) (d : Dev) : Dev.keeps ⟨[.cm], [F.CM_CRS_STAT_FOUND, F.CM_CRS_STAT_IN_SERVICE,
    F.CM_DIR_W0_EVENTS, F.CM_DIR_W0_EVQ, F.CM_DIR_W0_FROM_F, F.CM_DIR_W0_FROM_H, F.CM_DIR_W0_KIND, F.CM_DIR_W0_REASON, F.CM_DIR_W0_STATE,
    F.CM_DIR_W1_UID_LO, F.CM_DIR_W2_UID_HI, F.CM_DIR_W3_LAT_F, F.CM_DIR_W3_LAT_H], []⟩ d (Dev.emptyEntry c p d) := by
  unfold Dev.emptyEntry
  dsimp -proj only
  refine Dev.keeps_step (by decide +kernel) (Dev.setEntry_keeps ..) ?_
  refine Dev.keeps_set _ _ _ _ (by decide +kernel) ?_
  refine Dev.keeps_set _ _ _ _ (by decide +kernel) ?_
  refine Dev.keeps_set _ _ _ _ (by decide +kernel) ?_
  refine Dev.keeps_set _ _ _ _ (by decide +kernel) ?_
  refine Dev.keeps_flag _ _ _ _ (by decide +kernel) ?_
  refine Dev.keeps_flag _ _ _ _ (by decide +kernel) ?_
  refine Dev.keeps_flag _ _ _ _ (by decide +kernel) ?_
  refine Dev.keeps_set _ _ _ _ (by decide +kernel) ?_
  refine Dev.keeps_set _ _ _ _ (by decide +kernel) ?_
  refine Dev.keeps_set _ _ _ _ (by decide +kernel) ?_
  refine Dev.keeps_step (by decide +kernel) (Dev.modDir_keeps ..) ?_
  exact Dev.keeps_refl _ _

theorem Dev.settleFound_keeps (c : Nat) (d : Dev) : Dev.keeps ⟨[.out, .cm, .dma], [F.CM_CRS_DELIV_DELIV, F.CM_CRS_DELIV_WORST,
    F.CM_CRS_STAT_FOUND, F.CM_CRS_STAT_IN_SERVICE, F.CM_DIR_W0_EVENTS, F.CM_DIR_W0_EVQ, F.CM_DIR_W0_FROM_F, F.CM_DIR_W0_FROM_H,
    F.CM_DIR_W0_KIND, F.CM_DIR_W0_REASON, F.CM_DIR_W0_STATE, F.CM_DIR_W1_UID_LO, F.CM_DIR_W2_UID_HI, F.CM_DIR_W3_LAT_F,
    F.CM_DIR_W3_LAT_H], []⟩ d (Dev.settleFound c d) := by
  unfold Dev.settleFound
  dsimp -proj only
  refine Dev.keeps_step (by decide +kernel) (Dev.pump_keeps ..) ?_
  refine Dev.keeps_each _ _ ?_ ?_
  · intro _ _
    refine Dev.keeps_ite ?_ ?_
    · refine Dev.keeps_step (by decide +kernel) (Dev.beginCheck_keeps ..) ?_
      exact Dev.keeps_refl _ _
    · exact Dev.keeps_refl _ _
  · refine Dev.keeps_each _ _ ?_ ?_
    · intro _ _
      refine Dev.keeps_ite ?_ ?_
      · exact Dev.keeps_refl _ _
      · refine Dev.keeps_ite ?_ ?_
        · refine Dev.keeps_step (by decide +kernel) (Dev.takeOut_keeps ..) ?_
          exact Dev.keeps_refl _ _
        · refine Dev.keeps_step (by decide +kernel) (Dev.emptyEntry_keeps ..) ?_
          exact Dev.keeps_refl _ _
    · refine Dev.keeps_step (by decide +kernel) (Dev.modCrs_keeps ..) ?_
      exact Dev.keeps_refl _ _

theorem Dev.assignNext_keeps (c : Nat) (d : Dev) : Dev.keeps ⟨[.out, .cm, .dma], [F.CM_CRS_DELIV_DELIV, F.CM_CRS_DELIV_WORST,
    F.CM_CRS_STAT_FOUND, F.CM_CRS_STAT_IN_SERVICE, F.CM_DIR_W0_EVENTS, F.CM_DIR_W0_EVQ, F.CM_DIR_W0_FROM_F, F.CM_DIR_W0_FROM_H,
    F.CM_DIR_W0_KIND, F.CM_DIR_W0_REASON, F.CM_DIR_W0_STATE, F.CM_DIR_W1_UID_LO, F.CM_DIR_W2_UID_HI, F.CM_DIR_W3_LAT_F,
    F.CM_DIR_W3_LAT_H], []⟩ d (Dev.assignNext c d) := by
  unfold Dev.assignNext
  dsimp -proj only
  split
  · refine Dev.keeps_step (by decide +kernel) (Dev.settleFound_keeps ..) ?_
    exact Dev.keeps_refl _ _
  · refine Dev.keeps_step (by decide +kernel) (Dev.send_keeps ..) ?_
    refine Dev.keeps_step (by decide +kernel) (Dev.modCrs_keeps ..) ?_
    refine Dev.keeps_step (by decide +kernel) (Dev.modDir_keeps ..) ?_
    exact Dev.keeps_refl _ _

theorem Dev.badFrame_keeps (c : Nat) (e : Nat) (k : Check) (d : Dev) : Dev.keeps ⟨[], [F.CM_FRM_ERR_CRC, F.CM_FRM_ERR_CUT,
    F.CM_FRM_ERR_TYPE], []⟩ d (Dev.badFrame c e k d) := by
  unfold Dev.badFrame
  split
  · exact Dev.keeps_refl _ _
  · refine Dev.keeps_count _ _ _ (by decide +kernel) ?_
    exact Dev.keeps_refl _ _
  · refine Dev.keeps_count _ _ _ (by decide +kernel) ?_
    exact Dev.keeps_refl _ _
  · refine Dev.keeps_count _ _ _ (by decide +kernel) ?_
    exact Dev.keeps_refl _ _

theorem Dev.dropProbes_keeps (c : Nat) (d : Dev) : Dev.keeps ⟨[.cm], [F.CM_CRS_DELIV_DELIV, F.CM_CRS_DELIV_WORST, F.CM_CRS_MEAS_ROUNDS,
    F.CM_DIR_W0_FROM_F, F.CM_DIR_W0_FROM_H, F.CM_DIR_W3_LAT_F, F.CM_DIR_W3_LAT_H], []⟩ d (Dev.dropProbes c d) := by
  unfold Dev.dropProbes
  dsimp -proj only
  refine Dev.keeps_ite ?_ ?_
  · refine Dev.keeps_step (by decide +kernel) (Dev.checksOn_keeps ..) ?_
    refine Dev.keeps_step (by decide +kernel) (Dev.finishMeasure_keeps ..) ?_
    refine Dev.keeps_step (by decide +kernel) (Dev.modCrs_keeps ..) ?_
    refine Dev.keeps_ite ?_ ?_
    · exact Dev.keeps_refl _ _
    · refine Dev.keeps_foldl _ _ ?_ ?_
      · intro _ _
        refine Dev.keeps_ite ?_ ?_
        · refine Dev.keeps_flag _ _ _ _ (by decide +kernel) ?_
          refine Dev.keeps_step (by decide +kernel) (Dev.modDir_keeps ..) ?_
          exact Dev.keeps_refl _ _
        · refine Dev.keeps_flag _ _ _ _ (by decide +kernel) ?_
          refine Dev.keeps_step (by decide +kernel) (Dev.modDir_keeps ..) ?_
          exact Dev.keeps_refl _ _
      · exact Dev.keeps_refl _ _
  · refine Dev.keeps_step (by decide +kernel) (Dev.modCrs_keeps ..) ?_
    refine Dev.keeps_ite ?_ ?_
    · exact Dev.keeps_refl _ _
    · refine Dev.keeps_foldl _ _ ?_ ?_
      · intro _ _
        refine Dev.keeps_ite ?_ ?_
        · refine Dev.keeps_flag _ _ _ _ (by decide +kernel) ?_
          refine Dev.keeps_step (by decide +kernel) (Dev.modDir_keeps ..) ?_
          exact Dev.keeps_refl _ _
        · refine Dev.keeps_flag _ _ _ _ (by decide +kernel) ?_
          refine Dev.keeps_step (by decide +kernel) (Dev.modDir_keeps ..) ?_
          exact Dev.keeps_refl _ _
      · exact Dev.keeps_refl _ _

theorem Dev.query_keeps (c : Nat) (phase : Nat) (hop : Nat) (rtt : Nat) (d : Dev) : Dev.keeps ⟨[.out, .cm], [], []⟩ d (Dev.query c phase
    hop rtt d) := by
  unfold Dev.query
  refine Dev.keeps_step (by decide +kernel) (Dev.send_keeps ..) ?_
  refine Dev.keeps_step (by decide +kernel) (Dev.modCrs_keeps ..) ?_
  exact Dev.keeps_refl _ _

theorem Dev.footQueries_keeps (c : Nat) (d : Dev) : Dev.keeps ⟨[.out, .cm, .dma], [F.CM_CRS_DELIV_DELIV, F.CM_CRS_DELIV_WORST,
    F.CM_CRS_STAT_FOUND, F.CM_CRS_STAT_IN_SERVICE, F.CM_DIR_W0_EVENTS, F.CM_DIR_W0_EVQ, F.CM_DIR_W0_FROM_F, F.CM_DIR_W0_FROM_H,
    F.CM_DIR_W0_KIND, F.CM_DIR_W0_REASON, F.CM_DIR_W0_STATE, F.CM_DIR_W1_UID_LO, F.CM_DIR_W2_UID_HI, F.CM_DIR_W3_LAT_F,
    F.CM_DIR_W3_LAT_H], []⟩ d (Dev.footQueries c d) := by
  unfold Dev.footQueries
  refine Dev.keeps_ite ?_ ?_
  · refine Dev.keeps_step (by decide +kernel) (Dev.query_keeps ..) ?_
    exact Dev.keeps_refl _ _
  · refine Dev.keeps_step (by decide +kernel) (Dev.assignNext_keeps ..) ?_
    exact Dev.keeps_refl _ _

theorem Dev.leaveTile_keeps (c : Nat) (p : Nat) (d : Dev) : Dev.keeps ⟨[.cm], [], []⟩ d (Dev.leaveTile c p d) := by
  unfold Dev.leaveTile
  split
  · refine Dev.keeps_step (by decide +kernel) (Dev.orderOp_keeps ..) ?_
    exact Dev.keeps_refl _ _
  · exact Dev.keeps_refl _ _

theorem Dev.foundAt_keeps (c : Nat) (p : Nat) (e : Nat) (num : Nat) (kind : Nat) (uid : Nat) (rtt : Nat) (d : Dev) : Dev.keeps ⟨[.cm],
    [F.CM_CRS_STAT_FOUND, F.CM_CRS_STAT_IN_SERVICE, F.CM_DIR_W0_EVENTS, F.CM_DIR_W0_EVQ, F.CM_DIR_W0_FROM_F, F.CM_DIR_W0_FROM_H,
    F.CM_DIR_W0_KIND, F.CM_DIR_W0_REASON, F.CM_DIR_W0_STATE, F.CM_DIR_W1_UID_LO, F.CM_DIR_W2_UID_HI, F.CM_DIR_W3_LAT_F,
    F.CM_DIR_W3_LAT_H], []⟩ d (Dev.foundAt c p e num kind uid rtt d) := by
  unfold Dev.foundAt
  dsimp -proj only
  refine Dev.keeps_ite ?_ ?_
  · refine Dev.keeps_ite ?_ ?_
    · refine Dev.keeps_flag _ _ _ _ (by decide +kernel) ?_
      refine Dev.keeps_step (by decide +kernel) (Dev.modDir_keeps ..) ?_
      exact Dev.keeps_refl _ _
    · refine Dev.keeps_flag _ _ _ _ (by decide +kernel) ?_
      refine Dev.keeps_step (by decide +kernel) (Dev.modDir_keeps ..) ?_
      exact Dev.keeps_refl _ _
  · refine Dev.keeps_ite ?_ ?_
    · refine Dev.keeps_flag _ _ _ _ (by decide +kernel) ?_
      refine Dev.keeps_step (by decide +kernel) (Dev.modDir_keeps ..) ?_
      refine Dev.keeps_step (by decide +kernel) (Dev.setEntry_keeps ..) ?_
      refine Dev.keeps_set _ _ _ _ (by decide +kernel) ?_
      refine Dev.keeps_set _ _ _ _ (by decide +kernel) ?_
      refine Dev.keeps_set _ _ _ _ (by decide +kernel) ?_
      refine Dev.keeps_set _ _ _ _ (by decide +kernel) ?_
      refine Dev.keeps_step (by decide +kernel) (Dev.modDir_keeps ..) ?_
      refine Dev.keeps_ite ?_ ?_
      · refine Dev.keeps_step (by decide +kernel) (Dev.modDir_keeps ..) ?_
        refine Dev.keeps_ite ?_ ?_
        · refine Dev.keeps_ite ?_ ?_
          · refine Dev.keeps_step (by decide +kernel) (Dev.leaveTile_keeps ..) ?_
            exact Dev.keeps_refl _ _
          · exact Dev.keeps_refl _ _
        · refine Dev.keeps_step (by decide +kernel) (Dev.emptyEntry_keeps ..) ?_
          refine Dev.keeps_ite ?_ ?_
          · refine Dev.keeps_step (by decide +kernel) (Dev.leaveTile_keeps ..) ?_
            exact Dev.keeps_refl _ _
          · exact Dev.keeps_refl _ _
      · refine Dev.keeps_step (by decide +kernel) (Dev.modDir_keeps ..) ?_
        refine Dev.keeps_step (by decide +kernel) (Dev.modDir_keeps ..) ?_
        refine Dev.keeps_ite ?_ ?_
        · refine Dev.keeps_ite ?_ ?_
          · refine Dev.keeps_step (by decide +kernel) (Dev.leaveTile_keeps ..) ?_
            exact Dev.keeps_refl _ _
          · exact Dev.keeps_refl _ _
        · refine Dev.keeps_step (by decide +kernel) (Dev.emptyEntry_keeps ..) ?_
          refine Dev.keeps_ite ?_ ?_
          · refine Dev.keeps_step (by decide +kernel) (Dev.leaveTile_keeps ..) ?_
            exact Dev.keeps_refl _ _
          · exact Dev.keeps_refl _ _
    · refine Dev.keeps_flag _ _ _ _ (by decide +kernel) ?_
      refine Dev.keeps_step (by decide +kernel) (Dev.modDir_keeps ..) ?_
      refine Dev.keeps_step (by decide +kernel) (Dev.setEntry_keeps ..) ?_
      refine Dev.keeps_set _ _ _ _ (by decide +kernel) ?_
      refine Dev.keeps_set _ _ _ _ (by decide +kernel) ?_
      refine Dev.keeps_set _ _ _ _ (by decide +kernel) ?_
      refine Dev.keeps_set _ _ _ _ (by decide +kernel) ?_
      refine Dev.keeps_step (by decide +kernel) (Dev.modDir_keeps ..) ?_
      refine Dev.keeps_ite ?_ ?_
      · refine Dev.keeps_step (by decide +kernel) (Dev.modDir_keeps ..) ?_
        refine Dev.keeps_ite ?_ ?_
        · refine Dev.keeps_ite ?_ ?_
          · refine Dev.keeps_step (by decide +kernel) (Dev.leaveTile_keeps ..) ?_
            exact Dev.keeps_refl _ _
          · exact Dev.keeps_refl _ _
        · refine Dev.keeps_step (by decide +kernel) (Dev.emptyEntry_keeps ..) ?_
          refine Dev.keeps_ite ?_ ?_
          · refine Dev.keeps_step (by decide +kernel) (Dev.leaveTile_keeps ..) ?_
            exact Dev.keeps_refl _ _
          · exact Dev.keeps_refl _ _
      · refine Dev.keeps_step (by decide +kernel) (Dev.modDir_keeps ..) ?_
        refine Dev.keeps_step (by decide +kernel) (Dev.modDir_keeps ..) ?_
        refine Dev.keeps_ite ?_ ?_
        · refine Dev.keeps_ite ?_ ?_
          · refine Dev.keeps_step (by decide +kernel) (Dev.leaveTile_keeps ..) ?_
            exact Dev.keeps_refl _ _
          · exact Dev.keeps_refl _ _
        · refine Dev.keeps_step (by decide +kernel) (Dev.emptyEntry_keeps ..) ?_
          refine Dev.keeps_ite ?_ ?_
          · refine Dev.keeps_step (by decide +kernel) (Dev.leaveTile_keeps ..) ?_
            exact Dev.keeps_refl _ _
          · exact Dev.keeps_refl _ _

theorem Dev.markEvent_keeps (b : Nat) (d : Dev) : Dev.keeps ⟨[.out, .cm, .dma], [F.CM_DIR_W0_EVQ], []⟩ d (Dev.markEvent b d) := by
  unfold Dev.markEvent
  dsimp -proj only
  refine Dev.keeps_ite ?_ ?_
  · exact Dev.keeps_refl _ _
  · refine Dev.keeps_step (by decide +kernel) (Dev.pump_keeps ..) ?_
    refine Dev.keeps_step (by decide +kernel) (Dev.ask_keeps ..) ?_
    refine Dev.keeps_step (by decide +kernel) (Dev.modDir_keeps ..) ?_
    refine Dev.keeps_flag _ _ _ _ (by decide +kernel) ?_
    exact Dev.keeps_refl _ _

theorem Dev.onFrame_keeps {S : Scope} (hS : Scope.le ⟨[], [F.CM_FRM_ERR_CRC, F.CM_FRM_ERR_CUT, F.CM_FRM_ERR_TYPE], []⟩ S = true) (c : Nat)
    (e : Nat) (typ : Nat) (fr : RxFrame) (f : List (BitVec 8) → Dev → Dev) (d : Dev) (hf : ∀ (x0 : List (BitVec 8)) (x1 : Dev), Dev.keeps
    S x1 (f x0 x1)) : Dev.keeps S d (Dev.onFrame c e typ fr f d) := by
  unfold Dev.onFrame
  refine Dev.keeps_ite ?_ ?_
  · exact Dev.keeps_refl _ _
  · split
    · refine Dev.keeps_ite ?_ ?_
      · refine Dev.keeps_trans (hf _ _) ?_
        exact Dev.keeps_refl _ _
      · exact Dev.keeps_refl _ _
    · refine Dev.keeps_step (Scope.le_trans (by decide +kernel) hS) (Dev.badFrame_keeps ..) ?_
      exact Dev.keeps_refl _ _

theorem Dev.queryReply_keeps (c : Nat) (e : Nat) (num : Nat) (kind : Nat) (uid : Nat) (q : Disc) (d : Dev) : Dev.keeps ⟨[.out, .cm, .dma],
    [F.CM_CRS_DELIV_DELIV, F.CM_CRS_DELIV_WORST, F.CM_CRS_STAT_FOUND, F.CM_CRS_STAT_IN_SERVICE, F.CM_DIR_W0_EVENTS, F.CM_DIR_W0_EVQ,
    F.CM_DIR_W0_FROM_F, F.CM_DIR_W0_FROM_H, F.CM_DIR_W0_KIND, F.CM_DIR_W0_REASON, F.CM_DIR_W0_STATE, F.CM_DIR_W1_UID_LO,
    F.CM_DIR_W2_UID_HI, F.CM_DIR_W3_LAT_F, F.CM_DIR_W3_LAT_H], []⟩ d (Dev.queryReply c e num kind uid q d) := by
  unfold Dev.queryReply
  dsimp -proj only
  refine Dev.keeps_ite ?_ ?_
  · refine Dev.keeps_ite ?_ ?_
    · refine Dev.keeps_step (by decide +kernel) (Dev.query_keeps ..) ?_
      refine Dev.keeps_step (by decide +kernel) (Dev.foundAt_keeps ..) ?_
      exact Dev.keeps_refl _ _
    · refine Dev.keeps_step (by decide +kernel) (Dev.footQueries_keeps ..) ?_
      refine Dev.keeps_step (by decide +kernel) (Dev.foundAt_keeps ..) ?_
      exact Dev.keeps_refl _ _
  · refine Dev.keeps_ite ?_ ?_
    · split
      · refine Dev.keeps_ite ?_ ?_
        · refine Dev.keeps_step (by decide +kernel) (Dev.assignNext_keeps ..) ?_
          refine Dev.keeps_step (by decide +kernel) (Dev.modDir_keeps ..) ?_
          refine Dev.keeps_flag _ _ _ _ (by decide +kernel) ?_
          exact Dev.keeps_refl _ _
        · refine Dev.keeps_step (by decide +kernel) (Dev.query_keeps ..) ?_
          exact Dev.keeps_refl _ _
      · refine Dev.keeps_ite ?_ ?_
        · refine Dev.keeps_step (by decide +kernel) (Dev.query_keeps ..) ?_
          refine Dev.keeps_step (by decide +kernel) (Dev.foundAt_keeps ..) ?_
          exact Dev.keeps_refl _ _
        · refine Dev.keeps_step (by decide +kernel) (Dev.assignNext_keeps ..) ?_
          refine Dev.keeps_step (by decide +kernel) (Dev.foundAt_keeps ..) ?_
          exact Dev.keeps_refl _ _
    · refine Dev.keeps_ite ?_ ?_
      · refine Dev.keeps_step (by decide +kernel) (Dev.query_keeps ..) ?_
        refine Dev.keeps_step (by decide +kernel) (Dev.foundAt_keeps ..) ?_
        exact Dev.keeps_refl _ _
      · refine Dev.keeps_ite ?_ ?_
        · refine Dev.keeps_step (by decide +kernel) (Dev.assignNext_keeps ..) ?_
          refine Dev.keeps_flag _ _ _ _ (by decide +kernel) ?_
          exact Dev.keeps_refl _ _
        · refine Dev.keeps_step (by decide +kernel) (Dev.assignNext_keeps ..) ?_
          refine Dev.keeps_step (by decide +kernel) (Dev.setEntry_keeps ..) ?_
          refine Dev.keeps_set _ _ _ _ (by decide +kernel) ?_
          refine Dev.keeps_step (by decide +kernel) (Dev.modDir_keeps ..) ?_
          exact Dev.keeps_refl _ _

theorem Dev.tookEvents_keeps (b : Nat) (v : Nat) (d : Dev) : Dev.keeps ⟨[.fc], [F.CM_DIR_W0_EVENTS, F.CM_DIR_W0_EVQ], []⟩ d
    (Dev.tookEvents b v d) := by
  unfold Dev.tookEvents
  dsimp -proj only
  refine Dev.keeps_ite ?_ ?_
  · refine Dev.keeps_step (by decide +kernel) (Dev.raise_keeps ..) ?_
    refine Dev.keeps_flag _ _ _ _ (by decide +kernel) ?_
    refine Dev.keeps_set _ _ _ _ (by decide +kernel) ?_
    exact Dev.keeps_refl _ _
  · refine Dev.keeps_flag _ _ _ _ (by decide +kernel) ?_
    refine Dev.keeps_set _ _ _ _ (by decide +kernel) ?_
    exact Dev.keeps_refl _ _

theorem Dev.replied_keeps (q : PtReq) (v : Nat) (d : Dev) : Dev.keeps ⟨[.out, .cm, .fc, .sb], [F.CM_DIR_W0_EVENTS, F.CM_DIR_W0_EVQ,
    F.SB_COURSE_SENT], []⟩ d (Dev.replied q v d) := by
  unfold Dev.replied
  dsimp -proj only
  refine Dev.keeps_ite ?_ ?_
  · refine Dev.keeps_ite ?_ ?_
    · refine Dev.keeps_step (by decide +kernel) (Dev.foundSeq_keeps ..) ?_
      refine Dev.keeps_step (by decide +kernel) (Dev.holdsLat_keeps ..) ?_
      refine Dev.keeps_step (by decide +kernel) (Dev.modDir_keeps ..) ?_
      exact Dev.keeps_refl _ _
    · refine Dev.keeps_step (by decide +kernel) (Dev.holdsLat_keeps ..) ?_
      refine Dev.keeps_step (by decide +kernel) (Dev.modDir_keeps ..) ?_
      exact Dev.keeps_refl _ _
  · refine Dev.keeps_ite ?_ ?_
    · refine Dev.keeps_step (by decide +kernel) (Dev.holdsLat_keeps ..) ?_
      exact Dev.keeps_refl _ _
    · refine Dev.keeps_ite ?_ ?_
      · refine Dev.keeps_step (by decide +kernel) (Dev.tookEvents_keeps ..) ?_
        exact Dev.keeps_refl _ _
      · refine Dev.keeps_ite ?_ ?_
        · refine Dev.keeps_step (by decide +kernel) (Dev.modDir_keeps ..) ?_
          exact Dev.keeps_refl _ _
        · refine Dev.keeps_ite ?_ ?_
          · refine Dev.keeps_ite ?_ ?_
            · refine Dev.keeps_step (by decide +kernel) (Dev.modDir_keeps ..) ?_
              refine Dev.keeps_ite ?_ ?_
              · refine Dev.keeps_step (by decide +kernel) (Dev.modDir_keeps ..) ?_
                exact Dev.keeps_refl _ _
              · exact Dev.keeps_refl _ _
            · refine Dev.keeps_ite ?_ ?_
              · refine Dev.keeps_step (by decide +kernel) (Dev.modDir_keeps ..) ?_
                exact Dev.keeps_refl _ _
              · exact Dev.keeps_refl _ _
          · exact Dev.keeps_refl _ _

theorem Dev.storeCopy_keeps (c : Nat) (e : Nat) (b : Nat) (g : Nat) (safe : Bool) (r : RepCopy) (d : Dev) : Dev.keeps ⟨[.cm],
    [F.CM_FRM_REP_AFTER_DR, F.CM_FRM_REP_LAST, F.PL_RANK_FAULTS_DUPLICATE], []⟩ d (Dev.storeCopy c e b g safe r d) := by
  unfold Dev.storeCopy
  dsimp -proj only
  refine Dev.keeps_ite ?_ ?_
  · refine Dev.keeps_count _ _ _ (by decide +kernel) ?_
    refine Dev.keeps_set _ _ _ _ (by decide +kernel) ?_
    exact Dev.keeps_refl _ _
  · refine Dev.keeps_ite ?_ ?_
    · refine Dev.keeps_count _ _ _ (by decide +kernel) ?_
      refine Dev.keeps_set _ _ _ _ (by decide +kernel) ?_
      exact Dev.keeps_refl _ _
    · refine Dev.keeps_cm _ (by decide +kernel) ?_
      refine Dev.keeps_set _ _ _ _ (by decide +kernel) ?_
      exact Dev.keeps_refl _ _

theorem discoverReplyReceived_keeps (c : Nat) (e : Nat) (fr : RxFrame) (d : Dev) : Dev.keeps ⟨[.out, .cm, .dma], [F.CM_CRS_DELIV_DELIV,
    F.CM_CRS_DELIV_WORST, F.CM_CRS_STAT_FOUND, F.CM_CRS_STAT_IN_SERVICE, F.CM_DIR_W0_EVENTS, F.CM_DIR_W0_EVQ, F.CM_DIR_W0_FROM_F,
    F.CM_DIR_W0_FROM_H, F.CM_DIR_W0_KIND, F.CM_DIR_W0_REASON, F.CM_DIR_W0_STATE, F.CM_DIR_W1_UID_LO, F.CM_DIR_W2_UID_HI,
    F.CM_DIR_W3_LAT_F, F.CM_DIR_W3_LAT_H, F.CM_FRM_ERR_CRC, F.CM_FRM_ERR_CUT, F.CM_FRM_ERR_TYPE], []⟩ d (discoverReplyReceived c e fr d)
    := by
  unfold discoverReplyReceived
  dsimp -proj only
  refine Dev.keeps_trans (Dev.onFrame_keeps (by decide +kernel) _ _ _ _ _ _ ?_) ?_
  · intro _ _
    split
    · exact Dev.keeps_refl _ _
    · refine Dev.keeps_ite ?_ ?_
      · refine Dev.keeps_step (by decide +kernel) (Dev.queryReply_keeps ..) ?_
        exact Dev.keeps_refl _ _
      · refine Dev.keeps_ite ?_ ?_
        · refine Dev.keeps_step (by decide +kernel) (Dev.assignNext_keeps ..) ?_
          refine Dev.keeps_step (by decide +kernel) (Dev.modDir_keeps ..) ?_
          exact Dev.keeps_refl _ _
        · exact Dev.keeps_refl _ _
  · exact Dev.keeps_refl _ _

theorem discoverTimeout_keeps (c : Nat) (d : Dev) : Dev.keeps ⟨[.out, .cm, .dma], [F.CM_CRS_DELIV_DELIV, F.CM_CRS_DELIV_WORST,
    F.CM_CRS_STAT_FOUND, F.CM_CRS_STAT_IN_SERVICE, F.CM_DIR_W0_EVENTS, F.CM_DIR_W0_EVQ, F.CM_DIR_W0_FROM_F, F.CM_DIR_W0_FROM_H,
    F.CM_DIR_W0_KIND, F.CM_DIR_W0_REASON, F.CM_DIR_W0_STATE, F.CM_DIR_W1_UID_LO, F.CM_DIR_W2_UID_HI, F.CM_DIR_W3_LAT_F,
    F.CM_DIR_W3_LAT_H], []⟩ d (discoverTimeout c d) := by
  unfold discoverTimeout
  split
  · exact Dev.keeps_refl _ _
  · refine Dev.keeps_ite ?_ ?_
    · exact Dev.keeps_refl _ _
    · refine Dev.keeps_ite ?_ ?_
      · refine Dev.keeps_step (by decide +kernel) (Dev.footQueries_keeps ..) ?_
        exact Dev.keeps_refl _ _
      · refine Dev.keeps_step (by decide +kernel) (Dev.assignNext_keeps ..) ?_
        exact Dev.keeps_refl _ _

theorem ownFrameReturn_keeps (c : Nat) (e : Nat) (fr : RxFrame) (d : Dev) : Dev.keeps ⟨[.out, .cm, .fc, .host, .dma],
    [F.CM_CRS_DELIV_DELIV, F.CM_CRS_DELIV_WORST, F.CM_CRS_PT_FAILED, F.CM_CRS_STAT_FOUND, F.CM_CRS_STAT_F_WORKING,
    F.CM_CRS_STAT_H_WORKING, F.CM_CRS_STAT_IN_SERVICE, F.CM_CRS_STAT_STATE, F.CM_DIR_W0_EVQ, F.CM_DIR_W0_REASON, F.CM_DIR_W0_STATE,
    F.CM_FRM_ERR_CRC, F.CM_FRM_ERR_CUT, F.CM_FRM_ERR_OWN_BAD, F.CM_FRM_ERR_TYPE, F.DM_CH_DETAIL_PTFAIL, F.GL_PT_ERR_W0_COUNT,
    F.GL_PT_ERR_W0_STATUS, F.GL_PT_ERR_W1_ADDRESS, F.GP_HARVEST_PB_FAIL, F.HC_IRQ_STAT_STAT], []⟩ d (ownFrameReturn c e fr d) := by
  unfold ownFrameReturn
  dsimp -proj only
  refine Dev.keeps_ite ?_ ?_
  · exact Dev.keeps_refl _ _
  · refine Dev.keeps_ite ?_ ?_
    · refine Dev.keeps_ite ?_ ?_
      · refine Dev.keeps_step (by decide +kernel) (Dev.modCrs_keeps ..) ?_
        refine Dev.keeps_step (by decide +kernel) (Dev.refreshCourse_keeps ..) ?_
        refine Dev.keeps_step (by decide +kernel) (Dev.modLane_keeps ..) ?_
        exact Dev.keeps_refl _ _
      · refine Dev.keeps_step (by decide +kernel) (Dev.refreshCourse_keeps ..) ?_
        refine Dev.keeps_step (by decide +kernel) (Dev.modLane_keeps ..) ?_
        exact Dev.keeps_refl _ _
    · refine Dev.keeps_ite ?_ ?_
      · refine Dev.keeps_count _ _ _ (by decide +kernel) ?_
        exact Dev.keeps_refl _ _
      · refine Dev.keeps_ite ?_ ?_
        · refine Dev.keeps_step (by decide +kernel) (Dev.badFrame_keeps ..) ?_
          exact Dev.keeps_refl _ _
        · refine Dev.keeps_count _ _ _ (by decide +kernel) ?_
          refine Dev.keeps_step (by decide +kernel) (Dev.badFrame_keeps ..) ?_
          exact Dev.keeps_refl _ _

theorem pointReplyReceived_keeps (c : Nat) (e : Nat) (fr : RxFrame) (d : Dev) : Dev.keeps ⟨[.out, .cm, .fc, .sb, .host, .dma],
    [F.CM_CRS_PT_DONE, F.CM_CRS_PT_FAILED, F.CM_DIR_W0_EVENTS, F.CM_DIR_W0_EVQ, F.CM_FRM_ERR_CRC, F.CM_FRM_ERR_CUT, F.CM_FRM_ERR_TYPE,
    F.DM_CH_DETAIL_PTFAIL, F.GL_PT_ERR_W0_COUNT, F.GL_PT_ERR_W0_STATUS, F.GL_PT_ERR_W1_ADDRESS, F.GP_HARVEST_PB_FAIL, F.HC_IRQ_STAT_STAT,
    F.SB_COURSE_SENT], []⟩ d (pointReplyReceived c e fr d) := by
  unfold pointReplyReceived
  dsimp -proj only
  refine Dev.keeps_trans (Dev.onFrame_keeps (by decide +kernel) _ _ _ _ _ _ ?_) ?_
  · intro _ _
    split
    · exact Dev.keeps_refl _ _
    · refine Dev.keeps_step (by decide +kernel) (Dev.pump_keeps ..) ?_
      refine Dev.keeps_step (by decide +kernel) (Dev.checkOn_keeps ..) ?_
      refine Dev.keeps_ite ?_ ?_
      · refine Dev.keeps_ite ?_ ?_
        · refine Dev.keeps_step (by decide +kernel) (Dev.readValue_keeps ..) ?_
          refine Dev.keeps_step (by decide +kernel) (Dev.replied_keeps ..) ?_
          refine Dev.keeps_step (by decide +kernel) (Dev.dropReq_keeps ..) ?_
          refine Dev.keeps_count _ _ _ (by decide +kernel) ?_
          exact Dev.keeps_refl _ _
        · refine Dev.keeps_step (by decide +kernel) (Dev.replied_keeps ..) ?_
          refine Dev.keeps_step (by decide +kernel) (Dev.dropReq_keeps ..) ?_
          refine Dev.keeps_count _ _ _ (by decide +kernel) ?_
          exact Dev.keeps_refl _ _
      · refine Dev.keeps_ite ?_ ?_
        · refine Dev.keeps_cm _ (by decide +kernel) ?_
          exact Dev.keeps_refl _ _
        · refine Dev.keeps_ite ?_ ?_
          · refine Dev.keeps_ite ?_ ?_
            · refine Dev.keeps_step (by decide +kernel) (Dev.dropReq_keeps ..) ?_
              exact Dev.keeps_refl _ _
            · refine Dev.keeps_step (by decide +kernel) (Dev.holdsLat_keeps ..) ?_
              refine Dev.keeps_step (by decide +kernel) (Dev.replied_keeps ..) ?_
              refine Dev.keeps_step (by decide +kernel) (Dev.dropReq_keeps ..) ?_
              exact Dev.keeps_refl _ _
          · refine Dev.keeps_step (by decide +kernel) (Dev.endReq_keeps ..) ?_
            exact Dev.keeps_refl _ _
  · exact Dev.keeps_refl _ _

theorem probeReplyReceived_keeps (c : Nat) (e : Nat) (fr : RxFrame) (stamp : Nat) (d : Dev) : Dev.keeps ⟨[.out, .cm, .dma],
    [F.CM_CRS_DELIV_DELIV, F.CM_CRS_DELIV_WORST, F.CM_CRS_MEAS_ROUNDS, F.CM_DIR_W0_FROM_F, F.CM_DIR_W0_FROM_H, F.CM_DIR_W3_LAT_F,
    F.CM_DIR_W3_LAT_H, F.CM_FRM_ERR_CRC, F.CM_FRM_ERR_CUT, F.CM_FRM_ERR_TYPE], []⟩ d (probeReplyReceived c e fr stamp d) := by
  unfold probeReplyReceived
  dsimp -proj only
  refine Dev.keeps_trans (Dev.onFrame_keeps (by decide +kernel) _ _ _ _ _ _ ?_) ?_
  · intro _ _
    split
    · exact Dev.keeps_refl _ _
    · refine Dev.keeps_step (by decide +kernel) (Dev.pump_keeps ..) ?_
      refine Dev.keeps_ite ?_ ?_
      · refine Dev.keeps_step (by decide +kernel) (Dev.checksOn_keeps ..) ?_
        refine Dev.keeps_step (by decide +kernel) (Dev.finishMeasure_keeps ..) ?_
        refine Dev.keeps_step (by decide +kernel) (Dev.modCrs_keeps ..) ?_
        refine Dev.keeps_ite ?_ ?_
        · refine Dev.keeps_flag _ _ _ _ (by decide +kernel) ?_
          refine Dev.keeps_step (by decide +kernel) (Dev.modDir_keeps ..) ?_
          exact Dev.keeps_refl _ _
        · refine Dev.keeps_flag _ _ _ _ (by decide +kernel) ?_
          refine Dev.keeps_step (by decide +kernel) (Dev.modDir_keeps ..) ?_
          exact Dev.keeps_refl _ _
      · refine Dev.keeps_step (by decide +kernel) (Dev.modCrs_keeps ..) ?_
        refine Dev.keeps_ite ?_ ?_
        · refine Dev.keeps_flag _ _ _ _ (by decide +kernel) ?_
          refine Dev.keeps_step (by decide +kernel) (Dev.modDir_keeps ..) ?_
          exact Dev.keeps_refl _ _
        · refine Dev.keeps_flag _ _ _ _ (by decide +kernel) ?_
          refine Dev.keeps_step (by decide +kernel) (Dev.modDir_keeps ..) ?_
          exact Dev.keeps_refl _ _
  · exact Dev.keeps_refl _ _

theorem reportReceived_keeps (c : Nat) (e : Nat) (fr : RxFrame) (d : Dev) : Dev.keeps ⟨[.out, .cm, .fc, .host, .dma], [F.CM_DIR_W0_EVQ,
    F.CM_FRM_ERR_CRC, F.CM_FRM_ERR_CUT, F.CM_FRM_ERR_TYPE, F.CM_FRM_REP_AFTER_DR, F.CM_FRM_REP_LAST, F.HC_IRQ_STAT_STAT,
    F.PL_RANK_FAULTS_DUPLICATE, F.SB_COURSE_CAUSE, F.SB_COURSE_STATE], []⟩ d (reportReceived c e fr d) := by
  unfold reportReceived
  dsimp -proj only
  refine Dev.keeps_trans (Dev.onFrame_keeps (by decide +kernel) _ _ _ _ _ _ ?_) ?_
  · intro _ _
    refine Dev.keeps_ite ?_ ?_
    · exact Dev.keeps_refl _ _
    · split
      · refine Dev.keeps_ite ?_ ?_
        · refine Dev.keeps_step (by decide +kernel) (Dev.safeReported_keeps ..) ?_
          refine Dev.keeps_ite ?_ ?_
          · refine Dev.keeps_step (by decide +kernel) (Dev.markEvent_keeps ..) ?_
            exact Dev.keeps_refl _ _
          · exact Dev.keeps_refl _ _
        · refine Dev.keeps_ite ?_ ?_
          · refine Dev.keeps_step (by decide +kernel) (Dev.markEvent_keeps ..) ?_
            exact Dev.keeps_refl _ _
          · exact Dev.keeps_refl _ _
      · refine Dev.keeps_ite ?_ ?_
        · refine Dev.keeps_ite ?_ ?_
          · refine Dev.keeps_step (by decide +kernel) (Dev.safeReported_keeps ..) ?_
            refine Dev.keeps_ite ?_ ?_
            · refine Dev.keeps_step (by decide +kernel) (Dev.markEvent_keeps ..) ?_
              exact Dev.keeps_refl _ _
            · exact Dev.keeps_refl _ _
          · refine Dev.keeps_ite ?_ ?_
            · refine Dev.keeps_step (by decide +kernel) (Dev.markEvent_keeps ..) ?_
              exact Dev.keeps_refl _ _
            · exact Dev.keeps_refl _ _
        · refine Dev.keeps_step (by decide +kernel) (Dev.storeCopy_keeps ..) ?_
          refine Dev.keeps_ite ?_ ?_
          · refine Dev.keeps_step (by decide +kernel) (Dev.safeReported_keeps ..) ?_
            refine Dev.keeps_ite ?_ ?_
            · refine Dev.keeps_step (by decide +kernel) (Dev.markEvent_keeps ..) ?_
              exact Dev.keeps_refl _ _
            · exact Dev.keeps_refl _ _
          · refine Dev.keeps_ite ?_ ?_
            · refine Dev.keeps_step (by decide +kernel) (Dev.markEvent_keeps ..) ?_
              exact Dev.keeps_refl _ _
            · exact Dev.keeps_refl _ _
  · exact Dev.keeps_refl _ _

theorem timeMarkReceived_keeps (c : Nat) (e : Nat) (fr : RxFrame) (stamp : Nat) (d : Dev) : Dev.keeps ⟨[.out, .cm, .fc, .host, .dma],
    [F.CM_CRS_DELIV_DELIV, F.CM_CRS_DELIV_WORST, F.CM_CRS_PT_FAILED, F.CM_CRS_STAT_FOUND, F.CM_CRS_STAT_F_WORKING,
    F.CM_CRS_STAT_H_WORKING, F.CM_CRS_STAT_IN_SERVICE, F.CM_CRS_STAT_STATE, F.CM_DIR_W0_EVQ, F.CM_DIR_W0_REASON, F.CM_DIR_W0_STATE,
    F.CM_FRM_RING_TRANSIT, F.DM_CH_DETAIL_PTFAIL, F.GL_PT_ERR_W0_COUNT, F.GL_PT_ERR_W0_STATUS, F.GL_PT_ERR_W1_ADDRESS,
    F.GP_HARVEST_PB_FAIL, F.HC_IRQ_STAT_STAT], []⟩ d (timeMarkReceived c e fr stamp d) := by
  unfold timeMarkReceived
  dsimp -proj only
  refine Dev.keeps_ite ?_ ?_
  · exact Dev.keeps_refl _ _
  · refine Dev.keeps_step (by decide +kernel) (Dev.refreshCourse_keeps ..) ?_
    refine Dev.keeps_step (by decide +kernel) (Dev.modLane_keeps ..) ?_
    refine Dev.keeps_step (by decide +kernel) (Dev.modCrs_keeps ..) ?_
    refine Dev.keeps_set _ _ _ _ (by decide +kernel) ?_
    exact Dev.keeps_refl _ _

theorem transactionWindowOpen_keeps (c : Nat) (d : Dev) : Dev.keeps ⟨[.out, .cm, .dma], [F.CM_CRS_DELIV_DELIV, F.CM_CRS_DELIV_WORST,
    F.CM_CRS_MEAS_ROUNDS, F.CM_DIR_W0_FROM_F, F.CM_DIR_W0_FROM_H, F.CM_DIR_W3_LAT_F, F.CM_DIR_W3_LAT_H], []⟩ d (transactionWindowOpen c d)
    := by
  unfold transactionWindowOpen
  dsimp -proj only
  refine Dev.keeps_ite ?_ ?_
  · refine Dev.keeps_step (by decide +kernel) (Dev.pump_keeps ..) ?_
    refine Dev.keeps_step (by decide +kernel) (Dev.dropProbes_keeps ..) ?_
    exact Dev.keeps_refl _ _
  · refine Dev.keeps_ite ?_ ?_
    · exact Dev.keeps_refl _ _
    · refine Dev.keeps_step (by decide +kernel) (Dev.pump_keeps ..) ?_
      refine Dev.keeps_step (by decide +kernel) (Dev.modCrs_keeps ..) ?_
      refine Dev.keeps_step (by decide +kernel) (Dev.dropProbes_keeps ..) ?_
      exact Dev.keeps_refl _ _

end Sys2Proof.Machine
end

