-- ==== Sys2Proof/Laws/KeepsHost.lean ====
section
/-! SUPPORT. What the operations of Machine/Host.lean may change at most, one lemma each. -/

namespace Sys2Proof.Machine

set_option Elab.async false

theorem Dev.dropReads_keeps (x : Nat) (d : Dev) : Dev.keeps ⟨[.out, .cm], [], []⟩ d (Dev.dropReads x d) := by
  unfold Dev.dropReads
  dsimp -proj only
  refine Dev.keeps_ite ?_ ?_
  · refine Dev.keeps_foldl _ _ ?_ ?_
    · intro _ _
      refine Dev.keeps_ite ?_ ?_
      · exact Dev.keeps_refl _ _
      · refine Dev.keeps_step (by decide +kernel) (Dev.emit_keeps ..) ?_
        exact Dev.keeps_refl _ _
    · refine Dev.keeps_cm _ (by decide +kernel) ?_
      exact Dev.keeps_refl _ _
  · refine Dev.keeps_cm _ (by decide +kernel) ?_
    exact Dev.keeps_refl _ _

theorem Dev.ownerCheck_keeps (d : Dev) : Dev.keeps ⟨[.host], [], []⟩ d (Dev.ownerCheck d) := by
  unfold Dev.ownerCheck
  dsimp -proj only
  refine Dev.keeps_ite ?_ ?_
  · exact Dev.keeps_refl _ _
  · refine Dev.keeps_host _ (by decide +kernel) ?_
    exact Dev.keeps_refl _ _

theorem Dev.closeCtx_keeps (cause : Nat) (x : Nat) (d : Dev) : Dev.keeps ⟨[.out, .work, .cm, .fc, .host, .dma], [F.DM_CH_DONE_DONE,
    F.DM_CH_IRQ_DONE, F.DM_CH_IRQ_FULL, F.DM_CH_IRQ_HALF, F.DM_CH_IRQ_OVERRUN, F.DM_CH_IRQ_STOP, F.DM_CH_STAT_CAUSE, F.DM_CH_STAT_STATE,
    F.DM_FREE_FREE, F.FC_IRQ_EN, F.FC_IRQ_PENDING, F.HC_CTX_STAT_CAUSE, F.HC_CTX_STAT_STATE, F.HC_IRQ_EN_EN, F.HC_IRQ_STAT_STAT,
    F.HC_MMU_CTL_MODE, F.HC_MMU_INV_HI_INV_HI, F.HC_MMU_INV_LO_INV_LO, F.HC_MMU_ROOT_HI_ROOT_HI, F.HC_MMU_ROOT_LO_ROOT_LO], []⟩ d
    (Dev.closeCtx cause x d) := by
  unfold Dev.closeCtx
  dsimp -proj only
  refine Dev.keeps_step (by decide +kernel) (Dev.modCtx_keeps ..) ?_
  refine Dev.keeps_flag _ _ _ _ (by decide +kernel) ?_
  refine Dev.keeps_flag _ _ _ _ (by decide +kernel) ?_
  refine Dev.keeps_set _ _ _ _ (by decide +kernel) ?_
  refine Dev.keeps_set _ _ _ _ (by decide +kernel) ?_
  refine Dev.keeps_ite ?_ ?_
  · refine Dev.keeps_step (by decide +kernel) (Dev.dropReads_keeps ..) ?_
    refine Dev.keeps_step (by decide +kernel) (Dev.dropCache_keeps ..) ?_
    refine Dev.keeps_step (by decide +kernel) (Dev.dropWalks_keeps ..) ?_
    refine Dev.keeps_each _ _ ?_ ?_
    · intro _ _
      refine Dev.keeps_step (by decide +kernel) (Dev.dmaEnd_keeps ..) ?_
      exact Dev.keeps_refl _ _
    · refine Dev.keeps_ite ?_ ?_
      · refine Dev.keeps_step (by decide +kernel) (Dev.ownerCheck_keeps ..) ?_
        refine Dev.keeps_set _ _ _ _ (by decide +kernel) ?_
        refine Dev.keeps_set _ _ _ _ (by decide +kernel) ?_
        exact Dev.keeps_refl _ _
      · refine Dev.keeps_set _ _ _ _ (by decide +kernel) ?_
        refine Dev.keeps_set _ _ _ _ (by decide +kernel) ?_
        exact Dev.keeps_refl _ _
  · refine Dev.keeps_set _ _ _ _ (by decide +kernel) ?_
    refine Dev.keeps_set _ _ _ _ (by decide +kernel) ?_
    refine Dev.keeps_set _ _ _ _ (by decide +kernel) ?_
    refine Dev.keeps_set _ _ _ _ (by decide +kernel) ?_
    refine Dev.keeps_set _ _ _ _ (by decide +kernel) ?_
    refine Dev.keeps_each _ _ ?_ ?_
    · intro _ _
      refine Dev.keeps_step (by decide +kernel) (Dev.modDma_keeps ..) ?_
      exact Dev.keeps_refl _ _
    · refine Dev.keeps_step (by decide +kernel) (Dev.dropReads_keeps ..) ?_
      refine Dev.keeps_step (by decide +kernel) (Dev.dropCache_keeps ..) ?_
      refine Dev.keeps_step (by decide +kernel) (Dev.dropWalks_keeps ..) ?_
      refine Dev.keeps_each _ _ ?_ ?_
      · intro _ _
        refine Dev.keeps_step (by decide +kernel) (Dev.dmaEnd_keeps ..) ?_
        exact Dev.keeps_refl _ _
      · refine Dev.keeps_ite ?_ ?_
        · refine Dev.keeps_step (by decide +kernel) (Dev.ownerCheck_keeps ..) ?_
          refine Dev.keeps_set _ _ _ _ (by decide +kernel) ?_
          refine Dev.keeps_set _ _ _ _ (by decide +kernel) ?_
          exact Dev.keeps_refl _ _
        · refine Dev.keeps_set _ _ _ _ (by decide +kernel) ?_
          refine Dev.keeps_set _ _ _ _ (by decide +kernel) ?_
          exact Dev.keeps_refl _ _

theorem Dev.refreshLink_keeps (p : Nat) (d : Dev) : Dev.keeps ⟨[.fc], [F.FC_COND_COND], []⟩ d (Dev.refreshLink p d) := by
  unfold Dev.refreshLink
  refine Dev.keeps_step (by decide +kernel) (Dev.cond_keeps ..) ?_
  exact Dev.keeps_refl _ _

theorem Dev.linkDown_keeps (p : Nat) (d : Dev) : Dev.keeps ⟨[.fc, .host], [F.FC_COND_COND, F.HC_PORT_LINK_DOWNS, F.HC_PORT_LINK_UP], []⟩ d
    (Dev.linkDown p d) := by
  unfold Dev.linkDown
  dsimp -proj only
  refine Dev.keeps_ite ?_ ?_
  · refine Dev.keeps_step (by decide +kernel) (Dev.refreshLink_keeps ..) ?_
    refine Dev.keeps_host _ (by decide +kernel) ?_
    refine Dev.keeps_count _ _ _ (by decide +kernel) ?_
    refine Dev.keeps_flag _ _ _ _ (by decide +kernel) ?_
    exact Dev.keeps_refl _ _
  · exact Dev.keeps_refl _ _

theorem Dev.moveOwner_keeps (old : Nat) (new : Nat) (d : Dev) : Dev.keeps ⟨[.store, .host], [F.HC_CTX_CFG_ROLE, F.HC_OWNER_OWNER,
    F.MO_JOURNAL_FILL, F.MO_JOURNAL_PENDING], []⟩ d (Dev.moveOwner old new d) := by
  unfold Dev.moveOwner
  refine Dev.keeps_step (by decide +kernel) (Dev.ownerCheck_keeps ..) ?_
  refine Dev.setKept_keeps (by decide +kernel) _ _ _ _ (by decide +kernel) ?_
  refine Dev.setKept_keeps (by decide +kernel) _ _ _ _ (by decide +kernel) ?_
  refine Dev.setKept_keeps (by decide +kernel) _ _ _ _ (by decide +kernel) ?_
  exact Dev.keeps_refl _ _

theorem Dev.ownWrite_keeps {S : Scope} (hS : Scope.le ⟨[], [F.HC_CTX_REFADDR_BAR2, F.HC_CTX_REFADDR_CAUSE, F.HC_CTX_REFADDR_OFFSET,
    F.HC_CTX_REFADDR_WRITE, F.HC_CTX_STAT_PARTIAL, F.HC_CTX_STAT_REFUSED], []⟩ S = true) (x : Nat) (y : Nat) (off : Nat) (f : Dev → Dev)
    (d : Dev) (hf : ∀ (x0 : Dev), Dev.keeps S x0 (f x0)) : Dev.keeps S d (Dev.ownWrite x y off f d) := by
  unfold Dev.ownWrite
  refine Dev.keeps_trans (Dev.hostWrite_keeps (Scope.le_trans (by decide +kernel) hS) _ _ _ _ ?_) ?_
  · intro _
    refine Dev.keeps_ite ?_ ?_
    · refine Dev.keeps_trans (hf _) ?_
      exact Dev.keeps_refl _ _
    · refine Dev.keeps_step (Scope.le_trans (by decide +kernel) hS) (Dev.refuse_keeps ..) ?_
      exact Dev.keeps_refl _ _
  · exact Dev.keeps_refl _ _

theorem Dev.resetConfig_keeps (x : Nat) (d : Dev) : Dev.keeps ⟨[.host], [], []⟩ d (Dev.resetConfig x d) := by
  unfold Dev.resetConfig
  refine Dev.keeps_step (by decide +kernel) (Dev.modCtx_keeps ..) ?_
  exact Dev.keeps_refl _ _

theorem Dev.sendHeld_keeps (x : Nat) (d : Dev) : Dev.keeps ⟨[.out, .host], [], []⟩ d (Dev.sendHeld x d) := by
  unfold Dev.sendHeld
  dsimp -proj only
  refine Dev.keeps_ite ?_ ?_
  · exact Dev.keeps_refl _ _
  · refine Dev.keeps_each _ _ ?_ ?_
    · intro _ _
      refine Dev.keeps_step (by decide +kernel) (Dev.emit_keeps ..) ?_
      exact Dev.keeps_refl _ _
    · refine Dev.keeps_step (by decide +kernel) (Dev.modCtx_keeps ..) ?_
      exact Dev.keeps_refl _ _

theorem Dev.setMmuMode_keeps (y : Nat) (v : Nat) (d : Dev) : Dev.keeps ⟨[.host], [F.HC_MMU_CTL_MODE], []⟩ d (Dev.setMmuMode y v d) := by
  unfold Dev.setMmuMode
  refine Dev.keeps_ite ?_ ?_
  · exact Dev.keeps_refl _ _
  · refine Dev.keeps_step (by decide +kernel) (Dev.rerooted_keeps ..) ?_
    refine Dev.keeps_set _ _ _ _ (by decide +kernel) ?_
    exact Dev.keeps_refl _ _

theorem Dev.startInv_keeps (y : Nat) (page : Option Nat) (d : Dev) : Dev.keeps ⟨[.host], [F.HC_MMU_CTL_BUSY], []⟩ d (Dev.startInv y page
    d) := by
  unfold Dev.startInv
  dsimp -proj only
  refine Dev.keeps_ite ?_ ?_
  · exact Dev.keeps_refl _ _
  · refine Dev.keeps_flag _ _ _ _ (by decide +kernel) ?_
    refine Dev.keeps_host _ (by decide +kernel) ?_
    exact Dev.keeps_refl _ _

theorem Dev.walkDone_keeps (w : PageWalk) (e : TransEntry) (d : Dev) : Dev.keeps ⟨[.out, .cm, .fc, .host, .dma], [F.CM_CRS_PT_FAILED,
    F.CM_DIR_W0_EVQ, F.DM_CH_DETAIL_PTFAIL, F.DM_CH_STAT_STATE, F.DM_FREE_FREE, F.GL_PT_ERR_W0_COUNT, F.GL_PT_ERR_W0_STATUS,
    F.GL_PT_ERR_W1_ADDRESS, F.GP_HARVEST_PB_FAIL, F.HC_IRQ_STAT_STAT, F.HC_MMU_FADDR_HI_FADDR_HI, F.HC_MMU_FADDR_LO_FADDR_LO,
    F.HC_MMU_FAULT_CAUSE, F.HC_MMU_FAULT_COUNT, F.HC_MMU_FAULT_PENDING, F.HC_MMU_FAULT_WRITE], []⟩ d (Dev.walkDone w e d) := by
  unfold Dev.walkDone
  dsimp -proj only
  refine Dev.keeps_step (by decide +kernel) (Dev.dmaShow_keeps ..) ?_
  refine Dev.keeps_step (by decide +kernel) (Dev.retryWaiting_keeps ..) ?_
  refine Dev.keeps_ite ?_ ?_
  · refine Dev.keeps_host _ (by decide +kernel) ?_
    refine Dev.keeps_each _ _ ?_ ?_
    · intro _ _
      refine Dev.keeps_step (by decide +kernel) (Dev.dmaRetry_keeps ..) ?_
      exact Dev.keeps_refl _ _
    · refine Dev.keeps_ite ?_ ?_
      · refine Dev.keeps_host _ (by decide +kernel) ?_
        exact Dev.keeps_refl _ _
      · refine Dev.keeps_step (by decide +kernel) (Dev.cacheAdd_keeps ..) ?_
        exact Dev.keeps_refl _ _
  · refine Dev.keeps_each _ _ ?_ ?_
    · intro _ _
      refine Dev.keeps_step (by decide +kernel) (Dev.dmaRetry_keeps ..) ?_
      exact Dev.keeps_refl _ _
    · refine Dev.keeps_ite ?_ ?_
      · refine Dev.keeps_host _ (by decide +kernel) ?_
        exact Dev.keeps_refl _ _
      · refine Dev.keeps_step (by decide +kernel) (Dev.cacheAdd_keeps ..) ?_
        exact Dev.keeps_refl _ _

theorem Dev.walkFault_keeps (w : PageWalk) (cause : Nat) (d : Dev) : Dev.keeps ⟨[.out, .cm, .fc, .host, .dma], [F.DM_CH_STAT_STATE,
    F.DM_FREE_FREE, F.HC_IRQ_STAT_STAT, F.HC_MMU_FADDR_HI_FADDR_HI, F.HC_MMU_FADDR_LO_FADDR_LO, F.HC_MMU_FAULT_CAUSE,
    F.HC_MMU_FAULT_COUNT, F.HC_MMU_FAULT_PENDING, F.HC_MMU_FAULT_WRITE], []⟩ d (Dev.walkFault w cause d) := by
  unfold Dev.walkFault
  dsimp -proj only
  refine Dev.keeps_each _ _ ?_ ?_
  · intro _ _
    refine Dev.keeps_step (by decide +kernel) (Dev.dmaFault_keeps ..) ?_
    refine Dev.keeps_step (by decide +kernel) (Dev.memFault_keeps ..) ?_
    exact Dev.keeps_refl _ _
  · refine Dev.keeps_ite ?_ ?_
    · refine Dev.keeps_step (by decide +kernel) (Dev.memFault_keeps ..) ?_
      exact Dev.keeps_refl _ _
    · exact Dev.keeps_refl _ _

theorem busMasterDisable_keeps (x : Nat) (d : Dev) : Dev.keeps ⟨[.out, .work, .cm, .fc, .host, .dma], [F.DM_CH_DONE_DONE,
    F.DM_CH_IRQ_DONE, F.DM_CH_IRQ_FULL, F.DM_CH_IRQ_HALF, F.DM_CH_IRQ_OVERRUN, F.DM_CH_IRQ_STOP, F.DM_CH_STAT_CAUSE, F.DM_CH_STAT_STATE,
    F.DM_FREE_FREE], []⟩ d (busMasterDisable x d) := by
  unfold busMasterDisable
  dsimp -proj only
  refine Dev.keeps_step (by decide +kernel) (Dev.dropCache_keeps ..) ?_
  refine Dev.keeps_step (by decide +kernel) (Dev.dropWalks_keeps ..) ?_
  refine Dev.keeps_step (by decide +kernel) (Dev.modCtx_keeps ..) ?_
  refine Dev.keeps_each _ _ ?_ ?_
  · intro _ _
    refine Dev.keeps_step (by decide +kernel) (Dev.dmaEnd_keeps ..) ?_
    exact Dev.keeps_refl _ _
  · exact Dev.keeps_refl _ _

theorem busMasterEnable_keeps (x : Nat) (d : Dev) : Dev.keeps ⟨[.out, .host], [], []⟩ d (busMasterEnable x d) := by
  unfold busMasterEnable
  refine Dev.keeps_step (by decide +kernel) (Dev.sendHeld_keeps ..) ?_
  refine Dev.keeps_step (by decide +kernel) (Dev.modCtx_keeps ..) ?_
  exact Dev.keeps_refl _ _

theorem claimOwner_keeps (x : Nat) (d : Dev) : Dev.keeps ⟨[.store, .host], [F.HC_CLAIM_RESULT, F.HC_CTX_CFG_ROLE, F.HC_CTX_REFADDR_BAR2,
    F.HC_CTX_REFADDR_CAUSE, F.HC_CTX_REFADDR_OFFSET, F.HC_CTX_REFADDR_WRITE, F.HC_CTX_STAT_PARTIAL, F.HC_CTX_STAT_REFUSED,
    F.HC_OWNER_OWNER, F.MO_JOURNAL_FILL, F.MO_JOURNAL_PENDING], []⟩ d (claimOwner x d) := by
  unfold claimOwner
  dsimp -proj only
  refine Dev.keeps_trans (Dev.hostWrite_keeps (by decide +kernel) _ _ _ _ ?_) ?_
  · intro _
    refine Dev.keeps_ite ?_ ?_
    · refine Dev.keeps_set _ _ _ _ (by decide +kernel) ?_
      exact Dev.keeps_refl _ _
    · refine Dev.keeps_ite ?_ ?_
      · refine Dev.keeps_set _ _ _ _ (by decide +kernel) ?_
        exact Dev.keeps_refl _ _
      · refine Dev.keeps_set _ _ _ _ (by decide +kernel) ?_
        refine Dev.keeps_step (by decide +kernel) (Dev.moveOwner_keeps ..) ?_
        exact Dev.keeps_refl _ _
  · exact Dev.keeps_refl _ _

theorem close_keeps (x : Nat) (d : Dev) : Dev.keeps ⟨[.out, .work, .cm, .fc, .host, .dma], [F.DM_CH_DONE_DONE, F.DM_CH_IRQ_DONE,
    F.DM_CH_IRQ_FULL, F.DM_CH_IRQ_HALF, F.DM_CH_IRQ_OVERRUN, F.DM_CH_IRQ_STOP, F.DM_CH_STAT_CAUSE, F.DM_CH_STAT_STATE, F.DM_FREE_FREE,
    F.FC_IRQ_EN, F.FC_IRQ_PENDING, F.HC_CTX_CMD_RESULT, F.HC_CTX_REFADDR_BAR2, F.HC_CTX_REFADDR_CAUSE, F.HC_CTX_REFADDR_OFFSET,
    F.HC_CTX_REFADDR_WRITE, F.HC_CTX_STAT_CAUSE, F.HC_CTX_STAT_PARTIAL, F.HC_CTX_STAT_REFUSED, F.HC_CTX_STAT_STATE, F.HC_IRQ_EN_EN,
    F.HC_IRQ_STAT_STAT, F.HC_MMU_CTL_MODE, F.HC_MMU_INV_HI_INV_HI, F.HC_MMU_INV_LO_INV_LO, F.HC_MMU_ROOT_HI_ROOT_HI,
    F.HC_MMU_ROOT_LO_ROOT_LO], []⟩ d (close x d) := by
  unfold close
  dsimp -proj only
  refine Dev.keeps_trans (Dev.hostWrite_keeps (by decide +kernel) _ _ _ _ ?_) ?_
  · intro _
    refine Dev.keeps_ite ?_ ?_
    · refine Dev.keeps_set _ _ _ _ (by decide +kernel) ?_
      exact Dev.keeps_refl _ _
    · refine Dev.keeps_ite ?_ ?_
      · refine Dev.keeps_set _ _ _ _ (by decide +kernel) ?_
        exact Dev.keeps_refl _ _
      · refine Dev.keeps_set _ _ _ _ (by decide +kernel) ?_
        refine Dev.keeps_step (by decide +kernel) (Dev.closeCtx_keeps ..) ?_
        exact Dev.keeps_refl _ _
  · exact Dev.keeps_refl _ _

theorem contextClosed_keeps (x : Nat) (d : Dev) : Dev.keeps ⟨[], [F.HC_CTX_STAT_STATE], []⟩ d (contextClosed x d) := by
  unfold contextClosed
  refine Dev.keeps_ite ?_ ?_
  · refine Dev.keeps_set _ _ _ _ (by decide +kernel) ?_
    exact Dev.keeps_refl _ _
  · exact Dev.keeps_refl _ _

theorem d3hotEntry_keeps (x : Nat) (d : Dev) : Dev.keeps ⟨[.out, .work, .cm, .fc, .host, .dma], [F.DM_CH_DONE_DONE, F.DM_CH_IRQ_DONE,
    F.DM_CH_IRQ_FULL, F.DM_CH_IRQ_HALF, F.DM_CH_IRQ_OVERRUN, F.DM_CH_IRQ_STOP, F.DM_CH_STAT_CAUSE, F.DM_CH_STAT_STATE, F.DM_FREE_FREE,
    F.FC_IRQ_EN, F.FC_IRQ_PENDING, F.HC_CTX_STAT_CAUSE, F.HC_CTX_STAT_STATE, F.HC_IRQ_EN_EN, F.HC_IRQ_STAT_STAT, F.HC_MMU_CTL_MODE,
    F.HC_MMU_INV_HI_INV_HI, F.HC_MMU_INV_LO_INV_LO, F.HC_MMU_ROOT_HI_ROOT_HI, F.HC_MMU_ROOT_LO_ROOT_LO], []⟩ d (d3hotEntry x d) := by
  unfold d3hotEntry
  refine Dev.keeps_step (by decide +kernel) (Dev.modCtx_keeps ..) ?_
  refine Dev.keeps_step (by decide +kernel) (Dev.closeCtx_keeps ..) ?_
  exact Dev.keeps_refl _ _

theorem functionLevelReset_keeps (x : Nat) (d : Dev) : Dev.keeps ⟨[.out, .work, .cm, .fc, .host, .dma], [F.DM_CH_DONE_DONE,
    F.DM_CH_IRQ_DONE, F.DM_CH_IRQ_FULL, F.DM_CH_IRQ_HALF, F.DM_CH_IRQ_OVERRUN, F.DM_CH_IRQ_STOP, F.DM_CH_STAT_CAUSE, F.DM_CH_STAT_STATE,
    F.DM_FREE_FREE, F.FC_IRQ_EN, F.FC_IRQ_PENDING, F.HC_CTX_STAT_CAUSE, F.HC_CTX_STAT_STATE, F.HC_IRQ_EN_EN, F.HC_IRQ_STAT_STAT,
    F.HC_MMU_CTL_MODE, F.HC_MMU_INV_HI_INV_HI, F.HC_MMU_INV_LO_INV_LO, F.HC_MMU_ROOT_HI_ROOT_HI, F.HC_MMU_ROOT_LO_ROOT_LO], []⟩ d
    (functionLevelReset x d) := by
  unfold functionLevelReset
  refine Dev.keeps_step (by decide +kernel) (Dev.resetConfig_keeps ..) ?_
  refine Dev.keeps_step (by decide +kernel) (Dev.closeCtx_keeps ..) ?_
  exact Dev.keeps_refl _ _

theorem give_keeps (x : Nat) (target : Nat) (d : Dev) : Dev.keeps ⟨[.store, .host], [F.HC_CTX_CFG_ROLE, F.HC_CTX_REFADDR_BAR2,
    F.HC_CTX_REFADDR_CAUSE, F.HC_CTX_REFADDR_OFFSET, F.HC_CTX_REFADDR_WRITE, F.HC_CTX_STAT_PARTIAL, F.HC_CTX_STAT_REFUSED,
    F.HC_OWNER_OWNER, F.HC_OWNER_RESULT, F.MO_JOURNAL_FILL, F.MO_JOURNAL_PENDING], []⟩ d (give x target d) := by
  unfold give
  refine Dev.keeps_trans (Dev.hostWrite_keeps (by decide +kernel) _ _ _ _ ?_) ?_
  · intro _
    refine Dev.keeps_ite ?_ ?_
    · refine Dev.keeps_set _ _ _ _ (by decide +kernel) ?_
      exact Dev.keeps_refl _ _
    · refine Dev.keeps_ite ?_ ?_
      · refine Dev.keeps_set _ _ _ _ (by decide +kernel) ?_
        exact Dev.keeps_refl _ _
      · refine Dev.keeps_set _ _ _ _ (by decide +kernel) ?_
        refine Dev.keeps_step (by decide +kernel) (Dev.moveOwner_keeps ..) ?_
        exact Dev.keeps_refl _ _
  · exact Dev.keeps_refl _ _

theorem invAll_keeps (x : Nat) (y : Nat) (d : Dev) : Dev.keeps ⟨[.host], [F.HC_CTX_REFADDR_BAR2, F.HC_CTX_REFADDR_CAUSE,
    F.HC_CTX_REFADDR_OFFSET, F.HC_CTX_REFADDR_WRITE, F.HC_CTX_STAT_PARTIAL, F.HC_CTX_STAT_REFUSED, F.HC_MMU_CTL_BUSY], []⟩ d (invAll x y
    d) := by
  unfold invAll
  refine Dev.keeps_trans (Dev.ownWrite_keeps (by decide +kernel) _ _ _ _ _ ?_) ?_
  · intro _
    refine Dev.keeps_step (by decide +kernel) (Dev.startInv_keeps ..) ?_
    exact Dev.keeps_refl _ _
  · exact Dev.keeps_refl _ _

theorem invPage_keeps (x : Nat) (y : Nat) (d : Dev) : Dev.keeps ⟨[.host], [F.HC_CTX_REFADDR_BAR2, F.HC_CTX_REFADDR_CAUSE,
    F.HC_CTX_REFADDR_OFFSET, F.HC_CTX_REFADDR_WRITE, F.HC_CTX_STAT_PARTIAL, F.HC_CTX_STAT_REFUSED, F.HC_MMU_CTL_BUSY], []⟩ d (invPage x y
    d) := by
  unfold invPage
  refine Dev.keeps_trans (Dev.ownWrite_keeps (by decide +kernel) _ _ _ _ _ ?_) ?_
  · intro _
    refine Dev.keeps_step (by decide +kernel) (Dev.startInv_keeps ..) ?_
    exact Dev.keeps_refl _ _
  · exact Dev.keeps_refl _ _

theorem invalidationComplete_keeps (y : Nat) (d : Dev) : Dev.keeps ⟨[.host], [F.HC_MMU_CTL_BUSY], []⟩ d (invalidationComplete y d) := by
  unfold invalidationComplete
  dsimp -proj only
  refine Dev.keeps_ite ?_ ?_
  · refine Dev.keeps_flag _ _ _ _ (by decide +kernel) ?_
    refine Dev.keeps_host _ (by decide +kernel) ?_
    exact Dev.keeps_refl _ _
  · exact Dev.keeps_refl _ _

theorem linkRecoveryTimeout_keeps (p : Nat) (d : Dev) : Dev.keeps ⟨[.out, .work, .cm, .fc, .host, .dma], [F.DM_CH_DONE_DONE,
    F.DM_CH_IRQ_DONE, F.DM_CH_IRQ_FULL, F.DM_CH_IRQ_HALF, F.DM_CH_IRQ_OVERRUN, F.DM_CH_IRQ_STOP, F.DM_CH_STAT_CAUSE, F.DM_CH_STAT_STATE,
    F.DM_FREE_FREE, F.FC_IRQ_EN, F.FC_IRQ_PENDING, F.HC_CTX_STAT_CAUSE, F.HC_CTX_STAT_STATE, F.HC_IRQ_EN_EN, F.HC_IRQ_STAT_STAT,
    F.HC_MMU_CTL_MODE, F.HC_MMU_INV_HI_INV_HI, F.HC_MMU_INV_LO_INV_LO, F.HC_MMU_ROOT_HI_ROOT_HI, F.HC_MMU_ROOT_LO_ROOT_LO], []⟩ d
    (linkRecoveryTimeout p d) := by
  unfold linkRecoveryTimeout
  dsimp -proj only
  split
  · refine Dev.keeps_ite ?_ ?_
    · refine Dev.keeps_each _ _ ?_ ?_
      · intro _ _
        refine Dev.keeps_step (by decide +kernel) (Dev.closeCtx_keeps ..) ?_
        exact Dev.keeps_refl _ _
      · refine Dev.keeps_host _ (by decide +kernel) ?_
        exact Dev.keeps_refl _ _
    · exact Dev.keeps_refl _ _
  · exact Dev.keeps_refl _ _

theorem linkEntersL0_keeps (p : Nat) (speed : Nat) (width : Nat) (d : Dev) : Dev.keeps ⟨[.out, .work, .cm, .fc, .host, .dma],
    [F.DM_CH_DONE_DONE, F.DM_CH_IRQ_DONE, F.DM_CH_IRQ_FULL, F.DM_CH_IRQ_HALF, F.DM_CH_IRQ_OVERRUN, F.DM_CH_IRQ_STOP, F.DM_CH_STAT_CAUSE,
    F.DM_CH_STAT_STATE, F.DM_FREE_FREE, F.FC_COND_COND, F.FC_IRQ_EN, F.FC_IRQ_PENDING, F.HC_CTX_STAT_CAUSE, F.HC_CTX_STAT_STATE,
    F.HC_IRQ_EN_EN, F.HC_IRQ_STAT_STAT, F.HC_MMU_CTL_MODE, F.HC_MMU_INV_HI_INV_HI, F.HC_MMU_INV_LO_INV_LO, F.HC_MMU_ROOT_HI_ROOT_HI,
    F.HC_MMU_ROOT_LO_ROOT_LO, F.HC_PORT_LINK_UP, F.HC_PORT_SPEED, F.HC_PORT_WIDTH], []⟩ d (linkEntersL0 p speed width d) := by
  unfold linkEntersL0
  dsimp -proj only
  refine Dev.keeps_ite ?_ ?_
  · refine Dev.keeps_step (by decide +kernel) (Dev.refreshLink_keeps ..) ?_
    refine Dev.keeps_set _ _ _ _ (by decide +kernel) ?_
    refine Dev.keeps_set _ _ _ _ (by decide +kernel) ?_
    refine Dev.keeps_flag _ _ _ _ (by decide +kernel) ?_
    refine Dev.keeps_host _ (by decide +kernel) ?_
    refine Dev.keeps_step (by decide +kernel) (linkRecoveryTimeout_keeps ..) ?_
    exact Dev.keeps_refl _ _
  · refine Dev.keeps_step (by decide +kernel) (linkRecoveryTimeout_keeps ..) ?_
    exact Dev.keeps_refl _ _

theorem linkLeavesL0_keeps (p : Nat) (d : Dev) : Dev.keeps ⟨[.fc, .host], [F.FC_COND_COND, F.HC_PORT_LINK_DOWNS, F.HC_PORT_LINK_UP], []⟩ d
    (linkLeavesL0 p d) := by
  unfold linkLeavesL0
  refine Dev.keeps_step (by decide +kernel) (Dev.linkDown_keeps ..) ?_
  exact Dev.keeps_refl _ _

theorem mmuConfigWrite_keeps (x : Nat) (y : Nat) (root : Bool) (v : Nat) (d : Dev) : Dev.keeps ⟨[.host], [F.HC_CTX_REFADDR_BAR2,
    F.HC_CTX_REFADDR_CAUSE, F.HC_CTX_REFADDR_OFFSET, F.HC_CTX_REFADDR_WRITE, F.HC_CTX_STAT_PARTIAL, F.HC_CTX_STAT_REFUSED,
    F.HC_MMU_CTL_MODE, F.HC_MMU_ROOT_HI_ROOT_HI, F.HC_MMU_ROOT_LO_ROOT_LO], []⟩ d (mmuConfigWrite x y root v d) := by
  unfold mmuConfigWrite
  refine Dev.keeps_trans (Dev.ownWrite_keeps (by decide +kernel) _ _ _ _ _ ?_) ?_
  · intro _
    refine Dev.keeps_ite ?_ ?_
    · refine Dev.keeps_step (by decide +kernel) (Dev.rerooted_keeps ..) ?_
      refine Dev.keeps_set _ _ _ _ (by decide +kernel) ?_
      refine Dev.keeps_set _ _ _ _ (by decide +kernel) ?_
      exact Dev.keeps_refl _ _
    · refine Dev.keeps_step (by decide +kernel) (Dev.setMmuMode_keeps ..) ?_
      exact Dev.keeps_refl _ _
  · exact Dev.keeps_refl _ _

theorem msixRead_keeps (x : Nat) (off : Nat) (n : Nat) (d : Dev) : Dev.keeps ⟨[.out], [F.HC_CTX_REFADDR_BAR2, F.HC_CTX_REFADDR_CAUSE,
    F.HC_CTX_REFADDR_OFFSET, F.HC_CTX_REFADDR_WRITE, F.HC_CTX_STAT_PARTIAL, F.HC_CTX_STAT_REFUSED], []⟩ d (msixRead x off n d) := by
  unfold msixRead
  refine Dev.keeps_ite ?_ ?_
  · refine Dev.keeps_each _ _ ?_ ?_
    · intro _ _
      refine Dev.keeps_step (by decide +kernel) (Dev.emit_keeps ..) ?_
      exact Dev.keeps_refl _ _
    · refine Dev.keeps_step (by decide +kernel) (Dev.refuse_keeps ..) ?_
      exact Dev.keeps_refl _ _
  · refine Dev.keeps_each _ _ ?_ ?_
    · intro _ _
      refine Dev.keeps_step (by decide +kernel) (Dev.emit_keeps ..) ?_
      exact Dev.keeps_refl _ _
    · exact Dev.keeps_refl _ _

theorem msixWrite_keeps (x : Nat) (off : Nat) (vals : List Nat) (full : Bool) (d : Dev) : Dev.keeps ⟨[.out, .host],
    [F.HC_CTX_REFADDR_BAR2, F.HC_CTX_REFADDR_CAUSE, F.HC_CTX_REFADDR_OFFSET, F.HC_CTX_REFADDR_WRITE, F.HC_CTX_STAT_PARTIAL,
    F.HC_CTX_STAT_REFUSED], []⟩ d (msixWrite x off vals full d) := by
  unfold msixWrite
  dsimp -proj only
  refine Dev.keeps_ite ?_ ?_
  · refine Dev.keeps_step (by decide +kernel) (Dev.refuse_keeps ..) ?_
    exact Dev.keeps_refl _ _
  · refine Dev.keeps_step (by decide +kernel) (Dev.sendHeld_keeps ..) ?_
    refine Dev.keeps_step (by decide +kernel) (Dev.modCtx_keeps ..) ?_
    exact Dev.keeps_refl _ _

theorem open'_keeps (x : Nat) (mse : Bool) (d0 : Bool) (timeout : Nat) (maxRead : Nat) (maxPayload : Nat) (d : Dev) : Dev.keeps ⟨[.host],
    [F.HC_CTX_CMD_RESULT, F.HC_CTX_REFADDR_BAR2, F.HC_CTX_REFADDR_CAUSE, F.HC_CTX_REFADDR_OFFSET, F.HC_CTX_REFADDR_WRITE,
    F.HC_CTX_STAT_PARTIAL, F.HC_CTX_STAT_REFUSED, F.HC_CTX_STAT_STATE], []⟩ d (open' x mse d0 timeout maxRead maxPayload d) := by
  unfold open'
  dsimp -proj only
  refine Dev.keeps_trans (Dev.hostWrite_keeps (by decide +kernel) _ _ _ _ ?_) ?_
  · intro _
    refine Dev.keeps_ite ?_ ?_
    · refine Dev.keeps_set _ _ _ _ (by decide +kernel) ?_
      refine Dev.keeps_step (by decide +kernel) (Dev.modCtx_keeps ..) ?_
      exact Dev.keeps_refl _ _
    · refine Dev.keeps_ite ?_ ?_
      · refine Dev.keeps_set _ _ _ _ (by decide +kernel) ?_
        refine Dev.keeps_step (by decide +kernel) (Dev.modCtx_keeps ..) ?_
        exact Dev.keeps_refl _ _
      · refine Dev.keeps_ite ?_ ?_
        · refine Dev.keeps_set _ _ _ _ (by decide +kernel) ?_
          refine Dev.keeps_step (by decide +kernel) (Dev.modCtx_keeps ..) ?_
          exact Dev.keeps_refl _ _
        · refine Dev.keeps_set _ _ _ _ (by decide +kernel) ?_
          refine Dev.keeps_set _ _ _ _ (by decide +kernel) ?_
          refine Dev.keeps_step (by decide +kernel) (Dev.modCtx_keeps ..) ?_
          exact Dev.keeps_refl _ _
  · exact Dev.keeps_refl _ _

theorem pciePortConfigurable_keeps (p : Nat) (d : Dev) : Dev.keeps ⟨[], [F.GL_READY_HOST_A, F.GL_READY_HOST_B], []⟩ d
    (pciePortConfigurable p d) := by
  unfold pciePortConfigurable
  refine Dev.keeps_flag _ _ _ _ (by split <;> decide +kernel) ?_
  exact Dev.keeps_refl _ _

theorem perstLow_keeps (p : Nat) (d : Dev) : Dev.keeps ⟨[.out, .pins, .work, .cm, .fc, .host, .dma], [F.DM_CH_DONE_DONE, F.DM_CH_IRQ_DONE,
    F.DM_CH_IRQ_FULL, F.DM_CH_IRQ_HALF, F.DM_CH_IRQ_OVERRUN, F.DM_CH_IRQ_STOP, F.DM_CH_STAT_CAUSE, F.DM_CH_STAT_STATE, F.DM_FREE_FREE,
    F.FC_COND_COND, F.FC_IRQ_EN, F.FC_IRQ_PENDING, F.HC_CTX_STAT_CAUSE, F.HC_CTX_STAT_STATE, F.HC_IRQ_EN_EN, F.HC_IRQ_STAT_STAT,
    F.HC_MMU_CTL_MODE, F.HC_MMU_INV_HI_INV_HI, F.HC_MMU_INV_LO_INV_LO, F.HC_MMU_ROOT_HI_ROOT_HI, F.HC_MMU_ROOT_LO_ROOT_LO,
    F.HC_PORT_LINK_DOWNS, F.HC_PORT_LINK_UP, F.HC_PORT_SPEED, F.HC_PORT_WIDTH], []⟩ d (perstLow p d) := by
  unfold perstLow
  dsimp -proj only
  refine Dev.keeps_each _ _ ?_ ?_
  · intro _ _
    refine Dev.keeps_step (by decide +kernel) (Dev.modCtx_keeps ..) ?_
    refine Dev.keeps_step (by decide +kernel) (Dev.resetConfig_keeps ..) ?_
    refine Dev.keeps_step (by decide +kernel) (Dev.closeCtx_keeps ..) ?_
    exact Dev.keeps_refl _ _
  · refine Dev.keeps_step (by decide +kernel) (Dev.refreshLink_keeps ..) ?_
    refine Dev.keeps_set _ _ _ _ (by decide +kernel) ?_
    refine Dev.keeps_set _ _ _ _ (by decide +kernel) ?_
    refine Dev.keeps_host _ (by decide +kernel) ?_
    refine Dev.keeps_step (by decide +kernel) (Dev.linkDown_keeps ..) ?_
    refine Dev.keeps_pins _ (by decide +kernel) ?_
    exact Dev.keeps_refl _ _

theorem perstRise_keeps (p : Nat) (d : Dev) : Dev.keeps ⟨[.pins, .fc], [F.FC_COND_COND], []⟩ d (perstRise p d) := by
  unfold perstRise
  dsimp -proj only
  refine Dev.keeps_step (by decide +kernel) (Dev.refreshLink_keeps ..) ?_
  refine Dev.keeps_pins _ (by decide +kernel) ?_
  exact Dev.keeps_refl _ _

theorem roleWrite_keeps (x : Nat) (y : Nat) (role : Nat) (d : Dev) : Dev.keeps ⟨[.store], [F.HC_CTX_CFG_ROLE, F.HC_CTX_REFADDR_BAR2,
    F.HC_CTX_REFADDR_CAUSE, F.HC_CTX_REFADDR_OFFSET, F.HC_CTX_REFADDR_WRITE, F.HC_CTX_STAT_PARTIAL, F.HC_CTX_STAT_REFUSED,
    F.MO_JOURNAL_FILL, F.MO_JOURNAL_PENDING], []⟩ d (roleWrite x y role d) := by
  unfold roleWrite
  dsimp -proj only
  refine Dev.keeps_trans (Dev.hostWrite_keeps (by decide +kernel) _ _ _ _ ?_) ?_
  · intro _
    refine Dev.keeps_ite ?_ ?_
    · refine Dev.keeps_step (by decide +kernel) (Dev.refuse_keeps ..) ?_
      exact Dev.keeps_refl _ _
    · refine Dev.setKept_keeps (by decide +kernel) _ _ _ _ (by decide +kernel) ?_
      exact Dev.keeps_refl _ _
  · exact Dev.keeps_refl _ _

theorem translationWalkComplete_keeps (x : Nat) (entry : Nat) (status : Nat) (d : Dev) : Dev.keeps ⟨[.out, .cm, .fc, .host, .dma],
    [F.CM_CRS_PT_FAILED, F.CM_DIR_W0_EVQ, F.DM_CH_DETAIL_PTFAIL, F.DM_CH_STAT_STATE, F.DM_FREE_FREE, F.GL_PT_ERR_W0_COUNT,
    F.GL_PT_ERR_W0_STATUS, F.GL_PT_ERR_W1_ADDRESS, F.GP_HARVEST_PB_FAIL, F.HC_IRQ_STAT_STAT, F.HC_MMU_FADDR_HI_FADDR_HI,
    F.HC_MMU_FADDR_LO_FADDR_LO, F.HC_MMU_FAULT_CAUSE, F.HC_MMU_FAULT_COUNT, F.HC_MMU_FAULT_PENDING, F.HC_MMU_FAULT_WRITE], []⟩ d
    (translationWalkComplete x entry status d) := by
  unfold translationWalkComplete
  dsimp -proj only
  split
  · exact Dev.keeps_refl _ _
  · refine Dev.keeps_ite ?_ ?_
    · refine Dev.keeps_step (by decide +kernel) (Dev.walkFault_keeps ..) ?_
      refine Dev.keeps_host _ (by decide +kernel) ?_
      exact Dev.keeps_refl _ _
    · refine Dev.keeps_ite ?_ ?_
      · refine Dev.keeps_ite ?_ ?_
        · refine Dev.keeps_step (by decide +kernel) (Dev.walkFault_keeps ..) ?_
          refine Dev.keeps_host _ (by decide +kernel) ?_
          exact Dev.keeps_refl _ _
        · exact Dev.keeps_refl _ _
      · refine Dev.keeps_ite ?_ ?_
        · refine Dev.keeps_ite ?_ ?_
          · refine Dev.keeps_step (by decide +kernel) (Dev.walkFault_keeps ..) ?_
            refine Dev.keeps_host _ (by decide +kernel) ?_
            exact Dev.keeps_refl _ _
          · refine Dev.keeps_ite ?_ ?_
            · refine Dev.keeps_step (by decide +kernel) (Dev.walkFault_keeps ..) ?_
              refine Dev.keeps_host _ (by decide +kernel) ?_
              exact Dev.keeps_refl _ _
            · refine Dev.keeps_step (by decide +kernel) (Dev.emit_keeps ..) ?_
              refine Dev.keeps_host _ (by decide +kernel) ?_
              exact Dev.keeps_refl _ _
        · refine Dev.keeps_ite ?_ ?_
          · refine Dev.keeps_step (by decide +kernel) (Dev.walkFault_keeps ..) ?_
            refine Dev.keeps_host _ (by decide +kernel) ?_
            exact Dev.keeps_refl _ _
          · refine Dev.keeps_ite ?_ ?_
            · refine Dev.keeps_step (by decide +kernel) (Dev.walkFault_keeps ..) ?_
              refine Dev.keeps_host _ (by decide +kernel) ?_
              exact Dev.keeps_refl _ _
            · refine Dev.keeps_step (by decide +kernel) (Dev.walkDone_keeps ..) ?_
              refine Dev.keeps_host _ (by decide +kernel) ?_
              exact Dev.keeps_refl _ _

end Sys2Proof.Machine
end

