-- ==== Sys2Proof/Laws/KeepsRegisters.lean ====
section
/-! SUPPORT. What the operations of Machine/Registers.lean may change at most, one lemma each. -/

namespace Sys2Proof.Machine

set_option Elab.async false

theorem journalSnapshot_keeps (d : Dev) : Dev.keeps ⟨[.store], [F.MO_JOURNAL_FILL, F.MO_JOURNAL_HALF, F.MO_JOURNAL_PENDING], []⟩ d
    (journalSnapshot d) := by
  unfold journalSnapshot
  dsimp -proj only
  refine Dev.keeps_ite ?_ ?_
  · exact Dev.keeps_refl _ _
  · refine Dev.keeps_step (by decide +kernel) (Dev.nextHalf_keeps ..) ?_
    exact Dev.keeps_refl _ _

theorem settingsRecordCommit_keeps (d : Dev) : Dev.keeps ⟨[.store], [F.MO_JOURNAL_FILL, F.MO_JOURNAL_HALF, F.MO_JOURNAL_PENDING], []⟩ d
    (settingsRecordCommit d) := by
  unfold settingsRecordCommit
  dsimp -proj only
  refine Dev.keeps_step (by decide +kernel) (Dev.showJournal_keeps ..) ?_
  refine Dev.keeps_store _ (by decide +kernel) ?_
  exact Dev.keeps_refl _ _

end Sys2Proof.Machine
end

