-- ==== Sys2Proof/Laws/KeepsTriplex.lean ====
section
/-! SUPPORT. What the operations of Machine/Triplex.lean may change at most, one lemma each. -/

namespace Sys2Proof.Machine

set_option Elab.async false

theorem Dev.pathFault_keeps (x : Nat) (y : Nat) (d : Dev) : Dev.keeps ⟨[.fc], [F.TP_HB_PATH_FAULTS], []⟩ d (Dev.pathFault x y d) := by
  unfold Dev.pathFault
  refine Dev.keeps_count _ _ _ (by decide +kernel) ?_
  refine Dev.keeps_step (by decide +kernel) (Dev.raise_keeps ..) ?_
  exact Dev.keeps_refl _ _

theorem Dev.setMissing_keeps (x : Nat) (y : Nat) (path : Nat) (b : Bool) (d : Dev) : Dev.keeps ⟨[], [F.TP_HB_LINK_MISSING,
    F.TP_HB_PIN_MISSING], []⟩ d (Dev.setMissing x y path b d) := by
  unfold Dev.setMissing
  refine Dev.keeps_ite ?_ ?_
  · refine Dev.keeps_setBit _ _ _ _ _ (by decide +kernel) ?_
    exact Dev.keeps_refl _ _
  · refine Dev.keeps_setBit _ _ _ _ _ (by decide +kernel) ?_
    exact Dev.keeps_refl _ _

theorem Dev.becomesMissing_keeps (x : Nat) (y : Nat) (path : Nat) (d : Dev) : Dev.keeps ⟨[.fc], [F.TP_HB_LINK_MISSING,
    F.TP_HB_PATH_FAULTS, F.TP_HB_PIN_MISSING], []⟩ d (Dev.becomesMissing x y path d) := by
  unfold Dev.becomesMissing
  dsimp -proj only
  refine Dev.keeps_ite ?_ ?_
  · exact Dev.keeps_refl _ _
  · refine Dev.keeps_ite ?_ ?_
    · refine Dev.keeps_step (by decide +kernel) (Dev.setMissing_keeps ..) ?_
      exact Dev.keeps_refl _ _
    · refine Dev.keeps_step (by decide +kernel) (Dev.pathFault_keeps ..) ?_
      refine Dev.keeps_step (by decide +kernel) (Dev.setMissing_keeps ..) ?_
      exact Dev.keeps_refl _ _

theorem Dev.copyTile_keeps (a : Nat) (ch : Nat) (g : Nat) (t : Nat) (d : Dev) : Dev.keeps ⟨[.chans], [], []⟩ d (Dev.copyTile a ch g t d)
    := by
  unfold Dev.copyTile
  dsimp -proj only
  refine Dev.keeps_step (by decide +kernel) (Dev.modCt_keeps ..) ?_
  refine Dev.keeps_step (by decide +kernel) (Dev.modCg_keeps ..) ?_
  exact Dev.keeps_refl _ _

theorem Dev.judgeBeats_keeps (d : Dev) : Dev.keeps ⟨[.out, .store, .chans, .tp, .cm, .fc], [F.FC_COND_COND, F.GL_READY_TRIPLEX,
    F.MO_JOURNAL_FILL, F.MO_JOURNAL_PENDING, F.PL_SLACK_LAST, F.PL_SLACK_WMIN, F.PL_STATUS_CONSEC, F.TP_CH_CAUSE, F.TP_CH_FENCES,
    F.TP_CH_SHADOW, F.TP_CH_STATE, F.TP_CH_STRIKES, F.TP_CMD_BUSY, F.TP_HB_PATH_FAULTS, F.TP_PROOF_RESULT, F.TP_PROOF_STATE,
    F.TP_PROOF_STEP, F.TP_STATE_DONOR, F.TP_STATE_FENCED, F.TP_STATE_IN_SERVICE, F.TP_STATE_RESYNC, F.TP_STATE_SIMPLEX_MS,
    F.TP_STATE_STATE, F.TP_VOTE_LATE_RUN, F.TP_VOTE_MINORITY], []⟩ d (Dev.judgeBeats d) := by
  unfold Dev.judgeBeats
  dsimp -proj only
  refine Dev.keeps_step (by decide +kernel) (Dev.voteAll_keeps ..) ?_
  refine Dev.keeps_ite ?_ ?_
  · refine Dev.keeps_step (by decide +kernel) (Dev.backToRepair_keeps ..) ?_
    split
    · refine Dev.keeps_ite ?_ ?_
      · refine Dev.keeps_step (by decide +kernel) (Dev.fenceChannel_keeps ..) ?_
        split
        · refine Dev.keeps_ite ?_ ?_
          · refine Dev.keeps_foldl _ _ ?_ ?_
            · intro _ _
              refine Dev.keeps_ite ?_ ?_
              · refine Dev.keeps_step (by decide +kernel) (Dev.fenceChannel_keeps ..) ?_
                exact Dev.keeps_refl _ _
              · exact Dev.keeps_refl _ _
            · exact Dev.keeps_refl _ _
          · refine Dev.keeps_ite ?_ ?_
            · refine Dev.keeps_step (by decide +kernel) (Dev.pathFault_keeps ..) ?_
              exact Dev.keeps_refl _ _
            · refine Dev.keeps_ite ?_ ?_
              · refine Dev.keeps_step (by decide +kernel) (Dev.pathFault_keeps ..) ?_
                exact Dev.keeps_refl _ _
              · refine Dev.keeps_ite ?_ ?_
                · refine Dev.keeps_step (by decide +kernel) (Dev.pathFault_keeps ..) ?_
                  exact Dev.keeps_refl _ _
                · exact Dev.keeps_refl _ _
        · refine Dev.keeps_ite ?_ ?_
          · split
            · refine Dev.keeps_step (by decide +kernel) (Dev.fenceChannel_keeps ..) ?_
              exact Dev.keeps_refl _ _
            · refine Dev.keeps_step (by decide +kernel) (Dev.fenceChannel_keeps ..) ?_
              exact Dev.keeps_refl _ _
            · refine Dev.keeps_step (by decide +kernel) (Dev.pathFault_keeps ..) ?_
              exact Dev.keeps_refl _ _
            · refine Dev.keeps_step (by decide +kernel) (Dev.fenceAll_keeps ..) ?_
              exact Dev.keeps_refl _ _
          · exact Dev.keeps_refl _ _
        · exact Dev.keeps_refl _ _
      · split
        · refine Dev.keeps_ite ?_ ?_
          · refine Dev.keeps_foldl _ _ ?_ ?_
            · intro _ _
              refine Dev.keeps_ite ?_ ?_
              · refine Dev.keeps_step (by decide +kernel) (Dev.fenceChannel_keeps ..) ?_
                exact Dev.keeps_refl _ _
              · exact Dev.keeps_refl _ _
            · exact Dev.keeps_refl _ _
          · refine Dev.keeps_ite ?_ ?_
            · refine Dev.keeps_step (by decide +kernel) (Dev.pathFault_keeps ..) ?_
              exact Dev.keeps_refl _ _
            · refine Dev.keeps_ite ?_ ?_
              · refine Dev.keeps_step (by decide +kernel) (Dev.pathFault_keeps ..) ?_
                exact Dev.keeps_refl _ _
              · refine Dev.keeps_ite ?_ ?_
                · refine Dev.keeps_step (by decide +kernel) (Dev.pathFault_keeps ..) ?_
                  exact Dev.keeps_refl _ _
                · exact Dev.keeps_refl _ _
        · refine Dev.keeps_ite ?_ ?_
          · split
            · refine Dev.keeps_step (by decide +kernel) (Dev.fenceChannel_keeps ..) ?_
              exact Dev.keeps_refl _ _
            · refine Dev.keeps_step (by decide +kernel) (Dev.fenceChannel_keeps ..) ?_
              exact Dev.keeps_refl _ _
            · refine Dev.keeps_step (by decide +kernel) (Dev.pathFault_keeps ..) ?_
              exact Dev.keeps_refl _ _
            · refine Dev.keeps_step (by decide +kernel) (Dev.fenceAll_keeps ..) ?_
              exact Dev.keeps_refl _ _
          · exact Dev.keeps_refl _ _
        · exact Dev.keeps_refl _ _
    · split
      · refine Dev.keeps_ite ?_ ?_
        · refine Dev.keeps_foldl _ _ ?_ ?_
          · intro _ _
            refine Dev.keeps_ite ?_ ?_
            · refine Dev.keeps_step (by decide +kernel) (Dev.fenceChannel_keeps ..) ?_
              exact Dev.keeps_refl _ _
            · exact Dev.keeps_refl _ _
          · exact Dev.keeps_refl _ _
        · refine Dev.keeps_ite ?_ ?_
          · refine Dev.keeps_step (by decide +kernel) (Dev.pathFault_keeps ..) ?_
            exact Dev.keeps_refl _ _
          · refine Dev.keeps_ite ?_ ?_
            · refine Dev.keeps_step (by decide +kernel) (Dev.pathFault_keeps ..) ?_
              exact Dev.keeps_refl _ _
            · refine Dev.keeps_ite ?_ ?_
              · refine Dev.keeps_step (by decide +kernel) (Dev.pathFault_keeps ..) ?_
                exact Dev.keeps_refl _ _
              · exact Dev.keeps_refl _ _
      · refine Dev.keeps_ite ?_ ?_
        · split
          · refine Dev.keeps_step (by decide +kernel) (Dev.fenceChannel_keeps ..) ?_
            exact Dev.keeps_refl _ _
          · refine Dev.keeps_step (by decide +kernel) (Dev.fenceChannel_keeps ..) ?_
            exact Dev.keeps_refl _ _
          · refine Dev.keeps_step (by decide +kernel) (Dev.pathFault_keeps ..) ?_
            exact Dev.keeps_refl _ _
          · refine Dev.keeps_step (by decide +kernel) (Dev.fenceAll_keeps ..) ?_
            exact Dev.keeps_refl _ _
        · exact Dev.keeps_refl _ _
      · exact Dev.keeps_refl _ _
  · split
    · refine Dev.keeps_ite ?_ ?_
      · refine Dev.keeps_step (by decide +kernel) (Dev.fenceChannel_keeps ..) ?_
        split
        · refine Dev.keeps_ite ?_ ?_
          · refine Dev.keeps_foldl _ _ ?_ ?_
            · intro _ _
              refine Dev.keeps_ite ?_ ?_
              · refine Dev.keeps_step (by decide +kernel) (Dev.fenceChannel_keeps ..) ?_
                exact Dev.keeps_refl _ _
              · exact Dev.keeps_refl _ _
            · exact Dev.keeps_refl _ _
          · refine Dev.keeps_ite ?_ ?_
            · refine Dev.keeps_step (by decide +kernel) (Dev.pathFault_keeps ..) ?_
              exact Dev.keeps_refl _ _
            · refine Dev.keeps_ite ?_ ?_
              · refine Dev.keeps_step (by decide +kernel) (Dev.pathFault_keeps ..) ?_
                exact Dev.keeps_refl _ _
              · refine Dev.keeps_ite ?_ ?_
                · refine Dev.keeps_step (by decide +kernel) (Dev.pathFault_keeps ..) ?_
                  exact Dev.keeps_refl _ _
                · exact Dev.keeps_refl _ _
        · refine Dev.keeps_ite ?_ ?_
          · split
            · refine Dev.keeps_step (by decide +kernel) (Dev.fenceChannel_keeps ..) ?_
              exact Dev.keeps_refl _ _
            · refine Dev.keeps_step (by decide +kernel) (Dev.fenceChannel_keeps ..) ?_
              exact Dev.keeps_refl _ _
            · refine Dev.keeps_step (by decide +kernel) (Dev.pathFault_keeps ..) ?_
              exact Dev.keeps_refl _ _
            · refine Dev.keeps_step (by decide +kernel) (Dev.fenceAll_keeps ..) ?_
              exact Dev.keeps_refl _ _
          · exact Dev.keeps_refl _ _
        · exact Dev.keeps_refl _ _
      · split
        · refine Dev.keeps_ite ?_ ?_
          · refine Dev.keeps_foldl _ _ ?_ ?_
            · intro _ _
              refine Dev.keeps_ite ?_ ?_
              · refine Dev.keeps_step (by decide +kernel) (Dev.fenceChannel_keeps ..) ?_
                exact Dev.keeps_refl _ _
              · exact Dev.keeps_refl _ _
            · exact Dev.keeps_refl _ _
          · refine Dev.keeps_ite ?_ ?_
            · refine Dev.keeps_step (by decide +kernel) (Dev.pathFault_keeps ..) ?_
              exact Dev.keeps_refl _ _
            · refine Dev.keeps_ite ?_ ?_
              · refine Dev.keeps_step (by decide +kernel) (Dev.pathFault_keeps ..) ?_
                exact Dev.keeps_refl _ _
              · refine Dev.keeps_ite ?_ ?_
                · refine Dev.keeps_step (by decide +kernel) (Dev.pathFault_keeps ..) ?_
                  exact Dev.keeps_refl _ _
                · exact Dev.keeps_refl _ _
        · refine Dev.keeps_ite ?_ ?_
          · split
            · refine Dev.keeps_step (by decide +kernel) (Dev.fenceChannel_keeps ..) ?_
              exact Dev.keeps_refl _ _
            · refine Dev.keeps_step (by decide +kernel) (Dev.fenceChannel_keeps ..) ?_
              exact Dev.keeps_refl _ _
            · refine Dev.keeps_step (by decide +kernel) (Dev.pathFault_keeps ..) ?_
              exact Dev.keeps_refl _ _
            · refine Dev.keeps_step (by decide +kernel) (Dev.fenceAll_keeps ..) ?_
              exact Dev.keeps_refl _ _
          · exact Dev.keeps_refl _ _
        · exact Dev.keeps_refl _ _
    · split
      · refine Dev.keeps_ite ?_ ?_
        · refine Dev.keeps_foldl _ _ ?_ ?_
          · intro _ _
            refine Dev.keeps_ite ?_ ?_
            · refine Dev.keeps_step (by decide +kernel) (Dev.fenceChannel_keeps ..) ?_
              exact Dev.keeps_refl _ _
            · exact Dev.keeps_refl _ _
          · exact Dev.keeps_refl _ _
        · refine Dev.keeps_ite ?_ ?_
          · refine Dev.keeps_step (by decide +kernel) (Dev.pathFault_keeps ..) ?_
            exact Dev.keeps_refl _ _
          · refine Dev.keeps_ite ?_ ?_
            · refine Dev.keeps_step (by decide +kernel) (Dev.pathFault_keeps ..) ?_
              exact Dev.keeps_refl _ _
            · refine Dev.keeps_ite ?_ ?_
              · refine Dev.keeps_step (by decide +kernel) (Dev.pathFault_keeps ..) ?_
                exact Dev.keeps_refl _ _
              · exact Dev.keeps_refl _ _
      · refine Dev.keeps_ite ?_ ?_
        · split
          · refine Dev.keeps_step (by decide +kernel) (Dev.fenceChannel_keeps ..) ?_
            exact Dev.keeps_refl _ _
          · refine Dev.keeps_step (by decide +kernel) (Dev.fenceChannel_keeps ..) ?_
            exact Dev.keeps_refl _ _
          · refine Dev.keeps_step (by decide +kernel) (Dev.pathFault_keeps ..) ?_
            exact Dev.keeps_refl _ _
          · refine Dev.keeps_step (by decide +kernel) (Dev.fenceAll_keeps ..) ?_
            exact Dev.keeps_refl _ _
        · exact Dev.keeps_refl _ _
      · exact Dev.keeps_refl _ _

theorem Dev.sendBeat_keeps (y : Nat) (d : Dev) : Dev.keeps ⟨[.out, .tp], [], []⟩ d (Dev.sendBeat y d) := by
  unfold Dev.sendBeat
  dsimp -proj only
  refine Dev.keeps_step (by decide +kernel) (Dev.emit_keeps ..) ?_
  refine Dev.keeps_step (by decide +kernel) (Dev.emit_keeps ..) ?_
  refine Dev.keeps_tp _ (by decide +kernel) ?_
  exact Dev.keeps_refl _ _

theorem Dev.simplexCheck_keeps (d : Dev) : Dev.keeps ⟨[.tp, .fc], [F.FC_COND_COND], []⟩ d (Dev.simplexCheck d) := by
  unfold Dev.simplexCheck
  dsimp -proj only
  refine Dev.keeps_ite ?_ ?_
  · refine Dev.keeps_step (by decide +kernel) (Dev.cond_keeps ..) ?_
    refine Dev.keeps_tp _ (by decide +kernel) ?_
    exact Dev.keeps_refl _ _
  · exact Dev.keeps_refl _ _

theorem Dev.startProof_keeps (d : Dev) : Dev.keeps ⟨[.tp], [F.TP_CMD_BUSY, F.TP_PROOF_FAILED, F.TP_PROOF_STATE, F.TP_PROOF_STEP], []⟩ d
    (Dev.startProof d) := by
  unfold Dev.startProof
  dsimp -proj only
  refine Dev.keeps_step (by decide +kernel) (Dev.refreshBusy_keeps ..) ?_
  refine Dev.keeps_set _ _ _ _ (by decide +kernel) ?_
  refine Dev.keeps_set _ _ _ _ (by decide +kernel) ?_
  refine Dev.keeps_set _ _ _ _ (by decide +kernel) ?_
  refine Dev.keeps_tp _ (by decide +kernel) ?_
  exact Dev.keeps_refl _ _

theorem Dev.takeDonor_keeps (d : Dev) : Dev.keeps ⟨[.tp, .fc], [F.FC_COND_COND, F.GL_READY_TRIPLEX, F.TP_CH_STATE, F.TP_CMD_BUSY,
    F.TP_PROOF_RESULT, F.TP_PROOF_STATE, F.TP_PROOF_STEP, F.TP_STATE_DONOR, F.TP_STATE_FENCED, F.TP_STATE_IN_SERVICE, F.TP_STATE_RESYNC,
    F.TP_STATE_SIMPLEX_MS, F.TP_STATE_STATE], []⟩ d (Dev.takeDonor d) := by
  unfold Dev.takeDonor
  dsimp -proj only
  split
  · refine Dev.keeps_ite ?_ ?_
    · split
      · refine Dev.keeps_step (by decide +kernel) (Dev.setCh_keeps ..) ?_
        refine Dev.keeps_tp _ (by decide +kernel) ?_
        exact Dev.keeps_refl _ _
      · exact Dev.keeps_refl _ _
    · exact Dev.keeps_refl _ _
  · exact Dev.keeps_refl _ _

theorem Dev.tpCmd_keeps {S : Scope} (hS : Scope.le ⟨[], [F.HC_CTX_REFADDR_BAR2, F.HC_CTX_REFADDR_CAUSE, F.HC_CTX_REFADDR_OFFSET,
    F.HC_CTX_REFADDR_WRITE, F.HC_CTX_STAT_PARTIAL, F.HC_CTX_STAT_REFUSED, F.TP_CMD_RESULT], []⟩ S = true) (x : Nat) (code : Nat) (ch :
    Nat) (f : Dev → Dev) (d : Dev) (hf : ∀ (x0 : Dev), Dev.keeps S x0 (f x0)) : Dev.keeps S d (Dev.tpCmd x code ch f d) := by
  unfold Dev.tpCmd
  dsimp -proj only
  refine Dev.keeps_trans (Dev.hostWrite_keeps (Scope.le_trans (by decide +kernel) hS) _ _ _ _ ?_) ?_
  · intro _
    refine Dev.keeps_ite ?_ ?_
    · refine Dev.keeps_trans (hf _) ?_
      refine Dev.keeps_set _ _ _ _ (Scope.le_fld (by decide +kernel) hS) ?_
      exact Dev.keeps_refl _ _
    · refine Dev.keeps_set _ _ _ _ (Scope.le_fld (by decide +kernel) hS) ?_
      exact Dev.keeps_refl _ _
  · exact Dev.keeps_refl _ _

theorem channelSelfTestComplete_keeps (pass : Nat) (d : Dev) : Dev.keeps ⟨[.store, .chans, .tp, .fc], [F.FC_COND_COND, F.GL_READY_TRIPLEX,
    F.MO_JOURNAL_FILL, F.MO_JOURNAL_PENDING, F.PL_SLACK_LAST, F.PL_SLACK_WMIN, F.TP_CH_CAUSE, F.TP_CH_FENCES, F.TP_CH_SHADOW,
    F.TP_CH_STATE, F.TP_CMD_BUSY, F.TP_PROOF_RESULT, F.TP_PROOF_STATE, F.TP_PROOF_STEP, F.TP_STATE_DONOR, F.TP_STATE_FENCED,
    F.TP_STATE_IN_SERVICE, F.TP_STATE_RESYNC, F.TP_STATE_SIMPLEX_MS, F.TP_STATE_STATE, F.TP_VOTE_LATE_RUN], []⟩ d (channelSelfTestComplete
    pass d) := by
  unfold channelSelfTestComplete
  dsimp -proj only
  refine Dev.keeps_ite ?_ ?_
  · exact Dev.keeps_refl _ _
  · refine Dev.keeps_step (by decide +kernel) (Dev.autoResync_keeps ..) ?_
    refine Dev.keeps_each _ _ ?_ ?_
    · intro _ _
      refine Dev.keeps_step (by decide +kernel) (Dev.fenceChannel_keeps ..) ?_
      exact Dev.keeps_refl _ _
    · refine Dev.keeps_each _ _ ?_ ?_
      · intro _ _
        refine Dev.keeps_step (by decide +kernel) (Dev.setCh_keeps ..) ?_
        refine Dev.keeps_step (by decide +kernel) (Dev.modChan_keeps ..) ?_
        exact Dev.keeps_refl _ _
      · refine Dev.keeps_each _ _ ?_ ?_
        · intro _ _
          refine Dev.keeps_step (by decide +kernel) (Dev.setCh_keeps ..) ?_
          exact Dev.keeps_refl _ _
        · refine Dev.keeps_tp _ (by decide +kernel) ?_
          exact Dev.keeps_refl _ _

theorem clear_keeps (x : Nat) (ch : Nat) (d : Dev) : Dev.keeps ⟨[.store, .chans, .tp, .fc], [F.FC_COND_COND, F.GL_READY_TRIPLEX,
    F.HC_CTX_REFADDR_BAR2, F.HC_CTX_REFADDR_CAUSE, F.HC_CTX_REFADDR_OFFSET, F.HC_CTX_REFADDR_WRITE, F.HC_CTX_STAT_PARTIAL,
    F.HC_CTX_STAT_REFUSED, F.MO_JOURNAL_FILL, F.MO_JOURNAL_PENDING, F.TP_CH_FENCES, F.TP_CH_SHADOW, F.TP_CH_STATE, F.TP_CMD_BUSY,
    F.TP_CMD_RESULT, F.TP_PROOF_RESULT, F.TP_PROOF_STATE, F.TP_PROOF_STEP, F.TP_STATE_DONOR, F.TP_STATE_FENCED, F.TP_STATE_IN_SERVICE,
    F.TP_STATE_RESYNC, F.TP_STATE_SIMPLEX_MS, F.TP_STATE_STATE], []⟩ d (clear x ch d) := by
  unfold clear
  refine Dev.keeps_trans (Dev.tpCmd_keeps (by decide +kernel) _ _ _ _ _ ?_) ?_
  · intro _
    refine Dev.keeps_step (by decide +kernel) (Dev.autoResync_keeps ..) ?_
    refine Dev.keeps_step (by decide +kernel) (Dev.setCh_keeps ..) ?_
    refine Dev.setKept_keeps (by decide +kernel) _ _ _ _ (by decide +kernel) ?_
    exact Dev.keeps_refl _ _
  · exact Dev.keeps_refl _ _

theorem fence_keeps (x : Nat) (ch : Nat) (d : Dev) : Dev.keeps ⟨[.out, .store, .chans, .tp, .cm, .fc], [F.FC_COND_COND,
    F.GL_READY_TRIPLEX, F.HC_CTX_REFADDR_BAR2, F.HC_CTX_REFADDR_CAUSE, F.HC_CTX_REFADDR_OFFSET, F.HC_CTX_REFADDR_WRITE,
    F.HC_CTX_STAT_PARTIAL, F.HC_CTX_STAT_REFUSED, F.MO_JOURNAL_FILL, F.MO_JOURNAL_PENDING, F.PL_SLACK_LAST, F.PL_SLACK_WMIN,
    F.PL_STATUS_CONSEC, F.TP_CH_CAUSE, F.TP_CH_FENCES, F.TP_CH_SHADOW, F.TP_CH_STATE, F.TP_CH_STRIKES, F.TP_CMD_BUSY, F.TP_CMD_RESULT,
    F.TP_PROOF_RESULT, F.TP_PROOF_STATE, F.TP_PROOF_STEP, F.TP_STATE_DONOR, F.TP_STATE_FENCED, F.TP_STATE_IN_SERVICE, F.TP_STATE_RESYNC,
    F.TP_STATE_SIMPLEX_MS, F.TP_STATE_STATE, F.TP_VOTE_LATE_RUN, F.TP_VOTE_MINORITY], []⟩ d (fence x ch d) := by
  unfold fence
  refine Dev.keeps_trans (Dev.tpCmd_keeps (by decide +kernel) _ _ _ _ _ ?_) ?_
  · intro _
    refine Dev.keeps_step (by decide +kernel) (Dev.voteAll_keeps ..) ?_
    refine Dev.keeps_step (by decide +kernel) (Dev.fenceChannel_keeps ..) ?_
    exact Dev.keeps_refl _ _
  · exact Dev.keeps_refl _ _

theorem heartbeatMissing_keeps (x : Nat) (y : Nat) (path : Nat) (d : Dev) : Dev.keeps ⟨[.out, .store, .chans, .tp, .cm, .fc],
    [F.FC_COND_COND, F.GL_READY_TRIPLEX, F.MO_JOURNAL_FILL, F.MO_JOURNAL_PENDING, F.PL_SLACK_LAST, F.PL_SLACK_WMIN, F.PL_STATUS_CONSEC,
    F.TP_CH_CAUSE, F.TP_CH_FENCES, F.TP_CH_SHADOW, F.TP_CH_STATE, F.TP_CH_STRIKES, F.TP_CMD_BUSY, F.TP_HB_LINK_MISSING,
    F.TP_HB_PATH_FAULTS, F.TP_HB_PIN_MISSING, F.TP_PROOF_RESULT, F.TP_PROOF_STATE, F.TP_PROOF_STEP, F.TP_STATE_DONOR, F.TP_STATE_FENCED,
    F.TP_STATE_IN_SERVICE, F.TP_STATE_RESYNC, F.TP_STATE_SIMPLEX_MS, F.TP_STATE_STATE, F.TP_VOTE_LATE_RUN, F.TP_VOTE_MINORITY], []⟩ d
    (heartbeatMissing x y path d) := by
  unfold heartbeatMissing
  dsimp -proj only
  refine Dev.keeps_ite ?_ ?_
  · refine Dev.keeps_step (by decide +kernel) (Dev.judgeBeats_keeps ..) ?_
    refine Dev.keeps_step (by decide +kernel) (Dev.becomesMissing_keeps ..) ?_
    exact Dev.keeps_refl _ _
  · exact Dev.keeps_refl _ _

theorem heartbeatPeriod_keeps (d : Dev) : Dev.keeps ⟨[.out, .store, .chans, .tp, .cm, .fc], [F.FC_COND_COND, F.GL_READY_TRIPLEX,
    F.MO_JOURNAL_FILL, F.MO_JOURNAL_PENDING, F.PL_SLACK_LAST, F.PL_SLACK_WMIN, F.PL_STATUS_CONSEC, F.TP_CH_CAUSE, F.TP_CH_FENCES,
    F.TP_CH_SHADOW, F.TP_CH_STATE, F.TP_CH_STRIKES, F.TP_CMD_BUSY, F.TP_HB_LINK_MISSING, F.TP_HB_PATH_FAULTS, F.TP_HB_PIN_MISSING,
    F.TP_PROOF_RESULT, F.TP_PROOF_STATE, F.TP_PROOF_STEP, F.TP_STATE_DONOR, F.TP_STATE_FENCED, F.TP_STATE_IN_SERVICE, F.TP_STATE_RESYNC,
    F.TP_STATE_SIMPLEX_MS, F.TP_STATE_STATE, F.TP_VOTE_LATE_RUN, F.TP_VOTE_MINORITY], []⟩ d (heartbeatPeriod d) := by
  unfold heartbeatPeriod
  dsimp -proj only
  refine Dev.keeps_ite ?_ ?_
  · exact Dev.keeps_refl _ _
  · split
    · refine Dev.keeps_ite ?_ ?_
      · refine Dev.keeps_ite ?_ ?_
        · refine Dev.keeps_tp _ (by decide +kernel) ?_
          refine Dev.keeps_step (by decide +kernel) (Dev.takeDonor_keeps ..) ?_
          refine Dev.keeps_step (by decide +kernel) (Dev.judgeBeats_keeps ..) ?_
          refine Dev.keeps_each _ _ ?_ ?_
          · intro _ _
            refine Dev.keeps_each _ _ ?_ ?_
            · intro _ _
              refine Dev.keeps_each _ _ ?_ ?_
              · intro _ _
                refine Dev.keeps_ite ?_ ?_
                · refine Dev.keeps_step (by decide +kernel) (Dev.becomesMissing_keeps ..) ?_
                  exact Dev.keeps_refl _ _
                · exact Dev.keeps_refl _ _
              · exact Dev.keeps_refl _ _
            · exact Dev.keeps_refl _ _
          · refine Dev.keeps_each _ _ ?_ ?_
            · intro _ _
              refine Dev.keeps_step (by decide +kernel) (Dev.sendBeat_keeps ..) ?_
              exact Dev.keeps_refl _ _
            · refine Dev.keeps_tp _ (by decide +kernel) ?_
              exact Dev.keeps_refl _ _
        · refine Dev.keeps_step (by decide +kernel) (Dev.enterService_keeps ..) ?_
          refine Dev.keeps_step (by decide +kernel) (Dev.takeDonor_keeps ..) ?_
          refine Dev.keeps_step (by decide +kernel) (Dev.judgeBeats_keeps ..) ?_
          refine Dev.keeps_each _ _ ?_ ?_
          · intro _ _
            refine Dev.keeps_each _ _ ?_ ?_
            · intro _ _
              refine Dev.keeps_each _ _ ?_ ?_
              · intro _ _
                refine Dev.keeps_ite ?_ ?_
                · refine Dev.keeps_step (by decide +kernel) (Dev.becomesMissing_keeps ..) ?_
                  exact Dev.keeps_refl _ _
                · exact Dev.keeps_refl _ _
              · exact Dev.keeps_refl _ _
            · exact Dev.keeps_refl _ _
          · refine Dev.keeps_each _ _ ?_ ?_
            · intro _ _
              refine Dev.keeps_step (by decide +kernel) (Dev.sendBeat_keeps ..) ?_
              exact Dev.keeps_refl _ _
            · refine Dev.keeps_tp _ (by decide +kernel) ?_
              exact Dev.keeps_refl _ _
      · refine Dev.keeps_step (by decide +kernel) (Dev.takeDonor_keeps ..) ?_
        refine Dev.keeps_step (by decide +kernel) (Dev.judgeBeats_keeps ..) ?_
        refine Dev.keeps_each _ _ ?_ ?_
        · intro _ _
          refine Dev.keeps_each _ _ ?_ ?_
          · intro _ _
            refine Dev.keeps_each _ _ ?_ ?_
            · intro _ _
              refine Dev.keeps_ite ?_ ?_
              · refine Dev.keeps_step (by decide +kernel) (Dev.becomesMissing_keeps ..) ?_
                exact Dev.keeps_refl _ _
              · exact Dev.keeps_refl _ _
            · exact Dev.keeps_refl _ _
          · exact Dev.keeps_refl _ _
        · refine Dev.keeps_each _ _ ?_ ?_
          · intro _ _
            refine Dev.keeps_step (by decide +kernel) (Dev.sendBeat_keeps ..) ?_
            exact Dev.keeps_refl _ _
          · refine Dev.keeps_tp _ (by decide +kernel) ?_
            exact Dev.keeps_refl _ _
    · refine Dev.keeps_step (by decide +kernel) (Dev.takeDonor_keeps ..) ?_
      refine Dev.keeps_step (by decide +kernel) (Dev.judgeBeats_keeps ..) ?_
      refine Dev.keeps_each _ _ ?_ ?_
      · intro _ _
        refine Dev.keeps_each _ _ ?_ ?_
        · intro _ _
          refine Dev.keeps_each _ _ ?_ ?_
          · intro _ _
            refine Dev.keeps_ite ?_ ?_
            · refine Dev.keeps_step (by decide +kernel) (Dev.becomesMissing_keeps ..) ?_
              exact Dev.keeps_refl _ _
            · exact Dev.keeps_refl _ _
          · exact Dev.keeps_refl _ _
        · exact Dev.keeps_refl _ _
      · refine Dev.keeps_each _ _ ?_ ?_
        · intro _ _
          refine Dev.keeps_step (by decide +kernel) (Dev.sendBeat_keeps ..) ?_
          exact Dev.keeps_refl _ _
        · refine Dev.keeps_tp _ (by decide +kernel) ?_
          exact Dev.keeps_refl _ _

theorem heartbeatReceived_keeps (x : Nat) (y : Nat) (path : Nat) (seq : Nat) (d : Dev) : Dev.keeps ⟨[.tp, .fc], [F.TP_HB_LINK_MISSING,
    F.TP_HB_PATH_FAULTS, F.TP_HB_PIN_MISSING], []⟩ d (heartbeatReceived x y path seq d) := by
  unfold heartbeatReceived
  dsimp -proj only
  refine Dev.keeps_ite ?_ ?_
  · exact Dev.keeps_refl _ _
  · refine Dev.keeps_ite ?_ ?_
    · refine Dev.keeps_step (by decide +kernel) (Dev.pathFault_keeps ..) ?_
      refine Dev.keeps_step (by decide +kernel) (Dev.setMissing_keeps ..) ?_
      refine Dev.keeps_tp _ (by decide +kernel) ?_
      exact Dev.keeps_refl _ _
    · refine Dev.keeps_step (by decide +kernel) (Dev.setMissing_keeps ..) ?_
      refine Dev.keeps_tp _ (by decide +kernel) ?_
      exact Dev.keeps_refl _ _

theorem proof_keeps (x : Nat) (ch : Nat) (d : Dev) : Dev.keeps ⟨[.tp], [F.HC_CTX_REFADDR_BAR2, F.HC_CTX_REFADDR_CAUSE,
    F.HC_CTX_REFADDR_OFFSET, F.HC_CTX_REFADDR_WRITE, F.HC_CTX_STAT_PARTIAL, F.HC_CTX_STAT_REFUSED, F.TP_CMD_BUSY, F.TP_CMD_RESULT,
    F.TP_PROOF_FAILED, F.TP_PROOF_STATE, F.TP_PROOF_STEP], []⟩ d (proof x ch d) := by
  unfold proof
  refine Dev.keeps_trans (Dev.tpCmd_keeps (by decide +kernel) _ _ _ _ _ ?_) ?_
  · intro _
    refine Dev.keeps_step (by decide +kernel) (Dev.startProof_keeps ..) ?_
    exact Dev.keeps_refl _ _
  · exact Dev.keeps_refl _ _

theorem proofPeriodExpiry_keeps (d : Dev) : Dev.keeps ⟨[.tp], [F.TP_CMD_BUSY, F.TP_PROOF_FAILED, F.TP_PROOF_STATE, F.TP_PROOF_STEP], []⟩ d
    (proofPeriodExpiry d) := by
  unfold proofPeriodExpiry
  dsimp -proj only
  refine Dev.keeps_ite ?_ ?_
  · refine Dev.keeps_step (by decide +kernel) (Dev.startProof_keeps ..) ?_
    exact Dev.keeps_refl _ _
  · exact Dev.keeps_refl _ _

theorem proofRunComplete_keeps (a0 : Nat) (d : Dev) : Dev.keeps ⟨[.out, .store, .chans, .tp, .cm, .fc], [F.FC_COND_COND,
    F.GL_READY_TRIPLEX, F.MO_JOURNAL_FILL, F.MO_JOURNAL_PENDING, F.PL_SLACK_LAST, F.PL_SLACK_WMIN, F.PL_STATUS_CONSEC, F.TP_CH_CAUSE,
    F.TP_CH_FENCES, F.TP_CH_SHADOW, F.TP_CH_STATE, F.TP_CH_STRIKES, F.TP_CMD_BUSY, F.TP_PROOF_FAILED, F.TP_PROOF_RESULT, F.TP_PROOF_STATE,
    F.TP_PROOF_STEP, F.TP_STATE_DONOR, F.TP_STATE_FENCED, F.TP_STATE_IN_SERVICE, F.TP_STATE_RESYNC, F.TP_STATE_SIMPLEX_MS,
    F.TP_STATE_STATE, F.TP_VOTE_LATE_RUN, F.TP_VOTE_MINORITY], []⟩ d (proofRunComplete a0 d) := by
  unfold proofRunComplete
  dsimp -proj only
  refine Dev.keeps_ite ?_ ?_
  · exact Dev.keeps_refl _ _
  · refine Dev.keeps_ite ?_ ?_
    · refine Dev.keeps_set _ _ _ _ (by decide +kernel) ?_
      refine Dev.keeps_set _ _ _ _ (by decide +kernel) ?_
      refine Dev.keeps_set _ _ _ _ (by decide +kernel) ?_
      refine Dev.keeps_step (by decide +kernel) (Dev.refreshBusy_keeps ..) ?_
      refine Dev.keeps_set _ _ _ _ (by decide +kernel) ?_
      refine Dev.keeps_tp _ (by decide +kernel) ?_
      exact Dev.keeps_refl _ _
    · refine Dev.keeps_ite ?_ ?_
      · refine Dev.keeps_step (by decide +kernel) (Dev.raise_keeps ..) ?_
        refine Dev.keeps_set _ _ _ _ (by decide +kernel) ?_
        refine Dev.keeps_set _ _ _ _ (by decide +kernel) ?_
        refine Dev.keeps_set _ _ _ _ (by decide +kernel) ?_
        refine Dev.keeps_step (by decide +kernel) (Dev.refreshBusy_keeps ..) ?_
        refine Dev.keeps_set _ _ _ _ (by decide +kernel) ?_
        refine Dev.keeps_tp _ (by decide +kernel) ?_
        exact Dev.keeps_refl _ _
      · refine Dev.keeps_step (by decide +kernel) (Dev.voteAll_keeps ..) ?_
        refine Dev.keeps_each _ _ ?_ ?_
        · intro _ _
          refine Dev.keeps_step (by decide +kernel) (Dev.fenceChannel_keeps ..) ?_
          exact Dev.keeps_refl _ _
        · refine Dev.keeps_set _ _ _ _ (by decide +kernel) ?_
          refine Dev.keeps_set _ _ _ _ (by decide +kernel) ?_
          refine Dev.keeps_set _ _ _ _ (by decide +kernel) ?_
          refine Dev.keeps_step (by decide +kernel) (Dev.refreshBusy_keeps ..) ?_
          refine Dev.keeps_set _ _ _ _ (by decide +kernel) ?_
          refine Dev.keeps_tp _ (by decide +kernel) ?_
          exact Dev.keeps_refl _ _

theorem repairComplete_keeps (pass : Bool) (d : Dev) : Dev.keeps ⟨[.store, .chans, .tp, .fc], [F.FC_COND_COND, F.GL_READY_TRIPLEX,
    F.MO_JOURNAL_FILL, F.MO_JOURNAL_PENDING, F.PL_SLACK_LAST, F.PL_SLACK_WMIN, F.TP_CH_CAUSE, F.TP_CH_FENCES, F.TP_CH_SHADOW,
    F.TP_CH_STATE, F.TP_CMD_BUSY, F.TP_PROOF_RESULT, F.TP_PROOF_STATE, F.TP_PROOF_STEP, F.TP_STATE_DONOR, F.TP_STATE_FENCED,
    F.TP_STATE_IN_SERVICE, F.TP_STATE_RESYNC, F.TP_STATE_SIMPLEX_MS, F.TP_STATE_STATE, F.TP_VOTE_LATE_RUN], []⟩ d (repairComplete pass d)
    := by
  unfold repairComplete
  dsimp -proj only
  split
  · refine Dev.keeps_ite ?_ ?_
    · refine Dev.keeps_ite ?_ ?_
      · refine Dev.keeps_step (by decide +kernel) (Dev.takeDonor_keeps ..) ?_
        refine Dev.keeps_tp _ (by decide +kernel) ?_
        exact Dev.keeps_refl _ _
      · refine Dev.keeps_step (by decide +kernel) (Dev.fenceChannel_keeps ..) ?_
        exact Dev.keeps_refl _ _
    · exact Dev.keeps_refl _ _
  · exact Dev.keeps_refl _ _

theorem resync_keeps (x : Nat) (ch : Nat) (d : Dev) : Dev.keeps ⟨[.chans, .tp, .fc], [F.FC_COND_COND, F.GL_READY_TRIPLEX,
    F.HC_CTX_REFADDR_BAR2, F.HC_CTX_REFADDR_CAUSE, F.HC_CTX_REFADDR_OFFSET, F.HC_CTX_REFADDR_WRITE, F.HC_CTX_STAT_PARTIAL,
    F.HC_CTX_STAT_REFUSED, F.TP_CH_SHADOW, F.TP_CH_STATE, F.TP_CMD_BUSY, F.TP_CMD_RESULT, F.TP_PROOF_RESULT, F.TP_PROOF_STATE,
    F.TP_PROOF_STEP, F.TP_STATE_DONOR, F.TP_STATE_FENCED, F.TP_STATE_IN_SERVICE, F.TP_STATE_RESYNC, F.TP_STATE_SIMPLEX_MS,
    F.TP_STATE_STATE], []⟩ d (resync x ch d) := by
  unfold resync
  refine Dev.keeps_trans (Dev.tpCmd_keeps (by decide +kernel) _ _ _ _ _ ?_) ?_
  · intro _
    refine Dev.keeps_step (by decide +kernel) (Dev.startResync_keeps ..) ?_
    exact Dev.keeps_refl _ _
  · exact Dev.keeps_refl _ _

theorem resyncTimeout_keeps (d : Dev) : Dev.keeps ⟨[.out, .store, .chans, .tp, .cm, .fc], [F.FC_COND_COND, F.GL_READY_TRIPLEX,
    F.MO_JOURNAL_FILL, F.MO_JOURNAL_PENDING, F.PL_SLACK_LAST, F.PL_SLACK_WMIN, F.PL_STATUS_CONSEC, F.TP_CH_CAUSE, F.TP_CH_FENCES,
    F.TP_CH_SHADOW, F.TP_CH_STATE, F.TP_CH_STRIKES, F.TP_CMD_BUSY, F.TP_PROOF_RESULT, F.TP_PROOF_STATE, F.TP_PROOF_STEP, F.TP_STATE_DONOR,
    F.TP_STATE_FENCED, F.TP_STATE_IN_SERVICE, F.TP_STATE_RESYNC, F.TP_STATE_SIMPLEX_MS, F.TP_STATE_STATE, F.TP_VOTE_LATE_RUN,
    F.TP_VOTE_MINORITY], []⟩ d (resyncTimeout d) := by
  unfold resyncTimeout
  split
  · refine Dev.keeps_ite ?_ ?_
    · refine Dev.keeps_step (by decide +kernel) (Dev.voteAll_keeps ..) ?_
      refine Dev.keeps_step (by decide +kernel) (Dev.fenceChannel_keeps ..) ?_
      exact Dev.keeps_refl _ _
    · exact Dev.keeps_refl _ _
  · exact Dev.keeps_refl _ _

theorem shadowComplete_keeps (d : Dev) : Dev.keeps ⟨[.chans, .tp, .fc], [F.FC_COND_COND, F.GL_READY_TRIPLEX, F.TP_CH_SHADOW,
    F.TP_CH_STATE, F.TP_CMD_BUSY, F.TP_PROOF_RESULT, F.TP_PROOF_STATE, F.TP_PROOF_STEP, F.TP_STATE_DONOR, F.TP_STATE_FENCED,
    F.TP_STATE_IN_SERVICE, F.TP_STATE_RESYNC, F.TP_STATE_SIMPLEX_MS, F.TP_STATE_STATE], []⟩ d (shadowComplete d) := by
  unfold shadowComplete
  dsimp -proj only
  split
  · refine Dev.keeps_ite ?_ ?_
    · refine Dev.keeps_step (by decide +kernel) (Dev.enterService_keeps ..) ?_
      exact Dev.keeps_refl _ _
    · exact Dev.keeps_refl _ _
  · exact Dev.keeps_refl _ _

theorem simplexLimit_keeps (d : Dev) : Dev.keeps ⟨[.tp, .fc], [F.FC_COND_COND], []⟩ d (simplexLimit d) := by
  unfold simplexLimit
  refine Dev.keeps_step (by decide +kernel) (Dev.simplexCheck_keeps ..) ?_
  exact Dev.keeps_refl _ _

theorem tileCopyComplete_keeps (d : Dev) : Dev.keeps ⟨[.chans, .tp, .fc], [F.FC_COND_COND, F.GL_READY_TRIPLEX, F.TP_CH_SHADOW,
    F.TP_CH_STATE, F.TP_CMD_BUSY, F.TP_PROOF_RESULT, F.TP_PROOF_STATE, F.TP_PROOF_STEP, F.TP_STATE_DONOR, F.TP_STATE_FENCED,
    F.TP_STATE_IN_SERVICE, F.TP_STATE_RESYNC, F.TP_STATE_SIMPLEX_MS, F.TP_STATE_STATE], []⟩ d (tileCopyComplete d) := by
  unfold tileCopyComplete
  dsimp -proj only
  split
  · split
    · split
      · refine Dev.keeps_ite ?_ ?_
        · exact Dev.keeps_refl _ _
        · refine Dev.keeps_ite ?_ ?_
          · refine Dev.keeps_step (by decide +kernel) (Dev.backToRepair_keeps ..) ?_
            exact Dev.keeps_refl _ _
          · refine Dev.keeps_tp _ (by decide +kernel) ?_
            refine Dev.keeps_step (by decide +kernel) (Dev.copyTile_keeps ..) ?_
            exact Dev.keeps_refl _ _
      · exact Dev.keeps_refl _ _
    · exact Dev.keeps_refl _ _
  · exact Dev.keeps_refl _ _

theorem tileCopyTimeout_keeps (d : Dev) : Dev.keeps ⟨[.chans, .tp, .fc], [F.FC_COND_COND, F.GL_READY_TRIPLEX, F.TP_CH_SHADOW,
    F.TP_CH_STATE, F.TP_CMD_BUSY, F.TP_PROOF_RESULT, F.TP_PROOF_STATE, F.TP_PROOF_STEP, F.TP_STATE_DONOR, F.TP_STATE_FENCED,
    F.TP_STATE_IN_SERVICE, F.TP_STATE_RESYNC, F.TP_STATE_SIMPLEX_MS, F.TP_STATE_STATE], []⟩ d (tileCopyTimeout d) := by
  unfold tileCopyTimeout
  split
  · refine Dev.keeps_ite ?_ ?_
    · refine Dev.keeps_step (by decide +kernel) (Dev.backToRepair_keeps ..) ?_
      exact Dev.keeps_refl _ _
    · exact Dev.keeps_refl _ _
  · exact Dev.keeps_refl _ _

theorem tpCfgWrite_keeps (x : Nat) (v : Nat) (d : Dev) : Dev.keeps ⟨[.store, .chans, .tp, .fc], [F.FC_COND_COND, F.GL_READY_TRIPLEX,
    F.HC_CTX_REFADDR_BAR2, F.HC_CTX_REFADDR_CAUSE, F.HC_CTX_REFADDR_OFFSET, F.HC_CTX_REFADDR_WRITE, F.HC_CTX_STAT_PARTIAL,
    F.HC_CTX_STAT_REFUSED, F.MO_JOURNAL_FILL, F.MO_JOURNAL_PENDING, F.TP_CFG_AUTO_RESYNC, F.TP_CFG_FENCE_MAX, F.TP_CFG_LATE_N,
    F.TP_CFG_PROOF_PERIOD, F.TP_CFG_SIMPLEX_LIMIT, F.TP_CH_SHADOW, F.TP_CH_STATE, F.TP_CMD_BUSY, F.TP_PROOF_RESULT, F.TP_PROOF_STATE,
    F.TP_PROOF_STEP, F.TP_STATE_DONOR, F.TP_STATE_FENCED, F.TP_STATE_IN_SERVICE, F.TP_STATE_RESYNC, F.TP_STATE_SIMPLEX_MS,
    F.TP_STATE_STATE], []⟩ d (tpCfgWrite x v d) := by
  unfold tpCfgWrite
  dsimp -proj only
  refine Dev.keeps_trans (Dev.hostWrite_keeps (by decide +kernel) _ _ _ _ ?_) ?_
  · intro _
    split
    · exact Dev.keeps_refl _ _
    · refine Dev.keeps_step (by decide +kernel) (Dev.autoResync_keeps ..) ?_
      refine Dev.keeps_step (by decide +kernel) (Dev.simplexCheck_keeps ..) ?_
      refine Dev.keeps_each _ _ ?_ ?_
      · intro _ _
        refine Dev.keeps_ite ?_ ?_
        · refine Dev.keeps_step (by decide +kernel) (Dev.setCh_keeps ..) ?_
          exact Dev.keeps_refl _ _
        · exact Dev.keeps_refl _ _
      · refine Dev.keeps_trans (Dev.writeFound_keeps (by decide +kernel) 0x60004 (by decide +kernel) _ (by assumption) _ _ _) ?_
        exact Dev.keeps_refl _ _
  · exact Dev.keeps_refl _ _

end Sys2Proof.Machine
end

