-- ==== Sys2Proof/Laws/KeepsVoters.lean ====
section
/-! SUPPORT. What the operations of Machine/Voters.lean may change at most, one lemma each. -/

namespace Sys2Proof.Machine

set_option Elab.async false

theorem Dev.digestAtDe_keeps (g : Nat) (d : Dev) : Dev.keeps ⟨[.out, .grps, .chans, .cm, .fc, .dma], [F.FC_COND_COND, F.GP_ANGLE_ANGLE,
    F.GP_CIRC_IZ, F.GP_CIRC_IZREF, F.GP_COMP_ACTING, F.GP_COMP_SAT, F.GP_CURLIM_FORM_VIRT, F.GP_CURLIM_IMAX_ACTIVE, F.GP_CURLIM_LIMITED,
    F.GP_CURLIM_VOUT_SAT, F.GP_DCMEAS_IDC, F.GP_DCMEAS_VDC, F.GP_ENERGY_ETOT, F.GP_ENERGY_PDEM, F.GP_FEEDBACK_ALT, F.GP_FEEDBACK_DISAGREE,
    F.GP_FEEDBACK_HOLD, F.GP_FEEDBACK_LOST_RAISED, F.GP_FEEDBACK_VALID, F.GP_HARVEST_BEST_PBEST, F.GP_HARVEST_BEST_VBEST,
    F.GP_HARVEST_CMD_RESULT, F.GP_HARVEST_DIR, F.GP_HARVEST_FROZEN, F.GP_HARVEST_STATE, F.GP_HARVEST_VTGT, F.GP_ISLAND_ACTION,
    F.GP_ISLAND_BLANKED, F.GP_ISLAND_CRITERIA, F.GP_ISLAND_DETECTED, F.GP_ISLAND_Z, F.GP_JUMP_SEAT, F.GP_LEG_DIFF, F.GP_LEG_ELEG,
    F.GP_PQ_P, F.GP_PQ_Q, F.GP_RIDE_COUNT, F.GP_RIDE_ENTRY_AC, F.GP_RIDE_ENTRY_DC, F.GP_RIDE_EXITING, F.GP_RIDE_REPEAT_BLOCK,
    F.GP_RIDE_TIME_ELAPSED, F.GP_RIDE_TRIP_CURVE, F.GP_RIDE_VPRE, F.GP_SYNC_FLYWHEEL, F.GP_SYNC_FORMING, F.GP_SYNC_FREQ, F.GP_SYNC_LOCKED,
    F.GP_VSEQ_VNEG, F.GP_VSEQ_VPOS, F.PL_ARM_COUNT_COUNT, F.PL_ARM_COUNT_FRAC, F.PL_ARM_CURRENT_IARM, F.PL_ARM_CURRENT_UREF,
    F.PL_ARM_ENERGY_EARM, F.PL_ARM_ENERGY_VBAR, F.PL_ARM_STATUS_ENERGY_RAISED, F.PL_ARM_STATUS_ILIM, F.PL_ARM_STATUS_OVER,
    F.PL_ARM_STATUS_OVM_RAISED, F.PL_ARM_STATUS_PRESENT, F.PL_ARM_STATUS_SIGN, F.PL_ARM_STATUS_TRIP_RAISED, F.PL_ARM_STATUS_UNDER,
    F.PL_ARM_STATUS_ZHOLD, F.PL_ARM_STATUS_ZREF_SAT, F.PL_CHOP_PDIS, F.PL_CHOP_STATE, F.PL_RANK_BOUND_BOUND, F.PL_RANK_BOUND_ON_LEN,
    F.PL_RANK_FAULTS_PARKS, F.PL_RANK_STATUS_DISPUTE_RAISED, F.PL_RANK_STATUS_DROPPED, F.PL_RANK_STATUS_ECHO_RAISED,
    F.PL_RANK_STATUS_HOLES, F.PL_RANK_STATUS_NRANK, F.PL_RANK_STATUS_PARKED, F.PL_RANK_STATUS_SORTED, F.PL_RANK_STATUS_STRETCHED,
    F.PL_RANK_SWAPS_APPLIED, F.PL_RANK_SWAPS_DEFERRED], []⟩ d (Dev.digestAtDe g d) := by
  unfold Dev.digestAtDe
  dsimp -proj only
  refine Dev.keeps_ite ?_ ?_
  · exact Dev.keeps_refl _ _
  · refine Dev.keeps_step (by decide +kernel) (Dev.modGrp_keeps ..) ?_
    refine Dev.keeps_each _ _ ?_ ?_
    · intro _ _
      refine Dev.keeps_foldl _ _ ?_ ?_
      · intro _ _
        refine Dev.keeps_step (by decide +kernel) (Dev.settleJobs_keeps ..) ?_
        exact Dev.keeps_refl _ _
      · exact Dev.keeps_refl _ _
    · exact Dev.keeps_refl _ _

theorem Dev.digestBad_keeps (ch : Nat) (d : Dev) : Dev.keeps ⟨[.store, .chans, .tp, .fc], [F.FC_COND_COND, F.GL_READY_TRIPLEX,
    F.MO_JOURNAL_FILL, F.MO_JOURNAL_PENDING, F.PL_SLACK_LAST, F.PL_SLACK_WMIN, F.TP_CH_CAUSE, F.TP_CH_FENCES, F.TP_CH_SHADOW,
    F.TP_CH_STATE, F.TP_CH_STRIKES, F.TP_CMD_BUSY, F.TP_PROOF_RESULT, F.TP_PROOF_STATE, F.TP_PROOF_STEP, F.TP_STATE_DONOR,
    F.TP_STATE_FENCED, F.TP_STATE_IN_SERVICE, F.TP_STATE_RESYNC, F.TP_STATE_SIMPLEX_MS, F.TP_STATE_STATE, F.TP_VOTE_DIGEST_BAD,
    F.TP_VOTE_LATE_RUN], []⟩ d (Dev.digestBad ch d) := by
  unfold Dev.digestBad
  refine Dev.keeps_step (by decide +kernel) (Dev.fenceChannel_keeps ..) ?_
  refine Dev.keeps_count _ _ _ (by decide +kernel) ?_
  refine Dev.keeps_count _ _ _ (by decide +kernel) ?_
  exact Dev.keeps_refl _ _

theorem Dev.endLatched_keeps (g : Nat) (forced : Bool) (d : Dev) : Dev.keeps ⟨[], [F.GP_MODE_STATUS_RESULT, F.GP_MODE_STATUS_TAG], []⟩ d
    (Dev.endLatched g forced d) := by
  unfold Dev.endLatched
  split
  · exact Dev.keeps_refl _ _
  · refine Dev.keeps_ite ?_ ?_
    · refine Dev.keeps_set _ _ _ _ (by decide +kernel) ?_
      refine Dev.keeps_set _ _ _ _ (by decide +kernel) ?_
      exact Dev.keeps_refl _ _
    · refine Dev.keeps_ite ?_ ?_
      · refine Dev.keeps_set _ _ _ _ (by decide +kernel) ?_
        refine Dev.keeps_set _ _ _ _ (by decide +kernel) ?_
        exact Dev.keeps_refl _ _
      · exact Dev.keeps_refl _ _

theorem Dev.forceShown_keeps (g : Nat) (d : Dev) : Dev.keeps ⟨[.out, .store, .grps, .host], [F.GP_HANDOVER_FADE_LEFT,
    F.GP_LINETEST_OUTCOME, F.GP_MODE_CAUSE, F.GP_MODE_DEBLOCKED, F.GP_MODE_FADING, F.GP_MODE_MODE, F.GP_MODE_PREV, F.GP_MODE_SINCE_CYCLE,
    F.GP_MODE_STATUS_RESULT, F.GP_MODE_STATUS_TAG, F.HC_IRQ_STAT_STAT, F.MO_JOURNAL_FILL, F.MO_JOURNAL_PENDING], []⟩ d (Dev.forceShown g
    d) := by
  unfold Dev.forceShown
  dsimp -proj only
  split
  · refine Dev.keeps_step (by decide +kernel) (Dev.endLatched_keeps ..) ?_
    exact Dev.keeps_refl _ _
  · refine Dev.keeps_ite ?_ ?_
    · refine Dev.keeps_step (by decide +kernel) (Dev.endLatched_keeps ..) ?_
      exact Dev.keeps_refl _ _
    · refine Dev.keeps_ite ?_ ?_
      · refine Dev.keeps_set _ _ _ _ (by decide +kernel) ?_
        refine Dev.keeps_step (by decide +kernel) (Dev.endLatched_keeps ..) ?_
        refine Dev.keeps_set _ _ _ _ (by decide +kernel) ?_
        refine Dev.keeps_flag _ _ _ _ (by decide +kernel) ?_
        refine Dev.keeps_flag _ _ _ _ (by decide +kernel) ?_
        refine Dev.keeps_set _ _ _ _ (by decide +kernel) ?_
        refine Dev.keeps_set _ _ _ _ (by decide +kernel) ?_
        refine Dev.keeps_set _ _ _ _ (by decide +kernel) ?_
        refine Dev.keeps_step (by decide +kernel) (Dev.modGrp_keeps ..) ?_
        refine Dev.keeps_step (by decide +kernel) (Dev.eventAll_keeps ..) ?_
        refine Dev.setKept_keeps (by decide +kernel) _ _ _ _ (by decide +kernel) ?_
        exact Dev.keeps_refl _ _
      · refine Dev.keeps_step (by decide +kernel) (Dev.endLatched_keeps ..) ?_
        refine Dev.keeps_set _ _ _ _ (by decide +kernel) ?_
        refine Dev.keeps_flag _ _ _ _ (by decide +kernel) ?_
        refine Dev.keeps_flag _ _ _ _ (by decide +kernel) ?_
        refine Dev.keeps_set _ _ _ _ (by decide +kernel) ?_
        refine Dev.keeps_set _ _ _ _ (by decide +kernel) ?_
        refine Dev.keeps_set _ _ _ _ (by decide +kernel) ?_
        refine Dev.keeps_step (by decide +kernel) (Dev.modGrp_keeps ..) ?_
        refine Dev.keeps_step (by decide +kernel) (Dev.eventAll_keeps ..) ?_
        refine Dev.setKept_keeps (by decide +kernel) _ _ _ _ (by decide +kernel) ?_
        exact Dev.keeps_refl _ _

theorem Dev.hubPrecond_keeps (g : Nat) (d : Dev) : Dev.keeps ⟨[], [F.GP_PRECOND_FAULT_CLEAR, F.GP_PRECOND_INTERLOCK_OK,
    F.GP_PRECOND_LEAD_OK, F.GP_PRECOND_SAFETY_OK, F.GP_PRECOND_SP_VALID, F.GP_PRECOND_TRIPLEX_OK], []⟩ d (Dev.hubPrecond g d) := by
  unfold Dev.hubPrecond
  dsimp -proj only
  refine Dev.keeps_set _ _ _ _ (by decide +kernel) ?_
  refine Dev.keeps_flag _ _ _ _ (by decide +kernel) ?_
  refine Dev.keeps_flag _ _ _ _ (by decide +kernel) ?_
  refine Dev.keeps_flag _ _ _ _ (by decide +kernel) ?_
  refine Dev.keeps_flag _ _ _ _ (by decide +kernel) ?_
  refine Dev.keeps_flag _ _ _ _ (by decide +kernel) ?_
  exact Dev.keeps_refl _ _

theorem Dev.setLate_keeps (ch : Nat) (t : Nat) (n : Nat) (d : Dev) : Dev.keeps ⟨[.tp], [F.TP_VOTE_LATE_RUN], []⟩ d (Dev.setLate ch t n d)
    := by
  unfold Dev.setLate
  dsimp -proj only
  refine Dev.keeps_set _ _ _ _ (by decide +kernel) ?_
  refine Dev.keeps_step (by decide +kernel) (Dev.modVote_keeps ..) ?_
  exact Dev.keeps_refl _ _

theorem Dev.lateSet_keeps (ch : Nat) (g : Nat) (t : Nat) (d : Dev) : Dev.keeps ⟨[.out, .store, .chans, .tp, .cm, .fc], [F.FC_COND_COND,
    F.GL_READY_TRIPLEX, F.MO_JOURNAL_FILL, F.MO_JOURNAL_PENDING, F.PL_SLACK_LAST, F.PL_SLACK_WMIN, F.PL_STATUS_CONSEC, F.TP_CH_CAUSE,
    F.TP_CH_FENCES, F.TP_CH_SHADOW, F.TP_CH_STATE, F.TP_CH_STRIKES, F.TP_CMD_BUSY, F.TP_PROOF_RESULT, F.TP_PROOF_STATE, F.TP_PROOF_STEP,
    F.TP_STATE_DONOR, F.TP_STATE_FENCED, F.TP_STATE_IN_SERVICE, F.TP_STATE_RESYNC, F.TP_STATE_SIMPLEX_MS, F.TP_STATE_STATE,
    F.TP_VOTE_LATE, F.TP_VOTE_LATE_RUN, F.TP_VOTE_MINORITY], []⟩ d (Dev.lateSet ch g t d) := by
  unfold Dev.lateSet
  dsimp -proj only
  refine Dev.keeps_ite ?_ ?_
  · refine Dev.keeps_step (by decide +kernel) (Dev.voteAll_keeps ..) ?_
    refine Dev.keeps_step (by decide +kernel) (Dev.fenceChannel_keeps ..) ?_
    refine Dev.keeps_ite ?_ ?_
    · refine Dev.keeps_tp _ (by decide +kernel) ?_
      refine Dev.keeps_step (by decide +kernel) (Dev.setLate_keeps ..) ?_
      refine Dev.keeps_count _ _ _ (by decide +kernel) ?_
      exact Dev.keeps_refl _ _
    · refine Dev.keeps_step (by decide +kernel) (Dev.setLate_keeps ..) ?_
      refine Dev.keeps_count _ _ _ (by decide +kernel) ?_
      exact Dev.keeps_refl _ _
  · refine Dev.keeps_ite ?_ ?_
    · refine Dev.keeps_tp _ (by decide +kernel) ?_
      refine Dev.keeps_step (by decide +kernel) (Dev.setLate_keeps ..) ?_
      refine Dev.keeps_count _ _ _ (by decide +kernel) ?_
      exact Dev.keeps_refl _ _
    · refine Dev.keeps_step (by decide +kernel) (Dev.setLate_keeps ..) ?_
      refine Dev.keeps_count _ _ _ (by decide +kernel) ?_
      exact Dev.keeps_refl _ _

theorem Dev.missCycle_keeps (t : Nat) (tc : TileCfg) (deTick : Nat) (limit : Nat) (d : Dev) : Dev.keeps ⟨[.cm, .fc], [F.PL_MISSES_COUNT,
    F.PL_STATUS_CONSEC, F.PL_STATUS_MISSED], []⟩ d (Dev.missCycle t tc deTick limit d) := by
  unfold Dev.missCycle
  dsimp -proj only
  refine Dev.keeps_ite ?_ ?_
  · refine Dev.keeps_step (by decide +kernel) (Dev.raise_keeps ..) ?_
    refine Dev.keeps_each _ _ ?_ ?_
    · intro _ _
      refine Dev.keeps_step (by decide +kernel) (Dev.modCrs_keeps ..) ?_
      exact Dev.keeps_refl _ _
    · refine Dev.keeps_set _ _ _ _ (by decide +kernel) ?_
      refine Dev.keeps_count _ _ _ (by decide +kernel) ?_
      refine Dev.keeps_flag _ _ _ _ (by decide +kernel) ?_
      exact Dev.keeps_refl _ _
  · refine Dev.keeps_each _ _ ?_ ?_
    · intro _ _
      refine Dev.keeps_step (by decide +kernel) (Dev.modCrs_keeps ..) ?_
      exact Dev.keeps_refl _ _
    · refine Dev.keeps_set _ _ _ _ (by decide +kernel) ?_
      refine Dev.keeps_count _ _ _ (by decide +kernel) ?_
      refine Dev.keeps_flag _ _ _ _ (by decide +kernel) ?_
      exact Dev.keeps_refl _ _

theorem Dev.showShadow_keeps (d : Dev) : Dev.keeps ⟨[], [F.TP_CH_SHADOW], []⟩ d (Dev.showShadow d) := by
  unfold Dev.showShadow
  dsimp -proj only
  split
  · exact Dev.keeps_refl _ _
  · refine Dev.keeps_set _ _ _ _ (by decide +kernel) ?_
    exact Dev.keeps_refl _ _

theorem Dev.resyncAtDe_keeps (g : Nat) (d : Dev) : Dev.keeps ⟨[.tp], [F.TP_CH_SHADOW], []⟩ d (Dev.resyncAtDe g d) := by
  unfold Dev.resyncAtDe
  dsimp -proj only
  split
  · exact Dev.keeps_refl _ _
  · refine Dev.keeps_ite ?_ ?_
    · refine Dev.keeps_step (by decide +kernel) (Dev.showShadow_keeps ..) ?_
      refine Dev.keeps_tp _ (by decide +kernel) ?_
      exact Dev.keeps_refl _ _
    · refine Dev.keeps_ite ?_ ?_
      · refine Dev.keeps_tp _ (by decide +kernel) ?_
        exact Dev.keeps_refl _ _
      · exact Dev.keeps_refl _ _

theorem Dev.shadowUnreleased_keeps (t : Nat) (d : Dev) : Dev.keeps ⟨[.store, .chans, .tp, .fc], [F.FC_COND_COND, F.GL_READY_TRIPLEX,
    F.MO_JOURNAL_FILL, F.MO_JOURNAL_PENDING, F.PL_SLACK_LAST, F.PL_SLACK_WMIN, F.TP_CH_CAUSE, F.TP_CH_FENCES, F.TP_CH_SHADOW,
    F.TP_CH_STATE, F.TP_CMD_BUSY, F.TP_PROOF_RESULT, F.TP_PROOF_STATE, F.TP_PROOF_STEP, F.TP_STATE_DONOR, F.TP_STATE_FENCED,
    F.TP_STATE_IN_SERVICE, F.TP_STATE_RESYNC, F.TP_STATE_SIMPLEX_MS, F.TP_STATE_STATE, F.TP_VOTE_LATE_RUN], []⟩ d (Dev.shadowUnreleased t
    d) := by
  unfold Dev.shadowUnreleased
  dsimp -proj only
  refine Dev.keeps_ite ?_ ?_
  · exact Dev.keeps_refl _ _
  · refine Dev.keeps_foldl _ _ ?_ ?_
    · intro _ _
      refine Dev.keeps_ite ?_ ?_
      · exact Dev.keeps_refl _ _
      · refine Dev.keeps_step (by decide +kernel) (Dev.fenceChannel_keeps ..) ?_
        exact Dev.keeps_refl _ _
    · exact Dev.keeps_refl _ _

theorem Dev.showFade_keeps (g : Nat) (d : Dev) : Dev.keeps ⟨[], [F.GP_HANDOVER_DIFF, F.GP_HANDOVER_FADE_LEFT, F.GP_MODE_FADING], []⟩ d
    (Dev.showFade g d) := by
  unfold Dev.showFade
  dsimp -proj only
  refine Dev.keeps_set _ _ _ _ (by decide +kernel) ?_
  refine Dev.keeps_set _ _ _ _ (by decide +kernel) ?_
  refine Dev.keeps_flag _ _ _ _ (by decide +kernel) ?_
  exact Dev.keeps_refl _ _

theorem Dev.showOutcome_keeps (g : Nat) (d : Dev) (o : CycleOut) : Dev.keeps ⟨[.out, .store, .grps, .host], [F.GP_LINETEST_OUTCOME,
    F.GP_LINETEST_PEAK, F.GP_MODE_CAUSE, F.GP_MODE_DEBLOCKED, F.GP_MODE_MODE, F.GP_MODE_PREV, F.GP_MODE_RETURN, F.GP_MODE_SINCE_CYCLE,
    F.GP_MODE_STATUS_RESULT, F.GP_MODE_STATUS_TAG, F.HC_IRQ_STAT_STAT, F.MO_JOURNAL_FILL, F.MO_JOURNAL_PENDING], []⟩ d (Dev.showOutcome g
    d o) := by
  unfold Dev.showOutcome
  dsimp -proj only
  split
  · refine Dev.keeps_set _ _ _ _ (by decide +kernel) ?_
    refine Dev.keeps_set _ _ _ _ (by decide +kernel) ?_
    refine Dev.keeps_set _ _ _ _ (by decide +kernel) ?_
    refine Dev.keeps_set _ _ _ _ (by decide +kernel) ?_
    refine Dev.keeps_flag _ _ _ _ (by decide +kernel) ?_
    refine Dev.keeps_set _ _ _ _ (by decide +kernel) ?_
    refine Dev.keeps_set _ _ _ _ (by decide +kernel) ?_
    refine Dev.keeps_set _ _ _ _ (by decide +kernel) ?_
    refine Dev.keeps_set _ _ _ _ (by decide +kernel) ?_
    refine Dev.keeps_ite ?_ ?_
    · refine Dev.keeps_step (by decide +kernel) (Dev.modGrp_keeps ..) ?_
      refine Dev.keeps_step (by decide +kernel) (Dev.eventAll_keeps ..) ?_
      refine Dev.setKept_keeps (by decide +kernel) _ _ _ _ (by decide +kernel) ?_
      exact Dev.keeps_refl _ _
    · exact Dev.keeps_refl _ _
  · refine Dev.keeps_set _ _ _ _ (by decide +kernel) ?_
    refine Dev.keeps_set _ _ _ _ (by decide +kernel) ?_
    refine Dev.keeps_flag _ _ _ _ (by decide +kernel) ?_
    refine Dev.keeps_set _ _ _ _ (by decide +kernel) ?_
    refine Dev.keeps_set _ _ _ _ (by decide +kernel) ?_
    refine Dev.keeps_set _ _ _ _ (by decide +kernel) ?_
    refine Dev.keeps_set _ _ _ _ (by decide +kernel) ?_
    refine Dev.keeps_ite ?_ ?_
    · refine Dev.keeps_step (by decide +kernel) (Dev.modGrp_keeps ..) ?_
      refine Dev.keeps_step (by decide +kernel) (Dev.eventAll_keeps ..) ?_
      refine Dev.setKept_keeps (by decide +kernel) _ _ _ _ (by decide +kernel) ?_
      exact Dev.keeps_refl _ _
    · exact Dev.keeps_refl _ _

theorem Dev.showPrecond_keeps (g : Nat) (d : Dev) : Dev.keeps ⟨[], [F.GP_PRECOND_BRICKS_OK, F.GP_PRECOND_DC_BAND_OK,
    F.GP_PRECOND_DEAD_BUS, F.GP_PRECOND_ENERGY_OK, F.GP_PRECOND_FAULT_CLEAR, F.GP_PRECOND_INTERLOCK_OK, F.GP_PRECOND_LEAD_OK,
    F.GP_PRECOND_LINE_RESIDUAL_OK, F.GP_PRECOND_PV_WINDOW_OK, F.GP_PRECOND_SAFETY_OK, F.GP_PRECOND_SPREAD_OK, F.GP_PRECOND_SP_VALID,
    F.GP_PRECOND_SYNC_LOCKED, F.GP_PRECOND_TRIPLEX_OK], []⟩ d (Dev.showPrecond g d) := by
  unfold Dev.showPrecond
  dsimp -proj only
  split
  · refine Dev.keeps_step (by decide +kernel) (Dev.hubPrecond_keeps ..) ?_
    exact Dev.keeps_refl _ _
  · refine Dev.keeps_set _ _ _ _ (by decide +kernel) ?_
    refine Dev.keeps_flag _ _ _ _ (by decide +kernel) ?_
    refine Dev.keeps_flag _ _ _ _ (by decide +kernel) ?_
    refine Dev.keeps_flag _ _ _ _ (by decide +kernel) ?_
    refine Dev.keeps_flag _ _ _ _ (by decide +kernel) ?_
    refine Dev.keeps_flag _ _ _ _ (by decide +kernel) ?_
    refine Dev.keeps_flag _ _ _ _ (by decide +kernel) ?_
    refine Dev.keeps_flag _ _ _ _ (by decide +kernel) ?_
    refine Dev.keeps_flag _ _ _ _ (by decide +kernel) ?_
    refine Dev.keeps_flag _ _ _ _ (by decide +kernel) ?_
    refine Dev.keeps_flag _ _ _ _ (by decide +kernel) ?_
    refine Dev.keeps_flag _ _ _ _ (by decide +kernel) ?_
    refine Dev.keeps_flag _ _ _ _ (by decide +kernel) ?_
    refine Dev.keeps_flag _ _ _ _ (by decide +kernel) ?_
    exact Dev.keeps_refl _ _

theorem Dev.slack_keeps (ch : Nat) (t : Nat) (x : Int) (d : Dev) : Dev.keeps ⟨[.tp], [F.PL_SLACK_LAST, F.PL_SLACK_WMIN], []⟩ d (Dev.slack
    ch t x d) := by
  unfold Dev.slack
  dsimp -proj only
  refine Dev.keeps_step (by decide +kernel) (Dev.modVote_keeps ..) ?_
  refine Dev.keeps_setI _ _ _ _ (by decide +kernel) ?_
  refine Dev.keeps_setI _ _ _ _ (by decide +kernel) ?_
  exact Dev.keeps_refl _ _

theorem Dev.spanAtDe_keeps (g : Nat) (d : Dev) : Dev.keeps ⟨[.grps], [F.GP_MODE_SWITCHING], []⟩ d (Dev.spanAtDe g d) := by
  unfold Dev.spanAtDe
  dsimp -proj only
  refine Dev.keeps_ite ?_ ?_
  · refine Dev.keeps_step (by decide +kernel) (Dev.modGrp_keeps ..) ?_
    refine Dev.keeps_flag _ _ _ _ (by decide +kernel) ?_
    exact Dev.keeps_refl _ _
  · refine Dev.keeps_ite ?_ ?_
    · refine Dev.keeps_ite ?_ ?_
      · refine Dev.keeps_step (by decide +kernel) (Dev.modGrp_keeps ..) ?_
        exact Dev.keeps_refl _ _
      · exact Dev.keeps_refl _ _
    · exact Dev.keeps_refl _ _

theorem Dev.takeDigest_keeps (ch : Nat) (t : Nat) (digest : Nat) (d : Dev) : Dev.keeps ⟨[.tp], [], []⟩ d (Dev.takeDigest ch t digest d) :=
    by
  unfold Dev.takeDigest
  refine Dev.keeps_step (by decide +kernel) (Dev.modVote_keeps ..) ?_
  exact Dev.keeps_refl _ _

theorem Dev.unreleased_keeps (g : Nat) (t : Nat) (tc : TileCfg) (deTick : Nat) (limit : Nat) (d : Dev) : Dev.keeps ⟨[.cm, .fc],
    [F.PL_MISSES_COUNT, F.PL_STATUS_CONSEC, F.PL_STATUS_MISSED, F.TP_VOTE_DEV_NO_MAJORITY], []⟩ d (Dev.unreleased g t tc deTick limit d)
    := by
  unfold Dev.unreleased
  dsimp -proj only
  refine Dev.keeps_ite ?_ ?_
  · refine Dev.keeps_step (by decide +kernel) (Dev.missCycle_keeps ..) ?_
    refine Dev.keeps_ite ?_ ?_
    · refine Dev.keeps_ite ?_ ?_
      · refine Dev.keeps_step (by decide +kernel) (Dev.raise_keeps ..) ?_
        refine Dev.keeps_ite ?_ ?_
        · refine Dev.keeps_count _ _ _ (by decide +kernel) ?_
          exact Dev.keeps_refl _ _
        · exact Dev.keeps_refl _ _
      · refine Dev.keeps_step (by decide +kernel) (Dev.raise_keeps ..) ?_
        refine Dev.keeps_ite ?_ ?_
        · refine Dev.keeps_count _ _ _ (by decide +kernel) ?_
          exact Dev.keeps_refl _ _
        · exact Dev.keeps_refl _ _
    · refine Dev.keeps_ite ?_ ?_
      · refine Dev.keeps_count _ _ _ (by decide +kernel) ?_
        exact Dev.keeps_refl _ _
      · exact Dev.keeps_refl _ _
  · refine Dev.keeps_ite ?_ ?_
    · refine Dev.keeps_ite ?_ ?_
      · refine Dev.keeps_step (by decide +kernel) (Dev.raise_keeps ..) ?_
        refine Dev.keeps_ite ?_ ?_
        · refine Dev.keeps_count _ _ _ (by decide +kernel) ?_
          exact Dev.keeps_refl _ _
        · exact Dev.keeps_refl _ _
      · refine Dev.keeps_step (by decide +kernel) (Dev.raise_keeps ..) ?_
        refine Dev.keeps_ite ?_ ?_
        · refine Dev.keeps_count _ _ _ (by decide +kernel) ?_
          exact Dev.keeps_refl _ _
        · exact Dev.keeps_refl _ _
    · refine Dev.keeps_ite ?_ ?_
      · refine Dev.keeps_count _ _ _ (by decide +kernel) ?_
        exact Dev.keeps_refl _ _
      · exact Dev.keeps_refl _ _

theorem emissionDeadline_keeps (g : Nat) (d : Dev) : Dev.keeps ⟨[.out, .clk, .store, .grps, .chans, .tp, .cm, .fc, .host, .dma],
    [F.FC_COND_COND, F.GP_ANGLE_ANGLE, F.GP_CIRC_IZ, F.GP_CIRC_IZREF, F.GP_COMP_ACTING, F.GP_COMP_SAT, F.GP_CURLIM_FORM_VIRT,
    F.GP_CURLIM_IMAX_ACTIVE, F.GP_CURLIM_LIMITED, F.GP_CURLIM_VOUT_SAT, F.GP_DCMEAS_IDC, F.GP_DCMEAS_VDC, F.GP_ENERGY_ETOT,
    F.GP_ENERGY_PDEM, F.GP_FEEDBACK_ALT, F.GP_FEEDBACK_DISAGREE, F.GP_FEEDBACK_HOLD, F.GP_FEEDBACK_LOST_RAISED, F.GP_FEEDBACK_VALID,
    F.GP_HANDOVER_DIFF, F.GP_HANDOVER_FADE_LEFT, F.GP_HARVEST_BEST_PBEST, F.GP_HARVEST_BEST_VBEST, F.GP_HARVEST_CMD_RESULT,
    F.GP_HARVEST_DIR, F.GP_HARVEST_FROZEN, F.GP_HARVEST_STATE, F.GP_HARVEST_VTGT, F.GP_ISLAND_ACTION, F.GP_ISLAND_BLANKED,
    F.GP_ISLAND_CRITERIA, F.GP_ISLAND_DETECTED, F.GP_ISLAND_Z, F.GP_JUMP_SEAT, F.GP_LEG_DIFF, F.GP_LEG_ELEG, F.GP_LINETEST_OUTCOME,
    F.GP_LINETEST_PEAK, F.GP_MODE_CAUSE, F.GP_MODE_DEBLOCKED, F.GP_MODE_FADING, F.GP_MODE_MODE, F.GP_MODE_PREV, F.GP_MODE_RETURN,
    F.GP_MODE_SINCE_CYCLE, F.GP_MODE_STATUS_RESULT, F.GP_MODE_STATUS_TAG, F.GP_MODE_SWITCHING, F.GP_PQ_P, F.GP_PQ_Q,
    F.GP_PRECOND_BRICKS_OK, F.GP_PRECOND_DC_BAND_OK, F.GP_PRECOND_DEAD_BUS, F.GP_PRECOND_ENERGY_OK, F.GP_PRECOND_FAULT_CLEAR,
    F.GP_PRECOND_INTERLOCK_OK, F.GP_PRECOND_LEAD_OK, F.GP_PRECOND_LINE_RESIDUAL_OK, F.GP_PRECOND_PV_WINDOW_OK, F.GP_PRECOND_SAFETY_OK,
    F.GP_PRECOND_SPREAD_OK, F.GP_PRECOND_SP_VALID, F.GP_PRECOND_SYNC_LOCKED, F.GP_PRECOND_TRIPLEX_OK, F.GP_RIDE_COUNT, F.GP_RIDE_ENTRY_AC,
    F.GP_RIDE_ENTRY_DC, F.GP_RIDE_EXITING, F.GP_RIDE_REPEAT_BLOCK, F.GP_RIDE_TIME_ELAPSED, F.GP_RIDE_TRIP_CURVE, F.GP_RIDE_VPRE,
    F.GP_SYNC_FLYWHEEL, F.GP_SYNC_FORMING, F.GP_SYNC_FREQ, F.GP_SYNC_LOCKED, F.GP_VSEQ_VNEG, F.GP_VSEQ_VPOS, F.HC_IRQ_STAT_STAT,
    F.MO_JOURNAL_FILL, F.MO_JOURNAL_PENDING, F.PL_ARM_COUNT_COUNT, F.PL_ARM_COUNT_FRAC, F.PL_ARM_CURRENT_IARM, F.PL_ARM_CURRENT_UREF,
    F.PL_ARM_ENERGY_EARM, F.PL_ARM_ENERGY_VBAR, F.PL_ARM_STATUS_ENERGY_RAISED, F.PL_ARM_STATUS_ILIM, F.PL_ARM_STATUS_OVER,
    F.PL_ARM_STATUS_OVM_RAISED, F.PL_ARM_STATUS_PRESENT, F.PL_ARM_STATUS_SIGN, F.PL_ARM_STATUS_TRIP_RAISED, F.PL_ARM_STATUS_UNDER,
    F.PL_ARM_STATUS_ZHOLD, F.PL_ARM_STATUS_ZREF_SAT, F.PL_CHOP_PDIS, F.PL_CHOP_STATE, F.PL_RANK_BOUND_BOUND, F.PL_RANK_BOUND_ON_LEN,
    F.PL_RANK_FAULTS_PARKS, F.PL_RANK_STATUS_DISPUTE_RAISED, F.PL_RANK_STATUS_DROPPED, F.PL_RANK_STATUS_ECHO_RAISED,
    F.PL_RANK_STATUS_HOLES, F.PL_RANK_STATUS_NRANK, F.PL_RANK_STATUS_PARKED, F.PL_RANK_STATUS_SORTED, F.PL_RANK_STATUS_STRETCHED,
    F.PL_RANK_SWAPS_APPLIED, F.PL_RANK_SWAPS_DEFERRED, F.TP_CH_SHADOW], []⟩ d (emissionDeadline g d) := by
  unfold emissionDeadline
  dsimp -proj only
  refine Dev.keeps_ite ?_ ?_
  · exact Dev.keeps_refl _ _
  · refine Dev.keeps_step (by decide +kernel) (Dev.resyncAtDe_keeps ..) ?_
    refine Dev.keeps_step (by decide +kernel) (Dev.digestAtDe_keeps ..) ?_
    refine Dev.keeps_ite ?_ ?_
    · refine Dev.keeps_step (by decide +kernel) (Dev.writeTracking_keeps ..) ?_
      refine Dev.keeps_step (by decide +kernel) (Dev.spanAtDe_keeps ..) ?_
      split
      · refine Dev.keeps_step (by decide +kernel) (Dev.modGrp_keeps ..) ?_
        refine Dev.keeps_step (by decide +kernel) (Dev.showPrecond_keeps ..) ?_
        refine Dev.keeps_ite ?_ ?_
        · refine Dev.keeps_step (by decide +kernel) (Dev.forceShown_keeps ..) ?_
          refine Dev.keeps_ite ?_ ?_
          · refine Dev.keeps_foldl _ _ ?_ ?_
            · intro _ _
              refine Dev.keeps_step (by decide +kernel) (Dev.showOutcome_keeps ..) ?_
              exact Dev.keeps_refl _ _
            · refine Dev.keeps_step (by decide +kernel) (Dev.modGrp_keeps ..) ?_
              refine Dev.keeps_step (by decide +kernel) (Dev.until'_keeps ..) ?_
              exact Dev.keeps_refl _ _
          · refine Dev.keeps_step (by decide +kernel) (Dev.showFade_keeps ..) ?_
            refine Dev.keeps_foldl _ _ ?_ ?_
            · intro _ _
              refine Dev.keeps_step (by decide +kernel) (Dev.showOutcome_keeps ..) ?_
              exact Dev.keeps_refl _ _
            · refine Dev.keeps_step (by decide +kernel) (Dev.modGrp_keeps ..) ?_
              refine Dev.keeps_step (by decide +kernel) (Dev.until'_keeps ..) ?_
              exact Dev.keeps_refl _ _
        · refine Dev.keeps_ite ?_ ?_
          · refine Dev.keeps_foldl _ _ ?_ ?_
            · intro _ _
              refine Dev.keeps_step (by decide +kernel) (Dev.showOutcome_keeps ..) ?_
              exact Dev.keeps_refl _ _
            · refine Dev.keeps_step (by decide +kernel) (Dev.modGrp_keeps ..) ?_
              refine Dev.keeps_step (by decide +kernel) (Dev.until'_keeps ..) ?_
              exact Dev.keeps_refl _ _
          · refine Dev.keeps_step (by decide +kernel) (Dev.showFade_keeps ..) ?_
            refine Dev.keeps_foldl _ _ ?_ ?_
            · intro _ _
              refine Dev.keeps_step (by decide +kernel) (Dev.showOutcome_keeps ..) ?_
              exact Dev.keeps_refl _ _
            · refine Dev.keeps_step (by decide +kernel) (Dev.modGrp_keeps ..) ?_
              refine Dev.keeps_step (by decide +kernel) (Dev.until'_keeps ..) ?_
              exact Dev.keeps_refl _ _
      · refine Dev.keeps_step (by decide +kernel) (Dev.showPrecond_keeps ..) ?_
        refine Dev.keeps_ite ?_ ?_
        · refine Dev.keeps_step (by decide +kernel) (Dev.forceShown_keeps ..) ?_
          refine Dev.keeps_ite ?_ ?_
          · refine Dev.keeps_foldl _ _ ?_ ?_
            · intro _ _
              refine Dev.keeps_step (by decide +kernel) (Dev.showOutcome_keeps ..) ?_
              exact Dev.keeps_refl _ _
            · refine Dev.keeps_step (by decide +kernel) (Dev.modGrp_keeps ..) ?_
              refine Dev.keeps_step (by decide +kernel) (Dev.until'_keeps ..) ?_
              exact Dev.keeps_refl _ _
          · refine Dev.keeps_step (by decide +kernel) (Dev.showFade_keeps ..) ?_
            refine Dev.keeps_foldl _ _ ?_ ?_
            · intro _ _
              refine Dev.keeps_step (by decide +kernel) (Dev.showOutcome_keeps ..) ?_
              exact Dev.keeps_refl _ _
            · refine Dev.keeps_step (by decide +kernel) (Dev.modGrp_keeps ..) ?_
              refine Dev.keeps_step (by decide +kernel) (Dev.until'_keeps ..) ?_
              exact Dev.keeps_refl _ _
        · refine Dev.keeps_ite ?_ ?_
          · refine Dev.keeps_foldl _ _ ?_ ?_
            · intro _ _
              refine Dev.keeps_step (by decide +kernel) (Dev.showOutcome_keeps ..) ?_
              exact Dev.keeps_refl _ _
            · refine Dev.keeps_step (by decide +kernel) (Dev.modGrp_keeps ..) ?_
              refine Dev.keeps_step (by decide +kernel) (Dev.until'_keeps ..) ?_
              exact Dev.keeps_refl _ _
          · refine Dev.keeps_step (by decide +kernel) (Dev.showFade_keeps ..) ?_
            refine Dev.keeps_foldl _ _ ?_ ?_
            · intro _ _
              refine Dev.keeps_step (by decide +kernel) (Dev.showOutcome_keeps ..) ?_
              exact Dev.keeps_refl _ _
            · refine Dev.keeps_step (by decide +kernel) (Dev.modGrp_keeps ..) ?_
              refine Dev.keeps_step (by decide +kernel) (Dev.until'_keeps ..) ?_
              exact Dev.keeps_refl _ _
    · refine Dev.keeps_step (by decide +kernel) (Dev.spanAtDe_keeps ..) ?_
      split
      · refine Dev.keeps_step (by decide +kernel) (Dev.modGrp_keeps ..) ?_
        refine Dev.keeps_step (by decide +kernel) (Dev.showPrecond_keeps ..) ?_
        refine Dev.keeps_ite ?_ ?_
        · refine Dev.keeps_step (by decide +kernel) (Dev.forceShown_keeps ..) ?_
          refine Dev.keeps_ite ?_ ?_
          · refine Dev.keeps_foldl _ _ ?_ ?_
            · intro _ _
              refine Dev.keeps_step (by decide +kernel) (Dev.showOutcome_keeps ..) ?_
              exact Dev.keeps_refl _ _
            · refine Dev.keeps_step (by decide +kernel) (Dev.modGrp_keeps ..) ?_
              refine Dev.keeps_step (by decide +kernel) (Dev.until'_keeps ..) ?_
              exact Dev.keeps_refl _ _
          · refine Dev.keeps_step (by decide +kernel) (Dev.showFade_keeps ..) ?_
            refine Dev.keeps_foldl _ _ ?_ ?_
            · intro _ _
              refine Dev.keeps_step (by decide +kernel) (Dev.showOutcome_keeps ..) ?_
              exact Dev.keeps_refl _ _
            · refine Dev.keeps_step (by decide +kernel) (Dev.modGrp_keeps ..) ?_
              refine Dev.keeps_step (by decide +kernel) (Dev.until'_keeps ..) ?_
              exact Dev.keeps_refl _ _
        · refine Dev.keeps_ite ?_ ?_
          · refine Dev.keeps_foldl _ _ ?_ ?_
            · intro _ _
              refine Dev.keeps_step (by decide +kernel) (Dev.showOutcome_keeps ..) ?_
              exact Dev.keeps_refl _ _
            · refine Dev.keeps_step (by decide +kernel) (Dev.modGrp_keeps ..) ?_
              refine Dev.keeps_step (by decide +kernel) (Dev.until'_keeps ..) ?_
              exact Dev.keeps_refl _ _
          · refine Dev.keeps_step (by decide +kernel) (Dev.showFade_keeps ..) ?_
            refine Dev.keeps_foldl _ _ ?_ ?_
            · intro _ _
              refine Dev.keeps_step (by decide +kernel) (Dev.showOutcome_keeps ..) ?_
              exact Dev.keeps_refl _ _
            · refine Dev.keeps_step (by decide +kernel) (Dev.modGrp_keeps ..) ?_
              refine Dev.keeps_step (by decide +kernel) (Dev.until'_keeps ..) ?_
              exact Dev.keeps_refl _ _
      · refine Dev.keeps_step (by decide +kernel) (Dev.showPrecond_keeps ..) ?_
        refine Dev.keeps_ite ?_ ?_
        · refine Dev.keeps_step (by decide +kernel) (Dev.forceShown_keeps ..) ?_
          refine Dev.keeps_ite ?_ ?_
          · refine Dev.keeps_foldl _ _ ?_ ?_
            · intro _ _
              refine Dev.keeps_step (by decide +kernel) (Dev.showOutcome_keeps ..) ?_
              exact Dev.keeps_refl _ _
            · refine Dev.keeps_step (by decide +kernel) (Dev.modGrp_keeps ..) ?_
              refine Dev.keeps_step (by decide +kernel) (Dev.until'_keeps ..) ?_
              exact Dev.keeps_refl _ _
          · refine Dev.keeps_step (by decide +kernel) (Dev.showFade_keeps ..) ?_
            refine Dev.keeps_foldl _ _ ?_ ?_
            · intro _ _
              refine Dev.keeps_step (by decide +kernel) (Dev.showOutcome_keeps ..) ?_
              exact Dev.keeps_refl _ _
            · refine Dev.keeps_step (by decide +kernel) (Dev.modGrp_keeps ..) ?_
              refine Dev.keeps_step (by decide +kernel) (Dev.until'_keeps ..) ?_
              exact Dev.keeps_refl _ _
        · refine Dev.keeps_ite ?_ ?_
          · refine Dev.keeps_foldl _ _ ?_ ?_
            · intro _ _
              refine Dev.keeps_step (by decide +kernel) (Dev.showOutcome_keeps ..) ?_
              exact Dev.keeps_refl _ _
            · refine Dev.keeps_step (by decide +kernel) (Dev.modGrp_keeps ..) ?_
              refine Dev.keeps_step (by decide +kernel) (Dev.until'_keeps ..) ?_
              exact Dev.keeps_refl _ _
          · refine Dev.keeps_step (by decide +kernel) (Dev.showFade_keeps ..) ?_
            refine Dev.keeps_foldl _ _ ?_ ?_
            · intro _ _
              refine Dev.keeps_step (by decide +kernel) (Dev.showOutcome_keeps ..) ?_
              exact Dev.keeps_refl _ _
            · refine Dev.keeps_step (by decide +kernel) (Dev.modGrp_keeps ..) ?_
              refine Dev.keeps_step (by decide +kernel) (Dev.until'_keeps ..) ?_
              exact Dev.keeps_refl _ _

theorem frameSetComplete_keeps (ch : Nat) (t : Nat) (upset : Nat) (d : Dev) : Dev.keeps ⟨[.out, .store, .chans, .tp, .cm, .fc, .dma],
    [F.FC_COND_COND, F.GL_READY_TRIPLEX, F.GP_ANGLE_ANGLE, F.GP_CIRC_IZ, F.GP_CIRC_IZREF, F.GP_COMP_ACTING, F.GP_COMP_SAT,
    F.GP_CURLIM_FORM_VIRT, F.GP_CURLIM_IMAX_ACTIVE, F.GP_CURLIM_LIMITED, F.GP_CURLIM_VOUT_SAT, F.GP_DCMEAS_IDC, F.GP_DCMEAS_VDC,
    F.GP_ENERGY_ETOT, F.GP_ENERGY_PDEM, F.GP_FEEDBACK_ALT, F.GP_FEEDBACK_DISAGREE, F.GP_FEEDBACK_HOLD, F.GP_FEEDBACK_LOST_RAISED,
    F.GP_FEEDBACK_VALID, F.GP_HARVEST_BEST_PBEST, F.GP_HARVEST_BEST_VBEST, F.GP_HARVEST_CMD_RESULT, F.GP_HARVEST_DIR, F.GP_HARVEST_FROZEN,
    F.GP_HARVEST_STATE, F.GP_HARVEST_VTGT, F.GP_ISLAND_ACTION, F.GP_ISLAND_BLANKED, F.GP_ISLAND_CRITERIA, F.GP_ISLAND_DETECTED,
    F.GP_ISLAND_Z, F.GP_JUMP_SEAT, F.GP_LEG_DIFF, F.GP_LEG_ELEG, F.GP_PQ_P, F.GP_PQ_Q, F.GP_RIDE_COUNT, F.GP_RIDE_ENTRY_AC,
    F.GP_RIDE_ENTRY_DC, F.GP_RIDE_EXITING, F.GP_RIDE_REPEAT_BLOCK, F.GP_RIDE_TIME_ELAPSED, F.GP_RIDE_TRIP_CURVE, F.GP_RIDE_VPRE,
    F.GP_SYNC_FLYWHEEL, F.GP_SYNC_FORMING, F.GP_SYNC_FREQ, F.GP_SYNC_LOCKED, F.GP_VSEQ_VNEG, F.GP_VSEQ_VPOS, F.MO_JOURNAL_FILL,
    F.MO_JOURNAL_PENDING, F.PL_ARM_COUNT_COUNT, F.PL_ARM_COUNT_FRAC, F.PL_ARM_CURRENT_IARM, F.PL_ARM_CURRENT_UREF, F.PL_ARM_ENERGY_EARM,
    F.PL_ARM_ENERGY_VBAR, F.PL_ARM_STATUS_ENERGY_RAISED, F.PL_ARM_STATUS_ILIM, F.PL_ARM_STATUS_OVER, F.PL_ARM_STATUS_OVM_RAISED,
    F.PL_ARM_STATUS_PRESENT, F.PL_ARM_STATUS_SIGN, F.PL_ARM_STATUS_TRIP_RAISED, F.PL_ARM_STATUS_UNDER, F.PL_ARM_STATUS_ZHOLD,
    F.PL_ARM_STATUS_ZREF_SAT, F.PL_CHOP_PDIS, F.PL_CHOP_STATE, F.PL_RANK_BOUND_BOUND, F.PL_RANK_BOUND_ON_LEN, F.PL_RANK_FAULTS_PARKS,
    F.PL_RANK_STATUS_DISPUTE_RAISED, F.PL_RANK_STATUS_DROPPED, F.PL_RANK_STATUS_ECHO_RAISED, F.PL_RANK_STATUS_HOLES,
    F.PL_RANK_STATUS_NRANK, F.PL_RANK_STATUS_PARKED, F.PL_RANK_STATUS_SORTED, F.PL_RANK_STATUS_STRETCHED, F.PL_RANK_SWAPS_APPLIED,
    F.PL_RANK_SWAPS_DEFERRED, F.PL_SLACK_LAST, F.PL_SLACK_WMIN, F.PL_STATUS_CONSEC, F.TP_CH_CAUSE, F.TP_CH_FENCES, F.TP_CH_SHADOW,
    F.TP_CH_STATE, F.TP_CH_STRIKES, F.TP_CMD_BUSY, F.TP_PROOF_RESULT, F.TP_PROOF_STATE, F.TP_PROOF_STEP, F.TP_STATE_DONOR,
    F.TP_STATE_FENCED, F.TP_STATE_IN_SERVICE, F.TP_STATE_RESYNC, F.TP_STATE_SIMPLEX_MS, F.TP_STATE_STATE, F.TP_VOTE_LATE,
    F.TP_VOTE_LATE_RUN, F.TP_VOTE_MINORITY], []⟩ d (frameSetComplete ch t upset d) := by
  unfold frameSetComplete
  dsimp -proj only
  split
  · refine Dev.keeps_ite ?_ ?_
    · exact Dev.keeps_refl _ _
    · refine Dev.keeps_ite ?_ ?_
      · refine Dev.keeps_tp _ (by decide +kernel) ?_
        refine Dev.keeps_step (by decide +kernel) (Dev.modCt_keeps ..) ?_
        refine Dev.keeps_step (by decide +kernel) (Dev.effectsTo_keeps ..) ?_
        exact Dev.keeps_refl _ _
      · refine Dev.keeps_ite ?_ ?_
        · refine Dev.keeps_step (by decide +kernel) (Dev.lateSet_keeps ..) ?_
          refine Dev.keeps_step (by decide +kernel) (Dev.slack_keeps ..) ?_
          refine Dev.keeps_tp _ (by decide +kernel) ?_
          refine Dev.keeps_step (by decide +kernel) (Dev.modCt_keeps ..) ?_
          refine Dev.keeps_step (by decide +kernel) (Dev.effectsTo_keeps ..) ?_
          exact Dev.keeps_refl _ _
        · refine Dev.keeps_step (by decide +kernel) (Dev.voteAll_keeps ..) ?_
          refine Dev.keeps_step (by decide +kernel) (Dev.modVote_keeps ..) ?_
          refine Dev.keeps_step (by decide +kernel) (Dev.takeDigest_keeps ..) ?_
          refine Dev.keeps_step (by decide +kernel) (Dev.setLate_keeps ..) ?_
          refine Dev.keeps_step (by decide +kernel) (Dev.slack_keeps ..) ?_
          refine Dev.keeps_tp _ (by decide +kernel) ?_
          refine Dev.keeps_step (by decide +kernel) (Dev.modCt_keeps ..) ?_
          refine Dev.keeps_step (by decide +kernel) (Dev.effectsTo_keeps ..) ?_
          exact Dev.keeps_refl _ _
  · exact Dev.keeps_refl _ _

theorem inputDigest_keeps (ch : Nat) (t : Nat) (upset : Nat) (d : Dev) : Dev.keeps ⟨[.out, .store, .chans, .tp, .cm, .fc],
    [F.FC_COND_COND, F.GL_READY_TRIPLEX, F.MO_JOURNAL_FILL, F.MO_JOURNAL_PENDING, F.PL_SLACK_LAST, F.PL_SLACK_WMIN, F.PL_STATUS_CONSEC,
    F.TP_CH_CAUSE, F.TP_CH_FENCES, F.TP_CH_SHADOW, F.TP_CH_STATE, F.TP_CH_STRIKES, F.TP_CMD_BUSY, F.TP_PROOF_RESULT, F.TP_PROOF_STATE,
    F.TP_PROOF_STEP, F.TP_STATE_DONOR, F.TP_STATE_FENCED, F.TP_STATE_IN_SERVICE, F.TP_STATE_RESYNC, F.TP_STATE_SIMPLEX_MS,
    F.TP_STATE_STATE, F.TP_VOTE_LATE_RUN, F.TP_VOTE_MINORITY], []⟩ d (inputDigest ch t upset d) := by
  unfold inputDigest
  dsimp -proj only
  split
  · refine Dev.keeps_ite ?_ ?_
    · exact Dev.keeps_refl _ _
    · refine Dev.keeps_step (by decide +kernel) (Dev.voteAll_keeps ..) ?_
      refine Dev.keeps_step (by decide +kernel) (Dev.takeDigest_keeps ..) ?_
      exact Dev.keeps_refl _ _
  · exact Dev.keeps_refl _ _

theorem stateDigestCompare_keeps (g : Nat) (uA : Nat) (uB : Nat) (uC : Nat) (d : Dev) : Dev.keeps ⟨[.out, .store, .grps, .chans, .tp, .cm,
    .fc], [F.FC_COND_COND, F.GL_READY_TRIPLEX, F.MO_JOURNAL_FILL, F.MO_JOURNAL_PENDING, F.PL_SLACK_LAST, F.PL_SLACK_WMIN,
    F.PL_STATUS_CONSEC, F.TP_CH_CAUSE, F.TP_CH_FENCES, F.TP_CH_SHADOW, F.TP_CH_STATE, F.TP_CH_STRIKES, F.TP_CMD_BUSY, F.TP_DIGEST_AGREE,
    F.TP_DIGEST_CYCLE, F.TP_PROOF_RESULT, F.TP_PROOF_STATE, F.TP_PROOF_STEP, F.TP_STATE_DONOR, F.TP_STATE_FENCED, F.TP_STATE_IN_SERVICE,
    F.TP_STATE_RESYNC, F.TP_STATE_SIMPLEX_MS, F.TP_STATE_STATE, F.TP_VOTE_DIGEST_BAD, F.TP_VOTE_LATE_RUN, F.TP_VOTE_MINORITY], []⟩ d
    (stateDigestCompare g uA uB uC d) := by
  unfold stateDigestCompare
  dsimp -proj only
  refine Dev.keeps_ite ?_ ?_
  · exact Dev.keeps_refl _ _
  · refine Dev.keeps_step (by decide +kernel) (Dev.voteAll_keeps ..) ?_
    split
    · refine Dev.keeps_ite ?_ ?_
      · refine Dev.keeps_ite ?_ ?_
        · refine Dev.keeps_tp _ (by decide +kernel) ?_
          split
          · refine Dev.keeps_foldl _ _ ?_ ?_
            · intro _ _
              refine Dev.keeps_step (by decide +kernel) (Dev.digestBad_keeps ..) ?_
              exact Dev.keeps_refl _ _
            · refine Dev.keeps_set _ _ _ _ (by decide +kernel) ?_
              refine Dev.keeps_set _ _ _ _ (by decide +kernel) ?_
              refine Dev.keeps_step (by decide +kernel) (Dev.modGrp_keeps ..) ?_
              exact Dev.keeps_refl _ _
          · refine Dev.keeps_ite ?_ ?_
            · refine Dev.keeps_step (by decide +kernel) (Dev.raise_keeps ..) ?_
              refine Dev.keeps_set _ _ _ _ (by decide +kernel) ?_
              refine Dev.keeps_set _ _ _ _ (by decide +kernel) ?_
              refine Dev.keeps_step (by decide +kernel) (Dev.modGrp_keeps ..) ?_
              exact Dev.keeps_refl _ _
            · refine Dev.keeps_ite ?_ ?_
              · refine Dev.keeps_step (by decide +kernel) (Dev.raise_keeps ..) ?_
                refine Dev.keeps_set _ _ _ _ (by decide +kernel) ?_
                refine Dev.keeps_set _ _ _ _ (by decide +kernel) ?_
                refine Dev.keeps_step (by decide +kernel) (Dev.modGrp_keeps ..) ?_
                exact Dev.keeps_refl _ _
              · refine Dev.keeps_set _ _ _ _ (by decide +kernel) ?_
                refine Dev.keeps_set _ _ _ _ (by decide +kernel) ?_
                refine Dev.keeps_step (by decide +kernel) (Dev.modGrp_keeps ..) ?_
                exact Dev.keeps_refl _ _
        · refine Dev.keeps_step (by decide +kernel) (Dev.fenceChannel_keeps ..) ?_
          split
          · refine Dev.keeps_foldl _ _ ?_ ?_
            · intro _ _
              refine Dev.keeps_step (by decide +kernel) (Dev.digestBad_keeps ..) ?_
              exact Dev.keeps_refl _ _
            · refine Dev.keeps_set _ _ _ _ (by decide +kernel) ?_
              refine Dev.keeps_set _ _ _ _ (by decide +kernel) ?_
              refine Dev.keeps_step (by decide +kernel) (Dev.modGrp_keeps ..) ?_
              exact Dev.keeps_refl _ _
          · refine Dev.keeps_ite ?_ ?_
            · refine Dev.keeps_step (by decide +kernel) (Dev.raise_keeps ..) ?_
              refine Dev.keeps_set _ _ _ _ (by decide +kernel) ?_
              refine Dev.keeps_set _ _ _ _ (by decide +kernel) ?_
              refine Dev.keeps_step (by decide +kernel) (Dev.modGrp_keeps ..) ?_
              exact Dev.keeps_refl _ _
            · refine Dev.keeps_ite ?_ ?_
              · refine Dev.keeps_step (by decide +kernel) (Dev.raise_keeps ..) ?_
                refine Dev.keeps_set _ _ _ _ (by decide +kernel) ?_
                refine Dev.keeps_set _ _ _ _ (by decide +kernel) ?_
                refine Dev.keeps_step (by decide +kernel) (Dev.modGrp_keeps ..) ?_
                exact Dev.keeps_refl _ _
              · refine Dev.keeps_set _ _ _ _ (by decide +kernel) ?_
                refine Dev.keeps_set _ _ _ _ (by decide +kernel) ?_
                refine Dev.keeps_step (by decide +kernel) (Dev.modGrp_keeps ..) ?_
                exact Dev.keeps_refl _ _
      · split
        · refine Dev.keeps_foldl _ _ ?_ ?_
          · intro _ _
            refine Dev.keeps_step (by decide +kernel) (Dev.digestBad_keeps ..) ?_
            exact Dev.keeps_refl _ _
          · refine Dev.keeps_set _ _ _ _ (by decide +kernel) ?_
            refine Dev.keeps_set _ _ _ _ (by decide +kernel) ?_
            refine Dev.keeps_step (by decide +kernel) (Dev.modGrp_keeps ..) ?_
            exact Dev.keeps_refl _ _
        · refine Dev.keeps_ite ?_ ?_
          · refine Dev.keeps_step (by decide +kernel) (Dev.raise_keeps ..) ?_
            refine Dev.keeps_set _ _ _ _ (by decide +kernel) ?_
            refine Dev.keeps_set _ _ _ _ (by decide +kernel) ?_
            refine Dev.keeps_step (by decide +kernel) (Dev.modGrp_keeps ..) ?_
            exact Dev.keeps_refl _ _
          · refine Dev.keeps_ite ?_ ?_
            · refine Dev.keeps_step (by decide +kernel) (Dev.raise_keeps ..) ?_
              refine Dev.keeps_set _ _ _ _ (by decide +kernel) ?_
              refine Dev.keeps_set _ _ _ _ (by decide +kernel) ?_
              refine Dev.keeps_step (by decide +kernel) (Dev.modGrp_keeps ..) ?_
              exact Dev.keeps_refl _ _
            · refine Dev.keeps_set _ _ _ _ (by decide +kernel) ?_
              refine Dev.keeps_set _ _ _ _ (by decide +kernel) ?_
              refine Dev.keeps_step (by decide +kernel) (Dev.modGrp_keeps ..) ?_
              exact Dev.keeps_refl _ _
    · split
      · refine Dev.keeps_foldl _ _ ?_ ?_
        · intro _ _
          refine Dev.keeps_step (by decide +kernel) (Dev.digestBad_keeps ..) ?_
          exact Dev.keeps_refl _ _
        · refine Dev.keeps_set _ _ _ _ (by decide +kernel) ?_
          refine Dev.keeps_set _ _ _ _ (by decide +kernel) ?_
          refine Dev.keeps_step (by decide +kernel) (Dev.modGrp_keeps ..) ?_
          exact Dev.keeps_refl _ _
      · refine Dev.keeps_ite ?_ ?_
        · refine Dev.keeps_step (by decide +kernel) (Dev.raise_keeps ..) ?_
          refine Dev.keeps_set _ _ _ _ (by decide +kernel) ?_
          refine Dev.keeps_set _ _ _ _ (by decide +kernel) ?_
          refine Dev.keeps_step (by decide +kernel) (Dev.modGrp_keeps ..) ?_
          exact Dev.keeps_refl _ _
        · refine Dev.keeps_ite ?_ ?_
          · refine Dev.keeps_step (by decide +kernel) (Dev.raise_keeps ..) ?_
            refine Dev.keeps_set _ _ _ _ (by decide +kernel) ?_
            refine Dev.keeps_set _ _ _ _ (by decide +kernel) ?_
            refine Dev.keeps_step (by decide +kernel) (Dev.modGrp_keeps ..) ?_
            exact Dev.keeps_refl _ _
          · refine Dev.keeps_set _ _ _ _ (by decide +kernel) ?_
            refine Dev.keeps_set _ _ _ _ (by decide +kernel) ?_
            refine Dev.keeps_step (by decide +kernel) (Dev.modGrp_keeps ..) ?_
            exact Dev.keeps_refl _ _

theorem voterCutoff_keeps (t : Nat) (d : Dev) : Dev.keeps ⟨[.out, .clk, .store, .chans, .tp, .cm, .fc], [F.FC_COND_COND,
    F.GL_READY_TRIPLEX, F.MO_JOURNAL_FILL, F.MO_JOURNAL_PENDING, F.PL_MISSES_COUNT, F.PL_SLACK_LAST, F.PL_SLACK_WMIN, F.PL_STATUS_CONSEC,
    F.PL_STATUS_MISSED, F.TP_CH_CAUSE, F.TP_CH_FENCES, F.TP_CH_SHADOW, F.TP_CH_STATE, F.TP_CH_STRIKES, F.TP_CMD_BUSY, F.TP_PROOF_RESULT,
    F.TP_PROOF_STATE, F.TP_PROOF_STEP, F.TP_STATE_DONOR, F.TP_STATE_FENCED, F.TP_STATE_IN_SERVICE, F.TP_STATE_RESYNC,
    F.TP_STATE_SIMPLEX_MS, F.TP_STATE_STATE, F.TP_VOTE_DEV_BRIDGED, F.TP_VOTE_DEV_NO_MAJORITY, F.TP_VOTE_LATE_RUN, F.TP_VOTE_MINORITY],
    []⟩ d (voterCutoff t d) := by
  unfold voterCutoff
  dsimp -proj only
  split
  · exact Dev.keeps_refl _ _
  · refine Dev.keeps_ite ?_ ?_
    · exact Dev.keeps_refl _ _
    · refine Dev.keeps_step (by decide +kernel) (Dev.modVote_keeps ..) ?_
      refine Dev.keeps_step (by decide +kernel) (Dev.shadowUnreleased_keeps ..) ?_
      refine Dev.keeps_ite ?_ ?_
      · refine Dev.keeps_step (by decide +kernel) (Dev.voteAll_keeps ..) ?_
        refine Dev.keeps_step (by decide +kernel) (Dev.judgeDigests_keeps ..) ?_
        refine Dev.keeps_step (by decide +kernel) (Dev.until'_keeps ..) ?_
        exact Dev.keeps_refl _ _
      · split
        · refine Dev.keeps_step (by decide +kernel) (Dev.release_keeps ..) ?_
          refine Dev.keeps_count _ _ _ (by decide +kernel) ?_
          refine Dev.keeps_step (by decide +kernel) (Dev.voteAll_keeps ..) ?_
          refine Dev.keeps_step (by decide +kernel) (Dev.judgeDigests_keeps ..) ?_
          refine Dev.keeps_step (by decide +kernel) (Dev.until'_keeps ..) ?_
          exact Dev.keeps_refl _ _
        · refine Dev.keeps_step (by decide +kernel) (Dev.unreleased_keeps ..) ?_
          refine Dev.keeps_step (by decide +kernel) (Dev.voteAll_keeps ..) ?_
          refine Dev.keeps_step (by decide +kernel) (Dev.judgeDigests_keeps ..) ?_
          refine Dev.keeps_step (by decide +kernel) (Dev.until'_keeps ..) ?_
          exact Dev.keeps_refl _ _

end Sys2Proof.Machine
end

