-- ==== Sys2Proof/Laws/Mem.lean ====
section
/-! SUPPORT. Byte memory: every operation keeps the canonical form, and a byte written is read back. -/

namespace Sys2Proof.Machine

theorem Mem.above_mono (m : Mem) {lo hi : Nat} (h : lo ≤ hi) (hm : Mem.above hi m = true) : Mem.above lo m = true := by
  cases m with
  | nil => rfl
  | cons c m =>
    simp only [Mem.above, Bool.and_eq_true, decide_eq_true_eq] at hm ⊢
    exact ⟨⟨Nat.le_trans h hm.1.1, hm.1.2⟩, hm.2⟩

/-- Below its bound a canonical memory reads 0. -/
theorem Mem.read_below (m : Mem) (lo a : Nat) (h : Mem.above lo m = true) (ha : a < lo) : m.read a = 0 := by
  induction m generalizing lo with
  | nil => rfl
  | cons c m ih =>
    simp only [Mem.above, Bool.and_eq_true, decide_eq_true_eq] at h
    have : c.1 ≠ a := by omega
    simp [Mem.read, this, ih (c.1 + 1) h.2 (by omega)]

theorem Mem.write_above (m : Mem) (lo a : Nat) (v : BitVec 8) (h : Mem.above lo m = true) (ha : lo ≤ a) :
    Mem.above lo (m.write a v) = true := by
  induction m generalizing lo with
  | nil => by_cases hv : v = 0#8 <;> simp [Mem.write, hv, Mem.above, ha]
  | cons c m ih =>
    simp only [Mem.above, Bool.and_eq_true, decide_eq_true_eq] at h
    obtain ⟨⟨h1, h2⟩, h3⟩ := h
    by_cases hac : a < c.1
    · by_cases hv : v = 0#8
      · rw [Mem.write, if_pos hac, if_pos hv]
        simp only [Mem.above, Bool.and_eq_true, decide_eq_true_eq]
        exact ⟨⟨h1, h2⟩, h3⟩
      · rw [Mem.write, if_pos hac, if_neg hv]
        simp only [Mem.above, Bool.and_eq_true, decide_eq_true_eq]
        exact ⟨⟨ha, hv⟩, ⟨hac, h2⟩, h3⟩
    · by_cases he : a = c.1
      · by_cases hv : v = 0#8
        · simp [Mem.write, he, hv]; exact Mem.above_mono m (by omega) h3
        · simp [Mem.write, he, hv, Mem.above, h3, h1]
      · simp only [Mem.write, hac, he, if_false, Mem.above, Bool.and_eq_true, decide_eq_true_eq]
        exact ⟨⟨h1, h2⟩, ih (c.1 + 1) h3 (by omega)⟩

/-- A write keeps the canonical form. -/
theorem Mem.write_wf (m : Mem) (a : Nat) (v : BitVec 8) (h : m.wf = true) : (m.write a v).wf = true :=
  Mem.write_above m 0 a v h (Nat.zero_le a)

theorem Mem.read_write_self (m : Mem) (lo a : Nat) (v : BitVec 8) (h : Mem.above lo m = true) : (m.write a v).read a = v := by
  induction m generalizing lo with
  | nil => by_cases hv : v = 0#8 <;> simp [Mem.write, hv, Mem.read]
  | cons c m ih =>
    simp only [Mem.above, Bool.and_eq_true, decide_eq_true_eq] at h
    obtain ⟨⟨h1, h2⟩, h3⟩ := h
    by_cases hac : a < c.1
    · by_cases hv : v = 0#8
      · have : c.1 ≠ a := by omega
        simp [Mem.write, hac, hv, Mem.read, this, Mem.read_below m (c.1 + 1) a h3 (by omega)]
      · simp [Mem.write, hac, hv, Mem.read]
    · by_cases he : a = c.1
      · by_cases hv : v = 0#8
        · simp [Mem.write, he, hv, Mem.read_below m (c.1 + 1) c.1 h3 (by omega)]
        · simp [Mem.write, he, hv, Mem.read]
      · have : c.1 ≠ a := fun k => he k.symm
        simp [Mem.write, hac, he, Mem.read, this, ih (c.1 + 1) h3]

theorem Mem.read_write_ne (m : Mem) (a b : Nat) (v : BitVec 8) (h : b ≠ a) : (m.write a v).read b = m.read b := by
  induction m with
  | nil => by_cases hv : v = 0#8 <;> simp [Mem.write, hv, Mem.read, Ne.symm h]
  | cons c m ih =>
    by_cases hac : a < c.1
    · by_cases hv : v = 0#8 <;> simp [Mem.write, hac, hv, Mem.read, Ne.symm h]
    · by_cases he : a = c.1
      · subst he
        by_cases hv : v = 0#8 <;> simp [Mem.write, hv, Mem.read, Ne.symm h]
      · simp [Mem.write, hac, he, Mem.read, ih]

/-- A write of bytes keeps the canonical form. -/
theorem Mem.writeBytes_wf (m : Mem) (a : Nat) (l : List (BitVec 8)) (h : m.wf = true) : (m.writeBytes a l).wf = true := by
  induction l generalizing m a with
  | nil => exact h
  | cons b l ih => exact ih _ _ (Mem.write_wf m a b h)

theorem Mem.take_above (m : Mem) (lo n : Nat) (h : Mem.above lo m = true) : Mem.above lo (m.take n) = true := by
  induction m generalizing lo with
  | nil => rfl
  | cons c m ih =>
    simp only [Mem.above, Bool.and_eq_true, decide_eq_true_eq] at h
    obtain ⟨⟨h1, h2⟩, h3⟩ := h
    have hm := ih (c.1 + 1) h3
    by_cases hc : c.1 < n
    · simp only [Mem.take, List.filter, decide_eq_true hc, Mem.above, Bool.and_eq_true, decide_eq_true_eq]
      exact ⟨⟨h1, h2⟩, hm⟩
    · simp only [Mem.take, List.filter, decide_eq_false hc]
      exact Mem.above_mono _ (by omega) hm

/-- The first bytes of a canonical memory are canonical. -/
theorem Mem.take_wf (m : Mem) (n : Nat) (h : m.wf = true) : (m.take n).wf = true := Mem.take_above m 0 n h

end Sys2Proof.Machine
end

