-- ==== Sys2Proof/Laws/State.lean ====
section
/-! SUPPORT. The device under its elementary updates: one lemma per field an update leaves alone; and the frame of a command. -/

namespace Sys2Proof.Machine

/-- A frame that begins moves neither the clock nor a pin. -/
theorem Dev.beginFrame_frame (c e : Nat) (w : TxWait) (t : Nat) (d : Dev) :
    (d.beginFrame c e w t).clk = d.clk ∧ (d.beginFrame c e w t).pins = d.pins := by
  unfold Dev.beginFrame Dev.started
  dsimp only
  split <;> exact ⟨rfl, rfl⟩

/-- Nor does a transmitter that goes idle. -/
theorem Dev.goIdle_frame (c e : Nat) (d : Dev) : (d.goIdle c e).clk = d.clk ∧ (d.goIdle c e).pins = d.pins := by
  unfold Dev.goIdle
  dsimp only
  repeat' split
  all_goals exact ⟨rfl, rfl⟩

theorem Dev.runLane_frame (c e n : Nat) (d : Dev) : (d.runLane c e n).clk = d.clk ∧ (d.runLane c e n).pins = d.pins := by
  induction n generalizing d with
  | zero => exact Dev.goIdle_frame c e d
  | succ n ih =>
    have i := Dev.goIdle_frame c e d
    unfold Dev.runLane
    dsimp only
    split
    · next w t _ =>
      have h := Dev.beginFrame_frame c e w t (d.goIdle c e)
      exact ⟨(ih _).1.trans (h.1.trans i.1), (ih _).2.trans (h.2.trans i.2)⟩
    · exact i

/-- The lanes that run on move neither the clock nor a pin. -/
theorem Dev.runLanes_frame (d : Dev) : d.runLanes.clk = d.clk ∧ d.runLanes.pins = d.pins := by
  unfold Dev.runLanes
  generalize d.cm.lanes.filter _ = l
  induction l generalizing d with
  | nil => exact ⟨rfl, rfl⟩
  | cons p l ih =>
    have h := Dev.runLane_frame (p.1 / 2) (p.1 % 2) p.2.txq.length d
    exact ⟨(ih _).1.trans h.1, (ih _).2.trans h.2⟩

@[simp] theorem Dev.runLanes_live (d : Dev) : d.runLanes.live = d.live := by
  simp [Dev.live, (Dev.runLanes_frame d).1, (Dev.runLanes_frame d).2]

@[simp] theorem State.seen_live (s : State) (dt : Nat) : (s.seen dt).live = (s.later dt).live := by
  unfold State.seen; split <;> simp

theorem State.seen_clk (s : State) (dt : Nat) : (s.seen dt).clk = (s.later dt).clk := by
  unfold State.seen; split
  · exact (Dev.runLanes_frame _).1
  · rfl

theorem State.seen_pins (s : State) (dt : Nat) : (s.seen dt).pins = (s.later dt).pins := by
  unfold State.seen; split
  · exact (Dev.runLanes_frame _).2
  · rfl

/-- A command that finds the device at work has its effect, then the faults of the tick and ERR_N follow. -/
theorem State.cmd_live (s : State) (dt : Nat) (f : Dev → Dev) (h : (s.seen dt).live = true) :
    s.cmd dt f = s.settled (f (s.seen dt)) := by
  rw [State.seen_live] at h
  show (⟨if (s.later dt).live then (Dev.settleN 12 (f (s.later dt).runLanes)).errUpdate else s.later dt, s.pending⟩ : State) = _
  rw [if_pos h, State.seen, if_pos h]; rfl

/-- A command that finds the device without power or in reset only lets its ticks pass. -/
theorem State.cmd_dead (s : State) (dt : Nat) (f : Dev → Dev) (h : (s.seen dt).live = false) :
    s.cmd dt f = { s with dev := s.seen dt } := by
  rw [State.seen_live] at h
  show (⟨if (s.later dt).live then (Dev.settleN 12 (f (s.later dt).runLanes)).errUpdate else s.later dt, s.pending⟩ : State) = _
  rw [h, State.seen, h]; rfl

@[simp] theorem State.settled_pending (s : State) (e : Dev) : (s.settled e).pending = s.pending := rfl
@[simp] theorem State.cmd_pending (s : State) (dt : Nat) (f : Dev → Dev) : (s.cmd dt f).pending = s.pending := rfl
@[simp] theorem State.pin_pending (s : State) (dt : Nat) (f : Dev → Dev) : (s.pin dt f).pending = s.pending := rfl

/-- With nothing raised the tick has no reactions. -/
theorem Dev.settleN_quiet (n : Nat) (e : Dev) (h : e.fc.due = []) : e.settleN n = e := by
  cases n with
  | zero => rfl
  | succ n => simp [Dev.settleN, h]

/-- A host write that is let through has its effect. -/
theorem Dev.hostWrite_accepted (d : Dev) (x off : Nat) (f : Dev → Dev) (h : d.refusal x true off = none) :
    d.hostWrite x off f = f d := by simp [Dev.hostWrite, h]

/-- A host write that is refused leaves its record and nothing else. -/
theorem Dev.hostWrite_refused (d : Dev) (x off c : Nat) (f : Dev → Dev) (h : d.refusal x true off = some c) :
    d.hostWrite x off f = d.refuse x false true c off := by simp [Dev.hostWrite, h]

/-- A host read that is let through. -/
theorem Dev.hostRead_accepted (d : Dev) (x off : Nat) (f : Dev → Dev × Nat) (h : d.refusal x false off = none) :
    d.hostRead x off f = (f d).1.emit (.readData x off (f d).2) := by simp [Dev.hostRead, h]

@[simp] theorem Dev.elapse_out (d : Dev) (n : Nat) : (Dev.elapse n d).out = d.out := rfl
@[simp] theorem Dev.elapse_free (d : Dev) (n : Nat) : (Dev.elapse n d).free = d.free := rfl
@[simp] theorem Dev.elapse_pins (d : Dev) (n : Nat) : (Dev.elapse n d).pins = d.pins := rfl
@[simp] theorem Dev.elapse_bank (d : Dev) (n : Nat) : (Dev.elapse n d).bank = d.bank := rfl
@[simp] theorem Dev.elapse_work (d : Dev) (n : Nat) : (Dev.elapse n d).work = d.work := rfl
@[simp] theorem Dev.elapse_store (d : Dev) (n : Nat) : (Dev.elapse n d).store = d.store := rfl
@[simp] theorem Dev.elapse_mo (d : Dev) (n : Nat) : (Dev.elapse n d).mo = d.mo := rfl
@[simp] theorem Dev.elapse_grps (d : Dev) (n : Nat) : (Dev.elapse n d).grps = d.grps := rfl
@[simp] theorem Dev.elapse_chans (d : Dev) (n : Nat) : (Dev.elapse n d).chans = d.chans := rfl
@[simp] theorem Dev.elapse_tp (d : Dev) (n : Nat) : (Dev.elapse n d).tp = d.tp := rfl
@[simp] theorem Dev.elapse_cm (d : Dev) (n : Nat) : (Dev.elapse n d).cm = d.cm := rfl
@[simp] theorem Dev.elapse_si (d : Dev) (n : Nat) : (Dev.elapse n d).si = d.si := rfl
@[simp] theorem Dev.elapse_tb (d : Dev) (n : Nat) : (Dev.elapse n d).tb = d.tb := rfl
@[simp] theorem Dev.elapse_fc (d : Dev) (n : Nat) : (Dev.elapse n d).fc = d.fc := rfl
@[simp] theorem Dev.elapse_sb (d : Dev) (n : Nat) : (Dev.elapse n d).sb = d.sb := rfl
@[simp] theorem Dev.elapse_host (d : Dev) (n : Nat) : (Dev.elapse n d).host = d.host := rfl
@[simp] theorem Dev.elapse_dma (d : Dev) (n : Nat) : (Dev.elapse n d).dma = d.dma := rfl
@[simp] theorem Dev.elapse_pm (d : Dev) (n : Nat) : (Dev.elapse n d).pm = d.pm := rfl

@[simp] theorem Dev.set_out (d : Dev) (f : Fld) (v i j : Nat) : (d.set f v i j).out = d.out := rfl
@[simp] theorem Dev.set_free (d : Dev) (f : Fld) (v i j : Nat) : (d.set f v i j).free = d.free := rfl
@[simp] theorem Dev.set_clk (d : Dev) (f : Fld) (v i j : Nat) : (d.set f v i j).clk = d.clk := rfl
@[simp] theorem Dev.set_pins (d : Dev) (f : Fld) (v i j : Nat) : (d.set f v i j).pins = d.pins := rfl
@[simp] theorem Dev.set_work (d : Dev) (f : Fld) (v i j : Nat) : (d.set f v i j).work = d.work := rfl
@[simp] theorem Dev.set_store (d : Dev) (f : Fld) (v i j : Nat) : (d.set f v i j).store = d.store := rfl
@[simp] theorem Dev.set_mo (d : Dev) (f : Fld) (v i j : Nat) : (d.set f v i j).mo = d.mo := rfl
@[simp] theorem Dev.set_grps (d : Dev) (f : Fld) (v i j : Nat) : (d.set f v i j).grps = d.grps := rfl
@[simp] theorem Dev.set_chans (d : Dev) (f : Fld) (v i j : Nat) : (d.set f v i j).chans = d.chans := rfl
@[simp] theorem Dev.set_tp (d : Dev) (f : Fld) (v i j : Nat) : (d.set f v i j).tp = d.tp := rfl
@[simp] theorem Dev.set_cm (d : Dev) (f : Fld) (v i j : Nat) : (d.set f v i j).cm = d.cm := rfl
@[simp] theorem Dev.set_si (d : Dev) (f : Fld) (v i j : Nat) : (d.set f v i j).si = d.si := rfl
@[simp] theorem Dev.set_tb (d : Dev) (f : Fld) (v i j : Nat) : (d.set f v i j).tb = d.tb := rfl
@[simp] theorem Dev.set_fc (d : Dev) (f : Fld) (v i j : Nat) : (d.set f v i j).fc = d.fc := rfl
@[simp] theorem Dev.set_sb (d : Dev) (f : Fld) (v i j : Nat) : (d.set f v i j).sb = d.sb := rfl
@[simp] theorem Dev.set_host (d : Dev) (f : Fld) (v i j : Nat) : (d.set f v i j).host = d.host := rfl
@[simp] theorem Dev.set_dma (d : Dev) (f : Fld) (v i j : Nat) : (d.set f v i j).dma = d.dma := rfl
@[simp] theorem Dev.set_pm (d : Dev) (f : Fld) (v i j : Nat) : (d.set f v i j).pm = d.pm := rfl

@[simp] theorem Dev.flag_out (d : Dev) (f : Fld) (b : Bool) (i j : Nat) : (d.flag f b i j).out = d.out := rfl
@[simp] theorem Dev.flag_free (d : Dev) (f : Fld) (b : Bool) (i j : Nat) : (d.flag f b i j).free = d.free := rfl
@[simp] theorem Dev.flag_clk (d : Dev) (f : Fld) (b : Bool) (i j : Nat) : (d.flag f b i j).clk = d.clk := rfl
@[simp] theorem Dev.flag_pins (d : Dev) (f : Fld) (b : Bool) (i j : Nat) : (d.flag f b i j).pins = d.pins := rfl
@[simp] theorem Dev.flag_work (d : Dev) (f : Fld) (b : Bool) (i j : Nat) : (d.flag f b i j).work = d.work := rfl
@[simp] theorem Dev.flag_store (d : Dev) (f : Fld) (b : Bool) (i j : Nat) : (d.flag f b i j).store = d.store := rfl
@[simp] theorem Dev.flag_mo (d : Dev) (f : Fld) (b : Bool) (i j : Nat) : (d.flag f b i j).mo = d.mo := rfl
@[simp] theorem Dev.flag_grps (d : Dev) (f : Fld) (b : Bool) (i j : Nat) : (d.flag f b i j).grps = d.grps := rfl
@[simp] theorem Dev.flag_chans (d : Dev) (f : Fld) (b : Bool) (i j : Nat) : (d.flag f b i j).chans = d.chans := rfl
@[simp] theorem Dev.flag_tp (d : Dev) (f : Fld) (b : Bool) (i j : Nat) : (d.flag f b i j).tp = d.tp := rfl
@[simp] theorem Dev.flag_cm (d : Dev) (f : Fld) (b : Bool) (i j : Nat) : (d.flag f b i j).cm = d.cm := rfl
@[simp] theorem Dev.flag_si (d : Dev) (f : Fld) (b : Bool) (i j : Nat) : (d.flag f b i j).si = d.si := rfl
@[simp] theorem Dev.flag_tb (d : Dev) (f : Fld) (b : Bool) (i j : Nat) : (d.flag f b i j).tb = d.tb := rfl
@[simp] theorem Dev.flag_fc (d : Dev) (f : Fld) (b : Bool) (i j : Nat) : (d.flag f b i j).fc = d.fc := rfl
@[simp] theorem Dev.flag_sb (d : Dev) (f : Fld) (b : Bool) (i j : Nat) : (d.flag f b i j).sb = d.sb := rfl
@[simp] theorem Dev.flag_host (d : Dev) (f : Fld) (b : Bool) (i j : Nat) : (d.flag f b i j).host = d.host := rfl
@[simp] theorem Dev.flag_dma (d : Dev) (f : Fld) (b : Bool) (i j : Nat) : (d.flag f b i j).dma = d.dma := rfl
@[simp] theorem Dev.flag_pm (d : Dev) (f : Fld) (b : Bool) (i j : Nat) : (d.flag f b i j).pm = d.pm := rfl

@[simp] theorem Dev.count_out (d : Dev) (f : Fld) (i j : Nat) : (d.count f i j).out = d.out := rfl
@[simp] theorem Dev.count_free (d : Dev) (f : Fld) (i j : Nat) : (d.count f i j).free = d.free := rfl
@[simp] theorem Dev.count_clk (d : Dev) (f : Fld) (i j : Nat) : (d.count f i j).clk = d.clk := rfl
@[simp] theorem Dev.count_pins (d : Dev) (f : Fld) (i j : Nat) : (d.count f i j).pins = d.pins := rfl
@[simp] theorem Dev.count_work (d : Dev) (f : Fld) (i j : Nat) : (d.count f i j).work = d.work := rfl
@[simp] theorem Dev.count_store (d : Dev) (f : Fld) (i j : Nat) : (d.count f i j).store = d.store := rfl
@[simp] theorem Dev.count_mo (d : Dev) (f : Fld) (i j : Nat) : (d.count f i j).mo = d.mo := rfl
@[simp] theorem Dev.count_grps (d : Dev) (f : Fld) (i j : Nat) : (d.count f i j).grps = d.grps := rfl
@[simp] theorem Dev.count_chans (d : Dev) (f : Fld) (i j : Nat) : (d.count f i j).chans = d.chans := rfl
@[simp] theorem Dev.count_tp (d : Dev) (f : Fld) (i j : Nat) : (d.count f i j).tp = d.tp := rfl
@[simp] theorem Dev.count_cm (d : Dev) (f : Fld) (i j : Nat) : (d.count f i j).cm = d.cm := rfl
@[simp] theorem Dev.count_si (d : Dev) (f : Fld) (i j : Nat) : (d.count f i j).si = d.si := rfl
@[simp] theorem Dev.count_tb (d : Dev) (f : Fld) (i j : Nat) : (d.count f i j).tb = d.tb := rfl
@[simp] theorem Dev.count_fc (d : Dev) (f : Fld) (i j : Nat) : (d.count f i j).fc = d.fc := rfl
@[simp] theorem Dev.count_sb (d : Dev) (f : Fld) (i j : Nat) : (d.count f i j).sb = d.sb := rfl
@[simp] theorem Dev.count_host (d : Dev) (f : Fld) (i j : Nat) : (d.count f i j).host = d.host := rfl
@[simp] theorem Dev.count_dma (d : Dev) (f : Fld) (i j : Nat) : (d.count f i j).dma = d.dma := rfl
@[simp] theorem Dev.count_pm (d : Dev) (f : Fld) (i j : Nat) : (d.count f i j).pm = d.pm := rfl

@[simp] theorem Dev.addTo_out (d : Dev) (f : Fld) (n i j : Nat) : (d.addTo f n i j).out = d.out := rfl
@[simp] theorem Dev.addTo_free (d : Dev) (f : Fld) (n i j : Nat) : (d.addTo f n i j).free = d.free := rfl
@[simp] theorem Dev.addTo_clk (d : Dev) (f : Fld) (n i j : Nat) : (d.addTo f n i j).clk = d.clk := rfl
@[simp] theorem Dev.addTo_pins (d : Dev) (f : Fld) (n i j : Nat) : (d.addTo f n i j).pins = d.pins := rfl
@[simp] theorem Dev.addTo_work (d : Dev) (f : Fld) (n i j : Nat) : (d.addTo f n i j).work = d.work := rfl
@[simp] theorem Dev.addTo_store (d : Dev) (f : Fld) (n i j : Nat) : (d.addTo f n i j).store = d.store := rfl
@[simp] theorem Dev.addTo_mo (d : Dev) (f : Fld) (n i j : Nat) : (d.addTo f n i j).mo = d.mo := rfl
@[simp] theorem Dev.addTo_grps (d : Dev) (f : Fld) (n i j : Nat) : (d.addTo f n i j).grps = d.grps := rfl
@[simp] theorem Dev.addTo_chans (d : Dev) (f : Fld) (n i j : Nat) : (d.addTo f n i j).chans = d.chans := rfl
@[simp] theorem Dev.addTo_tp (d : Dev) (f : Fld) (n i j : Nat) : (d.addTo f n i j).tp = d.tp := rfl
@[simp] theorem Dev.addTo_cm (d : Dev) (f : Fld) (n i j : Nat) : (d.addTo f n i j).cm = d.cm := rfl
@[simp] theorem Dev.addTo_si (d : Dev) (f : Fld) (n i j : Nat) : (d.addTo f n i j).si = d.si := rfl
@[simp] theorem Dev.addTo_tb (d : Dev) (f : Fld) (n i j : Nat) : (d.addTo f n i j).tb = d.tb := rfl
@[simp] theorem Dev.addTo_fc (d : Dev) (f : Fld) (n i j : Nat) : (d.addTo f n i j).fc = d.fc := rfl
@[simp] theorem Dev.addTo_sb (d : Dev) (f : Fld) (n i j : Nat) : (d.addTo f n i j).sb = d.sb := rfl
@[simp] theorem Dev.addTo_host (d : Dev) (f : Fld) (n i j : Nat) : (d.addTo f n i j).host = d.host := rfl
@[simp] theorem Dev.addTo_dma (d : Dev) (f : Fld) (n i j : Nat) : (d.addTo f n i j).dma = d.dma := rfl
@[simp] theorem Dev.addTo_pm (d : Dev) (f : Fld) (n i j : Nat) : (d.addTo f n i j).pm = d.pm := rfl

@[simp] theorem Dev.setI_out (d : Dev) (f : Fld) (v : Int) (i j : Nat) : (d.setI f v i j).out = d.out := rfl
@[simp] theorem Dev.setI_free (d : Dev) (f : Fld) (v : Int) (i j : Nat) : (d.setI f v i j).free = d.free := rfl
@[simp] theorem Dev.setI_clk (d : Dev) (f : Fld) (v : Int) (i j : Nat) : (d.setI f v i j).clk = d.clk := rfl
@[simp] theorem Dev.setI_pins (d : Dev) (f : Fld) (v : Int) (i j : Nat) : (d.setI f v i j).pins = d.pins := rfl
@[simp] theorem Dev.setI_work (d : Dev) (f : Fld) (v : Int) (i j : Nat) : (d.setI f v i j).work = d.work := rfl
@[simp] theorem Dev.setI_store (d : Dev) (f : Fld) (v : Int) (i j : Nat) : (d.setI f v i j).store = d.store := rfl
@[simp] theorem Dev.setI_mo (d : Dev) (f : Fld) (v : Int) (i j : Nat) : (d.setI f v i j).mo = d.mo := rfl
@[simp] theorem Dev.setI_grps (d : Dev) (f : Fld) (v : Int) (i j : Nat) : (d.setI f v i j).grps = d.grps := rfl
@[simp] theorem Dev.setI_chans (d : Dev) (f : Fld) (v : Int) (i j : Nat) : (d.setI f v i j).chans = d.chans := rfl
@[simp] theorem Dev.setI_tp (d : Dev) (f : Fld) (v : Int) (i j : Nat) : (d.setI f v i j).tp = d.tp := rfl
@[simp] theorem Dev.setI_cm (d : Dev) (f : Fld) (v : Int) (i j : Nat) : (d.setI f v i j).cm = d.cm := rfl
@[simp] theorem Dev.setI_si (d : Dev) (f : Fld) (v : Int) (i j : Nat) : (d.setI f v i j).si = d.si := rfl
@[simp] theorem Dev.setI_tb (d : Dev) (f : Fld) (v : Int) (i j : Nat) : (d.setI f v i j).tb = d.tb := rfl
@[simp] theorem Dev.setI_fc (d : Dev) (f : Fld) (v : Int) (i j : Nat) : (d.setI f v i j).fc = d.fc := rfl
@[simp] theorem Dev.setI_sb (d : Dev) (f : Fld) (v : Int) (i j : Nat) : (d.setI f v i j).sb = d.sb := rfl
@[simp] theorem Dev.setI_host (d : Dev) (f : Fld) (v : Int) (i j : Nat) : (d.setI f v i j).host = d.host := rfl
@[simp] theorem Dev.setI_dma (d : Dev) (f : Fld) (v : Int) (i j : Nat) : (d.setI f v i j).dma = d.dma := rfl
@[simp] theorem Dev.setI_pm (d : Dev) (f : Fld) (v : Int) (i j : Nat) : (d.setI f v i j).pm = d.pm := rfl

@[simp] theorem Dev.setBit_out (d : Dev) (f : Fld) (n : Nat) (b : Bool) (i j : Nat) : (d.setBit f n b i j).out = d.out := rfl
@[simp] theorem Dev.setBit_free (d : Dev) (f : Fld) (n : Nat) (b : Bool) (i j : Nat) : (d.setBit f n b i j).free = d.free := rfl
@[simp] theorem Dev.setBit_clk (d : Dev) (f : Fld) (n : Nat) (b : Bool) (i j : Nat) : (d.setBit f n b i j).clk = d.clk := rfl
@[simp] theorem Dev.setBit_pins (d : Dev) (f : Fld) (n : Nat) (b : Bool) (i j : Nat) : (d.setBit f n b i j).pins = d.pins := rfl
@[simp] theorem Dev.setBit_work (d : Dev) (f : Fld) (n : Nat) (b : Bool) (i j : Nat) : (d.setBit f n b i j).work = d.work := rfl
@[simp] theorem Dev.setBit_store (d : Dev) (f : Fld) (n : Nat) (b : Bool) (i j : Nat) : (d.setBit f n b i j).store = d.store := rfl
@[simp] theorem Dev.setBit_mo (d : Dev) (f : Fld) (n : Nat) (b : Bool) (i j : Nat) : (d.setBit f n b i j).mo = d.mo := rfl
@[simp] theorem Dev.setBit_grps (d : Dev) (f : Fld) (n : Nat) (b : Bool) (i j : Nat) : (d.setBit f n b i j).grps = d.grps := rfl
@[simp] theorem Dev.setBit_chans (d : Dev) (f : Fld) (n : Nat) (b : Bool) (i j : Nat) : (d.setBit f n b i j).chans = d.chans := rfl
@[simp] theorem Dev.setBit_tp (d : Dev) (f : Fld) (n : Nat) (b : Bool) (i j : Nat) : (d.setBit f n b i j).tp = d.tp := rfl
@[simp] theorem Dev.setBit_cm (d : Dev) (f : Fld) (n : Nat) (b : Bool) (i j : Nat) : (d.setBit f n b i j).cm = d.cm := rfl
@[simp] theorem Dev.setBit_si (d : Dev) (f : Fld) (n : Nat) (b : Bool) (i j : Nat) : (d.setBit f n b i j).si = d.si := rfl
@[simp] theorem Dev.setBit_tb (d : Dev) (f : Fld) (n : Nat) (b : Bool) (i j : Nat) : (d.setBit f n b i j).tb = d.tb := rfl
@[simp] theorem Dev.setBit_fc (d : Dev) (f : Fld) (n : Nat) (b : Bool) (i j : Nat) : (d.setBit f n b i j).fc = d.fc := rfl
@[simp] theorem Dev.setBit_sb (d : Dev) (f : Fld) (n : Nat) (b : Bool) (i j : Nat) : (d.setBit f n b i j).sb = d.sb := rfl
@[simp] theorem Dev.setBit_host (d : Dev) (f : Fld) (n : Nat) (b : Bool) (i j : Nat) : (d.setBit f n b i j).host = d.host := rfl
@[simp] theorem Dev.setBit_dma (d : Dev) (f : Fld) (n : Nat) (b : Bool) (i j : Nat) : (d.setBit f n b i j).dma = d.dma := rfl
@[simp] theorem Dev.setBit_pm (d : Dev) (f : Fld) (n : Nat) (b : Bool) (i j : Nat) : (d.setBit f n b i j).pm = d.pm := rfl

@[simp] theorem Dev.emit_free (d : Dev) (o : Out) : (d.emit o).free = d.free := rfl
@[simp] theorem Dev.emit_clk (d : Dev) (o : Out) : (d.emit o).clk = d.clk := rfl
@[simp] theorem Dev.emit_pins (d : Dev) (o : Out) : (d.emit o).pins = d.pins := rfl
@[simp] theorem Dev.emit_bank (d : Dev) (o : Out) : (d.emit o).bank = d.bank := rfl
@[simp] theorem Dev.emit_work (d : Dev) (o : Out) : (d.emit o).work = d.work := rfl
@[simp] theorem Dev.emit_store (d : Dev) (o : Out) : (d.emit o).store = d.store := rfl
@[simp] theorem Dev.emit_mo (d : Dev) (o : Out) : (d.emit o).mo = d.mo := rfl
@[simp] theorem Dev.emit_grps (d : Dev) (o : Out) : (d.emit o).grps = d.grps := rfl
@[simp] theorem Dev.emit_chans (d : Dev) (o : Out) : (d.emit o).chans = d.chans := rfl
@[simp] theorem Dev.emit_tp (d : Dev) (o : Out) : (d.emit o).tp = d.tp := rfl
@[simp] theorem Dev.emit_cm (d : Dev) (o : Out) : (d.emit o).cm = d.cm := rfl
@[simp] theorem Dev.emit_si (d : Dev) (o : Out) : (d.emit o).si = d.si := rfl
@[simp] theorem Dev.emit_tb (d : Dev) (o : Out) : (d.emit o).tb = d.tb := rfl
@[simp] theorem Dev.emit_fc (d : Dev) (o : Out) : (d.emit o).fc = d.fc := rfl
@[simp] theorem Dev.emit_sb (d : Dev) (o : Out) : (d.emit o).sb = d.sb := rfl
@[simp] theorem Dev.emit_host (d : Dev) (o : Out) : (d.emit o).host = d.host := rfl
@[simp] theorem Dev.emit_dma (d : Dev) (o : Out) : (d.emit o).dma = d.dma := rfl
@[simp] theorem Dev.emit_pm (d : Dev) (o : Out) : (d.emit o).pm = d.pm := rfl

@[simp] theorem Dev.tookFree_out (d : Dev) : (d.tookFree).out = d.out := rfl
@[simp] theorem Dev.tookFree_clk (d : Dev) : (d.tookFree).clk = d.clk := rfl
@[simp] theorem Dev.tookFree_pins (d : Dev) : (d.tookFree).pins = d.pins := rfl
@[simp] theorem Dev.tookFree_bank (d : Dev) : (d.tookFree).bank = d.bank := rfl
@[simp] theorem Dev.tookFree_work (d : Dev) : (d.tookFree).work = d.work := rfl
@[simp] theorem Dev.tookFree_store (d : Dev) : (d.tookFree).store = d.store := rfl
@[simp] theorem Dev.tookFree_mo (d : Dev) : (d.tookFree).mo = d.mo := rfl
@[simp] theorem Dev.tookFree_grps (d : Dev) : (d.tookFree).grps = d.grps := rfl
@[simp] theorem Dev.tookFree_chans (d : Dev) : (d.tookFree).chans = d.chans := rfl
@[simp] theorem Dev.tookFree_tp (d : Dev) : (d.tookFree).tp = d.tp := rfl
@[simp] theorem Dev.tookFree_cm (d : Dev) : (d.tookFree).cm = d.cm := rfl
@[simp] theorem Dev.tookFree_si (d : Dev) : (d.tookFree).si = d.si := rfl
@[simp] theorem Dev.tookFree_tb (d : Dev) : (d.tookFree).tb = d.tb := rfl
@[simp] theorem Dev.tookFree_fc (d : Dev) : (d.tookFree).fc = d.fc := rfl
@[simp] theorem Dev.tookFree_sb (d : Dev) : (d.tookFree).sb = d.sb := rfl
@[simp] theorem Dev.tookFree_host (d : Dev) : (d.tookFree).host = d.host := rfl
@[simp] theorem Dev.tookFree_dma (d : Dev) : (d.tookFree).dma = d.dma := rfl
@[simp] theorem Dev.tookFree_pm (d : Dev) : (d.tookFree).pm = d.pm := rfl

@[simp] theorem Dev.modGrp_out (d : Dev) (g : Nat) (f : GroupHub → GroupHub) : (d.modGrp g f).out = d.out := rfl
@[simp] theorem Dev.modGrp_free (d : Dev) (g : Nat) (f : GroupHub → GroupHub) : (d.modGrp g f).free = d.free := rfl
@[simp] theorem Dev.modGrp_clk (d : Dev) (g : Nat) (f : GroupHub → GroupHub) : (d.modGrp g f).clk = d.clk := rfl
@[simp] theorem Dev.modGrp_pins (d : Dev) (g : Nat) (f : GroupHub → GroupHub) : (d.modGrp g f).pins = d.pins := rfl
@[simp] theorem Dev.modGrp_bank (d : Dev) (g : Nat) (f : GroupHub → GroupHub) : (d.modGrp g f).bank = d.bank := rfl
@[simp] theorem Dev.modGrp_work (d : Dev) (g : Nat) (f : GroupHub → GroupHub) : (d.modGrp g f).work = d.work := rfl
@[simp] theorem Dev.modGrp_store (d : Dev) (g : Nat) (f : GroupHub → GroupHub) : (d.modGrp g f).store = d.store := rfl
@[simp] theorem Dev.modGrp_mo (d : Dev) (g : Nat) (f : GroupHub → GroupHub) : (d.modGrp g f).mo = d.mo := rfl
@[simp] theorem Dev.modGrp_chans (d : Dev) (g : Nat) (f : GroupHub → GroupHub) : (d.modGrp g f).chans = d.chans := rfl
@[simp] theorem Dev.modGrp_tp (d : Dev) (g : Nat) (f : GroupHub → GroupHub) : (d.modGrp g f).tp = d.tp := rfl
@[simp] theorem Dev.modGrp_cm (d : Dev) (g : Nat) (f : GroupHub → GroupHub) : (d.modGrp g f).cm = d.cm := rfl
@[simp] theorem Dev.modGrp_si (d : Dev) (g : Nat) (f : GroupHub → GroupHub) : (d.modGrp g f).si = d.si := rfl
@[simp] theorem Dev.modGrp_tb (d : Dev) (g : Nat) (f : GroupHub → GroupHub) : (d.modGrp g f).tb = d.tb := rfl
@[simp] theorem Dev.modGrp_fc (d : Dev) (g : Nat) (f : GroupHub → GroupHub) : (d.modGrp g f).fc = d.fc := rfl
@[simp] theorem Dev.modGrp_sb (d : Dev) (g : Nat) (f : GroupHub → GroupHub) : (d.modGrp g f).sb = d.sb := rfl
@[simp] theorem Dev.modGrp_host (d : Dev) (g : Nat) (f : GroupHub → GroupHub) : (d.modGrp g f).host = d.host := rfl
@[simp] theorem Dev.modGrp_dma (d : Dev) (g : Nat) (f : GroupHub → GroupHub) : (d.modGrp g f).dma = d.dma := rfl
@[simp] theorem Dev.modGrp_pm (d : Dev) (g : Nat) (f : GroupHub → GroupHub) : (d.modGrp g f).pm = d.pm := rfl

@[simp] theorem Dev.modChan_out (d : Dev) (c : Nat) (f : Chan → Chan) : (d.modChan c f).out = d.out := rfl
@[simp] theorem Dev.modChan_free (d : Dev) (c : Nat) (f : Chan → Chan) : (d.modChan c f).free = d.free := rfl
@[simp] theorem Dev.modChan_clk (d : Dev) (c : Nat) (f : Chan → Chan) : (d.modChan c f).clk = d.clk := rfl
@[simp] theorem Dev.modChan_pins (d : Dev) (c : Nat) (f : Chan → Chan) : (d.modChan c f).pins = d.pins := rfl
@[simp] theorem Dev.modChan_bank (d : Dev) (c : Nat) (f : Chan → Chan) : (d.modChan c f).bank = d.bank := rfl
@[simp] theorem Dev.modChan_work (d : Dev) (c : Nat) (f : Chan → Chan) : (d.modChan c f).work = d.work := rfl
@[simp] theorem Dev.modChan_store (d : Dev) (c : Nat) (f : Chan → Chan) : (d.modChan c f).store = d.store := rfl
@[simp] theorem Dev.modChan_mo (d : Dev) (c : Nat) (f : Chan → Chan) : (d.modChan c f).mo = d.mo := rfl
@[simp] theorem Dev.modChan_grps (d : Dev) (c : Nat) (f : Chan → Chan) : (d.modChan c f).grps = d.grps := rfl
@[simp] theorem Dev.modChan_tp (d : Dev) (c : Nat) (f : Chan → Chan) : (d.modChan c f).tp = d.tp := rfl
@[simp] theorem Dev.modChan_cm (d : Dev) (c : Nat) (f : Chan → Chan) : (d.modChan c f).cm = d.cm := rfl
@[simp] theorem Dev.modChan_si (d : Dev) (c : Nat) (f : Chan → Chan) : (d.modChan c f).si = d.si := rfl
@[simp] theorem Dev.modChan_tb (d : Dev) (c : Nat) (f : Chan → Chan) : (d.modChan c f).tb = d.tb := rfl
@[simp] theorem Dev.modChan_fc (d : Dev) (c : Nat) (f : Chan → Chan) : (d.modChan c f).fc = d.fc := rfl
@[simp] theorem Dev.modChan_sb (d : Dev) (c : Nat) (f : Chan → Chan) : (d.modChan c f).sb = d.sb := rfl
@[simp] theorem Dev.modChan_host (d : Dev) (c : Nat) (f : Chan → Chan) : (d.modChan c f).host = d.host := rfl
@[simp] theorem Dev.modChan_dma (d : Dev) (c : Nat) (f : Chan → Chan) : (d.modChan c f).dma = d.dma := rfl
@[simp] theorem Dev.modChan_pm (d : Dev) (c : Nat) (f : Chan → Chan) : (d.modChan c f).pm = d.pm := rfl

@[simp] theorem Dev.modLane_out (d : Dev) (c e : Nat) (f : LaneSt → LaneSt) : (d.modLane c e f).out = d.out := rfl
@[simp] theorem Dev.modLane_free (d : Dev) (c e : Nat) (f : LaneSt → LaneSt) : (d.modLane c e f).free = d.free := rfl
@[simp] theorem Dev.modLane_clk (d : Dev) (c e : Nat) (f : LaneSt → LaneSt) : (d.modLane c e f).clk = d.clk := rfl
@[simp] theorem Dev.modLane_pins (d : Dev) (c e : Nat) (f : LaneSt → LaneSt) : (d.modLane c e f).pins = d.pins := rfl
@[simp] theorem Dev.modLane_bank (d : Dev) (c e : Nat) (f : LaneSt → LaneSt) : (d.modLane c e f).bank = d.bank := rfl
@[simp] theorem Dev.modLane_work (d : Dev) (c e : Nat) (f : LaneSt → LaneSt) : (d.modLane c e f).work = d.work := rfl
@[simp] theorem Dev.modLane_store (d : Dev) (c e : Nat) (f : LaneSt → LaneSt) : (d.modLane c e f).store = d.store := rfl
@[simp] theorem Dev.modLane_mo (d : Dev) (c e : Nat) (f : LaneSt → LaneSt) : (d.modLane c e f).mo = d.mo := rfl
@[simp] theorem Dev.modLane_grps (d : Dev) (c e : Nat) (f : LaneSt → LaneSt) : (d.modLane c e f).grps = d.grps := rfl
@[simp] theorem Dev.modLane_chans (d : Dev) (c e : Nat) (f : LaneSt → LaneSt) : (d.modLane c e f).chans = d.chans := rfl
@[simp] theorem Dev.modLane_tp (d : Dev) (c e : Nat) (f : LaneSt → LaneSt) : (d.modLane c e f).tp = d.tp := rfl
@[simp] theorem Dev.modLane_si (d : Dev) (c e : Nat) (f : LaneSt → LaneSt) : (d.modLane c e f).si = d.si := rfl
@[simp] theorem Dev.modLane_tb (d : Dev) (c e : Nat) (f : LaneSt → LaneSt) : (d.modLane c e f).tb = d.tb := rfl
@[simp] theorem Dev.modLane_fc (d : Dev) (c e : Nat) (f : LaneSt → LaneSt) : (d.modLane c e f).fc = d.fc := rfl
@[simp] theorem Dev.modLane_sb (d : Dev) (c e : Nat) (f : LaneSt → LaneSt) : (d.modLane c e f).sb = d.sb := rfl
@[simp] theorem Dev.modLane_host (d : Dev) (c e : Nat) (f : LaneSt → LaneSt) : (d.modLane c e f).host = d.host := rfl
@[simp] theorem Dev.modLane_dma (d : Dev) (c e : Nat) (f : LaneSt → LaneSt) : (d.modLane c e f).dma = d.dma := rfl
@[simp] theorem Dev.modLane_pm (d : Dev) (c e : Nat) (f : LaneSt → LaneSt) : (d.modLane c e f).pm = d.pm := rfl

@[simp] theorem Dev.modCrs_out (d : Dev) (c : Nat) (f : CrsSt → CrsSt) : (d.modCrs c f).out = d.out := rfl
@[simp] theorem Dev.modCrs_free (d : Dev) (c : Nat) (f : CrsSt → CrsSt) : (d.modCrs c f).free = d.free := rfl
@[simp] theorem Dev.modCrs_clk (d : Dev) (c : Nat) (f : CrsSt → CrsSt) : (d.modCrs c f).clk = d.clk := rfl
@[simp] theorem Dev.modCrs_pins (d : Dev) (c : Nat) (f : CrsSt → CrsSt) : (d.modCrs c f).pins = d.pins := rfl
@[simp] theorem Dev.modCrs_bank (d : Dev) (c : Nat) (f : CrsSt → CrsSt) : (d.modCrs c f).bank = d.bank := rfl
@[simp] theorem Dev.modCrs_work (d : Dev) (c : Nat) (f : CrsSt → CrsSt) : (d.modCrs c f).work = d.work := rfl
@[simp] theorem Dev.modCrs_store (d : Dev) (c : Nat) (f : CrsSt → CrsSt) : (d.modCrs c f).store = d.store := rfl
@[simp] theorem Dev.modCrs_mo (d : Dev) (c : Nat) (f : CrsSt → CrsSt) : (d.modCrs c f).mo = d.mo := rfl
@[simp] theorem Dev.modCrs_grps (d : Dev) (c : Nat) (f : CrsSt → CrsSt) : (d.modCrs c f).grps = d.grps := rfl
@[simp] theorem Dev.modCrs_chans (d : Dev) (c : Nat) (f : CrsSt → CrsSt) : (d.modCrs c f).chans = d.chans := rfl
@[simp] theorem Dev.modCrs_tp (d : Dev) (c : Nat) (f : CrsSt → CrsSt) : (d.modCrs c f).tp = d.tp := rfl
@[simp] theorem Dev.modCrs_si (d : Dev) (c : Nat) (f : CrsSt → CrsSt) : (d.modCrs c f).si = d.si := rfl
@[simp] theorem Dev.modCrs_tb (d : Dev) (c : Nat) (f : CrsSt → CrsSt) : (d.modCrs c f).tb = d.tb := rfl
@[simp] theorem Dev.modCrs_fc (d : Dev) (c : Nat) (f : CrsSt → CrsSt) : (d.modCrs c f).fc = d.fc := rfl
@[simp] theorem Dev.modCrs_sb (d : Dev) (c : Nat) (f : CrsSt → CrsSt) : (d.modCrs c f).sb = d.sb := rfl
@[simp] theorem Dev.modCrs_host (d : Dev) (c : Nat) (f : CrsSt → CrsSt) : (d.modCrs c f).host = d.host := rfl
@[simp] theorem Dev.modCrs_dma (d : Dev) (c : Nat) (f : CrsSt → CrsSt) : (d.modCrs c f).dma = d.dma := rfl
@[simp] theorem Dev.modCrs_pm (d : Dev) (c : Nat) (f : CrsSt → CrsSt) : (d.modCrs c f).pm = d.pm := rfl

@[simp] theorem Dev.modDir_out (d : Dev) (b : Nat) (f : DirSt → DirSt) : (d.modDir b f).out = d.out := rfl
@[simp] theorem Dev.modDir_free (d : Dev) (b : Nat) (f : DirSt → DirSt) : (d.modDir b f).free = d.free := rfl
@[simp] theorem Dev.modDir_clk (d : Dev) (b : Nat) (f : DirSt → DirSt) : (d.modDir b f).clk = d.clk := rfl
@[simp] theorem Dev.modDir_pins (d : Dev) (b : Nat) (f : DirSt → DirSt) : (d.modDir b f).pins = d.pins := rfl
@[simp] theorem Dev.modDir_bank (d : Dev) (b : Nat) (f : DirSt → DirSt) : (d.modDir b f).bank = d.bank := rfl
@[simp] theorem Dev.modDir_work (d : Dev) (b : Nat) (f : DirSt → DirSt) : (d.modDir b f).work = d.work := rfl
@[simp] theorem Dev.modDir_store (d : Dev) (b : Nat) (f : DirSt → DirSt) : (d.modDir b f).store = d.store := rfl
@[simp] theorem Dev.modDir_mo (d : Dev) (b : Nat) (f : DirSt → DirSt) : (d.modDir b f).mo = d.mo := rfl
@[simp] theorem Dev.modDir_grps (d : Dev) (b : Nat) (f : DirSt → DirSt) : (d.modDir b f).grps = d.grps := rfl
@[simp] theorem Dev.modDir_chans (d : Dev) (b : Nat) (f : DirSt → DirSt) : (d.modDir b f).chans = d.chans := rfl
@[simp] theorem Dev.modDir_tp (d : Dev) (b : Nat) (f : DirSt → DirSt) : (d.modDir b f).tp = d.tp := rfl
@[simp] theorem Dev.modDir_si (d : Dev) (b : Nat) (f : DirSt → DirSt) : (d.modDir b f).si = d.si := rfl
@[simp] theorem Dev.modDir_tb (d : Dev) (b : Nat) (f : DirSt → DirSt) : (d.modDir b f).tb = d.tb := rfl
@[simp] theorem Dev.modDir_fc (d : Dev) (b : Nat) (f : DirSt → DirSt) : (d.modDir b f).fc = d.fc := rfl
@[simp] theorem Dev.modDir_sb (d : Dev) (b : Nat) (f : DirSt → DirSt) : (d.modDir b f).sb = d.sb := rfl
@[simp] theorem Dev.modDir_host (d : Dev) (b : Nat) (f : DirSt → DirSt) : (d.modDir b f).host = d.host := rfl
@[simp] theorem Dev.modDir_dma (d : Dev) (b : Nat) (f : DirSt → DirSt) : (d.modDir b f).dma = d.dma := rfl
@[simp] theorem Dev.modDir_pm (d : Dev) (b : Nat) (f : DirSt → DirSt) : (d.modDir b f).pm = d.pm := rfl

@[simp] theorem Dev.modCtx_out (d : Dev) (x : Nat) (f : CtxSt → CtxSt) : (d.modCtx x f).out = d.out := rfl
@[simp] theorem Dev.modCtx_free (d : Dev) (x : Nat) (f : CtxSt → CtxSt) : (d.modCtx x f).free = d.free := rfl
@[simp] theorem Dev.modCtx_clk (d : Dev) (x : Nat) (f : CtxSt → CtxSt) : (d.modCtx x f).clk = d.clk := rfl
@[simp] theorem Dev.modCtx_pins (d : Dev) (x : Nat) (f : CtxSt → CtxSt) : (d.modCtx x f).pins = d.pins := rfl
@[simp] theorem Dev.modCtx_bank (d : Dev) (x : Nat) (f : CtxSt → CtxSt) : (d.modCtx x f).bank = d.bank := rfl
@[simp] theorem Dev.modCtx_work (d : Dev) (x : Nat) (f : CtxSt → CtxSt) : (d.modCtx x f).work = d.work := rfl
@[simp] theorem Dev.modCtx_store (d : Dev) (x : Nat) (f : CtxSt → CtxSt) : (d.modCtx x f).store = d.store := rfl
@[simp] theorem Dev.modCtx_mo (d : Dev) (x : Nat) (f : CtxSt → CtxSt) : (d.modCtx x f).mo = d.mo := rfl
@[simp] theorem Dev.modCtx_grps (d : Dev) (x : Nat) (f : CtxSt → CtxSt) : (d.modCtx x f).grps = d.grps := rfl
@[simp] theorem Dev.modCtx_chans (d : Dev) (x : Nat) (f : CtxSt → CtxSt) : (d.modCtx x f).chans = d.chans := rfl
@[simp] theorem Dev.modCtx_tp (d : Dev) (x : Nat) (f : CtxSt → CtxSt) : (d.modCtx x f).tp = d.tp := rfl
@[simp] theorem Dev.modCtx_cm (d : Dev) (x : Nat) (f : CtxSt → CtxSt) : (d.modCtx x f).cm = d.cm := rfl
@[simp] theorem Dev.modCtx_si (d : Dev) (x : Nat) (f : CtxSt → CtxSt) : (d.modCtx x f).si = d.si := rfl
@[simp] theorem Dev.modCtx_tb (d : Dev) (x : Nat) (f : CtxSt → CtxSt) : (d.modCtx x f).tb = d.tb := rfl
@[simp] theorem Dev.modCtx_fc (d : Dev) (x : Nat) (f : CtxSt → CtxSt) : (d.modCtx x f).fc = d.fc := rfl
@[simp] theorem Dev.modCtx_sb (d : Dev) (x : Nat) (f : CtxSt → CtxSt) : (d.modCtx x f).sb = d.sb := rfl
@[simp] theorem Dev.modCtx_dma (d : Dev) (x : Nat) (f : CtxSt → CtxSt) : (d.modCtx x f).dma = d.dma := rfl
@[simp] theorem Dev.modCtx_pm (d : Dev) (x : Nat) (f : CtxSt → CtxSt) : (d.modCtx x f).pm = d.pm := rfl

@[simp] theorem Dev.modLm_out (d : Dev) (m : Nat) (f : LmSt → LmSt) : (d.modLm m f).out = d.out := rfl
@[simp] theorem Dev.modLm_free (d : Dev) (m : Nat) (f : LmSt → LmSt) : (d.modLm m f).free = d.free := rfl
@[simp] theorem Dev.modLm_clk (d : Dev) (m : Nat) (f : LmSt → LmSt) : (d.modLm m f).clk = d.clk := rfl
@[simp] theorem Dev.modLm_pins (d : Dev) (m : Nat) (f : LmSt → LmSt) : (d.modLm m f).pins = d.pins := rfl
@[simp] theorem Dev.modLm_bank (d : Dev) (m : Nat) (f : LmSt → LmSt) : (d.modLm m f).bank = d.bank := rfl
@[simp] theorem Dev.modLm_work (d : Dev) (m : Nat) (f : LmSt → LmSt) : (d.modLm m f).work = d.work := rfl
@[simp] theorem Dev.modLm_store (d : Dev) (m : Nat) (f : LmSt → LmSt) : (d.modLm m f).store = d.store := rfl
@[simp] theorem Dev.modLm_mo (d : Dev) (m : Nat) (f : LmSt → LmSt) : (d.modLm m f).mo = d.mo := rfl
@[simp] theorem Dev.modLm_grps (d : Dev) (m : Nat) (f : LmSt → LmSt) : (d.modLm m f).grps = d.grps := rfl
@[simp] theorem Dev.modLm_chans (d : Dev) (m : Nat) (f : LmSt → LmSt) : (d.modLm m f).chans = d.chans := rfl
@[simp] theorem Dev.modLm_tp (d : Dev) (m : Nat) (f : LmSt → LmSt) : (d.modLm m f).tp = d.tp := rfl
@[simp] theorem Dev.modLm_cm (d : Dev) (m : Nat) (f : LmSt → LmSt) : (d.modLm m f).cm = d.cm := rfl
@[simp] theorem Dev.modLm_tb (d : Dev) (m : Nat) (f : LmSt → LmSt) : (d.modLm m f).tb = d.tb := rfl
@[simp] theorem Dev.modLm_fc (d : Dev) (m : Nat) (f : LmSt → LmSt) : (d.modLm m f).fc = d.fc := rfl
@[simp] theorem Dev.modLm_sb (d : Dev) (m : Nat) (f : LmSt → LmSt) : (d.modLm m f).sb = d.sb := rfl
@[simp] theorem Dev.modLm_host (d : Dev) (m : Nat) (f : LmSt → LmSt) : (d.modLm m f).host = d.host := rfl
@[simp] theorem Dev.modLm_dma (d : Dev) (m : Nat) (f : LmSt → LmSt) : (d.modLm m f).dma = d.dma := rfl
@[simp] theorem Dev.modLm_pm (d : Dev) (m : Nat) (f : LmSt → LmSt) : (d.modLm m f).pm = d.pm := rfl

@[simp] theorem Dev.modDma_out (d : Dev) (n : Nat) (f : DmaSt → DmaSt) : (d.modDma n f).out = d.out := rfl
@[simp] theorem Dev.modDma_free (d : Dev) (n : Nat) (f : DmaSt → DmaSt) : (d.modDma n f).free = d.free := rfl
@[simp] theorem Dev.modDma_clk (d : Dev) (n : Nat) (f : DmaSt → DmaSt) : (d.modDma n f).clk = d.clk := rfl
@[simp] theorem Dev.modDma_pins (d : Dev) (n : Nat) (f : DmaSt → DmaSt) : (d.modDma n f).pins = d.pins := rfl
@[simp] theorem Dev.modDma_bank (d : Dev) (n : Nat) (f : DmaSt → DmaSt) : (d.modDma n f).bank = d.bank := rfl
@[simp] theorem Dev.modDma_work (d : Dev) (n : Nat) (f : DmaSt → DmaSt) : (d.modDma n f).work = d.work := rfl
@[simp] theorem Dev.modDma_store (d : Dev) (n : Nat) (f : DmaSt → DmaSt) : (d.modDma n f).store = d.store := rfl
@[simp] theorem Dev.modDma_mo (d : Dev) (n : Nat) (f : DmaSt → DmaSt) : (d.modDma n f).mo = d.mo := rfl
@[simp] theorem Dev.modDma_grps (d : Dev) (n : Nat) (f : DmaSt → DmaSt) : (d.modDma n f).grps = d.grps := rfl
@[simp] theorem Dev.modDma_chans (d : Dev) (n : Nat) (f : DmaSt → DmaSt) : (d.modDma n f).chans = d.chans := rfl
@[simp] theorem Dev.modDma_tp (d : Dev) (n : Nat) (f : DmaSt → DmaSt) : (d.modDma n f).tp = d.tp := rfl
@[simp] theorem Dev.modDma_cm (d : Dev) (n : Nat) (f : DmaSt → DmaSt) : (d.modDma n f).cm = d.cm := rfl
@[simp] theorem Dev.modDma_si (d : Dev) (n : Nat) (f : DmaSt → DmaSt) : (d.modDma n f).si = d.si := rfl
@[simp] theorem Dev.modDma_tb (d : Dev) (n : Nat) (f : DmaSt → DmaSt) : (d.modDma n f).tb = d.tb := rfl
@[simp] theorem Dev.modDma_fc (d : Dev) (n : Nat) (f : DmaSt → DmaSt) : (d.modDma n f).fc = d.fc := rfl
@[simp] theorem Dev.modDma_sb (d : Dev) (n : Nat) (f : DmaSt → DmaSt) : (d.modDma n f).sb = d.sb := rfl
@[simp] theorem Dev.modDma_host (d : Dev) (n : Nat) (f : DmaSt → DmaSt) : (d.modDma n f).host = d.host := rfl
@[simp] theorem Dev.modDma_pm (d : Dev) (n : Nat) (f : DmaSt → DmaSt) : (d.modDma n f).pm = d.pm := rfl

end Sys2Proof.Machine
end

