-- ==== Sys2Proof/WellFormed.lean ====
section
/-! DEFINITION. Which commands the outside can send: what the types of the operands do not say. -/

namespace Sys2Proof

/-- Whether a command is well formed: offsets inside BAR0 and on a dword (R422, R431), at least one dword, counts of windows
(R220, R328), link speeds and widths (HC_PORT), two different channels (R358), entries of the key ring (R27). -/
def Instr.wf : Instr → Bool
  | .registerWrite _ _ off vals _ _ => decide (off < 0x2000000) && decide (off % 4 = 0) && !vals.isEmpty
  | .readClear _ _ off n => decide (off < 0x2000000) && decide (off % 4 = 0) && decide (0 < n)
  | .w1cClear _ _ off _ _ => decide (off < 0x2000000) && decide (off % 4 = 0)
  | .settingsRecordCommit _ => true
  | .journalSnapshot _ => true
  | .powerUp _ _ _ _ _ => true
  | .powerLoss _ _ => true
  | .resetNFall _ => true
  | .resetNRise _ _ _ _ => true
  | .perstLow _ _ => true
  | .deviceRecordsChecked _ _ => true
  | .activeSlotCheck _ _ => true
  | .structureBuild _ _ => true
  | .journalReplay _ _ => true
  | .faultsReady _ _ => true
  | .safetyReady _ => true
  | .groupRestore _ _ => true
  | .kilnCodeWrite _ _ _ => true
  | .kilnTimeout _ => true
  | .load _ _ _ => true
  | .loadComplete _ _ => true
  | .verify _ _ _ => true
  | .verifyComplete _ _ => true
  | .activate _ _ _ => true
  | .activateComplete _ _ _ => true
  | .erase _ _ _ => true
  | .eraseComplete _ _ => true
  | .raiseFloor _ _ => true
  | .raiseFloorComplete _ _ => true
  | .keyrec _ _ => true
  | .keyrecComplete _ _ => true
  | .live _ _ _ => true
  | .liveVerifyComplete _ => true
  | .liveOverlayCommit _ _ => true
  | .scrubPass _ _ => true
  | .cycleOpening _ => true
  | .intakeCutoff _ => true
  | .reportDeadline _ => true
  | .stageComplete _ _ _ _ => true
  | .frameSetComplete _ _ _ _ => true
  | .voterCutoff _ => true
  | .emissionDeadline _ => true
  | .slackWindowEnd _ _ => true
  | .vadaptEnable _ _ _ _ => true
  | .pmbusWriteResult _ _ _ _ => true
  | .setpointCommit _ _ _ _ => true
  | .modeCommand _ _ _ _ _ => true
  | .dischargeTimeout _ _ => true
  | .lineTestHoldEnd _ _ => true
  | .fadeEnd _ _ => true
  | .syncLock _ _ => true
  | .syncUnlock _ _ => true
  | .flywheelClear _ _ => true
  | .feedbackHoldExpiry _ _ _ => true
  | .feedbackPrimaryReturn _ _ _ => true
  | .feedbackDisagreement _ _ _ => true
  | .setpointSourceLoss _ _ => true
  | .setpointSourceReturn _ _ _ => true
  | .rideEntry _ _ => true
  | .rideCurveTrip _ _ => true
  | .rideTmax _ _ => true
  | .rideExit _ _ => true
  | .angleSeat _ _ => true
  | .islandingDetected _ _ => true
  | .islandingPulse _ _ => true
  | .harvestTrackStep _ _ => true
  | .harvestScan _ _ _ => true
  | .harvestScanPeriod _ _ => true
  | .harvestScanEnd _ _ => true
  | .armEnergyFault _ _ => true
  | .overmodulationFault _ _ => true
  | .brickAbsent _ _ => true
  | .echoPark _ _ => true
  | .admissionFail _ _ => true
  | .lpllLock _ _ counts => counts.length == 4
  | .lpllLockLoss _ _ _ => true
  | .signalDetected _ _ _ => true
  | .electricalIdleDetected _ _ _ => true
  | .commaReceived _ _ _ _ => true
  | .transmitEidle _ _ _ => true
  | .wakeSequenceEnd _ _ _ => true
  | .loopNearSerial _ _ _ _ => true
  | .loopNearParallel _ _ _ _ => true
  | .loopFarEnd _ _ _ _ _ => true
  | .holdIdle _ _ _ _ => true
  | .loopEnd _ _ _ _ => true
  | .loopWordSend _ _ _ _ => true
  | .loopConfirm _ _ _ _ _ => true
  | .loopNoAnswer _ _ _ => true
  | .timeMarkSend _ => true
  | .reportReceived _ _ _ _ => true
  | .timeMarkReceived _ _ _ _ _ => true
  | .ownFrameReturn _ _ _ _ => true
  | .pointReplyReceived _ _ _ _ => true
  | .discoverReplyReceived _ _ _ _ => true
  | .discoverTimeout _ _ => true
  | .probeReplyReceived _ _ _ _ _ => true
  | .transactionWindowOpen _ _ => true
  | .courseEndWorking _ _ _ => true
  | .courseSplit _ _ => true
  | .discoveryComplete _ _ => true
  | .brickCheckComplete _ _ => true
  | .admitCmd _ _ _ _ => true
  | .remove _ _ _ _ => true
  | .rediscover _ _ _ => true
  | .measure _ _ _ => true
  | .measurePeriod _ _ => true
  | .automaticAdmission _ _ => true
  | .pointRead _ _ addr n => decide (addr < 0x8000000) && decide (0 < n)
  | .pointWrite _ _ addr vals _ => decide (addr < 0x8000000) && !vals.isEmpty
  | .pointTimeout _ _ _ => true
  | .pointLimit _ => true
  | .mirrorRefresh _ _ => true
  | .svFrameReceived _ _ _ sub => decide (sub < 131072)
  | .gooseReceived _ _ _ => true
  | .ptpMessageReceived _ _ _ _ _ state _ _ => state.all (fun q => decide (1 ≤ q) && decide (q ≤ 9))
  | .svSilent _ _ => true
  | .svLost _ _ => true
  | .gooseLost _ _ => true
  | .goosePubEvaluation _ => true
  | .gooseRetransmit _ _ => true
  | .lmCycleTrigger _ _ => true
  | .lmRun _ _ _ => true
  | .lmRunComplete _ _ _ => true
  | .lmContOutput _ _ _ => true
  | .lmContWrite _ _ _ _ => true
  | .lmCalZero _ _ _ _ => true
  | .lmCalFull _ _ _ _ _ => true
  | .lmCalStore _ _ _ _ => true
  | .lmCalFactory _ _ _ _ => true
  | .lmCalStepComplete _ _ total => decide (total.natAbs ≤ 4096 * 32768)
  | .tbPllLock _ counts => counts.length == 4
  | .tbPllLockLoss _ _ => true
  | .freqStep _ => true
  | .phaseStep _ => true
  | .ptpOffset _ _ _ => true
  | .masterLost _ => true
  | .holdoverLimit _ => true
  | .holdoverSv _ => true
  | .ptpMessageSend _ _ _ _ => true
  | .setTime _ _ => true
  | .stepNs _ _ => true
  | .slew _ _ => true
  | .freq _ _ => true
  | .stampQueueRead _ _ _ => true
  | .timeNowRead _ _ => true
  | .evtEdge _ _ _ _ => true
  | .evtFifoRead _ _ _ => true
  | .tioCommand _ _ _ _ _ _ => true
  | .tioEdge _ _ => true
  | .ppsEdge _ => true
  | .inputDigest _ _ _ _ => true
  | .stateDigestCompare _ _ _ _ _ => true
  | .heartbeatPeriod _ => true
  | .heartbeatReceived _ x y _ _ => x != y
  | .heartbeatMissing _ x y _ => x != y
  | .repairComplete _ _ => true
  | .tileCopyComplete _ => true
  | .tileCopyTimeout _ => true
  | .shadowComplete _ => true
  | .resyncTimeout _ => true
  | .simplexLimit _ => true
  | .proofPeriodExpiry _ => true
  | .proofRunComplete _ _ => true
  | .resync _ _ _ => true
  | .fence _ _ _ => true
  | .clear _ _ _ => true
  | .proof _ _ _ => true
  | .tpCfgWrite _ _ _ => true
  | .faultRaise _ _ _ _ => true
  | .logRecordCommit _ => true
  | .faultClear _ _ _ _ => true
  | .collectorSelfCheck _ _ _ => true
  | .errNRelease _ => true
  | .clearFirst _ _ => true
  | .eraseLog _ _ => true
  | .logIndexWrite _ _ _ => true
  | .inject _ _ _ _ _ _ => true
  | .injectionArmed _ => true
  | .injectionFire _ _ => true
  | .injectionExpired _ => true
  | .irqPendingClear _ _ _ _ _ _ => true
  | .sbcReqInput _ _ => true
  | .tripInput _ _ _ => true
  | .safetyOscillatorCheck _ _ _ => true
  | .sealCheck _ _ => true
  | .ovLossTimeout _ => true
  | .automaticDemandEnd _ => true
  | .apply _ _ => true
  | .restore _ _ => true
  | .test _ _ => true
  | .safeBlock _ _ => true
  | .release _ _ => true
  | .offPulseTest _ _ => true
  | .offPulseEnd _ _ => true
  | .offPulseVerify _ _ => true
  | .feedbackDiscrepancy _ _ _ => true
  | .degradedMinute _ => true
  | .safeBlockRepeat _ _ => true
  | .safeReleaseRepeat _ _ => true
  | .releaseTimeout _ _ => true
  | .open' _ _ _ _ => true
  | .close _ _ => true
  | .functionLevelReset _ _ => true
  | .d3hotEntry _ _ => true
  | .linkLeavesL0 _ _ => true
  | .linkRecoveryTimeout _ _ => true
  | .contextClosed _ _ => true
  | .busMasterDisable _ _ => true
  | .roleWrite _ _ _ _ => true
  | .give _ _ _ => true
  | .claimOwner _ _ => true
  | .mmuConfigWrite _ _ _ root v => root || decide (v.toNat < 4)
  | .invAll _ _ _ => true
  | .invPage _ _ _ => true
  | .invalidationComplete _ _ => true
  | .translationWalkComplete _ _ _ status => decide (status ≤ 2)
  | .pairLowRead _ _ off => decide (off < 0x2000000) && decide (off % 4 = 0)
  | .pairHighRead _ _ off => decide (off < 0x2000000) && decide (off % 4 = 0)
  | .pairLowWrite _ _ off _ => decide (off < 0x2000000) && decide (off % 4 = 0)
  | .pairHighWrite _ _ off _ => decide (off < 0x2000000) && decide (off % 4 = 0)
  | .claim _ _ _ => true
  | .releaseChannel _ _ _ => true
  | .arm _ _ _ => true
  | .pause _ _ _ => true
  | .resume _ _ _ => true
  | .abort _ _ _ => true
  | .disarm _ _ _ => true
  | .dmaSegmentBoundary _ _ _ => true
  | .dmaReadCompletion _ _ bytes ok => !ok || (!bytes.isEmpty && decide (bytes.length ≤ 512))
  | .dmaReadTimeout _ _ => true
  | .dmaPassEnd _ _ => true
  | .dmaFlushComplete _ _ _ => true
  | .dmaDescriptorFetch _ _ bytes ok => !ok || bytes.length == 32
  | .dmaChannelStopped _ _ => true
  | .dmaAcknowledge _ _ _ _ _ _ => true
  | .supplyOutOfRange _ _ _ => true
  | .supplyRecovered _ => true
  | .temperatureReading _ _ _ => true
  | .channelSelfTestComplete _ _ => true
  | .intakeLocalmeasDmaReady _ => true
  | .pciePortConfigurable _ _ => true
  | .linkEntersL0 _ _ speed width => decide (1 ≤ speed) && decide (speed ≤ 4) && (width == 1 || width == 2 || width == 4)
  | .perstRise _ _ => true
  | .busMasterEnable _ _ => true
  | .msixVectorUnmask _ _ _ => true
  | .stationPortLinkChange _ _ _ => true

end Sys2Proof
end

