-- ==== Sys2Proof/Tests/Slice0.lean ====
section
/-! SUPPORT. Own tests: the ill-formed terms WellFormed refuses, and for each statement of Obligations.lean a witness: concrete
devices and operands that meet the hypotheses of its clauses, with what the command then does there checked on the side. -/

open Sys2Proof Sys2Proof.Machine

namespace Sys2Proof.Tests

set_option Elab.async false

/-- The device after reset with numerals where the configuration is opaque: the key ring with one key and serial numbers 0. -/
def keyNo : Nat :=
  0xa686cebdcd38e328b63d21617ad22f91551433b4098d364e967086985ab2c78ccf79c9e9733ca0f26b5f9cf107a7dce73c8cd46496e25aa1fbfc8421f14c68e310a7ab8c3fb635426f0c4073fdca657f3f0ae8487fc60a3daee10f641344966e
def base : Dev :=
  { Dev.reset with
    store := { Dev.reset.store with recs := Dev.reset.store.recs.map fun r => { r with keys := [some ⟨keyNo, false⟩, none, none, none] } }
    host := { Dev.reset.host with ctxs := Dev.reset.host.ctxs.map fun c => { c with cfg := { c.cfg with serial := 0 } } } }

/-- The device after reset with register fields set: field, copy indices, value. -/
def regs (l : List (Fld × Nat × Nat × Nat)) (d : Dev := base) : Dev := l.foldl (fun d p => d.set p.1 p.2.2.2 p.2.1 p.2.2.1) d

/-- Context 0, the Owner, is OPEN. -/
def opened : Dev := regs [(F.HC_CTX_STAT_STATE, 0, 0, 1)]

/-- Context 0 as before, with every function ready whose settings wait for it (R47). -/
def ready' : Dev :=
  let d := regs [(F.GL_READY_STORE, 0, 0, 1), (F.GL_READY_JOURNAL, 0, 0, 1), (F.GL_READY_FAULTS, 0, 0, 1), (F.GL_READY_LOCALMEAS, 0, 0, 1),
    (F.GL_READY_INTAKE, 0, 0, 1), (F.GL_READY_DMA, 0, 0, 1)] opened
  { d with tb := { d.tb with everReady := true }, tp := { d.tp with everReady := true } }

/-- The device records are checked. -/
def stored : Dev := regs [(F.GL_READY_STORE, 0, 0, 1)]

/-- The clock at a tick. -/
def at' (t : Nat) (d : Dev) : Dev := { d with clk := { d.clk with ticks := t, dev := t } }

/-- The entry of an offset in the register map (an offset of the map is meant). -/
def reg (off : Nat) : RegAt := (findReg regTable off).getD ⟨⟨"", 0, [], 0, 0, []⟩, 0, 0⟩

/-- A witness: with the device w in front of the command c and no time passing, the device is live and the hypotheses hold; and what
exec leaves has the properties named. -/
def wit (w : Dev) (c : Instr) (hyp : State → Dev → Bool) (res : State → Dev → Dev → Bool) : Bool :=
  (State.seen ⟨w, []⟩ 0).live && hyp ⟨w, []⟩ (State.seen ⟨w, []⟩ 0) &&
    match exec c ⟨w, []⟩ with
    | .next t => res ⟨w, []⟩ (State.seen ⟨w, []⟩ 0) t.dev
    | _ => false

/-- The same where exec leaves exactly the device x that has settled. -/
def witEq (w : Dev) (c : Instr) (hyp : State → Dev → Bool) (x : Dev → Dev) : Bool :=
  wit w c hyp fun s d e => decide (e = (s.settled (x d)).dev)

/-- All hold. -/
abbrev ok (l : List Bool) : Prop := l.all id = true

/-- The 84 bytes of a SAFETY section within its limits (R482), sealed, and an image of 512 bytes whose sections STRUCTURE, MODES and
FAULTS are empty bytes, its content being what `body` says (log entry 5). -/
def safety80 : List (BitVec 8) :=
  leBytes 4 0 ++ leBytes 2 2 ++ leBytes 2 1 ++ leBytes 2 1 ++ leBytes 2 1 ++ leBytes 2 1 ++ leBytes 2 0 ++ List.replicate 33 0 ++
  leBytes 4 0 ++ leBytes 1 1 ++ leBytes 2 2 ++ leBytes 2 1 ++ leBytes 2 1 ++ leBytes 3 0 ++ leBytes 1 1 ++ leBytes 2 0 ++ leBytes 2 50 ++
  leBytes 2 1 ++ leBytes 2 10 ++ leBytes 2 10 ++ leBytes 2 100 ++ leBytes 2 1 ++ leBytes 2 5
def safety84 : List (BitVec 8) := safety80 ++ leBytes 4 (sealCode safety80)
def dirEntry (id' len crc : Nat) : List (BitVec 8) := leBytes 4 id' ++ leBytes 4 0x140 ++ leBytes 4 len ++ leBytes 4 crc
def image : Mem :=
  Mem.writeBytes (Mem.writeBytes [] 0 (leBytes 4 0x4D4F5254 ++ leBytes 2 3 ++ leBytes 2 4 ++ leBytes 4 0x200 ++ leBytes 4 0x0C120000 ++ leBytes 8 7 ++ leBytes 4 2 ++ leBytes 4 0))
    0x100 (dirEntry 1 0 (crc32c []) ++ dirEntry 2 0 (crc32c []) ++ dirEntry 8 0 (crc32c []) ++ dirEntry 9 84 (crc32c safety84) ++ safety84)
/-- A signature that verifies: r and s are both the digest, and the key is the point with that x less the base point. -/
def sigBytes (h : Nat) : List (BitVec 8) := (leBytes 48 h).reverse ++ (leBytes 48 h).reverse
def sigNo : Nat :=
  0x2d4d90f30f8c228cdd61d84404435246414f34d7619148439c1b295e62e169e4de12f25f9b4a268957218c54ab2681c
def signed : Mem := Mem.writeBytes image 416 (sigBytes sigNo)

/-- Content without a group: twelve idle tiles. -/
def body0 : ImageBody :=
  ⟨some ⟨List.replicate 12 TileCfg.idle, [none, none, none, none], []⟩, [], [.empty, .empty, .empty, .empty], .empty,
    ⟨(List.range 512).map fun n => ⟨(fixedReaction n).getD 1, false,
      if among 0x20 0x27 n then 2 ^ ((n - 0x20) % 4) else if among 0xA0 0xBF n then 2 ^ ((n - 0xA0) / 8) else if fixedReaction n = some 4 then 1 else 0⟩, []⟩, .empty, .empty, .default⟩

/-- A group with one AC tile, group 3, whose newest cycle is conditioned in channel 2, the only one in service: its modes, its tables,
whether control has run in the cycle, and its control state. -/
def gin (k : Nat) : GroupIn :=
  { k := k, opening := 0, openTick := 0, outer := true, degraded := false, prim := [none, none, none, none], alt := [none, none, none, none], armI := [],
    sp := [], spValid := false, goose := 0, gooseValid := 0, tables := 0, forced := none, cmd := none, faultClear := true, safetyOk := true, triplexOk := true, leadOk := true, scan := false }
def allModes : ModeCfg := { ModeCfg.zero with transEn := List.replicate 12 0xFFF, transAuto := List.replicate 12 0xFFF }
def cyc (k : Nat) (late : Bool) (tb : GroupTables) : GCycle := ⟨gin k, [], true, late, false, [], tb, []⟩
def deciding (k : Nat) (late : Bool) (md : ModeCfg) (tb : GroupTables) (x : GridSt) : Dev :=
  let d := regs [(F.TP_CH_STATE, 2, 0, 1)]
  { d with
    grps := setNth d.grps 3 { GroupHub.init with built := true, mode := md, cfg := { GroupCfg.zero with cycle := 200, div := 1 }, tiles := [(0, ⟨.ac, 3, [], [], 0, false⟩)], tables := tb }
    chans := setNth d.chans 2 { Chan.init with grps := setNth Chan.init.grps 3 ⟨x, [cyc k late tb], [], []⟩ } }
def inMode (m : Mode) (x : GridSt := .init) : GridSt := { x with m := { x.m with mode := m } }
def curvesOf (f : Curves → Curves) : GroupTables := { GroupTables.standard with curves := f .standard }

/-- A device with a structure: tile 11 is an AC tile of group 3 with course 63 of up to 4 bricks; all channels serve, group 3 is built
and in cycle 5, opened at tick 1,000,000. -/
def tile11 : TileCfg := ⟨.ac, 3, [.condition, .grid, .arm, .rank, .schedule, .emit], [63], 0, false⟩
def grp3 : GroupCfg := { GroupCfg.zero with cycle := 200, phase := 0, lead := 100, dr := 40, de := 240, div := 1, missLimit := 3, watchdog := 4 }
def body1 : ImageBody :=
  { body0 with
    structure' := some ⟨List.replicate 11 TileCfg.idle ++ [tile11], [none, none, none, some grp3], [(63, ⟨4, 0⟩)]⟩
    lanes := ⟨[(63, 0)], []⟩ }
def plant (f : GroupHub → GroupHub := id) (b : ImageBody := body1) (d : Dev := base) : Dev :=
  let d := regs [(F.TP_CH_STATE, 0, 0, 1), (F.TP_CH_STATE, 1, 0, 1), (F.TP_CH_STATE, 2, 0, 1), (F.TP_STATE_STATE, 0, 0, 1), (F.GL_READY_GROUP, 0, 0, 8)] d
  let d := { d with mo := { d.mo with image := some b } }
  at' 1000000 { d with grps := setNth d.grps 3 (f { GroupHub.init with built := true, cfg := grp3, mode := allModes, tiles := [(11, tile11)], k := 5, started := true, openTick := 1000000 }) }

/-- A device with lane die 1 up, lane PLL 7 locked, and both ends of course 63 in a state. -/
def laneDev (l : LaneSt) (rs : List (Fld × Nat × Nat × Nat)) (f : GroupHub → GroupHub := id) : Dev :=
  let d := plant f body1 (regs ([(F.TB_LPLL_STAT_LOCKED, 7, 0, 1), (F.TB_STATUS_PLL_LOCKED, 0, 0, 1)] ++ rs) opened)
  { d with cm := { d.cm with dieUp := [false, true], lanes := [(126, l), (127, l)] } }

def aRead : PtReq := { cls := 2, ctx := 0, rd := 0, slot := 0, write := false, brick := 8067, index := 0x123, value := 0, tid := 17, sent := some (true, 999000), avoid := none, notBefore := 0, tries := 0, retries := 0, since := 0 }
def reading (q : PtReq) (d : Dev) : Dev := { d with cm := { d.cm with reqs := [q], reads := [⟨0, 0, none, 4 * (8067 * 4096 + 0x123), [none], 0⟩], nextRead := 1 } }
def up : LaneSt := { LaneSt.init with rx := 4, working := true }
def record (seq : Nat) : JRec :=
  let r : JRec := { typ := 1, seq := seq, off := 4, mask := 1, val := 1, img := 0, crc := 0, commit := 0, bad := false }
  { r with crc := r.crcOf }
def aRec : JRec := record 0
def recording (l : List JRec) (d : Dev := base) : Dev := { d with store := { d.store with halves := [⟨0, true, l⟩, ⟨0, false, []⟩] } }
def crsDev (r : CrsSt) (rs : List (Fld × Nat × Nat × Nat)) : Dev :=
  let d := laneDev up rs
  { d with cm := { d.cm with crs := [(63, r)] } }
def shadowing (ch : Nat) (d : Dev) : Dev := regs [(F.TP_CH_STATE, ch, 0, 4)] { d with tp := { d.tp with resync := some ⟨ch, 1000000, true, some 0, [3], 1000000, []⟩ } }
def safe (rs : List (Fld × Nat × Nat × Nat)) (f : SbSt → SbSt := id) : Dev :=
  let d := plant id body1 (regs ([(F.GL_READY_SAFETY, 0, 0, 1), (F.SB_STATUS_BRAKE, 0, 0, 1), (F.SB_STATUS_HOLD_1, 0, 0, 1), (F.SB_STATUS_HOLD_2, 0, 0, 1)] ++ rs) opened)
  { d with sb := f { d.sb with everReady := true, params := { SafetyCfg.zero with tripCourses := [0, 0, 0, 2 ^ 63], opLen := 100, fbRise := 50, sbRepeat := 100, relN := 3, restoreT := 2, ovLoss := 10 } } }
theorem test_wf_refuses : ([
    .registerWrite 0 0 0x2000000 [0] 15 0, .registerWrite 0 0 2 [0] 15 0, .registerWrite 0 0 0 [] 15 0, .readClear 0 0 0x2000000 1, .readClear 0 0 1 1,
    .readClear 0 0 0 0, .w1cClear 0 0 0x2000000 0 0, .w1cClear 0 0 3 0 0,
    .lpllLock 0 0 [0], .pointRead 0 0 0x8000000 1, .pointRead 0 0 0 0, .pointWrite 0 0 0x8000000 [0] true, .pointWrite 0 0 0 [] true,
    .svFrameReceived 0 0 ⟨false, 0, 0, 0, none, []⟩ 131072, .ptpMessageReceived 0 0 ⟨0, 0⟩ 0 0 (some 0) false none,
    .ptpMessageReceived 0 0 ⟨0, 0⟩ 0 0 (some 10) false none, .lmCalStepComplete 0 0 134217729, .tbPllLock 0 [], .tbPllLock 0 [0, 0, 0],
    .heartbeatReceived 0 1 1 0 0, .heartbeatMissing 0 2 2 1, .mmuConfigWrite 0 0 0 false 4, .translationWalkComplete 0 0 0 3,
    .pairLowRead 0 0 0x2000000, .pairLowRead 0 0 1, .pairHighRead 0 0 0x2000000, .pairHighRead 0 0 1, .pairLowWrite 0 0 0x2000000 0, .pairLowWrite 0 0 1 0,
    .pairHighWrite 0 0 0x2000000 0, .pairHighWrite 0 0 1 0, .dmaReadCompletion 0 0 [] true, .dmaReadCompletion 0 0 (List.replicate 513 0) true,
    .dmaDescriptorFetch 0 0 [] true, .linkEntersL0 0 0 0 1, .linkEntersL0 0 0 5 1, .linkEntersL0 0 0 1 3] : List Instr).all (fun i => !i.wf) = true := by
  decide +kernel

theorem test_wf_accepts : ([
    .registerWrite 0 0 0x1FFFFFC [0] 15 0, .readClear 0 0 0 1, .keyrec 0 0, .lpllLock 0 0 [0, 0, 0, 0], .pointRead 0 0 0x7FFFFFC 1,
    .mmuConfigWrite 0 0 0 false 3, .mmuConfigWrite 0 0 0 true 4, .translationWalkComplete 0 0 0 2, .dmaReadCompletion 0 0 [] false,
    .dmaReadCompletion 0 0 (List.replicate 512 0) true, .linkEntersL0 0 0 4 4, .heartbeatReceived 0 1 0 0 0] : List Instr).all Instr.wf = true := by
  decide +kernel

/-- A step runs the front of the queue. -/
theorem test_w_StepRunsFront : ({ State.reset with pending := [.kilnTimeout 5, .kilnTimeout 0] } : State).pending = .kilnTimeout 5 :: [.kilnTimeout 0] := rfl

/-- ErrShownKept: the state after reset shows ERR_N and a step from it answers a next state. -/
theorem test_w_ErrShownKept : (State.reset.dev.errCase = true → State.reset.dev.errN = true) ∧
    (match step State.reset with | .next _ => true | _ => false) = true := by decide +kernel

/-- DeadDevice: a device without power, and one held in reset for 1 µs. -/
theorem test_w_DeadDevice : ok [
    (match exec (.kilnTimeout 7) ⟨{ base with pins := { base.pins with powered := false } }, []⟩ with
      | .next t => !t.dev.live && t.dev == State.seen ⟨{ base with pins := { base.pins with powered := false } }, []⟩ 7 | _ => false),
    decide (∀ e ∈ [at' 500 { base with pins := { base.pins with resetN := false, fellAt := 0 } }],
      e.pins.resetN = false ∧ e.pins.fellAt + 500 ≤ e.now ∧ e.live = false ∧ e.errN = true ∧ e.laneIdleOut 63 1 = true)] := by decide +kernel

/-- ResetPulse: RESET_N falls, and rises 499, 500, 4,999 and 5,000 ticks later. -/
def low (t : Nat) : State := ⟨at' t { base with pins := { base.pins with resetN := false } }, []⟩
theorem test_w_ResetPulse : ok [
    (match exec (.resetNFall 3) State.reset with | .next t => !t.dev.pins.resetN && t.dev.pins.fellAt == 3 | _ => false),
    (match exec (.resetNRise 0 false ⟨false, 0⟩ 0) (low 499) with | .next t => t.dev.pins.resetN && t.dev.clk.ticks == 499 | _ => false),
    (match exec (.resetNRise 0 false ⟨false, 0⟩ 0) (low 500) with | .fault .resetPulseUndefined => true | _ => false),
    (match exec (.resetNRise 0 false ⟨false, 0⟩ 0) (low 4999) with | .fault .resetPulseUndefined => true | _ => false),
    (match exec (.resetNRise 0 true ⟨true, 5⟩ 9) (low 5000) with
      | .next t => t.dev.live && t.dev.clk.dev == 0 && t.dev.get F.GL_START_CAUSE == 1 && t.dev.store.pinResets == 1 && t.dev.store.starts == 2 &&
          t.dev.pins.kilnEn && t.dev.pins.refSel && t.dev.pins.devid == 5 && t.dev.pins.sealPins == 9 && t.dev.errN | _ => false)] := by decide +kernel

/-- PowerCycle: power applied to a device without it, and taken from one that has it. -/
theorem test_w_PowerCycle : ok [
    (match exec (.powerUp 0 true false 1 0) ⟨{ base with pins := { base.pins with powered := false } }, []⟩ with
      | .next t => t.dev.live && t.dev.get F.GL_START_KILN == 1 && t.dev.store.starts == 2 | _ => false),
    (match exec (.powerLoss 0 false) ⟨base, []⟩ with | .next t => !t.dev.live && t.dev.store == base.store | _ => false),
    (match exec (.powerLoss 0 true) ⟨base, []⟩ with | .next t => !t.dev.live && t.dev.errN | _ => false)] := by decide +kernel

/-- StoresReadBack: a memory in canonical form; the byte an unlisted address reads as leaves the list. -/
theorem test_w_StoresReadBack : ok [Mem.wf [(3, 7), (9, 1)], Mem.read [(3, 7), (9, 1)] 9 == 1, Mem.write [(3, 7), (9, 1)] 3 (Mem.read [] 3) == [(9, 1)]] := by
  decide +kernel

/-- CommandsKeep: a command with a scope before a device at work; one without a scope; a field in a scope, one outside, one in a range. -/
theorem test_w_CommandsKeep : ok [
    (touches (.freqStep 5)).isSome, (State.reset.seen (ticksOf (.freqStep 5))).live, ticksOf (.freqStep 5) == 5, ticksOf (.cycleOpening 3) == 0,
    (touches (.powerLoss 0 true)).isNone, (touches (.kilnTimeout 0)).any fun S => S.covers F.GL_START_KILN && !S.covers F.GL_READY_STORE,
    (touches (.activateComplete 0 [] true)).any fun S => S.covers F.PL_STATUS_RUNNING && !S.covers F.HC_CTX_STAT_STATE] := by decide +kernel

/-- RegisterWriteLands: a settings register, a command, a refused register, wrong forms, the readback, and both ends of the working store. -/
theorem test_w_RegisterWriteLands : ok [
    witEq ready' (.registerWrite 0 0 0x100 [0xFFFFFFFF] 15 0) (fun _ d => (findReg regTable 0x100).isSome && (d.writeRow 0 0xFFFFFFFF (reg 0x100)).isNone &&
      !((reg 0x100).reg.fields.any fun fd => decide (fd.acc = .w1c)) && !pairLow 0x100 && !pairHigh 0x100 && (d.writeRefusal 0 0x100).isNone)
      (fun d => d.writeReg 0xFFFFFFFF (reg 0x100) 0x100),
    witEq opened (.registerWrite 0 0 0x3FFFC [1] 15 0) (fun _ d => (findReg regTable 0x3FFFC).isNone && d.isOpen 0) id,
    wit opened (.registerWrite 0 0 0x50020 [0x80000000] 15 0) (fun _ d => (d.writeRow 0 0x80000000 (reg 0x50020)).isSome && !pairLow 0x50020 && !pairHigh 0x50020)
      (fun s d e => decide (some e = (d.writeRow 0 0x80000000 (reg 0x50020)).map fun f => (s.settled f).dev)),
    witEq opened (.registerWrite 0 1 0x100 [1] 15 0) (fun _ d => (d.writeRow 1 1 (reg 0x100)).isNone && decide (d.writeRefusal 1 0x100 = some 1))
      (fun d => d.refuse 1 false true 1 0x100),
    witEq opened (.registerWrite 0 0 0 [1, 2, 3] 15 15) (fun _ _ => !registerForm 0 3) (fun d => d.refuse 0 false true 2 0),
    witEq opened (.registerWrite 0 0 0xFFFFF8 [1, 2] 15 14) (fun _ _ => registerForm 0xFFFFF8 2) (fun d => d.refuse 0 false true 2 0xFFFFF8),
    witEq opened (.registerWrite 0 0 0x400000 [1] 15 0) (fun _ _ => inReadback 0x400000 && registerForm 0x400000 1) (fun d => d.refuse 0 false true 0 0x400000),
    witEq opened (.registerWrite 0 0 0x1FFFFFC (List.replicate 129 0) 15 15) (fun _ _ => true) (fun d => d.refuse 0 false true 2 0x1FFFFFC),
    witEq opened (.registerWrite 0 7 0x1000000 [1] 15 0) (fun _ d => !d.isOpen 7) (fun d => d.refuse 7 false true 1 0x1000000),
    witEq (regs [(F.HC_CTX_STAT_STATE, 7, 0, 1), (F.HC_CTX_CFG_ROLE, 7, 0, 2)]) (.registerWrite 0 7 0x1000000 [1] 15 0) (fun _ d => d.isOpen 7 && d.role 7 == 2)
      (fun d => d.refuse 7 false true 0 0x1000000),
    wit opened (.registerWrite 0 0 0x1000000 [0x04030201] 15 0) (fun _ d => d.isOpen 0 && d.role 0 != 2)
      (fun _ d e => e = (State.settled ⟨d, []⟩ (d.pokeWords 0 [0x04030201] 15 0)).dev && e.work.readBytes 0 4 == [1, 2, 3, 4] && e.work.read 4 == 0),
    wit opened (.registerWrite 0 0 0x1FFFFFC [0x04030201] 12 0) (fun _ d => d.isOpen 0 && d.role 0 != 2)
      (fun _ _ e => e.work.readBytes 0xFFFFFC 4 == [0, 0, 3, 4])] := by decide +kernel

/-- WrittenWordReads: TB_ADJ_NS, whose one field takes the word, at offset 0x30068; a field of 16 bits; and both while they are not ready. -/
theorem test_w_WrittenWordReads : ok [
    decide ((F.TB_ADJ_NS_NS ≠ F.MO_JOURNAL_PENDING) ∧ F.TB_ADJ_NS_NS ≠ F.MO_JOURNAL_FILL ∧
      ((reg 0x30068).reg.fields.map fun fd => (fd.fld, fd.copy.getD (reg 0x30068).j)).Nodup ∧
      ∃ fd ∈ (reg 0x30068).reg.fields, fd.acc = .rw ∧ fd.fld = F.TB_ADJ_NS_NS),
    ready'.blockReady (reg 0x30068).reg, decide ((ready'.writeReg 0xFFFFFFFF (reg 0x30068) 0x30068).get F.TB_ADJ_NS_NS = 0xFFFFFFFF),
    ready'.blockReady (reg 0x100).reg, decide ((ready'.writeReg 0xFFFFFFFF (reg 0x100) 0x100).get F.GL_PT_CFG_LIMIT = 0xFFFF),
    !opened.blockReady (reg 0x30068).reg, !opened.blockReady (reg 0x100).reg] := by decide +kernel

/-- RegisterReadsAndClears: reads of the first register, a counter and a refused one, of the working store, and of a wrong form; W1C bits of a
plain register, of the fault table, the interrupt registers, a core rail and a transfer channel, and of an Observer. -/
def observing : Dev := regs [(F.HC_CTX_CFG_ROLE, 0, 0, 2)] opened
theorem test_w_RegisterReadsAndClears : ok [
    witEq opened (.readClear 0 0 0 1) (fun _ d => !pairLow 0 && !pairHigh 0 && (d.refusal 0 false 0).isNone)
      (fun d => (d.readReg 0 0).1.emit (.readData 0 0 (d.word 0 0))),
    witEq (regs [(F.MO_SCRUB_CORR, 0, 0, 9)] opened) (.readClear 0 0 0x20040 1) (fun _ d => !pairLow 0x20040 && !pairHigh 0x20040 && (d.refusal 0 false 0x20040).isNone)
      (fun d => (d.readReg 0 0x20040).1.emit (.readData 0 0x20040 (d.word 0 0x20040))),
    wit (regs [(F.MO_SCRUB_CORR, 0, 0, 9)] opened) (.readClear 0 0 0x20040 1) (fun _ _ => true) (fun _ _ e => e.get F.MO_SCRUB_CORR == 0),
    witEq opened (.readClear 0 7 0x20040 1) (fun _ d => decide (d.refusal 7 false 0x20040 = some 1)) (fun d => (d.refuse 7 false false 1 0x20040).emit (.readData 7 0x20040 0)),
    witEq opened (.readClear 0 0 0 3) (fun _ _ => !registerForm 0 3) (fun d => (d.refuse 0 false false 2 0).emitWords 0 0 [0xFFFFFFFF, 0xFFFFFFFF, 0xFFFFFFFF]),
    wit { opened with work := [(0xFFFFFC, 7)] } (.readClear 0 0 0x1FFFFFC 1) (fun _ d => d.isOpen 0) (fun _ _ e => e.out == [.readData 0 0x1FFFFFC 7]),
    wit opened (.readClear 0 7 0x1000000 1) (fun _ d => !d.isOpen 7) (fun _ _ e => e.out == [.readData 7 0x1000000 0]),
    wit (regs [(F.SB_SEAL_CHANGED, 0, 0, 1)] opened) (.w1cClear 0 0 0x50010 0x40000000 0) (fun _ d => (d.writeRefusal 0 0x50010).isNone && d.role 0 != 2)
      (fun _ d e => e = (State.settled ⟨d, []⟩ (d.clearW1c 0x40000000 0 (reg 0x50010))).dev && e.get F.SB_SEAL_CHANGED == 0),
    wit (regs [(F.SB_SEAL_CHANGED, 0, 0, 1)] opened) (.w1cClear 0 0 0x50010 0x40000000 0x40000000) (fun _ d => (d.writeRefusal 0 0x50010).isNone)
      (fun _ _ e => e.on F.SB_SEAL_CHANGED),
    witEq opened (.w1cClear 0 7 0x50010 0x40000000 0) (fun _ d => decide (d.writeRefusal 7 0x50010 = some 1)) (fun d => d.refuse 7 false true 1 0x50010),
    witEq observing (.w1cClear 0 0 0xA4018 0xFFFFFFFF 0) (fun _ d => (d.writeRefusal 0 0xA4018).isNone && hitsW1c 0xFFFFFFFF (reg 0xA4018) && d.role 0 == 2)
      (fun d => d.refuse 0 false true 0 0xA4018),
    witEq observing (.w1cClear 0 0 0xA4018 0 0) (fun _ d => (d.writeRefusal 0 0xA4018).isNone && !hitsW1c 0 (reg 0xA4018)) (fun d => d.clearW1c 0 0 (reg 0xA4018)),
    witEq (regs [(F.FC_LATCH_LATCH, 0x1FF, 0, 1)] opened) (.w1cClear 0 0 0x4013C 0x80000000 0) (fun _ _ => decide ((reg 0x4013C).reg.base = 0x40100))
      (fun d => faultClear 0 15 0x80000000 d),
    witEq (regs [(F.HC_IRQ_STAT_STAT, 0, 0, 2)] opened) (.w1cClear 0 0 0x10134 4 0) (fun _ _ => decide ((reg 0x10134).reg.base = 0x10134))
      (fun d => irqPendingClear 0 0 false 4 0 d),
    witEq (regs [(F.FC_IRQ_PENDING, 7, 0, 1)] opened) (.w1cClear 0 0 0x4005C 0x40000000 0) (fun _ _ => decide ((reg 0x4005C).reg.base = 0x40040))
      (fun d => irqPendingClear 0 7 true 1 0 d),
    witEq opened (.w1cClear 0 0 0x4005C 1 0) (fun _ d => (d.writeRefusal 0 0x4005C).isNone) id,
    witEq (regs [(F.GL_VCORE_FAIL, 0, 0, 1)] opened) (.w1cClear 0 0 0x90 0x80000000 0) (fun _ d => decide ((reg 0x90).reg.base = 0x90) && (d.writeRefusal 0 0x90).isNone)
      (fun d => d.clearFail 0),
    witEq (regs [(F.DM_CH_STAT_STATE, 0, 0, 1), (F.DM_CH_IRQ_HALF, 0, 0, 1)] opened) (.w1cClear 0 0 0x9010C 0x80000000 0) (fun _ d =>
      decide ((reg 0x9010C).reg.base = 0x9010C) && (d.writeRefusal 0 0x9010C).isNone) (fun d => (d.clearW1c 0x80000000 0 (reg 0x9010C)).dmaShow 0),
    witEq (regs [(F.DM_CH_STAT_STATE, 0, 0, 1), (F.DM_CH_IRQ_HALF, 0, 0, 1), (F.DM_CH_IRQ_EN_HALF, 0, 0, 1)] opened) (.w1cClear 0 0 0x9010C 0x80000000 0x80000000) (fun _ d =>
      (d.writeRefusal 0 0x9010C).isNone && (0x80000000 &&& 0x80000000 &&& d.word 0 0x90110) / 0x8000000 != 0)
      (fun d => ((d.clearW1c 0x80000000 0x80000000 (reg 0x9010C)).dmaIrqEnd 0 true).dmaShow 0)] := by decide +kernel

/-- PairedHalves: the read pair at 0x30020 with and without its latch, the write pair SB_CMD_MASK with and without its held low word. -/
theorem test_w_PairedHalves : ok [
    wit opened (.pairLowRead 0 0 0x30020) (fun _ d => decide (d.acceptsRead 0 0x30020)) (fun _ d e => (e.ctx 0).latch == some (0x30020, d.word 0 0x30024)),
    witEq (opened.modCtx 0 fun c => { c with latch := some (0x30020, 77) }) (.pairHighRead 0 0 0x30024)
      (fun _ d => decide (d.acceptsRead 0 0x30024) && (d.ctx 0).latch == some (0x30024 - 4, 77)) (fun d => d.emit (.readData 0 0x30024 77)),
    wit opened (.pairHighRead 0 0 0x30024) (fun _ d => decide (d.acceptsRead 0 0x30024) && (d.ctx 0).latch == none) (fun _ _ e => e.get F.HC_CTX_STAT_HALF_LIVE 0 == 1),
    witEq opened (.pairLowWrite 0 0 0x50024 0xFFFFFFFF) (fun _ d => (d.writeRefusal 0 0x50024).isNone)
      (fun d => d.modCtx 0 fun c => { c with low := some (0x50024, 0xFFFFFFFF) }),
    witEq (opened.modCtx 0 fun c => { c with low := some (0x50024, 5) }) (.pairHighWrite 0 0 0x50028 6)
      (fun _ d => (d.writeRefusal 0 0x50024).isNone && (d.writeRefusal 0 0x50028).isNone && (findReg regTable 0x50024).isSome && (reg 0x50024).reg.base != 0x10114)
      (fun d => ((d.modCtx 0 fun c => { c with low := none }).putWord 0x50024 5).putWord 0x50028 6),
    witEq opened (.pairHighWrite 0 0 0x50028 6)
      (fun _ d => (d.writeRefusal 0 0x50024).isNone && (d.writeRefusal 0 0x50028).isNone && (d.ctx 0).low == none)
      (fun d => (d.putWord 0x50024 (d.word 0 0x50024)).putWord 0x50028 6),
    witEq opened (.readClear 0 0 0x30020 2)
      (fun _ d => decide (d.acceptsRead 0 0x30020) && registerForm 0x30020 2 && !inReadback 0x30020 && !inWork 0x30020 && pairLow 0x30020 &&
        (((d.readReg 0 0x30020).1.emit (.readData 0 0x30020 (d.word 0 0x30020))).refusal 0 false 0x30024).isNone)
      (fun d => let d1 := (d.readReg 0 0x30020).1.emit (.readData 0 0x30020 (d.word 0 0x30020)); (d1.readReg 0 0x30024).1.emit (.readData 0 0x30024 (d1.word 0 0x30024))),
    witEq opened (.registerWrite 0 0 0x50024 [5, 6] 15 15)
      (fun _ d => (d.writeRefusal 0 0x50028).isNone && (d.writeRefusal 0 0x50024).isNone && registerForm 0x50024 2 && !inReadback 0x50024 && !inWork 0x50024 && pairLow 0x50024 &&
        ((reg 0x50024).reg.fields.any fun fd => decide (fd.acc = .rw)))
      (fun d => (d.putWord 0x50024 5).putWord 0x50028 6),
    witEq (opened.modCtx 0 fun c => { c with low := some (0x10114, 0x3000) }) (.pairHighWrite 0 0 0x10118 6)
      (fun _ d => (d.writeRefusal 0 0x10118).isNone && (d.writeRefusal 0 0x10114).isNone && (reg 0x10114).reg.base == 0x10114)
      (fun d => mmuConfigWrite 0 (reg 0x10114).i true (0x3000 + 0x100000000 * 6) (d.modCtx 0 fun c => { c with low := none }))] := by decide +kernel

/-- JournalCommits: a record under way, and a half that is far from full. -/
theorem test_w_JournalCommits : ok [
    wit (recording [aRec]) (.settingsRecordCommit 0) (fun _ _ => true) (fun _ _ e => ((nth e.store.halves 0 ⟨0, false, []⟩).recs.map (·.committed)) == [true]),
    witEq (recording [aRec]) (.journalSnapshot 0) (fun _ d => decide ((nth d.store.halves 0 ⟨0, false, []⟩).recs.length < 28672)) id] := by decide +kernel

/-- JournalCommits, the snapshot: a half of 28,672 records. -/
theorem test_w_JournalCommits_full (r : JRec) : 28672 ≤ (nth [(⟨0, true, List.replicate 28672 r⟩ : JHalf), ⟨0, false, []⟩] 0 ⟨0, false, []⟩).recs.length := by
  have h : nth [(⟨0, true, List.replicate 28672 r⟩ : JHalf), ⟨0, false, []⟩] 0 ⟨0, false, []⟩ = ⟨0, true, List.replicate 28672 r⟩ := by
    rw [nth, List.getElem?_cons_zero, Option.getD_some]
  rw [h]; simp only [List.length_replicate]; omega
theorem test_w_JournalCommits_full_ready (l : List JRec) : (recording l (regs [(F.GL_READY_JOURNAL, 0, 0, 1)])).ready F.GL_READY_JOURNAL = true := by rfl

/-- RefusedWrite: with context 1 CLOSED every command register refuses it. -/
theorem test_w_RefusedWrite :
    (([0x20010, 0x30060, 0x50020, 0x60020, 0xA0004, 0xA0304, 0x90100, 0x91080] : List Nat).all fun off => (base.refusal 1 true off).isSome) = true := by
  decide +kernel
theorem test_w_RefusedWrite_effect : ok [
    witEq base (.verify 0 1 0) (fun _ _ => true) (fun d => d.refuse 1 false true 1 0x20010),
    witEq base (.slew 0 1) (fun _ _ => true) (fun d => d.refuse 1 false true 1 0x30060),
    witEq base (.safeBlock 0 1) (fun _ _ => true) (fun d => d.refuse 1 false true 1 0x50020),
    witEq base (.fence 0 1 3) (fun _ _ => true) (fun d => d.refuse 1 false true 1 0x60020),
    witEq base (.modeCommand 0 1 3 2 0) (fun _ _ => true) (fun d => d.refuse 1 false true 1 0xA0304),
    witEq base (.claim 0 1 31) (fun _ _ => true) (fun d => d.refuse 1 false true 1 0x91080)] := by decide +kernel
/-- Of the other command registers one command each, and all those of a channel. -/
theorem test_w_RefusedWrite_blocks : (([.load 0 1 0, .live 0 1 0, .keyrec 0 1, .clearFirst 0 1, .inject 0 1 0 0 false false, .rediscover 0 1 63, .holdIdle 0 1 63 1,
    .lmRun 0 1 3, .lmCalZero 0 1 0 0, .close 0 1, .give 0 1 2, .claimOwner 0 1, .setpointCommit 0 1 3 0, .harvestScan 0 1 3, .tioCommand 0 1 7 false 0 0,
    .kilnCodeWrite 0 1 0, .resume 0 1 31, .disarm 0 1 31, .releaseChannel 0 1 31, .logIndexWrite 0 1 ⟨5, []⟩] : List Instr).all fun i =>
      match writesTo i with
      | some (x, off) => x == 1 && (off == 0x10004 || decide (base.refusal 1 true off = some 1))
      | none => false) = true := by decide +kernel

/-- RefusalRecord: the largest cause. -/
theorem test_w_RefusalRecord : (2 < 3) ∧ (base.refuse 7 true true 2 0x7FFFFFC).get F.HC_CTX_REFADDR_CAUSE 7 = 2 := by decide +kernel

/-- BootAndRestore: the steps of a start, from reset on, a store that both copies fail, and a group restored after FOLLOW. -/
def lostErrs : List StoreErr := [⟨.device 0 5, true⟩, ⟨.device 1 5, true⟩]
theorem test_w_BootAndRestore : ok [
    decide (∀ r ∈ [base.readStore lostErrs], r.store.lost = true ∧ r.ready F.GL_READY_STORE = false),
    witEq base (.deviceRecordsChecked 0 lostErrs) (fun _ d => !d.ready F.GL_READY_STORE && (d.readStore lostErrs).store.lost) (fun d => d.readStore lostErrs),
    wit base (.deviceRecordsChecked 0 [⟨.device 1 0, true⟩, ⟨.device 0 3, false⟩]) (fun _ d => !d.ready F.GL_READY_STORE && !(d.readStore [⟨.device 1 0, true⟩]).store.lost)
      (fun _ _ e => e.ready F.GL_READY_STORE && e.get F.GL_START_STARTS == 1 && e.get F.MO_STATUS_SINGLE_ERRS == 1 && e.store.recs.all fun r => r.bad == []),
    witEq stored (.deviceRecordsChecked 0 []) (fun _ d => d.ready F.GL_READY_STORE) id,
    wit stored (.activeSlotCheck 0 []) (fun _ d => d.ready F.GL_READY_STORE && !d.kiln && !d.mo.checkDone && decide (d.store.active < 2) && d.store.slots.length == 2)
      (fun _ _ e => e.mo.checkDone && !e.mo.checkOk && (e.slot 0).state == 5),
    wit { stored with store := { stored.store with slots := stored.store.slots.map fun x => { x with cut := some 0, state := 5, reason := 0x0E } } } (.activeSlotCheck 0 [])
      (fun _ d => (d.slot 0).cut.isSome && (d.slot 0).state != 1) (fun _ _ e => e.mo.checkDone && !e.mo.checkOk && (e.slot 0).state == 5 && (e.slot 0).reason == 0x0E),
    wit { stored with mo := { stored.mo with checkOk := true } } (.structureBuild 0 []) (fun _ d => d.mo.checkOk && !d.ready F.GL_READY_MORTAR && !d.kiln) (fun _ _ _ => true),
    wit (recording [aRec.commits, record 1] stored) (.journalReplay 0 []) (fun _ d => d.ready F.GL_READY_STORE && !d.ready F.GL_READY_JOURNAL)
      (fun _ _ e => e.ready F.GL_READY_JOURNAL && !e.on F.GL_READY_RESTORE_DEGRADED && e.get F.MO_JOURNAL_FILL == 1),
    wit stored (.faultsReady 0 []) (fun _ d => d.ready F.GL_READY_STORE && !d.ready F.GL_READY_FAULTS) (fun _ _ e => e.ready F.GL_READY_FAULTS),
    wit { stored with store := { stored.store with head := 9, lseq := 9, log := [(4, { LogRec.blank with seq := 4, ok := true }), (9, { LogRec.blank with seq := 9, ok := false })] } }
      (.faultsReady 0 []) (fun _ d => d.ready F.GL_READY_STORE && !d.ready F.GL_READY_FAULTS) (fun _ _ e => e.get F.FC_LOG_STAT_HEAD == 4 && e.store.lseq == 4),
    wit (regs [(F.GL_READY_MORTAR, 0, 0, 1)]) (.safetyReady 0) (fun _ d => d.ready F.GL_READY_MORTAR && !d.kiln && !d.sb.checked) (fun _ _ e => e.sb.checked),
    wit (plant (fun h => { h with lastMode := 2 }) body1 (regs [(F.GL_READY_JOURNAL, 0, 0, 1), (F.GL_READY_TRIPLEX, 0, 0, 1), (F.GL_READY_SAFETY, 0, 0, 1), (F.CM_CRS_STAT_STATE, 63, 0, 2)])
      |> fun d => d.set F.GL_READY_GROUP 0) (.groupRestore 0 3) (fun _ d => d.mayRestore 3) (fun _ _ e => e.gpMode 3 == 2 && e.get F.GP_MODE_CAUSE 3 == 9)] := by
  decide +kernel

/-- Kiln: waiting for its code, ten seconds without one, and a code that comes with the tenth second. -/
theorem test_w_Kiln : ok [
    witEq (at' 5000000000 (regs [(F.GL_START_KILN, 0, 0, 1)])) (.kilnTimeout 0) (fun _ d => d.get F.GL_START_KILN == 1 && decide (d.mo.kilnSince + 5000000000 ≤ d.now))
      (fun d => ({ d with mo := { d.mo with lockedOut := true } } : Dev).set F.GL_START_KILN 3),
    witEq opened (.kilnCodeWrite 0 0 7) (fun _ d => (d.refusal 0 true 0xC).isNone && d.get F.GL_START_KILN == 0) id,
    witEq opened (.readClear 0 0 0xC 1) (fun _ d => (d.refusal 0 false 0xC).isNone) (fun d => d.emit (.readData 0 0xC 0)),
    decide (∀ d ∈ [at' 4999999999 (regs [(F.GL_START_KILN, 0, 0, 1)] opened)], d.refusal 0 true 0xC = none ∧ d.now < d.mo.kilnSince + 5000000000),
    decide (∀ d ∈ [at' 5000000000 (regs [(F.GL_START_KILN, 0, 0, 1)] opened)], d.refusal 0 true 0xC = none ∧ d.mo.kilnSince + 5000000000 ≤ d.now)] := by decide +kernel

theorem test_w_Kiln_code : (BitVec.ofNat 32 Config.kilnCode).toNat = Config.kilnCode % 0x100000000 ∧
    (BitVec.ofNat 32 (Config.kilnCode + 1)).toNat ≠ Config.kilnCode % 0x100000000 := by
  generalize Config.kilnCode = k
  constructor
  · exact BitVec.toNat_ofNat ..
  · rw [BitVec.toNat_ofNat]; omega

/-- OpenContext. -/
theorem test_w_OpenContext : ok [
    wit opened (.open' 0 0 true ⟨true, 3, 1, 5⟩) (fun _ d => decide (d.accepts 0 0x10004) && d.get F.HC_CTX_STAT_STATE 0 == 1) (fun _ _ e => e.get F.HC_CTX_CMD_RESULT == 4),
    wit base (.open' 0 7 true ⟨true, 15, 7, 5⟩) (fun _ d => decide (d.accepts 7 0x10004) && d.get F.HC_CTX_STAT_STATE 7 == 0)
      (fun _ _ e => e.get F.HC_CTX_CMD_RESULT == 0 && e.get F.HC_CTX_STAT_STATE 7 == 1),
    wit base (.open' 0 7 false ⟨true, 0, 2, 5⟩) (fun _ d => decide (d.accepts 7 0x10004) && d.get F.HC_CTX_STAT_STATE 7 == 0)
      (fun _ _ e => e.get F.HC_CTX_CMD_RESULT == 3 && e.get F.HC_CTX_STAT_STATE 7 == 0),
    wit (regs [(F.HC_CTX_STAT_STATE, 1, 0, 2)]) (.open' 0 1 true ⟨true, 0, 2, 5⟩) (fun _ d => decide (d.accepts 1 0x10004) && d.get F.HC_CTX_STAT_STATE 1 == 2)
      (fun _ _ e => e.get F.HC_CTX_CMD_RESULT == 1)] := by decide +kernel

/-- ContextCloses. -/
theorem test_w_ContextCloses : ok [
    witEq opened (.close 0 0) (fun _ d => (d.refusal 0 true 0x10004).isNone && d.get F.HC_CTX_STAT_STATE 0 == 1) (fun d => (d.closeCtx 1 0).set F.HC_CTX_CMD_RESULT 0),
    wit opened (.functionLevelReset 0 0) (fun _ _ => true) (fun _ _ e => e.get F.HC_CTX_STAT_STATE 0 == 2 && (e.ctx 0).cfg.maxRead == 2 && !(e.ctx 0).mse),
    witEq opened (.d3hotEntry 0 0) (fun _ _ => true) (fun d => (d.closeCtx 5 0).modCtx 0 fun c => { c with d0 := false }),
    witEq (regs [(F.HC_CTX_STAT_STATE, 3, 0, 2)]) (.contextClosed 0 3) (fun _ d => d.get F.HC_CTX_STAT_STATE 3 == 2 && d.dmaOf 3 == []) (fun d => d.set F.HC_CTX_STAT_STATE 0 3),
    witEq (let d := regs [(F.HC_CTX_STAT_STATE, 3, 0, 2)]; { d with dma := setNth d.dma 31 { DmaSt.init with late := [⟨0, 64, 0, 3⟩] } }) (.contextClosed 0 3) (fun _ d => d.awaits 3) id,
    witEq (at' 1000000 { opened with host := { opened.host with downAt := [some 0, none] } }) (.linkRecoveryTimeout 0 0)
      (fun _ d => nth d.host.downAt 0 none == some 0 && decide (0 + 1000000 ≤ d.now) && !d.on F.HC_PORT_LINK_UP 0)
      (fun d => ({ d with host := { d.host with downAt := [none, none] } } : Dev).each [0, 1, 2, 3] (Dev.closeCtx 4)),
    decide (∀ e ∈ [opened.closeCtx 4 7], opened.host.ctxs.length = 8 ∧ (e.ctx 7).held = [])] := by decide +kernel

/-- PortsAndMessages. -/
theorem test_w_PortsAndMessages : ok [
    wit (regs [(F.HC_PORT_LINK_UP, 1, 0, 1)]) (.linkLeavesL0 0 1) (fun _ d => d.on F.HC_PORT_LINK_UP 1)
      (fun _ d e => !e.on F.HC_PORT_LINK_UP 1 && e.get F.HC_PORT_LINK_DOWNS 1 == 1 && e.host.downAt == [none, some d.now]),
    wit (regs [(F.HC_PORT_LINK_UP, 0, 0, 1)] opened) (.perstLow 0 0) (fun _ _ => true) (fun _ _ e => !e.pins.perstA && !e.on F.HC_PORT_LINK_UP 0),
    wit base (.perstRise 0 1) (fun _ _ => true) (fun _ _ e => e.pins.perstB),
    wit base (.pciePortConfigurable 0 1) (fun _ _ => true) (fun _ _ e => e.ready F.GL_READY_HOST_B),
    wit opened (.busMasterDisable 0 0) (fun _ d => d.host.ctxs.length == 8) (fun _ _ e => !(e.ctx 0).bme)] := by decide +kernel
theorem test_w_PortsAndMessages_link : ok [
    wit base (.linkEntersL0 0 1 4 2) (fun _ d => d.pins.perstB) (fun _ _ e => e.on F.HC_PORT_LINK_UP 1 && e.get F.HC_PORT_SPEED 1 == 4 && e.get F.HC_PORT_WIDTH 1 == 2),
    wit (opened.modCtx 0 fun c => { c with held := [5, 6], table := [(20, 0x1000), (22, 7), (23, 0)] }) (.busMasterEnable 0 0) (fun _ d => d.host.ctxs.length == 8)
      (fun _ _ e => (e.ctx 0).bme && e.out == [.msix 0 5 0x1000 7] && (e.ctx 0).held == [6]),
    wit (opened.modCtx 0 fun c => { c with held := [47], bme := true }) (.msixVectorUnmask 0 0 (.write 0x2FC [0] true)) (fun _ d => (d.ctx 0).bme && d.host.ctxs.length == 8 && (d.ctx 0).masked 47)
      (fun _ _ e => !(e.ctx 0).masked 47 && e.out == [.msix 0 47 0 0] && (e.ctx 0).held == []),
    witEq opened (.msixVectorUnmask 0 7 (.write 8 [0, 0, 0] true)) (fun _ _ => !msixForm 8 3 true) (fun d => d.refuse 7 false true 2 8),
    wit (opened.modCtx 7 fun c => { c with held := [33] }) (.msixVectorUnmask 0 7 (.read 0x2004 1)) (fun _ _ => true) (fun _ _ e => e.out == [.msixData 7 0x2004 2])] := by decide +kernel

/-- Roles. -/
theorem test_w_Roles : ok [
    witEq opened (.roleWrite 0 0 7 1) (fun _ d => (d.refusal 0 true 0x102C0).isNone) (fun d => d.setKept F.HC_CTX_CFG_ROLE 1 7),
    witEq opened (.roleWrite 0 0 0 1) (fun _ d => (d.refusal 0 true 0x10100).isNone) (fun d => d.refuse 0 false true 0 0x10100),
    witEq (regs [(F.HC_CTX_STAT_STATE, 3, 0, 1)] opened) (.give 0 0 3) (fun _ d => (d.refusal 0 true 0x10008).isNone && d.isOpen 3)
      (fun d => (d.moveOwner 0 3).set F.HC_OWNER_RESULT 0),
    witEq (at' 500000000 (regs [(F.HC_CTX_STAT_STATE, 3, 0, 1), (F.HC_CTX_CFG_ROLE, 3, 0, 1), (F.HC_OWNER_CLAIM_WAIT, 0, 0, 1)])) (.claimOwner 0 3)
      (fun _ d => (d.refusal 3 true 0x1000C).isNone && d.get F.HC_OWNER_CLAIM_WAIT != 0 && !d.isOpen (d.get F.HC_OWNER_OWNER) &&
        decide (d.host.ownerLost + 500000000 * d.get F.HC_OWNER_CLAIM_WAIT ≤ d.now)) (fun d => (d.moveOwner 0 3).set F.HC_CLAIM_RESULT 0),
    decide ((opened.moveOwner 0 7).role 7 = 0 ∧ (opened.moveOwner 0 7).role 0 = 1 ∧ opened.store.half < opened.store.halves.length ∧
      (nth (opened.moveOwner 0 7).store.halves 0 ⟨0, false, []⟩).recs.map (fun r => (r.off, r.committed)) = [(0x102C0, false), (0x10100, false), (0x10008, false)])] := by
  decide +kernel

/-- Translation. -/
def walking (lv : Nat) : Dev := { opened with host := { opened.host with walks := [⟨0, 0x12345678, false, lv, 0, [], false⟩] } }
theorem test_w_Translation : ok [
    witEq opened (.mmuConfigWrite 0 0 0 false 1) (fun _ d => (d.refusal 0 true 0x10110).isNone) (fun d => (d.set F.HC_MMU_CTL_MODE 1 0).rerooted 0),
    witEq opened (.mmuConfigWrite 0 0 0 false 4) (fun _ d => d.get F.HC_MMU_CTL_MODE 0 == 4 % 4) id,
    decide (∀ d ∈ [(walking 1).rerooted 0], d.host.walks.map (·.old) = [true] ∧ (d.host.walks.any fun w => w.ctx == 0)),
    wit opened (.mmuConfigWrite 0 0 0 true 0x1234567FFF) (fun _ d => (d.refusal 0 true 0x10114).isNone)
      (fun _ _ e => e.get F.HC_MMU_ROOT_LO_ROOT_LO 0 == 0x34567000 && e.get F.HC_MMU_ROOT_HI_ROOT_HI 0 == 0x12),
    wit opened (.invAll 0 0 0) (fun _ d => (d.refusal 0 true 0x10110).isNone && !d.on F.HC_MMU_CTL_BUSY 0) (fun _ _ e => e.on F.HC_MMU_CTL_BUSY 0),
    wit { opened with host := { opened.host with cache := [⟨0, 0, 0, true, true, 0, false⟩] } } (.invPage 0 0 0) (fun _ d => !d.on F.HC_MMU_CTL_BUSY 0)
      (fun _ _ e => e.host.cache.map (·.old) == [true]),
    wit (regs [(F.HC_MMU_CTL_BUSY, 0, 0, 1)] opened) (.invalidationComplete 0 0) (fun _ d => d.on F.HC_MMU_CTL_BUSY 0 && !d.oldBurst 0) (fun _ _ e => !e.on F.HC_MMU_CTL_BUSY 0),
    wit (walking 1) (.translationWalkComplete 0 0 0xABCDE001 0) (fun _ d => (d.host.walks.find? (·.ctx == 0)).isSome && 0xABCDE001 % 2 == 1 && 0xABCDE001 / 2 % 0x800 == 0)
      (fun _ _ e => e.out == [.hostRead 0 (0xABCDE000 + 8 * 0x1234) 0 8] && e.host.walks.map (·.level) == [2]),
    wit (walking 2) (.translationWalkComplete 0 0 0xABCD0007 0) (fun _ d => (d.host.walks.find? (·.ctx == 0)).isSome && 0xABCD0007 % 2 == 1 && 0xABCD0007 / 0x20 % 0x800 == 0)
      (fun _ _ e => e.host.walks == [] && e.host.cache == [⟨0, 0x1234, 0xABCD0000, true, true, 0, false⟩])] := by decide +kernel

/-- A device whose store is ready, with an image in slot 0 in a state, and a command of MO_CMD in progress. -/
def slot0 (st : Nat) : Dev := { stored with store := { stored.store with slots := [⟨st, 0, 2, signed, false, false, none⟩, .empty] } }
def moRun (r : MoRun) (d : Dev) : Dev := { (regs [(F.MO_CMD_BUSY, 0, 0, 1)] d) with mo := { d.mo with run := some r } }
def ownerOpen (d : Dev) : Dev := regs [(F.HC_CTX_STAT_STATE, 0, 0, 1)] d

/-- The signed image passes every check but the last under the key of the ring, and body0 is content that passes that one. -/
theorem image_signed : imgSigned signed keyNo = true := by decide +kernel
theorem image_form : headerCheck signed false = 0 ∧ imgKeyidx signed = 0 ∧ imgSecver signed = 2 ∧ sectionsOk signed = true ∧ mandatoryOk signed = true ∧
    contentOk body0 (imgSection signed 9) = true ∧ decide (classL signed ≤ 0x200000) = true := by decide +kernel
theorem image_verifies (d : Dev) (hs : d.slot 0 = ⟨(d.slot 0).state, (d.slot 0).reason, 2, signed, false, false, none⟩) (hk : d.ringKey 0 = some ⟨keyNo, false⟩)
    (hf : d.store.floor ≤ 2) (hb : Config.imageBody signed = body0) : d.verifySlot 0 = 0 := by
  obtain ⟨h1, h2, h3, h4, h5, h6, h7⟩ := image_form
  unfold Dev.verifySlot; rw [hs]
  simp only [Slot.body, hb, h6, h7, Bool.and_self, Dev.verify, h1, h2, hk, image_signed, h3, h4, h5]
  simp; omega

/-- BootAndRestore: the slot of the pointer verifies where its bytes say body0. -/
theorem test_w_BootAndRestore_image (hb : Config.imageBody signed = body0) : (((State.seen ⟨slot0 3, []⟩ 0).readStore []).slot 0).state = 3 ∧
    ((State.seen ⟨slot0 3, []⟩ 0).readStore []).verifySlot 0 = 0 :=
  ⟨by decide +kernel, image_verifies _ (by decide +kernel) (by decide +kernel) (by decide +kernel) hb⟩

/-- MortarStarts: each command, and the checks of R58. -/
theorem test_w_MortarStarts : ok [
    wit (ownerOpen stored) (.load 0 0 1) (fun _ d => decide (d.accepts 0 0x20010) && d.moCheck false 0 == 0 && (d.slot 1).state != 4)
      (fun _ _ e => e.on F.MO_CMD_BUSY && (e.slot 1).state == 1),
    wit (ownerOpen (slot0 5)) (.verify 0 0 0) (fun _ d => decide (d.accepts 0 0x20010) && d.moCheck false 0 == 0 && (d.slot 0).state == 5) (fun _ _ e => e.mo.run == some (.of 2 0)),
    wit (ownerOpen (slot0 3)) (.activate 0 0 0) (fun _ d => decide (d.accepts 0 0x20010) && d.moCheck false 0 == 0 && (d.slot 0).state == 3 && d.allAtRest)
      (fun _ _ e => e.mo.run == some (.of 3 0)),
    wit (ownerOpen (regs [(F.GP_MODE_MODE, 3, 0, 1)] ((slot0 3).modGrp 3 fun g => { g with built := true }))) (.activate 0 0 0) (fun _ d => d.moCheck false 0 == 0 && !d.allAtRest) (fun _ _ e => e.get F.MO_CMD_RESULT == 4),
    wit (ownerOpen (slot0 5)) (.activate 0 0 0) (fun _ d => d.moCheck false 0 == 0 && d.allAtRest && (d.slot 0).state != 3) (fun _ _ e => e.get F.MO_CMD_RESULT == 9),
    wit (ownerOpen (slot0 3)) (.erase 0 0 1) (fun _ d => d.moCheck false 0 == 0 && (d.slot 1).state != 4) (fun _ _ e => e.mo.run == some (.of 4 1)),
    wit (regs [(F.GL_READY_MORTAR, 0, 0, 1)] (ownerOpen (slot0 4))) (.raiseFloor 0 0) (fun _ d => d.moCheck false 0 == 0 && d.activeSlot.isSome && d.ready F.GL_READY_MORTAR)
      (fun _ _ e => e.mo.run == some (.of 6 0)),
    wit (ownerOpen stored) (.keyrec 0 0) (fun _ d => d.moCheck false 0 == 0) (fun _ _ e => e.mo.run.map (·.code) == some 7 && e.on F.MO_CMD_BUSY),
    wit ((ownerOpen stored).modGrp 3 fun g => { g with built := true }) (.live 0 0 8) (fun _ d => d.moCheck false 0 == 0 && (d.grp 3).built)
      (fun _ d e => e.get F.MO_LIVE_STATE == 1 && e.get F.MO_LIVE_GROUPS == 8 && e.on F.MO_CMD_BUSY && e.store == d.store && e.grps == d.grps),
    wit (regs [(F.GL_START_KILN, 0, 0, 3)] (ownerOpen stored)) (.erase 0 0 0) (fun _ d => decide (d.accepts 0 0x20010) && d.get F.GL_START_KILN != 0) (fun _ _ e => e.get F.MO_CMD_RESULT == 0x10),
    wit opened (.erase 0 0 0) (fun _ d => d.get F.GL_START_KILN == 0 && !d.ready F.GL_READY_STORE) (fun _ _ e => e.get F.MO_CMD_RESULT == 0xF),
    wit (regs [(F.MO_CMD_BUSY, 0, 0, 1)] (ownerOpen stored)) (.erase 0 0 0) (fun _ d => d.ready F.GL_READY_STORE && d.on F.MO_CMD_BUSY) (fun _ _ e => e.get F.MO_CMD_RESULT == 1),
    wit (ownerOpen stored) (.erase 0 0 2) (fun _ d => d.ready F.GL_READY_STORE && !d.on F.MO_CMD_BUSY) (fun _ _ e => e.get F.MO_CMD_RESULT == 2),
    wit (ownerOpen (slot0 4)) (.erase 0 0 0) (fun _ d => (d.slot 0).state == 4 && !d.on F.MO_CMD_BUSY) (fun _ _ e => e.get F.MO_CMD_RESULT == 3),
    witEq (ownerOpen (slot0 3)) (.verify 0 0 1) (fun _ d => (d.slot 1).state == 0 && d.moCheck false 0x13 == 0x13) (fun d => d.set F.MO_CMD_RESULT 0x13),
    witEq (ownerOpen (slot0 3)) (.raiseFloor 0 0) (fun _ d => d.activeSlot.isNone && d.moCheck false 0x13 == 0x13) (fun d => d.set F.MO_CMD_RESULT 0x13),
    witEq (ownerOpen stored) (.live 0 0 8) (fun _ d => !(d.grp 3).built && d.moCheck false 0xF == 0xF) (fun d => d.set F.MO_CMD_RESULT 0xF),
    witEq (ownerOpen stored) (.live 0 0 0) (fun _ d => d.moCheck true 0 == 2) (fun d => d.set F.MO_CMD_RESULT 2)] := by decide +kernel

/-- MortarCompletes: the commands but KEYREC and ACTIVATE. -/
theorem test_w_MortarCompletes : ok [
    wit (moRun (.of 1 0) (slot0 1)) (.loadComplete 0 []) (fun _ d => d.mo.run == some (.of 1 0)) (fun _ _ e => (e.slot 0).state == 2 && (e.slot 0).secver == 2 && !e.on F.MO_CMD_BUSY),
    wit (moRun (.of 1 0) (slot0 1)) (.loadComplete 0 [⟨.slot 0, true⟩]) (fun _ _ => true) (fun _ _ e => (e.slot 0).state == 5 && e.get F.MO_CMD_RESULT == 0xE),
    wit (moRun (.of 2 1) { stored with store := { stored.store with slots := [.empty, ⟨2, 0, 2, [], false, false, none⟩] } }) (.verifyComplete 0 []) (fun _ d => (d.readStore []).verifySlot 1 != 0)
      (fun _ d e => (e.slot 1).state == 5 && e.get F.MO_CMD_RESULT == (d.readStore []).verifySlot 1),
    wit (moRun (.of 4 0) (slot0 3)) (.eraseComplete 0 []) (fun _ _ => true) (fun _ _ e => e.slot 0 == .empty),
    wit (moRun (.of 4 0) (slot0 3)) (.eraseComplete 0 [⟨.slot 1, true⟩]) (fun _ _ => true) (fun _ _ e => e.get F.MO_CMD_RESULT == 0xE),
    wit (moRun (.of 6 0) (slot0 4)) (.raiseFloorComplete 0 []) (fun _ d => d.activeSlot == some 0) (fun _ _ e => e.store.floor == 2 && e.get F.MO_STATUS_FLOOR == 2),
    wit (moRun (.of 6 0) (slot0 4)) (.raiseFloorComplete 0 [⟨.slot 1, true⟩]) (fun _ d => d.activeSlot == some 0) (fun _ _ e => e.get F.MO_CMD_RESULT == 0xE)] := by decide +kernel

/-- MortarCompletes: key records of one byte, each with its first failing check, and one that joins the ring. -/
def shortKey : Nat :=
  0xb42062144550e6f1c1eab261bc2f03156627cfba964fb8b26e2ec1644432b6873cf698069cf8aabcd7ebc2754650b412ced6ff89af867f08cc08fa4c6a369dc0e2ee4f55350a07a3820e84657604c645d002b3907e62a6a02e4847ea6bb59fbc
def shortSig : Nat := 0xdb475240477c5e4497a2c5724ca485f5b1f2c2fc0602b92bae234238ec8d4e873a7148c739593e95a7f4dfe7c6e69f69
def keyRec (entry : Nat) : KeyRecord :=
  { formatOk := true, signedBy := 0, signed := [2], sigR := shortSig, sigS := shortSig, entry := entry, revoke := false, key := 9 }
def keyed (k : KeyRecord) : Dev :=
  moRun ⟨7, 0, some k⟩ { stored with store := { stored.store with recs := stored.store.recs.map fun r => { r with keys := [some ⟨shortKey, false⟩, none, none, none] } } }
theorem record_signed : signatureOk shortKey [2] shortSig shortSig = true := by decide +kernel
theorem test_w_MortarCompletes_key : ok [
    wit (keyed { keyRec 3 with formatOk := false }) (.keyrecComplete 0 []) (fun _ _ => true) (fun _ _ e => e.get F.MO_CMD_RESULT == 0x12),
    wit (keyed { keyRec 3 with signedBy := 1 }) (.keyrecComplete 0 []) (fun _ d => d.ringKey 1 == none) (fun _ _ e => e.get F.MO_CMD_RESULT == 0xA),
    wit (keyed { keyRec 3 with sigS := 0 }) (.keyrecComplete 0 []) (fun _ _ => !signatureOk shortKey [2] shortSig 0) (fun _ _ e => e.get F.MO_CMD_RESULT == 5),
    decide ((keyed (keyRec 3)).mo.run = some ⟨7, 0, some (keyRec 3)⟩ ∧ (keyed (keyRec 3)).ringKey 0 = some ⟨shortKey, false⟩ ∧ (keyed (keyRec 3)).keyRule (keyRec 3) = false),
    decide ((keyed (keyRec 0)).keyRule (keyRec 0) = true)] := by decide +kernel

/-- MortarCompletes: an image that passes, whose bytes say body0, and ACTIVATE of one that does not. -/
theorem test_w_MortarCompletes_image (hb : Config.imageBody signed = body0) :
    ((State.seen ⟨moRun (.of 2 0) (slot0 2), []⟩ 0).readStore []).verifySlot 0 = 0 ∧ ((State.seen ⟨moRun (.of 3 0) (slot0 3), []⟩ 0).readStore []).verifySlot 0 = 0 :=
  ⟨image_verifies _ (by decide +kernel) (by decide +kernel) (by decide +kernel) hb, image_verifies _ (by decide +kernel) (by decide +kernel) (by decide +kernel) hb⟩
theorem test_w_MortarCompletes_activate : ok [
    wit (moRun (.of 3 0) { slot0 3 with store := { (slot0 3).store with slots := [⟨3, 0, 2, [], false, false, none⟩, .empty] } }) (.activateComplete 0 [] true)
      (fun _ d => (d.readStore []).verifySlot 0 != 0) (fun _ _ e => (e.slot 0).state == 5 && (e.slot 0).reason == 0x12)] := by
  decide +kernel

/-- LiveAndScrub: a packet without a table for group 3, and its signature. -/
def packetBytes : Mem :=
  Mem.writeBytes (Mem.writeBytes [] 0 (leBytes 4 0x4D4F5254 ++ leBytes 2 3 ++ leBytes 2 1 ++ leBytes 4 0x170 ++ leBytes 4 0x0C120000 ++ leBytes 8 0 ++ leBytes 4 0 ++ leBytes 4 0))
    0x100 (leBytes 4 4 ++ leBytes 4 0x110 ++ leBytes 4 0 ++ leBytes 4 (crc32c []))
def packetSig : Nat := 0xbbba1f013c2e539203a920ce2d3587d41ef30e50f4db7ba19cb620bac74dc5490b119b01cf8cc1a390a4ba87f464b132
def packetKey : Nat :=
  0xe922a0544d1785d24440764a34fc4bcc3a52b0f6bd1b226b55f166a7d8e75babe0741e35c49e666b116b7700797dec4bab954db407caf24d396fabec3981419a31404bcd97ba5b7fba4603ba382535ed67f0b042a9bc763953504e981266be1f
def livePacket (sect : Nat) : Packet := ⟨0, sect, 8, 0, [], none, 0x170, 0, false, false⟩
def liveDev (st : Nat) (sect : Nat) (m : Mem) : Dev :=
  { (regs [(F.MO_LIVE_STATE, 0, 0, st), (F.MO_CMD_BUSY, 0, 0, 1)] stored) with
    mo := { stored.mo with live := some ⟨livePacket sect, m, []⟩ }
    store := { stored.store with recs := stored.store.recs.map fun r => { r with keys := [some ⟨packetKey, false⟩, none, none, none] } } }
theorem test_w_LiveAndScrub : ok [
    witEq (liveDev 1 4 []) (.liveVerifyComplete 0) (fun _ d => d.mo.live.all fun l => d.verify l.bytes false true (d.packetOk l.packet) == 0x12) (fun d => d.refuseLive 0x12),
    witEq (liveDev 2 4 packetBytes) (.liveOverlayCommit 0 [⟨.slot 1, true⟩]) (fun _ d => d.mo.live.isSome && d.get F.MO_LIVE_STATE == 2 && d.grps.length == 4) (fun d => d.refuseLive 0xE),
    wit (liveDev 2 4 packetBytes) (.liveOverlayCommit 0 []) (fun _ d => d.mo.live.isSome && d.get F.MO_LIVE_STATE == 2 && d.grps.length == 4)
      (fun _ d e => e.get F.MO_LIVE_STATE == 3 && e.store == (d.appendPacket { livePacket 4 with committed := true }).store &&
        (e.grp 3).newTables.isSome && (e.grp 0).newTables.isNone),
    witEq stored (.scrubPass 0 []) (fun _ d => d.ready F.GL_READY_STORE && decide (d.now < d.mo.scrubAt + d.scrubTicks)) id,
    wit (at' 43200000000000 (recording [aRec] stored)) (.scrubPass 0 (⟨.setting 0 0, true⟩ :: ⟨.slotId 1, true⟩ :: List.replicate 300 ⟨.slot 0, false⟩))
      (fun _ d => d.ready F.GL_READY_STORE && decide (d.mo.scrubAt + d.scrubTicks ≤ d.now) && d.store.slots.length == 2)
      (fun _ d e => e.get F.MO_SCRUB_CORR == 255 && e.get F.MO_SCRUB_UNCORR == 2 && (nth e.store.halves 0 ⟨0, false, []⟩).recs.map (·.bad) == [true] &&
        e.slot 0 == d.slot 0 && (e.slot 1).state == 6)] := by decide +kernel
/-- LiveAndScrub: the packet passes, and one of a section of the image alone is refused by class. -/
theorem packet_signed : imgSigned (Mem.writeBytes packetBytes 272 (sigBytes packetSig)) packetKey = true := by decide +kernel
def signedPacket : Mem := Mem.writeBytes packetBytes 272 (sigBytes packetSig)
theorem packet_form : headerCheck signedPacket true = 0 ∧ imgKeyidx signedPacket = 0 ∧ imgSecver signedPacket = 0 ∧ sectionsOk signedPacket = true := by decide +kernel
theorem packet_verifies (d : Dev) (hk : d.ringKey 0 = some ⟨packetKey, false⟩) (hf : d.store.floor = 0) : d.verify signedPacket false true true = 0 := by
  obtain ⟨h1, h2, h3, h4⟩ := packet_form
  have hs : imgSigned signedPacket packetKey = true := packet_signed
  simp only [Dev.verify, h1, h2, hk, hs, h3, h4, hf]
  simp
theorem test_w_LiveAndScrub_packet : ∀ d ∈ [State.seen ⟨liveDev 1 4 signedPacket, []⟩ 0, State.seen ⟨liveDev 1 2 signedPacket, []⟩ 0],
    d.get F.MO_LIVE_STATE = 1 ∧ d.verify signedPacket false true (d.packetOk (livePacket 4)) = 0 ∧ d.verify signedPacket false true (d.packetOk (livePacket 2)) = 0 ∧
    d.liveCheck (livePacket 4) = 0 ∧ d.liveCheck (livePacket 2) = 0x0C := by
  intro d hd
  have hk : d.ringKey 0 = some ⟨packetKey, false⟩ ∧ d.store.floor = 0 ∧ d.packetOk (livePacket 4) = true ∧ d.packetOk (livePacket 2) = true ∧
      d.get F.MO_LIVE_STATE = 1 ∧ d.liveCheck (livePacket 4) = 0 ∧ d.liveCheck (livePacket 2) = 0x0C := by
    revert d; decide +kernel
  obtain ⟨k, f, p, q, s, a, b⟩ := hk
  rw [p, q]
  exact ⟨s, packet_verifies d k f, packet_verifies d k f, a, b⟩

/-- A decision's witness: group 3 in channel 2. -/
def witG (k : Nat) (late : Bool) (md : ModeCfg) (tb : GroupTables) (x : GridSt) (c : Instr) (hyp : Dev → GCtx → GridSt → Bool) (res : GridSt → GridSt → Bool) : Bool :=
  wit (deciding k late md tb x) c (fun _ d => decide (d.deciding 3 2 late (cyc k late tb)) && hyp d (d.gctx 3 (cyc k late tb)) (d.ctl 2 3))
    (fun _ d e => res (d.ctl 2 3) (e.ctl 2 3))

/-- DecisionReachesChannels. -/
theorem test_w_DecisionReachesChannels : ok [decide ((deciding 0 true allModes .standard .init).deciding 3 2 true (cyc 0 true .standard)),
    decide ((deciding 7 false allModes .standard .init).deciding 3 2 false (cyc 7 false .standard))] := by decide +kernel

/-- SyncAndFeedback. -/
def syncSt (f : SyncSt → SyncSt) : GridSt := { GridSt.init with sync := f .init }
def fbSt (n : Nat) (f : FbSt → FbSt) : GridSt := { GridSt.init with fb := setNth GridSt.init.fb n (f .init) }
def lock5 : GroupTables := { GroupTables.standard with control := { GroupControl.standard with sync := { SyncCfg.standard with lockN := 5 } } }
def hold5 : GroupTables := { GroupTables.standard with control := { GroupControl.standard with cur := { CurCfg.standard with fbHold := 5 } } }
theorem test_w_SyncAndFeedback : ok [
    witG 0 false allModes lock5 (syncSt fun y => { y with lockRun := 5 }) (.syncLock 0 3) (fun _ c x => c.gc.sync.lockN ≤ x.sync.lockRun && c.gc.sync.lockN == 5 && !x.sync.fly) (fun _ y => y.sync.locked),
    witG 0 false allModes lock5 (syncSt fun y => { y with locked := true, unlockRun := 16 }) (.syncUnlock 0 3) (fun _ _ x => decide (16 ≤ x.sync.unlockRun)) (fun _ y => !y.sync.locked),
    witG 0 false allModes lock5 (syncSt fun y => { y with fly := true, flyRun := 2 }) (.flywheelClear 0 3) (fun _ _ x => x.sync.fly && decide (2 ≤ x.sync.flyRun)) (fun _ y => !y.sync.fly),
    witG 0 false allModes hold5 (fbSt 3 fun y => { y with hold := true, holdRun := 6 }) (.feedbackHoldExpiry 0 3 3) (fun _ c x => x.fb.length == 4 && holdExpired c x 3) (fun _ y => (y.fbAt 3).raised),
    witG 0 false allModes hold5 (fbSt 3 fun y => { y with alt := true, primRun := 64 }) (.feedbackPrimaryReturn 0 3 3) (fun _ _ x => x.fb.length == 4 && (x.fbAt 3).alt && decide (64 ≤ (x.fbAt 3).primRun)) (fun _ y => !(y.fbAt 3).alt),
    witG 0 false allModes hold5 (fbSt 0 fun y => { y with diffRun := 16 }) (.feedbackDisagreement 0 3 0) (fun _ _ x => x.fb.length == 4 && !(x.fbAt 0).disagreed && decide (16 ≤ (x.fbAt 0).diffRun)) (fun _ y => (y.fbAt 0).disagreed)] := by
  decide +kernel

/-- RideThrough. -/
def ride1 : GroupTables := curvesOf fun c => { c with curves := [⟨false, 2, 100, [(0, one)]⟩], ride := { c.ride with enterN := 3, dcEnterN := 3, exitN := 4 }, recov := { c.recov with rideRepeat := 1 } }
def rideSt (m : Mode) (f : RideSt → RideSt) : GridSt := { (inMode m) with ride := f .init }
theorem test_w_RideThrough : ok [
    witG 0 false allModes ride1 (rideSt .follow fun r => { r with acRun := 3 }) (.rideEntry 0 3)
      (fun _ c x => !c.chopperOnly && !x.m.auto && !dcMet c x && entryDue c x && autoEnabled c x.m.mode .acRide && decide ((recentEntries c x).length < c.cv.recov.rideRepeat))
      (fun x y => y.m.mode == .acRide && y.m.cause == 1 && y.m.prev == .follow && y.m.ret == .follow && x.m.mode == .follow),
    witG 0 false allModes ride1 (rideSt .acRide fun r => { r with dcRun := 3 }) (.rideEntry 0 3) (fun _ c x => !c.chopperOnly && dcMet c x && entryDue c x && autoEnabled c x.m.mode .dcRide)
      (fun x y => y.m.mode == .dcRide && y.m.ret == x.m.ret),
    witG 0 false allModes ride1 (rideSt .acRide fun r => { r with curveRuns := [2, 0, 0, 0] }) (.rideCurveTrip 0 3) (fun _ c x => !c.chopperOnly && !x.m.auto && curveTripped c x == some 0)
      (fun _ y => y.m.mode == .blocked && y.m.cause == 5 && y.ride.tripCurve == 0),
    witG 1 false allModes ride1 (rideSt .acRide fun r => r) (.rideTmax 0 3) (fun _ c x => !c.chopperOnly && !x.m.auto && tmaxReached c x) (fun _ y => y.m.mode == .blocked && y.ride.tripCurve == 4),
    witG 0 false allModes ride1 { (rideSt .acRide fun r => { r with exitRun := 4 }) with m := { ModeSt.init with mode := .acRide, ret := .harvest } } (.rideExit 0 3)
      (fun _ c x => !c.chopperOnly && !x.m.auto && curveTripped c x == none && !tmaxReached c x && decide (c.cv.ride.exitN ≤ x.ride.exitRun) && autoEnabled c x.m.mode x.m.ret)
      (fun _ y => y.m.mode == .harvest && y.m.cause == 2 && y.loop.recovP)] := by decide +kernel

/-- SeatIslandingAndTimedEnds. -/
def isl1 : GroupTables := curvesOf fun c => { c with isl := { c.isl with aiEn := true, aiPeriod := 6 }, harv := { c.harv with trkDiv := 2, scanPeriod := 1, scanHi := 50, scanLo := 20 } }
def isl2 : GroupTables := curvesOf fun c => { c with isl := { c.isl with action := 1 } }
def found : GridSt := { (inMode .follow) with isl := { IslSt.init with due := true } }
def isling (c : GCtx) (x : GridSt) : Bool := !c.chopperOnly && !x.m.auto && x.isl.due && !entryDue c x && !x.sync.seatDue && x.m.mode == .follow
theorem test_w_SeatIslandingAndTimedEnds : ok [
    decide (∀ x ∈ [({ (inMode .follow) with sync := { SyncSt.init with seatDue := true, eFast := 12345 } } : GridSt)], (deciding 0 false allModes isl1 x).deciding 3 2 false (cyc 0 false isl1) ∧
      ((deciding 0 false allModes isl1 x).gctx 3 (cyc 0 false isl1)).chopperOnly = false ∧ ((deciding 0 false allModes isl1 x).ctl 2 3).sync.seatDue = true),
    witG 0 false allModes isl1 found (.islandingDetected 0 3) (fun _ c x => c.cv.isl.action == 0 && isling c x && autoEnabled c x.m.mode .blocked)
      (fun _ y => y.m.mode == .blocked && y.m.cause == 4 && y.isl.action == 1 && !y.isl.due),
    witG 0 false allModes isl2 found (.islandingDetected 0 3) (fun _ c x => c.cv.isl.action != 0 && isling c x && autoEnabled c x.m.mode .form)
      (fun _ y => y.m.mode == .form && y.m.cause == 3 && y.isl.action == 2),
    witG 0 false { allModes with transAuto := [] } isl2 found (.islandingDetected 0 3) (fun _ c x => isling c x && !autoEnabled c x.m.mode .form && !autoEnabled c x.m.mode .blocked)
      (fun _ y => y.m.mode == .follow && y.isl.action == 3),
    witG 0 true allModes isl1 { (inMode .follow) with isl := { IslSt.init with zDue := true, conf := 3 } } (.islandingPulse 0 3)
      (fun _ _ x => x.isl.zDue && x.isl.zNext == none) (fun x y => !y.isl.zDue && y.isl.conf == 0 && y.isl.z == x.isl.z),
    witG 0 true allModes isl1 { (inMode .follow) with isl := { IslSt.init with zDue := true, zNext := some one, conf := 3 } } (.islandingPulse 0 3)
      (fun _ c x => x.isl.zDue && x.isl.zNext == some one && decide (c.cv.isl.zTh < one)) (fun _ y => !y.isl.zDue && y.isl.conf == 4 && y.isl.z == one),
    witG 20000 false { allModes with disTimeout := 2 } isl1 (inMode .discharge) (.dischargeTimeout 0 3)
      (fun _ c x => !x.m.auto && decide (500000000 * c.md.disTimeout ≤ (c.inp.k - x.m.entryK) * c.l) && c.l == 50000) (fun _ y => y.m.mode == .blocked && y.m.cause == 7),
    witG 9 false { allModes with ltHold := 1 } isl1 { GridSt.init with m := { ModeSt.init with mode := .lineTest, ltHeld := 10 } } (.lineTestHoldEnd 0 3)
      (fun _ c x => !x.m.auto && decide (0 < x.m.ltHeld) && decide (msTicks c.md.ltHold ≤ x.m.ltHeld * c.l)) (fun _ y => y.m.mode == .blocked && y.m.cause == 8 && y.m.ltOutcome == 1),
    witG 0 true allModes isl1 { (inMode .follow) with fade := { FadeSt.init with f := 4, k := 4 } } (.fadeEnd 0 3) (fun _ _ x => x.fade.f != 0 && x.fade.left == 0 && decide (x.fade.f ≤ x.fade.k)) (fun _ y => y.fade.f == 0),
    witG 0 true allModes isl1 { (inMode .harvest) with harv := { HarvSt.init with pSum := [one, one] } } (.harvestTrackStep 0 3)
      (fun _ c x => !c.cv.harv.perBrick && !x.harv.frozen && decide (0 < c.cv.harv.trkDiv) && decide (c.cv.harv.trkDiv ≤ x.harv.pSum.length)) (fun x y => y.harv.pSum == [] && y.harv.pPrev == meanPower x.harv.pSum),
    witG 0 true allModes isl1 { (inMode .harvest) with harv := { HarvSt.init with sincescan := 600000 } } (.harvestScanPeriod 0 3)
      (fun _ c x => !c.cv.harv.perBrick && scanRefusal x == 0 && c.cv.harv.scanPeriod != 0 && decide (60 * 500000000 * c.cv.harv.scanPeriod ≤ x.harv.sincescan * c.ld))
      (fun _ y => y.harv.scanning && y.harv.vTgt == 50 && y.harv.sincescan == 0),
    witG 0 true allModes isl1 { (inMode .harvest) with harv := { HarvSt.init with scanning := true, vTgt := 20, bestV := 33 } } (.harvestScanEnd 0 3)
      (fun _ c x => x.harv.scanning && decide (x.harv.vTgt ≤ c.cv.harv.scanLo)) (fun _ y => !y.harv.scanning && y.harv.vTgt == 33)] := by decide +kernel

/-- GroupOrders. -/
def bind (w : Nat) : SpBind :=
  { word := w, pulse := false, lm := 0, entry := 0, evt := 0, rawLo := 0, rawHi := 1, spLo := 0, spHi := 0, lossLo := 0, lossHi := 1, lossTime := 0, useFallback := false, fallback := 0, lossFault := 0, returnN := 1 }
def bound (l : List Nat) (h : GroupHub) : GroupHub := { h with tables := { GroupTables.standard with formats := { Formats.none with binds := l.map bind } } }
def words64 : List Nat := List.range 64
def harvesting (f : HarvSt → HarvSt) (pb : Bool) : Dev :=
  plant (fun h => { h with tables := curvesOf fun c => { c with harv := { c.harv with perBrick := pb } } }) body1
    (regs [(F.GP_MODE_MODE, 3, 0, 7)] { opened with chans := setNth opened.chans 0 { Chan.init with grps := setNth Chan.init.grps 3 ⟨{ inMode .harvest with harv := f .init }, [], [], []⟩ } })
theorem test_w_GroupOrders : ok [
    wit (plant (bound words64) body1 opened) (.setpointCommit 0 0 3 0xFFFF)
      (fun _ d => (d.refusal 0 true 0xA8E00).isNone && (d.grp 3).built && (d.badWord 3).isNone && (d.grp 3).spPending.isNone && d.grps.length == 4)
      (fun _ d e => (e.grp 3).spPending == some (d.now, 0xFFFF, d.spShadow 3) && e.on F.GP_SP_STATUS_PENDING 3 && e.get F.GP_SP_STATUS_SUPERSEDED 3 == 0),
    wit (plant (fun h => { (bound words64 h) with spPending := some (1000000, 3, []) }) body1 opened) (.setpointCommit 0 0 3 4)
      (fun _ d => ((d.modGrp 3 (GroupHub.settleDue d.now)).grp 3).spPending.isSome && (d.badWord 3).isNone) (fun _ _ e => e.get F.GP_SP_STATUS_SUPERSEDED 3 == 1),
    wit (plant (bound words64.tail) body1 (regs [(F.GP_SP_SHADOW_VALUE, 3, 0, 0x7FFFFFFF)] opened)) (.setpointCommit 0 0 3 4)
      (fun _ d => (d.modGrp 3 (GroupHub.settleDue d.now)).badWord 3 == some 0) (fun _ _ e => e.get F.GP_SP_STATUS_RESULT 3 == 1 && e.get F.GP_SP_STATUS_BAD_WORD 3 == 0),
    wit (plant (fun h => { h with cmd := some ⟨3, 77, false⟩, cmdTick := 1000000 }) body1 (regs [(F.GP_MODE_MODE, 3, 0, 4)] opened)) (.modeCommand 0 0 3 2 9)
      (fun _ d => (d.refusal 0 true 0xA0304).isNone && ((d.modGrp 3 (GroupHub.settleDue d.now)).grp 3).cmd == some ⟨3, 77, false⟩ &&
        (match (d.modGrp 3 (GroupHub.settleDue d.now)).modeChecks 3 2 with | .ok c => !c | _ => false))
      (fun _ d e => (e.grp 3).cmd == some ⟨2, 9, false⟩ && e.on F.GP_MODE_STATUS_PENDING 3 && e.get F.GP_MODE_MODE 3 == d.get F.GP_MODE_MODE 3 && e.get F.GP_MODE_STATUS_RESULT 3 == rSuperseded && e.get F.GP_MODE_STATUS_TAG 3 == 77),
    wit (plant id body1 opened) (.modeCommand 0 0 3 8 9) (fun _ d => (match (d.modGrp 3 (GroupHub.settleDue d.now)).modeChecks 3 8 with | .error c => c == rBadMode | _ => false))
      (fun _ _ e => e.get F.GP_MODE_STATUS_RESULT 3 == rBadMode && e.get F.GP_MODE_STATUS_TAG 3 == 9 && e.get F.GP_REFUSALS_COUNT 3 == 1),
    witEq (harvesting id false) (.harvestScan 0 0 3)
      (fun _ d => (d.refusal 0 true 0xA4354).isNone && d.gpMode 3 == 7 && scanRefusal (d.shownCtl 3) == 0 && !(d.grp 3).tables.cv.harv.perBrick)
      (fun d => (d.set F.GP_HARVEST_CMD_RESULT 0 3).modGrp 3 fun h => { h with scan := true }),
    witEq (harvesting id true) (.harvestScan 0 0 3)
      (fun _ d => d.gpMode 3 == 7 && scanRefusal (d.shownCtl 3) == 0 && (d.grp 3).tables.cv.harv.perBrick) (fun d => (d.set F.GP_HARVEST_CMD_RESULT 0 3).writeBricks 3 0x40 1),
    witEq (harvesting (fun y => { y with curtailed := true }) false) (.harvestScan 0 0 3)
      (fun _ d => d.gpMode 3 == 7 && scanRefusal (d.shownCtl 3) == 2) (fun d => d.set F.GP_HARVEST_CMD_RESULT 2 3),
    witEq (plant fun h => { (bound [0] h) with spSrc := [{ SpSt.init with lost := true }] }) (.setpointSourceLoss 0 3) (fun _ d => (d.grp 3).built) (fun d => d.sourceFaults 3),
    wit (plant fun h => { (bound [0] h) with spSrc := [{ SpSt.init with lost := true, run := 1 }] }) (.setpointSourceReturn 0 3 0) (fun _ d => (d.grp 3).built && ((d.grp 3).tables.fm.binds[0]?).isSome)
      (fun _ _ e => !(nth (e.grp 3).spSrc 0 .init).lost)] := by decide +kernel

/-- ArmsAndBricks. -/
def armCyc : GCycle := { (cyc 5 true { GroupTables.standard with control := { GroupControl.standard with arm := { ArmCfg.standard with vbarN := 4, ovmN := 3 } } }) with armDone := true }
def armDev (a : ArmSt) : Dev :=
  let d := plant
  { d with chans := List.replicate 3 { Chan.init with grps := setNth Chan.init.grps 3 ⟨.init, [armCyc], [], [(11, a)]⟩ } }
def brickDev (k : BrickSt) : Dev :=
  let d := plant
  { d with chans := List.replicate 3 { Chan.init with tiles := setNth Chan.init.tiles 11 ⟨[], { RankSt.init with bricks := [(3, k)] }⟩ } }
def armHyp (d : Dev) : Bool := d.tileGroup 11 == some 3 && d.computes 2 11 && ((d.cg 2 3).cycles.filter (·.armDone)).getLast? == some armCyc
def brickHyp (k : BrickSt) (d : Dev) : Bool := d.brickIndex 8067 == some (11, 3) && d.groupOf 63 == some 3 && decide (d.brickOf 2 11 3 k)
theorem test_w_ArmsAndBricks : ok [
    wit (armDev { ArmSt.init with vbarRun := 4 }) (.armEnergyFault 0 11) (fun _ d => armHyp d && (d.gctx 3 armCyc).gc.arm.vbarN == 4)
      (fun _ _ e => tabGet (e.cg 2 3).arms 11 == some { ArmSt.init with vbarRun := 4, energyHeld := true }),
    wit (armDev { ArmSt.init with ovmRun := 3 }) (.overmodulationFault 0 11) (fun _ d => armHyp d && (d.gctx 3 armCyc).gc.arm.ovmN == 3)
      (fun _ _ e => tabGet (e.cg 2 3).arms 11 == some { ArmSt.init with ovmRun := 3, ovmMark := 3 }),
    wit (brickDev { BrickSt.blank with slot := some 0, parkDue := 2 }) (.brickAbsent 0 8067) (fun _ d => brickHyp { BrickSt.blank with slot := some 0, parkDue := 2 } d)
      (fun _ d e => tabGet (e.ctile 2 11).rank.bricks 3 == some (parkBrick ((d.grp 3).openTick + quarterUs (d.grp 3).cfg.de + halfUs (d.grp 3).cfg.lead) { BrickSt.blank with slot := some 0, parkDue := 2 })),
    wit (brickDev { BrickSt.blank with slot := some 0, parkDue := 3 }) (.echoPark 0 8067) (fun _ d => brickHyp { BrickSt.blank with slot := some 0, parkDue := 3 } d)
      (fun _ d e => tabGet (e.ctile 2 11).rank.bricks 3 == some (parkBrick ((d.grp 3).openTick + quarterUs (d.grp 3).cfg.de + halfUs (d.grp 3).cfg.lead) { BrickSt.blank with slot := some 0, parkDue := 3 })),
    witEq (brickDev { BrickSt.blank with slot := some 0, admitting := true, admitRun := 64 }) (.admissionFail 0 8067)
      (fun _ d => brickHyp { BrickSt.blank with slot := some 0, admitting := true, admitRun := 64 } d && admissionOver 3 (d.shownRank 11)) (fun d => (d.handBack 3 11 3).orderNow 3 11)] := by
  decide +kernel

/-- CyclePoints. -/
def shownDev : Dev :=
  let d := plant fun h => { h with drK := some 5 }
  { d with chans := setNth d.chans 0 { Chan.init with grps := setNth Chan.init.grps 3 ⟨.init, [], [⟨5, { ModeSt.init with mode := .blocked, cause := 3, result := some (6, 99) }, 0, 0, .zero, .zero, false, 0⟩], []⟩ } }
theorem test_w_CyclePoints : ok [
    wit (plant fun h => { h with cmd := some ⟨2, 9, false⟩, cmdTick := 1049999 }) (.cycleOpening 3) (fun _ d => d.grps.length == 4 && (d.grp 3).built && decide ((d.grp 3).cmdTick < (d.grp 3).nextOpen))
      (fun _ _ e => (e.grp 3).k == 6 && (e.grp 3).openTick == 1050000 && e.now == 1050000 && (e.grp 3).latched == some ⟨2, 9, false⟩ && (e.grp 3).cmd == none),
    wit (plant fun h => { h with started := false, anchor := 1000000 }) (.cycleOpening 3) (fun _ d => (d.grp 3).built && (d.grp 3).cmd.isNone) (fun _ _ e => (e.grp 3).k == 0 && (e.grp 3).started && (e.grp 3).latched == none),
    wit plant (.intakeCutoff 3) (fun _ d => (d.grp 3).started) (fun _ d e => e.now == 1000000 + 5000 - 250 && e.grp 2 == d.grp 2 && (e.grp 3).lmK == some 5),
    witEq (plant fun h => { h with lmK := some 5, lmHeld := [(1, 2, true)] }) (.intakeCutoff 3) (fun _ d => (d.grp 3).lmK == some (d.grp 3).k) (fun d => d.until' 1004750),
    witEq (plant fun h => { h with drK := some 5 }) (.reportDeadline 3) (fun _ d => (d.grp 3).started && (d.grp 3).drK == some (d.grp 3).k) id,
    witEq (plant fun h => { h with deK := some 5 }) (.emissionDeadline 3) (fun _ d => (d.grp 3).started && (d.grp 3).deK == some (d.grp 3).k) id,
    wit plant (.reportDeadline 3) (fun _ d => (d.grp 3).started && (d.grp 3).drK != some (d.grp 3).k && d.computesAny 2) (fun _ _ e => (e.grp 3).drK == some 5 && e.now == 1005000 && ((e.cg 2 3).cycles.getLast?.map fun y => (y.inp.k, y.condDone)) == some (5, false)),
    wit shownDev (.emissionDeadline 3) (fun _ d => (d.grp 3).started && (d.grp 3).deK != some (d.grp 3).k && d.reporting == some 0)
      (fun _ _ e => (e.grp 3).deK == some 5 && e.now == 1030000 && e.gpMode 3 == 2 && e.get F.GP_MODE_CAUSE 3 == 3 && e.get F.GP_MODE_STATUS_RESULT 3 == 6 && e.get F.GP_MODE_STATUS_TAG 3 == 99)] := by
  decide +kernel

/-- StagesAndVote. -/
def job5 (n did : Nat) : Job := { k := 5, next := n, did := did, present := [], words := [], cands := [], count := 0, frac := 0, bound := 0, nrank := 0, onLen := 0, sign := true, blocked := true, discharge := false, e := 1042500, opening := 1000000 }
def jobDev (j : Job) (v : VoteSt) : Dev :=
  let d := plant id body1 (regs [(F.TP_CFG_LATE_N, 0, 0, 3)])
  { d with chans := List.replicate 3 { Chan.init with tiles := setNth Chan.init.tiles 11 ⟨[j], .init⟩ }, tp := { d.tp with votes := [(11, v)] } }
def someSet : FrameSet := ⟨1, 5, 0, []⟩
theorem test_w_StagesAndVote : ok [
    wit (jobDev (job5 5 5) .init) (.stageComplete 0 2 11 5) (fun _ d => d.tileGroup 11 == some 3 && (d.ctile 2 11).current == some (job5 5 5) && d.computes 2 11)
      (fun _ _ e => (e.ctile 2 11).jobs.map (fun y => (y.k, y.next)) == [(5, 6)]),
    wit (jobDev (job5 6 6) { VoteSt.init with k := 5 }) (.frameSetComplete 0 2 11 0)
      (fun _ d => (d.ctile 2 11).jobs.head? == some (job5 6 6) && (d.effectsTo 2 3 11 5 5 == d) && d.chState 2 == 1 && (d.vote 11).closed && decide (nth (d.vote 11).lateRuns 2 0 + 1 < d.get F.TP_CFG_LATE_N))
      (fun _ d e => e.get F.TP_VOTE_LATE 2 == 1 && e.getI F.PL_SLACK_LAST 11 2 == clampI (-32767) 32767 ((1042500 : Int) - 25000 - 150 - d.now)),
    wit (jobDev (job5 6 6) { VoteSt.init with k := 5, closed := false, released := some someSet }) (.voterCutoff 11)
      (fun _ d => d.tileGroup 11 == some 3 && (d.grp 3).started && !(d.vote 11).closed && (d.vote 11).k == (d.grp 3).k)
      (fun _ d e => (e.vote 11).closed && e.now == 1000000 + 30000 - 150 && (e.vote 11).released == some someSet && e.get F.PL_MISSES_COUNT 11 == d.get F.PL_MISSES_COUNT 11),
    wit (jobDev (job5 6 6) { VoteSt.init with k := 5, closed := false }) (.frameSetComplete 0 2 11 0)
      (fun _ d => (d.ctile 2 11).jobs.head? == some (job5 6 6) && (d.effectsTo 2 3 11 5 5 == d) && !d.exempt 2 3 && !(d.vote 11).closed && (d.vote 11).k == 5)
      (fun _ _ e => (e.vote 11).sets.map (fun x => (x.ch, x.k)) == [(2, 5)] && (e.ctile 2 11).jobs == []),
    wit (shadowing 2 (jobDev (job5 6 6) { VoteSt.init with k := 5, closed := false })) (.frameSetComplete 0 2 11 0)
      (fun _ d => (d.ctile 2 11).jobs.head? == some (job5 6 6) && (d.effectsTo 2 3 11 5 5 == d) && d.exempt 2 3)
      (fun _ _ e => (e.vote 11).sets == [] && (e.ctile 2 11).jobs == []),
    wit (jobDev (job5 6 6) { VoteSt.init with k := 5, closed := false }) (.voterCutoff 11)
      (fun _ d => ((((d.until' 1029850).judgeDigests 11 true).voteAll).vote 11).released.isNone && ((((d.until' 1029850).judgeDigests 11 true).voteAll).bridging 11).isNone &&
        (((d.until' 1029850).judgeDigests 11 true).voteAll).triplex == 1)
      (fun _ _ e => (e.vote 11).closed && e.on F.PL_STATUS_MISSED 11 && e.get F.PL_MISSES_COUNT 11 == 1 && e.get F.PL_STATUS_CONSEC 11 == 1)] := by decide +kernel

/-- StagesAndVote: what is released, in each state of the triplex. -/
def voting (st : Nat) (l : List FrameSet) : Dev := regs [(F.TP_STATE_STATE, 0, 0, st), (F.TP_CFG_AUTO_RESYNC, 0, 0, 0), (F.TP_CFG_FENCE_MAX, 0, 0, 8)] (jobDev (job5 6 6) { VoteSt.init with k := 5, closed := false, sets := l })
theorem test_w_StagesAndVote_sets : ok [
    (let d := voting 1 [⟨0, 5, 7, []⟩, ⟨1, 5, 8, []⟩, ⟨2, 5, 7, []⟩]; d.releasable 11 == some ⟨0, 5, 7, []⟩ && ((d.release 11 ⟨0, 5, 7, []⟩).vote 11).released == some ⟨0, 5, 7, []⟩ &&
      ((d.vote 11).sets.filter fun x => !x.same ⟨0, 5, 7, []⟩).map (·.ch) == [1] && d.inService 1 && (d.voteTile 11).chState 1 == 2 && (d.voteTile 11).get F.TP_CH_CAUSE 1 == 1),
    (let d := voting 1 [⟨0, 5, 7, []⟩, ⟨1, 5, 7, []⟩]; (d.releasable 11).isSome && (d.voteTile 11 == d.release 11 ⟨0, 5, 7, []⟩)),
    (let d := voting 2 [⟨0, 5, 7, []⟩, ⟨2, 5, 8, []⟩]; (d.releasable 11).isNone && (d.voteTile 11 == d)),
    (let d := voting 3 [⟨2, 5, 8, []⟩]; d.releasable 11 == (d.setsOf 11).head? && (d.releasable 11).isSome),
    (let d := voting 4 [⟨0, 5, 7, []⟩]; (d.releasable 11).isNone),
    (let d := voting 1 []; d.chState 1 == 1 && !d.on F.TP_CFG_AUTO_RESYNC && (d.minority 1).get F.TP_CH_STRIKES 1 == 1)] := by decide +kernel

/-- Supplies. -/
def slackDev : Dev :=
  let d := plant (fun h => { h with k := 1023 }) body1 (regs [(F.GL_VADAPT_EN, 0, 0, 1), (F.GL_VADAPT_UP_BELOW, 0, 0, 50), (F.GL_VADAPT_DOWN_ABOVE, 0, 0, 150), (F.PL_SLACK_WMIN, 11, 0, 249),
    (F.GL_VCORE_CMD, 0, 0, 800), (F.GL_VLIMITS_VMIN, 0, 0, 700), (F.GL_VLIMITS_VMAX, 0, 0, 805)])
  { d with tp := { d.tp with votes := [(11, { VoteSt.init with fresh := [false, true, true] })] }, pm := { d.pm with mode := [some 0x16, some 0x16, some 0x16] } }
/-- VHUB 2 % above its range and more, VRET more than 2 % below it. -/
def lowVret : List Nat := [867001, 900000, 1200000, 1800000, 3300000, 1800000, 1675799]
theorem test_w_Supplies : ok [
    witEq (at' 50000 base) (.supplyOutOfRange 0 lowVret 500) (fun _ _ => railsLow lowVret == 0x40 && railsHigh lowVret == 1) (fun d =>
      ((({ d with pm := { d.pm with supplyAt := d.now } } : Dev).set F.GL_SUPPLY_LOW 0x40).set F.GL_SUPPLY_HIGH 1).cond 0x006 true 0x140),
    witEq base (.supplyOutOfRange 0 lowVret 499) (fun _ _ => true) id,
    (let b : Dev := { base with pins := { base.pins with vio33Low := true } }; !b.brkHold 1 && !b.brkHold 2),
    wit { base with pins := { base.pins with vio33Low := true } } (.supplyRecovered 0) (fun _ d => decide (d.now < d.pm.supplyAt + 50000)) (fun _ _ e => !e.pins.vio33Low),
    wit base (.supplyOutOfRange 0 [867001, 900000, 1200000, 1800000, 1999999, 1800000, 1675799] 499) (fun _ _ => true) (fun _ _ e => e.pins.vio33Low),
    witEq base (.supplyOutOfRange 0 (railRange.map (·.1)) 9000) (fun _ _ => railsLow (railRange.map (·.1)) == 0 && railsHigh (railRange.map (·.1)) == 0) id,
    witEq (at' 50000 base) (.supplyRecovered 0) (fun _ d => decide (d.pm.supplyAt + 50000 ≤ d.now)) (fun d => ((d.set F.GL_SUPPLY_LOW 0).set F.GL_SUPPLY_HIGH 0).cond 0x006 false),
    witEq base (.pmbusWriteResult 0 2 false none) (fun _ _ => true) (fun d => (d.flag F.GL_VCORE_FAIL true 2).cond (0x2D + 2) true 2),
    witEq base (.pmbusWriteResult 0 2 true (some 0x40)) (fun _ _ => decide (32 ≤ (0x40 : Nat))) (fun d => (d.flag F.GL_VCORE_FAIL true 2).cond (0x2D + 2) true 2),
    witEq base (.pmbusWriteResult 0 2 true (some 31)) (fun _ _ => true) (fun d => ({ d with pm := { d.pm with mode := setNth d.pm.mode 2 (some 31) } } : Dev).firstCommand 2),
    wit slackDev (.slackWindowEnd 0 3) (fun _ d => (d.grp 3).started && (d.grp 3).k % 1024 == 1023 && (d.grp 3).tiles.all (fun p => (d.vote p.1).closed && (d.vote p.1).fresh.contains false) &&
        d.railAdapts 0 && d.leastSlack 0 (d.busyTiles.map (·.1)) == some 249 && d.railFree 0 && !nth d.pm.first 0 false && (nth d.pm.mode 0 none).isSome)
      (fun _ _ e => (e.vote 11).fresh == [true, true, true] && e.get F.GL_VCORE_CMD 0 == 805 && e.get F.GL_VCORE_CMD 1 == slackDev.get F.GL_VCORE_CMD 1),
    wit ready' (.vadaptEnable 0 0 9 9) (fun _ d => (d.refusal 0 true 0x80).isNone && d.ready F.GL_READY_JOURNAL) (fun _ _ e => e.on F.GL_VADAPT_EN && e.get F.GL_VADAPT_UP_BELOW == 50 && e.get F.GL_VADAPT_DOWN_ABOVE == 150),
    wit ready' (.vadaptEnable 0 0 9 10) (fun _ d => (d.refusal 0 true 0x80).isNone && d.ready F.GL_READY_JOURNAL) (fun _ _ e => e.get F.GL_VADAPT_UP_BELOW == 9 && e.get F.GL_VADAPT_DOWN_ABOVE == 10),
    wit base (.temperatureReading 0 5 1761) (fun _ _ => true) (fun _ _ e => e.getI F.GL_TEMP_NOW 5 == 1761 && e.getI F.GL_TEMP_PEAK 5 == 1761 && e.on F.FC_COND_COND 5)] := by decide +kernel

/-- Lanes: LPLL windows at the edges of R220 and R221, a receiver before its comma, one in a far-end loop at the end of a fill, and one
after the 4,096th data bit and a comma's 24. -/
def atFill : LineRx := (LineRx.init.scan (lineOf 0xA9 (List.replicate 16 true) ++ List.replicate 12 true ++ List.replicate 12 false)).1
def atSpacing : LineRx := { LineRx.init with cur := some 0x96, data := 4120 }
theorem test_w_Lanes_line : ok [
    (LineRx.init.scan (lineOf 0x96 [])).2 == [.comma 0x96], (LineRx.init.scan (lineOf 0xDD [])).2 == [.comma 0xDD], (atSpacing.scan [true]).2 == [.spacing],
    (atFill.scan [true]).2 == [.fill 16]] := by decide +kernel
theorem test_w_Lanes : ok [
    wit (laneDev .init [(F.TB_LPLL_STAT_LOCKED, 7, 0, 0)]) (.lpllLock 0 7 [1026, 1022, 1024, 1025]) (fun _ d => d.on F.TB_STATUS_PLL_LOCKED && !d.on F.TB_LPLL_STAT_LOCKED 7 &&
        (List.range 4).all fun i => d.lpllWithin 7 (d.now - 1024 * (3 - i)) (nth [1026, 1022, 1024, 1025] i 0) 2)
      (fun _ _ e => e.on F.TB_LPLL_STAT_LOCKED 7 && e.cm.dieUp == [false, true]),
    witEq (laneDev .init [(F.TB_LPLL_STAT_LOCKED, 7, 0, 0)]) (.lpllLock 0 7 [1024, 1024, 1024, 1027]) (fun _ d => !d.lpllWithin 7 (d.now - 1024 * (3 - 3)) 1027 2) id,
    wit (laneDev { LaneSt.init with rx := 4, working := true } []) (.lpllLockLoss 0 7 1007) (fun _ d => d.on F.TB_LPLL_STAT_LOCKED 7 && !d.lpllWithin 7 d.now 1007 16)
      (fun _ _ e => !e.on F.TB_LPLL_STAT_LOCKED 7 && e.on F.TB_LPLL_STAT_LOST 7 && e.get F.TB_LPLL_STAT_LOSSES 7 == 1 && e.on F.FC_COND_COND 0x147 && e.on F.CM_LANE_STAT_TX_IDLE 63 1 && !(e.lane 63 1).working),
    witEq (laneDev { LaneSt.init with rx := 4, working := true } []) (.lpllLockLoss 0 7 1008) (fun _ d => d.lpllWithin 7 d.now 1008 16) id,
    wit (laneDev .init []) (.signalDetected 0 63 1) (fun _ d => !d.nearLoop 63 1 && (d.lane 63 1).rx == 0 && d.get F.CM_LANE_STAT_LOOP 63 1 != 3) (fun _ _ e => e.on F.CM_LANE_STAT_RX_SIGNAL 63 1 && (e.lane 63 1).rx == 2),
    wit (laneDev { LaneSt.init with rx := 4, working := true } []) (.electricalIdleDetected 0 63 0) (fun _ d => !d.nearLoop 63 0) (fun _ _ e => (e.lane 63 0).rx == 0 && !(e.lane 63 0).working),
    wit (laneDev { LaneSt.init with line := atFill } [(F.CM_LANE_STAT_LOOP, 63, 1, 3)]) (.commaReceived 0 63 1 [true]) (fun _ d => d.looping 63 1 && ((d.lane 63 1).line.scan [true]).2 == [.fill 16])
      (fun _ _ e => e.get F.CM_LANE_LOOP_BITERR 63 1 == 16),
    wit (laneDev { LaneSt.init with rx := 2 } []) (.commaReceived 0 63 1 (lineOf 0x96 [])) (fun _ d => !d.looping 63 1 && knownComma 0x96 && (d.lane 63 1).rx == 2) (fun _ _ e => (e.lane 63 1).rx == 3),
    wit (laneDev { LaneSt.init with rx := 3, good := 2 } []) (.commaReceived 0 63 1 (lineOf 0xDD [])) (fun _ d => knownComma 0xDD && (d.lane 63 1).good == 2) (fun _ d e => (e.lane 63 1).rx == 4 && (e.lane 63 1).alignedAt == d.now),
    wit (laneDev { LaneSt.init with rx := 4, working := true } []) (.commaReceived 0 63 1 (lineOf 0xF0 [])) (fun _ d => knownComma 0xF0 && (d.lane 63 1).rx == 4)
      (fun _ _ e => e.on F.CM_LANE_STAT_EIDLE_SEEN 63 1 && (e.lane 63 1).rx == 4 && (e.lane 63 1).working),
    wit (laneDev { LaneSt.init with rx := 4, viol := 3, clean := 15, working := true, line := atSpacing } []) (.commaReceived 0 63 1 [true])
      (fun _ d => !d.looping 63 1 && ((d.lane 63 1).line.scan [true]).2 == [.spacing] && (d.lane 63 1).rx == 4 && (d.lane 63 1).viol == 3 && decide ((d.lane 63 1).clean < 16))
      (fun _ _ e => (e.lane 63 1).rx == 2 && !(e.lane 63 1).working && e.get F.CM_LANE_ERR_ALIGN_LOSS 63 1 == 1 && e.get F.CM_LANE_ERR_SPACING 63 1 == 1),
    wit (laneDev { LaneSt.init with eidleDue := true } []) (.transmitEidle 0 63 1) (fun _ d => (d.lane 63 1).eidleDue) (fun _ _ e => e.out == [.eidle 63 true] && e.on F.CM_LANE_STAT_TX_IDLE 63 1),
    wit (laneDev { LaneSt.init with wakeEnd := some 1000000 } []) (.wakeSequenceEnd 0 63 0) (fun _ d => (d.lane 63 0).wakeEnd == some 1000000 && decide (1000000 ≤ d.now))
      (fun _ d e => (e.lane 63 0).wakeEnd == none && (e.lane 63 0).alignedAt == d.now && e.out == [.idle 63 false 1]),
    (let d := laneDev { up with ended := true, txEnd := 9001000 } [(F.CM_LANE_STAT_TX_IDLE, 63, 1, 0), (F.CM_LANE_STAT_TX_IDLE, 63, 0, 0)]; d.live && d.sending 63 1 && decide ((d.lane 63 1).txEnd < 10 * d.now) && (d.startsAt 63 1 9001000).isNone &&
      clearOfMarks (d.rate 63) (d.lineCt 9001000) (32 * uiUnits (d.rate 63)) && (d.goIdle 63 1).out == d.out ++ [.idle 63 true 1])] := by
  decide +kernel

/-- Loops. -/
def loopDev (n : Nat) : Dev :=
  laneDev { LaneSt.init with rx := 4, working := true, loopSent := [100, 200] } [(F.CM_LANE_STAT_LOOP, 63, 1, n), (F.CM_LANE_STAT_TX_IDLE, 63, 1, 0), (F.CM_CRS_STAT_FOUND, 63, 0, 4), (F.CM_LANE_STAT_LOOP_HOPS, 63, 1, if n = 3 then 3 else 0)]
def enterBack : BitVec 64 := BitVec.ofNat 64 (leNat (Frame.loopWord false 3).bytes)
theorem test_w_Loops : ok [
    wit (loopDev 0) (.loopNearSerial 0 0 63 1) (fun _ d => (d.refusal 0 true (laneCtl 63 1)).isNone && d.loopCheck 63 1 1 0 == 0) (fun _ _ e => e.get F.CM_LANE_STAT_LOOP 63 1 == 1 && !(e.lane 63 1).working),
    wit (loopDev 0) (.loopNearParallel 0 0 63 1) (fun _ d => d.loopCheck 63 1 2 0 == 0) (fun _ _ e => e.get F.CM_LANE_STAT_LOOP 63 1 == 2 && !(e.lane 63 1).working),
    wit (loopDev 0) (.loopFarEnd 0 0 63 1 3) (fun _ d => d.loopCheck 63 1 3 3 == 0) (fun _ _ e => e.get F.CM_LANE_STAT_LOOP 63 1 == 3 && e.get F.CM_LANE_STAT_LOOP_HOPS 63 1 == 3 && e.on F.CM_LANE_CTL_BUSY 63 1 &&
      e.out.getLast? == some (.frame 63 true (.loopWord false 3))),
    wit (loopDev 0) (.holdIdle 0 0 63 1) (fun _ d => d.loopCheck 63 1 4 0 == 0) (fun _ _ e => e.get F.CM_LANE_STAT_LOOP 63 1 == 4 && !(e.lane 63 1).working),
    wit (loopDev 4) (.loopEnd 0 0 63 1) (fun _ d => d.loopCheck 63 1 0 0 == 0) (fun _ _ e => e.get F.CM_LANE_STAT_LOOP 63 1 == 0 && e.get F.CM_LANE_CTL_RESULT 63 1 == 0),
    witEq (loopDev 4) (.loopNearSerial 0 0 63 1) (fun _ d => d.loopCheck 63 1 1 0 == 3) (fun d => d.set F.CM_LANE_CTL_RESULT 3 63 1),
    witEq (loopDev 0) (.loopFarEnd 0 0 63 1 4) (fun _ d => d.loopCheck 63 1 3 4 == 4) (fun d => d.set F.CM_LANE_CTL_RESULT 4 63 1),
    wit (loopDev 3) (.loopWordSend 0 63 1 1024) (fun _ d => d.get F.CM_LANE_STAT_LOOP 63 1 == 3 && !d.on F.CM_LANE_STAT_TX_IDLE 63 1)
      (fun _ d e => e.out == [.idle 63 true 1024, .frame 63 true (.loopWord false 3)] && e.bank == d.bank),
    wit ((loopDev 3).set F.CM_LANE_STAT_TX_IDLE 1 63 1) (.loopWordSend 0 63 1 0) (fun _ d => d.on F.CM_LANE_STAT_TX_IDLE 63 1) (fun _ _ e => e.out == []),
    wit (loopDev 3) (.loopConfirm 0 63 1 enterBack 70000) (fun _ d => d.get F.CM_LANE_STAT_LOOP 63 1 == 3 && loopCommand enterBack.toNat == some (1, 3))
      (fun _ d e => e.get F.CM_LANE_LOOP_RT 63 1 == (d.rxStamp 63 70000 - 100) / 10 && (e.lane 63 1).confirmed && (e.lane 63 1).loopSent == [200]),
    witEq (loopDev 3) (.loopConfirm 0 63 1 0 70000) (fun _ d => (d.lane 63 1).loopSent == [100, 200] && (loopCommand 0).isNone) (fun d => d.modLane 63 1 fun l => { l with loopSent := [200] }),
    wit (at' 500000 (loopDev 3)) (.loopNoAnswer 0 63 1) (fun _ d => !(d.lane 63 1).confirmed && decide ((d.lane 63 1).loopAt + 500000 ≤ d.now)) (fun _ _ e => e.get F.CM_LANE_STAT_LOOP 63 1 == 0 && e.get F.CM_LANE_CTL_RESULT 63 1 == 5)] := by
  decide +kernel

/-- FramesArrive: a frame of a type with its fields, CRC right. -/
def rx (l : List (BitVec 8)) : RxFrame := ⟨withCrc l, false⟩
def markFrame : List (BitVec 8) := leBytes 6 100 ++ [0x80, 0, 7, 0, 0, 0]
def report : List (BitVec 8) := [0x41, 0x80] ++ leBytes 2 8067 ++ leBytes 2 5 ++ leBytes 2 1234 ++ leBytes 2 9 ++ leBytes 2 0
def pointReply : List (BitVec 8) := [0x42, 0, 17, 0] ++ leBytes 2 8067 ++ leBytes 2 0x123 ++ leBytes 4 0xCAFE
theorem test_w_FramesArrive : ok [
    wit (at' 1800000 (laneDev .init [(F.CM_LANE_STAT_TX_IDLE, 63, 1, 0)])) (.timeMarkSend 0) (fun _ d => d.ct % 1800 == 0 && d.sending 63 1 && !nth d.cm.hubBad 1 false) (fun _ _ e => e.out.contains (.frame 63 true (.timeMark 1800000 true 0))),
    witEq (laneDev .init []) (.probeReplyReceived 0 63 1 (rx report) 0) (fun _ d => !d.passes 63 1) id,
    witEq (laneDev up []) (.reportReceived 0 63 1 ⟨report ++ [0, 0, 0, 0], false⟩) (fun _ d => d.passes 63 1 && checkFrame (report ++ [0, 0, 0, 0]) false == .badCrc) (fun d => d.count F.CM_FRM_ERR_CRC 63 1),
    witEq (laneDev up []) (.probeReplyReceived 0 63 1 ⟨report ++ [0, 0, 0, 0], false⟩ 5) (fun _ _ => true) (fun d => d.count F.CM_FRM_ERR_CRC 63 1),
    witEq (laneDev up []) (.ownFrameReturn 0 63 1 ⟨report ++ [0, 0, 0, 0], false⟩) (fun _ _ => true) (fun d => (d.count F.CM_FRM_ERR_CRC 63 1).count F.CM_FRM_ERR_OWN_BAD 63 1),
    wit (laneDev { up with markMiss := 2 } []) (.timeMarkReceived 0 63 0 (rx markFrame) 2000) (fun _ d => d.passes 63 0 && checkMark (rx markFrame).bytes && testBit (fieldLe (rx markFrame).bytes 6 1) 7)
      (fun _ d e => e.get F.CM_FRM_RING_TRANSIT 63 0 == d.rxStamp 63 2000 - 1007 && (e.crs 63).tD == some (d.rxStamp 63 2000 - 1007) && (e.lane 63 0).markMiss == 0),
    witEq (laneDev { up with markMiss := 2 } []) (.ownFrameReturn 0 63 1 (rx ([1] ++ List.replicate 23 0))) (fun _ d => checkFrame (rx ([1] ++ List.replicate 23 0)).bytes false == .ok && (d.crs 63).cycleSent == none)
      (fun d => (d.modLane 63 1 fun l => { l with markMiss := 0 }).refreshCourse 63),
    wit (crsDev { CrsSt.init with cycleSent := some (0, 0) } []) (.ownFrameReturn 0 63 1 (rx ([1] ++ List.replicate 23 0))) (fun _ d => checkFrame (rx ([1] ++ List.replicate 23 0)).bytes false == .ok && (d.crs 63).cycleSent == some (0, 0))
      (fun _ _ e => (e.lane 63 1).markMiss == 0 && (e.crs 63).crossH),
    wit (laneDev up []) (.reportReceived 0 63 1 (rx report)) (fun _ d => checkFrame (rx report).bytes false == .ok && d.groupOf 63 == some 3 && (d.grp 3).started && fieldLe (rx report).bytes 4 2 == (d.grp 3).k % 0x10000 &&
        decide (d.now - (d.grp 3).openTick ≤ quarterUs (d.grp 3).cfg.dr) && (tabGet d.cm.copies 8067).isNone)
      (fun _ _ e => (e.copiesOf 8067).map (fun r => (r.volt, r.echo, r.unavail)) == [(1234, 9, true)]),
    wit (reading aRead (laneDev up [])) (.pointReplyReceived 0 63 1 (rx pointReply)) (fun _ d => checkFrame (rx pointReply).bytes false == .ok && (d.flying 63 1) == [aRead])
      (fun _ _ e => e.out == [.pointData 0 (4 * (8067 * 4096 + 0x123)) [0xCAFE]] && e.cm.reqs == [])] := by decide +kernel

/-- DiscoveryAndWindow. -/
def discReply : List (BitVec 8) := [0x43, 1] ++ leBytes 6 0 ++ leBytes 8 0x123456789A ++ leBytes 4 0
def probeReply : List (BitVec 8) := [0x44, 0, 9, 0] ++ leBytes 2 8067 ++ leBytes 2 0 ++ leBytes 4 1000
theorem test_w_DiscoveryAndWindow : ok [
    wit (crsDev { CrsSt.init with disc := some ⟨0, 2, 0, 999000⟩ } []) (.discoverReplyReceived 0 63 0 (rx discReply)) (fun _ d => d.passes 63 0 && checkFrame (rx discReply).bytes false == .ok && d.nc 63 == 4 && d.entry 63 2 == 0)
      (fun _ _ e => e.entry 63 2 == 1 && (e.crs 63).disc.map (fun q => (q.phase, q.hop, q.rtt)) == some (0, 3, 1000) && e.get F.CM_DIR_W1_UID_LO 63 2 == 0x3456789A && e.get F.CM_DIR_W2_UID_HI 63 2 == 0x12),
    witEq (crsDev { CrsSt.init with disc := some ⟨0, 2, 10, 997990⟩ } []) (.discoverTimeout 0 63) (fun _ d => decide (997990 + 10 + 2000 ≤ d.now)) (fun d => d.footQueries 63),
    witEq (crsDev { CrsSt.init with disc := some ⟨4, 2, 10, 997990⟩ } []) (.discoverTimeout 0 63) (fun _ d => decide (997990 + 10 + 2000 ≤ d.now)) (fun d => d.assignNext 63),
    wit (crsDev { CrsSt.init with probing := [⟨1, 3, 9, 999000, 500⟩], measuring := true } []) (.probeReplyReceived 0 63 1 (rx probeReply) 5000) (fun _ d => d.passes 63 1 && checkFrame (rx probeReply).bytes false == .ok)
      (fun _ d e => e.way 63 3 1 == some (d.rxStamp 63 5000 - 500 - 1000) && e.on F.CM_DIR_W0_FROM_F 63 3),
    wit (crsDev { CrsSt.init with crossH := true, crossF := true } [(F.CM_CRS_STAT_STATE, 63, 0, 2)]) (.transactionWindowOpen 0 63) (fun _ d => d.groupOf 63 == some 3 && !d.alwaysOpen 63 && d.windowDue 63 0)
      (fun _ d e => (e.crs 63).window 0 && (e.crs 63).windowEnd == (d.grp 3).openTick + halfUs (d.grp 3).cfg.cycle),
    witEq (crsDev .init [(F.CM_CRS_STAT_STATE, 63, 0, 2)]) (.transactionWindowOpen 0 63) (fun _ d => !d.alwaysOpen 63 && !d.windowDue 63 0 && !d.windowDue 63 1) id] := by decide +kernel

/-- Courses: a course's life. -/
def dirDev (x : DirSt) (r : CrsSt) (l : LaneSt) (rs : List (Fld × Nat × Nat × Nat)) (f : GroupHub → GroupHub := id) : Dev :=
  let d := laneDev l rs f
  { d with cm := { d.cm with crs := [(63, r)], dir := [(8067, x)] } }
theorem test_w_Courses : ok [
    wit (laneDev { LaneSt.init with rx := 4, alignedAt := 500000 } [(F.CM_LANE_STAT_TX_IDLE, 63, 1, 0)]) (.courseEndWorking 0 63 1) (fun _ d => !(d.lane 63 1).working && (d.lane 63 1).alignedAt + 500000 == d.now && !d.mustIdle 63 && !d.on F.CM_LANE_STAT_TX_IDLE 63 1 && d.get F.CM_LANE_STAT_LOOP 63 1 == 0)
      (fun _ _ e => (e.lane 63 1).working && e.on F.CM_CRS_STAT_F_WORKING 63),
    wit (laneDev { up with markMiss := 3 } [(F.CM_CRS_STAT_STATE, 63, 0, 2)]) (.courseSplit 0 63) (fun _ d => [0, 1].all (fun n => (d.lane 63 n).working && (d.lane 63 n).markMiss == 3) && d.get F.CM_CRS_STAT_STATE 63 == 2)
      (fun _ _ e => e.get F.CM_CRS_STAT_STATE 63 == 5),
    wit (dirDev .init { CrsSt.init with disc := some ⟨5, 0, 0, 0⟩ } up [(F.CM_CRS_STAT_STATE, 63, 0, 1)]) (.discoveryComplete 0 63)
      (fun _ d => d.get F.CM_CRS_STAT_STATE 63 == 1 && d.bound 63 && (List.range 128).all fun p => d.entry 63 p != 1 && d.entry 63 p != 2) (fun _ d e => (e.crs 63).disc == none && e.get F.CM_CRS_STAT_STATE 63 == d.settledState 63),
    wit (dirDev { DirSt.init with phase := 5 } .init up [(F.CM_DIR_W0_STATE, 63, 3, 2)]) (.brickCheckComplete 0 8067) (fun _ d => (d.dir 8067).phase == 5 && d.entry 63 3 == 2) (fun _ _ e => (e.dir 8067).phase == 0 && e.entry 63 3 == 3),
    wit (dirDev { DirSt.init with phase := 5, verdict := 9 } .init up [(F.CM_DIR_W0_STATE, 63, 3, 2)]) (.brickCheckComplete 0 8067) (fun _ d => d.entry (8067 / 128) (8067 % 128) == 2) (fun _ _ e => e.entry 63 3 == 7 && e.get F.CM_DIR_W0_REASON 63 3 == 9),
    wit (dirDev .init { CrsSt.init with measAt := 999 } up [(F.CM_CRS_STAT_STATE, 63, 0, 2), (F.CM_CRS_MEAS_PERIOD, 63, 0, 0)]) (.measurePeriod 0 63) (fun _ d => decide ((d.crs 63).measAt + 500000000 * d.get F.CM_CRS_MEAS_PERIOD 63 ≤ d.now))
      (fun _ d e => (e.crs 63).measuring && (e.crs 63).measAt == d.now)] := by decide +kernel

/-- Courses: commands of CM_CRS_CMD on the bound course 63 and on the spare course 62, and the admission. -/
def spare : Dev := laneDev up [(F.CM_CRS_STAT_STATE, 62, 0, 2)]
def spareDev : Dev := { spare with mo := { spare.mo with image := some { body1 with lanes := ⟨[(62, 0), (63, 0)], []⟩ } } }
theorem test_w_Courses_commands : ok [
    wit (dirDev .init .init up [(F.CM_CRS_STAT_STATE, 63, 0, 2), (F.CM_DIR_W0_STATE, 63, 127, 6)]) (.admitCmd 0 0 63 127) (fun _ d => (d.refusal 0 true (crsCmd 63)).isNone && d.crsCheck 63 1 127 == 0 && d.bound 63)
      (fun _ _ e => (e.crs 63).cmd == some (1, 127) && e.on F.CM_CRS_CMD_BUSY 63),
    wit (dirDev .init .init up [(F.CM_CRS_STAT_STATE, 63, 0, 2), (F.CM_DIR_W0_STATE, 63, 0, 5)]) (.remove 0 0 63 0) (fun _ d => d.crsCheck 63 2 0 == 0 && d.bound 63) (fun _ _ e => (e.crs 63).cmd == some (2, 0)),
    wit (dirDev .init .init up [(F.CM_CRS_STAT_STATE, 63, 0, 2)]) (.rediscover 0 0 63) (fun _ d => d.crsCheck 63 3 0 == 0 && d.bound 63) (fun _ _ e => (e.crs 63).cmd == some (3, 0)),
    witEq (dirDev .init .init up [(F.CM_CRS_STAT_STATE, 63, 0, 1)]) (.measure 0 0 63) (fun _ d => d.crsCheck 63 4 0 == 2) (fun d => d.set F.CM_CRS_CMD_RESULT 2 63),
    witEq spareDev (.measure 0 0 62) (fun _ d => d.crsCheck 62 4 0 == 0 && !d.bound 62 && (d.refusal 0 true (crsCmd 62)).isNone) (fun d => (d.set F.CM_CRS_CMD_RESULT 0 62).crsAct 62 4 0),
    wit (at' 1005000 (dirDev { DirSt.init with checkedAt := 1004999 } .init up [(F.CM_CRS_STAT_STATE, 63, 0, 2), (F.CM_DIR_W0_STATE, 63, 3, 3)])) (.automaticAdmission 0 8067)
      (fun _ d => d.brickIndex 8067 == some (11, 3) && (d.grp 3).started && decide ((d.grp 3).openTick + quarterUs (d.grp 3).cfg.dr ≤ d.now) && decide ((d.dir 8067).checkedAt < (d.grp 3).openTick + quarterUs (d.grp 3).cfg.dr) &&
        d.entry 63 3 == 3 && !(d.dir 8067).byAdmit && !d.deblocked 3) (fun _ _ e => e.entry 63 3 == 4)] := by decide +kernel

theorem test_w_Courses_out : ok [
    (let d := dirDev { DirSt.init with byAdmit := true } .init up [(F.CM_CRS_STAT_STATE, 63, 0, 2), (F.CM_DIR_W0_STATE, 63, 3, 6), (F.CM_DIR_W1_UID_LO, 63, 3, 7)];
      d.entry 63 3 == 6 && (d.foundAt 63 3 0 8067 1 7 1000).entry 63 3 == 1 && ((d.foundAt 63 3 0 8067 1 7 1000).dir 8067).byAdmit &&
      (d.crsAct 63 1 3).entry 63 3 == 2 && !((d.crsAct 63 1 3).dir 8067).byAdmit),
    (let d := dirDev .init .init up [(F.CM_CRS_STAT_STATE, 63, 0, 2), (F.CM_DIR_W0_STATE, 63, 127, 5)]; (d.crsAct 63 2 127 == d.takeOut 63 127) && (d.takeOut 63 127).entry 63 127 == 6),
    witEq (dirDev { DirSt.init with byAdmit := true } .init up [(F.CM_DIR_W0_STATE, 63, 3, 3)]) (.automaticAdmission 0 8067) (fun d _ => !(d.dev.dir 8067).ordered && (d.dev.dir 8067).byAdmit) id] := by decide +kernel

/-- PointWindow: a brick in service, the points of its kind 1 that are mirrored. -/
def inService (q : List PtReq := []) : Dev :=
  let d := dirDev { DirSt.init with latH := 77, mirror := [(0x20, 5)] } .init up [(F.CM_CRS_STAT_STATE, 63, 0, 2), (F.CM_DIR_W0_STATE, 63, 3, 5), (F.CM_DIR_W0_KIND, 63, 3, 1)]
  { d with mo := { d.mo with image := some { body1 with points := { PointCfg.empty with mirrors := [(1, [0x20])] } } }, cm := { d.cm with reqs := q } }
def pt (a : Nat) : Nat := 4 * (8067 * 4096 + a)
theorem test_w_PointWindow : ok [
    witEq base (.pointRead 0 1 (pt 0) 2) (fun _ d => d.bar2Refusal 1 false == some 1) (fun d => (d.refuse 1 true false 1 (pt 0)).emit (.pointData 1 (pt 0) [0, 0])),
    witEq opened (.pointRead 0 0 (pt 0xFFF) 2) (fun _ d => (d.bar2Refusal 0 false).isNone && !pointFormOk (pt 0xFFF) 2)
      (fun d => ((d.refuse 0 true false 2 (pt 0xFFF)).pointFail 0 0x15 (pt 0xFFF / 4)).emit (.pointData 0 (pt 0xFFF) [0xFFFFFFFF, 0xFFFFFFFF])),
    wit opened (.pointRead 0 0 (pt 0xFFF) 1) (fun _ d => pointFormOk (pt 0xFFF) 1 && d.entry 63 3 == 0 && d.cm.reads.isEmpty) (fun _ _ e => e.out.contains (.pointData 0 (pt 0xFFF) [0xFFFFFFFF]) && e.get F.GL_PT_ERR_W0_STATUS 0 == 0x10 && e.cm.nextRead == 1),
    witEq base (.pointWrite 0 1 (pt 0) [7] true) (fun _ d => d.bar2Refusal 1 true == some 1) (fun d => d.refuse 1 true true 1 (pt 0)),
    witEq (laneDev up [(F.CM_CRS_STAT_STATE, 63, 0, 2), (F.CM_DIR_W0_STATE, 63, 3, 5)]) (.pointWrite 0 0 (pt 0xF) [7] true) (fun _ d => (d.bar2Refusal 0 true).isNone && pointFormOk (pt 0xF) 1 && d.entry 63 3 == 5 && pt 0xF / 4 % 4096 == 0xF)
      (fun d => (d.ask 2 0 0 0 true 8067 0xF 7).pump 63),
    wit inService (.pointRead 0 0 (pt 0x10) 1) (fun _ d => (d.bar2Refusal 0 false).isNone && d.heldPoint 8067 0x10 == some 77 && !d.noPoint 8067 0x10 && d.cm.reads.isEmpty && d.cm.reqs.isEmpty) (fun _ _ e => e.out.contains (.pointData 0 (pt 0x10) [77])),
    wit inService (.pointRead 0 0 (pt 0x20) 1) (fun _ d => d.heldPoint 8067 0x20 == some 5 && !d.noPoint 8067 0x20) (fun _ _ e => e.out.contains (.pointData 0 (pt 0x20) [5])),
    witEq inService (.pointRead 0 0 (pt 0x21) 1) (fun _ d => (d.heldPoint 8067 0x21).isNone && !d.noPoint 8067 0x21 && d.get F.CM_CRS_STAT_STATE 63 != 0) (fun d =>
      (({ d with cm := { d.cm with nextRead := d.cm.nextRead + 1, reads := d.cm.reads ++ [⟨d.cm.nextRead, 0, none, pt 0x21, [none], d.now⟩] } } : Dev).ask 2 0 d.cm.nextRead 0 false 8067 0x21 0).pump 63),
    wit (inService.set F.CM_CRS_STAT_STATE 0 63) (.pointRead 0 0 (pt 0x21) 1) (fun _ d => (d.heldPoint 8067 0x21).isNone && d.get F.CM_CRS_STAT_STATE 63 == 0) (fun _ _ e => e.out.contains (.pointData 0 (pt 0x21) [0xFFFFFFFF]) && e.get F.GL_PT_ERR_W0_STATUS 0 == 0x13),
    ((reading aRead (laneDev up [])).readValue 0 0 9).out == [.pointData 0 (pt 0x123) [9]],
    witEq opened (.pointWrite 0 0 (pt 0xF) [7] true) (fun _ d => (d.bar2Refusal 0 true).isNone && d.entry 63 3 == 0) (fun d => (d.pointFail 0 0x10 (pt 0xF / 4)).pump 63),
    witEq inService (.pointWrite 0 0 (pt 0x10) [7] true) (fun _ d => (d.bar2Refusal 0 true).isNone && d.entry 63 3 == 5) (fun d => (d.pointFail 0 0x11 (pt 0x10 / 4)).pump 63),
    witEq inService (.pointWrite 0 0 (pt 0x32) [7] true) (fun _ d => d.entry 63 3 == 5) (fun d => (d.pointFail 0 0x11 (pt 0x32 / 4)).pump 63),
    witEq inService (.pointWrite 0 0 (pt 0x13) [7] true) (fun _ d => d.entry 63 3 == 5 && d.get F.CM_CRS_STAT_STATE 63 != 0) (fun d => (d.ask 2 0 0 0 true 8067 0x13 7).pump 63),
    witEq (inService.set F.CM_CRS_STAT_STATE 0 63) (.pointWrite 0 0 (pt 0x13) [7] true) (fun _ d => d.entry 63 3 == 5 && d.get F.CM_CRS_STAT_STATE 63 == 0) (fun d => (d.pointFail 0 0x13 (pt 0x13 / 4)).pump 63),
    witEq opened (.pointWrite 0 0 (pt 0xF) [7] false) (fun _ d => (d.bar2Refusal 0 true).isNone) (fun d => (d.refuse 0 true true 2 (pt 0xF)).pointFail 0 0x15 (pt 0xF / 4)),
    wit (at' 1000500 (reading aRead (laneDev up []))) (.pointTimeout 0 63 17) (fun _ d => decide (d.replyDue aRead true 999000 ≤ d.now) && (d.cm.reqs.find? fun q => q.brick / 128 == 63 && q.tid == 17 && q.sent.isSome) == some aRead)
      (fun _ _ e => e.cm.reqs.map (fun q => q.tries) == [1]),
    witEq (at' 1000500 (reading { aRead with tries := 1 } (laneDev up []))) (.pointTimeout 0 63 17) (fun _ _ => true) (fun d => d.lostReq { aRead with tries := 1 } 0x12),
    witEq (reading aRead (at' 5000 (regs [(F.GL_PT_CFG_LIMIT, 0, 0, 1)] (laneDev up [])))) (.pointLimit 0) (fun _ d => (d.cm.reqs.filter fun q => q.cls == 2 && q.ctx < 8 && (!q.write || q.sent.isNone) && decide (q.since + 5000 * d.get F.GL_PT_CFG_LIMIT ≤ d.now)) == [aRead])
      (fun d => (d.endReq aRead 0x14).pump 63),
    wit { (laneDev up []) with mo := { (laneDev up []).mo with image := some { body1 with points := { PointCfg.empty with mirrorPeriod := 2 } } } } (.mirrorRefresh 0 63) (fun _ d => decide ((d.crs 63).mirrorAt + msTicks 2 ≤ d.now))
      (fun _ d e => (e.crs 63).mirrorAt == d.now && e.get F.CM_CRS_PT_MIRROR_LATE 63 == 0)] := by decide +kernel

/-- StationFrames. -/
def sub4 : SvSub := { mac := 1, appid := 0x4000, svId := 3, confRev := 1, vlan := none, ports := 8, rate := 4000, nval := 1, groups := 8, vals := [⟨0, 0, true, true, true⟩], extrapMax := 0, syncReq := true, fixedDelay := 0, lostTime := 5 }
def asdu : SvAsdu := ⟨3, 3999, 1, 2, [⟨5, 0, true, false, false, false⟩]⟩
def go1 : GoSub := { mac := 2, appid := 1, ident := 9, confRev := 1, ports := 8, talCap := 100, testOk := false, members := [⟨0, false, 5, 1, false⟩] }
def msg : GooseMsg := { badFcs := false, secLen := 0, mac := 2, appid := 1, ident := 9, confRev := 1, ndsCom := false, test := false, stNum := 0x12345, sqNum := 0, tal := 2000, members := [] }
def station (f : StreamsCfg → StreamsCfg) (rs : List (Fld × Nat × Nat × Nat) := []) : Dev :=
  let d := at' 600000000 (regs ([(F.SI_PORT_LINK, 3, 0, 1), (F.GL_READY_INTAKE, 0, 0, 1), (F.TB_STATUS_SV_SUSPECT, 0, 0, 0)] ++ rs) opened)
  { d with si := { d.si with streams := f .empty } }
theorem test_w_StationFrames : ok [
    witEq (station id) (.svFrameReceived 0 3 ⟨true, 0, 1, 0x4000, none, []⟩ 0) (fun _ d => d.on F.SI_PORT_LINK 3 && d.ready F.GL_READY_INTAKE) (fun d => d.count F.SI_PORT_FCS_ERR 3),
    witEq (station id) (.svFrameReceived 0 3 ⟨false, 1, 1, 0x4000, none, []⟩ 0) (fun _ _ => true) (fun d => d.count F.SI_PORT_SEC_REJ 3),
    wit (station fun c => { c with svs := [(31, sub4)] }) (.svFrameReceived 0 3 ⟨false, 0, 1, 0x4000, some 5, [asdu]⟩ 131071) (fun _ d => testBit sub4.ports 3 && !d.isFenced (0x160 + 31) && decide (asdu.smpCnt < sub4.rate) && (d.sv 31).samples.isEmpty && !d.on F.TB_STATUS_SV_SUSPECT)
      (fun _ d e => e.get F.SI_SV_STAT_W0_STATE 31 == 2 && e.get F.SI_SV_STAT_W0_PORT 31 == 3 && !(e.sv 31).lost && (e.sv 31).silentAt == d.now + silence sub4 &&
        ((e.sv 31).samples.head?.map fun x => (x.cnt, x.accepted)) == some (3999, d.stamp16 131071)),
    wit (station fun c => { c with gos := [(63, go1)] }) (.gooseReceived 0 3 msg) (fun _ d => testBit go1.ports 3 && !d.isFenced (0x180 + 63) && (d.goose 63).stNum != some msg.stNum)
      (fun _ d e => e.get F.SI_GO_SUB_STNUM 63 == 0x2345 && !e.on F.SI_GO_SUB_LOST 63 && e.goose 63 == ⟨some 0x12345, 0, d.now + msTicks 100, false⟩),
    witEq (station id) (.gooseReceived 0 3 { msg with badFcs := true }) (fun _ _ => true) (fun d => d.count F.SI_PORT_FCS_ERR 3),
    witEq (station id) (.gooseReceived 0 3 { msg with secLen := 1 }) (fun _ _ => msg.badFcs == false) (fun d => d.count F.SI_PORT_SEC_REJ 3)] := by decide +kernel
theorem test_w_StationFrames_link : ok [witEq base (.stationPortLinkChange 0 3 true) (fun _ _ => true) (fun d => d.flag F.SI_PORT_LINK true 3)] := by decide +kernel

/-- StreamsAndPublications. -/
def pub1 : GoPub := ⟨1, 0x1000, 0, 4, 9, 1, 8, 10, 1000, [⟨0, 0, false⟩]⟩
def pubDev (u : PubSt) : Dev := let d := station fun c => { c with pubs := [(7, pub1)] }; { d with si := { d.si with pubs := [(7, u)] } }
theorem test_w_StreamsAndPublications : ok [
    witEq (station fun c => { c with svs := [(31, sub4)] }) (.svSilent 0 31) (fun _ d => decide ((d.sv 31).silentAt ≤ d.now)) (fun d => d.set F.SI_SV_STAT_W0_STATE 1 31),
    wit (station (fun c => { c with svs := [(31, sub4)] }) [(F.SI_SV_STAT_W0_STATE, 31, 0, 1)]) (.svLost 0 31) (fun _ d => d.get F.SI_SV_STAT_W0_STATE 31 == 1 && !(d.sv 31).lost && decide ((d.sv 31).silentAt + msTicks sub4.lostTime ≤ d.now))
      (fun _ _ e => (e.sv 31).lost && e.on F.SI_SV_STAT_W0_LOST_RAISED 31 && e.on F.FC_COND_COND 0x17F),
    wit (let d := station fun c => { c with gos := [(63, go1)] }; { d with si := { d.si with gos := [(63, ⟨some 1, 0, 600000000, false⟩)], giValid := 32 } }) (.gooseLost 0 63)
      (fun _ d => !(d.goose 63).lost && decide ((d.goose 63).deadline ≤ d.now)) (fun _ _ e => (e.goose 63).lost && e.on F.SI_GO_SUB_LOST 63 && e.on F.FC_COND_COND 0x1BF && !testBit e.si.giValid 5 && testBit e.si.gi 5),
    witEq (pubDev { PubSt.init with last := [1, 2] }) (.goosePubEvaluation 0) (fun _ d => d.ready F.GL_READY_INTAKE && d.ct % 2500 == 0 && d.dataset pub1 != [1, 2]) (fun d => d.publish 7 pub1 2 0 5000 (d.dataset pub1)),
    witEq (at' 600000001 (pubDev .init)) (.goosePubEvaluation 0) (fun _ d => d.ct % 2500 != 0) id,
    witEq (pubDev .init) (.goosePubEvaluation 0) (fun _ d => d.ct % 2500 == 0 && (tabD d.si.pubs 7 .init).last == []) (fun d =>
      d.publish 7 pub1 PubSt.init.stNum PubSt.init.sqNum 5000 (d.dataset pub1)),
    witEq (pubDev { PubSt.init with last := (pubDev .init).dataset pub1 }) (.goosePubEvaluation 0) (fun _ d => d.dataset pub1 == (pubDev .init).dataset pub1 && d.dataset pub1 != []) id,
    wit (pubDev { PubSt.init with last := [1, 2], nextAt := 600000000, interval := 5000 }) (.gooseRetransmit 0 7) (fun _ d => decide ((tabD d.si.pubs 7 .init).nextAt ≤ d.now))
      (fun _ d e => tabGet e.si.pubs 7 == some ⟨[1, 2], 1, 1, d.now + 10000, 10000⟩ && e.out == [.goose 7 pub1 1 1 20000 false [1, 2]])] := by decide +kernel

/-- Converters. -/
def lmDev (t : Nat) (s : LmSt) (f : GroupHub → GroupHub := id) : Dev :=
  let d := plant f body1 (regs [(F.GL_READY_LOCALMEAS, 0, 0, 1)] opened)
  { d with
    si := { d.si with streams := { StreamsCfg.empty with lms := List.replicate 4 ⟨t, 3, 0, 2, [⟨9, 1, 4, 1, 0⟩], 0x1000, 8⟩ }, lms := List.replicate 4 s }
    sb := { d.sb with params := { SafetyCfg.zero with ovLm := 2 } } }
theorem test_w_Converters : ok [
    wit base (.intakeLocalmeasDmaReady 0) (fun _ d => d.get F.GL_START_KILN == 0 && d.si.lms.length == 4) (fun _ _ e => e.ready F.GL_READY_INTAKE && e.ready F.GL_READY_LOCALMEAS && e.ready F.GL_READY_DMA),
    wit (at' 1000025 (lmDev 0 .init)) (.lmCycleTrigger 0 3) (fun _ d => d.si.lms.length == 4 && decide (25 * (d.lmCfg 3).delay ≤ 2 * (d.now - (d.grp 3).openTick)) && decide ((d.lm 3).trigAt < (d.grp 3).openTick + 1))
      (fun _ d e => (e.lm 3).running && (e.lm 3).runAt == d.now && e.get F.LM_STAT_STATE 3 == 1),
    wit (lmDev 2 .init) (.lmRun 0 0 3) (fun _ d => (d.refusal 0 true 0x70308).isNone && (d.lmCfg 3).trig == 2) (fun _ _ e => (e.lm 3).running),
    wit (at' 1000188 (lmDev 0 { LmSt.init with running := true, runAt := 1000000 })) (.lmRunComplete 0 3 [[100]]) (fun _ d => (d.lm 3).done == 0 && decide (25 * (4 + 10) ≤ 2 * (d.now - (d.lm 3).runAt)))
      (fun _ _ e => !(e.lm 3).running && e.get F.LM_STAT_STATE 3 == 0 && e.get F.LM_RESULT_WORD 3 0 == resultWord 100 0 0 1 3 9 && e.get F.LM_RESULT_WORD 3 1 == base.get F.LM_RESULT_WORD 3 1),
    witEq (at' 1000174 (lmDev 0 { LmSt.init with running := true, runAt := 1000000 })) (.lmRunComplete 0 3 [[100]]) (fun _ d => decide (2 * (d.now - (d.lm 3).runAt) < 25 * (4 + 10))) Dev.latchLms,
    (let d := lmDev 3 { LmSt.init with contNext := some (0x10019, 1000000) }; decide (1000000 ≤ d.now) && ((d.contDue 3).lm 3).contNow == 0x10019 && ((d.contDue 3).lm 3).contNext.isNone),
    wit (lmDev 3 { LmSt.init with contNow := 0x10019, ringN := 5 }) (.lmContOutput 0 3 [100]) (fun _ d => (d.lm 3).contNow / 0x10000 != 0 && (d.lm 3).contNext.isNone && decide (25 * outputClock (d.lm 3).contK 1 ≤ 2 * (d.now - (d.lm 3).contAt)) && d.work.wf && d.sb.params.ovLm != 3 && decide (4 ≤ (d.lmCfg 3).ringSize))
      (fun _ _ e => e.work.readBytes 0x1004 4 == leBytes 4 (resultWord 100 0 0 1 3 9) && e.work.read 0x1000 == 0 && (e.lm 3).ringN == 6),
    wit (lmDev 3 .init) (.lmContWrite 0 0 3 0x80000049) (fun _ d => (d.refusal 0 true 0x7030C).isNone && !d.ovOwns 3 && (d.lmCfg 3).trig == 3)
      (fun _ d e => (e.lm 3).contNext == some (((d.contDue 3).putCont 3 0x80000049).contWord 3, d.nextEdge)),
    witEq (lmDev 2 .init) (.lmContWrite 0 0 3 0x80000049) (fun _ d => !d.ovOwns 3 && (d.lmCfg 3).trig == 2) (fun d => (d.contDue 3).putCont 3 0x80000049),
    witEq { (lmDev 3 .init) with sb := { (lmDev 3 .init).sb with params := { SafetyCfg.zero with ovLm := 3, ovEn := true } } } (.lmContWrite 0 0 3 0x80000049) (fun _ d => d.ovOwns 3) (fun d => d.contDue 3)] := by decide +kernel

/-- Calibration. -/
theorem test_w_Calibration : ok [
    wit (lmDev 2 .init) (.lmCalZero 0 0 3 1) (fun _ d => (d.refusal 0 true 0x70800).isNone && d.calCheck 3 false false == 0) (fun _ d e => (e.lm 3).cal == some (1, 1, 0) && (e.lm 3).due == some (d.now + 52000) && e.on F.LM_CAL_CMD_BUSY && e.get F.LM_STAT_STATE 3 == 2),
    wit (lmDev 2 .init) (.lmCalFull 0 0 3 1 0xE000) (fun _ d => d.calCheck 3 false false == 0 && (0xE000 : BitVec 16).toInt == -8192) (fun _ _ e => (e.lm 3).cal == some (2, 1, -8192)),
    wit (lmDev 2 { LmSt.init with pendOfs := some (1, -5) }) (.lmCalStore 0 0 3 1) (fun _ d => d.calCheck 3 false false == 0) (fun _ _ e => e.get F.LM_CAL_OFS 3 1 == 0xFFFB && (e.lm 3).pendOfs == none && e.get F.LM_CAL_CMD_RESULT == 0),
    wit { (lmDev 2 .init) with store := { (lmDev 2 .init).store with recs := (lmDev 2 .init).store.recs.map fun r => { r with calTrim := [(13, 0x1234ABCD)] } } } (.lmCalFactory 0 0 3 1) (fun _ d => tabD d.store.calTrim 13 0x8000 == 0x1234ABCD) (fun _ _ e => e.get F.LM_CAL_OFS 3 1 == 0x1234 && e.get F.LM_CAL_GCORR 3 1 == 0xABCD),
    witEq (regs [(F.LM_CAL_CMD_BUSY, 0, 0, 1)] (lmDev 2 .init)) (.lmCalZero 0 0 3 1) (fun _ d => d.calCheck 3 false false == 1) (fun d => d.set F.LM_CAL_CMD_RESULT 1),
    witEq (lmDev 2 .init) (.lmCalFull 0 0 3 1 0x1FFF) (fun _ d => d.calCheck 3 true false == 3) (fun d => d.set F.LM_CAL_CMD_RESULT 3),
    witEq (lmDev 2 .init) (.lmCalStore 0 0 3 1) (fun _ d => (d.lm 3).pendOfs.isNone && d.calCheck 3 false true == 4) (fun d => d.set F.LM_CAL_CMD_RESULT 4),
    wit (lmDev 2 { LmSt.init with cal := some (1, 1, 0), due := some 1000000 }) (.lmCalStepComplete 0 3 (-8388352)) (fun _ d => decide ((1000000 : Nat) ≤ d.now) && (roundDiv (-8388352) 256).natAbs == 0x7FFF)
      (fun _ _ e => (e.lm 3).pendOfs == some (1, -32767) && (e.lm 3).cal == none && e.get F.LM_CAL_MEAS_MEAN == toField 32 (-32767))] := by decide +kernel

/-- TimeBase. -/
def tb (rs : List (Fld × Nat × Nat × Nat)) (f : TbSt → TbSt := id) (d : Dev := at' 1000000 opened) : Dev :=
  let d := regs ([(F.TB_STATUS_PLL_LOCKED, 0, 0, 1), (F.GL_READY_TIMEBASE, 0, 0, 1)] ++ rs) d
  { d with tb := f { d.tb with everReady := true } }
theorem test_w_TimeBase : ok [
    wit base (.tbPllLock 0 [51200, 51202, 51198, 51201]) (fun _ d => !d.on F.TB_STATUS_PLL_LOCKED && !d.tb.everReady && [51200, 51202, 51198, 51201].all fun x => d.pllWithin x 2) (fun _ _ e => e.on F.TB_STATUS_PLL_LOCKED && e.ready F.GL_READY_TIMEBASE && e.clk.dev == 0 && e.on F.TB_STATUS_TIME_SUSPECT),
    witEq (tb []) (.tbPllLockLoss 0 51216) (fun _ d => d.pllWithin 51216 16 && d.pllDev 51216 == 16) (fun d => d.setI F.TB_PLL_DEV 16),
    wit (tb []) (.tbPllLockLoss 0 51217) (fun _ d => d.on F.TB_STATUS_PLL_LOCKED && !d.pllWithin 51217 16) (fun _ _ e => !e.ready F.GL_READY_TIMEBASE && e.on F.FC_COND_COND 1 && !e.on F.TB_LPLL_STAT_LOCKED 7),
    wit (tb [(F.TB_FREQ_FREQ, 0, 0, 5)] fun t => { t with freqWant := -300000, freqAt := 995000 }) (.freqStep 0) (fun _ d => d.getI F.TB_FREQ_FREQ == 5 && decide (d.tb.freqAt + 5000 ≤ d.now)) (fun _ d e => e.get F.TB_FREQ_FREQ == toField 32 (-199995) && e.tb.freqAt == d.now),
    wit (tb [] fun t => { t with slew := 1, slewRate := 1000, phaseAt := 500000 }) (.phaseStep 0) (fun _ d => d.tb.stepPhase == 0 && decide (d.tb.phaseAt + slewSpacing d.tb.slewRate ≤ d.now)) (fun _ d e => e.clk.phase == d.clk.phase + 1 && e.tb.slew == 0),
    wit (tb [(F.TB_ADJ_CMD_BUSY, 0, 0, 1)] fun t => { t with stepPhase := -1, phaseAt := 999936 }) (.phaseStep 0) (fun _ d => decide (d.tb.phaseAt + 64 ≤ d.now)) (fun _ d e => e.clk.phase == d.clk.phase - 1 && e.tb.stepPhase == 0 && !e.on F.TB_ADJ_CMD_BUSY),
    wit (tb [(F.TB_ADJ_NS_NS, 0, 0, 999999999), (F.TB_ADJ_SEC_SEC, 0, 0, 3)]) (.setTime 0 0) (fun _ d => (d.refusal 0 true 0x30060).isNone && d.adjCheck 1 == 0) (fun _ _ e => e.clk.dev == 1999999999 && e.get F.TB_STATUS_STEPS == 1),
    wit (tb [(F.TB_ADJ_NS_NS, 0, 0, 0xFFFFFFFD)]) (.stepNs 0 0) (fun _ d => d.adjCheck 2 == 0) (fun _ _ e => e.clk.dev == 999998 && e.tb.stepPhase == 64),
    wit (tb [(F.TB_ADJ_NS_NS, 0, 0, 0xFFFFFFFF)] fun t => { t with slew := 64 }) (.slew 0 0) (fun _ d => d.adjCheck 3 == 0) (fun _ _ e => e.tb.slew == 0 && !e.on F.TB_SERVO_SLEWING),
    wit (tb [(F.TB_ADJ_NS_NS, 0, 0, 100000000)]) (.freq 0 0) (fun _ d => d.adjCheck 4 == 0) (fun _ d e => e.tb.freqWant == 100000000 && e.clk == d.clk),
    witEq (tb [(F.TB_ADJ_NS_NS, 0, 0, 1000000000)]) (.setTime 0 0) (fun _ d => d.adjCheck 1 == 5) (fun d => d.set F.TB_ADJ_CMD_RESULT 5),
    witEq (tb [(F.TB_ADJ_CMD_BUSY, 0, 0, 1)]) (.freq 0 0) (fun _ d => d.adjCheck 4 == 1) (fun d => d.set F.TB_ADJ_CMD_RESULT 1),
    witEq (tb [(F.TB_ADJ_CMD_BUSY, 0, 0, 1)]) (.slew 0 0) (fun _ d => d.adjCheck 3 == 1) (fun d => d.set F.TB_ADJ_CMD_RESULT 1)] := by decide +kernel

/-- PtpAndServo. -/
def slaved (rs : List (Fld × Nat × Nat × Nat)) (f : TbSt → TbSt := id) : Dev :=
  tb ([(F.TB_PTP_PORT_W0_STATE, 3, 0, 9), (F.SI_PORT_LINK, 3, 0, 1)] ++ rs) fun t => f { t with ports := setNth t.ports 3 { PtpSt.init with delays := [640] } }
theorem test_w_PtpAndServo : ok [
    witEq (slaved []) (.ptpMessageReceived 0 3 ⟨12, 0⟩ 99 12345 (some 8) true none) (fun _ d => d.get F.TB_PTP_PORT_W0_STATE 3 == 9 && d.on F.SI_PORT_LINK 3) (fun d => d.stampPtp 3 ⟨12345, false, 12, 99⟩),
    witEq (slaved []) (.ptpMessageReceived 0 3 ⟨0, 1⟩ 99 12345 (some 8) true none) (fun _ d => d.tb.cfg.domain != 1) (fun d => d.stampPtp 3 ⟨12345, false, 0, 99⟩),
    wit (slaved [] fun t => { t with cfg := { t.cfg with slaveOnly := true } }) (.ptpMessageReceived 0 3 ⟨0, 0⟩ 99 12345 (some 6) true none) (fun _ d => d.tb.cfg.slaveOnly && !peerDelay d.tb.cfg) (fun _ _ e => e.get F.TB_PTP_PORT_W0_STATE 3 == 9),
    wit (slaved []) (.ptpMessageReceived 0 3 ⟨0, 0⟩ 99 12345 (some 8) true none) (fun _ d => d.get F.TB_PTP_PORT_W0_STATE 3 == 9 && d.on F.SI_PORT_LINK 3 && d.tb.ports.length == 4 && d.tb.cfg.domain == 0 && !peerDelay d.tb.cfg && !d.tb.cfg.slaveOnly)
      (fun _ _ e => e.get F.TB_PTP_PORT_W0_STATE 3 == 8 && e.on F.TB_PTP_PORT_W0_PEER_TWO_STEP 3 && (nth e.tb.ports 3 .init).queue == [⟨12345, false, 0, 99⟩]),
    wit (slaved []) (.ptpMessageSend 0 3 1 777) (fun _ d => portSends d.tb.cfg (d.get F.TB_PTP_PORT_W0_STATE 3) 1 && d.on F.SI_PORT_LINK 3 && (nth d.tb.ports 3 .init).sentAt == []) (fun _ _ e => e.out == [.ptp ⟨3, 1, 777, 0, ptpDst 1, 0, 0, 128, 128, 248⟩]),
    wit (let d := slaved [(F.TB_PTP_PORT_W0_STATE, 3, 0, 6)]; { d with tb := { d.tb with cfg := { d.tb.cfg with profile := 2 }, ports := setNth d.tb.ports 3 { PtpSt.init with asked := [(3, 5, 700)], sentAt := [(3, 1000000)] } } }) (.ptpMessageSend 0 3 3 777)
      (fun _ d => portSends d.tb.cfg (d.get F.TB_PTP_PORT_W0_STATE 3) 3 && (nth d.tb.ports 3 .init).asked.find? (·.1 == 3) == some (3, 5, 700) && decide (1000000 + sendInterval d.tb.cfg 3 ≤ d.now)) (fun _ _ e => e.out.map (fun o => match o with | .ptp m => (m.seqId, m.correction) | _ => (0, 0)) == [(5, 77)]),
    wit (slaved [(F.TB_SERVO_STATE, 0, 0, 2)] fun t => { t with cfg := { t.cfg with asym := [0, 0, 0, -1000] } }) (.ptpOffset 0 3 (-132000)) (fun _ d => decide (((-132000 : Int) - 4 * nth d.tb.cfg.asym 3 0) = -128000)) (fun _ _ e => e.tb.slew == 128000),
    witEq (slaved [(F.TB_SERVO_STATE, 0, 0, 2), (F.TB_SERVO_SLAVE_PORT, 0, 0, 3)]) (.masterLost 0) (fun _ d => !d.masterGone) id,
    wit (slaved [(F.TB_SERVO_STATE, 0, 0, 2)]) (.ptpOffset 0 3 (-128000)) (fun _ d => d.ready F.GL_READY_TIMEBASE && !d.tb.cfg.host && decide ((-128000 : Int).natAbs ≤ 64 * d.tb.cfg.unlockThresh))
      (fun _ _ e => e.get F.TB_SERVO_STATE == 2 && e.tb.slew == 128000 && e.get F.TB_OFFSET_OFFSET == toField 32 (-2000)),
    wit (at' 2500000000 (slaved [(F.TB_SERVO_STATE, 0, 0, 2), (F.TB_SERVO_SLAVE_PORT, 0, 0, 3)])) (.masterLost 0) (fun _ d => d.get F.TB_SERVO_STATE == 2 && d.masterGone) (fun _ d e => e.get F.TB_SERVO_STATE == 3 && e.tb.holdAt == d.now && e.on F.TB_SERVO_HOLD_RAISED),
    witEq (at' 1800000000000 (slaved [(F.TB_SERVO_STATE, 0, 0, 3)])) (.holdoverLimit 0) (fun _ d => decide (d.tb.holdAt + 500000000 * d.tb.cfg.holdMax ≤ d.now)) (fun d => (d.cond 0x14E true).flag F.TB_SERVO_HOLD_RAISED true),
    wit (at' 300000000000 (slaved [(F.TB_SERVO_STATE, 0, 0, 3)])) (.holdoverSv 0) (fun _ d => decide (d.tb.holdAt + 500000000 * d.tb.cfg.holdSv ≤ d.now)) (fun _ _ e => e.on F.TB_STATUS_SV_SUSPECT)] := by decide +kernel

/-- StampsAndOutputs. -/
def st1 : Stamp := ⟨0x12345678, true, 2, 0xBEEF⟩
theorem test_w_StampsAndOutputs : ok [
    wit (tb [] fun t => { t with ports := setNth t.ports 3 { PtpSt.init with queue := [st1, st1] } }) (.stampQueueRead 0 0 3) (fun _ d => (d.refusal 0 false 0x30230).isNone && d.tb.ports.length == 4) (fun _ _ e => e.out == [.readData 0 0x30230 0xC200BEEF] && (nth e.tb.ports 3 .init).queue == [st1]),
    wit (at' 500000007 (tb [])) (.timeNowRead 0 7) (fun _ d => (d.refusal 7 false 0x30010).isSome) (fun _ _ _ => true),
    wit (at' 500000007 (tb [])) (.timeNowRead 0 0) (fun _ d => (d.refusal 0 false 0x30010).isNone && d.host.ctxs.length == 8) (fun _ _ e => e.out == [.readData 0 0x30010 14] && (e.ctx 0).nowLatch == [1, 0]),
    wit (tb [] fun t => { t with evts := setNth t.evts 15 { EvtSt.init with queue := [st1] } }) (.evtFifoRead 0 0 15) (fun _ d => (d.refusal 0 false 0x305F0).isNone && d.tb.evts.length == 16) (fun _ _ e => (nth e.tb.evts 15 .init).queue == [] && e.get F.TB_EVT_STAT_FILL 15 == 0),
    wit (tb [(F.TB_EVT_CFG_EDGE, 15, 0, 2)]) (.evtEdge 0 15 false 5) (fun _ d => testBit (d.get F.TB_EVT_CFG_EDGE 15) 1 && d.tb.evts.length == 16) (fun _ d e => (nth e.tb.evts 15 .init).queue == [⟨quarterNs (d.stamp16 0 - 5), false, 0, 0⟩] && e.get F.TB_EVT_STAT_FILL 15 == 1),
    witEq (tb [(F.TB_EVT_CFG_EDGE, 15, 0, 2), (F.TB_EVT_CFG_FILTER, 15, 0, 1)]) (.evtEdge 0 15 false 131071) (fun _ d => decide (131071 < 131072 * d.get F.TB_EVT_CFG_FILTER 15)) id,
    wit (tb [(F.TB_EVT_CFG_EDGE, 15, 0, 2), (F.TB_STATUS_STEPS, 0, 0, 3)] fun t => { t with steps := [(999999, 4000, 2)] }) (.evtEdge 0 15 false 262144) (fun _ d => d.stepsBefore 262144 == 2 && d.tb.evts.length == 16)
      (fun _ _ e => (nth e.tb.evts 15 .init).queue == [⟨quarterNs (131072 * (1000000 - 4000) - 262144), false, 2, 0⟩]),
    wit (tb [] fun t => { t with cfg := { t.cfg with tios := List.replicate 8 ⟨2, 0, 990000, 20000, 15000, 0⟩ }, steps := [(980000, 5, 0)] }) (.tioEdge 0 7) (fun _ d => (d.tioCfg 7).mode == 2 && (d.tioCfg 7).period == 20000 && d.ct == 1000000) (fun _ _ e => (nth e.tb.tios 7 .init).level),
    wit (tb [] fun t => { t with cfg := { t.cfg with tios := List.replicate 8 ⟨2, 0, 990000, 20000, 15000, 0⟩ }, steps := [(990001, 5, 0)] }) (.tioEdge 0 7) (fun _ d => (d.tioCfg 7).mode == 2) (fun _ _ e => !(nth e.tb.tios 7 .init).level),
    witEq (tb []) (.tioCommand 0 0 7 true 5 0) (fun _ d => (d.refusal 0 true 0x30678).isNone && (d.tioCfg 7).mode == 0) (fun d => d.set F.TB_TIO_W3_RESULT 2 7),
    wit (tb [] fun t => { t with cfg := { t.cfg with tios := List.replicate 8 ⟨1, 0, 0, 0, 0, 0⟩ }, tios := setNth t.tios 7 ⟨1000001, none, false⟩ }) (.tioCommand 0 0 7 true 5 0)
      (fun _ d => (d.tioCfg 7).mode == 1 && d.ct == 1000000 && d.tb.tios.length == 8) (fun _ _ e => (nth e.tb.tios 7 .init).pending == some (1000001, 5, true) && e.on F.TB_TIO_W3_PENDING 7),
    wit (tb [] fun t => { t with cfg := { t.cfg with tios := List.replicate 8 ⟨1, 0, 0, 0, 0, 0⟩ }, tios := setNth t.tios 7 ⟨1, some (1000000, 5, true), false⟩ }) (.tioEdge 0 7)
      (fun _ d => decide (((d.ct : Int) - 1000000) % 0x1000000000000 < 0x800000000000)) (fun _ _ e => (nth e.tb.tios 7 .init).pending == none && (nth e.tb.tios 7 .init).level && e.out == [.edge 7 true 5]),
    wit (tb []) (.ppsEdge 0) (fun _ d => d.tb.everReady && !ppsHad d.tb.ppsSeen d.sec) (fun _ d e => e.out == [.pin 8 1] && ppsHad e.tb.ppsSeen d.sec && !ppsHad e.tb.ppsSeen (d.sec + 1) && e.tb.ppsHigh),
    wit (at' 50000000 (tb [] fun t => { t with ppsSeen := [(0, 0)], ppsHigh := true })) (.ppsEdge 0) (fun _ d => d.sec == 0 && decide (d.tb.ppsAt + msTicks d.tb.cfg.ppsWidth ≤ d.now)) (fun _ _ e => e.out == [.pin 8 0] && !e.tb.ppsHigh)] := by decide +kernel

/-- DigestsAndHeartbeats. -/
def job0 : Job := { k := 5, next := 0, did := 0, present := [], words := [], cands := [], count := 0, frac := 0, bound := 0, nrank := 0, onLen := 0, sign := true, blocked := true, discharge := false, e := 1042500, opening := 1000000 }
def digesting (st : Nat) (l : List (Nat × Nat)) : Dev :=
  let d := regs [(F.TP_STATE_STATE, 0, 0, st)] plant
  { d with
    chans := List.replicate 3 { Chan.init with tiles := setNth Chan.init.tiles 11 ⟨[job0], .init⟩, grps := setNth Chan.init.grps 3 ⟨.init, [⟨{ gin 5 with sp := [7] }, [], false, false, false, [], .standard, []⟩], [], []⟩ }
    tp := { d.tp with votes := [(11, { VoteSt.init with k := 5, closed := false, digests := l })] } }
def digestOf : Nat := crcWords (inputWords { gin 5 with sp := [7] } [])
def words0 : List (List Nat) := [[1, 2, 3], [1, 2, 3], [1, 2, 4]]
theorem test_w_DigestsAndHeartbeats : ok [
    wit (digesting 1 []) (.inputDigest 0 2 11 5) (fun _ d => d.tileGroup 11 == some 3 && (d.ctile 2 11).jobs.find? (·.k == 5) == some job0 && d.computes 2 11 && !(d.vote 11).closed && !d.exempt 2 3 && d.tileDigest 2 3 job0 == digestOf)
      (fun _ _ e => (e.vote 11).digests == [(2, digestOf ^^^ 5)]),
    witEq (shadowing 2 (digesting 1 [])) (.inputDigest 0 2 11 5) (fun _ d => d.exempt 2 3 && d.computes 2 11) id,
    (let d := digesting 2 [(1, 4), (2, 5)]; d.triplex == 2 && !(d.vote 11).barred && ((regs [(F.TP_CH_STATE, 0, 0, 2)] d).judgeDigests 11 false).fc.due == d.fc.due ++ [⟨0x13, 0, true, none⟩]),
    (let d := digesting 1 [(0, 4), (1, 4), (2, 5)]; d.triplex == 1 && d.judgeDigests 11 false == (d.fenceChannel 2 5).raise 0x13 2),
    (let d := regs [(F.TP_CH_STATE, 0, 0, 2), (F.TP_CH_STATE, 1, 0, 2), (F.TP_CH_STATE, 2, 0, 2)] (plant fun h => { h with k := 64 });
      (d.grp 3).k % 64 == 0 && !d.computesAny 2 && !d.computesAny 1 && !d.computesAny 0 && ((d.digestAtDe 3).grp 3).digWords == (List.range 3).map fun ch => stateWords (d.chan ch) 3 [11]),
    wit (plant fun h => { h with k := 64, deK := some 64, digWords := words0 }) (.stateDigestCompare 0 3 0 0 0) (fun _ d => d.serving == [0, 1, 2] && (d.grp 3).k == 64 && (d.grp 3).deK == some 64 && (d.grp 3).digK != some 64 && stateDigest [1, 2, 3] != stateDigest [1, 2, 4])
      (fun _ _ e => e.get F.TP_DIGEST_AGREE 3 == 3 && e.get F.TP_DIGEST_CYCLE 3 == 64 && e.chState 2 != 1),
    wit (plant fun h => { h with k := 64, deK := some 64 }) (.stateDigestCompare 0 3 6 6 6) (fun _ d => d.serving == [0, 1, 2]) (fun _ _ e => e.get F.TP_DIGEST_AGREE 3 == 7),
    wit plant (.heartbeatPeriod 0) (fun _ d => d.firstBuilt == some 3 && (d.grp 3).started && d.tp.period != d.periodStart + 1 && d.tp.hbPin == [false, false, false]) (fun _ d e => e.tp.period == 1000001 && [0, 1, 2].all fun y => e.out.contains (.heartbeat y 1 (d.hbFlags y)) && e.out.contains (.pin (9 + y) 1)),
    wit (let d := plant; { d with tp := { d.tp with period := 999001, hbMiss := setNth d.tp.hbMiss 0 2 } }) (.heartbeatReceived 0 0 1 0 0) (fun _ d => d.sends 1 && decide (d.now ≤ d.tp.period - 1 + 1000) && nth d.tp.hbSeq 1 0 == 0 && hbAt 0 1 0 == 0) (fun _ _ e => !e.missesOn 0 1 0 && nth e.tp.hbMiss 0 9 == 0),
    witEq (let d := plant; { d with tp := { d.tp with period := 999001, hbMiss := setNth d.tp.hbMiss 11 2 } }) (.heartbeatMissing 0 2 1 1) (fun _ d => d.observes 2 && d.sends 1 && hbAt 2 1 1 == 11 && decide (d.tp.period - 1 + 1000 ≤ d.now) && !d.missesOn 2 1 1 && (d.becomesMissing 2 1 1).missesOn 2 1 1)
      (fun d => (d.becomesMissing 2 1 1).judgeBeats)] := by decide +kernel

/-- Resynchronisation. -/
def rs0 : Resync := ⟨2, 1000, false, none, [], 0, []⟩
def resyncing (st : Nat) (r : Resync) (f : Dev → Dev := id) : Dev :=
  let d := regs [(F.TP_STATE_STATE, 0, 0, 2), (F.TP_CH_STATE, 2, 0, st)] plant
  f { d with tp := { d.tp with resync := some r } }
theorem test_w_Resynchronisation : ok [
    witEq (resyncing 3 rs0) (.repairComplete 0 false) (fun _ d => d.chState 2 == 3) (fun d => d.fenceChannel 2 7),
    witEq (resyncing 3 rs0 (fun d => regs [(F.TP_CH_STATE, 0, 0, 2), (F.TP_CH_STATE, 1, 0, 2)] d)) (.repairComplete 0 true) (fun _ d => d.bestDonor 2 == none) (fun d => { d with tp := { d.tp with resync := some { rs0 with selfTested := true } } }),
    wit (resyncing 3 rs0) (.repairComplete 0 true) (fun _ d => d.bestDonor 2 == some 0) (fun _ d e => e.chState 2 == 4 && e.tp.resync == some { rs0 with selfTested := true, donor := some 0, left := d.builtTiles } && d.builtTiles == [11]),
    wit (resyncing 4 ⟨2, 1000, true, some 0, [11], 998250, []⟩ fun d => { d with chans := setNth d.chans 0 { Chan.init with tiles := setNth Chan.init.tiles 11 ⟨[], { RankSt.init with nrank := 5 }⟩ } }) (.tileCopyComplete 0)
      (fun _ d => d.tileGroup 11 == some 3 && decide (d.now ≤ 998250 + 1750) && (d.chan 2).tiles.length == 12 && (d.ctile 0 11).rank.nrank == 5) (fun _ _ e => (e.ctile 2 11).rank.nrank == 5 && e.tp.resync == some ⟨2, 1000, true, some 0, [], 0, []⟩),
    wit (resyncing 4 ⟨2, 1000, true, some 0, [11], 998250, []⟩) (.tileCopyTimeout 0) (fun _ d => decide (998250 + 1750 ≤ d.now)) (fun _ _ e => e.chState 2 == 3 && e.chan 2 == .init),
    wit (resyncing 5 ⟨2, 1000, true, some 0, [], 0, [(3, 256, 4)]⟩) (.shadowComplete 0) (fun _ d => (List.range 4).all fun g => !(d.grp g).built || g == 3) (fun _ _ e => e.chState 2 == 1),
    witEq (resyncing 5 { rs0 with start := 1000000 } (at' 501000000)) (.resyncTimeout 0) (fun _ d => decide (1000000 + 500000000 ≤ d.now)) (fun d => (d.fenceChannel 2 0xA).voteAll),
    wit (regs [(F.GL_READY_JOURNAL, 0, 0, 1)]) (.channelSelfTestComplete 0 7) (fun _ d => !d.tp.started && d.get F.GL_START_KILN == 0 && [0, 1, 2].all fun ch => decide (d.get F.TP_CH_FENCES ch < d.get F.TP_CFG_FENCE_MAX)) (fun _ _ e => e.triplex == 1 && e.tp.started)] := by decide +kernel

/-- ProofAndCommands. -/
def proved (st : Nat) : Dev :=
  let d := at' 10000000 (regs [(F.TP_STATE_STATE, 0, 0, st), (F.GL_READY_FAULTS, 0, 0, 1)] plant)
  { d with tp := { d.tp with proofStart := some 3600000 } }
theorem test_w_ProofAndCommands : ok [
    witEq (at' 50000000 (regs [(F.TP_STATE_STATE, 0, 0, 3), (F.TP_CFG_SIMPLEX_LIMIT, 0, 0, 1)])) (.simplexLimit 0) (fun _ d => d.triplex == 3 && !d.tp.simplexDone && decide (d.tp.simplexAt + 50000000 * d.get F.TP_CFG_SIMPLEX_LIMIT ≤ d.now))
      (fun d => ({ d with tp := { d.tp with simplexDone := true } } : Dev).cond 0x2A true),
    wit (at' 1800000000000 (plant (fun h => { h with cfg := { grp3 with cycle := 4000 } }) body1 (regs [(F.TP_CFG_PROOF_PERIOD, 0, 0, 1)])) |> at' 1800000000000) (.proofPeriodExpiry 0)
      (fun _ d => d.get F.TP_CFG_PROOF_PERIOD == 1 && decide (d.tp.proofAt + 1800000000000 ≤ d.now) && d.proofGap && d.serving == [0, 1, 2]) (fun _ d e => e.get F.TP_PROOF_STATE == 1 && e.tp.proofStart == some d.now && e.on F.TP_CMD_BUSY),
    witEq (let d := plant; { d with tp := { d.tp with proofStart := some 5 } }) (.proofRunComplete 0 7) (fun _ d => d.triplex != 4 && decide (d.proofSteps < 128)) id,
    wit (proved 1) (.proofRunComplete 0 7) (fun _ d => d.triplex == 1 && decide (128 ≤ d.proofSteps))
      (fun _ d e => e.get F.TP_PROOF_STATE == 2 && e.get F.TP_PROOF_STEP == 128 && e.tp.proofAt == d.now && e.get F.TP_PROOF_RESULT == 0 && e.get F.TP_PROOF_FAILED == 0),
    wit (proved 1) (.proofRunComplete 0 3) (fun _ d => d.inService 2) (fun _ _ e => e.get F.TP_PROOF_RESULT == 1 && e.get F.TP_PROOF_FAILED == 4 && e.chState 2 != 1),
    wit (proved 1) (.proofRunComplete 0 0) (fun _ d => d.inService 0 && decide (128 ≤ d.proofSteps)) (fun _ _ e => e.get F.TP_PROOF_RESULT == 2 && e.get F.TP_PROOF_FAILED == 7),
    (let d := regs [(F.TP_CH_STATE, 0, 0, 2), (F.TP_CH_STATE, 1, 0, 2), (F.TP_CH_STATE, 2, 0, 2)] (proved 1); let d : Dev := { d with tp := { d.tp with everReady := true } }; d.serving == [] && d.refreshTriplex.triplex == 4 && d.refreshTriplex.get F.TP_PROOF_RESULT == 3 && d.refreshTriplex.tp.proofStart.isNone),
    wit (regs [(F.TP_STATE_STATE, 0, 0, 2), (F.TP_CH_STATE, 2, 0, 2)] (plant id body1 opened)) (.resync 0 0 2) (fun _ d => (d.refusal 0 true 0x60020).isNone && d.tpCheck 1 2 == 0) (fun _ _ e => e.chState 2 == 3 && e.tp.resync.map (·.ch) == some 2),
    witEq (plant id body1 opened) (.fence 0 0 2) (fun _ d => d.tpCheck 2 2 == 0) (fun d => ((d.set F.TP_CMD_RESULT 0).fenceChannel 2 9).voteAll),
    wit (regs [(F.TP_STATE_STATE, 0, 0, 2), (F.TP_CH_STATE, 2, 0, 6), (F.TP_CH_FENCES, 2, 0, 3)] (plant id body1 opened)) (.clear 0 0 2) (fun _ d => d.tpCheck 3 2 == 0) (fun _ _ e => e.get F.TP_CH_FENCES 2 == 0 && (e.chState 2 == 2 || e.chState 2 == 3)),
    wit (plant (fun h => { h with cfg := { grp3 with cycle := 4000 } }) body1 opened) (.proof 0 0 0) (fun _ d => d.tpCheck 4 0 == 0) (fun _ d e => e.get F.TP_PROOF_STATE == 1 && e.tp.proofStart == some d.now),
    witEq (plant id body1 opened) (.fence 0 0 3) (fun _ d => d.tpCheck 2 3 == 2) (fun d => d.set F.TP_CMD_RESULT 2),
    witEq (plant id body1 opened) (.clear 0 0 2) (fun _ d => d.tpCheck 3 2 != 0) (fun d => d.set F.TP_CMD_RESULT (d.tpCheck 3 2)),
    wit ready' (.tpCfgWrite 0 0 0x80010000) (fun _ d => (d.refusal 0 true 0x60004).isNone && d.tp.everReady && d.ready F.GL_READY_JOURNAL) (fun _ _ e => e.on F.TP_CFG_AUTO_RESYNC && e.get F.TP_CFG_FENCE_MAX == 1 && e.get F.TP_CFG_LATE_N == 4),
    wit opened (.tpCfgWrite 0 0 0x80010000) (fun _ d => !d.tp.everReady && (d.refusal 0 true 0x60004).isNone) (fun _ d e => e.bank == d.bank)] := by decide +kernel

/-- FaultLatches. -/
def fdev (n r : Nat) (d : Dev := plant) : Dev := regs [(F.FC_REACT_REACTION, n, 0, r), (F.FC_REACT_GROUPS, n, 0, 15), (F.GL_READY_FAULTS, 0, 0, 1)] d
theorem test_w_FaultLatches : ok [
    wit (fdev 0x155 0) (.faultRaise 0 0x155 77 true) (fun _ d => isSource 0x155 && !isLevel 0x155 && d.fc.due.isEmpty && !d.latched 0x155 && d.reaction 0x155 == 0)
      (fun _ d e => e.latched 0x155 && e.get F.FC_COUNT_COUNT 0x155 == 1 && e.fc.queue.map (fun r => (r.source, r.detail, r.typ)) == [(0x155, 77, 1)] && e.grps == d.grps && e.store.first == ⟨true, 0, 0x155, 0⟩),
    wit (let d := fdev 0x155 1; { d with store := { d.store with first := ⟨true, 0, 5, 0⟩ } }) (.faultRaise 0 0x155 77 true) (fun _ d => d.reaction 0x155 == 1 && d.store.first.valid && d.fc.firstAt != some d.now)
      (fun _ d e => e.store.first == d.store.first && e.fc.queue.map (fun r => (r.source, testBit r.flags 1)) == [(0x155, false)]),
    wit (let d := fdev 0x155 1; { d with store := { d.store with first := ⟨true, 0, 0x1A0, 0⟩ }, fc := { d.fc with firstAt := some d.now } }) (.faultRaise 0 0x155 77 true) (fun _ d => d.store.first.valid && d.fc.firstAt == some d.now)
      (fun _ _ e => e.store.first.valid && e.store.first.sameTick == 1 && e.store.first.source == 0x155),
    wit (fdev 0x155 4) (.faultRaise 0 0x155 77 true) (fun _ d => d.reaction 0x155 == 4 && testBit (d.reactGroups 0x155) 3) (fun _ _ e => (e.grp 3).forced == some 0x0A && (e.grp 2).forced == none),
    wit (fdev 0x155 3) (.faultRaise 0 0x155 77 true) (fun _ d => d.reaction 0x155 == 3 && testBit (d.reactGroups 0x155) 3) (fun _ d e => e.latched 0x155 && e.fc.due == [] && e.degradeOf 3 && e.grps == d.grps),
    wit (fdev 0x155 5 (safe [] fun b => { b with params := { b.params with ssBrake := true } })) (.faultRaise 0 0x155 77 true) (fun _ d => d.reaction 0x155 == 5 && d.ready F.GL_READY_SAFETY && d.sb.params.ssBrake && d.brake == 1)
      (fun _ _ e => e.latched 0x155 && e.on F.FC_STATUS_SAFE_STATE && testBit (e.get F.SB_DEMAND_COND) 5 && e.brake == 2 && (e.grp 3).forced == some 0x0B),
    wit (fdev 0x31 2) (.faultRaise 0 0x31 1 true) (fun _ d => isSource 0x31 && d.fc.due.isEmpty && !d.latched 0x31 && d.reaction 0x31 == 2) (fun _ _ e => e.latched 0x31 && !e.inService 1),
    wit (fdev 0x13E 2 (laneDev up [(F.CM_LANE_STAT_TX_IDLE, 63, 1, 0)])) (.faultRaise 0 0x13E 1 true) (fun _ d => isSource 0x13E && d.reaction 0x13E == 2 && !d.on F.FC_COND_COND 0x13E) (fun _ _ e => e.on F.CM_LANE_STAT_TX_IDLE 63 1),
    wit (fdev 0x147 2 (laneDev up [(F.CM_LANE_STAT_TX_IDLE, 63, 1, 0)])) (.faultRaise 0 0x147 1 true) (fun _ d => isSource 0x147 && d.reaction 0x147 == 2 && !d.on F.FC_COND_COND 0x147) (fun _ _ e => e.on F.CM_LANE_STAT_TX_IDLE 63 1),
    wit (fdev 0x152 2) (.faultRaise 0 0x152 1 true) (fun _ d => isSource 0x152 && d.reaction 0x152 == 2 && !d.on F.FC_COND_COND 0x152) (fun _ _ e => e.get F.TB_PTP_PORT_W0_STATE 3 == 0),
    wit (fdev 0x17F 2) (.faultRaise 0 0x17F 1 true) (fun _ d => isSource 0x17F && d.reaction 0x17F == 2 && !d.on F.FC_COND_COND 0x17F) (fun _ _ e => (tabD e.si.svs 31 .init).samples == []),
    wit (fdev 0x1BF 2) (.faultRaise 0 0x1BF 1 true) (fun _ d => isSource 0x1BF && d.reaction 0x1BF == 2 && !d.on F.FC_COND_COND 0x1BF) (fun _ _ e => (tabD e.si.gos 63 .init).stNum == none),
    [1, 2, 3, 4].map (fun st => (regs [(F.TP_STATE_STATE, 0, 0, st)] (let d := plant; { d with tp := { d.tp with upsets := [0, 1, 0] } })).blockVote 11) == [some (.block 11), some (.block 11), some (.block 11), none],
    (let d := regs [(F.TP_STATE_STATE, 0, 0, 3), (F.TP_CH_STATE, 0, 0, 2), (F.TP_CH_STATE, 1, 0, 2)] plant; d.serving == [2] && d.blockVote 11 == d.blockFrame 11 2)] := by decide +kernel

/-- FaultRecords. -/
def rec1 : LogRec := { LogRec.blank with source := 0x155, typ := 1, ok := true }
def queued (l : List LogRec) (d : Dev) : Dev := { d with fc := { d.fc with queue := l } }
theorem test_w_FaultRecords : ok [
    witEq plant (.faultRaise 0 0x158 7 true) (fun _ _ => isSource 0x158 && isLevel 0x158) (fun d => d.cond 0x158 true 7),
    witEq plant (.faultRaise 0 0x152 7 true) (fun _ _ => isSource 0x152 && isLevel 0x152) (fun d => (d.set F.TB_PTP_PORT_W0_STATE 2 3).cond 0x152 true 7),
    witEq (regs [(F.FC_COND_COND, 0x158, 0, 1)]) (.faultRaise 0 0x158 7 false) (fun _ d => d.on F.FC_COND_COND 0x158) (fun d => d.flag F.FC_COND_COND false 0x158),
    wit plant (.faultRaise 0 0x149 7 true) (fun _ _ => isSource 0x149 && isLevel 0x149) (fun _ _ e => e.on F.FC_COND_COND 0x149 && e.on F.CM_LANE_STAT_TX_IDLE 63 1 && e.cm.dieBad == [false, true]),
    witEq plant (.faultRaise 0 0x153 7 true) (fun _ _ => isSource 0x153 && isLevel 0x153) (fun d => d.safetyInternal true),
    wit (queued [rec1, rec1] base) (.logRecordCommit 0) (fun _ d => d.fc.queue == [rec1, rec1]) (fun _ d e => e.fc.queue == [rec1] && e.store.lseq == d.store.lseq + 1 && tabGet e.store.log e.store.head == some { rec1 with seq := d.store.lseq + 1 } && e.get F.FC_LOG_STAT_QUEUE == 1),
    witEq (queued [rec1] (regs [(F.FC_LATCH_LATCH, 0x155, 0, 1), (F.GL_READY_FAULTS, 0, 0, 1)] opened)) (.faultClear 0 0 10 0x200000) (fun _ d => (d.refusal 0 true 0x40128).isNone && d.role 0 == 0 && d.latched 0x155 && (List.range 32).filter (testBit 0x200000) == [21])
      (fun d => d.count F.FC_STATUS_CLEAR_REFUSED),
    wit (regs [(F.FC_LATCH_LATCH, 0x155, 0, 1), (F.GL_READY_FAULTS, 0, 0, 1)] opened) (.faultClear 0 0 10 0x200000) (fun _ d => d.latched 0x155 && !isLevel 0x155) (fun _ _ e => !e.latched 0x155 && e.fc.queue.map (fun r => (r.typ, r.source)) == [(2, 0x155)]),
    witEq base (.collectorSelfCheck 0 3 false) (fun _ _ => true) (fun d => d.addTo F.FC_SELF_CORR 3),
    wit base (.collectorSelfCheck 0 0 true) (fun _ d => !d.on F.FC_STATUS_DIRECT) (fun _ _ e => e.on F.FC_STATUS_DIRECT && e.on F.FC_STATUS_SAFE_STATE && e.latched 0),
    witEq plant (.faultRaise 0 0x155 7 false) (fun _ _ => !isLevel 0x155) id,
    witEq (regs [(F.FC_LATCH_LATCH, 0x158, 0, 1), (F.FC_COND_COND, 0x158, 0, 1), (F.GL_READY_FAULTS, 0, 0, 1)] opened) (.faultClear 0 0 10 0x1000000) (fun _ d => d.latched 0x158 && isLevel 0x158 && d.on F.FC_COND_COND 0x158)
      (fun d => d.count F.FC_STATUS_CLEAR_REFUSED),
    witEq (regs [(F.HC_CTX_CFG_ROLE, 0, 0, 2), (F.FC_LATCH_LATCH, 0x155, 0, 1)] opened) (.faultClear 0 0 10 0x200000) (fun _ d => (d.refusal 0 true 0x40128).isNone && d.role 0 == 2) id,
    witEq opened (.clearFirst 0 0) (fun _ d => (d.refusal 0 true 0x40010).isNone && !d.ready F.GL_READY_FAULTS) (fun d => d.set F.FC_CMD_RESULT 3),
    witEq opened (.eraseLog 0 0) (fun _ d => !d.ready F.GL_READY_FAULTS) (fun d => d.set F.FC_CMD_RESULT 3),
    wit (at' 50000 (regs [(F.GL_READY_FAULTS, 0, 0, 1)])) (.errNRelease 0) (fun _ d => d.fc.errLow && !d.errCase && decide (d.pins.errSince + 50000 ≤ d.now)) (fun _ _ e => !e.fc.errLow && !e.on F.FC_STATUS_ERR_PIN),
    wit (let d := fdev 1 0 opened; { d with store := { d.store with first := ⟨true, 0, 5, 0⟩ } }) (.clearFirst 0 0) (fun _ d => (d.refusal 0 true 0x40010).isNone && d.ready F.GL_READY_FAULTS && d.store.first.valid) (fun _ _ e => !e.store.first.valid && e.get F.FC_CMD_RESULT == 0),
    wit (let d := fdev 1 0 opened; { d with store := { d.store with log := [(0, rec1)], lseq := 1 } }) (.eraseLog 0 0) (fun _ d => d.ready F.GL_READY_FAULTS) (fun _ _ e => e.store.log == [] && e.store.lseq == 1 && e.fc.queue.map (·.typ) == [5]),
    wit { ready' with store := { ready'.store with log := [(4095, rec1)] } } (.logIndexWrite 0 0 ⟨4095, []⟩) (fun _ d => (d.refusal 0 true 0x40024).isNone && d.ready F.GL_READY_FAULTS && d.fc.win.length == 8) (fun _ _ e => nth e.fc.win 0 .blank == rec1 && e.get F.FC_LOG_IDX_INDEX 0 == 4095),
    wit { ready' with store := { ready'.store with log := [(4095, rec1)] } } (.logIndexWrite 0 0 ⟨4095, [⟨.log 4095, true⟩]⟩) (fun _ d => d.ready F.GL_READY_FAULTS) (fun _ d e => nth e.fc.win 0 .blank == tabD (d.readStore [⟨.log 4095, true⟩]).store.log 4095 .blank && nth e.fc.win 0 .blank != rec1),
    witEq opened (.logIndexWrite 0 0 ⟨4095, []⟩) (fun _ d => (d.refusal 0 true 0x40024).isNone && !d.ready F.GL_READY_FAULTS) id,
    witEq plant (.faultRaise 0 0x15E 0x504 true) (fun _ d => d.host.ctxs.length == 8) (fun d => ((d.modCtx 4 fun c => { c with aer := c.aer ||| 2 ^ 5 }).count F.HC_PORT_UNCORR 1).raise 0x15E 0x504),
    witEq (regs [(F.TB_PTP_PORT_W0_STATE, 3, 0, 0)] (let d := plant; { d with fc := { d.fc with taken := [(0x152, 2)] } }) |> regs [(F.FC_LATCH_LATCH, 0x152, 0, 1)]) (.faultRaise 0 0x152 7 true) (fun _ d => d.isFenced 0x152) (fun d => d.cond 0x152 true 7),
    wit (regs [(F.HC_CTX_CFG_ROLE, 0, 0, 1), (F.FC_LATCH_LATCH, 0x155, 0, 1), (F.GL_READY_FAULTS, 0, 0, 1)] opened) (.faultClear 0 0 10 0x200000) (fun _ d => d.role 0 == 1 && (d.refusal 0 true 0x40128).isNone && tabD d.fc.taken 0x155 0 % 16 != 5) (fun _ _ e => !e.latched 0x155),
    witEq (let d := regs [(F.HC_CTX_CFG_ROLE, 0, 0, 1), (F.FC_LATCH_LATCH, 0x155, 0, 1), (F.GL_READY_FAULTS, 0, 0, 1)] opened; { d with fc := { d.fc with taken := [(0x155, 5)] } }) (.faultClear 0 0 10 0x200000) (fun _ d => d.role 0 == 1 && tabD d.fc.taken 0x155 0 % 16 == 5) id] := by decide +kernel

/-- Injection. -/
def inj1 : Inj := ⟨0, 64, 0, true, true, 5, true⟩
def injDev (j : Option Inj) : Dev := { ready' with fc := { ready'.fc with inj := j } }
def deb : Dev := regs [(F.GP_MODE_SWITCHING, 3, 0, 1), (F.GP_MODE_MODE, 3, 0, 4)] (plant id body1 (injDev none))
theorem test_w_Injection : ok [
    witEq { opened with fc := { opened.fc with inj := some inj1 } } (.inject 0 0 0 0 true true) (fun _ d => (d.refusal 0 true 0x40030).isNone && !d.ready F.GL_READY_FAULTS) id,
    witEq (regs [(F.GP_MODE_MODE, 3, 0, 2)] (plant id body1 (injDev none))) (.inject 0 0 4 0 true true) (fun _ d => decide (d.get F.FC_INJ_ADDR_ADDR < 512) && !d.anyDeblocked && !d.allIsolated) (fun d => d.set F.FC_INJ_RESULT 4),
    witEq (injDev (some inj1)) (.inject 0 0 0 0 true true) (fun _ d => (d.refusal 0 true 0x40030).isNone) (fun d => d.set F.FC_INJ_RESULT 1),
    witEq (injDev none) (.inject 0 0 5 0 true true) (fun _ d => d.fc.inj.isNone) (fun d => d.set F.FC_INJ_RESULT 2),
    witEq deb (.inject 0 0 0 0 true true) (fun _ d => d.anyDeblocked && decide (d.get F.FC_INJ_ADDR_ADDR < workSize)) (fun d => d.set F.FC_INJ_RESULT 3),
    witEq (regs [(F.FC_INJ_ADDR_ADDR, 0, 0, 64)] (injDev none)) (.inject 0 0 0 0 true true) (fun _ d => !d.anyDeblocked && decide (d.get F.FC_INJ_ADDR_ADDR < workSize)) (fun d => { d with fc := { d.fc with inj := some ⟨0, 64, 0, true, true, 0, false⟩ } }),
    witEq (injDev (some { inj1 with armed := false })) (.injectionArmed 0) (fun _ d => d.fc.inj.isSome) (fun d => ({ d with fc := { d.fc with inj := some { inj1 with since := 0 } } } : Dev).flag F.FC_INJ_ARMED true),
    witEq (injDev (some { inj1 with two := false, target := 4 })) (.injectionFire 0 true) (fun _ _ => true) (fun d => (d.endInjection 0).count F.FC_SELF_CORR),
    witEq (injDev (some { inj1 with target := 4 })) (.injectionFire 0 true) (fun _ _ => true) (fun d => (d.endInjection 0).directSafe 64 true),
    witEq (injDev (some { inj1 with target := 4, two := false, real := false })) (.injectionFire 0 false) (fun _ _ => true) (fun d => (d.endInjection 0).directSafe 64 false),
    witEq (injDev (some { inj1 with two := false })) (.injectionFire 0 true) (fun _ _ => true) (fun d => { d.endInjection 0 with fc := { (d.endInjection 0).fc with corrected := setNth d.fc.corrected 0 (nth d.fc.corrected 0 0 + 1) } }),
    wit (injDev (some { inj1 with two := false, real := false })) (.injectionFire 0 false) (fun _ d => d.fc.due.isEmpty) (fun _ _ e => e.fc.inj.isNone && e.latched 2),
    witEq (injDev (some inj1)) (.injectionArmed 0) (fun _ d => d.fc.inj == some inj1) id,
    wit (injDev (some { inj1 with target := 4, real := false })) (.injectionFire 0 true) (fun _ d => d.fc.due.isEmpty) (fun _ _ e => e.fc.inj.isNone),
    wit (injDev (some { inj1 with real := false })) (.injectionFire 0 true) (fun _ d => d.fc.due.isEmpty) (fun _ _ e => e.fc.inj.isNone && e.get F.FC_INJ_RESULT == 0),
    witEq (at' 500000005 (injDev (some inj1))) (.injectionExpired 0) (fun _ d => decide (5 + 500000000 ≤ d.now)) (fun d => d.endInjection 5),
    wit (regs [(F.FC_IRQ_PENDING, 7, 0, 1)] opened) (.irqPendingClear 0 0 7 true 1 0) (fun _ d => (d.refusal 0 true 0x4005C).isNone && d.host.ctxs.length == 8) (fun _ _ e => !e.on F.FC_IRQ_PENDING 7 && !(e.ctx 7).held.contains 0),
    witEq (regs [(F.HC_CTX_CFG_ROLE, 0, 0, 2)] opened) (.irqPendingClear 0 0 7 true 1 0) (fun _ d => d.refusal 0 true 0x4005C == some 0) (fun d => d.refuse 0 false true 0 0x4005C),
    witEq opened (.irqPendingClear 0 0 7 false 1 0) (fun _ d => (d.refusal 0 true 0x102F4).isNone) (fun d => d.refuse 0 false true 0 0x102F4),
    wit (regs [(F.HC_IRQ_STAT_STAT, 0, 0, 0xFFF)] opened) (.irqPendingClear 0 0 0 false 0x1000 0) (fun _ d => (d.refusal 0 true 0x10134).isNone) (fun _ _ e => !testBit (e.get F.HC_IRQ_STAT_STAT 0) 11)] := by decide +kernel

/-- Injection: a word of channel state, where the state of a tile has more than 0 words (their number is open). -/
theorem test_w_Injection_channel (h : 0 < Config.tileStateWords) : ∀ d ∈ [State.seen ⟨deb, []⟩ 0, State.seen ⟨regs [(F.TP_STATE_STATE, 0, 0, 2)] deb, []⟩ 0],
    d.live = true ∧ d.refusal 0 true 0x40030 = none ∧ d.ready F.GL_READY_FAULTS = true ∧ d.fc.inj = none ∧ (d.busyTiles.any (·.1 == 11)) = true ∧ d.get F.FC_INJ_ADDR_ADDR < Config.tileStateWords ∧
      (d.triplex = 1 ∨ d.triplex = 2) := by
  intro d hd
  have k : d.live = true ∧ d.refusal 0 true 0x40030 = none ∧ d.ready F.GL_READY_FAULTS = true ∧ d.fc.inj = none ∧ (d.busyTiles.any (·.1 == 11)) = true ∧ d.get F.FC_INJ_ADDR_ADDR = 0 ∧
      (d.triplex = 1 ∨ d.triplex = 2) := by
    revert d; decide +kernel
  obtain ⟨a, b, c, e, f, g, i⟩ := k
  exact ⟨a, b, c, e, f, by rw [g]; exact h, i⟩

/-- BrakeDemands. -/
theorem test_w_BrakeDemands : ok [
    wit (safe []) (.sbcReqInput 0 true) (fun _ d => d.ready F.GL_READY_SAFETY && d.brake == 1) (fun _ _ e => testBit (e.get F.SB_DEMAND_IN_FORCE) 0 && e.brake == 2 && !e.on F.SB_STATUS_HOLD_1 && !e.on F.SB_STATUS_HOLD_2),
    wit (safe [(F.SB_DEMAND_COND, 0, 0, 1)]) (.sbcReqInput 0 false) (fun _ _ => true) (fun _ _ e => !testBit (e.get F.SB_DEMAND_COND) 0),
    wit (safe []) (.tripInput 0 3 true) (fun _ d => d.bound 63 && testBit (nth d.sb.params.tripCourses 3 0) 63) (fun _ _ e => testBit (e.get F.SB_STATUS_TRIP) 3 && e.get F.SB_COURSE_STATE 63 == 1),
    witEq (regs [(F.GL_READY_SAFETY, 0, 0, 0)] (safe [])) (.sbcReqInput 0 true) (fun _ d => !d.ready F.GL_READY_SAFETY) (fun d => (d.flag F.SB_STATUS_SBC_REQ true).setBit F.SB_DEMAND_COND 0 true),
    wit (safe [(F.SB_STATUS_TRIP, 0, 0, 8)]) (.tripInput 0 3 false) (fun _ _ => true) (fun _ _ e => e.get F.SB_STATUS_TRIP == 0),
    witEq (safe []) (.safetyOscillatorCheck 0 16 0) (fun _ _ => true) (fun d => (d.flag F.SB_STATUS_OSC_OK false).safetyInternal true),
    witEq (safe []) (.safetyOscillatorCheck 0 15 (-15)) (fun _ _ => true) (fun d => (d.flag F.SB_STATUS_OSC_OK true).safetyInternal false),
    wit (safe [(F.SB_SEAL_EXPECTED, 0, 0, 0xABC)]) (.sealCheck 0 0xABC) (fun _ d => d.get F.SB_SEAL_EXPECTED == 0xABC) (fun _ _ e => e.on F.SB_SEAL_MATCH && !e.on F.FC_COND_COND 0x154),
    wit (safe [(F.SB_SEAL_EXPECTED, 0, 0, 0xABC)]) (.sealCheck 0 0xABD) (fun _ d => d.get F.SB_SEAL_EXPECTED == 0xABC) (fun _ _ e => !e.on F.SB_SEAL_MATCH && e.on F.SB_SEAL_CHANGED && e.on F.FC_COND_COND 0x154),
    wit (let d := safe [(F.SB_SEAL_EXPECTED, 0, 0, 0xABC)]; { d with pins := { d.pins with sealPins := 0xABD } }) (.sealCheck 0 0xABD) (fun _ d => d.pins.sealPins == 0xABD && !d.on F.SB_SEAL_CHANGED) (fun _ _ e => !e.on F.SB_SEAL_MATCH && !e.on F.SB_SEAL_CHANGED),
    wit (safe [] fun b => { b with ovInvalid := some 900000, params := { b.params with ovEn := true, ovLossBrake := true } }) (.ovLossTimeout 0) (fun _ d => decide (900000 + safeUs d.sb.params.ovLoss ≤ d.now)) (fun _ _ e => e.on F.FC_COND_COND 0x159 && testBit (e.get F.SB_DEMAND_IN_FORCE) 2 && e.brake == 2),
    wit (safe [(F.SB_DEMAND_IN_FORCE, 0, 0, 2), (F.SB_STATUS_BRAKE, 0, 0, 2)] fun b => { b with ovEnd := some 0 }) (.automaticDemandEnd 0) (fun _ d => d.sb.lossEnd.isNone && decide (safeUs (1000 * d.sb.params.restoreT) ≤ d.now) && !testBit (d.get F.SB_DEMAND_COND) 1) (fun _ _ e => e.get F.SB_DEMAND_IN_FORCE == 0 && e.brake == 1),
    wit (safe []) (.apply 0 0) (fun _ d => (d.refusal 0 true 0x50020).isNone && d.sbCheck 0 1 == 0 && d.brake == 1) (fun _ _ e => testBit (e.get F.SB_DEMAND_IN_FORCE) 4 && e.brake == 2),
    wit (safe [(F.SB_DEMAND_IN_FORCE, 0, 0, 0x11), (F.SB_STATUS_BRAKE, 0, 0, 2)]) (.restore 0 0) (fun _ d => d.sbCheck 0 2 == 0 && d.sb.stepAt != d.now) (fun _ _ e => e.get F.SB_DEMAND_IN_FORCE == 0 && e.brake == 1),
    wit (safe [(F.SB_DEMAND_IN_FORCE, 0, 0, 0x11), (F.SB_STATUS_BRAKE, 0, 0, 2)] fun b => { b with stepAt := 1000000, stepMask := 0x10 }) (.restore 0 0) (fun _ d => d.sbCheck 0 2 == 0 && d.sb.stepAt == d.now) (fun _ _ e => e.get F.SB_DEMAND_IN_FORCE == 0x10 && e.brake == 2),
    witEq (safe [(F.SB_DEMAND_COND, 0, 0, 1)]) (.restore 0 0) (fun _ d => d.sbCheck 0 2 == 6) (fun d => d.set F.SB_CMD_RESULT 6),
    witEq (regs [(F.GL_READY_SAFETY, 0, 0, 0)] (safe [])) (.apply 0 0) (fun _ d => (d.refusal 0 true 0x50020).isNone && d.sbCheck 0 1 == 3) (fun d => d.set F.SB_CMD_RESULT 3)] := by decide +kernel

/-- SafetyBlock. -/
def holdTest (o p : Nat) : SbSt → SbSt := fun b => { b with test := some ⟨o, p, 900000⟩ }
def masked (rs : List (Fld × Nat × Nat × Nat)) (f : SbSt → SbSt := id) : Dev := safe ([(F.SB_CMD_MASK_HI_MASK_HI, 0, 0, 0x80000000)] ++ rs) f
theorem test_w_SafetyBlock : ok [
    wit (safe []) (.test 0 0) (fun _ d => (d.refusal 0 true 0x50020).isNone && d.sbCheck 0 3 == 0 && d.sb.test.isNone) (fun _ d e => e.sb.test == some ⟨1, 0, d.now⟩ && e.sb.cmdTests == [2] && !e.on F.SB_STATUS_HOLD_1 && e.on F.SB_STATUS_HOLD_2),
    witEq (safe [(F.SB_STATUS_BRAKE, 0, 0, 2)]) (.test 0 0) (fun _ d => d.sbCheck 0 3 != 0) (fun d => d.set F.SB_CMD_RESULT (d.sbCheck 0 3)),
    wit (safe [] (holdTest 1 0)) (.test 0 0) (fun _ d => d.sbCheck 0 3 == 0 && d.sb.test.isSome) (fun _ _ e => e.sb.cmdTests == [1, 2] && e.on F.SB_CMD_BUSY && e.sb.test == some ⟨1, 0, 900000⟩),
    wit (safe []) (.offPulseTest 0 true) (fun _ d => d.brake == 1 && nth d.sb.due 1 0 == 0 && !d.on F.SB_STATUS_DEGRADED) (fun _ d e => e.sb.test == some ⟨2, 0, d.now⟩ && !e.on F.SB_STATUS_HOLD_2),
    wit (safe [] (holdTest 2 0)) (.offPulseEnd 0 true) (fun _ d => decide (900000 + safeUs d.sb.params.opLen ≤ d.now)) (fun _ _ e => e.sb.test == some ⟨2, 1, 900000⟩),
    wit (safe [] (holdTest 2 0)) (.offPulseEnd 0 false) (fun _ d => d.sb.cmdTests.isEmpty) (fun _ _ e => e.sb.test.isNone && e.get (lastFld 2) == 2 && e.on F.FC_COND_COND 0x157),
    wit (safe [] (holdTest 2 1)) (.offPulseVerify 0 false) (fun _ d => decide (900000 + safeUs (d.sb.params.opLen + d.sb.params.fbRise) ≤ d.now)) (fun _ _ e => e.sb.test.isNone && e.get (lastFld 2) == 3 && e.on (failFld 2)),
    wit (safe [] (holdTest 1 1)) (.offPulseVerify 0 true) (fun _ _ => true) (fun _ _ e => e.get (lastFld 1) == 1 && !e.on (failFld 1)),
    wit (safe []) (.feedbackDiscrepancy 0 true false) (fun _ d => d.ready F.GL_READY_SAFETY && d.sb.test.isNone && d.on F.SB_STATUS_HOLD_2) (fun _ _ e => e.get (lastFld 2) == 4 && e.on (failFld 2) && !e.on (fbFld 2) && testBit (e.get F.SB_DEMAND_COND) 8),
    wit (at' 30000000000 (safe [(F.SB_STATUS_DEGRADED, 0, 0, 1)])) (.degradedMinute 0) (fun _ d => d.on F.SB_STATUS_DEGRADED && decide (d.sb.degSince + safeUs 60000000 ≤ d.now)) (fun _ _ e => e.store.degMinutes == 1 && e.get F.SB_DEG_ELAPSED == 1),
    wit (masked []) (.safeBlock 0 0) (fun _ d => d.sbCheck 0 4 == 0 && testBit d.sbMask 63) (fun _ _ e => e.get F.SB_COURSE_STATE 63 == 1),
    wit (masked [(F.SB_COURSE_STATE, 63, 0, 3)]) (.release 0 0) (fun _ d => d.sbCheck 0 5 == 0) (fun _ _ e => e.get F.SB_COURSE_STATE 63 == 2),
    wit (masked [(F.SB_COURSE_STATE, 63, 0, 1), (F.SB_COURSE_CAUSE, 63, 0, 8), (F.SB_COURSE_SEQ, 63, 0, 9)]) (.safeBlock 0 0) (fun _ d => d.sbCheck 0 4 == 0 && d.get F.SB_COURSE_STATE 63 == 1) (fun _ _ e => e.get F.SB_COURSE_STATE 63 == 1 && e.get F.SB_COURSE_CAUSE 63 == 8 && e.get F.SB_COURSE_SEQ 63 == 9),
    witEq (masked [(F.SB_COURSE_STATE, 63, 0, 1)] fun b => { b with courses := [(63, ⟨0, 0, 0, [], false, some 1000000⟩)] }) (.release 0 0) (fun _ d => d.ready F.GL_READY_SAFETY && d.isOwner 0 && (tabD d.sb.courses 63 .init).trigAt == some d.now && d.bound 63 && d.sbCheck 0 5 == 6) (fun d => d.set F.SB_CMD_RESULT 6),
    wit (at' 30000000000 (safe [(F.SB_STATUS_DEGRADED, 0, 0, 1)] fun b => { b with params := { b.params with degLimit := 1 } }) |> fun d => { d with store := { d.store with degMinutes := 5 } }) (.degradedMinute 0) (fun _ d => decide (6 * d.sb.params.degLimit ≤ satInc 0xFFFF d.store.degMinutes) && d.brake == 1)
      (fun _ _ e => e.on F.FC_COND_COND 0x158 && testBit (e.get F.SB_DEMAND_IN_FORCE) 8 && e.brake == 2),
    witEq (safe []) (.safeBlock 0 0) (fun _ d => d.sbCheck 0 4 == 5) (fun d => d.set F.SB_CMD_RESULT 5),
    wit (let d := safe [(F.SB_COURSE_STATE, 63, 0, 1), (F.SB_COURSE_SEQ, 63, 0, 9)] fun b => { b with courses := [(63, ⟨1000000, 0, 0, [], false, none⟩)] }; { d with cm := { d.cm with lanes := [(126, { LaneSt.init with rx := 4, working := true })] } }) (.safeBlockRepeat 0 63) (fun _ d => (d.lane 63 0).working)
      (fun _ d e => tabGet e.sb.courses 63 == some ⟨1000000 + safeUs 100, 0, 0, [], false, none⟩ && e.get F.SB_COURSE_SENT 63 == 1 && d.get F.SB_COURSE_SEQ 63 == 9),
    wit (safe [(F.SB_COURSE_STATE, 63, 0, 2)] fun b => { b with courses := [(63, ⟨1000000, 1, 0, [], false, none⟩)] }) (.safeReleaseRepeat 0 63) (fun _ d => d.get F.SB_COURSE_STATE 63 == 2) (fun _ _ e => (tabGet e.sb.courses 63).map (·.left) == some 0),
    witEq (safe [(F.SB_COURSE_STATE, 63, 0, 2)] fun b => { b with courses := [(63, ⟨1000000, 0, 507500, [], false, none⟩)] }) (.releaseTimeout 0 63) (fun _ d => decide (507500 + safeUs 1000 ≤ d.now)) (fun d => d.unrelease 63 (128 * 63 + (d.stillSafe 63).getD 0))] := by decide +kernel

/-- DmaCommands. -/
def desc (src len ctrl : Nat) : List (Fld × Nat × Nat × Nat) := [(F.DM_CH_ACT_ACTIVE, 31, 0, src), (F.DM_CH_ACT_ACTIVE, 31, 2, 0x2000), (F.DM_CH_ACT_ACTIVE, 31, 4, len), (F.DM_CH_ACT_ACTIVE, 31, 5, ctrl)]
def shadow (src len ctrl : Nat) : List (Fld × Nat × Nat × Nat) := (desc src len ctrl).map fun p => (F.DM_CH_SH_SHADOW, p.2)
def chan (st : Nat) (rs : List (Fld × Nat × Nat × Nat)) (f : DmaSt → DmaSt := id) : Dev :=
  let d := regs ([(F.GL_READY_DMA, 0, 0, 1), (F.DM_CH_STAT_STATE, 31, 0, st), (F.DM_FREE_FREE, 0, 0, 0x7FFFFFFF)] ++ rs) opened
  { d with dma := setNth d.dma 31 (f .init) }
theorem test_w_DmaCommands : ok [
    wit (regs [(F.DM_FREE_FREE, 0, 0, 0xFFFFFFFF)] (chan 0 [])) (.claim 0 0 31) (fun _ d => (d.refusal 0 true 0x91080).isNone && d.dmaCheck 0 31 1 == 0) (fun _ _ e => e.dmaState 31 == 1 && e.dmaOwner 31 == 0 && e.get F.DM_CH_CFG_PRIO 31 == 3 && e.get F.DM_FREE_FREE == 0x7FFFFFFF),
    wit (chan 1 []) (.releaseChannel 0 0 31) (fun _ d => d.dmaCheck 0 31 2 == 0) (fun _ _ e => e.dmaState 31 == 0 && e.get F.DM_FREE_FREE == 0xFFFFFFFF),
    wit (chan 1 (shadow 0x1000 64 0x40000000)) (.arm 0 0 31) (fun _ d => d.dmaCheck 0 31 3 == 0) (fun _ d e => e.active 31 == d.shadow 31 && e.get F.DM_CH_PASS_PASS 31 == 0),
    witEq (chan 2 (shadow 0x1000 64 0x40000000)) (.arm 0 0 31) (fun _ d => d.dmaCheck 0 31 3 == 0) (fun d => (d.set F.DM_CH_CMD_RESULT 0 31).flag F.DM_CH_STAT_ARMED true 31),
    wit (chan 2 (desc 0x1000 64 0x40000000)) (.pause 0 0 31) (fun _ d => d.dmaCheck 0 31 4 == 0) (fun _ _ e => e.dmaState 31 == 6 && (e.dmaCh 31).stopping == some (4, 0xB)),
    wit (chan 4 (desc 0x1000 64 0x40000000)) (.resume 0 0 31) (fun _ d => d.dmaCheck 0 31 5 == 0) (fun _ _ e => e.get F.DM_CH_STAT_HOPS 31 == 0 && among 2 3 (e.dmaState 31)),
    wit (chan 3 (desc 0x1000 64 0x40000000)) (.abort 0 0 31) (fun _ d => d.dmaCheck 0 31 6 == 0 && d.dmaActive 31) (fun _ _ e => e.dmaState 31 == 6 && (e.dmaCh 31).stopping == some (1, 2)),
    wit (chan 5 []) (.abort 0 0 31) (fun _ d => d.dmaCheck 0 31 6 == 0) (fun _ _ e => e.dmaState 31 == 1 && e.get F.DM_CH_STAT_CAUSE 31 == 2),
    witEq (chan 2 [(F.DM_CH_STAT_ARMED, 31, 0, 1)]) (.disarm 0 0 31) (fun _ d => d.dmaCheck 0 31 7 == 0) (fun d => (d.set F.DM_CH_CMD_RESULT 0 31).flag F.DM_CH_STAT_ARMED false 31),
    witEq (chan 1 []) (.abort 0 0 31) (fun _ d => d.dmaCheck 0 31 6 == 0) (fun d => d.set F.DM_CH_CMD_RESULT 0 31),
    wit (chan 3 (desc 0x1000 64 0x40000000)) (.releaseChannel 0 0 31) (fun _ d => d.dmaCheck 0 31 2 == 0 && d.dmaActive 31) (fun _ _ e => e.dmaState 31 == 6 && (e.dmaCh 31).stopping == some (0, 2)),
    wit (chan 1 (shadow 0x1000 64 0)) (.arm 0 0 31) (fun _ d => d.dmaCheck 0 31 3 == 7) (fun _ d e => e.get F.DM_CH_CMD_RESULT 31 == 7 && e.get F.DM_CH_DETAIL_RULE 31 == d.descRule 0 (d.shadow 31)),
    witEq (chan 0 []) (.dmaAcknowledge 0 0 31 true true 0) (fun _ d => (d.refusal 0 true 0x9108C).isNone && d.dmaState 31 == 0) (fun d => d.refuse 0 false true 0 0x9108C),
    witEq (chan 1 []) (.pause 0 0 31) (fun _ d => d.dmaCheck 0 31 4 == 6) (fun d => d.set F.DM_CH_CMD_RESULT 6 31),
    wit (chan 2 [(F.DM_CH_IRQ_HALF, 31, 0, 1), (F.DM_CH_IRQ_FULL, 31, 0, 1)]) (.dmaAcknowledge 0 0 31 true false 0) (fun _ d => (d.refusal 0 true 0x9108C).isNone && d.dmaOwner 31 == 0) (fun _ _ e => !e.on F.DM_CH_IRQ_HALF 31 && e.on F.DM_CH_IRQ_FULL 31)] := by decide +kernel

/-- DmaMoves: channel 31 of context 0 moves 64 bytes within the store, and a channel of the host waits for read data. -/
def inStore (st : Nat) (f : DmaSt → DmaSt := id) : Dev := chan st (desc 0x1000 64 0x60000000) f
def next1 : List (BitVec 8) := leBytes 4 0x3000 ++ leBytes 4 0 ++ leBytes 4 0x2000 ++ leBytes 4 0 ++ leBytes 4 64 ++ leBytes 4 0x40000000 ++ leBytes 4 0 ++ leBytes 4 0
theorem test_w_DmaMoves : ok [
    witEq (let d := chan 2 (desc 0x1000 64 0x20000000) (fun c => { c with held := List.replicate 64 7 }); { d with host := { d.host with moving := [some 31, none] } }) (.dmaSegmentBoundary 0 0 ⟨false, []⟩)
      (fun _ d => d.arbiter 0 == some 31 && nth d.host.moving 0 none == some 31 && (d.active 31).toStore && (d.active 31).srcKind != 3 && decide ((d.dmaCh 31).burst + (d.segEnd 31 - (d.dmaCh 31).pos) ≤ 512) && (d.each (d.portChannels 0) Dev.dmaSkip).each (d.portChannels 0) Dev.dmaAsk == d)
      (fun d => (d.dmaSegment 31 false 4).dmaShow 0),
    witEq (chan 2 (desc 0x1000 64 0x20000000) (fun c => { c with held := List.replicate 64 7, burst := 64 })) (.dmaSegmentBoundary 0 0 ⟨false, []⟩)
      (fun _ d => d.arbiter 0 == some 31 && nth d.host.moving 0 none == none && (d.each (d.portChannels 0) Dev.dmaSkip).each (d.portChannels 0) Dev.dmaAsk == d)
      (fun d => (({ (d.modDma 31 fun c => { c with burst := 0 }) with host := { d.host with moving := setNth d.host.moving 0 (some 31) } } : Dev).dmaSegment 31 false 4).dmaShow 0),
    witEq (let d := chan 2 (desc 0 256 0xE0000000) (fun c => { c with next := 1 }); { d with host := { d.host with moving := [some 31, none] }, store := { d.store with log := [(0, { rec1 with seq := 1 })], lseq := 1 } }) (.dmaSegmentBoundary 0 0 ⟨false, [⟨.log 5, false⟩]⟩)
      (fun _ d => d.arbiter 0 == some 31 && (d.active 31).srcKind == 3 && (d.dmaCh 31).burst == 0 && (d.each (d.portChannels 0) Dev.dmaSkip).each (d.portChannels 0) Dev.dmaAsk == d) (fun d => ((d.readStore [⟨.log 5, false⟩]).dmaSegment 31 false 4).dmaShow 0),
    witEq base (.dmaSegmentBoundary 0 1 ⟨false, []⟩) (fun _ d => d.arbiter 1 == none && d.dma.length == 32) (fun d => ({ d with host := { d.host with moving := setNth d.host.moving 1 none } } : Dev).dmaShow 1),
    witEq (chan 3 (desc 0x1000 64 0x20000000) (fun c => { c with late := [⟨0, 64, 5, 0⟩] })) (.dmaReadCompletion 0 31 [] false) (fun _ d => (d.dmaCh 31).lateFirst == some ⟨0, 64, 5, 0⟩) (fun d => d.modDma 31 fun c => { c with late := [] }),
    witEq (chan 3 ((F.HC_PORT_LINK_UP, 0, 0, 1) :: desc 0x1000 64 0x20000000) (fun c => { c with late := [⟨0, 64, 0, 0⟩] })) (.dmaReadTimeout 0 31) (fun _ d => !(d.dmaActive 31 && !d.on F.HC_PORT_LINK_UP 0 && d.isOpen 0) && (d.ownRead 31).isEmpty && (d.dmaCh 31).sent.isEmpty && !d.timedOut 0 0) id,
    wit (at' 1000000000 (chan 3 ((F.HC_PORT_LINK_UP, 0, 0, 1) :: desc 0x1000 64 0x20000000) (fun c => { c with asked := 64, held := List.replicate 96 7, sent := [(64, 5)] }))) (.dmaReadTimeout 0 31) (fun _ d => d.timedOut 0 5 && (d.ownRead 31).isEmpty && (d.active 31).srcKind == 0) (fun _ _ e => e.dmaState 31 == 6 && (e.dmaCh 31).stopping == some (5, 5) && (e.dmaCh 31).stopAt == 64),
    witEq (chan 3 (desc 0x1000 64 0x20000000) (fun c => { c with asked := 64 })) (.dmaReadCompletion 0 31 [1, 2, 3, 4] true) (fun _ d => d.dmaActive 31 && (d.dmaCh 31).asked == 64 && (d.active 31).srcKind == 0)
      (fun d => ((d.modDma 31 fun c => { c with held := [1, 2, 3, 4], asked := 60, since := d.now }).dmaAsk 31).dmaShow 0),
    wit (chan 3 (desc 0x1000 64 0x20000000) (fun c => { c with asked := 64 })) (.dmaReadCompletion 0 31 [] false) (fun _ d => (d.dmaCh 31).asked == 64) (fun _ _ e => e.dmaState 31 == 6 && (e.dmaCh 31).stopping == some (5, 6)),
    wit (inStore 3 fun c => { c with flush := true }) (.dmaReadTimeout 0 31) (fun _ d => (d.dmaCh 31).flush) (fun _ _ e => (e.dmaCh 31).stopping == some (5, 5)),
    wit (inStore 3 fun c => { c with flush := true }) (.dmaFlushComplete 0 31 false) (fun _ d => (d.dmaCh 31).flush) (fun _ _ e => (e.dmaCh 31).stopping == some (5, 6)),
    witEq (inStore 3 fun c => { c with flush := true, pos := 64 }) (.dmaFlushComplete 0 31 true) (fun _ d => (d.dmaCh 31).pos == (d.active 31).length') (fun d => (d.modDma 31 fun c => { c with flush := false }).passEnd 31),
    wit (inStore 2 fun c => { c with pos := 64 }) (.dmaPassEnd 0 31) (fun _ d => d.dmaActive 31 && (d.active 31).length' == 64 && !(d.active 31).irqFull && !(d.active 31).repeat' && !(d.active 31).chain) (fun _ _ e => e.dmaState 31 == 1 && e.get F.DM_CH_STAT_CAUSE 31 == 1 && e.get F.DM_CH_DONE_DONE 31 == 64 && e.on F.DM_CH_IRQ_DONE 31),
    wit (inStore 3 fun c => { c with fetch := true }) (.dmaDescriptorFetch 0 31 next1 true) (fun _ d => (d.dmaCh 31).fetch && !testBit ((d.active 31).at' 7) 31 && d.descRule 0 [0x3000, 0, 0x2000, 0, 64, 0x40000000, 0, 0] == 0 && next1.length == 32)
      (fun _ _ e => e.active 31 == [0x3000, 0, 0x2000, 0, 64, 0x40000000, 0, 0] && e.get F.DM_CH_STAT_HOPS 31 == 1),
    witEq (inStore 3 fun c => { c with fetch := true }) (.dmaDescriptorFetch 0 31 (List.replicate 32 0) true) (fun _ d => d.descRule 0 (List.replicate 8 0) == 1) (fun d => (d.set F.DM_CH_DETAIL_RULE 1 31).dmaFault 8 0 31),
    wit (inStore 6 fun c => { c with stopping := some (4, 0xB), pos := 32, stopAt := 32 }) (.dmaChannelStopped 0 31) (fun _ d => d.dmaState 31 == 6) (fun _ _ e => e.dmaState 31 == 4 && e.get F.DM_CH_STAT_CAUSE 31 == 0xB && e.get F.DM_CH_DONE_DONE 31 == 32 && (e.dmaCh 31).stopping.isNone)] := by decide +kernel

/-- WorkStoreWrites. -/
theorem test_w_WorkStoreWrites : ok [
    (let d := (base.pokeWords 0 [7] 0xF 0xF)
     d.work.wf && d.work.read 0 == 7 && ((d.pokeWords 0x10 [0x04030201, 9] 0xF 0x1).work.readBytes 0xE 10 == [0, 0, 1, 2, 3, 4, 9, 0, 0, 0])),
    (let d := chan 2 (desc 0x1000 64 0x20000000)
     d.work.wf && d.dma.length == 32 && (d.active 31).toStore && (d.active 31).swap == 0 && (d.dmaWrite 31 [1, 2, 0, 4] 0 0).work.readBytes 0x1FFF 6 == [0, 1, 2, 0, 4, 0])] := by decide +kernel

/-- LineCode: the key bits R223 gives after a comma, the bit R224 inserts after a run of 9, RANK frames, and the length
of a comma of a training burst (R235). -/
theorem test_w_LineCode : ok [
    decide (scramble lfsrLoad (List.replicate 8 false) = [true, true, true, false, false, true, false, true]),
    decide (stuff false 8 [false, false] = [false, true, false]), decide (unstuff false 8 [false, true, false] = [false, false]),
    decide ((Frame.rank 11 5 (List.replicate 125 (0x1FFF, 7))).comma = 0x96), decide (checkFrame (Frame.rank 11 5 (List.replicate 2 (0x1FFF, 7))).bytes false = .ok),
    decide (72 ≤ (lineOf 0xCA (List.replicate 40 false)).length)] := by decide +kernel

end Sys2Proof.Tests
end

section
/-! PROOF. What every command changes at most (R5, R18): each arm of the dispatch is one effect on the device, and the files
Laws/Keeps*.lean say what that effect may change. -/

namespace Sys2Proof.Machine

/-- A command completes in every state in which the device works, and its own effect stays within its scope, if it has one. -/
def KeepsScope (c : Instr) : Prop :=
  ∀ (s : State) (S : Scope), touches c = some S → (s.seen (ticksOf c)).live = true →
    ∃ e : Dev, exec c s = .next (s.settled e) ∧ Dev.keeps S (s.seen (ticksOf c)) e

/-- A command that is an effect on the device stays within its scope if that holds what the effect may change. -/
theorem KeepsScope.of_cmd {c : Instr} {S T : Scope} {f : Dev → Dev} (hS : touches c = some S)
    (hx : ∀ s, exec c s = .next (s.cmd (ticksOf c) f)) (hf : ∀ d, Dev.keeps T d (f d)) (hT : T.le S = true := by decide +kernel) :
    KeepsScope c := by
  intro s S' hS' hl
  obtain rfl : S = S' := Option.some.inj (hS.symm.trans hS')
  exact ⟨f (s.seen (ticksOf c)), by rw [hx, State.cmd_live s _ f hl], Dev.keeps_mono hT (hf _)⟩

/-- Of a command without a scope nothing is claimed. -/
theorem KeepsScope.of_none {c : Instr} (h : touches c = none) : KeepsScope c := by
  intro s S hS
  rw [h] at hS
  cases hS

/-- Every command keeps its scope: one arm per command, with the law of its effect. -/
theorem keepsScope : ∀ c : Instr, KeepsScope c
  | .registerWrite .. | .readClear .. | .w1cClear .. | .powerUp .. | .powerLoss .. | .resetNFall ..
  | .resetNRise .. | .pairLowRead .. | .pairHighRead .. | .pairLowWrite .. | .pairHighWrite .. => .of_none rfl
  | .settingsRecordCommit .. => .of_cmd rfl (fun _ => rfl) fun _ => settingsRecordCommit_keeps ..
  | .journalSnapshot .. => .of_cmd rfl (fun _ => rfl) fun _ => journalSnapshot_keeps ..
  | .perstLow .. => .of_cmd rfl (fun _ => rfl) fun _ => perstLow_keeps ..
  | .deviceRecordsChecked .. => .of_cmd rfl (fun _ => rfl) fun _ => deviceRecordsChecked_keeps ..
  | .activeSlotCheck .. => .of_cmd rfl (fun _ => rfl) fun _ => activeSlotCheck_keeps ..
  | .structureBuild .. => .of_cmd rfl (fun _ => rfl) fun _ => structureBuild_keeps ..
  | .journalReplay .. => .of_cmd rfl (fun _ => rfl) fun _ => journalReplay_keeps ..
  | .faultsReady .. => .of_cmd rfl (fun _ => rfl) fun _ => faultsReady_keeps ..
  | .safetyReady .. => .of_cmd rfl (fun _ => rfl) fun _ => safetyReady_keeps ..
  | .groupRestore .. => .of_cmd rfl (fun _ => rfl) fun _ => groupRestore_keeps ..
  | .kilnCodeWrite .. => .of_cmd rfl (fun _ => rfl) fun _ => kilnCodeWrite_keeps ..
  | .kilnTimeout .. => .of_cmd rfl (fun _ => rfl) fun _ => kilnTimeout_keeps ..
  | .load .. => .of_cmd rfl (fun _ => rfl) fun _ => load_keeps ..
  | .loadComplete .. => .of_cmd rfl (fun _ => rfl) fun _ => loadComplete_keeps ..
  | .verify .. => .of_cmd rfl (fun _ => rfl) fun _ => verify_keeps ..
  | .verifyComplete .. => .of_cmd rfl (fun _ => rfl) fun _ => verifyComplete_keeps ..
  | .activate .. => .of_cmd rfl (fun _ => rfl) fun _ => activate_keeps ..
  | .activateComplete .. => .of_cmd rfl (fun _ => rfl) fun _ => activateComplete_keeps ..
  | .erase .. => .of_cmd rfl (fun _ => rfl) fun _ => erase_keeps ..
  | .eraseComplete .. => .of_cmd rfl (fun _ => rfl) fun _ => eraseComplete_keeps ..
  | .raiseFloor .. => .of_cmd rfl (fun _ => rfl) fun _ => raiseFloor_keeps ..
  | .raiseFloorComplete .. => .of_cmd rfl (fun _ => rfl) fun _ => raiseFloorComplete_keeps ..
  | .keyrec .. => .of_cmd rfl (fun _ => rfl) fun _ => keyrec_keeps ..
  | .keyrecComplete .. => .of_cmd rfl (fun _ => rfl) fun _ => keyrecComplete_keeps ..
  | .live .. => .of_cmd rfl (fun _ => rfl) fun _ => live_keeps ..
  | .liveVerifyComplete .. => .of_cmd rfl (fun _ => rfl) fun _ => liveVerifyComplete_keeps ..
  | .liveOverlayCommit .. => .of_cmd rfl (fun _ => rfl) fun _ => liveOverlayCommit_keeps ..
  | .scrubPass .. => .of_cmd rfl (fun _ => rfl) fun _ => scrubPass_keeps ..
  | .cycleOpening .. => .of_cmd rfl (fun _ => rfl) fun _ => cycleOpening_keeps ..
  | .intakeCutoff .. => .of_cmd rfl (fun _ => rfl) fun _ => intakeCutoff_keeps ..
  | .reportDeadline .. => .of_cmd rfl (fun _ => rfl) fun _ => reportDeadline_keeps ..
  | .stageComplete .. => .of_cmd rfl (fun _ => rfl) fun _ => stageComplete_keeps ..
  | .frameSetComplete .. => .of_cmd rfl (fun _ => rfl) fun _ => frameSetComplete_keeps ..
  | .voterCutoff .. => .of_cmd rfl (fun _ => rfl) fun _ => voterCutoff_keeps ..
  | .emissionDeadline .. => .of_cmd rfl (fun _ => rfl) fun _ => emissionDeadline_keeps ..
  | .slackWindowEnd .. => .of_cmd rfl (fun _ => rfl) fun _ => slackWindowEnd_keeps ..
  | .vadaptEnable .. => .of_cmd rfl (fun _ => rfl) fun _ => vadaptEnable_keeps ..
  | .pmbusWriteResult .. => .of_cmd rfl (fun _ => rfl) fun _ => pmbusWriteResult_keeps ..
  | .setpointCommit .. => .of_cmd rfl (fun _ => rfl) fun _ => setpointCommit_keeps ..
  | .modeCommand .. => .of_cmd rfl (fun _ => rfl) fun _ => modeCommand_keeps ..
  | .dischargeTimeout .. => .of_cmd rfl (fun _ => rfl) fun _ => dischargeTimeoutCmd_keeps ..
  | .lineTestHoldEnd .. => .of_cmd rfl (fun _ => rfl) fun _ => lineTestHoldEndCmd_keeps ..
  | .fadeEnd .. => .of_cmd rfl (fun _ => rfl) fun _ => fadeEndCmd_keeps ..
  | .syncLock .. => .of_cmd rfl (fun _ => rfl) fun _ => syncLockCmd_keeps ..
  | .syncUnlock .. => .of_cmd rfl (fun _ => rfl) fun _ => syncUnlockCmd_keeps ..
  | .flywheelClear .. => .of_cmd rfl (fun _ => rfl) fun _ => flywheelClearCmd_keeps ..
  | .feedbackHoldExpiry .. => .of_cmd rfl (fun _ => rfl) fun _ => feedbackHoldExpiryCmd_keeps ..
  | .feedbackPrimaryReturn .. => .of_cmd rfl (fun _ => rfl) fun _ => feedbackPrimaryReturnCmd_keeps ..
  | .feedbackDisagreement .. => .of_cmd rfl (fun _ => rfl) fun _ => feedbackDisagreementCmd_keeps ..
  | .setpointSourceLoss .. => .of_cmd rfl (fun _ => rfl) fun _ => setpointSourceLoss_keeps ..
  | .setpointSourceReturn .. => .of_cmd rfl (fun _ => rfl) fun _ => setpointSourceReturn_keeps ..
  | .rideEntry .. => .of_cmd rfl (fun _ => rfl) fun _ => rideEntryCmd_keeps ..
  | .rideCurveTrip .. => .of_cmd rfl (fun _ => rfl) fun _ => rideCurveTripCmd_keeps ..
  | .rideTmax .. => .of_cmd rfl (fun _ => rfl) fun _ => rideTmaxCmd_keeps ..
  | .rideExit .. => .of_cmd rfl (fun _ => rfl) fun _ => rideExitCmd_keeps ..
  | .angleSeat .. => .of_cmd rfl (fun _ => rfl) fun _ => angleSeatCmd_keeps ..
  | .islandingDetected .. => .of_cmd rfl (fun _ => rfl) fun _ => islandingDetectedCmd_keeps ..
  | .islandingPulse .. => .of_cmd rfl (fun _ => rfl) fun _ => islandingPulseCmd_keeps ..
  | .harvestTrackStep .. => .of_cmd rfl (fun _ => rfl) fun _ => harvestTrackStepCmd_keeps ..
  | .harvestScan .. => .of_cmd rfl (fun _ => rfl) fun _ => harvestScan_keeps ..
  | .harvestScanPeriod .. => .of_cmd rfl (fun _ => rfl) fun _ => harvestScanPeriodCmd_keeps ..
  | .harvestScanEnd .. => .of_cmd rfl (fun _ => rfl) fun _ => harvestScanEndCmd_keeps ..
  | .armEnergyFault .. => .of_cmd rfl (fun _ => rfl) fun _ => armEnergyFaultCmd_keeps ..
  | .overmodulationFault .. => .of_cmd rfl (fun _ => rfl) fun _ => overmodulationFaultCmd_keeps ..
  | .brickAbsent .. => .of_cmd rfl (fun _ => rfl) fun _ => brickAbsent_keeps ..
  | .echoPark .. => .of_cmd rfl (fun _ => rfl) fun _ => echoPark_keeps ..
  | .admissionFail .. => .of_cmd rfl (fun _ => rfl) fun _ => admissionFail_keeps ..
  | .lpllLock .. => .of_cmd rfl (fun _ => rfl) fun _ => lpllLock_keeps ..
  | .lpllLockLoss .. => .of_cmd rfl (fun _ => rfl) fun _ => lpllLockLoss_keeps ..
  | .signalDetected .. => .of_cmd rfl (fun _ => rfl) fun _ => signalDetected_keeps ..
  | .electricalIdleDetected .. => .of_cmd rfl (fun _ => rfl) fun _ => electricalIdleDetected_keeps ..
  | .commaReceived .. => .of_cmd rfl (fun _ => rfl) fun _ => commaReceived_keeps ..
  | .transmitEidle .. => .of_cmd rfl (fun _ => rfl) fun _ => transmitEidle_keeps ..
  | .wakeSequenceEnd .. => .of_cmd rfl (fun _ => rfl) fun _ => wakeSequenceEnd_keeps ..
  | .loopNearSerial .. => .of_cmd rfl (fun _ => rfl) fun _ => loopNearSerial_keeps ..
  | .loopNearParallel .. => .of_cmd rfl (fun _ => rfl) fun _ => loopNearParallel_keeps ..
  | .loopFarEnd .. => .of_cmd rfl (fun _ => rfl) fun _ => loopFarEnd_keeps ..
  | .holdIdle .. => .of_cmd rfl (fun _ => rfl) fun _ => holdIdle_keeps ..
  | .loopEnd .. => .of_cmd rfl (fun _ => rfl) fun _ => loopEnd_keeps ..
  | .loopWordSend .. => .of_cmd rfl (fun _ => rfl) fun _ => loopWordSend_keeps ..
  | .loopConfirm .. => .of_cmd rfl (fun _ => rfl) fun _ => loopConfirm_keeps ..
  | .loopNoAnswer .. => .of_cmd rfl (fun _ => rfl) fun _ => loopNoAnswer_keeps ..
  | .timeMarkSend .. => .of_cmd rfl (fun _ => rfl) fun _ => timeMarkSend_keeps ..
  | .reportReceived .. => .of_cmd rfl (fun _ => rfl) fun _ => reportReceived_keeps ..
  | .timeMarkReceived .. => .of_cmd rfl (fun _ => rfl) fun _ => timeMarkReceived_keeps ..
  | .ownFrameReturn .. => .of_cmd rfl (fun _ => rfl) fun _ => ownFrameReturn_keeps ..
  | .pointReplyReceived .. => .of_cmd rfl (fun _ => rfl) fun _ => pointReplyReceived_keeps ..
  | .discoverReplyReceived .. => .of_cmd rfl (fun _ => rfl) fun _ => discoverReplyReceived_keeps ..
  | .discoverTimeout .. => .of_cmd rfl (fun _ => rfl) fun _ => discoverTimeout_keeps ..
  | .probeReplyReceived .. => .of_cmd rfl (fun _ => rfl) fun _ => probeReplyReceived_keeps ..
  | .transactionWindowOpen .. => .of_cmd rfl (fun _ => rfl) fun _ => transactionWindowOpen_keeps ..
  | .courseEndWorking .. => .of_cmd rfl (fun _ => rfl) fun _ => courseEndWorking_keeps ..
  | .courseSplit .. => .of_cmd rfl (fun _ => rfl) fun _ => courseSplit_keeps ..
  | .discoveryComplete .. => .of_cmd rfl (fun _ => rfl) fun _ => discoveryComplete_keeps ..
  | .brickCheckComplete .. => .of_cmd rfl (fun _ => rfl) fun _ => brickCheckComplete_keeps ..
  | .admitCmd .. => .of_cmd rfl (fun _ => rfl) fun _ => admitCmd_keeps ..
  | .remove .. => .of_cmd rfl (fun _ => rfl) fun _ => remove_keeps ..
  | .rediscover .. => .of_cmd rfl (fun _ => rfl) fun _ => rediscover_keeps ..
  | .measure .. => .of_cmd rfl (fun _ => rfl) fun _ => measure_keeps ..
  | .measurePeriod .. => .of_cmd rfl (fun _ => rfl) fun _ => measurePeriod_keeps ..
  | .automaticAdmission .. => .of_cmd rfl (fun _ => rfl) fun _ => automaticAdmissionCmd_keeps ..
  | .pointRead .. => .of_cmd rfl (fun _ => rfl) fun _ => pointRead_keeps ..
  | .pointWrite .. => .of_cmd rfl (fun _ => rfl) fun _ => pointWrite_keeps ..
  | .pointTimeout .. => .of_cmd rfl (fun _ => rfl) fun _ => pointTimeout_keeps ..
  | .pointLimit .. => .of_cmd rfl (fun _ => rfl) fun _ => pointLimit_keeps ..
  | .mirrorRefresh .. => .of_cmd rfl (fun _ => rfl) fun _ => mirrorRefresh_keeps ..
  | .svFrameReceived .. => .of_cmd rfl (fun _ => rfl) fun _ => svFrameReceived_keeps ..
  | .gooseReceived .. => .of_cmd rfl (fun _ => rfl) fun _ => gooseReceived_keeps ..
  | .ptpMessageReceived .. => .of_cmd rfl (fun _ => rfl) fun _ => ptpMessageReceived_keeps ..
  | .svSilent .. => .of_cmd rfl (fun _ => rfl) fun _ => svSilent_keeps ..
  | .svLost .. => .of_cmd rfl (fun _ => rfl) fun _ => svLost_keeps ..
  | .gooseLost .. => .of_cmd rfl (fun _ => rfl) fun _ => gooseLost_keeps ..
  | .goosePubEvaluation .. => .of_cmd rfl (fun _ => rfl) fun _ => goosePubEvaluation_keeps ..
  | .gooseRetransmit .. => .of_cmd rfl (fun _ => rfl) fun _ => gooseRetransmit_keeps ..
  | .lmCycleTrigger .. => .of_cmd rfl (fun _ => rfl) fun _ => lmCycleTrigger_keeps ..
  | .lmRun .. => .of_cmd rfl (fun _ => rfl) fun _ => lmRun_keeps ..
  | .lmRunComplete .. => .of_cmd rfl (fun _ => rfl) fun _ => lmRunComplete_keeps ..
  | .lmContOutput .. => .of_cmd rfl (fun _ => rfl) fun _ => lmContOutput_keeps ..
  | .lmContWrite _ _ m _ => .of_cmd rfl (fun _ => rfl) fun _ => lmContWrite_keeps (hm := m.isLt) ..
  | .lmCalZero .. => .of_cmd rfl (fun _ => rfl) fun _ => lmCalZero_keeps ..
  | .lmCalFull .. => .of_cmd rfl (fun _ => rfl) fun _ => lmCalFull_keeps ..
  | .lmCalStore .. => .of_cmd rfl (fun _ => rfl) fun _ => lmCalStore_keeps ..
  | .lmCalFactory .. => .of_cmd rfl (fun _ => rfl) fun _ => lmCalFactory_keeps ..
  | .lmCalStepComplete .. => .of_cmd rfl (fun _ => rfl) fun _ => lmCalStepComplete_keeps ..
  | .tbPllLock .. => .of_cmd rfl (fun _ => rfl) fun _ => tbPllLock_keeps ..
  | .tbPllLockLoss .. => .of_cmd rfl (fun _ => rfl) fun _ => tbPllLockLoss_keeps ..
  | .freqStep .. => .of_cmd rfl (fun _ => rfl) fun _ => freqStep_keeps ..
  | .phaseStep .. => .of_cmd rfl (fun _ => rfl) fun _ => phaseStep_keeps ..
  | .ptpOffset .. => .of_cmd rfl (fun _ => rfl) fun _ => ptpOffset_keeps ..
  | .masterLost .. => .of_cmd rfl (fun _ => rfl) fun _ => masterLost_keeps ..
  | .holdoverLimit .. => .of_cmd rfl (fun _ => rfl) fun _ => holdoverLimit_keeps ..
  | .holdoverSv .. => .of_cmd rfl (fun _ => rfl) fun _ => holdoverSv_keeps ..
  | .ptpMessageSend .. => .of_cmd rfl (fun _ => rfl) fun _ => ptpMessageSend_keeps ..
  | .setTime .. => .of_cmd rfl (fun _ => rfl) fun _ => setTime_keeps ..
  | .stepNs .. => .of_cmd rfl (fun _ => rfl) fun _ => stepNs_keeps ..
  | .slew .. => .of_cmd rfl (fun _ => rfl) fun _ => slew_keeps ..
  | .freq .. => .of_cmd rfl (fun _ => rfl) fun _ => freq_keeps ..
  | .stampQueueRead .. => .of_cmd rfl (fun _ => rfl) fun _ => stampQueueRead_keeps ..
  | .timeNowRead .. => .of_cmd rfl (fun _ => rfl) fun _ => timeNowRead_keeps ..
  | .evtEdge .. => .of_cmd rfl (fun _ => rfl) fun _ => evtEdge_keeps ..
  | .evtFifoRead .. => .of_cmd rfl (fun _ => rfl) fun _ => evtFifoRead_keeps ..
  | .tioCommand .. => .of_cmd rfl (fun _ => rfl) fun _ => tioCommand_keeps ..
  | .tioEdge .. => .of_cmd rfl (fun _ => rfl) fun _ => tioEdge_keeps ..
  | .ppsEdge .. => .of_cmd rfl (fun _ => rfl) fun _ => ppsEdge_keeps ..
  | .inputDigest .. => .of_cmd rfl (fun _ => rfl) fun _ => inputDigest_keeps ..
  | .stateDigestCompare .. => .of_cmd rfl (fun _ => rfl) fun _ => stateDigestCompare_keeps ..
  | .heartbeatPeriod .. => .of_cmd rfl (fun _ => rfl) fun _ => heartbeatPeriod_keeps ..
  | .heartbeatReceived .. => .of_cmd rfl (fun _ => rfl) fun _ => heartbeatReceived_keeps ..
  | .heartbeatMissing .. => .of_cmd rfl (fun _ => rfl) fun _ => heartbeatMissing_keeps ..
  | .repairComplete .. => .of_cmd rfl (fun _ => rfl) fun _ => repairComplete_keeps ..
  | .tileCopyComplete .. => .of_cmd rfl (fun _ => rfl) fun _ => tileCopyComplete_keeps ..
  | .tileCopyTimeout .. => .of_cmd rfl (fun _ => rfl) fun _ => tileCopyTimeout_keeps ..
  | .shadowComplete .. => .of_cmd rfl (fun _ => rfl) fun _ => shadowComplete_keeps ..
  | .resyncTimeout .. => .of_cmd rfl (fun _ => rfl) fun _ => resyncTimeout_keeps ..
  | .simplexLimit .. => .of_cmd rfl (fun _ => rfl) fun _ => simplexLimit_keeps ..
  | .proofPeriodExpiry .. => .of_cmd rfl (fun _ => rfl) fun _ => proofPeriodExpiry_keeps ..
  | .proofRunComplete .. => .of_cmd rfl (fun _ => rfl) fun _ => proofRunComplete_keeps ..
  | .resync .. => .of_cmd rfl (fun _ => rfl) fun _ => resync_keeps ..
  | .fence .. => .of_cmd rfl (fun _ => rfl) fun _ => fence_keeps ..
  | .clear .. => .of_cmd rfl (fun _ => rfl) fun _ => clear_keeps ..
  | .proof .. => .of_cmd rfl (fun _ => rfl) fun _ => proof_keeps ..
  | .tpCfgWrite .. => .of_cmd rfl (fun _ => rfl) fun _ => tpCfgWrite_keeps ..
  | .faultRaise .. => .of_cmd rfl (fun _ => rfl) fun _ => faultRaise_keeps ..
  | .logRecordCommit .. => .of_cmd rfl (fun _ => rfl) fun _ => logRecordCommit_keeps ..
  | .faultClear .. => .of_cmd rfl (fun _ => rfl) fun _ => faultClear_keeps ..
  | .collectorSelfCheck .. => .of_cmd rfl (fun _ => rfl) fun _ => collectorSelfCheck_keeps ..
  | .errNRelease .. => .of_cmd rfl (fun _ => rfl) fun _ => errNRelease_keeps ..
  | .clearFirst .. => .of_cmd rfl (fun _ => rfl) fun _ => clearFirst_keeps ..
  | .eraseLog .. => .of_cmd rfl (fun _ => rfl) fun _ => eraseLog_keeps ..
  | .logIndexWrite .. => .of_cmd rfl (fun _ => rfl) fun _ => logIndexWrite_keeps ..
  | .inject .. => .of_cmd rfl (fun _ => rfl) fun _ => inject_keeps ..
  | .injectionArmed .. => .of_cmd rfl (fun _ => rfl) fun _ => injectionArmed_keeps ..
  | .injectionFire .. => .of_cmd rfl (fun _ => rfl) fun _ => injectionFire_keeps ..
  | .injectionExpired .. => .of_cmd rfl (fun _ => rfl) fun _ => injectionExpired_keeps ..
  | .irqPendingClear .. => .of_cmd rfl (fun _ => rfl) fun _ => irqPendingClear_keeps ..
  | .sbcReqInput .. => .of_cmd rfl (fun _ => rfl) fun _ => sbcReqInput_keeps ..
  | .tripInput .. => .of_cmd rfl (fun _ => rfl) fun _ => tripInput_keeps ..
  | .safetyOscillatorCheck .. => .of_cmd rfl (fun _ => rfl) fun _ => safetyOscillatorCheck_keeps ..
  | .sealCheck .. => .of_cmd rfl (fun _ => rfl) fun _ => sealCheck_keeps ..
  | .ovLossTimeout .. => .of_cmd rfl (fun _ => rfl) fun _ => ovLossTimeout_keeps ..
  | .automaticDemandEnd .. => .of_cmd rfl (fun _ => rfl) fun _ => automaticDemandEnd_keeps ..
  | .apply .. => .of_cmd rfl (fun _ => rfl) fun _ => apply_keeps ..
  | .restore .. => .of_cmd rfl (fun _ => rfl) fun _ => restore_keeps ..
  | .test .. => .of_cmd rfl (fun _ => rfl) fun _ => test_keeps ..
  | .safeBlock .. => .of_cmd rfl (fun _ => rfl) fun _ => safeBlock_keeps ..
  | .release .. => .of_cmd rfl (fun _ => rfl) fun _ => release_keeps ..
  | .offPulseTest .. => .of_cmd rfl (fun _ => rfl) fun _ => offPulseTest_keeps ..
  | .offPulseEnd .. => .of_cmd rfl (fun _ => rfl) fun _ => offPulseEnd_keeps ..
  | .offPulseVerify .. => .of_cmd rfl (fun _ => rfl) fun _ => offPulseVerify_keeps ..
  | .feedbackDiscrepancy .. => .of_cmd rfl (fun _ => rfl) fun _ => feedbackDiscrepancy_keeps ..
  | .degradedMinute .. => .of_cmd rfl (fun _ => rfl) fun _ => degradedMinute_keeps ..
  | .safeBlockRepeat .. => .of_cmd rfl (fun _ => rfl) fun _ => safeBlockRepeat_keeps ..
  | .safeReleaseRepeat .. => .of_cmd rfl (fun _ => rfl) fun _ => safeReleaseRepeat_keeps ..
  | .releaseTimeout .. => .of_cmd rfl (fun _ => rfl) fun _ => releaseTimeout_keeps ..
  | .open' .. => .of_cmd rfl (fun _ => rfl) fun _ => open'_keeps ..
  | .close .. => .of_cmd rfl (fun _ => rfl) fun _ => close_keeps ..
  | .functionLevelReset .. => .of_cmd rfl (fun _ => rfl) fun _ => functionLevelReset_keeps ..
  | .d3hotEntry .. => .of_cmd rfl (fun _ => rfl) fun _ => d3hotEntry_keeps ..
  | .linkLeavesL0 .. => .of_cmd rfl (fun _ => rfl) fun _ => linkLeavesL0_keeps ..
  | .linkRecoveryTimeout .. => .of_cmd rfl (fun _ => rfl) fun _ => linkRecoveryTimeout_keeps ..
  | .contextClosed .. => .of_cmd rfl (fun _ => rfl) fun _ => contextClosed_keeps ..
  | .busMasterDisable .. => .of_cmd rfl (fun _ => rfl) fun _ => busMasterDisable_keeps ..
  | .roleWrite .. => .of_cmd rfl (fun _ => rfl) fun _ => roleWrite_keeps ..
  | .give .. => .of_cmd rfl (fun _ => rfl) fun _ => give_keeps ..
  | .claimOwner .. => .of_cmd rfl (fun _ => rfl) fun _ => claimOwner_keeps ..
  | .mmuConfigWrite .. => .of_cmd rfl (fun _ => rfl) fun _ => mmuConfigWrite_keeps ..
  | .invAll .. => .of_cmd rfl (fun _ => rfl) fun _ => invAll_keeps ..
  | .invPage .. => .of_cmd rfl (fun _ => rfl) fun _ => invPage_keeps ..
  | .invalidationComplete .. => .of_cmd rfl (fun _ => rfl) fun _ => invalidationComplete_keeps ..
  | .translationWalkComplete .. => .of_cmd rfl (fun _ => rfl) fun _ => translationWalkComplete_keeps ..
  | .claim .. => .of_cmd rfl (fun _ => rfl) fun _ => claim_keeps ..
  | .releaseChannel .. => .of_cmd rfl (fun _ => rfl) fun _ => releaseChannel_keeps ..
  | .arm .. => .of_cmd rfl (fun _ => rfl) fun _ => arm_keeps ..
  | .pause .. => .of_cmd rfl (fun _ => rfl) fun _ => pause_keeps ..
  | .resume .. => .of_cmd rfl (fun _ => rfl) fun _ => resume_keeps ..
  | .abort .. => .of_cmd rfl (fun _ => rfl) fun _ => abort_keeps ..
  | .disarm .. => .of_cmd rfl (fun _ => rfl) fun _ => disarm_keeps ..
  | .dmaSegmentBoundary .. => .of_cmd rfl (fun _ => rfl) fun _ => dmaSegmentBoundary_keeps ..
  | .dmaReadCompletion .. => .of_cmd rfl (fun _ => rfl) fun _ => dmaReadCompletion_keeps ..
  | .dmaReadTimeout .. => .of_cmd rfl (fun _ => rfl) fun _ => dmaReadTimeout_keeps ..
  | .dmaPassEnd .. => .of_cmd rfl (fun _ => rfl) fun _ => dmaPassEnd_keeps ..
  | .dmaFlushComplete .. => .of_cmd rfl (fun _ => rfl) fun _ => dmaFlushComplete_keeps ..
  | .dmaDescriptorFetch .. => .of_cmd rfl (fun _ => rfl) fun _ => dmaDescriptorFetch_keeps ..
  | .dmaChannelStopped .. => .of_cmd rfl (fun _ => rfl) fun _ => dmaChannelStopped_keeps ..
  | .dmaAcknowledge .. => .of_cmd rfl (fun _ => rfl) fun _ => dmaAcknowledge_keeps ..
  | .supplyOutOfRange .. => .of_cmd rfl (fun _ => rfl) fun _ => supplyOutOfRange_keeps ..
  | .supplyRecovered .. => .of_cmd rfl (fun _ => rfl) fun _ => supplyRecovered_keeps ..
  | .temperatureReading .. => .of_cmd rfl (fun _ => rfl) fun _ => temperatureReading_keeps ..
  | .channelSelfTestComplete .. => .of_cmd rfl (fun _ => rfl) fun _ => channelSelfTestComplete_keeps ..
  | .intakeLocalmeasDmaReady .. => .of_cmd rfl (fun _ => rfl) fun _ => intakeLocalmeasDmaReady_keeps ..
  | .pciePortConfigurable .. => .of_cmd rfl (fun _ => rfl) fun _ => pciePortConfigurable_keeps ..
  | .linkEntersL0 .. => .of_cmd rfl (fun _ => rfl) fun _ => linkEntersL0_keeps ..
  | .perstRise .. => .of_cmd rfl (fun _ => rfl) fun _ => perstRise_keeps ..
  | .busMasterEnable .. => .of_cmd rfl (fun _ => rfl) fun _ => busMasterEnable_keeps ..
  | .msixVectorUnmask _ _ (.write ..) => .of_cmd rfl (fun _ => rfl) fun _ => msixWrite_keeps ..
  | .msixVectorUnmask _ _ (.read ..) => .of_cmd rfl (fun _ => rfl) fun _ => msixRead_keeps ..
  | .stationPortLinkChange .. => .of_cmd rfl (fun _ => rfl) fun _ => stationPortLinkChange_keeps ..

/-- The reactions of a tick and ERR_N stay within theirs (R381 to R388). -/
theorem State.settled_keeps (s : State) (e : Dev) : Dev.keeps .reactions e (s.settled e).dev :=
  Dev.keeps_step (by decide +kernel) (Dev.errUpdate_keeps _) (Dev.keeps_mono (by decide +kernel) (Dev.settleN_keeps 12 e))

/-- Settles O9: the scope of each command holds what the law of its effect allows, and so does that of the reactions. -/
theorem commandsKeep : Obligations.CommandsKeep :=
  ⟨keepsScope, fun s e => ⟨s.settled_keeps e, s.settled_pending e⟩⟩

end Sys2Proof.Machine
end

section
/-! PROOF. The fields of a register under a write (R5, R47) and under ones written to W1C bits (R6); the state after reset. -/

namespace Sys2Proof.Machine

/-- The fields of one access code of a register copy take each a value that its old one gives: the shape of a write (R5) and
of a clear (R6). -/
def Dev.mapFields (a : Acc) (g : FieldDesc → Nat → Nat) (r : RegAt) (l : List FieldDesc) (d : Dev) : Dev :=
  l.foldl (fun d fd =>
    if fd.acc = a then d.set fd.fld (g fd (d.get fd.fld r.i (fd.copy.getD r.j))) r.i (fd.copy.getD r.j) else d) d

section mapFields
variable (a : Acc) (g : FieldDesc → Nat → Nat) (r : RegAt)

theorem Dev.mapFields_cons (fd : FieldDesc) (l : List FieldDesc) (d : Dev) :
    d.mapFields a g r (fd :: l) = (d.mapFields a g r [fd]).mapFields a g r l := rfl

theorem Dev.get_mapFields_one {fd : FieldDesc} (h : fd.acc = a) (d : Dev) :
    (d.mapFields a g r [fd]).get fd.fld r.i (fd.copy.getD r.j) = g fd (d.get fd.fld r.i (fd.copy.getD r.j)) % 2 ^ fd.fld.width := by
  simp [Dev.mapFields, h, Dev.get_set_self]

/-- A field's copy that no descriptor of the access code names keeps its value. -/
theorem Dev.get_mapFields_other {f : Fld} {i j : Nat} (l : List FieldDesc) (d : Dev)
    (h : ∀ fd ∈ l, fd.acc = a → (f, i, j) ≠ (fd.fld, r.i, fd.copy.getD r.j)) : (d.mapFields a g r l).get f i j = d.get f i j := by
  induction l generalizing d with
  | nil => rfl
  | cons fd l ih =>
    rw [Dev.mapFields_cons, ih _ fun fd' m => h fd' (List.mem_cons_of_mem _ m)]
    by_cases ha : fd.acc = a
    · simp only [Dev.mapFields, List.foldl, ha, if_true]
      exact Dev.get_set_ne d _ _ _ _ _ _ _ (h fd List.mem_cons_self ha)
    · simp [Dev.mapFields, ha]

/-- Where no two descriptors name the same copy, each field of the access code holds what its old value gives. -/
theorem Dev.get_mapFields_mem {fd : FieldDesc} (l : List FieldDesc) (d : Dev) (hm : fd ∈ l) (ha : fd.acc = a)
    (hn : (l.map fun fd => (fd.fld, fd.copy.getD r.j)).Nodup) :
    (d.mapFields a g r l).get fd.fld r.i (fd.copy.getD r.j) = g fd (d.get fd.fld r.i (fd.copy.getD r.j)) % 2 ^ fd.fld.width := by
  induction l generalizing d with
  | nil => cases hm
  | cons fd' l ih =>
    obtain ⟨hnot, hn⟩ := List.nodup_cons.mp hn
    have hother : ∀ fd'' ∈ l, (fd'.fld, r.i, fd'.copy.getD r.j) ≠ (fd''.fld, r.i, fd''.copy.getD r.j) := by
      intro fd'' m c
      refine hnot (List.mem_map.mpr ⟨fd'', m, ?_⟩)
      simp only [Prod.mk.injEq] at c ⊢
      exact ⟨c.1.symm, c.2.2.symm⟩
    rw [Dev.mapFields_cons]
    rcases List.mem_cons.mp hm with rfl | hm
    · rw [Dev.get_mapFields_other _ _ _ _ _ fun fd'' m _ => hother fd'' m, Dev.get_mapFields_one _ _ _ ha]
    · have hold : (d.mapFields a g r [fd']).get fd.fld r.i (fd.copy.getD r.j) = d.get fd.fld r.i (fd.copy.getD r.j) :=
        Dev.get_mapFields_other _ _ _ _ _ fun x hx _ => by
          rw [List.mem_singleton.mp hx]; exact (hother fd hm).symm
      rw [ih _ hm hn, hold]

/-- Only the register bank changes. -/
theorem Dev.mapFields_bank (l : List FieldDesc) (d : Dev) :
    d.mapFields a g r l = { d with bank := (d.mapFields a g r l).bank } := by
  induction l generalizing d with
  | nil => rfl
  | cons fd l ih =>
    have hone : d.mapFields a g r [fd] = { d with bank := (d.mapFields a g r [fd]).bank } := by
      by_cases ha : fd.acc = a <;> simp [Dev.mapFields, ha, Dev.set]
    rw [Dev.mapFields_cons, ih, hone]

end mapFields

/-- The RW fields of a written word are set to the values taken for their bits. -/
theorem Dev.foldl_writeField (v : Nat) (r : RegAt) (l : List FieldDesc) (d : Dev) :
    l.foldl (Dev.writeField v r) d = d.mapFields .rw (fun fd _ => takenAs fd.fld (v / 2 ^ fd.pos % 2 ^ fd.fld.width)) r l := rfl

/-- A settings record shows in no field but the journal's display. -/
theorem Dev.get_journal_other (d : Dev) (off mask val : Nat) {f : Fld} (i j : Nat) (hp : f ≠ F.MO_JOURNAL_PENDING)
    (hf : f ≠ F.MO_JOURNAL_FILL) : (d.journal off mask val).get f i j = d.get f i j :=
  (Dev.journal_keeps d off mask val).2 f i j (by simp [Scope.covers, hp, hf])

/-- What a write to a register of a ready function leaves in a field other than the journal's display is what the write of its fields
leaves there. -/
theorem Dev.get_writeReg_ready (d : Dev) (v off : Nat) (r : RegAt) {f : Fld} (i j : Nat) (h : d.blockReady r.reg = true)
    (hp : f ≠ F.MO_JOURNAL_PENDING) (hf : f ≠ F.MO_JOURNAL_FILL) :
    (d.writeReg v r off).get f i j = (r.reg.fields.foldl (Dev.writeField v r) d).get f i j := by
  simp only [Dev.writeReg, h, Bool.not_true, Bool.false_eq_true, if_false]
  split
  · rfl
  · exact Dev.get_journal_other _ _ _ _ i j hp hf

/-- A function that is not ready takes no write (R47). -/
theorem Dev.writeReg_notReady (d : Dev) (v off : Nat) (r : RegAt) (h : d.blockReady r.reg = false) : d.writeReg v r off = d := by
  simp [Dev.writeReg, h]

/-- What a write to a register may change: its RW fields, and the journal with its display. -/
def RegAt.writeScope (r : RegAt) : Scope :=
  ⟨[.store], F.MO_JOURNAL_FILL :: F.MO_JOURNAL_PENDING :: (r.reg.fields.filter fun fd => decide (fd.acc = .rw)).map (·.fld), []⟩

theorem RegAt.writeScope_covers {r : RegAt} {f : Fld} (h : ∀ fd ∈ r.reg.fields, fd.acc = .rw → fd.fld ≠ f)
    (hp : f ≠ F.MO_JOURNAL_PENDING) (hf : f ≠ F.MO_JOURNAL_FILL) : r.writeScope.covers f = false := by
  simpa [RegAt.writeScope, Scope.covers, hp, hf] using h

theorem Dev.writeReg_keeps_writeScope (d : Dev) (v off : Nat) (r : RegAt) : Dev.keeps r.writeScope d (d.writeReg v r off) := by
  have hrw : ∀ fd ∈ r.reg.fields, fd.acc = .rw → r.writeScope.covers fd.fld = true := fun fd hm ha => by
    simp only [RegAt.writeScope, Scope.covers, List.any_nil, Bool.or_false, List.contains_iff_mem, List.mem_cons, List.mem_map,
      List.mem_filter]
    exact .inr (.inr ⟨fd, ⟨hm, decide_eq_true ha⟩, rfl⟩)
  refine Dev.writeReg_keeps (by simp [Scope.le, Scope.covers, RegAt.writeScope]) v r off d (List.all_eq_true.mpr fun fd hm => ?_)
  by_cases ha : fd.acc = .rw
  · simp [hrw fd hm ha]
  · simp [ha]

/-- What clearing leaves of a W1C field: the bits under a one that no event sets again go. -/
def clearedBits (mask again : Nat) (fd : FieldDesc) (old : Nat) : Nat :=
  old &&& (((mask / 2 ^ fd.pos % 2 ^ fd.fld.width) &&& ((again / 2 ^ fd.pos % 2 ^ fd.fld.width) ^^^ (2 ^ fd.fld.width - 1))) ^^^
    (2 ^ fd.fld.width - 1))

theorem Dev.clearW1c_eq (mask again : Nat) (r : RegAt) (d : Dev) :
    d.clearW1c mask again r = d.mapFields .w1c (clearedBits mask again) r r.reg.fields := rfl

theorem testBit_clearedBits (mask again : Nat) (fd : FieldDesc) (old n : Nat) (hn : n < fd.fld.width) :
    testBit (clearedBits mask again fd old % 2 ^ fd.fld.width) n =
      (testBit old n && !(testBit mask (fd.pos + n) && !testBit again (fd.pos + n))) := by
  simp [testBit, clearedBits, Nat.testBit_mod_two_pow, Nat.testBit_div_two_pow, hn, Nat.add_comm n]

/-- Settles O11: the write of the RW fields is one pass over the register, and what it may change is RegAt.writeScope. -/
theorem writtenWordReads : Obligations.WrittenWordReads := by
  intro d v off r
  have hk := d.writeReg_keeps_writeScope v off r
  refine ⟨fun hr fd hm ha hp hf hn => ?_, d.writeReg_notReady v off r, fun f i j h hp hf => hk.2 f i j (RegAt.writeScope_covers h hp hf),
    hk.1 .work (by simp [RegAt.writeScope]), hk.1 .grps (by simp [RegAt.writeScope]), hk.1 .cm (by simp [RegAt.writeScope])⟩
  rw [d.get_writeReg_ready v off r _ _ hr hp hf, Dev.foldl_writeField, Dev.get_mapFields_mem _ _ _ _ _ hm ha hn]

/-- Settles O2: after reset the register bank lists no value, so every field stands at its default. -/
theorem resetState : Obligations.ResetState :=
  ⟨rfl, fun _ _ _ => rfl, rfl, rfl, rfl, rfl, rfl, rfl, rfl, fun _ _ => rfl⟩

end Sys2Proof.Machine
end

section
/-! PROOF. Host accesses to BAR0 (R422, R424, R425, R431 to R434): what registerWrite, readClear and w1cClear do in each case. -/

namespace Sys2Proof.Machine

theorem exec_registerWrite_live (dt : Nat) (x : Fin 8) (off : Nat) (vals : List Word) (first last : BitVec 4) (s : State)
    (h : (s.seen dt).live = true) : exec (.registerWrite dt x off vals first last) s =
      .next (s.settled (registerWrite x.val off (vals.map BitVec.toNat) first.toNat last.toNat (s.seen dt))) :=
  congrArg Host.Outcome.next (State.cmd_live s dt _ h)

theorem exec_readClear_live (dt : Nat) (x : Fin 8) (off n : Nat) (s : State) (h : (s.seen dt).live = true) :
    exec (.readClear dt x off n) s = .next (s.settled (readClear x.val off n (s.seen dt))) :=
  congrArg Host.Outcome.next (State.cmd_live s dt _ h)

theorem exec_w1cClear_live (dt : Nat) (x : Fin 8) (off : Nat) (mask again : Word) (s : State) (h : (s.seen dt).live = true) :
    exec (.w1cClear dt x off mask again) s = .next (s.settled (w1cClear x.val off mask.toNat again.toNat (s.seen dt))) :=
  congrArg Host.Outcome.next (State.cmd_live s dt _ h)

/-! Where an offset lies (R431, R432) -/

theorem div_mul_of_dword {off : Nat} (h : off % 4 = 0) : off / 4 * 4 = off := Nat.div_mul_cancel (Nat.dvd_of_mod_eq_zero h)

theorem inWork_eq_true {off : Nat} (h : 0x1000000 ≤ off) (h' : off < 0x2000000) : inWork off = true := by
  simp only [inWork, decide_eq_true h, decide_eq_true h', Bool.and_self]

theorem inWork_eq_false {off : Nat} (h : off < 0x1000000) : inWork off = false := by
  simp only [inWork, decide_eq_false (Nat.not_le.mpr h), Bool.false_and]

theorem inReadback_eq_false {off : Nat} (h : off < 0x400000) : inReadback off = false := by
  simp only [inReadback, decide_eq_false (Nat.not_le.mpr h), Bool.false_and]

/-- One dword on its boundary keeps within its 64 KiB block (R422). -/
theorem registerForm_one {off : Nat} (h : off % 4 = 0) : registerForm off 1 = true := by
  simp only [registerForm, beq_self_eq_true, Bool.true_or, Bool.true_and, decide_eq_true_eq]
  omega

/-! Checked writes -/

theorem Dev.checkedWrite_accepted {d : Dev} {x off : Nat} (f : Dev → Dev) (h : d.writeRefusal x off = none) :
    d.checkedWrite x off f = f d := by simp [Dev.checkedWrite, h]

theorem Dev.checkedWrite_refused {d : Dev} {x off c : Nat} (f : Dev → Dev) (h : d.writeRefusal x off = some c) :
    d.checkedWrite x off f = d.refuse x false true c off := by simp [Dev.checkedWrite, h]

/-! One dword to a register -/

section writeWord
variable {d : Dev} {x off v : Nat} {r : RegAt}

/-- A write to a register that has a command of its own is that command. -/
theorem Dev.writeWord_row {e : Dev} (hr : findReg regTable off = some r) (h : d.writeRow x v r = some e) : d.writeWord x off v = e := by
  simp [Dev.writeWord, hr, h]

/-- A write to another register without W1C fields is a checked write of its RW fields. -/
theorem Dev.writeWord_plain (hr : findReg regTable off = some r) (h : d.writeRow x v r = none)
    (hw : (r.reg.fields.any fun fd => decide (fd.acc = .w1c)) = false) :
    d.writeWord x off v = d.checkedWrite x off fun d => d.writeReg v r off := by
  simp [Dev.writeWord, hr, h, hw]

theorem Dev.writeOne_eq_writeWord (hl : pairLow off = false) (hh : pairHigh off = false) : d.writeOne x off v = d.writeWord x off v := by
  simp [Dev.writeOne, rwPair, hl, hh]

end writeWord

/-! Requests of dwords to BAR0 -/

section registerWrite
variable {d : Dev} {x off : Nat} {vals : List Nat} {first last : Nat}

/-- A request to the registers of the wrong form, or without all its byte enables, is refused as PARTIAL (R422). -/
theorem registerWrite_form (ha : off % 4 = 0) (ho : off < 0x1000000)
    (h : registerForm off vals.length = false ∨ first ≠ 15 ∨ (vals.length = 2 ∧ last ≠ 15)) :
    registerWrite x off vals first last d = d.refuse x false true 2 off := by
  have hbad : (!registerForm off vals.length || first != 15 || (vals.length == 2 && last != 15)) = true := by
    simpa [or_assoc] using h
  simp only [registerWrite, div_mul_of_dword ha, inWork_eq_false ho, hbad, Bool.false_eq_true, if_false, if_true]

/-- One of the right form to the live table readback is refused by the state of its context, else by its role. -/
theorem registerWrite_readback (ha : off % 4 = 0) (ho : off < 0x1000000) (hf : registerForm off vals.length = true)
    (h1 : first = 15) (h2 : vals.length = 2 → last = 15) (hr : inReadback off = true) :
    registerWrite x off vals first last d = d.refuse x false true (if d.isOpen x then 0 else 1) off := by
  have hgood : (!registerForm off vals.length || first != 15 || (vals.length == 2 && last != 15)) = false := by
    simpa [hf, h1] using h2
  simp only [registerWrite, div_mul_of_dword ha, inWork_eq_false ho, hgood, hr, Bool.false_eq_true, if_false, if_true]

/-- One dword with all its byte enables to the registers. -/
theorem registerWrite_one {v : Nat} (ha : off % 4 = 0) (ho : off < 0x400000) (hv : v < 0x100000000) :
    registerWrite x off [v] 15 last d = d.writeOne x off v := by
  have hw : inWork off = false := inWork_eq_false (by omega)
  simp [registerWrite, div_mul_of_dword ha, hw, inReadback_eq_false ho, registerForm_one ha, nth, Nat.mod_eq_of_lt hv]

/-- A request to the working store: refused for its size, then for the state and role of its context, else its dwords are stored. -/
theorem registerWrite_work (ha : off % 4 = 0) (hlo : 0x1000000 ≤ off) (hhi : off < 0x2000000) :
    registerWrite x off vals first last d =
      if d.writeLimit x < 4 * vals.length then d.refuse x false true 2 off
      else if !d.isOpen x then d.refuse x false true 1 off
      else if d.role x = 2 then d.refuse x false true 0 off
      else d.pokeWords (off - 0x1000000) vals first last := by
  simp only [registerWrite, div_mul_of_dword ha, inWork_eq_true hlo hhi, if_true]

end registerWrite

/-- One dword with all its byte enables to a register that is no half of a pair. -/
theorem exec_registerWrite_dword {s : State} {dt : Nat} (hl : (s.seen dt).live = true) (x : Fin 8) {off : Nat} (v : Word)
    (last : BitVec 4) (ha : off % 4 = 0) (ho : off < 0x400000) (hlow : pairLow off = false) (hhigh : pairHigh off = false) :
    exec (.registerWrite dt x off [v] 15 last) s = .next (s.settled ((s.seen dt).writeWord x.val off v.toNat)) := by
  rw [exec_registerWrite_live _ _ _ _ _ _ _ hl, ← Dev.writeOne_eq_writeWord hlow hhigh]
  exact congrArg (fun e => Host.Outcome.next (s.settled e)) (registerWrite_one ha ho v.isLt)

/-- All byte enables of a dword, as a number. -/
theorem toNat_enables_eq {b : BitVec 4} : b.toNat = 15 ↔ b = 15 := BitVec.toNat_inj (y := 15)

/-- Settles O10, by the cases of registerWrite. -/
theorem registerWriteLands : Obligations.RegisterWriteLands := by
  rintro s dt d rfl hl
  refine ⟨?_, ?_, ?_, ?_, ?_⟩
  · intro x off v last r ha ho hr hrow hw hlow hhigh hacc
    rw [exec_registerWrite_dword hl x v last ha ho hlow hhigh, Dev.writeWord_plain hr hrow hw, Dev.checkedWrite_accepted _ hacc]
  · intro x off v last r ha ho hr hlow hhigh
    rw [exec_registerWrite_dword hl x v last ha ho hlow hhigh]
    refine ⟨fun e hrow => by rw [Dev.writeWord_row hr hrow], fun c hrow hw href => ?_⟩
    rw [Dev.writeWord_plain hr hrow hw, Dev.checkedWrite_refused _ href]
  · intro x off vals first last ha ho
    rw [exec_registerWrite_live _ _ _ _ _ _ _ hl]
    refine ⟨fun hbad => ?_, fun hf h1 h2 hr => ?_⟩
    · rw [registerWrite_form ha ho (by simpa only [List.length_map, ne_eq, toNat_enables_eq] using hbad)]
    · rw [registerWrite_readback ha ho (by simpa using hf) (toNat_enables_eq.mpr h1) (by simpa [toNat_enables_eq] using h2) hr]
  · intro x off vals first last ha hlo hhi
    rw [exec_registerWrite_live _ _ _ _ _ _ _ hl, registerWrite_work ha hlo hhi, List.length_map]
    refine ⟨fun hn => by rw [if_pos hn], fun hn ho => ?_, fun hn ho hrole => ?_⟩
    · rw [if_neg (Nat.not_lt.mpr hn), ho]; rfl
    · rw [if_neg (Nat.not_lt.mpr hn), ho, if_pos hrole]; rfl
  · intro x off vals first last ha hlo hhi _ hn ho hrole
    rw [exec_registerWrite_live _ _ _ _ _ _ _ hl, registerWrite_work ha hlo hhi, List.length_map, if_neg (Nat.not_lt.mpr hn), ho,
      if_neg hrole]
    rfl

/-! Reads of BAR0 -/

theorem Dev.hostRead_refused {d : Dev} {x off c : Nat} (f : Dev → Dev × Nat) (h : d.refusal x false off = some c) :
    d.hostRead x off f = (d.refuse x false false c off).emit (.readData x off 0) := by simp [Dev.hostRead, h]

/-- Whatever a read clears, it returns the word as it stood. -/
theorem Dev.readReg_snd (d : Dev) (x off : Nat) : (d.readReg x off).2 = d.word x off := by
  unfold Dev.readReg
  dsimp only
  split
  · rfl
  · split <;> rfl

section readClear
variable {d : Dev} {x off n : Nat}

/-- A read of one dword outside the latched windows and the pairs reads the register alone. -/
theorem Dev.readWord_register (hnow : off ≠ 0x30010)
    (hq : off % 16 = 0 → (off < 0x30200 ∨ 0x30240 ≤ off) ∧ (off < 0x30500 ∨ 0x30600 ≤ off)) (hl : pairLow off = false)
    (hh : pairHigh off = false) : d.readWord x off true = d.hostRead x off (Dev.readReg x off) := by
  have hstamp : ¬(0x30200 ≤ off ∧ off < 0x30240 ∧ off % 16 = 0) := by omega
  have hevt : ¬(0x30500 ≤ off ∧ off < 0x30600 ∧ off % 16 = 0) := by omega
  simp only [Dev.readWord, hnow, hstamp, hevt, hl, hh, Bool.and_false, Bool.false_eq_true, if_false]

theorem readClear_one (ha : off % 4 = 0) (ho : off < 0x400000) : readClear x off 1 d = d.readWord x off true := by
  have hw : inWork off = false := inWork_eq_false (by omega)
  simp [readClear, div_mul_of_dword ha, hw, inReadback_eq_false ho, registerForm_one ha]

/-- A read of the registers of the wrong form answers all ones (R422). -/
theorem readClear_form (ha : off % 4 = 0) (ho : off < 0x1000000) (hf : registerForm off n = false) :
    readClear x off n d = (d.refuse x false false 2 off).emitWords x off (List.replicate n 0xFFFFFFFF) := by
  simp [readClear, div_mul_of_dword ha, inWork_eq_false ho, hf]

/-- A read of the working store answers its bytes to an OPEN context, zeros to another (R424, R431). -/
theorem readClear_work (ha : off % 4 = 0) (hlo : 0x1000000 ≤ off) (hhi : off < 0x2000000) (h1 : 1 ≤ n) (hn : n ≤ 128) :
    readClear x off n d =
      if !d.isOpen x then (d.refuse x false false 1 off).emitWords x off (List.replicate n 0)
      else d.emitWords x off ((List.range n).map fun i => d.work.readLe (off - 0x1000000 + 4 * i) 4) := by
  have hsize : ¬(128 < n ∨ n = 0) := by omega
  simp only [readClear, div_mul_of_dword ha, inWork_eq_true hlo hhi, hsize, if_true, if_false]

end readClear

/-! Ones written to W1C bits -/

section w1cClear
variable {d : Dev} {x off mask again : Nat} {r : RegAt}

/-- Those of the fault table go to its latches (R385). -/
theorem w1cClear_latches (hr : findReg regTable off = some r) (hb : r.reg.base = 0x40100) :
    w1cClear x off mask again d = faultClear x r.i (mask &&& (again ^^^ 0xFFFFFFFF)) d := by
  simp [w1cClear, hr, hb]

/-- Those of the events of a context go to its pending bits (R439). -/
theorem w1cClear_events (hr : findReg regTable off = some r) (hb : r.reg.base = 0x10134) :
    w1cClear x off mask again d = irqPendingClear x r.i false mask again d := by
  simp [w1cClear, hr, hb]

/-- A one to PENDING of the fault interrupt goes there, other bits of its register hold nothing to clear (R396). -/
theorem w1cClear_pending (hr : findReg regTable off = some r) (hb : r.reg.base = 0x40040) :
    w1cClear x off mask again d =
      if testBit mask 30 then irqPendingClear x r.i true 1 (again / 2 ^ 30) d else d.checkedWrite x off id := by
  simp [w1cClear, hr, hb]

/-- What a write to the W1C bits of another register does once its context may make it. -/
def Dev.clearHere (x off mask again : Nat) (r : RegAt) (d : Dev) : Dev :=
  if hitsW1c mask r && d.role x == 2 && r.reg.base != 0x10124 && r.reg.base != 0x9010C && r.reg.base != 0xA8204 then
    d.refuse x false true 0 off
  else if r.reg.base = 0x90 then (if testBit mask 31 && !testBit again 31 then d.clearFail r.i else d)
  else if r.reg.base = 0x9010C then
    ((d.clearW1c mask again r).dmaIrqEnd r.i ((mask &&& again &&& d.word x (0x90110 + 0x80 * r.i)) / 0x8000000 != 0)).dmaShow (x / 4)
  else d.clearW1c mask again r

theorem w1cClear_other (hr : findReg regTable off = some r) (hb : r.reg.base ∉ [0x40100, 0x40040, 0x10134]) :
    w1cClear x off mask again d = d.checkedWrite x off (Dev.clearHere x off mask again r) := by
  simp only [List.mem_cons, List.not_mem_nil, or_false, not_or] at hb
  obtain ⟨h1, h2, h3⟩ := hb
  simp only [w1cClear, hr, h1, h2, h3, if_false]
  rfl

/-- An Observer's ones on W1C bits are refused but in three registers. -/
theorem Dev.clearHere_observer (hm : hitsW1c mask r = true) (hx : d.role x = 2) (hb : r.reg.base ∉ [0x10124, 0x9010C, 0xA8204]) :
    d.clearHere x off mask again r = d.refuse x false true 0 off := by
  simp only [List.mem_cons, List.not_mem_nil, or_false, not_or] at hb
  simp [Dev.clearHere, hm, hx, hb]

/-- What lets a write to W1C bits pass: no ones on them, a role above Observer, or a register whose bits an Observer may clear. -/
theorem Dev.clearHere_passes (h : hitsW1c mask r = false ∨ d.role x ≠ 2 ∨ r.reg.base ∈ [0x10124, 0x9010C, 0xA8204]) :
    (hitsW1c mask r && d.role x == 2 && r.reg.base != 0x10124 && r.reg.base != 0x9010C && r.reg.base != 0xA8204) = false := by
  simp only [List.mem_cons, List.not_mem_nil, or_false] at h
  rcases h with h | h | h | h | h <;> simp [h]

theorem Dev.clearHere_field (h : hitsW1c mask r = false ∨ d.role x ≠ 2 ∨ r.reg.base ∈ [0x10124, 0x9010C, 0xA8204])
    (h1 : r.reg.base ≠ 0x90) (h2 : r.reg.base ≠ 0x9010C) : d.clearHere x off mask again r = d.clearW1c mask again r := by
  simp only [Dev.clearHere, Dev.clearHere_passes h, h1, h2, Bool.false_eq_true, if_false]

theorem Dev.clearHere_channel (h : r.reg.base = 0x9010C) : d.clearHere x off mask again r =
    ((d.clearW1c mask again r).dmaIrqEnd r.i ((mask &&& again &&& d.word x (0x90110 + 0x80 * r.i)) / 0x8000000 != 0)).dmaShow (x / 4) := by
  simp [Dev.clearHere, h]

theorem Dev.clearHere_rail (h : hitsW1c mask r = false ∨ d.role x ≠ 2 ∨ r.reg.base ∈ [0x10124, 0x9010C, 0xA8204])
    (hb : r.reg.base = 0x90) : d.clearHere x off mask again r = if testBit mask 31 && !testBit again 31 then d.clearFail r.i else d := by
  rw [Dev.clearHere, Dev.clearHere_passes h, if_neg Bool.false_ne_true, if_pos hb]

end w1cClear

/-- Settles O12, by the cases of readClear and w1cClear and the bits that clearing leaves. -/
theorem registerReadsAndClears : Obligations.RegisterReadsAndClears := by
  refine ⟨?_, fun d mask again r => ⟨fun fd hm ha hn n hlt => ?_, fun f i j h => ?_, ?_⟩⟩
  · rintro s dt d x rfl hl
    refine ⟨fun off ha ho hnow hq hlow hhigh => ?_, fun off n ha ho hf => ?_, fun off n ha hlo hhi h1 hn => ?_,
      fun off mask again r hr => ?_⟩
    · rw [exec_readClear_live _ _ _ _ _ hl, readClear_one ha ho, Dev.readWord_register hnow hq hlow hhigh]
      refine ⟨fun hacc => ?_, fun c href => ?_⟩
      · rw [Dev.hostRead_accepted _ _ _ _ hacc, Dev.readReg_snd]
      · rw [Dev.hostRead_refused _ href]
    · rw [exec_readClear_live _ _ _ _ _ hl, readClear_form ha ho hf]
    · rw [exec_readClear_live _ _ _ _ _ hl, readClear_work ha hlo hhi h1 hn]
      exact ⟨fun ho => by rw [ho]; rfl, fun ho => by rw [ho]; rfl⟩
    · rw [exec_w1cClear_live _ _ _ _ _ _ hl]
      refine ⟨fun hb => by rw [w1cClear_latches hr hb], fun hb => by rw [w1cClear_events hr hb],
        fun hb hbit => by rw [w1cClear_pending hr hb, hbit, if_pos rfl],
        fun hb hbit hacc => by rw [w1cClear_pending hr hb, hbit, Dev.checkedWrite_accepted _ hacc]; rfl, fun hb => ?_⟩
      rw [w1cClear_other hr hb]
      refine ⟨fun c href => by rw [Dev.checkedWrite_refused _ href], fun hacc => ?_⟩
      rw [Dev.checkedWrite_accepted _ hacc]
      refine ⟨fun hm hx hb' => by rw [Dev.clearHere_observer hm hx hb'], fun hpass => ⟨fun h1 h2 => ?_, fun h => ?_, fun h => ?_⟩⟩
      · rw [Dev.clearHere_field hpass h1 h2]
      · rw [Dev.clearHere_channel h]
      · rw [Dev.clearHere_rail hpass h]
  · rw [Dev.clearW1c_eq, Dev.get_mapFields_mem _ _ _ _ _ hm ha hn, testBit_clearedBits _ _ _ _ _ hlt]
  · rw [Dev.clearW1c_eq]
    exact Dev.get_mapFields_other _ _ _ _ _ fun fd hm ha c => h fd hm ha (congrArg Prod.fst c).symm
  · rw [Dev.clearW1c_eq]
    exact Dev.mapFields_bank ..

end Sys2Proof.Machine
end

section
/-! PROOF. A decision of a group's control (R18, R352): what it does in one channel, and what the channels leave each other. -/

namespace Sys2Proof.Machine

theorem setNth_eq_set {α : Type} (l : List α) (n : Nat) (x : α) : setNth l n x = l.set n x := by
  induction l generalizing n with
  | nil => rfl
  | cons y l ih =>
    cases n with
    | zero => rfl
    | succ n => exact congrArg (y :: ·) (ih n)

@[simp] theorem length_setNth {α : Type} (l : List α) (n : Nat) (x : α) : (setNth l n x).length = l.length := by
  rw [setNth_eq_set, List.length_set]

theorem nth_setNth_self {α : Type} {l : List α} {n : Nat} (h : n < l.length) (x y : α) : nth (setNth l n x) n y = x := by
  simp [nth, setNth_eq_set, h]

theorem nth_setNth_ne {α : Type} {m n : Nat} (h : m ≠ n) (l : List α) (x y : α) : nth (setNth l m x) n y = nth l n y := by
  simp [nth, setNth_eq_set, h]

/-! The control of a group in a channel, under a change of one -/

@[simp] theorem Dev.modChan_length (d : Dev) (c : Nat) (u : Chan → Chan) : (d.modChan c u).chans.length = d.chans.length :=
  length_setNth ..

theorem Dev.chan_modChan_self {d : Dev} {c : Nat} (h : c < d.chans.length) (u : Chan → Chan) : (d.modChan c u).chan c = u (d.chan c) :=
  nth_setNth_self h ..

theorem Dev.chan_modChan_ne {b c : Nat} (h : b ≠ c) (d : Dev) (u : Chan → Chan) : (d.modChan b u).chan c = d.chan c :=
  nth_setNth_ne h ..

theorem Dev.chan_congr {d e : Dev} (h : e.chans = d.chans) (c : Nat) : e.chan c = d.chan c :=
  congrArg (fun l : List Chan => nth l c .init) h

theorem Dev.cg_congr {d e : Dev} {c : Nat} (h : e.chan c = d.chan c) (g : Nat) : e.cg c g = d.cg c g :=
  congrArg (fun x : Chan => nth x.grps g .init) h

section modCg
variable {d : Dev} {g ch : Nat} (u : ChanGrp → ChanGrp)

theorem Dev.cg_modCg_self (hc : ch < d.chans.length) (hg : g < (d.chan ch).grps.length) : (d.modCg ch g u).cg ch g = u (d.cg ch g) := by
  rw [Dev.cg, Dev.modCg, Dev.chan_modChan_self hc]
  exact nth_setNth_self hg ..

theorem Dev.cg_modCg_ne {h : Nat} (hn : h ≠ g) (hc : ch < d.chans.length) : (d.modCg ch g u).cg ch h = d.cg ch h := by
  rw [Dev.cg, Dev.modCg, Dev.chan_modChan_self hc]
  exact nth_setNth_ne hn.symm ..

theorem Dev.grps_length_modCg (hc : ch < d.chans.length) : ((d.modCg ch g u).chan ch).grps.length = (d.chan ch).grps.length := by
  rw [Dev.modCg, Dev.chan_modChan_self hc]
  exact length_setNth ..

end modCg

/-! What the hub takes from a channel -/

/-- A control state of which the hub has taken the sources raised and the requests. -/
def GridSt.taken (s : GridSt) : GridSt :=
  { s with m := { s.m with raises := [] }, harv := { s.harv with scanResult := none, aborted := false, askBricks := false } }

section afterPart
variable {d : Dev} {g ch : Nat} {old : GridSt}

theorem Dev.afterPart_reporting (h : d.reports ch = true) : d.afterPart ch g old =
    ((d.stageFaults g old (d.cg ch g)).takeHarvest g (d.cg ch g).ctl.harv).modCg ch g fun x => { x with ctl := x.ctl.taken } := by
  rw [Dev.afterPart, if_pos h]; rfl

theorem Dev.afterPart_silent (h : d.reports ch = false) : d.afterPart ch g old = d.modCg ch g fun x => { x with ctl := x.ctl.taken } := by
  rw [Dev.afterPart, if_neg (by simp [h])]; rfl

/-- In the channels only what the hub takes is cleared. -/
theorem Dev.afterPart_chans : (d.afterPart ch g old).chans = (d.modCg ch g fun x => { x with ctl := x.ctl.taken }).chans := by
  cases h : d.reports ch with
  | false => rw [Dev.afterPart_silent h]
  | true =>
    have hchans : ((d.stageFaults g old (d.cg ch g)).takeHarvest g (d.cg ch g).ctl.harv).chans = d.chans :=
      ((Dev.takeHarvest_keeps ..).1 .chans (by decide)).trans ((Dev.stageFaults_keeps ..).1 .chans (by decide))
    rw [Dev.afterPart_reporting h]
    simp only [Dev.modCg, Dev.modChan, Dev.chan_congr hchans, hchans]

end afterPart

/-! Sources that await their reactions: none is lost -/

theorem Dev.due_subset_foldl {α : Type} {step : Dev → α → Dev} (h : ∀ d x, d.fc.due ⊆ (step d x).fc.due) (l : List α) (d : Dev) :
    d.fc.due ⊆ (l.foldl step d).fc.due := by
  induction l generalizing d with
  | nil => exact List.Subset.refl _
  | cons x l ih => exact List.Subset.trans (h d x) (ih _)

theorem Dev.due_subset_raise (n k : Nat) (d : Dev) : d.fc.due ⊆ (d.raise n k).fc.due := List.subset_append_left ..

theorem Dev.mem_due_raise (n k : Nat) (d : Dev) : ∃ r ∈ (d.raise n k).fc.due, r.n = n :=
  ⟨⟨n, k, false, none⟩, List.mem_append_right _ (List.mem_singleton.mpr rfl), rfl⟩

theorem Dev.due_subset_cond (n : Nat) (holds : Bool) (k : Nat) (d : Dev) : d.fc.due ⊆ (d.cond n holds k).fc.due := by
  unfold Dev.cond
  split
  · split
    · exact List.Subset.refl _
    · exact Dev.due_subset_raise n k (d.flag F.FC_COND_COND true n)
  · exact List.Subset.refl _

theorem Dev.due_subset_stageRaise (g : Nat) (d : Dev) (n : Nat) : d.fc.due ⊆ (d.stageRaise g n).fc.due := by
  unfold Dev.stageRaise
  dsimp only
  split
  · split
    · exact Dev.due_subset_raise ..
    · split
      · exact Dev.due_subset_raise ..
      · exact List.Subset.refl _
  · split
    · exact Dev.due_subset_raise ..
    · split <;> exact List.Subset.refl _

/-- The group sources a stage raises itself: 0 and 7 of the eight of a group. -/
theorem Dev.mem_due_stageRaise (g : Nat) (d : Dev) {n : Nat} (hn : 0xA0 ≤ n) (hs : (n - 0xA0) % 8 = 0 ∨ (n - 0xA0) % 8 = 7) :
    ∃ r ∈ (d.stageRaise g n).fc.due, r.n = n := by
  simp only [Dev.stageRaise, if_neg (Nat.not_lt.mpr hn), if_pos hs]
  exact Dev.mem_due_raise ..

theorem Dev.mem_due_stageRaises (g : Nat) {n : Nat} (hn : 0xA0 ≤ n) (hs : (n - 0xA0) % 8 = 0 ∨ (n - 0xA0) % 8 = 7) (l : List Nat) (hm : n ∈ l)
    (d : Dev) : ∃ r ∈ (l.foldl (Dev.stageRaise g) d).fc.due, r.n = n := by
  obtain ⟨a, b, rfl⟩ := List.append_of_mem hm
  rw [List.foldl_append, List.foldl_cons]
  obtain ⟨r, hr, hrn⟩ := Dev.mem_due_stageRaise g (a.foldl (Dev.stageRaise g) d) hn hs
  exact ⟨r, Dev.due_subset_foldl (Dev.due_subset_stageRaise g) b _ hr, hrn⟩

/-- What follows the raises in stageFaults only adds the level sources. -/
theorem Dev.due_subset_stageFaults (g : Nat) (old : GridSt) (x : ChanGrp) (d : Dev) :
    (x.ctl.m.raises.foldl (Dev.stageRaise g) d).fc.due ⊆ (d.stageFaults g old x).fc.due := by
  unfold Dev.stageFaults
  dsimp only
  refine List.Subset.trans ?_ (Dev.due_subset_foldl (fun d a => List.Subset.trans (Dev.due_subset_cond ..) (Dev.due_subset_cond ..)) x.arms _)
  refine List.Subset.trans ?_ (Dev.due_subset_cond ..)
  refine Dev.due_subset_foldl (fun d n => ?_) (List.range 4) _
  dsimp only
  split <;> exact Dev.due_subset_cond ..

section afterPartDue
variable {d : Dev} {g ch : Nat} {old : GridSt}

theorem Dev.afterPart_due (h : d.reports ch = true) : (d.afterPart ch g old).fc.due = (d.stageFaults g old (d.cg ch g)).fc.due := by
  rw [Dev.afterPart_reporting h]
  exact congrArg FcSt.due ((Dev.takeHarvest_keeps ..).1 .fc (by decide))

theorem Dev.due_subset_afterPart : d.fc.due ⊆ (d.afterPart ch g old).fc.due := by
  cases h : d.reports ch with
  | false => rw [Dev.afterPart_silent h]; exact List.Subset.refl _
  | true =>
    rw [Dev.afterPart_due h]
    exact List.Subset.trans (Dev.due_subset_foldl (Dev.due_subset_stageRaise g) _ d) (Dev.due_subset_stageFaults ..)

end afterPartDue

/-! A decision in one channel -/

/-- What Dev.decision does in channel ch. -/
def Dev.decisionIn (g : Nat) (late : Bool) (f : GCtx → GridSt → GridSt) (ch : Nat) (d : Dev) : Dev :=
  match ((d.cg ch g).cycles.filter (·.condDone)).getLast? with
  | some cy => if cy.gridDone = late then
      (d.modCg ch g fun x => { x with ctl := f (d.gctx g cy) x.ctl }).afterPart ch g (d.cg ch g).ctl
    else d
  | none => d

/-- What a decision may change, which is the scope of Dev.decision_keeps. -/
def decisionScope : Scope := ⟨[.out, .chans, .cm, .fc, .dma], [F.FC_COND_COND, F.GP_FEEDBACK_DISAGREE, F.GP_FEEDBACK_LOST_RAISED,
  F.GP_HARVEST_BEST_PBEST, F.GP_HARVEST_BEST_VBEST, F.GP_HARVEST_CMD_RESULT, F.PL_ARM_STATUS_ENERGY_RAISED, F.PL_ARM_STATUS_OVM_RAISED,
  F.PL_ARM_STATUS_TRIP_RAISED], []⟩

section keepsDecision
variable {d e : Dev} (h : Dev.keeps decisionScope d e)
include h

/-- The bounds of the courses come from the image, not from the course manager. -/
theorem Dev.nc_of_keeps : e.nc = d.nc := by
  have hmo : e.mo = d.mo := h.1 .mo (by decide)
  funext c
  rw [Dev.nc, Dev.nc, Dev.structure', Dev.structure', hmo]

/-- The context that a group's control works in holds no channel's state. -/
theorem Dev.gctx_of_keeps (g : Nat) (cy : GCycle) : e.gctx g cy = d.gctx g cy := by
  have hgrps : e.grps = d.grps := h.1 .grps (by decide)
  rw [Dev.gctx, Dev.gctx, Dev.nc_of_keeps h, Dev.grp, Dev.grp, hgrps]

theorem Dev.chState_of_keeps : e.chState = d.chState := funext fun c => h.2 F.TP_CH_STATE c 0 (by decide +kernel)

theorem Dev.inService_of_keeps : e.inService = d.inService := by
  funext c
  rw [Dev.inService, Dev.inService, Dev.chState_of_keeps h]

theorem Dev.computesAny_of_keeps : e.computesAny = d.computesAny := by
  funext c
  rw [Dev.computesAny, Dev.computesAny, Dev.inService_of_keeps h, Dev.chState_of_keeps h]

theorem Dev.reports_of_keeps (c : Nat) : e.reports c = d.reports c := by
  simp only [Dev.reports, Dev.reporting, Dev.serving, Dev.inService_of_keeps h]

/-- Whether a channel runs a group's control is up to its own state and what a decision keeps. -/
theorem Dev.deciding_of_keeps {g ch : Nat} {late : Bool} {cy : GCycle} (hlen : e.chans.length = d.chans.length) (hch : e.chan ch = d.chan ch)
    (hd : d.deciding g ch late cy) : e.deciding g ch late cy := by
  simpa only [Dev.deciding, hlen, hch, Dev.computesAny_of_keeps h, Dev.cg_congr hch] using hd

end keepsDecision

section decisionIn
variable {d : Dev} {g ch : Nat} {late : Bool} {cy : GCycle} {f : GCtx → GridSt → GridSt}

theorem Dev.decision_eq_each : d.decision g late f = d.each ((List.range 3).filter d.computesAny) (Dev.decisionIn g late f) := rfl

/-- Where the channel runs the group's control, the decision acts on its control state and the hub takes the result. -/
theorem Dev.decisionIn_deciding (h : d.deciding g ch late cy) : d.decisionIn g late f ch =
    (d.modCg ch g fun x => { x with ctl := f (d.gctx g cy) x.ctl }).afterPart ch g (d.ctl ch g) := by
  obtain ⟨-, -, -, -, -, hcy, hlate⟩ := h
  simp only [Dev.decisionIn, hcy, hlate, if_true]
  rfl

/-- In a channel that does not run the group's control nothing happens; in one that does, the group there changes and the hub takes the
result. -/
theorem Dev.decisionIn_cases (g ch : Nat) (late : Bool) (f : GCtx → GridSt → GridSt) (d : Dev) : d.decisionIn g late f ch = d ∨
    ∃ u, d.decisionIn g late f ch = (d.modCg ch g u).afterPart ch g (d.cg ch g).ctl := by
  unfold Dev.decisionIn
  split
  · split
    · exact .inr ⟨_, rfl⟩
    · exact .inl rfl
  · exact .inl rfl

theorem Dev.decisionIn_keeps : Dev.keeps decisionScope d (d.decisionIn g late f ch) := by
  rcases d.decisionIn_cases g ch late f with h | ⟨u, h⟩
  · rw [h]; exact Dev.keeps_refl ..
  · rw [h]; exact Dev.keeps_step (by decide +kernel) (Dev.afterPart_keeps ..) (Dev.keeps_mono (by decide +kernel) (Dev.modCg_keeps ..))

theorem Dev.chan_decisionIn_ne {c : Nat} (hc : ch ≠ c) : (d.decisionIn g late f ch).chan c = d.chan c := by
  rcases d.decisionIn_cases g ch late f with h | ⟨u, h⟩
  · rw [h]
  · rw [h, Dev.chan_congr Dev.afterPart_chans, Dev.modCg, Dev.chan_modChan_ne hc, Dev.modCg, Dev.chan_modChan_ne hc]

theorem Dev.decisionIn_length : (d.decisionIn g late f ch).chans.length = d.chans.length := by
  rcases d.decisionIn_cases g ch late f with h | ⟨u, h⟩
  · rw [h]
  · rw [h, Dev.afterPart_chans, Dev.modCg, Dev.modChan_length, Dev.modCg, Dev.modChan_length]

theorem Dev.due_subset_decisionIn : d.fc.due ⊆ (d.decisionIn g late f ch).fc.due := by
  rcases d.decisionIn_cases g ch late f with h | ⟨u, h⟩
  · rw [h]; exact List.Subset.refl _
  · rw [h]; exact Dev.due_subset_afterPart (d := d.modCg ch g u)

section deciding
variable (h : d.deciding g ch late cy)
include h

theorem Dev.ctl_decisionIn_self : (d.decisionIn g late f ch).ctl ch g = (f (d.gctx g cy) (d.ctl ch g)).taken := by
  rw [Dev.decisionIn_deciding h]
  obtain ⟨hc, hg, hlen, hgrps, -⟩ := h
  rw [← hlen] at hc
  rw [← hgrps] at hg
  rw [Dev.ctl, Dev.cg_congr (Dev.chan_congr Dev.afterPart_chans ch), Dev.cg_modCg_self _ (by rwa [Dev.modCg, Dev.modChan_length])
    (by rwa [Dev.grps_length_modCg _ hc]), Dev.cg_modCg_self _ hc hg]
  rfl

theorem Dev.ctl_decisionIn_ne {n : Nat} (hn : n ≠ g) : (d.decisionIn g late f ch).ctl ch n = d.ctl ch n := by
  rw [Dev.decisionIn_deciding h]
  obtain ⟨hc, -, hlen, -⟩ := h
  rw [← hlen] at hc
  rw [Dev.ctl, Dev.cg_congr (Dev.chan_congr Dev.afterPart_chans ch), Dev.cg_modCg_ne _ hn (by rwa [Dev.modCg, Dev.modChan_length]),
    Dev.cg_modCg_ne _ hn hc]
  rfl

/-- What the reporting channel's decision raises of the group's sources awaits its reactions. -/
theorem Dev.mem_due_decisionIn (hr : d.reports ch = true) {n : Nat} (hm : n ∈ (f (d.gctx g cy) (d.ctl ch g)).m.raises) (hn : 0xA0 ≤ n)
    (hs : (n - 0xA0) % 8 = 0 ∨ (n - 0xA0) % 8 = 7) : ∃ r ∈ (d.decisionIn g late f ch).fc.due, r.n = n := by
  rw [Dev.decisionIn_deciding h]
  obtain ⟨hc, hg, hlen, hgrps, -⟩ := h
  rw [Dev.afterPart_due (by exact hr), Dev.cg_modCg_self _ (hlen ▸ hc) (hgrps ▸ hg)]
  obtain ⟨r, hr, hrn⟩ := Dev.mem_due_stageRaises g hn hs _ hm (d.modCg ch g fun x => { x with ctl := f (d.gctx g cy) x.ctl })
  exact ⟨r, Dev.due_subset_stageFaults _ _ _ _ hr, hrn⟩

end deciding

/-! A decision in several channels -/

theorem Dev.keeps_decisionIns (l : List Nat) : Dev.keeps decisionScope d (d.each l (Dev.decisionIn g late f)) :=
  Dev.keeps_each _ l (fun _ _ => Dev.decisionIn_keeps) (Dev.keeps_refl ..)

theorem Dev.chan_decisionIns_not_mem {c : Nat} (l : List Nat) (hc : c ∉ l) : (d.each l (Dev.decisionIn g late f)).chan c = d.chan c := by
  induction l generalizing d with
  | nil => rfl
  | cons b l ih =>
    exact (ih (List.not_mem_of_not_mem_cons hc)).trans (Dev.chan_decisionIn_ne (List.ne_of_not_mem_cons hc).symm)

theorem Dev.decisionIns_length (l : List Nat) : (d.each l (Dev.decisionIn g late f)).chans.length = d.chans.length := by
  induction l generalizing d with
  | nil => rfl
  | cons b l ih => exact ih.trans Dev.decisionIn_length

/-- A computing channel stands once in the list of those a decision goes through. -/
theorem Dev.computing_split (hc : ch < 3) (h : d.computesAny ch = true) :
    ∃ l r, (List.range 3).filter d.computesAny = l ++ ch :: r ∧ ch ∉ l ∧ ch ∉ r := by
  obtain ⟨l, r, hlr⟩ := List.append_of_mem (List.mem_filter.mpr ⟨List.mem_range.mpr hc, h⟩)
  have hnodup : (l ++ ch :: r).Nodup := hlr ▸ List.Pairwise.filter d.computesAny List.nodup_range
  have hnot : ch ∉ l ++ r := (List.nodup_cons.mp (List.perm_middle.nodup_iff.mp hnodup)).1
  exact ⟨l, r, hlr, fun m => hnot (List.mem_append_left _ m), fun m => hnot (List.mem_append_right _ m)⟩

/-- What a decision leaves in a channel is what its own turn leaves there, at which the channel is still as before; of the sources that
turn raises none is lost. -/
theorem Dev.decision_turn (f : GCtx → GridSt → GridSt) (h : d.deciding g ch late cy) :
    ∃ e : Dev, Dev.keeps decisionScope d e ∧ e.deciding g ch late cy ∧ e.chan ch = d.chan ch ∧
      (d.decision g late f).chan ch = (e.decisionIn g late f ch).chan ch ∧
      (e.decisionIn g late f ch).fc.due ⊆ (d.decision g late f).fc.due := by
  obtain ⟨hc, -, -, -, hcomp, -⟩ := id h
  obtain ⟨l, r, hlr, hl, hr⟩ := Dev.computing_split hc hcomp
  have hturns : d.decision g late f = ((d.each l (Dev.decisionIn g late f)).decisionIn g late f ch).each r (Dev.decisionIn g late f) := by
    rw [Dev.decision_eq_each, hlr]
    exact List.foldl_append
  have hkeeps : Dev.keeps decisionScope d (d.each l (Dev.decisionIn g late f)) := Dev.keeps_decisionIns l
  have hchan : (d.each l (Dev.decisionIn g late f)).chan ch = d.chan ch := Dev.chan_decisionIns_not_mem l hl
  refine ⟨_, hkeeps, Dev.deciding_of_keeps hkeeps (Dev.decisionIns_length l) hchan h, hchan, ?_, ?_⟩
  · rw [hturns, Dev.chan_decisionIns_not_mem r hr]
  · rw [hturns]
    exact Dev.due_subset_foldl (fun _ _ => Dev.due_subset_decisionIn) r _

theorem Dev.chan_decision_idle {c : Nat} (h : d.computesAny c = false) : (d.decision g late f).chan c = d.chan c :=
  Dev.chan_decisionIns_not_mem _ fun m => by simp [h] at m

/-- With one channel computing its turn is the whole decision. -/
theorem Dev.decision_single (hc : ch < 3) (h : d.computesAny ch = true) (hone : ∀ c, d.computesAny c = true → c = ch) :
    d.decision g late f = d.decisionIn g late f ch := by
  obtain ⟨l, r, hlr, hl, hr⟩ := Dev.computing_split hc h
  have hmem : ∀ c ∈ l ++ ch :: r, c = ch := fun c m => hone c (List.mem_filter.mp (hlr ▸ m)).2
  have hl' : l = [] := List.eq_nil_iff_forall_not_mem.mpr fun c m => hl (hmem c (List.mem_append_left _ m) ▸ m)
  have hr' : r = [] := List.eq_nil_iff_forall_not_mem.mpr fun c m =>
    hr (hmem c (List.mem_append_right _ (List.mem_cons_of_mem _ m)) ▸ m)
  rw [Dev.decision_eq_each, hlr, hl', hr']
  rfl

end decisionIn

/-- Settles O27: each computing channel has one turn, which acts on its own control state of the group, and only the turn of the reporting
channel reaches the rest of the device. -/
theorem decisionReachesChannels : Obligations.DecisionReachesChannels := by
  intro d g ch late cy f h
  obtain ⟨e, hkeeps, he, hchan, hleft, hdue⟩ := Dev.decision_turn f h
  have hctl (n : Nat) : e.ctl ch n = d.ctl ch n := congrArg ChanGrp.ctl (Dev.cg_congr hchan n)
  have hctl' (n : Nat) : (d.decision g late f).ctl ch n = (e.decisionIn g late f ch).ctl ch n :=
    congrArg ChanGrp.ctl (Dev.cg_congr hleft n)
  have hgctx : e.gctx g cy = d.gctx g cy := Dev.gctx_of_keeps hkeeps g cy
  have hall := Dev.decision_keeps g late f d
  refine ⟨?_, fun n hn => ?_, fun c hc => Dev.chan_decision_idle hc, fun hr n hm hn hs => ?_, ?_,
    hall.1 .grps (by decide), hall.1 .work (by decide), hall.1 .store (by decide)⟩
  · rw [hctl', Dev.ctl_decisionIn_self he, hgctx, hctl]; rfl
  · rw [hctl', Dev.ctl_decisionIn_ne he hn, hctl]
  · rw [← hgctx, ← hctl] at hm
    obtain ⟨r, hr, hrn⟩ := Dev.mem_due_decisionIn he (by rw [Dev.reports_of_keeps hkeeps, hr]) hm hn hs
    exact ⟨r, hdue hr, hrn⟩
  · rintro _ hr hone rfl
    obtain ⟨hc, -, -, -, hcomp, -⟩ := id h
    rw [Dev.decision_single hc hcomp hone, Dev.decisionIn_deciding h]
    exact Dev.afterPart_reporting hr

end Sys2Proof.Machine
end

section
/-! PROOF. Power and reset (R44 to R54): which commands are an effect on a working device, what a dead one shows, and what a start and
a loss of power leave. -/

namespace Sys2Proof.Machine

/-! A device that does not work -/

/-- The commands that change the power and reset pins, whether the device works or not. -/
def isPinCommand : Instr → Bool
  | .powerUp .. | .powerLoss .. | .resetNFall .. | .resetNRise .. => true
  | _ => false

/-- Every other command is one effect on the device, taken if it works. -/
theorem exec_eq_cmd (c : Instr) (h : isPinCommand c = false) :
    ∃ f : Dev → Dev, ∀ s, exec c s = .next (s.cmd (ticksOf c) f) := by
  cases c
  case powerUp | powerLoss | resetNFall | resetNRise => cases h
  case msixVectorUnmask access => cases access <;> exact ⟨_, fun _ => rfl⟩
  all_goals exact ⟨_, fun _ => rfl⟩

theorem State.seen_of_dead {s : State} {dt : Nat} (h : (s.later dt).live = false) : s.seen dt = s.later dt := by
  simp [State.seen, h]

/-- While RESET_N has been low for a microsecond or more the device does not work (R50). -/
theorem Dev.live_eq_false_of_held {d : Dev} (hr : d.pins.resetN = false) (ht : d.pins.fellAt + 500 ≤ d.now) : d.live = false := by
  have : ¬ d.clk.ticks < d.pins.fellAt + 500 := Nat.not_lt.mpr ht
  simp [Dev.live, hr, this]

/-- Settles O5: every command but the four is one effect, which State.cmd takes only on a device at work, and every output of a device is
gated by its work. -/
theorem deadDevice : Obligations.DeadDevice := by
  refine ⟨fun c s t hup hloss hfall hrise hdead hx => ?_, fun d hr ht => ?_⟩
  · have hpin : isPinCommand c = false := by
      cases c
      case powerUp => exact (hup _ _ _ _ _ rfl).elim
      case powerLoss => exact (hloss _ _ rfl).elim
      case resetNFall => exact (hfall _ rfl).elim
      case resetNRise => exact (hrise _ _ _ _ rfl).elim
      all_goals rfl
    obtain ⟨f, hf⟩ := exec_eq_cmd c hpin
    have hseen := State.seen_of_dead (hdead (ticksOf c))
    rw [hf, State.cmd_dead _ _ _ (hseen ▸ hdead _), hseen] at hx
    exact ⟨ticksOf c, (Host.Outcome.next.inj hx).symm⟩
  · have hl := Dev.live_eq_false_of_held hr ht
    simp [Dev.errN, Dev.brkHold, Dev.tioHigh, Dev.ppsOut, Dev.laneIdleOut, hl]

/-! The retained store at a start -/

/-- A record written stands in the first copy, which is good then. -/
theorem Store.copyOf_write {s : Store} {r : DeviceRecords} {l : List DeviceRecords} (h : s.recs = r :: l) (k : Nat)
    (f : DeviceRecords → DeviceRecords) : (s.write k f).copyOf k = { f r with bad := (f r).bad.filter (· != k) } := by
  simp [Store.copyOf, Store.write, h]

theorem Store.starts_counted {s : Store} (h : s.recs ≠ []) (pin : Bool) : (s.counted pin).starts = satInc 0xFFFF s.starts := by
  obtain ⟨r, l, hr⟩ := List.exists_cons_of_ne_nil h
  rw [Store.starts, Store.counted, Store.copyOf_write hr]

theorem Store.pinResets_counted {s : Store} (h : s.recs ≠ []) : (s.counted true).pinResets = satInc 0xFF s.pinResets := by
  obtain ⟨r, l, hr⟩ := List.exists_cons_of_ne_nil h
  rw [Store.pinResets, Store.counted, Store.copyOf_write hr]
  rfl

@[simp] theorem Store.relogged_recs (s : Store) : s.relogged.recs = s.recs := by
  unfold Store.relogged
  split <;> rfl

/-- Where the log goes on tells nothing of the device records. -/
theorem Store.copyOf_congr {s t : Store} (h : t.recs = s.recs) (k : Nat) : t.copyOf k = s.copyOf k := by
  simp only [Store.copyOf, h]

theorem Store.starts_relogged (s : Store) : s.relogged.starts = s.starts :=
  congrArg DeviceRecords.starts (Store.copyOf_congr s.relogged_recs 3)

theorem Store.pinResets_relogged (s : Store) : s.relogged.pinResets = s.pinResets :=
  congrArg DeviceRecords.pinResets (Store.copyOf_congr s.relogged_recs 3)

theorem logRecordCommit_recs (d : Dev) : (logRecordCommit d).store.recs = d.store.recs := by
  unfold logRecordCommit
  split
  · rfl
  · dsimp only
    rw [(Dev.sourceGrew_keeps 0 _).1 .store (by decide)]
    split <;> rfl

/-- The device records stay while the store completes what it has started. -/
theorem Dev.finishRecords_recs (d : Dev) : d.finishRecords.store.recs = d.store.recs := logRecordCommit_recs _

theorem Store.starts_finishRecords (d : Dev) : d.finishRecords.store.starts = d.store.starts :=
  congrArg DeviceRecords.starts (Store.copyOf_congr d.finishRecords_recs 3)

theorem Store.pinResets_finishRecords (d : Dev) : d.finishRecords.store.pinResets = d.store.pinResets :=
  congrArg DeviceRecords.pinResets (Store.copyOf_congr d.finishRecords_recs 3)

/-! A start -/

/-- The device right after a start (R45, R53), but for the registers that tell of it. -/
def Dev.begun (cause : Nat) (pins : Pins) (lockedOut kilnStart : Bool) (d : Dev) : Dev :=
  let e : Dev := Dev.fresh (d.store.counted (cause == 1)).relogged { pins with errSince := d.now } ⟨d.now, 0, 0⟩ [] d.free
  { e with
    mo := { e.mo with kilnSince := d.now, lockedOut := lockedOut, kilnStart := kilnStart || pins.kilnEn }
    host := { e.host with ownerLost := d.now } }

section start
variable (cause : Nat) (pins : Pins) (lockedOut kilnStart : Bool) (d : Dev)

theorem Dev.start_eq_begun : d.start cause pins lockedOut kilnStart =
    { d.begun cause pins lockedOut kilnStart with bank := (d.start cause pins lockedOut kilnStart).bank } := by
  unfold Dev.start
  dsimp only
  split <;> rfl

theorem Dev.start_live (hp : pins.powered = true) (hr : pins.resetN = true) : (d.start cause pins lockedOut kilnStart).live = true := by
  rw [Dev.start_eq_begun]
  simp [Dev.live, Dev.begun, Dev.fresh, hp, hr]

/-- Every field but the three that tell of the start stands at its power-up value (R45). -/
theorem Dev.get_start_other {f : Fld} (i j : Nat) (hc : f ≠ F.GL_START_CAUSE) (hk : f ≠ F.GL_START_KILN) (hs : f ≠ F.HC_CTX_STAT_STATE) :
    (d.start cause pins lockedOut kilnStart).get f i j = fieldDefault f i := by
  unfold Dev.start
  dsimp only
  split
  · rw [Dev.get_set_other _ _ _ _ _ _ _ _ hs, Dev.get_set_other _ _ _ _ _ _ _ _ hk, Dev.get_set_other _ _ _ _ _ _ _ _ hc]
    rfl
  · rw [Dev.get_set_other _ _ _ _ _ _ _ _ hk, Dev.get_set_other _ _ _ _ _ _ _ _ hc]
    rfl

theorem Dev.get_start_kiln : (d.start cause pins lockedOut kilnStart).get F.GL_START_KILN =
    kilnSampled pins.kilnEn lockedOut kilnStart % 4 := by
  unfold Dev.start
  dsimp only
  split
  · rw [Dev.get_set_other _ _ _ _ _ _ _ _ (by decide)]
    exact Dev.get_set_self ..
  · exact Dev.get_set_self ..

theorem Dev.get_start_cause : (d.start cause pins lockedOut kilnStart).get F.GL_START_CAUSE = cause % 4 := by
  unfold Dev.start
  dsimp only
  split
  · rw [Dev.get_set_other _ _ _ _ _ _ _ _ (by decide), Dev.get_set_other _ _ _ _ _ _ _ _ (by decide)]
    exact Dev.get_set_self ..
  · rw [Dev.get_set_other _ _ _ _ _ _ _ _ (by decide)]
    exact Dev.get_set_self ..

theorem Dev.start_store : (d.start cause pins lockedOut kilnStart).store = (d.store.counted (cause == 1)).relogged :=
  congrArg Dev.store (Dev.start_eq_begun ..)

theorem Dev.start_starts (h : d.store.recs ≠ []) :
    (d.start cause pins lockedOut kilnStart).store.starts = satInc 0xFFFF d.store.starts := by
  rw [Dev.start_store, Store.starts_relogged, Store.starts_counted h]

theorem Dev.start_pinResets (h : d.store.recs ≠ []) :
    (d.start 1 pins lockedOut kilnStart).store.pinResets = satInc 0xFF d.store.pinResets := by
  rw [Dev.start_store, Store.pinResets_relogged]
  exact Store.pinResets_counted h

theorem Dev.start_allIsolated : (d.start cause pins lockedOut kilnStart).allIsolated = true := by
  simp [Dev.allIsolated, Dev.gpMode, Dev.get_start_other cause pins lockedOut kilnStart d _ _ (f := F.GP_MODE_MODE) (by decide) (by decide) (by decide)]
  decide

theorem Dev.start_errN : (d.start cause pins lockedOut kilnStart).errN = true := by
  rw [Dev.start_eq_begun]
  simp [Dev.errN, Dev.begun, Dev.fresh, FcSt.init]

end start

/-- Sampled where nothing was locked out or started before, KILN_EN shows (R54). -/
theorem kilnSampled_fresh (k : Bool) : kilnSampled k false false % 4 = bit k := by
  cases k <;> rfl

/-! The pins of power and reset -/

theorem resetNFall_high {d : Dev} (h : d.pins.resetN = true) :
    resetNFall d = { d with pins := { d.pins with resetN := false, fellAt := d.now } } := by simp [resetNFall, h]

/-- A low below 1 µs, in fact any that is neither undefined nor a reset, is ignored (R50). -/
theorem resetNRise_short {d : Dev} (h : d.pins.resetN = false) (ht : d.now < d.pins.fellAt + 5000) (k v : Bool) (n p : Nat) :
    resetNRise k v n p d = { d with pins := { d.pins with resetN := true } } := by
  have : ¬ d.pins.fellAt + 5000 ≤ d.now := Nat.not_le.mpr ht
  simp [resetNRise, h, this]

/-- A low of 10 µs or longer is a reset (R50, R53). -/
theorem resetNRise_long {d : Dev} (h : d.pins.resetN = false) (hp : d.pins.powered = true) (ht : d.pins.fellAt + 5000 ≤ d.now) (k v : Bool)
    (n p : Nat) : resetNRise k v n p d = d.finishRecords.start 1
      { d.pins with resetN := true, kilnEn := k, refSel := v, devid := n % 64, sealPins := p % 0x1000 } d.mo.lockedOut d.mo.kilnStart := by
  simp [resetNRise, h, hp, ht]

theorem Dev.resetUndefined_iff {d : Dev} (h : d.pins.resetN = false) (hp : d.pins.powered = true) :
    d.resetUndefined = true ↔ d.pins.fellAt + 500 ≤ d.now ∧ d.now < d.pins.fellAt + 5000 := by
  simp [Dev.resetUndefined, h, hp]

theorem exec_resetNRise_defined {s : State} {dt : Nat} (h : (s.later dt).resetUndefined = false) (k : Bool) (v : Straps) (p : BitVec 12) :
    exec (.resetNRise dt k v p) s = .next { s with dev := resetNRise k v.refSel v.devid.toNat p.toNat (s.later dt) } :=
  if_neg (by rw [show (Dev.elapse dt s.dev).resetUndefined = false from h]; exact Bool.false_ne_true)

theorem exec_resetNRise_undefined {s : State} {dt : Nat} (h : (s.later dt).resetUndefined = true) (k : Bool) (v : Straps) (p : BitVec 12) :
    exec (.resetNRise dt k v p) s = .fault .resetPulseUndefined := if_pos h

theorem recs_ne_nil {s : Store} (h : s.recs.length = 2) : s.recs ≠ [] := List.ne_nil_of_length_pos (by omega)

/-- Settles O6, by the length of the low level. -/
theorem resetPulse : Obligations.ResetPulse := by
  refine ⟨fun s dt hr => ?_, fun s dt k v p hr hp ht => ?_, fun s dt k v p hr hp ht hlt => ?_, fun s dt k v p hr hp ht hrecs => ?_⟩
  · exact congrArg (fun e => Host.Outcome.next { s with dev := e }) (resetNFall_high (d := s.later dt) hr)
  · have hd : (s.later dt).resetUndefined = false := by
      rw [← Bool.not_eq_true, Dev.resetUndefined_iff (d := s.later dt) hr hp]
      exact fun hu => absurd ht (Nat.not_lt.mpr hu.1)
    rw [exec_resetNRise_defined hd, resetNRise_short (d := s.later dt) hr (Nat.lt_trans ht (Nat.add_lt_add_left (by decide) _))]
    rfl
  · exact exec_resetNRise_undefined ((Dev.resetUndefined_iff (d := s.later dt) hr hp).mpr ⟨ht, hlt⟩) k v p
  · have hd : (s.later dt).resetUndefined = false := by
      rw [← Bool.not_eq_true, Dev.resetUndefined_iff (d := s.later dt) hr hp]
      exact fun hu => absurd ht (Nat.not_le.mpr hu.2)
    have hne : (s.later dt).finishRecords.store.recs ≠ [] := by
      rw [Dev.finishRecords_recs]
      exact recs_ne_nil hrecs
    refine ⟨_, by rw [exec_resetNRise_defined hd, resetNRise_long (d := s.later dt) hr hp ht], Dev.start_live _ _ _ _ _ (by exact hp) rfl,
      congrArg (fun e => e.clk.dev) (Dev.start_eq_begun ..), Dev.get_start_cause .., ?_, ?_, congrArg (fun e => e.pins.kilnEn) (Dev.start_eq_begun ..),
      congrArg (fun e => e.pins.refSel) (Dev.start_eq_begun ..), ?_, ?_, Dev.start_allIsolated .., Dev.start_errN ..⟩
    · rw [Dev.start_pinResets _ _ _ _ hne, Store.pinResets_finishRecords]; rfl
    · rw [Dev.start_starts _ _ _ _ _ hne, Store.starts_finishRecords]; rfl
    · rw [Dev.start_eq_begun]
      exact Nat.mod_eq_of_lt v.devid.isLt
    · rw [Dev.start_eq_begun]
      exact Nat.mod_eq_of_lt p.isLt

/-- The pins at a start by power: RESET_N is released with it, and what the outside drives is sampled. -/
def startPins (pins : Pins) (k r : Bool) (n p : Nat) : Pins :=
  { pins with powered := true, resetN := true, kilnEn := k, refSel := r, devid := n % 64, sealPins := p % 0x1000, vio33Low := false }

/-- Settles O7: a start is Dev.begun with the registers that tell of it, a loss is one change of the pins. -/
theorem powerCycle : Obligations.PowerCycle := by
  refine ⟨fun s dt k r v p hp => ?_, fun s dt hp => ⟨?_, ?_⟩⟩
  · have hx : exec (.powerUp dt k r v p) s = .next { s with dev := powerUp k r v.toNat p.toNat (s.later dt) } := rfl
    have hup : powerUp k r v.toNat p.toNat (s.later dt) = (s.later dt).start 0 (startPins s.dev.pins k r v.toNat p.toNat) false false := by
      have hpow : (s.later dt).pins.powered = false := hp
      exact if_neg (by simp [hpow])
    refine ⟨_, by rw [hx, hup], Dev.start_live _ _ _ _ _ rfl rfl, ?_⟩
    refine ⟨congrArg (fun e => e.clk.dev) (Dev.start_eq_begun ..), congrArg Dev.work (Dev.start_eq_begun ..), congrArg Dev.cm (Dev.start_eq_begun ..),
      congrArg Dev.tp (Dev.start_eq_begun ..), congrArg Dev.fc (Dev.start_eq_begun ..), congrArg Dev.sb (Dev.start_eq_begun ..),
      congrArg Dev.dma (Dev.start_eq_begun ..), congrArg (fun e => e.host.cache) (Dev.start_eq_begun ..),
      congrArg (fun e => e.host.walks) (Dev.start_eq_begun ..), Dev.start_store .., fun hrecs => Dev.start_starts _ _ _ _ _ (recs_ne_nil hrecs),
      Dev.get_start_cause .., ?_, fun f i j hc hk hs => Dev.get_start_other _ _ _ _ _ i j hc hk hs⟩
    exact (Dev.get_start_kiln ..).trans (kilnSampled_fresh k)
  · have hx : exec (.powerLoss dt false) s = .next { s with dev := powerLoss false (s.later dt) } := rfl
    have hpow : (s.later dt).pins.powered = true := hp
    rw [hx]
    simp only [powerLoss, hpow]
    rfl
  · have hx : exec (.powerLoss dt true) s = .next { s with dev := powerLoss true (s.later dt) } := rfl
    have hpow : (s.later dt).pins.powered = true := hp
    refine ⟨{ (s.later dt).finishRecords with pins := { (s.later dt).finishRecords.pins with powered := false } }, ?_, rfl, rfl, rfl⟩
    rw [hx]
    simp only [powerLoss, hpow]
    rfl

end Sys2Proof.Machine
end

section
/-! PROOF. Byte memory under a write of bytes (R38, R431) and the register bank under a set (R5 to R7). -/

namespace Sys2Proof.Machine

/-- Outside the bytes written a memory reads as before. -/
theorem Mem.read_writeBytes_outside (l : List (BitVec 8)) (m : Mem) (a b : Nat) (h : b < a ∨ a + l.length ≤ b) :
    (m.writeBytes a l).read b = m.read b := by
  induction l generalizing m a with
  | nil => rfl
  | cons v l ih =>
    rw [List.length_cons] at h
    rw [Mem.writeBytes, ih (m.write a v) (a + 1) (by omega), Mem.read_write_ne m a b v (by omega)]

/-- The bytes written are read back. -/
theorem Mem.readBytes_writeBytes (l : List (BitVec 8)) (m : Mem) (a : Nat) (h : m.wf = true) :
    (m.writeBytes a l).readBytes a l.length = l := by
  induction l generalizing m a with
  | nil => rfl
  | cons v l ih =>
    have hw := Mem.write_wf m a v h
    rw [List.length_cons, Mem.readBytes, Mem.writeBytes, ih _ _ hw, Mem.read_writeBytes_outside l _ _ _ (.inl a.lt_succ_self),
      Mem.read_write_self m 0 a v h]

/-- Settles O8, by the laws of the byte memory and of the register bank. -/
theorem storesReadBack : Obligations.StoresReadBack :=
  ⟨⟨Mem.write_wf, fun m a v h => ⟨Mem.read_write_self m 0 a v h, fun b hb => Mem.read_write_ne m a b v hb⟩,
      fun m a l h => ⟨Mem.writeBytes_wf m a l h, fun b hb => Mem.read_writeBytes_outside l m a b hb, Mem.readBytes_writeBytes l m a h⟩⟩,
    fun d f v i j => ⟨Dev.get_set_self d f v i j, fun g k l h => Dev.get_set_ne d f g v i j k l h⟩⟩

end Sys2Proof.Machine
end

section
/-! PROOF. The settings journal (R41, R42) and kiln (R55, R57). -/

namespace Sys2Proof.Machine

/-- A command that is an effect leaves, on a device at work, what the effect gives. -/
theorem exec_live {c : Instr} {s : State} {dt : Nat} {f : Dev → Dev} {e : Dev} (hl : (s.seen dt).live = true)
    (hx : exec c s = .next (s.cmd dt f)) (he : f (s.seen dt) = e) : exec c s = .next (s.settled e) := by
  rw [hx, State.cmd_live s dt f hl, he]

/-- A one-bit field set holds the bit. -/
theorem Dev.on_flag_self {f : Fld} (h : f.width = 1) (d : Dev) (b : Bool) (i j : Nat) : (d.flag f b i j).on f i j = b := by
  rw [Dev.on, Dev.flag, Dev.get_set_self, h]
  cases b <;> rfl

/-! The journal -/

theorem journalSnapshot_waits {d : Dev} (h : (nth d.store.halves d.store.half ⟨0, false, []⟩).recs.length < 28672 ∨ d.ready F.GL_READY_JOURNAL = false) :
    journalSnapshot d = d := by
  simp only [journalSnapshot]
  exact if_pos (h.imp_right fun hr => by simp [hr])

theorem journalSnapshot_full {d : Dev} (h : 28672 ≤ (nth d.store.halves d.store.half ⟨0, false, []⟩).recs.length)
    (hr : d.ready F.GL_READY_JOURNAL = true) : journalSnapshot d = d.nextHalf := by
  simp only [journalSnapshot]
  exact if_neg (by simp [hr, h])

/-- Settles O14: a commit is settingsRecordCommit, a snapshot Dev.nextHalf. -/
theorem journalCommits : Obligations.JournalCommits := by
  rintro s dt d h rfl hl rfl
  exact ⟨exec_live hl rfl rfl, fun hfull hr => ⟨_, exec_live hl rfl (journalSnapshot_full hfull hr), rfl, rfl, rfl⟩,
    fun hw => exec_live hl rfl (journalSnapshot_waits hw)⟩

/-! Kiln -/

section kiln
variable {d : Dev} {x code : Nat}

theorem Dev.kilnLate_iff : d.kilnLate = true ↔ d.mo.kilnSince + 5000000000 ≤ d.now := by simp [Dev.kilnLate]

theorem kilnCodeWrite_elsewhere (h : d.refusal x true 0xC = none) (hk : d.get F.GL_START_KILN ≠ 1) : kilnCodeWrite x code d = d := by
  rw [kilnCodeWrite, Dev.hostWrite_accepted _ _ _ _ h, if_pos hk]

theorem kilnCodeWrite_right (h : d.refusal x true 0xC = none) (hk : d.get F.GL_START_KILN = 1)
    (hc : code % 0x100000000 = Config.kilnCode % 0x100000000) (ht : d.kilnLate = false) :
    kilnCodeWrite x code d = d.set F.GL_START_KILN 2 := by
  rw [kilnCodeWrite, Dev.hostWrite_accepted _ _ _ _ h, if_neg (not_not_intro hk), if_pos ⟨hc, ht⟩]

theorem kilnCodeWrite_wrong (h : d.refusal x true 0xC = none) (hk : d.get F.GL_START_KILN = 1)
    (hc : ¬(code % 0x100000000 = Config.kilnCode % 0x100000000 ∧ d.kilnLate = false)) : kilnCodeWrite x code d = d.lockKiln := by
  rw [kilnCodeWrite, Dev.hostWrite_accepted _ _ _ _ h, if_neg (not_not_intro hk), if_neg hc]

/-- GL_KILN is write-only: a read finds 0 and clears nothing. -/
theorem Dev.readReg_kiln : d.readReg x 0xC = (d, 0) := rfl

end kiln

/-- Settles O18, by the value of GL_START.KILN. -/
theorem kiln : Obligations.Kiln := by
  rintro s dt d rfl hl
  refine ⟨fun x code hacc => ?_, fun x hacc => ?_, fun hk ht => ?_⟩
  · have hmod : code.toNat % 0x100000000 = code.toNat := Nat.mod_eq_of_lt code.isLt
    refine ⟨fun hk hc ht => ?_, fun hk hbad => ?_, fun hk => exec_live hl rfl (kilnCodeWrite_elsewhere hacc hk)⟩
    · exact exec_live hl rfl (kilnCodeWrite_right hacc hk (hmod.trans hc) (decide_eq_false (Nat.not_le.mpr ht)))
    · refine exec_live hl rfl (kilnCodeWrite_wrong hacc hk ?_)
      rintro ⟨hc, ht⟩
      rcases hbad with hbad | hbad
      · exact hbad (hmod.symm.trans hc)
      · exact absurd (Dev.kilnLate_iff.mpr hbad) (by simp [ht])
  · rw [exec_readClear_live _ _ _ _ _ hl, readClear_one (by decide) (by decide),
      Dev.readWord_register (by decide) (by decide) (by decide) (by decide), Dev.hostRead_accepted _ _ _ _ hacc, Dev.readReg_kiln]
  · exact exec_live hl rfl (if_pos ⟨hk, Dev.kilnLate_iff.mpr ht⟩)

end Sys2Proof.Machine
end

section
/-! PROOF. MO_CMD (R28 to R30, R33, R58): its checks and what each command begins. -/

namespace Sys2Proof.Machine

/-! The checks of R58 in their order -/

section moCheck
variable {d : Dev} {bad : Bool} {own : Nat}

theorem Dev.moCheck_kiln (h : d.get F.GL_START_KILN ≠ 0) : d.moCheck bad own = 0x10 := if_pos h

theorem Dev.moCheck_notReady (hk : d.get F.GL_START_KILN = 0) (hr : d.ready F.GL_READY_STORE = false) : d.moCheck bad own = 0x0F := by
  simp [Dev.moCheck, hk, hr]

theorem Dev.moCheck_busy (hk : d.get F.GL_START_KILN = 0) (hr : d.ready F.GL_READY_STORE = true) (hb : d.on F.MO_CMD_BUSY = true) :
    d.moCheck bad own = 1 := by
  simp [Dev.moCheck, hk, hr, hb]

/-- What is left of the checks once kiln, readiness and BUSY let the command pass. -/
theorem Dev.moCheck_idle (hk : d.get F.GL_START_KILN = 0) (hr : d.ready F.GL_READY_STORE = true) (hb : d.on F.MO_CMD_BUSY = false) :
    d.moCheck bad own = if bad then 2 else own := by
  simp [Dev.moCheck, hk, hr, hb]

theorem Dev.moCheck_zero_iff : d.moCheck false 0 = 0 ↔
    d.get F.GL_START_KILN = 0 ∧ d.ready F.GL_READY_STORE = true ∧ d.on F.MO_CMD_BUSY = false := by
  unfold Dev.moCheck
  by_cases hk : d.get F.GL_START_KILN = 0 <;> cases hr : d.ready F.GL_READY_STORE <;> cases hb : d.on F.MO_CMD_BUSY <;> simp [hk]

/-- A device that would take a command without checks of its own answers another one with those. -/
theorem Dev.moCheck_own (h : d.moCheck false 0 = 0) : d.moCheck bad own = if bad then 2 else own := by
  obtain ⟨hk, hr, hb⟩ := Dev.moCheck_zero_iff.mp h
  exact Dev.moCheck_idle hk hr hb

end moCheck

section moCmd
variable {d : Dev} {x own : Nat} {bad : Bool} {f : Dev → Dev}

theorem Dev.moCmd_begins (hacc : d.refusal x true 0x20010 = none) (hc : d.moCheck bad own = 0) :
    d.moCmd x bad own f = f (d.flag F.MO_CMD_BUSY true) := by
  rw [Dev.moCmd, Dev.hostWrite_accepted _ _ _ _ hacc]
  exact if_neg (not_not_intro hc)

/-- A command that fails a check leaves its code and nothing else. -/
theorem Dev.moCmd_fails (hacc : d.refusal x true 0x20010 = none) (hc : d.moCheck bad own ≠ 0) :
    d.moCmd x bad own f = d.set F.MO_CMD_RESULT (d.moCheck bad own) := by
  rw [Dev.moCmd, Dev.hostWrite_accepted _ _ _ _ hacc]
  exact if_pos hc

theorem Dev.moCmd_own (hacc : d.refusal x true 0x20010 = none) (ho : d.moCheck false 0 = 0) (hb : bad = false) (hz : own = 0) :
    d.moCmd x bad own f = f (d.flag F.MO_CMD_BUSY true) := by
  subst hb hz
  exact Dev.moCmd_begins hacc ho

/-- A code that the checks give is the result. -/
theorem Dev.moCmd_result {c : Nat} (hacc : d.refusal x true 0x20010 = none) (hc : d.moCheck bad own = c) (hne : c ≠ 0) :
    d.moCmd x bad own f = d.set F.MO_CMD_RESULT c := by
  subst hc
  exact Dev.moCmd_fails hacc hne

/-- One whose own check fails leaves that check's code. -/
theorem Dev.moCmd_own_fails (hacc : d.refusal x true 0x20010 = none) (ho : d.moCheck false 0 = 0) (hb : bad = false) (hne : own ≠ 0) :
    d.moCmd x bad own f = d.set F.MO_CMD_RESULT own :=
  Dev.moCmd_result hacc (by rw [Dev.moCheck_own ho, hb]; rfl) hne

end moCmd

/-! The groups of a mask -/

theorem mem_maskGroups {m g : Nat} : g ∈ maskGroups m ↔ g < 4 ∧ testBit m g = true := by
  simp [maskGroups]

theorem any_maskGroups {m : Nat} {p : Nat → Bool} : (maskGroups m).any p = true ↔ ∃ g : Fin 4, testBit m g.val = true ∧ p g.val = true := by
  simp only [List.any_eq_true, mem_maskGroups]
  exact ⟨fun ⟨g, ⟨hg, hm⟩, hp⟩ => ⟨⟨g, hg⟩, hm, hp⟩, fun ⟨g, hm, hp⟩ => ⟨g.val, ⟨g.isLt, hm⟩, hp⟩⟩

/-- A mask of four bits as a number. -/
theorem mask_mod (mask : BitVec 4) : mask.toNat % 16 = mask.toNat := Nat.mod_eq_of_lt mask.isLt

theorem mask_toNat_beq (mask : BitVec 4) : (mask.toNat == 0) = (mask == 0) := by
  rw [Bool.eq_iff_iff, beq_iff_eq, beq_iff_eq]
  exact BitVec.toNat_inj (y := 0)

/-! LIVE -/

/-- BUSY of MO_CMD is no part of what a packet of the working store is. -/
theorem Dev.packetOf_busy (d : Dev) (b : Bool) (m : Mem) (mask : Nat) : (d.flag F.MO_CMD_BUSY b).packetOf m mask = d.packetOf m mask := by
  have hstate : (d.flag F.MO_CMD_BUSY b).get F.MO_LIVE_STATE = d.get F.MO_LIVE_STATE := Dev.get_set_other _ _ _ _ _ _ _ _ (by decide)
  have hpackets (s : Nat) : (d.flag F.MO_CMD_BUSY b).packetsOf s = d.packetsOf s := by
    simp only [Dev.packetsOf, hstate]
    rfl
  have hlen (s : Nat) : (d.flag F.MO_CMD_BUSY b).inForceLen s = d.inForceLen s := by
    simp only [Dev.inForceLen, hpackets]
    rfl
  simp only [Dev.packetOf, hlen]

/-- What LIVE does once its checks have passed. -/
def Dev.liveBegins (mask : Nat) (d : Dev) : Dev :=
  let e : Dev := { d with mo := { d.mo with live := some ⟨d.packetOf (d.staged 0x200000) mask, d.staged 0x200000, []⟩ } }
  ((((e.set F.MO_LIVE_STATE 1).set F.MO_LIVE_GROUPS mask).set F.MO_LIVE_SECTION (d.packetOf (d.staged 0x200000) mask).section_).set
    F.MO_LIVE_RESULT 0).set F.MO_CMD_RESULT 0

/-- The own check of LIVE (R58). -/
def Dev.liveOwn (d : Dev) (mask : Nat) : Nat := if (maskGroups mask).any fun g => !(d.grp g).built then 0x0F else 0

theorem live_eq (d : Dev) (x : Nat) (mask : BitVec 4) :
    live x mask.toNat d = d.moCmd x (mask == 0) (d.liveOwn mask.toNat) (Dev.liveBegins mask.toNat) := by
  unfold live
  rw [mask_mod, ← mask_toNat_beq]
  rfl

theorem Dev.liveOwn_eq (d : Dev) (mask : BitVec 4) [Decidable (∃ g : Fin 4, testBit mask.toNat g.val = true ∧ (d.grp g.val).built = false)] :
    d.liveOwn mask.toNat = if ∃ g : Fin 4, testBit mask.toNat g.val = true ∧ (d.grp g.val).built = false then 0x0F else 0 := by
  have h : ((maskGroups mask.toNat).any fun g => !(d.grp g).built) = true ↔
      ∃ g : Fin 4, testBit mask.toNat g.val = true ∧ (d.grp g.val).built = false := by
    simp only [any_maskGroups, Bool.not_eq_true']
  by_cases hc : ∃ g : Fin 4, testBit mask.toNat g.val = true ∧ (d.grp g.val).built = false
  · rw [Dev.liveOwn, if_pos (h.mpr hc), if_pos hc]
  · rw [Dev.liveOwn, if_neg fun k => hc (h.mp k), if_neg hc]

/-! What each command is, in the words of the statement -/

theorem raiseFloor_eq (d : Dev) (x : Nat) : raiseFloor x d =
    d.moCmd x false (if d.activeSlot = none ∨ d.ready F.GL_READY_MORTAR = false then 0x13 else 0) (Dev.moStart (.of 6 0)) := by
  cases ha : d.activeSlot <;> cases hr : d.ready F.GL_READY_MORTAR <;> simp [raiseFloor, ha, hr]

theorem activate_eq (d : Dev) (x slot : Nat) : activate x slot d =
    d.moCmd x (decide (1 < slot)) (if d.allAtRest = false then 4 else if (d.slot slot).state ≠ 3 then 9 else 0)
      (fun d => (d.moStart (.of 3 slot)).each (List.range 4) Dev.dropMode) := by
  cases h : d.allAtRest <;> simp [activate, h]

section starts
variable {d : Dev} {x : Fin 8} {slot : Byte} (hacc : d.refusal x.val true 0x20010 = none) (ho : d.moCheck false 0 = 0)
  (hs : decide (1 < slot.toNat) = false)
include hacc ho

include hs in
theorem load_begins (h : (d.slot slot.toNat).state ≠ 4) : load x.val slot.toNat d =
    ((d.flag F.MO_CMD_BUSY true).moStart (.of 1 slot.toNat)).modSlot slot.toNat fun t =>
      { t with state := 1, bytes := d.staged 0xC00000, uncorr := false, idBad := false, cut := none } :=
  Dev.moCmd_own hacc ho hs (if_neg h)

include hs in
theorem verify_begins (h4 : (d.slot slot.toNat).state ≠ 4) (h0 : (d.slot slot.toNat).state ≠ 0) (h6 : (d.slot slot.toNat).state ≠ 6) :
    verify x.val slot.toNat d = (d.flag F.MO_CMD_BUSY true).moStart (.of 2 slot.toNat) :=
  Dev.moCmd_own hacc ho hs (by rw [if_neg h4, if_neg (by simp [h0, h6])])

include hs in
theorem activate_begins (h : (d.slot slot.toNat).state = 3) (hr : d.allAtRest = true) : activate x.val slot.toNat d =
    ((d.flag F.MO_CMD_BUSY true).moStart (.of 3 slot.toNat)).each (List.range 4) Dev.dropMode := by
  rw [activate_eq]
  exact Dev.moCmd_own hacc ho hs (by simp [h, hr])

include hs in
theorem erase_begins (h : (d.slot slot.toNat).state ≠ 4) :
    erase x.val slot.toNat d = (d.flag F.MO_CMD_BUSY true).moStart (.of 4 slot.toNat) :=
  Dev.moCmd_own hacc ho hs (if_neg h)

theorem raiseFloor_begins (ha : d.activeSlot.isSome = true) (hr : d.ready F.GL_READY_MORTAR = true) :
    raiseFloor x.val d = (d.flag F.MO_CMD_BUSY true).moStart (.of 6 0) := by
  rw [raiseFloor_eq]
  exact Dev.moCmd_own hacc ho rfl (if_neg (by simp [hr, Option.isSome_iff_ne_none.mp ha]))

/-- LIVE takes the packet of the working store. -/
theorem live_begins {mask : BitVec 4} (hm : mask ≠ 0) (hb : ∀ g : Fin 4, testBit mask.toNat g.val = true → (d.grp g.val).built = true) :
    live x.val mask.toNat d = (d.flag F.MO_CMD_BUSY true).liveBegins mask.toNat := by
  have hown : d.liveOwn mask.toNat = 0 := by
    classical
    rw [Dev.liveOwn_eq]
    exact if_neg fun ⟨g, hg, hn⟩ => by simp [hb g hg] at hn
  rw [live_eq]
  exact Dev.moCmd_own hacc ho (by simpa using hm) hown

end starts

/-- What LIVE leaves in the registers and in the exchange. -/
theorem Dev.liveBegins_shows (d : Dev) (mask : BitVec 4) :
    ((d.flag F.MO_CMD_BUSY true).liveBegins mask.toNat).get F.MO_LIVE_STATE = 1 ∧
    ((d.flag F.MO_CMD_BUSY true).liveBegins mask.toNat).get F.MO_LIVE_GROUPS = mask.toNat ∧
    ((d.flag F.MO_CMD_BUSY true).liveBegins mask.toNat).on F.MO_CMD_BUSY = true ∧
    ((d.flag F.MO_CMD_BUSY true).liveBegins mask.toNat).mo.live = some ⟨d.packetOf (d.staged 0x200000) mask.toNat, d.staged 0x200000, []⟩ ∧
    ((d.flag F.MO_CMD_BUSY true).liveBegins mask.toNat).store = d.store ∧ ((d.flag F.MO_CMD_BUSY true).liveBegins mask.toNat).grps = d.grps := by
  have hother {f g : Fld} (e : Dev) (v : Nat) (h : g ≠ f) : (e.set f v).get g = e.get g := Dev.get_set_other _ _ _ _ _ _ _ _ h
  unfold Dev.liveBegins
  dsimp only
  refine ⟨?_, ?_, ?_, ?_, rfl, rfl⟩
  · rw [hother _ _ (by decide), hother _ _ (by decide), hother _ _ (by decide), hother _ _ (by decide), Dev.get_set_self]
    rfl
  · rw [hother _ _ (by decide), hother _ _ (by decide), hother _ _ (by decide), Dev.get_set_self]
    exact mask_mod mask
  · rw [Dev.on, hother _ _ (by decide), hother _ _ (by decide), hother _ _ (by decide), hother _ _ (by decide), hother _ _ (by decide)]
    exact Dev.on_flag_self (f := F.MO_CMD_BUSY) rfl d true 0 0
  · simp only [Dev.packetOf_busy]
    rfl

/-- Settles O24: a command is Dev.moCmd with its own check, and the checks come in the order of Dev.moCheck. -/
theorem mortarStarts : Obligations.MortarStarts := by
  refine ⟨?_, ?_⟩
  · rintro s dt d x slot rfl ⟨hl, hacc⟩ ho hslot
    have hs : decide (1 < slot.toNat) = false := decide_eq_false (by omega)
    refine ⟨fun h => exec_live hl rfl (load_begins hacc ho hs h), fun h4 h0 h6 => exec_live hl rfl (verify_begins hacc ho hs h4 h0 h6),
      fun h hr => exec_live hl rfl (activate_begins hacc ho hs h hr), fun hr => exec_live hl rfl ?_, fun hr h => exec_live hl rfl ?_,
      fun h => exec_live hl rfl (erase_begins hacc ho hs h), fun ha hr => exec_live hl rfl (raiseFloor_begins hacc ho ha hr),
      exec_live hl rfl (Dev.moCmd_own hacc ho rfl rfl), fun mask hm hb => ?_⟩
    · rw [activate_eq, if_pos hr]
      exact Dev.moCmd_own_fails hacc ho hs (by decide)
    · rw [activate_eq, if_neg (by simp [hr]), if_pos h]
      exact Dev.moCmd_own_fails hacc ho hs (by decide)
    · obtain ⟨hstate, hgroups, hbusy, hlive, hstore, hgrps⟩ := Dev.liveBegins_shows (s.seen dt) mask
      exact ⟨_, exec_live hl rfl (live_begins hacc ho hm hb), hstate, hgroups, hbusy, hlive, hstore, hgrps⟩
  · rintro s dt d x slot rfl ⟨hl, hacc⟩
    refine ⟨fun hk => exec_live hl rfl (Dev.moCmd_result hacc (Dev.moCheck_kiln hk) (by decide)),
      fun hk hr => exec_live hl rfl (Dev.moCmd_result hacc (Dev.moCheck_notReady hk hr) (by decide)),
      fun hk hr hb => exec_live hl rfl (Dev.moCmd_result hacc (Dev.moCheck_busy hk hr hb) (by decide)),
      fun hk hr hb hbad => exec_live hl rfl (Dev.moCmd_result hacc ?_ (by decide)),
      fun hk hr hb hslot h4 => exec_live hl rfl (Dev.moCmd_result hacc ?_ (by decide)), fun i bad own hi hne => ?_⟩
    · rw [Dev.moCheck_idle hk hr hb, if_pos (decide_eq_true (Nat.lt_of_succ_le hbad))]
    · rw [Dev.moCheck_idle hk hr hb, if_neg (by simpa using Nat.le_of_lt_succ hslot), if_pos h4]
    · rcases hi with ⟨rfl, rfl, rfl⟩ | ⟨rfl, rfl, rfl⟩ | ⟨rfl, rfl, rfl⟩ | ⟨rfl, rfl, rfl⟩ | ⟨rfl, rfl, rfl⟩ | ⟨rfl, rfl, rfl⟩ |
        ⟨mask, rfl, rfl, rfl⟩
      · exact exec_live hl rfl (Dev.moCmd_fails hacc hne)
      · exact exec_live hl rfl (Dev.moCmd_fails hacc hne)
      · exact exec_live hl rfl (by rw [activate_eq]; exact Dev.moCmd_fails hacc hne)
      · exact exec_live hl rfl (Dev.moCmd_fails hacc hne)
      · exact exec_live hl rfl (by rw [raiseFloor_eq]; exact Dev.moCmd_fails hacc hne)
      · exact exec_live hl rfl (Dev.moCmd_fails hacc hne)
      · rw [← Dev.liveOwn_eq] at hne ⊢
        exact exec_live hl rfl (by rw [live_eq]; exact Dev.moCmd_fails hacc hne)

end Sys2Proof.Machine
end

section
/-! PROOF. Completions of MO_CMD (R26 to R30, R39, R58, R483). -/

namespace Sys2Proof.Machine

section moDone
variable {d : Dev} {r : MoRun} (hr : d.mo.run = some r)
include hr

/-- The completion of the command in progress has its effect. -/
theorem Dev.moDone_run {c : Nat} (hc : r.code = c) (f : MoRun → Dev → Dev) : d.moDone c f = f r d := by
  rw [Dev.moDone, hr]
  exact if_pos hc

theorem loadComplete_good (hc : r.code = 1) {errs : List StoreErr} (hu : ((d.readStore errs).slot r.slot).uncorr = false) :
    loadComplete errs d = ((d.readStore errs).modSlot r.slot fun t =>
      { t with state := 2, reason := 0, secver := imgSecver t.bytes }).moEnd 0 := by
  rw [loadComplete, Dev.moDone_run hr hc]
  exact if_neg (by simp [hu])

theorem loadComplete_bad (hc : r.code = 1) {errs : List StoreErr} (hu : ((d.readStore errs).slot r.slot).uncorr = true) :
    loadComplete errs d = ((d.readStore errs).modSlot r.slot fun t =>
      { t with state := if t.state = 6 then 6 else 5, reason := 0x0E }).moEnd 0x0E := by
  rw [loadComplete, Dev.moDone_run hr hc]
  exact if_pos hu

theorem verifyComplete_ends (hc : r.code = 2) (errs : List StoreErr) : verifyComplete errs d =
    ((d.readStore errs).modSlot r.slot fun t => if t.state = 0 then t else
      { t with state := if t.state = 6 then 6 else if (d.readStore errs).verifySlot r.slot = 0 then 3 else 5,
               reason := (d.readStore errs).verifySlot r.slot }).moEnd ((d.readStore errs).verifySlot r.slot) := by
  rw [verifyComplete, Dev.moDone_run hr hc]
  rfl

/-! The commands that write to the store read back what they wrote -/

theorem eraseComplete_good (hc : r.code = 4) {errs : List StoreErr} (hb : readBackBad errs = false) :
    eraseComplete errs d = ((d.readBack errs).modSlot r.slot fun _ => .empty).moEnd 0 := by
  rw [eraseComplete, Dev.moDone_run hr hc]
  exact if_neg (by simp [hb])

theorem eraseComplete_bad (hc : r.code = 4) {errs : List StoreErr} (hb : readBackBad errs = true) :
    eraseComplete errs d = (d.readBack errs).moEnd 0x0E := by
  rw [eraseComplete, Dev.moDone_run hr hc]
  exact if_pos hb

theorem raiseFloorComplete_good (hc : r.code = 6) {errs : List StoreErr} (hb : readBackBad errs = false) {n : Nat}
    (ha : (d.readBack errs).activeSlot = some n) : raiseFloorComplete errs d =
      ({ d.readBack errs with store := (d.readBack errs).store.write 1 fun c =>
        { c with floor := imgSecver ((d.readBack errs).slot n).bytes } } : Dev).showRing.moEnd 0 := by
  rw [raiseFloorComplete, Dev.moDone_run hr hc]
  simp only [hb, ha]

theorem raiseFloorComplete_bad (hc : r.code = 6) {errs : List StoreErr} (hb : readBackBad errs = true) :
    raiseFloorComplete errs d = (d.readBack errs).moEnd 0x0E := by
  rw [raiseFloorComplete, Dev.moDone_run hr hc]
  simp only [hb]

/-! KEYREC -/

section keyrec
variable (hc : r.code = 7) {k : KeyRecord} (hk : r.key = some k) {errs : List StoreErr}
include hc hk

/-- A key record that fails a check changes nothing. -/
theorem keyrecComplete_refused {code : Nat} (h : d.keyCheck k = code) (hne : code ≠ 0) : keyrecComplete errs d = d.moEnd code := by
  subst h
  rw [keyrecComplete, Dev.moDone_run hr hc]
  simp only [hk]
  exact if_pos hne

theorem keyrecComplete_bad (h : d.keyCheck k = 0) (hb : readBackBad errs = true) :
    keyrecComplete errs d = (d.readBack errs).moEnd 0x0E := by
  rw [keyrecComplete, Dev.moDone_run hr hc]
  simp only [hk]
  rw [if_neg (not_not_intro h), if_pos hb]

/-- A good one leaves its entry in the ring. -/
theorem keyrecComplete_good (h : d.keyCheck k = 0) (hb : readBackBad errs = false) : keyrecComplete errs d =
    ({ d.readBack errs with store := (d.readBack errs).store.write 0 fun c =>
      { c with keys := setNth (d.readBack errs).store.keys k.entry (some ((d.readBack errs).newKey k)) } } : Dev).showRing.moEnd 0 := by
  rw [keyrecComplete, Dev.moDone_run hr hc]
  simp only [hk]
  rw [if_neg (not_not_intro h), if_neg (by simp [hb])]

end keyrec

/-! ACTIVATE -/

section activate
variable (hc : r.code = 3) {errs : List StoreErr}
include hc

theorem activateComplete_good (h : (d.readStore errs).verifySlot r.slot = 0) :
    activateComplete errs true d = ((d.readStore errs).takeOver r.slot).moEnd 0 := by
  rw [activateComplete, Dev.moDone_run hr hc]
  simp only [h]
  rfl

theorem activateComplete_unread (h : (d.readStore errs).verifySlot r.slot = 0) :
    activateComplete errs false d = (d.readStore errs).moEnd 0x0E := by
  rw [activateComplete, Dev.moDone_run hr hc]
  simp only [h]
  rfl

theorem activateComplete_rejected (h : (d.readStore errs).verifySlot r.slot ≠ 0) (ok : Bool) : activateComplete errs ok d =
    ((d.readStore errs).slotVerified r.slot ((d.readStore errs).verifySlot r.slot) 3).moEnd ((d.readStore errs).verifySlot r.slot) := by
  rw [activateComplete, Dev.moDone_run hr hc]
  exact if_pos h

end activate

end moDone

/-- A failed verification does not lead to the state of a good image. -/
theorem Dev.slotVerified_failed (d : Dev) (n good : Nat) {code : Nat} (h : code ≠ 0) : d.slotVerified n code good =
    d.modSlot n fun t => if t.state = 0 then t else { t with state := if t.state = 6 then 6 else 5, reason := code } := by
  simp only [Dev.slotVerified, if_neg h]

/-! The checks of a key record in their order (R58) -/

section keyCheck
variable {d : Dev} {k : KeyRecord}

theorem Dev.keyCheck_format (h : k.formatOk = false) : d.keyCheck k = 0x12 := by simp [Dev.keyCheck, h]

theorem Dev.keyCheck_noKey (h : k.formatOk = true) (hq : d.ringKey k.signedBy = none) : d.keyCheck k = 0x0A := by
  simp [Dev.keyCheck, h, hq]

variable {q : KeyEntry} (h : k.formatOk = true) (hq : d.ringKey k.signedBy = some q)
include h hq

theorem Dev.keyCheck_signature (hs : signatureOk q.key k.signed k.sigR k.sigS = false) : d.keyCheck k = 0x05 := by
  simp [Dev.keyCheck, h, hq, hs]

theorem Dev.keyCheck_rule (hs : signatureOk q.key k.signed k.sigR k.sigS = true) (hr : d.keyRule k = true) : d.keyCheck k = 0x14 := by
  simp [Dev.keyCheck, h, hq, hs, hr]

theorem Dev.keyCheck_good (hs : signatureOk q.key k.signed k.sigR k.sigS = true) (hr : d.keyRule k = false) : d.keyCheck k = 0 := by
  simp [Dev.keyCheck, h, hq, hs, hr]

end keyCheck

/-- Settles O25: the completion of the command in progress, by its code and by what the store's reads found. -/
theorem mortarCompletes : Obligations.MortarCompletes := by
  refine ⟨?_, ?_⟩
  · rintro s dt d r rfl hl hrun
    refine ⟨?_, ?_, ?_⟩
    · intro hc errs f hf
      rw [hf]
      exact ⟨fun hu => exec_live hl rfl (loadComplete_good hrun hc hu), fun hu => exec_live hl rfl (loadComplete_bad hrun hc hu)⟩
    · intro hc errs f code hf hcode
      rw [hcode, hf]
      exact exec_live hl rfl (verifyComplete_ends hrun hc errs)
    · intro errs f hf
      rw [hf]
      refine ⟨fun hc => ⟨fun hb => exec_live hl rfl (eraseComplete_good hrun hc hb), fun hb => exec_live hl rfl (eraseComplete_bad hrun hc hb)⟩,
        fun hc n ha => ⟨fun hb => exec_live hl rfl (raiseFloorComplete_good hrun hc hb ha),
          fun hb => exec_live hl rfl (raiseFloorComplete_bad hrun hc hb)⟩, fun hc k hk => ?_⟩
      have refused {code : Nat} (h : (s.seen dt).keyCheck k = code) (hne : code ≠ 0) :
          exec (.keyrecComplete dt errs) s = .next (s.settled ((s.seen dt).moEnd code)) :=
        exec_live hl rfl (keyrecComplete_refused hrun hc hk h hne)
      refine ⟨fun hf => refused (Dev.keyCheck_format hf) (by decide), fun hf hq => refused (Dev.keyCheck_noKey hf hq) (by decide),
        fun hf q hq => ⟨fun hs => refused (Dev.keyCheck_signature hf hq hs) (by decide),
          fun hs hrule => refused (Dev.keyCheck_rule hf hq hs hrule) (by decide), fun hs hrule => ?_⟩⟩
      have hgood := Dev.keyCheck_good hf hq hs hrule
      exact ⟨fun hb => exec_live hl rfl (keyrecComplete_bad hrun hc hk hgood hb), fun hb => exec_live hl rfl (keyrecComplete_good hrun hc hk hgood hb)⟩
  · intro s dt d f r errs code hd hl hrun hc hf hcode
    subst hd
    rw [hcode, hf]
    refine ⟨fun h => exec_live hl rfl (activateComplete_good hrun hc h), fun h => exec_live hl rfl (activateComplete_unread hrun hc h), fun h ok => ?_⟩
    rw [← Dev.slotVerified_failed _ _ 3 h]
    exact exec_live hl rfl (activateComplete_rejected hrun hc h ok)

end Sys2Proof.Machine
end

section
/-! PROOF. The image slots and the reads of the retained store (R28, R39): what a change of a slot and an error of the store leave. -/

namespace Sys2Proof.Machine

/-! A change of a slot -/

section modSlot
variable (d : Dev) (n : Nat) (f : Slot → Slot)

theorem Dev.slot_modSlot_self {d : Dev} {n : Nat} (h : n < d.store.slots.length) : (d.modSlot n f).slot n = f (d.slot n) :=
  nth_setNth_self h ..

theorem Dev.slot_modSlot_ne {m n : Nat} (h : m ≠ n) : (d.modSlot m f).slot n = d.slot n := nth_setNth_ne h ..

@[simp] theorem Dev.modSlot_slots_length : (d.modSlot n f).store.slots.length = d.store.slots.length := length_setNth ..

end modSlot

/-! Errors of the store -/

/-- An uncorrectable error in a word of slot n, which the one of its IMAGE_ID is as well (R43). -/
def StoreErr.hits (n : Nat) (e : StoreErr) : Bool := e.uncorr && (e.place == .slot n || e.place == .slotId n)

theorem StoreErr.hits_eq_true {n : Nat} {e : StoreErr} : e.hits n = true ↔ e.uncorr = true ∧ (e.place = .slot n ∨ e.place = .slotId n) := by
  simp [StoreErr.hits]

/-- The store that a read with these errors leaves (R39). -/
def Store.readWith (l : List StoreErr) (s : Store) : Store := (((l.filter (·.uncorr)).map (·.place)).foldl Store.spoil s).rebuilt

/-- What a read does once the store holds what it found: with both copies of a record lost STORE is no longer ready. -/
def Dev.lossShown (d : Dev) : Dev :=
  if d.store.lost then ((d.flag F.GL_READY_STORE false).flag F.MO_STATUS_STORE_ERR true).cond 0x004 true else d

theorem Dev.lossShown_store (d : Dev) : d.lossShown.store = d.store := by
  unfold Dev.lossShown
  split
  · exact (Dev.cond_keeps ..).1 .store (by decide)
  · rfl

theorem Dev.readStore_eq (l : List StoreErr) (d : Dev) : d.readStore l =
    Dev.lossShown { d.addTo F.MO_STATUS_SINGLE_ERRS (l.filter fun e => !e.uncorr).length with store := d.store.readWith l } := rfl

theorem Dev.readStore_store (l : List StoreErr) (d : Dev) : (d.readStore l).store = d.store.readWith l := by
  rw [Dev.readStore_eq, Dev.lossShown_store]

theorem nth_modify_self {α : Type} {l : List α} {n : Nat} (h : n < l.length) (f : α → α) (x : α) : nth (l.modify n f) n x = f (nth l n x) := by
  simp [nth, h]

theorem nth_modify_ne {α : Type} {m n : Nat} (h : m ≠ n) (l : List α) (f : α → α) (x : α) : nth (l.modify m f) n x = nth l n x := by
  simp [nth, h]

@[simp] theorem Store.spoil_slots_length (s : Store) (p : StorePlace) : (s.spoil p).slots.length = s.slots.length := by
  cases p <;> simp [Store.spoil]

/-- Two slots of one state that hold one image. -/
structure Slot.SameImage (a b : Slot) : Prop where
  state : b.state = a.state
  reason : b.reason = a.reason
  bytes : b.bytes = a.bytes

theorem Slot.SameImage.refl (a : Slot) : a.SameImage a := ⟨rfl, rfl, rfl⟩

theorem Slot.SameImage.trans {a b c : Slot} (h : a.SameImage b) (k : b.SameImage c) : a.SameImage c :=
  ⟨k.state.trans h.state, k.reason.trans h.reason, k.bytes.trans h.bytes⟩

theorem Store.slot_spoil_other {s : Store} {p : StorePlace} {n : Nat} (h : p ≠ .slot n) (hid : p ≠ .slotId n) :
    nth (s.spoil p).slots n .empty = nth s.slots n .empty := by
  cases p with
  | slot m => exact nth_modify_ne (fun c => h (congrArg _ c)) ..
  | slotId m => exact nth_modify_ne (fun c => hid (congrArg _ c)) ..
  | _ => rfl

theorem Store.slot_spoil_same {s : Store} {n : Nat} (hn : n < s.slots.length) (p : StorePlace) :
    (nth s.slots n .empty).SameImage (nth (s.spoil p).slots n .empty) := by
  by_cases h : p = .slot n
  · rw [h, Store.spoil, nth_modify_self hn]
    exact ⟨rfl, rfl, rfl⟩
  by_cases hid : p = .slotId n
  · rw [hid, Store.spoil, nth_modify_self hn]
    exact ⟨rfl, rfl, rfl⟩
  rw [Store.slot_spoil_other h hid]
  exact .refl _

section foldl
variable {n : Nat}

theorem Store.slots_length_foldl_spoil (l : List StorePlace) (s : Store) : (l.foldl Store.spoil s).slots.length = s.slots.length := by
  induction l generalizing s with
  | nil => rfl
  | cons p l ih => rw [List.foldl_cons, ih, Store.spoil_slots_length]

theorem Store.slot_foldl_spoil_same (l : List StorePlace) {s : Store} (hn : n < s.slots.length) :
    (nth s.slots n .empty).SameImage (nth (l.foldl Store.spoil s).slots n .empty) := by
  induction l generalizing s with
  | nil => exact .refl _
  | cons p l ih => exact (Store.slot_spoil_same hn p).trans (ih (by simpa using hn))

theorem Store.slot_foldl_spoil_other (l : List StorePlace) (s : Store) (h : ∀ p ∈ l, p ≠ .slot n ∧ p ≠ .slotId n) :
    nth (l.foldl Store.spoil s).slots n .empty = nth s.slots n .empty := by
  induction l generalizing s with
  | nil => rfl
  | cons p l ih =>
    obtain ⟨hp, hid⟩ := h p List.mem_cons_self
    rw [List.foldl_cons, ih _ fun q hq => h q (List.mem_cons_of_mem _ hq), Store.slot_spoil_other hp hid]

end foldl

/-- Of the store only device records are rebuilt (R39). -/
theorem Store.rebuilt_eq (s : Store) : s.rebuilt = { s with recs := s.rebuilt.recs } := by
  unfold Store.rebuilt
  generalize List.range 6 = l
  induction l generalizing s with
  | nil => rfl
  | cons k l ih =>
    rw [List.foldl_cons]
    split
    · rw [ih]; rfl
    · exact ih s

theorem Store.rebuilt_slots (s : Store) : s.rebuilt.slots = s.slots := by rw [Store.rebuilt_eq]

section readStore
variable {d : Dev} {l : List StoreErr} {n : Nat}

theorem Dev.readStore_slots_length : (d.readStore l).store.slots.length = d.store.slots.length := by
  rw [Dev.readStore_store, Store.readWith, Store.rebuilt_slots, Store.slots_length_foldl_spoil]

theorem Dev.slot_readStore_eq : (d.readStore l).slot n =
    nth (((l.filter (·.uncorr)).map (·.place)).foldl Store.spoil d.store).slots n .empty := by
  rw [Dev.slot, Dev.readStore_store, Store.readWith, Store.rebuilt_slots]

theorem Dev.slot_readStore_same (hn : n < d.store.slots.length) : (d.slot n).SameImage ((d.readStore l).slot n) := by
  rw [Dev.slot_readStore_eq]
  exact Store.slot_foldl_spoil_same _ hn

theorem Dev.slot_readStore_other (h : l.any (StoreErr.hits n) = false) : (d.readStore l).slot n = d.slot n := by
  rw [Dev.slot_readStore_eq]
  refine Store.slot_foldl_spoil_other _ _ fun p hp => ?_
  obtain ⟨e, he, rfl⟩ := List.mem_map.mp hp
  obtain ⟨he, hu⟩ := List.mem_filter.mp he
  have hh := List.any_eq_false.mp h e he
  rw [StoreErr.hits_eq_true] at hh
  exact ⟨fun c => hh ⟨hu, .inl c⟩, fun c => hh ⟨hu, .inr c⟩⟩

end readStore

end Sys2Proof.Machine
end

section
/-! PROOF. Live exchange and scrubbing (R33, R34, R37, R40). -/

namespace Sys2Proof.Machine

/-! Live exchange -/

section liveVerify
variable {d : Dev} {l : MoLive} (hl : d.mo.live = some l) (hs : d.get F.MO_LIVE_STATE = 1)
include hl hs

theorem liveVerifyComplete_eq : liveVerifyComplete d =
    if (if d.verify l.bytes false true (d.packetOk l.packet) ≠ 0 then d.verify l.bytes false true (d.packetOk l.packet)
      else d.liveCheck l.packet) ≠ 0
    then d.refuseLive (if d.verify l.bytes false true (d.packetOk l.packet) ≠ 0 then d.verify l.bytes false true (d.packetOk l.packet)
      else d.liveCheck l.packet)
    else d.set F.MO_LIVE_STATE 2 := by
  simp only [liveVerifyComplete, hl]
  exact if_neg (not_not_intro hs)

/-- The tests of R33 decide on a packet that verifies. -/
theorem liveVerifyComplete_verified (hv : d.verify l.bytes false true (d.packetOk l.packet) = 0) :
    liveVerifyComplete d = if d.liveCheck l.packet ≠ 0 then d.refuseLive (d.liveCheck l.packet) else d.set F.MO_LIVE_STATE 2 := by
  rw [liveVerifyComplete_eq hl hs, if_neg (not_not_intro hv)]

theorem liveVerifyComplete_unverified (hv : d.verify l.bytes false true (d.packetOk l.packet) ≠ 0) :
    liveVerifyComplete d = d.refuseLive (d.verify l.bytes false true (d.packetOk l.packet)) := by
  rw [liveVerifyComplete_eq hl hs, if_pos hv, if_pos hv]

end liveVerify

/-- Of groups changed each once, every one listed has its change and no other is touched. -/
theorem Dev.grp_foldl_modGrp (f : Nat → GroupHub → GroupHub) {l : List Nat} (hn : l.Nodup) (d : Dev) {k : Nat} (hk : k < d.grps.length) :
    (l.foldl (fun e g => e.modGrp g (f g)) d).grp k = if k ∈ l then f k (d.grp k) else d.grp k := by
  induction l generalizing d with
  | nil => rfl
  | cons g l ih =>
    obtain ⟨hg, hn⟩ := List.nodup_cons.mp hn
    have hlen : k < (d.modGrp g (f g)).grps.length := (length_setNth ..).symm ▸ hk
    rw [List.foldl_cons, ih hn _ hlen]
    by_cases hgk : g = k
    · subst hgk
      have hself : (d.modGrp g (f g)).grp g = f g (d.grp g) := nth_setNth_self hk ..
      simp [hg, hself]
    · have hne : (d.modGrp g (f g)).grp k = d.grp k := nth_setNth_ne hgk ..
      simp [hne, Ne.symm hgk]

theorem nodup_maskGroups (m : Nat) : (maskGroups m).Nodup := List.nodup_range.filter _

section liveCommit
variable {d : Dev} {l : MoLive} {errs : List StoreErr} (hl : d.mo.live = some l) (hs : d.get F.MO_LIVE_STATE = 2)

include hl hs in
theorem liveOverlayCommit_bad (hb : readBackBad errs = true) : liveOverlayCommit errs d = (d.readBack errs).refuseLive 0x0E := by
  simp only [liveOverlayCommit, hl]
  rw [if_neg (not_not_intro hs), if_pos hb]

/-- The packet as the commit word leaves it. -/
def MoLive.committed (l : MoLive) : Packet := { l.packet with committed := true }

/-- The device with the packet in the overlay. -/
def Dev.withPacket (d : Dev) (errs : List StoreErr) (l : MoLive) : Dev := (d.readBack errs).appendPacket l.committed

/-- What awaits a group that the packet addresses. -/
def Dev.awaitTables (d : Dev) (p : Packet) (g : Nat) (h : GroupHub) : GroupHub :=
  { h with newTables := some (d.now + halfUs (d.grp g).cfg.cycle, p) }

include hl hs in
theorem liveOverlayCommit_good (hb : readBackBad errs = false) :
    (liveOverlayCommit errs d).get F.MO_LIVE_STATE = 3 ∧ (liveOverlayCommit errs d).store = (d.withPacket errs l).store ∧
    (liveOverlayCommit errs d).grps = ((maskGroups l.packet.groups).foldl
      (fun e g => e.modGrp g ((d.withPacket errs l).awaitTables l.committed g)) (d.withPacket errs l)).grps := by
  have hstore (a : Dev) (f : Nat → GroupHub → GroupHub) (gs : List Nat) : (gs.foldl (fun e g => e.modGrp g (f g)) a).store = a.store := by
    induction gs generalizing a with
    | nil => rfl
    | cons g gs ih => exact ih _
  simp only [liveOverlayCommit, hl]
  rw [if_neg (not_not_intro hs), if_neg (by simp [hb])]
  exact ⟨Dev.get_set_self .., hstore .., rfl⟩

theorem Dev.withPacket_grps : (d.withPacket errs l).grps = d.grps :=
  ((Dev.appendPacket_keeps ..).1 .grps (by decide)).trans ((Dev.readStore_keeps ..).1 .grps (by decide))

theorem Dev.withPacket_now : (d.withPacket errs l).now = d.now :=
  congrArg Clock.ticks (((Dev.appendPacket_keeps ..).1 .clk (by decide)).trans ((Dev.readStore_keeps ..).1 .clk (by decide)))

theorem Dev.withPacket_grp (g : Nat) : (d.withPacket errs l).grp g = d.grp g :=
  congrArg (fun a => nth a g GroupHub.init) Dev.withPacket_grps

include hl hs in
/-- Every addressed group awaits its opening, at least a cycle length from now (R34). -/
theorem newTables_liveOverlayCommit (hb : readBackBad errs = false) {g : Nat} (hg : g < 4) (h4 : d.grps.length = 4) :
    ((liveOverlayCommit errs d).grp g).newTables =
      if testBit l.packet.groups g then some (d.now + halfUs (d.grp g).cfg.cycle, l.committed) else (d.grp g).newTables := by
  obtain ⟨-, -, hgrps⟩ := liveOverlayCommit_good hl hs hb
  have hlen : g < (d.withPacket errs l).grps.length := by rwa [Dev.withPacket_grps, h4]
  have hgrp := (congrArg (fun a => nth a g GroupHub.init) hgrps).trans
    (Dev.grp_foldl_modGrp ((d.withPacket errs l).awaitTables l.committed) (nodup_maskGroups l.packet.groups) (d.withPacket errs l) hlen)
  rw [Dev.grp, hgrp]
  by_cases hm : testBit l.packet.groups g = true
  · rw [if_pos (mem_maskGroups.mpr ⟨hg, hm⟩), if_pos hm, Dev.awaitTables, Dev.withPacket_now, Dev.withPacket_grp]
  · rw [if_neg fun c => hm (mem_maskGroups.mp c).2, if_neg hm, Dev.withPacket_grp]

end liveCommit

/-! Scrubbing -/

/-- A slot in which the scrubber found an uncorrectable word (R40). -/
def Slot.damaged (s : Slot) : Slot := { s with state := if s.state = 4 then 4 else 6, uncorr := true }

theorem Slot.damaged_bytes (s : Slot) : s.damaged.bytes = s.bytes := rfl

section damageSlot
variable {d : Dev} {n : Nat}

theorem Dev.damageSlot_store : (d.damageSlot n).store = { d.store with slots := setNth d.store.slots n (d.slot n).damaged } := by
  unfold Dev.damageSlot
  by_cases h : (d.slot n).state = 4
  · rw [if_pos h]
    simp only [Slot.damaged, ← h]
    rfl
  · rw [if_neg h]
    simp only [Slot.damaged, if_neg h]
    rfl

theorem Dev.slot_damageSlot_self (h : n < d.store.slots.length) : (d.damageSlot n).slot n = (d.slot n).damaged := by
  rw [Dev.slot, Dev.damageSlot_store]
  exact nth_setNth_self h ..

theorem Dev.slot_damageSlot_ne {m : Nat} (h : m ≠ n) : (d.damageSlot m).slot n = d.slot n := by
  rw [Dev.slot, Dev.damageSlot_store]
  exact nth_setNth_ne h ..

/-- The ACTIVE slot stays ACTIVE, and ACTIVE_DAMAGED tells of it. -/
theorem Dev.damageSlot_active (h : (d.slot n).state = 4) : (d.damageSlot n).on F.MO_STATUS_ACTIVE_DAMAGED = true := by
  unfold Dev.damageSlot
  rw [if_pos h, Dev.on, (Dev.raise_keeps ..).2 _ _ _ (by decide)]
  exact Dev.on_flag_self (f := F.MO_STATUS_ACTIVE_DAMAGED) rfl _ true 0 0

theorem Dev.damageSlot_stays (h : d.on F.MO_STATUS_ACTIVE_DAMAGED = true) : (d.damageSlot n).on F.MO_STATUS_ACTIVE_DAMAGED = true := by
  by_cases h4 : (d.slot n).state = 4
  · exact Dev.damageSlot_active h4
  · unfold Dev.damageSlot
    rw [if_neg h4, Dev.on, (Dev.raise_keeps ..).2 _ _ _ (by decide), (Dev.modSlot_keeps ..).2 _ _ _ (by decide)]
    exact h

end damageSlot

/-- What a pass has counted before it looks at the slots. -/
def Dev.scrubCounted (errs : List StoreErr) (d : Dev) : Dev :=
  let e : Dev := (d.addTo F.MO_SCRUB_CORR (errs.filter fun e => !e.uncorr).length).addTo F.MO_SCRUB_UNCORR (errs.filter (·.uncorr)).length
  { e with mo := { e.mo with scrubAt := d.now } }

/-- Slot n is damaged if the pass found an uncorrectable word in it. -/
def Dev.scrubSlot (errs : List StoreErr) (n : Nat) (d : Dev) : Dev := if errs.any (StoreErr.hits n) then d.damageSlot n else d

theorem scrubPass_early {errs : List StoreErr} {d : Dev} (h : d.now < d.mo.scrubAt + d.scrubTicks) : scrubPass errs d = d :=
  if_pos (by simp [h])

section scrubSlot
variable {errs : List StoreErr} {d : Dev} {n : Nat}

theorem Dev.scrubSlot_keeps (errs : List StoreErr) (n : Nat) (d : Dev) : Dev.keeps ⟨[.store, .fc], [F.MO_SLOT_REASON, F.MO_SLOT_SECVER,
    F.MO_SLOT_STATE, F.MO_STATUS_ACTIVE_DAMAGED], []⟩ d (d.scrubSlot errs n) :=
  Dev.keeps_ite (Dev.keeps_mono (by decide) (Dev.damageSlot_keeps ..)) (Dev.keeps_refl ..)

theorem Dev.scrubSlot_store : (d.scrubSlot errs n).store = { d.store with slots := (d.scrubSlot errs n).store.slots } := by
  unfold Dev.scrubSlot
  split
  · rw [Dev.damageSlot_store]
  · rfl

theorem Dev.scrubSlot_slots_length : (d.scrubSlot errs n).store.slots.length = d.store.slots.length := by
  unfold Dev.scrubSlot
  split
  · rw [Dev.damageSlot_store]
    exact length_setNth ..
  · rfl

theorem Dev.slot_scrubSlot_self (h : n < d.store.slots.length) :
    (d.scrubSlot errs n).slot n = if errs.any (StoreErr.hits n) then (d.slot n).damaged else d.slot n := by
  unfold Dev.scrubSlot
  split
  · exact Dev.slot_damageSlot_self h
  · rfl

theorem Dev.slot_scrubSlot_ne {m : Nat} (h : m ≠ n) : (d.scrubSlot errs m).slot n = d.slot n := by
  unfold Dev.scrubSlot
  split
  · exact Dev.slot_damageSlot_ne h
  · rfl

theorem Dev.scrubSlot_active (hb : errs.any (StoreErr.hits n) = true) (h : (d.slot n).state = 4) :
    (d.scrubSlot errs n).on F.MO_STATUS_ACTIVE_DAMAGED = true := by
  rw [Dev.scrubSlot, if_pos hb]
  exact Dev.damageSlot_active h

theorem Dev.scrubSlot_stays (h : d.on F.MO_STATUS_ACTIVE_DAMAGED = true) : (d.scrubSlot errs n).on F.MO_STATUS_ACTIVE_DAMAGED = true := by
  unfold Dev.scrubSlot
  split
  · exact Dev.damageSlot_stays h
  · exact h

/-- Both slots after a pass: each damaged where the pass found an uncorrectable word in it. -/
theorem Dev.slot_scrubBoth (h2 : d.store.slots.length = 2) (hn : n < 2) : ((d.scrubSlot errs 0).scrubSlot errs 1).slot n =
    if errs.any (StoreErr.hits n) then (d.slot n).damaged else d.slot n := by
  match n, hn with
  | 0, _ => rw [Dev.slot_scrubSlot_ne (by decide), Dev.slot_scrubSlot_self (by omega)]
  | 1, _ => rw [Dev.slot_scrubSlot_self (by rw [Dev.scrubSlot_slots_length]; omega), Dev.slot_scrubSlot_ne (by decide)]

theorem Dev.scrubBoth_active (hn : n < 2) (hb : errs.any (StoreErr.hits n) = true) (h : (d.slot n).state = 4) :
    ((d.scrubSlot errs 0).scrubSlot errs 1).on F.MO_STATUS_ACTIVE_DAMAGED = true := by
  match n, hn with
  | 0, _ => exact Dev.scrubSlot_stays (Dev.scrubSlot_active hb h)
  | 1, _ => exact Dev.scrubSlot_active hb (by rwa [Dev.slot_scrubSlot_ne (by decide)])

/-- What a pass keeps of what it has counted. -/
theorem Dev.scrubBoth_keeps (errs : List StoreErr) (d : Dev) : Dev.keeps ⟨[.store, .fc], [F.FC_COND_COND, F.GL_READY_STORE,
    F.MO_STATUS_SINGLE_ERRS, F.MO_STATUS_STORE_ERR, F.MO_SLOT_REASON, F.MO_SLOT_SECVER, F.MO_SLOT_STATE, F.MO_STATUS_ACTIVE_DAMAGED], []⟩ d
    (((d.readStore errs).scrubSlot errs 0).scrubSlot errs 1) :=
  Dev.keeps_step (by decide) (Dev.scrubSlot_keeps ..) (Dev.keeps_step (by decide) (Dev.scrubSlot_keeps ..)
    (Dev.keeps_mono (by decide) (Dev.readStore_keeps ..)))

end scrubSlot

/-- The device after a pass. -/
def Dev.scrubbed (errs : List StoreErr) (d : Dev) : Dev := (((d.scrubCounted errs).readStore errs).scrubSlot errs 0).scrubSlot errs 1

theorem scrubPass_due {errs : List StoreErr} {d : Dev} (hr : d.ready F.GL_READY_STORE = true) (h : d.mo.scrubAt + d.scrubTicks ≤ d.now) :
    scrubPass errs d = d.scrubbed errs :=
  if_neg (by simp [hr, h])

section scrubbed
variable (errs : List StoreErr) (d : Dev)

theorem Dev.scrubbed_scrubAt : (d.scrubbed errs).mo.scrubAt = d.now :=
  congrArg MoSt.scrubAt ((Dev.scrubBoth_keeps errs (d.scrubCounted errs)).1 .mo (by decide))

theorem Dev.scrubbed_corr : (d.scrubbed errs).get F.MO_SCRUB_CORR =
    clampN (2 ^ F.MO_SCRUB_CORR.width - 1) (d.get F.MO_SCRUB_CORR + (errs.filter fun e => !e.uncorr).length) % 2 ^ F.MO_SCRUB_CORR.width := by
  rw [Dev.scrubbed, (Dev.scrubBoth_keeps errs (d.scrubCounted errs)).2 _ _ _ (by decide)]
  exact (Dev.get_set_other _ F.MO_SCRUB_UNCORR F.MO_SCRUB_CORR _ 0 0 0 0 (by decide)).trans (Dev.get_set_self ..)

theorem Dev.scrubbed_uncorr : (d.scrubbed errs).get F.MO_SCRUB_UNCORR =
    clampN (2 ^ F.MO_SCRUB_UNCORR.width - 1) (d.get F.MO_SCRUB_UNCORR + (errs.filter (·.uncorr)).length) % 2 ^ F.MO_SCRUB_UNCORR.width := by
  have hold : (d.addTo F.MO_SCRUB_CORR (errs.filter fun e => !e.uncorr).length).get F.MO_SCRUB_UNCORR = d.get F.MO_SCRUB_UNCORR :=
    Dev.get_set_other _ _ _ _ _ _ _ _ (by decide)
  rw [Dev.scrubbed, (Dev.scrubBoth_keeps errs (d.scrubCounted errs)).2 _ _ _ (by decide), ← hold]
  exact Dev.get_set_self ..

/-- The counts are no part of what a read of the store finds. -/
theorem Dev.scrubCounted_readStore_store : ((d.scrubCounted errs).readStore errs).store = (d.readStore errs).store := by
  rw [Dev.readStore_store, Dev.readStore_store]
  rfl

theorem Dev.scrubCounted_readStore_slot (n : Nat) : ((d.scrubCounted errs).readStore errs).slot n = (d.readStore errs).slot n :=
  congrArg (fun s => nth (Store.slots s) n .empty) (d.scrubCounted_readStore_store errs)

/-- Of the store a pass changes, besides what its read changes, the slots. -/
theorem Dev.scrubbed_store : (d.scrubbed errs).store = { (d.readStore errs).store with slots := (d.scrubbed errs).store.slots } := by
  rw [Dev.scrubbed, Dev.scrubSlot_store, Dev.scrubSlot_store, Dev.scrubCounted_readStore_store]

variable {d} {n : Nat} (h2 : d.store.slots.length = 2) (hn : n < 2)

include h2 hn in
theorem Dev.slot_scrubbed : (d.scrubbed errs).slot n =
    if errs.any (StoreErr.hits n) then ((d.readStore errs).slot n).damaged else (d.readStore errs).slot n := by
  have hlen : ((d.scrubCounted errs).readStore errs).store.slots.length = 2 := by
    rw [Dev.scrubCounted_readStore_store, Dev.readStore_slots_length, h2]
  rw [Dev.scrubbed, Dev.slot_scrubBoth hlen hn, Dev.scrubCounted_readStore_slot]

include h2 hn in
/-- A slot with an uncorrectable word is DAMAGED or, if it is ACTIVE, ACTIVE_DAMAGED is set (R40). -/
theorem Dev.slot_scrubbed_hit (hb : errs.any (StoreErr.hits n) = true) : ((d.scrubbed errs).slot n).uncorr = true ∧
    ((d.scrubbed errs).slot n).state = (if (d.slot n).state = 4 then 4 else 6) ∧ ((d.scrubbed errs).slot n).bytes = (d.slot n).bytes ∧
    ((d.slot n).state = 4 → (d.scrubbed errs).on F.MO_STATUS_ACTIVE_DAMAGED = true) := by
  have hsame : (d.slot n).SameImage ((d.readStore errs).slot n) := Dev.slot_readStore_same (by omega)
  rw [Dev.slot_scrubbed errs h2 hn, if_pos hb]
  refine ⟨rfl, by rw [Slot.damaged, hsame.state], by rw [Slot.damaged_bytes, hsame.bytes], fun h => Dev.scrubBoth_active hn hb ?_⟩
  rw [Dev.scrubCounted_readStore_slot, hsame.state, h]

include h2 hn in
theorem Dev.slot_scrubbed_other (hb : errs.any (StoreErr.hits n) = false) : (d.scrubbed errs).slot n = d.slot n := by
  rw [Dev.slot_scrubbed errs h2 hn, hb]
  exact Dev.slot_readStore_other hb

end scrubbed

/-- Settles O26: the exchange by its tests, the commit by what awaits each group, a pass by its counts and by each slot. -/
theorem liveAndScrub : Obligations.LiveAndScrub := by
  rintro s dt d rfl hlive
  refine ⟨fun l hl hs => ⟨fun hv hc => ?_, fun hv hc => ?_, fun hv => exec_live hlive rfl (liveVerifyComplete_unverified hl hs hv)⟩,
    fun l hl hs h4 errs => ⟨fun hb => exec_live hlive rfl (liveOverlayCommit_bad hl hs hb), fun hb => ?_⟩,
    fun errs hr => ⟨fun ht => exec_live hlive rfl (scrubPass_early ht), fun ht h2 => ?_⟩⟩
  · exact exec_live hlive rfl (by rw [liveVerifyComplete_verified hl hs hv, if_neg (not_not_intro hc)])
  · exact exec_live hlive rfl (by rw [liveVerifyComplete_verified hl hs hv, if_pos hc])
  · obtain ⟨hstate, hstore, -⟩ := liveOverlayCommit_good hl hs hb
    exact ⟨_, exec_live hlive rfl rfl, hstate, hstore, fun g => newTables_liveOverlayCommit hl hs hb g.isLt h4⟩
  · refine ⟨(s.seen dt).scrubbed errs, exec_live hlive rfl (scrubPass_due hr ht), Dev.scrubbed_scrubAt .., Dev.scrubbed_corr .., Dev.scrubbed_uncorr ..,
      ?_, ?_, fun n hn => ⟨Dev.slot_scrubbed_hit errs h2 hn, Dev.slot_scrubbed_other errs h2 hn⟩⟩
    · rw [Dev.scrubbed_store]
    · rw [Dev.scrubbed_store]

end Sys2Proof.Machine
end

section
/-! PROOF. Local converters (R49, R319 to R325): readiness, runs, continuous outputs and writes of LM_CONT. -/

namespace Sys2Proof.Machine

/-! The state of a converter under a change -/

section modLm
variable {d : Dev} {m : Nat} (f : LmSt → LmSt)

theorem Dev.lm_modLm_self (h : m < d.si.lms.length) : (d.modLm m f).lm m = f (d.lm m) := nth_setNth_self h ..

@[simp] theorem Dev.modLm_lms_length : (d.modLm m f).si.lms.length = d.si.lms.length := length_setNth ..

theorem Dev.lmCfg_modLm (d : Dev) (m k : Nat) (f : LmSt → LmSt) : (d.modLm m f).lmCfg k = d.lmCfg k := rfl

end modLm

/-- A register set is no change of a converter. -/
theorem Dev.lm_set (d : Dev) (f : Fld) (v i j m : Nat) : (d.set f v i j).lm m = d.lm m := rfl

theorem Dev.lmCfg_set (d : Dev) (f : Fld) (v i j m : Nat) : (d.set f v i j).lmCfg m = d.lmCfg m := rfl

theorem Dev.lm_congr {d e : Dev} (h : e.si = d.si) (m : Nat) : e.lm m = d.lm m := congrArg (fun s : SiSt => nth s.lms m .init) h

theorem Dev.lmCfg_congr {d e : Dev} (h : e.si.streams = d.si.streams) (m : Nat) : e.lmCfg m = d.lmCfg m := by
  rw [Dev.lmCfg, Dev.lmCfg, h]

theorem Dev.takeCal_eq (m : Nat) (d : Dev) : ∃ l, d.takeCal m = d.modLm m fun s => { s with inForce := l } := ⟨_, rfl⟩

/-! Readiness (R49) -/

theorem Dev.each_converterReady_keeps (d : Dev) : Dev.keeps ⟨[.si], [F.LM_CONT_N_N, F.LM_CONT_T0_T0], []⟩ d
    (d.each (List.range 4) fun m d => if ((d.takeCal m).lmCfg m).trig = 3 then (d.takeCal m).contApply m ((d.takeCal m).contWord m) (d.takeCal m).now
      else d.takeCal m) := by
  have hcal (m : Nat) (e : Dev) : Dev.keeps ⟨[.si], [F.LM_CONT_N_N, F.LM_CONT_T0_T0], []⟩ e (e.takeCal m) :=
    Dev.keeps_mono (by decide) (Dev.takeCal_keeps ..)
  exact Dev.keeps_each _ _ (fun m e => Dev.keeps_ite (Dev.keeps_trans (Dev.contApply_keeps ..) (hcal m e)) (hcal m e)) (Dev.keeps_refl ..)

theorem intakeLocalmeasDmaReady_ready {d : Dev} (h : d.get F.GL_START_KILN = 0) :
    (intakeLocalmeasDmaReady d).ready F.GL_READY_INTAKE = true ∧ (intakeLocalmeasDmaReady d).ready F.GL_READY_LOCALMEAS = true ∧
    (intakeLocalmeasDmaReady d).ready F.GL_READY_DMA = true := by
  have hk := Dev.each_converterReady_keeps (((d.flag F.GL_READY_INTAKE true).flag F.GL_READY_LOCALMEAS true).flag F.GL_READY_DMA true)
  have hx : intakeLocalmeasDmaReady d = _ := if_neg (not_not_intro h)
  rw [hx]
  have hon (f g : Fld) (e : Dev) (h : g ≠ f) : (e.flag f true).on g = e.on g := Dev.on_set_other _ _ _ _ _ _ _ _ h
  refine ⟨?_, ?_, ?_⟩
  · rw [Dev.ready, Dev.on, hk.2 _ _ _ (by decide)]
    change Dev.on _ _ = true
    rw [hon _ _ _ (by decide), hon _ _ _ (by decide), Dev.on_flag_self rfl]
  · rw [Dev.ready, Dev.on, hk.2 _ _ _ (by decide)]
    change Dev.on _ _ = true
    rw [hon _ _ _ (by decide), Dev.on_flag_self rfl]
  · rw [Dev.ready, Dev.on, hk.2 _ _ _ (by decide)]
    exact Dev.on_flag_self rfl ..

/-! Runs -/

/-- The groups hold their results, and no converter changes by that. -/
theorem Dev.latchLms_si (d : Dev) : d.latchLms.si = d.si := (Dev.latchLms_keeps d).1 .si (by decide)

theorem Dev.latchLms_now (d : Dev) : d.latchLms.now = d.now := congrArg Clock.ticks ((Dev.latchLms_keeps d).1 .clk (by decide))

theorem Dev.latchLms_lm (d : Dev) (m : Nat) : d.latchLms.lm m = d.lm m := Dev.lm_congr d.latchLms_si m

theorem Dev.latchLms_lmCfg (d : Dev) (m : Nat) : d.latchLms.lmCfg m = d.lmCfg m := Dev.lmCfg_congr (congrArg SiSt.streams d.latchLms_si) m

/-- A run that starts at a tick. -/
def LmSt.started (t : Nat) (s : LmSt) : LmSt := { s with running := true, runAt := t, done := 0 }

section startRun
variable {d : Dev} {m t : Nat} (hm : m < d.si.lms.length) (hr : d.ready F.GL_READY_LOCALMEAS = true) (hc : (d.lm m).cal = none)
  (hrun : (d.lm m).running = false) (he : (d.lmCfg m).entries ≠ [])
include hr hc hrun he

theorem Dev.startRun_eq : d.startRun m t =
    ((if (d.lmCfg m).trig = 0 then d.latchLms else d.latchLms.takeCal m).modLm m
      (LmSt.started t)).set F.LM_STAT_STATE 1 m := by
  have hr' : d.latchLms.ready F.GL_READY_LOCALMEAS = true := by
    rw [Dev.ready, Dev.on, (Dev.latchLms_keeps d).2 _ _ _ (by decide)]
    exact hr
  simp only [Dev.startRun, Dev.latchLms_lm, Dev.latchLms_lmCfg, hr', hc, hrun]
  rw [if_neg (by simpa using he)]
  rfl

include hm in
/-- A converter at rest starts its run. -/
theorem Dev.startRun_runs : ((d.startRun m t).lm m).running = true ∧ ((d.startRun m t).lm m).runAt = t ∧
    (d.startRun m t).get F.LM_STAT_STATE m = 1 := by
  have hlen : m < (if (d.lmCfg m).trig = 0 then d.latchLms else d.latchLms.takeCal m).si.lms.length := by
    obtain ⟨l, hl⟩ := Dev.takeCal_eq m d.latchLms
    split
    · rwa [Dev.latchLms_si]
    · rwa [hl, Dev.modLm_lms_length, Dev.latchLms_si]
  have hlm := Dev.lm_modLm_self (LmSt.started t) hlen
  rw [Dev.startRun_eq hr hc hrun he]
  exact ⟨congrArg LmSt.running hlm, congrArg LmSt.runAt hlm, Dev.get_set_self ..⟩

include hm in
/-- DELAY after the opening, once for each, a CYCLE converter runs (R319). -/
theorem lmCycleTrigger_runs (htrig : (d.lmCfg m).trig = 0) (hs : (d.grp (d.lmCfg m).group).started = true)
    (hdelay : 25 * (d.lmCfg m).delay ≤ 2 * (d.now - (d.grp (d.lmCfg m).group).openTick))
    (honce : (d.lm m).trigAt < (d.grp (d.lmCfg m).group).openTick + 1) :
    ((lmCycleTrigger m d).lm m).running = true ∧ ((lmCycleTrigger m d).lm m).runAt = d.now ∧ (lmCycleTrigger m d).get F.LM_STAT_STATE m = 1 := by
  have hx : lmCycleTrigger m d =
      (d.modLm m fun s => { s with trigAt := (d.grp (d.lmCfg m).group).openTick + 1 }).startRun m d.now := if_pos ⟨htrig, hs, hdelay, honce⟩
  have hlm := Dev.lm_modLm_self (fun s => { s with trigAt := (d.grp (d.lmCfg m).group).openTick + 1 }) hm
  rw [hx]
  exact Dev.startRun_runs (by simpa using hm) hr (by rw [hlm]; exact hc) (by rw [hlm]; exact hrun) he

include hm in
theorem lmRun_runs {x : Nat} (hacc : d.refusal x true (0x70008 + 0x100 * m) = none) (htrig : (d.lmCfg m).trig = 2) :
    ((lmRun x m d).lm m).running = true ∧ ((lmRun x m d).lm m).runAt = d.now ∧ (lmRun x m d).get F.LM_STAT_STATE m = 1 := by
  have hx : lmRun x m d = d.startRun m d.now := by
    rw [lmRun, Dev.hostWrite_accepted _ _ _ _ hacc, if_pos ⟨htrig, hr⟩]
  rw [hx]
  exact Dev.startRun_runs hm hr hc hrun he

end startRun

/-! The result of a run of one conversion -/

@[simp] theorem meanI_singleton (x : Int) : meanI [x] = x := by
  simp [meanI, sumI, roundDiv]

/-- What a converter remembers of a delivered code (R324): the code, and how often it has come in a row. -/
def LmSt.tookCode (i : Nat) (code : Int) (s : LmSt) : LmSt :=
  let same := decide (code = nth s.lastCodes i 0) && decide (nth s.eqRuns i 0 ≠ 0)
  { s with
    lastCodes := (List.range 16).map fun n => if n = i then code else nth s.lastCodes n 0
    eqRuns := (List.range 16).map fun n => if n = i then (if same then satInc 65535 (nth s.eqRuns n 0) else 1) else nth s.eqRuns n 0 }

/-- The word of a result of one conversion, corrected (R322, R323). -/
def LmSt.word (s : LmSt) (m : Nat) (en : LmEntry) (x : Int) : Nat :=
  resultWord (corrected (nth s.inForce en.gain (0, 0x8000)) x).1 (2 * bit (corrected (nth s.inForce en.gain (0, 0x8000)) x).2) 0 en.gain m en.input

theorem Dev.lmEntry_single (m : Nat) (x : Int) (en : LmEntry) (d : Dev) : d.lmEntry m [[x]] (0, en) =
    (d.modLm m (LmSt.tookCode 0 (corrected (nth (d.lm m).inForce en.gain (0, 0x8000)) x).1)).set F.LM_RESULT_WORD ((d.lm m).word m en x) m 0 := by
  simp only [Dev.lmEntry]
  rw [if_neg (by simp [nth])]
  simp only [nth, List.getElem?_cons_zero, Option.getD_some, List.map_cons, List.map_nil, List.any_cons, List.any_nil, Bool.or_false,
    meanI_singleton]
  rfl

theorem Dev.lmEntry_single_done {d : Dev} {m : Nat} (hm : m < d.si.lms.length) (x : Int) (en : LmEntry) :
    ((d.lmEntry m [[x]] (0, en)).lm m).done = (d.lm m).done := by
  rw [Dev.lmEntry_single]
  rw [Dev.lm_set, Dev.lm_modLm_self _ hm]
  rfl

/-- A result delivered is no change of the configuration. -/
theorem Dev.lmEntry_single_lmCfg (m k : Nat) (x : Int) (en : LmEntry) (d : Dev) : (d.lmEntry m [[x]] (0, en)).lmCfg k = d.lmCfg k := by
  rw [Dev.lmEntry_single, Dev.lmCfg_set, Dev.lmCfg_modLm]

/-- A run that has delivered its last result. -/
def Dev.runEnded (m : Nat) (f : LmSt → LmSt) (w : Nat) (d : Dev) : Dev :=
  ((((d.modLm m f).set F.LM_RESULT_WORD w m 0).modLm m fun s => { s with running := false, done := 1 }).set F.LM_STAT_STATE 0 m).count
    F.LM_STAT_RUNS m

theorem Dev.runEnded_leaves {d : Dev} {m : Nat} (hm : m < d.si.lms.length) (f : LmSt → LmSt) (w : Nat) :
    ((d.runEnded m f w).lm m).running = false ∧ (d.runEnded m f w).get F.LM_STAT_STATE m = 0 ∧
    (d.runEnded m f w).get F.LM_RESULT_WORD m 0 = w % 0x100000000 ∧
    ∀ n : Nat, n ≠ 0 → (d.runEnded m f w).get F.LM_RESULT_WORD m n = d.get F.LM_RESULT_WORD m n := by
  have hword (n : Nat) : (d.runEnded m f w).get F.LM_RESULT_WORD m n = (d.set F.LM_RESULT_WORD w m 0).get F.LM_RESULT_WORD m n :=
    (Dev.get_set_other _ F.LM_STAT_RUNS F.LM_RESULT_WORD _ m 0 m n (by decide)).trans
      (Dev.get_set_other _ F.LM_STAT_STATE F.LM_RESULT_WORD _ m 0 m n (by decide))
  refine ⟨?_, ?_, (hword 0).trans (Dev.get_set_self ..), fun n hn => (hword n).trans (Dev.get_set_ne _ _ _ _ _ _ _ _ (by simp [hn]))⟩
  · exact congrArg LmSt.running (Dev.lm_modLm_self (fun s => { s with running := false, done := 1 }) (by simpa using hm))
  · exact (Dev.get_set_other _ F.LM_STAT_RUNS F.LM_STAT_STATE _ m 0 m 0 (by decide)).trans (Dev.get_set_self ..)

section run
variable {d : Dev} {m : Nat} {en : LmEntry} (hd : (d.lm m).done = 0) (he : (d.lmCfg m).entries = [en]) (ha : en.avg = 1)
include hd he ha

/-- The one entry of a run is ready 10 clocks after its conversion (R320). -/
theorem Dev.readyEntries_single : d.readyEntries m = if 25 * (en.acq + 10) ≤ 2 * (d.now - (d.lm m).runAt) then [(0, en)] else [] := by
  have hclock : readyClock (d.lmCfg m) 0 = en.acq + 10 := by simp [readyClock, he, sumN, ha]
  by_cases h : 25 * (en.acq + 10) ≤ 2 * (d.now - (d.lm m).runAt) <;> simp [Dev.readyEntries, he, hd, hclock, h]

theorem lmRunComplete_early (raws : List (List Int)) (h : 2 * (d.now - (d.lm m).runAt) < 25 * (en.acq + 10)) :
    lmRunComplete m raws d = d.latchLms := by
  have hl : d.latchLms.readyEntries m = [] := by
    rw [Dev.readyEntries_single (en := en) (by rwa [Dev.latchLms_lm]) (by rwa [Dev.latchLms_lmCfg]) ha, Dev.latchLms_lm, Dev.latchLms_now,
      if_neg (Nat.not_le.mpr h)]
  simp [lmRunComplete, hl]

variable (hm : m < d.si.lms.length) (hrun : (d.lm m).running = true) (h : 25 * (en.acq + 10) ≤ 2 * (d.now - (d.lm m).runAt)) (x : Int)
include hrun h

include hm in
/-- With its one result delivered the run ends. -/
theorem lmRunComplete_ends : lmRunComplete m [[x]] d =
    d.latchLms.runEnded m (LmSt.tookCode 0 (corrected (nth (d.lm m).inForce en.gain (0, 0x8000)) x).1) ((d.lm m).word m en x) := by
  have hx := d.latchLms.lmEntry_single m x en
  rw [Dev.latchLms_lm] at hx
  have hl : d.latchLms.readyEntries m = [(0, en)] := by
    rw [Dev.readyEntries_single (en := en) (by rwa [Dev.latchLms_lm]) (by rwa [Dev.latchLms_lmCfg]) ha, Dev.latchLms_lm, Dev.latchLms_now, if_pos h]
  have hdone : ((d.latchLms.lmEntry m [[x]] (0, en)).lm m).done = 0 := by
    rw [Dev.lmEntry_single_done (by rwa [Dev.latchLms_si]), Dev.latchLms_lm, hd]
  have hcfg : ((d.latchLms.lmEntry m [[x]] (0, en)).lmCfg m).entries = [en] := by
    rw [Dev.lmEntry_single_lmCfg, Dev.latchLms_lmCfg, he]
  simp only [lmRunComplete, hl, Dev.latchLms_lm, hrun]
  rw [if_pos (by simp [nth, ha])]
  simp only [List.foldl_cons, List.foldl_nil, List.length_singleton, hdone, hcfg]
  rw [if_neg (by decide), hx]
  rfl

include hm in
/-- What such a run leaves: its word, every other result as it stood. -/
theorem lmRunComplete_leaves : ((lmRunComplete m [[x]] d).lm m).running = false ∧ (lmRunComplete m [[x]] d).get F.LM_STAT_STATE m = 0 ∧
    (lmRunComplete m [[x]] d).get F.LM_RESULT_WORD m 0 = (d.lm m).word m en x % 0x100000000 ∧
    ∀ n : Nat, n ≠ 0 → (lmRunComplete m [[x]] d).get F.LM_RESULT_WORD m n = d.latchLms.get F.LM_RESULT_WORD m n := by
  rw [lmRunComplete_ends hd he ha hm hrun h x]
  exact Dev.runEnded_leaves (by rwa [Dev.latchLms_si]) ..

end run

/-! Continuous outputs -/

/-- With no change of LM_CONT waiting none takes effect. -/
theorem Dev.contDue_none {d : Dev} {m : Nat} (h : (d.lm m).contNext = none) : d.contDue m = d := by
  simp [Dev.contDue, h]

theorem Dev.contDue_some {d : Dev} {m w t : Nat} (h : (d.lm m).contNext = some (w, t)) (ht : t ≤ d.now) : d.contDue m = d.contApply m w t := by
  simp [Dev.contDue, h, ht]

/-- A change of LM_CONT in force since an edge, with the outputs still to be marked. -/
def LmSt.changed (w t k : Nat) (s : LmSt) : LmSt := { s with contNow := w, contNext := none, mark := k, contAt := t, contK := 0 }

theorem Dev.contApply_si (d : Dev) (m w t : Nat) : ∃ k, (d.contApply m w t).si = ((d.takeCal m).modLm m (LmSt.changed w t k)).si := ⟨_, rfl⟩

/-- A change takes effect at its edge, from which its outputs count. -/
theorem Dev.lm_contApply {d : Dev} {m : Nat} (hm : m < d.si.lms.length) (w t : Nat) : ((d.contApply m w t).lm m).contNow = w ∧
    ((d.contApply m w t).lm m).contNext = none ∧ ((d.contApply m w t).lm m).contAt = t ∧ ((d.contApply m w t).lm m).contK = 0 := by
  have hlen : m < (d.takeCal m).si.lms.length := by
    obtain ⟨l, hl⟩ := Dev.takeCal_eq m d
    rwa [hl, Dev.modLm_lms_length]
  obtain ⟨k, hsi⟩ := d.contApply_si m w t
  rw [Dev.lm_congr hsi, Dev.lm_modLm_self _ hlen]
  exact ⟨rfl, rfl, rfl, rfl⟩

/-- The word of a continuous output (R323, R325): the filtered conversions of its window. -/
def Dev.contResult (d : Dev) (m : Nat) (raws : List Int) : Nat :=
  let s := d.lm m
  let cs := raws.map (corrected (nth s.inForce (s.contNow / 16 % 4) (0, 0x8000)))
  resultWord (sat16 (decimate (2 ^ (s.contNow / 0x100 % 16)) (cs.map (·.1)))) (2 * bit (cs.any (·.2)) + 4 * bit (decide (0 < s.mark))) 0
    (s.contNow / 16 % 4) m (s.contNow % 16)

/-- Where the ring of a converter takes its next output. -/
def Dev.ringPlace (d : Dev) (m : Nat) : Nat := (d.lmCfg m).ringBase + 4 * ((d.lm m).ringN % ((d.lmCfg m).ringSize / 4))

section contOutput
variable {d : Dev} {m : Nat} {raws : List Int} (htrig : (d.lmCfg m).trig = 3) (hr : d.ready F.GL_READY_LOCALMEAS = true)
  (hnext : (d.lm m).contNext = none) (hen : (d.lm m).contNow / 0x10000 ≠ 0) (hcal : (d.lm m).cal = none) (hov : d.sb.params.ovLm ≠ m)
  (hsize : 4 ≤ (d.lmCfg m).ringSize) (hlen : raws.length = 2 * 2 ^ ((d.lm m).contNow / 0x100 % 16) - 1)
  (htime : 25 * outputClock (d.lm m).contK (2 ^ ((d.lm m).contNow / 0x100 % 16)) ≤ 2 * (d.now - (d.lm m).contAt))

/-- One more output of a converter. -/
def LmSt.counted (s : LmSt) : LmSt := { s with ringN := s.ringN + 1, mark := s.mark - 1, contK := s.contK + 1 }

/-- The device with one more output of a converter in its result word, before the ring takes it. -/
def Dev.outputCounted (m w : Nat) (d : Dev) : Dev :=
  (d.set F.LM_RESULT_WORD w m 0).modLm m LmSt.counted

include htrig hr hnext hen hcal hov hsize hlen htime in
/-- An output whose window is converted goes to the result word and to the ring, and to nobody else. -/
theorem lmContOutput_forms : lmContOutput m raws d =
    (((d.outputCounted m (d.contResult m raws)).pokeBytes (d.ringPlace m) (leBytes 4 (d.contResult m raws))).sourceGrew (m + 1)) := by
  have hown : d.ovOwns m = false := by simp [Dev.ovOwns, hov]
  have hsz : (d.lmCfg m).ringSize / 4 ≠ 0 := by omega
  simp only [lmContOutput, Dev.contDue_none hnext]
  rw [if_neg (by simp [hown]), if_neg (by simp [htrig, hr, hen, hcal]), if_neg (by rw [hlen]; omega), if_neg hsz, if_neg]
  · rfl
  · rw [(Dev.sourceGrew_keeps ..).1 .sb (by decide)]
    exact fun h => hov h.1

end contOutput

/-- What such an output leaves: its word in the ring, every other byte as it stood. -/
theorem Dev.outputRing (d : Dev) {m : Nat} (hm : m < d.si.lms.length) (hw : d.work.wf = true) (w a : Nat) :
    (((d.outputCounted m w).pokeBytes a (leBytes 4 w)).sourceGrew (m + 1)).work.readBytes a 4 = leBytes 4 w ∧
    (∀ b : Nat, b < a ∨ a + 4 ≤ b → (((d.outputCounted m w).pokeBytes a (leBytes 4 w)).sourceGrew (m + 1)).work.read b = d.work.read b) ∧
    ((((d.outputCounted m w).pokeBytes a (leBytes 4 w)).sourceGrew (m + 1)).lm m).ringN = (d.lm m).ringN + 1 := by
  have hk := Dev.sourceGrew_keeps (m + 1) ((d.outputCounted m w).pokeBytes a (leBytes 4 w))
  rw [Dev.lm_congr (hk.1 .si (by decide)), hk.1 .work (by decide)]
  exact ⟨Mem.readBytes_writeBytes (leBytes 4 w) d.work a hw, fun b hb => Mem.read_writeBytes_outside (leBytes 4 w) d.work a b hb,
    congrArg LmSt.ringN (Dev.lm_modLm_self (d := d) LmSt.counted hm)⟩

/-! Writes of LM_CONT -/

section contWrite
variable (d : Dev) (m : Nat)

theorem Dev.contDue_streams : (d.contDue m).si.streams = d.si.streams := by
  unfold Dev.contDue
  split
  · split <;> rfl
  · rfl

theorem Dev.contDue_lms_length : (d.contDue m).si.lms.length = d.si.lms.length := by
  unfold Dev.contDue
  split
  · split
    · exact (length_setNth ..).trans (length_setNth ..)
    · rfl
  · rfl

theorem Dev.contDue_ovOwns : (d.contDue m).ovOwns m = d.ovOwns m := by
  rw [Dev.ovOwns, Dev.ovOwns, (Dev.contDue_keeps m d).1 .sb (by decide)]

variable {d m} {x v : Nat} (hm : m < 4) (hacc : d.refusal x true (0x7000C + 0x100 * m) = none)

/-- The fields of LM_CONT as a write leaves them. -/
def Dev.contWritten (m v : Nat) (d : Dev) : Dev := (d.contDue m).putCont m v

include hacc in
theorem lmContWrite_ignored (ho : d.ovOwns m = true) : lmContWrite x m v d = d.contDue m := by
  rw [lmContWrite, Dev.hostWrite_accepted _ _ _ _ hacc]
  exact if_pos ((d.contDue_ovOwns m).trans ho)

include hm in
theorem Dev.contWritten_si : (d.contWritten m v).si = (d.contDue m).si := (Dev.putCont_keeps m v hm _).1 .si (by decide)

include hm in
theorem Dev.contWritten_lmCfg : (d.contWritten m v).lmCfg m = d.lmCfg m :=
  Dev.lmCfg_congr ((congrArg SiSt.streams (Dev.contWritten_si hm)).trans (d.contDue_streams m)) m

include hm in
theorem Dev.contWritten_nextEdge : (d.contWritten m v).nextEdge = d.nextEdge := by
  have hclk : (d.contWritten m v).clk = d.clk :=
    ((Dev.putCont_keeps m v hm _).1 .clk (by decide)).trans ((Dev.contDue_keeps m d).1 .clk (by decide))
  rw [Dev.nextEdge, Dev.nextEdge, Dev.now, Dev.now, Dev.ct, Dev.ct, hclk]

include hm hacc

theorem lmContWrite_plain (ho : d.ovOwns m = false) (ht : (d.lmCfg m).trig ≠ 3) : lmContWrite x m v d = d.contWritten m v := by
  rw [lmContWrite, Dev.hostWrite_accepted _ _ _ _ hacc]
  dsimp only
  rw [if_neg (by simp [Dev.contDue_ovOwns, ho])]
  exact if_pos (by rwa [← Dev.contWritten, Dev.contWritten_lmCfg hm])

/-- On a continuous converter the value waits for its edge (R325). -/
theorem lmContWrite_waits (hlen : d.si.lms.length = 4) (ho : d.ovOwns m = false) (ht : (d.lmCfg m).trig = 3) :
    ((lmContWrite x m v d).lm m).contNext = some ((d.contWritten m v).contWord m, d.nextEdge) := by
  rw [lmContWrite, Dev.hostWrite_accepted _ _ _ _ hacc]
  dsimp only
  rw [if_neg (by simp [Dev.contDue_ovOwns, ho]), ← Dev.contWritten, if_neg (by simp [Dev.contWritten_lmCfg hm, ht])]
  have hlm := Dev.lm_modLm_self (d := d.contWritten m v) (m := m)
    (fun s => { s with contNext := some ((d.contWritten m v).contWord m, (d.contWritten m v).nextEdge) })
    (by rw [Dev.contWritten_si hm, Dev.contDue_lms_length, hlen]; exact hm)
  have hnext := congrArg LmSt.contNext hlm
  rw [Dev.contWritten_nextEdge hm] at hnext ⊢
  split
  · exact hnext
  · rw [Dev.lm_congr ((Dev.withdraw_keeps ..).1 .si (by decide))]
    exact hnext

end contWrite

/-- Settles O45: readiness, the two triggers, the end of a run, a continuous output, a change at its edge and a write of LM_CONT. -/
theorem converters : Obligations.Converters := by
  intro s dt d hd hl hlen
  subst hd
  have hlt (m : Fin 4) : m.val < (s.seen dt).si.lms.length := by rw [hlen]; exact m.isLt
  refine ⟨fun hk => ⟨_, exec_live hl rfl rfl, intakeLocalmeasDmaReady_ready hk⟩, fun m hr hc hrun he => ⟨fun ht hs hdelay honce => ?_, fun x hacc ht => ?_⟩,
    fun m en x hrun hd he ha => ⟨fun h => exec_live hl rfl (lmRunComplete_early hd he ha _ h), fun h => ?_⟩,
    fun m raws cs w base htrig hr hnext hen hcal hov hwf hsize hcs hw hbase hraws ht => ?_, fun m w at' hn hat => ?_,
    fun x m v hacc => ⟨fun ho => exec_live hl rfl (lmContWrite_ignored hacc ho), fun ho ht => exec_live hl rfl (lmContWrite_plain m.isLt hacc ho ht),
      fun ho ht => ⟨_, exec_live hl rfl rfl, lmContWrite_waits m.isLt hacc hlen ho ht⟩⟩⟩
  · exact ⟨_, exec_live hl rfl rfl, lmCycleTrigger_runs (hlt m) hr hc hrun he ht hs hdelay honce⟩
  · exact ⟨_, exec_live hl rfl rfl, lmRun_runs (hlt m) hr hc hrun he hacc ht⟩
  · exact ⟨_, exec_live hl rfl rfl, lmRunComplete_leaves hd he ha (hlt m) hrun h x⟩
  · have hforms := lmContOutput_forms htrig hr hnext hen hcal hov hsize hraws ht
    have hw' : w = (s.seen dt).contResult m raws := by rw [hw, hcs]; rfl
    rw [hw', hbase]
    exact ⟨_, exec_live hl rfl hforms, Dev.outputRing _ (hlt m) hwf _ _⟩
  · rw [Dev.contDue_some hn hat]
    exact Dev.lm_contApply (hlt m) w at'

end Sys2Proof.Machine
end

section
/-! PROOF. The host ports (R49, R50, R429, R442), bus mastering and messages (R430, R440), and BAR4 (R421, R422). -/

namespace Sys2Proof.Machine

/-! The ports -/

theorem ite_fin2 {α : Type} (p : Fin 2) (a b : α) : (if p.val = 0 then a else b) = if p = 0 then a else b := by
  by_cases h : p = 0
  · simp [h]
  · have hv : p.val ≠ 0 := fun c => h (Fin.ext c)
    simp [h, hv]

theorem Dev.sameRegs_of_keeps {ps : List Part} {fs : List Fld} {d e : Dev} (h : Dev.keeps ⟨ps, fs, []⟩ d e) : d.sameRegs e fs :=
  fun f i j hf => h.2 f i j (by simpa [Scope.covers] using hf)

/-- PERST of a port is high. -/
def Dev.perst (d : Dev) (p : Nat) : Bool := if p = 0 then d.pins.perstA else d.pins.perstB

/-- A port in L0 at a speed and width, before its condition follows. -/
def Dev.linkUp (p speed width : Nat) (d : Dev) : Dev :=
  ((({ d with host := { d.host with everUp := setNth d.host.everUp p true, downAt := setNth d.host.downAt p none } } : Dev).flag
    F.HC_PORT_LINK_UP true p).set F.HC_PORT_SPEED speed p).set F.HC_PORT_WIDTH width p

theorem Dev.linkUp_shows (p speed width : Nat) (d : Dev) : (d.linkUp p speed width).on F.HC_PORT_LINK_UP p = true ∧
    (d.linkUp p speed width).get F.HC_PORT_SPEED p = speed % 2 ^ F.HC_PORT_SPEED.width ∧
    (d.linkUp p speed width).get F.HC_PORT_WIDTH p = width % 2 ^ F.HC_PORT_WIDTH.width ∧
    d.sameRegs (d.linkUp p speed width) [F.HC_PORT_LINK_UP, F.HC_PORT_SPEED, F.HC_PORT_WIDTH] := by
  refine ⟨?_, ?_, Dev.get_set_self .., Dev.sameRegs_of_keeps (ps := [.host]) ?_⟩
  · unfold Dev.linkUp
    rw [Dev.on_set_other _ _ _ _ _ _ _ _ (by decide), Dev.on_set_other _ _ _ _ _ _ _ _ (by decide), Dev.on_flag_self rfl]
  · unfold Dev.linkUp
    rw [Dev.get_set_other _ _ _ _ _ _ _ _ (by decide), Dev.get_set_self]
  · exact Dev.keeps_set _ _ _ _ (by decide) (Dev.keeps_set _ _ _ _ (by decide) (Dev.keeps_flag _ _ _ _ (by decide)
      (Dev.keeps_host _ (by decide) (Dev.keeps_refl ..))))

/-- A link enters L0 while PERST is high (R442). -/
theorem linkEntersL0_up {d : Dev} {p : Nat} (h : d.perst p = true) (speed width : Nat) :
    linkEntersL0 p speed width d = ((linkRecoveryTimeout p d).linkUp p speed width).refreshLink p := by
  have hpins : (linkRecoveryTimeout p d).pins = d.pins := (linkRecoveryTimeout_keeps p d).1 .pins (by decide)
  have hperst : (if p = 0 then (linkRecoveryTimeout p d).pins.perstA else (linkRecoveryTimeout p d).pins.perstB) = true := by
    rw [hpins]
    exact h
  exact if_pos hperst

/-- A port that has left L0 at this tick, before its condition follows. -/
def Dev.linkLost (p : Nat) (d : Dev) : Dev :=
  let e : Dev := (d.flag F.HC_PORT_LINK_UP false p).count F.HC_PORT_LINK_DOWNS p
  { e with host := { d.host with downAt := setNth d.host.downAt p (some d.now) } }

theorem Dev.linkDown_up {d : Dev} {p : Nat} (h : d.on F.HC_PORT_LINK_UP p = true) : d.linkDown p = (d.linkLost p).refreshLink p := if_pos h

theorem Dev.linkDown_down {d : Dev} {p : Nat} (h : d.on F.HC_PORT_LINK_UP p = false) : d.linkDown p = d := if_neg (by simp [h])

theorem Dev.linkLost_down (p : Nat) (d : Dev) : (d.linkLost p).on F.HC_PORT_LINK_UP p = false :=
  (Dev.on_set_other _ F.HC_PORT_LINK_DOWNS F.HC_PORT_LINK_UP _ p 0 p 0 (by decide)).trans (Dev.on_flag_self rfl ..)

theorem Dev.linkLost_counts (p : Nat) (d : Dev) : (d.linkLost p).get F.HC_PORT_LINK_DOWNS p =
    satInc (2 ^ F.HC_PORT_LINK_DOWNS.width - 1) (d.get F.HC_PORT_LINK_DOWNS p) % 2 ^ F.HC_PORT_LINK_DOWNS.width := by
  have hold : (d.flag F.HC_PORT_LINK_UP false p).get F.HC_PORT_LINK_DOWNS p = d.get F.HC_PORT_LINK_DOWNS p :=
    Dev.get_set_other _ _ _ _ _ _ _ _ (by decide)
  rw [← hold]
  exact Dev.get_set_self ..

theorem Dev.linkLost_sameRegs (p : Nat) (d : Dev) : d.sameRegs (d.linkLost p) [F.HC_PORT_LINK_UP, F.HC_PORT_LINK_DOWNS] :=
  Dev.sameRegs_of_keeps (ps := [.host]) (Dev.keeps_host _ (by decide) (Dev.keeps_count _ _ _ (by decide)
    (Dev.keeps_flag _ _ _ _ (by decide) (Dev.keeps_refl ..))))

/-- After its link went down, if it was up, a port is not in L0. -/
theorem Dev.linkDown_leaves (p : Nat) (d : Dev) : (d.linkDown p).on F.HC_PORT_LINK_UP p = false := by
  cases h : d.on F.HC_PORT_LINK_UP p with
  | false => rwa [Dev.linkDown_down h]
  | true =>
    rw [Dev.linkDown_up h, Dev.on, (Dev.refreshLink_keeps ..).2 _ _ _ (by decide)]
    exact Dev.linkLost_down p d

/-- The pins with a port's PERST at a level. -/
def Pins.putPerst (p : Nat) (b : Bool) (s : Pins) : Pins := if p = 0 then { s with perstA := b } else { s with perstB := b }

theorem Pins.perst_putPerst (p : Nat) (b : Bool) (s : Pins) : (if p = 0 then (s.putPerst p b).perstA else (s.putPerst p b).perstB) = b := by
  unfold Pins.putPerst
  split <;> rfl

/-- A port that PERST holds, before its contexts close. -/
def Dev.portReset (p : Nat) (d : Dev) : Dev :=
  let e : Dev := ({ d with pins := d.pins.putPerst p false } : Dev).linkDown p
  ((({ e with host := { e.host with downAt := setNth e.host.downAt p none } } : Dev).set F.HC_PORT_SPEED 0 p).set F.HC_PORT_WIDTH 0 p).refreshLink p

theorem perstLow_eq (p : Nat) (d : Dev) : perstLow p d =
    (d.portReset p).each (portCtxs p) fun x d => ((d.closeCtx 3 x).resetConfig x).modCtx x fun c => { c with aer := 0 } := rfl

theorem Dev.portReset_keeps (p : Nat) (d : Dev) : Dev.keeps ⟨[.pins, .fc, .host], [F.FC_COND_COND, F.HC_PORT_LINK_DOWNS, F.HC_PORT_LINK_UP,
    F.HC_PORT_SPEED, F.HC_PORT_WIDTH], []⟩ d (d.portReset p) := by
  unfold Dev.portReset
  refine Dev.keeps_step (by decide) (Dev.refreshLink_keeps ..) (Dev.keeps_set _ _ _ _ (by decide) (Dev.keeps_set _ _ _ _ (by decide)
    (Dev.keeps_host _ (by decide) ?_)))
  exact Dev.keeps_step (by decide) (Dev.linkDown_keeps ..) (Dev.keeps_pins _ (by decide) (Dev.keeps_refl ..))

theorem Dev.portReset_shows (p : Nat) (d : Dev) : (d.portReset p).on F.HC_PORT_LINK_UP p = false ∧ (d.portReset p).get F.HC_PORT_SPEED p = 0 ∧
    (d.portReset p).get F.HC_PORT_WIDTH p = 0 := by
  have hlink := Dev.linkDown_leaves p { d with pins := d.pins.putPerst p false }
  unfold Dev.portReset Dev.on
  dsimp only
  rw [(Dev.refreshLink_keeps ..).2 _ _ _ (by decide), (Dev.refreshLink_keeps ..).2 _ _ _ (by decide), (Dev.refreshLink_keeps ..).2 _ _ _ (by decide)]
  refine ⟨?_, ?_, Dev.get_set_self ..⟩
  · rw [Dev.get_set_other _ _ _ _ _ _ _ _ (by decide), Dev.get_set_other _ _ _ _ _ _ _ _ (by decide)]
    exact hlink
  · rw [Dev.get_set_other _ _ _ _ _ _ _ _ (by decide)]
    exact Dev.get_set_self ..

theorem Dev.portReset_pins (p : Nat) (d : Dev) : (d.portReset p).pins = d.pins.putPerst p false := by
  unfold Dev.portReset
  rw [(Dev.refreshLink_keeps ..).1 .pins (by decide)]
  exact (Dev.linkDown_keeps ..).1 .pins (by decide)

/-! Contexts under a change -/

section modCtx
variable {d : Dev} {x : Nat}

theorem Dev.ctx_modCtx_self (h : x < d.host.ctxs.length) (f : CtxSt → CtxSt) : (d.modCtx x f).ctx x = f (d.ctx x) := nth_setNth_self h ..

@[simp] theorem Dev.modCtx_ctxs_length (f : CtxSt → CtxSt) : (d.modCtx x f).host.ctxs.length = d.host.ctxs.length := length_setNth ..

end modCtx

/-! Messages -/

/-- Messages sent one after the other. -/
theorem Dev.each_emit (l : List Nat) (f : Nat → Out) (d : Dev) : d.each l (fun v d => d.emit (f v)) = { d with out := d.out ++ l.map f } := by
  induction l generalizing d with
  | nil => simp [Dev.each]
  | cons v l ih =>
    rw [show d.each (v :: l) (fun v d => d.emit (f v)) = (d.emit (f v)).each l fun v d => d.emit (f v) from rfl, ih]
    simp [Dev.emit]

section sendHeld
variable {d : Dev} {x : Nat}

theorem Dev.sendHeld_off (h : (d.ctx x).bme = false) : d.sendHeld x = d := if_pos (by simp [h])

/-- With bus mastering enabled every message held for an unmasked vector goes. -/
theorem Dev.sendHeld_on (h : (d.ctx x).bme = true) : d.sendHeld x =
    { d.modCtx x fun c => { c with held := c.held.filter c.masked } with
      out := d.out ++ ((d.ctx x).held.filter fun v => !(d.ctx x).masked v).map ((d.ctx x).message x) } := by
  simp only [Dev.sendHeld, h]
  exact Dev.each_emit ..

theorem Dev.sendHeld_bank : (d.sendHeld x).bank = d.bank := by
  cases h : (d.ctx x).bme with
  | false => rw [Dev.sendHeld_off h]
  | true => rw [Dev.sendHeld_on h]; rfl

variable (hx : x < d.host.ctxs.length)
include hx

theorem Dev.ctx_sendHeld_on (h : (d.ctx x).bme = true) : (d.sendHeld x).ctx x = { d.ctx x with held := (d.ctx x).held.filter (d.ctx x).masked } := by
  rw [Dev.sendHeld_on h]
  exact Dev.ctx_modCtx_self hx fun c => { c with held := c.held.filter c.masked }

/-- Sending masks and unmasks nothing. -/
theorem Dev.masked_sendHeld (v : Nat) : ((d.sendHeld x).ctx x).masked v = (d.ctx x).masked v := by
  cases h : (d.ctx x).bme with
  | false => rw [Dev.sendHeld_off h]
  | true => rw [Dev.ctx_sendHeld_on hx h]; rfl

/-- An unmasked vector of a context with bus mastering holds no message after it. -/
theorem Dev.not_held_sendHeld {v : Nat} (h : (d.ctx x).bme = true) (hv : (d.ctx x).masked v = false) : v ∉ ((d.sendHeld x).ctx x).held := by
  rw [Dev.ctx_sendHeld_on hx h]
  exact fun hm => by simp [hv] at hm

end sendHeld

/-- Bus mastering off: no walk of the context goes on and no translation of it is kept (R430). -/
def Dev.masterOff (x : Nat) (a : Dev) : Dev := ((a.modCtx x fun c => { c with bme := false }).dropWalks x).dropCache x

theorem Dev.masterOff_leaves (x : Nat) (a : Dev) : (∀ w ∈ (a.masterOff x).host.walks, w.ctx ≠ x) ∧ (∀ t ∈ (a.masterOff x).host.cache, t.ctx ≠ x) ∧
    (a.masterOff x).bank = a.bank ∧ (a.masterOff x).dma = a.dma :=
  ⟨fun _ h => of_decide_eq_true (List.mem_filter.mp h).2, fun _ h => of_decide_eq_true (List.mem_filter.mp h).2, rfl, rfl⟩

theorem busMasterDisable_eq (x : Nat) (d : Dev) : busMasterDisable x d = (d.each (d.dmaOf x) (Dev.dmaEnd 1 2)).masterOff x := rfl

/-- Setting the enable sends what is held for unmasked vectors (R430). -/
theorem busMasterEnable_sends {d : Dev} {x : Nat} (hx : x < d.host.ctxs.length) : ((busMasterEnable x d).ctx x).bme = true ∧
    (busMasterEnable x d).out = d.out ++ ((d.ctx x).held.filter fun v => !(d.ctx x).masked v).map ((d.ctx x).message x) ∧
    (busMasterEnable x d).bank = d.bank := by
  have hctx : (d.modCtx x fun c => { c with bme := true }).ctx x = { d.ctx x with bme := true } :=
    Dev.ctx_modCtx_self hx fun c => { c with bme := true }
  have hlen : x < (d.modCtx x fun c => { c with bme := true }).host.ctxs.length := by simpa using hx
  have hbme : ((d.modCtx x fun c => { c with bme := true }).ctx x).bme = true := by rw [hctx]
  refine ⟨?_, ?_, Dev.sendHeld_bank⟩
  · rw [busMasterEnable, Dev.ctx_sendHeld_on hlen hbme, hctx]
  · rw [busMasterEnable, Dev.sendHeld_on hbme, hctx]
    rfl

/-! The MSI-X table (R421) -/

theorem tabGet_tabErase_self {α : Type} (t : List (Nat × α)) (n : Nat) : tabGet (tabErase t n) n = none := by
  induction t with
  | nil => rfl
  | cons p t ih =>
    by_cases h : p.1 = n
    · simpa [tabErase, h] using ih
    · simpa [tabErase, tabGet, h] using ih

theorem tabGet_tabIns_self {α : Type} {t : List (Nat × α)} {n : Nat} (h : tabGet t n = none) (y : α) : tabGet (tabIns t n y) n = some y := by
  induction t with
  | nil => simp [tabIns, tabGet]
  | cons p t ih =>
    have hp : p.1 ≠ n := fun c => by simp [tabGet, c] at h
    have ht : tabGet t n = none := by simpa [tabGet, hp] using h
    by_cases hn : n < p.1
    · simp [tabIns, tabGet, hn]
    · simpa [tabIns, tabGet, hn, hp] using ih ht

theorem tabD_tabSet_self {α : Type} (t : List (Nat × α)) (n : Nat) (x y : α) : tabD (tabSet t n y) n x = y := by
  rw [tabD, tabSet, tabGet_tabIns_self (tabGet_tabErase_self t n)]
  rfl

/-- The vector control of an entry is its last dword. -/
theorem vectorControl_offset (v : Fin 64) : (BitVec.ofNat 14 (16 * v.val + 12)).toNat = 16 * v.val + 12 := by
  have := v.isLt
  simp only [BitVec.toNat_ofNat]
  omega

/-- A write of an entry's vector control puts its mask bit and sends what that lets go. -/
theorem msixWrite_control (x : Nat) (v : Fin 64) (w : Nat) (d : Dev) : msixWrite x (16 * v.val + 12) [w] true d =
    (d.modCtx x fun c => { c with table := tabSet c.table (4 * v.val + 3) (w % 2) }).sendHeld x := by
  have hv := v.isLt
  have hform : msixForm (16 * v.val + 12) 1 true = true := by simp [msixForm]; omega
  have hdiv : (16 * v.val + 12) / 4 = 4 * v.val + 3 := by omega
  have hlt : 4 * v.val + 3 < 256 := by omega
  have hword : msixWord 3 w = w % 2 := by simp [msixWord]
  simp only [msixWrite, List.length_singleton, hform, hdiv]
  simp [nth, hlt, hword]

theorem CtxSt.masked_control (c : CtxSt) (v w : Nat) :
    ({ c with table := tabSet c.table (4 * v + 3) (w % 2) } : CtxSt).masked v = testBit w 0 := by
  simp only [CtxSt.masked, CtxSt.entry, tabD_tabSet_self]
  simp [testBit]

/-- The mask bit written is the vector's, and an unmasked vector holds no message. -/
theorem msixWrite_masks {d : Dev} {x : Nat} (hx : x < d.host.ctxs.length) (v : Fin 64) (w : Nat) :
    ((msixWrite x (16 * v.val + 12) [w] true d).ctx x).masked v.val = testBit w 0 ∧
    (testBit w 0 = false → (d.ctx x).bme = true → v.val ∉ ((msixWrite x (16 * v.val + 12) [w] true d).ctx x).held) ∧
    (msixWrite x (16 * v.val + 12) [w] true d).bank = d.bank := by
  have hctx := Dev.ctx_modCtx_self hx fun c => { c with table := tabSet c.table (4 * v.val + 3) (w % 2) }
  have hlen : x < (d.modCtx x fun c => { c with table := tabSet c.table (4 * v.val + 3) (w % 2) }).host.ctxs.length := by simpa using hx
  have hmask := (congrArg (fun c => CtxSt.masked c v.val) hctx).trans ((d.ctx x).masked_control v.val w)
  rw [msixWrite_control]
  exact ⟨(Dev.masked_sendHeld hlen v.val).trans hmask, fun hw hb => Dev.not_held_sendHeld hlen (by rw [hctx]; exact hb) (hmask.trans hw),
    Dev.sendHeld_bank⟩

theorem msixWrite_form {x off : Nat} {vals : List Nat} {full : Bool} (h : msixForm off vals.length full = false) (d : Dev) :
    msixWrite x off vals full d = d.refuse x false true 2 off := if_pos (by simp [h])

theorem msixRead_one {off : Nat} (h : off % 4 = 0) (x : Nat) (d : Dev) :
    msixRead x off 1 d = d.emit (.msixData x off ((d.ctx x).bar4 (off / 4))) := by
  have hform : msixForm off 1 true = true := by simp [msixForm, h]
  simp [msixRead, hform, Dev.each]

/-- Settles O21: the ports by their links and PERST, bus mastering and the table by what may be sent afterwards. -/
theorem portsAndMessages : Obligations.PortsAndMessages := by
  refine ⟨fun s dt d p hd hl => ?_, fun s dt d x hd hl hctxs => ?_⟩ <;> subst hd
  · refine ⟨fun speed width hp => ?_, fun hup => ?_, ⟨(s.seen dt).portReset p.val, ?_⟩, ?_, ?_⟩
    · rw [← ite_fin2] at hp
      exact ⟨_, exec_live hl rfl (linkEntersL0_up hp speed width), Dev.linkUp_shows ..⟩
    · exact ⟨_, exec_live hl rfl (Dev.linkDown_up hup), Dev.linkLost_down .., Dev.linkLost_counts .., rfl, Dev.linkLost_sameRegs p.val (s.seen dt)⟩
    · have hkeep := Dev.portReset_keeps p.val (s.seen dt)
      refine ⟨exec_live hl rfl (perstLow_eq ..), ?_, ?_⟩
      · rw [← ite_fin2, Dev.portReset_pins, Pins.perst_putPerst]
      · obtain ⟨hlink, hspeed, hwidth⟩ := Dev.portReset_shows p.val (s.seen dt)
        exact ⟨hlink, hspeed, hwidth, hkeep.1 .grps (by decide), hkeep.1 .cm (by decide)⟩
    · refine ⟨{ s.seen dt with pins := (s.seen dt).pins.putPerst p.val true }, exec_live hl rfl rfl, ?_, rfl⟩
      rw [← ite_fin2]
      exact Pins.perst_putPerst ..
    · rw [← ite_fin2]
      exact exec_live hl rfl rfl
  · have hx : x.val < (s.seen dt).host.ctxs.length := by rw [hctxs]; exact x.isLt
    exact ⟨⟨_, _, rfl, rfl, exec_live hl rfl (busMasterDisable_eq ..), Dev.masterOff_leaves ..⟩, ⟨_, exec_live hl rfl rfl, busMasterEnable_sends hx⟩,
      fun v w => ⟨_, exec_live hl rfl (congrArg (fun off => msixWrite x.val off [w.toNat] true (s.seen dt)) (vectorControl_offset v)),
        msixWrite_masks hx v w.toNat⟩,
      fun off vals full hf => exec_live hl rfl (msixWrite_form (by rwa [List.length_map]) _), fun off ha => exec_live hl rfl (msixRead_one ha ..)⟩

end Sys2Proof.Machine
end

section
/-! PROOF. The steps of a start (R32, R39, R49, R61) and of a restore (R43, R46, R377, R389, R391, R400). -/

namespace Sys2Proof.Machine

theorem Dev.each_cons (x : Nat) (l : List Nat) (f : Nat → Dev → Dev) (d : Dev) : d.each (x :: l) f = (f x d).each l f := rfl

/-! Records that are lost -/

theorem Dev.lossShown_lost {d : Dev} (h : d.store.lost = true) : d.lossShown.ready F.GL_READY_STORE = false ∧ d.lossShown.on F.MO_STATUS_STORE_ERR = true := by
  unfold Dev.lossShown Dev.ready Dev.on
  rw [if_pos h, (Dev.cond_keeps ..).2 _ _ _ (by decide), (Dev.cond_keeps ..).2 _ _ _ (by decide)]
  exact ⟨(Dev.on_set_other _ F.MO_STATUS_STORE_ERR F.GL_READY_STORE _ 0 0 0 0 (by decide)).trans (Dev.on_flag_self (f := F.GL_READY_STORE) rfl _ false 0 0),
    Dev.on_flag_self (f := F.MO_STATUS_STORE_ERR) rfl _ true 0 0⟩

theorem Dev.readStore_shown (l : List StoreErr) (d : Dev) : ∃ e : Dev, d.readStore l = e.lossShown ∧ (d.readStore l).store = e.store :=
  ⟨_, Dev.readStore_eq l d, by rw [Dev.readStore_store]⟩

/-- With both copies of a record lost STORE is not ready and STORE_ERR tells of it (R39). -/
theorem Dev.readStore_lost {l : List StoreErr} {d : Dev} (h : (d.readStore l).store.lost = true) :
    (d.readStore l).ready F.GL_READY_STORE = false ∧ (d.readStore l).on F.MO_STATUS_STORE_ERR = true := by
  obtain ⟨e, he, hst⟩ := Dev.readStore_shown l d
  rw [hst] at h
  rw [he]
  exact Dev.lossShown_lost h

/-! What the store shows -/

theorem Dev.slot_congr {d e : Dev} (h : e.store = d.store) (n : Nat) : e.slot n = d.slot n := congrArg (fun s => nth (Store.slots s) n .empty) h

section showSlot
variable (n : Nat) (d : Dev)

theorem Dev.showSlot_shows : (d.showSlot n).get F.MO_SLOT_STATE n = (d.slot n).state % 2 ^ F.MO_SLOT_STATE.width ∧
    (d.showSlot n).get F.MO_SLOT_REASON n = (d.slot n).reason % 2 ^ F.MO_SLOT_REASON.width := by
  unfold Dev.showSlot
  dsimp only
  constructor
  · rw [Dev.get_set_other _ _ _ _ _ _ _ _ (by decide), Dev.get_set_other _ _ _ _ _ _ _ _ (by decide), Dev.get_set_self]
  · rw [Dev.get_set_other _ _ _ _ _ _ _ _ (by decide), Dev.get_set_self]

variable {n}

theorem Dev.get_showSlot_ne {m : Nat} (h : n ≠ m) (f : Fld) : (d.showSlot m).get f n = d.get f n := by
  have hne {g : Fld} (e : Dev) (v : Nat) : (e.set g v m).get f n = e.get f n :=
    Dev.get_set_ne _ _ _ _ _ _ _ _ fun c => h (congrArg (fun k : Fld × Nat × Nat => k.2.1) c)
  unfold Dev.showSlot
  dsimp only
  rw [hne, hne, hne]

end showSlot

/-- What the device records give apart from the slots (R27, R45). -/
def Dev.showRecords (d : Dev) : Dev :=
  let e : Dev := (d.showRing.set F.MO_STATUS_ACTIVE d.store.active).set F.SB_DEG_ELAPSED d.store.degMinutes
  (e.set F.GL_START_STARTS d.store.starts).set F.GL_START_PIN_RESETS d.store.pinResets

theorem Dev.showRing_store (d : Dev) : d.showRing.store = d.store := (Dev.showRing_keeps d).1 .store (by decide)

theorem Dev.showRecords_store (d : Dev) : d.showRecords.store = d.store := by
  simp only [Dev.showRecords, Dev.set_store, Dev.showRing_store]

theorem Dev.showStore_eq (d : Dev) : d.showStore = (d.showRecords.showSlot 0).showSlot 1 := by
  simp only [Dev.showStore, Dev.showRecords, Dev.set_store, Dev.showRing_store]

theorem Dev.showRecords_shows (d : Dev) : d.showRecords.get F.MO_STATUS_ACTIVE = d.store.active % 2 ^ F.MO_STATUS_ACTIVE.width ∧
    d.showRecords.get F.GL_START_STARTS = d.store.starts % 0x10000 ∧ d.showRecords.get F.GL_START_PIN_RESETS = d.store.pinResets % 0x100 ∧
    d.showRecords.get F.SB_DEG_ELAPSED = d.store.degMinutes % 2 ^ F.SB_DEG_ELAPSED.width := by
  have hother {f g : Fld} (e : Dev) (v : Nat) (h : g ≠ f) : (e.set f v).get g = e.get g := Dev.get_set_other _ _ _ _ _ _ _ _ h
  unfold Dev.showRecords
  dsimp only
  refine ⟨?_, ?_, Dev.get_set_self .., ?_⟩
  · rw [hother _ _ (by decide), hother _ _ (by decide), hother _ _ (by decide), Dev.get_set_self]
  · rw [hother _ _ (by decide)]
    exact Dev.get_set_self ..
  · rw [hother _ _ (by decide), hother _ _ (by decide), Dev.get_set_self]

theorem Dev.showStore_records (d : Dev) : d.showStore.get F.MO_STATUS_ACTIVE = d.store.active % 2 ^ F.MO_STATUS_ACTIVE.width ∧
    d.showStore.get F.GL_START_STARTS = d.store.starts % 0x10000 ∧ d.showStore.get F.GL_START_PIN_RESETS = d.store.pinResets % 0x100 ∧
    d.showStore.get F.SB_DEG_ELAPSED = d.store.degMinutes % 2 ^ F.SB_DEG_ELAPSED.width := by
  have hkeep := Dev.keeps_trans (Dev.showSlot_keeps 1 (d.showRecords.showSlot 0)) (Dev.showSlot_keeps 0 d.showRecords)
  rw [Dev.showStore_eq, hkeep.2 _ _ _ (by decide), hkeep.2 _ _ _ (by decide), hkeep.2 _ _ _ (by decide), hkeep.2 _ _ _ (by decide)]
  exact d.showRecords_shows

theorem Dev.showStore_slots (d : Dev) : ∀ n < 2, d.showStore.get F.MO_SLOT_STATE n = (d.slot n).state % 2 ^ F.MO_SLOT_STATE.width ∧
    d.showStore.get F.MO_SLOT_REASON n = (d.slot n).reason % 2 ^ F.MO_SLOT_REASON.width
  | 0, _ => by
    have hne : 0 ≠ 1 := by decide
    rw [Dev.showStore_eq, Dev.get_showSlot_ne _ hne, Dev.get_showSlot_ne _ hne, ← Dev.slot_congr d.showRecords_store 0]
    exact Dev.showSlot_shows 0 d.showRecords
  | 1, _ => by
    have hst : (d.showRecords.showSlot 0).store = d.store := ((Dev.showSlot_keeps ..).1 .store (by decide)).trans d.showRecords_store
    rw [Dev.showStore_eq, ← Dev.slot_congr hst 1]
    exact Dev.showSlot_shows 1 (d.showRecords.showSlot 0)

/-! DEVICE_RECORDS_CHECKED (R39, R45, R49) -/

/-- The slots whose LOAD was cut off are REJECTED and the scrubber begins. -/
def Dev.recordsTaken (d : Dev) : Dev :=
  let e : Dev := { d with free := d.free + 1, store := { d.store with slots := d.store.slots.map (Slot.interrupted d.free) } }
  { e with mo := { e.mo with scrubAt := e.now } }

theorem Dev.recordsTaken_store (d : Dev) :
    d.recordsTaken.store = { d.store with slots := d.store.slots.map (Slot.interrupted d.free) } := by
  simp only [Dev.recordsTaken]

theorem Dev.recordsTaken_scrubAt (d : Dev) : d.recordsTaken.mo.scrubAt = d.now := by
  simp only [Dev.recordsTaken, Dev.now]

section deviceRecords
variable {errs : List StoreErr} {d : Dev}

theorem deviceRecordsChecked_ready (h : d.ready F.GL_READY_STORE = true) : deviceRecordsChecked errs d = d := if_pos h

variable (h : d.ready F.GL_READY_STORE = false)
include h

theorem deviceRecordsChecked_lost (hlost : (d.readStore errs).store.lost = true) : deviceRecordsChecked errs d = d.readStore errs := by
  unfold deviceRecordsChecked
  rw [if_neg (by simp [h])]
  exact if_pos hlost

theorem deviceRecordsChecked_good (hlost : (d.readStore errs).store.lost = false) :
    deviceRecordsChecked errs d = (d.readStore errs).recordsTaken.showStore.flag F.GL_READY_STORE true := by
  unfold deviceRecordsChecked
  rw [if_neg (by simp [h])]
  exact if_neg (by simp [hlost])

end deviceRecords

/-- The device that ends it shows its records and slots, and STORE is ready. -/
theorem Dev.recordsShown (d : Dev) {e : Dev} (he : e = d.recordsTaken.showStore.flag F.GL_READY_STORE true) :
    e.get F.MO_STATUS_ACTIVE = d.store.active % 2 ^ F.MO_STATUS_ACTIVE.width ∧
    e.get F.GL_START_STARTS = d.store.starts % 0x10000 ∧ e.get F.GL_START_PIN_RESETS = d.store.pinResets % 0x100 ∧
    e.get F.SB_DEG_ELAPSED = d.store.degMinutes % 2 ^ F.SB_DEG_ELAPSED.width ∧
    (∀ n < 2, e.get F.MO_SLOT_STATE n = (e.slot n).state % 2 ^ F.MO_SLOT_STATE.width ∧
      e.get F.MO_SLOT_REASON n = (e.slot n).reason % 2 ^ F.MO_SLOT_REASON.width) ∧
    e.ready F.GL_READY_STORE = true ∧ e.store = { d.store with slots := d.store.slots.map (Slot.interrupted d.free) } ∧ e.mo.scrubAt = d.now := by
  have hget {f : Fld} (i : Nat) (h : f ≠ F.GL_READY_STORE) : e.get f i = d.recordsTaken.showStore.get f i := by
    rw [he]
    exact Dev.get_set_other _ _ _ _ _ _ _ _ h
  have hkeep := Dev.showStore_keeps d.recordsTaken
  have hst : e.store = d.recordsTaken.store := by rw [he, Dev.flag_store, hkeep.1 .store (by decide)]
  have hmo : e.mo = d.recordsTaken.mo := by rw [he, Dev.flag_mo, hkeep.1 .mo (by decide)]
  have hready : e.ready F.GL_READY_STORE = true := by
    rw [he]
    exact Dev.on_flag_self (f := F.GL_READY_STORE) rfl _ true 0 0
  obtain ⟨hactive, hstarts, hpins, hdeg⟩ := d.recordsTaken.showStore_records
  rw [hget 0 (by decide), hget 0 (by decide), hget 0 (by decide), hget 0 (by decide), hactive, hstarts, hpins, hdeg, hst, hmo,
    Dev.recordsTaken_store, Dev.recordsTaken_scrubAt]
  refine ⟨rfl, rfl, rfl, rfl, fun n hn => ?_, hready, rfl, rfl⟩
  rw [hget n (by decide), hget n (by decide), Dev.slot_congr hst]
  exact d.recordsTaken.showStore_slots n hn

/-! ACTIVE_SLOT_CHECK (R32) -/

/-- The active slot once its check has given a code. -/
def Slot.checked (code : Nat) (s : Slot) : Slot := if s.state = 1 then s else { s with state := if code = 0 then 4 else 5, reason := code }

theorem Slot.checked_writing {s : Slot} (h : s.state = 1) (code : Nat) : s.checked code = s := if_pos h

theorem Slot.checked_state {s : Slot} (h : s.state ≠ 1) (code : Nat) : (s.checked code).state = (if code = 0 then 4 else 5) ∧ (s.checked code).reason = code := by
  unfold Slot.checked
  rw [if_neg h]
  exact ⟨rfl, rfl⟩

theorem Slot.checked_bytes (s : Slot) (code : Nat) : (s.checked code).bytes = s.bytes := by
  unfold Slot.checked
  split <;> rfl

/-- Both slots once checked. -/
def Dev.slotsChecked (n code : Nat) (d : Dev) : Dev := (d.modSlot n (Slot.checked code)).modSlot (1 - n) Slot.examined

/-- The outcome of the check kept. -/
def Dev.checkKept (n code : Nat) (d : Dev) : Dev :=
  { d with mo := { d.mo with checkDone := true, checkOk := code == 0, imageId := imgId (d.slot n).bytes } }

@[simp] theorem Dev.checkKept_slot (n code : Nat) (d : Dev) (m : Nat) : (d.checkKept n code).slot m = d.slot m := by
  simp only [Dev.checkKept, Dev.slot]

@[simp] theorem Dev.checkKept_get (n code : Nat) (d : Dev) (f : Fld) (i : Nat) : (d.checkKept n code).get f i = d.get f i := by
  simp only [Dev.checkKept, Dev.get]

section slotsChecked
variable {n : Nat} (code : Nat) {d : Dev} (hn : n < 2) (hlen : d.store.slots.length = 2)
include hn hlen

theorem Dev.slotsChecked_slot : (d.slotsChecked n code).slot n = (d.slot n).checked code := by
  unfold Dev.slotsChecked
  rw [Dev.slot_modSlot_ne (m := 1 - n) _ _ (by omega), Dev.slot_modSlot_self _ (by omega)]

theorem Dev.slotsChecked_other : (d.slotsChecked n code).slot (1 - n) = (d.slot (1 - n)).examined := by
  unfold Dev.slotsChecked
  rw [Dev.slot_modSlot_self _ (by rw [Dev.modSlot_slots_length]; omega), Dev.slot_modSlot_ne (m := n) _ _ (by omega)]

theorem Dev.slotsChecked_shows : (d.slotsChecked n code).get F.MO_SLOT_STATE n =
    ((d.slotsChecked n code).slot n).state % 2 ^ F.MO_SLOT_STATE.width := by
  rw [Dev.slotsChecked_slot code hn hlen, ← Dev.slot_modSlot_self (Slot.checked code) (by omega : n < d.store.slots.length)]
  unfold Dev.slotsChecked
  exact (Dev.get_showSlot_ne _ (by omega) _).trans (Dev.showSlot_shows n _).1

end slotsChecked

section activeSlot
variable {errs : List StoreErr} {d r : Dev} {n code : Nat} (hr : r = d.readStore errs) (hn : n = r.store.active)
  (hcode : code = if (r.slot n).state = 1 ∨ (r.slot n).cut.isSome = true then 0x0E else r.verifySlot n) (hstore : d.ready F.GL_READY_STORE = true)
  (hkiln : d.kiln = false) (hdone : d.mo.checkDone = false)
include hr hn hcode hstore hkiln hdone

theorem activeSlotCheck_eq : activeSlotCheck errs d = (r.slotsChecked n code).checkKept n code := by
  unfold activeSlotCheck
  rw [if_neg (by simp [hstore, hkiln, hdone]), ← hr, hcode, hn]
  rfl

end activeSlot

theorem Dev.checkKept_leaves {n : Nat} (code : Nat) {d : Dev} (hn : n < 2) (hlen : d.store.slots.length = 2) :
    ∃ e : Dev, e = (d.slotsChecked n code).checkKept n code ∧ e.mo.checkDone = true ∧ e.mo.checkOk = (code == 0) ∧
      e.mo.imageId = imgId (d.slot n).bytes ∧ ((d.slot n).state = 1 → e.slot n = d.slot n) ∧
      ((d.slot n).state ≠ 1 → (e.slot n).state = (if code = 0 then 4 else 5) ∧ (e.slot n).reason = code) ∧
      e.get F.MO_SLOT_STATE n = (e.slot n).state % 2 ^ F.MO_SLOT_STATE.width ∧ (e.slot n).bytes = (d.slot n).bytes ∧
      e.slot (1 - n) = (d.slot (1 - n)).examined := by
  have hslot := Dev.slotsChecked_slot code hn hlen
  have hbytes : ((d.slotsChecked n code).slot n).bytes = (d.slot n).bytes := by rw [hslot, Slot.checked_bytes]
  refine ⟨(d.slotsChecked n code).checkKept n code, rfl, rfl, rfl, congrArg imgId hbytes, fun h => ?_, fun h => ?_, ?_, ?_, ?_⟩ <;>
    simp only [Dev.checkKept_slot, Dev.checkKept_get]
  · rw [hslot, Slot.checked_writing h]
  · rw [hslot]
    exact Slot.checked_state h code
  · exact Dev.slotsChecked_shows code hn hlen
  · exact hbytes
  · exact Dev.slotsChecked_other code hn hlen

/-! STRUCTURE_BUILD (R36, R49, R61) -/

/-- The structure of the active image with the overlay of the better half. -/
def Dev.builtOver (d : Dev) (half : Nat) : Dev :=
  ({ d with store := { d.store with ohalf := half } } : Dev).build d.mo.imageId (d.slot d.store.active).body
    (applicable d.mo.imageId (nth d.store.overlay half ⟨0, false, []⟩).packets)

theorem structureBuild_eq {errs : List StoreErr} {d : Dev} (hok : d.mo.checkOk = true) (hmortar : d.ready F.GL_READY_MORTAR = false)
    (hkiln : d.kiln = false) {r b : Dev} (hr : r = d.readStore errs)
    (hb : b = r.builtOver (bestHalf (r.store.overlay.map fun h => (h.gen, h.committed)))) :
    structureBuild errs d = (b.each ((List.range 64).filter b.enabled) fun c d => d.wakeCourse c true).refreshLanes := by
  unfold structureBuild
  rw [if_neg (by simp [hok, hmortar, hkiln]), ← hr, hb]
  rfl

/-! JOURNAL_REPLAY (R42, R43) -/

/-- The role of a context after a restore. -/
def Dev.fixRole (owner x : Nat) (d : Dev) : Dev :=
  if x = owner then d.set F.HC_CTX_CFG_ROLE 0 x else if d.role x = 0 then d.set F.HC_CTX_CFG_ROLE 1 x else d

theorem Dev.fixRoles_eq (d : Dev) : d.fixRoles = d.each (List.range 8) (Dev.fixRole (d.get F.HC_OWNER_OWNER)) := rfl

section fixRole
variable (owner : Nat)

theorem Dev.role_fixRole_self (x : Nat) (d : Dev) :
    (d.fixRole owner x).role x = if x = owner then 0 else if d.role x = 0 then 1 else d.role x := by
  unfold Dev.fixRole
  split
  · exact Dev.get_set_self ..
  · split
    · exact Dev.get_set_self ..
    · rfl

theorem Dev.role_fixRole_ne {x y : Nat} (h : x ≠ y) (d : Dev) : (d.fixRole owner y).role x = d.role x := by
  have hset (v : Nat) : (d.set F.HC_CTX_CFG_ROLE v y).role x = d.role x :=
    Dev.get_set_ne _ _ _ _ _ _ _ _ fun c => h (congrArg (fun k : Fld × Nat × Nat => k.2.1) c)
  unfold Dev.fixRole
  split
  · exact hset 0
  · split
    · exact hset 1
    · rfl

theorem Dev.role_fixEach_not_mem {x : Nat} (l : List Nat) (h : x ∉ l) (d : Dev) : (d.each l (Dev.fixRole owner)).role x = d.role x := by
  induction l generalizing d with
  | nil => rfl
  | cons y l ih =>
    rw [Dev.each_cons, ih (List.not_mem_of_not_mem_cons h), Dev.role_fixRole_ne owner (List.ne_of_not_mem_cons h)]

theorem Dev.role_fixEach_mem {x : Nat} (l : List Nat) (hd : l.Nodup) (h : x ∈ l) (d : Dev) :
    (d.each l (Dev.fixRole owner)).role x = if x = owner then 0 else if d.role x = 0 then 1 else d.role x := by
  induction l generalizing d with
  | nil => cases h
  | cons y l ih =>
    obtain ⟨hy, hd⟩ := List.nodup_cons.mp hd
    rw [Dev.each_cons]
    by_cases hxy : x = y
    · rw [Dev.role_fixEach_not_mem owner l (hxy ▸ hy), hxy, Dev.role_fixRole_self]
    · rw [ih hd ((List.mem_cons.mp h).resolve_left hxy), Dev.role_fixRole_ne owner hxy]

end fixRole

theorem Dev.role_fixRoles {x : Nat} (hx : x < 8) (d : Dev) :
    d.fixRoles.role x = if x = d.get F.HC_OWNER_OWNER then 0 else if d.role x = 0 then 1 else d.role x := by
  rw [Dev.fixRoles_eq]
  exact Dev.role_fixEach_mem _ _ List.nodup_range (List.mem_range.mpr hx) d

/-- The device of a replay that has applied its records, before GL_VADAPT and READY. -/
def Dev.replayShown (bad : Bool) (a : Dev) : Dev := (a.flag F.GL_READY_RESTORE_DEGRADED bad).fixRoles.showJournal

section replayShown
variable (bad : Bool) (a : Dev)

theorem Dev.get_replayShown {f : Fld} (i : Nat) (hr : f ≠ F.HC_CTX_CFG_ROLE) (hj : f ∉ [F.MO_JOURNAL_FILL, F.MO_JOURNAL_HALF, F.MO_JOURNAL_PENDING]) :
    (a.replayShown bad).get f i = (a.flag F.GL_READY_RESTORE_DEGRADED bad).get f i := by
  unfold Dev.replayShown
  rw [(Dev.showJournal_keeps ..).2 _ _ _ (by simpa [Scope.covers] using hj), (Dev.fixRoles_keeps ..).2 _ _ _ (by simp [Scope.covers, hr])]

theorem Dev.replayShown_degraded : (a.replayShown bad).on F.GL_READY_RESTORE_DEGRADED = bad := by
  rw [Dev.on, Dev.get_replayShown bad a 0 (by decide) (by decide)]
  exact Dev.on_flag_self (f := F.GL_READY_RESTORE_DEGRADED) rfl a bad 0 0

theorem Dev.replayShown_role {x : Nat} (hx : x < 8) : (a.replayShown bad).role x =
    if x = (a.replayShown bad).get F.HC_OWNER_OWNER then 0 else if a.role x = 0 then 1 else a.role x := by
  have hrole (y : Nat) : (a.flag F.GL_READY_RESTORE_DEGRADED bad).role y = a.role y := Dev.get_set_other _ _ _ _ _ _ _ _ (by decide)
  rw [Dev.get_replayShown bad a 0 (by decide) (by decide), ← hrole, ← Dev.role_fixRoles hx]
  exact (Dev.showJournal_keeps ..).2 _ _ _ (by decide)

end replayShown

/-- The records of the better half that a replay reads. -/
def Dev.replayRecs (d : Dev) (half : Nat) : List JRec := replayed (nth d.store.halves half ⟨0, false, []⟩).recs

/-- The journal goes on in the better half after the records read. -/
def Dev.journalAt (d : Dev) (half : Nat) : Dev :=
  { d with store := { d.store with
      half := half, halves := setNth d.store.halves half { nth d.store.halves half ⟨0, false, []⟩ with recs := d.replayRecs half } } }

/-- The records read that are of the active image and can be read are applied. -/
def Dev.recsApplied (d : Dev) (half : Nat) : Dev :=
  ((d.replayRecs half).filter fun x => !(d.slot d.store.active).idBad && x.img == imgId (d.slot d.store.active).bytes % 0x100000000 && !x.bad).foldl
    Dev.applyRecord (d.journalAt half)

theorem journalReplay_eq {errs : List StoreErr} {d : Dev} (hstore : d.ready F.GL_READY_STORE = true) (hjournal : d.ready F.GL_READY_JOURNAL = false)
    {r b : Dev} {half : Nat} (hr : r = d.readStore errs) (hhalf : half = bestHalf (r.store.halves.map fun h => (h.gen, h.committed)))
    (hb : b = (r.recsApplied half).replayShown ((r.replayRecs half).any (·.bad))) :
    journalReplay errs d = (if b.on F.GL_VADAPT_EN then b.startAdapt else b).flag F.GL_READY_JOURNAL true := by
  rw [hb, hhalf, hr]
  exact if_neg (by simp [hstore, hjournal])

/-! FAULTS_READY (R377, R389, R391) -/

theorem Store.relogged_same (s : Store) : s.relogged.first = s.first ∧ s.relogged.log = s.log := by
  unfold Store.relogged
  split <;> exact ⟨rfl, rfl⟩

/-- The first-fault record and the place of the log shown. -/
def Dev.faultsShown (d : Dev) : Dev :=
  let e : Dev := ((d.flag F.FC_FIRST_VALID d.store.first.valid).set F.FC_FIRST_SAME_TICK d.store.first.sameTick).set F.FC_FIRST_SOURCE d.store.first.source
  (e.set F.FC_FIRST_SEQ_SEQ d.store.first.seq).set F.FC_LOG_STAT_HEAD d.store.head

theorem Dev.faultsShown_shows (d : Dev) : d.faultsShown.on F.FC_FIRST_VALID = d.store.first.valid ∧
    d.faultsShown.get F.FC_FIRST_SOURCE = d.store.first.source % 2 ^ F.FC_FIRST_SOURCE.width ∧
    d.faultsShown.get F.FC_FIRST_SEQ_SEQ = d.store.first.seq % 0x100000000 ∧
    d.faultsShown.get F.FC_LOG_STAT_HEAD = d.store.head % 2 ^ F.FC_LOG_STAT_HEAD.width := by
  have hother {f g : Fld} (e : Dev) (v : Nat) (h : g ≠ f) : (e.set f v).get g = e.get g := Dev.get_set_other _ _ _ _ _ _ _ _ h
  unfold Dev.faultsShown
  dsimp only
  refine ⟨?_, ?_, ?_, Dev.get_set_self ..⟩
  · rw [Dev.on, hother _ _ (by decide), hother _ _ (by decide), hother _ _ (by decide), hother _ _ (by decide)]
    exact Dev.on_flag_self (f := F.FC_FIRST_VALID) rfl d _ 0 0
  · rw [hother _ _ (by decide), hother _ _ (by decide), Dev.get_set_self]
  · rw [hother _ _ (by decide)]
    exact Dev.get_set_self ..

/-- The table of reactions, taken from the image once there is one. -/
def Dev.reactTable (d : Dev) : Dev :=
  match d.ready F.GL_READY_MORTAR, d.mo.image with
  | true, some b => d.loadReact b.faults
  | _, _ => d

theorem Dev.reactTable_keeps (d : Dev) : Dev.keeps ⟨[.fc], [F.FC_REACT_ERR, F.FC_REACT_GROUPS, F.FC_REACT_REACTION], []⟩ d d.reactTable := by
  unfold Dev.reactTable
  split
  · exact Dev.loadReact_keeps ..
  · exact Dev.keeps_refl ..

/-- Every window shows the record its index names. -/
def Dev.windowsReset (d : Dev) : Dev := { d with fc := { d.fc with win := List.replicate 8 (tabD d.store.log 0 .blank) } }

/-- The log and the first-fault record restored, before the POWER_UP record. -/
def Dev.faultsRestored (d : Dev) : Dev := ({ d with store := d.store.relogged } : Dev).faultsShown.reactTable.windowsReset

theorem faultsReady_eq {errs : List StoreErr} {d : Dev} (hstore : d.ready F.GL_READY_STORE = true) (hfaults : d.ready F.GL_READY_FAULTS = false)
    {r e : Dev} (hr : r = d.readStore errs) (he : e = r.faultsRestored) :
    faultsReady errs d = ((e.queueRec (e.mkRec 4 0xFFFF 0 0 0 [])).flag F.GL_READY_FAULTS true).lateReactions := by
  unfold faultsReady
  rw [if_neg (by simp [hstore, hfaults]), ← hr, he]
  rfl

theorem Dev.faultsRestored_store (d : Dev) : d.faultsRestored.store = d.store.relogged :=
  (Dev.reactTable_keeps ({ d with store := d.store.relogged } : Dev).faultsShown).1 .store (by decide)

theorem Dev.faultsRestored_shows (d : Dev) : d.faultsRestored.on F.FC_FIRST_VALID = d.store.first.valid ∧
    d.faultsRestored.get F.FC_FIRST_SOURCE = d.store.first.source % 2 ^ F.FC_FIRST_SOURCE.width ∧
    d.faultsRestored.get F.FC_FIRST_SEQ_SEQ = d.store.first.seq % 0x100000000 ∧
    d.faultsRestored.get F.FC_LOG_STAT_HEAD = d.store.relogged.head % 2 ^ F.FC_LOG_STAT_HEAD.width ∧
    d.faultsRestored.fc.win = List.replicate 8 (tabD d.store.log 0 .blank) := by
  have hkeep := Dev.reactTable_keeps ({ d with store := d.store.relogged } : Dev).faultsShown
  have hget {f : Fld} (h : f ∉ [F.FC_REACT_ERR, F.FC_REACT_GROUPS, F.FC_REACT_REACTION]) :
      d.faultsRestored.get f = ({ d with store := d.store.relogged } : Dev).faultsShown.get f :=
    hkeep.2 _ _ _ (by simpa [Scope.covers] using h)
  have hshows := Dev.faultsShown_shows { d with store := d.store.relogged }
  obtain ⟨hfirst, hlog⟩ := d.store.relogged_same
  have hwin : d.faultsRestored.fc.win = List.replicate 8 (tabD d.faultsRestored.store.log 0 .blank) := rfl
  rw [hwin, Dev.faultsRestored_store, hlog, Dev.on, hget (by decide), hget (by decide), hget (by decide), hget (by decide), ← hfirst]
  obtain ⟨hvalid, hsource, hseq, hhead⟩ := hshows
  exact ⟨hvalid, hsource, hseq, hhead, rfl⟩

theorem safetyReady_eq {d : Dev} (hmortar : d.ready F.GL_READY_MORTAR = true) (hkiln : d.kiln = false) (hsb : d.sb.checked = false) :
    safetyReady d = ({ d with sb := { d.sb with checked := true } } : Dev).sealAndReady (decodeSafety (imgSection (d.slot d.store.active).bytes 9)) :=
  if_neg (by simp [hmortar, hkiln, hsb])

/-! GROUP_RESTORE (R46) -/

theorem testBit_putBit_self (x n : Nat) : testBit (putBit x n true) n = true := by
  unfold putBit testBit
  cases h : x.testBit n with
  | true => simpa using h
  | false => simp [Nat.add_comm x, Nat.testBit_two_pow_add_eq, h]

theorem Dev.testBit_setBit_self {f : Fld} {n : Nat} (h : n < f.width) (d : Dev) (i j : Nat) : testBit ((d.setBit f n true i j).get f i j) n = true := by
  have hbit : (putBit (d.get f i j) n true).testBit n = true := testBit_putBit_self ..
  rw [Dev.setBit, Dev.get_set_self, testBit, Nat.testBit_mod_two_pow, hbit]
  simpa using h

/-- The mode a group is restored to. -/
def Dev.restoredMode (d : Dev) (g : Nat) : Mode := if (d.grp g).lastMode ≤ 1 then .isolated else .blocked

theorem Dev.modeCode_restoredMode (d : Dev) (g : Nat) : modeCode (d.restoredMode g) = if (d.grp g).lastMode ≤ 1 then 0 else 2 := by
  unfold Dev.restoredMode
  split <;> rfl

/-- The mode of a group entered, with its event if it is another one. -/
def Dev.modeEntered (g c : Nat) (d : Dev) : Dev := if c = d.gpMode g then d else (d.setKept F.GP_MODE_MODE c g).eventAll (1 + g)

theorem Dev.gpMode_modeEntered_self (g : Nat) {c : Nat} (hc : c < 2 ^ F.GP_MODE_MODE.width) (d : Dev) : (d.modeEntered g c).gpMode g = c := by
  unfold Dev.modeEntered
  split
  · exact (‹c = d.gpMode g›).symm
  · rw [Dev.gpMode, (Dev.eventAll_keeps ..).2 _ _ _ (by decide), Dev.setKept, Dev.get_journal_other _ _ _ _ _ _ (by decide) (by decide),
      Dev.get_set_self, Nat.mod_eq_of_lt hc]

theorem Dev.gpMode_modeEntered_ne {g k : Nat} (h : k ≠ g) (c : Nat) (d : Dev) : (d.modeEntered g c).gpMode k = d.gpMode k := by
  unfold Dev.modeEntered
  split
  · rfl
  · rw [Dev.gpMode, (Dev.eventAll_keeps ..).2 _ _ _ (by decide), Dev.setKept, Dev.get_journal_other _ _ _ _ _ _ (by decide) (by decide)]
    exact Dev.get_set_ne _ _ _ _ _ _ _ _ fun e => h (congrArg (fun k : Fld × Nat × Nat => k.2.1) e)

/-- A group's controller in the mode it is restored to. -/
def ChanGrp.restored (m : Mode) (x : ChanGrp) : ChanGrp := { x with ctl := { x.ctl with m := { x.ctl.m with mode := m, mode0 := m, cause := 9 } } }

/-- The mode and its cause, in the register and in every channel. -/
def Dev.restoredIn (g : Nat) (m : Mode) (d : Dev) : Dev :=
  ((d.modeEntered g (modeCode m)).set F.GP_MODE_CAUSE 9 g).each [0, 1, 2] fun ch d => d.modCg ch g (ChanGrp.restored m)

theorem groupRestore_waits {g : Nat} {d : Dev} (h : d.mayRestore g = false) : groupRestore g d = d := if_pos (by simp [h])

theorem groupRestore_eq {g : Nat} {d : Dev} (h : d.mayRestore g = true) :
    groupRestore g d = (d.restoredIn g (d.restoredMode g)).setBit F.GL_READY_GROUP g true := if_neg (by simp [h])

theorem Dev.get_restoredIn (g : Nat) (m : Mode) (d : Dev) (f : Fld) (i : Nat) :
    (d.restoredIn g m).get f i = ((d.modeEntered g (modeCode m)).set F.GP_MODE_CAUSE 9 g).get f i :=
  (Dev.keeps_each (S := ⟨[.chans], [], []⟩) _ [0, 1, 2] (fun _ _ => Dev.modCg_keeps ..) (Dev.keeps_refl ..)).2 f i 0 rfl

theorem Dev.gpMode_restoredIn (g : Nat) (m : Mode) (d : Dev) (k : Nat) : (d.restoredIn g m).gpMode k = (d.modeEntered g (modeCode m)).gpMode k :=
  (Dev.get_restoredIn ..).trans (Dev.get_set_other _ _ _ _ _ _ _ _ (by decide))

theorem groupRestore_leaves {d : Dev} {g : Fin 4} (h : d.mayRestore g.val = true) :
    (groupRestore g.val d).gpMode g.val = (if (d.grp g.val).lastMode ≤ 1 then 0 else 2) ∧ (groupRestore g.val d).get F.GP_MODE_CAUSE g.val = 9 ∧
    testBit ((groupRestore g.val d).get F.GL_READY_GROUP) g.val = true ∧
    (∀ k : Fin 4, k ≠ g → (groupRestore g.val d).gpMode k.val = d.gpMode k.val) ∧
    (groupRestore g.val d).work = d.work ∧ (groupRestore g.val d).cm = d.cm := by
  have hkeep := groupRestore_keeps g.val d
  have hmode (k : Nat) : (groupRestore g.val d).gpMode k = (d.modeEntered g.val (modeCode (d.restoredMode g.val))).gpMode k := by
    rw [groupRestore_eq h, ← Dev.gpMode_restoredIn]
    exact Dev.get_set_other _ _ _ _ _ _ _ _ (by decide)
  have hcode : modeCode (d.restoredMode g.val) < 2 ^ F.GP_MODE_MODE.width := by
    rw [Dev.modeCode_restoredMode]
    split <;> decide
  refine ⟨?_, ?_, ?_, fun k hk => ?_, hkeep.1 .work (by decide), hkeep.1 .cm (by decide)⟩
  · rw [hmode, Dev.gpMode_modeEntered_self _ hcode, Dev.modeCode_restoredMode]
  · rw [groupRestore_eq h]
    exact (Dev.get_set_other _ _ _ _ _ _ _ _ (by decide)).trans ((Dev.get_restoredIn ..).trans (Dev.get_set_self ..))
  · rw [groupRestore_eq h]
    exact Dev.testBit_setBit_self (f := F.GL_READY_GROUP) g.isLt _ 0 0
  · rw [hmode, Dev.gpMode_modeEntered_ne fun c => hk (Fin.ext c)]

/-- Settles O17: each step of a start is its operation on the store as read, whose results show what the step leaves. -/
theorem bootAndRestore : Obligations.BootAndRestore := by
  refine ⟨fun s dt d errs r hd hl hr => ?_, fun s dt d hd hl => ⟨fun errs r half l hr hhalf hrecs hstore hjournal => ?_,
    fun hstore hfaults errs r hr => ?_, fun hmortar hkiln hsb => ?_⟩, fun s dt d g hd hl => ⟨fun h => ?_, fun h => ?_⟩⟩ <;> subst hd
  · refine ⟨fun hlost => ?_, fun h => ⟨fun hlost => ?_, fun hlost => ?_⟩, fun h => exec_live hl rfl (deviceRecordsChecked_ready h),
      fun n code hn hcode hstore hkiln hdone hn2 hlen => ?_, fun hok hmortar hkiln => ?_⟩
    · rw [hr] at hlost ⊢
      exact Dev.readStore_lost hlost
    · rw [hr] at hlost ⊢
      exact exec_live hl rfl (deviceRecordsChecked_lost h hlost)
    · obtain ⟨hactive, hstarts, hpins, hdeg, hslots, hready, hst, hscrub⟩ := r.recordsShown rfl
      have hnow : r.now = (s.seen dt).now := by
        rw [hr]
        exact congrArg Clock.ticks ((Dev.readStore_keeps ..).1 .clk (by decide))
      rw [hr] at hlost
      exact ⟨_, exec_live hl rfl ((deviceRecordsChecked_good h hlost).trans (by rw [hr])), hactive, hstarts, hpins, hdeg, hslots, hready, hst, hscrub.trans hnow⟩
    · obtain ⟨e, he, hleaves⟩ := Dev.checkKept_leaves code hn2 hlen
      exact ⟨e, exec_live hl rfl ((activeSlotCheck_eq hr hn hcode hstore hkiln hdone).trans he.symm), hleaves⟩
    · exact ⟨_, _, rfl, rfl, exec_live hl rfl (structureBuild_eq hok hmortar hkiln hr rfl)⟩
  · rw [hrecs]
    exact ⟨_, _, rfl, rfl, exec_live hl rfl (journalReplay_eq hstore hjournal hr hhalf rfl), Dev.replayShown_degraded .., fun x hx => Dev.replayShown_role _ _ hx⟩
  · obtain ⟨hvalid, hsource, hseq, hhead, hwin⟩ := r.faultsRestored_shows
    exact ⟨_, exec_live hl rfl (faultsReady_eq hstore hfaults hr rfl), hvalid, hsource, hseq, hhead, hwin, r.faultsRestored_store⟩
  · exact exec_live hl rfl (safetyReady_eq hmortar hkiln hsb)
  · exact exec_live hl rfl (groupRestore_waits h)
  · exact ⟨_, exec_live hl rfl rfl, groupRestore_leaves h⟩

end Sys2Proof.Machine
end

section
/-! PROOF. Synchronisation and feedback (R119, R120, R141, R142): what each decision leaves in the control state of a group. -/

namespace Sys2Proof.Machine

/-! What a decision leaves in its group -/

@[simp] theorem GridSt.taken_sync (s : GridSt) : s.taken.sync = s.sync := rfl

@[simp] theorem GridSt.taken_fbAt (s : GridSt) (n : Nat) : s.taken.fbAt n = s.fbAt n := rfl

/-- A decision acts on the control state of its group in every channel that runs it, and the hub takes the result. -/
theorem Dev.ctl_decision {d : Dev} {g ch : Nat} {late : Bool} {cy : GCycle} (f : GCtx → GridSt → GridSt) (h : d.deciding g ch late cy) :
    (d.decision g late f).ctl ch g = (f (d.gctx g cy) (d.ctl ch g)).taken :=
  (decisionReachesChannels d g ch late cy f h).1

/-! Synchronisation (R119, R120) -/

section sync
variable {s : GridSt}

theorem syncLock_locks {c : GCtx} (hrun : c.gc.sync.lockN ≤ s.sync.lockRun) (hfly : s.sync.fly = false) : (syncLock c s).sync.locked = true := by
  rw [syncLock, if_pos ⟨hrun, hfly⟩]

theorem syncUnlock_unlocks (hrun : 16 ≤ s.sync.unlockRun) : (syncUnlock s).sync.locked = false := by
  rw [syncUnlock, if_pos hrun]

theorem flywheelClear_clears (hfly : s.sync.fly = true) (hrun : 2 ≤ s.sync.flyRun) :
    (flywheelClear s).sync.fly = false ∧ (flywheelClear s).sync.jumpRun = 0 := by
  rw [flywheelClear, if_pos ⟨hfly, hrun⟩]
  exact ⟨rfl, rfl⟩

end sync

/-! Feedback (R141, R142) -/

theorem GridSt.fbAt_setFb_self {s : GridSt} {n : Nat} (h : n < s.fb.length) (f : FbSt) : (s.setFb n f).fbAt n = f :=
  nth_setNth_self h ..

section feedback
variable {c : GCtx} {s : GridSt} {n : Nat} (hn : n < s.fb.length)
include hn

theorem feedbackHoldExpiry_raises (h : holdExpired c s n = true) : ((feedbackHoldExpiry c n s).fbAt n).raised = true := by
  rw [feedbackHoldExpiry, if_pos h]
  exact congrArg FbSt.raised (GridSt.fbAt_setFb_self hn _)

theorem feedbackPrimaryReturn_returns (halt : (s.fbAt n).alt = true) (hrun : 64 ≤ (s.fbAt n).primRun) :
    ((feedbackPrimaryReturn n s).fbAt n).alt = false := by
  rw [feedbackPrimaryReturn, if_pos ⟨halt, hrun⟩, GridSt.fbAt_setFb_self hn]

theorem feedbackDisagreement_disagrees (hrun : 16 ≤ (s.fbAt n).diffRun) (hdis : (s.fbAt n).disagreed = false) :
    ((feedbackDisagreement c n s).fbAt n).disagreed = true := by
  rw [feedbackDisagreement, if_pos ⟨hrun, hdis⟩]
  exact congrArg FbSt.disagreed (GridSt.fbAt_setFb_self hn _)

end feedback

/-- Settles O28: each command is one decision, whose condition the statement gives. -/
theorem syncAndFeedback : Obligations.SyncAndFeedback := by
  rintro s dt _ g ch cy rfl hl h
  refine ⟨fun hrun hfly => ⟨_, exec_live hl rfl rfl, ?_⟩, fun hrun => ⟨_, exec_live hl rfl rfl, ?_⟩,
    fun hfly hrun => ⟨_, exec_live hl rfl rfl, ?_⟩, fun n hlen => ?_⟩
  · rw [syncLockCmd, Dev.ctl_decision _ h, GridSt.taken_sync]
    exact syncLock_locks hrun hfly
  · rw [syncUnlockCmd, Dev.ctl_decision _ h, GridSt.taken_sync]
    exact syncUnlock_unlocks hrun
  · rw [flywheelClearCmd, Dev.ctl_decision _ h, GridSt.taken_sync]
    exact flywheelClear_clears hfly hrun
  · have hn : n.val < ((s.seen dt).ctl ch g.val).fb.length := hlen.symm ▸ n.isLt
    refine ⟨fun hexp => ⟨_, exec_live hl rfl rfl, ?_⟩, fun halt hrun => ⟨_, exec_live hl rfl rfl, ?_⟩,
      fun hrun hdis => ⟨_, exec_live hl rfl rfl, ?_⟩⟩
    · rw [feedbackHoldExpiryCmd, Dev.ctl_decision _ h, GridSt.taken_fbAt]
      exact feedbackHoldExpiry_raises hn hexp
    · rw [feedbackPrimaryReturnCmd, Dev.ctl_decision _ h, GridSt.taken_fbAt]
      exact feedbackPrimaryReturn_returns hn halt hrun
    · rw [feedbackDisagreementCmd, Dev.ctl_decision _ h, GridSt.taken_fbAt]
      exact feedbackDisagreement_disagrees hn hrun hdis

end Sys2Proof.Machine
end

section
/-! PROOF. Automatic transitions (R91 to R93, R101): what one leaves in the control state of its group, and what a decision of
ride-through does in a group that is not chopper-only. -/

namespace Sys2Proof.Machine

section transitions
variable (k : Nat) (target : Mode) (cause : Nat) (s : GridSt)

/-- A transition rewrites the mode part, the angle's accumulator and frequency in the part that takes over, and the tracker's freeze. -/
theorem GridSt.goto_shape : ∃ acc w xi form harv, s.goto k target cause =
    { s with
      m := { s.m with mode := target, prev := s.m.mode, cause := cause, changed := true, entryK := k, phaseCtrl := false,
                      ret := if isRide target && !isRide s.m.mode then s.m.mode else s.m.ret }
      sync := { s.sync with acc := acc, w := w, xi := xi }, form := form, harv := harv } := by
  unfold GridSt.goto
  dsimp only
  generalize (if isRide target && !isRide s.m.mode then s.m.mode else s.m.ret) = ret
  split
  · exact ⟨_, _, _, _, _, rfl⟩
  · split <;> exact ⟨_, _, _, _, _, rfl⟩

/-- An automatic one does the same and is marked. -/
theorem GridSt.autoGoto_shape : ∃ acc w xi form harv, s.autoGoto k target cause =
    { s with
      m := { s.m with mode := target, prev := s.m.mode, cause := cause, changed := true, entryK := k, phaseCtrl := false, auto := true,
                      ret := if isRide target && !isRide s.m.mode then s.m.mode else s.m.ret }
      sync := { s.sync with acc := acc, w := w, xi := xi }, form := form, harv := harv } := by
  obtain ⟨acc, w, xi, form, harv, h⟩ := s.goto_shape k target cause
  exact ⟨acc, w, xi, form, harv, by rw [GridSt.autoGoto, h]⟩

@[simp] theorem GridSt.autoGoto_mode : (s.autoGoto k target cause).m.mode = target := by
  obtain ⟨_, _, _, _, _, h⟩ := s.autoGoto_shape k target cause; rw [h]

@[simp] theorem GridSt.autoGoto_cause : (s.autoGoto k target cause).m.cause = cause := by
  obtain ⟨_, _, _, _, _, h⟩ := s.autoGoto_shape k target cause; rw [h]

@[simp] theorem GridSt.autoGoto_prev : (s.autoGoto k target cause).m.prev = s.m.mode := by
  obtain ⟨_, _, _, _, _, h⟩ := s.autoGoto_shape k target cause; rw [h]

@[simp] theorem GridSt.autoGoto_ret :
    (s.autoGoto k target cause).m.ret = if isRide target && !isRide s.m.mode then s.m.mode else s.m.ret := by
  obtain ⟨_, _, _, _, _, h⟩ := s.autoGoto_shape k target cause; rw [h]

@[simp] theorem GridSt.autoGoto_ltOutcome : (s.autoGoto k target cause).m.ltOutcome = s.m.ltOutcome := by
  obtain ⟨_, _, _, _, _, h⟩ := s.autoGoto_shape k target cause; rw [h]

@[simp] theorem GridSt.autoGoto_ride : (s.autoGoto k target cause).ride = s.ride := by
  obtain ⟨_, _, _, _, _, h⟩ := s.autoGoto_shape k target cause; rw [h]

@[simp] theorem GridSt.autoGoto_isl : (s.autoGoto k target cause).isl = s.isl := by
  obtain ⟨_, _, _, _, _, h⟩ := s.autoGoto_shape k target cause; rw [h]

@[simp] theorem GridSt.autoGoto_seatDue : (s.autoGoto k target cause).sync.seatDue = s.sync.seatDue := by
  obtain ⟨_, _, _, _, _, h⟩ := s.autoGoto_shape k target cause; rw [h]

@[simp] theorem GridSt.autoGoto_lastSeat : (s.autoGoto k target cause).sync.lastSeat = s.sync.lastSeat := by
  obtain ⟨_, _, _, _, _, h⟩ := s.autoGoto_shape k target cause; rw [h]

end transitions

/-! What the hub takes (raised sources, requests of the tracker) is none of what the statements speak of. -/

section taken
variable (s : GridSt)

@[simp] theorem GridSt.taken_mode : s.taken.m.mode = s.m.mode := rfl

@[simp] theorem GridSt.taken_cause : s.taken.m.cause = s.m.cause := rfl

@[simp] theorem GridSt.taken_prev : s.taken.m.prev = s.m.prev := rfl

@[simp] theorem GridSt.taken_ret : s.taken.m.ret = s.m.ret := rfl

@[simp] theorem GridSt.taken_ltOutcome : s.taken.m.ltOutcome = s.m.ltOutcome := rfl

@[simp] theorem GridSt.taken_scanning : s.taken.harv.scanning = s.harv.scanning := rfl

@[simp] theorem GridSt.taken_vTgt : s.taken.harv.vTgt = s.harv.vTgt := rfl

@[simp] theorem GridSt.taken_sincescan : s.taken.harv.sincescan = s.harv.sincescan := rfl

@[simp] theorem GridSt.taken_pSum : s.taken.harv.pSum = s.harv.pSum := rfl

@[simp] theorem GridSt.taken_pPrev : s.taken.harv.pPrev = s.harv.pPrev := rfl

@[simp] theorem GridSt.taken_ride : s.taken.ride = s.ride := rfl

@[simp] theorem GridSt.taken_isl : s.taken.isl = s.isl := rfl

@[simp] theorem GridSt.taken_loop : s.taken.loop = s.loop := rfl

@[simp] theorem GridSt.taken_fade : s.taken.fade = s.fade := rfl

end taken

theorem Dev.ctl_rideDecision {d : Dev} {g ch : Nat} {cy : GCycle} (f : GCtx → GridSt → GridSt) (h : d.deciding g ch false cy)
    (hchop : (d.gctx g cy).chopperOnly = false) : (d.rideDecision g f).ctl ch g = (f (d.gctx g cy) (d.ctl ch g)).taken := by
  rw [Dev.rideDecision, Dev.ctl_decision _ h, hchop]
  rfl

end Sys2Proof.Machine
end

section
/-! PROOF. Ride-through (R145, R146, R148, R152, R153): entry, the trips and the return. -/

namespace Sys2Proof.Machine

section ride
variable {c : GCtx} {s : GridSt}

/-! Entry (R145 to R148) -/

/-- Neither entry condition is evaluated in DC_RIDE (R145), so the one ride-through an entry is due in is AC_RIDE. -/
theorem isRide_of_entryDue (h : entryDue c s = true) : isRide s.m.mode = (s.m.mode == .acRide) := by
  simp only [entryDue, acMet, dcMet, Bool.and_eq_true, Bool.or_eq_true] at h
  obtain ⟨-, ⟨⟨hmode, -⟩, -⟩ | ⟨⟨hmode, -⟩, -⟩⟩ := h
  all_goals cases hm : s.m.mode <;> simp [hm, acWatched, dcWatched, isRide] at hmode ⊢

theorem isRide_entered (b : Bool) : isRide (if b then .dcRide else .acRide) = true := by
  cases b <;> rfl

/-- An entry that is due, enabled and within the repeat limit is a transition to its ride-through. -/
theorem rideEntry_goes {t : Mode} (ht : t = if dcMet c s then .dcRide else .acRide) (hdue : entryDue c s = true)
    (hauto : autoEnabled c s.m.mode t = true) (hlimit : (recentEntries c s).length < c.cv.recov.rideRepeat) :
    ∃ s' : GridSt, s'.m = s.m ∧ (rideEntry c s).m = (s'.autoGoto c.inp.k t 1).m := by
  subst ht
  have hdue' : ¬ entryDue c s = false := by simp [hdue]
  have hauto' : ¬ autoEnabled c (useRuns c s).m.mode (if dcMet c s then .dcRide else .acRide) = false := by
    simp [show (useRuns c s).m = s.m from rfl, hauto]
  have hlimit' : ¬ c.cv.recov.rideRepeat ≤ (recentEntries c (useRuns c s)).length := Nat.not_le.mpr hlimit
  rw [rideEntry, if_neg hdue']
  dsimp only
  rw [if_neg hauto', if_neg hlimit']
  refine ⟨_, ?_, rfl⟩
  dsimp only
  split <;> rfl

theorem rideEntry_enters {t : Mode} (ht : t = if dcMet c s then .dcRide else .acRide) (hdue : entryDue c s = true)
    (hauto : autoEnabled c s.m.mode t = true) (hlimit : (recentEntries c s).length < c.cv.recov.rideRepeat) :
    (rideEntry c s).m.mode = t ∧ (rideEntry c s).m.cause = 1 ∧ (rideEntry c s).m.prev = s.m.mode ∧
      (rideEntry c s).m.ret = if s.m.mode == .acRide then s.m.ret else s.m.mode := by
  obtain ⟨s', hm, hgoes⟩ := rideEntry_goes ht hdue hauto hlimit
  have hride : isRide t = true := ht ▸ isRide_entered _
  rw [hgoes, GridSt.autoGoto_mode, GridSt.autoGoto_cause, GridSt.autoGoto_prev, GridSt.autoGoto_ret, hm, isRide_of_entryDue hdue, hride]
  refine ⟨rfl, rfl, rfl, ?_⟩
  cases s.m.mode == .acRide <;> rfl

/-! Trips (R152) -/

theorem rideTrip_blocks (s : GridSt) : (rideTrip c s).m.mode = .blocked ∧ (rideTrip c s).m.cause = 5 ∧ (rideTrip c s).ride = s.ride := by
  simp [rideTrip]

section
variable (hfree : s.m.auto = false)
include hfree

theorem rideCurveTrip_trips {n : Nat} (h : curveTripped c s = some n) :
    (rideCurveTrip c s).m.mode = .blocked ∧ (rideCurveTrip c s).m.cause = 5 ∧ (rideCurveTrip c s).ride.tripCurve = n := by
  have htrip : rideCurveTrip c s = rideTrip c { s with ride := { s.ride with tripCurve := n } } := by
    simp [rideCurveTrip, hfree, h]
  obtain ⟨hmode, hcause, hkeep⟩ := rideTrip_blocks (c := c) { s with ride := { s.ride with tripCurve := n } }
  rw [htrip]
  exact ⟨hmode, hcause, congrArg RideSt.tripCurve hkeep⟩

theorem rideTmax_trips (h : tmaxReached c s = true) :
    (rideTmax c s).m.mode = .blocked ∧ (rideTmax c s).m.cause = 5 ∧ (rideTmax c s).ride.tripCurve = 4 := by
  have htrip : rideTmax c s = rideTrip c { s with ride := { s.ride with tripCurve := 4 } } := by
    simp [rideTmax, hfree, h]
  obtain ⟨hmode, hcause, hkeep⟩ := rideTrip_blocks (c := c) { s with ride := { s.ride with tripCurve := 4 } }
  rw [htrip]
  exact ⟨hmode, hcause, congrArg RideSt.tripCurve hkeep⟩

/-! The return (R153, R154) -/

theorem rideExit_returns (hchop : c.chopperOnly = false) (hcurve : curveTripped c s = none) (htmax : tmaxReached c s = false)
    (hmode : s.m.mode = .acRide ∨ s.m.mode = .dcRide) (hrun : c.cv.ride.exitN ≤ s.ride.exitRun)
    (hauto : autoEnabled c s.m.mode s.m.ret = true) :
    (rideExit c s).m.mode = s.m.ret ∧ (rideExit c s).m.cause = 2 ∧ (rideExit c s).loop.recovP = true := by
  have hdue : ((s.m.mode == .acRide || s.m.mode == .dcRide) && decide (c.cv.ride.exitN ≤ s.ride.exitRun)) = true := by
    simp [hmode, hrun]
  rw [rideExit, if_neg (by simp [hfree, hcurve, htmax, hchop]), if_pos hdue, if_pos hauto]
  dsimp only
  rw [GridSt.autoGoto_mode, GridSt.autoGoto_cause]
  split <;> exact ⟨rfl, rfl, rfl⟩

end
end ride

/-- Settles O29: each command is one decision, taken because nothing earlier in the cycle was; entry and return are transitions with the
mode left kept, both trips go to BLOCKED. -/
theorem rideThrough : Obligations.RideThrough := by
  rintro s dt _ g ch cy rfl hl h hchop hfree
  refine ⟨fun t ht hdue hauto hlimit => ⟨_, exec_live hl rfl rfl, ?_⟩, fun n hn => ⟨_, exec_live hl rfl rfl, ?_⟩,
    fun htmax => ⟨_, exec_live hl rfl rfl, ?_⟩, fun hcurve htmax hmode hrun hauto => ⟨_, exec_live hl rfl rfl, ?_⟩⟩
  · rw [rideEntryCmd, Dev.ctl_rideDecision _ h hchop, GridSt.taken_mode, GridSt.taken_cause, GridSt.taken_prev, GridSt.taken_ret]
    exact rideEntry_enters ht hdue hauto hlimit
  · rw [rideCurveTripCmd, Dev.ctl_rideDecision _ h hchop, GridSt.taken_mode, GridSt.taken_cause, GridSt.taken_ride]
    exact rideCurveTrip_trips hfree hn
  · rw [rideTmaxCmd, Dev.ctl_rideDecision _ h hchop, GridSt.taken_mode, GridSt.taken_cause, GridSt.taken_ride]
    exact rideTmax_trips hfree htmax
  · rw [rideExitCmd, Dev.ctl_rideDecision _ h hchop, GridSt.taken_mode, GridSt.taken_cause, GridSt.taken_loop]
    exact rideExit_returns hfree hchop hcurve htmax hmode hrun hauto

end Sys2Proof.Machine
end

section
/-! PROOF. The angle seat and islanding (R155, R159, R160), and the modes, fades and harvest scans that end by themselves (R104, R105,
R109, R162, R164). -/

namespace Sys2Proof.Machine

section decisions
variable {c : GCtx} {s : GridSt}

/-! The angle seat (R155) -/

@[simp] theorem track_seatDue (c : GCtx) (s : GridSt) : (track c s).sync.seatDue = s.sync.seatDue := rfl

@[simp] theorem track_lastSeat (c : GCtx) (s : GridSt) : (track c s).sync.lastSeat = s.sync.lastSeat := rfl

/-- Of the tracking state, islanding detection only clears how far seats have gone since it last ran. -/
theorem islWatch_sync (c : GCtx) (s : GridSt) : (islWatch c s).sync = s.sync ∨ (islWatch c s).sync = { s.sync with seatSince := 0 } := by
  rw [islWatch]
  split
  · exact .inl rfl
  · right
    dsimp only
    split
    · rfl
    · split <;> rfl

@[simp] theorem islWatch_seatDue (c : GCtx) (s : GridSt) : (islWatch c s).sync.seatDue = s.sync.seatDue := by
  rcases islWatch_sync c s with h | h <;> rw [h]

@[simp] theorem islWatch_lastSeat (c : GCtx) (s : GridSt) : (islWatch c s).sync.lastSeat = s.sync.lastSeat := by
  rcases islWatch_sync c s with h | h <;> rw [h]

theorem angleSeat_seats (hdue : s.sync.seatDue = true) :
    (angleSeat c s).sync.seatDue = false ∧ (angleSeat c s).sync.lastSeat = s.sync.eFast := by
  rw [angleSeat, if_neg (by simp [hdue])]
  extract_lets y back fwd stepped seated tracked trips ride marked ysTrip ysStay
  have hseated : seated.seatDue = false ∧ seated.lastSeat = s.sync.eFast := by
    unfold seated
    split <;> exact ⟨rfl, rfl⟩
  have htracked : tracked.sync.seatDue = false ∧ tracked.sync.lastSeat = s.sync.eFast := by
    simpa [tracked] using hseated
  have hmarked : marked.sync.seatDue = false ∧ marked.sync.lastSeat = s.sync.eFast := by
    unfold marked
    split <;> exact htracked
  split
  · rw [rideTrip, GridSt.autoGoto_seatDue, GridSt.autoGoto_lastSeat]
    exact hmarked
  · exact htracked

/-! Islanding (R159, R160) -/

section islanding
variable (hfree : s.m.auto = false) (hdue : s.isl.due = true) (hentry : entryDue c s = false) (hseat : s.sync.seatDue = false)
  (hmode : s.m.mode = .follow ∨ s.m.mode = .harvest)
include hfree hdue hentry hseat hmode

/-- Nothing holds the decision back. -/
theorem islandingDetected_acts :
    ¬ (s.m.auto || !s.isl.due || entryDue c s || s.sync.seatDue || !(s.m.mode == .follow || s.m.mode == .harvest)) = true := by
  have hmode' : (s.m.mode == .follow || s.m.mode == .harvest) = true := by simpa using hmode
  simp [hfree, hdue, hentry, hseat, hmode']

theorem islandingDetected_due : (islandingDetected c s).isl.due = false := by
  rw [islandingDetected, if_neg (islandingDetected_acts hfree hdue hentry hseat hmode)]
  dsimp only
  split
  · rw [GridSt.autoGoto_isl]
  · split
    · rw [GridSt.autoGoto_isl]
    · rfl

theorem islandingDetected_trips (hchoice : c.cv.isl.action = 0 ∨ autoEnabled c s.m.mode .form = false)
    (htrip : autoEnabled c s.m.mode .blocked = true) :
    (islandingDetected c s).m.mode = .blocked ∧ (islandingDetected c s).m.cause = 4 ∧ (islandingDetected c s).isl.action = 1 := by
  rw [islandingDetected, if_neg (islandingDetected_acts hfree hdue hentry hseat hmode)]
  dsimp only
  rw [if_pos (hchoice.imp (⟨·, htrip⟩) (⟨·, htrip⟩))]
  simp

theorem islandingDetected_transfers (hchoice : c.cv.isl.action ≠ 0 ∨ autoEnabled c s.m.mode .blocked = false)
    (hform : autoEnabled c s.m.mode .form = true) :
    (islandingDetected c s).m.mode = .form ∧ (islandingDetected c s).m.cause = 3 ∧ (islandingDetected c s).isl.action = 2 := by
  have hnotrip : ¬ ((c.cv.isl.action = 0 ∧ autoEnabled c s.m.mode .blocked = true) ∨
      (autoEnabled c s.m.mode .form = false ∧ autoEnabled c s.m.mode .blocked = true)) := by
    rcases hchoice with h | h <;> simp [h, hform]
  rw [islandingDetected, if_neg (islandingDetected_acts hfree hdue hentry hseat hmode)]
  dsimp only
  rw [if_neg hnotrip, if_pos hform]
  simp

theorem islandingDetected_stays (htrip : autoEnabled c s.m.mode .blocked = false) (hform : autoEnabled c s.m.mode .form = false) :
    (islandingDetected c s).m.mode = s.m.mode ∧ (islandingDetected c s).isl.action = 3 := by
  rw [islandingDetected, if_neg (islandingDetected_acts hfree hdue hentry hseat hmode)]
  simp [htrip, hform]

end islanding

section pulse
variable (hdue : s.isl.zDue = true)
include hdue

theorem islandingPulse_judges {z : Pu} (hz : s.isl.zNext = some z) : islandingPulse c s =
    { s with isl := { s.isl with zDue := false, z := z, conf := if c.cv.isl.zTh < z then s.isl.conf + 1 else 0 } } := by
  simp only [islandingPulse, hdue, hz, if_true]

theorem islandingPulse_breaks (hz : s.isl.zNext = none) :
    islandingPulse c s = { s with isl := { s.isl with zDue := false, conf := 0 } } := by
  simp only [islandingPulse, hdue, hz, if_true]

theorem islandingPulse_zDue : (islandingPulse c s).isl.zDue = false := by
  cases hz : s.isl.zNext with
  | none => rw [islandingPulse_breaks hdue hz]
  | some z => rw [islandingPulse_judges hdue hz]

end pulse

/-! The modes that time themselves, and the fade (R104, R105, R109) -/

theorem dischargeTimeout_blocks (hmode : s.m.mode = .discharge) (hfree : s.m.auto = false)
    (htime : 500000000 * c.md.disTimeout ≤ (c.inp.k - s.m.entryK) * c.l) :
    (dischargeTimeout c s).m.mode = .blocked ∧ (dischargeTimeout c s).m.cause = 7 := by
  rw [dischargeTimeout, if_pos ⟨hmode, hfree, htime⟩]
  exact ⟨GridSt.autoGoto_mode .., GridSt.autoGoto_cause ..⟩

theorem lineTestHoldEnd_blocks (hmode : s.m.mode = .lineTest) (hfree : s.m.auto = false) (hheld : 0 < s.m.ltHeld)
    (htime : msTicks c.md.ltHold ≤ s.m.ltHeld * c.l) :
    (lineTestHoldEnd c s).m.mode = .blocked ∧ (lineTestHoldEnd c s).m.cause = 8 ∧ (lineTestHoldEnd c s).m.ltOutcome = 1 := by
  rw [lineTestHoldEnd, if_pos ⟨hmode, hfree, htime, hheld⟩]
  simp

theorem fadeEnd_clears (hf : s.fade.f ≠ 0) (hleft : s.fade.left = 0) (hk : s.fade.f ≤ s.fade.k) : (fadeEnd s).fade.f = 0 := by
  rw [fadeEnd, if_pos ⟨hf, hleft, hk⟩]

/-! Harvest (R162, R164) -/

theorem harvestTrackStep_takes (hmode : s.m.mode = .harvest) (hgroup : c.cv.harv.perBrick = false) (hrun : s.harv.frozen = false)
    (hdiv : 0 < c.cv.harv.trkDiv) (hfull : c.cv.harv.trkDiv ≤ s.harv.pSum.length) :
    (harvestTrackStep c s).harv.pSum = [] ∧ (harvestTrackStep c s).harv.pPrev = meanPower s.harv.pSum := by
  have hacts : ¬ (s.m.mode ≠ .harvest ∨ c.cv.harv.perBrick = true ∨ s.harv.frozen = true ∨ s.harv.pSum.length < c.cv.harv.trkDiv ∨
      c.cv.harv.trkDiv = 0) := by
    simp [hmode, hgroup, hrun, hfull, Nat.ne_of_gt hdiv]
  rw [harvestTrackStep, if_neg hacts]
  dsimp only
  split <;> split <;> exact ⟨rfl, rfl⟩

theorem startScan_starts (hok : scanRefusal s = 0) (hgroup : c.cv.harv.perBrick = false) : (startScan c s).harv.scanning = true ∧
    (startScan c s).harv.vTgt = c.cv.harv.scanHi ∧ (startScan c s).harv.sincescan = 0 := by
  simp [startScan, hok, hgroup]

theorem harvestScanPeriod_starts (hmode : s.m.mode = .harvest) (hgroup : c.cv.harv.perBrick = false) (hok : scanRefusal s = 0)
    (hperiod : c.cv.harv.scanPeriod ≠ 0) (htime : 60 * 500000000 * c.cv.harv.scanPeriod ≤ s.harv.sincescan * c.ld) :
    (harvestScanPeriod c s).harv.scanning = true ∧ (harvestScanPeriod c s).harv.vTgt = c.cv.harv.scanHi ∧
      (harvestScanPeriod c s).harv.sincescan = 0 := by
  rw [harvestScanPeriod, if_pos ⟨hmode, hperiod, htime⟩]
  exact startScan_starts hok hgroup

theorem harvestScanEnd_ends (hscan : s.harv.scanning = true) (hlow : s.harv.vTgt ≤ c.cv.harv.scanLo) :
    (harvestScanEnd c s).harv.scanning = false ∧ (harvestScanEnd c s).harv.vTgt = s.harv.bestV := by
  rw [harvestScanEnd, if_pos ⟨hscan, hlow⟩]
  exact ⟨rfl, rfl⟩

end decisions

/-- The command of the fade's end sets a register bit besides its decision. -/
theorem Dev.ctl_fadeEndCmd {d : Dev} {g ch : Nat} {cy : GCycle} (h : d.deciding g ch true cy) :
    (fadeEndCmd g d).ctl ch g = (fadeEnd (d.ctl ch g)).taken := by
  have hsame : (fadeEndCmd g d).chans = (d.decision g true fun _ s => fadeEnd s).chans := by
    rw [fadeEndCmd]
    split <;> rfl
  rw [Dev.ctl, Dev.cg_congr (Dev.chan_congr hsame ch)]
  exact Dev.ctl_decision _ h

/-- Settles O30: each command is one decision, whose condition the statement gives. The seat stays over through the tracking and a trip
behind it, and what islanding does is up to its action and to the two transitions that MODES may disable. -/
theorem seatIslandingAndTimedEnds : Obligations.SeatIslandingAndTimedEnds := by
  constructor
  · rintro s dt _ g ch cy rfl hl
    refine ⟨fun h hchop hdue => ⟨_, exec_live hl rfl rfl, ?_⟩,
      fun h hchop hfree hdue hentry hseat hmode => ⟨_, exec_live hl rfl rfl, ?_⟩,
      fun h hdue => ⟨_, exec_live hl rfl rfl, ?_⟩⟩
    · rw [angleSeatCmd, Dev.ctl_rideDecision _ h hchop, GridSt.taken_sync]
      exact angleSeat_seats hdue
    · rw [islandingDetectedCmd, Dev.ctl_rideDecision _ h hchop, GridSt.taken_mode, GridSt.taken_cause, GridSt.taken_isl]
      exact ⟨islandingDetected_due hfree hdue hentry hseat hmode, islandingDetected_trips hfree hdue hentry hseat hmode,
        islandingDetected_transfers hfree hdue hentry hseat hmode, islandingDetected_stays hfree hdue hentry hseat hmode⟩
    · rw [islandingPulseCmd, Dev.ctl_decision _ h, GridSt.taken_isl]
      refine ⟨islandingPulse_zDue hdue, fun z hz => ?_, fun hz => ?_⟩
      · rw [islandingPulse_judges hdue hz]
        exact ⟨rfl, rfl⟩
      · rw [islandingPulse_breaks hdue hz]
        exact ⟨rfl, rfl⟩
  · rintro s dt _ g ch cy rfl hl
    refine ⟨fun h hfree => ⟨fun hmode htime => ⟨_, exec_live hl rfl rfl, ?_⟩,
      fun hmode hheld htime => ⟨_, exec_live hl rfl rfl, ?_⟩⟩,
      fun h => ⟨fun hf hleft hk => ⟨_, exec_live hl rfl rfl, ?_⟩,
        fun hmode hgroup hrun hdiv hfull => ⟨_, exec_live hl rfl rfl, ?_⟩,
        fun hmode hgroup hok hperiod htime => ⟨_, exec_live hl rfl rfl, ?_⟩,
        fun hscan hlow => ⟨_, exec_live hl rfl rfl, ?_⟩⟩⟩
    · rw [dischargeTimeoutCmd, Dev.ctl_decision _ h, GridSt.taken_mode, GridSt.taken_cause]
      exact dischargeTimeout_blocks hmode hfree htime
    · rw [lineTestHoldEndCmd, Dev.ctl_decision _ h, GridSt.taken_mode, GridSt.taken_cause, GridSt.taken_ltOutcome]
      exact lineTestHoldEnd_blocks hmode hfree hheld htime
    · rw [Dev.ctl_fadeEndCmd h, GridSt.taken_fade]
      exact fadeEnd_clears hf hleft hk
    · rw [harvestTrackStepCmd, Dev.ctl_decision _ h, GridSt.taken_pSum, GridSt.taken_pPrev]
      exact harvestTrackStep_takes hmode hgroup hrun hdiv hfull
    · rw [harvestScanPeriodCmd, Dev.ctl_decision _ h, GridSt.taken_scanning, GridSt.taken_vTgt, GridSt.taken_sincescan]
      exact harvestScanPeriod_starts hmode hgroup hok hperiod htime
    · rw [harvestScanEndCmd, Dev.ctl_decision _ h, GridSt.taken_scanning, GridSt.taken_vTgt]
      exact harvestScanEnd_ends hscan hlow

end Sys2Proof.Machine
end

section
/-! PROOF. Faults of arms and bricks (R170, R179, R193, R195, R198): what a command that goes through the computing channels leaves in
the arm or the brick of one of them. -/

namespace Sys2Proof.Machine

theorem tabGet_tabSet_self {α : Type} (t : List (Nat × α)) (n : Nat) (y : α) : tabGet (tabSet t n y) n = some y :=
  tabGet_tabIns_self (tabGet_tabErase_self t n) y

/-! Turns that the channels take one after the other -/

/-- A turn of a channel stays within a scope and reaches no other channel. -/
structure ChannelTurn (S : Scope) (turn : Nat → Dev → Dev) : Prop where
  keeps : ∀ c d, Dev.keeps S d (turn c d)
  other : ∀ {b c}, b ≠ c → ∀ d, (turn b d).chan c = d.chan c
  length : ∀ c d, (turn c d).chans.length = d.chans.length

section turns
variable {S : Scope} {turn : Nat → Dev → Dev} (ht : ChannelTurn S turn)
include ht

theorem ChannelTurn.chan_each_not_mem {c : Nat} (l : List Nat) (hc : c ∉ l) (d : Dev) : (d.each l turn).chan c = d.chan c := by
  induction l generalizing d with
  | nil => rfl
  | cons b l ih =>
    rw [Dev.each_cons, ih (List.not_mem_of_not_mem_cons hc), ht.other (List.ne_of_not_mem_cons hc).symm]

/-- What the turns leave in a channel is what its own turn leaves there, at which the channel is still as before. -/
theorem ChannelTurn.chan_each {c : Nat} (l : List Nat) (hl : l.Nodup) (hc : c ∈ l) (d : Dev) :
    ∃ e : Dev, Dev.keeps S d e ∧ e.chan c = d.chan c ∧ e.chans.length = d.chans.length ∧ (d.each l turn).chan c = (turn c e).chan c := by
  induction l generalizing d with
  | nil => exact absurd hc List.not_mem_nil
  | cons b l ih =>
    obtain ⟨hb, hl⟩ := List.nodup_cons.mp hl
    rw [Dev.each_cons]
    by_cases h : b = c
    · subst h
      exact ⟨d, Dev.keeps_refl .., rfl, rfl, ht.chan_each_not_mem l hb _⟩
    · obtain ⟨e, hkeeps, hchan, hlen, hleft⟩ := ih hl (List.mem_of_ne_of_mem (Ne.symm h) hc) (turn b d)
      exact ⟨e, Dev.keeps_trans hkeeps (ht.keeps b d), hchan.trans (ht.other h d), hlen.trans (ht.length b d), hleft⟩

theorem ChannelTurn.chan_each_filter {p : Nat → Bool} {c : Nat} (hc : c < 3) (hp : p c = true) (d : Dev) :
    ∃ e : Dev, Dev.keeps S d e ∧ e.chan c = d.chan c ∧ e.chans.length = d.chans.length ∧
      (d.each ((List.range 3).filter p) turn).chan c = (turn c e).chan c :=
  ht.chan_each _ (List.nodup_range.filter p) (List.mem_filter.mpr ⟨List.mem_range.mpr hc, hp⟩) d

end turns

/-! A decision on one arm (R170, R179) -/

section arms
variable {d : Dev} {t g ch : Nat} {cy : GCycle} {a : ArmSt} {f : GCtx → ArmSt → ArmSt × List Nat}

/-- The group of a decided arm: the arm as decided, and what it raises. -/
def ChanGrp.decided (t : Nat) (r : ArmSt × List Nat) (x : ChanGrp) : ChanGrp :=
  { x with arms := tabSet x.arms t r.1, ctl := { x.ctl with m := { x.ctl.m with raises := x.ctl.m.raises ++ r.2 } } }

/-- What Dev.armDecision does in channel ch, where group g has the tile. -/
def Dev.armDecisionIn (t g : Nat) (f : GCtx → ArmSt → ArmSt × List Nat) (ch : Nat) (d : Dev) : Dev :=
  match ((d.cg ch g).cycles.filter (·.armDone)).getLast?, tabGet (d.cg ch g).arms t with
  | some cy, some a => (d.modCg ch g (ChanGrp.decided t (f (d.gctx g cy) a))).afterPart ch g (d.cg ch g).ctl
  | _, _ => d

theorem Dev.armDecision_eq_each (h : d.tileGroup t = some g) :
    d.armDecision t f = d.each ((List.range 3).filter fun ch => d.computes ch t) (Dev.armDecisionIn t g f) := by
  rw [Dev.armDecision, h]
  rfl

theorem Dev.armDecisionIn_cases (t g ch : Nat) (f : GCtx → ArmSt → ArmSt × List Nat) (d : Dev) : d.armDecisionIn t g f ch = d ∨
    ∃ u, d.armDecisionIn t g f ch = (d.modCg ch g u).afterPart ch g (d.cg ch g).ctl := by
  unfold Dev.armDecisionIn
  split
  · exact .inr ⟨_, rfl⟩
  · exact .inl rfl

theorem Dev.armDecisionIn_turn (t g : Nat) (f : GCtx → ArmSt → ArmSt × List Nat) :
    ChannelTurn decisionScope (Dev.armDecisionIn t g f) where
  keeps c d := by
    rcases d.armDecisionIn_cases t g c f with h | ⟨u, h⟩
    · rw [h]; exact Dev.keeps_refl ..
    · rw [h]; exact Dev.keeps_step (by decide +kernel) (Dev.afterPart_keeps ..) (Dev.keeps_mono (by decide +kernel) (Dev.modCg_keeps ..))
  other {b c} hc d := by
    rcases d.armDecisionIn_cases t g b f with h | ⟨u, h⟩
    · rw [h]
    · rw [h, Dev.chan_congr Dev.afterPart_chans, Dev.modCg, Dev.chan_modChan_ne hc, Dev.modCg, Dev.chan_modChan_ne hc]
  length c d := by
    rcases d.armDecisionIn_cases t g c f with h | ⟨u, h⟩
    · rw [h]
    · rw [h, Dev.afterPart_chans, Dev.modCg, Dev.modChan_length, Dev.modCg, Dev.modChan_length]

/-- The hub takes nothing from the arms. -/
theorem Dev.arms_afterPart {old : GridSt} (hc : ch < d.chans.length) (hg : g < (d.chan ch).grps.length) :
    ((d.afterPart ch g old).cg ch g).arms = (d.cg ch g).arms := by
  rw [Dev.cg_congr (Dev.chan_congr Dev.afterPart_chans ch), Dev.cg_modCg_self _ hc hg]

/-- In a turn with a newest cycle and the arm, the arm is as decided. -/
theorem Dev.tabGet_armDecisionIn (hc : ch < d.chans.length) (hg : g < (d.chan ch).grps.length)
    (hcy : ((d.cg ch g).cycles.filter (·.armDone)).getLast? = some cy) (ha : tabGet (d.cg ch g).arms t = some a) :
    tabGet ((d.armDecisionIn t g f ch).cg ch g).arms t = some (f (d.gctx g cy) a).1 := by
  simp only [Dev.armDecisionIn, hcy, ha]
  rw [Dev.arms_afterPart (by rwa [Dev.modCg, Dev.modChan_length]) (by rwa [Dev.grps_length_modCg _ hc]), Dev.cg_modCg_self _ hc hg]
  exact tabGet_tabSet_self ..

/-- A decision on an arm acts on it in every channel that computes its tile. -/
theorem Dev.tabGet_armDecision (f : GCtx → ArmSt → ArmSt × List Nat) (ht : d.tileGroup t = some g) (hc : ch < 3) (hcomp : d.computes ch t = true)
    (hlen : ch < d.chans.length) (hg : g < (d.chan ch).grps.length) (hcy : ((d.cg ch g).cycles.filter (·.armDone)).getLast? = some cy)
    (ha : tabGet (d.cg ch g).arms t = some a) : tabGet ((d.armDecision t f).cg ch g).arms t = some (f (d.gctx g cy) a).1 := by
  obtain ⟨e, hkeeps, hchan, hlen', hleft⟩ :=
    (Dev.armDecisionIn_turn t g f).chan_each_filter (p := fun ch => d.computes ch t) hc hcomp d
  have hcg : e.cg ch g = d.cg ch g := Dev.cg_congr hchan g
  rw [Dev.armDecision_eq_each ht, Dev.cg_congr hleft, ← Dev.gctx_of_keeps hkeeps]
  exact Dev.tabGet_armDecisionIn (hlen' ▸ hlen) (hchan ▸ hg) (hcg ▸ hcy) (hcg ▸ ha)

theorem armEnergyFault_marks {n : Nat} (hrun : 0 < a.vbarRun) (hn : n ≤ a.vbarRun) (hheld : a.energyHeld = false) :
    (armEnergyFault n t a).1 = { a with energyHeld := true } := by
  rw [armEnergyFault, if_pos ⟨hrun, hn, hheld⟩]

theorem overmodulationFault_marks {n : Nat} (hn : n ≠ 0) (hnew : a.ovmRun ≠ a.ovmMark) (hrun : 0 < a.ovmRun) (hmult : a.ovmRun % n = 0) :
    (overmodulationFault n t a).1 = { a with ovmMark := a.ovmRun } := by
  rw [overmodulationFault, if_pos ⟨hn, hnew, hrun, hmult⟩]

end arms

/-! The parking of one brick (R193, R195, R196) -/

section bricks
variable {d : Dev} {b t i g ch : Nat} {k : BrickSt}

/-- A tile of which brick i, if it is there, is parked with E e. -/
def ChanTile.parked (e i : Nat) (x : ChanTile) : ChanTile :=
  match tabGet x.rank.bricks i with
  | some k => { x with rank := { x.rank with bricks := tabSet x.rank.bricks i (parkBrick e k) } }
  | none => x

theorem ChanTile.tabGet_parked {e : Nat} {x : ChanTile} (h : tabGet x.rank.bricks i = some k) :
    tabGet (x.parked e i).rank.bricks i = some (parkBrick e k) := by
  simp only [ChanTile.parked, h]
  exact tabGet_tabSet_self ..

/-- Why brick i of tile t is to be parked, as channel ch has it; 0 if it is not. -/
def Dev.parkWhy (d : Dev) (t i ch : Nat) : Nat := ((tabGet (d.ctile ch t).rank.bricks i).map (·.parkDue)).getD 0

theorem Dev.ctile_congr {d e : Dev} {c : Nat} (h : e.chan c = d.chan c) (t : Nat) : e.ctile c t = d.ctile c t :=
  congrArg (fun x : Chan => nth x.tiles t .init) h

theorem Dev.ctile_modCt_self (u : ChanTile → ChanTile) (hc : ch < d.chans.length) (ht : t < (d.chan ch).tiles.length) :
    (d.modCt ch t u).ctile ch t = u (d.ctile ch t) := by
  rw [Dev.ctile, Dev.modCt, Dev.chan_modChan_self hc]
  exact nth_setNth_self ht ..

theorem Dev.modCt_turn (t : Nat) (u : ChanTile → ChanTile) : ChannelTurn ⟨[.chans], [], []⟩ fun ch d => d.modCt ch t u where
  keeps _ _ := Dev.modCt_keeps ..
  other hc _ := Dev.chan_modChan_ne hc ..
  length _ _ := Dev.modChan_length ..

/-- E of the present cycle of a group. -/
def Dev.cycleE (d : Dev) (g : Nat) : Nat := (d.grp g).openTick + quarterUs (d.grp g).cfg.de + halfUs (d.grp g).cfg.lead

section parkNow
variable {why : List Nat} {f : Nat → Nat → Dev → Dev} (hi : d.brickIndex b = some (t, i)) (hg : d.groupOf (b / 128) = some g)
  (hf : ∀ t n e, (f t n e).chans = e.chans)
include hi hg hf

/-- In the channels a parking is the brick parked wherever it is due for one of the reasons; the count and the sources lie elsewhere. -/
theorem Dev.parkNow_chans : (d.parkNow b why f).chans =
    (d.each ((List.range 3).filter fun ch => d.computes ch t && why.contains (d.parkWhy t i ch)) fun ch e =>
      e.modCt ch t (ChanTile.parked (d.cycleE g) i)).chans := by
  simp only [Dev.parkNow, hi, hg]
  split
  · exact hf ..
  · rfl

theorem Dev.tabGet_parkNow (hk : d.brickOf ch t i k) (hwhy : k.parkDue ∈ why) :
    tabGet ((d.parkNow b why f).ctile ch t).rank.bricks i = some (parkBrick (d.cycleE g) k) := by
  obtain ⟨hc, ht, hlen, htiles, hcomp, hk⟩ := hk
  have hdue : (d.computes ch t && why.contains (d.parkWhy t i ch)) = true := by simp [Dev.parkWhy, hcomp, hk, hwhy]
  obtain ⟨e, -, hchan, hlen', hleft⟩ := (Dev.modCt_turn t (ChanTile.parked (d.cycleE g) i)).chan_each_filter
    (p := fun ch => d.computes ch t && why.contains (d.parkWhy t i ch)) hc hdue d
  have hself : (e.modCt ch t (ChanTile.parked (d.cycleE g) i)).ctile ch t = (d.ctile ch t).parked (d.cycleE g) i := by
    rw [Dev.ctile_modCt_self _ (by omega) (by rw [hchan]; omega), Dev.ctile_congr hchan]
  rw [Dev.ctile_congr ((Dev.chan_congr (Dev.parkNow_chans hi hg hf) ch).trans hleft), hself]
  exact ChanTile.tabGet_parked hk

end parkNow

/-- BRICK_ABSENT parks for the reasons 1 and 2. -/
theorem tabGet_brickAbsent (hi : d.brickIndex b = some (t, i)) (hg : d.groupOf (b / 128) = some g) (hk : d.brickOf ch t i k)
    (hdue : k.parkDue = 1 ∨ k.parkDue = 2) :
    tabGet ((brickAbsent b d).ctile ch t).rank.bricks i = some (parkBrick (d.cycleE g) k) := by
  refine Dev.tabGet_parkNow hi hg (fun t n e => ?_) hk (by simpa using hdue)
  split <;> rfl

/-- ECHO_PARK parks for the reason 3. -/
theorem tabGet_echoPark (hi : d.brickIndex b = some (t, i)) (hg : d.groupOf (b / 128) = some g) (hk : d.brickOf ch t i k)
    (hdue : k.parkDue = 3) : tabGet ((echoPark b d).ctile ch t).rank.bricks i = some (parkBrick (d.cycleE g) k) :=
  Dev.tabGet_parkNow hi hg (fun _ _ _ => rfl) hk (by simpa using hdue)

theorem admissionFail_handsBack (hi : d.brickIndex b = some (t, i)) (hg : d.groupOf (b / 128) = some g)
    (hover : admissionOver i (d.shownRank t) = true) : admissionFail b d = (d.handBack g t i).orderNow g t := by
  simp only [admissionFail, hi, hg, hover, if_true]

end bricks

/-- Settles O32: each channel that computes the tile has its own turn, in which the arm is as decided or the brick is parked. -/
theorem armsAndBricks : Obligations.ArmsAndBricks := by
  rintro s dt _ rfl hl
  constructor
  · intro t g ch cy a ht hg hc hlen hgrps hcomp hcy ha
    have hdecided (f : GCtx → ArmSt → ArmSt × List Nat) := Dev.tabGet_armDecision f ht hc hcomp (hlen ▸ hc) (hgrps ▸ hg) hcy ha
    refine ⟨fun hrun hn hheld => ⟨_, exec_live hl rfl rfl, ?_⟩, fun hn hnew hrun hmult => ⟨_, exec_live hl rfl rfl, ?_⟩⟩
    · rw [armEnergyFaultCmd, hdecided, armEnergyFault_marks hrun hn hheld]
    · rw [overmodulationFaultCmd, hdecided, overmodulationFault_marks hn hnew hrun hmult]
  · intro b t i g ch k hi hg hk
    exact ⟨fun hdue => ⟨_, exec_live hl rfl rfl, tabGet_brickAbsent hi hg hk hdue⟩,
      fun hdue => ⟨_, exec_live hl rfl rfl, tabGet_echoPark hi hg hk hdue⟩,
      fun hover => exec_live hl rfl (admissionFail_handsBack hi hg hover)⟩

end Sys2Proof.Machine
end

section
/-! PROOF. Tables and lists at the keys a change leaves alone; and what a course knows of its ring (R251, R259, R278), which the change of a
course's state leaves alone. -/

namespace Sys2Proof.Machine

/-! A table at another key -/

theorem tabGet_tabErase_ne {α : Type} {n k : Nat} (h : k ≠ n) (t : List (Nat × α)) : tabGet (tabErase t n) k = tabGet t k := by
  induction t with
  | nil => rfl
  | cons p t ih =>
    by_cases hp : p.1 = n
    · simp [tabErase, tabGet, hp, h.symm, ih]
    · simp [tabErase, tabGet, hp, ih]

theorem tabGet_tabIns_ne {α : Type} {n k : Nat} (h : k ≠ n) (t : List (Nat × α)) (y : α) : tabGet (tabIns t n y) k = tabGet t k := by
  induction t with
  | nil => simp [tabIns, tabGet, h.symm]
  | cons p t ih =>
    by_cases hp : n < p.1
    · simp [tabIns, tabGet, hp, h.symm]
    · simp [tabIns, tabGet, hp, ih]

theorem tabD_tabSet_ne {α : Type} {n k : Nat} (h : k ≠ n) (t : List (Nat × α)) (x y : α) : tabD (tabSet t n y) k x = tabD t k x := by
  rw [tabD, tabSet, tabGet_tabIns_ne h, tabGet_tabErase_ne h, tabD]

/-- What a change of one entry leaves of it, it leaves of every entry. -/
theorem tabD_tabMod_proj {α β : Type} {f : α → α} {g : α → β} (h : ∀ x, g (f x) = g x) (t : List (Nat × α)) (n k : Nat) (x : α) :
    g (tabD (tabMod t n x f) k x) = g (tabD t k x) := by
  by_cases hk : k = n
  · rw [hk, tabMod, tabD_tabSet_self, h]
  · rw [tabMod, tabD_tabSet_ne hk]

theorem Dev.lane_modLane_self (d : Dev) (c e : Nat) (f : LaneSt → LaneSt) : (d.modLane c e f).lane c e = f (d.lane c e) := tabD_tabSet_self ..

theorem Dev.crs_modCrs_self (d : Dev) (c : Nat) (f : CrsSt → CrsSt) : (d.modCrs c f).crs c = f (d.crs c) := tabD_tabSet_self ..

/-! What has arrived over a course -/

/-- What a course has seen of its ring: the transits, the own CYCLE frames that crossed, and the one released (R251, R268). -/
def CrsSt.ring (r : CrsSt) : Option Nat × Option Nat × Bool × Bool × Option (Nat × Nat) := (r.tA, r.tD, r.crossH, r.crossF, r.cycleSent)

/-- What the device keeps of the marks and CYCLE frames that arrived: the marks missed at each end and what each course has seen of its ring. -/
def Dev.arrivals (d : Dev) : (Nat → Nat → Nat) × (Nat → Option Nat × Option Nat × Bool × Bool × Option (Nat × Nat)) :=
  (fun c e => (d.lane c e).markMiss, fun c => (d.crs c).ring)

section arrivals
variable {d e : Dev}

theorem Dev.markMiss_of_arrivals (h : e.arrivals = d.arrivals) (c n : Nat) : (e.lane c n).markMiss = (d.lane c n).markMiss :=
  congrFun (congrFun (congrArg Prod.fst h) c) n

theorem Dev.ring_of_arrivals (h : e.arrivals = d.arrivals) (c : Nat) : (e.crs c).ring = (d.crs c).ring :=
  congrFun (congrArg Prod.snd h) c

theorem Dev.arrivals_congr (h : e.cm = d.cm) : e.arrivals = d.arrivals := by
  simp only [Dev.arrivals, Dev.lane, Dev.crs, h]

variable (d)

@[simp] theorem Dev.arrivals_set (f : Fld) (v i j : Nat) : (d.set f v i j).arrivals = d.arrivals := rfl

@[simp] theorem Dev.arrivals_flag (f : Fld) (b : Bool) (i j : Nat) : (d.flag f b i j).arrivals = d.arrivals := rfl

@[simp] theorem Dev.arrivals_count (f : Fld) (i j : Nat) : (d.count f i j).arrivals = d.arrivals := rfl

@[simp] theorem Dev.arrivals_emit (o : Out) : (d.emit o).arrivals = d.arrivals := rfl

@[simp] theorem Dev.arrivals_raise (n detail : Nat) : (d.raise n detail).arrivals = d.arrivals := rfl

@[simp] theorem Dev.arrivals_modDir (b : Nat) (f : DirSt → DirSt) : (d.modDir b f).arrivals = d.arrivals := rfl

@[simp] theorem Dev.arrivals_putReqs (l : List PtReq) : ({ d with cm := { d.cm with reqs := l } } : Dev).arrivals = d.arrivals := rfl

@[simp] theorem Dev.arrivals_setEntry (c p st : Nat) : (d.setEntry c p st).arrivals = d.arrivals := rfl

@[simp] theorem Dev.arrivals_orderOp (t kind i : Nat) : (d.orderOp t kind i).arrivals = d.arrivals := rfl

theorem Dev.arrivals_modLane (c e : Nat) (f : LaneSt → LaneSt) (h : ∀ l, (f l).markMiss = l.markMiss := by intro; rfl) :
    (d.modLane c e f).arrivals = d.arrivals :=
  Prod.ext (funext fun _ => funext fun _ => tabD_tabMod_proj h ..) rfl

theorem Dev.arrivals_modCrs (c : Nat) (f : CrsSt → CrsSt) (h : ∀ r, (f r).ring = r.ring := by intro; rfl) :
    (d.modCrs c f).arrivals = d.arrivals :=
  Prod.ext rfl (funext fun _ => tabD_tabMod_proj h ..)

theorem Dev.arrivals_foldl {α : Type} {f : Dev → α → Dev} (h : ∀ d x, (f d x).arrivals = d.arrivals) (l : List α) :
    (l.foldl f d).arrivals = d.arrivals := by
  induction l generalizing d with
  | nil => rfl
  | cons x l ih => exact (ih _).trans (h d x)

theorem Dev.arrivals_each {f : Nat → Dev → Dev} (h : ∀ n d, (f n d).arrivals = d.arrivals) (l : List Nat) : (d.each l f).arrivals = d.arrivals :=
  Dev.arrivals_foldl d (fun d n => h n d) l

/-! The transmitters -/

@[simp] theorem Dev.arrivals_goIdle (c e : Nat) : (d.goIdle c e).arrivals = d.arrivals := by
  unfold Dev.goIdle
  dsimp only
  split
  · rfl
  · split
    · exact (Dev.arrivals_emit ..).trans (Dev.arrivals_modLane ..)
    · exact Dev.arrivals_modLane ..

@[simp] theorem Dev.arrivals_started (c e t : Nat) (f : Frame) : (d.started c e t f).arrivals = d.arrivals := by
  unfold Dev.started
  split
  · rfl
  · exact Dev.arrivals_modCrs ..
  · exact Dev.arrivals_modCrs ..
  · rfl

@[simp] theorem Dev.arrivals_beginFrame (c e : Nat) (w : TxWait) (t : Nat) : (d.beginFrame c e w t).arrivals = d.arrivals := by
  unfold Dev.beginFrame
  rw [Dev.arrivals_emit, Dev.arrivals_started]
  exact Dev.arrivals_modLane ..

@[simp] theorem Dev.arrivals_runLane (c e n : Nat) : (d.runLane c e n).arrivals = d.arrivals := by
  induction n generalizing d with
  | zero => exact d.arrivals_goIdle c e
  | succ n ih =>
    unfold Dev.runLane
    dsimp only
    split
    · rw [ih, Dev.arrivals_beginFrame, Dev.arrivals_goIdle]
    · exact d.arrivals_goIdle c e

@[simp] theorem Dev.arrivals_send (c e : Nat) (f : Frame) : (d.send c e f).arrivals = d.arrivals := by
  unfold Dev.send
  split
  · rfl
  · split
    · rfl
    · exact (Dev.arrivals_runLane ..).trans (Dev.arrivals_modLane ..)

/-! Transactions that end -/

@[simp] theorem Dev.arrivals_readValue (num slot v : Nat) : (d.readValue num slot v).arrivals = d.arrivals := by
  unfold Dev.readValue
  dsimp only
  repeat' split
  all_goals rfl

@[simp] theorem Dev.arrivals_holdsLat (q : PtReq) (v : Option Nat) : (d.holdsLat q v).arrivals = d.arrivals := by
  unfold Dev.holdsLat
  repeat' split
  all_goals rfl

@[simp] theorem Dev.arrivals_pointFail (x status addr : Nat) : (d.pointFail x status addr).arrivals = d.arrivals :=
  Dev.arrivals_congr ((Dev.pointFail_keeps ..).1 .cm (by decide))

@[simp] theorem Dev.arrivals_endReq (q : PtReq) (status : Nat) : (d.endReq q status).arrivals = d.arrivals := by
  unfold Dev.endReq
  dsimp only
  repeat' split
  all_goals simp

@[simp] theorem Dev.arrivals_dropReqs (c status : Nat) : (d.dropReqs c status).arrivals = d.arrivals :=
  Dev.arrivals_foldl d (fun d q => d.arrivals_endReq q status) _

/-! A course that changes its state -/

@[simp] theorem Dev.arrivals_failAdmission (c p : Nat) : (d.failAdmission c p).arrivals = d.arrivals := by
  unfold Dev.failAdmission
  dsimp only
  split <;> rfl

@[simp] theorem Dev.arrivals_courseDown (c : Nat) : (d.courseDown c).arrivals = d.arrivals := by
  unfold Dev.courseDown
  refine (Dev.arrivals_each _ (fun p d => ?_) _).trans ((Dev.arrivals_modCrs ..).trans (d.arrivals_dropReqs c 0x13))
  dsimp only
  split
  · split <;> simp
  · rfl

@[simp] theorem Dev.arrivals_startDiscovery (c : Nat) : (d.startDiscovery c).arrivals = d.arrivals := by
  unfold Dev.startDiscovery
  dsimp only
  rw [Dev.arrivals_send]
  refine (Dev.arrivals_each _ (fun n d => ?_) _).trans ((Dev.arrivals_modCrs ..).trans (Dev.arrivals_each _ (fun p d => ?_) _))
  · exact Dev.arrivals_modLane ..
  · split <;> rfl

@[simp] theorem Dev.arrivals_startMeasure (c : Nat) : (d.startMeasure c).arrivals = d.arrivals := Dev.arrivals_modCrs ..

@[simp] theorem Dev.arrivals_updateDeliv (c : Nat) : (d.updateDeliv c).arrivals = d.arrivals :=
  Dev.arrivals_congr ((Dev.updateDeliv_keeps ..).1 .cm (by decide))

@[simp] theorem Dev.arrivals_setCourse (c st : Nat) : (d.setCourse c st).arrivals = d.arrivals := by
  unfold Dev.setCourse
  dsimp only
  have hset : ((d.set F.CM_CRS_STAT_STATE st c).modCrs c fun r => { r with quiet := r.quiet && (st == 0 || st == 1) }).arrivals = d.arrivals :=
    Dev.arrivals_modCrs ..
  simp [apply_ite Dev.arrivals, hset]

/-- A change at the ends of a course, and of its state, takes back nothing of what arrived. -/
@[simp] theorem Dev.arrivals_refreshCourse (c : Nat) : (d.refreshCourse c).arrivals = d.arrivals := by
  unfold Dev.refreshCourse
  simp [apply_ite Dev.arrivals]

end arrivals

end Sys2Proof.Machine
end

section
/-! PROOF. Frames that arrive from a course (R191, R230, R247, R249, R251, R259, R268, R295, R299) and the marks the device sends (R19,
R259). -/

namespace Sys2Proof.Machine

/-! The marks sent -/

/-- The mark of a lane at the present course time. -/
def Dev.mark (d : Dev) (c n : Nat) : Out := .frame c (n == 1) (.timeMark d.ct (n == 1) (d.markSub c))

/-- Whether a lane sends its mark: it sends, and the lane die's check finds nothing (R19). -/
def Dev.sendsMark (d : Dev) (c n : Nat) : Prop := d.sending c n = true ∧ nth d.cm.hubBad (c / 32) false = false

theorem nth_setNth_default {α : Type} {l : List α} {n : Nat} {y : α} (h : nth l n y = y) (m : Nat) : nth (setNth l m y) n y = y := by
  by_cases hm : m = n
  · subst hm
    by_cases hl : m < l.length
    · exact nth_setNth_self hl ..
    · simp [nth, Nat.le_of_not_lt hl]
  · rw [nth_setNth_ne hm, h]

theorem Dev.sending_modLane (d : Dev) (a b : Nat) (f : LaneSt → LaneSt) (c n : Nat)
    (h : ∀ l, ((f l).eidleDue, (f l).wakeEnd) = (l.eidleDue, l.wakeEnd) := by intro; rfl) : (d.modLane a b f).sending c n = d.sending c n := by
  obtain ⟨he, hw⟩ := Prod.mk.inj (tabD_tabMod_proj (g := fun l : LaneSt => (l.eidleDue, l.wakeEnd)) h d.cm.lanes (2 * a + b) (2 * c + n) .init)
  have heidle : ((d.modLane a b f).lane c n).eidleDue = (d.lane c n).eidleDue := he
  have hwake : ((d.modLane a b f).lane c n).wakeEnd = (d.lane c n).wakeEnd := hw
  unfold Dev.sending
  rw [heidle, hwake]
  rfl

section marks
variable {d : Dev} {c n : Nat} (a b : Nat)

theorem Dev.mark_markOne : (d.markOne a b).mark c n = d.mark c n := by
  unfold Dev.markOne
  dsimp only
  repeat' split
  all_goals rfl

/-- No mark takes another back. -/
theorem Dev.out_markOne : d.out ⊆ (d.markOne a b).out := by
  unfold Dev.markOne
  dsimp only
  split
  · exact List.Subset.refl _
  · split
    · exact List.Subset.refl _
    · exact List.subset_append_left ..

/-- Nor keeps it from being sent. -/
theorem Dev.sendsMark_markOne (h : d.sendsMark c n) : (d.markOne a b).sendsMark c n := by
  unfold Dev.markOne
  dsimp only
  split
  · exact h
  · split
    · exact ⟨h.1, nth_setNth_default h.2 _⟩
    · exact ⟨(Dev.sending_modLane ..).trans ((Dev.sending_modLane ..).trans h.1), h.2⟩

variable {a b}

theorem Dev.mark_mem_markOne (h : d.sendsMark c n) : d.mark c n ∈ (d.markOne c n).out := by
  obtain ⟨hsend, hhub⟩ := h
  simp [Dev.markOne, hsend, Dev.hubFails, hhub, Dev.emit, Dev.mark]

/-- The marks of both lanes of a course. -/
def Dev.markBoth (c : Nat) (d : Dev) : Dev := (d.markOne c 0).markOne c 1

theorem Dev.mark_mem_markBoth (hn : n < 2) (h : d.sendsMark c n) : d.mark c n ∈ (d.markBoth c).out := by
  obtain rfl | rfl : n = 0 ∨ n = 1 := by omega
  · exact Dev.out_markOne _ _ (Dev.mark_mem_markOne h)
  · rw [← Dev.mark_markOne c 0]
    exact Dev.mark_mem_markOne (Dev.sendsMark_markOne _ _ h)

theorem Dev.out_each_markBoth (l : List Nat) (d : Dev) : d.out ⊆ (d.each l Dev.markBoth).out := by
  induction l generalizing d with
  | nil => exact List.Subset.refl _
  | cons c l ih => exact List.Subset.trans (List.Subset.trans (Dev.out_markOne c 0) (Dev.out_markOne c 1)) (ih (d.markBoth c))

theorem Dev.mark_mem_each_markBoth {l : List Nat} (hc : c ∈ l) (hn : n < 2) (h : d.sendsMark c n) : d.mark c n ∈ (d.each l Dev.markBoth).out := by
  induction l generalizing d with
  | nil => cases hc
  | cons a l ih =>
    rw [Dev.each_cons]
    obtain rfl | hl := List.mem_cons.mp hc
    · exact Dev.out_each_markBoth l _ (Dev.mark_mem_markBoth hn h)
    · rw [← Dev.mark_markOne a 0, ← Dev.mark_markOne a 1]
      exact ih hl (Dev.sendsMark_markOne _ _ (Dev.sendsMark_markOne _ _ h))

theorem timeMarkSend_sends (ht : d.ct % 1800 = 0) (hc : c < 64) (hn : n < 2) (h : d.sendsMark c n) : d.mark c n ∈ (timeMarkSend d).out := by
  rw [show timeMarkSend d = d.each (List.range 64) Dev.markBoth from if_neg (not_not_intro ht)]
  exact Dev.mark_mem_each_markBoth (List.mem_range.mpr hc) hn h

end marks

/-! What a receiver passes on -/

section onFrame
variable {d : Dev} {c e typ : Nat} {fr : RxFrame} {f : List (BitVec 8) → Dev → Dev}

theorem Dev.onFrame_closed (h : d.passes c e = false) : d.onFrame c e typ fr f = d := if_pos (by simp [h])

theorem Dev.onFrame_badCrc (hp : d.passes c e = true) (h : checkFrame fr.bytes fr.violation = .badCrc) :
    d.onFrame c e typ fr f = d.count F.CM_FRM_ERR_CRC c e := by
  simp [Dev.onFrame, hp, h, Dev.badFrame]

theorem Dev.onFrame_ok (hp : d.passes c e = true) (h : checkFrame fr.bytes fr.violation = .ok) (ht : fieldLe fr.bytes 0 1 = typ) :
    d.onFrame c e typ fr f = f fr.bytes d := by
  simp [Dev.onFrame, hp, h, ht]

/-! An end that hears from the other -/

/-- Something valid has come from the other end (R278). -/
def Dev.heard (c e : Nat) (d : Dev) : Dev := (d.modLane c e fun l => { l with markMiss := 0 }).refreshCourse c

theorem Dev.markMiss_heard : ((d.heard c e).lane c e).markMiss = 0 := by
  rw [Dev.heard, Dev.markMiss_of_arrivals (Dev.arrivals_refreshCourse ..), Dev.lane_modLane_self]

theorem Dev.ring_heard : ((d.heard c e).crs c).ring = (d.crs c).ring :=
  Dev.ring_of_arrivals (Dev.arrivals_refreshCourse ..) c

theorem CrsSt.ring_inj {r q : CrsSt} (h : r.ring = q.ring) :
    r.tA = q.tA ∧ r.tD = q.tD ∧ r.crossH = q.crossH ∧ r.crossF = q.crossF ∧ r.cycleSent = q.cycleSent := by
  simpa only [CrsSt.ring, Prod.mk.injEq] using h

/-! Marks received (R259, R268) -/

theorem clampN_le (hi x : Nat) : clampN hi x ≤ hi := by
  unfold clampN
  split <;> omega

theorem Dev.get_modLane (d : Dev) (c e : Nat) (u : LaneSt → LaneSt) (f : Fld) (i j : Nat) : (d.modLane c e u).get f i j = d.get f i j := rfl

theorem Dev.get_modCrs (d : Dev) (c : Nat) (u : CrsSt → CrsSt) (f : Fld) (i j : Nat) : (d.modCrs c u).get f i j = d.get f i j := rfl

theorem timeMarkReceived_closed (h : d.passes c e = false) (stamp : Nat) : timeMarkReceived c e fr stamp d = d := if_pos (by simp [h])

/-- The bit of a mark that names the head does not name the foot. -/
theorem head_ne_foot : ∀ n : Fin 2, (n.val == 0) ≠ (n.val == 1) := by decide

/-- The time from when a mark was sent to when it was received at the ball. -/
def Dev.markTransit (d : Dev) (c stamp : Nat) (l : List (BitVec 8)) : Nat :=
  (d.rxStamp c stamp + stampSpan - (10 * fieldLe l 0 6 + fieldLe l 6 1 % 16 + fieldLe l 8 2) % stampSpan) % stampSpan

/-- The ring transit that a mark arriving at an end gives. -/
def CrsSt.transit (e t : Nat) (r : CrsSt) : CrsSt := { r with tA := if e = 1 then some t else r.tA, tD := if e = 1 then r.tD else some t }

section timeMarkReceived
variable (hp : d.passes c e = true) (hv : fr.violation = false) (hm : checkMark fr.bytes = true)
  (hend : testBit (fieldLe fr.bytes 6 1) 7 ≠ (e == 1)) (stamp : Nat)
include hp hv hm hend

theorem timeMarkReceived_eq : timeMarkReceived c e fr stamp d =
    ((d.set F.CM_FRM_RING_TRANSIT (clampN 0xFFFFFFFF (d.markTransit c stamp fr.bytes)) c e).modCrs c
      (CrsSt.transit e (d.markTransit c stamp fr.bytes))).heard c e :=
  if_neg (by simp [hp, hv, hm, hend])

theorem timeMarkReceived_shows : (timeMarkReceived c e fr stamp d).get F.CM_FRM_RING_TRANSIT c e =
    clampN 0xFFFFFFFF (d.markTransit c stamp fr.bytes) := by
  rw [timeMarkReceived_eq hp hv hm hend, Dev.heard, (Dev.refreshCourse_keeps ..).2 _ _ _ (by decide), Dev.get_modLane, Dev.get_modCrs,
    Dev.get_set_self]
  exact Nat.mod_eq_of_lt (Nat.lt_succ_of_le (clampN_le ..))

theorem timeMarkReceived_transit : (if e = 1 then ((timeMarkReceived c e fr stamp d).crs c).tA
    else ((timeMarkReceived c e fr stamp d).crs c).tD) = some (d.markTransit c stamp fr.bytes) := by
  have hring : ((timeMarkReceived c e fr stamp d).crs c).ring = _ :=
    (congrArg (fun x : Dev => (x.crs c).ring) (timeMarkReceived_eq hp hv hm hend stamp)).trans Dev.ring_heard
  obtain ⟨htA, htD, -⟩ := CrsSt.ring_inj hring
  rw [htA, htD, Dev.crs_modCrs_self]
  by_cases he : e = 1 <;> simp [CrsSt.transit, he]

theorem timeMarkReceived_heard : ((timeMarkReceived c e fr stamp d).lane c e).markMiss = 0 := by
  rw [timeMarkReceived_eq hp hv hm hend, Dev.markMiss_heard]

end timeMarkReceived

/-! Own frames (R247, R249, R251) -/

theorem ownFrameReturn_closed (h : d.passes c e = false) : ownFrameReturn c e fr d = d := if_pos (by simp [h])

theorem ownFrameReturn_badCrc (hp : d.passes c e = true) (h : checkFrame fr.bytes fr.violation = .badCrc) :
    ownFrameReturn c e fr d = (d.count F.CM_FRM_ERR_CRC c e).count F.CM_FRM_ERR_OWN_BAD c e := by
  simp [ownFrameReturn, hp, h, Dev.badFrame]

/-- An own CYCLE has crossed the ring and arrived at an end. -/
def CrsSt.crossed (e : Nat) (r : CrsSt) : CrsSt := { r with crossH := r.crossH || e == 1, crossF := r.crossF || e == 0 }

/-- It has crossed to the end at which it arrived. -/
theorem CrsSt.crossed_at (n : Fin 2) (r : CrsSt) : (if n.val = 1 then (r.crossed n.val).crossH else (r.crossed n.val).crossF) = true := by
  obtain hn | hn : n.val = 0 ∨ n.val = 1 := by omega
  · rw [hn, if_neg Nat.zero_ne_one]
    exact Bool.or_true _
  · rw [hn, if_pos rfl]
    exact Bool.or_true _

/-- An own CYCLE counts as across the ring only if it is the one released in this cycle (R251). -/
theorem ownFrameReturn_cycle (hp : d.passes c e = true) (hk : checkFrame fr.bytes fr.violation = .ok) (ht : fieldLe fr.bytes 0 1 = 1) :
    ownFrameReturn c e fr d = if (d.crs c).cycleSent = some (fieldLe fr.bytes 4 3, fieldLe fr.bytes 12 2)
      then (d.heard c e).modCrs c (CrsSt.crossed e) else d.heard c e := by
  obtain ⟨-, -, -, -, hsent⟩ := CrsSt.ring_inj (Dev.ring_heard (d := d) (c := c) (e := e))
  rw [← hsent]
  simp only [ownFrameReturn, hp, hk, ht, Bool.not_true, Bool.false_eq_true, if_false, if_true, true_and]
  rfl

/-! Reports (R191, R299) -/

section report
variable {b g : Nat} {r : RepCopy}

theorem Dev.storeCopy_first (ht : d.now - (d.grp g).openTick ≤ quarterUs (d.grp g).cfg.dr) (hnone : tabGet d.cm.copies b = none) :
    (d.storeCopy c e b g false r).copiesOf b = [r] := by
  by_cases he : e = 0 <;> simp [Dev.storeCopy, Nat.not_lt.mpr ht, tabD, hnone, Dev.copiesOf, he, tabGet_tabSet_self]

theorem reportReceived_stores (hp : d.passes c e = true) (hk : checkFrame fr.bytes fr.violation = .ok) (ht : fieldLe fr.bytes 0 1 = 0x41)
    (hc : fieldLe fr.bytes 2 2 % 0x2000 / 128 = c) (hevent : testBit (fieldLe fr.bytes 1 1) 2 = false)
    (hsafe : testBit (fieldLe fr.bytes 1 1) 4 = false) (hg : d.groupOf c = some g) (hs : (d.grp g).started = true)
    (hcycle : fieldLe fr.bytes 4 2 = (d.grp g).k % 0x10000) : reportReceived c e fr d =
    d.storeCopy c e (fieldLe fr.bytes 2 2 % 0x2000) g false
      ⟨fieldLe fr.bytes 6 2, fieldLe fr.bytes 8 2, testBit (fieldLe fr.bytes 1 1) 7, fieldLe fr.bytes 1 1 / 4 + 64 * fieldLe fr.bytes 10 2⟩ := by
  rw [reportReceived, Dev.onFrame_ok hp hk ht]
  simp [hc, hevent, hsafe, hg, hs, hcycle]

end report

/-! Replies of points (R295) -/

/-- The reply to a host read ends it with its value and changes nothing else at the hub. -/
theorem pointReplyReceived_read {q : PtReq} (hp : d.passes c e = true) (hk : checkFrame fr.bytes fr.violation = .ok)
    (ht : fieldLe fr.bytes 0 1 = 0x42) (hst : fieldLe fr.bytes 1 1 = 0) (hcls : q.cls = 2) (hw : q.write = false)
    (hq : ((d.flying c e).find? fun q => q.tid == fieldLe fr.bytes 2 1 && q.brick == fieldLe fr.bytes 4 2 % 0x2000 &&
      q.index == fieldLe fr.bytes 6 2 % 0x1000) = some q) : pointReplyReceived c e fr d =
    (((((d.count F.CM_CRS_PT_DONE c).dropReq q).readValue q.rd q.slot (fieldLe fr.bytes 8 4)).checkOn q.brick).pump c) := by
  rw [pointReplyReceived, Dev.onFrame_ok hp hk ht]
  simp [hq, hst, hcls, hw, Dev.replied]

end onFrame

/-- Settles O39: marks by what one mark leaves of the next, frames by the checks of onFrame, and what arrives at an end by what a change of
its course's state leaves of the arrivals. -/
theorem framesArrive : Obligations.FramesArrive := by
  rintro s dt _ rfl hl
  refine ⟨fun ht => ⟨_, exec_live hl rfl rfl, fun c n hc hn hs hh => timeMarkSend_sends ht hc hn ⟨hs, hh⟩⟩,
    fun c n fr => ⟨fun hp => ?_, fun hp => ?_⟩⟩
  · exact ⟨fun stamp => ⟨exec_live hl rfl (timeMarkReceived_closed hp stamp), exec_live hl rfl (Dev.onFrame_closed hp)⟩,
      exec_live hl rfl (Dev.onFrame_closed hp), exec_live hl rfl (Dev.onFrame_closed hp), exec_live hl rfl (Dev.onFrame_closed hp),
      exec_live hl rfl (ownFrameReturn_closed hp)⟩
  refine ⟨fun hk => ?_, fun stamp t hv hm hend ht => ?_, fun hk ht hsent => ?_, fun hk ht hsent => ?_,
    fun g b hk ht hb hc hevent hsafe hg hs hcycle hdr hnone => ?_, fun q hk ht hst hcls hw hq => ?_⟩
  · exact ⟨exec_live hl rfl (Dev.onFrame_badCrc hp hk), exec_live hl rfl (Dev.onFrame_badCrc hp hk), exec_live hl rfl (Dev.onFrame_badCrc hp hk),
      fun stamp => exec_live hl rfl (Dev.onFrame_badCrc hp hk), exec_live hl rfl (ownFrameReturn_badCrc hp hk)⟩
  · subst ht
    have hother : testBit (fieldLe fr.bytes 6 1) 7 ≠ (n.val == 1) := by
      rw [hend]
      exact head_ne_foot n
    exact ⟨_, exec_live hl rfl rfl, timeMarkReceived_shows hp hv hm hother stamp, timeMarkReceived_transit hp hv hm hother stamp,
      timeMarkReceived_heard hp hv hm hother stamp⟩
  · exact exec_live hl rfl ((ownFrameReturn_cycle hp hk ht).trans (if_neg hsent))
  · refine ⟨_, exec_live hl rfl ((ownFrameReturn_cycle hp hk ht).trans (if_pos hsent)), Dev.markMiss_heard, ?_⟩
    rw [Dev.crs_modCrs_self]
    exact CrsSt.crossed_at n _
  · subst hb
    exact ⟨_, exec_live hl rfl (reportReceived_stores hp hk ht hc hevent hsafe hg hs hcycle), Dev.storeCopy_first hdr hnone⟩
  · exact exec_live hl rfl (pointReplyReceived_read hp hk ht hst hcls hw hq)

end Sys2Proof.Machine
end

section
/-! PROOF. The line code (R222 to R226, R241, R247, R259): what is scrambled, stuffed and put after a comma is read back, a receiver finds
in it the comma and no violation (R229), and the frames sent pass the checks of R247. -/

namespace Sys2Proof.Machine

/-! Scrambling and stuffing -/

@[simp] theorem scramble_length (r : Nat) (l : List Bool) : (scramble r l).length = l.length := by
  induction l generalizing r with
  | nil => rfl
  | cons x l ih => simp [scramble, ih]

@[simp] theorem scramble_scramble (r : Nat) (l : List Bool) : scramble r (scramble r l) = l := by
  induction l generalizing r with
  | nil => rfl
  | cons x l ih => simp [scramble, ih]

theorem runOn_pos (b : Bool) (n : Nat) (x : Bool) : 0 < runOn b n x := by
  unfold runOn
  split <;> omega

theorem runOn_le (b : Bool) (n : Nat) (x : Bool) : runOn b n x ≤ n + 1 := by
  unfold runOn
  split <;> omega

@[simp] theorem runOn_not (b : Bool) (n : Nat) : runOn b n (!b) = 1 := by simp [runOn]

/-- Of a stuffed stream that goes on, the first bit is kept and the run goes on with it, unless it ends a run of 9. -/
theorem unstuff_cons {b x : Bool} {n : Nat} (h : runOn b n x ≠ 9) (l : List Bool) :
    unstuff b n (x :: l) = x :: unstuff x (runOn b n x) l := by
  cases l with
  | nil => rfl
  | cons y l => simp [unstuff, h]

theorem unstuff_stuff {b : Bool} {n : Nat} (l : List Bool) (hn : n < 9) : unstuff b n (stuff b n l) = l := by
  induction l generalizing b n with
  | nil => rfl
  | cons x l ih =>
    by_cases h : runOn b n x = 9
    · simp [stuff, unstuff, h, ih]
    · have := runOn_le b n x
      simp only [stuff, if_neg h]
      rw [unstuff_cons h, ih (by omega)]

theorem longestRun_stuff {b : Bool} {n : Nat} (l : List Bool) (hn : n < 9) : longestRun b n (stuff b n l) ≤ 9 := by
  induction l generalizing b n with
  | nil => exact Nat.le_of_lt hn
  | cons x l ih =>
    by_cases h : runOn b n x = 9
    · have := ih (b := !x) (n := 1) (by decide)
      rw [stuff, if_pos h, longestRun, longestRun, h, runOn_not]
      omega
    · have := runOn_le b n x
      have := ih (b := x) (n := runOn b n x) (by omega)
      simp only [stuff, if_neg h, longestRun]
      omega

/-- The run of equal bits with which a stretch of bits ends, and its bit, after a run. -/
def lineRun (s : Bool × Nat) (l : List Bool) : Bool × Nat := l.foldl (fun s x => (x, runOn s.1 s.2 x)) s

theorem lineRun_snd_le (s : Bool × Nat) (l : List Bool) : (lineRun s l).2 ≤ s.2 + l.length := by
  induction l generalizing s with
  | nil => exact Nat.le_refl _
  | cons x l ih =>
    have := ih (x, runOn s.1 s.2 x)
    have := runOn_le s.1 s.2 x
    simp only [lineRun, List.foldl_cons, List.length_cons] at *
    omega

theorem lineRun_append (s : Bool × Nat) (l m : List Bool) : lineRun s (l ++ m) = lineRun (lineRun s l) m := List.foldl_append

/-- A stretch too short for a run of 9 is stuffed with nothing. -/
theorem stuff_append {b : Bool} {n : Nat} (l m : List Bool) (h : n + l.length < 9) :
    stuff b n (l ++ m) = l ++ stuff (lineRun (b, n) l).1 (lineRun (b, n) l).2 m := by
  induction l generalizing b n with
  | nil => rfl
  | cons x l ih =>
    have := runOn_le b n x
    rw [List.length_cons] at h
    rw [List.cons_append, stuff, if_neg (by omega), ih (by omega)]
    rfl

/-! A comma and what follows it -/

@[simp] theorem typeBits_length (t : BitVec 8) : (typeBits t).length = 8 := by simp [typeBits, byteBits]

@[simp] theorem lineOf_drop (typ : BitVec 8) (data : List Bool) :
    (lineOf typ data).drop 24 = stuff false 0 (typeBits typ ++ scramble lfsrLoad data) :=
  List.drop_left' (by simp)

theorem lineOf_take (typ : BitVec 8) (data : List Bool) :
    (lineOf typ data).take 24 = List.replicate 12 true ++ List.replicate 12 false :=
  List.take_left' (by simp)

theorem received_lineOf (typ : BitVec 8) (data : List Bool) : received ((lineOf typ data).drop 24) = (typeBits typ, data) := by
  rw [lineOf_drop, received, unstuff_stuff _ (by decide), List.take_left' (typeBits_length typ), List.drop_left' (typeBits_length typ),
    scramble_scramble]

/-- Bits of a number from bit n − 1 down, read as a number after what stands before them. -/
theorem typeValue_range (x n a : Nat) :
    ((List.range n).map fun i => testBit x i).reverse.foldl (fun n b => 2 * n + bit b) a = a * 2 ^ n + x % 2 ^ n := by
  induction n generalizing a with
  | zero => simp [Nat.mod_one]
  | succ n ih =>
    have hb : bit (testBit x n) = x / 2 ^ n % 2 := by
      rcases Nat.mod_two_eq_zero_or_one (x / 2 ^ n) with h | h <;> simp [bit, testBit, Nat.testBit_eq_decide_div_mod_eq, h]
    have hshift : (2 * a + bit (testBit x n)) * 2 ^ n = a * 2 ^ (n + 1) + 2 ^ n * bit (testBit x n) := by
      rw [Nat.add_mul, Nat.pow_succ, Nat.mul_comm 2 a, Nat.mul_assoc, Nat.mul_comm 2, Nat.mul_comm (bit _)]
    rw [List.range_succ, List.map_append, List.reverse_append, List.foldl_append, ih, Nat.mod_pow_succ, ← hb]
    simp only [List.map_cons, List.map_nil, List.reverse_cons, List.reverse_nil, List.nil_append, List.foldl_cons, List.foldl_nil]
    rw [hshift]
    omega

@[simp] theorem typeValue_typeBits (t : BitVec 8) : typeValue (typeBits t) = t.toNat := by
  have := typeValue_range t.toNat 8 0
  rw [Nat.zero_mul, Nat.zero_add, Nat.mod_eq_of_lt t.isLt] at this
  exact this

/-- The field of a type from 128 on begins with a 1, which ends the zeros of the comma. -/
theorem typeBits_of_le {t : BitVec 8} (h : 128 ≤ t.toNat) : ∃ l : List Bool, typeBits t = true :: l ∧ l.length = 7 := by
  refine ⟨((List.range 7).map fun i => testBit t.toNat i).reverse, ?_, by simp⟩
  have h7 : testBit t.toNat 7 = true := by
    have := t.isLt
    simp only [testBit, Nat.testBit_eq_decide_div_mod_eq, decide_eq_true_eq]
    omega
  rw [typeBits, byteBits, List.range_succ, List.map_append, List.reverse_append, List.map_singleton, h7]
  rfl

/-! A receiver on what a transmitter sends -/

theorem LineRx.scan_append (r : LineRx) (l m : List Bool) :
    (r.scan (l ++ m)).2 = (r.scan l).2 ++ ((r.scan l).1.scan m).2 := by
  induction l generalizing r with
  | nil => rfl
  | cons b l ih => simp only [List.cons_append, LineRx.scan, ih, List.append_assoc]

/-- A receiver within a type field of which the bits l have come, the last one first: its run is theirs, and the pattern is behind it. -/
structure LineRx.InType (r : LineRx) (l : List Bool) : Prop where
  typ : r.typ = some l
  run : (r.bit, r.run) = lineRun (false, 0) l.reverse
  ones : r.ones ≤ 9

/-- A receiver among data, k data bits after the type field: the run of the line and that of the unstuffing are the same one, short of a
violation, and no ones of a comma precede it. -/
structure LineRx.InData (r : LineRx) (b : Bool) (n k : Nat) : Prop where
  typ : r.typ = none
  bit : r.bit = b
  run : r.run = n
  sbit : r.sbit = b
  srun : r.srun = n
  data : r.data = k
  ones : r.ones ≤ 9
  pos : 0 < n
  le : n ≤ 9

/-- A run of at most 9 leaves no more than 9 ones behind it. -/
theorem LineRx.onRun_ones {r : LineRx} (ho : r.ones ≤ 9) (hr : r.run ≤ 9) (b : Bool) : (r.onRun b).ones ≤ 9 := by
  unfold LineRx.onRun
  dsimp only
  repeat' split
  all_goals omega

theorem LineRx.InType.run_le {r : LineRx} {l : List Bool} (h : r.InType l) : r.run ≤ l.length := by
  have hl := lineRun_snd_le (false, 0) l.reverse
  rw [← h.run, List.length_reverse] at hl
  omega

/-- The run after one bit more of a type field. -/
theorem LineRx.InType.onRun {r : LineRx} {l : List Bool} (h : r.InType l) (b : Bool) :
    (b, runOn r.bit r.run b) = lineRun (false, 0) (b :: l).reverse := by
  rw [List.reverse_cons, lineRun_append, ← h.run]
  rfl

theorem LineRx.next_inType {r : LineRx} {l : List Bool} (h : r.InType l) (hl : l.length < 7) (b : Bool) :
    (r.next b).2 = [] ∧ (r.next b).1.InType (b :: l) := by
  have ho := LineRx.onRun_ones h.ones (Nat.le_trans h.run_le (by omega)) b
  have hn : r.next b = ({ r.onRun b with typ := some (b :: l) }, []) := by simp only [LineRx.next, h.typ, if_pos hl]
  rw [hn]
  exact ⟨rfl, rfl, h.onRun b, ho⟩

/-- The eighth bit of a type field makes the comma known; the data begin. -/
theorem LineRx.next_typeEnd {r : LineRx} {l : List Bool} (h : r.InType l) (hl : l.length = 7) (b : Bool) :
    (r.next b).2 = [.comma (typeValue (b :: l).reverse)] ∧
      (r.next b).1.InData (lineRun (false, 0) (b :: l).reverse).1 (lineRun (false, 0) (b :: l).reverse).2 0 := by
  have ho := LineRx.onRun_ones h.ones (Nat.le_trans h.run_le (by omega)) b
  have hr := h.onRun b
  have hle := runOn_le r.bit r.run b
  have hlen := h.run_le
  have hn : r.next b = ({ r.onRun b with
      typ := none, cur := some (typeValue (b :: l).reverse), line := [], sbit := (lineRun (false, 0) (b :: l).reverse).1,
      srun := (lineRun (false, 0) (b :: l).reverse).2, data := 0, spaced := false }, [.comma (typeValue (b :: l).reverse)]) := by
    simp only [LineRx.next, h.typ, if_neg (show ¬ l.length < 7 by omega)]
    rfl
  rw [hn, ← hr]
  exact ⟨rfl, rfl, rfl, rfl, rfl, rfl, rfl, ho, runOn_pos _ _ _, by dsimp only; omega⟩

theorem LineRx.scan_type {m : List Bool} {r : LineRx} {l : List Bool} (h : r.InType l) (hm : m ≠ []) (hl : l.length + m.length = 8) :
    (r.scan m).2 = [.comma (typeValue (l.reverse ++ m))] ∧
      (r.scan m).1.InData (lineRun (false, 0) (l.reverse ++ m)).1 (lineRun (false, 0) (l.reverse ++ m)).2 0 := by
  induction m generalizing r l with
  | nil => exact absurd rfl hm
  | cons b m ih =>
    rw [List.length_cons] at hl
    have hrev : l.reverse ++ b :: m = (b :: l).reverse ++ m := by simp
    rw [hrev]
    cases m with
    | nil =>
      obtain ⟨he, hd⟩ := LineRx.next_typeEnd h (by simpa using hl) b
      simp only [LineRx.scan, List.append_nil, he]
      exact ⟨trivial, hd⟩
    | cons c m =>
      rw [List.length_cons] at hl
      obtain ⟨he, ht⟩ := LineRx.next_inType h (by omega) b
      obtain ⟨he', hd⟩ := ih ht (by simp) (by simp only [List.length_cons]; omega)
      rw [LineRx.scan]
      exact ⟨by rw [he, he', List.nil_append], hd⟩

/-- A bit among no more data than may lie before a comma is no violation. -/
theorem LineRx.onData_within {r : LineRx} (h : (if r.srun = 9 then r.data else r.data + 1) ≤ spacingMax) (b : Bool) :
    r.onData b = ({ r with
      srun := (if r.srun = 9 then 1 else runOn r.sbit r.srun b), sbit := b, data := (if r.srun = 9 then r.data else r.data + 1),
      line := (if r.spaced then r.line else b :: r.line) }, []) := by
  have : ¬ spacingMax + 24 < if r.srun = 9 then r.data else r.data + 1 := by omega
  simp [LineRx.onData, this]

/-- A bit of the line that keeps the run within 9 shows nothing; a bit after a run of 9 is no data (R224). -/
theorem LineRx.next_inData {r : LineRx} {b : Bool} {n k : Nat} (h : r.InData b n k) (x : Bool) (hx : runOn b n x ≤ 9)
    (hk : (if n = 9 then k else k + 1) ≤ spacingMax) :
    (r.next x).2 = [] ∧ (r.next x).1.InData x (runOn b n x) (if n = 9 then k else k + 1) := by
  obtain ⟨htyp, rfl, rfl, hsbit, hsrun, rfl, hones, hpos, hle⟩ := h
  have ho := LineRx.onRun_ones hones hle x
  have hcomma : r.comma x = false := by simp [LineRx.comma, show ¬ 12 ≤ r.ones by omega]
  have hevents : r.runEvents x = [] := by
    have h10 : (r.onRun x).run ≠ 10 := by
      show runOn r.bit r.run x ≠ 10
      omega
    simp [LineRx.runEvents, h10, show ¬ 12 ≤ r.ones by omega, show r.run ≠ 10 by omega, show r.run ≠ 11 by omega]
  have hstuffed : (if r.run = 9 then 1 else runOn r.bit r.run x) = runOn r.bit r.run x := by
    unfold runOn at hx ⊢
    split <;> split <;> simp_all
  have hnext : r.next x = (r.onRun x).onData x := by
    simp only [LineRx.next, htyp, hcomma, hevents]
    rfl
  have hwithin : (if (r.onRun x).srun = 9 then (r.onRun x).data else (r.onRun x).data + 1) ≤ spacingMax := by
    rw [← hsrun] at hk
    exact hk
  rw [hnext, LineRx.onData_within hwithin]
  refine ⟨rfl, htyp, rfl, rfl, rfl, ?_, ?_, ho, runOn_pos _ _ _, hx⟩
  · show (if r.srun = 9 then 1 else runOn r.sbit r.srun x) = _
    rw [hsrun, hsbit, hstuffed]
  · show (if r.srun = 9 then r.data else r.data + 1) = _
    rw [hsrun]

/-- Stuffed data, no more than may lie before a comma, show a receiver nothing (R224, R229). -/
theorem LineRx.scan_stuff {l : List Bool} {r : LineRx} {b : Bool} {n k : Nat} (h : r.InData b n k) (hn : n < 9)
    (hk : k + l.length ≤ spacingMax) : (r.scan (stuff b n l)).2 = [] := by
  induction l generalizing r b n k with
  | nil => rfl
  | cons x l ih =>
    rw [List.length_cons] at hk
    have hle := runOn_le b n x
    obtain ⟨he, hd⟩ := LineRx.next_inData h x (by omega) (by split <;> omega)
    rw [if_neg (Nat.ne_of_lt hn)] at hd
    by_cases h9 : runOn b n x = 9
    · rw [h9] at hd
      obtain ⟨he', hd'⟩ := LineRx.next_inData hd (!x) (by simp) (by rw [if_pos rfl]; omega)
      rw [runOn_not, if_pos rfl] at hd'
      simp only [stuff, if_pos h9, LineRx.scan, he, he', List.nil_append]
      exact ih hd' (by decide) (by omega)
    · simp only [stuff, if_neg h9, LineRx.scan, he, List.nil_append]
      exact ih hd (by omega) (by omega)

/-- The receiver after the ones and zeros of a comma. -/
def LineRx.atComma : LineRx := (LineRx.init.scan (List.replicate 12 true ++ List.replicate 12 false)).1

/-- A receiver recognises in the line of a comma with its data that comma and nothing else (R226, R229). -/
theorem scan_lineOf {typ : BitVec 8} {data : List Bool} (ht : 128 ≤ typ.toNat) (hd : data.length ≤ spacingMax) :
    (LineRx.init.scan (lineOf typ data)).2 = [.comma typ.toNat] := by
  obtain ⟨l, hl, hlen⟩ := typeBits_of_le ht
  have hpattern : (LineRx.init.scan (List.replicate 12 true ++ List.replicate 12 false)).2 = [] := by decide
  have hfirst : (LineRx.atComma.next true).2 = [] ∧ (LineRx.atComma.next true).1.InType [true] :=
    ⟨by decide, by decide, by decide, by decide⟩
  obtain ⟨hfirst, htype⟩ := hfirst
  obtain ⟨hcomma, hdata⟩ := LineRx.scan_type htype (m := l) (by rintro rfl; simp at hlen) (by simp [hlen])
  rw [show [true].reverse ++ l = typeBits typ from hl.symm] at hcomma hdata
  have hrun := lineRun_snd_le (false, 0) (typeBits typ)
  rw [typeBits_length] at hrun
  rw [lineOf, LineRx.scan_append, hpattern, List.nil_append, stuff_append _ _ (by simp), hl, List.cons_append, LineRx.scan]
  show (LineRx.atComma.next true).2 ++ ((LineRx.atComma.next true).1.scan _).2 = _
  rw [hfirst, LineRx.scan_append, hcomma, ← hl, LineRx.scan_stuff hdata (by omega) (by simpa using hd), typeValue_typeBits]
  rfl

/-! The bytes of frames, marks and loop words -/

@[simp] theorem leBytes_length (n v : Nat) : (leBytes n v).length = n := by
  induction n generalizing v with
  | zero => rfl
  | succ n ih => simp [leBytes, ih]

theorem leNat_leBytes (n v : Nat) : leNat (leBytes n v) = v % 256 ^ n := by
  induction n generalizing v with
  | zero => simp [leBytes, leNat, Nat.mod_one]
  | succ n ih => rw [leBytes, leNat, ih, BitVec.toNat_ofNat, Nat.pow_succ' (m := 256) (n := n), Nat.mod_mul]

theorem crcBit_lt {c : Nat} (h : c < 2 ^ 32) : crcBit c < 2 ^ 32 := by
  unfold crcBit
  split
  · exact Nat.xor_lt_two_pow (by omega) (by decide)
  · omega

theorem crcByte_lt {c : Nat} (h : c < 2 ^ 32) (b : BitVec 8) : crcByte c b < 2 ^ 32 := by
  have hx : c ^^^ b.toNat < 2 ^ 32 := Nat.xor_lt_two_pow h (Nat.lt_trans b.isLt (by decide))
  exact crcBit_lt (crcBit_lt (crcBit_lt (crcBit_lt (crcBit_lt (crcBit_lt (crcBit_lt (crcBit_lt hx)))))))

theorem crcRun_lt {c : Nat} (h : c < 2 ^ 32) (l : List (BitVec 8)) : crcRun c l < 2 ^ 32 := by
  induction l generalizing c with
  | nil => exact h
  | cons b l ih => exact ih (crcByte_lt h b)

theorem crc32c_lt (l : List (BitVec 8)) : crc32c l < 2 ^ 32 := Nat.xor_lt_two_pow (crcRun_lt (by decide) l) (by decide)

@[simp] theorem leNat_crc (l : List (BitVec 8)) : leNat (leBytes 4 (crc32c l)) = crc32c l := by
  rw [leNat_leBytes]
  exact Nat.mod_eq_of_lt (crc32c_lt l)

@[simp] theorem withCrc_length (l : List (BitVec 8)) : (withCrc l).length = l.length + 4 := by simp [withCrc]

/-- Bytes with their CRC, of the length that their TYPE and COUNT fix, are a valid frame (R247). -/
theorem checkFrame_withCrc {a b c : BitVec 8} {l : List (BitVec 8)} (h : frameLength a.toNat c.toNat = some (l.length + 7)) :
    checkFrame (withCrc (a :: b :: c :: l)) false = .ok := by
  have ht : (withCrc (a :: b :: c :: l)).take (l.length + 3) = a :: b :: c :: l := List.take_left' rfl
  have hd : (withCrc (a :: b :: c :: l)).drop (l.length + 3) = leBytes 4 (crc32c (a :: b :: c :: l)) := List.drop_left' rfl
  have hlen : (withCrc (a :: b :: c :: l)).length = l.length + 7 := by simp
  have hcount : frameLength ((withCrc (a :: b :: c :: l))[0]?.getD 0).toNat ((withCrc (a :: b :: c :: l))[2]?.getD 0).toNat =
    some (l.length + 7) := h
  have hstart : ((withCrc (a :: b :: c :: l)).isEmpty || ((withCrc (a :: b :: c :: l)).head? == some 2 &&
      decide ((withCrc (a :: b :: c :: l)).length < 3))) = false := by
    rw [hlen]
    simp [withCrc]
  rw [checkFrame, hstart, hcount]
  simp [hlen, List.take_of_length_le (Nat.le_of_eq hlen), ht, hd]

/-- A mark of 12 bytes with their CRC passes its check (R259). -/
theorem checkMark_withCrc {l : List (BitVec 8)} (h : l.length = 12) : checkMark (withCrc l) = true := by
  have ht : (withCrc l).take 12 = l := List.take_left' h
  have hd : (withCrc l).drop 12 = leBytes 4 (crc32c l) := List.drop_left' h
  simp [checkMark, h, ht, hd]

/-- The bytes of the entries of a RANK frame (R254). -/
def rankEntries (l : List (Nat × Nat)) : List (BitVec 8) := l.flatMap fun p => leBytes 2 (p.1 % 0x2000) ++ leBytes 2 p.2

theorem rankEntries_length (l : List (Nat × Nat)) : (rankEntries l).length = 4 * l.length := by
  induction l with
  | nil => rfl
  | cons p l ih =>
    rw [rankEntries] at ih ⊢
    rw [List.flatMap_cons, List.length_append, ih, List.length_append, leBytes_length, leBytes_length, List.length_cons]
    omega

/-- The frames of the device are valid ones; a RANK frame has from 1 to 125 entries (R247, R249). -/
theorem checkFrame_bytes {f : Frame} (hc : f.comma = 0x96) (hr : ∀ tile e l, f = .rank tile e l → 1 ≤ l.length ∧ l.length ≤ 125) :
    checkFrame f.bytes false = .ok := by
  cases f with
  | timeMark => cases hc
  | loopWord => cases hc
  | rank tile e l =>
    obtain ⟨h1, h125⟩ := hr tile e l rfl
    refine checkFrame_withCrc ?_
    have hcount : (BitVec.ofNat 8 l.length).toNat = l.length := by
      rw [BitVec.toNat_ofNat]
      omega
    have hlen : frameLength 2 l.length = some (12 + 4 * l.length) := by simp [frameLength, h1, h125]
    show frameLength 2 (BitVec.ofNat 8 l.length).toNat = some ((([0] : List (BitVec 8)) ++ leBytes 3 e ++ [0] ++ rankEntries l).length + 7)
    rw [hcount, hlen, List.length_append, rankEntries_length, List.length_append, List.length_append, leBytes_length]
    simp only [List.length_singleton, Option.some.injEq]
    omega
  | cycle f => exact checkFrame_withCrc rfl
  | block tile => exact checkFrame_withCrc rfl
  | safeBlock seq c => exact checkFrame_withCrc rfl
  | safeRelease seq c => exact checkFrame_withCrc rfl
  | pointReq w tid b i v => exact checkFrame_withCrc rfl
  | discover a hops b => exact checkFrame_withCrc rfl
  | probe tid b => exact checkFrame_withCrc rfl

/-- The halves of a loop word are complements (R241). -/
theorem loopWord_complement (x : Bool) (h : Nat) :
    leNat ((Frame.loopWord x h).bytes.take 4) + leNat ((Frame.loopWord x h).bytes.drop 4) = 0xFFFFFFFF := by
  have hv : 0x4C000000 + (if x then 0x800000 else 0x400000) + h % 0x80 * 0x100 < 2 ^ 32 := by split <;> omega
  rw [Frame.bytes, Frame.body, List.take_left' (leBytes_length 4 _), List.drop_left' (leBytes_length 4 _), leNat_leBytes, leNat_leBytes]
  omega

/-- Settles O38: round trips by induction on the bits; a receiver by what it knows before the type field, within it and among data. -/
theorem lineCode : Obligations.LineCode :=
  ⟨fun r l => ⟨scramble_scramble r l, scramble_length r l⟩, fun _ _ l hn => ⟨unstuff_stuff l hn, longestRun_stuff l hn⟩,
    fun typ data => ⟨lineOf_take typ data, received_lineOf typ data⟩, fun _ _ f => received_lineOf f.comma (dataBits f.bytes),
    fun _ hc hr => checkFrame_bytes hc hr, fun _ _ ht hd => scan_lineOf ht hd, fun _ _ _ => checkMark_withCrc rfl,
    fun out hops => ⟨rfl, loopWord_complement out hops⟩⟩

end Sys2Proof.Machine
end

section
/-! PROOF. What a change at a course's end leaves of the lanes (R228 to R242, R278): the states a course goes through touch of a lane no more
than what its transmitter sends. -/

namespace Sys2Proof.Machine

/-- What holds of the registers in a scope's shadow holds of a one-bit field there. -/
theorem Dev.on_of_keeps {S : Scope} {d e : Dev} (h : Dev.keeps S d e) {f : Fld} (hf : S.covers f = false) (i j : Nat) : e.on f i j = d.on f i j := by
  rw [Dev.on, h.2 f i j hf, Dev.on]

theorem Dev.on_congr {d e : Dev} (h : e.bank = d.bank) (f : Fld) (i j : Nat) : e.on f i j = d.on f i j := by
  rw [Dev.on, Dev.get, h, Dev.on, Dev.get]

theorem satInc_le (hi x : Nat) : satInc hi x ≤ hi := by
  unfold satInc
  split <;> omega

theorem Dev.get_count_self (d : Dev) {f : Fld} (i j : Nat) : (d.count f i j).get f i j = satInc (2 ^ f.width - 1) (d.get f i j) := by
  rw [Dev.count, Dev.get_set_self]
  have := satInc_le (2 ^ f.width - 1) (d.get f i j)
  have := Nat.two_pow_pos f.width
  exact Nat.mod_eq_of_lt (by omega)

/-- What every step of a fold leaves, the fold leaves. -/
theorem Dev.foldl_leaves {α β : Type} {π : Dev → β} {f : Dev → α → Dev} (h : ∀ d x, π (f d x) = π d) (l : List α) (d : Dev) :
    π (l.foldl f d) = π d := by
  induction l generalizing d with
  | nil => rfl
  | cons x l ih => exact (ih _).trans (h d x)

theorem Dev.each_leaves {β : Type} {π : Dev → β} {f : Nat → Dev → Dev} (h : ∀ n d, π (f n d) = π d) (l : List Nat) (d : Dev) :
    π (d.each l f) = π d :=
  Dev.foldl_leaves (fun d n => h n d) l d

/-- What one step brings about and the others keep holds after all of them. -/
theorem Dev.each_reaches {P : Dev → Prop} {f : Nat → Dev → Dev} {x : Nat} {l : List Nat} (hx : x ∈ l) (hset : ∀ d, P (f x d))
    (hkeep : ∀ y d, P d → P (f y d)) (d : Dev) : P (d.each l f) := by
  have hrest : ∀ (l : List Nat) (d : Dev), P d → P (d.each l f) := by
    intro l
    induction l with
    | nil => exact fun _ h => h
    | cons y l ih => exact fun d h => ih _ (hkeep y d h)
  induction l generalizing d with
  | nil => cases hx
  | cons y l ih =>
    rw [Dev.each_cons]
    rcases List.mem_cons.mp hx with rfl | hx
    · exact hrest l _ (hset d)
    · exact ih hx _

/-! The registers are none of a lane's state -/

section registers
variable (d : Dev) (c e : Nat)

@[simp] theorem Dev.lane_set (f : Fld) (v i j : Nat) : (d.set f v i j).lane c e = d.lane c e := rfl

@[simp] theorem Dev.lane_flag (f : Fld) (b : Bool) (i j : Nat) : (d.flag f b i j).lane c e = d.lane c e := rfl

@[simp] theorem Dev.lane_count (f : Fld) (i j : Nat) : (d.count f i j).lane c e = d.lane c e := rfl

@[simp] theorem Dev.lane_addTo (f : Fld) (n i j : Nat) : (d.addTo f n i j).lane c e = d.lane c e := rfl

@[simp] theorem Dev.lane_emit (o : Out) : (d.emit o).lane c e = d.lane c e := rfl

@[simp] theorem Dev.lane_showLane (a b : Nat) : (d.showLane a b).lane c e = d.lane c e := rfl

end registers

/-! The lanes but for what they send -/

/-- A lane but for what its transmitter sends: the frames that wait and the end of the one in progress. -/
def LaneSt.still (l : LaneSt) : LaneSt := { l with txq := [], txEnd := 0, ended := false }

/-- All lanes but for what they send. -/
def Dev.still (d : Dev) : Nat → Nat → LaneSt := fun c n => (d.lane c n).still

theorem Dev.still_congr {d e : Dev} (h : e.cm.lanes = d.cm.lanes) : e.still = d.still := by
  unfold Dev.still Dev.lane
  rw [h]

/-- What does not hang on the transmitter is the same where the lanes are, but for what they send. -/
theorem Dev.lane_of_still {β : Type} {d e : Dev} (π : LaneSt → β) (h : e.still = d.still) (c n : Nat)
    (hπ : ∀ l, π l.still = π l := by intro; rfl) : π (e.lane c n) = π (d.lane c n) := by
  rw [← hπ, ← hπ (d.lane c n)]
  exact congrArg π (congrFun (congrFun h c) n)

section still
variable (d : Dev)

theorem Dev.still_modLane (c e : Nat) (f : LaneSt → LaneSt) (h : ∀ l, (f l).still = l.still := by intro; rfl) :
    (d.modLane c e f).still = d.still :=
  funext fun _ => funext fun _ => tabD_tabMod_proj h ..

theorem Dev.still_modCrs (c : Nat) (f : CrsSt → CrsSt) : (d.modCrs c f).still = d.still := rfl

theorem Dev.still_each {f : Nat → Dev → Dev} (h : ∀ n d, (f n d).still = d.still) (l : List Nat) : (d.each l f).still = d.still :=
  Dev.each_leaves h l d

theorem Dev.still_goIdle (c e : Nat) : (d.goIdle c e).still = d.still := by
  unfold Dev.goIdle
  dsimp only
  split
  · rfl
  · split
    · exact Dev.still_modLane d c e _
    · exact Dev.still_modLane ..

theorem Dev.lanes_started (c e t : Nat) (f : Frame) : (d.started c e t f).cm.lanes = d.cm.lanes := by
  unfold Dev.started
  split <;> rfl

theorem Dev.still_beginFrame (c e : Nat) (w : TxWait) (t : Nat) : (d.beginFrame c e w t).still = d.still :=
  (Dev.still_congr (Dev.lanes_started _ c e t w.frame)).trans (Dev.still_modLane d c e _)

theorem Dev.still_runLane (c e n : Nat) : (d.runLane c e n).still = d.still := by
  induction n generalizing d with
  | zero => exact d.still_goIdle c e
  | succ n ih =>
    unfold Dev.runLane
    dsimp only
    split
    · rw [ih, Dev.still_beginFrame, Dev.still_goIdle]
    · exact d.still_goIdle c e

theorem Dev.still_send (c e : Nat) (f : Frame) : (d.send c e f).still = d.still := by
  unfold Dev.send
  split
  · rfl
  · split
    · rfl
    · exact (Dev.still_runLane ..).trans (Dev.still_modLane d c e _)

theorem Dev.lanes_each {f : Nat → Dev → Dev} (h : ∀ n d, (f n d).cm.lanes = d.cm.lanes) (l : List Nat) : (d.each l f).cm.lanes = d.cm.lanes :=
  Dev.each_leaves (π := fun d => d.cm.lanes) h l d

/-! Transactions that end -/

theorem Dev.lanes_readValue (num slot v : Nat) : (d.readValue num slot v).cm.lanes = d.cm.lanes := by
  unfold Dev.readValue
  dsimp only
  repeat' split
  all_goals rfl

theorem Dev.lanes_pointFail (x status addr : Nat) : (d.pointFail x status addr).cm.lanes = d.cm.lanes :=
  congrArg CmSt.lanes ((Dev.pointFail_keeps ..).1 .cm (by decide))

theorem Dev.lanes_holdsLat (q : PtReq) (v : Option Nat) : (d.holdsLat q v).cm.lanes = d.cm.lanes := by
  unfold Dev.holdsLat
  repeat' split
  all_goals rfl

theorem Dev.lanes_endReq (q : PtReq) (status : Nat) : (d.endReq q status).cm.lanes = d.cm.lanes := by
  unfold Dev.endReq
  dsimp only
  repeat' split
  all_goals simp [Dev.lanes_readValue, Dev.lanes_pointFail, Dev.lanes_holdsLat]

theorem Dev.lanes_dropReqs (c status : Nat) : (d.dropReqs c status).cm.lanes = d.cm.lanes :=
  Dev.foldl_leaves (π := fun d => d.cm.lanes) (fun d q => d.lanes_endReq q status) _ d

/-! A course that changes its state -/

theorem Dev.lanes_failAdmission (c p : Nat) : (d.failAdmission c p).cm.lanes = d.cm.lanes := by
  unfold Dev.failAdmission
  dsimp only
  split <;> rfl

theorem Dev.lanes_courseDown (c : Nat) : (d.courseDown c).cm.lanes = d.cm.lanes := by
  unfold Dev.courseDown
  dsimp only
  rw [Dev.lanes_each]
  · exact d.lanes_dropReqs c 0x13
  intro p d
  split
  · split <;> exact Dev.lanes_failAdmission ..
  · rfl

theorem Dev.still_startDiscovery (c : Nat) : (d.startDiscovery c).still = d.still := by
  unfold Dev.startDiscovery
  dsimp only
  rw [Dev.still_send, Dev.still_each _ fun e d => Dev.still_modLane d c e _, Dev.still_modCrs, Dev.still_each]
  intro p d
  split <;> rfl

theorem Dev.still_setCourse (c st : Nat) : (d.setCourse c st).still = d.still := by
  have hdeliv (e : Dev) : (e.updateDeliv c).still = e.still :=
    Dev.still_congr (congrArg CmSt.lanes ((Dev.updateDeliv_keeps ..).1 .cm (by decide)))
  have hdown (e : Dev) : (e.courseDown c).still = e.still := Dev.still_congr (e.lanes_courseDown c)
  have hmeasure (e : Dev) : (e.startMeasure c).still = e.still := rfl
  unfold Dev.setCourse
  dsimp only
  split
  · rfl
  · simp only [hdeliv, apply_ite Dev.still, hdown, Dev.still_startDiscovery, hmeasure, ite_self]
    exact ite_self _

/-- A change at the ends of a course, and of its state, touches the lanes only in what they send. -/
theorem Dev.still_refreshCourse (c : Nat) : (d.refreshCourse c).still = d.still := by
  have hflags (f g : Fld) (a b : Bool) : ((d.flag f a c).flag g b c).still = d.still := rfl
  unfold Dev.refreshCourse
  simp only [apply_ite Dev.still, Dev.still_setCourse, hflags, ite_self]

end still

/-! An end that is lost -/

section loseEnd
variable (d : Dev) (c e : Nat)

/-- An end that is lost works no longer, and its lanes are otherwise the same but for what they send. -/
theorem Dev.lane_loseEnd {β : Type} (π : LaneSt → β) (a b : Nat) (hstill : ∀ l, π l.still = π l := by intro; rfl)
    (hworking : ∀ l, π { l with working := false } = π l := by intro; rfl) : π ((d.loseEnd c e).lane a b) = π (d.lane a b) := by
  unfold Dev.loseEnd
  split
  · exact (Dev.lane_of_still π (Dev.still_refreshCourse ..) a b hstill).trans (tabD_tabMod_proj hworking ..)
  · rfl

@[simp] theorem Dev.working_loseEnd_self : ((d.loseEnd c e).lane c e).working = false := by
  unfold Dev.loseEnd
  split
  · rw [Dev.lane_of_still LaneSt.working (Dev.still_refreshCourse ..), Dev.lane_modLane_self]
  · next h => simpa using h

/-- No other end works again by it. -/
theorem Dev.working_loseEnd {a b : Nat} (h : (d.lane a b).working = false) : ((d.loseEnd c e).lane a b).working = false := by
  by_cases hk : 2 * a + b = 2 * c + e
  · have hlane (d : Dev) : d.lane a b = d.lane c e := by rw [Dev.lane, hk, Dev.lane]
    rw [hlane]
    exact Dev.working_loseEnd_self d c e
  unfold Dev.loseEnd
  split
  · rw [Dev.lane_of_still LaneSt.working (Dev.still_refreshCourse ..)]
    exact (congrArg LaneSt.working (tabD_tabSet_ne hk ..)).trans h
  · exact h

end loseEnd

/-! A receiver and a transmitter that change their state -/

section lane
variable (d : Dev) (c e : Nat)

theorem Dev.lane_setRx (st : Nat) : (d.setRx c e st).lane c e = { d.lane c e with rx := st } := by
  rw [Dev.setRx, Dev.lane_showLane, Dev.lane_modLane_self]

/-- A transmitter on its way to electrical idle touches neither the receiver nor what the course manager knows of the end. -/
theorem Dev.lane_laneIdle {β : Type} (forced : Bool) (π : LaneSt → β) (a b : Nat)
    (hπ : ∀ (l : LaneSt) (since : Nat) (was : Bool), π { l with
      idleSince := since, wasAligned := was, wakeEnd := none, eidleDue := false, txq := [], txEnd := 0, ended := false } = π l := by intros; rfl)
    (hdue : ∀ l : LaneSt, π { l with wakeEnd := none, eidleDue := true, txq := [] } = π l := by intros; rfl) :
    π ((d.laneIdle c e forced).lane a b) = π (d.lane a b) := by
  unfold Dev.laneIdle
  split
  · rfl
  · split
    · exact tabD_tabMod_proj (fun l => hπ l d.now (l.rx == 4)) ..
    · exact tabD_tabMod_proj hdue ..

/-- A lane that is forced idle is idle. -/
@[simp] theorem Dev.txIdle_laneIdle_forced : (d.laneIdle c e true).on F.CM_LANE_STAT_TX_IDLE c e = true := by
  unfold Dev.laneIdle
  split
  · assumption
  · rw [if_pos rfl, Dev.on_of_keeps (Dev.showLane_keeps ..) (by decide +kernel), Dev.on_flag_self rfl]

/-- And no other lane leaves electrical idle by it. -/
theorem Dev.txIdle_laneIdle {a b : Nat} (forced : Bool) (h : d.on F.CM_LANE_STAT_TX_IDLE a b = true) :
    (d.laneIdle c e forced).on F.CM_LANE_STAT_TX_IDLE a b = true := by
  by_cases hk : (a, b) = (c, e)
  · obtain ⟨rfl, rfl⟩ := Prod.mk.inj hk
    rw [Dev.laneIdle, if_pos h]
    exact h
  unfold Dev.laneIdle
  split
  · exact h
  · split
    · rw [Dev.on_of_keeps (Dev.showLane_keeps ..) (by decide +kernel), Dev.on, Dev.flag,
        Dev.get_set_ne _ _ _ _ _ _ _ _ (by simpa using hk)]
      exact h
    · rw [Dev.on_of_keeps (Dev.showLane_keeps ..) (by decide +kernel)]
      exact h

end lane

end Sys2Proof.Machine
end

section
/-! PROOF. Lane PLLs, receivers and transmitters (R220, R221, R227 to R229, R233 to R235, R239). -/

namespace Sys2Proof.Machine

/-! Lane PLLs (R220, R221) -/

section lpll
variable {d : Dev} {p : Nat}

/-- A lane PLL that has locked, before its lanes wake. -/
def Dev.lpllUp (p : Nat) (d : Dev) : Dev :=
  (({ d with cm := { d.cm with dieUp := setNth d.cm.dieUp (p / 4) true } } : Dev).flag F.TB_LPLL_STAT_LOCKED true p).cond (0x140 + p) false

theorem lpllLock_locks {counts : List Nat} (hlen : counts.length = 4) (hpll : d.on F.TB_STATUS_PLL_LOCKED = true)
    (hnot : d.on F.TB_LPLL_STAT_LOCKED p = false) (hcounts : ∀ i < 4, d.lpllWithin p (d.now - 1024 * (3 - i)) (nth counts i 0) 2 = true) :
    lpllLock p counts d = (d.lpllUp p).each (coursesOf p) fun c d => d.wakeCourse c true := by
  have hok : ((List.range 4).all fun i => d.lpllWithin p (d.now - 1024 * (3 - i)) (nth counts i 0) 2) = true := by
    simpa [List.all_eq_true] using hcounts
  exact if_pos ⟨hlen, hok, hpll, by simp [hnot]⟩

theorem lpllLock_waits {counts : List Nat} (hbad : ∃ i < 4, d.lpllWithin p (d.now - 1024 * (3 - i)) (nth counts i 0) 2 = false) :
    lpllLock p counts d = d := by
  obtain ⟨i, hi, hw⟩ := hbad
  refine if_neg fun h => ?_
  have hall := List.all_eq_true.mp h.2.1 i (List.mem_range.mpr hi)
  rw [hw] at hall
  cases hall

theorem Dev.dieUp_wakeLane (d : Dev) (c e : Nat) (full : Bool) : (d.wakeLane c e full).cm.dieUp = d.cm.dieUp := by
  unfold Dev.wakeLane
  split <;> rfl

theorem Dev.dieUp_wakeCourses (l : List Nat) (full : Bool) (d : Dev) : (d.each l fun c d => d.wakeCourse c full).cm.dieUp = d.cm.dieUp :=
  Dev.each_leaves (π := fun d => d.cm.dieUp) (fun _ _ => (Dev.dieUp_wakeLane ..).trans (Dev.dieUp_wakeLane ..)) l d

/-- Lanes that wake touch neither their PLL nor its condition, and no die. -/
theorem Dev.lpllUp_shows (p : Nat) (d : Dev) :
    ((d.lpllUp p).each (coursesOf p) fun c d => d.wakeCourse c true).on F.TB_LPLL_STAT_LOCKED p = true ∧
      ((d.lpllUp p).each (coursesOf p) fun c d => d.wakeCourse c true).on F.FC_COND_COND (0x140 + p) = false ∧
      ((d.lpllUp p).each (coursesOf p) fun c d => d.wakeCourse c true).cm.dieUp = setNth d.cm.dieUp (p / 4) true := by
  have hwake : Dev.keeps ⟨[.out, .cm], [F.CM_LANE_STAT_CDR_LOCK, F.CM_LANE_STAT_STATE, F.CM_LANE_STAT_TX_IDLE], []⟩ (d.lpllUp p)
      ((d.lpllUp p).each (coursesOf p) fun c d => d.wakeCourse c true) :=
    Dev.keeps_each _ _ (fun c d => Dev.wakeCourse_keeps c true d) (Dev.keeps_refl ..)
  refine ⟨?_, ?_, ?_⟩
  · rw [Dev.on_of_keeps hwake (by decide)]
    exact (Dev.on_set_other _ _ _ _ _ _ _ _ (by decide)).trans (Dev.on_flag_self rfl ..)
  · rw [Dev.on_of_keeps hwake (by decide)]
    exact Dev.on_flag_self rfl ..
  · rw [Dev.dieUp_wakeCourses]
    rfl

/-- A lane that is idle and whose end works no longer. -/
def Dev.silent (c e : Nat) (d : Dev) : Prop := d.on F.CM_LANE_STAT_TX_IDLE c e = true ∧ (d.lane c e).working = false

/-- One lane of the courses of a lane PLL that loses lock. -/
def Dev.killOne (c e : Nat) (d : Dev) : Dev := (d.killLane true c e).modLane c e fun l => { l with wasAligned := false }

theorem Dev.killCourses_eq (l : List Nat) (d : Dev) : d.killCourses l = d.each l fun c d => d.each [0, 1] fun e d => d.killOne c e := rfl

theorem Dev.killOne_silences (c e : Nat) (d : Dev) : (d.killOne c e).silent c e := by
  refine ⟨?_, ?_⟩
  · show (d.killLane true c e).on F.CM_LANE_STAT_TX_IDLE c e = true
    rw [Dev.killLane, Dev.on_of_keeps (Dev.loseEnd_keeps ..) (by decide +kernel), Dev.txIdle_laneIdle_forced]
  · rw [Dev.killOne, Dev.lane_modLane_self]
    exact Dev.working_loseEnd_self ..

theorem Dev.killOne_keeps_silent {a b : Nat} (c e : Nat) {d : Dev} (h : d.silent a b) : (d.killOne c e).silent a b := by
  obtain ⟨hidle, hworking⟩ := h
  refine ⟨?_, ?_⟩
  · show (d.killLane true c e).on F.CM_LANE_STAT_TX_IDLE a b = true
    rw [Dev.killLane, Dev.on_of_keeps (Dev.loseEnd_keeps ..) (by decide +kernel)]
    exact Dev.txIdle_laneIdle _ _ _ true hidle
  · have hmod : ((d.killOne c e).lane a b).working = ((d.killLane true c e).lane a b).working :=
      tabD_tabMod_proj (f := fun l : LaneSt => { l with wasAligned := false }) (fun _ => rfl) ..
    rw [hmod]
    exact Dev.working_loseEnd _ _ _ ((Dev.lane_laneIdle d c e true LaneSt.working a b).trans hworking)

/-- Every lane of the courses goes idle and stays so while the others do. -/
theorem Dev.killCourses_silences {l : List Nat} {c e : Nat} (hc : c ∈ l) (he : e < 2) (d : Dev) : (d.killCourses l).silent c e := by
  rw [Dev.killCourses_eq]
  refine Dev.each_reaches hc (fun d => ?_) (fun a d h => ?_) d
  · refine Dev.each_reaches (P := Dev.silent c e) (x := e) ?_ (fun d => d.killOne_silences c e) (fun b d h => Dev.killOne_keeps_silent c b h) d
    obtain rfl | rfl : e = 0 ∨ e = 1 := by omega
    · exact List.mem_cons_self
    · exact List.mem_cons_of_mem _ List.mem_cons_self
  · exact Dev.killOne_keeps_silent a 1 (Dev.killOne_keeps_silent a 0 h)

/-- A lane PLL that has lost lock, before its lanes follow. -/
def Dev.lpllLost (p : Nat) (d : Dev) : Dev :=
  ((d.flag F.TB_LPLL_STAT_LOCKED false p).flag F.TB_LPLL_STAT_LOST true p).count F.TB_LPLL_STAT_LOSSES p

/-- Its loops end, its courses go idle. -/
def Dev.lanesLost (p : Nat) (d : Dev) : Dev :=
  (d.each (coursesOf p) fun c d => (d.endLoop c 0 (some 6)).endLoop c 1 (some 6)).killCourses (coursesOf p)

/-- What the lanes of a lane PLL that loses lock change at most. -/
def lanesLostScope : Scope :=
  ⟨[.out, .cm, .fc, .host, .dma], [F.CM_CRS_DELIV_DELIV, F.CM_CRS_DELIV_WORST, F.CM_CRS_PT_FAILED, F.CM_CRS_STAT_FOUND,
    F.CM_CRS_STAT_F_WORKING, F.CM_CRS_STAT_H_WORKING, F.CM_CRS_STAT_IN_SERVICE, F.CM_CRS_STAT_STATE, F.CM_DIR_W0_EVQ, F.CM_DIR_W0_REASON,
    F.CM_DIR_W0_STATE, F.CM_LANE_CTL_BUSY, F.CM_LANE_CTL_RESULT, F.CM_LANE_STAT_CDR_LOCK, F.CM_LANE_STAT_LOOP, F.CM_LANE_STAT_LOOP_HOPS,
    F.CM_LANE_STAT_STATE, F.CM_LANE_STAT_TX_IDLE, F.DM_CH_DETAIL_PTFAIL, F.GL_PT_ERR_W0_COUNT, F.GL_PT_ERR_W0_STATUS,
    F.GL_PT_ERR_W1_ADDRESS, F.GP_HARVEST_PB_FAIL, F.HC_IRQ_STAT_STAT], []⟩

theorem Dev.lanesLost_keeps (p : Nat) (d : Dev) : Dev.keeps lanesLostScope d (d.lanesLost p) := by
  refine Dev.keeps_step (by decide +kernel) (Dev.killCourses_keeps ..) (Dev.keeps_each _ _ (fun c d => ?_) (Dev.keeps_refl ..))
  exact Dev.keeps_step (by decide +kernel) (Dev.endLoop_keeps ..) (Dev.keeps_mono (by decide +kernel) (Dev.endLoop_keeps ..))

theorem Dev.loseLpll_eq (h : d.on F.TB_LPLL_STAT_LOCKED p = true) : d.loseLpll p = ((d.lpllLost p).lanesLost p).cond (0x140 + p) true p :=
  if_neg (by simp [h])

theorem Dev.cond_begins (n k : Nat) (d : Dev) : (d.cond n true k).on F.FC_COND_COND n = true := by
  unfold Dev.cond
  rw [if_pos rfl]
  split
  · assumption
  · exact (Dev.on_congr (d := d.flag F.FC_COND_COND true n) rfl ..).trans (Dev.on_flag_self rfl ..)

theorem Dev.lane_cond (n k c e : Nat) (b : Bool) (d : Dev) : (d.cond n b k).lane c e = d.lane c e := by
  unfold Dev.cond
  repeat' split
  all_goals rfl

theorem Dev.lpllLost_shows (p : Nat) (d : Dev) :
    (d.lpllLost p).on F.TB_LPLL_STAT_LOCKED p = false ∧ (d.lpllLost p).on F.TB_LPLL_STAT_LOST p = true ∧
    (d.lpllLost p).get F.TB_LPLL_STAT_LOSSES p = satInc 0xFFFF (d.get F.TB_LPLL_STAT_LOSSES p) := by
  refine ⟨?_, ?_, ?_⟩
  · exact (Dev.on_set_other _ _ _ _ _ _ _ _ (by decide)).trans
      ((Dev.on_set_other _ _ _ _ _ _ _ _ (by decide)).trans (Dev.on_flag_self rfl ..))
  · exact (Dev.on_set_other _ _ _ _ _ _ _ _ (by decide)).trans (Dev.on_flag_self rfl ..)
  · rw [Dev.lpllLost, Dev.get_count_self, Dev.flag, Dev.get_set_other _ _ _ _ _ _ _ _ (by decide), Dev.flag,
      Dev.get_set_other _ _ _ _ _ _ _ _ (by decide)]
    rfl

/-- The loss of lock of a lane PLL, and its eight courses. -/
theorem Dev.loseLpll_shows (h : d.on F.TB_LPLL_STAT_LOCKED p = true) : (d.loseLpll p).on F.TB_LPLL_STAT_LOCKED p = false ∧
    (d.loseLpll p).on F.TB_LPLL_STAT_LOST p = true ∧
    (d.loseLpll p).get F.TB_LPLL_STAT_LOSSES p = satInc 0xFFFF (d.get F.TB_LPLL_STAT_LOSSES p) ∧
    (d.loseLpll p).on F.FC_COND_COND (0x140 + p) = true ∧ ∀ i n : Nat, i < 8 → n < 2 → (d.loseLpll p).silent (8 * p + i) n := by
  obtain ⟨hlocked, hlost, hlosses⟩ := d.lpllLost_shows p
  have hon {f : Fld} (hc : Scope.covers ⟨[.fc], [F.FC_COND_COND], []⟩ f = false) (hf : Scope.covers lanesLostScope f = false) :
      (d.loseLpll p).on f p = (d.lpllLost p).on f p := by
    rw [Dev.loseLpll_eq h, Dev.on_of_keeps (Dev.cond_keeps ..) hc, Dev.on_of_keeps (Dev.lanesLost_keeps ..) hf]
  refine ⟨(hon (by decide +kernel) (by decide +kernel)).trans hlocked, (hon (by decide +kernel) (by decide +kernel)).trans hlost, ?_, ?_,
    fun i n hi hn => ?_⟩
  · rw [Dev.loseLpll_eq h, (Dev.cond_keeps ..).2 _ _ _ (by decide +kernel), (Dev.lanesLost_keeps ..).2 _ _ _ (by decide +kernel), hlosses]
  · rw [Dev.loseLpll_eq h]
    exact Dev.cond_begins ..
  · have hmem : 8 * p + i ∈ coursesOf p := List.mem_map.mpr ⟨i, List.mem_range.mpr hi, rfl⟩
    rw [Dev.loseLpll_eq h]
    obtain ⟨hidle, hworking⟩ := Dev.killCourses_silences hmem hn
      ((d.lpllLost p).each (coursesOf p) fun c d => (d.endLoop c 0 (some 6)).endLoop c 1 (some 6))
    refine ⟨(Dev.on_of_keeps (Dev.cond_keeps ..) (by decide +kernel) ..).trans hidle, ?_⟩
    rw [Dev.lane_cond]
    exact hworking

end lpll

/-! The line's signal (R228, R233) -/

section receivers
variable {d : Dev} {c e : Nat}

theorem signalDetected_shows (h : d.nearLoop c e = false) : (signalDetected c e d).on F.CM_LANE_STAT_RX_SIGNAL c e = true ∧
    ((d.lane c e).rx = 0 → d.get F.CM_LANE_STAT_LOOP c e ≠ 3 → ((signalDetected c e d).lane c e).rx = 2) := by
  have hloop : (d.flag F.CM_LANE_STAT_RX_SIGNAL true c e).get F.CM_LANE_STAT_LOOP c e = d.get F.CM_LANE_STAT_LOOP c e :=
    Dev.get_set_other _ _ _ _ _ _ _ _ (by decide)
  have heq : signalDetected c e d = if (d.lane c e).rx = 0 ∧ d.get F.CM_LANE_STAT_LOOP c e ≠ 3 then
      (d.flag F.CM_LANE_STAT_RX_SIGNAL true c e).setRx c e 2 else d.flag F.CM_LANE_STAT_RX_SIGNAL true c e := by
    rw [← hloop]
    exact if_neg (by simp [h])
  rw [heq]
  refine ⟨?_, fun hrx hnot => ?_⟩
  · split
    · rw [Dev.on_of_keeps (Dev.setRx_keeps ..) (by decide +kernel), Dev.on_flag_self rfl]
    · exact Dev.on_flag_self rfl ..
  · rw [if_pos ⟨hrx, hnot⟩, Dev.lane_setRx]

theorem electricalIdleDetected_shows (h : d.nearLoop c e = false) :
    (electricalIdleDetected c e d).on F.CM_LANE_STAT_RX_SIGNAL c e = false ∧ ((electricalIdleDetected c e d).lane c e).rx = 0 ∧
      ((electricalIdleDetected c e d).lane c e).working = false := by
  have heq : electricalIdleDetected c e d =
      (((d.flag F.CM_LANE_STAT_RX_SIGNAL false c e).modLane c e fun l => { l with line := .init }).setRx c e 0).loseEnd c e :=
    if_neg (by simp [h])
  rw [heq]
  refine ⟨?_, ?_, Dev.working_loseEnd_self ..⟩
  · rw [Dev.on_of_keeps (Dev.loseEnd_keeps ..) (by decide +kernel), Dev.on_of_keeps (Dev.setRx_keeps ..) (by decide +kernel)]
    exact (Dev.on_congr (d := d.flag F.CM_LANE_STAT_RX_SIGNAL false c e) rfl ..).trans (Dev.on_flag_self rfl ..)
  · rw [Dev.lane_loseEnd _ _ _ LaneSt.rx, Dev.lane_setRx]

/-! What a receiver recognises (R228, R229, R239) -/

/-- A comma of known type moves a receiver from HUNT to CHECK, from CHECK to ALIGNED after three, and leaves an aligned one so. -/
theorem Dev.goodComma_moves (d : Dev) : ((d.lane c e).rx = 2 → ((d.goodComma c e).lane c e).rx = 3) ∧
    ((d.lane c e).rx = 3 → 2 ≤ (d.lane c e).good → ((d.goodComma c e).lane c e).rx = 4 ∧ ((d.goodComma c e).lane c e).alignedAt = d.now) ∧
    ((d.lane c e).rx = 4 → ((d.goodComma c e).lane c e).rx = 4 ∧ ((d.goodComma c e).lane c e).working = (d.lane c e).working) := by
  refine ⟨fun h => ?_, fun h hgood => ?_, fun h => ?_⟩
  · have heq : d.goodComma c e = (d.modLane c e fun l => { l with good := 0 }).setRx c e 3 := if_pos h
    rw [heq, Dev.lane_setRx]
  · have heq : d.goodComma c e = (d.modLane c e fun l => { l with good := 0, viol := 0, clean := 0, alignedAt := d.now }).setRx c e 4 := by
      simp [Dev.goodComma, h, hgood]
    rw [heq, Dev.lane_setRx, Dev.lane_modLane_self]
    exact ⟨rfl, rfl⟩
  · have heq : d.goodComma c e = d.modLane c e fun l => { l with clean := satInc 16 l.clean } := by simp [Dev.goodComma, h]
    rw [heq, Dev.lane_modLane_self]
    exact ⟨h, rfl⟩

theorem Dev.lineEvent_comma (hloop : d.looping c e = false) {k : Nat} (hk : knownComma k = true) :
    d.lineEvent c e (.comma k) = (d.flag F.CM_LANE_STAT_EIDLE_SEEN (k == 0xF0) c e).goodComma c e := by
  simp [Dev.lineEvent, hloop, hk]

theorem Dev.lineEvent_fill (hloop : d.looping c e = true) (k : Nat) : d.lineEvent c e (.fill k) = d.addTo F.CM_LANE_LOOP_BITERR k c e := by
  simp [Dev.lineEvent, hloop]

theorem Dev.lineEvent_spacing (hloop : d.looping c e = false) :
    d.lineEvent c e .spacing = (d.count F.CM_LANE_ERR_SPACING c e).violation c e := by
  simp [Dev.lineEvent, hloop]

/-- The fourth violation without 16 clean commas between two loses alignment (R229). -/
theorem Dev.violation_fourth (hrx : (d.lane c e).rx = 4) (hviol : (d.lane c e).viol = 3) (hclean : (d.lane c e).clean < 16) :
    d.violation c e = (((((d.modLane c e fun l => { l with viol := 4, clean := 0 }).modLane c e fun l => { l with viol := 0 }).count
      F.CM_LANE_ERR_ALIGN_LOSS c e).setRx c e 2).loseEnd c e) := by
  simp [Dev.violation, hrx, hviol, Nat.not_le_of_lt hclean]

theorem Dev.violation_fourth_shows (hrx : (d.lane c e).rx = 4) (hviol : (d.lane c e).viol = 3) (hclean : (d.lane c e).clean < 16) :
    ((d.violation c e).lane c e).rx = 2 ∧ ((d.violation c e).lane c e).working = false ∧
      (d.violation c e).get F.CM_LANE_ERR_ALIGN_LOSS c e = satInc 0xFF (d.get F.CM_LANE_ERR_ALIGN_LOSS c e) := by
  rw [Dev.violation_fourth hrx hviol hclean]
  refine ⟨?_, Dev.working_loseEnd_self .., ?_⟩
  · rw [Dev.lane_loseEnd _ _ _ LaneSt.rx, Dev.lane_setRx]
  · rw [(Dev.loseEnd_keeps ..).2 _ _ _ (by decide +kernel), (Dev.setRx_keeps ..).2 _ _ _ (by decide +kernel), Dev.get_count_self]
    rfl

/-- The device with the receiver's line after a piece of it. -/
def Dev.lineRead (c e : Nat) (r : LineRx) (d : Dev) : Dev := d.modLane c e fun l => { l with line := r }

theorem Dev.lane_lineRead {β : Type} (π : LaneSt → β) (r : LineRx) (h : ∀ l, π { l with line := r } = π l := by intro; rfl) :
    π ((d.lineRead c e r).lane c e) = π (d.lane c e) := by rw [Dev.lineRead, Dev.lane_modLane_self, h]

theorem Dev.looping_lineRead (r : LineRx) : (d.lineRead c e r).looping c e = d.looping c e := rfl

section commaReceived
variable {bits : List Bool} {r : LineRx}

theorem commaReceived_eq {evs : List LaneEvent} (h : (d.lane c e).line.scan bits = (r, evs)) :
    commaReceived c e bits d = evs.foldl (Dev.lineEvent c e) (d.lineRead c e r) := by
  unfold commaReceived
  rw [h]
  rfl

/-- In a loop the fill before a comma counts its bits in error, and the receiver stays where it is (R239). -/
theorem commaReceived_fill {k : Nat} (h : (d.lane c e).line.scan bits = (r, [.fill k])) (hloop : d.looping c e = true) :
    (commaReceived c e bits d).bank = (d.addTo F.CM_LANE_LOOP_BITERR k c e).bank ∧
      ((commaReceived c e bits d).lane c e).rx = (d.lane c e).rx := by
  have heq : commaReceived c e bits d = (d.lineRead c e r).addTo F.CM_LANE_LOOP_BITERR k c e :=
    (commaReceived_eq h).trans (Dev.lineEvent_fill ((Dev.looping_lineRead r).trans hloop) k)
  rw [heq, Dev.lane_addTo]
  exact ⟨rfl, Dev.lane_lineRead LaneSt.rx r⟩

theorem commaReceived_comma {k : Nat} (h : (d.lane c e).line.scan bits = (r, [.comma k])) (hloop : d.looping c e = false)
    (hk : knownComma k = true) : (commaReceived c e bits d).on F.CM_LANE_STAT_EIDLE_SEEN c e = (k == 0xF0) ∧
      ((d.lane c e).rx = 2 → ((commaReceived c e bits d).lane c e).rx = 3) ∧
      ((d.lane c e).rx = 3 → 2 ≤ (d.lane c e).good →
        ((commaReceived c e bits d).lane c e).rx = 4 ∧ ((commaReceived c e bits d).lane c e).alignedAt = d.now) ∧
      ((d.lane c e).rx = 4 →
        ((commaReceived c e bits d).lane c e).rx = 4 ∧ ((commaReceived c e bits d).lane c e).working = (d.lane c e).working) := by
  have heq : commaReceived c e bits d = ((d.lineRead c e r).flag F.CM_LANE_STAT_EIDLE_SEEN (k == 0xF0) c e).goodComma c e :=
    (commaReceived_eq h).trans (Dev.lineEvent_comma ((Dev.looping_lineRead r).trans hloop) hk)
  have hmoves := Dev.goodComma_moves (c := c) (e := e) ((d.lineRead c e r).flag F.CM_LANE_STAT_EIDLE_SEEN (k == 0xF0) c e)
  rw [Dev.lane_flag, Dev.lane_lineRead LaneSt.rx r, Dev.lane_lineRead LaneSt.good r, Dev.lane_lineRead LaneSt.working r] at hmoves
  rw [heq, Dev.on_of_keeps (Dev.goodComma_keeps ..) (by decide +kernel), Dev.on_flag_self rfl]
  exact ⟨rfl, hmoves⟩

/-- The fourth spacing violation sends an aligned receiver back to HUNT and loses its end (R229, R278). -/
theorem commaReceived_misaligned (h : (d.lane c e).line.scan bits = (r, [.spacing])) (hloop : d.looping c e = false) (hrx : (d.lane c e).rx = 4)
    (hviol : (d.lane c e).viol = 3) (hclean : (d.lane c e).clean < 16) : ((commaReceived c e bits d).lane c e).rx = 2 ∧
      ((commaReceived c e bits d).lane c e).working = false ∧
      (commaReceived c e bits d).get F.CM_LANE_ERR_ALIGN_LOSS c e = satInc 0xFF (d.get F.CM_LANE_ERR_ALIGN_LOSS c e) ∧
      (commaReceived c e bits d).get F.CM_LANE_ERR_SPACING c e =
        satInc (2 ^ F.CM_LANE_ERR_SPACING.width - 1) (d.get F.CM_LANE_ERR_SPACING c e) := by
  have heq : commaReceived c e bits d = ((d.lineRead c e r).count F.CM_LANE_ERR_SPACING c e).violation c e :=
    (commaReceived_eq h).trans (Dev.lineEvent_spacing ((Dev.looping_lineRead r).trans hloop))
  obtain ⟨hhunt, hlost, halign⟩ := Dev.violation_fourth_shows (d := (d.lineRead c e r).count F.CM_LANE_ERR_SPACING c e) (c := c) (e := e)
    (by rw [Dev.lane_count, Dev.lane_lineRead LaneSt.rx r, hrx]) (by rw [Dev.lane_count, Dev.lane_lineRead LaneSt.viol r, hviol])
    (by rw [Dev.lane_count, Dev.lane_lineRead LaneSt.clean r]; exact hclean)
  have hspacing : ((d.lineRead c e r).count F.CM_LANE_ERR_SPACING c e).get F.CM_LANE_ERR_ALIGN_LOSS c e = d.get F.CM_LANE_ERR_ALIGN_LOSS c e :=
    Dev.get_set_other _ _ _ _ _ _ _ _ (by decide)
  rw [heq]
  refine ⟨hhunt, hlost, by rw [halign, hspacing], ?_⟩
  rw [(Dev.violation_keeps ..).2 _ _ _ (by decide +kernel), Dev.get_count_self]
  rfl

end commaReceived

end receivers

/-! Transmitters (R227, R234, R235) -/

section transmitters
variable {d : Dev} {c e : Nat}

theorem Dev.out_laneIdle (forced : Bool) (d : Dev) : (d.laneIdle c e forced).out = d.out := by
  unfold Dev.laneIdle
  repeat' split
  all_goals rfl

theorem transmitEidle_sends (h : (d.lane c e).eidleDue = true) : (transmitEidle c e d).out = d.out ++ [.eidle c (e == 1)] ∧
    (transmitEidle c e d).on F.CM_LANE_STAT_TX_IDLE c e = true := by
  rw [transmitEidle, if_pos h]
  exact ⟨Dev.out_laneIdle .., Dev.txIdle_laneIdle_forced ..⟩

theorem wakeSequenceEnd_ends {t : Nat} (h : (d.lane c e).wakeEnd = some t) (ht : t ≤ d.now) : wakeSequenceEnd c e d =
    ((d.modLane c e fun l => { l with wakeEnd := none, alignedAt := d.now }).showLane c e).emit (.idle c (e == 1) 1) := by
  simp [wakeSequenceEnd, h, ht]

/-- A transmitter that has nothing to send goes on with an IDLE comma, unless a mark is in its way (R227, R230). -/
theorem Dev.goIdle_goes (hended : (d.lane c e).ended = true) (hsend : d.sending c e = true) (hover : (d.lane c e).txEnd < 10 * d.now)
    (hnext : d.startsAt c e (d.lane c e).txEnd = none) : d.goIdle c e =
      if clearOfMarks (d.rate c) (d.lineCt (d.lane c e).txEnd) (32 * uiUnits (d.rate c)) = true then
        (d.modLane c e fun l => { l with ended := false, txEnd := l.txEnd + 32 * uiUnits (d.rate c) }).emit (.idle c (e == 1) 1)
      else d.modLane c e fun l => { l with ended := false } :=
  if_neg (by simp [hended, hsend, hnext, Nat.not_le_of_lt hover])

/-- The transmitter is then past the frame that has ended; the comma takes 32 unit intervals. -/
theorem Dev.goIdle_shows (hended : (d.lane c e).ended = true) (hsend : d.sending c e = true) (hover : (d.lane c e).txEnd < 10 * d.now)
    (hnext : d.startsAt c e (d.lane c e).txEnd = none) : ((d.goIdle c e).lane c e).ended = false ∧
      (clearOfMarks (d.rate c) (d.lineCt (d.lane c e).txEnd) (32 * uiUnits (d.rate c)) = true →
        (d.goIdle c e).out = d.out ++ [.idle c (e == 1) 1] ∧
        ((d.goIdle c e).lane c e).txEnd = (d.lane c e).txEnd + 32 * uiUnits (d.rate c)) := by
  rw [Dev.goIdle_goes hended hsend hover hnext]
  refine ⟨?_, fun hclear => ?_⟩
  · split
    · rw [Dev.lane_emit, Dev.lane_modLane_self]
    · rw [Dev.lane_modLane_self]
  · rw [if_pos hclear, Dev.lane_emit, Dev.lane_modLane_self]
    exact ⟨rfl, rfl⟩

end transmitters

/-- Settles O36: each command by what it shows; the courses of a PLL that loses lock go silent one after another. -/
theorem lanes : Obligations.Lanes := by
  rintro s dt _ rfl hl
  refine ⟨fun p counts hlen hpll hnot => ⟨fun hall => ⟨_, exec_live hl rfl (lpllLock_locks hlen hpll hnot hall), Dev.lpllUp_shows ..⟩,
      fun hbad => exec_live hl rfl (lpllLock_waits hbad)⟩,
    fun p count => ⟨fun hout hlocked => ?_, fun hin => exec_live hl rfl (if_pos hin)⟩,
    fun c n hnear => ⟨⟨_, exec_live hl rfl rfl, signalDetected_shows hnear⟩,
      ⟨_, exec_live hl rfl rfl, electricalIdleDetected_shows hnear⟩⟩,
    fun c n bits r evs hscan => ⟨exec_live hl rfl (commaReceived_eq hscan), ?_, ?_, ?_⟩,
    fun c n => ⟨fun hdue => ⟨_, exec_live hl rfl rfl, transmitEidle_sends hdue⟩, fun t hwake ht => ?_⟩,
    fun c n hended hsend hover hnext => Dev.goIdle_shows hended hsend hover hnext⟩
  · exact ⟨_, exec_live hl rfl (if_neg (by simp [hout])), Dev.loseLpll_shows hlocked⟩
  · rintro hloop k rfl
    exact ⟨_, exec_live hl rfl rfl, commaReceived_fill hscan hloop⟩
  · rintro hloop k hk rfl
    exact ⟨_, exec_live hl rfl rfl, commaReceived_comma hscan hloop hk⟩
  · rintro hloop rfl hrx hviol hclean
    exact ⟨_, exec_live hl rfl rfl, commaReceived_misaligned hscan hloop hrx hviol hclean⟩
  · refine ⟨_, exec_live hl rfl (wakeSequenceEnd_ends hwake ht), ?_⟩
    rw [Dev.lane_emit, Dev.lane_showLane, Dev.lane_modLane_self]
    exact ⟨rfl, rfl, rfl⟩

end Sys2Proof.Machine
end

section
/-! PROOF. Loops and holds of a lane (R238 to R242): what the commands of CM_LANE_x_CTL leave, the words of a far-end loop, and the ends of a
loop. -/

namespace Sys2Proof.Machine

section loops
variable {d : Dev} {x c e : Nat}

/-! The commands and their checks (R238) -/

theorem Dev.laneCmd_failed (hacc : d.refusal x true (laneCtl c e) = none) {cmd hops : Nat} (f : Dev → Dev) (h : d.loopCheck c e cmd hops ≠ 0) :
    d.laneCmd x c e cmd hops f = d.set F.CM_LANE_CTL_RESULT (d.loopCheck c e cmd hops) c e := by
  rw [Dev.laneCmd, Dev.hostWrite_accepted _ _ _ _ hacc]
  exact if_pos h

theorem Dev.laneCmd_done (hacc : d.refusal x true (laneCtl c e) = none) {cmd hops : Nat} (f : Dev → Dev) (h : d.loopCheck c e cmd hops = 0) :
    d.laneCmd x c e cmd hops f = f (d.set F.CM_LANE_CTL_RESULT 0 c e) := by
  rw [Dev.laneCmd, Dev.hostWrite_accepted _ _ _ _ hacc]
  exact if_neg (not_not_intro h)

/-- A lane that enters a loop or hold, before its transmitter and receiver follow. -/
def Dev.loopBegun (c e cmd : Nat) (d : Dev) : Dev := ((d.set F.CM_LANE_STAT_LOOP cmd c e).modLane c e fun l => { l with txq := [] }).loseEnd c e

/-- A loop or hold that takes effect shows its command, and its end works no longer. -/
theorem Dev.loopBegun_shows {cmd : Nat} (hcmd : cmd < 8) (d : Dev) :
    (d.loopBegun c e cmd).get F.CM_LANE_STAT_LOOP c e = cmd ∧ ((d.loopBegun c e cmd).lane c e).working = false := by
  refine ⟨?_, Dev.working_loseEnd_self ..⟩
  rw [Dev.loopBegun, (Dev.loseEnd_keeps ..).2 F.CM_LANE_STAT_LOOP c e (by decide +kernel), Dev.get_modLane, Dev.get_set_self]
  exact Nat.mod_eq_of_lt hcmd

theorem Dev.enterLoop_shows {cmd : Nat} (hcmd : cmd < 8) (d : Dev) : (d.enterLoop c e cmd).get F.CM_LANE_STAT_LOOP c e = cmd ∧
    (d.enterLoop c e cmd).get F.CM_LANE_CTL_RESULT c e = d.get F.CM_LANE_CTL_RESULT c e ∧ ((d.enterLoop c e cmd).lane c e).working = false := by
  obtain ⟨hloop, hworking⟩ := Dev.loopBegun_shows (c := c) (e := e) hcmd d
  have hidle (a : Dev) : ((a.laneIdle c e false).lane c e).working = (a.lane c e).working := Dev.lane_laneIdle a c e false LaneSt.working c e
  have hrx (a : Dev) (st : Nat) : ((a.setRx c e st).lane c e).working = (a.lane c e).working := by rw [Dev.lane_setRx]
  have hidleLoop (a : Dev) : (a.laneIdle c e false).get F.CM_LANE_STAT_LOOP c e = a.get F.CM_LANE_STAT_LOOP c e :=
    (Dev.laneIdle_keeps ..).2 _ _ _ (by decide +kernel)
  have hrxLoop (a : Dev) (st : Nat) : (a.setRx c e st).get F.CM_LANE_STAT_LOOP c e = a.get F.CM_LANE_STAT_LOOP c e :=
    (Dev.setRx_keeps ..).2 _ _ _ (by decide +kernel)
  have heq : d.enterLoop c e cmd = if cmd = 3 then (d.loopBegun c e cmd).setRx c e 0 else
      if cmd = 4 then (d.loopBegun c e cmd).laneIdle c e false else ((d.loopBegun c e cmd).laneIdle c e false).setRx c e 0 := rfl
  refine ⟨?_, (Dev.enterLoop_keeps ..).2 _ _ _ (by decide +kernel), ?_⟩
  · rw [heq]
    repeat' split
    all_goals simp only [hrxLoop, hidleLoop, hloop]
  · rw [heq]
    repeat' split
    all_goals simp only [hrx, hidle, hworking]

/-- A far-end loop lets its transmitter go on. -/
theorem Dev.txIdle_enterLoop_far (d : Dev) : (d.enterLoop c e 3).on F.CM_LANE_STAT_TX_IDLE c e = d.on F.CM_LANE_STAT_TX_IDLE c e := by
  have heq : d.enterLoop c e 3 = (d.loopBegun c e 3).setRx c e 0 := rfl
  rw [heq, Dev.on_of_keeps (Dev.setRx_keeps ..) (by decide +kernel), Dev.loopBegun, Dev.on_of_keeps (Dev.loseEnd_keeps ..) (by decide +kernel)]
  exact Dev.on_set_other d F.CM_LANE_STAT_LOOP F.CM_LANE_STAT_TX_IDLE 3 c e c e (by decide)

/-- The loops at the near end and the hold. -/
theorem Dev.laneCmd_enters (hacc : d.refusal x true (laneCtl c e) = none) {cmd : Nat} (hcmd : cmd < 8) (h : d.loopCheck c e cmd 0 = 0) :
    (d.laneCmd x c e cmd 0 (Dev.enterLoop c e cmd)).get F.CM_LANE_STAT_LOOP c e = cmd ∧
      (d.laneCmd x c e cmd 0 (Dev.enterLoop c e cmd)).get F.CM_LANE_CTL_RESULT c e = 0 ∧
      ((d.laneCmd x c e cmd 0 (Dev.enterLoop c e cmd)).lane c e).working = false := by
  rw [Dev.laneCmd_done hacc _ h]
  obtain ⟨hloop, hresult, hworking⟩ := Dev.enterLoop_shows (c := c) (e := e) hcmd (d.set F.CM_LANE_CTL_RESULT 0 c e)
  exact ⟨hloop, hresult.trans (Dev.get_set_self ..), hworking⟩

/-! The words of a far-end loop (R239, R241, R242) -/

/-- The ENTER word a lane in a far-end loop sends. -/
def Dev.enterWord (d : Dev) (c e : Nat) : Out := .frame c (e == 1) (.loopWord false (d.get F.CM_LANE_STAT_LOOP_HOPS c e))

theorem Dev.loopWord_idle (h : d.on F.CM_LANE_STAT_TX_IDLE c e = true) : d.loopWord c e = d := if_pos h

theorem Dev.loopWord_sent (h : d.on F.CM_LANE_STAT_TX_IDLE c e = false) :
    (d.loopWord c e).bank = d.bank ∧ (d.loopWord c e).out = d.out ++ [d.enterWord c e] := by
  simp [Dev.loopWord, h, Dev.emit, Dev.enterWord]

@[simp] theorem Dev.loopWord_bank : (d.loopWord c e).bank = d.bank := by
  unfold Dev.loopWord
  split <;> rfl

theorem Dev.loopIdle_idle (h : d.on F.CM_LANE_STAT_TX_IDLE c e = true) (n : Nat) : d.loopIdle c e n = d := if_pos (by simp [h])

theorem Dev.loopIdle_sent (h : d.on F.CM_LANE_STAT_TX_IDLE c e = false) (n : Nat) :
    (d.loopIdle c e n).bank = d.bank ∧ (d.loopIdle c e n).out = d.out ++ if n = 0 then [] else [.idle c (e == 1) n] := by
  by_cases hn : n = 0 <;> simp [Dev.loopIdle, h, hn, Dev.emit]

/-- IDLE commas with fill and the loop word after them. -/
theorem Dev.loopRound_sent (h : d.on F.CM_LANE_STAT_TX_IDLE c e = false) (n : Nat) :
    ((d.loopIdle c e n).loopWord c e).bank = d.bank ∧
      ((d.loopIdle c e n).loopWord c e).out = d.out ++ (if n = 0 then [] else [.idle c (e == 1) n]) ++ [d.enterWord c e] := by
  obtain ⟨hbank, hout⟩ := Dev.loopIdle_sent h n
  obtain ⟨hbank', hout'⟩ := Dev.loopWord_sent ((Dev.on_congr hbank ..).trans h)
  have hword : (d.loopIdle c e n).enterWord c e = d.enterWord c e := by rw [Dev.enterWord, Dev.get, hbank, Dev.enterWord, Dev.get]
  exact ⟨hbank'.trans hbank, by rw [hout', hout, hword]⟩

/-- Up to the 1,024 commas of R239 are one round of commas and a word. -/
theorem loopWordSend_round (hloop : d.get F.CM_LANE_STAT_LOOP c e = 3) {commas : Nat} (h : commas ≤ 1024) :
    loopWordSend c e commas d = (d.loopIdle c e commas).loopWord c e := by
  rw [loopWordSend, if_pos hloop]
  rcases Nat.lt_or_eq_of_le h with hlt | rfl
  · rw [Nat.div_eq_of_lt hlt, Nat.mod_eq_of_lt hlt]
    exact if_neg fun hc => hc.2 hc.1
  · rfl

theorem loopWordSend_idle (h : d.on F.CM_LANE_STAT_TX_IDLE c e = true) (commas : Nat) : loopWordSend c e commas d = d := by
  have hround (n : Nat) : (d.loopIdle c e n).loopWord c e = d := by rw [Dev.loopIdle_idle h, Dev.loopWord_idle h]
  have hrounds (l : List Nat) : d.each l (fun _ d => (d.loopIdle c e 1024).loopWord c e) = d := by
    induction l with
    | nil => rfl
    | cons y l ih => rw [Dev.each_cons, hround, ih]
  unfold loopWordSend
  simp only [hrounds, hround, ite_self]

/-- A far-end loop that awaits its confirmation, before its first word. -/
def Dev.loopAwaits (c e hops : Nat) (d : Dev) : Dev :=
  (((d.enterLoop c e 3).set F.CM_LANE_STAT_LOOP_HOPS hops c e).flag F.CM_LANE_CTL_BUSY true c e).modLane c e fun l =>
    { l with loopAt := (d.enterLoop c e 3).now, confirmed := false, loopSent := [] }

theorem Dev.loopAwaits_shows {hops : Nat} (hhops : hops < 128) (d : Dev) : (d.loopAwaits c e hops).get F.CM_LANE_STAT_LOOP c e = 3 ∧
    (d.loopAwaits c e hops).get F.CM_LANE_STAT_LOOP_HOPS c e = hops ∧ (d.loopAwaits c e hops).on F.CM_LANE_CTL_BUSY c e = true ∧
    (d.loopAwaits c e hops).on F.CM_LANE_STAT_TX_IDLE c e = d.on F.CM_LANE_STAT_TX_IDLE c e := by
  obtain ⟨hloop, -, -⟩ := Dev.enterLoop_shows (c := c) (e := e) (cmd := 3) (by decide) d
  have hbank : (d.loopAwaits c e hops).bank =
    (((d.enterLoop c e 3).set F.CM_LANE_STAT_LOOP_HOPS hops c e).flag F.CM_LANE_CTL_BUSY true c e).bank := rfl
  have hset : Dev.keeps ⟨[], [F.CM_LANE_STAT_LOOP_HOPS, F.CM_LANE_CTL_BUSY], []⟩ (d.enterLoop c e 3)
      (((d.enterLoop c e 3).set F.CM_LANE_STAT_LOOP_HOPS hops c e).flag F.CM_LANE_CTL_BUSY true c e) :=
    Dev.keeps_flag _ _ _ _ (by decide) (Dev.keeps_set _ _ _ _ (by decide) (Dev.keeps_refl ..))
  refine ⟨?_, ?_, ?_, ?_⟩
  · rw [Dev.get, hbank]
    exact (hset.2 _ _ _ (by decide)).trans hloop
  · rw [Dev.get, hbank]
    refine (Dev.get_set_other _ _ _ _ _ _ _ _ (by decide)).trans ((Dev.get_set_self ..).trans (Nat.mod_eq_of_lt hhops))
  · rw [Dev.on_congr hbank, Dev.on_flag_self rfl]
  · rw [Dev.on_congr hbank, Dev.on_of_keeps hset (by decide), Dev.txIdle_enterLoop_far]

/-- LOOP_FAR_END: the loop with its HOPS is shown and awaits its confirmation; a lane that is not idle sends the first word. -/
theorem loopFarEnd_enters (hacc : d.refusal x true (laneCtl c e) = none) {hops : Nat} (hhops : hops < 128) (h : d.loopCheck c e 3 hops = 0) :
    (loopFarEnd x c e hops d).get F.CM_LANE_STAT_LOOP c e = 3 ∧ (loopFarEnd x c e hops d).get F.CM_LANE_STAT_LOOP_HOPS c e = hops ∧
      (loopFarEnd x c e hops d).on F.CM_LANE_CTL_BUSY c e = true ∧
      (d.on F.CM_LANE_STAT_TX_IDLE c e = false →
        (loopFarEnd x c e hops d).out.getLast? = some (.frame c (e == 1) (.loopWord false hops))) := by
  obtain ⟨hloop, hhop, hbusy, hidle⟩ := Dev.loopAwaits_shows (c := c) (e := e) hhops (d.set F.CM_LANE_CTL_RESULT 0 c e)
  have heq : loopFarEnd x c e hops d = ((d.set F.CM_LANE_CTL_RESULT 0 c e).loopAwaits c e hops).loopWord c e := Dev.laneCmd_done hacc _ h
  rw [heq]
  refine ⟨?_, ?_, (Dev.on_congr Dev.loopWord_bank ..).trans hbusy, fun hnot => ?_⟩
  · rw [Dev.get, Dev.loopWord_bank]
    exact hloop
  · rw [Dev.get, Dev.loopWord_bank]
    exact hhop
  · have hsends := hidle.trans ((Dev.on_set_other _ _ _ _ _ _ _ _ (by decide)).trans hnot)
    rw [(Dev.loopWord_sent hsends).2, Dev.enterWord, hhop, List.getLast?_concat]

/-! Confirmation (R232, R241, R242) -/

section confirm
variable {word stamp sent : Nat} {rest : List Nat}

theorem loopConfirm_confirms (hloop : d.get F.CM_LANE_STAT_LOOP c e = 3) (hsent : (d.lane c e).loopSent = sent :: rest) {hops : Nat}
    (hword : loopCommand word = some (1, hops)) : loopConfirm c e word stamp d =
      (((d.modLane c e fun l => { l with loopSent := rest }).modLane c e fun l => { l with confirmed := true }).flag F.CM_LANE_CTL_BUSY false
        c e).set F.CM_LANE_LOOP_RT (clampN 0xFFFF ((d.rxStamp c stamp + stampSpan - sent) % stampSpan / 10)) c e := by
  simp only [loopConfirm, hsent, hloop, hword]
  rfl

theorem loopConfirm_other (hloop : d.get F.CM_LANE_STAT_LOOP c e = 3) (hsent : (d.lane c e).loopSent = sent :: rest)
    (hword : loopCommand word = none) : loopConfirm c e word stamp d = d.modLane c e fun l => { l with loopSent := rest } := by
  simp only [loopConfirm, hsent, hloop, hword]
  rfl

end confirm

/-! The end of a loop (R240) -/

/-- The registers of a lane whose loop has ended. -/
def Dev.loopCleared (c e : Nat) (result : Option Nat) (d : Dev) : Dev :=
  let d : Dev := ((d.set F.CM_LANE_STAT_LOOP 0 c e).set F.CM_LANE_STAT_LOOP_HOPS 0 c e).flag F.CM_LANE_CTL_BUSY false c e
  match result with
  | some r => d.set F.CM_LANE_CTL_RESULT r c e
  | none => d

theorem Dev.loopCleared_shows (result : Option Nat) (d : Dev) : (d.loopCleared c e result).get F.CM_LANE_STAT_LOOP c e = 0 ∧
    (d.loopCleared c e result).get F.CM_LANE_CTL_RESULT c e = result.elim (d.get F.CM_LANE_CTL_RESULT c e) (· % 0x100) := by
  have hclear : (((d.set F.CM_LANE_STAT_LOOP 0 c e).set F.CM_LANE_STAT_LOOP_HOPS 0 c e).flag F.CM_LANE_CTL_BUSY false c e).get
      F.CM_LANE_STAT_LOOP c e = 0 := by
    rw [Dev.flag, Dev.get_set_other _ _ _ _ _ _ _ _ (by decide), Dev.get_set_other _ _ _ _ _ _ _ _ (by decide), Dev.get_set_self]
    rfl
  cases result with
  | none =>
    refine ⟨hclear, ?_⟩
    simp only [Dev.loopCleared]
    rw [Dev.flag, Dev.get_set_other _ _ _ _ _ _ _ _ (by decide), Dev.get_set_other _ _ _ _ _ _ _ _ (by decide),
      Dev.get_set_other _ _ _ _ _ _ _ _ (by decide)]
    rfl
  | some r => exact ⟨(Dev.get_set_other _ _ _ _ _ _ _ _ (by decide)).trans hclear, Dev.get_set_self ..⟩

theorem Dev.endLoop_shows (result : Option Nat) (h : d.get F.CM_LANE_STAT_LOOP c e ≠ 0) :
    (d.endLoop c e result).get F.CM_LANE_STAT_LOOP c e = 0 ∧
    (d.endLoop c e result).get F.CM_LANE_CTL_RESULT c e = result.elim (d.get F.CM_LANE_CTL_RESULT c e) (· % 0x100) := by
  have hkeeps : ∃ a : Dev, a.bank = d.bank ∧
      Dev.keeps ⟨[.out, .cm], [F.CM_LANE_STAT_CDR_LOCK, F.CM_LANE_STAT_STATE, F.CM_LANE_STAT_TX_IDLE], []⟩
        (a.loopCleared c e result) (d.endLoop c e result) := by
    unfold Dev.endLoop
    rw [if_neg h]
    refine ⟨if (d.get F.CM_LANE_STAT_LOOP c e == 3 && !d.on F.CM_LANE_STAT_TX_IDLE c e && d.lpllLocked c) = true then
      d.emit (.frame c (e == 1) (.loopWord true (d.get F.CM_LANE_STAT_LOOP_HOPS c e))) else d, by split <;> rfl, ?_⟩
    refine Dev.keeps_step (by decide +kernel) (Dev.wakeLane_keeps ..) (Dev.keeps_ite ?_ ?_)
    · exact Dev.keeps_mono (by decide +kernel) (Dev.showLane_keeps ..)
    · exact Dev.keeps_mono (by decide +kernel) (Dev.setRx_keeps ..)
  obtain ⟨a, hbank, hkeeps⟩ := hkeeps
  obtain ⟨hloop, hresult⟩ := Dev.loopCleared_shows (c := c) (e := e) result a
  refine ⟨(hkeeps.2 _ _ _ (by decide +kernel)).trans hloop, (hkeeps.2 _ _ _ (by decide +kernel)).trans (hresult.trans ?_)⟩
  rw [Dev.get, hbank, Dev.get]

theorem loopEnd_ends (hacc : d.refusal x true (laneCtl c e) = none) (h : d.loopCheck c e 0 0 = 0) :
    (loopEnd x c e d).get F.CM_LANE_STAT_LOOP c e = 0 ∧ (loopEnd x c e d).get F.CM_LANE_CTL_RESULT c e = 0 := by
  have hresult : (d.set F.CM_LANE_CTL_RESULT 0 c e).get F.CM_LANE_CTL_RESULT c e = 0 := Dev.get_set_self ..
  rw [loopEnd, Dev.laneCmd_done hacc _ h]
  by_cases hloop : (d.set F.CM_LANE_CTL_RESULT 0 c e).get F.CM_LANE_STAT_LOOP c e = 0
  · rw [Dev.endLoop, if_pos hloop]
    exact ⟨hloop, hresult⟩
  · obtain ⟨hend, hkept⟩ := Dev.endLoop_shows none hloop
    exact ⟨hend, hkept.trans hresult⟩

theorem loopNoAnswer_ends (hloop : d.get F.CM_LANE_STAT_LOOP c e = 3) (hconf : (d.lane c e).confirmed = false)
    (hat : (d.lane c e).loopAt + 500000 ≤ d.now) : loopNoAnswer c e d = d.endLoop c e (some 5) :=
  if_pos ⟨hloop, by simp [hconf], hat⟩

end loops

theorem loopConfirm_shows {d : Dev} {c e stamp sent : Nat} {rest : List Nat} {word hops : Nat} (hloop : d.get F.CM_LANE_STAT_LOOP c e = 3)
    (hsent : (d.lane c e).loopSent = sent :: rest) (hword : loopCommand word = some (1, hops)) :
    (loopConfirm c e word stamp d).on F.CM_LANE_CTL_BUSY c e = false ∧
      (loopConfirm c e word stamp d).get F.CM_LANE_LOOP_RT c e = clampN 0xFFFF ((d.rxStamp c stamp + stampSpan - sent) % stampSpan / 10) ∧
      ((loopConfirm c e word stamp d).lane c e).confirmed = true ∧ ((loopConfirm c e word stamp d).lane c e).loopSent = rest := by
  rw [loopConfirm_confirms hloop hsent hword]
  refine ⟨?_, ?_, ?_, ?_⟩
  · rw [Dev.on_set_other _ _ _ _ _ _ _ _ (by decide), Dev.on_flag_self rfl]
  · rw [Dev.get_set_self]
    exact Nat.mod_eq_of_lt (Nat.lt_of_le_of_lt (clampN_le _ _) (by decide))
  · rw [Dev.lane_set, Dev.lane_flag, Dev.lane_modLane_self]
  · rw [Dev.lane_set, Dev.lane_flag, Dev.lane_modLane_self, Dev.lane_modLane_self]

/-- Settles O37: the checks as the one shared command, the loops by what their entry and their end show, the words by what a round of commas
and a word sends. -/
theorem loops : Obligations.Loops := by
  rintro s dt _ c n rfl hl
  refine ⟨fun x hacc => ⟨fun h => ⟨_, exec_live hl rfl rfl, Dev.laneCmd_enters hacc (by decide) h⟩,
      fun h => ⟨_, exec_live hl rfl rfl, Dev.laneCmd_enters hacc (by decide) h⟩,
      fun hops h => ⟨_, exec_live hl rfl rfl, loopFarEnd_enters hacc hops.isLt h⟩,
      fun h => ⟨_, exec_live hl rfl rfl, Dev.laneCmd_enters hacc (by decide) h⟩,
      fun h => ⟨_, exec_live hl rfl rfl, loopEnd_ends hacc h⟩, ?_⟩,
    fun hloop => ⟨fun commas hc hidle => ?_, fun commas hidle => ⟨_, exec_live hl rfl (loopWordSend_idle hidle commas), rfl, rfl⟩,
      fun word stamp sent rest hsent => ⟨fun hops hword => ?_, fun hword => exec_live hl rfl (loopConfirm_other hloop hsent hword)⟩,
      fun hconf hat => ?_⟩⟩
  · rintro i cmd hops (⟨rfl, rfl, rfl⟩ | ⟨rfl, rfl, rfl⟩ | ⟨h, rfl, rfl, rfl⟩ | ⟨rfl, rfl, rfl⟩ | ⟨rfl, rfl, rfl⟩) hfails <;>
      exact exec_live hl rfl (Dev.laneCmd_failed hacc _ hfails)
  · exact ⟨_, exec_live hl rfl (loopWordSend_round hloop hc), Dev.loopRound_sent hidle commas⟩
  · exact ⟨_, exec_live hl rfl rfl, loopConfirm_shows hloop hsent hword⟩
  · obtain ⟨hend, hresult⟩ := Dev.endLoop_shows (some 5) (by rw [hloop]; decide)
    exact ⟨_, exec_live hl rfl (loopNoAnswer_ends hloop hconf hat), hend, hresult⟩

end Sys2Proof.Machine
end

section
/-! PROOF. Discovery, measurement and the transaction window (R251, R266 to R269, R281): what transmission, measurement and the checks of bricks
leave of the paths, windows and queries of a course; then what a reply to a query, a probe's reply and an opening set. -/

namespace Sys2Proof.Machine

/-! What a course measures, opens and asks -/

/-- What a course exchanges with its bricks: its transaction windows, and its query but for the tick it left (R251, R281). -/
def CrsSt.exchange (r : CrsSt) : Bool × Bool × Nat × Option (Nat × Nat × Nat) :=
  (r.windowH, r.windowF, r.windowEnd, r.disc.map fun q => (q.phase, q.hop, q.rtt))

theorem CrsSt.exchange_inj {r q : CrsSt} (h : r.exchange = q.exchange) : r.windowH = q.windowH ∧ r.windowF = q.windowF ∧ r.windowEnd = q.windowEnd ∧
    (r.disc.map fun x => (x.phase, x.hop, x.rtt)) = q.disc.map fun x => (x.phase, x.hop, x.rtt) := by
  simpa only [CrsSt.exchange, Prod.mk.injEq] using h

/-- The same of every course. -/
def Dev.exchange (d : Dev) : Nat → Bool × Bool × Nat × Option (Nat × Nat × Nat) := fun c => (d.crs c).exchange

/-- The two-way paths to every brick from both ends (R268), and what every course exchanges with its bricks. -/
def Dev.reach (d : Dev) : (Nat → Option Nat × Option Nat) × (Nat → Bool × Bool × Nat × Option (Nat × Nat × Nat)) :=
  (fun b => ((d.dir b).wH, (d.dir b).wF), d.exchange)

section reach
variable {d e : Dev}

theorem Dev.exchange_of_reach (h : e.reach = d.reach) : e.exchange = d.exchange := congrArg Prod.snd h

theorem Dev.way_of_reach (h : e.reach = d.reach) (c p n : Nat) : e.way c p n = d.way c p n := by
  obtain ⟨hH, hF⟩ := Prod.mk.inj (congrFun (congrArg Prod.fst h) (128 * c + p))
  rw [Dev.way, Dev.way, hH, hF]

theorem Dev.reach_congr (h : e.cm = d.cm) : e.reach = d.reach := by
  unfold Dev.reach Dev.exchange Dev.dir Dev.crs
  rw [h]

variable (d)

theorem Dev.exchange_modCrs (c : Nat) (f : CrsSt → CrsSt) (h : ∀ r, (f r).exchange = r.exchange := by intro; rfl) : (d.modCrs c f).exchange = d.exchange :=
  funext fun _ => tabD_tabMod_proj h ..

theorem Dev.reach_modCrs (c : Nat) (f : CrsSt → CrsSt) (h : ∀ r, (f r).exchange = r.exchange := by intro; rfl) : (d.modCrs c f).reach = d.reach :=
  Prod.ext rfl (d.exchange_modCrs c f h)

theorem Dev.reach_modDir (b : Nat) (f : DirSt → DirSt) (h : ∀ s, ((f s).wH, (f s).wF) = (s.wH, s.wF) := by intro; rfl) :
    (d.modDir b f).reach = d.reach :=
  Prod.ext (funext fun k => tabD_tabMod_proj (g := fun s : DirSt => (s.wH, s.wF)) h d.cm.dir b k .init) rfl

@[simp] theorem Dev.reach_modLane (c e : Nat) (f : LaneSt → LaneSt) : (d.modLane c e f).reach = d.reach := rfl

@[simp] theorem Dev.reach_ask (cls ctx rd slot : Nat) (write : Bool) (brick index value : Nat) :
    (d.ask cls ctx rd slot write brick index value).reach = d.reach := rfl

theorem Dev.reach_each {f : Nat → Dev → Dev} (h : ∀ n d, (f n d).reach = d.reach) (l : List Nat) : (d.each l f).reach = d.reach :=
  Dev.each_leaves h l d

/-! The transmitters: a query that starts is the same but for the tick it left -/

theorem CrsSt.exchange_sent (t : Nat) (r : CrsSt) : ({ r with disc := r.disc.map fun q => { q with sentAt := t } } : CrsSt).exchange = r.exchange := by
  cases h : r.disc <;> simp [CrsSt.exchange, h]

@[simp] theorem Dev.reach_goIdle (c e : Nat) : (d.goIdle c e).reach = d.reach := by
  unfold Dev.goIdle
  dsimp only
  repeat' split
  all_goals rfl

@[simp] theorem Dev.reach_started (c e t : Nat) (f : Frame) : (d.started c e t f).reach = d.reach := by
  unfold Dev.started
  split
  · rfl
  · exact Dev.reach_modCrs ..
  · exact Dev.reach_modCrs d c _ (CrsSt.exchange_sent (t / 10))
  · rfl

@[simp] theorem Dev.reach_beginFrame (c e : Nat) (w : TxWait) (t : Nat) : (d.beginFrame c e w t).reach = d.reach :=
  Dev.reach_started ..

@[simp] theorem Dev.reach_runLane (c e n : Nat) : (d.runLane c e n).reach = d.reach := by
  induction n generalizing d with
  | zero => exact d.reach_goIdle c e
  | succ n ih =>
    unfold Dev.runLane
    dsimp only
    split
    · rw [ih, Dev.reach_beginFrame, Dev.reach_goIdle]
    · exact d.reach_goIdle c e

@[simp] theorem Dev.reach_send (c e : Nat) (f : Frame) : (d.send c e f).reach = d.reach := by
  unfold Dev.send
  split
  · rfl
  · split
    · rfl
    · exact Dev.reach_runLane ..

/-! Requests and probes that start -/

@[simp] theorem Dev.reach_readValue (num slot v : Nat) : (d.readValue num slot v).reach = d.reach := by
  unfold Dev.readValue
  dsimp only
  repeat' split
  all_goals rfl

@[simp] theorem Dev.reach_serveLocal (n : Nat) : (d.serveLocal n).reach = d.reach := by
  induction n generalizing d with
  | zero => rfl
  | succ n ih =>
    unfold Dev.serveLocal
    split
    · rw [ih, Dev.reach_readValue]
      rfl
    · rfl

@[simp] theorem Dev.reach_sendReq (c e : Nat) (q : PtReq) : (d.sendReq c e q).reach = d.reach := Dev.reach_send ..

@[simp] theorem Dev.reach_startReqs (c e n : Nat) : (d.startReqs c e n).reach = d.reach := by
  induction n generalizing d with
  | zero => rfl
  | succ n ih =>
    unfold Dev.startReqs
    split
    · rfl
    · split
      · rw [ih, Dev.reach_sendReq]
      · rfl

@[simp] theorem Dev.reach_startProbe (c e : Nat) : (d.startProbe c e).reach = d.reach := by
  unfold Dev.startProbe
  dsimp only
  split
  · rfl
  · split
    · rfl
    · split
      · rfl
      · rw [Dev.reach_send]
        exact Dev.reach_modCrs ..

/-- What starts on the lines of a course changes no path, no window and no query but for the tick it leaves. -/
@[simp] theorem Dev.reach_pump (c : Nat) : (d.pump c).reach = d.reach := by
  unfold Dev.pump
  dsimp only
  split
  · exact d.reach_serveLocal _
  · refine (Dev.reach_each _ (fun n d => ?_) _).trans (d.reach_serveLocal _)
    split
    · rw [Dev.reach_startReqs, Dev.reach_startProbe]
    · rfl

/-! A measurement that ends, and the checks that wait for it -/

@[simp] theorem Dev.reach_startMeasure (c : Nat) : (d.startMeasure c).reach = d.reach := Dev.reach_modCrs ..

@[simp] theorem Dev.reach_updateDeliv (c : Nat) : (d.updateDeliv c).reach = d.reach :=
  Dev.reach_congr ((Dev.updateDeliv_keeps ..).1 .cm (by decide))

@[simp] theorem Dev.reach_writeLat (c p : Nat) (h f : Int) : (d.writeLat c p h f).reach = d.reach := by
  unfold Dev.writeLat
  dsimp only
  refine (Dev.reach_modDir ..).trans ?_
  simp only [apply_ite Dev.reach, Dev.reach_ask, ite_self]

@[simp] theorem Dev.reach_finishMeasure (c : Nat) : (d.finishMeasure c).reach = d.reach := by
  have hdone (d : Dev) : (((d.modCrs c fun r => { r with measuring := false }).count F.CM_CRS_MEAS_ROUNDS c).updateDeliv c).reach = d.reach :=
    (Dev.reach_updateDeliv ..).trans (Dev.reach_modCrs ..)
  unfold Dev.finishMeasure
  dsimp only
  split
  · simp only [apply_ite Dev.reach, hdone, Dev.reach_startMeasure, Dev.reach_each _ fun p d => Dev.reach_writeLat d c p _ _, ite_self]
  · exact hdone d

@[simp] theorem Dev.reach_configBrick (b : Nat) : (d.configBrick b).reach = d.reach := by
  have hpoint (d : Dev) (i v : Nat) : (d.modDir b fun s => { s with points := tabSet s.points i v }).reach = d.reach := Dev.reach_modDir ..
  unfold Dev.configBrick
  simp only [apply_ite Dev.reach, hpoint, Dev.reach_ask, ite_self]

@[simp] theorem Dev.reach_checkOn (b : Nat) : (d.checkOn b).reach = d.reach := by
  have hphase (d : Dev) (n : Nat) : (d.modDir b fun s => { s with phase := n }).reach = d.reach := Dev.reach_modDir ..
  have hverdict (v : Nat) : (d.modDir b fun s => { s with verdict := v, phase := 5 }).reach = d.reach := Dev.reach_modDir ..
  unfold Dev.checkOn
  simp only [apply_ite Dev.reach, hphase, hverdict, Dev.reach_configBrick, Dev.reach_startMeasure, ite_self]

@[simp] theorem Dev.reach_checksOn (c : Nat) : (d.checksOn c).reach = d.reach :=
  Dev.reach_each d (fun p d => by
    split
    · exact d.reach_checkOn _
    · rfl) _

/-- The measurement of a course ends when no probe is left (R290). -/
def Dev.measureOn (c : Nat) (d : Dev) : Dev :=
  if (d.crs c).measuring && (d.crs c).probes.isEmpty && (d.crs c).probing.isEmpty then (d.finishMeasure c).checksOn c else d

@[simp] theorem Dev.reach_measureOn (c : Nat) : (d.measureOn c).reach = d.reach := by
  unfold Dev.measureOn
  split
  · rw [Dev.reach_checksOn, Dev.reach_finishMeasure]
  · rfl

theorem Dev.measureOn_keeps (c : Nat) : Dev.keeps ⟨[.cm], [F.CM_CRS_DELIV_DELIV, F.CM_CRS_DELIV_WORST, F.CM_CRS_MEAS_ROUNDS,
    F.CM_DIR_W3_LAT_F, F.CM_DIR_W3_LAT_H], []⟩ d (d.measureOn c) :=
  Dev.keeps_ite (Dev.keeps_step (by decide +kernel) (Dev.checksOn_keeps ..) (Dev.finishMeasure_keeps ..)) (Dev.keeps_refl _ _)

end reach

/-! A brick that answers at an empty position (R281) -/

/-- The entry of a brick just found: its kind and UID, FOUND. -/
def Dev.entered (c p kind uid : Nat) (d : Dev) : Dev :=
  ((((d.set F.CM_DIR_W0_KIND kind c p).set F.CM_DIR_W1_UID_LO (uid % 0x100000000) c p).set F.CM_DIR_W2_UID_HI (uid / 0x100000000) c p).set
    F.CM_DIR_W0_REASON 0 c p).setEntry c p 1

/-- A brick has answered from an end: its UID and, where none is measured yet, the path as the round trip gives it. -/
def Dev.answered (c p e uid rtt : Nat) (d : Dev) : Dev :=
  let d : Dev := d.modDir (128 * c + p) fun s => { s with
    confirmed := true, uidH := if e = 0 then some uid else s.uidH, uidF := if e = 0 then s.uidF else some uid,
    wH := if e = 0 && s.wH.isNone then some (10 * rtt) else s.wH, wF := if e = 1 && s.wF.isNone then some (10 * rtt) else s.wF }
  if e = 0 then d.flag F.CM_DIR_W0_FROM_H true c p else d.flag F.CM_DIR_W0_FROM_F true c p

/-- The entry of a position shows a brick FOUND, with a UID. -/
def Dev.showsFound (d : Dev) (c p uid : Nat) : Prop :=
  d.entry c p = 1 ∧ d.get F.CM_DIR_W1_UID_LO c p = uid % 0x100000000 ∧ d.get F.CM_DIR_W2_UID_HI c p = uid / 0x100000000 % 0x100000000

section found
variable {d e : Dev} {c p : Nat}

theorem Dev.entered_shows (kind uid : Nat) (d : Dev) : (d.entered c p kind uid).showsFound c p uid := by
  refine ⟨?_, ?_, ?_⟩
  · rw [Dev.entered, Dev.setEntry, Dev.countEntries, Dev.entry, Dev.get_set_other _ _ _ _ _ _ _ _ (by decide),
      Dev.get_set_other _ _ _ _ _ _ _ _ (by decide), Dev.get_set_self]
    rfl
  · rw [Dev.entered, (Dev.setEntry_keeps ..).2 _ _ _ (by decide), Dev.get_set_other _ _ _ _ _ _ _ _ (by decide),
      Dev.get_set_other _ _ _ _ _ _ _ _ (by decide), Dev.get_set_self]
    exact Nat.mod_mod ..
  · rw [Dev.entered, (Dev.setEntry_keeps ..).2 _ _ _ (by decide), Dev.get_set_other _ _ _ _ _ _ _ _ (by decide), Dev.get_set_self]
    rfl

theorem Dev.showsFound_of_keeps {S : Scope} {uid : Nat} (h : d.showsFound c p uid) (hk : Dev.keeps S d e)
    (hS : S.covers F.CM_DIR_W0_STATE = false ∧ S.covers F.CM_DIR_W1_UID_LO = false ∧ S.covers F.CM_DIR_W2_UID_HI = false := by decide) :
    e.showsFound c p uid := by
  obtain ⟨hstate, hlo, hhi⟩ := hS
  rwa [Dev.showsFound, Dev.entry, hk.2 _ _ _ hstate, hk.2 _ _ _ hlo, hk.2 _ _ _ hhi]

theorem Dev.answered_keeps (n uid rtt : Nat) (d : Dev) :
    Dev.keeps ⟨[.cm], [F.CM_DIR_W0_FROM_H, F.CM_DIR_W0_FROM_F], []⟩ d (d.answered c p n uid rtt) :=
  Dev.keeps_ite (Dev.keeps_flag _ _ _ _ (by decide) (Dev.keeps_mono (by decide) (Dev.modDir_keeps ..)))
    (Dev.keeps_flag _ _ _ _ (by decide) (Dev.keeps_mono (by decide) (Dev.modDir_keeps ..)))

/-- At an empty position nothing can match, so that the brick is entered afresh. -/
theorem Dev.foundAt_empty (h : d.entry c p = 0) (n num kind uid rtt : Nat) :
    ∃ d' : Dev, d.foundAt c p n num kind uid rtt = (d'.entered c p kind uid).answered c p n uid rtt :=
  ⟨_, if_neg (by simp [h])⟩

theorem Dev.foundAt_shows (h : d.entry c p = 0) (n num kind uid rtt : Nat) : (d.foundAt c p n num kind uid rtt).showsFound c p uid := by
  obtain ⟨d', hfound⟩ := Dev.foundAt_empty h n num kind uid rtt
  rw [hfound]
  exact Dev.showsFound_of_keeps (Dev.entered_shows kind uid d') (Dev.answered_keeps ..)

/-- A query sent is the one the course waits for. -/
theorem Dev.disc_query (phase hop rtt : Nat) (d : Dev) : ∃ t, ((d.query c phase hop rtt).crs c).disc = some ⟨phase, hop, rtt, t⟩ := by
  have hexchange : (d.query c phase hop rtt).exchange = _ := Dev.exchange_of_reach (Dev.reach_send ..)
  obtain ⟨-, -, -, hdisc⟩ := CrsSt.exchange_inj (congrFun hexchange c)
  rw [Dev.crs_modCrs_self] at hdisc
  obtain ⟨⟨_, _, _, t⟩, hq, heq⟩ := Option.map_eq_some_iff.mp hdisc
  obtain ⟨rfl, rfl, rfl⟩ : _ ∧ _ ∧ _ := by simpa using heq
  exact ⟨t, hq⟩

variable {fr : RxFrame} {q : Disc}

/-- The reply to a query of the head end that is not the last: the brick is entered and the next hop asked. -/
theorem discoverReplyReceived_head (hp : d.passes c 0 = true) (hk : checkFrame fr.bytes fr.violation = .ok) (ht : fieldLe fr.bytes 0 1 = 0x43)
    (hreply : fieldLe fr.bytes 1 1 = 1) (hq : (d.crs c).disc = some q) (hphase : q.phase = 0)
    (hnext : q.hop + 1 < if d.nc c = 0 then 128 else d.nc c) : discoverReplyReceived c 0 fr d =
    (d.foundAt c q.hop 0 (fieldLe fr.bytes 4 2) (fieldLe fr.bytes 7 1) (fieldLe fr.bytes 8 8) (d.now - q.sentAt)).query c 0 (q.hop + 1)
      (d.now - q.sentAt) := by
  rw [discoverReplyReceived, Dev.onFrame_ok hp hk ht]
  simp [hq, hreply, hphase, Dev.queryReply, hnext]

theorem discoverTimeout_next (hq : (d.crs c).disc = some q) (hphase : q.phase ≠ 5) (hasks : d.asks c = false)
    (hlate : q.sentAt + q.rtt + 2000 ≤ d.now) : discoverTimeout c d = if q.phase = 0 then d.footQueries c else d.assignNext c := by
  simp [discoverTimeout, hq, hphase, hasks, Nat.not_lt.mpr hlate]

end found

/-! A probe's reply (R267 to R269) -/

/-- The path from an end to a brick as a probe found it, if it did: without one the brick is not reached from that end (R268, R280). -/
def Dev.wayTaken (c e p : Nat) (w : Option Nat) (d : Dev) : Dev :=
  let d : Dev := d.modDir (128 * c + p) fun s => { s with wH := if e = 0 then w else s.wH, wF := if e = 0 then s.wF else w }
  if e = 0 then d.flag F.CM_DIR_W0_FROM_H w.isSome c p else d.flag F.CM_DIR_W0_FROM_F w.isSome c p

/-- A probe is over: on a spare course its end may send the next one, and the last one ends the measurement. -/
def Dev.probeOver (c e : Nat) (x : Probe) (d : Dev) : Dev :=
  Dev.pump c <| Dev.measureOn c <| d.modCrs c fun r =>
    { r with probing := r.probing.filter (· ≠ x), probed := if d.alwaysOpen c then r.probed.filter (· ≠ e) else r.probed }

section probe
variable {d : Dev} {c e : Nat} {fr : RxFrame} {x : Probe}

theorem Dev.dir_flag (f : Fld) (v : Bool) (i j b : Nat) (d : Dev) : (d.flag f v i j).dir b = d.dir b := rfl

theorem Dev.exchange_wayTaken (p : Nat) (w : Option Nat) (d : Dev) : (d.wayTaken c e p w).exchange = d.exchange := by
  unfold Dev.wayTaken
  split <;> rfl

theorem Dev.way_wayTaken (p : Nat) (w : Option Nat) (d : Dev) : (d.wayTaken c e p w).way c p e = w := by
  have hdir (f : DirSt → DirSt) : (d.modDir (128 * c + p) f).dir (128 * c + p) = f (d.dir (128 * c + p)) := tabD_tabSet_self ..
  by_cases he : e = 0
  · simp only [Dev.wayTaken, Dev.way, he, if_true, Dev.dir_flag, hdir]
  · simp only [Dev.wayTaken, Dev.way, he, if_false, Dev.dir_flag, hdir]

theorem Dev.from_wayTaken (p : Nat) (w : Option Nat) (d : Dev) :
    (if e = 0 then (d.wayTaken c e p w).on F.CM_DIR_W0_FROM_H c p else (d.wayTaken c e p w).on F.CM_DIR_W0_FROM_F c p) = w.isSome := by
  unfold Dev.wayTaken
  split
  · exact Dev.on_flag_self rfl ..
  · exact Dev.on_flag_self rfl ..

theorem Dev.reach_probeOver (x : Probe) (d : Dev) : (d.probeOver c e x).reach = d.reach := by
  rw [Dev.probeOver, Dev.reach_pump, Dev.reach_measureOn]
  exact Dev.reach_modCrs ..

theorem Dev.probeOver_keeps (x : Probe) (d : Dev) : Dev.keeps ⟨[.out, .cm, .dma], [F.CM_CRS_DELIV_DELIV, F.CM_CRS_DELIV_WORST,
    F.CM_CRS_MEAS_ROUNDS, F.CM_DIR_W3_LAT_F, F.CM_DIR_W3_LAT_H], []⟩ d (d.probeOver c e x) :=
  Dev.keeps_step (by decide +kernel) (Dev.pump_keeps ..) (Dev.keeps_step (by decide +kernel) (Dev.measureOn_keeps ..)
    (Dev.keeps_mono (by decide +kernel) (Dev.modCrs_keeps ..)))

theorem probeReplyReceived_eq (hp : d.passes c e = true) (hk : checkFrame fr.bytes fr.violation = .ok) (ht : fieldLe fr.bytes 0 1 = 0x44)
    (hx : ((d.crs c).probing.find? fun y => y.e == e && y.tid == fieldLe fr.bytes 2 1 && 128 * c + y.pos == fieldLe fr.bytes 4 2 % 0x2000) =
      some x) (stamp : Nat) : probeReplyReceived c e fr stamp d =
    (d.wayTaken c e x.pos (some ((d.rxStamp c stamp + stampSpan - x.stamp) % stampSpan - fieldLe fr.bytes 8 4))).probeOver c e x := by
  rw [probeReplyReceived, Dev.onFrame_ok hp hk ht]
  simp only [hx]
  rfl

end probe

/-! The transaction window (R251) -/

/-- The windows that open, and the half cycle at which they close. -/
def CrsSt.opened (h f : Bool) (t : Nat) (r : CrsSt) : CrsSt := { r with windowH := r.windowH || h, windowF := r.windowF || f, windowEnd := t }

/-- The windows of a course open, and what waited for them starts. -/
def Dev.windowsOpened (c : Nat) (h f : Bool) (t : Nat) (d : Dev) : Dev := ((d.dropProbes c).modCrs c (CrsSt.opened h f t)).pump c

section window
variable {d : Dev} {c : Nat}

/-- Probes given up take paths from a split course, but change neither its windows nor its query. -/
theorem Dev.exchange_dropProbes (c : Nat) (d : Dev) : (d.dropProbes c).exchange = d.exchange := by
  have hway (lost : List Probe) (d : Dev) : (lost.foldl (fun d x => d.wayTaken c x.e x.pos none) d).exchange = d.exchange :=
    Dev.foldl_leaves (fun d x => Dev.exchange_wayTaken (c := c) (e := x.e) x.pos none d) lost d
  refine (Dev.exchange_of_reach (Dev.reach_measureOn _ c)).trans ((Dev.exchange_modCrs ..).trans ?_)
  split
  · rfl
  · exact hway ..

/-- The windows due open, until the half cycle of the opening of the course's group (R251, R296). -/
theorem transactionWindowOpen_opens {g : Nat} (hg : d.groupOf c = some g) (hspare : d.alwaysOpen c = false)
    (hdue : (d.windowDue c 0 || d.windowDue c 1) = true) : transactionWindowOpen c d =
    d.windowsOpened c (d.windowDue c 0) (d.windowDue c 1) ((d.grp g).openTick + halfUs (d.grp g).cfg.cycle) := by
  have hsome : ¬(!d.windowDue c 0 && !d.windowDue c 1) = true := by rw [← Bool.not_or, hdue, Bool.not_true]; exact Bool.false_ne_true
  rw [transactionWindowOpen, hspare, if_neg Bool.false_ne_true]
  simp only [if_neg hsome, hg, Option.getD_some]
  rfl

theorem transactionWindowOpen_shut (hspare : d.alwaysOpen c = false) (hH : d.windowDue c 0 = false) (hF : d.windowDue c 1 = false) :
    transactionWindowOpen c d = d := by
  simp [transactionWindowOpen, hspare, hH, hF]

theorem CrsSt.window_opened (h f : Bool) (t : Nat) (r : CrsSt) (n : Nat) :
    (r.opened h f t).window n = (r.window n || if n = 0 then h else f) := by
  by_cases hn : n = 0 <;> simp [CrsSt.window, CrsSt.opened, hn]

theorem Dev.windowsOpened_shows (h f : Bool) (t : Nat) (d : Dev) :
    (∀ n, ((d.windowsOpened c h f t).crs c).window n = ((d.crs c).window n || if n = 0 then h else f)) ∧
      ((d.windowsOpened c h f t).crs c).windowEnd = t := by
  obtain ⟨hH, hF, -⟩ := CrsSt.exchange_inj (congrFun (Dev.exchange_dropProbes c d) c)
  have hexchange : (d.windowsOpened c h f t).exchange = _ := Dev.exchange_of_reach (Dev.reach_pump ..)
  obtain ⟨hH', hF', hend, -⟩ := CrsSt.exchange_inj (congrFun hexchange c)
  rw [Dev.crs_modCrs_self] at hH' hF' hend
  refine ⟨fun n => ?_, hend⟩
  rw [← CrsSt.window_opened h f t, CrsSt.window, CrsSt.window, hH', hF', CrsSt.opened, hH, hF]
  rfl

end window

/-- Settles O40: what is found, measured or opened is written first, and what then starts on the lines leaves it, but for the tick the query
leaves. -/
theorem discoveryAndWindow : Obligations.DiscoveryAndWindow := by
  rintro s dt _ c rfl hl
  refine ⟨fun fr q hp hk ht hreply hq hphase hnext _ hempty => ?_,
    fun q hq hphase hasks hlate => exec_live hl rfl (discoverTimeout_next hq hphase hasks hlate),
    fun n fr stamp x hp hk ht hx _ => ⟨_, exec_live hl rfl (probeReplyReceived_eq hp hk ht hx stamp), ?_, ?_⟩,
    fun g hg hspare hdue => ?_, fun hspare hH hF => exec_live hl rfl (transactionWindowOpen_shut hspare hH hF)⟩
  · obtain ⟨hstate, hlo, hhi⟩ := Dev.showsFound_of_keeps (Dev.foundAt_shows hempty ..) (Dev.query_keeps ..)
    exact ⟨_, exec_live hl rfl (discoverReplyReceived_head hp hk ht hreply hq hphase hnext), hstate, Dev.disc_query .., hlo, hhi⟩
  · rw [Dev.way_of_reach (Dev.reach_probeOver ..), Dev.way_wayTaken]
  · rw [Dev.on_of_keeps (Dev.probeOver_keeps ..) (by decide), Dev.on_of_keeps (Dev.probeOver_keeps ..) (by decide)]
    exact Dev.from_wayTaken ..
  · obtain ⟨hwindow, hend⟩ := Dev.windowsOpened_shows ..
    refine ⟨_, exec_live hl rfl (transactionWindowOpen_opens hg hspare hdue), fun n => (hwindow n.val).trans ?_, hend⟩
    obtain hn | hn : n.val = 0 ∨ n.val = 1 := by omega
    · rw [hn, if_pos rfl]
    · rw [hn, if_neg Nat.one_ne_zero]

end Sys2Proof.Machine
end

section
/-! PROOF. Courses (R278, R285, R288): an admission of a tile that waits for the channels is handed to them by AUTOMATIC_ADMISSION of any
brick of the tile, also of one that may not enter. -/

namespace Sys2Proof.Machine

/-- The job of cycle 5 of a tile, which no stage has taken up yet. -/
def freshJob : Job :=
  { k := 5, next := 0, did := 0, present := [], words := [], cands := [], count := 0, frac := 0, bound := 0, nrank := 0, onLen := 0,
    sign := true, blocked := true, discharge := false, e := 0, opening := 0 }

/-- Tile 0 is an AC tile of group 0 with course 0, and its channel 0 serves. D_R of cycle 5 has passed, its job is fresh, and the admission
of the tile's brick 5, the only one of the directory, waits. -/
def admissionWaiting : Dev :=
  let d := (Dev.reset.set F.TP_CH_STATE 1).set F.CM_DIR_W0_STATE 4 0 5
  { d with
    mo := { d.mo with image := some { ImageBody.empty with structure' := some ⟨[{ TileCfg.idle with type := .ac, courses := [0] }], [], []⟩ } }
    grps := setNth d.grps 0 { GroupHub.init with k := 5, drK := some 5 }
    chans := setNth d.chans 0 { Chan.init with tiles := setNth Chan.init.tiles 0 { ChanTile.init with jobs := [freshJob] } }
    cm := { d.cm with ops := [(0, 1, 5)] } }

/-- The device as AUTOMATIC_ADMISSION of brick 0 finds it: position 0 is EMPTY, so that nothing of brick 0 is to change. -/
def admissionSeen : Dev := State.seen ⟨admissionWaiting, []⟩ 0

theorem admissionSeen_live : admissionSeen.live = true := by decide +kernel

theorem admissionSeen_empty : admissionSeen.entry 0 0 ≠ 3 := by decide +kernel

theorem admissionSeen_waits : admissionSeen.cm.ops = [(0, 1, 5)] := by decide +kernel

theorem admissionSeen_quiet : admissionSeen.fc.due = [] := by decide +kernel

/-- Yet the waiting admission reaches the channels. -/
theorem automaticAdmissionCmd_takes : (automaticAdmissionCmd 0 admissionSeen).cm.ops = [] := by decide +kernel

/-- Where nothing is raised, a command leaves the course manager as its effect does. -/
theorem State.settled_cm (s : State) {e : Dev} (h : e.fc.due = []) : (s.settled e).dev.cm = e.cm := by
  rw [State.settled, Dev.settleN_quiet _ _ h]
  exact (Dev.errUpdate_keeps e).1 .cm (by decide)

/-- Refutes O41: of a brick that is not CHECKED, AUTOMATIC_ADMISSION is to leave the device as it finds it; but it hands the admissions that
wait at the brick's tile to the channels, where D_R of the present cycle has passed and its job is fresh. -/
theorem not_courses : ¬ Obligations.Courses := by
  rintro ⟨-, hcommands, -⟩
  obtain ⟨-, -, hstays⟩ := hcommands ⟨admissionWaiting, []⟩ 0 admissionSeen rfl admissionSeen_live
  have hclaim := hstays 0 (.inl admissionSeen_empty)
  have hexec := exec_live (c := .automaticAdmission 0 0) (s := ⟨admissionWaiting, []⟩) admissionSeen_live rfl rfl
  have hquiet : (automaticAdmissionCmd 0 admissionSeen).fc.due = [] :=
    (congrArg FcSt.due ((automaticAdmissionCmd_keeps 0 admissionSeen).1 .fc (by decide))).trans admissionSeen_quiet
  have hops : (State.settled ⟨admissionWaiting, []⟩ admissionSeen).dev.cm.ops = _ :=
    congrArg (fun t : State => t.dev.cm.ops) (Host.Outcome.next.inj (hclaim.symm.trans hexec))
  rw [State.settled_cm _ admissionSeen_quiet, admissionSeen_waits] at hops
  have htaken : (State.settled ⟨admissionWaiting, []⟩ (automaticAdmissionCmd 0 admissionSeen)).dev.cm.ops = [] := by
    rw [State.settled_cm _ hquiet, automaticAdmissionCmd_takes]
  exact List.cons_ne_nil _ _ (hops.trans htaken)

end Sys2Proof.Machine
end

section
/-! PROOF. What transmission and point transactions leave (R250, R292 to R296): what has left the device, the number of the next read, and
the start of the mirror rounds. -/

namespace Sys2Proof.Machine

/-- A device that goes on from another by transmitting and by beginning and ending transactions: nothing that left is taken back, no read of
the point window begins, and no mirror round. -/
structure Dev.GoesOn (d e : Dev) : Prop where
  out : d.out ⊆ e.out
  nextRead : e.cm.nextRead = d.cm.nextRead
  mirrorAt : ∀ c, (e.crs c).mirrorAt = (d.crs c).mirrorAt

theorem Dev.GoesOn.refl (d : Dev) : d.GoesOn d := ⟨List.Subset.refl _, rfl, fun _ => rfl⟩

theorem Dev.GoesOn.trans {d e f : Dev} (h : d.GoesOn e) (k : e.GoesOn f) : d.GoesOn f :=
  ⟨List.Subset.trans h.out k.out, k.nextRead.trans h.nextRead, fun c => (k.mirrorAt c).trans (h.mirrorAt c)⟩

theorem Dev.GoesOn.foldl {α : Type} {f : Dev → α → Dev} (h : ∀ (d : Dev) x, d.GoesOn (f d x)) (l : List α) (d : Dev) :
    d.GoesOn (l.foldl f d) := by
  induction l generalizing d with
  | nil => exact .refl d
  | cons x l ih => exact (h d x).trans (ih _)

theorem Dev.GoesOn.each {f : Nat → Dev → Dev} (h : ∀ n (d : Dev), d.GoesOn (f n d)) (l : List Nat) (d : Dev) : d.GoesOn (d.each l f) :=
  .foldl (fun d n => h n d) l d

/-- A part that is neither what left nor a read begun nor a mirror round may change. -/
theorem Dev.GoesOn.of_eq {d e : Dev} (hout : e.out = d.out := by rfl) (hnext : e.cm.nextRead = d.cm.nextRead := by rfl)
    (hcrs : e.cm.crs = d.cm.crs := by rfl) : d.GoesOn e :=
  ⟨hout ▸ List.Subset.refl _, hnext, fun c => by rw [Dev.crs, hcrs, Dev.crs]⟩

section goesOn
variable (d : Dev)

theorem Dev.goesOn_modCrs (c : Nat) (f : CrsSt → CrsSt) (h : ∀ r, (f r).mirrorAt = r.mirrorAt := by intro; rfl) : d.GoesOn (d.modCrs c f) :=
  ⟨List.Subset.refl _, rfl, fun _ => tabD_tabMod_proj h ..⟩

theorem Dev.goesOn_emit (o : Out) : d.GoesOn (d.emit o) := ⟨List.subset_append_left .., rfl, fun _ => rfl⟩

/-! The transmitters -/

theorem Dev.goesOn_goIdle (c e : Nat) : d.GoesOn (d.goIdle c e) := by
  unfold Dev.goIdle
  dsimp only
  split
  · exact .refl d
  · split
    · exact .trans .of_eq (Dev.goesOn_emit ..)
    · exact .of_eq

theorem Dev.goesOn_started (c e t : Nat) (f : Frame) : d.GoesOn (d.started c e t f) := by
  unfold Dev.started
  split
  · exact .of_eq
  · exact Dev.goesOn_modCrs ..
  · exact Dev.goesOn_modCrs ..
  · exact .refl d

theorem Dev.goesOn_beginFrame (c e : Nat) (w : TxWait) (t : Nat) : d.GoesOn (d.beginFrame c e w t) :=
  .trans .of_eq ((Dev.goesOn_started _ c e t w.frame).trans (Dev.goesOn_emit ..))

theorem Dev.goesOn_runLane (c e n : Nat) : d.GoesOn (d.runLane c e n) := by
  induction n generalizing d with
  | zero => exact d.goesOn_goIdle c e
  | succ n ih =>
    unfold Dev.runLane
    dsimp only
    split
    · exact ((d.goesOn_goIdle c e).trans (Dev.goesOn_beginFrame ..)).trans (ih _)
    · exact d.goesOn_goIdle c e

theorem Dev.goesOn_send (c e : Nat) (f : Frame) : d.GoesOn (d.send c e f) := by
  unfold Dev.send
  split
  · exact .refl d
  · split
    · exact .of_eq
    · exact .trans .of_eq (Dev.goesOn_runLane ..)

/-! Reads of the window that go on -/

theorem Dev.goesOn_readValue (num slot v : Nat) : d.GoesOn (d.readValue num slot v) := by
  unfold Dev.readValue
  split
  · exact .refl d
  · dsimp only
    split
    · split
      · exact .of_eq
      · exact .trans .of_eq (Dev.goesOn_emit ..)
    · exact .of_eq

/-! Transactions that fail -/

theorem Dev.goesOn_sendMsi (x v : Nat) : d.GoesOn (d.sendMsi x v) := by
  unfold Dev.sendMsi
  dsimp only
  split
  · exact d.goesOn_emit _
  · split
    · exact .refl d
    · exact .of_eq

theorem Dev.goesOn_event (x e : Nat) : d.GoesOn (d.event x e) := by
  unfold Dev.event
  dsimp only
  split
  · exact .trans .of_eq (Dev.goesOn_sendMsi ..)
  · exact .of_eq

theorem Dev.goesOn_count (f : Fld) (i j : Nat) : d.GoesOn (d.count f i j) := .of_eq

/-- The failure of a context's transaction as it is recorded for the context (R297, R427). -/
def Dev.failRecorded (x status addr : Nat) (d : Dev) : Dev :=
  Dev.event x 12 (((d.set F.GL_PT_ERR_W0_STATUS status x).count F.GL_PT_ERR_W0_COUNT x).set F.GL_PT_ERR_W1_ADDRESS addr x)

theorem Dev.pointFail_eq (x status addr : Nat) : d.pointFail x status addr =
    if addr / 4096 / 128 < 64 then (d.failRecorded x status addr).count F.CM_CRS_PT_FAILED (addr / 4096 / 128) else d.failRecorded x status addr :=
  rfl

theorem Dev.goesOn_failRecorded (x status addr : Nat) : d.GoesOn (d.failRecorded x status addr) := .trans .of_eq (Dev.goesOn_event _ x 12)

theorem Dev.goesOn_pointFail (x status addr : Nat) : d.GoesOn (d.pointFail x status addr) := by
  rw [Dev.pointFail_eq]
  split
  · exact (d.goesOn_failRecorded ..).trans (Dev.goesOn_count ..)
  · exact d.goesOn_failRecorded ..

theorem Dev.goesOn_holdsLat (q : PtReq) (v : Option Nat) : d.GoesOn (d.holdsLat q v) := by
  unfold Dev.holdsLat
  repeat' split
  all_goals exact .of_eq

theorem Dev.goesOn_endReq (q : PtReq) (status : Nat) : d.GoesOn (d.endReq q status) := by
  have hdrop : d.GoesOn (d.dropReq q) := .of_eq
  have hfail := (d.dropReq q).goesOn_pointFail q.ctx status (q.brick * 4096 + q.index)
  refine hdrop.trans ?_
  unfold Dev.endReq
  dsimp only
  split
  · split
    · split <;> exact hfail
    · refine .trans ?_ (Dev.goesOn_readValue ..)
      split
      · exact hfail.trans (Dev.goesOn_count ..)
      · exact hfail
  · split
    · split
      · exact Dev.goesOn_count ..
      · exact .refl _
    · repeat' split
      · exact .of_eq
      · exact Dev.goesOn_holdsLat ..
      · exact .refl _

theorem Dev.goesOn_askRead (x num b i slot : Nat) : d.GoesOn (d.askRead x num b i slot) := by
  unfold Dev.askRead
  dsimp only
  repeat' split
  · exact Dev.goesOn_endReq ..
  · exact Dev.goesOn_endReq ..
  · exact Dev.goesOn_endReq ..
  · exact .of_eq

/-! What the hub answers, and what starts -/

theorem Dev.goesOn_serveLocal (n : Nat) : d.GoesOn (d.serveLocal n) := by
  induction n generalizing d with
  | zero => exact .refl d
  | succ n ih =>
    unfold Dev.serveLocal
    split
    · exact (Dev.GoesOn.trans .of_eq (Dev.goesOn_readValue ..)).trans (ih _)
    · exact .refl d

theorem Dev.goesOn_startReqs (c e n : Nat) : d.GoesOn (d.startReqs c e n) := by
  induction n generalizing d with
  | zero => exact .refl d
  | succ n ih =>
    unfold Dev.startReqs
    split
    · exact .refl d
    · split
      · exact (Dev.GoesOn.trans .of_eq (Dev.goesOn_send ..)).trans (ih _)
      · exact .refl d

theorem Dev.goesOn_startProbe (c e : Nat) : d.GoesOn (d.startProbe c e) := by
  unfold Dev.startProbe
  dsimp only
  split
  · exact .refl d
  · split
    · exact .refl d
    · split
      · exact .refl d
      · exact (Dev.GoesOn.trans .of_eq (Dev.goesOn_modCrs ..)).trans (Dev.goesOn_send ..)

/-- What the hub answers leaves first; then requests and probes start. -/
theorem Dev.serveLocal_goesOn_pump (c : Nat) : (d.serveLocal d.cm.reqs.length).GoesOn (d.pump c) := by
  unfold Dev.pump
  dsimp only
  split
  · exact .refl _
  · refine .each (fun e d => ?_) _ _
    split
    · exact (d.goesOn_startProbe c e).trans (Dev.goesOn_startReqs ..)
    · exact .refl d

theorem Dev.goesOn_pump (c : Nat) : d.GoesOn (d.pump c) := (d.goesOn_serveLocal _).trans (d.serveLocal_goesOn_pump c)

end goesOn

end Sys2Proof.Machine
end

section
/-! PROOF. The reads of the point window (R292, R293, R295 to R297): one that fails and one that the hub answers leave with their value; any
other waits for its course. -/

namespace Sys2Proof.Machine

/-! A dword that comes for a read -/

section readValue
variable {d : Dev} {num : Nat} {r : PtRead}

/-- The dword that completes a read of one point for the host leaves with it. -/
theorem Dev.readValue_single (h : d.cm.reads.find? (·.num == num) = some r) (hvals : r.vals = [none]) (hdma : r.dma = none) (v : Nat) :
    d.readValue num 0 v =
      ({ d with cm := { d.cm with reads := d.cm.reads.filter (·.num ≠ num) } } : Dev).emit (.pointData r.ctx r.addr [v]) := by
  simp [Dev.readValue, h, hvals, hdma, setNth]

/-- A dword changes the reads alone, and what leaves or goes to a transfer channel. -/
theorem Dev.readValue_shape (d : Dev) (num slot v : Nat) : ∃ (out : List Out) (reads : List PtRead) (dma : List DmaSt),
    d.readValue num slot v = { d with out := out, cm := { d.cm with reads := reads }, dma := dma } := by
  unfold Dev.readValue
  split
  · exact ⟨_, _, _, rfl⟩
  · dsimp only
    repeat' split
    all_goals exact ⟨_, _, _, rfl⟩

theorem Dev.find_readValue_ne {k : Nat} (hk : k ≠ num) (slot v : Nat) :
    (d.readValue num slot v).cm.reads.find? (·.num == k) = d.cm.reads.find? (·.num == k) := by
  have hrest : (d.cm.reads.filter (·.num ≠ num)).find? (·.num == k) = d.cm.reads.find? (·.num == k) := by
    rw [List.find?_filter]
    congr 1
    funext r
    by_cases hr : r.num = k <;> simp [hr, hk]
  unfold Dev.readValue
  split
  · rfl
  · next r hr =>
    have hnum : r.num = num := by simpa using List.find?_some hr
    dsimp only
    split
    · split <;> exact hrest
    · rw [List.find?_append, hrest]
      simp [hnum, hk.symm]

end readValue

/-! What the hub answers -/

/-- A request for the one dword of a read that the hub can answer: it holds the point, no write of the same context to the brick is under way,
and no other request serves the read. -/
structure Dev.Answerable (d : Dev) (q : PtReq) (r : PtRead) (v : Nat) : Prop where
  mem : q ∈ d.cm.reqs
  read : q.cls = 2 ∧ q.write = false ∧ q.sent = none ∧ q.slot = 0
  noWrite : ∀ p ∈ d.cm.reqs, ¬(p.cls = 2 ∧ p.write = true ∧ p.ctx = q.ctx ∧ p.brick = q.brick)
  alone : ∀ p ∈ d.cm.reqs, p ≠ q → p.cls = 2 → p.write = false → p.rd ≠ q.rd
  held : d.heldPoint q.brick q.index = some v
  found : d.cm.reads.find? (·.num == q.rd) = some r
  single : r.vals = [none] ∧ r.dma = none

section answerable
variable {d : Dev} {p q : PtReq} {r : PtRead} {v w : Nat}

theorem Dev.servedHere_some (h : d.servedHere = some (p, w)) : p ∈ d.cm.reqs ∧ p.cls = 2 ∧ p.write = false ∧
    d.heldPoint p.brick p.index = some w := by
  obtain ⟨q, hq, hserved⟩ := List.exists_of_findSome?_eq_some h
  split at hserved
  · next hcond =>
    obtain ⟨w, hw, heq⟩ := Option.map_eq_some_iff.mp hserved
    obtain ⟨rfl, rfl⟩ := Prod.mk.inj heq
    simp only [Bool.and_eq_true, beq_iff_eq, Bool.not_eq_true'] at hcond
    obtain ⟨⟨⟨hcls, hread⟩, -⟩, -⟩ := hcond
    exact ⟨hq, hcls, hread, hw⟩
  · cases hserved

namespace Dev.Answerable

theorem waits (h : d.Answerable q r v) : waitsFor d.cm.reqs q = false := by
  refine List.any_eq_false.mpr fun p hp => ?_
  simpa [and_assoc] using h.noWrite p (List.takeWhile_subset _ hp)

theorem served (h : d.Answerable q r v) : d.servedHere ≠ none := by
  obtain ⟨hcls, hread, hsent, -⟩ := h.read
  intro hnone
  simpa [hcls, hread, hsent, h.waits, h.held] using List.findSome?_eq_none_iff.mp hnone q h.mem

/-- While another request is served, it stays so. -/
theorem next (h : d.Answerable q r v) (hp : d.servedHere = some (p, w)) (hne : p ≠ q) :
    ((d.dropReq p).readValue p.rd p.slot w).Answerable q r v := by
  obtain ⟨hmem, hcls, hread, -⟩ := Dev.servedHere_some hp
  have hfound : ((d.dropReq p).readValue p.rd p.slot w).cm.reads.find? (·.num == q.rd) = some r :=
    (Dev.find_readValue_ne (h.alone p hmem hne hcls hread).symm ..).trans h.found
  obtain ⟨out, reads, dma, hshape⟩ := Dev.readValue_shape (d.dropReq p) p.rd p.slot w
  rw [hshape] at hfound ⊢
  have hsub {x : PtReq} (hx : x ∈ (d.dropReq p).cm.reqs) : x ∈ d.cm.reqs := List.mem_of_mem_filter hx
  exact ⟨List.mem_filter.mpr ⟨h.mem, by simpa using hne.symm⟩, h.read, fun x hx => h.noWrite x (hsub hx), fun x hx => h.alone x (hsub hx),
    h.held, hfound, h.single⟩

theorem answers (h : d.Answerable q r v) (hq : d.servedHere = some (q, w)) :
    Out.pointData r.ctx r.addr [v] ∈ ((d.dropReq q).readValue q.rd q.slot w).out := by
  obtain ⟨-, -, -, hw⟩ := Dev.servedHere_some hq
  obtain rfl : v = w := Option.some.inj (h.held.symm.trans hw)
  obtain ⟨-, -, -, hslot⟩ := h.read
  rw [hslot, Dev.readValue_single (d := d.dropReq q) h.found h.single.1 h.single.2]
  simp [Dev.emit]

/-- Every turn serves a request, so that its own comes. -/
theorem serveLocal (h : d.Answerable q r v) {n : Nat} (hn : d.cm.reqs.length ≤ n) :
    Out.pointData r.ctx r.addr [v] ∈ (d.serveLocal n).out := by
  induction n generalizing d with
  | zero => exact absurd h.mem (by simp [List.length_eq_zero_iff.mp (Nat.le_zero.mp hn)])
  | succ n ih =>
    obtain ⟨⟨p, w⟩, hp⟩ := Option.ne_none_iff_exists'.mp h.served
    rw [Dev.serveLocal, hp]
    by_cases hpq : p = q
    · subst hpq
      exact (Dev.goesOn_serveLocal _ n).out (h.answers hp)
    · refine ih (h.next hp hpq) ?_
      obtain ⟨hmem, -⟩ := Dev.servedHere_some hp
      obtain ⟨out, reads, dma, hshape⟩ := Dev.readValue_shape (d.dropReq p) p.rd p.slot w
      have hless : (d.dropReq p).cm.reqs.length < d.cm.reqs.length :=
        List.length_filter_lt_length_iff_exists.mpr ⟨p, hmem, by simp⟩
      rw [hshape]
      exact Nat.le_of_lt_succ (hless.trans_le hn)

theorem pump (h : d.Answerable q r v) (c : Nat) : Out.pointData r.ctx r.addr [v] ∈ (d.pump c).out :=
  (d.serveLocal_goesOn_pump c).out (h.serveLocal le_rfl)

end Dev.Answerable

end answerable

end Sys2Proof.Machine
end

section
/-! PROOF. The commands of the point window (R292 to R297). -/

namespace Sys2Proof.Machine

theorem Dev.cm_pointFail (x status addr : Nat) (d : Dev) : (d.pointFail x status addr).cm = d.cm := (Dev.pointFail_keeps ..).1 .cm (by decide)

theorem Dev.status_pointFail (x status addr : Nat) (d : Dev) :
    (d.pointFail x status addr).get F.GL_PT_ERR_W0_STATUS x = status % 2 ^ F.GL_PT_ERR_W0_STATUS.width := by
  have hrecorded : (d.failRecorded x status addr).get F.GL_PT_ERR_W0_STATUS x = status % 2 ^ F.GL_PT_ERR_W0_STATUS.width := by
    rw [Dev.failRecorded, (Dev.event_keeps ..).2 _ _ _ (by decide), Dev.get_set_other _ _ _ _ _ _ _ _ (by decide), Dev.count,
      Dev.get_set_other _ _ _ _ _ _ _ _ (by decide), Dev.get_set_self]
  rw [Dev.pointFail_eq]
  split
  · exact (Dev.get_set_other _ _ _ _ _ _ _ _ (by decide)).trans hrecorded
  · exact hrecorded

/-! A read of one point -/

/-- The request for the one dword of the next read, as context x asks for it. -/
def Dev.readReq (d : Dev) (x b i : Nat) : PtReq := ⟨2, x, d.cm.nextRead, 0, false, b, i, 0, 0, none, none, 0, 0, 0, d.now⟩

/-- That read, with its dword still to come. -/
def Dev.newRead (d : Dev) (x addr : Nat) : PtRead := ⟨d.cm.nextRead, x, none, addr, [none], d.now⟩

/-- It has begun (R292). -/
def Dev.readBegun (x addr : Nat) (d : Dev) : Dev :=
  { d with cm := { d.cm with nextRead := d.cm.nextRead + 1, reads := d.cm.reads ++ [d.newRead x addr] } }

section read
variable {d : Dev} {x addr n b i : Nat}

theorem pointRead_refused {cause : Nat} (h : d.bar2Refusal x false = some cause) : pointRead x addr n d =
    (d.refuse x true false cause addr).emit (.pointData x addr (List.replicate n 0)) := by
  rw [pointRead, h]

theorem pointRead_malformed (h : d.bar2Refusal x false = none) (hform : pointFormOk addr n = false) : pointRead x addr n d =
    ((d.refuse x true false 2 addr).pointFail x 0x15 (addr / 4)).emit (.pointData x addr (List.replicate n 0xFFFFFFFF)) := by
  simp [pointRead, h, hform]

theorem pointRead_begins (h : d.bar2Refusal x false = none) (hform : pointFormOk addr n = true) :
    pointRead x addr n d = d.pointRead x none (addr / 4) n := by
  simp [pointRead, h, hform]

/-- A read takes the next number, whatever becomes of its dwords. -/
theorem Dev.nextRead_pointRead (a : Nat) (d : Dev) : (d.pointRead x none a n).cm.nextRead = d.cm.nextRead + 1 :=
  ((Dev.GoesOn.each (fun _ d => d.goesOn_askRead ..) _ _).trans (Dev.goesOn_pump ..)).nextRead

theorem mul_div_of_pointForm (hform : pointFormOk addr n = true) : 4 * (addr / 4) = addr := by
  simp only [pointFormOk, Bool.and_eq_true, beq_iff_eq] at hform
  omega

theorem pointRead_one {e : Dev} (h : d.bar2Refusal x false = none) (hform : pointFormOk addr 1 = true)
    (he : (d.readBegun x addr).askRead x d.cm.nextRead (addr / 4 / 4096) (addr / 4 % 4096) 0 = e) :
    pointRead x addr 1 d = e.pump (addr / 4 / 4096 / 128) := by
  rw [pointRead_begins h hform, Dev.pointRead, mul_div_of_pointForm hform, ← he]
  rfl

theorem Dev.askRead_absent (hentry : d.entry (b / 128) (b % 128) = 0) :
    (d.readBegun x addr).askRead x d.cm.nextRead b i 0 = (d.readBegun x addr).endReq (d.readReq x b i) 0x10 :=
  if_pos hentry

theorem Dev.askRead_down (hentry : d.entry (b / 128) (b % 128) ≠ 0) (hpoint : d.noPoint b i = false) (hheld : d.heldPoint b i = none)
    (hdown : d.get F.CM_CRS_STAT_STATE (b / 128) = 0) :
    (d.readBegun x addr).askRead x d.cm.nextRead b i 0 = (d.readBegun x addr).endReq (d.readReq x b i) 0x13 :=
  (if_neg hentry).trans ((if_neg (ne_true_of_eq_false hpoint)).trans (if_pos ⟨hdown, Option.isNone_iff_eq_none.mpr hheld⟩))

theorem Dev.askRead_asks (hentry : d.entry (b / 128) (b % 128) ≠ 0) (hpoint : d.noPoint b i = false)
    (hserved : d.get F.CM_CRS_STAT_STATE (b / 128) ≠ 0 ∨ d.heldPoint b i ≠ none) :
    (d.readBegun x addr).askRead x d.cm.nextRead b i 0 = (d.readBegun x addr).ask 2 x d.cm.nextRead 0 false b i 0 :=
  (if_neg hentry).trans ((if_neg (ne_true_of_eq_false hpoint)).trans (if_neg fun h => hserved.elim (· h.1) (· (Option.isNone_iff_eq_none.mp h.2))))

section fresh
variable (hfresh : ∀ r ∈ d.cm.reads, r.num ≠ d.cm.nextRead)
include hfresh

theorem Dev.find_readBegun :
    (d.readBegun x addr).cm.reads.find? (·.num == d.cm.nextRead) = some (d.newRead x addr) := by
  rw [Dev.readBegun, List.find?_append, List.find?_eq_none.mpr (by simpa using hfresh)]
  simp [Dev.newRead]

theorem Dev.endReq_readReq (hx : x < 8) (status : Nat) : (d.readBegun x addr).endReq (d.readReq x b i) status =
    (((d.readBegun x addr).dropReq (d.readReq x b i)).pointFail x status (b * 4096 + i)).readValue d.cm.nextRead 0 0xFFFFFFFF := by
  have hfind := Dev.find_readBegun (x := x) (addr := addr) hfresh
  unfold Dev.endReq
  simp only [Dev.readReq, Dev.cm_pointFail, hx, and_self, if_true, hfind]
  rfl

/-- A read that fails returns ones with its status (R297). -/
theorem Dev.readFailed_shows (hx : x < 8) {status : Nat} (hstatus : status < 2 ^ F.GL_PT_ERR_W0_STATUS.width) (c : Nat) :
    Out.pointData x addr [0xFFFFFFFF] ∈ (((d.readBegun x addr).endReq (d.readReq x b i) status).pump c).out ∧
      (((d.readBegun x addr).endReq (d.readReq x b i) status).pump c).get F.GL_PT_ERR_W0_STATUS x = status := by
  rw [Dev.endReq_readReq hfresh hx]
  refine ⟨(Dev.goesOn_pump _ c).out ?_, ?_⟩
  · have hfind : (Dev.pointFail x status (b * 4096 + i) ((d.readBegun x addr).dropReq (d.readReq x b i))).cm.reads.find? (·.num == d.cm.nextRead) =
        some (d.newRead x addr) := by
      rw [Dev.cm_pointFail]
      exact Dev.find_readBegun hfresh
    rw [Dev.readValue_single hfind rfl rfl]
    simp [Dev.emit, Dev.newRead]
  · rw [(Dev.pump_keeps ..).2 _ _ _ (by decide), (Dev.readValue_keeps ..).2 _ _ _ (by decide), Dev.status_pointFail, Nat.mod_eq_of_lt hstatus]

/-- A read of a point that the hub holds is answered, once the writes of its context to the brick have ended (R293, R296). -/
theorem Dev.answerable_ask {v : Nat} (hheld : d.heldPoint b i = some v)
    (halone : ∀ q ∈ d.cm.reqs, q.cls = 2 → q.write = false → q.rd ≠ d.cm.nextRead)
    (hwrites : ∀ q ∈ d.cm.reqs, ¬(q.cls = 2 ∧ q.write = true ∧ q.ctx = x ∧ q.brick = b)) :
    ((d.readBegun x addr).ask 2 x d.cm.nextRead 0 false b i 0).Answerable (d.readReq x b i) (d.newRead x addr) v := by
  have hreqs : ((d.readBegun x addr).ask 2 x d.cm.nextRead 0 false b i 0).cm.reqs = d.cm.reqs ++ [d.readReq x b i] := rfl
  refine ⟨?_, ⟨rfl, rfl, rfl, rfl⟩, ?_, ?_, hheld, Dev.find_readBegun hfresh, rfl, rfl⟩
  · simp [hreqs]
  · intro p hp
    rcases List.mem_append.mp hp with hp | hp
    · exact hwrites p hp
    · simp [List.mem_singleton.mp hp, Dev.readReq]
  · intro p hp hne
    rcases List.mem_append.mp hp with hp | hp
    · exact halone p hp
    · exact absurd (List.mem_singleton.mp hp) hne

end fresh

end read

/-! A point that the hub holds (R293) -/

theorem Dev.heldPoint_mirrored {d : Dev} {i : Nat} {im : ImageBody} (b : Nat) (hlow : 0x14 ≤ i) (hhigh : i < 0x30 ∨ 0x32 < i)
    (him : d.mo.image = some im) : d.heldPoint b i =
    if (tabD im.points.mirrors (d.get F.CM_DIR_W0_KIND (b / 128) (b % 128)) []).contains i then tabGet (d.dir b).mirror i else none := by
  have hdir : ¬(i ≤ 8 ∨ i = 0x12 ∨ i = 0x13 ∨ (0x30 ≤ i ∧ i ≤ 0x32)) := by omega
  rw [Dev.heldPoint, if_neg (by omega), if_neg (by omega), if_neg (by omega), if_neg (by omega), if_neg hdir, him]

/-! A write of one point -/

section write
variable {d : Dev} {x addr : Nat}

theorem pointWrite_refused {cause : Nat} {vals : List Nat} {full : Bool} (h : d.bar2Refusal x true = some cause) :
    pointWrite x addr vals full d = d.refuse x true true cause addr := by
  rw [pointWrite, h]

theorem pointWrite_partial {vals : List Nat} (h : d.bar2Refusal x true = none) :
    pointWrite x addr vals false d = (d.refuse x true true 2 addr).pointFail x 0x15 (addr / 4) := by
  simp [pointWrite, h]

theorem pointWrite_one {e : Dev} {v : Word} (h : d.bar2Refusal x true = none) (hform : pointFormOk addr 1 = true)
    (he : d.askWrite x (addr / 4 / 4096) (addr / 4 % 4096) v.toNat = e) : pointWrite x addr [v.toNat] true d = e.pump (addr / 4 / 4096 / 128) := by
  have hv : v.toNat % 0x100000000 = v.toNat := Nat.mod_eq_of_lt v.isLt
  simp [pointWrite, h, hform, Dev.each, nth, hv, he]

variable {a v : Nat}

theorem Dev.askWrite_absent (hentry : d.entry (a / 4096 / 128) (a / 4096 % 128) = 0) :
    d.askWrite x (a / 4096) (a % 4096) v = d.pointFail x 0x10 a := by
  rw [Dev.askWrite, if_pos hentry, Nat.div_add_mod']

section present
variable (hentry : d.entry (a / 4096 / 128) (a / 4096 % 128) ≠ 0)
include hentry

theorem Dev.askWrite_owned (howned : (0x10 ≤ a % 4096 ∧ a % 4096 ≤ 0x12) ∨ (0x30 ≤ a % 4096 ∧ a % 4096 ≤ 0x32)) :
    d.askWrite x (a / 4096) (a % 4096) v = d.pointFail x 0x11 a := by
  rw [Dev.askWrite, if_neg hentry, if_pos howned, Nat.div_add_mod']

variable (hfree : a % 4096 < 0x10 ∨ (0x12 < a % 4096 ∧ a % 4096 < 0x30) ∨ 0x32 < a % 4096)
include hfree

theorem Dev.askWrite_down (hdown : d.get F.CM_CRS_STAT_STATE (a / 4096 / 128) = 0) :
    d.askWrite x (a / 4096) (a % 4096) v = d.pointFail x 0x13 a := by
  rw [Dev.askWrite, if_neg hentry, if_neg (by omega), if_pos hdown, Nat.div_add_mod']

theorem Dev.askWrite_asks (hup : d.get F.CM_CRS_STAT_STATE (a / 4096 / 128) ≠ 0) :
    d.askWrite x (a / 4096) (a % 4096) v = d.ask 2 x 0 0 true (a / 4096) (a % 4096) v := by
  rw [Dev.askWrite, if_neg hentry, if_neg (by omega), if_neg hup]

end present

end write

/-! A reply that does not come, and a request at its limit -/

theorem pointTimeout_due {d : Dev} {c tid at' : Nat} {q : PtReq} {foot : Bool}
    (hq : (d.cm.reqs.find? fun q => q.brick / 128 == c && q.tid == tid && q.sent.isSome) = some q) (hsent : q.sent = some (foot, at'))
    (hdue : d.replyDue q foot at' ≤ d.now) : pointTimeout c tid d =
    if q.write = false ∧ q.tries = 0 then
      ({ d with cm := { d.cm with
        reqs := d.cm.reqs.map fun r => if r = q then { q with sent := none, tries := 1, avoid := some foot } else r } } : Dev).pump c
    else d.lostReq q 0x12 := by
  simp only [pointTimeout, hq, hsent, if_neg (Nat.not_lt.mpr hdue)]
  simp

theorem pointLimit_one {d : Dev} {q : PtReq} (hq : (d.cm.reqs.filter fun q => q.cls == 2 && q.ctx < 8 && (!q.write || q.sent.isNone) &&
    decide (q.since + 5000 * d.get F.GL_PT_CFG_LIMIT ≤ d.now)) = [q]) : pointLimit d = (d.endReq q 0x14).pump (q.brick / 128) := by
  rw [pointLimit, hq]
  rfl

/-! A round of the mirror (R294) -/

/-- Requests of the mirror wait at a course, or are in flight. -/
def Dev.roundUnfinished (d : Dev) (c : Nat) : Bool := d.cm.reqs.any fun q => q.cls == 3 && q.brick / 128 == c

/-- A round begins: one that is unfinished counts late, and what waits of it is dropped. -/
def Dev.roundBegun (c : Nat) (d : Dev) : Dev :=
  let d : Dev := if d.roundUnfinished c then d.count F.CM_CRS_PT_MIRROR_LATE c else d
  ({ d with cm := { d.cm with reqs := d.cm.reqs.filter fun q => !(q.cls == 3 && q.brick / 128 == c && q.sent.isNone) } } : Dev).modCrs c fun r =>
    { r with mirrorAt := d.now }

/-- The mirrored points of a position are asked for. -/
def Dev.mirrorAsked (c p : Nat) (d : Dev) : Dev :=
  if d.entry c p = 0 then d else (d.mirrorsOf (128 * c + p)).foldl (fun d i => d.ask 3 8 0 0 false (128 * c + p) i 0) d

section mirror
variable {d : Dev} {c : Nat}

theorem mirrorRefresh_due {im : ImageBody} (him : d.mo.image = some im) (hper : im.points.mirrorPeriod ≠ 0)
    (hdue : (d.crs c).mirrorAt + msTicks im.points.mirrorPeriod ≤ d.now) :
    mirrorRefresh c d = ((d.roundBegun c).each (List.range 128) (Dev.mirrorAsked c)).pump c := by
  have hround : ((d.cm.reqs.filter fun q => q.cls == 3 && q.brick / 128 == c).isEmpty = true) ↔ ¬d.roundUnfinished c = true := by
    simp [Dev.roundUnfinished, List.isEmpty_iff]
  simp only [mirrorRefresh, him, Option.map_some, Option.getD_some, hper, Nat.not_lt.mpr hdue, or_self, if_false, hround, ite_not]
  rfl

theorem Dev.goesOn_mirrorAsked (p : Nat) (d : Dev) : d.GoesOn (d.mirrorAsked c p) := by
  unfold Dev.mirrorAsked
  split
  · exact .refl d
  · exact .foldl (fun d i => .of_eq) _ d

theorem Dev.mirrorAsked_keeps (p : Nat) (d : Dev) : Dev.keeps ⟨[.cm], [], []⟩ d (d.mirrorAsked c p) :=
  Dev.keeps_ite (Dev.keeps_refl _ _) (Dev.keeps_foldl _ _ (fun _ _ => Dev.ask_keeps ..) (Dev.keeps_refl _ _))

theorem Dev.roundBegun_shows (d : Dev) : ((d.roundBegun c).crs c).mirrorAt = d.now ∧ (d.roundBegun c).get F.CM_CRS_PT_MIRROR_LATE c =
    if d.roundUnfinished c = true then satInc 0xFF (d.get F.CM_CRS_PT_MIRROR_LATE c) else d.get F.CM_CRS_PT_MIRROR_LATE c := by
  unfold Dev.roundBegun
  refine ⟨?_, ?_⟩
  · rw [Dev.crs_modCrs_self]
    split <;> rfl
  · split
    · exact Dev.get_count_self ..
    · rfl

theorem mirrorRefresh_shows {im : ImageBody} (him : d.mo.image = some im) (hper : im.points.mirrorPeriod ≠ 0)
    (hdue : (d.crs c).mirrorAt + msTicks im.points.mirrorPeriod ≤ d.now) :
    ((mirrorRefresh c d).crs c).mirrorAt = d.now ∧ (mirrorRefresh c d).get F.CM_CRS_PT_MIRROR_LATE c =
      if d.roundUnfinished c = true then satInc 0xFF (d.get F.CM_CRS_PT_MIRROR_LATE c) else d.get F.CM_CRS_PT_MIRROR_LATE c := by
  obtain ⟨hat, hlate⟩ := Dev.roundBegun_shows (c := c) d
  rw [mirrorRefresh_due him hper hdue]
  constructor
  · rw [← hat]
    exact ((Dev.GoesOn.each (fun p d => d.goesOn_mirrorAsked p) _ _).trans (Dev.goesOn_pump ..)).mirrorAt c
  · have hasked := Dev.keeps_each (Dev.mirrorAsked c) (List.range 128) (fun p d => d.mirrorAsked_keeps p) (Dev.keeps_refl _ (d.roundBegun c))
    rw [(Dev.pump_keeps ..).2 _ _ _ (by decide), hasked.2 _ _ _ (by decide), hlate]

end mirror

/-- Settles O42: a read by what becomes of its dwords, a write by what becomes of its point; what starts on the course after that takes nothing
back. -/
theorem pointWindow : Obligations.PointWindow := by
  rintro s dt _ rfl hl
  refine ⟨fun x addr n => ⟨fun cause h => exec_live hl rfl (pointRead_refused h), fun h hform => exec_live hl rfl (pointRead_malformed h hform),
      fun h hform hentry hfresh => ?absent, fun h hform => ?begins, ?present⟩,
    fun r num v hr hvals hdma => ?single, fun b i => ⟨rfl, rfl, rfl, rfl, fun im hlow hhigh him => ?mirrored⟩,
    fun x addr v => ⟨fun cause h => exec_live hl rfl (pointWrite_refused h),
      fun h hform hentry hfree hup => exec_live hl rfl (pointWrite_one h hform (Dev.askWrite_asks hentry hfree hup)),
      fun h hform => ⟨fun hentry => exec_live hl rfl (pointWrite_one h hform (Dev.askWrite_absent hentry)), fun hentry =>
        ⟨fun howned => exec_live hl rfl (pointWrite_one h hform (Dev.askWrite_owned hentry howned)),
          fun hfree hdown => exec_live hl rfl (pointWrite_one h hform (Dev.askWrite_down hentry hfree hdown))⟩⟩,
      fun h => exec_live hl rfl (pointWrite_partial h)⟩,
    fun c tid q foot at' hq hsent hdue => ?timeout, fun q hq => exec_live hl rfl (pointLimit_one hq),
    fun c im him hper hdue => ⟨_, exec_live hl rfl rfl, mirrorRefresh_shows him hper hdue⟩⟩
  case absent =>
    have hread := pointRead_one h hform (Dev.askRead_absent hentry)
    obtain ⟨hdata, hstatus⟩ := Dev.readFailed_shows (addr := addr) hfresh x.isLt (status := 0x10) (by decide) (addr / 4 / 4096 / 128)
    refine ⟨_, exec_live hl rfl hread, hdata, hstatus, ?_⟩
    rw [← hread, pointRead_begins h hform, Dev.nextRead_pointRead]
  case begins =>
    have hkeeps := Dev.pointRead_keeps x none (addr / 4) n (s.seen dt)
    exact ⟨_, exec_live hl rfl (pointRead_begins h hform), Dev.nextRead_pointRead .., hkeeps.1 .grps (by decide), hkeeps.1 .store (by decide)⟩
  case present =>
    rintro b i rfl rfl h hform hentry hpoint hfresh
    refine ⟨fun v hheld halone hwrites => ?_, fun hheld hup => ?_, fun hheld hdown => ?_⟩
    · have hserved := Option.ne_none_iff_exists'.mpr ⟨v, hheld⟩
      exact ⟨_, exec_live hl rfl (pointRead_one h hform (Dev.askRead_asks hentry hpoint (.inr hserved))),
        (Dev.answerable_ask hfresh hheld halone hwrites).pump _⟩
    · exact exec_live hl rfl (pointRead_one h hform (Dev.askRead_asks hentry hpoint (.inl hup)))
    · exact ⟨_, exec_live hl rfl (pointRead_one h hform (Dev.askRead_down hentry hpoint hheld hdown)),
        Dev.readFailed_shows hfresh x.isLt (by decide) _⟩
  case single =>
    rw [Dev.readValue_single hr hvals hdma]
    exact ⟨rfl, rfl⟩
  case mirrored =>
    rw [Dev.heldPoint_mirrored b hlow hhigh him]
    exact ⟨fun h => if_pos h, fun h => if_neg (ne_true_of_eq_false h)⟩
  case timeout =>
    have htimeout := pointTimeout_due hq hsent hdue
    exact ⟨fun hread htries => exec_live hl rfl (htimeout.trans (if_pos ⟨hread, htries⟩)),
      fun hend => exec_live hl rfl (htimeout.trans (if_neg (by simpa [or_iff_not_imp_left] using hend)))⟩

end Sys2Proof.Machine
end

section
/-! PROOF. A step, and ERR_N under every step (R48, R51, R388). -/

namespace Sys2Proof.Machine

/-- Settles O1: the queue's front selects the second branch of step. -/
theorem stepRunsFront : Obligations.StepRunsFront := by
  intro c rest s h
  simp only [step, h]

/-- ERR_N of a device shows: the invariant of a state, said of its device. -/
def Dev.errShown (d : Dev) : Prop := d.errCase = true → d.errN = true

theorem State.errShown_iff (s : State) : s.errShown ↔ s.dev.errShown := Iff.rfl

/-- Whether a case of R388 holds is read off the registers and the fault collector. -/
theorem Dev.errCase_congr {d e : Dev} (hb : e.bank = d.bank) (hf : e.fc = d.fc) : e.errCase = d.errCase := by
  simp only [Dev.errCase, Dev.ready, Dev.on, Dev.get, hb, hf]

/-- A device that does not work shows ERR_N low. -/
theorem Dev.errShown_of_dead {d : Dev} (h : d.live = false) : d.errShown := fun _ => by simp [Dev.errN, h]

theorem Dev.errShown_of_errN {d : Dev} (h : d.errN = true) : d.errShown := fun _ => h

/-- A change that leaves the registers and the fault collector, and wakes no device, keeps ERR_N shown. -/
theorem Dev.errShown_of_same {d e : Dev} (hb : e.bank = d.bank) (hf : e.fc = d.fc) (hl : d.live = false → e.live = false)
    (h : d.errShown) : e.errShown := by
  intro hc
  rw [Dev.errCase_congr hb hf] at hc
  have hn := h hc
  simp only [Dev.errN, Bool.or_eq_true, Bool.not_eq_true'] at hn ⊢
  exact hn.imp hl fun hlow => by rw [hf]; exact hlow

/-- Time wakes no device. -/
theorem Dev.live_elapse {d : Dev} (dt : Nat) (h : d.live = false) : (Dev.elapse dt d).live = false := by
  simp only [Dev.live, Dev.elapse, Bool.and_eq_false_iff, Bool.or_eq_false_iff, decide_eq_false_iff_not] at h ⊢
  exact h.imp_right fun ⟨hr, ht⟩ => ⟨hr, decide_eq_false fun hn => ht (Nat.lt_of_le_of_lt (Nat.le_add_right ..) hn)⟩

theorem State.errShown_later {s : State} (dt : Nat) (h : s.errShown) : (s.later dt).errShown :=
  Dev.errShown_of_same (d := s.dev) rfl rfl (Dev.live_elapse (d := { s.dev with out := [] }) dt) h

/-- After ERR_N has followed the faults it shows (R388). -/
theorem Dev.errShown_errUpdate (d : Dev) : d.errUpdate.errShown := by
  intro hc
  have hlow : d.errUpdate.fc.errLow = true := by
    unfold Dev.errUpdate at hc ⊢
    split
    · rfl
    · next hn =>
      rw [if_neg hn] at hc
      simpa [hc] using hn
  simp [Dev.errN, hlow]

/-- The pins of power and reset: a loss or a low leaves a device dead or as it was, a start leaves ERR_N low. -/
theorem Dev.errShown_powerUp {d : Dev} (h : d.errShown) (k r : Bool) (n p : Nat) : (powerUp k r n p d).errShown := by
  unfold powerUp
  split
  · exact h
  · exact Dev.errShown_of_errN (Dev.start_errN ..)

theorem Dev.errShown_powerLoss {d : Dev} (h : d.errShown) (held : Bool) : (powerLoss held d).errShown := by
  unfold powerLoss
  split
  · exact h
  · exact Dev.errShown_of_dead rfl

theorem Dev.errShown_resetNFall {d : Dev} (h : d.errShown) : (resetNFall d).errShown := by
  unfold resetNFall
  split
  · next hr =>
    refine Dev.errShown_of_same (d := d) rfl rfl (fun hl => ?_) h
    have hp : d.pins.powered = false := by simpa [Dev.live, hr] using hl
    simp [Dev.live, hp]
  · exact h

/-- A rise of RESET_N whose effect R50 defines. -/
theorem Dev.errShown_resetNRise {d : Dev} (h : d.errShown) (hd : d.resetUndefined = false) (k v : Bool) (n p : Nat) :
    (resetNRise k v n p d).errShown := by
  unfold resetNRise
  dsimp only
  split
  · exact h
  · next hr =>
    split
    · exact Dev.errShown_of_errN (Dev.start_errN ..)
    · next hlong =>
      refine Dev.errShown_of_same (d := d) rfl rfl (fun hl => ?_) h
      have hp : d.pins.powered = false := by
        by_contra hp
        simp only [Bool.not_eq_false, Bool.not_eq_true] at hp hr
        have hundef := mt (Dev.resetUndefined_iff hr hp).mpr (by simp [hd])
        simp only [Dev.live, hp, hr, Bool.true_and, Bool.false_or, decide_eq_false_iff_not] at hl
        exact hundef ⟨Nat.not_lt.mp hl, Nat.not_le.mp fun ht => hlong ⟨hp, ht⟩⟩
      simp [Dev.live, hp]

/-- Every command keeps ERR_N shown. -/
theorem errShown_exec (c : Instr) {s t : State} (h : s.errShown) (hx : exec c s = .next t) : t.errShown := by
  cases hpin : isPinCommand c with
  | false =>
    obtain ⟨f, hf⟩ := exec_eq_cmd c hpin
    obtain rfl := Host.Outcome.next.inj ((hf s).symm.trans hx)
    cases hl : (s.seen (ticksOf c)).live with
    | true => rw [State.cmd_live _ _ _ hl]; exact Dev.errShown_errUpdate _
    | false => rw [State.cmd_dead _ _ _ hl]; exact Dev.errShown_of_dead hl
  | true =>
    have hlater := fun dt => State.errShown_later dt h
    cases c
    case powerUp dt k r v p =>
      obtain rfl := Host.Outcome.next.inj hx
      exact Dev.errShown_powerUp (hlater dt) k r v.toNat p.toNat
    case powerLoss dt held =>
      obtain rfl := Host.Outcome.next.inj hx
      exact Dev.errShown_powerLoss (hlater dt) held
    case resetNFall dt =>
      obtain rfl := Host.Outcome.next.inj hx
      exact Dev.errShown_resetNFall (hlater dt)
    case resetNRise dt k v p =>
      cases hu : (s.later dt).resetUndefined with
      | true => rw [exec_resetNRise_undefined hu] at hx; cases hx
      | false =>
        rw [exec_resetNRise_defined hu] at hx
        obtain rfl := Host.Outcome.next.inj hx
        exact Dev.errShown_resetNRise (hlater dt) hu k v.refSel v.devid.toNat p.toNat
    all_goals cases hpin

/-- Settles O3: a tick alone changes neither the registers nor the fault collector, and every command keeps ERR_N shown. -/
theorem errShownKept : Obligations.ErrShownKept := by
  intro s t h hs
  unfold step at hs
  split at hs
  · obtain rfl := Host.Outcome.next.inj hs
    exact State.errShown_later 1 h
  · next c rest _ => exact errShown_exec c (s := { s with pending := rest }) h hs

/-- Settles O4: after reset ERR_N is low. -/
theorem errShownAtReset : Obligations.ErrShownAtReset := fun _ => rfl

end Sys2Proof.Machine
end

section
/-! PROOF. Contexts: OPEN (R428), how they close and what closing leaves (R424, R429, R437, R440); roles (R426). -/

namespace Sys2Proof.Machine

/-! OPEN -/

/-- A context whose configuration space holds the given controls. -/
def Dev.configured (x : Nat) (mse d0 : Bool) (timeout maxRead maxPayload : Nat) (d : Dev) : Dev :=
  d.modCtx x fun c => { c with mse := mse, d0 := d0, cfg := { c.cfg with timeout := timeout, maxRead := maxRead, maxPayload := maxPayload } }

/-- OPEN that is let through, by the state of its context (R428). -/
theorem open'_accepted {d : Dev} {x : Nat} (h : d.refusal x true 0x10004 = none) (mse d0 : Bool) (t r p : Nat) :
    open' x mse d0 t r p d =
      if d.get F.HC_CTX_STAT_STATE x = 2 then (d.configured x mse d0 t r p).set F.HC_CTX_CMD_RESULT 1
      else if d.get F.HC_CTX_STAT_STATE x = 1 then (d.configured x mse d0 t r p).set F.HC_CTX_CMD_RESULT 4
      else if !(mse && d0) then (d.configured x mse d0 t r p).set F.HC_CTX_CMD_RESULT 3
      else ((d.configured x mse d0 t r p).set F.HC_CTX_STAT_STATE 1 x).set F.HC_CTX_CMD_RESULT 0 :=
  Dev.hostWrite_accepted _ _ _ _ h

/-- Settles O19: the state of the context and the controls given choose the branch of OPEN. -/
theorem openContext : Obligations.OpenContext := by
  rintro s dt d o x mse ctl rfl ⟨hl, hacc⟩ rfl
  have hopen := open'_accepted hacc mse ctl.d0 ctl.timeout.toNat ctl.maxRead.toNat ctl.maxPayload.toNat
  refine ⟨fun hst hm hd => ?_, fun hst hno => ?_, fun hst => ?_, fun hst => ?_⟩
  · exact exec_live hl rfl (hopen.trans (by rw [hst, hm, hd]; rfl))
  · exact exec_live hl rfl (hopen.trans (by rw [hst, hno]; rfl))
  · exact exec_live hl rfl (hopen.trans (by rw [hst]; rfl))
  · exact exec_live hl rfl (hopen.trans (if_pos hst))

/-! Closing -/

section close
variable {d : Dev} {x : Nat}

/-- CLOSE of an OPEN context. -/
theorem close_open (h : d.refusal x true 0x10004 = none) (hst : d.get F.HC_CTX_STAT_STATE x = 1) :
    close x d = (d.closeCtx 1 x).set F.HC_CTX_CMD_RESULT 0 := by
  rw [close, Dev.hostWrite_accepted _ _ _ _ h]
  simp [hst]

theorem contextClosed_ends (hst : d.get F.HC_CTX_STAT_STATE x = 2) (hdma : d.dmaOf x = []) (hreads : d.awaits x = false) :
    contextClosed x d = d.set F.HC_CTX_STAT_STATE 0 x := if_pos (by simp [hst, hdma, hreads])

theorem contextClosed_waits (h : d.get F.HC_CTX_STAT_STATE x ≠ 2 ∨ d.dmaOf x ≠ [] ∨ d.awaits x = true) : contextClosed x d = d := by
  refine if_neg fun ⟨hst, hdma, hreads⟩ => ?_
  rcases h with h | h | h
  · exact h hst
  · exact h (List.isEmpty_iff.mp hdma)
  · simp [h] at hreads

/-- A link that stays down for 2 ms closes the contexts of its port (R429). -/
theorem linkRecoveryTimeout_closes {p t : Nat} (hdown : nth d.host.downAt p none = some t) (hdue : t + 1000000 ≤ d.now)
    (hlink : d.on F.HC_PORT_LINK_UP p = false) : linkRecoveryTimeout p d =
      ({ d with host := { d.host with downAt := setNth d.host.downAt p none } } : Dev).each (portCtxs p) (Dev.closeCtx 4) := by
  simp [linkRecoveryTimeout, hdown, hdue, hlink]

/-- What becomes of a CLOSING context's reads, translation registers and interrupts, after its walks and its cache entries went and before its
messages go. -/
def Dev.closeRest (cause x : Nat) (d : Dev) : Dev :=
  let d : Dev := d.dropReads x
  let d : Dev := if cause = 1 then d else
    let d : Dev := d.each (List.range 32) fun n d => d.modDma n fun c => { c with late := c.late.filter (·.ctx ≠ x) }
    let d : Dev := ((d.set F.HC_MMU_CTL_MODE 0 x).set F.HC_MMU_ROOT_LO_ROOT_LO 0 x).set F.HC_MMU_ROOT_HI_ROOT_HI 0 x
    (d.set F.HC_MMU_INV_LO_INV_LO 0 x).set F.HC_MMU_INV_HI_INV_HI 0 x
  ((d.set F.HC_IRQ_EN_EN 0 x).set F.HC_IRQ_STAT_STAT 0 x).flag F.FC_IRQ_EN false x |>.flag F.FC_IRQ_PENDING false x

theorem Dev.closeRest_host (cause x : Nat) (d : Dev) : (d.closeRest cause x).host = d.host := by
  have hreads : (d.dropReads x).host = d.host := (Dev.dropReads_keeps x d).1 .host (by decide)
  have hlate (e : Dev) : (e.each (List.range 32) fun n d => d.modDma n fun c => { c with late := c.late.filter (·.ctx ≠ x) }).host = e.host :=
    (Dev.keeps_each (S := ⟨[.dma], [], []⟩) _ _ (fun n e => Dev.modDma_keeps e n _) (Dev.keeps_refl _ e)).1 .host (by decide)
  unfold Dev.closeRest
  split <;> simp only [Dev.set_host, Dev.flag_host, hlate, hreads]

/-- A context before its walks and its cached translations go: CLOSING, its channels stopped. -/
def Dev.closeBegun (cause x : Nat) (d : Dev) : Dev :=
  let wasOwner := d.isOpen x && d.get F.HC_OWNER_OWNER == x
  let d : Dev := (d.set F.HC_CTX_STAT_STATE 2 x).set F.HC_CTX_STAT_CAUSE cause x
  let d : Dev := if wasOwner then d.ownerCheck else d
  d.each (d.dmaOf x) (Dev.dmaEnd 0 3)

theorem Dev.closeCtx_eq (cause x : Nat) (d : Dev) : d.closeCtx cause x =
    ((((d.closeBegun cause x).dropWalks x).dropCache x).closeRest cause x).modCtx x fun c => { c with held := [], latch := none, low := none } := by
  unfold Dev.closeCtx Dev.closeBegun Dev.closeRest
  rfl

/-- A context of the device is what a change made of it, or, where the device lists no such context, the initial one. -/
theorem Dev.ctx_modCtx_cases (d : Dev) (x : Nat) (f : CtxSt → CtxSt) : (d.modCtx x f).ctx x = f (d.ctx x) ∨ (d.modCtx x f).ctx x = .init x 0 := by
  by_cases h : x < d.host.ctxs.length
  · exact .inl (Dev.ctx_modCtx_self h f)
  · refine .inr ?_
    simp [Dev.ctx, Dev.modCtx, setNth_eq_set, nth, Nat.not_lt.mp h]

/-- Closing leaves of a context no cached translation, no walk, no pending message, no latch and no held word (R429, R437, R440). -/
theorem Dev.closeCtx_leaves (cause x : Nat) (d : Dev) : (∀ t ∈ (d.closeCtx cause x).host.cache, t.ctx ≠ x) ∧
    (∀ w ∈ (d.closeCtx cause x).host.walks, w.ctx ≠ x) ∧
    ((d.closeCtx cause x).ctx x).held = [] ∧ ((d.closeCtx cause x).ctx x).latch = none ∧ ((d.closeCtx cause x).ctx x).low = none := by
  rw [Dev.closeCtx_eq]
  refine ⟨fun t ht => ?_, fun w hw => ?_, ?_⟩
  · simp only [Dev.modCtx, Dev.closeRest_host] at ht
    exact of_decide_eq_true (List.mem_filter.mp ht).2
  · simp only [Dev.modCtx, Dev.closeRest_host] at hw
    exact of_decide_eq_true (List.mem_filter.mp hw).2
  · rcases Dev.ctx_modCtx_cases ((((d.closeBegun cause x).dropWalks x).dropCache x).closeRest cause x) x
      (fun c => { c with held := [], latch := none, low := none }) with h | h <;> rw [h] <;> exact ⟨rfl, rfl, rfl⟩

end close

/-- Settles O20: the ways to close by their branches, what closing leaves by the order in which it takes the context apart. -/
theorem contextCloses : Obligations.ContextCloses := by
  refine ⟨fun s dt d x hd hl => ?_, fun d cause x _ _ => Dev.closeCtx_leaves cause x d⟩
  subst hd
  refine ⟨fun hacc hst => exec_live hl rfl (close_open hacc hst), exec_live hl rfl rfl, exec_live hl rfl rfl,
    fun hst hdma hreads => exec_live hl rfl (contextClosed_ends hst hdma hreads), fun h => exec_live hl rfl (contextClosed_waits h),
    fun p t hdown hdue hlink => exec_live hl rfl (linkRecoveryTimeout_closes hdown hdue hlink)⟩

/-! Roles -/

section roles
variable {d : Dev} {x y : Nat}

theorem roleWrite_gives (h : d.refusal x true (0x10100 + 0x40 * y) = none) (hne : x ≠ y) {role : Nat} (hr : role = 1 ∨ role = 2) :
    roleWrite x y role d = d.setKept F.HC_CTX_CFG_ROLE role y := by
  have : ¬ (x = y ∨ (role ≠ 1 ∧ role ≠ 2)) := by omega
  rw [roleWrite, Dev.hostWrite_accepted _ _ _ _ h, if_neg this]

theorem roleWrite_refuses (h : d.refusal x true (0x10100 + 0x40 * y) = none) {role : Nat} (hr : x = y ∨ (role ≠ 1 ∧ role ≠ 2)) :
    roleWrite x y role d = d.refuse x false true 0 (0x10100 + 0x40 * y) := by
  rw [roleWrite, Dev.hostWrite_accepted _ _ _ _ h, if_pos hr]

theorem give_moves (h : d.refusal x true 0x10008 = none) (hopen : d.isOpen y = true) (hne : y ≠ x) :
    give x y d = (d.moveOwner x y).set F.HC_OWNER_RESULT 0 := by
  rw [give, Dev.hostWrite_accepted _ _ _ _ h]
  simp [hopen, hne]

theorem claimOwner_moves (h : d.refusal x true 0x1000C = none) (hwait : d.get F.HC_OWNER_CLAIM_WAIT ≠ 0)
    (hclosed : d.isOpen (d.get F.HC_OWNER_OWNER) = false) (hdue : d.host.ownerLost + 500000000 * d.get F.HC_OWNER_CLAIM_WAIT ≤ d.now) :
    claimOwner x d = (d.moveOwner (d.get F.HC_OWNER_OWNER) x).set F.HC_CLAIM_RESULT 0 := by
  rw [claimOwner, Dev.hostWrite_accepted _ _ _ _ h]
  simp [hwait, hclosed, Nat.not_lt.mpr hdue]

end roles

/-- A field that is neither the one set nor the journal's display keeps its value. -/
theorem Dev.get_setKept_ne (d : Dev) {f g : Fld} (v : Nat) {i j k l : Nat} (hne : (g, k, l) ≠ (f, i, j)) (hp : g ≠ F.MO_JOURNAL_PENDING)
    (hf : g ≠ F.MO_JOURNAL_FILL) : (d.setKept f v i j).get g k l = d.get g k l :=
  (Dev.get_journal_other _ _ _ _ k l hp hf).trans (Dev.get_set_ne d f g v i j k l hne)

theorem Dev.get_setKept_self (d : Dev) {f : Fld} (v : Nat) {i j : Nat} (hp : f ≠ F.MO_JOURNAL_PENDING) (hf : f ≠ F.MO_JOURNAL_FILL) :
    (d.setKept f v i j).get f i j = v % 2 ^ f.width :=
  (Dev.get_journal_other _ _ _ _ i j hp hf).trans (Dev.get_set_self ..)

/-- The settings records of the current half: where each applies and whether it is committed. -/
def Store.settingsLog (s : Store) : List (Nat × Bool) := (nth s.halves s.half ⟨0, false, []⟩).recs.map fun r => (r.off, r.committed)

/-- A settings record is appended to the current half, not yet committed (R41). -/
theorem Dev.journal_records {d : Dev} (h : d.store.half < d.store.halves.length) (off mask val : Nat) :
    (d.journal off mask val).store.half = d.store.half ∧ (d.journal off mask val).store.halves.length = d.store.halves.length ∧
    (d.journal off mask val).store.settingsLog = d.store.settingsLog ++ [(off, false)] := by
  have hnew : ((off, (JRec.start d.store.jseq off mask val (d.mo.imageId % 0x100000000)).committed) : Nat × Bool) = (off, false) := by
    simp [JRec.start, JRec.committed, commitWord]
  refine ⟨rfl, length_setNth .., ?_⟩
  have hset : (nth (d.journal off mask val).store.halves d.store.half ⟨0, false, []⟩).recs = (nth d.store.halves d.store.half ⟨0, false, []⟩).recs ++
      [JRec.start d.store.jseq off mask val (d.mo.imageId % 0x100000000)] := congrArg JHalf.recs (nth_setNth_self h _ _)
  rw [Store.settingsLog, show (d.journal off mask val).store.half = d.store.half from rfl, hset, List.map_append, List.map_singleton, ← hnew]
  rfl

/-- A Kept field set by the device appends its record. -/
theorem Dev.setKept_records {d : Dev} (h : d.store.half < d.store.halves.length) (f : Fld) (v i j : Nat) :
    (d.setKept f v i j).store.half = d.store.half ∧ (d.setKept f v i j).store.halves.length = d.store.halves.length ∧
    (d.setKept f v i j).store.settingsLog = d.store.settingsLog ++ [(regOffset f.base i j, false)] :=
  Dev.journal_records (d := d.set f v i j) h ..

theorem regOffset_role (i : Nat) : regOffset 0x10100 i 0 = 0x10100 + i * 0x40 := rfl
theorem regOffset_owner : regOffset 0x10008 0 0 = 0x10008 := rfl

/-- The registers of Dev.moveOwner before HC_OWNER's instant is noted. -/
theorem Dev.moveOwner_get (d : Dev) (old new : Nat) (f : Fld) (i j : Nat) : (d.moveOwner old new).get f i j =
    (((d.setKept F.HC_CTX_CFG_ROLE 0 new).setKept F.HC_CTX_CFG_ROLE 1 old).setKept F.HC_OWNER_OWNER new).get f i j :=
  (Dev.ownerCheck_keeps _).2 f i j rfl

/-- The Owner role moves as a whole (R426). -/
theorem Dev.moveOwner_roles (d : Dev) {old new : Nat} (hnew : new < 8) (hne : old ≠ new) :
    (d.moveOwner old new).role new = 0 ∧ (d.moveOwner old new).role old = 1 ∧ (d.moveOwner old new).get F.HC_OWNER_OWNER = new ∧
    ∀ y : Nat, y ≠ old → y ≠ new → (d.moveOwner old new).role y = d.role y := by
  have hrole (e : Dev) (y : Nat) : (e.setKept F.HC_OWNER_OWNER new).get F.HC_CTX_CFG_ROLE y = e.get F.HC_CTX_CFG_ROLE y :=
    Dev.get_setKept_ne e new (by simp) (by decide) (by decide)
  have hother (e : Dev) {y z v : Nat} (h : y ≠ z) : (e.setKept F.HC_CTX_CFG_ROLE v z).get F.HC_CTX_CFG_ROLE y = e.get F.HC_CTX_CFG_ROLE y :=
    Dev.get_setKept_ne e v (by simp [h]) (by decide) (by decide)
  have hself (e : Dev) (y v : Nat) : (e.setKept F.HC_CTX_CFG_ROLE v y).get F.HC_CTX_CFG_ROLE y = v % 4 :=
    Dev.get_setKept_self e v (by decide) (by decide)
  simp only [Dev.role, Dev.moveOwner_get]
  refine ⟨?_, ?_, ?_, fun y hold hnew' => ?_⟩
  · rw [hrole, hother _ (Ne.symm hne), hself]
  · rw [hrole, hself]
  · rw [Dev.get_setKept_self _ _ (by decide) (by decide)]
    exact Nat.mod_eq_of_lt hnew
  · rw [hrole, hother _ hold, hother _ hnew']

/-- Its three settings records, in the order of R426. -/
theorem Dev.moveOwner_records {d : Dev} (h : d.store.half < d.store.halves.length) (old new : Nat) :
    (d.moveOwner old new).store.half = d.store.half ∧
    (d.moveOwner old new).store.settingsLog = d.store.settingsLog ++
      [(0x10100 + 0x40 * new, false), (0x10100 + 0x40 * old, false), (0x10008, false)] := by
  have hkeep : (d.moveOwner old new).store = (((d.setKept F.HC_CTX_CFG_ROLE 0 new).setKept F.HC_CTX_CFG_ROLE 1 old).setKept F.HC_OWNER_OWNER new).store :=
    (Dev.ownerCheck_keeps _).1 .store (by decide)
  obtain ⟨hh1, hl1, hr1⟩ := Dev.setKept_records h F.HC_CTX_CFG_ROLE 0 new 0
  obtain ⟨hh2, hl2, hr2⟩ := Dev.setKept_records (d := d.setKept F.HC_CTX_CFG_ROLE 0 new) (by rw [hh1, hl1]; exact h) F.HC_CTX_CFG_ROLE 1 old 0
  obtain ⟨hh3, -, hr3⟩ := Dev.setKept_records (d := (d.setKept F.HC_CTX_CFG_ROLE 0 new).setKept F.HC_CTX_CFG_ROLE 1 old)
    (by rw [hh2, hl2, hh1, hl1]; exact h) F.HC_OWNER_OWNER new 0 0
  refine ⟨by rw [hkeep, hh3, hh2, hh1], ?_⟩
  rw [hkeep, hr3, hr2, hr1, regOffset_role, regOffset_role, regOffset_owner]
  simp [Nat.mul_comm]

/-- Settles O22: each command by its branch, the move by what each of its three records sets. -/
theorem roles : Obligations.Roles := by
  refine ⟨fun s dt d x hd hl => ?_, fun d old new _ hnew hne => ?_⟩
  · subst hd
    refine ⟨fun y role hacc => ⟨fun hne hr => ?_, fun hr => ?_⟩, fun y hacc hopen hne => ?_, fun hacc hwait hclosed hdue => ?_⟩
    · exact exec_live hl rfl (roleWrite_gives hacc (fun c => hne (Fin.ext c)) (by rcases hr with rfl | rfl <;> simp))
    · exact exec_live hl rfl (roleWrite_refuses hacc (by rcases hr with rfl | rfl | rfl <;> simp))
    · exact exec_live hl rfl (give_moves hacc hopen fun c => hne (Fin.ext c))
    · exact exec_live hl rfl (claimOwner_moves hacc hwait hclosed hdue)
  · obtain ⟨hn, ho, how, hrest⟩ := d.moveOwner_roles hnew hne
    refine ⟨hn, ho, how, hrest, fun hhalf => ?_⟩
    obtain ⟨hh, hr⟩ := Dev.moveOwner_records hhalf old new
    rwa [Store.settingsLog, hh] at hr

end Sys2Proof.Machine
end

section
/-! PROOF. Refused host writes (R424, R425) and the halves of 64-bit values (R433, R434). -/

namespace Sys2Proof.Machine

/-- Settles O15: each of these commands is, block by block, a host write at its offset, whatever it does once let through. -/
theorem refusedWrite : Obligations.RefusedWrite := by
  rintro i s d x off c rfl hl hw href
  have hrefused (f : Dev → Dev) := Dev.hostWrite_refused _ _ _ _ f href
  cases i <;> cases hw
  case load | verify | activate | erase | raiseFloor | keyrec | live =>
    exact exec_live hl rfl (by simp only [load, verify, activate, erase, raiseFloor, keyrec, live, Dev.moCmd, hrefused])
  case setTime | stepNs | slew | freq | tioCommand =>
    exact exec_live hl rfl (by simp only [setTime, stepNs, slew, freq, Dev.adjCmd, tioCommand, hrefused])
  case apply | restore | test | safeBlock | release =>
    exact exec_live hl rfl (by simp only [apply, restore, test, safeBlock, release, Dev.sbCmd, hrefused])
  case resync | fence | clear | proof | tpCfgWrite =>
    exact exec_live hl rfl (by simp only [resync, fence, clear, proof, tpCfgWrite, Dev.tpCmd, hrefused])
  case lmRun | lmContWrite | lmCalZero | lmCalFull | lmCalStore | lmCalFactory =>
    exact exec_live hl rfl (by simp only [lmRun, lmContWrite, lmCalZero, lmCalFull, lmCalStore, lmCalFactory, Dev.calCmd, hrefused])
  case clearFirst | eraseLog | logIndexWrite | inject | faultClear =>
    exact exec_live hl rfl (by simp only [clearFirst, eraseLog, logIndexWrite, inject, faultClear, hrefused])
  case irqPendingClear fault _ _ =>
    cases fault
    all_goals
      simp only [Bool.false_eq_true, if_false, if_true] at hrefused ⊢
      exact exec_live hl rfl (by simp only [irqPendingClear, Bool.false_eq_true, if_false, if_true, hrefused])
  case admitCmd | remove | rediscover | measure =>
    exact exec_live hl rfl (by simp only [admitCmd, remove, rediscover, measure, Dev.crsOrder, hrefused])
  case loopNearSerial | loopNearParallel | loopFarEnd | holdIdle | loopEnd =>
    exact exec_live hl rfl (by simp only [loopNearSerial, loopNearParallel, loopFarEnd, holdIdle, loopEnd, Dev.laneCmd, hrefused])
  case open' | close | roleWrite | give | claimOwner =>
    exact exec_live hl rfl (by simp only [open', close, roleWrite, give, claimOwner, hrefused])
  case mmuConfigWrite | invAll | invPage =>
    exact exec_live hl rfl (by simp only [mmuConfigWrite, invAll, invPage, Dev.ownWrite, hrefused])
  case kilnCodeWrite | vadaptEnable =>
    exact exec_live hl rfl (by simp only [kilnCodeWrite, vadaptEnable, hrefused])
  case setpointCommit | modeCommand | harvestScan =>
    exact exec_live hl rfl (by simp only [setpointCommit, modeCommand, harvestScan, hrefused])
  case claim | releaseChannel | arm | pause | resume | abort | disarm | dmaAcknowledge =>
    exact exec_live hl rfl (by simp only [claim, releaseChannel, arm, pause, resume, abort, disarm, dmaAcknowledge, Dev.dmaCmd, hrefused])

/-! Halves read (R433) -/

section halves
variable {d : Dev} {x off : Nat}

/-- The device with a latch of the context. -/
def Dev.latching (x off : Nat) (d : Dev) : Dev := d.modCtx x fun c => { c with latch := some (off, d.word x (off + 4)) }

theorem pairLowRead_accepted (h : d.refusal x false off = none) : pairLowRead x off d =
    ((d.latching x off).readReg x off).1.emit (.readData x off ((d.latching x off).word x off)) := by
  rw [pairLowRead, Dev.hostRead_accepted _ _ _ _ h]
  exact congrArg (fun v => ((d.latching x off).readReg x off).1.emit (.readData x off v)) (Dev.readReg_snd ..)

theorem pairHighRead_latched (h : d.refusal x false off = none) {high : Nat} (hoff : 4 ≤ off) (hl : (d.ctx x).latch = some (off - 4, high)) :
    pairHighRead x off d = d.emit (.readData x off high) := by
  have hpair : off - 4 + 4 = off := Nat.sub_add_cancel hoff
  rw [pairHighRead, Dev.hostRead_accepted _ _ _ _ h]
  simp [hl, hpair]

/-- Where the latch does not hold the pair, the high word is the live one and the read is counted. -/
theorem pairHighRead_live (h : d.refusal x false off = none) (hl : ∀ o high : Nat, (d.ctx x).latch = some (o, high) → o + 4 ≠ off) :
    pairHighRead x off d = ((d.count F.HC_CTX_STAT_HALF_LIVE x).readReg x off).1.emit
      (.readData x off ((d.count F.HC_CTX_STAT_HALF_LIVE x).word x off)) := by
  have hlive : pairHighRead x off d = d.hostRead x off fun d => (d.count F.HC_CTX_STAT_HALF_LIVE x).readReg x off := by
    simp only [pairHighRead, Dev.hostRead_accepted _ _ _ _ h]
    split
    · next o high heq => rw [if_neg (hl o high heq)]
    · rfl
  rw [hlive, Dev.hostRead_accepted _ _ _ _ h, Dev.readReg_snd]

/-- No pair lies at, or one dword before, the registers whose reads latch a time or a stamp. -/
theorem pairLow_not_latched (h : pairLow off = true) (k : Nat) (hk : k = 0 ∨ k = 4) : off + k ≠ 0x30010 ∧
    ¬(0x30200 ≤ off + k ∧ off + k < 0x30240 ∧ (off + k) % 16 = 0) ∧ ¬(0x30500 ≤ off + k ∧ off + k < 0x30600 ∧ (off + k) % 16 = 0) := by
  have hnow : pairLow (0x30010 - 0) = false ∧ pairLow (0x30010 - 4) = false := by decide +kernel
  have hstamp : ∀ i < 4, pairLow (0x30200 + 16 * i - 0) = false ∧ pairLow (0x30200 + 16 * i - 4) = false := by decide +kernel
  have hevt : ∀ i < 16, pairLow (0x30500 + 16 * i - 0) = false ∧ pairLow (0x30500 + 16 * i - 4) = false := by decide +kernel
  have hno {a : Nat} (hf : pairLow (a - 0) = false ∧ pairLow (a - 4) = false) : off + k ≠ a := by
    rintro rfl
    rcases hk with rfl | rfl <;> simp [h] at hf
  refine ⟨hno hnow, fun ⟨hlo, hhi, hm⟩ => ?_, fun ⟨hlo, hhi, hm⟩ => ?_⟩
  · exact hno (hstamp ((off + k - 0x30200) / 16) (by omega)) (by omega)
  · exact hno (hevt ((off + k - 0x30500) / 16) (by omega)) (by omega)

/-- A word of a pair read with the other one is read alone and leaves the latch. -/
theorem Dev.readWord_ofPair {k : Nat} (h : pairLow off = true) (hk : k = 0 ∨ k = 4) (hacc : d.refusal x false (off + k) = none) :
    d.readWord x (off + k) false = (d.readReg x (off + k)).1.emit (.readData x (off + k) (d.word x (off + k))) := by
  obtain ⟨hnow, hstamp, hevt⟩ := pairLow_not_latched h k hk
  rw [Dev.readWord, if_neg hnow, if_neg hstamp, if_neg hevt, ← Dev.readReg_snd]
  simp only [Bool.false_and, Bool.false_eq_true, if_false]
  exact Dev.hostRead_accepted _ _ _ _ hacc

/-- Both words of a pair read at once. -/
theorem readClear_pair (ha : off % 4 = 0) (hform : registerForm off 2 = true) (hr : inReadback off = false) (hw : inWork off = false)
    (h : pairLow off = true) (hacc : d.refusal x false off = none) :
    readClear x off 2 d = (d.readWord x off false).readWord x (off + 4) false := by
  simp [readClear, div_mul_of_dword ha, hform, hr, hw, hacc, h]

theorem Dev.clearRc_host (r : RegAt) (d : Dev) : (d.clearRc r).host = d.host := by
  unfold Dev.clearRc
  generalize r.reg.fields = l
  induction l generalizing d with
  | nil => rfl
  | cons fd l ih =>
    rw [List.foldl_cons, ih]
    split <;> rfl

/-- A read of a register changes no part of the device but the registers. -/
theorem Dev.readReg_host (d : Dev) (x off : Nat) : (d.readReg x off).1.host = d.host := by
  unfold Dev.readReg
  dsimp only
  split
  · rfl
  · split
    · rfl
    · exact Dev.clearRc_host _ d

end halves

/-! Halves written (R434) -/

section halvesWritten
variable {d : Dev} {x lo off v : Nat} {r : RegAt}

/-- Both words of a pair applied: as a write of the MMU's configuration, or one after the other. -/
theorem Dev.pairApply_accepted {e : Dev} (hacc : e.writeRefusal x lo = none) (hr : findReg regTable lo = some r) (low high : Nat) :
    e.pairApply x lo low high =
      if r.reg.base = 0x10114 then mmuConfigWrite x r.i true (low + 0x100000000 * high) e
      else (e.putWord lo low).putWord (lo + 4) high := by
  simp only [Dev.pairApply, Dev.checkedWrite_accepted _ hacc, hr]

theorem pairLowWrite_accepted (hacc : d.writeRefusal x off = none) (hv : v < 0x100000000) :
    pairLowWrite x off v d = d.modCtx x fun c => { c with low := some (off, v) } := by
  rw [pairLowWrite, Dev.checkedWrite_accepted _ hacc, Nat.mod_eq_of_lt hv]

/-- What a context holds is no ground to refuse a write. -/
theorem Dev.writeRefusal_modCtx (d : Dev) (y : Nat) (f : CtxSt → CtxSt) : (d.modCtx y f).writeRefusal x lo = d.writeRefusal x lo := rfl

/-- The high word with the low one as held for this pair. -/
theorem pairHighWrite_held {low : Nat} (hacc : d.writeRefusal x off = none) (hv : v < 0x100000000) (hoff : lo + 4 = off)
    (hl : (d.ctx x).low = some (lo, low)) :
    pairHighWrite x off v d = (d.modCtx x fun c => { c with low := none }).pairApply x lo low v := by
  simp only [pairHighWrite, Dev.checkedWrite_accepted _ hacc, hl, hoff, if_true, Nat.mod_eq_of_lt hv]

/-- The high word with the low one as it stands. -/
theorem pairHighWrite_present (hacc : d.writeRefusal x off = none) (hv : v < 0x100000000) (hoff : lo + 4 = off)
    (hl : ∀ o low : Nat, (d.ctx x).low = some (o, low) → o ≠ lo) : pairHighWrite x off v d = d.pairApply x lo (d.word x lo) v := by
  have hlo : off - 4 = lo := by omega
  simp only [pairHighWrite, Dev.checkedWrite_accepted _ hacc, hlo, Nat.mod_eq_of_lt hv]
  split
  · next o low heq => exact if_neg fun ho => hl o low heq (by omega)
  · rfl

/-- Both words of a writable pair written at once. -/
theorem registerWrite_pair {w : Nat} (ha : lo % 4 = 0) (hform : registerForm lo 2 = true) (hb : inReadback lo = false) (hw : inWork lo = false)
    (hp : pairLow lo = true) (hr : findReg regTable lo = some r) (hrw : (r.reg.fields.any fun fd => decide (fd.acc = .rw)) = true)
    (hwlt : w < 0x100000000) (hv : v < 0x100000000) : registerWrite x lo [w, v] 15 15 d = d.pairApply x lo w v := by
  have hpair : rwPair pairLow lo = true := by simpa [rwPair, hp, hr] using hrw
  simp [registerWrite, div_mul_of_dword ha, hform, hb, hw, hpair, nth, Nat.mod_eq_of_lt hwlt, Nat.mod_eq_of_lt hv]

end halvesWritten

/-- Settles O13: reads by the latch of the context, writes by the low word it holds. -/
theorem pairedHalves : Obligations.PairedHalves := by
  refine ⟨?_, ?_⟩
  · rintro s dt d x off rfl ⟨hl, hacc⟩
    refine ⟨exec_live hl rfl (pairLowRead_accepted hacc), fun high hoff hlatch => exec_live hl rfl (pairHighRead_latched hacc hoff hlatch),
      fun hno => exec_live hl rfl (pairHighRead_live hacc hno), fun d1 d2 ha hform hb hw hp h1 hacc2 h2 => ?_⟩
    have hone := Dev.readWord_ofPair (k := 0) hp (.inl rfl) hacc
    have htwo := Dev.readWord_ofPair (k := 4) hp (.inr rfl) hacc2
    have hhost : d2.host = (s.seen dt).host := by
      rw [h2, Dev.emit_host, Dev.readReg_host, h1, Dev.emit_host, Dev.readReg_host]
    refine ⟨?_, by simp only [Dev.ctx, hhost]⟩
    rw [exec_readClear_live _ _ _ _ _ hl, readClear_pair ha hform hb hw hp hacc]
    simp only [Nat.add_zero] at hone
    rw [hone, ← h1, htwo, ← h2]
  · rintro s dt d x off v rfl hl hacc
    refine ⟨exec_live hl rfl (pairLowWrite_accepted hacc v.isLt), fun lo r hoff hacclo hr =>
      ⟨fun low hlow => ?_, fun hno => ?_, fun w ha hform hb hw hp hrw => ?_⟩⟩
    · refine exec_live hl rfl ((pairHighWrite_held hacc v.isLt hoff hlow).trans ?_)
      rw [Dev.pairApply_accepted ((Dev.writeRefusal_modCtx ..).trans hacclo) hr, hoff]
    · refine exec_live hl rfl ((pairHighWrite_present hacc v.isLt hoff hno).trans ?_)
      rw [Dev.pairApply_accepted hacclo hr, hoff]
    · rw [exec_registerWrite_live _ _ _ _ _ _ _ hl]
      refine congrArg (fun e => Host.Outcome.next (s.settled e)) ((registerWrite_pair ha hform hb hw hp hr hrw w.isLt v.isLt).trans ?_)
      rw [Dev.pairApply_accepted hacclo hr, hoff]

end Sys2Proof.Machine
end

section
/-! PROOF. The MMU of a context (R434 to R438): mode and root, invalidation, walks. -/

namespace Sys2Proof.Machine

section mmu
variable {d : Dev} {x : Nat}

/-- A write to a context's own entry that is let through. -/
theorem Dev.ownWrite_accepted {off : Nat} (h : d.refusal x true off = none) (f : Dev → Dev) : d.ownWrite x x off f = f d := by
  rw [Dev.ownWrite, Dev.hostWrite_accepted _ _ _ _ h, if_pos rfl]

theorem mmuConfigWrite_mode (h : d.refusal x true (0x10110 + 0x40 * x) = none) (v : Nat) : mmuConfigWrite x x false v d = d.setMmuMode x v :=
  Dev.ownWrite_accepted h _

theorem mmuConfigWrite_root (h : d.refusal x true (0x10114 + 0x40 * x) = none) (v : Nat) : mmuConfigWrite x x true v d =
    ((d.set F.HC_MMU_ROOT_LO_ROOT_LO (v % 0x100000000 / 0x1000 * 0x1000) x).set F.HC_MMU_ROOT_HI_ROOT_HI (v / 0x100000000) x).rerooted x :=
  Dev.ownWrite_accepted h _

/-- After a write of the mode or the root no entry cached before serves and no translation joins a walk begun before (R435). -/
theorem Dev.rerooted_leaves (y : Nat) (d : Dev) :
    (∀ t ∈ (d.rerooted y).host.cache, t.ctx ≠ y) ∧ ∀ w ∈ (d.rerooted y).host.walks, w.ctx = y → w.old = true := by
  refine ⟨fun t ht => of_decide_eq_true (List.mem_filter.mp ht).2, fun w hw hctx => ?_⟩
  obtain ⟨v, -, rfl⟩ := List.mem_map.mp hw
  by_cases hv : v.ctx = y
  · rw [if_pos hv]
  · rw [if_neg hv] at hctx
    exact absurd hctx hv

/-- The entries of a context an invalidation meets are old; those of one page, or all. -/
def Dev.aged (y : Nat) (page : Option Nat) (d : Dev) : Dev :=
  { d with host := { d.host with cache := d.host.cache.map fun e =>
      if e.ctx == y && (match page with | some p => e.page == p | none => true) then { e with old := true } else e } }

theorem Dev.startInv_idle (h : d.on F.HC_MMU_CTL_BUSY x = false) (page : Option Nat) :
    d.startInv x page = (d.aged x page).flag F.HC_MMU_CTL_BUSY true x := if_neg (by simp [h])

theorem invAll_starts (hacc : d.refusal x true (0x10110 + 0x40 * x) = none) (h : d.on F.HC_MMU_CTL_BUSY x = false) :
    invAll x x d = (d.aged x none).flag F.HC_MMU_CTL_BUSY true x := (Dev.ownWrite_accepted hacc _).trans (Dev.startInv_idle h _)

theorem invPage_starts (hacc : d.refusal x true (0x10110 + 0x40 * x) = none) (h : d.on F.HC_MMU_CTL_BUSY x = false) :
    invPage x x d = (d.aged x (some (d.invPageNo x))).flag F.HC_MMU_CTL_BUSY true x :=
  (Dev.ownWrite_accepted hacc _).trans (Dev.startInv_idle h _)

/-- An invalidation that completes discards the old entries of its context (R437). -/
theorem invalidationComplete_ends (h : d.on F.HC_MMU_CTL_BUSY x = true) (hb : d.oldBurst x = false) : invalidationComplete x d =
    ({ d with host := { d.host with cache := d.host.cache.filter fun e => !(e.ctx == x && e.old) } } : Dev).flag F.HC_MMU_CTL_BUSY false x :=
  if_pos (by simp [h, hb])

/-! Walks -/

/-- The device without a walk. -/
def Dev.withoutWalk (w : PageWalk) (d : Dev) : Dev := { d with host := { d.host with walks := d.host.walks.filter (· ≠ w) } }

variable {w : PageWalk} {entry : Nat}

theorem translationWalkComplete_found (h : d.host.walks.find? (·.ctx == x) = some w) (status : Nat) :
    translationWalkComplete x entry status d =
      if status = 1 then (d.withoutWalk w).walkFault w 6
      else if status ≠ 0 then (if d.timedOut x w.since then (d.withoutWalk w).walkFault w 7 else d)
      else if w.level = 1 then
        if entry % 2 = 0 then (d.withoutWalk w).walkFault w 2
        else if entry / 2 % 0x800 ≠ 0 then (d.withoutWalk w).walkFault w 5
        else
          ({ d with host := { d.host with walks := d.host.walks.map fun v => if v = w then { v with level := 2, since := d.now } else v } } : Dev).emit
            (.hostRead x (entry / 0x1000 * 0x1000 + 8 * (w.addr / 0x10000 % 0x10000)) 0 8)
      else if entry % 2 = 0 then (d.withoutWalk w).walkFault w 3
      else if entry / 0x20 % 0x800 ≠ 0 then (d.withoutWalk w).walkFault w 5
      else (d.withoutWalk w).walkDone w ⟨x, w.addr / 0x10000, entry / 0x10000 * 0x10000, testBit entry 1, testBit entry 2, entry / 8 % 4, false⟩ := by
  simp only [translationWalkComplete, h]
  rfl

/-- What a walk that is not old found is cached, and the channels that wait for it try again. -/
theorem Dev.walkDone_cached (h : w.old = false) (t : TransEntry) : d.walkDone w t =
    (((d.cacheAdd t).each ((d.cacheAdd t).walkers w) Dev.dmaRetry).retryWaiting (w.ctx / 4)).dmaShow (w.ctx / 4) := by
  simp only [Dev.walkDone, h, Bool.false_eq_true, if_false]

end mmu

/-- Settles O23: the writes by their branch, a walk by its status, its level and the entry read. -/
theorem translation : Obligations.Translation := by
  rintro s dt d x rfl hl
  refine ⟨fun v hacc => exec_live hl rfl (mmuConfigWrite_mode hacc _), fun v hacc => exec_live hl rfl (mmuConfigWrite_root hacc _),
    fun y => Dev.rerooted_leaves y _, fun hacc hidle => ⟨⟨_, exec_live hl rfl (invAll_starts hacc hidle), rfl, ?_⟩,
      ⟨_, exec_live hl rfl (invPage_starts hacc hidle), rfl, rfl⟩⟩,
    fun hbusy hburst => ⟨_, exec_live hl rfl (invalidationComplete_ends hbusy hburst), Dev.on_flag_self rfl .., fun t ht hctx => ?_⟩,
    fun w entry hw => ⟨fun hlevel hvalid hzero => ?_, fun hlevel hvalid hzero => ⟨?_, ?_⟩, ?_⟩, fun w t hold => Dev.walkDone_cached hold t⟩
  · simp [Dev.aged]
  · have := (List.mem_filter.mp ht).2
    simpa [hctx] using this
  · refine exec_live hl rfl ((translationWalkComplete_found hw 0).trans ?_)
    simp [hlevel, hvalid, hzero]
  · have hctx : w.ctx = x.val := by simpa using List.find?_some hw
    refine exec_live hl rfl ((translationWalkComplete_found hw 0).trans ?_)
    simp [hlevel, hvalid, hzero, hctx, Dev.withoutWalk]
  · simpa using List.find?_some hw
  · exact exec_live hl rfl (translationWalkComplete_found hw 1)

end Sys2Proof.Machine
end

section
/-! PROOF. A raise (R377, R380, R381, R383, R387, R389, R390): its round, its record, and each reaction. -/

namespace Sys2Proof.Machine

/-! The BLOCK frame that the voters release (R383) -/

/-- Of three answers the one that is there twice. -/
theorem twice_filterMap (p : Nat → Option Frame) (f : Frame) : twice ([0, 1, 2].filterMap p) = some f ↔
    ∃ a b : Nat, a < b ∧ b < 3 ∧ p a = some f ∧ p b = some f := by
  have hpairs : (∃ a b : Nat, a < b ∧ b < 3 ∧ p a = some f ∧ p b = some f) ↔
      (p 0 = some f ∧ p 1 = some f) ∨ (p 0 = some f ∧ p 2 = some f) ∨ (p 1 = some f ∧ p 2 = some f) := by
    constructor
    · rintro ⟨a, b, hab, hb, ha, hb'⟩
      obtain ⟨rfl, rfl⟩ | ⟨rfl, rfl⟩ | ⟨rfl, rfl⟩ : (a = 0 ∧ b = 1) ∨ (a = 0 ∧ b = 2) ∨ (a = 1 ∧ b = 2) := by omega
      · exact .inl ⟨ha, hb'⟩
      · exact .inr (.inl ⟨ha, hb'⟩)
      · exact .inr (.inr ⟨ha, hb'⟩)
    · rintro (h | h | h)
      · exact ⟨0, 1, by omega, by omega, h⟩
      · exact ⟨0, 2, by omega, by omega, h⟩
      · exact ⟨1, 2, by omega, by omega, h⟩
  rw [hpairs]
  cases h0 : p 0 <;> cases h1 : p 1 <;> cases h2 : p 2 <;> simp [h0, h1, h2, twice] <;> grind

theorem Dev.blockFrame_out {d : Dev} {ch : Nat} (h : d.inService ch = false) (t : Nat) : d.blockFrame t ch = none := if_pos (by simp [h])

/-- A channel that is not in service has no BLOCK frame: the frames of those that are are those of all three. -/
theorem Dev.blockFrames_eq (d : Dev) (t : Nat) : d.serving.filterMap (d.blockFrame t) = [0, 1, 2].filterMap (d.blockFrame t) := by
  rw [Dev.serving, List.filterMap_filter, show [0, 1, 2] = List.range 3 from rfl]
  refine congrArg (fun p => (List.range 3).filterMap p) (funext fun ch => ?_)
  cases h : d.inService ch
  · rw [if_neg (by decide), Dev.blockFrame_out h]
  · rw [if_pos rfl]

theorem Dev.blockVote_two {d : Dev} (h : d.triplex = 1 ∨ d.triplex = 2) (t : Nat) : d.blockVote t = twice ([0, 1, 2].filterMap (d.blockFrame t)) := by
  rw [Dev.blockVote, if_pos h, Dev.blockFrames_eq]

theorem Dev.blockVote_one {d : Dev} {ch : Nat} (h : d.triplex = 3) (hs : d.serving = [ch]) (t : Nat) : d.blockVote t = d.blockFrame t ch := by
  rw [Dev.blockVote, if_neg (by omega), if_pos h, hs]
  cases hf : d.blockFrame t ch <;> simp [hf]

theorem Dev.blockVote_none {d : Dev} (h : d.triplex = 4) (t : Nat) : d.blockVote t = none := by
  rw [Dev.blockVote, if_neg (by omega), if_neg (by omega)]

/-! The round of one raise -/

section round
variable {d : Dev} {n detail : Nat}

/-- A raise a detector makes. -/
def detected (n detail : Nat) : Due := ⟨n, detail, false, none⟩

/-- The device with a raise latched whose latch was not set, before its record. -/
def Dev.latchSet (n : Nat) (d : Dev) : Dev :=
  let e : Dev := (d.count F.FC_COUNT_COUNT n).flag F.FC_LATCH_LATCH true n
  { e with fc := { e.fc with
      taken := tabSet e.fc.taken n (d.reaction n + 16 * d.reactGroups n), injected := e.fc.injected.filter (· ≠ n) } }

/-- The record of a detector's raise. -/
def Dev.raisedRec (n detail : Nat) (d : Dev) : LogRec := (d.latchSet n).raiseRec (detected n detail) (d.reaction n)

theorem Dev.latchOne_new (hr : d.ready F.GL_READY_FAULTS = true) (hl : d.latched n = false) :
    d.latchOne (detected n detail) = (d.latchSet n).queueRec (d.raisedRec n detail) := by
  have hready : (d.count F.FC_COUNT_COUNT n).ready F.GL_READY_FAULTS = true := (Dev.on_set_other _ _ _ _ _ _ _ _ (by decide)).trans hr
  have hlatch : (d.count F.FC_COUNT_COUNT n).latched n = false := (Dev.on_set_other _ _ _ _ _ _ _ _ (by decide)).trans hl
  have hreact : (d.count F.FC_COUNT_COUNT n).reaction n = d.reaction n := Dev.get_set_other _ _ _ _ _ _ _ _ (by decide)
  have hgroups : ((d.count F.FC_COUNT_COUNT n).flag F.FC_LATCH_LATCH true n).reactGroups n = d.reactGroups n :=
    (Dev.get_set_other _ _ _ _ _ _ _ _ (by decide)).trans (Dev.get_set_other _ _ _ _ _ _ _ _ (by decide))
  have hcode : (d.count F.FC_COUNT_COUNT n).reactionOf (detected n detail) = d.reaction n := by
    simp only [Dev.reactionOf, detected, Bool.false_eq_true, if_false, hready, if_true, hreact]
  have hfresh : (d.count F.FC_COUNT_COUNT n).isFresh (detected n detail) = true := by
    simp only [Dev.isFresh, detected, hlatch, Bool.not_false, Bool.true_or]
  simp only [Dev.latchOne, show (detected n detail).n = n from rfl, hfresh, if_true, hcode, hgroups]
  rfl

/-- The device with a raise latched, recorded and, where it is the first, shown as such: before its reaction. -/
def Dev.raiseTaken (n detail : Nat) (d : Dev) : Dev := ((d.latchSet n).queueRec (d.raisedRec n detail)).firstFault [n]

theorem Dev.raiseTaken_keeps (hr : d.ready F.GL_READY_FAULTS = true) (hl : d.latched n = false) :
    Dev.keeps ⟨[.store, .fc], [F.FC_COUNT_COUNT, F.FC_LATCH_LATCH, F.FC_LOG_STAT_QUEUE, F.FC_FIRST_SAME_TICK, F.FC_FIRST_SEQ_SEQ,
      F.FC_FIRST_SOURCE, F.FC_FIRST_VALID], []⟩ d (d.raiseTaken n detail) := by
  rw [Dev.raiseTaken, ← Dev.latchOne_new hr hl]
  exact Dev.keeps_step (by decide +kernel) (Dev.firstFault_keeps ..) (Dev.keeps_mono (by decide +kernel) (Dev.latchOne_keeps ..))

theorem Dev.firstFault_fc (l : List Nat) (d : Dev) : (d.firstFault l).fc.taken = d.fc.taken ∧ (d.firstFault l).fc.due = d.fc.due := by
  unfold Dev.firstFault
  dsimp only
  split
  · exact ⟨rfl, rfl⟩
  · exact ⟨rfl, rfl⟩

theorem Dev.taken_raiseTaken : tabD (d.raiseTaken n detail).fc.taken n 0 = d.reaction n + 16 * d.reactGroups n := by
  rw [Dev.raiseTaken, (Dev.firstFault_fc ..).1]
  exact tabD_tabSet_self ..

theorem Dev.due_raiseTaken : (d.raiseTaken n detail).fc.due = d.fc.due := by
  rw [Dev.raiseTaken, (Dev.firstFault_fc ..).2]
  rfl

theorem Dev.latched_raiseTaken : (d.raiseTaken n detail).latched n = true := by
  rw [Dev.latched, Dev.raiseTaken, Dev.on_of_keeps (Dev.firstFault_keeps ..) (by decide), Dev.on_of_keeps (Dev.queueRec_keeps ..) (by decide)]
  exact Dev.on_flag_self (f := F.FC_LATCH_LATCH) rfl (d.count F.FC_COUNT_COUNT n) true n 0

/-- One raise alone is a round of its own: latch and record, then the reaction, then the interrupt of a reaction but LOG. -/
theorem Dev.settleRound_raise (hdue : d.fc.due = []) (hr : d.ready F.GL_READY_FAULTS = true) (hl : d.latched n = false) (hc : d.reaction n < 15) :
    (d.raise n detail).settleRound =
      (if 1 ≤ d.reaction n then ((d.raiseTaken n detail).react (d.reaction n) (d.reactGroups n) n).interrupt
       else (d.raiseTaken n detail).react (d.reaction n) (d.reactGroups n) n) := by
  have hbatch : dueSorted (d.raise n detail).fc.due = [detected n detail] := by
    rw [Dev.raise, hdue]
    rfl
  have hclear : ({ d.raise n detail with fc := { (d.raise n detail).fc with due := [] } } : Dev) = d := by
    rw [Dev.raise, ← hdue]
  have hfresh : d.isFresh (detected n detail) = true := by
    simp only [Dev.isFresh, detected, hl, Bool.not_false, Bool.true_or]
  have hmod : (d.reaction n + 16 * d.reactGroups n) % 16 = d.reaction n := by omega
  have hdiv : (d.reaction n + 16 * d.reactGroups n) / 16 = d.reactGroups n := by omega
  have htaken : ((d.latchSet n).queueRec (d.raisedRec n detail)).firstFault [n] = d.raiseTaken n detail := rfl
  unfold Dev.settleRound
  dsimp only
  rw [hclear, hbatch]
  simp only [List.filter_cons, List.filter_nil, hfresh, Bool.not_true, Bool.false_eq_true, if_false, if_true, List.map_cons, List.map_nil,
    List.foldl_cons, List.foldl_nil, List.eraseDups_cons, List.eraseDups_nil, Dev.latchOne_new hr hl, show (detected n detail).n = n from rfl,
    hl, Bool.not_false, htaken, Dev.taken_raiseTaken, hmod, sortBy, insertBy, hdiv, List.any_cons, List.any_nil, Bool.or_false]
  rw [if_neg (show ¬d.reaction n = 15 by omega)]
  simp [hc]

/-! The first fault (R389) -/

/-- A record of this tick as the first fault marks it. -/
def Dev.marked (d : Dev) (n : Nat) (r : LogRec) : LogRec :=
  if (r.typ == 1 || r.typ == 3) && r.sec == d.sec && r.ns == d.ns then { r with flags := putBit r.flags 1 (r.source == n) } else r

theorem Dev.marked_same (d : Dev) (n : Nat) (r : LogRec) : (d.marked n r).source = r.source ∧ (d.marked n r).detail = r.detail ∧
    (d.marked n r).typ = r.typ ∧ (d.marked n r).reaction = r.reaction ∧ (d.marked n r).sec = r.sec ∧ (d.marked n r).ns = r.ns := by
  unfold Dev.marked
  split <;> exact ⟨rfl, rfl, rfl, rfl, rfl, rfl⟩

theorem Dev.marked_first {r : LogRec} (ht : r.typ = 1) (hs : r.sec = d.sec) (hns : r.ns = d.ns) (hn : r.source = n) :
    testBit (d.marked n r).flags 1 = true := by
  rw [Dev.marked, if_pos (by simp [ht, hs, hns]), hn, beq_self_eq_true]
  exact testBit_putBit_self ..

theorem Dev.firstFault_later (hv : d.store.first.valid = true) (ha : d.fc.firstAt ≠ some d.now) : d.firstFault [n] = d :=
  if_pos (by simp [hv, ha])

theorem Dev.firstFault_new (hn : n < 512) (hv : d.store.first.valid = false) :
    (d.firstFault [n]).store.first = ⟨true, 0, n, 0⟩ ∧ (d.firstFault [n]).fc.queue = d.fc.queue.map (d.marked n) := by
  have hlow : min 511 n = n := by omega
  unfold Dev.firstFault
  simp only [hv, List.isEmpty_cons, Bool.false_and, Bool.or_false, Bool.false_eq_true, if_false, List.foldl_cons, List.foldl_nil, hlow]
  exact ⟨rfl, rfl⟩

theorem Dev.firstFault_same (hn : n < 512) (hv : d.store.first.valid = true) (ha : d.fc.firstAt = some d.now) :
    (d.firstFault [n]).store.first.valid = true ∧ (d.firstFault [n]).store.first.sameTick = clampN 255 (d.store.first.sameTick + 1) ∧
      (d.firstFault [n]).store.first.source = min d.store.first.source n ∧
      (d.firstFault [n]).fc.queue = d.fc.queue.map (d.marked (min d.store.first.source n)) := by
  have hlow : min 511 n = n := by omega
  unfold Dev.firstFault
  simp only [hv, ha, List.isEmpty_cons, bne_self_eq_false, Bool.and_false, Bool.or_false, Bool.false_eq_true, if_false, List.foldl_cons,
    List.foldl_nil, hlow, if_true]
  exact ⟨rfl, rfl, rfl, rfl⟩

end round
/-! The report of a detector -/

section detector
variable {d : Dev} {n detail : Nat}

/-- What a detector's report changes beside the source's condition or its raise: the check of a die's frames, the port's state, the log of AER. -/
def Dev.detectorSide (n detail : Nat) (d : Dev) : Dev :=
  let d : Dev := if n = 0x14A ∨ n = 0x14B then { d with cm := { d.cm with hubBad := setNth d.cm.hubBad (n - 0x14A) true } } else d
  let d : Dev := if 0x14F ≤ n ∧ n ≤ 0x152 ∧ !d.isFenced n then d.set F.TB_PTP_PORT_W0_STATE 2 (n - 0x14F) else d
  if n = 0x15E then
    (d.modCtx (detail % 8) fun c => { c with aer := c.aer ||| 2 ^ (detail / 0x100 % 32) }).count F.HC_PORT_UNCORR (detail % 8 / 4) else d

theorem Dev.detectorSide_keeps (n detail : Nat) (d : Dev) :
    Dev.keeps ⟨[.cm, .host], [F.TB_PTP_PORT_W0_STATE, F.HC_PORT_UNCORR], []⟩ d (d.detectorSide n detail) := by
  unfold Dev.detectorSide
  refine Dev.keeps_ite (Dev.keeps_count _ _ _ rfl (Dev.keeps_host _ rfl ?_)) ?_ <;>
  · refine Dev.keeps_ite (Dev.keeps_set _ _ _ _ rfl ?_) ?_ <;>
    · exact Dev.keeps_ite (Dev.keeps_cm _ rfl (Dev.keeps_refl ..)) (Dev.keeps_refl ..)

theorem Dev.detectorSide_cm (ha : n ≠ 0x14A) (hb : n ≠ 0x14B) : (d.detectorSide n detail).cm = d.cm := by
  unfold Dev.detectorSide
  simp only [ha, hb, or_self, if_false]
  split <;> split <;> rfl

theorem faultRaise_holds (hs : isSource n = true) (hn : n ∉ [0, 0x148, 0x149, 0x153]) :
    faultRaise n detail true d =
      if isLevel n = true then (d.detectorSide n detail).cond n true detail else (d.detectorSide n detail).raise n detail := by
  simp only [List.mem_cons, List.not_mem_nil, not_or, or_false] at hn
  obtain ⟨hdirect, hdieA, hdieB, hinternal⟩ := hn
  unfold faultRaise Dev.detectorSide
  simp only [hs, hdirect, hdieA, hdieB, hinternal, Bool.not_true, Bool.false_eq_true, if_false, or_self, and_true, if_true, true_and]

/-- A source as its detector reports it, before the raise. -/
def Dev.detectedBy (n detail : Nat) (d : Dev) : Dev :=
  if isLevel n = true then (d.detectorSide n detail).flag F.FC_COND_COND true n else d.detectorSide n detail

theorem Dev.detectedBy_keeps (n detail : Nat) (d : Dev) :
    Dev.keeps ⟨[.cm, .host], [F.TB_PTP_PORT_W0_STATE, F.HC_PORT_UNCORR, F.FC_COND_COND], []⟩ d (d.detectedBy n detail) :=
  have hside := Dev.keeps_mono (by decide) (Dev.detectorSide_keeps n detail d)
  Dev.keeps_ite (Dev.keeps_flag _ _ _ _ rfl hside) hside

theorem faultRaise_raises (hs : isSource n = true) (hn : n ∉ [0, 0x148, 0x149, 0x153]) (hc : isLevel n = true → d.on F.FC_COND_COND n = false) :
    faultRaise n detail true d = (d.detectedBy n detail).raise n detail := by
  rw [faultRaise_holds hs hn, Dev.detectedBy]
  split
  · next hlevel =>
    rw [Dev.cond, if_pos rfl, if_neg]
    rw [Dev.on_of_keeps (Dev.detectorSide_keeps ..) (by decide), hc hlevel]
    decide
  · rfl

/-- An event source has no other path. -/
theorem event_not_special (h : isLevel n = false) : n ∉ [0, 0x148, 0x149, 0x153] := by
  intro hm
  simp only [List.mem_cons, List.not_mem_nil, or_false] at hm
  rcases hm with rfl | rfl | rfl | rfl <;> exact absurd h (by decide)

theorem Dev.detectedBy_event (h : isLevel n = false) : d.detectedBy n detail = d.detectorSide n detail := if_neg (by simp [h])

/-- The raise of a source that is not latched is settled by its own round and those that follow. -/
theorem State.settled_raise (s : State) {e : Dev} (he : (d.raise n detail).settleRound = e) :
    s.settled (d.raise n detail) = { s with dev := (e.settleN 11).errUpdate } := by
  have hsome : (d.raise n detail).fc.due.isEmpty = false := by simp [Dev.raise]
  rw [State.settled, Dev.settleN, hsome, if_neg (by decide), he]
end detector

/-! Reactions -/

section reactions
variable {d : Dev} {n detail : Nat}

/-- The state of the brake that its demands give. -/
def Dev.brakeDue (d : Dev) : Nat := if d.get F.SB_DEMAND_IN_FORCE = 0 then 1 else 2

/-- Past the state of the brake, a change of it touches the test, the outputs, the interrupts and the source of its entry. -/
theorem Dev.refreshBrake_after (h : d.brake ≠ 0) : Dev.keeps ⟨[.out, .fc, .sb, .host], [F.HC_IRQ_STAT_STAT, F.SB_CMD_BUSY,
    F.SB_STATUS_HOLD_1, F.SB_STATUS_HOLD_2, F.SB_STATUS_TESTING], []⟩ (d.set F.SB_STATUS_BRAKE d.brakeDue) d.refreshBrake := by
  rw [Dev.refreshBrake, if_neg h]
  dsimp only
  refine Dev.keeps_ite (Dev.keeps_step (by decide +kernel) (Dev.eventAll_keeps ..) ?_) ?_ <;>
  · refine Dev.keeps_step (by decide +kernel) (Dev.driveHold_keeps ..) ?_
    refine Dev.keeps_ite (Dev.keeps_sb _ rfl ?_) ?_ <;>
    · refine Dev.keeps_ite (Dev.keeps_ite ?_ (Dev.keeps_step (by decide) (Dev.raise_keeps ..) ?_)) ?_ <;>
      · exact Dev.keeps_ite (Dev.keeps_flag _ _ _ _ rfl (Dev.keeps_flag _ _ _ _ rfl (Dev.keeps_sb _ rfl (Dev.keeps_refl ..)))) (Dev.keeps_refl ..)

theorem Dev.brake_refreshBrake (h : d.brake ≠ 0) : d.refreshBrake.brake = d.brakeDue := by
  rw [Dev.brake, (Dev.refreshBrake_after h).2 _ _ _ (by decide), Dev.get_set_self, Dev.brakeDue]
  split <;> rfl

/-- A demand that is put in force applies a brake that has been ready. -/
theorem Dev.brake_demand {b : Nat} (hb : b < F.SB_DEMAND_IN_FORCE.width) (h : d.brake ≠ 0) : (d.demand b).brake = 2 := by
  have hbrake : ((d.raised (2 ^ b)).setBit F.SB_DEMAND_IN_FORCE b true).brake ≠ 0 :=
    (Dev.get_set_other _ _ _ _ _ _ _ _ (by decide)).trans_ne h
  have hforce : ((d.raised (2 ^ b)).setBit F.SB_DEMAND_IN_FORCE b true).get F.SB_DEMAND_IN_FORCE ≠ 0 := fun hz => by
    have := Dev.testBit_setBit_self hb (d.raised (2 ^ b)) 0 0
    rw [hz] at this
    simp [testBit] at this
  rw [Dev.demand, Dev.brake_refreshBrake hbrake, Dev.brakeDue, if_neg hforce]

theorem Dev.cond_demandCond {b : Nat} (hb : b < F.SB_DEMAND_COND.width) : testBit ((d.demandCond b true).get F.SB_DEMAND_COND) b = true := by
  rw [Dev.demandCond, if_pos rfl, (Dev.demand_keeps ..).2 _ _ _ (by decide)]
  exact Dev.testBit_setBit_self hb ..

theorem Dev.brake_demandCond {b : Nat} (hb : b < F.SB_DEMAND_IN_FORCE.width) (h : d.brake ≠ 0) : (d.demandCond b true).brake = 2 := by
  rw [Dev.demandCond, if_pos rfl]
  exact Dev.brake_demand hb ((Dev.get_set_other _ _ _ _ _ _ _ _ (by decide)).trans_ne h)


/-! The device safe state (R383) -/

/-- A group that is asked to be BLOCKED for a cause. -/
def GroupHub.force (cause : Nat) (h : GroupHub) : GroupHub := if !h.built then h else { h with forced := some (max cause (h.forced.getD 0)) }

theorem Dev.grp_of_grps {d e : Dev} (h : e.grps = d.grps) (g : Nat) : e.grp g = d.grp g := by rw [Dev.grp, h, Dev.grp]

theorem Dev.forced_each (cause : Nat) {l : List Nat} (hn : l.Nodup) (d : Dev) {g : Nat} (hg : g < d.grps.length) :
    ((d.each l (Dev.force cause)).grp g).forced =
      if g ∈ l ∧ (d.grp g).built = true then some (max cause ((d.grp g).forced.getD 0)) else (d.grp g).forced := by
  have hgrp : (d.each l (Dev.force cause)).grp g = if g ∈ l then (d.grp g).force cause else d.grp g :=
    Dev.grp_foldl_modGrp (fun _ h => h.force cause) hn d hg
  rw [hgrp]
  by_cases hm : g ∈ l <;> cases hb : (d.grp g).built <;> simp [hm, hb, GroupHub.force]

theorem Dev.each_force_keeps (cause : Nat) (l : List Nat) (d : Dev) : Dev.keeps ⟨[.grps], [], []⟩ d (d.each l (Dev.force cause)) :=
  Dev.keeps_each _ _ (fun g e => Dev.force_keeps cause g e) (Dev.keeps_refl ..)

/-- The device safe state before the safety block learns of it. -/
def Dev.safeBlocked (d : Dev) : Dev := (d.flag F.FC_STATUS_SAFE_STATE true).blockAll.each (List.range 4) (Dev.force 0x0B)

theorem Dev.safeState_eq (d : Dev) : d.safeState = d.safeBlocked.safetySafeState := rfl

theorem Dev.safeBlocked_keeps (d : Dev) : Dev.keeps ⟨[.out, .cm, .grps], [F.FC_STATUS_SAFE_STATE], []⟩ d d.safeBlocked :=
  Dev.keeps_step (by decide) (Dev.each_force_keeps ..) (Dev.keeps_step (by decide) (Dev.blockAll_keeps ..)
    (Dev.keeps_flag _ _ _ _ rfl (Dev.keeps_refl ..)))

theorem Dev.safeState_shows (d : Dev) : d.safeState.on F.FC_STATUS_SAFE_STATE = true := by
  rw [Dev.safeState_eq, Dev.on_of_keeps (Dev.safetySafeState_keeps ..) (by decide), Dev.safeBlocked,
    Dev.on_of_keeps (Dev.each_force_keeps ..) (by decide), Dev.on_of_keeps (Dev.blockAll_keeps ..) (by decide)]
  exact Dev.on_flag_self (f := F.FC_STATUS_SAFE_STATE) rfl ..

theorem Dev.forced_safeState {g : Nat} (hg : g < 4) (h4 : d.grps.length = 4) : (d.safeState.grp g).forced =
    if (d.grp g).built = true then some (max 0x0B ((d.grp g).forced.getD 0)) else (d.grp g).forced := by
  have hgrps : d.safeState.grps = d.safeBlocked.grps := (Dev.safetySafeState_keeps _).1 .grps (by decide)
  have hblock : ((d.flag F.FC_STATUS_SAFE_STATE true).blockAll).grps = d.grps := (Dev.blockAll_keeps _).1 .grps (by decide)
  have hgrp : ((d.flag F.FC_STATUS_SAFE_STATE true).blockAll).grp g = d.grp g := Dev.grp_of_grps hblock g
  rw [Dev.grp_of_grps hgrps, Dev.safeBlocked,
    Dev.forced_each 0x0B List.nodup_range _ (by rw [hblock, h4]; exact hg), hgrp]
  simp [hg]

/-- The safety block takes the demand of the safe state where its structure has it (R402). -/
theorem Dev.brake_safeState (hr : d.ready F.GL_READY_SAFETY = true) (hp : d.sb.params.ssBrake = true) :
    testBit (d.safeState.get F.SB_DEMAND_COND) 5 = true ∧ (d.brake ≠ 0 → d.safeState.brake = 2) := by
  have hready : d.safeBlocked.ready F.GL_READY_SAFETY = true := (Dev.on_of_keeps d.safeBlocked_keeps (by decide) ..).trans hr
  have hsb : d.safeBlocked.sb = d.sb := d.safeBlocked_keeps.1 .sb (by decide)
  have hafter : Dev.keeps ⟨[.out, .store, .cm, .fc, .sb, .host], [F.HC_IRQ_STAT_STAT, F.MO_JOURNAL_FILL, F.MO_JOURNAL_PENDING,
      F.SB_COURSE_CAUSE, F.SB_COURSE_SENT, F.SB_COURSE_SEQ, F.SB_COURSE_STATE], []⟩ (d.safeBlocked.demandCond 5 true) d.safeState := by
    rw [Dev.safeState_eq, Dev.safetySafeState, hready, hsb, hp]
    exact Dev.keeps_ite (Dev.triggerAll_keeps ..) (Dev.keeps_refl ..)
  refine ⟨?_, fun hb => ?_⟩
  · rw [hafter.2 _ _ _ (by decide)]
    exact Dev.cond_demandCond (by decide)
  · rw [Dev.brake, hafter.2 _ _ _ (by decide)]
    refine Dev.brake_demandCond (by decide) ?_
    rwa [Dev.brake, d.safeBlocked_keeps.2 _ _ _ (by decide)]

/-! DEGRADE (R103) -/

theorem mem_of_tabGet {α : Type} {t : List (Nat × α)} {n : Nat} {x : α} (h : tabGet t n = some x) : (n, x) ∈ t := by
  induction t with
  | nil => cases h
  | cons p t ih =>
    obtain ⟨k, y⟩ := p
    rw [tabGet] at h
    split at h
    · next hk =>
      obtain rfl := Option.some.inj h
      exact hk ▸ List.mem_cons_self
    · exact List.mem_cons_of_mem _ (ih h)

theorem Dev.degradeOf_raiseTaken (h : d.reaction n = 3) {g : Nat} (hg : testBit (d.reactGroups n) g = true) :
    (d.raiseTaken n detail).degradeOf g = true := by
  have hmem : (n, d.reaction n + 16 * d.reactGroups n) ∈ (d.raiseTaken n detail).fc.taken := by
    rw [Dev.raiseTaken, (Dev.firstFault_fc ..).1]
    exact mem_of_tabGet (tabGet_tabSet_self ..)
  refine List.any_eq_true.mpr ⟨_, hmem, ?_⟩
  have hmod : (d.reaction n + 16 * d.reactGroups n) % 16 = 3 := by omega
  have hdiv : (d.reaction n + 16 * d.reactGroups n) / 16 = d.reactGroups n := by omega
  simp only [hmod, hdiv, hg, beq_self_eq_true, Bool.true_and]

end reactions

end Sys2Proof.Machine
end

section
/-! PROOF. Channels out of service: what a fence and a vote do to the states of the channels (R352 to R355, R362, R366). -/

namespace Sys2Proof.Machine

section fence
variable {d e : Dev} {ch : Nat}

theorem Dev.chState_of_scope {S : Scope} (h : Dev.keeps S d e) (hS : S.covers F.TP_CH_STATE = false) (c : Nat) : e.chState c = d.chState c :=
  h.2 F.TP_CH_STATE c 0 hS

theorem Dev.inService_of_scope {S : Scope} (h : Dev.keeps S d e) (hS : S.covers F.TP_CH_STATE = false) (c : Nat) : e.inService c = d.inService c := by
  rw [Dev.inService, Dev.chState_of_scope h hS, Dev.inService]

theorem Dev.chState_set_self (d : Dev) (c st : Nat) : (d.set F.TP_CH_STATE st c).chState c = st % 16 :=
  Dev.get_set_self d F.TP_CH_STATE st c 0

theorem Dev.chState_set_ne {c : Nat} (h : c ≠ ch) (st : Nat) : (d.set F.TP_CH_STATE st c).chState ch = d.chState ch :=
  Dev.get_set_ne _ _ _ _ _ _ _ _ (by simpa using Ne.symm h)

/-- A state other than IN_SERVICE brings no channel into service. -/
theorem Dev.out_set (h : d.inService ch = false) (c : Nat) {st : Nat} (hst : st % 16 ≠ 1) : (d.set F.TP_CH_STATE st c).inService ch = false := by
  by_cases hc : c = ch
  · subst hc
    simpa [Dev.inService, Dev.chState_set_self] using hst
  · rwa [Dev.inService, Dev.chState_set_ne hc]

theorem Dev.chState_refreshed (d : Dev) : (d.refreshTriplex.refreshBusy).chState = d.chState := by
  funext c
  rw [Dev.chState_of_scope (Dev.refreshBusy_keeps ..) (by decide +kernel), Dev.chState_of_scope (Dev.refreshTriplex_keeps ..) (by decide +kernel)]

theorem Dev.chState_setCh (c st : Nat) (d : Dev) (k : Nat) : (d.setCh c st).chState k = (d.set F.TP_CH_STATE st c).chState k := by
  rw [Dev.setCh, Dev.chState_refreshed]

theorem Dev.out_setCh (h : d.inService ch = false) (c : Nat) {st : Nat} (hst : st % 16 ≠ 1) : (d.setCh c st).inService ch = false := by
  rw [Dev.inService, Dev.chState_setCh]
  exact Dev.out_set h c hst

theorem Dev.out_startResync (h : d.inService ch = false) (c : Nat) : (d.startResync c).inService ch = false :=
  Dev.out_setCh ((Dev.inService_of_scope (Dev.keeps_set F.TP_CH_SHADOW 0 c 0 (S := ⟨[.tp, .chans], [F.TP_CH_SHADOW], []⟩) (by decide)
    (Dev.keeps_chans _ (by decide) (Dev.keeps_tp _ (by decide) (Dev.keeps_refl _ d)))) (by decide) ch).trans h) c (by decide)

theorem Dev.out_autoResync (h : d.inService ch = false) : d.autoResync.inService ch = false := by
  unfold Dev.autoResync
  split
  · split
    · exact Dev.out_startResync h _
    · exact h
  · exact h

theorem Dev.out_backToRepair (h : d.inService ch = false) : d.backToRepair.inService ch = false := by
  unfold Dev.backToRepair
  split
  · exact h
  · next r _ =>
    exact Dev.out_setCh ((Dev.inService_of_scope (Dev.keeps_set F.TP_CH_SHADOW 0 r.ch 0 (S := ⟨[.tp, .chans], [F.TP_CH_SHADOW], []⟩) (by decide)
      (Dev.keeps_chans _ (by decide) (Dev.keeps_tp _ (by decide) (Dev.keeps_refl _ d)))) (by decide) ch).trans h) r.ch (by decide)

theorem cutState (p : Prop) [Decidable p] : (if p then 6 else 2) % 16 = 2 ∨ (if p then 6 else 2) % 16 = 6 := by split <;> simp

/-- A channel that is cut off is FENCED, or RETIRED after as many fences as FENCE_MAX sets (R366); no other channel's state changes. -/
theorem Dev.cutChannel_states (cause c : Nat) (d : Dev) :
    ((d.cutChannel cause c).chState c = 2 ∨ (d.cutChannel cause c).chState c = 6) ∧ ∀ k, k ≠ c → (d.cutChannel cause c).chState k = d.chState k := by
  unfold Dev.cutChannel
  dsimp only
  refine ⟨?_, fun k hk => ?_⟩
  · rw [Dev.chState_set_self]
    exact cutState _
  · rw [Dev.chState_set_ne hk.symm]
    refine Dev.chState_of_scope (S := ⟨[.store, .tp, .fc], [F.MO_JOURNAL_FILL, F.MO_JOURNAL_PENDING, F.TP_CH_FENCES, F.TP_CH_CAUSE,
      F.TP_VOTE_LATE_RUN, F.PL_SLACK_WMIN, F.PL_SLACK_LAST], []⟩) ?_ (by decide) k
    refine Dev.keeps_step (by decide) (Dev.raise_keeps ..) (Dev.keeps_each _ _ (fun t e =>
      Dev.keeps_set _ _ _ _ (by decide) (Dev.keeps_set _ _ _ _ (by decide) (Dev.keeps_refl ..))) ?_)
    refine Dev.keeps_tp _ (by decide) (Dev.keeps_set _ _ _ _ (by decide) (Dev.keeps_set _ _ _ _ (by decide) (Dev.keeps_ite (Dev.keeps_refl ..) ?_)))
    exact Dev.setKept_keeps (by decide) _ _ _ _ (by decide) (Dev.keeps_refl ..)

theorem Dev.out_cutChannel_self (cause c : Nat) (d : Dev) : (d.cutChannel cause c).inService c = false := by
  rw [Dev.inService]
  rcases (Dev.cutChannel_states cause c d).1 with h | h <;> rw [h] <;> rfl

theorem Dev.out_cutChannel (h : d.inService ch = false) (cause c : Nat) : (d.cutChannel cause c).inService ch = false := by
  by_cases hc : ch = c
  · exact hc ▸ Dev.out_cutChannel_self ..
  · rw [Dev.inService, (Dev.cutChannel_states cause c d).2 ch hc]
    exact h

theorem Dev.out_foldl {α : Type} {f : Dev → α → Dev} (hf : ∀ (d : Dev) x, d.inService ch = false → (f d x).inService ch = false) (l : List α)
    {d : Dev} (h : d.inService ch = false) : (l.foldl f d).inService ch = false := by
  induction l generalizing d with
  | nil => exact h
  | cons x l ih => exact ih (hf d x h)

theorem Dev.out_cutChannels_mem (cause : Nat) {l : List Nat} (h : ch ∈ l) (d : Dev) :
    (l.foldl (fun d c => d.cutChannel cause c) d).inService ch = false := by
  induction l generalizing d with
  | nil => cases h
  | cons c l ih =>
    rcases List.mem_cons.mp h with rfl | h
    · exact Dev.out_foldl (fun d x hd => Dev.out_cutChannel hd cause x) l (Dev.out_cutChannel_self ..)
    · exact ih h _

/-- The device with some channels cut off, and the triplex as it is then. -/
def Dev.cutAll (l : List Nat) (cause : Nat) (d : Dev) : Dev :=
  let e : Dev := l.foldl (fun d ch => d.cutChannel cause ch) d
  (if ((e.tp.resync.map fun r => l.contains r.ch).getD false) then { e with tp := { e.tp with resync := none } } else e).refreshTriplex.refreshBusy

theorem Dev.chState_cutAll (l : List Nat) (cause : Nat) (d : Dev) :
    (d.cutAll l cause).chState = (l.foldl (fun d ch => d.cutChannel cause ch) d).chState := by
  rw [Dev.cutAll, Dev.chState_refreshed]
  split <;> rfl

theorem Dev.fenceAll_cases (l : List Nat) (cause : Nat) (d : Dev) : (d.fenceAll l cause = d ∧ l.filter (fun ch => d.chState ch != 2 && d.chState ch != 6) = []) ∨
    d.fenceAll l cause = (d.cutAll (l.filter fun ch => d.chState ch != 2 && d.chState ch != 6) cause).autoResync ∨
    d.fenceAll l cause = (d.cutAll (l.filter fun ch => d.chState ch != 2 && d.chState ch != 6) cause).backToRepair.autoResync := by
  unfold Dev.fenceAll
  cases hl : l.filter fun ch => d.chState ch != 2 && d.chState ch != 6 with
  | nil => exact .inl ⟨rfl, rfl⟩
  | cons c l =>
    dsimp only
    split
    · exact .inr (.inr rfl)
    · exact .inr (.inl rfl)

theorem Dev.out_fenceAll_of_cut (cause : Nat) {l : List Nat}
    (h : (d.cutAll (l.filter fun ch => d.chState ch != 2 && d.chState ch != 6) cause).inService ch = false) (hd : d.fenceAll l cause = d → d.inService ch = false) :
    (d.fenceAll l cause).inService ch = false := by
  rcases d.fenceAll_cases l cause with ⟨heq, -⟩ | heq | heq
  · rw [heq]; exact hd heq
  · rw [heq]; exact Dev.out_autoResync h
  · rw [heq]; exact Dev.out_autoResync (Dev.out_backToRepair h)

theorem Dev.out_fenceAll (h : d.inService ch = false) (l : List Nat) (cause : Nat) : (d.fenceAll l cause).inService ch = false := by
  refine Dev.out_fenceAll_of_cut cause ?_ fun _ => h
  rw [Dev.inService, Dev.chState_cutAll]
  exact Dev.out_foldl (fun d x hd => Dev.out_cutChannel hd cause x) _ h

/-- A channel that is fenced is out of service (R362). -/
theorem Dev.out_fenceAll_mem {l : List Nat} (h : ch ∈ l) (cause : Nat) (d : Dev) : (d.fenceAll l cause).inService ch = false := by
  by_cases hs : d.inService ch = false
  · exact Dev.out_fenceAll hs ..
  · have hone : d.chState ch = 1 := by simpa [Dev.inService] using hs
    have hmem : ch ∈ l.filter fun ch => d.chState ch != 2 && d.chState ch != 6 := List.mem_filter.mpr ⟨h, by simp [hone]⟩
    rcases d.fenceAll_cases l cause with ⟨-, hnil⟩ | heq | heq
    · rw [hnil] at hmem
      cases hmem
    all_goals
      have hcut : (d.cutAll (l.filter fun ch => d.chState ch != 2 && d.chState ch != 6) cause).inService ch = false := by
        rw [Dev.inService, Dev.chState_cutAll]
        exact Dev.out_cutChannels_mem cause hmem d
      rw [heq]
    · exact Dev.out_autoResync hcut
    · exact Dev.out_autoResync (Dev.out_backToRepair hcut)

/-! Votes bring no channel into service -/

theorem Dev.out_judgeDigests (h : d.inService ch = false) (t : Nat) (final : Bool) : (d.judgeDigests t final).inService ch = false := by
  have hnone : (d.noAgreement t).inService ch = false := by
    rw [Dev.inService_of_scope (Dev.noAgreement_keeps ..) (by decide)]
    exact h
  unfold Dev.judgeDigests
  dsimp only
  split
  · exact h
  · split
    · split
      · refine Dev.out_foldl (fun d x hd => ?_) _ h
        exact (Dev.inService_of_scope (Dev.raise_keeps ..) (by decide) ch).trans (Dev.out_fenceAll hd ..)
      · split
        · exact hnone
        · exact h
    · split
      · split
        · split
          · exact hnone
          · exact h
        · exact h
      · exact h

theorem Dev.out_minority (h : d.inService ch = false) (c : Nat) : (d.minority c).inService ch = false :=
  have hcounted : Dev.keeps ⟨[], [F.TP_VOTE_MINORITY, F.TP_CH_STRIKES], []⟩ d ((d.count F.TP_VOTE_MINORITY c).count F.TP_CH_STRIKES c) :=
    Dev.keeps_count F.TP_CH_STRIKES c 0 (by decide) (Dev.keeps_count F.TP_VOTE_MINORITY c 0 (by decide) (Dev.keeps_refl _ d))
  Dev.out_fenceAll (d := (d.count F.TP_VOTE_MINORITY c).count F.TP_CH_STRIKES c) ((Dev.inService_of_scope hcounted (by decide) ch).trans h) ..

/-- A tile after the release that is due, if there is one. -/
def Dev.voteReleased (t : Nat) (d : Dev) : Dev :=
  if (d.vote t).released.isNone && !(d.vote t).barred && !(d.vote t).closed then
    (match d.releasable t with | some s => d.release t s | none => d) else d

/-- A channel whose set differs from the released one (R355, R369). -/
def Dev.oddOne (ch : Nat) (d : Dev) : Dev := if d.inService ch then d.minority ch else if d.chState ch = 5 then d.fenceChannel ch 6 else d

theorem Dev.voteTile_eq (t : Nat) (d : Dev) : d.voteTile t = match ((d.voteReleased t).vote t).released with
    | none => d.voteReleased t
    | some s => (d.voteReleased t).each ((((d.voteReleased t).vote t).sets.filter fun x => !x.same s).map (·.ch)) Dev.oddOne := rfl

theorem Dev.out_voteReleased (h : d.inService ch = false) (t : Nat) : (d.voteReleased t).inService ch = false := by
  unfold Dev.voteReleased
  split
  · split
    · exact (Dev.inService_of_scope (Dev.release_keeps ..) (by decide) ch).trans h
    · exact h
  · exact h

theorem Dev.out_oddOne (h : d.inService ch = false) (c : Nat) : (d.oddOne c).inService ch = false := by
  unfold Dev.oddOne
  split
  · exact Dev.out_minority h c
  · split
    · exact Dev.out_fenceAll h ..
    · exact h

theorem Dev.out_voteTile (h : d.inService ch = false) (t : Nat) : (d.voteTile t).inService ch = false := by
  rw [Dev.voteTile_eq]
  split
  · exact Dev.out_voteReleased h t
  · exact Dev.out_foldl (fun d c hd => Dev.out_oddOne hd c) _ (Dev.out_voteReleased h t)

theorem Dev.out_voteAll (h : d.inService ch = false) : d.voteAll.inService ch = false :=
  Dev.out_foldl (fun _ _ hd => Dev.out_foldl (fun _ p hd => Dev.out_voteTile (Dev.out_judgeDigests hd p.1 false) p.1) _ hd) _ h

end fence

end Sys2Proof.Machine
end

section
/-! PROOF. The units a fence takes out of service, and the tick of one raise by its reaction (R377, R381, R383, R387, R389). -/

namespace Sys2Proof.Machine

section fenceUnits
variable {d : Dev} {n detail : Nat}

/-! Lanes that go idle by a fence (R387) -/

/-- One lane of the courses that go idle through EIDLE. -/
def Dev.idleOne (c e : Nat) (d : Dev) : Dev := transmitEidle c e (d.killLane false c e)

theorem Dev.txIdle_killLane {a b : Nat} (forced : Bool) (c e : Nat) (h : d.on F.CM_LANE_STAT_TX_IDLE a b = true) :
    (d.killLane forced c e).on F.CM_LANE_STAT_TX_IDLE a b = true := by
  rw [Dev.killLane, Dev.on_of_keeps (Dev.loseEnd_keeps ..) (by decide +kernel)]
  exact Dev.txIdle_laneIdle _ _ _ forced h

theorem transmitEidle_keeps_idle {a b : Nat} (c e : Nat) (h : d.on F.CM_LANE_STAT_TX_IDLE a b = true) :
    (transmitEidle c e d).on F.CM_LANE_STAT_TX_IDLE a b = true := by
  unfold transmitEidle
  split
  · exact Dev.txIdle_laneIdle (d.emit (.eidle c (e == 1))) _ _ true h
  · exact h

theorem Dev.idleOne_keeps_idle {a b : Nat} (c e : Nat) {d : Dev} (h : d.on F.CM_LANE_STAT_TX_IDLE a b = true) :
    (d.idleOne c e).on F.CM_LANE_STAT_TX_IDLE a b = true := transmitEidle_keeps_idle c e (Dev.txIdle_killLane false c e h)

theorem Dev.idleOne_idles (c e : Nat) (d : Dev) : (d.idleOne c e).on F.CM_LANE_STAT_TX_IDLE c e = true := by
  by_cases h : d.on F.CM_LANE_STAT_TX_IDLE c e = true
  · exact Dev.idleOne_keeps_idle c e h
  · have hdue : ((d.killLane false c e).lane c e).eidleDue = true := by
      rw [Dev.killLane, Dev.lane_loseEnd _ _ _ LaneSt.eidleDue, Dev.laneIdle, if_neg h, if_neg (by decide)]
      rw [Dev.lane_showLane, Dev.lane_modLane_self]
    exact (transmitEidle_sends hdue).2

/-- A lane that is idle. -/
def Dev.idles (c e : Nat) (d : Dev) : Prop := d.on F.CM_LANE_STAT_TX_IDLE c e = true

/-- Both lanes of a course that go idle. -/
def Dev.idlePair (c : Nat) (d : Dev) : Dev := (d.idleOne c 0).idleOne c 1

theorem Dev.idlePair_eq (c : Nat) (d : Dev) : d.each [0, 1] (fun e d => transmitEidle c e (d.killLane false c e)) = d.idlePair c := by
  rw [Dev.each_cons, Dev.each_cons, Dev.each, List.foldl_nil, Dev.idlePair, Dev.idleOne, Dev.idleOne]

theorem Dev.idleCourses_eq (l : List Nat) (d : Dev) : d.idleCourses l = d.each l Dev.idlePair :=
  congrArg (fun f => d.each l f) (funext fun c => funext fun d => Dev.idlePair_eq c d)

theorem Dev.idlePair_keeps_idle {a b : Nat} (c : Nat) (d : Dev) (h : d.idles a b) : (d.idlePair c).idles a b :=
  Dev.idleOne_keeps_idle c 1 (Dev.idleOne_keeps_idle c 0 h)

theorem Dev.idlePair_idles {e : Nat} (he : e < 2) (c : Nat) (d : Dev) : (d.idlePair c).idles c e := by
  obtain rfl | rfl : e = 0 ∨ e = 1 := by omega
  · exact Dev.idleOne_keeps_idle c 1 (d.idleOne_idles c 0)
  · exact Dev.idleOne_idles c 1 _

/-- Every lane of the courses goes idle and stays so while the others do. -/
theorem Dev.idleCourses_idles {l : List Nat} {c e : Nat} (hc : c ∈ l) (he : e < 2) (d : Dev) : (d.idleCourses l).idles c e := by
  rw [Dev.idleCourses_eq]
  exact Dev.each_reaches hc (Dev.idlePair_idles he c) Dev.idlePair_keeps_idle d

/-! The unit of a source (R387) -/

theorem Dev.fenceUnit_channel (hlo : 0x30 ≤ n) (hhi : n ≤ 0x35) (d : Dev) : (d.fenceUnit n).inService ((n - 0x30) % 3) = false := by
  rw [Dev.fenceUnit, if_pos ⟨hlo, hhi⟩]
  exact Dev.out_voteAll (Dev.out_fenceAll_mem List.mem_cons_self 7 d)

theorem Dev.fenceUnit_course {k : Nat} (hlo : 0xC0 ≤ n) (hhi : n < 0x140) (heven : n % 2 = 0) (hk : k < 2) (d : Dev) :
    (d.fenceUnit n).on F.CM_LANE_STAT_TX_IDLE ((n - 0xC0) / 2) k = true := by
  rw [Dev.fenceUnit, if_neg (by omega), if_pos ⟨hlo, hhi, heven⟩]
  exact Dev.idleCourses_idles List.mem_cons_self hk _

theorem Dev.fenceUnit_lpll {c k : Nat} (hlo : 0x140 ≤ n) (hhi : n < 0x148) (hc : c / 8 = n - 0x140) (hk : k < 2) (d : Dev) :
    (d.fenceUnit n).on F.CM_LANE_STAT_TX_IDLE c k = true := by
  rw [Dev.fenceUnit, if_neg (by omega), if_neg (by omega), if_pos ⟨hlo, hhi⟩]
  refine Dev.idleCourses_idles ?_ hk _
  exact List.mem_map.mpr ⟨c % 8, List.mem_range.mpr (by omega), by omega⟩

theorem Dev.fenceUnit_port (hlo : 0x14F ≤ n) (hhi : n ≤ 0x152) (d : Dev) : (d.fenceUnit n).get F.TB_PTP_PORT_W0_STATE (n - 0x14F) = 0 := by
  rw [Dev.fenceUnit, if_neg (by omega), if_neg (by omega), if_neg (by omega), if_pos ⟨hlo, hhi⟩, Dev.get_set_self]
  rfl

theorem Dev.fenceUnit_stream (hlo : 0x160 ≤ n) (hhi : n < 0x180) (d : Dev) : (tabD (d.fenceUnit n).si.svs (n - 0x160) .init).samples = [] := by
  rw [Dev.fenceUnit, if_neg (by omega), if_neg (by omega), if_neg (by omega), if_neg (by omega), if_pos ⟨hlo, hhi⟩]
  exact congrArg SvSt.samples (tabD_tabSet_self ..)

theorem Dev.fenceUnit_goose (hlo : 0x180 ≤ n) (hhi : n < 0x1C0) (d : Dev) : (tabD (d.fenceUnit n).si.gos (n - 0x180) .init).stNum = none := by
  have hmod : (tabD (d.modGoose (n - 0x180) fun g => { g with stNum := none }).si.gos (n - 0x180) .init).stNum = none :=
    congrArg GoSt.stNum (tabD_tabSet_self ..)
  rw [Dev.fenceUnit, if_neg (by omega), if_neg (by omega), if_neg (by omega), if_neg (by omega), if_neg (by omega), if_pos ⟨hlo, hhi⟩]
  dsimp only
  split
  · have hgos (l : List GoMember) (d : Dev) : (l.foldl (fun d m => d.giDefault m) d).si.gos = d.si.gos :=
      Dev.foldl_leaves (π := fun d => d.si.gos) (f := fun d m => d.giDefault m) (fun _ _ => rfl) l d
    rw [hgos]
    exact hmod
  · exact hmod

end fenceUnits

/-! One raise from its detector to the end of its tick -/

section tick
variable {s : State} {dt : Nat} {d : Dev} {n : Fin 512} {detail : Word}

/-- A device after the round of a raise: its reaction, and the interrupt of every reaction but LOG. -/
@[irreducible] def Dev.reacted (n detail code : Nat) (d : Dev) : Dev :=
  if 1 ≤ code then ((d.raiseTaken n detail).react code (d.reactGroups n) n).interrupt else (d.raiseTaken n detail).react code (d.reactGroups n) n

theorem exec_faultRaise_round {code : Nat} (hd : d = s.seen dt) (hl : d.live = true) (hs : isSource n.val = true) (hn : n.val ∉ [0, 0x148, 0x149, 0x153])
    (hc : isLevel n.val = true → d.on F.FC_COND_COND n.val = false) (hdue : d.fc.due = []) (hr : d.ready F.GL_READY_FAULTS = true)
    (hlatch : d.latched n.val = false) (hcode : d.reaction n.val = code) (hlow : code < 15) :
    exec (.faultRaise dt n detail true) s =
      .next { s with dev := ((((d.detectedBy n.val detail.toNat).reacted n.val detail.toNat code).settleN 11)).errUpdate } := by
  subst hd
  have hkeep := Dev.detectedBy_keeps n.val detail.toNat (s.seen dt)
  have hreact : ((s.seen dt).detectedBy n.val detail.toNat).reaction n.val = code := (hkeep.2 F.FC_REACT_REACTION n.val 0 (by decide)).trans hcode
  have hfc : ((s.seen dt).detectedBy n.val detail.toNat).fc = (s.seen dt).fc := hkeep.1 .fc (by decide)
  rw [exec_live hl rfl (faultRaise_raises hs hn hc)]
  refine congrArg Host.Outcome.next (State.settled_raise s ?_)
  rw [Dev.settleRound_raise (by rw [hfc]; exact hdue) ((Dev.on_of_keeps hkeep (by decide) ..).trans hr)
    ((Dev.on_of_keeps hkeep (by decide) ..).trans hlatch) (by rw [hreact]; exact hlow), hreact, Dev.reacted]

/-- What a device shows when nothing more is raised: the interrupt and ERR_N are all that follows. -/
theorem Dev.errUpdate_fc (d : Dev) : d.errUpdate.fc = { d.fc with errLow := d.errUpdate.fc.errLow } := by
  unfold Dev.errUpdate
  split <;> rfl

/-- The end of a tick whose reaction raises nothing. -/
@[irreducible] def Dev.ended (d : Dev) : Dev := (d.settleN 11).errUpdate

theorem Dev.ended_quiet {d : Dev} (h : d.fc.due = []) : d.ended = d.errUpdate := by rw [Dev.ended, Dev.settleN_quiet 11 d h]

theorem Dev.ended_keeps {d : Dev} (h : d.fc.due = []) : Dev.keeps ⟨[.pins, .fc], [F.FC_STATUS_ERR_PIN], []⟩ d d.ended := by
  rw [Dev.ended_quiet h]
  exact Dev.errUpdate_keeps d

theorem Dev.ended_fc {d : Dev} (h : d.fc.due = []) : d.ended.fc = { d.fc with errLow := d.ended.fc.errLow } := by
  rw [Dev.ended_quiet h]
  exact d.errUpdate_fc

variable {p : Dev}

/-- LOG, INTERRUPT and DEGRADE act on nothing but the collector (R377). -/
theorem Dev.reacted_plain {code k m : Nat} (h : code = 0 ∨ code = 1 ∨ code = 3) (p : Dev) :
    Dev.keeps ⟨[.out, .host], [F.FC_IRQ_PENDING], []⟩ (p.raiseTaken k m) (p.reacted k m code) := by
  have hreact : (p.raiseTaken k m).react code (p.reactGroups k) k = p.raiseTaken k m := by
    rw [Dev.react, if_neg (by omega), if_neg (by omega), if_neg (by omega)]
  rw [Dev.reacted, hreact]
  exact Dev.keeps_ite (Dev.interrupt_keeps _) (Dev.keeps_refl ..)

theorem Dev.ended_plain {code k m : Nat} (h : code = 0 ∨ code = 1 ∨ code = 3) (hdue : p.fc.due = []) :
    Dev.keeps ⟨[.out, .host, .pins, .fc], [F.FC_IRQ_PENDING, F.FC_STATUS_ERR_PIN], []⟩ (p.raiseTaken k m) (p.reacted k m code).ended ∧
      (p.reacted k m code).ended.fc = { (p.raiseTaken k m).fc with errLow := (p.reacted k m code).ended.fc.errLow } := by
  have hplain := Dev.reacted_plain (k := k) (m := m) h p
  have hfc : (p.reacted k m code).fc = (p.raiseTaken k m).fc := hplain.1 .fc (by decide)
  have hq : (p.reacted k m code).fc.due = [] := by rw [hfc, Dev.due_raiseTaken, hdue]
  exact ⟨Dev.keeps_step (by decide) (Dev.ended_keeps hq) (Dev.keeps_mono (by decide) hplain), by rw [← hfc]; exact Dev.ended_fc hq⟩

/-- BLOCK_GROUP asks the groups it names to be BLOCKED (R102). -/
theorem Dev.reacted_block {k m : Nat} (p : Dev) : p.reacted k m 4 =
    ((p.raiseTaken k m).each ((List.range 4).filter (testBit (p.reactGroups k))) (Dev.force 0x0A)).interrupt := by
  rw [Dev.reacted, if_pos (by decide)]
  rfl

theorem Dev.reacted_fence {k m : Nat} (p : Dev) : p.reacted k m 2 = ((p.raiseTaken k m).fenceUnit k).interrupt := by
  rw [Dev.reacted, if_pos (by decide)]
  rfl

theorem Dev.reacted_safe {k m : Nat} (p : Dev) : p.reacted k m 5 = (p.raiseTaken k m).safeState.interrupt := by
  rw [Dev.reacted, if_pos (by decide)]
  rfl

end tick

/-! What each reaction leaves -/

section shows
variable {p : Dev} {n m : Nat}

/-- The settled tick of a raise whose reaction raises nothing more. -/
theorem Dev.count_raiseTaken : (p.raiseTaken n m).get F.FC_COUNT_COUNT n = satInc (2 ^ F.FC_COUNT_COUNT.width - 1) (p.get F.FC_COUNT_COUNT n) := by
  rw [Dev.raiseTaken, (Dev.firstFault_keeps ..).2 _ _ _ (by decide), (Dev.queueRec_keeps ..).2 _ _ _ (by decide)]
  exact (Dev.get_set_other (p.count F.FC_COUNT_COUNT n) F.FC_LATCH_LATCH F.FC_COUNT_COUNT 1 n 0 n 0 (by decide)).trans (Dev.get_count_self p n 0)

theorem Dev.raisedRec_shows (p : Dev) (n m : Nat) (h : p.reaction n ≠ 15) :
    (p.raisedRec n m).source = n ∧ (p.raisedRec n m).detail = m ∧ (p.raisedRec n m).typ = 1 ∧
    (p.raisedRec n m).reaction = p.reaction n ∧ (p.raisedRec n m).sec = p.sec ∧ (p.raisedRec n m).ns = p.ns ∧ (p.raisedRec n m).flags = 0 :=
  ⟨rfl, rfl, rfl, if_neg h, rfl, rfl, rfl⟩

/-- The record a raise leaves in the queue, and the first fault (R389, R390). -/
theorem Dev.raiseTaken_records (hn : n < 512) (h : p.reaction n ≠ 15) : ∃ r : LogRec, (p.raiseTaken n m).fc.queue.getLast? = some r ∧
    (p.raiseTaken n m).fc.queue.length = p.fc.queue.length + 1 ∧ r.source = n ∧ r.detail = m ∧ r.typ = 1 ∧ r.reaction = p.reaction n ∧
    r.sec = p.sec ∧ r.ns = p.ns ∧
    (p.store.first.valid = false → (p.raiseTaken n m).store.first = ⟨true, 0, n, 0⟩ ∧ testBit r.flags 1 = true) ∧
    (p.store.first.valid = true → p.fc.firstAt ≠ some p.now → (p.raiseTaken n m).store.first = p.store.first ∧
      (p.raiseTaken n m).fc.queue = p.fc.queue ++ [r] ∧ testBit r.flags 1 = false) ∧
    (p.store.first.valid = true → p.fc.firstAt = some p.now → (p.raiseTaken n m).store.first.valid = true ∧
      (p.raiseTaken n m).store.first.sameTick = clampN 255 (p.store.first.sameTick + 1) ∧
      (p.raiseTaken n m).store.first.source = min p.store.first.source n) := by
  obtain ⟨hsource, hdetail, htyp, hreact, hsec, hns, hflags⟩ := Dev.raisedRec_shows p n m h
  let q : Dev := (p.latchSet n).queueRec (p.raisedRec n m)
  have hqueue : q.fc.queue = p.fc.queue ++ [p.raisedRec n m] := rfl
  have hmarks (k : Nat) : (q.fc.queue.map (q.marked k)).getLast? = some (q.marked k (p.raisedRec n m)) ∧
      (q.fc.queue.map (q.marked k)).length = p.fc.queue.length + 1 := by
    rw [hqueue]
    simp
  have hsame (k : Nat) := Dev.marked_same q k (p.raisedRec n m)
  by_cases hv : p.store.first.valid = true
  · by_cases ha : p.fc.firstAt = some p.now
    · obtain ⟨hvalid, htick, hsrc, hq⟩ := Dev.firstFault_same (d := q) hn hv ha
      obtain ⟨h1, h2, h3, h4, h5, h6⟩ := hsame (min q.store.first.source n)
      exact ⟨q.marked (min q.store.first.source n) (p.raisedRec n m), by rw [Dev.raiseTaken, hq]; exact (hmarks _).1,
        by rw [Dev.raiseTaken, hq]; exact (hmarks _).2, h1.trans hsource, h2.trans hdetail, h3.trans htyp, h4.trans hreact, h5.trans hsec, h6.trans hns,
        fun hf => absurd (hv.symm.trans hf) (by decide), fun _ hne => absurd ha hne, fun _ _ => ⟨hvalid, htick, hsrc⟩⟩
    · have hlater : p.raiseTaken n m = q := Dev.firstFault_later hv ha
      exact ⟨p.raisedRec n m, by rw [hlater, hqueue]; simp, by rw [hlater, hqueue]; simp, hsource, hdetail, htyp, hreact, hsec, hns,
        fun hf => absurd (hv.symm.trans hf) (by decide), fun _ _ => ⟨by rw [hlater]; rfl, by rw [hlater, hqueue], by rw [hflags]; rfl⟩,
        fun _ h => absurd h ha⟩
  · have hv : p.store.first.valid = false := by simpa using hv
    obtain ⟨hfirst, hq⟩ := Dev.firstFault_new (d := q) hn hv
    obtain ⟨h1, h2, h3, h4, h5, h6⟩ := hsame n
    exact ⟨q.marked n (p.raisedRec n m), by rw [Dev.raiseTaken, hq]; exact (hmarks _).1, by rw [Dev.raiseTaken, hq]; exact (hmarks _).2,
      h1.trans hsource, h2.trans hdetail, h3.trans htyp, h4.trans hreact, h5.trans hsec, h6.trans hns,
      fun _ => ⟨hfirst, Dev.marked_first htyp hsec hns hsource⟩, fun hf => absurd (hv.symm.trans hf) (by decide),
      fun hf => absurd (hv.symm.trans hf) (by decide)⟩

/-- A fence: the unit of the source is out of service, and the source is latched (R387). -/
theorem Dev.reacted_fence_latched (p : Dev) (n m : Nat) : (p.reacted n m 2).latched n = true := by
  rw [Dev.reacted_fence, Dev.latched, Dev.on_of_keeps (Dev.interrupt_keeps _) (by decide), Dev.on_of_keeps (Dev.fenceUnit_keeps ..) (by decide)]
  exact Dev.latched_raiseTaken

end shows

/-- FENCE takes the unit of the source out of service in the first round (R387). -/
theorem faultRaise_fences {s : State} {dt : Nat} {d : Dev} {n : Fin 512} {detail : Word} (hd : d = s.seen dt) (hl : d.live = true)
    (hs : isSource n.val = true) (hc : isLevel n.val = true → d.on F.FC_COND_COND n.val = false) (hdue : d.fc.due = [])
    (hr : d.ready F.GL_READY_FAULTS = true) (hlatch : d.latched n.val = false) (hreact : d.reaction n.val = 2)
    (hn : n.val ∉ [0, 0x148, 0x149, 0x153]) :
    ∃ e : Dev, exec (.faultRaise dt n detail true) s = .next { s with dev := (e.settleN 11).errUpdate } ∧ e.latched n.val = true ∧
      (0x30 ≤ n.val → n.val ≤ 0x35 → e.inService ((n.val - 0x30) % 3) = false) ∧
      (0xC0 ≤ n.val → n.val < 0x140 → n.val % 2 = 0 →
        ∀ k : Nat, k < 2 → e.on F.CM_LANE_STAT_TX_IDLE ((n.val - 0xC0) / 2) k = true) ∧
      (∀ c k : Nat, 0x140 ≤ n.val → n.val < 0x148 → c / 8 = n.val - 0x140 → k < 2 → e.on F.CM_LANE_STAT_TX_IDLE c k = true) ∧
      (0x14F ≤ n.val → n.val ≤ 0x152 → e.get F.TB_PTP_PORT_W0_STATE (n.val - 0x14F) = 0) ∧
      (0x160 ≤ n.val → n.val < 0x180 → (tabD e.si.svs (n.val - 0x160) .init).samples = []) ∧
      (0x180 ≤ n.val → n.val < 0x1C0 → (tabD e.si.gos (n.val - 0x180) .init).stNum = none) := by
  refine ⟨_, exec_faultRaise_round (code := 2) hd hl hs hn hc hdue hr hlatch hreact (by decide), Dev.reacted_fence_latched .., ?_⟩
  rw [Dev.reacted_fence]
  generalize (d.detectedBy n.val detail.toNat).raiseTaken n.val detail.toNat = q
  have hint := Dev.interrupt_keeps (q.fenceUnit n.val)
  have hsi : (q.fenceUnit n.val).interrupt.si = (q.fenceUnit n.val).si := hint.1 .si (by decide)
  refine ⟨fun hlo hhi => ?_, fun hlo hhi heven k hk => ?_, fun c k hlo hhi hk hk' => ?_, fun hlo hhi => ?_, fun hlo hhi => ?_, fun hlo hhi => ?_⟩
  · rw [Dev.inService_of_scope hint (by decide)]
    exact Dev.fenceUnit_channel hlo hhi q
  · rw [Dev.on_of_keeps hint (by decide)]
    exact Dev.fenceUnit_course hlo hhi heven hk q
  · rw [Dev.on_of_keeps hint (by decide)]
    exact Dev.fenceUnit_lpll hlo hhi hk hk' q
  · rw [hint.2 _ _ _ (by decide)]
    exact Dev.fenceUnit_port hlo hhi q
  · rw [hsi]
    exact Dev.fenceUnit_stream hlo hhi q
  · rw [hsi]
    exact Dev.fenceUnit_goose hlo hhi q

section events
variable {s : State} {dt : Nat} {d : Dev} {n : Fin 512} {detail : Word}

/-- The event source's raise, over the device its detector leaves. -/
theorem exec_faultRaise_event {code : Nat} (hd : d = s.seen dt) (hl : d.live = true) (hs : isSource n.val = true) (he : isLevel n.val = false)
    (hdue : d.fc.due = []) (hr : d.ready F.GL_READY_FAULTS = true) (hlatch : d.latched n.val = false) (hcode : d.reaction n.val = code)
    (hlow : code < 15) : exec (.faultRaise dt n detail true) s =
      .next { s with dev := ((d.detectorSide n.val detail.toNat).reacted n.val detail.toNat code).ended } := by
  have h := exec_faultRaise_round (detail := detail) hd hl hs (event_not_special he) (fun h => absurd (he.symm.trans h) (by decide))
    hdue hr hlatch hcode hlow
  rwa [Dev.detectedBy_event he, ← Dev.ended] at h

/-- What an event source's detector leaves of the device the raise is about. -/
theorem Dev.detectorSide_same (n m : Nat) (d : Dev) : (d.detectorSide n m).fc = d.fc ∧ (d.detectorSide n m).store = d.store ∧
    (d.detectorSide n m).grps = d.grps ∧ (d.detectorSide n m).chans = d.chans ∧ (d.detectorSide n m).tp = d.tp ∧ (d.detectorSide n m).sb = d.sb ∧
    (d.detectorSide n m).clk = d.clk ∧ (d.detectorSide n m).free = d.free := by
  have h := (Dev.detectorSide_keeps n m d).1
  exact ⟨h .fc (by decide), h .store (by decide), h .grps (by decide), h .chans (by decide), h .tp (by decide), h .sb (by decide),
    h .clk (by decide), h .free (by decide)⟩

end events

/-! Each reaction of an event source's raise, over the device the detector leaves -/

section ends
variable {p : Dev} {n m : Nat}

theorem Dev.ended_logged {code : Nat} (hc : code = 0 ∨ code = 1) (hn : n < 512) (hcode : p.reaction n = code) (hdue : p.fc.due = []) :
    ∃ r : LogRec, (p.reacted n m code).ended.latched n = true ∧
        (p.reacted n m code).ended.get F.FC_COUNT_COUNT n = satInc (2 ^ F.FC_COUNT_COUNT.width - 1) (p.get F.FC_COUNT_COUNT n) ∧
        (p.reacted n m code).ended.fc.queue.getLast? = some r ∧ (p.reacted n m code).ended.fc.queue.length = p.fc.queue.length + 1 ∧
        r.source = n ∧ r.detail = m ∧ r.typ = 1 ∧ r.reaction = p.reaction n ∧ r.sec = p.sec ∧ r.ns = p.ns ∧
        (p.store.first.valid = false → (p.reacted n m code).ended.store.first = ⟨true, 0, n, 0⟩ ∧ testBit r.flags 1 = true) ∧
        (p.store.first.valid = true → p.fc.firstAt ≠ some p.now → (p.reacted n m code).ended.store.first = p.store.first ∧
          (p.reacted n m code).ended.fc.queue = p.fc.queue ++ [r] ∧ testBit r.flags 1 = false) ∧
        (p.store.first.valid = true → p.fc.firstAt = some p.now → (p.reacted n m code).ended.store.first.valid = true ∧
          (p.reacted n m code).ended.store.first.sameTick = clampN 255 (p.store.first.sameTick + 1) ∧
          (p.reacted n m code).ended.store.first.source = min p.store.first.source n) := by
  obtain ⟨hkeep, hfc⟩ := Dev.ended_plain (k := n) (m := m) (code := code) (by omega) hdue
  have hstore : (p.reacted n m code).ended.store = (p.raiseTaken n m).store := hkeep.1 .store (by decide)
  have hqueue : (p.reacted n m code).ended.fc.queue = (p.raiseTaken n m).fc.queue := by rw [hfc]
  rw [hstore, hqueue, hkeep.2 _ _ _ (by decide), Dev.count_raiseTaken, Dev.latched, Dev.on_of_keeps hkeep (by decide)]
  obtain ⟨r, hrest⟩ := Dev.raiseTaken_records (p := p) (m := m) hn (by omega)
  exact ⟨r, Dev.latched_raiseTaken, rfl, hrest⟩

theorem Dev.ended_due {code : Nat} (h : code = 0 ∨ code = 1 ∨ code = 3) (hdue : p.fc.due = []) : (p.reacted n m code).ended.fc.due = [] := by
  rw [(Dev.ended_plain h hdue).2]
  exact Dev.due_raiseTaken.trans hdue

theorem Dev.ended_degraded (hcode : p.reaction n = 3) (hdue : p.fc.due = []) : (p.reacted n m 3).ended.latched n = true ∧
    ∀ g, testBit (p.reactGroups n) g = true → (p.reacted n m 3).ended.degradeOf g = true := by
  obtain ⟨hkeep, hfc⟩ := Dev.ended_plain (k := n) (m := m) (code := 3) (by omega) hdue
  refine ⟨(Dev.on_of_keeps hkeep (by decide) ..).trans Dev.latched_raiseTaken, fun g hg => ?_⟩
  rw [Dev.degradeOf, hfc]
  exact Dev.degradeOf_raiseTaken hcode hg

theorem Dev.ended_blocked (hr : p.ready F.GL_READY_FAULTS = true) (hl : p.latched n = false) (hdue : p.fc.due = []) :
    (p.reacted n m 4).ended.latched n = true ∧ (p.reacted n m 4).ended.fc.due = [] ∧ ∀ g, g < 4 → p.grps.length = 4 →
      ((p.reacted n m 4).ended.grp g).forced =
        if testBit (p.reactGroups n) g = true ∧ (p.grp g).built = true then some (max 0x0A ((p.grp g).forced.getD 0)) else (p.grp g).forced := by
  have hforce := Dev.each_force_keeps 0x0A ((List.range 4).filter (testBit (p.reactGroups n))) (p.raiseTaken n m)
  have hreact : Dev.keeps ⟨[.grps, .out, .host], [F.FC_IRQ_PENDING], []⟩ (p.raiseTaken n m) (p.reacted n m 4) := by
    rw [Dev.reacted_block]
    exact Dev.keeps_step (by decide) (Dev.interrupt_keeps _) (Dev.keeps_mono (by decide) hforce)
  have hq : (p.reacted n m 4).fc.due = [] := by
    rw [show (p.reacted n m 4).fc = (p.raiseTaken n m).fc from hreact.1 .fc (by decide), Dev.due_raiseTaken, hdue]
  have hend := Dev.ended_keeps hq
  have htaken : (p.raiseTaken n m).grps = p.grps := (Dev.raiseTaken_keeps hr hl).1 .grps (by decide)
  refine ⟨?_, ?_, fun g hg h4 => ?_⟩
  · rw [Dev.latched, Dev.on_of_keeps hend (by decide), Dev.on_of_keeps hreact (by decide)]
    exact Dev.latched_raiseTaken
  · rw [Dev.ended_fc hq]
    exact hq
  · have hgrps : (p.reacted n m 4).ended.grps =
        ((p.raiseTaken n m).each ((List.range 4).filter (testBit (p.reactGroups n))) (Dev.force 0x0A)).grps := by
      rw [show (p.reacted n m 4).ended.grps = (p.reacted n m 4).grps from hend.1 .grps (by decide), Dev.reacted_block]
      exact (Dev.interrupt_keeps _).1 .grps (by decide)
    rw [Dev.grp_of_grps hgrps, Dev.forced_each 0x0A (List.nodup_range.filter _) _ (by rw [htaken, h4]; exact hg), Dev.grp_of_grps htaken]
    simp [hg]

/-- What the device safe state leaves after its interrupt (R383, R402). -/
theorem Dev.safeState_interrupted (q : Dev) : q.safeState.interrupt.on F.FC_STATUS_SAFE_STATE = true ∧
    (q.ready F.GL_READY_SAFETY = true → q.sb.params.ssBrake = true →
      testBit (q.safeState.interrupt.get F.SB_DEMAND_COND) 5 = true ∧ (q.brake ≠ 0 → q.safeState.interrupt.brake = 2)) ∧
    ∀ g, g < 4 → q.grps.length = 4 → (q.safeState.interrupt.grp g).forced =
      if (q.grp g).built = true then some (max 0x0B ((q.grp g).forced.getD 0)) else (q.grp g).forced := by
  have hint := Dev.interrupt_keeps q.safeState
  refine ⟨?_, fun hr hp => ?_, fun g hg h4 => ?_⟩
  · rw [Dev.on_of_keeps hint (by decide)]
    exact Dev.safeState_shows q
  · rw [hint.2 _ _ _ (by decide), show q.safeState.interrupt.brake = q.safeState.brake from hint.2 _ _ _ (by decide)]
    exact Dev.brake_safeState hr hp
  · rw [Dev.grp_of_grps (hint.1 .grps (by decide))]
    exact Dev.forced_safeState hg h4

end ends

/-- Settles O53: the vote of the BLOCK frames by the three channels, then the round of the one raise by its reaction. -/
theorem faultLatches : Obligations.FaultLatches := by
  refine ⟨fun d t => ⟨fun h f => ?_, fun ch h hs => Dev.blockVote_one h hs t, fun h => Dev.blockVote_none h t⟩,
    fun s dt d n detail hd hl hs hc hdue hr hlatch hreact hn => faultRaise_fences hd hl hs hc hdue hr hlatch hreact hn,
    fun s dt d n detail hd hl hs he hdue hr hlatch => ?_⟩
  · rw [Dev.blockVote_two h, twice_filterMap]
  have hexec {code : Nat} := exec_faultRaise_event (detail := detail) (code := code) hd hl hs he hdue hr hlatch
  obtain ⟨hfc, hstore, hgrps, hchans, htp, hsb, hclk, hfree⟩ := Dev.detectorSide_same n.val detail.toNat d
  have hkeep := Dev.detectorSide_keeps n.val detail.toNat d
  have hcm (ha : n.val ≠ 0x14A) (hb : n.val ≠ 0x14B) := Dev.detectorSide_cm (d := d) (detail := detail.toNat) ha hb
  revert hexec hfc hstore hgrps hchans htp hsb hclk hfree hcm hkeep
  generalize d.detectorSide n.val detail.toNat = p
  intro hexec hfc hstore hgrps hchans htp hsb hclk hfree hkeep hcm
  have hpdue : p.fc.due = [] := by rw [hfc, hdue]
  have hpr : p.ready F.GL_READY_FAULTS = true := (Dev.on_of_keeps hkeep (by decide) ..).trans hr
  have hpl : p.latched n.val = false := (Dev.on_of_keeps hkeep (by decide) ..).trans hlatch
  have hreaction : p.reaction n.val = d.reaction n.val := hkeep.2 _ _ _ (by decide)
  have hgroups : p.reactGroups n.val = d.reactGroups n.val := hkeep.2 _ _ _ (by decide)
  have hcount : p.get F.FC_COUNT_COUNT n.val = d.get F.FC_COUNT_COUNT n.val := hkeep.2 _ _ _ (by decide)
  have hgrp := Dev.grp_of_grps hgrps
  have hnow : p.now = d.now := congrArg Clock.ticks hclk
  have hsec : p.sec = d.sec := congrArg (fun c : Clock => c.dev / 500000000) hclk
  have hns : p.ns = d.ns := congrArg (fun c : Clock => c.dev % 500000000 * 2) hclk
  have htaken := Dev.raiseTaken_keeps (detail := detail.toNat) hpr hpl
  have hplain {code : Nat} (h : code = 0 ∨ code = 1 ∨ code = 3) : (p.reacted n.val detail.toNat code).ended.grps = d.grps ∧
      (p.reacted n.val detail.toNat code).ended.chans = d.chans := by
    have hend := (Dev.ended_plain (k := n.val) (m := detail.toNat) h hpdue).1.1
    exact ⟨(hend .grps (by decide)).trans ((htaken.1 .grps (by decide)).trans hgrps),
      (hend .chans (by decide)).trans ((htaken.1 .chans (by decide)).trans hchans)⟩
  refine ⟨fun hcode => ?_, fun hcode => ?_, fun hcode => ?_, fun hcode => ?_⟩
  case refine_1 =>
    obtain ⟨hshown, hdegraded⟩ := Dev.ended_degraded (m := detail.toNat) (hreaction.trans hcode) hpdue
    obtain ⟨hg, hch⟩ := hplain (code := 3) (by decide)
    exact ⟨_, hexec hcode (by decide), hshown, Dev.ended_due (by decide) hpdue, hg, hch, fun g _ hbit => hdegraded g (by rwa [hgroups])⟩
  case refine_2 =>
    obtain ⟨hsafe, hbrake, hforced⟩ := Dev.safeState_interrupted (p.raiseTaken n.val detail.toNat)
    have hg : (p.raiseTaken n.val detail.toNat).grps = d.grps := (htaken.1 .grps (by decide)).trans hgrps
    have hs : (p.raiseTaken n.val detail.toNat).sb = d.sb := (htaken.1 .sb (by decide)).trans hsb
    have hready : (p.raiseTaken n.val detail.toNat).ready F.GL_READY_SAFETY = d.ready F.GL_READY_SAFETY :=
      (Dev.on_of_keeps htaken (by decide) ..).trans (Dev.on_of_keeps hkeep (by decide) ..)
    have hheld : (p.raiseTaken n.val detail.toNat).brake = d.brake := (htaken.2 _ _ _ (by decide)).trans (hkeep.2 _ _ _ (by decide))
    rw [hs, hready, hheld] at hbrake
    refine ⟨p.raiseTaken n.val detail.toNat, _, by rw [hexec hcode (by decide), Dev.ended, Dev.reacted_safe], rfl, Dev.latched_raiseTaken, hg,
      (htaken.1 .tp (by decide)).trans htp, hs, fun ha hb => (htaken.1 .cm (by decide)).trans (hcm ha hb), hsafe, hbrake, fun g hlt h4 => ?_⟩
    rw [hforced g hlt (by rw [hg, h4]), Dev.grp_of_grps hg]
  case refine_3 =>
    obtain ⟨r, hshown, hcounted, hlast, hlength, hsource, hdetail, htyp, hreact, hrsec, hrns, hnew, hlater, hsame⟩ :=
      Dev.ended_logged (m := detail.toNat) (by omega) n.isLt rfl hpdue
    obtain ⟨hg, hch⟩ := hplain (code := p.reaction n.val) (by omega)
    rw [hfc, hstore, hnow] at hlater
    rw [hfc, hstore, hnow] at hsame
    rw [hstore] at hnew
    exact ⟨_, r, hexec hreaction.symm (by omega), hshown, by rw [hcounted, hcount], hlast, by rw [hlength, hfc], hsource, hdetail, htyp,
      hreact.trans hreaction, hrsec.trans hsec, hrns.trans hns, hnew, hlater, hsame, Dev.ended_due (by omega) hpdue, hg, hch⟩
  case refine_4 =>
    obtain ⟨hshown, hq, hforced⟩ := Dev.ended_blocked (m := detail.toNat) hpr hpl hpdue
    rw [hgrps, hgroups] at hforced
    exact ⟨_, hexec hcode (by decide), hshown, hq, fun g hg h4 => by rw [hforced g hg h4, hgrp]⟩


end Sys2Proof.Machine
end

section
/-! PROOF. Conditions of level sources (R379, R380, R392): source 0 is one of them, and its report is no condition but the direct safe state. -/

namespace Sys2Proof.Machine

/-- A device in the direct safe state, whose condition of source 0 stands. -/
def directDevice : Dev := (Dev.reset.flag F.FC_STATUS_DIRECT true).flag F.FC_COND_COND true 0

/-- The device as a detector of source 0 that reports again finds it. -/
def directSeen : Dev := State.seen ⟨directDevice, []⟩ 0

theorem directSeen_live : directSeen.live = true := by decide +kernel

theorem directSeen_quiet : directSeen.fc.due = [] := by decide +kernel

theorem directSeen_uncounted : directSeen.get F.FC_COUNT_COUNT 0 = 0 := by decide +kernel

/-- As a condition that stands already the report would change nothing. -/
theorem directSeen_cond (detail : Nat) : directSeen.cond 0 true detail = directSeen := by
  have hcond : directSeen.on F.FC_COND_COND 0 = true := by decide +kernel
  rw [Dev.cond, if_pos rfl, if_pos hcond]

/-- Yet it is counted, as every raise of source 0 in the direct safe state is. -/
theorem faultRaise_direct (detail : Nat) : faultRaise 0 detail true directSeen = directSeen.count F.FC_COUNT_COUNT 0 := by
  have hdirect : directSeen.on F.FC_STATUS_DIRECT = true := by decide +kernel
  have hreal : directSeen.fc.injected.contains 0 = false := by decide +kernel
  have hsafe : directSeen.directSafe detail false = directSeen.count F.FC_COUNT_COUNT 0 := by
    rw [Dev.directSafe, hdirect, hreal]
    rfl
  simp [faultRaise, isSource, hsafe]

/-- Where nothing is raised, a command leaves the count of a source as its effect does. -/
theorem State.settled_count (s : State) {e : Dev} (h : e.fc.due = []) (n : Nat) :
    (s.settled e).dev.get F.FC_COUNT_COUNT n = e.get F.FC_COUNT_COUNT n := by
  rw [State.settled, Dev.settleN_quiet _ _ h]
  exact (Dev.errUpdate_keeps e).2 _ _ _ (by decide)

/-- Refutes O54: of a level source a report is to do what the begin of its condition does, and source 0 is such a source; but its report
is the direct safe state, in which a further one counts though the condition stands. -/
theorem not_faultRecords : ¬ Obligations.FaultRecords := by
  intro h
  obtain ⟨-, hlevel, -⟩ := h ⟨directDevice, []⟩ 0 directSeen rfl directSeen_live
  obtain ⟨hconds, -, -⟩ := hlevel 0 0 rfl rfl
  have hclaim := (hconds (by decide) (by decide) (by decide)).1 (.inl (by decide))
  have hexec := exec_live (c := .faultRaise 0 0 0 true) (s := ⟨directDevice, []⟩) directSeen_live rfl (faultRaise_direct 0)
  have hstays : exec (.faultRaise 0 0 0 true) ⟨directDevice, []⟩ = .next (State.settled ⟨directDevice, []⟩ directSeen) :=
    directSeen_cond 0 ▸ hclaim
  have hquiet : (directSeen.count F.FC_COUNT_COUNT 0).fc.due = [] := directSeen_quiet
  have hcount := congrArg (fun t : State => t.dev.get F.FC_COUNT_COUNT 0) (Host.Outcome.next.inj (hexec.symm.trans hstays))
  rw [State.settled_count _ hquiet, State.settled_count _ directSeen_quiet, Dev.get_count_self, directSeen_uncounted] at hcount
  exact absurd hcount (by decide)

end Sys2Proof.Machine
end

section
/-! PROOF. A bit of a register field after a bit of it is set or cleared. -/

namespace Sys2Proof.Machine
theorem putBit_succ (x n : Nat) (b : Bool) : putBit x (n + 1) b = 2 * putBit (x / 2) n b + x % 2 := by
  have hle (h : (x / 2).testBit n = true) : 2 ^ n ≤ x / 2 := Nat.ge_two_pow_of_testBit h
  unfold putBit
  rw [Nat.testBit_succ, Nat.pow_succ]
  split
  · next h =>
    have := hle h
    split <;> omega
  · split <;> omega

theorem testBit_putBit (x n m : Nat) (b : Bool) : testBit (putBit x n b) m = if m = n then b else testBit x m := by
  induction n generalizing x m with
  | zero =>
    have hlow : putBit x 0 b = 2 * (x / 2) + b.toNat := by
      unfold putBit
      rw [Nat.testBit_zero]
      cases b <;> rcases Nat.mod_two_eq_zero_or_one x with h | h <;> simp [h] <;> omega
    rw [hlow, testBit, testBit]
    cases m with
    | zero => cases b <;> simp
    | succ m =>
      rw [Nat.testBit_succ, Nat.testBit_succ, if_neg (by omega)]
      have hbit := Bool.toNat_le b
      rw [show (2 * (x / 2) + b.toNat) / 2 = x / 2 by omega]
  | succ n ih =>
    rw [putBit_succ, testBit, testBit]
    cases m with
    | zero =>
      rw [if_neg (by omega)]
      simp
    | succ m =>
      have hhalf : (2 * putBit (x / 2) n b + x % 2) / 2 = putBit (x / 2) n b := by omega
      rw [Nat.testBit_succ, Nat.testBit_succ, hhalf]
      have := ih (x / 2) m
      simpa [testBit] using this

/-- A bit that was put in a field, and the other bits of it. -/
theorem Dev.testBit_setBit {f : Fld} {m : Nat} (h : m < f.width) (d : Dev) (n : Nat) (b : Bool) (i j : Nat) :
    testBit ((d.setBit f n b i j).get f i j) m = if m = n then b else testBit (d.get f i j) m := by
  rw [Dev.setBit, Dev.get_set_self, testBit, Nat.testBit_mod_two_pow, decide_eq_true h, Bool.true_and]
  exact testBit_putBit ..

end Sys2Proof.Machine
end

section
/-! PROOF. Field injection and the end of outstanding interrupts (R393, R394, R440). -/

namespace Sys2Proof.Machine

section inject
variable {d : Dev} {x : Nat}

/-! INJECT (R393) -/

/-- The checks of INJECT in their order. -/
def Dev.injectCheck (d : Dev) (target tile : Nat) : Nat :=
  let addr := d.get F.FC_INJ_ADDR_ADDR
  let chan := decide (1 ≤ target) && decide (target ≤ 3)
  let idle := !(d.busyTiles.any fun p => p.1 == tile)
  let bad := decide (4 < target) || (target == 0 && decide (workSize ≤ addr)) || (target == 4 && decide (512 ≤ addr)) ||
    (chan && (idle || decide (Config.tileStateWords ≤ addr)))
  if d.fc.inj.isSome then 1 else if bad then 2
    else if (!chan && d.anyDeblocked) || (chan && d.triplex != 1) then 3
    else if target == 4 && !d.allIsolated then 4 else 0

theorem inject_accepted (hacc : d.refusal x true 0x40030 = none) (target tile : Nat) (real two : Bool) : inject x target tile real two d =
    if d.ready F.GL_READY_FAULTS = false then d
    else if d.injectCheck target tile ≠ 0 then d.set F.FC_INJ_RESULT (d.injectCheck target tile)
    else { d with fc := { d.fc with inj := some ⟨target, d.get F.FC_INJ_ADDR_ADDR, tile, real, two, d.now, false⟩ } } := by
  rw [inject, Dev.hostWrite_accepted _ _ _ _ hacc]
  cases d.ready F.GL_READY_FAULTS <;> rfl

variable {target tile : Nat}

theorem inject_fails (hacc : d.refusal x true 0x40030 = none) (hr : d.ready F.GL_READY_FAULTS = true) {code : Nat}
    (hcheck : d.injectCheck target tile = code) (hne : code ≠ 0) (real two : Bool) :
    inject x target tile real two d = d.set F.FC_INJ_RESULT code := by
  rw [inject_accepted hacc, if_neg (by simp [hr]), hcheck, if_pos hne]

theorem inject_passes (hacc : d.refusal x true 0x40030 = none) (hr : d.ready F.GL_READY_FAULTS = true)
    (hcheck : d.injectCheck target tile = 0) (real two : Bool) : inject x target tile real two d =
    { d with fc := { d.fc with inj := some ⟨target, d.get F.FC_INJ_ADDR_ADDR, tile, real, two, d.now, false⟩ } } := by
  rw [inject_accepted hacc, if_neg (by simp [hr]), if_neg (by simp [hcheck])]

theorem Dev.injectCheck_busy {j : Inj} (h : d.fc.inj = some j) : d.injectCheck target tile = 1 := by simp [Dev.injectCheck, h]

/-- A word that is no word of the target, or a tile with no state, is BAD_TARGET. -/
theorem Dev.injectCheck_bad (h : d.fc.inj = none) (hbad : 4 < target ∨ (target = 0 ∧ workSize ≤ d.get F.FC_INJ_ADDR_ADDR) ∨
    (target = 4 ∧ 512 ≤ d.get F.FC_INJ_ADDR_ADDR) ∨ (1 ≤ target ∧ target ≤ 3 ∧
      ((∀ p ∈ d.busyTiles, p.1 ≠ tile) ∨ Config.tileStateWords ≤ d.get F.FC_INJ_ADDR_ADDR))) : d.injectCheck target tile = 2 := by
  unfold Dev.injectCheck
  dsimp only
  rw [h, if_neg (by decide), if_pos]
  rcases hbad with hb | ⟨rfl, hb⟩ | ⟨rfl, hb⟩ | ⟨hlo, hhi, hb | hb⟩
  · simp [hb]
  · simp [hb]
  · simp [hb]
  · have hidle : d.busyTiles.any (fun p => p.1 == tile) = false := List.any_eq_false.mpr fun p hp => by simpa using hb p hp
    simp [hlo, hhi, hidle]
  · simp [hlo, hhi, hb]

theorem Dev.injectCheck_store (h : d.fc.inj = none) (hgood : (target = 0 ∧ d.get F.FC_INJ_ADDR_ADDR < workSize) ∨
    (target = 4 ∧ d.get F.FC_INJ_ADDR_ADDR < 512)) : d.injectCheck target tile =
      if d.anyDeblocked then 3 else if target == 4 && !d.allIsolated then 4 else 0 := by
  unfold Dev.injectCheck
  dsimp only
  rcases hgood with ⟨rfl, hg⟩ | ⟨rfl, hg⟩ <;>
  · rw [h, if_neg (by decide), if_neg (by simpa using hg)]
    simp

theorem Dev.injectCheck_channel (h : d.fc.inj = none) (hlo : 1 ≤ target) (hhi : target ≤ 3) (hbusy : ∃ p ∈ d.busyTiles, p.1 = tile)
    (hg : d.get F.FC_INJ_ADDR_ADDR < Config.tileStateWords) : d.injectCheck target tile = if d.triplex = 1 then 0 else 3 := by
  have hany : d.busyTiles.any (fun p => p.1 == tile) = true := by
    obtain ⟨p, hp, ht⟩ := hbusy
    exact List.any_eq_true.mpr ⟨p, hp, by simp [ht]⟩
  have hzero : (target == 0) = false := by simp; omega
  have hfour : (target == 4) = false := by simp; omega
  unfold Dev.injectCheck
  dsimp only
  rw [h, hany, if_neg (by decide), if_neg (by simp [hzero, hfour]; omega)]
  by_cases ht : d.triplex = 1 <;> simp [hlo, hhi, hfour, ht]

/-! A field injection from its arming to its end (R393, R394) -/

theorem injectionArmed_arms {j : Inj} (hj : d.fc.inj = some j) (h : j.armed = false) : injectionArmed d =
    ({ d with fc := { d.fc with inj := some { j with armed := true, since := d.now } } } : Dev).flag F.FC_INJ_ARMED true := by
  simp [injectionArmed, hj, h]

theorem injectionArmed_armed {j : Inj} (hj : d.fc.inj = some j) (h : j.armed = true) : injectionArmed d = d := by
  simp [injectionArmed, hj, h]

theorem injectionExpired_expires {j : Inj} (hj : d.fc.inj = some j) (h : j.armed = true) (ht : j.since + 500000000 ≤ d.now) :
    injectionExpired d = d.endInjection 5 := by
  simp [injectionExpired, hj, h, ht]

/-- One bit, read with the syndrome that was set, is corrected and counted. -/
theorem injectionFire_corrects {j : Inj} (hj : d.fc.inj = some j) (h : j.armed = true) (hone : j.two = false) : injectionFire true d =
    if j.target = 4 then (d.endInjection 0).count F.FC_SELF_CORR
    else { d.endInjection 0 with fc := { (d.endInjection 0).fc with
      corrected := setNth d.fc.corrected j.target (nth d.fc.corrected j.target 0 + 1) } } := by
  simp only [injectionFire, hj, h, hone, Bool.not_true, Bool.false_eq_true, if_false, Bool.not_false, Bool.and_self, if_true]
  rfl

/-- Two bits, or another syndrome, are a raise. -/
theorem injectionFire_raises {j : Inj} (hj : d.fc.inj = some j) (h : j.armed = true) {syn : Bool} (hbad : j.two = true ∨ syn = false) :
    injectionFire syn d =
      if j.target = 4 then
        if j.real || !syn then (d.endInjection 0).directSafe j.addr syn
        else { d.endInjection 0 with fc := { (d.endInjection 0).fc with due := d.fc.due ++ [⟨0, j.addr, false, some false⟩] } }
      else { d.endInjection 0 with fc := { (d.endInjection 0).fc with
        due := d.fc.due ++ [⟨if j.target = 0 then 2 else 0x2F + j.target, j.addr, false, if syn then some j.real else none⟩] } } := by
  have hraise : (syn && !j.two) = false := by
    rcases hbad with hb | hb <;> simp [hb]
  simp only [injectionFire, hj, h, hraise, Bool.not_true, Bool.false_eq_true, if_false]
  rfl

/-! The end of an outstanding interrupt (R440) -/

theorem irqPendingClear_fault {y : Nat} (hacc : d.refusal x true (0x40040 + 4 * y) = none) (mask : Nat) : irqPendingClear x y true mask 0 d =
    (d.modCtx y fun c => { c with held := c.held.filter (· ≠ 0) }).flag F.FC_IRQ_PENDING false y := by
  rw [irqPendingClear, if_pos rfl, Dev.hostWrite_accepted _ _ _ _ hacc]
  rfl

theorem irqPendingClear_refused {y c : Nat} (hacc : d.refusal x true (0x40040 + 4 * y) = some c) (mask again : Nat) :
    irqPendingClear x y true mask again d = d.refuse x false true c (0x40040 + 4 * y) := by
  rw [irqPendingClear, if_pos rfl, Dev.hostWrite_refused _ _ _ _ _ hacc]

theorem irqPendingClear_foreign {y : Nat} (hacc : d.refusal x true (0x10134 + 0x40 * y) = none) (hne : x ≠ y) (mask again : Nat) :
    irqPendingClear x y false mask again d = d.refuse x false true 0 (0x10134 + 0x40 * y) := by
  rw [irqPendingClear, if_neg (by decide), Dev.hostWrite_accepted _ _ _ _ hacc, if_pos hne]

/-- One outstanding message of a context ends. -/
def Dev.messageEnded (x b : Nat) (d : Dev) : Dev :=
  (d.modCtx x fun c => { c with held := c.held.filter (· ≠ b + 1) }).setBit F.HC_IRQ_STAT_STAT b false x

theorem irqPendingClear_own (hacc : d.refusal x true (0x10134 + 0x40 * x) = none) (mask : Nat) : irqPendingClear x x false mask 0 d =
    d.each ((List.range 12).filter fun b => testBit mask (b + 1)) (Dev.messageEnded x) := by
  rw [irqPendingClear, if_neg (by decide), Dev.hostWrite_accepted _ _ _ _ hacc, if_neg (by simp)]
  have hstep (b : Nat) : testBit 0 (b + 1) = false := Nat.zero_testBit _
  simp only [hstep, Bool.false_eq_true, if_false]
  rfl

theorem Dev.messagesEnded_shows {b mask : Nat} (hb : b < 12) (hm : testBit mask (b + 1) = true) (x : Nat) (d : Dev) :
    testBit ((d.each ((List.range 12).filter fun b => testBit mask (b + 1)) (Dev.messageEnded x)).get F.HC_IRQ_STAT_STAT x) b = false := by
  have hone (k : Nat) (d : Dev) : testBit ((d.messageEnded x k).get F.HC_IRQ_STAT_STAT x) b =
      if b = k then false else testBit (d.get F.HC_IRQ_STAT_STAT x) b :=
    Dev.testBit_setBit hb (d.modCtx x fun c => { c with held := c.held.filter (· ≠ k + 1) }) k false x 0
  refine Dev.each_reaches (P := fun d => testBit (d.get F.HC_IRQ_STAT_STAT x) b = false) (x := b)
    (List.mem_filter.mpr ⟨List.mem_range.mpr hb, hm⟩) (fun d => ?_) (fun k d h => ?_) d
  · rw [hone, if_pos rfl]
  · rw [hone]
    split
    · rfl
    · exact h

end inject

/-- The channels among the targets. -/
theorem channelTarget {t : BitVec 3} (h : t = 1 ∨ t = 2 ∨ t = 3) : 1 ≤ t.toNat ∧ t.toNat ≤ 3 := by
  rcases h with rfl | rfl | rfl <;> decide

/-- Settles O55: INJECT by its checks in their order, the armed injection by its read, and the interrupts by the register written. -/
theorem injection : Obligations.Injection := by
  rintro s dt d rfl hl
  refine ⟨fun x target tile real two hacc => ⟨fun hr => ?_, fun hr => ⟨fun j hj => ?_, fun hfree => ⟨fun hbad => ?_, fun hgood hdeb => ?_,
      fun htarget hbusy haddr htp => ?_, fun htarget haddr hdeb hiso => ?_, fun hgood => ?_⟩⟩⟩,
    fun j hj => ⟨fun h => exec_live hl rfl (injectionArmed_arms hj h), fun h => exec_live hl rfl (injectionArmed_armed hj h),
      fun h syn => ⟨fun hone hsyn => ?_, fun hbad htarget hreal => ?_, fun htwo htarget hreal hsyn => ?_, fun hbad htarget => ?_⟩,
      fun h ht => exec_live hl rfl (injectionExpired_expires hj h ht)⟩,
    fun x y mask hacc => ?_, fun x y mask again c hacc => exec_live hl rfl (irqPendingClear_refused hacc ..),
    fun x y mask again hacc hne => exec_live hl rfl (irqPendingClear_foreign hacc (fun h => hne (Fin.ext h)) ..),
    fun x mask hacc => ⟨_, exec_live hl rfl (irqPendingClear_own hacc _), fun b hb hm => Dev.messagesEnded_shows hb hm ..⟩⟩
  case refine_1 => exact exec_live hl rfl (by rw [inject_accepted hacc, if_pos hr])
  case refine_2 => exact exec_live hl rfl (inject_fails hacc hr (Dev.injectCheck_busy hj) (by decide) real two)
  case refine_3 =>
    refine exec_live hl rfl (inject_fails hacc hr (Dev.injectCheck_bad hfree ?_) (by decide) real two)
    rcases hbad with hb | ⟨rfl, hb⟩ | ⟨rfl, hb⟩ | ⟨ht, hb⟩
    · exact .inl hb
    · exact .inr (.inl ⟨rfl, hb⟩)
    · exact .inr (.inr (.inl ⟨rfl, hb⟩))
    · exact .inr (.inr (.inr ⟨(channelTarget ht).1, (channelTarget ht).2, hb⟩))
  case refine_4 =>
    refine exec_live hl rfl (inject_fails hacc hr (code := 3) ?_ (by decide) real two)
    rcases hgood with ⟨rfl, hg⟩ | ⟨rfl, hg⟩
    · rw [Dev.injectCheck_store (target := (0 : BitVec 3).toNat) hfree (.inl ⟨rfl, hg⟩), if_pos hdeb]
    · rw [Dev.injectCheck_store (target := (4 : BitVec 3).toNat) hfree (.inr ⟨rfl, hg⟩), if_pos hdeb]
  case refine_5 =>
    refine exec_live hl rfl (inject_fails hacc hr (code := 3) ?_ (by decide) real two)
    rw [Dev.injectCheck_channel hfree (channelTarget htarget).1 (channelTarget htarget).2 hbusy haddr, if_neg htp]
  case refine_6 =>
    refine exec_live hl rfl (inject_fails hacc hr (code := 4) ?_ (by decide) real two)
    subst htarget
    rw [Dev.injectCheck_store (target := (4 : BitVec 3).toNat) hfree (.inr ⟨rfl, haddr⟩), hdeb, hiso]
    rfl
  case refine_7 =>
    refine exec_live hl rfl (inject_passes hacc hr ?_ real two)
    rcases hgood with ⟨rfl, hg, hdeb⟩ | ⟨ht, hbusy, hg, htp⟩ | ⟨rfl, hg, hdeb, hiso⟩
    · rw [Dev.injectCheck_store (target := (0 : BitVec 3).toNat) hfree (.inl ⟨rfl, hg⟩), hdeb]
      rfl
    · rw [Dev.injectCheck_channel hfree (channelTarget ht).1 (channelTarget ht).2 hbusy hg, if_pos htp]
    · rw [Dev.injectCheck_store (target := (4 : BitVec 3).toNat) hfree (.inr ⟨rfl, hg⟩), hdeb, hiso]
      rfl
  case refine_8 =>
    subst hsyn
    exact ⟨fun ht => exec_live hl rfl ((injectionFire_corrects hj h hone).trans (if_pos ht)),
      fun ht => exec_live hl rfl ((injectionFire_corrects hj h hone).trans (if_neg ht))⟩
  case refine_9 =>
    have hsafe : (j.real || !syn) = true := by
      rcases hreal with hb | hb <;> simp [hb]
    exact exec_live hl rfl ((injectionFire_raises hj h hbad).trans (by rw [if_pos htarget, if_pos hsafe]))
  case refine_10 =>
    subst hsyn
    exact exec_live hl rfl ((injectionFire_raises hj h (.inl htwo)).trans (by rw [if_pos htarget, hreal, if_neg (by decide)]))
  case refine_11 =>
    exact ⟨_, exec_live hl rfl ((injectionFire_raises hj h hbad).trans (if_neg htarget)), rfl, rfl, Dev.get_set_self _ F.FC_INJ_RESULT 0 0 0⟩
  case refine_12 =>
    refine ⟨_, exec_live hl rfl (irqPendingClear_fault hacc _), Dev.on_flag_self rfl .., fun h8 => ?_⟩
    have hctx := Dev.ctx_modCtx_self (d := s.seen dt) (x := y.val) (by rw [h8]; exact y.isLt)
      fun c => { c with held := c.held.filter (· ≠ 0) }
    show 0 ∉ (((s.seen dt).modCtx y.val fun c => { c with held := c.held.filter (· ≠ 0) }).ctx y.val).held
    rw [hctx]
    simp

end Sys2Proof.Machine
end

section
/-! PROOF. Demands on the brake (R402, R403): what RESTORE leaves in force where the state holds more than the demands there are. -/

namespace Sys2Proof.Machine

/-! A demand in force stays in force past the reactions of the tick -/

section inForce
variable {d e : Dev}

theorem Dev.inForce_of_scope {S : Scope} (h : Dev.keeps S d e) (hS : S.covers F.SB_DEMAND_IN_FORCE = false)
    (hd : d.get F.SB_DEMAND_IN_FORCE ≠ 0) : e.get F.SB_DEMAND_IN_FORCE ≠ 0 := by
  rwa [h.2 _ _ _ hS]

theorem Dev.inForce_demand {b : Nat} (hb : b < F.SB_DEMAND_IN_FORCE.width) (d : Dev) : (d.demand b).get F.SB_DEMAND_IN_FORCE ≠ 0 := by
  have hafter : (d.demand b).get F.SB_DEMAND_IN_FORCE = ((d.raised (2 ^ b)).setBit F.SB_DEMAND_IN_FORCE b true).get F.SB_DEMAND_IN_FORCE :=
    (Dev.refreshBrake_keeps _).2 _ _ _ (by decide)
  intro hz
  have hbit := Dev.testBit_setBit_self hb (d.raised (2 ^ b)) 0 0
  rw [← hafter, hz] at hbit
  simp [testBit] at hbit

theorem Dev.inForce_safeState (h : d.get F.SB_DEMAND_IN_FORCE ≠ 0) : d.safeState.get F.SB_DEMAND_IN_FORCE ≠ 0 := by
  have hblocked := Dev.inForce_of_scope d.safeBlocked_keeps (by decide) h
  have hdemand : (d.safeBlocked.demandCond 5 true).get F.SB_DEMAND_IN_FORCE ≠ 0 := Dev.inForce_demand (by decide) _
  rw [Dev.safeState_eq]
  unfold Dev.safetySafeState
  dsimp only
  split
  · split
    · exact Dev.inForce_of_scope (Dev.triggerAll_keeps ..) (by decide) hdemand
    · exact hdemand
  · split
    · exact Dev.inForce_of_scope (Dev.triggerAll_keeps ..) (by decide) hblocked
    · exact hblocked

theorem Dev.inForce_react (h : d.get F.SB_DEMAND_IN_FORCE ≠ 0) (code groups n : Nat) : (d.react code groups n).get F.SB_DEMAND_IN_FORCE ≠ 0 := by
  unfold Dev.react
  dsimp only
  split
  · exact Dev.inForce_safeState h
  · split
    · exact Dev.inForce_of_scope (Dev.each_force_keeps ..) (by decide) h
    · split
      · exact Dev.inForce_of_scope (Dev.fenceUnit_keeps ..) (by decide) h
      · exact h

theorem Dev.inForce_renew (h : d.get F.SB_DEMAND_IN_FORCE ≠ 0) (u : Due) : (d.renew u).get F.SB_DEMAND_IN_FORCE ≠ 0 := by
  unfold Dev.renew
  dsimp only
  split
  · exact Dev.inForce_react h _ _ _
  · split
    · exact Dev.inForce_react h _ _ _
    · exact h

theorem Dev.inForce_foldl {α : Type} {f : Dev → α → Dev}
    (hf : ∀ (d : Dev) x, d.get F.SB_DEMAND_IN_FORCE ≠ 0 → (f d x).get F.SB_DEMAND_IN_FORCE ≠ 0) (l : List α)
    {d : Dev} (h : d.get F.SB_DEMAND_IN_FORCE ≠ 0) : (l.foldl f d).get F.SB_DEMAND_IN_FORCE ≠ 0 := by
  induction l generalizing d with
  | nil => exact h
  | cons x l ih => exact ih (hf d x h)

theorem Dev.inForce_settleRound (h : d.get F.SB_DEMAND_IN_FORCE ≠ 0) : d.settleRound.get F.SB_DEMAND_IN_FORCE ≠ 0 := by
  have hround (l olds : List Due) (ns : List Nat) (order : List (Nat × Nat)) {d : Dev} (h : d.get F.SB_DEMAND_IN_FORCE ≠ 0) :
      (olds.foldl (fun d u => d.renew u) (order.foldl (fun d p => if p.1 = 15 then d else d.react p.1 (tabD d.fc.taken p.2 0 / 16) p.2)
        ((l.foldl (fun d u => d.latchOne u) d).firstFault ns))).get F.SB_DEMAND_IN_FORCE ≠ 0 := by
    refine Dev.inForce_foldl (fun d u hd => Dev.inForce_renew hd u) _ (Dev.inForce_foldl (fun d p hd => ?_) _ ?_)
    · split
      · exact hd
      · exact Dev.inForce_react hd _ _ _
    · refine Dev.inForce_of_scope (Dev.firstFault_keeps ..) (by decide) (Dev.inForce_foldl (fun d u hd => ?_) _ h)
      exact Dev.inForce_of_scope (Dev.latchOne_keeps ..) (by decide) hd
  unfold Dev.settleRound
  dsimp only
  split
  · exact Dev.inForce_of_scope (Dev.interrupt_keeps _) (by decide) (hround _ _ _ _ h)
  · exact hround _ _ _ _ h

theorem Dev.inForce_settleN (n : Nat) {d : Dev} (h : d.get F.SB_DEMAND_IN_FORCE ≠ 0) : (d.settleN n).get F.SB_DEMAND_IN_FORCE ≠ 0 := by
  induction n generalizing d with
  | zero => exact h
  | succ n ih =>
    rw [Dev.settleN]
    split
    · exact h
    · exact ih (Dev.inForce_settleRound h)

theorem State.inForce_settled (s : State) (h : d.get F.SB_DEMAND_IN_FORCE ≠ 0) : (s.settled d).dev.get F.SB_DEMAND_IN_FORCE ≠ 0 :=
  Dev.inForce_of_scope (Dev.errUpdate_keeps _) (by decide) (Dev.inForce_settleN 12 h)

end inForce

/-! A RESTORE that finds more in force than the demands there are -/

/-- An applied brake in whose demands in force, and in those of the present step, a number stands that is no demand: 1024 beyond the ten
bits of IN_FORCE. -/
def overfullBrake : Dev :=
  let d := ((Dev.reset.flag F.GL_READY_SAFETY true).set F.SB_STATUS_BRAKE 2).set F.HC_CTX_STAT_STATE 1 0
  { d with bank := d.bank.insert ⟨F.SB_DEMAND_IN_FORCE, 0, 0⟩ 1024, sb := { d.sb with stepAt := d.now, stepMask := 1024 } }

/-- The device as RESTORE finds it. -/
def overfullSeen : Dev := State.seen ⟨overfullBrake, []⟩ 0

theorem overfullSeen_live : overfullSeen.live = true := by decide +kernel

theorem overfullSeen_accepts : overfullSeen.refusal 0 true 0x50020 = none := by decide +kernel

theorem overfullSeen_check : overfullSeen.sbCheck 0 2 = 0 := by decide +kernel

theorem overfullSeen_brake : overfullSeen.brake ≠ 0 := by decide +kernel

theorem overfullSeen_step : overfullSeen.sb.stepAt = overfullSeen.now ∧ overfullSeen.sb.stepMask = 1024 ∧
    overfullSeen.get F.SB_DEMAND_IN_FORCE = 1024 := by decide +kernel

/-- RESTORE leaves no demand in force, for the field holds none of that number. -/
theorem restore_overfull : (restore 0 overfullSeen).fc.due = [] ∧ (restore 0 overfullSeen).get F.SB_DEMAND_IN_FORCE = 0 := by decide +kernel

/-- Refutes O56: RESTORE is to leave in force what is in force of 0x46 and of the demands of this step, for every state; in a state whose
IN_FORCE holds more than its ten bits and whose step has the same, the field it leaves has only its ten. -/
theorem not_brakeDemands : ¬ Obligations.BrakeDemands := by
  intro h
  obtain ⟨-, -, -, -, -, -, -, -, hcommands⟩ := h ⟨overfullBrake, []⟩ 0 overfullSeen rfl overfullSeen_live
  obtain ⟨-, hrestore, -, -⟩ := hcommands 0 overfullSeen_accepts
  obtain ⟨e, hclaim, hforce, -⟩ := hrestore overfullSeen_check overfullSeen_brake
  obtain ⟨hstep, hmask, hin⟩ := overfullSeen_step
  have hexec := exec_live (c := .restore 0 0) (s := ⟨overfullBrake, []⟩) overfullSeen_live rfl rfl
  have hsame := congrArg (fun t : State => t.dev.get F.SB_DEMAND_IN_FORCE) (Host.Outcome.next.inj (hclaim.symm.trans hexec))
  have hkept : e.get F.SB_DEMAND_IN_FORCE ≠ 0 := by
    rw [hforce, if_pos hstep, hmask, hin]
    decide
  obtain ⟨hquiet, hnone⟩ := restore_overfull
  have hleft : (State.settled ⟨overfullBrake, []⟩ (restore 0 overfullSeen)).dev.get F.SB_DEMAND_IN_FORCE = 0 := by
    rw [State.settled, Dev.settleN_quiet _ _ hquiet, (Dev.errUpdate_keeps _).2 _ _ _ (by decide), hnone]
  exact State.inForce_settled ⟨overfullBrake, []⟩ hkept (hsame.trans hleft)

end Sys2Proof.Machine
end

section
/-! PROOF. The brake, verdicts and tests of the hold outputs (R402, R406, R407, R409). -/

namespace Sys2Proof.Machine

section brake
variable {d : Dev}

/-! What a change of the brake does to the tests (R402, R407) -/

/-- A brake that has its new state, before its outputs follow. -/
def Dev.brakeTurned (d : Dev) : Dev :=
  let st := d.brakeDue
  let old := d.brake
  let e : Dev := d.set F.SB_STATUS_BRAKE st
  let e : Dev := if st = 2 then
      ({ e with sb := { e.sb with test := none, cmdTests := [] } }.flag F.SB_STATUS_TESTING false).flag F.SB_CMD_BUSY false else e
  let e : Dev := if st = 2 ∧ old ≠ 2 then (if d.get F.SB_DEMAND_IN_FORCE = 0x200 then e else e.raise 0x155 (d.get F.SB_DEMAND_IN_FORCE)) else e
  if st = 1 ∧ old ≠ 1 then { e with sb := { e.sb with due := [e.now, e.now + safeUs 500000] } } else e

theorem Dev.refreshBrake_eq (d : Dev) : d.refreshBrake = if d.brake = 0 then d
    else if d.brakeDue ≠ d.brake then d.brakeTurned.driveHold.eventAll 10 else d.brakeTurned.driveHold := rfl

theorem Dev.refreshBrake_sb (d : Dev) : ∃ due, d.refreshBrake.sb = { d.sb with due := due } ∨
    d.refreshBrake.sb = { d.sb with due := due, test := none, cmdTests := [] } := by
  have hdrive : d.brakeTurned.driveHold.sb = d.brakeTurned.sb := (Dev.driveHold_keeps _).1 .sb (by decide)
  have hturned : ∃ due, d.brakeTurned.sb = { d.sb with due := due } ∨ d.brakeTurned.sb = { d.sb with due := due, test := none, cmdTests := [] } := by
    unfold Dev.brakeTurned
    dsimp only
    have hraise (p : Prop) [Decidable p] (e : Dev) (m : Nat) : (if p then e else e.raise 0x155 m).sb = e.sb := by split <;> rfl
    by_cases h : d.brakeDue = 2
    · refine ⟨d.sb.due, .inr ?_⟩
      simp only [h, if_true, true_and, OfNat.ofNat_ne_one, false_and, if_false]
      split
      · exact hraise ..
      · rfl
    · simp only [h, if_false, false_and]
      split
      · exact ⟨_, .inl rfl⟩
      · exact ⟨d.sb.due, .inl rfl⟩
  rw [Dev.refreshBrake_eq]
  split
  · exact ⟨_, .inl rfl⟩
  · split
    · rw [show (d.brakeTurned.driveHold.eventAll 10).sb = d.brakeTurned.driveHold.sb from (Dev.eventAll_keeps ..).1 .sb (by decide), hdrive]
      exact hturned
    · rw [hdrive]
      exact hturned

theorem Dev.demand_sb (b : Nat) (d : Dev) : ∃ due, (d.demand b).sb = { (d.raised (2 ^ b)).sb with due := due } ∨
    (d.demand b).sb = { (d.raised (2 ^ b)).sb with due := due, test := none, cmdTests := [] } :=
  Dev.refreshBrake_sb ((d.raised (2 ^ b)).setBit F.SB_DEMAND_IN_FORCE b true)

theorem Dev.demand_degSince (b : Nat) (d : Dev) : (d.demand b).sb.degSince = d.sb.degSince := by
  obtain ⟨due, h | h⟩ := Dev.demand_sb b d <;> rw [h] <;> rfl

/-- No test runs and none is commanded. -/
def Dev.testless (d : Dev) : Prop := d.sb.test = none ∧ d.sb.cmdTests = []

theorem Dev.testless_congr {e : Dev} (h : d.testless) (hsb : e.sb = d.sb) : e.testless := by rwa [Dev.testless, hsb]

theorem Dev.testless_demand (h : d.testless) (b : Nat) : (d.demand b).testless := by
  obtain ⟨due, hsb | hsb⟩ := Dev.demand_sb b d
  · rw [Dev.testless, hsb]
    exact h
  · rw [Dev.testless, hsb]
    exact ⟨rfl, rfl⟩

/-! Conditions -/

theorem Dev.cond_shows (n k : Nat) (b : Bool) (d : Dev) : (d.cond n b k).on F.FC_COND_COND n = b := by
  cases b
  · exact Dev.on_flag_self rfl ..
  · exact Dev.cond_begins ..

theorem Dev.cond_other {n m : Nat} (h : m ≠ n) (k : Nat) (b : Bool) (d : Dev) : (d.cond n b k).on F.FC_COND_COND m = d.on F.FC_COND_COND m := by
  have hflag (v : Bool) : (d.flag F.FC_COND_COND v n).on F.FC_COND_COND m = d.on F.FC_COND_COND m := by
    rw [Dev.on, Dev.flag, Dev.get_set_ne _ _ _ _ _ _ _ _ (by simpa using h), Dev.on]
  unfold Dev.cond
  split
  · split
    · rfl
    · exact hflag true
  · exact hflag false

/-! Verdicts (R406, R409) -/

/-- A verdict before it is weighed with the other output's. -/
def Dev.verdictGiven (x v : Nat) (d : Dev) : Dev :=
  let ok := v == 1
  let failed := d.on (failFld x)
  let d : Dev := ((d.set (lastFld x) v).flag (failFld x) (!ok)).cond (0x155 + x) (!ok)
  let d : Dev := { d with sb := { d.sb with passed := setNth d.sb.passed (x - 1) ok } }
  if ok && failed then ({ d with store := { d.store with degMinutes := 0 } } : Dev).set F.SB_DEG_ELAPSED 0 else d

theorem Dev.verdict_eq (x v : Nat) (d : Dev) : d.verdict x v = (d.verdictGiven x v).refreshDegraded := rfl

theorem Dev.get_verdictGiven (x v i : Nat) {f : Fld} (hf : f ≠ F.SB_DEG_ELAPSED) (d : Dev) : (d.verdictGiven x v).get f i =
    (((d.set (lastFld x) v).flag (failFld x) (!(v == 1))).cond (0x155 + x) (!(v == 1))).get f i := by
  unfold Dev.verdictGiven
  dsimp only
  split
  · exact Dev.get_set_other _ _ _ _ _ _ _ _ hf
  · rfl

/-- DEGRADED and the condition of its demand as the hold sources give them. -/
def Dev.degradedSeen (d : Dev) : Dev :=
  let f1 := d.on F.SB_CHAN_FAIL_1
  let f2 := d.on F.SB_CHAN_FAIL_2
  let deg := (f1 && !f2 && nth d.sb.passed 1 false) || (f2 && !f1 && nth d.sb.passed 0 false)
  let e : Dev := (d.flag F.SB_STATUS_DEGRADED deg).flag F.SB_DEG_CHANNEL (deg && f2)
  let e : Dev := if deg && !d.on F.SB_STATUS_DEGRADED then { e with sb := { e.sb with degSince := e.now } } else e
  e.setBit F.SB_DEMAND_COND 8 (f1 || f2)

theorem Dev.refreshDegraded_eq (d : Dev) : d.refreshDegraded =
    if d.on F.SB_CHAN_FAIL_1 && d.on F.SB_CHAN_FAIL_2 then (d.degradedSeen.cond 0x158 true).demand 8
    else if !d.on F.SB_CHAN_FAIL_1 && !d.on F.SB_CHAN_FAIL_2 then d.degradedSeen.cond 0x158 false else d.degradedSeen := rfl

theorem Dev.degradedSeen_keeps (d : Dev) : Dev.keeps ⟨[.sb], [F.SB_STATUS_DEGRADED, F.SB_DEG_CHANNEL, F.SB_DEMAND_COND], []⟩ d d.degradedSeen := by
  unfold Dev.degradedSeen
  dsimp only
  refine Dev.keeps_setBit _ _ _ _ _ rfl (Dev.keeps_ite (Dev.keeps_sb _ rfl ?_) ?_) <;>
  · exact Dev.keeps_flag _ _ _ _ rfl (Dev.keeps_flag _ _ _ _ rfl (Dev.keeps_refl ..))

theorem Dev.testless_degradedSeen (h : d.testless) : d.degradedSeen.testless := by
  unfold Dev.degradedSeen
  dsimp only
  split <;> exact h

theorem Dev.testless_refreshDegraded (h : d.testless) : d.refreshDegraded.testless := by
  have hcond (k : Nat) (b : Bool) : (d.degradedSeen.cond k b).testless :=
    Dev.testless_congr (Dev.testless_degradedSeen h) ((Dev.cond_keeps ..).1 .sb (by decide))
  rw [Dev.refreshDegraded_eq]
  split
  · exact Dev.testless_demand (hcond 0x158 true) 8
  · split
    · exact hcond 0x158 false
    · exact Dev.testless_degradedSeen h

/-- Of the conditions the weighing touches that of DEG_LIMIT alone. -/
theorem Dev.cond_refreshDegraded {m : Nat} (hm : m ≠ 0x158) (d : Dev) : d.refreshDegraded.on F.FC_COND_COND m = d.on F.FC_COND_COND m := by
  have hseen : d.degradedSeen.on F.FC_COND_COND m = d.on F.FC_COND_COND m := Dev.on_of_keeps d.degradedSeen_keeps (by decide) ..
  rw [Dev.refreshDegraded_eq]
  split
  · rw [Dev.on_of_keeps (Dev.demand_keeps ..) (by decide), Dev.cond_other hm, hseen]
  · split
    · rw [Dev.cond_other hm, hseen]
    · exact hseen

theorem Dev.degraded_refreshDegraded (d : Dev) :
    testBit (d.refreshDegraded.get F.SB_DEMAND_COND) 8 = (d.on F.SB_CHAN_FAIL_1 || d.on F.SB_CHAN_FAIL_2) := by
  have hseen : testBit (d.degradedSeen.get F.SB_DEMAND_COND) 8 = (d.on F.SB_CHAN_FAIL_1 || d.on F.SB_CHAN_FAIL_2) := by
    rw [Dev.degradedSeen, Dev.testBit_setBit (by decide), if_pos rfl]
  rw [Dev.refreshDegraded_eq]
  split
  · rw [(Dev.demand_keeps ..).2 _ _ _ (by decide), (Dev.cond_keeps ..).2 _ _ _ (by decide), hseen]
  · split
    · rw [(Dev.cond_keeps ..).2 _ _ _ (by decide), hseen]
    · exact hseen

/-- What a verdict on a hold output leaves (R406). -/
theorem Dev.verdict_shows {x : Nat} (hx : x = 1 ∨ x = 2) {v : Nat} (hv : v < 8) (d : Dev) : (d.verdict x v).get (lastFld x) = v ∧
    (d.verdict x v).on (failFld x) = !(v == 1) ∧ (d.verdict x v).on F.FC_COND_COND (0x155 + x) = !(v == 1) ∧
    testBit ((d.verdict x v).get F.SB_DEMAND_COND) 8 = ((d.verdict x v).on F.SB_CHAN_FAIL_1 || (d.verdict x v).on F.SB_CHAN_FAIL_2) := by
  have hdeg := Dev.refreshDegraded_keeps (d.verdictGiven x v)
  have hfail : ((d.set (lastFld x) v).flag (failFld x) (!(v == 1))).on (failFld x) = !(v == 1) := by
    rcases hx with rfl | rfl <;> exact Dev.on_flag_self rfl ..
  refine ⟨?_, ?_, ?_, ?_⟩
  · rcases hx with rfl | rfl <;>
    · rw [Dev.verdict_eq, hdeg.2 _ _ _ (by decide), Dev.get_verdictGiven _ _ _ (by decide), (Dev.cond_keeps ..).2 _ _ _ (by decide)]
      exact (Dev.get_set_other _ _ _ _ _ _ _ _ (by decide)).trans ((Dev.get_set_self ..).trans (Nat.mod_eq_of_lt hv))
  · rw [← hfail]
    rcases hx with rfl | rfl <;>
      rw [Dev.verdict_eq, Dev.on_of_keeps hdeg (by decide), Dev.on, Dev.get_verdictGiven _ _ _ (by decide),
        (Dev.cond_keeps ..).2 _ _ _ (by decide), Dev.on]
  · rw [Dev.verdict_eq, Dev.cond_refreshDegraded (by omega), Dev.on, Dev.get_verdictGiven _ _ _ (by decide)]
    exact Dev.cond_shows ..
  · rw [Dev.verdict_eq, Dev.degraded_refreshDegraded, Dev.on_of_keeps hdeg (by decide), Dev.on_of_keeps hdeg (by decide)]

theorem Dev.testless_verdict (h : d.testless) (x v : Nat) : (d.verdict x v).testless := by
  rw [Dev.verdict_eq]
  refine Dev.testless_refreshDegraded ?_
  have hcond : (((d.set (lastFld x) v).flag (failFld x) (!(v == 1))).cond (0x155 + x) (!(v == 1))).testless :=
    Dev.testless_congr h ((Dev.cond_keeps ..).1 .sb (by decide))
  unfold Dev.verdictGiven
  dsimp only
  split <;> exact hcond

/-! Tests of the hold outputs (R406) -/

/-- Whether the output under test is one and in its pulse. -/
def Dev.pulsed (d : Dev) (x : Nat) : Bool := match d.sb.test with | some t => t.output == x && t.phase == 0 | none => false

theorem Dev.driveHold_shows (d : Dev) : d.driveHold.on F.SB_STATUS_HOLD_1 = (d.brake == 1 && !d.pulsed 1) ∧
    d.driveHold.on F.SB_STATUS_HOLD_2 = (d.brake == 1 && !d.pulsed 2) :=
  ⟨(Dev.on_set_other _ _ _ _ _ _ _ _ (by decide)).trans (Dev.on_flag_self (f := F.SB_STATUS_HOLD_1) rfl d (d.brake == 1 && !d.pulsed 1) 0 0),
    Dev.on_flag_self rfl ..⟩

/-- A test set up, before the outputs follow. -/
def Dev.testBegun (x : Nat) (d : Dev) : Dev :=
  ({ d with sb := { d.sb with test := some ⟨x, 0, d.now⟩, due := setNth d.sb.due (x - 1) (d.nextTest x) } } : Dev).flag F.SB_STATUS_TESTING true

theorem Dev.startTest_eq (x : Nat) (d : Dev) : d.startTest x = (d.testBegun x).driveHold := rfl

theorem Dev.startTest_sb (x : Nat) (d : Dev) :
    (d.startTest x).sb = { d.sb with test := some ⟨x, 0, d.now⟩, due := setNth d.sb.due (x - 1) (d.nextTest x) } := by
  rw [Dev.startTest_eq, show (d.testBegun x).driveHold.sb = (d.testBegun x).sb from (Dev.driveHold_keeps _).1 .sb (by decide)]
  rfl

theorem Dev.startTest_shows (x : Nat) (d : Dev) : (d.startTest x).on F.SB_STATUS_TESTING = true ∧
    (d.startTest x).on F.SB_STATUS_HOLD_1 = (d.brake == 1 && !(x == 1)) ∧ (d.startTest x).on F.SB_STATUS_HOLD_2 = (d.brake == 1 && !(x == 2)) := by
  obtain ⟨h1, h2⟩ := Dev.driveHold_shows (d.testBegun x)
  have hbrake : (d.testBegun x).brake = d.brake := Dev.get_set_other _ _ _ _ _ _ _ _ (by decide)
  have hpulse (y : Nat) : (d.testBegun x).pulsed y = (x == y) := Bool.and_true _
  rw [hbrake, hpulse] at h1 h2
  refine ⟨?_, h1, h2⟩
  rw [Dev.startTest_eq, Dev.on_of_keeps (Dev.driveHold_keeps _) (by decide)]
  exact Dev.on_flag_self rfl ..

/-- A test that is over, before its verdict. -/
def Dev.testOver (x : Nat) (d : Dev) : Dev :=
  ((({ d with sb := { d.sb with test := none } } : Dev).flag F.SB_STATUS_TESTING false).count (testsFld x)).driveHold

theorem Dev.endTest_last {x v : Nat} (h : d.sb.cmdTests = []) : d.endTest x v = ((d.testOver x).verdict x v).flag F.SB_CMD_BUSY false := by
  have hless : (d.testOver x).testless := Dev.testless_congr (d := { d with sb := { d.sb with test := none } }) ⟨rfl, h⟩
    ((Dev.driveHold_keeps _).1 .sb (by decide))
  obtain ⟨-, hcmd⟩ := Dev.testless_verdict hless x v
  have hover : d.endTest x v = match ((d.testOver x).verdict x v).sb.cmdTests with
      | y :: r => ({ (d.testOver x).verdict x v with sb := { ((d.testOver x).verdict x v).sb with cmdTests := r } } : Dev).startTest y
      | [] => ((d.testOver x).verdict x v).flag F.SB_CMD_BUSY false := rfl
  rw [hover, hcmd]

/-- The last test commanded ends with its verdict (R406). -/
theorem Dev.endTest_shows {x v : Nat} (hx : x = 1 ∨ x = 2) (hv : v < 8) (h : d.sb.cmdTests = []) : (d.endTest x v).sb.test = none ∧
    (d.endTest x v).get (lastFld x) = v ∧ (d.endTest x v).on (failFld x) = !(v == 1) ∧
    (d.endTest x v).on F.FC_COND_COND (0x155 + x) = !(v == 1) := by
  have hless : (d.testOver x).testless := Dev.testless_congr (d := { d with sb := { d.sb with test := none } }) ⟨rfl, h⟩
    ((Dev.driveHold_keeps _).1 .sb (by decide))
  obtain ⟨hlast, hfail, hcond, -⟩ := Dev.verdict_shows hx hv (d.testOver x)
  rw [Dev.endTest_last h]
  refine ⟨(Dev.testless_verdict hless x v).1, ?_, ?_, (Dev.on_set_other _ _ _ _ _ _ _ _ (by decide)).trans hcond⟩
  · refine (Dev.get_set_other _ _ _ _ _ _ _ _ ?_).trans hlast
    rcases hx with rfl | rfl <;> decide
  · refine (Dev.on_set_other _ _ _ _ _ _ _ _ ?_).trans hfail
    rcases hx with rfl | rfl <;> decide

theorem Dev.sbCmd_done {x code : Nat} (hacc : d.refusal x true 0x50020 = none) (h : d.sbCheck x code = 0) (f : Dev → Dev) :
    d.sbCmd x code f = (f d).set F.SB_CMD_RESULT 0 := by
  rw [Dev.sbCmd, Dev.hostWrite_accepted _ _ _ _ hacc, h]
  rfl

theorem Dev.sbCmd_fails {x code : Nat} (hacc : d.refusal x true 0x50020 = none) (h : d.sbCheck x code ≠ 0) (f : Dev → Dev) :
    d.sbCmd x code f = d.set F.SB_CMD_RESULT (d.sbCheck x code) := by
  rw [Dev.sbCmd, Dev.hostWrite_accepted _ _ _ _ hacc]
  exact if_neg h

/-- TEST runs in HELD alone. -/
theorem Dev.brake_of_testable {x : Nat} (h : d.sbCheck x 3 = 0) : d.brake = 1 := by
  by_contra hb
  have hmask : ((3 == 4 || 3 == 5) && (d.sbMask == 0 || (maskCourses d.sbMask).any fun c => !d.bound c)) = false := by simp
  unfold Dev.sbCheck at h
  dsimp only at h
  rw [hmask] at h
  split at h
  · cases h
  · split at h
    · cases h
    · simp [hb] at h

theorem offPulseTest_starts {second : Bool} (hb : d.brake = 1) (ht : d.sb.test = none) (hdue : nth d.sb.due (if second then 1 else 0) 0 ≤ d.now)
    (hok : (d.on F.SB_STATUS_DEGRADED && d.on (failFld (if second then 2 else 1))) = false) :
    offPulseTest second d = d.startTest (if second then 2 else 1) := by
  have hplace : (if second then 2 else 1) - 1 = if second then 1 else 0 := by cases second <;> rfl
  refine if_pos ⟨hb, by simp [ht], ?_, by simp [hok]⟩
  rw [hplace]
  exact hdue

theorem offPulseEnd_low {t : HoldTest} (ht : d.sb.test = some t) (hp : t.phase = 0) (hdue : t.start + safeUs d.sb.params.opLen ≤ d.now) :
    offPulseEnd true d =
      ({ d.flag (fbFld t.output) false with sb := { d.sb with test := some { t with phase := 1 } } } : Dev).driveHold := by
  simp only [offPulseEnd, ht, hp, hdue, and_self, if_true]
  rfl

theorem offPulseEnd_high {t : HoldTest} (ht : d.sb.test = some t) (hp : t.phase = 0) (hdue : t.start + safeUs d.sb.params.opLen ≤ d.now) :
    offPulseEnd false d = (d.flag (fbFld t.output) true).endTest t.output 2 := by
  simp only [offPulseEnd, ht, hp, hdue, and_self, if_true]
  rfl

theorem offPulseVerify_ends {t : HoldTest} (ht : d.sb.test = some t) (hp : t.phase = 1)
    (hdue : t.start + safeUs (d.sb.params.opLen + d.sb.params.fbRise) ≤ d.now) (high : Bool) :
    offPulseVerify high d = (d.flag (fbFld t.output) high).endTest t.output (if high then 1 else 3) := by
  simp only [offPulseVerify, ht, hp, hdue, and_self, if_true]

theorem feedbackDiscrepancy_found {second level : Bool} (hr : d.ready F.GL_READY_SAFETY = true) (ht : d.sb.test = none)
    (hne : d.on (if second then F.SB_STATUS_HOLD_2 else F.SB_STATUS_HOLD_1) ≠ level) :
    feedbackDiscrepancy second level d = (d.flag (fbFld (if second then 2 else 1)) level).verdict (if second then 2 else 1) 4 := by
  have hready : (d.flag (fbFld (if second then 2 else 1)) level).ready F.GL_READY_SAFETY = true := by
    refine (Dev.on_set_other _ _ _ _ _ _ _ _ ?_).trans hr
    cases second <;> decide
  refine if_pos ?_
  rw [hready]
  simp [ht, hne]

/-- A whole minute of DEGRADED counted (R409). -/
def Dev.minuteCounted (d : Dev) : Dev :=
  ({ d with store := { d.store with degMinutes := satInc 0xFFFF d.store.degMinutes }, sb := { d.sb with degSince := d.now } } : Dev).set
    F.SB_DEG_ELAPSED (satInc 0xFFFF d.store.degMinutes)

theorem degradedMinute_counts (h : d.on F.SB_STATUS_DEGRADED = true) (ht : d.sb.degSince + safeUs 60000000 ≤ d.now) : degradedMinute d =
    if 6 * d.sb.params.degLimit ≤ satInc 0xFFFF d.store.degMinutes then (d.minuteCounted.cond 0x158 true).demand 8 else d.minuteCounted :=
  if_pos ⟨h, ht⟩

end brake

end Sys2Proof.Machine
end

section
/-! PROOF. Safe block and its release, course by course (R411 to R414, R418). -/

namespace Sys2Proof.Machine

section trigger
variable {d : Dev} {c k cause : Nat}

/-! A trigger of safe block touches its own course (R411) -/

theorem Dev.get_sendSafety_other (hk : k ≠ c) (f : Frame) (d : Dev) : (d.sendSafety c f).get F.SB_COURSE_SENT k = d.get F.SB_COURSE_SENT k := by
  refine Dev.each_leaves (π := fun d => d.get F.SB_COURSE_SENT k) (fun e d => ?_) [0, 1] d
  split
  · rw [Dev.count, Dev.get_set_ne _ _ _ _ _ _ _ _ (by simpa using hk), (Dev.send_keeps ..).2 _ _ _ (by decide +kernel)]
  · rfl

/-- The safe block of a course as its registers show it: state, cause, number and frames sent. -/
def Dev.courseShown (d : Dev) (c : Nat) : Nat × Nat × Nat × Nat :=
  (d.get F.SB_COURSE_STATE c, d.get F.SB_COURSE_CAUSE c, d.get F.SB_COURSE_SEQ c, d.get F.SB_COURSE_SENT c)

/-- The next number of a course (R412). -/
def Dev.nextSeq (d : Dev) (c : Nat) : Nat :=
  if (d.get F.SB_COURSE_SEQ c + 1) % 0x10000 = 0 then 1 else (d.get F.SB_COURSE_SEQ c + 1) % 0x10000

/-- The tick of a trigger is noted. -/
def Dev.triggerNoted (c : Nat) (d : Dev) : Dev :=
  { d with sb := { d.sb with courses := tabMod d.sb.courses c .init fun s => { s with trigAt := some d.now } } }

/-- A course that becomes ACTIVE, before its frames leave. -/
def Dev.triggerSet (cause c : Nat) (d : Dev) : Dev :=
  let e : Dev := (d.triggerNoted c).set F.SB_COURSE_STATE 1 c
  (e.set F.SB_COURSE_CAUSE (2 ^ cause) c).setKept F.SB_COURSE_SEQ (d.nextSeq c) c

/-- Its repetition, its frames, its source and its event. -/
def Dev.triggerSent (q c : Nat) (d : Dev) : Dev :=
  let e : Dev := { d with sb := { d.sb with courses := tabMod d.sb.courses c .init fun s =>
    { s with nextAt := d.now + safeUs d.sb.params.sbRepeat, left := 0, extra := [], ask := false } } }
  ((e.sendSafety c (.safeBlock q c)).raise 0x15A c).eventAll 10

theorem Dev.trigger_eq (cause c : Nat) (d : Dev) : d.trigger cause c = if !d.bound c || !d.sb.everReady then d
    else if d.get F.SB_COURSE_STATE c = 1 then d.triggerNoted c else (d.triggerSet cause c).triggerSent (d.nextSeq c) c := rfl

theorem Dev.triggerSent_keeps (q c : Nat) (d : Dev) : Dev.keeps ⟨[.out, .cm, .fc, .sb, .host], [F.HC_IRQ_STAT_STAT, F.SB_COURSE_SENT], []⟩ d
    (d.triggerSent q c) :=
  Dev.keeps_step (by decide) (Dev.eventAll_keeps ..) (Dev.keeps_step (by decide) (Dev.raise_keeps ..)
    (Dev.keeps_step (by decide) (Dev.sendSafety_keeps ..) (Dev.keeps_sb _ rfl (Dev.keeps_refl ..))))

theorem Dev.triggerSent_sb (q c : Nat) (d : Dev) : (d.triggerSent q c).sb = { d.sb with courses := tabMod d.sb.courses c .init fun s =>
    { s with nextAt := d.now + safeUs d.sb.params.sbRepeat, left := 0, extra := [], ask := false } } := by
  rw [Dev.triggerSent]
  exact ((Dev.eventAll_keeps ..).1 .sb (by decide)).trans ((Dev.sendSafety_keeps ..).1 .sb (by decide))

theorem Dev.sent_triggerSent (hk : k ≠ c) (q : Nat) (d : Dev) : (d.triggerSent q c).get F.SB_COURSE_SENT k = d.get F.SB_COURSE_SENT k := by
  rw [Dev.triggerSent, (Dev.eventAll_keeps ..).2 _ _ _ (by decide), (Dev.raise_keeps ..).2 _ _ _ (by decide), Dev.get_sendSafety_other hk]
  rfl

theorem Dev.get_triggerSet_other {f : Fld} (hk : k ≠ c) (hp : f ≠ F.MO_JOURNAL_PENDING) (hf : f ≠ F.MO_JOURNAL_FILL) (d : Dev) :
    (d.triggerSet cause c).get f k = d.get f k := by
  have hne (g : Fld) : (f, k, 0) ≠ (g, c, 0) := by simp [hk]
  rw [Dev.triggerSet, Dev.get_setKept_ne _ _ (hne _) hp hf, Dev.get_set_ne _ _ _ _ _ _ _ _ (hne _), Dev.get_set_ne _ _ _ _ _ _ _ _ (hne _)]
  rfl

theorem Dev.triggerSet_shows (d : Dev) : (d.triggerSet cause c).get F.SB_COURSE_STATE c = 1 ∧
    (d.triggerSet cause c).get F.SB_COURSE_CAUSE c = 2 ^ cause % 2 ^ F.SB_COURSE_CAUSE.width := by
  refine ⟨?_, ?_⟩
  · rw [Dev.triggerSet, Dev.get_setKept_ne _ _ (by simp) (by decide) (by decide), Dev.get_set_other _ _ _ _ _ _ _ _ (by decide), Dev.get_set_self]
    rfl
  · rw [Dev.triggerSet, Dev.get_setKept_ne _ _ (by simp) (by decide) (by decide), Dev.get_set_self]

/-- A trigger on another course leaves what a course shows. -/
theorem Dev.courseShown_trigger_other (hk : k ≠ c) (cause : Nat) (d : Dev) : (d.trigger cause c).courseShown k = d.courseShown k := by
  rw [Dev.trigger_eq]
  split
  · rfl
  · split
    · rfl
    · have hsent := Dev.triggerSent_keeps (d.nextSeq c) c (d.triggerSet cause c)
      rw [Dev.courseShown, hsent.2 _ _ _ (by decide), hsent.2 _ _ _ (by decide), hsent.2 _ _ _ (by decide), Dev.sent_triggerSent hk,
        Dev.get_triggerSet_other hk (by decide) (by decide), Dev.get_triggerSet_other hk (by decide) (by decide),
        Dev.get_triggerSet_other hk (by decide) (by decide), Dev.get_triggerSet_other hk (by decide) (by decide), Dev.courseShown]

/-- A course already ACTIVE shows what it showed. -/
theorem Dev.courseShown_trigger_active (h : d.get F.SB_COURSE_STATE c = 1) (cause : Nat) : (d.trigger cause c).courseShown c = d.courseShown c := by
  rw [Dev.trigger_eq, if_pos h]
  split <;> rfl

/-- Any other becomes ACTIVE with the trigger's cause. -/
theorem Dev.trigger_activates (hb : d.bound c = true) (hr : d.sb.everReady = true) (h : d.get F.SB_COURSE_STATE c ≠ 1) (cause : Nat) :
    (d.trigger cause c).get F.SB_COURSE_STATE c = 1 ∧
      (d.trigger cause c).get F.SB_COURSE_CAUSE c = 2 ^ cause % 2 ^ F.SB_COURSE_CAUSE.width := by
  have hsent := Dev.triggerSent_keeps (d.nextSeq c) c (d.triggerSet cause c)
  rw [Dev.trigger_eq, if_neg (by simp [hb, hr]), if_neg h, hsent.2 _ _ _ (by decide), hsent.2 _ _ _ (by decide)]
  exact Dev.triggerSet_shows d

/-- No trigger touches whether courses are bound and whether the block has been ready. -/
theorem Dev.trigger_leaves (cause c : Nat) (d : Dev) : (d.trigger cause c).bound = d.bound ∧ (d.trigger cause c).sb.everReady = d.sb.everReady := by
  have hmo : (d.trigger cause c).mo = d.mo := (Dev.trigger_keeps ..).1 .mo (by decide)
  refine ⟨?_, ?_⟩
  · funext k
    rw [Dev.bound, Dev.tileOf, Dev.busyTiles, Dev.structure', hmo]
    rfl
  · rw [Dev.trigger_eq]
    split
    · rfl
    · split
      · rfl
      · rw [Dev.triggerSent_sb]
        rfl

/-- A course that is ACTIVE stays as it is through any triggers. -/
theorem Dev.courseShown_triggers (cause : Nat) (l : List Nat) {d : Dev} (h : d.get F.SB_COURSE_STATE c = 1) :
    (d.each l (Dev.trigger cause)).courseShown c = d.courseShown c := by
  induction l generalizing d with
  | nil => rfl
  | cons x l ih =>
    have hx : (d.trigger cause x).courseShown c = d.courseShown c := by
      by_cases hc : c = x
      · subst hc
        exact Dev.courseShown_trigger_active h cause
      · exact Dev.courseShown_trigger_other hc cause d
    have hstate : (d.trigger cause x).get F.SB_COURSE_STATE c = 1 := (congrArg Prod.fst hx).trans h
    rw [Dev.each_cons, ih hstate, hx]

/-- Triggers on a list of courses: one of them that is ACTIVE stays as it is, any other becomes so with the cause. -/
theorem Dev.triggers_show (cause : Nat) {l : List Nat} (hc : c ∈ l) {d : Dev} (hb : d.bound c = true) (hr : d.sb.everReady = true) :
    (d.each l (Dev.trigger cause)).get F.SB_COURSE_STATE c = 1 ∧
      (d.get F.SB_COURSE_STATE c = 1 → (d.each l (Dev.trigger cause)).courseShown c = d.courseShown c) ∧
      (d.get F.SB_COURSE_STATE c ≠ 1 → (d.each l (Dev.trigger cause)).get F.SB_COURSE_CAUSE c = 2 ^ cause % 2 ^ F.SB_COURSE_CAUSE.width) := by
  induction l generalizing d with
  | nil => cases hc
  | cons x l ih =>
    rw [Dev.each_cons]
    by_cases hx : c = x
    · subst hx
      by_cases h : d.get F.SB_COURSE_STATE c = 1
      · have hone := Dev.courseShown_trigger_active h cause
        have hstate : (d.trigger cause c).get F.SB_COURSE_STATE c = 1 := (congrArg Prod.fst hone).trans h
        have hrest := Dev.courseShown_triggers cause l hstate
        exact ⟨(congrArg Prod.fst hrest).trans hstate, fun _ => hrest.trans hone, fun hn => absurd h hn⟩
      · obtain ⟨hstate, hcause⟩ := Dev.trigger_activates hb hr h cause
        have hrest := Dev.courseShown_triggers cause l hstate
        exact ⟨(congrArg Prod.fst hrest).trans hstate, fun hn => absurd hn h, fun _ => (congrArg (fun p => p.2.1) hrest).trans hcause⟩
    · have hone := Dev.courseShown_trigger_other hx cause d
      obtain ⟨hbound, hready⟩ := Dev.trigger_leaves cause x d
      obtain ⟨hstate, hsame, hnew⟩ := ih (d := d.trigger cause x) ((List.mem_cons.mp hc).resolve_left hx) (by rw [hbound]; exact hb)
        (hready.trans hr)
      have hst : (d.trigger cause x).get F.SB_COURSE_STATE c = d.get F.SB_COURSE_STATE c := congrArg Prod.fst hone
      exact ⟨hstate, fun h => (hsame (hst.trans h)).trans hone, fun h => hnew (by rwa [hst])⟩

/-! The release of safe block (R413) -/

/-- One course of a release. -/
def Dev.releaseOne (c : Nat) (d : Dev) : Dev :=
  let st := d.get F.SB_COURSE_STATE c
  if st = 1 ∨ st = 3 then
    let d : Dev := { d with sb := { d.sb with courses := tabMod d.sb.courses c .init fun s =>
      { s with left := d.sb.params.relN - 1, nextAt := d.now + safeUs d.sb.params.sbRepeat, lastAt := d.now, extra := [], ask := st == 3 } } }
    ((d.set F.SB_COURSE_STATE 2 c).sendSafety c (.safeRelease (d.get F.SB_COURSE_SEQ c) c)).eventAll 10
  else d

theorem Dev.state_releaseOne (c : Nat) (d : Dev) : (d.releaseOne c).get F.SB_COURSE_STATE c =
    if d.get F.SB_COURSE_STATE c = 1 ∨ d.get F.SB_COURSE_STATE c = 3 then 2 else d.get F.SB_COURSE_STATE c := by
  unfold Dev.releaseOne
  dsimp only
  split
  · rw [(Dev.eventAll_keeps ..).2 _ _ _ (by decide), (Dev.sendSafety_keeps ..).2 _ _ _ (by decide), Dev.get_set_self]
    rfl
  · rfl

theorem Dev.state_releaseOne_other (hk : k ≠ c) (d : Dev) : (d.releaseOne c).get F.SB_COURSE_STATE k = d.get F.SB_COURSE_STATE k := by
  unfold Dev.releaseOne
  dsimp only
  split
  · rw [(Dev.eventAll_keeps ..).2 _ _ _ (by decide), (Dev.sendSafety_keeps ..).2 _ _ _ (by decide),
      Dev.get_set_ne _ _ _ _ _ _ _ _ (by simpa using hk)]
    rfl
  · rfl

/-- A course of the list that was ACTIVE or UNRELEASED is RELEASING, one that is RELEASING stays so. -/
theorem Dev.releases_show {l : List Nat} {d : Dev} (h : (c ∈ l ∧ (d.get F.SB_COURSE_STATE c = 1 ∨ d.get F.SB_COURSE_STATE c = 3)) ∨
    d.get F.SB_COURSE_STATE c = 2) : (d.each l Dev.releaseOne).get F.SB_COURSE_STATE c = 2 := by
  induction l generalizing d with
  | nil => exact h.resolve_left fun hm => List.not_mem_nil hm.1
  | cons x l ih =>
    rw [Dev.each_cons]
    refine ih ?_
    by_cases hx : c = x
    · subst hx
      refine .inr ?_
      rw [Dev.state_releaseOne]
      rcases h with ⟨-, h⟩ | h
      · rw [if_pos h]
      · rw [if_neg (by omega), h]
    · rw [Dev.state_releaseOne_other hx]
      exact h.imp_left fun hm => ⟨(List.mem_cons.mp hm.1).resolve_left hx, hm.2⟩

theorem mem_maskCourses {m : Nat} : c ∈ maskCourses m ↔ c < 64 ∧ testBit m c = true := by
  rw [maskCourses, List.mem_filter, List.mem_range]

/-- SAFE_BLOCK and RELEASE that pass have every course of their mask bound (R418). -/
theorem Dev.bound_of_check {x code : Nat} (hcode : code = 4 ∨ code = 5) (h : d.sbCheck x code = 0) (hc : c < 64)
    (hm : testBit d.sbMask c = true) : d.bound c = true := by
  by_contra hb
  have hany : (maskCourses d.sbMask).any (fun c => !d.bound c) = true :=
    List.any_eq_true.mpr ⟨c, mem_maskCourses.mpr ⟨hc, hm⟩, by simpa using hb⟩
  have hmasked : (code == 4 || code == 5) = true := by rcases hcode with rfl | rfl <;> rfl
  unfold Dev.sbCheck at h
  dsimp only at h
  rw [hmasked, hany, Bool.or_true, Bool.true_and] at h
  split at h
  · cases h
  · split at h
    · cases h
    · split at h <;> cases h

/-- RELEASE in the tick of a trigger is refused (R414). -/
theorem Dev.sbCheck_triggered {x : Nat} (hc : c < 64) (hm : testBit d.sbMask c = true)
    (ht : (tabD d.sb.courses c .init).trigAt = some d.now) (hr : d.ready F.GL_READY_SAFETY = true) (ho : d.isOwner x = true)
    (hb : ∀ b : Nat, b < 64 → testBit d.sbMask b = true → d.bound b = true) : d.sbCheck x 5 = 6 := by
  have hholds : (maskCourses d.sbMask).any d.triggerHolds = true :=
    List.any_eq_true.mpr ⟨c, mem_maskCourses.mpr ⟨hc, hm⟩, by simp [Dev.triggerHolds, ht]⟩
  have hbound : (maskCourses d.sbMask).any (fun c => !d.bound c) = false :=
    List.any_eq_false.mpr fun b hmem => by simp [hb b (mem_maskCourses.mp hmem).1 (mem_maskCourses.mp hmem).2]
  have hmask : (d.sbMask == 0) = false := by
    by_contra hz
    rw [Bool.not_eq_false, beq_iff_eq] at hz
    rw [hz] at hm
    simp [testBit] at hm
  simp [Dev.sbCheck, hr, ho, hbound, hmask, hholds]

end trigger

end Sys2Proof.Machine
end

section
/-! PROOF. The safety block settled (R406 to R414, R418). -/

namespace Sys2Proof.Machine

section tests
variable {d : Dev}

theorem test_waits {x : Nat} (hacc : d.refusal x true 0x50020 = none) (h : d.sbCheck x 3 = 0) {t : HoldTest} (ht : d.sb.test = some t) :
    test x d = ({ d.flag F.SB_CMD_BUSY true with sb := { d.sb with cmdTests := [1, 2] } } : Dev).set F.SB_CMD_RESULT 0 := by
  have hsome : (d.flag F.SB_CMD_BUSY true).sb.test.isSome = true := by rw [Dev.flag_sb, ht]; rfl
  rw [test, Dev.sbCmd_done hacc h]
  dsimp only
  rw [if_pos hsome]
  rfl

/-- TEST with no test running, before its first test begins. -/
def Dev.testsCommanded (d : Dev) : Dev := { d.flag F.SB_CMD_BUSY true with sb := { d.sb with cmdTests := [2] } }

theorem test_starts {x : Nat} (hacc : d.refusal x true 0x50020 = none) (h : d.sbCheck x 3 = 0) (ht : d.sb.test = none) :
    test x d = (d.testsCommanded.startTest 1).set F.SB_CMD_RESULT 0 := by
  have hnone : ¬(d.flag F.SB_CMD_BUSY true).sb.test.isSome = true := by rw [Dev.flag_sb, ht]; decide
  rw [test, Dev.sbCmd_done hacc h]
  dsimp only
  rw [if_neg hnone]
  rfl

/-- TEST begins with output 1, and that of output 2 follows (R406). -/
theorem Dev.testsCommanded_shows (hb : d.brake = 1) : (d.testsCommanded.startTest 1).on F.SB_CMD_BUSY = true ∧
    (d.testsCommanded.startTest 1).on F.SB_STATUS_TESTING = true ∧ (d.testsCommanded.startTest 1).on F.SB_STATUS_HOLD_1 = false ∧
    (d.testsCommanded.startTest 1).on F.SB_STATUS_HOLD_2 = true := by
  obtain ⟨htesting, hone, htwo⟩ := Dev.startTest_shows 1 d.testsCommanded
  have hbrake : d.testsCommanded.brake = 1 := (Dev.get_set_other d F.SB_CMD_BUSY F.SB_STATUS_BRAKE (bit true) 0 0 0 0 (by decide)).trans hb
  rw [hbrake] at hone htwo
  refine ⟨?_, htesting, hone, htwo⟩
  rw [Dev.on_of_keeps (Dev.startTest_keeps ..) (by decide)]
  exact Dev.on_flag_self (f := F.SB_CMD_BUSY) rfl d true 0 0

theorem Dev.hold_startTest (second : Bool) (d : Dev) :
    (d.startTest (if second then 2 else 1)).on (if second then F.SB_STATUS_HOLD_2 else F.SB_STATUS_HOLD_1) = false := by
  obtain ⟨-, hone, htwo⟩ := Dev.startTest_shows (if second then 2 else 1) d
  cases second
  · simpa using hone
  · simpa using htwo

/-- A difference outside a test is a DISCREPANCY (R406). -/
theorem Dev.discrepancy_shows (second level : Bool) (d : Dev) :
    ((d.flag (fbFld (if second then 2 else 1)) level).verdict (if second then 2 else 1) 4).get (lastFld (if second then 2 else 1)) = 4 ∧
    ((d.flag (fbFld (if second then 2 else 1)) level).verdict (if second then 2 else 1) 4).on (failFld (if second then 2 else 1)) = true ∧
    ((d.flag (fbFld (if second then 2 else 1)) level).verdict (if second then 2 else 1) 4).on (fbFld (if second then 2 else 1)) = level ∧
    testBit (((d.flag (fbFld (if second then 2 else 1)) level).verdict (if second then 2 else 1) 4).get F.SB_DEMAND_COND) 8 = true := by
  have hx : (if second then 2 else 1) = 1 ∨ (if second then 2 else 1) = 2 := by cases second <;> decide
  obtain ⟨hlast, hfail, -, hdeg⟩ := Dev.verdict_shows hx (v := 4) (by decide) (d.flag (fbFld (if second then 2 else 1)) level)
  refine ⟨hlast, hfail, ?_, ?_⟩
  · rw [Dev.on_of_keeps (Dev.verdict_keeps ..) (by cases second <;> decide)]
    exact Dev.on_flag_self (by cases second <;> rfl) ..
  · rw [hdeg, Bool.or_eq_true]
    cases second
    · exact .inl hfail
    · exact .inr hfail

/-- The timer of DEGRADED and its limit (R409). -/
theorem degradedMinute_shows (h : d.on F.SB_STATUS_DEGRADED = true) (ht : d.sb.degSince + safeUs 60000000 ≤ d.now) :
    (degradedMinute d).store.degMinutes = satInc 0xFFFF d.store.degMinutes ∧
      (degradedMinute d).get F.SB_DEG_ELAPSED = satInc 0xFFFF d.store.degMinutes ∧ (degradedMinute d).sb.degSince = d.now ∧
      (6 * d.sb.params.degLimit ≤ satInc 0xFFFF d.store.degMinutes → (degradedMinute d).on F.FC_COND_COND 0x158 = true ∧
        testBit ((degradedMinute d).get F.SB_DEMAND_IN_FORCE) 8 = true ∧ (d.brake ≠ 0 → (degradedMinute d).brake = 2)) := by
  have hwidth : satInc 0xFFFF d.store.degMinutes < 2 ^ 16 := Nat.lt_succ_of_le (satInc_le ..)
  have helapsed : d.minuteCounted.get F.SB_DEG_ELAPSED = satInc 0xFFFF d.store.degMinutes := (Dev.get_set_self ..).trans (Nat.mod_eq_of_lt hwidth)
  rw [degradedMinute_counts h ht]
  split
  · have hdemand := Dev.demand_keeps 8 (d.minuteCounted.cond 0x158 true)
    have hcond := Dev.cond_keeps 0x158 true 0 d.minuteCounted
    have hsb : (d.minuteCounted.cond 0x158 true).sb = d.minuteCounted.sb := hcond.1 .sb (by decide)
    have hstore : ((d.minuteCounted.cond 0x158 true).demand 8).store = d.minuteCounted.store :=
      (hdemand.1 .store (by decide)).trans (hcond.1 .store (by decide))
    refine ⟨by rw [hstore]; rfl, ?_, ?_, fun _ => ⟨?_, ?_, fun hb => ?_⟩⟩
    · rw [hdemand.2 _ _ _ (by decide), hcond.2 _ _ _ (by decide), helapsed]
    · rw [Dev.demand_degSince, hsb]
      rfl
    · rw [Dev.on_of_keeps hdemand (by decide), Dev.cond_shows]
    · have hforce : ((d.minuteCounted.cond 0x158 true).demand 8).get F.SB_DEMAND_IN_FORCE =
          (((d.minuteCounted.cond 0x158 true).raised (2 ^ 8)).setBit F.SB_DEMAND_IN_FORCE 8 true).get F.SB_DEMAND_IN_FORCE :=
        (Dev.refreshBrake_keeps _).2 _ _ _ (by decide)
      rw [hforce]
      exact Dev.testBit_setBit_self (by decide) ..
    · refine Dev.brake_demand (by decide) ?_
      rw [Dev.brake, hcond.2 _ _ _ (by decide)]
      exact (Dev.get_set_other _ _ _ _ _ _ _ _ (by decide)).trans_ne hb
  · next hlow => exact ⟨rfl, helapsed, rfl, fun hlim => absurd hlim hlow⟩

end tests

section release
variable {d : Dev} {c : Nat}

theorem safeBlockRepeat_repeats (h : d.get F.SB_COURSE_STATE c = 1) (ht : (tabD d.sb.courses c .init).nextAt ≤ d.now) : safeBlockRepeat c d =
    ({ d with sb := { d.sb with courses := tabSet d.sb.courses c { tabD d.sb.courses c .init with
      nextAt := (tabD d.sb.courses c .init).nextAt + safeUs d.sb.params.sbRepeat } } } : Dev).sendSafety c
      (.safeBlock (d.get F.SB_COURSE_SEQ c) c) := if_pos ⟨h, ht⟩

theorem safeReleaseRepeat_repeats (h : d.get F.SB_COURSE_STATE c = 2) (hleft : 0 < (tabD d.sb.courses c .init).left)
    (ht : (tabD d.sb.courses c .init).nextAt ≤ d.now) : safeReleaseRepeat c d =
    ({ d with sb := { d.sb with courses := tabSet d.sb.courses c { tabD d.sb.courses c .init with
      left := (tabD d.sb.courses c .init).left - 1, nextAt := (tabD d.sb.courses c .init).nextAt + safeUs d.sb.params.sbRepeat,
      lastAt := d.now } } } : Dev).sendSafety c (.safeRelease (d.get F.SB_COURSE_SEQ c) c) := if_pos ⟨h, hleft, ht⟩

theorem releaseTimeout_ends (h : d.get F.SB_COURSE_STATE c = 2) (hleft : (tabD d.sb.courses c .init).left = 0)
    (ht : (tabD d.sb.courses c .init).lastAt + safeUs 1000 ≤ d.now) :
    releaseTimeout c d = d.unrelease c (128 * c + (d.stillSafe c).getD 0) := if_pos ⟨h, hleft, ht⟩

/-- What the registers of a course show, the write of RESULT leaves. -/
theorem Dev.courseShown_result (v : Nat) (d : Dev) : (d.set F.SB_CMD_RESULT v).courseShown c = d.courseShown c := by
  rw [Dev.courseShown, Dev.get_set_other _ _ _ _ _ _ _ _ (by decide), Dev.get_set_other _ _ _ _ _ _ _ _ (by decide),
    Dev.get_set_other _ _ _ _ _ _ _ _ (by decide), Dev.get_set_other _ _ _ _ _ _ _ _ (by decide), Dev.courseShown]

end release

/-- Settles O57: the tests by the state of the test they meet, safe block by the courses of its mask. -/
theorem safetyBlock : Obligations.SafetyBlock := by
  refine ⟨?_, ?_⟩
  · rintro s dt d rfl hl
    refine ⟨fun x hacc h => exec_live hl rfl (Dev.sbCmd_fails hacc h _),
      fun x t hacc h ht => ⟨_, exec_live hl rfl (test_waits hacc h ht), ht, rfl, ?_, Dev.get_set_self _ F.SB_CMD_RESULT 0 0 0⟩,
      fun x hacc h ht => ?_, fun second hb ht hdue hok => ?_, fun t ht hout => ⟨fun hp hdue => ⟨?_, fun hcmd => ?_⟩, fun hp hdue hcmd high => ?_⟩,
      fun second level hr ht hne => ?_, fun h ht => ⟨_, exec_live hl rfl rfl, degradedMinute_shows h ht⟩⟩
    · exact (Dev.on_set_other _ _ _ _ _ _ _ _ (by decide)).trans (Dev.on_flag_self (f := F.SB_CMD_BUSY) rfl (s.seen dt) true 0 0)
    · obtain ⟨hbusy, htesting, hone, htwo⟩ := Dev.testsCommanded_shows (Dev.brake_of_testable h)
      have hsb := Dev.startTest_sb 1 (s.seen dt).testsCommanded
      refine ⟨_, exec_live hl rfl (test_starts hacc h ht), ?_, ?_, ?_, ?_, ?_, ?_, Dev.get_set_self _ F.SB_CMD_RESULT 0 0 0⟩
      · rw [Dev.set_sb, hsb]
        rfl
      · rw [Dev.set_sb, hsb]
        rfl
      · exact (Dev.on_set_other _ _ _ _ _ _ _ _ (by decide)).trans hbusy
      · exact (Dev.on_set_other _ _ _ _ _ _ _ _ (by decide)).trans htesting
      · exact (Dev.on_set_other _ _ _ _ _ _ _ _ (by decide)).trans hone
      · exact (Dev.on_set_other _ _ _ _ _ _ _ _ (by decide)).trans htwo
    · exact ⟨_, exec_live hl rfl (offPulseTest_starts hb ht hdue hok), by rw [Dev.startTest_sb], (Dev.startTest_shows ..).1,
        Dev.hold_startTest ..⟩
    · refine ⟨_, exec_live hl rfl (offPulseEnd_low ht hp hdue), ?_⟩
      rw [show ∀ e : Dev, e.driveHold.sb = e.sb from fun e => (Dev.driveHold_keeps e).1 .sb (by decide)]
    · obtain ⟨hnone, hlast, hfail, hcond⟩ := Dev.endTest_shows (d := (s.seen dt).flag (fbFld t.output) true) hout (v := 2) (by decide) hcmd
      exact ⟨_, exec_live hl rfl (offPulseEnd_high ht hp hdue), hnone, hlast, hfail, hcond⟩
    · have hshows := Dev.endTest_shows (d := (s.seen dt).flag (fbFld t.output) high) hout (v := if high then 1 else 3)
        (by cases high <;> decide) hcmd
      rw [show ((if high then 1 else 3) == 1) = high by cases high <;> rfl] at hshows
      exact ⟨_, exec_live hl rfl (offPulseVerify_ends ht hp hdue high), hshows⟩
    · exact ⟨_, exec_live hl rfl (feedbackDiscrepancy_found hr ht hne), Dev.discrepancy_shows ..⟩
  · rintro s dt d rfl hl
    refine ⟨fun x hacc => ⟨fun h hr => ⟨_, exec_live hl rfl (Dev.sbCmd_done hacc h _), Dev.get_set_self _ F.SB_CMD_RESULT 0 0 0, fun c hc hm => ?_⟩,
        fun h => exec_live hl rfl (Dev.sbCmd_fails hacc h _),
        fun c hc hm ht hr ho hb => Dev.sbCheck_triggered hc hm ht hr ho hb,
        fun h => ⟨_, exec_live hl rfl (Dev.sbCmd_done hacc h _), Dev.get_set_self _ F.SB_CMD_RESULT 0 0 0, fun c hc hm hst => ?_⟩,
        fun h => exec_live hl rfl (Dev.sbCmd_fails hacc h _)⟩,
      fun c q hq => ⟨fun h ht => exec_live hl rfl ?_, fun h hleft ht => exec_live hl rfl ?_, fun h hleft ht => exec_live hl rfl ?_⟩⟩
    · obtain ⟨hstate, hsame, hnew⟩ := Dev.triggers_show 1 (mem_maskCourses.mpr ⟨hc, hm⟩) (Dev.bound_of_check (.inl rfl) h hc hm) hr
      refine ⟨(Dev.get_set_other _ _ _ _ _ _ _ _ (by decide)).trans hstate, fun hone => ?_, fun hne => ?_⟩
      · have hshown := (Dev.courseShown_result 0 _).trans (hsame hone)
        exact ⟨congrArg (fun p => p.2.1) hshown, congrArg (fun p => p.2.2.1) hshown, congrArg (fun p => p.2.2.2) hshown⟩
      · exact (Dev.get_set_other _ _ _ _ _ _ _ _ (by decide)).trans (hnew hne)
    · exact (Dev.get_set_other _ _ _ _ _ _ _ _ (by decide)).trans (Dev.releases_show (.inl ⟨mem_maskCourses.mpr ⟨hc, hm⟩, hst⟩))
    · subst hq
      exact safeBlockRepeat_repeats h ht
    · subst hq
      exact safeReleaseRepeat_repeats h hleft ht
    · subst hq
      exact releaseTimeout_ends h hleft ht

end Sys2Proof.Machine
end

section
/-! PROOF. Frames at a station port (R302 to R315). -/

namespace Sys2Proof.Machine

section frames
variable {d : Dev}

/-- What a port does with a frame it is up for (R302): a bad check sequence and a security part are counted. -/
theorem Dev.portTakes_badFcs {port : Nat} (hup : d.on F.SI_PORT_LINK port = true) (hr : d.ready F.GL_READY_INTAKE = true) (sec : Nat)
    (f : Dev → Dev) : d.portTakes port sec true f = d.count F.SI_PORT_FCS_ERR port := by
  simp [Dev.portTakes, hup, hr]

theorem Dev.portTakes_secured {port sec : Nat} (hup : d.on F.SI_PORT_LINK port = true) (hr : d.ready F.GL_READY_INTAKE = true) (h : sec ≠ 0)
    (f : Dev → Dev) : d.portTakes port sec false f = d.count F.SI_PORT_SEC_REJ port := by
  simp [Dev.portTakes, hup, hr, h]

theorem Dev.portTakes_good {port : Nat} (hup : d.on F.SI_PORT_LINK port = true) (hr : d.ready F.GL_READY_INTAKE = true) (f : Dev → Dev) :
    d.portTakes port 0 false f = f d := by
  simp [Dev.portTakes, hup, hr]

theorem tabD_tabMod_self {α : Type} (t : List (Nat × α)) (n : Nat) (x : α) (f : α → α) : tabD (tabMod t n x f) n x = f (tabD t n x) :=
  tabD_tabSet_self ..

theorem Dev.sv_modSv (d : Dev) (k : Nat) (f : SvSt → SvSt) : (d.modSv k f).sv k = f (d.sv k) := tabD_tabMod_self ..

theorem Dev.goose_modGoose (d : Dev) (n : Nat) (f : GoSt → GoSt) : (d.modGoose n f).goose n = f (d.goose n) := tabD_tabMod_self ..

theorem Dev.sv_of_si {a b : Dev} (h : a.si.svs = b.si.svs) (k : Nat) : a.sv k = b.sv k := by
  rw [Dev.sv, h, Dev.sv]

theorem Dev.cond_si (n k : Nat) (b : Bool) (d : Dev) : (d.cond n b k).si = d.si := (Dev.cond_keeps n b k d).1 .si (by decide)

/-- A synchronised new sample is the newest of its subscription, which is GOOD on the port it came through (R305, R307, R312). -/
theorem Dev.asdu_shows {k port a : Nat} {c : SvSub} {u : SvAsdu} (hcnt : u.smpCnt < c.rate) (hlen : c.nval ≤ u.data.length)
    (hsync : d.synced u = true) (hnew : ((d.sv k).samples.find? fun x => x.cnt == u.smpCnt && decide (a < x.accepted + 65536000000000)) = none)
    (hport : port < 4) :
    (d.asdu k c port a u).get F.SI_SV_STAT_W0_STATE k = 2 ∧ (d.asdu k c port a u).get F.SI_SV_STAT_W0_PORT k = port ∧
      (d.asdu k c port a u).on F.FC_COND_COND (0x160 + k) = false ∧ ((d.asdu k c port a u).sv k).lost = false ∧
      ((d.asdu k c port a u).sv k).silentAt = d.now + silence c ∧
      (((d.asdu k c port a u).sv k).samples.head?.map fun x => (x.cnt, x.accepted, x.time)) = some (u.smpCnt, a, sampleTime c true u a) := by
  unfold Dev.asdu
  rw [if_neg (by omega)]
  simp only [hnew, hsync]
  simp only [Bool.not_true, Bool.false_and, Bool.false_eq_true, if_false]
  have hsv (e : Dev) : ((((e.set F.SI_SV_STAT_W0_STATE 2 k).set F.SI_SV_STAT_W0_PORT port k).cond (0x160 + k) false).sv k) = e.sv k :=
    Dev.sv_of_si (by rw [Dev.cond_si]; rfl) k
  refine ⟨?_, ?_, Dev.cond_shows .., ?_, ?_, ?_⟩
  · rw [(Dev.cond_keeps ..).2 _ _ _ (by decide), Dev.get_set_other _ _ _ _ _ _ _ _ (by decide), Dev.get_set_self]
    rfl
  · rw [(Dev.cond_keeps ..).2 _ _ _ (by decide), Dev.get_set_self]
    exact Nat.mod_eq_of_lt hport
  · rw [hsv, Dev.sv_modSv]
    exact Bool.and_false _
  · rw [hsv, Dev.sv_modSv]
    rfl
  · rw [hsv, Dev.sv_modSv]
    rfl

/-- A frame with one ASDU of the one subscription (R304, R305). -/
theorem svFrameReceived_takes {port sub k : Nat} {fr : SvFrame} {c : SvSub} {u : SvAsdu} (hup : d.on F.SI_PORT_LINK port = true)
    (hr : d.ready F.GL_READY_INTAKE = true) (hfcs : fr.badFcs = false) (hsec : fr.secLen = 0) (hsvs : d.si.streams.svs = [(k, c)])
    (hasdu : fr.asdus = [u]) (hmac : fr.mac = c.mac) (happ : fr.appid = c.appid) (hvlan : c.vlan = none ∨ fr.vlan = c.vlan)
    (hport : testBit c.ports port = true) (hid : u.svId = c.svId) (hrev : u.confRev = c.confRev) (hf : d.isFenced (0x160 + k) = false) :
    svFrameReceived port fr sub d = d.asdu k c port (d.stamp16 sub) u := by
  have hmine : (fr.asdus.filter fun v => v.svId == c.svId) = [u] := by simp [hasdu, hid]
  have hv : ¬(c.vlan.isSome = true ∧ fr.vlan ≠ c.vlan) := by
    rintro ⟨hs, hne⟩
    rcases hvlan with h | h
    · simp [h] at hs
    · exact hne h
  rw [svFrameReceived, hfcs, hsec, Dev.portTakes_good hup hr, if_neg (by simp [hasdu]), hsvs]
  simp only [List.foldl_cons, List.foldl_nil, Dev.svFor]
  rw [hmine, if_neg (by simp [hmac, happ, hport]; simpa using hv), if_neg (by simp [hrev]), if_neg (by simp [hf])]
  rfl

/-- A message that is new to the one GOOSE subscription (R313 to R315): the bits of its members follow the state. -/
theorem gooseReceived_takes {port n : Nat} {m : GooseMsg} {c : GoSub} (hup : d.on F.SI_PORT_LINK port = true)
    (hr : d.ready F.GL_READY_INTAKE = true) (hfcs : m.badFcs = false) (hsec : m.secLen = 0) (hgos : d.si.streams.gos = [(n, c)])
    (hmac : m.mac = c.mac) (happ : m.appid = c.appid) (hid : m.ident = c.ident) (hport : testBit c.ports port = true)
    (hrev : m.confRev = c.confRev) (hnds : m.ndsCom = false) (htest : m.test = false ∨ c.testOk = true) (hf : d.isFenced (0x180 + n) = false)
    (hnew : (d.goose n).stNum ≠ some m.stNum) :
    gooseReceived port m d = c.members.foldl (fun d x => d.giMember m.members x)
      ((((d.modGoose n fun _ => ⟨some m.stNum, m.sqNum, d.now + msTicks (min m.tal c.talCap), false⟩).set F.SI_GO_SUB_STNUM m.stNum n).flag
        F.SI_GO_SUB_LOST false n).cond (0x180 + n) false) := by
  have ht : (m.ndsCom || (m.test && !c.testOk)) = false := by
    rcases htest with h | h <;> simp [hnds, h]
  rw [gooseReceived, hfcs, hsec, Dev.portTakes_good hup hr, hgos]
  simp only [List.foldl_cons, List.foldl_nil, Dev.gooseFor]
  rw [if_neg (by simp [hmac, happ, hid, hport]), if_neg (by simp [hrev]), if_neg (by simp [ht]), if_neg (by simp [hf])]
  simp [hnew]

theorem Dev.goose_giMember (vals : List GoValue) (n : Nat) (d : Dev) (x : GoMember) : (d.giMember vals x).goose n = d.goose n := by
  unfold Dev.giMember
  dsimp only
  split
  · rfl
  · split <;> rfl

theorem Dev.members_keeps (vals : List GoValue) (l : List GoMember) (d : Dev) :
    Dev.keeps ⟨[.si, .fc], [], []⟩ d (l.foldl (fun d x => d.giMember vals x) d) :=
  Dev.keeps_foldl _ l (fun e x => Dev.giMember_keeps vals e x) (Dev.keeps_refl _ d)

theorem Dev.goose_members (vals : List GoValue) (n : Nat) (l : List GoMember) (d : Dev) :
    (l.foldl (fun d x => d.giMember vals x) d).goose n = d.goose n :=
  Dev.foldl_leaves (π := fun e => e.goose n) (fun d x => Dev.goose_giMember vals n d x) l d

end frames

/-- Settles O43: every clause names what a frame does to the one subscription that takes it. -/
theorem stationFrames : Obligations.StationFrames := by
  rintro s dt d port rfl hl
  refine ⟨fun up => exec_live hl rfl rfl, fun hup hr => ⟨fun fr sub => ⟨fun h => exec_live hl rfl ?_, fun h hsec => exec_live hl rfl ?_,
    fun k c u hfcs hsec hsvs hasdu hmac happ hvlan hport hid hrev hf hcnt hlen hsync hsus hnew =>
      ⟨_, exec_live hl rfl (svFrameReceived_takes hup hr hfcs hsec hsvs hasdu hmac happ hvlan hport hid hrev hf), ?_⟩⟩,
    fun m => ⟨fun h => exec_live hl rfl ?_, fun h hsec => exec_live hl rfl ?_⟩,
    fun m n c hfcs hsec hgos hmac happ hid hport hrev hnds htest hf hnew =>
      ⟨_, exec_live hl rfl (gooseReceived_takes hup hr hfcs hsec hgos hmac happ hid hport hrev hnds htest hf hnew), ?_⟩⟩⟩
  · rw [svFrameReceived, h]
    exact Dev.portTakes_badFcs hup hr ..
  · rw [svFrameReceived, h]
    exact Dev.portTakes_secured hup hr hsec _
  · have hs : (s.seen dt).synced u = true := by
      rcases hsync with h | h <;> simp [Dev.synced, h, hsus]
    exact Dev.asdu_shows hcnt hlen hs hnew port.isLt
  · rw [gooseReceived, h]
    exact Dev.portTakes_badFcs hup hr ..
  · rw [gooseReceived, h]
    exact Dev.portTakes_secured hup hr hsec _
  · have hcond (e : Dev) := Dev.cond_keeps (0x180 + n) false 0 e
    refine ⟨?_, ?_, ?_, ?_⟩
    · rw [(Dev.members_keeps ..).2 _ _ _ (by decide), (hcond _).2 _ _ _ (by decide)]
      exact (Dev.get_set_other _ F.SI_GO_SUB_LOST F.SI_GO_SUB_STNUM _ _ _ _ _ (by decide)).trans (Dev.get_set_self ..)
    · rw [Dev.on_of_keeps (Dev.members_keeps ..) (by decide), Dev.on_of_keeps (hcond _) (by decide)]
      exact Dev.on_flag_self rfl ..
    · rw [Dev.on_of_keeps (Dev.members_keeps ..) (by decide)]
      exact Dev.cond_shows ..
    · rw [Dev.goose_members, Dev.goose, Dev.cond_si]
      exact Dev.goose_modGoose ..

end Sys2Proof.Machine
end

section
/-! PROOF. Silent streams and messages sent (R312, R315, R318). -/

namespace Sys2Proof.Machine

section streams
variable {d : Dev}

theorem svLost_raises {k : Nat} {c : SvSub} (hc : tabGet d.si.streams.svs k = some c) (hst : d.get F.SI_SV_STAT_W0_STATE k = 1)
    (hlost : (d.sv k).lost = false) (hdue : (d.sv k).silentAt + msTicks c.lostTime ≤ d.now) :
    svLost k d = ((d.modSv k fun v => { v with lost := true }).flag F.SI_SV_STAT_W0_LOST_RAISED true k).cond (0x160 + k) true := by
  simp [svLost, hc, hst, hlost, hdue]

theorem gooseLost_raises {n : Nat} {c : GoSub} (hc : tabGet d.si.streams.gos n = some c) (hlost : (d.goose n).lost = false)
    (hdue : (d.goose n).deadline ≤ d.now) :
    gooseLost n d = (((c.members.foldl (fun d m => d.giDefault m) (d.modGoose n fun g => { g with lost := true })).flag F.SI_GO_SUB_LOST true n).flag
      F.SI_GO_SUB_LOST_RAISED true n).cond (0x180 + n) true := by
  simp [gooseLost, hc, hlost, hdue]

theorem Dev.goose_giDefaults (n : Nat) (l : List GoMember) (d : Dev) : (l.foldl (fun d m => d.giDefault m) d).goose n = d.goose n :=
  Dev.foldl_leaves (π := fun e => e.goose n) (f := fun d m => d.giDefault m) (fun _ _ => rfl) l d

/-- What a message of a publication leaves of it (R318). -/
theorem Dev.publish_shows (n : Nat) (p : GoPub) (st sq interval : Nat) (items : List Nat) (d : Dev) :
    tabGet (d.publish n p st sq interval items).si.pubs n = some ⟨items, st, sq, d.now + interval, interval⟩ ∧
      (d.publish n p st sq interval items).get F.SI_GO_PUB_STNUM n = st % 0x10000 ∧
      (d.publish n p st sq interval items).out = d.out ++ [.goose n p st sq (2 * interval) (d.on F.SI_GO_PUB_CTL_TEST) items] :=
  ⟨tabGet_tabSet_self .., Dev.get_set_self .., rfl⟩

/-- The one publication at its instant of evaluation (R318). -/
theorem goosePubEvaluation_one {n : Nat} {p : GoPub} {u : PubSt} (hr : d.ready F.GL_READY_INTAKE = true) (hp : d.si.streams.pubs = [(n, p)])
    (hu : tabD d.si.pubs n .init = u) : goosePubEvaluation d = if d.ct % 2500 ≠ 0 then d
      else if u.last = [] then d.publish n p u.stNum u.sqNum (500 * p.minTime) (d.dataset p)
      else if d.dataset p = u.last then d else d.publish n p ((u.stNum + 1) % 0x100000000) 0 (500 * p.minTime) (d.dataset p) := by
  subst hu
  by_cases h : d.ct % 2500 = 0
  · simp [goosePubEvaluation, hr, hp, h]
  · simp [goosePubEvaluation, hr, h]

end streams

/-- Settles O44: a stream or a subscription runs out of its time, a publication changes or repeats. -/
theorem streamsAndPublications : Obligations.StreamsAndPublications := by
  rintro s dt d rfl hl
  refine ⟨fun k c hc => ⟨fun h => exec_live hl rfl ?_, fun h => exec_live hl rfl ?_,
      fun hst hlost hdue => ⟨_, exec_live hl rfl (svLost_raises hc hst hlost hdue), ?_, ?_, Dev.cond_shows ..⟩⟩,
    fun n c hc hlost hdue => ⟨_, exec_live hl rfl (gooseLost_raises hc hlost hdue), ?_, ?_, Dev.cond_shows .., fun m hm => ?_⟩,
    fun n p u hr hp hu => ?_,
    fun n p u hp hu hlast hdue => ⟨_, exec_live hl rfl ?_, (Dev.publish_shows ..).1, (Dev.publish_shows ..).2.2⟩⟩
  · simp [svSilent, hc, h]
  · simp [svSilent, hc, h]
  · rw [Dev.sv, Dev.cond_si]
    exact congrArg SvSt.lost (Dev.sv_modSv (s.seen dt) k.val _)
  · rw [Dev.on_of_keeps (Dev.cond_keeps ..) (by decide)]
    exact Dev.on_flag_self rfl ..
  · rw [Dev.goose, Dev.cond_si]
    exact congrArg GoSt.lost ((Dev.goose_giDefaults ..).trans (Dev.goose_modGoose ..))
  · rw [Dev.on_of_keeps (Dev.cond_keeps ..) (by decide)]
    exact (Dev.on_set_other _ _ _ _ _ _ _ _ (by decide)).trans (Dev.on_flag_self rfl ..)
  · rw [Dev.cond_si, hm]
    exact ⟨(testBit_putBit ..).trans (if_pos rfl), (testBit_putBit ..).trans (if_pos rfl)⟩
  · have hone := goosePubEvaluation_one hr hp hu
    refine ⟨fun h => exec_live hl rfl ?_, fun h hlast => exec_live hl rfl ?_, fun hlast hsame => exec_live hl rfl ?_, fun h hlast hnew => ?_⟩
    · rw [hone, if_pos h]
    · rw [hone, if_neg (not_not.mpr h), if_pos hlast]
    · rw [hone, if_neg hlast, if_pos hsame, ite_self]
    · rw [if_neg (not_not.mpr h), if_neg hlast, if_neg hnew] at hone
      exact ⟨_, exec_live hl rfl hone, Dev.publish_shows ..⟩
  · subst hu
    simp [gooseRetransmit, hp, hlast, hdue]

end Sys2Proof.Machine
end

section
/-! PROOF. Calibration of a converter (R326, R327). -/

namespace Sys2Proof.Machine

section calibration
variable {d : Dev} {m : Nat}

theorem toField_lt (w : Nat) (x : Int) : toField w x < 2 ^ w := by
  have hpos : (0 : Int) < 2 ^ w := by positivity
  have hlt := Int.emod_lt_of_pos x hpos
  have hnn := Int.emod_nonneg x hpos.ne'
  rw [toField]
  zify
  omega

theorem toField_ofField (w n : Nat) : toField w (ofField w n) = n % 2 ^ w := by
  have hmod : ((n % 2 ^ w : Nat) : Int) % 2 ^ w = ((n % 2 ^ w : Nat) : Int) := by
    push_cast
    exact Int.emod_emod ..
  rw [toField, ofField]
  split
  · rw [hmod, Int.toNat_natCast]
  · rw [Int.sub_emod_right, hmod, Int.toNat_natCast]

/-- A field set to a signed value holds its two's complement. -/
theorem Dev.get_setI_self (d : Dev) (f : Fld) (x : Int) (i j : Nat) : (d.setI f x i j).get f i j = toField f.width x :=
  (Dev.get_set_self ..).trans (Nat.mod_eq_of_lt (toField_lt ..))

/-- A calibration command that passes the checks of R327, and one that fails one. -/
theorem Dev.calCmd_done {x : Nat} (hacc : d.refusal x true 0x70800 = none) {range order : Bool} (h : d.calCheck m range order = 0) (f : Dev → Dev) :
    d.calCmd x m range order f = f (d.set F.LM_CAL_CMD_RESULT 0) := by
  rw [Dev.calCmd, Dev.hostWrite_accepted _ _ _ _ hacc]
  simp [h]

theorem Dev.calCmd_fails {x : Nat} (hacc : d.refusal x true 0x70800 = none) {range order : Bool} (h : d.calCheck m range order ≠ 0)
    (f : Dev → Dev) : d.calCmd x m range order f = d.set F.LM_CAL_CMD_RESULT (d.calCheck m range order) := by
  rw [Dev.calCmd, Dev.hostWrite_accepted _ _ _ _ hacc]
  simp [h]

/-- A converter with a measuring step that ends at `t` (R326). -/
def LmSt.calibrating (step gain : Nat) (expect : Int) (t : Nat) (s : LmSt) : LmSt :=
  { s with running := false, cal := some (step, gain, expect), due := some t }

theorem Dev.calStart_si (step gain : Nat) (expect : Int) (d : Dev) :
    (d.calStart m step gain expect).si = ((d.latchLms.contDue m).modLm m (LmSt.calibrating step gain expect (d.now + 52000))).si := by
  rw [Dev.calStart, (Dev.withdraw_keeps ..).1 .si (by decide), (Dev.markStale_keeps ..).1 .si (by decide)]
  split <;> rfl

/-- The word of a result as it turns STALE (R323). -/
def staleWord (w : Nat) : Nat := putBit (putBit w 12 true) 15 false

theorem testBit_staleWord (w : Nat) : testBit (staleWord w % 2 ^ 32) 15 = false := by
  rw [testBit, Nat.testBit_mod_two_pow, ← testBit, staleWord, testBit_putBit, if_pos rfl, Bool.and_false]

theorem Dev.markStale_eq (d : Dev) : d.markStale m =
    d.each (List.range 16) fun n e => e.set F.LM_RESULT_WORD (staleWord (e.get F.LM_RESULT_WORD m n)) m n := rfl

/-- STALE is VALID 0 of every entry (R323). -/
theorem Dev.markStale_invalid {n : Nat} (hn : n < 16) (d : Dev) : testBit ((d.markStale m).get F.LM_RESULT_WORD m n) 15 = false := by
  have hone (e : Dev) : testBit ((e.set F.LM_RESULT_WORD (staleWord (e.get F.LM_RESULT_WORD m n)) m n).get F.LM_RESULT_WORD m n) 15 = false := by
    rw [Dev.get_set_self]
    exact testBit_staleWord _
  rw [Dev.markStale_eq]
  refine Dev.each_reaches (P := fun e => testBit (e.get F.LM_RESULT_WORD m n) 15 = false)
    (f := fun n e => e.set F.LM_RESULT_WORD (staleWord (e.get F.LM_RESULT_WORD m n)) m n) (List.mem_range.mpr hn) hone (fun k e he => ?_) d
  by_cases hk : k = n
  · subst hk
    exact hone e
  · rw [Dev.get_set_ne _ _ _ _ _ _ _ _ (by simpa using Ne.symm hk)]
    exact he

/-- What a measuring step shows from its start (R326). -/
theorem Dev.calStart_shows (hm : m < d.si.lms.length) (step gain : Nat) (expect : Int) :
    ((d.calStart m step gain expect).lm m).cal = some (step, gain, expect) ∧ ((d.calStart m step gain expect).lm m).due = some (d.now + 52000) ∧
      (d.calStart m step gain expect).on F.LM_CAL_CMD_BUSY = true ∧ (d.calStart m step gain expect).get F.LM_STAT_STATE m = 2 ∧
      ∀ n : Nat, n < 16 → testBit ((d.calStart m step gain expect).get F.LM_RESULT_WORD m n) 15 = false := by
  have hlm : (d.calStart m step gain expect).lm m = LmSt.calibrating step gain expect (d.now + 52000) ((d.latchLms.contDue m).lm m) := by
    rw [Dev.lm_congr (Dev.calStart_si ..)]
    exact Dev.lm_modLm_self _ (by rwa [Dev.contDue_lms_length, Dev.latchLms_si])
  refine ⟨by rw [hlm]; rfl, by rw [hlm]; rfl, ?_, ?_, fun n hn => ?_⟩
  · rw [Dev.calStart, Dev.on_of_keeps (Dev.withdraw_keeps ..) (by decide), Dev.on_of_keeps (Dev.markStale_keeps ..) (by decide),
      Dev.on_set_other _ _ _ _ _ _ _ _ (by decide)]
    exact Dev.on_flag_self rfl ..
  · rw [Dev.calStart, (Dev.withdraw_keeps ..).2 _ _ _ (by decide), (Dev.markStale_keeps ..).2 _ _ _ (by decide)]
    exact Dev.get_set_self ..
  · rw [Dev.calStart, (Dev.withdraw_keeps ..).2 _ _ _ (by decide)]
    exact Dev.markStale_invalid hn _

/-- With a change of LM_CONT due or not, the pending values stay. -/
theorem Dev.contDue_pendOfs (hm : m < d.si.lms.length) : ((d.contDue m).lm m).pendOfs = (d.lm m).pendOfs := by
  have happly (w t : Nat) : ((d.contApply m w t).lm m).pendOfs = (d.lm m).pendOfs := by
    obtain ⟨k, hsi⟩ := d.contApply_si m w t
    obtain ⟨l, hl⟩ := Dev.takeCal_eq m d
    rw [Dev.lm_congr hsi, hl, Dev.lm_modLm_self _ (by rwa [Dev.modLm_lms_length]), Dev.lm_modLm_self _ hm]
    rfl
  unfold Dev.contDue
  split
  · split
    · exact happly ..
    · rfl
  · rfl

/-- The pair that goes to LM_CAL (R326). -/
theorem Dev.storeCal_shows (g : Nat) (ofs : Int) (gc : Nat) (d : Dev) : (d.storeCal m g ofs gc).get F.LM_CAL_OFS m g = toField 16 ofs ∧
    (d.storeCal m g ofs gc).get F.LM_CAL_GCORR m g = gc % 0x10000 := by
  have htail (f : Fld) (h : Scope.covers ⟨[.store], [F.MO_JOURNAL_FILL, F.MO_JOURNAL_PENDING], []⟩ f = false) : (d.storeCal m g ofs gc).get f m g =
      (((d.contDue m).setI F.LM_CAL_OFS ofs m g).set F.LM_CAL_GCORR gc m g).get f m g := by
    rw [Dev.storeCal]
    split
    · exact (Dev.journal_keeps ..).2 _ _ _ h
    · exact (Dev.journal_keeps ..).2 _ _ _ h
  refine ⟨?_, ?_⟩
  · rw [htail _ (by decide), Dev.get_set_other _ _ _ _ _ _ _ _ (by decide)]
    exact Dev.get_setI_self ..
  · rw [htail _ (by decide)]
    exact Dev.get_set_self ..

theorem Dev.storeCal_pendOfs (hm : m < d.si.lms.length) (g : Nat) (ofs : Int) (gc : Nat) : ((d.storeCal m g ofs gc).lm m).pendOfs = (d.lm m).pendOfs := by
  have hsi (off mask v : Nat) (e : Dev) : (e.journal off mask v).si = e.si := (Dev.journal_keeps ..).1 .si (by decide)
  rw [Dev.storeCal]
  split
  · rw [Dev.lm_modLm_self _ (by rw [hsi]; exact (Dev.contDue_lms_length ..).symm ▸ hm), Dev.lm_congr (hsi ..)]
    exact Dev.contDue_pendOfs hm
  · rw [Dev.lm_congr (hsi ..)]
    exact Dev.contDue_pendOfs hm

/-- A measuring step that has ended with its mean shown, before the mean is judged. -/
def Dev.stepEnded (m : Nat) (mean : Int) (d : Dev) : Dev :=
  (((d.setI F.LM_CAL_MEAS_MEAN mean).modLm m fun s => { s with cal := none, due := none }).flag F.LM_CAL_CMD_BUSY false).set F.LM_STAT_STATE 0 m

theorem Dev.stepEnded_lms_length (mean : Int) (d : Dev) : (d.stepEnded m mean).si.lms.length = d.si.lms.length := length_setNth ..

theorem Dev.stepEnded_cal (hm : m < d.si.lms.length) (mean : Int) : ((d.stepEnded m mean).lm m).cal = none := by
  rw [Dev.stepEnded, Dev.lm_set, Dev.flag, Dev.lm_set]
  exact congrArg LmSt.cal (Dev.lm_modLm_self (d := d.setI F.LM_CAL_MEAS_MEAN mean) (fun s => { s with cal := none, due := none }) hm)

/-- A CONTINUOUS converter goes on from the next edge (log entry 172). -/
def Dev.contResumes (m : Nat) (d : Dev) : Dev :=
  if (d.lmCfg m).trig = 3 then d.modLm m fun s => { s with contNext := some (d.contWord m, d.nextEdge) } else d

theorem Dev.contResumes_regs (d : Dev) (f : Fld) (i j : Nat) : (d.contResumes m).get f i j = d.get f i j := by
  unfold Dev.contResumes
  split <;> rfl

theorem Dev.contResumes_lms_length (d : Dev) : (d.contResumes m).si.lms.length = d.si.lms.length := by
  unfold Dev.contResumes
  split
  · exact Dev.modLm_lms_length ..
  · rfl

theorem Dev.contResumes_cal (hm : m < d.si.lms.length) : ((d.contResumes m).lm m).cal = (d.lm m).cal := by
  unfold Dev.contResumes
  split
  · rw [Dev.lm_modLm_self _ hm]
  · rfl

section step
variable {gain t : Nat} {total : Int} (hcal : (d.lm m).cal = some (1, gain, 0)) (hdue : (d.lm m).due = some t) (ht : t ≤ d.now)
  (hrange : (roundDiv total 256).natAbs ≤ 0x7FFF)
include hcal hdue ht hrange

theorem lmCalStepComplete_measured : lmCalStepComplete m total d =
    ((d.stepEnded m (roundDiv total 256)).contResumes m).modLm m fun s => { s with pendOfs := some (gain, roundDiv total 256) } := by
  rw [lmCalStepComplete, hcal, hdue]
  dsimp only
  rw [if_neg (Nat.not_lt.mpr ht), if_pos rfl, if_neg (Nat.not_lt.mpr hrange)]
  rfl

/-- The step that measured an offset within range ends (R326). -/
theorem lmCalStepComplete_shows (hm : m < d.si.lms.length) : ((lmCalStepComplete m total d).lm m).pendOfs = some (gain, roundDiv total 256) ∧
    ((lmCalStepComplete m total d).lm m).cal = none ∧
      (lmCalStepComplete m total d).on F.LM_CAL_CMD_BUSY = false ∧ (lmCalStepComplete m total d).get F.LM_STAT_STATE m = 0 ∧
      (lmCalStepComplete m total d).get F.LM_CAL_MEAS_MEAN = toField 32 (roundDiv total 256) := by
  have hended : m < (d.stepEnded m (roundDiv total 256)).si.lms.length := by rwa [Dev.stepEnded_lms_length]
  have hlm (f : LmSt → LmSt) := Dev.lm_modLm_self f (d := (d.stepEnded m (roundDiv total 256)).contResumes m) (m := m) (by rwa [Dev.contResumes_lms_length])
  have hreg (f : LmSt → LmSt) (g : Fld) (i j : Nat) : (((d.stepEnded m (roundDiv total 256)).contResumes m).modLm m f).get g i j =
      (d.stepEnded m (roundDiv total 256)).get g i j := Dev.contResumes_regs ..
  rw [lmCalStepComplete_measured hcal hdue ht hrange]
  refine ⟨by rw [hlm], ?_, ?_, ?_, ?_⟩
  · rw [hlm]
    exact (Dev.contResumes_cal hended).trans (Dev.stepEnded_cal hm _)
  · rw [Dev.on, hreg]
    exact (Dev.on_set_other _ F.LM_STAT_STATE F.LM_CAL_CMD_BUSY _ _ _ _ _ (by decide)).trans (Dev.on_flag_self rfl ..)
  · rw [hreg]
    exact Dev.get_set_self ..
  · rw [hreg]
    exact (Dev.get_set_other _ F.LM_STAT_STATE F.LM_CAL_MEAS_MEAN _ _ _ _ _ (by decide)).trans
      ((Dev.get_set_other _ F.LM_CAL_CMD_BUSY F.LM_CAL_MEAS_MEAN _ _ _ _ _ (by decide)).trans (Dev.get_setI_self d F.LM_CAL_MEAS_MEAN _ 0 0))

end step

theorem lmCalZero_starts {x gain : Nat} (hacc : d.refusal x true 0x70800 = none) (h : d.calCheck m false false = 0) :
    lmCalZero x m gain d = (d.set F.LM_CAL_CMD_RESULT 0).calStart m 1 gain 0 := Dev.calCmd_done hacc h _

theorem lmCalFull_starts {x gain : Nat} {expect : Int} (hacc : d.refusal x true 0x70800 = none) (h : d.calCheck m false false = 0)
    (hrange : 8192 ≤ expect.natAbs) : lmCalFull x m gain expect d = (d.set F.LM_CAL_CMD_RESULT 0).calStart m 2 gain expect := by
  have hin : decide (expect.natAbs < 8192) = false := decide_eq_false (Nat.not_lt.mpr hrange)
  exact Dev.calCmd_done hacc (by rwa [hin]) _

theorem lmCalStore_stores {x gain : Nat} {o : Int} (hacc : d.refusal x true 0x70800 = none) (h : d.calCheck m false false = 0)
    (ho : (d.lm m).pendOfs = some (gain, o)) (hg : (d.lm m).pendGc = none) :
    lmCalStore x m gain d = ((d.set F.LM_CAL_CMD_RESULT 0).modLm m fun s => { s with pendOfs := none, pendGc := none }).storeCal m gain o
      ((d.set F.LM_CAL_CMD_RESULT 0).get F.LM_CAL_GCORR m gain) := by
  have hpend : (d.lm m).pendOfs.filter (·.1 == gain) = some (gain, o) := by simp [ho]
  have hcheck : d.calCheck m false (((d.lm m).pendOfs.filter (·.1 == gain)).isNone && ((d.lm m).pendGc.filter (·.1 == gain)).isNone) = 0 := by
    rwa [hpend]
  rw [lmCalStore]
  dsimp only
  rw [Dev.calCmd_done hacc hcheck, hpend, hg]
  rfl

end calibration

/-- Settles O46: each command after its checks, the step by its mean. -/
theorem calibration : Obligations.Calibration := by
  rintro s dt d m gain rfl hl hlen
  have hm : m.val < (s.seen dt).si.lms.length := by omega
  refine ⟨fun x hacc => ⟨fun h => ⟨?_, fun ex hex => ?_, fun o ho hg => ?_, fun t ht => ?_⟩, fun i range order hi hne => ?_⟩,
    fun total t hcal hdue ht hrange => ⟨lmCalStepComplete m.val total (s.seen dt), exec_live hl rfl rfl, lmCalStepComplete_shows hcal hdue ht hrange hm⟩⟩
  · have hshows := Dev.calStart_shows (d := (s.seen dt).set F.LM_CAL_CMD_RESULT 0) hm 1 gain.val 0
    exact ⟨_, exec_live hl rfl (lmCalZero_starts hacc h), hshows⟩
  · obtain ⟨hcal, hdue, hbusy, -⟩ := Dev.calStart_shows (d := (s.seen dt).set F.LM_CAL_CMD_RESULT 0) hm 2 gain.val ex.toInt
    exact ⟨_, exec_live hl rfl (lmCalFull_starts hacc h hex), hcal, hdue, hbusy⟩
  · refine ⟨_, exec_live hl rfl (lmCalStore_stores hacc h ho hg), (Dev.storeCal_shows ..).1, ?_, ?_⟩
    · rw [(Dev.storeCal_keeps ..).2 _ _ _ (by decide)]
      exact Dev.get_set_self _ F.LM_CAL_CMD_RESULT 0 0 0
    · rw [Dev.storeCal_pendOfs (by rw [Dev.modLm_lms_length]; exact hm), Dev.lm_modLm_self (d := (s.seen dt).set F.LM_CAL_CMD_RESULT 0) _ hm]
  · obtain ⟨hofs, hgc⟩ := Dev.storeCal_shows (m := m.val) gain.val (ofField 16 (t / 0x10000)) (t % 0x10000) ((s.seen dt).set F.LM_CAL_CMD_RESULT 0)
    refine ⟨_, exec_live hl rfl ?_, hofs.trans (toField_ofField ..), hgc.trans (Nat.mod_mod ..)⟩
    subst ht
    exact Dev.calCmd_done hacc h _
  · rcases hi with ⟨rfl, rfl, rfl⟩ | ⟨ex, rfl, rfl, rfl⟩ | ⟨rfl, rfl, rfl⟩ | ⟨rfl, rfl, rfl⟩
    · exact exec_live hl rfl (Dev.calCmd_fails hacc hne _)
    · exact exec_live hl rfl (Dev.calCmd_fails hacc hne _)
    · refine exec_live hl rfl ?_
      rw [lmCalStore]
      exact Dev.calCmd_fails hacc hne _
    · exact exec_live hl rfl (Dev.calCmd_fails hacc hne _)

end Sys2Proof.Machine
end

section
/-! PROOF. The time base: the system PLL, steps and TB_ADJ_CMD (R328 to R345). -/

namespace Sys2Proof.Machine

section servo
variable {d : Dev}

/-- What the servo leaves of the state it had (R337, R340, R341). -/
def Dev.servoLeft (st : Nat) (d : Dev) : Dev :=
  let old := d.get F.TB_SERVO_STATE
  let d : Dev := if old = 3 ∧ st ≠ 3 then (d.set F.TB_HOLD_SECONDS ((d.now - d.tb.holdAt) / 500000000)).cond 0x14E false else d
  let d : Dev := if old = 2 ∧ st ≠ 2 then { d with tb := { d.tb with lockEnd := d.now } } else d
  if st = 2 ∧ old ≠ 2 then { d with tb := { d.tb with everLocked := true, freqHist := [(d.now, d.getI F.TB_FREQ_FREQ)] } } else d

/-- A state of the servo, with the flags that go with it. -/
def Dev.servoShown (st : Nat) (d : Dev) : Dev :=
  let d : Dev := (d.set F.TB_SERVO_STATE st).flag F.GL_READY_PTP (st == 2)
  let d : Dev := if st = 0 then d.flag F.TB_STATUS_SV_SUSPECT true else d
  if st = 1 then d else d.flag F.TB_SERVO_DEFERRED false

theorem Dev.setServo_eq (st : Nat) (d : Dev) : d.setServo st =
    (if st = d.get F.TB_SERVO_STATE then (d.servoLeft st).servoShown st else ((d.servoLeft st).servoShown st).eventAll 9).refreshTrace :=
  (apply_ite Dev.refreshTrace ..).symm

/-- With or without its event the fields that follow the servo show. -/
theorem Dev.get_setServo {f : Fld} (hf : f ≠ F.TB_STATUS_PPS_TRACE) (he : f ≠ F.HC_IRQ_STAT_STAT) (st : Nat) (d : Dev) (i j : Nat) :
    (d.setServo st).get f i j = ((d.servoLeft st).servoShown st).get f i j := by
  rw [Dev.setServo_eq, (Dev.refreshTrace_keeps ..).2 _ _ _ (by simpa [Scope.covers] using hf)]
  split
  · rfl
  · exact (Dev.eventAll_keeps ..).2 _ _ _ (by simpa [Scope.covers] using he)

theorem Dev.servoShown_keeps (st : Nat) (d : Dev) :
    Dev.keeps ⟨[], [F.GL_READY_PTP, F.TB_STATUS_SV_SUSPECT, F.TB_SERVO_DEFERRED], []⟩ (d.set F.TB_SERVO_STATE st) (d.servoShown st) := by
  have hptp : Dev.keeps ⟨[], [F.GL_READY_PTP, F.TB_STATUS_SV_SUSPECT, F.TB_SERVO_DEFERRED], []⟩ (d.set F.TB_SERVO_STATE st)
      ((d.set F.TB_SERVO_STATE st).flag F.GL_READY_PTP (st == 2)) := Dev.keeps_flag _ _ _ _ (by decide) (Dev.keeps_refl ..)
  have hsv : Dev.keeps ⟨[], [F.GL_READY_PTP, F.TB_STATUS_SV_SUSPECT, F.TB_SERVO_DEFERRED], []⟩ (d.set F.TB_SERVO_STATE st)
      (if st = 0 then ((d.set F.TB_SERVO_STATE st).flag F.GL_READY_PTP (st == 2)).flag F.TB_STATUS_SV_SUSPECT true
        else (d.set F.TB_SERVO_STATE st).flag F.GL_READY_PTP (st == 2)) :=
    Dev.keeps_ite (Dev.keeps_flag _ _ _ _ (by decide) hptp) hptp
  exact Dev.keeps_ite hsv (Dev.keeps_flag _ _ _ _ (by decide) hsv)

theorem Dev.setServo_state (st : Nat) (d : Dev) : (d.setServo st).get F.TB_SERVO_STATE = st % 16 := by
  rw [Dev.get_setServo (by decide) (by decide), (Dev.servoShown_keeps ..).2 _ _ _ (by decide)]
  exact Dev.get_set_self ..

/-- Of the conditions a state of the servo ends the holdover's only. -/
theorem Dev.setServo_cond {n : Nat} (h : n ≠ 0x14E) (st : Nat) (d : Dev) : (d.setServo st).on F.FC_COND_COND n = d.on F.FC_COND_COND n := by
  have hhold : (if d.get F.TB_SERVO_STATE = 3 ∧ st ≠ 3 then
      (d.set F.TB_HOLD_SECONDS ((d.now - d.tb.holdAt) / 500000000)).cond 0x14E false else d).on F.FC_COND_COND n = d.on F.FC_COND_COND n := by
    split
    · rw [Dev.cond_other h, Dev.on_set_other _ _ _ _ _ _ _ _ (by decide)]
    · rfl
  rw [Dev.on, Dev.get_setServo (by decide) (by decide), (Dev.servoShown_keeps ..).2 _ _ _ (by decide),
    Dev.get_set_other _ _ _ _ _ _ _ _ (by decide), ← Dev.on, Dev.servoLeft, ← hhold]
  dsimp only
  split <;> split <;> rfl

end servo

section pll
variable {d : Dev}

/-- The system PLL locked and the time base ready with it, before the servo takes its state (R331, R332). -/
def Dev.pllLocked (dev : Int) (d : Dev) : Dev :=
  let d : Dev := if !d.tb.everReady then { d with clk := { d.clk with dev := 0 }, tb := { d.tb with everReady := true } } else d
  let d : Dev := d.setI F.TB_PLL_DEV dev
  let d : Dev := ((d.flag F.TB_STATUS_PLL_LOCKED true).flag F.GL_READY_TIMEBASE true).cond 1 false
  (d.flag F.TB_STATUS_TIME_SUSPECT true).flag F.TB_STATUS_SV_SUSPECT true

theorem tbPllLock_locks {counts : List Nat} (hlen : counts.length = 4) (hin : ∀ x ∈ counts, d.pllWithin x 2 = true)
    (hun : d.on F.TB_STATUS_PLL_LOCKED = false) : ∃ dev, tbPllLock counts d = (d.pllLocked dev).setServo 0 := by
  have hall : counts.all (d.pllWithin · 2) = true := List.all_eq_true.mpr hin
  exact ⟨_, if_pos ⟨hlen, hall, by simp [hun]⟩⟩

theorem Dev.pllLocked_clk (dev : Int) (d : Dev) : (d.pllLocked dev).clk = { d.clk with dev := if d.tb.everReady then d.clk.dev else 0 } := by
  unfold Dev.pllLocked
  cases h : d.tb.everReady <;> rfl

theorem Dev.pllLocked_shows (dev : Int) (d : Dev) : (d.pllLocked dev).on F.TB_STATUS_PLL_LOCKED = true ∧
    (d.pllLocked dev).ready F.GL_READY_TIMEBASE = true ∧ (d.pllLocked dev).on F.TB_STATUS_TIME_SUSPECT = true ∧
    (d.pllLocked dev).on F.FC_COND_COND 1 = false := by
  have hlast {f : Fld} (h : f ≠ F.TB_STATUS_TIME_SUSPECT ∧ f ≠ F.TB_STATUS_SV_SUSPECT) (i : Nat) (e : Dev) :
      ((e.flag F.TB_STATUS_TIME_SUSPECT true).flag F.TB_STATUS_SV_SUSPECT true).on f i = e.on f i :=
    (Dev.on_set_other _ _ _ _ _ _ _ _ h.2).trans (Dev.on_set_other _ _ _ _ _ _ _ _ h.1)
  refine ⟨?_, ?_, ?_, ?_⟩
  · rw [Dev.pllLocked, hlast (by decide), Dev.on_of_keeps (Dev.cond_keeps ..) (by decide)]
    exact (Dev.on_set_other _ _ _ _ _ _ _ _ (by decide)).trans (Dev.on_flag_self rfl ..)
  · rw [Dev.pllLocked, Dev.ready, hlast (by decide), Dev.on_of_keeps (Dev.cond_keeps ..) (by decide)]
    exact Dev.on_flag_self rfl ..
  · exact (Dev.on_set_other _ _ _ _ _ _ _ _ (by decide)).trans (Dev.on_flag_self rfl ..)
  · rw [Dev.pllLocked, hlast (by decide)]
    exact Dev.cond_shows ..

/-- A lane PLL that has lost its lock, or had none, shows none. -/
theorem Dev.loseLpll_unlocks (p : Nat) (d : Dev) : (d.loseLpll p).on F.TB_LPLL_STAT_LOCKED p = false := by
  cases h : d.on F.TB_LPLL_STAT_LOCKED p with
  | true => exact (Dev.loseLpll_shows h).1
  | false =>
    rw [Dev.loseLpll, if_pos (by simp [h])]
    exact h

theorem Dev.loseLpll_other {p q : Nat} (hq : q ≠ p) (d : Dev) : (d.loseLpll p).on F.TB_LPLL_STAT_LOCKED q = d.on F.TB_LPLL_STAT_LOCKED q := by
  cases h : d.on F.TB_LPLL_STAT_LOCKED p with
  | true =>
    rw [Dev.loseLpll_eq h, Dev.on_of_keeps (Dev.cond_keeps ..) (by decide), Dev.on_of_keeps (Dev.lanesLost_keeps ..) (by decide), Dev.lpllLost]
    refine (Dev.on_set_other _ _ _ _ _ _ _ _ (by decide)).trans ((Dev.on_set_other _ _ _ _ _ _ _ _ (by decide)).trans ?_)
    rw [Dev.on, Dev.flag, Dev.get_set_ne _ _ _ _ _ _ _ _ (by simpa using hq), Dev.on]
  | false => rw [Dev.loseLpll, if_pos (by simp [h])]

theorem Dev.loseLplls_unlock {p : Nat} (hp : p < 8) (d : Dev) : (d.each (List.range 8) Dev.loseLpll).on F.TB_LPLL_STAT_LOCKED p = false := by
  refine Dev.each_reaches (P := fun e => e.on F.TB_LPLL_STAT_LOCKED p = false) (List.mem_range.mpr hp) (Dev.loseLpll_unlocks p) (fun q e he => ?_) d
  by_cases hq : p = q
  · subst hq
    exact Dev.loseLpll_unlocks ..
  · rwa [Dev.loseLpll_other hq]

/-- The lock of the system PLL lost, before the lane PLLs lose theirs (R331). -/
def Dev.pllGone (dev : Int) (d : Dev) : Dev :=
  let d : Dev := (((d.setI F.TB_PLL_DEV dev).flag F.TB_STATUS_PLL_LOCKED false).flag F.TB_STATUS_PLL_LOST true).flag F.GL_READY_TIMEBASE false
  let d : Dev := (d.flag F.TB_STATUS_TIME_SUSPECT true).refreshTrace
  if d.sb.params.ovEn then { d with sb := { d.sb with ovInvalid := some (d.sb.ovInvalid.getD d.now), ovRun := 0 } } else d

theorem tbPllLockLoss_within {count : Nat} (h : d.pllWithin count 16 = true) : tbPllLockLoss count d = d.setI F.TB_PLL_DEV (d.pllDev count) := by
  unfold tbPllLockLoss
  simp [h]

theorem tbPllLockLoss_beyond {count : Nat} (h : d.pllWithin count 16 = false) (hl : d.on F.TB_STATUS_PLL_LOCKED = true) :
    tbPllLockLoss count d = (((d.pllGone (d.pllDev count)).each (List.range 8) Dev.loseLpll).cond 1 true (d.pllDev count).natAbs) := by
  have hl' (dev : Int) : (d.setI F.TB_PLL_DEV dev).on F.TB_STATUS_PLL_LOCKED = true := (Dev.on_set_other _ _ _ _ _ _ _ _ (by decide)).trans hl
  exact if_pos ⟨by simp [h], hl' _⟩

theorem Dev.pllGone_shows (dev : Int) (d : Dev) : (d.pllGone dev).get F.TB_PLL_DEV = toField 16 dev ∧
    (d.pllGone dev).on F.TB_STATUS_PLL_LOCKED = false ∧ (d.pllGone dev).on F.TB_STATUS_PLL_LOST = true ∧
    (d.pllGone dev).ready F.GL_READY_TIMEBASE = false ∧ (d.pllGone dev).on F.TB_STATUS_TIME_SUSPECT = true := by
  have hreg (f : Fld) (i j : Nat) : (d.pllGone dev).get f i j = (((((((d.setI F.TB_PLL_DEV dev).flag F.TB_STATUS_PLL_LOCKED false).flag
      F.TB_STATUS_PLL_LOST true).flag F.GL_READY_TIMEBASE false)).flag F.TB_STATUS_TIME_SUSPECT true).refreshTrace).get f i j := by
    unfold Dev.pllGone
    dsimp only
    split <;> rfl
  have hother {f g : Fld} (h : g ≠ f) (b : Bool) (e : Dev) : (e.flag f b).get g = e.get g := Dev.get_set_other _ _ _ _ _ _ _ _ h
  have hself {f : Fld} (h : f.width = 1) (b : Bool) (e : Dev) : ((e.flag f b).get f == 1) = b := Dev.on_flag_self h ..
  refine ⟨?_, ?_, ?_, ?_, ?_⟩
  · rw [hreg, Dev.refreshTrace, hother (by decide), hother (by decide), hother (by decide), hother (by decide), hother (by decide)]
    exact Dev.get_setI_self ..
  · rw [Dev.on, hreg, Dev.refreshTrace, hother (by decide), hother (by decide), hother (by decide), hother (by decide), hself rfl]
  · rw [Dev.on, hreg, Dev.refreshTrace, hother (by decide), hother (by decide), hother (by decide), hself rfl]
  · rw [Dev.ready, Dev.on, hreg, Dev.refreshTrace, hother (by decide), hother (by decide), hself rfl]
  · rw [Dev.on, hreg, Dev.refreshTrace, hother (by decide), hself rfl]

theorem Dev.loseLplls_keeps (d : Dev) : Dev.keeps ⟨[.out, .cm, .fc, .host, .dma], F.TB_LPLL_STAT_LOCKED :: F.TB_LPLL_STAT_LOSSES ::
    F.TB_LPLL_STAT_LOST :: F.FC_COND_COND :: lanesLostScope.flds, []⟩ d (d.each (List.range 8) Dev.loseLpll) :=
  Dev.keeps_each _ _ (fun p e => Dev.keeps_mono (by decide +kernel) (Dev.loseLpll_keeps p e)) (Dev.keeps_refl ..)

theorem tbPllLockLoss_shows {count : Nat} (h : d.pllWithin count 16 = false) (hl : d.on F.TB_STATUS_PLL_LOCKED = true) :
    (tbPllLockLoss count d).get F.TB_PLL_DEV = toField 16 (d.pllDev count) ∧ (tbPllLockLoss count d).on F.TB_STATUS_PLL_LOCKED = false ∧
    (tbPllLockLoss count d).on F.TB_STATUS_PLL_LOST = true ∧ (tbPllLockLoss count d).ready F.GL_READY_TIMEBASE = false ∧
    (tbPllLockLoss count d).on F.TB_STATUS_TIME_SUSPECT = true ∧ (tbPllLockLoss count d).on F.FC_COND_COND 1 = true ∧
    ∀ p : Nat, p < 8 → (tbPllLockLoss count d).on F.TB_LPLL_STAT_LOCKED p = false := by
  obtain ⟨hdev, hlocked, hlost, hready, hsus⟩ := d.pllGone_shows (d.pllDev count)
  have hkeep := Dev.loseLplls_keeps (d.pllGone (d.pllDev count))
  have hcond := Dev.cond_keeps 1 true (d.pllDev count).natAbs ((d.pllGone (d.pllDev count)).each (List.range 8) Dev.loseLpll)
  rw [tbPllLockLoss_beyond h hl]
  refine ⟨?_, ?_, ?_, ?_, ?_, Dev.cond_shows .., fun p hp => ?_⟩
  · exact (hcond.2 _ _ _ (by decide)).trans ((hkeep.2 _ _ _ (by decide +kernel)).trans hdev)
  · exact (Dev.on_of_keeps hcond (by decide) ..).trans ((Dev.on_of_keeps hkeep (by decide +kernel) ..).trans hlocked)
  · exact (Dev.on_of_keeps hcond (by decide) ..).trans ((Dev.on_of_keeps hkeep (by decide +kernel) ..).trans hlost)
  · exact (Dev.on_of_keeps hcond (by decide) ..).trans ((Dev.on_of_keeps hkeep (by decide +kernel) ..).trans hready)
  · exact (Dev.on_of_keeps hcond (by decide) ..).trans ((Dev.on_of_keeps hkeep (by decide +kernel) ..).trans hsus)
  · exact (Dev.on_of_keeps hcond (by decide) ..).trans (Dev.loseLplls_unlock hp _)

end pll

section adjust
variable {d : Dev}

/-! Steps of frequency and phase (R329, R330, R338) -/

theorem freqStep_steps (hne : d.getI F.TB_FREQ_FREQ ≠ d.tb.freqWant) (hdue : d.tb.freqAt + 5000 ≤ d.now) : (freqStep d).tb.freqAt = d.now ∧
    (freqStep d).get F.TB_FREQ_FREQ = toField 32 (d.getI F.TB_FREQ_FREQ + clampI (-200000) 200000 (d.tb.freqWant - d.getI F.TB_FREQ_FREQ)) := by
  rw [freqStep]
  dsimp only
  rw [if_neg (by rintro (h | h); exacts [hne h, absurd hdue (Nat.not_le.mpr h)])]
  exact ⟨rfl, Dev.get_setI_self ..⟩

theorem phaseStep_slews (hstep : d.tb.stepPhase = 0) (hslew : 0 < d.tb.slew) (hdue : d.tb.phaseAt + slewSpacing d.tb.slewRate ≤ d.now) :
    (phaseStep d).clk = { d.clk with phase := d.clk.phase + 1 } ∧ (phaseStep d).tb.slew = d.tb.slew - 1 ∧ (phaseStep d).tb.phaseAt = d.now := by
  unfold phaseStep
  dsimp only
  rw [if_neg (not_not.mpr hstep), if_pos hslew.ne', if_neg (Nat.not_lt.mpr hdue), if_pos hslew]
  exact ⟨rfl, rfl, rfl⟩

theorem phaseStep_catchesUp (hstep : d.tb.stepPhase < 0) (hdue : d.tb.phaseAt + 64 ≤ d.now) :
    (phaseStep d).clk.phase = d.clk.phase - 1 ∧ (phaseStep d).tb.stepPhase = d.tb.stepPhase + 1 ∧
    (phaseStep d).on F.TB_ADJ_CMD_BUSY = decide (d.tb.stepPhase ≠ -1) := by
  unfold phaseStep
  dsimp only
  rw [if_pos hstep.ne, if_neg (Nat.not_lt.mpr hdue), if_neg (not_lt.mpr hstep.le)]
  refine ⟨rfl, Int.sub_neg .., (Dev.on_flag_self rfl ..).trans ?_⟩
  by_cases h : d.tb.stepPhase = -1
  · simp [h]
  · have hne : d.tb.stepPhase + 1 ≠ 0 := by omega
    simp [h, hne]

/-! Commands of TB_ADJ_CMD (R344, R345) -/

theorem Dev.adjCmd_done {x code : Nat} (hacc : d.refusal x true 0x30060 = none) (h : d.adjCheck code = 0) (f : Dev → Dev) :
    d.adjCmd x code f = f (d.set F.TB_ADJ_CMD_RESULT 0) := by
  rw [Dev.adjCmd, Dev.hostWrite_accepted _ _ _ _ hacc]
  exact if_pos h

theorem Dev.adjCmd_fails {x code : Nat} (hacc : d.refusal x true 0x30060 = none) (h : d.adjCheck code ≠ 0) (f : Dev → Dev) :
    d.adjCmd x code f = d.set F.TB_ADJ_CMD_RESULT (d.adjCheck code) := by
  rw [Dev.adjCmd, Dev.hostWrite_accepted _ _ _ _ hacc]
  exact if_neg h

/-- An edge made now is no change of the clock's corrections. -/
theorem Dev.firePending_phase (n : Nat) (b : Bool) (d : Dev) : (d.firePending n b).tb.stepPhase = d.tb.stepPhase ∧ (d.firePending n b).tb.slew = d.tb.slew := by
  unfold Dev.firePending
  dsimp only
  split
  · unfold Dev.setTio
    dsimp only
    split <;> exact ⟨rfl, rfl⟩
  · exact ⟨rfl, rfl⟩

/-- Device time after a step by `delta` in 1/64 ns, before the edges it passed over are made (R345). -/
def Dev.stepTaken (delta : Int) (d : Dev) : Dev :=
  let ticks := delta / 128
  let d : Dev := { d with clk := { d.clk with dev := (((d.clk.dev : Int) + ticks) % 9223372036854775808000000000).toNat } }
  let d : Dev := { d with
    grps := d.grps.map fun h => { h with opening := (((h.opening : Int) + ticks) % 0x1000000000000).toNat }
    tb := { d.tb with stepPhase := delta % 128, steps := ((d.now, ticks, d.get F.TB_STATUS_STEPS) :: d.tb.steps).take 4 } }
  let d : Dev := d.flag F.TB_ADJ_CMD_BUSY (delta % 128 != 0)
  let d : Dev := (d.set F.TB_STATUS_STEPS ((d.get F.TB_STATUS_STEPS + 1) % 4)).flag F.TB_STATUS_TIME_SUSPECT false
  (d.setSlew 0).refreshTrace

/-- The edges a step passes over (R350). -/
def Dev.passEdge (old : Nat) (ticks : Int) (n : Nat) (d : Dev) : Dev :=
  match (nth d.tb.tios n .init).pending with
  | some (t, _, _) => if ((t : Int) - old) % 0x1000000000000 ≤ ticks then d.firePending n true else d
  | none => d

def Dev.passEdges (old : Nat) (ticks : Int) (d : Dev) : Dev := d.each (List.range 8) (Dev.passEdge old ticks)

theorem Dev.stepTime_eq (delta : Int) (d : Dev) : d.stepTime delta =
    if 0 < delta / 128 then (d.stepTaken delta).passEdges d.ct (delta / 128) else d.stepTaken delta := rfl

theorem Dev.passEdge_keeps (old : Nat) (ticks : Int) (n : Nat) (d : Dev) : Dev.keeps ⟨[.out, .tb], [F.TB_TIO_W3_EDGES,
    F.TB_TIO_W3_LEVEL_NOW, F.TB_TIO_W3_PENDING], []⟩ d (d.passEdge old ticks n) := by
  unfold Dev.passEdge
  split
  · exact Dev.keeps_ite (Dev.firePending_keeps ..) (Dev.keeps_refl ..)
  · exact Dev.keeps_refl ..

theorem Dev.passEdge_phase (old : Nat) (ticks : Int) (n : Nat) (d : Dev) :
    (d.passEdge old ticks n).tb.stepPhase = d.tb.stepPhase ∧ (d.passEdge old ticks n).tb.slew = d.tb.slew := by
  unfold Dev.passEdge
  split
  · split
    · exact Dev.firePending_phase n true d
    · exact ⟨rfl, rfl⟩
  · exact ⟨rfl, rfl⟩

theorem Dev.passEdges_keeps (old : Nat) (ticks : Int) (d : Dev) : Dev.keeps ⟨[.out, .tb], [F.TB_TIO_W3_EDGES, F.TB_TIO_W3_LEVEL_NOW,
    F.TB_TIO_W3_PENDING], []⟩ d (d.passEdges old ticks) :=
  Dev.keeps_each _ _ (Dev.passEdge_keeps old ticks) (Dev.keeps_refl ..)

theorem Dev.passEdges_phase (old : Nat) (ticks : Int) (d : Dev) : (d.passEdges old ticks).tb.stepPhase = d.tb.stepPhase ∧
    (d.passEdges old ticks).tb.slew = d.tb.slew := by
  unfold Dev.passEdges
  exact ⟨Dev.each_leaves (π := fun e => e.tb.stepPhase) (fun n e => (Dev.passEdge_phase old ticks n e).1) (List.range 8) d,
    Dev.each_leaves (π := fun e => e.tb.slew) (fun n e => (Dev.passEdge_phase old ticks n e).2) (List.range 8) d⟩

theorem Dev.stepTaken_phase (delta : Int) (d : Dev) : (d.stepTaken delta).tb.stepPhase = delta % 128 ∧ (d.stepTaken delta).tb.slew = 0 := by
  unfold Dev.stepTaken Dev.setSlew Dev.refreshTrace
  exact ⟨rfl, rfl⟩

/-- A step leaves the clock, the corrections and the registers of the step that was taken. -/
theorem Dev.stepTime_shows (delta : Int) (d : Dev) : (d.stepTime delta).clk = (d.stepTaken delta).clk ∧ (d.stepTime delta).tb.stepPhase = delta % 128 ∧
    (d.stepTime delta).tb.slew = 0 ∧ ∀ (f : Fld) (i j : Nat), f ∉ [F.TB_TIO_W3_EDGES, F.TB_TIO_W3_LEVEL_NOW, F.TB_TIO_W3_PENDING] →
      (d.stepTime delta).get f i j = (d.stepTaken delta).get f i j := by
  obtain ⟨hstep, hslew⟩ := d.stepTaken_phase delta
  rw [Dev.stepTime_eq]
  split
  · have hkeep := Dev.passEdges_keeps d.ct (delta / 128) (d.stepTaken delta)
    obtain ⟨hpass, hpassed⟩ := Dev.passEdges_phase d.ct (delta / 128) (d.stepTaken delta)
    exact ⟨hkeep.1 .clk (by decide), hpass.trans hstep,
      hpassed.trans hslew, Dev.sameRegs_of_keeps hkeep⟩
  · exact ⟨rfl, hstep, hslew, fun _ _ _ _ => rfl⟩

theorem Dev.stepTaken_clk (delta : Int) (d : Dev) : (d.stepTaken delta).clk =
    { d.clk with dev := (((d.clk.dev : Int) + delta / 128) % 9223372036854775808000000000).toNat } := by
  unfold Dev.stepTaken Dev.setSlew Dev.refreshTrace
  rfl

theorem Dev.stepTaken_counts (delta : Int) (d : Dev) : (d.stepTaken delta).on F.TB_STATUS_TIME_SUSPECT = false ∧
    (d.stepTaken delta).get F.TB_STATUS_STEPS = (d.get F.TB_STATUS_STEPS + 1) % 4 := by
  refine ⟨?_, ?_⟩
  · rw [Dev.stepTaken, Dev.on_of_keeps (Dev.refreshTrace_keeps ..) (by decide), Dev.on_of_keeps (Dev.setSlew_keeps ..) (by decide)]
    exact Dev.on_flag_self rfl ..
  · rw [Dev.stepTaken, (Dev.refreshTrace_keeps ..).2 _ _ _ (by decide), (Dev.setSlew_keeps ..).2 _ _ _ (by decide), Dev.flag,
      Dev.get_set_other _ _ _ _ _ _ _ _ (by decide), Dev.get_set_self, Dev.flag, Dev.get_set_other _ _ _ _ _ _ _ _ (by decide)]
    exact Nat.mod_mod ..

theorem Dev.setSlew_shows (v : Int) (d : Dev) : (d.setSlew v).tb.slew = v ∧ (d.setSlew v).clk = d.clk ∧
    (d.setSlew v).on F.TB_SERVO_SLEWING = decide (v ≠ 0) := by
  refine ⟨rfl, rfl, (Dev.on_flag_self rfl ..).trans ?_⟩
  by_cases h : v = 0 <;> simp [h]

theorem Dev.askFreq_shows (v : Int) (d : Dev) : (d.askFreq v).tb.freqWant = clampI (-100000000) 100000000 v ∧
    (d.askFreq v).get F.TB_FREQ_FREQ = d.get F.TB_FREQ_FREQ ∧ (d.askFreq v).clk = d.clk :=
  ⟨rfl, (Dev.askFreq_keeps v d).2 _ _ _ (by decide), (Dev.askFreq_keeps v d).1 .clk (by decide)⟩

theorem Dev.getI_result (d : Dev) : (d.set F.TB_ADJ_CMD_RESULT 0).getI F.TB_ADJ_NS_NS = d.getI F.TB_ADJ_NS_NS :=
  congrArg (ofField 32) (Dev.get_set_other _ _ _ _ _ _ _ _ (by decide))

/-- SET and STEP by `delta`, in 1/64 ns (R345). -/
theorem Dev.stepTime_result (delta : Int) (d : Dev) :
    ((d.set F.TB_ADJ_CMD_RESULT 0).stepTime delta).on F.TB_STATUS_TIME_SUSPECT = false ∧
    ((d.set F.TB_ADJ_CMD_RESULT 0).stepTime delta).get F.TB_ADJ_CMD_RESULT = 0 ∧
    ((d.set F.TB_ADJ_CMD_RESULT 0).stepTime delta).get F.TB_STATUS_STEPS = (d.get F.TB_STATUS_STEPS + 1) % 4 := by
  obtain ⟨-, -, -, hreg⟩ := (d.set F.TB_ADJ_CMD_RESULT 0).stepTime_shows delta
  obtain ⟨hsus, hsteps⟩ := (d.set F.TB_ADJ_CMD_RESULT 0).stepTaken_counts delta
  refine ⟨?_, ?_, ?_⟩
  · rw [Dev.on, hreg _ _ _ (by decide)]
    exact hsus
  · exact ((Dev.stepTime_keeps ..).2 _ _ _ (by decide)).trans (Dev.get_set_self _ F.TB_ADJ_CMD_RESULT 0 0 0)
  · rw [hreg _ _ _ (by decide), hsteps, Dev.get_set_other _ _ _ _ _ _ _ _ (by decide)]

theorem Dev.stepTime_clk (delta : Int) (d : Dev) : (d.stepTime delta).clk.ticks = d.clk.ticks ∧
    (d.stepTime delta).clk.dev = (((d.clk.dev : Int) + delta / 128) % 9223372036854775808000000000).toNat := by
  obtain ⟨hclk, -⟩ := d.stepTime_shows delta
  rw [hclk, Dev.stepTaken_clk]
  exact ⟨rfl, rfl⟩

/-- The time a SET asks for, in whole ticks (R344). -/
def Dev.setTarget (d : Dev) : Nat := 500000000 * d.get F.TB_ADJ_SEC_SEC + d.get F.TB_ADJ_NS_NS / 2

theorem setTime_steps {x : Nat} (hacc : d.refusal x true 0x30060 = none) (h : d.adjCheck 1 = 0) :
    setTime x d = (d.set F.TB_ADJ_CMD_RESULT 0).stepTime (128 * ((d.setTarget : Int) - d.clk.dev)) := by
  have hsec : (d.set F.TB_ADJ_CMD_RESULT 0).get F.TB_ADJ_SEC_SEC = d.get F.TB_ADJ_SEC_SEC := Dev.get_set_other _ _ _ _ _ _ _ _ (by decide)
  have hns : (d.set F.TB_ADJ_CMD_RESULT 0).get F.TB_ADJ_NS_NS = d.get F.TB_ADJ_NS_NS := Dev.get_set_other _ _ _ _ _ _ _ _ (by decide)
  rw [setTime, Dev.adjCmd_done hacc h, hsec, hns]
  rfl

theorem stepNs_steps {x : Nat} (hacc : d.refusal x true 0x30060 = none) (h : d.adjCheck 2 = 0) :
    stepNs x d = (d.set F.TB_ADJ_CMD_RESULT 0).stepTime (64 * d.getI F.TB_ADJ_NS_NS) := by
  rw [stepNs, Dev.adjCmd_done hacc h, Dev.getI_result]

theorem Dev.stepTime_set (target : Nat) (d : Dev) : (d.stepTime (128 * ((target : Int) - d.clk.dev))).clk.dev =
      target % 9223372036854775808000000000 ∧ (d.stepTime (128 * ((target : Int) - d.clk.dev))).tb.stepPhase = 0 := by
  obtain ⟨-, hphase, -⟩ := d.stepTime_shows (128 * ((target : Int) - d.clk.dev))
  refine ⟨?_, hphase.trans (Int.mul_emod_right ..)⟩
  rw [(d.stepTime_clk _).2, Int.mul_ediv_cancel_left _ (by decide), add_sub_cancel]
  exact Int.toNat_natCast (target % 9223372036854775808000000000)

theorem Dev.stepTime_ns (n : Int) (d : Dev) : (d.stepTime (64 * n)).clk.dev = (((d.clk.dev : Int) + n / 2) % 9223372036854775808000000000).toNat ∧
    (d.stepTime (64 * n)).tb.stepPhase = 64 * (n % 2) := by
  obtain ⟨-, hphase, -⟩ := d.stepTime_shows (64 * n)
  have hticks : 64 * n / 128 = n / 2 := by omega
  refine ⟨?_, hphase.trans (by omega)⟩
  rw [(d.stepTime_clk _).2, hticks]

end adjust

/-- Settles O47: the PLL by its windows, each step by its remainder, each command by its checks. -/
theorem timeBase : Obligations.TimeBase := by
  refine ⟨?_, ?_⟩
  · rintro s dt d rfl hl
    refine ⟨fun counts hlen hin hun => ?_, fun count h => exec_live hl rfl (tbPllLockLoss_within h),
      fun count h hlock => ⟨tbPllLockLoss count (s.seen dt), exec_live hl rfl rfl, tbPllLockLoss_shows h hlock⟩⟩
    obtain ⟨dev, hx⟩ := tbPllLock_locks hlen hin hun
    obtain ⟨hlocked, hready, hsus, hcond⟩ := (s.seen dt).pllLocked_shows dev
    have hkeep := Dev.setServo_keeps 0 ((s.seen dt).pllLocked dev)
    have hclk := (hkeep.1 .clk (by decide)).trans (Dev.pllLocked_clk ..)
    refine ⟨_, exec_live hl rfl hx, ?_, ?_, ?_, Dev.setServo_state .., ?_, (congrArg Clock.dev hclk).trans rfl, (congrArg Clock.ticks hclk).trans rfl⟩
    · exact (Dev.on_of_keeps hkeep (by decide) ..).trans hlocked
    · exact (Dev.on_of_keeps hkeep (by decide) ..).trans hready
    · exact (Dev.on_of_keeps hkeep (by decide) ..).trans hsus
    · exact (Dev.setServo_cond (by decide) ..).trans hcond
  · rintro s dt d rfl hl
    refine ⟨fun hne hdue => ⟨freqStep (s.seen dt), exec_live hl rfl rfl, (freqStep_steps hne hdue).1, (freqStep_steps hne hdue).2,
        Dev.sameRegs_of_keeps (freqStep_keeps _)⟩,
      fun hstep hslew hdue => ?_,
      fun hstep hdue => ⟨phaseStep (s.seen dt), exec_live hl rfl rfl, phaseStep_catchesUp hstep hdue⟩,
      fun x hacc => ⟨fun h => ?_, fun h => ?_, fun h => ?_, fun h => ?_, fun i code hi hne => ?_⟩⟩
    · obtain ⟨hclk, hleft, hat⟩ := phaseStep_slews hstep hslew hdue
      exact ⟨phaseStep (s.seen dt), exec_live hl rfl rfl, by rw [hclk], hleft, hat, by rw [hclk]⟩
    · obtain ⟨hdev, hphase⟩ := ((s.seen dt).set F.TB_ADJ_CMD_RESULT 0).stepTime_set (s.seen dt).setTarget
      obtain ⟨hsus, hres, hsteps⟩ := (s.seen dt).stepTime_result (128 * (((s.seen dt).setTarget : Int) - (s.seen dt).clk.dev))
      obtain ⟨-, -, hslew, -⟩ := ((s.seen dt).set F.TB_ADJ_CMD_RESULT 0).stepTime_shows (128 * (((s.seen dt).setTarget : Int) - (s.seen dt).clk.dev))
      exact ⟨_, exec_live hl rfl (setTime_steps hacc h), hdev, hphase, hslew, hsus, hres, hsteps, (Dev.stepTime_clk ..).1⟩
    · obtain ⟨hdev, hphase⟩ := ((s.seen dt).set F.TB_ADJ_CMD_RESULT 0).stepTime_ns ((s.seen dt).getI F.TB_ADJ_NS_NS)
      obtain ⟨-, -, hslew, -⟩ := ((s.seen dt).set F.TB_ADJ_CMD_RESULT 0).stepTime_shows (64 * (s.seen dt).getI F.TB_ADJ_NS_NS)
      exact ⟨_, exec_live hl rfl (stepNs_steps hacc h), hdev, hphase, hslew⟩
    · obtain ⟨hslew, hclk, hshown⟩ := Dev.setSlew_shows ((s.seen dt).tb.slew + 64 * (s.seen dt).getI F.TB_ADJ_NS_NS) ((s.seen dt).set F.TB_ADJ_CMD_RESULT 0)
      refine ⟨_, exec_live hl rfl ((Dev.adjCmd_done hacc h _).trans ?_), hslew, hclk, hshown⟩
      rw [Dev.getI_result]
      rfl
    · obtain ⟨hwant, hfreq, hclk⟩ := Dev.askFreq_shows ((s.seen dt).getI F.TB_ADJ_NS_NS) ((s.seen dt).set F.TB_ADJ_CMD_RESULT 0)
      refine ⟨_, exec_live hl rfl ((Dev.adjCmd_done hacc h _).trans ?_), hwant, hfreq.trans (Dev.get_set_other _ _ _ _ _ _ _ _ (by decide)), hclk⟩
      rw [Dev.getI_result]
    · rcases hi with ⟨rfl, rfl⟩ | ⟨rfl, rfl⟩ | ⟨rfl, rfl⟩ | ⟨rfl, rfl⟩
      · exact exec_live hl rfl (Dev.adjCmd_fails hacc hne _)
      · exact exec_live hl rfl (Dev.adjCmd_fails hacc hne _)
      · exact exec_live hl rfl (Dev.adjCmd_fails hacc hne _)
      · exact exec_live hl rfl (Dev.adjCmd_fails hacc hne _)

end Sys2Proof.Machine
end

section
/-! PROOF. PTP messages (R334): what a message leaves of a port whose state is beyond its field. -/

namespace Sys2Proof.Machine

/-! What the reactions of a tick leave of the state of a PTP port (R387) -/

section reactions
variable {d e : Dev} {p v : Nat}

/-- The state of a PTP port is as it was, or a fence has taken it to 0. -/
def Dev.ptpKept (p v : Nat) (d : Dev) : Prop := d.get F.TB_PTP_PORT_W0_STATE p = v ∨ d.get F.TB_PTP_PORT_W0_STATE p = 0

theorem Dev.ptpKept_of_scope {S : Scope} (h : Dev.keeps S d e) (hS : S.covers F.TB_PTP_PORT_W0_STATE = false) (hd : d.ptpKept p v) :
    e.ptpKept p v := by
  rwa [Dev.ptpKept, h.2 _ _ _ hS]

theorem Dev.ptpKept_foldl {α : Type} {f : Dev → α → Dev} (hf : ∀ (d : Dev) x, d.ptpKept p v → (f d x).ptpKept p v) (l : List α)
    {d : Dev} (h : d.ptpKept p v) : (l.foldl f d).ptpKept p v := by
  induction l generalizing d with
  | nil => exact h
  | cons x l ih => exact ih (hf d x h)

/-- A fence takes a port to 0 and leaves the others. -/
theorem Dev.ptpKept_fenceUnit (h : d.ptpKept p v) (n : Nat) : (d.fenceUnit n).ptpKept p v := by
  unfold Dev.fenceUnit
  dsimp only
  split
  · exact Dev.ptpKept_of_scope (Dev.voteAll_keeps _) (by decide) (Dev.ptpKept_of_scope (Dev.fenceChannel_keeps ..) (by decide) h)
  split
  · exact Dev.ptpKept_of_scope (Dev.idleCourses_keeps ..) (by decide) (Dev.ptpKept_of_scope (Dev.modCrs_keeps ..) (by decide) h)
  split
  · exact Dev.ptpKept_of_scope (Dev.idleCourses_keeps ..) (by decide) h
  split
  · by_cases hp : p = n - 0x14F
    · exact .inr (hp ▸ Dev.get_set_self ..)
    · rwa [Dev.ptpKept, Dev.get_set_ne _ _ _ _ _ _ _ _ (by simpa using hp)]
  split
  · exact Dev.ptpKept_of_scope (Dev.modSv_keeps ..) (by decide) h
  split
  · split
    · exact Dev.ptpKept_foldl (fun d m hd => Dev.ptpKept_of_scope (Dev.giDefault_keeps m d) (by decide) hd) _
        (Dev.ptpKept_of_scope (Dev.modGoose_keeps ..) (by decide) h)
    · exact Dev.ptpKept_of_scope (Dev.modGoose_keeps ..) (by decide) h
  · exact h

theorem Dev.ptpKept_react (h : d.ptpKept p v) (code groups n : Nat) : (d.react code groups n).ptpKept p v := by
  unfold Dev.react
  dsimp only
  split
  · exact Dev.ptpKept_of_scope (Dev.safeState_keeps _) (by decide) h
  · split
    · exact Dev.ptpKept_of_scope (Dev.each_force_keeps ..) (by decide) h
    · split
      · exact Dev.ptpKept_fenceUnit h n
      · exact h

theorem Dev.ptpKept_renew (h : d.ptpKept p v) (u : Due) : (d.renew u).ptpKept p v := by
  unfold Dev.renew
  dsimp only
  split
  · exact Dev.ptpKept_react h _ _ _
  · split
    · exact Dev.ptpKept_react h _ _ _
    · exact h

theorem Dev.ptpKept_settleRound (h : d.ptpKept p v) : d.settleRound.ptpKept p v := by
  have hround (l olds : List Due) (ns : List Nat) (order : List (Nat × Nat)) {d : Dev} (h : d.ptpKept p v) :
      (olds.foldl (fun d u => d.renew u) (order.foldl (fun d p => if p.1 = 15 then d else d.react p.1 (tabD d.fc.taken p.2 0 / 16) p.2)
        ((l.foldl (fun d u => d.latchOne u) d).firstFault ns))).ptpKept p v := by
    refine Dev.ptpKept_foldl (fun d u hd => Dev.ptpKept_renew hd u) _ (Dev.ptpKept_foldl (fun d q hd => ?_) _ ?_)
    · split
      · exact hd
      · exact Dev.ptpKept_react hd _ _ _
    · refine Dev.ptpKept_of_scope (Dev.firstFault_keeps ..) (by decide) (Dev.ptpKept_foldl (fun d u hd => ?_) _ h)
      exact Dev.ptpKept_of_scope (Dev.latchOne_keeps ..) (by decide) hd
  unfold Dev.settleRound
  dsimp only
  split
  · exact Dev.ptpKept_of_scope (Dev.interrupt_keeps _) (by decide) (hround _ _ _ _ h)
  · exact hround _ _ _ _ h

theorem Dev.ptpKept_settleN (n : Nat) {d : Dev} (h : d.ptpKept p v) : (d.settleN n).ptpKept p v := by
  induction n generalizing d with
  | zero => exact h
  | succ n ih =>
    rw [Dev.settleN]
    split
    · exact h
    · exact ih (Dev.ptpKept_settleRound h)

theorem State.ptpKept_settled (s : State) (h : d.ptpKept p v) : (s.settled d).dev.ptpKept p v :=
  Dev.ptpKept_of_scope (Dev.errUpdate_keeps _) (by decide) (Dev.ptpKept_settleN 12 h)

end reactions

/-! A port whose state is none of the field's -/

/-- A device whose PTP port 0 is up and in a state beyond the four bits of its field. -/
def overfullPort : Dev :=
  let d := Dev.reset.flag F.SI_PORT_LINK true 0
  { d with bank := d.bank.insert ⟨F.TB_PTP_PORT_W0_STATE, 0, 0⟩ 17 }

/-- The device as a message finds it. -/
def overfullPortSeen : Dev := State.seen ⟨overfullPort, []⟩ 0

theorem overfullPortSeen_live : overfullPortSeen.live = true := by decide +kernel

theorem overfullPortSeen_shows : overfullPortSeen.get F.TB_PTP_PORT_W0_STATE 0 = 17 ∧ overfullPortSeen.on F.SI_PORT_LINK 0 = true ∧
    overfullPortSeen.tb.cfg.domain = 0 := by decide +kernel

/-- A Sync with no new state of the port writes the state that it had, and the field takes four bits of it. -/
theorem ptpMessageReceived_overfull : (ptpMessageReceived 0 0 0 0 0 none false none overfullPortSeen).fc.due = [] ∧
    (ptpMessageReceived 0 0 0 0 0 none false none overfullPortSeen).get F.TB_PTP_PORT_W0_STATE 0 = 1 := by decide +kernel

/-- Refutes O48: a message that gives its port no new state is to leave it in the state it had, for every state; one that holds more than the
four bits of the field does not stay. -/
theorem not_ptpAndServo : ¬ Obligations.PtpAndServo := by
  intro h
  obtain ⟨hreceived, -⟩ := h ⟨overfullPort, []⟩ 0 overfullPortSeen rfl overfullPortSeen_live
  obtain ⟨hstate, hlink, hdomain⟩ := overfullPortSeen_shows
  obtain ⟨-, htaken⟩ := hreceived 0 ⟨0, 0⟩ 0 0 none false (hstate.trans_ne (by decide)) (hstate.trans_ne (by decide)) hlink
  obtain ⟨e, hclaim, -, hkeeps, -, -⟩ := htaken (by decide) (by decide) hdomain.symm (fun _ => by decide) (fun _ => by decide) (by decide)
  have hexec := exec_live (c := .ptpMessageReceived 0 0 ⟨0, 0⟩ 0 0 none false none) (s := ⟨overfullPort, []⟩) overfullPortSeen_live rfl rfl
  have hsame := congrArg (fun t : State => t.dev.get F.TB_PTP_PORT_W0_STATE 0) (Host.Outcome.next.inj (hclaim.symm.trans hexec))
  have hkept : e.get F.TB_PTP_PORT_W0_STATE 0 = 17 := (hkeeps (.inr (by decide))).trans hstate
  obtain ⟨hquiet, hone⟩ := ptpMessageReceived_overfull
  have hleft : (State.settled ⟨overfullPort, []⟩ (ptpMessageReceived 0 0 0 0 0 none false none overfullPortSeen)).dev.get
      F.TB_PTP_PORT_W0_STATE 0 = 1 := by
    rw [State.settled, Dev.settleN_quiet _ _ hquiet, (Dev.errUpdate_keeps _).2 _ _ _ (by decide), hone]
  have hafter := State.ptpKept_settled ⟨overfullPort, []⟩ (.inl hkept : e.ptpKept 0 17)
  rw [Dev.ptpKept, hsame.trans hleft] at hafter
  exact absurd hafter (by decide)

end Sys2Proof.Machine
end

section
/-! PROOF. PPS_OUT (R351): what the edge of a second marks. -/

namespace Sys2Proof.Machine

/-- The reactions of a tick are no change of the time base. -/
theorem State.settled_tb (s : State) (e : Dev) : (s.settled e).dev.tb = e.tb :=
  ((Dev.errUpdate_keeps _).1 .tb (by decide)).trans ((Dev.settleN_keeps 12 e).1 .tb (by decide))

/-- A device two seconds after its time was set, whose marked seconds hold a span that ends before it begins. -/
def emptySpan : Dev :=
  { Dev.reset with
    clk := { Dev.reset.clk with dev := 1000000000 }
    tb := { Dev.reset.tb with everReady := true, ppsSeen := [(5, 1)] } }

/-- The device as the edge finds it. -/
def emptySpanSeen : Dev := State.seen ⟨emptySpan, []⟩ 0

theorem emptySpanSeen_live : emptySpanSeen.live = true := by decide +kernel

theorem emptySpanSeen_shows : emptySpanSeen.tb.everReady = true ∧ emptySpanSeen.tb.ppsSeen = [(5, 1)] ∧ emptySpanSeen.sec = 2 := by decide +kernel

/-- The edge of second 2 extends that span to it, and the span still holds no second. -/
theorem ppsEdge_emptySpan : (ppsEdge emptySpanSeen).tb.ppsSeen = [(5, 2)] := by decide +kernel

/-- Refutes O49: PPS_OUT is to have marked the second of its edge afterwards, for every state; beside a marked span that ends one before that
second, but begins after it, no second is marked. -/
theorem not_stampsAndOutputs : ¬ Obligations.StampsAndOutputs := by
  intro h
  obtain ⟨hready, hspan, hsec⟩ := emptySpanSeen_shows
  obtain ⟨-, -, -, -, -, -, -, -, hpps⟩ := h ⟨emptySpan, []⟩ 0 emptySpanSeen rfl emptySpanSeen_live
  obtain ⟨hmarks, -⟩ := hpps hready
  obtain ⟨e, hclaim, -, hmarked, -⟩ := hmarks (by rw [hspan, hsec]; decide)
  have hexec := exec_live (c := .ppsEdge 0) (s := ⟨emptySpan, []⟩) emptySpanSeen_live rfl rfl
  have hsame := congrArg (fun t : State => t.dev.tb) (Host.Outcome.next.inj (hclaim.symm.trans hexec))
  have htb : e.tb = (ppsEdge emptySpanSeen).tb := (State.settled_tb _ e).symm.trans (hsame.trans (State.settled_tb ..))
  have htwo := hmarked 2
  rw [htb, ppsEdge_emptySpan, hspan, hsec] at htwo
  exact absurd htwo (by decide)

end Sys2Proof.Machine
end

section
/-! PROOF. The triplex after a change of a channel's state (R363 to R365). -/

namespace Sys2Proof.Machine

/-! The triplex after a change of a channel's state (R363 to R365) -/

section triplex
variable {d : Dev}

/-- Whether the triplex machine is ready or becomes so, and the state it takes (R363, R365). -/
def Dev.nextReady (d : Dev) : Bool := d.tp.everReady || decide (2 ≤ d.serving.length)
def Dev.nextTriplex (d : Dev) : Nat :=
  if !d.nextReady then 0 else if d.triplex = 4 then 4 else if d.serving.length = 3 then 1 else if d.serving.length = 2 then 2
    else if d.serving.length = 1 then 3 else 4

/-- TP_STATE as it shows a state. -/
def Dev.triplexRegs (st : Nat) (ready : Bool) (d : Dev) : Dev :=
  let d : Dev := { d with tp := { d.tp with everReady := ready } }
  let d : Dev := d.set F.TP_STATE_STATE st
  let d : Dev := d.set F.TP_STATE_IN_SERVICE (sumN (d.serving.map (2 ^ ·)))
  let d : Dev := d.set F.TP_STATE_FENCED (sumN ((List.range 3).map fun c => 2 ^ c * bit (d.chState c == 2 || d.chState c == 6)))
  let d : Dev := d.set F.TP_STATE_RESYNC (((d.tp.resync.map (·.ch)).getD 3))
  d.set F.TP_STATE_DONOR ((((d.tp.resync.bind (·.donor)))).getD 3)

/-- GL_READY.TRIPLEX in a state. -/
def Dev.triplexReady (st : Nat) (d : Dev) : Dev :=
  if st = 1 ∨ st = 2 then d.flag F.GL_READY_TRIPLEX true else if st = 4 then d.flag F.GL_READY_TRIPLEX false else d

/-- The simplex timer at the entry to a state. -/
def Dev.simplexTimed (st old : Nat) (d : Dev) : Dev :=
  if st = 3 ∧ old ≠ 3 then { d with tp := { d.tp with simplexAt := d.now, simplexDone := false } } else d

/-- The conditions of SIMPLEX and NONE. -/
def Dev.triplexConds (st : Nat) (d : Dev) : Dev :=
  let d : Dev := d.cond 0x29 (st == 3)
  let d : Dev := if st ≠ 3 then (d.cond 0x2A false).set F.TP_STATE_SIMPLEX_MS 0 else d
  d.cond 0x2B (st == 4)

/-- Everything that shows a state of the triplex, from the state before. -/
def Dev.triplexShown (st old : Nat) (ready : Bool) (d : Dev) : Dev :=
  (((d.triplexRegs st ready).triplexReady st).simplexTimed st old).triplexConds st

theorem Dev.refreshTriplex_eq (d : Dev) : d.refreshTriplex =
    (if d.nextTriplex = 4 then d.abandonProof else d).triplexShown d.nextTriplex d.triplex d.nextReady := rfl

theorem Dev.triplexConds_keeps (st : Nat) (d : Dev) : Dev.keeps ⟨[.fc], [F.FC_COND_COND, F.TP_STATE_SIMPLEX_MS], []⟩ d (d.triplexConds st) :=
  Dev.keeps_step (by decide) (Dev.cond_keeps ..) (Dev.keeps_ite
    (Dev.keeps_set _ _ _ _ (by decide) (Dev.keeps_step (by decide) (Dev.cond_keeps ..) (Dev.keeps_mono (by decide) (Dev.cond_keeps ..))))
    (Dev.keeps_mono (by decide) (Dev.cond_keeps ..)))

theorem Dev.simplexTimed_keeps (st old : Nat) (d : Dev) : Dev.keeps ⟨[.tp], [], []⟩ d (d.simplexTimed st old) :=
  Dev.keeps_ite (Dev.keeps_tp _ (by decide) (Dev.keeps_refl ..)) (Dev.keeps_refl ..)

theorem Dev.triplexReady_keeps (st : Nat) (d : Dev) : Dev.keeps ⟨[], [F.GL_READY_TRIPLEX], []⟩ d (d.triplexReady st) :=
  Dev.keeps_ite (Dev.keeps_flag _ _ _ _ (by decide) (Dev.keeps_refl ..)) (Dev.keeps_ite (Dev.keeps_flag _ _ _ _ (by decide) (Dev.keeps_refl ..))
    (Dev.keeps_refl ..))

theorem Dev.triplexRegs_keeps (st : Nat) (ready : Bool) (d : Dev) : Dev.keeps ⟨[.tp], [F.TP_STATE_STATE, F.TP_STATE_IN_SERVICE, F.TP_STATE_FENCED,
    F.TP_STATE_RESYNC, F.TP_STATE_DONOR], []⟩ d (d.triplexRegs st ready) :=
  Dev.keeps_set _ _ _ _ (by decide) (Dev.keeps_set _ _ _ _ (by decide) (Dev.keeps_set _ _ _ _ (by decide) (Dev.keeps_set _ _ _ _ (by decide)
    (Dev.keeps_set _ _ _ _ (by decide) (Dev.keeps_tp _ (by decide) (Dev.keeps_refl ..))))))

/-- The fields that show a state of the triplex. -/
def triplexFlds : List Fld := [F.FC_COND_COND, F.TP_STATE_SIMPLEX_MS, F.GL_READY_TRIPLEX, F.TP_STATE_STATE, F.TP_STATE_IN_SERVICE,
  F.TP_STATE_FENCED, F.TP_STATE_RESYNC, F.TP_STATE_DONOR]

theorem Dev.triplexShown_keeps (st old : Nat) (ready : Bool) (d : Dev) : Dev.keeps ⟨[.fc, .tp], triplexFlds, []⟩ d (d.triplexShown st old ready) :=
  Dev.keeps_step (by decide) (Dev.triplexConds_keeps ..) (Dev.keeps_step (by decide) (Dev.simplexTimed_keeps ..)
    (Dev.keeps_step (by decide) (Dev.triplexReady_keeps ..) (Dev.keeps_mono (by decide) (Dev.triplexRegs_keeps ..))))

/-- What a state of the triplex changes besides its registers: whether it is ready, and the simplex timer. -/
theorem Dev.triplexShown_tp (st old : Nat) (ready : Bool) (d : Dev) :
    ∃ t done, (d.triplexShown st old ready).tp = { d.tp with everReady := ready, simplexAt := t, simplexDone := done } := by
  have htp : ((d.triplexRegs st ready).triplexReady st).tp = { d.tp with everReady := ready } := (Dev.triplexReady_keeps ..).1 .tp (by decide)
  rw [Dev.triplexShown, show ∀ e : Dev, (e.triplexConds st).tp = e.tp from fun e => (Dev.triplexConds_keeps st e).1 .tp (by decide), Dev.simplexTimed]
  split
  · exact ⟨_, _, by rw [htp]⟩
  · exact ⟨_, _, htp⟩

theorem Dev.triplexShown_state (st old : Nat) (ready : Bool) (d : Dev) : (d.triplexShown st old ready).triplex = st % 16 := by
  rw [Dev.triplex, Dev.triplexShown, (Dev.triplexConds_keeps ..).2 _ _ _ (by decide), (Dev.simplexTimed_keeps ..).2 _ _ _ (by decide),
    (Dev.triplexReady_keeps ..).2 _ _ _ (by decide), Dev.triplexRegs,
    Dev.get_set_other _ _ _ _ _ _ _ _ (by decide), Dev.get_set_other _ _ _ _ _ _ _ _ (by decide), Dev.get_set_other _ _ _ _ _ _ _ _ (by decide),
    Dev.get_set_other _ _ _ _ _ _ _ _ (by decide)]
  exact Dev.get_set_self ..

/-- TRIPLEX and DUPLEX are ready. -/
theorem Dev.triplexShown_ready {st : Nat} (h : st = 1 ∨ st = 2) (old : Nat) (ready : Bool) (d : Dev) :
    (d.triplexShown st old ready).ready F.GL_READY_TRIPLEX = true := by
  rw [Dev.triplexShown, Dev.ready, Dev.on_of_keeps (Dev.triplexConds_keeps ..) (by decide), Dev.on_of_keeps (Dev.simplexTimed_keeps ..) (by decide),
    Dev.triplexReady, if_pos h]
  exact Dev.on_flag_self rfl ..

/-- A run that is abandoned. -/
theorem Dev.abandonProof_shows (h : d.tp.proofStart.isSome = true) : d.abandonProof.get F.TP_PROOF_STATE = 2 ∧
    d.abandonProof.get F.TP_PROOF_RESULT = 3 ∧ d.abandonProof.tp = { d.tp with proofStart := none, proofAt := d.now } := by
  have hsome : d.tp.proofStart.isNone = false := by simpa [Option.isNone_eq_false_iff] using h
  rw [Dev.abandonProof, if_neg (by simp [hsome])]
  refine ⟨?_, Dev.get_set_self .., rfl⟩
  exact (Dev.get_set_other _ _ _ _ _ _ _ _ (by decide)).trans ((Dev.get_set_other _ _ _ _ _ _ _ _ (by decide)).trans (Dev.get_set_self ..))

theorem Dev.abandonProof_idle (h : d.tp.proofStart = none) : d.abandonProof = d := by
  rw [Dev.abandonProof, if_pos (by rw [h]; rfl)]

/-- What a look at the channels' states changes: readiness, the simplex timer, and the proof run in NONE. -/
theorem Dev.refreshTriplex_tp (d : Dev) : ∃ ready t done start at', d.refreshTriplex.tp =
    { d.tp with everReady := ready, simplexAt := t, simplexDone := done, proofStart := start, proofAt := at' } := by
  have habandon : ∃ start at', (if d.nextTriplex = 4 then d.abandonProof else d).tp = { d.tp with proofStart := start, proofAt := at' } := by
    split
    · cases h : d.tp.proofStart with
      | none => exact ⟨none, d.tp.proofAt, by rw [Dev.abandonProof_idle h, ← h]⟩
      | some t => exact ⟨_, _, (Dev.abandonProof_shows (by rw [h]; rfl)).2.2⟩
    · exact ⟨_, _, rfl⟩
  obtain ⟨start, at', hstart⟩ := habandon
  obtain ⟨t, done, hshown⟩ := Dev.triplexShown_tp d.nextTriplex d.triplex d.nextReady (if d.nextTriplex = 4 then d.abandonProof else d)
  rw [← Dev.refreshTriplex_eq, hstart] at hshown
  exact ⟨_, t, done, start, at', hshown⟩

/-- With no proof run going on a look at the channels' states shows the triplex and nothing else. -/
theorem Dev.refreshTriplex_idle (h : d.tp.proofStart = none) : d.refreshTriplex = d.triplexShown d.nextTriplex d.triplex d.nextReady := by
  rw [Dev.refreshTriplex_eq, Dev.abandonProof_idle h, ite_self]

theorem Dev.refreshTriplex_state (d : Dev) : d.refreshTriplex.triplex = d.nextTriplex := by
  have hst : d.nextTriplex % 16 = d.nextTriplex := by
    unfold Dev.nextTriplex
    repeat' split
    all_goals rfl
  rw [Dev.refreshTriplex_eq, Dev.triplexShown_state, hst]

end triplex

end Sys2Proof.Machine
end

section
/-! PROOF. What fences, resynchronisations and votes carry through (R352 to R374). -/

namespace Sys2Proof.Machine

/-! What fences, resynchronisations and votes carry through: what has left the device, the heartbeats of the period, and a proof run that does
not go on -/

/-- The heartbeat period and the pins of the heartbeats, and the proof run. -/
def TpSt.running (t : TpSt) : Nat × List Bool × Option Nat × Nat := (t.period, t.hbPin, t.proofStart, t.proofAt)

/-- The registers that show a proof run. -/
def proofFlds : List Fld := [F.TP_PROOF_STATE, F.TP_PROOF_STEP, F.TP_PROOF_RESULT, F.TP_PROOF_FAILED]

/-- A change that takes back nothing that left, touches neither the heartbeat period nor the pins, and no proof run where none goes on. -/
structure Dev.Carries (d e : Dev) : Prop where
  out : d.out ⊆ e.out
  period : e.tp.period = d.tp.period
  pins : e.tp.hbPin = d.tp.hbPin
  proof : d.tp.proofStart = none → e.tp.proofStart = none ∧ e.tp.proofAt = d.tp.proofAt ∧ ∀ f ∈ proofFlds, e.get f = d.get f

section carries
variable {d e : Dev}

theorem Dev.Carries.refl (d : Dev) : d.Carries d := ⟨List.Subset.refl _, rfl, rfl, fun h => ⟨h, rfl, fun _ _ => rfl⟩⟩

theorem Dev.Carries.trans {c : Dev} (h : c.Carries d) (k : d.Carries e) : c.Carries e := by
  refine ⟨List.Subset.trans h.out k.out, k.period.trans h.period, k.pins.trans h.pins, fun hnone => ?_⟩
  obtain ⟨hstart, hat, hget⟩ := h.proof hnone
  obtain ⟨hstart', hat', hget'⟩ := k.proof hstart
  exact ⟨hstart', hat'.trans hat, fun f hf => (hget' f hf).trans (hget f hf)⟩

theorem Dev.Carries.foldl {α : Type} {f : Dev → α → Dev} (h : ∀ (d : Dev) x, d.Carries (f d x)) (l : List α) (d : Dev) : d.Carries (l.foldl f d) := by
  induction l generalizing d with
  | nil => exact .refl d
  | cons x l ih => exact (h d x).trans (ih _)

theorem Dev.Carries.each {f : Nat → Dev → Dev} (h : ∀ n (d : Dev), d.Carries (f n d)) (l : List Nat) (d : Dev) : d.Carries (d.each l f) :=
  .foldl (fun d n => h n d) l d

theorem Dev.Carries.of_scope {S : Scope} (h : Dev.keeps S d e) (hf : ∀ f ∈ proofFlds, S.covers f = false) (hout : d.out ⊆ e.out)
    (htp : e.tp.running = d.tp.running) : d.Carries e := by
  simp only [TpSt.running, Prod.mk.injEq] at htp
  obtain ⟨hperiod, hpin, hstart, hat⟩ := htp
  exact ⟨hout, hperiod, hpin, fun hnone => ⟨hstart.trans hnone, hat, fun f hmem => h.2 f 0 0 (hf f hmem)⟩⟩

/-- A change whose scope names neither what left nor the triplex. -/
theorem Dev.Carries.of_quiet {S : Scope} (h : Dev.keeps S d e) (hf : ∀ f ∈ proofFlds, S.covers f = false) (hout : Part.out ∉ S.parts)
    (htp : Part.tp ∉ S.parts) : d.Carries e := by
  have hsame : e.out = d.out := h.1 .out hout
  have hrun : e.tp = d.tp := h.1 .tp htp
  exact .of_scope h hf (hsame ▸ List.Subset.refl _) (by rw [hrun])

/-! A channel takes a state -/

theorem Dev.carries_refreshTriplex (d : Dev) : d.Carries d.refreshTriplex := by
  obtain ⟨ready, t, done, start, at', htp⟩ := d.refreshTriplex_tp
  have hout : d.refreshTriplex.out = d.out := (Dev.refreshTriplex_keeps d).1 .out (by decide)
  refine ⟨hout ▸ List.Subset.refl _, by rw [htp], by rw [htp], fun hnone => ?_⟩
  obtain ⟨t, done, hshown⟩ := Dev.triplexShown_tp d.nextTriplex d.triplex d.nextReady d
  rw [Dev.refreshTriplex_idle hnone]
  exact ⟨by rw [hshown, hnone], by rw [hshown], fun f hf => (Dev.triplexShown_keeps ..).2 f 0 0 (by revert f; decide)⟩

theorem Dev.carries_set (f : Fld) (hf : ∀ g ∈ proofFlds, g ≠ f) (v i j : Nat) (d : Dev) : d.Carries (d.set f v i j) :=
  ⟨List.Subset.refl _, rfl, rfl, fun hnone => ⟨hnone, rfl, fun g hg => Dev.get_set_other _ _ _ _ _ _ _ _ (hf g hg)⟩⟩

theorem Dev.carries_count (f : Fld) (hf : ∀ g ∈ proofFlds, g ≠ f) (i j : Nat) (d : Dev) : d.Carries (d.count f i j) := Dev.carries_set f hf ..

/-- A change of the resynchronisation in progress, of the channels or of the faults raised. -/
theorem Dev.Carries.of_eq {d e : Dev} (hout : e.out = d.out := by rfl) (htp : e.tp.running = d.tp.running := by rfl) (hbank : e.bank = d.bank := by rfl) :
    d.Carries e := by
  simp only [TpSt.running, Prod.mk.injEq] at htp
  obtain ⟨hperiod, hpin, hstart, hat⟩ := htp
  exact ⟨hout ▸ List.Subset.refl _, hperiod, hpin, fun hnone => ⟨hstart.trans hnone, hat, fun f _ => by rw [Dev.get, hbank, Dev.get]⟩⟩

theorem Dev.carries_refreshBusy (d : Dev) : d.Carries d.refreshBusy := Dev.carries_set _ (by decide) ..

theorem Dev.carries_setCh (ch st : Nat) (d : Dev) : d.Carries (d.setCh ch st) :=
  ((Dev.carries_set F.TP_CH_STATE (by decide) st ch 0 d).trans (Dev.carries_refreshTriplex _)).trans (Dev.carries_refreshBusy _)

theorem Dev.carries_startResync (ch : Nat) (d : Dev) : d.Carries (d.startResync ch) :=
  .trans (.of_eq (e := ({ d with tp := { d.tp with resync := some ⟨ch, d.now, false, none, [], 0, []⟩ } } : Dev).modChan ch fun _ => .init))
    ((Dev.carries_set F.TP_CH_SHADOW (by decide) ..).trans (Dev.carries_setCh ..))

theorem Dev.carries_autoResync (d : Dev) : d.Carries d.autoResync := by
  unfold Dev.autoResync
  split
  · split
    · exact Dev.carries_startResync ..
    · exact .refl d
  · exact .refl d

theorem Dev.carries_backToRepair (d : Dev) : d.Carries d.backToRepair := by
  unfold Dev.backToRepair
  split
  · exact .refl d
  · next r _ =>
    exact .trans (.of_eq (e := ({ d with tp := { d.tp with resync := some { r with selfTested := false, donor := none, left := [], shadow := [] } } } :
      Dev).modChan r.ch fun _ => .init)) ((Dev.carries_set F.TP_CH_SHADOW (by decide) ..).trans (Dev.carries_setCh ..))

theorem Dev.carries_enterService (ch : Nat) (d : Dev) : d.Carries (d.enterService ch) := by
  unfold Dev.enterService
  split
  · exact .refl d
  · refine .trans ?_ ((Dev.carries_setCh ..).trans (Dev.carries_autoResync _))
    split
    · exact .of_eq
    · exact .refl d

/-! Fences -/

theorem Dev.cutChannel_running (cause ch : Nat) (d : Dev) : (d.cutChannel cause ch).tp.running = d.tp.running := by
  have heach (e : Dev) : (e.each (List.range 12) fun t d => (d.set F.PL_SLACK_WMIN 0x8000 t ch).set F.PL_SLACK_LAST 0x8000 t ch).tp = e.tp := by
    have hkeep : Dev.keeps ⟨[], [F.PL_SLACK_WMIN, F.PL_SLACK_LAST], []⟩ e
        (e.each (List.range 12) fun t d => (d.set F.PL_SLACK_WMIN 0x8000 t ch).set F.PL_SLACK_LAST 0x8000 t ch) :=
      Dev.keeps_each _ _ (fun t e => Dev.keeps_set _ _ _ _ (by decide) (Dev.keeps_set _ _ _ _ (by decide) (Dev.keeps_refl ..))) (Dev.keeps_refl ..)
    exact hkeep.1 .tp (by decide)
  have hkept : (d.setKept F.TP_CH_FENCES (satInc 15 (d.get F.TP_CH_FENCES ch)) ch).tp = d.tp :=
    (Dev.setKept_keeps (S := ⟨[.store], [F.MO_JOURNAL_FILL, F.MO_JOURNAL_PENDING, F.TP_CH_FENCES], []⟩) (by decide) _ _ _ _ (by decide)
      (Dev.keeps_refl ..)).1 .tp (by decide)
  unfold Dev.cutChannel
  dsimp only
  rw [show ∀ (e : Dev) v, ((e.raise (0x10 + ch) cause).set F.TP_CH_STATE v ch).tp = e.tp from fun _ _ => rfl, heach]
  split
  · rfl
  · have hrun : (d.setKept F.TP_CH_FENCES (satInc 15 (d.get F.TP_CH_FENCES ch)) ch).tp.running = d.tp.running := by rw [hkept]
    exact hrun

theorem Dev.carries_cutChannel (cause ch : Nat) (d : Dev) : d.Carries (d.cutChannel cause ch) :=
  have hout : (d.cutChannel cause ch).out = d.out := (Dev.cutChannel_keeps cause ch d).1 .out (by decide)
  .of_scope (Dev.cutChannel_keeps ..) (by decide) (hout ▸ List.Subset.refl _) (Dev.cutChannel_running ..)

theorem Dev.carries_cutAll (l : List Nat) (cause : Nat) (d : Dev) : d.Carries (d.cutAll l cause) := by
  refine (Dev.Carries.foldl (fun d ch => Dev.carries_cutChannel cause ch d) l d).trans ?_
  refine .trans ?_ ((Dev.carries_refreshTriplex _).trans (Dev.carries_refreshBusy _))
  split
  · exact .of_eq
  · exact .refl _

theorem Dev.carries_fenceAll (l : List Nat) (cause : Nat) (d : Dev) : d.Carries (d.fenceAll l cause) := by
  rcases d.fenceAll_cases l cause with ⟨heq, -⟩ | heq | heq
  · rw [heq]
    exact .refl d
  · exact heq ▸ (Dev.carries_cutAll ..).trans (Dev.carries_autoResync _)
  · exact heq ▸ ((Dev.carries_cutAll ..).trans (Dev.carries_backToRepair _)).trans (Dev.carries_autoResync _)

theorem Dev.carries_fenceChannel (ch cause : Nat) (d : Dev) : d.Carries (d.fenceChannel ch cause) := Dev.carries_fenceAll ..

/-! Votes -/

theorem Dev.carries_noAgreement (t : Nat) (d : Dev) : d.Carries (d.noAgreement t) := by
  unfold Dev.noAgreement
  split
  · exact .refl d
  · exact .of_eq

theorem Dev.carries_judgeDigests (t : Nat) (final : Bool) (d : Dev) : d.Carries (d.judgeDigests t final) := by
  unfold Dev.judgeDigests
  dsimp only
  split
  · exact .refl d
  · split
    · split
      · exact .foldl (fun d x => (Dev.carries_fenceChannel ..).trans .of_eq) _ d
      · split
        · exact Dev.carries_noAgreement t d
        · exact .refl d
    · split
      · split
        · split
          · exact Dev.carries_noAgreement t d
          · exact .refl d
        · exact .refl d
      · exact .refl d

theorem Dev.carries_send (c e : Nat) (f : Frame) (d : Dev) : d.Carries (d.send c e f) := by
  have htp : (d.send c e f).tp = d.tp := (Dev.send_keeps c e f d).1 .tp (by decide)
  exact .of_scope (Dev.send_keeps ..) (by decide) (d.goesOn_send c e f).out (by rw [htp])

theorem Dev.carries_sendBoth (c : Nat) (f : Frame) (d : Dev) : d.Carries (d.sendBoth c f) := (Dev.carries_send ..).trans (Dev.carries_send ..)

theorem Dev.carries_release (t : Nat) (s : FrameSet) (d : Dev) : d.Carries (d.release t s) := by
  refine .trans (.trans (.trans (.trans (.of_eq (e := d.modVote t fun v => { v with released := some s })) (Dev.carries_set F.PL_STATUS_CONSEC (by decide) 0 t 0 _))
    (.foldl (fun d p => ?_) _ _)) (.foldl (fun d p => ?_) _ _)) (.each (fun c d => .of_eq) _ _)
  · split
    · exact .refl d
    · exact Dev.carries_sendBoth ..
  · split
    · exact .of_eq
    · exact .refl d

theorem Dev.carries_oddOne (ch : Nat) (d : Dev) : d.Carries (d.oddOne ch) := by
  unfold Dev.oddOne
  split
  · exact ((Dev.carries_count F.TP_VOTE_MINORITY (by decide) ..).trans (Dev.carries_count F.TP_CH_STRIKES (by decide) ..)).trans
      (Dev.carries_fenceChannel ..)
  · split
    · exact Dev.carries_fenceChannel ..
    · exact .refl d

theorem Dev.carries_voteTile (t : Nat) (d : Dev) : d.Carries (d.voteTile t) := by
  have hreleased : d.Carries (d.voteReleased t) := by
    unfold Dev.voteReleased
    split
    · split
      · exact Dev.carries_release ..
      · exact .refl d
    · exact .refl d
  rw [Dev.voteTile_eq]
  split
  · exact hreleased
  · exact hreleased.trans (.each Dev.carries_oddOne _ _)

/-- One look at a tile, and at every tile. -/
def Dev.voteOne (d : Dev) (p : Nat × TileCfg) : Dev := (d.judgeDigests p.1 false).voteTile p.1
def Dev.voteRound (d : Dev) : Dev := d.busyTiles.foldl Dev.voteOne d

theorem Dev.voteAll_eq (d : Dev) : d.voteAll = (List.range 4).foldl (fun d _ => d.voteRound) d := rfl

theorem Dev.carries_voteOne (d : Dev) (p : Nat × TileCfg) : d.Carries (d.voteOne p) :=
  (Dev.carries_judgeDigests p.1 false d).trans (Dev.carries_voteTile p.1 _)

theorem Dev.carries_voteRound (d : Dev) : d.Carries d.voteRound := by
  unfold Dev.voteRound
  exact .foldl Dev.carries_voteOne d.busyTiles d

theorem Dev.carries_voteAll (d : Dev) : d.Carries d.voteAll := by
  rw [Dev.voteAll_eq]
  exact .foldl (fun d _ => Dev.carries_voteRound d) (List.range 4) d

end carries

end Sys2Proof.Machine
end

section
/-! PROOF. The proof run, TP_CMD and TP_CFG (R364, R366, R372, R374). -/

namespace Sys2Proof.Machine

section channelStates
variable {d : Dev} {ch : Nat}

/-- A channel takes its state; the others keep theirs. -/
theorem Dev.chState_setCh_self (ch st : Nat) (d : Dev) : (d.setCh ch st).chState ch = st % 16 := by
  rw [Dev.chState_setCh, Dev.chState_set_self]

theorem Dev.setCh_resync (ch st : Nat) (d : Dev) : (d.setCh ch st).tp.resync = d.tp.resync := by
  obtain ⟨ready, t, done, start, at', htp⟩ := (d.set F.TP_CH_STATE st ch).refreshTriplex_tp
  rw [Dev.setCh, show ∀ e : Dev, e.refreshBusy.tp = e.tp from fun _ => rfl, htp]
  rfl

/-- BUSY is a resynchronisation or a proof run (R374). -/
theorem Dev.refreshBusy_shows (d : Dev) : d.refreshBusy.on F.TP_CMD_BUSY = (d.tp.resync.isSome || d.tp.proofStart.isSome) := Dev.on_flag_self rfl ..

theorem Dev.startResync_shows (ch : Nat) (d : Dev) : (d.startResync ch).chState ch = 3 ∧ (d.startResync ch).tp.resync.map (·.ch) = some ch ∧
    (d.startResync ch).on F.TP_CMD_BUSY = true := by
  have hresync : (d.startResync ch).tp.resync.map (·.ch) = some ch := by
    rw [Dev.startResync, Dev.setCh_resync]
    rfl
  refine ⟨Dev.chState_setCh_self .., hresync, ?_⟩
  rw [Dev.startResync, Dev.setCh, Dev.refreshBusy_shows]
  rw [Dev.startResync, Dev.setCh, show ∀ e : Dev, e.refreshBusy.tp = e.tp from fun _ => rfl] at hresync
  rw [Bool.or_eq_true]
  exact .inl (by rw [← Option.isSome_map, hresync]; rfl)

/-- A FENCED channel stays FENCED, or starts its resynchronisation by itself. -/
theorem Dev.autoResync_fenced (h : d.chState ch = 2) : d.autoResync.chState ch = 2 ∨ d.autoResync.chState ch = 3 := by
  unfold Dev.autoResync
  split
  · split
    · next c _ =>
      by_cases hc : c = ch
      · exact .inr (hc ▸ (Dev.startResync_shows ..).1)
      · refine .inl (.trans ?_ h)
        rw [Dev.startResync, Dev.chState_setCh, Dev.chState_set_ne hc]
        exact Dev.chState_of_scope (S := ⟨[.tp, .chans], [F.TP_CH_SHADOW], []⟩) (Dev.keeps_set _ _ _ _ (by decide)
          (Dev.keeps_chans _ (by decide) (Dev.keeps_tp _ (by decide) (Dev.keeps_refl _ d)))) (by decide) ch
    · exact .inl h
  · exact .inl h

end channelStates

section proofRun
variable {d : Dev}

/-- A proof run starts (R372). -/
theorem Dev.startProof_shows (d : Dev) : d.startProof.get F.TP_PROOF_STATE = 1 ∧ d.startProof.get F.TP_PROOF_FAILED = 0 ∧
    d.startProof.tp.proofStart = some d.now ∧ d.startProof.on F.TP_CMD_BUSY = true := by
  have hbusy {f : Fld} (h : f ≠ F.TP_CMD_BUSY) (e : Dev) : e.refreshBusy.get f = e.get f := Dev.get_set_other _ _ _ _ _ _ _ _ h
  refine ⟨?_, ?_, rfl, (Dev.refreshBusy_shows _).trans (Bool.or_true _)⟩
  · rw [Dev.startProof, hbusy (by decide), Dev.get_set_other _ _ _ _ _ _ _ _ (by decide), Dev.get_set_other _ _ _ _ _ _ _ _ (by decide),
      Dev.get_set_self]
    rfl
  · rw [Dev.startProof, hbusy (by decide), Dev.get_set_self]
    rfl

/-- The channels that run the proof, and those whose digests fail on some tile. -/
def Dev.proofRan (d : Dev) : List Nat := (List.range 3).filter fun ch => d.inService ch || d.chState ch == 5
def Dev.proofBad (m : Nat) (d : Dev) : List Nat := d.proofRan.filter fun ch => !testBit m ch

/-- A run that has come to its end, with the channels that failed (R372). -/
def Dev.proofEnded (m : Nat) (d : Dev) : Dev :=
  let e : Dev := ({ d with tp := { d.tp with proofStart := none, proofAt := d.now } } : Dev).set F.TP_PROOF_STATE 2
  (e.refreshBusy.set F.TP_PROOF_STEP 128).set F.TP_PROOF_FAILED (sumN ((d.proofBad m).map (2 ^ ·)))

/-- What the verdict does: every channel right, none, or some, which alone go on. -/
def Dev.proofJudged (m : Nat) (d : Dev) : Dev :=
  if (d.proofBad m).isEmpty then (d.proofEnded m).set F.TP_PROOF_RESULT 0
  else if (d.proofBad m).length = d.proofRan.length then ((d.proofEnded m).set F.TP_PROOF_RESULT 2).raise 0x2C
  else (((d.proofEnded m).set F.TP_PROOF_RESULT 1).each (d.proofBad m) fun ch d => d.fenceChannel ch 8).voteAll

theorem proofRunComplete_judges {m : Nat} (hrun : d.tp.proofStart.isSome = true) (hsteps : 128 ≤ d.proofSteps) :
    proofRunComplete m d = d.proofJudged m := by
  have hst : (({ d with tp := { d.tp with proofStart := none, proofAt := d.now } } : Dev).set F.TP_PROOF_STATE 2).refreshBusy.chState = d.chState := by
    funext ch
    exact (Dev.get_set_other _ _ _ _ _ _ _ _ (by decide)).trans (Dev.get_set_other _ _ _ _ _ _ _ _ (by decide))
  rw [proofRunComplete, if_neg (by simp [Option.isNone_eq_false_iff.mpr hrun, Nat.not_lt.mpr hsteps])]
  simp only [Dev.inService, hst]
  rfl

theorem mem_proofRan {ch : Nat} : ch ∈ d.proofRan ↔ ch < 3 ∧ (d.inService ch || d.chState ch == 5) = true := by
  simp [Dev.proofRan]

theorem mem_proofBad {m ch : Nat} : ch ∈ d.proofBad m ↔ (ch < 3 ∧ (d.inService ch || d.chState ch == 5) = true) ∧ testBit m ch = false := by
  simp [Dev.proofBad, mem_proofRan]

/-- The bits of a sum of the powers of two of some of three channels. -/
theorem testBit_sumN_filter (p : Nat → Bool) {ch : Nat} (h : ch < 3) :
    testBit (sumN (((List.range 3).filter p).map (2 ^ ·)) % 8) ch = p ch := by
  have hall : ∀ a b c : Bool, ∀ n : Fin 3,
      testBit (sumN (((bif a then [0] else []) ++ (bif b then [1] else []) ++ (bif c then [2] else [])).map (2 ^ ·)) % 8) n.val = [a, b, c].get n := by
    decide
  have hlist : (List.range 3).filter p = (bif p 0 then [0] else []) ++ (bif p 1 then [1] else []) ++ (bif p 2 then [2] else []) := by
    rw [show List.range 3 = [0] ++ [1] ++ [2] from rfl, List.filter_append, List.filter_append, List.filter_singleton, List.filter_singleton,
      List.filter_singleton]
  rw [hlist]
  interval_cases ch
  · exact hall _ _ _ 0
  · exact hall _ _ _ 1
  · exact hall _ _ _ 2

theorem Dev.proofBad_eq (m : Nat) (d : Dev) : d.proofBad m =
    (List.range 3).filter fun ch => (d.inService ch || d.chState ch == 5) && !testBit m ch := by
  rw [Dev.proofBad, Dev.proofRan, List.filter_filter]
  exact List.filter_congr fun ch _ => Bool.and_comm ..

/-- What a run that has ended shows, whatever its verdict. -/
theorem Dev.proofEnded_shows (m : Nat) (d : Dev) (r : Nat) :
    ((d.proofEnded m).set F.TP_PROOF_RESULT r).get F.TP_PROOF_STATE = 2 ∧ ((d.proofEnded m).set F.TP_PROOF_RESULT r).get F.TP_PROOF_STEP = 128 ∧
    ((d.proofEnded m).set F.TP_PROOF_RESULT r).get F.TP_PROOF_FAILED = sumN ((d.proofBad m).map (2 ^ ·)) % 8 := by
  have hres {f : Fld} (h : f ≠ F.TP_PROOF_RESULT) (e : Dev) : (e.set F.TP_PROOF_RESULT r).get f = e.get f := Dev.get_set_other _ _ _ _ _ _ _ _ h
  have hbusy {f : Fld} (h : f ≠ F.TP_CMD_BUSY) (e : Dev) : e.refreshBusy.get f = e.get f := Dev.get_set_other _ _ _ _ _ _ _ _ h
  refine ⟨?_, ?_, ?_⟩
  · rw [hres (by decide), Dev.proofEnded, Dev.get_set_other _ _ _ _ _ _ _ _ (by decide), Dev.get_set_other _ _ _ _ _ _ _ _ (by decide),
      hbusy (by decide), Dev.get_set_self]
    rfl
  · rw [hres (by decide), Dev.proofEnded, Dev.get_set_other _ _ _ _ _ _ _ _ (by decide), Dev.get_set_self]
    rfl
  · rw [hres (by decide), Dev.proofEnded, Dev.get_set_self]
    rfl

/-- The verdict as it is shown: 0, 2 or 1. -/
def Dev.proofResult (m : Nat) (d : Dev) : Nat :=
  if (d.proofBad m).isEmpty then 0 else if (d.proofBad m).length = d.proofRan.length then 2 else 1

/-- No verdict takes back what the end of the run shows. -/
theorem Dev.carries_proofJudged (m : Nat) (d : Dev) : ((d.proofEnded m).set F.TP_PROOF_RESULT (d.proofResult m)).Carries (d.proofJudged m) := by
  unfold Dev.proofJudged Dev.proofResult
  split
  · exact .refl _
  · split
    · exact .of_eq
    · exact (Dev.Carries.each (fun ch d => Dev.carries_fenceChannel ch 8 d) _ _).trans (Dev.carries_voteAll _)

theorem Dev.proofJudged_shows (m : Nat) (d : Dev) : (d.proofJudged m).get F.TP_PROOF_STATE = 2 ∧ (d.proofJudged m).get F.TP_PROOF_STEP = 128 ∧
    (d.proofJudged m).tp.proofStart = none ∧ (d.proofJudged m).tp.proofAt = d.now ∧
    (d.proofJudged m).get F.TP_PROOF_FAILED = sumN ((d.proofBad m).map (2 ^ ·)) % 8 ∧ (d.proofJudged m).get F.TP_PROOF_RESULT = d.proofResult m := by
  obtain ⟨hstart, hat, hget⟩ := (d.carries_proofJudged m).proof rfl
  obtain ⟨hstate, hstep, hfailed⟩ := d.proofEnded_shows m (d.proofResult m)
  have hsmall : d.proofResult m % 16 = d.proofResult m := by
    unfold Dev.proofResult
    split
    · rfl
    · split <;> rfl
  exact ⟨(hget _ (by decide)).trans hstate, (hget _ (by decide)).trans hstep, hstart, hat, (hget _ (by decide)).trans hfailed,
    (hget _ (by decide)).trans ((Dev.get_set_self ..).trans hsmall)⟩

/-- A channel that fails where another passes is fenced. -/
theorem Dev.proofJudged_fences {m a b : Nat} (ha : a ∈ d.proofRan) (hma : testBit m a = true) (hb : b ∈ d.proofBad m) :
    d.proofResult m = 1 ∧ (d.proofJudged m).chState b ≠ 1 := by
  have hne : ¬(d.proofBad m).isEmpty = true := by
    rw [List.isEmpty_iff]
    exact List.ne_nil_of_mem hb
  have hlen : (d.proofBad m).length ≠ d.proofRan.length :=
    (List.length_filter_lt_length_iff_exists.mpr ⟨a, ha, by simp [hma]⟩).ne
  refine ⟨by rw [Dev.proofResult, if_neg hne, if_neg hlen], ?_⟩
  have hfenced : ((((d.proofEnded m).set F.TP_PROOF_RESULT 1).each (d.proofBad m) fun ch d => d.fenceChannel ch 8)).inService b = false :=
    Dev.each_reaches (P := fun e => e.inService b = false) (f := fun ch d => d.fenceChannel ch 8) hb
      (fun e => Dev.out_fenceAll_mem (List.mem_singleton.mpr rfl) ..) (fun c e he => Dev.out_fenceAll he ..) _
  have hout := Dev.out_voteAll hfenced
  rw [Dev.proofJudged, if_neg hne, if_neg hlen]
  simpa [Dev.inService] using hout

/-- With every channel's digests wrong the store is suspected (R372). -/
theorem Dev.proofJudged_all {m a : Nat} (ha : a ∈ d.proofRan) (hall : ∀ ch ∈ d.proofRan, testBit m ch = false) :
    d.proofResult m = 2 ∧ (⟨0x2C, 0, false, none⟩ : Due) ∈ (d.proofJudged m).fc.due := by
  have hbad : d.proofBad m = d.proofRan := List.filter_eq_self.mpr fun ch hch => by simp [hall ch hch]
  have hne : ¬(d.proofBad m).isEmpty = true := by
    rw [List.isEmpty_iff, hbad]
    exact List.ne_nil_of_mem ha
  have hlen : (d.proofBad m).length = d.proofRan.length := congrArg List.length hbad
  refine ⟨by rw [Dev.proofResult, if_neg hne, if_pos hlen], ?_⟩
  rw [Dev.proofJudged, if_neg hne, if_pos hlen]
  exact List.mem_append_right _ (List.mem_singleton.mpr rfl)

/-- At the entry to NONE the run is abandoned (R365, R372). -/
theorem Dev.refreshTriplex_none (hready : d.tp.everReady = true) (hs : d.serving = []) (hrun : d.tp.proofStart.isSome = true) :
    d.refreshTriplex.triplex = 4 ∧ d.refreshTriplex.get F.TP_PROOF_STATE = 2 ∧ d.refreshTriplex.get F.TP_PROOF_RESULT = 3 ∧
    d.refreshTriplex.tp.proofStart = none := by
  have hnext : d.nextTriplex = 4 := by simp [Dev.nextTriplex, Dev.nextReady, hready, hs]
  obtain ⟨hstate, hresult, htp⟩ := Dev.abandonProof_shows hrun
  obtain ⟨t, done, hshown⟩ := Dev.triplexShown_tp 4 d.triplex d.nextReady d.abandonProof
  refine ⟨(Dev.refreshTriplex_state d).trans hnext, ?_, ?_, ?_⟩
  · rw [Dev.refreshTriplex_eq, hnext, if_pos rfl, (Dev.triplexShown_keeps ..).2 _ _ _ (by decide), hstate]
  · rw [Dev.refreshTriplex_eq, hnext, if_pos rfl, (Dev.triplexShown_keeps ..).2 _ _ _ (by decide), hresult]
  · rw [Dev.refreshTriplex_eq, hnext, if_pos rfl, hshown, htp]

end proofRun

section commands
variable {d : Dev} {x ch : Nat}

theorem Dev.tpCmd_done {code : Nat} (hacc : d.refusal x true 0x60020 = none) (h : d.tpCheck code ch = 0) (f : Dev → Dev) :
    d.tpCmd x code ch f = f (d.set F.TP_CMD_RESULT 0) := by
  rw [Dev.tpCmd, Dev.hostWrite_accepted _ _ _ _ hacc]
  simp only [h, if_true]

theorem Dev.tpCmd_fails {code : Nat} (hacc : d.refusal x true 0x60020 = none) (h : d.tpCheck code ch ≠ 0) (f : Dev → Dev) :
    d.tpCmd x code ch f = d.set F.TP_CMD_RESULT (d.tpCheck code ch) := by
  rw [Dev.tpCmd, Dev.hostWrite_accepted _ _ _ _ hacc]
  exact if_neg h

/-- CLEAR forgets the fences of a RETIRED channel, which is FENCED (R366). -/
theorem Dev.cleared_shows (ch : Nat) (d : Dev) :
    ((((d.set F.TP_CMD_RESULT 0).setKept F.TP_CH_FENCES 0 ch).setCh ch 2).autoResync).get F.TP_CH_FENCES ch = 0 ∧
    ((((d.set F.TP_CMD_RESULT 0).setKept F.TP_CH_FENCES 0 ch).setCh ch 2).autoResync).get F.TP_CMD_RESULT = 0 := by
  refine ⟨?_, ?_⟩
  · rw [(Dev.autoResync_keeps _).2 _ _ _ (by decide), (Dev.setCh_keeps ..).2 _ _ _ (by decide), Dev.get_setKept_self _ _ (by decide) (by decide)]
    rfl
  · rw [(Dev.autoResync_keeps _).2 _ _ _ (by decide), (Dev.setCh_keeps ..).2 _ _ _ (by decide),
      Dev.get_setKept_ne _ _ (by simp) (by decide) (by decide), Dev.get_set_self]
    rfl

/-! TP_CFG -/

/-- The copy of TP_CFG. -/
def tpCfgReg : RegAt := (findReg regTable 0x60004).getD ⟨⟨"", 0, [], 0, 0, []⟩, 0, 0⟩

theorem findReg_tpCfg : findReg regTable 0x60004 = some tpCfgReg := by decide +kernel

/-- TP_CFG as a write leaves it, before the channels and the simplex timer follow (R364, R366). -/
def Dev.cfgWritten (v : Nat) (d : Dev) : Dev := d.writeReg v tpCfgReg 0x60004

theorem tpCfgWrite_follows {v : Nat} (hacc : d.refusal x true 0x60004 = none) : tpCfgWrite x v d =
    (((d.cfgWritten v).each (List.range 3) fun ch d =>
      if d.chState ch = 2 ∧ d.get F.TP_CFG_FENCE_MAX ≤ d.get F.TP_CH_FENCES ch then d.setCh ch 6 else d).simplexCheck).autoResync := by
  rw [tpCfgWrite, Dev.hostWrite_accepted _ _ _ _ hacc, findReg_tpCfg]
  rfl

/-- What follows a write of TP_CFG leaves its fields as written. -/
theorem get_tpCfgWrite {v : Nat} (hacc : d.refusal x true 0x60004 = none) {f : Fld}
    (hf : Scope.covers ⟨[.chans, .tp, .fc], [F.FC_COND_COND, F.GL_READY_TRIPLEX, F.TP_CH_SHADOW, F.TP_CH_STATE, F.TP_CMD_BUSY, F.TP_PROOF_RESULT,
      F.TP_PROOF_STATE, F.TP_PROOF_STEP, F.TP_STATE_DONOR, F.TP_STATE_FENCED, F.TP_STATE_IN_SERVICE, F.TP_STATE_RESYNC, F.TP_STATE_SIMPLEX_MS,
      F.TP_STATE_STATE], []⟩ f = false) : (tpCfgWrite x v d).get f = (d.cfgWritten v).get f := by
  rw [tpCfgWrite_follows hacc]
  refine (Dev.keeps_trans (Dev.autoResync_keeps _) (Dev.keeps_step (by decide) (Dev.simplexCheck_keeps _) (Dev.keeps_each _ _ (fun ch e => ?_)
    (Dev.keeps_refl ..)))).2 f 0 0 hf
  exact Dev.keeps_ite (Dev.keeps_mono (by decide) (Dev.setCh_keeps ..)) (Dev.keeps_refl ..)

theorem Dev.cfgWritten_notReady (v : Nat) (h : d.tp.everReady = false ∨ d.ready F.GL_READY_JOURNAL = false) : d.cfgWritten v = d := by
  have hblock : d.blockReady tpCfgReg.reg = (d.ready F.GL_READY_JOURNAL && d.tp.everReady) := rfl
  refine Dev.writeReg_notReady _ _ _ _ (hblock.trans ?_)
  rcases h with h | h <;> simp [h]

/-- Each field of a ready TP_CFG holds what it takes of the word (R6). -/
theorem Dev.cfgWritten_field (v : Nat) (hready : d.tp.everReady = true) (hj : d.ready F.GL_READY_JOURNAL = true) {fd : FieldDesc}
    (hm : fd ∈ tpCfgReg.reg.fields) (ha : fd.acc = .rw ∧ fd.fld ≠ F.MO_JOURNAL_PENDING ∧ fd.fld ≠ F.MO_JOURNAL_FILL ∧ fd.copy = none) :
    (d.cfgWritten v).get fd.fld = takenAs fd.fld (v / 2 ^ fd.pos % 2 ^ fd.fld.width) % 2 ^ fd.fld.width := by
  obtain ⟨hrw, hp, hf, hcopy⟩ := ha
  have hblock : d.blockReady tpCfgReg.reg = (d.ready F.GL_READY_JOURNAL && d.tp.everReady) := rfl
  have hx := (writtenWordReads d v 0x60004 tpCfgReg).1 (by rw [hblock, hready, hj]; rfl) fd hm hrw hp hf (by decide +kernel)
  rw [hcopy] at hx
  exact hx

theorem Dev.cfgWritten_shows (v : Nat) (hready : d.tp.everReady = true) (hj : d.ready F.GL_READY_JOURNAL = true) :
    (d.cfgWritten v).on F.TP_CFG_AUTO_RESYNC = testBit v 31 ∧
    (d.cfgWritten v).get F.TP_CFG_FENCE_MAX = (if v / 0x10000 % 16 = 0 then 3 else v / 0x10000 % 16) ∧
    (d.cfgWritten v).get F.TP_CFG_LATE_N = (if v / 0x100000 % 16 = 0 then 4 else v / 0x100000 % 16) := by
  have hauto : (d.cfgWritten v).get F.TP_CFG_AUTO_RESYNC = takenAs F.TP_CFG_AUTO_RESYNC (v / 2 ^ 31 % 2 ^ 1) % 2 ^ 1 :=
    Dev.cfgWritten_field (fd := ⟨F.TP_CFG_AUTO_RESYNC, 31, .rw, true, none⟩) v hready hj (by decide +kernel) (by decide)
  have hfence : (d.cfgWritten v).get F.TP_CFG_FENCE_MAX = (if v / 0x10000 % 16 = 0 then 3 else v / 0x10000 % 16) % 16 :=
    Dev.cfgWritten_field (fd := ⟨F.TP_CFG_FENCE_MAX, 16, .rw, true, none⟩) v hready hj (by decide +kernel) (by decide)
  have hlate : (d.cfgWritten v).get F.TP_CFG_LATE_N = (if v / 0x100000 % 16 = 0 then 4 else v / 0x100000 % 16) % 16 :=
    Dev.cfgWritten_field (fd := ⟨F.TP_CFG_LATE_N, 20, .rw, true, none⟩) v hready hj (by decide +kernel) (by decide)
  have hsmall (n : Nat) {c : Nat} (hc : c < 16) : (if n % 16 = 0 then c else n % 16) % 16 = if n % 16 = 0 then c else n % 16 :=
    Nat.mod_eq_of_lt (by split <;> omega)
  refine ⟨?_, hfence.trans (hsmall _ (by decide)), hlate.trans (hsmall _ (by decide))⟩
  rw [Dev.on, hauto, show takenAs F.TP_CFG_AUTO_RESYNC (v / 2 ^ 31 % 2 ^ 1) = v / 2 ^ 31 % 2 ^ 1 from rfl, Nat.mod_mod, testBit,
    Nat.testBit_eq_decide_div_mod_eq]
  rfl

end commands

/-- Settles O52: the timer and the run by their instants, the verdict by who ran and who failed, the commands by R374, the settings field by field. -/
theorem proofAndCommands : Obligations.ProofAndCommands := by
  rintro s dt d rfl hl
  refine ⟨fun hst hdone hdue => exec_live hl rfl (if_pos ⟨hst, hdone, hdue⟩), fun hper hdue hstart hserve hgap => ?_, fun m hrun => ?_,
    fun x ch hacc => ⟨fun h => ?_, fun h => exec_live hl rfl (Dev.tpCmd_done hacc h _), fun h => ?_, fun h => ?_, fun i code hi hne => ?_⟩,
    fun x v hacc => ⟨fun hready hj => ?_, fun h => ?_⟩⟩
  · obtain ⟨hstate, hfailed, hat, hbusy⟩ := (s.seen dt).startProof_shows
    exact ⟨_, exec_live hl rfl (if_pos ⟨hper, hdue, hstart, hserve, hgap⟩), hstate, hfailed, hat, hbusy⟩
  · refine ⟨fun h => exec_live hl rfl ?_, fun hready hs => Dev.refreshTriplex_none hready hs hrun, fun hsteps => ?_⟩
    · rw [proofRunComplete, if_pos (by simp [h])]
    · obtain ⟨hstate, hstep, hstart, hat, hfailed, hresult⟩ := (s.seen dt).proofJudged_shows m.toNat
      refine ⟨_, exec_live hl rfl (proofRunComplete_judges hrun hsteps), hstate, hstep, hstart, hat, fun ch hch => ?_, fun hgood => ?_,
        fun a b ha hb hra hma hrb hmb => ?_, fun hsome hall => ?_⟩
      · rw [hfailed, Dev.proofBad_eq]
        exact testBit_sumN_filter _ hch
      · have hnone : (s.seen dt).proofBad m.toNat = [] := List.filter_eq_nil_iff.mpr fun ch hch => by
          obtain ⟨hlt, hran⟩ := mem_proofRan.mp hch
          simp [hgood ch hlt hran]
        rw [hresult, Dev.proofResult, hnone]
        rfl
      · obtain ⟨hone, hout⟩ := Dev.proofJudged_fences (mem_proofRan.mpr ⟨ha, hra⟩) hma (mem_proofBad.mpr ⟨⟨hb, hrb⟩, hmb⟩)
        exact ⟨hresult.trans hone, hout⟩
      · obtain ⟨a, ha, hra⟩ := hsome
        obtain ⟨htwo, hdue⟩ := Dev.proofJudged_all (m := m.toNat) (mem_proofRan.mpr ⟨ha, hra⟩) fun ch hch =>
          hall ch (mem_proofRan.mp hch).1 (mem_proofRan.mp hch).2
        exact ⟨hresult.trans htwo, hdue⟩
  · obtain ⟨hstate, hch, hbusy⟩ := Dev.startResync_shows ch.val ((s.seen dt).set F.TP_CMD_RESULT 0)
    refine ⟨_, exec_live hl rfl (Dev.tpCmd_done hacc h _), hstate, ?_, hch, hbusy⟩
    exact ((Dev.startResync_keeps ..).2 _ _ _ (by decide)).trans (Dev.get_set_self _ F.TP_CMD_RESULT 0 0 0)
  · obtain ⟨hfences, hresult⟩ := Dev.cleared_shows ch.val (s.seen dt)
    exact ⟨_, exec_live hl rfl (Dev.tpCmd_done hacc h _), hfences, hresult, Dev.autoResync_fenced (Dev.chState_setCh_self ..)⟩
  · obtain ⟨hstate, -, hat, -⟩ := ((s.seen dt).set F.TP_CMD_RESULT 0).startProof_shows
    refine ⟨_, exec_live hl rfl (Dev.tpCmd_done hacc h _), hstate, ?_, hat⟩
    exact ((Dev.startProof_keeps _).2 _ _ _ (by decide)).trans (Dev.get_set_self _ F.TP_CMD_RESULT 0 0 0)
  · rcases hi with ⟨rfl, rfl⟩ | ⟨rfl, rfl⟩ | ⟨rfl, rfl⟩ | ⟨rfl, rfl⟩
    · exact exec_live hl rfl (Dev.tpCmd_fails hacc hne _)
    · exact exec_live hl rfl (Dev.tpCmd_fails hacc hne _)
    · exact exec_live hl rfl (Dev.tpCmd_fails hacc hne _)
    · exact exec_live hl rfl (Dev.tpCmd_fails hacc hne _)
  · obtain ⟨hauto, hfence, hlate⟩ := Dev.cfgWritten_shows (d := s.seen dt) v.toNat hready hj
    refine ⟨tpCfgWrite x.val v.toNat (s.seen dt), exec_live hl rfl rfl, ?_, ?_, ?_⟩
    · rw [Dev.on, get_tpCfgWrite hacc (by decide)]
      exact hauto
    · exact (get_tpCfgWrite hacc (by decide)).trans hfence
    · exact (get_tpCfgWrite hacc (by decide)).trans hlate
  · refine ⟨tpCfgWrite x.val v.toNat (s.seen dt), exec_live hl rfl rfl, ?_, ?_, ?_, ?_, ?_⟩
    all_goals rw [get_tpCfgWrite hacc (by decide), Dev.cfgWritten_notReady _ h]

end Sys2Proof.Machine
end

section
/-! PROOF. The life of a resynchronisation (R366 to R371). -/

namespace Sys2Proof.Machine

section donor
variable {d : Dev} {r : Resync}

theorem repairComplete_fails (hr : d.tp.resync = some r) (hst : d.chState r.ch = 3) (htest : r.selfTested = false) :
    repairComplete false d = d.fenceChannel r.ch 7 := by
  simp only [repairComplete, hr]
  rw [if_pos ⟨hst, htest⟩, if_neg Bool.false_ne_true]

/-- A resynchronisation whose self-test has passed (R367). -/
def Dev.testPassed (r : Resync) (d : Dev) : Dev := { d with tp := { d.tp with resync := some { r with selfTested := true } } }

theorem repairComplete_passes (hr : d.tp.resync = some r) (hst : d.chState r.ch = 3) (htest : r.selfTested = false) :
    repairComplete true d = (d.testPassed r).takeDonor := by
  simp only [repairComplete, hr]
  rw [if_pos ⟨hst, htest⟩, if_pos trivial]
  rfl

/-- The donor `a` taken for the copy (R368). -/
def Dev.donorTaken (r : Resync) (a : Nat) (d : Dev) : Dev :=
  { d with tp := { d.tp with resync := some { r with selfTested := true, donor := some a, left := d.builtTiles, copyAt := 0, shadow := [] } } }

theorem Dev.takeDonor_passed (hst : d.chState r.ch = 3) : (d.testPassed r).takeDonor = match d.bestDonor r.ch with
    | some a => (d.donorTaken r a).setCh r.ch 4
    | none => d.testPassed r := by
  have hin : (d.testPassed r).chState r.ch = 3 := hst
  have hdonor : (d.testPassed r).bestDonor r.ch = d.bestDonor r.ch := rfl
  rw [Dev.takeDonor, show (d.testPassed r).tp.resync = some { r with selfTested := true } from rfl]
  dsimp only
  rw [if_pos ⟨hin, rfl⟩, hdonor]
  rfl

/-- A tile copied leaves the group and the records of the donor (R368). -/
theorem Dev.copyTile_shows {a ch g t : Nat} (hc : ch < d.chans.length) (hg : g < (d.chan ch).grps.length) (ht : t < (d.chan ch).tiles.length) :
    (d.copyTile a ch g t).cg ch g = d.cg a g ∧ ((d.copyTile a ch g t).ctile ch t).rank = (d.ctile a t).rank := by
  have hlen : ch < (d.modCg ch g fun _ => d.cg a g).chans.length := (length_setNth ..).symm ▸ hc
  have htiles : ((d.modCg ch g fun _ => d.cg a g).chan ch).tiles = (d.chan ch).tiles := by
    rw [Dev.modCg, Dev.chan_modChan_self hc]
  refine ⟨?_, ?_⟩
  · rw [Dev.copyTile, Dev.modCt, Dev.cg, Dev.chan_modChan_self hlen]
    exact Dev.cg_modCg_self _ hc hg
  · rw [Dev.copyTile, Dev.ctile_modCt_self _ hlen (by rwa [htiles])]

/-- A resynchronisation taken back to its start. -/
def Dev.resyncRestarted (r : Resync) (d : Dev) : Dev :=
  { d with tp := { d.tp with resync := some { r with selfTested := false, donor := none, left := [], shadow := [] } } }

theorem Dev.backToRepair_eq (hr : d.tp.resync = some r) :
    d.backToRepair = (((d.resyncRestarted r).modChan r.ch fun _ => .init).set F.TP_CH_SHADOW 0 r.ch).setCh r.ch 3 := by
  rw [Dev.backToRepair, hr]
  rfl

/-- A resynchronisation with the tiles `rest` left to copy. -/
def Dev.tileTaken (r : Resync) (rest : List Nat) (d : Dev) : Dev :=
  { d with tp := { d.tp with resync := some { r with left := rest, copyAt := 0 } } }

theorem tileCopyComplete_copies {a t g : Nat} {rest : List Nat} (hr : d.tp.resync = some r) (hst : d.chState r.ch = 4) (ha : r.donor = some a)
    (hleft : r.left = t :: rest) (hg : d.tileGroup t = some g) (hat : r.copyAt ≠ 0) (hin : d.now ≤ r.copyAt + 1750) :
    tileCopyComplete d = (d.copyTile a r.ch g t).tileTaken r rest := by
  unfold tileCopyComplete
  simp only [hr, ha, hleft, hg]
  rw [if_neg (not_or.mpr ⟨not_not.mpr hst, hat⟩), if_neg (Nat.not_lt.mpr hin), ← ha]
  rfl

/-- Every built group has its shadow cycles and digests (R369). -/
theorem shadowComplete_serves (hr : d.tp.resync = some r) (hst : d.chState r.ch = 5)
    (hall : ∀ g : Nat, g < 4 → (d.grp g).built = true → ∃ x ∈ r.shadow, x.1 = g ∧ 256 ≤ x.2.1 ∧ 4 ≤ x.2.2) :
    shadowComplete d = d.enterService r.ch := by
  unfold shadowComplete
  simp only [hr]
  refine if_pos ⟨hst, List.all_eq_true.mpr fun g hg => List.any_eq_true.mpr ?_⟩
  obtain ⟨hlt, hbuilt⟩ := List.mem_filter.mp hg
  obtain ⟨x, hx, hfst, hcyc, hdig⟩ := hall g (List.mem_range.mp hlt) hbuilt
  exact ⟨x, hx, by simp [hfst, hcyc, hdig]⟩

/-- Back in REPAIR the channel starts from nothing (R370). -/
theorem Dev.backToRepair_shows (hr : d.tp.resync = some r) (hc : r.ch < d.chans.length) : d.backToRepair.chState r.ch = 3 ∧
    d.backToRepair.get F.TP_CH_SHADOW r.ch = 0 ∧ d.backToRepair.chan r.ch = .init := by
  rw [Dev.backToRepair_eq hr]
  refine ⟨Dev.chState_setCh_self .., ?_, ?_⟩
  · rw [(Dev.setCh_keeps ..).2 _ _ _ (by decide), Dev.get_set_self]
    rfl
  · have hchans (e : Dev) : (e.setCh r.ch 3).chans = e.chans := (Dev.setCh_keeps r.ch 3 e).1 .chans (by decide)
    rw [Dev.chan_congr (hchans _)]
    refine (Dev.chan_congr (d := (d.resyncRestarted r).modChan r.ch fun _ => .init) rfl _).trans ?_
    rw [Dev.chan_modChan_self (d := d.resyncRestarted r) hc]

/-- Only FENCED channels begin a resynchronisation by themselves (R366). -/
theorem Dev.autoResync_other {ch : Nat} (h : d.chState ch ≠ 2) : d.autoResync.chState ch = d.chState ch := by
  unfold Dev.autoResync
  split
  · split
    · next c hc =>
      have hmay := List.find?_some hc
      have hne : c ≠ ch := by
        rintro rfl
        simp [Dev.mayResync, h] at hmay
      rw [Dev.startResync, Dev.chState_setCh, Dev.chState_set_ne hne]
      exact Dev.chState_of_scope (S := ⟨[.tp, .chans], [F.TP_CH_SHADOW], []⟩) (Dev.keeps_set _ _ _ _ (by decide)
          (Dev.keeps_chans _ (by decide) (Dev.keeps_tp _ (by decide) (Dev.keeps_refl _ d)))) (by decide) ch
    · rfl
  · rfl

theorem Dev.autoResync_whole (h : ∀ ch, ch < 3 → d.chState ch ≠ 2) : d.autoResync = d := by
  have hnone : (List.range 3).find? d.mayResync = none := List.find?_eq_none.mpr fun ch hch => by
    simp [Dev.mayResync, h ch (List.mem_range.mp hch)]
  unfold Dev.autoResync
  rw [hnone]
  exact ite_self d

/-- A channel that enters service is in service (R369). -/
theorem Dev.enterService_serves {ch : Nat} (h : d.triplex ≠ 4) : (d.enterService ch).chState ch = 1 := by
  rw [Dev.enterService, if_neg h, Dev.autoResync_other (by rw [Dev.chState_setCh_self]; decide)]
  exact Dev.chState_setCh_self ..

end donor

/-! The start of the channels (R371) -/

section start
variable {d : Dev}

/-- A channel that starts in service. -/
def Dev.startUp (ch : Nat) (d : Dev) : Dev := (d.modChan ch fun _ => .init).setCh ch 1

theorem Dev.startUp_state (ch k : Nat) (d : Dev) : (d.startUp ch).chState k = if k = ch then 1 else d.chState k := by
  rw [Dev.startUp, Dev.chState_setCh]
  split
  · next h => exact h ▸ Dev.chState_set_self ..
  · next h => exact Dev.chState_set_ne (Ne.symm h) _

theorem Dev.startUp_started (ch : Nat) (d : Dev) : (d.startUp ch).tp.started = d.tp.started := by
  obtain ⟨ready, t, done, start, at', htp⟩ := ((d.modChan ch fun _ => .init).set F.TP_CH_STATE 1 ch).refreshTriplex_tp
  rw [Dev.startUp, Dev.setCh, show ∀ e : Dev, e.refreshBusy.tp = e.tp from fun _ => rfl, htp]
  rfl

/-- With a channel in service the triplex does not come to NONE. -/
theorem Dev.nextTriplex_served {ch : Nat} (h : d.triplex ≠ 4) (hch : ch < 3) (hs : d.inService ch = true) : d.nextTriplex ≠ 4 := by
  have hpos : 0 < d.serving.length := List.length_pos_of_mem (List.mem_filter.mpr ⟨List.mem_range.mpr hch, hs⟩)
  have hle : d.serving.length ≤ 3 := List.length_filter_le d.inService (List.range 3)
  unfold Dev.nextTriplex
  rw [if_neg h]
  repeat' split
  all_goals omega

theorem Dev.setCh_triplex (ch st : Nat) (d : Dev) : (d.setCh ch st).triplex = (d.set F.TP_CH_STATE st ch).nextTriplex := by
  rw [Dev.setCh, Dev.triplex, (Dev.refreshBusy_keeps _).2 _ _ _ (by decide)]
  exact Dev.refreshTriplex_state _

theorem Dev.startUp_triplex {ch : Nat} (h : d.triplex ≠ 4) (hch : ch < 3) : (d.startUp ch).triplex ≠ 4 := by
  rw [Dev.startUp, Dev.setCh_triplex]
  refine Dev.nextTriplex_served ?_ hch ?_
  · rw [Dev.triplex, Dev.get_set_other _ _ _ _ _ _ _ _ (by decide)]
    exact h
  · rw [Dev.inService, Dev.chState_set_self]
    rfl

/-- With all three in service the triplex is TRIPLEX and ready. -/
theorem Dev.startUp_all {ch : Nat} (h : d.triplex ≠ 4) (hall : ∀ k, k < 3 → (d.startUp ch).chState k = 1) :
    (d.startUp ch).triplex = 1 ∧ (d.startUp ch).ready F.GL_READY_TRIPLEX = true := by
  have hone : ∀ k, k < 3 → (((d.modChan ch fun _ => .init).set F.TP_CH_STATE 1 ch)).chState k = 1 := fun k hk => by
    rw [← Dev.chState_setCh]
    exact hall k hk
  have hserving : ((d.modChan ch fun _ => .init).set F.TP_CH_STATE 1 ch).serving = List.range 3 :=
    List.filter_eq_self.mpr fun k hk => by simp [Dev.inService, hone k (List.mem_range.mp hk)]
  have hold : ((d.modChan ch fun _ => .init).set F.TP_CH_STATE 1 ch).triplex ≠ 4 := by
    rw [Dev.triplex, Dev.get_set_other _ _ _ _ _ _ _ _ (by decide)]
    exact h
  have hnext : ((d.modChan ch fun _ => .init).set F.TP_CH_STATE 1 ch).nextTriplex = 1 := by
    simp [Dev.nextTriplex, Dev.nextReady, hserving, hold]
  refine ⟨(Dev.setCh_triplex ..).trans hnext, ?_⟩
  rw [Dev.startUp, Dev.setCh, Dev.ready, Dev.on_of_keeps (Dev.refreshBusy_keeps _) (by decide), Dev.refreshTriplex_eq, hnext]
  exact Dev.triplexShown_ready (.inl rfl) ..

/-- The triplex machine with its start begun. -/
def Dev.startBegun (d : Dev) : Dev := { d with tp := { d.tp with started := true, proofAt := d.now } }

/-- Channels fenced as often as FENCE_MAX allows. -/
def Dev.toRetire (d : Dev) : List Nat := (List.range 3).filter fun ch => decide (d.get F.TP_CFG_FENCE_MAX ≤ d.get F.TP_CH_FENCES ch)

/-- The channels of a start: `pass` holds those that passed their self-test. -/
def Dev.startTested (pass : Nat) (retired : List Nat) (d : Dev) : Dev :=
  let good := (List.range 3).filter fun ch => testBit pass ch && !retired.contains ch
  let bad := (List.range 3).filter fun ch => !testBit pass ch && !retired.contains ch
  ((d.each retired fun ch d => d.setCh ch 6).each good Dev.startUp).each bad fun ch d => d.fenceChannel ch 7

theorem channelSelfTestComplete_starts {pass : Nat} (hst : d.tp.started = false) (hj : d.ready F.GL_READY_JOURNAL = true)
    (hk : d.get F.GL_START_KILN = 0) : channelSelfTestComplete pass d = (d.startBegun.startTested pass d.startBegun.toRetire).autoResync := by
  rw [channelSelfTestComplete, if_neg (by simp [hst, hj, hk])]
  rfl

theorem channelSelfTestComplete_all (hst : d.tp.started = false) (hj : d.ready F.GL_READY_JOURNAL = true) (hk : d.get F.GL_START_KILN = 0)
    (hf : ∀ ch : Nat, ch < 3 → d.get F.TP_CH_FENCES ch < d.get F.TP_CFG_FENCE_MAX) : channelSelfTestComplete 7 d =
      (((d.startBegun.startUp 0).startUp 1).startUp 2).autoResync := by
  have hretired : d.startBegun.toRetire = [] :=
    List.filter_eq_nil_iff.mpr fun ch hch => by
      rw [decide_eq_true_eq, Nat.not_le]
      exact hf ch (List.mem_range.mp hch)
  rw [channelSelfTestComplete_starts hst hj hk, hretired]
  rfl

/-- All channels that pass start together, in TRIPLEX (R371). -/
theorem Dev.startedAll_shows (h : d.triplex ≠ 4) : ∃ e : Dev, (((d.startUp 0).startUp 1).startUp 2).autoResync = e ∧
    (∀ ch : Nat, ch < 3 → e.chState ch = 1) ∧ e.triplex = 1 ∧ e.ready F.GL_READY_TRIPLEX = true ∧ e.tp.started = d.tp.started := by
  have hserve : ∀ ch : Nat, ch < 3 → (((d.startUp 0).startUp 1).startUp 2).chState ch = 1 := fun ch hch => by
    simp only [Dev.startUp_state]
    split
    · rfl
    · split
      · rfl
      · rw [if_pos (by omega)]
  obtain ⟨htri, hready⟩ := Dev.startUp_all (Dev.startUp_triplex (ch := 1) (Dev.startUp_triplex (ch := 0) h (by decide)) (by decide)) hserve
  refine ⟨_, Dev.autoResync_whole fun ch hch => by rw [hserve ch hch]; decide, hserve, htri, hready, ?_⟩
  rw [Dev.startUp_started, Dev.startUp_started, Dev.startUp_started]

end start

/-- Settles O51: the phases of a resynchronisation each by the operation the command runs. -/
theorem resynchronisation : Obligations.Resynchronisation := by
  unfold Obligations.Resynchronisation
  rintro s dt d rfl hl hch
  refine ⟨fun r hr hlt => ⟨fun hst htest => ⟨exec_live hl rfl (repairComplete_fails hr hst htest), fun hdonor => ?_, fun a hdonor => ?_⟩, ?_, ?_, ?_, ?_⟩,
    fun hst hj hk htri hf => ?_⟩
  · refine exec_live hl rfl ((repairComplete_passes hr hst htest).trans ?_)
    rw [Dev.takeDonor_passed hst, hdonor]
    rfl
  · refine ⟨((s.seen dt).donorTaken r a).setCh r.ch 4, exec_live hl rfl ((repairComplete_passes hr hst htest).trans ?_), ?_, ?_⟩
    · rw [Dev.takeDonor_passed hst, hdonor]
    · exact Dev.chState_setCh_self ..
    · rw [Dev.setCh_resync]
      rfl
  · intro a t g rest hst ha hleft hg hat hin ht hg4 hgrps htiles
    obtain ⟨hcg, hrank⟩ := Dev.copyTile_shows (d := s.seen dt) (a := a) (hch ▸ hlt) (hgrps ▸ hg4) (htiles ▸ ht)
    exact ⟨((s.seen dt).copyTile a r.ch g t).tileTaken r rest, exec_live hl rfl (tileCopyComplete_copies hr hst ha hleft hg hat hin), hcg, hrank, rfl, rfl⟩
  · intro hst hat hout
    refine ⟨(s.seen dt).backToRepair, exec_live hl rfl ?_, Dev.backToRepair_shows hr (hch ▸ hlt)⟩
    unfold tileCopyTimeout
    simp only [hr]
    exact if_pos ⟨hst, hat, hout⟩
  · intro hst htri hall
    exact ⟨(s.seen dt).enterService r.ch, exec_live hl rfl (shadowComplete_serves hr hst hall), Dev.enterService_serves htri⟩
  · intro hout
    refine exec_live hl rfl ?_
    unfold resyncTimeout
    simp only [hr]
    exact if_pos hout
  · obtain ⟨e, he, hserve, htriplex, hready, hstarted⟩ := Dev.startedAll_shows (d := (s.seen dt).startBegun) htri
    exact ⟨e, exec_live hl rfl ((channelSelfTestComplete_all hst hj hk hf).trans he), hserve, htriplex, hready, hstarted⟩

end Sys2Proof.Machine
end

section
/-! PROOF. Input and state digests of the triplex channels (R353, R357). -/

namespace Sys2Proof.Machine

/-! Input digests (R353) -/

section inputs
variable {d : Dev} {t : Nat}

theorem inputDigest_found {ch upset g : Nat} {j : Job} (hg : d.tileGroup t = some g)
    (hj : (d.ctile ch t).jobs.find? (·.k == (d.vote t).k) = some j) (hcomp : d.computes ch t = true) (hopen : (d.vote t).closed = false) :
    inputDigest ch t upset d = if d.exempt ch g then d else (d.takeDigest ch t (d.tileDigest ch g j ^^^ upset)).voteAll := by
  simp only [inputDigest, hg, hj, hcomp, hopen, Bool.not_true, Bool.false_or]

theorem Dev.tileDigest_found {ch g : Nat} {j : Job} {cy : GCycle} (h : (d.cg ch g).cycles.find? (·.inp.k == j.k) = some cy) :
    d.tileDigest ch g j = crcWords (inputWords cy.inp j.present) := by
  rw [Dev.tileDigest, h]

theorem Dev.vote_modVote (t : Nat) (f : VoteSt → VoteSt) (d : Dev) : (d.modVote t f).vote t = f (d.vote t) := tabD_tabMod_self ..

/-- Two digests that differ in DUPLEX bar the tile and ask for the safe state. -/
theorem Dev.judgeDigests_duplex {a b : Nat × Nat} (hopen : (d.vote t).closed = false) (htri : d.triplex = 2)
    (hl : (d.vote t).digests.filter (fun x => d.inService x.1) = [a, b]) (hne : a.2 ≠ b.2) (hbar : (d.vote t).barred = false) :
    d.judgeDigests t false = (d.modVote t fun v => { v with barred := true }).raiseSafe 0x13 := by
  unfold Dev.judgeDigests
  dsimp only
  rw [if_neg (by simp [hopen]), if_neg (by omega), if_pos htri, hl]
  dsimp only
  rw [if_pos hne, Dev.noAgreement, if_neg (by simp [hbar])]

/-- The odd one of three digests is fenced. -/
theorem Dev.judgeDigests_triplex {a b c : Nat × Nat} (hopen : (d.vote t).closed = false) (htri : d.triplex = 1)
    (hl : (d.vote t).digests.filter (fun x => d.inService x.1) = [a, b, c]) (hab : a.2 = b.2) (hc : c.2 ≠ a.2) :
    d.judgeDigests t false = (d.fenceChannel c.1 5).raise 0x13 c.1 := by
  have hmajor : ([a, b, c].find? fun x => decide (2 ≤ ([a, b, c].filter fun y => y.2 == x.2).length)) = some a := by
    simp [hab]
  have hodd : ([a, b, c].filter fun x => decide (x.2 ≠ a.2)) = [c] := by simp [hab, hab ▸ hc]
  unfold Dev.judgeDigests
  dsimp only
  rw [if_neg (by simp [hopen]), if_pos htri, hl, hmajor]
  dsimp only
  rw [hodd]
  rfl

end inputs

/-! State digests (R357) -/

section states
variable {d : Dev}

theorem Dev.grp_modGrp {g : Nat} (hg : g < d.grps.length) (f : GroupHub → GroupHub) : (d.modGrp g f).grp g = f (d.grp g) := nth_setNth_self hg _ _

/-- With no channel that computes, the words are those of the channels as they are. -/
theorem Dev.digestAtDe_idle {g : Nat} (hg : g < d.grps.length) (hk : (d.grp g).k % 64 = 0) (hidle : ∀ ch : Nat, d.computesAny ch = false) :
    ((d.digestAtDe g).grp g).digWords = (List.range 3).map fun ch => stateWords (d.chan ch) g ((d.grp g).tiles.map (·.1)) := by
  have hnone : (List.range 3).filter d.computesAny = [] := List.filter_eq_nil_iff.mpr fun ch _ => by simp [hidle ch]
  unfold Dev.digestAtDe
  dsimp only
  rw [if_neg (by simp [hk]), hnone]
  exact congrArg GroupHub.digWords (Dev.grp_modGrp hg _)

/-- The digests are compared: the cycle is shown. -/
def Dev.digestCycle (g : Nat) (d : Dev) : Dev :=
  (d.modGrp g fun h => { h with digK := some (d.grp g).k }).set F.TP_DIGEST_CYCLE ((d.grp g).k % 0x1000000) g

/-- The first of the channels `l` whose digest another one has too. -/
def majorOf (l : List Nat) (dig : Nat → Nat) : Option Nat :=
  l.find? fun ch => decide (2 ≤ (l.filter fun y => dig y == dig ch).length) || l.length == 1

/-- The channels that agree with it, and what becomes of the others. -/
def Dev.digestsJudged (g : Nat) (l : List Nat) (dig : Nat → Nat) (d : Dev) : Dev :=
  let d : Dev := d.set F.TP_DIGEST_AGREE (match majorOf l dig with
    | some m => sumN ((l.filter fun ch => dig ch == dig m).map (2 ^ ·))
    | none => 0) g
  match majorOf l dig with
  | some m => (l.filter fun ch => dig ch ≠ dig m).foldl (fun d ch => d.digestBad ch) d
  | none => if l.length = 3 then d.raise (0x24 + g) g else if l.length = 2 then d.raise (0x20 + g) g else d

/-- The digest of a shadow run against those of the channels `l` (R369). -/
def Dev.shadowJudged (g : Nat) (l : List Nat) (dig : Nat → Nat) (d : Dev) : Dev :=
  match d.tp.resync with
  | some r =>
    if d.chState r.ch = 5 ∧ (r.shadow.any fun x => x.1 == g) then
      if l.all fun ch => dig ch == dig r.ch then
        { d with tp := { d.tp with resync := some { r with shadow := r.shadow.map fun x => if x.1 = g then (g, x.2.1, x.2.2 + 1) else x } } }
      else d.fenceChannel r.ch 6
    else d
  | none => d

/-- The digest a channel shows, with the fault of its logic. -/
def Dev.shownDigest (g uA uB uC : Nat) (d : Dev) (ch : Nat) : Nat :=
  stateDigest (nth (d.grp g).digWords ch []) ^^^ (if ch = 0 then uA else if ch = 1 then uB else uC)

theorem stateDigestCompare_eq {g uA uB uC : Nat} (hk : (d.grp g).k % 64 = 0) (hde : (d.grp g).deK = some (d.grp g).k)
    (hdig : (d.grp g).digK ≠ some (d.grp g).k) : stateDigestCompare g uA uB uC d =
      (((d.digestCycle g).digestsJudged g (d.digestCycle g).serving (d.shownDigest g uA uB uC)).shadowJudged g (d.digestCycle g).serving
        (d.shownDigest g uA uB uC)).voteAll := by
  rw [stateDigestCompare, if_neg (by simp [hk, hde, hdig])]
  rfl

theorem majorOf_three {dig : Nat → Nat} (h : dig 0 = dig 1) : majorOf [0, 1, 2] dig = some 0 := by
  simp [majorOf, h]

/-- Two equal digests agree; a third that differs is counted, and its channel leaves service. -/
theorem Dev.digestsJudged_three {dig : Nat → Nat} (h : dig 0 = dig 1) (g : Nat) (d : Dev) : d.digestsJudged g [0, 1, 2] dig =
    if dig 2 = dig 0 then d.set F.TP_DIGEST_AGREE 7 g else (d.set F.TP_DIGEST_AGREE 3 g).digestBad 2 := by
  unfold Dev.digestsJudged
  rw [majorOf_three h]
  by_cases h2 : dig 2 = dig 0
  · have hsame : [0, 1, 2].filter (fun ch => dig ch == dig 0) = [0, 1, 2] := by simp [h2, h]
    have hodd : [0, 1, 2].filter (fun ch => decide (dig ch ≠ dig 0)) = [] := by simp [h2, h]
    dsimp only
    rw [if_pos h2, hsame, hodd]
    rfl
  · have hsame : [0, 1, 2].filter (fun ch => dig ch == dig 0) = [0, 1] := by
      rw [h] at h2 ⊢
      simp [h2, h]
    have hodd : [0, 1, 2].filter (fun ch => decide (dig ch ≠ dig 0)) = [2] := by
      rw [h] at h2 ⊢
      simp [h2, h]
    dsimp only
    rw [if_neg h2, hsame, hodd]
    rfl

/-- What follows the comparison of the digests: fences, and votes. -/
abbrev digestScope : Scope := ⟨[.out, .store, .chans, .tp, .cm, .fc], [F.FC_COND_COND, F.GL_READY_TRIPLEX, F.MO_JOURNAL_FILL, F.MO_JOURNAL_PENDING,
  F.PL_SLACK_LAST, F.PL_SLACK_WMIN, F.PL_STATUS_CONSEC, F.TP_CH_CAUSE, F.TP_CH_FENCES, F.TP_CH_SHADOW, F.TP_CH_STATE, F.TP_CH_STRIKES,
  F.TP_CMD_BUSY, F.TP_PROOF_RESULT, F.TP_PROOF_STATE, F.TP_PROOF_STEP, F.TP_STATE_DONOR, F.TP_STATE_FENCED, F.TP_STATE_IN_SERVICE,
  F.TP_STATE_RESYNC, F.TP_STATE_SIMPLEX_MS, F.TP_STATE_STATE, F.TP_VOTE_LATE_RUN, F.TP_VOTE_MINORITY], []⟩

theorem Dev.shadowJudged_keeps (g : Nat) (l : List Nat) (dig : Nat → Nat) (d : Dev) : Dev.keeps digestScope d (d.shadowJudged g l dig) := by
  unfold Dev.shadowJudged
  split
  · refine Dev.keeps_ite (Dev.keeps_ite ?_ ?_) (Dev.keeps_refl ..)
    · exact Dev.keeps_tp _ (by decide) (Dev.keeps_refl ..)
    · exact Dev.keeps_step (by decide) (Dev.fenceChannel_keeps ..) (Dev.keeps_refl ..)
  · exact Dev.keeps_refl ..

theorem Dev.out_shadowJudged {ch : Nat} (h : d.inService ch = false) (g : Nat) (l : List Nat) (dig : Nat → Nat) :
    (d.shadowJudged g l dig).inService ch = false := by
  unfold Dev.shadowJudged
  split
  · split
    · split
      · exact h
      · exact Dev.out_fenceAll h ..
    · exact h
  · exact h

/-- An odd digest takes its channel out of service and is counted. -/
theorem Dev.digestBad_shows (ch : Nat) (d : Dev) : (d.digestBad ch).inService ch = false ∧
    (d.digestBad ch).get F.TP_VOTE_DIGEST_BAD ch = satInc 0xFF (d.get F.TP_VOTE_DIGEST_BAD ch) ∧
    (∀ f : Fld, f ∈ [F.TP_DIGEST_CYCLE, F.TP_DIGEST_AGREE] → ∀ g, (d.digestBad ch).get f g = d.get f g) ∧ (d.digestBad ch).grps = d.grps := by
  refine ⟨Dev.out_fenceAll_mem (List.mem_singleton_self ch) .., ?_, fun f hf g => ?_, (Dev.digestBad_keeps ch d).1 .grps (by decide)⟩
  · rw [Dev.digestBad, (Dev.fenceChannel_keeps ..).2 _ _ _ (by decide), Dev.count, Dev.get_set_other _ _ _ _ _ _ _ _ (by decide), Dev.get_count_self]
    rfl
  · exact (Dev.digestBad_keeps ch d).2 f g 0 (by revert f; decide)

theorem Dev.digestCycle_shows {g : Nat} (hg : g < d.grps.length) : (d.digestCycle g).serving = d.serving ∧
    (d.digestCycle g).get F.TP_DIGEST_CYCLE g = (d.grp g).k % 0x1000000 ∧ ((d.digestCycle g).grp g).digK = some (d.grp g).k ∧
    (d.digestCycle g).get F.TP_VOTE_DIGEST_BAD 2 = d.get F.TP_VOTE_DIGEST_BAD 2 := by
  have hserve : (d.digestCycle g).inService = d.inService := funext fun ch =>
    Dev.inService_of_scope (S := ⟨[.grps], [F.TP_DIGEST_CYCLE], []⟩) (Dev.keeps_set _ _ _ _ (by decide) (Dev.keeps_grps _ (by decide) (Dev.keeps_refl ..)))
      (by decide) ch
  refine ⟨?_, ?_, ?_, ?_⟩
  · rw [Dev.serving, hserve, Dev.serving]
  · rw [Dev.digestCycle, Dev.get_set_self]
    exact Nat.mod_mod ..
  · exact congrArg GroupHub.digK (Dev.grp_modGrp hg fun h => { h with digK := some (d.grp g).k })
  · exact Dev.get_set_other _ _ _ _ _ _ _ _ (by decide)

/-- What a comparison of two equal digests and a third leaves before votes and the shadow run. -/
theorem Dev.digestsJudged_shows {dig : Nat → Nat} (h : dig 0 = dig 1) (g : Nat) (d : Dev) : ∃ e : Dev, d.digestsJudged g [0, 1, 2] dig = e ∧
    e.get F.TP_DIGEST_CYCLE g = d.get F.TP_DIGEST_CYCLE g ∧ e.get F.TP_DIGEST_AGREE g = (if dig 2 = dig 0 then 7 else 3) ∧ e.grps = d.grps ∧
    (dig 2 ≠ dig 0 → e.inService 2 = false ∧ e.get F.TP_VOTE_DIGEST_BAD 2 = satInc 0xFF (d.get F.TP_VOTE_DIGEST_BAD 2)) := by
  have hcycle (v : Nat) : (d.set F.TP_DIGEST_AGREE v g).get F.TP_DIGEST_CYCLE g = d.get F.TP_DIGEST_CYCLE g :=
    Dev.get_set_other _ _ _ _ _ _ _ _ (by decide)
  refine ⟨_, Dev.digestsJudged_three h g d, ?_⟩
  split
  · next heq => exact ⟨hcycle 7, Dev.get_set_self .., rfl, fun hne => absurd heq hne⟩
  · obtain ⟨hout, hbad, hkept, hgrps⟩ := Dev.digestBad_shows 2 (d.set F.TP_DIGEST_AGREE 3 g)
    refine ⟨(hkept F.TP_DIGEST_CYCLE (by decide) g).trans (hcycle 3), ?_, hgrps, fun _ => ⟨hout, ?_⟩⟩
    · exact (hkept F.TP_DIGEST_AGREE (by decide) g).trans (Dev.get_set_self ..)
    · rw [hbad, Dev.get_set_other _ _ _ _ _ _ _ _ (by decide)]

/-- The comparison of three digests of which two are equal. -/
theorem stateDigestCompare_shows {g uA uB uC : Nat} (hg : g < d.grps.length) (hk : (d.grp g).k % 64 = 0) (hde : (d.grp g).deK = some (d.grp g).k)
    (hdig : (d.grp g).digK ≠ some (d.grp g).k) (hserve : d.serving = [0, 1, 2])
    (hab : d.shownDigest g uA uB uC 0 = d.shownDigest g uA uB uC 1) : ∃ e : Dev, stateDigestCompare g uA uB uC d = e ∧
    e.get F.TP_DIGEST_CYCLE g = (d.grp g).k % 0x1000000 ∧
    e.get F.TP_DIGEST_AGREE g = (if d.shownDigest g uA uB uC 2 = d.shownDigest g uA uB uC 0 then 7 else 3) ∧
    (e.grp g).digK = some (d.grp g).k ∧ (d.shownDigest g uA uB uC 2 ≠ d.shownDigest g uA uB uC 0 → e.chState 2 ≠ 1 ∧
      e.get F.TP_VOTE_DIGEST_BAD 2 = satInc 0xFF (d.get F.TP_VOTE_DIGEST_BAD 2)) := by
  obtain ⟨hserving, hcycle, hdigK, hbad⟩ := Dev.digestCycle_shows hg
  obtain ⟨j, hj, hcycle', hagree, hgrps, hodd⟩ := Dev.digestsJudged_shows hab g (d.digestCycle g)
  have hrest : Dev.keeps digestScope j ((j.shadowJudged g [0, 1, 2] (d.shownDigest g uA uB uC)).voteAll) :=
    Dev.keeps_step (by decide) (Dev.voteAll_keeps ..) (Dev.shadowJudged_keeps ..)
  have hgrp : ((j.shadowJudged g [0, 1, 2] (d.shownDigest g uA uB uC)).voteAll).grps = j.grps := hrest.1 .grps (by decide)
  refine ⟨_, stateDigestCompare_eq hk hde hdig, ?_⟩
  rw [hserving, hserve, hj]
  refine ⟨?_, ?_, ?_, fun hne => ?_⟩
  · rw [hrest.2 _ _ _ (by decide), hcycle', hcycle]
  · rw [hrest.2 _ _ _ (by decide), hagree]
  · rw [Dev.grp, hgrp, hgrps, ← Dev.grp, hdigK]
  · obtain ⟨hout, hcount⟩ := hodd hne
    refine ⟨?_, ?_⟩
    · simpa [Dev.inService] using Dev.out_voteAll (Dev.out_shadowJudged hout g [0, 1, 2] (d.shownDigest g uA uB uC))
    · rw [hrest.2 _ _ _ (by decide), hcount, hbad]

end states

end Sys2Proof.Machine
end

section
/-! PROOF. Heartbeats of the triplex channels (R358, R359, R361). -/

namespace Sys2Proof.Machine

/-! A heartbeat period (R358, R359, R361) -/

section beats
variable {d : Dev} {y : Nat}

/-- The beat of a channel: the word on its link, and the level of its pin. -/
theorem Dev.sendBeat_self (y : Nat) (d : Dev) : Out.heartbeat y (nth d.tp.hbSeq y 0) (d.hbFlags y) ∈ (d.sendBeat y).out ∧
    (y < d.tp.hbPin.length → nth (d.sendBeat y).tp.hbPin y false = !nth d.tp.hbPin y false) ∧
    Out.pin (9 + y) (bit (!nth d.tp.hbPin y false)) ∈ (d.sendBeat y).out :=
  ⟨List.mem_append_left _ (List.mem_append_right _ (List.mem_singleton_self _)), fun h => nth_setNth_self h _ _,
    List.mem_append_right _ (List.mem_singleton_self _)⟩

theorem Dev.sendBeat_out (z : Nat) (d : Dev) : d.out ⊆ (d.sendBeat z).out := fun _ h => List.mem_append_left _ (List.mem_append_left _ h)

theorem Dev.sendBeat_other {z : Nat} (h : y ≠ z) (d : Dev) : nth (d.sendBeat z).tp.hbPin y false = nth d.tp.hbPin y false :=
  nth_setNth_ne (Ne.symm h) _ _ _

theorem Dev.sendBeats_carry (l : List Nat) (d : Dev) : d.out ⊆ (d.each l Dev.sendBeat).out ∧ (d.each l Dev.sendBeat).tp.period = d.tp.period ∧
    (y ∉ l → nth (d.each l Dev.sendBeat).tp.hbPin y false = nth d.tp.hbPin y false) := by
  induction l generalizing d with
  | nil => exact ⟨List.Subset.refl _, rfl, fun _ => rfl⟩
  | cons z l ih =>
    obtain ⟨hout, hperiod, hpin⟩ := ih (d.sendBeat z)
    refine ⟨List.Subset.trans (Dev.sendBeat_out z d) hout, hperiod, fun hy => ?_⟩
    rw [List.mem_cons, not_or] at hy
    exact (hpin hy.2).trans (Dev.sendBeat_other hy.1 d)

/-- Each channel of the list gives its beat. -/
theorem Dev.sendBeats_shows {l : List Nat} (hnd : l.Nodup) (hy : y ∈ l) (d : Dev) :
    Out.heartbeat y (nth d.tp.hbSeq y 0) (d.hbFlags y) ∈ (d.each l Dev.sendBeat).out ∧
    (y < d.tp.hbPin.length → nth (d.each l Dev.sendBeat).tp.hbPin y false = !nth d.tp.hbPin y false) ∧
    Out.pin (9 + y) (bit (!nth d.tp.hbPin y false)) ∈ (d.each l Dev.sendBeat).out := by
  induction l generalizing d with
  | nil => cases hy
  | cons z l ih =>
    obtain ⟨hz, hnd⟩ := List.nodup_cons.mp hnd
    rw [show d.each (z :: l) Dev.sendBeat = (d.sendBeat z).each l Dev.sendBeat from rfl]
    by_cases hyz : y = z
    · subst hyz
      obtain ⟨hword, hlevel, hpin⟩ := Dev.sendBeat_self y d
      obtain ⟨hout, -, hkept⟩ := Dev.sendBeats_carry (y := y) l (d.sendBeat y)
      exact ⟨hout hword, fun hlen => (hkept hz).trans (hlevel hlen), hout hpin⟩
    · obtain ⟨hword, hlevel, hpin⟩ := ih hnd ((List.mem_cons.mp hy).resolve_left hyz) (d.sendBeat z)
      rw [Dev.sendBeat_other hyz d] at hlevel hpin
      refine ⟨hword, fun hlen => hlevel ?_, hpin⟩
      rw [show (d.sendBeat z).tp.hbPin = setNth d.tp.hbPin z (!nth d.tp.hbPin z false) from rfl, length_setNth]
      exact hlen

/-! The fence logic on heartbeats carries through what has left and the beats of the period -/

theorem Dev.carries_pathFault (x y : Nat) (d : Dev) : d.Carries (d.pathFault x y) :=
  .of_quiet (Dev.pathFault_keeps x y d) (by decide) (by decide) (by decide)

theorem Dev.carries_becomesMissing (x y p : Nat) (d : Dev) : d.Carries (d.becomesMissing x y p) :=
  .of_quiet (Dev.becomesMissing_keeps x y p d) (by decide) (by decide) (by decide)

theorem Dev.carries_ite {p : Prop} [Decidable p] {a b : Dev} (ha : d.Carries a) (hb : d.Carries b) : d.Carries (if p then a else b) := by
  split
  · exact ha
  · exact hb

/-- What heartbeats missing between the channels in service lead to (R361). -/
def Dev.servingJudged (l : List Nat) (d : Dev) : Dev :=
  match l with
  | [_, _, _] =>
    let gone := l.filter fun y => l.all fun x => x == y || d.sees x y
    if !gone.isEmpty then gone.foldl (fun d y => if d.triplex = 1 then d.fenceChannel y 3 else d) d
    else if d.sees 0 1 && d.sees 1 0 && !d.sees 2 0 && !d.sees 2 1 then d.pathFault 0 1
    else if d.sees 0 2 && d.sees 2 0 && !d.sees 1 0 && !d.sees 1 2 then d.pathFault 0 2
    else if d.sees 1 2 && d.sees 2 1 && !d.sees 0 1 && !d.sees 0 2 then d.pathFault 1 2
    else d
  | [x, y] =>
    if d.sees x y || d.sees y x then
      match nth d.tp.delivered x true, nth d.tp.delivered y true with
      | true, false => d.fenceChannel y 0xB
      | false, true => d.fenceChannel x 0xB
      | true, true => d.pathFault x y
      | false, false => d.fenceAll [x, y] 0xB
    else d
  | _ => d

/-- What the receiving channel's missing heartbeats lead to (R370). -/
def Dev.receiverJudged (d : Dev) : Dev :=
  match d.tp.resync with
  | some r =>
    let l := d.serving
    if (d.chState r.ch = 4 ∨ d.chState r.ch = 5) ∧ l.isEmpty = false ∧ (l.all fun x => d.sees x r.ch) = true then d.fenceChannel r.ch 3 else d
  | none => d

/-- What the donor's missing heartbeats lead to (R370). -/
def Dev.donorJudged (d : Dev) : Dev := if d.donorLost then d.backToRepair else d

theorem Dev.judgeBeats_eq (d : Dev) : d.judgeBeats = (d.servingJudged d.serving).receiverJudged.donorJudged.voteAll := rfl

theorem Dev.carries_servingJudged (l : List Nat) (d : Dev) : d.Carries (d.servingJudged l) := by
  unfold Dev.servingJudged
  split
  · refine Dev.carries_ite (.foldl (fun d y => Dev.carries_ite (Dev.carries_fenceChannel ..) (.refl d)) _ d) ?_
    exact Dev.carries_ite (Dev.carries_pathFault ..) (Dev.carries_ite (Dev.carries_pathFault ..) (Dev.carries_ite (Dev.carries_pathFault ..) (.refl d)))
  · refine Dev.carries_ite ?_ (.refl d)
    split
    · exact Dev.carries_fenceChannel ..
    · exact Dev.carries_fenceChannel ..
    · exact Dev.carries_pathFault ..
    · exact Dev.carries_fenceAll ..
  · exact .refl d

theorem Dev.carries_receiverJudged (d : Dev) : d.Carries d.receiverJudged := by
  unfold Dev.receiverJudged
  split
  · exact Dev.carries_ite (Dev.carries_fenceChannel ..) (.refl d)
  · exact .refl d

theorem Dev.carries_judgeBeats (d : Dev) : d.Carries d.judgeBeats := by
  rw [Dev.judgeBeats_eq]
  exact (Dev.carries_servingJudged d.serving d).trans ((Dev.carries_receiverJudged _).trans
    ((Dev.carries_ite (Dev.carries_backToRepair _) (.refl _)).trans (Dev.carries_voteAll _)))

theorem Dev.carries_takeDonor (d : Dev) : d.Carries d.takeDonor := by
  unfold Dev.takeDonor
  split
  · refine Dev.carries_ite ?_ (.refl d)
    split
    · exact .trans .of_eq (Dev.carries_setCh ..)
    · exact .refl d
  · exact .refl d

/-! The period -/

/-- A period begun: the last one counted, the numbers of the beats to be sent. -/
def Dev.periodBegun (d : Dev) : Dev :=
  let misses := (List.range 12).map fun i =>
    if d.tp.period == 0 ∨ nth d.tp.hbSeen i false = true ∨ nth d.tp.hbSent (hbSender i) false = false then 0 else satInc 255 (nth d.tp.hbMiss i 0)
  let deliv := (List.range 3).map fun ch => d.tp.votes.all fun v => nth v.2.delivered ch true
  { d with tp := { d.tp with
    hbMiss := misses, hbSeen := List.replicate 12 false, hbSent := (List.range 3).map d.sends, period := d.periodStart + 1, delivered := deliv
    votes := d.tp.votes.map fun v => (v.1, { v.2 with delivered := [true, true, true] })
    hbSeq := (List.range 3).map fun y => if d.sends y then (nth d.tp.hbSeq y 0 + 1) % 0x1000 else nth d.tp.hbSeq y 0 } }

/-- Channels not heard for three periods on a path become missing there. -/
def Dev.missesJudged (d : Dev) : Dev :=
  d.each (List.range 3) fun x d => d.each ((List.range 3).filter (· ≠ x)) fun y d => d.each [0, 1] fun p d =>
    if d.sends y && d.observes x && decide (3 ≤ nth d.tp.hbMiss (hbAt x y p) 0) then d.becomesMissing x y p else d

/-- Without a built group a copy goes on with the periods. -/
def Dev.copyGoesOn (d : Dev) : Dev :=
  match d.tp.resync, d.firstBuilt with
  | some r, none =>
    if d.chState r.ch = 4 then
      (if r.copyAt = 0 then { d with tp := { d.tp with resync := some { r with copyAt := max 1 d.now } } } else d.enterService r.ch)
    else d
  | _, _ => d

/-- The lowest built group, if there is one, has begun its cycles. -/
def Dev.beatsRun (d : Dev) : Bool := match d.firstBuilt with | some g => (d.grp g).started | none => true

theorem heartbeatPeriod_eq (d : Dev) : heartbeatPeriod d = if !d.beatsRun || d.tp.period == d.periodStart + 1 then d else
    ((d.periodBegun.each ((List.range 3).filter d.periodBegun.sends) Dev.sendBeat).missesJudged.judgeBeats.takeDonor).copyGoesOn := by
  unfold heartbeatPeriod
  extract_lets start ok first misses deliv tp e e2 e3 e4
  have he : e = d.periodBegun := rfl
  have he2 : e2 = d.periodBegun.each ((List.range 3).filter d.periodBegun.sends) Dev.sendBeat := rfl
  have he3 : e3 = e2.missesJudged := rfl
  have he4 : e4 = e3.judgeBeats.takeDonor := rfl
  rw [← he2, ← he3, ← he4]
  clear_value e4
  rfl

theorem heartbeatPeriod_begins (hbuilt : ∀ g : Nat, d.firstBuilt = some g → (d.grp g).started = true) (hnew : d.tp.period ≠ d.periodStart + 1) :
    heartbeatPeriod d = ((d.periodBegun.each ((List.range 3).filter d.periodBegun.sends) Dev.sendBeat).missesJudged.judgeBeats.takeDonor).copyGoesOn := by
  have hrun : d.beatsRun = true := by
    unfold Dev.beatsRun
    split
    · next g hg => exact hbuilt g hg
    · rfl
  rw [heartbeatPeriod_eq, if_neg (by simp [hrun, hnew])]

theorem Dev.carries_missesJudged (d : Dev) : d.Carries d.missesJudged := by
  unfold Dev.missesJudged
  exact .each (fun x d => .each (fun y d => .each (fun p d => Dev.carries_ite (Dev.carries_becomesMissing ..) (.refl d)) _ d) _ d) _ d

theorem Dev.carries_copyGoesOn (d : Dev) : d.Carries d.copyGoesOn := by
  unfold Dev.copyGoesOn
  split
  · exact Dev.carries_ite (Dev.carries_ite .of_eq (Dev.carries_enterService ..)) (.refl d)
  · exact .refl d

theorem Dev.periodBegun_seq (hy : y < 3) (hs : d.sends y = true) : nth d.periodBegun.tp.hbSeq y 0 = (nth d.tp.hbSeq y 0 + 1) % 0x1000 := by
  have hmap : nth d.periodBegun.tp.hbSeq y 0 = if d.sends y then (nth d.tp.hbSeq y 0 + 1) % 0x1000 else nth d.tp.hbSeq y 0 := by
    obtain rfl | rfl | rfl : y = 0 ∨ y = 1 ∨ y = 2 := by omega
    all_goals rfl
  rw [hmap, if_pos hs]

/-- A period starts once, and every channel that sends gives its beat on both paths. -/
theorem heartbeatPeriod_shows (hbuilt : ∀ g : Nat, d.firstBuilt = some g → (d.grp g).started = true) (hnew : d.tp.period ≠ d.periodStart + 1) :
    ∃ e : Dev, heartbeatPeriod d = e ∧ e.tp.period = d.periodStart + 1 ∧
      ∀ y : Nat, y < 3 → d.sends y = true → Out.heartbeat y ((nth d.tp.hbSeq y 0 + 1) % 0x1000) (d.hbFlags y) ∈ e.out ∧
        (d.tp.hbPin.length = 3 → nth e.tp.hbPin y false = !nth d.tp.hbPin y false ∧ Out.pin (9 + y) (bit (!nth d.tp.hbPin y false)) ∈ e.out) := by
  obtain ⟨hout, hperiod, hpins, -⟩ : (d.periodBegun.each ((List.range 3).filter d.periodBegun.sends) Dev.sendBeat).Carries
      (((d.periodBegun.each ((List.range 3).filter d.periodBegun.sends) Dev.sendBeat).missesJudged.judgeBeats.takeDonor).copyGoesOn) :=
    (Dev.carries_missesJudged _).trans ((Dev.carries_judgeBeats _).trans ((Dev.carries_takeDonor _).trans (Dev.carries_copyGoesOn _)))
  refine ⟨_, heartbeatPeriod_begins hbuilt hnew, hperiod.trans (Dev.sendBeats_carry (y := 0) _ _).2.1, fun y hy hs => ?_⟩
  obtain ⟨hword, hlevel, hpin⟩ := Dev.sendBeats_shows (List.Nodup.filter _ List.nodup_range)
    (List.mem_filter.mpr ⟨List.mem_range.mpr hy, hs⟩ : y ∈ (List.range 3).filter d.periodBegun.sends) d.periodBegun
  rw [Dev.periodBegun_seq hy hs] at hword
  exact ⟨hout hword, fun hlen => ⟨by rw [hpins]; exact hlevel (hlen ▸ hy), hout hpin⟩⟩

/-! Heartbeats received and missing -/

/-- The missing flag of a path, set. -/
theorem Dev.missesOn_setMissing {x y p : Nat} (hx : x < 3) (hy : y < 3) (hne : x ≠ y) (b : Bool) (d : Dev) :
    (d.setMissing x y p b).missesOn x y p = b := by
  have hpair : hbPair x y < 6 := by
    unfold hbPair
    split <;> omega
  by_cases hp : p = 0
  · simp only [Dev.setMissing, Dev.missesOn, if_pos hp]
    exact (Dev.testBit_setBit (f := F.TP_HB_LINK_MISSING) hpair ..).trans (if_pos rfl)
  · simp only [Dev.setMissing, Dev.missesOn, if_neg hp]
    exact (Dev.testBit_setBit (f := F.TP_HB_PIN_MISSING) hpair ..).trans (if_pos rfl)

theorem Dev.missesOn_pathFault (x y a b p : Nat) (d : Dev) : (d.pathFault x y).missesOn a b p = d.missesOn a b p := by
  rw [Dev.missesOn, (Dev.pathFault_keeps ..).2 _ _ _ (by decide), (Dev.pathFault_keeps ..).2 _ _ _ (by decide), Dev.missesOn]

theorem Dev.becomesMissing_shows {x y p : Nat} (hx : x < 3) (hy : y < 3) (hne : x ≠ y) (d : Dev) : (d.becomesMissing x y p).missesOn x y p = true := by
  unfold Dev.becomesMissing
  split
  · assumption
  · dsimp only
    split
    · exact Dev.missesOn_setMissing hx hy hne true d
    · exact (Dev.missesOn_pathFault ..).trans (Dev.missesOn_setMissing hx hy hne true d)

/-- A beat that is in time, taken. -/
def Dev.beatTaken (x y p : Nat) (d : Dev) : Dev :=
  { d with tp := { d.tp with hbSeen := setNth d.tp.hbSeen (hbAt x y p) true, hbMiss := setNth d.tp.hbMiss (hbAt x y p) 0 } }

theorem heartbeatReceived_present {x y p seq : Nat} (hne : x ≠ y) (hs : d.sends y = true) (hrun : d.tp.period ≠ 0)
    (hin : d.now ≤ d.tp.period - 1 + 1000) (hseq : p = 1 ∨ seq = nth d.tp.hbSeq y 0) : heartbeatReceived x y p seq d =
      if d.missesOn x y p && d.missesOn x y (1 - p) then ((d.beatTaken x y p).setMissing x y p false).pathFault x y
      else (d.beatTaken x y p).setMissing x y p false := by
  have hpresent : (p == 1 || seq == nth d.tp.hbSeq y 0) = true := by simpa using hseq
  unfold heartbeatReceived
  dsimp only
  rw [if_neg (by simp [hne, hs, hrun, hin, hpresent])]
  rfl

theorem heartbeatReceived_shows {x y p seq : Nat} (hx : x < 3) (hy : y < 3) (hne : x ≠ y) (hs : d.sends y = true) (hrun : d.tp.period ≠ 0)
    (hin : d.now ≤ d.tp.period - 1 + 1000) (hseq : p = 1 ∨ seq = nth d.tp.hbSeq y 0) : ∃ e : Dev, heartbeatReceived x y p seq d = e ∧
      e.missesOn x y p = false ∧ e.tp.hbMiss = setNth d.tp.hbMiss (hbAt x y p) 0 ∧ e.tp.hbSeen = setNth d.tp.hbSeen (hbAt x y p) true := by
  have htaken : ((d.beatTaken x y p).setMissing x y p false).tp = (d.beatTaken x y p).tp := (Dev.setMissing_keeps ..).1 .tp (by decide)
  refine ⟨_, heartbeatReceived_present hne hs hrun hin hseq, ?_⟩
  split
  · have htp : (((d.beatTaken x y p).setMissing x y p false).pathFault x y).tp = (d.beatTaken x y p).tp :=
      ((Dev.pathFault_keeps x y _).1 .tp (by decide)).trans htaken
    exact ⟨(Dev.missesOn_pathFault ..).trans (Dev.missesOn_setMissing hx hy hne ..), by rw [htp]; rfl, by rw [htp]; rfl⟩
  · exact ⟨Dev.missesOn_setMissing hx hy hne .., by rw [htaken]; rfl, by rw [htaken]; rfl⟩

end beats

/-- Settles O50: digests by what the judgement and the comparison show, heartbeats by what the fence logic carries through. -/
theorem digestsAndHeartbeats : Obligations.DigestsAndHeartbeats := by
  unfold Obligations.DigestsAndHeartbeats
  refine ⟨?_, ?_⟩
  · rintro s dt d rfl hl
    refine ⟨fun ch t upset g j hg hj hcomp hopen => ⟨fun hex => ?_, fun hex => ?_, fun cy hcy => Dev.tileDigest_found hcy⟩,
      fun t hopen => ⟨fun a b htri hl2 hne hbar => ?_, fun a b c htri hl3 hab hc => Dev.judgeDigests_triplex hopen htri hl3 hab hc⟩,
      fun g hk hidle hlen => Dev.digestAtDe_idle (Nat.lt_of_lt_of_eq g.isLt hlen.symm) hk hidle, ?_⟩
    · refine exec_live hl rfl ((inputDigest_found hg hj hcomp hopen).trans ?_)
      rw [hex, if_neg Bool.false_ne_true]
      rfl
    · exact exec_live hl rfl ((inputDigest_found hg hj hcomp hopen).trans (if_pos hex))
    · rw [Dev.judgeDigests_duplex hopen htri hl2 hne hbar]
      exact ⟨congrArg VoteSt.barred (Dev.vote_modVote ..), rfl⟩
    · intro g uA uB uC a b hlen ha hb hc hk hde hdig hserve
      subst ha hc
      obtain ⟨e, he, hcycle, hagree, hdigK, hodd⟩ := stateDigestCompare_shows (uA := uA) (uB := uB) (uC := uC)
        (Nat.lt_of_lt_of_eq g.isLt hlen.symm) hk hde hdig hserve hb
      exact ⟨e, exec_live hl rfl he, hcycle, hagree, hdigK, hodd⟩
  · rintro s dt d rfl hl
    refine ⟨fun hbuilt hnew => ?_, fun x y p seq hne hs hrun hin hseq => ?_, fun x y p hne hobs hs hrun hseen hmiss hout hmis => ⟨?_, ?_⟩⟩
    · obtain ⟨e, he, hperiod, hbeats⟩ := heartbeatPeriod_shows hbuilt hnew
      exact ⟨e, exec_live hl rfl he, hperiod, hbeats⟩
    · have hpath : p.val = 1 ∨ seq = nth (s.seen dt).tp.hbSeq y.val 0 := hseq.imp_left (congrArg Fin.val)
      obtain ⟨e, he, hshows⟩ := heartbeatReceived_shows x.isLt y.isLt (Fin.val_ne_of_ne hne) hs hrun hin hpath
      exact ⟨e, exec_live hl rfl he, hshows⟩
    · refine exec_live hl rfl ?_
      unfold heartbeatMissing
      exact if_pos ⟨Fin.val_ne_of_ne hne, hobs, hs, hrun, hseen, hmiss, hout, hmis⟩
    · exact Dev.becomesMissing_shows x.isLt y.isLt (Fin.val_ne_of_ne hne) _

end Sys2Proof.Machine
end

section
/-! PROOF. Commands of a transfer channel (R449, R462). -/

namespace Sys2Proof.Machine

/-! A shadow word that is none of the register's -/

/-- A device whose transfer channel 0 is IDLE and of context 0, with a valid shadow descriptor whose last word is beyond the 32 bits of its register. -/
def overfullShadow : Dev :=
  let d := ((Dev.reset.flag F.GL_READY_DMA true).set F.HC_CTX_STAT_STATE 1 0).set F.DM_CH_STAT_STATE 1 0
  let d := ((d.set F.DM_CH_SH_SHADOW 0x1000 0 0).set F.DM_CH_SH_SHADOW 64 0 4).set F.DM_CH_SH_SHADOW 0x40000000 0 5
  { d with bank := d.bank.insert ⟨F.DM_CH_SH_SHADOW, 0, 7⟩ 0x100000000 }

/-- The device as ARM finds it. -/
def overfullShadowSeen : Dev := State.seen ⟨overfullShadow, []⟩ 0

theorem overfullShadowSeen_live : overfullShadowSeen.live = true := by decide +kernel

theorem overfullShadowSeen_arms : overfullShadowSeen.dma.length = 32 ∧ overfullShadowSeen.refusal 0 true 0x90100 = none ∧
    overfullShadowSeen.dmaCheck 0 0 3 = 0 ∧ overfullShadowSeen.dmaState 0 = 1 := by decide +kernel

theorem overfullShadowSeen_word : (overfullShadowSeen.shadow 0).at' 7 = 0x100000000 := by decide +kernel

/-- ARM leaves 32 bits of the word in the active set. -/
theorem arm_overfull : (arm 0 0 overfullShadowSeen).get F.DM_CH_ACT_ACTIVE 0 7 = 0 := by decide +kernel

/-- No reaction changes an active descriptor. -/
theorem State.settled_active (s : State) (d : Dev) (n j : Nat) : (s.settled d).dev.get F.DM_CH_ACT_ACTIVE n j = d.get F.DM_CH_ACT_ACTIVE n j := by
  rw [State.settled, (Dev.errUpdate_keeps _).2 _ _ _ (by decide), (Dev.settleN_keeps ..).2 _ _ _ (by decide)]

/-- Refutes O58: the active set is to be the shadow set after ARM, for every state; a shadow word of more than the 32 bits of its register
passes the checks of R447 and is not taken as it is. -/
theorem not_dmaCommands : ¬ Obligations.DmaCommands := by
  intro h
  obtain ⟨hlen, hacc, hcheck, hidle⟩ := overfullShadowSeen_arms
  obtain ⟨hcmds, -⟩ := h ⟨overfullShadow, []⟩ 0 overfullShadowSeen 0 0 rfl overfullShadowSeen_live hlen
  obtain ⟨-, -, -, harm, -⟩ := hcmds hacc
  obtain ⟨e, hclaim, hactive, -⟩ := (harm hcheck).1 hidle
  have hexec := exec_live (c := .arm 0 0 0) (s := ⟨overfullShadow, []⟩) overfullShadowSeen_live rfl rfl
  have hsame := congrArg (fun t : State => t.dev.get F.DM_CH_ACT_ACTIVE 0 7) (Host.Outcome.next.inj (hclaim.symm.trans hexec))
  have hword : e.get F.DM_CH_ACT_ACTIVE 0 7 = 0x100000000 :=
    (congrArg (fun w : Desc => w.at' 7) hactive).trans overfullShadowSeen_word
  have hnone : e.get F.DM_CH_ACT_ACTIVE 0 7 = 0 :=
    (State.settled_active ⟨overfullShadow, []⟩ e 0 7).symm.trans (hsame.trans ((State.settled_active ..).trans arm_overfull))
  exact absurd (hword.symm.trans hnone) (by decide)

end Sys2Proof.Machine
end

section
/-! PROOF. A transfer channel under the operations on it (R447, R458, R459). -/

namespace Sys2Proof.Machine

section channel
variable {d : Dev} {n : Nat}

/-! A transfer channel under the operations on it -/

theorem Dev.dmaCh_modDma_self (h : n < d.dma.length) (f : DmaSt → DmaSt) : (d.modDma n f).dmaCh n = f (d.dmaCh n) := nth_setNth_self h _ _

theorem Dev.modDma_length (n : Nat) (f : DmaSt → DmaSt) (d : Dev) : (d.modDma n f).dma.length = d.dma.length := length_setNth ..

theorem Dev.dmaCh_of_dma {e : Dev} (h : e.dma = d.dma) (n : Nat) : e.dmaCh n = d.dmaCh n := congrArg (fun l => nth l n DmaSt.init) h

theorem Dev.dmaState_dmaSet_self (st n : Nat) (d : Dev) : (d.dmaSet st n).dmaState n = st % 16 := by
  rw [Dev.dmaState, Dev.dmaSet, Dev.setBit, Dev.get_set_other _ _ _ _ _ _ _ _ (by decide), Dev.get_set_self]
  rfl

/-- A fault stops the channel at its point (R459). -/
theorem Dev.dmaFault_shows (h : n < d.dma.length) (cause p : Nat) : ∃ e : Dev, d.dmaFault cause p n = e ∧ e.dmaState n = 6 ∧
    (e.dmaCh n).stopping = some (5, cause) ∧ (e.dmaCh n).stopAt = p := by
  have hlen : n < (d.cutReads n (p - (d.dmaCh n).pos - (d.dmaCh n).held.length)).dma.length := by
    rw [Dev.cutReads, Dev.modDma_length]
    exact h
  have hdma (e : Dev) : (e.dmaSet 6 n).dmaCh n = e.dmaCh n := Dev.dmaCh_of_dma ((Dev.dmaSet_keeps 6 n e).1 .dma (by decide)) n
  have hdrop (e : Dev) : (if (e.dmaCh n).asked = 0 then e.dropChanReads n else e).dmaCh n = e.dmaCh n := by
    split
    · exact Dev.dmaCh_of_dma ((Dev.dropChanReads_keeps n e).1 .dma (by decide)) n
    · rfl
  refine ⟨_, rfl, ?_, ?_, ?_⟩
  · exact Dev.dmaState_dmaSet_self ..
  · rw [Dev.dmaFault, hdma, hdrop, Dev.dmaCh_modDma_self hlen]
  · rw [Dev.dmaFault, hdma, hdrop, Dev.dmaCh_modDma_self hlen]

/-- What an event of a channel sets. -/
theorem Dev.dmaIrq_on {f : Fld} (hw : f.width = 1) (n : Nat) (d : Dev) : (d.dmaIrq f n).on f n = true := by
  have hon : (d.flag f true n).on f n = true := Dev.on_flag_self hw ..
  unfold Dev.dmaIrq
  dsimp only
  split
  · rw [Dev.on_of_keeps (Dev.sendMsi_keeps ..) (by rfl)]
    exact hon
  · exact hon

/-- The channel in the state that it enters, before the interrupt. -/
def Dev.dmaEntered (st cause n : Nat) (d : Dev) : Dev :=
  let d : Dev := (d.set F.DM_CH_DONE_DONE (d.dmaCh n).pos n).modDma n fun c =>
    { c with stopping := none, held := [], asked := 0, sent := [], snap := false, walking := none, burst := 0 }
  (d.dmaSet st n).set F.DM_CH_STAT_CAUSE cause n

/-- A state entered raises STOP, clears what a state without a transfer has not, and reports. -/
def Dev.stopShown (st n : Nat) (d : Dev) : Dev := if st = 4 ∨ st = 5 then d.dmaIrq F.DM_CH_IRQ_STOP n else d
def Dev.restCleared (st n : Nat) (d : Dev) : Dev := if st = 0 ∨ st = 1 then d.modDma n fun c => { c with flush := false, fetch := false } else d
def Dev.endReported (st cause n : Nat) (d : Dev) : Dev := if st = 5 ∧ cause ≠ 4 then d.raise 0x15F n else d

theorem Dev.dmaEnter_eq (st cause n : Nat) (d : Dev) : d.dmaEnter st cause n =
    (((d.dmaEntered st cause n).stopShown st n).restCleared st n).endReported st cause n := rfl

theorem Dev.stopShown_keeps (st n : Nat) (d : Dev) : Dev.keeps ⟨[.out, .host], [F.DM_CH_IRQ_STOP], []⟩ d (d.stopShown st n) :=
  Dev.keeps_ite (Dev.dmaIrq_keeps (by decide) _ _ (by decide) (Dev.keeps_refl ..)) (Dev.keeps_refl ..)

theorem Dev.restCleared_keeps (st n : Nat) (d : Dev) : Dev.keeps ⟨[.dma], [], []⟩ d (d.restCleared st n) :=
  Dev.keeps_ite (Dev.modDma_keeps ..) (Dev.keeps_refl ..)

theorem Dev.endReported_keeps (st cause n : Nat) (d : Dev) : Dev.keeps ⟨[.fc], [], []⟩ d (d.endReported st cause n) :=
  Dev.keeps_ite (Dev.raise_keeps ..) (Dev.keeps_refl ..)

theorem Dev.dmaEnter_follows (st cause n : Nat) (d : Dev) :
    Dev.keeps ⟨[.out, .host, .dma, .fc], [F.DM_CH_IRQ_STOP], []⟩ (d.dmaEntered st cause n) (d.dmaEnter st cause n) := by
  rw [Dev.dmaEnter_eq]
  exact Dev.keeps_step (by decide) (Dev.endReported_keeps ..) (Dev.keeps_step (by decide) (Dev.restCleared_keeps ..)
    (Dev.keeps_step (by decide) (Dev.stopShown_keeps ..) (Dev.keeps_refl ..)))

/-- A state entered, with its cause and the bytes moved (R459, R461). -/
theorem Dev.dmaEnter_shows (h : n < d.dma.length) (st cause : Nat) : (d.dmaEnter st cause n).dmaState n = st % 16 ∧
    (d.dmaEnter st cause n).get F.DM_CH_STAT_CAUSE n = cause % 16 ∧ ((d.dmaEnter st cause n).dmaCh n).stopping = none ∧
    (d.dmaEnter st cause n).get F.DM_CH_DONE_DONE n = (d.dmaCh n).pos % 2 ^ 32 := by
  have hkeep := Dev.dmaEnter_follows st cause n d
  refine ⟨?_, ?_, ?_, ?_⟩
  · rw [Dev.dmaState, hkeep.2 _ _ _ (by decide), Dev.dmaEntered, Dev.get_set_other _ _ _ _ _ _ _ _ (by decide)]
    exact Dev.dmaState_dmaSet_self ..
  · rw [hkeep.2 _ _ _ (by decide)]
    exact Dev.get_set_self ..
  · have hlen : n < (d.set F.DM_CH_DONE_DONE (d.dmaCh n).pos n).dma.length := h
    have hrest (e : Dev) (he : n < e.dma.length) : ((e.restCleared st n).dmaCh n).stopping = (e.dmaCh n).stopping := by
      unfold Dev.restCleared
      split
      · rw [Dev.dmaCh_modDma_self he]
      · rfl
    have hstop (e : Dev) : (e.stopShown st n).dma = e.dma := (Dev.stopShown_keeps st n e).1 .dma (by decide)
    have hset (e : Dev) : (e.dmaSet st n).dma = e.dma := (Dev.dmaSet_keeps st n e).1 .dma (by decide)
    have hentered : (d.dmaEntered st cause n).dma = ((d.set F.DM_CH_DONE_DONE (d.dmaCh n).pos n).modDma n fun c =>
      { c with stopping := none, held := [], asked := 0, sent := [], snap := false, walking := none, burst := 0 }).dma := hset _
    rw [Dev.dmaEnter_eq, Dev.dmaCh_of_dma ((Dev.endReported_keeps ..).1 .dma (by decide)), hrest, Dev.dmaCh_of_dma (hstop _),
      Dev.dmaCh_of_dma hentered, Dev.dmaCh_modDma_self hlen]
    rw [hstop, hentered, Dev.modDma_length]
    exact hlen
  · have hset (e : Dev) (v : Nat) : ((e.dmaSet st n).set F.DM_CH_STAT_CAUSE v n).get F.DM_CH_DONE_DONE n = e.get F.DM_CH_DONE_DONE n := by
      rw [Dev.get_set_other _ _ _ _ _ _ _ _ (by decide), (Dev.dmaSet_keeps ..).2 _ _ _ (by decide)]
    rw [hkeep.2 _ _ _ (by decide), Dev.dmaEntered]
    exact (hset ..).trans (Dev.get_set_self ..)

/-! A descriptor loaded -/

/-- The words of the active set, from those written. -/
theorem Dev.active_written {w : Desc} (hlen : w.length = 8) (hword : ∀ j, j < 8 → w.at' j < 0x100000000) {e : Dev}
    (h : ∀ j, j < 8 → e.get F.DM_CH_ACT_ACTIVE n j = w.at' j % 2 ^ 32) : e.active n = w := by
  refine List.ext_getElem (by simp [Dev.active, hlen]) fun j hj hj' => ?_
  have hlt : j < 8 := by simpa [Dev.active] using hj
  have hget : (e.active n)[j] = e.get F.DM_CH_ACT_ACTIVE n j := by simp [Dev.active]
  refine hget.trans ((h j hlt).trans ((Nat.mod_eq_of_lt (hword j hlt)).trans ?_))
  simp [Desc.at', nth, hj']

/-- The active set after its words are written one by one. -/
theorem Dev.activeSet_word (w : Desc) {j : Nat} (hj : j < 8) (d : Dev) :
    (d.each (List.range 8) fun j d => d.set F.DM_CH_ACT_ACTIVE (w.at' j) n j).get F.DM_CH_ACT_ACTIVE n j = w.at' j % 2 ^ 32 := by
  refine Dev.each_reaches (P := fun e => e.get F.DM_CH_ACT_ACTIVE n j = w.at' j % 2 ^ 32) (f := fun j d => d.set F.DM_CH_ACT_ACTIVE (w.at' j) n j)
    (List.mem_range.mpr hj) (fun e => Dev.get_set_self ..) (fun k e he => ?_) d
  by_cases hk : k = j
  · subst hk
    exact Dev.get_set_self ..
  · rwa [Dev.get_set_ne _ _ _ _ _ _ _ _ (by simpa using Ne.symm hk)]

/-- A descriptor loaded is the active one, and its passes count from 0. -/
theorem Dev.loadDesc_shows {w : Desc} (hlen : w.length = 8) (hword : ∀ j, j < 8 → w.at' j < 0x100000000) (d : Dev) :
    (d.loadDesc n w).active n = w ∧ (d.loadDesc n w).get F.DM_CH_PASS_PASS n = 0 ∧
    (d.loadDesc n w).get F.DM_CH_STAT_HOPS n = d.get F.DM_CH_STAT_HOPS n := by
  refine ⟨Dev.active_written hlen hword fun j hj => ?_, ?_, (Dev.loadDesc_keeps ..).2 _ _ _ (by decide)⟩
  · rw [Dev.loadDesc, (Dev.beginPass_keeps ..).2 _ _ _ (by decide), Dev.get_set_other _ _ _ _ _ _ _ _ (by decide)]
    exact Dev.activeSet_word w hj d
  · rw [Dev.loadDesc, (Dev.beginPass_keeps ..).2 _ _ _ (by decide), Dev.get_set_self]
    rfl

/-! The arbiter -/

theorem foldl_min_le {p : Nat → Nat} (l : List Nat) (m : Nat) : l.foldl (fun m n => min m (p n)) m ≤ m ∧
    ∀ k ∈ l, l.foldl (fun m n => min m (p n)) m ≤ p k := by
  induction l generalizing m with
  | nil => exact ⟨Nat.le_refl _, fun _ hk => absurd hk List.not_mem_nil⟩
  | cons x l ih =>
    obtain ⟨hm, hl⟩ := ih (min m (p x))
    refine ⟨hm.trans (Nat.min_le_left ..), fun k hk => ?_⟩
    rcases List.mem_cons.mp hk with rfl | hk
    · exact hm.trans (Nat.min_le_right ..)
    · exact hl k hk

/-- Channels of a port that are ready and of the best priority among them (R458). -/
def Dev.contenders (d : Dev) (port : Nat) : List Nat :=
  ((d.portChannels port).filter d.dmaReady).filter fun n =>
    d.get F.DM_CH_CFG_PRIO n == ((d.portChannels port).filter d.dmaReady).foldl (fun m n => min m (d.get F.DM_CH_CFG_PRIO n)) 3

theorem Dev.arbiter_mem {port : Nat} (h : d.arbiter port = some n) : n ∈ d.contenders port := by
  have hchoice : d.arbiter port = match nth d.host.moving port none with
    | some n => if (d.contenders port).contains n && d.goesOn n then some n else match (d.contenders port).find? fun m => decide (n < m) with
      | some m => some m
      | none => (d.contenders port).head?
    | none => (d.contenders port).head? := rfl
  rw [hchoice] at h
  split at h
  · split at h
    · next hgo =>
      cases h
      exact List.contains_iff_mem.mp (Bool.and_eq_true_iff.mp hgo).1
    · split at h
      · next hfind =>
        cases h
        exact List.mem_of_find?_eq_some hfind
      · exact List.mem_of_head? h
  · exact List.mem_of_head? h

/-- The arbiter's channel is a ready one of the port, and none that is ready there has a better priority. -/
theorem Dev.arbiter_best {port : Nat} (h : d.arbiter port = some n) : d.dmaReady n = true ∧ n ∈ d.portChannels port ∧
    ∀ m ∈ d.portChannels port, d.dmaReady m = true → d.get F.DM_CH_CFG_PRIO n ≤ d.get F.DM_CH_CFG_PRIO m := by
  obtain ⟨hin, hprio⟩ := List.mem_filter.mp (Dev.arbiter_mem h)
  obtain ⟨hport, hready⟩ := List.mem_filter.mp hin
  refine ⟨hready, hport, fun m hm hmr => ?_⟩
  rw [beq_iff_eq.mp hprio]
  exact (foldl_min_le (p := fun n => d.get F.DM_CH_CFG_PRIO n) _ 3).2 m (List.mem_filter.mpr ⟨hm, hmr⟩)

end channel

end Sys2Proof.Machine
end

section
/-! PROOF. How a transfer moves, ends and stops (R447, R450, R455, R457 to R459). -/

namespace Sys2Proof.Machine

section moves
variable {d : Dev} {n : Nat}

/-! At a boundary (R458) -/

/-- The device at a boundary of a port, before the arbiter: sources skipped, data asked for, what waited tried again. -/
def Dev.boundaryAsked (port : Nat) (d : Dev) : Dev :=
  let d : Dev := d.each (d.portChannels port) Dev.dmaSkip
  (d.each (d.portChannels port) Dev.dmaAsk).retryWaiting port

/-- The chosen channel goes on, or begins its burst. -/
def Dev.burstBegun (port n : Nat) (d : Dev) : Dev :=
  if nth d.host.moving port none = some n ∧ d.goesOn n then d else d.modDma n fun c => { c with burst := 0 }

/-- The channel that a port moves. -/
def Dev.movingSet (port : Nat) (n : Option Nat) (d : Dev) : Dev := { d with host := { d.host with moving := setNth d.host.moving port n } }

theorem dmaSegmentBoundary_idle {port : Nat} (harb : (d.boundaryAsked port).arbiter port = none) (bad : Bool) (errs : List StoreErr) :
    dmaSegmentBoundary port bad errs d = ((d.boundaryAsked port).movingSet port none).dmaShow port := by
  unfold dmaSegmentBoundary
  extract_lets skipped asked host
  have hasked : asked = d.boundaryAsked port := rfl
  rw [← hasked] at harb ⊢
  clear_value asked
  rw [harb]
  rfl

theorem dmaSegmentBoundary_moves {port : Nat} (harb : (d.boundaryAsked port).arbiter port = some n) (bad : Bool) (errs : List StoreErr) {e : Dev}
    (he : e = ((d.boundaryAsked port).burstBegun port n).movingSet port (some n)) : dmaSegmentBoundary port bad errs d =
      ((if (e.active n).srcKind = 3 then e.readStore errs else e).dmaSegment n bad 4).dmaShow port := by
  unfold dmaSegmentBoundary
  extract_lets skipped asked host
  have hasked : asked = d.boundaryAsked port := rfl
  rw [← hasked] at harb he
  clear_value asked
  rw [harb, he]
  rfl

theorem Dev.srcKind_burstBegun (port : Nat) (d : Dev) : (((d.burstBegun port n).movingSet port (some n)).active n).srcKind = (d.active n).srcKind := by
  unfold Dev.burstBegun
  split <;> rfl

theorem Dev.goesOn_iff (d : Dev) (n : Nat) : d.goesOn n = true ↔ (d.dmaCh n).burst + (d.segEnd n - (d.dmaCh n).pos) ≤ 512 ∧
    ((if (d.active n).toStore then (d.active n).src else (d.active n).dst) + (d.dmaCh n).pos) / 0x10000 =
      ((if (d.active n).toStore then (d.active n).src else (d.active n).dst) + (d.dmaCh n).pos - min (d.dmaCh n).pos (d.dmaCh n).burst) / 0x10000 := by
  simp [Dev.goesOn]

/-- The burst begins anew unless the moving channel goes on. -/
theorem Dev.burstBegun_of {port : Nat} {goes : Prop} {e : Dev} (hgoes : goes ↔ nth d.host.moving port none = some n ∧ d.goesOn n = true)
    (hgo : goes → e = d) (hstay : ¬ goes → e = d.modDma n fun c => { c with burst := 0 }) : e = d.burstBegun port n := by
  by_cases hg : goes
  · rw [hgo hg, Dev.burstBegun, if_pos (hgoes.mp hg)]
  · rw [hstay hg, Dev.burstBegun, if_neg fun h => hg (hgoes.mpr h)]

/-! Data that arrives (R459) -/

/-- Data that arrives is held. -/
def Dev.dataTaken (n : Nat) (l : List (BitVec 8)) (d : Dev) : Dev :=
  d.modDma n fun c => { c with held := c.held ++ l.take c.asked, asked := c.asked - (l.take c.asked).length, sent := arrived (l.take c.asked).length c.sent }

/-- With no read that no longer serves the channel, what arrives is its own. -/
theorem dmaReadCompletion_own {l : List (BitVec 8)} {ok : Bool} (hmove : d.dmaActive n = true ∨ d.dmaState n = 6) (hasked : (d.dmaCh n).asked ≠ 0)
    (hkind : (d.active n).srcKind = 0) (hlate : (d.dmaCh n).late = []) : dmaReadCompletion n l ok d =
      if ok then ((d.dataTaken n l).dmaAsk n).dmaShow (d.dmaOwner n / 4)
      else d.dmaFault 6 (max (d.dmaCh n).pos (((d.dmaCh n).pos + (d.dmaCh n).held.length) / 64 * 64)) n := by
  have hfirst : (d.dmaCh n).lateFirst = none := by
    rw [DmaSt.lateFirst, hlate]
    rfl
  have hmoves : (d.dmaActive n || d.dmaState n == 6) = true := by simpa using hmove
  unfold dmaReadCompletion
  rw [hfirst]
  dsimp only
  rw [hlate, List.length_nil, Dev.discard, if_neg (by simp [hmoves, hasked, hkind])]
  cases ok with
  | true => rfl
  | false => rfl

/-! Time that has run out (R423, R459) -/

/-- The reads that no longer serve a channel end with their time. -/
def Dev.lateExpired (n : Nat) (d : Dev) : Dev := d.modDma n fun c => { c with late := c.late.filter fun r => !d.timedOut r.ctx r.since }

/-- The link of a channel's port is lost while its context stays OPEN; its flush or fetch, or a source read, has timed out. -/
def Dev.dmaLinkLost (d : Dev) (n : Nat) : Bool := d.dmaActive n && d.isOpen (d.dmaOwner n) && !d.on F.HC_PORT_LINK_UP (d.dmaOwner n / 4)
def Dev.dmaOwnTimedOut (d : Dev) (n : Nat) : Bool := d.dmaActive n && !(d.ownRead n).isEmpty && d.timedOut (d.dmaOwner n) (d.dmaCh n).since
def Dev.dmaSourceTimedOut (d : Dev) (n : Nat) : Bool :=
  (d.dmaActive n || d.dmaState n == 6) && (d.dmaCh n).sent.any fun r => d.timedOut (d.dmaOwner n) r.2

theorem Dev.lateExpired_ch (h : n < d.dma.length) : (d.lateExpired n).dmaCh n =
    { d.dmaCh n with late := (d.dmaCh n).late.filter fun r => !d.timedOut r.ctx r.since } := Dev.dmaCh_modDma_self h _

theorem Dev.ownRead_lateExpired (h : n < d.dma.length) : (d.lateExpired n).ownRead n = d.ownRead n := by
  unfold Dev.ownRead
  rw [Dev.lateExpired_ch h]
  rfl

theorem dmaReadTimeout_eq (h : n < d.dma.length) : dmaReadTimeout n d =
    if (d.dmaLinkLost n && ((d.dmaCh n).flush || (d.dmaCh n).fetch)) || d.dmaOwnTimedOut n then (d.lateExpired n).dmaFault 5 (d.dmaCh n).pos n
    else if d.dmaLinkLost n || d.dmaSourceTimedOut n then (d.lateExpired n).dmaFault 5 (if (d.active n).srcKind = 0 ∨ (d.active n).srcKind = 2 then
        max (d.dmaCh n).pos (((d.dmaCh n).pos + (d.dmaCh n).held.length) / 64 * 64) else (d.dmaCh n).pos) n
    else d.lateExpired n := by
  have hsame : dmaReadTimeout n d =
    if ((d.lateExpired n).dmaLinkLost n && (((d.lateExpired n).dmaCh n).flush || ((d.lateExpired n).dmaCh n).fetch)) || (d.lateExpired n).dmaOwnTimedOut n then
      (d.lateExpired n).dmaFault 5 ((d.lateExpired n).dmaCh n).pos n
    else if (d.lateExpired n).dmaLinkLost n || (d.lateExpired n).dmaSourceTimedOut n then (d.lateExpired n).dmaFault 5
        (if ((d.lateExpired n).active n).srcKind = 0 ∨ ((d.lateExpired n).active n).srcKind = 2 then max ((d.lateExpired n).dmaCh n).pos
          ((((d.lateExpired n).dmaCh n).pos + ((d.lateExpired n).dmaCh n).held.length) / 64 * 64) else ((d.lateExpired n).dmaCh n).pos) n
    else d.lateExpired n := rfl
  have hown : (d.lateExpired n).dmaOwnTimedOut n = d.dmaOwnTimedOut n := by
    rw [Dev.dmaOwnTimedOut, Dev.ownRead_lateExpired h, Dev.lateExpired_ch h]
    rfl
  have hsource : (d.lateExpired n).dmaSourceTimedOut n = d.dmaSourceTimedOut n := by
    rw [Dev.dmaSourceTimedOut, Dev.lateExpired_ch h]
    rfl
  rw [hsame, hown, hsource, Dev.lateExpired_ch h]
  rfl

/-- With no time run out and no link lost the reads that no longer serve the channel end with theirs. -/
theorem dmaReadTimeout_rest (h : n < d.dma.length) (hlost : d.dmaLinkLost n = false) (hown : d.dmaOwnTimedOut n = false)
    (hsource : d.dmaSourceTimedOut n = false) : dmaReadTimeout n d = d.lateExpired n := by
  rw [dmaReadTimeout_eq h, if_neg (by simp [hlost, hown]), if_neg (by simp [hlost, hsource])]

/-- A flush or a fetch that does not come stops the channel where it stands. -/
theorem dmaReadTimeout_ownRead (h : n < d.dma.length)
    (hdue : d.dmaOwnTimedOut n = true ∨ d.dmaLinkLost n = true ∧ ((d.dmaCh n).flush = true ∨ (d.dmaCh n).fetch = true)) :
    dmaReadTimeout n d = (d.lateExpired n).dmaFault 5 (d.dmaCh n).pos n := by
  refine (dmaReadTimeout_eq h).trans (if_pos ?_)
  rcases hdue with hown | ⟨hlost, hread⟩
  · simp [hown]
  · simp [hlost, hread]

/-- Source data that does not come stops the channel at the first of its segments. -/
theorem dmaReadTimeout_source (h : n < d.dma.length) (hown : d.dmaOwnTimedOut n = false) (hflush : (d.dmaCh n).flush = false)
    (hfetch : (d.dmaCh n).fetch = false) (hdue : d.dmaLinkLost n = true ∨ d.dmaSourceTimedOut n = true)
    (hkind : (d.active n).srcKind = 0 ∨ (d.active n).srcKind = 2) :
    dmaReadTimeout n d = (d.lateExpired n).dmaFault 5 (max (d.dmaCh n).pos (((d.dmaCh n).pos + (d.dmaCh n).held.length) / 64 * 64)) n := by
  rw [dmaReadTimeout_eq h, if_neg (by simp [hown, hflush, hfetch]), if_pos (by simpa using hdue), if_pos hkind]

/-! The end of a pass (R450, R455) -/

/-- A pass counted, with the bytes it moved. -/
def Dev.passCounted (n : Nat) (d : Dev) : Dev :=
  let e : Dev := d.set F.DM_CH_DONE_DONE (d.active n).length' n
  (if (d.active n).irqFull then e.dmaIrq F.DM_CH_IRQ_FULL n else e).count F.DM_CH_PASS_PASS n

theorem Dev.passEnd_eq (n : Nat) (d : Dev) : d.passEnd n =
    if (d.passCounted n).on F.DM_CH_STAT_ARMED n then (d.passCounted n).loadShadow n
    else if (d.active n).repeat' then (d.passCounted n).beginPass n false
    else if (d.active n).chain then (d.passCounted n).fetchNext n
    else ((d.passCounted n).dmaEnter 1 1 n).dmaIrq F.DM_CH_IRQ_DONE n := rfl

theorem Dev.passCounted_keeps (n : Nat) (d : Dev) :
    Dev.keeps ⟨[.out, .host], [F.DM_CH_DONE_DONE, F.DM_CH_IRQ_FULL, F.DM_CH_PASS_PASS], []⟩ d (d.passCounted n) := by
  unfold Dev.passCounted
  refine Dev.keeps_count _ _ _ (by decide) (Dev.keeps_ite ?_ ?_)
  · exact Dev.dmaIrq_keeps (by decide) _ _ (by decide) (Dev.keeps_set _ _ _ _ (by decide) (Dev.keeps_refl ..))
  · exact Dev.keeps_set _ _ _ _ (by decide) (Dev.keeps_refl ..)

theorem Dev.passCounted_shows (n : Nat) (d : Dev) :
    (d.passCounted n).get F.DM_CH_PASS_PASS n = satInc 0xFFFFFFFF (d.get F.DM_CH_PASS_PASS n) ∧
    ((d.active n).irqFull = true → (d.passCounted n).on F.DM_CH_IRQ_FULL n = true) := by
  have hkeep : Dev.keeps ⟨[.out, .host], [F.DM_CH_DONE_DONE, F.DM_CH_IRQ_FULL], []⟩ d
      (if (d.active n).irqFull then (d.set F.DM_CH_DONE_DONE (d.active n).length' n).dmaIrq F.DM_CH_IRQ_FULL n
        else d.set F.DM_CH_DONE_DONE (d.active n).length' n) :=
    Dev.keeps_ite (Dev.dmaIrq_keeps (by decide) _ _ (by decide) (Dev.keeps_set _ _ _ _ (by decide) (Dev.keeps_refl ..)))
      (Dev.keeps_set _ _ _ _ (by decide) (Dev.keeps_refl ..))
  refine ⟨?_, fun hfull => ?_⟩
  · rw [Dev.passCounted, Dev.get_count_self, hkeep.2 _ _ _ (by decide)]
    rfl
  · rw [Dev.passCounted, Dev.count, Dev.on_set_other _ _ _ _ _ _ _ _ (by decide), if_pos hfull]
    exact Dev.dmaIrq_on rfl ..

theorem Dev.dmaEnter_irqFull (st cause : Nat) (d : Dev) : (d.dmaEnter st cause n).on F.DM_CH_IRQ_FULL n = d.on F.DM_CH_IRQ_FULL n := by
  have hentered : Dev.keeps ⟨[.dma], [F.DM_CH_DONE_DONE, F.DM_CH_STAT_STATE, F.DM_FREE_FREE, F.DM_CH_STAT_CAUSE], []⟩ d (d.dmaEntered st cause n) :=
    Dev.keeps_set _ _ _ _ (by decide) (Dev.keeps_step (by decide) (Dev.dmaSet_keeps ..) (Dev.keeps_step (by decide) (Dev.modDma_keeps ..)
      (Dev.keeps_set _ _ _ _ (by decide) (Dev.keeps_refl ..))))
  rw [Dev.on_of_keeps (Dev.dmaEnter_follows ..) (by decide), Dev.on_of_keeps hentered (by decide)]

/-- A pass with nothing after it leaves the channel IDLE and DONE. -/
theorem Dev.passEnd_last (h : n < d.dma.length) (harm : d.on F.DM_CH_STAT_ARMED n = false) (hrep : (d.active n).repeat' = false)
    (hchain : (d.active n).chain = false) : ∃ e : Dev, d.passEnd n = e ∧ e.dmaState n = 1 ∧ e.get F.DM_CH_STAT_CAUSE n = 1 ∧
      e.get F.DM_CH_DONE_DONE n = (d.dmaCh n).pos % 2 ^ 32 ∧ e.on F.DM_CH_IRQ_DONE n = true ∧
      ((d.active n).irqFull = true → e.on F.DM_CH_IRQ_FULL n = true) ∧
      e.get F.DM_CH_PASS_PASS n = satInc 0xFFFFFFFF (d.get F.DM_CH_PASS_PASS n) := by
  have harm' : (d.passCounted n).on F.DM_CH_STAT_ARMED n = false := by
    rw [Dev.on_of_keeps (Dev.passCounted_keeps n d) (by decide), harm]
  have hdma : (d.passCounted n).dma = d.dma := (Dev.passCounted_keeps n d).1 .dma (by decide)
  have hirq : Dev.keeps ⟨[.out, .host], [F.DM_CH_IRQ_DONE], []⟩ ((d.passCounted n).dmaEnter 1 1 n)
      (((d.passCounted n).dmaEnter 1 1 n).dmaIrq F.DM_CH_IRQ_DONE n) := Dev.dmaIrq_keeps (by decide) _ _ (by decide) (Dev.keeps_refl ..)
  obtain ⟨hstate, hcause, -, hdone⟩ := Dev.dmaEnter_shows (d := d.passCounted n) (n := n) (hdma ▸ h) 1 1
  obtain ⟨hpass, hfull⟩ := Dev.passCounted_shows n d
  refine ⟨((d.passCounted n).dmaEnter 1 1 n).dmaIrq F.DM_CH_IRQ_DONE n, ?_, ?_, ?_, ?_, Dev.dmaIrq_on rfl .., fun hf => ?_, ?_⟩
  · rw [Dev.passEnd_eq, harm', hrep, hchain]
    rfl
  · rw [Dev.dmaState, hirq.2 _ _ _ (by decide)]
    exact hstate
  · rw [hirq.2 _ _ _ (by decide), hcause]
  · rw [hirq.2 _ _ _ (by decide), hdone, Dev.dmaCh_of_dma hdma]
  · rw [Dev.on_of_keeps hirq (by decide), Dev.dmaEnter_irqFull, hfull hf]
  · rw [hirq.2 _ _ _ (by decide), (Dev.dmaEnter_keeps ..).2 _ _ _ (by decide), hpass]

theorem dmaPassEnd_due (hact : d.dmaActive n = true) (hflush : (d.dmaCh n).flush = false) (hfetch : (d.dmaCh n).fetch = false)
    (hpos : (d.dmaCh n).pos = (d.active n).length') (hne : (d.dmaCh n).pos ≠ 0) : dmaPassEnd n d = d.passEnd n := by
  unfold dmaPassEnd
  exact if_pos (by simp [hact, hflush, hfetch, hpos, hpos ▸ hne])

/-! Flushes and descriptors that arrive (R447, R457) -/

theorem Dev.endLate_none {kind : Nat} (h : ∀ r ∈ (d.dmaCh n).late, r.kind ≠ kind) : d.endLate n kind = none := by
  rw [Dev.endLate, List.find?_eq_none.mpr fun r hr => by simpa using h r hr]

theorem dmaFlushComplete_own {ok : Bool} (hact : d.dmaActive n = true) (hflush : (d.dmaCh n).flush = true)
    (hlate : ∀ r ∈ (d.dmaCh n).late, r.kind ≠ 1) : dmaFlushComplete n ok d = if !ok then d.dmaFault 6 (d.dmaCh n).pos n
      else if (d.dmaCh n).pos = (d.active n).length' then (d.modDma n fun c => { c with flush := false }).passEnd n
      else ((d.modDma n fun c => { c with flush := false }).atHalf n).dmaAsk n := by
  unfold dmaFlushComplete
  rw [Dev.endLate_none hlate]
  dsimp only
  rw [if_neg (by simp [hact, hflush])]
  rfl

/-- The bytes of a descriptor that has arrived, and its words. -/
def Dev.descBytes (n : Nat) (l : List (BitVec 8)) (d : Dev) : List (BitVec 8) :=
  if testBit ((d.active n).at' 7) 31 then d.work.readBytes ((d.active n).next % 0x1000000000000) 32 else l
def descOf (b : List (BitVec 8)) : Desc := (List.range 8).map fun j => leNat ((b.drop (4 * j)).take 4)

theorem dmaDescriptorFetch_own {l : List (BitVec 8)} {ok : Bool} (hact : d.dmaActive n = true) (hfetch : (d.dmaCh n).fetch = true)
    (hlate : testBit ((d.active n).at' 7) 31 = true ∨ ∀ r ∈ (d.dmaCh n).late, r.kind ≠ 2) : dmaDescriptorFetch n l ok d =
      if !ok ∨ (d.descBytes n l).length ≠ 32 then d.dmaFault 6 (d.dmaCh n).pos n
      else if d.descRule (d.dmaOwner n) (descOf (d.descBytes n l)) ≠ 0 then
        (d.set F.DM_CH_DETAIL_RULE (d.descRule (d.dmaOwner n) (descOf (d.descBytes n l))) n).dmaFault 8 (d.dmaCh n).pos n
      else (d.set F.DM_CH_STAT_HOPS (d.get F.DM_CH_STAT_HOPS n + 1) n).loadDesc n (descOf (d.descBytes n l)) := by
  have hnone : (if testBit ((d.active n).at' 7) 31 && (d.dmaCh n).fetch then none else d.endLate n 2) = none := by
    rcases hlate with hin | hnone
    · rw [hin, hfetch]
      rfl
    · rw [Dev.endLate_none hnone]
      exact ite_self none
  unfold dmaDescriptorFetch
  dsimp only
  rw [hnone]
  dsimp only
  rw [if_neg (by simp [hact, hfetch])]
  rfl

theorem leNat_lt (b : List (BitVec 8)) : leNat b < 256 ^ b.length := by
  induction b with
  | nil => exact Nat.one_pos
  | cons x b ih =>
    have hx : x.toNat < 256 := x.isLt
    rw [leNat, List.length_cons, Nat.pow_succ]
    omega

theorem descOf_words (b : List (BitVec 8)) : (descOf b).length = 8 ∧ ∀ j, j < 8 → (descOf b).at' j < 0x100000000 := by
  refine ⟨rfl, fun j hj => ?_⟩
  have hword : (descOf b).at' j = leNat ((b.drop (4 * j)).take 4) := by simp [descOf, Desc.at', nth, hj]
  rw [hword]
  exact (leNat_lt _).trans_le (Nat.pow_le_pow_right (by decide) (List.length_take_le ..))

/-- A valid descriptor that has arrived is the active one. -/
theorem dmaDescriptorFetch_loads {l : List (BitVec 8)} (hact : d.dmaActive n = true) (hfetch : (d.dmaCh n).fetch = true)
    (hlate : testBit ((d.active n).at' 7) 31 = true ∨ ∀ r ∈ (d.dmaCh n).late, r.kind ≠ 2) (hlen : (d.descBytes n l).length = 32)
    (hrule : d.descRule (d.dmaOwner n) (descOf (d.descBytes n l)) = 0) : ∃ e : Dev, dmaDescriptorFetch n l true d = e ∧
      e.active n = descOf (d.descBytes n l) ∧ e.get F.DM_CH_STAT_HOPS n = (d.get F.DM_CH_STAT_HOPS n + 1) % 2 ^ 16 ∧
      e.get F.DM_CH_PASS_PASS n = 0 := by
  obtain ⟨hwords, hsize⟩ := descOf_words (d.descBytes n l)
  obtain ⟨hactive, hpass, hhops⟩ := Dev.loadDesc_shows hwords hsize (d.set F.DM_CH_STAT_HOPS (d.get F.DM_CH_STAT_HOPS n + 1) n) (n := n)
  refine ⟨_, ?_, hactive, hhops.trans (Dev.get_set_self ..), hpass⟩
  rw [dmaDescriptorFetch_own hact hfetch hlate, if_neg (by simp [hlen]), if_neg (by simp [hrule])]

end moves

section outcome
variable {s : State} {d : Dev}

/-- A fault as the outcome of a command. -/
theorem dmaFault_outcome {n cause p : Nat} {o : Host.Outcome State Fault Refusal} (h : n < d.dma.length)
    (ho : o = .next (s.settled (d.dmaFault cause p n))) : ∃ e : Dev, o = .next (s.settled e) ∧ e.dmaState n = 6 ∧
      (e.dmaCh n).stopping = some (5, cause) ∧ (e.dmaCh n).stopAt = p := by
  obtain ⟨e, he, hshows⟩ := Dev.dmaFault_shows h cause p
  exact ⟨e, he ▸ ho, hshows⟩

end outcome

/-- Settles O59: boundaries by the arbiter, ends and stops by the state that the channel enters. -/
theorem dmaMoves : Obligations.DmaMoves := by
  unfold Obligations.DmaMoves
  rintro s dt d rfl hl hlen
  have hn (n : Fin 32) : n.val < (s.seen dt).dma.length := Nat.lt_of_lt_of_eq n.isLt hlen.symm
  refine ⟨?_, fun n => ⟨?_, ?_⟩, ?_, fun n hact => ⟨?_, ?_, ?_⟩, ?_⟩
  · rintro port reads d0 d1 rfl hd1
    have hasked : d1 = (s.seen dt).boundaryAsked port.val := hd1
    refine ⟨fun harb => ?_, fun n goes d2 d3 harb hgoes hgo hstay hd3 => ?_⟩
    · rw [hasked] at harb ⊢
      exact exec_live hl rfl (dmaSegmentBoundary_idle harb ..)
    · have hburst : d2 = d1.burstBegun port.val n :=
        Dev.burstBegun_of (hgoes.trans (and_congr Iff.rfl (Dev.goesOn_iff ..).symm)) hgo hstay
      have hmoving : d3 = (((s.seen dt).boundaryAsked port.val).burstBegun port.val n).movingSet port.val (some n) := by
        rw [hd3, hburst, hasked]
        rfl
      have hkind : (d3.active n).srcKind = (d1.active n).srcKind := by
        rw [hmoving, ← hasked, Dev.srcKind_burstBegun]
      rw [hasked] at harb
      obtain ⟨hready, hport, hbest⟩ := Dev.arbiter_best harb
      refine ⟨hasked ▸ hready, hasked ▸ hport, hasked ▸ hbest, fun hk => ?_, fun hk => ?_⟩
      · refine exec_live hl rfl ((dmaSegmentBoundary_moves harb reads.bad reads.errs hmoving).trans ?_)
        rw [if_neg (hkind ▸ hk)]
      · refine exec_live hl rfl ((dmaSegmentBoundary_moves harb reads.bad reads.errs hmoving).trans ?_)
        rw [if_pos (hkind.trans hk)]
  · intro hmove hasked hkind hlate
    refine ⟨fun l d1 hd1 => ?_, fun l => ?_⟩
    · refine exec_live hl rfl ((dmaReadCompletion_own hmove hasked hkind hlate).trans ?_)
      rw [hd1]
      rfl
    · exact dmaFault_outcome (hn n) (exec_live hl rfl (dmaReadCompletion_own (l := l) hmove hasked hkind hlate))
  · intro r l hlate
    refine exec_live hl rfl ?_
    unfold dmaReadCompletion
    rw [hlate]
  · rintro n lost own source rfl rfl rfl
    have hlen' : n.val < ((s.seen dt).lateExpired n.val).dma.length := Nat.lt_of_lt_of_eq (hn n) (Dev.modDma_length ..).symm
    exact ⟨fun hlost hown hsource => exec_live hl rfl (dmaReadTimeout_rest (hn n) hlost hown hsource),
      fun hdue => dmaFault_outcome hlen' (exec_live hl rfl (dmaReadTimeout_ownRead (hn n) hdue)),
      fun hown hflush hfetch hdue hkind =>
        dmaFault_outcome hlen' (exec_live hl rfl (dmaReadTimeout_source (hn n) hown hflush hfetch hdue hkind))⟩
  · intro hflush hlate
    have hown (ok : Bool) := dmaFlushComplete_own (ok := ok) hact hflush hlate
    refine ⟨dmaFault_outcome (hn n) (exec_live hl rfl (hown false)), fun hpos => exec_live hl rfl ((hown true).trans ?_),
      fun hpos => exec_live hl rfl ((hown true).trans ?_)⟩
    · exact if_pos hpos
    · exact if_neg hpos
  · intro hflush hfetch hpos hne
    have hend := dmaPassEnd_due hact hflush hfetch hpos hne
    refine ⟨exec_live hl rfl hend, fun harm hrep hchain => ?_⟩
    obtain ⟨e, he, hstate, hcause, hdone, hirq, hfull, hpass⟩ := Dev.passEnd_last (hn n) harm hrep hchain
    exact ⟨e, exec_live hl rfl (hend.trans he), hstate, hcause, hpos ▸ hdone, hirq, hfull, hpass⟩
  · intro hfetch hlate
    refine ⟨fun l => ?_, ?_⟩
    · obtain ⟨e, he, hstate, hstop, -⟩ := dmaFault_outcome (hn n)
        (exec_live (c := .dmaDescriptorFetch dt n l false) hl rfl ((dmaDescriptorFetch_own hact hfetch hlate).trans (if_pos (.inl rfl))))
      exact ⟨e, he, hstate, hstop⟩
    · rintro l b w hb hlen32 rfl
      replace hb : b = (s.seen dt).descBytes n.val l := hb
      subst hb
      refine ⟨fun hrule => ?_, fun hrule => ?_⟩
      · obtain ⟨e, he, hactive, hhops, hpass⟩ := dmaDescriptorFetch_loads hact hfetch hlate hlen32 hrule
        exact ⟨e, exec_live hl rfl he, hactive, hhops, hpass⟩
      · refine exec_live hl rfl ((dmaDescriptorFetch_own hact hfetch hlate).trans ?_)
        rw [if_neg (by simp [hlen32])]
        exact if_pos hrule
  · intro n st cause hstop hstate hat
    obtain ⟨hstate', hcause, hnone, hdone⟩ := Dev.dmaEnter_shows (hn n) st cause
    refine ⟨(s.seen dt).dmaEnter st cause n.val, exec_live hl rfl ?_, hstate', hcause, hnone, hdone⟩
    unfold dmaChannelStopped
    rw [hstop]
    exact if_pos ⟨hstate, hat⟩

end Sys2Proof.Machine
end
